-- ==== Sys2Proof/Word.lean ====
section
/-! DEFINITION. The words of the machine: registers are 32 bits (R9), memory is bytes, little-endian (R7). -/
namespace Sys2Proof

/-- A register word (R9). -/
abbrev W32 := BitVec 32

/-- A byte of storage. -/
abbrev Byte := BitVec 8

/-- A 64-bit quantity that spans two registers (R14). -/
abbrev W64 := BitVec 64

end Sys2Proof
end

