-- ==== Sys2Proof/Operand.lean ====
section
/-! DEFINITION. The types of the commands' operands: what arrives at the block's pins, links and buses, as plain data. -/
namespace Sys2Proof

/-- The two masters of the register space with latches of their own (R14): the host (BAR0, BAR4 and a host access that
the tunnel carries) and Kite. -/
inductive Master where
  | host
  | kite
  deriving DecidableEq, Repr

/-- How a read of host memory ends. -/
inductive ReadEnd where
  /-- Data arrived. -/
  | ok (data : List Byte)
  /-- Unsupported Request, Completer Abort or poisoned data. -/
  | failed
  deriving DecidableEq, Repr

/-- How a descriptor read ends (R267, Table 10-8). -/
inductive FetchEnd where
  /-- The slots read, 16 words each. For a Kite ring the model reads the bank itself. -/
  | slots (ds : List (List W32))
  /-- Unsupported Request, Completer Abort or poisoned data. -/
  | failed
  /-- Completion Timeout. -/
  | timeout
  /-- The tunnel answered with an error status. -/
  | tunnel
  /-- The host link was lost with the read outstanding (Table 10-11a). -/
  | linkLost
  deriving DecidableEq, Repr

/-- Configuration-space writes of the host that the block acts on (R253, R254, R273, R276). -/
inductive CfgWrite where
  | busMasterEnable (on : Bool)
  | d3hot (on : Bool)
  | msixEnable (on : Bool)
  | functionMask (on : Bool)
  | memorySpaceEnable (on : Bool)
  | relaxedOrdering (on : Bool)
  /-- Any other register of the configuration space. -/
  | other (off : Nat) (data : W32)
  deriving DecidableEq, Repr

/-- Why host requests stop (R276). -/
inductive LinkLoss where
  /-- The link left L0 for Detect or Disabled. -/
  | down
  /-- Bus Master Enable was cleared. -/
  | bmeOff
  /-- The function entered D3hot. -/
  | d3hot
  deriving DecidableEq, Repr

/-- A message of the chain by its type code (Table 13-3), source and destination addresses, payload words (without the type
code) and data. `toAll` as destination stands for FLOOD = 1, `toNext` for HOP = 1 (Table 12-7). -/
structure Msg where
  ty : Nat
  src : Nat
  dst : Nat
  w : List W32
  data : List Byte
  deriving DecidableEq, Repr

/-- A message with FLOOD = 1. -/
abbrev toAll : Nat := 64

/-- A message with HOP = 1. -/
abbrev toNext : Nat := 65

/-- Why a chain message is discarded on arrival (R334, R336). -/
inductive Damage where
  /-- The header cell fails. -/
  | header
  /-- The payload fails its PCRC. -/
  | payload
  /-- PCRC is the complement of the correct value. -/
  | stomp
  /-- LSEQ is later than expected. -/
  | later
  /-- LSEQ was already accepted. -/
  | duplicate
  deriving DecidableEq, Repr

/-- A burst that a master's shim had to complete (R121): the master code of Table 4-19, beats taken before the reset
and beats the shim completed, and whether it was a write. -/
structure Midburst where
  master : Nat
  taken : Nat
  rest : Nat
  write : Bool
  deriving DecidableEq, Repr

/-- The rails of Table 3-1 that can brown out. -/
inductive Rail where
  | vcc
  | vccaux
  | vccser
  | vccsera
  | vccio (n : Nat)
  deriving DecidableEq, Repr

/-- One access at a bank port in a turn (R232): the requester code of Table 4-19 (13 for the window master, 14 for
descriptor fetch, 15 for telemetry), the D-space address of the word, and the data and byte enables of a write. -/
structure BankAcc where
  master : Nat
  addr : Nat
  wdata : Option (List Byte)
  be : List Bool
  deriving DecidableEq, Repr

/-- What discovery reads of a serial flash (R172, R173): present with an SFDP table as R172 needs it, 64 KiB sectors, the
modes it advertises (a mask by mode code), the SFDP maximum clock of each mode in kHz, erase and program suspend, the first
byte of the JEDEC ID, and whether VCCIO0 is at 1.8 V. -/
structure Sfdp where
  present : Bool
  sectors : Nat
  modes : Nat
  khz : List Nat
  suspend : Bool
  mfr : Nat
  v18 : Bool
  deriving DecidableEq, Repr

/-- A push offered to a stream FIFO in the same turn: producer code (Table 15-1), 16 bytes, and tag. -/
structure PushIn where
  prod : Nat
  data : List Byte
  tag : Nat
  deriving DecidableEq, Repr

/-- The flags of a reader's request that the tag acts on (R505): the UID it is addressed to, if any; Select; Option; and whether its
length or format is bad. -/
structure TagReq where
  uid : Option W64
  select : Bool
  option : Bool
  bad : Bool
  deriving DecidableEq, Repr

end Sys2Proof
end

