-- ==== Sys2Proof/Syntax.lean ====
section
/-! DEFINITION. The commands the block takes, one constructor per row of spec/opcode_table.json, with the operands
that the row's rule names and the ones the environment settles (what arrives on a pin, a link or a bus). -/
namespace Sys2Proof

/-- The commands of the FZ-4810 (one constructor per row of the opcode table). -/
inductive Instr where
  /-- REG_WRITE (R11): A write to a register or field that has no row of its own stores its RW bits, clears W1C bits and sets W1S bits as the field types define. -/
  | regWrite (m : Master) (a : Fin 0x80000) (v : W32) (be : BitVec 4)
  /-- WIDE_LOW_READ (R14): A read of the low word of a 64-bit register pair latches the high word for the same master. -/
  | wideLowRead (m : Master) (a : Fin 0x80000)
  /-- WIDE_LOW_WRITE (R14): A write of the low word of a 64-bit register pair is held for the same master until the matching high-word write. -/
  | wideLowWrite (m : Master) (a : Fin 0x80000) (v : W32)
  /-- WIDE_HIGH_WRITE (R14): A write of the high word applies it together with any pending low word of the same master in one turn. -/
  | wideHighWrite (m : Master) (a : Fin 0x80000) (v : W32)
  /-- HOST_BAR4_READ (R255): A host read through a BAR4 aperture reaches D-space of this unit or is forwarded to a member. -/
  | hostBar4Read (x : Fin 0x1000000) (n : Fin 4097) (ans : List W32)
  /-- HOST_BAR4_WRITE (R255): A host write through a BAR4 aperture reaches D-space of this unit or is forwarded to a member. -/
  | hostBar4Write (x : Fin 0x1000000) (data : List Byte)
  /-- HOST_CONFIG_WRITE (R253): A host configuration-space write changes Bus Master Enable, D3hot, MSI-X enable or other configuration state. -/
  | hostConfigWrite (w : CfgWrite)
  /-- HOST_READ_COMPLETION (R25): A PCI Express completion for a device-issued host memory read arrives and delivers its data. -/
  | hostReadCompletion (id : Nat) (e : ReadEnd)
  /-- HOST_COMPLETION_TIMEOUT (R251): A device-issued host read is not answered within the Completion Timeout and ends in error. -/
  | hostCompletionTimeout (id : Nat)
  /-- WINDOW_READ_TIMEOUT (R256): A remote aperture read not answered within WIN_TO completes with Completer Abort and TIMEOUT increments. -/
  | windowReadTimeout (wtag : Fin 256)
  /-- HOST_LINK_UP (R276): The host link returns to L0 with Bus Master Enable set, releasing held records and making the unit head-capable. -/
  | hostLinkUp (speed : Fin 4) (width : Fin 8)
  /-- HOST_LINK_LOSS (R276): The host link leaves L0, or BME clears or D3hot is entered, and host-owned contexts follow LINK_POLICY. -/
  | hostLinkLoss (why : LinkLoss)
  /-- PERST_FALL (R277): PERST_N falls and resets domain D0 with a zero-drain fence. -/
  | perstFall
  /-- PERST_RISE (R277): PERST_N rises, ending the D0 reset level so the link can train again. -/
  | perstRise
  /-- MSIX_UNMASK (R273): An MSI-X vector is unmasked and its pending message is sent. -/
  | msixUnmask (v : Fin 1056)
  /-- MOD_TIME_EXPIRY (R274): The moderation time of a pending context interrupt expires and the vector's message is sent. -/
  | modTimeExpiry (c : Fin 1024)
  /-- DISPATCH (R269): The scheduler picks a ready context by class and weight and the dispatch gate makes its checks and issues the operation. -/
  | dispatch
  /-- RETURN_ACCEPTED (R23): A target's return is accepted at the gate, stamped, credited to the ledger and its completion record written. -/
  | returnAccepted (tag : Nat) (d : Fin 24) (opcode : Nat)
  /-- FENCE_TIMEOUT (R295): FENCE_TO expires on a held descriptor, which is refused with FENCE_TIMEOUT. -/
  | fenceTimeout (c : Fin 1024)
  /-- FETCH (R267): The fetcher issues a read of up to 8 submission slots of an ACTIVE context while the fetch condition holds. -/
  | fetch (c : Fin 1024) (n : Nat)
  /-- FETCH_COMPLETE (R267): A descriptor read completes; its descriptors are staged and SQ_CI advances. -/
  | fetchComplete (c : Fin 1024) (e : FetchEnd)
  /-- DOORBELL_SQ_PI (R265): A new submission producer index is written through BAR2 or HIF_CTX_DB and is checked and recorded. -/
  | doorbellSqPi (m : Master) (bar2 : Bool) (c : Fin 1024) (idx : Nat)
  /-- DOORBELL_CQ_CI (R265): A new completion consumer index is written through BAR2 or HIF_CTX_DB, releasing completion slots. -/
  | doorbellCqCi (m : Master) (bar2 : Bool) (c : Fin 1024) (idx : Nat)
  /-- CONTEXT_ENABLE (R261): EN written to 1 in CTX_CTL runs the enable checks and makes the context ACTIVE or refuses it. -/
  | contextEnable (m : Master) (c : Fin 1024)
  /-- CONTEXT_DISABLE (R259): EN written to 0 in CTX_CTL sends an ACTIVE or ERROR context to DRAINING. -/
  | contextDisable (m : Master) (c : Fin 1024)
  /-- LEDGER_AUDIT (R301): An audit falls due, holds dispatch for the hold and snapshot turns and latches every book. -/
  | ledgerAudit (chain : List Nat)
  /-- AUDIT_COMPARE_DONE (R302): The background comparison of an audit ends, excluding fenced domains and declaring faults. -/
  | auditCompareDone
  /-- AUDIT_CHAIN_RELOOK (R302): 2 µs after an unbalanced chain book it is latched again and a fault is declared only if still unbalanced. -/
  | auditChainRelook (idx : Fin 8) (counted : Nat)
  /-- LDG_RELEASE (R305): A write of KEY 0x51A7 releases the ledger, rebooks the books and unfreezes the contexts. -/
  | ldgRelease (key : Nat)
  /-- LDG_BUF_LEND (R300): A write sets the lendable granules, or is ignored with LEND_DENIED while bank credits are lent. -/
  | ldgBufLend (first last : Nat)
  /-- LDG_CTL_WRITE (R306): A write changing PERIOD or enabling audits restarts the audit schedule. -/
  | ldgCtlWrite (data : W32)
  /-- NOP (R294): NOP goes to the gate's null target and returns at once. -/
  | nop (tag : Nat)
  /-- FENCE (R294): FENCE is held until earlier operations return, then returns in the next turn. -/
  | fence (tag us : Nat)
  /-- COPY (R283): A DMA mover copies LENGTH bytes from SRC to DST in ascending order. -/
  | copy (tag : Nat)
  /-- FILL (R283): A DMA mover fills LENGTH bytes at DST with the 16-byte pattern. -/
  | fill (tag : Nat)
  /-- VBU_TX (R427): A CAN or LIN frame is checked and placed in a TX buffer, commander queue or responder table. -/
  | vbuTx (tag : Nat) (h : ReadEnd)
  /-- VBU_RX_ARM (R435): A receive filter slot is armed for a FIFO and its frames are written to DST until an end event. -/
  | vbuRxArm (tag : Nat)
  /-- VBU_CTRL_START (R421): START checks bit timing and moves a CAN controller from OFF to INTEGRATING. -/
  | vbuCtrlStart (tag : Nat)
  /-- VBU_CTRL_STOP (R422): STOP lets the current frame finish, moves the controller to OFF and ends its operations and slots. -/
  | vbuCtrlStop (tag : Nat) (receiving : Bool)
  /-- VBU_CTRL_RECOVER (R430): RECOVER starts bus-off recovery and completes when the controller reaches ACTIVE. -/
  | vbuCtrlRecover (tag : Nat)
  /-- VBU_CTRL_ABORT_TX (R427): ABORT_TX frees the PENDING or HELD buffers in its mask and ends their VBU_TX. -/
  | vbuCtrlAbortTx (tag : Nat)
  /-- VBU_CTRL_STATUS (R449): STATUS returns the channel's state and counter registers. -/
  | vbuCtrlStatus (tag : Nat)
  /-- VBU_CTRL_WRITE_REGS (R449): WRITE_REGS writes consecutive registers of the channel block. -/
  | vbuCtrlWriteRegs (tag : Nat)
  /-- HAR_SCAN (R384): Harrier checks the scan body, copies the net map and starts a scan. -/
  | harScan (tag : Nat) (reread : Bool)
  /-- HAR_NETMAP_LOAD (R394): A net map is moved into BANK2 or BANK3 with its REP bits recomputed. -/
  | harNetmapLoad (tag : Nat) (h : ReadEnd)
  /-- OSP_TX (R472): Osprey checks the profile and queues a frame for REPEAT transmissions. -/
  | ospTx (tag : Nat) (h : ReadEnd)
  /-- OSP_RX (R470): Osprey checks the profile and FIFO and queues a receive operation. -/
  | ospRx (tag : Nat)
  /-- FAB_CALL (R78): The descriptor body is delivered to a fabric socket's slave port as a three-beat call. -/
  | fabCall (tag : Nat)
  /-- NVA_PROG (R225): Programs a range of the NV array by page and line commands in ascending order. -/
  | nvaProg (tag : Nat) (h : ReadEnd)
  /-- NVA_ERASE (R225): Erases count consecutive sectors or blocks of the NV array. -/
  | nvaErase (tag : Nat)
  /-- NVA_READ (R225): Reads the NV array through the NVW arbiter into a destination. -/
  | nvaRead (tag : Nat) (corr : List Nat) (bad : Option Nat)
  /-- TBU_STAMP_READ (R494): Returns the time, state and last offset of the timebase. -/
  | tbuStampRead (tag : Nat)
  /-- TBU_STAMP_SET (R494): Loads a new time in one turn and counts it as a step. -/
  | tbuStampSet (tag : Nat)
  /-- TBU_STAMP_SLEW (R494): Slews the time by a signed offset at up to 50 ppm. -/
  | tbuStampSlew (tag : Nat)
  /-- CFG_STAGE (R156): Checks target, wear and header, clears VALID and begins erasing the inactive plane. -/
  | cfgStage (tag : Nat) (hdr : ReadEnd)
  /-- CFG_HANDOVER (R161): Checks the plane and fences D11 and the retained banks to switch the fabric to the other plane. -/
  | cfgHandover (tag : Nat)
  /-- DEP_WRITE_IMAGE (R184): Writes an image or chain image into an image slot of the depot. -/
  | depWriteImage (tag : Nat) (got : ReadEnd)
  /-- DEP_WRITE_DATA (R184): Rewrites sectors of a DATA slot by read, merge, erase, program and verify. -/
  | depWriteData (tag : Nat) (got : ReadEnd)
  /-- DEP_WRITE_SLOT (R184): Defines or empties a depot slot entry. -/
  | depWriteSlot (tag : Nat)
  /-- DEP_WRITE_FORMAT (R180): Writes the default directory after erasing sectors 0 and 1. -/
  | depWriteFormat (tag : Nat)
  /-- DEP_READ_SLOT (R186): Reads a slot at an offset, through the scrambler for KIND 5. -/
  | depReadSlot (tag : Nat)
  /-- DEP_READ_RAW (R186): Reads raw flash addresses without skip mapping or scrambler. -/
  | depReadRaw (tag : Nat)
  /-- DEP_READ_DIRECTORY (R186): Returns the directory copy in use. -/
  | depReadDirectory (tag : Nat)
  /-- TAG_READ (R516): Reads committed tag blocks page by page into a buffer. -/
  | tagRead (tag : Nat)
  /-- TAG_WRITE (R516): Writes tag blocks through shadow pages, checking locks per page. -/
  | tagWrite (tag : Nat) (h : ReadEnd)
  /-- BNK_MARCH (R249): The bank service runs a destructive or preserving March K-12 on a bank. -/
  | bnkMarch (tag : Nat)
  /-- BNK_POWER (R249): The bank service moves a bank to ON, RETAIN or OFF. -/
  | bnkPower (tag : Nat)
  /-- BST_RUN (R573): The BIST service checks a run request and queues it for its target domain. -/
  | bstRun (tag : Nat)
  /-- TRIM_WINDOW_DUE (R52): A background trim window falls due every PERIOD ms and starts unless trim_defer holds it. -/
  | trimWindowDue (defer : Bool)
  /-- TRIM_DEFER_FALL (R54): trim_defer falls and a deferred trim window starts. -/
  | trimDeferFall
  /-- TRIM_MAXDEFER_EXPIRY (R54): MAXDEFER expires on a deferred window, which runs anyway and FORCED increments. -/
  | trimMaxdeferExpiry
  /-- TRIM_STEP (R53): A trim step stalls its region for up to 40 ns and moves its tap setting by at most one tap. -/
  | trimStep (r : Fin 16) (d : Fin 3)
  /-- DRIFT_ALERT (R55): A region's drift monitor reaches 2 %, sets its alert bit and calls an immediate trim step. -/
  | driftAlert (r : Fin 16) (d : Fin 3) (below1 : Bool)
  /-- ALERT_TRIM_STEP (R55): An alert trim step repeats at 1 µs spacing until drift is below 1 %. -/
  | alertTrimStep (r : Fin 16) (d : Fin 3) (below1 : Bool)
  /-- PACE_GATE_END (R58): A 100 µs pace gate ends and each region's NOW and MIN are updated. -/
  | paceGateEnd (counts : List Nat)
  /-- FAB_PACE_CLR (R58): Writing 1 to a bit restarts MIN of that region at 0xFFF. -/
  | fabPaceClr (mask : BitVec 16)
  /-- FAB_GATE_OVF_CLEAR (R67): Writing CLEAR sets the ignored-gate-write count and island to 0. -/
  | fabGateOvfClear
  /-- ISLAND_LOSS_OF_LOCK (R71): A user island's clock loses lock or stops; its lock state and isl_lock fall and its clock is gated off. -/
  | islandLossOfLock (n : Fin 25)
  /-- ISLAND_RELOCK (R71): A user island's clock relocks and the island resumes with no item lost. -/
  | islandRelock (n : Fin 25)
  /-- GATE_CLOCK_WRITE (R65): An item is written into an island gate on its clock side. -/
  | gateClockWrite (n : Fin 11) (g : Fin 4) (v : BitVec 128) (full : Bool)
  /-- GATE_HANDSHAKE_POP (R65): An item leaves an island gate on its handshake side. -/
  | gateHandshakePop (n : Fin 11) (g : Fin 4)
  /-- STATIC_INPUT_CHANGE (R72): A static input level held 20 ns reaches the fabric through the arbitrated synchroniser. -/
  | staticInputChange (b : Fin 8) (pin : Nat) (level : Bool)
  /-- SOCKET_BURST (R74): A fabric socket master issues a burst of 1 to 16 beats to D-space. -/
  | socketBurst (k : Fin 32) (addr : Nat) (len : Fin 16) (write : Bool) (beats : List (List Byte × List Bool))
  /-- FAB_WINDOW_ACCESS (R77): A register access to a socket's window is delivered to its slave port. -/
  | fabWindowAccess (k : Fin 32) (off : Fin 0x10000) (w ans : Option W32)
  /-- FAB_WINDOW_TIMEOUT (R77): A window access not answered within 100 µs returns 0xFFFF_FFFF or is dropped and ERRS increments. -/
  | fabWindowTimeout (k : Fin 32)
  /-- FAB_CALL_ANSWER (R78): The personality answers a call with s_status and s_result, which become the completion. -/
  | fabCallAnswer (tag status : Nat) (r0 r1 : W32)
  /-- POWER_ON_RESET (R109): VCCOWL rises and resets everything, including the Owl registers and the event log. -/
  | powerOnReset
  /-- POWER_GOOD_EVENT (R84): The last required rail crosses its rising threshold with RST_N high. -/
  | powerGoodEvent
  /-- S0_COMPLETE (R87): 200 µs after power good the Owl samples HEAD_EN and CFGSRC and the unit self-grants or waits. -/
  | s0Complete (headEn : Bool) (cfgsrc : Fin 4) (testEn : Bool)
  /-- PWRGRANT_IN_HIGH (R93): PWRGRANT_IN held high for 10 µs grants a waiting unit and S1 begins. -/
  | pwrgrantInHigh
  /-- GRANT_TIMEOUT (R96): A unit waiting in S0 for TIMEOUT × 10 ms begins S1 without a grant and sets GRANT_TO. -/
  | grantTimeout
  /-- MGMT_GROUP_POWERED (R90): The management group is powered in S1 and readout of the configuration source begins. -/
  | mgmtGroupPowered
  /-- S2_BANK_POWERED (R87): A bank leaves OFF in S2 and the next bank, or S3, follows. -/
  | s2BankPowered
  /-- S3_GROUP_POWERED (R87): An S3 group is powered and its domains are released. -/
  | s3GroupPowered
  /-- S4_WAVE_DONE (R87): A fabric wave is powered and trimmed and the next wave or the start-up sequence follows. -/
  | s4WaveDone
  /-- GRANT_POINT (R95): At the later of the POINT stage and 750 µs after S1 the unit drives PWRGRANT_OUT high. -/
  | grantPoint
  /-- BROWN_OUT_VCC (R85): VCC or VCCAUX brown-out loses every domain except the Owl island and holds the unit in S0. -/
  | brownOutVcc (aux : Bool)
  /-- BROWN_OUT_VCCOWL (R85): Loss of VCCOWL puts the unit in OFF and loses the Owl registers. -/
  | brownOutVccowl
  /-- BROWN_OUT_SER (R85): VCCSER or VCCSERA brown-out drops the PCI Express link and both chain ports. -/
  | brownOutSer (sera : Bool)
  /-- BROWN_OUT_IO (R85): A VCCIO brown-out leaves the bank's outputs undefined and its inputs ignored. -/
  | brownOutIo (n : Fin 8)
  /-- RAIL_RETURN (R85): A browned-out rail returns and staged start, link retraining or bank service resumes. -/
  | railReturn (r : Rail)
  /-- RST_N_FALL (R109): RST_N falls and resets all domains and base logic at once with no fence. -/
  | rstNFall (torn : List (Fin 524288))
  /-- RST_N_RISE (R99): RST_N rises and the unit restarts as after power good. -/
  | rstNRise
  /-- PWR_CTL_IDLE (R99): TARGET written to IDLE fences the fabric and begins IDLE entry. -/
  | pwrCtlIdle
  /-- PWR_CTL_RUN (R99): TARGET written to RUN begins IDLE exit with S4 waves and the start-up steps. -/
  | pwrCtlRun
  /-- IDLE_ENTRY_DONE (R99): The fabric regions are powered down and the unit is in IDLE. -/
  | idleEntryDone
  /-- IDLE_EXIT_DONE (R99): IDLE exit completes and the unit is in RUN. -/
  | idleExitDone
  /-- SLEEP_ENTRY (R362): 100 µs after SLEEP_COMMIT every domain but the Owl island is fenced and powered down. -/
  | sleepEntry
  /-- SLEEP_ENTRY_DONE (R99): SLEEP entry completes; a wake latched meanwhile starts the exit at once. -/
  | sleepEntryDone
  /-- WAKE_IN_PIN (R103): WAKE_IN_N held low 10 µs in SLEEP is latched as a wake source. -/
  | wakeInPin
  /-- WAKE_TIMER_EXPIRY (R103): The Owl wake timer expires in SLEEP and wakes the unit. -/
  | wakeTimerExpiry
  /-- WAKE_PERST (R104): A rising edge of PERST_N sensed by the Owl wakes the unit from SLEEP. -/
  | wakePerst
  /-- RST_DOM_REQ (R113): Writing 1 to a domain bit resets that domain through the quiesce fence. -/
  | rstDomReq (m : Master) (mask : BitVec 24)
  /-- RST_DOM_HOLD (R113): A write sets or releases a software hold that keeps a domain fenced. -/
  | rstDomHold (m : Master) (mask : BitVec 24)
  /-- DRAIN_END (R113): The drain window ends at RST_DRAIN or when nothing is inside the domain. -/
  | drainEnd (d : Fin 24)
  /-- ABORTS_POSTED (R113): At the next burst boundary every operation and access still inside is aborted and credited. -/
  | abortsPosted (d : Fin 24) (accs : List Nat)
  /-- RESET_ASSERT (R120): The holder resets the fenced domain after the aborts are posted. -/
  | resetAssert (d : Fin 24) (mids : List Midburst)
  /-- RESET_RELEASE (R120): The domain reset is released 1 to 2 µs after it was asserted. -/
  | resetRelease (d : Fin 24)
  /-- DOMAIN_READY (R107): A domain reports ready and its fence reopens once every holder has released it. -/
  | domainReady (d : Fin 24)
  /-- READY_TIMEOUT (R119): A domain not ready 10 ms after its Latest ready time stays fenced, sets RDYTO and is logged. -/
  | readyTimeout (d : Fin 24)
  /-- RST_UNIT (R110): Writing KEY 0xC0DE starts a warm unit reset with one fence and one set of aborts. -/
  | rstUnit (m : Master) (key : Nat)
  /-- WATCHDOG_EXPIRY (R552): The Kite watchdog expires and resets D20 with zero drain. -/
  | watchdogExpiry
  /-- BOOT_SOURCE_FAIL (R147): A configuration source fails a check; its cells are cleared and the next boot source is tried. -/
  | bootSourceFail
  /-- BOOT_READOUT_DONE (R148): A boot source passes every check and the unit is configured from it. -/
  | bootReadoutDone (glob : Nat)
  /-- STARTUP_STEP_DONE (R152): A start-up step IO, GSR or WE completes and its DELAY begins. -/
  | startupStepDone
  /-- STARTUP_DELAY_EXPIRY (R152): A start-up step's DELAY ends and the next step begins, or D11 becomes ready. -/
  | startupDelayExpiry
  /-- STARTUP_LOCK_DONE (R153): Every clock that LOCK waits for is locked and the LOCK step completes. -/
  | startupLockDone
  /-- STARTUP_LOCK_TIMEOUT (R153): The LOCK timeout expires; unlocked islands are recorded and LOCK_TO is set. -/
  | startupLockTimeout (missing : Nat)
  /-- CFG_STAGE_ERASE_DONE (R158): The plane erase of a stage completes and programming begins. -/
  | cfgStageEraseDone
  /-- CFG_STAGE_FRAME (R156): A frame arrives from the stage source, is checked and programmed. -/
  | cfgStageFrame (got : ReadEnd)
  /-- CFG_STAGE_READBACK_DONE (R156): The plane read-back matches the seal, VALID is set and the stage completes. -/
  | cfgStageReadbackDone (ok : Bool)
  /-- HANDOVER_READOUT_DONE (R161): The readout of the new plane in a handover completes and the regions come up. -/
  | handoverReadoutDone (glob : Nat)
  /-- CFG_BOOT_SEL (R165): A write with KEY 0x0B5E moves the BOOT mark to a VALID plane, or sets SEL_ERR. -/
  | cfgBootSel (key : Nat) (plane : Fin 2)
  /-- DEPOT_DISCOVERY (R173): Flash discovery completes; the mode, clock and directory copy are chosen. -/
  | depotDiscovery (x : Sfdp)
  /-- FLASH_READ_DONE (R181): A depot flash read completes; frames are checked and re-read up to 3 times on failure. -/
  | flashReadDone (got : Option (List Byte))
  /-- FLASH_ERASE_DONE (R183): A flash sector erase completes or fails. -/
  | flashEraseDone (ok : Bool)
  /-- FLASH_PROGRAM_DONE (R183): A flash page program completes and is verified. -/
  | flashProgramDone (ok : Bool)
  /-- DEPOT_SCRUB_DUE (R188): The paced depot scrub reads its next frame or line and refreshes weak sectors. -/
  | depotScrubDue
  /-- IMAGE_REQ (R191): A waiting unit's image request reaches the head and is answered with REQ_ACK. -/
  | imageReq (m : Msg)
  /-- IMAGE_REQ_RETRY (R190): No REQ_ACK 1 ms after IMAGE_REQ, so the request is sent again or the chain try ends. -/
  | imageReqRetry
  /-- REQ_ACK (R191): A waiting unit receives the head's acknowledgement of pending image requests. -/
  | reqAck (m : Msg)
  /-- REQ_ACK_REPEAT (R191): Every 100 ms with requests pending the head floods REQ_ACK again. -/
  | reqAckRepeat
  /-- LOAD_ROUND_START (R191): With a request pending and the depot free, the head begins a load round. -/
  | loadRoundStart
  /-- ROUND_BEGIN (R191): A unit receives ROUND_BEGIN and joins the round if it is waiting. -/
  | roundBegin (m : Msg)
  /-- CHUNK (R194): A chunk of the chain image is received, checked and filtered onward. -/
  | chunk (m : Msg)
  /-- CHUNK_ACK (R194): A chunk acknowledgement frees the sender's held chunks. -/
  | chunkAck (m : Msg)
  /-- RESEND (R194): A resend request makes the sender send again from the named SEQ. -/
  | resend (m : Msg)
  /-- ROUND_END (R193): A round ends and a unit that took an image finishes configuring from it. -/
  | roundEnd (m : Msg)
  /-- ROUND_ABORT (R195): A round is aborted with a reason and the chain try ends. -/
  | roundAbort (m : Msg)
  /-- CHAIN_TRY_TIMEOUT (R190): No frame lock within 10 ms or no REQ_ACK or ROUND_BEGIN for 300 ms ends a chain try. -/
  | chainTryTimeout (lock : Bool)
  /-- NVA_KEY (R207): A key write advances, fixes the owner of, or breaks the NV command sequence. -/
  | nvaKey (m : Master) (data : W32)
  /-- NVA_CMD (R207): An opcode write in OPEN arms the NV command sequence. -/
  | nvaCmd (m : Master) (data : W32)
  /-- NVA_SEQ_LAPSE (R207): 1 ms without a trigger returns the sequence to LOCKED with CMD_ERR = KEY. -/
  | nvaSeqLapse
  /-- PROGRAM_LINE (R208): Programs NVA_DATA0–3 into one line and verifies it. -/
  | programLine (m : Master) (data : W32)
  /-- PROGRAM_PAGE (R208): A mover loads 256 bytes into the page latch and each line is checked, programmed and verified. -/
  | programPage (m : Master) (addr : W32)
  /-- ERASE_SECTOR (R208): Erases and verifies one 4 KiB sector. -/
  | eraseSector (m : Master) (addr : W32)
  /-- ERASE_BLOCK (R208): Erases and verifies one 64 KiB block. -/
  | eraseBlock (m : Master) (addr : W32)
  /-- SUSPEND (R219): Suspends the running NV operation until RESUME. -/
  | suspend (m : Master) (addr : W32)
  /-- RESUME (R219): Resumes an operation suspended by SUSPEND. -/
  | resume (m : Master) (addr : W32)
  /-- READ_COUNTER (R208): Returns a block's erase counter and incomplete-sector mask. -/
  | readCounter (m : Master) (addr : W32)
  /-- NVA_PAGE_LATCH_LOADED (R208): The page source read for PROGRAM_PAGE completes and line programming begins. -/
  | nvaPageLatchLoaded
  /-- NVA_PROGRAM_DONE (R223): A program completes with verify or VERIFY error. -/
  | nvaProgramDone (badLine : Option (Fin 16))
  /-- NVA_ERASE_PULSE (R220): A 250 µs erase pulse completes and the erase advances. -/
  | nvaErasePulse
  /-- NVA_ERASE_DONE (R223): An erase completes its pulses and verify. -/
  | nvaEraseDone (ok : Bool)
  /-- NVA_SUSPEND_EFFECT (R219): A requested suspend takes effect, after any guard pulses. -/
  | nvaSuspendEffect (cut : Bool)
  /-- NVA_AUTO_RESUME (R219): 2 µs with no read of the block waiting, an auto-suspended operation resumes. -/
  | nvaAutoResume
  /-- NV_LINE_READ (R204): The NVW arbiter grants a line read and returns data as Table 8-2 states. -/
  | nvLineRead (m : Nat) (line : Fin 524288) (err : Nat) (fetch yields : Bool)
  /-- NV_SCRUB_MARGIN_READ (R226): The paced NV scrub makes a margin read of its next line. -/
  | nvScrubMarginRead (weak : Bool)
  /-- NV_SCRUB_REFRESH (R226): A weak line is reprogrammed in place while the engine is IDLE. -/
  | nvScrubRefresh
  /-- NV_SCRUB_STARVE (R228): After 10 ms without service the scrub takes one line turn or refresh. -/
  | nvScrubStarve (refresh weak : Bool)
  /-- NVA_WP_SET (R212): Writing 1 sets sector write-protect bits. -/
  | nvaWpSet (idx : Fin 64) (data : W32)
  /-- NVA_WP_CLR (R212): Writing 1 clears write-protect bits unless LOCK is set. -/
  | nvaWpClr (idx : Fin 64) (data : W32)
  /-- NVA_WP_LOCK (R212): Writing 1 locks the write-protect bits against clearing until the next start. -/
  | nvaWpLock
  /-- BANK_ACCESS (R233): A bank arbiter grants port accesses of a turn by mode and slice. -/
  | bankAccess (n : Fin 8) (a b : Option BankAcc) (aFirst : Bool)
  /-- ALIAS_WRITE (R240): A write through the set or clear alias is an atomic read-modify-write under a word lock. -/
  | aliasWrite (clear : Bool) (addr : Fin 0x800000) (data : List Byte) (be : List Bool) (waits : Nat)
  /-- BANK_POWER_STEP_DONE (R239): A bank power step completes and the bank reaches ON, RETAIN or OFF. -/
  | bankPowerStepDone (n : Fin 8) (us : Nat)
  /-- MARCH_DONE (R246): A march ends and writes its results, FAULT and alarm. -/
  | marchDone (n : Fin 8) (faults element addr : Nat) (bits : List W32) (shadow : Bool)
  /-- BNK_FUSE_PROG (R248): A write with KEY 0x7E5A blows a spare-column fuse entry, or is ignored with FUSE_DENIED. -/
  | bnkFuseProg (n e slice : Fin 8) (bitPos : Fin 128) (key : Nat)
  /-- FUSE_BLOW_DONE (R248): Fuse blowing completes and FUSE_DONE is set. -/
  | fuseBlowDone (n : Fin 8)
  /-- LANE_BLOCK_LOCK (R315): 64 valid headers at one offset give a chain lane block lock. -/
  | laneBlockLock (p lane : Fin 2) (slips : Nat)
  /-- LANE_BLOCK_LOCK_LOST (R315): 16 invalid headers in 64 blocks lose block lock. -/
  | laneBlockLockLost (p lane : Fin 2) (bad : Nat) (fwd : Option Msg)
  /-- LANE_FRAME_LOCK (R315): Four sync blocks at 64-block spacing give frame lock. -/
  | laneFrameLock (p lane : Fin 2) (inverted : Bool) (skew : Nat)
  /-- LANE_FRAME_LOCK_LOST (R315): Three failed frames lose frame lock. -/
  | laneFrameLockLost (p lane : Fin 2) (fwd : Option Msg)
  /-- TRAIN (R323): A TRAIN control block gives the partner's lane, role, receive state and PARAM_OK. -/
  | train (p rx lane role : Fin 2) (rxState : Fin 8) (paramOk : Bool) (version : Fin 32)
  /-- CAP (R323): A CAP control block records the partner's receive capacity for a lane. -/
  | cap (p : Fin 2) (vl : Fin 4) (cells : Fin 4096)
  /-- KEY_BLOCK (R324): A KEY0–KEY10 control block delivers part of the link key. -/
  | keyBlock (p : Fin 2) (n : Fin 11) (value : Fin 4096)
  /-- KEY_ACK (R324): The key check is received; if it matches the DOWN side sends LINK_UP and enters UP. -/
  | keyAck (p : Fin 2) (value : Fin 4096)
  /-- LINK_UP (R324): LINK_UP is received and the UP side installs the key and enters UP. -/
  | linkUp (p : Fin 2)
  /-- TRAIN_TIMEOUT (R319): A training stage times out and the port returns to BLOCK with FAIL set. -/
  | trainTimeout (p : Fin 2)
  /-- CHN_PORT_EN (R319): Writing EN enables or disables a chain port's training. -/
  | chnPortEn (p : Fin 2) (en : Bool)
  /-- CHN_RETRAIN (R319): Writing RETRAIN takes the port out of UP and trains again. -/
  | chnRetrain (p : Fin 2)
  /-- CHN_PRBS (R319): Writing TX_EN or CHK_EN enters or leaves PRBS31 mode. -/
  | chnPrbs (p : Fin 2) (tx chk : Bool) (err0 err1 : Nat)
  /-- CREDIT (R331): A CREDIT block returns freed cells of a virtual lane to the sender. -/
  | credit (p : Fin 2) (vl : Fin 4) (value : Fin 4096)
  /-- CSYNC (R332): A CSYNC block resets the receiver's freed count against the sender's sent count. -/
  | csync (p : Fin 2) (vl : Fin 4) (value : Fin 4096)
  /-- ACK (R334): An ACK frees acknowledged messages from the replay buffer. -/
  | ack (p : Fin 2) (seq : Fin 4096)
  /-- NAK (R335): A NAK makes the sender replay from the named LSEQ. -/
  | nak (p : Fin 2) (seq : Fin 4096)
  /-- CREDIT_RETURN_DUE (R331): Credit return falls due by count or timer and a CREDIT block is sent. -/
  | creditReturnDue (p : Fin 2) (vl : Fin 4)
  /-- CSYNC_DUE (R332): The 1 µs CSYNC period expires and a CSYNC block is sent per lane. -/
  | csyncDue (p : Fin 2)
  /-- ACK_DUE (R334): 8 accepted messages or 500 ns since acceptance make an ACK due. -/
  | ackDue (p : Fin 2)
  /-- REPLAY_TIMER (R335): 4 µs without an ACK advancing replays from the oldest message. -/
  | replayTimer (p : Fin 2)
  /-- MESSAGE_DAMAGED (R334): A message with a failed header or payload, or out of order, is discarded and NAKed. -/
  | messageDamaged (p : Fin 2) (why : Damage) (vl : Fin 4) (cells : Nat) (fwd : Option Msg)
  /-- MESSAGE_FORWARD (R346): A message not taken is forwarded cut-through out of the other port, or discarded as NOROUTE. -/
  | messageForward (p : Fin 2) (m : Msg)
  /-- QUIET (R362): QUIET blocks from the partner mark the coming link exit as sleep, not a break. -/
  | quiet (p : Fin 2)
  /-- BECOME_CANDIDATE (R341): A unit with HEAD_EN and its host link in L0 becomes a candidate and sends BEACON. -/
  | becomeCandidate
  /-- BEACON (R342): A BEACON is received; the candidate yields, answers, or the head answers with IS_HEAD. -/
  | beacon (p : Fin 2) (m : Msg)
  /-- BEACON_BACKOFF_EXPIRY (R342): A candidate's random backoff expires and it sends its BEACON again. -/
  | beaconBackoffExpiry
  /-- ELECTION_WIN (R341): 200 µs after its last BEACON with no higher heard, a candidate becomes head and starts a walk. -/
  | electionWin
  /-- WALK (R348): Writing WALK in ENU_CTL starts a full walk from the head. -/
  | walk
  /-- PARTIAL_WALK (R348): A DOWN port entering UP with AUTO_WALK set starts a partial walk from that unit. -/
  | partialWalk (a : Fin 64)
  /-- WALK_START (R348): A unit receives WALK_START and sends TOKEN out of its DOWN port. -/
  | walkStart (p : Fin 2) (m : Msg)
  /-- TOKEN (R348): A unit receives the walk token, records its hop and sends JOIN. -/
  | token (m : Msg)
  /-- JOIN (R349): The head receives JOIN, assigns an address from its table and floods ADDR_ASSIGN. -/
  | join (p : Fin 2) (m : Msg)
  /-- ADDR_ASSIGN (R348): The matching die takes its address and passes the token on or sends TOKEN_END. -/
  | addrAssign (m : Msg)
  /-- TOKEN_END (R348): The head receives TOKEN_END, ends the walk and floods TOPO_UPDATE. -/
  | tokenEnd (p : Fin 2) (m : Msg)
  /-- WALK_TIMEOUT (R348): 1 ms after the last walk message the walk ends with WALK_TIMEOUT. -/
  | walkTimeout
  /-- TOPO_BREAK (R352): The head receives a break report, clears REACH beyond it and floods TOPO_UPDATE. -/
  | topoBreak (p : Fin 2) (m : Msg)
  /-- TOPO_UPDATE (R352): A unit applies reachability, host link and policy and ends work for unreachable units. -/
  | topoUpdate (m : Msg)
  /-- RESET_CMD (R359): A unit takes a chain reset command and performs a warm unit reset, or ignores and logs it. -/
  | resetCmd (p : Fin 2) (m : Msg)
  /-- DEV_EVT (R358): The head receives a member's device event and sets HIF_DEV_PEND and the member's bit. -/
  | devEvt (p : Fin 2) (m : Msg)
  /-- TUN_RD_REQ (R354): The head receives a member's tunnel read and issues it to PCI Express. -/
  | tunRdReq (p : Fin 2) (m : Msg)
  /-- TUN_WR (R354): The head receives a member's tunnel write and issues it to host memory in order. -/
  | tunWr (p : Fin 2) (m : Msg)
  /-- TUN_INT (R354): The head receives a member's interrupt and sends its vector after the earlier writes. -/
  | tunInt (p : Fin 2) (m : Msg)
  /-- TUN_RD_CPL (R354): A member receives tunnel read data or an error status for its request. -/
  | tunRdCpl (p : Fin 2) (m : Msg)
  /-- RMT_OP (R356): A target unit receives a remote operation and checks and dispatches it through its own gate. -/
  | rmtOp (p : Fin 2) (m : Msg)
  /-- RMT_DONE (R356): The origin receives the remote record and writes it to the fetching context's ring. -/
  | rmtDone (p : Fin 2) (m : Msg)
  /-- WIN_RD (R357): A member makes a forwarded aperture read and answers with WIN_CPL. -/
  | winRd (p : Fin 2) (m : Msg) (ans : List W32)
  /-- WIN_WR (R357): A member makes a forwarded aperture write. -/
  | winWr (p : Fin 2) (m : Msg)
  /-- WIN_CPL (R357): The head completes the host's aperture read, or aborts it if REFUSED. -/
  | winCpl (p : Fin 2) (m : Msg)
  /-- ENU_RST_CMD (R359): Writing KEY 0xC0DE sends a chain reset command to one unit or all downstream. -/
  | enuRstCmd (dst : Fin 64) (all : Bool) (key : Nat)
  /-- ENU_TAB_WRITE (R350): A write to an address table entry binds or releases a die, or is ignored with TAB_DENIED. -/
  | enuTabWrite (m : Master) (u : Fin 64) (word : Fin 3) (data : W32)
  /-- ENU_BYPASS (R351): Writing BYPASS drives BYP_N low or releases it. -/
  | enuBypass (on : Bool)
  /-- PROPOSE (R360): The head floods SLEEP_PROPOSE with a new round. -/
  | propose
  /-- CANCEL (R361): The head ends a sleep round with SLEEP_ABORT. -/
  | cancel
  /-- SLEEP_PROPOSE (R360): A unit receives a sleep proposal and starts its vote wait. -/
  | sleepPropose (m : Msg)
  /-- SLEEP_READY_VOTE (R360): A unit becomes idle within VOTE_WAIT and sends SLEEP_VOTE with READY = 1. -/
  | sleepReadyVote
  /-- VOTE_WAIT_EXPIRY (R360): VOTE_WAIT ends on a busy unit, which votes READY = 0 with a reason. -/
  | voteWaitExpiry
  /-- SLEEP_VOTE (R361): The head receives a vote and commits after the last READY or aborts on a busy vote. -/
  | sleepVote (p : Fin 2) (m : Msg)
  /-- VOTE_MISSING_TIMEOUT (R361): A vote missing at VOTE_WAIT + 200 µs ends the round with SLEEP_ABORT. -/
  | voteMissingTimeout
  /-- NAK_WAKE (R361): The head receives NAK_WAKE and aborts the round, or counts it in NAK_LATE after commit. -/
  | nakWake (p : Fin 2) (m : Msg)
  /-- SLEEP_COMMIT (R362): A unit receives the commit, arms its wake detectors and sends QUIET until it sleeps. -/
  | sleepCommit (m : Msg)
  /-- SLEEP_ABORT (R361): A unit receives the abort and stays in RUN. -/
  | sleepAbort (m : Msg)
  /-- CHAIN_WAKE_DETECT (R364): The Owl detector sees 8 tone edges within 1 ms and wakes the unit. -/
  | chainWakeDetect
  /-- WAKE_TONE_DONE (R364): The 2 ms wake tone driven by a woken unit ends. -/
  | wakeToneDone
  /-- HAR_TRAIN_TIMEOUT (R379): 100 µs of phase sweep without word lock sets NO_LOCK and restarts the sweep. -/
  | harTrainTimeout (l : Fin 4)
  /-- HAR_WORD_LOCK (R372): A scan link gains word lock and sends ENUM. -/
  | harWordLock (l : Fin 4) (phase : Fin 16)
  /-- HAR_WORD_LOCK_LOST (R379): A scan link loses word lock and returns to TRAIN. -/
  | harWordLockLost (l : Fin 4)
  /-- HAR_ENUM_RETURN (R380): ENUM returns with the board count and ring delay, which are checked. -/
  | harEnumReturn (l : Fin 4) (count : Fin 256) (ringNs : Nat)
  /-- IDR (R381): A board's identity reply is recorded. -/
  | idr (l pos : Fin 4) (w0 w1 : W32) (good : Bool)
  /-- CFGA (R381): A board acknowledges a register write; after all, the link reaches UP. -/
  | cfga (l pos : Fin 4) (good : Bool)
  /-- RSP (R376): A board's STEP reply with comparator bits and status is received and compared. -/
  | rsp (l pos : Fin 4) (words : List W32) (good : Bool)
  /-- HAR_REPLY_TIMEOUT (R378): A reply missing 6 µs after a command leads to retry, records or link loss. -/
  | harReplyTimeout (l : Fin 4)
  /-- HAR_SETTLE_EXPIRY (R385): SETTLE ends and the next STEP is sent on every selected link. -/
  | harSettleExpiry
  /-- HAR_LINK_WAIT_EXPIRY (R387): A lost link not back within LINK_WAIT ends the scan with ENGINE_OFFLINE. -/
  | harLinkWaitExpiry
  /-- HAR_LINK_EN (R379): Writing EN enables or turns off a scan link. -/
  | harLinkEn (l : Fin 4) (en : Bool)
  /-- HAR_RETRAIN (R379): Writing RETRAIN sends a scan link to TRAIN. -/
  | harRetrain (l : Fin 4)
  /-- FIFO_PUSH (R402): A producer pushes an item, which lands, is dropped into a gap marker, or is refused. -/
  | fifoPush (n : Fin 64) (p : PushIn)
  /-- FIFO_POP (R405): The consumer pops the oldest item of a FIFO. -/
  | fifoPop (n : Fin 64) (fabric : Bool) (p : Option PushIn)
  /-- SFQ_POP_W0 (R412): A read of the pop window pops one item and latches its other words and tag. -/
  | sfqPopW0 (n : Fin 64) (p : Option PushIn)
  /-- DISCARD_PKT (R407): Discards the consumer's current packet from the FIFO or as it arrives. -/
  | discardPkt (n : Fin 64) (fabric : Bool)
  /-- DISCARD_REMOVAL (R407): One item is removed from the head per turn until the packet's end. -/
  | discardRemoval (n : Fin 64) (p : Option PushIn)
  /-- FLUSH (R408): Removes every item and pending marker from a FIFO. -/
  | flush (n : Fin 64)
  /-- SFQ_CFG_WRITE (R400): A write sets EN, PROD, CONS and XOFF routes, or sets CFG_DENIED while enabled. -/
  | sfqCfgWrite (n : Fin 64) (data : W32)
  /-- SFQ_WM_WRITE (R409): A watermark write takes effect next turn and XOFF is judged again. -/
  | sfqWmWrite (n : Fin 64) (data : W32)
  /-- SFQ_PIN_WRITE (R410): A write routes a FIFO's XOFF to a HAR_XOFF pin. -/
  | sfqPinWrite (data : W32)
  /-- SFQ_XCTX_WRITE (R400): A write names the context for XOFF_CTX, or sets CFG_DENIED while enabled. -/
  | sfqXctxWrite (n : Fin 64) (data : W32)
  /-- CAN_INTEGRATED (R421): 11 recessive bits move a controller from INTEGRATING to ACTIVE. -/
  | canIntegrated (n : Fin 16)
  /-- CAN_START_OF_FRAME (R425): Before a start of frame the controller selects the highest-priority PENDING buffer. -/
  | canStartOfFrame (n : Fin 16)
  /-- CAN_ARBITRATION_LOST (R425): A frame loses arbitration and its buffer returns to PENDING. -/
  | canArbitrationLost (n : Fin 16)
  /-- CAN_FRAME_SENT (R427): A frame passes end of frame and its VBU_TX completes with OK. -/
  | canFrameSent (n : Fin 16) (delay : Nat)
  /-- CAN_TX_ERROR (R427): A transmission ends in error, counting an attempt and updating TEC and state. -/
  | canTxError (n : Fin 16) (kind : Fin 6) (dataPhase : Bool)
  /-- CAN_SUSPEND_TRANSMISSION_END (R428): An error-passive transmitter's suspend transmission time ends. -/
  | canSuspendTransmissionEnd (n : Fin 16)
  /-- CAN_FRAME_RECEIVED (R434): A valid frame is filtered into a slot's FIFO or counted UNMATCHED. -/
  | canFrameReceived (n : Fin 16) (id : Fin 536870912) (ide rtr fdf brs esi : Bool) (dlc : Fin 16) (data : List Byte) (ago : Nat)
  /-- CAN_RX_ERROR (R431): A receive error raises REC and may change the error state. -/
  | canRxError (n : Fin 16) (kind : Fin 6) (dataPhase dominant : Bool)
  /-- CAN_RECOVER (R430): Writing RECOVER in CAN_CTL starts recovery from BUS_OFF. -/
  | canRecover (n : Fin 16)
  /-- CAN_RECOVERY_DONE (R430): 128 recessive sequences end recovery; HELD buffers become PENDING. -/
  | canRecoveryDone (n : Fin 16)
  /-- CAN_ERRC_WRITE (R431): A write while OFF sets TEC and REC. -/
  | canErrcWrite (n : Fin 16) (data : W32)
  /-- VBU_RX_TIMEOUT (R438): TIMEOUT_MS expires and VBU_RX_ARM completes with END 2. -/
  | vbuRxTimeout (tag : Nat)
  /-- CAN_WUF (R439): In SLEEP a matching wake-up frame wakes the unit. -/
  | canWuf (n : Fin 16) (id : Fin 536870912) (ide : Bool) (dlc : Fin 16) (data : List Byte)
  /-- FEC_WAKE (R439): The frame error counter passing FEC_MAX with FEC_WAKE set wakes the unit. -/
  | fecWake (n : Fin 16) (bad : Bool)
  /-- LIN_BREAK (R440): A responder detects a break and measures the bit rate from the sync byte. -/
  | linBreak (m : Fin 16) (id : Fin 64) (div : Nat) (ago : Nat)
  /-- LIN_RESPONSE (R441): A LIN response and checksum end; the frame is checked, filtered and its VBU_TX ended or retried. -/
  | linResponse (m : Fin 16) (data : List Byte) (cs : Byte) (framing mismatch : Bool)
  /-- LIN_RESPONSE_TIMEOUT (R441): The response space passes with no response and the attempt fails. -/
  | linResponseTimeout (m : Fin 16)
  /-- LIN_BUS_IDLE (R444): BUS_IDLE_S seconds without activity put the LIN unit in bus sleep. -/
  | linBusIdle (m : Fin 16)
  /-- LIN_WAKE (R444): Writing WAKE drives LIN_TXD dominant for WAKE_US. -/
  | linWake (m : Fin 16)
  /-- LIN_WAKE_RX (R444): A dominant period of 150 µs to 5 ms without sync sets WAKE_RX. -/
  | linWakeRx (m : Fin 16)
  /-- LIN_WAKE_PULSE (R444): In SLEEP a dominant level of 150 µs on LIN_RXD wakes the unit. -/
  | linWakePulse (m : Fin 16)
  /-- SENT_FRAME (R445): A SENT fast channel frame is decoded, checked and pushed as two items. -/
  | sentFrame (k : Fin 8) (cal status : Nat) (nibbles : List Nat) (crc : Nat) (ago : Nat)
  /-- OSP_GAIN_STEP (R463): The gain loop attacks or decays the gain code in SEARCH. -/
  | ospGainStep (attack : Bool)
  /-- OSP_PREAMBLE_DETECT (R465): Correlation reaches PRE_THR; gain freezes and AFC starts. -/
  | ospPreambleDetect (corr : Fin 65)
  /-- OSP_SYNC_MATCH (R467): The sync word matches; AFC, slicer and RSSI latch and the header item is pushed. -/
  | ospSyncMatch (bits : W32) (offset milliDb : Int) (ago : Nat)
  /-- OSP_SYNC_WAIT_EXPIRY (R467): SYNC_WAIT bits pass without a match; the preamble is false. -/
  | ospSyncWaitExpiry
  /-- OSP_DATA_ITEM (R469): 16 payload bytes are decoded and pushed as a data item. -/
  | ospDataItem (groups : List (List Bool))
  /-- OSP_PACKET_END (R469): The last coded bit is decoded and the trailer item is pushed. -/
  | ospPacketEnd (groups : List (List Bool))
  /-- OSP_TX_START (R475): A transmission takes the front end, suspending the receiver, and OSP_TXEN rises. -/
  | ospTxStart
  /-- OSP_REPETITION_END (R474): A repetition ends, OSP_TXEN falls, and OSP_TX completes after the last. -/
  | ospRepetitionEnd
  /-- OSP_GAP_EXPIRY (R473): GAP_US after a repetition the next one starts. -/
  | ospGapExpiry
  /-- OSP_TR_EXPIRY (R475): TR_US after OSP_TXEN falls the receiver returns to SEARCH. -/
  | ospTrExpiry
  /-- OSP_SCLK_LOST (R477): OSP_SCLK stops or TI6 loses lock; the receiver goes OFF and operations end. -/
  | ospSclkLost
  /-- OSP_SCLK_RETURN (R477): The sample clock returns and Osprey resumes its queue or RX_EN. -/
  | ospSclkReturn
  /-- OSP_FS_MEASURE (R457): A 10 ms measurement window ends; OSP_FS_MEAS and FS_MISMATCH are updated. -/
  | ospFsMeasure (fs : Nat)
  /-- OSP_RX_TIMEOUT (R471): TIMEOUT_MS expires and OSP_RX completes with END 2. -/
  | ospRxTimeout
  /-- OSP_RX_EN_WRITE (R464): Writing RX_EN starts or stops listening with RX_PROFILE. -/
  | ospRxEnWrite (on : Bool)
  /-- PPS_IN_EDGE (R485): A PPS_IN edge is validated and θ is measured for discipline. -/
  | ppsInEdge (falling : Bool) (sub : Nat)
  /-- PPS_IN_LOSS (R485): LOSS_S seconds without a valid edge lose PPS_IN. -/
  | ppsInLoss
  /-- TIME_BEACON (R499): A member receives a time beacon, forwards it with ACC_NS and measures θ. -/
  | timeBeacon (m : Msg) (good : Bool) (sub residence : Nat)
  /-- BEACON_LOSS (R499): LOSS_S seconds without a beacon lose the beacon reference. -/
  | beaconLoss
  /-- WHOLE_SECOND (R488): At a whole second of local time a pending step is loaded and a PPS_OUT pulse starts. -/
  | wholeSecond
  /-- PPS_OUT_END (R493): A PPS_OUT pulse ends after PPS_WIDTH counted in TCXO cycles. -/
  | ppsOutEnd
  /-- TIME_BEACON_SEND (R496): 10 to 100 µs after its whole second the head sends a time beacon. -/
  | timeBeaconSend
  /-- DLY_REQ_DUE (R498): Once a second a member sends DLY_REQ on its UP port. -/
  | dlyReqDue
  /-- DLY_REQ (R498): A neighbour answers a delay request with DLY_RESP. -/
  | dlyReq (port : Fin 2) (m : Msg) (residence : Nat)
  /-- DLY_RESP (R498): A member captures t4 and updates its link delay. -/
  | dlyResp (m : Msg) (sub : Nat)
  /-- HOLD_LIMIT_EXPIRY (R490): HOLD_LIMIT minutes in HOLDOVER set UNSYNC. -/
  | holdLimitExpiry
  /-- TCXO_LOST (R500): TI11 loses its TCXO; the counter runs on the internal oscillator in FREE. -/
  | tcxoLost
  /-- TCXO_RETURN (R500): The TCXO returns and the counter moves back to it without a step. -/
  | tcxoReturn
  /-- TBU_CTL_WRITE (R484): A write changes the reference selection and PPS settings; REF = 3 sends the timebase to FREE. -/
  | tbuCtlWrite (data : W32)
  /-- TAG_FIELD_ON (R508): The reader field rises and the tag enters READY and a session begins. -/
  | tagFieldOn
  /-- TAG_FIELD_LOST (R508): The field falls and the tag returns to POWER_OFF. -/
  | tagFieldLost
  /-- TAG_SESSION_END (R518): The field absent for SESS_END_MS ends the session and raises SESS_END. -/
  | tagSessionEnd
  /-- INVENTORY (R505): The tag answers an inventory request with its UID. -/
  | inventory (afi : Option Byte) (len : Fin 65) (mask : W64) (sixteen : Bool)
  /-- STAY_QUIET (R508): An addressed STAY QUIET puts the tag in QUIET. -/
  | stayQuiet (r : TagReq)
  /-- READ_MULTIPLE_BLOCKS (R510): A snapshot of up to 256 blocks 0–255 is taken and sent. -/
  | readMultipleBlocks (r : TagReq) (first count : Fin 256)
  /-- EXTENDED_READ_MULTIPLE_BLOCKS (R510): A snapshot of up to 256 blocks by 16-bit number is taken and sent. -/
  | extendedReadMultipleBlocks (r : TagReq) (first count : Fin 65536)
  /-- LOCK_BLOCK (R514): The lock bit of one block 0–255 is programmed. -/
  | lockBlock (r : TagReq) (b : Fin 256)
  /-- EXTENDED_LOCK_BLOCK (R514): The lock bit of one block 0–2,047 is programmed. -/
  | extendedLockBlock (r : TagReq) (b : Fin 65536)
  /-- TAG_UNSUPPORTED_COMMAND (R505): An unsupported command addressed to the tag is answered with error 0x01. -/
  | tagUnsupportedCommand (r : TagReq)
  /-- TAG_SNAPSHOT_DONE (R510): A read's access phase ends and a waiting host access goes next. -/
  | tagSnapshotDone
  /-- TAG_LOCK_PROGRAMMED (R510): A field lock's programming and verify end and the reader is answered. -/
  | tagLockProgrammed (ok : Bool)
  /-- TAG_SHADOW_PROGRAMMED (R512): A shadow page is programmed and verified and its commit falls due. -/
  | tagShadowProgrammed (ok : Bool)
  /-- TAG_PAGE_COMMIT (R512): The shadow page is exchanged with the live page, or refused if a block was locked. -/
  | tagPageCommit
  /-- TAG_LOCK_CMD (R524): A write with KEY 0x10CB locks or unlocks a block range in groups of 32. -/
  | tagLockCmd (data : W32)
  /-- TAG_LOCK_GROUP_PROGRAMMED (R524): A shadow lock word is programmed and verified. -/
  | tagLockGroupProgrammed
  /-- TAG_LOCK_GROUP_COMMIT (R524): A lock group is committed by exchange with the live lock word. -/
  | tagLockGroupCommit
  /-- LOAD_KEY (R536): Loads a key from SCR_KEYW0–W3 into an EMPTY key slot. -/
  | loadKey (key : Nat) (slot : Fin 16)
  /-- CLEAR_KEY (R536): Zeroes a LOADED key slot. -/
  | clearKey (key : Nat) (slot : Fin 16)
  /-- BIND (R536): Binds a range to a key slot and depot slot and erases its tag span. -/
  | bind (key : Nat) (range : Fin 8) (slot : Fin 16)
  /-- REKEY (R537): Retires a range's key and re-scrambles every line under a new key. -/
  | rekey (key : Nat) (range : Fin 8) (slot : Fin 16)
  /-- ERASE (R536): Erases a range's data and tag spans and empties its retired slots. -/
  | erase (key : Nat) (range : Fin 8) (unbind : Bool)
  /-- KITE_INSTRUCTION (R545): Kite retires one RV32IMC instruction, faulting on illegal access. -/
  | kiteInstruction (turns : Nat) (ferr lerr : Fin 3) (ans : List W32)
  /-- MTIMER_INTERRUPT (R546): KIT_MTIME reaches KIT_MTIMECMP and raises the machine timer interrupt. -/
  | mtimerInterrupt
  /-- KIT_MSIP (R546): Writing MSIP raises the machine software interrupt. -/
  | kitMsip (on : Bool)
  /-- FW_CHECK_START (R550): Writing START begins a firmware header and CRC check of an execute-only region. -/
  | fwCheckStart (region : Fin 4)
  /-- FW_CHECK_DONE (R550): The firmware check ends with PASS or a FAIL code. -/
  | fwCheckDone
  /-- WDT_ENABLE (R552): Kite writes EN = 1 and the watchdog starts counting. -/
  | wdtEnable
  /-- WDT_SERVICE (R552): Kite writes 0x5EED and the watchdog count restarts. -/
  | wdtService (m : Master) (key : Nat)
  /-- MBX_H2K_SEND (R553): The host sends a mailbox message to Kite. -/
  | mbxH2kSend
  /-- MBX_H2K_DONE (R553): Kite releases the host-to-Kite channel. -/
  | mbxH2kDone
  /-- MBX_K2H_SEND (R553): Kite sends a mailbox message to the host and raises device event 2. -/
  | mbxK2hSend
  /-- MBX_K2H_DONE (R553): The host releases the Kite-to-host channel. -/
  | mbxK2hDone
  /-- PING (R555): Kite replies with its ROM and firmware versions. -/
  | ping
  /-- INFO (R555): Kite replies with its status, boot log, firmware header and contexts. -/
  | info
  /-- CHECK (R555): Kite checks a firmware region and replies with the result. -/
  | check
  /-- POLICY_APPLY (R556): Kite rereads KIT_POLICY and applies it. -/
  | policyApply
  /-- NIGHTLY_DUE (R556): At LOCAL_HOUR Kite marches its ON banks and runs the SERVICE BIST set. -/
  | nightlyDue (service : List Nat)
  /-- WEAR_SUMMARY_DUE (R556): Every WEAR_H hours Kite updates the tag's wear summary. -/
  | wearSummaryDue (buf : Fin 0x200000) (hours top topCount startNo : Nat)
  /-- TLM_SCAN (R557): A telemetry scan converts all channels and samples pace and activity. -/
  | tlmScan (samples busy : List Nat)
  /-- TLM_LOG_DUE (R561): A telemetry log record falls due and any incomplete previous record is abandoned. -/
  | tlmLogDue
  /-- TLM_LOG_BEAT (R561): A log beat is written in an idle bank turn. -/
  | tlmLogBeat
  /-- ALARM_TEST (R562): Writing FORCE in DEV_ALARM_TEST asserts or releases the test alarm source. -/
  | alarmTest (on : Bool)
  /-- LCY_ADVANCE (R567): A write with KEY 0xAD5C starts an advance to the next lifecycle state or RETIRED, or sets DENIED. -/
  | lcyAdvance (target : Fin 8) (key : Fin 65536)
  /-- LCY_ADVANCE_DONE (R568): The fuse pair verifies and the state changes, or FAIL and PARTIAL are set. -/
  | lcyAdvanceDone (ok : Bool)
  /-- BIST_START (R575): A queued run with its target free fences the target under the BIST service. -/
  | bistStart
  /-- BIST_PATTERNS_DONE (R575): The patterns end, the signature is compared and the target is re-initialised. -/
  | bistPatternsDone (sig : W64)
  /-- BIST_WAIT_TIMEOUT (R574): A run waiting WAIT_MS for its target completes with ENGINE_OFFLINE. -/
  | bistWaitTimeout
  /-- TAP_RESET (R601): TRST_N low or five TCK cycles with TMS high reset the TAP. -/
  | tapReset
  /-- EXTEST (R601): The boundary cells take the covered pins. -/
  | extest (cells : List Bool)
  /-- IDCODE (R600): The IDCODE register is selected. -/
  | idcode
  /-- SAMPLE_PRELOAD (R600): The boundary register samples and preloads without owning the pins. -/
  | samplePreload (cells : List Bool)
  /-- HIGHZ (R601): The covered pins go high-impedance. -/
  | highz
  /-- CLAMP (R601): The covered pins hold preloaded values with BYPASS selected. -/
  | clamp
  /-- BYPASS (R601): The bypass register is selected and covered pins return to their owners. -/
  | bypass
  /-- REGIONS_POWERED_DOWN (R161): The regions the new image does not use finish powering down in a handover, and the readout of the new plane begins. -/
  | regionsPoweredDown
  /-- HANDSHAKE_SIDE_WRITE (R65): The personality writes an item into an outbound island gate on its handshake side. -/
  | handshakeSideWrite (n : Fin 11) (g : Fin 4) (v : BitVec 128)
  /-- CLOCK_SIDE_READ (R65): An item is read out of an outbound island gate on its clock edge, freeing space on the handshake side. -/
  | clockSideRead (n : Fin 11) (g : Fin 4)
  /-- CONTROL_BLOCK_DISCARD (R313): A chain control block with a wrong CRC8 or unlisted TYPE is discarded and counted in CTL_CRC. -/
  | controlBlockDiscard (p : Fin 2)
  /-- STRAY_DATA_BLOCK (R327): A chain data block that arrives while no message is open is discarded and counted in STRAY. -/
  | strayDataBlock (p : Fin 2)
  /-- FRM_ERR (R456): A Q word on OSP_RXD that does not follow an I word is discarded and counted, setting FRM_ERR. -/
  | frmErr
  deriving DecidableEq, Repr

end Sys2Proof
end

