-- ==== Sys2Proof/Machine/Blocks.lean ====
section
/-! DEFINITION. The state of the blocks beyond their registers, as plain data. -/
namespace Sys2Proof.Machine

/-! ### Outputs -/

/-- How the block completes a host request on PCI Express. -/
inductive CplStatus where
  | success
  | unsupportedRequest
  | completerAbort
  deriving DecidableEq, Repr

/-- Pins that the block drives. -/
inductive Pin where
  | pwrgrantOut
  | bypN
  | ppsOut
  | harXoff (n : Nat)
  | ospTxen
  | ospRxen
  | ospGain
  | linTxd (m : Nat)
  | canTxd (n : Nat)
  | flRstN
  | userIo
  deriving DecidableEq, Repr

/-- What the block sends out, in order. -/
inductive Out where
  /-- A posted write to host memory. -/
  | hostWrite (addr : Nat) (data : List Byte)
  /-- A read of host memory, answered later under its number. -/
  | hostRead (id addr len : Nat)
  /-- The completion of a host read or write of a BAR. -/
  | hostCpl (st : CplStatus) (data : List Byte)
  /-- An MSI-X message: vector, address, data. -/
  | msix (vec : Nat) (addr : W64) (data : W32)
  /-- A chain message out of a port (0 UP, 1 DOWN) with its LSEQ; a stomped copy ends with the complement of its PCRC. -/
  | chain (port lseq : Nat) (stomp : Bool) (m : Msg)
  /-- A control block out of a port: type code and operand. -/
  | ctlBlock (port ty operand : Nat)
  /-- A level on a pin. -/
  | pin (p : Pin) (level : Nat)
  /-- The result of a register read: offset and word. -/
  | regData (off : Nat) (v : W32)
  /-- The answer of a fabric socket access: response code (m_resp) and data. -/
  | socket (sock resp : Nat) (data : List Byte)
  /-- A call or a window access delivered to a socket's slave port. -/
  | socketCall (sock : Nat) (words : List W32)
  /-- A register access delivered at a socket's slave port: offset, and the word of a write. -/
  | socketWin (sock off : Nat) (w : Option W32)
  /-- An item that leaves an island gate: to the fabric (gates 0 to 3) or to the pins (gates 4 to 7). -/
  | gate (island gate : Nat) (v : Nat)
  /-- An item delivered at the fabric port of stream FIFO `n`. -/
  | fabItem (n : Nat) (data : List Byte) (tag : Nat)
  /-- A word on a scan link. -/
  | scan (link : Nat) (word : Nat)
  /-- A frame begins on CAN channel `n`: identifier word, control word, data. -/
  | canFrame (n : Nat) (id ctl : Nat) (data : List Byte)
  /-- A LIN header or response on unit `m`. -/
  | linFrame (m : Nat) (id : Nat) (data : List Byte) (checksum : Option Byte)
  /-- A LIN wake: LIN_TXD is dominant for `us` µs. -/
  | linWake (m us : Nat)
  /-- A frame of Osprey on OSP_TXD: the profile and its chips. -/
  | radio (profile : Nat) (chips : List Bool)
  /-- A response of the tag to a reader. -/
  | tagResponse (flags : Nat) (data : List Byte)
  /-- A command on the serial flash. -/
  | flash (op addr : Nat) (data : List Byte)
  /-- The wake tone on both ports: 1 starts, 0 ends. -/
  | wakeTone (on : Nat)
  /-- The TAP has an instruction, and shifts out what its data register captured. -/
  | tap (ir : Nat) (dr : W32)
  deriving DecidableEq, Repr

/-! ### Operations, contexts and ledger (10_host_interface_and_contexts.md, 11_descriptors_completions_and_ledger.md) -/

/-- What a target returns: status (Table 11-6) and the two result words. -/
structure Ret where
  status : Nat
  r0 : W32 := 0#32
  r1 : W32 := 0#32
  deriving DecidableEq, Repr

/-- An operation between dispatch and return. -/
structure Op where
  /-- The model's own number of the operation. -/
  tag : Nat
  /-- The fetching context. -/
  ctx : Nat
  /-- The submission slot. -/
  sq : Nat
  /-- The descriptor's 16 words. -/
  words : List W32
  /-- The token came from the shared pool (R270). -/
  pool : Bool := false
  /-- Buffer credits of the staging store, and of the banks (R299). -/
  stagingCr : Nat := 0
  bankCr : Nat := 0
  /-- The domain it lies inside (R632). -/
  dom : Option Nat := none
  /-- The origin unit and RTAG of an operation that another unit forwarded (R356). -/
  origin : Option (Nat × Nat) := none
  /-- It was forwarded to another unit and waits for its outcome. -/
  fwd : Bool := false
  /-- Earlier operations waited for (FENCE). -/
  waited : Nat := 0
  /-- The target has begun it. -/
  started : Bool := false
  /-- Progress in the target's own unit. -/
  prog : Nat := 0
  /-- Frames or packets of a receive operation written; model time of dispatch, ns. -/
  count : Nat := 0
  began : Nat := 0
  /-- A note applies (OK_NOTE in place of OK). -/
  note : Bool := false
  /-- Data gathered or still to deliver. -/
  buf : List Byte := []
  /-- What the target has returned. -/
  ret : Option Ret := none
  deriving DecidableEq, Repr

/-- A fetched descriptor not yet dispatched. -/
structure Staged where
  sq : Nat
  words : List W32
  /-- Operations in flight that its hold waits for, latched when it became the first staged. -/
  waits : Option Nat := none
  deriving DecidableEq, Repr

/-- A completion record built and not yet written (LINK_POLICY HOLD). -/
structure Rec where
  words : List W32
  int : Bool
  deriving DecidableEq, Repr

/-- A context beyond its entry of registers. -/
structure Ctx where
  staged : List Staged := []
  /-- The descriptor read outstanding: first slot and count. -/
  fetch : Option (Nat × Nat) := none
  /-- Tokens the ledger books for the context, and how many of them came from the shared pool. -/
  held : Nat := 0
  poolHeld : Nat := 0
  /-- Reserve booked, and how far it has been filled (R270). -/
  booked : Nat := 0
  filled : Nat := 0
  /-- Records written since the last enable (R287). -/
  nrec : Nat := 0
  /-- The state before FROZEN, and the last EN written while FROZEN (R304). -/
  frozenFrom : Nat := 0
  enWant : Option Bool := none
  /-- Pending records of its interrupt (R274). -/
  intPend : Nat := 0
  /-- Records held under LINK_POLICY HOLD. -/
  heldRecs : List Rec := []
  deriving DecidableEq, Repr

/-- A mismatch that an audit's snapshot shows (R302): book, index, booked, counted, and the domain that holds the
quantity. -/
structure Mismatch where
  book : Nat
  index : Nat
  booked : Nat
  counted : Nat
  dom : Option Nat
  deriving DecidableEq, Repr

/-- The ledger beyond its registers. -/
structure Ledger where
  /-- Shared pool tokens free. -/
  tokFree : Nat := 4096
  /-- Credits lent: staging store and banks. -/
  lentStaging : Nat := 0
  lentBank : Nat := 0
  /-- The mismatches of the audit being compared. -/
  audit : Option (List Mismatch) := none
  /-- Domains left out of that audit (R302). -/
  excluded : Nat := 0
  /-- Chain holdings counted at the last audit, by 4 × port + VL: in transit, in the receiver and returning. -/
  chainCounted : List Nat := []
  /-- Chain books to be looked at again: index. -/
  relook : List Nat := []
  /-- A release written during a comparison. -/
  releasePend : Bool := false
  deriving DecidableEq, Repr

/-- What a device-issued read of host memory is for. -/
inductive ReadUse where
  /-- The operation with this tag. -/
  | op (tag : Nat)
  /-- Descriptors of a context. -/
  | fetch (c : Nat)
  /-- A tunnel read of a member: unit, TAG, and length. -/
  | tunnel (unit tag : Nat)
  deriving DecidableEq, Repr

/-- A device-issued read of host memory that is outstanding. -/
structure HRead where
  id : Nat
  addr : Nat
  len : Nat
  got : Nat
  use : ReadUse
  /-- Data that a member's tunnel read has gathered. -/
  buf : List Byte := []
  deriving DecidableEq, Repr

/-- A host aperture read forwarded to a member and not answered. -/
structure WinRead where
  wtag : Nat
  unit : Nat
  len : Nat
  deriving DecidableEq, Repr

/-- The read latches and the held low words of one master (R14), by the offset of the high word: its latched value, or the low word's
value. -/
structure Wide where
  rd : List (Nat × W32) := []
  wr : List (Nat × W32) := []
  deriving DecidableEq, Repr

/-- The host interface beyond its registers. -/
structure Hif where
  reads : List HRead := []
  nextRead : Nat := 0
  winReads : List WinRead := []
  nextWtag : Nat := 0
  /-- Device event bits whose vector has been sent (R274). -/
  devSent : Nat := 0
  hostWide : Wide := {}
  kiteWide : Wide := {}
  /-- Memory Space Enable, Enable Relaxed Ordering, MSI-X Enable and Function Mask. -/
  memSpace : Bool := false
  relaxed : Bool := false
  msixEn : Bool := false
  funcMask : Bool := false
  /-- Other configuration-space words written by the host. -/
  cfgSpace : List (Nat × W32) := []
  deriving DecidableEq, Repr

/-- The scheduler's place in the round of one class (R269): the current context and the operations it has dispatched
in a row. -/
structure Round where
  cur : Nat := 0
  run : Nat := 0
  deriving DecidableEq, Repr

/-! ### Power and reset (03_power_and_staged_start.md, 04_reset_domains_and_quiesce.md) -/

/-- Where the unit stands in Table 3-4 and Table 3-8. -/
inductive PStage where
  /-- Power good has not been reached: a required rail is missing or RST_N is low. -/
  | hold
  /-- Power good; 200 µs run. -/
  | s0
  /-- Pins sampled; waiting for the grant. -/
  | grantWait
  /-- S1: the management group is being powered. -/
  | s1
  /-- S1: readout of the configuration source. -/
  | readout
  | s2
  | s3
  | s4
  /-- The start-up sequence. -/
  | seq
  | run
  | idleEntry
  | idle
  | idleExit
  /-- SLEEP_COMMIT taken; 100 µs run. -/
  | committed
  | sleepEntry
  | sleep
  deriving DecidableEq, Repr

/-- Power staging beyond its registers. -/
structure Pwr where
  stage : PStage := .hold
  /-- HEAD_EN and CFGSRC as sampled at the end of S0. -/
  headEn : Bool := false
  cfgsrc : Nat := 0
  /-- TEST_EN was high at power good: the unit stays in S0 (R595). -/
  test : Bool := false
  /-- RST_N is low. -/
  rstN : Bool := false
  /-- The stage that PWR_GRANT_CTL.POINT names has been reached in this start. -/
  pointReached : Bool := false
  /-- Source code of the unit-level reset whose UNIT_RESET entry is due as S0 ends. -/
  logDue : Option Nat := none
  /-- TARGET written during a transition, or IDLE written during a handover (Table 3-9). -/
  targetPend : Option Nat := none
  /-- S3 groups already powered in S1 (R89), as a mask of bits 1-6. -/
  groups : Nat := 0
  /-- A warm unit reset: 0 none, 1 fencing, draining or posting its aborts, 2 restarting (R110), and its source. -/
  warm : Nat := 0
  warmSrc : Nat := 0
  /-- A wake latched during SLEEP entry. -/
  wakeLate : Bool := false
  /-- What the present stage still has to do: banks, start-up marches, groups and waves, in order. -/
  bq : List Nat := []
  mq : List Nat := []
  gq : List Nat := []
  wq : List Nat := []
  /-- Model time of the power-good event or the wake, and of the end of S0 (ns). -/
  begun : Nat := 0
  waitFrom : Nat := 0
  /-- Rails below their thresholds, as bits of PWR_RAIL_STAT. -/
  railsOff : Nat := 0
  /-- PWR_GRANT_CTL.POINT as latched at the start of S1 (R95). -/
  point : Nat := 3
  /-- The level that BYP_N is driven to; none while it is not driven (R351). -/
  byp : Option Nat := none
  /-- S3 groups done in this start, as a mask of bits 1-6. -/
  gdone : Nat := 0
  /-- The wake tone is being sent (R364). -/
  tone : Bool := false
  /-- Model time of the last watchdog expiry, ns (R115). -/
  wdtLast : Option Nat := none
  deriving DecidableEq, Repr

/-- How far a domain is through the fence (R113). -/
inductive Fence where
  | open
  /-- Closed; the drain window runs. -/
  | drain
  /-- The drain window has ended; the aborts are due. -/
  | drained
  /-- Aborts posted: the holder acts. -/
  | aborted
  /-- In reset. -/
  | reset
  /-- Released and not yet ready. -/
  | released
  /-- Ready and kept closed by a holder. -/
  | ready
  deriving DecidableEq, Repr

/-- A reset domain. -/
structure Dom where
  fence : Fence := .open
  /-- The holders by their source code of Table 4-8 (software hold is RST_DOM_HOLD). -/
  holders : List Nat := []
  /-- A reset of the domain is to be made within the fence, with this source code. -/
  resetBy : Option Nat := none
  /-- The drain window, µs. -/
  drainUs : Nat := 0
  /-- The domain's blocks are powered and released by the start. -/
  powered : Bool := false
  /-- Timebase time at which the fence closed, in ns. -/
  closedAt : Nat := 0
  /-- A late reply was discarded in this fence. -/
  lateLogged : Bool := false
  /-- The source code under which the fence closed. -/
  src : Nat := 0
  /-- A reset request, and a software hold, that wait for a handover, with their sources (R108, R168). -/
  pend : Option Nat := none
  pendHold : Option Nat := none
  deriving DecidableEq, Repr

/-- A bank beyond its registers. -/
structure Bank where
  /-- 0 OFF, 1 ON, 2 RETAIN, 3 CHANGING (Table 9-5). -/
  st : Nat := 0
  /-- The state a power step leads to, and the operation that asked for it. -/
  target : Nat := 0
  forOp : Option Nat := none
  /-- State before the step. -/
  before : Nat := 0
  /-- March under way: 0 none, 1 destructive, 2 preserving; at start or for an operation. -/
  march : Nat := 0
  marchOp : Option Nat := none
  /-- The repair sensed at the last exit from OFF: fuse words. -/
  sensed : List W32 := []
  /-- A fuse entry being blown: entry, slice, bit. -/
  blowing : Option (Nat × Nat × Nat) := none
  /-- Turns the present wait of port B under PROC_FIRST has lasted. -/
  bWait : Nat := 0
  /-- The access that lost a conflict under FIXED and goes first in the next turn: port (0 A, 1 B) and access. -/
  waiting : Option (Nat × BankAcc) := none
  deriving DecidableEq, Repr

/-! ### Timebase (18_timebase.md) -/

/-- The timebase beyond its registers. -/
structure Tbu where
  /-- Seconds (48 bits), nanoseconds, and the fraction of a nanosecond in units of 2^-40 ns. -/
  sec : Nat := 0
  ns : Nat := 0
  frac : Nat := 0
  /-- The counter runs (R483). -/
  run : Bool := false
  /-- TI11 has its TCXO. -/
  tcxo : Bool := true
  /-- This unit's own flags, and those of the last beacon (R499). -/
  hold : Bool := false
  unsync : Bool := true
  bcnHold : Bool := false
  bcnUnsync : Bool := false
  /-- Offset still to be slewed away, in units of 2^-40 ns. -/
  slew : Int := 0
  /-- Step to be loaded at the next whole second, ns. -/
  step : Option Int := none
  /-- The next θ is the first of its reference. -/
  first : Bool := true
  /-- Values of θ in a row within LOCK_NS. -/
  inLock : Nat := 0
  /-- FREQ at the last 64 whole seconds of LOCKED, newest first. -/
  freqs : List Int := []
  /-- Corrected local time of the last valid PPS_IN edge, ns. -/
  lastEdge : Option Int := none
  /-- Valid beacons in a row, and the sequence of the last. -/
  bcns : Nat := 0
  bcnSeq : Nat := 0
  /-- DLY_REQ outstanding: its ID and t1; the last 16 link delays, newest first. -/
  dlyId : Nat := 0
  t1 : Option Int := none
  dlys : List Int := []
  /-- A PPS_OUT pulse is high; model time at which the last one started. -/
  pulse : Bool := false
  lastPulse : Option Nat := none
  deriving DecidableEq, Repr

/-! ### Stream FIFOs (15_stream_fifos.md) -/

/-- An item: 16 bytes and a 4-bit tag. -/
structure Item where
  data : List Byte
  tag : Nat
  deriving DecidableEq, Repr

/-- A pending gap marker (Table 15-2): count, flags, producer and the time of the first drop. -/
structure Gap where
  count : Nat := 0
  ovf : Bool := false
  sop : Bool := false
  eop : Bool := false
  err : Bool := false
  fenced : Bool := false
  prod : Nat := 0
  ns : W32 := 0#32
  sec : W32 := 0#32
  deriving DecidableEq, Repr

/-- A stream FIFO beyond its registers. -/
structure Fifo where
  /-- The items, oldest first. -/
  items : List Item := []
  /-- Items the ledger books for it. -/
  booked : Nat := 0
  /-- The pending gap marker. -/
  gap : Option Gap := none
  /-- XOFF; DISCARDING; the consumer has a current packet; its removal is under way (R407). -/
  xoff : Bool := false
  discarding : Bool := false
  inPkt : Bool := false
  removing : Bool := false
  deriving DecidableEq, Repr

/-! ### Fabric and configuration (02_handshake_fabric.md, 06_configuration_planes_and_handover.md) -/

/-- The fabric beyond its registers. -/
structure Fab where
  /-- The image whose frames the configuration cells and fabric RAM hold; empty while unconfigured. -/
  image : List Byte := []
  /-- User islands whose gates in the GLOBAL frames are out of range (R131). -/
  glob : Nat := 0
  /-- Start-up sequence: 0 not running, 1 a step runs, 2 its DELAY runs. -/
  seqPh : Nat := 0
  /-- What it belongs to: 0 staged start, 1 IDLE exit, 2 handover, 3 reset of D11. -/
  seqFor : Nat := 0
  /-- Background trim: 0 no window, 1 a window waits for trim_defer, 2 a window runs. -/
  trim : Nat := 0
  /-- Level of the fabric-side signal trim_defer. -/
  defer : Bool := false
  /-- Steps that the running window has made, by region. -/
  steps : List (Nat × Nat) := []
  /-- Regions in an alert step sequence (R55). -/
  alerts : Nat := 0
  /-- FAB_TRIM_CTL as the next window that falls due takes it. -/
  trimCtl : W32 := 0x011440A1#32
  /-- Items in the user islands' gates, key 8 × island + gate: values, oldest first. -/
  gates : List (Nat × List Nat) := []
  /-- User island clocks running (R71). -/
  clocks : Nat := 0
  /-- Levels of the static inputs as the fabric sees them, by pin (R72). -/
  statics : List (Nat × Nat) := []
  /-- Window accesses waiting for the personality: socket, offset, written word. -/
  wins : List (Nat × Nat × Option W32) := []
  /-- Tap settings of the powered regions, which nothing outside shows (R48, R51). -/
  taps : List (Nat × W64) := []
  deriving DecidableEq, Repr

/-- The boot path of the present start (R148). -/
structure Boot where
  /-- Sources still to be tried, the one being read first (Table 6-2). -/
  path : List Nat := []
  /-- The first of them is being read. -/
  run : Bool := false
  /-- Failure that its reading has met, to be acted on. -/
  bad : Option Nat := none
  /-- Bytes read from a depot slot. -/
  buf : List Byte := []
  deriving DecidableEq, Repr

/-- A CFG_STAGE that is running (R156). -/
structure Stage where
  tag : Nat
  plane : Nat
  /-- 1 erase, 2 program, 3 read-back. -/
  ph : Nat
  /-- Bytes received. -/
  buf : List Byte
  frames : Nat := 0
  fs : List Nat := []
  note : Bool := false
  deriving DecidableEq, Repr

/-- A CFG_HANDOVER that is running (R161). -/
structure Ho where
  tag : Nat
  plane : Nat
  retain : List Nat
  persist : Bool
  /-- Step of Table 6-8; 20 and 21 stand for the S2 and S3 steps of R166. -/
  step : Nat
  unconf : Bool
  aborted : Nat := 0
  reason : Nat := 0
  rolled : Bool := false
  /-- The readout of the previous plane runs (R164). -/
  back : Bool := false
  started : Nat := 0
  deriving DecidableEq, Repr

/-! ### Image depot and scrambler (07_image_depot_and_chain_loading.md, 20_scrambler_and_integrity.md) -/

/-- A directory copy (Table 7-2). -/
structure Dir where
  gen : Nat := 0
  sectors : Nat := 0
  maxMode : Nat := 3
  maxMhz : Nat := 0
  eraseLimit : Nat := 100000
  /-- Word 0 and word 1 of SLOT[0] to SLOT[7]. -/
  slots : List (W32 × W32) := []
  /-- Bad sectors. -/
  bad : List Nat := []
  /-- Erase counts that are not 0, by sector. -/
  ecnt : List (Nat × Nat) := []
  deriving DecidableEq, Repr

/-- One piece of a depot request's work. Spans 0 to 7 are the slots, 8 + r the tag span of range r. -/
inductive Act where
  /-- Erase and program the `pos`-th good sector of a span with these bytes, each page verified. -/
  | write (span pos : Nat) (data : List Byte)
  /-- Erase the `pos`-th good sector of a span. -/
  | erase (span pos : Nat)
  /-- Merge bytes at a slot offset within one sector and rewrite it. -/
  | merge (slot off : Nat) (data : List Byte)
  /-- The same on a scrambled slot: data sector, then tag sector. -/
  | lines (slot off : Nat) (data : List Byte)
  /-- Re-scramble data sector `k` of a range and commit PROG. -/
  | rescr (r k : Nat)
  /-- Commit PROG of a range. -/
  | prog (r lines : Nat)
  /-- Set a slot's words. -/
  | slot (i : Nat) (w0 w1 : W32)
  /-- Erase a directory sector before FORMAT writes the default directory. -/
  | eraseDir (s : Nat)
  /-- Write the directory to the copy not in use. -/
  | dir
  /-- Read an image slot back and check every header and frame CRC. -/
  | verify (slot len : Nat)
  /-- Refresh a flash sector with its own bytes. -/
  | refresh (slot sector : Nat)
  /-- A range enters a state of Table 20-3. -/
  | range (r st : Nat)
  /-- Begin a version roll of a range (R534). -/
  | roll (r : Nat)
  /-- End of a roll, a re-key, a bind or an erase of a range. -/
  | endRoll (r : Nat)
  | endRekey (r : Nat)
  | endErase (r : Nat) (unbind : Bool)
  /-- The key slot of a range becomes BOUND. -/
  | bound (r : Nat)
  /-- The one key store update of a re-key (R537 step 2), with the new key slot. -/
  | rekey (r k : Nat)
  deriving DecidableEq, Repr

/-- A request of the depot manager (R187). -/
structure Job where
  /-- OP code of DEP_STAT: 1 boot load, 2 chain round, 3 stage read, 4 DEP_READ, 5 DEP_WRITE or a scrambler command, 6 scrub
  read, 7 refresh. -/
  kind : Nat
  /-- The operation it serves. -/
  op : Option Nat := none
  /-- The scrambler command it serves (Table 20-5); 0 none. -/
  scr : Nat := 0
  slot : Nat := 0
  /-- First byte and number of bytes of a read, and its mode. -/
  off : Nat := 0
  len : Nat := 0
  todo : List Act := []
  /-- The flash work of the first act: 0 not begun, 1 erase under way, 2 + p page p is being programmed. -/
  st : Nat := 0
  /-- The sector being written and its bytes. -/
  sector : Nat := 0
  data : List Byte := []
  erased : Nat := 0
  newBad : Nat := 0
  /-- Re-reads of the present unit, units read, and bytes read. -/
  tries : Nat := 0
  units : Nat := 0
  buf : List Byte := []
  deriving DecidableEq, Repr

/-- The depot manager beyond its registers. -/
structure Dep where
  /-- Discovery has run in this start. -/
  discovered : Bool := false
  dir : Dir := {}
  /-- Foreground requests, the one being served first. -/
  jobs : List Job := []
  /-- The scrub's work. -/
  bg : Option Job := none
  /-- Weak units found by a foreground load: slot and unit. -/
  weak : List (Nat × Nat) := []
  /-- The scrub's place: slot and unit. -/
  scrubSlot : Nat := 0
  scrubUnit : Nat := 0
  /-- Slots whose refresh has stopped (R188). -/
  lost : List Nat := []
  deriving DecidableEq, Repr

/-- Chain loading (R190 to R196). -/
structure Load where
  /-- A waiting unit: IMAGE_REQs sent, tries made, joined a round. -/
  waiting : Bool := false
  reqs : Nat := 0
  tries : Nat := 0
  acked : Bool := false
  joined : Bool := false
  /-- The round carried: number, next SEQ expected from UP, bytes of the stream not yet filtered. -/
  round : Option Nat := none
  rxSeq : Nat := 0
  rxBad : Bool := false
  inBuf : List Byte := []
  /-- The image of the stream being passed: bytes left of it, whether this unit takes it and whether it forwards it. -/
  cur : Option (Nat × Bool × Bool) := none
  /-- An image of this round has matched; it has been taken whole; the image. -/
  matched : Bool := false
  taken : Bool := false
  image : List Byte := []
  /-- Chunks sent down and not acknowledged: SEQ, times sent, bytes; the next SEQ; bytes waiting to be sent. -/
  sent : List (Nat × Nat × List Byte) := []
  txSeq : Nat := 0
  outBuf : List Byte := []
  txBytes : Nat := 0
  /-- The round has ended upstream, or has ended for the units downstream. -/
  ended : Bool := false
  dead : Bool := false
  /-- Chunks received good since the last acknowledgement. -/
  unacked : Nat := 0
  /-- The head: requests pending, and the number of the last round. -/
  pending : Nat := 0
  lastRound : Nat := 0
  deriving DecidableEq, Repr

/-! ### Kite and telemetry (21_kite_core_and_telemetry.md) -/

/-- Kite beyond its registers. -/
structure Kite where
  /-- Out of reset: it runs (R551). -/
  run : Bool := false
  pc : W32 := 0xFFFF8000#32
  /-- General registers x1 to x31 that are not 0. -/
  x : List (Nat × W32) := []
  /-- mstatus.MIE and MPIE, mie, mtvec, mepc, mcause, mtval, mscratch (Table 21-1). -/
  mie : Bool := false
  mpie : Bool := false
  ie : W32 := 0#32
  mtvec : W32 := 0#32
  mepc : W32 := 0#32
  mcause : W32 := 0#32
  mtval : W32 := 0#32
  mscratch : W32 := 0#32
  /-- mcycle and minstret, 64 bits. -/
  mcycle : Nat := 0
  minstret : Nat := 0
  /-- The instruction waits for an interrupt (WFI). -/
  wfi : Bool := false
  /-- Lines of the instruction cache: line address and its 16 bytes, the older way of a set first (R547). -/
  icache : List (Nat × List Byte) := []
  /-- TCXO cycles counted for KIT_MTIME. -/
  time : Nat := 0
  /-- Model time of the last watchdog service or enable, ns. -/
  wdtFrom : Nat := 0
  /-- The execute-only entry whose check the engine runs, and whether the boot ROM asked for it. -/
  chk : Option Nat := none
  romChk : Bool := false
  /-- Entries that the boot ROM has still to try. -/
  todo : List Nat := []
  /-- KIT_POLICY as Kite last applied it (R556). -/
  policy : W32 := 0#32
  /-- TAG of the CHECK message being served. -/
  chkTag : Option Nat := none
  /-- Replies that wait for the K2H channel to be empty. -/
  replies : List (List W32) := []
  deriving DecidableEq, Repr

/-- Telemetry beyond its registers. -/
structure Tlm where
  /-- MIN and MAX start at the next scan. -/
  fresh : Bool := true
  /-- Channels above HI and below LO at the last scan. -/
  above : Nat := 0
  below : Nat := 0
  /-- Operations that each engine of Table 21-7 has returned. -/
  ops : List (Nat × Nat) := []
  /-- The log record being written: beats done and its bytes; the next sequence number. -/
  recd : Option (Nat × List Byte) := none
  seq : Nat := 0
  deriving DecidableEq, Repr

/-! ### User NV array (08_user_nv_array.md) -/

/-- An operation of the array's engine: its opcode (Table 8-4), array offset and data; the descriptor operation it is a
unit of; a page still to be read from its bank. -/
structure NvOp where
  code : Nat
  addr : Nat
  data : List Byte := []
  desc : Option Nat := none
  latch : Bool := false
  deriving DecidableEq, Repr

/-- The array's engine beyond its registers. -/
structure Nva where
  /-- The running or suspended operation; the erase that is suspended below a nested program. -/
  run : Option NvOp := none
  below : Option NvOp := none
  /-- 0 running, 1 SUSP_AUTO, 2 SUSP_CMD; under a nested program, that of the erase below. -/
  susp : Nat := 0
  /-- A suspend that waits to take effect: 0 none, 1 auto, 2 command. -/
  req : Nat := 0
  /-- The erase has resumed, and pulses completed since. -/
  resumed : Bool := false
  guard : Nat := 0
  /-- Model time at which the current erase began. -/
  began : Option Nat := none
  /-- Opcode armed, as written. -/
  cmd : Nat := 0
  /-- Weak lines queued, the scrub's next line, yields below 1,024, and lines refreshed since the start by block. -/
  weak : List Nat := []
  line : Nat := 0
  yields : Nat := 0
  refreshed : List (Nat × Nat) := []
  deriving DecidableEq, Repr

/-! ### Chain ports and topology (12_melnus_chain_link.md, 13_chain_topology_tunnel_and_sleep.md) -/

/-- A message in the replay buffer (R335): LSEQ, times replayed, stomped copy. -/
structure Rep where
  seq : Nat
  times : Nat
  stomp : Bool
  m : Msg
  deriving DecidableEq, Repr

/-- A message waiting to be sent: the port it came in on, if it is passed through. -/
structure Wait where
  src : Option Nat
  stomp : Bool
  m : Msg
  deriving DecidableEq, Repr

/-- A chain port beyond its registers. Lists of pairs are by virtual lane. -/
structure Port where
  /-- The partner's TRAIN: role, version, RX_STATE; its PARAM_OK; its capacities; this side's PARAM_OK. -/
  partner : Option (Nat × Nat × Nat) := none
  partnerOk : Bool := false
  caps : List (Nat × Nat) := []
  ownOk : Bool := false
  /-- KEY blocks received, by number; the key drawn or installed. -/
  keyParts : List (Nat × Nat) := []
  key : Option Nat := none
  /-- Cells sent and the partner's cumulative freed count as last taken; cells freed, freed and not yet returned, and held. -/
  sent : List (Nat × Nat) := []
  credited : List (Nat × Nat) := []
  freed : List (Nat × Nat) := []
  unret : List (Nat × Nat) := []
  held : List (Nat × Nat) := []
  /-- Cells mixed in each direction since the key was installed (R329). -/
  mixTx : Nat := 0
  mixRx : Nat := 0
  /-- Next LSEQ to send, LSEQ expected, messages accepted since the last ACK. -/
  txSeq : Nat := 0
  rxSeq : Nat := 0
  unacked : Nat := 0
  /-- Model time of the last NAK for a later LSEQ, ns. -/
  nakAt : Option Nat := none
  replay : List Rep := []
  /-- LSEQs still to be sent again. -/
  again : List Nat := []
  waits : List Wait := []
  /-- VL3 had the last turn of the two lower lanes; lanes whose last message was passed through, as a mask. -/
  last3 : Bool := false
  lastFwd : Nat := 0
  /-- QUIET has been received (R363). -/
  quiet : Bool := false
  deriving DecidableEq, Repr

/-- Roles, walks, tunnels and sleep rounds beyond the registers. -/
structure Enu where
  /-- The head's walk: number, and whether it is a partial one; the number of the last walk. -/
  walk : Nat := 0
  partWalk : Bool := false
  /-- Units reached, as this member knows them to lie downstream (log entry 18); those assigned in the present walk. -/
  down : Nat := 0
  /-- Operations of other units that wait for a token or for credits, with their origins' messages. -/
  rmtWait : List Msg := []
  seen : Nat := 0
  seenWalk : Option Nat := none
  /-- The unit has been a member since its start or since it became head: its host is the head's (R345, R353). -/
  tunneled : Bool := false
  /-- An election has been lost in this start. -/
  lost : Bool := false
  /-- The token of this walk is held until ADDR_ASSIGN: HOPNO and WALK. -/
  token : Option (Nat × Nat) := none
  /-- A lost election's own BEACON is due again after its backoff. -/
  backoff : Bool := false
  /-- POLICY of the last TOPO_UPDATE (R353). -/
  policy : Nat := 0
  /-- Host link as the head last announced it. -/
  announced : Bool := false
  /-- Sleep round: number, votes READY received, own vote READY given, SLEEP_COMMIT taken, and a vote still to be given. -/
  round : Nat := 0
  votes : Nat := 0
  voted : Bool := false
  committed : Bool := false
  voting : Bool := false
  deriving DecidableEq, Repr

/-! ### Harrier (14_harrier_scan_engine.md) -/

/-- A command whose replies are outstanding on a scan link (R378). -/
inductive HCmd where
  | step
  /-- IDQ to the board at this position. -/
  | idq (pos : Nat)
  /-- CFG of this board register. -/
  | cfg (reg : Nat)
  deriving DecidableEq, Repr

/-- A scan link beyond its registers: SEQ of the last command, the command outstanding, the boards (as a mask) whose replies it
waits for, and replies missing in a row. -/
structure HLink where
  seq : Nat := 255
  cmd : Option HCmd := none
  need : Nat := 0
  miss : Nat := 0
  deriving DecidableEq, Repr

/-- A reply to a STEP: key 4 × link + board, its nine words, and the time of its receipt. -/
structure HRep where
  key : Nat
  words : List W32
  ns : W32
  sec : W32
  deriving DecidableEq, Repr

/-- A running scan. -/
structure Scan where
  tag : Nat
  /-- 0 waiting for its links, 1 sending CFG, 2 stepping. -/
  ph : Nat := 0
  reread : Bool := false
  /-- The copy of the map, and the points to drive in ascending order. -/
  map : List Nat := []
  pts : List Nat := []
  /-- The STEP sent last; none before STEP 0. -/
  j : Option Nat := none
  /-- The point before it has been driven again (R386). -/
  redo : Bool := false
  /-- The replies to STEP `j` were not all good: its point is to be driven again. -/
  lostStep : Bool := false
  reps : List HRep := []
  tries : Nat := 0
  mism : Nat := 0
  driven : Nat := 0
  trunc : Bool := false
  retried : Bool := false
  held : Bool := false
  /-- Model time since which a STEP is held, ns; time held before, ns. -/
  heldAt : Option Nat := none
  holdNs : Nat := 0
  /-- A selected link has left UP since the last STEP (R387). -/
  relink : Bool := false
  deriving DecidableEq, Repr

/-- Harrier beyond its registers. -/
structure Har where
  /-- Links of the running scan; levels of the HAR_XOFF pins; both as masks. -/
  links : Nat := 0
  pins : Nat := 0
  lk : List (Nat × HLink) := []
  /-- Links to which a HAR_BCFG register written since their last CFG is still to be sent. -/
  dirty : Nat := 0
  scan : Option Scan := none
  deriving DecidableEq, Repr

/-! ### Vehicle bus units (16_vehicle_bus_units.md) -/

/-- A transmit buffer of a CAN controller that is not FREE (R425). -/
structure TxBuf where
  /-- The VBU_TX in it; 1 PENDING, 2 ACTIVE, 3 HELD; its data; its place in the order of filling. -/
  op : Nat
  st : Nat
  data : List Byte
  ord : Nat
  /-- Attempts that failed; nanosecond word of the last start of frame; ABORT_TX has named it while ACTIVE. -/
  att : Nat := 0
  sof : W32 := 0#32
  abort : Bool := false
  deriving DecidableEq, Repr

/-- A CAN controller beyond its registers. -/
structure Can where
  /-- The error counters as they count (R431). -/
  tec : Nat := 0
  rxc : Nat := 0
  bufs : List (Nat × TxBuf) := []
  /-- Waiting VBU_TX and their data, in dispatch order. -/
  waitq : List (Nat × List Byte) := []
  ord : Nat := 0
  /-- The suspend transmission time runs (R428). -/
  susp : Bool := false
  /-- The error ring by position: the words of CAN_ELOG_W0 and W1; the next position. -/
  elog : List (Nat × (W32 × W32)) := []
  enext : Nat := 0
  /-- A STOP that lets the frame on the bus finish, and whether that frame is being received. -/
  stop : Option Nat := none
  rxing : Bool := false
  /-- VBU_CTRL RECOVER operations that wait for ACTIVE. -/
  recs : List Nat := []
  deriving DecidableEq, Repr

/-- The header that a LIN unit has sent or seen: the frame ID, whether this unit sends the response, and the time of the
break. -/
structure LinHdr where
  id : Nat
  own : Bool
  ns : W32
  sec : W32
  deriving DecidableEq, Repr

/-- A VBU_TX of a LIN unit: its data; attempts failed, or headers passed (R441, R442). -/
structure LinTx where
  op : Nat
  data : List Byte
  att : Nat := 0
  deriving DecidableEq, Repr

/-- A LIN unit beyond its registers: a commander's queue, the first being served, or a responder's VBU_TX; the frame on the bus;
response data loaded, by ID. -/
structure Lin where
  q : List LinTx := []
  hdr : Option LinHdr := none
  data : List (Nat × List Byte) := []
  deriving DecidableEq, Repr

/-- Status nibble bits 2 and 3 of a SENT frame, and the time of its calibration pulse. -/
structure SentBit where
  b2 : Bool
  b3 : Bool
  ns : W32
  sec : W32
  deriving DecidableEq, Repr

/-- A SENT receiver beyond its registers: the previous calibration pulse, and the serial message in assembly. -/
structure Sent where
  cal : Option Nat := none
  win : List SentBit := []
  deriving DecidableEq, Repr

/-- The vehicle bus units. -/
structure Vbu where
  can : List (Nat × Can) := []
  lin : List (Nat × Lin) := []
  sent : List (Nat × Sent) := []
  /-- Frames in the receive paths (R436), by producer code: the FIFO and the items. -/
  rx : List (Nat × List (Nat × List Item)) := []
  deriving DecidableEq, Repr

/-! ### Osprey (17_osprey_ism_baseband.md) -/

/-- Osprey beyond its registers. -/
structure Osp where
  /-- The profile read at the last entry to SEARCH: number and words. -/
  pidx : Nat := 0
  prof : List W32 := []
  /-- Gain code; correlation at detection, 1/64; frozen offset, Hz; RSSI. -/
  gain : Nat := 0
  corr : Nat := 0
  afc : Int := 0
  rssi : Int := 0
  /-- Info bits decoded that make no whole byte yet, each with whether its codeword failed; payload bytes that the packet has, once
  known; bytes not yet pushed; bytes decoded, and bytes pushed; codewords decoded, corrected and failed. -/
  info : List (Bool × Bool) := []
  len : Option Nat := none
  bytes : List (Byte × Bool) := []
  got : Nat := 0
  put : Nat := 0
  cwTotal : Nat := 0
  cwCorr : Nat := 0
  cwFail : Nat := 0
  /-- OSP_TX held and their payloads, the first being served. -/
  txq : List (Nat × List Byte) := []
  /-- Its place: 0 a repetition is due, 1 keyed, 2 in the gap; repetitions sent; time waited for the receiver, ns; since when it
  waits; the time of its first sample. -/
  tph : Nat := 0
  reps : Nat := 0
  waitNs : Nat := 0
  waitFrom : Option Nat := none
  first : Option W32 := none
  /-- Level of OSP_RXEN. -/
  rxen : Bool := false
  deriving DecidableEq, Repr

/-! ### Service tag (19_sundene_tag.md) -/

/-- A field command's access phase (R510): a read with its response from the snapshot, or the programming of a lock bit, and whether the
Option flag has the answer wait for the reader's EOF. -/
inductive TagPhase where
  | read (resp : List Byte)
  | lock (block : Nat)
  deriving DecidableEq, Repr

/-- A shadow page (R512): its page and bytes, the page's locked blocks when it was checked, verifies failed, and whether its commit is
due. -/
structure Shadow where
  page : Nat
  data : List Byte
  locked : Nat
  fails : Nat := 0
  due : Bool := false
  deriving DecidableEq, Repr

/-- A TAG_LOCK_CMD under way (R524): the present word, the range and direction, the live word as its shadow was made, whether the
commit is due, and since when it waits. -/
structure TagLk where
  word : Nat
  first : Nat
  last : Nat
  unlock : Bool
  live : W32
  due : Bool := false
  from_ : Option Nat := none
  deriving DecidableEq, Repr

/-- The tag beyond its registers. -/
structure Tag where
  /-- Field side: 0 POWER_OFF, 1 READY, 2 QUIET. -/
  field : Nat := 0
  /-- A field session runs. -/
  sess : Bool := false
  phase : Option TagPhase := none
  shadow : Option Shadow := none
  /-- The running operation waits for an access phase, since this model time; the time it has waited, ns. -/
  from_ : Option Nat := none
  waitNs : Nat := 0
  lk : Option TagLk := none
  deriving DecidableEq, Repr

/-! ### Lifecycle and BIST (22_lifecycle_and_bist.md) -/

/-- The BIST service beyond its registers. -/
structure Bst where
  /-- The run at the head: its operation and target; result words, status and patterns, once compared. -/
  tag : Nat := 0
  dom : Nat := 0
  ret : Option Ret := none
  pats : Nat := 0
  deriving DecidableEq, Repr

/-! ### Test access port (24_pins_and_package.md) -/

/-- The TAP (R600, R601): its instruction and the boundary register's update stage. -/
structure Tap where
  ir : Nat := 1
  cells : List Bool := []
  /-- The user I/O is driven by the image (it is kept here for the pins that the boundary cells give back). -/
  io : Bool := false
  deriving DecidableEq, Repr

end Sys2Proof.Machine
end

