-- ==== Sys2Proof/Config.lean ====
section
/-! DEFINITION. What the spec leaves to the die or leaves open: constants and functions with no body. Nothing can
be proved about their values (log entries 2, 3 and 5). -/
namespace Sys2Proof

/-- Die ID [31:0] (DEV_DIE_LO, R585 "Die"). -/
opaque Config.dieLo : W32
/-- Die ID [63:32] (DEV_DIE_HI, R585 "Die"). -/
opaque Config.dieHi : W32
/-- IC manufacturer code registered to Koseden, UID [55:48] of the tag (R506). -/
opaque Config.icMfr : Byte
/-- UID [31:0] of the tag (TAG_UID_LO): die ID [31:0] (R506). -/
def Config.uidLo : W32 := Config.dieLo
/-- UID [63:32] of the tag (TAG_UID_HI): 0xE0, the manufacturer code and die ID [47:32] (R506). -/
def Config.uidHi : W32 := 0xE0#8 ++ Config.icMfr ++ Config.dieHi.extractLsb' 0 16
/-- The free value that the draw numbered `n` gives (log entry 2). -/
opaque Config.freeValue : Nat → W64
/-- A byte of storage whose content the spec leaves undefined: store `k`, the number `e` of times its content was lost, address `a` (log entry 3). -/
opaque Config.undefByte : Nat → Nat → Nat → Byte
/-- The golden signature of reset domain `d` in the boot ROM for `p` patterns (R577; the values are not published). -/
opaque Config.golden : Nat → Nat → W64

end Sys2Proof
end

