-- ==== Sys2Proof/Machine/Regs.lean ====
section
/-! DEFINITION. The register map: every register of Table 23-2 by its offset in register space (its BAR0 offset,
R39), and every field of the defining chapters' register tables by its register, lowest bit and width. -/
namespace Sys2Proof

/-- A field of a register: the register's offset, the field's lowest bit and its width. -/
structure Fld where
  reg : Nat
  lo : Nat
  width : Nat
  deriving DecidableEq, Repr

/-! ### Block DEV at 0x40000000 (Table 23-1, Table 23-2) -/
abbrev R.DEV_ID : Nat := 0x0
abbrev R.DEV_DIE_LO : Nat := 0x4
abbrev R.DEV_DIE_HI : Nat := 0x8
abbrev R.DEV_ALARM : Nat := 0x10
abbrev R.DEV_ALARM_TEST : Nat := 0x14
abbrev R.DEV_ALARM_CNT : Nat := 0x18
def F.DEV_DIE_LO_DIE : Fld := ⟨R.DEV_DIE_LO, 0, 32⟩
def F.DEV_DIE_HI_DIE : Fld := ⟨R.DEV_DIE_HI, 0, 32⟩
def F.DEV_ALARM_SRC : Fld := ⟨R.DEV_ALARM, 0, 10⟩
def F.DEV_ALARM_TEST_FORCE : Fld := ⟨R.DEV_ALARM_TEST, 0, 1⟩
def F.DEV_ALARM_CNT_COUNT : Fld := ⟨R.DEV_ALARM_CNT, 0, 32⟩

/-! ### Block PWR at 0x40010000 (Table 23-1, Table 23-2) -/
abbrev R.PWR_STAT : Nat := 0x10000
abbrev R.PWR_CTL : Nat := 0x10004
abbrev R.PWR_GRANT_CTL : Nat := 0x10008
abbrev R.PWR_WAKE_EN : Nat := 0x1000C
abbrev R.PWR_WAKE_SRC : Nat := 0x10010
abbrev R.PWR_WAKE_TIMER : Nat := 0x10014
abbrev R.PWR_SLEEP_BANKS : Nat := 0x10018
abbrev R.PWR_BANK_DEF : Nat := 0x1001C
abbrev R.PWR_EVT : Nat := 0x10020
abbrev R.PWR_RAIL_STAT : Nat := 0x10024
abbrev R.PWR_START_TIME : Nat := 0x10028
abbrev R.PWR_GRANT_WAIT : Nat := 0x1002C
def F.PWR_STAT_STATE : Fld := ⟨R.PWR_STAT, 0, 2⟩
def F.PWR_STAT_STAGE : Fld := ⟨R.PWR_STAT, 4, 3⟩
def F.PWR_STAT_GROUP : Fld := ⟨R.PWR_STAT, 8, 3⟩
def F.PWR_STAT_WAVE : Fld := ⟨R.PWR_STAT, 12, 4⟩
def F.PWR_STAT_GRANT_IN : Fld := ⟨R.PWR_STAT, 16, 1⟩
def F.PWR_STAT_GRANT_OUT : Fld := ⟨R.PWR_STAT, 17, 1⟩
def F.PWR_STAT_SELF_GRANT : Fld := ⟨R.PWR_STAT, 18, 1⟩
def F.PWR_STAT_RECOVERY : Fld := ⟨R.PWR_STAT, 19, 1⟩
def F.PWR_STAT_BUSY : Fld := ⟨R.PWR_STAT, 20, 1⟩
def F.PWR_CTL_TARGET : Fld := ⟨R.PWR_CTL, 0, 1⟩
def F.PWR_GRANT_CTL_POINT : Fld := ⟨R.PWR_GRANT_CTL, 0, 3⟩
def F.PWR_GRANT_CTL_TIMEOUT : Fld := ⟨R.PWR_GRANT_CTL, 8, 8⟩
def F.PWR_WAKE_EN_PIN : Fld := ⟨R.PWR_WAKE_EN, 0, 1⟩
def F.PWR_WAKE_SRC_PIN : Fld := ⟨R.PWR_WAKE_SRC, 0, 1⟩
def F.PWR_WAKE_EN_TIMER : Fld := ⟨R.PWR_WAKE_EN, 1, 1⟩
def F.PWR_WAKE_SRC_TIMER : Fld := ⟨R.PWR_WAKE_SRC, 1, 1⟩
def F.PWR_WAKE_EN_CHAIN : Fld := ⟨R.PWR_WAKE_EN, 2, 1⟩
def F.PWR_WAKE_SRC_CHAIN : Fld := ⟨R.PWR_WAKE_SRC, 2, 1⟩
def F.PWR_WAKE_EN_PERST : Fld := ⟨R.PWR_WAKE_EN, 3, 1⟩
def F.PWR_WAKE_SRC_PERST : Fld := ⟨R.PWR_WAKE_SRC, 3, 1⟩
def F.PWR_WAKE_EN_CAN_SW : Fld := ⟨R.PWR_WAKE_EN, 4, 1⟩
def F.PWR_WAKE_SRC_CAN_SW : Fld := ⟨R.PWR_WAKE_SRC, 4, 1⟩
def F.PWR_WAKE_EN_LIN : Fld := ⟨R.PWR_WAKE_EN, 5, 1⟩
def F.PWR_WAKE_SRC_LIN : Fld := ⟨R.PWR_WAKE_SRC, 5, 1⟩
def F.PWR_WAKE_SRC_LATE : Fld := ⟨R.PWR_WAKE_SRC, 8, 1⟩
def F.PWR_WAKE_TIMER_MS : Fld := ⟨R.PWR_WAKE_TIMER, 0, 24⟩
def F.PWR_SLEEP_BANKS_RET : Fld := ⟨R.PWR_SLEEP_BANKS, 0, 8⟩
def F.PWR_BANK_DEF_ON : Fld := ⟨R.PWR_BANK_DEF, 0, 8⟩
def F.PWR_EVT_BO_VCC : Fld := ⟨R.PWR_EVT, 0, 1⟩
def F.PWR_EVT_BO_AUX : Fld := ⟨R.PWR_EVT, 1, 1⟩
def F.PWR_EVT_BO_SER : Fld := ⟨R.PWR_EVT, 2, 1⟩
def F.PWR_EVT_BO_IO : Fld := ⟨R.PWR_EVT, 3, 1⟩
def F.PWR_EVT_GRANT_TO : Fld := ⟨R.PWR_EVT, 4, 1⟩
def F.PWR_EVT_RAIL_OFF_SLEEP : Fld := ⟨R.PWR_EVT, 5, 1⟩
def F.PWR_RAIL_STAT_VCC : Fld := ⟨R.PWR_RAIL_STAT, 0, 1⟩
def F.PWR_RAIL_STAT_VCCAUX : Fld := ⟨R.PWR_RAIL_STAT, 1, 1⟩
def F.PWR_RAIL_STAT_VCCOWL : Fld := ⟨R.PWR_RAIL_STAT, 2, 1⟩
def F.PWR_RAIL_STAT_VCCSER : Fld := ⟨R.PWR_RAIL_STAT, 3, 1⟩
def F.PWR_RAIL_STAT_VCCSERA : Fld := ⟨R.PWR_RAIL_STAT, 4, 1⟩
def F.PWR_RAIL_STAT_VCCIO : Fld := ⟨R.PWR_RAIL_STAT, 8, 8⟩
def F.PWR_START_TIME_US : Fld := ⟨R.PWR_START_TIME, 0, 24⟩
def F.PWR_GRANT_WAIT_US : Fld := ⟨R.PWR_GRANT_WAIT, 0, 24⟩

/-! ### Block RST at 0x40020000 (Table 23-1, Table 23-2) -/
abbrev R.RST_CAUSE : Nat := 0x20000
abbrev R.RST_CTL : Nat := 0x20004
abbrev R.RST_DRAIN : Nat := 0x20008
abbrev R.RST_UNIT : Nat := 0x2000C
abbrev R.RST_DOM_REQ : Nat := 0x20010
abbrev R.RST_DOM_HOLD : Nat := 0x20014
abbrev R.RST_DOM_FENCED : Nat := 0x20018
abbrev R.RST_DOM_INRST : Nat := 0x2001C
abbrev R.RST_DOM_RDYTO : Nat := 0x20020
abbrev R.RST_MIDBURST : Nat := 0x20024
abbrev R.RST_CNT_CLR : Nat := 0x20028
abbrev R.RST_LOG_HEAD : Nat := 0x20040
abbrev R.RST_LOG_SEL : Nat := 0x20044
abbrev R.RST_LOG_W (i : Nat) : Nat := 0x20048 + 4 * (i % 4)
abbrev R.RST_DOM_STAT (i : Nat) : Nat := 0x20100 + 4 * (i % 24)
def F.RST_CAUSE_LAST : Fld := ⟨R.RST_CAUSE, 0, 4⟩
def F.RST_CAUSE_COUNT : Fld := ⟨R.RST_CAUSE, 8, 8⟩
def F.RST_CTL_WDT_ESC : Fld := ⟨R.RST_CTL, 0, 1⟩
def F.RST_CTL_CHN_RST_EN : Fld := ⟨R.RST_CTL, 1, 1⟩
def F.RST_CTL_ALARM_RDYTO : Fld := ⟨R.RST_CTL, 2, 1⟩
def F.RST_DRAIN_US : Fld := ⟨R.RST_DRAIN, 0, 11⟩
def F.RST_UNIT_KEY : Fld := ⟨R.RST_UNIT, 0, 16⟩
def F.RST_DOM_REQ_REQ : Fld := ⟨R.RST_DOM_REQ, 0, 24⟩
def F.RST_DOM_HOLD_HOLD : Fld := ⟨R.RST_DOM_HOLD, 0, 24⟩
def F.RST_DOM_FENCED_FENCED : Fld := ⟨R.RST_DOM_FENCED, 0, 24⟩
def F.RST_DOM_INRST_INRST : Fld := ⟨R.RST_DOM_INRST, 0, 24⟩
def F.RST_DOM_RDYTO_RDYTO : Fld := ⟨R.RST_DOM_RDYTO, 0, 24⟩
def F.RST_MIDBURST_COUNT : Fld := ⟨R.RST_MIDBURST, 0, 16⟩
def F.RST_CNT_CLR_DOM : Fld := ⟨R.RST_CNT_CLR, 0, 24⟩
def F.RST_CNT_CLR_MIDBURST : Fld := ⟨R.RST_CNT_CLR, 24, 1⟩
def F.RST_DOM_STAT_RESETS (i : Nat) : Fld := ⟨R.RST_DOM_STAT i, 0, 8⟩
def F.RST_DOM_STAT_ABORTS (i : Nat) : Fld := ⟨R.RST_DOM_STAT i, 8, 12⟩
def F.RST_DOM_STAT_DISCARDS (i : Nat) : Fld := ⟨R.RST_DOM_STAT i, 20, 12⟩
def F.RST_LOG_HEAD_INDEX : Fld := ⟨R.RST_LOG_HEAD, 0, 6⟩
def F.RST_LOG_HEAD_COUNT : Fld := ⟨R.RST_LOG_HEAD, 16, 16⟩
def F.RST_LOG_SEL_INDEX : Fld := ⟨R.RST_LOG_SEL, 0, 6⟩

/-! ### Block CFG at 0x40030000 (Table 23-1, Table 23-2) -/
abbrev R.CFG_STAT : Nat := 0x30000
abbrev R.CFG_CTL : Nat := 0x30004
abbrev R.CFG_BOOT_LOG : Nat := 0x30008
abbrev R.CFG_BOOT_SEL : Nat := 0x3000C
abbrev R.CFG_SEQ_STAT : Nat := 0x30010
abbrev R.CFG_LOCK_MISS : Nat := 0x30014
abbrev R.CFG_PLANE (i : Nat) : Nat := 0x30020 + 4 * (i % 2)
abbrev R.CFG_WEAR (i : Nat) : Nat := 0x30028 + 4 * (i % 2)
abbrev R.CFG_HO_CNT : Nat := 0x30030
abbrev R.CFG_HO_LAST : Nat := 0x30034
def F.CFG_BOOT_LOG_FINAL : Fld := ⟨R.CFG_BOOT_LOG, 0, 3⟩
def F.CFG_BOOT_LOG_FAILS : Fld := ⟨R.CFG_BOOT_LOG, 4, 3⟩
def F.CFG_BOOT_LOG_ATT0 : Fld := ⟨R.CFG_BOOT_LOG, 8, 6⟩
def F.CFG_BOOT_LOG_ATT1 : Fld := ⟨R.CFG_BOOT_LOG, 14, 6⟩
def F.CFG_BOOT_LOG_ATT2 : Fld := ⟨R.CFG_BOOT_LOG, 20, 6⟩
def F.CFG_BOOT_LOG_ATT3 : Fld := ⟨R.CFG_BOOT_LOG, 26, 6⟩
def F.CFG_STAT_ACTIVE : Fld := ⟨R.CFG_STAT, 0, 1⟩
def F.CFG_STAT_SRC_PLANE : Fld := ⟨R.CFG_STAT, 1, 1⟩
def F.CFG_STAT_BOOT : Fld := ⟨R.CFG_STAT, 2, 1⟩
def F.CFG_STAT_VALID : Fld := ⟨R.CFG_STAT, 4, 2⟩
def F.CFG_STAT_OP : Fld := ⟨R.CFG_STAT, 8, 2⟩
def F.CFG_STAT_OP_PLANE : Fld := ⟨R.CFG_STAT, 10, 1⟩
def F.CFG_STAT_QUEUE : Fld := ⟨R.CFG_STAT, 12, 4⟩
def F.CFG_STAT_CFGSRC : Fld := ⟨R.CFG_STAT, 16, 2⟩
def F.CFG_STAT_SEL_ERR : Fld := ⟨R.CFG_STAT, 18, 1⟩
def F.CFG_STAT_LOCK_TO : Fld := ⟨R.CFG_STAT, 19, 1⟩
def F.CFG_STAT_ROLLBACK : Fld := ⟨R.CFG_STAT, 20, 1⟩
def F.CFG_CTL_WEAR_OVERRIDE : Fld := ⟨R.CFG_CTL, 0, 1⟩
def F.CFG_CTL_LOCKTO_ALARM : Fld := ⟨R.CFG_CTL, 1, 1⟩
def F.CFG_CTL_HO_ALARM : Fld := ⟨R.CFG_CTL, 2, 1⟩
def F.CFG_BOOT_SEL_PLANE : Fld := ⟨R.CFG_BOOT_SEL, 0, 1⟩
def F.CFG_BOOT_SEL_KEY : Fld := ⟨R.CFG_BOOT_SEL, 16, 16⟩
def F.CFG_SEQ_STAT_INDEX : Fld := ⟨R.CFG_SEQ_STAT, 0, 3⟩
def F.CFG_SEQ_STAT_DONE : Fld := ⟨R.CFG_SEQ_STAT, 3, 1⟩
def F.CFG_SEQ_STAT_STEPS : Fld := ⟨R.CFG_SEQ_STAT, 4, 4⟩
def F.CFG_LOCK_MISS_ISL : Fld := ⟨R.CFG_LOCK_MISS, 0, 25⟩
def F.CFG_PLANE_FRAME_CNT (i : Nat) : Fld := ⟨R.CFG_PLANE i, 0, 11⟩
def F.CFG_PLANE_VALID (i : Nat) : Fld := ⟨R.CFG_PLANE i, 16, 1⟩
def F.CFG_PLANE_BOOT_FAILS (i : Nat) : Fld := ⟨R.CFG_PLANE i, 24, 8⟩
def F.CFG_WEAR_WEAR (i : Nat) : Fld := ⟨R.CFG_WEAR i, 0, 32⟩
def F.CFG_HO_CNT_DONE : Fld := ⟨R.CFG_HO_CNT, 0, 16⟩
def F.CFG_HO_CNT_ROLLBACKS : Fld := ⟨R.CFG_HO_CNT, 16, 8⟩
def F.CFG_HO_CNT_ABORTED : Fld := ⟨R.CFG_HO_CNT, 24, 8⟩
def F.CFG_HO_LAST_US : Fld := ⟨R.CFG_HO_LAST, 0, 24⟩

/-! ### Block DEP at 0x40040000 (Table 23-1, Table 23-2) -/
abbrev R.DEP_STAT : Nat := 0x40000
abbrev R.DEP_CTL : Nat := 0x40004
abbrev R.DEP_GEN : Nat := 0x40008
abbrev R.DEP_FLASH : Nat := 0x4000C
abbrev R.DEP_EVT : Nat := 0x40010
abbrev R.DEP_CNT : Nat := 0x40014
abbrev R.DEP_SCRUB : Nat := 0x40018
abbrev R.DEP_CHN : Nat := 0x4001C
abbrev R.DEP_SLOT_W0 (i : Nat) : Nat := 0x40040 + 8 * (i % 8)
abbrev R.DEP_SLOT_W1 (i : Nat) : Nat := 0x40044 + 8 * (i % 8)
def F.DEP_STAT_PRESENT : Fld := ⟨R.DEP_STAT, 0, 1⟩
def F.DEP_STAT_FORMATTED : Fld := ⟨R.DEP_STAT, 1, 1⟩
def F.DEP_STAT_MODE : Fld := ⟨R.DEP_STAT, 2, 2⟩
def F.DEP_STAT_CLK : Fld := ⟨R.DEP_STAT, 4, 3⟩
def F.DEP_STAT_SUSPEND : Fld := ⟨R.DEP_STAT, 7, 1⟩
def F.DEP_STAT_OP : Fld := ⟨R.DEP_STAT, 8, 3⟩
def F.DEP_STAT_COPY : Fld := ⟨R.DEP_STAT, 11, 1⟩
def F.DEP_STAT_QUEUE : Fld := ⟨R.DEP_STAT, 12, 4⟩
def F.DEP_CTL_SCRUB_EN : Fld := ⟨R.DEP_CTL, 0, 1⟩
def F.DEP_CTL_REFRESH_EN : Fld := ⟨R.DEP_CTL, 1, 1⟩
def F.DEP_CTL_LOST_ALARM : Fld := ⟨R.DEP_CTL, 2, 1⟩
def F.DEP_CTL_SCRUB_HOURS : Fld := ⟨R.DEP_CTL, 8, 8⟩
def F.DEP_GEN_GEN : Fld := ⟨R.DEP_GEN, 0, 32⟩
def F.DEP_FLASH_SECTORS : Fld := ⟨R.DEP_FLASH, 0, 12⟩
def F.DEP_FLASH_MFR : Fld := ⟨R.DEP_FLASH, 16, 8⟩
def F.DEP_EVT_WEAK : Fld := ⟨R.DEP_EVT, 0, 1⟩
def F.DEP_EVT_REFRESHED : Fld := ⟨R.DEP_EVT, 1, 1⟩
def F.DEP_EVT_SLOT_LOST : Fld := ⟨R.DEP_EVT, 2, 1⟩
def F.DEP_EVT_NEW_BAD : Fld := ⟨R.DEP_EVT, 3, 1⟩
def F.DEP_EVT_DIR_COPY_BAD : Fld := ⟨R.DEP_EVT, 4, 1⟩
def F.DEP_EVT_WORN : Fld := ⟨R.DEP_EVT, 5, 1⟩
def F.DEP_EVT_ROUND_ABORT : Fld := ⟨R.DEP_EVT, 6, 1⟩
def F.DEP_EVT_RESEND : Fld := ⟨R.DEP_EVT, 7, 1⟩
def F.DEP_CNT_RETRIES : Fld := ⟨R.DEP_CNT, 0, 16⟩
def F.DEP_CNT_BAD : Fld := ⟨R.DEP_CNT, 16, 16⟩
def F.DEP_SCRUB_PASSES : Fld := ⟨R.DEP_SCRUB, 0, 16⟩
def F.DEP_SCRUB_YIELDS : Fld := ⟨R.DEP_SCRUB, 16, 16⟩
def F.DEP_CHN_ROUNDS : Fld := ⟨R.DEP_CHN, 0, 16⟩
def F.DEP_CHN_RESENDS : Fld := ⟨R.DEP_CHN, 16, 8⟩
def F.DEP_CHN_UNTAKEN : Fld := ⟨R.DEP_CHN, 24, 8⟩
def F.DEP_SLOT_W0_W (i : Nat) : Fld := ⟨R.DEP_SLOT_W0 i, 0, 32⟩
def F.DEP_SLOT_W1_W (i : Nat) : Fld := ⟨R.DEP_SLOT_W1 i, 0, 32⟩

/-! ### Block NVA at 0x40050000 (Table 23-1, Table 23-2) -/
abbrev R.NVA_STAT : Nat := 0x50000
abbrev R.NVA_CTL : Nat := 0x50004
abbrev R.NVA_KEY : Nat := 0x50008
abbrev R.NVA_CMD : Nat := 0x5000C
abbrev R.NVA_ADDR : Nat := 0x50010
abbrev R.NVA_PAGE_SRC : Nat := 0x50014
abbrev R.NVA_DATA (i : Nat) : Nat := 0x50020 + 4 * (i % 4)
abbrev R.NVA_ERASE_AGE : Nat := 0x50030
abbrev R.NVA_ERASE_SUSP : Nat := 0x50034
abbrev R.NVA_EVT : Nat := 0x50038
abbrev R.NVA_EVT_CNT : Nat := 0x5003C
abbrev R.NVA_XO_LAST : Nat := 0x50040
abbrev R.NVA_ECC : Nat := 0x50044
abbrev R.NVA_SCRUB_CTL : Nat := 0x50048
abbrev R.NVA_SCRUB_STAT : Nat := 0x5004C
abbrev R.NVA_WP_LOCK : Nat := 0x50050
abbrev R.NVA_TOTAL_LO : Nat := 0x50058
abbrev R.NVA_TOTAL_HI : Nat := 0x5005C
abbrev R.NVA_XO (i : Nat) : Nat := 0x50060 + 4 * (i % 4)
abbrev R.NVA_WP_SET (i : Nat) : Nat := 0x50100 + 4 * (i % 64)
abbrev R.NVA_WP_CLR (i : Nat) : Nat := 0x50200 + 4 * (i % 64)
abbrev R.NVA_ECNT (i : Nat) : Nat := 0x51000 + 4 * (i % 128)
def F.NVA_STAT_BUSY : Fld := ⟨R.NVA_STAT, 0, 1⟩
def F.NVA_STAT_SUSP : Fld := ⟨R.NVA_STAT, 1, 1⟩
def F.NVA_STAT_BY : Fld := ⟨R.NVA_STAT, 2, 1⟩
def F.NVA_STAT_NESTED : Fld := ⟨R.NVA_STAT, 3, 1⟩
def F.NVA_STAT_OP : Fld := ⟨R.NVA_STAT, 4, 3⟩
def F.NVA_STAT_SCRUB_REFRESH : Fld := ⟨R.NVA_STAT, 7, 1⟩
def F.NVA_STAT_SEQ : Fld := ⟨R.NVA_STAT, 8, 2⟩
def F.NVA_STAT_OWNER : Fld := ⟨R.NVA_STAT, 10, 1⟩
def F.NVA_STAT_DONE : Fld := ⟨R.NVA_STAT, 11, 1⟩
def F.NVA_STAT_CMD_ERR : Fld := ⟨R.NVA_STAT, 12, 4⟩
def F.NVA_STAT_QUEUE : Fld := ⟨R.NVA_STAT, 16, 4⟩
def F.NVA_CTL_WEAR_STOP : Fld := ⟨R.NVA_CTL, 0, 1⟩
def F.NVA_CTL_GUARD_EN : Fld := ⟨R.NVA_CTL, 1, 1⟩
def F.NVA_CTL_GUARD_PULSES : Fld := ⟨R.NVA_CTL, 8, 8⟩
def F.NVA_ERASE_AGE_MS : Fld := ⟨R.NVA_ERASE_AGE, 0, 24⟩
def F.NVA_ERASE_SUSP_SUSPENDS : Fld := ⟨R.NVA_ERASE_SUSP, 0, 16⟩
def F.NVA_ERASE_SUSP_PULSES : Fld := ⟨R.NVA_ERASE_SUSP, 16, 9⟩
def F.NVA_ERASE_SUSP_REPEATS : Fld := ⟨R.NVA_ERASE_SUSP, 25, 7⟩
def F.NVA_EVT_XO : Fld := ⟨R.NVA_EVT, 0, 1⟩
def F.NVA_EVT_RD_ERASING : Fld := ⟨R.NVA_EVT, 1, 1⟩
def F.NVA_EVT_UNCORR : Fld := ⟨R.NVA_EVT, 2, 1⟩
def F.NVA_EVT_WP_CLR_DENIED : Fld := ⟨R.NVA_EVT, 3, 1⟩
def F.NVA_EVT_WORN_ERASE : Fld := ⟨R.NVA_EVT, 4, 1⟩
def F.NVA_EVT_INCOMPLETE : Fld := ⟨R.NVA_EVT, 5, 1⟩
def F.NVA_EVT_CNT_CONFLICT : Fld := ⟨R.NVA_EVT_CNT, 0, 16⟩
def F.NVA_EVT_CNT_XO_COUNT : Fld := ⟨R.NVA_EVT_CNT, 16, 16⟩
def F.NVA_XO_LAST_OFFSET : Fld := ⟨R.NVA_XO_LAST, 0, 23⟩
def F.NVA_XO_LAST_MASTER : Fld := ⟨R.NVA_XO_LAST, 24, 6⟩
def F.NVA_ECC_CORR : Fld := ⟨R.NVA_ECC, 0, 16⟩
def F.NVA_ECC_UNCORR : Fld := ⟨R.NVA_ECC, 16, 16⟩
def F.NVA_SCRUB_CTL_SCRUB_EN : Fld := ⟨R.NVA_SCRUB_CTL, 0, 1⟩
def F.NVA_SCRUB_CTL_PASS_HOURS : Fld := ⟨R.NVA_SCRUB_CTL, 8, 8⟩
def F.NVA_SCRUB_STAT_PASSES : Fld := ⟨R.NVA_SCRUB_STAT, 0, 16⟩
def F.NVA_SCRUB_STAT_REFRESHED : Fld := ⟨R.NVA_SCRUB_STAT, 16, 8⟩
def F.NVA_SCRUB_STAT_YIELDS : Fld := ⟨R.NVA_SCRUB_STAT, 24, 8⟩
def F.NVA_WP_LOCK_LOCK : Fld := ⟨R.NVA_WP_LOCK, 0, 1⟩
def F.NVA_TOTAL_LO_TOTAL : Fld := ⟨R.NVA_TOTAL_LO, 0, 32⟩
def F.NVA_TOTAL_HI_TOTAL : Fld := ⟨R.NVA_TOTAL_HI, 0, 32⟩
def F.NVA_WP_SET_W (i : Nat) : Fld := ⟨R.NVA_WP_SET i, 0, 32⟩
def F.NVA_WP_CLR_W (i : Nat) : Fld := ⟨R.NVA_WP_CLR i, 0, 32⟩
def F.NVA_KEY_W : Fld := ⟨R.NVA_KEY, 0, 32⟩
def F.NVA_CMD_OPCODE : Fld := ⟨R.NVA_CMD, 0, 32⟩
def F.NVA_ADDR_OFFSET : Fld := ⟨R.NVA_ADDR, 0, 23⟩
def F.NVA_PAGE_SRC_ADDR : Fld := ⟨R.NVA_PAGE_SRC, 0, 32⟩
def F.NVA_DATA_W (i : Nat) : Fld := ⟨R.NVA_DATA i, 0, 32⟩
def F.NVA_XO_W (i : Nat) : Fld := ⟨R.NVA_XO i, 0, 32⟩
def F.NVA_ECNT_COUNT (i : Nat) : Fld := ⟨R.NVA_ECNT i, 0, 32⟩

/-! ### Block BNK at 0x40060000 (Table 23-1, Table 23-2) -/
abbrev R.BNK_CTL (i : Nat) : Nat := 0x60000 + 256 * (i % 8)
abbrev R.BNK_STAT (i : Nat) : Nat := 0x60004 + 256 * (i % 8)
abbrev R.BNK_COLL (i : Nat) : Nat := 0x60008 + 256 * (i % 8)
abbrev R.BNK_STARVE (i : Nat) : Nat := 0x6000C + 256 * (i % 8)
abbrev R.BNK_MAXWAIT (i : Nat) : Nat := 0x60010 + 256 * (i % 8)
abbrev R.BNK_CLR (i : Nat) : Nat := 0x60014 + 256 * (i % 8)
abbrev R.BNK_MRES (i : Nat) : Nat := 0x60020 + 256 * (i % 8)
abbrev R.BNK_MADDR (i : Nat) : Nat := 0x60024 + 256 * (i % 8)
abbrev R.BNK_MBIT (i j : Nat) : Nat := 0x60030 + 256 * (i % 8) + 4 * (j % 4)
abbrev R.BNK_FUSE (i j : Nat) : Nat := 0x60040 + 256 * (i % 8) + 4 * (j % 8)
abbrev R.BNK_FUSE_PROG (i : Nat) : Nat := 0x60060 + 256 * (i % 8)
abbrev R.BNK_EVT (i : Nat) : Nat := 0x60064 + 256 * (i % 8)
abbrev R.BNK_PSTATE : Nat := 0x60800
def F.BNK_CTL_MODE (i : Nat) : Fld := ⟨R.BNK_CTL i, 0, 1⟩
def F.BNK_CTL_PRIO (i : Nat) : Fld := ⟨R.BNK_CTL i, 1, 1⟩
def F.BNK_CTL_FAULT_ALARM (i : Nat) : Fld := ⟨R.BNK_CTL i, 2, 1⟩
def F.BNK_STAT_STATE (i : Nat) : Fld := ⟨R.BNK_STAT i, 0, 2⟩
def F.BNK_STAT_MARCH (i : Nat) : Fld := ⟨R.BNK_STAT i, 4, 2⟩
def F.BNK_STAT_ROW (i : Nat) : Fld := ⟨R.BNK_STAT i, 16, 12⟩
def F.BNK_COLL_COLL (i : Nat) : Fld := ⟨R.BNK_COLL i, 0, 16⟩
def F.BNK_COLL_LOCKWAIT (i : Nat) : Fld := ⟨R.BNK_COLL i, 16, 16⟩
def F.BNK_STARVE_STARVE (i : Nat) : Fld := ⟨R.BNK_STARVE i, 0, 32⟩
def F.BNK_MAXWAIT_TURNS (i : Nat) : Fld := ⟨R.BNK_MAXWAIT i, 0, 32⟩
def F.BNK_CLR_COLL (i : Nat) : Fld := ⟨R.BNK_CLR i, 0, 1⟩
def F.BNK_CLR_STARVE (i : Nat) : Fld := ⟨R.BNK_CLR i, 1, 1⟩
def F.BNK_CLR_MRES (i : Nat) : Fld := ⟨R.BNK_CLR i, 2, 1⟩
def F.BNK_MRES_FAULTS (i : Nat) : Fld := ⟨R.BNK_MRES i, 0, 16⟩
def F.BNK_MRES_ELEMENT (i : Nat) : Fld := ⟨R.BNK_MRES i, 16, 4⟩
def F.BNK_MRES_MODE (i : Nat) : Fld := ⟨R.BNK_MRES i, 20, 1⟩
def F.BNK_MRES_DONE (i : Nat) : Fld := ⟨R.BNK_MRES i, 21, 1⟩
def F.BNK_MRES_SHADOW_FAIL (i : Nat) : Fld := ⟨R.BNK_MRES i, 22, 1⟩
def F.BNK_MADDR_ADDR (i : Nat) : Fld := ⟨R.BNK_MADDR i, 0, 32⟩
def F.BNK_MBIT_BITS (i j : Nat) : Fld := ⟨R.BNK_MBIT i j, 0, 32⟩
def F.BNK_FUSE_VALID (i j : Nat) : Fld := ⟨R.BNK_FUSE i j, 0, 1⟩
def F.BNK_FUSE_SLICE (i j : Nat) : Fld := ⟨R.BNK_FUSE i j, 1, 3⟩
def F.BNK_FUSE_BIT (i j : Nat) : Fld := ⟨R.BNK_FUSE i j, 4, 7⟩
def F.BNK_FUSE_PROG_ENTRY (i : Nat) : Fld := ⟨R.BNK_FUSE_PROG i, 0, 3⟩
def F.BNK_FUSE_PROG_SLICE (i : Nat) : Fld := ⟨R.BNK_FUSE_PROG i, 3, 3⟩
def F.BNK_FUSE_PROG_BIT (i : Nat) : Fld := ⟨R.BNK_FUSE_PROG i, 6, 7⟩
def F.BNK_FUSE_PROG_KEY (i : Nat) : Fld := ⟨R.BNK_FUSE_PROG i, 16, 16⟩
def F.BNK_EVT_FAULT (i : Nat) : Fld := ⟨R.BNK_EVT i, 0, 1⟩
def F.BNK_EVT_FUSE_DENIED (i : Nat) : Fld := ⟨R.BNK_EVT i, 1, 1⟩
def F.BNK_EVT_OFFLINE_ACCESS (i : Nat) : Fld := ⟨R.BNK_EVT i, 2, 1⟩
def F.BNK_EVT_FUSE_DONE (i : Nat) : Fld := ⟨R.BNK_EVT i, 3, 1⟩
def F.BNK_PSTATE_STATE : Fld := ⟨R.BNK_PSTATE, 0, 16⟩
def F.BNK_PSTATE_FENCED : Fld := ⟨R.BNK_PSTATE, 16, 8⟩
def F.BNK_PSTATE_MARCHING : Fld := ⟨R.BNK_PSTATE, 24, 8⟩

/-! ### Block HIF at 0x40070000 (Table 23-1, Table 23-2) -/
abbrev R.HIF_STAT : Nat := 0x70000
abbrev R.HIF_CTL : Nat := 0x70004
abbrev R.HIF_CTX_DB : Nat := 0x70008
abbrev R.HIF_DEV_PEND : Nat := 0x70010
abbrev R.HIF_DEV_EN : Nat := 0x70014
abbrev R.HIF_INTN_EN : Nat := 0x70018
abbrev R.HIF_DEV_UNIT (i : Nat) : Nat := 0x7001C + 4 * (i % 2)
abbrev R.HIF_WIN_BASE (i : Nat) : Nat := 0x70040 + 8 * (i % 4)
abbrev R.HIF_WIN_UNIT (i : Nat) : Nat := 0x70044 + 8 * (i % 4)
abbrev R.HIF_HOLE_CNT : Nat := 0x70060
abbrev R.HIF_GATE_REFUSE : Nat := 0x70064
abbrev R.HIF_DB_ERR : Nat := 0x70068
abbrev R.HIF_DISCARD : Nat := 0x7006C
abbrev R.HIF_WIN_CNT : Nat := 0x70070
abbrev R.HIF_LINK_EVT : Nat := 0x70074
abbrev R.HIF_CNT_CLR : Nat := 0x70078
abbrev R.HIF_CLASS_WAIT (i : Nat) : Nat := 0x70080 + 4 * (i % 4)
abbrev R.HIF_MSIX (i j : Nat) : Nat := 0x78000 + 16 * (i % 1056) + 4 * (j % 4)
abbrev R.HIF_PBA (i : Nat) : Nat := 0x7D000 + 4 * (i % 34)
def F.HIF_STAT_LINK_UP : Fld := ⟨R.HIF_STAT, 0, 1⟩
def F.HIF_STAT_SPEED : Fld := ⟨R.HIF_STAT, 1, 3⟩
def F.HIF_STAT_WIDTH : Fld := ⟨R.HIF_STAT, 4, 3⟩
def F.HIF_STAT_BME : Fld := ⟨R.HIF_STAT, 7, 1⟩
def F.HIF_STAT_MSIX_EN : Fld := ⟨R.HIF_STAT, 8, 1⟩
def F.HIF_STAT_D3HOT : Fld := ⟨R.HIF_STAT, 9, 1⟩
def F.HIF_STAT_PERST : Fld := ⟨R.HIF_STAT, 10, 1⟩
def F.HIF_CTL_LINK_POLICY : Fld := ⟨R.HIF_CTL, 0, 1⟩
def F.HIF_CTL_WIN_TO : Fld := ⟨R.HIF_CTL, 16, 16⟩
def F.HIF_CTX_DB_INDEX : Fld := ⟨R.HIF_CTX_DB, 0, 16⟩
def F.HIF_CTX_DB_CTX : Fld := ⟨R.HIF_CTX_DB, 16, 10⟩
def F.HIF_CTX_DB_KIND : Fld := ⟨R.HIF_CTX_DB, 28, 1⟩
def F.HIF_DEV_PEND_PEND : Fld := ⟨R.HIF_DEV_PEND, 0, 32⟩
def F.HIF_DEV_EN_EN : Fld := ⟨R.HIF_DEV_EN, 0, 32⟩
def F.HIF_INTN_EN_EN : Fld := ⟨R.HIF_INTN_EN, 0, 32⟩
def F.HIF_DEV_UNIT_UNITS (i : Nat) : Fld := ⟨R.HIF_DEV_UNIT i, 0, 32⟩
def F.HIF_WIN_BASE_BASE (i : Nat) : Fld := ⟨R.HIF_WIN_BASE i, 16, 16⟩
def F.HIF_WIN_UNIT_UNIT (i : Nat) : Fld := ⟨R.HIF_WIN_UNIT i, 0, 6⟩
def F.HIF_HOLE_CNT_COUNT : Fld := ⟨R.HIF_HOLE_CNT, 0, 32⟩
def F.HIF_GATE_REFUSE_OFFLINE : Fld := ⟨R.HIF_GATE_REFUSE, 0, 16⟩
def F.HIF_GATE_REFUSE_PERM : Fld := ⟨R.HIF_GATE_REFUSE, 16, 16⟩
def F.HIF_DB_ERR_COUNT : Fld := ⟨R.HIF_DB_ERR, 0, 32⟩
def F.HIF_DISCARD_COUNT : Fld := ⟨R.HIF_DISCARD, 0, 32⟩
def F.HIF_WIN_CNT_UNREACH : Fld := ⟨R.HIF_WIN_CNT, 0, 16⟩
def F.HIF_WIN_CNT_TIMEOUT : Fld := ⟨R.HIF_WIN_CNT, 16, 16⟩
def F.HIF_LINK_EVT_DOWN : Fld := ⟨R.HIF_LINK_EVT, 0, 1⟩
def F.HIF_LINK_EVT_PERST : Fld := ⟨R.HIF_LINK_EVT, 1, 1⟩
def F.HIF_LINK_EVT_BME_OFF : Fld := ⟨R.HIF_LINK_EVT, 2, 1⟩
def F.HIF_LINK_EVT_RETRAINS : Fld := ⟨R.HIF_LINK_EVT, 16, 16⟩
def F.HIF_CNT_CLR_ALL : Fld := ⟨R.HIF_CNT_CLR, 0, 1⟩
def F.HIF_CLASS_WAIT_TURNS (i : Nat) : Fld := ⟨R.HIF_CLASS_WAIT i, 0, 32⟩
def F.HIF_MSIX_W (i j : Nat) : Fld := ⟨R.HIF_MSIX i j, 0, 32⟩
def F.HIF_PBA_W (i : Nat) : Fld := ⟨R.HIF_PBA i, 0, 32⟩

/-! ### Block CTX at 0x40080000 (Table 23-1, Table 23-2) -/
abbrev R.CTX_CTL (i : Nat) : Nat := 0x80000 + 64 * (i % 1024)
abbrev R.CTX_STAT (i : Nat) : Nat := 0x80004 + 64 * (i % 1024)
abbrev R.CTX_SQ_LO (i : Nat) : Nat := 0x80008 + 64 * (i % 1024)
abbrev R.CTX_SQ_HI (i : Nat) : Nat := 0x8000C + 64 * (i % 1024)
abbrev R.CTX_CQ_LO (i : Nat) : Nat := 0x80010 + 64 * (i % 1024)
abbrev R.CTX_CQ_HI (i : Nat) : Nat := 0x80014 + 64 * (i % 1024)
abbrev R.CTX_WB_LO (i : Nat) : Nat := 0x80018 + 64 * (i % 1024)
abbrev R.CTX_WB_HI (i : Nat) : Nat := 0x8001C + 64 * (i % 1024)
abbrev R.CTX_ENG (i : Nat) : Nat := 0x80020 + 64 * (i % 1024)
abbrev R.CTX_BWIN (i : Nat) : Nat := 0x80024 + 64 * (i % 1024)
abbrev R.CTX_LIM (i : Nat) : Nat := 0x80028 + 64 * (i % 1024)
abbrev R.CTX_INT (i : Nat) : Nat := 0x8002C + 64 * (i % 1024)
abbrev R.CTX_SQ_IDX (i : Nat) : Nat := 0x80030 + 64 * (i % 1024)
abbrev R.CTX_CQ_IDX (i : Nat) : Nat := 0x80034 + 64 * (i % 1024)
abbrev R.CTX_DONE (i : Nat) : Nat := 0x80038 + 64 * (i % 1024)
abbrev R.CTX_EVT (i : Nat) : Nat := 0x8003C + 64 * (i % 1024)
def F.CTX_CTL_EN (i : Nat) : Fld := ⟨R.CTX_CTL i, 0, 1⟩
def F.CTX_CTL_OWNER (i : Nat) : Fld := ⟨R.CTX_CTL i, 1, 1⟩
def F.CTX_CTL_CLASS (i : Nat) : Fld := ⟨R.CTX_CTL i, 2, 2⟩
def F.CTX_CTL_WEIGHT (i : Nat) : Fld := ⟨R.CTX_CTL i, 4, 4⟩
def F.CTX_CTL_SQ_LOG2 (i : Nat) : Fld := ⟨R.CTX_CTL i, 8, 5⟩
def F.CTX_CTL_CQ_LOG2 (i : Nat) : Fld := ⟨R.CTX_CTL i, 16, 5⟩
def F.CTX_CTL_WB_EN (i : Nat) : Fld := ⟨R.CTX_CTL i, 24, 1⟩
def F.CTX_STAT_STATE (i : Nat) : Fld := ⟨R.CTX_STAT i, 0, 3⟩
def F.CTX_STAT_DISCARDING (i : Nat) : Fld := ⟨R.CTX_STAT i, 3, 1⟩
def F.CTX_STAT_CAUSE (i : Nat) : Fld := ⟨R.CTX_STAT i, 8, 4⟩
def F.CTX_STAT_STAGED (i : Nat) : Fld := ⟨R.CTX_STAT i, 12, 4⟩
def F.CTX_STAT_INFLIGHT (i : Nat) : Fld := ⟨R.CTX_STAT i, 16, 9⟩
def F.CTX_SQ_LO_SQ_BASE (i : Nat) : Fld := ⟨R.CTX_SQ_LO i, 0, 32⟩
def F.CTX_SQ_HI_SQ_BASE (i : Nat) : Fld := ⟨R.CTX_SQ_HI i, 0, 32⟩
def F.CTX_CQ_LO_CQ_BASE (i : Nat) : Fld := ⟨R.CTX_CQ_LO i, 0, 32⟩
def F.CTX_CQ_HI_CQ_BASE (i : Nat) : Fld := ⟨R.CTX_CQ_HI i, 0, 32⟩
def F.CTX_WB_LO_WB_ADDR (i : Nat) : Fld := ⟨R.CTX_WB_LO i, 0, 32⟩
def F.CTX_WB_HI_WB_ADDR (i : Nat) : Fld := ⟨R.CTX_WB_HI i, 0, 32⟩
def F.CTX_ENG_MASK (i : Nat) : Fld := ⟨R.CTX_ENG i, 0, 13⟩
def F.CTX_BWIN_FIRST (i : Nat) : Fld := ⟨R.CTX_BWIN i, 0, 7⟩
def F.CTX_BWIN_LAST (i : Nat) : Fld := ⟨R.CTX_BWIN i, 8, 7⟩
def F.CTX_LIM_LIMIT (i : Nat) : Fld := ⟨R.CTX_LIM i, 0, 9⟩
def F.CTX_LIM_RESERVE (i : Nat) : Fld := ⟨R.CTX_LIM i, 16, 9⟩
def F.CTX_INT_VEC (i : Nat) : Fld := ⟨R.CTX_INT i, 0, 11⟩
def F.CTX_INT_MOD_CNT (i : Nat) : Fld := ⟨R.CTX_INT i, 16, 8⟩
def F.CTX_INT_MOD_TIME (i : Nat) : Fld := ⟨R.CTX_INT i, 24, 8⟩
def F.CTX_SQ_IDX_SQ_PI (i : Nat) : Fld := ⟨R.CTX_SQ_IDX i, 0, 16⟩
def F.CTX_SQ_IDX_SQ_CI (i : Nat) : Fld := ⟨R.CTX_SQ_IDX i, 16, 16⟩
def F.CTX_CQ_IDX_CQ_PI (i : Nat) : Fld := ⟨R.CTX_CQ_IDX i, 0, 16⟩
def F.CTX_CQ_IDX_CQ_CI (i : Nat) : Fld := ⟨R.CTX_CQ_IDX i, 16, 16⟩
def F.CTX_DONE_COUNT (i : Nat) : Fld := ⟨R.CTX_DONE i, 0, 32⟩
def F.CTX_EVT_CFG_LOCKED (i : Nat) : Fld := ⟨R.CTX_EVT i, 0, 1⟩
def F.CTX_EVT_ENABLE_REFUSED (i : Nat) : Fld := ⟨R.CTX_EVT i, 1, 1⟩
def F.CTX_EVT_DB_BAD (i : Nat) : Fld := ⟨R.CTX_EVT i, 2, 1⟩
def F.CTX_EVT_DB_DENIED (i : Nat) : Fld := ⟨R.CTX_EVT i, 3, 1⟩
def F.CTX_EVT_FETCH_ERR (i : Nat) : Fld := ⟨R.CTX_EVT i, 4, 1⟩
def F.CTX_EVT_FROZEN (i : Nat) : Fld := ⟨R.CTX_EVT i, 5, 1⟩
def F.CTX_EVT_DISCARDED (i : Nat) : Fld := ⟨R.CTX_EVT i, 6, 1⟩

/-! ### Block LDG at 0x40090000 (Table 23-1, Table 23-2) -/
abbrev R.LDG_STAT : Nat := 0x90000
abbrev R.LDG_CTL : Nat := 0x90004
abbrev R.LDG_TOK : Nat := 0x90008
abbrev R.LDG_BUF : Nat := 0x9000C
abbrev R.LDG_BUF_LEND : Nat := 0x90010
abbrev R.LDG_AUDITS : Nat := 0x90014
abbrev R.LDG_SKIPS : Nat := 0x90018
abbrev R.LDG_WAIT : Nat := 0x9001C
abbrev R.LDG_FAULT0 : Nat := 0x90020
abbrev R.LDG_FAULT1 : Nat := 0x90024
abbrev R.LDG_FAULT2 : Nat := 0x90028
abbrev R.LDG_RELEASE : Nat := 0x9002C
abbrev R.LDG_CHN (i : Nat) : Nat := 0x90040 + 4 * (i % 8)
abbrev R.LDG_FROZEN (i : Nat) : Nat := 0x90100 + 4 * (i % 32)
def F.LDG_STAT_FAULT : Fld := ⟨R.LDG_STAT, 0, 1⟩
def F.LDG_STAT_COMPARING : Fld := ⟨R.LDG_STAT, 1, 1⟩
def F.LDG_STAT_LEND_DENIED : Fld := ⟨R.LDG_STAT, 2, 1⟩
def F.LDG_STAT_FROZEN : Fld := ⟨R.LDG_STAT, 16, 11⟩
def F.LDG_CTL_AUDIT_EN : Fld := ⟨R.LDG_CTL, 0, 1⟩
def F.LDG_CTL_ALARM_EN : Fld := ⟨R.LDG_CTL, 1, 1⟩
def F.LDG_CTL_PERIOD : Fld := ⟨R.LDG_CTL, 16, 10⟩
def F.LDG_TOK_FREE : Fld := ⟨R.LDG_TOK, 0, 13⟩
def F.LDG_TOK_RESV : Fld := ⟨R.LDG_TOK, 16, 13⟩
def F.LDG_BUF_FREE : Fld := ⟨R.LDG_BUF, 0, 15⟩
def F.LDG_BUF_LENT : Fld := ⟨R.LDG_BUF, 16, 15⟩
def F.LDG_BUF_LEND_FIRST : Fld := ⟨R.LDG_BUF_LEND, 0, 7⟩
def F.LDG_BUF_LEND_LAST : Fld := ⟨R.LDG_BUF_LEND, 8, 7⟩
def F.LDG_AUDITS_COUNT : Fld := ⟨R.LDG_AUDITS, 0, 32⟩
def F.LDG_SKIPS_HO_SKIPS : Fld := ⟨R.LDG_SKIPS, 0, 16⟩
def F.LDG_SKIPS_EXCLUDED : Fld := ⟨R.LDG_SKIPS, 16, 16⟩
def F.LDG_WAIT_TOKEN : Fld := ⟨R.LDG_WAIT, 0, 16⟩
def F.LDG_WAIT_BUFFER : Fld := ⟨R.LDG_WAIT, 16, 16⟩
def F.LDG_FAULT0_BOOK : Fld := ⟨R.LDG_FAULT0, 0, 3⟩
def F.LDG_FAULT0_FAULTS : Fld := ⟨R.LDG_FAULT0, 8, 8⟩
def F.LDG_FAULT0_INDEX : Fld := ⟨R.LDG_FAULT0, 16, 10⟩
def F.LDG_FAULT1_BOOKED : Fld := ⟨R.LDG_FAULT1, 0, 32⟩
def F.LDG_FAULT2_COUNTED : Fld := ⟨R.LDG_FAULT2, 0, 32⟩
def F.LDG_RELEASE_KEY : Fld := ⟨R.LDG_RELEASE, 0, 16⟩
def F.LDG_CHN_AVAIL (i : Nat) : Fld := ⟨R.LDG_CHN i, 0, 16⟩
def F.LDG_CHN_CAP (i : Nat) : Fld := ⟨R.LDG_CHN i, 16, 16⟩
def F.LDG_FROZEN_CTX (i : Nat) : Fld := ⟨R.LDG_FROZEN i, 0, 32⟩

/-! ### Block CHN at 0x400A0000 (Table 23-1, Table 23-2) -/
abbrev R.CHN_PCTL (i : Nat) : Nat := 0xA0000 + 256 * (i % 2)
abbrev R.CHN_PSTAT (i : Nat) : Nat := 0xA0004 + 256 * (i % 2)
abbrev R.CHN_KEYGEN (i : Nat) : Nat := 0xA0008 + 256 * (i % 2)
abbrev R.CHN_CNT0 (i : Nat) : Nat := 0xA000C + 256 * (i % 2)
abbrev R.CHN_CNT1 (i : Nat) : Nat := 0xA0010 + 256 * (i % 2)
abbrev R.CHN_CNT2 (i : Nat) : Nat := 0xA0014 + 256 * (i % 2)
abbrev R.CHN_CNT3 (i : Nat) : Nat := 0xA0018 + 256 * (i % 2)
abbrev R.CHN_REPLAY (i : Nat) : Nat := 0xA001C + 256 * (i % 2)
abbrev R.CHN_PRBS (i : Nat) : Nat := 0xA0020 + 256 * (i % 2)
abbrev R.CHN_PRBS_ERR (i : Nat) : Nat := 0xA0024 + 256 * (i % 2)
abbrev R.CHN_EVT (i : Nat) : Nat := 0xA0028 + 256 * (i % 2)
abbrev R.CHN_LOST (i : Nat) : Nat := 0xA002C + 256 * (i % 2)
abbrev R.CHN_CNT_CLR (i : Nat) : Nat := 0xA0030 + 256 * (i % 2)
abbrev R.CHN_VL (i j : Nat) : Nat := 0xA0040 + 256 * (i % 2) + 4 * (j % 4)
def F.CHN_PCTL_EN (i : Nat) : Fld := ⟨R.CHN_PCTL i, 0, 1⟩
def F.CHN_PCTL_RETRAIN (i : Nat) : Fld := ⟨R.CHN_PCTL i, 1, 1⟩
def F.CHN_PSTAT_STATE (i : Nat) : Fld := ⟨R.CHN_PSTAT i, 0, 3⟩
def F.CHN_PSTAT_BLK (i : Nat) : Fld := ⟨R.CHN_PSTAT i, 3, 2⟩
def F.CHN_PSTAT_FRM (i : Nat) : Fld := ⟨R.CHN_PSTAT i, 5, 2⟩
def F.CHN_PSTAT_INV (i : Nat) : Fld := ⟨R.CHN_PSTAT i, 7, 2⟩
def F.CHN_PSTAT_CROSSED (i : Nat) : Fld := ⟨R.CHN_PSTAT i, 9, 1⟩
def F.CHN_PSTAT_SKEW (i : Nat) : Fld := ⟨R.CHN_PSTAT i, 10, 5⟩
def F.CHN_PSTAT_FAIL (i : Nat) : Fld := ⟨R.CHN_PSTAT i, 16, 4⟩
def F.CHN_KEYGEN_KEYCHK (i : Nat) : Fld := ⟨R.CHN_KEYGEN i, 0, 16⟩
def F.CHN_KEYGEN_TRAININGS (i : Nat) : Fld := ⟨R.CHN_KEYGEN i, 16, 16⟩
def F.CHN_CNT0_HDR_ERR (i : Nat) : Fld := ⟨R.CHN_CNT0 i, 0, 16⟩
def F.CHN_CNT0_CTL_CRC (i : Nat) : Fld := ⟨R.CHN_CNT0 i, 16, 16⟩
def F.CHN_CNT1_MSG_CRC (i : Nat) : Fld := ⟨R.CHN_CNT1 i, 0, 16⟩
def F.CHN_CNT1_REPLAYS (i : Nat) : Fld := ⟨R.CHN_CNT1 i, 16, 16⟩
def F.CHN_CNT2_STOMPED (i : Nat) : Fld := ⟨R.CHN_CNT2 i, 0, 16⟩
def F.CHN_CNT2_LINK_DOWNS (i : Nat) : Fld := ⟨R.CHN_CNT2 i, 16, 16⟩
def F.CHN_CNT3_SEQ_DISCARD (i : Nat) : Fld := ⟨R.CHN_CNT3 i, 0, 16⟩
def F.CHN_CNT3_STRAY (i : Nat) : Fld := ⟨R.CHN_CNT3 i, 16, 16⟩
def F.CHN_REPLAY_KB_USED (i : Nat) : Fld := ⟨R.CHN_REPLAY i, 0, 7⟩
def F.CHN_REPLAY_MSGS (i : Nat) : Fld := ⟨R.CHN_REPLAY i, 16, 7⟩
def F.CHN_PRBS_TX_EN (i : Nat) : Fld := ⟨R.CHN_PRBS i, 0, 1⟩
def F.CHN_PRBS_CHK_EN (i : Nat) : Fld := ⟨R.CHN_PRBS i, 1, 1⟩
def F.CHN_PRBS_ERR_LANE0 (i : Nat) : Fld := ⟨R.CHN_PRBS_ERR i, 0, 16⟩
def F.CHN_PRBS_ERR_LANE1 (i : Nat) : Fld := ⟨R.CHN_PRBS_ERR i, 16, 16⟩
def F.CHN_EVT_UP (i : Nat) : Fld := ⟨R.CHN_EVT i, 0, 1⟩
def F.CHN_EVT_DOWN (i : Nat) : Fld := ⟨R.CHN_EVT i, 1, 1⟩
def F.CHN_EVT_ROLE_ERR (i : Nat) : Fld := ⟨R.CHN_EVT i, 2, 1⟩
def F.CHN_EVT_REPLAY_LIMIT (i : Nat) : Fld := ⟨R.CHN_EVT i, 3, 1⟩
def F.CHN_LOST_LOST_MSGS (i : Nat) : Fld := ⟨R.CHN_LOST i, 0, 32⟩
def F.CHN_CNT_CLR_ALL (i : Nat) : Fld := ⟨R.CHN_CNT_CLR i, 0, 1⟩
def F.CHN_VL_TX_MSGS (i j : Nat) : Fld := ⟨R.CHN_VL i j, 0, 16⟩
def F.CHN_VL_RX_MSGS (i j : Nat) : Fld := ⟨R.CHN_VL i j, 16, 16⟩

/-! ### Block ENU at 0x400B0000 (Table 23-1, Table 23-2) -/
abbrev R.ENU_STAT : Nat := 0xB0000
abbrev R.ENU_CTL : Nat := 0xB0004
abbrev R.ENU_PRIO : Nat := 0xB0008
abbrev R.ENU_OWN : Nat := 0xB000C
abbrev R.ENU_EVT : Nat := 0xB0010
abbrev R.ENU_REACH (i : Nat) : Nat := 0xB0014 + 4 * (i % 2)
abbrev R.ENU_GEN : Nat := 0xB001C
abbrev R.ENU_RST_CMD : Nat := 0xB0020
abbrev R.ENU_SLEEP_CTL : Nat := 0xB0024
abbrev R.ENU_SLEEP_STAT : Nat := 0xB0028
abbrev R.ENU_CNT : Nat := 0xB002C
abbrev R.ENU_CNT2 : Nat := 0xB0030
abbrev R.ENU_TUN : Nat := 0xB0034
abbrev R.ENU_CNT_CLR : Nat := 0xB0038
abbrev R.ENU_TAB_DLO (i : Nat) : Nat := 0xB0400 + 16 * (i % 64)
abbrev R.ENU_TAB_DHI (i : Nat) : Nat := 0xB0404 + 16 * (i % 64)
abbrev R.ENU_TAB_FLG (i : Nat) : Nat := 0xB0408 + 16 * (i % 64)
def F.ENU_STAT_ROLE : Fld := ⟨R.ENU_STAT, 0, 2⟩
def F.ENU_STAT_MISPLACED : Fld := ⟨R.ENU_STAT, 2, 1⟩
def F.ENU_STAT_WALKING : Fld := ⟨R.ENU_STAT, 3, 1⟩
def F.ENU_STAT_HOST_LINK : Fld := ⟨R.ENU_STAT, 4, 1⟩
def F.ENU_STAT_ADDR : Fld := ⟨R.ENU_STAT, 8, 6⟩
def F.ENU_STAT_HOP : Fld := ⟨R.ENU_STAT, 16, 6⟩
def F.ENU_STAT_UNITS : Fld := ⟨R.ENU_STAT, 24, 6⟩
def F.ENU_CTL_BYPASS : Fld := ⟨R.ENU_CTL, 0, 1⟩
def F.ENU_CTL_AUTO_WALK : Fld := ⟨R.ENU_CTL, 1, 1⟩
def F.ENU_CTL_WALK : Fld := ⟨R.ENU_CTL, 2, 1⟩
def F.ENU_CTL_MISPL_ALARM : Fld := ⟨R.ENU_CTL, 3, 1⟩
def F.ENU_CTL_VOTE_WAIT : Fld := ⟨R.ENU_CTL, 8, 8⟩
def F.ENU_PRIO_HEAD_PRIO : Fld := ⟨R.ENU_PRIO, 0, 8⟩
def F.ENU_OWN_OLD_ADDR : Fld := ⟨R.ENU_OWN, 0, 6⟩
def F.ENU_OWN_HAD_ADDR : Fld := ⟨R.ENU_OWN, 6, 1⟩
def F.ENU_EVT_LOST_ELECTION : Fld := ⟨R.ENU_EVT, 0, 1⟩
def F.ENU_EVT_TABLE_FULL : Fld := ⟨R.ENU_EVT, 1, 1⟩
def F.ENU_EVT_BREAK : Fld := ⟨R.ENU_EVT, 2, 1⟩
def F.ENU_EVT_WALK_DONE : Fld := ⟨R.ENU_EVT, 3, 1⟩
def F.ENU_EVT_WALK_TIMEOUT : Fld := ⟨R.ENU_EVT, 4, 1⟩
def F.ENU_EVT_SLEEP_ABORTED : Fld := ⟨R.ENU_EVT, 5, 1⟩
def F.ENU_EVT_TAB_DENIED : Fld := ⟨R.ENU_EVT, 6, 1⟩
def F.ENU_REACH_REACH (i : Nat) : Fld := ⟨R.ENU_REACH i, 0, 32⟩
def F.ENU_GEN_GEN : Fld := ⟨R.ENU_GEN, 0, 16⟩
def F.ENU_RST_CMD_DST : Fld := ⟨R.ENU_RST_CMD, 0, 6⟩
def F.ENU_RST_CMD_ALL : Fld := ⟨R.ENU_RST_CMD, 6, 1⟩
def F.ENU_RST_CMD_KEY : Fld := ⟨R.ENU_RST_CMD, 16, 16⟩
def F.ENU_SLEEP_CTL_PROPOSE : Fld := ⟨R.ENU_SLEEP_CTL, 0, 1⟩
def F.ENU_SLEEP_CTL_CANCEL : Fld := ⟨R.ENU_SLEEP_CTL, 1, 1⟩
def F.ENU_SLEEP_STAT_PHASE : Fld := ⟨R.ENU_SLEEP_STAT, 0, 2⟩
def F.ENU_SLEEP_STAT_LAST : Fld := ⟨R.ENU_SLEEP_STAT, 4, 3⟩
def F.ENU_SLEEP_STAT_CAUSE : Fld := ⟨R.ENU_SLEEP_STAT, 8, 4⟩
def F.ENU_SLEEP_STAT_UNIT : Fld := ⟨R.ENU_SLEEP_STAT, 16, 6⟩
def F.ENU_CNT_NOROUTE : Fld := ⟨R.ENU_CNT, 0, 16⟩
def F.ENU_CNT_LATE_REPLIES : Fld := ⟨R.ENU_CNT, 16, 16⟩
def F.ENU_CNT2_LOCAL_DENY : Fld := ⟨R.ENU_CNT2, 0, 16⟩
def F.ENU_CNT2_NAK_LATE : Fld := ⟨R.ENU_CNT2, 16, 16⟩
def F.ENU_TUN_OUT_RD : Fld := ⟨R.ENU_TUN, 0, 9⟩
def F.ENU_CNT_CLR_ALL : Fld := ⟨R.ENU_CNT_CLR, 0, 1⟩
def F.ENU_TAB_DLO_DIE_LO (i : Nat) : Fld := ⟨R.ENU_TAB_DLO i, 0, 32⟩
def F.ENU_TAB_DHI_DIE_HI (i : Nat) : Fld := ⟨R.ENU_TAB_DHI i, 0, 32⟩
def F.ENU_TAB_FLG_BOUND (i : Nat) : Fld := ⟨R.ENU_TAB_FLG i, 0, 1⟩
def F.ENU_TAB_FLG_REACH (i : Nat) : Fld := ⟨R.ENU_TAB_FLG i, 1, 1⟩
def F.ENU_TAB_FLG_HOP (i : Nat) : Fld := ⟨R.ENU_TAB_FLG i, 8, 6⟩
def F.ENU_TAB_FLG_REV (i : Nat) : Fld := ⟨R.ENU_TAB_FLG i, 16, 8⟩

/-! ### Block HAR at 0x400C0000 (Table 23-1, Table 23-2) -/
abbrev R.HAR_STAT : Nat := 0xC0000
abbrev R.HAR_CTL : Nat := 0xC0004
abbrev R.HAR_LCTL (i : Nat) : Nat := 0xC0010 + 4 * (i % 4)
abbrev R.HAR_LSTAT (i : Nat) : Nat := 0xC0020 + 4 * (i % 4)
abbrev R.HAR_LCNT (i : Nat) : Nat := 0xC0030 + 4 * (i % 4)
abbrev R.HAR_BCFG (i : Nat) : Nat := 0xC0040 + 4 * (i % 4)
abbrev R.HAR_EVT : Nat := 0xC0050
abbrev R.HAR_CNT : Nat := 0xC0054
abbrev R.HAR_HOLD : Nat := 0xC0058
abbrev R.HAR_DWIN_LO (i : Nat) : Nat := 0xC0080 + 8 * (i % 7)
abbrev R.HAR_DWIN_HI (i : Nat) : Nat := 0xC0084 + 8 * (i % 7)
abbrev R.HAR_RWIN_LO (i : Nat) : Nat := 0xC00C0 + 8 * (i % 7)
abbrev R.HAR_RWIN_HI (i : Nat) : Nat := 0xC00C4 + 8 * (i % 7)
abbrev R.HAR_BRD_W0 (i j : Nat) : Nat := 0xC0100 + 32 * (i % 4) + 8 * (j % 4)
abbrev R.HAR_BRD_W1 (i j : Nat) : Nat := 0xC0104 + 32 * (i % 4) + 8 * (j % 4)
def F.HAR_STAT_BUSY : Fld := ⟨R.HAR_STAT, 0, 1⟩
def F.HAR_STAT_HELD : Fld := ⟨R.HAR_STAT, 1, 1⟩
def F.HAR_STAT_WAIT_LINK : Fld := ⟨R.HAR_STAT, 2, 1⟩
def F.HAR_STAT_QUEUE : Fld := ⟨R.HAR_STAT, 4, 4⟩
def F.HAR_STAT_OP : Fld := ⟨R.HAR_STAT, 8, 2⟩
def F.HAR_STAT_POINT : Fld := ⟨R.HAR_STAT, 16, 12⟩
def F.HAR_CTL_XOFF_HOLD : Fld := ⟨R.HAR_CTL, 0, 1⟩
def F.HAR_CTL_RAW : Fld := ⟨R.HAR_CTL, 1, 1⟩
def F.HAR_CTL_PIN_HOLD : Fld := ⟨R.HAR_CTL, 2, 1⟩
def F.HAR_CTL_RETRY : Fld := ⟨R.HAR_CTL, 4, 4⟩
def F.HAR_CTL_LINK_WAIT : Fld := ⟨R.HAR_CTL, 16, 16⟩
def F.HAR_LCTL_EN (i : Nat) : Fld := ⟨R.HAR_LCTL i, 0, 1⟩
def F.HAR_LCTL_EXPECT (i : Nat) : Fld := ⟨R.HAR_LCTL i, 1, 3⟩
def F.HAR_LCTL_RETRAIN (i : Nat) : Fld := ⟨R.HAR_LCTL i, 4, 1⟩
def F.HAR_LSTAT_STATE (i : Nat) : Fld := ⟨R.HAR_LSTAT i, 0, 3⟩
def F.HAR_LSTAT_BOARDS (i : Nat) : Fld := ⟨R.HAR_LSTAT i, 3, 3⟩
def F.HAR_LSTAT_PHASE (i : Nat) : Fld := ⟨R.HAR_LSTAT i, 8, 4⟩
def F.HAR_LSTAT_FAIL (i : Nat) : Fld := ⟨R.HAR_LSTAT i, 12, 4⟩
def F.HAR_LSTAT_RING_NS (i : Nat) : Fld := ⟨R.HAR_LSTAT i, 16, 12⟩
def F.HAR_LCNT_CRC_ERR (i : Nat) : Fld := ⟨R.HAR_LCNT i, 0, 16⟩
def F.HAR_LCNT_TIMEOUTS (i : Nat) : Fld := ⟨R.HAR_LCNT i, 16, 16⟩
def F.HAR_BCFG_VALUE (i : Nat) : Fld := ⟨R.HAR_BCFG i, 0, 24⟩
def F.HAR_EVT_UP : Fld := ⟨R.HAR_EVT, 0, 4⟩
def F.HAR_EVT_LOST : Fld := ⟨R.HAR_EVT, 4, 4⟩
def F.HAR_EVT_EXP_MISMATCH : Fld := ⟨R.HAR_EVT, 8, 4⟩
def F.HAR_EVT_BOARD_FAULT : Fld := ⟨R.HAR_EVT, 12, 1⟩
def F.HAR_EVT_RETRY : Fld := ⟨R.HAR_EVT, 13, 1⟩
def F.HAR_EVT_LINK_WAIT_TO : Fld := ⟨R.HAR_EVT, 14, 1⟩
def F.HAR_CNT_SCANS : Fld := ⟨R.HAR_CNT, 0, 16⟩
def F.HAR_CNT_RETRIES : Fld := ⟨R.HAR_CNT, 16, 16⟩
def F.HAR_HOLD_US : Fld := ⟨R.HAR_HOLD, 0, 32⟩
def F.HAR_DWIN_LO_LO (i : Nat) : Fld := ⟨R.HAR_DWIN_LO i, 0, 32⟩
def F.HAR_DWIN_HI_HI (i : Nat) : Fld := ⟨R.HAR_DWIN_HI i, 0, 32⟩
def F.HAR_RWIN_LO_LO (i : Nat) : Fld := ⟨R.HAR_RWIN_LO i, 0, 32⟩
def F.HAR_RWIN_HI_HI (i : Nat) : Fld := ⟨R.HAR_RWIN_HI i, 0, 32⟩
def F.HAR_BRD_W0_ID (i j : Nat) : Fld := ⟨R.HAR_BRD_W0 i j, 0, 32⟩
def F.HAR_BRD_W1_CAPS (i j : Nat) : Fld := ⟨R.HAR_BRD_W1 i j, 0, 32⟩

/-! ### Block SFQ at 0x400D0000 (Table 23-1, Table 23-2) -/
abbrev R.SFQ_CFG (i : Nat) : Nat := 0xD0000 + 32 * (i % 64)
abbrev R.SFQ_WM (i : Nat) : Nat := 0xD0004 + 32 * (i % 64)
abbrev R.SFQ_STAT (i : Nat) : Nat := 0xD0008 + 32 * (i % 64)
abbrev R.SFQ_CNT (i : Nat) : Nat := 0xD000C + 32 * (i % 64)
abbrev R.SFQ_CNT2 (i : Nat) : Nat := 0xD0010 + 32 * (i % 64)
abbrev R.SFQ_XCTX (i : Nat) : Nat := 0xD0014 + 32 * (i % 64)
abbrev R.SFQ_MAX (i : Nat) : Nat := 0xD0018 + 32 * (i % 64)
abbrev R.SFQ_PIN : Nat := 0xD0800
abbrev R.SFQ_XOFF (i : Nat) : Nat := 0xD0804 + 4 * (i % 2)
abbrev R.SFQ_XOFF_EVT (i : Nat) : Nat := 0xD080C + 4 * (i % 2)
abbrev R.SFQ_EVT : Nat := 0xD0814
abbrev R.SFQ_CNT_CLR : Nat := 0xD0818
abbrev R.SFQ_POP_W (i j : Nat) : Nat := 0xD1000 + 32 * (i % 64) + 4 * (j % 4)
abbrev R.SFQ_POP_TAG (i : Nat) : Nat := 0xD1010 + 32 * (i % 64)
def F.SFQ_CFG_EN (i : Nat) : Fld := ⟨R.SFQ_CFG i, 0, 1⟩
def F.SFQ_CFG_FLUSH (i : Nat) : Fld := ⟨R.SFQ_CFG i, 1, 1⟩
def F.SFQ_CFG_DISCARD_PKT (i : Nat) : Fld := ⟨R.SFQ_CFG i, 2, 1⟩
def F.SFQ_CFG_PROD (i : Nat) : Fld := ⟨R.SFQ_CFG i, 8, 8⟩
def F.SFQ_CFG_CONS (i : Nat) : Fld := ⟨R.SFQ_CFG i, 16, 2⟩
def F.SFQ_CFG_XOFF_FAB (i : Nat) : Fld := ⟨R.SFQ_CFG i, 18, 1⟩
def F.SFQ_CFG_XOFF_HOST (i : Nat) : Fld := ⟨R.SFQ_CFG i, 19, 1⟩
def F.SFQ_CFG_XOFF_CTX (i : Nat) : Fld := ⟨R.SFQ_CFG i, 20, 1⟩
def F.SFQ_WM_HIGH (i : Nat) : Fld := ⟨R.SFQ_WM i, 0, 11⟩
def F.SFQ_WM_LOW (i : Nat) : Fld := ⟨R.SFQ_WM i, 16, 11⟩
def F.SFQ_STAT_DEPTH (i : Nat) : Fld := ⟨R.SFQ_STAT i, 0, 11⟩
def F.SFQ_STAT_XOFF (i : Nat) : Fld := ⟨R.SFQ_STAT i, 12, 1⟩
def F.SFQ_STAT_GAP_PEND (i : Nat) : Fld := ⟨R.SFQ_STAT i, 13, 1⟩
def F.SFQ_STAT_DISCARDING (i : Nat) : Fld := ⟨R.SFQ_STAT i, 14, 1⟩
def F.SFQ_STAT_IN_PKT (i : Nat) : Fld := ⟨R.SFQ_STAT i, 15, 1⟩
def F.SFQ_STAT_PEND_COUNT (i : Nat) : Fld := ⟨R.SFQ_STAT i, 16, 16⟩
def F.SFQ_CNT_DROPPED (i : Nat) : Fld := ⟨R.SFQ_CNT i, 0, 16⟩
def F.SFQ_CNT_GAPS (i : Nat) : Fld := ⟨R.SFQ_CNT i, 16, 16⟩
def F.SFQ_CNT2_DISCARDED (i : Nat) : Fld := ⟨R.SFQ_CNT2 i, 0, 16⟩
def F.SFQ_CNT2_MISROUTE (i : Nat) : Fld := ⟨R.SFQ_CNT2 i, 16, 16⟩
def F.SFQ_XCTX_CTX (i : Nat) : Fld := ⟨R.SFQ_XCTX i, 0, 10⟩
def F.SFQ_MAX_MAXDEPTH (i : Nat) : Fld := ⟨R.SFQ_MAX i, 0, 11⟩
def F.SFQ_XOFF_XOFF (i : Nat) : Fld := ⟨R.SFQ_XOFF i, 0, 32⟩
def F.SFQ_XOFF_EVT_EVT (i : Nat) : Fld := ⟨R.SFQ_XOFF_EVT i, 0, 32⟩
def F.SFQ_EVT_CFG_DENIED : Fld := ⟨R.SFQ_EVT, 0, 1⟩
def F.SFQ_CNT_CLR_ALL : Fld := ⟨R.SFQ_CNT_CLR, 0, 1⟩
def F.SFQ_POP_W_DATA (i j : Nat) : Fld := ⟨R.SFQ_POP_W i j, 0, 32⟩
def F.SFQ_POP_TAG_TAG (i : Nat) : Fld := ⟨R.SFQ_POP_TAG i, 0, 4⟩
def F.SFQ_POP_TAG_VALID (i : Nat) : Fld := ⟨R.SFQ_POP_TAG i, 8, 1⟩
def F.SFQ_PIN_FIFO (k : Nat) : Fld := ⟨R.SFQ_PIN, 8 * k, 6⟩
def F.SFQ_PIN_EN (k : Nat) : Fld := ⟨R.SFQ_PIN, 8 * k + 7, 1⟩

/-! ### Block VBU at 0x400E0000 (Table 23-1, Table 23-2) -/
abbrev R.CAN_CTL (i : Nat) : Nat := 0xE0000 + 1024 * (i % 16)
abbrev R.CAN_STAT (i : Nat) : Nat := 0xE0004 + 1024 * (i % 16)
abbrev R.CAN_NBT (i : Nat) : Nat := 0xE0008 + 1024 * (i % 16)
abbrev R.CAN_DBT (i : Nat) : Nat := 0xE000C + 1024 * (i % 16)
abbrev R.CAN_TDC (i : Nat) : Nat := 0xE0010 + 1024 * (i % 16)
abbrev R.CAN_ERRC (i : Nat) : Nat := 0xE0014 + 1024 * (i % 16)
abbrev R.CAN_TEST (i : Nat) : Nat := 0xE0018 + 1024 * (i % 16)
abbrev R.CAN_EVT (i : Nat) : Nat := 0xE001C + 1024 * (i % 16)
abbrev R.CAN_CNT (i : Nat) : Nat := 0xE0020 + 1024 * (i % 16)
abbrev R.CAN_CNT2 (i : Nat) : Nat := 0xE0024 + 1024 * (i % 16)
abbrev R.CAN_CNT3 (i : Nat) : Nat := 0xE0028 + 1024 * (i % 16)
abbrev R.CAN_TXB_PEND (i : Nat) : Nat := 0xE0030 + 1024 * (i % 16)
abbrev R.CAN_TXB_HELD (i : Nat) : Nat := 0xE0034 + 1024 * (i % 16)
abbrev R.CAN_FLT_ID (i j : Nat) : Nat := 0xE0040 + 1024 * (i % 16) + 16 * (j % 8)
abbrev R.CAN_FLT_MASK (i j : Nat) : Nat := 0xE0044 + 1024 * (i % 16) + 16 * (j % 8)
abbrev R.CAN_FLT_FIFO (i j : Nat) : Nat := 0xE0048 + 1024 * (i % 16) + 16 * (j % 8)
abbrev R.CAN_ELOG_SEL (i : Nat) : Nat := 0xE00C0 + 1024 * (i % 16)
abbrev R.CAN_ELOG_W0 (i : Nat) : Nat := 0xE00C4 + 1024 * (i % 16)
abbrev R.CAN_ELOG_W1 (i : Nat) : Nat := 0xE00C8 + 1024 * (i % 16)
abbrev R.CAN_SWK_CTL (i : Nat) : Nat := 0xE0300 + 1024 * (i % 16)
abbrev R.CAN_SWK_ID (i : Nat) : Nat := 0xE0304 + 1024 * (i % 16)
abbrev R.CAN_SWK_MASK (i : Nat) : Nat := 0xE0308 + 1024 * (i % 16)
abbrev R.CAN_SWK_DATA_LO (i : Nat) : Nat := 0xE030C + 1024 * (i % 16)
abbrev R.CAN_SWK_DATA_HI (i : Nat) : Nat := 0xE0310 + 1024 * (i % 16)
abbrev R.CAN_SWK_SRC (i : Nat) : Nat := 0xE0314 + 1024 * (i % 16)
abbrev R.LIN_CTL (i : Nat) : Nat := 0xE8000 + 512 * (i % 16)
abbrev R.LIN_DIV (i : Nat) : Nat := 0xE8004 + 512 * (i % 16)
abbrev R.LIN_STAT (i : Nat) : Nat := 0xE8008 + 512 * (i % 16)
abbrev R.LIN_TIME (i : Nat) : Nat := 0xE800C + 512 * (i % 16)
abbrev R.LIN_EVT (i : Nat) : Nat := 0xE8010 + 512 * (i % 16)
abbrev R.LIN_CNT (i : Nat) : Nat := 0xE8014 + 512 * (i % 16)
abbrev R.LIN_SWK (i : Nat) : Nat := 0xE8018 + 512 * (i % 16)
abbrev R.LIN_FLT_ID (i j : Nat) : Nat := 0xE8040 + 512 * (i % 16) + 16 * (j % 8)
abbrev R.LIN_FLT_MASK (i j : Nat) : Nat := 0xE8044 + 512 * (i % 16) + 16 * (j % 8)
abbrev R.LIN_FLT_FIFO (i j : Nat) : Nat := 0xE8048 + 512 * (i % 16) + 16 * (j % 8)
abbrev R.LIN_RTAB (i j : Nat) : Nat := 0xE8100 + 512 * (i % 16) + 4 * (j % 64)
abbrev R.SENT_CTL (i : Nat) : Nat := 0xEC000 + 256 * (i % 8)
abbrev R.SENT_TICK (i : Nat) : Nat := 0xEC004 + 256 * (i % 8)
abbrev R.SENT_STAT (i : Nat) : Nat := 0xEC008 + 256 * (i % 8)
abbrev R.SENT_EVT (i : Nat) : Nat := 0xEC00C + 256 * (i % 8)
abbrev R.SENT_CNT (i : Nat) : Nat := 0xEC010 + 256 * (i % 8)
abbrev R.SENT_FLT (i : Nat) : Nat := 0xEC014 + 256 * (i % 8)
def F.CAN_CTL_MON (i : Nat) : Fld := ⟨R.CAN_CTL i, 0, 1⟩
def F.CAN_CTL_AUTO_REC (i : Nat) : Fld := ⟨R.CAN_CTL i, 1, 1⟩
def F.CAN_CTL_BOFF_DISCARD (i : Nat) : Fld := ⟨R.CAN_CTL i, 2, 1⟩
def F.CAN_CTL_TX_ECHO (i : Nat) : Fld := ⟨R.CAN_CTL i, 3, 1⟩
def F.CAN_CTL_TDC_EN (i : Nat) : Fld := ⟨R.CAN_CTL i, 4, 1⟩
def F.CAN_CTL_RECOVER (i : Nat) : Fld := ⟨R.CAN_CTL i, 5, 1⟩
def F.CAN_STAT_STATE (i : Nat) : Fld := ⟨R.CAN_STAT i, 0, 3⟩
def F.CAN_STAT_TX_PEND (i : Nat) : Fld := ⟨R.CAN_STAT i, 8, 6⟩
def F.CAN_STAT_WAITQ (i : Nat) : Fld := ⟨R.CAN_STAT i, 16, 6⟩
def F.CAN_STAT_RECOV (i : Nat) : Fld := ⟨R.CAN_STAT i, 24, 8⟩
def F.CAN_NBT_BRP_M1 (i : Nat) : Fld := ⟨R.CAN_NBT i, 0, 5⟩
def F.CAN_NBT_TSEG1_M1 (i : Nat) : Fld := ⟨R.CAN_NBT i, 8, 8⟩
def F.CAN_NBT_TSEG2_M1 (i : Nat) : Fld := ⟨R.CAN_NBT i, 16, 7⟩
def F.CAN_NBT_SJW_M1 (i : Nat) : Fld := ⟨R.CAN_NBT i, 24, 7⟩
def F.CAN_DBT_BRP_M1 (i : Nat) : Fld := ⟨R.CAN_DBT i, 0, 5⟩
def F.CAN_DBT_TSEG1_M1 (i : Nat) : Fld := ⟨R.CAN_DBT i, 8, 5⟩
def F.CAN_DBT_TSEG2_M1 (i : Nat) : Fld := ⟨R.CAN_DBT i, 16, 4⟩
def F.CAN_DBT_SJW_M1 (i : Nat) : Fld := ⟨R.CAN_DBT i, 24, 4⟩
def F.CAN_TDC_OFFSET (i : Nat) : Fld := ⟨R.CAN_TDC i, 0, 7⟩
def F.CAN_TDC_MEAS (i : Nat) : Fld := ⟨R.CAN_TDC i, 16, 7⟩
def F.CAN_ERRC_TEC (i : Nat) : Fld := ⟨R.CAN_ERRC i, 0, 9⟩
def F.CAN_ERRC_REC (i : Nat) : Fld := ⟨R.CAN_ERRC i, 16, 8⟩
def F.CAN_TEST_FREEZE (i : Nat) : Fld := ⟨R.CAN_TEST i, 0, 1⟩
def F.CAN_EVT_PASSIVE (i : Nat) : Fld := ⟨R.CAN_EVT i, 0, 1⟩
def F.CAN_EVT_BUSOFF (i : Nat) : Fld := ⟨R.CAN_EVT i, 1, 1⟩
def F.CAN_EVT_RECOVERED (i : Nat) : Fld := ⟨R.CAN_EVT i, 2, 1⟩
def F.CAN_EVT_CFG_DENIED (i : Nat) : Fld := ⟨R.CAN_EVT i, 3, 1⟩
def F.CAN_EVT_ELOG (i : Nat) : Fld := ⟨R.CAN_EVT i, 4, 1⟩
def F.CAN_EVT_RX_OVF (i : Nat) : Fld := ⟨R.CAN_EVT i, 5, 1⟩
def F.CAN_CNT_TX_OK (i : Nat) : Fld := ⟨R.CAN_CNT i, 0, 16⟩
def F.CAN_CNT_RX_OK (i : Nat) : Fld := ⟨R.CAN_CNT i, 16, 16⟩
def F.CAN_CNT2_ERRORS (i : Nat) : Fld := ⟨R.CAN_CNT2 i, 0, 16⟩
def F.CAN_CNT2_UNMATCHED (i : Nat) : Fld := ⟨R.CAN_CNT2 i, 16, 16⟩
def F.CAN_CNT3_BUSOFFS (i : Nat) : Fld := ⟨R.CAN_CNT3 i, 0, 16⟩
def F.CAN_CNT3_RX_OVF (i : Nat) : Fld := ⟨R.CAN_CNT3 i, 16, 16⟩
def F.CAN_TXB_PEND_PEND (i : Nat) : Fld := ⟨R.CAN_TXB_PEND i, 0, 32⟩
def F.CAN_TXB_HELD_HELD (i : Nat) : Fld := ⟨R.CAN_TXB_HELD i, 0, 32⟩
def F.CAN_FLT_ID_ID (i j : Nat) : Fld := ⟨R.CAN_FLT_ID i j, 0, 29⟩
def F.CAN_FLT_ID_IDE (i j : Nat) : Fld := ⟨R.CAN_FLT_ID i j, 29, 1⟩
def F.CAN_FLT_ID_EN (i j : Nat) : Fld := ⟨R.CAN_FLT_ID i j, 31, 1⟩
def F.CAN_FLT_MASK_ID_MASK (i j : Nat) : Fld := ⟨R.CAN_FLT_MASK i j, 0, 29⟩
def F.CAN_FLT_MASK_IDE_MASK (i j : Nat) : Fld := ⟨R.CAN_FLT_MASK i j, 29, 1⟩
def F.CAN_FLT_FIFO_FIFO (i j : Nat) : Fld := ⟨R.CAN_FLT_FIFO i j, 0, 6⟩
def F.CAN_FLT_FIFO_ARMED (i j : Nat) : Fld := ⟨R.CAN_FLT_FIFO i j, 8, 1⟩
def F.CAN_ELOG_SEL_INDEX (i : Nat) : Fld := ⟨R.CAN_ELOG_SEL i, 0, 4⟩
def F.CAN_ELOG_W0_KIND (i : Nat) : Fld := ⟨R.CAN_ELOG_W0 i, 0, 3⟩
def F.CAN_ELOG_W0_DATA_PHASE (i : Nat) : Fld := ⟨R.CAN_ELOG_W0 i, 3, 1⟩
def F.CAN_ELOG_W0_TX (i : Nat) : Fld := ⟨R.CAN_ELOG_W0 i, 4, 1⟩
def F.CAN_ELOG_W0_TEC (i : Nat) : Fld := ⟨R.CAN_ELOG_W0 i, 8, 9⟩
def F.CAN_ELOG_W0_REC (i : Nat) : Fld := ⟨R.CAN_ELOG_W0 i, 24, 8⟩
def F.CAN_ELOG_W1_TIME_NS (i : Nat) : Fld := ⟨R.CAN_ELOG_W1 i, 0, 32⟩
def F.CAN_SWK_CTL_EN (i : Nat) : Fld := ⟨R.CAN_SWK_CTL i, 0, 1⟩
def F.CAN_SWK_CTL_RATE (i : Nat) : Fld := ⟨R.CAN_SWK_CTL i, 1, 2⟩
def F.CAN_SWK_CTL_DATA_EN (i : Nat) : Fld := ⟨R.CAN_SWK_CTL i, 3, 1⟩
def F.CAN_SWK_CTL_FEC_WAKE (i : Nat) : Fld := ⟨R.CAN_SWK_CTL i, 4, 1⟩
def F.CAN_SWK_CTL_SWK_DLC (i : Nat) : Fld := ⟨R.CAN_SWK_CTL i, 8, 4⟩
def F.CAN_SWK_CTL_FEC_MAX (i : Nat) : Fld := ⟨R.CAN_SWK_CTL i, 16, 5⟩
def F.CAN_SWK_ID_ID (i : Nat) : Fld := ⟨R.CAN_SWK_ID i, 0, 29⟩
def F.CAN_SWK_MASK_ID (i : Nat) : Fld := ⟨R.CAN_SWK_MASK i, 0, 29⟩
def F.CAN_SWK_ID_IDE (i : Nat) : Fld := ⟨R.CAN_SWK_ID i, 29, 1⟩
def F.CAN_SWK_MASK_IDE (i : Nat) : Fld := ⟨R.CAN_SWK_MASK i, 29, 1⟩
def F.CAN_SWK_DATA_LO_DATA (i : Nat) : Fld := ⟨R.CAN_SWK_DATA_LO i, 0, 32⟩
def F.CAN_SWK_DATA_HI_DATA (i : Nat) : Fld := ⟨R.CAN_SWK_DATA_HI i, 0, 32⟩
def F.CAN_SWK_SRC_WUF (i : Nat) : Fld := ⟨R.CAN_SWK_SRC i, 0, 1⟩
def F.CAN_SWK_SRC_FEC (i : Nat) : Fld := ⟨R.CAN_SWK_SRC i, 1, 1⟩
def F.CAN_SWK_SRC_FEC_CNT (i : Nat) : Fld := ⟨R.CAN_SWK_SRC i, 8, 8⟩
def F.LIN_CTL_EN (i : Nat) : Fld := ⟨R.LIN_CTL i, 0, 1⟩
def F.LIN_CTL_ROLE (i : Nat) : Fld := ⟨R.LIN_CTL i, 1, 1⟩
def F.LIN_CTL_WAKE (i : Nat) : Fld := ⟨R.LIN_CTL i, 2, 1⟩
def F.LIN_CTL_BREAK_LEN (i : Nat) : Fld := ⟨R.LIN_CTL i, 8, 5⟩
def F.LIN_CTL_DELIM (i : Nat) : Fld := ⟨R.LIN_CTL i, 16, 4⟩
def F.LIN_DIV_DIV (i : Nat) : Fld := ⟨R.LIN_DIV i, 0, 17⟩
def F.LIN_STAT_STATE (i : Nat) : Fld := ⟨R.LIN_STAT i, 0, 2⟩
def F.LIN_STAT_RATE_MEAS (i : Nat) : Fld := ⟨R.LIN_STAT i, 8, 9⟩
def F.LIN_TIME_WAKE_US (i : Nat) : Fld := ⟨R.LIN_TIME i, 0, 16⟩
def F.LIN_TIME_BUS_IDLE_S (i : Nat) : Fld := ⟨R.LIN_TIME i, 16, 8⟩
def F.LIN_EVT_WAKE_RX (i : Nat) : Fld := ⟨R.LIN_EVT i, 0, 1⟩
def F.LIN_EVT_BUS_SLEEP (i : Nat) : Fld := ⟨R.LIN_EVT i, 1, 1⟩
def F.LIN_EVT_CFG_DENIED (i : Nat) : Fld := ⟨R.LIN_EVT i, 2, 1⟩
def F.LIN_EVT_RESP_ERR (i : Nat) : Fld := ⟨R.LIN_EVT i, 3, 1⟩
def F.LIN_CNT_FRAMES (i : Nat) : Fld := ⟨R.LIN_CNT i, 0, 16⟩
def F.LIN_CNT_ERRORS (i : Nat) : Fld := ⟨R.LIN_CNT i, 16, 16⟩
def F.LIN_SWK_EN (i : Nat) : Fld := ⟨R.LIN_SWK i, 0, 1⟩
def F.LIN_RTAB_MODE (i j : Nat) : Fld := ⟨R.LIN_RTAB i j, 0, 2⟩
def F.LIN_RTAB_ENH (i j : Nat) : Fld := ⟨R.LIN_RTAB i j, 2, 1⟩
def F.LIN_RTAB_LEN (i j : Nat) : Fld := ⟨R.LIN_RTAB i j, 4, 4⟩
def F.LIN_RTAB_LOADED (i j : Nat) : Fld := ⟨R.LIN_RTAB i j, 8, 1⟩
def F.SENT_CTL_EN (i : Nat) : Fld := ⟨R.SENT_CTL i, 0, 1⟩
def F.SENT_CTL_NIBBLES (i : Nat) : Fld := ⟨R.SENT_CTL i, 1, 3⟩
def F.SENT_CTL_PAUSE (i : Nat) : Fld := ⟨R.SENT_CTL i, 4, 1⟩
def F.SENT_CTL_CRC_LEGACY (i : Nat) : Fld := ⟨R.SENT_CTL i, 5, 1⟩
def F.SENT_CTL_SERIAL (i : Nat) : Fld := ⟨R.SENT_CTL i, 6, 2⟩
def F.SENT_TICK_TICK_NS (i : Nat) : Fld := ⟨R.SENT_TICK i, 0, 17⟩
def F.SENT_STAT_SYNCED (i : Nat) : Fld := ⟨R.SENT_STAT i, 0, 1⟩
def F.SENT_STAT_TICK_MEAS (i : Nat) : Fld := ⟨R.SENT_STAT i, 16, 16⟩
def F.SENT_EVT_CRC (i : Nat) : Fld := ⟨R.SENT_EVT i, 0, 1⟩
def F.SENT_EVT_CAL (i : Nat) : Fld := ⟨R.SENT_EVT i, 1, 1⟩
def F.SENT_EVT_RANGE (i : Nat) : Fld := ⟨R.SENT_EVT i, 2, 1⟩
def F.SENT_CNT_FRAMES (i : Nat) : Fld := ⟨R.SENT_CNT i, 0, 16⟩
def F.SENT_CNT_ERRORS (i : Nat) : Fld := ⟨R.SENT_CNT i, 16, 16⟩
def F.SENT_FLT_FIFO (i : Nat) : Fld := ⟨R.SENT_FLT i, 0, 6⟩
def F.SENT_FLT_FAST (i : Nat) : Fld := ⟨R.SENT_FLT i, 8, 1⟩
def F.SENT_FLT_SERIAL (i : Nat) : Fld := ⟨R.SENT_FLT i, 9, 1⟩
def F.SENT_FLT_ARMED (i : Nat) : Fld := ⟨R.SENT_FLT i, 31, 1⟩
def F.LIN_FLT_ID_ID (i j : Nat) : Fld := ⟨R.LIN_FLT_ID i j, 0, 29⟩
def F.LIN_FLT_ID_IDE (i j : Nat) : Fld := ⟨R.LIN_FLT_ID i j, 29, 1⟩
def F.LIN_FLT_ID_EN (i j : Nat) : Fld := ⟨R.LIN_FLT_ID i j, 31, 1⟩
def F.LIN_FLT_MASK_ID_MASK (i j : Nat) : Fld := ⟨R.LIN_FLT_MASK i j, 0, 29⟩
def F.LIN_FLT_MASK_IDE_MASK (i j : Nat) : Fld := ⟨R.LIN_FLT_MASK i j, 29, 1⟩
def F.LIN_FLT_FIFO_FIFO (i j : Nat) : Fld := ⟨R.LIN_FLT_FIFO i j, 0, 6⟩
def F.LIN_FLT_FIFO_ARMED (i j : Nat) : Fld := ⟨R.LIN_FLT_FIFO i j, 8, 1⟩

/-! ### Block OSP at 0x400F0000 (Table 23-1, Table 23-2) -/
abbrev R.OSP_CTL : Nat := 0xF0000
abbrev R.OSP_STAT : Nat := 0xF0004
abbrev R.OSP_FS : Nat := 0xF0008
abbrev R.OSP_FS_MEAS : Nat := 0xF000C
abbrev R.OSP_AGC0 : Nat := 0xF0010
abbrev R.OSP_AGC1 : Nat := 0xF0014
abbrev R.OSP_RSSI_CAL : Nat := 0xF0018
abbrev R.OSP_RSSI_NOW : Nat := 0xF001C
abbrev R.OSP_EVT : Nat := 0xF0020
abbrev R.OSP_CNT : Nat := 0xF0024
abbrev R.OSP_CNT2 : Nat := 0xF0028
abbrev R.OSP_CNT_CLR : Nat := 0xF002C
abbrev R.OSP_PRF (i j : Nat) : Nat := 0xF0100 + 32 * (i % 16) + 4 * (j % 8)
def F.OSP_CTL_RX_EN : Fld := ⟨R.OSP_CTL, 0, 1⟩
def F.OSP_CTL_RX_PROFILE : Fld := ⟨R.OSP_CTL, 1, 4⟩
def F.OSP_CTL_FIFO : Fld := ⟨R.OSP_CTL, 8, 6⟩
def F.OSP_CTL_TX_PREEMPT : Fld := ⟨R.OSP_CTL, 16, 1⟩
def F.OSP_CTL_TR_US : Fld := ⟨R.OSP_CTL, 24, 8⟩
def F.OSP_STAT_RXSTATE : Fld := ⟨R.OSP_STAT, 0, 3⟩
def F.OSP_STAT_TX_ACTIVE : Fld := ⟨R.OSP_STAT, 3, 1⟩
def F.OSP_STAT_SCLK_OK : Fld := ⟨R.OSP_STAT, 4, 1⟩
def F.OSP_STAT_TXQ : Fld := ⟨R.OSP_STAT, 8, 4⟩
def F.OSP_STAT_RXQ : Fld := ⟨R.OSP_STAT, 12, 4⟩
def F.OSP_STAT_GAIN : Fld := ⟨R.OSP_STAT, 16, 6⟩
def F.OSP_FS_FS : Fld := ⟨R.OSP_FS, 0, 23⟩
def F.OSP_FS_MEAS_FS : Fld := ⟨R.OSP_FS_MEAS, 0, 23⟩
def F.OSP_AGC0_AGC_HI : Fld := ⟨R.OSP_AGC0, 0, 11⟩
def F.OSP_AGC0_AGC_LO : Fld := ⟨R.OSP_AGC0, 16, 11⟩
def F.OSP_AGC1_SETTLE : Fld := ⟨R.OSP_AGC1, 0, 8⟩
def F.OSP_AGC1_DECAY : Fld := ⟨R.OSP_AGC1, 8, 8⟩
def F.OSP_AGC1_ATTACK_STEP : Fld := ⟨R.OSP_AGC1, 16, 4⟩
def F.OSP_RSSI_CAL_FS_DBM : Fld := ⟨R.OSP_RSSI_CAL, 0, 16⟩
def F.OSP_RSSI_CAL_GAIN_STEP : Fld := ⟨R.OSP_RSSI_CAL, 16, 8⟩
def F.OSP_RSSI_NOW_RSSI : Fld := ⟨R.OSP_RSSI_NOW, 0, 16⟩
def F.OSP_EVT_FS_MISMATCH : Fld := ⟨R.OSP_EVT, 0, 1⟩
def F.OSP_EVT_SCLK_LOST : Fld := ⟨R.OSP_EVT, 1, 1⟩
def F.OSP_EVT_ABORTED : Fld := ⟨R.OSP_EVT, 2, 1⟩
def F.OSP_EVT_FRM_ERR : Fld := ⟨R.OSP_EVT, 3, 1⟩
def F.OSP_CNT_PACKETS : Fld := ⟨R.OSP_CNT, 0, 16⟩
def F.OSP_CNT_FALSE_PRE : Fld := ⟨R.OSP_CNT, 16, 16⟩
def F.OSP_CNT2_CW_FAIL : Fld := ⟨R.OSP_CNT2, 0, 16⟩
def F.OSP_CNT2_TX_SENT : Fld := ⟨R.OSP_CNT2, 16, 16⟩
def F.OSP_CNT_CLR_ALL : Fld := ⟨R.OSP_CNT_CLR, 0, 1⟩
def F.OSP_PRF_W0_MOD (i : Nat) : Fld := ⟨R.OSP_PRF i 0, 0, 2⟩
def F.OSP_PRF_W0_MANCH (i : Nat) : Fld := ⟨R.OSP_PRF i 0, 2, 1⟩
def F.OSP_PRF_W0_MANCH_INV (i : Nat) : Fld := ⟨R.OSP_PRF i 0, 3, 1⟩
def F.OSP_PRF_W0_BITORDER (i : Nat) : Fld := ⟨R.OSP_PRF i 0, 4, 1⟩
def F.OSP_PRF_W0_FEC (i : Nat) : Fld := ⟨R.OSP_PRF i 0, 5, 3⟩
def F.OSP_PRF_W0_ROWS_M1 (i : Nat) : Fld := ⟨R.OSP_PRF i 0, 8, 4⟩
def F.OSP_PRF_W0_VARLEN (i : Nat) : Fld := ⟨R.OSP_PRF i 0, 12, 1⟩
def F.OSP_PRF_W1_BITRATE (i : Nat) : Fld := ⟨R.OSP_PRF i 1, 0, 18⟩
def F.OSP_PRF_W2_DEV (i : Nat) : Fld := ⟨R.OSP_PRF i 2, 0, 18⟩
def F.OSP_PRF_W2_ASK_LOW (i : Nat) : Fld := ⟨R.OSP_PRF i 2, 24, 6⟩
def F.OSP_PRF_W3_PRE_LEN (i : Nat) : Fld := ⟨R.OSP_PRF i 3, 0, 6⟩
def F.OSP_PRF_W3_PRE_THR (i : Nat) : Fld := ⟨R.OSP_PRF i 3, 8, 6⟩
def F.OSP_PRF_W3_TX_PRE (i : Nat) : Fld := ⟨R.OSP_PRF i 3, 16, 8⟩
def F.OSP_PRF_W3_SYNC_WAIT (i : Nat) : Fld := ⟨R.OSP_PRF i 3, 24, 8⟩
def F.OSP_PRF_W4_SYNC_WORD (i : Nat) : Fld := ⟨R.OSP_PRF i 4, 0, 32⟩
def F.OSP_PRF_W5_SYNC_LEN (i : Nat) : Fld := ⟨R.OSP_PRF i 5, 0, 6⟩
def F.OSP_PRF_W5_SYNC_ERR (i : Nat) : Fld := ⟨R.OSP_PRF i 5, 8, 2⟩
def F.OSP_PRF_W5_PKT_LEN (i : Nat) : Fld := ⟨R.OSP_PRF i 5, 16, 8⟩
def F.OSP_PRF_W6_MGAIN (i : Nat) : Fld := ⟨R.OSP_PRF i 6, 0, 6⟩
def F.OSP_PRF_W6_AGC (i : Nat) : Fld := ⟨R.OSP_PRF i 6, 8, 1⟩
def F.OSP_PRF_W6_AFC_EN (i : Nat) : Fld := ⟨R.OSP_PRF i 6, 9, 1⟩
def F.OSP_PRF_W6_AFC_KHZ (i : Nat) : Fld := ⟨R.OSP_PRF i 6, 16, 8⟩
def F.OSP_PRF_W7_TX_AMP (i : Nat) : Fld := ⟨R.OSP_PRF i 7, 0, 11⟩
def F.OSP_PRF_W7_RAMP_US (i : Nat) : Fld := ⟨R.OSP_PRF i 7, 16, 8⟩
def F.OSP_PRF_W7_TXEN_LEAD (i : Nat) : Fld := ⟨R.OSP_PRF i 7, 24, 8⟩

/-! ### Block TBU at 0x40100000 (Table 23-1, Table 23-2) -/
abbrev R.TBU_STAT : Nat := 0x100000
abbrev R.TBU_CTL : Nat := 0x100004
abbrev R.TBU_NOW_NS : Nat := 0x100008
abbrev R.TBU_NOW_SLO : Nat := 0x10000C
abbrev R.TBU_NOW_SHI : Nat := 0x100010
abbrev R.TBU_OFFSET : Nat := 0x100014
abbrev R.TBU_FREQ : Nat := 0x100018
abbrev R.TBU_PPS_CMP : Nat := 0x10001C
abbrev R.TBU_ASYM : Nat := 0x100020
abbrev R.TBU_LINK_DLY : Nat := 0x100024
abbrev R.TBU_LOCK : Nat := 0x100028
abbrev R.TBU_EVT : Nat := 0x10002C
abbrev R.TBU_CNT : Nat := 0x100030
abbrev R.TBU_CNT2 : Nat := 0x100034
abbrev R.TBU_LAST_STEP : Nat := 0x100038
abbrev R.TBU_LOCK_AGE : Nat := 0x10003C
abbrev R.TBU_PPS_TS_NS : Nat := 0x100040
abbrev R.TBU_PPS_TS_S : Nat := 0x100044
def F.TBU_STAT_STATE : Fld := ⟨R.TBU_STAT, 0, 3⟩
def F.TBU_STAT_REF_USED : Fld := ⟨R.TBU_STAT, 4, 2⟩
def F.TBU_STAT_HOLD : Fld := ⟨R.TBU_STAT, 8, 1⟩
def F.TBU_STAT_UNSYNC : Fld := ⟨R.TBU_STAT, 9, 1⟩
def F.TBU_STAT_PPS_OK : Fld := ⟨R.TBU_STAT, 10, 1⟩
def F.TBU_STAT_BCN_OK : Fld := ⟨R.TBU_STAT, 11, 1⟩
def F.TBU_STAT_TCXO_OK : Fld := ⟨R.TBU_STAT, 12, 1⟩
def F.TBU_CTL_REF : Fld := ⟨R.TBU_CTL, 0, 2⟩
def F.TBU_CTL_PPS_IN_EN : Fld := ⟨R.TBU_CTL, 2, 1⟩
def F.TBU_CTL_PPS_IN_EDGE : Fld := ⟨R.TBU_CTL, 3, 1⟩
def F.TBU_CTL_PPS_OUT_EN : Fld := ⟨R.TBU_CTL, 4, 1⟩
def F.TBU_CTL_PPS_POL : Fld := ⟨R.TBU_CTL, 5, 1⟩
def F.TBU_CTL_PPS_GATE : Fld := ⟨R.TBU_CTL, 6, 1⟩
def F.TBU_CTL_BCN_EN : Fld := ⟨R.TBU_CTL, 7, 1⟩
def F.TBU_CTL_LOSS_S : Fld := ⟨R.TBU_CTL, 8, 4⟩
def F.TBU_CTL_PPS_WIDTH : Fld := ⟨R.TBU_CTL, 16, 9⟩
def F.TBU_NOW_NS_NS : Fld := ⟨R.TBU_NOW_NS, 0, 32⟩
def F.TBU_NOW_SLO_SEC : Fld := ⟨R.TBU_NOW_SLO, 0, 32⟩
def F.TBU_NOW_SHI_SEC : Fld := ⟨R.TBU_NOW_SHI, 0, 16⟩
def F.TBU_OFFSET_THETA : Fld := ⟨R.TBU_OFFSET, 0, 32⟩
def F.TBU_FREQ_FREQ : Fld := ⟨R.TBU_FREQ, 0, 32⟩
def F.TBU_PPS_CMP_NS : Fld := ⟨R.TBU_PPS_CMP, 0, 32⟩
def F.TBU_ASYM_NS : Fld := ⟨R.TBU_ASYM, 0, 16⟩
def F.TBU_LINK_DLY_NS : Fld := ⟨R.TBU_LINK_DLY, 0, 16⟩
def F.TBU_LOCK_LOCK_NS : Fld := ⟨R.TBU_LOCK, 0, 16⟩
def F.TBU_LOCK_HOLD_LIMIT : Fld := ⟨R.TBU_LOCK, 16, 16⟩
def F.TBU_EVT_STATE_CHG : Fld := ⟨R.TBU_EVT, 0, 1⟩
def F.TBU_EVT_STEP : Fld := ⟨R.TBU_EVT, 1, 1⟩
def F.TBU_EVT_PPS_LOST : Fld := ⟨R.TBU_EVT, 2, 1⟩
def F.TBU_EVT_BCN_LOST : Fld := ⟨R.TBU_EVT, 3, 1⟩
def F.TBU_EVT_TCXO_LOST : Fld := ⟨R.TBU_EVT, 4, 1⟩
def F.TBU_EVT_PPS_BAD : Fld := ⟨R.TBU_EVT, 5, 1⟩
def F.TBU_EVT_PPS_SKIP : Fld := ⟨R.TBU_EVT, 6, 1⟩
def F.TBU_CNT_STEPS : Fld := ⟨R.TBU_CNT, 0, 16⟩
def F.TBU_CNT_PPS_BAD : Fld := ⟨R.TBU_CNT, 16, 16⟩
def F.TBU_CNT2_PPS_SKIPPED : Fld := ⟨R.TBU_CNT2, 0, 16⟩
def F.TBU_CNT2_HOLDOVERS : Fld := ⟨R.TBU_CNT2, 16, 16⟩
def F.TBU_LAST_STEP_NS : Fld := ⟨R.TBU_LAST_STEP, 0, 32⟩
def F.TBU_LOCK_AGE_S : Fld := ⟨R.TBU_LOCK_AGE, 0, 32⟩
def F.TBU_PPS_TS_NS_W : Fld := ⟨R.TBU_PPS_TS_NS, 0, 32⟩
def F.TBU_PPS_TS_S_W : Fld := ⟨R.TBU_PPS_TS_S, 0, 32⟩

/-! ### Block TAG at 0x40110000 (Table 23-1, Table 23-2) -/
abbrev R.TAG_STAT : Nat := 0x110000
abbrev R.TAG_CTL : Nat := 0x110004
abbrev R.TAG_UID_LO : Nat := 0x110008
abbrev R.TAG_UID_HI : Nat := 0x11000C
abbrev R.TAG_LOCK_FIRST : Nat := 0x110010
abbrev R.TAG_LOCK_CMD : Nat := 0x110014
abbrev R.TAG_EVT : Nat := 0x110018
abbrev R.TAG_SESS : Nat := 0x11001C
abbrev R.TAG_WAIT : Nat := 0x110020
abbrev R.TAG_LOCK (i : Nat) : Nat := 0x110100 + 4 * (i % 64)
def F.TAG_STAT_FIELD : Fld := ⟨R.TAG_STAT, 0, 1⟩
def F.TAG_STAT_QUIET : Fld := ⟨R.TAG_STAT, 1, 1⟩
def F.TAG_STAT_PHASE : Fld := ⟨R.TAG_STAT, 2, 1⟩
def F.TAG_STAT_OVR_ACTIVE : Fld := ⟨R.TAG_STAT, 3, 1⟩
def F.TAG_STAT_LOCK_BUSY : Fld := ⟨R.TAG_STAT, 4, 1⟩
def F.TAG_STAT_QUEUE : Fld := ⟨R.TAG_STAT, 8, 4⟩
def F.TAG_CTL_OVERRIDE : Fld := ⟨R.TAG_CTL, 0, 1⟩
def F.TAG_CTL_SESS_END_MS : Fld := ⟨R.TAG_CTL, 8, 8⟩
def F.TAG_UID_LO_UID : Fld := ⟨R.TAG_UID_LO, 0, 32⟩
def F.TAG_UID_HI_UID : Fld := ⟨R.TAG_UID_HI, 0, 32⟩
def F.TAG_LOCK_FIRST_FIRST : Fld := ⟨R.TAG_LOCK_FIRST, 0, 11⟩
def F.TAG_LOCK_CMD_LAST : Fld := ⟨R.TAG_LOCK_CMD, 0, 11⟩
def F.TAG_LOCK_CMD_UNLOCK : Fld := ⟨R.TAG_LOCK_CMD, 12, 1⟩
def F.TAG_LOCK_CMD_KEY : Fld := ⟨R.TAG_LOCK_CMD, 16, 16⟩
def F.TAG_EVT_SESS_END : Fld := ⟨R.TAG_EVT, 0, 1⟩
def F.TAG_EVT_FIELD_LOCK : Fld := ⟨R.TAG_EVT, 1, 1⟩
def F.TAG_EVT_LOCK_DENIED : Fld := ⟨R.TAG_EVT, 2, 1⟩
def F.TAG_EVT_COMMIT_DENIED : Fld := ⟨R.TAG_EVT, 3, 1⟩
def F.TAG_SESS_SESSIONS : Fld := ⟨R.TAG_SESS, 0, 16⟩
def F.TAG_SESS_FIELD_LOCKS : Fld := ⟨R.TAG_SESS, 16, 16⟩
def F.TAG_WAIT_MAX_US : Fld := ⟨R.TAG_WAIT, 0, 24⟩
def F.TAG_LOCK_LOCK (i : Nat) : Fld := ⟨R.TAG_LOCK i, 0, 32⟩

/-! ### Block SCR at 0x40120000 (Table 23-1, Table 23-2) -/
abbrev R.SCR_STAT : Nat := 0x120000
abbrev R.SCR_CTL : Nat := 0x120004
abbrev R.SCR_CMD : Nat := 0x120008
abbrev R.SCR_ARG : Nat := 0x12000C
abbrev R.SCR_KEYW (i : Nat) : Nat := 0x120010 + 4 * (i % 4)
abbrev R.SCR_EVT : Nat := 0x120020
abbrev R.SCR_CNT : Nat := 0x120024
abbrev R.SCR_KSLOT (i : Nat) : Nat := 0x120080 + 4 * (i % 16)
abbrev R.SCR_RNG_CTL (i : Nat) : Nat := 0x120100 + 32 * (i % 8)
abbrev R.SCR_RNG_TAG (i : Nat) : Nat := 0x120104 + 32 * (i % 8)
abbrev R.SCR_RNG_EPL (i : Nat) : Nat := 0x120108 + 32 * (i % 8)
abbrev R.SCR_RNG_EPH (i : Nat) : Nat := 0x12010C + 32 * (i % 8)
abbrev R.SCR_RNG_PROG (i : Nat) : Nat := 0x120110 + 32 * (i % 8)
abbrev R.SCR_RNG_CNT (i : Nat) : Nat := 0x120114 + 32 * (i % 8)
def F.SCR_STAT_BUSY : Fld := ⟨R.SCR_STAT, 0, 1⟩
def F.SCR_STAT_FUNC : Fld := ⟨R.SCR_STAT, 1, 3⟩
def F.SCR_STAT_RESULT : Fld := ⟨R.SCR_STAT, 4, 3⟩
def F.SCR_CTL_SEC_ALARM : Fld := ⟨R.SCR_CTL, 0, 1⟩
def F.SCR_CMD_FUNC : Fld := ⟨R.SCR_CMD, 0, 3⟩
def F.SCR_CMD_UNBIND : Fld := ⟨R.SCR_CMD, 3, 1⟩
def F.SCR_CMD_RANGE : Fld := ⟨R.SCR_CMD, 4, 3⟩
def F.SCR_CMD_SLOT : Fld := ⟨R.SCR_CMD, 8, 4⟩
def F.SCR_CMD_KEY : Fld := ⟨R.SCR_CMD, 16, 16⟩
def F.SCR_ARG_TAG_FIRST : Fld := ⟨R.SCR_ARG, 0, 12⟩
def F.SCR_ARG_TAG_SPAN : Fld := ⟨R.SCR_ARG, 16, 12⟩
def F.SCR_ARG_DSLOT : Fld := ⟨R.SCR_ARG, 29, 3⟩
def F.SCR_KEYW_K (i : Nat) : Fld := ⟨R.SCR_KEYW i, 0, 32⟩
def F.SCR_EVT_SECURITY : Fld := ⟨R.SCR_EVT, 0, 1⟩
def F.SCR_EVT_REKEY_DONE : Fld := ⟨R.SCR_EVT, 1, 1⟩
def F.SCR_EVT_ROLL : Fld := ⟨R.SCR_EVT, 2, 1⟩
def F.SCR_EVT_RESUMED : Fld := ⟨R.SCR_EVT, 3, 1⟩
def F.SCR_CNT_UNWRITTEN : Fld := ⟨R.SCR_CNT, 0, 16⟩
def F.SCR_CNT_WEAK : Fld := ⟨R.SCR_CNT, 16, 16⟩
def F.SCR_KSLOT_STATE (i : Nat) : Fld := ⟨R.SCR_KSLOT i, 0, 2⟩
def F.SCR_KSLOT_RANGE (i : Nat) : Fld := ⟨R.SCR_KSLOT i, 4, 3⟩
def F.SCR_KSLOT_KCHK (i : Nat) : Fld := ⟨R.SCR_KSLOT i, 16, 16⟩
def F.SCR_RNG_CTL_STATE (i : Nat) : Fld := ⟨R.SCR_RNG_CTL i, 0, 3⟩
def F.SCR_RNG_CTL_KSLOT (i : Nat) : Fld := ⟨R.SCR_RNG_CTL i, 4, 4⟩
def F.SCR_RNG_CTL_OLD_KSLOT (i : Nat) : Fld := ⟨R.SCR_RNG_CTL i, 8, 4⟩
def F.SCR_RNG_CTL_DSLOT (i : Nat) : Fld := ⟨R.SCR_RNG_CTL i, 12, 3⟩
def F.SCR_RNG_TAG_TAG_FIRST (i : Nat) : Fld := ⟨R.SCR_RNG_TAG i, 0, 12⟩
def F.SCR_RNG_TAG_TAG_SPAN (i : Nat) : Fld := ⟨R.SCR_RNG_TAG i, 16, 12⟩
def F.SCR_RNG_EPL_EPOCH (i : Nat) : Fld := ⟨R.SCR_RNG_EPL i, 0, 32⟩
def F.SCR_RNG_EPH_EPOCH (i : Nat) : Fld := ⟨R.SCR_RNG_EPH i, 0, 32⟩
def F.SCR_RNG_PROG_PROG (i : Nat) : Fld := ⟨R.SCR_RNG_PROG i, 0, 25⟩
def F.SCR_RNG_CNT_FAILS (i : Nat) : Fld := ⟨R.SCR_RNG_CNT i, 0, 16⟩
def F.SCR_RNG_CNT_ROLLS (i : Nat) : Fld := ⟨R.SCR_RNG_CNT i, 16, 16⟩

/-! ### Block KIT at 0x40130000 (Table 23-1, Table 23-2) -/
abbrev R.KIT_STAT : Nat := 0x130000
abbrev R.KIT_ROM_VER : Nat := 0x130008
abbrev R.KIT_WDT_CTL : Nat := 0x130010
abbrev R.KIT_WDT_SVC : Nat := 0x130014
abbrev R.KIT_WDT_LEFT : Nat := 0x130018
abbrev R.KIT_FW_CHK : Nat := 0x130020
abbrev R.KIT_FWH (i : Nat) : Nat := 0x130024 + 4 * (i % 6)
abbrev R.KIT_IRQ_PEND : Nat := 0x130040
abbrev R.KIT_IRQ_EN : Nat := 0x130044
abbrev R.KIT_MSIP : Nat := 0x130048
abbrev R.KIT_CTXS : Nat := 0x13004C
abbrev R.KIT_MTIME (i : Nat) : Nat := 0x130050 + 4 * (i % 2)
abbrev R.KIT_MTIMECMP (i : Nat) : Nat := 0x130058 + 4 * (i % 2)
abbrev R.KIT_POLICY : Nat := 0x130060
abbrev R.KIT_MBX_H2K_CTL : Nat := 0x130080
abbrev R.KIT_MBX_H2K_W (i : Nat) : Nat := 0x1300C0 + 4 * (i % 16)
abbrev R.KIT_MBX_K2H_CTL : Nat := 0x130100
abbrev R.KIT_MBX_K2H_W (i : Nat) : Nat := 0x130140 + 4 * (i % 16)
def F.KIT_STAT_MODE : Fld := ⟨R.KIT_STAT, 0, 2⟩
def F.KIT_STAT_REGION : Fld := ⟨R.KIT_STAT, 2, 2⟩
def F.KIT_STAT_WDT_EN : Fld := ⟨R.KIT_STAT, 4, 1⟩
def F.KIT_STAT_REASON : Fld := ⟨R.KIT_STAT, 8, 3⟩
def F.KIT_STAT_VERSION : Fld := ⟨R.KIT_STAT, 16, 16⟩
def F.KIT_ROM_VER_VER : Fld := ⟨R.KIT_ROM_VER, 0, 16⟩
def F.KIT_WDT_CTL_EN : Fld := ⟨R.KIT_WDT_CTL, 0, 1⟩
def F.KIT_WDT_CTL_PERIOD : Fld := ⟨R.KIT_WDT_CTL, 16, 16⟩
def F.KIT_WDT_SVC_KEY : Fld := ⟨R.KIT_WDT_SVC, 0, 16⟩
def F.KIT_WDT_LEFT_MS : Fld := ⟨R.KIT_WDT_LEFT, 0, 16⟩
def F.KIT_FW_CHK_REGION : Fld := ⟨R.KIT_FW_CHK, 0, 2⟩
def F.KIT_FW_CHK_START : Fld := ⟨R.KIT_FW_CHK, 4, 1⟩
def F.KIT_FW_CHK_BUSY : Fld := ⟨R.KIT_FW_CHK, 8, 1⟩
def F.KIT_FW_CHK_DONE : Fld := ⟨R.KIT_FW_CHK, 9, 1⟩
def F.KIT_FW_CHK_PASS : Fld := ⟨R.KIT_FW_CHK, 10, 1⟩
def F.KIT_FW_CHK_FAIL : Fld := ⟨R.KIT_FW_CHK, 11, 3⟩
def F.KIT_FWH_W (i : Nat) : Fld := ⟨R.KIT_FWH i, 0, 32⟩
def F.KIT_IRQ_PEND_CTX : Fld := ⟨R.KIT_IRQ_PEND, 0, 1⟩
def F.KIT_IRQ_PEND_MBX_H2K : Fld := ⟨R.KIT_IRQ_PEND, 1, 1⟩
def F.KIT_IRQ_PEND_MBX_K2H : Fld := ⟨R.KIT_IRQ_PEND, 2, 1⟩
def F.KIT_IRQ_PEND_DEVEVT : Fld := ⟨R.KIT_IRQ_PEND, 3, 1⟩
def F.KIT_IRQ_PEND_ALARM : Fld := ⟨R.KIT_IRQ_PEND, 4, 1⟩
def F.KIT_IRQ_PEND_TLM_THR : Fld := ⟨R.KIT_IRQ_PEND, 5, 1⟩
def F.KIT_IRQ_EN_EN : Fld := ⟨R.KIT_IRQ_EN, 0, 6⟩
def F.KIT_MSIP_MSIP : Fld := ⟨R.KIT_MSIP, 0, 1⟩
def F.KIT_CTXS_FIRST : Fld := ⟨R.KIT_CTXS, 0, 10⟩
def F.KIT_CTXS_COUNT : Fld := ⟨R.KIT_CTXS, 16, 11⟩
def F.KIT_MTIME_T (i : Nat) : Fld := ⟨R.KIT_MTIME i, 0, 32⟩
def F.KIT_MTIMECMP_T (i : Nat) : Fld := ⟨R.KIT_MTIMECMP i, 0, 32⟩
def F.KIT_POLICY_BITS : Fld := ⟨R.KIT_POLICY, 0, 6⟩
def F.KIT_POLICY_SAVE_SLOT : Fld := ⟨R.KIT_POLICY, 8, 6⟩
def F.KIT_POLICY_LOCAL_HOUR : Fld := ⟨R.KIT_POLICY, 16, 5⟩
def F.KIT_POLICY_WEAR_H : Fld := ⟨R.KIT_POLICY, 24, 8⟩
def F.KIT_MBX_H2K_CTL_SEND : Fld := ⟨R.KIT_MBX_H2K_CTL, 0, 1⟩
def F.KIT_MBX_K2H_CTL_SEND : Fld := ⟨R.KIT_MBX_K2H_CTL, 0, 1⟩
def F.KIT_MBX_H2K_CTL_DONE : Fld := ⟨R.KIT_MBX_H2K_CTL, 1, 1⟩
def F.KIT_MBX_K2H_CTL_DONE : Fld := ⟨R.KIT_MBX_K2H_CTL, 1, 1⟩
def F.KIT_MBX_H2K_CTL_FULL : Fld := ⟨R.KIT_MBX_H2K_CTL, 8, 1⟩
def F.KIT_MBX_K2H_CTL_FULL : Fld := ⟨R.KIT_MBX_K2H_CTL, 8, 1⟩
def F.KIT_MBX_H2K_CTL_DROPS : Fld := ⟨R.KIT_MBX_H2K_CTL, 16, 16⟩
def F.KIT_MBX_K2H_CTL_DROPS : Fld := ⟨R.KIT_MBX_K2H_CTL, 16, 16⟩
def F.KIT_MBX_H2K_W_W (i : Nat) : Fld := ⟨R.KIT_MBX_H2K_W i, 0, 32⟩
def F.KIT_MBX_K2H_W_W (i : Nat) : Fld := ⟨R.KIT_MBX_K2H_W i, 0, 32⟩

/-! ### Block LCY at 0x40140000 (Table 23-1, Table 23-2) -/
abbrev R.LCY_STATE : Nat := 0x140000
abbrev R.LCY_ADVANCE : Nat := 0x140004
abbrev R.LCY_EVT : Nat := 0x140008
def F.LCY_STATE_STATE : Fld := ⟨R.LCY_STATE, 0, 3⟩
def F.LCY_STATE_PARTIAL : Fld := ⟨R.LCY_STATE, 4, 1⟩
def F.LCY_STATE_PEND : Fld := ⟨R.LCY_STATE, 5, 3⟩
def F.LCY_STATE_BUSY : Fld := ⟨R.LCY_STATE, 8, 1⟩
def F.LCY_ADVANCE_TARGET : Fld := ⟨R.LCY_ADVANCE, 0, 3⟩
def F.LCY_ADVANCE_KEY : Fld := ⟨R.LCY_ADVANCE, 16, 16⟩
def F.LCY_EVT_DONE : Fld := ⟨R.LCY_EVT, 0, 1⟩
def F.LCY_EVT_DENIED : Fld := ⟨R.LCY_EVT, 1, 1⟩
def F.LCY_EVT_FAIL : Fld := ⟨R.LCY_EVT, 2, 1⟩

/-! ### Block BST at 0x40150000 (Table 23-1, Table 23-2) -/
abbrev R.BST_STAT : Nat := 0x150000
abbrev R.BST_CTL : Nat := 0x150004
abbrev R.BST_LAST : Nat := 0x150008
abbrev R.BST_SIG (i : Nat) : Nat := 0x150010 + 4 * (i % 2)
abbrev R.BST_GOLD (i : Nat) : Nat := 0x150018 + 4 * (i % 2)
abbrev R.BST_PAT : Nat := 0x150020
abbrev R.BST_CNT : Nat := 0x150024
abbrev R.BST_EVT : Nat := 0x150028
abbrev R.BST_INFO (i : Nat) : Nat := 0x150100 + 4 * (i % 24)
def F.BST_STAT_BUSY : Fld := ⟨R.BST_STAT, 0, 1⟩
def F.BST_STAT_PHASE : Fld := ⟨R.BST_STAT, 1, 3⟩
def F.BST_STAT_DOMAIN : Fld := ⟨R.BST_STAT, 4, 5⟩
def F.BST_STAT_QUEUE : Fld := ⟨R.BST_STAT, 12, 4⟩
def F.BST_CTL_WAIT_MS : Fld := ⟨R.BST_CTL, 0, 16⟩
def F.BST_LAST_DOMAIN : Fld := ⟨R.BST_LAST, 0, 5⟩
def F.BST_LAST_PASS : Fld := ⟨R.BST_LAST, 8, 1⟩
def F.BST_LAST_COMPARED : Fld := ⟨R.BST_LAST, 9, 1⟩
def F.BST_LAST_STATUS : Fld := ⟨R.BST_LAST, 16, 8⟩
def F.BST_SIG_SIG (i : Nat) : Fld := ⟨R.BST_SIG i, 0, 32⟩
def F.BST_GOLD_GOLD (i : Nat) : Fld := ⟨R.BST_GOLD i, 0, 32⟩
def F.BST_PAT_COUNT : Fld := ⟨R.BST_PAT, 0, 32⟩
def F.BST_CNT_RUNS : Fld := ⟨R.BST_CNT, 0, 16⟩
def F.BST_CNT_FAILS : Fld := ⟨R.BST_CNT, 16, 16⟩
def F.BST_EVT_DONE : Fld := ⟨R.BST_EVT, 0, 1⟩
def F.BST_EVT_FAIL : Fld := ⟨R.BST_EVT, 1, 1⟩
def F.BST_EVT_TIMEOUT : Fld := ⟨R.BST_EVT, 2, 1⟩
def F.BST_INFO_DEF_PAT (i : Nat) : Fld := ⟨R.BST_INFO i, 0, 16⟩
def F.BST_INFO_TURNS (i : Nat) : Fld := ⟨R.BST_INFO i, 16, 12⟩
def F.BST_INFO_SERVICE (i : Nat) : Fld := ⟨R.BST_INFO i, 31, 1⟩

/-! ### Block TLM at 0x40160000 (Table 23-1, Table 23-2) -/
abbrev R.TLM_CTL : Nat := 0x160000
abbrev R.TLM_THERM : Nat := 0x160004
abbrev R.TLM_EVT_HI : Nat := 0x160008
abbrev R.TLM_EVT_LO : Nat := 0x16000C
abbrev R.TLM_ALARM_EN : Nat := 0x160010
abbrev R.TLM_PACE_MIN : Nat := 0x160020
abbrev R.TLM_ACT_OPS (i : Nat) : Nat := 0x160040 + 8 * (i % 14)
abbrev R.TLM_ACT_BUSY (i : Nat) : Nat := 0x160044 + 8 * (i % 14)
abbrev R.TLM_CH_NOW (i : Nat) : Nat := 0x160100 + 16 * (i % 21)
abbrev R.TLM_CH_MAX (i : Nat) : Nat := 0x160104 + 16 * (i % 21)
abbrev R.TLM_CH_THR (i : Nat) : Nat := 0x160108 + 16 * (i % 21)
abbrev R.TLM_LOG_BASE : Nat := 0x160300
abbrev R.TLM_LOG_CFG : Nat := 0x160304
abbrev R.TLM_LOG_IDX : Nat := 0x160308
abbrev R.TLM_LOG_DROP : Nat := 0x16030C
def F.TLM_CTL_EN : Fld := ⟨R.TLM_CTL, 0, 1⟩
def F.TLM_CTL_LOG_EN : Fld := ⟨R.TLM_CTL, 1, 1⟩
def F.TLM_CTL_THERM_ACT : Fld := ⟨R.TLM_CTL, 2, 1⟩
def F.TLM_CTL_CLR : Fld := ⟨R.TLM_CTL, 3, 1⟩
def F.TLM_CTL_PERIOD : Fld := ⟨R.TLM_CTL, 8, 8⟩
def F.TLM_THERM_CRIT : Fld := ⟨R.TLM_THERM, 0, 16⟩
def F.TLM_THERM_THERM_TRIP : Fld := ⟨R.TLM_THERM, 16, 1⟩
def F.TLM_EVT_HI_CH : Fld := ⟨R.TLM_EVT_HI, 0, 21⟩
def F.TLM_EVT_LO_CH : Fld := ⟨R.TLM_EVT_LO, 0, 21⟩
def F.TLM_ALARM_EN_CH : Fld := ⟨R.TLM_ALARM_EN, 0, 21⟩
def F.TLM_PACE_MIN_NOW : Fld := ⟨R.TLM_PACE_MIN, 0, 12⟩
def F.TLM_PACE_MIN_REGION : Fld := ⟨R.TLM_PACE_MIN, 16, 4⟩
def F.TLM_PACE_MIN_VALID : Fld := ⟨R.TLM_PACE_MIN, 31, 1⟩
def F.TLM_ACT_OPS_COUNT (i : Nat) : Fld := ⟨R.TLM_ACT_OPS i, 0, 32⟩
def F.TLM_ACT_BUSY_COUNT (i : Nat) : Fld := ⟨R.TLM_ACT_BUSY i, 0, 32⟩
def F.TLM_CH_NOW_NOW (i : Nat) : Fld := ⟨R.TLM_CH_NOW i, 0, 16⟩
def F.TLM_CH_NOW_MIN (i : Nat) : Fld := ⟨R.TLM_CH_NOW i, 16, 16⟩
def F.TLM_CH_MAX_MAX (i : Nat) : Fld := ⟨R.TLM_CH_MAX i, 0, 16⟩
def F.TLM_CH_THR_LO (i : Nat) : Fld := ⟨R.TLM_CH_THR i, 0, 16⟩
def F.TLM_CH_THR_HI (i : Nat) : Fld := ⟨R.TLM_CH_THR i, 16, 16⟩
def F.TLM_LOG_BASE_BASE : Fld := ⟨R.TLM_LOG_BASE, 6, 26⟩
def F.TLM_LOG_CFG_ENTRIES : Fld := ⟨R.TLM_LOG_CFG, 0, 16⟩
def F.TLM_LOG_CFG_LOG_PERIOD : Fld := ⟨R.TLM_LOG_CFG, 16, 16⟩
def F.TLM_LOG_IDX_IDX : Fld := ⟨R.TLM_LOG_IDX, 0, 14⟩
def F.TLM_LOG_DROP_COUNT : Fld := ⟨R.TLM_LOG_DROP, 0, 32⟩

/-! ### Block FAB at 0x40170000 (Table 23-1, Table 23-2) -/
abbrev R.FAB_STAT : Nat := 0x170000
abbrev R.FAB_PACE_FACTOR : Nat := 0x170004
abbrev R.FAB_TRIM_CTL : Nat := 0x170010
abbrev R.FAB_TRIM_STAT : Nat := 0x170014
abbrev R.FAB_TRIM_ALERT : Nat := 0x170018
abbrev R.FAB_PACE (i : Nat) : Nat := 0x170040 + 4 * (i % 16)
abbrev R.FAB_PACE_CLR : Nat := 0x170080
abbrev R.FAB_ISL_LOCK : Nat := 0x1700C0
abbrev R.FAB_ISL_LOL : Nat := 0x1700C4
abbrev R.FAB_ISL_ERR : Nat := 0x1700C8
abbrev R.FAB_GATE_OVF : Nat := 0x1700CC
abbrev R.FAB_WIN_CNT : Nat := 0x1700D0
abbrev R.FAB_SOCK (i : Nat) : Nat := 0x170100 + 4 * (i % 32)
def F.FAB_STAT_STATE : Fld := ⟨R.FAB_STAT, 0, 3⟩
def F.FAB_STAT_RGN_ON : Fld := ⟨R.FAB_STAT, 16, 16⟩
def F.FAB_PACE_FACTOR_FACTOR : Fld := ⟨R.FAB_PACE_FACTOR, 0, 11⟩
def F.FAB_TRIM_CTL_TRIM_EN : Fld := ⟨R.FAB_TRIM_CTL, 0, 1⟩
def F.FAB_TRIM_CTL_PERIOD : Fld := ⟨R.FAB_TRIM_CTL, 4, 8⟩
def F.FAB_TRIM_CTL_STEPS : Fld := ⟨R.FAB_TRIM_CTL, 12, 4⟩
def F.FAB_TRIM_CTL_MAXDEFER : Fld := ⟨R.FAB_TRIM_CTL, 16, 8⟩
def F.FAB_TRIM_CTL_DEFER_EN : Fld := ⟨R.FAB_TRIM_CTL, 24, 1⟩
def F.FAB_TRIM_STAT_WINDOWS : Fld := ⟨R.FAB_TRIM_STAT, 0, 16⟩
def F.FAB_TRIM_STAT_FORCED : Fld := ⟨R.FAB_TRIM_STAT, 16, 8⟩
def F.FAB_TRIM_STAT_ALERT_TRIMS : Fld := ⟨R.FAB_TRIM_STAT, 24, 8⟩
def F.FAB_TRIM_ALERT_ALERT : Fld := ⟨R.FAB_TRIM_ALERT, 0, 16⟩
def F.FAB_PACE_NOW (i : Nat) : Fld := ⟨R.FAB_PACE i, 0, 12⟩
def F.FAB_PACE_MIN (i : Nat) : Fld := ⟨R.FAB_PACE i, 16, 12⟩
def F.FAB_PACE_VALID (i : Nat) : Fld := ⟨R.FAB_PACE i, 31, 1⟩
def F.FAB_PACE_CLR_RESTART : Fld := ⟨R.FAB_PACE_CLR, 0, 16⟩
def F.FAB_ISL_LOCK_LOCK : Fld := ⟨R.FAB_ISL_LOCK, 0, 25⟩
def F.FAB_ISL_LOL_LOL : Fld := ⟨R.FAB_ISL_LOL, 0, 25⟩
def F.FAB_ISL_ERR_ERR : Fld := ⟨R.FAB_ISL_ERR, 14, 11⟩
def F.FAB_GATE_OVF_COUNT : Fld := ⟨R.FAB_GATE_OVF, 0, 16⟩
def F.FAB_GATE_OVF_ISLAND : Fld := ⟨R.FAB_GATE_OVF, 16, 5⟩
def F.FAB_GATE_OVF_CLEAR : Fld := ⟨R.FAB_GATE_OVF, 31, 1⟩
def F.FAB_WIN_CNT_COUNT : Fld := ⟨R.FAB_WIN_CNT, 0, 32⟩
def F.FAB_SOCK_EN (i : Nat) : Fld := ⟨R.FAB_SOCK i, 0, 1⟩
def F.FAB_SOCK_CALL_EN (i : Nat) : Fld := ⟨R.FAB_SOCK i, 1, 1⟩
def F.FAB_SOCK_OUTSTANDING (i : Nat) : Fld := ⟨R.FAB_SOCK i, 8, 5⟩
def F.FAB_SOCK_ERRS (i : Nat) : Fld := ⟨R.FAB_SOCK i, 16, 16⟩

/-- The block of Table 23-1 that an offset lies in: 64 KiB each. -/
def blockOf (a : Nat) : Nat := a / 0x10000 % 32

end Sys2Proof
end

