-- ==== Sys2Proof/Machine/ResetWord.lean ====
section
/-! DEFINITION. The word every register holds after reset (R585, Table 23-3), the class by which reset sources return
it (R586, Table 23-4) and the reset domain it belongs to (Table 23-1, Table 10-11). -/
namespace Sys2Proof

/-- Default BIST patterns of a target domain, divided by 256 (BST_INFOd, Table 22-4). -/
def bistDefPat (d : Nat) : Nat :=
  match d with
  | 2 => 64
  | 3 => 64
  | 4 => 32
  | 5 => 128
  | 6 => 64
  | 7 => 64
  | 8 => 32
  | 9 => 64
  | 10 => 64
  | 11 => 128
  | 14 => 32
  | 15 => 32
  | 16 => 32
  | 17 => 32
  | 18 => 32
  | 19 => 32
  | 20 => 64
  | 21 => 64
  | 22 => 32
  | _ => 0

/-- The reset word of a telemetry channel's thresholds (Table 21-11): HI in [31:16], LO in [15:0]. -/
def tlmThrReset (c : Nat) : W32 :=
  if c < 8 then 0x01B8FF60#32 else
  match c with
  | 8 => 0x034802F8#32
  | 9 => 0x076206AE#32
  | 10 => 0x076206AE#32
  | 11 => 0x03A20366#32
  | 12 => 0x04D4048C#32
  | _ => 0xFFFF0000#32

/-- The reset word of word `i` of an Osprey profile (Table 23-3). -/
def ospPrfReset (i : Nat) : W32 :=
  match i with
  | 1 => 0x00002580#32
  | 2 => 0x00004E20#32
  | 3 => 0x00203010#32
  | 5 => 0x00010010#32
  | 6 => 0x00320320#32
  | 7 => 0x0A0A0400#32
  | _ => 0#32

/-- Table 23-3 by block: the reset word at offset `o` of block `b` of register space. Registers that the table gives
a store, fuse, kept, NV, img, start or pin value read 0 until that value is loaded (log entry 4). -/
def resetWordIn (b o : Nat) : W32 :=
  match b with
  | 0x00 => if o = 0 then 0x0F481021#32 else if o = 4 then Config.dieLo else if o = 8 then Config.dieHi else 0#32
  | 0x01 => if o = 0x08 then 3#32 else if o = 0x0C then 0xD#32 else 0#32
  | 0x02 => if o = 0x04 then 6#32 else if o = 0x08 then 0x64#32 else 0#32
  | 0x03 => if o = 0x04 then 4#32 else 0#32
  | 0x04 => if o = 0x04 then 0x1807#32 else 0#32
  | 0x05 => if o = 0x04 then 0x401#32 else if o = 0x48 then 0x1801#32 else 0#32
  | 0x06 => if o = 0x000 ∨ o = 0x100 then 5#32 else if o < 0x800 ∧ o % 0x100 = 0 then 4#32 else 0#32
  | 0x07 => if o = 0x04 then 0x03E80000#32 else if o = 0x14 then 0xFFF#32 else 0#32
  | 0x08 =>
    if o % 64 = 0 then 0x1C#32 else if o % 64 = 0x28 then 1#32
    else if o % 64 = 0x2C then BitVec.ofNat 32 (o / 64) else 0#32
  | 0x09 =>
    if o = 0x04 then 0xA0003#32 else if o = 0x08 ∨ o = 0x0C then 0x1000#32 else if o = 0x10 then 0x7F#32 else 0#32
  | 0x0A => if o = 0 ∨ o = 0x100 then 1#32 else 0#32
  | 0x0B => if o = 0x04 then 0x640A#32 else if o = 0x08 then 0x80#32 else 0#32
  | 0x0C =>
    if o = 0x04 then 0x21#32 else if 0x10 ≤ o ∧ o < 0x20 ∧ o % 4 = 0 then 0xF#32
    else if o = 0x40 then 0xA#32 else if o = 0x44 then 0x32#32 else if o = 0x48 then 0x64#32
    else if o = 0x4C then 0x3E8#32
    else if (0x80 ≤ o ∧ o < 0xB8 ∨ 0xC0 ≤ o ∧ o < 0xF8) ∧ o % 8 = 4 then 0xFFFFFFFF#32 else 0#32
  | 0x0D => if o < 0x800 ∧ o % 0x20 = 4 then 0x01000300#32 else 0#32
  | 0x0E =>
    if o < 0x4000 then (if o % 0x400 = 0x300 then 0x001F0000#32 else 0#32)
    else if 0x8000 ≤ o ∧ o < 0xA000 then
      (if o % 0x200 = 0 then 0x00010D00#32 else if o % 0x200 = 4 then 0x1046#32
       else if o % 0x200 = 0xC then 0x000403E8#32 else 0#32)
    else if 0xC000 ≤ o ∧ o < 0xC800 then
      (if o % 0x100 = 0 then 0xC#32 else if o % 0x100 = 4 then 0xBB8#32 else 0#32)
    else 0#32
  | 0x0F =>
    if o = 0 then 0x14000000#32 else if o = 8 then 0xF4240#32 else if o = 0x10 then 0x02000700#32
    else if o = 0x14 then 0x00064004#32 else if o = 0x18 then 0x000A0000#32 else if o = 0x1C then 0x8000#32
    else if 0x100 ≤ o ∧ o < 0x300 ∧ o % 4 = 0 then ospPrfReset (o % 32 / 4) else 0#32
  | 0x10 =>
    if o = 0 then 0x200#32 else if o = 4 then 0x00640394#32 else if o = 8 then 0x40000000#32
    else if o = 0x28 then 0x003C00C8#32 else 0#32
  | 0x11 => if o = 4 then 0x6400#32 else if o = 8 then Config.uidLo else if o = 0xC then Config.uidHi else 0#32
  | 0x12 => if o = 4 then 1#32 else 0#32
  | 0x13 =>
    if o = 8 then 0x102#32 else if o = 0x10 then 0x03E80000#32 else if o = 0x58 ∨ o = 0x5C then 0xFFFFFFFF#32
    else if o = 0x60 then 0x01020007#32 else 0#32
  | 0x14 => if o = 0 then 2#32 else 0#32
  | 0x15 =>
    if o = 4 then 0x64#32 else if 0x100 ≤ o ∧ o < 0x160 ∧ o % 4 = 0 then BitVec.ofNat 32 (bistDefPat ((o - 0x100) / 4))
    else 0#32
  | 0x16 =>
    if o = 0 then 0x101#32 else if o = 4 then 0x1D8#32 else if o = 0x10 then 0x1FFF#32
    else if o = 0x304 then 0x03E80400#32
    else if 0x100 ≤ o ∧ o < 0x250 ∧ o % 16 = 8 then tlmThrReset ((o - 0x100) / 16) else 0#32
  | 0x17 =>
    if o = 0x10 then 0x011440A1#32 else if 0x40 ≤ o ∧ o < 0x80 ∧ o % 4 = 0 then 0x0FFF0000#32 else 0#32
  | _ => 0#32

/-- The word at an offset of register space after reset (R585). -/
def resetWord (a : Nat) : W32 := resetWordIn (a / 0x10000) (a % 0x10000)

/-- The classes of R586: how a register's value goes with each reset source. -/
inductive RegClass where
  /-- Always-on registers: only power-on reset returns them. -/
  | owl
  /-- The event log and domain status of the RST block. -/
  | log
  /-- Base logic of the RST block. -/
  | baseRst
  /-- The rest of the base logic. -/
  | base
  /-- The registers of a reset domain. -/
  | dom (d : Nat)
  /-- Store, fuse, kept, NV, die and ROM values: no source changes them. -/
  | held
  /-- img, start and pin fields: reloaded at the start that follows. -/
  | loaded
  deriving DecidableEq, Repr

/-- The class of the register at an offset of register space (R583, R586, Table 10-11). -/
def regClass (a : Nat) : RegClass :=
  let o := a % 0x10000
  match a / 0x10000 with
  | 0x00 => .base
  | 0x01 =>
    if o = 0x08 ∨ o = 0x0C ∨ o = 0x10 ∨ o = 0x14 ∨ o = 0x18 ∨ o = 0x20 ∨ o = 0x28 ∨ o = 0x2C then .owl
    else if o = 0x1C ∨ o = 0x24 then .loaded else .base
  | 0x02 =>
    if o = 0 then .owl
    else if o = 0x24 ∨ o = 0x40 ∨ (0x100 ≤ o ∧ o < 0x160) then .log else .baseRst
  | 0x03 => if 0x20 ≤ o ∧ o < 0x30 then .held else .dom 21
  | 0x04 => .dom 21
  | 0x05 =>
    if (0x60 ≤ o ∧ o < 0x70) ∨ (0x100 ≤ o ∧ o < 0x300) then .loaded
    else if o = 0x58 ∨ o = 0x5C ∨ 0x1000 ≤ o then .held else .dom 9
  | 0x06 =>
    if o = 0x800 then .base
    else if 0x40 ≤ o % 0x100 ∧ o % 0x100 < 0x60 then .held else .dom (12 + o / 0x100)
  | 0x07 => if o = 0 ∨ (0x40 ≤ o ∧ o < 0x60) ∨ 0x8000 ≤ o then .dom 0 else .dom 1
  | 0x08 => .dom 1
  | 0x09 => .dom 1
  | 0x0A => if o < 0x100 then .dom 2 else .dom 3
  | 0x0B => if o = 0x08 ∨ o = 0x0C ∨ 0x400 ≤ o then .owl else .dom 1
  | 0x0C => .dom 6
  | 0x0D => .dom 5
  | 0x0E =>
    if o < 0x4000 ∧ 0x300 ≤ o % 0x400 then .owl
    else if 0x8000 ≤ o ∧ o < 0xA000 ∧ o % 0x200 = 0x18 then .owl else .dom 7
  | 0x0F => .dom 8
  | 0x10 => .dom 10
  | 0x11 => if o = 0x1C ∨ 0x100 ≤ o then .held else .dom 22
  | 0x12 => if 0x80 ≤ o then .held else .dom 21
  | 0x13 => if o = 0x60 then .owl else .dom 20
  | 0x14 => if o = 8 then .base else if o = 0 then .held else .base
  | 0x15 => .dom 23
  | 0x16 => .dom 23
  | 0x17 => if o = 4 ∨ o = 0xC8 ∨ (0x100 ≤ o ∧ o < 0x180) then .loaded else .dom 11
  | _ => .base

end Sys2Proof
end

