-- ==== Sys2Proof/Machine/Sparse.lean ====
section
/-! DEFINITION. Sparse storage: a list of (key, value) pairs with keys strictly rising. Registers, memory and
per-context records are held in this form. -/
namespace Sys2Proof

/-- The value listed at key `k`. -/
def sget {α : Type} (k : Nat) : List (Nat × α) → Option α
  | [] => none
  | (j, v) :: t => if j = k then some v else sget k t

/-- List `v` at key `k`, keeping the keys rising. -/
def sput {α : Type} (k : Nat) (v : α) : List (Nat × α) → List (Nat × α)
  | [] => [(k, v)]
  | (j, w) :: t =>
    if k < j then (k, v) :: (j, w) :: t
    else if j = k then (k, v) :: t
    else (j, w) :: sput k v t

/-- Unlist key `k`. -/
def sdel {α : Type} (k : Nat) : List (Nat × α) → List (Nat × α)
  | [] => []
  | (j, w) :: t => if j = k then sdel k t else (j, w) :: sdel k t

/-- The keys rise strictly and all lie above `b` (when given). -/
def srising {α : Type} (b : Option Nat) : List (Nat × α) → Bool
  | [] => true
  | (j, _) :: t => (match b with | none => true | some x => decide (x < j)) && srising (some j) t

/-- The canonical form of a sparse list. -/
def scanon {α : Type} (l : List (Nat × α)) : Bool := srising none l

/-- Store `v` at `k` where an unlisted key reads as `d`: storing `d` unlists the key. -/
def sset {α : Type} [DecidableEq α] (d : α) (k : Nat) (v : α) (l : List (Nat × α)) : List (Nat × α) :=
  if v = d then sdel k l else sput k v l

/-- The canonical form of a store whose unlisted key `k` reads as `d k` (`none`: a value that the spec leaves undefined): the keys
rise, and no entry says what its key would read without it. -/
def canonical {α : Type} [DecidableEq α] (d : Nat → Option α) (l : List (Nat × α)) : Bool :=
  scanon l && l.all (fun e => decide (d e.1 ≠ some e.2))

/-- `n` in a rising list of numbers, once. -/
def insertNat (n : Nat) : List Nat → List Nat
  | [] => [n]
  | k :: t => if n < k then n :: k :: t else if n = k then k :: t else k :: insertNat n t

end Sys2Proof
end

