-- ==== Sys2Proof/Machine/State.lean ====
section
/-! DEFINITION. The state of the FZ-4810 as plain data, the ways a step can stop, and the state after reset. -/
namespace Sys2Proof.Machine

/-- The whole state: registers, storage, the blocks' own state and the queue of commands. -/
structure State where
  /-- The commands that wait, first in first out. -/
  pending : List Instr := []
  /-- Registers that hold something else than their reset word, by offset in register space. -/
  regs : List (Nat × W32) := []
  /-- Bytes of the system banks that have been written since the bank last left OFF (R237, R239). -/
  mem : List Host.Cell := []
  /-- What a byte of bank `n` that nothing has written reads: an even number for zeros (a destructive march), an odd
  number 2e + 1 for contents lost `e` times, which are undefined. -/
  memFill : List (Nat × Nat) := []
  /-- Draws of free values so far (log entry 2). -/
  free : Nat := 0
  /-- Everything sent out, oldest first (the model's own record). -/
  out : List Out := []
  ctxs : List (Nat × Ctx) := []
  ops : List Op := []
  nextTag : Nat := 0
  rounds : List (Nat × Round) := []
  ledger : Ledger := {}
  hif : Hif := {}
  pwr : Pwr := {}
  doms : List (Nat × Dom) := []
  banks : List (Nat × Bank) := []
  /-- The event log's entries by index (Table 4-18). -/
  log : List (Nat × List W32) := []
  tbu : Tbu := {}
  /-- User NV array bytes that are not erased (8 MiB; an unlisted byte reads 0xFF, log entry 6). -/
  nv : List Host.Cell := []
  /-- Configuration planes' stored image bytes, plane B from 0x800000 (an unlisted byte reads 0xFF, log entry 6). -/
  planeMem : List Host.Cell := []
  fifos : List (Nat × Fifo) := []
  /-- Time that has passed in the model, in ns: one TCXO period per idle step (log entry 1). -/
  clk : Nat := 0
  fab : Fab := {}
  boot : Boot := {}
  stage : Option Stage := none
  ho : Option Ho := none
  /-- What unlisted bytes of plane `p` read as: an even number for erased, odd while an erase has not been completed. -/
  planeFill : List (Nat × Nat) := []
  dep : Dep := {}
  /-- The serial flash's bytes that are not erased (an unlisted byte reads 0xFF, log entry 6). -/
  flash : List Host.Cell := []
  /-- Flash sectors whose unlisted bytes are undefined, with the number of the cut that left them so. -/
  flashFill : List (Nat × Nat) := []
  /-- Keys of the key store, by key slot: four words (R528). -/
  keys : List (Nat × List W32) := []
  /-- PREV_EPOCH of each range of the key store (R528). -/
  prevEpoch : List (Nat × Nat) := []
  load : Load := {}
  kite : Kite := {}
  tlm : Tlm := {}
  /-- Ranges whose running ERASE was given with UNBIND, as a mask: it resumes as it was given (R538). -/
  scrUnbind : Nat := 0
  nva : Nva := {}
  /-- Sectors with the incomplete mark, rising (R214, R224). -/
  nvIncomplete : List Nat := []
  /-- Sectors whose unlisted bytes are undefined, with the number of the erase that left them so. -/
  nvFill : List (Nat × Nat) := []
  /-- The chain ports: 0 UP, 1 DOWN. -/
  ports : List (Nat × Port) := []
  enu : Enu := {}
  har : Har := {}
  vbu : Vbu := {}
  osp : Osp := {}
  tag : Tag := {}
  /-- Bytes of the tag memory that are not 0 (an unlisted byte reads 0). -/
  tagMem : List Host.Cell := []
  bst : Bst := {}
  /-- Target of a lifecycle advance that runs (R568). -/
  lcy : Option Nat := none
  tap : Tap := {}
  /-- Words that a mover has written in register space and that still take effect there, as offset and word; the bytes of a
  word under way, at its offset. -/
  regDue : List (Nat × W32) := []
  regPart : Option (Nat × List Byte) := none
  deriving DecidableEq, Repr

/-- Ways the block stops with a fault. No command of this model raises one: every error that the spec describes is a
register, a status or an answer of the block. -/
inductive Fault where
  /-- Raised by nothing; safe. -/
  | none
  deriving DecidableEq, Repr

/-- Commands without a meaning. -/
inductive Refusal where
  /-- Raised by a dispatch arm whose command has no meaning in the model yet; safe. -/
  | notModelled (mnemonic : String)
  deriving DecidableEq, Repr

/-- The unit right after power-on reset (Table 4-2, POR): every register at its reset word (R585), no supply good,
every block off, nothing stored in the banks, no command waiting. -/
def State.reset : State := {}

end Sys2Proof.Machine
end

