-- ==== Sys2Proof/Machine/WMask.lean ====
section
/-! DEFINITION. What a register write does to each bit by its field type (Table 0-4, R11): the masks of the RW, W1C
and W1S bits of every register. Bits whose write is a command of its own in the opcode table, RO, WO and RSV bits
stand in no mask. -/
namespace Sys2Proof

/-- The writable bits of one register: stored, cleared by 1, set by 1. -/
structure WMask where
  rw : Nat
  w1c : Nat
  w1s : Nat
  deriving DecidableEq, Repr

/-- One row of the mask table: the offset in the block, the strides and counts of its two indices (count 1 where the
register is not indexed), and the masks. -/
structure WRow where
  off : Nat
  s1 : Nat
  n1 : Nat
  s2 : Nat
  n2 : Nat
  m : WMask
  deriving DecidableEq, Repr

/-- The offset `o` is one of the row's registers. -/
def WRow.hit (r : WRow) (o : Nat) : Bool :=
  let d := o - r.off
  let i := d / r.s1
  let e := d % r.s1
  decide (r.off ≤ o) && decide (i < r.n1) && decide (e % r.s2 = 0) && decide (e / r.s2 < r.n2)

/-- Writable bits of block PWR. -/
def wrowsPWR : List WRow := [
  ⟨0x8, 4, 1, 4, 1, ⟨0xFF07, 0x0, 0x0⟩⟩,
  ⟨0xC, 4, 1, 4, 1, ⟨0x3F, 0x0, 0x0⟩⟩,
  ⟨0x10, 4, 1, 4, 1, ⟨0x0, 0x13F, 0x0⟩⟩,
  ⟨0x14, 4, 1, 4, 1, ⟨0xFFFFFF, 0x0, 0x0⟩⟩,
  ⟨0x18, 4, 1, 4, 1, ⟨0xFF, 0x0, 0x0⟩⟩,
  ⟨0x20, 4, 1, 4, 1, ⟨0x0, 0x3F, 0x0⟩⟩]

/-- Writable bits of block RST. -/
def wrowsRST : List WRow := [
  ⟨0x4, 4, 1, 4, 1, ⟨0x7, 0x0, 0x0⟩⟩,
  ⟨0x8, 4, 1, 4, 1, ⟨0x7FF, 0x0, 0x0⟩⟩,
  ⟨0x20, 4, 1, 4, 1, ⟨0x0, 0xFFFFFF, 0x0⟩⟩,
  ⟨0x44, 4, 1, 4, 1, ⟨0x3F, 0x0, 0x0⟩⟩]

/-- Writable bits of block CFG. -/
def wrowsCFG : List WRow := [
  ⟨0x0, 4, 1, 4, 1, ⟨0x0, 0x1C0000, 0x0⟩⟩,
  ⟨0x4, 4, 1, 4, 1, ⟨0x7, 0x0, 0x0⟩⟩]

/-- Writable bits of block DEP. -/
def wrowsDEP : List WRow := [
  ⟨0x4, 4, 1, 4, 1, ⟨0xFF07, 0x0, 0x0⟩⟩,
  ⟨0x10, 4, 1, 4, 1, ⟨0x0, 0xFF, 0x0⟩⟩]

/-- Writable bits of block NVA. -/
def wrowsNVA : List WRow := [
  ⟨0x0, 4, 1, 4, 1, ⟨0x0, 0x800, 0x0⟩⟩,
  ⟨0x4, 4, 1, 4, 1, ⟨0xFF03, 0x0, 0x0⟩⟩,
  ⟨0x10, 4, 1, 4, 1, ⟨0x7FFFFF, 0x0, 0x0⟩⟩,
  ⟨0x14, 4, 1, 4, 1, ⟨0xFFFFFFFF, 0x0, 0x0⟩⟩,
  ⟨0x20, 4, 4, 4, 1, ⟨0xFFFFFFFF, 0x0, 0x0⟩⟩,
  ⟨0x38, 4, 1, 4, 1, ⟨0x0, 0x3F, 0x0⟩⟩,
  ⟨0x48, 4, 1, 4, 1, ⟨0xFF01, 0x0, 0x0⟩⟩]

/-- Writable bits of block BNK. -/
def wrowsBNK : List WRow := [
  ⟨0x0, 256, 8, 4, 1, ⟨0x7, 0x0, 0x0⟩⟩,
  ⟨0x64, 256, 8, 4, 1, ⟨0x0, 0xF, 0x0⟩⟩]

/-- Writable bits of block HIF. -/
def wrowsHIF : List WRow := [
  ⟨0x4, 4, 1, 4, 1, ⟨0xFFFF0001, 0x0, 0x0⟩⟩,
  ⟨0x10, 4, 1, 4, 1, ⟨0x0, 0xFFFFFFFF, 0x0⟩⟩,
  ⟨0x14, 4, 1, 4, 1, ⟨0xFFFFFFFF, 0x0, 0x0⟩⟩,
  ⟨0x18, 4, 1, 4, 1, ⟨0xFFFFFFFF, 0x0, 0x0⟩⟩,
  ⟨0x1C, 4, 2, 4, 1, ⟨0x0, 0xFFFFFFFF, 0x0⟩⟩,
  ⟨0x40, 8, 4, 4, 1, ⟨0xFFFF0000, 0x0, 0x0⟩⟩,
  ⟨0x44, 8, 4, 4, 1, ⟨0x3F, 0x0, 0x0⟩⟩,
  ⟨0x74, 4, 1, 4, 1, ⟨0x0, 0x7, 0x0⟩⟩,
  ⟨0x8000, 16, 1056, 4, 4, ⟨0xFFFFFFFF, 0x0, 0x0⟩⟩]

/-- Writable bits of block CTX. -/
def wrowsCTX : List WRow := [
  ⟨0x0, 64, 1024, 4, 1, ⟨0x11F1FFE, 0x0, 0x0⟩⟩,
  ⟨0x8, 64, 1024, 4, 1, ⟨0xFFFFFFFF, 0x0, 0x0⟩⟩,
  ⟨0xC, 64, 1024, 4, 1, ⟨0xFFFFFFFF, 0x0, 0x0⟩⟩,
  ⟨0x10, 64, 1024, 4, 1, ⟨0xFFFFFFFF, 0x0, 0x0⟩⟩,
  ⟨0x14, 64, 1024, 4, 1, ⟨0xFFFFFFFF, 0x0, 0x0⟩⟩,
  ⟨0x18, 64, 1024, 4, 1, ⟨0xFFFFFFFF, 0x0, 0x0⟩⟩,
  ⟨0x1C, 64, 1024, 4, 1, ⟨0xFFFFFFFF, 0x0, 0x0⟩⟩,
  ⟨0x20, 64, 1024, 4, 1, ⟨0x1FFF, 0x0, 0x0⟩⟩,
  ⟨0x24, 64, 1024, 4, 1, ⟨0x7F7F, 0x0, 0x0⟩⟩,
  ⟨0x28, 64, 1024, 4, 1, ⟨0x1FF01FF, 0x0, 0x0⟩⟩,
  ⟨0x2C, 64, 1024, 4, 1, ⟨0xFFFF07FF, 0x0, 0x0⟩⟩,
  ⟨0x3C, 64, 1024, 4, 1, ⟨0x0, 0x7F, 0x0⟩⟩]

/-- Writable bits of block LDG. -/
def wrowsLDG : List WRow := [
  ⟨0x0, 4, 1, 4, 1, ⟨0x0, 0x4, 0x0⟩⟩]

/-- Writable bits of block CHN. -/
def wrowsCHN : List WRow := [
  ⟨0x28, 256, 2, 4, 1, ⟨0x0, 0xF, 0x0⟩⟩]

/-- Writable bits of block ENU. -/
def wrowsENU : List WRow := [
  ⟨0x4, 4, 1, 4, 1, ⟨0xFF0A, 0x0, 0x0⟩⟩,
  ⟨0x8, 4, 1, 4, 1, ⟨0xFF, 0x0, 0x0⟩⟩,
  ⟨0x10, 4, 1, 4, 1, ⟨0x0, 0x7F, 0x0⟩⟩]

/-- Writable bits of block HAR. -/
def wrowsHAR : List WRow := [
  ⟨0x4, 4, 1, 4, 1, ⟨0xFFFF00F7, 0x0, 0x0⟩⟩,
  ⟨0x10, 4, 4, 4, 1, ⟨0xE, 0x0, 0x0⟩⟩,
  ⟨0x40, 4, 4, 4, 1, ⟨0xFFFFFF, 0x0, 0x0⟩⟩,
  ⟨0x50, 4, 1, 4, 1, ⟨0x0, 0x7FFF, 0x0⟩⟩,
  ⟨0x80, 8, 7, 4, 1, ⟨0xFFFFFFFF, 0x0, 0x0⟩⟩,
  ⟨0x84, 8, 7, 4, 1, ⟨0xFFFFFFFF, 0x0, 0x0⟩⟩,
  ⟨0xC0, 8, 7, 4, 1, ⟨0xFFFFFFFF, 0x0, 0x0⟩⟩,
  ⟨0xC4, 8, 7, 4, 1, ⟨0xFFFFFFFF, 0x0, 0x0⟩⟩]

/-- Writable bits of block SFQ. -/
def wrowsSFQ : List WRow := [
  ⟨0x80C, 4, 2, 4, 1, ⟨0x0, 0xFFFFFFFF, 0x0⟩⟩,
  ⟨0x814, 4, 1, 4, 1, ⟨0x0, 0x1, 0x0⟩⟩]

/-- Writable bits of block VBU. -/
def wrowsVBU : List WRow := [
  ⟨0x0, 1024, 16, 4, 1, ⟨0x1F, 0x0, 0x0⟩⟩,
  ⟨0x8, 1024, 16, 4, 1, ⟨0x7F7FFF1F, 0x0, 0x0⟩⟩,
  ⟨0xC, 1024, 16, 4, 1, ⟨0xF0F1F1F, 0x0, 0x0⟩⟩,
  ⟨0x10, 1024, 16, 4, 1, ⟨0x7F, 0x0, 0x0⟩⟩,
  ⟨0x18, 1024, 16, 4, 1, ⟨0x1, 0x0, 0x0⟩⟩,
  ⟨0x1C, 1024, 16, 4, 1, ⟨0x0, 0x3F, 0x0⟩⟩,
  ⟨0x40, 1024, 16, 16, 8, ⟨0xBFFFFFFF, 0x0, 0x0⟩⟩,
  ⟨0x44, 1024, 16, 16, 8, ⟨0x3FFFFFFF, 0x0, 0x0⟩⟩,
  ⟨0x48, 1024, 16, 16, 8, ⟨0x3F, 0x0, 0x0⟩⟩,
  ⟨0xC0, 1024, 16, 4, 1, ⟨0xF, 0x0, 0x0⟩⟩,
  ⟨0x300, 1024, 16, 4, 1, ⟨0x1F0F1F, 0x0, 0x0⟩⟩,
  ⟨0x304, 1024, 16, 4, 1, ⟨0x3FFFFFFF, 0x0, 0x0⟩⟩,
  ⟨0x308, 1024, 16, 4, 1, ⟨0x3FFFFFFF, 0x0, 0x0⟩⟩,
  ⟨0x30C, 1024, 16, 4, 1, ⟨0xFFFFFFFF, 0x0, 0x0⟩⟩,
  ⟨0x310, 1024, 16, 4, 1, ⟨0xFFFFFFFF, 0x0, 0x0⟩⟩,
  ⟨0x314, 1024, 16, 4, 1, ⟨0x0, 0x3, 0x0⟩⟩,
  ⟨0x8000, 512, 16, 4, 1, ⟨0xF1F03, 0x0, 0x0⟩⟩,
  ⟨0x8004, 512, 16, 4, 1, ⟨0x1FFFF, 0x0, 0x0⟩⟩,
  ⟨0x800C, 512, 16, 4, 1, ⟨0xFFFFFF, 0x0, 0x0⟩⟩,
  ⟨0x8010, 512, 16, 4, 1, ⟨0x0, 0xF, 0x0⟩⟩,
  ⟨0x8018, 512, 16, 4, 1, ⟨0x1, 0x0, 0x0⟩⟩,
  ⟨0x8040, 512, 16, 16, 8, ⟨0xBFFFFFFF, 0x0, 0x0⟩⟩,
  ⟨0x8044, 512, 16, 16, 8, ⟨0x3FFFFFFF, 0x0, 0x0⟩⟩,
  ⟨0x8048, 512, 16, 16, 8, ⟨0x3F, 0x0, 0x0⟩⟩,
  ⟨0x8100, 512, 16, 4, 64, ⟨0xF7, 0x0, 0x0⟩⟩,
  ⟨0xC000, 256, 8, 4, 1, ⟨0xFF, 0x0, 0x0⟩⟩,
  ⟨0xC004, 256, 8, 4, 1, ⟨0x1FFFF, 0x0, 0x0⟩⟩,
  ⟨0xC00C, 256, 8, 4, 1, ⟨0x0, 0x7, 0x0⟩⟩,
  ⟨0xC014, 256, 8, 4, 1, ⟨0x33F, 0x0, 0x0⟩⟩]

/-- Writable bits of block OSP. -/
def wrowsOSP : List WRow := [
  ⟨0x0, 4, 1, 4, 1, ⟨0xFF013F1E, 0x0, 0x0⟩⟩,
  ⟨0x8, 4, 1, 4, 1, ⟨0x7FFFFF, 0x0, 0x0⟩⟩,
  ⟨0x10, 4, 1, 4, 1, ⟨0x7FF07FF, 0x0, 0x0⟩⟩,
  ⟨0x14, 4, 1, 4, 1, ⟨0xFFFFF, 0x0, 0x0⟩⟩,
  ⟨0x18, 4, 1, 4, 1, ⟨0xFFFFFF, 0x0, 0x0⟩⟩,
  ⟨0x20, 4, 1, 4, 1, ⟨0x0, 0xF, 0x0⟩⟩,
  ⟨0x100, 32, 16, 4, 1, ⟨0x1FFF, 0x0, 0x0⟩⟩,
  ⟨0x104, 32, 16, 4, 1, ⟨0x3FFFF, 0x0, 0x0⟩⟩,
  ⟨0x108, 32, 16, 4, 1, ⟨0x3F03FFFF, 0x0, 0x0⟩⟩,
  ⟨0x10C, 32, 16, 4, 1, ⟨0xFFFF3F3F, 0x0, 0x0⟩⟩,
  ⟨0x110, 32, 16, 4, 1, ⟨0xFFFFFFFF, 0x0, 0x0⟩⟩,
  ⟨0x114, 32, 16, 4, 1, ⟨0xFF033F, 0x0, 0x0⟩⟩,
  ⟨0x118, 32, 16, 4, 1, ⟨0xFF033F, 0x0, 0x0⟩⟩,
  ⟨0x11C, 32, 16, 4, 1, ⟨0xFFFF07FF, 0x0, 0x0⟩⟩]

/-- Writable bits of block TBU. -/
def wrowsTBU : List WRow := [
  ⟨0x1C, 4, 1, 4, 1, ⟨0xFFFFFFFF, 0x0, 0x0⟩⟩,
  ⟨0x20, 4, 1, 4, 1, ⟨0xFFFF, 0x0, 0x0⟩⟩,
  ⟨0x28, 4, 1, 4, 1, ⟨0xFFFFFFFF, 0x0, 0x0⟩⟩,
  ⟨0x2C, 4, 1, 4, 1, ⟨0x0, 0x7F, 0x0⟩⟩]

/-- Writable bits of block TAG. -/
def wrowsTAG : List WRow := [
  ⟨0x4, 4, 1, 4, 1, ⟨0xFF01, 0x0, 0x0⟩⟩,
  ⟨0x10, 4, 1, 4, 1, ⟨0x7FF, 0x0, 0x0⟩⟩,
  ⟨0x18, 4, 1, 4, 1, ⟨0x0, 0xF, 0x0⟩⟩]

/-- Writable bits of block SCR. -/
def wrowsSCR : List WRow := [
  ⟨0x4, 4, 1, 4, 1, ⟨0x1, 0x0, 0x0⟩⟩,
  ⟨0xC, 4, 1, 4, 1, ⟨0xEFFF0FFF, 0x0, 0x0⟩⟩,
  ⟨0x20, 4, 1, 4, 1, ⟨0x0, 0xF, 0x0⟩⟩]

/-- Writable bits of block KIT. -/
def wrowsKIT : List WRow := [
  ⟨0x10, 4, 1, 4, 1, ⟨0xFFFF0000, 0x0, 0x0⟩⟩,
  ⟨0x20, 4, 1, 4, 1, ⟨0x3, 0x0, 0x0⟩⟩,
  ⟨0x40, 4, 1, 4, 1, ⟨0x0, 0x3F, 0x0⟩⟩,
  ⟨0x44, 4, 1, 4, 1, ⟨0x3F, 0x0, 0x0⟩⟩,
  ⟨0x4C, 4, 1, 4, 1, ⟨0x7FF03FF, 0x0, 0x0⟩⟩,
  ⟨0x58, 4, 2, 4, 1, ⟨0xFFFFFFFF, 0x0, 0x0⟩⟩,
  ⟨0x60, 4, 1, 4, 1, ⟨0xFF1F3F3F, 0x0, 0x0⟩⟩,
  ⟨0xC0, 4, 16, 4, 1, ⟨0xFFFFFFFF, 0x0, 0x0⟩⟩,
  ⟨0x140, 4, 16, 4, 1, ⟨0xFFFFFFFF, 0x0, 0x0⟩⟩]

/-- Writable bits of block LCY. -/
def wrowsLCY : List WRow := [
  ⟨0x8, 4, 1, 4, 1, ⟨0x0, 0x7, 0x0⟩⟩]

/-- Writable bits of block BST. -/
def wrowsBST : List WRow := [
  ⟨0x4, 4, 1, 4, 1, ⟨0xFFFF, 0x0, 0x0⟩⟩,
  ⟨0x28, 4, 1, 4, 1, ⟨0x0, 0x7, 0x0⟩⟩]

/-- Writable bits of block TLM. -/
def wrowsTLM : List WRow := [
  ⟨0x0, 4, 1, 4, 1, ⟨0xFF07, 0x0, 0x0⟩⟩,
  ⟨0x4, 4, 1, 4, 1, ⟨0xFFFF, 0x10000, 0x0⟩⟩,
  ⟨0x8, 4, 1, 4, 1, ⟨0x0, 0x1FFFFF, 0x0⟩⟩,
  ⟨0xC, 4, 1, 4, 1, ⟨0x0, 0x1FFFFF, 0x0⟩⟩,
  ⟨0x10, 4, 1, 4, 1, ⟨0x1FFFFF, 0x0, 0x0⟩⟩,
  ⟨0x108, 16, 21, 4, 1, ⟨0xFFFFFFFF, 0x0, 0x0⟩⟩,
  ⟨0x300, 4, 1, 4, 1, ⟨0xFFFFFFC0, 0x0, 0x0⟩⟩,
  ⟨0x304, 4, 1, 4, 1, ⟨0xFFFFFFFF, 0x0, 0x0⟩⟩]

/-- Writable bits of block FAB. -/
def wrowsFAB : List WRow := [
  ⟨0x10, 4, 1, 4, 1, ⟨0x1FFFFF1, 0x0, 0x0⟩⟩,
  ⟨0x18, 4, 1, 4, 1, ⟨0x0, 0xFFFF, 0x0⟩⟩,
  ⟨0xC4, 4, 1, 4, 1, ⟨0x0, 0x1FFFFFF, 0x0⟩⟩]

/-- The rows of the block that an offset of register space lies in. -/
def wrowsOf (blk : Nat) : List WRow :=
  match blk with
  | 0x1 => wrowsPWR
  | 0x2 => wrowsRST
  | 0x3 => wrowsCFG
  | 0x4 => wrowsDEP
  | 0x5 => wrowsNVA
  | 0x6 => wrowsBNK
  | 0x7 => wrowsHIF
  | 0x8 => wrowsCTX
  | 0x9 => wrowsLDG
  | 0xA => wrowsCHN
  | 0xB => wrowsENU
  | 0xC => wrowsHAR
  | 0xD => wrowsSFQ
  | 0xE => wrowsVBU
  | 0xF => wrowsOSP
  | 0x10 => wrowsTBU
  | 0x11 => wrowsTAG
  | 0x12 => wrowsSCR
  | 0x13 => wrowsKIT
  | 0x14 => wrowsLCY
  | 0x15 => wrowsBST
  | 0x16 => wrowsTLM
  | 0x17 => wrowsFAB
  | _ => []

/-- The writable bits at an offset of register space; none where no register stands (R10). -/
def wmask (a : Nat) : WMask :=
  match (wrowsOf (a / 0x10000)).find? (fun r => r.hit (a % 0x10000)) with
  | some r => r.m
  | none => ⟨0, 0, 0⟩

end Sys2Proof
end

