-- ==== Sys2Proof/Machine/Ops.lean ====
section
/-! DEFINITION. The named operations over registers, fields, records of the blocks, outputs and free values. -/
namespace Sys2Proof.Machine

/-! ### Words and fields -/

/-- `w` with bits `[lo + n - 1 : lo]` replaced by `v` mod 2^n. -/
def insertBits (w : W32) (lo n v : Nat) : W32 :=
  let m : W32 := BitVec.ofNat 32 ((2 ^ n - 1) * 2 ^ lo)
  (w &&& ~~~m) ||| BitVec.ofNat 32 (v % 2 ^ n * 2 ^ lo)

/-- Bits `[lo + n - 1 : lo]` of `w`. -/
def extractBits (w : W32) (lo n : Nat) : Nat := w.toNat / 2 ^ lo % 2 ^ n

/-- Bit `i` of a natural number used as a mask. -/
def bit (m i : Nat) : Bool := m.testBit i

/-- `m` with bit `i` set. -/
def setBit (m i : Nat) : Nat := m ||| 2 ^ i

/-- `m` with bit `i` cleared. -/
def clearBit (m i : Nat) : Nat := if m.testBit i then m - 2 ^ i else m

/-- 1 or 0. -/
def b2n (b : Bool) : Nat := if b then 1 else 0

/-- A word from a natural number. -/
def w32 (n : Nat) : W32 := BitVec.ofNat 32 n

/-- A byte from a natural number. -/
def byte (n : Nat) : Byte := BitVec.ofNat 8 n

/-- The `n` bytes of `v`, least significant first (R7). -/
def leBytes : Nat → Nat → List Byte
  | 0, _ => []
  | n + 1, v => byte v :: leBytes n (v / 256)

/-- The number that bytes spell, least significant first (R7). -/
def leNat : List Byte → Nat
  | [] => 0
  | b :: t => b.toNat + 256 * leNat t

/-- The bytes of words, in order. -/
def wordsBytes (ws : List W32) : List Byte := ws.flatMap (fun w => leBytes 4 w.toNat)

/-- The words that bytes spell, four bytes each; a short last word is filled with zeros. -/
def bytesWords : Nat → List Byte → List W32
  | 0, _ => []
  | n + 1, bs => w32 (leNat (bs.take 4)) :: bytesWords n (bs.drop 4)

/-- The signed value of the low `n` bits of `v`. -/
def signed (n v : Nat) : Int :=
  let x := v % 2 ^ n
  if 2 * x < 2 ^ n then (x : Int) else (x : Int) - (2 ^ n : Nat)

/-- The `n`-bit two's complement code of an integer. -/
def unsigned (n : Nat) (x : Int) : Nat := (x % ((2 ^ n : Nat) : Int)).toNat

/-! ### Registers -/

/-- The word a register holds. -/
def rd (s : State) (a : Nat) : W32 := (sget a s.regs).getD (resetWord a)

/-- Store a word in a register. -/
def wr (s : State) (a : Nat) (v : W32) : State := { s with regs := sset (resetWord a) a v s.regs }

/-- The value of a field. -/
def getf (s : State) (f : Fld) : Nat := extractBits (rd s f.reg) f.lo f.width

/-- Store a value in a field. -/
def setf (s : State) (f : Fld) (v : Nat) : State := wr s f.reg (insertBits (rd s f.reg) f.lo f.width v)

/-- The field is not 0. -/
def isSet (s : State) (f : Fld) : Bool := decide (getf s f ≠ 0)

/-- Set an event or status bit. -/
def raise (s : State) (f : Fld) : State := setf s f 1

/-- Add to a counter that saturates at its largest value. -/
def satAdd (s : State) (f : Fld) (n : Nat) : State := setf s f (min (2 ^ f.width - 1) (getf s f + n))

/-- Add to a counter that wraps. -/
def wrapAdd (s : State) (f : Fld) (n : Nat) : State := setf s f (getf s f + n)

/-- Keep the larger of a field and a value. -/
def maxTo (s : State) (f : Fld) (n : Nat) : State := setf s f (max (getf s f) (min n (2 ^ f.width - 1)))

/-- A register write by the field types (R11, Table 0-4): RW bits are stored, W1C bits cleared by 1, W1S bits set by 1; every
other bit stays. -/
def plainWrite (s : State) (a : Nat) (v : W32) : State :=
  let m := wmask a
  let w := rd s a
  let rw := w32 m.rw
  wr s a ((((w &&& ~~~rw) ||| (v &&& rw)) &&& ~~~(v &&& w32 m.w1c)) ||| (v &&& w32 m.w1s))

/-- Return every register whose class `p` names to its reset word (R586). -/
def resetRegs (s : State) (p : RegClass → Bool) : State :=
  { s with regs := s.regs.filter (fun r => !p (regClass r.1)) }

/-! ### Quantities that span two registers (R14) -/

/-- The latches and held low words of a master. -/
def wideOf (s : State) (m : Master) : Wide := match m with | .host => s.hif.hostWide | .kite => s.hif.kiteWide

/-- Change them. -/
def setWide (s : State) (m : Master) (x : Wide) : State :=
  match m with
  | .host => { s with hif := { s.hif with hostWide := x } }
  | .kite => { s with hif := { s.hif with kiteWide := x } }

/-- Hold a low word until the high word at `hi` is written; a second one replaces it. -/
def holdLow (s : State) (m : Master) (hi : Nat) (v : W32) : State :=
  setWide s m { wideOf s m with wr := sput hi v (wideOf s m).wr }

/-- The low word held for the high word at `hi`. -/
def heldLow (s : State) (m : Master) (hi : Nat) : Option W32 := sget hi (wideOf s m).wr

/-- Forget it. -/
def dropLow (s : State) (m : Master) (hi : Nat) : State := setWide s m { wideOf s m with wr := sdel hi (wideOf s m).wr }

/-! ### Outputs and free values -/

/-- The boundary cells own the covered pins: EXTEST, CLAMP or HIGHZ is in the instruction register (R601). -/
def tapOwns (s : State) : Bool := s.tap.ir == 0 || s.tap.ir == 4 || s.tap.ir == 5

/-- Outputs at pins of the boundary register (Table 24-10): user I/O and the dedicated outputs of banks 0 to 4, not the Owl pins, the
Harrier pairs or the SerDes. -/
def covered : Out → Bool
  | .pin .pwrgrantOut _ => false
  | .pin .bypN _ => false
  | .pin _ _ => true
  | .canFrame _ _ _ _ => true
  | .linFrame _ _ _ _ => true
  | .linWake _ _ => true
  | .radio _ _ => true
  | .flash _ _ _ => true
  | .gate _ g _ => decide (4 ≤ g)
  | _ => false

/-- Send something out; it does not reach a pin that the boundary cells own (R601). -/
def emit (s : State) (o : Out) : State := { s with out := if tapOwns s && covered o then s.out else s.out ++ [o] }

/-- The image drives the user I/O, or leaves it high-impedance. -/
def userIo (s : State) (on : Bool) : State := emit { s with tap := { s.tap with io := on } } (.pin .userIo (b2n on))

/-- The next free value (log entry 2). -/
def freeVal (s : State) : W64 := Config.freeValue s.free

/-- Advance to a fresh free value. -/
def drawn (s : State) : State := { s with free := s.free + 1 }

/-! ### Records of the blocks -/

def ctx (s : State) (c : Nat) : Ctx := (sget c s.ctxs).getD {}
def setCtx (s : State) (c : Nat) (x : Ctx) : State := { s with ctxs := sset {} c x s.ctxs }
def dom (s : State) (d : Nat) : Dom := (sget d s.doms).getD {}
def setDom (s : State) (d : Nat) (x : Dom) : State := { s with doms := sset {} d x s.doms }
def bank (s : State) (n : Nat) : Bank := (sget n s.banks).getD {}
def setBank (s : State) (n : Nat) (x : Bank) : State := { s with banks := sset {} n x s.banks }
def round (s : State) (k : Nat) : Round := (sget k s.rounds).getD {}
def setRound (s : State) (k : Nat) (x : Round) : State := { s with rounds := sset {} k x s.rounds }

def fifo (s : State) (n : Nat) : Fifo := (sget n s.fifos).getD {}
def setFifo (s : State) (n : Nat) (x : Fifo) : State := { s with fifos := sset {} n x s.fifos }

/-- The operation with a tag. -/
def opOf (s : State) (tag : Nat) : Option Op := s.ops.find? (fun o => o.tag == tag)

/-- Replace an operation, by its tag. -/
def setOp (s : State) (o : Op) : State :=
  { s with ops := s.ops.map (fun p => if p.tag == o.tag then o else p) }

/-- The operations that lie with one opcode. -/
def opcodeOf (o : Op) : Nat := extractBits (o.words.headD 0#32) 0 8

/-- Word `i` of an operation's descriptor. -/
def opWord (o : Op) (i : Nat) : W32 := o.words.getD i 0#32

/-- A field of an operation's descriptor: word `i`, bits. -/
def opFld (o : Op) (i lo n : Nat) : Nat := extractBits (opWord o i) lo n

/-- The engine of Table 21-7 that an opcode runs on. -/
def engineOf (code : Nat) : Nat :=
  match code / 16 with
  | 0x0 => 0
  | 0x2 => 1
  | 0x1 => 2
  | 0x3 => 3
  | 0x5 => 4
  | 0x4 => 5
  | 0x7 => if code < 0x78 then 6 else 7
  | 0x8 => 8
  | 0x9 => 9
  | 0xA => 10
  | _ => 11

/-- The engine counts an operation that it returns (R560); NOP and FENCE have none. -/
def countOp (s : State) (code : Nat) : State :=
  if code < 2 then s
  else
    let e := engineOf code
    { s with tlm := { s.tlm with ops := sset 0 e (((sget e s.tlm.ops).getD 0 + 1) % 2 ^ 32) s.tlm.ops } }

/-- What the target returns for the operation. -/
def giveRet (s : State) (o : Op) (r : Ret) : State := setOp (countOp s (opcodeOf o)) { o with ret := some r }

/-! ### Domains -/

/-- The fence of a domain is closed (R113). -/
def fenced (s : State) (d : Nat) : Bool := bit (rd s R.RST_DOM_FENCED).toNat d

/-- The domain is in reset or not yet ready. -/
def inReset (s : State) (d : Nat) : Bool := bit (rd s R.RST_DOM_INRST).toNat d || !(dom s d).powered

/-- A request that reaches the domain is refused (R116, R587). -/
def away (s : State) (d : Nat) : Bool := fenced s d || inReset s d

/-- The personality runs and may use its ports: user mode, out of reset, and its fence open or draining (R113: what is inside goes
on in the drain window). -/
def fabLive (s : State) : Bool :=
  decide (getf s F.FAB_STAT_STATE = 2) && !inReset s 11 && ((dom s 11).fence == .open || (dom s 11).fence == .drain)

/-- Region `r` is powered. -/
def regionIsOn (s : State) (r : Nat) : Bool := bit (getf s F.FAB_STAT_RGN_ON) r

/-- Set or clear bit `d` of a domain mask register. -/
def setDomBit (s : State) (a d : Nat) (v : Bool) : State :=
  wr s a (if v then rd s a ||| w32 (2 ^ d) else rd s a &&& ~~~(w32 (2 ^ d)))

/-! ### Time stamps and the event log -/

/-- The timebase nanosecond word: HOLD at bit 31, UNSYNC at bit 30, nanoseconds below (R286, Table 4-18). Before the
timebase has started it carries UNSYNC and 0. -/
def stampNs (s : State) : W32 :=
  w32 (getf s F.TBU_STAT_HOLD * 2 ^ 31 + getf s F.TBU_STAT_UNSYNC * 2 ^ 30 + s.tbu.ns % 2 ^ 30)

/-- Seconds [31:0] of the timebase. -/
def stampS (s : State) : W32 := w32 s.tbu.sec

/-- Write an entry of the event log (Table 4-18): the ring holds 64 entries, a new one overwrites the oldest. -/
def logEvent (s : State) (domain kind source detail detail2 : Nat) : State :=
  let i := getf s F.RST_LOG_HEAD_INDEX
  let e : List W32 := [stampNs s, stampS s,
    w32 (domain % 32 + kind % 16 * 2 ^ 8 + source % 16 * 2 ^ 12 + detail % 2 ^ 16 * 2 ^ 16), w32 detail2]
  let s := { s with log := sput i e s.log }
  satAdd (setf s F.RST_LOG_HEAD_INDEX (i + 1)) F.RST_LOG_HEAD_COUNT 1

/-! ### Alarm and device events -/

/-- Any event bit of the banks' groups asserts the alarm (Table 21-9a bit 5). -/
def bankAlarm (s : State) : Bool :=
  (List.range 8).any (fun n => isSet s (F.BNK_EVT_FAULT n) && isSet s (F.BNK_CTL_FAULT_ALARM n))

/-- The sources that assert ALARM_N now, bit by bit as Table 21-9a states. -/
def alarmSources (s : State) : Nat :=
  b2n (decide (rd s R.PWR_EVT ≠ 0#32))
  + 2 * b2n (decide (rd s R.RST_DOM_RDYTO ≠ 0#32) && isSet s F.RST_CTL_ALARM_RDYTO)
  + 4 * b2n (isSet s F.LDG_STAT_FAULT && isSet s F.LDG_CTL_ALARM_EN)
  + 8 * b2n (isSet s F.CFG_STAT_LOCK_TO && isSet s F.CFG_CTL_LOCKTO_ALARM
      || isSet s F.CFG_STAT_ROLLBACK && isSet s F.CFG_CTL_HO_ALARM)
  + 16 * b2n ((isSet s F.DEP_EVT_SLOT_LOST || isSet s F.DEP_EVT_DIR_COPY_BAD) && isSet s F.DEP_CTL_LOST_ALARM)
  + 32 * b2n (bankAlarm s)
  + 64 * b2n (isSet s F.ENU_STAT_MISPLACED && isSet s F.ENU_CTL_MISPL_ALARM)
  + 128 * b2n (isSet s F.SCR_EVT_SECURITY && isSet s F.SCR_CTL_SEC_ALARM)
  + 256 * b2n (decide ((rd s R.TLM_EVT_HI ||| rd s R.TLM_EVT_LO) &&& rd s R.TLM_ALARM_EN ≠ 0#32)
      || isSet s F.TLM_THERM_THERM_TRIP)
  + 512 * b2n (isSet s F.DEV_ALARM_TEST_FORCE)

/-- The unit is a member of a chain (Table 13-1). -/
def isMember (s : State) : Bool := decide (getf s F.ENU_STAT_ROLE = 3)

/-- The unit is the head of its chain. -/
def isHead (s : State) : Bool := decide (getf s F.ENU_STAT_ROLE = 2)

/-- The unit's own address. -/
def ownAddr (s : State) : Nat := getf s F.ENU_STAT_ADDR

/-- Host requests can be made (R253, R276): the link is in L0 with Bus Master Enable and not in D3hot. -/
def hostUp (s : State) : Bool :=
  isSet s F.HIF_STAT_LINK_UP && isSet s F.HIF_STAT_BME && !isSet s F.HIF_STAT_D3HOT

/-- Chain port `p` (0 UP, 1 DOWN) is in UP (Table 12-4). -/
def portUp (s : State) (p : Nat) : Bool := decide (getf s (F.CHN_PSTAT_STATE p) = 5)

/-! ### The chain link's sending side (12_melnus_chain_link.md) -/

def port (s : State) (p : Nat) : Port := (sget p s.ports).getD {}
def setPort (s : State) (p : Nat) (x : Port) : State := { s with ports := sset {} p x s.ports }

/-- A count by virtual lane. -/
def vlGet (l : List (Nat × Nat)) (v : Nat) : Nat := (sget v l).getD 0
def vlAdd (l : List (Nat × Nat)) (v n : Nat) : List (Nat × Nat) := sset 0 v (vlGet l v + n) l
def vlSub (l : List (Nat × Nat)) (v n : Nat) : List (Nat × Nat) := sset 0 v (vlGet l v - n) l

/-- The virtual lane of a message type (Tables 7-7 and 13-3, R496). -/
def msgVl (ty : Nat) : Nat :=
  if ty = 0x13 ∨ ty = 0x19 ∨ ty = 0x1C then 2
  else if 0x10 ≤ ty ∧ ty < 0x20 then 1
  else if 0x42 ≤ ty ∧ ty ≤ 0x45 then 3
  else 0

/-- LEN of a message: its words, or 16 and its data. -/
def msgLen (m : Msg) : Nat := if m.data = [] then 4 * m.w.length else 16 + m.data.length

/-- Cells of a message (R328). -/
def msgCells (m : Msg) : Nat := if msgLen m = 0 then 1 else 1 + (msgLen m + 4 + 15) / 16

/-- Bytes that the replay buffer holds (R335): 16 for each cell. -/
def replayBytes (x : Port) : Nat := 16 * (x.replay.map (fun r => msgCells r.m)).foldl (· + ·) 0

/-- CHN_REPLAY shows the buffer in whole KiB, rounded up, and its messages. -/
def showReplay (s : State) (p : Nat) : State :=
  let x := port s p
  setf (setf s (F.CHN_REPLAY_KB_USED p) ((replayBytes x + 1023) / 1024)) (F.CHN_REPLAY_MSGS p) x.replay.length

/-- Credits for a message's cells are held (R331). -/
def credited (s : State) (p : Nat) (m : Msg) : Bool := decide (msgCells m ≤ getf s (F.LDG_CHN_AVAIL (4 * p + msgVl m.ty)))

/-- A TIME_BEACON of this head carries the time of its sending, replays included (R496). -/
def restamp (s : State) (m : Msg) : Msg :=
  if m.ty = 0x50 ∧ isHead s = true ∧ m.src = ownAddr s then
    { m with w := [m.w.getD 0 0#32, w32 s.tbu.ns, w32 s.tbu.sec, w32 (s.tbu.sec / 2 ^ 32 % 2 ^ 16), 0#32] }
  else m

/-- Send a message's cells: debited, counted and mixed (R329, R331). -/
def sendCells (s : State) (p : Nat) (r : Rep) : State :=
  let v := msgVl r.m.ty
  let n := msgCells r.m
  let s := setf s (F.LDG_CHN_AVAIL (4 * p + v)) (getf s (F.LDG_CHN_AVAIL (4 * p + v)) - n)
  let x := port s p
  emit (setPort s p { x with sent := vlAdd x.sent v n, mixTx := x.mixTx + n }) (.chain p r.seq r.stomp (restamp s r.m))

/-- Free `n` cells of a lane of the receive buffer (R331). -/
def freeCells (s : State) (p v n : Nat) : State :=
  let x := port s p
  setPort s p { x with freed := vlAdd x.freed v n, unret := vlAdd x.unret v n, held := vlSub x.held v n }

/-- A control block of a port (Table 12-2): VALUE and AUX. -/
def ctl (s : State) (p ty value aux : Nat) : State := emit s (.ctlBlock p ty (value % 4096 + aux * 4096))

/-- CSYNC for every lane of a port (R332). -/
def sendCsync (s : State) (p : Nat) : State :=
  (List.range 4).foldl (fun t v => ctl t p 0x04 (vlGet (port t p).sent v) v) s

/-- The waiting message of lane `v` whose turn it is: messages passed through and messages made here alternate (R331). -/
def nextOfLane (x : Port) (v : Nat) : Option Wait :=
  let l := x.waits.filter (fun w => msgVl w.m.ty == v)
  match l.find? (fun w => w.src.isSome != bit x.lastFwd v) with
  | some w => some w
  | none => l.head?

/-- The message sent next: VL0, then VL2, then VL1 and VL3 in turn, each only with credits for all its cells (R331). -/
def nextMsg (s : State) (p : Nat) : Option Wait :=
  let x := port s p
  ([0, 2] ++ (if x.last3 then [1, 3] else [3, 1])).findSome? (fun v =>
    (nextOfLane x v).bind (fun w => if credited s p w.m then some w else none))

/-- Send a waiting message for the first time: it takes the next LSEQ and stays in the replay buffer (R334, R335); the cells
of a message passed through are free on the port it came in on. -/
def sendNew (s : State) (p : Nat) (w : Wait) : State :=
  let x := port s p
  let v := msgVl w.m.ty
  let r : Rep := ⟨x.txSeq, 0, w.stomp, w.m⟩
  let s := setPort s p { x with waits := x.waits.erase w, txSeq := (x.txSeq + 1) % 4096, replay := x.replay ++ [r],
                                last3 := if v = 3 then true else if v = 1 then false else x.last3,
                                lastFwd := if w.src.isSome then setBit x.lastFwd v else clearBit x.lastFwd v }
  let s := wrapAdd (sendCells s p r) (F.CHN_VL_TX_MSGS p v) 1
  match w.src with
  | some q => freeCells s q v (msgCells w.m)
  | none => s

/-- Send what can be sent: replays first, then new messages while the replay buffer has room (R331, R335). -/
def pumpPort (s : State) (p : Nat) : Nat → State
  | 0 => s
  | fuel + 1 =>
    if !portUp s p then s
    else
      let x := port s p
      match x.again with
      | q :: t =>
        (match x.replay.find? (fun r => r.seq == q) with
        | none => pumpPort (setPort s p { x with again := t }) p fuel
        | some r =>
          if credited s p r.m then
            let s := sendCells (setPort s p { x with again := t }) p r
            pumpPort (if t = [] then sendCsync s p else s) p fuel
          else s)
      | [] =>
        match nextMsg s p with
        | none => s
        | some w =>
          if x.replay.length < 64 ∧ replayBytes x + 16 * msgCells w.m ≤ 65536 then pumpPort (sendNew s p w) p fuel else s

/-- Everything that can go out of a port goes out. -/
def flushPort (s : State) (p : Nat) : State :=
  let x := port s p
  showReplay (pumpPort s p (x.again.length + x.waits.length + 1)) p

/-- Send a chain message out of a port that is UP, at once or when credits and the replay buffer allow it; `src` is the port
that a message passed through came in on. -/
def queueMsg (s : State) (p : Nat) (src : Option Nat) (stomp : Bool) (m : Msg) : State :=
  if portUp s p then
    let x := port s p
    flushPort (setPort s p { x with waits := x.waits ++ [⟨src, stomp, m⟩] }) p
  else s

/-- Send a message made here. -/
def sendMsg (s : State) (p : Nat) (m : Msg) : State := queueMsg s p none false m

/-- A message has been accepted in order on a port (R334): counted, its cells held until they are passed on or taken. -/
def acceptMsg (s : State) (p : Nat) (m : Msg) : State :=
  let x := port s p
  let v := msgVl m.ty
  let n := msgCells m
  let s := setPort s p { x with rxSeq := (x.rxSeq + 1) % 4096, unacked := x.unacked + 1, mixRx := x.mixRx + n, held := vlAdd x.held v n }
  wrapAdd s (F.CHN_VL_RX_MSGS p v) 1

/-- A message that this unit takes: accepted, and its cells are free (R331). -/
def takeMsg (s : State) (p : Nat) (m : Msg) : State := freeCells (acceptMsg s p m) p (msgVl m.ty) (msgCells m)

/-- A message that this unit does not take goes out of the other port, or is discarded and counted in NOROUTE (R346). -/
def passOn (s : State) (p : Nat) (m : Msg) : State :=
  let s := acceptMsg s p m
  if portUp s (1 - p) then queueMsg s (1 - p) (some p) false m
  else freeCells (satAdd s F.ENU_CNT_NOROUTE 1) p (msgVl m.ty) (msgCells m)

/-- A FLOOD message is taken, and `out` goes on out of the other port if that is UP (R346). -/
def takeFlood (s : State) (p : Nat) (m out : Msg) : State :=
  let s := acceptMsg s p m
  if portUp s (1 - p) then queueMsg s (1 - p) (some p) false out else freeCells s p (msgVl m.ty) (msgCells m)

/-- End the sleep round (R361): SLEEP_ABORT is flooded with its cause and the unit it names. -/
def sleepAbort (s : State) (cause unit : Nat) : State :=
  if getf s F.ENU_SLEEP_STAT_PHASE ≠ 1 then s
  else
    let s := sendMsg s 1 ⟨0x23, ownAddr s, toAll, [w32 (cause * 2 ^ 8 + unit * 2 ^ 16), w32 s.enu.round], []⟩
    let s := { s with enu := { s.enu with voted := false, voting := false, votes := 0 } }
    let s := setf (setf s F.ENU_SLEEP_STAT_PHASE 0) F.ENU_SLEEP_STAT_LAST 2
    raise (setf (setf s F.ENU_SLEEP_STAT_CAUSE cause) F.ENU_SLEEP_STAT_UNIT unit) F.ENU_EVT_SLEEP_ABORTED

/-- Work or a wake reaches a unit that has voted READY (R361): it sends NAK_WAKE at once; the head ends the round. -/
def nakWake (s : State) : State :=
  if !s.enu.voted || s.enu.committed then s
  else if isHead s then sleepAbort s 1 0
  else
    let s := setf { s with enu := { s.enu with voted := false } } F.ENU_SLEEP_STAT_PHASE 0
    sendMsg s 0 ⟨0x24, ownAddr s, 0, [w32 (s.enu.round * 2 ^ 16), rd s R.PWR_WAKE_SRC], []⟩

/-- Send the MSI-X message of a vector, or set its PBA bit while it is masked (R273). -/
def sendVec (s : State) (v : Nat) : State :=
  if extractBits (rd s (R.HIF_MSIX v 3)) 0 1 = 1 then
    wr s (R.HIF_PBA (v / 32)) (rd s (R.HIF_PBA (v / 32)) ||| w32 (2 ^ (v % 32)))
  else
    emit s (.msix v (rd s (R.HIF_MSIX v 1) ++ rd s (R.HIF_MSIX v 0)) (rd s (R.HIF_MSIX v 2)))

/-- Set a pending bit of KIT_IRQ_PEND. -/
def kitIrq (s : State) (i : Nat) : State := wr s R.KIT_IRQ_PEND (rd s R.KIT_IRQ_PEND ||| w32 (2 ^ i))

/-- A device event of this unit that a vector can carry now: a member sends it to the head (R358), another unit sends
vector 1,024 + k while MSI-X delivers it (R274). -/
def sendDev (s : State) (k : Nat) : State :=
  if isMember s then
    sendMsg { s with hif := { s.hif with devSent := setBit s.hif.devSent k } } 0
      ⟨0x0A, ownAddr s, 0, [0#32, w32 (2 ^ k)], []⟩
  else if hostUp s && isSet s F.HIF_STAT_MSIX_EN then
    sendVec { s with hif := { s.hif with devSent := setBit s.hif.devSent k } } (1024 + k)
  else s

/-- A device event (R274): it sets its bit in HIF_DEV_PEND, and is sent once per setting of the bit while its enable
is 1. Kite sees DEVEVT. -/
def devEvent (s : State) (k : Nat) : State :=
  if bit (rd s R.HIF_DEV_PEND).toNat k then s
  else
    let s := kitIrq (wr s R.HIF_DEV_PEND (rd s R.HIF_DEV_PEND ||| w32 (2 ^ k))) 3
    let s := { s with hif := { s.hif with devSent := clearBit s.hif.devSent k } }
    if bit (rd s R.HIF_DEV_EN).toNat k then sendDev s k else s

/-- Follow a change of an alarm source (R562): DEV_ALARM shows the sources; an assertion of ALARM_N counts and raises
device event 0. -/
def alarmUpdate (s : State) : State :=
  let old := rd s R.DEV_ALARM
  let new := w32 (alarmSources s)
  let s := wr s R.DEV_ALARM new
  if old = 0#32 && new ≠ 0#32 then devEvent (kitIrq (satAdd s F.DEV_ALARM_CNT_COUNT 1) 4) 0 else s

/-- Set an event bit that is an alarm source. -/
def raiseAlarm (s : State) (f : Fld) : State := alarmUpdate (raise s f)

/-- The level of ALARM_N: low while any source asserts it, once G2 is powered (R562). -/
def alarmN (s : State) : Bool := !(bit s.pwr.groups 2 && decide (rd s R.DEV_ALARM ≠ 0#32))

/-- The level of INT_N: low while a bit set in HIF_DEV_PEND and HIF_INTN_EN remains (R274), once G3 is powered. -/
def intN (s : State) : Bool :=
  !(bit s.pwr.groups 3 && decide (rd s R.HIF_DEV_PEND &&& rd s R.HIF_INTN_EN ≠ 0#32))

/-- Set an event bit that raises device event 9 at each new setting (R275). -/
def raise9 (s : State) (f : Fld) : State := if isSet s f then s else devEvent (raise s f) 9

/-- The next state, as the outcome of a command. -/
abbrev done (s : State) : Host.Outcome State Fault Refusal := .next s

/-- The state that a command leads to; where it stops, the state before it. -/
def nextOf (s : State) (r : Host.Outcome State Fault Refusal) : State :=
  match r with
  | .next t => t
  | _ => s

end Sys2Proof.Machine
end

