-- ==== Sys2Proof/Machine/Operands.lean ====
section
/-! DEFINITION. The 64-byte descriptor: its header and bodies (R280, R281, R283), the masks of its reserved fields, its
engine select and length ranges, its address fields and the domain of its target (R632). -/
namespace Sys2Proof.Machine

/-- Word `i` of a descriptor. -/
def dw (ws : List W32) (i : Nat) : W32 := ws.getD i 0#32

/-- A field of a descriptor. -/
def df (ws : List W32) (i lo n : Nat) : Nat := extractBits (dw ws i) lo n

def dOpcode (ws : List W32) : Nat := df ws 0 0 8
def dFenceBefore (ws : List W32) : Bool := decide (df ws 0 8 1 = 1)
def dOrdered (ws : List W32) : Bool := decide (df ws 0 9 1 = 1)
def dIntOnDone (ws : List W32) : Bool := decide (df ws 0 10 1 = 1)
def dSilent (ws : List W32) : Bool := decide (df ws 0 11 1 = 1)
def dRemote (ws : List W32) : Bool := decide (df ws 0 12 1 = 1)
def dUnit (ws : List W32) : Nat := df ws 0 16 6
def dEngsel (ws : List W32) : Nat := df ws 0 24 8
def dCookie (ws : List W32) : W32 := dw ws 1
def dLength (ws : List W32) : Nat := (dw ws 2).toNat
def dFenceTo (ws : List W32) : Nat := df ws 3 0 16
/-- A 64-bit field from two words. -/
def d64 (ws : List W32) (i : Nat) : Nat := (dw ws i).toNat + 2 ^ 32 * (dw ws (i + 1)).toNat

/-- One row of Table 11-2 and Table 11-3: the bits of body words 4 to 15 that the opcode names. -/
structure OpRow where
  code : Nat
  /-- Mask bit of CTX_ENG (Table 10-9); none for NOP and FENCE. -/
  eng : Option Nat
  /-- Domain tested at check 8 (Table 11-4a). -/
  dom : Option Nat
  /-- Named bits of words 4 to 15. -/
  named : List Nat
  deriving DecidableEq, Repr

def full : Nat := 0xFFFFFFFF

/-- The opcodes (Table 11-2), with the body bits of Table 11-3. -/
def opRows : List OpRow := [
  ⟨0x00, none, none, []⟩,
  ⟨0x01, none, none, []⟩,
  ⟨0x02, some 0, some 4, [full, full, full, full, 3]⟩,
  ⟨0x03, some 0, some 4, [0, 0, full, full, 2, 0, 0, 0, full, full, full, full]⟩,
  ⟨0x10, some 1, some 7, [0x7FFFFFFF, 0x00FF033F, full, full, full, full, full, full, full, full, full, full]⟩,
  ⟨0x11, some 1, some 7, [0x3FFFFFFF, 0x3FFFFFFF, full, full, 0x13F, 0xFFFF, full]⟩,
  ⟨0x12, some 1, some 7, [0xFF, full, full, full, full, full, full, full, full, full, full, full]⟩,
  ⟨0x20, some 2, some 6, [0x0FFF0FFF, 0xFFFF00FF, full, full, 0xFFFF, 0x13F]⟩,
  ⟨0x21, some 2, some 6, [full, full, full, 1, 0xFFF]⟩] ++ [
  ⟨0x30, some 3, some 8, [full, full, 0xFF01, full]⟩,
  ⟨0x31, some 3, some 8, [full, full, 0xFF01, 0xFFFF, full]⟩,
  ⟨0x40, some 4, some 11, [full, full, full, full, full, full, full, full, full, full, full, full]⟩,
  ⟨0x50, some 5, some 9, [full, full, 0x7FFFFF, 1]⟩,
  ⟨0x51, some 5, some 9, [0, 0, 0x7FFFFF, 2]⟩,
  ⟨0x52, some 5, some 9, [full, full, 0x7FFFFF, 1]⟩,
  ⟨0x60, some 6, some 10, [3, full, full, 0xFFFF]⟩,
  ⟨0x70, some 7, some 21, [full, full, 0x31]⟩,
  ⟨0x71, some 7, some 21, [0xFF03, 0xFFFF]⟩] ++ [
  ⟨0x78, some 8, some 21, [full, full, 0x713, full]⟩,
  ⟨0x79, some 8, some 21, [full, full, 0x713, full]⟩,
  ⟨0x80, some 9, some 22, [full, full, 3, 0x7FF]⟩,
  ⟨0x81, some 9, some 22, [full, full, 3, 0x7FF]⟩,
  ⟨0x90, some 10, none, [0x1F]⟩,
  ⟨0x91, some 10, none, [0x30F]⟩,
  ⟨0xA0, some 11, some 23, [0x1F, full]⟩]

/-- The row of an opcode. -/
def opRow (code : Nat) : Option OpRow := opRows.find? (fun r => r.code == code)

/-- VBU_TX carries its data in the descriptor. -/
def dInline (ws : List W32) : Bool := decide (df ws 5 8 1 = 1)

/-- A 64-bit address field: its first word and whether it names D-space. The fields whose SPACE bit is 1 must have bits
[63:32] at 0 (R282). -/
def addrFields (ws : List W32) : List (Nat × Bool) :=
  match dOpcode ws with
  | 0x02 => [(4, df ws 8 0 1 = 1), (6, df ws 8 1 1 = 1)]
  | 0x03 => [(6, df ws 8 1 1 = 1)]
  | 0x10 => if dInline ws then [] else [(6, df ws 5 9 1 = 1)]
  | 0x11 => [(6, df ws 8 8 1 = 1)]
  | 0x21 => [(4, df ws 7 0 1 = 1)]
  | 0x30 => [(4, df ws 6 0 1 = 1)]
  | 0x31 => [(4, df ws 6 0 1 = 1)]
  | 0x50 => [(4, df ws 7 0 1 = 1)]
  | 0x52 => [(4, df ws 7 0 1 = 1)]
  | 0x70 => [(4, df ws 6 4 2 = 1)]
  | 0x78 => if df ws 6 0 2 < 2 then [(4, df ws 6 4 1 = 1)] else []
  | 0x79 => [(4, df ws 6 4 1 = 1)]
  | 0x80 => [(4, df ws 6 0 1 = 1)]
  | 0x81 => [(4, df ws 6 0 1 = 1)]
  | _ => []

/-- Check 2 of Table 11-4: every reserved field is 0, UNIT is 0 without REMOTE, and every D-space address has bits
[63:32] at 0. -/
def reservedOk (ws : List W32) (r : OpRow) : Bool :=
  decide (dw ws 0 &&& 0x00C0E000#32 = 0#32) && decide (dw ws 3 &&& 0xFFFF0000#32 = 0#32)
  && (dRemote ws || decide (dUnit ws = 0))
  && (List.range 12).all (fun i => decide (dw ws (4 + i) &&& ~~~(w32 (r.named.getD i 0)) = 0#32))
  && (addrFields ws).all (fun f => !f.2 || decide (dw ws (f.1 + 1) = 0#32))

/-- The lengths that a CAN DLC codes (R281, Table 11-2). -/
def canLen (dlc : Nat) : Nat :=
  match dlc with
  | 9 => 12
  | 10 => 16
  | 11 => 20
  | 12 => 24
  | 13 => 32
  | 14 => 48
  | 15 => 64
  | n => n

/-- A length that some DLC codes. -/
def canLenOk (n : Nat) : Bool := (List.range 16).any (fun d => canLen d == n)

/-- Vehicle bus kind and channel of ENGSEL: 0 CAN, 1 LIN, 2 SENT. -/
def vbuKind (ws : List W32) : Nat := df ws 0 30 2
def vbuChan (ws : List W32) : Nat := df ws 0 24 4

/-- ENGSEL of the vehicle bus operations: bits [5:4] are 0, SENT has channels 0-7. -/
def vbuEngOk (ws : List W32) (sent : Bool) : Bool :=
  decide (df ws 0 28 2 = 0)
  && (decide (vbuKind ws < 2) || (sent && decide (vbuKind ws = 2) && decide (vbuChan ws < 8)))

/-- Check 5 of Table 11-4: ENGSEL and LENGTH within Table 11-2. -/
def engLenOk (ws : List W32) : Bool :=
  let e := dEngsel ws
  let n := dLength ws
  match dOpcode ws with
  | 0x02 | 0x03 => (decide (e < 8) || decide (e = 0xFF)) && decide (1 ≤ n ∧ n ≤ 16777216)
  | 0x10 =>
    vbuEngOk ws false
    && (if vbuKind ws = 0 then canLenOk n else decide (1 ≤ n ∧ n ≤ 8))
  | 0x11 => vbuEngOk ws true && decide (64 ≤ n ∧ n ≤ 16777216 ∧ n % 64 = 0)
  | 0x12 => vbuEngOk ws true && decide (n = 0)
  | 0x21 => decide (e = 0) && decide (2 ≤ n ∧ n ≤ 8192 ∧ n % 2 = 0)
  | 0x30 => decide (e = 0) && decide (1 ≤ n ∧ n ≤ 255)
  | 0x31 => decide (e = 0) && decide (64 ≤ n ∧ n ≤ 1048576 ∧ n % 64 = 0)
  | 0x40 => decide (e < 32) && decide (n = 0)
  | 0x50 => decide (e = 0) && decide (16 ≤ n ∧ n ≤ 65536 ∧ n % 16 = 0)
  | 0x51 => decide (e = 0) && decide (1 ≤ n ∧ n ≤ 128)
  | 0x52 => decide (e = 0) && decide (1 ≤ n ∧ n ≤ 65536)
  | 0x70 => decide (e = 0) && decide (4672 ≤ n ∧ n ≤ 7336512)
  | 0x78 =>
    decide (e = 0) && (if df ws 6 0 2 < 2 then decide (1 ≤ n ∧ n ≤ 134217728) else decide (n = 0))
  | 0x79 =>
    decide (e = 0) && (if df ws 6 0 2 = 2 then decide (1 ≤ n ∧ n ≤ 8708) else decide (1 ≤ n ∧ n ≤ 134217728))
  | 0x80 | 0x81 => decide (e = 0) && decide (4 ≤ n ∧ n ≤ 8192 ∧ n % 4 = 0)
  | _ => decide (e = 0) && decide (n = 0)

/-- Buffer credits borrowed from dispatch to return (Table 11-2). -/
def credits (ws : List W32) : Nat :=
  match dOpcode ws with
  | 0x02 => if df ws 8 0 2 = 0 then 16 else 0
  | 0x50 => if df ws 7 0 1 = 0 then 1 else 0
  | 0x70 => if df ws 6 4 2 = 0 then 16 else 0
  | 0x78 => if df ws 6 0 2 < 2 ∧ df ws 6 4 1 = 0 then 16 else 0
  | _ => 0

/-- The D-space ranges that check 7 tests: start and length (R282, the fields marked (W)). -/
def windowFields (ws : List W32) : List (Nat × Int) :=
  let n : Int := (dLength ws : Int)
  match dOpcode ws with
  | 0x20 => [((dw ws 6).toNat, 2 * ((df ws 4 16 12 : Int) - (df ws 4 0 12 : Int) + 1)),
             ((dw ws 7).toNat, 32 * (df ws 8 0 16 : Int))]
  | 0x21 => ((dw ws 6).toNat, n) :: ((addrFields ws).filter (·.2)).map (fun f => (d64 ws f.1, n))
  | 0x90 | 0x91 => if df ws 4 0 4 < 8 then [(df ws 4 0 4 * 0x100000, 0x100000)] else []
  | _ => ((addrFields ws).filter (·.2)).map (fun f => (d64 ws f.1, n))

/-- The bank address that a D-space address names, through an alias or not (R272, Table 1-9). -/
def bankAddr (a : Nat) : Option Nat :=
  if a < 0x800000 then some a
  else if 0x2000000 ≤ a ∧ a < 0x2800000 then some (a - 0x2000000)
  else if 0x4000000 ≤ a ∧ a < 0x4800000 then some (a - 0x4000000)
  else none

/-- A range lies in a bank window of granules `first` to `last`; a length of 0 or less is tested at its start
alone (R282). A range that names no bank memory is not tested. -/
def inWindow (first last : Nat) (r : Nat × Int) : Bool :=
  match bankAddr r.1 with
  | none => true
  | some a =>
    let e := a + (r.2.toNat - 1)
    decide (first ≤ a / 0x10000) && decide (e / 0x10000 ≤ last)

end Sys2Proof.Machine
end

