-- ==== Sys2Proof/Machine/Mem.lean ====
section
/-! DEFINITION. D-space (R37): who answers at an address, reads and writes of bytes, and the answers to a hole (R38), to
a bank that is not ON (R238) and to a fenced domain (R116). -/
namespace Sys2Proof.Machine

/-- Why an access is not served. -/
inductive Err where
  /-- A hole, or a write to a read-only window (R38). -/
  | hole
  /-- Bank `n` is not ON (R238). -/
  | offline (n : Nat)
  /-- The domain is fenced or in reset (R116). -/
  | fenced
  /-- The verify window of a plane being programmed (R40). -/
  | staging
  /-- A member's tunnel is gone (R353). -/
  | tunnel
  deriving DecidableEq, Repr

/-- The completion status a hardened master or DMA mover ends with (R38, R238, Table 4-4, R211). -/
def errStatus : Err → Nat
  | .hole => 0x20
  | .offline _ => 0x20
  | .fenced => 0x1B
  | .staging => 0x20
  | .tunnel => 0x50

/-- What unlisted bytes of a bank read as: even for zeros, odd for undefined contents. -/
def memFillOf (s : State) (n : Nat) : Nat := (sget n s.memFill).getD 1

/-- The byte a bank holds; a byte that nothing has written since the bank left OFF is undefined (R239, log entry 3), and
0 after a destructive march (R242). -/
def memByte (s : State) (a : Nat) : Byte :=
  match sget a s.mem with
  | some b => b
  | none =>
    let f := memFillOf s (a / 0x100000)
    if f % 2 = 0 then 0#8 else Config.undefByte 0 (f / 2) a

/-- Store a byte in a bank. -/
def memPut (s : State) (a : Nat) (b : Byte) : State :=
  { s with mem := if memFillOf s (a / 0x100000) % 2 = 0 ∧ b = 0#8 then sdel a s.mem else sput a b s.mem }

/-- The byte of the NV array; an unlisted byte is erased, or undefined in a sector whose erase was not completed. -/
def nvByte (s : State) (o : Nat) : Byte :=
  match sget o s.nv with
  | some b => b
  | none => (match sget (o / 4096) s.nvFill with
    | some e => Config.undefByte 4 e o
    | none => 0xFF#8)

/-- Store a byte of the NV array. -/
def nvPut (s : State) (o : Nat) (b : Byte) : State :=
  { s with nv := if (sget (o / 4096) s.nvFill).isNone ∧ b = 0xFF#8 then sdel o s.nv else sput o b s.nv }

/-- Store bytes from array offset `o` up. -/
def nvPutBytes (s : State) (o : Nat) : List Byte → State
  | [] => s
  | b :: t => nvPutBytes (nvPut s o b) (o + 1) t

/-- First sector and number of sectors that an array operation covers. -/
def nvSpan (x : NvOp) : Nat × Nat := if x.code = 4 then (x.addr / 4096, 16) else (x.addr / 4096, 1)

/-- The operation erases sector `k`. -/
def erases (x : NvOp) (k : Nat) : Bool :=
  (x.code == 3 || x.code == 4) && decide ((nvSpan x).1 ≤ k) && decide (k < (nvSpan x).1 + (nvSpan x).2)

/-- Sector `k` is being erased, running or suspended (Table 8-2). -/
def nvErasing (s : State) (k : Nat) : Bool :=
  (match s.nva.run with | some x => erases x k | none => false) || (match s.nva.below with | some x => erases x k | none => false)

/-- What unlisted bytes of a plane read as: even for erased, odd for undefined. -/
def planeFillOf (s : State) (p : Nat) : Nat := (sget p s.planeFill).getD 0

/-- The byte of a configuration plane: an erased or never programmed byte reads 0xFF (R144); after an erase that was cut
off it is undefined. -/
def planeByte (s : State) (o : Nat) : Byte :=
  match sget o s.planeMem with
  | some b => b
  | none =>
    let f := planeFillOf s (o / 0x800000)
    if f % 2 = 0 then 0xFF#8 else Config.undefByte 3 f o

/-- Store a byte of a plane. -/
def planePut (s : State) (o : Nat) (b : Byte) : State := 
  { s with planeMem := if planeFillOf s (o / 0x800000) % 2 = 0 ∧ b = 0xFF#8 then sdel o s.planeMem else sput o b s.planeMem }

/-- The contents of plane `p` go, and its unlisted bytes read as `f` says. -/
def planeClear (s : State) (p f : Nat) : State :=
  { s with planeMem := s.planeMem.filter (fun c => !(c.1 / 0x800000 == p)), planeFill := sput p f s.planeFill }

/-- Store bytes in a plane from offset `o` up. -/
def planeBytes (s : State) (o : Nat) : List Byte → State
  | [] => s
  | b :: t => planeBytes (planePut s o b) (o + 1) t

/-- Sectors of the execute-only table (NVA_XO0-3, layout of Table 5-4): entry `e` is VALID [31], its first sector in
[10:0] and its last in [26:16]. -/
def xoCovers (s : State) (sector : Nat) : Bool :=
  (List.range 4).any (fun e =>
    let w := rd s (R.NVA_XO e)
    decide (extractBits w 31 1 = 1) && decide (extractBits w 0 11 ≤ sector) && decide (sector ≤ extractBits w 16 11))

/-- The byte a data read of the array returns (Table 8-2): zeros in an execute-only region, 0xFF in a sector under erase. -/
def nvRead (s : State) (o : Nat) : Byte :=
  if xoCovers s (o / 4096) then 0#8 else if nvErasing s (o / 4096) then 0xFF#8 else nvByte s o

/-- Bank `n` refuses an access: it is not ON (R238), or its domain's fence is closed (R116). -/
def bankErr (s : State) (n : Nat) : Option Err :=
  if (bank s n).st ≠ 1 then some (.offline n)
  else if away s (12 + n) then some .fenced
  else none

/-- Who refuses an access at an address, if anyone does (R37, R38, R40, R116, R238). -/
def accessErr (s : State) (a : Nat) (write : Bool) : Option Err :=
  match bankAddr a with
  | some b => bankErr s (b / 0x100000)
  | none =>
    if 0x10000000 ≤ a ∧ a < 0x10800000 then
      if write then some .hole
      else if away s 9 then some .fenced
      else none
    else if (0x20000000 ≤ a ∧ a < 0x20700000) ∨ (0x20800000 ≤ a ∧ a < 0x20F00000) then
      if write then some .hole
      else if getf s F.CFG_STAT_OP = 1 ∧ getf s F.CFG_STAT_OP_PLANE = (a - 0x20000000) / 0x800000 then some .staging
      else if away s 21 then some .fenced
      else none
    else if 0x40000000 ≤ a ∧ a < 0x40400000 then none
    else some .hole

/-- What an unserved access leaves: a hole is counted and raises device event 7, an OFF bank sets its
OFFLINE_ACCESS. -/
def noteErr (s : State) : Err → State
  | .hole => devEvent (satAdd s F.HIF_HOLE_CNT_COUNT 1) 7
  | .offline n => raise s (F.BNK_EVT_OFFLINE_ACCESS n)
  | _ => s

/-- The block of a register offset whose domain is fenced, in reset or unpowered answers reads with its reset values and
ignores writes; the RST block and the FAB block stay accessible (R43, R587). -/
def regAway (s : State) (a : Nat) : Bool :=
  if a / 0x10000 = 0x02 ∨ a / 0x10000 = 0x17 then false
  else match regClass a with
    | .dom d => away s d
    | .owl =>
      (match a / 0x10000 with
        | 0x0B => away s 1
        | 0x0E => away s 7
        | 0x13 => away s 20
        | _ => false)
    | .held =>
      (match a / 0x10000 with
        | 0x03 => away s 21
        | 0x05 => away s 9
        | 0x06 => away s (12 + a % 0x10000 / 0x100)
        | 0x11 => away s 22
        | 0x12 => away s 21
        | _ => false)
    | .loaded => decide (a / 0x10000 = 0x05) && away s 9
    | _ => false

/-- Operations in flight of a context (CTX_STAT.INFLIGHT). -/
def inflight (s : State) (c : Nat) : Nat := (s.ops.filter (fun o => o.ctx == c && o.origin == none)).length

/-- Lendable bank granules: those of LDG_BUF_LEND from 80 upward (R299). -/
def lendableGranules (s : State) : Nat :=
  getf s F.LDG_BUF_LEND_LAST + 1 - max 80 (getf s F.LDG_BUF_LEND_FIRST)

/-- Lendable credits: the staging store's 4,096 and 256 for each lendable 64 KiB granule (R299). -/
def lendable (s : State) : Nat := 4096 + 256 * lendableGranules s

/-- Credits lent now. -/
def lent (s : State) : Nat := s.ledger.lentStaging + s.ledger.lentBank

/-- The register words that report the present state of a block rather than stored bits: staged and in-flight counts,
the ledger's free counts, the timebase, the event log entry selected, and the banks' power. -/
def liveWord (s : State) (a : Nat) : W32 :=
  let o := a % 0x10000
  let w := rd s a
  match a / 0x10000 with
  | 0x01 => if o = 0x24 then w32 (0xFF1F - s.pwr.railsOff &&& 0xFF1F) else w
  | 0x02 =>
    if 0x48 ≤ o ∧ o < 0x58 then
      ((sget (getf s F.RST_LOG_SEL_INDEX) s.log).getD []).getD ((o - 0x48) / 4) 0#32
    else w
  | 0x03 =>
    if o = 0 then
      insertBits w 12 4 ((s.ops.filter (fun p => (opcodeOf p == 0x70 || opcodeOf p == 0x71) && !p.fwd && p.ret == none)).length)
    else w
  | 0x04 => if o = 0 then insertBits w 12 4 s.dep.jobs.length else w
  | 0x05 =>
    if 0x200 ≤ o ∧ o < 0x300 then rd s (a - 0x100)
    else if o = 0 then
      insertBits w 16 4 ((s.ops.filter (fun p => opcodeOf p / 16 == 5 && !p.fwd && p.ret == none)).length)
    else if o = 0x10 then w &&& 0x7FFFFF#32
    else if o = 0x30 then (match s.nva.began with | some b => w32 (min 0xFFFFFF ((s.clk - b) / 1000000)) | none => w)
    else w
  | 0x08 =>
    if o % 64 = 4 then
      insertBits (insertBits w 12 4 (ctx s (o / 64)).staged.length) 16 9 (inflight s (o / 64))
    else w
  | 0x09 =>
    if o = 8 then insertBits w 0 13 s.ledger.tokFree
    else if o = 0xC then insertBits (insertBits w 0 15 (lendable s - lent s)) 16 15 (lent s)
    else w
  | 0x0C =>
    if o = 0 then
      insertBits w 4 4 ((s.ops.filter (fun p => (opcodeOf p == 0x20 || opcodeOf p == 0x21) && !p.fwd && p.ret == none)).length)
    else w
  | 0x0B => if o = 0x34 then w32 (if decide (getf s F.ENU_STAT_ROLE = 3) then min 256 s.hif.reads.length else 0) else w
  | 0x10 =>
    if o = 8 then stampNs s
    else if o = 0xC then stampS s
    else if o = 0x10 then w32 (s.tbu.sec / 2 ^ 32 % 2 ^ 16)
    else w
  | 0x0E =>
    if o < 0x4000 ∧ o % 0x400 / 4 = 0x31 then ((sget (getf s (F.CAN_ELOG_SEL_INDEX (o / 0x400))) (((sget (o / 0x400) s.vbu.can).getD {}).elog)).getD (0#32, 0#32)).1
    else if o < 0x4000 ∧ o % 0x400 / 4 = 0x32 then ((sget (getf s (F.CAN_ELOG_SEL_INDEX (o / 0x400))) (((sget (o / 0x400) s.vbu.can).getD {}).elog)).getD (0#32, 0#32)).2
    else w
  | 0x13 =>
    if o = 0x18 then
      (if isSet s F.KIT_WDT_CTL_EN then
        w32 (max 1 (getf s F.KIT_WDT_CTL_PERIOD) - (s.clk - s.kite.wdtFrom) / 1000000) else 0#32)
    else if o = 0x50 then w32 (s.kite.time / 25)
    else if o = 0x54 then w32 (s.kite.time / 25 / 2 ^ 32)
    else w
  | 0x11 =>
    if o = 0 then
      w32 (b2n (s.tag.field != 0) + 2 * b2n (s.tag.field == 2) + 4 * b2n s.tag.phase.isSome
        + 8 * b2n (isSet s F.TAG_CTL_OVERRIDE && (getf s F.LCY_STATE_STATE == 1 || getf s F.LCY_STATE_STATE == 2))
        + 16 * b2n s.tag.lk.isSome
        + 256 * (s.ops.filter (fun p => (opcodeOf p == 0x80 || opcodeOf p == 0x81) && !p.fwd && p.ret == none)).length)
    else w
  | 0x12 => if 0x10 ≤ o ∧ o < 0x20 then 0#32 else w
  | 0x17 => if o = 0 ∧ extractBits w 0 3 = 2 ∧ fenced s 11 then insertBits w 0 3 3 else w
  | _ => w

/-- The window of a socket answers: the fabric is configured, in service and not fenced, and the region is powered (R41, R47). -/
def winServed (s : State) (k : Nat) : Bool :=
  decide (getf s F.FAB_STAT_STATE = 2) && !away s 11 && regionIsOn s (k / 2)

/-- The word a read of register space returns (R10, R41, R43); what a personality answers a mover in the user fabric window is free. -/
def readWord (s : State) (a : Nat) : W32 :=
  if 0x200000 ≤ a then
    if winServed s ((a - 0x200000) / 0x10000) then w32 (leNat ((List.range 4).map (fun i => Config.undefByte 5 s.free (a + i)))) else 0#32
  else if regAway s a then resetWord a
  else liveWord s a

/-- The byte a served read of D-space returns. -/
def byteAt (s : State) (a : Nat) : Byte :=
  match bankAddr a with
  | some b => memByte s b
  | none =>
    if a < 0x10800000 then nvRead s (a - 0x10000000)
    else if a < 0x20F00000 then planeByte s (a - 0x20000000)
    else byte ((readWord s ((a - 0x40000000) / 4 * 4)).toNat / 2 ^ (8 * (a % 4)))

/-- Read `n` bytes from address `a` up: the bytes served before the first refusal, and the refusal. -/
def readBytes (s : State) : Nat → Nat → List Byte × Option Err
  | 0, _ => ([], none)
  | n + 1, a =>
    match accessErr s a false with
    | some e => ([], some e)
    | none => let r := readBytes s n (a + 1); (byteAt s a :: r.1, r.2)

/-- Lines of 16 bytes that a read of `n` bytes from array offset `o` touches. -/
def nvLines (o n : Nat) : List Nat := if n = 0 then [] else (List.range ((o + n - 1) / 16 + 1 - o / 16)).map (fun k => o / 16 + k)

/-- The execute-only lines of a read. -/
def xoLines (s : State) (o n : Nat) : List Nat := (nvLines o n).filter (fun l => xoCovers s (l / 256))

/-- What a data read of the array by master `m` leaves (R204, R211): XO and its count and record, RD_ERASING. -/
def noteNvRead (s : State) (m o n : Nat) : State :=
  let x := xoLines s o n
  let s := match x.getLast? with
    | none => s
    | some l => setf (setf (satAdd (raise s F.NVA_EVT_XO) F.NVA_EVT_CNT_XO_COUNT x.length) F.NVA_XO_LAST_OFFSET (16 * l)) F.NVA_XO_LAST_MASTER m
  if (nvLines o n).any (fun l => !xoCovers s (l / 256) && nvErasing s (l / 256)) then raise s F.NVA_EVT_RD_ERASING else s

/-- The same for a mover's D-space read, where it lies in the NV window; a read of the user fabric window draws the personality's answer,
or is counted while the fabric is away (R41). -/
def noteRead (s : State) (m a n : Nat) : State :=
  if 0x10000000 ≤ a ∧ a < 0x10800000 ∧ away s 9 = false then noteNvRead s m (a - 0x10000000) n
  else if 0x40200000 ≤ a ∧ a < 0x40400000 then
    if winServed s ((a - 0x40200000) / 0x10000) then drawn s else satAdd s F.FAB_WIN_CNT_COUNT ((a + n + 3) / 4 - a / 4)
  else s

/-- A byte that a mover writes in register space: four bytes of one aligned word make a register write, which is then due; a part of
a word is discarded (R9). -/
def regByte (s : State) (a : Nat) (b : Byte) : State :=
  let w := a / 4 * 4
  let bs := if a % 4 = 0 then [b] else match s.regPart with
    | some (p, l) => if p = w ∧ p + l.length = a then l ++ [b] else []
    | none => []
  if bs.length = 4 then { s with regPart := none, regDue := s.regDue ++ [(w, w32 (leNat bs))] }
  else { s with regPart := if bs = [] then none else some (w, bs) }

/-- Store one byte at an address that serves it: plain, through the bit-set or bit-clear alias (R240), or in register space. -/
def storeByte (s : State) (a : Nat) (b : Byte) : State :=
  match bankAddr a with
  | some m =>
    if a < 0x800000 then memPut s m b
    else if a < 0x2800000 then memPut s m (memByte s m ||| b)
    else memPut s m (memByte s m &&& ~~~b)
  | none => regByte s (a - 0x40000000) b

/-- Write bytes from address `a` up: the state, the number written, and the refusal that stopped it. -/
def writeBytes (s : State) : Nat → List Byte → State × Nat × Option Err
  | _, [] => (s, 0, none)
  | a, b :: t =>
    match accessErr s a true with
    | some e => (s, 0, some e)
    | none => let r := writeBytes (storeByte s a b) (a + 1) t; (r.1, r.2.1 + 1, r.2.2)

/-- Store bytes in a bank without an arbiter check (the bank's own march, a Kite ring that has been checked). -/
def putBytes (s : State) : Nat → List Byte → State
  | _, [] => s
  | a, b :: t => putBytes (memPut s a b) (a + 1) t

/-- Bank `n` loses its contents: they are undefined from now on (R237, R239). -/
def loseBank (s : State) (n : Nat) : State :=
  { s with mem := s.mem.filter (fun c => !(c.1 / 0x100000 == n)), memFill := sput n (2 * (memFillOf s n / 2 + 1) + 1) s.memFill }

/-- Bank `n` reads all zeros (R242). -/
def zeroBank (s : State) (n : Nat) : State :=
  { s with mem := s.mem.filter (fun c => !(c.1 / 0x100000 == n)), memFill := sput n (memFillOf s n / 2 * 2) s.memFill }

/-- The bytes from `a` up, `n` of them, of a bank become undefined. -/
def loseBytes (s : State) (a : Nat) : Nat → State
  | 0 => s
  | n + 1 => loseBytes (memPut s a (Config.undefByte 2 s.free a)) (a + 1) n

/-! ### The canonical form of the stores -/

/-- What an unlisted byte of the banks reads as, where the spec says it. -/
def memDefault (s : State) (a : Nat) : Option Byte := if memFillOf s (a / 0x100000) % 2 = 0 then some 0#8 else none

/-- What an unlisted byte of the NV array reads as, where the spec says it. -/
def nvDefault (s : State) (o : Nat) : Option Byte := if (sget (o / 4096) s.nvFill).isNone then some 0xFF#8 else none

/-- What an unlisted byte of the planes reads as, where the spec says it. -/
def planeDefault (s : State) (o : Nat) : Option Byte := if planeFillOf s (o / 0x800000) % 2 = 0 then some 0xFF#8 else none

/-- What an unlisted byte of the flash reads as, where the spec says it. -/
def flashDefault (s : State) (a : Nat) : Option Byte := if (sget (a / 0x10000) s.flashFill).isNone then some 0xFF#8 else none

/-- Registers, banks, NV array, planes, flash and tag memory are in canonical form: keys rise strictly and no entry equals what its
key would read unlisted, so that equal contents are equal data. -/
def Memory.wf (s : State) : Bool :=
  canonical (fun a => some (resetWord a)) s.regs && canonical (memDefault s) s.mem && canonical (nvDefault s) s.nv &&
  canonical (planeDefault s) s.planeMem && canonical (flashDefault s) s.flash && canonical (fun _ => some 0#8) s.tagMem

end Sys2Proof.Machine
end

