-- ==== Sys2Proof/Machine/Gate.lean ====
section
/-! DEFINITION. The dispatch gate, the completion writer and the credit ledger as shared operations: tokens (R270), buffer
credits (R299, R300), completion records (R285 to R289), interrupts (R274), the gate's checks (R284) and the books (R298,
R302, R303, R305). -/
namespace Sys2Proof.Machine

/-! ### Contexts -/

/-- Context states (Table 10-6). -/
abbrev stDisabled : Nat := 0
abbrev stActive : Nat := 1
abbrev stDraining : Nat := 2
abbrev stError : Nat := 3
abbrev stFrozen : Nat := 4

/-- The context is Kite's (R262). -/
def kiteOwned (s : State) (c : Nat) : Bool := isSet s (F.CTX_CTL_OWNER c)

/-- Ring sizes. -/
def sqSize (s : State) (c : Nat) : Nat := 2 ^ getf s (F.CTX_CTL_SQ_LOG2 c)
def cqSize (s : State) (c : Nat) : Nat := 2 ^ getf s (F.CTX_CTL_CQ_LOG2 c)

/-- A 64-bit address from a LO and a HI register. -/
def pairAddr (s : State) (lo hi : Nat) : Nat := (rd s lo).toNat + 2 ^ 32 * (rd s hi).toNat

def sqBase (s : State) (c : Nat) : Nat := pairAddr s (R.CTX_SQ_LO c) (R.CTX_SQ_HI c)
def cqBase (s : State) (c : Nat) : Nat := pairAddr s (R.CTX_CQ_LO c) (R.CTX_CQ_HI c)
def wbAddr (s : State) (c : Nat) : Nat := pairAddr s (R.CTX_WB_LO c) (R.CTX_WB_HI c)

/-- Host memory can be reached: through the own link, or for a member through the tunnel while the head has a host
link (R276, R355). -/
def hostReach (s : State) : Bool :=
  if s.enu.tunneled then isMember s && isSet s F.ENU_STAT_HOST_LINK else hostUp s

/-- The policy for host memory out of reach: this unit's LINK_POLICY, or the one the head carried to it (R276, R353). -/
def linkPolicy (s : State) : Nat := if s.enu.tunneled then s.enu.policy else getf s F.HIF_CTL_LINK_POLICY

/-- Why host memory is not reached: the tunnel of a member ends with CHAIN_LINK_DOWN (R353). -/
def hostErr (s : State) : Err := if s.enu.tunneled then .tunnel else .staging

/-- The status of an operation that could not read host memory. -/
def hostFail (s : State) : Nat := if s.enu.tunneled && !hostReach s then 0x50 else 0x20

/-- Host memory is out of reach under LINK_POLICY HOLD: fetch and dispatch of the host's contexts stop (R276). -/
def heldBack (s : State) (c : Nat) : Bool :=
  !kiteOwned s c && !hostReach s && decide (linkPolicy s = 1)

/-- A write to host memory for a context: posted, or through the tunnel from a member (R354). -/
def hostPut (s : State) (c addr : Nat) (bs : List Byte) : State :=
  if isMember s then
    sendMsg s 0 ⟨0x11, ownAddr s, 0, [w32 (c * 2 ^ 16), w32 bs.length, w32 addr, w32 (addr / 2 ^ 32)], bs⟩
  else emit s (.hostWrite addr bs)

/-- A write to a context's ring memory: the banks for a Kite context (R262), host memory otherwise. -/
def ringPut (s : State) (c addr : Nat) (bs : List Byte) : State :=
  if kiteOwned s c then putBytes s addr bs else hostPut s c addr bs

/-! ### Tokens and credits -/

/-- A token is available to a context (R270): from its filled reserve, or from the shared pool while its reserve is in
full use. -/
def tokenFor (s : State) (c : Nat) : Bool :=
  let x := ctx s c
  let r := x.held - x.poolHeld
  decide (r < x.filled) || (decide (x.booked ≤ r) && decide (0 < s.ledger.tokFree))

/-- The next token of a context comes from the shared pool. -/
def tokenFromPool (s : State) (c : Nat) : Bool :=
  let x := ctx s c
  !decide (x.held - x.poolHeld < x.filled)

/-- Debit a token. -/
def takeToken (s : State) (c : Nat) : State :=
  let x := ctx s c
  if tokenFromPool s c then
    setCtx { s with ledger := { s.ledger with tokFree := s.ledger.tokFree - 1 } } c
      { x with held := x.held + 1, poolHeld := x.poolHeld + 1 }
  else setCtx s c { x with held := x.held + 1 }

/-- One shared token comes back: it fills booked reserves, lowest context number first, before it is free (R270). -/
def freeToken (s : State) : State :=
  match s.ctxs.find? (fun p => decide (p.2.filled < p.2.booked)) with
  | some p => setCtx s p.1 { p.2 with filled := p.2.filled + 1 }
  | none => { s with ledger := { s.ledger with tokFree := s.ledger.tokFree + 1 } }

/-- `n` shared tokens come back. -/
def freeTokens (s : State) : Nat → State
  | 0 => s
  | n + 1 => freeTokens (freeToken s) n

/-- Credit the token of an operation. -/
def creditToken (s : State) (c : Nat) (pool : Bool) : State :=
  let x := ctx s c
  if pool then freeToken (setCtx s c { x with held := x.held - 1, poolHeld := x.poolHeld - 1 })
  else setCtx s c { x with held := x.held - 1 }

/-- The staging store's part of a loan of `n` credits: it is used first (R300). -/
def stagingPart (s : State) (n : Nat) : Nat := min n (4096 - s.ledger.lentStaging)

/-- Lend `n` credits. -/
def lend (s : State) (n : Nat) : State :=
  let k := stagingPart s n
  { s with ledger := { s.ledger with lentStaging := s.ledger.lentStaging + k, lentBank := s.ledger.lentBank + (n - k) } }

/-- Take back an operation's credits. -/
def unlend (s : State) (o : Op) : State :=
  { s with ledger := { s.ledger with lentStaging := s.ledger.lentStaging - o.stagingCr,
                                     lentBank := s.ledger.lentBank - o.bankCr } }

/-! ### Records and interrupts -/

/-- The contexts whose interrupt shares vector `v` and has reached its count (R274). -/
def dueOn (s : State) (v : Nat) (p : Nat × Ctx) : Bool :=
  decide (getf s (F.CTX_INT_VEC p.1) = v) && !kiteOwned s p.1
  && decide (0 < p.2.intPend) && decide (max 1 (getf s (F.CTX_INT_MOD_CNT p.1)) ≤ p.2.intPend)

/-- Clear the pending state of every context that `p` names. -/
def clearPend (s : State) (p : Nat × Ctx → Bool) : State :=
  { s with ctxs := s.ctxs.map (fun e => if p e then (e.1, { e.2 with intPend := 0 }) else e) }

/-- Send the message of context `c`'s vector and clear what it reports (R274, R354). -/
def sendCtxInt (s : State) (c : Nat) : State :=
  let v := getf s (F.CTX_INT_VEC c)
  let clr := clearPend s (fun e => e.1 == c || dueOn s v e)
  if isMember s then sendMsg clr 0 ⟨0x12, ownAddr s, 0, [w32 (v * 2 ^ 16)], []⟩
  else if hostUp s && isSet s F.HIF_STAT_MSIX_EN then sendVec clr v
  else s

/-- A record written with INT_ON_DONE makes the context's interrupt pending (R274); a Kite context's goes to Kite
(R262). -/
def recordInt (s : State) (c : Nat) : State :=
  if kiteOwned s c then kitIrq s 0
  else
    let x := ctx s c
    let s := setCtx s c { x with intPend := x.intPend + 1 }
    if max 1 (getf s (F.CTX_INT_MOD_CNT c)) ≤ x.intPend + 1 then sendCtxInt s c else s

/-- The index write-back (R267): SQ_CI in bytes 0-1, CQ_PI in bytes 4-5. -/
def writeBack (s : State) (c : Nat) : State :=
  if isSet s (F.CTX_CTL_WB_EN c) then
    ringPut s c (wbAddr s c)
      (leBytes 4 (getf s (F.CTX_SQ_IDX_SQ_CI c)) ++ leBytes 4 (getf s (F.CTX_CQ_IDX_CQ_PI c)))
  else s

/-- The eight words of a completion record but for PHASE (Table 11-5). -/
def recWords (s : State) (c sq : Nat) (ws : List W32) (status detail : Nat) (r0 r1 : W32) : List W32 :=
  [dCookie ws,
   w32 (status % 256 + dOpcode ws * 2 ^ 8 + ownAddr s * 2 ^ 16 + b2n (dRemote ws) * 2 ^ 22),
   w32 (c % 1024 + sq % 2 ^ 16 * 2 ^ 16), w32 (detail % 256), stampNs s, stampS s, r0, r1]

/-- PHASE of the record with count `n` in a ring of `size` (R287). -/
def phaseBit (n size : Nat) : Nat := if n / size % 2 = 0 then 1 else 0

/-- Write a record to its ring: PHASE, one write of 32 bytes, CQ_PI advances, write-back, interrupt (R287, R288). -/
def putRec (s : State) (c : Nat) (r : Rec) : State :=
  let x := ctx s c
  let n := cqSize s c
  let ws := r.words.set 1 (r.words.getD 1 0#32 ||| w32 (phaseBit x.nrec n * 2 ^ 31))
  let pi := getf s (F.CTX_CQ_IDX_CQ_PI c)
  let s := ringPut s c (cqBase s c + 32 * pi) (wordsBytes ws)
  let s := setCtx (setf s (F.CTX_CQ_IDX_CQ_PI c) ((pi + 1) % n)) c { ctx s c with nrec := x.nrec + 1 }
  let s := writeBack s c
  if r.int then recordInt s c else s

/-- Records of the context are discarded: it drains after a link loss, or it drains while host memory is out of reach
under DISCARD (R276; the second case is log entry 9). -/
def discards (s : State) (c : Nat) : Bool :=
  isSet s (F.CTX_STAT_DISCARDING c)
  || (!kiteOwned s c && !hostReach s && decide (linkPolicy s = 0))

/-- Write, hold or discard a record (R276, R288). -/
def writeRec (s : State) (c : Nat) (r : Rec) : State :=
  if discards s c then raise (satAdd s F.HIF_DISCARD_COUNT 1) (F.CTX_EVT_DISCARDED c)
  else if heldBack s c || (ctx s c).heldRecs ≠ [] then
    setCtx s c { ctx s c with heldRecs := (ctx s c).heldRecs ++ [r] }
  else putRec s c r

/-- A DRAINING context with nothing staged, in flight, outstanding or unwritten becomes DISABLED and releases its
reserve (R259). -/
def drainCheck (s : State) (c : Nat) : State :=
  let x := ctx s c
  if getf s (F.CTX_STAT_STATE c) = stDraining ∧ x.staged = [] ∧ x.fetch = none ∧ x.heldRecs = [] ∧ inflight s c = 0 then
    let s := setf (setf (setf s (F.CTX_STAT_STATE c) stDisabled) (F.CTX_CTL_EN c) 0) (F.CTX_STAT_DISCARDING c) 0
    let s := setf s F.LDG_TOK_RESV (getf s F.LDG_TOK_RESV - x.booked)
    freeTokens (setCtx s c { x with booked := 0, filled := 0 }) x.filled
  else s

/-- The outcome of a descriptor: counted in CTX_DONE, and its record written unless SILENT suppresses it (R289). -/
def outcome (s : State) (c sq : Nat) (ws : List W32) (status detail : Nat) (r0 r1 : W32) : State :=
  let r : Rec := ⟨recWords s c sq ws status detail r0 r1, dIntOnDone ws⟩
  let s := wrapAdd s (F.CTX_DONE_COUNT c) 1
  let s := if dSilent ws && decide (status < 2) then s else writeRec s c r
  drainCheck s c

/-- The port out of which a message for unit `u` leaves: every member lies on the head's DOWN side, the
units that this member has seen assigned after itself lie on its own, all others on its UP side (R346, log entry 18). -/
def portTo (s : State) (u : Nat) : Nat :=
  if isHead s || bit s.enu.down u then 1 else 0

/-- The reply to a unit that forwarded an operation (R356): RMT_DONE with the record. -/
def remoteDone (s : State) (unit rtag : Nat) (o : Op) (status detail : Nat) (r0 r1 : W32) : State :=
  sendMsg s (portTo s unit) ⟨0x19, ownAddr s, unit, [w32 (rtag * 2 ^ 16), 0#32, 0#32, 0#32],
    wordsBytes (recWords s o.ctx o.sq o.words status detail r0 r1)⟩

/-- The gate accepts a return (R23, R28): the operation leaves its target, token and credits are credited, and the record
is written to the ring or sent to the origin. -/
def complete (s : State) (o : Op) (r : Ret) : State :=
  let s := unlend { s with ops := s.ops.filter (fun p => p.tag != o.tag) } o
  match o.origin with
  | some (u, t) => remoteDone (freeToken s) u t o r.status 0 r.r0 r.r1
  | none => outcome (creditToken s o.ctx o.pool) o.ctx o.sq o.words r.status 0 r.r0 r.r1

/-- Accept every return in a list of tags (R291: in the order given). -/
def completeAll (s : State) (r : Ret) : List Op → State
  | [] => s
  | o :: t => completeAll (complete s o r) r t

/-! ### The gate's checks and dispatch -/

/-- A unit of the chain is assigned and reachable (R297, R352). -/
def unitReach (s : State) (u : Nat) : Bool := (isHead s || isMember s) && bit (rd s (R.ENU_REACH (u / 32))).toNat (u % 32)

/-- The descriptor is forwarded to another unit (R297). -/
def forwards (s : State) (ws : List W32) : Bool := dRemote ws && decide (dUnit ws ≠ ownAddr s)

/-- The first check of Table 11-4 that fails: status and DETAIL. -/
def gateCheck (s : State) (mask first last : Nat) (ws : List W32) : Option (Nat × Nat) :=
  match opRow (dOpcode ws) with
  | none => some (0x10, 0x01)
  | some r =>
    if !reservedOk ws r then some (0x10, 0x02)
    else if !((match r.eng with | none => true | some b => bit mask b) && (!dRemote ws || bit mask 12)) then
      some (0x13, 0x03)
    else if forwards s ws && !unitReach s (dUnit ws) then some (0x51, 0x08)
    else if !engLenOk ws then some (0x11, 0x05)
    else if lendable s < credits ws then some (0x12, 0x09)
    else if !(windowFields ws).all (inWindow first last) then some (0x13, 0x04)
    else if !forwards s ws && (match r.dom with | none => false | some d => away s d) then some (0x1B, 0x07)
    else none

/-- The gate refuses a descriptor: the target sees nothing (R284). OFFLINE and PERM count (Table 10-11). -/
def refuse (s : State) (c sq : Nat) (ws : List W32) (status detail : Nat) : State :=
  let s := if status = 0x1B then satAdd s F.HIF_GATE_REFUSE_OFFLINE 1
    else if status = 0x13 then satAdd s F.HIF_GATE_REFUSE_PERM 1 else s
  outcome s c sq ws status detail 0#32 0#32

/-- Operations that a service holds, and the most it holds before the next waits at the gate: bank service 8 (R249), BIST
8 (R574), NV array 8 (Table 8-11), configuration service 8 (R159), depot 8 (R187), tag 8 (R516), Harrier 8 (R393), a fabric socket 16 calls (R78), a CAN
controller 32 in buffers and 32 waiting (R426), a LIN commander 8 (R441), Osprey 8 and 8 (R470, R472). -/
def serviceFull (s : State) (ws : List W32) : Bool :=
  let code := dOpcode ws
  let n (p : Nat → Bool) := (s.ops.filter (fun o => p (opcodeOf o) && !o.fwd)).length
  if code = 0x10 then
    let l := (s.ops.filter (fun o => opcodeOf o == 0x10 && !o.fwd && o.ret == none && dEngsel o.words == dEngsel ws)).length
    if vbuKind ws = 0 then decide (64 ≤ l) else !isSet s (F.LIN_CTL_ROLE (vbuChan ws)) && decide (8 ≤ l)
  else if code = 0x40 then
    decide (16 ≤ (s.ops.filter (fun o => opcodeOf o == 0x40 && !o.fwd && o.ret == none && dEngsel o.words == dEngsel ws)).length)
  else if code = 0x30 ∨ code = 0x31 then decide (8 ≤ n (fun k => k == code))
  else if code = 0x90 ∨ code = 0x91 then decide (8 ≤ n (fun k => k == 0x90 || k == 0x91))
  else if code = 0xA0 then decide (8 ≤ n (fun k => k == 0xA0))
  else if code = 0x50 ∨ code = 0x51 ∨ code = 0x52 then decide (8 ≤ n (fun k => k == 0x50 || k == 0x51 || k == 0x52))
  else if code = 0x70 ∨ code = 0x71 then decide (8 ≤ n (fun k => k == 0x70 || k == 0x71))
  else if code = 0x20 ∨ code = 0x21 then decide (8 ≤ n (fun k => k == 0x20 || k == 0x21))
  else if code = 0x78 ∨ code = 0x79 then decide (8 ≤ n (fun k => k == 0x78 || k == 0x79))
  else if code = 0x80 ∨ code = 0x81 then decide (8 ≤ n (fun k => k == 0x80 || k == 0x81))
  else false

/-- The first staged descriptor of a context is held by FENCE, FENCE_BEFORE or ORDERED (R292 to R295). -/
def fenceHeld (s : State) (c : Nat) (ws : List W32) : Bool :=
  let mine := s.ops.filter (fun o => o.ctx == c && o.origin == none)
  ((decide (dOpcode ws = 0x01) || dFenceBefore ws) && decide (mine ≠ []))
  || (dOrdered ws && mine.any (fun o => dOrdered o.words))

/-- The operation reads or writes host memory. -/
def needsHost (ws : List W32) : Bool :=
  if dOpcode ws = 0x70 then decide (df ws 6 4 2 = 0) else (addrFields ws).any (fun f => !f.2)

/-- Credits are free for the descriptor, or its need can never be met (R300). -/
def creditsFree (s : State) (ws : List W32) : Bool :=
  decide (credits ws ≤ lendable s - lent s) || decide (lendable s < credits ws)

/-- Ready but for its token and credits (R268). -/
def nearlyReady (s : State) (c : Nat) : Bool :=
  let st := getf s (F.CTX_STAT_STATE c)
  (st == stActive || st == stDraining || st == stError)
  && decide (inflight s c < getf s (F.CTX_LIM_LIMIT c))
  && !heldBack s c
  && (match (ctx s c).staged with
      | [] => false
      | d :: _ => !fenceHeld s c d.words && !serviceFull s d.words)

/-- The context is ready (R268). -/
def ready (s : State) (c : Nat) : Bool :=
  nearlyReady s c && tokenFor s c
  && (match (ctx s c).staged with | [] => false | d :: _ => creditsFree s d.words)

/-- The ready contexts of a class, in ascending number. -/
def readyIn (s : State) (k : Nat) : List Nat :=
  (s.ctxs.map (·.1)).filter (fun c => decide (getf s (F.CTX_CTL_CLASS c) = k) && ready s c)

/-- The context of class `k` that dispatches (R269): the current one while it stays ready and has not used its WEIGHT,
else the next ready one in ascending number, wrapping. -/
def pick (s : State) (k : Nat) : Option Nat :=
  let l := readyIn s k
  let r := round s k
  if l.contains r.cur && decide (0 < r.run) && decide (r.run < max 1 (getf s (F.CTX_CTL_WEIGHT r.cur))) then some r.cur
  else match l.find? (fun c => decide (r.cur < c)) with
    | some c => some c
    | none => l.head?

/-- The class served in a turn: the lowest with a ready context. -/
def classServed (s : State) : Option Nat := (List.range 4).find? (fun k => decide (readyIn s k ≠ []))

/-- Count a turn in which a ready context waited for a token or for credits (LDG_WAIT). -/
def countWaits (s : State) : State :=
  let cs := (s.ctxs.map (·.1)).filter (fun c => nearlyReady s c)
  let s1 := if cs.any (fun c => !tokenFor s c) then satAdd s F.LDG_WAIT_TOKEN 1 else s
  if cs.any (fun c => match (ctx s c).staged with | [] => false | d :: _ => !creditsFree s d.words) then
    satAdd s1 F.LDG_WAIT_BUFFER 1 else s1

/-- Count the classes that had a ready context while class `k` was served (R269). -/
def countClassWaits (s : State) (k : Nat) : State :=
  (List.range 4).foldl (fun t j => if j ≠ k && decide (readyIn s j ≠ []) then satAdd t (F.HIF_CLASS_WAIT_TURNS j) 1 else t) s

/-- Advance the round of class `k` past a dispatch of context `c`. -/
def advanceRound (s : State) (k c : Nat) : State :=
  let r := round s k
  setRound s k (if r.cur = c ∧ 0 < r.run ∧ r.run < max 1 (getf s (F.CTX_CTL_WEIGHT c)) then { r with run := r.run + 1 }
    else { cur := c, run := 1 })

/-- Issue a checked descriptor to its target: token and credits are debited and the operation is in flight; one for
another unit leaves as RMT_OP with the context's bank window (R356). -/
def issue (s : State) (c : Nat) (d : Staged) : State :=
  let fwd := forwards s d.words
  let need := if fwd then 0 else credits d.words
  let k := stagingPart s need
  let o : Op := { tag := s.nextTag, ctx := c, sq := d.sq, words := d.words, pool := tokenFromPool s c,
                  stagingCr := k, bankCr := need - k, fwd := fwd,
                  dom := if fwd then none else (opRow (dOpcode d.words)).bind (·.dom),
                  waited := d.waits.getD 0, began := s.clk }
  let s := lend (takeToken s c) need
  let s := { s with ops := s.ops ++ [o], nextTag := s.nextTag + 1 }
  if fwd then
    sendMsg s (portTo s (dUnit d.words)) ⟨0x18, ownAddr s, dUnit d.words,
      [w32 (o.tag % 4096 * 2 ^ 16),
       w32 (c + getf s (F.CTX_BWIN_FIRST c) * 2 ^ 16 + getf s (F.CTX_BWIN_LAST c) * 2 ^ 24), 0#32, 0#32], wordsBytes d.words⟩
  else s

/-- Latch, on the new first staged descriptor, how many operations its hold waits for (R295). -/
def latchWaits (s : State) (c : Nat) : State :=
  match (ctx s c).staged with
  | [] => s
  | d :: t =>
    if d.waits = none then setCtx s c { ctx s c with staged := { d with waits := some (inflight s c) } :: t } else s

/-- Dispatch or refuse the first staged descriptor of context `c` (R284); an operation that needs a tunnel that is gone completes
with CHAIN_LINK_DOWN (R353). -/
def dispatchCtx (s : State) (c : Nat) : State :=
  match (ctx s c).staged with
  | [] => s
  | d :: t =>
    let s := setCtx s c { ctx s c with staged := t }
    let s := match gateCheck s (getf s (F.CTX_ENG_MASK c)) (getf s (F.CTX_BWIN_FIRST c)) (getf s (F.CTX_BWIN_LAST c)) d.words with
      | some (st, de) => refuse s c d.sq d.words st de
      | none =>
        if !forwards s d.words && needsHost d.words && s.enu.tunneled && !hostReach s then refuse s c d.sq d.words 0x50 0
        else issue s c d
    drainCheck (latchWaits s c) c

/-! ### Books -/

/-- Freeze a context (R303, R259). -/
def freeze (s : State) (c : Nat) : State :=
  let st := getf s (F.CTX_STAT_STATE c)
  if st = stActive ∨ st = stDraining ∨ st = stError then
    let s := setCtx s c { ctx s c with frozenFrom := st, enWant := none }
    let s := raise (setf s (F.CTX_STAT_STATE c) stFrozen) (F.CTX_EVT_FROZEN c)
    let s := wr s (R.LDG_FROZEN (c / 32)) (rd s (R.LDG_FROZEN (c / 32)) ||| w32 (2 ^ (c % 32)))
    devEvent (setf s F.LDG_STAT_FROZEN (getf s F.LDG_STAT_FROZEN + 1)) 3
  else s

/-- The FIFO that a receive or scan operation uses. -/
def opFifo (s : State) (o : Op) : Option Nat :=
  match opcodeOf o with
  | 0x11 => some (opFld o 8 0 6)
  | 0x20 => if opFld o 9 8 1 = 1 then some (opFld o 9 0 6) else none
  | 0x31 => some (getf s F.OSP_CTL_FIFO)
  | _ => none

/-- The contexts a fault of a book involves (R303). -/
def involved (s : State) (m : Mismatch) : List Nat :=
  match m.book with
  | 0 => [m.index]
  | 1 => (s.ops.filter (fun o => decide (0 < o.stagingCr + o.bankCr))).map (·.ctx)
  | 2 => (s.ops.filter (fun o => (o.fwd && decide (portTo s (opFld o 0 16 6) = m.index / 4))
        || (isMember s && !kiteOwned s o.ctx && decide (m.index / 4 = 0)))).map (·.ctx)
  | _ => (s.ops.filter (fun o => opFifo s o == some m.index)).map (·.ctx)

/-- A ledger fault (R303): FAULT, the first fault's record, the contexts involved frozen, device event 1, the alarm. -/
def ledgerFault (s : State) (m : Mismatch) : State :=
  let s :=
    if getf s F.LDG_FAULT0_FAULTS = 0 then
      wr (wr (setf (setf s F.LDG_FAULT0_BOOK m.book) F.LDG_FAULT0_INDEX m.index) R.LDG_FAULT1 (w32 m.booked))
        R.LDG_FAULT2 (w32 m.counted)
    else s
  let s := satAdd s F.LDG_FAULT0_FAULTS 1
  let s := (involved s m).foldl freeze s
  alarmUpdate (devEvent (raise s F.LDG_STAT_FAULT) 1)

/-- Operations counted for a context by the targets. -/
def counted (s : State) (c : Nat) : Nat := inflight s c

/-- Domains whose fence is between close and the posting of its aborts (R302). -/
def openFences (s : State) : List Nat :=
  (List.range 24).filter (fun d => (dom s d).fence == .drain || (dom s d).fence == .drained)

/-- Domains left out of an audit: those between close and aborts that hold an operation. -/
def excludedDoms (s : State) : List Nat :=
  (openFences s).filter (fun d => s.ops.any (fun o => o.dom == some d))

/-- Every book that does not balance at the snapshot (R298), the holdings of excluded domains left out. -/
def mismatches (s : State) (chain : List Nat) : List Mismatch :=
  let ex := excludedDoms s
  let inEx (c : Nat) : Bool := s.ops.any (fun o => o.ctx == c && (match o.dom with | some d => ex.contains d | none => false))
  let tok := s.ctxs.filterMap (fun p =>
    if p.2.held = counted s p.1 ∨ inEx p.1 then none else some ⟨0, p.1, p.2.held, counted s p.1, none⟩)
  let lentNow := (s.ops.map (fun o => o.stagingCr + o.bankCr)).foldl (· + ·) 0
  let buf : List Mismatch := if lent s = lentNow then [] else [⟨1, 0, lent s, lentNow, none⟩]
  let chn := (List.range 8).filterMap (fun i =>
    let booked := getf s (F.LDG_CHN_AVAIL i) + chain.getD i 0
    if booked = getf s (F.LDG_CHN_CAP i) then none else some ⟨2, i, booked, getf s (F.LDG_CHN_CAP i), none⟩)
  let ff := s.fifos.filterMap (fun p =>
    let n := p.2.items.length + (if p.2.gap.isNone then 0 else 1)
    if p.2.booked = n then none else some ⟨3, p.1, p.2.booked, n, some 5⟩)
  tok ++ buf ++ chn ++ (if ex.contains 5 then [] else ff)

/-- Return a frozen context to the state it held, or to DRAINING when its last EN write was 0 (R304, R305). -/
def unfreeze (s : State) (c : Nat) : State :=
  let x := ctx s c
  if getf s (F.CTX_STAT_STATE c) = stFrozen then
    drainCheck (setf (setCtx s c { x with enWant := none }) (F.CTX_STAT_STATE c)
      (if x.enWant = some false then stDraining else x.frozenFrom)) c
  else s

/-- Release the ledger (R305): every book takes the holdings counted, FAULT, FAULTS and the frozen bits clear, and the
frozen contexts resume. -/
def release (s : State) : State :=
  let lst := (s.ops.map (·.stagingCr)).foldl (· + ·) 0
  let lbk := (s.ops.map (·.bankCr)).foldl (· + ·) 0
  let cs := s.ctxs.map (fun p =>
    (p.1, { p.2 with held := counted s p.1,
                     poolHeld := (s.ops.filter (fun o => o.ctx == p.1 && o.pool && o.origin == none)).length }))
  let used := (cs.map (fun p => p.2.poolHeld + p.2.filled)).foldl (· + ·) 0 + (s.ops.filter (fun o => o.origin != none)).length
  let fs := s.fifos.map (fun p => (p.1, { p.2 with booked := p.2.items.length + (if p.2.gap.isNone then 0 else 1) }))
  let s := { s with ctxs := cs, fifos := fs,
                    ledger := { s.ledger with lentStaging := lst, lentBank := lbk, tokFree := 4096 - used,
                                              releasePend := false } }
  let s := (List.range 8).foldl (fun t i =>
    setf t (F.LDG_CHN_AVAIL i) (getf t (F.LDG_CHN_CAP i) - t.ledger.chainCounted.getD i 0)) s
  let s := setf (setf (setf s F.LDG_STAT_FAULT 0) F.LDG_FAULT0_FAULTS 0) F.LDG_STAT_FROZEN 0
  let s := (List.range 32).foldl (fun t w => wr t (R.LDG_FROZEN w) 0#32) s
  alarmUpdate ((s.ctxs.map (·.1)).foldl unfreeze s)

end Sys2Proof.Machine
end

