-- ==== Sys2Proof/Machine/Host.lean ====
section
/-! DEFINITION. Contexts, rings, dispatch, returns and the ledger's commands (10_host_interface_and_contexts.md,
11_descriptors_completions_and_ledger.md). -/
namespace Sys2Proof.Machine

/-! ### Host memory reads and link loss -/

/-- Send a TUN_RD_REQ under the TAG of a read's number (R354). -/
def tunRead (s : State) (c id addr len : Nat) : State :=
  sendMsg s 0 ⟨0x10, ownAddr s, 0, [w32 (id % 256 * 2 ^ 8 + c * 2 ^ 16), w32 len, w32 addr, w32 (addr / 2 ^ 32)], []⟩

/-- Issue a read of host memory: on PCI Express, or through the tunnel from a member, which waits while its TAG is
in use: at most 256 are outstanding (R354). -/
def hostGet (s : State) (use : ReadUse) (c addr len : Nat) : State :=
  let id := s.hif.nextRead
  let s := { s with hif := { s.hif with reads := s.hif.reads ++ [⟨id, addr, len, 0, use, []⟩], nextRead := id + 1 } }
  if isMember s then
    (if s.hif.reads.any (fun r => r.id % 256 == id % 256 && r.id != id) then s else tunRead s c id addr len)
  else emit s (.hostRead id addr len)

/-- Forget an outstanding read. -/
def dropRead (s : State) (id : Nat) : State :=
  { s with hif := { s.hif with reads := s.hif.reads.filter (fun r => r.id != id) } }

/-- Under DISCARD an ACTIVE or ERROR context of the host drains with its records discarded (R276, Table 10-7). -/
def discardCtx (s : State) (c : Nat) : State :=
  let st := getf s (F.CTX_STAT_STATE c)
  if kiteOwned s c then s
  else if st = stActive ∨ st = stError then
    drainCheck (raise (setf s (F.CTX_STAT_STATE c) stDraining) (F.CTX_STAT_DISCARDING c)) c
  else s

/-- The descriptor reads of the host's contexts end; their slots stay unfetched (Table 10-11a). -/
def dropFetches (s : State) : State :=
  { s with ctxs := s.ctxs.map (fun p => if kiteOwned s p.1 then p else (p.1, { p.2 with fetch := none })),
           hif := { s.hif with reads := s.hif.reads.filter (fun r => match r.use with | .fetch _ => false | _ => true) } }

/-- What the contexts do when host memory goes out of reach (R276). -/
def applyLoss (s : State) : State :=
  let s := dropFetches s
  if linkPolicy s = 0 then (s.ctxs.map (·.1)).foldl discardCtx s else s

/-- Write the records held for one context, in order. -/
def flushRecs (s : State) (c : Nat) : List Rec → State
  | [] => s
  | r :: t => flushRecs (putRec s c r) c t

/-- Write the held records of a context when host memory is back in reach (R276). -/
def flushCtx (s : State) (c : Nat) : State :=
  let rs := (ctx s c).heldRecs
  drainCheck (flushRecs (setCtx s c { ctx s c with heldRecs := [] }) c rs) c

/-- Send the device events that MSI-X could not deliver before (R274). -/
def sendHeldDev (s : State) : State :=
  (List.range 12).foldl (fun t k =>
    if bit (rd t R.HIF_DEV_PEND).toNat k && bit (rd t R.HIF_DEV_EN).toNat k && !bit t.hif.devSent k then sendDev t k else t) s

/-- What follows when host memory is back in reach (R276): held records, then fetch and dispatch as before; bit 6 where a host link event was
recorded (Table 10-10). -/
def applyReturn (s : State) : State :=
  let t := (s.ctxs.map (·.1)).foldl flushCtx s
  sendHeldDev (if extractBits (rd t R.HIF_LINK_EVT) 0 3 = 0 then t else devEvent t 6)

/-! ### Dispatch and returns -/

/-- The descriptor of a remote operation (Table 13-3). -/
def rmtWords (m : Msg) : List W32 := bytesWords 16 m.data

/-- A remote operation can be dispatched now: a token, credits and room at its service. -/
def rmtReady (s : State) (m : Msg) : Bool :=
  decide (0 < s.ledger.tokFree) && creditsFree s (rmtWords m) && !serviceFull s (rmtWords m)

/-- The target's gate takes a remote operation (R356): checks 7 and 8, and the credits that it could never lend; then it is
dispatched and booked here, with a token of the shared pool. -/
def rmtDispatch (s : State) (m : Msg) : State :=
  let ws := rmtWords m
  let rtag := extractBits (m.w.getD 0 0#32) 16 12
  let w1 := m.w.getD 1 0#32
  let o : Op := { tag := s.nextTag, ctx := extractBits w1 0 10, sq := 0, words := ws, pool := true,
                  stagingCr := stagingPart s (credits ws), bankCr := credits ws - stagingPart s (credits ws),
                  dom := (opRow (dOpcode ws)).bind (·.dom), origin := some (m.src, rtag), began := s.clk }
  let deny (s : State) (st de : Nat) : State := remoteDone s m.src rtag o st de 0#32 0#32
  if lendable s < credits ws then deny s 0x12 0x09
  else if !(windowFields ws).all (inWindow (extractBits w1 16 7) (extractBits w1 24 7)) then
    deny (satAdd s F.HIF_GATE_REFUSE_PERM 1) 0x13 0x04
  else if (match o.dom with | none => false | some d => away s d) then deny (satAdd s F.HIF_GATE_REFUSE_OFFLINE 1) 0x1B 0x07
  else if needsHost ws && s.enu.tunneled && !hostReach s then deny s 0x50 0
  else
    let s := lend { s with ledger := { s.ledger with tokFree := s.ledger.tokFree - 1 } } (credits ws)
    { s with ops := s.ops ++ [o], nextTag := s.nextTag + 1 }

/-- The oldest remote operation that waits goes, once it can. -/
def remoteTurn (s : State) : State :=
  match s.enu.rmtWait with
  | m :: t => if rmtReady s m then rmtDispatch { s with enu := { s.enu with rmtWait := t } } m else s
  | [] => s

/-- DISPATCH (R268, R269, R284). -/
def execDispatch (s : State) : Host.Outcome State Fault Refusal :=
  if inReset s 1 then done s
  else
    let s1 := countWaits s
    match classServed s with
    | none => done (remoteTurn s1)
    | some k =>
      match pick s k with
      | none => done (remoteTurn s1)
      | some c => done (remoteTurn (dispatchCtx (advanceRound (countClassWaits s1 k) k c) c))

/-- A reply that its domain produced after the abort turn (R114): discarded, counted, and logged once in a fence. -/
def lateReply (s : State) (d opcode : Nat) : State :=
  let x := dom s d
  let s := satAdd s (F.RST_DOM_STAT_DISCARDS d) 1
  if x.lateLogged then s
  else setDom (logEvent s d 5 x.src 0 opcode) d { x with lateLogged := true }

/-- RETURN_ACCEPTED (R23, R24, R28, R285 to R289) of the operation with `tag`; where no such operation is in flight any more, the reply of
domain `d` to `opcode` came late (R114). -/
def execReturnAccepted (tag : Nat) (d : Fin 24) (opcode : Nat) (s : State) : Host.Outcome State Fault Refusal :=
  match opOf s tag with
  | none => done (lateReply s d.val opcode)
  | some o =>
    match o.ret with
    | none => done s
    | some r => done (complete s o (if o.note && r.status == 0 then { r with status := 1 } else r))

/-- NOP (R294): the null target returns it at once. -/
def execNop (tag : Nat) (s : State) : Host.Outcome State Fault Refusal :=
  match opOf s tag with
  | some o => if opcodeOf o = 0x00 then done (giveRet s o ⟨0, 0#32, 0#32⟩) else done s
  | none => done s

/-- FENCE (R294, R285): returns in the turn after its hold ends, with the operations waited for and the µs waited. -/
def execFence (tag us : Nat) (s : State) : Host.Outcome State Fault Refusal :=
  match opOf s tag with
  | some o => if opcodeOf o = 0x01 then done (giveRet s o ⟨0, w32 o.waited, w32 us⟩) else done s
  | none => done s

/-- FENCE_TIMEOUT (R295): FENCE_TO expires on the first staged descriptor of a context while it is held. -/
def execFenceTimeout (c : Fin 1024) (s : State) : Host.Outcome State Fault Refusal :=
  match (ctx s c.val).staged with
  | [] => done s
  | d :: t =>
    if fenceHeld s c.val d.words && decide (0 < dFenceTo d.words) then
      let s := refuse (setCtx s c.val { ctx s c.val with staged := t }) c.val d.sq d.words 0x1C 0x0A
      done (drainCheck (latchWaits s c.val) c.val)
    else done s

/-! ### Fetch -/

/-- Free slots of the completion ring (R267). -/
def cqFree (s : State) (c : Nat) : Nat :=
  let n := cqSize s c
  n - 1 - (getf s (F.CTX_CQ_IDX_CQ_PI c) + n - getf s (F.CTX_CQ_IDX_CQ_CI c)) % n

/-- Slots written by the host and not yet fetched. -/
def sqAvail (s : State) (c : Nat) : Nat :=
  let n := sqSize s c
  (getf s (F.CTX_SQ_IDX_SQ_PI c) + n - getf s (F.CTX_SQ_IDX_SQ_CI c)) % n

/-- How many slots the next read may take: up to `n`, at most 8, within the fetch condition and the end of the ring. -/
def fetchCount (s : State) (c n : Nat) : Nat :=
  let x := ctx s c
  min (min (max 1 n) 8) (min (min (15 - x.staged.length) (cqFree s c - (inflight s c + x.staged.length)))
    (min (sqAvail s c) (sqSize s c - getf s (F.CTX_SQ_IDX_SQ_CI c))))

/-- FETCH (R267): a read of up to `n` slots while the fetch condition holds; one read of a context is outstanding at a
time (log entry 10). -/
def execFetch (c : Fin 1024) (n : Nat) (s : State) : Host.Outcome State Fault Refusal :=
  let k := fetchCount s c.val n
  if getf s (F.CTX_STAT_STATE c.val) = stActive ∧ (ctx s c.val).fetch = none ∧ 0 < k ∧ inReset s 1 = false
      ∧ (kiteOwned s c.val || hostReach s) then
    let ci := getf s (F.CTX_SQ_IDX_SQ_CI c.val)
    let s := setCtx s c.val { ctx s c.val with fetch := some (ci, k) }
    done (if kiteOwned s c.val then s else hostGet s (.fetch c.val) c.val (sqBase s c.val + 64 * ci) (64 * k))
  else done s

/-- FETCH_ERROR (R259): an ACTIVE context goes to ERROR with the cause; its failed slots stay unfetched. -/
def fetchError (s : State) (c cause : Nat) : State :=
  let s := setCtx s c { ctx s c with fetch := none }
  if getf s (F.CTX_STAT_STATE c) = stActive then
    devEvent (raise (setf (setf s (F.CTX_STAT_STATE c) stError) (F.CTX_STAT_CAUSE c) cause) (F.CTX_EVT_FETCH_ERR c)) 3
  else drainCheck s c

/-- Stage the slots read, advance SQ_CI past them and write the indices back (R267). -/
def stageSlots (s : State) (c first : Nat) (ds : List (List W32)) : State :=
  let n := sqSize s c
  let x := ctx s c
  let new := (List.range ds.length).map (fun i => ({ sq := (first + i) % n, words := ds.getD i [] } : Staged))
  let s := setCtx s c { x with staged := x.staged ++ new, fetch := none }
  latchWaits (writeBack (setf s (F.CTX_SQ_IDX_SQ_CI c) ((first + ds.length) % n)) c) c

/-- The descriptors that a Kite ring holds in its bank. -/
def kiteSlots (s : State) (c first : Nat) : Nat → List (List W32)
  | 0 => []
  | k + 1 =>
    bytesWords 16 (readBytes s 64 (sqBase s c + 64 * first)).1 :: kiteSlots s c (first + 1) k

/-- The outstanding read of a context's descriptors ends. -/
def dropFetchRead (s : State) (c : Nat) : State :=
  { s with hif := { s.hif with reads := s.hif.reads.filter (fun r => r.use != .fetch c) } }

/-- A context's outstanding descriptor read ends. -/
def fetchEnds (s : State) (c : Nat) (e : FetchEnd) : State :=
  match (ctx s c).fetch with
  | none => s
  | some (first, k) =>
    let s := dropFetchRead s c
    if kiteOwned s c then
      match (readBytes s (64 * k) (sqBase s c + 64 * first)).2 with
      | some err => fetchError (noteErr s err) c 3
      | none => stageSlots s c first (kiteSlots s c first k)
    else
      match e with
      | .slots ds => stageSlots s c first (ds.take k)
      | .failed => fetchError s c 1
      | .timeout => fetchError s c 2
      | .tunnel => fetchError s c 4
      | .linkLost => drainCheck (setCtx s c { ctx s c with fetch := none }) c

/-- FETCH_COMPLETE (R267, R259, Table 10-8). -/
def execFetchComplete (c : Fin 1024) (e : FetchEnd) (s : State) : Host.Outcome State Fault Refusal :=
  done (fetchEnds s c.val e)

/-! ### Doorbells and enables -/

/-- A doorbell that is ignored: its event bit, and HIF_DB_ERR (R265, R266). -/
def badDoorbell (s : State) (f : Fld) : State := satAdd (raise s f) F.HIF_DB_ERR_COUNT 1

/-- The doorbell comes from a master that does not own the context, or through BAR2 for a Kite context (R262, R266). -/
def doorbellDenied (s : State) (m : Master) (bar2 : Bool) (c : Nat) : Bool :=
  match m with
  | .host => kiteOwned s c
  | .kite => !kiteOwned s c || bar2

/-- A BAR2 write from a member's own PCI Express link is dropped and counted (R345). -/
def bar2Dropped (s : State) (m : Master) (bar2 : Bool) : Bool := bar2 && isMember s && m == .host

/-- DOORBELL_SQ_PI (R265, R266, R345). -/
def execDoorbellSqPi (m : Master) (bar2 : Bool) (c : Fin 1024) (i : Nat) (s : State) : Host.Outcome State Fault Refusal :=
  if bar2Dropped s m bar2 then done (satAdd s F.ENU_CNT2_LOCAL_DENY 1)
  else if away s 1 then done s
  else if doorbellDenied s m bar2 c.val then done (badDoorbell s (F.CTX_EVT_DB_DENIED c.val))
  else if getf s (F.CTX_STAT_STATE c.val) = stDisabled ∨ sqSize s c.val ≤ i then
    done (badDoorbell s (F.CTX_EVT_DB_BAD c.val))
  else done (nakWake (setf s (F.CTX_SQ_IDX_SQ_PI c.val) i))

/-- The index lies in the span from CQ_CI to CQ_PI (R265). -/
def cqCiOk (s : State) (c i : Nat) : Bool :=
  let n := cqSize s c
  let ci := getf s (F.CTX_CQ_IDX_CQ_CI c)
  decide (i < n) && decide ((i + n - ci) % n ≤ (getf s (F.CTX_CQ_IDX_CQ_PI c) + n - ci) % n)

/-- DOORBELL_CQ_CI (R265, R266, R345). -/
def execDoorbellCqCi (m : Master) (bar2 : Bool) (c : Fin 1024) (i : Nat) (s : State) : Host.Outcome State Fault Refusal :=
  if bar2Dropped s m bar2 then done (satAdd s F.ENU_CNT2_LOCAL_DENY 1)
  else if away s 1 then done s
  else if doorbellDenied s m bar2 c.val then done (badDoorbell s (F.CTX_EVT_DB_DENIED c.val))
  else if getf s (F.CTX_STAT_STATE c.val) = stDisabled ∨ cqCiOk s c.val i = false then
    done (badDoorbell s (F.CTX_EVT_DB_BAD c.val))
  else done (nakWake (setf s (F.CTX_CQ_IDX_CQ_CI c.val) i))

/-- The reserves of every context not in DISABLED. -/
def reservesBooked (s : State) : Nat := (s.ctxs.map (fun p => p.2.booked)).foldl (· + ·) 0

/-- The enable checks of R261: the CAUSE code of the first that fails. -/
def enableCheck (s : State) (c : Nat) : Option Nat :=
  let sq := getf s (F.CTX_CTL_SQ_LOG2 c)
  let cq := getf s (F.CTX_CTL_CQ_LOG2 c)
  let lim := getf s (F.CTX_LIM_LIMIT c)
  let res := getf s (F.CTX_LIM_RESERVE c)
  let wb := isSet s (F.CTX_CTL_WB_EN c)
  if ¬(4 ≤ sq ∧ sq ≤ 16 ∧ 4 ≤ cq ∧ cq ≤ 16) then some 0x8
  else if ¬(sqBase s c % 4096 = 0 ∧ cqBase s c % 4096 = 0 ∧ (wb = false ∨ wbAddr s c % 8 = 0)) then some 0x9
  else if ¬(1 ≤ lim ∧ lim ≤ 256 ∧ res ≤ lim) then some 0xA
  else if 4096 < res + reservesBooked s then some 0xB
  else if 1055 < getf s (F.CTX_INT_VEC c) then some 0xC
  else if kiteOwned s c ∧ ¬(sqBase s c + 64 * 2 ^ sq ≤ 0x200000 ∧ cqBase s c + 32 * 2 ^ cq ≤ 0x200000
      ∧ (wb = false ∨ wbAddr s c + 8 ≤ 0x200000)) then some 0xD
  else none

/-- A master's write to a context's words is ignored (R262): the host may not write a Kite context. -/
def ctxDenied (s : State) (m : Master) (c : Nat) : Bool :=
  match m with
  | .host => kiteOwned s c
  | .kite => false

/-- The context becomes ACTIVE: the indices are 0 and its reserve is booked, filled as far as the pool has free tokens
(R259, R270). -/
def activate (s : State) (c : Nat) : State :=
  let res := getf s (F.CTX_LIM_RESERVE c)
  let fill := min res s.ledger.tokFree
  let s := { s with ledger := { s.ledger with tokFree := s.ledger.tokFree - fill } }
  let s := setCtx s c { ctx s c with booked := res, filled := fill, nrec := 0, intPend := 0, enWant := none }
  let s := setf s F.LDG_TOK_RESV (getf s F.LDG_TOK_RESV + res)
  let s := wr (wr s (R.CTX_SQ_IDX c) 0#32) (R.CTX_CQ_IDX c) 0#32
  setf (setf s (F.CTX_CTL_EN c) 1) (F.CTX_STAT_STATE c) stActive

/-- CONTEXT_ENABLE (R259, R261, R304). -/
def execContextEnable (m : Master) (c : Fin 1024) (s : State) : Host.Outcome State Fault Refusal :=
  if ctxDenied s m c.val then done (raise s (F.CTX_EVT_CFG_LOCKED c.val))
  else
    let st := getf s (F.CTX_STAT_STATE c.val)
    if st = stDisabled then
      match enableCheck s c.val with
      | some cause =>
        done (devEvent (raise (setf (setf s (F.CTX_CTL_EN c.val) 0) (F.CTX_STAT_CAUSE c.val) cause)
          (F.CTX_EVT_ENABLE_REFUSED c.val)) 3)
      | none => done (activate s c.val)
    else if st = stFrozen then
      done (setCtx (setf s (F.CTX_CTL_EN c.val) 1) c.val { ctx s c.val with enWant := some true })
    else done s

/-- CONTEXT_DISABLE (R259, R260, R304). -/
def execContextDisable (m : Master) (c : Fin 1024) (s : State) : Host.Outcome State Fault Refusal :=
  if ctxDenied s m c.val then done (raise s (F.CTX_EVT_CFG_LOCKED c.val))
  else
    let st := getf s (F.CTX_STAT_STATE c.val)
    let t := setf s (F.CTX_CTL_EN c.val) 0
    if st = stActive ∨ st = stError then done (drainCheck (setf t (F.CTX_STAT_STATE c.val) stDraining) c.val)
    else if st = stFrozen then done (setCtx t c.val { ctx t c.val with enWant := some false })
    else done s

/-! ### The ledger -/

/-- A handover is between its fence close and its completion (R30): OP of CFG_STAT reads 2. -/
def handoverRuns (s : State) : Bool := decide (getf s F.CFG_STAT_OP = 2)

/-- LEDGER_AUDIT (R301): skipped and counted during a handover; else every book is latched. `chain` gives, by
4 × port + VL, the credits in transit, in the receiver and returning. -/
def execLedgerAudit (chain : List Nat) (s : State) : Host.Outcome State Fault Refusal :=
  if getf s F.LDG_CTL_AUDIT_EN = 0 then done s
  else if handoverRuns s then done (satAdd s F.LDG_SKIPS_HO_SKIPS 1)
  else
    done (raise { s with ledger := { s.ledger with audit := some (mismatches s chain),
                                                   excluded := (excludedDoms s).length, chainCounted := chain } }
      F.LDG_STAT_COMPARING)

/-- AUDIT_COMPARE_DONE (R302, R303): chain books that do not balance are looked at again, every other mismatch is a
fault; a release written meanwhile then acts (R305). -/
def execAuditCompareDone (s : State) : Host.Outcome State Fault Refusal :=
  match s.ledger.audit with
  | none => done s
  | some ms =>
    let s1 := satAdd (wrapAdd (setf s F.LDG_STAT_COMPARING 0) F.LDG_AUDITS_COUNT 1) F.LDG_SKIPS_EXCLUDED s.ledger.excluded
    let s2 := { s1 with ledger := { s1.ledger with audit := none, excluded := 0,
                                                   relook := (ms.filter (fun m => m.book == 2)).map (·.index) } }
    let s3 := (ms.filter (fun m => m.book != 2)).foldl ledgerFault s2
    done (if s3.ledger.releasePend then release s3 else s3)

/-- AUDIT_CHAIN_RELOOK (R302): chain book `i` is latched again; it is a fault only if it still does not balance. -/
def execAuditChainRelook (i : Fin 8) (counted : Nat) (s : State) : Host.Outcome State Fault Refusal :=
  if s.ledger.relook.contains i.val then
    let t := { s with ledger := { s.ledger with relook := s.ledger.relook.filter (fun j => j != i.val) } }
    let booked := getf s (F.LDG_CHN_AVAIL i.val) + counted
    if booked = getf s (F.LDG_CHN_CAP i.val) then done t
    else done (ledgerFault t ⟨2, i.val, booked, getf s (F.LDG_CHN_CAP i.val), none⟩)
  else done s

/-- LDG_RELEASE (R305): KEY 0x51A7; during a comparison it acts as that ends. -/
def execLdgRelease (key : Nat) (s : State) : Host.Outcome State Fault Refusal :=
  if key ≠ 0x51A7 ∨ regAway s R.LDG_RELEASE then done s
  else if isSet s F.LDG_STAT_COMPARING then done { s with ledger := { s.ledger with releasePend := true } }
  else done (release s)

/-- LDG_BUF_LEND (R300): ignored with LEND_DENIED while a bank credit is lent. -/
def execLdgBufLend (first last : Nat) (s : State) : Host.Outcome State Fault Refusal :=
  if regAway s R.LDG_BUF_LEND then done s
  else if 0 < s.ledger.lentBank then done (raise s F.LDG_STAT_LEND_DENIED)
  else done (setf (setf s F.LDG_BUF_LEND_FIRST first) F.LDG_BUF_LEND_LAST last)

/-- LDG_CTL_WRITE (R306, R303): AUDIT_EN, ALARM_EN and PERIOD; the audits' times are the environment's (log entry 11). -/
def execLdgCtlWrite (data : W32) (s : State) : Host.Outcome State Fault Refusal :=
  if regAway s R.LDG_CTL then done s
  else done (alarmUpdate (setf (setf (setf s F.LDG_CTL_AUDIT_EN (extractBits data 0 1)) F.LDG_CTL_ALARM_EN (extractBits data 1 1))
    F.LDG_CTL_PERIOD (extractBits data 16 10)))

/-! ### MSI-X -/

/-- MSIX_UNMASK (R273): the vector's mask bit clears, and a pending message is sent. -/
def execMsixUnmask (v : Fin 1056) (s : State) : Host.Outcome State Fault Refusal :=
  if regAway s (R.HIF_MSIX v.val 3) then done s
  else
    let s := wr s (R.HIF_MSIX v.val 3) (rd s (R.HIF_MSIX v.val 3) &&& ~~~1#32)
    let p := rd s (R.HIF_PBA (v.val / 32))
    if bit p.toNat (v.val % 32) && hostUp s && isSet s F.HIF_STAT_MSIX_EN then
      done (sendVec (wr s (R.HIF_PBA (v.val / 32)) (p &&& ~~~(w32 (2 ^ (v.val % 32))))) v.val)
    else done s

/-- MOD_TIME_EXPIRY (R274): the moderation time of a context's pending interrupt has passed. -/
def execModTimeExpiry (c : Fin 1024) (s : State) : Host.Outcome State Fault Refusal :=
  if 0 < (ctx s c.val).intPend ∧ 0 < getf s (F.CTX_INT_MOD_TIME c.val) ∧ kiteOwned s c.val = false then
    done (sendCtxInt s c.val)
  else done s

end Sys2Proof.Machine
end

