-- ==== Sys2Proof/Machine/Mover.lean ====
section
/-! DEFINITION. The DMA movers: COPY and FILL (R25, R283), and how data from or to host memory reaches an operation. -/
namespace Sys2Proof.Machine

/-- Write bytes to the destination of a mover: D-space, or host memory while it can be reached. The state, the number of
bytes written, and the refusal. -/
def moverPut (s : State) (c : Nat) (dspace : Bool) (a : Nat) (bs : List Byte) : State × Nat × Option Err :=
  if dspace then writeBytes s a bs
  else if hostReach s then (hostPut s c a bs, bs.length, none)
  else (s, 0, some (hostErr s))

/-- A COPY's or FILL's end: OK with the bytes written, or the refusal's status with the offset at which it stopped. -/
def moverRet (written : Nat) (e : Option Err) : Ret :=
  match e with
  | none => ⟨0, w32 written, 0#32⟩
  | some e => ⟨errStatus e, w32 written, w32 written⟩

/-- Note a refusal where one stopped the work. -/
def noteOpt (s : State) : Option Err → State
  | none => s
  | some e => noteErr s e

/-- Both sides lie in D-space, the ranges overlap and the destination lies above the source: the destination is left
undefined (R283). -/
def copyUndefined (o : Op) : Bool :=
  let src := d64 o.words 4
  let dst := d64 o.words 6
  decide (df o.words 8 0 2 = 3) && decide (src < dst) && decide (dst < src + dLength o.words)

/-- COPY (R283, R204, R211): execute-only lines read as zeros and the operation ends with XO_VIOLATION; for ENGSEL 0xFF any mover
may be the reader. A mover takes the operation up. From D-space it moves the bytes in ascending order; from host memory it
issues the read, whose data HOST_READ_COMPLETION brings. -/
def takeCopy (tag : Nat) (s : State) : Host.Outcome State Fault Refusal :=
  match opOf s tag with
  | none => done s
  | some o =>
    if opcodeOf o ≠ 0x02 ∨ o.started ∨ o.fwd then done s
    else
      let n := dLength o.words
      let src := d64 o.words 4
      let dst := d64 o.words 6
      let dstD := decide (df o.words 8 1 1 = 1)
      if df o.words 8 0 1 = 1 then
        let r := readBytes s n src
        let m := if dEngsel o.words < 8 then dEngsel o.words else (freeVal s).toNat % 8
        let xo := decide (0x10000000 ≤ src ∧ src < 0x10800000) && decide (xoLines s (src - 0x10000000) r.1.length ≠ [])
        let s := noteRead (if dEngsel o.words < 8 then s else drawn s) m src r.1.length
        let bs := if copyUndefined o then (List.range r.1.length).map (fun i => Config.undefByte 1 s.free i) else r.1
        let s := if copyUndefined o then drawn s else s
        let w := moverPut s o.ctx dstD dst bs
        let e := match w.2.2 with | some e => some e | none => r.2
        let ret := if e.isNone && xo then ⟨0x22, w32 w.2.1, 0#32⟩ else moverRet w.2.1 e
        done (giveRet (noteOpt w.1 e) { o with started := true } ret)
      else if hostReach s then
        done (hostGet (setOp s { o with started := true }) (.op tag) o.ctx src n)
      else done (giveRet s { o with started := true } (moverRet 0 (some (hostErr s))))

/-- The 16-byte pattern repeated over `n` bytes: byte `i` is pattern byte i mod 16. -/
def patternBytes (ws : List W32) (n : Nat) : List Byte :=
  let p := wordsBytes ((ws.drop 12).take 4)
  (List.range n).map (fun i => p.getD (i % 16) 0#8)

/-- FILL (R283). -/
def takeFill (tag : Nat) (s : State) : Host.Outcome State Fault Refusal :=
  match opOf s tag with
  | none => done s
  | some o =>
    if opcodeOf o ≠ 0x03 ∨ o.started ∨ o.fwd then done s
    else
      let w := moverPut s o.ctx (decide (df o.words 8 1 1 = 1)) (d64 o.words 6) (patternBytes o.words (dLength o.words))
      done (giveRet (noteOpt w.1 w.2.2) { o with started := true } (moverRet w.2.1 w.2.2))

/-- Data of a COPY's host read arrive: they are written at the destination in ascending order; the last of them, or a
refusal, ends the operation (R25, R283). -/
def copyData (s : State) (o : Op) (bs : List Byte) : State :=
  let w := moverPut s o.ctx (decide (df o.words 8 1 1 = 1)) (d64 o.words 6 + o.prog) bs
  let p := o.prog + w.2.1
  let o' := { o with prog := p }
  if w.2.2 ≠ none ∨ dLength o.words ≤ p then giveRet (noteOpt w.1 w.2.2) o' (moverRet p w.2.2) else setOp w.1 o'

/-- Source bytes of an operation whose buffer is D-space or host memory: from D-space the block reads them itself; from
host memory a mover brought `h` (R25). -/
def sourceBytes (s : State) (dspace : Bool) (a n : Nat) (h : ReadEnd) : List Byte × Option Err :=
  if dspace then readBytes s n a
  else match h with
    | .ok bs => (bs.take n, if bs.length < n then some (hostErr s) else none)
    | .failed => ([], some (hostErr s))

end Sys2Proof.Machine
end

