-- ==== Sys2Proof/Machine/Fence.lean ====
section
/-! DEFINITION. The quiesce fence as shared operations (R113 to R122): closing, joining, aborting, releasing and reopening. -/
namespace Sys2Proof.Machine

/-- The model's elapsed time, ns (log entry 1). -/
def nowNs (s : State) : Nat := s.clk

/-- The drain window set by RST_DRAIN; values above 1,000 act as 1,000. -/
def rstDrain (s : State) : Nat := min 1000 (getf s F.RST_DRAIN_US)

/-- Source mask of holders, for the FENCE_CLOSED entry (Table 4-19). -/
def holderMask (hs : List Nat) : Nat := hs.foldl (fun m h => setBit m h) 0

/-- A holder closes the fence of a domain, or joins it where it is closed: no second drain (R113, R119). -/
def closeFence (s : State) (d h drain : Nat) : State :=
  let x := dom s d
  if fenced s d then
    if x.holders.contains h then s else setDom s d { x with holders := x.holders ++ [h] }
  else
    let s := setDom s d { x with fence := .drain, holders := [h], drainUs := drain, closedAt := nowNs s, lateLogged := false, src := h }
    let s := setDomBit s R.RST_DOM_FENCED d true
    let s := if 12 ≤ d ∧ d < 20 then setf s F.BNK_PSTATE_FENCED (setBit (getf s F.BNK_PSTATE_FENCED) (d - 12)) else s
    logEvent s d 0 h (holderMask [h]) drain

/-- Software holds the domain: the fence closes under the source of the write, and RST_DOM_HOLD alone keeps it closed. -/
def holdFence (s : State) (d src : Nat) : State :=
  if fenced s d then s
  else
    let s := closeFence s d src (rstDrain s)
    setDom s d { dom s d with holders := [] }

/-- A reset of the domain is wanted, within the fence that it closes or joins (R119): a domain that is ready under its fence, or one
that has not reported ready in time (`again`), is reset again; one in reset joins it. -/
def requestReset (s : State) (d src drain : Nat) (again : Bool) : State :=
  let s := closeFence s d src drain
  let x := dom s d
  let f : Fence := if x.fence == .ready || (again && x.fence == .released) then .aborted else x.fence
  setDom s d { x with fence := f, resetBy := some src }

/-- The fence reopens: it is logged with the µs since it closed, and the gate and the arbiters serve the domain again. -/
def reopen (s : State) (d : Nat) : State :=
  let x := dom s d
  let s := setDomBit (setDomBit s R.RST_DOM_FENCED d false) R.RST_DOM_REQ d false
  let s := if 12 ≤ d ∧ d < 20 then setf s F.BNK_PSTATE_FENCED (clearBit (getf s F.BNK_PSTATE_FENCED) (d - 12)) else s
  let s := logEvent s d 3 x.src 0 ((nowNs s - x.closedAt) / 1000)
  setDom s d { powered := x.powered, pend := x.pend, pendHold := x.pendHold }

/-- Software holds the domain fenced (RST_DOM_HOLD). -/
def softHold (s : State) (d : Nat) : Bool := bit (rd s R.RST_DOM_HOLD).toNat d

/-- The fence reopens when nothing holds it any more: the domain is ready, or the act left it in service. -/
def tryReopen (s : State) (d : Nat) : State :=
  let x := dom s d
  if fenced s d && x.holders.isEmpty && !softHold s d && (x.fence == .ready || (x.fence == .aborted && x.resetBy == none)) then
    reopen s d
  else s

/-- A holder releases the domain. -/
def releaseHolder (s : State) (d h : Nat) : State :=
  let x := dom s d
  tryReopen (setDom s d { x with holders := x.holders.filter (fun k => k != h) }) d

/-- The reset sources, and BIST, which resets its target last, end with the domain's readiness; the other holders release on their
own. -/
def isResetSource (h : Nat) : Bool := decide (h ≤ 6) || decide (h = 9) || decide (h = 0xB)

/-- The domain's blocks are powered and released from reset: it is not yet ready (R107, R110). -/
def releaseDom (s : State) (d : Nat) : State :=
  let x := dom s d
  setDomBit (setDom s d { x with powered := true, fence := if fenced s d then .released else .open }) R.RST_DOM_INRST d true

/-- A domain reports ready (R107): it is out of reset, and its fence reopens once every holder has released it. -/
def domainReady (s : State) (d : Nat) : State :=
  let s := setDomBit s R.RST_DOM_INRST d false
  let x := dom s d
  if fenced s d then
    tryReopen (setDom s d { x with powered := true, fence := .ready, resetBy := none,
                                   holders := x.holders.filter (fun h => !isResetSource h) }) d
  else setDom s d { x with powered := true, fence := .open }

/-! ### Requests that wait for a handover (R108, R168) -/

/-- A handover keeps requests for a domain waiting: D11 until its start-up sequence is complete, a bank named in RETAIN until it is ON
again, D21 until it ends. -/
def hoKeeps (s : State) (d : Nat) : Bool :=
  match s.ho with
  | none => false
  | some h => d == 21 || (!h.unconf && ((d == 11 && decide (h.step < 11)) || (decide (12 ≤ d) && h.retain.contains (d - 12) && decide (h.step < 10))))

/-- A write of RST_DOM_REQ reaches a domain (R113, R119): a domain that the start has not powered yet is in reset already, and a
request for it has no effect. -/
def askReset (s : State) (d src : Nat) : State :=
  if !(dom s d).powered then s
  else
    let s := setDomBit s R.RST_DOM_REQ d true
    if hoKeeps s d then setDom s d { dom s d with pend := some src }
    else requestReset s d src (rstDrain s) (bit (rd s R.RST_DOM_RDYTO).toNat d)

/-- A software hold reaches a domain. -/
def askHold (s : State) (d src : Nat) : State :=
  if !(dom s d).powered then s
  else if hoKeeps s d then setDom s d { dom s d with pendHold := some src }
  else holdFence s d src

/-- Requests that a handover no longer keeps waiting go on. -/
def askPending (s : State) (d : Nat) : State :=
  if hoKeeps s d then s
  else
    let x := dom s d
    let s := setDom s d { x with pend := none, pendHold := none }
    let s := match x.pendHold with | some src => holdFence s d src | none => s
    match x.pend with | some src => requestReset s d src (rstDrain s) false | none => s

/-- The same for every domain. -/
def askAllPending (s : State) : State := (List.range 24).foldl askPending s

/-- Bank `n`'s present power state in BNK_STATn and BNK_PSTATE (R237, R250). -/
def showBank (s : State) (n : Nat) : State :=
  let st := (bank s n).st
  let s := setf s (F.BNK_STAT_STATE n) st
  setf s F.BNK_PSTATE_STATE (getf s F.BNK_PSTATE_STATE - getf s F.BNK_PSTATE_STATE / 4 ^ n % 4 * 4 ^ n + st * 4 ^ n)

/-- Set a bank's power state. -/
def setBankSt (s : State) (n st : Nat) : State := showBank (setBank s n { bank s n with st := st }) n

end Sys2Proof.Machine
end

