-- ==== Sys2Proof/Machine/Banks.lean ====
section
/-! DEFINITION. The system banks (09_system_banks.md): arbitration, collisions, aliases, power steps, March K-12 and
column repair. -/
namespace Sys2Proof.Machine

/-! ### Arbitration (R233 to R236) -/

/-- The word of an access, as a bank address: bits [22:4]. -/
def accWord (x : BankAcc) : Nat := (bankAddr x.addr).getD 0 / 16

/-- The slice of an access: address bits [6:4]. -/
def accSlice (x : BankAcc) : Nat := accWord x % 8

/-- The access goes through an alias. -/
def viaAlias (x : BankAcc) : Bool := decide (0x800000 ≤ x.addr)

/-- Two accesses conflict: one slice, different words (R233). -/
def conflict (x y : BankAcc) : Bool := decide (accSlice x = accSlice y ∧ accWord x ≠ accWord y)

/-- Write the enabled bytes of a beat. -/
def writeBeat (s : State) (a : Nat) : List Byte → List Bool → State
  | [], _ => s
  | b :: t, e => writeBeat (if e.headD true then storeByte s a b else s) (a + 1) t (e.drop 1)

/-- The word a read beat returns. -/
def readBeat (s : State) (x : BankAcc) : List Byte :=
  (List.range 16).map (fun i => memByte s (16 * accWord x + i))

/-- Operations of a hardened requester that a BUSY read beat touches end with OK_NOTE (Table 9-4). -/
def noteBusy (s : State) (m : Nat) : State :=
  let hit (o : Op) : Bool :=
    let k := opcodeOf o
    if m < 8 then (k == 2 || k == 3) && o.started && (opFld o 0 24 8 == m || opFld o 0 24 8 == 0xFF)
    else if m = 8 then k == 0x20 || k == 0x21
    else if m = 9 then k == 0x10 || k == 0x11 || k == 0x12
    else if m = 10 then k == 0x30 || k == 0x31
    else false
  { s with ops := s.ops.map (fun o => if hit o then { o with note := true } else o) }

/-- Serve one access of a turn; `busy` marks a read that met an earlier write of the same word, whose data are undefined: a
socket gets bnk_busy with the beat (R76; response bit 2 of the model), a hardened requester reads the beat again. -/
def serve (s : State) (x : BankAcc) (busy : Bool) : State :=
  match x.wdata with
  | some d =>
    let s := writeBeat s (x.addr / 16 * 16) (d.take 16) x.be
    if 32 ≤ x.master then emit s (.socket (x.master - 32) 2 []) else s
  | none =>
    if 32 ≤ x.master then
      if busy then
        emit (drawn s) (.socket (x.master - 32) 4 ((List.range 16).map (fun i => Config.undefByte 1 s.free i)))
      else emit s (.socket (x.master - 32) 0 (readBeat s x))
    else if busy then noteBusy s x.master
    else s

/-- Count a turn that drove BUSY. -/
def countColl (s : State) (n : Nat) : State := satAdd s (F.BNK_COLL_COLL n) 1

/-- Serve two accesses to one word, `x` first (Table 9-3, R240). -/
def serveSame (s : State) (n : Nat) (x y : BankAcc) : State :=
  if viaAlias x || viaAlias y then serve (serve (satAdd s (F.BNK_COLL_LOCKWAIT n) 1) x false) y false
  else match x.wdata, y.wdata with
    | none, some _ => countColl (serve (serve s x false) y false) n
    | some _, none => countColl (serve (serve s x false) y true) n
    | _, _ => serve (serve s x false) y false

/-- The bank refuses every access of the turn (R238, R116); a socket gets an error response. -/
def refuseAcc (s : State) (x : BankAcc) (e : Err) : State :=
  let s := noteErr s e
  if 32 ≤ x.master then satAdd (emit s (.socket (x.master - 32) 1 [])) (F.FAB_SOCK_ERRS (x.master - 32)) 1 else s

/-- One turn of the arbiter of bank `n` with an access on port A, on port B or on both. -/
def bankTurn (s : State) (n : Nat) (a b : Option BankAcc) (aFirst : Bool) : State :=
  let proc := isSet s (F.BNK_CTL_MODE n)
  match a, b with
  | none, none => s
  | some x, none => serve s x false
  | none, some y => serve (setBank s n { bank s n with bWait := 0 }) y false
  | some x, some y =>
    if proc then
      let w := (bank s n).bWait + 1
      let s := setBank s n { bank s n with bWait := w, waiting := some (1, y) }
      serve (maxTo (satAdd s (F.BNK_STARVE_STARVE n) 1) (F.BNK_MAXWAIT_TURNS n) w) x false
    else if conflict x y then
      if isSet s (F.BNK_CTL_PRIO n) then serve (setBank s n { bank s n with waiting := some (0, x) }) y false
      else serve (setBank s n { bank s n with waiting := some (1, y) }) x false
    else if accWord x = accWord y then
      if aFirst then serveSame s n x y else serveSame s n y x
    else serve (serve s x false) y false

/-- BANK_ACCESS (R31, R32, R233 to R238): the accesses that reach bank `n`'s ports in a turn; `aFirst` when port A's
arrives first, or the arbiter cannot order them. The access that lost the last turn's conflict holds its port. -/
def execBankAccess (n : Fin 8) (a b : Option BankAcc) (aFirst : Bool) (s : State) : Host.Outcome State Fault Refusal :=
  match bankErr s n.val with
  | some e =>
    let s1 := match a with | some x => refuseAcc s x e | none => s
    done (match b with | some y => refuseAcc s1 y e | none => s1)
  | none =>
    let w := (bank s n.val).waiting
    let s1 := setBank s n.val { bank s n.val with waiting := none }
    done (match w with
      | some (0, x) => bankTurn s1 n.val (some x) b aFirst
      | some (_, y) => bankTurn s1 n.val a (some y) aFirst
      | none => bankTurn s1 n.val a b aFirst)

/-- ALIAS_WRITE (R240): one beat written through an alias, atomically under the word's lock; `waits` accesses to the word
waited for it. -/
def execAliasWrite (clear : Bool) (addr : Fin 0x800000) (data : List Byte) (be : List Bool) (waits : Nat) (s : State) :
    Host.Outcome State Fault Refusal :=
  let a := addr.val / 16 * 16 + (if clear then 0x4000000 else 0x2000000)
  match accessErr s a true with
  | some e => done (noteErr s e)
  | none => done (writeBeat (satAdd s (F.BNK_COLL_LOCKWAIT (addr.val / 0x100000)) waits) a (data.take 16) be)

/-! ### Power (R237 to R239) -/

/-- Some bank is leaving OFF. -/
def leavingOff (s : State) : Bool := s.banks.any (fun p => p.2.st == 3 && p.2.before == 0)

/-- A power step of a bank begins: CHANGING until it is done. -/
def beginStep (s : State) (n target : Nat) (op : Option Nat) : State :=
  setBankSt (setBank s n { bank s n with target := target, forOp := op, before := (bank s n).st }) n 3

/-- BNK_POWER (R249, Table 9-9): the bank service takes the operation up. Where its bank is CHANGING, or another bank leaves
OFF, it waits. -/
def execBnkPower (tag : Nat) (s : State) : Host.Outcome State Fault Refusal :=
  match opOf s tag with
  | none => done s
  | some o =>
    if opcodeOf o ≠ 0x91 ∨ o.started ∨ o.fwd ∨ o.ret ≠ none then done s
    else
      let n := opFld o 4 0 4
      let t := opFld o 4 8 2
      let b := bank s n
      if 7 < n then done (giveRet s o ⟨0x14, 0#32, 0#32⟩)
      else if b.st = 3 then done s
      else if b.st = t then done (giveRet s o ⟨0, 0#32, 0#32⟩)
      else if t = 3 ∨ (n < 2 ∧ t ≠ 1) ∨ (b.st = 0 ∧ t = 2) then done (giveRet s o ⟨0x14, 0#32, 0#32⟩)
      else if fenced s (12 + n) then done (giveRet s o ⟨0x1B, 0#32, 0#32⟩)
      else if b.march ≠ 0 ∨ b.forOp ≠ none then done s
      else if b.st = 1 then
        let s := closeFence (setOp s { o with started := true }) (12 + n) 7 (rstDrain s)
        done (setBank s n { bank s n with target := t, forOp := some tag, before := 1 })
      else if b.st = 0 ∧ leavingOff s then done s
      else done (beginStep (setOp s { o with started := true }) n t (some tag))

/-- A bank reaches the state of its step: a bank that leaves OFF or goes OFF has undefined contents (R239), and fuses
are sensed at an exit from OFF (R248). -/
def stepDone (s : State) (n : Nat) : State :=
  let b := bank s n
  let s := setBankSt (setBank s n { b with forOp := none }) n b.target
  let s := if b.target = 0 ∨ b.before = 0 then loseBank s n else s
  if b.before = 0 then
    setBank s n { bank s n with sensed := (List.range 8).map (fun e => rd s (R.BNK_FUSE n e)) }
  else s

/-- The step that bank `n` is in completes; `us` µs have passed since its operation was dispatched. -/
def bankStepDone (s : State) (n us : Nat) : State :=
  let b := bank s n
  let s := stepDone s n
  let s := match b.forOp.bind (opOf s) with
    | some o => giveRet s o ⟨0, w32 (b.before + 4 * b.target), w32 us⟩
    | none => s
  if b.forOp ≠ none then releaseHolder s (12 + n) 7 else s

/-! ### March K-12 (R241 to R247) -/

/-- A march begins on bank `n`: its mode is shown and the last results are replaced (R246). -/
def startMarch (s : State) (n mode : Nat) (op : Option Nat) : State :=
  let s := setBank s n { bank s n with march := mode, marchOp := op }
  setf (setf s (F.BNK_STAT_MARCH n) mode) (F.BNK_STAT_ROW n) 0

/-- BNK_MARCH (R242, R243, R249, Table 9-9). -/
def execBnkMarch (tag : Nat) (s : State) : Host.Outcome State Fault Refusal :=
  match opOf s tag with
  | none => done s
  | some o =>
    if opcodeOf o ≠ 0x90 ∨ o.started ∨ o.fwd ∨ o.ret ≠ none then done s
    else
      let n := opFld o 4 0 4
      let preserve := decide (opFld o 4 4 1 = 1)
      let b := bank s n
      if 7 < n then done (giveRet s o ⟨0x14, 0#32, 0#32⟩)
      else if b.march ≠ 0 ∨ b.forOp ≠ none then done s
      else if b.st ≠ 1 then done (giveRet s o ⟨0x20, 0#32, 0#32⟩)
      else if n < 2 ∧ preserve = false then done (giveRet s o ⟨0x13, 0#32, 0#32⟩)
      else if away s (12 + n) then done (giveRet s o ⟨0x1B, 0#32, 0#32⟩)
      else if preserve then done (startMarch (setOp s { o with started := true, dom := some (12 + n) }) n 2 (some tag))
      else
        let s := closeFence (setOp s { o with started := true }) (12 + n) 0xA (rstDrain s)
        done (setf (startMarch s n 1 (some tag)) F.BNK_PSTATE_MARCHING (setBit (getf s F.BNK_PSTATE_MARCHING) n))

/-- The march (R241 to R243, R246): the march on bank `n` ends with `faults` failing reads, the element and address of the
first, and the OR of the failing bits; `shadow` for a fault of the shadow row, before any user row was touched. A destructive
march leaves all zeros. -/
def marchDone (n : Fin 8) (faults element addr : Nat) (bits : List W32) (shadow : Bool) (s : State) : State :=
  let b := bank s n.val
  if b.march = 0 then s
  else
    let pres := decide (b.march = 2)
    let sh := shadow && pres
    let s := setBank s n.val { b with march := 0, marchOp := none }
    let s := setf (setf s (F.BNK_STAT_MARCH n.val) 0) (F.BNK_STAT_ROW n.val) 0
    let s := setf s F.BNK_PSTATE_MARCHING (clearBit (getf s F.BNK_PSTATE_MARCHING) n.val)
    let s := if pres then s else zeroBank s n.val
    let s := setf (setf s (F.BNK_MRES_FAULTS n.val) (min 65535 faults)) (F.BNK_MRES_ELEMENT n.val) (if faults = 0 then 0 else element)
    let s := setf (setf (setf s (F.BNK_MRES_MODE n.val) (b2n pres)) (F.BNK_MRES_DONE n.val) (b2n (!sh))) (F.BNK_MRES_SHADOW_FAIL n.val) (b2n sh)
    let s := wr s (R.BNK_MADDR n.val) (if sh then 0xFFFFFFFF#32 else if faults = 0 then 0#32 else w32 addr)
    let s := (List.range 4).foldl (fun t j => wr t (R.BNK_MBIT n.val j) (if faults = 0 then 0#32 else bits.getD j 0#32)) s
    let s := if faults ≠ 0 ∨ sh then raiseAlarm s (F.BNK_EVT_FAULT n.val) else s
    let s := match b.marchOp.bind (opOf s) with
      | some o =>
        giveRet s o (if sh then ⟨0x21, 0#32, 0xFFFFFFFF#32⟩ else if faults = 0 then ⟨0, 0#32, 0#32⟩
          else ⟨1, w32 (min 65535 faults), w32 addr⟩)
      | none => s
    if b.marchOp ≠ none ∧ pres = false then releaseHolder s (12 + n.val) 0xA else s

/-! ### Column repair (R248) -/

/-- The lifecycle state (Table 22-1): 0 BLANK, 1 BRINGUP, 2 FACTORY, 3 DEPLOYED, 4 RETURNED, 5 RETIRED. -/
def lifecycle (s : State) : Nat := getf s F.LCY_STATE_STATE

/-- BRINGUP or FACTORY (R248, R514, R143). -/
def factoryState (s : State) : Bool := decide (lifecycle s = 1 ∨ lifecycle s = 2)

/-- BNK_FUSE_PROG (R248): a write with KEY 0x7E5A begins to blow entry `e`; it is ignored with FUSE_DENIED outside BRINGUP and
FACTORY and for a used entry. -/
def execBnkFuseProg (n e slice : Fin 8) (bitPos : Fin 128) (key : Nat) (s : State) : Host.Outcome State Fault Refusal :=
  if key ≠ 0x7E5A ∨ regAway s (R.BNK_FUSE_PROG n.val) then done s
  else if factoryState s = false ∨ isSet s (F.BNK_FUSE_VALID n.val e.val) then done (raise s (F.BNK_EVT_FUSE_DENIED n.val))
  else done (setBank s n.val { bank s n.val with blowing := some (e.val, slice.val, bitPos.val) })

/-- FUSE_BLOW_DONE (R248): the entry is blown; it takes effect at the bank's next exit from OFF. -/
def execFuseBlowDone (n : Fin 8) (s : State) : Host.Outcome State Fault Refusal :=
  match (bank s n.val).blowing with
  | none => done s
  | some (e, sl, bp) =>
    let s := setBank s n.val { bank s n.val with blowing := none }
    let s := setf (setf (setf s (F.BNK_FUSE_SLICE n.val e) sl) (F.BNK_FUSE_BIT n.val e) bp) (F.BNK_FUSE_VALID n.val e) 1
    done (raise s (F.BNK_EVT_FUSE_DONE n.val))

end Sys2Proof.Machine
end

