-- ==== Sys2Proof/Machine/Bist.lean ====
section
/-! DEFINITION. Lifecycle advances and logic BIST (22_lifecycle_and_bist.md). -/
namespace Sys2Proof.Machine

/-! ### Lifecycle (R565 to R569) -/

/-- A write of LCY_ADVANCE (Table 22-2). -/
def lcyAdvance (s : State) (target key : Nat) : State :=
  let st := getf s F.LCY_STATE_STATE
  let ok := decide (st < 5) && decide (target = st + 1 ∨ target = 5) && s.lcy.isNone
    && (!isSet s F.LCY_STATE_PARTIAL || decide (getf s F.LCY_STATE_PEND = target))
  if key ≠ 0xAD5C then s
  else if ok then setf { s with lcy := some target } F.LCY_STATE_BUSY 1
  else raise s F.LCY_EVT_DENIED

/-- LCY_ADVANCE is written. -/
def execLcyAdvance (target : Fin 8) (key : Fin 65536) (s : State) : Host.Outcome State Fault Refusal := done (lcyAdvance s target key)

/-- The fuse pair has been programmed, and its verify passes or fails (R568). -/
def execLcyAdvanceDone (ok : Bool) (s : State) : Host.Outcome State Fault Refusal :=
  match s.lcy with
  | none => done s
  | some t =>
    let s := setf { s with lcy := none } F.LCY_STATE_BUSY 0
    if ok then done (raise (setf (setf (setf s F.LCY_STATE_STATE t) F.LCY_STATE_PARTIAL 0) F.LCY_STATE_PEND 0) F.LCY_EVT_DONE)
    else done (raise (setf (setf s F.LCY_STATE_PARTIAL 1) F.LCY_STATE_PEND t) F.LCY_EVT_FAIL)

/-- Power is lost or RST_N falls during an advance (R568): none, one or both fuses of the pair are blown. -/
def lcyCut (s : State) : State :=
  match s.lcy with
  | none => s
  | some t =>
    let v := (freeVal s).toNat % 3
    let s := setf (drawn { s with lcy := none }) F.LCY_STATE_BUSY 0
    if v = 0 then s
    else if v = 1 then setf (setf s F.LCY_STATE_PARTIAL 1) F.LCY_STATE_PEND t
    else setf (setf (setf s F.LCY_STATE_STATE t) F.LCY_STATE_PARTIAL 0) F.LCY_STATE_PEND 0

/-! ### BIST (R571 to R578) -/

/-- Domain `d` is a target, with its default patterns ÷ 256 (BST_INFO); it is in the SERVICE set. -/
def bstDefault (d : Nat) : Nat := extractBits (resetWord (R.BST_INFO d)) 0 16
def bstService (d : Nat) : Bool := decide (extractBits (resetWord (R.BST_INFO d)) 31 1 = 1)

/-- The lifecycle state reaches the target (Table 22-3). -/
def bstReach (s : State) (d : Nat) : Bool :=
  match getf s F.LCY_STATE_STATE with
  | 1 => true
  | 2 => true
  | 3 => bstService d
  | 4 => true
  | _ => false

/-- Runs held, the first one being served. -/
def bstRuns (s : State) : List Op := s.ops.filter (fun o => opcodeOf o == 0xA0 && o.started && !o.fwd && o.ret == none)

/-- BST_STAT shows the service. -/
def showBst (s : State) : State :=
  let n := (bstRuns s).length
  setf (setf s F.BST_STAT_BUSY (b2n (0 < n))) F.BST_STAT_QUEUE n

def bstPhase (s : State) : Nat := getf s F.BST_STAT_PHASE

/-- BST_RUN (R573): checked, then queued. -/
def execBstRun (tag : Nat) (s : State) : Host.Outcome State Fault Refusal :=
  match opOf s tag with
  | none => done s
  | some o =>
    if opcodeOf o ≠ 0xA0 ∨ o.started ∨ o.fwd then done s
    else
      let d := opFld o 4 0 5
      let p := (opWord o 5).toNat
      let o := { o with started := true }
      let kite := isSet s (F.CTX_CTL_OWNER o.ctx) && o.origin.isNone
      if bstDefault d = 0 ∨ (d = 2 ∧ isMember s ∧ !kite) ∨ (p ≠ 0 ∧ (p % 256 ≠ 0 ∨ 1048576 < p)) then
        done (giveRet s o ⟨0x14, 0#32, 0#32⟩)
      else if !bstReach s d then done (giveRet s o ⟨0x13, 0#32, 0#32⟩)
      else done (showBst (setOp s o))

/-- The run at the head of the queue is due (R574, R575): it fences its target once no other holder has it. -/
def execBistStart (s : State) : Host.Outcome State Fault Refusal :=
  if 1 < bstPhase s ∨ inReset s 23 then done s
  else
    match bstRuns s with
    | [] => done s
    | o :: _ =>
      let d := opFld o 4 0 5
      let s := setf { s with bst := { s.bst with tag := o.tag, dom := d, ret := none } } F.BST_STAT_DOMAIN d
      if away s d then done (setf s F.BST_STAT_PHASE 1)
      else done (closeFence (setf s F.BST_STAT_PHASE 2) d 9 (rstDrain s))

/-- The aborts of the target have been posted: the patterns begin. -/
def bstAborted (s : State) (d : Nat) : State :=
  if bstPhase s = 2 ∧ s.bst.dom = d then setf s F.BST_STAT_PHASE 3 else s

/-- The patterns end with `sig` in the MISR (R575, R577): it is latched, a run of the default count is compared, and the target is
re-initialised. -/
def execBistPatternsDone (sig : W64) (s : State) : Host.Outcome State Fault Refusal :=
  if bstPhase s ≠ 3 then done s
  else
    match opOf s s.bst.tag with
    | none => done s
    | some o =>
      let d := s.bst.dom
      let p := (opWord o 5).toNat
      let n := if p = 0 then 256 * bstDefault d else p
      let gold := Config.golden d n
      let cmp := decide (p = 0)
      let pass := cmp && decide (sig = gold)
      let s := wr (wr s (R.BST_SIG 0) (sig.extractLsb' 0 32)) (R.BST_SIG 1) (sig.extractLsb' 32 32)
      let s := if cmp then wr (wr s (R.BST_GOLD 0) (gold.extractLsb' 0 32)) (R.BST_GOLD 1) (gold.extractLsb' 32 32) else s
      let r : Ret := ⟨if cmp && !pass then 1 else 0, sig.extractLsb' 0 32, w32 (b2n pass + 2 * b2n cmp + 2 ^ 16 * (n / 256))⟩
      let s := { s with bst := { s.bst with pats := n, ret := some r } }
      done (setf (setDom s d { dom s d with resetBy := some 9 }) F.BST_STAT_PHASE 4)

/-- The target's fence has reopened: the run completes (R575, R578). -/
def bstFinish (s : State) : State :=
  match s.bst.ret with
  | none => s
  | some r =>
    if bstPhase s ≠ 4 ∨ fenced s s.bst.dom then s
    else
      let d := s.bst.dom
      let pass := extractBits r.r1 0 1
      let cmp := extractBits r.r1 1 1
      let s := wr s R.BST_LAST (w32 (d + 2 ^ 8 * pass + 2 ^ 9 * cmp + 2 ^ 16 * r.status))
      let s := satAdd (raise (wr s R.BST_PAT (w32 s.bst.pats)) F.BST_EVT_DONE) F.BST_CNT_RUNS 1
      let s := if cmp = 1 ∧ pass = 0 then satAdd (raise s F.BST_EVT_FAIL) F.BST_CNT_FAILS 1 else s
      let s := match opOf s s.bst.tag with | some o => giveRet s o r | none => s
      showBst (setf { s with bst := { s.bst with ret := none } } F.BST_STAT_PHASE 0)

/-- A wait has lasted WAIT_MS (R574); one for a handover (source 8) is not limited. -/
def execBistWaitTimeout (s : State) : Host.Outcome State Fault Refusal :=
  if bstPhase s ≠ 1 ∨ getf s F.BST_CTL_WAIT_MS = 0 ∨ (dom s s.bst.dom).holders.contains 8 then done s
  else
    match opOf s s.bst.tag with
    | some o => done (showBst (setf (giveRet (raise s F.BST_EVT_TIMEOUT) o ⟨0x1B, 0#32, 0#32⟩) F.BST_STAT_PHASE 0))
    | none => done s

/-- D23 is fenced and reset, or the unit is (R578): a target that is fenced is still re-initialised. -/
def bstAbort (s : State) : State :=
  let d := s.bst.dom
  let s := if bstPhase s = 2 ∨ bstPhase s = 3 then setDom s d { dom s d with resetBy := some 9 } else s
  setf { s with bst := { s.bst with ret := none } } F.BST_STAT_PHASE 0

end Sys2Proof.Machine
end

