-- ==== Sys2Proof/Machine/Image.lean ====
section
/-! DEFINITION. The configuration image (05_configuration_image_format.md): CRCs, header, start-up table, frames, seal, identity,
the checks by source (Table 5-10) and the settings checked against the unit (R131). -/
namespace Sys2Proof.Machine

/-! ### CRCs (R124) -/

/-- One bit of the reflected CRC-32C. -/
def crc32cBit (c : BitVec 32) : BitVec 32 :=
  if c.getLsbD 0 then (c >>> 1) ^^^ 0x82F63B78#32 else c >>> 1

/-- One byte of the CRC-32C. -/
def crc32cByte (c : BitVec 32) (b : Byte) : BitVec 32 :=
  crc32cBit (crc32cBit (crc32cBit (crc32cBit (crc32cBit (crc32cBit (crc32cBit (crc32cBit (c ^^^ b.setWidth 32))))))))

/-- CRC-32C of bytes in ascending address order (Table 5-1). -/
def crc32c (bs : List Byte) : BitVec 32 := (bs.foldl crc32cByte 0xFFFFFFFF#32) ^^^ 0xFFFFFFFF#32

/-- One bit of the CRC-64/ECMA. -/
def crc64Bit (c : BitVec 64) : BitVec 64 :=
  if c.getLsbD 63 then (c <<< 1) ^^^ 0x42F0E1EBA9EA3693#64 else c <<< 1

/-- One byte of the CRC-64/ECMA. -/
def crc64Byte (c : BitVec 64) (b : Byte) : BitVec 64 :=
  crc64Bit (crc64Bit (crc64Bit (crc64Bit (crc64Bit (crc64Bit (crc64Bit (crc64Bit (c ^^^ (b.setWidth 64 <<< 56)))))))))

/-- CRC-64/ECMA of bytes (Table 5-1). -/
def crc64 (bs : List Byte) : BitVec 64 := bs.foldl crc64Byte 0#64

/-! ### Fields of the image -/

/-- `n` bytes at offset `o`, as a little-endian number. -/
def leAt (bs : List Byte) (o n : Nat) : Nat := leNat ((bs.drop o).take n)

/-- The 32-bit word at offset `o`. -/
def wordAt (bs : List Byte) (o : Nat) : W32 := w32 (leAt bs o 4)

/-- A field of the word at offset `o`. -/
def fieldAt (bs : List Byte) (o lo n : Nat) : Nat := leAt bs o 4 / 2 ^ lo % 2 ^ n

def imgFrameCnt (h : List Byte) : Nat := fieldAt h 0x1C 0 11
def imgLen (h : List Byte) : Nat := leAt h 0x18 4
def imgShare (h : List Byte) : Bool := decide (fieldAt h 0x0C 1 1 = 1)
def imgStart (h : List Byte) (i : Nat) : W32 := wordAt h (0x20 + 4 * i)
def imgWp (h : List Byte) (i : Nat) : W32 := wordAt h (0x40 + 4 * i)
def imgXo (h : List Byte) (e : Nat) : W32 := wordAt h (0x140 + 4 * e)
def imgBank (h : List Byte) : W32 := wordAt h 0x150
def imgBankOn (h : List Byte) : Nat := fieldAt h 0x150 0 8 ||| 3
def imgMarch (h : List Byte) : Nat := fieldAt h 0x150 16 8 &&& imgBankOn h
def imgMarchPreserve (h : List Byte) : Bool := decide (fieldAt h 0x150 24 1 = 1)
def imgPace (h : List Byte) : Nat := fieldAt h 0x154 0 11
def imgSockEn (h : List Byte) : Nat := leAt h 0x158 4
def imgSockCall (h : List Byte) : Nat := leAt h 0x15C 4

/-! ### Header errors (R126 to R130) -/

/-- The entries of the start-up table up to and without the first END. -/
def startEntries (h : List Byte) : List W32 := ((List.range 8).map (imgStart h)).takeWhile (fun w => extractBits w 0 4 ≠ 0)

/-- STEP, PARAM and DELAY of an entry (Table 5-3). -/
def stStep (w : W32) : Nat := extractBits w 0 4
def stParam (w : W32) : Nat := extractBits w 8 8
def stDelay (w : W32) : Nat := extractBits w 16 16

/-- The rules of the start-up sequence table (R128). -/
def startOk (h : List Byte) : Bool :=
  let es := startEntries h
  let once (k : Nat) : Bool := decide ((es.filter (fun w => stStep w == k)).length = 1)
  let rest := ((List.range 8).map (imgStart h)).drop es.length
  decide (stStep (imgStart h 0) = 1) && once 1 && once 2 && once 3 && once 4
  && es.all (fun w => decide (stStep w ≤ 5) && decide (extractBits w 4 4 = 0) && (decide (stStep w = 1) || decide (stParam w = 0)))
  && rest.all (fun w => decide (w = 0#32))

/-- The rules of the execute-only table (R130). -/
def xoOk (h : List Byte) : Bool :=
  let valid (e : Nat) : Bool := decide (extractBits (imgXo h e) 31 1 = 1)
  let first (e : Nat) := extractBits (imgXo h e) 0 11
  let last (e : Nat) := extractBits (imgXo h e) 16 11
  (List.range 4).all (fun e =>
    if valid e then decide (imgXo h e &&& 0x7800F800#32 = 0#32) && decide (first e ≤ last e)
    else decide (imgXo h e = 0#32))
  && (List.range 4).all (fun e => (List.range 4).all (fun f =>
    e == f || !valid e || !valid f || decide (last e < first f) || decide (last f < first e)))

/-- Reserved bits of the header, by word offset and mask (Tables 5-2, 5-5, 5-6, 5-7). -/
def hdrReserved : List (Nat × Nat) :=
  [(0x0C, 0xFFFFFFFC), (0x1C, 0xFFFFF800), (0x150, 0xFE00FF00), (0x154, 0xFFFFF800)]
  ++ (List.range 7).map (fun p => (0x160 + 8 * p, 0x0E00C0E0))
  ++ (List.range 11).map (fun i => (0x19C + 8 * i, 0xFFFFFF00))

/-- The image length that FRAME_CNT gives (R123). -/
def lengthFor (n : Nat) : Nat := 512 + 4096 * n + 64

/-- The header error of R126; HDR_CRC is judged only where the source checks it (Table 5-10). -/
def headerErr (crc : Bool) (h : List Byte) : Bool :=
  !(decide (wordAt h 0 = 0x4D495A46#32) && decide (wordAt h 4 = 0x02000100#32)
    && decide (leAt h 9 3 = 0x0F4810)
    && decide (imgLen h = lengthFor (imgFrameCnt h)) && decide (1 ≤ imgFrameCnt h ∧ imgFrameCnt h ≤ 1791)
    && (decide (fieldAt h 0x0C 0 1 = 1) || decide (leAt h 0x10 8 = 0xFFFFFFFFFFFFFFFF))
    && hdrReserved.all (fun r => decide (wordAt h r.1 &&& w32 r.2 = 0#32))
    && startOk h && xoOk h
    && decide (imgSockCall h &&& imgSockEn h = imgSockCall h)
    && (!crc || decide (wordAt h 0x1FC = crc32c (h.take 0x1FC))))

/-- The image matches the unit (R127); this unit reports DEV_ID[7:0] = 0x21. -/
def identityOk (h : List Byte) : Bool :=
  decide (fieldAt h 8 0 8 ≤ extractBits (resetWord R.DEV_ID) 0 8)
  && (decide (fieldAt h 0x0C 0 1 = 0) || decide (leAt h 0x10 8 = Config.dieLo.toNat + 2 ^ 32 * Config.dieHi.toNat))

/-! ### Frames and seal (R132, R133, R136) -/

/-- Where the frame order stands: GLOBAL frames so far, the region of the present group, its LOGIC and RAMINIT frames,
and the regions used so far. -/
structure FrameSt where
  globals : Nat := 0
  region : Option Nat := none
  logic : Nat := 0
  ram : Nat := 0
  used : Nat := 0
  deriving DecidableEq, Repr

/-- Most RAMINIT frames of a region. -/
def ramFramesMax (r : Nat) : Nat := if r < 8 then 82 else 83

/-- Frame `k` in its order: the next place, or none where trailer, order or (where checked) the CRC is wrong. -/
def frameStep (crc : Bool) (k : Nat) (x : FrameSt) (f : List Byte) : Option FrameSt :=
  let t := wordAt f 0xFF8
  let r := extractBits t 16 4
  if extractBits t 0 11 ≠ k ∨ extractBits t 11 5 ≠ 0 ∨ extractBits t 24 8 ≠ 0
      ∨ (crc = true ∧ wordAt f 0xFFC ≠ crc32c (f.take 0xFFC)) then none
  else match extractBits t 20 4 with
    | 3 => if r = 0 ∧ x.region = none ∧ x.globals < 7 then some { x with globals := x.globals + 1 } else none
    | 1 =>
      if x.globals = 0 then none
      else if x.region = some r ∧ x.ram = 0 ∧ x.logic < 29 then some { x with logic := x.logic + 1 }
      else if (x.region = none ∨ ((x.region.getD 0) < r ∧ x.logic = 29)) then
        some { x with region := some r, logic := 1, ram := 0, used := setBit x.used r }
      else none
    | 2 => if x.region = some r ∧ x.logic = 29 ∧ x.ram < ramFramesMax r then some { x with ram := x.ram + 1 } else none
    | _ => none

/-- After the last frame: a GLOBAL frame, a complete last group, and no enabled socket in an unused region. -/
def framesEnd (h : List Byte) (x : FrameSt) : Bool :=
  decide (0 < x.globals) && (x.region.isNone || decide (x.logic = 29))
  && (List.range 32).all (fun s => !bit (imgSockEn h) s || bit x.used (s / 2))

/-- The frames of an image from frame `k` on, `n` of them. -/
def framesFrom (crc : Bool) (img : List Byte) (k : Nat) (x : FrameSt) : Nat → Option FrameSt
  | 0 => some x
  | n + 1 =>
    match frameStep crc k x ((img.drop (0x200 + 0x1000 * k)).take 0x1000) with
    | none => none
    | some y => framesFrom crc img (k + 1) y n

/-- The seal of an image (R136). -/
def sealOk (img : List Byte) : Bool :=
  let o := 0x200 + 0x1000 * imgFrameCnt img
  decide (wordAt img o = 0x4C535A46#32) && decide (leAt img (o + 4) 4 = imgFrameCnt img)
  && decide (leAt img (o + 8) 4 = imgLen img) && decide (wordAt img (o + 12) = 0#32)
  && ((img.drop (o + 0x18)).take 40).all (fun b => decide (b = 0#8))
  && decide (BitVec.ofNat 64 (leAt img (o + 0x10) 8) = crc64 (img.take (o + 0x10)))

/-- The checks of Table 5-10: 0, or the failure reason of Table 6-2. `crc` is false for a plane. -/
def imageReason (crc : Bool) (img : List Byte) : Nat :=
  if headerErr crc img then 1
  else if !identityOk img then 2
  else if img.length < imgLen img then 6
  else match framesFrom crc img 0 {} (imgFrameCnt img) with
    | none => 3
    | some x =>
      if !framesEnd img x then 3
      else if !sealOk img then 4 else 0

/-- The regions an image uses (R88). -/
def usedRegions (img : List Byte) : Nat :=
  match framesFrom false img 0 {} (imgFrameCnt img) with
  | none => 0
  | some x => x.used

/-- Byte `i` of the RAM image of region `r` (R135): the bytes of its RAMINIT frames in order, 0 beyond them. -/
def ramImage (img : List Byte) (r : Nat) : List Byte :=
  (List.range (imgFrameCnt img)).flatMap (fun k =>
    let f := (img.drop (0x200 + 0x1000 * k)).take 0x1000
    let t := wordAt f 0xFF8
    if extractBits t 20 4 = 2 ∧ extractBits t 16 4 = r then f.take 0xFF8 else [])

/-- Entry `e` of fabric RAM block `b` of region `r` in the 512 × 72 view, as the image loads it (R135). -/
def ramEntry (img : List Byte) (r b e : Nat) : Nat := leAt (ramImage img r) (b * 4608 + 9 * e) 9

/-! ### Settings checked against the unit (R131) -/

/-- Word `j` of PLL entry `p` (5 to 11) and of island entry `n` (14 to 24). -/
def pllWord (h : List Byte) (p j : Nat) : W32 := wordAt h (0x160 + 8 * (p - 5) + 4 * j)
def islWord (h : List Byte) (n j : Nat) : W32 := wordAt h (0x198 + 8 * (n - 14) + 4 * j)

/-- A user PLL is used and not left off. -/
def pllOn (h : List Byte) (p : Nat) : Bool :=
  let w := pllWord h p 0
  let ref := extractBits w 0 4
  let m := extractBits w 8 6 + 1
  let n := extractBits w 16 9
  let outOk (o : Nat) : Bool :=
    let d := 2 * (extractBits (pllWord h p 1) (8 * o) 8 + 1)
    !bit (extractBits w 28 4) o || (decide (5 * d * m ≤ 25 * n) && decide (25 * n ≤ 400 * d * m))
  decide (extractBits w 4 1 = 1) && decide (ref ≤ 8) && decide (n ≠ 0)
  && (decide (ref ≠ 0)
      || (decide (10 * m ≤ 25) && decide (25 ≤ 100 * m) && decide (1600 * m ≤ 25 * n) && decide (25 * n ≤ 3200 * m)
          && (List.range 4).all outOk))

/-- The declared frequency agrees with a source whose frequency the controller knows: rounded up to a whole MHz. -/
def freqOk (h : List Byte) (freq src : Nat) : Bool :=
  if src = 40 then decide (freq = 25)
  else if src < 28 then
    let p := 5 + src / 4
    let w := pllWord h p 0
    if extractBits w 0 4 = 0 then
      let d := 2 * (extractBits (pllWord h p 1) (8 * (src % 4)) 8 + 1) * (extractBits w 8 6 + 1)
      decide (freq = (25 * extractBits w 16 9 + d - 1) / d)
    else true
  else true

/-- A used gate's depth meets R70. -/
def gateDepthOk (h : List Byte) (n freq : Nat) : Bool :=
  (List.range 8).all (fun g =>
    !bit (extractBits (islWord h n 1) 0 8) g
    || (let c := extractBits (islWord h n 0) (16 + 2 * g) 2
        decide (c < 3) && decide ((freq * 4 + 99) / 100 + 4 ≤ 8 * 2 ^ c)))

/-- User island `n` is disabled under R64. `glob` holds the islands whose gate widths or pins in the GLOBAL frames are out
of range: those frames are not published (R134), so that is an input. -/
def islDisabled (h : List Byte) (glob n : Nat) : Bool :=
  let w := islWord h n 0
  let freq := extractBits w 0 9
  let src := extractBits w 9 6
  let srcOk := decide (src = 40) || (decide (32 ≤ src) && decide (src ≤ 39))
    || (decide (src < 28) && pllOn h (5 + src / 4) && bit (extractBits (pllWord h (5 + src / 4) 0) 28 4) (src % 4))
  decide (extractBits w 15 1 = 1)
  && !(srcOk && decide (5 ≤ freq) && decide (freq ≤ 400) && freqOk h freq src && gateDepthOk h n freq && !bit glob n)

/-- User islands used and not disabled. -/
def islUsed (h : List Byte) (glob n : Nat) : Bool :=
  decide (extractBits (islWord h n 0) 15 1 = 1) && !islDisabled h glob n

/-- FAB_ISL_ERR after a configuration. -/
def islErrMask (h : List Byte) (glob : Nat) : Nat :=
  (List.range 11).foldl (fun m i => if islDisabled h glob (14 + i) then setBit m (14 + i) else m) 0

/-- The user island's header entry and that of its PLL are bit for bit the same in two headers (R162). -/
def islSame (a b : List Byte) (n : Nat) : Bool :=
  let src := extractBits (islWord a n 0) 9 6
  decide (islWord a n 0 = islWord b n 0) && decide (islWord a n 1 = islWord b n 1)
  && (decide (28 ≤ src) || (decide (pllWord a (5 + src / 4) 0 = pllWord b (5 + src / 4) 0)
        && decide (pllWord a (5 + src / 4) 1 = pllWord b (5 + src / 4) 1)))

/-- PACE_FACTOR lets the fabric start (R131, Table 2-8). -/
def paceOk (h : List Byte) : Bool := decide (1 ≤ imgPace h ∧ imgPace h ≤ 1024)

end Sys2Proof.Machine
end

