-- ==== Sys2Proof/Machine/Scr.lean ====
section
/-! DEFINITION. The scrambler's mix, unmix, line tweak and line tag (R526, R527, R533) and the records of the key store
(R528 to R532). -/
namespace Sys2Proof.Machine

/-- 128 bits as four little-endian words. -/
structure Q4 where
  x0 : W32
  x1 : W32
  x2 : W32
  x3 : W32
  deriving DecidableEq, Repr

/-- Word `i` mod 4. -/
def Q4.at (q : Q4) (i : Nat) : W32 :=
  match i % 4 with
  | 0 => q.x0
  | 1 => q.x1
  | 2 => q.x2
  | _ => q.x3

/-- The key and tweak word that is added at position `i` after round `r`: j = (i + r + 1) mod 4. -/
def mixKey (k t : Q4) (i r : Nat) : W32 := k.at (i + r + 1) ^^^ t.at (i + r + 1)

/-- The round constant C_r. -/
def mixC (r : Nat) : W32 := w32 (0x9E3779B9 * (r + 1))

/-- One round of the mix. -/
def mixRound (k t : Q4) (r : Nat) (q : Q4) : Q4 :=
  let x0 := q.x0 + q.x1
  let x3 := (q.x3 ^^^ x0).rotateLeft 16
  let x2 := q.x2 + x3
  let x1 := (q.x1 ^^^ x2).rotateLeft 12
  let x0 := x0 + x1
  let x3 := (x3 ^^^ x0).rotateLeft 8
  let x2 := x2 + x3
  let x1 := (x1 ^^^ x2).rotateLeft 7
  ⟨x0 ^^^ mixKey k t 0 r ^^^ mixC r, x1 ^^^ mixKey k t 1 r, x2 ^^^ mixKey k t 2 r, x3 ^^^ mixKey k t 3 r⟩

/-- The key and tweak added before the first round. -/
def mixPre (k t q : Q4) : Q4 :=
  ⟨q.x0 ^^^ k.x0 ^^^ t.x0, q.x1 ^^^ k.x1 ^^^ t.x1, q.x2 ^^^ k.x2 ^^^ t.x2, q.x3 ^^^ k.x3 ^^^ t.x3⟩

/-- The mix M(K, T, P) (R526). -/
def mix (k t p : Q4) : Q4 := mixRound k t 3 (mixRound k t 2 (mixRound k t 1 (mixRound k t 0 (mixPre k t p))))

/-- One round undone. -/
def unmixRound (k t : Q4) (r : Nat) (q : Q4) : Q4 :=
  let x0 := q.x0 ^^^ mixC r ^^^ mixKey k t 0 r
  let x1 := q.x1 ^^^ mixKey k t 1 r
  let x2 := q.x2 ^^^ mixKey k t 2 r
  let x3 := q.x3 ^^^ mixKey k t 3 r
  let x1 := x1.rotateRight 7 ^^^ x2
  let x2 := x2 - x3
  let x3 := x3.rotateRight 8 ^^^ x0
  let x0 := x0 - x1
  let x1 := x1.rotateRight 12 ^^^ x2
  let x2 := x2 - x3
  let x3 := x3.rotateRight 16 ^^^ x0
  let x0 := x0 - x1
  ⟨x0, x1, x2, x3⟩

/-- The unmix (R527). -/
def unmix (k t c : Q4) : Q4 := mixPre k t (unmixRound k t 0 (unmixRound k t 1 (unmixRound k t 2 (unmixRound k t 3 c))))

/-- Sixteen bytes as four words, and back. -/
def q4OfBytes (bs : List Byte) : Q4 := ⟨w32 (leAt bs 0 4), w32 (leAt bs 4 4), w32 (leAt bs 8 4), w32 (leAt bs 12 4)⟩
def q4Bytes (q : Q4) : List Byte := wordsBytes [q.x0, q.x1, q.x2, q.x3]

/-- A key from its words. -/
def q4OfWords (ws : List W32) : Q4 := ⟨ws.getD 0 0#32, ws.getD 1 0#32, ws.getD 2 0#32, ws.getD 3 0#32⟩

/-- The tweak of word `w` of line `l` (R533). -/
def lineTweak (range epoch l ver w : Nat) : Q4 :=
  ⟨w32 (64 * l + 16 * w), w32 (ver % 2 ^ 16 + w * 2 ^ 16 + range * 2 ^ 20), w32 epoch, w32 (epoch / 2 ^ 32)⟩

/-- The scrambled bytes of a line. -/
def lineMix (k : Q4) (range epoch l ver : Nat) (plain : List Byte) : List Byte :=
  (List.range 4).flatMap (fun w =>
    q4Bytes (mix k (lineTweak range epoch l ver w) (q4OfBytes ((plain.drop (16 * w)).take 16))))

/-- The plain bytes of a scrambled line. -/
def lineUnmix (k : Q4) (range epoch l ver : Nat) (stored : List Byte) : List Byte :=
  (List.range 4).flatMap (fun w =>
    q4Bytes (unmix k (lineTweak range epoch l ver w) (q4OfBytes ((stored.drop (16 * w)).take 16))))

/-- TAG of a line (R533). -/
def lineTag (k : Q4) (range epoch l ver : Nat) (plain : List Byte) : W32 :=
  crc32c plain ^^^ (mix k (lineTweak range epoch l ver 4) ⟨0#32, 0#32, 0#32, 0#32⟩).x0

/-- A written tag entry (Table 20-4). -/
def tagEntry (tag : W32) (ver : Nat) : List Byte := leBytes 4 tag.toNat ++ leBytes 2 ver ++ leBytes 2 0x4000

/-- How a line reads (R535). -/
inductive LineRead where
  | erased
  | good (plain : List Byte) (ver : Nat)
  | bad
  deriving DecidableEq, Repr

/-- Read a line from its stored bytes and its tag entry. -/
def lineRead (k : Q4) (range epoch l : Nat) (stored entry : List Byte) : LineRead :=
  let ver := leAt entry 4 2
  let top := leAt entry 6 2
  if top / 2 ^ 14 = 3 then .erased
  else if top ≠ 0x4000 then .bad
  else
    let p := lineUnmix k range epoch l ver stored
    if lineTag k range epoch l ver p = w32 (leAt entry 0 4) then .good p ver else .bad

/-! ### The key store -/

def rngState (s : State) (r : Nat) : Nat := getf s (F.SCR_RNG_CTL_STATE r)
def rngSlot (s : State) (r : Nat) : Nat := getf s (F.SCR_RNG_CTL_DSLOT r)
def rngProg (s : State) (r : Nat) : Nat := getf s (F.SCR_RNG_PROG_PROG r)
def rngEpoch (s : State) (r : Nat) : Nat := (rd s (R.SCR_RNG_EPL r)).toNat + 2 ^ 32 * (rd s (R.SCR_RNG_EPH r)).toNat

def prevEpochOf (s : State) (r : Nat) : Nat := (sget r s.prevEpoch).getD 0

/-- Set EPOCH of a range. -/
def setEpoch (s : State) (r e : Nat) : State := wr (wr s (R.SCR_RNG_EPL r) (w32 e)) (R.SCR_RNG_EPH r) (w32 (e / 2 ^ 32))

/-- The key of a key slot. -/
def keyOf (s : State) (k : Nat) : Q4 := q4OfWords ((sget k s.keys).getD [])

/-- Key and epoch under which line `l` of range `r` stands now (R533). -/
def lineKey (s : State) (r l : Nat) : Q4 × Nat :=
  let st := rngState s r
  if (st = 2 ∨ st = 3) ∧ rngProg s r ≤ l then
    (keyOf s (getf s (if st = 2 then F.SCR_RNG_CTL_OLD_KSLOT r else F.SCR_RNG_CTL_KSLOT r)), prevEpochOf s r)
  else (keyOf s (getf s (F.SCR_RNG_CTL_KSLOT r)), rngEpoch s r)

/-- A key slot's state and range; KCHK is 0 when EMPTY. -/
def setKslot (s : State) (k st range : Nat) : State :=
  setf (setf s (F.SCR_KSLOT_STATE k) st) (F.SCR_KSLOT_RANGE k) range

/-- A key slot becomes EMPTY: its key goes. -/
def emptyKslot (s : State) (k : Nat) : State :=
  setf (setKslot { s with keys := sdel k s.keys } k 0 0) (F.SCR_KSLOT_KCHK k) 0

/-- SECURITY at a line failure (R535): FAILS, SECURITY, device event 9, the alarm. -/
def lineFailure (s : State) (r : Nat) : State :=
  alarmUpdate (raise9 (satAdd s (F.SCR_RNG_CNT_FAILS r) 1) F.SCR_EVT_SECURITY)

/-- `n` failures of lines. -/
def lineFailures (s : State) (r : Nat) : Nat → State
  | 0 => s
  | n + 1 => lineFailures (lineFailure s r) r n

end Sys2Proof.Machine
end

