-- ==== Sys2Proof/Machine/Depot.lean ====
section
/-! DEFINITION. The image depot manager as shared operations (07_image_depot_and_chain_loading.md): directory, slots, the flash
and the service of one request. -/
namespace Sys2Proof.Machine

/-! ### The flash -/

/-- The byte of the serial flash; an erased byte reads 0xFF, one of a sector whose erase or program was cut off is undefined. -/
def flashByte (s : State) (a : Nat) : Byte :=
  match sget a s.flash with
  | some b => b
  | none => (match sget (a / 0x10000) s.flashFill with
    | some e => Config.undefByte 6 e a
    | none => 0xFF#8)

/-- `n` bytes of the flash from address `a` up. -/
def flashRead (s : State) (a : Nat) : Nat → List Byte
  | 0 => []
  | n + 1 => flashByte s a :: flashRead s (a + 1) n

/-- Store a byte in the flash. -/
def flashPutByte (s : State) (a : Nat) (b : Byte) : State :=
  { s with flash := if (sget (a / 0x10000) s.flashFill).isNone ∧ b = 0xFF#8 then sdel a s.flash else sput a b s.flash }

/-- Store bytes in the flash. -/
def flashPut (s : State) (a : Nat) : List Byte → State
  | [] => s
  | b :: t => flashPut (flashPutByte s a b) (a + 1) t

/-- Erase sector `k` of 64 KiB. -/
def flashErase (s : State) (k : Nat) : State :=
  { s with flash := s.flash.filter (fun c => !(c.1 / 0x10000 == k)), flashFill := sdel k s.flashFill }

/-- Sector `k` reads undefined from now on, under the number of the next free value. -/
def flashWipe (s : State) (k : Nat) : State :=
  { s with flash := s.flash.filter (fun c => !(c.1 / 0x10000 == k)), flashFill := sput k s.free s.flashFill }

/-- Sector `k` is left undefined: its erase or program was cut off. -/
def flashLose (s : State) (k : Nat) : State := drawn (flashWipe s k)

/-! ### The directory (R174 to R180) -/

/-- Fields of a slot entry's word 0 (Table 7-3). -/
def slFirst (w : W32) : Nat := extractBits w 0 12
def slKind (w : W32) : Nat := extractBits w 12 4
def slSpan (w : W32) : Nat := extractBits w 16 12
def slRange (w : W32) : Nat := extractBits w 28 3

/-- Two sector spans overlap. -/
def spansMeet (f n g m : Nat) : Bool := decide (f < g + m) && decide (g < f + n)

/-- The rules of the slots (Table 7-3, R178). -/
def slotsOk (sectors : Nat) (sl : List (W32 × W32)) : Bool :=
  sl.all (fun e =>
    if slKind e.1 = 0 then decide (e = (0#32, 0#32))
    else decide (slKind e.1 ≤ 5) && decide (2 ≤ slFirst e.1) && decide (1 ≤ slSpan e.1) && decide (slFirst e.1 + slSpan e.1 ≤ sectors)
      && (decide (slKind e.1 = 5) || decide (slRange e.1 = 0)) && decide (extractBits e.1 31 1 = 0))
  && [1, 2, 3].all (fun k => decide ((sl.filter (fun e => slKind e.1 == k)).length ≤ 1))
  && (List.range sl.length).all (fun i => (List.range sl.length).all (fun j =>
    let a := (sl.getD i (0#32, 0#32)).1
    let b := (sl.getD j (0#32, 0#32)).1
    i == j || decide (slKind a = 0) || decide (slKind b = 0) || !spansMeet (slFirst a) (slSpan a) (slFirst b) (slSpan b)))

/-- The bytes of a directory copy but for DIR_CRC (Table 7-2). -/
def dirBody (d : Dir) : List Byte :=
  leBytes 4 0x50445A46 ++ leBytes 4 0x22040100 ++ leBytes 4 d.gen ++ leBytes 4 d.sectors
  ++ leBytes 4 (d.maxMode + d.maxMhz * 2 ^ 8) ++ leBytes 4 d.eraseLimit ++ leBytes 8 0
  ++ (List.range 8).flatMap (fun i => let e := d.slots.getD i (0#32, 0#32); leBytes 4 e.1.toNat ++ leBytes 4 e.2.toNat)
  ++ (List.range 256).map (fun i => byte ((List.range 8).foldl (fun m b => if d.bad.contains (8 * i + b) then setBit m b else m) 0))
  ++ List.replicate 160 0#8
  ++ (List.range 2048).flatMap (fun k => leBytes 4 ((sget k d.ecnt).getD 0))

/-- The bytes of a directory copy. -/
def dirBytes (d : Dir) : List Byte := dirBody d ++ leBytes 4 (crc32c (dirBody d)).toNat

/-- A directory copy read from its sector, where it is valid for a flash of `sectors` sectors (R175). -/
def dirParse (sectors : Nat) (bs : List Byte) : Option Dir :=
  let d : Dir := {
    gen := leAt bs 8 4, sectors := fieldAt bs 0xC 0 12, maxMode := fieldAt bs 0x10 0 2, maxMhz := fieldAt bs 0x10 8 8,
    eraseLimit := leAt bs 0x14 4,
    slots := (List.range 8).map (fun i => (wordAt bs (0x20 + 8 * i), wordAt bs (0x24 + 8 * i))),
    bad := (List.range 2048).filter (fun k => bit (leAt bs (0x60 + k / 8) 1) (k % 8)),
    ecnt := ((List.range 2048).map (fun k => (k, leAt bs (0x200 + 4 * k) 4))).filter (fun p => p.2 ≠ 0) }
  if wordAt bs 0 = 0x50445A46#32 ∧ wordAt bs 4 = 0x22040100#32 ∧ wordAt bs 0x2200 = crc32c (bs.take 0x2200)
      ∧ d.sectors = sectors ∧ slotsOk sectors d.slots = true then some d else none

/-- The copy to use: the valid one, of two the one with the higher GEN, of equal ones that in sector 0 (R176). -/
def dirChoose (a b : Option Dir) : Option (Nat × Dir) :=
  match a, b with
  | some x, some y => if x.gen < y.gen then some (1, y) else some (0, x)
  | some x, none => some (0, x)
  | none, some y => some (1, y)
  | none, none => none

/-- The default directory (R180, Table 7-4). -/
def dirDefault (sectors gen : Nat) : Dir :=
  let g : Nat × Nat := if sectors = 512 then (384, 254) else (512, 382)
  { gen := gen, sectors := sectors,
    slots := [(w32 (2 + 1 * 2 ^ 12 + 128 * 2 ^ 16), 0#32), (w32 (g.1 + 2 * 2 ^ 12 + 128 * 2 ^ 16), 0#32),
              (w32 (130 + 3 * 2 ^ 12 + g.2 * 2 ^ 16), 0#32)] ++ List.replicate 5 (0#32, 0#32) }

/-- Show the directory in use in DEP_GEN, DEP_SLOTs and DEP_CNT.BAD. -/
def showDir (s : State) : State :=
  let d := s.dep.dir
  let s := setf (wr s R.DEP_GEN (w32 d.gen)) F.DEP_CNT_BAD d.bad.length
  (List.range 8).foldl (fun t i =>
    let e := d.slots.getD i (0#32, 0#32)
    wr (wr t (R.DEP_SLOT_W0 i) e.1) (R.DEP_SLOT_W1 i) e.2) s

def setDep (s : State) (d : Dep) : State := { s with dep := d }
def setDir (s : State) (d : Dir) : State := { s with dep := { s.dep with dir := d } }

/-- Word 0 and LENGTH of slot `i`. -/
def slotW0 (s : State) (i : Nat) : W32 := (s.dep.dir.slots.getD i (0#32, 0#32)).1
def slotLen (s : State) (i : Nat) : Nat := (s.dep.dir.slots.getD i (0#32, 0#32)).2.toNat

/-- The slot of a kind. -/
def slotOfKind (s : State) (k : Nat) : Option Nat := (List.range 8).find? (fun i => slKind (slotW0 s i) == k)

/-- First sector and number of sectors of a span: a slot, or the tag span of range `span` - 8. -/
def spanOf (s : State) (span : Nat) : Nat × Nat :=
  if span < 8 then (slFirst (slotW0 s span), slSpan (slotW0 s span))
  else (getf s (F.SCR_RNG_TAG_TAG_FIRST (span - 8)), getf s (F.SCR_RNG_TAG_TAG_SPAN (span - 8)))

/-- The good sectors of a span, ascending (R179, R532). -/
def spanGood (s : State) (span : Nat) : List Nat :=
  let p := spanOf s span
  ((List.range p.2).map (fun i => p.1 + i)).filter (fun k => !s.dep.dir.bad.contains k)

/-- The flash address of byte `x` of a span (R179). -/
def spanAddr (s : State) (span x : Nat) : Option Nat := ((spanGood s span)[x / 0x10000]?).map (fun k => k * 0x10000 + x % 0x10000)

/-- `n` bytes of a span from byte `x`; fewer where its good sectors end. -/
def spanRead (s : State) (span x : Nat) : Nat → List Byte
  | 0 => []
  | n + 1 =>
    match spanAddr s span x with
    | none => []
    | some a => flashByte s a :: spanRead s span (x + 1) n

/-- The depot can serve an image or data request: present and formatted (R176). -/
def depotUsable (s : State) : Bool := isSet s F.DEP_STAT_PRESENT && isSet s F.DEP_STAT_FORMATTED

/-! ### Lines of a scrambled slot (R533 to R535) -/

/-- Stored bytes and tag entry of line `l` of range `r`'s slot. -/
def lineBytes (s : State) (r l : Nat) : List Byte := spanRead s (rngSlot s r) (64 * l) 64
def lineEntry (s : State) (r l : Nat) : List Byte := spanRead s (8 + r) (8 * l) 8

/-- Line `l` of range `r` as it reads from given bytes. -/
def readLineOf (s : State) (r l : Nat) (stored entry : List Byte) : LineRead :=
  let ke := lineKey s r l
  lineRead ke.1 r ke.2 l stored entry

/-- A line's new stored bytes, its new entry, whether it failed its check, and whether its version is exhausted. -/
structure LineNew where
  bytes : List Byte
  entry : List Byte
  fail : Bool
  rolls : Bool
  deriving DecidableEq, Repr

/-- Line `l` of a sector that a write of `data` at slot offset `off` touches or carries over (R534). -/
def writeLine (s : State) (r off : Nat) (data : List Byte) (l : Nat) : LineNew :=
  let st := lineBytes s r l
  let en := lineEntry s r l
  let rdn := readLineOf s r l st en
  let ke := lineKey s r l
  let failed := decide (rdn = .bad)
  if 64 * l + 64 ≤ off ∨ off + data.length ≤ 64 * l then ⟨st, en, failed, false⟩
  else
    let old := match rdn with
      | .erased => List.replicate 64 0#8
      | .good p _ => p
      | .bad => lineUnmix ke.1 r ke.2 l (leAt en 4 2) st
    let new := (List.range 64).map (fun i =>
      let x := 64 * l + i
      if off ≤ x ∧ x < off + data.length then data.getD (x - off) 0#8 else old.getD i 0#8)
    let ver := match rdn with
      | .erased => 0
      | .good _ v => v + 1
      | .bad => leAt en 4 2 + 1
    let k := keyOf s (getf s (F.SCR_RNG_CTL_KSLOT r))
    let e := rngEpoch s r
    ⟨lineMix k r e l ver new, tagEntry (lineTag k r e l ver new) ver, failed, decide (0xFFFF < ver)⟩

/-- Line `l` re-scrambled under the present key and epoch (R537, R534): at VER 0 in a roll, else at its version. -/
def rescrLine (s : State) (r l : Nat) : LineNew :=
  let st := lineBytes s r l
  let en := lineEntry s r l
  match readLineOf s r l st en with
  | .erased => ⟨st, en, false, false⟩
  | .bad => ⟨st, en, true, false⟩
  | .good p v =>
    let ver := if rngState s r = 3 then 0 else v
    let k := keyOf s (getf s (F.SCR_RNG_CTL_KSLOT r))
    let e := rngEpoch s r
    ⟨lineMix k r e l ver p, tagEntry (lineTag k r e l ver p) ver, false, false⟩

/-- The tag sector of data sector `k` with the sector's 1,024 entries replaced. -/
def tagSector (s : State) (r k : Nat) (entries : List Byte) : List Byte :=
  let old := spanRead s (8 + r) (k / 8 * 0x10000) 0x10000
  old.take (k % 8 * 8192) ++ entries ++ old.drop (k % 8 * 8192 + 8192)

/-! ### Service of one request -/

/-- What the flash is asked, as seen on its pins: 1 erase of a sector, 2 program of a page, 3 read. -/
def flashCmd (s : State) (op addr : Nat) (data : List Byte) : State := emit s (.flash op addr data)

/-- The status words of a finished request (R184): sectors erased, sectors newly bad and the slot's capacity in sectors. -/
def writeRet (s : State) (j : Job) (st : Nat) : Ret :=
  ⟨st, w32 j.erased, w32 (j.newBad % 2 ^ 16 + (if j.scr = 0 then (spanGood s j.slot).length else 0) * 2 ^ 16)⟩

/-- The request being served leaves: the operation it serves is answered, a scrambler command shows its RESULT. `fg` says
whether it was a foreground request. -/
def endJob (s : State) (fg : Bool) (j : Job) (r : Ret) (result : Nat) : State :=
  let s := if fg then setDep s { s.dep with jobs := s.dep.jobs.drop 1 } else setDep s { s.dep with bg := none }
  let s := setf s F.DEP_STAT_OP ((s.dep.jobs.head?.orElse (fun _ => s.dep.bg)).elim 0 (·.kind))
  let s := if j.scr = 0 then s else setf (setf (setf s F.SCR_STAT_BUSY 0) F.SCR_STAT_FUNC 0) F.SCR_STAT_RESULT result
  match j.op.bind (opOf s) with
  | some o => giveRet s o r
  | none => s

/-- Store the request being served. -/
def putJob (s : State) (fg : Bool) (j : Job) : State :=
  let s := setf s F.DEP_STAT_OP j.kind
  if fg then setDep s { s.dep with jobs := j :: s.dep.jobs.drop 1 } else setDep s { s.dep with bg := some j }

/-- A sector is marked bad (R183): NEW_BAD, or WORN where it reached ERASE_LIMIT. -/
def markBad (s : State) (k : Nat) (worn : Bool) : State :=
  let d := s.dep.dir
  let s := setDir s { d with bad := insertNat k d.bad }
  let s := if worn then raise9 s F.DEP_EVT_WORN else s
  let s := raise9 s F.DEP_EVT_NEW_BAD
  alarmUpdate (setf s F.DEP_CNT_BAD s.dep.dir.bad.length)

/-- ERASE_LIMIT retires the sector before this erase. -/
def worn (s : State) (k : Nat) : Bool :=
  decide (0 < s.dep.dir.eraseLimit) && decide (s.dep.dir.eraseLimit ≤ (sget k s.dep.dir.ecnt).getD 0)

/-- Begin the erase of sector `k`: it is counted (R183). -/
def beginErase (s : State) (fg : Bool) (j : Job) (k : Nat) (data : List Byte) : State :=
  let d := s.dep.dir
  let s := setDir s { d with ecnt := sput k (min 0xFFFFFFFF ((sget k d.ecnt).getD 0 + 1)) d.ecnt }
  putJob (flashCmd s 1 (k * 0x10000) []) fg
    { j with st := 1, sector := k, data := data, erased := j.erased + (if 2 ≤ k then 1 else 0) }

/-- The sector that the next directory write goes to: the copy not in use, or the one in use where the other is bad
(R177). -/
def dirTarget (s : State) : Nat :=
  let c := getf s F.DEP_STAT_COPY
  if s.dep.dir.bad.contains (1 - c) then c else 1 - c

/-- A range's data sectors. -/
def rangeSectors (s : State) (r : Nat) : Nat := (spanGood s (rngSlot s r)).length

/-- Pages of 256 bytes that `n` bytes take. -/
def pages (n : Nat) : Nat := (n + 255) / 256

/-- An image slot read back: every header and frame CRC (R184). A chain image is a run of images. -/
def imagesOk (fuel : Nat) (bs : List Byte) : Bool :=
  match fuel with
  | 0 => bs.isEmpty
  | f + 1 =>
    bs.isEmpty
    || (!headerErr true bs && decide (imgLen bs ≤ bs.length)
        && (framesFrom true bs 0 {} (imgFrameCnt bs)).isSome && imagesOk f (bs.drop (imgLen bs)))

/-- Headers alone, of one image or of a chain image. -/
def headersOk (fuel : Nat) (bs : List Byte) : Bool :=
  match fuel with
  | 0 => bs.isEmpty
  | f + 1 => bs.isEmpty || (!headerErr true bs && decide (imgLen bs ≤ bs.length) && headersOk f (bs.drop (imgLen bs)))

/-- Serve a request until it waits for the flash or ends. -/
def runJob (s : State) (fg : Bool) (j : Job) : Nat → State
  | 0 => putJob s fg j
  | fuel + 1 =>
    match j.todo with
    | [] => endJob s fg j (writeRet s j 0) 0
    | .write span pos data :: _ =>
      match (spanGood s span)[pos]? with
      | none => endJob s fg j (writeRet s j 0x41) 5
      | some k =>
        if worn s k then runJob (markBad s k true) fg { j with newBad := j.newBad + 1, todo := .dir :: j.todo } fuel
        else beginErase s fg j k data
    | .erase span pos :: t =>
      match (spanGood s span)[pos]? with
      | none => runJob s fg { j with todo := t } fuel
      | some k =>
        if worn s k then runJob (markBad s k true) fg { j with newBad := j.newBad + 1, todo := .dir :: j.todo } fuel
        else beginErase s fg j k []
    | .merge slot off data :: t =>
      let k := off / 0x10000
      let old := spanRead s slot (k * 0x10000) 0x10000
      let new := old.take (off % 0x10000) ++ data ++ old.drop (off % 0x10000 + data.length)
      runJob s fg { j with todo := .write slot k new :: t } fuel
    | .lines slot off data :: t =>
      let r := slRange (slotW0 s slot)
      let k := off / 0x10000
      let ls := (List.range 1024).map (fun i => writeLine s r off data (1024 * k + i))
      if ls.any (·.rolls) then
        runJob s fg { j with todo := .roll r :: ((List.range (rangeSectors s r)).map (Act.rescr r) ++ .endRoll r :: j.todo) } fuel
      else
        let s := lineFailures s r (ls.filter (·.fail)).length
        runJob s fg { j with todo := .write slot k (ls.flatMap (·.bytes)) :: .write (8 + r) (k / 8) (tagSector s r k (ls.flatMap (·.entry))) :: t } fuel
    | .rescr r k :: t =>
      let ls := (List.range 1024).map (fun i => rescrLine s r (1024 * k + i))
      let s := lineFailures s r (ls.filter (·.fail)).length
      runJob s fg { j with todo := .write (rngSlot s r) k (ls.flatMap (·.bytes))
                             :: .write (8 + r) (k / 8) (tagSector s r k (ls.flatMap (·.entry))) :: .prog r (1024 * (k + 1)) :: t } fuel
    | .prog r n :: t => runJob (setf s (F.SCR_RNG_PROG_PROG r) n) fg { j with todo := t } fuel
    | .slot i w0 w1 :: t =>
      let d := s.dep.dir
      runJob (setDir s { d with slots := d.slots.set i (w0, w1) }) fg { j with todo := t } fuel
    | .eraseDir k :: _ => beginErase s fg { j with erased := j.erased + 1 } k []
    | .dir :: _ =>
      let k := dirTarget s
      let d := s.dep.dir
      let s := setDir s { d with gen := d.gen + 1 }
      let s' := beginErase s fg j k []
      putJob s' fg { j with st := 1, sector := k, data := dirBytes s'.dep.dir }
    | .verify slot len :: t =>
      if imagesOk (len / 4672 + 1) (spanRead s slot 0 len) then runJob s fg { j with todo := t } fuel
      else endJob s fg j (writeRet s j 0x40) 5
    | .refresh _ k :: _ => beginErase s fg j k (flashRead s (k * 0x10000) 0x10000)
    | .range r st :: t => runJob (setf s (F.SCR_RNG_CTL_STATE r) st) fg { j with todo := t } fuel
    | .roll r :: t =>
      let e := rngEpoch s r
      let s := setEpoch { s with prevEpoch := sput r e s.prevEpoch } r (e + 1)
      runJob (setf (setf s (F.SCR_RNG_CTL_STATE r) 3) (F.SCR_RNG_PROG_PROG r) 0) fg { j with todo := t } fuel
    | .endRoll r :: t =>
      let s := raise (satAdd (setf s (F.SCR_RNG_CTL_STATE r) 1) (F.SCR_RNG_CNT_ROLLS r) 1) F.SCR_EVT_ROLL
      runJob s fg { j with todo := t } fuel
    | .endRekey r :: t =>
      runJob (raise (setf s (F.SCR_RNG_CTL_STATE r) 1) F.SCR_EVT_REKEY_DONE) fg { j with todo := t } fuel
    | .bound r :: t => runJob (setKslot s (getf s (F.SCR_RNG_CTL_KSLOT r)) 2 r) fg { j with todo := t } fuel
    | .rekey r k :: t =>
      let old := getf s (F.SCR_RNG_CTL_KSLOT r)
      let s := setKslot (setKslot { s with prevEpoch := sput r (rngEpoch s r) s.prevEpoch } old 3 r) k 2 r
      let s := setf (setf (setf s (F.SCR_RNG_CTL_OLD_KSLOT r) old) (F.SCR_RNG_CTL_KSLOT r) k) (F.SCR_RNG_PROG_PROG r) 0
      runJob (setf s (F.SCR_RNG_CTL_STATE r) 2) fg { j with todo := t } fuel
    | .endErase r unbind :: t =>
      let ks := getf s (F.SCR_RNG_CTL_KSLOT r)
      let s := setEpoch s r (rngEpoch s r + 1)
      let s := (List.range 16).foldl (fun u k =>
        if getf u (F.SCR_KSLOT_STATE k) = 3 ∧ getf u (F.SCR_KSLOT_RANGE k) = r then emptyKslot u k else u) s
      let s := if unbind then setf (emptyKslot s ks) (F.SCR_RNG_CTL_STATE r) 0 else setf s (F.SCR_RNG_CTL_STATE r) 1
      runJob s fg { j with todo := t } fuel

/-- Enough turns of `runJob` for a request to reach the flash or its end. -/
def jobFuel (j : Job) : Nat := j.todo.length + 4

/-- Serve the first foreground request where it is a write that waits for nothing; then the next. -/
def serveJobs (s : State) : Nat → State
  | 0 => s
  | fuel + 1 =>
    match s.dep.jobs with
    | [] => setf s F.DEP_STAT_OP (s.dep.bg.elim 0 (·.kind))
    | j :: _ =>
      if j.kind = 5 ∧ j.st = 0 then serveJobs (runJob s true j (jobFuel j)) fuel else setf s F.DEP_STAT_OP j.kind

/-- A foreground request arrives (R187, R189): it ends the scrub's read or suspends its refresh; a boot load or a chain round
is served before a write that can be suspended. -/
def addJob (s : State) (j : Job) : State :=
  let s := match s.dep.bg with
    | none => s
    | some b =>
      if s.dep.jobs ≠ [] then s
      else setDep (satAdd s F.DEP_SCRUB_YIELDS 1) { s.dep with bg := if b.kind = 6 then none else some b }
  let first := match s.dep.jobs with
    | w :: _ => decide (j.kind ≤ 2) && decide (w.kind = 5) && isSet s F.DEP_STAT_SUSPEND
    | [] => false
  let s := setDep s { s.dep with jobs := if first then j :: s.dep.jobs else s.dep.jobs ++ [j] }
  serveJobs s (s.dep.jobs.length + 1)

/-- An act of the request being served is done. -/
def actDone (s : State) (fg : Bool) (j : Job) : State :=
  let j := { j with st := 0, todo := j.todo.drop 1 }
  let s := runJob s fg j (jobFuel j)
  serveJobs s (s.dep.jobs.length + 1)

/-- The directory has been written to its sector: it is in use from now on (R177). -/
def dirDone (s : State) (k : Nat) : State := showDir (setf (setf s F.DEP_STAT_COPY k) F.DEP_STAT_FORMATTED 1)

/-- The flash reports a failure of the sector being written (R183, R177, R188). -/
def sectorFailed (s : State) (fg : Bool) (j : Job) : State :=
  match j.todo with
  | .dir :: _ =>
    if j.sector = getf s F.DEP_STAT_COPY then
      -- neither copy can be written: the depot is unformatted
      let s := endJob (setf s F.DEP_STAT_FORMATTED 0) fg j (writeRet s j 0x40) 5
      serveJobs s (s.dep.jobs.length + 1)
    else
      let s := alarmUpdate (raise9 (markBad s j.sector false) F.DEP_EVT_DIR_COPY_BAD)
      let j := { j with st := 0, newBad := j.newBad + 1 }
      runJob s fg j (jobFuel j)
  | .eraseDir _ :: _ =>
    let s := alarmUpdate (raise9 (markBad s j.sector false) F.DEP_EVT_DIR_COPY_BAD)
    actDone s fg { j with newBad := j.newBad + 1 }
  | .refresh slot _ :: _ =>
    let s := alarmUpdate (raise9 (markBad s j.sector false) F.DEP_EVT_SLOT_LOST)
    let s := setDep s { s.dep with lost := if s.dep.lost.contains slot then s.dep.lost else slot :: s.dep.lost }
    let j := { j with st := 0, todo := [.dir] }
    runJob s fg j (jobFuel j)
  | _ =>
    let j := { j with st := 0, newBad := j.newBad + 1, todo := .dir :: j.todo }
    runJob (markBad s j.sector false) fg j (jobFuel j)

/-- The request that the flash works for: the first foreground one, or the scrub's. -/
def curJob (s : State) : Option (Bool × Job) :=
  match s.dep.jobs with
  | j :: _ => some (true, j)
  | [] => s.dep.bg.map (fun j => (false, j))

/-- An erase of the flash ends. -/
def eraseDone (s : State) (ok : Bool) : State :=
  match curJob s with
  | none => s
  | some (fg, j) =>
    if j.st ≠ 1 then s
    else if !ok then sectorFailed s fg j
    else
      let s := flashErase s j.sector
      if j.data = [] then actDone s fg j
      else putJob (flashCmd s 2 (j.sector * 0x10000) (j.data.take 256)) fg { j with st := 2 }

/-- A page program ends, verified (R183). -/
def programDone (s : State) (ok : Bool) : State :=
  match curJob s with
  | none => s
  | some (fg, j) =>
    if j.st < 2 then s
    else if !ok then sectorFailed s fg j
    else
      let p := j.st - 2
      let s := flashPut s (j.sector * 0x10000 + 256 * p) ((j.data.drop (256 * p)).take 256)
      if p + 1 < pages j.data.length then
        putJob (flashCmd s 2 (j.sector * 0x10000 + 256 * (p + 1)) ((j.data.drop (256 * (p + 1))).take 256)) fg { j with st := j.st + 1 }
      else
        let s := match j.todo with
          | .dir :: _ => dirDone s j.sector
          | .refresh _ _ :: _ => raise s F.DEP_EVT_REFRESHED
          | _ => s
        actDone s fg j

/-! ### Loads of an image slot (R181) -/

/-- Where unit `u` of an image lies: 0 the header, then the frames, then the seal. -/
def unitSpan (h : List Byte) (u : Nat) : Nat × Nat :=
  if u = 0 then (0, 512)
  else if u ≤ imgFrameCnt h then (0x200 + 0x1000 * (u - 1), 0x1000)
  else (0x200 + 0x1000 * imgFrameCnt h, 64)

/-- A unit's own CRC holds: HDR_CRC of a header, the trailer CRC of a frame; the seal has none of its own. -/
def unitCrcOk (h : List Byte) (u : Nat) (bs : List Byte) : Bool :=
  if u = 0 then decide (wordAt bs 0x1FC = crc32c (bs.take 0x1FC))
  else if u ≤ imgFrameCnt h then decide (wordAt bs 0xFFC = crc32c (bs.take 0xFFC))
  else true

/-- A slot's unit is weak: the scrub refreshes it, WEAK is set (R188). -/
def markWeak (s : State) (slot u : Nat) : State :=
  setDep (raise s F.DEP_EVT_WEAK) { s.dep with weak := if s.dep.weak.contains (slot, u) then s.dep.weak else s.dep.weak ++ [(slot, u)] }

/-- A boot load of a depot source (2 PRIMARY, 3 GOLDEN) takes its place among the requests. -/
def bootJob (s : State) (src : Nat) : State :=
  match slotOfKind s (src - 1) with
  | none => { s with boot := { s.boot with bad := some 6, buf := [] } }
  | some i => addJob { s with boot := { s.boot with bad := none, buf := [] } } { kind := 1, slot := i }

/-- The boot load's request ends. -/
def endBootJob (s : State) (j : Job) (bad : Option Nat) : State :=
  let s := { s with boot := { s.boot with bad := bad, buf := j.buf } }
  let s := endJob s true j ⟨0, 0#32, 0#32⟩ 0
  serveJobs s (s.dep.jobs.length + 1)

end Sys2Proof.Machine
end

