-- ==== Sys2Proof/Machine/KiteSvc.lean ====
section
/-! DEFINITION. Kite's boot ROM, firmware check engine, watchdog, mailbox and policy duties (21_kite_core_and_telemetry.md);
the instructions it runs are in KiteIsa.lean. -/
namespace Sys2Proof.Machine

/-- Change Kite's own state. -/
def setKite (s : State) (k : Kite) : State := { s with kite := k }

/-- One TCXO cycle of KIT_MTIME: it runs while D20 is out of reset and TI11 has its TCXO (Table 21-9). -/
def kiteTick (s : State) : State :=
  if s.kite.run && s.tbu.tcxo then setKite s { s.kite with time := (s.kite.time + 1) % (25 * 2 ^ 64) } else s

/-! ### Firmware check (R549, R550) -/

/-- The valid execute-only entries (NVA_XO0 to NVA_XO3), ascending. -/
def xoValid (s : State) : List Nat := (List.range 4).filter (fun e => extractBits (rd s (R.NVA_XO e)) 31 1 == 1)

/-- First byte offset and length of the region of an entry. -/
def xoSpan (s : State) (e : Nat) : Nat × Nat :=
  let w := rd s (R.NVA_XO e)
  (4096 * extractBits w 0 11, 4096 * (extractBits w 16 11 + 1 - extractBits w 0 11))

/-- `n` bytes of the NV array from offset `o`. -/
def nvBytes (s : State) (o : Nat) : Nat → List Byte
  | 0 => []
  | n + 1 => nvByte s o :: nvBytes s (o + 1) n

/-- Header word `i` of the firmware of entry `e`. -/
def fwWord (s : State) (e i : Nat) : W32 := w32 (leNat (nvBytes s ((xoSpan s e).1 + 4 * i) 4))

/-- The verdict on entry `e`: 0 PASS, or the FAIL code of KIT_FW_CHK. -/
def fwVerdict (s : State) (e : Nat) : Nat :=
  let len := (fwWord s e 2).toNat
  let entry := (fwWord s e 3).toNat
  if !(xoValid s).contains e then 1
  else if fwWord s e 0 ≠ 0x464B5A46#32 then 2
  else if len % 16 ≠ 0 ∨ len < 64 ∨ (xoSpan s e).2 < len ∨ entry % 2 ≠ 0 ∨ len ≤ entry then 3
  else if getf s F.KIT_ROM_VER_VER < extractBits (fwWord s e 1) 16 16 then 5
  else if crc32c (nvBytes s ((xoSpan s e).1 + 0x20) (len - 0x20)) ≠ fwWord s e 4 then 4
  else 0

/-- The engine begins the check of entry `e`. -/
def startCheck (s : State) (e : Nat) (rom : Bool) : State :=
  let s := setf (setf (setf (setf s F.KIT_FW_CHK_BUSY 1) F.KIT_FW_CHK_DONE 0) F.KIT_FW_CHK_PASS 0) F.KIT_FW_CHK_FAIL 0
  setKite (setf s F.KIT_FW_CHK_REGION e) { s.kite with chk := some e, romChk := rom }

/-- FW_CHECK_START (R550): a START while BUSY is ignored. -/
def execFwCheckStart (region : Fin 4) (s : State) : Host.Outcome State Fault Refusal :=
  if regAway s R.KIT_FW_CHK ∨ s.kite.chk ≠ none then done s
  else done (startCheck s region.val false)

/-! ### Boot ROM (R551) -/

/-- Kite serves the mailbox in the ROM monitor, with the reason of the last entry tried. -/
def kiteMonitor (s : State) (reason : Nat) : State := setf (setf s F.KIT_STAT_MODE 2) F.KIT_STAT_REASON reason

/-- The boot ROM goes on to its next entry. -/
def romNext (s : State) (reason : Nat) : State :=
  match s.kite.todo with
  | [] => kiteMonitor s reason
  | e :: t => startCheck (setKite s { s.kite with todo := t }) e true

/-- Kite starts at the release of D20: the ROM checks the valid entries in order; in RETIRED it enters MONITOR at once. -/
def kiteBoot (s : State) : State :=
  let s := setKite s { run := true, policy := rd s R.KIT_POLICY }
  if lifecycle s = 5 then kiteMonitor s 0
  else romNext (setKite s { s.kite with todo := xoValid s }) 0

/-- Step 3: the watchdog period and enable, the cache, and the jump into the firmware. -/
def romJump (s : State) (e : Nat) : State :=
  let ms := extractBits (fwWord s e 5) 0 16
  let s := setf (setf s F.KIT_WDT_CTL_PERIOD (if ms = 0 then 1000 else ms)) F.KIT_WDT_CTL_EN 1
  let s := setf (setf (setf s F.KIT_STAT_MODE 1) F.KIT_STAT_REGION e) F.KIT_STAT_VERSION (extractBits (fwWord s e 1) 0 16)
  let k := s.kite
  setKite (setf s F.KIT_STAT_WDT_EN 1)
    { k with icache := [], pc := w32 (0x10000000 + (xoSpan s e).1 + (fwWord s e 3).toNat), wdtFrom := s.clk,
             x := sset 0#32 11 (fwWord s e 2) (sset 0#32 10 (w32 e) k.x) }

/-! ### Mailbox (R553 to R555) -/

/-- The K2H channel takes a message: FULL sets, device event 2. -/
def k2hFill (s : State) (ws : List W32) : State :=
  let s := (List.range 16).foldl (fun t i => wr t (R.KIT_MBX_K2H_W i) (ws.getD i 0#32)) s
  devEvent (setf s F.KIT_MBX_K2H_CTL_FULL 1) 2

/-- Kite replies: it waits while K2H is FULL. -/
def kiteReply (s : State) (ws : List W32) : State :=
  if isSet s F.KIT_MBX_K2H_CTL_FULL then setKite s { s.kite with replies := s.kite.replies ++ [ws] } else k2hFill s ws

/-- Word 0 of a reply (R555). -/
def replyHead (cmd tag count status : Nat) : W32 := w32 (cmd % 256 + tag % 256 * 2 ^ 8 + count * 2 ^ 16 + status * 2 ^ 24)

/-- CMD and TAG of the message in H2K. -/
def h2kCmd (s : State) : Nat := extractBits (rd s (R.KIT_MBX_H2K_W 0)) 0 8
def h2kTag (s : State) : Nat := extractBits (rd s (R.KIT_MBX_H2K_W 0)) 8 8

/-- Kite takes the message: it writes DONE and FULL clears. -/
def h2kTake (s : State) : State := setf s F.KIT_MBX_H2K_CTL_FULL 0

/-- Kite is ready to serve the message `cmd` that H2K holds: its ROM monitor or its firmware runs. -/
def serves (s : State) (cmd : Nat) : Bool :=
  !away s 20 && decide (getf s F.KIT_STAT_MODE ≠ 0) && isSet s F.KIT_MBX_H2K_CTL_FULL && decide (h2kCmd s = cmd)

/-- The engine's verdict is in: the CHECK message that waits for it is answered. -/
def answerCheck (s : State) : State :=
  match s.kite.chkTag with
  | none => s
  | some t => kiteReply (setKite s { s.kite with chkTag := none }) [replyHead 3 t 1 0, rd s R.KIT_FW_CHK]

/-- FW_CHECK_DONE (R550, R551): the header words and the verdict; a check of the boot ROM goes on with its steps. -/
def execFwCheckDone (s : State) : Host.Outcome State Fault Refusal :=
  match s.kite.chk with
  | none => done s
  | some e =>
    let v := fwVerdict s e
    let s := if v = 1 then s else (List.range 6).foldl (fun t i => wr t (R.KIT_FWH i) (fwWord t e i)) s
    let s := setf (setf (setf (setf s F.KIT_FW_CHK_BUSY 0) F.KIT_FW_CHK_DONE 1) F.KIT_FW_CHK_PASS (b2n (decide (v = 0)))) F.KIT_FW_CHK_FAIL v
    let rom := s.kite.romChk
    let s := answerCheck (setKite s { s.kite with chk := none, romChk := false })
    done (if rom then (if v = 0 then romJump s e else romNext s v) else s)

/-- MBX_H2K_SEND (R553): SEND by the host while FULL is 1 is ignored and counted. The ROM monitor answers a command it does not know
(R555). -/
def execMbxH2kSend (s : State) : Host.Outcome State Fault Refusal :=
  if regAway s R.KIT_MBX_H2K_CTL then done s
  else if isSet s F.KIT_MBX_H2K_CTL_FULL then done (satAdd s F.KIT_MBX_H2K_CTL_DROPS 1)
  else
    let s := kitIrq (setf s F.KIT_MBX_H2K_CTL_FULL 1) 1
    if getf s F.KIT_STAT_MODE = 2 ∧ ¬(1 ≤ h2kCmd s ∧ h2kCmd s ≤ 4) then
      done (kiteReply (h2kTake s) [replyHead (h2kCmd s) (h2kTag s) 0 1])
    else done s

/-- MBX_H2K_DONE (R553): DONE by Kite. -/
def execMbxH2kDone (s : State) : Host.Outcome State Fault Refusal :=
  if regAway s R.KIT_MBX_H2K_CTL then done s else done (h2kTake s)

/-- MBX_K2H_SEND (R553): SEND by Kite, with the words it has written. -/
def execMbxK2hSend (s : State) : Host.Outcome State Fault Refusal :=
  if regAway s R.KIT_MBX_K2H_CTL then done s
  else if isSet s F.KIT_MBX_K2H_CTL_FULL then done (satAdd s F.KIT_MBX_K2H_CTL_DROPS 1)
  else done (devEvent (setf s F.KIT_MBX_K2H_CTL_FULL 1) 2)

/-- MBX_K2H_DONE (R553): DONE by the host; a reply that waited is sent. -/
def execMbxK2hDone (s : State) : Host.Outcome State Fault Refusal :=
  if regAway s R.KIT_MBX_K2H_CTL ∨ isSet s F.KIT_MBX_K2H_CTL_FULL = false then done s
  else
    let s := kitIrq (setf s F.KIT_MBX_K2H_CTL_FULL 0) 2
    match s.kite.replies with
    | [] => done s
    | r :: t => done (k2hFill (setKite s { s.kite with replies := t }) r)

/-- PING (R555, Table 21-4). -/
def execPing (s : State) : Host.Outcome State Fault Refusal :=
  if serves s 1 then
    let v := if getf s F.KIT_STAT_MODE = 2 then 0 else getf s F.KIT_STAT_VERSION
    done (kiteReply (h2kTake s) [replyHead 1 (h2kTag s) 1 0, w32 (getf s F.KIT_ROM_VER_VER + v * 2 ^ 16)])
  else done s

/-- INFO (R555, Table 21-4). -/
def execInfo (s : State) : Host.Outcome State Fault Refusal :=
  if serves s 2 then
    done (kiteReply (h2kTake s)
      [replyHead 2 (h2kTag s) 4 0, rd s R.KIT_STAT, rd s R.CFG_BOOT_LOG, rd s (R.KIT_FWH 1), rd s R.KIT_CTXS])
  else done s

/-- CHECK (R555, R550): the reply follows the check's end; one that meets a running check shares its end. -/
def execCheck (s : State) : Host.Outcome State Fault Refusal :=
  if serves s 3 && s.kite.chkTag.isNone then
    let r := extractBits (rd s (R.KIT_MBX_H2K_W 1)) 0 2
    let t := h2kTake (setKite s { s.kite with chkTag := some (h2kTag s) })
    done (if t.kite.chk = none then startCheck t r false else t)
  else done s

/-- POLICY_APPLY (R555, R556). -/
def execPolicyApply (s : State) : Host.Outcome State Fault Refusal :=
  if serves s 4 then
    let p := rd s R.KIT_POLICY
    done (kiteReply (h2kTake (setKite s { s.kite with policy := p })) [replyHead 4 (h2kTag s) 1 0, p])
  else done s

/-! ### Watchdog and software interrupt -/

/-- WDT_ENABLE (R552): a Kite write of EN = 1. -/
def execWdtEnable (s : State) : Host.Outcome State Fault Refusal :=
  if regAway s R.KIT_WDT_CTL ∨ isSet s F.KIT_WDT_CTL_EN then done s
  else done (setKite (setf (setf s F.KIT_WDT_CTL_EN 1) F.KIT_STAT_WDT_EN 1) { s.kite with wdtFrom := s.clk })

/-- WDT_SERVICE (R552): a write of KEY; 0x5EED from Kite restarts the count. -/
def execWdtService (m : Master) (key : Nat) (s : State) : Host.Outcome State Fault Refusal :=
  if m = .kite ∧ key = 0x5EED ∧ regAway s R.KIT_WDT_SVC = false ∧ isSet s F.KIT_WDT_CTL_EN then
    done (setKite s { s.kite with wdtFrom := s.clk })
  else done s

/-- KIT_MSIP (R546): a write of MSIP raises or drops the machine software interrupt. -/
def execKitMsip (on : Bool) (s : State) : Host.Outcome State Fault Refusal :=
  if regAway s R.KIT_MSIP then done s else done (setf s F.KIT_MSIP_MSIP (b2n on))

/-! ### Duties (R556) -/

/-- The first context that Kite claims. -/
def kiteCtx (s : State) : Option Nat :=
  let c := getf s F.KIT_CTXS_FIRST
  if 0 < getf s F.KIT_CTXS_COUNT ∧ kiteOwned s c ∧ getf s (F.CTX_STAT_STATE c) = stActive then some c else none

/-- Kite submits a descriptor through its context: into its submission ring, and the doorbell (R262, R263); a full ring takes
none. -/
def kitePush (s : State) (c : Nat) (ws : List W32) : State :=
  let pi := getf s (F.CTX_SQ_IDX_SQ_PI c)
  let n := sqSize s c
  if (pi + 1) % n = getf s (F.CTX_SQ_IDX_SQ_CI c) then s
  else setf (putBytes s (sqBase s c + 64 * pi) (wordsBytes ((List.range 16).map (fun i => ws.getD i 0#32))))
    (F.CTX_SQ_IDX_SQ_PI c) ((pi + 1) % n)

/-- The firmware runs and its applied policy has duty `b` set. -/
def duty (s : State) (b : Nat) : Bool :=
  !away s 20 && decide (getf s F.KIT_STAT_MODE = 1) && bit s.kite.policy.toNat b

/-- NIGHTLY_DUE (R556, Table 21-5): with NIGHTLY set, a preserving march on each ON bank, then BST_RUN on the domains of the
SERVICE set that the firmware runs in turn (`service`, R580). -/
def execNightlyDue (service : List Nat) (s : State) : Host.Outcome State Fault Refusal :=
  if duty s 5 then
    match kiteCtx s with
    | none => done s
    | some c =>
      let on := (List.range 8).filter (fun n => (bank s n).st == 1)
      let s := on.foldl (fun t n => kitePush t c [0x90#32, 0#32, 0#32, 0#32, w32 (n + 16)]) s
      done (service.foldl (fun t d => kitePush t c [0xA0#32, 0#32, 0#32, 0#32, w32 (d % 32), 0#32]) s)
  else done s

/-- Kite's wear summary, blocks 64 to 74 of the tag (Table 19-5): `hours` powered and the block with the highest NVA_ECNT (`top`)
are the firmware's own counts. -/
def wearWords (s : State) (hours top topCount startNo : Nat) : List W32 :=
  [stampS s, w32 (lifecycle s + min 65535 hours * 2 ^ 16), rd s (R.CFG_WEAR 0), rd s (R.CFG_WEAR 1),
   rd s R.NVA_TOTAL_LO, rd s R.NVA_TOTAL_HI, w32 top, w32 topCount,
   w32 s.dep.dir.bad.length, w32 (s.dep.dir.ecnt.foldl (fun m e => max m e.2) 0), w32 startNo]

/-- WEAR_SUMMARY_DUE (R556, R519): with TAG set, Kite puts the summary into a buffer of its own in BANK0 or BANK1 and submits a
TAG_WRITE of blocks 64 to 74. -/
def execWearSummaryDue (buf : Fin 0x200000) (hours top topCount startNo : Nat) (s : State) : Host.Outcome State Fault Refusal :=
  if duty s 1 then
    match kiteCtx s with
    | none => done s
    | some c =>
      let a := buf.val / 4 * 4
      let s := putBytes s a (wordsBytes (wearWords s hours top topCount startNo))
      done (kitePush s c [0x81#32, 0#32, 44#32, 0#32, w32 a, 0#32, 1#32, 64#32])
  else done s

end Sys2Proof.Machine
end

