-- ==== Sys2Proof/Machine/Timebase.lean ====
section
/-! DEFINITION. The timebase, PPS, holdover and chain time (18_timebase.md). -/
namespace Sys2Proof.Machine

/-! ### The counter -/

def setTbu (s : State) (t : Tbu) : State := { s with tbu := t }

/-- The time in nanoseconds. -/
def totalNs (s : State) : Int := (s.tbu.sec : Int) * 1000000000 + (s.tbu.ns : Int)

/-- Load a time given in nanoseconds, modulo 2^48 seconds. -/
def loadNs (s : State) (n : Int) : State :=
  let m := (n % (281474976710656000000000 : Int)).toNat
  setTbu s { s.tbu with sec := m / 1000000000, ns := m % 1000000000 }

/-- A signed 32-bit saturating code. -/
def sat32 (x : Int) : W32 := w32 (unsigned 32 (max (-2147483648) (min 2147483647 x)))

/-- FREQ as a signed number. -/
def freqOf (s : State) : Int := signed 32 (rd s R.TBU_FREQ).toNat

/-- Add `d` units of 2^-40 ns to the counter; a slew never makes it run backwards (R482). -/
def addFrac (s : State) (d : Int) : State :=
  let f := (s.tbu.frac : Int) + d
  let g := f.toNat
  let n := s.tbu.ns + g / 2 ^ 40
  setTbu s { s.tbu with frac := g % 2 ^ 40, ns := n % 1000000000, sec := (s.tbu.sec + n / 1000000000) % 2 ^ 48 }

/-- One TCXO cycle (R481): 40 ns × (1 + FREQ × 2^-40), and the rate change of a slew, at most 50 ppm (R488); how fast a slew
runs within that bound is open (log entry 2). -/
def tbuTick (s : State) : State :=
  if !s.tbu.run then s
  else
    let s := addFrac s (40 * (2 ^ 40 + freqOf s))
    if s.tbu.slew = 0 then s
    else
      let most : Int := ((freeVal s).toNat % 2199023255 : Nat) + 1
      let d := if 0 < s.tbu.slew then min most s.tbu.slew else -(min most (-s.tbu.slew))
      let s := addFrac (drawn s) d
      setTbu s { s.tbu with slew := s.tbu.slew - d }

/-- Show HOLD and UNSYNC: a member's own flag or that of the last beacon (R499). -/
def showFlags (s : State) : State :=
  let b := isMember s
  setf (setf s F.TBU_STAT_HOLD (b2n (s.tbu.hold || (b && s.tbu.bcnHold))))
    F.TBU_STAT_UNSYNC (b2n (s.tbu.unsync || (b && s.tbu.bcnUnsync)))

/-! ### States and references (R484 to R490) -/

def stFree : Nat := 0
def stAcquire : Nat := 1
def stLocked : Nat := 2
def stHoldover : Nat := 3
def stRecover : Nat := 4

def tbuState (s : State) : Nat := getf s F.TBU_STAT_STATE

/-- Mean of FREQ over the last 64 s of LOCKED (R490). -/
def meanFreq (s : State) : Int :=
  let l := s.tbu.freqs.take 64
  if l = [] then freqOf s else l.foldl (· + ·) 0 / (l.length : Int)

/-- Enter a state of Table 18-1; every transition sets STATE_CHG and device event 5. -/
def enterState (s : State) (st : Nat) : State :=
  if tbuState s = st then s
  else
    let old := tbuState s
    let s := devEvent (raise (setf s F.TBU_STAT_STATE st) F.TBU_EVT_STATE_CHG) 5
    let t := { s.tbu with inLock := 0 }
    let s := setTbu s (match st with
      | 0 => { t with unsync := true, hold := false }
      | 1 => { t with unsync := true, hold := false }
      | 2 => { t with unsync := false, hold := false, freqs := [] }
      | _ => { t with hold := true })
    let s := if st = stLocked then wr s R.TBU_LOCK_AGE 0#32 else s
    let s := if st = stHoldover ∧ old = stLocked then
        wr (satAdd s F.TBU_CNT2_HOLDOVERS 1) R.TBU_FREQ (w32 (unsigned 32 (meanFreq s)))
      else s
    showFlags s

/-- The reference the unit would discipline to now: 0 none, 1 PPS_IN, 2 beacons (R484). -/
def chooseRef (s : State) : Nat :=
  let pps := isSet s F.TBU_STAT_PPS_OK && isSet s F.TBU_CTL_PPS_IN_EN
  let bcn := isSet s F.TBU_STAT_BCN_OK
  let mem := isMember s
  let okPps := pps && (match getf s F.TBU_CTL_REF with
    | 0 => true
    | 1 => true
    | _ => false)
  let okBcn := bcn && mem && (match getf s F.TBU_CTL_REF with
    | 0 => true
    | 2 => true
    | _ => false)
  let used := getf s F.TBU_STAT_REF_USED
  if !s.tbu.tcxo then 0
  else if used = 1 ∧ okPps then 1
  else if used = 2 ∧ okBcn then 2
  else if okBcn then 2
  else if okPps then 1
  else 0

/-- Follow a change of the references' validity (Table 18-2). -/
def refUpdate (s : State) : State :=
  let r := chooseRef s
  let old := getf s F.TBU_STAT_REF_USED
  let s := setf s F.TBU_STAT_REF_USED r
  let s := if r ≠ old then setTbu s { s.tbu with first := true } else s
  if r ≠ 0 then
    (if tbuState s = stFree then enterState s stAcquire
     else if tbuState s = stHoldover then enterState s stRecover else s)
  else if tbuState s = stAcquire then enterState s stFree
  else if tbuState s = stLocked ∨ tbuState s = stRecover then enterState s stHoldover
  else s

/-- LOCK_NS, below 10 acts as 10. -/
def lockNs (s : State) : Nat := max 10 (getf s F.TBU_LOCK_LOCK_NS)

/-- The loop's new FREQ, within ±200 ppm (R486): how the loop steers is open (log entry 2). -/
def steer (s : State) : State :=
  wr (drawn s) R.TBU_FREQ (w32 (unsigned 32 (((freeVal s).toNat % 439804651 : Nat) - (219902325 : Int))))

/-- A value of θ from the reference in use (R486, R488, R489). -/
def theta (s : State) (th : Int) : State :=
  let s := wr s R.TBU_OFFSET (sat32 th)
  let st := tbuState s
  if st = stFree ∨ st = stHoldover then s
  else
    let first := s.tbu.first
    let s := setTbu s { s.tbu with first := false }
    if 1000000 < th.natAbs then
      let s := setTbu s { s.tbu with step := some (-th), inLock := 0 }
      if st = stLocked then enterState s stAcquire else s
    else
      let s := if first && decide (lockNs s < th.natAbs) then setTbu s { s.tbu with slew := -th * 2 ^ 40 } else steer s
      if th.natAbs ≤ lockNs s then
        let n := s.tbu.inLock + 1
        let s := setTbu s { s.tbu with inLock := n, slew := 0 }
        if 8 ≤ n ∧ st ≠ stLocked then enterState s stLocked else s
      else setTbu s { s.tbu with inLock := 0 }

/-- A step has been loaded: STEP, STEPS, TBU_LAST_STEP and device event 5 (R488). -/
def noteStep (s : State) (d : Int) : State :=
  devEvent (wr (satAdd (raise s F.TBU_EVT_STEP) F.TBU_CNT_STEPS 1) R.TBU_LAST_STEP (sat32 d)) 5

/-- The timebase starts (R483): 0 s, FREE, UNSYNC. Where TI11 has no TCXO it starts as that returns. -/
def tbuStart (s : State) : State :=
  if s.tbu.tcxo then
    let t : Tbu := { tcxo := true, run := true, pulse := s.tbu.pulse, lastPulse := s.tbu.lastPulse }
    setf (setTbu s t) F.TBU_STAT_TCXO_OK 1
  else s

/-- A reset of D10, or loss of its power: the counter stops and captures read 0 with UNSYNC; a pulse that has started runs on
(R493). -/
def tbuStop (s : State) : State :=
  setTbu s { tcxo := s.tbu.tcxo, pulse := s.tbu.pulse, lastPulse := s.tbu.lastPulse }

/-! ### TBU_STAMP (R494) -/

/-- RESULT0: seconds [47:32] and the state. -/
def stampR0 (s : State) : W32 := w32 (s.tbu.sec / 2 ^ 32 % 2 ^ 16 + tbuState s * 2 ^ 16)

/-- The TBU_STAMP with `tag` and this ACTION. -/
def stampOp (s : State) (tag action : Nat) : Option Op :=
  match opOf s tag with
  | some o => if opcodeOf o = 0x60 ∧ opFld o 4 0 2 = action ∧ o.fwd = false ∧ o.ret = none then some o else none
  | none => none

/-- TBU_STAMP_READ (R494). ACTION 3 is not listed and is refused with RANGE. -/
def execTbuStampRead (tag : Nat) (s : State) : Host.Outcome State Fault Refusal :=
  match stampOp s tag 0 with
  | some o => done (giveRet s o ⟨0, stampR0 s, rd s R.TBU_OFFSET⟩)
  | none =>
    match stampOp s tag 3 with
    | some o => done (giveRet s o ⟨0x14, stampR0 s, 0#32⟩)
    | none => done s

/-- TBU_STAMP_SET (R494, R502). -/
def execTbuStampSet (tag : Nat) (s : State) : Host.Outcome State Fault Refusal :=
  match stampOp s tag 1 with
  | none => done s
  | some o =>
    let nsw := (opWord o 5).toNat
    let sec : Nat := (opWord o 6).toNat + 2 ^ 32 * opFld o 7 0 16
    if nsw / 2 ^ 30 ≠ 0 ∨ 999999999 < nsw ∨ getf s F.TBU_STAT_REF_USED = 2 then done (giveRet s o ⟨0x14, stampR0 s, 0#32⟩)
    else
      let ns := if getf s F.TBU_STAT_REF_USED = 1 then s.tbu.ns else nsw
      let d := ((sec : Int) - (s.tbu.sec : Int)) * 1000000000 + ((ns : Int) - (s.tbu.ns : Int))
      let s := setTbu s { s.tbu with sec := sec, ns := ns, slew := 0, inLock := 0 }
      let s := noteStep s d
      done (giveRet s o ⟨0, stampR0 s, sat32 d⟩)

/-- TBU_STAMP_SLEW (R494). -/
def execTbuStampSlew (tag : Nat) (s : State) : Host.Outcome State Fault Refusal :=
  match stampOp s tag 2 with
  | none => done s
  | some o =>
    let n := signed 32 (opWord o 5).toNat
    if 1000000 < n.natAbs ∨ tbuState s = stLocked ∨ tbuState s = stRecover ∨ getf s F.TBU_STAT_REF_USED = 2 then
      done (giveRet s o ⟨0x14, stampR0 s, 0#32⟩)
    else
      let s := setTbu s { s.tbu with slew := s.tbu.slew + n * 2 ^ 40 }
      done (giveRet s o ⟨0, stampR0 s, opWord o 5⟩)

/-! ### PPS_IN -/

/-- PPS_IN_EDGE (R485, R486): an edge `sub` ns after the last TCXO edge. -/
def execPpsInEdge (falling : Bool) (sub : Nat) (s : State) : Host.Outcome State Fault Refusal :=
  if !s.tbu.run || inReset s 10 || !isSet s F.TBU_CTL_PPS_IN_EN || (isSet s F.TBU_CTL_PPS_IN_EDGE != falling) then done s
  else
    let t : Int := totalNs s + ((sub % 40 / 10 * 10 : Nat) : Int) + signed 32 (rd s R.TBU_PPS_CMP).toNat
    let valid := match s.tbu.lastEdge with
      | none => true
      | some e => decide ((t - e - 1000000000).natAbs ≤ 1000000)
    if !valid then done (raise (satAdd s F.TBU_CNT_PPS_BAD 1) F.TBU_EVT_PPS_BAD)
    else
      let second := s.tbu.lastEdge.isSome
      let sec := t / 1000000000
      let s := setTbu s { s.tbu with lastEdge := some t }
      let s := wr (wr s R.TBU_PPS_TS_NS ((stampNs s &&& 0xC0000000#32) ||| w32 (t % 1000000000).toNat)) R.TBU_PPS_TS_S (w32 sec.toNat)
      let s := if second then refUpdate (setf s F.TBU_STAT_PPS_OK 1) else s
      if second ∧ getf s F.TBU_STAT_REF_USED = 1 then
        let f := t % 1000000000
        done (theta s (if f ≤ 500000000 then f else f - 1000000000))
      else done s

/-- PPS_IN_LOSS (R485). -/
def execPpsInLoss (s : State) : Host.Outcome State Fault Refusal :=
  if isSet s F.TBU_STAT_PPS_OK || s.tbu.lastEdge.isSome then
    done (refUpdate (setf (raise (setTbu s { s.tbu with lastEdge := none }) F.TBU_EVT_PPS_LOST) F.TBU_STAT_PPS_OK 0))
  else done s

/-! ### PPS_OUT and steps -/

/-- The level of PPS_OUT during a pulse, or at rest. -/
def ppsLevel (s : State) (on : Bool) : Nat := b2n (on != isSet s F.TBU_CTL_PPS_POL)

/-- Start a pulse at a whole second, unless one started less than 0.5 s ago (R492, R493). -/
def ppsStart (s : State) : State :=
  let gate := !isSet s F.TBU_CTL_PPS_GATE || decide (tbuState s = stLocked ∨ tbuState s = stHoldover)
  if !isSet s F.TBU_CTL_PPS_OUT_EN || !gate then s
  else if s.tbu.pulse || (match s.tbu.lastPulse with | some t => decide (s.clk < t + 500000000) | none => false) then
    raise (satAdd s F.TBU_CNT2_PPS_SKIPPED 1) F.TBU_EVT_PPS_SKIP
  else
    emit (setTbu s { s.tbu with pulse := true, lastPulse := some s.clk }) (.pin .ppsOut (ppsLevel s true))

/-- WHOLE_SECOND (R488, R489, R492, R493): a pending step is loaded and sends no pulse; else a pulse may start. -/
def execWholeSecond (s : State) : Host.Outcome State Fault Refusal :=
  if !s.tbu.run then done s
  else
    let s := if tbuState s = stLocked then
        setTbu (satAdd s F.TBU_LOCK_AGE_S 1) { s.tbu with freqs := (freqOf s :: s.tbu.freqs).take 64 }
      else s
    match s.tbu.step with
    | some d => done (noteStep (loadNs (setTbu s { s.tbu with step := none, slew := 0 }) (totalNs s + d)) d)
    | none => done (ppsStart s)

/-- PPS_OUT_END (R493). -/
def execPpsOutEnd (s : State) : Host.Outcome State Fault Refusal :=
  if s.tbu.pulse then done (emit (setTbu s { s.tbu with pulse := false }) (.pin .ppsOut (ppsLevel s false))) else done s

/-- HOLD_LIMIT_EXPIRY (R490). -/
def execHoldLimitExpiry (s : State) : Host.Outcome State Fault Refusal :=
  if tbuState s = stHoldover ∧ isSet s F.TBU_LOCK_HOLD_LIMIT then done (showFlags (setTbu s { s.tbu with unsync := true }))
  else done s

/-! ### Chain time (R495 to R499) -/

/-- TIME_BEACON_SEND (R496). -/
def execTimeBeaconSend (s : State) : Host.Outcome State Fault Refusal :=
  if isHead s && isSet s F.TBU_CTL_BCN_EN && s.tbu.run then
    let q := (s.tbu.bcnSeq + 1) % 256
    let s := setTbu s { s.tbu with bcnSeq := q }
    done (sendMsg s 1 ⟨0x50, ownAddr s, toAll,
      [w32 (tbuState s * 2 ^ 16 + getf s F.TBU_STAT_HOLD * 2 ^ 19 + getf s F.TBU_STAT_UNSYNC * 2 ^ 20 + q * 2 ^ 24),
       w32 s.tbu.ns, w32 s.tbu.sec, w32 (s.tbu.sec / 2 ^ 32 % 2 ^ 16), 0#32], []⟩)
  else done s

/-- The member's link delay as a number. -/
def linkDly (s : State) : Nat := getf s F.TBU_LINK_DLY_NS

/-- TIME_BEACON (R497, R499): received on the UP port `sub` ns after a TCXO edge, with its PCRC good or not, and forwarded
after `residence` ns. -/
def execTimeBeacon (m : Msg) (good : Bool) (sub residence : Nat) (s : State) : Host.Outcome State Fault Refusal :=
  let acc := (m.w.getD 4 0#32).toNat
  let out := { m with w := m.w.set 4 (w32 (acc + linkDly s + residence)) }
  let s := if good then takeFlood s 0 m out else if portUp s 1 then queueMsg s 1 none true out else s
  if !good || !isMember s || !s.tbu.run then done s
  else
    let w0 := m.w.getD 0 0#32
    let n := s.tbu.bcns + 1
    let s := setTbu s { s.tbu with bcns := n, bcnHold := decide (extractBits w0 19 1 = 1),
                                   bcnUnsync := decide (extractBits w0 20 1 = 1) }
    let s := showFlags s
    if n < 2 then done s
    else
      let s := refUpdate (setf s F.TBU_STAT_BCN_OK 1)
      if getf s F.TBU_STAT_REF_USED = 2 then
        let sec : Nat := (m.w.getD 2 0#32).toNat + 2 ^ 32 * extractBits (m.w.getD 3 0#32) 0 16
        let ref : Int := (sec : Int) * 1000000000 + (extractBits (m.w.getD 1 0#32) 0 30 : Int) + (acc : Int) + (linkDly s : Int)
        done (theta s (totalNs s + ((sub % 40 / 10 * 10 : Nat) : Int) - ref))
      else done s

/-- BEACON_LOSS (R499). -/
def execBeaconLoss (s : State) : Host.Outcome State Fault Refusal :=
  if isSet s F.TBU_STAT_BCN_OK || decide (0 < s.tbu.bcns) then
    done (refUpdate (setf (raise (setTbu s { s.tbu with bcns := 0 }) F.TBU_EVT_BCN_LOST) F.TBU_STAT_BCN_OK 0))
  else done s

/-- DLY_REQ_DUE (R498): t1 is captured at the SOM. -/
def execDlyReqDue (s : State) : Host.Outcome State Fault Refusal :=
  if isMember s && s.tbu.run && portUp s 0 then
    let i := (s.tbu.dlyId + 1) % 256
    done (sendMsg (setTbu s { s.tbu with dlyId := i, t1 := some (totalNs s) }) 0 ⟨0x51, ownAddr s, toNext, [w32 (i * 2 ^ 8)], []⟩)
  else done s

/-- DLY_REQ (R498): the neighbour answers, with the time between the two SOMs. -/
def execDlyReq (port : Fin 2) (m : Msg) (residence : Nat) (s : State) : Host.Outcome State Fault Refusal :=
  let s := takeMsg s port.val m
  done (sendMsg s port.val ⟨0x52, ownAddr s, toNext, [m.w.getD 0 0#32 &&& 0xFF00#32, w32 residence], []⟩)

/-- DLY_RESP (R498): t4 is captured, and the link delay is the mean of the last 16 answers. -/
def execDlyResp (m : Msg) (sub : Nat) (s : State) : Host.Outcome State Fault Refusal :=
  let s := takeMsg s 0 m
  match s.tbu.t1 with
  | none => done s
  | some t1 =>
    if extractBits (m.w.getD 0 0#32) 8 8 ≠ s.tbu.dlyId then done s
    else
      let t4 := totalNs s + ((sub % 40 / 10 * 10 : Nat) : Int)
      let d := (t4 - t1 - ((m.w.getD 1 0#32).toNat : Int)) / 2 + signed 16 (getf s F.TBU_ASYM_NS)
      let ds := (d :: s.tbu.dlys).take 16
      let mean := ds.foldl (· + ·) 0 / (ds.length : Int)
      done (setf (setTbu s { s.tbu with t1 := none, dlys := ds }) F.TBU_LINK_DLY_NS (unsigned 16 mean))

/-! ### Reference clock and control -/

/-- TCXO_LOST (R500, R59): FREE, UNSYNC, and every pace counter reads 0 with VALID clear. -/
def execTcxoLost (s : State) : Host.Outcome State Fault Refusal :=
  if !s.tbu.tcxo then done s
  else
    let s := setTbu s { s.tbu with tcxo := false, unsync := true, hold := false, slew := 0, step := none }
    let s := (List.range 16).foldl (fun t r => setf (setf t (F.FAB_PACE_NOW r) 0) (F.FAB_PACE_VALID r) 0) s
    let s := if bit (getf s F.FAB_ISL_LOCK_LOCK) 11 then
        setf (setf s F.FAB_ISL_LOL_LOL (setBit (getf s F.FAB_ISL_LOL_LOL) 11)) F.FAB_ISL_LOCK_LOCK (clearBit (getf s F.FAB_ISL_LOCK_LOCK) 11)
      else s
    if s.tbu.run then
      let s := setf (setf (raise s F.TBU_EVT_TCXO_LOST) F.TBU_STAT_TCXO_OK 0) F.TBU_STAT_REF_USED 0
      done (showFlags (enterState s stFree))
    else done s

/-- TCXO_RETURN (R500): no step; the state follows from FREE. A timebase that waited for the TCXO starts. -/
def execTcxoReturn (s : State) : Host.Outcome State Fault Refusal :=
  if s.tbu.tcxo then done s
  else
    let s := setTbu s { s.tbu with tcxo := true }
    let s := if bit s.pwr.groups 2 then setf s F.FAB_ISL_LOCK_LOCK (setBit (getf s F.FAB_ISL_LOCK_LOCK) 11) else s
    if s.tbu.run then done (refUpdate (setf s F.TBU_STAT_TCXO_OK 1))
    else if bit s.pwr.groups 2 && !inReset s 10 then done (tbuStart s)
    else done s

/-- TBU_CTL_WRITE (R484, R487): REF = 3 sends the timebase to FREE. -/
def execTbuCtlWrite (data : W32) (s : State) : Host.Outcome State Fault Refusal :=
  if regAway s R.TBU_CTL then done s
  else
    let s := wr s R.TBU_CTL (data &&& 0x01FF0FFF#32)
    if getf s F.TBU_CTL_REF = 3 then done (enterState (setf s F.TBU_STAT_REF_USED 0) stFree)
    else done (refUpdate s)

end Sys2Proof.Machine
end

