-- ==== Sys2Proof/Machine/Start.lean ====
section
/-! DEFINITION. The staged start (03_power_and_staged_start.md), the boot path, the configuration of the fabric, the start-up
sequence and the end of a handover (06_configuration_planes_and_handover.md), as shared operations. -/
namespace Sys2Proof.Machine

def setPwr (s : State) (p : Pwr) : State := { s with pwr := p }
def setFab (s : State) (f : Fab) : State := { s with fab := f }
def setBoot (s : State) (b : Boot) : State := { s with boot := b }

/-- Recovery mode (R89). -/
def recovery (s : State) : Bool := isSet s F.PWR_STAT_RECOVERY

/-! ### Planes -/

/-- `n` bytes of plane `p` from offset `o`. -/
def planeRead (s : State) (p o : Nat) : Nat → List Byte
  | 0 => []
  | n + 1 => planeByte s (p * 0x800000 + o) :: planeRead s p (o + 1) n

/-- The image in plane `p`: as many bytes as its header declares, the header alone where that is in error. -/
def planeImage (s : State) (p : Nat) : List Byte :=
  let h := planeRead s p 0 512
  if headerErr false h then h else planeRead s p 0 (imgLen h)

/-- The VALID marks (R141): CFG_STAT.VALID and the copy in CFG_PLANE_x, with FRAME_CNT. -/
def planeValid (s : State) (p : Nat) : Bool := bit (getf s F.CFG_STAT_VALID) p

def setValid (s : State) (p : Nat) (v : Bool) : State :=
  let m := getf s F.CFG_STAT_VALID
  let s := setf s F.CFG_STAT_VALID (if v then setBit m p else clearBit m p)
  setf (setf s (F.CFG_PLANE_VALID p) (b2n v)) (F.CFG_PLANE_FRAME_CNT p) (if v then imgFrameCnt (planeRead s p 0 512) else 0)

/-! ### Groups and regions -/

/-- The domains that an S3 group releases (Table 3-5, Table 4-1). -/
def groupDoms (g : Nat) : List Nat :=
  match g with
  | 1 => [4, 5, 9]
  | 2 => [10, 20, 23]
  | 3 => [0, 1]
  | 4 => [2, 3]
  | 5 => [7, 8]
  | 6 => [6, 22]
  | _ => []

/-- System islands whose clock source comes with a group (Table 2-3). -/
def groupIslands (g : Nat) : Nat :=
  match g with
  | 2 => 2 ^ 11
  | 3 => 2 ^ 0
  | 4 => 2 ^ 1 + 2 ^ 2 + 2 ^ 3
  | 5 => 2 ^ 6 + 2 ^ 12
  | 6 => 2 ^ 7 + 2 ^ 8 + 2 ^ 9 + 2 ^ 10
  | _ => 0

/-- What starts with a domain's release: the timebase (R483) and Kite's boot ROM (R551). -/
def releaseHook (s : State) (d : Nat) : State :=
  if d = 10 then tbuStart s else if d = 20 then kiteBoot s else s

/-- A domain is powered and released from reset; one in service stays so (the chain ports of a warm restart, R110). -/
def release1 (s : State) (d : Nat) : State :=
  if (dom s d).powered && !inReset s d then s else releaseHook (releaseDom s d) d

/-- Drive BYP_N as ENU_CTL.BYPASS and G4 say (R351). -/
def driveByp (s : State) : State :=
  let v := b2n (bit s.pwr.groups 4 && !isSet s F.ENU_CTL_BYPASS)
  if s.pwr.byp = some v then s else emit (setPwr s { s.pwr with byp := some v }) (.pin .bypN v)

/-- From G5 on CAN and LIN transmit pins are recessive, and Osprey's outputs are low (R420, R455). -/
def g5Pins (s : State) : State :=
  let s := (List.range 16).foldl (fun t n => emit (emit t (.pin (.canTxd n) 1)) (.pin (.linTxd n) 1)) s
  emit (emit (emit s (.pin .ospTxen 0)) (.pin .ospRxen 0)) (.pin .ospGain 0)

/-- An S3 group is powered: its domains are released. -/
def powerGroup (s : State) (g : Nat) : State :=
  let s := setPwr s { s.pwr with groups := setBit s.pwr.groups g, gdone := setBit s.pwr.gdone g, gq := s.pwr.gq.filter (fun k => k != g) }
  let s := setf s F.PWR_STAT_GROUP (((List.range 7).filter (fun k => bit s.pwr.gdone k)).length)
  let s := setf s F.FAB_ISL_LOCK_LOCK (getf s F.FAB_ISL_LOCK_LOCK ||| groupIslands g)
  let s := if g = 4 then driveByp s else if g = 5 then g5Pins s else s
  let s := (groupDoms g).foldl release1 s
  if g = 2 then alarmUpdate s else s

/-- Initial trim of a region (R50): its tap settings are its own, free values. -/
def initialTrim (s : State) (r : Nat) : State :=
  drawn (setFab s { s.fab with taps := sput r (freeVal s) s.fab.taps })

/-- Power region `r` and trim it. -/
def regionOn (s : State) (r : Nat) : State :=
  initialTrim (setf s F.FAB_STAT_RGN_ON (setBit (getf s F.FAB_STAT_RGN_ON) r)) r

/-- Power region `r` down: its pace counter reads 0 with VALID clear (R47). -/
def regionOff (s : State) (r : Nat) : State :=
  let s := setf s F.FAB_STAT_RGN_ON (clearBit (getf s F.FAB_STAT_RGN_ON) r)
  let s := setf (setf s (F.FAB_PACE_NOW r) 0) (F.FAB_PACE_VALID r) 0
  setFab s { s.fab with taps := sdel r s.fab.taps, alerts := clearBit s.fab.alerts r }

/-- Regions 0 to 15 of a mask. -/
def regions (m : Nat) : List Nat := (List.range 16).filter (fun r => bit m r)

/-- The S4 waves that a set of regions needs. -/
def wavesFor (m : Nat) : List Nat := (List.range 8).filter (fun w => bit m (2 * w) || bit m (2 * w + 1))

/-- WAVE: the waves completed or skipped while `q` remain. -/
def showWave (s : State) (q : List Nat) : State := setf s F.PWR_STAT_WAVE (q.headD 8)

/-! ### Grant point (R95) -/

/-- The grant stage of this start: 3 in recovery, else POINT as latched. -/
def grantStage (s : State) : Nat := if recovery s then 3 else s.pwr.point

/-- A stage ends: 1 to 3 the stages S1 to S3, 4 user mode. -/
def stageEnds (s : State) (n : Nat) : State :=
  if grantStage s = n then setPwr s { s.pwr with pointReached := true } else s

/-- Drive PWRGRANT_OUT. -/
def driveGrant (s : State) (v : Nat) : State := emit (setf s F.PWR_STAT_GRANT_OUT v) (.pin .pwrgrantOut v)

/-! ### IDLE entry (R99) -/

/-- IDLE entry begins: the fabric is fenced with its drain window; an unconfigured fabric has no region to gate. -/
def beginIdle (s : State) : State :=
  let s := setPwr s { s.pwr with targetPend := none }
  if s.fab.image = [] then setf (setPwr s { s.pwr with stage := .idle }) F.PWR_STAT_STATE 2
  else closeFence (setf (setPwr s { s.pwr with stage := .idleEntry }) F.PWR_STAT_BUSY 1) 11 7 (rstDrain s)

/-! ### End of the start -/

/-- µs since a moment of the model's time. -/
def usSince (s : State) (t : Nat) : Nat := (s.clk - t) / 1000

/-- User mode or recovery mode is reached: RUN, STAGE 6, the duration of the start (Table 3-21). -/
def finishStart (s : State) : State :=
  let s := setPwr s { s.pwr with stage := .run, warm := 0 }
  let s := stageEnds s 4
  let s := setf (setf s F.PWR_STAT_STATE 1) F.PWR_STAT_STAGE 6
  let s := setf s F.PWR_START_TIME_US (min 0xFFFFFF (usSince s s.pwr.begun - getf s F.PWR_GRANT_WAIT_US))
  if s.pwr.targetPend = some 1 then beginIdle s else s

/-! ### The end of a handover (R161 steps 11 and 12) -/

/-- The banks a handover named in RETAIN. -/
def hoBanks (h : Ho) : List Nat := h.retain

/-- Completion of a handover with a status: fences released, counters, event bit 8 (Table 6-20). -/
def hoFinish (s : State) (h : Ho) (status : Nat) : State :=
  let us := min 0xFFFFFF (usSince s h.started)
  let s := releaseHolder s 11 8
  let s := (hoBanks h).foldl (fun t n => releaseHolder t (12 + n) 8) s
  let s := if status = 0 then satAdd s F.CFG_HO_CNT_DONE 1 else s
  let s := if h.unconf && status == 0 then setf s F.PWR_STAT_RECOVERY 0 else s
  let s := setf (setf (setf s F.CFG_STAT_OP 0) F.CFG_STAT_OP_PLANE 0) F.CFG_HO_LAST_US us
  let r1 := getf s F.CFG_STAT_ACTIVE + 2 * b2n (h.persist && status == 0) + 4 * b2n h.rolled + h.reason * 2 ^ 8 + h.aborted % 2 ^ 16 * 2 ^ 16
  let s := match opOf s h.tag with
    | some o => giveRet s o ⟨status, w32 us, w32 r1⟩
    | none => s
  let s := bstFinish (askAllPending (devEvent { s with ho := none } 8))
  if s.pwr.targetPend = some 1 ∧ s.pwr.stage = .run then beginIdle s else s

/-- Steps 11 and 12, after the start-up sequence. -/
def hoAfterSeq (s : State) : State :=
  match s.ho with
  | none => s
  | some h =>
    let s := if h.persist && !h.rolled && h.reason == 0 then setf s F.CFG_STAT_BOOT h.plane else s
    let s := askPending { s with ho := some { h with step := 11 } } 11
    hoFinish s { h with step := 12 } (if h.reason = 0 then 0 else 0x21)

/-! ### Start-up sequence (R152 to R154) -/

/-- The entry being run. -/
def seqEntry (s : State) : W32 :=
  let i := getf s F.CFG_SEQ_STAT_INDEX
  imgStart s.fab.image i

/-- A trim window begins (R52, R53): it counts, and each powered region has its steps before it. -/
def trimBegin (s : State) : State :=
  setFab (satAdd s F.FAB_TRIM_STAT_WINDOWS 1) { s.fab with trim := 2, steps := [] }

/-- The sequence and its delays are complete: D11 is ready, and what ran it goes on. -/
def seqDone (s : State) : State :=
  let s := setf (setFab s { s.fab with seqPh := 0 }) F.CFG_SEQ_STAT_DONE 1
  let s := setf s F.FAB_STAT_STATE 2
  match s.fab.seqFor with
  | 0 => finishStart (trimBegin (domainReady s 11))
  | 1 => s
  | 2 => hoAfterSeq (trimBegin s)
  | _ => bstFinish (trimBegin (domainReady s 11))

/-- Run from the present entry: WAIT takes no time of its own, END ends the table, so that INDEX keeps the last entry run. -/
def seqGo (s : State) : Nat → State
  | 0 => seqDone s
  | fuel + 1 =>
    let w := seqEntry s
    let k := stStep w
    if k = 0 then seqDone (setf s F.CFG_SEQ_STAT_INDEX (getf s F.CFG_SEQ_STAT_INDEX - 1))
    else if k = 5 then
      if stDelay w = 0 then
        (if getf s F.CFG_SEQ_STAT_INDEX = 7 then seqDone s
         else seqGo (setf s F.CFG_SEQ_STAT_INDEX (getf s F.CFG_SEQ_STAT_INDEX + 1)) fuel)
      else setFab s { s.fab with seqPh := 2 }
    else setFab s { s.fab with seqPh := 1 }

/-- The next entry. -/
def seqNext (s : State) : State :=
  let i := getf s F.CFG_SEQ_STAT_INDEX
  if i = 7 then seqDone s else seqGo (setf s F.CFG_SEQ_STAT_INDEX (i + 1)) 8

/-- A step has completed: its STEPS bit, and its DELAY. -/
def seqStepDone (s : State) : State :=
  let w := seqEntry s
  let s := setf s F.CFG_SEQ_STAT_STEPS (setBit (getf s F.CFG_SEQ_STAT_STEPS) (stStep w - 1))
  if stDelay w = 0 then seqNext s else setFab s { s.fab with seqPh := 2 }

/-- The sequence begins (`who`: 0 staged start, 1 IDLE exit, 2 handover, 3 reset of D11). -/
def seqBegin (s : State) (who : Nat) : State :=
  let s := setf (setf (setf s F.CFG_SEQ_STAT_INDEX 0) F.CFG_SEQ_STAT_DONE 0) F.CFG_SEQ_STAT_STEPS 0
  seqGo (setf (setFab s { s.fab with seqFor := who }) F.FAB_STAT_STATE 1) 8

/-- The user islands that LOCK waits for (R153). -/
def lockIslands (s : State) : Nat :=
  (List.range 11).foldl (fun m i => if islUsed s.fab.image s.fab.glob (14 + i) then setBit m (14 + i) else m) 0

/-- User islands lock: LOCK bits and clocks. -/
def lockSet (s : State) (m : Nat) : State :=
  setFab (setf s F.FAB_ISL_LOCK_LOCK (getf s F.FAB_ISL_LOCK_LOCK ||| m)) { s.fab with clocks := s.fab.clocks ||| m }

/-- The present step of the sequence is `k`. -/
def atStep (s : State) (k : Nat) : Bool := decide (s.fab.seqPh = 1) && decide (stStep (seqEntry s) = k)

/-- IDLE exit begins (R99): S4 waves with initial trim, then the start-up steps; an unconfigured fabric has none. -/
def beginRun (s : State) : State :=
  let s := setPwr s { s.pwr with targetPend := none }
  if s.fab.image = [] then setf (setPwr s { s.pwr with stage := .run }) F.PWR_STAT_STATE 1
  else
    let q := wavesFor (usedRegions s.fab.image)
    let s := setf (setPwr s { s.pwr with stage := .idleExit, wq := q }) F.PWR_STAT_BUSY 1
    if q = [] then seqBegin s 1 else s

/-- A RUN request that waited for the entry to IDLE or for a handover in IDLE goes on. -/
def idleNext (s : State) : State :=
  if s.ho.isNone && decide (s.pwr.stage = .idle) && decide (s.pwr.targetPend = some 0) then beginRun s else s

/-! ### Configuration of the fabric -/

/-- Registers that a configuration loads from the header (Tables 5-5 to 5-7, R131). -/
def loadHeader (s : State) (img : List Byte) (glob : Nat) : State :=
  let s := setf s F.PWR_BANK_DEF_ON (imgBankOn img)
  let s := setf s F.FAB_PACE_FACTOR_FACTOR (if paceOk img then imgPace img else 0)
  let s := (List.range 32).foldl (fun t i =>
    setf (setf t (F.FAB_SOCK_EN i) (b2n (bit (imgSockEn img) i))) (F.FAB_SOCK_CALL_EN i) (b2n (bit (imgSockCall img) i))) s
  let s := wr s R.FAB_ISL_ERR (w32 (islErrMask img glob))
  setFab s { s.fab with image := if paceOk img then img else [], glob := glob }

/-- The write-protect bits and the execute-only table of a start (R210). -/
def loadNvMaps (s : State) (img : List Byte) : State :=
  let s := (List.range 64).foldl (fun t i => wr t (R.NVA_WP_SET i) (imgWp img i)) s
  let s := (List.range 4).foldl (fun t e => wr t (R.NVA_XO e) (imgXo img e)) s
  setf s F.NVA_WP_LOCK_LOCK 0

/-- A start that ends in recovery loads no header: every bit is 1, no execute-only region (R210). -/
def noNvMaps (s : State) : State :=
  let s := (List.range 64).foldl (fun t i => wr t (R.NVA_WP_SET i) 0xFFFFFFFF#32) s
  let s := (List.range 4).foldl (fun t e => wr t (R.NVA_XO e) 0#32) s
  setf s F.NVA_WP_LOCK_LOCK 0

/-- Show from where the fabric is configured: a plane, or the depot or the chain. -/
def showSource (s : State) (img : List Byte) (src : Nat) : State :=
  setf (setf s F.CFG_STAT_ACTIVE (if src < 2 then src else 0)) F.CFG_STAT_SRC_PLANE (b2n (decide (src < 2) && paceOk img))

/-- The fabric holds no image (R147): cells and fabric RAM cleared. -/
def clearFabric (s : State) : State :=
  let s := setf (setFab s { s.fab with image := [], glob := 0 }) F.FAB_STAT_STATE 0
  setf (setf s F.CFG_STAT_SRC_PLANE 0) F.FAB_PACE_FACTOR_FACTOR 0

/-! ### Stages S4 to S2 -/

/-- S4 begins, or an unstarted fabric leaves the start at once (R131). -/
def startS4 (s : State) : State :=
  let s := setf (setPwr s { s.pwr with stage := .s4 }) F.PWR_STAT_STAGE 4
  if s.fab.image = [] then finishStart (showWave s [])
  else
    let q := wavesFor (usedRegions s.fab.image)
    let s := release1 (showWave (setPwr s { s.pwr with wq := q }) q) 11
    if q = [] then seqBegin (setf (setPwr s { s.pwr with stage := .seq }) F.PWR_STAT_STAGE 5) 0 else s

/-- S3 ends. -/
def endS3 (s : State) : State :=
  let s := stageEnds s 3
  if recovery s then finishStart s else startS4 s

/-- S3 begins with the groups still to be powered; recovery powers G2 alone (R89). -/
def startS3 (s : State) : State :=
  let s := setf (setPwr s { s.pwr with stage := .s3 }) F.PWR_STAT_STAGE 3
  let q := ((if recovery s then [2] else [1, 2, 3, 4, 5, 6]) : List Nat).filter (fun g => !bit s.pwr.gdone g)
  let s := setPwr s { s.pwr with gq := q }
  if q = [] then endS3 s else s

/-- The start-up marches that the image asks for run one after another; then S3. -/
def marchOrS3 (s : State) : State :=
  match s.pwr.mq with
  | [] => startS3 s
  | n :: _ => startMarch s n (if imgMarchPreserve s.fab.image then 2 else 1) none

/-- S2 ends. -/
def endS2 (s : State) : State := marchOrS3 (stageEnds s 2)

/-- Banks that S2 powers: those of BANK_DEF and BANK0 and BANK1, and those in RETAIN (R105); a bank ON is skipped. -/
def banksToPower (s : State) : List Nat :=
  (List.range 8).filter (fun n => (bank s n).st ≠ 1 && (bit (getf s F.PWR_BANK_DEF_ON ||| 3) n || (bank s n).st == 2))

/-- S2 begins: the bank domains come out of reset; the banks follow one at a time. -/
def startS2 (s : State) : State :=
  let s := setf (setPwr s { s.pwr with stage := .s2 }) F.PWR_STAT_STAGE 2
  let s := (List.range 8).foldl (fun t n => domainReady (releaseDom t (12 + n)) (12 + n)) s
  let q := banksToPower s
  let s := setPwr s { s.pwr with bq := q }
  if q = [] then endS2 s else s

/-- S1 ends. -/
def endS1 (s : State) : State := startS2 (stageEnds s 1)

/-! ### Boot path (R147 to R151) -/

/-- The sources of Table 6-1 for CFGSRC, in order; the chain stream is followed by the own depot (R190). -/
def bootPath (s : State) : List Nat :=
  let b := getf s F.CFG_STAT_BOOT
  match s.pwr.cfgsrc with
  | 0 => [b, 1 - b, 2, 3]
  | 1 => [4, 2, 3]
  | 2 => [2, 3]
  | _ => []

/-- Record a failed attempt: CFG_BOOT_LOG, and BOOT_FAILS of a plane that was read. -/
def recordFail (s : State) (src reason : Nat) : State :=
  let n := getf s F.CFG_BOOT_LOG_FAILS
  let s := if n < 4 then
      wr s R.CFG_BOOT_LOG (insertBits (rd s R.CFG_BOOT_LOG) (8 + 6 * n) 6 (src + 8 * reason)) else s
  let s := setf s F.CFG_BOOT_LOG_FAILS (min 4 (n + 1))
  if src < 2 ∧ reason ≠ 5 then satAdd s (F.CFG_PLANE_BOOT_FAILS src) 1 else s

/-- The path ends in recovery (R89, R150). -/
def enterRecovery (s : State) : State :=
  let s := clearFabric (setBoot s {})
  let s := setf (setf s F.PWR_STAT_RECOVERY 1) F.CFG_BOOT_LOG_FINAL 5
  let s := noNvMaps (setf (setf s F.PWR_BANK_DEF_ON 3) F.CFG_STAT_OP 0)
  let q := [1, 3, 4].filter (fun g => !bit s.pwr.gdone g)
  let s := setPwr s { s.pwr with gq := q, mq := [] }
  if q = [] then endS1 s else s

/-- Ask the head for an image (R191): once the UP port is in UP. -/
def sendImageReq (s : State) : State :=
  if s.load.waiting && portUp s 0 && decide (s.load.reqs < 3) then
    let n := s.load.reqs + 1
    sendMsg { s with load := { s.load with reqs := n } } 0
      ⟨0x40, ownAddr s, 0, [0#32, Config.dieLo, Config.dieHi, 0#32], []⟩
  else s

/-- A chain try begins (R190). -/
def chainTry (s : State) : State :=
  sendImageReq { s with load := { s.load with waiting := true, reqs := 0, acked := false, joined := false, matched := false, taken := false,
                                              image := [], tries := s.load.tries + 1 } }

/-- Try the sources of the path in order (R148, R149). -/
def tryBoot (s : State) : List Nat → State
  | [] => enterRecovery s
  | src :: t =>
    if src < 2 then
      if planeValid s src then setf (setBoot s { path := src :: t, run := true }) F.CFG_STAT_OP_PLANE src
      else tryBoot (recordFail s src 5) t
    else if src = 4 then
      if s.pwr.headEn then tryBoot (recordFail s 4 6) t
      else chainTry (setBoot { s with load := { s.load with tries := 0 } } { path := src :: t, run := true })
    else
      let s := setBoot s { path := src :: t, run := true }
      if !s.dep.discovered then s
      else if depotUsable s then bootJob s src
      else setBoot s { path := src :: t, run := true, bad := some 6 }

/-- Readout of the configuration source begins. -/
def beginReadout (s : State) : State :=
  let s := setf (wr (setPwr s { s.pwr with stage := .readout }) R.CFG_BOOT_LOG 0#32) F.CFG_STAT_OP 3
  tryBoot (clearFabric s) (bootPath s)

/-- The bytes that the source being read has delivered. -/
def bootImage (s : State) : List Byte :=
  match s.boot.path with
  | src :: _ => if src < 2 then planeImage s src else if src = 4 then s.load.image else s.boot.buf
  | [] => []

/-- Why the source being read fails, or 0 (Table 5-10, Table 6-2). -/
def bootReason (s : State) : Nat :=
  match s.boot.bad, s.boot.path with
  | some r, _ => r
  | none, src :: _ => imageReason (decide (2 ≤ src)) (bootImage s)
  | none, [] => 6

/-- The source's readout can be judged: a plane at any time, a depot slot or a chain image once it has been read. -/
def bootReady (s : State) : Bool :=
  s.boot.run && (match s.boot.path with
    | src :: _ => decide (src < 2) || s.boot.bad.isSome || (decide (src = 4) && s.load.taken) || (decide (src ≠ 4) && decide (s.boot.buf ≠ []))
    | [] => false)

/-- The source fails; the next one of the path is tried. -/
def bootFail (s : State) (reason : Nat) : State :=
  match s.boot.path with
  | [] => s
  | src :: t =>
    let s := { s with load := { s.load with waiting := false } }
    tryBoot (clearFabric (recordFail (setBoot s {}) src reason)) t

/-- A chain try ends (R190): another round of up to three, or the source fails with the reason of its last try. -/
def chainTryEnd (s : State) (reason : Nat) (last : Bool) : State :=
  if s.load.tries < 3 ∧ last = false then chainTry (clearFabric s) else bootFail s reason

/-- The chain is the source being tried. -/
def chainBoot (s : State) : Bool := s.boot.run && s.boot.path.head? == some 4

/-- BOOT_SOURCE_FAIL (R147, R149, R151). -/
def execBootSourceFail (s : State) : Host.Outcome State Fault Refusal :=
  if bootReady s && bootReason s ≠ 0 then
    done (if chainBoot s then chainTryEnd s (bootReason s) false else bootFail s (bootReason s))
  else done s

/-- The unit is configured from a source that passed every check. -/
def configure (s : State) (img : List Byte) (src glob : Nat) : State :=
  let s := loadNvMaps (showSource (loadHeader s img glob) img src) img
  let s := setf (setf s F.CFG_BOOT_LOG_FINAL src) F.CFG_STAT_OP 0
  let mq := if paceOk img then (List.range 8).filter (fun n => bit (imgMarch img) n) else []
  setPwr { s with boot := {}, load := { s.load with waiting := false } } { s.pwr with mq := mq }

/-- BOOT_READOUT_DONE (R146, R148): every check passes; `glob` are the user islands whose gates in the GLOBAL frames, whose
layout is not published, are out of range (R64). -/
def execBootReadoutDone (glob : Nat) (s : State) : Host.Outcome State Fault Refusal :=
  if bootReady s && bootReason s = 0 then
    match s.boot.path with
    | src :: _ => done (endS1 (configure s (bootImage s) src glob))
    | [] => done s
  else done s

/-! ### The commands of S0 to S4 -/

/-- S1 begins: the grant has been given (R93, R94, R96). -/
def enterS1 (s : State) : State :=
  let s := setf s F.PWR_GRANT_WAIT_US (min 0xFFFFFF (usSince s s.pwr.waitFrom))
  let p := getf s F.PWR_GRANT_CTL_POINT
  let s := setPwr s { s.pwr with stage := .s1, point := if 1 ≤ p ∧ p ≤ 4 then p else 3, pointReached := false, gdone := 0, bq := [], mq := [],
                                 gq := [], wq := [] }
  setf (setf (setf (setf s F.PWR_STAT_STAGE 1) F.PWR_STAT_GROUP 0) F.PWR_STAT_WAVE 0) F.PWR_STAT_RECOVERY 0

/-- S0_COMPLETE (R87, R93, R94): HEAD_EN and CFGSRC as sampled; a unit with TEST_EN stays in S0 (R595). The UNIT_RESET entry of a
restart is logged as the unit leaves S0. -/
def execS0Complete (headEn : Bool) (cfgsrc : Fin 4) (testEn : Bool) (s : State) : Host.Outcome State Fault Refusal :=
  if s.pwr.stage ≠ .s0 ∨ s.pwr.test then done s
  else if testEn then done (setPwr s { s.pwr with test := true })
  else
    let s := setPwr s { s.pwr with headEn := headEn, cfgsrc := cfgsrc.val, stage := .grantWait, waitFrom := s.clk }
    let s := setf (setf s F.PWR_STAT_SELF_GRANT (b2n headEn)) F.CFG_STAT_CFGSRC cfgsrc.val
    let s := match s.pwr.logDue with
      | some src => logEvent (setPwr s { s.pwr with logDue := none }) 31 6 src 0 0
      | none => s
    done (if headEn then enterS1 s else s)

/-- PWRGRANT_IN_HIGH (R93): examined only while the unit waits in S0. -/
def execPwrgrantInHigh (s : State) : Host.Outcome State Fault Refusal :=
  let s := setf s F.PWR_STAT_GRANT_IN 1
  if s.pwr.stage = .grantWait then done (enterS1 s) else done s

/-- GRANT_TIMEOUT (R96). -/
def execGrantTimeout (s : State) : Host.Outcome State Fault Refusal :=
  if s.pwr.stage = .grantWait ∧ isSet s F.PWR_GRANT_CTL_TIMEOUT then done (raise (enterS1 s) F.PWR_EVT_GRANT_TO) else done s

/-- MGMT_GROUP_POWERED (R89, R90): D21 is in service; with CFGSRC 01 and 11 the groups G1, G3 and G4 follow before readout. -/
def execMgmtGroupPowered (s : State) : Host.Outcome State Fault Refusal :=
  if s.pwr.stage ≠ .s1 ∨ s.pwr.gq ≠ [] then done s
  else
    let s := domainReady (releaseDom s 21) 21
    let s := setf s F.FAB_ISL_LOCK_LOCK (setBit (getf s F.FAB_ISL_LOCK_LOCK) 4)
    if s.pwr.cfgsrc = 1 ∨ s.pwr.cfgsrc = 3 then done (setPwr s { s.pwr with gq := [1, 3, 4] }) else done (beginReadout s)

/-- S2_BANK_POWERED (R87, R105): the next bank of S2 is ON. -/
def execS2BankPowered (s : State) : Host.Outcome State Fault Refusal :=
  match s.pwr.bq with
  | [] => done s
  | n :: t =>
    if s.pwr.stage ≠ .s2 then done s
    else
      let s := stepDone (setBank s n { bank s n with target := 1, before := (bank s n).st, forOp := none }) n
      let s := setPwr s { s.pwr with bq := t }
      done (if t = [] then endS2 s else s)

/-- S3_GROUP_POWERED (R87, R89): the next group is powered, in S3, or in S1 for CFGSRC 01 and 11 and in recovery, or for a handover
out of recovery (R166). -/
def execS3GroupPowered (s : State) : Host.Outcome State Fault Refusal :=
  match s.pwr.gq with
  | [] => done s
  | g :: t =>
    let s := powerGroup s g
    if t ≠ [] then done s
    else match s.pwr.stage with
      | .s1 => done (beginReadout s)
      | .readout => done (endS1 s)
      | .s3 => done (endS3 s)
      | _ => done s

/-- A wave is powered and trimmed: its regions that the image uses. -/
def waveOn (s : State) (w : Nat) : State :=
  let u := usedRegions s.fab.image
  ([2 * w, 2 * w + 1].filter (fun r => bit u r && !bit (getf s F.FAB_STAT_RGN_ON) r)).foldl regionOn s

/-- GRANT_POINT (R95): 750 µs after S1 began have passed, and the stage of POINT has been reached. -/
def execGrantPoint (s : State) : Host.Outcome State Fault Refusal :=
  if s.pwr.pointReached ∧ isSet s F.PWR_STAT_GRANT_OUT = false ∧ s.pwr.stage ≠ .hold ∧ s.pwr.stage ≠ .sleep then done (driveGrant s 1)
  else done s

/-- MARCH_DONE (R241 to R243, R246): a march ends; after a march of the start the next one, or S3, follows. -/
def execMarchDone (n : Fin 8) (faults element addr : Nat) (bits : List W32) (shadow : Bool) (s : State) :
    Host.Outcome State Fault Refusal :=
  let atStart := decide ((bank s n.val).march ≠ 0) && (bank s n.val).marchOp.isNone && decide (s.pwr.stage = .s2)
  let t := marchDone n faults element addr bits shadow s
  if atStart then done (marchOrS3 (setPwr t { t.pwr with mq := t.pwr.mq.filter (fun k => k != n.val) })) else done t

end Sys2Proof.Machine
end

