-- ==== Sys2Proof/Machine/Cfg.lean ====
section
/-! DEFINITION. CFG_STAGE and CFG_HANDOVER (06_configuration_planes_and_handover.md). -/
namespace Sys2Proof.Machine

/-- The configuration service takes up its oldest operation, one at a time (R159): this one, when it is its turn. -/
def cfgTurn (s : State) (tag code : Nat) : Option Op :=
  if getf s F.CFG_STAT_OP ≠ 0 then none
  else match s.ops.find? (fun o => (opcodeOf o == 0x70 || opcodeOf o == 0x71) && !o.fwd && o.ret == none) with
    | some o => if o.tag = tag ∧ opcodeOf o = code then some o else none
    | none => none

/-- The fabric is configured from plane `p`. -/
def activePlane (s : State) (p : Nat) : Bool := isSet s F.CFG_STAT_SRC_PLANE && decide (getf s F.CFG_STAT_ACTIVE = p)

/-! ### CFG_STAGE (R155 to R158) -/

def stPlane (o : Op) : Nat := opFld o 6 0 1
def stKind (o : Op) : Nat := opFld o 6 4 2

/-- The stage's answer: result words of Table 6-4. -/
def stageRet (s : State) (plane frames status reason : Nat) : Ret :=
  ⟨status, rd s (R.CFG_WEAR plane), w32 (frames % 2 ^ 11 + reason * 2 ^ 16)⟩

/-- The stage ends: the service is free, a depot read of its source ends. -/
def stageEnd (s : State) (g : Stage) (status reason : Nat) : State :=
  let s := setf (setf { s with stage := none } F.CFG_STAT_OP 0) F.CFG_STAT_OP_PLANE 0
  let s := setDep s { s.dep with jobs := s.dep.jobs.filter (fun j => j.kind != 3) }
  let s := serveJobs s (s.dep.jobs.length + 1)
  match opOf s g.tag with
  | some o => giveRet s o (stageRet s g.plane g.frames status reason)
  | none => s

/-- `n` bytes from offset `off` of the stage's source: what the host or the head answered, the bank's bytes, or the slot's. -/
def stageBytes (s : State) (o : Op) (off n : Nat) (got : ReadEnd) : Option (List Byte) :=
  match stKind o with
  | 0 => (match got with | .ok d => if d.length = n then some d else none | .failed => none)
  | 1 => let r := readBytes s n ((opWord o 4).toNat + off); if r.2.isNone then some r.1 else none
  | k =>
    match slotOfKind s (k - 1) with
    | none => none
    | some i => if depotUsable s ∧ off + n ≤ slotLen s i then
        (let d := spanRead s i off n; if d.length = n then some d else none) else none

/-- The source range of a D-space stage lies in BANK5 to BANK7 (Table 6-4). -/
def stageRangeOk (o : Op) : Bool :=
  let a := (opWord o 4).toNat
  decide (stKind o ≠ 1) || (decide (0x500000 ≤ a) && decide (a + dLength o.words ≤ 0x800000))

/-- Move the BOOT mark off the target (R156 step 4). -/
def moveBoot (s : State) (p : Nat) : State :=
  if getf s F.CFG_STAT_BOOT ≠ p then s
  else if isSet s F.CFG_STAT_SRC_PLANE then setf s F.CFG_STAT_BOOT (getf s F.CFG_STAT_ACTIVE)
  else if planeValid s (1 - p) then setf s F.CFG_STAT_BOOT (1 - p)
  else s

/-- CFG_STAGE (R156): steps 1 to 5; `hdr` is the header as host memory answers it. -/
def execCfgStage (tag : Nat) (hdr : ReadEnd) (s : State) : Host.Outcome State Fault Refusal :=
  match cfgTurn s tag 0x70 with
  | none => done s
  | some o =>
    let p := stPlane o
    let wear := getf s (F.CFG_WEAR_WEAR p)
    let ovr := isSet s F.CFG_CTL_WEAR_OVERRIDE && factoryState s
    if activePlane s p ∨ stageRangeOk o = false then done (giveRet s o (stageRet s p 0 0x14 0))
    else if 1000000 ≤ wear ∧ ovr = false then done (giveRet s o (stageRet s p 0 0x41 0))
    else match stageBytes s o 0 512 hdr with
      | none => done (giveRet s o (stageRet s p 0 (hostFail s) 6))
      | some h =>
        if headerErr true h ∨ imgLen h ≠ dLength o.words then done (giveRet s o (stageRet s p 0 0x14 1))
        else if identityOk h = false then done (giveRet s o (stageRet s p 0 0x14 2))
        else
          let s := setValid (moveBoot (setOp s { o with started := true }) p) p false
          let s := setf (satAdd s (F.CFG_WEAR_WEAR p) 1) (F.CFG_PLANE_BOOT_FAILS p) 0
          let s := planeClear s p (planeFillOf s p / 2 * 2 + 1)
          let s := setf (setf s F.CFG_STAT_OP 1) F.CFG_STAT_OP_PLANE p
          let s := { s with stage := some { tag := tag, plane := p, ph := 1, buf := h, note := decide (1000000 ≤ wear) } }
          if 2 ≤ stKind o then
            done (addJob s { kind := 3, op := none, slot := (slotOfKind s (stKind o - 1)).getD 0 })
          else done s

/-- CFG_STAGE_ERASE_DONE (R158): the plane is erased; the header is programmed first. -/
def execCfgStageEraseDone (s : State) : Host.Outcome State Fault Refusal :=
  match s.stage with
  | none => done s
  | some g =>
    if g.ph ≠ 1 then done s
    else
      let s := planeClear s g.plane (planeFillOf s g.plane / 2 * 2 + 2)
      done { planeBytes s (g.plane * 0x800000) g.buf with stage := some { g with ph := 2 } }

/-- The depot serves the stage's read now, where the source is a depot slot. -/
def stageServed (s : State) (o : Op) : Bool := decide (stKind o < 2) || (s.dep.jobs.head?.map (·.kind)) == some 3

/-- CFG_STAGE_FRAME (R156 steps 6 and 7): the next frame, or after the last the seal, arrives, is checked and programmed. -/
def execCfgStageFrame (got : ReadEnd) (s : State) : Host.Outcome State Fault Refusal :=
  match s.stage with
  | none => done s
  | some g =>
    match opOf s g.tag with
    | none => done s
    | some o =>
      if g.ph ≠ 2 ∨ stageServed s o = false then done s
      else
        let total := imgFrameCnt g.buf
        let last := decide (g.frames = total)
        let n := if last then 64 else 4096
        match stageBytes s o g.buf.length n got with
        | none => done (stageEnd s g (hostFail s) 6)
        | some d =>
          let buf := g.buf ++ d
          let st := framesFrom true buf 0 {} (if last then total else g.frames + 1)
          if last then
            (match st with
              | none => done (stageEnd s g 0x21 3)
              | some x =>
                if framesEnd buf x = false then done (stageEnd s g 0x21 3)
                else if sealOk buf = false then done (stageEnd s g 0x21 4)
                else done { planeBytes s (g.plane * 0x800000 + g.buf.length) d with stage := some { g with buf := buf, ph := 3 } })
          else if st.isNone then done (stageEnd s g 0x21 3)
          else done { planeBytes s (g.plane * 0x800000 + g.buf.length) d with stage := some { g with buf := buf, frames := g.frames + 1 } }

/-- CFG_STAGE_READBACK_DONE (R156 steps 8 and 9): `ok` when the CRC64 over the programmed data equals the seal's. -/
def execCfgStageReadbackDone (ok : Bool) (s : State) : Host.Outcome State Fault Refusal :=
  match s.stage with
  | none => done s
  | some g =>
    if g.ph ≠ 3 then done s
    else if ok then done (stageEnd (setValid s g.plane true) g (if g.note then 1 else 0) 0)
    else done (stageEnd s g 0x40 4)

/-! ### CFG_HANDOVER (R160 to R166) -/

/-- The unit is in IDLE: the regions stay off through a handover. -/
def inIdle (s : State) : Bool := decide (s.pwr.stage = .idle)

def setHo (s : State) (h : Ho) : State := { s with ho := some h }

/-- Step 10: the new image's start-up sequence, or at once the end where no fabric starts. -/
def hoSeq (s : State) (h : Ho) : State :=
  let s := (hoBanks h).foldl (fun t n => askPending t (12 + n)) (setHo s { h with step := 10 })
  if s.fab.image = [] ∨ inIdle s then hoAfterSeq s else seqBegin s 2

/-- Step 9: the named banks return to ON, one after another. -/
def hoBanksOn (s : State) (h : Ho) : State :=
  match (hoBanks h).find? (fun n => (bank s n).st != 1) with
  | some n => beginStep (setHo s { h with step := 9 }) n 1 none
  | none => hoSeq s h

/-- Step 8: waves for the regions that the new image uses and that are off. -/
def hoWaves (s : State) (h : Ho) : State :=
  let q := if inIdle s then [] else wavesFor ((regions (usedRegions s.fab.image)).foldl
    (fun m r => if bit (getf s F.FAB_STAT_RGN_ON) r then m else setBit m r) 0)
  let s := setPwr s { s.pwr with wq := q }
  if q = [] then hoBanksOn s h else setHo s { h with step := 8 }

/-- Step 6: regions that the new image does not use are powered down; then the readout. -/
def hoRegionsOff (s : State) (h : Ho) : State :=
  let u := usedRegions (planeImage s h.plane)
  let off := (regions (getf s F.FAB_STAT_RGN_ON)).filter (fun r => !bit u r)
  setHo s { h with step := if off = [] then 7 else 6 }

/-- Step 5: each named bank goes to RETAIN. -/
def hoRetain (s : State) (h : Ho) : State :=
  match (hoBanks h).find? (fun n => (bank s n).st == 1) with
  | some n => beginStep (setHo s { h with step := 5 }) n 2 none
  | none => hoRegionsOff s h

/-- The aborts of a domain have been posted, and no reset of it is under way. -/
def fenceDone (s : State) (d : Nat) : Bool := (dom s d).fence == .aborted || (dom s d).fence == .ready

/-- Step 4 is complete in every domain that the handover fences: user I/O is high-impedance and the latches are lost. -/
def hoAborted (s : State) : State :=
  match s.ho with
  | none => s
  | some h =>
    if h.step = 2 ∧ fenceDone s 11 ∧ (hoBanks h).all (fun n => fenceDone s (12 + n)) then
      hoRetain (userIo s false) h
    else s

/-- DRAIN of the descriptor (Table 6-7). -/
def hoDrain (s : State) (o : Op) : Nat :=
  let d := opFld o 5 0 16
  if d = 0xFFFF then rstDrain s else min 1000 d

/-- S2 of R166: the banks of the new image's BANK_ON. -/
def hoS2 (s : State) (h : Ho) : State :=
  let on := imgBankOn (planeRead s h.plane 0 512)
  match (List.range 8).find? (fun n => bit on n && (bank s n).st != 1) with
  | some n => beginStep (setHo s { h with step := 20 }) n 1 none
  | none =>
    let q := ([1, 2, 3, 4, 5, 6] : List Nat).filter (fun g => !bit s.pwr.gdone g)
    setHo (setPwr s { s.pwr with gq := q }) { h with step := 21 }

/-- CFG_HANDOVER (R160, R161 steps 1 and 2, R166). -/
def execCfgHandover (tag : Nat) (s : State) : Host.Outcome State Fault Refusal :=
  match cfgTurn s tag 0x71 with
  | none => done s
  | some o =>
    let p := opFld o 4 0 1
    if activePlane s p ∨ planeValid s p = false then
      done (giveRet s o ⟨0x14, 0#32, w32 (getf s F.CFG_STAT_ACTIVE + 5 * 2 ^ 8)⟩)
    else
      let un := decide (s.fab.image = [])
      let named := if un then [] else (List.range 8).filter (fun n => 2 ≤ n && bit (opFld o 4 8 8) n && (bank s n).st == 1)
      let h : Ho := { tag := tag, plane := p, retain := named, persist := decide (opFld o 4 1 1 = 1), step := 2, unconf := un,
                      started := s.clk }
      let s := setf (setf (setOp s { o with started := true }) F.CFG_STAT_OP 2) F.CFG_STAT_OP_PLANE p
      if un then done (hoS2 s h)
      else
        let d := hoDrain s o
        let s := named.foldl (fun t n => closeFence t (12 + n) 8 d) (closeFence s 11 8 d)
        done (hoAborted (setHo s h))

/-- REGIONS_POWERED_DOWN (R161 step 6). -/
def execRegionsPoweredDown (s : State) : Host.Outcome State Fault Refusal :=
  match s.ho with
  | none => done s
  | some h =>
    if h.step ≠ 6 then done s
    else
      let u := usedRegions (planeImage s h.plane)
      let off := (regions (getf s F.FAB_STAT_RGN_ON)).filter (fun r => !bit u r)
      done (setHo (off.foldl regionOff s) { h with step := 7 })

/-- User islands whose settings are unchanged keep running (R162). -/
def keepIslands (s : State) (old new : List Byte) : State :=
  let keep := (List.range 11).foldl (fun m i => if islSame old new (14 + i) then setBit m (14 + i) else m) 0x3FFF
  setFab (setf s F.FAB_ISL_LOCK_LOCK (getf s F.FAB_ISL_LOCK_LOCK &&& keep)) { s.fab with clocks := s.fab.clocks &&& keep, gates := s.fab.gates.filter (fun p => bit keep (p.1 / 8)) }

/-- HANDOVER_READOUT_DONE (R161 step 7, R164, R166): the readout of the new plane ends, or in a rollback that of the previous
plane; `glob` as in BOOT_READOUT_DONE. -/
def execHandoverReadoutDone (glob : Nat) (s : State) : Host.Outcome State Fault Refusal :=
  match s.ho with
  | none => done s
  | some h =>
    if ¬(h.step = 7 ∨ (h.step = 21 ∧ s.pwr.gq = [])) then done s
    else
      let src := if h.back then getf s F.CFG_STAT_ACTIVE else h.plane
      let img := planeImage s src
      let r := imageReason false img
      if r = 0 then
        let s := keepIslands s s.fab.image img
        let s := showSource (loadHeader s img glob) img src
        let s := if (dom s 11).powered then s else release1 s 11
        done (idleNext (hoWaves s h))
      else if h.back then done (idleNext (hoBanksOn (clearFabric s) h))
      else
        let s := setValid s h.plane false
        let h := { h with reason := r }
        if h.unconf then done (idleNext (hoFinish s h 0x21))
        else
          let s := alarmUpdate (satAdd (raise s F.CFG_STAT_ROLLBACK) F.CFG_HO_CNT_ROLLBACKS 1)
          let h := { h with rolled := true }
          if isSet s F.CFG_STAT_SRC_PLANE then done (setHo s { h with step := 7, back := true })
          else done (idleNext (hoBanksOn (clearFabric s) h))

/-- S4_WAVE_DONE (R87, R50): the next wave is powered and its regions trimmed, in the start, in an IDLE exit or in a handover. -/
def execS4WaveDone (s : State) : Host.Outcome State Fault Refusal :=
  match s.pwr.wq with
  | [] => done s
  | w :: t =>
    let s := setPwr (waveOn s w) { s.pwr with wq := t }
    match s.ho with
    | some h => if h.step = 8 ∧ t = [] then done (hoBanksOn s h) else done s
    | none =>
      let s := showWave s t
      if t ≠ [] then done s
      else if s.pwr.stage = .s4 then done (seqBegin (setf (setPwr s { s.pwr with stage := .seq }) F.PWR_STAT_STAGE 5) 0)
      else done (seqBegin s 1)

/-- BANK_POWER_STEP_DONE (R237, R239, R249): the step that bank `n` is in completes, `us` µs after its operation was dispatched; a
handover goes on with its next bank or step. -/
def execBankPowerStepDone (n : Fin 8) (us : Nat) (s : State) : Host.Outcome State Fault Refusal :=
  if (bank s n.val).st ≠ 3 then done s
  else
    let own := decide ((bank s n.val).forOp = none)
    let s := bankStepDone s n.val us
    match s.ho with
    | none => done s
    | some h =>
      if !own then done s
      else if h.step = 5 then done (hoRetain s h)
      else if h.step = 9 then done (idleNext (hoBanksOn s h))
      else if h.step = 20 then done (hoS2 s h)
      else done s

/-! ### Start-up sequence; a handover that met D11 in reset goes on once it is ready -/

/-- STARTUP_LOCK_DONE (R153). -/
def execStartupLockDone (s : State) : Host.Outcome State Fault Refusal :=
  if atStep s 1 then done (hoAborted (seqStepDone (lockSet s (lockIslands s)))) else done s

/-- STARTUP_LOCK_TIMEOUT (R153): `missing` are the user islands not locked. -/
def execStartupLockTimeout (missing : Nat) (s : State) : Host.Outcome State Fault Refusal :=
  if atStep s 1 then
    let m := lockIslands s &&& missing
    let s := lockSet s (lockIslands s - m)
    let s := alarmUpdate (raise (wr s R.CFG_LOCK_MISS (w32 m)) F.CFG_STAT_LOCK_TO)
    done (hoAborted (seqStepDone (devEvent s 8)))
  else done s

/-- STARTUP_STEP_DONE (R152): IO, GSR or WE completes; IO brings the user I/O up. -/
def execStartupStepDone (s : State) : Host.Outcome State Fault Refusal :=
  if atStep s 2 then done (hoAborted (seqStepDone (userIo s true)))
  else if atStep s 3 || atStep s 4 then done (hoAborted (seqStepDone s))
  else done s

/-- STARTUP_DELAY_EXPIRY (R152). -/
def execStartupDelayExpiry (s : State) : Host.Outcome State Fault Refusal :=
  if s.fab.seqPh = 2 then done (hoAborted (seqNext s)) else done s

/-- CFG_BOOT_SEL (Table 6-17): KEY 0x0B5E; a plane with VALID clear is not named and sets SEL_ERR. -/
def execCfgBootSel (key : Nat) (plane : Fin 2) (s : State) : Host.Outcome State Fault Refusal :=
  if key ≠ 0x0B5E ∨ regAway s R.CFG_BOOT_SEL then done s
  else if planeValid s plane.val then done (setf s F.CFG_STAT_BOOT plane.val)
  else done (raise s F.CFG_STAT_SEL_ERR)

end Sys2Proof.Machine
end

