-- ==== Sys2Proof/Machine/DepotCmd.lean ====
section
/-! DEFINITION. The commands of the image depot and the scrambler (07_image_depot_and_chain_loading.md,
20_scrambler_and_integrity.md): DEP_WRITE, DEP_READ, discovery, the flash's answers, the scrub, chain loading, SCR_CMD. -/
namespace Sys2Proof.Machine

/-! ### Descriptor fields (DEP_WRITE, DEP_READ) -/

def dpMode (o : Op) : Nat := opFld o 6 0 2
def dpSpace (o : Op) : Bool := decide (opFld o 6 4 1 = 1)
def dpSlot (o : Op) : Nat := opFld o 6 8 3
def dpArg (o : Op) : Nat := (opWord o 7).toNat
def dpAddr (o : Op) : Nat := d64 o.words 4

/-- The depot operation with `tag`, of this opcode and mode, that the manager has not taken up. -/
def depOp (s : State) (tag code mode : Nat) : Option Op :=
  match opOf s tag with
  | some o => if opcodeOf o = code ∧ dpMode o = mode ∧ o.started = false ∧ o.fwd = false ∧ o.ret = none then some o else none
  | none => none

/-- Refuse a depot operation. -/
def depRefuse (s : State) (o : Op) (status : Nat) : Host.Outcome State Fault Refusal := done (giveRet s o ⟨status, 0#32, 0#32⟩)

/-- The data of a DEP_WRITE: what host memory answered, or the banks' bytes. -/
def depData (s : State) (o : Op) (got : ReadEnd) : Except Nat (List Byte) :=
  if dpSpace o then
    let r := readBytes s (dLength o.words) (dpAddr o)
    match r.2 with
    | none => .ok r.1
    | some e => .error (errStatus e)
  else match got with
    | .ok d => if d.length = dLength o.words then .ok d else .error 0x20
    | .failed => .error (hostFail s)

/-- The manager takes up a write. -/
def depTake (s : State) (o : Op) (todo : List Act) (slot : Nat) : Host.Outcome State Fault Refusal :=
  done (addJob (setOp s { o with started := true }) { kind := 5, op := some o.tag, slot := slot, todo := todo })

/-- Lifecycle states that may write GOLDEN or format over a valid directory (R184, R185). -/
def depotFree (s : State) : Bool := factoryState s || decide (lifecycle s = 4)

/-- 64 KiB pieces of some bytes. -/
def sectorPieces (bs : List Byte) (n : Nat) : List (List Byte) := (List.range n).map (fun k => (bs.drop (k * 0x10000)).take 0x10000)

/-- Sectors that `n` bytes take. -/
def sectorsOf (n : Nat) : Nat := (n + 0xFFFF) / 0x10000

/-- A slot's capacity in bytes (R179). -/
def slotCap (s : State) (i : Nat) : Nat := (spanGood s i).length * 0x10000

/-- A KIND 5 slot is served (R531). -/
def rangeServes (s : State) (i : Nat) : Bool :=
  let r := slRange (slotW0 s i)
  decide (rngState s r ≠ 0 ∧ rngState s r ≠ 4) && decide (rngSlot s r = i)

/-- DEP_WRITE_IMAGE (R184 mode 0, R185); an absent or unformatted depot has no slot of KIND 1 to 3. -/
def execDepWriteImage (tag : Nat) (got : ReadEnd) (s : State) : Host.Outcome State Fault Refusal :=
  match depOp s tag 0x78 0 with
  | none => done s
  | some o =>
    let i := dpSlot o
    let k := slKind (slotW0 s i)
    if depotUsable s = false ∨ ¬(1 ≤ k ∧ k ≤ 3) then depRefuse s o 0x14
    else if k = 2 ∧ depotFree s = false then depRefuse s o 0x13
    else match depData s o got with
      | .error e => depRefuse s o e
      | .ok d =>
        if (if k = 3 then !headersOk (d.length / 4672 + 1) d else headerErr true d) then depRefuse s o 0x14
        else
          let w0 := slotW0 s i
          let ps := sectorPieces d (sectorsOf d.length)
          depTake s o ([.slot i w0 0#32, .dir] ++ (List.range ps.length).map (fun p => .write i p (ps.getD p []))
            ++ [.verify i d.length, .slot i w0 (w32 d.length), .dir]) i

/-- The acts that rewrite the sectors a range of slot bytes touches. -/
def dataActs (kind slot off : Nat) (d : List Byte) : Nat → List Act
  | 0 => []
  | fuel + 1 =>
    if d = [] then []
    else
      let n := min d.length (0x10000 - off % 0x10000)
      (if kind = 5 then Act.lines slot off (d.take n) else Act.merge slot off (d.take n)) :: dataActs kind slot (off + n) (d.drop n) fuel

/-- DEP_WRITE_DATA (R184 mode 1, R531, R534). -/
def execDepWriteData (tag : Nat) (got : ReadEnd) (s : State) : Host.Outcome State Fault Refusal :=
  match depOp s tag 0x78 1 with
  | none => done s
  | some o =>
    let i := dpSlot o
    let k := slKind (slotW0 s i)
    if depotUsable s = false ∨ ¬(k = 4 ∨ k = 5) ∨ slotCap s i < dpArg o + dLength o.words then depRefuse s o 0x14
    else if k = 5 ∧ rangeServes s i = false then depRefuse s o 0x14
    else match depData s o got with
      | .error e => depRefuse s o e
      | .ok d => depTake s o (dataActs k i (dpArg o) d (sectorsOf d.length + 2) ++ [.dir]) i

/-- Some bound range's tag span meets a span (R531, R532). -/
def meetsTags (s : State) (first n : Nat) (but : Option Nat) : Bool :=
  (List.range 8).any (fun r => decide (rngState s r ≠ 0) && (but != some r) && spansMeet first n (spanOf s (8 + r)).1 (spanOf s (8 + r)).2)

/-- DEP_WRITE_SLOT (R184 mode 2, R185, R531). -/
def execDepWriteSlot (tag : Nat) (s : State) : Host.Outcome State Fault Refusal :=
  match depOp s tag 0x78 2 with
  | none => done s
  | some o =>
    let i := dpSlot o
    let w := opWord o 7
    let old := slotW0 s i
    let named := (List.range 8).any (fun r => decide (rngState s r ≠ 0) && decide (rngSlot s r = i))
    if depotUsable s = false then depRefuse s o 0x14
    else if slKind old = 2 ∧ depotFree s = false then depRefuse s o 0x13
    else if slotsOk s.dep.dir.sectors (s.dep.dir.slots.set i (w, 0#32)) = false ∨ (slKind old ≠ 0 ∧ w ≠ 0#32) ∨ named
        ∨ (slKind w ≠ 0 ∧ meetsTags s (slFirst w) (slSpan w) none) then depRefuse s o 0x14
    else depTake s o [.slot i w 0#32, .dir] i

/-- DEP_WRITE_FORMAT (R180, R184 mode 3). -/
def execDepWriteFormat (tag : Nat) (s : State) : Host.Outcome State Fault Refusal :=
  match depOp s tag 0x78 3 with
  | none => done s
  | some o =>
    if isSet s F.DEP_STAT_PRESENT = false then depRefuse s o 0x14
    else if isSet s F.DEP_STAT_FORMATTED ∧ depotFree s = false then depRefuse s o 0x13
    else
      let s := setDir s (dirDefault (getf s F.DEP_FLASH_SECTORS) s.dep.dir.gen)
      depTake s o [.eraseDir 0, .eraseDir 1, .dir] 0

/-! ### DEP_READ (R186, R535) -/

/-- The manager takes up a read. -/
def depTakeRead (s : State) (o : Op) (off : Nat) : Host.Outcome State Fault Refusal :=
  done (addJob (setOp s { o with started := true }) { kind := 4, op := some o.tag, slot := dpSlot o, off := off, len := dLength o.words })

/-- DEP_READ_SLOT (R186 mode 0, R531). -/
def execDepReadSlot (tag : Nat) (s : State) : Host.Outcome State Fault Refusal :=
  match depOp s tag 0x79 0 with
  | none => done s
  | some o =>
    let i := dpSlot o
    let k := slKind (slotW0 s i)
    if depotUsable s = false ∨ k = 0 ∨ slotCap s i < dpArg o + dLength o.words ∨ (k = 5 ∧ rangeServes s i = false) then
      depRefuse s o 0x14
    else depTakeRead s o (dpArg o)

/-- DEP_READ_RAW (R186 mode 1). -/
def execDepReadRaw (tag : Nat) (s : State) : Host.Outcome State Fault Refusal :=
  match depOp s tag 0x79 1 with
  | none => done s
  | some o =>
    if depotUsable s = false ∨ getf s F.DEP_FLASH_SECTORS * 0x10000 < dpArg o + dLength o.words then depRefuse s o 0x14
    else depTakeRead s o (dpArg o)

/-- DEP_READ_DIRECTORY (R186 mode 2). -/
def execDepReadDirectory (tag : Nat) (s : State) : Host.Outcome State Fault Refusal :=
  match depOp s tag 0x79 2 with
  | none => done s
  | some o => if depotUsable s then depTakeRead s o 0 else depRefuse s o 0x14

/-- Deliver the bytes of a DEP_READ: to host memory, or to D-space with the refusal that stops it. -/
def depDeliver (s : State) (o : Op) (bs : List Byte) : State × Nat :=
  if dpSpace o then
    let r := writeBytes s (dpAddr o) bs
    match r.2.2 with
    | none => (r.1, 0)
    | some e => (noteErr r.1 e, errStatus e)
  else (hostPut s o.ctx (dpAddr o) bs, 0)

/-- The read's request ends and its operation is answered. -/
def endRead (s : State) (j : Job) (r : Ret) : State :=
  let s := endJob s true j r 0
  serveJobs s (s.dep.jobs.length + 1)

/-- A scrambled read goes on by one line (R535): `raw` are the line's 64 stored bytes and 8 tag bytes as read. -/
def readLineStep (s : State) (j : Job) (o : Op) (raw : List Byte) : State :=
  let r := slRange (slotW0 s j.slot)
  let l := j.off / 64 + j.units
  let finish (s : State) (p : List Byte) : State :=
    let from_ := if j.units = 0 then j.off % 64 else 0
    let buf := j.buf ++ (p.drop from_).take (j.len - j.buf.length)
    if buf.length = j.len then
      let d := depDeliver s o buf
      endRead d.1 j ⟨d.2, 0#32, 0#32⟩
    else putJob s true { j with units := j.units + 1, tries := 0, buf := buf }
  match readLineOf s r l (raw.take 64) (raw.drop 64) with
  | .erased => finish (satAdd s F.SCR_CNT_UNWRITTEN 1) (List.replicate 64 0#8)
  | .good p _ => finish (if j.tries = 0 then s else satAdd (markWeak s j.slot l) F.SCR_CNT_WEAK 1) p
  | .bad =>
    if j.tries < 3 then putJob s true { j with tries := j.tries + 1 }
    else
      let d := depDeliver (lineFailure s r) o j.buf
      endRead d.1 j ⟨0x21, 0#32, w32 (64 * l)⟩

/-! ### Units of a slot -/

/-- The unit with number `u` of an image slot, counted through the images it holds: offset, length and its image's header. -/
def slotUnit (s : State) (slot len : Nat) (u base : Nat) : Nat → Option (Nat × Nat × List Byte × Nat)
  | 0 => none
  | fuel + 1 =>
    if len ≤ base then none
    else
      let h := spanRead s slot base 512
      let n := imgFrameCnt h + 2
      if u < n then (let p := unitSpan h u; some (base + p.1, p.2, h, u))
      else slotUnit s slot len (u - n) (base + max 1 (imgLen h)) fuel

/-! ### Chain loading: sending (R194) -/

/-- Send waiting bytes as chunks while fewer than 16 are unacknowledged. -/
def pump (s : State) : Nat → State
  | 0 => s
  | fuel + 1 =>
    let l := s.load
    match l.round with
    | none => s
    | some r =>
      if l.dead || !portUp s 1 then { s with load := { l with outBuf := [] } }
      else if l.outBuf = [] ∨ 16 ≤ l.sent.length then
        if l.ended && decide (l.outBuf = []) then
          let s := sendMsg s 1 ⟨0x44, ownAddr s, toNext, [w32 (r * 2 ^ 16), w32 l.txSeq, w32 l.txBytes, 0#32], []⟩
          { s with load := { l with dead := true } }
        else s
      else
        let d := l.outBuf.take 4096
        let s := sendMsg s 1 ⟨0x43, ownAddr s, toNext, [w32 (r * 2 ^ 16), w32 l.txSeq, w32 d.length, crc32c d], d⟩
        pump { s with load := { l with outBuf := l.outBuf.drop 4096, sent := l.sent ++ [(l.txSeq, 1, d)],
                                       txSeq := l.txSeq + 1, txBytes := l.txBytes + d.length } } fuel

/-- Bytes to forward. -/
def forwardBytes (s : State) (bs : List Byte) : State :=
  pump { s with load := { s.load with outBuf := s.load.outBuf ++ bs } } 18

/-- The head's request for the round ends. -/
def endRoundJob (s : State) : State :=
  let s := setDep s { s.dep with jobs := s.dep.jobs.filter (fun j => j.kind != 2) }
  serveJobs s (s.dep.jobs.length + 1)

/-- The round is aborted for the units downstream (R192, R194, R195). -/
def abortDown (s : State) (r reason : Nat) : State :=
  let s := sendMsg s 1 ⟨0x45, ownAddr s, toNext, [w32 (r * 2 ^ 16), w32 reason, 0#32, 0#32], []⟩
  { s with load := { s.load with dead := true, outBuf := [], sent := [] } }

/-! ### FLASH_READ_DONE -/

/-- A frame or header of the scrub has failed every retry: SLOT_LOST (R188). -/
def slotLost (s : State) (slot : Nat) : State :=
  alarmUpdate (raise9 (setDep s { s.dep with lost := if s.dep.lost.contains slot then s.dep.lost else slot :: s.dep.lost }) F.DEP_EVT_SLOT_LOST)

/-- The scrub goes on to its next unit, slot or pass. -/
def scrubNext (s : State) (lastUnit : Bool) : State :=
  if !lastUnit then setDep s { s.dep with scrubUnit := s.dep.scrubUnit + 1 }
  else if s.dep.scrubSlot = 7 then setDep (satAdd s F.DEP_SCRUB_PASSES 1) { s.dep with scrubSlot := 0, scrubUnit := 0 }
  else setDep s { s.dep with scrubSlot := s.dep.scrubSlot + 1, scrubUnit := 0 }

/-- The scrub's read of its unit ends. -/
def scrubRead (s : State) (j : Job) (raw : List Byte) : State :=
  if slKind (slotW0 s j.slot) = 5 then
    let r := slRange (slotW0 s j.slot)
    let lastLine := decide (slotCap s j.slot / 64 ≤ j.units + 1)
    let close (s : State) : State := scrubNext (setf (setDep s { s.dep with bg := none }) F.DEP_STAT_OP 0) lastLine
    match readLineOf s r j.units (raw.take 64) (raw.drop 64) with
    | .erased => close (satAdd s F.SCR_CNT_UNWRITTEN 1)
    | .good _ _ => close (if j.tries = 0 then s else satAdd (markWeak s j.slot j.units) F.SCR_CNT_WEAK 1)
    | .bad => if j.tries < 3 then putJob s false { j with tries := j.tries + 1 } else close (lineFailure s r)
  else
    match slotUnit s j.slot (slotLen s j.slot) j.units 0 (slotLen s j.slot / 4672 + 1) with
    | none => scrubNext (setf (setDep s { s.dep with bg := none }) F.DEP_STAT_OP 0) true
    | some (off, n, h, u) =>
      let close (s : State) : State := scrubNext (setf (setDep s { s.dep with bg := none }) F.DEP_STAT_OP 0) (decide (slotLen s j.slot ≤ off + n))
      if unitCrcOk h u raw then close (if j.tries = 0 then s else markWeak s j.slot j.units)
      else if j.tries < 3 then putJob (satAdd s F.DEP_CNT_RETRIES 1) false { j with tries := j.tries + 1 }
      else close (slotLost s j.slot)

/-- The bytes that the read under way asks the flash for: offset in the slot and number. -/
def bootUnit (j : Job) : Nat × Nat :=
  if j.units = 0 then (0, 512) else unitSpan (j.buf.take 512) j.units

/-- A boot load's unit arrives (R181). -/
def bootRead (s : State) (j : Job) (raw : List Byte) : State :=
  let h := if j.units = 0 then raw else j.buf.take 512
  if unitCrcOk h j.units raw then
    let s := if j.tries = 0 then s else markWeak s j.slot j.units
    let buf := j.buf ++ raw
    let j := { j with buf := buf, units := j.units + 1, tries := 0 }
    if j.units = 1 ∧ (headerErr true buf ∨ identityOk buf = false) then endBootJob s j none
    else if j.units = 1 ∧ slotLen s j.slot ≠ imgLen buf then endBootJob s j (some 6)
    else if imgLen buf ≤ buf.length then endBootJob s j none
    else putJob s true j
  else if j.tries < 3 then putJob (satAdd s F.DEP_CNT_RETRIES 1) true { j with tries := j.tries + 1 }
  else endBootJob s j (some (if j.units = 0 then 1 else 3))

/-- A unit of the head's round arrives (R192). -/
def roundRead (s : State) (j : Job) (raw : List Byte) : State :=
  match slotUnit s j.slot (slotLen s j.slot) j.units 0 (slotLen s j.slot / 4672 + 1), s.load.round with
  | some (off, n, h, u), some r =>
    if unitCrcOk h u raw && !(decide (u = 0) && headerErr true raw) then
      let s := if j.tries = 0 then s else markWeak s j.slot j.units
      let last := decide (slotLen s j.slot ≤ off + n)
      let s := putJob s true { j with units := j.units + 1, tries := 0 }
      let s := forwardBytes { s with load := { s.load with ended := last } } raw
      if last then endRoundJob s else s
    else if j.tries < 3 then putJob (satAdd s F.DEP_CNT_RETRIES 1) true { j with tries := j.tries + 1 }
    else endRoundJob { abortDown s r 3 with load := {} }
  | _, _ => endRoundJob s

/-- FLASH_READ_DONE (R181, R186, R188, R192, R535): the read under way ends; `got` are the bytes as they were read where they
differ from those stored. -/
def takeFlashReadDone (got : Option (List Byte)) (s : State) : Host.Outcome State Fault Refusal :=
  match curJob s with
  | none => done s
  | some (fg, j) =>
    let bytes (off n : Nat) : List Byte := got.getD (spanRead s j.slot off n)
    match j.kind with
    | 1 =>
      if slotLen s j.slot = 0 then done (endBootJob s j (some 6))
      else
        let p := bootUnit j
        done (bootRead s j (bytes p.1 p.2))
    | 2 =>
      if s.load.outBuf ≠ [] then done s
      else match slotUnit s j.slot (slotLen s j.slot) j.units 0 (slotLen s j.slot / 4672 + 1) with
        | some (off, n, _, _) => done (roundRead s j (bytes off n))
        | none => done (endRoundJob s)
    | 4 =>
      match j.op.bind (opOf s) with
      | none => done (endRead s j ⟨0x1A, 0#32, 0#32⟩)
      | some o =>
        if dpMode o = 0 ∧ slKind (slotW0 s j.slot) = 5 then
          let r := slRange (slotW0 s j.slot)
          let l := j.off / 64 + j.units
          done (readLineStep s j o (got.getD (lineBytes s r l ++ lineEntry s r l)))
        else
          let bs := match dpMode o with
            | 0 => bytes j.off j.len
            | 1 => got.getD (flashRead s j.off j.len)
            | _ => (dirBytes s.dep.dir).take j.len
          let d := depDeliver s o bs
          done (endRead d.1 j ⟨d.2, 0#32, 0#32⟩)
    | 6 =>
      if fg then done s
      else if slKind (slotW0 s j.slot) = 5 then
        let r := slRange (slotW0 s j.slot)
        done (scrubRead s j (got.getD (lineBytes s r j.units ++ lineEntry s r j.units)))
      else match slotUnit s j.slot (slotLen s j.slot) j.units 0 (slotLen s j.slot / 4672 + 1) with
        | some (off, n, _, _) => done (scrubRead s j (bytes off n))
        | none => done (scrubRead s j [])
    | _ => done s

/-- FLASH_ERASE_DONE (R183). -/
def execFlashEraseDone (ok : Bool) (s : State) : Host.Outcome State Fault Refusal := done (eraseDone s ok)

/-- FLASH_PROGRAM_DONE (R183): `ok` when the flash reports no failure and the page reads back. -/
def execFlashProgramDone (ok : Bool) (s : State) : Host.Outcome State Fault Refusal := done (programDone s ok)

/-! ### Scrub (R188, R189) -/

/-- The flash sectors that hold a weak unit: of an image slot, or the data and the tag sector of a line. -/
def weakSectors (s : State) (slot u : Nat) : List Nat :=
  if slKind (slotW0 s slot) = 5 then
    let r := slRange (slotW0 s slot)
    ((spanAddr s slot (64 * u)).map (· / 0x10000)).toList ++ ((spanAddr s (8 + r) (8 * u)).map (· / 0x10000)).toList
  else
    match slotUnit s slot (slotLen s slot) u 0 (slotLen s slot / 4672 + 1) with
    | none => []
    | some (off, n, _, _) =>
      let a := ((spanAddr s slot off).map (· / 0x10000)).toList
      let b := ((spanAddr s slot (off + n - 1)).map (· / 0x10000)).toList
      if a = b then a else a ++ b

/-- The scrub has something to read in a slot: an image, or a region range that is READY (Table 20-7). -/
def scrubbable (s : State) (i : Nat) : Bool :=
  let k := slKind (slotW0 s i)
  (decide (1 ≤ k ∧ k ≤ 3) && decide (0 < slotLen s i))
  || (decide (k = 5) && rangeServes s i && decide (rngState s (slRange (slotW0 s i)) = 1))

/-- Skip slots with nothing to read. -/
def scrubSkip (s : State) : Nat → State
  | 0 => s
  | n + 1 => if scrubbable s s.dep.scrubSlot then s else scrubSkip (scrubNext s true) n

/-- DEPOT_SCRUB_DUE (R188): a weak unit's sectors are refreshed first; else the next unit is read. -/
def execDepotScrubDue (s : State) : Host.Outcome State Fault Refusal :=
  if away s 21 ∨ depotUsable s = false ∨ isSet s F.DEP_CTL_SCRUB_EN = false ∨ s.dep.bg ≠ none ∨ s.dep.jobs ≠ [] then done s
  else
    let w := s.dep.weak.find? (fun p => !s.dep.lost.contains p.1)
    match (if isSet s F.DEP_CTL_REFRESH_EN && isSet s F.DEP_STAT_SUSPEND then w else none) with
    | some (slot, u) =>
      let s := setDep s { s.dep with weak := s.dep.weak.filter (fun p => p != (slot, u)) }
      let acts := (weakSectors s slot u).map (fun k => Act.refresh slot k) ++ [.dir]
      let j : Job := { kind := 7, slot := slot, todo := acts }
      done (runJob s false j (jobFuel j))
    | none =>
      let s := scrubSkip s 8
      if scrubbable s s.dep.scrubSlot then done (putJob s false { kind := 6, slot := s.dep.scrubSlot, units := s.dep.scrubUnit })
      else done s

/-! ### Discovery (R170 to R173) -/

/-- Clock codes of DEP_STAT.CLK in kHz (R171). -/
def flKhz (c : Nat) : Nat :=
  match c with
  | 0 => 25000
  | 1 => 50000
  | 2 => 100000
  | 3 => 133330
  | _ => 200000

/-- Bits per clock and maximum clock of a mode (Table 7-1). -/
def flBits (m : Nat) : Nat := match m with | 0 => 1 | 3 => 16 | _ => 4
def flMax (m : Nat) (v18 : Bool) : Nat := if m = 3 then 200000 else if v18 then 133330 else 100000

/-- The mode may be used (R170). -/
def flModeOk (x : Sfdp) (d : Dir) (m : Nat) : Bool := bit x.modes m && (decide (m ≠ 3) || x.v18) && decide (m ≤ d.maxMode)

/-- The clock code of a mode: the highest within every limit (R171). -/
def flClk (x : Sfdp) (d : Dir) (m : Nat) : Option Nat :=
  [4, 3, 2, 1, 0].find? (fun c => decide (flKhz c ≤ flMax m x.v18) && decide (flKhz c ≤ x.khz.getD m 0)
    && (decide (d.maxMhz = 0) || decide (flKhz c ≤ 1000 * d.maxMhz)))

/-- The mode and clock with the highest byte rate; the higher mode code of two equal rates; 1-1-1 at 25 MHz where none passes. -/
def flChoose (x : Sfdp) (d : Dir) : Nat × Nat :=
  (List.range 4).foldl (fun best m =>
    match (if flModeOk x d m then flClk x d m else none) with
    | some c => if flBits best.1 * flKhz best.2 ≤ flBits m * flKhz c then (m, c) else best
    | none => best) (0, 0)

/-- Resume the ranges that a reset or a loss of power left in the middle of their work (R538). -/
def resumeRange (s : State) (r : Nat) : State :=
  let n := rangeSectors s r
  let from_ := rngProg s r / 1024
  let sectors := (List.range (n - from_)).map (fun k => Act.rescr r (from_ + k))
  let go (acts : List Act) (func : Nat) : State :=
    addJob (raise s F.SCR_EVT_RESUMED) { kind := 5, scr := func, slot := rngSlot s r, todo := acts }
  match rngState s r with
  | 2 => go (sectors ++ [.endRekey r]) 4
  | 3 => go (sectors ++ [.endRoll r]) 0
  | 4 => go ((List.range n).map (Act.erase (rngSlot s r)) ++ (List.range (spanGood s (8 + r)).length).map (Act.erase (8 + r))
      ++ [.endErase r (bit s.scrUnbind r)]) 5
  | _ => s

/-- The depot is wanted by the boot path, or the start has ended (R173). -/
def discoveryDue (s : State) : Bool :=
  !s.dep.discovered && !away s 21
  && ((s.boot.run && (s.boot.path.head? == some 2 || s.boot.path.head? == some 3))
      || decide (s.pwr.stage = .run) || decide (s.pwr.stage = .idle))

/-- DEPOT_DISCOVERY (R170 to R176, R538). -/
def execDepotDiscovery (x : Sfdp) (s : State) : Host.Outcome State Fault Refusal :=
  if discoveryDue s = false then done s
  else
    let s := setDep s { s.dep with discovered := true }
    let here := x.present && (x.sectors == 512 || x.sectors == 1024 || x.sectors == 2048)
    let s := if here = false then s
      else
        let s := setf (setf (setf s F.DEP_STAT_PRESENT 1) F.DEP_FLASH_SECTORS x.sectors) F.DEP_FLASH_MFR x.mfr
        let s := setf s F.DEP_STAT_SUSPEND (b2n x.suspend)
        let c := dirChoose (dirParse x.sectors (flashRead s 0 0x2204)) (dirParse x.sectors (flashRead s 0x10000 0x2204))
        let s := match c with
          | some (k, d) => showDir (setf (setf (setDir s d) F.DEP_STAT_COPY k) F.DEP_STAT_FORMATTED 1)
          | none => s
        let mc := flChoose x s.dep.dir
        let s := setf (setf s F.DEP_STAT_MODE mc.1) F.DEP_STAT_CLK mc.2
        if depotUsable s then (List.range 8).foldl resumeRange s else s
    match s.boot.run, s.boot.path with
    | true, src :: t =>
      if src = 2 ∨ src = 3 then
        (if depotUsable s then done (bootJob s src) else done (setBoot s { path := src :: t, run := true, bad := some 6 }))
      else done s
    | _, _ => done s

/-! ### Chain loading (R190 to R196) -/

/-- The head can stream: a CHAIN slot with an image in it. -/
def chainSlot (s : State) : Option Nat :=
  if depotUsable s then (slotOfKind s 3).bind (fun i => if slotLen s i = 0 then none else some i) else none

/-- REQ_ACK, flooded downstream. -/
def floodAck (s : State) : State :=
  sendMsg s 1 ⟨0x41, 0, toAll, [w32 ((s.load.lastRound + 1) % 2 ^ 16 * 2 ^ 16), w32 (if s.load.round.isSome then 1 else 0), 0#32, 0#32], []⟩

/-- The unit takes the chain image requests (R346): the head, a candidate, or a unit with HEAD_EN sampled high before the
election. -/
def servesImages (s : State) : Bool :=
  isHead s || decide (getf s F.ENU_STAT_ROLE = 1) || (decide (getf s F.ENU_STAT_ROLE = 0) && s.pwr.headEn && !s.enu.lost)

/-- IMAGE_REQ (R191): the head answers it; another unit forwards it upstream. -/
def execImageReq (m : Msg) (s : State) : Host.Outcome State Fault Refusal :=
  if !servesImages s then done (passOn s 1 m)
  else
    let s := takeMsg s 1 m
    match chainSlot s with
    | some _ => done (floodAck { s with load := { s.load with pending := s.load.pending + 1 } })
    | none =>
      let r := (s.load.lastRound + 1) % 2 ^ 16
      let s := floodAck s
      let s := sendMsg s 1 ⟨0x42, 0, toNext, [w32 (r * 2 ^ 16), 0#32, 0#32, 0#32], []⟩
      let s := sendMsg s 1 ⟨0x45, 0, toNext, [w32 (r * 2 ^ 16), 6#32, 0#32, 0#32], []⟩
      done { s with load := { s.load with lastRound := r } }

/-- IMAGE_REQ_RETRY (R190): no REQ_ACK 1 ms after an IMAGE_REQ. -/
def execImageReqRetry (s : State) : Host.Outcome State Fault Refusal :=
  if chainBoot s && s.load.waiting && !s.load.acked && decide (0 < s.load.reqs) then
    done (if s.load.reqs < 3 then sendImageReq s else chainTryEnd s 6 true)
  else done s

/-- REQ_ACK (R191): flooded on; a waiting unit goes on waiting for its round. -/
def execReqAck (m : Msg) (s : State) : Host.Outcome State Fault Refusal :=
  let s := takeFlood s 0 m m
  done (if s.load.waiting then { s with load := { s.load with acked := true } } else s)

/-- REQ_ACK_REPEAT (R191). -/
def execReqAckRepeat (s : State) : Host.Outcome State Fault Refusal :=
  if servesImages s && decide (0 < s.load.pending) then done (floodAck s) else done s

/-- LOAD_ROUND_START (R191): a request is pending and the depot manager takes the round. -/
def execLoadRoundStart (s : State) : Host.Outcome State Fault Refusal :=
  match chainSlot s with
  | none => done s
  | some i =>
    if servesImages s = false ∨ s.load.pending = 0 ∨ s.load.round ≠ none ∨ away s 21 then done s
    else
      let r := (s.load.lastRound + 1) % 2 ^ 16
      let t := addJob s { kind := 2, slot := i }
      match t.dep.jobs.head? with
      | some j =>
        if j.kind ≠ 2 then done s
        else
          let t := { t with load := { lastRound := r, round := some r } }
          let t := satAdd t F.DEP_CHN_ROUNDS 1
          done (sendMsg t 1 ⟨0x42, 0, toNext, [w32 (r * 2 ^ 16), 0#32, 0#32, 0#32], []⟩)
      | none => done s

/-- ROUND of a message. -/
def msgRound (m : Msg) : Nat := extractBits (m.w.getD 0 0#32) 16 16

/-- ROUND_BEGIN (R191, R193). -/
def execRoundBegin (m : Msg) (s : State) : Host.Outcome State Fault Refusal :=
  let s := takeMsg s 0 m
  if away s 21 then done s
  else
    let l := s.load
    let join := l.waiting && decide (0 < l.reqs)
    let l : Load := { waiting := l.waiting, reqs := l.reqs, tries := l.tries, acked := l.acked, joined := join, round := some (msgRound m) }
    done (sendMsg (satAdd { s with load := l } F.DEP_CHN_ROUNDS 1) 1 m)

/-- Filter bytes of the stream (R138, R139): the first image that matches is this unit's; every other one, and a shared one, goes
on. Images that cannot be forwarded are counted as untaken. -/
def filterStream (s : State) : Nat → State
  | 0 => s
  | fuel + 1 =>
    let l := s.load
    match l.cur with
    | none =>
      if l.inBuf.length < 512 ∨ headerErr true l.inBuf then s
      else
        let mine := !l.matched && identityOk l.inBuf
        let fwd := !mine || imgShare l.inBuf
        let s := if fwd && !portUp s 1 then satAdd s F.DEP_CHN_UNTAKEN 1 else s
        filterStream { s with load := { l with cur := some (imgLen l.inBuf, mine && l.joined, fwd), matched := l.matched || mine } } fuel
    | some (n, take, fwd) =>
      let bs := l.inBuf.take n
      let l := { l with inBuf := l.inBuf.drop n, image := if take then l.image ++ bs else l.image }
      let s := { s with load := l }
      let s := if fwd then forwardBytes s bs else s
      if bs.length < n then { s with load := { s.load with cur := some (n - bs.length, take, fwd) } }
      else filterStream { s with load := { s.load with cur := none, taken := s.load.taken || take } } fuel

/-- Name the last SEQ received good (R194). -/
def chunkAck (s : State) (r seq : Nat) : State :=
  sendMsg { s with load := { s.load with unacked := 0 } } 0 ⟨0x46, ownAddr s, toNext, [w32 (r * 2 ^ 16), w32 seq, 0#32, 0#32], []⟩

/-- CHUNK (R194): checked by CRC and SEQ, filtered and forwarded. -/
def execChunk (m : Msg) (s : State) : Host.Outcome State Fault Refusal :=
  let s := takeMsg s 0 m
  let l := s.load
  match l.round with
  | none => done s
  | some r =>
    if msgRound m ≠ r ∨ away s 21 then done s
    else
      let seq := (m.w.getD 1 0#32).toNat
      let good := decide (crc32c m.data = m.w.getD 3 0#32) && decide (m.data.length = extractBits (m.w.getD 2 0#32) 0 13)
      if good && decide (seq = l.rxSeq) then
        let s := { s with load := { l with rxSeq := seq + 1, rxBad := false, unacked := l.unacked + 1, inBuf := l.inBuf ++ m.data } }
        let s := if 4 ≤ l.unacked + 1 then chunkAck s r seq else s
        done (filterStream s 20)
      else if (!good || decide (l.rxSeq < seq)) && !l.rxBad then
        let s := raise (satAdd { s with load := { l with rxBad := true } } F.DEP_CHN_RESENDS 1) F.DEP_EVT_RESEND
        done (sendMsg s 0 ⟨0x47, ownAddr s, toNext, [w32 (r * 2 ^ 16), w32 l.rxSeq, 0#32, 0#32], []⟩)
      else done s

/-- CHUNK_ACK (R194): the sender's held chunks up to SEQ are free. -/
def execChunkAck (m : Msg) (s : State) : Host.Outcome State Fault Refusal :=
  let s := takeMsg s 1 m
  if s.load.round = some (msgRound m) then
    let q := (m.w.getD 1 0#32).toNat
    done (pump { s with load := { s.load with sent := s.load.sent.filter (fun c => q < c.1) } } 18)
  else done s

/-- RESEND (R194): from the named SEQ again; a SEQ that would be sent a fifth time ends the round downstream. -/
def execResend (m : Msg) (s : State) : Host.Outcome State Fault Refusal :=
  let s := takeMsg s 1 m
  if s.load.round ≠ some (msgRound m) then done s
  else
    let q := (m.w.getD 1 0#32).toNat
    let s := raise (satAdd s F.DEP_CHN_RESENDS 1) F.DEP_EVT_RESEND
    let l := s.load
    let again := l.sent.filter (fun c => q ≤ c.1)
    if again.any (fun c => 4 ≤ c.2.1) then
      let s := raise9 (abortDown s (msgRound m) 3) F.DEP_EVT_ROUND_ABORT
      done (if servesImages s then endRoundJob { s with load := { s.load with round := none } } else s)
    else
      let s := { s with load := { l with sent := l.sent.map (fun c => if q ≤ c.1 then (c.1, c.2.1 + 1, c.2.2) else c) } }
      done (again.foldl (fun t c =>
        sendMsg t 1 ⟨0x43, ownAddr t, toNext, [w32 (msgRound m * 2 ^ 16), w32 c.1, w32 c.2.2.length, crc32c c.2.2], c.2.2⟩) s)

/-- ROUND_END (R193, R190, R630). -/
def execRoundEnd (m : Msg) (s : State) : Host.Outcome State Fault Refusal :=
  let s := takeMsg s 0 m
  if s.load.round ≠ some (msgRound m) then done s
  else
    let s := if 0 < s.load.unacked then chunkAck s (msgRound m) (s.load.rxSeq - 1) else s
    let s := pump { s with load := { s.load with ended := true } } 18
    let l := s.load
    if chainBoot s && l.joined && !l.taken then done (chainTryEnd s (if l.matched then 6 else 2) false) else done s

/-- A round that this unit carries is aborted with a reason. -/
def roundAborted (s : State) (r reason : Nat) : State :=
  let s := raise9 (abortDown s r reason) F.DEP_EVT_ROUND_ABORT
  let l := s.load
  let s := { s with load := { l with round := none } }
  if chainBoot s && l.joined && !l.taken then chainTryEnd s reason false else s

/-- ROUND_ABORT (R195). -/
def execRoundAbort (m : Msg) (s : State) : Host.Outcome State Fault Refusal :=
  let s := takeMsg s 0 m
  if s.load.round = some (msgRound m) then done (roundAborted s (msgRound m) (extractBits (m.w.getD 1 0#32) 0 3)) else done s

/-- CHAIN_TRY_TIMEOUT (R190): the UP link had no frame lock within 10 ms of G4's power (`lock`), or neither REQ_ACK nor ROUND_BEGIN
came for 300 ms. -/
def execChainTryTimeout (lock : Bool) (s : State) : Host.Outcome State Fault Refusal :=
  if chainBoot s && s.load.waiting then
    if lock then (if portUp s 0 then done s else done (chainTryEnd s 6 true))
    else if s.load.joined then done s
    else done (chainTryEnd s 7 false)
  else done s

/-! ### Scrambler commands (R536, R537) -/

/-- A write to SCR_CMD acts: KEY and the block's access (R536). -/
def scrActs (s : State) (key : Nat) : Bool := decide (key = 0x5CB1) && !regAway s R.SCR_CMD

/-- Show a command's result. -/
def scrResult (s : State) (r : Nat) : State := setf s F.SCR_STAT_RESULT r

/-- A flash command takes its place among the depot's requests. -/
def scrJob (s : State) (func slot : Nat) (todo : List Act) : State :=
  let s := setf (setf s F.SCR_STAT_BUSY 1) F.SCR_STAT_FUNC func
  addJob s { kind := 5, scr := func, slot := slot, todo := todo }

/-- LOAD_KEY (R536): the key words go, the slot is LOADED. -/
def execLoadKey (key : Nat) (slot : Fin 16) (s : State) : Host.Outcome State Fault Refusal :=
  if scrActs s key = false then done s
  else if isSet s F.SCR_STAT_BUSY then done (scrResult s 7)
  else if getf s (F.SCR_KSLOT_STATE slot.val) ≠ 0 then done (scrResult s 1)
  else
    let ks := (List.range 4).map (fun i => rd s (R.SCR_KEYW i))
    let s := setKslot { s with keys := sput slot.val ks s.keys } slot.val 1 0
    let s := setf s (F.SCR_KSLOT_KCHK slot.val) ((crc32c (wordsBytes ks)).toNat % 2 ^ 16)
    done (scrResult ((List.range 4).foldl (fun t i => wr t (R.SCR_KEYW i) 0#32) s) 0)

/-- CLEAR_KEY (R536). -/
def execClearKey (key : Nat) (slot : Fin 16) (s : State) : Host.Outcome State Fault Refusal :=
  if scrActs s key = false then done s
  else if isSet s F.SCR_STAT_BUSY then done (scrResult s 7)
  else if getf s (F.SCR_KSLOT_STATE slot.val) ≠ 1 then done (scrResult s 1)
  else done (scrResult (emptyKslot s slot.val) 0)

/-- The tag span of SCR_ARG is outside sectors 0 and 1, every slot and every other tag span (R532). -/
def tagSpanOk (s : State) (first n : Nat) : Bool :=
  decide (2 ≤ first) && decide (1 ≤ n) && decide (first + n ≤ s.dep.dir.sectors)
  && s.dep.dir.slots.all (fun e => decide (slKind e.1 = 0) || !spansMeet first n (slFirst e.1) (slSpan e.1))
  && !meetsTags s first n none

/-- BIND (R536, R532). -/
def execBind (key : Nat) (range : Fin 8) (slot : Fin 16) (s : State) : Host.Outcome State Fault Refusal :=
  let r := range.val
  if scrActs s key = false then done s
  else if isSet s F.SCR_STAT_BUSY then done (scrResult s 7)
  else if rngState s r ≠ 0 ∨ getf s (F.SCR_KSLOT_STATE slot.val) ≠ 1 then done (scrResult s 1)
  else if depotUsable s = false then done (scrResult s 4)
  else
    let first := getf s F.SCR_ARG_TAG_FIRST
    let n := getf s F.SCR_ARG_TAG_SPAN
    let d := getf s F.SCR_ARG_DSLOT
    if slKind (slotW0 s d) ≠ 5 ∨ slRange (slotW0 s d) ≠ r ∨ tagSpanOk s first n = false then done (scrResult s 2)
    else
      let s := setf (setf s (F.SCR_RNG_TAG_TAG_FIRST r) first) (F.SCR_RNG_TAG_TAG_SPAN r) n
      let s := setf (setf s (F.SCR_RNG_CTL_DSLOT r) d) (F.SCR_RNG_CTL_KSLOT r) slot.val
      if 8 * (spanGood s (8 + r)).length < (spanGood s d).length then done (scrResult s 3)
      else done (scrJob s 3 d ((List.range (spanGood s (8 + r)).length).map (Act.erase (8 + r)) ++ [.bound r, .endErase r false]))

/-- REKEY (R537). -/
def execRekey (key : Nat) (range : Fin 8) (slot : Fin 16) (s : State) : Host.Outcome State Fault Refusal :=
  let r := range.val
  if scrActs s key = false then done s
  else if isSet s F.SCR_STAT_BUSY then done (scrResult s 7)
  else if rngState s r ≠ 1 ∨ getf s (F.SCR_KSLOT_STATE slot.val) ≠ 1 then done (scrResult s 1)
  else if depotUsable s = false then done (scrResult s 4)
  else done (scrJob s 4 (rngSlot s r) (.rekey r slot.val :: ((List.range (rangeSectors s r)).map (Act.rescr r) ++ [.endRekey r])))

/-- ERASE (R536). -/
def execErase (key : Nat) (range : Fin 8) (unbind : Bool) (s : State) : Host.Outcome State Fault Refusal :=
  let r := range.val
  if scrActs s key = false then done s
  else if isSet s F.SCR_STAT_BUSY then done (scrResult s 7)
  else if rngState s r ≠ 1 then done (scrResult s 1)
  else if depotUsable s = false then done (scrResult s 4)
  else
    let s := { s with scrUnbind := if unbind then setBit s.scrUnbind r else clearBit s.scrUnbind r }
    done (scrJob s 5 (rngSlot s r) (.range r 4 :: ((List.range (rangeSectors s r)).map (Act.erase (rngSlot s r))
      ++ (List.range (spanGood s (8 + r)).length).map (Act.erase (8 + r)) ++ [.endErase r unbind])))

end Sys2Proof.Machine
end

