-- ==== Sys2Proof/Machine/Chain.lean ====
section
/-! DEFINITION. The Melnus chain link (12_melnus_chain_link.md): locks, training and the key, credits, acknowledgements and
replay, the loss of a link, and what a break does to the chain (R338, R352, R353). -/
namespace Sys2Proof.Machine

/-! ### Topology at the head -/

/-- Member `u`'s REACH bit, as ENU_REACH shows it. -/
def reachOf (s : State) (u : Nat) : Bool := bit (rd s (R.ENU_REACH (u / 32))).toNat (u % 32)

/-- Set or clear a unit's REACH bit, with its copy in the address table (Table 13-9). -/
def setReach (s : State) (u : Nat) (v : Bool) : State :=
  let a := R.ENU_REACH (u / 32)
  let s := wr s a (if v then rd s a ||| w32 (2 ^ (u % 32)) else rd s a &&& ~~~(w32 (2 ^ (u % 32))))
  setf s (F.ENU_TAB_FLG_REACH u) (b2n v)

/-- UNITS: members reachable. -/
def countUnits (s : State) : State :=
  setf s F.ENU_STAT_UNITS ((List.range 64).filter (fun u => 0 < u && reachOf s u)).length

/-- The host's reads through apertures to units that cannot be reached complete with Completer Abort (R256, Table 13-4). -/
def endWindows (s : State) : State :=
  let l := s.hif.winReads.filter (fun w => !unitReach s w.unit)
  let s := { s with hif := { s.hif with winReads := s.hif.winReads.filter (fun w => unitReach s w.unit) } }
  l.foldl (fun t _ => emit (satAdd t F.HIF_WIN_CNT_UNREACH 1) (.hostCpl .completerAbort [])) s

/-- Work addressed to unreachable units ends (Table 13-4): remote operations complete with REMOTE_UNREACHABLE. -/
def endUnreachable (s : State) : State :=
  let l := s.ops.filter (fun o => o.fwd && !unitReach s (opFld o 0 16 6))
  endWindows (completeAll s ⟨0x51, 0#32, 0#32⟩ l)

/-- The head floods TOPO_UPDATE and applies it itself (R352, R355); a round under way ends (R361). -/
def floodTopo (s : State) : State :=
  let s := countUnits (wrapAdd (sleepAbort s 3 0) F.ENU_GEN_GEN 1)
  let s := setf { s with enu := { s.enu with announced := hostUp s } } F.ENU_STAT_HOST_LINK (b2n (hostUp s))
  let s := sendMsg s 1 ⟨0x08, ownAddr s, toAll,
    [w32 (getf s F.ENU_GEN_GEN % 256 * 2 ^ 8 + b2n (hostUp s) * 2 ^ 16 + getf s F.HIF_CTL_LINK_POLICY * 2 ^ 17),
     rd s (R.ENU_REACH 0), rd s (R.ENU_REACH 1)], []⟩
  endUnreachable s

/-- The head takes a break beyond `reporter` (R352): every unit at a greater hop becomes unreachable. -/
def topoBreak (s : State) (reporter : Nat) : State :=
  let h := if reporter = 0 then 0 else getf s (F.ENU_TAB_FLG_HOP reporter)
  let s := (List.range 64).foldl (fun t u =>
    if 0 < u ∧ reachOf t u ∧ h < getf t (F.ENU_TAB_FLG_HOP u) then setReach t u false else t) s
  devEvent (raise (floodTopo s) F.ENU_EVT_BREAK) 4

/-! ### A member loses its head (R353) -/

/-- The payload reads of a member's operations end. -/
def endTunReads (s : State) : State :=
  let l := s.hif.reads.filterMap (fun r => match r.use with | .op t => opOf s t | _ => none)
  let s := { s with hif := { s.hif with reads := s.hif.reads.filter (fun r => match r.use with | .fetch _ => true | _ => false) } }
  l.foldl (fun t o => giveRet t o ⟨0x50, w32 o.prog, 0#32⟩) s

/-- The host link of the head is gone for this member (R353, R355). -/
def memberHostLoss (s : State) : State := applyLoss (endTunReads s)

/-- A member whose UP port leaves UP: UNASSIGNED, its host link lost, its remote operations unreachable. -/
def unassign (s : State) : State :=
  let s := setf (setf s F.ENU_STAT_ROLE 0) F.ENU_STAT_ADDR 0
  let s := { s with enu := { s.enu with voted := false, voting := false, token := none } }
  let s := setf s F.ENU_SLEEP_STAT_PHASE 0
  let s := completeAll s ⟨0x51, 0#32, 0#32⟩ (s.ops.filter (fun o => o.fwd))
  memberHostLoss s

/-! ### Port states (Tables 12-4 and 12-5) -/

/-- The domain of a port. -/
def portDom (p : Nat) : Nat := 2 + p

/-- A port enters a state from which training starts, or which ends it: its locks and what it knew of the partner go. -/
def portRestart (s : State) (p st : Nat) : State :=
  let s := wr s (R.CHN_PSTAT p) (w32 (st + getf s (F.CHN_PSTAT_FAIL p) * 2 ^ 16))
  showReplay (setPort s p {}) p

/-- TRAIN of a port: its role, its state and its PARAM_OK (Table 12-3); on both lanes. -/
def sendTrain (s : State) (p : Nat) : State :=
  let st := getf s (F.CHN_PSTAT_STATE p) - 1
  let v (lane : Nat) : Nat := lane + 4 * p + 8 * st + 64 * b2n (port s p).ownOk + 128
  ctl (ctl s p 0x10 (v 0) 0) p 0x10 (v 1) 0

/-- The port goes on to a training state. -/
def trainTo (s : State) (p st : Nat) : State := sendTrain (setf s (F.CHN_PSTAT_STATE p) st) p

/-- The port may train: EN is 1, no PRBS, and its domain is in service (R319). -/
def portRuns (s : State) (p : Nat) : Bool :=
  isSet s (F.CHN_PCTL_EN p) && !isSet s (F.CHN_PRBS_TX_EN p) && !isSet s (F.CHN_PRBS_CHK_EN p) && !away s (portDom p)

/-- A port that may train begins to (R320). -/
def portStart (s : State) (p : Nat) : State :=
  if portRuns s p && decide (getf s (F.CHN_PSTAT_STATE p) = 0) then sendTrain (portRestart s p 1) p else s

/-- What leaving UP discards at once (R338); cells of messages passed through are free again where they came in. -/
def dropLink (s : State) (p : Nat) : State :=
  let x := port s p
  let s := satAdd s (F.CHN_LOST_LOST_MSGS p) x.replay.length
  let s := x.waits.foldl (fun t w => match w.src with
    | some q => freeCells (satAdd t F.ENU_CNT_NOROUTE 1) q (msgVl w.m.ty) (msgCells w.m)
    | none => t) s
  let s := (List.range 4).foldl (fun t v => wr t (R.LDG_CHN (4 * p + v)) 0#32) s
  let s := setf (satAdd s (F.CHN_CNT2_LINK_DOWNS p) 1) (F.CHN_KEYGEN_KEYCHK p) 0
  raise s (F.CHN_EVT_DOWN p)

/-- A break (R352): beyond the DOWN port for a member or the head, of the UP link for a member (R353). -/
def onBreak (s : State) (p : Nat) : State :=
  if p = 0 then (if isMember s then unassign s else s)
  else if isHead s then topoBreak s 0
  else if isMember s then sendMsg s 0 ⟨0x07, ownAddr s, 0, [w32 (ownAddr s * 2 ^ 8)], []⟩
  else s

/-- A round that came in on the lost port ends (R195). -/
def onRoundLost (s : State) (p : Nat) : State :=
  match s.load.round with
  | some r => if p = 0 then roundAborted s r 7 else { s with load := { s.load with outBuf := [], sent := [] } }
  | none => s

/-- The port leaves its state for `st`; leaving UP is a break unless the exit belongs to a sleep (R338, R363). -/
def portDown (s : State) (p st : Nat) : State :=
  if portUp s p then
    let slept := (port s p).quiet || s.enu.committed
    let s := portRestart (dropLink s p) p st
    let s := onRoundLost s p
    if slept then s else onBreak s p
  else portRestart s p st

/-- Back to BLOCK with a FAIL code. -/
def toBlock (s : State) (p fail : Nat) : State :=
  sendTrain (portDown (setf s (F.CHN_PSTAT_FAIL p) fail) p 1) p

/-- The bytes of a link key (R324). -/
def keyBytes (k : Nat) : List Byte := leBytes 16 k

/-- The key is installed and messages flow (R324, R333): the books take the partner's capacities, all counts are 0. -/
def portEnterUp (s : State) (p : Nat) (k : Nat) : State :=
  let x := port s p
  let s := setPort s p { partner := x.partner, partnerOk := x.partnerOk, caps := x.caps, ownOk := x.ownOk, key := some k }
  let s := (List.range 4).foldl (fun t v =>
    setf (setf t (F.LDG_CHN_CAP (4 * p + v)) (vlGet x.caps v)) (F.LDG_CHN_AVAIL (4 * p + v)) (vlGet x.caps v)) s
  let s := satAdd (setf s (F.CHN_KEYGEN_KEYCHK p) (crc32c (keyBytes k)).toNat) (F.CHN_KEYGEN_TRAININGS p) 1
  let s := raise (setf s (F.CHN_PSTAT_STATE p) 5) (F.CHN_EVT_UP p)
  if p = 0 ∧ s.load.reqs = 0 then sendImageReq s else s

/-- KEY0 to KEY10 (Table 12-3). -/
def sendKey (s : State) (p k : Nat) : State :=
  (List.range 11).foldl (fun t n => ctl t p (0x20 + n) (k / 2 ^ (12 * n) % 4096) 0) s

/-- KEY is entered: the DOWN port side draws a fresh key, a free value, and sends it (R324). -/
def enterKey (s : State) (p : Nat) : State :=
  let s := trainTo s p 4
  if p = 1 then
    let k := (freeVal s).toNat + 2 ^ 64 * (freeVal (drawn s)).toNat
    let s := drawn (drawn s)
    sendKey (setPort s p { port s p with key := some k }) p k
  else s

/-- The partner's parameters are held: TRAIN and four capacities (R323). -/
def paramsHeld (x : Port) : Bool := x.partner.isSome && (List.range 4).all (fun v => (sget v x.caps).isSome)

/-- PARAM's exchange: PARAM_OK is set once the parameters are held, and the stage ends when the partner's is seen (R323). -/
def paramStep (s : State) (p : Nat) : State :=
  if getf s (F.CHN_PSTAT_STATE p) ≠ 3 then s
  else
    let x := port s p
    let s := if paramsHeld x && !x.ownOk then sendTrain (setPort s p { x with ownOk := true }) p else s
    if paramsHeld x && x.partnerOk then enterKey s p else s

/-- CAP of every lane as this unit advertises it (R321). -/
def sendCaps (s : State) (p : Nat) : State :=
  [(0, 64), (1, 1024), (2, 1024), (3, 2048)].foldl (fun t c => ctl t p 0x11 c.2 c.1) s

/-! ### Lock commands (R315 to R318) -/

/-- The port decodes blocks: it is neither DISABLED nor in PRBS. -/
def coding (s : State) (p : Nat) : Bool :=
  decide (1 ≤ getf s (F.CHN_PSTAT_STATE p)) && decide (getf s (F.CHN_PSTAT_STATE p) ≤ 5)

/-- LANE_BLOCK_LOCK: with the invalid headers met in the search. -/
def execLaneBlockLock (p lane : Fin 2) (slips : Nat) (s : State) : Host.Outcome State Fault Refusal :=
  if !coding s p.val then done s
  else
    let s := satAdd s (F.CHN_CNT0_HDR_ERR p.val) slips
    let s := setf s (F.CHN_PSTAT_BLK p.val) (setBit (getf s (F.CHN_PSTAT_BLK p.val)) lane.val)
    done (if getf s (F.CHN_PSTAT_STATE p.val) = 1 ∧ getf s (F.CHN_PSTAT_BLK p.val) = 3 then trainTo s p.val 2 else s)

/-- A stomped copy of the message that was being passed through from the lost port (R336, R338). -/
def stompCopy (s : State) (p : Nat) (fwd : Option Msg) : State :=
  match fwd with
  | some m => if portUp s p then queueMsg s (1 - p) none true m else s
  | none => s

/-- LANE_BLOCK_LOCK_LOST: with the invalid headers counted, and a message that was being passed through. -/
def execLaneBlockLockLost (p lane : Fin 2) (bad : Nat) (fwd : Option Msg) (s : State) : Host.Outcome State Fault Refusal :=
  if !coding s p.val || !bit (getf s (F.CHN_PSTAT_BLK p.val)) lane.val then done s
  else
    let s := satAdd s (F.CHN_CNT0_HDR_ERR p.val) bad
    if getf s (F.CHN_PSTAT_STATE p.val) = 1 then
      done (setf s (F.CHN_PSTAT_BLK p.val) (clearBit (getf s (F.CHN_PSTAT_BLK p.val)) lane.val))
    else done (toBlock (stompCopy s p.val fwd) p.val 9)

/-- LANE_FRAME_LOCK: polarity is found in the FRAME stage only (R317); with both lanes framed at a skew of at most 16 blocks the
stage ends (R318). -/
def execLaneFrameLock (p lane : Fin 2) (inverted : Bool) (skew : Nat) (s : State) : Host.Outcome State Fault Refusal :=
  if getf s (F.CHN_PSTAT_STATE p.val) ≠ 2 then done s
  else
    let s := setf s (F.CHN_PSTAT_FRM p.val) (setBit (getf s (F.CHN_PSTAT_FRM p.val)) lane.val)
    let s := if inverted then setf s (F.CHN_PSTAT_INV p.val) (setBit (getf s (F.CHN_PSTAT_INV p.val)) lane.val) else s
    if getf s (F.CHN_PSTAT_FRM p.val) = 3 ∧ skew ≤ 16 then
      done (sendCaps (trainTo (setf s (F.CHN_PSTAT_SKEW p.val) skew) p.val 3) p.val)
    else done s

/-- LANE_FRAME_LOCK_LOST. -/
def execLaneFrameLockLost (p lane : Fin 2) (fwd : Option Msg) (s : State) : Host.Outcome State Fault Refusal :=
  if !coding s p.val || !bit (getf s (F.CHN_PSTAT_FRM p.val)) lane.val then done s
  else done (toBlock (stompCopy s p.val fwd) p.val 9)

/-! ### Training commands -/

/-- TRAIN: lane order, role, version, RX_STATE and PARAM_OK of the partner, as the block on receive lane `rx` gives them. -/
def execTrain (p rx lane : Fin 2) (role : Fin 2) (rxState : Fin 8) (paramOk : Bool) (version : Fin 32) (s : State) :
    Host.Outcome State Fault Refusal :=
  let st := getf s (F.CHN_PSTAT_STATE p.val)
  if st ≠ 3 ∧ st ≠ 4 then done s
  else
    let s := setf s (F.CHN_PSTAT_CROSSED p.val) (b2n (rx != lane))
    if st = 3 ∧ role.val = p.val then done (toBlock (raise s (F.CHN_EVT_ROLE_ERR p.val)) p.val 4)
    else if st = 3 ∧ version.val ≠ 1 then done (toBlock s p.val 5)
    else
      let x := port s p.val
      done (paramStep (setPort s p.val { x with partner := some (role.val, version.val, rxState.val), partnerOk := paramOk }) p.val)

/-- CAP (R322): a capacity below the limits fails PARAM. -/
def execCap (p : Fin 2) (vl : Fin 4) (cells : Fin 4096) (s : State) : Host.Outcome State Fault Refusal :=
  if getf s (F.CHN_PSTAT_STATE p.val) ≠ 3 then done s
  else if cells.val < (if vl.val = 0 then 18 else 262) then done (toBlock s p.val 6)
  else
    let x := port s p.val
    done (paramStep (setPort s p.val { x with caps := sput vl.val cells.val x.caps }) p.val)

/-- The key that eleven KEY blocks spell. -/
def linkKey (x : Port) : Option Nat :=
  if (List.range 11).all (fun n => (sget n x.keyParts).isSome) then
    some ((List.range 11).foldl (fun k n => k + (sget n x.keyParts).getD 0 % (if n = 10 then 256 else 4096) * 2 ^ (12 * n)) 0)
  else none

/-- The check of a key that KEY_ACK carries. -/
def keyCheck (k : Nat) : Nat := (crc32c (keyBytes k)).toNat % 4096

/-- KEY_BLOCK (R324): the UP port side answers a whole key with KEY_ACK. -/
def execKeyBlock (p : Fin 2) (n : Fin 11) (value : Fin 4096) (s : State) : Host.Outcome State Fault Refusal :=
  if p.val ≠ 0 ∨ getf s (F.CHN_PSTAT_STATE p.val) ≠ 4 then done s
  else
    let x := port s p.val
    let s := setPort s p.val { x with keyParts := sput n.val value.val x.keyParts }
    match linkKey (port s p.val) with
    | some k => done (ctl s p.val 0x2B (keyCheck k) 0)
    | none => done s

/-- KEY_ACK (R324): a matching check brings LINK_UP and UP; otherwise the key is repeated. -/
def execKeyAck (p : Fin 2) (value : Fin 4096) (s : State) : Host.Outcome State Fault Refusal :=
  if p.val ≠ 1 ∨ getf s (F.CHN_PSTAT_STATE p.val) ≠ 4 then done s
  else
    match (port s p.val).key with
    | none => done s
    | some k =>
      if value.val = keyCheck k then done (portEnterUp (ctl s p.val 0x2C 0 0) p.val k)
      else done (sendKey s p.val k)

/-- LINK_UP (R324): the UP port side installs the key and sends LINK_UP in return. -/
def execLinkUp (p : Fin 2) (s : State) : Host.Outcome State Fault Refusal :=
  if p.val ≠ 0 ∨ getf s (F.CHN_PSTAT_STATE p.val) ≠ 4 then done s
  else
    match linkKey (port s p.val) with
    | some k => done (portEnterUp (ctl s p.val 0x2C 0 0) p.val k)
    | none => done s

/-- TRAIN_TIMEOUT (Table 12-5): back to BLOCK with the stage's code; two framed lanes that could not be aligned are SKEW. -/
def execTrainTimeout (p : Fin 2) (s : State) : Host.Outcome State Fault Refusal :=
  match getf s (F.CHN_PSTAT_STATE p.val) with
  | 1 => done (toBlock s p.val 1)
  | 2 => done (toBlock s p.val (if getf s (F.CHN_PSTAT_FRM p.val) = 3 then 3 else 2))
  | 3 => done (toBlock s p.val 6)
  | 4 => done (toBlock s p.val 7)
  | _ => done s

/-- EN as written: 0 disables the port, 1 starts it (R319). -/
def setPortEn (s : State) (p : Nat) (en : Bool) : State :=
  let s := setf s (F.CHN_PCTL_EN p) (b2n en)
  if en then portStart s p
  else if getf s (F.CHN_PSTAT_STATE p) = 6 then s
  else portDown s p 0

/-- CHN_PORT_EN. -/
def execChnPortEn (p : Fin 2) (en : Bool) (s : State) : Host.Outcome State Fault Refusal :=
  if regAway s (R.CHN_PCTL p.val) then done s else done (setPortEn s p.val en)

/-- CHN_RETRAIN (R319, R339): UP, KEY and PARAM return to BLOCK at once. -/
def execChnRetrain (p : Fin 2) (s : State) : Host.Outcome State Fault Refusal :=
  if regAway s (R.CHN_PCTL p.val) then done s
  else if 3 ≤ getf s (F.CHN_PSTAT_STATE p.val) ∧ getf s (F.CHN_PSTAT_STATE p.val) ≤ 5 then
    done (sendTrain (portDown s p.val 1) p.val)
  else done s

/-- PRBS mode as written: entering it from UP is a link loss (R339); the errors are cleared as CHK_EN rises. -/
def setPrbs (s : State) (p : Nat) (tx chk : Bool) : State :=
  let s := if chk && !isSet s (F.CHN_PRBS_CHK_EN p) then wr s (R.CHN_PRBS_ERR p) 0#32 else s
  let s := setf (setf s (F.CHN_PRBS_TX_EN p) (b2n tx)) (F.CHN_PRBS_CHK_EN p) (b2n chk)
  if tx || chk then (if getf s (F.CHN_PSTAT_STATE p) = 6 then s else portDown s p 6)
  else if getf s (F.CHN_PSTAT_STATE p) = 6 then portStart (portRestart s p 0) p
  else s

/-- CHN_PRBS: with the bit errors that the checker of each lane has met since the last write (log entry 20). -/
def execChnPrbs (p : Fin 2) (tx chk : Bool) (err0 err1 : Nat) (s : State) : Host.Outcome State Fault Refusal :=
  if regAway s (R.CHN_PRBS p.val) then done s
  else
    let s := if isSet s (F.CHN_PRBS_CHK_EN p.val) then
        satAdd (satAdd s (F.CHN_PRBS_ERR_LANE0 p.val) err0) (F.CHN_PRBS_ERR_LANE1 p.val) err1 else s
    done (setPrbs s p.val tx chk)

/-! ### Credits (R331, R332) -/

/-- CREDIT: the cells that the partner has freed since its last count come back. -/
def execCredit (p : Fin 2) (vl : Fin 4) (value : Fin 4096) (s : State) : Host.Outcome State Fault Refusal :=
  if !portUp s p.val then done s
  else
    let x := port s p.val
    let n := (value.val + 4096 - vlGet x.credited vl.val % 4096) % 4096
    let s := setPort s p.val { x with credited := sset 0 vl.val value.val x.credited }
    let a := F.LDG_CHN_AVAIL (4 * p.val + vl.val)
    done (flushPort (setf s a (min (getf s (F.LDG_CHN_CAP (4 * p.val + vl.val))) (getf s a + n))) p.val)

/-- CSYNC: the freed count becomes the cells sent minus the cells held. -/
def execCsync (p : Fin 2) (vl : Fin 4) (value : Fin 4096) (s : State) : Host.Outcome State Fault Refusal :=
  if !portUp s p.val then done s
  else
    let x := port s p.val
    let f := vlGet x.freed vl.val
    let n := (value.val + 8192 - vlGet x.held vl.val % 4096 - f % 4096) % 4096
    done (setPort s p.val { x with freed := sset 0 vl.val (f + n) x.freed, unret := vlAdd x.unret vl.val n })

/-- CREDIT_RETURN_DUE: the cumulative freed count of a lane goes out. -/
def execCreditReturnDue (p : Fin 2) (vl : Fin 4) (s : State) : Host.Outcome State Fault Refusal :=
  if !portUp s p.val then done s
  else
    let x := port s p.val
    done (ctl (setPort s p.val { x with unret := sset 0 vl.val 0 x.unret }) p.val 0x03 (vlGet x.freed vl.val) vl.val)

/-- CSYNC_DUE. -/
def execCsyncDue (p : Fin 2) (s : State) : Host.Outcome State Fault Refusal :=
  if portUp s p.val then done (sendCsync s p.val) else done s

/-! ### Acknowledgement and replay (R334, R335) -/

/-- ACK of the last message accepted in order. -/
def sendAck (s : State) (p : Nat) : State :=
  let x := port s p
  ctl (setPort s p { x with unacked := 0 }) p 0x05 (x.rxSeq + 4095) 0

/-- ACK_DUE. -/
def execAckDue (p : Fin 2) (s : State) : Host.Outcome State Fault Refusal :=
  if portUp s p.val && decide (0 < (port s p.val).unacked) then done (sendAck s p.val) else done s

/-- Messages up to the one with this LSEQ leave the replay buffer. -/
def dropTo (seq : Nat) : List Rep → List Rep
  | [] => []
  | r :: t => if r.seq = seq then t else dropTo seq t

/-- ACK: one that names an LSEQ not in the buffer is ignored. -/
def execAck (p : Fin 2) (seq : Fin 4096) (s : State) : Host.Outcome State Fault Refusal :=
  let x := port s p.val
  if portUp s p.val && x.replay.any (fun r => r.seq == seq.val) then
    done (flushPort (setPort s p.val { x with replay := dropTo seq.val x.replay }) p.val)
  else done s

/-- Replay from an LSEQ (R335); where the oldest of these has been replayed 4 times already, the link goes down. -/
def replayFrom (s : State) (p seq : Nat) : State :=
  let x := port s p
  let l := x.replay.dropWhile (fun r => r.seq != seq)
  match l with
  | [] => s
  | r :: _ =>
    if 4 ≤ r.times then toBlock (raise s (F.CHN_EVT_REPLAY_LIMIT p)) p 8
    else
      let k := x.replay.length - l.length
      let y := { x with replay := x.replay.take k ++ l.map (fun e => { e with times := e.times + 1 }), again := l.map (·.seq) }
      flushPort (satAdd (setPort s p y) (F.CHN_CNT1_REPLAYS p) 1) p

/-- NAK. -/
def execNak (p : Fin 2) (seq : Fin 4096) (s : State) : Host.Outcome State Fault Refusal :=
  if portUp s p.val then done (replayFrom s p.val seq.val) else done s

/-- REPLAY_TIMER: from the oldest message. -/
def execReplayTimer (p : Fin 2) (s : State) : Host.Outcome State Fault Refusal :=
  match (port s p.val).replay with
  | [] => done s
  | r :: _ => if portUp s p.val then done (replayFrom s p.val r.seq) else done s

/-- Cells of a message that was discarded on arrival are free (R331). -/
def spendCells (s : State) (p v n : Nat) : State :=
  let x := port s p
  setPort s p { x with freed := vlAdd x.freed v n, unret := vlAdd x.unret v n }

/-- NAK naming the LSEQ expected. -/
def sendNak (s : State) (p : Nat) : State := ctl s p 0x06 (port s p).rxSeq 0

/-- MESSAGE_DAMAGED (R334, R336): a message of `cells` cells on lane `vl` is discarded; `fwd` is the copy of it that was being
passed through, which ends stomped. -/
def execMessageDamaged (p : Fin 2) (why : Damage) (vl : Fin 4) (cells : Nat) (fwd : Option Msg) (s : State) :
    Host.Outcome State Fault Refusal :=
  if !portUp s p.val then done s
  else
    let x := port s p.val
    let s := setPort s p.val { x with mixRx := x.mixRx + cells }
    match why with
    | .header => done (sendNak (satAdd s (F.CHN_CNT1_MSG_CRC p.val) 1) p.val)
    | .payload =>
      let s := spendCells (satAdd s (F.CHN_CNT1_MSG_CRC p.val) 1) p.val vl.val cells
      done (sendNak (stompCopy s p.val fwd) p.val)
    | .stomp =>
      let s := spendCells (satAdd s (F.CHN_CNT2_STOMPED p.val) 1) p.val vl.val cells
      let y := port s p.val
      done (stompCopy (setPort s p.val { y with rxSeq := (y.rxSeq + 1) % 4096, unacked := y.unacked + 1 }) p.val fwd)
    | .later =>
      let s := spendCells (satAdd s (F.CHN_CNT3_SEQ_DISCARD p.val) 1) p.val vl.val cells
      let quietNow := match x.nakAt with | some t => decide (s.clk < t + 2000) | none => false
      done (if quietNow then s else sendNak (setPort s p.val { port s p.val with nakAt := some s.clk }) p.val)
    | .duplicate =>
      done (sendAck (spendCells (satAdd s (F.CHN_CNT3_SEQ_DISCARD p.val) 1) p.val vl.val cells) p.val)

/-- CONTROL_BLOCK_DISCARD (R313). -/
def execControlBlockDiscard (p : Fin 2) (s : State) : Host.Outcome State Fault Refusal :=
  if coding s p.val then done (satAdd s (F.CHN_CNT0_CTL_CRC p.val) 1) else done s

/-- STRAY_DATA_BLOCK (R327). -/
def execStrayDataBlock (p : Fin 2) (s : State) : Host.Outcome State Fault Refusal :=
  if portUp s p.val then done (satAdd s (F.CHN_CNT3_STRAY p.val) 1) else done s

/-- QUIET (R362, R363): the coming exit from UP belongs to a sleep. -/
def execQuiet (p : Fin 2) (s : State) : Host.Outcome State Fault Refusal :=
  if portUp s p.val then done (setPort s p.val { port s p.val with quiet := true }) else done s

end Sys2Proof.Machine
end

