-- ==== Sys2Proof/Machine/Nva.lean ====
section
/-! DEFINITION. The user NV array (08_user_nv_array.md): the command sequence, the engine with its suspends, descriptor
operations, line reads, the scrub and the write-protect bits. -/
namespace Sys2Proof.Machine

def setNva (s : State) (x : Nva) : State := { s with nva := x }

/-- Show the engine's state in NVA_STAT (Table 8-6). -/
def showNva (s : State) : State :=
  let x := s.nva
  let s := setf (setf s F.NVA_STAT_BUSY (b2n x.run.isSome)) F.NVA_STAT_SUSP (b2n (x.run.isSome && (x.susp != 0)))
  let s := setf (setf s F.NVA_STAT_BY (b2n (x.susp == 2))) F.NVA_STAT_NESTED (b2n x.below.isSome)
  setf s F.NVA_STAT_OP (match x.run with | some o => o.code | none => 0)

def nvEngine (s : State) (x : Nva) : State := showNva (setNva s x)

/-! ### The engine's checks and starts (R208, R209) -/

/-- Sector `k` is write-protected (R213). -/
def wpSet (s : State) (k : Nat) : Bool := bit (rd s (R.NVA_WP_SET (k / 32))).toNat (k % 32)

/-- Alignment unit of an opcode. -/
def nvUnit (code : Nat) : Nat :=
  match code with
  | 1 => 16
  | 2 => 256
  | 3 => 4096
  | 4 => 65536
  | _ => 1

/-- The engine takes a program or an erase now: it is IDLE, or a program of another block nests in a suspended erase
(Table 8-7). -/
def nvTakes (s : State) (code addr : Nat) : Bool :=
  match s.nva.run with
  | none => true
  | some x =>
    decide (code ≤ 2) && (s.nva.susp != 0) && s.nva.below.isNone && decide (3 ≤ x.code) && decide (x.addr / 65536 ≠ addr / 65536)

/-- The first check that a program or erase fails at its trigger: the code of Table 8-5. -/
def nvCheck (s : State) (code addr : Nat) : Option Nat :=
  let ks := nvSpan { code := code, addr := addr }
  let sectors := (List.range ks.2).map (fun i => ks.1 + i)
  if 0x800000 ≤ addr then some 4
  else if addr % nvUnit code ≠ 0 then some 3
  else if nvTakes s code addr = false then some 6
  else if sectors.any (wpSet s) then some 5
  else if code ≤ 2 ∧ s.nvIncomplete.contains (addr / 4096) then some 8
  else if 3 ≤ code ∧ 1000000 ≤ getf s (F.NVA_ECNT_COUNT (addr / 65536)) ∧ isSet s F.NVA_CTL_WEAR_STOP then some 9
  else none

/-- Put an operation on the engine; a suspended erase stays below a nested program. -/
def nvRun (s : State) (x : NvOp) : State :=
  let e := s.nva
  match e.run with
  | none => nvEngine s { e with run := some x, susp := 0, req := 0, resumed := false, guard := 0 }
  | some y => nvEngine s { e with run := some x, below := some y }

/-- The operation on the engine ends; a suspended erase below it returns. -/
def nvEnd (s : State) : State :=
  let e := s.nva
  match e.below with
  | some y => nvEngine s { e with run := some y, below := none }
  | none => nvEngine s { e with run := none, susp := 0, req := 0 }

/-- Sector `k` loses its contents: its bytes read erased, or undefined under the number of the next free value. -/
def nvWipe (s : State) (k : Nat) (undef : Bool) : State :=
  { s with nv := s.nv.filter (fun c => !(c.1 / 4096 == k)), nvFill := if undef then sput k s.free s.nvFill else sdel k s.nvFill }

/-- A sector's contents go: unlisted bytes are erased, or undefined while its erase is not complete. -/
def nvClear (s : State) (k : Nat) (undef : Bool) : State :=
  if undef then drawn (nvWipe s k true) else nvWipe s k false

/-- The sectors of an operation. -/
def nvSectors (x : NvOp) : List Nat := (List.range (nvSpan x).2).map (fun i => (nvSpan x).1 + i)

/-- An erase begins: counted in its block and in the total (R215); the wear past 1,000,000 is noted (R218). -/
def beginNvErase (s : State) (x : NvOp) : State :=
  let b := x.addr / 65536
  let s := if 1000000 ≤ getf s (F.NVA_ECNT_COUNT b) then raise9 s F.NVA_EVT_WORN_ERASE else s
  let s := satAdd s (F.NVA_ECNT_COUNT b) 1
  let tot := (rd s R.NVA_TOTAL_LO).toNat + 2 ^ 32 * (rd s R.NVA_TOTAL_HI).toNat + 1
  let s := wr (wr s R.NVA_TOTAL_LO (w32 tot)) R.NVA_TOTAL_HI (w32 (tot / 2 ^ 32))
  let s := (nvSectors x).foldl (fun t k => nvClear t k true) (wr s R.NVA_ERASE_SUSP 0#32)
  nvRun (setNva s { s.nva with began := some s.clk }) x

/-- The line at an offset reads all ones (R201). -/
def lineErased (s : State) (o : Nat) : Bool := (List.range 16).all (fun i => nvByte s (o + i) == 0xFF#8)

/-- The result of a register command: DONE and CMD_ERR. -/
def regEnd (s : State) (err : Nat) : State := setf (setf s F.NVA_STAT_CMD_ERR err) F.NVA_STAT_DONE 1

/-! ### Descriptor operations (R222, R225) -/

def nvOff (o : Op) : Nat := opFld o 6 0 23
def nvDspace (o : Op) : Bool := decide (opFld o 7 0 1 = 1)

/-- Status of a command error (Table 8-5). -/
def nvStatus (err : Nat) : Nat :=
  match err with
  | 0 => 0
  | 3 => 0x14
  | 4 => 0x14
  | 5 => 0x13
  | 7 => 0x14
  | 8 => 0x14
  | 9 => 0x41
  | 0xA => 0x40
  | _ => 0x20

/-- A descriptor operation ends with `n` bytes or units done. -/
def nvRet (s : State) (o : Op) (n err : Nat) : State := giveRet s o ⟨nvStatus err, w32 n, w32 err⟩

/-- The next unit of a program: a whole aligned page or a line. -/
def progUnit (o : Op) : Nat × Nat :=
  let a := nvOff o + o.prog
  if a % 256 = 0 ∧ 256 ≤ o.buf.length - o.prog then (2, 256) else (1, 16)

/-- Start the next unit of a descriptor operation, or end it. -/
def nvNext (s : State) (o : Op) : State :=
  if opcodeOf o = 0x50 then
    if o.buf.length ≤ o.prog then nvRet s o o.prog 0
    else
      let u := progUnit o
      let a := nvOff o + o.prog
      match nvCheck s u.1 a with
      | some e => nvRet s o o.prog e
      | none =>
        if lineErased s a = false then nvRet s o o.prog 7
        else nvRun s { code := u.1, addr := a, data := (o.buf.drop o.prog).take u.2, desc := some o.tag }
  else
    let code := if opFld o 7 1 1 = 1 then 4 else 3
    if dLength o.words ≤ o.prog then nvRet s o o.prog 0
    else
      let a := nvOff o + o.prog * nvUnit code
      match nvCheck s code a with
      | some e => nvRet s o o.prog e
      | none =>
        let note := decide (1000000 ≤ getf s (F.NVA_ECNT_COUNT (a / 65536)))
        beginNvErase (setOp s { o with note := o.note || note }) { code := code, addr := a, desc := some o.tag }

/-- The operation's turn: it is the oldest program or erase held, and the engine is IDLE. -/
def nvTurn (s : State) (tag code : Nat) : Option Op :=
  if s.nva.run.isSome ∨ away s 9 then none
  else match s.ops.find? (fun o => (opcodeOf o == 0x50 || opcodeOf o == 0x51) && !o.fwd && o.ret == none) with
    | some o => if o.tag = tag ∧ opcodeOf o = code ∧ o.started = false then some o else none
    | none => none

/-- NVA_PROG (R225): `h` is what host memory answered for the source. -/
def execNvaProg (tag : Nat) (h : ReadEnd) (s : State) : Host.Outcome State Fault Refusal :=
  match nvTurn s tag 0x50 with
  | none => done s
  | some o =>
    let n := dLength o.words
    let a := nvOff o
    if 0x800000 < a + n ∨ 65536 < a % 65536 + n then done (giveRet s o ⟨0x11, 0#32, 0#32⟩)
    else if a % 16 ≠ 0 then done (nvRet s o 0 3)
    else if nvDspace o ∧ ¬(0x500000 ≤ d64 o.words 4 ∧ d64 o.words 4 + n ≤ 0x800000) then done (nvRet s o 0 0xC)
    else
      let r := sourceBytes s (nvDspace o) (d64 o.words 4) n h
      match r.2 with
      | some e => done (giveRet (noteErr s e) o ⟨errStatus e, 0#32, 0xC#32⟩)
      | none =>
        let o := { o with started := true, buf := r.1 }
        done (nvNext (setOp s o) o)

/-- NVA_ERASE (R225). -/
def execNvaErase (tag : Nat) (s : State) : Host.Outcome State Fault Refusal :=
  match nvTurn s tag 0x51 with
  | none => done s
  | some o =>
    let u := if opFld o 7 1 1 = 1 then 65536 else 4096
    if nvOff o % u ≠ 0 then done (nvRet s o 0 3)
    else if 0x800000 < nvOff o + u * dLength o.words then done (giveRet s o ⟨0x11, 0#32, 0#32⟩)
    else
      let o := { o with started := true }
      done (nvNext (setOp s o) o)

/-! ### Reads (R203 to R205) -/

/-- A read of line `l` waits (R205): a running operation of its block; a program under way in it. -/
def nvWaits (s : State) (l : Nat) : Bool :=
  match s.nva.run with
  | none => false
  | some x => decide (x.addr / 65536 = l / 4096) && ((s.nva.susp == 0) || s.nva.below.isSome)

/-- The read's wait asks for an auto-suspend, unless the line is the one being programmed or a program is nested. -/
def askSuspend (s : State) (l : Nat) : State :=
  match s.nva.run with
  | none => s
  | some x =>
    let own := decide (x.code ≤ 2) && decide (x.addr / 16 ≤ l) && decide (l < x.addr / 16 + (if x.code = 2 then 16 else 1))
    if own || s.nva.below.isSome || s.nva.req != 0 then s else setNva s { s.nva with req := 1 }

/-- Queue a weak line (R226). -/
def queueWeak (s : State) (l : Nat) : State :=
  if s.nva.weak.contains l || decide (16 ≤ s.nva.weak.length) then s else setNva s { s.nva with weak := s.nva.weak ++ [l] }

/-- A read of a line met bit errors: 1 corrected, 2 or more uncorrectable (Table 8-2). -/
def nvEcc (s : State) (l err : Nat) : State :=
  if err = 0 then s
  else if err = 1 then queueWeak (satAdd s F.NVA_ECC_CORR 1) l
  else noteErr (raise9 (satAdd s F.NVA_ECC_UNCORR 1) F.NVA_EVT_UNCORR) .hole

/-- A yield of the scrub: YIELDS counts units of 1,024 (R227). -/
def nvYield (s : State) : State :=
  if s.nva.yields + 1 = 1024 then satAdd (setNva s { s.nva with yields := 0 }) F.NVA_SCRUB_STAT_YIELDS 1
  else setNva s { s.nva with yields := s.nva.yields + 1 }

/-- NVA_READ (R225, R204): `corr` are the lines of the range that a read corrected, `bad` the first with two or more bits in error. A
read that waits for the engine is taken up again later. -/
def takeNvaRead (tag : Nat) (corr : List Nat) (bad : Option Nat) (s : State) : Host.Outcome State Fault Refusal :=
  match opOf s tag with
  | none => done s
  | some o =>
    if opcodeOf o ≠ 0x52 ∨ o.fwd ∨ o.ret ≠ none ∨ away s 9 then done s
    else
      let a := nvOff o
      let n := dLength o.words
      if 0x800000 < a + n then done (giveRet s o ⟨0x11, 0#32, 0#32⟩)
      else
        let lines := nvLines a n
        match lines.find? (nvWaits s) with
        | some l => done (askSuspend s l)
        | none =>
          let stop := match bad with
            | some l => if lines.contains l then max a (16 * l) else a + n
            | none => a + n
          let bs := (List.range (stop - a)).map (fun i => nvRead s (a + i))
          let xo := xoLines s a (stop - a)
          let m := 0
          let s := (corr.filter (fun l => lines.contains l && decide (16 * l < stop))).foldl (fun t l => nvEcc t l 1) s
          let s := noteNvRead s m a (stop - a)
          let s := if stop < a + n then nvEcc s (stop / 16) 2 else s
          let w := moverPut s o.ctx (nvDspace o) (d64 o.words 4) bs
          let firstXo : W32 := match xo with | [] => 0#32 | l :: _ => w32 (16 * l)
          match w.2.2 with
          | some e => done (giveRet (noteErr w.1 e) o ⟨errStatus e, w32 w.2.1, firstXo⟩)
          | none =>
            if stop < a + n then
              done (giveRet w.1 o ⟨0x20, w32 w.2.1, if xo = [] then w32 (stop / 16 * 16) else firstXo⟩)
            else done (giveRet w.1 o ⟨if xo = [] then 0 else 0x22, w32 w.2.1, firstXo⟩)

/-- NV_LINE_READ (R203 to R205, R211): the arbiter grants master `m` a read of a line; `err` bits were found in error (0, 1, or 2 for
more), `fetch` for a Kite instruction fetch, `yields` when it took the turn from a waiting margin read. -/
def execNvLineRead (m : Nat) (line : Fin 524288) (err : Nat) (fetch yields : Bool) (s : State) : Host.Outcome State Fault Refusal :=
  let l := line.val
  if away s 9 then done (if 32 ≤ m then satAdd (emit s (.socket (m - 32) 1 [])) (F.FAB_SOCK_ERRS (m - 32)) 1 else s)
  else if nvWaits s l then done (askSuspend s l)
  else
    let s := if yields then nvYield s else s
    let s1 := nvEcc s l err
    if 2 ≤ err then done (if 32 ≤ m then satAdd (emit s1 (.socket (m - 32) 1 [])) (F.FAB_SOCK_ERRS (m - 32)) 1 else s1)
    else if fetch then done s1
    else
      let s2 := noteNvRead s1 m (16 * l) 16
      done (if 32 ≤ m then emit s2 (.socket (m - 32) 0 ((List.range 16).map (fun i => nvRead s (16 * l + i)))) else s2)

/-! ### The register sequence (R206, R207) -/

/-- The other master than the sequence's owner writes: ignored and counted. -/
def nvForeign (s : State) (m : Master) : Bool :=
  getf s F.NVA_STAT_SEQ != 0 && isSet s F.NVA_STAT_OWNER != (m == .kite)

/-- The sequence breaks: LOCKED with CMD_ERR = KEY. -/
def nvBreak (s : State) : State := setf (setf s F.NVA_STAT_SEQ 0) F.NVA_STAT_CMD_ERR 1

/-- NVA_KEY (R207, Table 8-3). -/
def execNvaKey (m : Master) (data : W32) (s : State) : Host.Outcome State Fault Refusal :=
  if regAway s R.NVA_KEY then done s
  else if nvForeign s m then done (satAdd s F.NVA_EVT_CNT_CONFLICT 1)
  else match getf s F.NVA_STAT_SEQ with
    | 0 => if data = 0xA55A#32 then done (setf (setf s F.NVA_STAT_SEQ 1) F.NVA_STAT_OWNER (b2n (m == .kite))) else done s
    | 1 => if data = 0x5AA5#32 then done (setf s F.NVA_STAT_SEQ 2) else done (nvBreak s)
    | _ => done (nvBreak s)

/-- NVA_CMD (R206, R207). -/
def execNvaCmd (m : Master) (data : W32) (s : State) : Host.Outcome State Fault Refusal :=
  if regAway s R.NVA_CMD then done s
  else if nvForeign s m then done (satAdd s F.NVA_EVT_CNT_CONFLICT 1)
  else match getf s F.NVA_STAT_SEQ with
    | 1 => done (nvBreak s)
    | 2 => done (setNva (setf s F.NVA_STAT_SEQ 3) { s.nva with cmd := data.toNat })
    | _ => done s

/-- NVA_SEQ_LAPSE (R207). -/
def execNvaSeqLapse (s : State) : Host.Outcome State Fault Refusal :=
  if getf s F.NVA_STAT_SEQ = 0 ∨ away s 9 then done s else done (nvBreak s)

/-- A write to the trigger register: refused where the block is away or the writer does not own the sequence; otherwise it is
stored, and it triggers where the opcode `code` is armed. -/
def nvTrig (m : Master) (a : Nat) (data : W32) (code : Nat) (s : State) (act : State → State) : State :=
  if regAway s a then s
  else if nvForeign s m then satAdd s F.NVA_EVT_CNT_CONFLICT 1
  else
    let s := wr s a data
    if getf s F.NVA_STAT_SEQ = 3 ∧ s.nva.cmd = code then act (setf s F.NVA_STAT_SEQ 0) else s

/-- Refuse a register command. -/
def nvDeny (s : State) (err : Nat) : State := setf s F.NVA_STAT_CMD_ERR err

/-- The line data of NVA_DATA0 to NVA_DATA3. -/
def nvRegData (s : State) : List Byte := wordsBytes ((List.range 4).map (fun i => rd s (R.NVA_DATA i)))

/-- PROGRAM_LINE (R208): the write of NVA_DATA3 triggers. -/
def execProgramLine (m : Master) (data : W32) (s : State) : Host.Outcome State Fault Refusal :=
  done (nvTrig m (R.NVA_DATA 3) data 1 s (fun s =>
    let a := (rd s R.NVA_ADDR).toNat
    match nvCheck s 1 a with
    | some e => nvDeny s e
    | none =>
      if lineErased s a = false then regEnd s 7
      else nvRun (nvDeny s 0) { code := 1, addr := a, data := nvRegData s }))

/-- NVA_PAGE_SRC names 256 bytes within one bank (R208). -/
def pageSrcOk (a : Nat) : Bool := decide (a % 16 = 0) && decide (a < 0x800000) && decide (a / 0x100000 = (a + 255) / 0x100000)

/-- PROGRAM_PAGE (R208): the write of NVA_ADDR triggers; a mover then reads the page. -/
def execProgramPage (m : Master) (addr : W32) (s : State) : Host.Outcome State Fault Refusal :=
  done (nvTrig m R.NVA_ADDR addr 2 s (fun s =>
    match nvCheck s 2 addr.toNat with
    | some e => nvDeny s e
    | none =>
      if pageSrcOk (rd s R.NVA_PAGE_SRC).toNat = false then nvDeny s 0xC
      else nvRun (nvDeny s 0) { code := 2, addr := addr.toNat, latch := true }))

/-- NVA_PAGE_LATCH_LOADED (R208): the page has been read from its bank; a bus error ends the command with SRC. -/
def execNvaPageLatchLoaded (s : State) : Host.Outcome State Fault Refusal :=
  match s.nva.run with
  | none => done s
  | some x =>
    if x.latch = false then done s
    else
      let r := readBytes s 256 (rd s R.NVA_PAGE_SRC).toNat
      match r.2 with
      | some e => done (regEnd (nvEnd (noteErr s e)) 0xC)
      | none => done (setNva s { s.nva with run := some { x with data := r.1, latch := false } })

/-- ERASE_SECTOR (R208). -/
def execEraseSector (m : Master) (addr : W32) (s : State) : Host.Outcome State Fault Refusal :=
  done (nvTrig m R.NVA_ADDR addr 3 s (fun s =>
    match nvCheck s 3 addr.toNat with
    | some e => nvDeny s e
    | none => beginNvErase (nvDeny s 0) { code := 3, addr := addr.toNat }))

/-- ERASE_BLOCK (R208). -/
def execEraseBlock (m : Master) (addr : W32) (s : State) : Host.Outcome State Fault Refusal :=
  done (nvTrig m R.NVA_ADDR addr 4 s (fun s =>
    match nvCheck s 4 addr.toNat with
    | some e => nvDeny s e
    | none => beginNvErase (nvDeny s 0) { code := 4, addr := addr.toNat }))

/-- SUSPEND (R219): of an auto-suspended operation at once; of a running one when it takes effect. -/
def execSuspend (m : Master) (addr : W32) (s : State) : Host.Outcome State Fault Refusal :=
  done (nvTrig m R.NVA_ADDR addr 5 s (fun s =>
    match s.nva.run with
    | none => nvDeny s 0xB
    | some _ =>
      if s.nva.susp = 1 then regEnd (nvEngine s { s.nva with susp := 2 }) 0
      else if s.nva.susp = 2 then regEnd s 0
      else setNva (nvDeny s 0) { s.nva with req := 2 }))

/-- RESUME (R219). -/
def execResume (m : Master) (addr : W32) (s : State) : Host.Outcome State Fault Refusal :=
  done (nvTrig m R.NVA_ADDR addr 6 s (fun s =>
    if s.nva.run.isNone ∨ s.nva.susp ≠ 2 then nvDeny s 0xB
    else if s.nva.below.isSome then nvDeny s 6
    else regEnd (nvEngine s { s.nva with susp := 0, resumed := true, guard := 0 }) 0))

/-- The incomplete-sector mask of a block. -/
def incompleteMask (s : State) (b : Nat) : Nat :=
  (List.range 16).foldl (fun m i => if s.nvIncomplete.contains (16 * b + i) then setBit m i else m) 0

/-- READ_COUNTER (R208). -/
def execReadCounter (m : Master) (addr : W32) (s : State) : Host.Outcome State Fault Refusal :=
  done (nvTrig m R.NVA_ADDR addr 7 s (fun s =>
    let b := addr.toNat
    if 127 < b then nvDeny s 4
    else if s.nva.run.isSome then nvDeny s 6
    else
      let s := wr s (R.NVA_DATA 0) (rd s (R.NVA_ECNT b))
      let s := wr s (R.NVA_DATA 1) (w32 (incompleteMask s b + min 65535 ((sget b s.nva.refreshed).getD 0) * 2 ^ 16))
      regEnd s 0))

/-! ### The engine's progress (R219 to R223) -/

/-- Lines of a page, programmed one by one; a line that is not erased stops the page. -/
def programLines (s : State) (a : Nat) (bs : List Byte) : Nat → State × Nat × Bool
  | 0 => (s, 0, true)
  | n + 1 =>
    if bs = [] then (s, 0, true)
    else if lineErased s a = false then (s, 0, false)
    else
      let r := programLines (nvPutBytes s a (bs.take 16)) (a + 16) (bs.drop 16) n
      (r.1, 16 + r.2.1, r.2.2)

/-- A unit of a descriptor operation has ended with an error code, or the next begins. -/
def nvUnitDone (s : State) (tag n err : Nat) : State :=
  match opOf s tag with
  | none => s
  | some o =>
    let o := { o with prog := o.prog + n }
    if err = 0 then nvNext (setOp s o) o else nvRet s o o.prog err

/-- NVA_PROGRAM_DONE (R223, R208): the program ends; `badLine` is the line of the unit that fails its verify, which is left
undefined. -/
def execNvaProgramDone (badLine : Option (Fin 16)) (s : State) : Host.Outcome State Fault Refusal :=
  match s.nva.run with
  | none => done s
  | some x =>
    if 3 ≤ x.code ∨ x.latch ∨ (s.nva.susp ≠ 0 ∧ s.nva.below = none) then done s
    else
      let good := match badLine with | some k => min x.data.length (16 * k.val) | none => x.data.length
      let r := programLines s x.addr (x.data.take good) 17
      let failed := decide (good < x.data.length) && r.2.2
      let s := if failed then nvPutBytes (drawn r.1) (x.addr + good) ((List.range 16).map (fun i => Config.undefByte 5 s.free i)) else r.1
      let err := if r.2.2 = false then 7 else if failed then 0xA else 0
      let s := nvEnd s
      match x.desc with
      | some t => done (nvUnitDone s t (if err = 0 then x.data.length else r.2.1) err)
      | none => done (regEnd s err)

/-- NVA_ERASE_PULSE (R220): a whole pulse of a running erase. -/
def execNvaErasePulse (s : State) : Host.Outcome State Fault Refusal :=
  match s.nva.run with
  | none => done s
  | some x =>
    if x.code < 3 ∨ s.nva.susp ≠ 0 then done s
    else
      let n := getf s F.NVA_ERASE_SUSP_PULSES
      done (setNva (setf s F.NVA_ERASE_SUSP_PULSES (min 480 (n + 1))) { s.nva with guard := s.nva.guard + 1 })

/-- Set the incomplete mark of every sector an erase covered (R224). -/
def markIncomplete (s : State) (x : NvOp) : State :=
  raise9 { s with nvIncomplete := (nvSectors x).foldl (fun l k => insertNat k l) s.nvIncomplete } F.NVA_EVT_INCOMPLETE

/-- The erase's time is held at its final value. -/
def holdAge (s : State) : State :=
  match s.nva.began with
  | some b => setNva (setf s F.NVA_ERASE_AGE_MS (min 0xFFFFFF ((s.clk - b) / 1000000))) { s.nva with began := none }
  | none => s

/-- NVA_ERASE_DONE (R223): the pulses and the verify end. -/
def execNvaEraseDone (ok : Bool) (s : State) : Host.Outcome State Fault Refusal :=
  match s.nva.run with
  | none => done s
  | some x =>
    if x.code < 3 ∨ s.nva.susp ≠ 0 then done s
    else
      let s := holdAge (nvEnd s)
      let s := if ok then
          (nvSectors x).foldl (fun t k => nvClear t k false) { s with nvIncomplete := s.nvIncomplete.filter (fun k => !erases x k) }
        else markIncomplete s x
      match x.desc with
      | some t => done (nvUnitDone s t (if ok then 1 else 0) (if ok then 0 else 0xA))
      | none => done (regEnd s (if ok then 0 else 0xA))

/-- The guard lets a suspend take effect (R221). -/
def guardOk (s : State) (x : NvOp) : Bool :=
  decide (x.code ≤ 2) || !isSet s F.NVA_CTL_GUARD_EN || !s.nva.resumed
  || decide (max 1 (getf s F.NVA_CTL_GUARD_PULSES) ≤ s.nva.guard)

/-- NVA_SUSPEND_EFFECT (R219 to R221): the suspend asked for takes effect; `cut` when it cuts a pulse off. -/
def execNvaSuspendEffect (cut : Bool) (s : State) : Host.Outcome State Fault Refusal :=
  match s.nva.run with
  | none => done s
  | some x =>
    if s.nva.req = 0 ∨ s.nva.susp ≠ 0 ∨ s.nva.below.isSome ∨ guardOk s x = false then done s
    else
      let by_ := s.nva.req
      let s := if 3 ≤ x.code then
          satAdd (satAdd s F.NVA_ERASE_SUSP_SUSPENDS 1) F.NVA_ERASE_SUSP_REPEATS (b2n cut) else s
      let s := nvEngine s { s.nva with susp := by_, req := 0 }
      done (if by_ = 2 then regEnd s 0 else s)

/-- NVA_AUTO_RESUME (R219). -/
def execNvaAutoResume (s : State) : Host.Outcome State Fault Refusal :=
  if s.nva.run.isSome ∧ s.nva.susp = 1 ∧ s.nva.below = none then
    done (nvEngine s { s.nva with susp := 0, resumed := true, guard := 0 })
  else done s

/-! ### Background scrub (R226 to R229) -/

/-- The scrub may read line `l`. -/
def scrubLineOk (s : State) (l : Nat) : Bool :=
  !s.nvIncomplete.contains (l / 256)
  && (match s.nva.run with | some x => decide (x.addr / 65536 ≠ l / 4096) | none => true)
  && (match s.nva.below with | some x => decide (x.addr / 65536 ≠ l / 4096) | none => true)

/-- The scrub runs. -/
def nvScrubOn (s : State) : Bool := !away s 9 && isSet s F.NVA_SCRUB_CTL_SCRUB_EN

/-- One margin read of the scrub's line. -/
def marginRead (s : State) (weak : Bool) : State :=
  let l := s.nva.line
  let s := if weak && scrubLineOk s l then queueWeak s l else s
  if l + 1 = 524288 then satAdd (setNva s { s.nva with line := 0 }) F.NVA_SCRUB_STAT_PASSES 1
  else setNva s { s.nva with line := l + 1 }

/-- One refresh of a weak line: its data stay (R226). -/
def refreshLine (s : State) : State :=
  match s.nva.weak with
  | [] => s
  | l :: t =>
    let b := l / 4096
    let n := (sget b s.nva.refreshed).getD 0
    satAdd (setNva s { s.nva with weak := t, refreshed := sput b (n + 1) s.nva.refreshed }) F.NVA_SCRUB_STAT_REFRESHED 1

/-- NV_SCRUB_MARGIN_READ (R226): the line fails its margin read when `weak`. -/
def execNvScrubMarginRead (weak : Bool) (s : State) : Host.Outcome State Fault Refusal :=
  if nvScrubOn s then done (marginRead s weak) else done s

/-- NV_SCRUB_REFRESH (R226, R227): one weak line, while the engine is IDLE. -/
def execNvScrubRefresh (s : State) : Host.Outcome State Fault Refusal :=
  if nvScrubOn s ∧ s.nva.run = none then done (refreshLine s) else done s

/-- NV_SCRUB_STARVE (R228): after 10 ms the scrub takes one line turn, or one refresh at a command boundary or a suspend. -/
def execNvScrubStarve (refresh weak : Bool) (s : State) : Host.Outcome State Fault Refusal :=
  if nvScrubOn s = false then done s
  else if refresh then (if s.nva.run = none ∨ s.nva.susp ≠ 0 then done (refreshLine s) else done s)
  else done (marginRead s weak)

/-! ### Write protection (R212) -/

/-- NVA_WP_SET. -/
def execNvaWpSet (idx : Fin 64) (data : W32) (s : State) : Host.Outcome State Fault Refusal :=
  if regAway s (R.NVA_WP_SET idx.val) then done s
  else done (wr s (R.NVA_WP_SET idx.val) (rd s (R.NVA_WP_SET idx.val) ||| data))

/-- NVA_WP_CLR. -/
def execNvaWpClr (idx : Fin 64) (data : W32) (s : State) : Host.Outcome State Fault Refusal :=
  if regAway s (R.NVA_WP_CLR idx.val) then done s
  else if isSet s F.NVA_WP_LOCK_LOCK then done (if data = 0#32 then s else raise s F.NVA_EVT_WP_CLR_DENIED)
  else done (wr s (R.NVA_WP_SET idx.val) (rd s (R.NVA_WP_SET idx.val) &&& ~~~data))

/-- NVA_WP_LOCK. -/
def execNvaWpLock (s : State) : Host.Outcome State Fault Refusal :=
  if regAway s R.NVA_WP_LOCK then done s else done (setf s F.NVA_WP_LOCK_LOCK 1)

/-- A program of the array is running: D9's drain cannot end (R108). -/
def nvProgramming (s : State) : Bool := match s.nva.run with | some x => decide (x.code ≤ 2) | none => false

/-- The erase that is running or suspended is abandoned (R108, R224). -/
def nvAbandon (s : State) : State :=
  let f (t : State) (x : Option NvOp) : State := match x with
    | some y => if 3 ≤ y.code then holdAge (markIncomplete t y) else t
    | none => t
  let s := f (f s s.nva.run) s.nva.below
  nvEngine s { s.nva with run := none, below := none, susp := 0, req := 0 }

end Sys2Proof.Machine
end

