-- ==== Sys2Proof/Machine/Fab.lean ====
section
/-! DEFINITION. The handshake fabric (02_handshake_fabric.md): calls, trim windows, pace, timing islands and their gates, static pins,
socket masters and the register window. -/
namespace Sys2Proof.Machine

/-! ### Calls (R78) -/

/-- FAB_CALL (R78, R47, Table 2-21): the call is delivered as three beats, the words of the body; a socket that accepts none, or whose
region is not powered, ends it. -/
def execFabCall (tag : Nat) (s : State) : Host.Outcome State Fault Refusal :=
  match opOf s tag with
  | none => done s
  | some o =>
    let k := dEngsel o.words
    if opcodeOf o ≠ 0x40 ∨ o.started ∨ o.fwd ∨ o.ret ≠ none then done s
    else if !isSet s (F.FAB_SOCK_CALL_EN k) || !regionIsOn s (k / 2) || !fabLive s then done (giveRet s o ⟨0x1B, 0#32, 0#32⟩)
    else done (emit (setOp s { o with started := true }) (.socketCall k (o.words.drop 4)))

/-- The statuses of s_status that pass as given: OK, OK_NOTE, BUS_ERROR and INTERNAL; any other becomes INTERNAL (R78). -/
def callStatus (v : Nat) : Nat := if v = 0 ∨ v = 1 ∨ v = 0x20 then v else 0x7F

/-- FAB_CALL_ANSWER (R78). -/
def execFabCallAnswer (tag status : Nat) (r0 r1 : W32) (s : State) : Host.Outcome State Fault Refusal :=
  match opOf s tag with
  | none => done s
  | some o =>
    if opcodeOf o ≠ 0x40 ∨ o.started = false ∨ o.ret ≠ none ∨ fabLive s = false then done s
    else done (giveRet s o ⟨callStatus status, r0, r1⟩)

/-! ### Trim (R50 to R57) -/

/-- Trim is suspended (R57). -/
def trimSuspended (s : State) : Bool :=
  decide (s.fab.image = []) || inReset s 11 || (fenced s 11 && (dom s 11).holders.contains 9)

/-- TRIM_WINDOW_DUE (R52, R54, R56): the window takes FAB_TRIM_CTL as it stands, and waits while trim_defer is high and honoured. -/
def execTrimWindowDue (defer : Bool) (s : State) : Host.Outcome State Fault Refusal :=
  let s := setFab s { s.fab with trimCtl := rd s R.FAB_TRIM_CTL, defer := defer }
  if !isSet s F.FAB_TRIM_CTL_TRIM_EN || trimSuspended s then done s
  else if defer && isSet s F.FAB_TRIM_CTL_DEFER_EN then done (setFab s { s.fab with trim := 1 })
  else done (trimBegin s)

/-- TRIM_DEFER_FALL (R54). -/
def execTrimDeferFall (s : State) : Host.Outcome State Fault Refusal :=
  let s := setFab s { s.fab with defer := false }
  if s.fab.trim = 1 ∧ trimSuspended s = false then done (trimBegin s) else done s

/-- TRIM_MAXDEFER_EXPIRY (R54): the window runs anyway. -/
def execTrimMaxdeferExpiry (s : State) : Host.Outcome State Fault Refusal :=
  if s.fab.trim = 1 ∧ trimSuspended s = false then done (trimBegin (satAdd s F.FAB_TRIM_STAT_FORCED 1)) else done s

/-- A region's tap setting moves by −1, 0 or +1 (`d` = 0, 1, 2). -/
def moveTap (s : State) (r : Nat) (d : Fin 3) : State :=
  setFab s { s.fab with taps := sput r ((sget r s.fab.taps).getD 0#64 + BitVec.ofNat 64 d.val - 1#64) s.fab.taps }

/-- TRIM_STEP (R52, R53): in a window, each powered region in turn, FR0 first, up to STEPS times. -/
def execTrimStep (r : Fin 16) (d : Fin 3) (s : State) : Host.Outcome State Fault Refusal :=
  let n := (sget r.val s.fab.steps).getD 0
  if s.fab.trim = 2 ∧ trimSuspended s = false ∧ regionIsOn s r.val ∧ s.fab.steps.all (fun p => decide (p.1 ≤ r.val))
      ∧ n < max 1 (extractBits s.fab.trimCtl 12 4) then
    done (moveTap (setFab s { s.fab with steps := sput r.val (n + 1) s.fab.steps }) r.val d)
  else done s

/-- One alert step; `below1` when the drift is then below 1 %. -/
def alertStep (s : State) (r : Nat) (d : Fin 3) (below1 : Bool) : State :=
  let s := moveTap s r d
  setFab s { s.fab with alerts := if below1 then clearBit s.fab.alerts r else setBit s.fab.alerts r }

/-- DRIFT_ALERT (R55, R56): a region's drift reaches 2 %. -/
def execDriftAlert (r : Fin 16) (d : Fin 3) (below1 : Bool) (s : State) : Host.Outcome State Fault Refusal :=
  if trimSuspended s || !regionIsOn s r.val || bit s.fab.alerts r.val then done s
  else
    let s := setf s F.FAB_TRIM_ALERT_ALERT (setBit (getf s F.FAB_TRIM_ALERT_ALERT) r.val)
    done (alertStep (satAdd s F.FAB_TRIM_STAT_ALERT_TRIMS 1) r.val d below1)

/-- ALERT_TRIM_STEP (R55). -/
def execAlertTrimStep (r : Fin 16) (d : Fin 3) (below1 : Bool) (s : State) : Host.Outcome State Fault Refusal :=
  if trimSuspended s || !regionIsOn s r.val || !bit s.fab.alerts r.val then done s else done (alertStep s r.val d below1)

/-! ### Pace (R58, R59) -/

/-- TI11 is locked. -/
def ti11 (s : State) : Bool := s.tbu.tcxo && bit (getf s F.FAB_ISL_LOCK_LOCK) 11

/-- The pace of region `r` at the end of a gate that counted `c` turns. -/
def paceUpdate (s : State) (r c : Nat) : State :=
  if ti11 s && regionIsOn s r then
    let v := min 0xFFF (c / 100)
    let s := setf (setf s (F.FAB_PACE_NOW r) v) (F.FAB_PACE_VALID r) 1
    setf s (F.FAB_PACE_MIN r) (min (getf s (F.FAB_PACE_MIN r)) v)
  else setf (setf s (F.FAB_PACE_NOW r) 0) (F.FAB_PACE_VALID r) 0

/-- PACE_GATE_END (R58, R59): the counts of the 16 regions over the gate. -/
def execPaceGateEnd (counts : List Nat) (s : State) : Host.Outcome State Fault Refusal :=
  done ((List.range 16).foldl (fun t r => paceUpdate t r (counts.getD r 0)) s)

/-- FAB_PACE_CLR (R58, Table 2-16). -/
def execFabPaceClr (mask : BitVec 16) (s : State) : Host.Outcome State Fault Refusal :=
  done ((List.range 16).foldl (fun t r => if bit mask.toNat r then setf t (F.FAB_PACE_MIN r) 0xFFF else t) s)

/-- FAB_GATE_OVF_CLEAR (R67, Table 2-19). -/
def execFabGateOvfClear (s : State) : Host.Outcome State Fault Refusal :=
  done (setf (setf s F.FAB_GATE_OVF_COUNT 0) F.FAB_GATE_OVF_ISLAND 0)

/-! ### Islands (R65 to R71) -/

/-- ISLAND_LOSS_OF_LOCK (R71, Table 2-17): the event, the lock state (and with it isl_lock), and the clock gated off; a hardened
island's owner acts by its own rows, and without TI11 the pace counters read 0 (R59). -/
def execIslandLossOfLock (n : Fin 25) (s : State) : Host.Outcome State Fault Refusal :=
  let l := getf s F.FAB_ISL_LOCK_LOCK
  if !bit l n.val then done s
  else
    let s := setf (setf s F.FAB_ISL_LOL_LOL (setBit (getf s F.FAB_ISL_LOL_LOL) n.val)) F.FAB_ISL_LOCK_LOCK (clearBit l n.val)
    let s := if n.val = 11 then
        (List.range 16).foldl (fun t r => setf (setf t (F.FAB_PACE_NOW r) 0) (F.FAB_PACE_VALID r) 0) s
      else s
    done (setFab s { s.fab with clocks := clearBit s.fab.clocks n.val })

/-- Island `n` has what it locks to: a hardened island's group is powered, a user island's LOCK step is past and it is not disabled. -/
def islPowered (s : State) (n : Nat) : Bool :=
  if n < 14 then decide (n = 4) || (List.range 7).any (fun g => bit s.pwr.groups g && bit (groupIslands g) n)
  else islUsed s.fab.image s.fab.glob n && bit (getf s F.CFG_SEQ_STAT_STEPS) 0

/-- ISLAND_RELOCK (R71): the island resumes with no item lost. -/
def execIslandRelock (n : Fin 25) (s : State) : Host.Outcome State Fault Refusal :=
  if !islPowered s n.val then done s
  else
    let s := setf s F.FAB_ISL_LOCK_LOCK (setBit (getf s F.FAB_ISL_LOCK_LOCK) n.val)
    done (if 14 ≤ n.val then setFab s { s.fab with clocks := setBit s.fab.clocks n.val } else s)

/-- Items of gate `g` of user island `n`. -/
def gateItems (s : State) (n g : Nat) : List Nat := (sget (8 * n + g) s.fab.gates).getD []

def setGate (s : State) (n g : Nat) (l : List Nat) : State := setFab s { s.fab with gates := sset [] (8 * n + g) l s.fab.gates }

/-- A gate that the image uses on an island that is not disabled (R64). -/
def gateUsed (s : State) (n g : Nat) : Bool :=
  islUsed s.fab.image s.fab.glob n && bit (extractBits (islWord s.fab.image n 1) 0 8) g && !inReset s 11

/-- Its depth (R70). -/
def gateDepth (s : State) (n g : Nat) : Nat := 8 * 2 ^ extractBits (islWord s.fab.image n 0) (16 + 2 * g) 2

/-- GATE_CLOCK_WRITE (R65 to R67): a write in a clock cycle of user island 14 + `n` into inbound gate `g`; `full` is the level of the
full flag, which is high at least while the gate holds its depth. -/
def execGateClockWrite (n : Fin 11) (g : Fin 4) (v : BitVec 128) (full : Bool) (s : State) : Host.Outcome State Fault Refusal :=
  let k := 14 + n.val
  let l := gateItems s k g.val
  if !gateUsed s k g.val || !bit s.fab.clocks k then done s
  else if full || decide (gateDepth s k g.val ≤ l.length) then done (setf (satAdd s F.FAB_GATE_OVF_COUNT 1) F.FAB_GATE_OVF_ISLAND k)
  else done (setGate s k g.val (l ++ [v.toNat]))

/-- GATE_HANDSHAKE_POP (R65, R68, R71): the fabric takes the oldest item, whether the island's clock runs or not; an empty gate gives
none. -/
def execGateHandshakePop (n : Fin 11) (g : Fin 4) (s : State) : Host.Outcome State Fault Refusal :=
  match gateItems s (14 + n.val) g.val with
  | [] => done s
  | v :: t =>
    if gateUsed s (14 + n.val) g.val then done (emit (setGate s (14 + n.val) g.val t) (.gate (14 + n.val) g.val v)) else done s

/-- HANDSHAKE_SIDE_WRITE (R65): the personality writes outbound gate 4 + `g`; its handshake waits while the gate is full. -/
def execHandshakeSideWrite (n : Fin 11) (g : Fin 4) (v : BitVec 128) (s : State) : Host.Outcome State Fault Refusal :=
  let k := 14 + n.val
  let l := gateItems s k (4 + g.val)
  if gateUsed s k (4 + g.val) && decide (l.length < gateDepth s k (4 + g.val)) then done (setGate s k (4 + g.val) (l ++ [v.toNat]))
  else done s

/-- CLOCK_SIDE_READ (R65, R71): the oldest item goes out on a clock edge; it waits while the clock is gated off. -/
def execClockSideRead (n : Fin 11) (g : Fin 4) (s : State) : Host.Outcome State Fault Refusal :=
  let k := 14 + n.val
  match gateItems s k (4 + g.val) with
  | [] => done s
  | v :: t =>
    if gateUsed s k (4 + g.val) && bit s.fab.clocks k then done (emit (setGate s k (4 + g.val) t) (.gate k (4 + g.val) v)) else done s

/-- STATIC_INPUT_CHANGE (R72, R85): a level held for 20 ns on static pin `pin` of I/O bank `b` reaches the fabric, unless the bank's
supply has browned out. -/
def execStaticInputChange (b : Fin 8) (pin : Nat) (level : Bool) (s : State) : Host.Outcome State Fault Refusal :=
  if bit s.pwr.railsOff (8 + b.val) || decide (s.fab.image = []) then done s
  else done (setFab s { s.fab with statics := sset 0 (8 * pin + b.val) (b2n level) s.fab.statics })

/-! ### Socket masters (R73, R74, R76) -/

/-- An error response. -/
def sockError (s : State) (k : Nat) : State := satAdd (emit s (.socket k 1 [])) (F.FAB_SOCK_ERRS k) 1

/-- What a socket master reaches (R73): the bank ports A of BANK5 to BANK7, directly or through an alias, or the NV array's read
window. -/
def sockReach (a : Nat) (write : Bool) : Bool :=
  match bankAddr a with
  | some b => decide (0x500000 ≤ b)
  | none => decide (0x10000000 ≤ a ∧ a < 0x10800000) && !write

/-- Write the beats of a burst. -/
def writeBeats (s : State) (a : Nat) : List (List Byte × List Bool) → State
  | [] => s
  | b :: t => writeBeats (writeBeat s a (b.1.take 16) b.2) (a + 16) t

/-- SOCKET_BURST (R73 to R76): a burst of `len` + 1 beats from `addr`. A burst that breaks R74 has no effect; a refused one (R38, R116,
R238) gets an error response. -/
def execSocketBurst (k : Fin 32) (addr : Nat) (len : Fin 16) (write : Bool) (beats : List (List Byte × List Bool)) (s : State) :
    Host.Outcome State Fault Refusal :=
  let n := 16 * (len.val + 1)
  if !isSet s (F.FAB_SOCK_EN k.val) || !regionIsOn s (k.val / 2) || !fabLive s then done s
  else if addr % 16 ≠ 0 ∨ 256 < addr % 256 + n then done (sockError s k.val)
  else if !sockReach addr write then done (sockError (noteErr s .hole) k.val)
  else match accessErr s addr write with
    | some e => done (sockError (noteErr s e) k.val)
    | none =>
      if write then done (emit (writeBeats s addr (beats.take (len.val + 1))) (.socket k.val 2 []))
      else
        let o := addr - 0x10000000
        match (if (bankAddr addr).isNone then (nvLines o n).find? (nvWaits s) else none) with
        | some l => done (askSuspend s l)
        | none =>
          let s := noteRead s (32 + k.val) addr n
          done ((List.range (len.val + 1)).foldl (fun t j => emit t (.socket k.val 0 (readBytes s 16 (addr + 16 * j)).1)) s)

/-! ### Register window (R41, R47, R77) -/

/-- A window access: answered as reserved space while the fabric is away (R41, R47), else delivered to the slave port, answered with
`ans` or waiting. -/
def winAccess (s : State) (k off : Nat) (w ans : Option W32) : State :=
  let a := 0x200000 + 0x10000 * k + off / 4 * 4
  if !winServed s k then
    let s := satAdd s F.FAB_WIN_CNT_COUNT 1
    if w.isNone then emit s (.regData a 0#32) else s
  else
    let s := emit s (.socketWin k (off / 4 * 4) w)
    match ans with
    | none => setFab s { s.fab with wins := s.fab.wins ++ [(k, off / 4 * 4, w)] }
    | some v => if w.isNone then emit s (.regData a v) else s

/-- FAB_WINDOW_ACCESS (R77): `ans` when the personality acknowledges within 100 µs, with the word of a read. -/
def execFabWindowAccess (k : Fin 32) (off : Fin 0x10000) (w ans : Option W32) (s : State) : Host.Outcome State Fault Refusal :=
  done (winAccess s k.val off.val w ans)

/-- An access that the personality has not answered or taken within 100 µs. -/
def winErr (s : State) (k : Nat) : State := satAdd s (F.FAB_SOCK_ERRS k) 1

/-- FAB_WINDOW_TIMEOUT (R77): the oldest access that waits at the socket ends. -/
def execFabWindowTimeout (k : Fin 32) (s : State) : Host.Outcome State Fault Refusal :=
  match s.fab.wins.find? (fun p => p.1 == k.val) with
  | none => done s
  | some p =>
    let s := winErr (setFab s { s.fab with wins := s.fab.wins.erase p }) k.val
    done (if p.2.2.isNone then emit s (.regData (0x200000 + 0x10000 * k.val + p.2.1) 0xFFFFFFFF#32) else s)

end Sys2Proof.Machine
end

