-- ==== Sys2Proof/Machine/Topo.lean ====
section
/-! DEFINITION. Head election, enumeration, the tunnel and the sleep vote (13_chain_topology_tunnel_and_sleep.md). -/
namespace Sys2Proof.Machine

/-- Word 0 of a message, bits. -/
def m0 (m : Msg) (lo n : Nat) : Nat := extractBits (m.w.getD 0 0#32) lo n

/-- Word `i` of a message. -/
def mw (m : Msg) (i : Nat) : W32 := m.w.getD i 0#32

/-- A 64-bit address of a message, from word `i`. -/
def mAddr (m : Msg) (i : Nat) : Nat := (mw m i).toNat + 2 ^ 32 * (mw m (i + 1)).toNat

def setEnu (s : State) (x : Enu) : State := { s with enu := x }

/-- The unit's role: 0 UNASSIGNED, 1 CANDIDATE, 2 HEAD, 3 MEMBER. -/
def role (s : State) : Nat := getf s F.ENU_STAT_ROLE

/-- Host memory comes back into reach when it was not before (R276, R353, R355). -/
def noteReach (before : Bool) (s : State) : State := if !before && hostReach s then applyReturn s else s

/-! ### Routing (R346) -/

/-- A DST message is for this unit. -/
def takesDst (s : State) (dst : Nat) : Bool :=
  ((isHead s || isMember s) && decide (ownAddr s = dst)) || (decide (dst = 0) && servesImages s)

/-- The type is listed (Tables 7-7, 13-3, 18-4). -/
def listedType (t : Nat) : Bool :=
  (1 ≤ t && t ≤ 0x0A) || (0x10 ≤ t && t ≤ 0x13) || (0x18 ≤ t && t ≤ 0x1C) || (0x20 ≤ t && t ≤ 0x24)
  || (0x40 ≤ t && t ≤ 0x47) || (0x50 ≤ t && t ≤ 0x52)

/-- MESSAGE_FORWARD (R346, R347): a DST message for another unit goes out of the other port; a type that is not listed is
discarded and counted. -/
def execMessageForward (p : Fin 2) (m : Msg) (s : State) : Host.Outcome State Fault Refusal :=
  if !portUp s p.val then done s
  else if !listedType m.ty then
    done (freeCells (satAdd (acceptMsg s p.val m) F.ENU_CNT_NOROUTE 1) p.val (msgVl m.ty) (msgCells m))
  else if m.dst = toNext ∨ m.dst = toAll ∨ takesDst s m.dst then done s
  else done (passOn s p.val m)

/-- A DST message has arrived: what follows where this unit takes it; else it passes on. -/
def onDst (s : State) (p : Nat) (m : Msg) (f : State → State) : Host.Outcome State Fault Refusal :=
  if !portUp s p then done s
  else if takesDst s m.dst then done (f (takeMsg s p m))
  else done (passOn s p m)

/-- A FLOOD message from the head has arrived on the UP port: it goes on, and this unit takes it. -/
def onFlood (s : State) (m : Msg) (f : State → State) : Host.Outcome State Fault Refusal :=
  if portUp s 0 then done (f (takeFlood s 0 m m)) else done s

/-! ### Election (R341 to R344) -/

/-- PRIO (R342). -/
def ownPrio (s : State) : Nat :=
  getf s F.ENU_PRIO_HEAD_PRIO * 2 ^ 56 + (Config.dieLo.toNat + 2 ^ 32 * Config.dieHi.toNat) % 2 ^ 56

/-- Send this unit's BEACON out of both ports that are UP. -/
def sendBeacon (s : State) : State :=
  let m : Msg := ⟨0x01, ownAddr s, toAll, [w32 (b2n (isHead s) * 2 ^ 8), w32 (ownPrio s), w32 (ownPrio s / 2 ^ 32)], []⟩
  sendMsg (sendMsg s 0 m) 1 m

/-- BECOME_CANDIDATE (R341): HEAD_EN sampled high, the host link in L0, and no election lost or membership in this start. -/
def execBecomeCandidate (s : State) : Host.Outcome State Fault Refusal :=
  if role s = 0 ∧ s.pwr.headEn ∧ isSet s F.HIF_STAT_LINK_UP ∧ s.enu.lost = false ∧ s.enu.tunneled = false ∧ inReset s 1 = false then
    done (sendBeacon (setf s F.ENU_STAT_ROLE 1))
  else done s

/-- BEACON (R342, R343): forwarded; a candidate yields to a higher one or to a head, and answers a lower one later; a head answers
every one. -/
def execBeacon (p : Fin 2) (m : Msg) (s : State) : Host.Outcome State Fault Refusal :=
  if !portUp s p.val then done s
  else
    let s := takeFlood s p.val m m
    if role s = 1 then
      if m0 m 8 1 = 1 ∨ ownPrio s < mAddr m 1 then
        done (raise (setf (setEnu s { s.enu with lost := true, backoff := false }) F.ENU_STAT_ROLE 0) F.ENU_EVT_LOST_ELECTION)
      else done (setEnu s { s.enu with backoff := true })
    else if isHead s then done (sendBeacon s)
    else done s

/-- BEACON_BACKOFF_EXPIRY (R342). -/
def execBeaconBackoffExpiry (s : State) : Host.Outcome State Fault Refusal :=
  if role s = 1 ∧ s.enu.backoff then done (sendBeacon (setEnu s { s.enu with backoff := false })) else done s

/-! ### Walks (R348, R349) -/

/-- The TOKEN, out of the DOWN port. -/
def sendToken (s : State) (hop walk : Nat) : State :=
  sendMsg s 1 ⟨0x03, ownAddr s, toNext, [w32 (hop * 2 ^ 8 + walk * 2 ^ 16)], []⟩

/-- The walk ends: TOPO_UPDATE is flooded and WALK_DONE is set. -/
def walkEnd (s : State) : State := raise (floodTopo (setf s F.ENU_STAT_WALKING 0)) F.ENU_EVT_WALK_DONE

/-- The head starts a walk with a new number: from itself, or by WALK_START from unit `a`; a sleep round ends. -/
def startWalk (s : State) (a : Nat) (part : Bool) : State :=
  let w := (s.enu.walk + 1) % 2 ^ 16
  let s := setf (setEnu (sleepAbort s 3 0) { (sleepAbort s 3 0).enu with walk := w, partWalk := part }) F.ENU_STAT_WALKING 1
  if a = 0 then (if portUp s 1 then sendToken s 1 w else walkEnd s)
  else sendMsg s 1 ⟨0x02, ownAddr s, a, [w32 ((getf s (F.ENU_TAB_FLG_HOP a) + 1) * 2 ^ 8 + w * 2 ^ 16)], []⟩

/-- ELECTION_WIN (R341, R344, R349): the candidate is head with address 0, and walks. -/
def execElectionWin (s : State) : Host.Outcome State Fault Refusal :=
  if role s ≠ 1 ∨ s.enu.backoff then done s
  else
    let s := setf (setf (setf s F.ENU_STAT_ROLE 2) F.ENU_STAT_ADDR 0) F.ENU_STAT_HOP 0
    let s := setEnu (setf (setf s F.ENU_OWN_OLD_ADDR 0) F.ENU_OWN_HAD_ADDR 1) { s.enu with tunneled := false }
    let s := wr (wr (wr s (R.ENU_TAB_DLO 0) Config.dieLo) (R.ENU_TAB_DHI 0) Config.dieHi) (R.ENU_TAB_FLG 0) 1#32
    let s := setReach s 0 true
    let s := if portUp s 0 then alarmUpdate (setf s F.ENU_STAT_MISPLACED 1) else s
    done (startWalk s 0 false)

/-- WALK (R348): ENU_CTL.WALK is written on the head. -/
def execWalk (s : State) : Host.Outcome State Fault Refusal :=
  if isHead s && !regAway s R.ENU_CTL then done (startWalk s 0 false) else done s

/-- PARTIAL_WALK (R348): the DOWN port of unit `a` has entered UP. -/
def execPartialWalk (a : Fin 64) (s : State) : Host.Outcome State Fault Refusal :=
  if isHead s && isSet s F.ENU_CTL_AUTO_WALK && reachOf s a.val then done (startWalk s a.val true) else done s

/-- TOKEN_END to the head. -/
def sendTokenEnd (s : State) (hop walk : Nat) : State :=
  sendMsg s 0 ⟨0x06, ownAddr s, 0, [w32 (hop * 2 ^ 8 + walk * 2 ^ 16)], []⟩

/-- WALK_START (R348). -/
def execWalkStart (p : Fin 2) (m : Msg) (s : State) : Host.Outcome State Fault Refusal :=
  onDst s p.val m (fun s =>
    if portUp s 1 then sendToken s (m0 m 8 8) (m0 m 16 16) else sendTokenEnd s (getf s F.ENU_STAT_HOP) (m0 m 16 16))

/-- TOKEN (R348): the hop is recorded and JOIN sent with the die ID and the address last held. -/
def execToken (m : Msg) (s : State) : Host.Outcome State Fault Refusal :=
  if !portUp s 0 then done s
  else
    let s := takeMsg s 0 m
    let hop := m0 m 8 8
    let s := setEnu (setf s F.ENU_STAT_HOP hop) { s.enu with token := some (hop, m0 m 16 16) }
    done (sendMsg s 0 ⟨0x04, ownAddr s, 0,
      [w32 (getf s F.ENU_OWN_OLD_ADDR * 2 ^ 8 + getf s F.ENU_OWN_HAD_ADDR * 2 ^ 14 + hop % 64 * 2 ^ 16), Config.dieLo, Config.dieHi,
       w32 (extractBits (rd s R.DEV_ID) 0 8 + s.pwr.cfgsrc * 2 ^ 8 + b2n (portUp s 1) * 2 ^ 10 + m0 m 16 16 * 2 ^ 16)], []⟩)

/-- Entry `u` binds the die. -/
def bindsDie (s : State) (lo hi : W32) (u : Nat) : Bool :=
  isSet s (F.ENU_TAB_FLG_BOUND u) && decide (rd s (R.ENU_TAB_DLO u) = lo) && decide (rd s (R.ENU_TAB_DHI u) = hi)

/-- The address that the table gives a die (R349). -/
def assignAddr (s : State) (lo hi : W32) : Option Nat :=
  match (List.range 64).find? (bindsDie s lo hi) with
  | some u => some u
  | none => (List.range 64).find? (fun u => 0 < u && !isSet s (F.ENU_TAB_FLG_BOUND u))

/-- JOIN (R349): the head binds the die, records hop and revision, and floods ADDR_ASSIGN. -/
def execJoin (p : Fin 2) (m : Msg) (s : State) : Host.Outcome State Fault Refusal :=
  onDst s p.val m (fun s =>
    if !isHead s then s
    else
      let s := sleepAbort s 3 0
      let walk := extractBits (mw m 3) 16 16
      let assign (s : State) (u noAddr : Nat) : State :=
        sendMsg s 1 ⟨0x05, ownAddr s, toAll, [w32 (u * 2 ^ 8 + noAddr * 2 ^ 14 + walk * 2 ^ 16), mw m 1, mw m 2], []⟩
      match assignAddr s (mw m 1) (mw m 2) with
      | some u =>
        let s := wr (wr s (R.ENU_TAB_DLO u) (mw m 1)) (R.ENU_TAB_DHI u) (mw m 2)
        let s := setf (setf (setf s (F.ENU_TAB_FLG_BOUND u) 1) (F.ENU_TAB_FLG_HOP u) (m0 m 16 6)) (F.ENU_TAB_FLG_REV u) (extractBits (mw m 3) 0 8)
        devEvent (assign (countUnits (setReach s u true)) u 0) 4
      | none => assign (raise s F.ENU_EVT_TABLE_FULL) 0 1)

/-- Units seen assigned before and after this one, for the direction of its messages (log entry 18). -/
def noteAssign (s : State) (walk u : Nat) (own : Bool) : State :=
  let seen := if s.enu.seenWalk = some walk then s.enu.seen else 0
  if own then setEnu s { s.enu with seenWalk := some walk, seen := 0, down := s.enu.down - (s.enu.down &&& setBit seen u) }
  else setEnu s { s.enu with seenWalk := some walk, seen := setBit seen u, down := setBit s.enu.down u }

/-- The unit whose die was named takes the address, and the token goes on (R348). -/
def takeAddr (s : State) (u : Nat) (noAddr : Bool) : State :=
  let s :=
    if noAddr then s
    else
      let before := hostReach s
      let s := setf (setf s F.ENU_STAT_ROLE 3) F.ENU_STAT_ADDR u
      let s := setf (setf s F.ENU_OWN_OLD_ADDR u) F.ENU_OWN_HAD_ADDR 1
      let was := s.enu.tunneled
      let s := setEnu s { s.enu with tunneled := true, backoff := false }
      if was then noteReach before s else s
  match s.enu.token with
  | none => s
  | some (hop, walk) =>
    let s := setEnu s { s.enu with token := none }
    if portUp s 1 then sendToken s (hop + 1) walk else sendTokenEnd s hop walk

/-- ADDR_ASSIGN (R348). -/
def execAddrAssign (m : Msg) (s : State) : Host.Outcome State Fault Refusal :=
  onFlood s m (fun s =>
    if isHead s then s
    else
      let own := decide (mw m 1 = Config.dieLo) && decide (mw m 2 = Config.dieHi)
      let s := if m0 m 14 1 = 1 then s else noteAssign s (m0 m 16 16) (m0 m 8 6) own
      if own then takeAddr s (m0 m 8 6) (decide (m0 m 14 1 = 1)) else s)

/-- TOKEN_END (R348). -/
def execTokenEnd (p : Fin 2) (m : Msg) (s : State) : Host.Outcome State Fault Refusal :=
  onDst s p.val m (fun s => if isHead s && isSet s F.ENU_STAT_WALKING && decide (m0 m 16 16 = s.enu.walk) then walkEnd s else s)

/-- WALK_TIMEOUT (R348). -/
def execWalkTimeout (s : State) : Host.Outcome State Fault Refusal :=
  if isHead s && isSet s F.ENU_STAT_WALKING then done (walkEnd (raise s F.ENU_EVT_WALK_TIMEOUT)) else done s

/-! ### Breaks and topology (R352, R355) -/

/-- TOPO_BREAK (R352). -/
def execTopoBreak (p : Fin 2) (m : Msg) (s : State) : Host.Outcome State Fault Refusal :=
  onDst s p.val m (fun s => if isHead s then topoBreak s (m0 m 8 6) else s)

/-- TOPO_UPDATE (R352, R355, R628): reachability, host link and policy; work for unreachable units ends. -/
def execTopoUpdate (m : Msg) (s : State) : Host.Outcome State Fault Refusal :=
  onFlood s m (fun s =>
    if isHead s then s
    else
      let before := hostReach s
      let s := wr (wr (wrapAdd s F.ENU_GEN_GEN 1) (R.ENU_REACH 0) (mw m 1)) (R.ENU_REACH 1) (mw m 2)
      let s := setEnu (setf s F.ENU_STAT_HOST_LINK (m0 m 16 1)) { s.enu with policy := m0 m 17 1 }
      let s := if isMember s then (if before && !hostReach s then memberHostLoss s else noteReach before s) else s
      endUnreachable s)

/-! ### Device events and the tunnel (R354, R358) -/

/-- DEV_EVT (R358). -/
def execDevEvt (p : Fin 2) (m : Msg) (s : State) : Host.Outcome State Fault Refusal :=
  onDst s p.val m (fun s =>
    if !isHead s then s
    else
      let a := R.HIF_DEV_UNIT (m.src / 32)
      let s := wr s a (rd s a ||| w32 (2 ^ (m.src % 32)))
      (List.range 32).foldl (fun t k => if bit (mw m 1).toNat k then devEvent t k else t) s)

/-- A TUN_RD_CPL to a member. -/
def tunCpl (s : State) (unit tag status last off : Nat) (d : List Byte) : State :=
  sendMsg s 1 ⟨0x13, ownAddr s, unit,
    [w32 (tag * 2 ^ 8 + status * 2 ^ 16 + last * 2 ^ 20), w32 (off % 2 ^ 12 + d.length * 2 ^ 16), 0#32, 0#32], d⟩

/-- TUN_RD_REQ (R354, R355): the head reads host memory for the member, or answers STATUS 3. -/
def execTunRdReq (p : Fin 2) (m : Msg) (s : State) : Host.Outcome State Fault Refusal :=
  onDst s p.val m (fun s =>
    if !isHead s then s
    else
      let s := nakWake s
      if hostUp s then
        let id := s.hif.nextRead
        let len := extractBits (mw m 1) 0 13
        let s := { s with hif := { s.hif with reads := s.hif.reads ++ [⟨id, mAddr m 2, len, 0, .tunnel m.src (m0 m 8 8), []⟩],
                                              nextRead := id + 1 } }
        emit s (.hostRead id (mAddr m 2) len)
      else tunCpl s m.src (m0 m 8 8) 3 1 0 [])

/-- TUN_WR (R354, R355): issued in arrival order, or dropped and counted. -/
def execTunWr (p : Fin 2) (m : Msg) (s : State) : Host.Outcome State Fault Refusal :=
  onDst s p.val m (fun s =>
    if !isHead s then s
    else
      let s := nakWake s
      if hostUp s then emit s (.hostWrite (mAddr m 2) m.data) else satAdd s F.HIF_DISCARD_COUNT 1)

/-- TUN_INT (R354): the vector is sent after the member's earlier writes. -/
def execTunInt (p : Fin 2) (m : Msg) (s : State) : Host.Outcome State Fault Refusal :=
  onDst s p.val m (fun s =>
    if isHead s && hostUp s && isSet s F.HIF_STAT_MSIX_EN then sendVec (nakWake s) (m0 m 16 10) else s)

/-- The member's read with a TAG: the one under way. -/
def tunRead? (s : State) (tag : Nat) : Option HRead := s.hif.reads.find? (fun r => decide (r.id % 256 = tag))

/-- A read that waited for the TAG goes out. -/
def nextTun (s : State) (tag : Nat) : State :=
  match tunRead? s tag with
  | none => s
  | some r =>
    let c := match r.use with
      | .fetch c => c
      | .op t => ((opOf s t).map (·.ctx)).getD 0
      | .tunnel _ _ => 0
    tunRead s c r.id r.addr r.len

/-- The descriptors that a fetch read brought. -/
def slotsOf : Nat → List Byte → List (List W32)
  | 0, _ => []
  | n + 1, bs => bytesWords 16 (bs.take 64) :: slotsOf n (bs.drop 64)

/-- TUN_RD_CPL (R354): data or an error for a member's read. STATUS 3 is a loss of the host link. -/
def execTunRdCpl (p : Fin 2) (m : Msg) (s : State) : Host.Outcome State Fault Refusal :=
  onDst s p.val m (fun s =>
    let tag := m0 m 8 8
    match tunRead? s tag with
    | none => s
    | some r =>
      let st := m0 m 16 4
      let last := m0 m 20 1 = 1
      if st = 3 then memberHostLoss s
      else if st ≠ 0 then
        let s := dropRead s r.id
        let s := match r.use with
          | .fetch c => fetchEnds s c .tunnel
          | .op t => (match opOf s t with | some o => giveRet s o ⟨0x20, w32 o.prog, w32 o.prog⟩ | none => s)
          | .tunnel _ _ => s
        nextTun s tag
      else
        match r.use with
        | .op t =>
          let s := if last then dropRead s r.id else s
          let s := match opOf s t with | some o => copyData s o m.data | none => s
          if last then nextTun s tag else s
        | .fetch c =>
          if last then
            nextTun (fetchEnds (dropRead s r.id) c (.slots (slotsOf (r.len / 64) (r.buf ++ m.data)))) tag
          else
            { s with hif := { s.hif with reads := s.hif.reads.map (fun q => if q.id == r.id then { q with buf := q.buf ++ m.data } else q) } }
        | .tunnel _ _ => s)

/-! ### Remote operations (R356) -/

/-- RMT_OP: checked and dispatched through this unit's gate, at once or when a token and credits allow it. -/
def execRmtOp (p : Fin 2) (m : Msg) (s : State) : Host.Outcome State Fault Refusal :=
  onDst s p.val m (fun s => remoteTurn (setEnu (nakWake s) { (nakWake s).enu with rmtWait := (nakWake s).enu.rmtWait ++ [m] }))

/-- RMT_DONE: the record is written to the fetching context's ring with the origin's own COOKIE, CONTEXT and SQ_INDEX, the target's
UNIT and the target's time. -/
def execRmtDone (p : Fin 2) (m : Msg) (s : State) : Host.Outcome State Fault Refusal :=
  onDst s p.val m (fun s =>
    match s.ops.find? (fun o => o.fwd && decide (o.tag % 4096 = m0 m 16 12)) with
    | none => s
    | some o =>
      let r := bytesWords 8 m.data
      let status := extractBits (r.getD 1 0#32) 0 8
      let s := creditToken (unlend { s with ops := s.ops.filter (fun q => q.tag != o.tag) } o) o.ctx o.pool
      let ws := recWords s o.ctx o.sq o.words status (extractBits (r.getD 3 0#32) 0 8) (r.getD 6 0#32) (r.getD 7 0#32)
      let ws := ((ws.set 1 (insertBits (ws.getD 1 0#32) 16 6 (dUnit o.words))).set 4 (r.getD 4 0#32)).set 5 (r.getD 5 0#32)
      let s := wrapAdd s (F.CTX_DONE_COUNT o.ctx) 1
      let s := if dSilent o.words && decide (status < 2) then s else writeRec s o.ctx ⟨ws, dIntOnDone o.words⟩
      drainCheck s o.ctx)

/-- WIN_CPL (R357, R256): the host's aperture read completes, or with Completer Abort where the member refused it; a late reply is
discarded. -/
def execWinCpl (p : Fin 2) (m : Msg) (s : State) : Host.Outcome State Fault Refusal :=
  onDst s p.val m (fun s =>
    match s.hif.winReads.find? (fun w => decide (w.wtag = m0 m 8 8) && decide (w.unit = m.src)) with
    | none => s
    | some w =>
      let s := { s with hif := { s.hif with winReads := s.hif.winReads.filter (fun q => q.wtag != w.wtag) } }
      emit s (if m0 m 16 1 = 1 then .hostCpl .completerAbort [] else .hostCpl .success m.data))

/-! ### ENU commands (R350, R351, R359) -/

/-- ENU_RST_CMD (R359): KEY 0xC0DE sends RESET_CMD to one unit, or to all downstream. -/
def execEnuRstCmd (dst : Fin 64) (all : Bool) (key : Nat) (s : State) : Host.Outcome State Fault Refusal :=
  if key ≠ 0xC0DE ∨ regAway s R.ENU_RST_CMD then done s
  else if all then done (sendMsg s 1 ⟨0x09, ownAddr s, toAll, [0#32, w32 key], []⟩)
  else if dst.val = ownAddr s then done s
  else done (sendMsg s (portTo s dst.val) ⟨0x09, ownAddr s, dst.val, [0#32, w32 key], []⟩)

/-- Some other bound entry holds this die. -/
def boundElsewhere (s : State) (u : Nat) (lo hi : W32) : Bool := (List.range 64).any (fun v => v != u && bindsDie s lo hi v)

/-- A table entry as written: refused while a walk runs, while the unit is reachable, or where the die is bound elsewhere (R350). -/
def enuTab (s : State) (u : Nat) (lo hi : W32) (bound : Bool) : State :=
  if isSet s F.ENU_STAT_WALKING ∨ reachOf s u ∨ (bound ∧ boundElsewhere s u lo hi) then raise s F.ENU_EVT_TAB_DENIED
  else setf (wr (wr s (R.ENU_TAB_DLO u) lo) (R.ENU_TAB_DHI u) hi) (F.ENU_TAB_FLG_BOUND u) (b2n bound)

/-- ENU_TAB_WRITE (R350, R14): word 0 DIE_LO, held until word 1, DIE_HI, is written; word 2 BOUND of entry `u`. -/
def execEnuTabWrite (m : Master) (u : Fin 64) (word : Fin 3) (data : W32) (s : State) : Host.Outcome State Fault Refusal :=
  let hi := R.ENU_TAB_DHI u.val
  let bound := isSet s (F.ENU_TAB_FLG_BOUND u.val)
  if regAway s (R.ENU_TAB_FLG u.val) then done s
  else if word.val = 0 then done (holdLow s m hi data)
  else if word.val = 1 then
    done (enuTab (dropLow s m hi) u.val ((heldLow s m hi).getD (rd s (R.ENU_TAB_DLO u.val))) data bound)
  else done (enuTab s u.val (rd s (R.ENU_TAB_DLO u.val)) (rd s hi) (decide (extractBits data 0 1 = 1)))

/-- ENU_BYPASS (R351): low while BYPASS is 1, high otherwise once G4 is powered. -/
def execEnuBypass (on : Bool) (s : State) : Host.Outcome State Fault Refusal :=
  if regAway s R.ENU_CTL then done s
  else done (driveByp (setf s F.ENU_CTL_BYPASS (b2n on)))

/-! ### The sleep vote (R360 to R363) -/

/-- A context is idle for the vote. -/
def ctxIdle (s : State) (c : Nat) : Bool :=
  let x := ctx s c
  let st := getf s (F.CTX_STAT_STATE c)
  st == stDisabled
  || (st == stActive && decide (getf s (F.CTX_SQ_IDX_SQ_PI c) = getf s (F.CTX_SQ_IDX_SQ_CI c)) && decide (x.staged = [])
      && decide (x.fetch = none) && decide (x.heldRecs = []) && decide (inflight s c = 0))

/-- A configuration, depot or bank service operation is held or running. -/
def serviceBusy (s : State) : Bool :=
  s.ops.any (fun o => !o.fwd && o.ret.isNone && [0x70, 0x71, 0x78, 0x79, 0x90, 0x91].contains (opcodeOf o))
  || s.dep.jobs.any (fun j => j.kind != 2) || s.stage.isSome || s.ho.isSome

/-- The first condition of R360 that fails, as its reason of Table 13-6; none when the unit is idle. -/
def sleepBusy (s : State) : Option Nat :=
  if !(s.ctxs.map (·.1)).all (ctxIdle s) then some 0
  else if rd s R.PWR_WAKE_SRC &&& rd s R.PWR_WAKE_EN &&& 0x3F#32 ≠ 0#32 then some 1
  else if s.nva.run.isSome || s.nva.below.isSome then some 2
  else if serviceBusy s then some 3
  else if s.load.round.isSome then some 4
  else if getf s F.PWR_STAT_STATE = 0 ∨ isSet s F.PWR_STAT_BUSY then some 5
  else none

/-- SLEEP_COMMIT reaches the unit: its wake detectors are armed and QUIET goes out of its ports (R362); entry follows. -/
def takeCommit (s : State) : State :=
  let s := setEnu s { s.enu with committed := true, voting := false }
  let s := setf (setf s F.ENU_SLEEP_STAT_PHASE 3) F.ENU_SLEEP_STAT_LAST 1
  let s := { s with pwr := { s.pwr with stage := .committed } }
  [0, 1].foldl (fun t p => if portUp t p then ctl t p 0x30 (t.enu.round % 4096) 0 else t) s

/-- Every reachable unit has voted READY: the head commits (R361). -/
def tryCommit (s : State) : State :=
  let reach := (rd s (R.ENU_REACH 0)).toNat + 2 ^ 32 * (rd s (R.ENU_REACH 1)).toNat
  if getf s F.ENU_SLEEP_STAT_PHASE = 1 ∧ reach &&& s.enu.votes = reach then
    takeCommit (sendMsg s 1 ⟨0x22, ownAddr s, toAll, [w32 (s.enu.round * 2 ^ 16)], []⟩)
  else s

/-- PROPOSE (R360): the head opens a round. -/
def execPropose (s : State) : Host.Outcome State Fault Refusal :=
  if isHead s && !regAway s R.ENU_SLEEP_CTL && decide (getf s F.ENU_SLEEP_STAT_PHASE = 0) then
    let r := (s.enu.round + 1) % 2 ^ 16
    let s := setf (setEnu s { s.enu with round := r, votes := 0, voted := false, voting := true }) F.ENU_SLEEP_STAT_PHASE 1
    done (sendMsg s 1 ⟨0x20, ownAddr s, toAll, [w32 (r * 2 ^ 16), w32 (max 1 (getf s F.ENU_CTL_VOTE_WAIT))], []⟩)
  else done s

/-- CANCEL (R361). -/
def execCancel (s : State) : Host.Outcome State Fault Refusal :=
  if isHead s && !regAway s R.ENU_SLEEP_CTL then done (sleepAbort s 4 0) else done s

/-- SLEEP_PROPOSE (R360). -/
def execSleepPropose (m : Msg) (s : State) : Host.Outcome State Fault Refusal :=
  onFlood s m (fun s => if isMember s then setEnu s { s.enu with round := m0 m 16 16, voting := true, voted := false } else s)

/-- The unit's vote: READY, or busy with a reason. -/
def giveVote (s : State) (why : Option Nat) : State :=
  let s := setEnu s { s.enu with voting := false, voted := why.isNone }
  if isHead s then
    match why with
    | none => tryCommit (setEnu s { s.enu with votes := setBit s.enu.votes 0 })
    | some _ => sleepAbort s 0 0
  else
    let s := if why.isNone then setf s F.ENU_SLEEP_STAT_PHASE 2 else s
    sendMsg s 0 ⟨0x21, ownAddr s, 0, [w32 (b2n why.isNone * 2 ^ 8 + why.getD 0 * 2 ^ 12 + s.enu.round * 2 ^ 16)], []⟩

/-- SLEEP_READY_VOTE (R360). -/
def execSleepReadyVote (s : State) : Host.Outcome State Fault Refusal :=
  if s.enu.voting && decide (sleepBusy s = none) then done (giveVote s none) else done s

/-- VOTE_WAIT_EXPIRY (R360). -/
def execVoteWaitExpiry (s : State) : Host.Outcome State Fault Refusal :=
  if s.enu.voting then done (giveVote s (sleepBusy s)) else done s

/-- SLEEP_VOTE (R361). -/
def execSleepVote (p : Fin 2) (m : Msg) (s : State) : Host.Outcome State Fault Refusal :=
  onDst s p.val m (fun s =>
    if !isHead s || decide (getf s F.ENU_SLEEP_STAT_PHASE ≠ 1) || decide (m0 m 16 16 ≠ s.enu.round) then s
    else if m0 m 8 1 = 1 then tryCommit (setEnu s { s.enu with votes := setBit s.enu.votes m.src })
    else sleepAbort s 0 m.src)

/-- VOTE_MISSING_TIMEOUT (R361): the lowest unit without a vote is named. -/
def execVoteMissingTimeout (s : State) : Host.Outcome State Fault Refusal :=
  if isHead s && decide (getf s F.ENU_SLEEP_STAT_PHASE = 1) then
    done (sleepAbort s 2 (((List.range 64).find? (fun u => reachOf s u && !bit s.enu.votes u)).getD 0))
  else done s

/-- NAK_WAKE (R361): ends the round; after the commit it is counted and ignored. -/
def execNakWake (p : Fin 2) (m : Msg) (s : State) : Host.Outcome State Fault Refusal :=
  onDst s p.val m (fun s =>
    if !isHead s || decide (m0 m 16 16 ≠ s.enu.round) then s
    else if getf s F.ENU_SLEEP_STAT_PHASE = 1 then sleepAbort s 1 m.src
    else if getf s F.ENU_SLEEP_STAT_PHASE = 3 then satAdd s F.ENU_CNT2_NAK_LATE 1
    else s)

/-- SLEEP_COMMIT (R362). -/
def execSleepCommit (m : Msg) (s : State) : Host.Outcome State Fault Refusal :=
  onFlood s m (fun s => if isMember s && s.enu.voted && decide (m0 m 16 16 = s.enu.round) then takeCommit s else s)

/-- SLEEP_ABORT (R361): the unit stays in RUN. -/
def execSleepAbort (m : Msg) (s : State) : Host.Outcome State Fault Refusal :=
  onFlood s m (fun s =>
    if isMember s && !s.enu.committed then
      let s := setEnu s { s.enu with voted := false, voting := false }
      let s := setf (setf s F.ENU_SLEEP_STAT_PHASE 0) F.ENU_SLEEP_STAT_LAST 2
      raise (setf (setf s F.ENU_SLEEP_STAT_CAUSE (m0 m 8 4)) F.ENU_SLEEP_STAT_UNIT (m0 m 16 6)) F.ENU_EVT_SLEEP_ABORTED
    else s)

end Sys2Proof.Machine
end

