-- ==== Sys2Proof/Machine/Sfq.lean ====
section
/-! DEFINITION. Stream FIFOs as shared operations (15_stream_fifos.md): a turn with a push and a pop, gap markers, watermarks and
XOFF, discarding and flushing. -/
namespace Sys2Proof.Machine

/-- Depth of a full FIFO (R398). -/
abbrev fifoCap : Nat := 1024

/-! ### HAR_XOFF pins (R391, R410) -/

/-- The level of HAR_XOFF[k]: its routed FIFO's XOFF, or a held scan that uses link `k` under PIN_HOLD; low before G6. -/
def xoffLevel (s : State) (k : Nat) : Nat :=
  let routed := isSet s (F.SFQ_PIN_EN k) && (fifo s (getf s (F.SFQ_PIN_FIFO k))).xoff
  let held := isSet s F.HAR_CTL_PIN_HOLD && isSet s F.HAR_STAT_HELD && bit s.har.links k
  b2n (bit s.pwr.groups 6 && (routed || held))

/-- Drive the pins that have changed. -/
def xoffPins (s : State) : State :=
  [0, 1, 2, 3].foldl (fun t k =>
    let v := xoffLevel t k
    if b2n (bit t.har.pins k) = v then t
    else emit { t with har := { t.har with pins := if v = 1 then setBit t.har.pins k else clearBit t.har.pins k } } (.pin (.harXoff k) v)) s

/-! ### Watermarks (R409) -/

/-- HIGH and LOW as they act. -/
def wmHigh (s : State) (n : Nat) : Nat :=
  let h := getf s (F.SFQ_WM_HIGH n)
  if h = 0 ∨ 1024 < h then 1024 else h
def wmLow (s : State) (n : Nat) : Nat := min (getf s (F.SFQ_WM_LOW n)) (wmHigh s n - 1)

/-- XOFF asserts: the host's event and the context's interrupt as routed (R410). -/
def xoffAsserts (s : State) (n : Nat) : State :=
  let s := if isSet s (F.SFQ_CFG_XOFF_HOST n) then
      devEvent (wr s (R.SFQ_XOFF_EVT (n / 32)) (rd s (R.SFQ_XOFF_EVT (n / 32)) ||| w32 (2 ^ (n % 32)))) 10
    else s
  if isSet s (F.SFQ_CFG_XOFF_CTX n) then recordInt s (getf s (F.SFQ_XCTX_CTX n)) else s

/-- SFQ_STAT, SFQ_MAX and the XOFF words show the FIFO. -/
def showFifo (s : State) (n : Nat) : State :=
  let x := fifo s n
  let s := wr s (R.SFQ_STAT n) (w32 (x.items.length + 2 ^ 12 * b2n x.xoff + 2 ^ 13 * b2n x.gap.isSome + 2 ^ 14 * b2n x.discarding
    + 2 ^ 15 * b2n x.inPkt + 2 ^ 16 * ((x.gap.map (·.count)).getD 0)))
  let a := R.SFQ_XOFF (n / 32)
  let s := wr s a (if x.xoff then rd s a ||| w32 (2 ^ (n % 32)) else rd s a &&& ~~~(w32 (2 ^ (n % 32))))
  maxTo s (F.SFQ_MAX_MAXDEPTH n) x.items.length

/-- Judge XOFF at the present depth, and show the FIFO. -/
def judge (s : State) (n : Nat) : State :=
  let x := fifo s n
  let d := x.items.length
  if wmHigh s n ≤ d ∧ x.xoff = false then
    xoffPins (xoffAsserts (showFifo (setFifo s n { x with xoff := true }) n) n)
  else if d ≤ wmLow s n ∧ x.xoff then xoffPins (showFifo (setFifo s n { x with xoff := false }) n)
  else showFifo s n

/-! ### Items -/

def tSop (t : Nat) : Bool := bit t 0
def tEop (t : Nat) : Bool := bit t 1
def tGap (t : Nat) : Bool := bit t 2
def tErr (t : Nat) : Bool := bit t 3

/-- The gap marker as an item (R404). -/
def gapItem (g : Gap) : Item :=
  ⟨leBytes 4 (g.count + 2 ^ 16 * b2n g.ovf + 2 ^ 17 * b2n g.sop + 2 ^ 18 * b2n g.eop + 2 ^ 19 * b2n g.err + 2 ^ 20 * b2n g.fenced
      + 2 ^ 24 * g.prod) ++ leBytes 4 0 ++ leBytes 4 g.ns.toNat ++ leBytes 4 g.sec.toNat, 4⟩

/-- A push is dropped (R403): the pending marker counts it, or becomes pending and is booked. -/
def dropPush (s : State) (n prod tag : Nat) (fen : Bool) : State :=
  let x := fifo s n
  let g := match x.gap with
    | some g => { g with count := min 65535 (g.count + 1), ovf := g.ovf || decide (65535 ≤ g.count) }
    | none => { count := 1, prod := prod, ns := stampNs s, sec := stampS s }
  let g := { g with sop := g.sop || tSop tag, eop := g.eop || tEop tag, err := g.err || tErr tag, fenced := g.fenced || fen }
  satAdd (setFifo s n { x with gap := some g, booked := x.booked + (if x.gap.isNone then 1 else 0) }) (F.SFQ_CNT_DROPPED n) 1

/-- A pending marker takes a freed slot (R403). -/
def placeGap (s : State) (n : Nat) : State :=
  let x := fifo s n
  match x.gap with
  | none => s
  | some g =>
    if x.items.length < fifoCap then
      satAdd (setFifo s n { x with items := x.items ++ [gapItem g], gap := none }) (F.SFQ_CNT_GAPS n) 1
    else s

/-- A push is taken while a slot is free: it lands, unless DISCARDING drops it (R407). -/
def landPush (s : State) (n : Nat) (it : Item) : State :=
  let x := fifo s n
  if x.discarding && !tSop it.tag then
    satAdd (setFifo s n { x with discarding := !tEop it.tag }) (F.SFQ_CNT2_DISCARDED n) 1
  else
    setFifo s n { x with items := x.items ++ [{ it with tag := it.tag % 4 + it.tag / 8 % 2 * 8 }], booked := x.booked + 1, discarding := false }

/-- A push by producer `prod` (R401, R402, R403, R414); `freed` says that a slot freed in this turn went to a marker. -/
def pushOne (s : State) (n prod : Nat) (it : Item) : State :=
  if !isSet s (F.SFQ_CFG_EN n) || decide (getf s (F.SFQ_CFG_PROD n) ≠ prod) then satAdd s (F.SFQ_CNT2_MISROUTE n) 1
  else if away s 5 then dropPush s n prod it.tag true
  else
    let x := fifo s n
    if x.discarding && !tSop it.tag then landPush s n it
    else if fifoCap ≤ x.items.length then dropPush s n prod it.tag false
    else landPush s n it

/-- Push and show the FIFO. -/
def push (s : State) (n prod : Nat) (it : Item) : State := judge (pushOne s n prod it) n

/-- A producer offers several items in successive turns (R402). -/
def pushAll (s : State) (n prod : Nat) (l : List Item) : State := l.foldl (fun t it => push t n prod it) s

/-- The item at the head goes: a slot is free, and the book is credited. -/
def takeHead (s : State) (n : Nat) : State :=
  let x := fifo s n
  setFifo s n { x with items := x.items.drop 1, booked := x.booked - 1 }

/-- The current packet after a pop (R406, R407). -/
def pktAfter (before : Bool) (tag : Nat) : Bool :=
  if tGap tag || tEop tag then false else if tSop tag then true else before

/-- A turn in which the named consumer pops, and possibly a producer pushes (R405): the item popped. A slot that frees goes to a
pending marker first; the push of that turn is then dropped and added to it. -/
def popTurn (s : State) (n : Nat) (p : Option (Nat × Item)) : State × Option Item :=
  let x := fifo s n
  let pushNow (s : State) : State := match p with | some (prod, it) => pushOne s n prod it | none => s
  match x.items with
  | [] => (judge (pushNow s) n, none)
  | it :: _ =>
    let s := if x.gap.isSome then placeGap (takeHead (pushNow s) n) n else pushNow (takeHead s n)
    let s := setFifo s n { fifo s n with inPkt := pktAfter x.inPkt it.tag }
    (judge s n, some it)

/-- A consumer of code `cons` may pop now (R401, R407, R414). -/
def popServed (s : State) (n cons : Nat) : Bool :=
  decide (getf s (F.SFQ_CFG_CONS n) = cons) && !away s 5 && !(fifo s n).removing

/-! ### Discarding and flushing (R407, R408) -/

/-- Removal stops: the current packet has ended. -/
def endRemoval (s : State) (n : Nat) (more : Bool) : State :=
  setFifo s n { fifo s n with removing := false, inPkt := false, discarding := more }

/-- Where the head now stands: removal goes on, stops at a marker or an SOP, or has emptied the FIFO. -/
def removalNext (s : State) (n : Nat) : State :=
  match (fifo s n).items with
  | [] => endRemoval s n true
  | it :: _ => if tGap it.tag || tSop it.tag then endRemoval s n false else setFifo s n { fifo s n with removing := true }

/-- DISCARD_PKT is taken. -/
def discardPkt (s : State) (n : Nat) : State :=
  let x := fifo s n
  if x.inPkt && !x.removing && !away s 5 then showFifo (removalNext s n) n else s

/-- One removal turn, possibly with a push. -/
def removalTurn (s : State) (n : Nat) (p : Option (Nat × Item)) : State :=
  let x := fifo s n
  match x.items with
  | [] => s
  | it :: _ =>
    if !x.removing || away s 5 then s
    else
      let pushNow (s : State) : State := match p with | some (prod, i) => pushOne s n prod i | none => s
      let s := satAdd (if x.gap.isSome then placeGap (takeHead (pushNow s) n) n else takeHead s n) (F.SFQ_CNT2_DISCARDED n) 1
      let s := if tEop it.tag then endRemoval s n false else removalNext s n
      judge (if x.gap.isSome then s else pushNow s) n

/-- FLUSH: everything goes. -/
def flushFifo (s : State) (n : Nat) : State :=
  let x := fifo s n
  judge (satAdd (setFifo s n { xoff := x.xoff }) (F.SFQ_CNT2_DISCARDED n) x.items.length) n

end Sys2Proof.Machine
end

