-- ==== Sys2Proof/Machine/Harrier.lean ====
section
/-! DEFINITION. The Harrier matrix scan engine (14_harrier_scan_engine.md): links, board commands and replies, scans, records and
the sense stream, and net map loads. -/
namespace Sys2Proof.Machine

def setHar (s : State) (x : Har) : State := { s with har := x }
def hlink (s : State) (l : Nat) : HLink := (sget l s.har.lk).getD {}
def setHlink (s : State) (l : Nat) (x : HLink) : State := setHar s { s.har with lk := sset {} l x s.har.lk }
def setScan (s : State) (c : Scan) : State := setHar s { s.har with scan := some c }

/-! ### Link words (R372 to R376) -/

/-- One bit of CRC-8 (Table 12-2): polynomial x^8 + x^2 + x + 1, not reflected. -/
def crc8Bit (c : BitVec 8) : BitVec 8 := if c.msb then (c <<< 1) ^^^ 0x07#8 else c <<< 1

/-- CRC-8 over one more byte. -/
def crc8Byte (c : BitVec 8) (b : Byte) : BitVec 8 :=
  crc8Bit (crc8Bit (crc8Bit (crc8Bit (crc8Bit (crc8Bit (crc8Bit (crc8Bit (c ^^^ b))))))))

/-- CRC-8 with initial value 0 and no final XOR. -/
def crc8 (bs : List Byte) : Byte := bs.foldl crc8Byte 0#8

/-- A control word (Table 14-2). -/
def ctlWord (ty arg arg2 : Nat) : Nat :=
  ty + 2 ^ 8 * arg + 2 ^ 16 * arg2 + 2 ^ 24 * (crc8 [byte ty, byte arg, byte arg2]).toNat

/-- Send a packet on a link under its next SEQ: PKT, the data word and its CRC-32C (R374); the boards in `need` reply. -/
def sendPkt (s : State) (l kind pos : Nat) (data : Nat) (c : HCmd) (need : Nat) : State :=
  let x := hlink s l
  let q := (x.seq + 1) % 256
  let s := setHlink s l { x with seq := q, cmd := if need = 0 then none else some c, need := need }
  emit (emit (emit s (.scan l (ctlWord 0x10 q (kind + 16 * pos)))) (.scan l data)) (.scan l (crc32c (leBytes 4 data)).toNat)

/-- Boards on a link. -/
def boards (s : State) (l : Nat) : Nat := getf s (F.HAR_LSTAT_BOARDS l)

/-- All boards of a link, as a mask. -/
def allBoards (s : State) (l : Nat) : Nat := 2 ^ boards s l - 1

/-- The link is UP. -/
def hUp (s : State) (l : Nat) : Bool := decide (getf s (F.HAR_LSTAT_STATE l) = 4)

/-- The links of a mask. -/
def linksOf (m : Nat) : List Nat := [0, 1, 2, 3].filter (fun l => bit m l)

/-! ### Scan body (Table 11-3) -/

def scFirst (o : Op) : Nat := opFld o 4 0 12
def scLast (o : Op) : Nat := opFld o 4 16 12
def scTest (o : Op) : Nat := opFld o 5 0 4
def scLinks (o : Op) : Nat := opFld o 5 4 4
def scSettle (o : Op) : Nat := opFld o 5 16 16
def scMap (o : Op) : Nat := (opWord o 6).toNat
def scRec (o : Op) : Nat := (opWord o 7).toNat
def scMax (o : Op) : Nat := opFld o 8 0 16
def scFifo (o : Op) : Nat := opFld o 9 0 6
def scSense (o : Op) : Bool := decide (opFld o 9 8 1 = 1)

/-- The range lies wholly within BANK2 and BANK3. -/
def in23 (a n : Nat) : Bool := decide (0x200000 ≤ a) && decide (a + n ≤ 0x400000)

/-- Link, board and local point of a point (R369). -/
def ptLink (p : Nat) : Nat := p / 1024
def ptPos (p : Nat) : Nat := p / 256 % 4

/-- The point's board is present on a selected link. -/
def ptPresent (s : State) (links p : Nat) : Bool := bit links (ptLink p) && decide (ptPos p < boards s (ptLink p))

/-- The map's entry for a point; 0 outside the map (R382). -/
def mapAt (o : Op) (c : Scan) (p : Nat) : Nat := if scFirst o ≤ p ∧ p ≤ scLast o then c.map.getD (p - scFirst o) 0 else 0

/-- NET or PARTNER; SKIP; WIN; REP. -/
def eNet (e : Nat) : Nat := e % 4096
def eSkip (e : Nat) : Bool := e.testBit 12
def eWin (e : Nat) : Nat := e / 4096 % 8
def eRep (e : Nat) : Bool := e.testBit 15

/-- The point is driven (Table 14-8). -/
def isDriven (o : Op) (c : Scan) (p : Nat) : Bool :=
  let e := mapAt o c p
  bit (scLinks o) (ptLink p)
  && (match scTest o with
      | 0 => !eSkip e && decide (eNet e ≠ 0)
      | 1 => !eSkip e && decide (eNet e ≠ 0) && eRep e
      | _ => decide (eWin e ≠ 0))

/-- The point is compared (R383): inside FIRST to LAST, on a selected link with its board, not SKIP. -/
def isCompared (s : State) (o : Op) (c : Scan) (p : Nat) : Bool :=
  decide (scFirst o ≤ p) && decide (p ≤ scLast o) && ptPresent s (scLinks o) p && !eSkip (mapAt o c p)

/-! ### STEPs (R375, R385) -/

/-- The STEP data word for a link (Table 14-4). -/
def stepWord (l mode : Nat) (drive sink : Option Nat) (latch : Bool) : Nat :=
  let pt (p : Option Nat) : Nat := match p with
    | some q => if ptLink q = l then q % 256 + 2 ^ 8 * ptPos q + 2 ^ 10 else 0
    | none => 0
  pt drive + 2 ^ 16 * pt sink + 2 ^ 27 * b2n latch + 2 ^ 28 * mode

/-- Send a STEP on every link of the scan. -/
def sendStep (s : State) (o : Op) (mode : Nat) (drive sink : Option Nat) (latch : Bool) : State :=
  (linksOf (scLinks o)).foldl (fun t l => sendPkt t l 0 0 (stepWord l mode drive sink latch) .step (allBoards t l)) s

/-- Drive the `k`-th point of the scan, or turn every driver off past the last. -/
def sendPoint (s : State) (o : Op) (c : Scan) (k : Nat) (latch : Bool) : State :=
  match c.pts[k]? with
  | some p =>
    let sink := if 2 ≤ scTest o then some (eNet (mapAt o c p)) else none
    setf (sendStep s o (scTest o + 1) (some p) sink latch) F.HAR_STAT_POINT p
  | none => sendStep s o 0 none none latch

/-- The scan's result words (Table 14-11). -/
def scanRet (c : Scan) (status : Nat) : Ret :=
  ⟨status, w32 (min 0xFFFFFFFF c.mism),
   w32 (min 4096 c.driven + 2 ^ 16 * b2n c.trunc + 2 ^ 17 * b2n c.reread + 2 ^ 18 * b2n c.retried + 2 ^ 19 * b2n c.held)⟩

/-- The scan's hold ends: HAR_HOLD takes the µs held (R391). -/
def endHold (s : State) (c : Scan) : State × Scan :=
  match c.heldAt with
  | none => (s, c)
  | some t =>
    let c := { c with heldAt := none, holdNs := c.holdNs + (s.clk - t) }
    (xoffPins (setf (setf (setScan s c) F.HAR_STAT_HELD 0) F.HAR_HOLD_US (c.holdNs / 1000)), c)

/-- Harrier has no scan any more. -/
def clearScan (s : State) : State :=
  let s := setHar s { s.har with scan := none, links := 0 }
  xoffPins (wr s R.HAR_STAT (rd s R.HAR_STAT &&& 0xF0#32))

/-- The scan ends before STEP N: MODE 0 goes out on every selected link that is UP (R392). -/
def scanOff (s : State) (o : Op) : State :=
  (linksOf (scLinks o)).foldl (fun t l => if hUp t l then sendPkt t l 0 0 (stepWord l 0 none none false) .step 0 else t) s

/-- The scan ends with a status. -/
def scanEnd (s : State) (o : Op) (c : Scan) (status : Nat) : State :=
  let r := endHold s c
  let s := scanOff r.1 o
  giveRet (clearScan s) o (scanRet r.2 status)

/-- The STEP that falls due is held: the SENSE_FIFO of this scan is in XOFF (R391). -/
def mustHold (s : State) (o : Op) : Bool :=
  scSense o && isSet s F.HAR_CTL_XOFF_HOLD && (fifo s (scFifo o)).xoff && !away s 5

/-- Every selected link is UP. -/
def linksUp (s : State) (o : Op) : Bool := (linksOf (scLinks o)).all (hUp s)

/-- The next STEP of the scan goes out (R385, R386, R387). -/
def nextStep (s : State) (o : Op) (c : Scan) : State :=
  match c.j with
  | none => setScan (sendPoint s o c 0 false) { c with j := some 0, relink := false, lostStep := false, reps := [] }
  | some j =>
    if c.redo then
      setScan (sendPoint s o c j (decide (0 < j))) { c with redo := false, lostStep := false, reps := [] }
    else if c.lostStep || c.relink then
      if j = 0 then setScan (sendPoint s o c 0 false) { c with relink := false, lostStep := false, reps := [] }
      else setScan (sendPoint s o c (j - 1) true) { c with redo := true, relink := false, lostStep := false, reps := [] }
    else if j < c.pts.length then setScan (sendPoint s o c (j + 1) true) { c with j := some (j + 1), reps := [] }
    else s

/-- A STEP falls due: held, or sent. -/
def stepDue (s : State) (o : Op) (c : Scan) : State :=
  if mustHold s o then
    xoffPins (setf (setScan s { c with heldAt := some s.clk, held := true }) F.HAR_STAT_HELD 1)
  else nextStep s o c

/-! ### Records (R388) -/

/-- A mismatch: counted, and written while fewer than MAX_RECORDS are; the refusal of a write. -/
def putMismatch (s : State) (o : Op) (c : Scan) (kind drive sense bstat : Nat) (ns sec : W32) : State × Scan × Option Err :=
  let k := c.mism
  let c' := { c with mism := k + 1 }
  if scMax o ≤ k then (s, { c' with trunc := true }, none)
  else
    let ws : List W32 := [w32 (kind + 2 ^ 8 * scTest o + 2 ^ 16 * (k % 2 ^ 16)), w32 (drive + 2 ^ 16 * sense),
      w32 (mapAt o c drive + 2 ^ 16 * mapAt o c sense), w32 (bstat % 2 ^ 20), ns, sec, dCookie o.words, 0#32]
    let r := writeBytes s (scRec o + 32 * k) (wordsBytes ws)
    (noteOpt r.1 r.2.2, c', r.2.2)

/-- What a comparison accumulates: state, scan, a refusal, sensed points. -/
structure Cmp where
  st : State
  c : Scan
  err : Option Err := none
  sensed : Nat := 0

/-- Add a record unless the scan has been refused already. -/
def Cmp.add (x : Cmp) (o : Op) (kind drive sense bstat : Nat) (ns sec : W32) : Cmp :=
  if x.err.isSome then x
  else
    let r := putMismatch x.st o x.c kind drive sense bstat ns sec
    { x with st := r.1, c := r.2.1, err := r.2.2 }

/-- Comparator bit of a local point. -/
def sensedBit (r : HRep) (p : Nat) : Bool := bit (r.words.getD (p % 256 / 32) 0#32).toNat (p % 32)

/-- Compare one point of a board against its latched bit (Table 14-8). -/
def cmpPoint (s : State) (o : Op) (d : Nat) (r : HRep) (x : Cmp) (p : Nat) : Cmp :=
  if !isCompared s o x.c p then x
  else
    let one := sensedBit r p
    let same := decide (eNet (mapAt o x.c p) = eNet (mapAt o x.c d))
    let bst := (r.words.getD 8 0#32).toNat
    if scTest o = 0 then
      let x := { x with sensed := x.sensed + b2n one }
      if same && !one then x.add o (if p = d then 3 else 1) d p bst r.ns r.sec
      else if !same && one then x.add o 2 d p bst r.ns r.sec
      else x
    else if same then x
    else
      let x := { x with sensed := x.sensed + b2n one }
      if one then x.add o 4 d p bst r.ns r.sec else x

/-- The measured value of the driving board against its window (Table 14-8). -/
def cmpValue (s : State) (o : Op) (d : Nat) (r : HRep) (x : Cmp) : Cmp :=
  let w8 := (r.words.getD 8 0#32).toNat
  let e := mapAt o x.c d
  let k := eWin e - 1
  let v := if scTest o = 2 then w8 % 4096 else w8 % 4096 * 10 ^ (w8 / 4096 % 4)
  let lo := (rd s (if scTest o = 2 then R.HAR_DWIN_LO k else R.HAR_RWIN_LO k)).toNat
  let hi := (rd s (if scTest o = 2 then R.HAR_DWIN_HI k else R.HAR_RWIN_HI k)).toNat
  if v < lo then x.add o 5 d (eNet e) w8 r.ns r.sec
  else if hi < v then x.add o 6 d (eNet e) w8 r.ns r.sec
  else x

/-- Compare one board's reply for the driven point `d`: BOARD_MISSING without one, BOARD_FAULT where its status says so (R386). -/
def cmpBoard (s : State) (o : Op) (d : Nat) (x : Cmp) (key : Nat) : Cmp :=
  let first := key / 4 * 1024 + key % 4 * 256
  match x.c.reps.find? (fun r => r.key == key) with
  | none => x.add o 7 d first 0 (stampNs s) (stampS s)
  | some r =>
    let w8 := (r.words.getD 8 0#32).toNat
    let x := if w8 / 2 ^ 16 % 16 ≠ 0 then
        let y := x.add o 8 d first w8 r.ns r.sec
        { y with st := raise y.st F.HAR_EVT_BOARD_FAULT }
      else x
    if scTest o < 2 then (List.range 256).foldl (fun y i => cmpPoint s o d r y (first + i)) x
    else if key = 4 * ptLink d + ptPos d then cmpValue s o d r x
    else x

/-- Keys of the boards of the selected links, in order. -/
def boardKeys (s : State) (o : Op) : List Nat :=
  (linksOf (scLinks o)).flatMap (fun l => (List.range (boards s l)).map (fun k => 4 * l + k))

/-- The items of a driven point (R390). -/
def senseItems (s : State) (o : Op) (c : Scan) (d sensed mism : Nat) : List Item :=
  let w8 := match c.reps.find? (fun r => r.key == 4 * ptLink d + ptPos d) with
    | some r => (r.words.getD 8 0#32).toNat
    | none => 0
  let raw := isSet s F.HAR_CTL_RAW
  let sum : Item := ⟨leBytes 4 (d + 2 ^ 12 * scTest o + 2 ^ 16 * sensed) ++ leBytes 4 (min 0xFFFF mism + 2 ^ 16 * (w8 % 2 ^ 16))
      ++ leBytes 4 (stampNs s).toNat ++ leBytes 4 (stampS s).toNat, if raw then 1 else 3⟩
  let words := (boardKeys s o).flatMap (fun k => match c.reps.find? (fun r => r.key == k) with
    | some r => [⟨wordsBytes (r.words.take 4), 0⟩, ⟨wordsBytes ((r.words.drop 4).take 4), 0⟩]
    | none => [(⟨List.replicate 16 0#8, 8⟩ : Item), ⟨List.replicate 16 0#8, 8⟩])
  if raw then
    let l := sum :: words
    l.dropLast ++ (l.getLast?.map (fun i => { i with tag := i.tag + 2 })).toList
  else [sum]

/-- A point has been sensed by some board that is compared for it. -/
def wasCompared (s : State) (o : Op) (c : Scan) (d : Nat) : Bool :=
  if scTest o < 2 then (boardKeys s o).any (fun k => c.reps.any (fun r => r.key == k))
  else c.reps.any (fun r => r.key == 4 * ptLink d + ptPos d)

/-- The replies to STEP `j` are complete: compare the point before it, push its sense items, and end after STEP N. -/
def compareStep (s : State) (o : Op) (c : Scan) (j : Nat) : State :=
  match c.pts[j - 1]? with
  | none => s
  | some d =>
    let before := c.mism
    let x := (boardKeys s o).foldl (cmpBoard s o d) ⟨s, c, none, 0⟩
    let c := { x.c with driven := x.c.driven + b2n (wasCompared s o c d), tries := 0 }
    match x.err with
    | some e => scanEnd x.st o c (errStatus e)
    | none =>
      let s := setScan x.st c
      let s := if scSense o then pushAll s (scFifo o) 1 (senseItems s o c d x.sensed (c.mism - before)) else s
      if j = c.pts.length then
        let s := satAdd s F.HAR_CNT_SCANS 1
        let note := c.trunc || c.reread || c.retried
        giveRet (clearScan s) o (scanRet c (b2n note))
      else s

/-- All replies to the STEP sent last are in, or have been missed (R385, R386). -/
def stepReplied (s : State) (o : Op) (c : Scan) : State :=
  if c.redo || c.relink then s
  else match c.j with
  | none => s
  | some j =>
    if j = 0 then
      if c.pts = [] then
        giveRet (clearScan (satAdd s F.HAR_CNT_SCANS 1)) o (scanRet c (b2n (c.trunc || c.reread || c.retried)))
      else s
    else if (boardKeys s o).all (fun k => c.reps.any (fun r => r.key == k)) then compareStep s o c j
    else if c.tries < getf s F.HAR_CTL_RETRY then
      raise (satAdd (setScan s { c with tries := c.tries + 1, retried := true, lostStep := true }) F.HAR_CNT_RETRIES 1) F.HAR_EVT_RETRY
    else compareStep s o c j

/-- No reply is outstanding on the scan's links. -/
def repliesIn (s : State) (o : Op) : Bool := (linksOf (scLinks o)).all (fun l => (hlink s l).cmd.isNone)

/-- Act once the scan's STEP has all its replies. -/
def afterReply (s : State) : State :=
  match s.har.scan with
  | none => s
  | some c =>
    match opOf s c.tag with
    | none => s
    | some o => if c.ph = 2 && repliesIn s o then stepReplied s o c else s

/-! ### Starting a scan (R384) -/

/-- A test needs what a board lacks, or a point lies on no board (R384). -/
def scanBad (s : State) (o : Op) (c : Scan) (pts : List Nat) : Bool :=
  pts.any (fun p => !ptPresent s (scLinks o) p
    || (decide (2 ≤ scTest o) && (decide (eNet (mapAt o c p) = p) || !ptPresent s (scLinks o) (eNet (mapAt o c p)))))
  || (decide (1 ≤ scTest o) && (linksOf (scLinks o)).any (fun l =>
      (List.range (boards s l)).any (fun k => !bit (rd s (R.HAR_BRD_W1 l k)).toNat (if scTest o = 1 then 0 else 1))))

/-- 16-bit little-endian entries. -/
def halves : Nat → List Byte → List Nat
  | 0, _ => []
  | n + 1, bs => leNat (bs.take 2) :: halves n (bs.drop 2)

/-- Send CFG for register `r` on a link: every board acknowledges it. -/
def sendCfg (s : State) (l r : Nat) : State :=
  sendPkt s l 4 0 (r + 2 ^ 8 * getf s (F.HAR_BCFG_VALUE r)) (.cfg r) (allBoards s l)

/-- Send CFG from register `r` on until one is acknowledged by some board; with no boards the link is done. -/
def cfgFrom (s : State) (l r : Nat) : State :=
  if boards s l = 0 then
    let t := (List.range 4).foldl (fun t r => sendCfg t l r) s
    setHar t { t.har with dirty := clearBit t.har.dirty l }
  else sendCfg s l r

/-- The scan goes on once its links are UP and its CFG has been sent. -/
def scanGo (s : State) (o : Op) (c : Scan) : State :=
  if !linksUp s o then setf (setScan s c) F.HAR_STAT_WAIT_LINK 1
  else
    let s := setf s F.HAR_STAT_WAIT_LINK 0
    if c.ph = 2 then stepDue s o c
    else if c.ph = 1 ∧ (linksOf (scLinks o)).any (fun l => (hlink s l).cmd.isSome) then setScan s c
    else if (linksOf (scLinks o)).any (fun l => bit s.har.dirty l) then
      (linksOf (scLinks o)).foldl (fun t l => if bit t.har.dirty l then cfgFrom t l 0 else t) (setScan s { c with ph := 1 })
    else stepDue s o { c with ph := 2 }

/-- The map is read and the points are checked; then the scan goes on. -/
def scanBegin (s : State) (o : Op) (c : Scan) : State :=
  if !linksUp s o then setf (setScan s c) F.HAR_STAT_WAIT_LINK 1
  else
    let n := scLast o - scFirst o + 1
    let r := readBytes s (2 * n) (scMap o)
    match r.2 with
    | some e => scanEnd (noteErr s e) o c (errStatus e)
    | none =>
      let c := { c with map := halves n r.1 }
      let pts := ((List.range n).map (fun i => scFirst o + i)).filter (isDriven o c)
      if scanBad s o c pts then giveRet (clearScan s) o ⟨0x14, 0#32, 0#32⟩
      else
        let c := { c with pts := pts, ph := 1 }
        scanGo s o c

/-- A selected link is UP again, or CFG has been sent: the waiting scan goes on. -/
def scanResume (s : State) : State :=
  match s.har.scan with
  | none => s
  | some c =>
    match opOf s c.tag with
    | none => s
    | some o => if c.ph = 0 then scanBegin s o c else if c.ph = 1 || (c.relink && linksUp s o) then scanGo s o c else s

/-- The operation that Harrier serves next (R393). -/
def harTurn (s : State) (tag code : Nat) : Option Op :=
  if s.har.scan.isSome ∨ away s 6 then none
  else match s.ops.find? (fun o => (opcodeOf o == 0x20 || opcodeOf o == 0x21) && !o.fwd && o.ret == none) with
    | some o => if o.tag = tag ∧ opcodeOf o = code then some o else none
    | none => none

/-- HAR_SCAN (R384): `reread` says that a map read met BUSY and was repeated (R236). -/
def execHarScan (tag : Nat) (reread : Bool) (s : State) : Host.Outcome State Fault Refusal :=
  match harTurn s tag 0x20 with
  | none => done s
  | some o =>
    if scLast o < scFirst o ∨ scLinks o = 0 ∨ scMax o = 0 ∨ 32768 < scMax o ∨ 3 < scTest o ∨ (1 ≤ scSettle o ∧ scSettle o ≤ 5)
        ∨ scMap o % 2 ≠ 0 ∨ scRec o % 32 ≠ 0 ∨ in23 (scMap o) (2 * (scLast o - scFirst o + 1)) = false
        ∨ in23 (scRec o) (32 * scMax o) = false then
      done (giveRet s o ⟨0x14, 0#32, 0#32⟩)
    else if (linksOf (scLinks o)).any (fun l => !isSet s (F.HAR_LCTL_EN l)) then done (giveRet s o ⟨0x1B, 0#32, 0#32⟩)
    else
      let s := setHar s { s.har with links := scLinks o, scan := some { tag := tag, reread := reread } }
      let s := setf (setf (wr s R.HAR_HOLD 0#32) F.HAR_STAT_BUSY 1) F.HAR_STAT_OP 1
      done (scanBegin s o { tag := tag, reread := reread })

/-- HAR_SETTLE_EXPIRY (R385): the next STEP falls due once the replies to the last are in. -/
def execHarSettleExpiry (s : State) : Host.Outcome State Fault Refusal :=
  match s.har.scan with
  | none => done s
  | some c =>
    match opOf s c.tag with
    | none => done s
    | some o => if c.ph = 2 ∧ c.heldAt.isNone ∧ linksUp s o ∧ repliesIn s o then done (stepDue s o c) else done s

/-- XOFF has cleared: a held STEP goes out (R391). -/
def harRelease (s : State) : State :=
  match s.har.scan with
  | none => s
  | some c =>
    match opOf s c.tag with
    | none => s
    | some o => if c.heldAt.isSome && !mustHold s o then (let r := endHold s c; nextStep r.1 o r.2) else s

/-! ### Links (R379 to R381) -/

/-- A link leaves its state for TRAIN or OFF; a scan that uses it waits (R387). -/
def hRestart (s : State) (l st : Nat) (lost : Bool) : State :=
  let s := if lost then setf s F.HAR_EVT_LOST (setBit (getf s F.HAR_EVT_LOST) l) else s
  let s := setHlink (setf s (F.HAR_LSTAT_STATE l) st) l { seq := (hlink s l).seq }
  match s.har.scan with
  | none => s
  | some c =>
    if bit s.har.links l then
      let r := endHold s c
      let c : Scan := { r.2 with relink := true, redo := false, reps := [] }
      let s := if c.ph = 1 then setHar r.1 { r.1.har with dirty := setBit r.1.har.dirty l } else r.1
      setf (setScan s c) F.HAR_STAT_WAIT_LINK 1
    else s

/-- A link fails: back to TRAIN with a code. -/
def hFail (s : State) (l code : Nat) (lost : Bool) : State := hRestart (setf s (F.HAR_LSTAT_FAIL l) code) l 1 lost

/-- HAR_TRAIN_TIMEOUT. -/
def execHarTrainTimeout (l : Fin 4) (s : State) : Host.Outcome State Fault Refusal :=
  if getf s (F.HAR_LSTAT_STATE l.val) = 1 then done (setf s (F.HAR_LSTAT_FAIL l.val) 1) else done s

/-- HAR_WORD_LOCK (R372, R380): at a sampling phase; ENUM is sent with COUNT 0. -/
def execHarWordLock (l : Fin 4) (phase : Fin 16) (s : State) : Host.Outcome State Fault Refusal :=
  if getf s (F.HAR_LSTAT_STATE l.val) = 1 then
    done (emit (setf (setf s (F.HAR_LSTAT_PHASE l.val) phase.val) (F.HAR_LSTAT_STATE l.val) 2) (.scan l.val (ctlWord 0x03 0 0)))
  else done s

/-- HAR_WORD_LOCK_LOST (Table 14-6). -/
def execHarWordLockLost (l : Fin 4) (s : State) : Host.Outcome State Fault Refusal :=
  if 2 ≤ getf s (F.HAR_LSTAT_STATE l.val) then done (hFail s l.val 5 true) else done s

/-- The link has finished IDENT, or a scan's CFG: it is UP, and a waiting scan goes on. -/
def hDone (s : State) (l : Nat) : State :=
  let s := setHar s { s.har with dirty := clearBit s.har.dirty l }
  let s := if getf s (F.HAR_LSTAT_STATE l) = 3 then
      setf (setf s (F.HAR_LSTAT_STATE l) 4) F.HAR_EVT_UP (setBit (getf s F.HAR_EVT_UP) l) else s
  scanResume s

/-- HAR_ENUM_RETURN (Table 14-6): the count and the ring delay are checked; IDENT begins with the board at position 0. -/
def execHarEnumReturn (l : Fin 4) (count : Fin 256) (ringNs : Nat) (s : State) : Host.Outcome State Fault Refusal :=
  if getf s (F.HAR_LSTAT_STATE l.val) ≠ 2 then done s
  else if 1000 < ringNs then done (hFail s l.val 2 false)
  else if 4 < count.val then done (hFail s l.val 3 false)
  else
    let s := setf (setf s (F.HAR_LSTAT_BOARDS l.val) count.val) (F.HAR_LSTAT_RING_NS l.val) ringNs
    let s := (List.range 4).foldl (fun t k => wr (wr t (R.HAR_BRD_W0 l.val k) 0#32) (R.HAR_BRD_W1 l.val k) 0#32) s
    let x := getf s (F.HAR_LCTL_EXPECT l.val)
    let s := if x ≠ 7 ∧ x ≠ count.val then setf s F.HAR_EVT_EXP_MISMATCH (setBit (getf s F.HAR_EVT_EXP_MISMATCH) l.val) else s
    let s := setf s (F.HAR_LSTAT_STATE l.val) 3
    done (if count.val = 0 then hDone (cfgFrom s l.val 0) l.val else sendPkt s l.val 2 0 0 (.idq 0) 1)

/-- A reply whose CRC fails is discarded (R374). -/
def badReply (s : State) (l : Nat) : State := satAdd s (F.HAR_LCNT_CRC_ERR l) 1

/-- IDR (R381): the identity of the board asked; then the next board, then CFG. -/
def execIdr (l pos : Fin 4) (w0 w1 : W32) (good : Bool) (s : State) : Host.Outcome State Fault Refusal :=
  let x := hlink s l.val
  if x.cmd ≠ some (.idq pos.val) then done s
  else if !good then done (badReply s l.val)
  else
    let s := wr (wr s (R.HAR_BRD_W0 l.val pos.val) w0) (R.HAR_BRD_W1 l.val pos.val) w1
    let s := setHlink s l.val { x with cmd := none, need := 0, miss := 0 }
    done (if pos.val + 1 < boards s l.val then sendPkt s l.val 2 (pos.val + 1) 0 (.idq (pos.val + 1)) (2 ^ (pos.val + 1))
      else sendCfg s l.val 0)

/-- CFGA (R381): once every board has acknowledged a register the next is sent; after the fourth the link is UP. -/
def execCfga (l pos : Fin 4) (good : Bool) (s : State) : Host.Outcome State Fault Refusal :=
  let x := hlink s l.val
  match x.cmd with
  | some (.cfg r) =>
    if !good then done (badReply s l.val)
    else
      let need := clearBit x.need pos.val
      if need ≠ 0 then done (setHlink s l.val { x with need := need })
      else
        let s := setHlink s l.val { x with cmd := none, need := 0, miss := 0 }
        done (if r < 3 then sendCfg s l.val (r + 1) else hDone s l.val)
  | _ => done s

/-- RSP (R376): a board's reply to a STEP. -/
def execRsp (l pos : Fin 4) (words : List W32) (good : Bool) (s : State) : Host.Outcome State Fault Refusal :=
  let x := hlink s l.val
  if x.cmd ≠ some .step ∨ bit x.need pos.val = false then done s
  else if !good then done (badReply s l.val)
  else
    let need := clearBit x.need pos.val
    let s := setHlink s l.val { x with need := need, cmd := if need = 0 then none else x.cmd, miss := 0 }
    match s.har.scan with
    | none => done s
    | some c =>
      let rep : HRep := ⟨4 * l.val + pos.val, words.take 9, stampNs s, stampS s⟩
      done (afterReply (setScan s { c with reps := c.reps ++ [rep] }))

/-- Boards whose replies are missing. -/
def missing (m : Nat) : Nat := ((List.range 4).filter (fun k => bit m k)).length

/-- HAR_REPLY_TIMEOUT (R378, R379, R386): replies still outstanding 6 µs after their command are missing. -/
def execHarReplyTimeout (l : Fin 4) (s : State) : Host.Outcome State Fault Refusal :=
  let x := hlink s l.val
  match x.cmd with
  | none => done s
  | some c =>
    let s := satAdd s (F.HAR_LCNT_TIMEOUTS l.val) (missing x.need)
    match c with
    | .step => done (afterReply (setHlink s l.val { x with cmd := none, need := 0 }))
    | .idq pos =>
      if 3 ≤ x.miss + 1 then done (hFail s l.val 4 false)
      else done (sendPkt (setHlink s l.val { x with miss := x.miss + 1 }) l.val 2 pos 0 (.idq pos) (2 ^ pos))
    | .cfg r =>
      if 3 ≤ x.miss + 1 then done (hFail s l.val 4 (decide (getf s (F.HAR_LSTAT_STATE l.val) = 4)))
      else done (sendCfg (setHlink s l.val { x with miss := x.miss + 1 }) l.val r)

/-- HAR_LINK_WAIT_EXPIRY (R387). -/
def execHarLinkWaitExpiry (s : State) : Host.Outcome State Fault Refusal :=
  match s.har.scan with
  | none => done s
  | some c =>
    match opOf s c.tag with
    | none => done s
    | some o =>
      if isSet s F.HAR_STAT_WAIT_LINK && isSet s F.HAR_CTL_LINK_WAIT then
        done (scanEnd (raise s F.HAR_EVT_LINK_WAIT_TO) o c 0x1B)
      else done s

/-- A link as EN says (Table 14-5). -/
def harLinkStart (s : State) (l : Nat) : State :=
  if isSet s (F.HAR_LCTL_EN l) && !away s 6 && decide (getf s (F.HAR_LSTAT_STATE l) = 0) then setf s (F.HAR_LSTAT_STATE l) 1 else s

/-- HAR_LCTL as written: EN, EXPECT, RETRAIN. -/
def writeLctl (s : State) (l : Nat) (data : W32) : State :=
  let was := isSet s (F.HAR_LCTL_EN l)
  let s := setf (setf s (F.HAR_LCTL_EN l) (extractBits data 0 1)) (F.HAR_LCTL_EXPECT l) (extractBits data 1 3)
  let up := hUp s l
  if !isSet s (F.HAR_LCTL_EN l) then (if was then hRestart s l 0 up else s)
  else if !was then harLinkStart s l
  else if extractBits data 4 1 = 1 ∧ getf s (F.HAR_LSTAT_STATE l) ≠ 0 then hRestart s l 1 up
  else s

/-- HAR_LINK_EN (R379). -/
def execHarLinkEn (l : Fin 4) (en : Bool) (s : State) : Host.Outcome State Fault Refusal :=
  if regAway s (R.HAR_LCTL l.val) then done s
  else done (writeLctl s l.val (insertBits (rd s (R.HAR_LCTL l.val)) 0 1 (b2n en)))

/-- HAR_RETRAIN (R379). -/
def execHarRetrain (l : Fin 4) (s : State) : Host.Outcome State Fault Refusal :=
  if regAway s (R.HAR_LCTL l.val) then done s
  else done (writeLctl s l.val (rd s (R.HAR_LCTL l.val) ||| 0x10#32))

/-! ### HAR_NETMAP_LOAD (R394) -/

/-- Set bit 15 of the first entry of each value, and clear it elsewhere; with the values met so far. -/
def repBits : List Nat → List Nat → List Nat × Nat
  | _, [] => ([], 0)
  | seen, e :: t =>
    let v := eNet e
    let rep := v ≠ 0 ∧ seen.contains v = false
    let r := repBits (if rep then v :: seen else seen) t
    ((e % 2 ^ 15 + 2 ^ 15 * b2n (decide rep)) :: r.1, r.2 + b2n (decide rep))

/-- HAR_NETMAP_LOAD: `h` is what host memory answered for the source. -/
def execHarNetmapLoad (tag : Nat) (h : ReadEnd) (s : State) : Host.Outcome State Fault Refusal :=
  match harTurn s tag 0x21 with
  | none => done s
  | some o =>
    let n := dLength o.words
    let dst := (opWord o 6).toNat
    if 4095 < opFld o 8 0 12 + n / 2 - 1 ∨ dst % 2 ≠ 0 ∨ in23 dst n = false then done (giveRet s o ⟨0x14, 0#32, 0#32⟩)
    else
      let r := sourceBytes s (decide (opFld o 7 0 1 = 1)) (d64 o.words 4) n h
      match r.2 with
      | some e => done (giveRet (noteErr s e) o ⟨errStatus e, 0#32, 0#32⟩)
      | none =>
        let m := repBits [] (halves (n / 2) r.1)
        let w := writeBytes s dst (m.1.flatMap (leBytes 2))
        match w.2.2 with
        | some e => done (giveRet (noteErr w.1 e) o ⟨errStatus e, 0#32, 0#32⟩)
        | none => done (giveRet w.1 o ⟨0, w32 (n / 2), w32 m.2⟩)

end Sys2Proof.Machine
end

