-- ==== Sys2Proof/Machine/HostLink.lean ====
section
/-! DEFINITION. The PCI Express link of the unit: its loss and return, PERST_N, configuration space, and the answers to the reads of
host memory that the device issues (R251, R253, R273, R276, R277, R354, R355). -/
namespace Sys2Proof.Machine

def setHif (s : State) (h : Hif) : State := { s with hif := h }

/-! ### Loss and return (R276, R355) -/

/-- The tunnel reads that the head holds for its members. -/
def tunnelReads (s : State) : List HRead := s.hif.reads.filter (fun r => match r.use with | .tunnel _ _ => true | _ => false)

/-- The head answers every tunnel read with STATUS 3 (R355). -/
def endTunnels (s : State) : State :=
  let l := tunnelReads s
  let s := l.foldl (fun t r => dropRead t r.id) s
  l.foldl (fun t r => match r.use with | .tunnel u tag => tunCpl t u tag 3 1 0 [] | _ => t) s

/-- The head announces its host link, where it has changed (R355). -/
def announce (s : State) : State := if isHead s && s.enu.announced != hostUp s then floodTopo s else s

/-- What follows a change of the link's fields; `up` and `reach` are the host link and the host's reach before it. -/
def linkChanged (up reach : Bool) (s : State) : State :=
  if up && !hostUp s then
    let s := if s.enu.tunneled then s else applyLoss s
    announce (endTunnels s)
  else announce (noteReach reach s)

/-- The link leaves L0 for Detect or Disabled: counted, and forwarded aperture reads are lost with it (R278). -/
def linkDrop (s : State) : State :=
  if !isSet s F.HIF_STAT_LINK_UP then s
  else
    let up := hostUp s
    let reach := hostReach s
    let s := raise (satAdd s F.HIF_LINK_EVT_RETRAINS 1) F.HIF_LINK_EVT_DOWN
    let s := setf (setf (setf s F.HIF_STAT_LINK_UP 0) F.HIF_STAT_SPEED 0) F.HIF_STAT_WIDTH 0
    linkChanged up reach (setHif s { s.hif with winReads := [] })

/-- HOST_LINK_UP (R276, R277): the link reaches L0 at a speed and width; from L0 it had passed through Recovery, which is counted. It
trains only with PERST_N high and D0 ready. -/
def execHostLinkUp (speed : Fin 4) (width : Fin 8) (s : State) : Host.Outcome State Fault Refusal :=
  if inReset s 0 || !isSet s F.HIF_STAT_PERST then done s
  else
    let up := hostUp s
    let reach := hostReach s
    let s := if isSet s F.HIF_STAT_LINK_UP then satAdd s F.HIF_LINK_EVT_RETRAINS 1 else s
    let s := setf (setf (setf s F.HIF_STAT_LINK_UP 1) F.HIF_STAT_SPEED speed.val) F.HIF_STAT_WIDTH width.val
    done (linkChanged up reach s)

/-- Bus Master Enable as written (R253). -/
def setBme (s : State) (on : Bool) : State :=
  let up := hostUp s
  let reach := hostReach s
  let s := if isSet s F.HIF_STAT_BME && !on then raise s F.HIF_LINK_EVT_BME_OFF else s
  linkChanged up reach (setf s F.HIF_STAT_BME (b2n on))

/-- The function enters or leaves D3hot (R253). -/
def setD3hot (s : State) (on : Bool) : State :=
  let up := hostUp s
  let reach := hostReach s
  let s := if !isSet s F.HIF_STAT_D3HOT && on then raise s F.HIF_LINK_EVT_BME_OFF else s
  linkChanged up reach (setf s F.HIF_STAT_D3HOT (b2n on))

/-- HOST_LINK_LOSS (R276). -/
def execHostLinkLoss (why : LinkLoss) (s : State) : Host.Outcome State Fault Refusal :=
  match why with
  | .down => done (linkDrop s)
  | .bmeOff => done (if isSet s F.HIF_STAT_LINK_UP then setBme s false else s)
  | .d3hot => done (if isSet s F.HIF_STAT_LINK_UP then setD3hot s true else s)

/-! ### Configuration space (R253, R254, R273) -/

/-- MSIX_EN follows MSI-X Enable and Function Mask; what waited for messages is then sent (R273, R274). -/
def msixUpdate (s : State) : State :=
  let was := isSet s F.HIF_STAT_MSIX_EN
  let now := s.hif.msixEn && !s.hif.funcMask
  let s := setf s F.HIF_STAT_MSIX_EN (b2n now)
  if now && !was then
    let s := sendHeldDev s
    (s.ctxs.map (·.1)).foldl (fun t c => if dueOn t (getf t (F.CTX_INT_VEC c)) (c, ctx t c) then sendCtxInt t c else t) s
  else s

/-- HOST_CONFIG_WRITE (R251, R253, R273): served while the link is in L0 and D0 is in service. -/
def execHostConfigWrite (w : CfgWrite) (s : State) : Host.Outcome State Fault Refusal :=
  if away s 0 || !isSet s F.HIF_STAT_LINK_UP then done s
  else
    match w with
    | .busMasterEnable on => done (setBme s on)
    | .d3hot on => done (setD3hot s on)
    | .msixEnable on => done (msixUpdate (setHif s { s.hif with msixEn := on }))
    | .functionMask on => done (msixUpdate (setHif s { s.hif with funcMask := on }))
    | .memorySpaceEnable on => done (setHif s { s.hif with memSpace := on })
    | .relaxedOrdering on => done (setHif s { s.hif with relaxed := on })
    | .other off data => done (setHif s { s.hif with cfgSpace := sset 0#32 off data s.hif.cfgSpace })

/-! ### Reads of host memory (R25, R251, R354) -/

/-- The outstanding read with a number, on the unit's own link. -/
def ownRead (s : State) (id : Nat) : Option HRead :=
  if isMember s then none else s.hif.reads.find? (fun r => r.id == id)

/-- A read ends without its data: `tun` is the STATUS for a member's tunnel read. -/
def readFails (s : State) (r : HRead) (fe : FetchEnd) (tun : Nat) : State :=
  let s := dropRead s r.id
  match r.use with
  | .op t => (match opOf s t with | some o => giveRet s o ⟨0x20, w32 o.prog, w32 o.prog⟩ | none => s)
  | .fetch c => fetchEnds s c fe
  | .tunnel u tag => if unitReach s u then tunCpl s u tag tun 1 r.got [] else satAdd s F.ENU_CNT_LATE_REPLIES 1

/-- Data of a read, in ascending order. -/
def readData (s : State) (r : HRead) (bs : List Byte) : State :=
  let d := bs.take (r.len - r.got)
  let last := decide (r.len ≤ r.got + d.length)
  let s := if last then dropRead s r.id
    else setHif s { s.hif with reads := s.hif.reads.map (fun q =>
      if q.id == r.id then { q with got := q.got + d.length, buf := match q.use with | .fetch _ => q.buf ++ d | _ => [] } else q) }
  match r.use with
  | .op t => (match opOf s t with | some o => copyData s o d | none => s)
  | .fetch c => if last then fetchEnds s c (.slots (slotsOf (r.len / 64) (r.buf ++ d))) else s
  | .tunnel u tag =>
    if unitReach s u then tunCpl s u tag 0 (b2n last) r.got d
    else if last then satAdd s F.ENU_CNT_LATE_REPLIES 1 else s

/-- HOST_READ_COMPLETION (R25, R251, R354): a completion for the read with a number. -/
def takeHostReadCompletion (id : Nat) (e : ReadEnd) (s : State) : Host.Outcome State Fault Refusal :=
  match ownRead s id with
  | none => done s
  | some r =>
    if !isSet s F.HIF_STAT_LINK_UP then done s
    else match e with
      | .ok d => done (readData s r d)
      | .failed => done (readFails s r .failed 1)

/-- HOST_COMPLETION_TIMEOUT (R251). -/
def execHostCompletionTimeout (id : Nat) (s : State) : Host.Outcome State Fault Refusal :=
  match ownRead s id with
  | none => done s
  | some r => done (readFails s r .timeout 2)

/-- WINDOW_READ_TIMEOUT (R256). -/
def execWindowReadTimeout (wtag : Fin 256) (s : State) : Host.Outcome State Fault Refusal :=
  match s.hif.winReads.find? (fun w => w.wtag == wtag.val) with
  | none => done s
  | some w =>
    let s := setHif s { s.hif with winReads := s.hif.winReads.erase w }
    done (emit (satAdd s F.HIF_WIN_CNT_TIMEOUT 1) (.hostCpl .completerAbort []))

/-! ### PERST_N (R44, R276, R277) -/

/-- PERST_FALL: D0 is fenced with zero drain, reset, and held in reset by the level; the pin is examined once G3 is powered. -/
def execPerstFall (s : State) : Host.Outcome State Fault Refusal :=
  let s := setf s F.HIF_STAT_PERST 0
  if !(dom s 0).powered then done s
  else done (requestReset (raise (linkDrop s) F.HIF_LINK_EVT_PERST) 0 2 0 false)

/-- PERST_RISE: the level ends; D0 is then released. -/
def execPerstRise (s : State) : Host.Outcome State Fault Refusal := done (setf s F.HIF_STAT_PERST 1)

/-- A reset of D0 (R277): the link, the configuration space and MSI-X go; the pin's level stays as it is. -/
def hifReset (s : State) : State :=
  setHif s { s.hif with memSpace := false, relaxed := false, msixEn := false, funcMask := false, cfgSpace := [], winReads := [] }

end Sys2Proof.Machine
end

