-- ==== Sys2Proof/Machine/VbuOps.lean ====
section
/-! DEFINITION. The vehicle bus units as shared operations (16_vehicle_bus_units.md): transmit buffers, error states, filters, header
items, the receive path and receive operations. -/
namespace Sys2Proof.Machine

def can (s : State) (n : Nat) : Can := (sget n s.vbu.can).getD {}
def setCan (s : State) (n : Nat) (x : Can) : State := { s with vbu := { s.vbu with can := sset {} n x s.vbu.can } }
def lin (s : State) (m : Nat) : Lin := (sget m s.vbu.lin).getD {}
def setLin (s : State) (m : Nat) (x : Lin) : State := { s with vbu := { s.vbu with lin := sset {} m x s.vbu.lin } }
def sent (s : State) (k : Nat) : Sent := (sget k s.vbu.sent).getD {}
def setSent (s : State) (k : Nat) (x : Sent) : State := { s with vbu := { s.vbu with sent := sset {} k x s.vbu.sent } }

/-! ### Times (R448) -/

/-- The timebase value `ago` ns before now, in the format of R286. -/
def stampAgo (s : State) (ago : Nat) : W32 × W32 :=
  let t := s.tbu.sec * 1000000000 + s.tbu.ns - ago
  (w32 (getf s F.TBU_STAT_HOLD * 2 ^ 31 + getf s F.TBU_STAT_UNSYNC * 2 ^ 30 + t % 1000000000), w32 (t / 1000000000))

/-! ### Transmit buffers (R425 to R430) -/

/-- Controller states (Table 16-3). -/
abbrev canOff : Nat := 0
abbrev canInteg : Nat := 1
abbrev canActive : Nat := 2
abbrev canPassive : Nat := 3
abbrev canBusOff : Nat := 4
abbrev canRecovering : Nat := 5

def canState (s : State) (n : Nat) : Nat := getf s (F.CAN_STAT_STATE n)

/-- Buffers in state `st`, as a mask. -/
def bufMask (x : Can) (p : TxBuf → Bool) : Nat := x.bufs.foldl (fun m b => if p b.2 then setBit m b.1 else m) 0

/-- The registers show the controller. -/
def showCan (s : State) (n : Nat) : State :=
  let x := can s n
  let s := setf (setf s (F.CAN_STAT_TX_PEND n) x.bufs.length) (F.CAN_STAT_WAITQ n) x.waitq.length
  let s := wr s (R.CAN_TXB_PEND n) (w32 (bufMask x (fun b => b.st != 3)))
  let s := wr s (R.CAN_TXB_HELD n) (w32 (bufMask x (fun b => b.st == 3)))
  setf (setf s (F.CAN_ERRC_TEC n) x.tec) (F.CAN_ERRC_REC n) (min 255 x.rxc)

/-- The arbitration field of a frame as a number: the lower one wins (a dominant bit is 0). -/
def arbKey (id : Nat) (ide rtr : Bool) : Nat :=
  if ide then id / 2 ^ 18 * 2 ^ 21 + 2 ^ 20 + 2 ^ 19 + id % 2 ^ 18 * 2 + b2n rtr
  else id % 2 ^ 11 * 2 ^ 21 + b2n rtr * 2 ^ 20

/-- Fields of a VBU_TX (Table 11-3). -/
def txId (ws : List W32) : Nat := df ws 4 0 29
def txIde (ws : List W32) : Bool := decide (df ws 4 29 1 = 1)
def txRtr (ws : List W32) : Bool := decide (df ws 4 30 1 = 1)
def txDlc (ws : List W32) : Nat := df ws 5 0 4
def txFdf (ws : List W32) : Bool := decide (df ws 5 4 1 = 1)
def txBrs (ws : List W32) : Bool := decide (df ws 5 5 1 = 1)
def txRetry (ws : List W32) : Nat := df ws 5 16 8

/-- The descriptor of an operation, if it is still in flight. -/
def wordsOf (s : State) (tag : Nat) : List W32 := ((opOf s tag).map (·.words)).getD []

/-- A buffer's place in the selection: arbitration field, then order of filling (R425). -/
def bufKey (s : State) (b : TxBuf) : Nat × Nat :=
  let ws := wordsOf s b.op
  (arbKey (txId ws) (txIde ws) (txRtr ws), b.ord)

/-- Buffer `a` goes before buffer `b`. -/
def bufBefore (s : State) (a b : TxBuf) : Bool :=
  let x := bufKey s a
  let y := bufKey s b
  decide (x.1 < y.1) || (decide (x.1 = y.1) && decide (x.2 < y.2))

/-- The PENDING buffer that is sent next. -/
def bestBuf (s : State) (l : List (Nat × TxBuf)) : Option (Nat × TxBuf) :=
  (l.filter (fun b => b.2.st == 1)).foldl (fun r b =>
    match r with
    | none => some b
    | some c => if bufBefore s b.2 c.2 then some b else some c) none

/-- The ACTIVE buffer. -/
def activeBuf (x : Can) : Option (Nat × TxBuf) := x.bufs.find? (fun b => b.2.st == 2)

/-- A VBU_TX ends with Table 16-6's words. -/
def txEnd (s : State) (tag status att buf fin : Nat) (r1 : W32) : State :=
  match opOf s tag with
  | none => s
  | some o => giveRet s o ⟨status, w32 (min 65535 att + buf % 32 * 2 ^ 16 + fin % 256 * 2 ^ 24), r1⟩

/-- Fill free buffers from the waiting queue (R426); in BUS_OFF and RECOVERING they are HELD (R429). -/
def canRefill (s : State) (n : Nat) : Nat → State
  | 0 => s
  | fuel + 1 =>
    let x := can s n
    match x.waitq, (List.range 32).find? (fun i => (sget i x.bufs).isNone) with
    | w :: t, some i =>
      let st := if canState s n = canBusOff ∨ canState s n = canRecovering then 3 else 1
      canRefill (setCan s n { x with waitq := t, bufs := sput i { op := w.1, st := st, data := w.2, ord := x.ord } x.bufs,
                                     ord := x.ord + 1 }) n fuel
    | _, _ => s

/-- Free buffer `i`; its VBU_TX ends. -/
def freeBuf (s : State) (n i : Nat) (status fin : Nat) : State :=
  let x := can s n
  match sget i x.bufs with
  | none => s
  | some b => txEnd (setCan s n { x with bufs := sdel i x.bufs }) b.op status b.att i fin b.sof

/-! ### Receive operations (R435, R438) -/

/-- The receive operation armed on FIFO `f`: a VBU_RX_ARM, or the first OSP_RX while Osprey has its clock. -/
def armOf (s : State) (f : Nat) : Option Op :=
  s.ops.find? (fun o => (opcodeOf o == 0x11 || (opcodeOf o == 0x31 && isSet s F.OSP_STAT_SCLK_OK)) && o.started && !o.fwd && o.ret == none
    && opFifo s o == some f)

/-- Filter registers of slot `k` of the channel with producer code `c`: CAN 0x10 + n, LIN 0x20 + m. -/
def fltId (c k : Nat) : Nat := if c < 0x20 then R.CAN_FLT_ID (c - 0x10) k else R.LIN_FLT_ID (c - 0x20) k
def fltMask (c k : Nat) : Nat := if c < 0x20 then R.CAN_FLT_MASK (c - 0x10) k else R.LIN_FLT_MASK (c - 0x20) k
def fltFifo (c k : Nat) : Nat := if c < 0x20 then R.CAN_FLT_FIFO (c - 0x10) k else R.LIN_FLT_FIFO (c - 0x20) k

/-- Slot `k` is enabled; it names FIFO `f`. -/
def fltEn (s : State) (c k : Nat) : Bool := decide (extractBits (rd s (fltId c k)) 31 1 = 1)
def fltNames (s : State) (c k f : Nat) : Bool := fltEn s c k && decide (extractBits (rd s (fltFifo c k)) 0 6 = f)

/-- The producer code of a vehicle bus channel (Table 15-1). -/
def vbuProd (ws : List W32) : Nat := 0x10 * (vbuKind ws + 1) + vbuChan ws

/-- ARMED of every slot of a channel that names the FIFO. -/
def showArmed (s : State) (c f : Nat) (on : Bool) : State :=
  if 0x30 ≤ c then setf s (F.SENT_FLT_ARMED (c - 0x30)) (b2n on)
  else (List.range 8).foldl (fun t k =>
    if fltNames t c k f then wr t (fltFifo c k) (insertBits (rd t (fltFifo c k)) 8 1 (b2n on)) else t) s

/-- The destination, its space and the number of frames or packets of a receive operation (Table 11-3). -/
def rxAddr (o : Op) : Nat := d64 o.words (if opcodeOf o = 0x31 then 4 else 6)
def rxSpace (o : Op) : Bool := if opcodeOf o = 0x31 then decide (opFld o 6 0 1 = 1) else decide (opFld o 8 8 1 = 1)
def rxMax (o : Op) : Nat := if opcodeOf o = 0x31 then opFld o 7 0 16 else opFld o 9 0 16

/-- A receive operation ends (Tables 16-8 and 17-7): frames in RESULT0, END and bytes in RESULT1. -/
def rxEnd (s : State) (o : Op) (fin status : Nat) : State :=
  giveRet (if opcodeOf o = 0x11 then showArmed s (vbuProd o.words) (opFld o 8 0 6) false else s) { o with buf := [] }
    ⟨status, w32 o.count, w32 (fin * 2 ^ 28 + o.prog % 2 ^ 25)⟩

/-- Write to the destination of a receive operation, where it writes next. -/
def rxPut (s : State) (o : Op) (bs : List Byte) : State × Nat × Option Err := moverPut s o.ctx (rxSpace o) (rxAddr o + o.prog) bs

/-- A popped item reaches a receive operation (R438, R471). -/
def rxItem (s : State) (o : Op) (it : Item) : State :=
  if tGap it.tag then
    let w := rxPut s o it.data
    let s := noteOpt w.1 w.2.2
    match w.2.2 with
    | some e => rxEnd s { o with prog := o.prog + w.2.1 } 5 (errStatus e)
    | none => rxEnd s { o with prog := o.prog + 16 } 4 0x60
  else
    let b := if tSop it.tag then it.data else if o.buf = [] then [] else o.buf ++ it.data
    if b ≠ [] ∧ tEop it.tag then
      let w := rxPut s o b
      let s := noteOpt w.1 w.2.2
      match w.2.2 with
      | some e => rxEnd s { o with prog := o.prog + w.2.1 } 5 (errStatus e)
      | none =>
        let o := { o with prog := o.prog + b.length, count := o.count + 1, buf := [] }
        if rxMax o ≠ 0 ∧ rxMax o ≤ o.count then rxEnd (setOp s o) o 0 0 else setOp s o
    else setOp s { o with buf := b }

/-- Bytes that the frame whose header item is `it` takes in the destination (R437). -/
def frameBytes (it : Item) : Nat :=
  let len := (it.data.getD 6 0#8).toNat % 128
  16 * (1 + (len + 15) / 16)

/-- Bytes that the packet at the head of a FIFO takes: to its EOP, or the 16 of a marker that cuts it off; none while its
end has not arrived. -/
def packetBytes (n : Nat) : List Item → Option Nat
  | [] => none
  | it :: t => if tGap it.tag then some 16 else if tEop it.tag then some (16 * (n + 1)) else packetBytes (n + 1) t

/-- What the mover of a receive operation does about the item at the head: 0 pop it; 1 end, since the frame or packet would pass
the end of the destination (END 1); 2 wait, until Osprey's packet shows its length. A packet of Osprey takes at most 18 items. -/
def rxVerdict (o : Op) (l : List Item) : Nat :=
  let room := opFld o 2 0 32 - o.prog
  match l with
  | [] => 2
  | it :: _ =>
    if tGap it.tag then (if o.buf = [] ∧ room < 16 then 1 else 0)
    else if !tSop it.tag then 0
    else if opcodeOf o = 0x11 then (if room < frameBytes it then 1 else 0)
    else match packetBytes 0 l with
      | some n => if room < n then 1 else 0
      | none => if 288 ≤ room then 0 else if room < 16 * (l.length + 1) then 1 else 2

/-- The mover that serves a receive operation looks at FIFO `n` in a turn that may also bring a push. -/
def rxPop (s : State) (n : Nat) (o : Op) (p : Option (Nat × Item)) : State :=
  let pushOnly (s : State) : State := match p with | some (prod, i) => push s n prod i | none => s
  match rxVerdict o (fifo s n).items with
  | 0 =>
    let r := popTurn s n p
    (match r.2 with | some i => rxItem r.1 o i | none => r.1)
  | 1 => pushOnly (rxEnd s o 1 0)
  | _ => pushOnly s

/-! ### Stopping a controller (R422) -/

/-- Every filter slot of a channel is released. -/
def releaseSlots (s : State) (c : Nat) : State :=
  if 0x30 ≤ c then wr s (R.SENT_FLT (c - 0x30)) 0#32
  else (List.range 8).foldl (fun t k =>
    wr (wr t (fltId c k) (insertBits (rd t (fltId c k)) 31 1 0)) (fltFifo c k) (insertBits (rd t (fltFifo c k)) 8 1 0)) s

/-- Every receive operation armed on a channel ends with OK, END = 3. -/
def endArms (s : State) (c : Nat) : State :=
  (s.ops.filter (fun o => opcodeOf o == 0x11 && o.started && !o.fwd && o.ret == none && vbuProd o.words == c)).foldl (fun t o => rxEnd t o 3 0) s

/-- A VBU_CTRL ends. -/
def ctlEnd (s : State) (tag status : Nat) (r0 r1 : W32) : State :=
  match opOf s tag with
  | none => s
  | some o => giveRet s o ⟨status, r0, r1⟩

/-- The controller goes to OFF, and its operations end. -/
def canStopNow (s : State) (n : Nat) : State :=
  let x := can s n
  let s := setCan s n { x with bufs := [], waitq := [], stop := none, rxing := false, susp := false, recs := [] }
  let s := x.bufs.foldl (fun t b => txEnd t b.2.op 0x1B b.2.att b.1 3 b.2.sof) s
  let s := x.waitq.foldl (fun t w => txEnd t w.1 0x1B 0 0 3 0#32) s
  let s := releaseSlots (endArms s (0x10 + n)) (0x10 + n)
  let s := x.recs.foldl (fun t r => ctlEnd t r 0x1B 0#32 0#32) s
  let s := showCan (setf s (F.CAN_STAT_STATE n) canOff) n
  match x.stop with
  | some tag => ctlEnd s tag 0 0#32 0#32
  | none => s

/-- The frame on the bus has ended: a STOP that waits for it is carried out. -/
def canBusFree (s : State) (n : Nat) : State :=
  let x := can s n
  let s := setCan s n { x with rxing := false }
  if x.stop.isSome && (activeBuf x).isNone then canStopNow s n else s

/-! ### Error counters and states (R421, R429 to R433) -/

/-- Recovery begins. -/
def canRecover (s : State) (n : Nat) : State := setf (setf s (F.CAN_STAT_STATE n) canRecovering) (F.CAN_STAT_RECOV n) 0

/-- BUS_OFF (R429): every buffer becomes HELD; with AUTO_REC recovery begins. -/
def canGoesOff (s : State) (n : Nat) : State :=
  let x := can s n
  let s := setCan s n { x with bufs := x.bufs.map (fun b => (b.1, { b.2 with st := 3 })), susp := false }
  let s := satAdd (raise (setf s (F.CAN_STAT_STATE n) canBusOff) (F.CAN_EVT_BUSOFF n)) (F.CAN_CNT3_BUSOFFS n) 1
  if isSet s (F.CAN_CTL_AUTO_REC n) then canRecover s n else s

/-- The error state follows the counters, unless FREEZE holds it (R421, R432). -/
def canJudge (s : State) (n : Nat) : State :=
  let x := can s n
  let st := canState s n
  if isSet s (F.CAN_TEST_FREEZE n) then s
  else if (st = canActive ∨ st = canPassive) ∧ 255 < x.tec then canGoesOff s n
  else if st = canActive ∧ (127 < x.tec ∨ 127 < x.rxc) then raise (setf s (F.CAN_STAT_STATE n) canPassive) (F.CAN_EVT_PASSIVE n)
  else if st = canPassive ∧ x.tec ≤ 127 ∧ x.rxc ≤ 127 then setf s (F.CAN_STAT_STATE n) canActive
  else s

/-- Set the counters, unless FREEZE holds them. -/
def canCount (s : State) (n tec rxc : Nat) : State :=
  if isSet s (F.CAN_TEST_FREEZE n) then s else setCan s n { can s n with tec := min 256 tec, rxc := rxc }

/-- An entry of the error ring (R433). -/
def canLog (s : State) (n kind : Nat) (dataPhase tx : Bool) : State :=
  let x := can s n
  let w0 := w32 (kind % 8 + 8 * b2n dataPhase + 16 * b2n tx + 2 ^ 8 * x.tec + 2 ^ 24 * min 255 x.rxc)
  let s := setCan s n { x with elog := sput x.enext (w0, stampNs s) x.elog, enext := (x.enext + 1) % 16 }
  satAdd (raise s (F.CAN_EVT_ELOG n)) (F.CAN_CNT2_ERRORS n) 1

/-! ### Receiving (R434, R436, R437) -/

/-- A header item (Table 16-7); `hi` is its bits [127:64]. -/
def hdrItem (lo hi tag : Nat) : Item := ⟨leBytes 8 lo ++ leBytes 8 hi, tag⟩

/-- Bits [63:0] of a header item. -/
def hdrLo (id : Nat) (ide rtr : Bool) (kind dlc : Nat) (fdf brs esi txe : Bool) (len slot errs : Nat) : Nat :=
  id % 2 ^ 29 + 2 ^ 29 * b2n ide + 2 ^ 30 * b2n rtr + 2 ^ 32 * kind + 2 ^ 40 * (dlc % 16) + 2 ^ 44 * b2n fdf + 2 ^ 45 * b2n brs
  + 2 ^ 46 * b2n esi + 2 ^ 47 * b2n txe + 2 ^ 48 * (len % 128) + 2 ^ 56 * (slot % 8) + 2 ^ 59 * (errs % 32)

/-- Bits [127:64] with a time (R286). -/
def hdrTime (t : W32 × W32) : Nat := t.1.toNat + 2 ^ 32 * t.2.toNat

/-- Data items of a frame: 16 bytes each, the last one padded with zeros. -/
def dataItems (err : Nat) : Nat → List Byte → List Item
  | 0, _ => []
  | k + 1, bs =>
    let d := bs.take 16
    ⟨d ++ List.replicate (16 - d.length) 0#8, err + (if k = 0 then 2 else 0)⟩ :: dataItems err k (bs.drop 16)

/-- The items of a frame: SOP on the header item, EOP on the last (R437). -/
def frameItems (lo hi : Nat) (data : List Byte) (err : Bool) : List Item :=
  let k := (data.length + 15) / 16
  let e := 8 * b2n err
  hdrItem lo hi (1 + e + (if k = 0 then 2 else 0)) :: dataItems e k data

/-- A taken frame enters the receive path of the channel with producer code `c` and is pushed; it stays there only while D5
is in reset (R436). -/
def pathPush (s : State) (c f : Nat) (l : List Item) : State :=
  if inReset s 5 then
    let q := (sget c s.vbu.rx).getD []
    if q.length < 64 then { s with vbu := { s.vbu with rx := sput c (q ++ [(f, l)]) s.vbu.rx } }
    else if c < 0x20 then satAdd (raise s (F.CAN_EVT_RX_OVF (c - 0x10))) (F.CAN_CNT3_RX_OVF (c - 0x10)) 1
    else s
  else pushAll s f c l

/-- D5 is in service again: the receive paths are pushed. -/
def vbuDrain (s : State) : State :=
  s.vbu.rx.foldl (fun t q => q.2.foldl (fun t f => pushAll t f.1 q.1 f.2) t) { s with vbu := { s.vbu with rx := [] } }

/-- The lowest enabled slot that takes an identifier (R434, R443). -/
def slotFor (s : State) (c id : Nat) (ide : Bool) : Option Nat :=
  (List.range 8).find? (fun k =>
    let i := rd s (fltId c k)
    let m := rd s (fltMask c k)
    let w := if c < 0x20 then w32 (if ide then id % 2 ^ 29 else id % 2 ^ 11) ||| w32 (2 ^ 29 * b2n ide) else w32 (id % 64)
    fltEn s c k && decide ((w ^^^ i) &&& m &&& (if c < 0x20 then 0x3FFFFFFF#32 else 0x3F#32) = 0#32))

/-- A valid CAN frame is taken by a slot, or counted in UNMATCHED. -/
def canTake (s : State) (n id : Nat) (ide rtr : Bool) (dlc : Nat) (fdf brs esi txe : Bool) (data : List Byte) (t : W32 × W32) : State :=
  let c := 0x10 + n
  match slotFor s c id ide with
  | none => satAdd s (F.CAN_CNT2_UNMATCHED n) 1
  | some k =>
    pathPush s c (extractBits (rd s (fltFifo c k)) 0 6)
      (frameItems (hdrLo id ide rtr 1 dlc fdf brs esi txe data.length k 0) (hdrTime t) data false)

/-! ### Fence and reset of D7 (R451) -/

/-- The abort turn: frames are cut off, and what the units held goes with its operations. -/
def vbuAbort (s : State) : State :=
  let s := (List.range 16).foldl (fun t n =>
    let x := can t n
    if x.bufs = [] ∧ x.waitq = [] ∧ x.stop = none ∧ x.recs = [] then t
    else showCan (setCan t n { x with bufs := [], waitq := [], stop := none, rxing := false, recs := [] }) n) s
  let s := (List.range 16).foldl (fun t m => setLin t m { lin t m with q := [], hdr := none }) s
  (List.range 16).foldl (fun t n => (List.range 8).foldl (fun t k =>
    wr (wr t (R.CAN_FLT_FIFO n k) (insertBits (rd t (R.CAN_FLT_FIFO n k)) 8 1 0)) (R.LIN_FLT_FIFO n k)
      (insertBits (rd t (R.LIN_FLT_FIFO n k)) 8 1 0)) t)
    ((List.range 8).foldl (fun t k => setf t (F.SENT_FLT_ARMED k) 0) s)

/-- A reset of D7 leaves the units OFF; their registers go with the domain's class. -/
def vbuReset (s : State) : State := { s with vbu := {} }

end Sys2Proof.Machine
end

