-- ==== Sys2Proof/Machine/Vbu.lean ====
section
/-! DEFINITION. The commands of the vehicle bus units (16_vehicle_bus_units.md). -/
namespace Sys2Proof.Machine

/-! ### LIN units (R440 to R444) -/

/-- Sum with carries added back. -/
def linSum (l : List Byte) : Nat := l.foldl (fun a b => let x := a + b.toNat; if 255 < x then x - 255 else x) 0

/-- The protected identifier: parity computed by the unit. -/
def linPid (id : Nat) : Byte :=
  let b (i : Nat) : Nat := b2n (id.testBit i)
  byte (id % 64 + 64 * ((b 0 + b 1 + b 2 + b 4) % 2) + 128 * ((1 + b 1 + b 3 + b 4 + b 5) % 2))

/-- Checksum of a response: enhanced over the protected identifier and the data, classic over the data; frames 0x3C and
0x3D always use the classic one. -/
def linCheck (id : Nat) (enh : Bool) (data : List Byte) : Byte :=
  byte (255 - linSum (if enh && decide (id < 0x3C) then linPid id :: data else data))

def linEn (s : State) (m : Nat) : Bool := isSet s (F.LIN_CTL_EN m)
def linResponder (s : State) (m : Nat) : Bool := isSet s (F.LIN_CTL_ROLE m)

/-- The first queued frame of a commander begins: header, and data where it publishes. -/
def linStart (s : State) (m : Nat) : State :=
  let x := lin s m
  match x.q with
  | [] => s
  | t :: _ =>
    if !linEn s m || linResponder s m || x.hdr.isSome || away s 7 then s
    else
      let ws := wordsOf s t.op
      let id := txId ws % 64
      let s := setLin s m { x with hdr := some ⟨id, !txRtr ws, stampNs s, stampS s⟩ }
      let s := setf s (F.LIN_STAT_STATE m) 2
      if txRtr ws then emit s (.linFrame m id [] none)
      else emit s (.linFrame m id t.data (some (linCheck id (txFdf ws) t.data)))

/-- Attempts that a LIN VBU_TX has: 0 acts as 1 (R441). -/
def linTries (ws : List W32) : Nat := max 1 (txRetry ws)

/-- Attempts of a frame fail: those that have none left end, with END 6 for a checksum error and END 5 otherwise. -/
def linFail (s : State) (m : Nat) (cs : Bool) (p : LinTx → Bool) : State :=
  let x := lin s m
  let q := x.q.map (fun t => if p t then { t with att := t.att + 1 } else t)
  let gone (t : LinTx) : Bool := p t && decide (linTries (wordsOf s t.op) ≤ t.att)
  let s := setLin s m { x with q := q.filter (fun t => !gone t) }
  (q.filter gone).foldl (fun u t => txEnd u t.op (if cs then 0x21 else 0x31) t.att 0 (if cs then 6 else 5) 0#32) s

/-- VBU_TX of a frame end with OK; a subscribe returns the data, zero-filled (R441). -/
def linSent (s : State) (m : Nat) (data : List Byte) (p : LinTx → Bool) : State :=
  let x := lin s m
  let s := setLin s m { x with q := x.q.filter (fun t => !p t) }
  (x.q.filter p).foldl (fun u t =>
    match opOf u t.op with
    | none => u
    | some o =>
      if txRtr o.words then
        let d := data.take (dLength o.words)
        giveRet u o ⟨0, w32 (leNat (d.take 4)), w32 (leNat ((d.drop 4).take 4))⟩
      else txEnd u t.op 0 t.att 0 0 0#32) s

/-- A frame seen on the bus goes to the filters (R443). -/
def linTake (s : State) (m : Nat) (h : LinHdr) (rtr enh : Bool) (data : List Byte) (errs : Nat) : State :=
  match slotFor s (0x20 + m) h.id false with
  | none => s
  | some k =>
    let c := 0x20 + m
    pathPush s c (extractBits (rd s (fltFifo c k)) 0 6)
      (frameItems (hdrLo h.id false rtr 2 0 enh false false (h.own && !rtr) data.length k errs) (hdrTime (h.ns, h.sec)) data (decide (errs ≠ 0)))

/-- The VBU_TX that a frame serves: a commander's first, a responder's of the same ID and direction. -/
def linServes (s : State) (m : Nat) (h : LinHdr) (t : LinTx) : Bool :=
  if linResponder s m then
    let ws := wordsOf s t.op
    decide (txId ws % 64 = h.id) && (txRtr ws == !h.own)
  else ((lin s m).q.head?.map (·.op)) == some t.op

/-- The frame is over: the unit is idle, or asleep, and a commander begins its next frame. -/
def linOver (s : State) (m : Nat) (sleep : Bool) : State :=
  let s := setLin s m { lin s m with hdr := none }
  linStart (if sleep then raise (setf s (F.LIN_STAT_STATE m) 3) (F.LIN_EVT_BUS_SLEEP m) else setf s (F.LIN_STAT_STATE m) 1) m

/-- EN of a LIN unit: its VBU_TX and receive operations end when it is cleared, as at a STOP (R422, R449). -/
def linEnable (s : State) (m : Nat) (on : Bool) : State :=
  if on = linEn s m then s
  else if on then setf (setf s (F.LIN_CTL_EN m) 1) (F.LIN_STAT_STATE m) 1
  else
    let x := lin s m
    let s := setLin s m { x with q := [], hdr := none }
    let s := x.q.foldl (fun u t => txEnd u t.op 0x1B t.att 0 3 0#32) s
    let s := releaseSlots (endArms s (0x20 + m)) (0x20 + m)
    setf (setf s (F.LIN_CTL_EN m) 0) (F.LIN_STAT_STATE m) 0

/-- WAKE (R444): LIN_TXD is driven dominant for WAKE_US. -/
def linWake (s : State) (m : Nat) : State :=
  if linEn s m && !away s 7 then
    emit (if getf s (F.LIN_STAT_STATE m) = 3 then setf s (F.LIN_STAT_STATE m) 1 else s) (.linWake m (getf s (F.LIN_TIME_WAKE_US m)))
  else s

/-- EN of a SENT receiver. -/
def sentEnable (s : State) (k : Nat) (on : Bool) : State :=
  if on then setf s (F.SENT_CTL_EN k) 1
  else
    let s := releaseSlots (endArms s (0x30 + k)) (0x30 + k)
    setf (setf (setSent s k {}) (F.SENT_CTL_EN k) 0) (F.SENT_STAT_SYNCED k) 0

/-! ### Register writes of the block (Table 16-13) -/

/-- A recovery request (R430). -/
def canRecoverReq (s : State) (n : Nat) : State := if canState s n = canBusOff then canRecover s n else s

/-- A write that would change a field that only OFF lets change (R422): ignored, and CFG_DENIED is set. -/
def canGuarded (s : State) (n a : Nat) (v : W32) : State :=
  let t := plainWrite s a v
  if canState s n = canOff then t else if rd t a = rd s a then s else raise s (F.CAN_EVT_CFG_DENIED n)

/-- CAN_ERRC (R431): a write while OFF sets TEC and REC. -/
def canErrc (s : State) (n : Nat) (v : W32) : State :=
  if canState s n = canOff then showCan (setCan s n { can s n with tec := extractBits v 0 8, rxc := extractBits v 16 8 }) n else s

/-- LIN_CTL: EN changes; role and lengths only while it is 0 (R440). -/
def linCtl (s : State) (m : Nat) (v : W32) : State :=
  let a := R.LIN_CTL m
  let en := decide (extractBits v 0 1 = 1)
  let want := plainWrite s a v
  let s :=
    if linEn s m then
      (if rd (setf want (F.LIN_CTL_EN m) 1) a = rd s a then s else raise s (F.LIN_EVT_CFG_DENIED m))
    else setf want (F.LIN_CTL_EN m) 0
  let s := linEnable s m en
  if extractBits v 2 1 = 1 then linWake s m else s

/-- A write of a register of the VBU block. -/
def vbuWrite (s : State) (a : Nat) (v : W32) : State :=
  let o := a - 0xE0000
  if o < 0x4000 then
    let n := o / 0x400
    let r := o % 0x400
    if r = 0x00 then
      let s := canGuarded s n a v
      if extractBits v 5 1 = 1 then canRecoverReq s n else s
    else if r = 0x08 ∨ r = 0x0C ∨ r = 0x10 then canGuarded s n a v
    else if r = 0x14 then canErrc s n v
    else plainWrite s a v
  else if 0x8000 ≤ o ∧ o < 0xA000 then
    let m := (o - 0x8000) / 0x200
    let r := o % 0x200
    if r = 0x00 then linCtl s m v
    else if r = 0x04 then
      let t := plainWrite s a v
      if !linEn s m then t else if rd t a = rd s a then s else raise s (F.LIN_EVT_CFG_DENIED m)
    else plainWrite s a v
  else if 0xC000 ≤ o ∧ o < 0xC800 ∧ o % 0x100 = 0 then
    let k := (o - 0xC000) / 0x100
    let on := decide (extractBits v 0 1 = 1)
    sentEnable (setf (plainWrite s a v) (F.SENT_CTL_EN k) (getf s (F.SENT_CTL_EN k))) k on
  else plainWrite s a v

/-! ### VBU_TX (R425, R426, R441, R442, R449, R450) -/

/-- LENGTH is the length that DLC codes: above 8 only for FD frames. -/
def dlcOk (ws : List W32) : Bool :=
  decide (dLength ws = (if txFdf ws then canLen (txDlc ws) else min 8 (txDlc ws)))

/-- A VBU_TX that the target refuses (R449); more than 40 bytes do not fit inline. -/
def txRefused (s : State) (ws : List W32) : Bool :=
  let c := vbuChan ws
  (dInline ws && decide (40 < dLength ws)) ||
  (if vbuKind ws = 0 then
    !dlcOk ws || (txBrs ws && !txFdf ws) || (txRtr ws && txFdf ws) || (!txIde ws && decide (0x7FF < txId ws))
    || decide (canState s c = canOff)
  else
    decide (txDlc ws ≠ dLength ws) || decide (0x3F < txId ws) || !linEn s c
    || (linResponder s c && decide (getf s (F.LIN_RTAB_MODE c (txId ws)) ≠ (if txRtr ws then 2 else 1))))

/-- The data of a VBU_TX: none for a remote frame or a subscribe; from the descriptor, from a bank, or brought by a mover. -/
def txData (s : State) (ws : List W32) (h : ReadEnd) : List Byte × Option Err :=
  let n := dLength ws
  if txRtr ws then ([], none)
  else if dInline ws then ((wordsBytes (ws.drop 6)).take n, none)
  else sourceBytes s (decide (df ws 5 9 1 = 1)) (d64 ws 6) n h

/-- VBU_TX reaches its controller or unit; `h` is what a mover read from host memory. -/
def execVbuTx (tag : Nat) (h : ReadEnd) (s : State) : Host.Outcome State Fault Refusal :=
  match opOf s tag with
  | none => done s
  | some o =>
    if opcodeOf o ≠ 0x10 ∨ o.started ∨ o.fwd then done s
    else
      let o := { o with started := true }
      let c := vbuChan o.words
      if txRefused s o.words then done (giveRet s o ⟨0x14, 0#32, 0#32⟩)
      else
        let d := txData s o.words h
        match d.2 with
        | some e => done (giveRet (noteErr s e) o ⟨errStatus e, 0#32, 0#32⟩)
        | none =>
          let s := setOp s o
          if vbuKind o.words = 0 then
            let x := can s c
            done (showCan (canRefill (setCan s c { x with waitq := x.waitq ++ [(tag, d.1)] }) c 33) c)
          else
            let x := lin s c
            let s := setLin s c { x with q := x.q ++ [{ op := tag, data := d.1 }] }
            if linResponder s c then
              let id := txId o.words
              if txRtr o.words then done s
              else done (setf (setLin s c { lin s c with data := sput id d.1 (lin s c).data }) (F.LIN_RTAB_LOADED c id) 1)
            else done (linStart s c)

/-! ### VBU_RX_ARM (R435, R447) -/

/-- The slot that an arm uses: one that names the FIFO, else the lowest free one. -/
def armSlot (s : State) (c f : Nat) : Option Nat :=
  if 0x30 ≤ c then
    let w := rd s (R.SENT_FLT (c - 0x30))
    if (extractBits w 8 2 ≠ 0 ∧ extractBits w 0 6 = f) ∨ extractBits w 8 2 = 0 then some 0 else none
  else
    match (List.range 8).find? (fun k => fltNames s c k f) with
    | some k => some k
    | none => (List.range 8).find? (fun k => !fltEn s c k)

/-- Write the slot. -/
def setSlot (s : State) (c k f : Nat) (ws : List W32) : State :=
  if 0x30 ≤ c then wr s (R.SENT_FLT (c - 0x30)) (w32 (f + 2 ^ 8 * df ws 4 0 2 + 2 ^ 31))
  else
    let s := wr s (fltId c k) ((dw ws 4 &&& 0x3FFFFFFF#32) ||| 0x80000000#32)
    wr (wr s (fltMask c k) (dw ws 5 &&& 0x3FFFFFFF#32)) (fltFifo c k) (w32 (f + 2 ^ 8))

/-- VBU_RX_ARM arms a slot; its mover then pops the FIFO. -/
def execVbuRxArm (tag : Nat) (s : State) : Host.Outcome State Fault Refusal :=
  match opOf s tag with
  | none => done s
  | some o =>
    if opcodeOf o ≠ 0x11 ∨ o.started ∨ o.fwd then done s
    else
      let c := vbuProd o.words
      let f := opFld o 8 0 6
      let bad := decide (getf s (F.SFQ_CFG_PROD f) ≠ c) || decide (getf s (F.SFQ_CFG_CONS f) ≠ 1) || !isSet s (F.SFQ_CFG_EN f)
        || (armOf s f).isSome
      match (if bad then none else armSlot s c f) with
      | none => done (giveRet s { o with started := true } ⟨0x14, 0#32, 0#32⟩)
      | some k => done (setSlot (setOp s { o with started := true }) c k f o.words)

/-- TIMEOUT_MS of a VBU_RX_ARM has elapsed since dispatch (Table 16-8). -/
def execVbuRxTimeout (tag : Nat) (s : State) : Host.Outcome State Fault Refusal :=
  match opOf s tag with
  | none => done s
  | some o =>
    if opcodeOf o = 0x11 ∧ o.started ∧ !o.fwd ∧ o.ret = none ∧ opWord o 10 ≠ 0#32 then done (rxEnd s o 2 0) else done s

/-! ### VBU_CTRL (R421, R422, R427, R430, R449) -/

/-- A VBU_CTRL that has reached its unit with FUNC `f`. -/
def ctlOp (s : State) (tag f : Nat) : Option Op :=
  match opOf s tag with
  | some o => if opcodeOf o = 0x12 ∧ !o.started ∧ !o.fwd ∧ opFld o 4 0 8 = f then some { o with started := true } else none
  | none => none

/-- Bit timing within Table 16-5 and R423. -/
def timingOk (s : State) (n : Nat) : Bool :=
  let t1 := getf s (F.CAN_NBT_TSEG1_M1 n) + 1
  let t2 := getf s (F.CAN_NBT_TSEG2_M1 n) + 1
  let d1 := getf s (F.CAN_DBT_TSEG1_M1 n) + 1
  let d2 := getf s (F.CAN_DBT_TSEG2_M1 n) + 1
  decide (2 ≤ t1) && decide (getf s (F.CAN_NBT_SJW_M1 n) + 1 ≤ t2) && decide (getf s (F.CAN_DBT_SJW_M1 n) + 1 ≤ d2)
  && decide (80 ≤ (getf s (F.CAN_NBT_BRP_M1 n) + 1) * (1 + t1 + t2))
  && decide (10 ≤ (getf s (F.CAN_DBT_BRP_M1 n) + 1) * (1 + d1 + d2))

/-- START; a FUNC that is not listed completes with RANGE (R449). -/
def execVbuCtrlStart (tag : Nat) (s : State) : Host.Outcome State Fault Refusal :=
  match opOf s tag with
  | none => done s
  | some o =>
    if opcodeOf o ≠ 0x12 ∨ o.started ∨ o.fwd then done s
    else
      let o := { o with started := true }
      let f := opFld o 4 0 8
      let c := vbuChan o.words
      if f = 0 ∨ 6 < f then done (giveRet s o ⟨0x14, 0#32, 0#32⟩)
      else if f ≠ 1 then done s
      else if vbuKind o.words = 0 then
        if canState s c ≠ canOff then done (giveRet s o ⟨0, 0#32, 0#32⟩)
        else if timingOk s c then done (giveRet (setf s (F.CAN_STAT_STATE c) canInteg) o ⟨0, 0#32, 0#32⟩)
        else done (giveRet s o ⟨0x14, 0#32, 0#32⟩)
      else if vbuKind o.words = 1 then done (giveRet (linEnable s c true) o ⟨0, 0#32, 0#32⟩)
      else done (giveRet (sentEnable s c true) o ⟨0, 0#32, 0#32⟩)

/-- STOP (R422); `receiving`: a frame is being received, whose end the stop awaits. -/
def execVbuCtrlStop (tag : Nat) (receiving : Bool) (s : State) : Host.Outcome State Fault Refusal :=
  match ctlOp s tag 2 with
  | none => done s
  | some o =>
    let c := vbuChan o.words
    if vbuKind o.words = 0 then
      if canState s c = canOff ∨ (can s c).stop.isSome then done (giveRet s o ⟨0, 0#32, 0#32⟩)
      else
        let on := decide (canState s c = canActive ∨ canState s c = canPassive)
        let s := setCan (setOp s o) c { can s c with stop := some tag, rxing := receiving && on }
        if (receiving && on) || (activeBuf (can s c)).isSome then done s else done (canStopNow s c)
    else if vbuKind o.words = 1 then done (giveRet (linEnable s c false) o ⟨0, 0#32, 0#32⟩)
    else done (giveRet (sentEnable s c false) o ⟨0, 0#32, 0#32⟩)

/-- RECOVER (R430): it completes when the controller reaches ACTIVE; in any other state than BUS_OFF at once. -/
def execVbuCtrlRecover (tag : Nat) (s : State) : Host.Outcome State Fault Refusal :=
  match ctlOp s tag 3 with
  | none => done s
  | some o =>
    let c := vbuChan o.words
    if vbuKind o.words = 0 ∧ canState s c = canBusOff then
      let s := setOp s o
      done (canRecover (setCan s c { can s c with recs := (can s c).recs ++ [tag] }) c)
    else done (giveRet s o ⟨0, 0#32, 0#32⟩)

/-- ABORT_TX (R427): RESULT0 names the buffers freed. -/
def execVbuCtrlAbortTx (tag : Nat) (s : State) : Host.Outcome State Fault Refusal :=
  match ctlOp s tag 4 with
  | none => done s
  | some o =>
    let c := vbuChan o.words
    if vbuKind o.words = 0 then
      let m := (opWord o 5).toNat
      let x := can s c
      let hit := x.bufs.filter (fun b => bit m b.1 && b.2.st != 2)
      let s := setCan s c { x with bufs := x.bufs.map (fun b => if bit m b.1 && b.2.st == 2 then (b.1, { b.2 with abort := true }) else b) }
      let s := hit.foldl (fun t b => freeBuf t c b.1 0x1B 2) s
      let s := showCan (canRefill s c 33) c
      done (giveRet s o ⟨0, w32 (hit.foldl (fun m b => setBit m b.1) 0), 0#32⟩)
    else done (giveRet s o ⟨0, 0#32, 0#32⟩)

/-- STATUS (R449). -/
def execVbuCtrlStatus (tag : Nat) (s : State) : Host.Outcome State Fault Refusal :=
  match ctlOp s tag 5 with
  | none => done s
  | some o =>
    let c := vbuChan o.words
    match vbuKind o.words with
    | 0 => done (giveRet s o ⟨0, rd s (R.CAN_STAT c), rd s (R.CAN_CNT c)⟩)
    | 1 => done (giveRet s o ⟨0, rd s (R.LIN_STAT c), rd s (R.LIN_CNT c)⟩)
    | _ => done (giveRet s o ⟨0, rd s (R.SENT_STAT c), rd s (R.SENT_CNT c)⟩)

/-- First offset and size of a channel's block (R449). -/
def vbuBlock (ws : List W32) : Nat × Nat :=
  match vbuKind ws with
  | 0 => (0xE0000 + 0x400 * vbuChan ws, 0x400)
  | 1 => (0xE8000 + 0x200 * vbuChan ws, 0x200)
  | _ => (0xEC000 + 0x100 * vbuChan ws, 0x100)

/-- WRITE_REGS (R449): ARG2 onward go to consecutive registers of the channel block. -/
def execVbuCtrlWriteRegs (tag : Nat) (s : State) : Host.Outcome State Fault Refusal :=
  match ctlOp s tag 6 with
  | none => done s
  | some o =>
    let b := vbuBlock o.words
    let off := opFld o 5 0 12
    let n := opFld o 6 0 4
    if off % 4 ≠ 0 ∨ n = 0 ∨ 9 < n ∨ b.2 < off + 4 * n then done (giveRet s o ⟨0x14, 0#32, 0#32⟩)
    else
      let s := (List.range n).foldl (fun t i => vbuWrite t (b.1 + off + 4 * i) (opWord o (7 + i))) (setOp s o)
      done (giveRet s o ⟨0, 0#32, 0#32⟩)

/-! ### Events of a CAN controller -/

/-- 11 recessive bits (Table 16-4): ACTIVE, with the counters as last set. -/
def execCanIntegrated (n : Fin 16) (s : State) : Host.Outcome State Fault Refusal :=
  if canState s n ≠ canInteg ∨ inReset s 7 then done s else done (canJudge (setf s (F.CAN_STAT_STATE n) canActive) n)

/-- The controller may begin a frame. -/
def canMaySend (s : State) (n : Nat) : Bool :=
  let x := can s n
  (canState s n == canActive || canState s n == canPassive) && !isSet s (F.CAN_CTL_MON n) && (activeBuf x).isNone
  && !x.susp && x.stop.isNone && !away s 7

/-- The next start of frame (R425, R428, R448). -/
def execCanStartOfFrame (n : Fin 16) (s : State) : Host.Outcome State Fault Refusal :=
  let x := can s n
  if canMaySend s n then
    match bestBuf s x.bufs with
    | none => done s
    | some b =>
      let ws := wordsOf s b.2.op
      let s := setCan s n { x with bufs := sput b.1 { b.2 with st := 2, sof := stampNs s } x.bufs }
      done (showCan (emit s (.canFrame n (dw ws 4).toNat (df ws 5 0 6) b.2.data)) n)
  else done s

/-- A frame has lost arbitration (R425, R427): its buffer is PENDING again, or goes where ABORT_TX named it. -/
def execCanArbitrationLost (n : Fin 16) (s : State) : Host.Outcome State Fault Refusal :=
  let x := can s n
  match activeBuf x with
  | none => done s
  | some b =>
    if b.2.abort then done (showCan (canRefill (freeBuf s n b.1 0x1B 2) n 33) n)
    else done (showCan (setCan s n { x with bufs := sput b.1 { b.2 with st := 1 } x.bufs }) n)

/-- A frame has been sent (R427): TEC falls by 1 (ISO 11898-1), and under TX_ECHO the frame goes to the filters; `delay` is the
loop delay of R424 in units of 12.5 ns. -/
def execCanFrameSent (n : Fin 16) (delay : Nat) (s : State) : Host.Outcome State Fault Refusal :=
  match activeBuf (can s n) with
  | none => done s
  | some b =>
    let ws := wordsOf s b.2.op
    let passive := decide (canState s n = canPassive)
    let t := stampOf s b.2.sof
    let s := if isSet s (F.CAN_CTL_TDC_EN n) && txFdf ws && txBrs ws then setf s (F.CAN_TDC_MEAS n) (min 127 delay) else s
    let s := satAdd s (F.CAN_CNT_TX_OK n) 1
    let s := canJudge (canCount s n ((can s n).tec - 1) (can s n).rxc) n
    let s := freeBuf s n b.1 0 0
    let s := setCan s n { can s n with susp := passive }
    let s := if isSet s (F.CAN_CTL_TX_ECHO n) then
        canTake s n (txId ws) (txIde ws) (txRtr ws) (txDlc ws) (txFdf ws) (txBrs ws) (txFdf ws && passive) true b.2.data t
      else s
    done (showCan (canBusFree (canRefill s n 33) n) n)
where
  /-- The time of a start of frame from its nanosecond word: the second is the one that has it last. -/
  stampOf (s : State) (w : W32) : W32 × W32 :=
    (w, if s.tbu.ns < extractBits w 0 30 then stampS s - 1#32 else stampS s)

/-- A transmission ends in an error (R427, R429, R431 to R433): TEC rises by 8, but not for the ACK error of an error-passive
transmitter. -/
def execCanTxError (n : Fin 16) (kind : Fin 6) (dataPhase : Bool) (s : State) : Host.Outcome State Fault Refusal :=
  match activeBuf (can s n) with
  | none => done s
  | some b =>
    let x := can s n
    let passive := decide (canState s n = canPassive)
    let tec := if passive && decide (kind.val = 4) then x.tec else x.tec + 8
    let s := setCan s n { x with bufs := sput b.1 { b.2 with st := 1, att := b.2.att + 1, abort := false } x.bufs, susp := passive }
    let s := canLog (canCount s n tec x.rxc) n kind dataPhase true
    let off := decide (255 < (can s n).tec) && !isSet s (F.CAN_TEST_FREEZE n)
    let retry := txRetry (wordsOf s b.2.op)
    let s :=
      if b.2.abort then freeBuf s n b.1 0x1B 2
      else if off && isSet s (F.CAN_CTL_BOFF_DISCARD n) then freeBuf s n b.1 0x30 4
      else if retry ≠ 0 ∧ retry ≤ b.2.att + 1 then freeBuf s n b.1 0x31 1
      else s
    done (showCan (canBusFree (canRefill (canJudge s n) n 33) n) n)

/-- The suspend transmission time ends (R428). -/
def execCanSuspendTransmissionEnd (n : Fin 16) (s : State) : Host.Outcome State Fault Refusal :=
  done (setCan s n { can s n with susp := false })

/-- The controller takes part in reception. -/
def canReceives (s : State) (n : Nat) : Bool :=
  (canState s n == canActive || canState s n == canPassive) && (activeBuf (can s n)).isNone && !inReset s 7

/-- A valid frame has been received (R434): REC falls as ISO 11898-1 has it, to an open value of 119 to 127 from above 127. -/
def execCanFrameReceived (n : Fin 16) (id : Fin 536870912) (ide rtr fdf brs esi : Bool) (dlc : Fin 16) (data : List Byte) (ago : Nat)
    (s : State) : Host.Outcome State Fault Refusal :=
  if canReceives s n then
    let x := can s n
    let s := satAdd (setCan s n { x with susp := false }) (F.CAN_CNT_RX_OK n) 1
    let r := if 127 < x.rxc then 119 + (freeVal s).toNat % 9 else x.rxc - 1
    let s := canJudge (canCount (if 127 < x.rxc then drawn s else s) n x.tec r) n
    let s := canTake s n id ide rtr dlc fdf brs esi false data (stampAgo s ago)
    done (showCan (canBusFree s n) n)
  else done s

/-- A receive error (R431, R433): REC rises by 1, and by 8 more where a dominant bit follows the error flag. -/
def execCanRxError (n : Fin 16) (kind : Fin 6) (dataPhase dominant : Bool) (s : State) : Host.Outcome State Fault Refusal :=
  if canReceives s n then
    let x := can s n
    let s := canCount (setCan s n { x with susp := false }) n x.tec (x.rxc + 1 + 8 * b2n dominant)
    done (showCan (canBusFree (canJudge (canLog s n kind dataPhase false) n) n) n)
  else done s

/-- RECOVER is written in CAN_CTL (R430). -/
def execCanRecover (n : Fin 16) (s : State) : Host.Outcome State Fault Refusal :=
  if away s 7 then done s else done (canRecoverReq s n)

/-- The 128th occurrence of 11 recessive bits (R430): HELD buffers are PENDING again. -/
def execCanRecoveryDone (n : Fin 16) (s : State) : Host.Outcome State Fault Refusal :=
  let x := can s n
  if canState s n ≠ canRecovering ∨ inReset s 7 then done s
  else
    let s := setCan s n { x with tec := 0, rxc := 0, recs := [],
                                 bufs := x.bufs.map (fun b => (b.1, if b.2.st = 3 then { b.2 with st := 1 } else b.2)) }
    let s := raise (setf (setf s (F.CAN_STAT_STATE n) canActive) (F.CAN_STAT_RECOV n) 128) (F.CAN_EVT_RECOVERED n)
    let s := x.recs.foldl (fun t r =>
      match opOf t r with
      | some o => giveRet t o ⟨0, w32 ((t.clk - o.began) / 1000), 0#32⟩
      | none => t) s
    done (showCan s n)

/-- A write of CAN_ERRC (R431). -/
def execCanErrcWrite (n : Fin 16) (data : W32) (s : State) : Host.Outcome State Fault Refusal :=
  if away s 7 then done s else done (canErrc s n data)

/-! ### Events of a LIN unit -/

/-- A responder has detected a break and measured `div` from the sync byte; the header names `id` (R440, R442). -/
def execLinBreak (m : Fin 16) (id : Fin 64) (div : Nat) (ago : Nat) (s : State) : Host.Outcome State Fault Refusal :=
  let nom := getf s (F.LIN_DIV_DIV m)
  if !linEn s m || !linResponder s m || inReset s 7 || decide (14 * nom < 100 * (div - nom + (nom - div))) then done s
  else
    let t := stampAgo s ago
    let s := setf (setf s (F.LIN_STAT_RATE_MEAS m) (div / 256)) (F.LIN_STAT_STATE m) 2
    let publish := decide (getf s (F.LIN_RTAB_MODE m id) = 1)
    match (if publish && !away s 7 then sget id.val (lin s m).data else none) with
    | some d =>
      let s := setLin s m { lin s m with hdr := some ⟨id, true, t.1, t.2⟩ }
      done (emit s (.linFrame m id d (some (linCheck id (isSet s (F.LIN_RTAB_ENH m id)) d))))
    | none =>
      let s := if publish && (sget id.val (lin s m).data).isNone then raise s (F.LIN_EVT_RESP_ERR m) else s
      done (setLin s m { lin s m with hdr := some ⟨id, false, t.1, t.2⟩ })

/-- The checksum model of the frame on the bus. -/
def linEnh (s : State) (m : Nat) (h : LinHdr) : Bool :=
  decide (h.id < 0x3C) &&
  (if linResponder s m then isSet s (F.LIN_RTAB_ENH m h.id)
   else match (lin s m).q with | t :: _ => txFdf (wordsOf s t.op) | [] => false)

/-- The go-to-sleep command (R444). -/
def goToSleep (id : Nat) (data : List Byte) : Bool := id == 0x3C && data == 0#8 :: List.replicate 7 0xFF#8

/-- A response and its checksum `cs` have ended (R441 to R443); `framing` says that it had a framing error, `mismatch` that this
unit read back another bit than it sent. -/
def execLinResponse (m : Fin 16) (data : List Byte) (cs : Byte) (framing mismatch : Bool) (s : State) :
    Host.Outcome State Fault Refusal :=
  match (lin s m).hdr with
  | none => done s
  | some h =>
    if inReset s 7 then done s
    else
      let enh := linEnh s m h
      let bad := decide (cs ≠ linCheck h.id enh data)
      let errs := b2n bad + 2 * b2n framing
      let p := linServes s m h
      let takes := !linResponder s m || h.own || decide (getf s (F.LIN_RTAB_MODE m h.id) = 2)
      let s := satAdd s (F.LIN_CNT_FRAMES m) 1
      let s := if errs ≠ 0 ∨ mismatch then satAdd s (F.LIN_CNT_ERRORS m) 1 else s
      let s := linTake s m h false enh data errs
      let s :=
        if !takes then s
        else if mismatch || framing then linFail s m false p
        else if bad then linFail s m true p
        else linSent s m data p
      done (linOver s m (goToSleep h.id data && decide (errs = 0)))

/-- The response space has passed without a response (R440, R441, R443). -/
def execLinResponseTimeout (m : Fin 16) (s : State) : Host.Outcome State Fault Refusal :=
  match (lin s m).hdr with
  | none => done s
  | some h =>
    if inReset s 7 then done s
    else
      let s := satAdd (satAdd s (F.LIN_CNT_FRAMES m) 1) (F.LIN_CNT_ERRORS m) 1
      let p := linServes s m h
      let s := linTake s m h true (linEnh s m h) [] 4
      let s := if !linResponder s m || h.own then linFail s m false p else s
      done (linOver s m false)

/-- BUS_IDLE_S seconds without activity (R444). -/
def execLinBusIdle (m : Fin 16) (s : State) : Host.Outcome State Fault Refusal :=
  if linEn s m && (lin s m).hdr.isNone && !inReset s 7 then
    done (raise (setf s (F.LIN_STAT_STATE m) 3) (F.LIN_EVT_BUS_SLEEP m))
  else done s

/-- WAKE is written (R444). -/
def execLinWake (m : Fin 16) (s : State) : Host.Outcome State Fault Refusal := done (linWake s m)

/-- A dominant period of 150 µs to 5 ms without a sync byte (R444). -/
def execLinWakeRx (m : Fin 16) (s : State) : Host.Outcome State Fault Refusal :=
  if linEn s m && !inReset s 7 then
    let s := raise s (F.LIN_EVT_WAKE_RX m)
    done (if getf s (F.LIN_STAT_STATE m) = 3 then setf s (F.LIN_STAT_STATE m) 1 else s)
  else done s

/-! ### SENT receivers (R445 to R447) -/

/-- A nibble: pulse length over tick, less 12, to the nearest whole number. -/
def sentNibble (cal p : Nat) : Int := (((2 * p * 56 + cal) / (2 * cal) : Nat) : Int) - 12

/-- One step of the J2716 4-bit CRC: multiplication by x^4 modulo x^4 + x^3 + x^2 + 1. -/
def crc4Step (c : Nat) : Nat := [0, 13, 7, 10, 14, 3, 9, 4, 1, 12, 6, 11, 15, 2, 8, 5].getD c 0

/-- The CRC of nibbles, seed 0b0101; recommended mode appends a zero nibble. -/
def crc4 (legacy : Bool) (l : List Nat) : Nat :=
  let c := l.foldl (fun c n => Nat.xor (crc4Step c) n % 16) 5
  if legacy then c else crc4Step c

/-- The enhanced serial message's 6-bit CRC: x^6 + x^4 + x^3 + 1, seed 0b010101, six zeros appended. -/
def crc6 (l : List Bool) : Nat :=
  (l ++ List.replicate 6 false).foldl (fun c b =>
    let x := c % 32 * 2 + b2n b
    if 32 ≤ c then Nat.xor x 0b011001 else x) 0b010101

/-- A number from bits, the highest first. -/
def bitsNat (l : List Bool) : Nat := l.foldl (fun n b => 2 * n + b2n b) 0

/-- A packet of two items (R446). -/
def sentPacket (s : State) (k : Nat) (lo hi : Nat) (t : W32 × W32) (err : Bool) : State :=
  let e := 8 * b2n err
  pathPush s (0x30 + k) (getf s (F.SENT_FLT_FIFO k)) [hdrItem lo hi (1 + e), hdrItem (hdrTime t) 0 (2 + e)]

/-- A serial message that the window completes: ID and payload bits, CRC error (J2716). -/
def sentSerial (mode : Nat) (w : List SentBit) : Option (Nat × Nat × Bool × Bool) :=
  let b2 := w.map (·.b2)
  let b3 := w.map (·.b3)
  if mode = 1 then
    if w.length = 16 ∧ b3 = true :: List.replicate 15 false then
      let id := bitsNat (b2.take 4)
      let d := bitsNat ((b2.drop 4).take 8)
      some (id, d + 256 * id, false, decide (bitsNat (b2.drop 12) ≠ crc4 false [id, d / 16, d % 16]))
    else none
  else if w.length = 18 ∧ b3.take 6 = List.replicate 6 true ∧ b3.getD 6 true = false ∧ b3.getD 12 true = false ∧ b3.getD 17 true = false then
    let c := b3.getD 7 false
    let d12 := bitsNat (b2.drop 6)
    let i1 := bitsNat ((b3.drop 8).take 4)
    let i2 := bitsNat ((b3.drop 13).take 4)
    let id := if c then i1 else 16 * i1 + i2
    let d := if c then 4096 * i2 + d12 else d12
    some (id, d + 2 ^ 16 * id + 2 ^ 24 * b2n c, true,
      decide (bitsNat (b2.take 6) ≠ crc6 (((b2.drop 6).zip (b3.drop 6)).flatMap (fun p => [p.1, p.2]))))
  else none

/-- Assemble serial messages from status nibbles (R445). -/
def sentAssemble (s : State) (k : Nat) (bad : Bool) (b : SentBit) : State :=
  let mode := getf s (F.SENT_CTL_SERIAL k)
  let x := sent s k
  if mode ≠ 1 ∧ mode ≠ 2 then s
  else if bad then setSent s k { x with win := [] }
  else
    let len := if mode = 1 then 16 else 18
    let w := x.win ++ [b]
    let w := w.drop (w.length - len)
    match sentSerial mode w with
    | none => setSent s k { x with win := w }
    | some (id, pay, enh, bad) =>
      let s := setSent s k { x with win := [] }
      let t := match w with | a :: _ => (a.ns, a.sec) | [] => (0#32, 0#32)
      let s := if bad then satAdd (raise s (F.SENT_EVT_CRC k)) (F.SENT_CNT_ERRORS k) 1 else s
      if isSet s (F.SENT_FLT_SERIAL k) then
        sentPacket s k (hdrLo id false false 4 0 enh false false false 4 0 (b2n bad)) pay t bad
      else s

/-- A fast channel frame (R445, R446): its calibration pulse `cal` and the pulses of its status nibble, data nibbles and CRC nibble,
in units of 12.5 ns; `ago` is the time since the calibration pulse began, ns. -/
def execSentFrame (k : Fin 8) (cal : Nat) (status : Nat) (nibbles : List Nat) (crc : Nat) (ago : Nat) (s : State) :
    Host.Outcome State Fault Refusal :=
  let t56 := 56 * getf s (F.SENT_TICK_TICK_NS k)
  if !isSet s (F.SENT_CTL_EN k) || inReset s 7 then done s
  else if cal = 0 ∨ 2 * t56 < 4 * (25 * cal - 2 * t56) + 4 * (2 * t56 - 25 * cal) then done (setf s (F.SENT_STAT_SYNCED k) 0)
  else
    let tm := stampAgo s ago
    let all := (status :: nibbles ++ [crc]).map (sentNibble cal)
    let range := all.any (fun v => decide (v < 0 ∨ 15 < v))
    let f := (freeVal s).toNat
    let vals := all.zipIdx.map (fun p => if p.1 < 0 ∨ 15 < p.1 then f / 16 ^ p.2 % 16 else p.1.toNat)
    let s := if range then drawn s else s
    let st := vals.headD 0
    let ds := (vals.drop 1).take nibbles.length
    let c := vals.getLastD 0
    let crcBad := decide (crc4 (isSet s (F.SENT_CTL_CRC_LEGACY k)) ds ≠ c)
    let calBad := match (sent s k).cal with | some p => decide (p < 64 * (cal - p + (p - cal))) | none => false
    let errs := b2n crcBad + 2 * b2n calBad + 4 * b2n range
    let s := setSent s k { sent s k with cal := some cal }
    let s := setf (setf s (F.SENT_STAT_SYNCED k) 1) (F.SENT_STAT_TICK_MEAS k) (cal / 56)
    let s := wr s (R.SENT_EVT k) (rd s (R.SENT_EVT k) ||| w32 errs)
    let s := satAdd s (F.SENT_CNT_FRAMES k) 1
    let s := if errs = 0 then s else satAdd s (F.SENT_CNT_ERRORS k) 1
    let data := (ds ++ List.replicate (6 - ds.length) 0).foldl (fun n v => 16 * n + v) 0
    let pay := st + 2 ^ 4 * (data % 2 ^ 24) + 2 ^ 28 * c + 2 ^ 32 * (cal / 56 % 2 ^ 16)
    let s := if isSet s (F.SENT_FLT_FAST k) then
        sentPacket s k (hdrLo 0 false false 3 ds.length false (isSet s (F.SENT_CTL_PAUSE k)) false false 4 0 errs) pay tm (decide (errs ≠ 0))
      else s
    done (sentAssemble s k (decide (errs ≠ 0)) ⟨bit st 2, bit st 3, tm.1, tm.2⟩)

end Sys2Proof.Machine
end

