-- ==== Sys2Proof/Machine/Osp.lean ====
section
/-! DEFINITION. The Osprey ISM baseband (17_osprey_ism_baseband.md): profiles, codes, the receiver's and the transmitter's states
and the commands. -/
namespace Sys2Proof.Machine

def setOsp (s : State) (x : Osp) : State := { s with osp := x }

/-! ### Profiles (R458) -/

/-- The words of profile `p`. -/
def profWords (s : State) (p : Nat) : List W32 := (List.range 8).map (fun j => rd s (R.OSP_PRF p j))

/-- A field of a profile. -/
def pf (ws : List W32) (i lo n : Nat) : Nat := extractBits (ws.getD i 0#32) lo n

def pMod (ws : List W32) : Nat := pf ws 0 0 2
def pManch (ws : List W32) : Bool := pf ws 0 2 1 == 1
def pManchInv (ws : List W32) : Bool := pf ws 0 3 1 == 1
def pMsbFirst (ws : List W32) : Bool := pf ws 0 4 1 == 1
def pFec (ws : List W32) : Nat := pf ws 0 5 3
def pRows (ws : List W32) : Nat := pf ws 0 8 4 + 1
def pVar (ws : List W32) : Bool := pf ws 0 12 1 == 1
def pPktLen (ws : List W32) : Nat := pf ws 5 16 8
def pSyncLen (ws : List W32) : Nat := pf ws 5 0 6

/-- A profile is usable at the declared rate. -/
def usable (s : State) (ws : List W32) : Bool :=
  let fs := getf s F.OSP_FS_FS
  let rate := pf ws 1 0 18
  let chip := if pManch ws then 2 * rate else rate
  let d := min 512 (fs / (8 * chip))
  let afc := pf ws 6 16 8
  let dev := pf ws 2 0 18
  decide (1000 ≤ rate ∧ rate ≤ 200000) && decide (8 * chip ≤ fs ∧ fs ≤ 16384 * chip)
  && (if pMod ws < 2 then decide (1000 ≤ dev ∧ dev ≤ 200000) && decide (2 * d * (dev + chip + afc * 1000) ≤ fs)
      else decide (2 * d * (chip + afc * 1000) ≤ fs))
  && decide (8 ≤ pf ws 3 0 6 ∧ pf ws 3 0 6 ≤ 32) && decide (32 ≤ pf ws 3 8 6) && decide (16 ≤ pSyncLen ws ∧ pSyncLen ws ≤ 32)
  && decide (1 ≤ pPktLen ws) && decide (afc ≤ 100) && decide (pFec ws < 4)

/-! ### Codes (R459, R461, Table 17-2) -/

/-- Bits of a byte in sent order. -/
def byteBits (msb : Bool) (b : Byte) : List Bool :=
  let l := (List.range 8).map (fun i => b.toNat.testBit i)
  if msb then l.reverse else l

/-- A byte from bits in sent order. -/
def bitsByte (msb : Bool) (l : List Bool) : Byte := byte (bitsNat (if msb then l else l.reverse))

/-- Length n, info bits k and generator of a BCH code. -/
def bchN (fec : Nat) : Nat := if fec = 2 then 31 else 63
def bchK (fec : Nat) : Nat := if fec = 2 then 21 else 51
def bchG (fec : Nat) : Nat := if fec = 2 then 0b11101101001 else 0b1010100111001

/-- The remainder of a polynomial, highest coefficient first, modulo the generator of degree `d`. -/
def polyRem (g d : Nat) (l : List Bool) : Nat :=
  l.foldl (fun c b => let x := 2 * c + b2n b; if 2 ^ d ≤ x then Nat.xor x g else x) 0

/-- The low `n` bits of a number, highest first. -/
def natBits (n v : Nat) : List Bool := ((List.range n).map (fun i => v.testBit i)).reverse

/-- Positions of the info bits of a Hamming codeword. -/
def hamData : List Nat := [3, 5, 6, 7, 9, 10, 11, 12]

/-- The XOR of the positions 1 to 12 that hold 1. -/
def hamSyn (cw : List Bool) : Nat := cw.zipIdx.foldl (fun c p => if p.1 then Nat.xor c (p.2 + 1) else c) 0

/-- The Hamming(12,8) codeword of eight info bits. -/
def hamEnc (d : List Bool) : List Bool :=
  let at_ (i : Nat) : Bool := match hamData.idxOf? i with | some j => d.getD j false | none => false
  let x := hamSyn ((List.range 12).map (fun i => at_ (i + 1)))
  (List.range 12).map (fun i =>
    let j := i + 1
    if j = 1 then x.testBit 0 else if j = 2 then x.testBit 1 else if j = 4 then x.testBit 2 else if j = 8 then x.testBit 3 else at_ j)

/-- Info bits of a codeword as received, and the outcome of its decoding: 0 good, 1 corrected, 2 uncorrectable. -/
def hamDec (cw : List Bool) : List Bool × Nat :=
  let z := hamSyn cw
  let pick (l : List Bool) : List Bool := hamData.map (fun j => l.getD (j - 1) false)
  if z = 0 then (pick cw, 0)
  else if z ≤ 12 then (pick (cw.set (z - 1) (!cw.getD (z - 1) false)), 1)
  else (pick cw, 2)

/-- The BCH codeword of k info bits: the info bits, then the remainder of m(x) x^(n-k). -/
def bchEnc (fec : Nat) (m : List Bool) : List Bool :=
  let d := bchN fec - bchK fec
  m ++ natBits d (polyRem (bchG fec) d (m ++ List.replicate d false))

/-- Syndromes of the single-bit errors, by place in the codeword. -/
def bchSyns (fec : Nat) : List Nat :=
  let n := bchN fec
  let d := n - bchK fec
  (List.range n).map (fun i => polyRem (bchG fec) d (true :: List.replicate (n - 1 - i) false))

/-- An error pattern of weight 1 or 2 with syndrome `z`. -/
def bchFind (l : List Nat) (z : Nat) : Option (List Nat) :=
  match l.idxOf? z with
  | some i => some [i]
  | none => l.zipIdx.findSome? (fun p =>
      match l.idxOf? (Nat.xor p.1 z) with
      | some j => some [p.2, j]
      | none => none)

/-- Decode a BCH codeword: up to two errors are corrected. -/
def bchDec (fec : Nat) (cw : List Bool) : List Bool × Nat :=
  let d := bchN fec - bchK fec
  let z := polyRem (bchG fec) d cw
  if z = 0 then (cw.take (bchK fec), 0)
  else match bchFind (bchSyns fec) z with
    | some l => ((l.foldl (fun c i => c.set i (!c.getD i false)) cw).take (bchK fec), 1)
    | none => (cw.take (bchK fec), 2)

/-- Codeword length and info bits of a FEC. -/
def cwN (fec : Nat) : Nat := if fec = 1 then 12 else bchN fec
def cwK (fec : Nat) : Nat := if fec = 1 then 8 else bchK fec
def cwEnc (fec : Nat) (m : List Bool) : List Bool := if fec = 1 then hamEnc m else bchEnc fec m
def cwDec (fec : Nat) (cw : List Bool) : List Bool × Nat := if fec = 1 then hamDec cw else bchDec fec cw

/-- Cut a list into pieces of `k`. -/
def pieces {α : Type} (k : Nat) : Nat → List α → List (List α)
  | 0, _ => []
  | n + 1, l => if l.isEmpty then [] else l.take k :: pieces k n (l.drop k)

/-- A group of codewords is sent column by column. -/
def interleave (n : Nat) (g : List (List Bool)) : List Bool := (List.range n).flatMap (fun i => g.map (fun cw => cw.getD i false))

/-- The codewords of a received group. -/
def deinterleave (n : Nat) (g : List Bool) : List (List Bool) :=
  let r := g.length / n
  (List.range r).map (fun j => (List.range n).map (fun i => g.getD (i * r + j) false))

/-- The coded body of a payload (R461). -/
def codedBody (ws : List W32) (payload : List Byte) : List Bool :=
  let info := payload.flatMap (byteBits (pMsbFirst ws))
  let fec := pFec ws
  if fec = 0 then info
  else
    let k := cwK fec
    let cws := (pieces k info.length info).map (fun m => cwEnc fec (m ++ List.replicate (k - m.length) false))
    (pieces (pRows ws) cws.length cws).flatMap (interleave (cwN fec))

/-- Line code: the chips of bits. -/
def lineCode (ws : List W32) (l : List Bool) : List Bool :=
  if pManch ws then l.flatMap (fun b => if pManchInv ws then [!b, b] else [b, !b]) else l

/-- The chips of a frame (R459, R460). -/
def frameChips (ws : List W32) (payload : List Byte) : List Bool :=
  let pre := (List.range (pf ws 3 16 8)).map (fun i => i % 2 == 0)
  let sync := natBits (pSyncLen ws) (ws.getD 4 0#32).toNat
  let body := codedBody ws (if pVar ws then byte payload.length :: payload else payload)
  lineCode ws (pre ++ sync ++ body)

/-! ### The receiver (R463 to R469) -/

abbrev rxOff : Nat := 0
abbrev rxSearch : Nat := 1
abbrev rxPreamble : Nat := 2
abbrev rxPayload : Nat := 3
abbrev rxSuspended : Nat := 4

def rxState (s : State) : Nat := getf s F.OSP_STAT_RXSTATE

/-- The armed OSP_RX: the first one held. -/
def ospArmed (s : State) : Option Op := s.ops.find? (fun o => opcodeOf o == 0x31 && o.started && !o.fwd && o.ret == none)

/-- OSP_TX and OSP_RX held. -/
def showOsp (s : State) : State :=
  setf (setf s F.OSP_STAT_TXQ s.osp.txq.length) F.OSP_STAT_RXQ
    ((s.ops.filter (fun o => opcodeOf o == 0x31 && o.started && !o.fwd && o.ret == none)).length)

/-- Drive OSP_GAIN. -/
def setGain (s : State) (g : Nat) : State :=
  if s.osp.gain = g then setf s F.OSP_STAT_GAIN g
  else emit (setf (setOsp s { s.osp with gain := g }) F.OSP_STAT_GAIN g) (.pin .ospGain g)

/-- Drive OSP_RXEN. -/
def setRxen (s : State) (on : Bool) : State :=
  if s.osp.rxen = on then s else emit (setOsp s { s.osp with rxen := on }) (.pin .ospRxen (b2n on))

/-- The profile that the receiver is to use: the armed operation's, else the listening one. -/
def rxProfile (s : State) : Option Nat :=
  match ospArmed s with
  | some o => some (opFld o 6 8 8)
  | none => if isSet s F.OSP_CTL_RX_EN then some (getf s F.OSP_CTL_RX_PROFILE) else none

/-- The receiver runs (R464): its profile. -/
def rxWants (s : State) : Option Nat :=
  match rxProfile s with
  | some p => if isSet s F.OSP_STAT_SCLK_OK && !away s 8 && decide (p < 16) && usable s (profWords s p) then some p else none
  | none => none

/-- The receiver goes OFF. -/
def rxGoOff (s : State) : State :=
  setf (setGain (setRxen (setf s F.OSP_STAT_RXSTATE rxOff) false) 0) F.OSP_RSSI_NOW_RSSI 0x8000

/-- The receiver enters SEARCH: it reads its profile; a live RSSI that no sample has given yet is open. -/
def rxGoSearch (s : State) (p : Nat) : State :=
  let ws := profWords s p
  let s := if rxState s = rxOff then drawn (setf s F.OSP_RSSI_NOW_RSSI ((freeVal s).toNat % 2 ^ 16)) else s
  let s := setOsp s { s.osp with pidx := p, prof := ws, info := [], len := none, bytes := [], got := 0, put := 0, cwTotal := 0, cwCorr := 0, cwFail := 0 }
  let s := setRxen (setf s F.OSP_STAT_RXSTATE rxSearch) true
  if pf ws 6 8 1 = 0 then setGain s (pf ws 6 0 6) else s

/-- SEARCH, or OFF with nothing to receive (R471). -/
def rxReturn (s : State) : State :=
  match rxWants s with
  | some p => rxGoSearch s p
  | none => rxGoOff s

/-- An abandoned or false preamble. -/
def falsePre (s : State) : State := satAdd s F.OSP_CNT_FALSE_PRE 1

/-- Follow a change of what there is to receive (Table 17-4). A packet in PAYLOAD is decoded to its end. -/
def rxEval (s : State) : State :=
  let s := showOsp s
  let st := rxState s
  if st = rxOff then (match rxWants s with | some p => rxGoSearch s p | none => s)
  else if st = rxSearch then
    (match rxWants s with
    | some p => if p = s.osp.pidx then s else rxGoSearch s p
    | none => rxGoOff s)
  else if st = rxPreamble ∧ (rxWants s).isNone then rxGoOff (falsePre s)
  else s

/-- Push an item of Osprey. -/
def ospPush (s : State) (it : Item) : State := push s (getf s F.OSP_CTL_FIFO) 0x38 it

/-- The trailer (Table 17-6): the packet has ended. -/
def ospTrailer (s : State) (lenBad aborted : Bool) : State :=
  let x := s.osp
  let lo := x.put % 256 + 2 ^ 8 * min 255 x.cwTotal + 2 ^ 16 * min 255 x.cwCorr + 2 ^ 24 * min 255 x.cwFail + 2 ^ 32 * 6
    + 2 ^ 40 * b2n lenBad + 2 ^ 41 * b2n aborted + 2 ^ 42 * (x.gain % 64) + 2 ^ 48 * unsigned 16 x.rssi
  let hi := unsigned 32 x.afc + 2 ^ 32 * (x.corr % 64)
  let err := lenBad || aborted || decide (x.cwFail ≠ 0)
  let s := if aborted then raise s F.OSP_EVT_ABORTED else s
  satAdd (ospPush s (hdrItem lo hi (2 + 8 * b2n err))) F.OSP_CNT_PACKETS 1

/-- Decode the groups of the coded body that have arrived (R461). -/
def ospDecode (s : State) (g : List Bool) : State :=
  let x := s.osp
  let fec := pFec x.prof
  if fec = 0 then setOsp s { x with info := x.info ++ g.map (fun b => (b, false)) }
  else
    let ds := (deinterleave (cwN fec) g).map (cwDec fec)
    let fails := (ds.filter (fun d => d.2 == 2)).length
    satAdd (setOsp s { x with info := x.info ++ ds.flatMap (fun d => d.1.map (fun b => (b, d.2 == 2))),
                              cwTotal := x.cwTotal + ds.length, cwCorr := x.cwCorr + (ds.filter (fun d => d.2 == 1)).length,
                              cwFail := x.cwFail + fails }) F.OSP_CNT2_CW_FAIL fails

/-- Whole bytes of the info bits: the length byte first where the packet has one, then payload bytes up to its length. The
result says whether the length byte is out of range (R460). -/
def ospBytes (s : State) : Nat → State × Bool
  | 0 => (s, false)
  | fuel + 1 =>
    let x := s.osp
    if x.info.length < 8 then (s, false)
    else
      let l := x.info.take 8
      let b := bitsByte (pMsbFirst x.prof) (l.map (·.1))
      let x1 := { x with info := x.info.drop 8 }
      match x.len with
      | none =>
        if b.toNat = 0 ∨ pPktLen x.prof < b.toNat then (setOsp s x1, true)
        else ospBytes (setOsp s { x1 with len := some b.toNat }) fuel
      | some n =>
        if n ≤ x.got then (setOsp s x1, false)
        else ospBytes (setOsp s { x1 with bytes := x.bytes ++ [(b, l.any (·.2))], got := x.got + 1 }) fuel

/-- Push the next data item: 16 bytes, the last one padded with zeros. -/
def ospData (s : State) : State :=
  let x := s.osp
  let l := x.bytes.take 16
  let s := ospPush s ⟨l.map (·.1) ++ List.replicate (16 - l.length) 0#8, 8 * b2n (l.any (·.2))⟩
  setOsp s { s.osp with bytes := x.bytes.drop 16, put := x.put + l.length }

/-- Push every whole data item. -/
def ospDatas (s : State) : Nat → State
  | 0 => s
  | fuel + 1 => if 16 ≤ s.osp.bytes.length then ospDatas (ospData s) fuel else s

/-- Groups of the body have arrived: decoded, and their data items pushed; a length byte out of range ends the packet. -/
def ospFeed (s : State) (gs : List (List Bool)) : State :=
  let s := gs.foldl ospDecode s
  let r := ospBytes s (s.osp.info.length + 1)
  if r.2 then rxReturn (ospTrailer r.1 true false) else ospDatas r.1 17

/-- A packet under way is ended early, with ABORTED. -/
def ospCut (s : State) : State := if rxState s = rxPayload then ospTrailer s false true else s

/-! ### The transmitter (R472 to R475) -/

/-- The OSP_TX that is served ends: repetitions and TX_WAIT in RESULT0. -/
def ospTxEnd (s : State) (status : Nat) : State :=
  let x := s.osp
  match x.txq with
  | [] => s
  | t :: q =>
    let s := setOsp s { x with txq := q, tph := 0, reps := 0, waitNs := 0, waitFrom := none, first := none }
    let s := match opOf s t.1 with
      | some o => giveRet s o ⟨status, w32 (x.reps % 2 ^ 16 + 2 ^ 16 * min 65535 (x.waitNs / 100000)), x.first.getD 0#32⟩
      | none => s
    showOsp s

/-- OSP_TXEN falls. -/
def txenFalls (s : State) : State :=
  if isSet s F.OSP_STAT_TX_ACTIVE then emit (setf s F.OSP_STAT_TX_ACTIVE 0) (.pin .ospTxen 0) else s

/-! ### Fence and reset (R476) -/

/-- The abort turn of D8: a packet ends with ABORTED, a transmission is cut, and nothing stays queued. -/
def ospAbort (s : State) : State :=
  let s := txenFalls (ospCut s)
  let s := if rxState s = rxPreamble then falsePre s else s
  let s := setOsp s { s.osp with txq := [], tph := 0, reps := 0, waitNs := 0, waitFrom := none, first := none }
  showOsp (rxGoOff s)

/-- A reset of D8; the registers go with the domain's class. -/
def ospReset (s : State) : State := { setGain (setRxen (txenFalls s) false) 0 with osp := {} }

/-! ### Commands -/

/-- OSP_RX (R470). -/
def execOspRx (tag : Nat) (s : State) : Host.Outcome State Fault Refusal :=
  match opOf s tag with
  | none => done s
  | some o =>
    if opcodeOf o ≠ 0x31 ∨ o.started ∨ o.fwd then done s
    else
      let p := opFld o 6 8 8
      let f := getf s F.OSP_CTL_FIFO
      let o := { o with started := true }
      if 16 ≤ p ∨ !usable s (profWords s p) ∨ getf s (F.SFQ_CFG_PROD f) ≠ 0x38 ∨ getf s (F.SFQ_CFG_CONS f) ≠ 1 ∨ !isSet s (F.SFQ_CFG_EN f)
        ∨ (isSet s F.OSP_CTL_RX_EN ∧ getf s F.OSP_CTL_RX_PROFILE ≠ p) then done (giveRet s o ⟨0x14, 0#32, 0#32⟩)
      else if !isSet s F.OSP_STAT_SCLK_OK then done (giveRet s o ⟨0x1B, 0#32, 0#32⟩)
      else done (rxEval (setOp s o))

/-- OSP_TX (R472); `h` is what a mover read from host memory. -/
def execOspTx (tag : Nat) (h : ReadEnd) (s : State) : Host.Outcome State Fault Refusal :=
  match opOf s tag with
  | none => done s
  | some o =>
    if opcodeOf o ≠ 0x30 ∨ o.started ∨ o.fwd then done s
    else
      let p := opFld o 6 8 8
      let ws := profWords s p
      let n := dLength o.words
      let o := { o with started := true }
      if 16 ≤ p ∨ !usable s ws ∨ (if pVar ws then pPktLen ws < n else n ≠ pPktLen ws) then done (giveRet s o ⟨0x14, 0#32, 0#32⟩)
      else
        let d := sourceBytes s (decide (opFld o 6 0 1 = 1)) (d64 o.words 4) n h
        match d.2 with
        | some e => done (giveRet (noteErr s e) o ⟨errStatus e, 0#32, 0#32⟩)
        | none => done (showOsp (setOsp (setOp s o) { s.osp with txq := s.osp.txq ++ [(tag, d.1)] }))

/-- The gain loop steps in SEARCH (R463): an attack, or a decay. -/
def execOspGainStep (attack : Bool) (s : State) : Host.Outcome State Fault Refusal :=
  if rxState s = rxSearch ∧ pf s.osp.prof 6 8 1 = 1 then
    done (setGain s (if attack then s.osp.gain - getf s F.OSP_AGC1_ATTACK_STEP else min 63 (s.osp.gain + 1)))
  else done s

/-- The correlation reaches `corr` / 64 (R465): a preamble is detected from PRE_THR on. -/
def execOspPreambleDetect (corr : Fin 65) (s : State) : Host.Outcome State Fault Refusal :=
  if rxState s = rxSearch ∧ pf s.osp.prof 3 8 6 ≤ corr.val ∧ !away s 8 then
    done (setf (setOsp s { s.osp with corr := min 63 corr.val }) F.OSP_STAT_RXSTATE rxPreamble)
  else done s

/-- RSSI (R468) from a mean power in thousandths of a dB relative to full scale. -/
def rssiOf (s : State) (milliDb : Int) : Int :=
  let v := 10 * milliDb + 5000 * signed 16 (getf s F.OSP_RSSI_CAL_FS_DBM) - 1000 * ((s.osp.gain * getf s F.OSP_RSSI_CAL_GAIN_STEP : Nat) : Int)
  max (-32768) (min 32767 ((v + 2500) / 5000))

/-- Bits in which two words differ. -/
def bitDiff (n : Nat) (a b : W32) : Nat := ((List.range n).filter (fun i => (a ^^^ b).getLsbD i)).length

/-- The last SYNC_LEN bits are `bits` (R467): a match latches AFC, slicer and RSSI, and pushes the header item. `offset` is the
estimate in Hz, `milliDb` the mean power, `ago` the time since the last sync bit at the pins, ns. -/
def execOspSyncMatch (bits : W32) (offset milliDb : Int) (ago : Nat) (s : State) : Host.Outcome State Fault Refusal :=
  let x := s.osp
  let n := pSyncLen x.prof
  let errs := bitDiff n bits (x.prof.getD 4 0#32)
  if rxState s = rxPreamble ∧ errs ≤ pf x.prof 5 8 2 ∧ !away s 8 then
    let lim : Int := ((pf x.prof 6 16 8 * 1000 : Nat) : Int)
    let afc := if pf x.prof 6 9 1 = 1 then max (-lim) (min lim offset) else 0
    let r := rssiOf s milliDb
    let s := setOsp s { x with afc := afc, rssi := r, len := if pVar x.prof then none else some (pPktLen x.prof) }
    let s := setf (setf s F.OSP_STAT_RXSTATE rxPayload) F.OSP_RSSI_NOW_RSSI (unsigned 16 r)
    done (ospPush s (hdrItem (bits.toNat % 2 ^ n + 2 ^ 32 * 5 + 2 ^ 40 * (x.pidx % 16) + 2 ^ 44 * errs) (hdrTime (stampAgo s ago)) 1))
  else done s

/-- SYNC_WAIT bits since detection (R467). -/
def execOspSyncWaitExpiry (s : State) : Host.Outcome State Fault Refusal :=
  if rxState s = rxPreamble then done (rxReturn (falsePre s)) else done s

/-- Groups of the coded body arrive that complete a data item (R461, R469). -/
def execOspDataItem (groups : List (List Bool)) (s : State) : Host.Outcome State Fault Refusal :=
  if rxState s = rxPayload then done (ospFeed s groups) else done s

/-- The last coded bits arrive (R469): the last data item, then the trailer. -/
def execOspPacketEnd (groups : List (List Bool)) (s : State) : Host.Outcome State Fault Refusal :=
  if rxState s = rxPayload then
    let s := ospFeed s groups
    if rxState s = rxPayload ∧ s.osp.len = some s.osp.got then
      let s := if s.osp.bytes = [] then s else ospData s
      done (rxReturn (ospTrailer s false false))
    else done s
  else done s

/-- A repetition that is due takes the front end (R474, R475), or waits for a packet in PAYLOAD. -/
def execOspTxStart (s : State) : Host.Outcome State Fault Refusal :=
  let x := s.osp
  match x.txq with
  | [] => done s
  | t :: _ =>
    if x.tph ≠ 0 ∨ !isSet s F.OSP_STAT_SCLK_OK ∨ away s 8 then done s
    else if rxState s = rxPayload ∧ !isSet s F.OSP_CTL_TX_PREEMPT then
      done (if x.waitFrom.isNone then setOsp s { x with waitFrom := some s.clk } else s)
    else
      let p := df (wordsOf s t.1) 6 8 8
      let ws := profWords s p
      let s := if rxState s = rxPreamble then falsePre s else ospCut s
      let s := setRxen (setf s F.OSP_STAT_RXSTATE rxSuspended) false
      let s := emit (setf s F.OSP_STAT_TX_ACTIVE 1) (.pin .ospTxen 1)
      let t1 := s.tbu.sec * 1000000000 + s.tbu.ns + 1000 * (pf ws 7 24 8 + pf ws 7 16 8)
      let w := w32 (getf s F.TBU_STAT_HOLD * 2 ^ 31 + getf s F.TBU_STAT_UNSYNC * 2 ^ 30 + t1 % 1000000000)
      let s := setOsp s { s.osp with tph := 1, first := some (x.first.getD w), waitFrom := none,
                                     waitNs := x.waitNs + (match x.waitFrom with | some f => s.clk - f | none => 0) }
      done (emit s (.radio p (frameChips ws t.2)))

/-- A repetition ends (R473, R474): the OSP_TX completes after the last one. -/
def execOspRepetitionEnd (s : State) : Host.Outcome State Fault Refusal :=
  let x := s.osp
  match x.txq with
  | [] => done s
  | t :: _ =>
    if x.tph ≠ 1 then done s
    else
      let s := satAdd (txenFalls s) F.OSP_CNT2_TX_SENT 1
      let s := setOsp s { s.osp with reps := x.reps + 1, tph := 2 }
      done (if max 1 (df (wordsOf s t.1) 7 0 16) ≤ x.reps + 1 then ospTxEnd s 0 else s)

/-- GAP_US after a repetition (R473). -/
def execOspGapExpiry (s : State) : Host.Outcome State Fault Refusal :=
  if s.osp.tph = 2 then done (setOsp s { s.osp with tph := 0 }) else done s

/-- TR_US after OSP_TXEN fell (R475). -/
def execOspTrExpiry (s : State) : Host.Outcome State Fault Refusal :=
  if rxState s = rxSuspended ∧ s.osp.tph ≠ 1 then done (rxReturn s) else done s

/-- OSP_SCLK stops, or TI6 loses lock (R477). -/
def execOspSclkLost (s : State) : Host.Outcome State Fault Refusal :=
  if !isSet s F.OSP_STAT_SCLK_OK then done s
  else
    let arm := ospArmed s
    let s := raise (setf s F.OSP_STAT_SCLK_OK 0) F.OSP_EVT_SCLK_LOST
    let s := rxGoOff (if rxState s = rxPreamble then falsePre s else ospCut s)
    let s := if s.osp.tph ≠ 0 ∨ s.osp.reps ≠ 0 then ospTxEnd (txenFalls s) 0x1B else s
    let s := match arm with | some o => rxEnd s o 3 0x1B | none => s
    done (showOsp s)

/-- The clock returns (R477). -/
def execOspSclkReturn (s : State) : Host.Outcome State Fault Refusal :=
  if away s 8 then done s else done (rxEval (setf s F.OSP_STAT_SCLK_OK 1))

/-- A 10 ms window has measured `fs` (R457). -/
def execOspFsMeasure (fs : Nat) (s : State) : Host.Outcome State Fault Refusal :=
  if inReset s 8 then done s
  else
    let d := getf s F.OSP_FS_FS
    let s := setf s F.OSP_FS_MEAS_FS fs
    done (if d < 200 * (fs - d + (d - fs)) then raise s F.OSP_EVT_FS_MISMATCH else s)

/-- TIMEOUT_MS of the armed OSP_RX has elapsed (Table 17-7). -/
def execOspRxTimeout (s : State) : Host.Outcome State Fault Refusal :=
  match ospArmed s with
  | some o => if opWord o 8 ≠ 0#32 then done (rxEval (rxEnd s o 2 0)) else done s
  | none => done s

/-- RX_EN is written (R464): with nothing left to receive, a packet in PAYLOAD ends with ABORTED. -/
def ospRxEn (s : State) (on : Bool) : State :=
  let s := setf s F.OSP_CTL_RX_EN (b2n on)
  if rxState s = rxPayload ∧ (rxProfile s).isNone then rxGoOff (ospCut s) else rxEval s

/-- RX_EN is written. -/
def execOspRxEnWrite (on : Bool) (s : State) : Host.Outcome State Fault Refusal :=
  if away s 8 then done s else done (ospRxEn s on)

/-- A Q word without its I word (R456). -/
def execFrmErr (s : State) : Host.Outcome State Fault Refusal :=
  if isSet s F.OSP_STAT_SCLK_OK && !inReset s 8 then done (raise s F.OSP_EVT_FRM_ERR) else done s

end Sys2Proof.Machine
end

