-- ==== Sys2Proof/Machine/Tag.lean ====
section
/-! DEFINITION. The Sundene service tag (19_sundene_tag.md): the field side's commands, the host side's operations, and the locks. -/
namespace Sys2Proof.Machine

def setTag (s : State) (x : Tag) : State := { s with tag := x }

/-- A byte of the tag memory; it reads 0 when the unit is new (R509). -/
def tagByte (s : State) (o : Nat) : Byte := (sget o s.tagMem).getD 0#8

/-- Store a byte of the tag memory. -/
def tagPut (s : State) (o : Nat) (b : Byte) : State := { s with tagMem := sset 0#8 o b s.tagMem }

/-- Bytes of the tag memory from offset `o` up. -/
def tagBytes (s : State) (o n : Nat) : List Byte := (List.range n).map (fun i => tagByte s (o + i))

/-- Store bytes from offset `o` up. -/
def tagPutBytes (s : State) (o : Nat) : List Byte → State
  | [] => s
  | b :: t => tagPutBytes (tagPut s o b) (o + 1) t

/-- Block `b` is locked. -/
def tagLocked (s : State) (b : Nat) : Bool := bit (rd s (R.TAG_LOCK (b / 32))).toNat (b % 32)

/-- The override is active (R514). -/
def overrideOn (s : State) : Bool :=
  isSet s F.TAG_CTL_OVERRIDE && (getf s F.LCY_STATE_STATE == 1 || getf s F.LCY_STATE_STATE == 2)

/-- The tag operation that runs: the oldest begun. -/
def tagOp (s : State) : Option Op :=
  s.ops.find? (fun o => (opcodeOf o == 0x80 || opcodeOf o == 0x81) && o.started && !o.fwd && o.ret == none)

/-- A host access stops waiting: its time counts. -/
def tagWaited (s : State) : State :=
  match s.tag.from_ with
  | none => s
  | some f =>
    let d := s.clk - f
    maxTo (setTag s { s.tag with from_ := none, waitNs := s.tag.waitNs + d }) F.TAG_WAIT_MAX_US (d / 1000)

/-- The running operation ends (Table 19-4): bytes in RESULT0, µs waited in RESULT1. -/
def tagEnd (s : State) (o : Op) (status : Nat) : State :=
  let s := tagWaited s
  let w := min (2 ^ 32 - 1) (s.tag.waitNs / 1000)
  giveRet (setTag s { s.tag with shadow := none, waitNs := 0 }) o ⟨status, w32 o.prog, w32 w⟩

def tagNonblock (o : Op) : Bool := decide (opFld o 6 1 1 = 1)
def tagFirst (o : Op) : Nat := opFld o 7 0 11
def tagSpace (o : Op) : Bool := decide (opFld o 6 0 1 = 1)

/-- TAG_READ has the memory: the live blocks go to the buffer, page by page (R516). -/
def tagRead (s : State) (o : Op) : State :=
  let bs := tagBytes s (4 * tagFirst o) (dLength o.words)
  let w := moverPut s o.ctx (tagSpace o) (d64 o.words 4) bs
  let s := noteOpt w.1 w.2.2
  tagEnd s { o with prog := w.2.1 } (match w.2.2 with | some e => errStatus e | none => 0)

/-- Bytes of the page at the operation's place that it writes: offset of the first and their number. -/
def tagSpan (o : Op) : Nat × Nat :=
  let a := 4 * tagFirst o + o.prog
  (a, min (64 - a % 64) (dLength o.words - o.prog))

/-- Locked blocks of the page part at the operation's place, as a mask of the page's blocks. -/
def tagLockedIn (s : State) (o : Op) : Nat :=
  let p := tagSpan o
  (List.range 16).foldl (fun m i =>
    let b := p.1 / 64 * 16 + i
    if p.1 / 4 ≤ b ∧ 4 * b < p.1 + p.2 ∧ tagLocked s b then setBit m i else m) 0

/-- The next page of a TAG_WRITE is checked and merged into the shadow page (R512, R515), or the write is done. -/
def tagPage (s : State) (o : Op) : State :=
  if dLength o.words ≤ o.prog then tagEnd s o (if o.note then 1 else 0)
  else
    let p := tagSpan o
    let l := tagLockedIn s o
    if l ≠ 0 ∧ !overrideOn s then tagEnd s o 0x13
    else
      let old := tagBytes s (p.1 / 64 * 64) 64
      let new := old.take (p.1 % 64) ++ (o.buf.drop o.prog).take p.2 ++ old.drop (p.1 % 64 + p.2)
      setOp (setTag s { s.tag with shadow := some { page := p.1 / 64, data := new, locked := l } })
        { o with note := o.note || decide (l ≠ 0) }

/-- The commit of a shadow page (R512): refused where a block of the range was locked in the meantime (R515). -/
def tagCommit (s : State) (o : Op) (h : Shadow) : State :=
  let p := tagSpan o
  let s := tagWaited s
  let l := tagLockedIn s o
  if l &&& h.locked ≠ l ∧ !overrideOn s then tagEnd (raise s F.TAG_EVT_COMMIT_DENIED) o 0x13
  else
    let s := tagPutBytes (setTag s { s.tag with shadow := none }) (64 * h.page) h.data
    tagPage s { o with prog := o.prog + p.2, note := o.note || decide (l ≠ 0) }

/-- Blocks of a lock word within a range. -/
def lockMask (w first last : Nat) : W32 :=
  w32 ((List.range 32).foldl (fun m i => if first ≤ 32 * w + i ∧ 32 * w + i ≤ last then setBit m i else m) 0)

/-- The next group of a TAG_LOCK_CMD, or its end. -/
def lkNext (s : State) (k : TagLk) (w : Nat) : State :=
  if k.last / 32 < w then setTag s { s.tag with lk := none }
  else setTag s { s.tag with lk := some { k with word := w, live := rd s (R.TAG_LOCK w), due := false, from_ := none } }

/-- The commit of a lock group (R524): what a reader locked in the meantime stays locked, and LOCK_DENIED is set. -/
def lkCommit (s : State) (k : TagLk) : State :=
  let s := match k.from_ with | some f => maxTo s F.TAG_WAIT_MAX_US ((s.clk - f) / 1000) | none => s
  let now := rd s (R.TAG_LOCK k.word)
  let m := lockMask k.word k.first k.last
  let new := now &&& ~~~k.live
  if k.unlock && !overrideOn s then setTag (raise s F.TAG_EVT_LOCK_DENIED) { s.tag with lk := none }
  else
    let s := if new &&& m ≠ 0#32 then raise s F.TAG_EVT_LOCK_DENIED else s
    lkNext (wr s (R.TAG_LOCK k.word) (if k.unlock then now &&& ~~~(m &&& ~~~new) else now ||| m)) k (k.word + 1)

/-- An access phase has ended: the host accesses that wait go next (R511). -/
def tagHostGo (s : State) : State :=
  let s := match tagOp s with
    | some o =>
      if s.tag.from_.isNone then s
      else if opcodeOf o = 0x80 then tagRead s o
      else (match s.tag.shadow with | some h => if h.due then tagCommit s o h else s | none => s)
    | none => s
  match s.tag.lk with
  | some k => if k.due && k.from_.isSome then lkCommit s k else s
  | none => s

/-- The range of an operation passes block 2,047 (R516). -/
def tagRange (o : Op) : Bool := decide (2047 < tagFirst o + dLength o.words / 4 - 1)

/-- TAG_READ (R511, R513, R516). -/
def takeTagRead (tag : Nat) (s : State) : Host.Outcome State Fault Refusal :=
  match opOf s tag with
  | none => done s
  | some o =>
    if opcodeOf o ≠ 0x80 ∨ o.started ∨ o.fwd then done s
    else if tagRange o then done (giveRet s { o with started := true } ⟨0x14, 0#32, 0#32⟩)
    else if (tagOp s).isSome then done s
    else
      let o := { o with started := true }
      if s.tag.phase.isNone then done (tagRead s o)
      else if tagNonblock o then done (tagEnd s o 0x70)
      else done (setTag (setOp s o) { s.tag with from_ := some s.clk })

/-- TAG_WRITE (R512, R515, R516); `h` is what a mover read from host memory. -/
def execTagWrite (tag : Nat) (h : ReadEnd) (s : State) : Host.Outcome State Fault Refusal :=
  match opOf s tag with
  | none => done s
  | some o =>
    if opcodeOf o ≠ 0x81 ∨ o.started ∨ o.fwd then done s
    else if tagRange o then done (giveRet s { o with started := true } ⟨0x14, 0#32, 0#32⟩)
    else if (tagOp s).isSome then done s
    else
      let o := { o with started := true }
      let d := sourceBytes s (tagSpace o) (d64 o.words 4) (dLength o.words) h
      match d.2 with
      | some e => done (tagEnd (noteErr s e) o (errStatus e))
      | none => done (tagPage (setOp s { o with buf := d.1 }) { o with buf := d.1 })

/-- A shadow page has been programmed and verified (R512): its commit falls due; a verify that fails twice ends the write. -/
def execTagShadowProgrammed (ok : Bool) (s : State) : Host.Outcome State Fault Refusal :=
  match tagOp s, s.tag.shadow with
  | some o, some h =>
    if h.due then done s
    else if ok then done (setTag s { s.tag with shadow := some { h with due := true } })
    else if h.fails = 0 then done (setTag s { s.tag with shadow := some { h with fails := 1 } })
    else done (tagEnd s o 0x40)
  | _, _ => done s

/-- The commit of a shadow page is due (R511 to R513). -/
def execTagPageCommit (s : State) : Host.Outcome State Fault Refusal :=
  match tagOp s, s.tag.shadow with
  | some o, some h =>
    if !h.due then done s
    else if s.tag.phase.isNone then done (tagCommit s o h)
    else if tagNonblock o then done (tagEnd s o 0x70)
    else done (if s.tag.from_.isNone then setTag s { s.tag with from_ := some s.clk } else s)
  | _, _ => done s

/-- A write of TAG_LOCK_CMD (R514, R524). -/
def tagLockCmd (s : State) (v : W32) : State :=
  let first := getf s F.TAG_LOCK_FIRST_FIRST
  let last := extractBits v 0 11
  let un := decide (extractBits v 12 1 = 1)
  if extractBits v 16 16 ≠ 0x10CB ∨ last < first ∨ s.tag.lk.isSome then s
  else if un && !overrideOn s then raise s F.TAG_EVT_LOCK_DENIED
  else lkNext s { word := 0, first := first, last := last, unlock := un, live := 0#32 } (first / 32)

/-- A write of TAG_LOCK_CMD. -/
def execTagLockCmd (data : W32) (s : State) : Host.Outcome State Fault Refusal := if away s 22 then done s else done (tagLockCmd s data)

/-- A shadow lock word has been programmed and verified (R524). -/
def execTagLockGroupProgrammed (s : State) : Host.Outcome State Fault Refusal :=
  match s.tag.lk with
  | some k => done (setTag s { s.tag with lk := some { k with due := true } })
  | none => done s

/-- The commit of a lock group is due (R524). -/
def execTagLockGroupCommit (s : State) : Host.Outcome State Fault Refusal :=
  match s.tag.lk with
  | some k =>
    if !k.due then done s
    else if s.tag.phase.isNone then done (lkCommit s k)
    else done (if k.from_.isNone then setTag s { s.tag with lk := some { k with from_ := some s.clk } } else s)
  | none => done s

/-- A fence of D22, or the loss of its supplies (R517): the shadow pages are discarded. -/
def tagAbort (s : State) : State := setTag s { s.tag with shadow := none, from_ := none, waitNs := 0 }

/-- A reset of D22: the memory and a field command under way stay. -/
def tagReset (s : State) : State := setTag (tagAbort s) { (tagAbort s).tag with lk := none }

/-! ### Field side -/

/-- The field rises (R508, R518). -/
def execTagFieldOn (s : State) : Host.Outcome State Fault Refusal :=
  if s.tag.field ≠ 0 then done s
  else
    let s1 := setTag s { s.tag with field := 1, sess := true }
    done (if s.tag.sess then s1 else satAdd s1 F.TAG_SESS_SESSIONS 1)

/-- Set the lock bit that a reader has programmed. -/
def fieldLock (s : State) (b : Nat) : State :=
  let a := R.TAG_LOCK (b / 32)
  let s := satAdd (wr s a (rd s a ||| w32 (2 ^ (b % 32)))) F.TAG_SESS_FIELD_LOCKS 1
  if inReset s 22 then s else raise s F.TAG_EVT_FIELD_LOCK

/-- The field falls (R508): a lock bit being programmed is either set or clear (Table 19-8), and the access phase ends. -/
def execTagFieldLost (s : State) : Host.Outcome State Fault Refusal :=
  if s.tag.field = 0 then done s
  else
    let ph := s.tag.phase
    let s1 := setTag s { s.tag with field := 0, phase := none }
    let s2 := match ph with
      | some (.lock b) => if (freeVal s1).toNat % 2 = 1 then drawn (fieldLock s1 b) else drawn s1
      | _ => s1
    done (tagHostGo s2)

/-- The field has been absent for SESS_END_MS (R518). -/
def execTagSessionEnd (s : State) : Host.Outcome State Fault Refusal :=
  if s.tag.field ≠ 0 ∨ !s.tag.sess then done s
  else
    let s1 := setTag s { s.tag with sess := false }
    done (if inReset s 22 then s1 else devEvent (raise s1 F.TAG_EVT_SESS_END) 11)

/-- The tag's UID (R506). -/
def tagUid : W64 := Config.uidHi ++ Config.uidLo

/-- The request is for this tag: Select is never answered; an addressed request must carry the UID; a QUIET tag answers
addressed requests only. -/
def tagFor (s : State) (r : TagReq) : Bool :=
  !r.select && (match r.uid with
    | some u => s.tag.field != 0 && decide (u = tagUid)
    | none => s.tag.field == 1)

/-- Answer with an error code (Table 19-2). -/
def tagError (s : State) (code : Nat) : State := emit s (.tagResponse 1 [byte code])

/-- INVENTORY (R505): `mask` is matched against the UID's low bits, with 16 slots the tag answers in the slot that its next four
bits name. -/
def execInventory (afi : Option Byte) (len : Fin 65) (mask : W64) (sixteen : Bool) (s : State) : Host.Outcome State Fault Refusal :=
  let afiOk := match afi with | some a => decide (a = 0#8) | none => true
  if s.tag.field = 1 && afiOk && decide (tagUid.toNat % 2 ^ len.val = mask.toNat % 2 ^ len.val) && !(sixteen && decide (60 < len.val)) then
    done (emit s (.tagResponse 0 (0#8 :: leBytes 8 tagUid.toNat)))
  else done s

/-- STAY QUIET, addressed only (R508). -/
def execStayQuiet (r : TagReq) (s : State) : Host.Outcome State Fault Refusal :=
  if r.uid.isSome && tagFor s r && !r.bad then done (setTag s { s.tag with field := 2 }) else done s

/-- The response of a read: per block a security byte under the Option flag, and its data. -/
def readResp (s : State) (opt : Bool) (first n : Nat) : List Byte :=
  (List.range n).flatMap (fun i =>
    let b := first + i
    (if opt then [byte (b2n (tagLocked s b))] else []) ++ tagBytes s (4 * b) 4)

/-- A read of `n` blocks (R510): its snapshot is taken at the reader's EOF. -/
def fieldRead (s : State) (r : TagReq) (first n top : Nat) : State :=
  if !tagFor s r || s.tag.phase.isSome then s
  else if r.bad then tagError s 0x02
  else if 256 < n then tagError s 0x0F
  else if top < first + n then tagError s 0x10
  else setTag s { s.tag with phase := some (.read (readResp s r.option first n)) }

/-- A lock of one block (R510, R514): its access phase begins at the reader's EOF. -/
def fieldLockCmd (s : State) (r : TagReq) (b : Nat) : State :=
  if !tagFor s r || s.tag.phase.isSome then s
  else if r.bad then tagError s 0x02
  else if 2047 < b then tagError s 0x10
  else if tagLocked s b then tagError s 0x11
  else setTag s { s.tag with phase := some (.lock b) }

/-- READ MULTIPLE BLOCKS: blocks 0 to 255. -/
def execReadMultipleBlocks (r : TagReq) (first count : Fin 256) (s : State) : Host.Outcome State Fault Refusal :=
  done (fieldRead s r first (count.val + 1) 256)

/-- EXTENDED READ MULTIPLE BLOCKS. -/
def execExtendedReadMultipleBlocks (r : TagReq) (first count : Fin 65536) (s : State) : Host.Outcome State Fault Refusal :=
  done (fieldRead s r first (count.val + 1) 2048)

/-- LOCK BLOCK. -/
def execLockBlock (r : TagReq) (b : Fin 256) (s : State) : Host.Outcome State Fault Refusal := done (fieldLockCmd s r b)

/-- EXTENDED LOCK BLOCK. -/
def execExtendedLockBlock (r : TagReq) (b : Fin 65536) (s : State) : Host.Outcome State Fault Refusal := done (fieldLockCmd s r b)

/-- Any other command code (R505): answered only where it is addressed to this tag. -/
def execTagUnsupportedCommand (r : TagReq) (s : State) : Host.Outcome State Fault Refusal :=
  if r.uid.isSome && tagFor s r then done (tagError s 0x01) else done s

/-- A read's snapshot is complete (R510, R511): the response follows, and a waiting host access goes next. -/
def execTagSnapshotDone (s : State) : Host.Outcome State Fault Refusal :=
  match s.tag.phase with
  | some (.read resp) => done (tagHostGo (emit (setTag s { s.tag with phase := none }) (.tagResponse 0 resp)))
  | _ => done s

/-- A lock's programming and verification end (R510, R514). -/
def execTagLockProgrammed (ok : Bool) (s : State) : Host.Outcome State Fault Refusal :=
  match s.tag.phase with
  | some (.lock b) =>
    let s := setTag s { s.tag with phase := none }
    done (tagHostGo (if ok then emit (fieldLock s b) (.tagResponse 0 []) else tagError s 0x14))
  | _ => done s

end Sys2Proof.Machine
end

