-- ==== Sys2Proof/Machine/Reset.lean ====
section
/-! DEFINITION. The quiesce fence in its steps, the reset of each domain, the warm unit reset, RST_N and power-on reset
(04_reset_domains_and_quiesce.md). -/
namespace Sys2Proof.Machine

/-! ### The abort turn (R113, R114) -/

/-- The CAN buffer that holds an operation, with its number. -/
def bufOf (s : State) (o : Op) : Option (Nat × TxBuf) := (can s (vbuChan o.words)).bufs.find? (fun b => b.2.op == o.tag)

/-- What an operation that is aborted returns: the result words count what it had done, as for any other end. -/
def abortRet (s : State) (o : Op) : Ret :=
  let plain : Ret := ⟨0x1A, 0#32, 0#32⟩
  let done_ : Ret := ⟨0x1A, w32 o.prog, 0#32⟩
  match opcodeOf o with
  | 0x02 => done_
  | 0x03 => done_
  | 0x50 => done_
  | 0x51 => done_
  | 0x52 => done_
  | 0x80 => done_
  | 0x81 => done_
  | 0x10 =>
    (match bufOf s o with
    | some (i, b) => ⟨0x1A, w32 (min 65535 b.att + i % 32 * 2 ^ 16 + 2 * 2 ^ 24), b.sof⟩
    | none => ⟨0x1A, w32 (2 * 2 ^ 24), 0#32⟩)
  | 0x11 => ⟨0x1A, w32 o.count, w32 (o.prog % 2 ^ 25)⟩
  | 0x31 => ⟨0x1A, w32 o.count, w32 (o.prog % 2 ^ 25)⟩
  | 0x30 => if (s.osp.txq.head?.map (·.1)) = some o.tag then ⟨0x1A, w32 (s.osp.reps % 2 ^ 16), s.osp.first.getD 0#32⟩ else plain
  | 0x20 => (match s.har.scan with | some c => if c.tag = o.tag then scanRet c 0x1A else plain | none => plain)
  | 0x60 => ⟨0x1A, stampR0 s, 0#32⟩
  | 0x70 =>
    (match s.stage with
    | some g => if g.tag = o.tag then stageRet s g.plane g.frames 0x1A 0 else stageRet s (stPlane o) 0 0x1A 0
    | none => stageRet s (stPlane o) 0 0x1A 0)
  | 0x79 => (match s.dep.jobs.find? (fun j => j.op == some o.tag) with | some j => writeRet s j 0x1A | none => plain)
  | _ => plain

/-- Complete the operations of a list as aborted (R113), in the order given. -/
def abortOps (s : State) : List Op → State
  | [] => s
  | o :: t => abortOps (complete s o (abortRet s o)) t

/-- A running scan is stopped: MODE 0 goes out on its links (R392). -/
def harAbort (s : State) : State :=
  match s.har.scan with
  | none => s
  | some c =>
    let s := (endHold s c).1
    let s := match opOf s c.tag with | some o => scanOff s o | none => s
    clearScan s

/-- The depot's requests that serve an operation go, and so does a stage: its plane stays marked invalid (R108, R157); a sector
whose erase or program was under way is left undefined. -/
def cfgAbort (s : State) : State :=
  let s := match s.dep.jobs with
    | j :: _ => if j.op.isSome && decide (1 ≤ j.st) then flashLose s j.sector else s
    | [] => s
  let s := if s.stage.isSome then setf (setf { s with stage := none } F.CFG_STAT_OP 0) F.CFG_STAT_OP_PLANE 0 else s
  setDep s { s.dep with jobs := s.dep.jobs.filter (fun j => j.op.isNone && j.kind != 3) }

/-- A march that is cut off (Table 9-8): a preserving one leaves the row it stood in undefined, a destructive one the bank. -/
def marchAbort (s : State) (n : Nat) : State :=
  let b := bank s n
  if b.march = 0 then s
  else
    let s := if b.march = 1 then loseBank s n
      else drawn (loseBytes (drawn s) (n * 0x100000 + (freeVal s).toNat % 4096 * 256) 256)
    let s := setf (setf (setBank s n { bank s n with march := 0, marchOp := none }) (F.BNK_STAT_MARCH n) 0) (F.BNK_STAT_ROW n) 0
    let s := setf (setf s (F.BNK_MRES_DONE n) 0) F.BNK_PSTATE_MARCHING (clearBit (getf s F.BNK_PSTATE_MARCHING) n)
    if b.marchOp.isSome && b.march = 1 then releaseHolder s (12 + n) 0xA else s

/-- Window accesses that wait for the personality end as the window of a fenced fabric answers (R41). -/
def winAbort (s : State) : State :=
  let l := s.fab.wins
  l.foldl (fun t q =>
    let t := satAdd t F.FAB_WIN_CNT_COUNT 1
    if q.2.2.isNone then emit t (.regData (0x200000 + 0x10000 * q.1 + q.2.1) 0#32) else t) (setFab s { s.fab with wins := [] })

/-- What the blocks of a domain drop at the abort turn. -/
def blockAbort (s : State) (d : Nat) : State :=
  if d = 6 then harAbort s
  else if d = 7 then vbuAbort s
  else if d = 8 then ospAbort s
  else if d = 9 then nvAbandon s
  else if d = 21 then cfgAbort s
  else if d = 22 then tagAbort s
  else if d = 23 then bstAbort s
  else if d = 11 then winAbort s
  else s

/-- An operation of the bank service that runs on bank `n` lies inside its bank's domain (R249): a power step that has begun goes to
its end, one that has not is given up. -/
def bankOps (s : State) (n : Nat) : List Op :=
  let b := bank s n
  s.ops.filter (fun o => o.ret == none && (b.marchOp == some o.tag || (b.forOp == some o.tag && !(dom s (12 + n)).holders.contains 7)))

/-- The operations inside a domain that have returned nothing yet (R114: a reply already produced stays valid). -/
def inside (s : State) (d : Nat) : List Op := s.ops.filter (fun o => o.dom == some d && o.ret == none)

/-- The operations that end with a domain's aborts. -/
def abortList (s : State) (d : Nat) : List Op :=
  inside s d ++ (if 12 ≤ d ∧ d < 20 then
    (bankOps s (d - 12)).filter (fun o => o.dom != some d) else [])

/-- The marches and power steps that a holder other than the bank service ends: a destructive march holds its bank itself, and its own
fence does not end it. -/
def ownMarch (s : State) (d : Nat) : Bool :=
  decide (12 ≤ d ∧ d < 20) && (dom s d).resetBy.isNone && decide ((dom s d).holders = [0xA])

/-- Aborts are posted (R113): every operation inside ends with ABORTED_BY_RESET, so does the operation of every access inside
(`accs`, by tag; a number that is no operation's stands for an access of another master), and the ledger is credited. -/
def postAborts (s : State) (d : Nat) (accs : List Nat) : State :=
  let l := if ownMarch s d then (inside s d).filter (fun o => (bank s (d - 12)).marchOp != some o.tag) else abortList s d
  let l2 := s.ops.filter (fun o => accs.contains o.tag && o.ret == none && !(l.any (fun p => p.tag == o.tag)))
  let s1 := abortOps s (l ++ l2)
  let s2 := blockAbort s1 d
  let s2 := if (12 ≤ d ∧ d < 20) && !ownMarch s d then marchAbort s2 (d - 12) else s2
  let s2 := satAdd s2 (F.RST_DOM_STAT_ABORTS d) (l.length + accs.length)
  let s2 := logEvent s2 d 1 (dom s d).src l.length accs.length
  setDom s2 d { dom s2 d with fence := .aborted }

/-! ### Warm unit reset: the abort turn of the whole unit (R110) -/

/-- The domains in a warm unit reset's reach. -/
def warmReach : List Nat := [0, 1] ++ (List.range 20).map (fun i => i + 4)

/-- Every domain of the reach that is powered has posted its aborts or is in reset. -/
def warmPosted (s : State) : Bool :=
  warmReach.all (fun d => !(dom s d).powered || (dom s d).fence == .aborted || (dom s d).fence == .reset)

/-- The staged descriptors of a context that will never be dispatched complete: the gate refuses them, or aborts them. -/
def flushStaged (s : State) (c : Nat) : List Staged → State
  | [] => s
  | x :: t =>
    let s := match gateCheck s (getf s (F.CTX_ENG_MASK c)) (getf s (F.CTX_BWIN_FIRST c)) (getf s (F.CTX_BWIN_LAST c)) x.words with
      | some (st, de) => refuse s c x.sq x.words st de
      | none => outcome s c x.sq x.words 0x1A 0 0#32 0#32
    flushStaged s c t

/-- What is left in flight once every domain has posted its aborts: replies already produced are delivered, the operations outside every
domain are aborted, and so are remote operations that wait; a handover that runs is ended, and counted (R110, R23, R28, R165, Table 6-20). -/
def warmFlush (s : State) : State :=
  let kept := s.ops.filter (fun o => o.ret.isSome)
  let s := kept.foldl (fun t o => complete t o (o.ret.getD ⟨0x1A, 0#32, 0#32⟩)) s
  let s := abortOps s s.ops
  let s := s.enu.rmtWait.foldl (fun t m =>
    remoteDone t m.src (extractBits (m.w.getD 0 0#32) 16 12) { tag := 0, ctx := extractBits (m.w.getD 1 0#32) 0 10, sq := 0, words := rmtWords m }
      0x1A 0 0#32 0#32) (setEnu s { s.enu with rmtWait := [] })
  let s := (List.range 8).foldl marchAbort s
  (s.ctxs.map (·.1)).foldl (fun t c =>
    let l := (ctx t c).staged
    flushStaged (setCtx t c { ctx t c with staged := [] }) c l)
    { (if s.ho.isSome then satAdd s F.CFG_HO_CNT_ABORTED 1 else s) with ho := none }

/-- After the aborts of a domain: a warm unit reset flushes what is left, once every domain has posted its own. -/
def warmCheck (s : State) : State := if s.pwr.warm = 1 ∧ warmPosted s then warmFlush s else s

/-- The last unit-level reset (Table 4-9). -/
def noteCause (s : State) (src : Nat) : State := satAdd (setf s F.RST_CAUSE_LAST src) F.RST_CAUSE_COUNT 1

/-- A chain of states in which the unit is between the start of S1 and user mode. -/
def starting (s : State) : Bool :=
  match s.pwr.stage with
  | .run => false
  | .idleEntry => false
  | .idle => false
  | .idleExit => false
  | .committed => false
  | .sleepEntry => false
  | .sleep => false
  | _ => true

/-- A warm unit reset is requested (R110): it joins one that has not reset its domains yet, and is ignored during a warm restart, or
once a SLEEP_COMMIT has been taken. -/
def warmReset (s : State) (src : Nat) : State :=
  if s.pwr.warm ≠ 0 ∨ s.pwr.stage = .hold ∨ s.pwr.stage = .s0 ∨ s.pwr.stage = .grantWait ∨ s.pwr.stage = .committed
      ∨ s.pwr.stage = .sleepEntry ∨ s.pwr.stage = .sleep then s
  else
    let s := noteCause (logEvent s 31 6 src 0 0) src
    let s := setPwr s { s.pwr with warm := 1, warmSrc := src }
    let s := warmReach.foldl (fun t d => if (dom t d).powered then requestReset t d src (rstDrain t) true else t) s
    warmCheck s

/-! ### Reset of one domain (R108, R121, R120) -/

/-- A reset of the base logic's other registers than those of the RST block (Table 23-4): what shows pins and the banks' power stays as it
is. -/
def resetBase (s : State) : State :=
  let g := getf s F.PWR_STAT_GRANT_IN
  let o := getf s F.PWR_STAT_GRANT_OUT
  let h := getf s F.PWR_STAT_SELF_GRANT
  let s := resetRegs s (fun c => c == .base)
  let s := setf (setf (setf s F.PWR_STAT_GRANT_IN g) F.PWR_STAT_GRANT_OUT o) F.PWR_STAT_SELF_GRANT h
  let s := (List.range 8).foldl showBank s
  { s with hif := { s.hif with hostWide := {}, kiteWide := {} } }

/-- A reset of D0: the link goes down, and what PERST_N shows stays. -/
def resetHif (s : State) : State :=
  let p := getf s F.HIF_STAT_PERST
  setf (hifReset (resetRegs (linkDrop s) (fun c => c == .dom 0))) F.HIF_STAT_PERST p

/-- A reset of D1: contexts, rounds and ledger; the books of a chain port that stays UP stay (R333, log entry 23). -/
def resetCtl (s : State) : State :=
  let books := (List.range 8).filter (fun i => portUp s (i / 4))
  let vals := books.map (fun i => rd s (R.LDG_CHN i))
  let s := resetRegs s (fun c => c == .dom 1)
  let s := (books.zip vals).foldl (fun t p => wr t (R.LDG_CHN p.1) p.2) s
  { s with ctxs := [], rounds := [], ledger := {}, ops := [], enu := {},
           hif := { s.hif with reads := [], winReads := [], devSent := 0 } }

/-- A reset of a chain port. -/
def resetPort (s : State) (p : Nat) : State :=
  setPort (resetRegs (portDown s p 0) (fun c => c == .dom (2 + p))) p {}

/-- A reset of D5 (R414): every FIFO is empty; one that dropped items while fenced keeps its marker. -/
def resetSfq (s : State) : State :=
  let fs := s.fifos.filterMap (fun q => match q.2.gap with
    | some g => if g.fenced then some (q.1, ({ gap := some g, booked := 1 } : Fifo)) else none
    | none => none)
  xoffPins (resetRegs { s with fifos := fs } (fun c => c == .dom 5))

/-- A reset of D6: the links go to OFF. -/
def resetHar (s : State) : State := { resetRegs s (fun c => c == .dom 6) with har := { pins := s.har.pins } }

/-- A reset of D11 (R108, R43): user I/O is high-impedance and the latches are lost; what the register block shows of regions, islands
and pace stays. -/
def resetFab (s : State) : State :=
  let st := rd s R.FAB_STAT
  let lk := rd s R.FAB_ISL_LOCK
  let pace := (List.range 16).map (fun r => (getf s (F.FAB_PACE_NOW r), getf s (F.FAB_PACE_VALID r)))
  let s := resetRegs s (fun c => c == .dom 11)
  let s := wr (wr s R.FAB_STAT st) R.FAB_ISL_LOCK lk
  let s := (List.range 16).foldl (fun t r =>
    let q := pace.getD r (0, 0)
    setf (setf t (F.FAB_PACE_NOW r) q.1) (F.FAB_PACE_VALID r) q.2) s
  let s := if s.pwr.stage = .idle ∨ s.fab.image = [] then s else setf s F.FAB_STAT_STATE 1
  userIo (setFab s { s.fab with seqPh := 0, trim := 0, steps := [], alerts := 0, trimCtl := 0x011440A1#32, gates := [], statics := [], wins := [] }) false

/-- A reset of a bank in place: its contents and its power stay (Table 4-1). -/
def resetBank (s : State) (n : Nat) : State :=
  let s := resetRegs (marchAbort s n) (fun c => c == .dom (12 + n))
  showBank (setBank s n { bank s n with bWait := 0, waiting := none }) n

/-- A reset of D20: Kite, the mailbox and the watchdog. -/
def resetKite (s : State) : State := { resetRegs s (fun c => c == .dom 20) with kite := {} }

/-- A reset of D21 (R108, R538): the planes' marks and what shows the fabric's source stay; a depot request is cut off, and a scrambler
command ends with RESULT 6. -/
def resetCfg (s : State) : State :=
  let st := rd s R.CFG_STAT
  let log := rd s R.CFG_BOOT_LOG
  let seq := rd s R.CFG_SEQ_STAT
  let scr := isSet s F.SCR_STAT_BUSY
  let lost := (match s.dep.jobs with | j :: _ => if 1 ≤ j.st then [j.sector] else [] | [] => [])
    ++ (match s.dep.bg with | some j => if 1 ≤ j.st then [j.sector] else [] | none => [])
  let s := lost.foldl flashLose s
  let s := match s.load.round with | some r => roundAborted s r 7 | none => s
  let s := resetRegs s (fun c => c == .dom 21)
  let s := wr (wr (wr s R.CFG_STAT st) R.CFG_BOOT_LOG log) R.CFG_SEQ_STAT seq
  let s := if s.ho.isNone then setf (setf s F.CFG_STAT_OP 0) F.CFG_STAT_OP_PLANE 0 else s
  let s := if scr then setf s F.SCR_STAT_RESULT 6 else s
  let s := { s with dep := {}, stage := none, load := {} }
  (List.range 2).foldl (fun t p => setValid t p (planeValid t p)) s

/-- A reset of D23. -/
def resetMon (s : State) : State := { resetRegs (bstAbort s) (fun c => c == .dom 23) with tlm := { ops := s.tlm.ops } }

/-- The engines of Table 21-7 that lie in a domain: their own counts of operations go with its reset. -/
def enginesOf (d : Nat) : List Nat :=
  match d with
  | 4 => [0]
  | 6 => [1]
  | 7 => [2]
  | 8 => [3]
  | 9 => [4]
  | 11 => [5]
  | 21 => [6, 7]
  | 22 => [8]
  | 23 => [10]
  | 10 => [11]
  | _ => []

/-- What a reset does to a domain's registers and blocks. -/
def resetBlocks (s : State) (d : Nat) : State :=
  let plain (t : State) : State := resetRegs t (fun c => c == .dom d)
  if d = 0 then resetHif s
  else if d = 1 then resetCtl s
  else if d = 2 ∨ d = 3 then resetPort s (d - 2)
  else if d = 5 then resetSfq s
  else if d = 6 then resetHar s
  else if d = 7 then vbuReset (plain s)
  else if d = 8 then plain (ospReset s)
  else if d = 9 then { plain (nvAbandon s) with nva := {} }
  else if d = 10 then plain (tbuStop s)
  else if d = 11 then resetFab s
  else if 12 ≤ d ∧ d < 20 then resetBank s (d - 12)
  else if d = 20 then resetKite s
  else if d = 21 then resetCfg s
  else if d = 22 then plain (tagReset s)
  else if d = 23 then resetMon s
  else plain s

/-- The bursts that the shims of a reset domain's masters completed (R121). -/
def logMidbursts (s : State) (d src : Nat) : List Midburst → State
  | [] => s
  | b :: t =>
    logMidbursts (satAdd (logEvent s d 4 src b.master (b.taken % 2 ^ 16 + b.rest % 2 ^ 16 * 2 ^ 16)) F.RST_MIDBURST_COUNT 1) d src t

/-- The reset of a fenced domain is asserted. -/
def assertReset (s : State) (d : Nat) (mids : List Midburst) : State :=
  let src := (dom s d).resetBy.getD 5
  let s := logMidbursts (logEvent (satAdd s (F.RST_DOM_STAT_RESETS d) 1) d 2 src 0 0) d src mids
  let s := setDomBit (setDom s d { dom s d with fence := .reset }) R.RST_DOM_INRST d true
  let s := resetBlocks s d
  { s with tlm := { s.tlm with ops := s.tlm.ops.filter (fun p => !(enginesOf d).contains p.1) } }

/-- The domains of a warm unit reset have all been reset: the base logic follows, and the unit restarts from S1 (R110). -/
def warmRestart (s : State) : State :=
  let s := (regions (getf s F.FAB_STAT_RGN_ON)).foldl regionOff (resetBase s)
  let s := warmReach.foldl (fun t d =>
    setDom t d { dom t d with holders := [t.pwr.warmSrc], pend := none, pendHold := none }) s
  let s := setPwr { s with boot := {}, stage := none, ho := none }
    { s.pwr with warm := 2, targetPend := none, begun := s.clk, waitFrom := s.clk }
  enterS1 s

/-- Every domain of the reach is in reset. -/
def warmAllReset (s : State) : Bool := warmReach.all (fun d => !(dom s d).powered || (dom s d).fence == .reset)

/-! ### Release and readiness (R107, R120) -/

/-- D11 leaves its reset: the start-up steps run, or the domain is ready once it reports so (R108); after BIST the image is read out
again (R573a). -/
def releaseFab (s : State) (bist : Bool) : State :=
  let s := if bist then
      (if isSet s F.CFG_STAT_SRC_PLANE then
        (regions (getf s F.FAB_STAT_RGN_ON)).foldl initialTrim (setFab s { s.fab with image := planeImage s (getf s F.CFG_STAT_ACTIVE) })
      else (regions (getf s F.FAB_STAT_RGN_ON)).foldl regionOff (clearFabric s))
    else s
  if s.fab.image = [] ∨ s.pwr.stage = .idle then s else seqBegin s 3

/-- A domain's reset is released. -/
def releaseReset (s : State) (d : Nat) : State :=
  let bist := (dom s d).resetBy == some 9
  let s := releaseHook (releaseDom s d) d
  if d = 11 then releaseFab s bist else s

/-- What a domain does once it is in service again. -/
def inService (s : State) (d : Nat) : State :=
  let s := if d = 2 ∨ d = 3 then portStart s (d - 2)
    else if d = 5 then
      (if inReset s 5 then s else xoffPins (vbuDrain ((s.fifos.map (·.1)).foldl placeGap s)))
    else if d = 6 then (List.range 4).foldl harLinkStart s
    else if d = 8 then rxEval s
    else s
  hoAborted (bstFinish s)

/-! ### The commands -/

/-- The source code of a register write by a master (Table 4-8). -/
def srcOf (m : Master) : Nat := match m with | .host => 5 | .kite => 6

/-- RST_DOM_REQ (R113, R112, R119): the domains written are fenced together; D1 is excluded. -/
def execRstDomReq (m : Master) (mask : BitVec 24) (s : State) : Host.Outcome State Fault Refusal :=
  done ((List.range 24).foldl (fun t d => if mask.getLsbD d && d ≠ 1 then askReset t d (srcOf m) else t) s)

/-- RST_DOM_HOLD (R113, R112): a bit set holds the domain fenced, a bit cleared releases its hold. -/
def execRstDomHold (m : Master) (mask : BitVec 24) (s : State) : Host.Outcome State Fault Refusal :=
  let old := (rd s R.RST_DOM_HOLD).toNat
  let new := clearBit mask.toNat 1
  let s := wr s R.RST_DOM_HOLD (w32 new)
  done ((List.range 24).foldl (fun t d =>
    if bit new d && !bit old d then askHold t d (srcOf m)
    else if !bit new d && bit old d then inService (tryReopen (setDom t d { dom t d with pendHold := none }) d) d
    else t) s)

/-- DRAIN_END (R113, R108): the window has elapsed or nothing is inside; a program of the array finishes first. -/
def execDrainEnd (d : Fin 24) (s : State) : Host.Outcome State Fault Refusal :=
  let x := dom s d.val
  if x.fence ≠ .drain ∨ (d.val = 9 ∧ nvProgramming s) then done s
  else done (setDom s d.val { x with fence := .drained })

/-- The power step that a fence of its bank was closed for begins (R237). -/
def bankAct (s : State) (d : Nat) : State :=
  if 12 ≤ d ∧ d < 20 then
    let b := bank s (d - 12)
    if b.forOp.isSome && b.st ≠ 3 && (dom s d).holders.contains 7 then beginStep s (d - 12) b.target b.forOp else s
  else s

/-- ABORTS_POSTED (R113): then the holder acts. -/
def execAbortsPosted (d : Fin 24) (accs : List Nat) (s : State) : Host.Outcome State Fault Refusal :=
  if (dom s d.val).fence ≠ .drained then done s
  else
    let s := postAborts s d.val accs
    let s := hoAborted (bstAborted (bankAct s d.val) d.val)
    let s := tryReopen s d.val
    let s := if fenced s d.val then s else inService s d.val
    done (warmCheck s)

/-- RESET_ASSERT (R120, R121): the domain is reset within its fence; in a warm unit reset only once every domain has posted its
aborts (R110), and not while BIST patterns run in it (R574). -/
def execResetAssert (d : Fin 24) (mids : List Midburst) (s : State) : Host.Outcome State Fault Refusal :=
  let x := dom s d.val
  if x.fence ≠ .aborted ∨ x.resetBy = none ∨ (s.pwr.warm = 1 ∧ warmPosted s = false)
      ∨ (bstPhase s = 3 ∧ s.bst.dom = d.val) then done s
  else
    let s := assertReset s d.val mids
    done (if s.pwr.warm = 1 ∧ warmAllReset s then warmRestart s else s)

/-- RESET_RELEASE (R120): 1 to 2 µs later; D0 once PERST_N is high. In a warm restart each domain is released by the step of the start
that powers its blocks (R110). -/
def execResetRelease (d : Fin 24) (s : State) : Host.Outcome State Fault Refusal :=
  if (dom s d.val).fence ≠ .reset ∨ (d.val = 0 ∧ isSet s F.HIF_STAT_PERST = false)
      ∨ (s.pwr.warm ≠ 0 ∧ warmReach.contains d.val) then done s
  else done (releaseReset s d.val)

/-- DOMAIN_READY (R107): the domain's blocks can accept requests; D11 with an image is ready when its start-up sequence is (R154). -/
def execDomainReady (d : Fin 24) (s : State) : Host.Outcome State Fault Refusal :=
  let x := dom s d.val
  if x.powered = false ∨ inReset s d.val = false ∨ ¬(x.fence = .open ∨ x.fence = .released)
      ∨ (d.val = 0 ∧ isSet s F.HIF_STAT_PERST = false)
      ∨ (d.val = 11 ∧ s.fab.image ≠ [] ∧ s.pwr.stage ≠ .idle) then done s
  else done (inService (domainReady s d.val) d.val)

/-- READY_TIMEOUT (R107, R119): the domain stays fenced. -/
def execReadyTimeout (d : Fin 24) (s : State) : Host.Outcome State Fault Refusal :=
  let x := dom s d.val
  if x.powered = false ∨ inReset s d.val = false ∨ ¬(x.fence = .open ∨ x.fence = .released) then done s
  else
    let s := setDomBit s R.RST_DOM_RDYTO d.val true
    done (alarmUpdate (logEvent s d.val 8 (x.resetBy.getD x.src) 0 0))

/-- RST_UNIT (R110, Table 4-12). -/
def execRstUnit (m : Master) (key : Nat) (s : State) : Host.Outcome State Fault Refusal :=
  done (if key = 0xC0DE then warmReset s (srcOf m) else s)

/-- WATCHDOG_EXPIRY (R552, R115): D20 alone with zero drain, or on escalation a warm unit reset. -/
def execWatchdogExpiry (s : State) : Host.Outcome State Fault Refusal :=
  if inReset s 20 || !isSet s F.KIT_WDT_CTL_EN || !s.kite.run || ((dom s 20).resetBy.isSome) then done s
  else
    let again := match s.pwr.wdtLast with | some t => decide (s.clk - t < 1000000000) | none => false
    let esc := isSet s F.RST_CTL_WDT_ESC && again
    let s := logEvent (setPwr s { s.pwr with wdtLast := some s.clk }) 20 7 4 (b2n esc) 0
    done (if esc then warmReset s 4 else requestReset s 20 4 0 true)

/-- RESET_CMD (R111, R359): taken by the unit it is for, with KEY 0xC0DE: honoured while CHN_RST_EN is 1 and outside START, else logged with
its sender. -/
def takeReset (s : State) (m : Msg) : State :=
  if extractBits (mw m 1) 0 16 ≠ 0xC0DE then s
  else if isSet s F.RST_CTL_CHN_RST_EN && !starting s && s.pwr.warm ≠ 2 then warmReset s 3
  else logEvent s 31 9 3 m.src 0

/-- RESET_CMD. -/
def execResetCmd (p : Fin 2) (m : Msg) (s : State) : Host.Outcome State Fault Refusal :=
  if m.dst = toAll then onFlood s m (fun t => takeReset t m)
  else onDst s p.val m (fun t => takeReset t m)

end Sys2Proof.Machine
end

