-- ==== Sys2Proof/Machine/Power.lean ====
section
/-! DEFINITION. The unit-level resets that act at once, the loss and return of rails, IDLE and SLEEP
(03_power_and_staged_start.md, 04_reset_domains_and_quiesce.md, 13_chain_topology_tunnel_and_sleep.md). -/
namespace Sys2Proof.Machine

/-! ### What a unit-level reset without a fence cuts off -/

/-- A running operation of the array is cut off (R224): an erase leaves its sectors marked incomplete, a program leaves one line of its
unit undefined, the lines before it programmed. -/
def nvCut (s : State) : State :=
  let mark (t : State) (x : Option NvOp) : State := match x with
    | some y => if 3 ≤ y.code then { t with nvIncomplete := (nvSectors y).foldl (fun l k => insertNat k l) t.nvIncomplete } else t
    | none => t
  let s := match s.nva.run with
    | some x =>
      if 3 ≤ x.code ∨ x.latch ∨ x.data = [] then s
      else
        let k := (freeVal s).toNat % (x.data.length / 16)
        let r := programLines (drawn s) x.addr (x.data.take (16 * k)) 17
        drawn (nvPutBytes r.1 (x.addr + 16 * k) ((List.range 16).map (fun i => Config.undefByte 5 r.1.free i)))
    | none => s
  mark (mark s s.nva.run) s.nva.below

/-- The depot's flash work is cut off: the sector that is being erased or programmed is undefined. -/
def flashCut (s : State) : State :=
  let f (t : State) (j : Option Job) : State := match j with
    | some j => if 1 ≤ j.st then flashLose t j.sector else t
    | none => t
  f (f s s.dep.jobs.head?) s.dep.bg

/-- Non-volatile stores whose update is cut off (R568, R224, R538). -/
def cutStores (s : State) : State := flashCut (nvCut (lcyCut s))

/-- Everything that is neither a register nor kept: contexts, operations, the ledger, the blocks' own state. What is the environment's
stays: the levels of input pins, TI11's clock, the tag's field side. -/
def dropAll (s : State) : State :=
  { s with ctxs := [], ops := [], rounds := [], ledger := {}, doms := [], fifos := [], fab := {}, boot := {}, stage := none, ho := none,
           hif := { nextRead := s.hif.nextRead, nextWtag := s.hif.nextWtag }, dep := {}, load := {}, kite := {}, tlm := {}, nva := {},
           ports := [], enu := {}, har := { pins := s.har.pins }, vbu := {}, osp := {}, bst := {}, tag := (tagReset s).tag, tbu := (tbuStop s).tbu }

/-- A unit-level reset without a fence: the registers of the classes that `p` names return to their reset values, what shows pins, the
banks' power and the planes' marks stays. -/
def unitReset (s : State) (p : RegClass → Bool) : State :=
  let s := cutStores s
  let perst := getf s F.HIF_STAT_PERST
  let gin := getf s F.PWR_STAT_GRANT_IN
  let boot := getf s F.CFG_STAT_BOOT
  let valid := getf s F.CFG_STAT_VALID
  let s := resetRegs (dropAll s) p
  let s := setf (setf s F.HIF_STAT_PERST perst) F.PWR_STAT_GRANT_IN gin
  let s := setf (setf s F.CFG_STAT_BOOT boot) F.CFG_STAT_VALID valid
  (List.range 8).foldl showBank s

/-- A power step of a bank that is under way goes to its end, and a march is cut off, when a reset acts at once (R631, Table 9-8). -/
def bankCut (s : State) (n : Nat) : State :=
  let s := marchAbort s n
  let s := if (bank s n).st = 3 then stepDone s n else s
  setBank s n { st := (bank s n).st, sensed := (bank s n).sensed }

/-- Bank `n` loses its power, and its contents with it. -/
def bankOff (s : State) (n : Nat) : State := loseBank (setBank s n {}) n

/-- Classes of Table 23-4: RST_N and SLEEP exit; a brown-out of VCC or VCCAUX; power-on reset. -/
def classRstN : RegClass → Bool
  | .base => true
  | .baseRst => true
  | .dom _ => true
  | _ => false

def classBo : RegClass → Bool
  | .log => true
  | c => classRstN c

def classPor : RegClass → Bool
  | .owl => true
  | c => classBo c

/-- The required rails are good (R81): VCC, VCCAUX, VCCOWL, VCCSER, VCCSERA and VCCIO0. -/
def railsGood (s : State) : Bool := decide (s.pwr.railsOff &&& 0x11F = 0)

/-- User I/O goes high-impedance. -/
def ioOff (s : State) : State := userIo s false

/-- The power-good event (R84), where its conditions hold: S0 begins. -/
def powerGood (s : State) : State :=
  if s.pwr.stage = .hold ∧ s.pwr.rstN = false ∧ railsGood s then setPwr s { s.pwr with stage := .s0, begun := s.clk } else s

/-- The power staging after a reset that holds the unit in S0. -/
def holdPwr (s : State) (due : Option Nat) (byp : Option Nat) : State :=
  setPwr s { stage := .hold, rstN := s.pwr.rstN, railsOff := s.pwr.railsOff, logDue := due, byp := byp }

/-- BYP_N is driven low: from S0 until G4 is powered (R351). -/
def bypLow (s : State) : State := emit s (.pin .bypN 0)

/-! ### Power-on reset, RST_N (R109, R631) -/

/-- Everything is reset and every bank loses its contents. -/
def porAll (s : State) : State :=
  let s := (List.range 8).foldl bankOff s
  { unitReset s classPor with log := [], tap := {} }

/-- POWER_ON_RESET (R109): VCCOWL rises. -/
def execPowerOnReset (s : State) : Host.Outcome State Fault Refusal :=
  let s := porAll s
  let s := setPwr s { s.pwr with railsOff := clearBit s.pwr.railsOff 2 }
  done (holdPwr (bypLow (driveGrant (ioOff s) 0)) none (some 0))

/-- POWER_GOOD_EVENT (R84). -/
def execPowerGoodEvent (s : State) : Host.Outcome State Fault Refusal := done (powerGood s)

/-- RST_N_FALL (R109, R631): at once, with no completions; banks keep their power and contents, but for the words that a write was
changing (`torn`). In OFF nothing is there to reset. -/
def execRstNFall (torn : List (Fin 524288)) (s : State) : Host.Outcome State Fault Refusal :=
  if s.pwr.rstN then done s
  else if bit s.pwr.railsOff 2 then done (setPwr s { s.pwr with rstN := true })
  else
    let s := (List.range 8).foldl bankCut s
    let s := torn.foldl (fun t w => drawn (loseBytes t (16 * w.val) 16)) s
    let s := noteCause (unitReset s classRstN) 1
    let s := setPwr s { s.pwr with rstN := true }
    done (holdPwr (bypLow (driveGrant (ioOff s) 0)) (some 1) (some 0))

/-- RST_N_RISE (Table 3-9): the unit restarts as after power good. -/
def execRstNRise (s : State) : Host.Outcome State Fault Refusal := done (powerGood (setPwr s { s.pwr with rstN := false }))

/-! ### Rails (R85, R104) -/

/-- A rail falls below its falling threshold; one that must be good for the start stops a start in S0. -/
def railFalls (s : State) (b : Nat) : State :=
  let s := setPwr s { s.pwr with railsOff := setBit s.pwr.railsOff b }
  if s.pwr.stage = .s0 ∧ railsGood s = false then setPwr s { s.pwr with stage := .hold } else s

/-- A rail is removed in SLEEP: banks in RETAIN lose their contents where VCC or VCCAUX goes, and the event is set (R104). -/
def railOffAsleep (s : State) (b : Nat) : State :=
  let kept := (List.range 8).filter (fun n => (bank s n).st == 2)
  let s := railFalls s b
  if kept = [] ∨ 2 ≤ b then s
  else raise ((List.range 8).foldl showBank (kept.foldl bankOff s)) F.PWR_EVT_RAIL_OFF_SLEEP

/-- BROWN_OUT_VCC (R85): VCC, or VCCAUX where `aux`. -/
def execBrownOutVcc (aux : Bool) (s : State) : Host.Outcome State Fault Refusal :=
  if bit s.pwr.railsOff 2 ∨ bit s.pwr.railsOff (b2n aux) then done (setPwr s { s.pwr with railsOff := setBit s.pwr.railsOff (b2n aux) })
  else if s.pwr.stage = .sleep then done (railOffAsleep s (b2n aux))
  else
    let s := raise (railFalls s (b2n aux)) (if aux then F.PWR_EVT_BO_AUX else F.PWR_EVT_BO_VCC)
    let s := (List.range 8).foldl bankOff s
    let s := noteCause { unitReset s classBo with log := [] } 0xB
    done (holdPwr (driveGrant (ioOff s) 0) (some 0xB) none)

/-- BROWN_OUT_VCCOWL (R85): the power-on reset of the whole unit; OFF until VCCOWL rises. -/
def execBrownOutVccowl (s : State) : Host.Outcome State Fault Refusal :=
  if bit s.pwr.railsOff 2 then done s
  else
    let s := porAll s
    done (holdPwr (ioOff (setPwr s { s.pwr with railsOff := setBit s.pwr.railsOff 2 })) none none)

/-- The PCI Express link and both chain ports drop (R85, R277). -/
def serDrops (s : State) : State :=
  let s := if (dom s 0).powered then requestReset (linkDrop s) 0 2 0 false else s
  [0, 1].foldl (fun t p => if getf t (F.CHN_PSTAT_STATE p) = 0 then t else portDown t p 1) s

/-- BROWN_OUT_SER (R85): VCCSER, or VCCSERA where `sera`. -/
def execBrownOutSer (sera : Bool) (s : State) : Host.Outcome State Fault Refusal :=
  let b := 3 + b2n sera
  if bit s.pwr.railsOff b ∨ bit s.pwr.railsOff 2 then done (setPwr s { s.pwr with railsOff := setBit s.pwr.railsOff b })
  else if s.pwr.stage = .sleep then done (railFalls s b)
  else done (alarmUpdate (raise (serDrops (railFalls s b)) F.PWR_EVT_BO_SER))

/-- BROWN_OUT_IO (R85): no reset. -/
def execBrownOutIo (n : Fin 8) (s : State) : Host.Outcome State Fault Refusal :=
  let b := 8 + n.val
  if bit s.pwr.railsOff b ∨ bit s.pwr.railsOff 2 then done (setPwr s { s.pwr with railsOff := setBit s.pwr.railsOff b })
  else if s.pwr.stage = .sleep then done (railFalls s b)
  else done (alarmUpdate (raise (railFalls s b) F.PWR_EVT_BO_IO))

/-- The bit of a rail in PWR_RAIL_STAT. -/
def railBit : Rail → Nat
  | .vcc => 0
  | .vccaux => 1
  | .vccser => 3
  | .vccsera => 4
  | .vccio n => 8 + n % 8

/-- RAIL_RETURN (R85, R104): a unit held in S0 starts once every required rail is good; ports that wait in BLOCK train again. -/
def execRailReturn (r : Rail) (s : State) : Host.Outcome State Fault Refusal :=
  let s := setPwr s { s.pwr with railsOff := clearBit s.pwr.railsOff (railBit r) }
  let s := if decide (r = .vccser ∨ r = .vccsera) && !bit s.pwr.railsOff 3 && !bit s.pwr.railsOff 4 then
      [0, 1].foldl (fun t p => if getf t (F.CHN_PSTAT_STATE p) = 1 then sendTrain t p else t) s
    else s
  done (powerGood s)

/-! ### IDLE (R99 to R101) -/

/-- PWR_CTL_IDLE (Table 3-9): TARGET is written to IDLE; during a transition, a start or a handover it takes effect at its end. -/
def execPwrCtlIdle (s : State) : Host.Outcome State Fault Refusal :=
  let s := setf s F.PWR_CTL_TARGET 1
  match s.pwr.stage with
  | .run => done (if s.ho.isSome then setPwr s { s.pwr with targetPend := some 1 } else beginIdle s)
  | .idle => done (setPwr s { s.pwr with targetPend := none })
  | .idleEntry => done (setPwr s { s.pwr with targetPend := none })
  | .sleep => done s
  | _ => done (setPwr s { s.pwr with targetPend := some 1 })

/-- PWR_CTL_RUN (Table 3-9): TARGET is written to RUN. -/
def execPwrCtlRun (s : State) : Host.Outcome State Fault Refusal :=
  let s := setf s F.PWR_CTL_TARGET 0
  match s.pwr.stage with
  | .idle => done (if s.ho.isSome then setPwr s { s.pwr with targetPend := some 0 } else beginRun s)
  | .idleEntry => done (setPwr s { s.pwr with targetPend := some 0 })
  | _ => done (setPwr s { s.pwr with targetPend := none })

/-- IDLE_ENTRY_DONE (Table 3-9, Table 3-10): the regions are powered down; the latches are lost. -/
def execIdleEntryDone (s : State) : Host.Outcome State Fault Refusal :=
  if s.pwr.stage ≠ .idleEntry ∨ fenceDone s 11 = false then done s
  else
    let s := (regions (getf s F.FAB_STAT_RGN_ON)).foldl regionOff s
    let s := setf (setFab s { s.fab with gates := [], trim := 0, steps := [] }) F.FAB_STAT_STATE 4
    let s := setf (setf (setPwr s { s.pwr with stage := .idle }) F.PWR_STAT_STATE 2) F.PWR_STAT_BUSY 0
    done (idleNext (ioOff s))

/-- IDLE_EXIT_DONE (Table 3-9): the start-up steps are complete; the fabric's fence reopens. -/
def execIdleExitDone (s : State) : Host.Outcome State Fault Refusal :=
  if s.pwr.stage ≠ .idleExit ∨ s.pwr.wq ≠ [] ∨ s.fab.seqPh ≠ 0 ∨ isSet s F.CFG_SEQ_STAT_DONE = false then done s
  else
    let s := setf (setf (setPwr s { s.pwr with stage := .run }) F.PWR_STAT_STATE 1) F.PWR_STAT_BUSY 0
    let s := inService (releaseHolder (trimBegin s) 11 7) 11
    done (if s.pwr.targetPend = some 1 then beginIdle s else s)

/-! ### SLEEP (R102 to R105, R362 to R365) -/

/-- SLEEP_ENTRY (R362): 100 µs after SLEEP_COMMIT every domain is fenced, and PWRGRANT_OUT goes low (R95). -/
def execSleepEntry (s : State) : Host.Outcome State Fault Refusal :=
  if s.pwr.stage ≠ .committed then done s
  else
    let s := (List.range 24).foldl (fun t d => if (dom t d).powered then closeFence t d 7 (rstDrain t) else t) s
    done (driveGrant (setPwr s { s.pwr with stage := .sleepEntry }) 0)

/-- Every powered domain has posted its aborts or is in reset. -/
def allFenced (s : State) : Bool :=
  (List.range 24).all (fun d => !(dom s d).powered || fenceDone s d || (dom s d).fence == .reset || (dom s d).fence == .released)

/-- The unit leaves SLEEP (Table 3-9, R364): the wake tone starts, and the unit waits for its grant once the required rails are
good. -/
def leaveSleep (s : State) : State :=
  let s := setPwr s { s.pwr with begun := s.clk, waitFrom := s.clk, wakeLate := false, tone := true }
  let s := emit s (.wakeTone 1)
  if railsGood s then
    let s := setf (setf (setPwr s { s.pwr with stage := .grantWait }) F.PWR_STAT_SELF_GRANT (b2n s.pwr.headEn)) F.CFG_STAT_CFGSRC s.pwr.cfgsrc
    if s.pwr.headEn then enterS1 s else s
  else setPwr s { s.pwr with stage := .hold }

/-- SLEEP_ENTRY_DONE (Table 3-9, Table 3-10): every domain but the Owl island is powered down; banks go to RETAIN or OFF. -/
def execSleepEntryDone (s : State) : Host.Outcome State Fault Refusal :=
  if s.pwr.stage ≠ .sleepEntry ∨ allFenced s = false then done s
  else
    let ret := getf s F.PWR_SLEEP_BANKS_RET
    let s := (List.range 8).foldl bankCut s
    let s := (List.range 8).foldl (fun t n =>
      if bit ret n && (bank t n).st ≠ 0 then setBank t n { bank t n with st := 2 } else bankOff t n) s
    let p := s.pwr
    let s := ioOff (unitReset s classRstN)
    let s := setPwr s { stage := .sleep, headEn := p.headEn, cfgsrc := p.cfgsrc, railsOff := p.railsOff, byp := p.byp, wakeLate := p.wakeLate }
    done (if s.pwr.wakeLate then leaveSleep s else s)

/-- An enabled wake source `k` of PWR_WAKE_SRC fires (R103, R361, R364): in SLEEP the unit leaves it; between the commit and the end of the
entry it is latched with LATE; a unit that has voted READY sends NAK_WAKE. -/
def wakeFires (s : State) (k : Nat) : State :=
  if !bit (rd s R.PWR_WAKE_EN).toNat k then s
  else
    let latch (t : State) : State := wr t R.PWR_WAKE_SRC (rd t R.PWR_WAKE_SRC ||| w32 (2 ^ k))
    match s.pwr.stage with
    | .sleep => leaveSleep (latch s)
    | .committed => setPwr (raise (latch s) F.PWR_WAKE_SRC_LATE) { s.pwr with wakeLate := true }
    | .sleepEntry => setPwr (raise (latch s) F.PWR_WAKE_SRC_LATE) { s.pwr with wakeLate := true }
    | _ => if s.enu.voted then nakWake (latch s) else s

/-- WAKE_IN_PIN (R103). -/
def execWakeInPin (s : State) : Host.Outcome State Fault Refusal := done (wakeFires s 0)

/-- WAKE_TIMER_EXPIRY (R103, Table 3-16): an interval of 0 never fires; it runs from the entry to SLEEP. -/
def execWakeTimerExpiry (s : State) : Host.Outcome State Fault Refusal :=
  if getf s F.PWR_WAKE_TIMER_MS = 0 ∨ s.pwr.stage ≠ .sleep then done s else done (wakeFires s 1)

/-- CHAIN_WAKE_DETECT (R364). -/
def execChainWakeDetect (s : State) : Host.Outcome State Fault Refusal := done (wakeFires s 2)

/-- WAKE_PERST (R103, R104): a rising edge of PERST_N. -/
def execWakePerst (s : State) : Host.Outcome State Fault Refusal := done (wakeFires (setf s F.HIF_STAT_PERST 1) 3)

/-- WAKE_TONE_DONE (R364): 2 ms after its start. -/
def execWakeToneDone (s : State) : Host.Outcome State Fault Refusal :=
  if s.pwr.tone then done (emit (setPwr s { s.pwr with tone := false }) (.wakeTone 0)) else done s

/-- The Owl's wake detectors are armed (R362). -/
def armed (s : State) : Bool := decide (s.pwr.stage = .committed ∨ s.pwr.stage = .sleepEntry ∨ s.pwr.stage = .sleep)

/-- The Owl decodes CAN_RXDn: EN is 1, and the pin's bank, VCCIO2, is powered (R439, Table 24-6). -/
def swkOn (s : State) (n : Nat) : Bool := armed s && isSet s (F.CAN_SWK_CTL_EN n) && !bit s.pwr.railsOff 10

/-- The frame is a wake-up frame of controller `n` (R439, R434). -/
def isWuf (s : State) (n id : Nat) (ide : Bool) (dlc : Nat) (data : List Byte) : Bool :=
  let w := w32 (if ide then id % 2 ^ 29 else id % 2 ^ 11) ||| w32 (2 ^ 29 * b2n ide)
  let mask := wordsBytes [rd s (R.CAN_SWK_DATA_LO n), rd s (R.CAN_SWK_DATA_HI n)]
  decide ((w ^^^ rd s (R.CAN_SWK_ID n)) &&& rd s (R.CAN_SWK_MASK n) &&& 0x3FFFFFFF#32 = 0#32)
  && decide (dlc = getf s (F.CAN_SWK_CTL_SWK_DLC n))
  && (!isSet s (F.CAN_SWK_CTL_DATA_EN n) || ((data.take (min 8 dlc)).zip mask).any (fun p => decide (p.1 &&& p.2 ≠ 0#8)))

/-- CAN_WUF (R439): a valid classic data frame is decoded; it counts down the frame errors, and a wake-up frame wakes the unit. -/
def execCanWuf (n : Fin 16) (id : Fin 536870912) (ide : Bool) (dlc : Fin 16) (data : List Byte) (s : State) :
    Host.Outcome State Fault Refusal :=
  if swkOn s n.val = false then done s
  else
    let s := setf s (F.CAN_SWK_SRC_FEC_CNT n.val) (getf s (F.CAN_SWK_SRC_FEC_CNT n.val) - 1)
    if isWuf s n.val id.val ide dlc.val data then done (wakeFires (raise s (F.CAN_SWK_SRC_WUF n.val)) 4) else done s

/-- FEC_WAKE (R439): a classic frame is decoded, erroneous where `bad`; the counter that passes FEC_MAX wakes the unit where FEC_WAKE
is 1. -/
def execFecWake (n : Fin 16) (bad : Bool) (s : State) : Host.Outcome State Fault Refusal :=
  if swkOn s n.val = false then done s
  else
    let c := getf s (F.CAN_SWK_SRC_FEC_CNT n.val)
    if bad then
      let s := setf s (F.CAN_SWK_SRC_FEC_CNT n.val) (min 255 (c + 1))
      if getf s (F.CAN_SWK_CTL_FEC_MAX n.val) < c + 1 ∧ isSet s (F.CAN_SWK_CTL_FEC_WAKE n.val) then
        done (wakeFires (raise s (F.CAN_SWK_SRC_FEC n.val)) 4)
      else done s
    else done (setf s (F.CAN_SWK_SRC_FEC_CNT n.val) (c - 1))

/-- LIN_WAKE_PULSE (R444): LIN_RXDm is dominant for 150 µs; its bank is VCCIO3. -/
def execLinWakePulse (m : Fin 16) (s : State) : Host.Outcome State Fault Refusal :=
  if armed s ∧ isSet s (F.LIN_SWK_EN m.val) ∧ bit s.pwr.railsOff 11 = false then done (wakeFires s 5) else done s

end Sys2Proof.Machine
end

