-- ==== Sys2Proof/Machine/Monitor.lean ====
section
/-! DEFINITION. Telemetry and the test alarm (21_kite_core_and_telemetry.md, R557 to R562). -/
namespace Sys2Proof.Machine

def setTlm (s : State) (t : Tlm) : State := { s with tlm := t }

/-- Channels 0 to 7 are signed temperatures, the others unsigned voltages (Table 21-6). -/
def chVal (c v : Nat) : Int := if c < 8 then signed 16 v else ((v % 2 ^ 16 : Nat) : Int)

/-- Channel `c` of a scan: NOW, MIN and MAX (R558). -/
def scanChannel (s : State) (c v : Nat) : State :=
  let lo := if s.tlm.fresh || decide (chVal c v < chVal c (getf s (F.TLM_CH_NOW_MIN c))) then v else getf s (F.TLM_CH_NOW_MIN c)
  let hi := if s.tlm.fresh || decide (chVal c (getf s (F.TLM_CH_MAX_MAX c)) < chVal c v) then v else getf s (F.TLM_CH_MAX_MAX c)
  setf (setf (setf s (F.TLM_CH_NOW_NOW c) v) (F.TLM_CH_NOW_MIN c) lo) (F.TLM_CH_MAX_MAX c) hi

/-- The channels that a test holds for, as a mask. -/
def chMask (p : Nat → Bool) : Nat := (List.range 21).foldl (fun m c => if p c then setBit m c else m) 0

/-- TLM_PACE_MIN (R560): the lowest NOW among the regions with VALID set, the lowest region of equal ones. -/
def paceMin (s : State) : State :=
  let l := (List.range 16).filter (fun r => isSet s (F.FAB_PACE_VALID r))
  let best := l.foldl (fun b r => match b with
    | none => some (getf s (F.FAB_PACE_NOW r), r)
    | some q => if getf s (F.FAB_PACE_NOW r) < q.1 then some (getf s (F.FAB_PACE_NOW r), r) else some q) (none : Option (Nat × Nat))
  match best with
  | some (n, r) => wr s R.TLM_PACE_MIN (w32 (n + r * 2 ^ 16 + 2 ^ 31))
  | none => wr s R.TLM_PACE_MIN 0#32

/-- TLM_SCAN (R557 to R560): the channels' samples in channel order, and BUSY_US of each engine as it has counted it. -/
def execTlmScan (samples busy : List Nat) (s : State) : Host.Outcome State Fault Refusal :=
  if away s 23 || !isSet s F.TLM_CTL_EN then done s
  else
    let s := (List.range 21).foldl (fun t c => scanChannel t c (samples.getD c 0)) s
    let now (c : Nat) : Int := chVal c (getf s (F.TLM_CH_NOW_NOW c))
    let above := chMask (fun c => decide (chVal c (getf s (F.TLM_CH_THR_HI c)) < now c))
    let below := chMask (fun c => decide (now c < chVal c (getf s (F.TLM_CH_THR_LO c))))
    let crossed := decide (above ||| s.tlm.above ≠ s.tlm.above) || decide (below ||| s.tlm.below ≠ s.tlm.below)
    let s := setTlm s { s.tlm with fresh := false, above := above, below := below }
    let s := setf s F.TLM_EVT_HI_CH (getf s F.TLM_EVT_HI_CH ||| above)
    let s := setf s F.TLM_EVT_LO_CH (getf s F.TLM_EVT_LO_CH ||| below)
    let s := if crossed then kitIrq s 5 else s
    let s := paceMin s
    let s := (List.range 12).foldl (fun t e =>
      wr (wr t (R.TLM_ACT_OPS e) (w32 ((sget e t.tlm.ops).getD 0))) (R.TLM_ACT_BUSY e) (w32 (busy.getD e 0))) s
    let hot := isSet s F.TLM_CTL_THERM_ACT && (List.range 8).any (fun c => decide (signed 16 (getf s F.TLM_THERM_CRIT) ≤ now c))
    let s := if hot then raise s F.TLM_THERM_THERM_TRIP else s
    done (alarmUpdate (if hot then nextOf s (execPwrCtlIdle s) else s))

/-- A log record (Table 21-8). -/
def logRecord (s : State) : List Byte :=
  let chan (l : List Nat) : List Byte := l.flatMap (fun c => leBytes 2 (getf s (F.TLM_CH_NOW_NOW c)))
  leBytes 4 (stampNs s).toNat ++ leBytes 4 (stampS s).toNat ++ leBytes 4 s.tlm.seq
    ++ leBytes 4 ((rd s R.TLM_PACE_MIN).toNat % 2 ^ 12 + getf s F.TLM_PACE_MIN_REGION * 2 ^ 16)
    ++ chan (List.range 8) ++ chan ((List.range 13).map (fun i => 8 + i)) ++ leBytes 6 0

/-- ENTRIES of the log ring; 0 acts as 1. -/
def logEntries (s : State) : Nat := max 1 (min 16384 (getf s F.TLM_LOG_CFG_ENTRIES))

/-- The log goes on to its next index. -/
def logNext (s : State) : State :=
  setTlm (setf s F.TLM_LOG_IDX_IDX ((getf s F.TLM_LOG_IDX_IDX + 1) % logEntries s)) { s.tlm with recd := none }

/-- TLM_LOG_DUE (R561): an incomplete record is abandoned and counted; the next one is made. -/
def execTlmLogDue (s : State) : Host.Outcome State Fault Refusal :=
  if away s 23 || !isSet s F.TLM_CTL_LOG_EN then done s
  else
    let s := if s.tlm.recd.isSome then satAdd (logNext s) F.TLM_LOG_DROP_COUNT 1 else s
    done (setTlm s { s.tlm with recd := some (0, logRecord s), seq := (s.tlm.seq + 1) % 2 ^ 32 })

/-- TLM_LOG_BEAT (R561): one beat in an idle turn of its bank; a bank that is not ON or is fenced takes none. -/
def execTlmLogBeat (s : State) : Host.Outcome State Fault Refusal :=
  match s.tlm.recd with
  | none => done s
  | some (k, bs) =>
    let base := (rd s R.TLM_LOG_BASE).toNat / 64 * 64
    let a := base + 64 * getf s F.TLM_LOG_IDX_IDX + 16 * k
    if away s 23 ∨ 0x800000 ≤ a ∨ a / 0x100000 ≠ base / 0x100000 ∨ (accessErr s a true).isSome then done s
    else
      let s := putBytes s a ((bs.drop (16 * k)).take 16)
      if k = 3 then done (logNext s) else done (setTlm s { s.tlm with recd := some (k + 1, bs) })

/-- FORCE as written. -/
def alarmForce (s : State) (on : Bool) : State := alarmUpdate (setf s F.DEV_ALARM_TEST_FORCE (b2n on))

/-- ALARM_TEST (R562). -/
def execAlarmTest (on : Bool) (s : State) : Host.Outcome State Fault Refusal := done (alarmForce s on)

end Sys2Proof.Machine
end

