-- ==== Sys2Proof/Machine/SfqCmd.lean ====
section
/-! DEFINITION. The commands of the stream FIFOs (15_stream_fifos.md). -/
namespace Sys2Proof.Machine

/-- The fabric port of FIFO `n` works: its region is powered, and the fabric is configured and in service (R411). -/
def fabPort (s : State) (n : Nat) : Bool :=
  fabLive s && regionIsOn s (n / 4)

/-- A push as the shared operations take it. -/
def pushArg (p : Option PushIn) : Option (Nat × Item) := p.map (fun x => (x.prod, ⟨x.data, x.tag % 16⟩))

/-- The push of a turn, but for a fabric push that its port does not make. -/
def pushNow (s : State) (n : Nat) (p : Option PushIn) : Option (Nat × Item) :=
  (pushArg p).filter (fun x => decide (x.1 ≠ 0x40) || fabPort s n)

/-- A producer pushes an item (R401, R402, R403). -/
def execFifoPush (n : Fin 64) (p : PushIn) (s : State) : Host.Outcome State Fault Refusal :=
  match pushNow s n (some p) with
  | some (prod, it) => done (push s n prod it)
  | none => done s

/-- The consumer pops the oldest item (R405): the fabric through its port, or the mover of the armed receive operation. -/
def takeFifoPop (n : Fin 64) (fabric : Bool) (p : Option PushIn) (s : State) : Host.Outcome State Fault Refusal :=
  let q := pushNow s n p
  let pushOnly (s : State) : State := match q with | some (prod, it) => push s n prod it | none => s
  if fabric then
    if popServed s n 2 && fabPort s n then
      let r := popTurn s n q
      done (harRelease (match r.2 with | some it => emit r.1 (.fabItem n it.data it.tag) | none => r.1))
    else done (pushOnly s)
  else
    match (if popServed s n 1 then armOf s n else none) with
    | some o => done (harRelease (rxEval (rxPop s n o q)))
    | none => done (pushOnly s)

/-- A read of the pop window's first word (R412), and the word it returns. -/
def popW0 (s : State) (n : Nat) (q : Option (Nat × Item)) : State × W32 :=
  let pushOnly (s : State) : State := match q with | some (prod, it) => push s n prod it | none => s
  if away s 5 then (pushOnly s, 0#32)
  else if getf s (F.SFQ_CFG_CONS n) ≠ 3 then (pushOnly s, 0#32)
  else if (fifo s n).removing then (pushOnly (setf s (F.SFQ_POP_TAG_VALID n) 0), 0#32)
  else
    let r := popTurn s n q
    match r.2 with
    | none => (setf r.1 (F.SFQ_POP_TAG_VALID n) 0, 0#32)
    | some it =>
      let w := bytesWords 4 it.data
      let s := [1, 2, 3].foldl (fun t j => wr t (R.SFQ_POP_W n j) (w.getD j 0#32)) r.1
      (wr s (R.SFQ_POP_TAG n) (w32 (it.tag % 16 + 2 ^ 8)), w.getD 0 0#32)

/-- SFQ_POP_W0 (R412). -/
def execSfqPopW0 (n : Fin 64) (p : Option PushIn) (s : State) : Host.Outcome State Fault Refusal :=
  let r := popW0 s n (pushNow s n p)
  done (harRelease (emit r.1 (.regData (R.SFQ_POP_W n 0) r.2)))

/-- DISCARD_PKT (R407): by a register write, or from the fabric port where CONS names the fabric. -/
def execDiscardPkt (n : Fin 64) (fabric : Bool) (s : State) : Host.Outcome State Fault Refusal :=
  if fabric && !(decide (getf s (F.SFQ_CFG_CONS n) = 2) && fabPort s n) then done s else done (discardPkt s n)

/-- One turn of a removal (R407). -/
def execDiscardRemoval (n : Fin 64) (p : Option PushIn) (s : State) : Host.Outcome State Fault Refusal :=
  done (harRelease (removalTurn s n (pushNow s n p)))

/-- FLUSH (R408). -/
def execFlush (n : Fin 64) (s : State) : Host.Outcome State Fault Refusal :=
  if away s 5 then done s else done (harRelease (flushFifo s n))

/-- A write of SFQ_CFGn (R400): EN, FLUSH and DISCARD_PKT always act, the rest only while EN is 0. -/
def sfqCfg (s : State) (n : Nat) (v : W32) : State :=
  let old := rd s (R.SFQ_CFG n)
  let m : W32 := 0x1FFF00#32
  let s :=
    if extractBits old 0 1 = 0 then wr s (R.SFQ_CFG n) (v &&& 0x1FFF01#32)
    else
      let s := if old &&& m = v &&& m then s else raise s F.SFQ_EVT_CFG_DENIED
      wr s (R.SFQ_CFG n) ((old &&& m) ||| (v &&& 1#32))
  let s := if extractBits v 2 1 = 1 then discardPkt s n else s
  if extractBits v 1 1 = 1 then flushFifo s n else s

/-- A write of SFQ_CFGn. -/
def execSfqCfgWrite (n : Fin 64) (data : W32) (s : State) : Host.Outcome State Fault Refusal :=
  if away s 5 then done s else done (harRelease (sfqCfg s n data))

/-- A write of SFQ_WMn (R409): XOFF is judged again. -/
def sfqWm (s : State) (n : Nat) (v : W32) : State := judge (wr s (R.SFQ_WM n) (v &&& 0x07FF07FF#32)) n

/-- A write of SFQ_WMn. -/
def execSfqWmWrite (n : Fin 64) (data : W32) (s : State) : Host.Outcome State Fault Refusal :=
  if away s 5 then done s else done (harRelease (sfqWm s n data))

/-- A write of SFQ_PIN (R410): the pins follow in the next turn. -/
def sfqPin (s : State) (v : W32) : State := xoffPins (wr s R.SFQ_PIN (v &&& 0xBFBFBFBF#32))

/-- A write of SFQ_PIN. -/
def execSfqPinWrite (data : W32) (s : State) : Host.Outcome State Fault Refusal :=
  if away s 5 then done s else done (sfqPin s data)

/-- A write of SFQ_XCTXn (R400). -/
def sfqXctx (s : State) (n : Nat) (v : W32) : State :=
  let w := v &&& 0x3FF#32
  if isSet s (F.SFQ_CFG_EN n) then (if rd s (R.SFQ_XCTX n) = w then s else raise s F.SFQ_EVT_CFG_DENIED)
  else wr s (R.SFQ_XCTX n) w

/-- A write of SFQ_XCTXn. -/
def execSfqXctxWrite (n : Fin 64) (data : W32) (s : State) : Host.Outcome State Fault Refusal :=
  if away s 5 then done s else done (sfqXctx s n data)

end Sys2Proof.Machine
end

