-- ==== Sys2Proof/Machine/RegWrite.lean ====
section
/-! DEFINITION. The register space as a master meets it at the REG arbiter: reads with their latches, writes with what each
register does (R9 to R14, R39, R43), and the commands over them. -/
namespace Sys2Proof.Machine

/-! ### Reads -/

/-- The high words that a read of the low word at offset `a` latches (R14, R503, R214, R582). -/
def highWords (a : Nat) : List Nat :=
  if a = R.TBU_NOW_NS then [R.TBU_NOW_SLO, R.TBU_NOW_SHI]
  else if [R.DEV_DIE_LO, R.NVA_TOTAL_LO, R.TAG_UID_LO, R.TBU_NOW_SLO, R.TBU_PPS_TS_NS, R.KIT_MTIME 0, R.KIT_MTIMECMP 0, R.BST_SIG 0,
      R.BST_GOLD 0].contains a then [a + 4]
  else if a / 0x10000 = 0x08 ∧ [0x08, 0x10, 0x18].contains (a % 64) then [a + 4]
  else if a / 0x10000 = 0x12 ∧ 0x100 ≤ a % 0x10000 ∧ a % 0x10000 < 0x200 ∧ a % 32 = 8 then [a + 4]
  else if a / 0x10000 = 0x0B ∧ 0x400 ≤ a % 0x10000 ∧ a % 0x10000 < 0x800 ∧ a % 16 = 0 then [a + 4]
  else []

/-- The offset of SFQ_POPn_W0, as its FIFO. -/
def popOffset (a : Nat) : Option Nat :=
  if 0xD1000 ≤ a ∧ a < 0xD1800 ∧ a % 32 = 0 then some ((a - 0xD1000) / 32) else none

/-- A read of register space below the user fabric window by a master: the state after it and the word (R10, R14, R43, R412). A high word
latched by its own low read is returned once; a low read latches its high words. -/
def regRead (s : State) (m : Master) (a : Nat) : State × W32 :=
  match popOffset a with
  | some n => let r := popW0 s n none; (harRelease r.1, r.2)
  | none =>
    let x := wideOf s m
    match sget a x.rd with
    | some w => (setWide s m { x with rd := sdel a x.rd }, w)
    | none => (setWide s m { x with rd := (highWords a).foldl (fun l h => sput h (readWord s h) l) x.rd }, readWord s a)

/-! ### Writes -/

/-- A context's word at `a` as written under R258: outside DISABLED only the bits of `live` change, and a write that would change another
bit of `all` sets CFG_LOCKED. -/
def ctxWord (s : State) (c a : Nat) (v live all : W32) : State :=
  let old := rd s a
  if getf s (F.CTX_STAT_STATE c) = stDisabled then wr s a ((old &&& ~~~all) ||| (v &&& all))
  else
    let s := if (old ^^^ v) &&& all &&& ~~~live = 0#32 then s else raise s (F.CTX_EVT_CFG_LOCKED c)
    wr s a ((old &&& ~~~live) ||| (v &&& live))

/-- A base or write-back address of a context as its high word at `hi` is written (R14, R258). -/
def ctxPair (s : State) (m : Master) (c hi : Nat) (v : W32) : State :=
  let lo := (heldLow s m hi).getD (rd s (hi - 4))
  let s := dropLow s m hi
  if getf s (F.CTX_STAT_STATE c) = stDisabled then wr (wr s (hi - 4) lo) hi v
  else if rd s (hi - 4) = lo ∧ rd s hi = v then s
  else raise s (F.CTX_EVT_CFG_LOCKED c)

/-- CTX_CTL (R258, R261, R262): OWNER only from Kite, then EN. -/
def ctxCtl (s : State) (m : Master) (c : Nat) (v : W32) : State :=
  let all : W32 := match m with | .kite => 0x011F1FFE#32 | .host => 0x011F1FFC#32
  let s := if m = .host ∧ extractBits v 1 1 = 1 then raise s (F.CTX_EVT_CFG_LOCKED c) else s
  let s := ctxWord s c (R.CTX_CTL c) v 0xFC#32 all
  if h : c < 1024 then
    nextOf s (if extractBits v 0 1 = 1 then execContextEnable m ⟨c, h⟩ s else execContextDisable m ⟨c, h⟩ s)
  else s

/-- A write of word `o` of a context's entry (Table 10-5). -/
def ctxStore (s : State) (m : Master) (c o : Nat) (v : W32) : State :=
  let a := R.CTX_CTL c + o
  if ctxDenied s m c then raise s (F.CTX_EVT_CFG_LOCKED c)
  else match o with
    | 0x00 => ctxCtl s m c v
    | 0x08 | 0x10 | 0x18 => holdLow s m (a + 4) v
    | 0x0C | 0x14 | 0x1C => ctxPair s m c a v
    | 0x20 => ctxWord s c a v 0#32 0x1FFF#32
    | 0x24 => ctxWord s c a v 0#32 0x7F7F#32
    | 0x28 => ctxWord s c a v 0x1FF#32 0x01FF01FF#32
    | 0x2C => ctxWord s c a v 0xFFFF0000#32 0xFFFF07FF#32
    | 0x3C => plainWrite s a v
    | _ => s

/-- A write of the NVA block (R206, R207, R212). -/
def nvaStore (s : State) (m : Master) (a : Nat) (v : W32) : State :=
  let o := a % 0x10000
  let keep (s : State) : State := if nvForeign s m then satAdd s F.NVA_EVT_CNT_CONFLICT 1 else wr s a v
  if 0x100 ≤ o ∧ o < 0x300 then
    if o < 0x200 then nextOf s (execNvaWpSet (Fin.ofNat 64 ((o - 0x100) / 4)) v s)
    else nextOf s (execNvaWpClr (Fin.ofNat 64 ((o - 0x200) / 4)) v s)
  else match o with
    | 0x08 => nextOf s (execNvaKey m v s)
    | 0x0C => nextOf s (execNvaCmd m v s)
    | 0x10 => nextOf s (match s.nva.cmd with
      | 3 => execEraseSector m v s
      | 4 => execEraseBlock m v s
      | 5 => execSuspend m v s
      | 6 => execResume m v s
      | 7 => execReadCounter m v s
      | 1 => execProgramPage m v s
      | 2 => execProgramPage m v s
      | c => done (nvTrig m R.NVA_ADDR v c s (fun s => nvDeny s 2)))
    | 0x14 | 0x20 | 0x24 | 0x28 => keep s
    | 0x2C => nextOf s (execProgramLine m v s)
    | 0x50 => if extractBits v 0 1 = 1 then nextOf s (execNvaWpLock s) else s
    | _ => plainWrite s a v

/-- A write of the BNK block (R248, Table 9-8). -/
def bnkStore (s : State) (a : Nat) (v : W32) : State :=
  let n := a % 0x10000 / 0x100
  if a % 0x10000 < 0x800 then
    match a % 0x100 with
    | 0x14 =>
      let s := if extractBits v 0 1 = 1 then wr s (R.BNK_COLL n) 0#32 else s
      let s := if extractBits v 1 1 = 1 then
          setBank (wr (wr s (R.BNK_STARVE n) 0#32) (R.BNK_MAXWAIT n) 0#32) n { bank s n with bWait := 0 } else s
      if extractBits v 2 1 = 1 then
        (List.range 4).foldl (fun t j => wr t (R.BNK_MBIT n j) 0#32) (wr (wr s (R.BNK_MRES n) 0#32) (R.BNK_MADDR n) 0#32)
      else s
    | 0x60 =>
      nextOf s (execBnkFuseProg (Fin.ofNat 8 n) (Fin.ofNat 8 (extractBits v 0 3)) (Fin.ofNat 8 (extractBits v 3 3)) (Fin.ofNat 128 (extractBits v 6 7))
        (extractBits v 16 16) s)
    | _ => plainWrite s a v
  else s

/-- A write of the HIF block (R265, R266, R273, Table 10-11). -/
def hifStore (s : State) (m : Master) (a : Nat) (v : W32) : State :=
  let o := a % 0x10000
  if 0x8000 ≤ o ∧ o < 0xC200 ∧ o % 16 = 12 then
    if extractBits v 0 1 = 1 then wr s a (rd s a ||| 1#32) else nextOf s (execMsixUnmask (Fin.ofNat 1056 ((o - 0x8000) / 16)) s)
  else match o with
    | 0x08 =>
      let c := Fin.ofNat 1024 (extractBits v 16 10)
      nextOf s (if extractBits v 28 1 = 0 then execDoorbellSqPi m false c (extractBits v 0 16) s
        else execDoorbellCqCi m false c (extractBits v 0 16) s)
    | 0x78 =>
      if extractBits v 0 1 = 1 then
        setf ([0x60, 0x64, 0x68, 0x6C, 0x70].foldl (fun t k => wr t (0x70000 + k) 0#32) s) F.HIF_LINK_EVT_RETRAINS 0
      else s
    | _ => plainWrite s a v

/-- A write of the CHN block (R319, R339, Table 12-9). -/
def chnStore (s : State) (a : Nat) (v : W32) : State :=
  let p := a % 0x10000 / 0x100
  if p < 2 then
    match a % 0x100 with
    | 0x00 =>
      let en := decide (extractBits v 0 1 = 1)
      let s := if en != isSet s (F.CHN_PCTL_EN p) then nextOf s (execChnPortEn (Fin.ofNat 2 p) en s) else s
      if extractBits v 1 1 = 1 then nextOf s (execChnRetrain (Fin.ofNat 2 p) s) else s
    | 0x20 => nextOf s (execChnPrbs (Fin.ofNat 2 p) (decide (extractBits v 0 1 = 1)) (decide (extractBits v 1 1 = 1)) 0 0 s)
    | 0x30 =>
      if extractBits v 0 1 = 1 then
        [R.CHN_CNT0 p, R.CHN_CNT1 p, R.CHN_CNT2 p, R.CHN_CNT3 p, R.CHN_LOST p].foldl (fun t k => wr t k 0#32) s
      else s
    | _ => plainWrite s a v
  else s

/-- A write of the ENU block (R348, R350, R351, R359 to R361). -/
def enuStore (s : State) (m : Master) (a : Nat) (v : W32) : State :=
  let o := a % 0x10000
  if 0x400 ≤ o ∧ o < 0x800 then
    if o % 16 < 12 then nextOf s (execEnuTabWrite m (Fin.ofNat 64 ((o - 0x400) / 16)) (Fin.ofNat 3 (o % 16 / 4)) v s) else s
  else match o with
    | 0x04 =>
      let t := plainWrite s a v
      let t := nextOf t (execEnuBypass (decide (extractBits v 0 1 = 1)) t)
      if extractBits v 2 1 = 1 then nextOf t (execWalk t) else t
    | 0x20 =>
      nextOf s (execEnuRstCmd (Fin.ofNat 64 (extractBits v 0 6)) (decide (extractBits v 6 1 = 1)) (extractBits v 16 16) s)
    | 0x24 =>
      let s := if extractBits v 0 1 = 1 then nextOf s (execPropose s) else s
      if extractBits v 1 1 = 1 then nextOf s (execCancel s) else s
    | 0x38 => if extractBits v 0 1 = 1 then wr (wr s R.ENU_CNT 0#32) R.ENU_CNT2 0#32 else s
    | _ => plainWrite s a v

/-- A write of the HAR block (R378 to R388): a board configuration is sent to every link again. -/
def harStore (s : State) (a : Nat) (v : W32) : State :=
  let o := a % 0x10000
  if 0x10 ≤ o ∧ o < 0x20 then writeLctl s ((o - 0x10) / 4) v
  else if 0x40 ≤ o ∧ o < 0x50 then
    let t := plainWrite s a v
    { t with har := { t.har with dirty := 15 } }
  else harRelease (plainWrite s a v)

/-- A write of the SFQ block (R400, R407 to R410). -/
def sfqStore (s : State) (a : Nat) (v : W32) : State :=
  let o := a % 0x10000
  if o < 0x800 then
    let n := o / 32
    match o % 32 with
    | 0x00 => harRelease (sfqCfg s n v)
    | 0x04 => harRelease (sfqWm s n v)
    | 0x14 => sfqXctx s n v
    | _ => s
  else match o with
    | 0x800 => sfqPin s v
    | 0x818 =>
      if extractBits v 0 1 = 1 then
        (List.range 64).foldl (fun t n => wr (wr (wr t (R.SFQ_CNT n) 0#32) (R.SFQ_CNT2 n) 0#32) (R.SFQ_MAX n) 0#32) s
      else s
    | _ => plainWrite s a v

/-- A write of SCR_CMD (R536): its function with its key. -/
def scrStore (s : State) (v : W32) : State :=
  let key := extractBits v 16 16
  let r := Fin.ofNat 8 (extractBits v 4 3)
  let k := Fin.ofNat 16 (extractBits v 8 4)
  match extractBits v 0 3 with
  | 1 => nextOf s (execLoadKey key k s)
  | 2 => nextOf s (execClearKey key k s)
  | 3 => nextOf s (execBind key r k s)
  | 4 => nextOf s (execRekey key r k s)
  | 5 => nextOf s (execErase key r (decide (extractBits v 3 1 = 1)) s)
  | _ => s

/-- A write of a mailbox channel's data word `a` (R553): by its sender alone, and not while FULL. -/
def mbxWord (s : State) (a : Nat) (v : W32) (mine : Bool) (full drops : Fld) : State :=
  if !mine then s else if isSet s full then satAdd s drops 1 else wr s a v

/-- A write of the KIT block (R546, R550, R552, R553, Table 21-9). -/
def kitStore (s : State) (m : Master) (a : Nat) (v : W32) : State :=
  let o := a % 0x10000
  let on (b : Nat) : Bool := decide (extractBits v b 1 = 1)
  if 0xC0 ≤ o ∧ o < 0x100 then mbxWord s a v (m == .host) F.KIT_MBX_H2K_CTL_FULL F.KIT_MBX_H2K_CTL_DROPS
  else if 0x140 ≤ o ∧ o < 0x180 then mbxWord s a v (m == .kite) F.KIT_MBX_K2H_CTL_FULL F.KIT_MBX_K2H_CTL_DROPS
  else match o with
    | 0x10 =>
      let s := if isSet s F.KIT_WDT_CTL_EN then s else setf s F.KIT_WDT_CTL_PERIOD (extractBits v 16 16)
      if on 0 && m == .kite then nextOf s (execWdtEnable s) else s
    | 0x14 => nextOf s (execWdtService m (extractBits v 0 16) s)
    | 0x20 =>
      let t := plainWrite s a v
      if on 4 then nextOf t (execFwCheckStart (Fin.ofNat 4 (extractBits v 0 2)) t) else t
    | 0x48 => nextOf s (execKitMsip (on 0) s)
    | 0x4C => if m = .kite then plainWrite s a v else s
    | 0x58 => holdLow s m (a + 4) v
    | 0x5C =>
      let lo := (heldLow s m a).getD (rd s (a - 4))
      wr (wr (dropLow s m a) (a - 4) lo) a v
    | 0x80 =>
      if m = .host then (if on 0 then nextOf s (execMbxH2kSend s) else s)
      else if on 1 then nextOf s (execMbxH2kDone s) else s
    | 0x100 =>
      if m = .kite then (if on 0 then nextOf s (execMbxK2hSend s) else s)
      else if on 1 then nextOf s (execMbxK2hDone s) else s
    | _ => plainWrite s a v

/-- A write of the RST block (R108 to R113, Table 4-16). -/
def rstStore (s : State) (m : Master) (a : Nat) (v : W32) : State :=
  match a % 0x10000 with
  | 0x0C => nextOf s (execRstUnit m (extractBits v 0 16) s)
  | 0x10 => nextOf s (execRstDomReq m (v.setWidth 24) s)
  | 0x14 => nextOf s (execRstDomHold m (v.setWidth 24) s)
  | 0x28 =>
    let s := (List.range 24).foldl (fun t d => if bit v.toNat d then wr t (R.RST_DOM_STAT d) 0#32 else t) s
    if bit v.toNat 24 then wr s R.RST_MIDBURST 0#32 else s
  | _ => plainWrite s a v

/-- What a register of block `a / 0x10000` does with a write that reaches it. -/
def blockStore (s : State) (m : Master) (a : Nat) (v : W32) : State :=
  match a / 0x10000 with
  | 0x00 => if a = R.DEV_ALARM_TEST then alarmForce s (decide (extractBits v 0 1 = 1)) else plainWrite s a v
  | 0x01 =>
    if a = R.PWR_CTL then nextOf s (if extractBits v 0 1 = 1 then execPwrCtlIdle s else execPwrCtlRun s) else plainWrite s a v
  | 0x02 => rstStore s m a v
  | 0x03 =>
    if a = R.CFG_BOOT_SEL then nextOf s (execCfgBootSel (extractBits v 16 16) (Fin.ofNat 2 (extractBits v 0 1)) s) else plainWrite s a v
  | 0x05 => nvaStore s m a v
  | 0x06 => bnkStore s a v
  | 0x07 => hifStore s m a v
  | 0x08 => ctxStore s m (a % 0x10000 / 64) (a % 64) v
  | 0x09 =>
    (match a % 0x10000 with
    | 0x04 => nextOf s (execLdgCtlWrite v s)
    | 0x10 => nextOf s (execLdgBufLend (extractBits v 0 7) (extractBits v 8 7) s)
    | 0x2C => nextOf s (execLdgRelease (extractBits v 0 16) s)
    | _ => plainWrite s a v)
  | 0x0A => chnStore s a v
  | 0x0B => enuStore s m a v
  | 0x0C => harStore s a v
  | 0x0D => sfqStore s a v
  | 0x0E => vbuWrite s a v
  | 0x0F =>
    if a = R.OSP_CTL then
      let t := plainWrite s a v
      ospRxEn t (decide (extractBits v 0 1 = 1))
    else if a = R.OSP_CNT_CLR then (if extractBits v 0 1 = 1 then wr (wr s R.OSP_CNT 0#32) R.OSP_CNT2 0#32 else s)
    else plainWrite s a v
  | 0x10 => if a = R.TBU_CTL then nextOf s (execTbuCtlWrite v s) else plainWrite s a v
  | 0x11 => if a = R.TAG_LOCK_CMD then tagLockCmd s v else plainWrite s a v
  | 0x12 =>
    if a = R.SCR_CMD then scrStore s v
    else if R.SCR_KEYW 0 ≤ a ∧ a ≤ R.SCR_KEYW 3 then wr s a v
    else plainWrite s a v
  | 0x13 => kitStore s m a v
  | 0x14 => if a = R.LCY_ADVANCE then lcyAdvance s (extractBits v 0 3) (extractBits v 16 16) else plainWrite s a v
  | 0x16 =>
    if a = R.TLM_CTL then
      let t := plainWrite s a v
      if extractBits v 3 1 = 1 then setTlm t { t.tlm with fresh := true } else t
    else plainWrite s a v
  | 0x17 =>
    if a = R.FAB_PACE_CLR then nextOf s (execFabPaceClr (v.setWidth 16) s)
    else if a = R.FAB_GATE_OVF then (if extractBits v 31 1 = 1 then nextOf s (execFabGateOvfClear s) else s)
    else plainWrite s a v
  | _ => plainWrite s a v

/-- A whole-word write of register space below the user fabric window by a master: ignored where the block is away (R43) or the offset is
unused (R10); the alarm follows its sources (R562). -/
def regStore (s : State) (m : Master) (a : Nat) (v : W32) : State :=
  if 0x180000 ≤ a ∨ regAway s a then s else alarmUpdate (blockStore s m a v)

/-! ### The commands -/

/-- A member takes no register write from its own PCI Express link (R345). -/
def localDeny (s : State) (m : Master) : Bool := isMember s && m == .host

/-- Count a request that R345 turns away. -/
def denied (s : State) : State := satAdd s F.ENU_CNT2_LOCAL_DENY 1

/-- REG_WRITE (R9, R10, R11, R43, R345): a write through BAR0 or by Kite; byte enables not all set discard it. -/
def execRegWrite (m : Master) (a : Fin 0x80000) (v : W32) (be : BitVec 4) (s : State) : Host.Outcome State Fault Refusal :=
  if localDeny s m then done (denied s)
  else if be ≠ 0xF#4 then done s
  else done (regStore s m (4 * a.val) v)

/-- WIDE_LOW_READ (R14, R503): a read of a register by a master, word index `a`; a low word latches its high words, and a high word
returns what its low word latched. -/
def execWideLowRead (m : Master) (a : Fin 0x80000) (s : State) : Host.Outcome State Fault Refusal :=
  let r := regRead s m (4 * a.val)
  done (emit r.1 (.regData (4 * a.val) r.2))

/-- WIDE_LOW_WRITE (R14): a write of a low word, held for the master until it writes the high word. -/
def execWideLowWrite (m : Master) (a : Fin 0x80000) (v : W32) (s : State) : Host.Outcome State Fault Refusal :=
  if localDeny s m then done (denied s) else done (regStore s m (4 * a.val) v)

/-- WIDE_HIGH_WRITE (R14): a write of a high word applies it with the low word that the master holds. -/
def execWideHighWrite (m : Master) (a : Fin 0x80000) (v : W32) (s : State) : Host.Outcome State Fault Refusal :=
  if localDeny s m then done (denied s) else done (regStore s m (4 * a.val) v)

end Sys2Proof.Machine
end

