-- ==== Sys2Proof/Machine/MoverReg.lean ====
section
/-! DEFINITION. The commands whose movers may write in register space: what they bring about, and then the register writes that
they make (R31, R9); and a mover's own reads and writes as the host's BAR4 accesses make them (R254 to R256, R357). -/
namespace Sys2Proof.Machine

/-! ### Register space and the user fabric window by words -/

/-- A write of a whole word anywhere in register space; one in the user fabric window waits for its personality (R77). -/
def spaceStore (s : State) (m : Master) (a : Nat) (v : W32) : State :=
  if a < 0x200000 then regStore s m a v
  else winAccess s ((a - 0x200000) / 0x10000) ((a - 0x200000) % 0x10000) (some v) none

/-- The register writes that a mover has due, in order, with the host's rights (log entry 31). -/
def moverStores (s : State) : State :=
  let l := s.regDue
  l.foldl (fun t x => spaceStore t .host x.1 x.2) { s with regDue := [], regPart := none }

/-- COPY (R283). -/
def execCopy (tag : Nat) (s : State) : Host.Outcome State Fault Refusal := done (moverStores (nextOf s (takeCopy tag s)))

/-- FILL (R283). -/
def execFill (tag : Nat) (s : State) : Host.Outcome State Fault Refusal := done (moverStores (nextOf s (takeFill tag s)))

/-- HOST_READ_COMPLETION (R25, R251, R354). -/
def execHostReadCompletion (id : Nat) (e : ReadEnd) (s : State) : Host.Outcome State Fault Refusal :=
  done (moverStores (nextOf s (takeHostReadCompletion id e s)))

/-- NVA_READ (R222, R223). -/
def execNvaRead (tag : Nat) (corr : List Nat) (bad : Option Nat) (s : State) : Host.Outcome State Fault Refusal :=
  done (moverStores (nextOf s (takeNvaRead tag corr bad s)))

/-- TAG_READ (R517). -/
def execTagRead (tag : Nat) (s : State) : Host.Outcome State Fault Refusal := done (moverStores (nextOf s (takeTagRead tag s)))

/-- FIFO_POP (R405). -/
def execFifoPop (n : Fin 64) (fabric : Bool) (p : Option PushIn) (s : State) : Host.Outcome State Fault Refusal :=
  done (moverStores (nextOf s (takeFifoPop n fabric p s)))

/-- FLASH_READ_DONE (R187, R188). -/
def execFlashReadDone (got : Option (List Byte)) (s : State) : Host.Outcome State Fault Refusal :=
  done (moverStores (nextOf s (takeFlashReadDone got s)))

end Sys2Proof.Machine
end

