-- ==== Sys2Proof/Machine/HostBar.lean ====
section
/-! DEFINITION. Host accesses through the BAR4 apertures, here and on a member (R254 to R256, R345, R357). -/
namespace Sys2Proof.Machine

/-! ### Accesses to D-space of this unit -/

/-- A read of a word in the user fabric window (R41, R77): `ans` holds the words with which the personality answers in turn; where it
answers nothing in 100 µs the read returns 0xFFFF_FFFF. -/
def winRead (s : State) (a : Nat) (ans : List W32) : State × W32 × List W32 :=
  let k := (a - 0x200000) / 0x10000
  if !winServed s k then (satAdd s F.FAB_WIN_CNT_COUNT 1, 0#32, ans)
  else
    let s := emit s (.socketWin k ((a - 0x200000) % 0x10000) none)
    match ans with
    | [] => (winErr s k, 0xFFFFFFFF#32, [])
    | v :: t => (s, v, t)

/-- A read of a word anywhere in register space. -/
def spaceRead (s : State) (m : Master) (a : Nat) (ans : List W32) : State × W32 × List W32 :=
  if a < 0x200000 then let r := regRead s m a; (r.1, r.2, ans) else winRead s a ans

/-- A D-space address lies in register space. -/
def inRegs (a : Nat) : Bool := decide (0x40000000 ≤ a) && decide (a < 0x40400000)

/-- Read `n` bytes at D-space address `a`, a word's part at a time: the state, the bytes, and the refusal. -/
def spaceBytes (m : Master) : Nat → State → Nat → Nat → List W32 → State × List Byte × Option Err
  | 0, s, _, _, _ => (s, [], none)
  | fuel + 1, s, a, n, ans =>
    if n = 0 then (s, [], none)
    else
      let k := min n (4 - a % 4)
      if inRegs a then
        let r := spaceRead s m ((a - 0x40000000) / 4 * 4) ans
        let q := spaceBytes m fuel r.1 (a + k) (n - k) r.2.2
        (q.1, ((leBytes 4 r.2.1.toNat).drop (a % 4)).take k ++ q.2.1, q.2.2)
      else
        let r := readBytes s k a
        match r.2 with
        | some e => (s, r.1, some e)
        | none => let q := spaceBytes m fuel s (a + k) (n - k) ans; (q.1, r.1 ++ q.2.1, q.2.2)

/-- Write bytes at D-space address `a`, a word's part at a time; a part of a register's word is discarded (R9). The state, and the
refusal. -/
def spacePut (m : Master) : Nat → State → Nat → List Byte → State × Option Err
  | 0, s, _, _ => (s, none)
  | fuel + 1, s, a, bs =>
    if bs = [] then (s, none)
    else
      let k := min bs.length (4 - a % 4)
      if inRegs a then
        spacePut m fuel (if k = 4 then spaceStore s m (a - 0x40000000) (w32 (leNat (bs.take 4))) else s) (a + k) (bs.drop k)
      else
        let r := writeBytes s a (bs.take k)
        match r.2.2 with
        | some e => (r.1, some e)
        | none => spacePut m fuel r.1 (a + k) (bs.drop k)

/-- Requester code of the window master (Table 4-19). -/
def winMaster : Nat := 13

/-- A line of the array that a read has to wait for (R205). -/
def nvHeld (s : State) (a n : Nat) : Option Nat :=
  if 0x10000000 ≤ a ∧ a < 0x10800000 then (nvLines (a - 0x10000000) n).find? (nvWaits s) else none

/-- A host read of D-space: the state and the bytes, or none where it ends with Completer Abort (R38, R116, R238); a read that waits
in the array asks for a suspend and is made again. -/
def hostAccessRead (s : State) (a n : Nat) (ans : List W32) (answer : State → Option (List Byte) → State) : State :=
  match (if away s 9 then none else nvHeld s a n) with
  | some l => askSuspend s l
  | none =>
    let r := spaceBytes .host n s a n ans
    match r.2.2 with
    | some e => answer (noteErr r.1 e) none
    | none => answer (if inRegs a then r.1 else noteRead r.1 winMaster a n) (some r.2.1)

/-- A host write of D-space; a refused part is dropped (R38). -/
def hostAccessWrite (s : State) (a : Nat) (bs : List Byte) : State :=
  let r := spacePut .host bs.length s a bs
  match r.2 with
  | some e => noteErr r.1 e
  | none => r.1

/-! ### The host's requests (R254 to R256) -/

/-- A request to a BAR reaches the unit: the link is in L0 and D0 in service. -/
def barUp (s : State) : Bool := isSet s F.HIF_STAT_LINK_UP && !away s 0

/-- The aperture of a BAR4 offset, its D-space address and its unit (R255). -/
def aperture (s : State) (x : Nat) : Nat × Nat :=
  (getf s (F.HIF_WIN_BASE_BASE (x / 0x400000)) * 0x10000 + x % 0x400000, getf s (F.HIF_WIN_UNIT_UNIT (x / 0x400000)))

/-- The answer to a host read. -/
def hostAnswer (s : State) (d : Option (List Byte)) : State :=
  emit s (match d with | some bs => .hostCpl .success bs | none => .hostCpl .completerAbort [])

/-- A WTAG that no outstanding WIN_RD has, from the next one up. -/
def freeWtag (s : State) : Nat :=
  (((List.range 256).map (fun i => (s.hif.nextWtag + i) % 256)).find? (fun t => s.hif.winReads.all (fun w => w.wtag != t))).getD 0

/-- HOST_BAR4_READ (R255, R256, R345): `x` is the offset in BAR4 and `n` the length; `ans` answers reads of the user fabric window. -/
def execHostBar4Read (x : Fin 0x1000000) (n : Fin 4097) (ans : List W32) (s : State) : Host.Outcome State Fault Refusal :=
  if !barUp s then done s
  else if !s.hif.memSpace then done (emit s (.hostCpl .unsupportedRequest []))
  else if isMember s then done (hostAnswer (denied s) none)
  else
    let p := aperture s x.val
    if p.2 = 0 then done (hostAccessRead s p.1 n.val ans hostAnswer)
    else if !unitReach s p.2 then done (hostAnswer (satAdd s F.HIF_WIN_CNT_UNREACH 1) none)
    else if 64 ≤ s.hif.winReads.length then done s
    else
      let t := freeWtag s
      let s := { s with hif := { s.hif with winReads := s.hif.winReads ++ [⟨t, p.2, n.val⟩], nextWtag := (t + 1) % 256 } }
      done (sendMsg s (portTo s p.2) ⟨0x1A, ownAddr s, p.2, [w32 (t * 2 ^ 8), w32 n.val, w32 p.1], []⟩)

/-- HOST_BAR4_WRITE (R255, R256, R345): the enabled bytes of a write, from offset `x` of BAR4 up. -/
def execHostBar4Write (x : Fin 0x1000000) (data : List Byte) (s : State) : Host.Outcome State Fault Refusal :=
  if !barUp s || !s.hif.memSpace then done s
  else if isMember s then done (denied s)
  else
    let p := aperture s x.val
    if p.2 = 0 then done (hostAccessWrite s p.1 data)
    else if !unitReach s p.2 then done (satAdd s F.HIF_WIN_CNT_UNREACH 1)
    else done (sendMsg s (portTo s p.2) ⟨0x1B, ownAddr s, p.2, [0#32, w32 data.length, w32 p.1, 0#32], data⟩)

/-! ### A member's side (R357) -/

/-- WIN_CPL: the data of an aperture read, or REFUSED. -/
def winCpl (wtag : Nat) (s : State) (d : Option (List Byte)) : State :=
  sendMsg s 0 ⟨0x1C, ownAddr s, 0, [w32 (wtag * 2 ^ 8 + b2n d.isNone * 2 ^ 16), 0#32, 0#32, 0#32], d.getD []⟩

/-- WIN_RD (R357, R361): the member makes the read as a host access and answers with WIN_CPL; `ans` answers reads of its user fabric
window. A read that has to wait in the array stays in the receive buffer meanwhile. -/
def execWinRd (p : Fin 2) (m : Msg) (ans : List W32) (s : State) : Host.Outcome State Fault Refusal :=
  let a := (mw m 2).toNat
  let n := extractBits (mw m 1) 0 13
  match (if away s 9 || !portUp s p.val || !takesDst s m.dst then none else nvHeld s a n) with
  | some l => done (askSuspend s l)
  | none => onDst s p.val m (fun s => hostAccessRead (nakWake s) a n ans (winCpl (m0 m 8 8)))

/-- WIN_WR (R357, R361). -/
def execWinWr (p : Fin 2) (m : Msg) (s : State) : Host.Outcome State Fault Refusal :=
  onDst s p.val m (fun s => hostAccessWrite (nakWake s) (mw m 2).toNat (m.data.take (extractBits (mw m 1) 0 10)))

end Sys2Proof.Machine
end

