-- ==== Sys2Proof/Machine/KiteIsa.lean ====
section
/-! DEFINITION. The Kite core (21_kite_core_and_telemetry.md): RV32IM with C, Zicsr and Zifencei in machine mode (R545), its CSRs and
interrupts (R546), its instruction cache (R547) and its address map (R548). -/
namespace Sys2Proof.Machine

/-! ### Instructions -/

/-- Arithmetic of RV32I and M. -/
inductive Alu where
  | add | sub | sll | slt | sltu | xor | srl | sra | or | and
  | mul | mulh | mulhsu | mulhu | div | divu | rem | remu
  deriving DecidableEq, Repr

/-- A decoded instruction; `f` is its funct3. -/
inductive KInstr where
  | lui (rd : Nat) (v : W32)
  | auipc (rd : Nat) (v : W32)
  | jal (rd : Nat) (off : W32)
  | jalr (rd rs1 : Nat) (off : W32)
  | branch (f rs1 rs2 : Nat) (off : W32)
  | load (f rd rs1 : Nat) (off : W32)
  | store (f rs1 rs2 : Nat) (off : W32)
  | aluImm (op : Alu) (rd rs1 : Nat) (v : W32)
  | alu (op : Alu) (rd rs1 rs2 : Nat)
  | fence
  | fenceI
  | ecall
  | ebreak
  | mret
  | wfi
  /-- `rs` is the source register, or the immediate where bit 2 of `f` is set. -/
  | csr (f rd rs num : Nat)
  deriving DecidableEq, Repr

/-- A signed value of `n` bits as a word. -/
def sx (n v : Nat) : W32 := BitVec.ofInt 32 (signed n v)

/-- The register-register operation of funct7 and funct3. -/
def aluOf (f7 f3 : Nat) : Option Alu :=
  match f7, f3 with
  | 0x00, 0 => some .add
  | 0x20, 0 => some .sub
  | 0x00, 1 => some .sll
  | 0x00, 2 => some .slt
  | 0x00, 3 => some .sltu
  | 0x00, 4 => some .xor
  | 0x00, 5 => some .srl
  | 0x20, 5 => some .sra
  | 0x00, 6 => some .or
  | 0x00, 7 => some .and
  | 0x01, 0 => some .mul
  | 0x01, 1 => some .mulh
  | 0x01, 2 => some .mulhsu
  | 0x01, 3 => some .mulhu
  | 0x01, 4 => some .div
  | 0x01, 5 => some .divu
  | 0x01, 6 => some .rem
  | 0x01, 7 => some .remu
  | _, _ => none

/-- Decode a 32-bit instruction; none is an illegal one. -/
def kdecode (w : W32) : Option KInstr :=
  let fld (lo n : Nat) : Nat := extractBits w lo n
  let rd := fld 7 5
  let f3 := fld 12 3
  let rs1 := fld 15 5
  let rs2 := fld 20 5
  let f7 := fld 25 7
  let immI := sx 12 (fld 20 12)
  match fld 0 7 with
  | 0x37 => some (.lui rd (w &&& 0xFFFFF000#32))
  | 0x17 => some (.auipc rd (w &&& 0xFFFFF000#32))
  | 0x6F => some (.jal rd (sx 21 (fld 21 10 * 2 + fld 20 1 * 2 ^ 11 + fld 12 8 * 2 ^ 12 + fld 31 1 * 2 ^ 20)))
  | 0x67 => if f3 = 0 then some (.jalr rd rs1 immI) else none
  | 0x63 =>
    if f3 = 2 ∨ f3 = 3 then none
    else some (.branch f3 rs1 rs2 (sx 13 (fld 8 4 * 2 + fld 25 6 * 2 ^ 5 + fld 7 1 * 2 ^ 11 + fld 31 1 * 2 ^ 12)))
  | 0x03 => if f3 = 3 ∨ 5 < f3 then none else some (.load f3 rd rs1 immI)
  | 0x23 => if 2 < f3 then none else some (.store f3 rs1 rs2 (sx 12 (rd + f7 * 2 ^ 5)))
  | 0x13 =>
    if f3 = 1 then (if f7 = 0 then some (.aluImm .sll rd rs1 (w32 rs2)) else none)
    else if f3 = 5 then
      (if f7 = 0 then some (.aluImm .srl rd rs1 (w32 rs2)) else if f7 = 0x20 then some (.aluImm .sra rd rs1 (w32 rs2)) else none)
    else (aluOf 0 f3).map (fun op => .aluImm op rd rs1 immI)
  | 0x33 => (aluOf f7 f3).map (fun op => .alu op rd rs1 rs2)
  | 0x0F => if f3 = 0 then some .fence else if f3 = 1 then some .fenceI else none
  | 0x73 =>
    if f3 = 0 then
      (if w = 0x00000073#32 then some .ecall
       else if w = 0x00100073#32 then some .ebreak
       else if w = 0x30200073#32 then some .mret
       else if w = 0x10500073#32 then some .wfi
       else none)
    else if f3 = 4 then none
    else some (.csr f3 rd rs1 (fld 20 12))
  | _ => none

/-- Decode a 16-bit instruction of the C extension. -/
def kdecodeC (h : Nat) : Option KInstr :=
  let fld (lo n : Nat) : Nat := h / 2 ^ lo % 2 ^ n
  let r := fld 7 5
  let r2 := fld 2 5
  let a' := 8 + fld 7 3
  let b' := 8 + fld 2 3
  let imm6 := sx 6 (fld 2 5 + fld 12 1 * 2 ^ 5)
  let offW := w32 (fld 6 1 * 4 + fld 10 3 * 8 + fld 5 1 * 64)
  let offJ := sx 12 (fld 3 3 * 2 + fld 11 1 * 16 + fld 2 1 * 32 + fld 7 1 * 64 + fld 6 1 * 128 + fld 9 2 * 256 + fld 8 1 * 1024 + fld 12 1 * 2048)
  let offB := sx 9 (fld 3 2 * 2 + fld 10 2 * 8 + fld 2 1 * 32 + fld 5 2 * 64 + fld 12 1 * 256)
  match fld 0 2, fld 13 3 with
  | 0, 0 =>
    let v := fld 6 1 * 4 + fld 5 1 * 8 + fld 11 2 * 16 + fld 7 4 * 64
    if v = 0 then none else some (.aluImm .add b' 2 (w32 v))
  | 0, 2 => some (.load 2 b' a' offW)
  | 0, 6 => some (.store 2 a' b' offW)
  | 1, 0 => some (.aluImm .add r r imm6)
  | 1, 1 => some (.jal 1 offJ)
  | 1, 2 => some (.aluImm .add r 0 imm6)
  | 1, 3 =>
    if r = 2 then
      let v := fld 6 1 * 16 + fld 2 1 * 32 + fld 5 1 * 64 + fld 3 2 * 128 + fld 12 1 * 512
      if v = 0 then none else some (.aluImm .add 2 2 (sx 10 v))
    else if imm6 = 0#32 then none
    else some (.lui r (imm6 <<< 12))
  | 1, 4 =>
    match fld 10 2 with
    | 0 => if fld 12 1 = 1 then none else some (.aluImm .srl a' a' (w32 r2))
    | 1 => if fld 12 1 = 1 then none else some (.aluImm .sra a' a' (w32 r2))
    | 2 => some (.aluImm .and a' a' imm6)
    | _ =>
      if fld 12 1 = 1 then none
      else some (.alu (match fld 5 2 with | 0 => .sub | 1 => .xor | 2 => .or | _ => .and) a' a' b')
  | 1, 5 => some (.jal 0 offJ)
  | 1, 6 => some (.branch 0 a' 0 offB)
  | 1, 7 => some (.branch 1 a' 0 offB)
  | 2, 0 => if fld 12 1 = 1 then none else some (.aluImm .sll r r (w32 r2))
  | 2, 2 => if r = 0 then none else some (.load 2 r 2 (w32 (fld 4 3 * 4 + fld 12 1 * 32 + fld 2 2 * 64)))
  | 2, 4 =>
    if fld 12 1 = 0 then
      (if r2 = 0 then (if r = 0 then none else some (.jalr 0 r 0#32)) else some (.alu .add r 0 r2))
    else if r2 = 0 then (if r = 0 then some .ebreak else some (.jalr 1 r 0#32))
    else some (.alu .add r r r2)
  | 2, 6 => some (.store 2 2 r2 (w32 (fld 9 4 * 4 + fld 7 2 * 64)))
  | _, _ => none

/-- The result of an arithmetic operation (M: division by 0 and overflow as the ISA defines). -/
def aluRun (op : Alu) (a b : W32) : W32 :=
  match op with
  | .add => a + b
  | .sub => a - b
  | .sll => a <<< (b.toNat % 32)
  | .slt => w32 (b2n (a.slt b))
  | .sltu => w32 (b2n (a.ult b))
  | .xor => a ^^^ b
  | .srl => a >>> (b.toNat % 32)
  | .sra => a.sshiftRight (b.toNat % 32)
  | .or => a ||| b
  | .and => a &&& b
  | .mul => a * b
  | .mulh => BitVec.ofInt 32 (a.toInt * b.toInt / 2 ^ 32)
  | .mulhsu => BitVec.ofInt 32 (a.toInt * (b.toNat : Int) / 2 ^ 32)
  | .mulhu => BitVec.ofNat 32 (a.toNat * b.toNat / 2 ^ 32)
  | .div => if b = 0#32 then 0xFFFFFFFF#32 else a.sdiv b
  | .divu => if b = 0#32 then 0xFFFFFFFF#32 else a / b
  | .rem => if b = 0#32 then a else a.srem b
  | .remu => if b = 0#32 then a else a % b

/-- A branch is taken. -/
def branchTaken (f : Nat) (a b : W32) : Bool :=
  match f with
  | 0 => a == b
  | 1 => a != b
  | 4 => a.slt b
  | 5 => !a.slt b
  | 6 => a.ult b
  | _ => !a.ult b

/-! ### Registers, traps and interrupts -/

/-- A general register; x0 reads 0. -/
def kx (s : State) (r : Nat) : W32 := if r = 0 then 0#32 else (sget r s.kite.x).getD 0#32

/-- Write a general register; x0 discards it. -/
def kset (s : State) (r : Nat) (v : W32) : State :=
  if r = 0 then s else setKite s { s.kite with x := sset 0#32 r v s.kite.x }

/-- KIT_MTIME has reached KIT_MTIMECMP (R546). -/
def timerDue (s : State) : Bool :=
  decide ((rd s (R.KIT_MTIMECMP 0)).toNat + 2 ^ 32 * (rd s (R.KIT_MTIMECMP 1)).toNat ≤ s.kite.time / 25)

/-- mip (R546): MSIP bit 3, MTIP bit 7, MEIP bit 11. -/
def kmip (s : State) : W32 :=
  w32 (b2n (isSet s F.KIT_MSIP_MSIP) * 2 ^ 3 + b2n (timerDue s) * 2 ^ 7
    + b2n (decide (rd s R.KIT_IRQ_PEND &&& rd s R.KIT_IRQ_EN ≠ 0#32)) * 2 ^ 11)

/-- The interrupt to be taken: pending and enabled in mie, external before software before timer. -/
def kpending (s : State) : Option Nat :=
  let p := (kmip s &&& s.kite.ie).toNat
  if bit p 11 then some 11 else if bit p 3 then some 3 else if bit p 7 then some 7 else none

/-- Take a trap: mepc, mcause and mtval, MPIE from MIE, MIE 0, and the pc at mtvec (R546). -/
def ktrap (s : State) (intr : Bool) (cause : Nat) (tval : W32) : State :=
  let k := s.kite
  let base := k.mtvec &&& 0xFFFFFFFC#32
  setKite s { k with mepc := k.pc, mcause := w32 (cause + b2n intr * 2 ^ 31), mtval := tval, mpie := k.mie, mie := false, wfi := false,
                     pc := if intr && decide (extractBits k.mtvec 0 1 = 1) then base + w32 (4 * cause) else base }

/-- A trap whose mtval the ISA leaves to the implementation: an illegal instruction or a breakpoint (log entry 32). -/
def ktrapFree (s : State) (cause : Nat) : State := ktrap (drawn s) false cause ((freeVal s).setWidth 32)

/-- The value of a CSR (Table 21-1). -/
def csrRead (s : State) (n : Nat) : Option W32 :=
  let k := s.kite
  match n with
  | 0x300 => some (w32 (b2n k.mie * 2 ^ 3 + b2n k.mpie * 2 ^ 7 + 3 * 2 ^ 11))
  | 0x301 => some 0x40001104#32
  | 0x304 => some k.ie
  | 0x305 => some k.mtvec
  | 0x340 => some k.mscratch
  | 0x341 => some k.mepc
  | 0x342 => some k.mcause
  | 0x343 => some k.mtval
  | 0x344 => some (kmip s)
  | 0xB00 => some (w32 k.mcycle)
  | 0xB80 => some (w32 (k.mcycle / 2 ^ 32))
  | 0xB02 => some (w32 k.minstret)
  | 0xB82 => some (w32 (k.minstret / 2 ^ 32))
  | 0xF11 => some 0#32
  | 0xF12 => some 0#32
  | 0xF13 => some (rd s R.DEV_ID)
  | 0xF14 => some 0#32
  | _ => none

/-- Write a CSR: only the bits that Table 21-1 names are held. -/
def csrWrite (s : State) (n : Nat) (v : W32) : State :=
  let k := s.kite
  setKite s (match n with
    | 0x300 => { k with mie := v.getLsbD 3, mpie := v.getLsbD 7 }
    | 0x304 => { k with ie := v &&& 0x888#32 }
    | 0x305 => { k with mtvec := v &&& 0xFFFFFFFD#32 }
    | 0x340 => { k with mscratch := v }
    | 0x341 => { k with mepc := v &&& 0xFFFFFFFE#32 }
    | 0x342 => { k with mcause := v }
    | 0x343 => { k with mtval := v }
    | 0xB00 => { k with mcycle := k.mcycle / 2 ^ 32 * 2 ^ 32 + v.toNat }
    | 0xB80 => { k with mcycle := k.mcycle % 2 ^ 32 + v.toNat * 2 ^ 32 }
    | 0xB02 => { k with minstret := k.minstret / 2 ^ 32 * 2 ^ 32 + v.toNat }
    | 0xB82 => { k with minstret := k.minstret % 2 ^ 32 + v.toNat * 2 ^ 32 }
    | _ => k)

/-! ### Accesses -/

/-- What an access of the core gives. -/
inductive Got where
  | ok (v : W32)
  /-- An access fault. -/
  | fault
  /-- It waits in the array (R205). -/
  | wait
  deriving DecidableEq, Repr

/-- Put a line into the instruction cache: 256 sets of two ways; which way of a full set goes is a free value (R547). -/
def cacheFill (s : State) (l : Nat) (bs : List Byte) : State :=
  let set := s.kite.icache.filter (fun e => e.1 % 256 == l % 256)
  match set with
  | [e, f] =>
    let out := if (freeVal s).getLsbD 0 then e else f
    setKite (drawn s) { s.kite with icache := s.kite.icache.erase out ++ [(l, bs)] }
  | _ => setKite s { s.kite with icache := s.kite.icache ++ [(l, bs)] }

/-- A half word of an instruction at `a` (R547, R548, R211): from BANK0 or BANK1, or from an execute-only region through the cache;
`err` bits of the line read are in error. -/
def fetchHalf (s : State) (a err : Nat) : State × Got :=
  if a < 0x200000 then
    match accessErr s a false with
    | some e => (noteErr s e, .fault)
    | none => (s, .ok (w32 ((memByte s a).toNat + 256 * (memByte s (a + 1)).toNat)))
  else if 0x10000000 ≤ a ∧ a < 0x10800000 then
    let l := (a - 0x10000000) / 16
    let half (bs : List Byte) : W32 := w32 (leAt bs (a % 16) 2)
    match s.kite.icache.find? (fun e => e.1 == l) with
    | some e => (s, .ok (half e.2))
    | none =>
      if away s 9 || !xoCovers s (l / 256) then (s, .fault)
      else if nvWaits s l then (askSuspend s l, .wait)
      else if 2 ≤ err then (nvEcc s l err, .fault)
      else
        let bs := nvBytes s (16 * l) 16
        (cacheFill (nvEcc s l err) l bs, .ok (half bs))
  else (match accessErr s a false with | some .hole => noteErr s .hole | _ => s, .fault)

/-- The base address of the boot ROM (Table 21-2). -/
def romBase : Nat := 0xFFFF8000

/-- A load of `n` bytes at byte `b` of the register at word offset `o`. -/
def kloadReg (s : State) (o b n : Nat) (ans : List W32) : State × Got :=
  let r := spaceRead s .kite o ans
  (r.1, .ok (w32 (extractBits r.2.1 (8 * b) (8 * n))))

/-- A load of `n` bytes at the aligned address `a` (R548, R211): the boot ROM's bytes are not published; `err` bits of an array line are in
error, `ans` answers in the user fabric window. -/
def kload (s : State) (a n err : Nat) (ans : List W32) : State × Got :=
  if romBase ≤ a then (s, .ok (w32 (leNat ((List.range n).map (fun i => Config.undefByte 6 0 (a + i))))))
  else if inRegs a then kloadReg s ((a - 0x40000000) / 4 * 4) (a % 4) n ans
  else if 0x10000000 ≤ a ∧ a < 0x10800000 ∧ away s 9 = false then
    let l := (a - 0x10000000) / 16
    if nvWaits s l then (askSuspend s l, .wait)
    else if 2 ≤ err then (nvEcc s l err, .fault)
    else (noteNvRead (nvEcc s l err) 12 (a - 0x10000000) n, .ok (w32 (leNat (readBytes s n a).1)))
  else
    let r := readBytes s n a
    match r.2 with
    | some e => (noteErr s e, .fault)
    | none => (s, .ok (w32 (leNat r.1)))

/-- A store of `n` bytes at the aligned address `a`: in register space only a whole word acts (R9). None is an access fault. -/
def kstore (s : State) (a n : Nat) (v : W32) : State × Bool :=
  if romBase ≤ a then (s, false)
  else if inRegs a then (if n = 4 then spaceStore s .kite (a - 0x40000000) v else s, true)
  else
    match accessErr s a true with
    | some e => (noteErr s e, false)
    | none => ((writeBytes s a (leBytes n v.toNat)).1, true)

/-! ### One instruction -/

/-- The instruction retires: minstret counts it and the pc goes on. -/
def kretire (s : State) (pc : W32) : State :=
  setKite s { s.kite with pc := pc, minstret := (s.kite.minstret + 1) % 2 ^ 64 }

/-- Retire with a result in a register. -/
def kresult (s : State) (rd : Nat) (v pc : W32) : State := kretire (kset s rd v) pc

/-- What a CSR instruction writes, if anything: bits 1:0 of `f` are 1 write, 2 set, 3 clear. -/
def csrNew (f rs : Nat) (old src : W32) : Option W32 :=
  if f % 4 = 1 then some src
  else if rs = 0 then none
  else some (if f % 4 = 2 then old ||| src else old &&& ~~~src)

/-- Carry out a decoded instruction of `len` bytes at the pc. -/
def krun (s : State) (q : KInstr) (len err : Nat) (ans : List W32) : State :=
  let pc := s.kite.pc
  let next := pc + w32 len
  match q with
  | .lui rd v => kresult s rd v next
  | .auipc rd v => kresult s rd (pc + v) next
  | .jal rd off => kresult s rd next (pc + off)
  | .jalr rd rs1 off => kresult s rd next ((kx s rs1 + off) &&& 0xFFFFFFFE#32)
  | .branch f rs1 rs2 off => kretire s (if branchTaken f (kx s rs1) (kx s rs2) then pc + off else next)
  | .load f rd rs1 off =>
    let a := kx s rs1 + off
    let n := 2 ^ (f % 4)
    if a.toNat % n ≠ 0 then ktrap s false 4 a
    else
      let r := kload s a.toNat n err ans
      match r.2 with
      | .wait => r.1
      | .fault => ktrap r.1 false 5 a
      | .ok v => kresult r.1 rd (if f < 4 then sx (8 * n) v.toNat else v) next
  | .store f rs1 rs2 off =>
    let a := kx s rs1 + off
    let n := 2 ^ f
    if a.toNat % n ≠ 0 then ktrap s false 6 a
    else
      let r := kstore s a.toNat n (kx s rs2)
      if r.2 then kretire r.1 next else ktrap r.1 false 7 a
  | .aluImm op rd rs1 v => kresult s rd (aluRun op (kx s rs1) v) next
  | .alu op rd rs1 rs2 => kresult s rd (aluRun op (kx s rs1) (kx s rs2)) next
  | .fence => kretire s next
  | .fenceI => kretire (setKite s { s.kite with icache := [] }) next
  | .ecall => ktrap s false 11 0#32
  | .ebreak => ktrapFree s 3
  | .mret => kretire (setKite s { s.kite with mie := s.kite.mpie, mpie := true }) s.kite.mepc
  | .wfi => kretire (setKite s { s.kite with wfi := true }) next
  | .csr f rd rs num =>
    match csrRead s num with
    | none => ktrapFree s 2
    | some old =>
      let src := if f < 4 then kx s rs else w32 rs
      match csrNew f rs old src with
      | none => kresult s rd old next
      | some v => if 0xC00 ≤ num then ktrapFree s 2 else csrWrite (kresult s rd old next) num v

/-- Fetch, decode and carry out the instruction at the pc. -/
def kstep (s : State) (ferr lerr : Nat) (ans : List W32) : State :=
  let a := s.kite.pc.toNat
  let r := fetchHalf s a ferr
  match r.2 with
  | .wait => r.1
  | .fault => ktrap r.1 false 1 s.kite.pc
  | .ok h =>
    if h.toNat % 4 ≠ 3 then
      match kdecodeC h.toNat with
      | some q => krun r.1 q 2 lerr ans
      | none => ktrapFree r.1 2
    else
      let r2 := fetchHalf r.1 (a + 2) ferr
      match r2.2 with
      | .wait => r2.1
      | .fault => ktrap r2.1 false 1 (s.kite.pc + 2#32)
      | .ok h2 =>
        match kdecode (w32 (h.toNat + h2.toNat * 2 ^ 16)) with
        | some q => krun r2.1 q 4 lerr ans
        | none => ktrapFree r2.1 2

/-- The core runs: released, and not in reset. -/
def kiteRuns (s : State) : Bool := s.kite.run && !inReset s 20

/-- KITE_INSTRUCTION (R545 to R548): `turns` pass, of which an instruction takes at least two; an enabled interrupt is taken first, WFI waits
for one. `ferr` and `lerr` are bits in error of an array line fetched or loaded, `ans` the personality's answers in the user fabric window.
The boot ROM's own instructions show only as the steps of R551. -/
def execKiteInstruction (turns : Nat) (ferr lerr : Fin 3) (ans : List W32) (s : State) : Host.Outcome State Fault Refusal :=
  if !kiteRuns s then done s
  else
    let s := setKite s { s.kite with mcycle := (s.kite.mcycle + max 2 turns) % 2 ^ 64 }
    match kpending s with
    | some c => if s.kite.mie then done (ktrap s true c 0#32) else done (go { s with kite := { s.kite with wfi := false } })
    | none => if s.kite.wfi then done s else done (go s)
where
  /-- The instruction at the pc, outside the boot ROM. -/
  go (s : State) : State := if romBase ≤ s.kite.pc.toNat then s else kstep s ferr.val lerr.val ans

/-- MTIMER_INTERRUPT (R546): KIT_MTIME has reached KIT_MTIMECMP; the interrupt is taken where it is enabled and none goes before it. -/
def execMtimerInterrupt (s : State) : Host.Outcome State Fault Refusal :=
  if kiteRuns s && timerDue s && s.kite.mie && decide (kpending s = some 7) then done (ktrap s true 7 0#32) else done s

end Sys2Proof.Machine
end

