-- ==== Sys2Proof/Machine/TapCmd.lean ====
section
/-! DEFINITION. The test access port (R600, R601): its instructions, and who owns the covered pins. -/
namespace Sys2Proof.Machine

/-- The TAP works from the moment VCCAUX and VCCIO0 are good: bits 1 and 8 of PWR_RAIL_STAT. -/
def tapUp (s : State) : Bool := !bit s.pwr.railsOff 1 && !bit s.pwr.railsOff 8

/-- IDCODE of revision B1 (Table 24-10). -/
def tapId : W32 := 0x24810B47#32

/-- The levels that stage, engines and personality give the covered pins now: user I/O, PPS_OUT from G2 on, CAN, LIN and Osprey from
G5, HAR_XOFF. -/
def pinLevels (s : State) : List Out :=
  .pin .userIo (b2n s.tap.io) :: (if bit s.pwr.groups 2 then [.pin .ppsOut (b2n (s.tbu.pulse != isSet s F.TBU_CTL_PPS_POL))] else [])
  ++ (if bit s.pwr.groups 5 then
      (List.range 16).flatMap (fun n => [.pin (.canTxd n) 1, .pin (.linTxd n) 1])
      ++ [.pin .ospTxen (getf s F.OSP_STAT_TX_ACTIVE), .pin .ospRxen (b2n s.osp.rxen), .pin .ospGain s.osp.gain] else [])
  ++ [0, 1, 2, 3].map (fun k => .pin (.harXoff k) (b2n (bit s.har.pins k)))

/-- An instruction takes effect; the pins that the boundary cells give back take the states the unit gives them (R601). -/
def tapLoad (s : State) (ir : Nat) (dr : W32) : State :=
  let t := emit { s with tap := { s.tap with ir := ir } } (.tap ir dr)
  if tapOwns s && !tapOwns t then (pinLevels t).foldl emit t else t

/-- TRST_N low or five TCK cycles with TMS high: Test-Logic-Reset, whose instruction is IDCODE. -/
def execTapReset (s : State) : Host.Outcome State Fault Refusal := done (if tapUp s then tapLoad s 1 tapId else s)

/-- EXTEST: the covered pins take the boundary cells, with `cells` shifted in. -/
def execExtest (cells : List Bool) (s : State) : Host.Outcome State Fault Refusal :=
  done (if tapUp s then tapLoad { s with tap := { s.tap with cells := cells } } 0 0#32 else s)

/-- IDCODE. -/
def execIdcode (s : State) : Host.Outcome State Fault Refusal := done (if tapUp s then tapLoad s 1 tapId else s)

/-- SAMPLE/PRELOAD: the boundary register is loaded without owning the pins. -/
def execSamplePreload (cells : List Bool) (s : State) : Host.Outcome State Fault Refusal :=
  done (if tapUp s then tapLoad { s with tap := { s.tap with cells := cells } } 2 0#32 else s)

/-- HIGHZ. -/
def execHighz (s : State) : Host.Outcome State Fault Refusal := done (if tapUp s then tapLoad s 4 0#32 else s)

/-- CLAMP: the covered pins hold the preloaded values. -/
def execClamp (s : State) : Host.Outcome State Fault Refusal := done (if tapUp s then tapLoad s 5 0#32 else s)

/-- BYPASS, which every code that Table 24-10 does not name also acts as. -/
def execBypass (s : State) : Host.Outcome State Fault Refusal := done (if tapUp s then tapLoad s 0x3F 0#32 else s)

end Sys2Proof.Machine
end

