-- ==== Sys2Proof/Machine/Dispatch.lean ====
section
/-! DEFINITION. One arm per command: the meaning it calls. -/
namespace Sys2Proof.Machine

def exec (i : Instr) (s : State) : Host.Outcome State Fault Refusal :=
  match i with
  | .regWrite m a v be => Sys2Proof.Machine.execRegWrite m a v be s
  | .wideLowRead m a => Sys2Proof.Machine.execWideLowRead m a s
  | .wideLowWrite m a v => Sys2Proof.Machine.execWideLowWrite m a v s
  | .wideHighWrite m a v => Sys2Proof.Machine.execWideHighWrite m a v s
  | .hostBar4Read x n ans => Sys2Proof.Machine.execHostBar4Read x n ans s
  | .hostBar4Write x data => Sys2Proof.Machine.execHostBar4Write x data s
  | .hostConfigWrite w => Sys2Proof.Machine.execHostConfigWrite w s
  | .hostReadCompletion id e => Sys2Proof.Machine.execHostReadCompletion id e s
  | .hostCompletionTimeout id => Sys2Proof.Machine.execHostCompletionTimeout id s
  | .windowReadTimeout wtag => Sys2Proof.Machine.execWindowReadTimeout wtag s
  | .hostLinkUp speed width => Sys2Proof.Machine.execHostLinkUp speed width s
  | .hostLinkLoss why => Sys2Proof.Machine.execHostLinkLoss why s
  | .perstFall => Sys2Proof.Machine.execPerstFall s
  | .perstRise => Sys2Proof.Machine.execPerstRise s
  | .msixUnmask v => Sys2Proof.Machine.execMsixUnmask v s
  | .modTimeExpiry c => Sys2Proof.Machine.execModTimeExpiry c s
  | .dispatch => Sys2Proof.Machine.execDispatch s
  | .returnAccepted tag d opcode => Sys2Proof.Machine.execReturnAccepted tag d opcode s
  | .fenceTimeout c => Sys2Proof.Machine.execFenceTimeout c s
  | .fetch c n => Sys2Proof.Machine.execFetch c n s
  | .fetchComplete c e => Sys2Proof.Machine.execFetchComplete c e s
  | .doorbellSqPi m bar2 c idx => Sys2Proof.Machine.execDoorbellSqPi m bar2 c idx s
  | .doorbellCqCi m bar2 c idx => Sys2Proof.Machine.execDoorbellCqCi m bar2 c idx s
  | .contextEnable m c => Sys2Proof.Machine.execContextEnable m c s
  | .contextDisable m c => Sys2Proof.Machine.execContextDisable m c s
  | .ledgerAudit chain => Sys2Proof.Machine.execLedgerAudit chain s
  | .auditCompareDone => Sys2Proof.Machine.execAuditCompareDone s
  | .auditChainRelook idx counted => Sys2Proof.Machine.execAuditChainRelook idx counted s
  | .ldgRelease key => Sys2Proof.Machine.execLdgRelease key s
  | .ldgBufLend first last => Sys2Proof.Machine.execLdgBufLend first last s
  | .ldgCtlWrite data => Sys2Proof.Machine.execLdgCtlWrite data s
  | .nop tag => Sys2Proof.Machine.execNop tag s
  | .fence tag us => Sys2Proof.Machine.execFence tag us s
  | .copy tag => Sys2Proof.Machine.execCopy tag s
  | .fill tag => Sys2Proof.Machine.execFill tag s
  | .vbuTx tag h => Sys2Proof.Machine.execVbuTx tag h s
  | .vbuRxArm tag => Sys2Proof.Machine.execVbuRxArm tag s
  | .vbuCtrlStart tag => Sys2Proof.Machine.execVbuCtrlStart tag s
  | .vbuCtrlStop tag receiving => Sys2Proof.Machine.execVbuCtrlStop tag receiving s
  | .vbuCtrlRecover tag => Sys2Proof.Machine.execVbuCtrlRecover tag s
  | .vbuCtrlAbortTx tag => Sys2Proof.Machine.execVbuCtrlAbortTx tag s
  | .vbuCtrlStatus tag => Sys2Proof.Machine.execVbuCtrlStatus tag s
  | .vbuCtrlWriteRegs tag => Sys2Proof.Machine.execVbuCtrlWriteRegs tag s
  | .harScan tag reread => Sys2Proof.Machine.execHarScan tag reread s
  | .harNetmapLoad tag h => Sys2Proof.Machine.execHarNetmapLoad tag h s
  | .ospTx tag h => Sys2Proof.Machine.execOspTx tag h s
  | .ospRx tag => Sys2Proof.Machine.execOspRx tag s
  | .fabCall tag => Sys2Proof.Machine.execFabCall tag s
  | .nvaProg tag h => Sys2Proof.Machine.execNvaProg tag h s
  | .nvaErase tag => Sys2Proof.Machine.execNvaErase tag s
  | .nvaRead tag corr bad => Sys2Proof.Machine.execNvaRead tag corr bad s
  | .tbuStampRead tag => Sys2Proof.Machine.execTbuStampRead tag s
  | .tbuStampSet tag => Sys2Proof.Machine.execTbuStampSet tag s
  | .tbuStampSlew tag => Sys2Proof.Machine.execTbuStampSlew tag s
  | .cfgStage tag hdr => Sys2Proof.Machine.execCfgStage tag hdr s
  | .cfgHandover tag => Sys2Proof.Machine.execCfgHandover tag s
  | .depWriteImage tag got => Sys2Proof.Machine.execDepWriteImage tag got s
  | .depWriteData tag got => Sys2Proof.Machine.execDepWriteData tag got s
  | .depWriteSlot tag => Sys2Proof.Machine.execDepWriteSlot tag s
  | .depWriteFormat tag => Sys2Proof.Machine.execDepWriteFormat tag s
  | .depReadSlot tag => Sys2Proof.Machine.execDepReadSlot tag s
  | .depReadRaw tag => Sys2Proof.Machine.execDepReadRaw tag s
  | .depReadDirectory tag => Sys2Proof.Machine.execDepReadDirectory tag s
  | .tagRead tag => Sys2Proof.Machine.execTagRead tag s
  | .tagWrite tag h => Sys2Proof.Machine.execTagWrite tag h s
  | .bnkMarch tag => Sys2Proof.Machine.execBnkMarch tag s
  | .bnkPower tag => Sys2Proof.Machine.execBnkPower tag s
  | .bstRun tag => Sys2Proof.Machine.execBstRun tag s
  | .trimWindowDue defer => Sys2Proof.Machine.execTrimWindowDue defer s
  | .trimDeferFall => Sys2Proof.Machine.execTrimDeferFall s
  | .trimMaxdeferExpiry => Sys2Proof.Machine.execTrimMaxdeferExpiry s
  | .trimStep r d => Sys2Proof.Machine.execTrimStep r d s
  | .driftAlert r d below1 => Sys2Proof.Machine.execDriftAlert r d below1 s
  | .alertTrimStep r d below1 => Sys2Proof.Machine.execAlertTrimStep r d below1 s
  | .paceGateEnd counts => Sys2Proof.Machine.execPaceGateEnd counts s
  | .fabPaceClr mask => Sys2Proof.Machine.execFabPaceClr mask s
  | .fabGateOvfClear => Sys2Proof.Machine.execFabGateOvfClear s
  | .islandLossOfLock n => Sys2Proof.Machine.execIslandLossOfLock n s
  | .islandRelock n => Sys2Proof.Machine.execIslandRelock n s
  | .gateClockWrite n g v full => Sys2Proof.Machine.execGateClockWrite n g v full s
  | .gateHandshakePop n g => Sys2Proof.Machine.execGateHandshakePop n g s
  | .staticInputChange b pin level => Sys2Proof.Machine.execStaticInputChange b pin level s
  | .socketBurst k addr len write beats => Sys2Proof.Machine.execSocketBurst k addr len write beats s
  | .fabWindowAccess k off w ans => Sys2Proof.Machine.execFabWindowAccess k off w ans s
  | .fabWindowTimeout k => Sys2Proof.Machine.execFabWindowTimeout k s
  | .fabCallAnswer tag status r0 r1 => Sys2Proof.Machine.execFabCallAnswer tag status r0 r1 s
  | .powerOnReset => Sys2Proof.Machine.execPowerOnReset s
  | .powerGoodEvent => Sys2Proof.Machine.execPowerGoodEvent s
  | .s0Complete headEn cfgsrc testEn => Sys2Proof.Machine.execS0Complete headEn cfgsrc testEn s
  | .pwrgrantInHigh => Sys2Proof.Machine.execPwrgrantInHigh s
  | .grantTimeout => Sys2Proof.Machine.execGrantTimeout s
  | .mgmtGroupPowered => Sys2Proof.Machine.execMgmtGroupPowered s
  | .s2BankPowered => Sys2Proof.Machine.execS2BankPowered s
  | .s3GroupPowered => Sys2Proof.Machine.execS3GroupPowered s
  | .s4WaveDone => Sys2Proof.Machine.execS4WaveDone s
  | .grantPoint => Sys2Proof.Machine.execGrantPoint s
  | .brownOutVcc aux => Sys2Proof.Machine.execBrownOutVcc aux s
  | .brownOutVccowl => Sys2Proof.Machine.execBrownOutVccowl s
  | .brownOutSer sera => Sys2Proof.Machine.execBrownOutSer sera s
  | .brownOutIo n => Sys2Proof.Machine.execBrownOutIo n s
  | .railReturn r => Sys2Proof.Machine.execRailReturn r s
  | .rstNFall torn => Sys2Proof.Machine.execRstNFall torn s
  | .rstNRise => Sys2Proof.Machine.execRstNRise s
  | .pwrCtlIdle => Sys2Proof.Machine.execPwrCtlIdle s
  | .pwrCtlRun => Sys2Proof.Machine.execPwrCtlRun s
  | .idleEntryDone => Sys2Proof.Machine.execIdleEntryDone s
  | .idleExitDone => Sys2Proof.Machine.execIdleExitDone s
  | .sleepEntry => Sys2Proof.Machine.execSleepEntry s
  | .sleepEntryDone => Sys2Proof.Machine.execSleepEntryDone s
  | .wakeInPin => Sys2Proof.Machine.execWakeInPin s
  | .wakeTimerExpiry => Sys2Proof.Machine.execWakeTimerExpiry s
  | .wakePerst => Sys2Proof.Machine.execWakePerst s
  | .rstDomReq m mask => Sys2Proof.Machine.execRstDomReq m mask s
  | .rstDomHold m mask => Sys2Proof.Machine.execRstDomHold m mask s
  | .drainEnd d => Sys2Proof.Machine.execDrainEnd d s
  | .abortsPosted d accs => Sys2Proof.Machine.execAbortsPosted d accs s
  | .resetAssert d mids => Sys2Proof.Machine.execResetAssert d mids s
  | .resetRelease d => Sys2Proof.Machine.execResetRelease d s
  | .domainReady d => Sys2Proof.Machine.execDomainReady d s
  | .readyTimeout d => Sys2Proof.Machine.execReadyTimeout d s
  | .rstUnit m key => Sys2Proof.Machine.execRstUnit m key s
  | .watchdogExpiry => Sys2Proof.Machine.execWatchdogExpiry s
  | .bootSourceFail => Sys2Proof.Machine.execBootSourceFail s
  | .bootReadoutDone glob => Sys2Proof.Machine.execBootReadoutDone glob s
  | .startupStepDone => Sys2Proof.Machine.execStartupStepDone s
  | .startupDelayExpiry => Sys2Proof.Machine.execStartupDelayExpiry s
  | .startupLockDone => Sys2Proof.Machine.execStartupLockDone s
  | .startupLockTimeout missing => Sys2Proof.Machine.execStartupLockTimeout missing s
  | .cfgStageEraseDone => Sys2Proof.Machine.execCfgStageEraseDone s
  | .cfgStageFrame got => Sys2Proof.Machine.execCfgStageFrame got s
  | .cfgStageReadbackDone ok => Sys2Proof.Machine.execCfgStageReadbackDone ok s
  | .handoverReadoutDone glob => Sys2Proof.Machine.execHandoverReadoutDone glob s
  | .cfgBootSel key plane => Sys2Proof.Machine.execCfgBootSel key plane s
  | .depotDiscovery x => Sys2Proof.Machine.execDepotDiscovery x s
  | .flashReadDone got => Sys2Proof.Machine.execFlashReadDone got s
  | .flashEraseDone ok => Sys2Proof.Machine.execFlashEraseDone ok s
  | .flashProgramDone ok => Sys2Proof.Machine.execFlashProgramDone ok s
  | .depotScrubDue => Sys2Proof.Machine.execDepotScrubDue s
  | .imageReq m => Sys2Proof.Machine.execImageReq m s
  | .imageReqRetry => Sys2Proof.Machine.execImageReqRetry s
  | .reqAck m => Sys2Proof.Machine.execReqAck m s
  | .reqAckRepeat => Sys2Proof.Machine.execReqAckRepeat s
  | .loadRoundStart => Sys2Proof.Machine.execLoadRoundStart s
  | .roundBegin m => Sys2Proof.Machine.execRoundBegin m s
  | .chunk m => Sys2Proof.Machine.execChunk m s
  | .chunkAck m => Sys2Proof.Machine.execChunkAck m s
  | .resend m => Sys2Proof.Machine.execResend m s
  | .roundEnd m => Sys2Proof.Machine.execRoundEnd m s
  | .roundAbort m => Sys2Proof.Machine.execRoundAbort m s
  | .chainTryTimeout lock => Sys2Proof.Machine.execChainTryTimeout lock s
  | .nvaKey m data => Sys2Proof.Machine.execNvaKey m data s
  | .nvaCmd m data => Sys2Proof.Machine.execNvaCmd m data s
  | .nvaSeqLapse => Sys2Proof.Machine.execNvaSeqLapse s
  | .programLine m data => Sys2Proof.Machine.execProgramLine m data s
  | .programPage m addr => Sys2Proof.Machine.execProgramPage m addr s
  | .eraseSector m addr => Sys2Proof.Machine.execEraseSector m addr s
  | .eraseBlock m addr => Sys2Proof.Machine.execEraseBlock m addr s
  | .suspend m addr => Sys2Proof.Machine.execSuspend m addr s
  | .resume m addr => Sys2Proof.Machine.execResume m addr s
  | .readCounter m addr => Sys2Proof.Machine.execReadCounter m addr s
  | .nvaPageLatchLoaded => Sys2Proof.Machine.execNvaPageLatchLoaded s
  | .nvaProgramDone badLine => Sys2Proof.Machine.execNvaProgramDone badLine s
  | .nvaErasePulse => Sys2Proof.Machine.execNvaErasePulse s
  | .nvaEraseDone ok => Sys2Proof.Machine.execNvaEraseDone ok s
  | .nvaSuspendEffect cut => Sys2Proof.Machine.execNvaSuspendEffect cut s
  | .nvaAutoResume => Sys2Proof.Machine.execNvaAutoResume s
  | .nvLineRead m line err fetch yields => Sys2Proof.Machine.execNvLineRead m line err fetch yields s
  | .nvScrubMarginRead weak => Sys2Proof.Machine.execNvScrubMarginRead weak s
  | .nvScrubRefresh => Sys2Proof.Machine.execNvScrubRefresh s
  | .nvScrubStarve refresh weak => Sys2Proof.Machine.execNvScrubStarve refresh weak s
  | .nvaWpSet idx data => Sys2Proof.Machine.execNvaWpSet idx data s
  | .nvaWpClr idx data => Sys2Proof.Machine.execNvaWpClr idx data s
  | .nvaWpLock => Sys2Proof.Machine.execNvaWpLock s
  | .bankAccess n a b aFirst => Sys2Proof.Machine.execBankAccess n a b aFirst s
  | .aliasWrite clear addr data be waits => Sys2Proof.Machine.execAliasWrite clear addr data be waits s
  | .bankPowerStepDone n us => Sys2Proof.Machine.execBankPowerStepDone n us s
  | .marchDone n faults element addr bits shadow => Sys2Proof.Machine.execMarchDone n faults element addr bits shadow s
  | .bnkFuseProg n e slice bitPos key => Sys2Proof.Machine.execBnkFuseProg n e slice bitPos key s
  | .fuseBlowDone n => Sys2Proof.Machine.execFuseBlowDone n s
  | .laneBlockLock p lane slips => Sys2Proof.Machine.execLaneBlockLock p lane slips s
  | .laneBlockLockLost p lane bad fwd => Sys2Proof.Machine.execLaneBlockLockLost p lane bad fwd s
  | .laneFrameLock p lane inverted skew => Sys2Proof.Machine.execLaneFrameLock p lane inverted skew s
  | .laneFrameLockLost p lane fwd => Sys2Proof.Machine.execLaneFrameLockLost p lane fwd s
  | .train p rx lane role rxState paramOk version => Sys2Proof.Machine.execTrain p rx lane role rxState paramOk version s
  | .cap p vl cells => Sys2Proof.Machine.execCap p vl cells s
  | .keyBlock p n value => Sys2Proof.Machine.execKeyBlock p n value s
  | .keyAck p value => Sys2Proof.Machine.execKeyAck p value s
  | .linkUp p => Sys2Proof.Machine.execLinkUp p s
  | .trainTimeout p => Sys2Proof.Machine.execTrainTimeout p s
  | .chnPortEn p en => Sys2Proof.Machine.execChnPortEn p en s
  | .chnRetrain p => Sys2Proof.Machine.execChnRetrain p s
  | .chnPrbs p tx chk err0 err1 => Sys2Proof.Machine.execChnPrbs p tx chk err0 err1 s
  | .credit p vl value => Sys2Proof.Machine.execCredit p vl value s
  | .csync p vl value => Sys2Proof.Machine.execCsync p vl value s
  | .ack p seq => Sys2Proof.Machine.execAck p seq s
  | .nak p seq => Sys2Proof.Machine.execNak p seq s
  | .creditReturnDue p vl => Sys2Proof.Machine.execCreditReturnDue p vl s
  | .csyncDue p => Sys2Proof.Machine.execCsyncDue p s
  | .ackDue p => Sys2Proof.Machine.execAckDue p s
  | .replayTimer p => Sys2Proof.Machine.execReplayTimer p s
  | .messageDamaged p why vl cells fwd => Sys2Proof.Machine.execMessageDamaged p why vl cells fwd s
  | .messageForward p m => Sys2Proof.Machine.execMessageForward p m s
  | .quiet p => Sys2Proof.Machine.execQuiet p s
  | .becomeCandidate => Sys2Proof.Machine.execBecomeCandidate s
  | .beacon p m => Sys2Proof.Machine.execBeacon p m s
  | .beaconBackoffExpiry => Sys2Proof.Machine.execBeaconBackoffExpiry s
  | .electionWin => Sys2Proof.Machine.execElectionWin s
  | .walk => Sys2Proof.Machine.execWalk s
  | .partialWalk a => Sys2Proof.Machine.execPartialWalk a s
  | .walkStart p m => Sys2Proof.Machine.execWalkStart p m s
  | .token m => Sys2Proof.Machine.execToken m s
  | .join p m => Sys2Proof.Machine.execJoin p m s
  | .addrAssign m => Sys2Proof.Machine.execAddrAssign m s
  | .tokenEnd p m => Sys2Proof.Machine.execTokenEnd p m s
  | .walkTimeout => Sys2Proof.Machine.execWalkTimeout s
  | .topoBreak p m => Sys2Proof.Machine.execTopoBreak p m s
  | .topoUpdate m => Sys2Proof.Machine.execTopoUpdate m s
  | .resetCmd p m => Sys2Proof.Machine.execResetCmd p m s
  | .devEvt p m => Sys2Proof.Machine.execDevEvt p m s
  | .tunRdReq p m => Sys2Proof.Machine.execTunRdReq p m s
  | .tunWr p m => Sys2Proof.Machine.execTunWr p m s
  | .tunInt p m => Sys2Proof.Machine.execTunInt p m s
  | .tunRdCpl p m => Sys2Proof.Machine.execTunRdCpl p m s
  | .rmtOp p m => Sys2Proof.Machine.execRmtOp p m s
  | .rmtDone p m => Sys2Proof.Machine.execRmtDone p m s
  | .winRd p m ans => Sys2Proof.Machine.execWinRd p m ans s
  | .winWr p m => Sys2Proof.Machine.execWinWr p m s
  | .winCpl p m => Sys2Proof.Machine.execWinCpl p m s
  | .enuRstCmd dst all key => Sys2Proof.Machine.execEnuRstCmd dst all key s
  | .enuTabWrite m u word data => Sys2Proof.Machine.execEnuTabWrite m u word data s
  | .enuBypass on => Sys2Proof.Machine.execEnuBypass on s
  | .propose => Sys2Proof.Machine.execPropose s
  | .cancel => Sys2Proof.Machine.execCancel s
  | .sleepPropose m => Sys2Proof.Machine.execSleepPropose m s
  | .sleepReadyVote => Sys2Proof.Machine.execSleepReadyVote s
  | .voteWaitExpiry => Sys2Proof.Machine.execVoteWaitExpiry s
  | .sleepVote p m => Sys2Proof.Machine.execSleepVote p m s
  | .voteMissingTimeout => Sys2Proof.Machine.execVoteMissingTimeout s
  | .nakWake p m => Sys2Proof.Machine.execNakWake p m s
  | .sleepCommit m => Sys2Proof.Machine.execSleepCommit m s
  | .sleepAbort m => Sys2Proof.Machine.execSleepAbort m s
  | .chainWakeDetect => Sys2Proof.Machine.execChainWakeDetect s
  | .wakeToneDone => Sys2Proof.Machine.execWakeToneDone s
  | .harTrainTimeout l => Sys2Proof.Machine.execHarTrainTimeout l s
  | .harWordLock l phase => Sys2Proof.Machine.execHarWordLock l phase s
  | .harWordLockLost l => Sys2Proof.Machine.execHarWordLockLost l s
  | .harEnumReturn l count ringNs => Sys2Proof.Machine.execHarEnumReturn l count ringNs s
  | .idr l pos w0 w1 good => Sys2Proof.Machine.execIdr l pos w0 w1 good s
  | .cfga l pos good => Sys2Proof.Machine.execCfga l pos good s
  | .rsp l pos words good => Sys2Proof.Machine.execRsp l pos words good s
  | .harReplyTimeout l => Sys2Proof.Machine.execHarReplyTimeout l s
  | .harSettleExpiry => Sys2Proof.Machine.execHarSettleExpiry s
  | .harLinkWaitExpiry => Sys2Proof.Machine.execHarLinkWaitExpiry s
  | .harLinkEn l en => Sys2Proof.Machine.execHarLinkEn l en s
  | .harRetrain l => Sys2Proof.Machine.execHarRetrain l s
  | .fifoPush n p => Sys2Proof.Machine.execFifoPush n p s
  | .fifoPop n fabric p => Sys2Proof.Machine.execFifoPop n fabric p s
  | .sfqPopW0 n p => Sys2Proof.Machine.execSfqPopW0 n p s
  | .discardPkt n fabric => Sys2Proof.Machine.execDiscardPkt n fabric s
  | .discardRemoval n p => Sys2Proof.Machine.execDiscardRemoval n p s
  | .flush n => Sys2Proof.Machine.execFlush n s
  | .sfqCfgWrite n data => Sys2Proof.Machine.execSfqCfgWrite n data s
  | .sfqWmWrite n data => Sys2Proof.Machine.execSfqWmWrite n data s
  | .sfqPinWrite data => Sys2Proof.Machine.execSfqPinWrite data s
  | .sfqXctxWrite n data => Sys2Proof.Machine.execSfqXctxWrite n data s
  | .canIntegrated n => Sys2Proof.Machine.execCanIntegrated n s
  | .canStartOfFrame n => Sys2Proof.Machine.execCanStartOfFrame n s
  | .canArbitrationLost n => Sys2Proof.Machine.execCanArbitrationLost n s
  | .canFrameSent n delay => Sys2Proof.Machine.execCanFrameSent n delay s
  | .canTxError n kind dataPhase => Sys2Proof.Machine.execCanTxError n kind dataPhase s
  | .canSuspendTransmissionEnd n => Sys2Proof.Machine.execCanSuspendTransmissionEnd n s
  | .canFrameReceived n id ide rtr fdf brs esi dlc data ago => Sys2Proof.Machine.execCanFrameReceived n id ide rtr fdf brs esi dlc data ago s
  | .canRxError n kind dataPhase dominant => Sys2Proof.Machine.execCanRxError n kind dataPhase dominant s
  | .canRecover n => Sys2Proof.Machine.execCanRecover n s
  | .canRecoveryDone n => Sys2Proof.Machine.execCanRecoveryDone n s
  | .canErrcWrite n data => Sys2Proof.Machine.execCanErrcWrite n data s
  | .vbuRxTimeout tag => Sys2Proof.Machine.execVbuRxTimeout tag s
  | .canWuf n id ide dlc data => Sys2Proof.Machine.execCanWuf n id ide dlc data s
  | .fecWake n bad => Sys2Proof.Machine.execFecWake n bad s
  | .linBreak m id div ago => Sys2Proof.Machine.execLinBreak m id div ago s
  | .linResponse m data cs framing mismatch => Sys2Proof.Machine.execLinResponse m data cs framing mismatch s
  | .linResponseTimeout m => Sys2Proof.Machine.execLinResponseTimeout m s
  | .linBusIdle m => Sys2Proof.Machine.execLinBusIdle m s
  | .linWake m => Sys2Proof.Machine.execLinWake m s
  | .linWakeRx m => Sys2Proof.Machine.execLinWakeRx m s
  | .linWakePulse m => Sys2Proof.Machine.execLinWakePulse m s
  | .sentFrame k cal status nibbles crc ago => Sys2Proof.Machine.execSentFrame k cal status nibbles crc ago s
  | .ospGainStep attack => Sys2Proof.Machine.execOspGainStep attack s
  | .ospPreambleDetect corr => Sys2Proof.Machine.execOspPreambleDetect corr s
  | .ospSyncMatch bits offset milliDb ago => Sys2Proof.Machine.execOspSyncMatch bits offset milliDb ago s
  | .ospSyncWaitExpiry => Sys2Proof.Machine.execOspSyncWaitExpiry s
  | .ospDataItem groups => Sys2Proof.Machine.execOspDataItem groups s
  | .ospPacketEnd groups => Sys2Proof.Machine.execOspPacketEnd groups s
  | .ospTxStart => Sys2Proof.Machine.execOspTxStart s
  | .ospRepetitionEnd => Sys2Proof.Machine.execOspRepetitionEnd s
  | .ospGapExpiry => Sys2Proof.Machine.execOspGapExpiry s
  | .ospTrExpiry => Sys2Proof.Machine.execOspTrExpiry s
  | .ospSclkLost => Sys2Proof.Machine.execOspSclkLost s
  | .ospSclkReturn => Sys2Proof.Machine.execOspSclkReturn s
  | .ospFsMeasure fs => Sys2Proof.Machine.execOspFsMeasure fs s
  | .ospRxTimeout => Sys2Proof.Machine.execOspRxTimeout s
  | .ospRxEnWrite on => Sys2Proof.Machine.execOspRxEnWrite on s
  | .ppsInEdge falling sub => Sys2Proof.Machine.execPpsInEdge falling sub s
  | .ppsInLoss => Sys2Proof.Machine.execPpsInLoss s
  | .timeBeacon m good sub residence => Sys2Proof.Machine.execTimeBeacon m good sub residence s
  | .beaconLoss => Sys2Proof.Machine.execBeaconLoss s
  | .wholeSecond => Sys2Proof.Machine.execWholeSecond s
  | .ppsOutEnd => Sys2Proof.Machine.execPpsOutEnd s
  | .timeBeaconSend => Sys2Proof.Machine.execTimeBeaconSend s
  | .dlyReqDue => Sys2Proof.Machine.execDlyReqDue s
  | .dlyReq port m residence => Sys2Proof.Machine.execDlyReq port m residence s
  | .dlyResp m sub => Sys2Proof.Machine.execDlyResp m sub s
  | .holdLimitExpiry => Sys2Proof.Machine.execHoldLimitExpiry s
  | .tcxoLost => Sys2Proof.Machine.execTcxoLost s
  | .tcxoReturn => Sys2Proof.Machine.execTcxoReturn s
  | .tbuCtlWrite data => Sys2Proof.Machine.execTbuCtlWrite data s
  | .tagFieldOn => Sys2Proof.Machine.execTagFieldOn s
  | .tagFieldLost => Sys2Proof.Machine.execTagFieldLost s
  | .tagSessionEnd => Sys2Proof.Machine.execTagSessionEnd s
  | .inventory afi len mask sixteen => Sys2Proof.Machine.execInventory afi len mask sixteen s
  | .stayQuiet r => Sys2Proof.Machine.execStayQuiet r s
  | .readMultipleBlocks r first count => Sys2Proof.Machine.execReadMultipleBlocks r first count s
  | .extendedReadMultipleBlocks r first count => Sys2Proof.Machine.execExtendedReadMultipleBlocks r first count s
  | .lockBlock r b => Sys2Proof.Machine.execLockBlock r b s
  | .extendedLockBlock r b => Sys2Proof.Machine.execExtendedLockBlock r b s
  | .tagUnsupportedCommand r => Sys2Proof.Machine.execTagUnsupportedCommand r s
  | .tagSnapshotDone => Sys2Proof.Machine.execTagSnapshotDone s
  | .tagLockProgrammed ok => Sys2Proof.Machine.execTagLockProgrammed ok s
  | .tagShadowProgrammed ok => Sys2Proof.Machine.execTagShadowProgrammed ok s
  | .tagPageCommit => Sys2Proof.Machine.execTagPageCommit s
  | .tagLockCmd data => Sys2Proof.Machine.execTagLockCmd data s
  | .tagLockGroupProgrammed => Sys2Proof.Machine.execTagLockGroupProgrammed s
  | .tagLockGroupCommit => Sys2Proof.Machine.execTagLockGroupCommit s
  | .loadKey key slot => Sys2Proof.Machine.execLoadKey key slot s
  | .clearKey key slot => Sys2Proof.Machine.execClearKey key slot s
  | .bind key range slot => Sys2Proof.Machine.execBind key range slot s
  | .rekey key range slot => Sys2Proof.Machine.execRekey key range slot s
  | .erase key range unbind => Sys2Proof.Machine.execErase key range unbind s
  | .kiteInstruction turns ferr lerr ans => Sys2Proof.Machine.execKiteInstruction turns ferr lerr ans s
  | .mtimerInterrupt => Sys2Proof.Machine.execMtimerInterrupt s
  | .kitMsip on => Sys2Proof.Machine.execKitMsip on s
  | .fwCheckStart region => Sys2Proof.Machine.execFwCheckStart region s
  | .fwCheckDone => Sys2Proof.Machine.execFwCheckDone s
  | .wdtEnable => Sys2Proof.Machine.execWdtEnable s
  | .wdtService m key => Sys2Proof.Machine.execWdtService m key s
  | .mbxH2kSend => Sys2Proof.Machine.execMbxH2kSend s
  | .mbxH2kDone => Sys2Proof.Machine.execMbxH2kDone s
  | .mbxK2hSend => Sys2Proof.Machine.execMbxK2hSend s
  | .mbxK2hDone => Sys2Proof.Machine.execMbxK2hDone s
  | .ping => Sys2Proof.Machine.execPing s
  | .info => Sys2Proof.Machine.execInfo s
  | .check => Sys2Proof.Machine.execCheck s
  | .policyApply => Sys2Proof.Machine.execPolicyApply s
  | .nightlyDue service => Sys2Proof.Machine.execNightlyDue service s
  | .wearSummaryDue buf hours top topCount startNo => Sys2Proof.Machine.execWearSummaryDue buf hours top topCount startNo s
  | .tlmScan samples busy => Sys2Proof.Machine.execTlmScan samples busy s
  | .tlmLogDue => Sys2Proof.Machine.execTlmLogDue s
  | .tlmLogBeat => Sys2Proof.Machine.execTlmLogBeat s
  | .alarmTest on => Sys2Proof.Machine.execAlarmTest on s
  | .lcyAdvance target key => Sys2Proof.Machine.execLcyAdvance target key s
  | .lcyAdvanceDone ok => Sys2Proof.Machine.execLcyAdvanceDone ok s
  | .bistStart => Sys2Proof.Machine.execBistStart s
  | .bistPatternsDone sig => Sys2Proof.Machine.execBistPatternsDone sig s
  | .bistWaitTimeout => Sys2Proof.Machine.execBistWaitTimeout s
  | .tapReset => Sys2Proof.Machine.execTapReset s
  | .extest cells => Sys2Proof.Machine.execExtest cells s
  | .idcode => Sys2Proof.Machine.execIdcode s
  | .samplePreload cells => Sys2Proof.Machine.execSamplePreload cells s
  | .highz => Sys2Proof.Machine.execHighz s
  | .clamp => Sys2Proof.Machine.execClamp s
  | .bypass => Sys2Proof.Machine.execBypass s
  | .regionsPoweredDown => Sys2Proof.Machine.execRegionsPoweredDown s
  | .handshakeSideWrite n g v => Sys2Proof.Machine.execHandshakeSideWrite n g v s
  | .clockSideRead n g => Sys2Proof.Machine.execClockSideRead n g s
  | .controlBlockDiscard p => Sys2Proof.Machine.execControlBlockDiscard p s
  | .strayDataBlock p => Sys2Proof.Machine.execStrayDataBlock p s
  | .frmErr => Sys2Proof.Machine.execFrmErr s

end Sys2Proof.Machine
end

