-- ==== Sys2Proof/Machine/Step.lean ====
section
/-! DEFINITION. One step: the command at the front of the queue, or the passing of time on an empty queue. -/
namespace Sys2Proof.Machine

/-- Time passes by one TCXO cycle of 40 ns: the model's clock, the timebase and Kite's timer advance (log entry 1). -/
def idle (s : State) : State := kiteTick (tbuTick { s with clk := s.clk + 40 })

/-- One step: run the command at the front of the queue with the queue's rest; with no command waiting, time passes. -/
def step (s : State) : Host.Outcome State Fault Refusal :=
  match s.pending with
  | [] => .next (idle s)
  | c :: t => exec c { s with pending := t }

/-- `s` with the command that a word spells at the front of its queue; no row of the table gives bits, so no word spells one. -/
def State.withFetchWord (s : State) (nbits w : Nat) : State :=
  match Sys2Proof.decodeTableWord nbits w with
  | some c => { s with pending := c :: s.pending }
  | none => s

end Sys2Proof.Machine
end

