-- ==== Sys2Proof/Machine/Touches.lean ====
section
/-! DEFINITION. What each command can change: the parts of the state beside the registers, and the blocks of register space. A command
leaves every other part and block as it was (the statement Frame). -/
namespace Sys2Proof.Machine

/-- A part of the state beside the queue and the registers. -/
inductive Part where
  | mem | memFill | free | out | ctxs | ops | nextTag | rounds | ledger | hif | pwr | doms | banks | log | tbu | nv | planeMem | fifos | clk | fab
  | boot | stage | ho | planeFill | dep | flash | flashFill | keys | prevEpoch | load | kite | tlm | scrUnbind | nva | nvIncomplete | nvFill | ports
  | enu | har | vbu | osp | tag | tagMem | bst | lcy | tap | regDue | regPart
  deriving DecidableEq, Repr

/-- The part is the same in both states. -/
def Part.same (p : Part) (s t : State) : Prop :=
  match p with
  | .mem => t.mem = s.mem
  | .memFill => t.memFill = s.memFill
  | .free => t.free = s.free
  | .out => t.out = s.out
  | .ctxs => t.ctxs = s.ctxs
  | .ops => t.ops = s.ops
  | .nextTag => t.nextTag = s.nextTag
  | .rounds => t.rounds = s.rounds
  | .ledger => t.ledger = s.ledger
  | .hif => t.hif = s.hif
  | .pwr => t.pwr = s.pwr
  | .doms => t.doms = s.doms
  | .banks => t.banks = s.banks
  | .log => t.log = s.log
  | .tbu => t.tbu = s.tbu
  | .nv => t.nv = s.nv
  | .planeMem => t.planeMem = s.planeMem
  | .fifos => t.fifos = s.fifos
  | .clk => t.clk = s.clk
  | .fab => t.fab = s.fab
  | .boot => t.boot = s.boot
  | .stage => t.stage = s.stage
  | .ho => t.ho = s.ho
  | .planeFill => t.planeFill = s.planeFill
  | .dep => t.dep = s.dep
  | .flash => t.flash = s.flash
  | .flashFill => t.flashFill = s.flashFill
  | .keys => t.keys = s.keys
  | .prevEpoch => t.prevEpoch = s.prevEpoch
  | .load => t.load = s.load
  | .kite => t.kite = s.kite
  | .tlm => t.tlm = s.tlm
  | .scrUnbind => t.scrUnbind = s.scrUnbind
  | .nva => t.nva = s.nva
  | .nvIncomplete => t.nvIncomplete = s.nvIncomplete
  | .nvFill => t.nvFill = s.nvFill
  | .ports => t.ports = s.ports
  | .enu => t.enu = s.enu
  | .har => t.har = s.har
  | .vbu => t.vbu = s.vbu
  | .osp => t.osp = s.osp
  | .tag => t.tag = s.tag
  | .tagMem => t.tagMem = s.tagMem
  | .bst => t.bst = s.bst
  | .lcy => t.lcy = s.lcy
  | .tap => t.tap = s.tap
  | .regDue => t.regDue = s.regDue
  | .regPart => t.regPart = s.regPart

/-- The parts of the state, and the blocks of register space by number (bits 20:16 of the offset), that a command may change. -/
def touches (i : Instr) : List Part × List Nat :=
  match i with
  | .regWrite .. | .wideLowWrite .. | .wideHighWrite .. =>
    ([.mem, .memFill, .free, .out, .ctxs, .ops, .ledger, .hif, .pwr, .doms, .banks, .log, .tbu, .nv, .fifos, .fab, .boot, .ho, .dep, .keys, .prevEpoch,
     .load, .kite, .tlm, .scrUnbind, .nva, .nvFill, .ports, .enu, .har, .vbu, .osp, .tag, .bst, .lcy, .tap], List.range 32)
  | .wideLowRead .. | .sfqPopW0 .. | .discardRemoval .. | .flush .. | .sfqCfgWrite .. | .sfqWmWrite .. =>
    ([.out, .ctxs, .hif, .fifos, .ports, .har], [7, 9, 10, 12, 13, 19])
  | .hostBar4Read .. =>
    ([.free, .out, .ctxs, .hif, .fifos, .nva, .ports, .har], [5, 6, 7, 9, 10, 11, 12, 13, 19, 23])
  | .hostBar4Write .. | .hostReadCompletion .. | .copy .. | .fill .. | .nvaRead .. | .tagRead .. | .flashReadDone .. | .winWr .. | .fifoPop ..
  | .kiteInstruction .. =>
    ([.mem, .memFill, .free, .out, .ctxs, .ops, .ledger, .hif, .pwr, .doms, .banks, .log, .tbu, .nv, .fifos, .fab, .boot, .ho, .dep, .keys, .prevEpoch,
     .load, .kite, .tlm, .scrUnbind, .nva, .nvFill, .ports, .enu, .har, .vbu, .osp, .tag, .bst, .lcy, .tap, .regDue, .regPart], List.range 32)
  | .hostConfigWrite .. | .hostLinkUp .. | .hostLinkLoss .. | .walk .. | .partialWalk .. | .tokenEnd .. | .walkTimeout .. | .topoBreak .. =>
    ([.mem, .out, .ctxs, .ops, .ledger, .hif, .ports, .enu], [7, 8, 9, 10, 11, 19])
  | .hostCompletionTimeout .. =>
    ([.mem, .out, .ctxs, .ops, .ledger, .hif, .tlm, .ports], [6, 7, 8, 9, 10, 11, 19])
  | .windowReadTimeout .. =>
    ([.out, .hif], [7])
  | .perstFall .. =>
    ([.mem, .out, .ctxs, .ops, .ledger, .hif, .doms, .log, .ports, .enu], [2, 6, 7, 8, 9, 10, 11, 19])
  | .perstRise .. =>
    ([], [7])
  | .msixUnmask .. =>
    ([.out], [7])
  | .modTimeExpiry .. =>
    ([.out, .ctxs, .ports], [7, 9, 10])
  | .dispatch .. =>
    ([.mem, .out, .ctxs, .ops, .nextTag, .rounds, .ledger, .ports, .enu], [7, 8, 9, 10, 19])
  | .returnAccepted .. =>
    ([.mem, .out, .ctxs, .ops, .ledger, .doms, .log, .ports], [2, 7, 8, 9, 10, 19])
  | .fenceTimeout .. =>
    ([.mem, .out, .ctxs, .ledger, .ports], [7, 8, 9, 10, 19])
  | .fetch .. =>
    ([.out, .ctxs, .hif, .ports], [9, 10])
  | .fetchComplete .. =>
    ([.mem, .out, .ctxs, .ledger, .hif, .ports], [6, 7, 8, 9, 10, 19])
  | .doorbellSqPi .. | .doorbellCqCi .. =>
    ([.out, .ports, .enu], [7, 8, 9, 10, 11])
  | .contextEnable .. =>
    ([.out, .ctxs, .ledger, .hif, .ports], [7, 8, 9, 10, 19])
  | .contextDisable .. =>
    ([.ctxs, .ledger], [8, 9])
  | .ledgerAudit .. =>
    ([.ledger], [9])
  | .auditCompareDone .. | .ldgRelease .. =>
    ([.out, .ctxs, .ledger, .hif, .fifos, .ports], [0, 7, 8, 9, 10, 19])
  | .auditChainRelook .. =>
    ([.out, .ctxs, .ledger, .hif, .ports], [0, 7, 8, 9, 10, 19])
  | .ldgBufLend .. =>
    ([], [9])
  | .ldgCtlWrite .. | .alarmTest .. =>
    ([.out, .hif, .ports], [0, 7, 9, 10, 19])
  | .nop .. | .fence .. | .vbuCtrlStatus .. | .tbuStampRead .. | .fabCallAnswer .. =>
    ([.ops, .tlm], [])
  | .vbuTx .. =>
    ([.out, .ops, .hif, .tlm, .ports, .vbu], [6, 7, 9, 10, 14, 19])
  | .vbuRxArm .. | .vbuRxTimeout .. =>
    ([.ops, .tlm], [14])
  | .vbuCtrlStart .. | .vbuCtrlStop .. | .vbuCtrlRecover .. | .vbuCtrlAbortTx .. | .canArbitrationLost .. | .canTxError .. | .canRxError ..
  | .canRecoveryDone .. =>
    ([.ops, .tlm, .vbu], [14])
  | .vbuCtrlWriteRegs .. =>
    ([.out, .ops, .tlm, .vbu], List.range 32)
  | .harScan .. | .harEnumReturn .. | .cfga .. =>
    ([.out, .ops, .hif, .tlm, .ports, .har], [6, 7, 9, 10, 12, 19])
  | .harNetmapLoad .. =>
    ([.mem, .out, .ops, .hif, .tlm, .ports, .regDue, .regPart], [6, 7, 9, 10, 19])
  | .ospTx .. =>
    ([.out, .ops, .hif, .tlm, .ports, .osp], [6, 7, 9, 10, 15, 19])
  | .ospRx .. =>
    ([.free, .out, .ops, .tlm, .osp], [15])
  | .fabCall .. =>
    ([.out, .ops, .tlm], [])
  | .nvaProg .. =>
    ([.free, .out, .ops, .hif, .nv, .tlm, .nva, .nvFill, .ports], [5, 6, 7, 9, 10, 19])
  | .nvaErase .. | .nvaProgramDone .. =>
    ([.free, .out, .ops, .hif, .nv, .tlm, .nva, .nvFill, .ports], [5, 7, 9, 10, 19])
  | .tbuStampSet .. =>
    ([.out, .ops, .hif, .tbu, .tlm, .ports], [7, 9, 10, 16, 19])
  | .tbuStampSlew .. =>
    ([.ops, .tbu, .tlm], [])
  | .cfgStage .. =>
    ([.out, .ops, .hif, .planeMem, .stage, .planeFill, .dep, .keys, .prevEpoch, .tlm, .ports], [0, 3, 4, 7, 9, 10, 18, 19])
  | .cfgHandover .. =>
    ([.out, .ops, .pwr, .doms, .banks, .log, .ho, .tlm, .tap], [2, 3, 6])
  | .depWriteImage .. | .depWriteData .. | .depWriteSlot .. | .depWriteFormat .. | .depReadSlot .. | .depReadRaw .. | .depReadDirectory ..
  | .depotScrubDue .. | .bind .. | .rekey .. =>
    ([.out, .ops, .hif, .dep, .keys, .prevEpoch, .tlm, .ports], [0, 4, 7, 9, 10, 18, 19])
  | .tagWrite .. =>
    ([.out, .ops, .hif, .tlm, .ports, .tag], [6, 7, 9, 10, 17, 19])
  | .bnkMarch .. | .bnkPower .. =>
    ([.ops, .doms, .banks, .log, .tlm], [2, 6])
  | .bstRun .. | .bistWaitTimeout .. =>
    ([.ops, .tlm], [21])
  | .trimWindowDue .. | .trimDeferFall .. | .trimMaxdeferExpiry .. | .driftAlert .. | .islandLossOfLock .. | .islandRelock .. | .gateClockWrite .. =>
    ([.fab], [23])
  | .trimStep .. | .alertTrimStep .. | .staticInputChange .. | .handshakeSideWrite .. =>
    ([.fab], [])
  | .paceGateEnd .. | .fabPaceClr .. | .fabGateOvfClear .. =>
    ([], [23])
  | .gateHandshakePop .. | .clockSideRead .. =>
    ([.out, .fab], [])
  | .socketBurst .. =>
    ([.mem, .free, .out, .hif, .nva, .ports, .regDue, .regPart], [5, 6, 7, 9, 10, 19, 23])
  | .fabWindowAccess .. | .fabWindowTimeout .. =>
    ([.out, .fab], [23])
  | .powerOnReset .. | .brownOutVcc .. | .brownOutVccowl .. | .rstNFall .. | .sleepEntryDone .. =>
    ([.mem, .memFill, .free, .out, .ctxs, .ops, .rounds, .ledger, .hif, .pwr, .doms, .banks, .log, .tbu, .nv, .fifos, .fab, .boot, .stage, .ho, .dep,
     .flash, .flashFill, .load, .kite, .tlm, .nva, .nvIncomplete, .ports, .enu, .har, .vbu, .osp, .tag, .bst, .lcy, .tap], List.range 32)
  | .powerGoodEvent .. | .rstNRise .. =>
    ([.pwr], [])
  | .s0Complete .. =>
    ([.pwr, .log], [1, 2, 3])
  | .pwrgrantInHigh .. | .grantTimeout .. =>
    ([.pwr], [1])
  | .mgmtGroupPowered .. | .s3GroupPowered .. | .bootSourceFail .. | .imageReqRetry .. | .roundEnd .. | .roundAbort .. | .chainTryTimeout .. =>
    ([.out, .ops, .hif, .pwr, .doms, .banks, .log, .tbu, .fab, .boot, .ho, .dep, .keys, .prevEpoch, .load, .kite, .tlm, .ports, .bst], [0, 1, 2, 3, 4, 5, 6, 7, 9, 10, 16, 18, 19, 21, 23])
  | .s2BankPowered .. =>
    ([.mem, .memFill, .out, .ops, .hif, .pwr, .doms, .banks, .log, .tbu, .fab, .ho, .kite, .tlm, .ports, .bst], [1, 2, 3, 6, 7, 9, 10, 16, 19, 21, 23])
  | .s4WaveDone .. =>
    ([.free, .out, .ops, .hif, .pwr, .doms, .banks, .log, .fab, .ho, .tlm, .ports, .bst], [1, 2, 3, 6, 7, 9, 10, 19, 21, 23])
  | .grantPoint .. =>
    ([.out], [1])
  | .brownOutSer .. | .laneBlockLockLost .. | .laneFrameLockLost .. | .trainTimeout .. | .chnPortEn .. | .chnRetrain .. | .chnPrbs .. | .nak ..
  | .replayTimer .. =>
    ([.mem, .out, .ctxs, .ops, .ledger, .hif, .pwr, .doms, .banks, .log, .tbu, .fab, .boot, .ho, .dep, .keys, .prevEpoch, .load, .kite, .tlm, .ports, .enu,
     .bst], [0, 1, 2, 3, 4, 5, 6, 7, 8, 9, 10, 11, 16, 18, 19, 21, 23])
  | .brownOutIo .. =>
    ([.out, .hif, .pwr, .ports], [0, 1, 7, 9, 10, 19])
  | .railReturn .. | .wakeToneDone .. =>
    ([.out, .pwr], [])
  | .pwrCtlIdle .. =>
    ([.pwr, .doms, .log], [1, 2, 6])
  | .pwrCtlRun .. =>
    ([.out, .ops, .hif, .pwr, .doms, .log, .fab, .ho, .tlm, .ports, .bst], [1, 2, 3, 6, 7, 9, 10, 19, 21, 23])
  | .idleEntryDone .. =>
    ([.out, .ops, .hif, .pwr, .doms, .log, .fab, .ho, .tlm, .ports, .bst, .tap], [1, 2, 3, 6, 7, 9, 10, 19, 21, 23])
  | .idleExitDone .. =>
    ([.free, .out, .ctxs, .ops, .hif, .pwr, .doms, .banks, .log, .fifos, .fab, .ho, .tlm, .ports, .har, .vbu, .osp, .bst, .tap], [1, 2, 6, 7, 9, 10, 12, 13, 15, 19, 21, 23])
  | .sleepEntry .. =>
    ([.out, .pwr, .doms, .log], [1, 2, 6])
  | .wakeInPin .. | .wakeTimerExpiry .. | .chainWakeDetect .. | .linWakePulse .. =>
    ([.out, .pwr, .ports, .enu], [1, 3, 9, 10, 11])
  | .wakePerst .. =>
    ([.out, .pwr, .ports, .enu], [1, 3, 7, 9, 10, 11])
  | .rstDomReq .. =>
    ([.doms, .log], [2, 6])
  | .rstDomHold .. | .domainReady .. =>
    ([.free, .out, .ctxs, .ops, .hif, .doms, .banks, .log, .fifos, .ho, .tlm, .ports, .har, .vbu, .osp, .bst, .tap], [2, 6, 7, 9, 10, 12, 13, 15, 19, 21])
  | .drainEnd .. =>
    ([.doms], [])
  | .abortsPosted .. =>
    ([.mem, .memFill, .free, .out, .ctxs, .ops, .ledger, .hif, .doms, .banks, .log, .fifos, .fab, .stage, .ho, .dep, .flash, .flashFill, .tlm, .nva,
     .nvIncomplete, .ports, .enu, .har, .vbu, .osp, .tag, .bst, .tap], [2, 3, 5, 6, 7, 8, 9, 10, 12, 13, 14, 15, 19, 21, 23])
  | .resetAssert .. =>
    ([.mem, .memFill, .free, .out, .ctxs, .ops, .rounds, .ledger, .hif, .pwr, .doms, .banks, .log, .tbu, .fifos, .fab, .boot, .stage, .ho, .dep, .flash,
     .flashFill, .keys, .prevEpoch, .load, .kite, .tlm, .nva, .nvIncomplete, .ports, .enu, .har, .vbu, .osp, .tag, .bst, .tap], List.range 32)
  | .resetRelease .. =>
    ([.free, .out, .ops, .hif, .pwr, .doms, .log, .tbu, .fab, .ho, .kite, .tlm, .ports, .bst], [1, 2, 3, 6, 7, 9, 10, 16, 19, 21, 23])
  | .readyTimeout .. =>
    ([.out, .hif, .log, .ports], [0, 2, 7, 9, 10, 19])
  | .rstUnit .. | .watchdogExpiry .. =>
    ([.mem, .memFill, .free, .out, .ctxs, .ops, .ledger, .pwr, .doms, .banks, .log, .ho, .ports, .enu], [2, 3, 6, 7, 8, 9, 10, 19])
  | .bootReadoutDone .. =>
    ([.out, .ops, .hif, .pwr, .doms, .banks, .log, .tbu, .fab, .boot, .ho, .load, .kite, .tlm, .ports, .bst], [1, 2, 3, 5, 6, 7, 9, 10, 16, 19, 21, 23])
  | .startupStepDone .. | .startupDelayExpiry .. | .startupLockDone .. =>
    ([.out, .ops, .hif, .pwr, .doms, .banks, .log, .fab, .ho, .tlm, .ports, .bst, .tap], [1, 2, 3, 6, 7, 9, 10, 19, 21, 23])
  | .startupLockTimeout .. =>
    ([.out, .ops, .hif, .pwr, .doms, .banks, .log, .fab, .ho, .tlm, .ports, .bst, .tap], [0, 1, 2, 3, 6, 7, 9, 10, 19, 21, 23])
  | .cfgStageEraseDone .. =>
    ([.planeMem, .stage, .planeFill], [])
  | .cfgStageFrame .. =>
    ([.out, .ops, .hif, .planeMem, .stage, .dep, .keys, .prevEpoch, .tlm, .ports], [0, 3, 4, 7, 9, 10, 18, 19])
  | .cfgStageReadbackDone .. =>
    ([.out, .ops, .hif, .stage, .dep, .keys, .prevEpoch, .tlm, .ports], [0, 3, 4, 7, 9, 10, 18, 19])
  | .handoverReadoutDone .. =>
    ([.out, .ops, .hif, .pwr, .doms, .banks, .log, .tbu, .fab, .ho, .kite, .tlm, .ports, .bst], [0, 1, 2, 3, 6, 7, 9, 10, 16, 19, 21, 23])
  | .cfgBootSel .. =>
    ([], [3])
  | .depotDiscovery .. =>
    ([.out, .ops, .hif, .boot, .dep, .keys, .prevEpoch, .tlm, .ports], [0, 4, 7, 9, 10, 18, 19])
  | .flashEraseDone .. =>
    ([.out, .ops, .hif, .dep, .flash, .flashFill, .keys, .prevEpoch, .tlm, .ports], [0, 4, 7, 9, 10, 18, 19])
  | .flashProgramDone .. =>
    ([.out, .ops, .hif, .dep, .flash, .keys, .prevEpoch, .tlm, .ports], [0, 4, 7, 9, 10, 18, 19])
  | .imageReq .. =>
    ([.out, .load, .ports], [9, 10, 11])
  | .reqAck .. | .chunkAck .. | .keyAck .. | .linkUp .. =>
    ([.out, .load, .ports], [9, 10])
  | .reqAckRepeat .. | .credit .. | .ack .. | .messageDamaged .. | .enuRstCmd .. | .dlyReq .. =>
    ([.out, .ports], [9, 10])
  | .loadRoundStart .. | .resend .. =>
    ([.out, .ops, .hif, .dep, .keys, .prevEpoch, .load, .tlm, .ports], [0, 4, 7, 9, 10, 18, 19])
  | .roundBegin .. | .chunk .. =>
    ([.out, .load, .ports], [4, 9, 10])
  | .nvaKey .. | .nvaSeqLapse .. | .readCounter .. | .nvaWpSet .. | .nvaWpClr .. | .nvaWpLock .. =>
    ([], [5])
  | .nvaCmd .. | .programLine .. | .programPage .. | .suspend .. | .resume .. | .nvaErasePulse .. | .nvaSuspendEffect .. | .nvaAutoResume ..
  | .nvScrubMarginRead .. | .nvScrubRefresh .. | .nvScrubStarve .. =>
    ([.nva], [5])
  | .eraseSector .. | .eraseBlock .. =>
    ([.free, .out, .hif, .nv, .nva, .nvFill, .ports], [5, 7, 9, 10, 19])
  | .nvaPageLatchLoaded .. =>
    ([.out, .hif, .nva, .ports], [5, 6, 7, 9, 10, 19])
  | .nvaEraseDone .. =>
    ([.free, .out, .ops, .hif, .nv, .tlm, .nva, .nvIncomplete, .nvFill, .ports], [5, 7, 9, 10, 19])
  | .nvLineRead .. =>
    ([.out, .hif, .nva, .ports], [5, 6, 7, 9, 10, 19, 23])
  | .bankAccess .. =>
    ([.mem, .free, .out, .ops, .hif, .banks, .ports, .regDue, .regPart], [6, 7, 9, 10, 19, 23])
  | .aliasWrite .. =>
    ([.mem, .out, .hif, .ports, .regDue, .regPart], [6, 7, 9, 10, 19])
  | .bankPowerStepDone .. =>
    ([.mem, .memFill, .out, .ops, .hif, .pwr, .doms, .banks, .log, .fab, .ho, .tlm, .ports, .bst], [1, 2, 3, 6, 7, 9, 10, 19, 21, 23])
  | .marchDone .. =>
    ([.mem, .memFill, .out, .ops, .hif, .pwr, .doms, .banks, .log, .tbu, .fab, .ho, .kite, .tlm, .ports, .bst], [0, 1, 2, 3, 6, 7, 9, 10, 16, 19, 21, 23])
  | .bnkFuseProg .. | .fuseBlowDone .. =>
    ([.banks], [6])
  | .laneBlockLock .. | .laneFrameLock .. =>
    ([.out], [10])
  | .train .. | .cap .. =>
    ([.mem, .free, .out, .ctxs, .ops, .ledger, .hif, .pwr, .doms, .banks, .log, .tbu, .fab, .boot, .ho, .dep, .keys, .prevEpoch, .load, .kite, .tlm,
     .ports, .enu, .bst], [0, 1, 2, 3, 4, 5, 6, 7, 8, 9, 10, 11, 16, 18, 19, 21, 23])
  | .keyBlock .. | .creditReturnDue .. | .ackDue .. =>
    ([.out, .ports], [])
  | .csync .. | .quiet .. =>
    ([.ports], [])
  | .csyncDue .. | .inventory .. | .tagUnsupportedCommand .. =>
    ([.out], [])
  | .messageForward .. | .becomeCandidate .. | .walkStart .. =>
    ([.out, .ports], [9, 10, 11])
  | .beacon .. | .token .. | .propose .. | .cancel .. | .voteMissingTimeout .. | .nakWake .. | .sleepAbort .. =>
    ([.out, .ports, .enu], [9, 10, 11])
  | .beaconBackoffExpiry .. | .sleepPropose .. =>
    ([.out, .ports, .enu], [9, 10])
  | .electionWin .. =>
    ([.mem, .out, .ctxs, .ops, .ledger, .hif, .ports, .enu], [0, 7, 8, 9, 10, 11, 19])
  | .join .. =>
    ([.out, .hif, .ports, .enu], [7, 9, 10, 11, 19])
  | .addrAssign .. =>
    ([.mem, .out, .ctxs, .ledger, .hif, .ports, .enu], [7, 8, 9, 10, 11, 19])
  | .topoUpdate .. =>
    ([.mem, .out, .ctxs, .ops, .ledger, .hif, .tlm, .ports, .enu], [7, 8, 9, 10, 11, 19])
  | .resetCmd .. =>
    ([.mem, .memFill, .free, .out, .ctxs, .ops, .ledger, .pwr, .doms, .banks, .log, .ho, .ports, .enu], [2, 3, 6, 7, 8, 9, 10, 11, 19])
  | .devEvt .. =>
    ([.out, .hif, .ports], [7, 9, 10, 11, 19])
  | .tunRdReq .. =>
    ([.out, .hif, .ports, .enu], [9, 10, 11])
  | .tunWr .. | .tunInt .. =>
    ([.out, .ports, .enu], [7, 9, 10, 11])
  | .tunRdCpl .. =>
    ([.mem, .out, .ctxs, .ops, .ledger, .hif, .tlm, .ports, .regDue, .regPart], [6, 7, 8, 9, 10, 11, 19])
  | .rmtOp .. =>
    ([.out, .ops, .nextTag, .ledger, .ports, .enu], [7, 9, 10, 11])
  | .rmtDone .. =>
    ([.mem, .out, .ctxs, .ops, .ledger, .ports], [7, 8, 9, 10, 11, 19])
  | .winRd .. =>
    ([.free, .out, .ctxs, .hif, .fifos, .nva, .ports, .enu, .har], [5, 6, 7, 9, 10, 11, 12, 13, 19, 23])
  | .winCpl .. =>
    ([.out, .hif, .ports], [9, 10, 11])
  | .enuTabWrite .. =>
    ([.hif], [11])
  | .enuBypass .. =>
    ([.out, .pwr], [11])
  | .sleepReadyVote .. | .voteWaitExpiry .. | .sleepVote .. | .sleepCommit .. =>
    ([.out, .pwr, .ports, .enu], [9, 10, 11])
  | .harTrainTimeout .. =>
    ([], [12])
  | .harWordLock .. =>
    ([.out], [12])
  | .harWordLockLost .. | .idr .. | .harSettleExpiry .. | .harLinkEn .. | .harRetrain .. =>
    ([.out, .har], [12])
  | .rsp .. | .harReplyTimeout .. =>
    ([.mem, .out, .ctxs, .ops, .hif, .fifos, .tlm, .ports, .har, .regDue, .regPart], [6, 7, 9, 10, 12, 13, 19])
  | .harLinkWaitExpiry .. =>
    ([.out, .ops, .tlm, .har], [12])
  | .fifoPush .. =>
    ([.out, .ctxs, .hif, .fifos, .ports, .har], [7, 9, 10, 13, 19])
  | .discardPkt .. =>
    ([.fifos], [13])
  | .sfqPinWrite .. =>
    ([.out, .har], [13])
  | .sfqXctxWrite .. =>
    ([], [13])
  | .canIntegrated .. | .canErrcWrite .. =>
    ([.vbu], [14])
  | .canStartOfFrame .. | .linBreak .. =>
    ([.out, .vbu], [14])
  | .canFrameSent .. | .linResponse .. | .linResponseTimeout .. =>
    ([.out, .ctxs, .ops, .hif, .fifos, .tlm, .ports, .har, .vbu], [7, 9, 10, 13, 14, 19])
  | .canSuspendTransmissionEnd .. =>
    ([.vbu], [])
  | .canFrameReceived .. =>
    ([.free, .out, .ctxs, .ops, .hif, .fifos, .tlm, .ports, .har, .vbu], [7, 9, 10, 13, 14, 19])
  | .canRecover .. | .linBusIdle .. | .linWakeRx .. =>
    ([], [14])
  | .canWuf .. | .fecWake .. =>
    ([.out, .pwr, .ports, .enu], [1, 3, 9, 10, 11, 14])
  | .linWake .. =>
    ([.out], [14])
  | .sentFrame .. =>
    ([.free, .out, .ctxs, .hif, .fifos, .ports, .har, .vbu], [7, 9, 10, 13, 14, 19])
  | .ospGainStep .. =>
    ([.out, .osp], [15])
  | .ospPreambleDetect .. =>
    ([.osp], [15])
  | .ospSyncMatch .. | .ospTxStart .. =>
    ([.out, .ctxs, .hif, .fifos, .ports, .har, .osp], [7, 9, 10, 13, 15, 19])
  | .ospSyncWaitExpiry .. | .ospTrExpiry .. | .ospSclkReturn .. =>
    ([.free, .out, .osp], [15])
  | .ospDataItem .. | .ospPacketEnd .. | .ospRxEnWrite .. =>
    ([.free, .out, .ctxs, .hif, .fifos, .ports, .har, .osp], [7, 9, 10, 13, 15, 19])
  | .ospRepetitionEnd .. =>
    ([.out, .ops, .tlm, .osp], [15])
  | .ospGapExpiry .. =>
    ([.osp], [])
  | .ospSclkLost .. =>
    ([.out, .ctxs, .ops, .hif, .fifos, .tlm, .ports, .har, .osp], [7, 9, 10, 13, 14, 15, 19])
  | .ospFsMeasure .. | .frmErr .. =>
    ([], [15])
  | .ospRxTimeout .. =>
    ([.free, .out, .ops, .tlm, .osp], [14, 15])
  | .ppsInEdge .. | .timeBeacon .. =>
    ([.free, .out, .hif, .tbu, .ports], [7, 9, 10, 16, 19])
  | .ppsInLoss .. | .beaconLoss .. | .wholeSecond .. | .tbuCtlWrite .. =>
    ([.out, .hif, .tbu, .ports], [7, 9, 10, 16, 19])
  | .ppsOutEnd .. =>
    ([.out, .tbu], [])
  | .timeBeaconSend .. | .dlyReqDue .. =>
    ([.out, .tbu, .ports], [9, 10])
  | .dlyResp .. =>
    ([.tbu, .ports], [10, 16])
  | .holdLimitExpiry .. =>
    ([.tbu], [16])
  | .tcxoLost .. | .tcxoReturn .. =>
    ([.out, .hif, .tbu, .ports], [7, 9, 10, 16, 19, 23])
  | .tagFieldOn .. | .tagLockCmd .. | .tagLockGroupCommit .. =>
    ([.tag], [17])
  | .tagFieldLost .. =>
    ([.mem, .free, .out, .ops, .hif, .tlm, .ports, .tag, .tagMem, .regDue, .regPart], [6, 7, 9, 10, 17, 19])
  | .tagSessionEnd .. =>
    ([.out, .hif, .ports, .tag], [7, 9, 10, 17, 19])
  | .stayQuiet .. | .tagLockGroupProgrammed .. =>
    ([.tag], [])
  | .readMultipleBlocks .. | .extendedReadMultipleBlocks .. | .lockBlock .. | .extendedLockBlock .. =>
    ([.out, .tag], [])
  | .tagSnapshotDone .. | .tagLockProgrammed .. =>
    ([.mem, .out, .ops, .hif, .tlm, .ports, .tag, .tagMem, .regDue, .regPart], [6, 7, 9, 10, 17, 19])
  | .tagShadowProgrammed .. =>
    ([.ops, .tlm, .tag], [17])
  | .tagPageCommit .. =>
    ([.ops, .tlm, .tag, .tagMem], [17])
  | .loadKey .. | .clearKey .. =>
    ([.keys], [18])
  | .erase .. =>
    ([.out, .ops, .hif, .dep, .keys, .prevEpoch, .tlm, .scrUnbind, .ports], [0, 4, 7, 9, 10, 18, 19])
  | .mtimerInterrupt .. | .wdtService .. =>
    ([.kite], [])
  | .kitMsip .. | .mbxH2kDone .. =>
    ([], [19])
  | .fwCheckStart .. | .wdtEnable .. | .check .. =>
    ([.kite], [19])
  | .fwCheckDone .. | .mbxH2kSend .. | .mbxK2hDone .. | .ping .. | .info .. | .policyApply .. =>
    ([.out, .hif, .kite, .ports], [7, 9, 10, 19])
  | .mbxK2hSend .. =>
    ([.out, .hif, .ports], [7, 9, 10, 19])
  | .nightlyDue .. | .wearSummaryDue .. =>
    ([.mem], [8])
  | .tlmScan .. =>
    ([.out, .hif, .pwr, .doms, .log, .tlm, .ports], [0, 1, 2, 6, 7, 9, 10, 19, 22])
  | .tlmLogDue .. =>
    ([.tlm], [22])
  | .tlmLogBeat .. =>
    ([.mem, .tlm], [22])
  | .lcyAdvance .. | .lcyAdvanceDone .. =>
    ([.lcy], [20])
  | .bistStart .. =>
    ([.doms, .log, .bst], [2, 6, 21])
  | .bistPatternsDone .. =>
    ([.doms, .bst], [21])
  | .tapReset .. | .extest .. | .idcode .. | .samplePreload .. | .highz .. | .clamp .. | .bypass .. =>
    ([.out, .tap], [])
  | .regionsPoweredDown .. =>
    ([.fab, .ho], [23])
  | .controlBlockDiscard .. | .strayDataBlock .. =>
    ([], [10])

end Sys2Proof.Machine
end

