-- ==== Sys2Proof/Safety.lean ====
section
/-! DEFINITION. What the statements say of a step: that it is safe, what a command does, and what it leaves as it was. -/
namespace Sys2Proof
open Machine

/-- The step from `s` ends in a next state: the block neither faults nor refuses. -/
def stepSafe (s : State) : Prop := ∃ t, step s = .next t

/-- Command `i` in state `s` answers a next state, of which `P` holds. -/
def Does (i : Instr) (s : State) (P : State → Prop) : Prop := ∃ t, exec i s = .next t ∧ P t

/-! ### Registers -/

/-- Registers whose write does what the field types say and no more (R11): every register of these blocks but the ones that a row
of the table or a rule of their own names. -/
def plainReg (a : Nat) : Bool :=
  match a / 0x10000 with
  | 0x01 => a != R.PWR_CTL
  | 0x03 => a != R.CFG_BOOT_SEL
  | 0x04 => true
  | 0x0F => a != R.OSP_CTL && a != R.OSP_CNT_CLR
  | 0x10 => a != R.TBU_CTL
  | 0x11 => a != R.TAG_LOCK_CMD
  | 0x14 => a != R.LCY_ADVANCE
  | 0x15 => true
  | 0x16 => a != R.TLM_CTL
  | 0x17 => a != R.FAB_PACE_CLR && a != R.FAB_GATE_OVF
  | _ => false

/-- Blocks whose registers may follow a change of an alarm source (R562, R274): DEV, HIF, LDG, CHN and KIT. -/
def alarmBlocks : List Nat := [0x00, 0x07, 0x09, 0x0A, 0x13]

/-- A register of `l`, or one in which an alarm shows, may differ; every other register reads the same. -/
def OnlyRegs (l : List Nat) (s t : State) : Prop := ∀ r, r ∉ l → blockOf r ∉ alarmBlocks → rd t r = rd s r

/-- Device event `k` is pending in HIF_DEV_PEND (R274). -/
def evtPending (s : State) (k : Nat) : Bool := bit (rd s R.HIF_DEV_PEND).toNat k

/-- The other master. -/
def otherMaster : Master → Master
  | .host => .kite
  | .kite => .host

/-! ### Contexts -/

/-- A record of the host's context `c` is written to host memory at once: not discarded, held back or queued behind held ones, and
over the unit's own link (R276, R288). -/
def writesNow (s : State) (c : Nat) : Bool :=
  !discards s c && !heldBack s c && decide ((ctx s c).heldRecs = []) && !kiteOwned s c && !isMember s

/-- The host write that puts the record with these words and PHASE in the next slot of context `c`'s completion ring (R286, R287). -/
def recordWrite (s : State) (c sq : Nat) (ws : List W32) (status detail : Nat) (r0 r1 : W32) : Out :=
  let w := recWords s c sq ws status detail r0 r1
  .hostWrite (cqBase s c + 32 * getf s (F.CTX_CQ_IDX_CQ_PI c))
    (wordsBytes (w.set 1 (w.getD 1 0#32 ||| w32 (phaseBit (ctx s c).nrec (cqSize s c) * 2 ^ 31))))

/-! ### Bytes of D-space -/

/-- The `n` bytes from `a` up lie in the plain window of the banks and every one can be written now. -/
def bankWritable (s : State) (a n : Nat) : Prop := a + n ≤ 0x800000 ∧ ∀ i < n, accessErr s (a + i) true = none

/-- The banks hold `bs` from `a` up, and every other byte is as it was. -/
def BankHas (s t : State) (a : Nat) (bs : List Byte) : Prop :=
  ∀ x, memByte t x = if a ≤ x ∧ x < a + bs.length then bs.getD (x - a) 0#8 else memByte s x

/-- No register write of a mover is under way or due. -/
def noRegDue (s : State) : Prop := s.regDue = [] ∧ s.regPart = none

/-! ### Kite -/

/-- The core runs and its next turn begins an instruction: no enabled interrupt is pending and it does not wait in WFI. -/
def kiteFree (s : State) : Bool := kiteRuns s && (kpending s).isNone && !s.kite.wfi

/-- The 32-bit word in BANK0 or BANK1 at the pc. -/
def kiteWord (s : State) : W32 := w32 (leNat ((List.range 4).map (fun i => memByte s (s.kite.pc.toNat + i))))

/-- The pc points at a 32-bit instruction in BANK0 or BANK1 that can be read, and it decodes to `q`. -/
def kiteAt (s : State) (q : KInstr) : Prop :=
  s.kite.pc.toNat + 4 ≤ 0x200000 ∧ accessErr s s.kite.pc.toNat false = none ∧ accessErr s (s.kite.pc.toNat + 2) false = none
  ∧ (kiteWord s).toNat % 4 = 3 ∧ kdecode (kiteWord s) = some q

/-- The instruction has retired with `v` in register `d` (x0 discards it) and the pc at `pc`; `turns` turns have passed. -/
def KiteRetired (s t : State) (turns d : Nat) (v pc : W32) : Prop :=
  t.kite.pc = pc ∧ (∀ r, kx t r = if r = d ∧ r ≠ 0 then v else kx s r)
  ∧ t.kite.minstret = (s.kite.minstret + 1) % 2 ^ 64 ∧ t.kite.mcycle = (s.kite.mcycle + max 2 turns) % 2 ^ 64

/-- A trap or interrupt has been taken with `cause`: pc, MIE and the cause are saved and the pc is at `pc` (R546). -/
def KiteTrapped (s t : State) (cause pc : W32) : Prop :=
  t.kite.mepc = s.kite.pc ∧ t.kite.mcause = cause ∧ t.kite.mpie = s.kite.mie ∧ t.kite.mie = false ∧ t.kite.pc = pc
  ∧ t.kite.x = s.kite.x

/-! ### Chain messages -/

/-- Message `m` waits on port `p`, or has gone out of it and is held until it is acknowledged (R331, R335). -/
def carries (s : State) (p : Nat) (m : Msg) : Prop :=
  (∃ w ∈ (port s p).waits, w.m = m) ∨ (∃ r ∈ (port s p).replay, r.m = m)

/-- Port `p`, where it was UP in `s`, carries message `m` in `t`. -/
def sends (s t : State) (p : Nat) (m : Msg) : Prop := portUp s p = true → carries t p m

/-- This unit's BEACON, as candidate or as head (Table 13-3). -/
def beaconOf (s : State) (head : Bool) : Msg :=
  ⟨0x01, ownAddr s, toAll, [w32 (b2n head * 2 ^ 8), w32 (ownPrio s), w32 (ownPrio s / 2 ^ 32)], []⟩

/-- The TOKEN of a walk with the next unit's hop number. -/
def tokenOf (addr hop walk : Nat) : Msg := ⟨0x03, addr, toNext, [w32 (hop * 2 ^ 8 + walk * 2 ^ 16)], []⟩

/-- A message for this unit arrives on port `p`, which is UP (R346). -/
def arrives (s : State) (p : Nat) (m : Msg) : Prop := portUp s p = true ∧ takesDst s m.dst = true

/-- The head has begun walk `w` from itself: the token is out of its DOWN port, or the walk is over where that is not UP (R348). -/
def walkBegun (s t : State) (w : Nat) : Prop :=
  t.enu.walk = w ∧ (if portUp s 1 then isSet t F.ENU_STAT_WALKING = true ∧ carries t 1 (tokenOf (ownAddr t) 1 w)
    else isSet t F.ENU_STAT_WALKING = false ∧ isSet t F.ENU_EVT_WALK_DONE = true)

/-- The units that REACH shows, as a mask. -/
def reachMask (s : State) : Nat := (rd s (R.ENU_REACH 0)).toNat + 2 ^ 32 * (rd s (R.ENU_REACH 1)).toNat

/-- The head has ended the sleep round with this cause and unit, and floods it (R361). -/
def roundEnded (s t : State) (cause unit : Nat) : Prop :=
  getf t F.ENU_SLEEP_STAT_PHASE = 0 ∧ getf t F.ENU_SLEEP_STAT_LAST = 2 ∧ getf t F.ENU_SLEEP_STAT_CAUSE = cause
  ∧ getf t F.ENU_SLEEP_STAT_UNIT = unit % 64 ∧ isSet t F.ENU_EVT_SLEEP_ABORTED = true ∧ t.enu.voted = false ∧ t.enu.voting = false
  ∧ sends s t 1 ⟨0x23, ownAddr s, toAll, [w32 (cause * 2 ^ 8 + unit * 2 ^ 16), w32 s.enu.round], []⟩

/-- The unit has taken SLEEP_COMMIT: entry into SLEEP follows, and QUIET has gone out of every port that is UP (R362). -/
def sleepTaken (s t : State) : Prop :=
  t.enu.committed = true ∧ t.enu.voting = false ∧ t.pwr.stage = .committed ∧ getf t F.ENU_SLEEP_STAT_PHASE = 3
  ∧ getf t F.ENU_SLEEP_STAT_LAST = 1 ∧ ∀ q < 2, portUp s q = true → .ctlBlock q 0x30 (s.enu.round % 4096) ∈ t.out

/-! ### Chain ports -/

/-- STATE of port `p` (Table 12-4). -/
def pst (s : State) (p : Nat) : Nat := getf s (F.CHN_PSTAT_STATE p)

/-- Port `p` is in BLOCK with this FAIL code: its locks and what it knew of its partner are gone, and it sends TRAIN (R320, Table 12-5). -/
def atBlock (t : State) (p fail : Nat) : Prop :=
  pst t p = 1 ∧ getf t (F.CHN_PSTAT_FAIL p) = fail ∧ getf t (F.CHN_PSTAT_BLK p) = 0 ∧ getf t (F.CHN_PSTAT_FRM p) = 0 ∧ port t p = {}
  ∧ ∀ lane < 2, .ctlBlock p 0x10 (lane + 4 * p + 128) ∈ t.out

/-- Port `p`, where it was UP, has lost its link: counted, with the messages of its replay buffer, and its books are empty (R338). -/
def linkLost (s t : State) (p : Nat) : Prop :=
  pst s p = 5 → getf t (F.CHN_CNT2_LINK_DOWNS p) = min 65535 (getf s (F.CHN_CNT2_LINK_DOWNS p) + 1)
    ∧ getf t (F.CHN_LOST_LOST_MSGS p) = min (2 ^ 32 - 1) (getf s (F.CHN_LOST_LOST_MSGS p) + (port s p).replay.length)
    ∧ isSet t (F.CHN_EVT_DOWN p) = true ∧ ∀ v < 4, rd t (R.LDG_CHN (4 * p + v)) = 0#32

/-- Port `p` is UP with key `k`: its books hold the partner's capacities, its counts are 0, and LINK_UP has gone out (R324, R333). -/
def linkIsUp (s t : State) (p k : Nat) : Prop :=
  pst t p = 5 ∧ (port t p).key = some k ∧ (port t p).txSeq = 0 ∧ (port t p).rxSeq = 0 ∧ (port t p).replay = []
  ∧ getf t (F.CHN_KEYGEN_KEYCHK p) = (crc32c (leBytes 16 k)).toNat % 65536
  ∧ getf t (F.CHN_KEYGEN_TRAININGS p) = min 65535 (getf s (F.CHN_KEYGEN_TRAININGS p) + 1)
  ∧ isSet t (F.CHN_EVT_UP p) = true ∧ .ctlBlock p 0x2C 0 ∈ t.out
  ∧ ∀ v < 4, getf t (F.LDG_CHN_CAP (4 * p + v)) = vlGet (port s p).caps v % 65536
      ∧ getf t (F.LDG_CHN_AVAIL (4 * p + v)) = vlGet (port s p).caps v % 65536

/-- Message `m` goes on out of port `p` as a stomped copy (R336). -/
def stompedOn (t : State) (p : Nat) (m : Msg) : Prop :=
  (∃ w ∈ (port t p).waits, w.m = m ∧ w.stomp = true) ∨ (∃ r ∈ (port t p).replay, r.m = m ∧ r.stomp = true)

/-! ### Power and reset -/

/-- Domain `d` is fenced, and a reset of it under source code `src` is under way within the fence (R119). -/
def resetFenced (s : State) (d src : Nat) : Prop := fenced s d = true ∧ (dom s d).resetBy = some src

/-- A warm unit reset under source code `src` has begun: every domain of its reach that is powered is fenced for its reset (R110). -/
def warmBegun (s t : State) (src : Nat) : Prop :=
  t.pwr.warm = 1 ∧ t.pwr.warmSrc = src ∧ getf t F.RST_CAUSE_LAST = src ∧ ∀ d ∈ warmReach, (dom s d).powered = true → resetFenced t d src

/-- Nothing waits for a domain to come back: no handover runs and no BIST result is due. -/
def noWaiter (s : State) : Prop := s.ho = none ∧ s.bst.ret = none

/-- The unit has left SLEEP by wake source `k`: the source is latched, the wake tone runs, and the start goes on at its grant (R103,
R364). -/
def awake (s t : State) (k : Nat) : Prop :=
  t.pwr.stage = (if s.pwr.headEn then .s1 else .grantWait) ∧ bit (rd t R.PWR_WAKE_SRC).toNat k = true ∧ .wakeTone 1 ∈ t.out ∧ t.pwr.tone = true

/-- The return of the operation with `tag`. -/
def retOf (s : State) (tag : Nat) : Option Ret := (opOf s tag).bind (·.ret)

/-- The command ends operation `o` with a return, and changes nothing else but the engine's count of operations. -/
def EndsOp (i : Instr) (s : State) (o : Op) (r : Ret) : Prop :=
  Does i s (fun t => opOf t o.tag = some { o with ret := some r } ∧ t = { s with ops := t.ops, tlm := t.tlm })

/-! ### Depot -/

/-- No request is being served. -/
def depotIdle (s : State) : Prop := s.dep.jobs = [] ∧ s.dep.bg = none

/-- The flash holds `bs` from `a` up, and every other byte reads as before. -/
def FlashHas (s t : State) (a : Nat) (bs : List Byte) : Prop :=
  ∀ x, flashByte t x = if a ≤ x ∧ x < a + bs.length then bs.getD (x - a) 0#8 else flashByte s x

/-! ### Scan links -/

/-- A command packet has gone out on link `l` under its next SEQ, and the boards in `need` are to reply to it (R374). -/
def pktSent (s t : State) (l kind pos data need : Nat) (c : HCmd) : Prop :=
  let q := ((hlink s l).seq + 1) % 256
  [.scan l (ctlWord 0x10 q (kind + 16 * pos)), .scan l data, .scan l (crc32c (leBytes 4 data)).toNat] <:+ t.out
  ∧ (hlink t l).seq = q ∧ (hlink t l).need = need ∧ (hlink t l).cmd = if need = 0 then none else some c

/-- Link `l` is back in TRAIN with this FAIL code, and waits for no reply (Table 14-6). -/
def trainAgain (t : State) (l code : Nat) : Prop :=
  getf t (F.HAR_LSTAT_STATE l) = 1 ∧ getf t (F.HAR_LSTAT_FAIL l) = code ∧ (hlink t l).cmd = none

/-- The scan that runs, with its operation. -/
def scanIs (s : State) (o : Op) (c : Scan) : Prop := s.har.scan = some c ∧ c.tag = o.tag ∧ opOf s o.tag = some o

/-- No scan runs, and the operation has returned. -/
def scanOver (t : State) (o : Op) (r : Ret) : Prop :=
  t.har.scan = none ∧ retOf t o.tag = some r ∧ isSet t F.HAR_STAT_BUSY = false ∧ isSet t F.HAR_STAT_WAIT_LINK = false

/-- A CONTINUITY scan that drove point `d` finds a mismatch at point `p` (Table 14-8): a point of `d`'s net was not sensed, or a point
of another net was. -/
def contMismatch (s : State) (o : Op) (c : Scan) (d p : Nat) : Bool :=
  isCompared s o c p &&
  (match c.reps.find? (fun r => r.key == 4 * ptLink p + ptPos p) with
    | some r => (r.words.getD (p % 256 / 32) 0#32).getLsbD (p % 32) != decide (eNet (mapAt o c p) = eNet (mapAt o c d))
    | none => false)

/-! ### Stream FIFOs -/

/-- FIFO `n` holds `x`, with XOFF as its depth and the watermarks put it (R409). -/
def FifoIs (s t : State) (n : Nat) (x : Fifo) : Prop :=
  fifo t n = { x with xoff := if wmHigh s n ≤ x.items.length then true else if x.items.length ≤ wmLow s n then false else (fifo s n).xoff }

/-- FIFO `f` takes `k` more items from producer `prod` one after the other, and drops none. -/
def fifoTakes (s : State) (f prod k : Nat) : Prop :=
  away s 5 = false ∧ isSet s (F.SFQ_CFG_EN f) = true ∧ getf s (F.SFQ_CFG_PROD f) = prod ∧ (fifo s f).items.length + k ≤ 1024
  ∧ (fifo s f).discarding = false

/-! ### Boundary scan -/

/-- Instruction codes under which the boundary cells own the covered pins (R601): EXTEST, HIGHZ and CLAMP. -/
def owning (ir : Nat) : Bool := ir == 0 || ir == 4 || ir == 5

/-- The state after a TAP command has loaded instruction `ir` with data register `dr` and boundary cells `cells` (R601). -/
def tapTo (ir : Nat) (cells : List Bool) (dr : W32) (s : State) : State :=
  { s with tap := { s.tap with ir := ir, cells := cells },
           out := s.out ++ .tap ir dr :: (if owning s.tap.ir && !owning ir then pinLevels s else []) }

end Sys2Proof
end

