-- ==== Sys2Proof/Certificates/Slice0/Obligations.lean ====
section
/-! DEFINITION. The statements for the provers. -/
open Sys2Proof Sys2Proof.Machine

/-- O1. A register write stores RW bits, clears W1C bits written 1, sets W1S bits written 1 and keeps every other bit. A whole-word write of
a register with no meaning of its own, by a master that may write and to a block in service, completes. Bit by bit the register takes the
written value in RW bits, is cleared by 1 in W1C bits, is set by 1 in W1S bits, and keeps every other bit. Every other register stays, but
those of the five blocks in which an alarm that follows its source shows. -/
def Obligations.RegisterWriteByType : Prop := ∀ (s : State) (m : Master) (a : Fin 0x80000) (v : W32),
  localDeny s m = false → plainReg (4 * a.val) = true → regAway s (4 * a.val) = false →
  Does (.regWrite m a v 0xF#4) s (fun t =>
    (∀ i : Fin 32, (rd t (4 * a.val)).getLsbD i =
      (((if (wmask (4 * a.val)).rw.testBit i then v.getLsbD i else (rd s (4 * a.val)).getLsbD i)
          && !(v.getLsbD i && (wmask (4 * a.val)).w1c.testBit i))
        || (v.getLsbD i && (wmask (4 * a.val)).w1s.testBit i)))
    ∧ ∀ r, r ≠ 4 * a.val → blockOf r ∉ alarmBlocks → rd t r = rd s r)

/-- O2. Register writes that change nothing: part words, blocks that are away, and a member's own link. A write whose byte enables are not
all set is discarded. A write to a block whose domain is fenced, in reset or unpowered is ignored, as one command or as either half of a
pair. A member counts a register write from its own PCI Express link in LOCAL_DENY and does nothing else. -/
def Obligations.RegisterWritesTurnedAway : Prop := ∀ (s : State) (m : Master) (a : Fin 0x80000) (v : W32) (be : BitVec 4),
  (localDeny s m = false → be ≠ 0xF#4 → exec (.regWrite m a v be) s = .next s)
  ∧ (localDeny s m = false → regAway s (4 * a.val) = true →
      exec (.regWrite m a v be) s = .next s ∧ exec (.wideLowWrite m a v) s = .next s ∧ exec (.wideHighWrite m a v) s = .next s)
  ∧ (isMember s = true → ∀ i ∈ [Instr.regWrite .host a v be, Instr.wideLowWrite .host a v, Instr.wideHighWrite .host a v],
      Does i s (fun t => getf t F.ENU_CNT2_LOCAL_DENY = min 65535 (getf s F.ENU_CNT2_LOCAL_DENY + 1)
        ∧ (∀ r, r ≠ R.ENU_CNT2 → rd t r = rd s r) ∧ t = { s with regs := t.regs }))

/-- O3. A 64-bit pair is read and written low word first, with one latch per master. A read that finds a latched high word returns it once
and forgets it; any other read returns the present word and latches the high words that belong to it; the register file does not change. A
write of the low word of a context's address or of KIT_MTIMECMP changes no register and is held. A write of the high word applies it with
the low word that the same master holds, or with the present low word where it holds none, and the held word is gone. What the other master
has latched and holds stays throughout. -/
def Obligations.WidePairs : Prop := ∀ (s : State) (m : Master) (v : W32),
  (∀ a : Fin 0x80000, popOffset (4 * a.val) = none → Does (.wideLowRead m a) s (fun t =>
    t = { s with out := t.out, hif := t.hif } ∧ wideOf t (otherMaster m) = wideOf s (otherMaster m) ∧ (wideOf t m).wr = (wideOf s m).wr
    ∧ match sget (4 * a.val) (wideOf s m).rd with
      | some w => t.out = s.out ++ [.regData (4 * a.val) w] ∧ sget (4 * a.val) (wideOf t m).rd = none
      | none => t.out = s.out ++ [.regData (4 * a.val) (readWord s (4 * a.val))]
          ∧ ∀ h ∈ highWords (4 * a.val), sget h (wideOf t m).rd = some (readWord s h)))
  ∧ (∀ (c : Fin 1024) (k : Fin 3) (lo hi : Fin 0x80000), 4 * lo.val = R.CTX_SQ_LO c + 8 * k.val → hi.val = lo.val + 1 →
      localDeny s m = false → ctxDenied s m c = false → regAway s (4 * lo.val) = false → regAway s (4 * hi.val) = false →
      Does (.wideLowWrite m lo v) s (fun t => (∀ r, blockOf r ∉ alarmBlocks → rd t r = rd s r)
        ∧ heldLow t m (4 * hi.val) = some v ∧ wideOf t (otherMaster m) = wideOf s (otherMaster m))
      ∧ (getf s (F.CTX_STAT_STATE c) = stDisabled → Does (.wideHighWrite m hi v) s (fun t =>
          rd t (4 * lo.val) = (heldLow s m (4 * hi.val)).getD (rd s (4 * lo.val)) ∧ rd t (4 * hi.val) = v
          ∧ heldLow t m (4 * hi.val) = none ∧ wideOf t (otherMaster m) = wideOf s (otherMaster m)
          ∧ ∀ r, r ≠ 4 * lo.val → r ≠ 4 * hi.val → blockOf r ∉ alarmBlocks → rd t r = rd s r)))
  ∧ (∀ lo hi : Fin 0x80000, 4 * lo.val = R.KIT_MTIMECMP 0 → hi.val = lo.val + 1 →
      localDeny s m = false → regAway s (4 * lo.val) = false → regAway s (4 * hi.val) = false →
      Does (.wideLowWrite m lo v) s (fun t => rd t (4 * lo.val) = rd s (4 * lo.val) ∧ rd t (4 * hi.val) = rd s (4 * hi.val)
        ∧ heldLow t m (4 * hi.val) = some v ∧ wideOf t (otherMaster m) = wideOf s (otherMaster m))
      ∧ Does (.wideHighWrite m hi v) s (fun t =>
          rd t (4 * lo.val) = (heldLow s m (4 * hi.val)).getD (rd s (4 * lo.val)) ∧ rd t (4 * hi.val) = v
          ∧ heldLow t m (4 * hi.val) = none ∧ wideOf t (otherMaster m) = wideOf s (otherMaster m)))

/-- O4. Doorbells move SQ_PI and CQ_CI within their bounds, and are counted and ignored outside them. While D1 is served and the write is
not one that a member drops, a doorbell from the master that owns the context stores SQ_PI below the submission ring's size, or CQ_CI
between CQ_CI and CQ_PI, unless the context is DISABLED; while the unit has cast no sleep vote nothing else changes. A doorbell from the
wrong master sets DB_DENIED, one to a DISABLED context or outside its bounds DB_BAD, and both count in HIF_DB_ERR and leave the indices. A
BAR2 doorbell from a member's own link counts in LOCAL_DENY alone. -/
def Obligations.Doorbells : Prop := ∀ (s : State) (m : Master) (b : Bool) (c : Fin 1024) (i : Nat),
  (bar2Dropped s m b = false → away s 1 = false → doorbellDenied s m b c = false → getf s (F.CTX_STAT_STATE c) ≠ stDisabled →
    (i < sqSize s c → Does (.doorbellSqPi m b c i) s (fun t => getf t (F.CTX_SQ_IDX_SQ_PI c) = i % 65536
      ∧ (s.enu.voted = false → t = { s with regs := t.regs } ∧ ∀ r, r ≠ R.CTX_SQ_IDX c → rd t r = rd s r)))
    ∧ (cqCiOk s c i = true → Does (.doorbellCqCi m b c i) s (fun t => getf t (F.CTX_CQ_IDX_CQ_CI c) = i % 65536
      ∧ (s.enu.voted = false → t = { s with regs := t.regs } ∧ ∀ r, r ≠ R.CTX_CQ_IDX c → rd t r = rd s r))))
  ∧ (∀ q ∈ [Instr.doorbellSqPi m b c i, Instr.doorbellCqCi m b c i], bar2Dropped s m b = false → away s 1 = false →
      (doorbellDenied s m b c = true → Does q s (fun t => isSet t (F.CTX_EVT_DB_DENIED c) = true
        ∧ getf t F.HIF_DB_ERR_COUNT = min (2 ^ 32 - 1) (getf s F.HIF_DB_ERR_COUNT + 1)
        ∧ ∀ r, r ≠ R.CTX_EVT c → r ≠ R.HIF_DB_ERR → rd t r = rd s r))
      ∧ (doorbellDenied s m b c = false → getf s (F.CTX_STAT_STATE c) = stDisabled → Does q s (fun t =>
        isSet t (F.CTX_EVT_DB_BAD c) = true ∧ getf t F.HIF_DB_ERR_COUNT = min (2 ^ 32 - 1) (getf s F.HIF_DB_ERR_COUNT + 1)
        ∧ ∀ r, r ≠ R.CTX_EVT c → r ≠ R.HIF_DB_ERR → rd t r = rd s r)))
  ∧ (bar2Dropped s m b = false → away s 1 = false → doorbellDenied s m b c = false → getf s (F.CTX_STAT_STATE c) ≠ stDisabled →
      (sqSize s c ≤ i → exec (.doorbellSqPi m b c i) s = .next (badDoorbell s (F.CTX_EVT_DB_BAD c)))
      ∧ (cqCiOk s c i = false → exec (.doorbellCqCi m b c i) s = .next (badDoorbell s (F.CTX_EVT_DB_BAD c))))
  ∧ (bar2Dropped s m b = true → ∀ q ∈ [Instr.doorbellSqPi m b c i, Instr.doorbellCqCi m b c i], Does q s (fun t =>
      getf t F.ENU_CNT2_LOCAL_DENY = min 65535 (getf s F.ENU_CNT2_LOCAL_DENY + 1) ∧ ∀ r, r ≠ R.ENU_CNT2 → rd t r = rd s r))

/-- O5. EN takes a DISABLED context to ACTIVE or refuses it with a cause, and an ACTIVE or ERROR one to DRAINING. A write of EN = 1 by a
master that may write a DISABLED context makes it ACTIVE when the checks pass, with its indices at 0, its reserve booked in LDG_TOK_RESV and
filled from the free tokens. When a check fails it stays DISABLED with EN = 0, CAUSE shows the first check that failed, ENABLE_REFUSED is
set and device event 3 pends. EN = 0 takes an ACTIVE or ERROR context with work left to DRAINING, and one with none to DISABLED. A FROZEN
context keeps its state and remembers the last EN. The host's write to a Kite context sets CFG_LOCKED and changes nothing else. -/
def Obligations.ContextEnableDisable : Prop := ∀ (s : State) (m : Master) (c : Fin 1024),
  (ctxDenied s m c = false → getf s (F.CTX_STAT_STATE c) = stDisabled →
    (enableCheck s c = none → Does (.contextEnable m c) s (fun t =>
      getf t (F.CTX_STAT_STATE c) = stActive ∧ getf t (F.CTX_CTL_EN c) = 1
      ∧ rd t (R.CTX_SQ_IDX c) = 0#32 ∧ rd t (R.CTX_CQ_IDX c) = 0#32
      ∧ getf t F.LDG_TOK_RESV = (getf s F.LDG_TOK_RESV + getf s (F.CTX_LIM_RESERVE c)) % 8192
      ∧ (ctx t c).booked = getf s (F.CTX_LIM_RESERVE c) ∧ (ctx t c).nrec = 0
      ∧ (ctx t c).filled + t.ledger.tokFree = s.ledger.tokFree
      ∧ t = { s with regs := t.regs, ctxs := t.ctxs, ledger := { s.ledger with tokFree := t.ledger.tokFree } }))
    ∧ (∀ cause, enableCheck s c = some cause → Does (.contextEnable m c) s (fun t =>
      getf t (F.CTX_STAT_STATE c) = stDisabled ∧ getf t (F.CTX_CTL_EN c) = 0
      ∧ getf t (F.CTX_STAT_CAUSE c) = cause ∧ isSet t (F.CTX_EVT_ENABLE_REFUSED c) = true ∧ evtPending t 3 = true
      ∧ t.ctxs = s.ctxs ∧ t.ledger = s.ledger)))
  ∧ (ctxDenied s m c = false → getf s (F.CTX_STAT_STATE c) = stActive ∨ getf s (F.CTX_STAT_STATE c) = stError →
    ((ctx s c).staged ≠ [] ∨ inflight s c ≠ 0 → Does (.contextDisable m c) s (fun t =>
      getf t (F.CTX_STAT_STATE c) = stDraining ∧ getf t (F.CTX_CTL_EN c) = 0
      ∧ t = { s with regs := t.regs } ∧ ∀ r, r ≠ R.CTX_STAT c → r ≠ R.CTX_CTL c → rd t r = rd s r))
    ∧ ((ctx s c).staged = [] → (ctx s c).fetch = none → (ctx s c).heldRecs = [] → inflight s c = 0 →
      Does (.contextDisable m c) s (fun t => getf t (F.CTX_STAT_STATE c) = stDisabled ∧ getf t (F.CTX_CTL_EN c) = 0
        ∧ t.ops = s.ops ∧ t.out = s.out)))
  ∧ (ctxDenied s m c = false → getf s (F.CTX_STAT_STATE c) = stFrozen →
      Does (.contextEnable m c) s (fun t => getf t (F.CTX_STAT_STATE c) = stFrozen ∧ (ctx t c).enWant = some true)
      ∧ Does (.contextDisable m c) s (fun t => getf t (F.CTX_STAT_STATE c) = stFrozen ∧ (ctx t c).enWant = some false))
  ∧ (ctxDenied s m c = true → ∀ q ∈ [Instr.contextEnable m c, Instr.contextDisable m c], Does q s (fun t =>
      isSet t (F.CTX_EVT_CFG_LOCKED c) = true ∧ t = { s with regs := t.regs } ∧ ∀ r, r ≠ R.CTX_EVT c → rd t r = rd s r))

/-- O6. A fetch reads slots up to the fetch condition, and its data are staged in order and move SQ_CI. FETCH of an ACTIVE context with no
read outstanding, D1 in service and host memory in reach takes the slots the fetch condition allows. For a Kite context nothing but the
context's record changes; for the host's one on the unit's own link a read of 64 bytes a slot leaves, from the slot at SQ_CI, under a new
number. FETCH_COMPLETE with the slots of a host context stages their words in order after what is staged, ends the outstanding read, and
SQ_CI moves past them around the ring. A failed, timed-out or tunnelled end takes an ACTIVE context to ERROR with CAUSE 1, 2 or 4, sets
FETCH_ERR, stages nothing and leaves SQ_CI; a lost link only ends the read. -/
def Obligations.FetchStagesDescriptors : Prop := ∀ (s : State) (c : Fin 1024) (n : Nat),
  (getf s (F.CTX_STAT_STATE c) = stActive → (ctx s c).fetch = none → 0 < fetchCount s c n → inReset s 1 = false →
    (kiteOwned s c = true → Does (.fetch c n) s (fun t =>
      (ctx t c).fetch = some (getf s (F.CTX_SQ_IDX_SQ_CI c), fetchCount s c n) ∧ (ctx t c).staged = (ctx s c).staged
      ∧ t = { s with ctxs := t.ctxs }))
    ∧ (kiteOwned s c = false → hostReach s = true → isMember s = false → Does (.fetch c n) s (fun t =>
      (ctx t c).fetch = some (getf s (F.CTX_SQ_IDX_SQ_CI c), fetchCount s c n) ∧ (ctx t c).staged = (ctx s c).staged
      ∧ t.out = s.out ++ [.hostRead s.hif.nextRead (sqBase s c + 64 * getf s (F.CTX_SQ_IDX_SQ_CI c)) (64 * fetchCount s c n)]
      ∧ t.hif.nextRead = s.hif.nextRead + 1
      ∧ t = { s with ctxs := t.ctxs, out := t.out, hif := { s.hif with reads := t.hif.reads, nextRead := t.hif.nextRead } })))
  ∧ (∀ first k, (ctx s c).fetch = some (first, k) → kiteOwned s c = false →
    (∀ ds : List (List W32), Does (.fetchComplete c (.slots ds)) s (fun t =>
      (ctx t c).staged.map (fun d => (d.sq, d.words)) = (ctx s c).staged.map (fun d => (d.sq, d.words))
        ++ (List.range (ds.take k).length).map (fun i => ((first + i) % sqSize s c, ds.getD i []))
      ∧ (ctx t c).fetch = none
      ∧ getf t (F.CTX_SQ_IDX_SQ_CI c) = (first + (ds.take k).length) % sqSize s c % 65536
      ∧ getf t (F.CTX_STAT_STATE c) = getf s (F.CTX_STAT_STATE c)))
    ∧ (getf s (F.CTX_STAT_STATE c) = stActive →
      ∀ p ∈ [(FetchEnd.failed, 1), (FetchEnd.timeout, 2), (FetchEnd.tunnel, 4)], Does (.fetchComplete c p.1) s (fun t =>
        getf t (F.CTX_STAT_STATE c) = stError ∧ getf t (F.CTX_STAT_CAUSE c) = p.2 ∧ isSet t (F.CTX_EVT_FETCH_ERR c) = true
        ∧ (ctx t c).staged = (ctx s c).staged ∧ (ctx t c).fetch = none
        ∧ getf t (F.CTX_SQ_IDX_SQ_CI c) = getf s (F.CTX_SQ_IDX_SQ_CI c)))
    ∧ (getf s (F.CTX_STAT_STATE c) = stActive → Does (.fetchComplete c .linkLost) s (fun t =>
        getf t (F.CTX_STAT_STATE c) = stActive ∧ (ctx t c).fetch = none ∧ t.regs = s.regs ∧ (ctx t c).staged = (ctx s c).staged)))

/-- O7. Dispatch takes the class and context whose turn it is, issues its first descriptor, or refuses it at the first check that fails.
With D1 in service, a ready context picked in the class served, and no remote operation waiting, DISPATCH takes that context's first staged
descriptor. When every check passes and the descriptor is for this unit (its tunnel up where it needs one), one operation with those words,
that slot and a new tag is in flight, the context holds one token more and its round counts it. When check number k fails the target sees
nothing, the outcome counts in CTX_DONE, and, unless SILENT suppresses it or it is discarded or held, the record with the check's status and
DETAIL goes to the completion ring. With no ready context and nothing waiting no operation starts. -/
def Obligations.DispatchIssuesOrRefuses : Prop := ∀ (s : State) (k c : Nat) (d : Staged) (r : List Staged),
  (inReset s 1 = false → classServed s = some k → pick s k = some c → c < 1024 → (ctx s c).staged = d :: r → s.enu.rmtWait = [] →
    (gateCheck s (getf s (F.CTX_ENG_MASK c)) (getf s (F.CTX_BWIN_FIRST c)) (getf s (F.CTX_BWIN_LAST c)) d.words = none →
      forwards s d.words = false → (s.enu.tunneled = false ∨ hostReach s = true) → Does .dispatch s (fun t =>
        (∃ o : Op, t.ops = s.ops ++ [o] ∧ o.tag = s.nextTag ∧ o.ctx = c ∧ o.sq = d.sq ∧ o.words = d.words ∧ o.fwd = false
          ∧ o.origin = none ∧ o.ret = none ∧ o.started = false ∧ o.stagingCr + o.bankCr = credits d.words)
        ∧ t.nextTag = s.nextTag + 1 ∧ (ctx t c).held = (ctx s c).held + 1 ∧ (ctx t c).staged.length = r.length
        ∧ lent t = lent s + credits d.words ∧ (round t k).cur = c ∧ 0 < (round t k).run))
    ∧ (∀ st de, gateCheck s (getf s (F.CTX_ENG_MASK c)) (getf s (F.CTX_BWIN_FIRST c)) (getf s (F.CTX_BWIN_LAST c)) d.words
        = some (st, de) → Does .dispatch s (fun t =>
        t.ops = s.ops ∧ t.nextTag = s.nextTag
        ∧ getf t (F.CTX_DONE_COUNT c) = (getf s (F.CTX_DONE_COUNT c) + 1) % 2 ^ 32
        ∧ (ctx t c).staged.length = r.length
        ∧ (dSilent d.words = false → writesNow s c = true →
            recordWrite s c d.sq d.words st de 0#32 0#32 ∈ t.out))))
  ∧ (classServed s = none → s.enu.rmtWait = [] → Does .dispatch s (fun t => t.ops = s.ops ∧ t.ctxs = s.ctxs ∧ t.nextTag = s.nextTag))

/-- O8. NOP and FENCE return, accepted returns leave flight with one record, and held descriptors time out. NOP returns OK; FENCE returns OK
with the operations it waited for and the microseconds waited; nothing else changes. An accepted return of a local operation takes it out of
flight, gives back its token and credits, counts in CTX_DONE and, unless SILENT suppresses it or it is discarded or held, writes one 32-byte
record with its status, PHASE and results to the completion ring. OK becomes OK_NOTE where a note applies. A reply for an operation that is
no longer in flight counts in its domain's DISCARDS. FENCE_TIMEOUT refuses a first staged descriptor that is held with FENCE_TO set, with
status FENCE_TIMEOUT and DETAIL 0x0A. -/
def Obligations.ReturnsAndNullTarget : Prop := ∀ (s : State) (tag : Nat),
  (∀ o, opOf s tag = some o → (opcodeOf o = 0x00 → Does (.nop tag) s (fun t =>
      opOf t tag = some { o with ret := some ⟨0, 0#32, 0#32⟩ } ∧ t = { s with ops := t.ops }))
    ∧ (opcodeOf o = 0x01 → ∀ us, Does (.fence tag us) s (fun t =>
      opOf t tag = some { o with ret := some ⟨0, w32 o.waited, w32 us⟩ } ∧ t = { s with ops := t.ops })))
  ∧ (∀ (d : Fin 24) (code : Nat), opOf s tag = none → Does (.returnAccepted tag d code) s (fun t =>
      getf t (F.RST_DOM_STAT_DISCARDS d) = min 4095 (getf s (F.RST_DOM_STAT_DISCARDS d) + 1)
      ∧ t.ops = s.ops ∧ t.out = s.out))
  ∧ (∀ (d : Fin 24) (code : Nat) (o : Op) (r : Ret), opOf s tag = some o → o.ret = some r → o.origin = none → o.ctx < 1024 →
    Does (.returnAccepted tag d code) s (fun t =>
      t.ops = s.ops.filter (fun p => p.tag != tag)
      ∧ getf t (F.CTX_DONE_COUNT o.ctx) = (getf s (F.CTX_DONE_COUNT o.ctx) + 1) % 2 ^ 32
      ∧ t.ledger.lentStaging = s.ledger.lentStaging - o.stagingCr ∧ t.ledger.lentBank = s.ledger.lentBank - o.bankCr
      ∧ (ctx t o.ctx).held = (ctx s o.ctx).held - 1
      ∧ (dSilent o.words = false → writesNow s o.ctx = true →
          recordWrite s o.ctx o.sq o.words (if o.note && r.status == 0 then 1 else r.status) 0 r.r0 r.r1 ∈ t.out)))
  ∧ (∀ (c : Fin 1024) (d : Staged) (r : List Staged), (ctx s c).staged = d :: r → fenceHeld s c d.words = true →
      0 < dFenceTo d.words → Does (.fenceTimeout c) s (fun t =>
        t.ops = s.ops ∧ (ctx t c).staged.length = r.length
        ∧ getf t (F.CTX_DONE_COUNT c) = (getf s (F.CTX_DONE_COUNT c) + 1) % 2 ^ 32
        ∧ (dSilent d.words = false → writesNow s c = true →
            recordWrite s c d.sq d.words 0x1C 0x0A 0#32 0#32 ∈ t.out)))

/-- O9. Audits latch the books, comparisons end in faults, and a release takes the holdings counted. With AUDIT_EN at 1, LEDGER_AUDIT during
a handover only counts in HO_SKIPS; otherwise it latches every mismatch of the books at that turn and sets COMPARING. AUDIT_COMPARE_DONE
with nothing mismatched counts the audit, clears COMPARING and raises no fault; a mismatch of any book but the chain's sets FAULT, and the
first one's book, index, booked and counted figures are recorded. A chain book looked at again faults only if it still does not balance.
LDG_RELEASE acts for its key alone: during a comparison it waits, else FAULT and FROZEN clear and the loans become those of the operations
in flight. LDG_BUF_LEND is denied while a bank credit is lent and stored otherwise. LDG_CTL_WRITE stores AUDIT_EN, ALARM_EN and PERIOD. -/
def Obligations.LedgerCommands : Prop := ∀ (s : State) (chain : List Nat),
  (getf s F.LDG_CTL_AUDIT_EN = 1 →
    (handoverRuns s = true → Does (.ledgerAudit chain) s (fun t =>
      getf t F.LDG_SKIPS_HO_SKIPS = min 65535 (getf s F.LDG_SKIPS_HO_SKIPS + 1)
      ∧ t = { s with regs := t.regs } ∧ ∀ r, r ≠ R.LDG_SKIPS → rd t r = rd s r))
    ∧ (handoverRuns s = false → Does (.ledgerAudit chain) s (fun t =>
      t.ledger.audit = some (mismatches s chain) ∧ t.ledger.excluded = (excludedDoms s).length ∧ t.ledger.chainCounted = chain
      ∧ isSet t F.LDG_STAT_COMPARING = true ∧ t = { s with regs := t.regs, ledger := t.ledger }
      ∧ ∀ r, r ≠ R.LDG_STAT → rd t r = rd s r)))
  ∧ (s.ledger.audit = some [] → s.ledger.releasePend = false → Does .auditCompareDone s (fun t =>
      t.ledger.audit = none ∧ t.ledger.relook = [] ∧ isSet t F.LDG_STAT_COMPARING = false
      ∧ getf t F.LDG_AUDITS_COUNT = (getf s F.LDG_AUDITS_COUNT + 1) % 2 ^ 32
      ∧ getf t F.LDG_STAT_FAULT = getf s F.LDG_STAT_FAULT ∧ t = { s with regs := t.regs, ledger := t.ledger }))
  ∧ (∀ m : Mismatch, s.ledger.audit = some [m] → m.book ≠ 2 → s.ledger.releasePend = false → getf s F.LDG_FAULT0_FAULTS = 0 →
      Does .auditCompareDone s (fun t => isSet t F.LDG_STAT_FAULT = true ∧ getf t F.LDG_FAULT0_FAULTS = 1
        ∧ getf t F.LDG_FAULT0_BOOK = m.book % 8
        ∧ getf t F.LDG_FAULT0_INDEX = m.index % 1024
        ∧ rd t R.LDG_FAULT1 = w32 m.booked ∧ rd t R.LDG_FAULT2 = w32 m.counted ∧ t.ledger.audit = none))
  ∧ (∀ (i : Fin 8) (n : Nat), s.ledger.relook.contains i.val = true →
      Does (.auditChainRelook i n) s (fun t => t.ledger.relook = s.ledger.relook.filter (fun j => j != i.val)
        ∧ (getf s (F.LDG_CHN_AVAIL i) + n = getf s (F.LDG_CHN_CAP i) → t.regs = s.regs)
        ∧ (getf s (F.LDG_CHN_AVAIL i) + n ≠ getf s (F.LDG_CHN_CAP i) → isSet t F.LDG_STAT_FAULT = true)))
  ∧ (regAway s R.LDG_RELEASE = false →
      (isSet s F.LDG_STAT_COMPARING = true → Does (.ldgRelease 0x51A7) s (fun t =>
        t = { s with ledger := { s.ledger with releasePend := true } }))
      ∧ (isSet s F.LDG_STAT_COMPARING = false → Does (.ldgRelease 0x51A7) s (fun t =>
        isSet t F.LDG_STAT_FAULT = false ∧ getf t F.LDG_STAT_FROZEN = 0 ∧ getf t F.LDG_FAULT0_FAULTS = 0
        ∧ t.ledger.lentStaging = (s.ops.map (·.stagingCr)).foldl (· + ·) 0 ∧ t.ledger.lentBank = (s.ops.map (·.bankCr)).foldl (· + ·) 0)))
  ∧ (∀ key, key ≠ 0x51A7 → exec (.ldgRelease key) s = .next s)
  ∧ (∀ first last, regAway s R.LDG_BUF_LEND = false →
      (0 < s.ledger.lentBank → Does (.ldgBufLend first last) s (fun t => isSet t F.LDG_STAT_LEND_DENIED = true
        ∧ ∀ r, r ≠ R.LDG_STAT → rd t r = rd s r))
      ∧ (s.ledger.lentBank = 0 → Does (.ldgBufLend first last) s (fun t =>
        getf t F.LDG_BUF_LEND_FIRST = first % 128 ∧ getf t F.LDG_BUF_LEND_LAST = last % 128
        ∧ ∀ r, r ≠ R.LDG_BUF_LEND → rd t r = rd s r)))
  ∧ (∀ v : W32, regAway s R.LDG_CTL = false → Does (.ldgCtlWrite v) s (fun t =>
      getf t F.LDG_CTL_AUDIT_EN = extractBits v 0 1 ∧ getf t F.LDG_CTL_ALARM_EN = extractBits v 1 1
      ∧ getf t F.LDG_CTL_PERIOD = extractBits v 16 10 ∧ OnlyRegs [R.LDG_CTL] s t))

/-- O10. The PCI Express link comes up and goes, PERST_N, configuration writes and MSI-X messages. With D0 ready and PERST_N high,
HOST_LINK_UP brings the link to L0 at its speed and width; from L0 it also counts in RETRAINS. HOST_LINK_LOSS of a link in L0 clears
LINK_UP, SPEED and WIDTH, sets DOWN, counts and loses the forwarded window reads; loss of Bus Master Enable or entry to D3hot shows in
HIF_STAT and sets BME_OFF. PERST_FALL shows in HIF_STAT and, once D0 is powered, sets the PERST event, drops the link and gives D0 a
zero-drain fence for reset; PERST_RISE ends the level and nothing else. A configuration write stores what it names. MSIX_UNMASK clears the
mask, and a pending message of that vector is sent once where MSI-X delivers. MOD_TIME_EXPIRY with MOD_TIME set sends the context's vector
and clears its pending state. -/
def Obligations.HostLinkAndReset : Prop := ∀ (s : State),
  (∀ (v : Fin 4) (w : Fin 8), inReset s 0 = false → isSet s F.HIF_STAT_PERST = true → Does (.hostLinkUp v w) s (fun t =>
      isSet t F.HIF_STAT_LINK_UP = true ∧ getf t F.HIF_STAT_SPEED = v.val
      ∧ getf t F.HIF_STAT_WIDTH = w.val
      ∧ getf t F.HIF_LINK_EVT_RETRAINS = (if isSet s F.HIF_STAT_LINK_UP
          then min 65535 (getf s F.HIF_LINK_EVT_RETRAINS + 1) else getf s F.HIF_LINK_EVT_RETRAINS)))
  ∧ (isSet s F.HIF_STAT_LINK_UP = true →
      Does (.hostLinkLoss .down) s (fun t => isSet t F.HIF_STAT_LINK_UP = false ∧ getf t F.HIF_STAT_SPEED = 0
        ∧ getf t F.HIF_STAT_WIDTH = 0 ∧ isSet t F.HIF_LINK_EVT_DOWN = true ∧ t.hif.winReads = []
        ∧ getf t F.HIF_LINK_EVT_RETRAINS = min 65535 (getf s F.HIF_LINK_EVT_RETRAINS + 1))
      ∧ Does (.hostLinkLoss .bmeOff) s (fun t => isSet t F.HIF_STAT_BME = false
        ∧ (isSet s F.HIF_STAT_BME = true → isSet t F.HIF_LINK_EVT_BME_OFF = true))
      ∧ Does (.hostLinkLoss .d3hot) s (fun t => isSet t F.HIF_STAT_D3HOT = true
        ∧ (isSet s F.HIF_STAT_D3HOT = false → isSet t F.HIF_LINK_EVT_BME_OFF = true)))
  ∧ (Does .perstRise s (fun t => isSet t F.HIF_STAT_PERST = true ∧ t = { s with regs := t.regs } ∧ ∀ r, r ≠ R.HIF_STAT → rd t r = rd s r))
  ∧ ((dom s 0).powered = false → Does .perstFall s (fun t => isSet t F.HIF_STAT_PERST = false ∧ t = { s with regs := t.regs }
      ∧ ∀ r, r ≠ R.HIF_STAT → rd t r = rd s r))
  ∧ ((dom s 0).powered = true → Does .perstFall s (fun t => isSet t F.HIF_STAT_PERST = false ∧ isSet t F.HIF_STAT_LINK_UP = false
      ∧ isSet t F.HIF_LINK_EVT_PERST = true ∧ away t 0 = true))
  ∧ (away s 0 = false → isSet s F.HIF_STAT_LINK_UP = true →
      (∀ on, Does (.hostConfigWrite (.busMasterEnable on)) s (fun t => isSet t F.HIF_STAT_BME = on)
        ∧ Does (.hostConfigWrite (.d3hot on)) s (fun t => isSet t F.HIF_STAT_D3HOT = on)
        ∧ Does (.hostConfigWrite (.msixEnable on)) s (fun t => isSet t F.HIF_STAT_MSIX_EN = (on && !s.hif.funcMask) ∧ t.hif.msixEn = on)
        ∧ Does (.hostConfigWrite (.functionMask on)) s (fun t => isSet t F.HIF_STAT_MSIX_EN = (s.hif.msixEn && !on) ∧ t.hif.funcMask = on)
        ∧ Does (.hostConfigWrite (.memorySpaceEnable on)) s (fun t => t = { s with hif := { s.hif with memSpace := on } })
        ∧ Does (.hostConfigWrite (.relaxedOrdering on)) s (fun t => t = { s with hif := { s.hif with relaxed := on } }))
      ∧ ∀ off d, Does (.hostConfigWrite (.other off d)) s (fun t => (sget off t.hif.cfgSpace).getD 0#32 = d
        ∧ (∀ k, k ≠ off → (sget k t.hif.cfgSpace).getD 0#32 = (sget k s.hif.cfgSpace).getD 0#32)
        ∧ t = { s with hif := { s.hif with cfgSpace := t.hif.cfgSpace } }))
  ∧ (∀ v : Fin 1056, regAway s (R.HIF_MSIX v 3) = false → Does (.msixUnmask v) s (fun t =>
      extractBits (rd t (R.HIF_MSIX v 3)) 0 1 = 0
      ∧ (bit (rd s (R.HIF_PBA (v / 32))).toNat (v % 32) = true → hostUp s = true → isSet s F.HIF_STAT_MSIX_EN = true →
          bit (rd t (R.HIF_PBA (v / 32))).toNat (v % 32) = false
          ∧ t.out = s.out ++ [.msix v (rd s (R.HIF_MSIX v 1) ++ rd s (R.HIF_MSIX v 0)) (rd s (R.HIF_MSIX v 2))])
      ∧ (bit (rd s (R.HIF_PBA (v / 32))).toNat (v % 32) = false → t.out = s.out)))
  ∧ (∀ c : Fin 1024, 0 < (ctx s c).intPend → 0 < getf s (F.CTX_INT_MOD_TIME c) → kiteOwned s c = false → isMember s = false →
      hostUp s = true → isSet s F.HIF_STAT_MSIX_EN = true →
      let v := getf s (F.CTX_INT_VEC c)
      extractBits (rd s (R.HIF_MSIX v 3)) 0 1 = 0 → Does (.modTimeExpiry c) s (fun t => (ctx t c).intPend = 0
        ∧ t.out = s.out ++ [.msix v (rd s (R.HIF_MSIX v 1) ++ rd s (R.HIF_MSIX v 0)) (rd s (R.HIF_MSIX v 2))]
        ∧ t = { s with ctxs := t.ctxs, out := t.out }))

/-- O11. COPY and FILL write exactly the destination's bytes; host data land in order, and a failed read ends the operation. A COPY between
ranges of the banks that can be read and written, not overlapping upward, puts the source's bytes at the destination and returns OK with
their number; every other byte of the banks, every register and all but the operation and its count stay. A COPY from host memory issues one
read and starts. FILL repeats its 16-byte pattern over the destination. A completion of the host read of an operation that writes the banks
puts its data behind those already written and returns OK once the length is reached. A failed or timed-out read ends the operation with
BUS_ERROR and the bytes written so far. -/
def Obligations.MoversCopyAndFill : Prop := ∀ (s : State) (o : Op), opOf s o.tag = some o → noRegDue s →
  (opcodeOf o = 0x02 → o.started = false → o.fwd = false →
    (∀ bs : List Byte, df o.words 8 0 2 = 3 → dEngsel o.words < 8 → copyUndefined o = false →
      d64 o.words 4 + dLength o.words ≤ 0x800000 → readBytes s (dLength o.words) (d64 o.words 4) = (bs, none) →
      bankWritable s (d64 o.words 6) (dLength o.words) → Does (.copy o.tag) s (fun t =>
        BankHas s t (d64 o.words 6) bs ∧ bs.length = dLength o.words
        ∧ opOf t o.tag = some { o with started := true, ret := some ⟨0, w32 (dLength o.words), 0#32⟩ }
        ∧ t = { s with mem := t.mem, ops := t.ops, tlm := { s.tlm with ops := t.tlm.ops } }))
    ∧ (df o.words 8 0 1 = 0 → hostReach s = true → isMember s = false → Does (.copy o.tag) s (fun t =>
        opOf t o.tag = some { o with started := true }
        ∧ t.out = s.out ++ [.hostRead s.hif.nextRead (d64 o.words 4) (dLength o.words)]
        ∧ t = { s with ops := t.ops, out := t.out, hif := { s.hif with reads := t.hif.reads, nextRead := s.hif.nextRead + 1 } })))
  ∧ (opcodeOf o = 0x03 → o.started = false → o.fwd = false → df o.words 8 1 1 = 1 →
      bankWritable s (d64 o.words 6) (dLength o.words) → Does (.fill o.tag) s (fun t =>
        BankHas s t (d64 o.words 6) (patternBytes o.words (dLength o.words))
        ∧ opOf t o.tag = some { o with started := true, ret := some ⟨0, w32 (dLength o.words), 0#32⟩ }
        ∧ t = { s with mem := t.mem, ops := t.ops, tlm := { s.tlm with ops := t.tlm.ops } }))
  ∧ (∀ (r : HRead), ownRead s r.id = some r → r.use = .op o.tag → isSet s F.HIF_STAT_LINK_UP = true →
      (∀ d : List Byte, d.length ≤ r.len - r.got → df o.words 8 1 1 = 1 → bankWritable s (d64 o.words 6 + o.prog) d.length →
        Does (.hostReadCompletion r.id (.ok d)) s (fun t => BankHas s t (d64 o.words 6 + o.prog) d ∧ t.regs = s.regs
          ∧ (let p := o.prog + d.length
            opOf t o.tag = some { o with prog := p, ret := if dLength o.words ≤ p then some ⟨0, w32 p, 0#32⟩ else o.ret })))
      ∧ Does (.hostReadCompletion r.id .failed) s (fun t => t.mem = s.mem ∧ t.regs = s.regs
          ∧ opOf t o.tag = some { o with ret := some ⟨0x20, w32 o.prog, w32 o.prog⟩ })
      ∧ Does (.hostCompletionTimeout r.id) s (fun t => t.mem = s.mem ∧ t.regs = s.regs
          ∧ opOf t o.tag = some { o with ret := some ⟨0x20, w32 o.prog, w32 o.prog⟩ }))

/-- O12. Host accesses through BAR4 reach the banks here or go to a member, and a member serves them in its place. With the link in L0 and
Memory Space Enable set on a unit that is no member, a BAR4 write through an aperture of unit 0 that names bank bytes stores exactly those
bytes, and a read answers them and changes nothing else. An aperture whose unit is not reachable counts in UNREACH; the read then ends with
Completer Abort. Through a reachable one a read takes a free WTAG and is outstanding, and its timeout ends it with Completer Abort and
counts. Without Memory Space Enable a read is an Unsupported Request and a write does nothing. On a member both count in LOCAL_DENY and the
read ends with Completer Abort. A member that takes WIN_WR stores exactly the message's bytes, and one that takes WIN_RD changes no memory.
-/
def Obligations.HostApertures : Prop := ∀ (s : State) (x : Fin 0x1000000) (n : Fin 4097) (ans : List W32) (data : List Byte),
  (barUp s = true → s.hif.memSpace = true → isMember s = false →
    ((aperture s x).2 = 0 →
      (bankWritable s (aperture s x).1 data.length → Does (.hostBar4Write x data) s (fun t =>
        BankHas s t (aperture s x).1 data ∧ t = { s with mem := t.mem }))
      ∧ ((aperture s x).1 + n.val ≤ 0x800000 → (∀ i < n.val, accessErr s ((aperture s x).1 + i) false = none) →
        Does (.hostBar4Read x n ans) s (fun t => t = { s with out := s.out ++
          [.hostCpl .success ((List.range n.val).map (fun i => memByte s ((aperture s x).1 + i)))] })))
    ∧ ((aperture s x).2 ≠ 0 → unitReach s (aperture s x).2 = false →
      Does (.hostBar4Write x data) s (fun t => getf t F.HIF_WIN_CNT_UNREACH = min 65535 (getf s F.HIF_WIN_CNT_UNREACH + 1)
        ∧ t = { s with regs := t.regs } ∧ ∀ r, r ≠ R.HIF_WIN_CNT → rd t r = rd s r)
      ∧ Does (.hostBar4Read x n ans) s (fun t => getf t F.HIF_WIN_CNT_UNREACH = min 65535 (getf s F.HIF_WIN_CNT_UNREACH + 1)
        ∧ t = { s with regs := t.regs, out := s.out ++ [.hostCpl .completerAbort []] } ∧ ∀ r, r ≠ R.HIF_WIN_CNT → rd t r = rd s r))
    ∧ ((aperture s x).2 ≠ 0 → unitReach s (aperture s x).2 = true → s.hif.winReads.length < 64 →
      Does (.hostBar4Read x n ans) s (fun t => ∃ w : WinRead, t.hif.winReads = s.hif.winReads ++ [w] ∧ w.unit = (aperture s x).2
        ∧ w.len = n.val ∧ w.wtag < 256 ∧ (∀ v ∈ s.hif.winReads, v.wtag ≠ w.wtag) ∧ t.mem = s.mem)
      ∧ Does (.hostBar4Write x data) s (fun t => t.mem = s.mem ∧ t.hif = s.hif)))
  ∧ (barUp s = true → s.hif.memSpace = false →
      Does (.hostBar4Read x n ans) s (fun t => t = { s with out := s.out ++ [.hostCpl .unsupportedRequest []] })
      ∧ exec (.hostBar4Write x data) s = .next s)
  ∧ (barUp s = true → s.hif.memSpace = true → isMember s = true →
      Does (.hostBar4Read x n ans) s (fun t => getf t F.ENU_CNT2_LOCAL_DENY = min 65535 (getf s F.ENU_CNT2_LOCAL_DENY + 1)
        ∧ t = { s with regs := t.regs, out := s.out ++ [.hostCpl .completerAbort []] })
      ∧ Does (.hostBar4Write x data) s (fun t => getf t F.ENU_CNT2_LOCAL_DENY = min 65535 (getf s F.ENU_CNT2_LOCAL_DENY + 1)
        ∧ t = { s with regs := t.regs }))
  ∧ (∀ (w : WinRead) (g : Fin 256), s.hif.winReads.find? (fun w => w.wtag == g.val) = some w → Does (.windowReadTimeout g) s (fun t =>
      t.hif.winReads = s.hif.winReads.erase w ∧ t.out = s.out ++ [.hostCpl .completerAbort []]
      ∧ getf t F.HIF_WIN_CNT_TIMEOUT = min 65535 (getf s F.HIF_WIN_CNT_TIMEOUT + 1)
      ∧ ∀ r, r ≠ R.HIF_WIN_CNT → rd t r = rd s r))
  ∧ (∀ (p : Fin 2) (m : Msg), portUp s p = true → takesDst s m.dst = true →
      (bankWritable s (mw m 2).toNat (m.data.take (extractBits (mw m 1) 0 10)).length →
        Does (.winWr p m) s (fun t => BankHas s t (mw m 2).toNat (m.data.take (extractBits (mw m 1) 0 10))))
      ∧ ((mw m 2).toNat + extractBits (mw m 1) 0 13 ≤ 0x800000 → Does (.winRd p m ans) s (fun t => t.mem = s.mem)))

/-- O13. A bank's ports store the enabled bytes, aliases set and clear bits, and column repair and marches begin as asked. On an ON bank
whose fence is open and where no access of the last turn holds a port, a write beat on port A or port B alone stores its enabled bytes and
leaves every other byte; a socket's read beat is answered with the 16 bytes of its word, and without memory changing. An access to a bank
that is not ON changes no memory and sets OFFLINE_ACCESS. ALIAS_WRITE ORs its enabled bytes into the word, or clears their bits.
BNK_FUSE_PROG with its key in BRINGUP or FACTORY begins to blow an unused entry; elsewhere FUSE_DENIED is set and nothing blows.
FUSE_BLOW_DONE sets the entry's VALID, SLICE and BIT. -/
def Obligations.BanksServeAndRepair : Prop := ∀ (s : State) (n : Fin 8),
  (∀ (x : BankAcc) (d : List Byte) (first : Bool), bankErr s n = none → (bank s n).waiting = none → x.master < 32 → x.addr % 16 = 0 →
      x.addr / 0x100000 = n.val → x.wdata = some d → d.length = 16 → x.be.length = 16 →
      ∀ q ∈ [Instr.bankAccess n (some x) none first, Instr.bankAccess n none (some x) first], Does q s (fun t =>
        (∀ a, memByte t a = if x.addr ≤ a ∧ a < x.addr + 16 ∧ x.be.getD (a - x.addr) true = true then d.getD (a - x.addr) 0#8 else memByte s a)
        ∧ t.regs = s.regs ∧ t.out = s.out))
  ∧ (∀ (x : BankAcc) (first : Bool), bankErr s n = none → (bank s n).waiting = none → 32 ≤ x.master → x.addr % 16 = 0 →
      x.addr / 0x100000 = n.val → x.wdata = none → Does (.bankAccess n (some x) none first) s (fun t =>
        t.out = s.out ++ [.socket (x.master - 32) 0 ((List.range 16).map (fun i => memByte s (x.addr + i)))]
        ∧ t = { s with out := t.out, banks := t.banks }))
  ∧ (∀ (x : BankAcc) (first : Bool), (bank s n).st ≠ 1 → Does (.bankAccess n (some x) none first) s (fun t =>
      t.mem = s.mem ∧ isSet t (F.BNK_EVT_OFFLINE_ACCESS n) = true))
  ∧ (∀ (clear : Bool) (a : Fin 0x800000) (d : List Byte) (be : List Bool) (w : Nat), d.length = 16 → be.length = 16 →
      bankErr s (a.val / 0x100000) = none → Does (.aliasWrite clear a d be w) s (fun t =>
        (∀ x, memByte t x = if a.val / 16 * 16 ≤ x ∧ x < a.val / 16 * 16 + 16 ∧ be.getD (x - a.val / 16 * 16) true = true then
            (if clear then memByte s x &&& ~~~(d.getD (x - a.val / 16 * 16) 0#8) else memByte s x ||| d.getD (x - a.val / 16 * 16) 0#8)
          else memByte s x)
        ∧ (∀ r, r ≠ R.BNK_COLL (a.val / 0x100000) → rd t r = rd s r) ∧ t = { s with regs := t.regs, mem := t.mem }))
  ∧ (∀ (e sl : Fin 8) (b : Fin 128), regAway s (R.BNK_FUSE_PROG n) = false →
      (factoryState s = true → isSet s (F.BNK_FUSE_VALID n e) = false → Does (.bnkFuseProg n e sl b 0x7E5A) s (fun t =>
        (bank t n).blowing = some (e.val, sl.val, b.val) ∧ t = { s with banks := t.banks }))
      ∧ (factoryState s = false ∨ isSet s (F.BNK_FUSE_VALID n e) = true → Does (.bnkFuseProg n e sl b 0x7E5A) s (fun t =>
        isSet t (F.BNK_EVT_FUSE_DENIED n) = true ∧ t = { s with regs := t.regs } ∧ ∀ r, r ≠ R.BNK_EVT n → rd t r = rd s r)))
  ∧ (∀ (e sl : Fin 8) (b : Fin 128), (bank s n).blowing = some (e.val, sl.val, b.val) → Does (.fuseBlowDone n) s (fun t =>
      isSet t (F.BNK_FUSE_VALID n e) = true ∧ getf t (F.BNK_FUSE_SLICE n e) = sl.val ∧ getf t (F.BNK_FUSE_BIT n e) = b.val
      ∧ isSet t (F.BNK_EVT_FUSE_DONE n) = true ∧ (bank t n).blowing = none
      ∧ ∀ r, r ≠ R.BNK_FUSE n e → r ≠ R.BNK_EVT n → rd t r = rd s r))

/-- O14. BNK_POWER and BNK_MARCH refuse what the tables forbid and begin what they allow. An operation BNK_POWER that has not begun ends
with RANGE for a bank above 7 or a forbidden step, with OK where the bank is there already, and with OFFLINE where its fence is closed. A
bank in RETAIN or OFF begins its step at once, CHANGING; an ON bank is fenced first under source 7. BNK_MARCH ends with BUS_ERROR on a bank
that is not ON and with PERMISSION for a destructive march of BANK0 or BANK1. A preserving march begins without a fence; a destructive one
closes the bank's fence under source 0xA and shows in MARCHING. -/
def Obligations.BankOperations : Prop := ∀ (s : State) (o : Op), opOf s o.tag = some o → o.started = false → o.fwd = false → o.ret = none →
  let n := opFld o 4 0 4
  let ended (i : Instr) (st : Nat) : Prop := Does i s (fun t => opOf t o.tag = some { o with ret := some ⟨st, 0#32, 0#32⟩ }
    ∧ t = { s with ops := t.ops, tlm := t.tlm })
  (opcodeOf o = 0x91 →
    let b := bank s n
    let g := opFld o 4 8 2
    (7 < n → ended (.bnkPower o.tag) 0x14)
    ∧ (n ≤ 7 → b.st ≠ 3 → b.st = g → ended (.bnkPower o.tag) 0)
    ∧ (n ≤ 7 → b.st ≠ 3 → b.st ≠ g → (g = 3 ∨ (n < 2 ∧ g ≠ 1) ∨ (b.st = 0 ∧ g = 2)) → ended (.bnkPower o.tag) 0x14)
    ∧ (n ≤ 7 → b.st ≠ 3 → b.st ≠ g → ¬(g = 3 ∨ (n < 2 ∧ g ≠ 1) ∨ (b.st = 0 ∧ g = 2)) →
        (fenced s (12 + n) = true → ended (.bnkPower o.tag) 0x1B)
        ∧ (fenced s (12 + n) = false → b.march = 0 → b.forOp = none →
          (b.st = 1 → Does (.bnkPower o.tag) s (fun t => fenced t (12 + n) = true ∧ (dom t (12 + n)).holders = [7]
            ∧ (bank t n).target = g ∧ (bank t n).forOp = some o.tag ∧ (bank t n).st = 1 ∧ t.mem = s.mem))
          ∧ (b.st = 2 ∨ (b.st = 0 ∧ leavingOff s = false) → Does (.bnkPower o.tag) s (fun t =>
            (bank t n).st = 3 ∧ getf t (F.BNK_STAT_STATE n) = 3 ∧ (bank t n).target = g ∧ (bank t n).forOp = some o.tag ∧ t.mem = s.mem)))))
  ∧ (opcodeOf o = 0x90 →
    let b := bank s n
    (7 < n → ended (.bnkMarch o.tag) 0x14)
    ∧ (n ≤ 7 → b.march = 0 → b.forOp = none →
      (b.st ≠ 1 → ended (.bnkMarch o.tag) 0x20)
      ∧ (b.st = 1 → n < 2 → opFld o 4 4 1 = 0 → ended (.bnkMarch o.tag) 0x13)
      ∧ (b.st = 1 → ¬(n < 2 ∧ opFld o 4 4 1 = 0) →
        (away s (12 + n) = true → ended (.bnkMarch o.tag) 0x1B)
        ∧ (away s (12 + n) = false → opFld o 4 4 1 = 1 → Does (.bnkMarch o.tag) s (fun t =>
          (bank t n).march = 2 ∧ getf t (F.BNK_STAT_MARCH n) = 2 ∧ getf t (F.BNK_STAT_ROW n) = 0 ∧ fenced t (12 + n) = false ∧ t.mem = s.mem))
        ∧ (away s (12 + n) = false → opFld o 4 4 1 = 0 → Does (.bnkMarch o.tag) s (fun t =>
          (bank t n).march = 1 ∧ getf t (F.BNK_STAT_MARCH n) = 1 ∧ fenced t (12 + n) = true ∧ (dom t (12 + n)).holders = [0xA]
          ∧ bit (getf t F.BNK_PSTATE_MARCHING) n = true ∧ t.mem = s.mem)))))

/-- O15. Lifecycle advances and BIST runs are checked, carried out and reported. LCY_ADVANCE with its key begins an advance to the next
state or to RETIRED where none runs and none is left half done toward another; otherwise with the key it sets DENIED, and with another key
it does nothing. LCY_ADVANCE_DONE takes the state and sets DONE when the pair verifies, else PARTIAL, PEND and FAIL. BST_RUN ends with RANGE
for no target or a bad pattern count, with PERMISSION where the lifecycle state does not reach the target, and otherwise queues. BIST_START
of a queued run closes the target's fence under source 9, or waits where it is away. BIST_PATTERNS_DONE latches the signature and holds the
target for its reset. BIST_WAIT_TIMEOUT ends a waiting run with OFFLINE. -/
def Obligations.LifecycleAndBist : Prop := ∀ (s : State),
  (∀ (g : Fin 8) (key : Fin 65536),
    let st := getf s F.LCY_STATE_STATE
    let ok : Prop := st < 5 ∧ (g.val = st + 1 ∨ g.val = 5) ∧ s.lcy = none ∧ (isSet s F.LCY_STATE_PARTIAL = true → getf s F.LCY_STATE_PEND = g.val)
    (key.val ≠ 0xAD5C → exec (.lcyAdvance g key) s = .next s)
    ∧ (key.val = 0xAD5C → ok → Does (.lcyAdvance g key) s (fun t => t.lcy = some g.val ∧ isSet t F.LCY_STATE_BUSY = true
        ∧ getf t F.LCY_STATE_STATE = st ∧ t = { s with regs := t.regs, lcy := t.lcy } ∧ ∀ r, r ≠ R.LCY_STATE → rd t r = rd s r))
    ∧ (key.val = 0xAD5C → ¬ok → Does (.lcyAdvance g key) s (fun t => isSet t F.LCY_EVT_DENIED = true ∧ t = { s with regs := t.regs }
        ∧ ∀ r, r ≠ R.LCY_EVT → rd t r = rd s r)))
  ∧ (∀ g, g < 8 → s.lcy = some g →
      Does (.lcyAdvanceDone true) s (fun t => getf t F.LCY_STATE_STATE = g ∧ isSet t F.LCY_STATE_BUSY = false ∧ isSet t F.LCY_STATE_PARTIAL = false
        ∧ isSet t F.LCY_EVT_DONE = true ∧ t.lcy = none ∧ ∀ r, r ≠ R.LCY_STATE → r ≠ R.LCY_EVT → rd t r = rd s r)
      ∧ Does (.lcyAdvanceDone false) s (fun t => getf t F.LCY_STATE_STATE = getf s F.LCY_STATE_STATE ∧ isSet t F.LCY_STATE_BUSY = false
        ∧ isSet t F.LCY_STATE_PARTIAL = true ∧ getf t F.LCY_STATE_PEND = g ∧ isSet t F.LCY_EVT_FAIL = true ∧ t.lcy = none
        ∧ ∀ r, r ≠ R.LCY_STATE → r ≠ R.LCY_EVT → rd t r = rd s r))
  ∧ (∀ o, opOf s o.tag = some o → opcodeOf o = 0xA0 → o.started = false → o.fwd = false →
    let d := opFld o 4 0 5
    let p := (opWord o 5).toNat
    (bstDefault d = 0 ∨ (p ≠ 0 ∧ (p % 256 ≠ 0 ∨ 1048576 < p)) → Does (.bstRun o.tag) s (fun t =>
      (opOf t o.tag).map (·.ret) = some (some ⟨0x14, 0#32, 0#32⟩)))
    ∧ (bstDefault d ≠ 0 → d ≠ 2 → (p = 0 ∨ (p % 256 = 0 ∧ p ≤ 1048576)) →
      (bstReach s d = false → Does (.bstRun o.tag) s (fun t => (opOf t o.tag).map (·.ret) = some (some ⟨0x13, 0#32, 0#32⟩)))
      ∧ (bstReach s d = true → Does (.bstRun o.tag) s (fun t => opOf t o.tag = some { o with started := true }))))
  ∧ (∀ o l, bstPhase s ≤ 1 → inReset s 23 = false → bstRuns s = o :: l →
    let d := opFld o 4 0 5
    (away s d = true → Does .bistStart s (fun t => bstPhase t = 1 ∧ t.bst.dom = d ∧ t.bst.tag = o.tag))
    ∧ (away s d = false → Does .bistStart s (fun t => bstPhase t = 2 ∧ t.bst.dom = d ∧ t.bst.tag = o.tag ∧ fenced t d = true
        ∧ (dom t d).holders = [9])))
  ∧ (∀ o sig, bstPhase s = 3 → opOf s s.bst.tag = some o → Does (.bistPatternsDone sig) s (fun t =>
      bstPhase t = 4 ∧ rd t (R.BST_SIG 0) = sig.extractLsb' 0 32 ∧ rd t (R.BST_SIG 1) = sig.extractLsb' 32 32
      ∧ (dom t s.bst.dom).resetBy = some 9
      ∧ t.bst.pats = (if opWord o 5 = 0#32 then 256 * bstDefault s.bst.dom else (opWord o 5).toNat)))
  ∧ (∀ o, bstPhase s = 1 → getf s F.BST_CTL_WAIT_MS ≠ 0 → (dom s s.bst.dom).holders.contains 8 = false → opOf s s.bst.tag = some o →
      Does .bistWaitTimeout s (fun t => bstPhase t = 0 ∧ isSet t F.BST_EVT_TIMEOUT = true
        ∧ (opOf t s.bst.tag).map (·.ret) = some (some ⟨0x1B, 0#32, 0#32⟩)))

/-- O16. Election makes a head or yields, and a walk hands out the table's addresses. A unit that may stand becomes CANDIDATE and sends its
BEACON out of every port that is UP. A candidate that meets a higher priority or a head yields for this start with LOST_ELECTION; a lower
one makes it send again after its backoff; a head answers each BEACON; every BEACON goes on. A winner is head with address 0, binds its own
die in entry 0, shows MISPLACED where its UP port is UP, and walks. A walk has the next number and begins with TOKEN or WALK_START. The unit
with the token records its hop and joins with its die. The head binds a joining die at the address the table gives it, marks it reachable
and floods ADDR_ASSIGN, or sets TABLE_FULL. The named unit takes the address as MEMBER and passes the token on. TOKEN_END of this walk, or
the timeout, ends it with WALK_DONE. -/
def Obligations.ElectionAndWalks : Prop := ∀ (s : State) (p : Fin 2) (m : Msg),
  (role s = 0 → s.pwr.headEn = true → isSet s F.HIF_STAT_LINK_UP = true → s.enu.lost = false → s.enu.tunneled = false → inReset s 1 = false →
    Does .becomeCandidate s (fun t => role t = 1 ∧ ∀ q < 2, sends s t q (beaconOf s false)))
  ∧ (portUp s p = true →
    (role s = 1 → m0 m 8 1 = 1 ∨ ownPrio s < mAddr m 1 → Does (.beacon p m) s (fun t =>
      role t = 0 ∧ t.enu.lost = true ∧ t.enu.backoff = false ∧ isSet t F.ENU_EVT_LOST_ELECTION = true ∧ sends s t (1 - p.val) m))
    ∧ (role s = 1 → m0 m 8 1 ≠ 1 → mAddr m 1 ≤ ownPrio s → Does (.beacon p m) s (fun t =>
      role t = 1 ∧ t.enu.backoff = true ∧ sends s t (1 - p.val) m))
    ∧ (isHead s = true → Does (.beacon p m) s (fun t => isHead t = true ∧ (∀ q < 2, sends s t q (beaconOf s true)) ∧ sends s t (1 - p.val) m)))
  ∧ (role s = 1 → s.enu.backoff = true → Does .beaconBackoffExpiry s (fun t =>
      t.enu.backoff = false ∧ role t = 1 ∧ ∀ q < 2, sends s t q (beaconOf s false)))
  ∧ (role s = 1 → s.enu.backoff = false → Does .electionWin s (fun t => isHead t = true ∧ ownAddr t = 0 ∧ t.enu.tunneled = false
      ∧ rd t (R.ENU_TAB_DLO 0) = Config.dieLo ∧ rd t (R.ENU_TAB_DHI 0) = Config.dieHi ∧ isSet t (F.ENU_TAB_FLG_BOUND 0) = true
      ∧ reachOf t 0 = true ∧ isSet t F.ENU_STAT_MISPLACED = (isSet s F.ENU_STAT_MISPLACED || portUp s 0)
      ∧ walkBegun s t ((s.enu.walk + 1) % 65536)))
  ∧ (isHead s = true → regAway s R.ENU_CTL = false → Does .walk s (fun t => walkBegun s t ((s.enu.walk + 1) % 65536) ∧ ownAddr t = ownAddr s))
  ∧ (∀ a : Fin 64, isHead s = true → isSet s F.ENU_CTL_AUTO_WALK = true → reachOf s a = true → a.val ≠ 0 → Does (.partialWalk a) s (fun t =>
      t.enu.walk = (s.enu.walk + 1) % 65536 ∧ isSet t F.ENU_STAT_WALKING = true
      ∧ sends s t 1 ⟨0x02, ownAddr s, a, [w32 ((getf s (F.ENU_TAB_FLG_HOP a) + 1) * 2 ^ 8 + (s.enu.walk + 1) % 65536 * 2 ^ 16)], []⟩))
  ∧ (arrives s p m → Does (.walkStart p m) s (fun t =>
      if portUp s 1 then carries t 1 (tokenOf (ownAddr s) (m0 m 8 8) (m0 m 16 16))
      else sends s t 0 ⟨0x06, ownAddr s, 0, [w32 (getf s F.ENU_STAT_HOP * 2 ^ 8 + m0 m 16 16 * 2 ^ 16)], []⟩))
  ∧ (portUp s 0 = true → Does (.token m) s (fun t => getf t F.ENU_STAT_HOP = m0 m 8 8 % 64 ∧ t.enu.token = some (m0 m 8 8, m0 m 16 16)
      ∧ carries t 0 ⟨0x04, ownAddr s, 0, [w32 (getf s F.ENU_OWN_OLD_ADDR * 2 ^ 8 + getf s F.ENU_OWN_HAD_ADDR * 2 ^ 14 + m0 m 8 8 % 64 * 2 ^ 16),
          Config.dieLo, Config.dieHi, w32 (extractBits (rd s R.DEV_ID) 0 8 + s.pwr.cfgsrc * 2 ^ 8 + b2n (portUp s 1) * 2 ^ 10 + m0 m 16 16 * 2 ^ 16)], []⟩))
  ∧ (arrives s p m → isHead s = true →
    (∀ u, assignAddr s (mw m 1) (mw m 2) = some u → Does (.join p m) s (fun t => bindsDie t (mw m 1) (mw m 2) u = true
      ∧ getf t (F.ENU_TAB_FLG_HOP u) = m0 m 16 6 ∧ getf t (F.ENU_TAB_FLG_REV u) = extractBits (mw m 3) 0 8 ∧ reachOf t u = true
      ∧ evtPending t 4 = true
      ∧ sends s t 1 ⟨0x05, ownAddr s, toAll, [w32 (u * 2 ^ 8 + extractBits (mw m 3) 16 16 * 2 ^ 16), mw m 1, mw m 2], []⟩))
    ∧ (assignAddr s (mw m 1) (mw m 2) = none → Does (.join p m) s (fun t => isSet t F.ENU_EVT_TABLE_FULL = true
      ∧ sends s t 1 ⟨0x05, ownAddr s, toAll, [w32 (2 ^ 14 + extractBits (mw m 3) 16 16 * 2 ^ 16), mw m 1, mw m 2], []⟩)))
  ∧ (portUp s 0 = true → isHead s = false → mw m 1 = Config.dieLo → mw m 2 = Config.dieHi → m0 m 14 1 ≠ 1 → Does (.addrAssign m) s (fun t =>
      role t = 3 ∧ ownAddr t = m0 m 8 6 ∧ getf t F.ENU_OWN_OLD_ADDR = m0 m 8 6 ∧ getf t F.ENU_OWN_HAD_ADDR = 1 ∧ t.enu.tunneled = true
      ∧ t.enu.token = none ∧ sends s t 1 m ∧ ∀ h w, s.enu.token = some (h, w) → sends s t 1 (tokenOf (m0 m 8 6) (h + 1) w)))
  ∧ (arrives s p m → isHead s = true → isSet s F.ENU_STAT_WALKING = true → m0 m 16 16 = s.enu.walk → Does (.tokenEnd p m) s (fun t =>
      isSet t F.ENU_STAT_WALKING = false ∧ isSet t F.ENU_EVT_WALK_DONE = true ∧ getf t F.ENU_GEN_GEN = (getf s F.ENU_GEN_GEN + 1) % 65536))
  ∧ (isHead s = true → isSet s F.ENU_STAT_WALKING = true → Does .walkTimeout s (fun t => isSet t F.ENU_STAT_WALKING = false
      ∧ isSet t F.ENU_EVT_WALK_DONE = true ∧ isSet t F.ENU_EVT_WALK_TIMEOUT = true))

/-- O17. The tunnel reads and writes host memory for members, runs remote operations and answers apertures. A message for another unit
passes on; one of no listed type counts in NOROUTE. The head marks the sender of DEV_EVT and raises its events here. It reads host memory
for TUN_RD_REQ, writes it for TUN_WR and sends TUN_INT's vector while its host can be reached; else it answers STATUS 3 or counts the write
in HIF_DISCARD. TUN_RD_CPL puts an operation's data in the banks behind those already written; an error STATUS ends it with BUS_ERROR, and
STATUS 3 ends every host read with CHAIN_LINK_DOWN. RMT_OP whose window and domain pass is dispatched here with a shared token, waits
without one, or is refused. RMT_DONE ends the forwarded operation with one record carrying the target's unit and time. WIN_CPL completes the
host's aperture read; a late one is dropped. -/
def Obligations.TunnelServesMembers : Prop := ∀ (s : State) (p : Fin 2) (m : Msg),
  (portUp s p = true → listedType m.ty = false → Does (.messageForward p m) s (fun t =>
      getf t F.ENU_CNT_NOROUTE = min 65535 (getf s F.ENU_CNT_NOROUTE + 1) ∧ t.out = s.out))
  ∧ (portUp s p = true → listedType m.ty = true → m.dst ≠ toNext → m.dst ≠ toAll → takesDst s m.dst = false → Does (.messageForward p m) s (fun t =>
      if portUp s (1 - p.val) then carries t (1 - p.val) m else getf t F.ENU_CNT_NOROUTE = min 65535 (getf s F.ENU_CNT_NOROUTE + 1)))
  ∧ (arrives s p m → isHead s = true →
    Does (.devEvt p m) s (fun t => bit (rd t (R.HIF_DEV_UNIT (m.src / 32))).toNat (m.src % 32) = true
        ∧ ∀ k < 32, bit (mw m 1).toNat k = true → evtPending t k = true)
    ∧ (hostUp s = true →
      Does (.tunRdReq p m) s (fun t => .hostRead s.hif.nextRead (mAddr m 2) (extractBits (mw m 1) 0 13) ∈ t.out
        ∧ t.hif.reads = s.hif.reads ++ [⟨s.hif.nextRead, mAddr m 2, extractBits (mw m 1) 0 13, 0, .tunnel m.src (m0 m 8 8), []⟩])
      ∧ Does (.tunWr p m) s (fun t => .hostWrite (mAddr m 2) m.data ∈ t.out ∧ t.hif = s.hif)
      ∧ (isSet s F.HIF_STAT_MSIX_EN = true → extractBits (rd s (R.HIF_MSIX (m0 m 16 10) 3)) 0 1 = 0 → Does (.tunInt p m) s (fun t =>
        .msix (m0 m 16 10) (rd s (R.HIF_MSIX (m0 m 16 10) 1) ++ rd s (R.HIF_MSIX (m0 m 16 10) 0)) (rd s (R.HIF_MSIX (m0 m 16 10) 2)) ∈ t.out)))
    ∧ (hostUp s = false →
      Does (.tunRdReq p m) s (fun t => t.hif.reads = s.hif.reads
        ∧ sends s t 1 ⟨0x13, ownAddr s, m.src, [w32 (m0 m 8 8 * 2 ^ 8 + 3 * 2 ^ 16 + 2 ^ 20), 0#32, 0#32, 0#32], []⟩)
      ∧ Does (.tunWr p m) s (fun t => getf t F.HIF_DISCARD_COUNT = min (2 ^ 32 - 1) (getf s F.HIF_DISCARD_COUNT + 1))))
  ∧ (arrives s p m → ∀ r, tunRead? s (m0 m 8 8) = some r →
    (∀ o, r.use = .op o.tag → opOf s o.tag = some o →
      (m0 m 16 4 = 0 → df o.words 8 1 1 = 1 → bankWritable s (d64 o.words 6 + o.prog) m.data.length → Does (.tunRdCpl p m) s (fun t =>
        BankHas s t (d64 o.words 6 + o.prog) m.data ∧ (let q := o.prog + m.data.length
          opOf t o.tag = some { o with prog := q, ret := if dLength o.words ≤ q then some ⟨0, w32 q, 0#32⟩ else o.ret })))
      ∧ (m0 m 16 4 ≠ 0 → m0 m 16 4 ≠ 3 → Does (.tunRdCpl p m) s (fun t => t.mem = s.mem
        ∧ opOf t o.tag = some { o with ret := some ⟨0x20, w32 o.prog, w32 o.prog⟩ }))
      ∧ (m0 m 16 4 = 3 → Does (.tunRdCpl p m) s (fun t => t.hif.reads = []
        ∧ (opOf t o.tag).map (·.ret) = some (some ⟨0x50, w32 o.prog, 0#32⟩))))
    ∧ (∀ c, r.use = .fetch c → m0 m 16 4 = 0 → m0 m 20 1 ≠ 1 → Does (.tunRdCpl p m) s (fun t =>
        t.hif.reads = s.hif.reads.map (fun q => if q.id == r.id then { q with buf := q.buf ++ m.data } else q) ∧ t.ctxs = s.ctxs)))
  ∧ (arrives s p m → s.enu.rmtWait = [] →
    (rmtReady s m = false → Does (.rmtOp p m) s (fun t => t.enu.rmtWait = [m] ∧ t.ops = s.ops))
    ∧ (rmtReady s m = true → credits (rmtWords m) ≤ lendable s →
      ((windowFields (rmtWords m)).all (inWindow (extractBits (mw m 1) 16 7) (extractBits (mw m 1) 24 7)) = false → Does (.rmtOp p m) s (fun t =>
        t.ops = s.ops ∧ getf t F.HIF_GATE_REFUSE_PERM = min 65535 (getf s F.HIF_GATE_REFUSE_PERM + 1)))
      ∧ ((windowFields (rmtWords m)).all (inWindow (extractBits (mw m 1) 16 7) (extractBits (mw m 1) 24 7)) = true →
        (∀ d, (opRow (dOpcode (rmtWords m))).bind (·.dom) = some d → away s d = false) → s.enu.tunneled = false ∨ hostReach s = true →
        Does (.rmtOp p m) s (fun t => t.enu.rmtWait = [] ∧ t.ledger.tokFree = s.ledger.tokFree - 1 ∧ lent t = lent s + credits (rmtWords m)
          ∧ ∃ o : Op, t.ops = s.ops ++ [o] ∧ o.tag = s.nextTag ∧ o.words = rmtWords m ∧ o.origin = some (m.src, m0 m 16 12)
            ∧ o.pool = true ∧ o.started = false ∧ o.ret = none))))
  ∧ (arrives s p m → ∀ o : Op, s.ops.find? (fun o => o.fwd && decide (o.tag % 4096 = m0 m 16 12)) = some o → o.ctx < 1024 →
      let r := bytesWords 8 m.data
      let w := recWords s o.ctx o.sq o.words (extractBits (r.getD 1 0#32) 0 8) (extractBits (r.getD 3 0#32) 0 8) (r.getD 6 0#32) (r.getD 7 0#32)
      let w1 := insertBits (w.getD 1 0#32) 16 6 (dUnit o.words)
      Does (.rmtDone p m) s (fun t => t.ops = s.ops.filter (fun q => q.tag != o.tag)
        ∧ getf t (F.CTX_DONE_COUNT o.ctx) = (getf s (F.CTX_DONE_COUNT o.ctx) + 1) % 2 ^ 32
        ∧ (dSilent o.words = false → writesNow s o.ctx = true →
          .hostWrite (cqBase s o.ctx + 32 * getf s (F.CTX_CQ_IDX_CQ_PI o.ctx))
            (wordsBytes ((((w.set 1 (w1 ||| w32 (phaseBit (ctx s o.ctx).nrec (cqSize s o.ctx) * 2 ^ 31))).set 4 (r.getD 4 0#32)).set 5 (r.getD 5 0#32)))) ∈ t.out)))
  ∧ (arrives s p m →
    (∀ w, s.hif.winReads.find? (fun w => decide (w.wtag = m0 m 8 8) && decide (w.unit = m.src)) = some w → Does (.winCpl p m) s (fun t =>
      t.out = s.out ++ [if m0 m 16 1 = 1 then .hostCpl .completerAbort [] else .hostCpl .success m.data]
      ∧ t.hif.winReads = s.hif.winReads.filter (fun q => q.wtag != w.wtag)))
    ∧ (s.hif.winReads.find? (fun w => decide (w.wtag = m0 m 8 8) && decide (w.unit = m.src)) = none → Does (.winCpl p m) s (fun t =>
      t.out = s.out ∧ t.hif = s.hif)))

/-- O18. A sleep round opens, gathers the votes, and ends in a commit or an abort with its cause. PROPOSE on the head opens a round with the
next number; SLEEP_PROPOSE asks a member for its vote. An idle unit votes READY; at the end of the wait a busy one votes busy with its
reason. The head counts READY votes and, when every reachable unit has voted, floods SLEEP_COMMIT, takes it and sends QUIET. CANCEL, a busy
vote, a missing vote and NAK_WAKE end the round with causes 4, 0, 2 and 1 and the unit concerned; a NAK_WAKE after the commit only counts. A
member that voted READY takes the commit of its round. SLEEP_ABORT ends a member's part with the cause it carries. -/
def Obligations.SleepVote : Prop := ∀ (s : State) (p : Fin 2) (m : Msg),
  let ph := getf s F.ENU_SLEEP_STAT_PHASE
  (isHead s = true → regAway s R.ENU_SLEEP_CTL = false →
    (ph = 0 → Does .propose s (fun t => getf t F.ENU_SLEEP_STAT_PHASE = 1 ∧ t.enu.round = (s.enu.round + 1) % 65536 ∧ t.enu.votes = 0
      ∧ t.enu.voting = true ∧ t.enu.voted = false
      ∧ sends s t 1 ⟨0x20, ownAddr s, toAll, [w32 ((s.enu.round + 1) % 65536 * 2 ^ 16), w32 (max 1 (getf s F.ENU_CTL_VOTE_WAIT))], []⟩))
    ∧ (ph = 1 → Does .cancel s (fun t => roundEnded s t 4 0)))
  ∧ (portUp s 0 = true → isMember s = true →
    Does (.sleepPropose m) s (fun t => t.enu.round = m0 m 16 16 ∧ t.enu.voting = true ∧ t.enu.voted = false ∧ sends s t 1 m)
    ∧ (s.enu.voted = true → m0 m 16 16 = s.enu.round → Does (.sleepCommit m) s (fun t => sleepTaken s t ∧ sends s t 1 m))
    ∧ (s.enu.committed = false → Does (.sleepAbort m) s (fun t => getf t F.ENU_SLEEP_STAT_PHASE = 0 ∧ getf t F.ENU_SLEEP_STAT_LAST = 2
      ∧ getf t F.ENU_SLEEP_STAT_CAUSE = m0 m 8 4 ∧ getf t F.ENU_SLEEP_STAT_UNIT = m0 m 16 6 ∧ isSet t F.ENU_EVT_SLEEP_ABORTED = true
      ∧ t.enu.voted = false ∧ t.enu.voting = false ∧ sends s t 1 m)))
  ∧ (s.enu.voting = true → isHead s = false →
    (sleepBusy s = none → ∀ q ∈ [Instr.sleepReadyVote, Instr.voteWaitExpiry], Does q s (fun t => getf t F.ENU_SLEEP_STAT_PHASE = 2
      ∧ t.enu.voted = true ∧ t.enu.voting = false ∧ sends s t 0 ⟨0x21, ownAddr s, 0, [w32 (2 ^ 8 + s.enu.round * 2 ^ 16)], []⟩))
    ∧ (∀ why, sleepBusy s = some why → Does .voteWaitExpiry s (fun t => t.enu.voted = false ∧ t.enu.voting = false
      ∧ getf t F.ENU_SLEEP_STAT_PHASE = ph ∧ sends s t 0 ⟨0x21, ownAddr s, 0, [w32 (why * 2 ^ 12 + s.enu.round * 2 ^ 16)], []⟩)))
  ∧ (s.enu.voting = true → isHead s = true → ph = 1 →
    (sleepBusy s = none → ∀ q ∈ [Instr.sleepReadyVote, Instr.voteWaitExpiry],
      (reachMask s &&& setBit s.enu.votes 0 = reachMask s → Does q s (fun t => sleepTaken s t
        ∧ sends s t 1 ⟨0x22, ownAddr s, toAll, [w32 (s.enu.round * 2 ^ 16)], []⟩))
      ∧ (reachMask s &&& setBit s.enu.votes 0 ≠ reachMask s → Does q s (fun t => t.enu.votes = setBit s.enu.votes 0 ∧ t.enu.voted = true
        ∧ getf t F.ENU_SLEEP_STAT_PHASE = 1)))
    ∧ (∀ why, sleepBusy s = some why → Does .voteWaitExpiry s (fun t => roundEnded s t 0 0)))
  ∧ (arrives s p m → isHead s = true → m0 m 16 16 = s.enu.round →
    (ph = 1 →
      (m0 m 8 1 = 1 → reachMask s &&& setBit s.enu.votes m.src = reachMask s → Does (.sleepVote p m) s (fun t => sleepTaken s t
        ∧ sends s t 1 ⟨0x22, ownAddr s, toAll, [w32 (s.enu.round * 2 ^ 16)], []⟩))
      ∧ (m0 m 8 1 = 1 → reachMask s &&& setBit s.enu.votes m.src ≠ reachMask s → Does (.sleepVote p m) s (fun t =>
        t.enu.votes = setBit s.enu.votes m.src ∧ getf t F.ENU_SLEEP_STAT_PHASE = 1))
      ∧ (m0 m 8 1 ≠ 1 → Does (.sleepVote p m) s (fun t => roundEnded s t 0 m.src))
      ∧ Does (.nakWake p m) s (fun t => roundEnded s t 1 m.src))
    ∧ (ph = 3 → Does (.nakWake p m) s (fun t => getf t F.ENU_CNT2_NAK_LATE = min 65535 (getf s F.ENU_CNT2_NAK_LATE + 1)
        ∧ getf t F.ENU_SLEEP_STAT_PHASE = 3)))
  ∧ (isHead s = true → ph = 1 → Does .voteMissingTimeout s (fun t =>
      roundEnded s t 2 (((List.range 64).find? (fun u => reachOf s u && !bit s.enu.votes u)).getD 0)))

/-- O19. Address table entries, the remote reset command, the bypass pin and topology changes. ENU_RST_CMD with its key sends RESET_CMD to
the unit named or floods it downstream; with another key it does nothing. A write of DIE_LO of a table entry is held; DIE_HI writes the pair
and BOUND its bit. An entry that a walk, its unit's reachability or another entry with the same die protects stays, with TAB_DENIED. A write
of BYPASS stores it and drives BYP_N low while it is 1 and high otherwise once G4 is powered; a level that it has already is not driven
again. At TOPO_BREAK the head takes every unit beyond the reporter's hop out of REACH, sets BREAK and device event 4 and steps GEN. A unit
takes REACH, HOST_LINK and the policy from TOPO_UPDATE, steps GEN and passes it on. -/
def Obligations.EnuCommands : Prop := ∀ (s : State),
  (∀ (dst : Fin 64) (all : Bool), regAway s R.ENU_RST_CMD = false →
    (∀ key, key ≠ 0xC0DE → exec (.enuRstCmd dst all key) s = .next s)
    ∧ (all = true → Does (.enuRstCmd dst all 0xC0DE) s (fun t => sends s t 1 ⟨0x09, ownAddr s, toAll, [0#32, 0xC0DE#32], []⟩))
    ∧ (all = false → dst.val ≠ ownAddr s → Does (.enuRstCmd dst all 0xC0DE) s (fun t =>
        sends s t (portTo s dst) ⟨0x09, ownAddr s, dst, [0#32, 0xC0DE#32], []⟩)))
  ∧ (∀ (m : Master) (u : Fin 64) (v : W32), regAway s (R.ENU_TAB_FLG u) = false →
    let lo := (heldLow s m (R.ENU_TAB_DHI u)).getD (rd s (R.ENU_TAB_DLO u))
    let busy := isSet s F.ENU_STAT_WALKING || reachOf s u
    let kept (t : State) : Prop := rd t (R.ENU_TAB_DLO u) = rd s (R.ENU_TAB_DLO u) ∧ rd t (R.ENU_TAB_DHI u) = rd s (R.ENU_TAB_DHI u)
      ∧ rd t (R.ENU_TAB_FLG u) = rd s (R.ENU_TAB_FLG u) ∧ isSet t F.ENU_EVT_TAB_DENIED = true
    Does (.enuTabWrite m u 0 v) s (fun t => t.regs = s.regs ∧ heldLow t m (R.ENU_TAB_DHI u) = some v ∧ wideOf t (otherMaster m) = wideOf s (otherMaster m))
    ∧ ((busy || isSet s (F.ENU_TAB_FLG_BOUND u) && boundElsewhere s u lo v) = true → Does (.enuTabWrite m u 1 v) s kept)
    ∧ ((busy || isSet s (F.ENU_TAB_FLG_BOUND u) && boundElsewhere s u lo v) = false → Does (.enuTabWrite m u 1 v) s (fun t =>
        rd t (R.ENU_TAB_DLO u) = lo ∧ rd t (R.ENU_TAB_DHI u) = v ∧ heldLow t m (R.ENU_TAB_DHI u) = none
        ∧ ∀ r, r ≠ R.ENU_TAB_DLO u → r ≠ R.ENU_TAB_DHI u → rd t r = rd s r))
    ∧ ((busy || v.getLsbD 0 && boundElsewhere s u (rd s (R.ENU_TAB_DLO u)) (rd s (R.ENU_TAB_DHI u))) = true → Does (.enuTabWrite m u 2 v) s kept)
    ∧ ((busy || v.getLsbD 0 && boundElsewhere s u (rd s (R.ENU_TAB_DLO u)) (rd s (R.ENU_TAB_DHI u))) = false → Does (.enuTabWrite m u 2 v) s (fun t =>
        isSet t (F.ENU_TAB_FLG_BOUND u) = v.getLsbD 0 ∧ ∀ r, r ≠ R.ENU_TAB_FLG u → rd t r = rd s r)))
  ∧ (∀ on : Bool, regAway s R.ENU_CTL = false → Does (.enuBypass on) s (fun t =>
      let v := b2n (bit s.pwr.groups 4 && !on)
      isSet t F.ENU_CTL_BYPASS = on ∧ t.pwr = { s.pwr with byp := some v }
      ∧ t.out = (if s.pwr.byp = some v then s.out else s.out ++ [.pin .bypN v]) ∧ ∀ r, r ≠ R.ENU_CTL → rd t r = rd s r))
  ∧ (∀ (p : Fin 2) (m : Msg), arrives s p m → isHead s = true → Does (.topoBreak p m) s (fun t =>
      let h := if m0 m 8 6 = 0 then 0 else getf s (F.ENU_TAB_FLG_HOP (m0 m 8 6))
      (∀ u < 64, reachOf t u = (reachOf s u && !(decide (0 < u) && decide (h < getf s (F.ENU_TAB_FLG_HOP u)))))
      ∧ isSet t F.ENU_EVT_BREAK = true ∧ evtPending t 4 = true ∧ getf t F.ENU_GEN_GEN = (getf s F.ENU_GEN_GEN + 1) % 65536))
  ∧ (∀ m : Msg, portUp s 0 = true → isHead s = false → Does (.topoUpdate m) s (fun t => getf t F.ENU_GEN_GEN = (getf s F.ENU_GEN_GEN + 1) % 65536
      ∧ rd t (R.ENU_REACH 0) = mw m 1 ∧ rd t (R.ENU_REACH 1) = mw m 2 ∧ getf t F.ENU_STAT_HOST_LINK = m0 m 16 1 ∧ t.enu.policy = m0 m 17 1
      ∧ sends s t 1 m))

/-- O20. A chain port locks, trains, exchanges capacities and the key, comes UP, and falls back to BLOCK with its FAIL code. Block lock on
both lanes ends BLOCK, frame lock on both with a skew of at most 16 ends FRAME and sends the capacities. A lost lock, a role or version
mismatch, a capacity below its limit, a stage timeout and RETRAIN return the port to BLOCK with the code of Table 12-5; from UP the link is
lost and counted. TRAIN and CAP fill in the partner's parameters; PARAM ends when both sides hold them, and the DOWN port draws a key and
sends it. The UP port answers a whole key with KEY_ACK; a matching check or LINK_UP brings UP with the partner's capacities. EN starts and
stops the port; PRBS takes it out of service, and its errors count. -/
def Obligations.ChainTraining : Prop := ∀ (s : State) (p lane : Fin 2), s.load.round = none →
  let st := pst s p
  let x := port s p
  let blk := getf s (F.CHN_PSTAT_BLK p)
  let frm := getf s (F.CHN_PSTAT_FRM p)
  let fails (i : Instr) (code : Nat) : Prop := Does i s (fun t => atBlock t p code ∧ linkLost s t p)
  (coding s p = true →
    (∀ n, Does (.laneBlockLock p lane n) s (fun t => getf t (F.CHN_PSTAT_BLK p) = setBit blk lane
      ∧ getf t (F.CHN_CNT0_HDR_ERR p) = min 65535 (getf s (F.CHN_CNT0_HDR_ERR p) + n)
      ∧ pst t p = if st = 1 ∧ setBit blk lane = 3 then 2 else st))
    ∧ (bit blk lane = true → ∀ n,
      (st = 1 → Does (.laneBlockLockLost p lane n none) s (fun t => pst t p = 1 ∧ getf t (F.CHN_PSTAT_BLK p) = clearBit blk lane))
      ∧ (st ≠ 1 → fails (.laneBlockLockLost p lane n none) 9))
    ∧ (bit frm lane = true → fails (.laneFrameLockLost p lane none) 9))
  ∧ (st = 2 → ∀ (inv : Bool) (skew : Nat), Does (.laneFrameLock p lane inv skew) s (fun t => getf t (F.CHN_PSTAT_FRM p) = setBit frm lane
      ∧ (inv = true → bit (getf t (F.CHN_PSTAT_INV p)) lane = true)
      ∧ (if setBit frm lane = 3 ∧ skew ≤ 16 then pst t p = 3 ∧ getf t (F.CHN_PSTAT_SKEW p) = skew
          ∧ ∀ c ∈ [(0, 64), (1, 1024), (2, 1024), (3, 2048)], .ctlBlock p 0x11 (c.2 + 4096 * c.1) ∈ t.out
        else pst t p = 2)))
  ∧ (st = 3 →
    let key (t : State) : Prop := p.val = 1 → ∃ k < 2 ^ 128, (port t p).key = some k ∧ ∀ n < 11, .ctlBlock p (0x20 + n) (k / 2 ^ (12 * n) % 4096) ∈ t.out
    (∀ (rx role : Fin 2) (rs : Fin 8) (ok : Bool) (v : Fin 32),
      (role.val = p.val → fails (.train p rx lane role rs ok v) 4)
      ∧ (role.val ≠ p.val → v.val ≠ 1 → fails (.train p rx lane role rs ok v) 5)
      ∧ (role.val ≠ p.val → v.val = 1 → Does (.train p rx lane role rs ok v) s (fun t =>
          (port t p).partner = some (role.val, 1, rs.val) ∧ isSet t (F.CHN_PSTAT_CROSSED p) = decide (rx ≠ lane)
          ∧ (if ok = true ∧ (List.range 4).all (fun q => (sget q x.caps).isSome) = true then pst t p = 4 ∧ key t else pst t p = 3))))
    ∧ (∀ (vl : Fin 4) (n : Fin 4096),
      (n.val < (if vl.val = 0 then 18 else 262) → fails (.cap p vl n) 6)
      ∧ ((if vl.val = 0 then 18 else 262) ≤ n.val → Does (.cap p vl n) s (fun t => sget vl.val (port t p).caps = some n.val
        ∧ (if x.partner.isSome = true ∧ x.partnerOk = true ∧ (List.range 4).all (fun q => q == vl.val || (sget q x.caps).isSome) = true then pst t p = 4 ∧ key t
            else pst t p = 3)))))
  ∧ (st = 4 →
    (p.val = 0 → ∀ (n : Fin 11) (v : Fin 4096), Does (.keyBlock p n v) s (fun t => sget n.val (port t p).keyParts = some v.val ∧ t.regs = s.regs
        ∧ ∀ k, linkKey (port t p) = some k → .ctlBlock p 0x2B (keyCheck k) ∈ t.out))
    ∧ (p.val = 1 → ∀ k, x.key = some k → ∀ v : Fin 4096,
      (v.val = keyCheck k → Does (.keyAck p v) s (fun t => linkIsUp s t p k))
      ∧ (v.val ≠ keyCheck k → Does (.keyAck p v) s (fun t => t.regs = s.regs ∧ t.ports = s.ports
        ∧ ∀ n < 11, .ctlBlock p (0x20 + n) (k / 2 ^ (12 * n) % 4096) ∈ t.out)))
    ∧ (p.val = 0 → s.load.waiting = false → ∀ k, linkKey x = some k → Does (.linkUp p) s (fun t => linkIsUp s t p k)))
  ∧ (∀ c ∈ [(1, 1), (2, if frm = 3 then 3 else 2), (3, 6), (4, 7)], st = c.1 → fails (.trainTimeout p) c.2)
  ∧ (away s (2 + p.val) = false →
    (st ≠ 6 → Does (.chnPortEn p false) s (fun t => pst t p = 0 ∧ isSet t (F.CHN_PCTL_EN p) = false ∧ port t p = {} ∧ linkLost s t p))
    ∧ (st = 0 → isSet s (F.CHN_PRBS_TX_EN p) = false → isSet s (F.CHN_PRBS_CHK_EN p) = false → Does (.chnPortEn p true) s (fun t =>
        isSet t (F.CHN_PCTL_EN p) = true ∧ atBlock t p (getf s (F.CHN_PSTAT_FAIL p))))
    ∧ (st ≠ 0 → Does (.chnPortEn p true) s (fun t => isSet t (F.CHN_PCTL_EN p) = true ∧ t = { s with regs := t.regs } ∧ pst t p = st))
    ∧ (3 ≤ st → st ≤ 5 → fails (.chnRetrain p) (getf s (F.CHN_PSTAT_FAIL p)))
    ∧ (st < 3 ∨ 5 < st → exec (.chnRetrain p) s = .next s)
    ∧ (∀ (tx chk : Bool) (e0 e1 : Nat), Does (.chnPrbs p tx chk e0 e1) s (fun t =>
        isSet t (F.CHN_PRBS_TX_EN p) = tx ∧ isSet t (F.CHN_PRBS_CHK_EN p) = chk
        ∧ (isSet s (F.CHN_PRBS_CHK_EN p) = true → getf t (F.CHN_PRBS_ERR_LANE0 p) = min 65535 (getf s (F.CHN_PRBS_ERR_LANE0 p) + e0)
            ∧ getf t (F.CHN_PRBS_ERR_LANE1 p) = min 65535 (getf s (F.CHN_PRBS_ERR_LANE1 p) + e1))
        ∧ (chk = true → isSet s (F.CHN_PRBS_CHK_EN p) = false → rd t (R.CHN_PRBS_ERR p) = 0#32)
        ∧ (tx = true ∨ chk = true → st ≠ 6 → pst t p = 6 ∧ port t p = {} ∧ linkLost s t p)
        ∧ (tx = false → chk = false → st = 6 → isSet s (F.CHN_PCTL_EN p) = true → atBlock t p (getf s (F.CHN_PSTAT_FAIL p))))))

/-- O21. Credits, acknowledgements, replays and damaged messages of a chain port that is UP. CREDIT returns the cells freed since the last
count, up to the capacity, and a message that waited for them goes out. CSYNC makes the freed count plus the held cells the partner's count
of cells sent. ACK drops the buffer up to the message it names; another number is ignored. NAK and the replay timer send again from the
message named or the oldest, once more counted; a message replayed four times already brings the link down with FAIL 8. Counts, CSYNC and
ACK go out when they are due. A damaged message is counted and answered with NAK, a repeated one with ACK, a later one with at most one NAK
in 2 µs, and a stomped one is stepped over; its copy that was passed on ends stomped. Discarded control blocks, stray blocks and QUIET are
noted. -/
def Obligations.ChainLinkLayer : Prop := ∀ (s : State) (p : Fin 2),
  let x := port s p
  (coding s p = true → Does (.controlBlockDiscard p) s (fun t => getf t (F.CHN_CNT0_CTL_CRC p) = min 65535 (getf s (F.CHN_CNT0_CTL_CRC p) + 1)
      ∧ t = { s with regs := t.regs } ∧ ∀ a, a ≠ R.CHN_CNT0 p → rd t a = rd s a))
  ∧ (portUp s p = true →
    Does (.strayDataBlock p) s (fun t => getf t (F.CHN_CNT3_STRAY p) = min 65535 (getf s (F.CHN_CNT3_STRAY p) + 1)
      ∧ t = { s with regs := t.regs } ∧ ∀ a, a ≠ R.CHN_CNT3 p → rd t a = rd s a)
    ∧ Does (.quiet p) s (fun t => port t p = { x with quiet := true } ∧ t.regs = s.regs ∧ t.out = s.out)
    ∧ (∀ (vl : Fin 4) (v : Fin 4096),
      let a := F.LDG_CHN_AVAIL (4 * p + vl)
      let avail := min (getf s (F.LDG_CHN_CAP (4 * p + vl))) (getf s a + (v.val + 4096 - vlGet x.credited vl % 4096) % 4096)
      (x.again = [] → x.waits = [] → Does (.credit p vl v) s (fun t => getf t a = avail ∧ vlGet (port t p).credited vl = v.val ∧ t.out = s.out))
      ∧ (∀ w : Wait, x.again = [] → x.waits = [w] → x.replay = [] → w.src = none → w.m.ty ≠ 0x50 → msgVl w.m.ty = vl.val → msgCells w.m ≤ 4096 →
          msgCells w.m ≤ avail → Does (.credit p vl v) s (fun t => .chain p x.txSeq w.stomp w.m ∈ t.out ∧ getf t a = avail - msgCells w.m
            ∧ (port t p).waits = [] ∧ (port t p).replay = [⟨x.txSeq, 0, w.stomp, w.m⟩] ∧ (port t p).txSeq = (x.txSeq + 1) % 4096))
      ∧ Does (.csync p vl v) s (fun t => let f := vlGet (port t p).freed vl
          (f + vlGet x.held vl) % 4096 = v.val ∧ vlGet x.freed vl ≤ f ∧ f < vlGet x.freed vl + 4096
          ∧ vlGet (port t p).unret vl + vlGet x.freed vl = vlGet x.unret vl + f ∧ t.regs = s.regs)
      ∧ Does (.creditReturnDue p vl) s (fun t => .ctlBlock p 3 (vlGet x.freed vl % 4096 + vl * 4096) ∈ t.out ∧ vlGet (port t p).unret vl = 0
          ∧ vlGet (port t p).freed vl = vlGet x.freed vl))
    ∧ Does (.csyncDue p) s (fun t => t = { s with out := s.out ++ (List.range 4).map (fun v => .ctlBlock p 4 (vlGet x.sent v % 4096 + v * 4096)) })
    ∧ (0 < x.unacked → Does (.ackDue p) s (fun t => .ctlBlock p 5 ((x.rxSeq + 4095) % 4096) ∈ t.out ∧ port t p = { x with unacked := 0 }))
    ∧ (x.again = [] → x.waits = [] → ∀ q : Fin 4096, (∃ r ∈ x.replay, r.seq = q.val) → Does (.ack p q) s (fun t =>
        (port t p).replay = dropTo q x.replay ∧ t.out = s.out))
    ∧ (∀ q : Fin 4096, (∀ r ∈ x.replay, r.seq ≠ q.val) → exec (.ack p q) s = .next s ∧ exec (.nak p q) s = .next s)
    ∧ (∀ (q : Fin 4096) (r : Rep) (l : List Rep), x.replay.dropWhile (fun r => r.seq != q.val) = r :: l →
      ∀ i ∈ [Instr.nak p q, .replayTimer p], (i = .replayTimer p → x.replay = r :: l) →
        (r.times < 4 → x.waits = [] → Does i s (fun t => getf t (F.CHN_CNT1_REPLAYS p) = min 65535 (getf s (F.CHN_CNT1_REPLAYS p) + 1)
          ∧ (port t p).replay = x.replay.takeWhile (fun r => r.seq != q.val) ++ (r :: l).map (fun e => { e with times := e.times + 1 })
          ∧ (credited s p r.m = true → .chain p r.seq r.stomp (restamp s r.m) ∈ t.out)))
        ∧ (4 ≤ r.times → s.load.round = none → Does i s (fun t => atBlock t p 8 ∧ linkLost s t p ∧ isSet t (F.CHN_EVT_REPLAY_LIMIT p) = true)))
    ∧ (∀ (vl : Fin 4) (n : Nat),
      let crc (t : State) : Prop := getf t (F.CHN_CNT1_MSG_CRC p) = min 65535 (getf s (F.CHN_CNT1_MSG_CRC p) + 1)
      let seq (t : State) : Prop := getf t (F.CHN_CNT3_SEQ_DISCARD p) = min 65535 (getf s (F.CHN_CNT3_SEQ_DISCARD p) + 1)
      let nak (t : State) : Prop := .ctlBlock p 6 (x.rxSeq % 4096) ∈ t.out
      let free (t : State) : Prop := vlGet (port t p).freed vl = vlGet x.freed vl + n
      let copy (f : Option Msg) (t : State) : Prop := ∀ m, f = some m → portUp s (1 - p) = true → stompedOn t (1 - p) m
      Does (.messageDamaged p .header vl n none) s (fun t => crc t ∧ nak t ∧ (port t p).freed = x.freed)
      ∧ (∀ f : Option Msg, Does (.messageDamaged p .payload vl n f) s (fun t => crc t ∧ nak t ∧ free t ∧ copy f t)
        ∧ Does (.messageDamaged p .stomp vl n f) s (fun t => getf t (F.CHN_CNT2_STOMPED p) = min 65535 (getf s (F.CHN_CNT2_STOMPED p) + 1) ∧ free t
          ∧ copy f t ∧ (port t p).rxSeq = (x.rxSeq + 1) % 4096 ∧ (port t p).unacked = x.unacked + 1))
      ∧ ((∀ c, x.nakAt = some c → c + 2000 ≤ s.clk) → Does (.messageDamaged p .later vl n none) s (fun t => seq t ∧ nak t ∧ free t))
      ∧ (∀ c, x.nakAt = some c → s.clk < c + 2000 → Does (.messageDamaged p .later vl n none) s (fun t => seq t ∧ t.out = s.out ∧ free t))
      ∧ Does (.messageDamaged p .duplicate vl n none) s (fun t => seq t ∧ .ctlBlock p 5 ((x.rxSeq + 4095) % 4096) ∈ t.out ∧ free t)))

/-- O22. What a push and a pop make of a stream FIFO, at every depth and with a marker pending. A push by the producer that PROD names while
EN is 1 and D5 is served lands behind the items without its GAP bit while a slot is free; a full FIFO drops it into the pending marker, or
into a new one with its time and producer, and DROPPED counts; while DISCARDING a push without SOP is discarded and its EOP ends that. Any
other push changes the FIFO in nothing and MISROUTE counts; no push touches another FIFO. A fabric pop takes the oldest item out of the
port; the freed slot goes to a pending marker first, with the push of that turn added to it; else that push lands. The mover of an armed
VBU_RX_ARM writes a whole packet where the operation goes on, counts it, and returns OK at its number. XOFF follows the depth after the
turn. A pop whose consumer is not the fabric, or in a turn in which pops are not served, pops nothing. -/
def Obligations.FifoTurns : Prop := ∀ (s : State) (n : Fin 64) (p : PushIn),
  let x := fifo s n
  let top := p.tag % 2 = 1
  let it : Item := ⟨p.data, p.tag % 4 + p.tag / 8 % 2 * 8⟩
  let ours := isSet s (F.SFQ_CFG_EN n) = true ∧ getf s (F.SFQ_CFG_PROD n) = p.prod
  let lost (g : Gap) : Gap := { g with sop := g.sop || decide top, eop := g.eop || p.tag.testBit 1, err := g.err || p.tag.testBit 3 }
  let more (g : Gap) : Gap := lost { g with count := min 65535 (g.count + 1), ovf := g.ovf || decide (65535 ≤ g.count) }
  let first : Gap := lost { count := 1, prod := p.prod, ns := stampNs s, sec := stampS s }
  (p.prod = 0x40 → fabPort s n = false → exec (.fifoPush n p) s = .next s)
  ∧ ((p.prod = 0x40 → fabPort s n = true) → ours → away s 5 = false →
    (x.items.length < 1024 → (x.discarding = false ∨ top) → Does (.fifoPush n p) s (fun t =>
        FifoIs s t n { x with items := x.items ++ [it], booked := x.booked + 1, discarding := false } ∧ ∀ m, m ≠ n.val → fifo t m = fifo s m))
    ∧ (x.items.length = 1024 → (x.discarding = false ∨ top) → Does (.fifoPush n p) s (fun t =>
        FifoIs s t n { x with booked := x.booked + (if x.gap.isNone then 1 else 0),
                              gap := some (match x.gap with | some g => more g | none => first) }
        ∧ getf t (F.SFQ_CNT_DROPPED n) = min 65535 (getf s (F.SFQ_CNT_DROPPED n) + 1) ∧ ∀ m, m ≠ n.val → fifo t m = fifo s m))
    ∧ (x.discarding = true → ¬ top → Does (.fifoPush n p) s (fun t => FifoIs s t n { x with discarding := !p.tag.testBit 1 }
        ∧ getf t (F.SFQ_CNT2_DISCARDED n) = min 65535 (getf s (F.SFQ_CNT2_DISCARDED n) + 1))))
  ∧ ((p.prod = 0x40 → fabPort s n = true) → ¬ ours → Does (.fifoPush n p) s (fun t => FifoIs s t n x
      ∧ getf t (F.SFQ_CNT2_MISROUTE n) = min 65535 (getf s (F.SFQ_CNT2_MISROUTE n) + 1)))
  ∧ (∀ (i : Item) (l : List Item), x.items = i :: l → s.har.scan = none → x.removing = false → fabPort s n = true
      → getf s (F.SFQ_CFG_CONS n) = 2 → away s 5 = false →
      let pk := pktAfter x.inPkt i.tag
      (x.gap = none → Does (.fifoPop n true none) s (fun t => .fabItem n i.data i.tag ∈ t.out
        ∧ FifoIs s t n { x with items := l, booked := x.booked - 1, inPkt := pk }))
      ∧ (∀ g, x.gap = some g → l.length < 1024 → Does (.fifoPop n true none) s (fun t => .fabItem n i.data i.tag ∈ t.out
        ∧ FifoIs s t n { x with items := l ++ [gapItem g], gap := none, booked := x.booked - 1, inPkt := pk }
        ∧ getf t (F.SFQ_CNT_GAPS n) = min 65535 (getf s (F.SFQ_CNT_GAPS n) + 1)))
      ∧ (x.gap = none → l.length < 1024 → ours → (x.discarding = false ∨ top) → Does (.fifoPop n true (some p)) s (fun t =>
          .fabItem n i.data i.tag ∈ t.out
          ∧ FifoIs s t n { x with items := l ++ [it], booked := x.booked - 1 + 1, inPkt := pk, discarding := false }))
      ∧ (∀ g, x.gap = some g → l.length = 1023 → ours → (x.discarding = false ∨ top) → Does (.fifoPop n true (some p)) s (fun t =>
          FifoIs s t n { x with items := l ++ [gapItem (more g)], gap := none, booked := x.booked - 1, inPkt := pk })))
  ∧ ((getf s (F.SFQ_CFG_CONS n) ≠ 2 ∨ x.removing = true ∨ away s 5 = true ∨ fabPort s n = false) → exec (.fifoPop n true none) s = .next s)
  ∧ (∀ (o : Op) (i : Item) (l : List Item), armOf s n = some o → opOf s o.tag = some o → opcodeOf o = 0x11 → o.buf = [] → x.items = i :: l → i.tag = 3 →
      x.gap = none → s.har.scan = none → x.removing = false → getf s (F.SFQ_CFG_CONS n) = 1 → away s 5 = false → i.data.length = 16 →
      rxVerdict o x.items = 0 → rxSpace o = true → bankWritable s (rxAddr o + o.prog) 16 → Does (.fifoPop n false none) s (fun t =>
        BankHas s t (rxAddr o + o.prog) i.data ∧ FifoIs s t n { x with items := l, booked := x.booked - 1, inPkt := false }
        ∧ opOf t o.tag = some { o with prog := o.prog + 16, count := o.count + 1,
                                       ret := if rxMax o ≠ 0 ∧ rxMax o ≤ o.count + 1 then some ⟨0, w32 (o.count + 1), w32 ((o.prog + 16) % 2 ^ 25)⟩ else none }))
  ∧ ((getf s (F.SFQ_CFG_CONS n) ≠ 1 ∨ x.removing = true ∨ away s 5 = true ∨ armOf s n = none) → exec (.fifoPop n false none) s = .next s)

/-- O23. The pop window, discarding and flushing, and the FIFO's registers as written. A read of the pop window's first word with CONS = 3
returns the oldest item's bits 31:0, pops it and latches the other words and the tag with VALID; on an empty FIFO, during a removal it
returns 0 with VALID = 0, and with another CONS it returns 0 and pops nothing. DISCARD_PKT without a current packet does nothing; otherwise
items go from the head until an EOP has gone or a marker or an SOP is at the head, and DISCARDING covers what has not arrived. FLUSH empties
the FIFO and counts its items. A write of SFQ_CFG changes PROD, CONS and routes only while EN is 0, else sets CFG_DENIED, and always changes
EN; SFQ_WM, SFQ_PIN and SFQ_XCTX are stored (SFQ_XCTX only while EN is 0). While D5 is away a write changes nothing. -/
def Obligations.FifoWindowAndRegisters : Prop := ∀ (s : State) (n : Fin 64) (v : W32), away s 5 = false → s.har.scan = none →
  let x := fifo s n
  (∀ (i : Item) (l : List Item), getf s (F.SFQ_CFG_CONS n) = 3 → x.removing = false → x.items = i :: l → x.gap = none →
    Does (.sfqPopW0 n none) s (fun t => .regData (R.SFQ_POP_W n 0) ((bytesWords 4 i.data).getD 0 0#32) ∈ t.out
      ∧ (∀ j, 1 ≤ j → j < 4 → rd t (R.SFQ_POP_W n j) = (bytesWords 4 i.data).getD j 0#32)
      ∧ getf t (F.SFQ_POP_TAG_TAG n) = i.tag % 16 ∧ isSet t (F.SFQ_POP_TAG_VALID n) = true
      ∧ FifoIs s t n { x with items := l, booked := x.booked - 1, inPkt := pktAfter x.inPkt i.tag }))
  ∧ (getf s (F.SFQ_CFG_CONS n) = 3 → (x.items = [] ∨ x.removing = true) → Does (.sfqPopW0 n none) s (fun t =>
      .regData (R.SFQ_POP_W n 0) 0#32 ∈ t.out ∧ isSet t (F.SFQ_POP_TAG_VALID n) = false ∧ (fifo t n).items = x.items))
  ∧ (getf s (F.SFQ_CFG_CONS n) ≠ 3 → Does (.sfqPopW0 n none) s (fun t => t = { s with out := s.out ++ [.regData (R.SFQ_POP_W n 0) 0#32] }))
  ∧ ((x.inPkt = false ∨ x.removing = true) → exec (.discardPkt n false) s = .next s)
  ∧ (x.inPkt = true → x.removing = false → Does (.discardPkt n false) s (fun t => (fifo t n).items = x.items
      ∧ (match x.items with
        | [] => (fifo t n).removing = false ∧ (fifo t n).inPkt = false ∧ (fifo t n).discarding = true
        | i :: _ => if i.tag.testBit 2 || i.tag.testBit 0 then (fifo t n).removing = false ∧ (fifo t n).inPkt = false ∧ (fifo t n).discarding = false
            else (fifo t n).removing = true ∧ (fifo t n).inPkt = true)))
  ∧ (∀ (i : Item) (l : List Item), x.removing = true → x.items = i :: l → x.gap = none → Does (.discardRemoval n none) s (fun t =>
      (fifo t n).items = l ∧ (fifo t n).booked = x.booked - 1
      ∧ getf t (F.SFQ_CNT2_DISCARDED n) = min 65535 (getf s (F.SFQ_CNT2_DISCARDED n) + 1)
      ∧ ((fifo t n).removing = match l with | [] => false | j :: _ => !i.tag.testBit 1 && !j.tag.testBit 2 && !j.tag.testBit 0)
      ∧ ((fifo t n).removing = false → (fifo t n).inPkt = false ∧ (fifo t n).discarding = (decide (l = []) && !i.tag.testBit 1))))
  ∧ Does (.flush n) s (fun t => fifo t n = {}
      ∧ getf t (F.SFQ_CNT2_DISCARDED n) = min 65535 (getf s (F.SFQ_CNT2_DISCARDED n) + x.items.length))
  ∧ (extractBits v 1 2 = 0 → Does (.sfqCfgWrite n v) s (fun t =>
      (if isSet s (F.SFQ_CFG_EN n) then
        isSet t (F.SFQ_CFG_EN n) = v.getLsbD 0 ∧ rd t (R.SFQ_CFG n) &&& 0x1FFF00#32 = rd s (R.SFQ_CFG n) &&& 0x1FFF00#32
        ∧ isSet t F.SFQ_EVT_CFG_DENIED = (isSet s F.SFQ_EVT_CFG_DENIED || decide (v &&& 0x1FFF00#32 ≠ rd s (R.SFQ_CFG n) &&& 0x1FFF00#32))
      else rd t (R.SFQ_CFG n) = v &&& 0x1FFF01#32)
      ∧ fifo t n = fifo s n))
  ∧ (extractBits v 1 1 = 1 → Does (.sfqCfgWrite n v) s (fun t => fifo t n = {} ∧ isSet t (F.SFQ_CFG_EN n) = v.getLsbD 0))
  ∧ Does (.sfqWmWrite n v) s (fun t => rd t (R.SFQ_WM n) = v &&& 0x07FF07FF#32
      ∧ fifo t n = { x with xoff := if wmHigh t n ≤ x.items.length then true else if x.items.length ≤ wmLow t n then false else x.xoff })
  ∧ Does (.sfqPinWrite v) s (fun t => rd t R.SFQ_PIN = v &&& 0xBFBFBFBF#32 ∧ (∀ k < 4, t.har.pins.testBit k = decide (xoffLevel t k = 1))
      ∧ s.fifos = t.fifos)
  ∧ Does (.sfqXctxWrite n v) s (fun t => rd t (R.SFQ_XCTX n) = (if isSet s (F.SFQ_CFG_EN n) then rd s (R.SFQ_XCTX n) else v &&& 0x3FF#32)
      ∧ isSet t F.SFQ_EVT_CFG_DENIED = (isSet s F.SFQ_EVT_CFG_DENIED || (isSet s (F.SFQ_CFG_EN n) && decide (rd s (R.SFQ_XCTX n) ≠ v &&& 0x3FF#32))))
  ∧ (∀ u : State, away u 5 = true → exec (.sfqCfgWrite n v) u = .next u ∧ exec (.sfqWmWrite n v) u = .next u ∧ exec (.sfqPinWrite v) u = .next u
      ∧ exec (.sfqXctxWrite n v) u = .next u ∧ exec (.flush n) u = .next u)

/-- O24. A scan link trains, counts its boards, asks who they are, configures them, and falls back on errors. A link in TRAIN that locks
takes the sampling phase, goes to ENUM and sends the ENUM word; the training timeout shows FAIL 1. Word lock lost brings it back to TRAIN
with FAIL 5 and LOST. The ENUM word's return with a ring delay above 1,000 ns or more than 4 boards fails with 2 or 3; else BOARDS and
RING_NS are shown, EXP_MISMATCH follows EXPECT, and the boards are asked one after the other; with no board the link is UP. IDR stores the
identity and asks the next board, after the last CFG goes out; each CFGA clears its board, and after register 3 the link is UP. A reply with
a bad CRC is counted and discarded. A reply time-out counts the missing replies and repeats the command, the third in a row fails with 4. EN
and RETRAIN start, stop and restart the link. -/
def Obligations.HarrierLinks : Prop := ∀ (s : State) (l : Fin 4),
  let x := hlink s l
  let st := getf s (F.HAR_LSTAT_STATE l)
  (st = 1 → Does (.harTrainTimeout l) s (fun t => getf t (F.HAR_LSTAT_FAIL l) = 1 ∧ getf t (F.HAR_LSTAT_STATE l) = 1))
  ∧ (st ≠ 1 → exec (.harTrainTimeout l) s = .next s ∧ ∀ ph, exec (.harWordLock l ph) s = .next s)
  ∧ (∀ ph, st = 1 → Does (.harWordLock l ph) s (fun t => getf t (F.HAR_LSTAT_STATE l) = 2 ∧ getf t (F.HAR_LSTAT_PHASE l) = ph.val
      ∧ t.out = s.out ++ [.scan l (ctlWord 0x03 0 0)]))
  ∧ (2 ≤ st → Does (.harWordLockLost l) s (fun t => trainAgain t l 5 ∧ (getf t F.HAR_EVT_LOST).testBit l.val = true
      ∧ (s.har.scan.isSome = true → s.har.links.testBit l.val = true → isSet t F.HAR_STAT_WAIT_LINK = true)))
  ∧ (st < 2 → exec (.harWordLockLost l) s = .next s)
  ∧ (∀ (n : Fin 256) (ring : Nat), st = 2 →
      (1000 < ring → Does (.harEnumReturn l n ring) s (fun t => trainAgain t l 2))
      ∧ (ring ≤ 1000 → 4 < n.val → Does (.harEnumReturn l n ring) s (fun t => trainAgain t l 3))
      ∧ (ring ≤ 1000 → n.val ≤ 4 → s.har.scan = none → Does (.harEnumReturn l n ring) s (fun t =>
          getf t (F.HAR_LSTAT_BOARDS l) = n.val ∧ getf t (F.HAR_LSTAT_RING_NS l) = ring
          ∧ (getf t F.HAR_EVT_EXP_MISMATCH).testBit l.val = ((getf s F.HAR_EVT_EXP_MISMATCH).testBit l.val
              || (decide (getf s (F.HAR_LCTL_EXPECT l) ≠ 7) && decide (getf s (F.HAR_LCTL_EXPECT l) ≠ n.val)))
          ∧ (if n.val = 0 then getf t (F.HAR_LSTAT_STATE l) = 4 ∧ (getf t F.HAR_EVT_UP).testBit l.val = true
            else getf t (F.HAR_LSTAT_STATE l) = 3 ∧ pktSent s t l 2 0 0 1 (.idq 0)))))
  ∧ (∀ n ring, st ≠ 2 → exec (.harEnumReturn l n ring) s = .next s)
  ∧ (∀ (pos : Fin 4) (w0 w1 : W32), x.cmd = some (.idq pos.val) →
      Does (.idr l pos w0 w1 true) s (fun t => rd t (R.HAR_BRD_W0 l pos) = w0 ∧ rd t (R.HAR_BRD_W1 l pos) = w1
        ∧ (if pos.val + 1 < boards s l then pktSent s t l 2 (pos.val + 1) 0 (2 ^ (pos.val + 1)) (.idq (pos.val + 1))
          else pktSent s t l 4 0 (2 ^ 8 * getf s (F.HAR_BCFG_VALUE 0)) (allBoards s l) (.cfg 0)))
      ∧ Does (.idr l pos w0 w1 false) s (fun t => getf t (F.HAR_LCNT_CRC_ERR l) = min 65535 (getf s (F.HAR_LCNT_CRC_ERR l) + 1)
        ∧ t = { s with regs := t.regs }))
  ∧ (∀ (pos : Fin 4) (w0 w1 : W32) (g : Bool), x.cmd ≠ some (.idq pos.val) → exec (.idr l pos w0 w1 g) s = .next s)
  ∧ (∀ (pos : Fin 4) (r : Nat), x.cmd = some (.cfg r) →
      (clearBit x.need pos ≠ 0 → Does (.cfga l pos true) s (fun t => hlink t l = { x with need := clearBit x.need pos }))
      ∧ (clearBit x.need pos = 0 → r < 3 → Does (.cfga l pos true) s (fun t =>
          pktSent s t l 4 0 (r + 1 + 2 ^ 8 * getf s (F.HAR_BCFG_VALUE (r + 1))) (allBoards s l) (.cfg (r + 1))))
      ∧ (clearBit x.need pos = 0 → 3 ≤ r → st = 3 → s.har.scan = none → Does (.cfga l pos true) s (fun t =>
          getf t (F.HAR_LSTAT_STATE l) = 4 ∧ (getf t F.HAR_EVT_UP).testBit l.val = true ∧ (hlink t l).cmd = none))
      ∧ Does (.cfga l pos false) s (fun t => getf t (F.HAR_LCNT_CRC_ERR l) = min 65535 (getf s (F.HAR_LCNT_CRC_ERR l) + 1)
        ∧ t = { s with regs := t.regs }))
  ∧ (x.cmd = none → exec (.harReplyTimeout l) s = .next s ∧ ∀ pos g, exec (.cfga l pos g) s = .next s)
  ∧ (∀ c : HCmd, x.cmd = some c → c ≠ .step →
      (x.miss < 2 → Does (.harReplyTimeout l) s (fun t =>
          getf t (F.HAR_LCNT_TIMEOUTS l) = min 65535 (getf s (F.HAR_LCNT_TIMEOUTS l) + missing x.need) ∧ (hlink t l).miss = x.miss + 1
          ∧ match c with
            | .idq pos => pktSent s t l 2 pos 0 (2 ^ pos) c
            | .cfg r => pktSent s t l 4 0 (r + 2 ^ 8 * getf s (F.HAR_BCFG_VALUE r)) (allBoards s l) c
            | .step => True))
      ∧ (2 ≤ x.miss → Does (.harReplyTimeout l) s (fun t => trainAgain t l 4)))
  ∧ (regAway s (R.HAR_LCTL l) = false →
      (∀ en, Does (.harLinkEn l en) s (fun t => isSet t (F.HAR_LCTL_EN l) = en ∧ getf t (F.HAR_LCTL_EXPECT l) = getf s (F.HAR_LCTL_EXPECT l)
        ∧ (en = false → isSet s (F.HAR_LCTL_EN l) = true → getf t (F.HAR_LSTAT_STATE l) = 0 ∧ (hlink t l).cmd = none)
        ∧ (en = true → isSet s (F.HAR_LCTL_EN l) = false → away s 6 = false → st = 0 → getf t (F.HAR_LSTAT_STATE l) = 1)))
      ∧ Does (.harRetrain l) s (fun t => getf t (F.HAR_LSTAT_STATE l) = (if isSet s (F.HAR_LCTL_EN l) = true ∧ st ≠ 0 then 1 else st)))
  ∧ (regAway s (R.HAR_LCTL l) = true → exec (.harRetrain l) s = .next s ∧ ∀ en, exec (.harLinkEn l en) s = .next s)

/-- O25. A scan starts, drives its points step by step, waits for replies, retries, holds and ends. HAR_SCAN with a bad body returns RANGE,
with a link not enabled OFFLINE. Else it begins: with a link not UP it waits for it; with all UP and no CFG due it copies the map and sends
the first driven point to every selected link. The settle time over and the replies in, the next STEP goes out with LATCH, or is held while
the sense FIFO is in XOFF and is driven with HELD at 1. A reply is kept with its receipt, one with a bad CRC counted and discarded; missing
replies count and repeat the point within RETRY. LINK_WAIT over while a link is down ends the scan with OFFLINE. HAR_NETMAP_LOAD puts the
map in BANK2 or BANK3 with REP set on the first entry of each net but 0 only, and returns the entries and the nets. -/
def Obligations.HarrierScans : Prop := ∀ (s : State) (o : Op),
  (∀ reread, harTurn s o.tag 0x20 = some o → opOf s o.tag = some o →
    let n := scLast o - scFirst o + 1
    let bad := scLast o < scFirst o ∨ scLinks o = 0 ∨ scMax o = 0 ∨ 32768 < scMax o ∨ 3 < scTest o ∨ (1 ≤ scSettle o ∧ scSettle o ≤ 5)
      ∨ scMap o % 2 ≠ 0 ∨ scRec o % 32 ≠ 0 ∨ ¬ (0x200000 ≤ scMap o ∧ scMap o + 2 * n ≤ 0x400000)
      ∨ ¬ (0x200000 ≤ scRec o ∧ scRec o + 32 * scMax o ≤ 0x400000)
    let off := ∃ l, l < 4 ∧ (scLinks o).testBit l = true ∧ isSet s (F.HAR_LCTL_EN l) = false
    (bad → EndsOp (.harScan o.tag reread) s o ⟨0x14, 0#32, 0#32⟩)
    ∧ (¬ bad → off → EndsOp (.harScan o.tag reread) s o ⟨0x1B, 0#32, 0#32⟩)
    ∧ (¬ bad → ¬ off → linksUp s o = false → Does (.harScan o.tag reread) s (fun t =>
        t.har.scan = some { tag := o.tag, reread := reread } ∧ t.har.links = scLinks o ∧ isSet t F.HAR_STAT_BUSY = true
        ∧ isSet t F.HAR_STAT_WAIT_LINK = true ∧ rd t R.HAR_HOLD = 0#32 ∧ retOf t o.tag = o.ret ∧ t.out = s.out))
    ∧ (∀ bs : List Byte, ¬ bad → ¬ off → linksUp s o = true → readBytes s (2 * n) (scMap o) = (bs, none) →
        let c : Scan := { tag := o.tag, reread := reread, map := halves n bs }
        let pts := ((List.range n).map (fun i => scFirst o + i)).filter (isDriven o c)
        (scanBad s o c pts = true → Does (.harScan o.tag reread) s (fun t => scanOver t o ⟨0x14, 0#32, 0#32⟩))
        ∧ (∀ p q, scanBad s o c pts = false → pts = p :: q → mustHold s o = false → (∀ l < 4, (scLinks o).testBit l = true → s.har.dirty.testBit l = false) →
            (∀ l < 4, (hlink s l).cmd = none) → Does (.harScan o.tag reread) s (fun t =>
              t.har.scan = some { c with pts := pts, ph := 2, j := some 0 } ∧ getf t F.HAR_STAT_POINT = p ∧ isSet t F.HAR_STAT_BUSY = true
              ∧ ∀ l < 4, (scLinks o).testBit l = true →
                .scan l (stepWord l (scTest o + 1) (some p) (if 2 ≤ scTest o then some (eNet (mapAt o c p)) else none) false) ∈ t.out))))
  ∧ (∀ c j, scanIs s o c → c.ph = 2 → c.j = some j → c.heldAt = none →
      linksUp s o = true → repliesIn s o = true →
      (mustHold s o = true → Does .harSettleExpiry s (fun t => t.har.scan = some { c with heldAt := some s.clk, held := true }
        ∧ isSet t F.HAR_STAT_HELD = true))
      ∧ (∀ p < 4096, mustHold s o = false → c.redo = false → c.lostStep = false → c.relink = false → c.pts[j + 1]? = some p →
          Does .harSettleExpiry s (fun t => t.har.scan = some { c with j := some (j + 1), reps := [] } ∧ getf t F.HAR_STAT_POINT = p
            ∧ ∀ l < 4, (scLinks o).testBit l = true →
              .scan l (stepWord l (scTest o + 1) (some p) (if 2 ≤ scTest o then some (eNet (mapAt o c p)) else none) true) ∈ t.out)))
  ∧ (s.har.scan = none → exec .harSettleExpiry s = .next s ∧ exec .harLinkWaitExpiry s = .next s)
  ∧ (∀ (c : Scan) (l pos : Fin 4) (ws : List W32), (hlink s l).cmd = some .step → (hlink s l).need.testBit pos.val = true →
      Does (.rsp l pos ws false) s (fun t => getf t (F.HAR_LCNT_CRC_ERR l) = min 65535 (getf s (F.HAR_LCNT_CRC_ERR l) + 1)
        ∧ t = { s with regs := t.regs })
      ∧ (scanIs s o c → (scLinks o).testBit l.val = true → clearBit (hlink s l).need pos ≠ 0 → Does (.rsp l pos ws true) s (fun t =>
          t.har.scan = some { c with reps := c.reps ++ [⟨4 * l.val + pos.val, ws.take 9, stampNs s, stampS s⟩] }
          ∧ hlink t l = { hlink s l with need := clearBit (hlink s l).need pos, miss := 0 })))
  ∧ (∀ (c : Scan) (j : Nat) (l : Fin 4), scanIs s o c → (hlink s l).cmd = some .step → (scLinks o).testBit l.val = true →
      (∀ m < 4, m ≠ l.val → (scLinks o).testBit m = true → (hlink s m).cmd = none) → c.ph = 2 → c.redo = false → c.relink = false → c.j = some j → 0 < j →
      (∃ k ∈ boardKeys s o, ∀ r ∈ c.reps, r.key ≠ k) → c.tries < getf s F.HAR_CTL_RETRY → Does (.harReplyTimeout l) s (fun t =>
        t.har.scan = some { c with tries := c.tries + 1, retried := true, lostStep := true } ∧ (hlink t l).cmd = none
        ∧ isSet t F.HAR_EVT_RETRY = true ∧ getf t F.HAR_CNT_RETRIES = min 65535 (getf s F.HAR_CNT_RETRIES + 1)
        ∧ getf t (F.HAR_LCNT_TIMEOUTS l) = min 65535 (getf s (F.HAR_LCNT_TIMEOUTS l) + missing (hlink s l).need)))
  ∧ (∀ c, scanIs s o c → c.heldAt = none → isSet s F.HAR_STAT_WAIT_LINK = true → getf s F.HAR_CTL_LINK_WAIT ≠ 0 → Does .harLinkWaitExpiry s (fun t =>
      scanOver t o (scanRet c 0x1B) ∧ isSet t F.HAR_EVT_LINK_WAIT_TO = true))
  ∧ (∀ (h : ReadEnd) (bs : List Byte), harTurn s o.tag 0x21 = some o → opOf s o.tag = some o →
      let n := dLength o.words / 2
      let dst := (opWord o 6).toNat
      dLength o.words = 2 * n → opFld o 8 0 12 + n - 1 ≤ 4095 → dst % 2 = 0 → 0x200000 ≤ dst → dst + 2 * n ≤ 0x400000 → bs.length = 2 * n →
      (if opFld o 7 0 1 = 1 then readBytes s (2 * n) (d64 o.words 4) = (bs, none) else h = .ok bs) → bankWritable s dst (2 * n) →
      let e (k : Nat) : Nat := (bs.getD (2 * k) 0#8).toNat + 256 * (bs.getD (2 * k + 1) 0#8).toNat
      let rep (k : Nat) : Bool := decide (eNet (e k) ≠ 0) && (List.range k).all (fun j => decide (eNet (e j) ≠ eNet (e k)))
      Does (.harNetmapLoad o.tag h) s (fun t =>
        (∀ k < n, (memByte t (dst + 2 * k)).toNat + 256 * (memByte t (dst + 2 * k + 1)).toNat = e k % 2 ^ 15 + 2 ^ 15 * b2n (rep k))
        ∧ (∀ y, y < dst ∨ dst + 2 * n ≤ y → memByte t y = memByte s y)
        ∧ retOf t o.tag = some ⟨0, w32 n, w32 ((List.range n).filter rep).length⟩ ∧ t.regs = s.regs))

/-- O26. A CONTINUITY scan's last comparison counts exactly the points that differ from the map. When the last reply to the STEP after the
last driven point d arrives, no board reports a fault and the record area can be written, the scan ends: RESULT0 is the mismatches so far
plus the number of compared points p whose comparator bit is set where p is not of d's net or clear where it is, saturated; RESULT1 counts
one more driven point and shows truncation when more mismatches were found than records asked for. The status is OK_NOTE where the scan was
truncated, reread its map or retried, else OK; SCANS counts one. -/
def Obligations.HarrierContinuityCount : Prop := ∀ (s : State) (o : Op) (c : Scan) (l pos : Fin 4) (ws : List W32) (d : Nat),
  let c' := { c with reps := c.reps ++ [⟨4 * l.val + pos.val, ws.take 9, stampNs s, stampS s⟩] }
  let m := ((List.range 4096).filter (contMismatch s o c' d)).length
  let trunc := c.trunc || decide (scMax o < c.mism + m)
  scanIs s o c → scTest o = 0 → scSense o = false → c.ph = 2 → c.redo = false → c.relink = false → 0 < c.pts.length →
  c.j = some c.pts.length → c.pts.getLast? = some d → bankWritable s (scRec o) (32 * scMax o) →
  (hlink s l).cmd = some .step → (hlink s l).need.testBit pos.val = true → clearBit (hlink s l).need pos = 0 →
  (∀ k < 4, k ≠ l.val → (scLinks o).testBit k = true → (hlink s k).cmd = none) → 4 * l.val + pos.val ∈ boardKeys s o →
  (∀ k ∈ boardKeys s o, ∃ r ∈ c'.reps, r.key = k) → (∀ k < 4, boards s k ≤ 4) →
  (∀ r ∈ c'.reps, (r.words.getD 8 0#32).toNat / 2 ^ 16 % 16 = 0) → (c.trunc = false → c.mism ≤ scMax o) →
  Does (.rsp l pos ws true) s (fun t =>
    scanOver t o ⟨b2n (trunc || c.reread || c.retried), w32 (min 0xFFFFFFFF (c.mism + m)),
      w32 (min 4096 (c.driven + 1) + 2 ^ 16 * b2n trunc + 2 ^ 17 * b2n c.reread + 2 ^ 18 * b2n c.retried + 2 ^ 19 * b2n c.held)⟩
    ∧ getf t F.HAR_CNT_SCANS = min 65535 (getf s F.HAR_CNT_SCANS + 1))

/-- O27. OSP_TX is checked, queued, keyed against the receiver, repeated and returned. OSP_TX with an unusable profile or a wrong length
returns RANGE; else its payload joins the queue. A repetition that is due takes the front end: the receiver is SUSPENDED (an unfinished
preamble counts as false, a packet is cut off as ABORTED only under TX_PREEMPT), OSP_TXEN rises and the frame's chips go out; while a packet
is in PAYLOAD without TX_PREEMPT it waits and its time is counted. A repetition's end drops OSP_TXEN and counts TX_SENT; the last one
returns OK with repetitions and TX_WAIT in RESULT0 and the first sample's time in RESULT1, any other begins the gap, after which the next is
due. TR_US after the end the receiver returns to SEARCH with its profile, or to OFF where nothing is to be received. -/
def Obligations.OspreyTransmits : Prop := ∀ (s : State),
  (∀ (o : Op) (h : ReadEnd), opOf s o.tag = some o → opcodeOf o = 0x30 → o.started = false → o.fwd = false →
    let p := opFld o 6 8 8
    let ws := profWords s p
    let n := dLength o.words
    let bad := 16 ≤ p ∨ usable s ws = false ∨ (if pVar ws then pPktLen ws < n else n ≠ pPktLen ws)
    (bad → EndsOp (.ospTx o.tag h) s { o with started := true } ⟨0x14, 0#32, 0#32⟩)
    ∧ (∀ bs : List Byte, ¬ bad → bs.length = n → (if opFld o 6 0 1 = 1 then readBytes s n (d64 o.words 4) = (bs, none) else h = .ok bs) →
        Does (.ospTx o.tag h) s (fun t => t.osp = { s.osp with txq := s.osp.txq ++ [(o.tag, bs)] } ∧ opOf t o.tag = some { o with started := true }
          ∧ t = { s with ops := t.ops, osp := t.osp, regs := t.regs }))
    ∧ (¬ bad → opFld o 6 0 1 = 0 → h = .failed → Does (.ospTx o.tag h) s (fun t =>
        retOf t o.tag = some ⟨errStatus (hostErr s), 0#32, 0#32⟩ ∧ t.osp = s.osp)))
  ∧ (∀ (tag : Nat) (bs : List Byte) (q : List (Nat × List Byte)), s.osp.txq = (tag, bs) :: q →
      let p := df (wordsOf s tag) 6 8 8
      (s.osp.tph = 0 → isSet s F.OSP_STAT_SCLK_OK = true → away s 8 = false →
        (rxState s = rxPayload → isSet s F.OSP_CTL_TX_PREEMPT = false → Does .ospTxStart s (fun t =>
            t = { s with osp := { s.osp with waitFrom := some (s.osp.waitFrom.getD s.clk) } }))
        ∧ (rxState s ≠ rxPayload ∨ isSet s F.OSP_CTL_TX_PREEMPT = true → Does .ospTxStart s (fun t =>
            rxState t = rxSuspended ∧ isSet t F.OSP_STAT_TX_ACTIVE = true ∧ t.osp.tph = 1 ∧ t.osp.txq = s.osp.txq ∧ t.osp.rxen = false
            ∧ t.osp.waitFrom = none ∧ t.osp.waitNs = s.osp.waitNs + (match s.osp.waitFrom with | some f => s.clk - f | none => 0)
            ∧ t.osp.first.isSome = true ∧ (∀ w, s.osp.first = some w → t.osp.first = some w)
            ∧ (tapOwns s = false → .pin .ospTxen 1 ∈ t.out ∧ .radio p (frameChips (profWords s p) bs) ∈ t.out)
            ∧ getf t F.OSP_CNT_FALSE_PRE = (if rxState s = rxPreamble then min 65535 (getf s F.OSP_CNT_FALSE_PRE + 1) else getf s F.OSP_CNT_FALSE_PRE)
            ∧ (rxState s = rxPayload → isSet t F.OSP_EVT_ABORTED = true))))
      ∧ (s.osp.tph ≠ 0 ∨ isSet s F.OSP_STAT_SCLK_OK = false ∨ away s 8 = true → exec .ospTxStart s = .next s)
      ∧ (∀ o, s.osp.tph = 1 → opOf s tag = some o →
          (max 1 (opFld o 7 0 16) ≤ s.osp.reps + 1 → Does .ospRepetitionEnd s (fun t =>
            retOf t tag = some ⟨0, w32 ((s.osp.reps + 1) % 2 ^ 16 + 2 ^ 16 * min 65535 (s.osp.waitNs / 100000)), s.osp.first.getD 0#32⟩
            ∧ t.osp.txq = q ∧ t.osp.tph = 0 ∧ t.osp.reps = 0 ∧ t.osp.waitNs = 0 ∧ t.osp.first = none
            ∧ isSet t F.OSP_STAT_TX_ACTIVE = false ∧ getf t F.OSP_CNT2_TX_SENT = min 65535 (getf s F.OSP_CNT2_TX_SENT + 1)))
          ∧ (s.osp.reps + 1 < max 1 (opFld o 7 0 16) → Does .ospRepetitionEnd s (fun t =>
            t.osp = { s.osp with reps := s.osp.reps + 1, tph := 2 } ∧ t.ops = s.ops ∧ isSet t F.OSP_STAT_TX_ACTIVE = false
            ∧ getf t F.OSP_CNT2_TX_SENT = min 65535 (getf s F.OSP_CNT2_TX_SENT + 1))))
      ∧ (s.osp.tph ≠ 1 → exec .ospRepetitionEnd s = .next s))
  ∧ (s.osp.txq = [] → exec .ospTxStart s = .next s ∧ exec .ospRepetitionEnd s = .next s)
  ∧ (s.osp.tph = 2 → Does .ospGapExpiry s (fun t => t = { s with osp := { s.osp with tph := 0 } }))
  ∧ (s.osp.tph ≠ 2 → exec .ospGapExpiry s = .next s)
  ∧ (rxState s = rxSuspended → s.osp.tph ≠ 1 → Does .ospTrExpiry s (fun t =>
      match rxWants s with
      | some p => rxState t = rxSearch ∧ t.osp.rxen = true ∧ t.osp.pidx = p ∧ t.osp.prof = profWords s p
      | none => rxState t = rxOff ∧ t.osp.rxen = false ∧ t.osp.gain = 0))
  ∧ (rxState s ≠ rxSuspended ∨ s.osp.tph = 1 → exec .ospTrExpiry s = .next s)

/-- O28. OSP_RX and the receiver's states: preamble, sync, payload, trailer, clock loss and timeout. OSP_RX with an unusable profile or a
FIFO not Osprey's own returns RANGE, without the clock OFFLINE; else it is armed, and a receiver that is OFF goes to SEARCH with its
profile. In SEARCH the gain steps, and a correlation of PRE_THR or more begins PREAMBLE; a sync word within SYNC_ERR pushes the header item
and begins PAYLOAD, none in time is a false preamble. In PAYLOAD an uncoded group of 16 bytes is one data item, and the packet's end pushes
the trailer and counts it. The loss of the clock turns the receiver off and ends the armed OSP_RX with OFFLINE and END 3, its return sets
SCLK_OK; the rate measured is shown and FS_MISMATCH set beyond 0.5 %; TIMEOUT_MS ends the armed OSP_RX with END 2; RX_EN is stored; a Q word
alone sets FRM_ERR. -/
def Obligations.OspreyReceives : Prop := ∀ (s : State),
  let f := getf s F.OSP_CTL_FIFO
  let y := fifo s f
  let open_ := away s 5 = false ∧ isSet s (F.SFQ_CFG_EN f) = true ∧ getf s (F.SFQ_CFG_PROD f) = 0x38 ∧ y.items.length < 1024 ∧ y.discarding = false
  (∀ o : Op, opOf s o.tag = some o → opcodeOf o = 0x31 → o.started = false → o.fwd = false →
    let p := opFld o 6 8 8
    let bad := 16 ≤ p ∨ usable s (profWords s p) = false ∨ getf s (F.SFQ_CFG_PROD f) ≠ 0x38 ∨ getf s (F.SFQ_CFG_CONS f) ≠ 1
      ∨ isSet s (F.SFQ_CFG_EN f) = false ∨ (isSet s F.OSP_CTL_RX_EN = true ∧ getf s F.OSP_CTL_RX_PROFILE ≠ p)
    (bad → EndsOp (.ospRx o.tag) s { o with started := true } ⟨0x14, 0#32, 0#32⟩)
    ∧ (¬ bad → isSet s F.OSP_STAT_SCLK_OK = false → EndsOp (.ospRx o.tag) s { o with started := true } ⟨0x1B, 0#32, 0#32⟩)
    ∧ (¬ bad → isSet s F.OSP_STAT_SCLK_OK = true → Does (.ospRx o.tag) s (fun t => opOf t o.tag = some { o with started := true }
        ∧ (rxState s = rxOff → ospArmed s = none → o.ret = none → away s 8 = false →
            rxState t = rxSearch ∧ t.osp.pidx = p ∧ t.osp.prof = profWords s p ∧ t.osp.rxen = true))))
  ∧ (rxState s = rxSearch →
      (pf s.osp.prof 6 8 1 = 1 → Does (.ospGainStep true) s (fun t => t.osp.gain = s.osp.gain - getf s F.OSP_AGC1_ATTACK_STEP)
        ∧ Does (.ospGainStep false) s (fun t => t.osp.gain = min 63 (s.osp.gain + 1)))
      ∧ (∀ c : Fin 65, pf s.osp.prof 3 8 6 ≤ c.val → away s 8 = false → Does (.ospPreambleDetect c) s (fun t =>
          rxState t = rxPreamble ∧ t.osp = { s.osp with corr := min 63 c.val }))
      ∧ (∀ c : Fin 65, c.val < pf s.osp.prof 3 8 6 → exec (.ospPreambleDetect c) s = .next s))
  ∧ (rxState s ≠ rxSearch → (∀ a, exec (.ospGainStep a) s = .next s) ∧ ∀ c, exec (.ospPreambleDetect c) s = .next s)
  ∧ (rxState s = rxPreamble →
      Does .ospSyncWaitExpiry s (fun t => getf t F.OSP_CNT_FALSE_PRE = min 65535 (getf s F.OSP_CNT_FALSE_PRE + 1)
        ∧ rxState t = (if (rxWants s).isSome then rxSearch else rxOff))
      ∧ (∀ (bits : W32) (off mdb : Int) (ago : Nat), away s 8 = false →
          let n := pSyncLen s.osp.prof
          let errs := ((List.range n).filter (fun i => bits.getLsbD i != (s.osp.prof.getD 4 0#32).getLsbD i)).length
          let lim : Int := ((pf s.osp.prof 6 16 8 * 1000 : Nat) : Int)
          (errs ≤ pf s.osp.prof 5 8 2 → Does (.ospSyncMatch bits off mdb ago) s (fun t =>
            rxState t = rxPayload ∧ t.osp.rssi = rssiOf s mdb ∧ t.osp.afc = (if pf s.osp.prof 6 9 1 = 1 then max (-lim) (min lim off) else 0)
            ∧ t.osp.len = (if pVar s.osp.prof then none else some (pPktLen s.osp.prof))
            ∧ (open_ → FifoIs s t f { y with items := y.items ++ [hdrItem (bits.toNat % 2 ^ n + 2 ^ 32 * 5 + 2 ^ 40 * (s.osp.pidx % 16) + 2 ^ 44 * errs)
                (hdrTime (stampAgo s ago)) 1], booked := y.booked + 1 })))
          ∧ (pf s.osp.prof 5 8 2 < errs → exec (.ospSyncMatch bits off mdb ago) s = .next s)))
  ∧ (rxState s ≠ rxPreamble → exec .ospSyncWaitExpiry s = .next s ∧ ∀ b o m a, exec (.ospSyncMatch b o m a) s = .next s)
  ∧ (rxState s = rxPayload → open_ →
      (∀ (g : List Bool) (n : Nat), pFec s.osp.prof = 0 → g.length = 128 → s.osp.len = some n → s.osp.got + 16 ≤ n → s.osp.info = [] → s.osp.bytes = [] →
        Does (.ospDataItem [g]) s (fun t => rxState t = rxPayload ∧ t.osp.got = s.osp.got + 16 ∧ t.osp.put = s.osp.put + 16 ∧ t.osp.bytes = []
          ∧ FifoIs s t f { y with items := y.items ++ [⟨(List.range 16).map (fun i => bitsByte (pMsbFirst s.osp.prof) ((g.drop (8 * i)).take 8)), 0⟩],
                                  booked := y.booked + 1 }))
      ∧ (s.osp.len = some s.osp.got → s.osp.info = [] → s.osp.bytes = [] → Does (.ospPacketEnd []) s (fun t =>
          getf t F.OSP_CNT_PACKETS = min 65535 (getf s F.OSP_CNT_PACKETS + 1) ∧ rxState t = (if (rxWants s).isSome then rxSearch else rxOff)
          ∧ ∃ it, FifoIs s t f { y with items := y.items ++ [it], booked := y.booked + 1 }
            ∧ it.tag = 2 + 8 * b2n (decide (s.osp.cwFail ≠ 0)) ∧ (it.data.getD 0 0#8).toNat = s.osp.put % 256 ∧ it.data.getD 4 0#8 = 6#8
            ∧ it.data.getD 5 0#8 = byte (4 * (s.osp.gain % 64)))))
  ∧ (rxState s ≠ rxPayload → ∀ g, exec (.ospDataItem g) s = .next s ∧ exec (.ospPacketEnd g) s = .next s)
  ∧ (isSet s F.OSP_STAT_SCLK_OK = true → Does .ospSclkLost s (fun t => isSet t F.OSP_STAT_SCLK_OK = false ∧ isSet t F.OSP_EVT_SCLK_LOST = true
      ∧ rxState t = rxOff ∧ t.osp.rxen = false
      ∧ ∀ o, ospArmed s = some o → opOf s o.tag = some o → retOf t o.tag = some ⟨0x1B, w32 o.count, w32 (3 * 2 ^ 28 + o.prog % 2 ^ 25)⟩))
  ∧ (isSet s F.OSP_STAT_SCLK_OK = false → exec .ospSclkLost s = .next s ∧ exec .frmErr s = .next s)
  ∧ (away s 8 = false → Does .ospSclkReturn s (fun t => isSet t F.OSP_STAT_SCLK_OK = true
      ∧ ∀ p, rxState s = rxOff → rxProfile s = some p → p < 16 → usable s (profWords s p) = true → rxState t = rxSearch ∧ t.osp.pidx = p))
  ∧ (away s 8 = true → exec .ospSclkReturn s = .next s ∧ ∀ on, exec (.ospRxEnWrite on) s = .next s)
  ∧ (∀ fs, inReset s 8 = false → let d := getf s F.OSP_FS_FS
      Does (.ospFsMeasure fs) s (fun t => getf t F.OSP_FS_MEAS_FS = fs % 2 ^ 23
        ∧ isSet t F.OSP_EVT_FS_MISMATCH = (isSet s F.OSP_EVT_FS_MISMATCH || decide (d < 200 * (fs - d)) || decide (d < 200 * (d - fs)))))
  ∧ (∀ o, ospArmed s = some o → opOf s o.tag = some o → opWord o 8 ≠ 0#32 → Does .ospRxTimeout s (fun t =>
      retOf t o.tag = some ⟨0, w32 o.count, w32 (2 * 2 ^ 28 + o.prog % 2 ^ 25)⟩))
  ∧ (ospArmed s = none → exec .ospRxTimeout s = .next s)
  ∧ (∀ on, away s 8 = false → Does (.ospRxEnWrite on) s (fun t => isSet t F.OSP_CTL_RX_EN = on
      ∧ (on = false → rxState s = rxPayload → ospArmed s = none → rxState t = rxOff ∧ isSet t F.OSP_EVT_ABORTED = true)))
  ∧ (isSet s F.OSP_STAT_SCLK_OK = true → inReset s 8 = false → Does .frmErr s (fun t => isSet t F.OSP_EVT_FRM_ERR = true ∧ t = { s with regs := t.regs }))

/-- O29. The vehicle bus operations: a frame to send, a slot to arm, and the channel controls. A VBU_TX that R449 refuses returns RANGE. A
CAN frame fills the lowest free buffer, PENDING (HELD in BUS_OFF and RECOVERING), or waits behind 32; a LIN commander begins its frame, a
responder takes data into its table or waits. VBU_RX_ARM returns RANGE for a FIFO not its own or with no slot, else writes ID, MASK, FIFO
and ARMED of the slot; its timeout returns END 2. START starts an OFF controller with a valid bit timing; STOP of an idle one ends its
operations and returns OK, else waits; RECOVER begins recovery in BUS_OFF; ABORT_TX frees the named buffers but the ACTIVE one; STATUS
returns the state and counter words; WRITE_REGS returns RANGE outside the channel's block, and bit timing is written only in OFF. FUNC 0 or
above 6 returns RANGE. -/
def Obligations.VbuOperations : Prop := ∀ (s : State) (o : Op), opOf s o.tag = some o → o.fwd = false →
  let ws := o.words
  let c := vbuChan ws
  let kind := vbuKind ws
  let x := can s c
  let id := txId ws % 64
  let began := { o with started := true }
  (∀ h, opcodeOf o = 0x10 → o.started = false →
    (txRefused s ws = true → EndsOp (.vbuTx o.tag h) s began ⟨0x14, 0#32, 0#32⟩)
    ∧ (∀ d, txRefused s ws = false → txData s ws h = (d, none) →
      (∀ i, kind = 0 → x.waitq = [] → (List.range 32).find? (fun i => (sget i x.bufs).isNone) = some i → Does (.vbuTx o.tag h) s (fun t =>
          opOf t o.tag = some began ∧ (can t c).waitq = []
          ∧ sget i (can t c).bufs = some { op := o.tag, st := if canState s c = canBusOff ∨ canState s c = canRecovering then 3 else 1, data := d, ord := x.ord }
          ∧ ∀ j, j ≠ i → sget j (can t c).bufs = sget j x.bufs))
      ∧ (kind = 0 → (List.range 32).all (fun i => (sget i x.bufs).isSome) = true → Does (.vbuTx o.tag h) s (fun t =>
          opOf t o.tag = some began ∧ can t c = { x with waitq := x.waitq ++ [(o.tag, d)] }))
      ∧ (kind ≠ 0 → linResponder s c = false → (lin s c).q = [] → (lin s c).hdr = none → away s 7 = false → Does (.vbuTx o.tag h) s (fun t =>
          lin t c = { lin s c with q := [{ op := o.tag, data := d }], hdr := some ⟨id, !txRtr ws, stampNs s, stampS s⟩ }
          ∧ getf t (F.LIN_STAT_STATE c) = 2
          ∧ (tapOwns s = false → .linFrame c id (if txRtr ws then [] else d) (if txRtr ws then none else some (linCheck id (txFdf ws) d)) ∈ t.out)))
      ∧ (kind ≠ 0 → linResponder s c = true → Does (.vbuTx o.tag h) s (fun t =>
          (lin t c).q = (lin s c).q ++ [{ op := o.tag, data := d }]
          ∧ (txRtr ws = false → sget (txId ws) (lin t c).data = some d ∧ isSet t (F.LIN_RTAB_LOADED c (txId ws)) = true)))))
  ∧ (opcodeOf o = 0x11 → o.started = false →
    let f := opFld o 8 0 6
    let bad := getf s (F.SFQ_CFG_PROD f) ≠ vbuProd ws ∨ getf s (F.SFQ_CFG_CONS f) ≠ 1 ∨ isSet s (F.SFQ_CFG_EN f) = false ∨ (armOf s f).isSome = true
      ∨ armSlot s (vbuProd ws) f = none
    (bad → EndsOp (.vbuRxArm o.tag) s began ⟨0x14, 0#32, 0#32⟩)
    ∧ (∀ k, ¬ bad → armSlot s (vbuProd ws) f = some k → Does (.vbuRxArm o.tag) s (fun t => opOf t o.tag = some began
        ∧ (kind = 0 → rd t (R.CAN_FLT_ID c k) = (dw ws 4 &&& 0x3FFFFFFF#32) ||| 0x80000000#32
          ∧ rd t (R.CAN_FLT_MASK c k) = dw ws 5 &&& 0x3FFFFFFF#32 ∧ rd t (R.CAN_FLT_FIFO c k) = w32 (f + 2 ^ 8))
        ∧ (kind = 1 → rd t (R.LIN_FLT_ID c k) = (dw ws 4 &&& 0x3FFFFFFF#32) ||| 0x80000000#32
          ∧ rd t (R.LIN_FLT_MASK c k) = dw ws 5 &&& 0x3FFFFFFF#32 ∧ rd t (R.LIN_FLT_FIFO c k) = w32 (f + 2 ^ 8))
        ∧ (kind = 2 → rd t (R.SENT_FLT c) = w32 (f + 2 ^ 8 * df ws 4 0 2 + 2 ^ 31)))))
  ∧ (opcodeOf o = 0x11 → o.started = true → o.ret = none → opWord o 10 ≠ 0#32 → Does (.vbuRxTimeout o.tag) s (fun t =>
      retOf t o.tag = some ⟨0, w32 o.count, w32 (2 * 2 ^ 28 + o.prog % 2 ^ 25)⟩))
  ∧ (opcodeOf o = 0x12 → o.started = false →
    let fn := opFld o 4 0 8
    (fn = 0 ∨ 6 < fn → EndsOp (.vbuCtrlStart o.tag) s began ⟨0x14, 0#32, 0#32⟩)
    ∧ (fn = 1 →
      (kind = 0 → canState s c ≠ 0 → EndsOp (.vbuCtrlStart o.tag) s began ⟨0, 0#32, 0#32⟩)
      ∧ (kind = 0 → canState s c = 0 → timingOk s c = true → Does (.vbuCtrlStart o.tag) s (fun t =>
          canState t c = 1 ∧ retOf t o.tag = some ⟨0, 0#32, 0#32⟩ ∧ t.vbu = s.vbu))
      ∧ (kind = 0 → canState s c = 0 → timingOk s c = false → EndsOp (.vbuCtrlStart o.tag) s began ⟨0x14, 0#32, 0#32⟩)
      ∧ (kind = 1 → Does (.vbuCtrlStart o.tag) s (fun t => linEn t c = true ∧ retOf t o.tag = some ⟨0, 0#32, 0#32⟩
          ∧ (linEn s c = false → getf t (F.LIN_STAT_STATE c) = 1)))
      ∧ (kind = 2 → Does (.vbuCtrlStart o.tag) s (fun t => isSet t (F.SENT_CTL_EN c) = true ∧ retOf t o.tag = some ⟨0, 0#32, 0#32⟩)))
    ∧ (fn = 2 → ∀ rx,
      (kind = 0 → canState s c = 0 → EndsOp (.vbuCtrlStop o.tag rx) s began ⟨0, 0#32, 0#32⟩)
      ∧ (kind = 0 → canState s c ≠ 0 → x.stop = none → (rx = false ∨ ¬ (canState s c = 2 ∨ canState s c = 3)) → activeBuf x = none →
          Does (.vbuCtrlStop o.tag rx) s (fun t => canState t c = 0 ∧ (can t c).bufs = [] ∧ (can t c).waitq = [] ∧ (can t c).stop = none
            ∧ retOf t o.tag = some ⟨0, 0#32, 0#32⟩
            ∧ ∀ b ∈ x.bufs, ∀ q, opOf s b.2.op = some q → opcodeOf q = 0x10 → (retOf t b.2.op).map (·.status) = some 0x1B))
      ∧ (kind = 0 → canState s c = 2 ∨ canState s c = 3 → x.stop = none → (rx = true ∨ (activeBuf x).isSome = true) →
          Does (.vbuCtrlStop o.tag rx) s (fun t => can t c = { x with stop := some o.tag, rxing := rx } ∧ opOf t o.tag = some began ∧ t.regs = s.regs))
      ∧ (kind = 1 → Does (.vbuCtrlStop o.tag rx) s (fun t => linEn t c = false ∧ retOf t o.tag = some ⟨0, 0#32, 0#32⟩))
      ∧ (kind = 2 → Does (.vbuCtrlStop o.tag rx) s (fun t => isSet t (F.SENT_CTL_EN c) = false ∧ retOf t o.tag = some ⟨0, 0#32, 0#32⟩)))
    ∧ (fn = 3 → (kind = 0 ∧ canState s c = canBusOff → Does (.vbuCtrlRecover o.tag) s (fun t => canState t c = canRecovering
          ∧ getf t (F.CAN_STAT_RECOV c) = 0 ∧ opOf t o.tag = some began ∧ (can t c).recs = x.recs ++ [o.tag]))
        ∧ (¬ (kind = 0 ∧ canState s c = canBusOff) → EndsOp (.vbuCtrlRecover o.tag) s began ⟨0, 0#32, 0#32⟩))
    ∧ (fn = 4 →
      let gone (i : Nat) : Bool := (opWord o 5).getLsbD i && x.bufs.any (fun b => b.1 == i && b.2.st != 2)
      (kind = 0 → x.waitq = [] → Does (.vbuCtrlAbortTx o.tag) s (fun t =>
          (∀ i < 32, gone i = true → sget i (can t c).bufs = none) ∧ (can t c).waitq = []
          ∧ ∃ v, retOf t o.tag = some ⟨0, w32 v, 0#32⟩ ∧ ∀ i < 32, v.testBit i = gone i))
      ∧ (kind ≠ 0 → EndsOp (.vbuCtrlAbortTx o.tag) s began ⟨0, 0#32, 0#32⟩))
    ∧ (fn = 5 → (kind = 0 → EndsOp (.vbuCtrlStatus o.tag) s began ⟨0, rd s (R.CAN_STAT c), rd s (R.CAN_CNT c)⟩)
      ∧ (kind = 1 → EndsOp (.vbuCtrlStatus o.tag) s began ⟨0, rd s (R.LIN_STAT c), rd s (R.LIN_CNT c)⟩)
      ∧ (kind = 2 → EndsOp (.vbuCtrlStatus o.tag) s began ⟨0, rd s (R.SENT_STAT c), rd s (R.SENT_CNT c)⟩))
    ∧ (fn = 6 →
      let off := opFld o 5 0 12
      let n := opFld o 6 0 4
      let size := if kind = 0 then 0x400 else if kind = 1 then 0x200 else 0x100
      let v := opWord o 7
      (off % 4 ≠ 0 ∨ n = 0 ∨ 9 < n ∨ size < off + 4 * n → EndsOp (.vbuCtrlWriteRegs o.tag) s began ⟨0x14, 0#32, 0#32⟩)
      ∧ (n = 1 → off = 0x18 → kind = 0 → Does (.vbuCtrlWriteRegs o.tag) s (fun t =>
          isSet t (F.CAN_TEST_FREEZE c) = v.getLsbD 0 ∧ retOf t o.tag = some ⟨0, 0#32, 0#32⟩))
      ∧ (n = 1 → off = 0x08 → kind = 0 → Does (.vbuCtrlWriteRegs o.tag) s (fun t => retOf t o.tag = some ⟨0, 0#32, 0#32⟩
          ∧ rd t (R.CAN_NBT c) = (if canState s c = 0 then (rd s (R.CAN_NBT c) &&& ~~~0x7F7FFF1F#32) ||| (v &&& 0x7F7FFF1F#32) else rd s (R.CAN_NBT c))
          ∧ (canState s c ≠ 0 → v &&& 0x7F7FFF1F#32 ≠ rd s (R.CAN_NBT c) &&& 0x7F7FFF1F#32 → isSet t (F.CAN_EVT_CFG_DENIED c) = true)))))

/-- O30. What the bus does to a CAN controller: arbitration, sending, errors, bus-off, recovery and reception. The next start of frame sends
the PENDING buffer with the lowest arbitration field, the oldest among equals. Lost arbitration makes it PENDING again. A frame sent returns
OK with its attempts and buffer, frees the buffer, counts TX_OK and lowers TEC. An error raises TEC by 8 (not for an ACK error in error
passive), is logged with the counters and counted, and the frame is retried; above 127 the controller is PASSIVE, above 255 BUS_OFF
(recovering with AUTO_REC) with every buffer HELD. Recovery done zeroes the counters, makes it ACTIVE and HELD buffers PENDING. A frame
received counts RX_OK, lowers REC and, where a slot takes it, enters its FIFO as header and data items, else counts in UNMATCHED; a receive
error raises REC. CAN_ERRC is written only in OFF. -/
def Obligations.CanEvents : Prop := ∀ (s : State) (n : Fin 16),
  let x := can s n
  let st := canState s n
  let cold := isSet s (F.CAN_TEST_FREEZE n) = true
  (st = 1 → inReset s 7 = false → x.tec ≤ 127 → x.rxc ≤ 127 → Does (.canIntegrated n) s (fun t => canState t n = 2 ∧ t.vbu = s.vbu))
  ∧ (st = 1 → inReset s 7 = false → x.tec ≤ 255 → (127 < x.tec ∨ 127 < x.rxc) → ¬ cold → Does (.canIntegrated n) s (fun t =>
      canState t n = 3 ∧ isSet t (F.CAN_EVT_PASSIVE n) = true))
  ∧ (st ≠ 1 ∨ inReset s 7 = true → exec (.canIntegrated n) s = .next s)
  ∧ (canMaySend s n = true → (∃ p ∈ x.bufs, p.2.st = 1) → Does (.canStartOfFrame n) s (fun t =>
      ∃ i b, (i, b) ∈ x.bufs ∧ b.st = 1 ∧ (∀ p ∈ x.bufs, p.2.st = 1 → bufBefore s p.2 b = false)
        ∧ sget i (can t n).bufs = some { b with st := 2, sof := stampNs s } ∧ (∀ j, j ≠ i → sget j (can t n).bufs = sget j x.bufs)
        ∧ (tapOwns s = false → .canFrame n (dw (wordsOf s b.op) 4).toNat (df (wordsOf s b.op) 5 0 6) b.data ∈ t.out)))
  ∧ (canMaySend s n = false ∨ (∀ p ∈ x.bufs, p.2.st ≠ 1) → exec (.canStartOfFrame n) s = .next s)
  ∧ (activeBuf x = none → exec (.canArbitrationLost n) s = .next s ∧ (∀ d, exec (.canFrameSent n d) s = .next s)
      ∧ ∀ k dp, exec (.canTxError n k dp) s = .next s)
  ∧ (∀ (i : Nat) (b : TxBuf), activeBuf x = some (i, b) → x.waitq = [] → x.stop = none →
      (b.abort = false → Does (.canArbitrationLost n) s (fun t => sget i (can t n).bufs = some { b with st := 1 } ∧ t.ops = s.ops))
      ∧ (∀ q, b.abort = true → opOf s b.op = some q → sget i x.bufs = some b → Does (.canArbitrationLost n) s (fun t => sget i (can t n).bufs = none
          ∧ retOf t b.op = some ⟨0x1B, w32 (min 65535 b.att + i % 32 * 2 ^ 16 + 2 * 2 ^ 24), b.sof⟩))
      ∧ (∀ d q, opOf s b.op = some q → sget i x.bufs = some b → x.tec ≤ 256 → Does (.canFrameSent n d) s (fun t =>
          retOf t b.op = some ⟨0, w32 (min 65535 b.att + i % 32 * 2 ^ 16), b.sof⟩ ∧ sget i (can t n).bufs = none
          ∧ getf t (F.CAN_CNT_TX_OK n) = min 65535 (getf s (F.CAN_CNT_TX_OK n) + 1)
          ∧ (¬ cold → (can t n).tec = x.tec - 1) ∧ (can t n).susp = decide (st = 3)))
      ∧ (∀ (k : Fin 6) (dp : Bool), (st = 2 ∨ st = 3) → ¬ cold → b.abort = false → txRetry (wordsOf s b.op) = 0 →
          let tec := if st = 3 ∧ k.val = 4 then x.tec else x.tec + 8
          let w0 := w32 (k.val % 8 + 8 * b2n dp + 16 + 2 ^ 8 * min 256 tec + 2 ^ 24 * min 255 x.rxc)
          (tec ≤ 255 → x.rxc ≤ 127 → Does (.canTxError n k dp) s (fun t => (can t n).tec = tec
            ∧ sget i (can t n).bufs = some { b with st := 1, att := b.att + 1, abort := false }
            ∧ canState t n = (if 127 < tec then 3 else 2) ∧ sget x.enext (can t n).elog = some (w0, stampNs s) ∧ (can t n).enext = (x.enext + 1) % 16
            ∧ getf t (F.CAN_CNT2_ERRORS n) = min 65535 (getf s (F.CAN_CNT2_ERRORS n) + 1)))
          ∧ (255 < tec → isSet s (F.CAN_CTL_BOFF_DISCARD n) = false → Does (.canTxError n k dp) s (fun t =>
            canState t n = (if isSet s (F.CAN_CTL_AUTO_REC n) then canRecovering else canBusOff) ∧ (∀ p ∈ (can t n).bufs, p.2.st = 3)
            ∧ isSet t (F.CAN_EVT_BUSOFF n) = true ∧ getf t (F.CAN_CNT3_BUSOFFS n) = min 65535 (getf s (F.CAN_CNT3_BUSOFFS n) + 1)))))
  ∧ Does (.canSuspendTransmissionEnd n) s (fun t => can t n = { x with susp := false } ∧ ∀ m : Fin 16, m ≠ n → can t m = can s m)
  ∧ (∀ (id : Fin 536870912) (ide rtr fdf brs esi : Bool) (dlc : Fin 16) (data : List Byte) (ago : Nat), canReceives s n = true → x.stop = none →
      ¬ cold → x.rxc ≤ 127 → x.tec ≤ 255 →
      Does (.canFrameReceived n id ide rtr fdf brs esi dlc data ago) s (fun t => (can t n).rxc = x.rxc - 1
        ∧ getf t (F.CAN_CNT_RX_OK n) = min 65535 (getf s (F.CAN_CNT_RX_OK n) + 1)
        ∧ (slotFor s (0x10 + n) id ide = none → getf t (F.CAN_CNT2_UNMATCHED n) = min 65535 (getf s (F.CAN_CNT2_UNMATCHED n) + 1) ∧ t.fifos = s.fifos)
        ∧ ∀ k, slotFor s (0x10 + n) id ide = some k → let f := extractBits (rd s (R.CAN_FLT_FIFO n k)) 0 6
            fifoTakes s f (0x10 + n) (1 + (data.length + 15) / 16) →
              (fifo t f).items = (fifo s f).items ++ frameItems (hdrLo id ide rtr 1 dlc fdf brs esi false data.length k 0) (hdrTime (stampAgo s ago)) data false))
  ∧ (∀ (k : Fin 6) (dp dom : Bool), canReceives s n = true → x.stop = none → ¬ cold → Does (.canRxError n k dp dom) s (fun t =>
      (can t n).rxc = x.rxc + 1 + 8 * b2n dom ∧ getf t (F.CAN_CNT2_ERRORS n) = min 65535 (getf s (F.CAN_CNT2_ERRORS n) + 1)))
  ∧ (canReceives s n = false → (∀ k dp dom, exec (.canRxError n k dp dom) s = .next s)
      ∧ ∀ id a b c d e dlc data ago, exec (.canFrameReceived n id a b c d e dlc data ago) s = .next s)
  ∧ (st = canBusOff → away s 7 = false → Does (.canRecover n) s (fun t => canState t n = canRecovering ∧ getf t (F.CAN_STAT_RECOV n) = 0 ∧ t.vbu = s.vbu))
  ∧ (st ≠ canBusOff ∨ away s 7 = true → exec (.canRecover n) s = .next s)
  ∧ (st = canRecovering → inReset s 7 = false → Does (.canRecoveryDone n) s (fun t => canState t n = 2 ∧ getf t (F.CAN_STAT_RECOV n) = 128
      ∧ (can t n).tec = 0 ∧ (can t n).rxc = 0 ∧ isSet t (F.CAN_EVT_RECOVERED n) = true
      ∧ (∀ i, sget i (can t n).bufs = (sget i x.bufs).map (fun b => if b.st = 3 then { b with st := 1 } else b))
      ∧ ∀ r ∈ x.recs, ∀ q, opOf s r = some q → retOf t r = some ⟨0, w32 ((s.clk - q.began) / 1000), 0#32⟩))
  ∧ (st ≠ canRecovering ∨ inReset s 7 = true → exec (.canRecoveryDone n) s = .next s)
  ∧ (∀ v : W32, away s 7 = false → st = 0 → Does (.canErrcWrite n v) s (fun t =>
      can t n = { x with tec := extractBits v 0 8, rxc := extractBits v 16 8 } ∧ getf t (F.CAN_ERRC_TEC n) = extractBits v 0 8
      ∧ getf t (F.CAN_ERRC_REC n) = extractBits v 16 8))
  ∧ (∀ v : W32, away s 7 = true ∨ st ≠ 0 → exec (.canErrcWrite n v) s = .next s)

/-- O31. LIN frames and wake-ups, and a SENT frame with its packet. A responder takes a header whose rate lies within 14 % of its own: it
answers with its loaded data, or sets RESP_ERR where it publishes and has none. A response ends the header and counts a frame; a commander's
subscribe returns OK with the data, a wrong checksum on the last attempt INTEGRITY_FAIL with END 6, no response CAN_RETRY with END 5, each
error counted; a go-to-sleep command puts the unit to sleep. Bus idle puts it to sleep, WAKE drives the wake-up and wakes it, a received
wake-up sets WAKE_RX and wakes it. A SENT frame whose calibration pulse is off by more than 25 % clears SYNCED; one with good nibbles and
CRC shows the tick, counts a frame and pushes its packet with status, data, CRC and tick. -/
def Obligations.LinAndSentEvents : Prop := ∀ (s : State) (m : Fin 16),
  let x := lin s m
  let nom := getf s (F.LIN_DIV_DIV m)
  (∀ (id : Fin 64) (div ago : Nat),
    let heard := linEn s m = true ∧ linResponder s m = true ∧ inReset s 7 = false ∧ 100 * (div - nom) ≤ 14 * nom ∧ 100 * (nom - div) ≤ 14 * nom
    let t1 := stampAgo s ago
    let mode := getf s (F.LIN_RTAB_MODE m id)
    (¬ heard → exec (.linBreak m id div ago) s = .next s)
    ∧ (∀ d, heard → mode = 1 → away s 7 = false → sget id.val x.data = some d → Does (.linBreak m id div ago) s (fun t =>
        lin t m = { x with hdr := some ⟨id, true, t1.1, t1.2⟩ } ∧ getf t (F.LIN_STAT_STATE m) = 2
        ∧ (tapOwns s = false → .linFrame m id d (some (linCheck id (isSet s (F.LIN_RTAB_ENH m id)) d)) ∈ t.out)))
    ∧ (heard → (mode ≠ 1 ∨ sget id.val x.data = none) → Does (.linBreak m id div ago) s (fun t =>
        lin t m = { x with hdr := some ⟨id, false, t1.1, t1.2⟩ } ∧ getf t (F.LIN_STAT_STATE m) = 2 ∧ t.out = s.out
        ∧ isSet t (F.LIN_EVT_RESP_ERR m) = (isSet s (F.LIN_EVT_RESP_ERR m) || decide (mode = 1)))))
  ∧ (x.hdr = none → exec (.linResponseTimeout m) s = .next s ∧ ∀ d cs f mm, exec (.linResponse m d cs f mm) s = .next s)
  ∧ (∀ (h : LinHdr) (l : LinTx) (q : Op) (data : List Byte) (cs : Byte), x.hdr = some h → inReset s 7 = false → linResponder s m = false → x.q = [l] →
      opOf s l.op = some q → txRtr q.words = true →
      let enh := decide (h.id < 0x3C) && txFdf q.words
      let frames (t : State) : Prop := getf t (F.LIN_CNT_FRAMES m) = min 65535 (getf s (F.LIN_CNT_FRAMES m) + 1) ∧ (lin t m).hdr = none ∧ (lin t m).q = []
      let tries := max 1 (txRetry q.words)
      (cs = linCheck h.id enh data → Does (.linResponse m data cs false false) s (fun t => frames t
          ∧ (let d := data.take (dLength q.words)
            retOf t l.op = some ⟨0, w32 (leNat (d.take 4)), w32 (leNat ((d.drop 4).take 4))⟩)
          ∧ getf t (F.LIN_STAT_STATE m) = (if h.id = 0x3C ∧ data = 0#8 :: List.replicate 7 0xFF#8 then 3 else 1)))
      ∧ (cs ≠ linCheck h.id enh data → tries ≤ l.att + 1 → Does (.linResponse m data cs false false) s (fun t => frames t
          ∧ retOf t l.op = some ⟨0x21, w32 (min 65535 (l.att + 1) + 6 * 2 ^ 24), 0#32⟩ ∧ getf t (F.LIN_STAT_STATE m) = 1
          ∧ getf t (F.LIN_CNT_ERRORS m) = min 65535 (getf s (F.LIN_CNT_ERRORS m) + 1)))
      ∧ (tries ≤ l.att + 1 → Does (.linResponseTimeout m) s (fun t => frames t
          ∧ retOf t l.op = some ⟨0x31, w32 (min 65535 (l.att + 1) + 5 * 2 ^ 24), 0#32⟩ ∧ getf t (F.LIN_STAT_STATE m) = 1
          ∧ getf t (F.LIN_CNT_ERRORS m) = min 65535 (getf s (F.LIN_CNT_ERRORS m) + 1))))
  ∧ (linEn s m = true → inReset s 7 = false →
      (x.hdr = none → Does (.linBusIdle m) s (fun t => getf t (F.LIN_STAT_STATE m) = 3 ∧ isSet t (F.LIN_EVT_BUS_SLEEP m) = true ∧ t = { s with regs := t.regs }))
      ∧ Does (.linWakeRx m) s (fun t => isSet t (F.LIN_EVT_WAKE_RX m) = true ∧ t = { s with regs := t.regs }
        ∧ getf t (F.LIN_STAT_STATE m) = (if getf s (F.LIN_STAT_STATE m) = 3 then 1 else getf s (F.LIN_STAT_STATE m)))
      ∧ (away s 7 = false → tapOwns s = false → Does (.linWake m) s (fun t => t.out = s.out ++ [.linWake m (getf s (F.LIN_TIME_WAKE_US m))]
        ∧ getf t (F.LIN_STAT_STATE m) = (if getf s (F.LIN_STAT_STATE m) = 3 then 1 else getf s (F.LIN_STAT_STATE m)))))
  ∧ (linEn s m = false → exec (.linBusIdle m) s = .next s ∧ exec (.linWakeRx m) s = .next s ∧ exec (.linWake m) s = .next s)
  ∧ (∀ (k : Fin 8) (cal st : Nat) (ns : List Nat) (crc ago : Nat),
    let tick := getf s (F.SENT_TICK_TICK_NS k)
    let wide := 2 * (25 * cal - 112 * tick) > 56 * tick ∨ 2 * (112 * tick - 25 * cal) > 56 * tick ∨ cal = 0
    let vs := (st :: ns ++ [crc]).map (sentNibble cal)
    let ds := (ns.map (sentNibble cal)).map Int.toNat
    (isSet s (F.SENT_CTL_EN k) = false ∨ inReset s 7 = true → exec (.sentFrame k cal st ns crc ago) s = .next s)
    ∧ (isSet s (F.SENT_CTL_EN k) = true → inReset s 7 = false → wide → Does (.sentFrame k cal st ns crc ago) s (fun t =>
        isSet t (F.SENT_STAT_SYNCED k) = false ∧ t = { s with regs := t.regs }))
    ∧ (isSet s (F.SENT_CTL_EN k) = true → inReset s 7 = false → ¬ wide → vs.all (fun v => decide (0 ≤ v ∧ v ≤ 15)) = true →
        (sentNibble cal crc).toNat = crc4 (isSet s (F.SENT_CTL_CRC_LEGACY k)) ds → (sent s k).cal = none → getf s (F.SENT_CTL_SERIAL k) = 0 → ns.length ≤ 6 →
        Does (.sentFrame k cal st ns crc ago) s (fun t => isSet t (F.SENT_STAT_SYNCED k) = true ∧ getf t (F.SENT_STAT_TICK_MEAS k) = cal / 56 % 2 ^ 16
          ∧ getf t (F.SENT_CNT_FRAMES k) = min 65535 (getf s (F.SENT_CNT_FRAMES k) + 1) ∧ getf t (F.SENT_CNT_ERRORS k) = getf s (F.SENT_CNT_ERRORS k)
          ∧ rd t (R.SENT_EVT k) = rd s (R.SENT_EVT k) ∧ (sent t k).cal = some cal
          ∧ (let f := getf s (F.SENT_FLT_FIFO k)
            let data := (ds ++ List.replicate (6 - ds.length) 0).foldl (fun a v => 16 * a + v) 0
            isSet s (F.SENT_FLT_FAST k) = true → fifoTakes s f (0x30 + k) 2 →
            ∃ lo, (fifo t f).items = (fifo s f).items ++ [hdrItem lo ((sentNibble cal st).toNat + 2 ^ 4 * data + 2 ^ 28 * (sentNibble cal crc).toNat
              + 2 ^ 32 * (cal / 56 % 2 ^ 16)) 1, hdrItem (hdrTime (stampAgo s ago)) 0 2]))))

/-- O32. A fence closes, drains, posts aborts, resets and reopens in that order, domain by domain. RST_DOM_REQ closes the fence of every
domain named but D1 under the writer's source code with the drain window, for a reset; domains not named keep their state. RST_DOM_HOLD
closes fences without a reset and reopens them when its bit is cleared and nothing else holds them. The window's end makes a fence drained;
posting aborts ends every operation inside that has returned nothing, counts them and keeps the fence closed for its reset. The reset then
counts, shows in INRST, returns the registers of D4, D8, D9, D10, D20 and D22 to their reset words and leaves a bank's contents. Release
leaves the domain in INRST until it is ready. Readiness clears INRST and reopens the fence unless a holder remains. A ready timeout sets
RDYTO alone. -/
def Obligations.DomainFencesAndResets : Prop := ∀ (s : State),
  (∀ (m : Master) (mask : BitVec 24), Does (.rstDomReq m mask) s (fun t => ∀ d : Fin 24,
    (mask.getLsbD d = true → d.val ≠ 1 → (dom s d).powered = true → hoKeeps s d = false → fenced s d = false →
      resetFenced t d (srcOf m) ∧ (dom t d).holders = [srcOf m] ∧ (dom t d).fence = .drain ∧ (dom t d).drainUs = rstDrain s
      ∧ bit (rd t R.RST_DOM_REQ).toNat d = true)
    ∧ (mask.getLsbD d = false ∨ d.val = 1 → dom t d = dom s d ∧ fenced t d = fenced s d)))
  ∧ (∀ (m : Master) (mask : BitVec 24), rd s R.RST_DOM_HOLD = 0#32 → Does (.rstDomHold m mask) s (fun t =>
      rd t R.RST_DOM_HOLD = w32 (clearBit mask.toNat 1)
      ∧ ∀ d : Fin 24, mask.getLsbD d = true → d.val ≠ 1 → (dom s d).powered = true → hoKeeps s d = false → fenced s d = false →
        fenced t d = true ∧ (dom t d).holders = [] ∧ (dom t d).fence = .drain ∧ (dom t d).resetBy = (dom s d).resetBy))
  ∧ (∀ (m : Master) (d : Fin 24), rd s R.RST_DOM_HOLD = w32 (2 ^ d.val) → fenced s d = true → (dom s d).holders = [] →
      ((dom s d).fence = .ready ∨ (dom s d).fence = .aborted ∧ (dom s d).resetBy = none) → noWaiter s →
      Does (.rstDomHold m 0#24) s (fun t => fenced t d = false ∧ rd t R.RST_DOM_HOLD = 0#32))
  ∧ (∀ d : Fin 24, (dom s d).fence = .drain → ¬(d.val = 9 ∧ nvProgramming s = true) → Does (.drainEnd d) s (fun t =>
      dom t d = { dom s d with fence := .drained } ∧ t = { s with doms := t.doms }))
  ∧ (∀ (d : Fin 24) (accs : List Nat), (dom s d).fence = .drained → fenced s d = true → (dom s d).resetBy ≠ none → noWaiter s → s.pwr.warm = 0 →
      ¬(12 ≤ d.val ∧ d.val < 20) → Does (.abortsPosted d accs) s (fun t => (dom t d).fence = .aborted ∧ fenced t d = true
        ∧ (∀ o ∈ s.ops, o.dom = some d.val → o.ret = none → ∀ q ∈ t.ops, q.tag ≠ o.tag)
        ∧ getf t (F.RST_DOM_STAT_ABORTS d) = min 4095 (getf s (F.RST_DOM_STAT_ABORTS d) + ((inside s d).length + accs.length))))
  ∧ (∀ (d : Fin 24) (mids : List Midburst), (dom s d).fence = .aborted → (dom s d).resetBy ≠ none → s.pwr.warm = 0 →
      ¬(bstPhase s = 3 ∧ s.bst.dom = d.val) → Does (.resetAssert d mids) s (fun t => (dom t d).fence = .reset ∧ inReset t d = true
        ∧ getf t (F.RST_DOM_STAT_RESETS d) = min 255 (getf s (F.RST_DOM_STAT_RESETS d) + 1)
        ∧ (d.val ∈ [4, 8, 9, 10, 20, 22] → ∀ r, regClass r = .dom d.val → rd t r = resetWord r)
        ∧ (12 ≤ d.val → d.val < 20 → (bank s (d.val - 12)).march = 0 → t.mem = s.mem ∧ (bank t (d.val - 12)).st = (bank s (d.val - 12)).st)))
  ∧ (∀ d : Fin 24, (dom s d).fence = .reset → s.pwr.warm = 0 → d.val ≠ 11 → (d.val = 0 → isSet s F.HIF_STAT_PERST = true) →
      Does (.resetRelease d) s (fun t => (dom t d).fence = (if fenced s d then .released else .open) ∧ (dom t d).powered = true
        ∧ inReset t d = true))
  ∧ (∀ d : Fin 24, (dom s d).powered = true → inReset s d = true → (dom s d).fence = .open ∨ (dom s d).fence = .released →
      (d.val = 0 → isSet s F.HIF_STAT_PERST = true) → (d.val = 11 → s.fab.image = []) → noWaiter s →
      ((∀ h ∈ (dom s d).holders, isResetSource h = true) → softHold s d = false → Does (.domainReady d) s (fun t =>
        inReset t d = false ∧ fenced t d = false))
      ∧ (7 ∈ (dom s d).holders → fenced s d = true → Does (.domainReady d) s (fun t =>
        inReset t d = false ∧ fenced t d = true ∧ (dom t d).fence = .ready)))
  ∧ (∀ d : Fin 24, (dom s d).powered = true → inReset s d = true → (dom s d).fence = .open ∨ (dom s d).fence = .released →
      Does (.readyTimeout d) s (fun t => bit (rd t R.RST_DOM_RDYTO).toNat d = true ∧ t.doms = s.doms ∧ fenced t d = fenced s d
        ∧ inReset t d = true))

/-- O33. Warm unit resets, RST_N, power-on and brown-outs each reset their registers and leave what survives. RST_UNIT with its key, an
escalated watchdog expiry and a permitted RESET_CMD begin a warm unit reset under their source codes; another key does nothing, a first
watchdog expiry resets D20 alone, and a RESET_CMD that is not permitted is only logged. RST_N low drops every operation and context at once,
returns the registers of its class to their reset words but those that show pins, marks or bank power, and leaves banks that neither march
nor change power; high again it starts S0. Power-on reset does the same to its wider class, empties the log and leaves every bank OFF. Power
good begins S0. A VCC or VCCAUX brown-out holds the unit with every bank OFF and its event set; VCCOWL resets all; SERDES rails drop the
links; VCCIO sets its event alone. A rail's return clears its bit. -/
def Obligations.UnitResets : Prop := ∀ (s : State),
  (∀ (m : Master), (∀ key, key ≠ 0xC0DE → exec (.rstUnit m key) s = .next s)
    ∧ (s.pwr.warm = 0 → s.pwr.stage = .run → Does (.rstUnit m 0xC0DE) s (fun t => warmBegun s t (srcOf m))))
  ∧ (inReset s 20 = false → isSet s F.KIT_WDT_CTL_EN = true → s.kite.run = true → (dom s 20).resetBy = none →
    let again := isSet s F.RST_CTL_WDT_ESC && (match s.pwr.wdtLast with | some t => decide (s.clk - t < 1000000000) | none => false)
    (again = false → Does .watchdogExpiry s (fun t => resetFenced t 20 4 ∧ t.pwr.wdtLast = some s.clk ∧ t.pwr.warm = s.pwr.warm
      ∧ (fenced s 20 = false → (dom t 20).drainUs = 0)))
    ∧ (again = true → s.pwr.warm = 0 → s.pwr.stage = .run → Does .watchdogExpiry s (fun t => warmBegun s t 4 ∧ t.pwr.wdtLast = some s.clk)))
  ∧ (∀ (p : Fin 2) (m : Msg), extractBits (mw m 1) 0 16 = 0xC0DE →
    (m.dst = toAll ∧ portUp s 0 = true ∨ m.dst ≠ toAll ∧ arrives s p m) →
    (isSet s F.RST_CTL_CHN_RST_EN = true → s.pwr.warm = 0 → s.pwr.stage = .run → Does (.resetCmd p m) s (fun t => warmBegun s t 3))
    ∧ (isSet s F.RST_CTL_CHN_RST_EN = false → Does (.resetCmd p m) s (fun t => t.pwr = s.pwr ∧ t.doms = s.doms
      ∧ getf t F.RST_LOG_HEAD_COUNT = min 65535 (getf s F.RST_LOG_HEAD_COUNT + 1))))
  ∧ (s.pwr.rstN = false → bit s.pwr.railsOff 2 = false → Does (.rstNFall []) s (fun t => t.pwr.stage = .hold ∧ t.pwr.rstN = true
      ∧ t.ops = [] ∧ t.ctxs = [] ∧ t.ports = [] ∧ getf t F.RST_CAUSE_LAST = 1 ∧ .pin .pwrgrantOut 0 ∈ t.out
      ∧ (∀ r, classRstN (regClass r) = true → r ∉ [R.HIF_STAT, R.PWR_STAT, R.CFG_STAT, R.BNK_PSTATE] → (∀ n, r ≠ R.BNK_STAT n) →
          rd t r = resetWord r)
      ∧ ∀ a, (bank s (a / 0x100000)).march = 0 → (bank s (a / 0x100000)).st ≠ 3 → memByte t a = memByte s a))
  ∧ (s.pwr.stage = .hold → Does .rstNRise s (fun t => t = { s with pwr := t.pwr } ∧ t.pwr.rstN = false
      ∧ t.pwr.stage = if railsGood s then .s0 else .hold))
  ∧ Does .powerOnReset s (fun t => t.pwr.stage = .hold ∧ bit t.pwr.railsOff 2 = false ∧ t.ops = [] ∧ t.ctxs = [] ∧ t.log = [] ∧ t.tap = {}
      ∧ (∀ n < 8, (bank t n).st = 0) ∧ .pin .pwrgrantOut 0 ∈ t.out ∧ .pin .bypN 0 ∈ t.out
      ∧ ∀ r, classPor (regClass r) = true → r ∉ [R.HIF_STAT, R.PWR_STAT, R.CFG_STAT, R.BNK_PSTATE] → (∀ n, r ≠ R.BNK_STAT n) → rd t r = resetWord r)
  ∧ (s.pwr.stage = .hold → s.pwr.rstN = false → railsGood s = true → Does .powerGoodEvent s (fun t => t.pwr.stage = .s0 ∧ t = { s with pwr := t.pwr }))
  ∧ (∀ aux : Bool, bit s.pwr.railsOff 2 = false → bit s.pwr.railsOff (b2n aux) = false →
    (s.pwr.stage ≠ .sleep → Does (.brownOutVcc aux) s (fun t => t.pwr.stage = .hold ∧ bit t.pwr.railsOff (b2n aux) = true ∧ t.ops = []
      ∧ (∀ n < 8, (bank t n).st = 0) ∧ getf t F.RST_CAUSE_LAST = 0xB ∧ t.log = []
      ∧ isSet t (if aux then F.PWR_EVT_BO_AUX else F.PWR_EVT_BO_VCC) = true))
    ∧ (s.pwr.stage = .sleep → ∀ n < 8, (bank s n).st = 2 → Does (.brownOutVcc aux) s (fun t => t.pwr.stage = .sleep ∧ (bank t n).st = 0
      ∧ isSet t F.PWR_EVT_RAIL_OFF_SLEEP = true)))
  ∧ (bit s.pwr.railsOff 2 = false → Does .brownOutVccowl s (fun t => t.pwr.stage = .hold ∧ bit t.pwr.railsOff 2 = true ∧ t.ops = [] ∧ t.log = []
      ∧ ∀ n < 8, (bank t n).st = 0))
  ∧ (∀ sera : Bool, bit s.pwr.railsOff (3 + b2n sera) = false → bit s.pwr.railsOff 2 = false → s.pwr.stage ≠ .sleep →
      Does (.brownOutSer sera) s (fun t => isSet t F.PWR_EVT_BO_SER = true ∧ bit t.pwr.railsOff (3 + b2n sera) = true
        ∧ portUp t 0 = false ∧ portUp t 1 = false ∧ ((dom s 0).powered = true → isSet t F.HIF_STAT_LINK_UP = false ∧ resetFenced t 0 2)))
  ∧ (∀ n : Fin 8, bit s.pwr.railsOff (8 + n.val) = false → bit s.pwr.railsOff 2 = false → s.pwr.stage ≠ .sleep →
      Does (.brownOutIo n) s (fun t => isSet t F.PWR_EVT_BO_IO = true ∧ bit t.pwr.railsOff (8 + n.val) = true ∧ t.doms = s.doms))
  ∧ (∀ r : Rail, Does (.railReturn r) s (fun t => t.pwr.railsOff = clearBit s.pwr.railsOff (railBit r)
      ∧ (s.pwr.stage ≠ .hold → t.pwr.stage = s.pwr.stage)
      ∧ (s.pwr.stage = .hold → s.pwr.rstN = false → railsGood t = true → t.pwr.stage = .s0)))

/-- O34. IDLE is entered and left through the fabric's fence; SLEEP is entered after the commit and left by an enabled wake. A write of IDLE
in RUN fences the fabric and begins the entry, is immediate where no image is loaded, and waits while a handover runs; when the aborts are
posted every region is off and the state is IDLE. A write of RUN in IDLE begins the exit, or is immediate without an image; when the
start-up sequence is done the fence reopens and the state is RUN. SLEEP entry fences every powered domain and drops the grant; its end drops
every operation, keeps the banks named in RETAIN with their contents and turns the others OFF. In SLEEP each wake source that is enabled
latches its bit and starts the unit with the wake tone; one that is not does nothing. A CAN frame that matches is a wake-up frame; frame
errors count up and down and wake past FEC_MAX. The wake tone ends. -/
def Obligations.IdleAndSleep : Prop := ∀ (s : State),
  (s.pwr.stage = .run →
    (s.ho = none → s.fab.image ≠ [] → Does .pwrCtlIdle s (fun t => t.pwr.stage = .idleEntry ∧ isSet t F.PWR_STAT_BUSY = true
      ∧ fenced t 11 = true ∧ 7 ∈ (dom t 11).holders ∧ getf t F.PWR_CTL_TARGET = 1))
    ∧ (s.ho = none → s.fab.image = [] → Does .pwrCtlIdle s (fun t => t.pwr.stage = .idle ∧ getf t F.PWR_STAT_STATE = 2 ∧ getf t F.PWR_CTL_TARGET = 1))
    ∧ (s.ho ≠ none → Does .pwrCtlIdle s (fun t => t.pwr = { s.pwr with targetPend := some 1 } ∧ t.doms = s.doms)))
  ∧ (s.pwr.stage = .idle → s.ho = none →
    (s.fab.image ≠ [] → Does .pwrCtlRun s (fun t => t.pwr.stage = .idleExit ∧ isSet t F.PWR_STAT_BUSY = true
      ∧ t.pwr.wq = wavesFor (usedRegions s.fab.image) ∧ getf t F.PWR_CTL_TARGET = 0))
    ∧ (s.fab.image = [] → Does .pwrCtlRun s (fun t => t.pwr.stage = .run ∧ getf t F.PWR_STAT_STATE = 1 ∧ getf t F.PWR_CTL_TARGET = 0)))
  ∧ (s.pwr.stage = .idleEntry → fenceDone s 11 = true → s.pwr.targetPend = none → Does .idleEntryDone s (fun t => t.pwr.stage = .idle
      ∧ getf t F.PWR_STAT_STATE = 2 ∧ isSet t F.PWR_STAT_BUSY = false ∧ getf t F.FAB_STAT_RGN_ON = 0 ∧ getf t F.FAB_STAT_STATE = 4
      ∧ t.fab.gates = [] ∧ t.fab.image = s.fab.image))
  ∧ (s.pwr.stage = .idleExit → s.pwr.wq = [] → s.fab.seqPh = 0 → isSet s F.CFG_SEQ_STAT_DONE = true → s.pwr.targetPend = none → noWaiter s →
      (dom s 11).holders = [7] → softHold s 11 = false → (dom s 11).fence = .aborted → (dom s 11).resetBy = none → Does .idleExitDone s (fun t =>
        t.pwr.stage = .run ∧ getf t F.PWR_STAT_STATE = 1 ∧ isSet t F.PWR_STAT_BUSY = false ∧ fenced t 11 = false))
  ∧ (s.pwr.stage = .committed → Does .sleepEntry s (fun t => t.pwr.stage = .sleepEntry ∧ (∀ d < 24, (dom s d).powered = true → fenced t d = true)
      ∧ isSet t F.PWR_STAT_GRANT_OUT = false ∧ .pin .pwrgrantOut 0 ∈ t.out))
  ∧ (s.pwr.stage = .sleepEntry → allFenced s = true → s.pwr.wakeLate = false → Does .sleepEntryDone s (fun t => t.pwr.stage = .sleep ∧ t.ops = []
      ∧ t.ctxs = [] ∧ ∀ n < 8, (bank s n).st ≠ 3 → (bank s n).march = 0 →
        (if bit (getf s F.PWR_SLEEP_BANKS_RET) n ∧ (bank s n).st ≠ 0 then (bank t n).st = 2 ∧ ∀ a, a / 0x100000 = n → memByte t a = memByte s a
          else (bank t n).st = 0)))
  ∧ (s.pwr.stage = .sleep → railsGood s = true →
    (∀ q ∈ [(Instr.wakeInPin, 0), (Instr.chainWakeDetect, 2), (Instr.wakePerst, 3)], bit (rd s R.PWR_WAKE_EN).toNat q.2 = true → Does q.1 s (fun t => awake s t q.2))
    ∧ (bit (rd s R.PWR_WAKE_EN).toNat 1 = true → getf s F.PWR_WAKE_TIMER_MS ≠ 0 → Does .wakeTimerExpiry s (fun t => awake s t 1))
    ∧ (∀ m : Fin 16, bit (rd s R.PWR_WAKE_EN).toNat 5 = true → isSet s (F.LIN_SWK_EN m) = true → bit s.pwr.railsOff 11 = false →
        Does (.linWakePulse m) s (fun t => awake s t 5))
    ∧ (∀ n : Fin 16, swkOn s n = true → bit (rd s R.PWR_WAKE_EN).toNat 4 = true →
      (∀ (id : Fin 536870912) (ide : Bool) (dlc : Fin 16) (data : List Byte), isWuf s n id ide dlc data = true → Does (.canWuf n id ide dlc data) s (fun t =>
        awake s t 4 ∧ isSet t (F.CAN_SWK_SRC_WUF n) = true))
      ∧ (getf s (F.CAN_SWK_CTL_FEC_MAX n) ≤ getf s (F.CAN_SWK_SRC_FEC_CNT n) → isSet s (F.CAN_SWK_CTL_FEC_WAKE n) = true →
        Does (.fecWake n true) s (fun t => awake s t 4 ∧ isSet t (F.CAN_SWK_SRC_FEC n) = true))))
  ∧ (∀ n : Fin 16, swkOn s n = true →
    (∀ (id : Fin 536870912) (ide : Bool) (dlc : Fin 16) (data : List Byte), isWuf s n id ide dlc data = false → Does (.canWuf n id ide dlc data) s (fun t =>
      getf t (F.CAN_SWK_SRC_FEC_CNT n) = getf s (F.CAN_SWK_SRC_FEC_CNT n) - 1 ∧ t = { s with regs := t.regs }))
    ∧ Does (.fecWake n false) s (fun t => getf t (F.CAN_SWK_SRC_FEC_CNT n) = getf s (F.CAN_SWK_SRC_FEC_CNT n) - 1 ∧ t = { s with regs := t.regs })
    ∧ (isSet s (F.CAN_SWK_CTL_FEC_WAKE n) = false → Does (.fecWake n true) s (fun t =>
      getf t (F.CAN_SWK_SRC_FEC_CNT n) = min 255 (getf s (F.CAN_SWK_SRC_FEC_CNT n) + 1) ∧ t = { s with regs := t.regs })))
  ∧ (bit (rd s R.PWR_WAKE_EN).toNat 0 = false → exec .wakeInPin s = .next s)
  ∧ (bit (rd s R.PWR_WAKE_EN).toNat 2 = false → exec .chainWakeDetect s = .next s)
  ∧ (s.pwr.tone = true → Does .wakeToneDone s (fun t => t.pwr = { s.pwr with tone := false } ∧ t.out = s.out ++ [.wakeTone 0]))

/-- O35. The staged start goes from S0 through its grant, the readout, banks, groups and waves, and falls back source by source. The end of
S0 samples HEAD_EN and CFGSRC and begins S1 or waits for the grant; a unit under test stays. The grant, or its timeout with GRANT_TO, begins
S1. With the management group D21 is ready and islands and groups follow CFGSRC. A source that fails a check is recorded in CFG_BOOT_LOG
with its reason; one that passes configures the fabric. Each S2 bank is ON; each S3 group powers its domains; each S4 wave powers the
regions that the image uses. The end of recovery's S3 is RUN. PWRGRANT_OUT goes high at the grant point. A march's end shows its faults,
first element and address in BNK_MRES and BNK_MADDR; a destructive one leaves zeros, a preserving one the contents. -/
def Obligations.StagedStart : Prop := ∀ (s : State),
  (∀ (head test : Bool) (src : Fin 4), s.pwr.stage = .s0 → s.pwr.test = false →
    (test = true → Does (.s0Complete head src test) s (fun t => t = { s with pwr := { s.pwr with test := true } }))
    ∧ (test = false → Does (.s0Complete head src test) s (fun t => t.pwr.headEn = head ∧ t.pwr.cfgsrc = src.val ∧ getf t F.CFG_STAT_CFGSRC = src.val
      ∧ isSet t F.PWR_STAT_SELF_GRANT = head ∧ t.pwr.stage = if head then .s1 else .grantWait)))
  ∧ (s.pwr.stage = .grantWait →
    Does .pwrgrantInHigh s (fun t => isSet t F.PWR_STAT_GRANT_IN = true ∧ t.pwr.stage = .s1 ∧ getf t F.PWR_STAT_STAGE = 1)
    ∧ (isSet s F.PWR_GRANT_CTL_TIMEOUT = true → Does .grantTimeout s (fun t => isSet t F.PWR_EVT_GRANT_TO = true ∧ t.pwr.stage = .s1)))
  ∧ (s.pwr.stage = .s1 → s.pwr.gq = [] →
    (s.pwr.cfgsrc = 1 ∨ s.pwr.cfgsrc = 3 → Does .mgmtGroupPowered s (fun t => inReset t 21 = false ∧ t.pwr.gq = [1, 3, 4] ∧ t.pwr.stage = .s1))
    ∧ (s.pwr.cfgsrc = 0 → planeValid s (getf s F.CFG_STAT_BOOT) = true → Does .mgmtGroupPowered s (fun t => inReset t 21 = false
      ∧ t.pwr.stage = .readout ∧ getf t F.CFG_STAT_OP = 3 ∧ getf t F.CFG_STAT_OP_PLANE = getf s F.CFG_STAT_BOOT ∧ t.fab.image = [])))
  ∧ (∀ (src : Nat) (l : List Nat), bootReady s = true → s.boot.path = src :: l →
    (bootReason s ≠ 0 → src ≠ 4 → Does .bootSourceFail s (fun t => let n := getf s F.CFG_BOOT_LOG_FAILS
      min 4 (n + 1) ≤ getf t F.CFG_BOOT_LOG_FAILS ∧ (n < 4 → extractBits (rd t R.CFG_BOOT_LOG) (8 + 6 * n) 6 = (src + 8 * bootReason s) % 64)))
    ∧ (∀ glob, bootReason s = 0 → Does (.bootReadoutDone glob) s (fun t => getf t F.CFG_BOOT_LOG_FINAL = src % 8 ∧ getf t F.CFG_STAT_OP = 0
      ∧ t.fab.image = if paceOk (bootImage s) then bootImage s else [])))
  ∧ (∀ n l, s.pwr.stage = .s2 → s.pwr.bq = n :: l → l ≠ [] → Does .s2BankPowered s (fun t => (bank t n).st = 1 ∧ t.pwr.bq = l ∧ t.pwr.stage = .s2))
  ∧ (∀ g l, s.pwr.gq = g :: l →
    (l ≠ [] → Does .s3GroupPowered s (fun t => (∀ d ∈ groupDoms g, (dom t d).powered = true) ∧ t.pwr.gq = (g :: l).filter (fun k => k != g)
      ∧ t.pwr.stage = s.pwr.stage ∧ bit t.pwr.groups g = true))
    ∧ (l = [] → s.pwr.stage = .s3 → recovery s = true → s.pwr.targetPend = none → Does .s3GroupPowered s (fun t => t.pwr.stage = .run
      ∧ getf t F.PWR_STAT_STATE = 1 ∧ getf t F.PWR_STAT_STAGE = 6 ∧ ∀ d ∈ groupDoms g, (dom t d).powered = true)))
  ∧ (∀ w l, w < 8 → s.pwr.wq = w :: l → l ≠ [] → s.ho = none → Does .s4WaveDone s (fun t => t.pwr.wq = l ∧ t.pwr.stage = s.pwr.stage
      ∧ ∀ r ∈ [2 * w, 2 * w + 1], regionIsOn t r = (regionIsOn s r || bit (usedRegions s.fab.image) r)))
  ∧ (s.pwr.pointReached = true → isSet s F.PWR_STAT_GRANT_OUT = false → s.pwr.stage ≠ .hold → s.pwr.stage ≠ .sleep → Does .grantPoint s (fun t =>
      isSet t F.PWR_STAT_GRANT_OUT = true ∧ t.out = s.out ++ [.pin .pwrgrantOut 1] ∧ t.pwr = s.pwr))
  ∧ (∀ (n : Fin 8) (faults el a : Nat) (bits : List W32), (bank s n).march ≠ 0 → s.pwr.stage ≠ .s2 → a < 2 ^ 32 →
      Does (.marchDone n faults el a bits false) s (fun t => (bank t n).march = 0 ∧ getf t (F.BNK_MRES_FAULTS n) = min 65535 faults
        ∧ getf t (F.BNK_MRES_ELEMENT n) = (if faults = 0 then 0 else el % 16) ∧ isSet t (F.BNK_MRES_DONE n) = true
        ∧ (rd t (R.BNK_MADDR n)).toNat = (if faults = 0 then 0 else a) ∧ (faults ≠ 0 → isSet t (F.BNK_EVT_FAULT n) = true)
        ∧ (∀ x, memByte t x = if (bank s n).march ≠ 2 ∧ x / 0x100000 = n.val then 0#8 else memByte s x)
        ∧ ∀ o tag, (bank s n).marchOp = some tag → opOf s tag = some o → retOf t tag = some (if faults = 0 then ⟨0, 0#32, 0#32⟩
            else ⟨1, w32 (min 65535 faults), w32 a⟩)))

/-- O36. CFG_STAGE writes a plane frame by frame; CFG_HANDOVER fences, reads out and rolls back; the start-up steps show. A CFG_STAGE of the
active plane or of a range outside BANK5 to BANK7 ends with RANGE. One whose header passes clears the plane's VALID mark, counts its wear
and begins the erase; the header is then programmed over an erased plane, each good frame behind it, and a frame that does not arrive ends
the stage. A read-back that verifies makes the plane VALID, else the stage ends with NV_VERIFY_FAIL. CFG_HANDOVER to a plane that is active
or not VALID ends with RANGE and reason 5; else it fences D11 and the named banks that are ON. Unused regions go off; a good readout loads
the fabric from the new plane, a bad one clears its mark, sets ROLLBACK and reads the previous plane back. A start-up step sets its STEPS
bit; LOCK locks the islands waited for, or names those missing. A bank's step ends in its target state. CFG_BOOT_SEL names only a VALID
plane. -/
def Obligations.StagingAndHandover : Prop := ∀ (s : State),
  (∀ tag o hdr, cfgTurn s tag 0x70 = some o → let p := stPlane o
    (activePlane s p = true ∨ stageRangeOk o = false → Does (.cfgStage tag hdr) s (fun t => retOf t tag = some ⟨0x14, rd s (R.CFG_WEAR p), 0#32⟩
      ∧ t.stage = s.stage ∧ t.planeMem = s.planeMem ∧ t.regs = s.regs))
    ∧ (activePlane s p = false → stageRangeOk o = true → getf s (F.CFG_WEAR_WEAR p) < 1000000 → stKind o < 2 →
      ∀ h, stageBytes s o 0 512 hdr = some h → headerErr true h = false → imgLen h = dLength o.words → identityOk h = true →
      Does (.cfgStage tag hdr) s (fun t => planeValid t p = false ∧ getf t (F.CFG_WEAR_WEAR p) = getf s (F.CFG_WEAR_WEAR p) + 1
        ∧ getf t F.CFG_STAT_OP = 1 ∧ getf t F.CFG_STAT_OP_PLANE = p ∧ t.stage.map (fun g => (g.tag, g.plane, g.ph, g.buf)) = some (tag, p, 1, h)
        ∧ planeValid t (1 - p) = planeValid s (1 - p))))
  ∧ (∀ g, s.stage = some g →
    (g.ph = 1 → g.buf.length ≤ 0x800000 → Does .cfgStageEraseDone s (fun t => t.stage = some { g with ph := 2 } ∧ t.regs = s.regs
      ∧ ∀ x, planeByte t x = if x / 0x800000 = g.plane then g.buf.getD (x % 0x800000) 0xFF#8 else planeByte s x))
    ∧ (∀ o got, opOf s g.tag = some o → g.ph = 2 → stageServed s o = true → g.frames ≠ imgFrameCnt g.buf →
      (∀ d, stageBytes s o g.buf.length 4096 got = some d → (framesFrom true (g.buf ++ d) 0 {} (g.frames + 1)).isSome = true →
        Does (.cfgStageFrame got) s (fun t => t.stage = some { g with buf := g.buf ++ d, frames := g.frames + 1 } ∧ t.regs = s.regs
          ∧ ∀ x, planeByte t x = if g.plane * 0x800000 + g.buf.length ≤ x ∧ x < g.plane * 0x800000 + g.buf.length + d.length
              then d.getD (x - (g.plane * 0x800000 + g.buf.length)) 0xFF#8 else planeByte s x))
      ∧ (stageBytes s o g.buf.length 4096 got = none → Does (.cfgStageFrame got) s (fun t => t.stage = none ∧ getf t F.CFG_STAT_OP = 0
          ∧ (retOf t g.tag).map (·.status) = some (hostFail s))))
    ∧ (∀ o, opOf s g.tag = some o → g.ph = 3 → g.plane < 2 →
      Does (.cfgStageReadbackDone true) s (fun t => planeValid t g.plane = true ∧ t.stage = none ∧ getf t F.CFG_STAT_OP = 0
        ∧ (retOf t g.tag).map (·.status) = some (if g.note then 1 else 0))
      ∧ Does (.cfgStageReadbackDone false) s (fun t => planeValid t g.plane = planeValid s g.plane ∧ t.stage = none ∧ getf t F.CFG_STAT_OP = 0
        ∧ (retOf t g.tag).map (·.status) = some 0x40)))
  ∧ (∀ tag o, cfgTurn s tag 0x71 = some o → let p := opFld o 4 0 1
    (activePlane s p = true ∨ planeValid s p = false → Does (.cfgHandover tag) s (fun t =>
      retOf t tag = some ⟨0x14, 0#32, w32 (getf s F.CFG_STAT_ACTIVE + 5 * 2 ^ 8)⟩ ∧ t.ho = s.ho ∧ t.doms = s.doms ∧ t.regs = s.regs))
    ∧ (activePlane s p = false → planeValid s p = true → s.fab.image ≠ [] → fenced s 11 = false → Does (.cfgHandover tag) s (fun t =>
      getf t F.CFG_STAT_OP = 2 ∧ getf t F.CFG_STAT_OP_PLANE = p ∧ fenced t 11 = true ∧ (dom t 11).holders = [8] ∧ (dom t 11).drainUs = hoDrain s o
      ∧ t.ho.map (fun h => (h.tag, h.plane, h.step, h.persist)) = some (tag, p, 2, decide (opFld o 4 1 1 = 1))
      ∧ ∀ n < 8, 2 ≤ n → bit (opFld o 4 8 8) n = true → (bank s n).st = 1 → fenced t (12 + n) = true)))
  ∧ (∀ h, s.ho = some h →
    (h.step = 6 → Does .regionsPoweredDown s (fun t => t.ho = some { h with step := 7 }
      ∧ ∀ r < 16, regionIsOn t r = (regionIsOn s r && bit (usedRegions (planeImage s h.plane)) r)))
    ∧ (∀ glob, h.step = 7 → h.back = false → h.plane < 2 →
      (imageReason false (planeImage s h.plane) = 0 → Does (.handoverReadoutDone glob) s (fun t =>
        t.fab.image = (if paceOk (planeImage s h.plane) then planeImage s h.plane else []) ∧ getf t F.CFG_STAT_ACTIVE = h.plane
        ∧ isSet t F.CFG_STAT_SRC_PLANE = paceOk (planeImage s h.plane)))
      ∧ (∀ r, imageReason false (planeImage s h.plane) = r → r ≠ 0 → h.unconf = false → isSet s F.CFG_STAT_SRC_PLANE = true →
        Does (.handoverReadoutDone glob) s (fun t => t.ho = some { h with reason := r, rolled := true, back := true } ∧ planeValid t h.plane = false
          ∧ isSet t F.CFG_STAT_ROLLBACK = true ∧ getf t F.CFG_HO_CNT_ROLLBACKS = min 255 (getf s F.CFG_HO_CNT_ROLLBACKS + 1)))))
  ∧ (s.ho = none →
    (atStep s 1 = true → Does .startupLockDone s (fun t => bit (getf t F.CFG_SEQ_STAT_STEPS) 0 = true
        ∧ getf t F.FAB_ISL_LOCK_LOCK = getf s F.FAB_ISL_LOCK_LOCK ||| lockIslands s)
      ∧ ∀ missing, Does (.startupLockTimeout missing) s (fun t => bit (getf t F.CFG_SEQ_STAT_STEPS) 0 = true ∧ isSet t F.CFG_STAT_LOCK_TO = true
        ∧ rd t R.CFG_LOCK_MISS = w32 (lockIslands s &&& missing) ∧ evtPending t 8 = true))
    ∧ (∀ k ∈ [2, 3, 4], atStep s k = true → Does .startupStepDone s (fun t => bit (getf t F.CFG_SEQ_STAT_STEPS) (k - 1) = true))
    ∧ (∀ i, s.fab.seqPh = 2 → getf s F.CFG_SEQ_STAT_INDEX = i → i < 7 → 1 ≤ stStep (imgStart s.fab.image (i + 1)) →
        stStep (imgStart s.fab.image (i + 1)) ≤ 4 → Does .startupDelayExpiry s (fun t => getf t F.CFG_SEQ_STAT_INDEX = i + 1 ∧ t.fab.seqPh = 1)))
  ∧ (∀ (n : Fin 8) (us : Nat), (bank s n).st = 3 → (bank s n).target < 3 → s.ho = none → Does (.bankPowerStepDone n us) s (fun t =>
      (bank t n).st = (bank s n).target ∧ getf t (F.BNK_STAT_STATE n) = (bank s n).target
      ∧ ((bank s n).target ≠ 0 → (bank s n).before ≠ 0 → t.mem = s.mem)
      ∧ ∀ tag o, (bank s n).forOp = some tag → opOf s tag = some o →
        retOf t tag = some ⟨0, w32 ((bank s n).before + 4 * (bank s n).target), w32 us⟩))
  ∧ (∀ (p : Fin 2) (key : Nat), regAway s R.CFG_BOOT_SEL = false →
      (key ≠ 0x0B5E → exec (.cfgBootSel key p) s = .next s)
      ∧ (planeValid s p = true → Does (.cfgBootSel 0x0B5E p) s (fun t => getf t F.CFG_STAT_BOOT = p.val ∧ ∀ r, r ≠ R.CFG_STAT → rd t r = rd s r))
      ∧ (planeValid s p = false → Does (.cfgBootSel 0x0B5E p) s (fun t => isSet t F.CFG_STAT_SEL_ERR = true
        ∧ getf t F.CFG_STAT_BOOT = getf s F.CFG_STAT_BOOT)))

/-- O37. DEP_WRITE and DEP_READ refuse what the depot cannot do and become requests of the depot manager. A DEP_WRITE or DEP_READ that has
not begun ends with RANGE where the depot, the slot, its KIND, its range or the length does not allow it, with PERMISSION where GOLDEN or a
formatted depot is protected, and with the error of the data's source. Else it becomes the request that is served, with OP 5 or 4, and a
write begins with the erase of its first sector: an image write shows LENGTH 0 and rewrites the directory, a data write merges its bytes
into the sector and writes the slot, a slot write stores the entry, a format begins with sector 0. -/
def Obligations.DepotOperations : Prop := ∀ (s : State) (tag : Nat) (o : Op) (got : ReadEnd),
  let i := dpSlot o
  let k := slKind (slotW0 s i)
  let taken (t : State) : Prop := (opOf t tag).map (·.started) = some true ∧ t.flash = s.flash ∧ t.mem = s.mem
  let erases (t : State) (k : Nat) : Prop := getf t F.DEP_STAT_OP = 5 ∧ .flash 1 (k * 0x10000) [] ∈ t.out ∧ taken t
    ∧ ∃ j, t.dep.jobs = [j] ∧ j.op = some tag ∧ j.st = 1 ∧ j.sector = k
  let reads (c : Instr) (off : Nat) : Prop := Does c s (fun t => getf t F.DEP_STAT_OP = 4 ∧ taken t
    ∧ t.dep.jobs = [{ kind := 4, op := some tag, slot := i, off := off, len := dLength o.words }])
  let good (k : Nat) : Prop := s.dep.dir.eraseLimit = 0 ∨ (sget k s.dep.dir.ecnt).getD 0 < s.dep.dir.eraseLimit
  (depOp s tag 0x78 0 = some o →
    (depotUsable s = false ∨ k = 0 ∨ 3 < k → EndsOp (.depWriteImage tag got) s o ⟨0x14, 0#32, 0#32⟩)
    ∧ (depotUsable s = true → k = 2 → depotFree s = false → EndsOp (.depWriteImage tag got) s o ⟨0x13, 0#32, 0#32⟩)
    ∧ (depotUsable s = true → 1 ≤ k → k ≤ 3 → k ≠ 2 ∨ depotFree s = true →
      (∀ e, depData s o got = .error e → EndsOp (.depWriteImage tag got) s o ⟨e, 0#32, 0#32⟩)
      ∧ (∀ d, depData s o got = .ok d → k ≠ 3 → headerErr true d = true → EndsOp (.depWriteImage tag got) s o ⟨0x14, 0#32, 0#32⟩)
      ∧ (∀ d, depData s o got = .ok d → k ≠ 3 → headerErr true d = false → depotIdle s → tapOwns s = false →
          Does (.depWriteImage tag got) s (fun t => erases t (dirTarget s) ∧ slotLen t i = 0 ∧ t.dep.dir.gen = s.dep.dir.gen + 1))))
  ∧ (depOp s tag 0x78 1 = some o →
    (depotUsable s = false ∨ k < 4 ∨ 5 < k ∨ slotCap s i < dpArg o + dLength o.words → EndsOp (.depWriteData tag got) s o ⟨0x14, 0#32, 0#32⟩)
    ∧ (∀ d f, depotUsable s = true → k = 4 → dpArg o + dLength o.words ≤ slotCap s i → depData s o got = .ok d → d ≠ [] → depotIdle s →
      tapOwns s = false → (spanGood s i)[dpArg o / 0x10000]? = some f → good f → Does (.depWriteData tag got) s (fun t => erases t f
        ∧ ∀ x < 0x10000, ((t.dep.jobs.head?.map (·.data)).getD []).getD x 0#8 =
            (if dpArg o % 0x10000 ≤ x ∧ x < dpArg o % 0x10000 + d.length then d.getD (x - dpArg o % 0x10000) 0#8 else flashByte s (f * 0x10000 + x)))))
  ∧ (depOp s tag 0x78 2 = some o →
    let w := opWord o 7
    (depotUsable s = false → EndsOp (.depWriteSlot tag) s o ⟨0x14, 0#32, 0#32⟩)
    ∧ (depotUsable s = true → k = 2 → depotFree s = false → EndsOp (.depWriteSlot tag) s o ⟨0x13, 0#32, 0#32⟩)
    ∧ (depotUsable s = true → k ≠ 0 → w ≠ 0#32 → k ≠ 2 ∨ depotFree s = true → EndsOp (.depWriteSlot tag) s o ⟨0x14, 0#32, 0#32⟩)
    ∧ (depotUsable s = true → k = 0 → slotsOk s.dep.dir.sectors (s.dep.dir.slots.set i (w, 0#32)) = true → (∀ r < 8, rngState s r = 0) →
      depotIdle s → tapOwns s = false → Does (.depWriteSlot tag) s (fun t => erases t (dirTarget s) ∧ t.dep.dir.slots = s.dep.dir.slots.set i (w, 0#32))))
  ∧ (depOp s tag 0x78 3 = some o →
    (isSet s F.DEP_STAT_PRESENT = false → EndsOp (.depWriteFormat tag) s o ⟨0x14, 0#32, 0#32⟩)
    ∧ (depotUsable s = true → depotFree s = false → EndsOp (.depWriteFormat tag) s o ⟨0x13, 0#32, 0#32⟩)
    ∧ (isSet s F.DEP_STAT_PRESENT = true → isSet s F.DEP_STAT_FORMATTED = false ∨ depotFree s = true → depotIdle s → tapOwns s = false →
      Does (.depWriteFormat tag) s (fun t => erases t 0 ∧ t.dep.dir.slots = (dirDefault (getf s F.DEP_FLASH_SECTORS) 0).slots ∧ t.dep.dir.bad = [])))
  ∧ (depOp s tag 0x79 0 = some o →
    (depotUsable s = false ∨ k = 0 ∨ slotCap s i < dpArg o + dLength o.words ∨ k = 5 ∧ rangeServes s i = false →
      EndsOp (.depReadSlot tag) s o ⟨0x14, 0#32, 0#32⟩)
    ∧ (depotUsable s = true → k ≠ 0 → dpArg o + dLength o.words ≤ slotCap s i → k ≠ 5 ∨ rangeServes s i = true → depotIdle s →
      reads (.depReadSlot tag) (dpArg o)))
  ∧ (depOp s tag 0x79 1 = some o →
    (depotUsable s = false ∨ getf s F.DEP_FLASH_SECTORS * 0x10000 < dpArg o + dLength o.words → EndsOp (.depReadRaw tag) s o ⟨0x14, 0#32, 0#32⟩)
    ∧ (depotUsable s = true → dpArg o + dLength o.words ≤ getf s F.DEP_FLASH_SECTORS * 0x10000 → depotIdle s → reads (.depReadRaw tag) (dpArg o)))
  ∧ (depOp s tag 0x79 2 = some o →
    (depotUsable s = false → EndsOp (.depReadDirectory tag) s o ⟨0x14, 0#32, 0#32⟩)
    ∧ (depotUsable s = true → depotIdle s → reads (.depReadDirectory tag) 0))

/-- O38. The flash's answers erase and program the sectors, mark bad ones, and deliver what a read asked for. At a good erase the sector of
the request reads 0xFF and the first page of its data is programmed; every other byte of the flash is as before. At a good program the page
holds its bytes and the next page follows; the last page of the directory ends the request: its copy is in use and the operation returns OK
with the sectors erased, those newly bad and the slot's capacity. A failure marks the sector bad, with NEW_BAD, and leaves the flash. A read
that ends delivers the slot's, the flash's or the directory's bytes to host memory or the banks, and its operation returns OK. A boot load
goes on by a unit whose CRC holds, retries a bad one, and fails with reason 1 or 3 after three retries. A scrub read goes on to the next
unit or slot, and retries a bad one. -/
def Obligations.DepotFlashWork : Prop := ∀ (s : State),
  (∀ fg j, curJob s = some (fg, j) → tapOwns s = false →
    let p := j.st - 2
    let page (p : Nat) : List Byte := (j.data.drop (256 * p)).take 256
    (j.st = 1 → Does (.flashEraseDone true) s (fun t =>
      (∀ a, flashByte t a = if a / 0x10000 = j.sector then 0xFF#8 else flashByte s a)
      ∧ (j.data ≠ [] → .flash 2 (j.sector * 0x10000) (page 0) ∈ t.out ∧ curJob t = some (fg, { j with st := 2 }))))
    ∧ (2 ≤ j.st → Does (.flashProgramDone true) s (fun t => FlashHas s t (j.sector * 0x10000 + 256 * p) (page p)
      ∧ (p + 1 < pages j.data.length → .flash 2 (j.sector * 0x10000 + 256 * (p + 1)) (page (p + 1)) ∈ t.out
          ∧ curJob t = some (fg, { j with st := j.st + 1 }))
      ∧ (pages j.data.length ≤ p + 1 → s.dep.jobs = [j] → s.dep.bg = none → j.todo = [.dir] → j.scr = 0 → ∀ o, j.op = some o.tag → opOf s o.tag = some o →
          retOf t o.tag = some ⟨0, w32 j.erased, w32 (j.newBad % 2 ^ 16 + (spanGood s j.slot).length * 2 ^ 16)⟩
          ∧ getf t F.DEP_STAT_COPY = j.sector % 2 ∧ isSet t F.DEP_STAT_FORMATTED = true ∧ t.dep.jobs = [] ∧ getf t F.DEP_STAT_OP = 0)))
    ∧ (∀ span pos d l, j.todo = .write span pos d :: l →
      ∀ q ∈ [Instr.flashEraseDone false, Instr.flashProgramDone false], (q = .flashEraseDone false → j.st = 1) → (q = .flashProgramDone false → 2 ≤ j.st) →
        Does q s (fun t => t.dep.dir.bad = insertNat j.sector s.dep.dir.bad ∧ isSet t F.DEP_EVT_NEW_BAD = true ∧ t.flash = s.flash
          ∧ t.flashFill = s.flashFill)))
  ∧ (∀ (j : Job) (o : Op) (bs : List Byte), s.dep.jobs = [j] → j.kind = 4 → j.op = some o.tag → opOf s o.tag = some o → noRegDue s →
      (dpMode o = 0 ∧ slKind (slotW0 s j.slot) ≠ 5 ∧ bs = spanRead s j.slot j.off j.len) ∨ (dpMode o = 1 ∧ bs = flashRead s j.off j.len)
        ∨ (1 < dpMode o ∧ bs = (dirBytes s.dep.dir).take j.len) →
      (dpSpace o = false → isMember s = false → Does (.flashReadDone none) s (fun t => retOf t o.tag = some ⟨0, 0#32, 0#32⟩
        ∧ t.out = s.out ++ [.hostWrite (dpAddr o) bs] ∧ t.mem = s.mem ∧ t.dep.jobs = []))
      ∧ (dpSpace o = true → bankWritable s (dpAddr o) bs.length → Does (.flashReadDone none) s (fun t => retOf t o.tag = some ⟨0, 0#32, 0#32⟩
        ∧ BankHas s t (dpAddr o) bs ∧ t.out = s.out ∧ t.dep.jobs = [])))
  ∧ (∀ (j : Job) (raw : List Byte), s.dep.jobs = [j] → j.kind = 1 → j.op = none → slotLen s j.slot ≠ 0 → noRegDue s →
      let h := if j.units = 0 then raw else j.buf.take 512
      (unitCrcOk h j.units raw = true → 1 ≤ j.units → (j.buf ++ raw).length < imgLen (j.buf ++ raw) → j.tries = 0 →
        Does (.flashReadDone (some raw)) s (fun t => t.dep.jobs = [{ j with buf := j.buf ++ raw, units := j.units + 1 }] ∧ t.boot = s.boot))
      ∧ (unitCrcOk h j.units raw = false → j.tries < 3 → Does (.flashReadDone (some raw)) s (fun t =>
        t.dep.jobs = [{ j with tries := j.tries + 1 }] ∧ getf t F.DEP_CNT_RETRIES = min 65535 (getf s F.DEP_CNT_RETRIES + 1)))
      ∧ (unitCrcOk h j.units raw = false → 3 ≤ j.tries → Does (.flashReadDone (some raw)) s (fun t =>
        t.dep.jobs = [] ∧ t.boot.bad = some (if j.units = 0 then 1 else 3))))
  ∧ (∀ (j : Job) (off n u : Nat) (h raw : List Byte), depotIdle { s with dep := { s.dep with bg := none } } → s.dep.bg = some j → j.kind = 6 →
      slKind (slotW0 s j.slot) ≠ 5 → slotUnit s j.slot (slotLen s j.slot) j.units 0 (slotLen s j.slot / 4672 + 1) = some (off, n, h, u) → noRegDue s →
      (unitCrcOk h u raw = true → j.tries = 0 → Does (.flashReadDone (some raw)) s (fun t => t.dep.bg = none ∧ getf t F.DEP_STAT_OP = 0
        ∧ (off + n < slotLen s j.slot → t.dep.scrubUnit = s.dep.scrubUnit + 1 ∧ t.dep.scrubSlot = s.dep.scrubSlot)
        ∧ (slotLen s j.slot ≤ off + n → t.dep.scrubUnit = 0 ∧ t.dep.scrubSlot = if s.dep.scrubSlot = 7 then 0 else s.dep.scrubSlot + 1)))
      ∧ (unitCrcOk h u raw = false → j.tries < 3 → Does (.flashReadDone (some raw)) s (fun t => t.dep.bg = some { j with tries := j.tries + 1 }
        ∧ getf t F.DEP_CNT_RETRIES = min 65535 (getf s F.DEP_CNT_RETRIES + 1))))

/-- O39. Discovery finds the flash and its directory, and the scrub reads or refreshes the next unit. DEPOT_DISCOVERY, when it is due
outside a boot and no range waits to be resumed, shows a flash that answers with a supported size in DEP_STAT and DEP_FLASH, takes the valid
directory copy with the higher GEN, and chooses the mode and clock; without a valid copy the depot is unformatted; a flash that does not
answer leaves the depot absent. DEPOT_SCRUB_DUE with nothing else to serve begins the read of the scrub's unit; with refresh enabled it
first begins to erase and rewrite the sector of a weak unit. -/
def Obligations.DepotDiscoveryAndScrub : Prop := ∀ (s : State),
  (∀ x : Sfdp, discoveryDue s = true → s.boot.run = false → (∀ r < 8, rngState s r ≤ 1) →
    let here := x.present && (x.sectors == 512 || x.sectors == 1024 || x.sectors == 2048)
    (here = false → Does (.depotDiscovery x) s (fun t => t = { s with dep := { s.dep with discovered := true } }))
    ∧ (here = true → Does (.depotDiscovery x) s (fun t => t.dep.discovered = true ∧ isSet t F.DEP_STAT_PRESENT = true
      ∧ getf t F.DEP_FLASH_SECTORS = x.sectors ∧ getf t F.DEP_FLASH_MFR = x.mfr % 256 ∧ isSet t F.DEP_STAT_SUSPEND = x.suspend
      ∧ (getf t F.DEP_STAT_MODE, getf t F.DEP_STAT_CLK) = flChoose x t.dep.dir
      ∧ (match dirChoose (dirParse x.sectors (flashRead s 0 0x2204)) (dirParse x.sectors (flashRead s 0x10000 0x2204)) with
        | some (k, d) => t.dep.dir = d ∧ getf t F.DEP_STAT_COPY = k ∧ isSet t F.DEP_STAT_FORMATTED = true ∧ rd t R.DEP_GEN = w32 d.gen
        | none => t.dep.dir = s.dep.dir ∧ isSet t F.DEP_STAT_FORMATTED = isSet s F.DEP_STAT_FORMATTED))))
  ∧ (away s 21 = false → depotUsable s = true → isSet s F.DEP_CTL_SCRUB_EN = true → depotIdle s →
    (s.dep.weak = [] → scrubbable s s.dep.scrubSlot = true → Does .depotScrubDue s (fun t =>
      t.dep = { s.dep with bg := some { kind := 6, slot := s.dep.scrubSlot, units := s.dep.scrubUnit } } ∧ getf t F.DEP_STAT_OP = 6
      ∧ t.flash = s.flash ∧ t.out = s.out))
    ∧ (∀ slot u k l, isSet s F.DEP_CTL_REFRESH_EN = true → isSet s F.DEP_STAT_SUSPEND = true → tapOwns s = false →
      s.dep.weak.find? (fun p => !s.dep.lost.contains p.1) = some (slot, u) → weakSectors s slot u = k :: l →
      Does .depotScrubDue s (fun t => .flash 1 (k * 0x10000) [] ∈ t.out ∧ (slot, u) ∉ t.dep.weak ∧ getf t F.DEP_STAT_OP = 7
        ∧ ∃ j, t.dep.bg = some j ∧ j.kind = 7 ∧ j.st = 1 ∧ j.sector = k ∧ j.data = flashRead s (k * 0x10000) 0x10000)))

/-- O40. Image requests, rounds and chunks pass along the chain with their acknowledgements and repeats. A unit that serves images answers
IMAGE_REQ with REQ_ACK and holds the request, or aborts an empty round; another passes it up. A waiting unit repeats IMAGE_REQ up to three
times and stops at REQ_ACK. LOAD_ROUND_START takes the pending requests into the next round. ROUND_BEGIN starts a fresh stream and goes on.
A good chunk in order is taken, each fourth acknowledged; a damaged one or a gap asks once for RESEND; an old one changes nothing. CHUNK_ACK
frees the held chunks; RESEND sends them again, or ends the round where one was sent four times. ROUND_END acknowledges and goes on;
ROUND_ABORT ends the round. Without an answer a try is repeated. -/
def Obligations.ChainLoading : Prop := ∀ (s : State) (m : Msg),
  let r := msgRound m
  let q := (mw m 1).toNat
  let next := (s.load.lastRound + 1) % 2 ^ 16
  let ack : Msg := ⟨0x41, 0, toAll, [w32 (next * 2 ^ 16), w32 (if s.load.round.isSome then 1 else 0), 0#32, 0#32], []⟩
  let ask (n : Nat) (t : State) : Prop := t.load.reqs = n ∧ sends s t 0 ⟨0x40, ownAddr s, 0, [0#32, Config.dieLo, Config.dieHi, 0#32], []⟩
  let say (ty a b : Nat) : Msg := ⟨ty, ownAddr s, toNext, [w32 (r * 2 ^ 16), w32 a, w32 b, 0#32], []⟩
  let piece (c : Nat × Nat × List Byte) : Msg := ⟨0x43, ownAddr s, toNext, [w32 (r * 2 ^ 16), w32 c.1, w32 c.2.2.length, crc32c c.2.2], c.2.2⟩
  (servesImages s = false → Does (.imageReq m) s (fun t =>
      if portUp s 0 then carries t 0 m else getf t F.ENU_CNT_NOROUTE = min 65535 (getf s F.ENU_CNT_NOROUTE + 1)))
  ∧ (servesImages s = true →
    (∀ i, chainSlot s = some i → Does (.imageReq m) s (fun t => t.load = { s.load with pending := s.load.pending + 1 } ∧ sends s t 1 ack))
    ∧ (chainSlot s = none → Does (.imageReq m) s (fun t => t.load = { s.load with lastRound := next } ∧ sends s t 1 ack
        ∧ sends s t 1 ⟨0x42, 0, toNext, [w32 (next * 2 ^ 16), 0#32, 0#32, 0#32], []⟩
        ∧ sends s t 1 ⟨0x45, 0, toNext, [w32 (next * 2 ^ 16), 6#32, 0#32, 0#32], []⟩))
    ∧ (0 < s.load.pending → Does .reqAckRepeat s (fun t => t.load = s.load ∧ sends s t 1 ack))
    ∧ (∀ i, chainSlot s = some i → 0 < s.load.pending → s.load.round = none → away s 21 = false → depotIdle s → Does .loadRoundStart s (fun t =>
        t.load = { lastRound := next, round := some next } ∧ t.dep.jobs = [{ kind := 2, slot := i }] ∧ getf t F.DEP_STAT_OP = 2
        ∧ getf t F.DEP_CHN_ROUNDS = min 65535 (getf s F.DEP_CHN_ROUNDS + 1)
        ∧ sends s t 1 ⟨0x42, 0, toNext, [w32 (next * 2 ^ 16), 0#32, 0#32, 0#32], []⟩)))
  ∧ (chainBoot s = true → s.load.waiting = true →
    (s.load.acked = false → 0 < s.load.reqs → s.load.reqs < 3 → portUp s 0 = true → Does .imageReqRetry s (ask (s.load.reqs + 1)))
    ∧ (portUp s 0 = true → exec (.chainTryTimeout true) s = .next s)
    ∧ (s.load.joined = true → exec (.chainTryTimeout false) s = .next s)
    ∧ (s.load.joined = false → s.load.tries < 3 → portUp s 0 = true → Does (.chainTryTimeout false) s (fun t => ask 1 t
        ∧ t.load.tries = s.load.tries + 1 ∧ t.load.waiting = true ∧ t.load.acked = false ∧ t.load.image = [])))
  ∧ Does (.reqAck m) s (fun t => t.load.acked = (s.load.acked || s.load.waiting) ∧ sends s t 1 m)
  ∧ (away s 21 = false → Does (.roundBegin m) s (fun t => sends s t 1 m ∧ getf t F.DEP_CHN_ROUNDS = min 65535 (getf s F.DEP_CHN_ROUNDS + 1)
      ∧ t.load = { waiting := s.load.waiting, reqs := s.load.reqs, tries := s.load.tries, acked := s.load.acked, round := some r,
                   joined := s.load.waiting && decide (0 < s.load.reqs) }))
  ∧ (s.load.round = some r → away s 21 = false →
    let good := decide (crc32c m.data = mw m 3) && decide (m.data.length = extractBits (mw m 2) 0 13)
    (good = true → q = s.load.rxSeq → Does (.chunk m) s (fun t => t.load.rxSeq = q + 1 ∧ t.load.rxBad = false
        ∧ (3 ≤ s.load.unacked → t.load.unacked = 0 ∧ sends s t 0 (say 0x46 q 0)) ∧ (s.load.unacked < 3 → t.load.unacked = s.load.unacked + 1)))
    ∧ (good = false ∨ s.load.rxSeq < q → s.load.rxBad = false → Does (.chunk m) s (fun t => t.load = { s.load with rxBad := true }
        ∧ sends s t 0 (say 0x47 s.load.rxSeq 0) ∧ isSet t F.DEP_EVT_RESEND = true ∧ getf t F.DEP_CHN_RESENDS = min 255 (getf s F.DEP_CHN_RESENDS + 1)))
    ∧ (good = true → q < s.load.rxSeq → Does (.chunk m) s (fun t => t.load = s.load)))
  ∧ (s.load.round = some r →
    (s.load.outBuf = [] → s.load.ended = false → s.load.dead = false → portUp s 1 = true → Does (.chunkAck m) s (fun t =>
        t.load = { s.load with sent := s.load.sent.filter (fun c => q < c.1) }))
    ∧ ((∀ c ∈ s.load.sent, q ≤ c.1 → c.2.1 < 4) → Does (.resend m) s (fun t => (∀ c ∈ s.load.sent, q ≤ c.1 → sends s t 1 (piece c))
        ∧ t.load.sent = s.load.sent.map (fun c => if q ≤ c.1 then (c.1, c.2.1 + 1, c.2.2) else c) ∧ isSet t F.DEP_EVT_RESEND = true))
    ∧ ((∃ c ∈ s.load.sent, q ≤ c.1 ∧ 4 ≤ c.2.1) → Does (.resend m) s (fun t => sends s t 1 (say 0x45 3 0) ∧ t.load.sent = [] ∧ t.load.dead = true
        ∧ isSet t F.DEP_EVT_ROUND_ABORT = true ∧ (servesImages s = true → t.load.round = none)))
    ∧ (chainBoot s = false →
      (s.load.outBuf = [] → s.load.dead = false → portUp s 1 = true → Does (.roundEnd m) s (fun t => t.load.ended = true ∧ t.load.dead = true
          ∧ sends s t 1 (say 0x44 s.load.txSeq s.load.txBytes) ∧ (0 < s.load.unacked → sends s t 0 (say 0x46 (s.load.rxSeq - 1) 0))))
      ∧ Does (.roundAbort m) s (fun t => t.load.round = none ∧ t.load.sent = [] ∧ isSet t F.DEP_EVT_ROUND_ABORT = true
          ∧ sends s t 1 (say 0x45 (extractBits (mw m 1) 0 3) 0))))

/-- O41. Scrambler commands with their key load, clear, bind, rekey and erase, and show their RESULT. A command of the scrambler with
another key than 0x5CB1, or while D21 is away, does nothing; one that finds the scrambler busy shows RESULT 7; one whose key slot or range
is in the wrong state shows 1; one that needs the depot shows 4 without it. LOAD_KEY takes the key words into an EMPTY slot, which is LOADED
with its KCHK, and clears them. CLEAR_KEY empties a LOADED slot. BIND with a fitting slot and tag span shows BUSY, stores the binding and
begins to erase the tag span; a slot of another KIND or range shows 2. REKEY makes the new slot the range's, state REKEY, with the old one
kept for the lines not yet done; ERASE sets the range's state ERASING and begins with its data sectors. -/
def Obligations.ScramblerCommands : Prop := ∀ (s : State) (k : Fin 16) (r : Fin 8) (un : Bool),
  let cmds : List Instr := [.loadKey 0x5CB1 k, .clearKey 0x5CB1 k, .bind 0x5CB1 r k, .rekey 0x5CB1 r k, .erase 0x5CB1 r un]
  let result (i : Instr) (n : Nat) : Prop := Does i s (fun t => getf t F.SCR_STAT_RESULT = n ∧ t = { s with regs := t.regs }
    ∧ ∀ a, a ≠ R.SCR_STAT → rd t a = rd s a)
  let kst := getf s (F.SCR_KSLOT_STATE k)
  let flash (k0 : Nat) (func : Nat) (t : State) : Prop := isSet t F.SCR_STAT_BUSY = true ∧ getf t F.SCR_STAT_FUNC = func
    ∧ .flash 1 (k0 * 0x10000) [] ∈ t.out ∧ t.flash = s.flash ∧ getf t F.DEP_STAT_OP = 5
  let fresh (k0 : Nat) : Prop := s.dep.dir.eraseLimit = 0 ∨ (sget k0 s.dep.dir.ecnt).getD 0 < s.dep.dir.eraseLimit
  (∀ key, key ≠ 0x5CB1 ∨ away s 21 = true → ∀ i ∈ [Instr.loadKey key k, .clearKey key k, .bind key r k, .rekey key r k, .erase key r un],
      exec i s = .next s)
  ∧ (away s 21 = false →
    (isSet s F.SCR_STAT_BUSY = true → ∀ i ∈ cmds, result i 7)
    ∧ (isSet s F.SCR_STAT_BUSY = false →
      (kst ≠ 0 → result (.loadKey 0x5CB1 k) 1)
      ∧ (kst ≠ 1 → ∀ i ∈ [Instr.clearKey 0x5CB1 k, .bind 0x5CB1 r k, .rekey 0x5CB1 r k], result i 1)
      ∧ (rngState s r ≠ 0 → result (.bind 0x5CB1 r k) 1)
      ∧ (rngState s r ≠ 1 → ∀ i ∈ [Instr.rekey 0x5CB1 r k, .erase 0x5CB1 r un], result i 1)
      ∧ (depotUsable s = false → (kst = 1 → rngState s r = 0 → result (.bind 0x5CB1 r k) 4)
        ∧ (rngState s r = 1 → result (.erase 0x5CB1 r un) 4 ∧ (kst = 1 → result (.rekey 0x5CB1 r k) 4)))
      ∧ (kst = 0 → Does (.loadKey 0x5CB1 k) s (fun t => getf t (F.SCR_KSLOT_STATE k) = 1 ∧ getf t F.SCR_STAT_RESULT = 0
          ∧ sget k.val t.keys = some ((List.range 4).map (fun i => rd s (R.SCR_KEYW i)))
          ∧ getf t (F.SCR_KSLOT_KCHK k) = (crc32c (wordsBytes ((List.range 4).map (fun i => rd s (R.SCR_KEYW i))))).toNat % 2 ^ 16
          ∧ (∀ i < 4, rd t (R.SCR_KEYW i) = 0#32) ∧ ∀ j, j ≠ k.val → sget j t.keys = sget j s.keys))
      ∧ (kst = 1 → Does (.clearKey 0x5CB1 k) s (fun t => getf t (F.SCR_KSLOT_STATE k) = 0 ∧ getf t (F.SCR_KSLOT_KCHK k) = 0
          ∧ getf t F.SCR_STAT_RESULT = 0 ∧ sget k.val t.keys = none ∧ ∀ j, j ≠ k.val → sget j t.keys = sget j s.keys))
      ∧ (depotUsable s = true → kst = 1 → rngState s r = 0 →
        let d := getf s F.SCR_ARG_DSLOT
        let first := getf s F.SCR_ARG_TAG_FIRST
        let n := getf s F.SCR_ARG_TAG_SPAN
        (slKind (slotW0 s d) ≠ 5 ∨ slRange (slotW0 s d) ≠ r.val ∨ tagSpanOk s first n = false → result (.bind 0x5CB1 r k) 2)
        ∧ (slKind (slotW0 s d) = 5 → slRange (slotW0 s d) = r.val → tagSpanOk s first n = true → s.dep.dir.bad = [] → fresh first →
          (spanGood s d).length ≤ 8 * n → depotIdle s → tapOwns s = false → Does (.bind 0x5CB1 r k) s (fun t => flash first 3 t
            ∧ rngSlot t r = d ∧ getf t (F.SCR_RNG_CTL_KSLOT r) = k.val ∧ getf t (F.SCR_RNG_TAG_TAG_FIRST r) = first
            ∧ getf t (F.SCR_RNG_TAG_TAG_SPAN r) = n ∧ rngState t r = 0)))
      ∧ (depotUsable s = true → rngState s r = 1 → tapOwns s = false → depotIdle s → ∀ k0 l, spanGood s (rngSlot s r) = k0 :: l → fresh k0 →
        (kst = 1 → getf s (F.SCR_RNG_CTL_KSLOT r) ≠ k.val → Does (.rekey 0x5CB1 r k) s (fun t => flash k0 4 t ∧ rngState t r = 2
          ∧ getf t (F.SCR_RNG_CTL_KSLOT r) = k.val ∧ getf t (F.SCR_RNG_CTL_OLD_KSLOT r) = getf s (F.SCR_RNG_CTL_KSLOT r) ∧ rngProg t r = 0
          ∧ getf t (F.SCR_KSLOT_STATE k) = 2 ∧ getf t (F.SCR_KSLOT_RANGE k) = r.val
          ∧ getf t (F.SCR_KSLOT_STATE (getf s (F.SCR_RNG_CTL_KSLOT r))) = 3))
        ∧ Does (.erase 0x5CB1 r un) s (fun t => flash k0 5 t ∧ rngState t r = 4 ∧ bit t.scrUnbind r = un))))

/-- O42. The key sequence arms one opcode, and the trigger's write checks it and starts the command. The keys 0xA55A and 0x5AA5 open the
sequence for the master that began it, NVA_CMD arms an opcode, the trigger's write uses it up; a wrong key, a lapse or a command at the
wrong time closes it with CMD_ERR 1. The other master's writes are ignored and counted. A trigger whose opcode is not armed only stores its
word. A program or erase that a check of Table 8-5 refuses shows its code and starts nothing; else it runs, BUSY, and an erase counts in its
block. SUSPEND without an operation and RESUME without a suspended one show 0xB; a running operation is asked, an auto-suspended one is held
at once, a held one resumes. READ_COUNTER shows the block's count. WP_SET and WP_CLR set and clear protect bits; after WP_LOCK a clear is
denied with its event. -/
def Obligations.NvaSequenceAndTriggers : Prop := ∀ (s : State) (m : Master) (v : W32), away s 9 = false →
  let seq := getf s F.NVA_STAT_SEQ
  let triggers : List (Instr × Nat × Nat) := [(.programLine m v, R.NVA_DATA 3, 1), (.programPage m v, R.NVA_ADDR, 2), (.eraseSector m v, R.NVA_ADDR, 3),
    (.eraseBlock m v, R.NVA_ADDR, 4), (.suspend m v, R.NVA_ADDR, 5), (.resume m v, R.NVA_ADDR, 6), (.readCounter m v, R.NVA_ADDR, 7)]
  let closed (t : State) : Prop := getf t F.NVA_STAT_SEQ = 0 ∧ getf t F.NVA_STAT_CMD_ERR = 1 ∧ t = { s with regs := t.regs }
  let denied (e : Nat) (t : State) : Prop := getf t F.NVA_STAT_SEQ = 0 ∧ getf t F.NVA_STAT_CMD_ERR = e ∧ t = { s with regs := t.regs }
  let runs (x : NvOp) (t : State) : Prop := t.nva.run = some x ∧ isSet t F.NVA_STAT_BUSY = true ∧ getf t F.NVA_STAT_CMD_ERR = 0
    ∧ getf t F.NVA_STAT_SEQ = 0 ∧ t.nva.below = (if s.nva.run.isSome then s.nva.run else s.nva.below)
  (nvForeign s m = true → (∀ i ∈ [Instr.nvaKey m v, .nvaCmd m v] ++ triggers.map (·.1), Does i s (fun t => t = { s with regs := t.regs }
      ∧ getf t F.NVA_EVT_CNT_CONFLICT = min 65535 (getf s F.NVA_EVT_CNT_CONFLICT + 1) ∧ ∀ a, a ≠ R.NVA_EVT_CNT → rd t a = rd s a)))
  ∧ (nvForeign s m = false →
    (seq = 0 → v = 0xA55A#32 → Does (.nvaKey m v) s (fun t => getf t F.NVA_STAT_SEQ = 1 ∧ isSet t F.NVA_STAT_OWNER = (m == .kite)
        ∧ t = { s with regs := t.regs }))
    ∧ (seq = 0 → v ≠ 0xA55A#32 → exec (.nvaKey m v) s = .next s)
    ∧ (seq = 1 → v = 0x5AA5#32 → Does (.nvaKey m v) s (fun t => getf t F.NVA_STAT_SEQ = 2 ∧ t = { s with regs := t.regs }))
    ∧ ((seq = 1 ∧ v ≠ 0x5AA5#32) ∨ 2 ≤ seq → Does (.nvaKey m v) s closed)
    ∧ (seq = 1 → Does (.nvaCmd m v) s closed)
    ∧ (seq = 2 → Does (.nvaCmd m v) s (fun t => getf t F.NVA_STAT_SEQ = 3 ∧ t.nva = { s.nva with cmd := v.toNat }))
    ∧ (seq ≠ 0 → Does .nvaSeqLapse s closed)
    ∧ (∀ x ∈ triggers, seq ≠ 3 ∨ s.nva.cmd ≠ x.2.2 → Does x.1 s (fun t => t = wr s x.2.1 v))
    ∧ (seq = 3 →
      (s.nva.cmd = 1 → let a := (rd s R.NVA_ADDR).toNat
        (∀ e, nvCheck s 1 a = some e → Does (.programLine m v) s (denied e))
        ∧ (nvCheck s 1 a = none → lineErased s a = false → Does (.programLine m v) s (fun t => denied 7 t ∧ isSet t F.NVA_STAT_DONE = true))
        ∧ (nvCheck s 1 a = none → lineErased s a = true → Does (.programLine m v) s
            (runs { code := 1, addr := a, data := wordsBytes [rd s (R.NVA_DATA 0), rd s (R.NVA_DATA 1), rd s (R.NVA_DATA 2), v] })))
      ∧ (s.nva.cmd = 2 → let ok := pageSrcOk (rd s R.NVA_PAGE_SRC).toNat
        (∀ e, nvCheck s 2 v.toNat = some e → Does (.programPage m v) s (denied e))
        ∧ (nvCheck s 2 v.toNat = none → ok = false → Does (.programPage m v) s (denied 0xC))
        ∧ (nvCheck s 2 v.toNat = none → ok = true → Does (.programPage m v) s (runs { code := 2, addr := v.toNat, latch := true })))
      ∧ (∀ x ∈ [(Instr.eraseSector m v, 3), (.eraseBlock m v, 4)], s.nva.cmd = x.2 →
        (∀ e, nvCheck s x.2 v.toNat = some e → Does x.1 s (denied e))
        ∧ (nvCheck s x.2 v.toNat = none → Does x.1 s (fun t => runs { code := x.2, addr := v.toNat } t ∧ t.nva.began = some s.clk
          ∧ getf t (F.NVA_ECNT_COUNT (v.toNat / 65536)) = min (2 ^ 32 - 1) (getf s (F.NVA_ECNT_COUNT (v.toNat / 65536)) + 1)
          ∧ ∀ a, a / 4096 ∉ nvSectors { code := x.2, addr := v.toNat } → nvByte t a = nvByte s a)))
      ∧ (s.nva.cmd = 5 →
        (s.nva.run = none → Does (.suspend m v) s (denied 0xB))
        ∧ (s.nva.run ≠ none → s.nva.susp = 0 → Does (.suspend m v) s (fun t => t.nva = { s.nva with req := 2 } ∧ getf t F.NVA_STAT_CMD_ERR = 0))
        ∧ (s.nva.run ≠ none → s.nva.susp = 1 → Does (.suspend m v) s (fun t => t.nva = { s.nva with susp := 2 } ∧ isSet t F.NVA_STAT_DONE = true
            ∧ isSet t F.NVA_STAT_BY = true ∧ isSet t F.NVA_STAT_SUSP = true)))
      ∧ (s.nva.cmd = 6 →
        (s.nva.run = none ∨ s.nva.susp ≠ 2 → Does (.resume m v) s (denied 0xB))
        ∧ (s.nva.run ≠ none → s.nva.susp = 2 → s.nva.below ≠ none → Does (.resume m v) s (denied 6))
        ∧ (s.nva.run ≠ none → s.nva.susp = 2 → s.nva.below = none → Does (.resume m v) s (fun t =>
          t.nva = { s.nva with susp := 0, resumed := true, guard := 0 } ∧ isSet t F.NVA_STAT_DONE = true ∧ isSet t F.NVA_STAT_SUSP = false)))
      ∧ (s.nva.cmd = 7 →
        (127 < v.toNat → Does (.readCounter m v) s (denied 4))
        ∧ (v.toNat ≤ 127 → s.nva.run ≠ none → Does (.readCounter m v) s (denied 6))
        ∧ (v.toNat ≤ 127 → s.nva.run = none → Does (.readCounter m v) s (fun t => denied 0 t ∧ isSet t F.NVA_STAT_DONE = true
          ∧ rd t (R.NVA_DATA 0) = rd s (R.NVA_ECNT v.toNat))))))
  ∧ (∀ i : Fin 64, Does (.nvaWpSet i v) s (fun t => t = wr s (R.NVA_WP_SET i) (rd s (R.NVA_WP_SET i) ||| v))
    ∧ (isSet s F.NVA_WP_LOCK_LOCK = false → Does (.nvaWpClr i v) s (fun t => t = wr s (R.NVA_WP_SET i) (rd s (R.NVA_WP_SET i) &&& ~~~v)))
    ∧ (isSet s F.NVA_WP_LOCK_LOCK = true → v ≠ 0#32 → Does (.nvaWpClr i v) s (fun t => isSet t F.NVA_EVT_WP_CLR_DENIED = true
        ∧ t = { s with regs := t.regs } ∧ ∀ a, a ≠ R.NVA_EVT → rd t a = rd s a)))
  ∧ Does .nvaWpLock s (fun t => isSet t F.NVA_WP_LOCK_LOCK = true ∧ t = { s with regs := t.regs } ∧ ∀ a, a ≠ R.NVA_WP_LOCK → rd t a = rd s a)

/-- O43. Programs and erases end, suspend and resume, and the array is read and scrubbed. A page latch takes its 256 bytes from the bank, or
ends with CMD_ERR 0xC. A program that ends stores its bytes in erased lines; a line that fails its verify ends it with CMD_ERR 0xA after the
lines before it. A pulse counts to 480. An erase that ends leaves its sectors 0xFF, or marks them incomplete with CMD_ERR 0xA. A suspend
that is asked takes effect and counts; an auto-suspended operation resumes. A line read by a socket is answered, with an error where it is
uncorrectable; one in the block of a running operation asks for a suspend. Margin reads go on line by line and queue weak ones; a refresh
takes one. NVA_PROG and NVA_ERASE put their first unit on the engine, NVA_READ delivers the array's bytes; each refuses what its checks
refuse. -/
def Obligations.NvaEngineWork : Prop := ∀ (s : State),
  (∀ x : NvOp, s.nva.run = some x → s.nva.below = none →
    (x.latch = true → let a := (rd s R.NVA_PAGE_SRC).toNat
      (a + 256 ≤ 0x800000 → (∀ i < 256, accessErr s (a + i) false = none) → Does .nvaPageLatchLoaded s (fun t =>
        t = { s with nva := { s.nva with run := some { x with data := (List.range 256).map (fun i => memByte s (a + i)), latch := false } } }))
      ∧ (∀ e, accessErr s a false = some e → Does .nvaPageLatchLoaded s (fun t => t.nva.run = none ∧ getf t F.NVA_STAT_CMD_ERR = 0xC
        ∧ isSet t F.NVA_STAT_DONE = true ∧ isSet t F.NVA_STAT_BUSY = false ∧ t.nv = s.nv)))
    ∧ (s.nva.susp = 0 → x.desc = none →
      (x.code ≤ 2 → x.latch = false → x.data.length = (if x.code = 2 then 256 else 16) → (∀ i < x.data.length, nvByte s (x.addr + i) = 0xFF#8) →
        let wrote (n : Nat) (t : State) : Prop := t.nva.run = none ∧ isSet t F.NVA_STAT_DONE = true ∧ isSet t F.NVA_STAT_BUSY = false
          ∧ ∀ a, ¬(x.addr + n ≤ a ∧ a < x.addr + n + 16 ∧ n < x.data.length) →
              nvByte t a = if x.addr ≤ a ∧ a < x.addr + n then x.data.getD (a - x.addr) 0#8 else nvByte s a
        Does (.nvaProgramDone none) s (fun t => wrote x.data.length t ∧ getf t F.NVA_STAT_CMD_ERR = 0)
        ∧ (∀ k : Fin 16, 16 * k.val < x.data.length → Does (.nvaProgramDone (some k)) s (fun t => wrote (16 * k) t ∧ getf t F.NVA_STAT_CMD_ERR = 0xA)))
      ∧ (3 ≤ x.code →
        Does .nvaErasePulse s (fun t => getf t F.NVA_ERASE_SUSP_PULSES = min 480 (getf s F.NVA_ERASE_SUSP_PULSES + 1)
          ∧ t.nva = { s.nva with guard := s.nva.guard + 1 } ∧ t.nv = s.nv)
        ∧ (x.code ≤ 4 → Does (.nvaEraseDone true) s (fun t => t.nva.run = none ∧ isSet t F.NVA_STAT_DONE = true ∧ getf t F.NVA_STAT_CMD_ERR = 0
          ∧ (∀ k ∈ nvSectors x, k ∉ t.nvIncomplete) ∧ ∀ a, nvByte t a = if a / 4096 ∈ nvSectors x then 0xFF#8 else nvByte s a))
        ∧ Does (.nvaEraseDone false) s (fun t => t.nva.run = none ∧ isSet t F.NVA_STAT_DONE = true ∧ getf t F.NVA_STAT_CMD_ERR = 0xA
          ∧ isSet t F.NVA_EVT_INCOMPLETE = true ∧ (∀ k ∈ nvSectors x, k ∈ t.nvIncomplete) ∧ t.nv = s.nv)))
    ∧ (∀ cut : Bool, s.nva.req ≠ 0 → s.nva.susp = 0 → guardOk s x = true → Does (.nvaSuspendEffect cut) s (fun t =>
      t.nva = { s.nva with susp := s.nva.req, req := 0 } ∧ isSet t F.NVA_STAT_SUSP = true ∧ (s.nva.req = 2 → isSet t F.NVA_STAT_DONE = true)
      ∧ (3 ≤ x.code → getf t F.NVA_ERASE_SUSP_SUSPENDS = min 65535 (getf s F.NVA_ERASE_SUSP_SUSPENDS + 1)
          ∧ getf t F.NVA_ERASE_SUSP_REPEATS = min 127 (getf s F.NVA_ERASE_SUSP_REPEATS + b2n cut))))
    ∧ (s.nva.susp = 1 → Does .nvaAutoResume s (fun t => t.nva = { s.nva with susp := 0, resumed := true, guard := 0 } ∧ isSet t F.NVA_STAT_SUSP = false)))
  ∧ (∀ (m : Nat) (l : Fin 524288), away s 9 = false → 32 ≤ m →
    (nvWaits s l = false → Does (.nvLineRead m l 0 false false) s (fun t => t.nv = s.nv ∧ t.nva = s.nva
      ∧ t.out = s.out ++ [.socket (m - 32) 0 ((List.range 16).map (fun i => nvRead s (16 * l.val + i)))]))
    ∧ (nvWaits s l = false → Does (.nvLineRead m l 2 false false) s (fun t => .socket (m - 32) 1 [] ∈ t.out ∧ t.nv = s.nv
      ∧ isSet t F.NVA_EVT_UNCORR = true ∧ getf t F.NVA_ECC_UNCORR = min 65535 (getf s F.NVA_ECC_UNCORR + 1)))
    ∧ (∀ x, nvWaits s l = true → s.nva.run = some x → 3 ≤ x.code → s.nva.below = none → s.nva.req = 0 →
      Does (.nvLineRead m l 0 false false) s (fun t => t = { s with nva := { s.nva with req := 1 } })))
  ∧ (nvScrubOn s = true →
    let next := if s.nva.line + 1 = 524288 then 0 else s.nva.line + 1
    (∀ w : Bool, ∀ i ∈ [Instr.nvScrubMarginRead w, .nvScrubStarve false w], Does i s (fun t => t.nva.line = next ∧ t.nv = s.nv ∧ t.mem = s.mem
      ∧ (w = true → scrubLineOk s s.nva.line = true → s.nva.weak.length < 16 → s.nva.line ∈ t.nva.weak) ∧ (w = false → t.nva.weak = s.nva.weak)))
    ∧ (∀ l r, s.nva.weak = l :: r → s.nva.run = none → ∀ i ∈ [Instr.nvScrubRefresh, .nvScrubStarve true false], Does i s (fun t => t.nva.weak = r
      ∧ t.nv = s.nv ∧ getf t F.NVA_SCRUB_STAT_REFRESHED = min 255 (getf s F.NVA_SCRUB_STAT_REFRESHED + 1))))
  ∧ (∀ (tag : Nat) (o : Op) (h : ReadEnd), nvTurn s tag 0x50 = some o → o.prog = 0 →
    let a := nvOff o
    let n := dLength o.words
    let u := if a % 256 = 0 ∧ 256 ≤ n then (2, 256) else (1, 16)
    (0x800000 < a + n ∨ 65536 < a % 65536 + n → EndsOp (.nvaProg tag h) s o ⟨0x11, 0#32, 0#32⟩)
    ∧ (a + n ≤ 0x800000 → a % 65536 + n ≤ 65536 →
      (a % 16 ≠ 0 → EndsOp (.nvaProg tag h) s o ⟨0x14, 0#32, 3#32⟩)
      ∧ (a % 16 = 0 → 0 < n → nvDspace o = false → ∀ d : List Byte, h = .ok d → d.length = n →
        (∀ e, nvCheck s u.1 a = some e → Does (.nvaProg tag h) s (fun t => retOf t tag = some ⟨nvStatus e, 0#32, w32 e⟩ ∧ t.nva = s.nva))
        ∧ (nvCheck s u.1 a = none → lineErased s a = true → Does (.nvaProg tag h) s (fun t =>
          t.nva.run = some { code := u.1, addr := a, data := d.take u.2, desc := some tag } ∧ isSet t F.NVA_STAT_BUSY = true ∧ t.nv = s.nv)))))
  ∧ (∀ (tag : Nat) (o : Op), nvTurn s tag 0x51 = some o → o.prog = 0 →
    let code := if opFld o 7 1 1 = 1 then 4 else 3
    (nvOff o % nvUnit code ≠ 0 → EndsOp (.nvaErase tag) s o ⟨0x14, 0#32, 3#32⟩)
    ∧ (nvOff o % nvUnit code = 0 →
      (0x800000 < nvOff o + nvUnit code * dLength o.words → EndsOp (.nvaErase tag) s o ⟨0x11, 0#32, 0#32⟩)
      ∧ (nvOff o + nvUnit code * dLength o.words ≤ 0x800000 → 0 < dLength o.words →
        (∀ e, nvCheck s code (nvOff o) = some e → Does (.nvaErase tag) s (fun t => retOf t tag = some ⟨nvStatus e, 0#32, w32 e⟩ ∧ t.nva = s.nva))
        ∧ (nvCheck s code (nvOff o) = none → Does (.nvaErase tag) s (fun t =>
          t.nva.run = some { code := code, addr := nvOff o, desc := some tag } ∧ isSet t F.NVA_STAT_BUSY = true
          ∧ getf t (F.NVA_ECNT_COUNT (nvOff o / 65536)) = min (2 ^ 32 - 1) (getf s (F.NVA_ECNT_COUNT (nvOff o / 65536)) + 1))))))
  ∧ (∀ (tag : Nat) (o : Op), opOf s tag = some o → opcodeOf o = 0x52 → o.fwd = false → o.ret = none → away s 9 = false → noRegDue s →
    let a := nvOff o
    let n := dLength o.words
    let bs := (List.range n).map (fun i => nvRead s (a + i))
    (0x800000 < a + n → EndsOp (.nvaRead tag [] none) s o ⟨0x11, 0#32, 0#32⟩)
    ∧ (a + n ≤ 0x800000 → (nvLines a n).find? (nvWaits s) = none →
      (xoLines s a n = [] → nvDspace o = true → bankWritable s (d64 o.words 4) n → Does (.nvaRead tag [] none) s (fun t =>
        BankHas s t (d64 o.words 4) bs ∧ retOf t tag = some ⟨0, w32 n, 0#32⟩))
      ∧ (∀ l r, xoLines s a n = l :: r → nvDspace o = false → hostReach s = true → isMember s = false → Does (.nvaRead tag [] none) s (fun t =>
        .hostWrite (d64 o.words 4) bs ∈ t.out ∧ isSet t F.NVA_EVT_XO = true ∧ retOf t tag = some ⟨0x22, w32 n, w32 (16 * l)⟩))))

/-- O44. Kite fetches from the banks, computes, branches, loads, stores and traps as RV32IM in machine mode. With the core running, no
interrupt to take and the pc at a readable instruction in BANK0 or BANK1, KITE_INSTRUCTION retires it: arithmetic writes its result to the
destination register and no other, LUI, AUIPC, JAL and JALR likewise with their pc, a branch moves the pc only. An aligned word load from
the banks reads its four bytes, and an aligned word store writes exactly its four bytes. A misaligned word access traps with cause 4 or 6
and its address in mtval, ECALL traps with cause 11, and MRET returns to mepc with MIE from MPIE. The retired-instruction and cycle counters
advance. An enabled external, software or timer interrupt is taken instead of the instruction, and MTIMER_INTERRUPT takes the timer's. Only
Kite's own state changes, but for the bytes stored. -/
def Obligations.KiteRunsInstructions : Prop := ∀ (s : State) (turns : Nat) (fe le : Fin 3) (ans : List W32),
  (kiteFree s = true →
    let run (P : State → Prop) : Prop := Does (.kiteInstruction turns fe le ans) s (fun t => P t ∧ t = { s with kite := t.kite })
    let pc := s.kite.pc
    (∀ op d a b, kiteAt s (.alu op d a b) → run (fun t => KiteRetired s t turns d (aluRun op (kx s a) (kx s b)) (pc + 4#32)))
    ∧ (∀ op d a v, kiteAt s (.aluImm op d a v) → run (fun t => KiteRetired s t turns d (aluRun op (kx s a) v) (pc + 4#32)))
    ∧ (∀ d v, kiteAt s (.lui d v) → run (fun t => KiteRetired s t turns d v (pc + 4#32)))
    ∧ (∀ d v, kiteAt s (.auipc d v) → run (fun t => KiteRetired s t turns d (pc + v) (pc + 4#32)))
    ∧ (∀ d off, kiteAt s (.jal d off) → run (fun t => KiteRetired s t turns d (pc + 4#32) (pc + off)))
    ∧ (∀ d a off, kiteAt s (.jalr d a off) → run (fun t => KiteRetired s t turns d (pc + 4#32) ((kx s a + off) &&& 0xFFFFFFFE#32)))
    ∧ (∀ f a b off, kiteAt s (.branch f a b off) → run (fun t =>
        KiteRetired s t turns 0 0#32 (if branchTaken f (kx s a) (kx s b) then pc + off else pc + 4#32)))
    ∧ (∀ d a off, kiteAt s (.load 2 d a off) → let x := (kx s a + off).toNat
        (x % 4 = 0 → x < 0x800000 → (∀ i < 4, accessErr s (x + i) false = none) → run (fun t =>
          KiteRetired s t turns d (w32 (leNat ((List.range 4).map (fun i => memByte s (x + i))))) (pc + 4#32)))
        ∧ (x % 4 ≠ 0 → run (fun t => KiteTrapped s t 4#32 (s.kite.mtvec &&& 0xFFFFFFFC#32) ∧ t.kite.mtval = kx s a + off)))
    ∧ (∀ a b off, kiteAt s (.store 2 a b off) → let x := (kx s a + off).toNat
        (x % 4 = 0 → bankWritable s x 4 → Does (.kiteInstruction turns fe le ans) s (fun t =>
          KiteRetired s t turns 0 0#32 (pc + 4#32) ∧ BankHas s t x (leBytes 4 (kx s b).toNat)
          ∧ t = { s with kite := t.kite, mem := t.mem }))
        ∧ (x % 4 ≠ 0 → run (fun t => KiteTrapped s t 6#32 (s.kite.mtvec &&& 0xFFFFFFFC#32) ∧ t.kite.mtval = kx s a + off)))
    ∧ (kiteAt s .ecall → run (fun t => KiteTrapped s t 11#32 (s.kite.mtvec &&& 0xFFFFFFFC#32)))
    ∧ (kiteAt s .mret → run (fun t => t.kite.pc = s.kite.mepc ∧ t.kite.mie = s.kite.mpie ∧ t.kite.mpie = true ∧ t.kite.x = s.kite.x)))
  ∧ (∀ c, kiteRuns s = true → kpending s = some c → s.kite.mie = true → Does (.kiteInstruction turns fe le ans) s (fun t =>
      KiteTrapped s t (w32 (2 ^ 31 + c)) ((s.kite.mtvec &&& 0xFFFFFFFC#32) + if s.kite.mtvec.getLsbD 0 then w32 (4 * c) else 0#32)
      ∧ t = { s with kite := t.kite }))
  ∧ (kiteRuns s = true → timerDue s = true → s.kite.mie = true → kpending s = some 7 → Does .mtimerInterrupt s (fun t =>
      KiteTrapped s t 0x80000007#32 ((s.kite.mtvec &&& 0xFFFFFFFC#32) + if s.kite.mtvec.getLsbD 0 then 28#32 else 0#32)
      ∧ t = { s with kite := t.kite }))
  ∧ (kiteRuns s = false → exec (.kiteInstruction turns fe le ans) s = .next s ∧ exec .mtimerInterrupt s = .next s)

/-- O45. The mailbox channels carry one message each way, and Kite answers PING, INFO, CHECK and POLICY_APPLY. SEND on a free channel sets
FULL and the receiver's event; on a full one it only counts in DROPS. DONE clears FULL; on K2H it also sets Kite's event and lets the oldest
reply that waited go. When H2K holds a command that Kite serves and K2H is free, PING, INFO and POLICY_APPLY clear FULL of H2K and put their
reply with the command, its tag, its length and status 0 into K2H; POLICY_APPLY takes KIT_POLICY. CHECK takes the message, remembers its tag
and, where the engine is idle, starts the check of the region named. -/
def Obligations.KiteMailbox : Prop := ∀ (s : State),
  (regAway s R.KIT_MBX_H2K_CTL = false →
    (isSet s F.KIT_MBX_H2K_CTL_FULL = true → Does .mbxH2kSend s (fun t =>
      getf t F.KIT_MBX_H2K_CTL_DROPS = min (2 ^ F.KIT_MBX_H2K_CTL_DROPS.width - 1) (getf s F.KIT_MBX_H2K_CTL_DROPS + 1)
      ∧ isSet t F.KIT_MBX_H2K_CTL_FULL = true ∧ ∀ r, r ≠ R.KIT_MBX_H2K_CTL → rd t r = rd s r))
    ∧ (isSet s F.KIT_MBX_H2K_CTL_FULL = false → (getf s F.KIT_STAT_MODE ≠ 2 ∨ 1 ≤ h2kCmd s ∧ h2kCmd s ≤ 4) → Does .mbxH2kSend s (fun t =>
      isSet t F.KIT_MBX_H2K_CTL_FULL = true ∧ bit (rd t R.KIT_IRQ_PEND).toNat 1 = true
      ∧ ∀ r, r ≠ R.KIT_MBX_H2K_CTL → r ≠ R.KIT_IRQ_PEND → rd t r = rd s r))
    ∧ Does .mbxH2kDone s (fun t => isSet t F.KIT_MBX_H2K_CTL_FULL = false ∧ ∀ r, r ≠ R.KIT_MBX_H2K_CTL → rd t r = rd s r))
  ∧ (regAway s R.KIT_MBX_K2H_CTL = false →
    (isSet s F.KIT_MBX_K2H_CTL_FULL = true → Does .mbxK2hSend s (fun t =>
      getf t F.KIT_MBX_K2H_CTL_DROPS = min (2 ^ F.KIT_MBX_K2H_CTL_DROPS.width - 1) (getf s F.KIT_MBX_K2H_CTL_DROPS + 1)
      ∧ ∀ r, r ≠ R.KIT_MBX_K2H_CTL → rd t r = rd s r))
    ∧ (isSet s F.KIT_MBX_K2H_CTL_FULL = false → Does .mbxK2hSend s (fun t =>
      isSet t F.KIT_MBX_K2H_CTL_FULL = true ∧ evtPending t 2 = true))
    ∧ (isSet s F.KIT_MBX_K2H_CTL_FULL = true →
      (s.kite.replies = [] → Does .mbxK2hDone s (fun t => isSet t F.KIT_MBX_K2H_CTL_FULL = false ∧ bit (rd t R.KIT_IRQ_PEND).toNat 2 = true))
      ∧ ∀ ws r, s.kite.replies = ws :: r → Does .mbxK2hDone s (fun t => isSet t F.KIT_MBX_K2H_CTL_FULL = true ∧ t.kite.replies = r
          ∧ ∀ i : Fin 16, rd t (R.KIT_MBX_K2H_W i) = ws.getD i 0#32)))
  ∧ (isSet s F.KIT_MBX_K2H_CTL_FULL = false →
    let replied (n : Nat) (ws : List W32) (t : State) : Prop := isSet t F.KIT_MBX_H2K_CTL_FULL = false ∧ isSet t F.KIT_MBX_K2H_CTL_FULL = true
      ∧ rd t (R.KIT_MBX_K2H_W 0) = replyHead n (h2kTag s) ws.length 0 ∧ ∀ i : Fin 15, rd t (R.KIT_MBX_K2H_W (i.val + 1)) = ws.getD i 0#32
    (serves s 1 = true → Does .ping s (replied 1
      [w32 (getf s F.KIT_ROM_VER_VER + (if getf s F.KIT_STAT_MODE = 2 then 0 else getf s F.KIT_STAT_VERSION) * 2 ^ 16)]))
    ∧ (serves s 2 = true → Does .info s (replied 2 [rd s R.KIT_STAT, rd s R.CFG_BOOT_LOG, rd s (R.KIT_FWH 1), rd s R.KIT_CTXS]))
    ∧ (serves s 4 = true → Does .policyApply s (fun t => replied 4 [rd s R.KIT_POLICY] t ∧ t.kite.policy = rd s R.KIT_POLICY)))
  ∧ (serves s 3 = true → s.kite.chkTag = none → s.kite.chk = none → Does .check s (fun t =>
      t.kite.chkTag = some (h2kTag s) ∧ t.kite.chk = some (extractBits (rd s (R.KIT_MBX_H2K_W 1)) 0 2)
      ∧ isSet t F.KIT_MBX_H2K_CTL_FULL = false ∧ isSet t F.KIT_FW_CHK_BUSY = true))

/-- O46. Firmware checks, the watchdog, the software interrupt and the nightly duties of Kite. FW_CHECK_START of an idle engine starts the
check of its region with BUSY set and the verdict clear; one that is busy ignores it. FW_CHECK_DONE reports DONE, PASS and the FAIL code of
the verdict, and goes on with the boot ROM when the ROM asked. WDT_ENABLE sets EN and starts the count once; the key 0x5EED from Kite
restarts it while enabled, and any other write of the key does nothing. KIT_MSIP stores its bit. NIGHTLY_DUE and WEAR_SUMMARY_DUE do nothing
unless the firmware runs with the duty's policy bit; with it, and no march or test to run, nothing is submitted, and the wear summary's
words go to the buffer. -/
def Obligations.KiteServices : Prop := ∀ (s : State),
  (∀ e : Fin 4, regAway s R.KIT_FW_CHK = false →
    (s.kite.chk = none → Does (.fwCheckStart e) s (fun t => t.kite.chk = some e.val ∧ t.kite.romChk = false
      ∧ isSet t F.KIT_FW_CHK_BUSY = true ∧ isSet t F.KIT_FW_CHK_DONE = false ∧ isSet t F.KIT_FW_CHK_PASS = false
      ∧ getf t F.KIT_FW_CHK_FAIL = 0 ∧ getf t F.KIT_FW_CHK_REGION = e.val ∧ ∀ r, r ≠ R.KIT_FW_CHK → rd t r = rd s r))
    ∧ (s.kite.chk ≠ none → exec (.fwCheckStart e) s = .next s))
  ∧ (∀ e, s.kite.chk = some e → s.kite.chkTag = none → s.kite.romChk = false → Does .fwCheckDone s (fun t =>
      t.kite.chk = none ∧ isSet t F.KIT_FW_CHK_BUSY = false ∧ isSet t F.KIT_FW_CHK_DONE = true
      ∧ isSet t F.KIT_FW_CHK_PASS = decide (fwVerdict s e = 0) ∧ getf t F.KIT_FW_CHK_FAIL = fwVerdict s e
      ∧ (fwVerdict s e ≠ 1 → ∀ i : Fin 6, rd t (R.KIT_FWH i) = fwWord s e i)))
  ∧ (∀ e, s.kite.chk = some e → s.kite.chkTag = none → s.kite.romChk = true → fwVerdict s e = 0 → Does .fwCheckDone s (fun t =>
      getf t F.KIT_STAT_MODE = 1 ∧ isSet t F.KIT_WDT_CTL_EN = true ∧ t.kite.wdtFrom = s.clk
      ∧ t.kite.pc = w32 (0x10000000 + (xoSpan s e).1 + (fwWord s e 3).toNat) ∧ t.kite.icache = []
      ∧ kx t 10 = w32 e ∧ kx t 11 = fwWord s e 2))
  ∧ (regAway s R.KIT_WDT_CTL = false →
      (isSet s F.KIT_WDT_CTL_EN = false → Does .wdtEnable s (fun t => isSet t F.KIT_WDT_CTL_EN = true ∧ isSet t F.KIT_STAT_WDT_EN = true
        ∧ t.kite.wdtFrom = s.clk ∧ ∀ r, r ≠ R.KIT_WDT_CTL → r ≠ R.KIT_STAT → rd t r = rd s r))
      ∧ (isSet s F.KIT_WDT_CTL_EN = true → exec .wdtEnable s = .next s))
  ∧ (regAway s R.KIT_WDT_SVC = false → isSet s F.KIT_WDT_CTL_EN = true →
      exec (.wdtService .kite 0x5EED) s = .next { s with kite := { s.kite with wdtFrom := s.clk } })
  ∧ (∀ m key, m = .host ∨ key ≠ 0x5EED → exec (.wdtService m key) s = .next s)
  ∧ (∀ on, regAway s R.KIT_MSIP = false → Does (.kitMsip on) s (fun t => isSet t F.KIT_MSIP_MSIP = on
      ∧ t = { s with regs := t.regs } ∧ ∀ r, r ≠ R.KIT_MSIP → rd t r = rd s r))
  ∧ (∀ l, duty s 5 = false → exec (.nightlyDue l) s = .next s)
  ∧ (∀ c n, duty s 5 = true → kiteCtx s = some c → ((List.range 8).filter (fun n => (bank s n).st == 1) = [n]) →
      (getf s (F.CTX_SQ_IDX_SQ_PI c) + 1) % sqSize s c ≠ getf s (F.CTX_SQ_IDX_SQ_CI c) → Does (.nightlyDue []) s (fun t =>
        getf t (F.CTX_SQ_IDX_SQ_PI c) = (getf s (F.CTX_SQ_IDX_SQ_PI c) + 1) % sqSize s c % 65536
        ∧ BankHas s t (sqBase s c + 64 * getf s (F.CTX_SQ_IDX_SQ_PI c))
            (wordsBytes ([0x90#32, 0#32, 0#32, 0#32, w32 (n + 16)] ++ List.replicate 11 0#32))))
  ∧ (∀ b h k q n, duty s 1 = false → exec (.wearSummaryDue b h k q n) s = .next s)
  ∧ (∀ (b : Fin 0x200000) h k q n c, duty s 1 = true → kiteCtx s = some c →
      (getf s (F.CTX_SQ_IDX_SQ_PI c) + 1) % sqSize s c = getf s (F.CTX_SQ_IDX_SQ_CI c) → Does (.wearSummaryDue b h k q n) s (fun t =>
        BankHas s t (b.val / 4 * 4) (wordsBytes (wearWords s h k q n)) ∧ t = { s with mem := t.mem }))

/-- O47. Trim windows and alert steps move the taps, pace gates update the pace, and islands lose and regain lock. A due window takes
FAB_TRIM_CTL, and begins unless periodic trim is off, trim is suspended or the personality defers it; a deferred one begins when the
deferral falls or expires, which counts as FORCED. A step in a window moves the tap of a powered region by −1, 0 or +1. A drift alert sets
its bit, counts, and steps outside windows until the drift is below 1 %. At a gate's end a powered region's NOW is its count over 100 with
VALID and MIN falls to it; without TI11 or power NOW is 0 without VALID and MIN stays. FAB_PACE_CLR restarts MIN. An island that loses lock
sets its event, clears its lock bit and stops its clock; island 11 also clears every pace. A relock sets the bit and a user island's clock
runs again. -/
def Obligations.FabricTrimAndPace : Prop := ∀ (s : State),
  let took (d : Bool) : Fab := { s.fab with trimCtl := rd s R.FAB_TRIM_CTL, defer := d }
  let begun (f : Fab) (t : State) : Prop := t.fab = { f with trim := 2, steps := [] }
    ∧ getf t F.FAB_TRIM_STAT_WINDOWS = min 65535 (getf s F.FAB_TRIM_STAT_WINDOWS + 1)
  let open_ : Bool := decide (s.fab.trim = 1) && !trimSuspended s
  (∀ d : Bool,
    (isSet s F.FAB_TRIM_CTL_TRIM_EN = false ∨ trimSuspended s = true → exec (.trimWindowDue d) s = .next { s with fab := took d })
    ∧ (isSet s F.FAB_TRIM_CTL_TRIM_EN = true → trimSuspended s = false →
      ((d && isSet s F.FAB_TRIM_CTL_DEFER_EN) = true → exec (.trimWindowDue d) s = .next { s with fab := { took d with trim := 1 } })
      ∧ ((d && isSet s F.FAB_TRIM_CTL_DEFER_EN) = false → Does (.trimWindowDue d) s (begun (took d)))))
  ∧ (open_ = true → Does .trimDeferFall s (begun { s.fab with defer := false })
    ∧ Does .trimMaxdeferExpiry s (fun t => begun s.fab t ∧ getf t F.FAB_TRIM_STAT_FORCED = min 255 (getf s F.FAB_TRIM_STAT_FORCED + 1)))
  ∧ (open_ = false → exec .trimDeferFall s = .next { s with fab := { s.fab with defer := false } } ∧ exec .trimMaxdeferExpiry s = .next s)
  ∧ (∀ (r : Fin 16) (d : Fin 3) (b : Bool),
    let n := (sget r.val s.fab.steps).getD 0
    let moved (t : State) : Prop := (∀ q : Nat, (sget q t.fab.taps).getD 0#64 = (sget q s.fab.taps).getD 0#64 + if q = r.val then BitVec.ofNat 64 d.val - 1#64 else 0#64)
    (s.fab.trim = 2 → trimSuspended s = false → regionIsOn s r = true → (∀ q ∈ s.fab.steps, q.1 ≤ r.val) → n < max 1 (extractBits s.fab.trimCtl 12 4) →
      Does (.trimStep r d) s (fun t => moved t ∧ sget r.val t.fab.steps = some (n + 1) ∧ t.regs = s.regs))
    ∧ (trimSuspended s = false → regionIsOn s r = true →
      (bit s.fab.alerts r = false → Does (.driftAlert r d b) s (fun t => moved t ∧ bit t.fab.alerts r = !b ∧ bit (getf t F.FAB_TRIM_ALERT_ALERT) r = true
        ∧ getf t F.FAB_TRIM_STAT_ALERT_TRIMS = min 255 (getf s F.FAB_TRIM_STAT_ALERT_TRIMS + 1)))
      ∧ (bit s.fab.alerts r = true → Does (.alertTrimStep r d b) s (fun t => moved t ∧ bit t.fab.alerts r = !b ∧ t.regs = s.regs)))
    ∧ (trimSuspended s = true → ∀ i ∈ [Instr.trimStep r d, .driftAlert r d b, .alertTrimStep r d b], exec i s = .next s))
  ∧ (∀ c : List Nat, Does (.paceGateEnd c) s (fun t => ∀ r < 16, let v := min 0xFFF (c.getD r 0 / 100)
      if (ti11 s && regionIsOn s r) = true then getf t (F.FAB_PACE_NOW r) = v ∧ isSet t (F.FAB_PACE_VALID r) = true
        ∧ getf t (F.FAB_PACE_MIN r) = min (getf s (F.FAB_PACE_MIN r)) v
      else getf t (F.FAB_PACE_NOW r) = 0 ∧ isSet t (F.FAB_PACE_VALID r) = false ∧ getf t (F.FAB_PACE_MIN r) = getf s (F.FAB_PACE_MIN r)))
  ∧ (∀ m : BitVec 16, Does (.fabPaceClr m) s (fun t => ∀ r < 16, getf t (F.FAB_PACE_NOW r) = getf s (F.FAB_PACE_NOW r)
      ∧ getf t (F.FAB_PACE_MIN r) = if m.getLsbD r then 0xFFF else getf s (F.FAB_PACE_MIN r)))
  ∧ Does .fabGateOvfClear s (fun t => getf t F.FAB_GATE_OVF_COUNT = 0 ∧ getf t F.FAB_GATE_OVF_ISLAND = 0 ∧ ∀ a, a ≠ R.FAB_GATE_OVF → rd t a = rd s a)
  ∧ (∀ n : Fin 25, let l := getf s F.FAB_ISL_LOCK_LOCK
    (bit l n = false → exec (.islandLossOfLock n) s = .next s)
    ∧ (bit l n = true → Does (.islandLossOfLock n) s (fun t => bit (getf t F.FAB_ISL_LOL_LOL) n = true
      ∧ (∀ k < 25, bit (getf t F.FAB_ISL_LOCK_LOCK) k = (bit l k && k != n.val)) ∧ bit t.fab.clocks n = false
      ∧ (n.val = 11 → ∀ r < 16, getf t (F.FAB_PACE_NOW r) = 0 ∧ isSet t (F.FAB_PACE_VALID r) = false)))
    ∧ (islPowered s n = true → Does (.islandRelock n) s (fun t => (∀ k < 25, bit (getf t F.FAB_ISL_LOCK_LOCK) k = (bit l k || k == n.val))
      ∧ (14 ≤ n.val → bit t.fab.clocks n = true) ∧ t.out = s.out))
    ∧ (islPowered s n = false → exec (.islandRelock n) s = .next s))

/-- O48. Island gates keep their items in order, socket bursts reach the banks, and windows and calls are delivered and answered. A
clock-side write into a used gate with room adds its item last; a full gate keeps its items and counts the overflow with its island. The
handshake side takes the oldest item, and the same holds in the other direction while the island's clock runs. A static pin's level reaches
the fabric while its supply is good. A socket burst that is misaligned or crosses 256 bytes gets an error response and changes no memory;
one outside its reach also counts a hole; a write stores its beats and a read answers each beat with its 16 bytes. A window access is
delivered to the socket and answered or waits; while the fabric is away it is counted and reads 0; one that times out counts and reads all
ones. A FAB_CALL is delivered or refused with ENGINE_OFFLINE, and its answer ends it. -/
def Obligations.FabricPorts : Prop := ∀ (s : State),
  (∀ (n : Fin 11) (g : Fin 4) (v : BitVec 128),
    let k := 14 + n.val
    let items (t : State) (q : Nat) (l : List Nat) : Prop := (∀ j h, h < 8 → gateItems t j h = if j = k ∧ h = q then l else gateItems s j h) ∧ t.regs = s.regs
    let l := gateItems s k g
    let m := gateItems s k (4 + g.val)
    (gateUsed s k g = true → bit s.fab.clocks k = true →
      (l.length < gateDepth s k g → Does (.gateClockWrite n g v false) s (fun t => items t g (l ++ [v.toNat])))
      ∧ (∀ full : Bool, full = true ∨ gateDepth s k g ≤ l.length → Does (.gateClockWrite n g v full) s (fun t => t.fab = s.fab
        ∧ getf t F.FAB_GATE_OVF_COUNT = min 65535 (getf s F.FAB_GATE_OVF_COUNT + 1) ∧ getf t F.FAB_GATE_OVF_ISLAND = k)))
    ∧ (∀ x r, gateUsed s k g = true → l = x :: r → Does (.gateHandshakePop n g) s (fun t => items t g r ∧ t.out = s.out ++ [.gate k g x]))
    ∧ (l = [] → exec (.gateHandshakePop n g) s = .next s)
    ∧ (gateUsed s k (4 + g.val) = true →
      (m.length < gateDepth s k (4 + g.val) → Does (.handshakeSideWrite n g v) s (fun t => items t (4 + g.val) (m ++ [v.toNat])))
      ∧ (gateDepth s k (4 + g.val) ≤ m.length → exec (.handshakeSideWrite n g v) s = .next s)
      ∧ (∀ x r, bit s.fab.clocks k = true → tapOwns s = false → m = x :: r → Does (.clockSideRead n g) s (fun t =>
          items t (4 + g.val) r ∧ t.out = s.out ++ [.gate k (4 + g.val) x])))
    ∧ (m = [] ∨ bit s.fab.clocks k = false → exec (.clockSideRead n g) s = .next s))
  ∧ (∀ (b : Fin 8) (pin : Nat) (v : Bool),
    (bit s.pwr.railsOff (8 + b.val) = false → s.fab.image ≠ [] → Does (.staticInputChange b pin v) s (fun t =>
      (sget (8 * pin + b.val) t.fab.statics).getD 0 = b2n v ∧ t.regs = s.regs ∧ t.out = s.out))
    ∧ (bit s.pwr.railsOff (8 + b.val) = true → exec (.staticInputChange b pin v) s = .next s))
  ∧ (∀ (k : Fin 32) (a : Nat) (len : Fin 16) (w : Bool) (ds : List (List Byte)),
    isSet s (F.FAB_SOCK_EN k) = true → regionIsOn s (k.val / 2) = true → fabLive s = true →
    let n := 16 * (len.val + 1)
    let refused (t : State) : Prop := .socket k.val 1 [] ∈ t.out ∧ t.mem = s.mem ∧ getf t (F.FAB_SOCK_ERRS k) = min 65535 (getf s (F.FAB_SOCK_ERRS k) + 1)
    let burst := Instr.socketBurst k a len w (ds.map (fun d => (d, [])))
    (a % 16 ≠ 0 ∨ 256 < a % 256 + n → Does burst s refused)
    ∧ (a % 16 = 0 → a % 256 + n ≤ 256 →
      (sockReach a w = false → Does burst s (fun t => refused t ∧ getf t F.HIF_HOLE_CNT_COUNT = min (2 ^ 32 - 1) (getf s F.HIF_HOLE_CNT_COUNT + 1)))
      ∧ (0x500000 ≤ a → a < 0x800000 → bankErr s (a / 0x100000) = none →
        (w = true → ds.length = len.val + 1 → (∀ d ∈ ds, d.length = 16) → Does burst s (fun t => BankHas s t a ds.flatten
          ∧ t.out = s.out ++ [.socket k.val 2 []]))
        ∧ (w = false → Does burst s (fun t => t = { s with out := t.out } ∧ t.out = s.out
            ++ (List.range (len.val + 1)).map (fun j => .socket k.val 0 ((List.range 16).map (fun i => memByte s (a + 16 * j + i)))))))))
  ∧ (∀ (k : Fin 32) (off : Fin 0x10000) (w ans : Option W32),
    let a := 0x200000 + 0x10000 * k.val + off.val / 4 * 4
    (winServed s k = false → Does (.fabWindowAccess k off w ans) s (fun t => getf t F.FAB_WIN_CNT_COUNT = min (2 ^ 32 - 1) (getf s F.FAB_WIN_CNT_COUNT + 1)
      ∧ t.out = (if w.isNone then s.out ++ [.regData a 0#32] else s.out) ∧ t.fab = s.fab))
    ∧ (winServed s k = true →
      (ans = none → Does (.fabWindowAccess k off w ans) s (fun t => t.out = s.out ++ [.socketWin k (off.val / 4 * 4) w]
        ∧ t.fab = { s.fab with wins := s.fab.wins ++ [(k.val, off.val / 4 * 4, w)] }))
      ∧ (∀ v, ans = some v → Does (.fabWindowAccess k off w ans) s (fun t => t.fab = s.fab
        ∧ t.out = s.out ++ .socketWin k (off.val / 4 * 4) w :: (if w.isNone then [.regData a v] else []))))
    ∧ (∀ p, s.fab.wins.find? (fun p => p.1 == k.val) = some p → Does (.fabWindowTimeout k) s (fun t => t.fab = { s.fab with wins := s.fab.wins.erase p }
      ∧ getf t (F.FAB_SOCK_ERRS k) = min 65535 (getf s (F.FAB_SOCK_ERRS k) + 1)
      ∧ t.out = (if p.2.2.isNone then s.out ++ [.regData (0x200000 + 0x10000 * k.val + p.2.1) 0xFFFFFFFF#32] else s.out))))
  ∧ (∀ o : Op, opOf s o.tag = some o → opcodeOf o = 0x40 → o.ret = none →
    let k := dEngsel o.words
    let there := isSet s (F.FAB_SOCK_CALL_EN k) && regionIsOn s (k / 2) && fabLive s
    (o.started = false → o.fwd = false → there = false → EndsOp (.fabCall o.tag) s o ⟨0x1B, 0#32, 0#32⟩)
    ∧ (o.started = false → o.fwd = false → there = true → Does (.fabCall o.tag) s (fun t => t.out = s.out ++ [.socketCall k (o.words.drop 4)]
      ∧ opOf t o.tag = some { o with started := true } ∧ t.regs = s.regs))
    ∧ (∀ (st : Nat) (r0 r1 : W32), o.started = true → fabLive s = true →
      EndsOp (.fabCallAnswer o.tag st r0 r1) s o ⟨if st = 0 ∨ st = 1 ∨ st = 0x20 then st else 0x7F, r0, r1⟩))

/-- O49. TBU_STAMP reads, sets and slews the time, and PPS edges, whole seconds, losses and the TCXO act as stated. TBU_STAMP returns the
seconds' high part with the state; ACTION 3, a set in beacon use or with a bad nanosecond word, and a slew in LOCKED or too large, end with
RANGE. A set loads the time, with STEP, its count, the step and device event 5. A valid PPS_IN edge is time-stamped, the second one makes
PPS_OK and gives TBU_OFFSET its θ; an edge out of tolerance counts. Losing PPS takes LOCKED and RECOVER to HOLDOVER and ACQUIRE to FREE. At
a whole second a pending step is loaded instead of a pulse; else PPS_OUT pulses, or the pulse is skipped and counted. HOLD_LIMIT sets
UNSYNC. Losing the TCXO goes to FREE without a reference; its return restarts a timebase that waited. REF 3 goes to FREE. -/
def Obligations.TimebaseReferences : Prop := ∀ (s : State),
  let st := tbuState s
  let used := getf s F.TBU_STAT_REF_USED
  let r0 (sec : Nat) : W32 := w32 (sec / 2 ^ 32 % 2 ^ 16 + st * 2 ^ 16)
  let stepped (d : Int) (t : State) : Prop := isSet t F.TBU_EVT_STEP = true ∧ getf t F.TBU_CNT_STEPS = min 65535 (getf s F.TBU_CNT_STEPS + 1)
    ∧ rd t R.TBU_LAST_STEP = sat32 d ∧ evtPending t 5 = true
  (∀ (tag : Nat) (o : Op),
    (stampOp s tag 0 = some o → EndsOp (.tbuStampRead tag) s o ⟨0, r0 s.tbu.sec, rd s R.TBU_OFFSET⟩)
    ∧ (stampOp s tag 3 = some o → EndsOp (.tbuStampRead tag) s o ⟨0x14, r0 s.tbu.sec, 0#32⟩)
    ∧ (stampOp s tag 1 = some o →
      let nsw := (opWord o 5).toNat
      let sec : Nat := (opWord o 6).toNat + 2 ^ 32 * opFld o 7 0 16
      (999999999 < nsw ∨ used = 2 → EndsOp (.tbuStampSet tag) s o ⟨0x14, r0 s.tbu.sec, 0#32⟩)
      ∧ (nsw ≤ 999999999 → used ≠ 2 → Does (.tbuStampSet tag) s (fun t =>
          let d := ((sec : Int) - (s.tbu.sec : Int)) * 1000000000 + ((t.tbu.ns : Int) - (s.tbu.ns : Int))
          t.tbu.sec = sec ∧ t.tbu.ns = (if used = 1 then s.tbu.ns else nsw) ∧ t.tbu.slew = 0 ∧ stepped d t
          ∧ retOf t tag = some ⟨0, r0 sec, sat32 d⟩)))
    ∧ (stampOp s tag 2 = some o → let n := signed 32 (opWord o 5).toNat
      (1000000 < n.natAbs ∨ st = 2 ∨ st = 4 ∨ used = 2 → EndsOp (.tbuStampSlew tag) s o ⟨0x14, r0 s.tbu.sec, 0#32⟩)
      ∧ (n.natAbs ≤ 1000000 → st ≠ 2 → st ≠ 4 → used ≠ 2 → Does (.tbuStampSlew tag) s (fun t =>
          t.tbu = { s.tbu with slew := s.tbu.slew + n * 2 ^ 40 } ∧ retOf t tag = some ⟨0, r0 s.tbu.sec, opWord o 5⟩ ∧ t.regs = s.regs))))
  ∧ (∀ (falling : Bool) (sub : Nat), s.tbu.run = true → inReset s 10 = false → isSet s F.TBU_CTL_PPS_IN_EN = true →
    isSet s F.TBU_CTL_PPS_IN_EDGE = falling →
    let t0 : Int := totalNs s + ((sub % 40 / 10 * 10 : Nat) : Int) + signed 32 (rd s R.TBU_PPS_CMP).toNat
    let taken (t : State) : Prop := t.tbu.lastEdge = some t0 ∧ rd t R.TBU_PPS_TS_S = w32 (t0 / 1000000000).toNat
      ∧ rd t R.TBU_PPS_TS_NS = ((stampNs s &&& 0xC0000000#32) ||| w32 (t0 % 1000000000).toNat)
    (s.tbu.lastEdge = none → used ≠ 1 → Does (.ppsInEdge falling sub) s (fun t => taken t ∧ isSet t F.TBU_STAT_PPS_OK = isSet s F.TBU_STAT_PPS_OK))
    ∧ (∀ e, s.tbu.lastEdge = some e →
      ((t0 - e - 1000000000).natAbs ≤ 1000000 → Does (.ppsInEdge falling sub) s (fun t => taken t ∧ isSet t F.TBU_STAT_PPS_OK = true
        ∧ (getf t F.TBU_STAT_REF_USED = 1 → rd t R.TBU_OFFSET =
            sat32 (if t0 % 1000000000 ≤ 500000000 then t0 % 1000000000 else t0 % 1000000000 - 1000000000))))
      ∧ (1000000 < (t0 - e - 1000000000).natAbs → Does (.ppsInEdge falling sub) s (fun t => t = { s with regs := t.regs }
        ∧ isSet t F.TBU_EVT_PPS_BAD = true ∧ getf t F.TBU_CNT_PPS_BAD = min 65535 (getf s F.TBU_CNT_PPS_BAD + 1)))))
  ∧ (isSet s F.TBU_STAT_PPS_OK = true ∨ s.tbu.lastEdge ≠ none → Does .ppsInLoss s (fun t => isSet t F.TBU_STAT_PPS_OK = false
      ∧ isSet t F.TBU_EVT_PPS_LOST = true ∧ t.tbu.lastEdge = none
      ∧ (isMember s = false → getf t F.TBU_STAT_REF_USED = 0 ∧ tbuState t = (if st = 1 then 0 else if st = 2 ∨ st = 4 then 3 else st))))
  ∧ (s.tbu.run = true →
    (∀ d, s.tbu.step = some d → Does .wholeSecond s (fun t => stepped d t ∧ t.tbu.step = none ∧ t.tbu.slew = 0 ∧ t.tbu.pulse = s.tbu.pulse
        ∧ (t.tbu.sec : Int) * 1000000000 + (t.tbu.ns : Int) = (totalNs s + d) % (2 ^ 48 * 1000000000)))
    ∧ (s.tbu.step = none →
      (isSet s F.TBU_CTL_PPS_OUT_EN = false → Does .wholeSecond s (fun t => t.out = s.out ∧ t.tbu.pulse = s.tbu.pulse))
      ∧ (isSet s F.TBU_CTL_PPS_OUT_EN = true → isSet s F.TBU_CTL_PPS_GATE = false ∨ st = 2 ∨ st = 3 →
        (s.tbu.pulse = false → (∀ c, s.tbu.lastPulse = some c → c + 500000000 ≤ s.clk) → tapOwns s = false → Does .wholeSecond s (fun t =>
          t.out = s.out ++ [.pin .ppsOut (ppsLevel s true)] ∧ t.tbu.pulse = true ∧ t.tbu.lastPulse = some s.clk))
        ∧ (s.tbu.pulse = true → Does .wholeSecond s (fun t => t.out = s.out ∧ isSet t F.TBU_EVT_PPS_SKIP = true
          ∧ getf t F.TBU_CNT2_PPS_SKIPPED = min 65535 (getf s F.TBU_CNT2_PPS_SKIPPED + 1))))))
  ∧ (s.tbu.pulse = true → tapOwns s = false → Does .ppsOutEnd s (fun t => t.out = s.out ++ [.pin .ppsOut (ppsLevel s false)]
      ∧ t.tbu = { s.tbu with pulse := false } ∧ t.regs = s.regs))
  ∧ (s.tbu.pulse = false → exec .ppsOutEnd s = .next s)
  ∧ (st = 3 → isSet s F.TBU_LOCK_HOLD_LIMIT = true → Does .holdLimitExpiry s (fun t => isSet t F.TBU_STAT_UNSYNC = true ∧ t.tbu = { s.tbu with unsync := true }))
  ∧ (s.tbu.tcxo = true → s.tbu.run = true → Does .tcxoLost s (fun t => tbuState t = 0 ∧ t.tbu.tcxo = false ∧ isSet t F.TBU_STAT_TCXO_OK = false
      ∧ isSet t F.TBU_EVT_TCXO_LOST = true ∧ getf t F.TBU_STAT_REF_USED = 0 ∧ isSet t F.TBU_STAT_UNSYNC = true
      ∧ t.tbu.sec = s.tbu.sec ∧ t.tbu.ns = s.tbu.ns ∧ ∀ r < 16, getf t (F.FAB_PACE_NOW r) = 0 ∧ isSet t (F.FAB_PACE_VALID r) = false))
  ∧ (s.tbu.tcxo = false →
    (s.tbu.run = true → Does .tcxoReturn s (fun t => t.tbu.tcxo = true ∧ isSet t F.TBU_STAT_TCXO_OK = true ∧ t.tbu.sec = s.tbu.sec ∧ t.tbu.ns = s.tbu.ns))
    ∧ (s.tbu.run = false → bit s.pwr.groups 2 = true → inReset s 10 = false → Does .tcxoReturn s (fun t => t.tbu.run = true ∧ t.tbu.sec = 0
        ∧ t.tbu.ns = 0 ∧ isSet t F.TBU_STAT_TCXO_OK = true)))
  ∧ (∀ v : W32, away s 10 = false →
    (extractBits v 0 2 = 3 → Does (.tbuCtlWrite v) s (fun t => tbuState t = 0 ∧ getf t F.TBU_STAT_REF_USED = 0 ∧ rd t R.TBU_CTL = (v &&& 0x01FF0FFF#32)))
    ∧ (extractBits v 0 2 ≠ 3 → Does (.tbuCtlWrite v) s (fun t => rd t R.TBU_CTL = (v &&& 0x01FF0FFF#32) ∧ t.tbu.sec = s.tbu.sec ∧ t.tbu.ns = s.tbu.ns)))

/-- O50. Time beacons pass down the chain with their delays, and delay requests measure the link. The head sends TIME_BEACON with the state,
its flags, the next sequence number and the time. A beacon that arrives goes on with the link delay and the residence added to its
correction; a member counts the good ones and takes over their flags, from the second in a row BCN_OK is set, and in beacon use TBU_OFFSET
is the local time less the beacon's. A damaged one goes on stomped and leaves the timebase. The loss of beacons clears BCN_OK. A member
sends DLY_REQ with a new number and captures t1; the neighbour answers with the time between the two; the answer to the last request gives a
link delay, and TBU_LINK_DLY is the mean of the last 16. -/
def Obligations.ChainTime : Prop := ∀ (s : State) (m : Msg) (sub res : Nat),
  let acc := (mw m 4).toNat
  let on := { m with w := m.w.set 4 (w32 (acc + getf s F.TBU_LINK_DLY_NS + res)) }
  (isHead s = true → isSet s F.TBU_CTL_BCN_EN = true → s.tbu.run = true → Does .timeBeaconSend s (fun t =>
      let q := (s.tbu.bcnSeq + 1) % 256
      t.tbu = { s.tbu with bcnSeq := q }
      ∧ sends s t 1 ⟨0x50, ownAddr s, toAll, [w32 (tbuState s * 2 ^ 16 + getf s F.TBU_STAT_HOLD * 2 ^ 19 + getf s F.TBU_STAT_UNSYNC * 2 ^ 20 + q * 2 ^ 24),
        w32 s.tbu.ns, w32 s.tbu.sec, w32 (s.tbu.sec / 2 ^ 32 % 2 ^ 16), 0#32], []⟩))
  ∧ (isHead s = false ∨ isSet s F.TBU_CTL_BCN_EN = false → exec .timeBeaconSend s = .next s)
  ∧ Does (.timeBeacon m false sub res) s (fun t => t.tbu = s.tbu ∧ (portUp s 1 = true → stompedOn t 1 on))
  ∧ (isMember s = false → Does (.timeBeacon m true sub res) s (fun t => t.tbu = s.tbu ∧ sends s t 1 on))
  ∧ (isMember s = true → s.tbu.run = true → Does (.timeBeacon m true sub res) s (fun t => sends s t 1 on ∧ t.tbu.bcns = s.tbu.bcns + 1
      ∧ t.tbu.bcnHold = decide (m0 m 19 1 = 1) ∧ t.tbu.bcnUnsync = decide (m0 m 20 1 = 1)
      ∧ (s.tbu.bcns = 0 → isSet t F.TBU_STAT_BCN_OK = isSet s F.TBU_STAT_BCN_OK)
      ∧ (0 < s.tbu.bcns → isSet t F.TBU_STAT_BCN_OK = true ∧ (getf t F.TBU_STAT_REF_USED = 2 → rd t R.TBU_OFFSET = sat32 (totalNs s
          + ((sub % 40 / 10 * 10 : Nat) : Int) - ((((mw m 2).toNat + 2 ^ 32 * extractBits (mw m 3) 0 16 : Nat) : Int) * 1000000000
            + (extractBits (mw m 1) 0 30 : Int) + (acc : Int) + (getf s F.TBU_LINK_DLY_NS : Int)))))))
  ∧ (isSet s F.TBU_STAT_BCN_OK = true ∨ 0 < s.tbu.bcns → Does .beaconLoss s (fun t => isSet t F.TBU_STAT_BCN_OK = false ∧ t.tbu.bcns = 0
      ∧ isSet t F.TBU_EVT_BCN_LOST = true))
  ∧ (isMember s = true → s.tbu.run = true → portUp s 0 = true → Does .dlyReqDue s (fun t => let i := (s.tbu.dlyId + 1) % 256
      t.tbu = { s.tbu with dlyId := i, t1 := some (totalNs s) } ∧ carries t 0 ⟨0x51, ownAddr s, toNext, [w32 (i * 2 ^ 8)], []⟩))
  ∧ (∀ p : Fin 2, Does (.dlyReq p m res) s (fun t => t.tbu = s.tbu ∧ sends s t p ⟨0x52, ownAddr s, toNext, [mw m 0 &&& 0xFF00#32, w32 res], []⟩))
  ∧ (s.tbu.t1 = none ∨ m0 m 8 8 ≠ s.tbu.dlyId → Does (.dlyResp m sub) s (fun t => t.tbu = s.tbu ∧ rd t R.TBU_LINK_DLY = rd s R.TBU_LINK_DLY))
  ∧ (∀ t1, s.tbu.t1 = some t1 → m0 m 8 8 = s.tbu.dlyId → Does (.dlyResp m sub) s (fun t =>
      let d := (totalNs s + ((sub % 40 / 10 * 10 : Nat) : Int) - t1 - ((mw m 1).toNat : Int)) / 2 + signed 16 (getf s F.TBU_ASYM_NS)
      t.tbu = { s.tbu with t1 := none, dlys := (d :: s.tbu.dlys).take 16 }
      ∧ getf t F.TBU_LINK_DLY_NS = unsigned 16 (t.tbu.dlys.foldl (· + ·) 0 / (t.tbu.dlys.length : Int))))

/-- O51. TAG_READ, TAG_WRITE and TAG_LOCK_CMD: the pages, the shadow, the commit and the locks. A TAG_READ that begins while no access phase
is under way puts the committed blocks in its buffer and returns OK with their number; during an access phase it waits, or with NONBLOCK
returns TAG_BUSY. A TAG_WRITE merges its bytes into a shadow page and changes no tag memory; a locked block without the override ends it
with PERMISSION. A range past block 2,047 returns RANGE. A verified shadow falls due for commit, a second failed verify returns
NV_VERIFY_FAIL. The commit puts exactly the shadow in its page, moves on and returns OK (OK_NOTE with locked blocks overridden), but where a
block was locked meanwhile leaves the memory and sets COMMIT_DENIED. TAG_LOCK_CMD works under KEY from FIRST to LAST word by word: each
group's commit sets or clears its bits, what a reader locked meanwhile stays locked and sets LOCK_DENIED. -/
def Obligations.TagHostSide : Prop := ∀ (s : State),
  (∀ o : Op, opOf s o.tag = some o → o.started = false → o.fwd = false →
    let n := dLength o.words
    let first := opFld o 7 0 11
    let buf := d64 o.words 4
    let us := w32 (min (2 ^ 32 - 1) (s.tag.waitNs / 1000))
    (opcodeOf o = 0x80 → 2047 < first + n / 4 - 1 → EndsOp (.tagRead o.tag) s { o with started := true } ⟨0x14, 0#32, 0#32⟩)
    ∧ (∀ h, opcodeOf o = 0x81 → 2047 < first + n / 4 - 1 → EndsOp (.tagWrite o.tag h) s { o with started := true } ⟨0x14, 0#32, 0#32⟩)
    ∧ (opcodeOf o = 0x80 → tagRange o = false → tagOp s = none → s.tag.phase = none → s.tag.from_ = none →
        (opFld o 6 0 1 = 1 → bankWritable s buf n → Does (.tagRead o.tag) s (fun t => BankHas s t buf (tagBytes s (4 * first) n)
          ∧ opOf t o.tag = some { o with started := true, prog := n, ret := some ⟨0, w32 n, us⟩ } ∧ t.tagMem = s.tagMem ∧ t.regs = s.regs))
        ∧ (opFld o 6 0 1 = 0 → hostReach s = true → isMember s = false → Does (.tagRead o.tag) s (fun t =>
            t.out = s.out ++ [.hostWrite buf (tagBytes s (4 * first) n)]
            ∧ opOf t o.tag = some { o with started := true, prog := n, ret := some ⟨0, w32 n, us⟩ })))
    ∧ (opcodeOf o = 0x80 → tagRange o = false → tagOp s = none → s.tag.phase.isSome = true →
        (opFld o 6 1 1 = 0 → Does (.tagRead o.tag) s (fun t => opOf t o.tag = some { o with started := true } ∧ t.tag.from_ = some s.clk
          ∧ t.out = s.out))
        ∧ (opFld o 6 1 1 = 1 → s.tag.from_ = none → Does (.tagRead o.tag) s (fun t =>
            opOf t o.tag = some { o with started := true, ret := some ⟨0x70, w32 o.prog, us⟩ } ∧ t.out = s.out)))
    ∧ (∀ (h : ReadEnd) (bs : List Byte), opcodeOf o = 0x81 → tagRange o = false → tagOp s = none → o.prog = 0 → 0 < n → bs.length = n →
        (if opFld o 6 0 1 = 1 then readBytes s n buf = (bs, none) else h = .ok bs) →
        let a := 4 * first
        let m := min (64 - a % 64) n
        (tagLockedIn s o = 0 ∨ overrideOn s = true → Does (.tagWrite o.tag h) s (fun t => t.tagMem = s.tagMem ∧ retOf t o.tag = o.ret
          ∧ ∃ data, t.tag.shadow = some { page := a / 64, data := data, locked := tagLockedIn s o }
            ∧ ∀ i < 64, data.getD i 0#8 = if a % 64 ≤ i ∧ i < a % 64 + m then bs.getD (i - a % 64) 0#8 else tagByte s (a / 64 * 64 + i)))
        ∧ (tagLockedIn s o ≠ 0 → overrideOn s = false → s.tag.from_ = none → Does (.tagWrite o.tag h) s (fun t => t.tagMem = s.tagMem
          ∧ retOf t o.tag = some ⟨0x13, 0#32, us⟩ ∧ t.tag.shadow = none))))
  ∧ (∀ (o : Op) (h : Shadow), tagOp s = some o → opOf s o.tag = some o → s.tag.shadow = some h →
    let us := w32 (min (2 ^ 32 - 1) (s.tag.waitNs / 1000))
    let p := tagSpan o
    let l := tagLockedIn s o
    (h.due = false →
      Does (.tagShadowProgrammed true) s (fun t => t = { s with tag := { s.tag with shadow := some { h with due := true } } })
      ∧ (h.fails = 0 → Does (.tagShadowProgrammed false) s (fun t => t = { s with tag := { s.tag with shadow := some { h with fails := 1 } } }))
      ∧ (h.fails ≠ 0 → s.tag.from_ = none → Does (.tagShadowProgrammed false) s (fun t =>
          retOf t o.tag = some ⟨0x40, w32 o.prog, us⟩ ∧ t.tag.shadow = none ∧ t.tagMem = s.tagMem)))
    ∧ (h.due = true → s.tag.from_ = none →
      (s.tag.phase = none → (l &&& h.locked = l ∨ overrideOn s = true) → Does .tagPageCommit s (fun t =>
          (∀ x, tagByte t x = if 64 * h.page ≤ x ∧ x < 64 * h.page + h.data.length then h.data.getD (x - 64 * h.page) 0#8 else tagByte s x)
          ∧ (dLength o.words ≤ o.prog + p.2 → retOf t o.tag = some ⟨b2n (o.note || decide (l ≠ 0)), w32 (o.prog + p.2), us⟩)))
      ∧ (s.tag.phase = none → l &&& h.locked ≠ l → overrideOn s = false → Does .tagPageCommit s (fun t => t.tagMem = s.tagMem
          ∧ isSet t F.TAG_EVT_COMMIT_DENIED = true ∧ retOf t o.tag = some ⟨0x13, w32 o.prog, us⟩))
      ∧ (s.tag.phase.isSome = true → opFld o 6 1 1 = 1 → Does .tagPageCommit s (fun t => t.tagMem = s.tagMem
          ∧ retOf t o.tag = some ⟨0x70, w32 o.prog, us⟩ ∧ t.tag.shadow = none))
      ∧ (s.tag.phase.isSome = true → opFld o 6 1 1 = 0 → Does .tagPageCommit s (fun t =>
          t = { s with tag := { s.tag with from_ := some s.clk } }))))
  ∧ (∀ v : W32, away s 22 = false →
    let first := getf s F.TAG_LOCK_FIRST_FIRST
    let last := extractBits v 0 11
    (extractBits v 16 16 = 0x10CB → first ≤ last → s.tag.lk = none →
      Does (.tagLockCmd v) s (fun t => if v.getLsbD 12 = true ∧ overrideOn s = false then isSet t F.TAG_EVT_LOCK_DENIED = true ∧ t.tag = s.tag
        else t = { s with tag := { s.tag with lk := some ⟨first / 32, first, last, v.getLsbD 12, rd s (R.TAG_LOCK (first / 32)), false, none⟩ } }))
    ∧ (extractBits v 16 16 ≠ 0x10CB ∨ last < first ∨ s.tag.lk.isSome = true → exec (.tagLockCmd v) s = .next s))
  ∧ (∀ k : TagLk, s.tag.lk = some k →
    Does .tagLockGroupProgrammed s (fun t => t = { s with tag := { s.tag with lk := some { k with due := true } } })
    ∧ (k.due = true → s.tag.phase.isSome = true → k.from_ = none → Does .tagLockGroupCommit s (fun t =>
        t = { s with tag := { s.tag with lk := some { k with from_ := some s.clk } } }))
    ∧ (k.due = true → s.tag.phase = none → k.from_ = none → (k.unlock = true → overrideOn s = true) → Does .tagLockGroupCommit s (fun t =>
        let now := rd s (R.TAG_LOCK k.word)
        let inR (i : Nat) : Bool := decide (k.first ≤ 32 * k.word + i) && decide (32 * k.word + i ≤ k.last)
        let met (i : Nat) : Bool := now.getLsbD i && !k.live.getLsbD i && inR i
        (∀ i < 32, (rd t (R.TAG_LOCK k.word)).getLsbD i = if k.unlock then now.getLsbD i && (!inR i || met i) else now.getLsbD i || inR i)
        ∧ isSet t F.TAG_EVT_LOCK_DENIED = (isSet s F.TAG_EVT_LOCK_DENIED || (List.range 32).any met)
        ∧ (∀ w, w < 64 → w ≠ k.word % 64 → rd t (R.TAG_LOCK w) = rd s (R.TAG_LOCK w))
        ∧ (if k.last / 32 ≤ k.word then t.tag.lk = none
          else ∃ k', t.tag.lk = some k' ∧ k'.word = k.word + 1 ∧ k'.due = false ∧ k'.live = rd t (R.TAG_LOCK (k.word + 1)))))
    ∧ (k.due = true → s.tag.phase = none → k.unlock = true → overrideOn s = false → Does .tagLockGroupCommit s (fun t =>
        isSet t F.TAG_EVT_LOCK_DENIED = true ∧ t.tag.lk = none ∧ ∀ w, rd t (R.TAG_LOCK w) = rd s (R.TAG_LOCK w))))

/-- O52. The tag answers a reader: field, sessions, INVENTORY, STAY QUIET, reads from a snapshot, locks and errors. The field makes the tag
READY and begins a session, counted once; its loss makes it POWER_OFF and ends the access phase (a bit being programmed is set or not); a
session's end sets SESS_END and event 11. INVENTORY is answered with the UID by a READY tag whose UID the mask matches, by no other. STAY
QUIET addressed to the tag makes it QUIET. A read for the tag takes a snapshot and answers it when complete; more than 256 blocks, blocks
past the top and a bad format are answered with 0x0F, 0x10 and 0x02. A lock for the tag begins a phase, an already locked block gives 0x11;
when programmed its bit is set, counted and FIELD_LOCK set, a failure gives 0x14. An unsupported command is answered with 0x01 only where
addressed. A request not for the tag, or with Select, changes nothing. -/
def Obligations.TagFieldSide : Prop := ∀ (s : State),
  (s.tag.field = 0 → Does .tagFieldOn s (fun t => t.tag = { s.tag with field := 1, sess := true } ∧ getf t F.TAG_SESS_SESSIONS =
      (if s.tag.sess then getf s F.TAG_SESS_SESSIONS else min 65535 (getf s F.TAG_SESS_SESSIONS + 1))))
  ∧ (s.tag.field ≠ 0 → exec .tagFieldOn s = .next s)
  ∧ (s.tag.field ≠ 0 → s.tag.from_ = none → s.tag.lk = none → (∀ b, s.tag.phase ≠ some (.lock b)) →
      Does .tagFieldLost s (fun t => t = { s with tag := { s.tag with field := 0, phase := none } }))
  ∧ (s.tag.field = 0 → exec .tagFieldLost s = .next s)
  ∧ (s.tag.field = 0 → s.tag.sess = true → inReset s 22 = false → Does .tagSessionEnd s (fun t =>
      t.tag.sess = false ∧ isSet t F.TAG_EVT_SESS_END = true ∧ evtPending t 11 = true))
  ∧ (∀ (afi : Option Byte) (len : Fin 65) (mask : W64) (sixteen : Bool),
      let match_ := s.tag.field = 1 ∧ (afi = none ∨ afi = some 0#8) ∧ tagUid.toNat % 2 ^ len.val = mask.toNat % 2 ^ len.val
        ∧ ¬ (sixteen = true ∧ 60 < len.val)
      (match_ → Does (.inventory afi len mask sixteen) s (fun t =>
        t = { s with out := s.out ++ [.tagResponse 0 (0#8 :: leBytes 8 tagUid.toNat)] }))
      ∧ (¬ match_ → exec (.inventory afi len mask sixteen) s = .next s))
  ∧ (∀ r : TagReq,
      let mine := r.select = false ∧ (match r.uid with | some u => s.tag.field ≠ 0 ∧ u = tagUid | none => s.tag.field = 1)
      (mine → r.uid.isSome = true → r.bad = false → Does (.stayQuiet r) s (fun t => t = { s with tag := { s.tag with field := 2 } }))
      ∧ (mine → r.uid.isSome = true → Does (.tagUnsupportedCommand r) s (fun t => t = { s with out := s.out ++ [.tagResponse 1 [0x01#8]] }))
      ∧ (¬ mine ∨ r.uid = none → exec (.stayQuiet r) s = .next s ∧ exec (.tagUnsupportedCommand r) s = .next s)
      ∧ (mine → s.tag.phase = none → r.bad = true →
          (∀ f n, Does (.readMultipleBlocks r f n) s (fun t => t = { s with out := s.out ++ [.tagResponse 1 [0x02#8]] }))
          ∧ (∀ b, Does (.lockBlock r b) s (fun t => t = { s with out := s.out ++ [.tagResponse 1 [0x02#8]] })))
      ∧ (mine → s.tag.phase = none → r.bad = false →
          (∀ f n, f.val + n.val + 1 ≤ 256 → Does (.readMultipleBlocks r f n) s (fun t =>
              t = { s with tag := { s.tag with phase := some (.read (readResp s r.option f (n.val + 1))) } }))
          ∧ (∀ f n, 256 < f.val + n.val + 1 → Does (.readMultipleBlocks r f n) s (fun t => t = { s with out := s.out ++ [.tagResponse 1 [0x10#8]] }))
          ∧ (∀ f n, n.val < 256 → f.val + n.val + 1 ≤ 2048 → Does (.extendedReadMultipleBlocks r f n) s (fun t =>
              t = { s with tag := { s.tag with phase := some (.read (readResp s r.option f (n.val + 1))) } }))
          ∧ (∀ f n, 256 ≤ n.val → Does (.extendedReadMultipleBlocks r f n) s (fun t => t = { s with out := s.out ++ [.tagResponse 1 [0x0F#8]] }))
          ∧ (∀ f n, n.val < 256 → 2048 < f.val + n.val + 1 → Does (.extendedReadMultipleBlocks r f n) s (fun t =>
              t = { s with out := s.out ++ [.tagResponse 1 [0x10#8]] }))
          ∧ (∀ b, tagLocked s b.val = false → Does (.lockBlock r b) s (fun t => t = { s with tag := { s.tag with phase := some (.lock b) } }))
          ∧ (∀ b, b.val < 2048 → tagLocked s b.val = false → Does (.extendedLockBlock r b) s (fun t =>
              t = { s with tag := { s.tag with phase := some (.lock b) } }))
          ∧ (∀ b, b.val < 2048 → tagLocked s b.val = true → Does (.extendedLockBlock r b) s (fun t =>
              t = { s with out := s.out ++ [.tagResponse 1 [0x11#8]] }))
          ∧ (∀ b, 2048 ≤ b.val → Does (.extendedLockBlock r b) s (fun t => t = { s with out := s.out ++ [.tagResponse 1 [0x10#8]] })))
      ∧ (¬ mine → (∀ f n, exec (.readMultipleBlocks r f n) s = .next s) ∧ (∀ f n, exec (.extendedReadMultipleBlocks r f n) s = .next s)
          ∧ (∀ b, exec (.lockBlock r b) s = .next s) ∧ ∀ b, exec (.extendedLockBlock r b) s = .next s))
  ∧ (∀ resp, s.tag.phase = some (.read resp) → s.tag.from_ = none → s.tag.lk = none → Does .tagSnapshotDone s (fun t =>
      t = { s with tag := { s.tag with phase := none }, out := s.out ++ [.tagResponse 0 resp] }))
  ∧ (∀ b, s.tag.phase = some (.lock b) → b < 2048 → s.tag.from_ = none → s.tag.lk = none →
      Does (.tagLockProgrammed true) s (fun t => (∀ x < 2048, tagLocked t x = (tagLocked s x || decide (x = b)))
        ∧ getf t F.TAG_SESS_FIELD_LOCKS = min 65535 (getf s F.TAG_SESS_FIELD_LOCKS + 1) ∧ t.tag.phase = none ∧ t.tagMem = s.tagMem
        ∧ (inReset s 22 = false → isSet t F.TAG_EVT_FIELD_LOCK = true) ∧ t.out = s.out ++ [.tagResponse 0 []])
      ∧ Does (.tagLockProgrammed false) s (fun t =>
          t = { s with tag := { s.tag with phase := none }, out := s.out ++ [.tagResponse 1 [0x14#8]] })
      ∧ (s.tag.field ≠ 0 → Does .tagFieldLost s (fun t => t.tag = { s.tag with field := 0, phase := none } ∧ t.out = s.out
          ∧ (∀ x < 2048, x ≠ b → tagLocked t x = tagLocked s x) ∧ (tagLocked s b = true → tagLocked t b = true))))

/-- O53. A telemetry scan keeps NOW, MIN and MAX of each channel, the crossing masks and the activity counters. While D23 is served and
TLM_CTL.EN is 1, TLM_SCAN completes. For each of the 21 channels NOW takes the sample, MIN and MAX keep the smaller and the larger (signed
for channels 0 to 7), starting over at the first scan after CLR or a reset of D23, the channel's bit of TLM_EVT_HI is set when the sample
lies above HI and kept otherwise, and likewise TLM_EVT_LO below LO. For each of the 12 engines the operations it returned and its busy
microseconds are reported. Otherwise the scan changes nothing. -/
def Obligations.TelemetryScan : Prop := ∀ (s : State) (samples busy : List Nat),
  (away s 23 = false → isSet s F.TLM_CTL_EN = true → Does (.tlmScan samples busy) s (fun t =>
    (∀ c < 21, let v := samples.getD c 0 % 65536
      getf t (F.TLM_CH_NOW_NOW c) = v
      ∧ getf t (F.TLM_CH_NOW_MIN c) =
          (if s.tlm.fresh = true ∨ chVal c v < chVal c (getf s (F.TLM_CH_NOW_MIN c)) then v else getf s (F.TLM_CH_NOW_MIN c))
      ∧ getf t (F.TLM_CH_MAX_MAX c) =
          (if s.tlm.fresh = true ∨ chVal c (getf s (F.TLM_CH_MAX_MAX c)) < chVal c v then v else getf s (F.TLM_CH_MAX_MAX c))
      ∧ (getf t F.TLM_EVT_HI_CH).testBit c =
          ((getf s F.TLM_EVT_HI_CH).testBit c || decide (chVal c (getf s (F.TLM_CH_THR_HI c)) < chVal c v))
      ∧ (getf t F.TLM_EVT_LO_CH).testBit c =
          ((getf s F.TLM_EVT_LO_CH).testBit c || decide (chVal c v < chVal c (getf s (F.TLM_CH_THR_LO c)))))
    ∧ (∀ e < 12, rd t (R.TLM_ACT_OPS e) = w32 ((sget e s.tlm.ops).getD 0) ∧ rd t (R.TLM_ACT_BUSY e) = w32 (busy.getD e 0))
    ∧ t.tlm.fresh = false))
  ∧ (away s 23 = true ∨ isSet s F.TLM_CTL_EN = false → exec (.tlmScan samples busy) s = .next s)

/-- O54. A due log record, its beats into the bank, and the test alarm. While D23 is served and LOG_EN is 1, TLM_LOG_DUE makes the next
64-byte record with the next sequence number; an incomplete record is abandoned, counted in TLM_LOG_DROP, and the next one goes to the next
index. TLM_LOG_BEAT writes 16 bytes of the record at the ring's next record while that bank serves writes, leaves every other byte of memory
as it was and every other part of the state but the index, and after the fourth beat the index advances within ENTRIES. ALARM_TEST stores
FORCE and DEV_ALARM shows every source, bit 9 for FORCE; an assertion that was not there before counts in DEV_ALARM_CNT. -/
def Obligations.TelemetryLogAndTestAlarm : Prop := ∀ (s : State),
  (away s 23 = false → isSet s F.TLM_CTL_LOG_EN = true → Does .tlmLogDue s (fun t =>
    t.tlm.recd = some (0, logRecord s) ∧ t.tlm.seq = (s.tlm.seq + 1) % 2 ^ 32
    ∧ getf t F.TLM_LOG_DROP_COUNT = (if s.tlm.recd.isSome then min (2 ^ 32 - 1) (getf s F.TLM_LOG_DROP_COUNT + 1) else getf s F.TLM_LOG_DROP_COUNT)
    ∧ getf t F.TLM_LOG_IDX_IDX = (if s.tlm.recd.isSome then (getf s F.TLM_LOG_IDX_IDX + 1) % logEntries s else getf s F.TLM_LOG_IDX_IDX)
    ∧ t = { s with regs := t.regs, tlm := { s.tlm with recd := t.tlm.recd, seq := t.tlm.seq } }))
  ∧ (away s 23 = true ∨ isSet s F.TLM_CTL_LOG_EN = false → exec .tlmLogDue s = .next s)
  ∧ (∀ k bs, s.tlm.recd = some (k, bs) → k < 4 → bs.length = 64 → away s 23 = false →
    let base := (rd s R.TLM_LOG_BASE).toNat / 64 * 64
    let a := base + 64 * getf s F.TLM_LOG_IDX_IDX + 16 * k
    a < 0x800000 → a / 0x100000 = base / 0x100000 → accessErr s a true = none → Does .tlmLogBeat s (fun t =>
      (∀ i < 16, memByte t (a + i) = bs.getD (16 * k + i) 0#8)
      ∧ (∀ x, x < a ∨ a + 16 ≤ x → memByte t x = memByte s x)
      ∧ t.tlm.recd = (if k = 3 then none else some (k + 1, bs))
      ∧ getf t F.TLM_LOG_IDX_IDX = (if k = 3 then (getf s F.TLM_LOG_IDX_IDX + 1) % logEntries s else getf s F.TLM_LOG_IDX_IDX)
      ∧ (∀ r, r ≠ R.TLM_LOG_IDX → rd t r = rd s r)
      ∧ t = { s with regs := t.regs, mem := t.mem, tlm := { s.tlm with recd := t.tlm.recd } }))
  ∧ (s.tlm.recd = none ∨ away s 23 = true → exec .tlmLogBeat s = .next s)
  ∧ (∀ on, Does (.alarmTest on) s (fun t =>
      getf t F.DEV_ALARM_TEST_FORCE = b2n on ∧ (rd t R.DEV_ALARM).toNat.testBit 9 = on
      ∧ (rd s R.DEV_ALARM = 0#32 → on = true → getf t F.DEV_ALARM_CNT_COUNT = min (2 ^ 32 - 1) (getf s F.DEV_ALARM_CNT_COUNT + 1))
      ∧ (rd s R.DEV_ALARM ≠ 0#32 → getf t F.DEV_ALARM_CNT_COUNT = getf s F.DEV_ALARM_CNT_COUNT)))

/-- O55. Every TAP command loads its instruction; leaving the owning ones gives the pins back. While VCCAUX and VCCIO0 are good, TAP_RESET
and IDCODE load IDCODE, EXTEST and SAMPLE_PRELOAD load their instruction and the cells shifted in, HIGHZ, CLAMP and BYPASS theirs. Only the
TAP and the output change. The output is the instruction with its data register (IDCODE's is 0x24810B47), followed, exactly when EXTEST,
CLAMP or HIGHZ is left for another instruction, by the level that the unit gives each covered pin. While one of the two rails is not good,
none of the seven does anything. -/
def Obligations.TapInstructions : Prop := ∀ (s : State) (cells : List Bool),
  (tapUp s = true →
    exec .tapReset s = .next (tapTo 1 s.tap.cells tapId s) ∧ exec .idcode s = .next (tapTo 1 s.tap.cells tapId s)
    ∧ exec (.extest cells) s = .next (tapTo 0 cells 0#32 s) ∧ exec (.samplePreload cells) s = .next (tapTo 2 cells 0#32 s)
    ∧ exec .highz s = .next (tapTo 4 s.tap.cells 0#32 s) ∧ exec .clamp s = .next (tapTo 5 s.tap.cells 0#32 s)
    ∧ exec .bypass s = .next (tapTo 0x3F s.tap.cells 0#32 s))
  ∧ (tapUp s = false →
    exec .tapReset s = .next s ∧ exec .idcode s = .next s ∧ exec (.extest cells) s = .next s
    ∧ exec (.samplePreload cells) s = .next s ∧ exec .highz s = .next s ∧ exec .clamp s = .next s ∧ exec .bypass s = .next s)

/-- O56. A step runs the command at the front of the queue, and on an empty queue time passes. For every state and command, a step with that
command at the front of the queue is exec of it on the same state with the queue's rest. With no command waiting the step answers a next
state in which the model's clock has advanced by 40 ns and no command, memory, operation or output has appeared (the model's choice, log
entry 1). No row of the opcode table has bits, so no word spells a command. -/
def Obligations.StepRunsFrontCommand : Prop := ∀ (s : State) (c : Instr),
  step { s with pending := c :: s.pending } = exec c s
  ∧ (s.pending = [] → ∃ t, step s = .next t ∧ t.clk = s.clk + 40 ∧ t.pending = [] ∧ t.mem = s.mem ∧ t.ops = s.ops ∧ t.out = s.out ∧ t.ctxs = s.ctxs)
  ∧ (∀ n w, decodeTableWord n w = none ∧ s.withFetchWord n w = s)

/-- O57. After power-on reset the registers read the values that the register tables give, and nothing waits. Right after reset the queue is
empty, no operation, context or stream item exists, no bank byte and no tag byte is listed, and the stores have their canonical form. These
registers read the value of their table: DEV_ID, DEP_CTL, CTX_CTL and CTX_LIM of every context, LDG_CTL, LDG_TOK, HAR_CTL, HAR_LCTL and
HAR_BCFG, SFQ_WM of every FIFO, LIN_DIV, LIN_TIME, SENT_TICK, OSP_FS, OSP_AGC0, OSP_AGC1, TBU_LOCK, TAG_CTL, SCR_CTL and BST_CTL. -/
def Obligations.ResetState : Prop :=
  State.reset.pending = [] ∧ State.reset.ops = [] ∧ State.reset.ctxs = [] ∧ State.reset.mem = [] ∧ State.reset.tagMem = [] ∧ State.reset.out = []
  ∧ (∀ n, fifo State.reset n = {}) ∧ Memory.wf State.reset = true
  ∧ (∀ p ∈ [(R.DEV_ID, 0x0F481021#32), (R.DEP_CTL, 0x00001807#32), (R.LDG_CTL, 0x000A0003#32), (R.LDG_TOK, 4096#32), (R.HAR_CTL, 0x21#32),
      (R.HAR_BCFG 0, 10#32), (R.HAR_BCFG 1, 50#32), (R.HAR_BCFG 2, 100#32), (R.HAR_BCFG 3, 1000#32), (R.OSP_FS, 1000000#32), (R.OSP_AGC0, 0x02000700#32),
      (R.OSP_AGC1, 0x00064004#32), (R.TBU_LOCK, 0x003C00C8#32), (R.TAG_CTL, 0x6400#32), (R.SCR_CTL, 1#32), (R.BST_CTL, 100#32)],
      rd State.reset p.1 = p.2)
  ∧ (∀ i, rd State.reset (R.HAR_LCTL i) = 0xF#32 ∧ rd State.reset (R.SFQ_WM i) = 0x01000300#32 ∧ rd State.reset (R.LIN_DIV i) = 4166#32
      ∧ rd State.reset (R.LIN_TIME i) = 0x000403E8#32 ∧ rd State.reset (R.SENT_TICK i) = 3000#32
      ∧ rd State.reset (R.CTX_CTL i) = 0x1C#32 ∧ rd State.reset (R.CTX_LIM i) = 1#32)

/-- O58. Every step of every state answers a next state and keeps every store in its one canonical form. In every state, whatever command is
at the front of the queue, the step answers a next state: the block neither faults nor refuses. If the sparse stores of the state (the
registers, the banks, the user NV array, the configuration planes, the serial flash and the tag memory) have their canonical form (addresses
strictly rising, no entry equal to what its address would read without it), they have it after the step. -/
def Obligations.StepAnswersAndKeepsStores : Prop := ∀ s : State,
  (∃ t, step s = .next t) ∧ ∀ t, Memory.wf s = true → step s = .next t → Memory.wf t = true

/-- O59. What every command leaves as it was: every part of the state and every block of register space it is not named for. For every
command i and every state s, when exec answers a next state t: the queue is as it was; every part of the state that touches does not name
for i (the banks' memory, the user NV array, the planes, the flash, the tag memory, the stream FIFOs, the contexts, the operations, the
books, the ports, each engine's own state, the output) is as it was; and every register that lies outside the blocks named for i reads as
before. -/
def Obligations.Frame : Prop := ∀ (i : Instr) (s t : State), exec i s = .next t →
  t.pending = s.pending
  ∧ (∀ p : Part, p ∉ (touches i).1 → p.same s t)
  ∧ (∀ a, blockOf a ∉ (touches i).2 → rd t a = rd s a)

/-- O60. The unmix undoes the mix for every key, tweak and block, and a scrambled line reads back as it was written. M⁻¹(K, T, M(K, T, P)) =
P for every K, T and P: the unmix of the mix of every 128-bit block under every key and tweak is that block. With it a 64-byte line,
scrambled and tagged under a version, reads back good with its plain bytes and version. -/
def Obligations.ScramblerRoundTrip : Prop :=
  (∀ k t p : Q4, unmix k t (mix k t p) = p ∧ mix k t (unmix k t p) = p)
  ∧ (∀ (k : Q4) (range epoch l ver : Nat) (plain : List Byte), plain.length = 64 → ver < 2 ^ 16 →
      lineRead k range epoch l (lineMix k range epoch l ver plain) (tagEntry (lineTag k range epoch l ver plain) ver) = .good plain ver)
end

