-- ==== Sys2Proof/Laws/Sparse.lean ====
section
/-! SUPPORT. Sparse storage: what a key reads after a store, and that every operation keeps the canonical form. -/
namespace Sys2Proof
set_option Elab.async false

variable {α : Type}

theorem sget_sput_same (k : Nat) (v : α) (l : List (Nat × α)) : sget k (sput k v l) = some v := by
  induction l with
  | nil => simp [sput, sget]
  | cons e t ih => obtain ⟨j, w⟩ := e; simp only [sput]; split_ifs <;> simp_all [sget]

theorem sget_sput_ne {j k : Nat} (h : j ≠ k) (v : α) (l : List (Nat × α)) : sget j (sput k v l) = sget j l := by
  induction l with
  | nil => simp [sput, sget, h.symm]
  | cons e t ih => obtain ⟨i, w⟩ := e; simp only [sput]; split_ifs <;> simp_all [sget, Ne.symm h]

theorem sget_sdel_same (k : Nat) (l : List (Nat × α)) : sget k (sdel k l) = none := by
  induction l with
  | nil => rfl
  | cons e t ih => obtain ⟨i, w⟩ := e; simp only [sdel]; split_ifs <;> simp_all [sget]

theorem sget_sdel_ne {j k : Nat} (h : j ≠ k) (l : List (Nat × α)) : sget j (sdel k l) = sget j l := by
  induction l with
  | nil => rfl
  | cons e t ih => obtain ⟨i, w⟩ := e; simp only [sdel]; split_ifs <;> simp_all [sget, Ne.symm h]

/-- What a key reads after a store by its default. -/
theorem sget_sset_same [DecidableEq α] (d : α) (k : Nat) (v : α) (l : List (Nat × α)) :
    (sget k (sset d k v l)).getD d = v := by
  unfold sset; split_ifs with h
  · simp [sget_sdel_same, h]
  · simp [sget_sput_same]

theorem sget_sset_ne [DecidableEq α] {j k : Nat} (h : j ≠ k) (d v : α) (l : List (Nat × α)) :
    sget j (sset d k v l) = sget j l := by
  unfold sset; split_ifs
  · exact sget_sdel_ne h l
  · exact sget_sput_ne h v l

/-- What a key reads after the entries that `p` refuses by their key are gone. -/
theorem sget_filter (p : Nat → Bool) (k : Nat) (l : List (Nat × α)) :
    sget k (l.filter (fun e => p e.1)) = if p k then sget k l else none := by
  induction l with
  | nil => simp [sget]
  | cons e t ih =>
    obtain ⟨i, w⟩ := e
    by_cases h : p i <;> by_cases hk : i = k <;> simp_all [sget]

/-! ### Keys rising -/

/-- The keys all lie above `b` and rise. -/
theorem srising_cons (b : Option Nat) (e : Nat × α) (t : List (Nat × α)) :
    srising b (e :: t) = true ↔ (∀ x, b = some x → x < e.1) ∧ srising (some e.1) t = true := by
  obtain ⟨j, w⟩ := e
  cases b <;> simp [srising]

theorem srising_weaken {b c : Option Nat} (h : ∀ x, c = some x → ∃ y, b = some y ∧ x ≤ y) (l : List (Nat × α))
    (hl : srising b l = true) : srising c l = true := by
  cases l with
  | nil => rfl
  | cons e t =>
    rw [srising_cons] at hl ⊢
    refine ⟨fun x hx => ?_, hl.2⟩
    obtain ⟨y, hy, hxy⟩ := h x hx
    exact lt_of_le_of_lt hxy (hl.1 y hy)

theorem srising_sput (b : Option Nat) (k : Nat) (v : α) (l : List (Nat × α)) (hb : ∀ x, b = some x → x < k)
    (hl : srising b l = true) : srising b (sput k v l) = true := by
  induction l generalizing b with
  | nil => exact (srising_cons ..).2 ⟨hb, rfl⟩
  | cons e t ih =>
    obtain ⟨j, w⟩ := e
    rw [srising_cons] at hl
    simp only [sput]
    split_ifs with h1 h2
    · exact (srising_cons ..).2 ⟨hb, (srising_cons ..).2 ⟨by simpa using h1, hl.2⟩⟩
    · subst h2; exact (srising_cons ..).2 ⟨hb, hl.2⟩
    · exact (srising_cons ..).2 ⟨hl.1, ih _ (by intro x hx; simp at hx; omega) hl.2⟩

theorem srising_sdel (b : Option Nat) (k : Nat) (l : List (Nat × α)) (hl : srising b l = true) :
    srising b (sdel k l) = true := by
  induction l generalizing b with
  | nil => rfl
  | cons e t ih =>
    obtain ⟨j, w⟩ := e
    rw [srising_cons] at hl
    simp only [sdel]
    split_ifs with h1
    · exact srising_weaken (fun x hx => ⟨j, rfl, le_of_lt (hl.1 x hx)⟩) _ (ih _ hl.2)
    · exact (srising_cons ..).2 ⟨hl.1, ih _ hl.2⟩

theorem srising_filter (p : Nat × α → Bool) (b : Option Nat) (l : List (Nat × α)) (hl : srising b l = true) :
    srising b (l.filter p) = true := by
  induction l generalizing b with
  | nil => rfl
  | cons e t ih =>
    rw [srising_cons] at hl
    rw [List.filter_cons]
    split_ifs
    · exact (srising_cons ..).2 ⟨hl.1, ih _ hl.2⟩
    · exact srising_weaken (fun x hx => ⟨e.1, rfl, le_of_lt (hl.1 x hx)⟩) _ (ih _ hl.2)

/-! ### The canonical form -/

variable [DecidableEq α]

theorem canonical_iff (d : Nat → Option α) (l : List (Nat × α)) :
    canonical d l = true ↔ srising none l = true ∧ ∀ e ∈ l, d e.1 ≠ some e.2 := by
  simp [canonical, scanon]

theorem mem_sput {k : Nat} {v : α} {l : List (Nat × α)} {e : Nat × α} (h : e ∈ sput k v l) : e = (k, v) ∨ e ∈ l := by
  induction l with
  | nil => simp [sput] at h; exact .inl h
  | cons x t ih =>
    obtain ⟨j, w⟩ := x
    simp only [sput] at h
    split_ifs at h <;> simp at h ⊢ <;> tauto

theorem mem_sdel {k : Nat} {l : List (Nat × α)} {e : Nat × α} (h : e ∈ sdel k l) : e ∈ l := by
  induction l with
  | nil => simp [sdel] at h
  | cons x t ih =>
    obtain ⟨j, w⟩ := x
    simp only [sdel] at h
    split_ifs at h <;> simp at h ⊢ <;> tauto

theorem canonical_sput {d : Nat → Option α} {k : Nat} {v : α} {l : List (Nat × α)} (hv : d k ≠ some v)
    (h : canonical d l = true) : canonical d (sput k v l) = true := by
  rw [canonical_iff] at h ⊢
  refine ⟨srising_sput _ _ _ _ (by simp) h.1, fun e he => ?_⟩
  rcases mem_sput he with rfl | he
  · exact hv
  · exact h.2 e he

theorem canonical_sdel {d : Nat → Option α} {k : Nat} {l : List (Nat × α)} (h : canonical d l = true) :
    canonical d (sdel k l) = true := by
  rw [canonical_iff] at h ⊢
  exact ⟨srising_sdel _ _ _ h.1, fun e he => h.2 e (mem_sdel he)⟩

/-- A store by the key's own default keeps the canonical form. -/
theorem canonical_sset {d : Nat → α} {k : Nat} {v : α} {l : List (Nat × α)}
    (h : canonical (fun j => some (d j)) l = true) : canonical (fun j => some (d j)) (sset (d k) k v l) = true := by
  unfold sset; split_ifs with hv
  · exact canonical_sdel h
  · exact canonical_sput (by simpa using Ne.symm hv) h

/-- Entries may go, and the default of keys that are no longer listed may change. -/
theorem canonical_filter {d e : Nat → Option α} {p : Nat → Bool} {l : List (Nat × α)} (hd : ∀ k, p k = true → e k = d k)
    (h : canonical d l = true) : canonical e (l.filter (fun c => p c.1)) = true := by
  rw [canonical_iff] at h ⊢
  refine ⟨srising_filter _ _ _ h.1, fun c hc => ?_⟩
  rw [List.mem_filter] at hc
  rw [hd _ hc.2]; exact h.2 c hc.1

end Sys2Proof
end

