-- ==== Sys2Proof/Laws/Regs.lean ====
section
/-! SUPPORT. Registers and their fields: what one reads after another is written, and the block each indexed register lies in. -/
namespace Sys2Proof
set_option Elab.async false
namespace Machine

/-- A register reads as it was last written (R9). -/
@[simp] theorem rd_wr_same (s : State) (a : Nat) (v : W32) : rd (wr s a v) a = v :=
  sget_sset_same (resetWord a) a v s.regs

/-- A write leaves every other register as it was. -/
theorem rd_wr_ne {a b : Nat} (h : b ≠ a) (s : State) (v : W32) : rd (wr s a v) b = rd s b := by
  show (sget b (sset (resetWord a) a v s.regs)).getD _ = _
  rw [sget_sset_ne h]; rfl

theorem rd_wr (s : State) (a b : Nat) (v : W32) : rd (wr s a v) b = if b = a then v else rd s b := by
  split_ifs with h
  · subst h; exact rd_wr_same ..
  · exact rd_wr_ne h s v

/-- A reset of a class of registers: they read their reset words, the others stay (R586). -/
theorem rd_resetRegs (s : State) (p : RegClass → Bool) (a : Nat) :
    rd (resetRegs s p) a = if p (regClass a) then resetWord a else rd s a := by
  show (sget a (s.regs.filter (fun r => !p (regClass r.1)))).getD _ = _
  rw [sget_filter (fun k => !p (regClass k))]
  cases h : p (regClass a) <;> simp [rd]

theorem ofNat_bit (x j : Nat) (h : j < 32) : (BitVec.ofNat 32 x)[j]'h = x.testBit j := by
  rw [← BitVec.getLsbD_eq_getElem, BitVec.getLsbD_ofNat]; simp [h]

/-- The bits of an inserted field. -/
theorem extract_insert_same (w : W32) (lo n v : Nat) (h : lo + n ≤ 32) : extractBits (insertBits w lo n v) lo n = v % 2 ^ n := by
  apply Nat.eq_of_testBit_eq
  intro i
  by_cases hi : i < n
  · have h1 : lo + i < 32 := by omega
    have h2 : ((2 ^ n - 1) * 2 ^ lo).testBit (lo + i) = true := by
      rw [Nat.testBit_mul_two_pow, Nat.testBit_two_pow_sub_one]; simp [hi]
    have h3 : (v % 2 ^ n * 2 ^ lo).testBit (lo + i) = (v % 2 ^ n).testBit i := by
      rw [Nat.testBit_mul_two_pow]; simp
    simp only [extractBits, insertBits, Nat.testBit_mod_two_pow, Nat.testBit_div_two_pow, BitVec.testBit_toNat]
    simp [hi, h1, Nat.add_comm i lo, ofNat_bit, h2, h3, Nat.testBit_mod_two_pow]
  · have h2 : (v % 2 ^ n).testBit i = false := by rw [Nat.testBit_mod_two_pow]; simp [hi]
    simp only [extractBits, Nat.testBit_mod_two_pow, h2]; simp [hi]

/-- A field that does not meet the inserted bits stays. -/
theorem extract_insert_disj (w : W32) (lo n v lo' n' : Nat) (h : lo + n ≤ lo' ∨ lo' + n' ≤ lo) :
    extractBits (insertBits w lo n v) lo' n' = extractBits w lo' n' := by
  apply Nat.eq_of_testBit_eq
  intro i
  by_cases hi : i < n'
  · have h2 : ((2 ^ n - 1) * 2 ^ lo).testBit (lo' + i) = false := by
      rw [Nat.testBit_mul_two_pow, Nat.testBit_two_pow_sub_one]; simp; omega
    have h3 : (v % 2 ^ n * 2 ^ lo).testBit (lo' + i) = false := by
      rw [Nat.testBit_mul_two_pow, Nat.testBit_mod_two_pow]; simp; omega
    simp only [extractBits, insertBits, Nat.testBit_mod_two_pow, Nat.testBit_div_two_pow, BitVec.testBit_toNat]
    by_cases h1 : lo' + i < 32
    · simp [hi, h1, Nat.add_comm i lo', ofNat_bit, h2, h3]
    · simp [Nat.add_comm i lo', BitVec.getLsbD_of_ge, Nat.le_of_not_lt h1]
  · simp only [extractBits, Nat.testBit_mod_two_pow]; simp [hi]

/-- A field reads as it was last written, cut to its width. -/
theorem getf_setf_same (s : State) (f : Fld) (v : Nat) (h : f.lo + f.width ≤ 32) : getf (setf s f v) f = v % 2 ^ f.width := by
  unfold getf setf; rw [rd_wr_same]; exact extract_insert_same _ _ _ _ h

/-- A field of another register stays. -/
theorem getf_setf_reg (s : State) (f g : Fld) (v : Nat) (h : g.reg ≠ f.reg) : getf (setf s f v) g = getf s g := by
  unfold getf setf; rw [rd_wr_ne h]

/-- A field of other bits stays. -/
theorem getf_setf_bits (s : State) (f g : Fld) (v : Nat) (h : f.lo + f.width ≤ g.lo ∨ g.lo + g.width ≤ f.lo) :
    getf (setf s f v) g = getf s g := by
  by_cases e : g.reg = f.reg
  · unfold getf setf; rw [e, rd_wr_same]; exact extract_insert_disj _ _ _ _ _ _ h
  · exact getf_setf_reg s f g v e

/-- A register that is not the field's stays. -/
theorem rd_setf_ne {f : Fld} {b : Nat} (h : b ≠ f.reg) (s : State) (v : Nat) : rd (setf s f v) b = rd s b := rd_wr_ne h s _

end Machine

/-! ### Blocks of the indexed registers (Table 23-1) -/

theorem R.RST_LOG_W_blk (i : Nat) : blockOf (R.RST_LOG_W i) = 2 := by simp only [blockOf, R.RST_LOG_W]; omega
theorem R.RST_DOM_STAT_blk (i : Nat) : blockOf (R.RST_DOM_STAT i) = 2 := by simp only [blockOf, R.RST_DOM_STAT]; omega
theorem R.CFG_PLANE_blk (i : Nat) : blockOf (R.CFG_PLANE i) = 3 := by simp only [blockOf, R.CFG_PLANE]; omega
theorem R.CFG_WEAR_blk (i : Nat) : blockOf (R.CFG_WEAR i) = 3 := by simp only [blockOf, R.CFG_WEAR]; omega
theorem R.DEP_SLOT_W0_blk (i : Nat) : blockOf (R.DEP_SLOT_W0 i) = 4 := by simp only [blockOf, R.DEP_SLOT_W0]; omega
theorem R.DEP_SLOT_W1_blk (i : Nat) : blockOf (R.DEP_SLOT_W1 i) = 4 := by simp only [blockOf, R.DEP_SLOT_W1]; omega
theorem R.NVA_DATA_blk (i : Nat) : blockOf (R.NVA_DATA i) = 5 := by simp only [blockOf, R.NVA_DATA]; omega
theorem R.NVA_XO_blk (i : Nat) : blockOf (R.NVA_XO i) = 5 := by simp only [blockOf, R.NVA_XO]; omega
theorem R.NVA_WP_SET_blk (i : Nat) : blockOf (R.NVA_WP_SET i) = 5 := by simp only [blockOf, R.NVA_WP_SET]; omega
theorem R.NVA_WP_CLR_blk (i : Nat) : blockOf (R.NVA_WP_CLR i) = 5 := by simp only [blockOf, R.NVA_WP_CLR]; omega
theorem R.NVA_ECNT_blk (i : Nat) : blockOf (R.NVA_ECNT i) = 5 := by simp only [blockOf, R.NVA_ECNT]; omega
theorem R.BNK_CTL_blk (i : Nat) : blockOf (R.BNK_CTL i) = 6 := by simp only [blockOf, R.BNK_CTL]; omega
theorem R.BNK_STAT_blk (i : Nat) : blockOf (R.BNK_STAT i) = 6 := by simp only [blockOf, R.BNK_STAT]; omega
theorem R.BNK_COLL_blk (i : Nat) : blockOf (R.BNK_COLL i) = 6 := by simp only [blockOf, R.BNK_COLL]; omega
theorem R.BNK_STARVE_blk (i : Nat) : blockOf (R.BNK_STARVE i) = 6 := by simp only [blockOf, R.BNK_STARVE]; omega
theorem R.BNK_MAXWAIT_blk (i : Nat) : blockOf (R.BNK_MAXWAIT i) = 6 := by simp only [blockOf, R.BNK_MAXWAIT]; omega
theorem R.BNK_CLR_blk (i : Nat) : blockOf (R.BNK_CLR i) = 6 := by simp only [blockOf, R.BNK_CLR]; omega
theorem R.BNK_MRES_blk (i : Nat) : blockOf (R.BNK_MRES i) = 6 := by simp only [blockOf, R.BNK_MRES]; omega
theorem R.BNK_MADDR_blk (i : Nat) : blockOf (R.BNK_MADDR i) = 6 := by simp only [blockOf, R.BNK_MADDR]; omega
theorem R.BNK_MBIT_blk (i j : Nat) : blockOf (R.BNK_MBIT i j) = 6 := by simp only [blockOf, R.BNK_MBIT]; omega
theorem R.BNK_FUSE_blk (i j : Nat) : blockOf (R.BNK_FUSE i j) = 6 := by simp only [blockOf, R.BNK_FUSE]; omega
theorem R.BNK_FUSE_PROG_blk (i : Nat) : blockOf (R.BNK_FUSE_PROG i) = 6 := by simp only [blockOf, R.BNK_FUSE_PROG]; omega
theorem R.BNK_EVT_blk (i : Nat) : blockOf (R.BNK_EVT i) = 6 := by simp only [blockOf, R.BNK_EVT]; omega
theorem R.HIF_DEV_UNIT_blk (i : Nat) : blockOf (R.HIF_DEV_UNIT i) = 7 := by simp only [blockOf, R.HIF_DEV_UNIT]; omega
theorem R.HIF_WIN_BASE_blk (i : Nat) : blockOf (R.HIF_WIN_BASE i) = 7 := by simp only [blockOf, R.HIF_WIN_BASE]; omega
theorem R.HIF_WIN_UNIT_blk (i : Nat) : blockOf (R.HIF_WIN_UNIT i) = 7 := by simp only [blockOf, R.HIF_WIN_UNIT]; omega
theorem R.HIF_CLASS_WAIT_blk (i : Nat) : blockOf (R.HIF_CLASS_WAIT i) = 7 := by simp only [blockOf, R.HIF_CLASS_WAIT]; omega
theorem R.HIF_MSIX_blk (i j : Nat) : blockOf (R.HIF_MSIX i j) = 7 := by simp only [blockOf, R.HIF_MSIX]; omega
theorem R.HIF_PBA_blk (i : Nat) : blockOf (R.HIF_PBA i) = 7 := by simp only [blockOf, R.HIF_PBA]; omega
theorem R.CTX_CTL_blk (i : Nat) : blockOf (R.CTX_CTL i) = 8 := by simp only [blockOf, R.CTX_CTL]; omega
theorem R.CTX_STAT_blk (i : Nat) : blockOf (R.CTX_STAT i) = 8 := by simp only [blockOf, R.CTX_STAT]; omega
theorem R.CTX_SQ_LO_blk (i : Nat) : blockOf (R.CTX_SQ_LO i) = 8 := by simp only [blockOf, R.CTX_SQ_LO]; omega
theorem R.CTX_SQ_HI_blk (i : Nat) : blockOf (R.CTX_SQ_HI i) = 8 := by simp only [blockOf, R.CTX_SQ_HI]; omega
theorem R.CTX_CQ_LO_blk (i : Nat) : blockOf (R.CTX_CQ_LO i) = 8 := by simp only [blockOf, R.CTX_CQ_LO]; omega
theorem R.CTX_CQ_HI_blk (i : Nat) : blockOf (R.CTX_CQ_HI i) = 8 := by simp only [blockOf, R.CTX_CQ_HI]; omega
theorem R.CTX_WB_LO_blk (i : Nat) : blockOf (R.CTX_WB_LO i) = 8 := by simp only [blockOf, R.CTX_WB_LO]; omega
theorem R.CTX_WB_HI_blk (i : Nat) : blockOf (R.CTX_WB_HI i) = 8 := by simp only [blockOf, R.CTX_WB_HI]; omega
theorem R.CTX_ENG_blk (i : Nat) : blockOf (R.CTX_ENG i) = 8 := by simp only [blockOf, R.CTX_ENG]; omega
theorem R.CTX_BWIN_blk (i : Nat) : blockOf (R.CTX_BWIN i) = 8 := by simp only [blockOf, R.CTX_BWIN]; omega
theorem R.CTX_LIM_blk (i : Nat) : blockOf (R.CTX_LIM i) = 8 := by simp only [blockOf, R.CTX_LIM]; omega
theorem R.CTX_INT_blk (i : Nat) : blockOf (R.CTX_INT i) = 8 := by simp only [blockOf, R.CTX_INT]; omega
theorem R.CTX_SQ_IDX_blk (i : Nat) : blockOf (R.CTX_SQ_IDX i) = 8 := by simp only [blockOf, R.CTX_SQ_IDX]; omega
theorem R.CTX_CQ_IDX_blk (i : Nat) : blockOf (R.CTX_CQ_IDX i) = 8 := by simp only [blockOf, R.CTX_CQ_IDX]; omega
theorem R.CTX_DONE_blk (i : Nat) : blockOf (R.CTX_DONE i) = 8 := by simp only [blockOf, R.CTX_DONE]; omega
theorem R.CTX_EVT_blk (i : Nat) : blockOf (R.CTX_EVT i) = 8 := by simp only [blockOf, R.CTX_EVT]; omega
theorem R.LDG_CHN_blk (i : Nat) : blockOf (R.LDG_CHN i) = 9 := by simp only [blockOf, R.LDG_CHN]; omega
theorem R.LDG_FROZEN_blk (i : Nat) : blockOf (R.LDG_FROZEN i) = 9 := by simp only [blockOf, R.LDG_FROZEN]; omega
theorem R.CHN_PCTL_blk (i : Nat) : blockOf (R.CHN_PCTL i) = 10 := by simp only [blockOf, R.CHN_PCTL]; omega
theorem R.CHN_PSTAT_blk (i : Nat) : blockOf (R.CHN_PSTAT i) = 10 := by simp only [blockOf, R.CHN_PSTAT]; omega
theorem R.CHN_KEYGEN_blk (i : Nat) : blockOf (R.CHN_KEYGEN i) = 10 := by simp only [blockOf, R.CHN_KEYGEN]; omega
theorem R.CHN_CNT0_blk (i : Nat) : blockOf (R.CHN_CNT0 i) = 10 := by simp only [blockOf, R.CHN_CNT0]; omega
theorem R.CHN_CNT1_blk (i : Nat) : blockOf (R.CHN_CNT1 i) = 10 := by simp only [blockOf, R.CHN_CNT1]; omega
theorem R.CHN_CNT2_blk (i : Nat) : blockOf (R.CHN_CNT2 i) = 10 := by simp only [blockOf, R.CHN_CNT2]; omega
theorem R.CHN_CNT3_blk (i : Nat) : blockOf (R.CHN_CNT3 i) = 10 := by simp only [blockOf, R.CHN_CNT3]; omega
theorem R.CHN_REPLAY_blk (i : Nat) : blockOf (R.CHN_REPLAY i) = 10 := by simp only [blockOf, R.CHN_REPLAY]; omega
theorem R.CHN_PRBS_blk (i : Nat) : blockOf (R.CHN_PRBS i) = 10 := by simp only [blockOf, R.CHN_PRBS]; omega
theorem R.CHN_PRBS_ERR_blk (i : Nat) : blockOf (R.CHN_PRBS_ERR i) = 10 := by simp only [blockOf, R.CHN_PRBS_ERR]; omega
theorem R.CHN_EVT_blk (i : Nat) : blockOf (R.CHN_EVT i) = 10 := by simp only [blockOf, R.CHN_EVT]; omega
theorem R.CHN_LOST_blk (i : Nat) : blockOf (R.CHN_LOST i) = 10 := by simp only [blockOf, R.CHN_LOST]; omega
theorem R.CHN_CNT_CLR_blk (i : Nat) : blockOf (R.CHN_CNT_CLR i) = 10 := by simp only [blockOf, R.CHN_CNT_CLR]; omega
theorem R.CHN_VL_blk (i j : Nat) : blockOf (R.CHN_VL i j) = 10 := by simp only [blockOf, R.CHN_VL]; omega
theorem R.ENU_REACH_blk (i : Nat) : blockOf (R.ENU_REACH i) = 11 := by simp only [blockOf, R.ENU_REACH]; omega
theorem R.ENU_TAB_DLO_blk (i : Nat) : blockOf (R.ENU_TAB_DLO i) = 11 := by simp only [blockOf, R.ENU_TAB_DLO]; omega
theorem R.ENU_TAB_DHI_blk (i : Nat) : blockOf (R.ENU_TAB_DHI i) = 11 := by simp only [blockOf, R.ENU_TAB_DHI]; omega
theorem R.ENU_TAB_FLG_blk (i : Nat) : blockOf (R.ENU_TAB_FLG i) = 11 := by simp only [blockOf, R.ENU_TAB_FLG]; omega
theorem R.HAR_LCTL_blk (i : Nat) : blockOf (R.HAR_LCTL i) = 12 := by simp only [blockOf, R.HAR_LCTL]; omega
theorem R.HAR_LSTAT_blk (i : Nat) : blockOf (R.HAR_LSTAT i) = 12 := by simp only [blockOf, R.HAR_LSTAT]; omega
theorem R.HAR_LCNT_blk (i : Nat) : blockOf (R.HAR_LCNT i) = 12 := by simp only [blockOf, R.HAR_LCNT]; omega
theorem R.HAR_BCFG_blk (i : Nat) : blockOf (R.HAR_BCFG i) = 12 := by simp only [blockOf, R.HAR_BCFG]; omega
theorem R.HAR_DWIN_LO_blk (i : Nat) : blockOf (R.HAR_DWIN_LO i) = 12 := by simp only [blockOf, R.HAR_DWIN_LO]; omega
theorem R.HAR_DWIN_HI_blk (i : Nat) : blockOf (R.HAR_DWIN_HI i) = 12 := by simp only [blockOf, R.HAR_DWIN_HI]; omega
theorem R.HAR_RWIN_LO_blk (i : Nat) : blockOf (R.HAR_RWIN_LO i) = 12 := by simp only [blockOf, R.HAR_RWIN_LO]; omega
theorem R.HAR_RWIN_HI_blk (i : Nat) : blockOf (R.HAR_RWIN_HI i) = 12 := by simp only [blockOf, R.HAR_RWIN_HI]; omega
theorem R.HAR_BRD_W0_blk (i j : Nat) : blockOf (R.HAR_BRD_W0 i j) = 12 := by simp only [blockOf, R.HAR_BRD_W0]; omega
theorem R.HAR_BRD_W1_blk (i j : Nat) : blockOf (R.HAR_BRD_W1 i j) = 12 := by simp only [blockOf, R.HAR_BRD_W1]; omega
theorem R.SFQ_CFG_blk (i : Nat) : blockOf (R.SFQ_CFG i) = 13 := by simp only [blockOf, R.SFQ_CFG]; omega
theorem R.SFQ_WM_blk (i : Nat) : blockOf (R.SFQ_WM i) = 13 := by simp only [blockOf, R.SFQ_WM]; omega
theorem R.SFQ_STAT_blk (i : Nat) : blockOf (R.SFQ_STAT i) = 13 := by simp only [blockOf, R.SFQ_STAT]; omega
theorem R.SFQ_CNT_blk (i : Nat) : blockOf (R.SFQ_CNT i) = 13 := by simp only [blockOf, R.SFQ_CNT]; omega
theorem R.SFQ_CNT2_blk (i : Nat) : blockOf (R.SFQ_CNT2 i) = 13 := by simp only [blockOf, R.SFQ_CNT2]; omega
theorem R.SFQ_XCTX_blk (i : Nat) : blockOf (R.SFQ_XCTX i) = 13 := by simp only [blockOf, R.SFQ_XCTX]; omega
theorem R.SFQ_MAX_blk (i : Nat) : blockOf (R.SFQ_MAX i) = 13 := by simp only [blockOf, R.SFQ_MAX]; omega
theorem R.SFQ_XOFF_blk (i : Nat) : blockOf (R.SFQ_XOFF i) = 13 := by simp only [blockOf, R.SFQ_XOFF]; omega
theorem R.SFQ_XOFF_EVT_blk (i : Nat) : blockOf (R.SFQ_XOFF_EVT i) = 13 := by simp only [blockOf, R.SFQ_XOFF_EVT]; omega
theorem R.SFQ_POP_W_blk (i j : Nat) : blockOf (R.SFQ_POP_W i j) = 13 := by simp only [blockOf, R.SFQ_POP_W]; omega
theorem R.SFQ_POP_TAG_blk (i : Nat) : blockOf (R.SFQ_POP_TAG i) = 13 := by simp only [blockOf, R.SFQ_POP_TAG]; omega
theorem R.CAN_CTL_blk (i : Nat) : blockOf (R.CAN_CTL i) = 14 := by simp only [blockOf, R.CAN_CTL]; omega
theorem R.CAN_STAT_blk (i : Nat) : blockOf (R.CAN_STAT i) = 14 := by simp only [blockOf, R.CAN_STAT]; omega
theorem R.CAN_NBT_blk (i : Nat) : blockOf (R.CAN_NBT i) = 14 := by simp only [blockOf, R.CAN_NBT]; omega
theorem R.CAN_DBT_blk (i : Nat) : blockOf (R.CAN_DBT i) = 14 := by simp only [blockOf, R.CAN_DBT]; omega
theorem R.CAN_TDC_blk (i : Nat) : blockOf (R.CAN_TDC i) = 14 := by simp only [blockOf, R.CAN_TDC]; omega
theorem R.CAN_ERRC_blk (i : Nat) : blockOf (R.CAN_ERRC i) = 14 := by simp only [blockOf, R.CAN_ERRC]; omega
theorem R.CAN_TEST_blk (i : Nat) : blockOf (R.CAN_TEST i) = 14 := by simp only [blockOf, R.CAN_TEST]; omega
theorem R.CAN_EVT_blk (i : Nat) : blockOf (R.CAN_EVT i) = 14 := by simp only [blockOf, R.CAN_EVT]; omega
theorem R.CAN_CNT_blk (i : Nat) : blockOf (R.CAN_CNT i) = 14 := by simp only [blockOf, R.CAN_CNT]; omega
theorem R.CAN_CNT2_blk (i : Nat) : blockOf (R.CAN_CNT2 i) = 14 := by simp only [blockOf, R.CAN_CNT2]; omega
theorem R.CAN_CNT3_blk (i : Nat) : blockOf (R.CAN_CNT3 i) = 14 := by simp only [blockOf, R.CAN_CNT3]; omega
theorem R.CAN_TXB_PEND_blk (i : Nat) : blockOf (R.CAN_TXB_PEND i) = 14 := by simp only [blockOf, R.CAN_TXB_PEND]; omega
theorem R.CAN_TXB_HELD_blk (i : Nat) : blockOf (R.CAN_TXB_HELD i) = 14 := by simp only [blockOf, R.CAN_TXB_HELD]; omega
theorem R.CAN_FLT_ID_blk (i j : Nat) : blockOf (R.CAN_FLT_ID i j) = 14 := by simp only [blockOf, R.CAN_FLT_ID]; omega
theorem R.CAN_FLT_MASK_blk (i j : Nat) : blockOf (R.CAN_FLT_MASK i j) = 14 := by simp only [blockOf, R.CAN_FLT_MASK]; omega
theorem R.CAN_FLT_FIFO_blk (i j : Nat) : blockOf (R.CAN_FLT_FIFO i j) = 14 := by simp only [blockOf, R.CAN_FLT_FIFO]; omega
theorem R.CAN_ELOG_SEL_blk (i : Nat) : blockOf (R.CAN_ELOG_SEL i) = 14 := by simp only [blockOf, R.CAN_ELOG_SEL]; omega
theorem R.CAN_ELOG_W0_blk (i : Nat) : blockOf (R.CAN_ELOG_W0 i) = 14 := by simp only [blockOf, R.CAN_ELOG_W0]; omega
theorem R.CAN_ELOG_W1_blk (i : Nat) : blockOf (R.CAN_ELOG_W1 i) = 14 := by simp only [blockOf, R.CAN_ELOG_W1]; omega
theorem R.CAN_SWK_CTL_blk (i : Nat) : blockOf (R.CAN_SWK_CTL i) = 14 := by simp only [blockOf, R.CAN_SWK_CTL]; omega
theorem R.CAN_SWK_ID_blk (i : Nat) : blockOf (R.CAN_SWK_ID i) = 14 := by simp only [blockOf, R.CAN_SWK_ID]; omega
theorem R.CAN_SWK_MASK_blk (i : Nat) : blockOf (R.CAN_SWK_MASK i) = 14 := by simp only [blockOf, R.CAN_SWK_MASK]; omega
theorem R.CAN_SWK_DATA_LO_blk (i : Nat) : blockOf (R.CAN_SWK_DATA_LO i) = 14 := by simp only [blockOf, R.CAN_SWK_DATA_LO]; omega
theorem R.CAN_SWK_DATA_HI_blk (i : Nat) : blockOf (R.CAN_SWK_DATA_HI i) = 14 := by simp only [blockOf, R.CAN_SWK_DATA_HI]; omega
theorem R.CAN_SWK_SRC_blk (i : Nat) : blockOf (R.CAN_SWK_SRC i) = 14 := by simp only [blockOf, R.CAN_SWK_SRC]; omega
theorem R.LIN_CTL_blk (i : Nat) : blockOf (R.LIN_CTL i) = 14 := by simp only [blockOf, R.LIN_CTL]; omega
theorem R.LIN_DIV_blk (i : Nat) : blockOf (R.LIN_DIV i) = 14 := by simp only [blockOf, R.LIN_DIV]; omega
theorem R.LIN_STAT_blk (i : Nat) : blockOf (R.LIN_STAT i) = 14 := by simp only [blockOf, R.LIN_STAT]; omega
theorem R.LIN_TIME_blk (i : Nat) : blockOf (R.LIN_TIME i) = 14 := by simp only [blockOf, R.LIN_TIME]; omega
theorem R.LIN_EVT_blk (i : Nat) : blockOf (R.LIN_EVT i) = 14 := by simp only [blockOf, R.LIN_EVT]; omega
theorem R.LIN_CNT_blk (i : Nat) : blockOf (R.LIN_CNT i) = 14 := by simp only [blockOf, R.LIN_CNT]; omega
theorem R.LIN_SWK_blk (i : Nat) : blockOf (R.LIN_SWK i) = 14 := by simp only [blockOf, R.LIN_SWK]; omega
theorem R.LIN_FLT_ID_blk (i j : Nat) : blockOf (R.LIN_FLT_ID i j) = 14 := by simp only [blockOf, R.LIN_FLT_ID]; omega
theorem R.LIN_FLT_MASK_blk (i j : Nat) : blockOf (R.LIN_FLT_MASK i j) = 14 := by simp only [blockOf, R.LIN_FLT_MASK]; omega
theorem R.LIN_FLT_FIFO_blk (i j : Nat) : blockOf (R.LIN_FLT_FIFO i j) = 14 := by simp only [blockOf, R.LIN_FLT_FIFO]; omega
theorem R.LIN_RTAB_blk (i j : Nat) : blockOf (R.LIN_RTAB i j) = 14 := by simp only [blockOf, R.LIN_RTAB]; omega
theorem R.SENT_CTL_blk (i : Nat) : blockOf (R.SENT_CTL i) = 14 := by simp only [blockOf, R.SENT_CTL]; omega
theorem R.SENT_TICK_blk (i : Nat) : blockOf (R.SENT_TICK i) = 14 := by simp only [blockOf, R.SENT_TICK]; omega
theorem R.SENT_STAT_blk (i : Nat) : blockOf (R.SENT_STAT i) = 14 := by simp only [blockOf, R.SENT_STAT]; omega
theorem R.SENT_EVT_blk (i : Nat) : blockOf (R.SENT_EVT i) = 14 := by simp only [blockOf, R.SENT_EVT]; omega
theorem R.SENT_CNT_blk (i : Nat) : blockOf (R.SENT_CNT i) = 14 := by simp only [blockOf, R.SENT_CNT]; omega
theorem R.SENT_FLT_blk (i : Nat) : blockOf (R.SENT_FLT i) = 14 := by simp only [blockOf, R.SENT_FLT]; omega
theorem R.OSP_PRF_blk (i j : Nat) : blockOf (R.OSP_PRF i j) = 15 := by simp only [blockOf, R.OSP_PRF]; omega
theorem R.TAG_LOCK_blk (i : Nat) : blockOf (R.TAG_LOCK i) = 17 := by simp only [blockOf, R.TAG_LOCK]; omega
theorem R.SCR_KEYW_blk (i : Nat) : blockOf (R.SCR_KEYW i) = 18 := by simp only [blockOf, R.SCR_KEYW]; omega
theorem R.SCR_KSLOT_blk (i : Nat) : blockOf (R.SCR_KSLOT i) = 18 := by simp only [blockOf, R.SCR_KSLOT]; omega
theorem R.SCR_RNG_CTL_blk (i : Nat) : blockOf (R.SCR_RNG_CTL i) = 18 := by simp only [blockOf, R.SCR_RNG_CTL]; omega
theorem R.SCR_RNG_TAG_blk (i : Nat) : blockOf (R.SCR_RNG_TAG i) = 18 := by simp only [blockOf, R.SCR_RNG_TAG]; omega
theorem R.SCR_RNG_EPL_blk (i : Nat) : blockOf (R.SCR_RNG_EPL i) = 18 := by simp only [blockOf, R.SCR_RNG_EPL]; omega
theorem R.SCR_RNG_EPH_blk (i : Nat) : blockOf (R.SCR_RNG_EPH i) = 18 := by simp only [blockOf, R.SCR_RNG_EPH]; omega
theorem R.SCR_RNG_PROG_blk (i : Nat) : blockOf (R.SCR_RNG_PROG i) = 18 := by simp only [blockOf, R.SCR_RNG_PROG]; omega
theorem R.SCR_RNG_CNT_blk (i : Nat) : blockOf (R.SCR_RNG_CNT i) = 18 := by simp only [blockOf, R.SCR_RNG_CNT]; omega
theorem R.KIT_FWH_blk (i : Nat) : blockOf (R.KIT_FWH i) = 19 := by simp only [blockOf, R.KIT_FWH]; omega
theorem R.KIT_MTIME_blk (i : Nat) : blockOf (R.KIT_MTIME i) = 19 := by simp only [blockOf, R.KIT_MTIME]; omega
theorem R.KIT_MTIMECMP_blk (i : Nat) : blockOf (R.KIT_MTIMECMP i) = 19 := by simp only [blockOf, R.KIT_MTIMECMP]; omega
theorem R.KIT_MBX_H2K_W_blk (i : Nat) : blockOf (R.KIT_MBX_H2K_W i) = 19 := by simp only [blockOf, R.KIT_MBX_H2K_W]; omega
theorem R.KIT_MBX_K2H_W_blk (i : Nat) : blockOf (R.KIT_MBX_K2H_W i) = 19 := by simp only [blockOf, R.KIT_MBX_K2H_W]; omega
theorem R.BST_SIG_blk (i : Nat) : blockOf (R.BST_SIG i) = 21 := by simp only [blockOf, R.BST_SIG]; omega
theorem R.BST_GOLD_blk (i : Nat) : blockOf (R.BST_GOLD i) = 21 := by simp only [blockOf, R.BST_GOLD]; omega
theorem R.BST_INFO_blk (i : Nat) : blockOf (R.BST_INFO i) = 21 := by simp only [blockOf, R.BST_INFO]; omega
theorem R.TLM_ACT_OPS_blk (i : Nat) : blockOf (R.TLM_ACT_OPS i) = 22 := by simp only [blockOf, R.TLM_ACT_OPS]; omega
theorem R.TLM_ACT_BUSY_blk (i : Nat) : blockOf (R.TLM_ACT_BUSY i) = 22 := by simp only [blockOf, R.TLM_ACT_BUSY]; omega
theorem R.TLM_CH_NOW_blk (i : Nat) : blockOf (R.TLM_CH_NOW i) = 22 := by simp only [blockOf, R.TLM_CH_NOW]; omega
theorem R.TLM_CH_MAX_blk (i : Nat) : blockOf (R.TLM_CH_MAX i) = 22 := by simp only [blockOf, R.TLM_CH_MAX]; omega
theorem R.TLM_CH_THR_blk (i : Nat) : blockOf (R.TLM_CH_THR i) = 22 := by simp only [blockOf, R.TLM_CH_THR]; omega
theorem R.FAB_PACE_blk (i : Nat) : blockOf (R.FAB_PACE i) = 23 := by simp only [blockOf, R.FAB_PACE]; omega
theorem R.FAB_SOCK_blk (i : Nat) : blockOf (R.FAB_SOCK i) = 23 := by simp only [blockOf, R.FAB_SOCK]; omega
theorem F.RST_DOM_STAT_RESETS_blk (i : Nat) : blockOf (F.RST_DOM_STAT_RESETS i).reg = 2 := R.RST_DOM_STAT_blk _
theorem F.RST_DOM_STAT_ABORTS_blk (i : Nat) : blockOf (F.RST_DOM_STAT_ABORTS i).reg = 2 := R.RST_DOM_STAT_blk _
theorem F.RST_DOM_STAT_DISCARDS_blk (i : Nat) : blockOf (F.RST_DOM_STAT_DISCARDS i).reg = 2 := R.RST_DOM_STAT_blk _
theorem F.CFG_PLANE_FRAME_CNT_blk (i : Nat) : blockOf (F.CFG_PLANE_FRAME_CNT i).reg = 3 := R.CFG_PLANE_blk _
theorem F.CFG_PLANE_VALID_blk (i : Nat) : blockOf (F.CFG_PLANE_VALID i).reg = 3 := R.CFG_PLANE_blk _
theorem F.CFG_PLANE_BOOT_FAILS_blk (i : Nat) : blockOf (F.CFG_PLANE_BOOT_FAILS i).reg = 3 := R.CFG_PLANE_blk _
theorem F.CFG_WEAR_WEAR_blk (i : Nat) : blockOf (F.CFG_WEAR_WEAR i).reg = 3 := R.CFG_WEAR_blk _
theorem F.DEP_SLOT_W0_W_blk (i : Nat) : blockOf (F.DEP_SLOT_W0_W i).reg = 4 := R.DEP_SLOT_W0_blk _
theorem F.DEP_SLOT_W1_W_blk (i : Nat) : blockOf (F.DEP_SLOT_W1_W i).reg = 4 := R.DEP_SLOT_W1_blk _
theorem F.NVA_WP_SET_W_blk (i : Nat) : blockOf (F.NVA_WP_SET_W i).reg = 5 := R.NVA_WP_SET_blk _
theorem F.NVA_WP_CLR_W_blk (i : Nat) : blockOf (F.NVA_WP_CLR_W i).reg = 5 := R.NVA_WP_CLR_blk _
theorem F.NVA_DATA_W_blk (i : Nat) : blockOf (F.NVA_DATA_W i).reg = 5 := R.NVA_DATA_blk _
theorem F.NVA_XO_W_blk (i : Nat) : blockOf (F.NVA_XO_W i).reg = 5 := R.NVA_XO_blk _
theorem F.NVA_ECNT_COUNT_blk (i : Nat) : blockOf (F.NVA_ECNT_COUNT i).reg = 5 := R.NVA_ECNT_blk _
theorem F.BNK_CTL_MODE_blk (i : Nat) : blockOf (F.BNK_CTL_MODE i).reg = 6 := R.BNK_CTL_blk _
theorem F.BNK_CTL_PRIO_blk (i : Nat) : blockOf (F.BNK_CTL_PRIO i).reg = 6 := R.BNK_CTL_blk _
theorem F.BNK_CTL_FAULT_ALARM_blk (i : Nat) : blockOf (F.BNK_CTL_FAULT_ALARM i).reg = 6 := R.BNK_CTL_blk _
theorem F.BNK_STAT_STATE_blk (i : Nat) : blockOf (F.BNK_STAT_STATE i).reg = 6 := R.BNK_STAT_blk _
theorem F.BNK_STAT_MARCH_blk (i : Nat) : blockOf (F.BNK_STAT_MARCH i).reg = 6 := R.BNK_STAT_blk _
theorem F.BNK_STAT_ROW_blk (i : Nat) : blockOf (F.BNK_STAT_ROW i).reg = 6 := R.BNK_STAT_blk _
theorem F.BNK_COLL_COLL_blk (i : Nat) : blockOf (F.BNK_COLL_COLL i).reg = 6 := R.BNK_COLL_blk _
theorem F.BNK_COLL_LOCKWAIT_blk (i : Nat) : blockOf (F.BNK_COLL_LOCKWAIT i).reg = 6 := R.BNK_COLL_blk _
theorem F.BNK_STARVE_STARVE_blk (i : Nat) : blockOf (F.BNK_STARVE_STARVE i).reg = 6 := R.BNK_STARVE_blk _
theorem F.BNK_MAXWAIT_TURNS_blk (i : Nat) : blockOf (F.BNK_MAXWAIT_TURNS i).reg = 6 := R.BNK_MAXWAIT_blk _
theorem F.BNK_CLR_COLL_blk (i : Nat) : blockOf (F.BNK_CLR_COLL i).reg = 6 := R.BNK_CLR_blk _
theorem F.BNK_CLR_STARVE_blk (i : Nat) : blockOf (F.BNK_CLR_STARVE i).reg = 6 := R.BNK_CLR_blk _
theorem F.BNK_CLR_MRES_blk (i : Nat) : blockOf (F.BNK_CLR_MRES i).reg = 6 := R.BNK_CLR_blk _
theorem F.BNK_MRES_FAULTS_blk (i : Nat) : blockOf (F.BNK_MRES_FAULTS i).reg = 6 := R.BNK_MRES_blk _
theorem F.BNK_MRES_ELEMENT_blk (i : Nat) : blockOf (F.BNK_MRES_ELEMENT i).reg = 6 := R.BNK_MRES_blk _
theorem F.BNK_MRES_MODE_blk (i : Nat) : blockOf (F.BNK_MRES_MODE i).reg = 6 := R.BNK_MRES_blk _
theorem F.BNK_MRES_DONE_blk (i : Nat) : blockOf (F.BNK_MRES_DONE i).reg = 6 := R.BNK_MRES_blk _
theorem F.BNK_MRES_SHADOW_FAIL_blk (i : Nat) : blockOf (F.BNK_MRES_SHADOW_FAIL i).reg = 6 := R.BNK_MRES_blk _
theorem F.BNK_MADDR_ADDR_blk (i : Nat) : blockOf (F.BNK_MADDR_ADDR i).reg = 6 := R.BNK_MADDR_blk _
theorem F.BNK_MBIT_BITS_blk (i j : Nat) : blockOf (F.BNK_MBIT_BITS i j).reg = 6 := R.BNK_MBIT_blk _ _
theorem F.BNK_FUSE_VALID_blk (i j : Nat) : blockOf (F.BNK_FUSE_VALID i j).reg = 6 := R.BNK_FUSE_blk _ _
theorem F.BNK_FUSE_SLICE_blk (i j : Nat) : blockOf (F.BNK_FUSE_SLICE i j).reg = 6 := R.BNK_FUSE_blk _ _
theorem F.BNK_FUSE_BIT_blk (i j : Nat) : blockOf (F.BNK_FUSE_BIT i j).reg = 6 := R.BNK_FUSE_blk _ _
theorem F.BNK_FUSE_PROG_ENTRY_blk (i : Nat) : blockOf (F.BNK_FUSE_PROG_ENTRY i).reg = 6 := R.BNK_FUSE_PROG_blk _
theorem F.BNK_FUSE_PROG_SLICE_blk (i : Nat) : blockOf (F.BNK_FUSE_PROG_SLICE i).reg = 6 := R.BNK_FUSE_PROG_blk _
theorem F.BNK_FUSE_PROG_BIT_blk (i : Nat) : blockOf (F.BNK_FUSE_PROG_BIT i).reg = 6 := R.BNK_FUSE_PROG_blk _
theorem F.BNK_FUSE_PROG_KEY_blk (i : Nat) : blockOf (F.BNK_FUSE_PROG_KEY i).reg = 6 := R.BNK_FUSE_PROG_blk _
theorem F.BNK_EVT_FAULT_blk (i : Nat) : blockOf (F.BNK_EVT_FAULT i).reg = 6 := R.BNK_EVT_blk _
theorem F.BNK_EVT_FUSE_DENIED_blk (i : Nat) : blockOf (F.BNK_EVT_FUSE_DENIED i).reg = 6 := R.BNK_EVT_blk _
theorem F.BNK_EVT_OFFLINE_ACCESS_blk (i : Nat) : blockOf (F.BNK_EVT_OFFLINE_ACCESS i).reg = 6 := R.BNK_EVT_blk _
theorem F.BNK_EVT_FUSE_DONE_blk (i : Nat) : blockOf (F.BNK_EVT_FUSE_DONE i).reg = 6 := R.BNK_EVT_blk _
theorem F.HIF_DEV_UNIT_UNITS_blk (i : Nat) : blockOf (F.HIF_DEV_UNIT_UNITS i).reg = 7 := R.HIF_DEV_UNIT_blk _
theorem F.HIF_WIN_BASE_BASE_blk (i : Nat) : blockOf (F.HIF_WIN_BASE_BASE i).reg = 7 := R.HIF_WIN_BASE_blk _
theorem F.HIF_WIN_UNIT_UNIT_blk (i : Nat) : blockOf (F.HIF_WIN_UNIT_UNIT i).reg = 7 := R.HIF_WIN_UNIT_blk _
theorem F.HIF_CLASS_WAIT_TURNS_blk (i : Nat) : blockOf (F.HIF_CLASS_WAIT_TURNS i).reg = 7 := R.HIF_CLASS_WAIT_blk _
theorem F.HIF_MSIX_W_blk (i j : Nat) : blockOf (F.HIF_MSIX_W i j).reg = 7 := R.HIF_MSIX_blk _ _
theorem F.HIF_PBA_W_blk (i : Nat) : blockOf (F.HIF_PBA_W i).reg = 7 := R.HIF_PBA_blk _
theorem F.CTX_CTL_EN_blk (i : Nat) : blockOf (F.CTX_CTL_EN i).reg = 8 := R.CTX_CTL_blk _
theorem F.CTX_CTL_OWNER_blk (i : Nat) : blockOf (F.CTX_CTL_OWNER i).reg = 8 := R.CTX_CTL_blk _
theorem F.CTX_CTL_CLASS_blk (i : Nat) : blockOf (F.CTX_CTL_CLASS i).reg = 8 := R.CTX_CTL_blk _
theorem F.CTX_CTL_WEIGHT_blk (i : Nat) : blockOf (F.CTX_CTL_WEIGHT i).reg = 8 := R.CTX_CTL_blk _
theorem F.CTX_CTL_SQ_LOG2_blk (i : Nat) : blockOf (F.CTX_CTL_SQ_LOG2 i).reg = 8 := R.CTX_CTL_blk _
theorem F.CTX_CTL_CQ_LOG2_blk (i : Nat) : blockOf (F.CTX_CTL_CQ_LOG2 i).reg = 8 := R.CTX_CTL_blk _
theorem F.CTX_CTL_WB_EN_blk (i : Nat) : blockOf (F.CTX_CTL_WB_EN i).reg = 8 := R.CTX_CTL_blk _
theorem F.CTX_STAT_STATE_blk (i : Nat) : blockOf (F.CTX_STAT_STATE i).reg = 8 := R.CTX_STAT_blk _
theorem F.CTX_STAT_DISCARDING_blk (i : Nat) : blockOf (F.CTX_STAT_DISCARDING i).reg = 8 := R.CTX_STAT_blk _
theorem F.CTX_STAT_CAUSE_blk (i : Nat) : blockOf (F.CTX_STAT_CAUSE i).reg = 8 := R.CTX_STAT_blk _
theorem F.CTX_STAT_STAGED_blk (i : Nat) : blockOf (F.CTX_STAT_STAGED i).reg = 8 := R.CTX_STAT_blk _
theorem F.CTX_STAT_INFLIGHT_blk (i : Nat) : blockOf (F.CTX_STAT_INFLIGHT i).reg = 8 := R.CTX_STAT_blk _
theorem F.CTX_SQ_LO_SQ_BASE_blk (i : Nat) : blockOf (F.CTX_SQ_LO_SQ_BASE i).reg = 8 := R.CTX_SQ_LO_blk _
theorem F.CTX_SQ_HI_SQ_BASE_blk (i : Nat) : blockOf (F.CTX_SQ_HI_SQ_BASE i).reg = 8 := R.CTX_SQ_HI_blk _
theorem F.CTX_CQ_LO_CQ_BASE_blk (i : Nat) : blockOf (F.CTX_CQ_LO_CQ_BASE i).reg = 8 := R.CTX_CQ_LO_blk _
theorem F.CTX_CQ_HI_CQ_BASE_blk (i : Nat) : blockOf (F.CTX_CQ_HI_CQ_BASE i).reg = 8 := R.CTX_CQ_HI_blk _
theorem F.CTX_WB_LO_WB_ADDR_blk (i : Nat) : blockOf (F.CTX_WB_LO_WB_ADDR i).reg = 8 := R.CTX_WB_LO_blk _
theorem F.CTX_WB_HI_WB_ADDR_blk (i : Nat) : blockOf (F.CTX_WB_HI_WB_ADDR i).reg = 8 := R.CTX_WB_HI_blk _
theorem F.CTX_ENG_MASK_blk (i : Nat) : blockOf (F.CTX_ENG_MASK i).reg = 8 := R.CTX_ENG_blk _
theorem F.CTX_BWIN_FIRST_blk (i : Nat) : blockOf (F.CTX_BWIN_FIRST i).reg = 8 := R.CTX_BWIN_blk _
theorem F.CTX_BWIN_LAST_blk (i : Nat) : blockOf (F.CTX_BWIN_LAST i).reg = 8 := R.CTX_BWIN_blk _
theorem F.CTX_LIM_LIMIT_blk (i : Nat) : blockOf (F.CTX_LIM_LIMIT i).reg = 8 := R.CTX_LIM_blk _
theorem F.CTX_LIM_RESERVE_blk (i : Nat) : blockOf (F.CTX_LIM_RESERVE i).reg = 8 := R.CTX_LIM_blk _
theorem F.CTX_INT_VEC_blk (i : Nat) : blockOf (F.CTX_INT_VEC i).reg = 8 := R.CTX_INT_blk _
theorem F.CTX_INT_MOD_CNT_blk (i : Nat) : blockOf (F.CTX_INT_MOD_CNT i).reg = 8 := R.CTX_INT_blk _
theorem F.CTX_INT_MOD_TIME_blk (i : Nat) : blockOf (F.CTX_INT_MOD_TIME i).reg = 8 := R.CTX_INT_blk _
theorem F.CTX_SQ_IDX_SQ_PI_blk (i : Nat) : blockOf (F.CTX_SQ_IDX_SQ_PI i).reg = 8 := R.CTX_SQ_IDX_blk _
theorem F.CTX_SQ_IDX_SQ_CI_blk (i : Nat) : blockOf (F.CTX_SQ_IDX_SQ_CI i).reg = 8 := R.CTX_SQ_IDX_blk _
theorem F.CTX_CQ_IDX_CQ_PI_blk (i : Nat) : blockOf (F.CTX_CQ_IDX_CQ_PI i).reg = 8 := R.CTX_CQ_IDX_blk _
theorem F.CTX_CQ_IDX_CQ_CI_blk (i : Nat) : blockOf (F.CTX_CQ_IDX_CQ_CI i).reg = 8 := R.CTX_CQ_IDX_blk _
theorem F.CTX_DONE_COUNT_blk (i : Nat) : blockOf (F.CTX_DONE_COUNT i).reg = 8 := R.CTX_DONE_blk _
theorem F.CTX_EVT_CFG_LOCKED_blk (i : Nat) : blockOf (F.CTX_EVT_CFG_LOCKED i).reg = 8 := R.CTX_EVT_blk _
theorem F.CTX_EVT_ENABLE_REFUSED_blk (i : Nat) : blockOf (F.CTX_EVT_ENABLE_REFUSED i).reg = 8 := R.CTX_EVT_blk _
theorem F.CTX_EVT_DB_BAD_blk (i : Nat) : blockOf (F.CTX_EVT_DB_BAD i).reg = 8 := R.CTX_EVT_blk _
theorem F.CTX_EVT_DB_DENIED_blk (i : Nat) : blockOf (F.CTX_EVT_DB_DENIED i).reg = 8 := R.CTX_EVT_blk _
theorem F.CTX_EVT_FETCH_ERR_blk (i : Nat) : blockOf (F.CTX_EVT_FETCH_ERR i).reg = 8 := R.CTX_EVT_blk _
theorem F.CTX_EVT_FROZEN_blk (i : Nat) : blockOf (F.CTX_EVT_FROZEN i).reg = 8 := R.CTX_EVT_blk _
theorem F.CTX_EVT_DISCARDED_blk (i : Nat) : blockOf (F.CTX_EVT_DISCARDED i).reg = 8 := R.CTX_EVT_blk _
theorem F.LDG_CHN_AVAIL_blk (i : Nat) : blockOf (F.LDG_CHN_AVAIL i).reg = 9 := R.LDG_CHN_blk _
theorem F.LDG_CHN_CAP_blk (i : Nat) : blockOf (F.LDG_CHN_CAP i).reg = 9 := R.LDG_CHN_blk _
theorem F.LDG_FROZEN_CTX_blk (i : Nat) : blockOf (F.LDG_FROZEN_CTX i).reg = 9 := R.LDG_FROZEN_blk _
theorem F.CHN_PCTL_EN_blk (i : Nat) : blockOf (F.CHN_PCTL_EN i).reg = 10 := R.CHN_PCTL_blk _
theorem F.CHN_PCTL_RETRAIN_blk (i : Nat) : blockOf (F.CHN_PCTL_RETRAIN i).reg = 10 := R.CHN_PCTL_blk _
theorem F.CHN_PSTAT_STATE_blk (i : Nat) : blockOf (F.CHN_PSTAT_STATE i).reg = 10 := R.CHN_PSTAT_blk _
theorem F.CHN_PSTAT_BLK_blk (i : Nat) : blockOf (F.CHN_PSTAT_BLK i).reg = 10 := R.CHN_PSTAT_blk _
theorem F.CHN_PSTAT_FRM_blk (i : Nat) : blockOf (F.CHN_PSTAT_FRM i).reg = 10 := R.CHN_PSTAT_blk _
theorem F.CHN_PSTAT_INV_blk (i : Nat) : blockOf (F.CHN_PSTAT_INV i).reg = 10 := R.CHN_PSTAT_blk _
theorem F.CHN_PSTAT_CROSSED_blk (i : Nat) : blockOf (F.CHN_PSTAT_CROSSED i).reg = 10 := R.CHN_PSTAT_blk _
theorem F.CHN_PSTAT_SKEW_blk (i : Nat) : blockOf (F.CHN_PSTAT_SKEW i).reg = 10 := R.CHN_PSTAT_blk _
theorem F.CHN_PSTAT_FAIL_blk (i : Nat) : blockOf (F.CHN_PSTAT_FAIL i).reg = 10 := R.CHN_PSTAT_blk _
theorem F.CHN_KEYGEN_KEYCHK_blk (i : Nat) : blockOf (F.CHN_KEYGEN_KEYCHK i).reg = 10 := R.CHN_KEYGEN_blk _
theorem F.CHN_KEYGEN_TRAININGS_blk (i : Nat) : blockOf (F.CHN_KEYGEN_TRAININGS i).reg = 10 := R.CHN_KEYGEN_blk _
theorem F.CHN_CNT0_HDR_ERR_blk (i : Nat) : blockOf (F.CHN_CNT0_HDR_ERR i).reg = 10 := R.CHN_CNT0_blk _
theorem F.CHN_CNT0_CTL_CRC_blk (i : Nat) : blockOf (F.CHN_CNT0_CTL_CRC i).reg = 10 := R.CHN_CNT0_blk _
theorem F.CHN_CNT1_MSG_CRC_blk (i : Nat) : blockOf (F.CHN_CNT1_MSG_CRC i).reg = 10 := R.CHN_CNT1_blk _
theorem F.CHN_CNT1_REPLAYS_blk (i : Nat) : blockOf (F.CHN_CNT1_REPLAYS i).reg = 10 := R.CHN_CNT1_blk _
theorem F.CHN_CNT2_STOMPED_blk (i : Nat) : blockOf (F.CHN_CNT2_STOMPED i).reg = 10 := R.CHN_CNT2_blk _
theorem F.CHN_CNT2_LINK_DOWNS_blk (i : Nat) : blockOf (F.CHN_CNT2_LINK_DOWNS i).reg = 10 := R.CHN_CNT2_blk _
theorem F.CHN_CNT3_SEQ_DISCARD_blk (i : Nat) : blockOf (F.CHN_CNT3_SEQ_DISCARD i).reg = 10 := R.CHN_CNT3_blk _
theorem F.CHN_CNT3_STRAY_blk (i : Nat) : blockOf (F.CHN_CNT3_STRAY i).reg = 10 := R.CHN_CNT3_blk _
theorem F.CHN_REPLAY_KB_USED_blk (i : Nat) : blockOf (F.CHN_REPLAY_KB_USED i).reg = 10 := R.CHN_REPLAY_blk _
theorem F.CHN_REPLAY_MSGS_blk (i : Nat) : blockOf (F.CHN_REPLAY_MSGS i).reg = 10 := R.CHN_REPLAY_blk _
theorem F.CHN_PRBS_TX_EN_blk (i : Nat) : blockOf (F.CHN_PRBS_TX_EN i).reg = 10 := R.CHN_PRBS_blk _
theorem F.CHN_PRBS_CHK_EN_blk (i : Nat) : blockOf (F.CHN_PRBS_CHK_EN i).reg = 10 := R.CHN_PRBS_blk _
theorem F.CHN_PRBS_ERR_LANE0_blk (i : Nat) : blockOf (F.CHN_PRBS_ERR_LANE0 i).reg = 10 := R.CHN_PRBS_ERR_blk _
theorem F.CHN_PRBS_ERR_LANE1_blk (i : Nat) : blockOf (F.CHN_PRBS_ERR_LANE1 i).reg = 10 := R.CHN_PRBS_ERR_blk _
theorem F.CHN_EVT_UP_blk (i : Nat) : blockOf (F.CHN_EVT_UP i).reg = 10 := R.CHN_EVT_blk _
theorem F.CHN_EVT_DOWN_blk (i : Nat) : blockOf (F.CHN_EVT_DOWN i).reg = 10 := R.CHN_EVT_blk _
theorem F.CHN_EVT_ROLE_ERR_blk (i : Nat) : blockOf (F.CHN_EVT_ROLE_ERR i).reg = 10 := R.CHN_EVT_blk _
theorem F.CHN_EVT_REPLAY_LIMIT_blk (i : Nat) : blockOf (F.CHN_EVT_REPLAY_LIMIT i).reg = 10 := R.CHN_EVT_blk _
theorem F.CHN_LOST_LOST_MSGS_blk (i : Nat) : blockOf (F.CHN_LOST_LOST_MSGS i).reg = 10 := R.CHN_LOST_blk _
theorem F.CHN_CNT_CLR_ALL_blk (i : Nat) : blockOf (F.CHN_CNT_CLR_ALL i).reg = 10 := R.CHN_CNT_CLR_blk _
theorem F.CHN_VL_TX_MSGS_blk (i j : Nat) : blockOf (F.CHN_VL_TX_MSGS i j).reg = 10 := R.CHN_VL_blk _ _
theorem F.CHN_VL_RX_MSGS_blk (i j : Nat) : blockOf (F.CHN_VL_RX_MSGS i j).reg = 10 := R.CHN_VL_blk _ _
theorem F.ENU_REACH_REACH_blk (i : Nat) : blockOf (F.ENU_REACH_REACH i).reg = 11 := R.ENU_REACH_blk _
theorem F.ENU_TAB_DLO_DIE_LO_blk (i : Nat) : blockOf (F.ENU_TAB_DLO_DIE_LO i).reg = 11 := R.ENU_TAB_DLO_blk _
theorem F.ENU_TAB_DHI_DIE_HI_blk (i : Nat) : blockOf (F.ENU_TAB_DHI_DIE_HI i).reg = 11 := R.ENU_TAB_DHI_blk _
theorem F.ENU_TAB_FLG_BOUND_blk (i : Nat) : blockOf (F.ENU_TAB_FLG_BOUND i).reg = 11 := R.ENU_TAB_FLG_blk _
theorem F.ENU_TAB_FLG_REACH_blk (i : Nat) : blockOf (F.ENU_TAB_FLG_REACH i).reg = 11 := R.ENU_TAB_FLG_blk _
theorem F.ENU_TAB_FLG_HOP_blk (i : Nat) : blockOf (F.ENU_TAB_FLG_HOP i).reg = 11 := R.ENU_TAB_FLG_blk _
theorem F.ENU_TAB_FLG_REV_blk (i : Nat) : blockOf (F.ENU_TAB_FLG_REV i).reg = 11 := R.ENU_TAB_FLG_blk _
theorem F.HAR_LCTL_EN_blk (i : Nat) : blockOf (F.HAR_LCTL_EN i).reg = 12 := R.HAR_LCTL_blk _
theorem F.HAR_LCTL_EXPECT_blk (i : Nat) : blockOf (F.HAR_LCTL_EXPECT i).reg = 12 := R.HAR_LCTL_blk _
theorem F.HAR_LCTL_RETRAIN_blk (i : Nat) : blockOf (F.HAR_LCTL_RETRAIN i).reg = 12 := R.HAR_LCTL_blk _
theorem F.HAR_LSTAT_STATE_blk (i : Nat) : blockOf (F.HAR_LSTAT_STATE i).reg = 12 := R.HAR_LSTAT_blk _
theorem F.HAR_LSTAT_BOARDS_blk (i : Nat) : blockOf (F.HAR_LSTAT_BOARDS i).reg = 12 := R.HAR_LSTAT_blk _
theorem F.HAR_LSTAT_PHASE_blk (i : Nat) : blockOf (F.HAR_LSTAT_PHASE i).reg = 12 := R.HAR_LSTAT_blk _
theorem F.HAR_LSTAT_FAIL_blk (i : Nat) : blockOf (F.HAR_LSTAT_FAIL i).reg = 12 := R.HAR_LSTAT_blk _
theorem F.HAR_LSTAT_RING_NS_blk (i : Nat) : blockOf (F.HAR_LSTAT_RING_NS i).reg = 12 := R.HAR_LSTAT_blk _
theorem F.HAR_LCNT_CRC_ERR_blk (i : Nat) : blockOf (F.HAR_LCNT_CRC_ERR i).reg = 12 := R.HAR_LCNT_blk _
theorem F.HAR_LCNT_TIMEOUTS_blk (i : Nat) : blockOf (F.HAR_LCNT_TIMEOUTS i).reg = 12 := R.HAR_LCNT_blk _
theorem F.HAR_BCFG_VALUE_blk (i : Nat) : blockOf (F.HAR_BCFG_VALUE i).reg = 12 := R.HAR_BCFG_blk _
theorem F.HAR_DWIN_LO_LO_blk (i : Nat) : blockOf (F.HAR_DWIN_LO_LO i).reg = 12 := R.HAR_DWIN_LO_blk _
theorem F.HAR_DWIN_HI_HI_blk (i : Nat) : blockOf (F.HAR_DWIN_HI_HI i).reg = 12 := R.HAR_DWIN_HI_blk _
theorem F.HAR_RWIN_LO_LO_blk (i : Nat) : blockOf (F.HAR_RWIN_LO_LO i).reg = 12 := R.HAR_RWIN_LO_blk _
theorem F.HAR_RWIN_HI_HI_blk (i : Nat) : blockOf (F.HAR_RWIN_HI_HI i).reg = 12 := R.HAR_RWIN_HI_blk _
theorem F.HAR_BRD_W0_ID_blk (i j : Nat) : blockOf (F.HAR_BRD_W0_ID i j).reg = 12 := R.HAR_BRD_W0_blk _ _
theorem F.HAR_BRD_W1_CAPS_blk (i j : Nat) : blockOf (F.HAR_BRD_W1_CAPS i j).reg = 12 := R.HAR_BRD_W1_blk _ _
theorem F.SFQ_CFG_EN_blk (i : Nat) : blockOf (F.SFQ_CFG_EN i).reg = 13 := R.SFQ_CFG_blk _
theorem F.SFQ_CFG_FLUSH_blk (i : Nat) : blockOf (F.SFQ_CFG_FLUSH i).reg = 13 := R.SFQ_CFG_blk _
theorem F.SFQ_CFG_DISCARD_PKT_blk (i : Nat) : blockOf (F.SFQ_CFG_DISCARD_PKT i).reg = 13 := R.SFQ_CFG_blk _
theorem F.SFQ_CFG_PROD_blk (i : Nat) : blockOf (F.SFQ_CFG_PROD i).reg = 13 := R.SFQ_CFG_blk _
theorem F.SFQ_CFG_CONS_blk (i : Nat) : blockOf (F.SFQ_CFG_CONS i).reg = 13 := R.SFQ_CFG_blk _
theorem F.SFQ_CFG_XOFF_FAB_blk (i : Nat) : blockOf (F.SFQ_CFG_XOFF_FAB i).reg = 13 := R.SFQ_CFG_blk _
theorem F.SFQ_CFG_XOFF_HOST_blk (i : Nat) : blockOf (F.SFQ_CFG_XOFF_HOST i).reg = 13 := R.SFQ_CFG_blk _
theorem F.SFQ_CFG_XOFF_CTX_blk (i : Nat) : blockOf (F.SFQ_CFG_XOFF_CTX i).reg = 13 := R.SFQ_CFG_blk _
theorem F.SFQ_WM_HIGH_blk (i : Nat) : blockOf (F.SFQ_WM_HIGH i).reg = 13 := R.SFQ_WM_blk _
theorem F.SFQ_WM_LOW_blk (i : Nat) : blockOf (F.SFQ_WM_LOW i).reg = 13 := R.SFQ_WM_blk _
theorem F.SFQ_STAT_DEPTH_blk (i : Nat) : blockOf (F.SFQ_STAT_DEPTH i).reg = 13 := R.SFQ_STAT_blk _
theorem F.SFQ_STAT_XOFF_blk (i : Nat) : blockOf (F.SFQ_STAT_XOFF i).reg = 13 := R.SFQ_STAT_blk _
theorem F.SFQ_STAT_GAP_PEND_blk (i : Nat) : blockOf (F.SFQ_STAT_GAP_PEND i).reg = 13 := R.SFQ_STAT_blk _
theorem F.SFQ_STAT_DISCARDING_blk (i : Nat) : blockOf (F.SFQ_STAT_DISCARDING i).reg = 13 := R.SFQ_STAT_blk _
theorem F.SFQ_STAT_IN_PKT_blk (i : Nat) : blockOf (F.SFQ_STAT_IN_PKT i).reg = 13 := R.SFQ_STAT_blk _
theorem F.SFQ_STAT_PEND_COUNT_blk (i : Nat) : blockOf (F.SFQ_STAT_PEND_COUNT i).reg = 13 := R.SFQ_STAT_blk _
theorem F.SFQ_CNT_DROPPED_blk (i : Nat) : blockOf (F.SFQ_CNT_DROPPED i).reg = 13 := R.SFQ_CNT_blk _
theorem F.SFQ_CNT_GAPS_blk (i : Nat) : blockOf (F.SFQ_CNT_GAPS i).reg = 13 := R.SFQ_CNT_blk _
theorem F.SFQ_CNT2_DISCARDED_blk (i : Nat) : blockOf (F.SFQ_CNT2_DISCARDED i).reg = 13 := R.SFQ_CNT2_blk _
theorem F.SFQ_CNT2_MISROUTE_blk (i : Nat) : blockOf (F.SFQ_CNT2_MISROUTE i).reg = 13 := R.SFQ_CNT2_blk _
theorem F.SFQ_XCTX_CTX_blk (i : Nat) : blockOf (F.SFQ_XCTX_CTX i).reg = 13 := R.SFQ_XCTX_blk _
theorem F.SFQ_MAX_MAXDEPTH_blk (i : Nat) : blockOf (F.SFQ_MAX_MAXDEPTH i).reg = 13 := R.SFQ_MAX_blk _
theorem F.SFQ_XOFF_XOFF_blk (i : Nat) : blockOf (F.SFQ_XOFF_XOFF i).reg = 13 := R.SFQ_XOFF_blk _
theorem F.SFQ_XOFF_EVT_EVT_blk (i : Nat) : blockOf (F.SFQ_XOFF_EVT_EVT i).reg = 13 := R.SFQ_XOFF_EVT_blk _
theorem F.SFQ_POP_W_DATA_blk (i j : Nat) : blockOf (F.SFQ_POP_W_DATA i j).reg = 13 := R.SFQ_POP_W_blk _ _
theorem F.SFQ_POP_TAG_TAG_blk (i : Nat) : blockOf (F.SFQ_POP_TAG_TAG i).reg = 13 := R.SFQ_POP_TAG_blk _
theorem F.SFQ_POP_TAG_VALID_blk (i : Nat) : blockOf (F.SFQ_POP_TAG_VALID i).reg = 13 := R.SFQ_POP_TAG_blk _
theorem F.CAN_CTL_MON_blk (i : Nat) : blockOf (F.CAN_CTL_MON i).reg = 14 := R.CAN_CTL_blk _
theorem F.CAN_CTL_AUTO_REC_blk (i : Nat) : blockOf (F.CAN_CTL_AUTO_REC i).reg = 14 := R.CAN_CTL_blk _
theorem F.CAN_CTL_BOFF_DISCARD_blk (i : Nat) : blockOf (F.CAN_CTL_BOFF_DISCARD i).reg = 14 := R.CAN_CTL_blk _
theorem F.CAN_CTL_TX_ECHO_blk (i : Nat) : blockOf (F.CAN_CTL_TX_ECHO i).reg = 14 := R.CAN_CTL_blk _
theorem F.CAN_CTL_TDC_EN_blk (i : Nat) : blockOf (F.CAN_CTL_TDC_EN i).reg = 14 := R.CAN_CTL_blk _
theorem F.CAN_CTL_RECOVER_blk (i : Nat) : blockOf (F.CAN_CTL_RECOVER i).reg = 14 := R.CAN_CTL_blk _
theorem F.CAN_STAT_STATE_blk (i : Nat) : blockOf (F.CAN_STAT_STATE i).reg = 14 := R.CAN_STAT_blk _
theorem F.CAN_STAT_TX_PEND_blk (i : Nat) : blockOf (F.CAN_STAT_TX_PEND i).reg = 14 := R.CAN_STAT_blk _
theorem F.CAN_STAT_WAITQ_blk (i : Nat) : blockOf (F.CAN_STAT_WAITQ i).reg = 14 := R.CAN_STAT_blk _
theorem F.CAN_STAT_RECOV_blk (i : Nat) : blockOf (F.CAN_STAT_RECOV i).reg = 14 := R.CAN_STAT_blk _
theorem F.CAN_NBT_BRP_M1_blk (i : Nat) : blockOf (F.CAN_NBT_BRP_M1 i).reg = 14 := R.CAN_NBT_blk _
theorem F.CAN_NBT_TSEG1_M1_blk (i : Nat) : blockOf (F.CAN_NBT_TSEG1_M1 i).reg = 14 := R.CAN_NBT_blk _
theorem F.CAN_NBT_TSEG2_M1_blk (i : Nat) : blockOf (F.CAN_NBT_TSEG2_M1 i).reg = 14 := R.CAN_NBT_blk _
theorem F.CAN_NBT_SJW_M1_blk (i : Nat) : blockOf (F.CAN_NBT_SJW_M1 i).reg = 14 := R.CAN_NBT_blk _
theorem F.CAN_DBT_BRP_M1_blk (i : Nat) : blockOf (F.CAN_DBT_BRP_M1 i).reg = 14 := R.CAN_DBT_blk _
theorem F.CAN_DBT_TSEG1_M1_blk (i : Nat) : blockOf (F.CAN_DBT_TSEG1_M1 i).reg = 14 := R.CAN_DBT_blk _
theorem F.CAN_DBT_TSEG2_M1_blk (i : Nat) : blockOf (F.CAN_DBT_TSEG2_M1 i).reg = 14 := R.CAN_DBT_blk _
theorem F.CAN_DBT_SJW_M1_blk (i : Nat) : blockOf (F.CAN_DBT_SJW_M1 i).reg = 14 := R.CAN_DBT_blk _
theorem F.CAN_TDC_OFFSET_blk (i : Nat) : blockOf (F.CAN_TDC_OFFSET i).reg = 14 := R.CAN_TDC_blk _
theorem F.CAN_TDC_MEAS_blk (i : Nat) : blockOf (F.CAN_TDC_MEAS i).reg = 14 := R.CAN_TDC_blk _
theorem F.CAN_ERRC_TEC_blk (i : Nat) : blockOf (F.CAN_ERRC_TEC i).reg = 14 := R.CAN_ERRC_blk _
theorem F.CAN_ERRC_REC_blk (i : Nat) : blockOf (F.CAN_ERRC_REC i).reg = 14 := R.CAN_ERRC_blk _
theorem F.CAN_TEST_FREEZE_blk (i : Nat) : blockOf (F.CAN_TEST_FREEZE i).reg = 14 := R.CAN_TEST_blk _
theorem F.CAN_EVT_PASSIVE_blk (i : Nat) : blockOf (F.CAN_EVT_PASSIVE i).reg = 14 := R.CAN_EVT_blk _
theorem F.CAN_EVT_BUSOFF_blk (i : Nat) : blockOf (F.CAN_EVT_BUSOFF i).reg = 14 := R.CAN_EVT_blk _
theorem F.CAN_EVT_RECOVERED_blk (i : Nat) : blockOf (F.CAN_EVT_RECOVERED i).reg = 14 := R.CAN_EVT_blk _
theorem F.CAN_EVT_CFG_DENIED_blk (i : Nat) : blockOf (F.CAN_EVT_CFG_DENIED i).reg = 14 := R.CAN_EVT_blk _
theorem F.CAN_EVT_ELOG_blk (i : Nat) : blockOf (F.CAN_EVT_ELOG i).reg = 14 := R.CAN_EVT_blk _
theorem F.CAN_EVT_RX_OVF_blk (i : Nat) : blockOf (F.CAN_EVT_RX_OVF i).reg = 14 := R.CAN_EVT_blk _
theorem F.CAN_CNT_TX_OK_blk (i : Nat) : blockOf (F.CAN_CNT_TX_OK i).reg = 14 := R.CAN_CNT_blk _
theorem F.CAN_CNT_RX_OK_blk (i : Nat) : blockOf (F.CAN_CNT_RX_OK i).reg = 14 := R.CAN_CNT_blk _
theorem F.CAN_CNT2_ERRORS_blk (i : Nat) : blockOf (F.CAN_CNT2_ERRORS i).reg = 14 := R.CAN_CNT2_blk _
theorem F.CAN_CNT2_UNMATCHED_blk (i : Nat) : blockOf (F.CAN_CNT2_UNMATCHED i).reg = 14 := R.CAN_CNT2_blk _
theorem F.CAN_CNT3_BUSOFFS_blk (i : Nat) : blockOf (F.CAN_CNT3_BUSOFFS i).reg = 14 := R.CAN_CNT3_blk _
theorem F.CAN_CNT3_RX_OVF_blk (i : Nat) : blockOf (F.CAN_CNT3_RX_OVF i).reg = 14 := R.CAN_CNT3_blk _
theorem F.CAN_TXB_PEND_PEND_blk (i : Nat) : blockOf (F.CAN_TXB_PEND_PEND i).reg = 14 := R.CAN_TXB_PEND_blk _
theorem F.CAN_TXB_HELD_HELD_blk (i : Nat) : blockOf (F.CAN_TXB_HELD_HELD i).reg = 14 := R.CAN_TXB_HELD_blk _
theorem F.CAN_FLT_ID_ID_blk (i j : Nat) : blockOf (F.CAN_FLT_ID_ID i j).reg = 14 := R.CAN_FLT_ID_blk _ _
theorem F.CAN_FLT_ID_IDE_blk (i j : Nat) : blockOf (F.CAN_FLT_ID_IDE i j).reg = 14 := R.CAN_FLT_ID_blk _ _
theorem F.CAN_FLT_ID_EN_blk (i j : Nat) : blockOf (F.CAN_FLT_ID_EN i j).reg = 14 := R.CAN_FLT_ID_blk _ _
theorem F.CAN_FLT_MASK_ID_MASK_blk (i j : Nat) : blockOf (F.CAN_FLT_MASK_ID_MASK i j).reg = 14 := R.CAN_FLT_MASK_blk _ _
theorem F.CAN_FLT_MASK_IDE_MASK_blk (i j : Nat) : blockOf (F.CAN_FLT_MASK_IDE_MASK i j).reg = 14 := R.CAN_FLT_MASK_blk _ _
theorem F.CAN_FLT_FIFO_FIFO_blk (i j : Nat) : blockOf (F.CAN_FLT_FIFO_FIFO i j).reg = 14 := R.CAN_FLT_FIFO_blk _ _
theorem F.CAN_FLT_FIFO_ARMED_blk (i j : Nat) : blockOf (F.CAN_FLT_FIFO_ARMED i j).reg = 14 := R.CAN_FLT_FIFO_blk _ _
theorem F.CAN_ELOG_SEL_INDEX_blk (i : Nat) : blockOf (F.CAN_ELOG_SEL_INDEX i).reg = 14 := R.CAN_ELOG_SEL_blk _
theorem F.CAN_ELOG_W0_KIND_blk (i : Nat) : blockOf (F.CAN_ELOG_W0_KIND i).reg = 14 := R.CAN_ELOG_W0_blk _
theorem F.CAN_ELOG_W0_DATA_PHASE_blk (i : Nat) : blockOf (F.CAN_ELOG_W0_DATA_PHASE i).reg = 14 := R.CAN_ELOG_W0_blk _
theorem F.CAN_ELOG_W0_TX_blk (i : Nat) : blockOf (F.CAN_ELOG_W0_TX i).reg = 14 := R.CAN_ELOG_W0_blk _
theorem F.CAN_ELOG_W0_TEC_blk (i : Nat) : blockOf (F.CAN_ELOG_W0_TEC i).reg = 14 := R.CAN_ELOG_W0_blk _
theorem F.CAN_ELOG_W0_REC_blk (i : Nat) : blockOf (F.CAN_ELOG_W0_REC i).reg = 14 := R.CAN_ELOG_W0_blk _
theorem F.CAN_ELOG_W1_TIME_NS_blk (i : Nat) : blockOf (F.CAN_ELOG_W1_TIME_NS i).reg = 14 := R.CAN_ELOG_W1_blk _
theorem F.CAN_SWK_CTL_EN_blk (i : Nat) : blockOf (F.CAN_SWK_CTL_EN i).reg = 14 := R.CAN_SWK_CTL_blk _
theorem F.CAN_SWK_CTL_RATE_blk (i : Nat) : blockOf (F.CAN_SWK_CTL_RATE i).reg = 14 := R.CAN_SWK_CTL_blk _
theorem F.CAN_SWK_CTL_DATA_EN_blk (i : Nat) : blockOf (F.CAN_SWK_CTL_DATA_EN i).reg = 14 := R.CAN_SWK_CTL_blk _
theorem F.CAN_SWK_CTL_FEC_WAKE_blk (i : Nat) : blockOf (F.CAN_SWK_CTL_FEC_WAKE i).reg = 14 := R.CAN_SWK_CTL_blk _
theorem F.CAN_SWK_CTL_SWK_DLC_blk (i : Nat) : blockOf (F.CAN_SWK_CTL_SWK_DLC i).reg = 14 := R.CAN_SWK_CTL_blk _
theorem F.CAN_SWK_CTL_FEC_MAX_blk (i : Nat) : blockOf (F.CAN_SWK_CTL_FEC_MAX i).reg = 14 := R.CAN_SWK_CTL_blk _
theorem F.CAN_SWK_ID_ID_blk (i : Nat) : blockOf (F.CAN_SWK_ID_ID i).reg = 14 := R.CAN_SWK_ID_blk _
theorem F.CAN_SWK_MASK_ID_blk (i : Nat) : blockOf (F.CAN_SWK_MASK_ID i).reg = 14 := R.CAN_SWK_MASK_blk _
theorem F.CAN_SWK_ID_IDE_blk (i : Nat) : blockOf (F.CAN_SWK_ID_IDE i).reg = 14 := R.CAN_SWK_ID_blk _
theorem F.CAN_SWK_MASK_IDE_blk (i : Nat) : blockOf (F.CAN_SWK_MASK_IDE i).reg = 14 := R.CAN_SWK_MASK_blk _
theorem F.CAN_SWK_DATA_LO_DATA_blk (i : Nat) : blockOf (F.CAN_SWK_DATA_LO_DATA i).reg = 14 := R.CAN_SWK_DATA_LO_blk _
theorem F.CAN_SWK_DATA_HI_DATA_blk (i : Nat) : blockOf (F.CAN_SWK_DATA_HI_DATA i).reg = 14 := R.CAN_SWK_DATA_HI_blk _
theorem F.CAN_SWK_SRC_WUF_blk (i : Nat) : blockOf (F.CAN_SWK_SRC_WUF i).reg = 14 := R.CAN_SWK_SRC_blk _
theorem F.CAN_SWK_SRC_FEC_blk (i : Nat) : blockOf (F.CAN_SWK_SRC_FEC i).reg = 14 := R.CAN_SWK_SRC_blk _
theorem F.CAN_SWK_SRC_FEC_CNT_blk (i : Nat) : blockOf (F.CAN_SWK_SRC_FEC_CNT i).reg = 14 := R.CAN_SWK_SRC_blk _
theorem F.LIN_CTL_EN_blk (i : Nat) : blockOf (F.LIN_CTL_EN i).reg = 14 := R.LIN_CTL_blk _
theorem F.LIN_CTL_ROLE_blk (i : Nat) : blockOf (F.LIN_CTL_ROLE i).reg = 14 := R.LIN_CTL_blk _
theorem F.LIN_CTL_WAKE_blk (i : Nat) : blockOf (F.LIN_CTL_WAKE i).reg = 14 := R.LIN_CTL_blk _
theorem F.LIN_CTL_BREAK_LEN_blk (i : Nat) : blockOf (F.LIN_CTL_BREAK_LEN i).reg = 14 := R.LIN_CTL_blk _
theorem F.LIN_CTL_DELIM_blk (i : Nat) : blockOf (F.LIN_CTL_DELIM i).reg = 14 := R.LIN_CTL_blk _
theorem F.LIN_DIV_DIV_blk (i : Nat) : blockOf (F.LIN_DIV_DIV i).reg = 14 := R.LIN_DIV_blk _
theorem F.LIN_STAT_STATE_blk (i : Nat) : blockOf (F.LIN_STAT_STATE i).reg = 14 := R.LIN_STAT_blk _
theorem F.LIN_STAT_RATE_MEAS_blk (i : Nat) : blockOf (F.LIN_STAT_RATE_MEAS i).reg = 14 := R.LIN_STAT_blk _
theorem F.LIN_TIME_WAKE_US_blk (i : Nat) : blockOf (F.LIN_TIME_WAKE_US i).reg = 14 := R.LIN_TIME_blk _
theorem F.LIN_TIME_BUS_IDLE_S_blk (i : Nat) : blockOf (F.LIN_TIME_BUS_IDLE_S i).reg = 14 := R.LIN_TIME_blk _
theorem F.LIN_EVT_WAKE_RX_blk (i : Nat) : blockOf (F.LIN_EVT_WAKE_RX i).reg = 14 := R.LIN_EVT_blk _
theorem F.LIN_EVT_BUS_SLEEP_blk (i : Nat) : blockOf (F.LIN_EVT_BUS_SLEEP i).reg = 14 := R.LIN_EVT_blk _
theorem F.LIN_EVT_CFG_DENIED_blk (i : Nat) : blockOf (F.LIN_EVT_CFG_DENIED i).reg = 14 := R.LIN_EVT_blk _
theorem F.LIN_EVT_RESP_ERR_blk (i : Nat) : blockOf (F.LIN_EVT_RESP_ERR i).reg = 14 := R.LIN_EVT_blk _
theorem F.LIN_CNT_FRAMES_blk (i : Nat) : blockOf (F.LIN_CNT_FRAMES i).reg = 14 := R.LIN_CNT_blk _
theorem F.LIN_CNT_ERRORS_blk (i : Nat) : blockOf (F.LIN_CNT_ERRORS i).reg = 14 := R.LIN_CNT_blk _
theorem F.LIN_SWK_EN_blk (i : Nat) : blockOf (F.LIN_SWK_EN i).reg = 14 := R.LIN_SWK_blk _
theorem F.LIN_RTAB_MODE_blk (i j : Nat) : blockOf (F.LIN_RTAB_MODE i j).reg = 14 := R.LIN_RTAB_blk _ _
theorem F.LIN_RTAB_ENH_blk (i j : Nat) : blockOf (F.LIN_RTAB_ENH i j).reg = 14 := R.LIN_RTAB_blk _ _
theorem F.LIN_RTAB_LEN_blk (i j : Nat) : blockOf (F.LIN_RTAB_LEN i j).reg = 14 := R.LIN_RTAB_blk _ _
theorem F.LIN_RTAB_LOADED_blk (i j : Nat) : blockOf (F.LIN_RTAB_LOADED i j).reg = 14 := R.LIN_RTAB_blk _ _
theorem F.SENT_CTL_EN_blk (i : Nat) : blockOf (F.SENT_CTL_EN i).reg = 14 := R.SENT_CTL_blk _
theorem F.SENT_CTL_NIBBLES_blk (i : Nat) : blockOf (F.SENT_CTL_NIBBLES i).reg = 14 := R.SENT_CTL_blk _
theorem F.SENT_CTL_PAUSE_blk (i : Nat) : blockOf (F.SENT_CTL_PAUSE i).reg = 14 := R.SENT_CTL_blk _
theorem F.SENT_CTL_CRC_LEGACY_blk (i : Nat) : blockOf (F.SENT_CTL_CRC_LEGACY i).reg = 14 := R.SENT_CTL_blk _
theorem F.SENT_CTL_SERIAL_blk (i : Nat) : blockOf (F.SENT_CTL_SERIAL i).reg = 14 := R.SENT_CTL_blk _
theorem F.SENT_TICK_TICK_NS_blk (i : Nat) : blockOf (F.SENT_TICK_TICK_NS i).reg = 14 := R.SENT_TICK_blk _
theorem F.SENT_STAT_SYNCED_blk (i : Nat) : blockOf (F.SENT_STAT_SYNCED i).reg = 14 := R.SENT_STAT_blk _
theorem F.SENT_STAT_TICK_MEAS_blk (i : Nat) : blockOf (F.SENT_STAT_TICK_MEAS i).reg = 14 := R.SENT_STAT_blk _
theorem F.SENT_EVT_CRC_blk (i : Nat) : blockOf (F.SENT_EVT_CRC i).reg = 14 := R.SENT_EVT_blk _
theorem F.SENT_EVT_CAL_blk (i : Nat) : blockOf (F.SENT_EVT_CAL i).reg = 14 := R.SENT_EVT_blk _
theorem F.SENT_EVT_RANGE_blk (i : Nat) : blockOf (F.SENT_EVT_RANGE i).reg = 14 := R.SENT_EVT_blk _
theorem F.SENT_CNT_FRAMES_blk (i : Nat) : blockOf (F.SENT_CNT_FRAMES i).reg = 14 := R.SENT_CNT_blk _
theorem F.SENT_CNT_ERRORS_blk (i : Nat) : blockOf (F.SENT_CNT_ERRORS i).reg = 14 := R.SENT_CNT_blk _
theorem F.SENT_FLT_FIFO_blk (i : Nat) : blockOf (F.SENT_FLT_FIFO i).reg = 14 := R.SENT_FLT_blk _
theorem F.SENT_FLT_FAST_blk (i : Nat) : blockOf (F.SENT_FLT_FAST i).reg = 14 := R.SENT_FLT_blk _
theorem F.SENT_FLT_SERIAL_blk (i : Nat) : blockOf (F.SENT_FLT_SERIAL i).reg = 14 := R.SENT_FLT_blk _
theorem F.SENT_FLT_ARMED_blk (i : Nat) : blockOf (F.SENT_FLT_ARMED i).reg = 14 := R.SENT_FLT_blk _
theorem F.LIN_FLT_ID_ID_blk (i j : Nat) : blockOf (F.LIN_FLT_ID_ID i j).reg = 14 := R.LIN_FLT_ID_blk _ _
theorem F.LIN_FLT_ID_IDE_blk (i j : Nat) : blockOf (F.LIN_FLT_ID_IDE i j).reg = 14 := R.LIN_FLT_ID_blk _ _
theorem F.LIN_FLT_ID_EN_blk (i j : Nat) : blockOf (F.LIN_FLT_ID_EN i j).reg = 14 := R.LIN_FLT_ID_blk _ _
theorem F.LIN_FLT_MASK_ID_MASK_blk (i j : Nat) : blockOf (F.LIN_FLT_MASK_ID_MASK i j).reg = 14 := R.LIN_FLT_MASK_blk _ _
theorem F.LIN_FLT_MASK_IDE_MASK_blk (i j : Nat) : blockOf (F.LIN_FLT_MASK_IDE_MASK i j).reg = 14 := R.LIN_FLT_MASK_blk _ _
theorem F.LIN_FLT_FIFO_FIFO_blk (i j : Nat) : blockOf (F.LIN_FLT_FIFO_FIFO i j).reg = 14 := R.LIN_FLT_FIFO_blk _ _
theorem F.LIN_FLT_FIFO_ARMED_blk (i j : Nat) : blockOf (F.LIN_FLT_FIFO_ARMED i j).reg = 14 := R.LIN_FLT_FIFO_blk _ _
theorem F.OSP_PRF_W0_MOD_blk (i : Nat) : blockOf (F.OSP_PRF_W0_MOD i).reg = 15 := R.OSP_PRF_blk _ _
theorem F.OSP_PRF_W0_MANCH_blk (i : Nat) : blockOf (F.OSP_PRF_W0_MANCH i).reg = 15 := R.OSP_PRF_blk _ _
theorem F.OSP_PRF_W0_MANCH_INV_blk (i : Nat) : blockOf (F.OSP_PRF_W0_MANCH_INV i).reg = 15 := R.OSP_PRF_blk _ _
theorem F.OSP_PRF_W0_BITORDER_blk (i : Nat) : blockOf (F.OSP_PRF_W0_BITORDER i).reg = 15 := R.OSP_PRF_blk _ _
theorem F.OSP_PRF_W0_FEC_blk (i : Nat) : blockOf (F.OSP_PRF_W0_FEC i).reg = 15 := R.OSP_PRF_blk _ _
theorem F.OSP_PRF_W0_ROWS_M1_blk (i : Nat) : blockOf (F.OSP_PRF_W0_ROWS_M1 i).reg = 15 := R.OSP_PRF_blk _ _
theorem F.OSP_PRF_W0_VARLEN_blk (i : Nat) : blockOf (F.OSP_PRF_W0_VARLEN i).reg = 15 := R.OSP_PRF_blk _ _
theorem F.OSP_PRF_W1_BITRATE_blk (i : Nat) : blockOf (F.OSP_PRF_W1_BITRATE i).reg = 15 := R.OSP_PRF_blk _ _
theorem F.OSP_PRF_W2_DEV_blk (i : Nat) : blockOf (F.OSP_PRF_W2_DEV i).reg = 15 := R.OSP_PRF_blk _ _
theorem F.OSP_PRF_W2_ASK_LOW_blk (i : Nat) : blockOf (F.OSP_PRF_W2_ASK_LOW i).reg = 15 := R.OSP_PRF_blk _ _
theorem F.OSP_PRF_W3_PRE_LEN_blk (i : Nat) : blockOf (F.OSP_PRF_W3_PRE_LEN i).reg = 15 := R.OSP_PRF_blk _ _
theorem F.OSP_PRF_W3_PRE_THR_blk (i : Nat) : blockOf (F.OSP_PRF_W3_PRE_THR i).reg = 15 := R.OSP_PRF_blk _ _
theorem F.OSP_PRF_W3_TX_PRE_blk (i : Nat) : blockOf (F.OSP_PRF_W3_TX_PRE i).reg = 15 := R.OSP_PRF_blk _ _
theorem F.OSP_PRF_W3_SYNC_WAIT_blk (i : Nat) : blockOf (F.OSP_PRF_W3_SYNC_WAIT i).reg = 15 := R.OSP_PRF_blk _ _
theorem F.OSP_PRF_W4_SYNC_WORD_blk (i : Nat) : blockOf (F.OSP_PRF_W4_SYNC_WORD i).reg = 15 := R.OSP_PRF_blk _ _
theorem F.OSP_PRF_W5_SYNC_LEN_blk (i : Nat) : blockOf (F.OSP_PRF_W5_SYNC_LEN i).reg = 15 := R.OSP_PRF_blk _ _
theorem F.OSP_PRF_W5_SYNC_ERR_blk (i : Nat) : blockOf (F.OSP_PRF_W5_SYNC_ERR i).reg = 15 := R.OSP_PRF_blk _ _
theorem F.OSP_PRF_W5_PKT_LEN_blk (i : Nat) : blockOf (F.OSP_PRF_W5_PKT_LEN i).reg = 15 := R.OSP_PRF_blk _ _
theorem F.OSP_PRF_W6_MGAIN_blk (i : Nat) : blockOf (F.OSP_PRF_W6_MGAIN i).reg = 15 := R.OSP_PRF_blk _ _
theorem F.OSP_PRF_W6_AGC_blk (i : Nat) : blockOf (F.OSP_PRF_W6_AGC i).reg = 15 := R.OSP_PRF_blk _ _
theorem F.OSP_PRF_W6_AFC_EN_blk (i : Nat) : blockOf (F.OSP_PRF_W6_AFC_EN i).reg = 15 := R.OSP_PRF_blk _ _
theorem F.OSP_PRF_W6_AFC_KHZ_blk (i : Nat) : blockOf (F.OSP_PRF_W6_AFC_KHZ i).reg = 15 := R.OSP_PRF_blk _ _
theorem F.OSP_PRF_W7_TX_AMP_blk (i : Nat) : blockOf (F.OSP_PRF_W7_TX_AMP i).reg = 15 := R.OSP_PRF_blk _ _
theorem F.OSP_PRF_W7_RAMP_US_blk (i : Nat) : blockOf (F.OSP_PRF_W7_RAMP_US i).reg = 15 := R.OSP_PRF_blk _ _
theorem F.OSP_PRF_W7_TXEN_LEAD_blk (i : Nat) : blockOf (F.OSP_PRF_W7_TXEN_LEAD i).reg = 15 := R.OSP_PRF_blk _ _
theorem F.TAG_LOCK_LOCK_blk (i : Nat) : blockOf (F.TAG_LOCK_LOCK i).reg = 17 := R.TAG_LOCK_blk _
theorem F.SCR_KEYW_K_blk (i : Nat) : blockOf (F.SCR_KEYW_K i).reg = 18 := R.SCR_KEYW_blk _
theorem F.SCR_KSLOT_STATE_blk (i : Nat) : blockOf (F.SCR_KSLOT_STATE i).reg = 18 := R.SCR_KSLOT_blk _
theorem F.SCR_KSLOT_RANGE_blk (i : Nat) : blockOf (F.SCR_KSLOT_RANGE i).reg = 18 := R.SCR_KSLOT_blk _
theorem F.SCR_KSLOT_KCHK_blk (i : Nat) : blockOf (F.SCR_KSLOT_KCHK i).reg = 18 := R.SCR_KSLOT_blk _
theorem F.SCR_RNG_CTL_STATE_blk (i : Nat) : blockOf (F.SCR_RNG_CTL_STATE i).reg = 18 := R.SCR_RNG_CTL_blk _
theorem F.SCR_RNG_CTL_KSLOT_blk (i : Nat) : blockOf (F.SCR_RNG_CTL_KSLOT i).reg = 18 := R.SCR_RNG_CTL_blk _
theorem F.SCR_RNG_CTL_OLD_KSLOT_blk (i : Nat) : blockOf (F.SCR_RNG_CTL_OLD_KSLOT i).reg = 18 := R.SCR_RNG_CTL_blk _
theorem F.SCR_RNG_CTL_DSLOT_blk (i : Nat) : blockOf (F.SCR_RNG_CTL_DSLOT i).reg = 18 := R.SCR_RNG_CTL_blk _
theorem F.SCR_RNG_TAG_TAG_FIRST_blk (i : Nat) : blockOf (F.SCR_RNG_TAG_TAG_FIRST i).reg = 18 := R.SCR_RNG_TAG_blk _
theorem F.SCR_RNG_TAG_TAG_SPAN_blk (i : Nat) : blockOf (F.SCR_RNG_TAG_TAG_SPAN i).reg = 18 := R.SCR_RNG_TAG_blk _
theorem F.SCR_RNG_EPL_EPOCH_blk (i : Nat) : blockOf (F.SCR_RNG_EPL_EPOCH i).reg = 18 := R.SCR_RNG_EPL_blk _
theorem F.SCR_RNG_EPH_EPOCH_blk (i : Nat) : blockOf (F.SCR_RNG_EPH_EPOCH i).reg = 18 := R.SCR_RNG_EPH_blk _
theorem F.SCR_RNG_PROG_PROG_blk (i : Nat) : blockOf (F.SCR_RNG_PROG_PROG i).reg = 18 := R.SCR_RNG_PROG_blk _
theorem F.SCR_RNG_CNT_FAILS_blk (i : Nat) : blockOf (F.SCR_RNG_CNT_FAILS i).reg = 18 := R.SCR_RNG_CNT_blk _
theorem F.SCR_RNG_CNT_ROLLS_blk (i : Nat) : blockOf (F.SCR_RNG_CNT_ROLLS i).reg = 18 := R.SCR_RNG_CNT_blk _
theorem F.KIT_FWH_W_blk (i : Nat) : blockOf (F.KIT_FWH_W i).reg = 19 := R.KIT_FWH_blk _
theorem F.KIT_MTIME_T_blk (i : Nat) : blockOf (F.KIT_MTIME_T i).reg = 19 := R.KIT_MTIME_blk _
theorem F.KIT_MTIMECMP_T_blk (i : Nat) : blockOf (F.KIT_MTIMECMP_T i).reg = 19 := R.KIT_MTIMECMP_blk _
theorem F.KIT_MBX_H2K_W_W_blk (i : Nat) : blockOf (F.KIT_MBX_H2K_W_W i).reg = 19 := R.KIT_MBX_H2K_W_blk _
theorem F.KIT_MBX_K2H_W_W_blk (i : Nat) : blockOf (F.KIT_MBX_K2H_W_W i).reg = 19 := R.KIT_MBX_K2H_W_blk _
theorem F.BST_SIG_SIG_blk (i : Nat) : blockOf (F.BST_SIG_SIG i).reg = 21 := R.BST_SIG_blk _
theorem F.BST_GOLD_GOLD_blk (i : Nat) : blockOf (F.BST_GOLD_GOLD i).reg = 21 := R.BST_GOLD_blk _
theorem F.BST_INFO_DEF_PAT_blk (i : Nat) : blockOf (F.BST_INFO_DEF_PAT i).reg = 21 := R.BST_INFO_blk _
theorem F.BST_INFO_TURNS_blk (i : Nat) : blockOf (F.BST_INFO_TURNS i).reg = 21 := R.BST_INFO_blk _
theorem F.BST_INFO_SERVICE_blk (i : Nat) : blockOf (F.BST_INFO_SERVICE i).reg = 21 := R.BST_INFO_blk _
theorem F.TLM_ACT_OPS_COUNT_blk (i : Nat) : blockOf (F.TLM_ACT_OPS_COUNT i).reg = 22 := R.TLM_ACT_OPS_blk _
theorem F.TLM_ACT_BUSY_COUNT_blk (i : Nat) : blockOf (F.TLM_ACT_BUSY_COUNT i).reg = 22 := R.TLM_ACT_BUSY_blk _
theorem F.TLM_CH_NOW_NOW_blk (i : Nat) : blockOf (F.TLM_CH_NOW_NOW i).reg = 22 := R.TLM_CH_NOW_blk _
theorem F.TLM_CH_NOW_MIN_blk (i : Nat) : blockOf (F.TLM_CH_NOW_MIN i).reg = 22 := R.TLM_CH_NOW_blk _
theorem F.TLM_CH_MAX_MAX_blk (i : Nat) : blockOf (F.TLM_CH_MAX_MAX i).reg = 22 := R.TLM_CH_MAX_blk _
theorem F.TLM_CH_THR_LO_blk (i : Nat) : blockOf (F.TLM_CH_THR_LO i).reg = 22 := R.TLM_CH_THR_blk _
theorem F.TLM_CH_THR_HI_blk (i : Nat) : blockOf (F.TLM_CH_THR_HI i).reg = 22 := R.TLM_CH_THR_blk _
theorem F.FAB_PACE_NOW_blk (i : Nat) : blockOf (F.FAB_PACE_NOW i).reg = 23 := R.FAB_PACE_blk _
theorem F.FAB_PACE_MIN_blk (i : Nat) : blockOf (F.FAB_PACE_MIN i).reg = 23 := R.FAB_PACE_blk _
theorem F.FAB_PACE_VALID_blk (i : Nat) : blockOf (F.FAB_PACE_VALID i).reg = 23 := R.FAB_PACE_blk _
theorem F.FAB_SOCK_EN_blk (i : Nat) : blockOf (F.FAB_SOCK_EN i).reg = 23 := R.FAB_SOCK_blk _
theorem F.FAB_SOCK_CALL_EN_blk (i : Nat) : blockOf (F.FAB_SOCK_CALL_EN i).reg = 23 := R.FAB_SOCK_blk _
theorem F.FAB_SOCK_OUTSTANDING_blk (i : Nat) : blockOf (F.FAB_SOCK_OUTSTANDING i).reg = 23 := R.FAB_SOCK_blk _
theorem F.FAB_SOCK_ERRS_blk (i : Nat) : blockOf (F.FAB_SOCK_ERRS i).reg = 23 := R.FAB_SOCK_blk _

end Sys2Proof
end

