-- ==== Sys2Proof/Laws/Made.lean ====
section
/-! SUPPORT. Once for every operation: which fields of the state it leaves as they are, and that it keeps the stores in canonical
form. `Made M s t` says that `t` differs from `s` in fields of the mask `M` only (bit by bit in the order of State) and that the
stores stay canonical. -/
namespace Sys2Proof.Machine
set_option Elab.async false

/-- `t` arises from `s` by changes of the fields in the mask `M`, and canonical stores stay canonical. -/
structure Made (M : Nat) (s t : State) : Prop where
  pending : M.testBit 0 = false → t.pending = s.pending
  regs : M.testBit 1 = false → t.regs = s.regs
  mem : M.testBit 2 = false → t.mem = s.mem
  memFill : M.testBit 3 = false → t.memFill = s.memFill
  free : M.testBit 4 = false → t.free = s.free
  out : M.testBit 5 = false → t.out = s.out
  ctxs : M.testBit 6 = false → t.ctxs = s.ctxs
  ops : M.testBit 7 = false → t.ops = s.ops
  nextTag : M.testBit 8 = false → t.nextTag = s.nextTag
  rounds : M.testBit 9 = false → t.rounds = s.rounds
  ledger : M.testBit 10 = false → t.ledger = s.ledger
  hif : M.testBit 11 = false → t.hif = s.hif
  pwr : M.testBit 12 = false → t.pwr = s.pwr
  doms : M.testBit 13 = false → t.doms = s.doms
  banks : M.testBit 14 = false → t.banks = s.banks
  log : M.testBit 15 = false → t.log = s.log
  tbu : M.testBit 16 = false → t.tbu = s.tbu
  nv : M.testBit 17 = false → t.nv = s.nv
  planeMem : M.testBit 18 = false → t.planeMem = s.planeMem
  fifos : M.testBit 19 = false → t.fifos = s.fifos
  clk : M.testBit 20 = false → t.clk = s.clk
  fab : M.testBit 21 = false → t.fab = s.fab
  boot : M.testBit 22 = false → t.boot = s.boot
  stage : M.testBit 23 = false → t.stage = s.stage
  ho : M.testBit 24 = false → t.ho = s.ho
  planeFill : M.testBit 25 = false → t.planeFill = s.planeFill
  dep : M.testBit 26 = false → t.dep = s.dep
  flash : M.testBit 27 = false → t.flash = s.flash
  flashFill : M.testBit 28 = false → t.flashFill = s.flashFill
  keys : M.testBit 29 = false → t.keys = s.keys
  prevEpoch : M.testBit 30 = false → t.prevEpoch = s.prevEpoch
  load : M.testBit 31 = false → t.load = s.load
  kite : M.testBit 32 = false → t.kite = s.kite
  tlm : M.testBit 33 = false → t.tlm = s.tlm
  scrUnbind : M.testBit 34 = false → t.scrUnbind = s.scrUnbind
  nva : M.testBit 35 = false → t.nva = s.nva
  nvIncomplete : M.testBit 36 = false → t.nvIncomplete = s.nvIncomplete
  nvFill : M.testBit 37 = false → t.nvFill = s.nvFill
  ports : M.testBit 38 = false → t.ports = s.ports
  enu : M.testBit 39 = false → t.enu = s.enu
  har : M.testBit 40 = false → t.har = s.har
  vbu : M.testBit 41 = false → t.vbu = s.vbu
  osp : M.testBit 42 = false → t.osp = s.osp
  tag : M.testBit 43 = false → t.tag = s.tag
  tagMem : M.testBit 44 = false → t.tagMem = s.tagMem
  bst : M.testBit 45 = false → t.bst = s.bst
  lcy : M.testBit 46 = false → t.lcy = s.lcy
  tap : M.testBit 47 = false → t.tap = s.tap
  regDue : M.testBit 48 = false → t.regDue = s.regDue
  regPart : M.testBit 49 = false → t.regPart = s.regPart
  blk : ∀ a, M.testBit (64 + blockOf a) = false → rd t a = rd s a
  wf : Memory.wf s = true → Memory.wf t = true

theorem Made.refl (M : Nat) (s : State) : Made M s s :=
  ⟨fun _ => rfl, fun _ => rfl, fun _ => rfl, fun _ => rfl, fun _ => rfl, fun _ => rfl, fun _ => rfl, fun _ => rfl, fun _ => rfl, fun _ => rfl, fun _ => rfl, fun _ => rfl, fun _ => rfl, fun _ => rfl, fun _ => rfl, fun _ => rfl, fun _ => rfl, fun _ => rfl, fun _ => rfl, fun _ => rfl, fun _ => rfl, fun _ => rfl, fun _ => rfl, fun _ => rfl, fun _ => rfl, fun _ => rfl, fun _ => rfl, fun _ => rfl, fun _ => rfl, fun _ => rfl, fun _ => rfl, fun _ => rfl, fun _ => rfl, fun _ => rfl, fun _ => rfl, fun _ => rfl, fun _ => rfl, fun _ => rfl, fun _ => rfl, fun _ => rfl, fun _ => rfl, fun _ => rfl, fun _ => rfl, fun _ => rfl, fun _ => rfl, fun _ => rfl, fun _ => rfl, fun _ => rfl, fun _ => rfl, fun _ => rfl, fun _ _ => rfl, id⟩

theorem Made.trans {M : Nat} {s t u : State} (h : Made M s t) (k : Made M t u) : Made M s u :=
  ⟨fun b => (k.pending b).trans (h.pending b),
   fun b => (k.regs b).trans (h.regs b),
   fun b => (k.mem b).trans (h.mem b),
   fun b => (k.memFill b).trans (h.memFill b),
   fun b => (k.free b).trans (h.free b),
   fun b => (k.out b).trans (h.out b),
   fun b => (k.ctxs b).trans (h.ctxs b),
   fun b => (k.ops b).trans (h.ops b),
   fun b => (k.nextTag b).trans (h.nextTag b),
   fun b => (k.rounds b).trans (h.rounds b),
   fun b => (k.ledger b).trans (h.ledger b),
   fun b => (k.hif b).trans (h.hif b),
   fun b => (k.pwr b).trans (h.pwr b),
   fun b => (k.doms b).trans (h.doms b),
   fun b => (k.banks b).trans (h.banks b),
   fun b => (k.log b).trans (h.log b),
   fun b => (k.tbu b).trans (h.tbu b),
   fun b => (k.nv b).trans (h.nv b),
   fun b => (k.planeMem b).trans (h.planeMem b),
   fun b => (k.fifos b).trans (h.fifos b),
   fun b => (k.clk b).trans (h.clk b),
   fun b => (k.fab b).trans (h.fab b),
   fun b => (k.boot b).trans (h.boot b),
   fun b => (k.stage b).trans (h.stage b),
   fun b => (k.ho b).trans (h.ho b),
   fun b => (k.planeFill b).trans (h.planeFill b),
   fun b => (k.dep b).trans (h.dep b),
   fun b => (k.flash b).trans (h.flash b),
   fun b => (k.flashFill b).trans (h.flashFill b),
   fun b => (k.keys b).trans (h.keys b),
   fun b => (k.prevEpoch b).trans (h.prevEpoch b),
   fun b => (k.load b).trans (h.load b),
   fun b => (k.kite b).trans (h.kite b),
   fun b => (k.tlm b).trans (h.tlm b),
   fun b => (k.scrUnbind b).trans (h.scrUnbind b),
   fun b => (k.nva b).trans (h.nva b),
   fun b => (k.nvIncomplete b).trans (h.nvIncomplete b),
   fun b => (k.nvFill b).trans (h.nvFill b),
   fun b => (k.ports b).trans (h.ports b),
   fun b => (k.enu b).trans (h.enu b),
   fun b => (k.har b).trans (h.har b),
   fun b => (k.vbu b).trans (h.vbu b),
   fun b => (k.osp b).trans (h.osp b),
   fun b => (k.tag b).trans (h.tag b),
   fun b => (k.tagMem b).trans (h.tagMem b),
   fun b => (k.bst b).trans (h.bst b),
   fun b => (k.lcy b).trans (h.lcy b),
   fun b => (k.tap b).trans (h.tap b),
   fun b => (k.regDue b).trans (h.regDue b),
   fun b => (k.regPart b).trans (h.regPart b),
   fun a b => (k.blk a b).trans (h.blk a b),
   fun w => k.wf (h.wf w)⟩

theorem mask_low {M m : Nat} (h : M ||| m = M) {i : Nat} (b : M.testBit i = false) : m.testBit i = false := by
  rw [← h, Nat.testBit_or] at b; simp at b; exact b.2

theorem mask_sub {M a b : Nat} (h : M ||| a = M) (k : a ||| b = a) : M ||| b = M := by
  rw [← h, Nat.lor_assoc, k]

theorem mask_bit {M m : Nat} (h : M ||| m = M) {i : Nat} (k : m.testBit i = true) : M.testBit i = true := by
  rw [← h, Nat.testBit_or, k, Bool.or_true]

theorem mask_off {M m : Nat} (h : M ||| m = M) (i : Nat) (k : m.testBit i = true) {P : Prop} (b : M.testBit i = false) : P := by
  rw [mask_bit h k] at b; cases b

/-- A wider mask says less. -/
theorem Made.mono {M m : Nat} (h : M ||| m = M) {s t : State} (k : Made m s t) : Made M s t :=
  ⟨fun b => k.pending (mask_low h b),
   fun b => k.regs (mask_low h b),
   fun b => k.mem (mask_low h b),
   fun b => k.memFill (mask_low h b),
   fun b => k.free (mask_low h b),
   fun b => k.out (mask_low h b),
   fun b => k.ctxs (mask_low h b),
   fun b => k.ops (mask_low h b),
   fun b => k.nextTag (mask_low h b),
   fun b => k.rounds (mask_low h b),
   fun b => k.ledger (mask_low h b),
   fun b => k.hif (mask_low h b),
   fun b => k.pwr (mask_low h b),
   fun b => k.doms (mask_low h b),
   fun b => k.banks (mask_low h b),
   fun b => k.log (mask_low h b),
   fun b => k.tbu (mask_low h b),
   fun b => k.nv (mask_low h b),
   fun b => k.planeMem (mask_low h b),
   fun b => k.fifos (mask_low h b),
   fun b => k.clk (mask_low h b),
   fun b => k.fab (mask_low h b),
   fun b => k.boot (mask_low h b),
   fun b => k.stage (mask_low h b),
   fun b => k.ho (mask_low h b),
   fun b => k.planeFill (mask_low h b),
   fun b => k.dep (mask_low h b),
   fun b => k.flash (mask_low h b),
   fun b => k.flashFill (mask_low h b),
   fun b => k.keys (mask_low h b),
   fun b => k.prevEpoch (mask_low h b),
   fun b => k.load (mask_low h b),
   fun b => k.kite (mask_low h b),
   fun b => k.tlm (mask_low h b),
   fun b => k.scrUnbind (mask_low h b),
   fun b => k.nva (mask_low h b),
   fun b => k.nvIncomplete (mask_low h b),
   fun b => k.nvFill (mask_low h b),
   fun b => k.ports (mask_low h b),
   fun b => k.enu (mask_low h b),
   fun b => k.har (mask_low h b),
   fun b => k.vbu (mask_low h b),
   fun b => k.osp (mask_low h b),
   fun b => k.tag (mask_low h b),
   fun b => k.tagMem (mask_low h b),
   fun b => k.bst (mask_low h b),
   fun b => k.lcy (mask_low h b),
   fun b => k.tap (mask_low h b),
   fun b => k.regDue (mask_low h b),
   fun b => k.regPart (mask_low h b),
   fun a b => k.blk a (mask_low h b),
   k.wf⟩

theorem Made.set_free {M : Nat} (hM : M ||| 16 = M) {s0 s : State} (h : Made M s0 s) (x) :
    Made M s0 { s with free := x } :=
  ⟨h.pending,
   h.regs,
   h.mem,
   h.memFill,
   mask_off hM 4 rfl,
   h.out,
   h.ctxs,
   h.ops,
   h.nextTag,
   h.rounds,
   h.ledger,
   h.hif,
   h.pwr,
   h.doms,
   h.banks,
   h.log,
   h.tbu,
   h.nv,
   h.planeMem,
   h.fifos,
   h.clk,
   h.fab,
   h.boot,
   h.stage,
   h.ho,
   h.planeFill,
   h.dep,
   h.flash,
   h.flashFill,
   h.keys,
   h.prevEpoch,
   h.load,
   h.kite,
   h.tlm,
   h.scrUnbind,
   h.nva,
   h.nvIncomplete,
   h.nvFill,
   h.ports,
   h.enu,
   h.har,
   h.vbu,
   h.osp,
   h.tag,
   h.tagMem,
   h.bst,
   h.lcy,
   h.tap,
   h.regDue,
   h.regPart,
   h.blk,
   h.wf⟩

theorem Made.set_out {M : Nat} (hM : M ||| 32 = M) {s0 s : State} (h : Made M s0 s) (x) :
    Made M s0 { s with out := x } :=
  ⟨h.pending,
   h.regs,
   h.mem,
   h.memFill,
   h.free,
   mask_off hM 5 rfl,
   h.ctxs,
   h.ops,
   h.nextTag,
   h.rounds,
   h.ledger,
   h.hif,
   h.pwr,
   h.doms,
   h.banks,
   h.log,
   h.tbu,
   h.nv,
   h.planeMem,
   h.fifos,
   h.clk,
   h.fab,
   h.boot,
   h.stage,
   h.ho,
   h.planeFill,
   h.dep,
   h.flash,
   h.flashFill,
   h.keys,
   h.prevEpoch,
   h.load,
   h.kite,
   h.tlm,
   h.scrUnbind,
   h.nva,
   h.nvIncomplete,
   h.nvFill,
   h.ports,
   h.enu,
   h.har,
   h.vbu,
   h.osp,
   h.tag,
   h.tagMem,
   h.bst,
   h.lcy,
   h.tap,
   h.regDue,
   h.regPart,
   h.blk,
   h.wf⟩

theorem Made.set_ctxs {M : Nat} (hM : M ||| 64 = M) {s0 s : State} (h : Made M s0 s) (x) :
    Made M s0 { s with ctxs := x } :=
  ⟨h.pending,
   h.regs,
   h.mem,
   h.memFill,
   h.free,
   h.out,
   mask_off hM 6 rfl,
   h.ops,
   h.nextTag,
   h.rounds,
   h.ledger,
   h.hif,
   h.pwr,
   h.doms,
   h.banks,
   h.log,
   h.tbu,
   h.nv,
   h.planeMem,
   h.fifos,
   h.clk,
   h.fab,
   h.boot,
   h.stage,
   h.ho,
   h.planeFill,
   h.dep,
   h.flash,
   h.flashFill,
   h.keys,
   h.prevEpoch,
   h.load,
   h.kite,
   h.tlm,
   h.scrUnbind,
   h.nva,
   h.nvIncomplete,
   h.nvFill,
   h.ports,
   h.enu,
   h.har,
   h.vbu,
   h.osp,
   h.tag,
   h.tagMem,
   h.bst,
   h.lcy,
   h.tap,
   h.regDue,
   h.regPart,
   h.blk,
   h.wf⟩

theorem Made.set_ops {M : Nat} (hM : M ||| 128 = M) {s0 s : State} (h : Made M s0 s) (x) :
    Made M s0 { s with ops := x } :=
  ⟨h.pending,
   h.regs,
   h.mem,
   h.memFill,
   h.free,
   h.out,
   h.ctxs,
   mask_off hM 7 rfl,
   h.nextTag,
   h.rounds,
   h.ledger,
   h.hif,
   h.pwr,
   h.doms,
   h.banks,
   h.log,
   h.tbu,
   h.nv,
   h.planeMem,
   h.fifos,
   h.clk,
   h.fab,
   h.boot,
   h.stage,
   h.ho,
   h.planeFill,
   h.dep,
   h.flash,
   h.flashFill,
   h.keys,
   h.prevEpoch,
   h.load,
   h.kite,
   h.tlm,
   h.scrUnbind,
   h.nva,
   h.nvIncomplete,
   h.nvFill,
   h.ports,
   h.enu,
   h.har,
   h.vbu,
   h.osp,
   h.tag,
   h.tagMem,
   h.bst,
   h.lcy,
   h.tap,
   h.regDue,
   h.regPart,
   h.blk,
   h.wf⟩

theorem Made.set_nextTag {M : Nat} (hM : M ||| 256 = M) {s0 s : State} (h : Made M s0 s) (x) :
    Made M s0 { s with nextTag := x } :=
  ⟨h.pending,
   h.regs,
   h.mem,
   h.memFill,
   h.free,
   h.out,
   h.ctxs,
   h.ops,
   mask_off hM 8 rfl,
   h.rounds,
   h.ledger,
   h.hif,
   h.pwr,
   h.doms,
   h.banks,
   h.log,
   h.tbu,
   h.nv,
   h.planeMem,
   h.fifos,
   h.clk,
   h.fab,
   h.boot,
   h.stage,
   h.ho,
   h.planeFill,
   h.dep,
   h.flash,
   h.flashFill,
   h.keys,
   h.prevEpoch,
   h.load,
   h.kite,
   h.tlm,
   h.scrUnbind,
   h.nva,
   h.nvIncomplete,
   h.nvFill,
   h.ports,
   h.enu,
   h.har,
   h.vbu,
   h.osp,
   h.tag,
   h.tagMem,
   h.bst,
   h.lcy,
   h.tap,
   h.regDue,
   h.regPart,
   h.blk,
   h.wf⟩

theorem Made.set_rounds {M : Nat} (hM : M ||| 512 = M) {s0 s : State} (h : Made M s0 s) (x) :
    Made M s0 { s with rounds := x } :=
  ⟨h.pending,
   h.regs,
   h.mem,
   h.memFill,
   h.free,
   h.out,
   h.ctxs,
   h.ops,
   h.nextTag,
   mask_off hM 9 rfl,
   h.ledger,
   h.hif,
   h.pwr,
   h.doms,
   h.banks,
   h.log,
   h.tbu,
   h.nv,
   h.planeMem,
   h.fifos,
   h.clk,
   h.fab,
   h.boot,
   h.stage,
   h.ho,
   h.planeFill,
   h.dep,
   h.flash,
   h.flashFill,
   h.keys,
   h.prevEpoch,
   h.load,
   h.kite,
   h.tlm,
   h.scrUnbind,
   h.nva,
   h.nvIncomplete,
   h.nvFill,
   h.ports,
   h.enu,
   h.har,
   h.vbu,
   h.osp,
   h.tag,
   h.tagMem,
   h.bst,
   h.lcy,
   h.tap,
   h.regDue,
   h.regPart,
   h.blk,
   h.wf⟩

theorem Made.set_ledger {M : Nat} (hM : M ||| 1024 = M) {s0 s : State} (h : Made M s0 s) (x) :
    Made M s0 { s with ledger := x } :=
  ⟨h.pending,
   h.regs,
   h.mem,
   h.memFill,
   h.free,
   h.out,
   h.ctxs,
   h.ops,
   h.nextTag,
   h.rounds,
   mask_off hM 10 rfl,
   h.hif,
   h.pwr,
   h.doms,
   h.banks,
   h.log,
   h.tbu,
   h.nv,
   h.planeMem,
   h.fifos,
   h.clk,
   h.fab,
   h.boot,
   h.stage,
   h.ho,
   h.planeFill,
   h.dep,
   h.flash,
   h.flashFill,
   h.keys,
   h.prevEpoch,
   h.load,
   h.kite,
   h.tlm,
   h.scrUnbind,
   h.nva,
   h.nvIncomplete,
   h.nvFill,
   h.ports,
   h.enu,
   h.har,
   h.vbu,
   h.osp,
   h.tag,
   h.tagMem,
   h.bst,
   h.lcy,
   h.tap,
   h.regDue,
   h.regPart,
   h.blk,
   h.wf⟩

theorem Made.set_hif {M : Nat} (hM : M ||| 2048 = M) {s0 s : State} (h : Made M s0 s) (x) :
    Made M s0 { s with hif := x } :=
  ⟨h.pending,
   h.regs,
   h.mem,
   h.memFill,
   h.free,
   h.out,
   h.ctxs,
   h.ops,
   h.nextTag,
   h.rounds,
   h.ledger,
   mask_off hM 11 rfl,
   h.pwr,
   h.doms,
   h.banks,
   h.log,
   h.tbu,
   h.nv,
   h.planeMem,
   h.fifos,
   h.clk,
   h.fab,
   h.boot,
   h.stage,
   h.ho,
   h.planeFill,
   h.dep,
   h.flash,
   h.flashFill,
   h.keys,
   h.prevEpoch,
   h.load,
   h.kite,
   h.tlm,
   h.scrUnbind,
   h.nva,
   h.nvIncomplete,
   h.nvFill,
   h.ports,
   h.enu,
   h.har,
   h.vbu,
   h.osp,
   h.tag,
   h.tagMem,
   h.bst,
   h.lcy,
   h.tap,
   h.regDue,
   h.regPart,
   h.blk,
   h.wf⟩

theorem Made.set_pwr {M : Nat} (hM : M ||| 4096 = M) {s0 s : State} (h : Made M s0 s) (x) :
    Made M s0 { s with pwr := x } :=
  ⟨h.pending,
   h.regs,
   h.mem,
   h.memFill,
   h.free,
   h.out,
   h.ctxs,
   h.ops,
   h.nextTag,
   h.rounds,
   h.ledger,
   h.hif,
   mask_off hM 12 rfl,
   h.doms,
   h.banks,
   h.log,
   h.tbu,
   h.nv,
   h.planeMem,
   h.fifos,
   h.clk,
   h.fab,
   h.boot,
   h.stage,
   h.ho,
   h.planeFill,
   h.dep,
   h.flash,
   h.flashFill,
   h.keys,
   h.prevEpoch,
   h.load,
   h.kite,
   h.tlm,
   h.scrUnbind,
   h.nva,
   h.nvIncomplete,
   h.nvFill,
   h.ports,
   h.enu,
   h.har,
   h.vbu,
   h.osp,
   h.tag,
   h.tagMem,
   h.bst,
   h.lcy,
   h.tap,
   h.regDue,
   h.regPart,
   h.blk,
   h.wf⟩

theorem Made.set_doms {M : Nat} (hM : M ||| 8192 = M) {s0 s : State} (h : Made M s0 s) (x) :
    Made M s0 { s with doms := x } :=
  ⟨h.pending,
   h.regs,
   h.mem,
   h.memFill,
   h.free,
   h.out,
   h.ctxs,
   h.ops,
   h.nextTag,
   h.rounds,
   h.ledger,
   h.hif,
   h.pwr,
   mask_off hM 13 rfl,
   h.banks,
   h.log,
   h.tbu,
   h.nv,
   h.planeMem,
   h.fifos,
   h.clk,
   h.fab,
   h.boot,
   h.stage,
   h.ho,
   h.planeFill,
   h.dep,
   h.flash,
   h.flashFill,
   h.keys,
   h.prevEpoch,
   h.load,
   h.kite,
   h.tlm,
   h.scrUnbind,
   h.nva,
   h.nvIncomplete,
   h.nvFill,
   h.ports,
   h.enu,
   h.har,
   h.vbu,
   h.osp,
   h.tag,
   h.tagMem,
   h.bst,
   h.lcy,
   h.tap,
   h.regDue,
   h.regPart,
   h.blk,
   h.wf⟩

theorem Made.set_banks {M : Nat} (hM : M ||| 16384 = M) {s0 s : State} (h : Made M s0 s) (x) :
    Made M s0 { s with banks := x } :=
  ⟨h.pending,
   h.regs,
   h.mem,
   h.memFill,
   h.free,
   h.out,
   h.ctxs,
   h.ops,
   h.nextTag,
   h.rounds,
   h.ledger,
   h.hif,
   h.pwr,
   h.doms,
   mask_off hM 14 rfl,
   h.log,
   h.tbu,
   h.nv,
   h.planeMem,
   h.fifos,
   h.clk,
   h.fab,
   h.boot,
   h.stage,
   h.ho,
   h.planeFill,
   h.dep,
   h.flash,
   h.flashFill,
   h.keys,
   h.prevEpoch,
   h.load,
   h.kite,
   h.tlm,
   h.scrUnbind,
   h.nva,
   h.nvIncomplete,
   h.nvFill,
   h.ports,
   h.enu,
   h.har,
   h.vbu,
   h.osp,
   h.tag,
   h.tagMem,
   h.bst,
   h.lcy,
   h.tap,
   h.regDue,
   h.regPart,
   h.blk,
   h.wf⟩

theorem Made.set_log {M : Nat} (hM : M ||| 32768 = M) {s0 s : State} (h : Made M s0 s) (x) :
    Made M s0 { s with log := x } :=
  ⟨h.pending,
   h.regs,
   h.mem,
   h.memFill,
   h.free,
   h.out,
   h.ctxs,
   h.ops,
   h.nextTag,
   h.rounds,
   h.ledger,
   h.hif,
   h.pwr,
   h.doms,
   h.banks,
   mask_off hM 15 rfl,
   h.tbu,
   h.nv,
   h.planeMem,
   h.fifos,
   h.clk,
   h.fab,
   h.boot,
   h.stage,
   h.ho,
   h.planeFill,
   h.dep,
   h.flash,
   h.flashFill,
   h.keys,
   h.prevEpoch,
   h.load,
   h.kite,
   h.tlm,
   h.scrUnbind,
   h.nva,
   h.nvIncomplete,
   h.nvFill,
   h.ports,
   h.enu,
   h.har,
   h.vbu,
   h.osp,
   h.tag,
   h.tagMem,
   h.bst,
   h.lcy,
   h.tap,
   h.regDue,
   h.regPart,
   h.blk,
   h.wf⟩

theorem Made.set_tbu {M : Nat} (hM : M ||| 65536 = M) {s0 s : State} (h : Made M s0 s) (x) :
    Made M s0 { s with tbu := x } :=
  ⟨h.pending,
   h.regs,
   h.mem,
   h.memFill,
   h.free,
   h.out,
   h.ctxs,
   h.ops,
   h.nextTag,
   h.rounds,
   h.ledger,
   h.hif,
   h.pwr,
   h.doms,
   h.banks,
   h.log,
   mask_off hM 16 rfl,
   h.nv,
   h.planeMem,
   h.fifos,
   h.clk,
   h.fab,
   h.boot,
   h.stage,
   h.ho,
   h.planeFill,
   h.dep,
   h.flash,
   h.flashFill,
   h.keys,
   h.prevEpoch,
   h.load,
   h.kite,
   h.tlm,
   h.scrUnbind,
   h.nva,
   h.nvIncomplete,
   h.nvFill,
   h.ports,
   h.enu,
   h.har,
   h.vbu,
   h.osp,
   h.tag,
   h.tagMem,
   h.bst,
   h.lcy,
   h.tap,
   h.regDue,
   h.regPart,
   h.blk,
   h.wf⟩

theorem Made.set_fifos {M : Nat} (hM : M ||| 524288 = M) {s0 s : State} (h : Made M s0 s) (x) :
    Made M s0 { s with fifos := x } :=
  ⟨h.pending,
   h.regs,
   h.mem,
   h.memFill,
   h.free,
   h.out,
   h.ctxs,
   h.ops,
   h.nextTag,
   h.rounds,
   h.ledger,
   h.hif,
   h.pwr,
   h.doms,
   h.banks,
   h.log,
   h.tbu,
   h.nv,
   h.planeMem,
   mask_off hM 19 rfl,
   h.clk,
   h.fab,
   h.boot,
   h.stage,
   h.ho,
   h.planeFill,
   h.dep,
   h.flash,
   h.flashFill,
   h.keys,
   h.prevEpoch,
   h.load,
   h.kite,
   h.tlm,
   h.scrUnbind,
   h.nva,
   h.nvIncomplete,
   h.nvFill,
   h.ports,
   h.enu,
   h.har,
   h.vbu,
   h.osp,
   h.tag,
   h.tagMem,
   h.bst,
   h.lcy,
   h.tap,
   h.regDue,
   h.regPart,
   h.blk,
   h.wf⟩

theorem Made.set_clk {M : Nat} (hM : M ||| 1048576 = M) {s0 s : State} (h : Made M s0 s) (x) :
    Made M s0 { s with clk := x } :=
  ⟨h.pending,
   h.regs,
   h.mem,
   h.memFill,
   h.free,
   h.out,
   h.ctxs,
   h.ops,
   h.nextTag,
   h.rounds,
   h.ledger,
   h.hif,
   h.pwr,
   h.doms,
   h.banks,
   h.log,
   h.tbu,
   h.nv,
   h.planeMem,
   h.fifos,
   mask_off hM 20 rfl,
   h.fab,
   h.boot,
   h.stage,
   h.ho,
   h.planeFill,
   h.dep,
   h.flash,
   h.flashFill,
   h.keys,
   h.prevEpoch,
   h.load,
   h.kite,
   h.tlm,
   h.scrUnbind,
   h.nva,
   h.nvIncomplete,
   h.nvFill,
   h.ports,
   h.enu,
   h.har,
   h.vbu,
   h.osp,
   h.tag,
   h.tagMem,
   h.bst,
   h.lcy,
   h.tap,
   h.regDue,
   h.regPart,
   h.blk,
   h.wf⟩

theorem Made.set_fab {M : Nat} (hM : M ||| 2097152 = M) {s0 s : State} (h : Made M s0 s) (x) :
    Made M s0 { s with fab := x } :=
  ⟨h.pending,
   h.regs,
   h.mem,
   h.memFill,
   h.free,
   h.out,
   h.ctxs,
   h.ops,
   h.nextTag,
   h.rounds,
   h.ledger,
   h.hif,
   h.pwr,
   h.doms,
   h.banks,
   h.log,
   h.tbu,
   h.nv,
   h.planeMem,
   h.fifos,
   h.clk,
   mask_off hM 21 rfl,
   h.boot,
   h.stage,
   h.ho,
   h.planeFill,
   h.dep,
   h.flash,
   h.flashFill,
   h.keys,
   h.prevEpoch,
   h.load,
   h.kite,
   h.tlm,
   h.scrUnbind,
   h.nva,
   h.nvIncomplete,
   h.nvFill,
   h.ports,
   h.enu,
   h.har,
   h.vbu,
   h.osp,
   h.tag,
   h.tagMem,
   h.bst,
   h.lcy,
   h.tap,
   h.regDue,
   h.regPart,
   h.blk,
   h.wf⟩

theorem Made.set_boot {M : Nat} (hM : M ||| 4194304 = M) {s0 s : State} (h : Made M s0 s) (x) :
    Made M s0 { s with boot := x } :=
  ⟨h.pending,
   h.regs,
   h.mem,
   h.memFill,
   h.free,
   h.out,
   h.ctxs,
   h.ops,
   h.nextTag,
   h.rounds,
   h.ledger,
   h.hif,
   h.pwr,
   h.doms,
   h.banks,
   h.log,
   h.tbu,
   h.nv,
   h.planeMem,
   h.fifos,
   h.clk,
   h.fab,
   mask_off hM 22 rfl,
   h.stage,
   h.ho,
   h.planeFill,
   h.dep,
   h.flash,
   h.flashFill,
   h.keys,
   h.prevEpoch,
   h.load,
   h.kite,
   h.tlm,
   h.scrUnbind,
   h.nva,
   h.nvIncomplete,
   h.nvFill,
   h.ports,
   h.enu,
   h.har,
   h.vbu,
   h.osp,
   h.tag,
   h.tagMem,
   h.bst,
   h.lcy,
   h.tap,
   h.regDue,
   h.regPart,
   h.blk,
   h.wf⟩

theorem Made.set_stage {M : Nat} (hM : M ||| 8388608 = M) {s0 s : State} (h : Made M s0 s) (x) :
    Made M s0 { s with stage := x } :=
  ⟨h.pending,
   h.regs,
   h.mem,
   h.memFill,
   h.free,
   h.out,
   h.ctxs,
   h.ops,
   h.nextTag,
   h.rounds,
   h.ledger,
   h.hif,
   h.pwr,
   h.doms,
   h.banks,
   h.log,
   h.tbu,
   h.nv,
   h.planeMem,
   h.fifos,
   h.clk,
   h.fab,
   h.boot,
   mask_off hM 23 rfl,
   h.ho,
   h.planeFill,
   h.dep,
   h.flash,
   h.flashFill,
   h.keys,
   h.prevEpoch,
   h.load,
   h.kite,
   h.tlm,
   h.scrUnbind,
   h.nva,
   h.nvIncomplete,
   h.nvFill,
   h.ports,
   h.enu,
   h.har,
   h.vbu,
   h.osp,
   h.tag,
   h.tagMem,
   h.bst,
   h.lcy,
   h.tap,
   h.regDue,
   h.regPart,
   h.blk,
   h.wf⟩

theorem Made.set_ho {M : Nat} (hM : M ||| 16777216 = M) {s0 s : State} (h : Made M s0 s) (x) :
    Made M s0 { s with ho := x } :=
  ⟨h.pending,
   h.regs,
   h.mem,
   h.memFill,
   h.free,
   h.out,
   h.ctxs,
   h.ops,
   h.nextTag,
   h.rounds,
   h.ledger,
   h.hif,
   h.pwr,
   h.doms,
   h.banks,
   h.log,
   h.tbu,
   h.nv,
   h.planeMem,
   h.fifos,
   h.clk,
   h.fab,
   h.boot,
   h.stage,
   mask_off hM 24 rfl,
   h.planeFill,
   h.dep,
   h.flash,
   h.flashFill,
   h.keys,
   h.prevEpoch,
   h.load,
   h.kite,
   h.tlm,
   h.scrUnbind,
   h.nva,
   h.nvIncomplete,
   h.nvFill,
   h.ports,
   h.enu,
   h.har,
   h.vbu,
   h.osp,
   h.tag,
   h.tagMem,
   h.bst,
   h.lcy,
   h.tap,
   h.regDue,
   h.regPart,
   h.blk,
   h.wf⟩

theorem Made.set_dep {M : Nat} (hM : M ||| 67108864 = M) {s0 s : State} (h : Made M s0 s) (x) :
    Made M s0 { s with dep := x } :=
  ⟨h.pending,
   h.regs,
   h.mem,
   h.memFill,
   h.free,
   h.out,
   h.ctxs,
   h.ops,
   h.nextTag,
   h.rounds,
   h.ledger,
   h.hif,
   h.pwr,
   h.doms,
   h.banks,
   h.log,
   h.tbu,
   h.nv,
   h.planeMem,
   h.fifos,
   h.clk,
   h.fab,
   h.boot,
   h.stage,
   h.ho,
   h.planeFill,
   mask_off hM 26 rfl,
   h.flash,
   h.flashFill,
   h.keys,
   h.prevEpoch,
   h.load,
   h.kite,
   h.tlm,
   h.scrUnbind,
   h.nva,
   h.nvIncomplete,
   h.nvFill,
   h.ports,
   h.enu,
   h.har,
   h.vbu,
   h.osp,
   h.tag,
   h.tagMem,
   h.bst,
   h.lcy,
   h.tap,
   h.regDue,
   h.regPart,
   h.blk,
   h.wf⟩

theorem Made.set_keys {M : Nat} (hM : M ||| 536870912 = M) {s0 s : State} (h : Made M s0 s) (x) :
    Made M s0 { s with keys := x } :=
  ⟨h.pending,
   h.regs,
   h.mem,
   h.memFill,
   h.free,
   h.out,
   h.ctxs,
   h.ops,
   h.nextTag,
   h.rounds,
   h.ledger,
   h.hif,
   h.pwr,
   h.doms,
   h.banks,
   h.log,
   h.tbu,
   h.nv,
   h.planeMem,
   h.fifos,
   h.clk,
   h.fab,
   h.boot,
   h.stage,
   h.ho,
   h.planeFill,
   h.dep,
   h.flash,
   h.flashFill,
   mask_off hM 29 rfl,
   h.prevEpoch,
   h.load,
   h.kite,
   h.tlm,
   h.scrUnbind,
   h.nva,
   h.nvIncomplete,
   h.nvFill,
   h.ports,
   h.enu,
   h.har,
   h.vbu,
   h.osp,
   h.tag,
   h.tagMem,
   h.bst,
   h.lcy,
   h.tap,
   h.regDue,
   h.regPart,
   h.blk,
   h.wf⟩

theorem Made.set_prevEpoch {M : Nat} (hM : M ||| 1073741824 = M) {s0 s : State} (h : Made M s0 s) (x) :
    Made M s0 { s with prevEpoch := x } :=
  ⟨h.pending,
   h.regs,
   h.mem,
   h.memFill,
   h.free,
   h.out,
   h.ctxs,
   h.ops,
   h.nextTag,
   h.rounds,
   h.ledger,
   h.hif,
   h.pwr,
   h.doms,
   h.banks,
   h.log,
   h.tbu,
   h.nv,
   h.planeMem,
   h.fifos,
   h.clk,
   h.fab,
   h.boot,
   h.stage,
   h.ho,
   h.planeFill,
   h.dep,
   h.flash,
   h.flashFill,
   h.keys,
   mask_off hM 30 rfl,
   h.load,
   h.kite,
   h.tlm,
   h.scrUnbind,
   h.nva,
   h.nvIncomplete,
   h.nvFill,
   h.ports,
   h.enu,
   h.har,
   h.vbu,
   h.osp,
   h.tag,
   h.tagMem,
   h.bst,
   h.lcy,
   h.tap,
   h.regDue,
   h.regPart,
   h.blk,
   h.wf⟩

theorem Made.set_load {M : Nat} (hM : M ||| 2147483648 = M) {s0 s : State} (h : Made M s0 s) (x) :
    Made M s0 { s with load := x } :=
  ⟨h.pending,
   h.regs,
   h.mem,
   h.memFill,
   h.free,
   h.out,
   h.ctxs,
   h.ops,
   h.nextTag,
   h.rounds,
   h.ledger,
   h.hif,
   h.pwr,
   h.doms,
   h.banks,
   h.log,
   h.tbu,
   h.nv,
   h.planeMem,
   h.fifos,
   h.clk,
   h.fab,
   h.boot,
   h.stage,
   h.ho,
   h.planeFill,
   h.dep,
   h.flash,
   h.flashFill,
   h.keys,
   h.prevEpoch,
   mask_off hM 31 rfl,
   h.kite,
   h.tlm,
   h.scrUnbind,
   h.nva,
   h.nvIncomplete,
   h.nvFill,
   h.ports,
   h.enu,
   h.har,
   h.vbu,
   h.osp,
   h.tag,
   h.tagMem,
   h.bst,
   h.lcy,
   h.tap,
   h.regDue,
   h.regPart,
   h.blk,
   h.wf⟩

theorem Made.set_kite {M : Nat} (hM : M ||| 4294967296 = M) {s0 s : State} (h : Made M s0 s) (x) :
    Made M s0 { s with kite := x } :=
  ⟨h.pending,
   h.regs,
   h.mem,
   h.memFill,
   h.free,
   h.out,
   h.ctxs,
   h.ops,
   h.nextTag,
   h.rounds,
   h.ledger,
   h.hif,
   h.pwr,
   h.doms,
   h.banks,
   h.log,
   h.tbu,
   h.nv,
   h.planeMem,
   h.fifos,
   h.clk,
   h.fab,
   h.boot,
   h.stage,
   h.ho,
   h.planeFill,
   h.dep,
   h.flash,
   h.flashFill,
   h.keys,
   h.prevEpoch,
   h.load,
   mask_off hM 32 rfl,
   h.tlm,
   h.scrUnbind,
   h.nva,
   h.nvIncomplete,
   h.nvFill,
   h.ports,
   h.enu,
   h.har,
   h.vbu,
   h.osp,
   h.tag,
   h.tagMem,
   h.bst,
   h.lcy,
   h.tap,
   h.regDue,
   h.regPart,
   h.blk,
   h.wf⟩

theorem Made.set_tlm {M : Nat} (hM : M ||| 8589934592 = M) {s0 s : State} (h : Made M s0 s) (x) :
    Made M s0 { s with tlm := x } :=
  ⟨h.pending,
   h.regs,
   h.mem,
   h.memFill,
   h.free,
   h.out,
   h.ctxs,
   h.ops,
   h.nextTag,
   h.rounds,
   h.ledger,
   h.hif,
   h.pwr,
   h.doms,
   h.banks,
   h.log,
   h.tbu,
   h.nv,
   h.planeMem,
   h.fifos,
   h.clk,
   h.fab,
   h.boot,
   h.stage,
   h.ho,
   h.planeFill,
   h.dep,
   h.flash,
   h.flashFill,
   h.keys,
   h.prevEpoch,
   h.load,
   h.kite,
   mask_off hM 33 rfl,
   h.scrUnbind,
   h.nva,
   h.nvIncomplete,
   h.nvFill,
   h.ports,
   h.enu,
   h.har,
   h.vbu,
   h.osp,
   h.tag,
   h.tagMem,
   h.bst,
   h.lcy,
   h.tap,
   h.regDue,
   h.regPart,
   h.blk,
   h.wf⟩

theorem Made.set_scrUnbind {M : Nat} (hM : M ||| 17179869184 = M) {s0 s : State} (h : Made M s0 s) (x) :
    Made M s0 { s with scrUnbind := x } :=
  ⟨h.pending,
   h.regs,
   h.mem,
   h.memFill,
   h.free,
   h.out,
   h.ctxs,
   h.ops,
   h.nextTag,
   h.rounds,
   h.ledger,
   h.hif,
   h.pwr,
   h.doms,
   h.banks,
   h.log,
   h.tbu,
   h.nv,
   h.planeMem,
   h.fifos,
   h.clk,
   h.fab,
   h.boot,
   h.stage,
   h.ho,
   h.planeFill,
   h.dep,
   h.flash,
   h.flashFill,
   h.keys,
   h.prevEpoch,
   h.load,
   h.kite,
   h.tlm,
   mask_off hM 34 rfl,
   h.nva,
   h.nvIncomplete,
   h.nvFill,
   h.ports,
   h.enu,
   h.har,
   h.vbu,
   h.osp,
   h.tag,
   h.tagMem,
   h.bst,
   h.lcy,
   h.tap,
   h.regDue,
   h.regPart,
   h.blk,
   h.wf⟩

theorem Made.set_nva {M : Nat} (hM : M ||| 34359738368 = M) {s0 s : State} (h : Made M s0 s) (x) :
    Made M s0 { s with nva := x } :=
  ⟨h.pending,
   h.regs,
   h.mem,
   h.memFill,
   h.free,
   h.out,
   h.ctxs,
   h.ops,
   h.nextTag,
   h.rounds,
   h.ledger,
   h.hif,
   h.pwr,
   h.doms,
   h.banks,
   h.log,
   h.tbu,
   h.nv,
   h.planeMem,
   h.fifos,
   h.clk,
   h.fab,
   h.boot,
   h.stage,
   h.ho,
   h.planeFill,
   h.dep,
   h.flash,
   h.flashFill,
   h.keys,
   h.prevEpoch,
   h.load,
   h.kite,
   h.tlm,
   h.scrUnbind,
   mask_off hM 35 rfl,
   h.nvIncomplete,
   h.nvFill,
   h.ports,
   h.enu,
   h.har,
   h.vbu,
   h.osp,
   h.tag,
   h.tagMem,
   h.bst,
   h.lcy,
   h.tap,
   h.regDue,
   h.regPart,
   h.blk,
   h.wf⟩

theorem Made.set_nvIncomplete {M : Nat} (hM : M ||| 68719476736 = M) {s0 s : State} (h : Made M s0 s) (x) :
    Made M s0 { s with nvIncomplete := x } :=
  ⟨h.pending,
   h.regs,
   h.mem,
   h.memFill,
   h.free,
   h.out,
   h.ctxs,
   h.ops,
   h.nextTag,
   h.rounds,
   h.ledger,
   h.hif,
   h.pwr,
   h.doms,
   h.banks,
   h.log,
   h.tbu,
   h.nv,
   h.planeMem,
   h.fifos,
   h.clk,
   h.fab,
   h.boot,
   h.stage,
   h.ho,
   h.planeFill,
   h.dep,
   h.flash,
   h.flashFill,
   h.keys,
   h.prevEpoch,
   h.load,
   h.kite,
   h.tlm,
   h.scrUnbind,
   h.nva,
   mask_off hM 36 rfl,
   h.nvFill,
   h.ports,
   h.enu,
   h.har,
   h.vbu,
   h.osp,
   h.tag,
   h.tagMem,
   h.bst,
   h.lcy,
   h.tap,
   h.regDue,
   h.regPart,
   h.blk,
   h.wf⟩

theorem Made.set_ports {M : Nat} (hM : M ||| 274877906944 = M) {s0 s : State} (h : Made M s0 s) (x) :
    Made M s0 { s with ports := x } :=
  ⟨h.pending,
   h.regs,
   h.mem,
   h.memFill,
   h.free,
   h.out,
   h.ctxs,
   h.ops,
   h.nextTag,
   h.rounds,
   h.ledger,
   h.hif,
   h.pwr,
   h.doms,
   h.banks,
   h.log,
   h.tbu,
   h.nv,
   h.planeMem,
   h.fifos,
   h.clk,
   h.fab,
   h.boot,
   h.stage,
   h.ho,
   h.planeFill,
   h.dep,
   h.flash,
   h.flashFill,
   h.keys,
   h.prevEpoch,
   h.load,
   h.kite,
   h.tlm,
   h.scrUnbind,
   h.nva,
   h.nvIncomplete,
   h.nvFill,
   mask_off hM 38 rfl,
   h.enu,
   h.har,
   h.vbu,
   h.osp,
   h.tag,
   h.tagMem,
   h.bst,
   h.lcy,
   h.tap,
   h.regDue,
   h.regPart,
   h.blk,
   h.wf⟩

theorem Made.set_enu {M : Nat} (hM : M ||| 549755813888 = M) {s0 s : State} (h : Made M s0 s) (x) :
    Made M s0 { s with enu := x } :=
  ⟨h.pending,
   h.regs,
   h.mem,
   h.memFill,
   h.free,
   h.out,
   h.ctxs,
   h.ops,
   h.nextTag,
   h.rounds,
   h.ledger,
   h.hif,
   h.pwr,
   h.doms,
   h.banks,
   h.log,
   h.tbu,
   h.nv,
   h.planeMem,
   h.fifos,
   h.clk,
   h.fab,
   h.boot,
   h.stage,
   h.ho,
   h.planeFill,
   h.dep,
   h.flash,
   h.flashFill,
   h.keys,
   h.prevEpoch,
   h.load,
   h.kite,
   h.tlm,
   h.scrUnbind,
   h.nva,
   h.nvIncomplete,
   h.nvFill,
   h.ports,
   mask_off hM 39 rfl,
   h.har,
   h.vbu,
   h.osp,
   h.tag,
   h.tagMem,
   h.bst,
   h.lcy,
   h.tap,
   h.regDue,
   h.regPart,
   h.blk,
   h.wf⟩

theorem Made.set_har {M : Nat} (hM : M ||| 1099511627776 = M) {s0 s : State} (h : Made M s0 s) (x) :
    Made M s0 { s with har := x } :=
  ⟨h.pending,
   h.regs,
   h.mem,
   h.memFill,
   h.free,
   h.out,
   h.ctxs,
   h.ops,
   h.nextTag,
   h.rounds,
   h.ledger,
   h.hif,
   h.pwr,
   h.doms,
   h.banks,
   h.log,
   h.tbu,
   h.nv,
   h.planeMem,
   h.fifos,
   h.clk,
   h.fab,
   h.boot,
   h.stage,
   h.ho,
   h.planeFill,
   h.dep,
   h.flash,
   h.flashFill,
   h.keys,
   h.prevEpoch,
   h.load,
   h.kite,
   h.tlm,
   h.scrUnbind,
   h.nva,
   h.nvIncomplete,
   h.nvFill,
   h.ports,
   h.enu,
   mask_off hM 40 rfl,
   h.vbu,
   h.osp,
   h.tag,
   h.tagMem,
   h.bst,
   h.lcy,
   h.tap,
   h.regDue,
   h.regPart,
   h.blk,
   h.wf⟩

theorem Made.set_vbu {M : Nat} (hM : M ||| 2199023255552 = M) {s0 s : State} (h : Made M s0 s) (x) :
    Made M s0 { s with vbu := x } :=
  ⟨h.pending,
   h.regs,
   h.mem,
   h.memFill,
   h.free,
   h.out,
   h.ctxs,
   h.ops,
   h.nextTag,
   h.rounds,
   h.ledger,
   h.hif,
   h.pwr,
   h.doms,
   h.banks,
   h.log,
   h.tbu,
   h.nv,
   h.planeMem,
   h.fifos,
   h.clk,
   h.fab,
   h.boot,
   h.stage,
   h.ho,
   h.planeFill,
   h.dep,
   h.flash,
   h.flashFill,
   h.keys,
   h.prevEpoch,
   h.load,
   h.kite,
   h.tlm,
   h.scrUnbind,
   h.nva,
   h.nvIncomplete,
   h.nvFill,
   h.ports,
   h.enu,
   h.har,
   mask_off hM 41 rfl,
   h.osp,
   h.tag,
   h.tagMem,
   h.bst,
   h.lcy,
   h.tap,
   h.regDue,
   h.regPart,
   h.blk,
   h.wf⟩

theorem Made.set_osp {M : Nat} (hM : M ||| 4398046511104 = M) {s0 s : State} (h : Made M s0 s) (x) :
    Made M s0 { s with osp := x } :=
  ⟨h.pending,
   h.regs,
   h.mem,
   h.memFill,
   h.free,
   h.out,
   h.ctxs,
   h.ops,
   h.nextTag,
   h.rounds,
   h.ledger,
   h.hif,
   h.pwr,
   h.doms,
   h.banks,
   h.log,
   h.tbu,
   h.nv,
   h.planeMem,
   h.fifos,
   h.clk,
   h.fab,
   h.boot,
   h.stage,
   h.ho,
   h.planeFill,
   h.dep,
   h.flash,
   h.flashFill,
   h.keys,
   h.prevEpoch,
   h.load,
   h.kite,
   h.tlm,
   h.scrUnbind,
   h.nva,
   h.nvIncomplete,
   h.nvFill,
   h.ports,
   h.enu,
   h.har,
   h.vbu,
   mask_off hM 42 rfl,
   h.tag,
   h.tagMem,
   h.bst,
   h.lcy,
   h.tap,
   h.regDue,
   h.regPart,
   h.blk,
   h.wf⟩

theorem Made.set_tag {M : Nat} (hM : M ||| 8796093022208 = M) {s0 s : State} (h : Made M s0 s) (x) :
    Made M s0 { s with tag := x } :=
  ⟨h.pending,
   h.regs,
   h.mem,
   h.memFill,
   h.free,
   h.out,
   h.ctxs,
   h.ops,
   h.nextTag,
   h.rounds,
   h.ledger,
   h.hif,
   h.pwr,
   h.doms,
   h.banks,
   h.log,
   h.tbu,
   h.nv,
   h.planeMem,
   h.fifos,
   h.clk,
   h.fab,
   h.boot,
   h.stage,
   h.ho,
   h.planeFill,
   h.dep,
   h.flash,
   h.flashFill,
   h.keys,
   h.prevEpoch,
   h.load,
   h.kite,
   h.tlm,
   h.scrUnbind,
   h.nva,
   h.nvIncomplete,
   h.nvFill,
   h.ports,
   h.enu,
   h.har,
   h.vbu,
   h.osp,
   mask_off hM 43 rfl,
   h.tagMem,
   h.bst,
   h.lcy,
   h.tap,
   h.regDue,
   h.regPart,
   h.blk,
   h.wf⟩

theorem Made.set_bst {M : Nat} (hM : M ||| 35184372088832 = M) {s0 s : State} (h : Made M s0 s) (x) :
    Made M s0 { s with bst := x } :=
  ⟨h.pending,
   h.regs,
   h.mem,
   h.memFill,
   h.free,
   h.out,
   h.ctxs,
   h.ops,
   h.nextTag,
   h.rounds,
   h.ledger,
   h.hif,
   h.pwr,
   h.doms,
   h.banks,
   h.log,
   h.tbu,
   h.nv,
   h.planeMem,
   h.fifos,
   h.clk,
   h.fab,
   h.boot,
   h.stage,
   h.ho,
   h.planeFill,
   h.dep,
   h.flash,
   h.flashFill,
   h.keys,
   h.prevEpoch,
   h.load,
   h.kite,
   h.tlm,
   h.scrUnbind,
   h.nva,
   h.nvIncomplete,
   h.nvFill,
   h.ports,
   h.enu,
   h.har,
   h.vbu,
   h.osp,
   h.tag,
   h.tagMem,
   mask_off hM 45 rfl,
   h.lcy,
   h.tap,
   h.regDue,
   h.regPart,
   h.blk,
   h.wf⟩

theorem Made.set_lcy {M : Nat} (hM : M ||| 70368744177664 = M) {s0 s : State} (h : Made M s0 s) (x) :
    Made M s0 { s with lcy := x } :=
  ⟨h.pending,
   h.regs,
   h.mem,
   h.memFill,
   h.free,
   h.out,
   h.ctxs,
   h.ops,
   h.nextTag,
   h.rounds,
   h.ledger,
   h.hif,
   h.pwr,
   h.doms,
   h.banks,
   h.log,
   h.tbu,
   h.nv,
   h.planeMem,
   h.fifos,
   h.clk,
   h.fab,
   h.boot,
   h.stage,
   h.ho,
   h.planeFill,
   h.dep,
   h.flash,
   h.flashFill,
   h.keys,
   h.prevEpoch,
   h.load,
   h.kite,
   h.tlm,
   h.scrUnbind,
   h.nva,
   h.nvIncomplete,
   h.nvFill,
   h.ports,
   h.enu,
   h.har,
   h.vbu,
   h.osp,
   h.tag,
   h.tagMem,
   h.bst,
   mask_off hM 46 rfl,
   h.tap,
   h.regDue,
   h.regPart,
   h.blk,
   h.wf⟩

theorem Made.set_tap {M : Nat} (hM : M ||| 140737488355328 = M) {s0 s : State} (h : Made M s0 s) (x) :
    Made M s0 { s with tap := x } :=
  ⟨h.pending,
   h.regs,
   h.mem,
   h.memFill,
   h.free,
   h.out,
   h.ctxs,
   h.ops,
   h.nextTag,
   h.rounds,
   h.ledger,
   h.hif,
   h.pwr,
   h.doms,
   h.banks,
   h.log,
   h.tbu,
   h.nv,
   h.planeMem,
   h.fifos,
   h.clk,
   h.fab,
   h.boot,
   h.stage,
   h.ho,
   h.planeFill,
   h.dep,
   h.flash,
   h.flashFill,
   h.keys,
   h.prevEpoch,
   h.load,
   h.kite,
   h.tlm,
   h.scrUnbind,
   h.nva,
   h.nvIncomplete,
   h.nvFill,
   h.ports,
   h.enu,
   h.har,
   h.vbu,
   h.osp,
   h.tag,
   h.tagMem,
   h.bst,
   h.lcy,
   mask_off hM 47 rfl,
   h.regDue,
   h.regPart,
   h.blk,
   h.wf⟩

theorem Made.set_regDue {M : Nat} (hM : M ||| 281474976710656 = M) {s0 s : State} (h : Made M s0 s) (x) :
    Made M s0 { s with regDue := x } :=
  ⟨h.pending,
   h.regs,
   h.mem,
   h.memFill,
   h.free,
   h.out,
   h.ctxs,
   h.ops,
   h.nextTag,
   h.rounds,
   h.ledger,
   h.hif,
   h.pwr,
   h.doms,
   h.banks,
   h.log,
   h.tbu,
   h.nv,
   h.planeMem,
   h.fifos,
   h.clk,
   h.fab,
   h.boot,
   h.stage,
   h.ho,
   h.planeFill,
   h.dep,
   h.flash,
   h.flashFill,
   h.keys,
   h.prevEpoch,
   h.load,
   h.kite,
   h.tlm,
   h.scrUnbind,
   h.nva,
   h.nvIncomplete,
   h.nvFill,
   h.ports,
   h.enu,
   h.har,
   h.vbu,
   h.osp,
   h.tag,
   h.tagMem,
   h.bst,
   h.lcy,
   h.tap,
   mask_off hM 48 rfl,
   h.regPart,
   h.blk,
   h.wf⟩

theorem Made.set_regPart {M : Nat} (hM : M ||| 562949953421312 = M) {s0 s : State} (h : Made M s0 s) (x) :
    Made M s0 { s with regPart := x } :=
  ⟨h.pending,
   h.regs,
   h.mem,
   h.memFill,
   h.free,
   h.out,
   h.ctxs,
   h.ops,
   h.nextTag,
   h.rounds,
   h.ledger,
   h.hif,
   h.pwr,
   h.doms,
   h.banks,
   h.log,
   h.tbu,
   h.nv,
   h.planeMem,
   h.fifos,
   h.clk,
   h.fab,
   h.boot,
   h.stage,
   h.ho,
   h.planeFill,
   h.dep,
   h.flash,
   h.flashFill,
   h.keys,
   h.prevEpoch,
   h.load,
   h.kite,
   h.tlm,
   h.scrUnbind,
   h.nva,
   h.nvIncomplete,
   h.nvFill,
   h.ports,
   h.enu,
   h.har,
   h.vbu,
   h.osp,
   h.tag,
   h.tagMem,
   h.bst,
   h.lcy,
   h.tap,
   h.regDue,
   mask_off hM 49 rfl,
   h.blk,
   h.wf⟩

theorem Made.set_boot_load {M : Nat} (hM : M ||| 2151677952 = M) {s0 s : State} (h : Made M s0 s) (x0) (x1) :
    Made M s0 { s with boot := x0, load := x1 } :=
  ⟨h.pending,
   h.regs,
   h.mem,
   h.memFill,
   h.free,
   h.out,
   h.ctxs,
   h.ops,
   h.nextTag,
   h.rounds,
   h.ledger,
   h.hif,
   h.pwr,
   h.doms,
   h.banks,
   h.log,
   h.tbu,
   h.nv,
   h.planeMem,
   h.fifos,
   h.clk,
   h.fab,
   mask_off hM 22 rfl,
   h.stage,
   h.ho,
   h.planeFill,
   h.dep,
   h.flash,
   h.flashFill,
   h.keys,
   h.prevEpoch,
   mask_off hM 31 rfl,
   h.kite,
   h.tlm,
   h.scrUnbind,
   h.nva,
   h.nvIncomplete,
   h.nvFill,
   h.ports,
   h.enu,
   h.har,
   h.vbu,
   h.osp,
   h.tag,
   h.tagMem,
   h.bst,
   h.lcy,
   h.tap,
   h.regDue,
   h.regPart,
   h.blk,
   h.wf⟩

theorem Made.set_boot_stage_ho {M : Nat} (hM : M ||| 29360128 = M) {s0 s : State} (h : Made M s0 s) (x0) (x1) (x2) :
    Made M s0 { s with boot := x0, stage := x1, ho := x2 } :=
  ⟨h.pending,
   h.regs,
   h.mem,
   h.memFill,
   h.free,
   h.out,
   h.ctxs,
   h.ops,
   h.nextTag,
   h.rounds,
   h.ledger,
   h.hif,
   h.pwr,
   h.doms,
   h.banks,
   h.log,
   h.tbu,
   h.nv,
   h.planeMem,
   h.fifos,
   h.clk,
   h.fab,
   mask_off hM 22 rfl,
   mask_off hM 23 rfl,
   mask_off hM 24 rfl,
   h.planeFill,
   h.dep,
   h.flash,
   h.flashFill,
   h.keys,
   h.prevEpoch,
   h.load,
   h.kite,
   h.tlm,
   h.scrUnbind,
   h.nva,
   h.nvIncomplete,
   h.nvFill,
   h.ports,
   h.enu,
   h.har,
   h.vbu,
   h.osp,
   h.tag,
   h.tagMem,
   h.bst,
   h.lcy,
   h.tap,
   h.regDue,
   h.regPart,
   h.blk,
   h.wf⟩

theorem Made.set_ctxs_hif {M : Nat} (hM : M ||| 2112 = M) {s0 s : State} (h : Made M s0 s) (x0) (x1) :
    Made M s0 { s with ctxs := x0, hif := x1 } :=
  ⟨h.pending,
   h.regs,
   h.mem,
   h.memFill,
   h.free,
   h.out,
   mask_off hM 6 rfl,
   h.ops,
   h.nextTag,
   h.rounds,
   h.ledger,
   mask_off hM 11 rfl,
   h.pwr,
   h.doms,
   h.banks,
   h.log,
   h.tbu,
   h.nv,
   h.planeMem,
   h.fifos,
   h.clk,
   h.fab,
   h.boot,
   h.stage,
   h.ho,
   h.planeFill,
   h.dep,
   h.flash,
   h.flashFill,
   h.keys,
   h.prevEpoch,
   h.load,
   h.kite,
   h.tlm,
   h.scrUnbind,
   h.nva,
   h.nvIncomplete,
   h.nvFill,
   h.ports,
   h.enu,
   h.har,
   h.vbu,
   h.osp,
   h.tag,
   h.tagMem,
   h.bst,
   h.lcy,
   h.tap,
   h.regDue,
   h.regPart,
   h.blk,
   h.wf⟩

theorem Made.set_ctxs_ledger_fifos {M : Nat} (hM : M ||| 525376 = M) {s0 s : State} (h : Made M s0 s) (x0) (x1) (x2) :
    Made M s0 { s with ctxs := x0, ledger := x1, fifos := x2 } :=
  ⟨h.pending,
   h.regs,
   h.mem,
   h.memFill,
   h.free,
   h.out,
   mask_off hM 6 rfl,
   h.ops,
   h.nextTag,
   h.rounds,
   mask_off hM 10 rfl,
   h.hif,
   h.pwr,
   h.doms,
   h.banks,
   h.log,
   h.tbu,
   h.nv,
   h.planeMem,
   mask_off hM 19 rfl,
   h.clk,
   h.fab,
   h.boot,
   h.stage,
   h.ho,
   h.planeFill,
   h.dep,
   h.flash,
   h.flashFill,
   h.keys,
   h.prevEpoch,
   h.load,
   h.kite,
   h.tlm,
   h.scrUnbind,
   h.nva,
   h.nvIncomplete,
   h.nvFill,
   h.ports,
   h.enu,
   h.har,
   h.vbu,
   h.osp,
   h.tag,
   h.tagMem,
   h.bst,
   h.lcy,
   h.tap,
   h.regDue,
   h.regPart,
   h.blk,
   h.wf⟩

theorem Made.set_ctxs_ops_rounds_ledger_hif_enu {M : Nat} (hM : M ||| 549755817664 = M) {s0 s : State} (h : Made M s0 s) (x0) (x1) (x2) (x3) (x4) (x5) :
    Made M s0 { s with ctxs := x0, ops := x1, rounds := x2, ledger := x3, hif := x4, enu := x5 } :=
  ⟨h.pending,
   h.regs,
   h.mem,
   h.memFill,
   h.free,
   h.out,
   mask_off hM 6 rfl,
   mask_off hM 7 rfl,
   h.nextTag,
   mask_off hM 9 rfl,
   mask_off hM 10 rfl,
   mask_off hM 11 rfl,
   h.pwr,
   h.doms,
   h.banks,
   h.log,
   h.tbu,
   h.nv,
   h.planeMem,
   h.fifos,
   h.clk,
   h.fab,
   h.boot,
   h.stage,
   h.ho,
   h.planeFill,
   h.dep,
   h.flash,
   h.flashFill,
   h.keys,
   h.prevEpoch,
   h.load,
   h.kite,
   h.tlm,
   h.scrUnbind,
   h.nva,
   h.nvIncomplete,
   h.nvFill,
   h.ports,
   mask_off hM 39 rfl,
   h.har,
   h.vbu,
   h.osp,
   h.tag,
   h.tagMem,
   h.bst,
   h.lcy,
   h.tap,
   h.regDue,
   h.regPart,
   h.blk,
   h.wf⟩

theorem Made.set_log_tap {M : Nat} (hM : M ||| 140737488388096 = M) {s0 s : State} (h : Made M s0 s) (x0) (x1) :
    Made M s0 { s with log := x0, tap := x1 } :=
  ⟨h.pending,
   h.regs,
   h.mem,
   h.memFill,
   h.free,
   h.out,
   h.ctxs,
   h.ops,
   h.nextTag,
   h.rounds,
   h.ledger,
   h.hif,
   h.pwr,
   h.doms,
   h.banks,
   mask_off hM 15 rfl,
   h.tbu,
   h.nv,
   h.planeMem,
   h.fifos,
   h.clk,
   h.fab,
   h.boot,
   h.stage,
   h.ho,
   h.planeFill,
   h.dep,
   h.flash,
   h.flashFill,
   h.keys,
   h.prevEpoch,
   h.load,
   h.kite,
   h.tlm,
   h.scrUnbind,
   h.nva,
   h.nvIncomplete,
   h.nvFill,
   h.ports,
   h.enu,
   h.har,
   h.vbu,
   h.osp,
   h.tag,
   h.tagMem,
   h.bst,
   h.lcy,
   mask_off hM 47 rfl,
   h.regDue,
   h.regPart,
   h.blk,
   h.wf⟩

theorem Made.set_ops_nextTag {M : Nat} (hM : M ||| 384 = M) {s0 s : State} (h : Made M s0 s) (x0) (x1) :
    Made M s0 { s with ops := x0, nextTag := x1 } :=
  ⟨h.pending,
   h.regs,
   h.mem,
   h.memFill,
   h.free,
   h.out,
   h.ctxs,
   mask_off hM 7 rfl,
   mask_off hM 8 rfl,
   h.rounds,
   h.ledger,
   h.hif,
   h.pwr,
   h.doms,
   h.banks,
   h.log,
   h.tbu,
   h.nv,
   h.planeMem,
   h.fifos,
   h.clk,
   h.fab,
   h.boot,
   h.stage,
   h.ho,
   h.planeFill,
   h.dep,
   h.flash,
   h.flashFill,
   h.keys,
   h.prevEpoch,
   h.load,
   h.kite,
   h.tlm,
   h.scrUnbind,
   h.nva,
   h.nvIncomplete,
   h.nvFill,
   h.ports,
   h.enu,
   h.har,
   h.vbu,
   h.osp,
   h.tag,
   h.tagMem,
   h.bst,
   h.lcy,
   h.tap,
   h.regDue,
   h.regPart,
   h.blk,
   h.wf⟩

theorem Made.set_regDue_regPart {M : Nat} (hM : M ||| 844424930131968 = M) {s0 s : State} (h : Made M s0 s) (x0) (x1) :
    Made M s0 { s with regDue := x0, regPart := x1 } :=
  ⟨h.pending,
   h.regs,
   h.mem,
   h.memFill,
   h.free,
   h.out,
   h.ctxs,
   h.ops,
   h.nextTag,
   h.rounds,
   h.ledger,
   h.hif,
   h.pwr,
   h.doms,
   h.banks,
   h.log,
   h.tbu,
   h.nv,
   h.planeMem,
   h.fifos,
   h.clk,
   h.fab,
   h.boot,
   h.stage,
   h.ho,
   h.planeFill,
   h.dep,
   h.flash,
   h.flashFill,
   h.keys,
   h.prevEpoch,
   h.load,
   h.kite,
   h.tlm,
   h.scrUnbind,
   h.nva,
   h.nvIncomplete,
   h.nvFill,
   h.ports,
   h.enu,
   h.har,
   h.vbu,
   h.osp,
   h.tag,
   h.tagMem,
   h.bst,
   h.lcy,
   h.tap,
   mask_off hM 48 rfl,
   mask_off hM 49 rfl,
   h.blk,
   h.wf⟩

theorem Made.set_stage_dep_load {M : Nat} (hM : M ||| 2222981120 = M) {s0 s : State} (h : Made M s0 s) (x0) (x1) (x2) :
    Made M s0 { s with stage := x0, dep := x1, load := x2 } :=
  ⟨h.pending,
   h.regs,
   h.mem,
   h.memFill,
   h.free,
   h.out,
   h.ctxs,
   h.ops,
   h.nextTag,
   h.rounds,
   h.ledger,
   h.hif,
   h.pwr,
   h.doms,
   h.banks,
   h.log,
   h.tbu,
   h.nv,
   h.planeMem,
   h.fifos,
   h.clk,
   h.fab,
   h.boot,
   mask_off hM 23 rfl,
   h.ho,
   h.planeFill,
   mask_off hM 26 rfl,
   h.flash,
   h.flashFill,
   h.keys,
   h.prevEpoch,
   mask_off hM 31 rfl,
   h.kite,
   h.tlm,
   h.scrUnbind,
   h.nva,
   h.nvIncomplete,
   h.nvFill,
   h.ports,
   h.enu,
   h.har,
   h.vbu,
   h.osp,
   h.tag,
   h.tagMem,
   h.bst,
   h.lcy,
   h.tap,
   h.regDue,
   h.regPart,
   h.blk,
   h.wf⟩

theorem block_bits (k : Nat) (hk : k < 32) : Nat.testBit 79228162495817593519834398720 (64 + k) = true := by
  revert k; decide

/-- A mask with every block has each address's block. -/
theorem all_bit {M m : Nat} (h : M ||| m = M) (a : Nat) (k : m ||| 79228162495817593519834398720 = m := by rfl) :
    M.testBit (64 + blockOf a) = true :=
  mask_bit h (by unfold blockOf; rw [← k, Nat.testBit_or, block_bits _ (Nat.mod_lt _ (by decide)), Bool.or_true])

/-- The block of a register that lies in block `k`. -/
theorem blk_at {M m : Nat} (h : M ||| m = M) {a k : Nat} (e : blockOf a = k) (b : m.testBit (64 + k) = true) :
    M.testBit (64 + blockOf a) = true := by
  rw [e]; exact mask_bit h b

/-- The six parts of the canonical form. -/
theorem Memory.wf_iff (s : State) : Memory.wf s = true ↔
    canonical (fun a => some (resetWord a)) s.regs = true ∧ canonical (memDefault s) s.mem = true ∧
    canonical (nvDefault s) s.nv = true ∧ canonical (planeDefault s) s.planeMem = true ∧
    canonical (flashDefault s) s.flash = true ∧ canonical (fun _ => some 0#8) s.tagMem = true := by
  simp only [Memory.wf, Bool.and_eq_true, and_assoc]

theorem wr_wf (s : State) (a : Nat) (v : W32) (w : Memory.wf s = true) : Memory.wf (wr s a v) = true := by
  rw [Memory.wf_iff] at w ⊢
  exact ⟨canonical_sset (d := resetWord) w.1, w.2⟩

theorem resetRegs_wf (s : State) (p : RegClass → Bool) (w : Memory.wf s = true) : Memory.wf (resetRegs s p) = true := by
  rw [Memory.wf_iff] at w ⊢
  exact ⟨canonical_filter (p := fun a => !p (regClass a)) (fun _ _ => rfl) w.1, w.2⟩

theorem memPut_wf (s : State) (a : Nat) (b : Byte) (w : Memory.wf s = true) : Memory.wf (memPut s a b) = true := by
  rw [Memory.wf_iff] at w ⊢
  refine ⟨w.1, ?_, w.2.2⟩
  show canonical (memDefault s) (if _ then _ else _) = true
  split_ifs with h
  · exact canonical_sdel w.2.1
  · refine canonical_sput ?_ w.2.1
    unfold memDefault; split_ifs with k
    · intro e; injection e with e; exact h ⟨k, e.symm⟩
    · simp

theorem nvPut_wf (s : State) (a : Nat) (b : Byte) (w : Memory.wf s = true) : Memory.wf (nvPut s a b) = true := by
  rw [Memory.wf_iff] at w ⊢
  refine ⟨w.1, w.2.1, ?_, w.2.2.2⟩
  show canonical (nvDefault s) (if _ then _ else _) = true
  split_ifs with h
  · exact canonical_sdel w.2.2.1
  · refine canonical_sput ?_ w.2.2.1
    unfold nvDefault; split_ifs with k
    · intro e; injection e with e; exact h ⟨k, e.symm⟩
    · simp

theorem planePut_wf (s : State) (a : Nat) (b : Byte) (w : Memory.wf s = true) : Memory.wf (planePut s a b) = true := by
  rw [Memory.wf_iff] at w ⊢
  refine ⟨w.1, w.2.1, w.2.2.1, ?_, w.2.2.2.2⟩
  show canonical (planeDefault s) (if _ then _ else _) = true
  split_ifs with h
  · exact canonical_sdel w.2.2.2.1
  · refine canonical_sput ?_ w.2.2.2.1
    unfold planeDefault; split_ifs with k
    · intro e; injection e with e; exact h ⟨k, e.symm⟩
    · simp

theorem flashPutByte_wf (s : State) (a : Nat) (b : Byte) (w : Memory.wf s = true) :
    Memory.wf (flashPutByte s a b) = true := by
  rw [Memory.wf_iff] at w ⊢
  refine ⟨w.1, w.2.1, w.2.2.1, w.2.2.2.1, ?_, w.2.2.2.2.2⟩
  show canonical (flashDefault s) (if _ then _ else _) = true
  split_ifs with h
  · exact canonical_sdel w.2.2.2.2.1
  · refine canonical_sput ?_ w.2.2.2.2.1
    unfold flashDefault; split_ifs with k
    · intro e; injection e with e; exact h ⟨k, e.symm⟩
    · simp

theorem tagPut_wf (s : State) (a : Nat) (b : Byte) (w : Memory.wf s = true) : Memory.wf (tagPut s a b) = true := by
  rw [Memory.wf_iff] at w ⊢
  exact ⟨w.1, w.2.1, w.2.2.1, w.2.2.2.1, w.2.2.2.2.1, canonical_sset (d := fun _ => 0#8) w.2.2.2.2.2⟩

theorem loseBank_wf (s : State) (n : Nat) (w : Memory.wf s = true) : Memory.wf (loseBank s n) = true := by
  rw [Memory.wf_iff] at w ⊢
  refine ⟨w.1, canonical_filter (d := memDefault s) (p := fun a => !(a / 0x100000 == n)) ?_ w.2.1, w.2.2⟩
  intro a ha
  simp at ha
  have e : memFillOf (loseBank s n) (a / 0x100000) = memFillOf s (a / 0x100000) := by
    simp [memFillOf, loseBank, sget_sput_ne ha]
  unfold memDefault; rw [e]

theorem zeroBank_wf (s : State) (n : Nat) (w : Memory.wf s = true) : Memory.wf (zeroBank s n) = true := by
  rw [Memory.wf_iff] at w ⊢
  refine ⟨w.1, canonical_filter (d := memDefault s) (p := fun a => !(a / 0x100000 == n)) ?_ w.2.1, w.2.2⟩
  intro a ha
  simp at ha
  have e : memFillOf (zeroBank s n) (a / 0x100000) = memFillOf s (a / 0x100000) := by
    simp [memFillOf, zeroBank, sget_sput_ne ha]
  unfold memDefault; rw [e]

theorem nvWipe_wf (s : State) (k : Nat) (u : Bool) (w : Memory.wf s = true) : Memory.wf (nvWipe s k u) = true := by
  rw [Memory.wf_iff] at w ⊢
  refine ⟨w.1, w.2.1, canonical_filter (d := nvDefault s) (p := fun a => !(a / 4096 == k)) ?_ w.2.2.1, w.2.2.2⟩
  intro a ha
  simp at ha
  cases u <;> simp [nvDefault, nvWipe, sget_sput_ne ha, sget_sdel_ne ha]

theorem planeClear_wf (s : State) (p f : Nat) (w : Memory.wf s = true) : Memory.wf (planeClear s p f) = true := by
  rw [Memory.wf_iff] at w ⊢
  refine ⟨w.1, w.2.1, w.2.2.1, canonical_filter (d := planeDefault s) (p := fun a => !(a / 0x800000 == p)) ?_ w.2.2.2.1,
    w.2.2.2.2⟩
  intro a ha
  simp at ha
  have e : planeFillOf (planeClear s p f) (a / 0x800000) = planeFillOf s (a / 0x800000) := by
    simp [planeFillOf, planeClear, sget_sput_ne ha]
  unfold planeDefault; rw [e]

theorem flashErase_wf (s : State) (k : Nat) (w : Memory.wf s = true) : Memory.wf (flashErase s k) = true := by
  rw [Memory.wf_iff] at w ⊢
  refine ⟨w.1, w.2.1, w.2.2.1, w.2.2.2.1,
    canonical_filter (d := flashDefault s) (p := fun a => !(a / 0x10000 == k)) ?_ w.2.2.2.2.1, w.2.2.2.2.2⟩
  intro a ha
  simp at ha
  simp [flashDefault, flashErase, sget_sdel_ne ha]

theorem flashWipe_wf (s : State) (k : Nat) (w : Memory.wf s = true) : Memory.wf (flashWipe s k) = true := by
  rw [Memory.wf_iff] at w ⊢
  refine ⟨w.1, w.2.1, w.2.2.1, w.2.2.2.1,
    canonical_filter (d := flashDefault s) (p := fun a => !(a / 0x10000 == k)) ?_ w.2.2.2.2.1, w.2.2.2.2.2⟩
  intro a ha
  simp at ha
  simp [flashDefault, flashWipe, sget_sput_ne ha]

theorem wr_made {M : Nat} (hM : M ||| 2 = M) {s0 s : State} (a : Nat) (v : W32) (b_a : M.testBit (64 + blockOf a) = true) (h : Made M s0 s) :
    Made M s0 (wr s a v) :=
  ⟨h.pending,
   mask_off hM 1 rfl,
   h.mem,
   h.memFill,
   h.free,
   h.out,
   h.ctxs,
   h.ops,
   h.nextTag,
   h.rounds,
   h.ledger,
   h.hif,
   h.pwr,
   h.doms,
   h.banks,
   h.log,
   h.tbu,
   h.nv,
   h.planeMem,
   h.fifos,
   h.clk,
   h.fab,
   h.boot,
   h.stage,
   h.ho,
   h.planeFill,
   h.dep,
   h.flash,
   h.flashFill,
   h.keys,
   h.prevEpoch,
   h.load,
   h.kite,
   h.tlm,
   h.scrUnbind,
   h.nva,
   h.nvIncomplete,
   h.nvFill,
   h.ports,
   h.enu,
   h.har,
   h.vbu,
   h.osp,
   h.tag,
   h.tagMem,
   h.bst,
   h.lcy,
   h.tap,
   h.regDue,
   h.regPart,
   fun x b => (rd_wr_ne (by rintro rfl; rw [b_a] at b; cases b) s v).trans (h.blk x b),
   fun w => wr_wf _ _ _ (h.wf w)⟩

theorem resetRegs_made {M : Nat} (hM : M ||| 79228162495817593519834398722 = M) {s0 s : State} (p : RegClass → Bool) (h : Made M s0 s) :
    Made M s0 (resetRegs s p) :=
  ⟨h.pending,
   mask_off hM 1 rfl,
   h.mem,
   h.memFill,
   h.free,
   h.out,
   h.ctxs,
   h.ops,
   h.nextTag,
   h.rounds,
   h.ledger,
   h.hif,
   h.pwr,
   h.doms,
   h.banks,
   h.log,
   h.tbu,
   h.nv,
   h.planeMem,
   h.fifos,
   h.clk,
   h.fab,
   h.boot,
   h.stage,
   h.ho,
   h.planeFill,
   h.dep,
   h.flash,
   h.flashFill,
   h.keys,
   h.prevEpoch,
   h.load,
   h.kite,
   h.tlm,
   h.scrUnbind,
   h.nva,
   h.nvIncomplete,
   h.nvFill,
   h.ports,
   h.enu,
   h.har,
   h.vbu,
   h.osp,
   h.tag,
   h.tagMem,
   h.bst,
   h.lcy,
   h.tap,
   h.regDue,
   h.regPart,
   fun x b => (by rw [all_bit hM x] at b; cases b),
   fun w => resetRegs_wf _ _ (h.wf w)⟩

theorem memPut_made {M : Nat} (hM : M ||| 4 = M) {s0 s : State} (a : Nat) (b : Byte) (h : Made M s0 s) :
    Made M s0 (memPut s a b) :=
  ⟨h.pending,
   h.regs,
   mask_off hM 2 rfl,
   h.memFill,
   h.free,
   h.out,
   h.ctxs,
   h.ops,
   h.nextTag,
   h.rounds,
   h.ledger,
   h.hif,
   h.pwr,
   h.doms,
   h.banks,
   h.log,
   h.tbu,
   h.nv,
   h.planeMem,
   h.fifos,
   h.clk,
   h.fab,
   h.boot,
   h.stage,
   h.ho,
   h.planeFill,
   h.dep,
   h.flash,
   h.flashFill,
   h.keys,
   h.prevEpoch,
   h.load,
   h.kite,
   h.tlm,
   h.scrUnbind,
   h.nva,
   h.nvIncomplete,
   h.nvFill,
   h.ports,
   h.enu,
   h.har,
   h.vbu,
   h.osp,
   h.tag,
   h.tagMem,
   h.bst,
   h.lcy,
   h.tap,
   h.regDue,
   h.regPart,
   h.blk,
   fun w => memPut_wf _ _ _ (h.wf w)⟩

theorem nvPut_made {M : Nat} (hM : M ||| 131072 = M) {s0 s : State} (a : Nat) (b : Byte) (h : Made M s0 s) :
    Made M s0 (nvPut s a b) :=
  ⟨h.pending,
   h.regs,
   h.mem,
   h.memFill,
   h.free,
   h.out,
   h.ctxs,
   h.ops,
   h.nextTag,
   h.rounds,
   h.ledger,
   h.hif,
   h.pwr,
   h.doms,
   h.banks,
   h.log,
   h.tbu,
   mask_off hM 17 rfl,
   h.planeMem,
   h.fifos,
   h.clk,
   h.fab,
   h.boot,
   h.stage,
   h.ho,
   h.planeFill,
   h.dep,
   h.flash,
   h.flashFill,
   h.keys,
   h.prevEpoch,
   h.load,
   h.kite,
   h.tlm,
   h.scrUnbind,
   h.nva,
   h.nvIncomplete,
   h.nvFill,
   h.ports,
   h.enu,
   h.har,
   h.vbu,
   h.osp,
   h.tag,
   h.tagMem,
   h.bst,
   h.lcy,
   h.tap,
   h.regDue,
   h.regPart,
   h.blk,
   fun w => nvPut_wf _ _ _ (h.wf w)⟩

theorem planePut_made {M : Nat} (hM : M ||| 262144 = M) {s0 s : State} (a : Nat) (b : Byte) (h : Made M s0 s) :
    Made M s0 (planePut s a b) :=
  ⟨h.pending,
   h.regs,
   h.mem,
   h.memFill,
   h.free,
   h.out,
   h.ctxs,
   h.ops,
   h.nextTag,
   h.rounds,
   h.ledger,
   h.hif,
   h.pwr,
   h.doms,
   h.banks,
   h.log,
   h.tbu,
   h.nv,
   mask_off hM 18 rfl,
   h.fifos,
   h.clk,
   h.fab,
   h.boot,
   h.stage,
   h.ho,
   h.planeFill,
   h.dep,
   h.flash,
   h.flashFill,
   h.keys,
   h.prevEpoch,
   h.load,
   h.kite,
   h.tlm,
   h.scrUnbind,
   h.nva,
   h.nvIncomplete,
   h.nvFill,
   h.ports,
   h.enu,
   h.har,
   h.vbu,
   h.osp,
   h.tag,
   h.tagMem,
   h.bst,
   h.lcy,
   h.tap,
   h.regDue,
   h.regPart,
   h.blk,
   fun w => planePut_wf _ _ _ (h.wf w)⟩

theorem flashPutByte_made {M : Nat} (hM : M ||| 134217728 = M) {s0 s : State} (a : Nat) (b : Byte) (h : Made M s0 s) :
    Made M s0 (flashPutByte s a b) :=
  ⟨h.pending,
   h.regs,
   h.mem,
   h.memFill,
   h.free,
   h.out,
   h.ctxs,
   h.ops,
   h.nextTag,
   h.rounds,
   h.ledger,
   h.hif,
   h.pwr,
   h.doms,
   h.banks,
   h.log,
   h.tbu,
   h.nv,
   h.planeMem,
   h.fifos,
   h.clk,
   h.fab,
   h.boot,
   h.stage,
   h.ho,
   h.planeFill,
   h.dep,
   mask_off hM 27 rfl,
   h.flashFill,
   h.keys,
   h.prevEpoch,
   h.load,
   h.kite,
   h.tlm,
   h.scrUnbind,
   h.nva,
   h.nvIncomplete,
   h.nvFill,
   h.ports,
   h.enu,
   h.har,
   h.vbu,
   h.osp,
   h.tag,
   h.tagMem,
   h.bst,
   h.lcy,
   h.tap,
   h.regDue,
   h.regPart,
   h.blk,
   fun w => flashPutByte_wf _ _ _ (h.wf w)⟩

theorem tagPut_made {M : Nat} (hM : M ||| 17592186044416 = M) {s0 s : State} (a : Nat) (b : Byte) (h : Made M s0 s) :
    Made M s0 (tagPut s a b) :=
  ⟨h.pending,
   h.regs,
   h.mem,
   h.memFill,
   h.free,
   h.out,
   h.ctxs,
   h.ops,
   h.nextTag,
   h.rounds,
   h.ledger,
   h.hif,
   h.pwr,
   h.doms,
   h.banks,
   h.log,
   h.tbu,
   h.nv,
   h.planeMem,
   h.fifos,
   h.clk,
   h.fab,
   h.boot,
   h.stage,
   h.ho,
   h.planeFill,
   h.dep,
   h.flash,
   h.flashFill,
   h.keys,
   h.prevEpoch,
   h.load,
   h.kite,
   h.tlm,
   h.scrUnbind,
   h.nva,
   h.nvIncomplete,
   h.nvFill,
   h.ports,
   h.enu,
   h.har,
   h.vbu,
   h.osp,
   h.tag,
   mask_off hM 44 rfl,
   h.bst,
   h.lcy,
   h.tap,
   h.regDue,
   h.regPart,
   h.blk,
   fun w => tagPut_wf _ _ _ (h.wf w)⟩

theorem loseBank_made {M : Nat} (hM : M ||| 12 = M) {s0 s : State} (n : Nat) (h : Made M s0 s) :
    Made M s0 (loseBank s n) :=
  ⟨h.pending,
   h.regs,
   mask_off hM 2 rfl,
   mask_off hM 3 rfl,
   h.free,
   h.out,
   h.ctxs,
   h.ops,
   h.nextTag,
   h.rounds,
   h.ledger,
   h.hif,
   h.pwr,
   h.doms,
   h.banks,
   h.log,
   h.tbu,
   h.nv,
   h.planeMem,
   h.fifos,
   h.clk,
   h.fab,
   h.boot,
   h.stage,
   h.ho,
   h.planeFill,
   h.dep,
   h.flash,
   h.flashFill,
   h.keys,
   h.prevEpoch,
   h.load,
   h.kite,
   h.tlm,
   h.scrUnbind,
   h.nva,
   h.nvIncomplete,
   h.nvFill,
   h.ports,
   h.enu,
   h.har,
   h.vbu,
   h.osp,
   h.tag,
   h.tagMem,
   h.bst,
   h.lcy,
   h.tap,
   h.regDue,
   h.regPart,
   h.blk,
   fun w => loseBank_wf _ _ (h.wf w)⟩

theorem zeroBank_made {M : Nat} (hM : M ||| 12 = M) {s0 s : State} (n : Nat) (h : Made M s0 s) :
    Made M s0 (zeroBank s n) :=
  ⟨h.pending,
   h.regs,
   mask_off hM 2 rfl,
   mask_off hM 3 rfl,
   h.free,
   h.out,
   h.ctxs,
   h.ops,
   h.nextTag,
   h.rounds,
   h.ledger,
   h.hif,
   h.pwr,
   h.doms,
   h.banks,
   h.log,
   h.tbu,
   h.nv,
   h.planeMem,
   h.fifos,
   h.clk,
   h.fab,
   h.boot,
   h.stage,
   h.ho,
   h.planeFill,
   h.dep,
   h.flash,
   h.flashFill,
   h.keys,
   h.prevEpoch,
   h.load,
   h.kite,
   h.tlm,
   h.scrUnbind,
   h.nva,
   h.nvIncomplete,
   h.nvFill,
   h.ports,
   h.enu,
   h.har,
   h.vbu,
   h.osp,
   h.tag,
   h.tagMem,
   h.bst,
   h.lcy,
   h.tap,
   h.regDue,
   h.regPart,
   h.blk,
   fun w => zeroBank_wf _ _ (h.wf w)⟩

theorem nvWipe_made {M : Nat} (hM : M ||| 137439084544 = M) {s0 s : State} (k : Nat) (u : Bool) (h : Made M s0 s) :
    Made M s0 (nvWipe s k u) :=
  ⟨h.pending,
   h.regs,
   h.mem,
   h.memFill,
   h.free,
   h.out,
   h.ctxs,
   h.ops,
   h.nextTag,
   h.rounds,
   h.ledger,
   h.hif,
   h.pwr,
   h.doms,
   h.banks,
   h.log,
   h.tbu,
   mask_off hM 17 rfl,
   h.planeMem,
   h.fifos,
   h.clk,
   h.fab,
   h.boot,
   h.stage,
   h.ho,
   h.planeFill,
   h.dep,
   h.flash,
   h.flashFill,
   h.keys,
   h.prevEpoch,
   h.load,
   h.kite,
   h.tlm,
   h.scrUnbind,
   h.nva,
   h.nvIncomplete,
   mask_off hM 37 rfl,
   h.ports,
   h.enu,
   h.har,
   h.vbu,
   h.osp,
   h.tag,
   h.tagMem,
   h.bst,
   h.lcy,
   h.tap,
   h.regDue,
   h.regPart,
   h.blk,
   fun w => nvWipe_wf _ _ _ (h.wf w)⟩

theorem planeClear_made {M : Nat} (hM : M ||| 33816576 = M) {s0 s : State} (p : Nat) (f : Nat) (h : Made M s0 s) :
    Made M s0 (planeClear s p f) :=
  ⟨h.pending,
   h.regs,
   h.mem,
   h.memFill,
   h.free,
   h.out,
   h.ctxs,
   h.ops,
   h.nextTag,
   h.rounds,
   h.ledger,
   h.hif,
   h.pwr,
   h.doms,
   h.banks,
   h.log,
   h.tbu,
   h.nv,
   mask_off hM 18 rfl,
   h.fifos,
   h.clk,
   h.fab,
   h.boot,
   h.stage,
   h.ho,
   mask_off hM 25 rfl,
   h.dep,
   h.flash,
   h.flashFill,
   h.keys,
   h.prevEpoch,
   h.load,
   h.kite,
   h.tlm,
   h.scrUnbind,
   h.nva,
   h.nvIncomplete,
   h.nvFill,
   h.ports,
   h.enu,
   h.har,
   h.vbu,
   h.osp,
   h.tag,
   h.tagMem,
   h.bst,
   h.lcy,
   h.tap,
   h.regDue,
   h.regPart,
   h.blk,
   fun w => planeClear_wf _ _ _ (h.wf w)⟩

theorem flashErase_made {M : Nat} (hM : M ||| 402653184 = M) {s0 s : State} (k : Nat) (h : Made M s0 s) :
    Made M s0 (flashErase s k) :=
  ⟨h.pending,
   h.regs,
   h.mem,
   h.memFill,
   h.free,
   h.out,
   h.ctxs,
   h.ops,
   h.nextTag,
   h.rounds,
   h.ledger,
   h.hif,
   h.pwr,
   h.doms,
   h.banks,
   h.log,
   h.tbu,
   h.nv,
   h.planeMem,
   h.fifos,
   h.clk,
   h.fab,
   h.boot,
   h.stage,
   h.ho,
   h.planeFill,
   h.dep,
   mask_off hM 27 rfl,
   mask_off hM 28 rfl,
   h.keys,
   h.prevEpoch,
   h.load,
   h.kite,
   h.tlm,
   h.scrUnbind,
   h.nva,
   h.nvIncomplete,
   h.nvFill,
   h.ports,
   h.enu,
   h.har,
   h.vbu,
   h.osp,
   h.tag,
   h.tagMem,
   h.bst,
   h.lcy,
   h.tap,
   h.regDue,
   h.regPart,
   h.blk,
   fun w => flashErase_wf _ _ (h.wf w)⟩

theorem flashWipe_made {M : Nat} (hM : M ||| 402653184 = M) {s0 s : State} (k : Nat) (h : Made M s0 s) :
    Made M s0 (flashWipe s k) :=
  ⟨h.pending,
   h.regs,
   h.mem,
   h.memFill,
   h.free,
   h.out,
   h.ctxs,
   h.ops,
   h.nextTag,
   h.rounds,
   h.ledger,
   h.hif,
   h.pwr,
   h.doms,
   h.banks,
   h.log,
   h.tbu,
   h.nv,
   h.planeMem,
   h.fifos,
   h.clk,
   h.fab,
   h.boot,
   h.stage,
   h.ho,
   h.planeFill,
   h.dep,
   mask_off hM 27 rfl,
   mask_off hM 28 rfl,
   h.keys,
   h.prevEpoch,
   h.load,
   h.kite,
   h.tlm,
   h.scrUnbind,
   h.nva,
   h.nvIncomplete,
   h.nvFill,
   h.ports,
   h.enu,
   h.har,
   h.vbu,
   h.osp,
   h.tag,
   h.tagMem,
   h.bst,
   h.lcy,
   h.tap,
   h.regDue,
   h.regPart,
   h.blk,
   fun w => flashWipe_wf _ _ (h.wf w)⟩

theorem Made.ite {M : Nat} {s0 s t : State} {c : Prop} [Decidable c] (h : Made M s0 s) (k : Made M s0 t) :
    Made M s0 (if c then s else t) := by split <;> assumption

theorem Made.foldl {M : Nat} {s0 : State} {α : Type} {f : State → α → State}
    (k : ∀ t x, Made M s0 t → Made M s0 (f t x)) (l : List α) {s : State} (h : Made M s0 s) : Made M s0 (l.foldl f s) := by
  induction l generalizing s with
  | nil => exact h
  | cons x l ih => exact ih (k s x h)

theorem Made.foldlC {M : Nat} {s0 : State} {α : Type} {f : Cmp → α → Cmp}
    (k : ∀ t x, Made M s0 t.st → Made M s0 (f t x).st) (l : List α) {s : Cmp} (h : Made M s0 s.st) :
    Made M s0 (l.foldl f s).st := by
  induction l generalizing s with
  | nil => exact h
  | cons x l ih => exact ih (k s x h)

theorem Made.ite_fst {M : Nat} {s0 : State} {α : Type} {c : Prop} [Decidable c] {s t : State × α} (h : Made M s0 s.1)
    (k : Made M s0 t.1) : Made M s0 (if c then s else t).1 := by split <;> assumption

theorem Made.of_pair {M : Nat} {s0 t : State} {α : Type} {x : α} {p : State × α} (e : p = (t, x)) (h : Made M s0 p.1) :
    Made M s0 t := by rw [e] at h; exact h

theorem fltId_blk (c k : Nat) : blockOf (fltId c k) = 14 := by
  unfold fltId; split
  · exact R.CAN_FLT_ID_blk _ _
  · exact R.LIN_FLT_ID_blk _ _

theorem fltMask_blk (c k : Nat) : blockOf (fltMask c k) = 14 := by
  unfold fltMask; split
  · exact R.CAN_FLT_MASK_blk _ _
  · exact R.LIN_FLT_MASK_blk _ _

theorem fltFifo_blk (c k : Nat) : blockOf (fltFifo c k) = 14 := by
  unfold fltFifo; split
  · exact R.CAN_FLT_FIFO_blk _ _
  · exact R.LIN_FLT_FIFO_blk _ _

/-- The outcome is a next state that `Made` relates to the state before. -/
def Ends (M : Nat) (s : State) (o : Host.Outcome State Fault Refusal) : Prop := ∃ t, o = .next t ∧ Made M s t

theorem Ends.done {M : Nat} {s t : State} (h : Made M s t) : Ends M s (.next t) := ⟨t, rfl, h⟩

theorem Ends.ite {M : Nat} {s : State} {c : Prop} [Decidable c] {a b : Host.Outcome State Fault Refusal}
    (h : Ends M s a) (k : Ends M s b) : Ends M s (if c then a else b) := by split <;> assumption

end Sys2Proof.Machine
end

