-- ==== Sys2Proof/Laws/MadeOps.lean ====
section
/-! SUPPORT. Ops.lean, operation by operation: the fields it leaves as they are, and that it keeps the stores canonical. -/
set_option linter.all false
namespace Sys2Proof.Machine
set_option Elab.async false

theorem setf_made {M : Nat} (hM : M ||| 2 = M) {s0 : State} (s : State) (f : Fld) (v : Nat) (b_f : M.testBit (64 + blockOf f.reg) = true) (h : Made M s0 s) :
    Made M s0 (setf s f v) := by
  unfold setf
  try dsimp only
  repeat' first
    | with_reducible first | intro _ | assumption | apply wr_made (mask_sub hM rfl)
    | assumption


theorem showReplay_made {M : Nat} (hM : M ||| 18889465931478580854786 = M) {s0 : State} (s : State) (p : Nat) (h : Made M s0 s) :
    Made M s0 (showReplay s p) := by
  unfold showReplay
  try dsimp only
  repeat' first
    | with_reducible first | intro _ | assumption | apply setf_made (mask_sub hM rfl)
    | with_reducible exact blk_at hM (F.CHN_REPLAY_KB_USED_blk _) rfl | with_reducible exact blk_at hM (F.CHN_REPLAY_MSGS_blk _) rfl


theorem maxTo_made {M : Nat} (hM : M ||| 2 = M) {s0 : State} (s : State) (f : Fld) (n : Nat) (b_f : M.testBit (64 + blockOf f.reg) = true) (h : Made M s0 s) :
    Made M s0 (maxTo s f n) := by
  unfold maxTo
  try dsimp only
  repeat' first
    | with_reducible first | intro _ | assumption | apply setf_made (mask_sub hM rfl)
    | assumption


theorem setPort_made {M : Nat} (hM : M ||| 274877906944 = M) {s0 : State} (s : State) (p : Nat) (x2 : Port) (h : Made M s0 s) :
    Made M s0 (setPort s p x2) := by
  unfold setPort
  try dsimp only
  with_reducible repeat' first
    | intro _ | assumption | apply Made.set_ports (mask_sub hM rfl)


theorem freeCells_made {M : Nat} (hM : M ||| 274877906944 = M) {s0 : State} (s : State) (p : Nat) (v : Nat) (n : Nat) (h : Made M s0 s) :
    Made M s0 (freeCells s p v n) := by
  unfold freeCells
  try dsimp only
  with_reducible repeat' first
    | intro _ | assumption | apply setPort_made (mask_sub hM rfl)


theorem wrapAdd_made {M : Nat} (hM : M ||| 2 = M) {s0 : State} (s : State) (f : Fld) (n : Nat) (b_f : M.testBit (64 + blockOf f.reg) = true) (h : Made M s0 s) :
    Made M s0 (wrapAdd s f n) := by
  unfold wrapAdd
  try dsimp only
  repeat' first
    | with_reducible first | intro _ | assumption | apply setf_made (mask_sub hM rfl)
    | assumption


theorem acceptMsg_made {M : Nat} (hM : M ||| 18889465931753458761730 = M) {s0 : State} (s : State) (p : Nat) (m : Msg) (h : Made M s0 s) :
    Made M s0 (acceptMsg s p m) := by
  unfold acceptMsg
  try dsimp only
  repeat' first
    | with_reducible first | intro _ | assumption | apply setPort_made (mask_sub hM rfl) | apply wrapAdd_made (mask_sub hM rfl)
    | with_reducible exact blk_at hM (F.CHN_VL_RX_MSGS_blk _ _) rfl


theorem takeMsg_made {M : Nat} (hM : M ||| 18889465931753458761730 = M) {s0 : State} (s : State) (p : Nat) (m : Msg) (h : Made M s0 s) :
    Made M s0 (takeMsg s p m) := by
  unfold takeMsg
  try dsimp only
  with_reducible repeat' first
    | intro _ | assumption | apply freeCells_made (mask_sub hM rfl) | apply acceptMsg_made (mask_sub hM rfl)


theorem nextOf_made {M : Nat} (_hM : M ||| 0 = M) {s0 : State} (s : State) (r : Host.Outcome State Fault Refusal)
    (h : Made M s0 s) (k : Ends M s0 r) : Made M s0 (nextOf s r) := by
  obtain ⟨t, e, k⟩ := k
  subst e; exact k


theorem satAdd_made {M : Nat} (hM : M ||| 2 = M) {s0 : State} (s : State) (f : Fld) (n : Nat) (b_f : M.testBit (64 + blockOf f.reg) = true) (h : Made M s0 s) :
    Made M s0 (satAdd s f n) := by
  unfold satAdd
  try dsimp only
  repeat' first
    | with_reducible first | intro _ | assumption | apply setf_made (mask_sub hM rfl)
    | assumption


theorem logEvent_made {M : Nat} (hM : M ||| 73786976294838239234 = M) {s0 : State} (s : State) (domain : Nat) (kind : Nat) (source : Nat) (detail : Nat) (detail2 : Nat) (h : Made M s0 s) :
    Made M s0 (logEvent s domain kind source detail detail2) := by
  unfold logEvent
  try dsimp only
  repeat' first
    | with_reducible first | intro _ | assumption | apply satAdd_made (mask_sub hM rfl) | apply setf_made (mask_sub hM rfl) | apply Made.set_log (mask_sub hM rfl)
    | exact blk_at hM rfl rfl


theorem emit_made {M : Nat} (hM : M ||| 32 = M) {s0 : State} (s : State) (o : Out) (h : Made M s0 s) :
    Made M s0 (emit s o) := by
  unfold emit
  try dsimp only
  with_reducible repeat' first
    | intro _ | assumption | apply Made.ite | split | apply Made.set_out (mask_sub hM rfl)


theorem userIo_made {M : Nat} (hM : M ||| 140737488355360 = M) {s0 : State} (s : State) (on : Bool) (h : Made M s0 s) :
    Made M s0 (userIo s on) := by
  unfold userIo
  try dsimp only
  with_reducible repeat' first
    | intro _ | assumption | apply emit_made (mask_sub hM rfl) | apply Made.set_tap (mask_sub hM rfl)


theorem sendCells_made {M : Nat} (hM : M ||| 9444732966014168334370 = M) {s0 : State} (s : State) (p : Nat) (r : Rep) (h : Made M s0 s) :
    Made M s0 (sendCells s p r) := by
  unfold sendCells
  try dsimp only
  repeat' first
    | with_reducible first | intro _ | assumption | apply setf_made (mask_sub hM rfl) | apply emit_made (mask_sub hM rfl) | apply setPort_made (mask_sub hM rfl)
    | with_reducible exact blk_at hM (F.LDG_CHN_AVAIL_blk _) rfl


theorem ctl_made {M : Nat} (hM : M ||| 32 = M) {s0 : State} (s : State) (p : Nat) (ty : Nat) (value : Nat) (aux : Nat) (h : Made M s0 s) :
    Made M s0 (ctl s p ty value aux) := by
  unfold ctl
  try dsimp only
  with_reducible repeat' first
    | intro _ | assumption | apply emit_made (mask_sub hM rfl)


theorem sendCsync_made {M : Nat} (hM : M ||| 32 = M) {s0 : State} (s : State) (p : Nat) (h : Made M s0 s) :
    Made M s0 (sendCsync s p) := by
  unfold sendCsync
  try dsimp only
  with_reducible repeat' first
    | intro _ | assumption | apply ctl_made (mask_sub hM rfl) | apply Made.foldl


theorem sendNew_made {M : Nat} (hM : M ||| 28334198897492749189154 = M) {s0 : State} (s : State) (p : Nat) (w : Wait) (h : Made M s0 s) :
    Made M s0 (sendNew s p w) := by
  unfold sendNew
  try dsimp only
  repeat' first
    | with_reducible first | intro _ | assumption | apply Made.ite | apply setPort_made (mask_sub hM rfl) | apply wrapAdd_made (mask_sub hM rfl) | apply sendCells_made (mask_sub hM rfl) | apply freeCells_made (mask_sub hM rfl) | split
    | with_reducible exact blk_at hM (F.CHN_VL_TX_MSGS_blk _ _) rfl


theorem pumpPort_made {M : Nat} (hM : M ||| 28334198897492749189154 = M) {s0 : State} (s : State) (p : Nat) (x2 : Nat) (h : Made M s0 s) :
    Made M s0 (pumpPort s p x2) := by
  induction x2 generalizing s p with
  | zero =>
    unfold pumpPort
    try dsimp only
    with_reducible repeat' first
      | intro _ | assumption | apply Made.ite | apply setPort_made (mask_sub hM rfl) | apply sendCells_made (mask_sub hM rfl) | apply sendCsync_made (mask_sub hM rfl) | apply sendNew_made (mask_sub hM rfl) | split
  | succ _ ih =>
    unfold pumpPort
    try dsimp only
    with_reducible repeat' first
      | intro _ | assumption | apply ih | apply Made.ite | apply setPort_made (mask_sub hM rfl) | apply sendCells_made (mask_sub hM rfl) | apply sendCsync_made (mask_sub hM rfl) | apply sendNew_made (mask_sub hM rfl) | split


theorem flushPort_made {M : Nat} (hM : M ||| 28334198897492749189154 = M) {s0 : State} (s : State) (p : Nat) (h : Made M s0 s) :
    Made M s0 (flushPort s p) := by
  unfold flushPort
  try dsimp only
  with_reducible repeat' first
    | intro _ | assumption | apply showReplay_made (mask_sub hM rfl) | apply pumpPort_made (mask_sub hM rfl)


theorem queueMsg_made {M : Nat} (hM : M ||| 28334198897492749189154 = M) {s0 : State} (s : State) (p : Nat) (src : Option Nat) (stomp : Bool) (m : Msg) (h : Made M s0 s) :
    Made M s0 (queueMsg s p src stomp m) := by
  unfold queueMsg
  try dsimp only
  with_reducible repeat' first
    | intro _ | assumption | apply Made.ite | apply flushPort_made (mask_sub hM rfl) | apply setPort_made (mask_sub hM rfl) | split


theorem sendMsg_made {M : Nat} (hM : M ||| 28334198897492749189154 = M) {s0 : State} (s : State) (p : Nat) (m : Msg) (h : Made M s0 s) :
    Made M s0 (sendMsg s p m) := by
  unfold sendMsg
  try dsimp only
  with_reducible repeat' first
    | intro _ | assumption | apply queueMsg_made (mask_sub hM rfl)


theorem raise_made {M : Nat} (hM : M ||| 2 = M) {s0 : State} (s : State) (f : Fld) (b_f : M.testBit (64 + blockOf f.reg) = true) (h : Made M s0 s) :
    Made M s0 (raise s f) := by
  unfold raise
  try dsimp only
  repeat' first
    | with_reducible first | intro _ | assumption | apply setf_made (mask_sub hM rfl)
    | assumption


theorem sleepAbort_made {M : Nat} (hM : M ||| 66113130760999666712610 = M) {s0 : State} (s : State) (cause : Nat) (unit : Nat) (h : Made M s0 s) :
    Made M s0 (sleepAbort s cause unit) := by
  unfold sleepAbort
  try dsimp only
  repeat' first
    | with_reducible first | intro _ | assumption | apply Made.ite | apply sendMsg_made (mask_sub hM rfl) | apply setf_made (mask_sub hM rfl) | apply raise_made (mask_sub hM rfl) | split | apply Made.set_enu (mask_sub hM rfl)
    | exact blk_at hM rfl rfl


theorem plainWrite_made {M : Nat} (hM : M ||| 2 = M) {s0 : State} (s : State) (a : Nat) (v : W32) (b_a : M.testBit (64 + blockOf a) = true) (h : Made M s0 s) :
    Made M s0 (plainWrite s a v) := by
  unfold plainWrite
  try dsimp only
  repeat' first
    | with_reducible first | intro _ | assumption | apply wr_made (mask_sub hM rfl)
    | assumption


theorem setCtx_made {M : Nat} (hM : M ||| 64 = M) {s0 : State} (s : State) (c : Nat) (x2 : Ctx) (h : Made M s0 s) :
    Made M s0 (setCtx s c x2) := by
  unfold setCtx
  try dsimp only
  with_reducible repeat' first
    | intro _ | assumption | apply Made.set_ctxs (mask_sub hM rfl)


theorem takeFlood_made {M : Nat} (hM : M ||| 28334198897492749189154 = M) {s0 : State} (s : State) (p : Nat) (m : Msg) (out : Msg) (h : Made M s0 s) :
    Made M s0 (takeFlood s p m out) := by
  unfold takeFlood
  try dsimp only
  with_reducible repeat' first
    | intro _ | assumption | apply Made.ite | apply acceptMsg_made (mask_sub hM rfl) | apply queueMsg_made (mask_sub hM rfl) | apply freeCells_made (mask_sub hM rfl) | split


theorem kitIrq_made {M : Nat} (hM : M ||| 9671406556917033397649410 = M) {s0 : State} (s : State) (i : Nat) (h : Made M s0 s) :
    Made M s0 (kitIrq s i) := by
  unfold kitIrq
  try dsimp only
  repeat' first
    | with_reducible first | intro _ | assumption | apply wr_made (mask_sub hM rfl)
    | exact blk_at hM rfl rfl


theorem setOp_made {M : Nat} (hM : M ||| 128 = M) {s0 : State} (s : State) (o : Op) (h : Made M s0 s) :
    Made M s0 (setOp s o) := by
  unfold setOp
  try dsimp only
  with_reducible repeat' first
    | intro _ | assumption | apply Made.ite | split | apply Made.set_ops (mask_sub hM rfl)


theorem countOp_made {M : Nat} (hM : M ||| 8589934592 = M) {s0 : State} (s : State) (code : Nat) (h : Made M s0 s) :
    Made M s0 (countOp s code) := by
  unfold countOp
  try dsimp only
  with_reducible repeat' first
    | intro _ | assumption | apply Made.ite | split | apply Made.set_tlm (mask_sub hM rfl)


theorem giveRet_made {M : Nat} (hM : M ||| 8589934720 = M) {s0 : State} (s : State) (o : Op) (r : Ret) (h : Made M s0 s) :
    Made M s0 (giveRet s o r) := by
  unfold giveRet
  try dsimp only
  with_reducible repeat' first
    | intro _ | assumption | apply setOp_made (mask_sub hM rfl) | apply countOp_made (mask_sub hM rfl)


theorem setRound_made {M : Nat} (hM : M ||| 512 = M) {s0 : State} (s : State) (k : Nat) (x2 : Round) (h : Made M s0 s) :
    Made M s0 (setRound s k x2) := by
  unfold setRound
  try dsimp only
  with_reducible repeat' first
    | intro _ | assumption | apply Made.set_rounds (mask_sub hM rfl)


theorem setFifo_made {M : Nat} (hM : M ||| 524288 = M) {s0 : State} (s : State) (n : Nat) (x2 : Fifo) (h : Made M s0 s) :
    Made M s0 (setFifo s n x2) := by
  unfold setFifo
  try dsimp only
  with_reducible repeat' first
    | intro _ | assumption | apply Made.set_fifos (mask_sub hM rfl)


theorem setWide_made {M : Nat} (hM : M ||| 2048 = M) {s0 : State} (s : State) (m : Master) (x2 : Wide) (h : Made M s0 s) :
    Made M s0 (setWide s m x2) := by
  unfold setWide
  try dsimp only
  with_reducible repeat' first
    | intro _ | assumption | split | apply Made.set_hif (mask_sub hM rfl)


theorem setDom_made {M : Nat} (hM : M ||| 8192 = M) {s0 : State} (s : State) (d : Nat) (x2 : Dom) (h : Made M s0 s) :
    Made M s0 (setDom s d x2) := by
  unfold setDom
  try dsimp only
  with_reducible repeat' first
    | intro _ | assumption | apply Made.set_doms (mask_sub hM rfl)


theorem drawn_made {M : Nat} (hM : M ||| 16 = M) {s0 : State} (s : State) (h : Made M s0 s) :
    Made M s0 (drawn s) := by
  unfold drawn
  try dsimp only
  with_reducible repeat' first
    | intro _ | assumption | apply Made.set_free (mask_sub hM rfl)


theorem sendVec_made {M : Nat} (hM : M ||| 2361183241434822606882 = M) {s0 : State} (s : State) (v : Nat) (h : Made M s0 s) :
    Made M s0 (sendVec s v) := by
  unfold sendVec
  try dsimp only
  repeat' first
    | with_reducible first | intro _ | assumption | apply Made.ite | apply wr_made (mask_sub hM rfl) | apply emit_made (mask_sub hM rfl) | split
    | with_reducible exact blk_at hM (R.HIF_PBA_blk _) rfl


theorem sendDev_made {M : Nat} (hM : M ||| 30695382138927571798050 = M) {s0 : State} (s : State) (k : Nat) (h : Made M s0 s) :
    Made M s0 (sendDev s k) := by
  unfold sendDev
  try dsimp only
  with_reducible repeat' first
    | intro _ | assumption | apply Made.ite | apply sendMsg_made (mask_sub hM rfl) | apply sendVec_made (mask_sub hM rfl) | split | apply Made.set_hif (mask_sub hM rfl)


theorem devEvent_made {M : Nat} (hM : M ||| 9702101939055960969447458 = M) {s0 : State} (s : State) (k : Nat) (h : Made M s0 s) :
    Made M s0 (devEvent s k) := by
  unfold devEvent
  try dsimp only
  repeat' first
    | with_reducible first | intro _ | assumption | apply Made.ite | apply kitIrq_made (mask_sub hM rfl) | apply wr_made (mask_sub hM rfl) | apply sendDev_made (mask_sub hM rfl) | split | apply Made.set_hif (mask_sub hM rfl)
    | exact blk_at hM rfl rfl


theorem passOn_made {M : Nat} (hM : M ||| 66113130760449910898722 = M) {s0 : State} (s : State) (p : Nat) (m : Msg) (h : Made M s0 s) :
    Made M s0 (passOn s p m) := by
  unfold passOn
  try dsimp only
  repeat' first
    | with_reducible first | intro _ | assumption | apply Made.ite | apply acceptMsg_made (mask_sub hM rfl) | apply queueMsg_made (mask_sub hM rfl) | apply freeCells_made (mask_sub hM rfl) | apply satAdd_made (mask_sub hM rfl) | split
    | exact blk_at hM rfl rfl


theorem setDomBit_made {M : Nat} (hM : M ||| 2 = M) {s0 : State} (s : State) (a : Nat) (d : Nat) (v : Bool) (b_a : M.testBit (64 + blockOf a) = true) (h : Made M s0 s) :
    Made M s0 (setDomBit s a d v) := by
  unfold setDomBit
  try dsimp only
  repeat' first
    | with_reducible first | intro _ | assumption | apply Made.ite | apply wr_made (mask_sub hM rfl) | split
    | assumption


theorem alarmUpdate_made {M : Nat} (hM : M ||| 9702120385800034678999074 = M) {s0 : State} (s : State) (h : Made M s0 s) :
    Made M s0 (alarmUpdate s) := by
  unfold alarmUpdate
  try dsimp only
  repeat' first
    | with_reducible first | intro _ | assumption | apply Made.ite | apply wr_made (mask_sub hM rfl) | apply devEvent_made (mask_sub hM rfl) | apply kitIrq_made (mask_sub hM rfl) | apply satAdd_made (mask_sub hM rfl) | split
    | exact blk_at hM rfl rfl


theorem raiseAlarm_made {M : Nat} (hM : M ||| 9702120385800034678999074 = M) {s0 : State} (s : State) (f : Fld) (b_f : M.testBit (64 + blockOf f.reg) = true) (h : Made M s0 s) :
    Made M s0 (raiseAlarm s f) := by
  unfold raiseAlarm
  try dsimp only
  repeat' first
    | with_reducible first | intro _ | assumption | apply alarmUpdate_made (mask_sub hM rfl) | apply raise_made (mask_sub hM rfl)
    | assumption


theorem nakWake_made {M : Nat} (hM : M ||| 66113130760999666712610 = M) {s0 : State} (s : State) (h : Made M s0 s) :
    Made M s0 (nakWake s) := by
  unfold nakWake
  try dsimp only
  repeat' first
    | with_reducible first | intro _ | assumption | apply Made.ite | apply sleepAbort_made (mask_sub hM rfl) | apply setf_made (mask_sub hM rfl) | apply sendMsg_made (mask_sub hM rfl) | split | apply Made.set_enu (mask_sub hM rfl)
    | exact blk_at hM rfl rfl


theorem raise9_made {M : Nat} (hM : M ||| 9702101939055960969447458 = M) {s0 : State} (s : State) (f : Fld) (b_f : M.testBit (64 + blockOf f.reg) = true) (h : Made M s0 s) :
    Made M s0 (raise9 s f) := by
  unfold raise9
  try dsimp only
  repeat' first
    | with_reducible first | intro _ | assumption | apply Made.ite | apply devEvent_made (mask_sub hM rfl) | apply raise_made (mask_sub hM rfl) | split
    | assumption


theorem setBank_made {M : Nat} (hM : M ||| 16384 = M) {s0 : State} (s : State) (n : Nat) (x2 : Bank) (h : Made M s0 s) :
    Made M s0 (setBank s n x2) := by
  unfold setBank
  try dsimp only
  with_reducible repeat' first
    | intro _ | assumption | apply Made.set_banks (mask_sub hM rfl)


theorem dropLow_made {M : Nat} (hM : M ||| 2048 = M) {s0 : State} (s : State) (m : Master) (hi : Nat) (h : Made M s0 s) :
    Made M s0 (dropLow s m hi) := by
  unfold dropLow
  try dsimp only
  with_reducible repeat' first
    | intro _ | assumption | apply setWide_made (mask_sub hM rfl)


theorem holdLow_made {M : Nat} (hM : M ||| 2048 = M) {s0 : State} (s : State) (m : Master) (hi : Nat) (v : W32) (h : Made M s0 s) :
    Made M s0 (holdLow s m hi v) := by
  unfold holdLow
  try dsimp only
  with_reducible repeat' first
    | intro _ | assumption | apply setWide_made (mask_sub hM rfl)


end Sys2Proof.Machine
end

