-- ==== Sys2Proof/Laws/MadeMem.lean ====
section
/-! SUPPORT. Mem.lean, operation by operation: the fields it leaves as they are, and that it keeps the stores canonical. -/
set_option linter.all false
namespace Sys2Proof.Machine
set_option Elab.async false

theorem noteErr_made {M : Nat} (hM : M ||| 9703282530676678380750882 = M) {s0 : State} (s : State) (x1 : Err) (h : Made M s0 s) :
    Made M s0 (noteErr s x1) := by
  unfold noteErr
  try dsimp only
  repeat' first
    | with_reducible first | intro _ | assumption | apply devEvent_made (mask_sub hM rfl) | apply satAdd_made (mask_sub hM rfl) | apply raise_made (mask_sub hM rfl) | split
    | with_reducible exact blk_at hM (F.BNK_EVT_OFFLINE_ACCESS_blk _) rfl | exact blk_at hM rfl rfl


theorem putBytes_made {M : Nat} (hM : M ||| 4 = M) {s0 : State} (s : State) (x1 : Nat) (x2 : List Byte) (h : Made M s0 s) :
    Made M s0 (putBytes s x1 x2) := by
  induction x2 generalizing s x1 with
  | nil =>
    unfold putBytes
    try dsimp only
    with_reducible repeat' first
      | intro _ | assumption | apply memPut_made (mask_sub hM rfl) | split
  | cons _ _ ih =>
    unfold putBytes
    try dsimp only
    with_reducible repeat' first
      | intro _ | assumption | apply ih | apply memPut_made (mask_sub hM rfl) | split


theorem loseBytes_made {M : Nat} (hM : M ||| 4 = M) {s0 : State} (s : State) (a : Nat) (x2 : Nat) (h : Made M s0 s) :
    Made M s0 (loseBytes s a x2) := by
  induction x2 generalizing s a with
  | zero =>
    unfold loseBytes
    try dsimp only
    with_reducible repeat' first
      | intro _ | assumption | apply memPut_made (mask_sub hM rfl) | split
  | succ _ ih =>
    unfold loseBytes
    try dsimp only
    with_reducible repeat' first
      | intro _ | assumption | apply ih | apply memPut_made (mask_sub hM rfl) | split


theorem noteNvRead_made {M : Nat} (hM : M ||| 590295810358705651714 = M) {s0 : State} (s : State) (m : Nat) (o : Nat) (n : Nat) (h : Made M s0 s) :
    Made M s0 (noteNvRead s m o n) := by
  unfold noteNvRead
  try dsimp only
  repeat' first
    | with_reducible first | intro _ | assumption | apply Made.ite | apply setf_made (mask_sub hM rfl) | apply satAdd_made (mask_sub hM rfl) | apply raise_made (mask_sub hM rfl) | split
    | exact blk_at hM rfl rfl


theorem noteRead_made {M : Nat} (hM : M ||| 154743095206482893068042258 = M) {s0 : State} (s : State) (m : Nat) (a : Nat) (n : Nat) (h : Made M s0 s) :
    Made M s0 (noteRead s m a n) := by
  unfold noteRead
  try dsimp only
  repeat' first
    | with_reducible first | intro _ | assumption | apply Made.ite | apply noteNvRead_made (mask_sub hM rfl) | apply drawn_made (mask_sub hM rfl) | apply satAdd_made (mask_sub hM rfl) | split
    | exact blk_at hM rfl rfl


theorem regByte_made {M : Nat} (hM : M ||| 844424930131968 = M) {s0 : State} (s : State) (a : Nat) (b : Byte) (h : Made M s0 s) :
    Made M s0 (regByte s a b) := by
  unfold regByte
  try dsimp only
  with_reducible repeat' first
    | intro _ | assumption | apply Made.ite | split | apply Made.set_regPart (mask_sub hM rfl) | apply Made.set_regDue_regPart (mask_sub hM rfl)


theorem storeByte_made {M : Nat} (hM : M ||| 844424930131972 = M) {s0 : State} (s : State) (a : Nat) (b : Byte) (h : Made M s0 s) :
    Made M s0 (storeByte s a b) := by
  unfold storeByte
  try dsimp only
  with_reducible repeat' first
    | intro _ | assumption | apply Made.ite | apply memPut_made (mask_sub hM rfl) | apply regByte_made (mask_sub hM rfl) | split


theorem nvPutBytes_made {M : Nat} (hM : M ||| 131072 = M) {s0 : State} (s : State) (o : Nat) (x2 : List Byte) (h : Made M s0 s) :
    Made M s0 (nvPutBytes s o x2) := by
  induction x2 generalizing s o with
  | nil =>
    unfold nvPutBytes
    try dsimp only
    with_reducible repeat' first
      | intro _ | assumption | apply nvPut_made (mask_sub hM rfl) | split
  | cons _ _ ih =>
    unfold nvPutBytes
    try dsimp only
    with_reducible repeat' first
      | intro _ | assumption | apply ih | apply nvPut_made (mask_sub hM rfl) | split


theorem writeBytes_made {M : Nat} (hM : M ||| 844424930131972 = M) {s0 : State} (s : State) (x1 : Nat) (x2 : List Byte) (h : Made M s0 s) :
    Made M s0 (writeBytes s x1 x2).1 := by
  induction x2 generalizing s x1 with
  | nil =>
    unfold writeBytes
    try dsimp only
    with_reducible repeat' first
      | intro _ | assumption | apply storeByte_made (mask_sub hM rfl) | split
  | cons _ _ ih =>
    unfold writeBytes
    try dsimp only
    with_reducible repeat' first
      | intro _ | assumption | apply ih | apply storeByte_made (mask_sub hM rfl) | split


theorem planeBytes_made {M : Nat} (hM : M ||| 262144 = M) {s0 : State} (s : State) (o : Nat) (x2 : List Byte) (h : Made M s0 s) :
    Made M s0 (planeBytes s o x2) := by
  induction x2 generalizing s o with
  | nil =>
    unfold planeBytes
    try dsimp only
    with_reducible repeat' first
      | intro _ | assumption | apply planePut_made (mask_sub hM rfl) | split
  | cons _ _ ih =>
    unfold planeBytes
    try dsimp only
    with_reducible repeat' first
      | intro _ | assumption | apply ih | apply planePut_made (mask_sub hM rfl) | split


end Sys2Proof.Machine
end

