-- ==== Sys2Proof/Laws/MadeGate.lean ====
section
/-! SUPPORT. Gate.lean, operation by operation: the fields it leaves as they are, and that it keeps the stores canonical. -/
set_option linter.all false
namespace Sys2Proof.Machine
set_option Elab.async false

theorem clearPend_made {M : Nat} (hM : M ||| 64 = M) {s0 : State} (s : State) (p : Nat × Ctx → Bool) (h : Made M s0 s) :
    Made M s0 (clearPend s p) := by
  unfold clearPend
  try dsimp only
  with_reducible repeat' first
    | intro _ | assumption | apply Made.ite | split | apply Made.set_ctxs (mask_sub hM rfl)


theorem lend_made {M : Nat} (hM : M ||| 1024 = M) {s0 : State} (s : State) (n : Nat) (h : Made M s0 s) :
    Made M s0 (lend s n) := by
  unfold lend
  try dsimp only
  with_reducible repeat' first
    | intro _ | assumption | apply Made.set_ledger (mask_sub hM rfl)


theorem takeToken_made {M : Nat} (hM : M ||| 1088 = M) {s0 : State} (s : State) (c : Nat) (h : Made M s0 s) :
    Made M s0 (takeToken s c) := by
  unfold takeToken
  try dsimp only
  with_reducible repeat' first
    | intro _ | assumption | apply Made.ite | apply setCtx_made (mask_sub hM rfl) | split | apply Made.set_ledger (mask_sub hM rfl)


theorem issue_made {M : Nat} (hM : M ||| 28334198897492749190626 = M) {s0 : State} (s : State) (c : Nat) (d : Staged) (h : Made M s0 s) :
    Made M s0 (issue s c d) := by
  unfold issue
  try dsimp only
  with_reducible repeat' first
    | intro _ | assumption | apply Made.ite | apply lend_made (mask_sub hM rfl) | apply takeToken_made (mask_sub hM rfl) | apply sendMsg_made (mask_sub hM rfl) | split | apply Made.set_ops_nextTag (mask_sub hM rfl)


theorem hostPut_made {M : Nat} (hM : M ||| 28334198897492749189154 = M) {s0 : State} (s : State) (c : Nat) (addr : Nat) (bs : List Byte) (h : Made M s0 s) :
    Made M s0 (hostPut s c addr bs) := by
  unfold hostPut
  try dsimp only
  with_reducible repeat' first
    | intro _ | assumption | apply Made.ite | apply sendMsg_made (mask_sub hM rfl) | apply emit_made (mask_sub hM rfl) | split


theorem sendCtxInt_made {M : Nat} (hM : M ||| 30695382138927571796066 = M) {s0 : State} (s : State) (c : Nat) (h : Made M s0 s) :
    Made M s0 (sendCtxInt s c) := by
  unfold sendCtxInt
  try dsimp only
  with_reducible repeat' first
    | intro _ | assumption | apply Made.ite | apply clearPend_made (mask_sub hM rfl) | apply sendMsg_made (mask_sub hM rfl) | apply sendVec_made (mask_sub hM rfl) | split


theorem freeToken_made {M : Nat} (hM : M ||| 1088 = M) {s0 : State} (s : State) (h : Made M s0 s) :
    Made M s0 (freeToken s) := by
  unfold freeToken
  try dsimp only
  with_reducible repeat' first
    | intro _ | assumption | apply setCtx_made (mask_sub hM rfl) | split | apply Made.set_ledger (mask_sub hM rfl)


theorem freeTokens_made {M : Nat} (hM : M ||| 1088 = M) {s0 : State} (s : State) (x1 : Nat) (h : Made M s0 s) :
    Made M s0 (freeTokens s x1) := by
  induction x1 generalizing s with
  | zero =>
    unfold freeTokens
    try dsimp only
    with_reducible repeat' first
      | intro _ | assumption | apply freeToken_made (mask_sub hM rfl) | split
  | succ _ ih =>
    unfold freeTokens
    try dsimp only
    with_reducible repeat' first
      | intro _ | assumption | apply ih | apply freeToken_made (mask_sub hM rfl) | split


theorem drainCheck_made {M : Nat} (hM : M ||| 14167099448608935642178 = M) {s0 : State} (s : State) (c : Nat) (h : Made M s0 s) :
    Made M s0 (drainCheck s c) := by
  unfold drainCheck
  try dsimp only
  repeat' first
    | with_reducible first | intro _ | assumption | apply Made.ite | apply setf_made (mask_sub hM rfl) | apply freeTokens_made (mask_sub hM rfl) | apply setCtx_made (mask_sub hM rfl) | split
    | with_reducible exact blk_at hM (F.CTX_CTL_EN_blk _) rfl | with_reducible exact blk_at hM (F.CTX_STAT_DISCARDING_blk _) rfl | with_reducible exact blk_at hM (F.CTX_STAT_STATE_blk _) rfl | exact blk_at hM rfl rfl


theorem unfreeze_made {M : Nat} (hM : M ||| 14167099448608935642178 = M) {s0 : State} (s : State) (c : Nat) (h : Made M s0 s) :
    Made M s0 (unfreeze s c) := by
  unfold unfreeze
  try dsimp only
  repeat' first
    | with_reducible first | intro _ | assumption | apply Made.ite | apply drainCheck_made (mask_sub hM rfl) | apply setf_made (mask_sub hM rfl) | apply setCtx_made (mask_sub hM rfl) | split
    | with_reducible exact blk_at hM (F.CTX_STAT_STATE_blk _) rfl


theorem ringPut_made {M : Nat} (hM : M ||| 28334198897492749189158 = M) {s0 : State} (s : State) (c : Nat) (addr : Nat) (bs : List Byte) (h : Made M s0 s) :
    Made M s0 (ringPut s c addr bs) := by
  unfold ringPut
  try dsimp only
  with_reducible repeat' first
    | intro _ | assumption | apply Made.ite | apply putBytes_made (mask_sub hM rfl) | apply hostPut_made (mask_sub hM rfl) | split


theorem writeBack_made {M : Nat} (hM : M ||| 28334198897492749189158 = M) {s0 : State} (s : State) (c : Nat) (h : Made M s0 s) :
    Made M s0 (writeBack s c) := by
  unfold writeBack
  try dsimp only
  with_reducible repeat' first
    | intro _ | assumption | apply Made.ite | apply ringPut_made (mask_sub hM rfl) | split


theorem recordInt_made {M : Nat} (hM : M ||| 9702101939055960969445474 = M) {s0 : State} (s : State) (c : Nat) (h : Made M s0 s) :
    Made M s0 (recordInt s c) := by
  unfold recordInt
  try dsimp only
  with_reducible repeat' first
    | intro _ | assumption | apply Made.ite | apply kitIrq_made (mask_sub hM rfl) | apply setCtx_made (mask_sub hM rfl) | apply sendCtxInt_made (mask_sub hM rfl) | split


theorem putRec_made {M : Nat} (hM : M ||| 9706824305538830614659174 = M) {s0 : State} (s : State) (c : Nat) (r : Rec) (h : Made M s0 s) :
    Made M s0 (putRec s c r) := by
  unfold putRec
  try dsimp only
  repeat' first
    | with_reducible first | intro _ | assumption | apply Made.ite | apply ringPut_made (mask_sub hM rfl) | apply setCtx_made (mask_sub hM rfl) | apply setf_made (mask_sub hM rfl) | apply writeBack_made (mask_sub hM rfl) | apply recordInt_made (mask_sub hM rfl) | split
    | with_reducible exact blk_at hM (F.CTX_CQ_IDX_CQ_PI_blk _) rfl


theorem writeRec_made {M : Nat} (hM : M ||| 9706824305538830614659174 = M) {s0 : State} (s : State) (c : Nat) (r : Rec) (h : Made M s0 s) :
    Made M s0 (writeRec s c r) := by
  unfold writeRec
  try dsimp only
  repeat' first
    | with_reducible first | intro _ | assumption | apply Made.ite | apply raise_made (mask_sub hM rfl) | apply satAdd_made (mask_sub hM rfl) | apply setCtx_made (mask_sub hM rfl) | apply putRec_made (mask_sub hM rfl) | split
    | with_reducible exact blk_at hM (F.CTX_EVT_DISCARDED_blk _) rfl | exact blk_at hM rfl rfl


theorem outcome_made {M : Nat} (hM : M ||| 9706824305538830614660198 = M) {s0 : State} (s : State) (c : Nat) (sq : Nat) (ws : List W32) (status : Nat) (detail : Nat) (r0 : W32) (r1 : W32) (h : Made M s0 s) :
    Made M s0 (outcome s c sq ws status detail r0 r1) := by
  unfold outcome
  try dsimp only
  repeat' first
    | with_reducible first | intro _ | assumption | apply Made.ite | apply wrapAdd_made (mask_sub hM rfl) | apply writeRec_made (mask_sub hM rfl) | apply drainCheck_made (mask_sub hM rfl) | split
    | with_reducible exact blk_at hM (F.CTX_DONE_COUNT_blk _) rfl


theorem release_made {M : Nat} (hM : M ||| 9706842752282904324738146 = M) {s0 : State} (s : State) (h : Made M s0 s) :
    Made M s0 (release s) := by
  unfold release
  try dsimp only
  repeat' first
    | with_reducible first | intro _ | assumption | apply Made.ite | apply setf_made (mask_sub hM rfl) | apply wr_made (mask_sub hM rfl) | apply alarmUpdate_made (mask_sub hM rfl) | apply unfreeze_made (mask_sub hM rfl) | apply Made.foldl | split | apply Made.set_ctxs_ledger_fifos (mask_sub hM rfl)
    | with_reducible exact blk_at hM (F.LDG_CHN_AVAIL_blk _) rfl | with_reducible exact blk_at hM (R.LDG_FROZEN_blk _) rfl | exact blk_at hM rfl rfl


theorem latchWaits_made {M : Nat} (hM : M ||| 64 = M) {s0 : State} (s : State) (c : Nat) (h : Made M s0 s) :
    Made M s0 (latchWaits s c) := by
  unfold latchWaits
  try dsimp only
  with_reducible repeat' first
    | intro _ | assumption | apply Made.ite | apply setCtx_made (mask_sub hM rfl) | split


theorem refuse_made {M : Nat} (hM : M ||| 9706824305538830614660198 = M) {s0 : State} (s : State) (c : Nat) (sq : Nat) (ws : List W32) (status : Nat) (detail : Nat) (h : Made M s0 s) :
    Made M s0 (refuse s c sq ws status detail) := by
  unfold refuse
  try dsimp only
  repeat' first
    | with_reducible first | intro _ | assumption | apply Made.ite | apply satAdd_made (mask_sub hM rfl) | apply outcome_made (mask_sub hM rfl) | split
    | exact blk_at hM rfl rfl


theorem advanceRound_made {M : Nat} (hM : M ||| 512 = M) {s0 : State} (s : State) (k : Nat) (c : Nat) (h : Made M s0 s) :
    Made M s0 (advanceRound s k c) := by
  unfold advanceRound
  try dsimp only
  with_reducible repeat' first
    | intro _ | assumption | apply Made.ite | apply setRound_made (mask_sub hM rfl) | split


theorem freeze_made {M : Nat} (hM : M ||| 9706824305538830614661218 = M) {s0 : State} (s : State) (c : Nat) (h : Made M s0 s) :
    Made M s0 (freeze s c) := by
  unfold freeze
  try dsimp only
  repeat' first
    | with_reducible first | intro _ | assumption | apply Made.ite | apply setCtx_made (mask_sub hM rfl) | apply raise_made (mask_sub hM rfl) | apply setf_made (mask_sub hM rfl) | apply wr_made (mask_sub hM rfl) | apply devEvent_made (mask_sub hM rfl) | split
    | with_reducible exact blk_at hM (F.CTX_EVT_FROZEN_blk _) rfl | with_reducible exact blk_at hM (F.CTX_STAT_STATE_blk _) rfl | with_reducible exact blk_at hM (R.LDG_FROZEN_blk _) rfl | exact blk_at hM rfl rfl


theorem remoteDone_made {M : Nat} (hM : M ||| 28334198897492749189154 = M) {s0 : State} (s : State) (unit : Nat) (rtag : Nat) (o : Op) (status : Nat) (detail : Nat) (r0 : W32) (r1 : W32) (h : Made M s0 s) :
    Made M s0 (remoteDone s unit rtag o status detail r0 r1) := by
  unfold remoteDone
  try dsimp only
  with_reducible repeat' first
    | intro _ | assumption | apply sendMsg_made (mask_sub hM rfl)


theorem countClassWaits_made {M : Nat} (hM : M ||| 2361183241434822606850 = M) {s0 : State} (s : State) (k : Nat) (h : Made M s0 s) :
    Made M s0 (countClassWaits s k) := by
  unfold countClassWaits
  try dsimp only
  repeat' first
    | with_reducible first | intro _ | assumption | apply Made.ite | apply satAdd_made (mask_sub hM rfl) | apply Made.foldl | split
    | with_reducible exact blk_at hM (F.HIF_CLASS_WAIT_TURNS_blk _) rfl


theorem dispatchCtx_made {M : Nat} (hM : M ||| 9706824305538830614660582 = M) {s0 : State} (s : State) (c : Nat) (h : Made M s0 s) :
    Made M s0 (dispatchCtx s c) := by
  unfold dispatchCtx
  try dsimp only
  with_reducible repeat' first
    | intro _ | assumption | apply Made.ite | apply setCtx_made (mask_sub hM rfl) | apply refuse_made (mask_sub hM rfl) | apply issue_made (mask_sub hM rfl) | apply drainCheck_made (mask_sub hM rfl) | apply latchWaits_made (mask_sub hM rfl) | split


theorem countWaits_made {M : Nat} (hM : M ||| 9444732965739290427394 = M) {s0 : State} (s : State) (h : Made M s0 s) :
    Made M s0 (countWaits s) := by
  unfold countWaits
  try dsimp only
  repeat' first
    | with_reducible first | intro _ | assumption | apply Made.ite | apply satAdd_made (mask_sub hM rfl) | split
    | exact blk_at hM rfl rfl


theorem ledgerFault_made {M : Nat} (hM : M ||| 9706842752282904324212834 = M) {s0 : State} (s : State) (m : Mismatch) (h : Made M s0 s) :
    Made M s0 (ledgerFault s m) := by
  unfold ledgerFault
  try dsimp only
  repeat' first
    | with_reducible first | intro _ | assumption | apply Made.ite | apply wr_made (mask_sub hM rfl) | apply setf_made (mask_sub hM rfl) | apply satAdd_made (mask_sub hM rfl) | apply freeze_made (mask_sub hM rfl) | apply alarmUpdate_made (mask_sub hM rfl) | apply devEvent_made (mask_sub hM rfl) | apply raise_made (mask_sub hM rfl) | apply Made.foldl | split
    | exact blk_at hM rfl rfl


theorem unlend_made {M : Nat} (hM : M ||| 1024 = M) {s0 : State} (s : State) (o : Op) (h : Made M s0 s) :
    Made M s0 (unlend s o) := by
  unfold unlend
  try dsimp only
  with_reducible repeat' first
    | intro _ | assumption | apply Made.set_ledger (mask_sub hM rfl)


theorem creditToken_made {M : Nat} (hM : M ||| 1088 = M) {s0 : State} (s : State) (c : Nat) (pool : Bool) (h : Made M s0 s) :
    Made M s0 (creditToken s c pool) := by
  unfold creditToken
  try dsimp only
  with_reducible repeat' first
    | intro _ | assumption | apply Made.ite | apply freeToken_made (mask_sub hM rfl) | apply setCtx_made (mask_sub hM rfl) | split


theorem complete_made {M : Nat} (hM : M ||| 9706824305538830614660326 = M) {s0 : State} (s : State) (o : Op) (r : Ret) (h : Made M s0 s) :
    Made M s0 (complete s o r) := by
  unfold complete
  try dsimp only
  with_reducible repeat' first
    | intro _ | assumption | apply unlend_made (mask_sub hM rfl) | apply remoteDone_made (mask_sub hM rfl) | apply freeToken_made (mask_sub hM rfl) | apply outcome_made (mask_sub hM rfl) | apply creditToken_made (mask_sub hM rfl) | split | apply Made.set_ops (mask_sub hM rfl)


theorem completeAll_made {M : Nat} (hM : M ||| 9706824305538830614660326 = M) {s0 : State} (s : State) (r : Ret) (x2 : List Op) (h : Made M s0 s) :
    Made M s0 (completeAll s r x2) := by
  induction x2 generalizing s r with
  | nil =>
    unfold completeAll
    try dsimp only
    with_reducible repeat' first
      | intro _ | assumption | apply complete_made (mask_sub hM rfl) | split
  | cons _ _ ih =>
    unfold completeAll
    try dsimp only
    with_reducible repeat' first
      | intro _ | assumption | apply ih | apply complete_made (mask_sub hM rfl) | split


end Sys2Proof.Machine
end

