-- ==== Sys2Proof/Laws/MadeHost.lean ====
section
/-! SUPPORT. Host.lean, operation by operation: the fields it leaves as they are, and that it keeps the stores canonical. -/
set_option linter.all false
namespace Sys2Proof.Machine
set_option Elab.async false

theorem tunRead_made {M : Nat} (hM : M ||| 28334198897492749189154 = M) {s0 : State} (s : State) (c : Nat) (id : Nat) (addr : Nat) (len : Nat) (h : Made M s0 s) :
    Made M s0 (tunRead s c id addr len) := by
  unfold tunRead
  try dsimp only
  with_reducible repeat' first
    | intro _ | assumption | apply sendMsg_made (mask_sub hM rfl)


theorem hostGet_made {M : Nat} (hM : M ||| 28334198897492749191202 = M) {s0 : State} (s : State) (use : ReadUse) (c : Nat) (addr : Nat) (len : Nat) (h : Made M s0 s) :
    Made M s0 (hostGet s use c addr len) := by
  unfold hostGet
  try dsimp only
  with_reducible repeat' first
    | intro _ | assumption | apply Made.ite | apply tunRead_made (mask_sub hM rfl) | apply emit_made (mask_sub hM rfl) | split | apply Made.set_hif (mask_sub hM rfl)


theorem badDoorbell_made {M : Nat} (hM : M ||| 2361183241434822606850 = M) {s0 : State} (s : State) (f : Fld) (b_f : M.testBit (64 + blockOf f.reg) = true) (h : Made M s0 s) :
    Made M s0 (badDoorbell s f) := by
  unfold badDoorbell
  try dsimp only
  repeat' first
    | with_reducible first | intro _ | assumption | apply satAdd_made (mask_sub hM rfl) | apply raise_made (mask_sub hM rfl)
    | assumption | exact blk_at hM rfl rfl


theorem fetchError_made {M : Nat} (hM : M ||| 9706824305538830614662242 = M) {s0 : State} (s : State) (c : Nat) (cause : Nat) (h : Made M s0 s) :
    Made M s0 (fetchError s c cause) := by
  unfold fetchError
  try dsimp only
  repeat' first
    | with_reducible first | intro _ | assumption | apply Made.ite | apply setCtx_made (mask_sub hM rfl) | apply devEvent_made (mask_sub hM rfl) | apply raise_made (mask_sub hM rfl) | apply setf_made (mask_sub hM rfl) | apply drainCheck_made (mask_sub hM rfl) | split
    | with_reducible exact blk_at hM (F.CTX_EVT_FETCH_ERR_blk _) rfl | with_reducible exact blk_at hM (F.CTX_STAT_CAUSE_blk _) rfl | with_reducible exact blk_at hM (F.CTX_STAT_STATE_blk _) rfl


theorem activate_made {M : Nat} (hM : M ||| 14167099448608935642178 = M) {s0 : State} (s : State) (c : Nat) (h : Made M s0 s) :
    Made M s0 (activate s c) := by
  unfold activate
  try dsimp only
  repeat' first
    | with_reducible first | intro _ | assumption | apply setCtx_made (mask_sub hM rfl) | apply setf_made (mask_sub hM rfl) | apply wr_made (mask_sub hM rfl) | apply Made.set_ledger (mask_sub hM rfl)
    | with_reducible exact blk_at hM (F.CTX_CTL_EN_blk _) rfl | with_reducible exact blk_at hM (F.CTX_STAT_STATE_blk _) rfl | with_reducible exact blk_at hM (R.CTX_CQ_IDX_blk _) rfl | with_reducible exact blk_at hM (R.CTX_SQ_IDX_blk _) rfl | exact blk_at hM rfl rfl


theorem execContextEnable_made {M : Nat} (hM : M ||| 9706824305538830614662242 = M) {s0 : State} (m : Master) (c : Fin 1024) (s : State) (h : Made M s0 s) :
    Ends M s0 (execContextEnable m c s) := by
  unfold execContextEnable
  try dsimp only
  repeat' first
    | with_reducible first | intro _ | assumption | apply Made.ite | apply Ends.ite | apply Ends.done | apply raise_made (mask_sub hM rfl) | apply devEvent_made (mask_sub hM rfl) | apply setf_made (mask_sub hM rfl) | apply activate_made (mask_sub hM rfl) | apply setCtx_made (mask_sub hM rfl) | split
    | with_reducible exact blk_at hM (F.CTX_CTL_EN_blk _) rfl | with_reducible exact blk_at hM (F.CTX_EVT_CFG_LOCKED_blk _) rfl | with_reducible exact blk_at hM (F.CTX_EVT_ENABLE_REFUSED_blk _) rfl | with_reducible exact blk_at hM (F.CTX_STAT_CAUSE_blk _) rfl


theorem discardCtx_made {M : Nat} (hM : M ||| 14167099448608935642178 = M) {s0 : State} (s : State) (c : Nat) (h : Made M s0 s) :
    Made M s0 (discardCtx s c) := by
  unfold discardCtx
  try dsimp only
  repeat' first
    | with_reducible first | intro _ | assumption | apply Made.ite | apply drainCheck_made (mask_sub hM rfl) | apply raise_made (mask_sub hM rfl) | apply setf_made (mask_sub hM rfl) | split
    | with_reducible exact blk_at hM (F.CTX_STAT_DISCARDING_blk _) rfl | with_reducible exact blk_at hM (F.CTX_STAT_STATE_blk _) rfl


theorem dropFetches_made {M : Nat} (hM : M ||| 2112 = M) {s0 : State} (s : State) (h : Made M s0 s) :
    Made M s0 (dropFetches s) := by
  unfold dropFetches
  try dsimp only
  with_reducible repeat' first
    | intro _ | assumption | apply Made.ite | split | apply Made.set_ctxs_hif (mask_sub hM rfl)


theorem execContextDisable_made {M : Nat} (hM : M ||| 14167099448608935642178 = M) {s0 : State} (m : Master) (c : Fin 1024) (s : State) (h : Made M s0 s) :
    Ends M s0 (execContextDisable m c s) := by
  unfold execContextDisable
  try dsimp only
  repeat' first
    | with_reducible first | intro _ | assumption | apply Made.ite | apply Ends.ite | apply Ends.done | apply raise_made (mask_sub hM rfl) | apply setf_made (mask_sub hM rfl) | apply drainCheck_made (mask_sub hM rfl) | apply setCtx_made (mask_sub hM rfl) | split
    | with_reducible exact blk_at hM (F.CTX_CTL_EN_blk _) rfl | with_reducible exact blk_at hM (F.CTX_EVT_CFG_LOCKED_blk _) rfl | with_reducible exact blk_at hM (F.CTX_STAT_STATE_blk _) rfl


theorem dropFetchRead_made {M : Nat} (hM : M ||| 2048 = M) {s0 : State} (s : State) (c : Nat) (h : Made M s0 s) :
    Made M s0 (dropFetchRead s c) := by
  unfold dropFetchRead
  try dsimp only
  with_reducible repeat' first
    | intro _ | assumption | apply Made.set_hif (mask_sub hM rfl)


theorem stageSlots_made {M : Nat} (hM : M ||| 33056565380362394402918 = M) {s0 : State} (s : State) (c : Nat) (first : Nat) (ds : List (List W32)) (h : Made M s0 s) :
    Made M s0 (stageSlots s c first ds) := by
  unfold stageSlots
  try dsimp only
  repeat' first
    | with_reducible first | intro _ | assumption | apply setCtx_made (mask_sub hM rfl) | apply latchWaits_made (mask_sub hM rfl) | apply writeBack_made (mask_sub hM rfl) | apply setf_made (mask_sub hM rfl)
    | with_reducible exact blk_at hM (F.CTX_SQ_IDX_SQ_CI_blk _) rfl


theorem fetchEnds_made {M : Nat} (hM : M ||| 9708004897159548025965670 = M) {s0 : State} (s : State) (c : Nat) (e : FetchEnd) (h : Made M s0 s) :
    Made M s0 (fetchEnds s c e) := by
  unfold fetchEnds
  try dsimp only
  with_reducible repeat' first
    | intro _ | assumption | apply Made.ite | apply dropFetchRead_made (mask_sub hM rfl) | apply fetchError_made (mask_sub hM rfl) | apply noteErr_made (mask_sub hM rfl) | apply stageSlots_made (mask_sub hM rfl) | apply drainCheck_made (mask_sub hM rfl) | apply setCtx_made (mask_sub hM rfl) | split


theorem execFetchComplete_made {M : Nat} (hM : M ||| 9708004897159548025965670 = M) {s0 : State} (c : Fin 1024) (e : FetchEnd) (s : State) (h : Made M s0 s) :
    Ends M s0 (execFetchComplete c e s) := by
  unfold execFetchComplete
  try dsimp only
  with_reducible repeat' first
    | intro _ | assumption | apply Ends.done | apply fetchEnds_made (mask_sub hM rfl)


theorem execLedgerAudit_made {M : Nat} (hM : M ||| 9444732965739290428418 = M) {s0 : State} (chain : List Nat) (s : State) (h : Made M s0 s) :
    Ends M s0 (execLedgerAudit chain s) := by
  unfold execLedgerAudit
  try dsimp only
  repeat' first
    | with_reducible first | intro _ | assumption | apply Made.ite | apply Ends.ite | apply Ends.done | apply satAdd_made (mask_sub hM rfl) | apply raise_made (mask_sub hM rfl) | split | apply Made.set_ledger (mask_sub hM rfl)
    | exact blk_at hM rfl rfl


theorem lateReply_made {M : Nat} (hM : M ||| 73786976294838247426 = M) {s0 : State} (s : State) (d : Nat) (opcode : Nat) (h : Made M s0 s) :
    Made M s0 (lateReply s d opcode) := by
  unfold lateReply
  try dsimp only
  repeat' first
    | with_reducible first | intro _ | assumption | apply Made.ite | apply satAdd_made (mask_sub hM rfl) | apply setDom_made (mask_sub hM rfl) | apply logEvent_made (mask_sub hM rfl) | split
    | with_reducible exact blk_at hM (F.RST_DOM_STAT_DISCARDS_blk _) rfl


theorem execLdgCtlWrite_made {M : Nat} (hM : M ||| 9702120385800034678999074 = M) {s0 : State} (data : W32) (s : State) (h : Made M s0 s) :
    Ends M s0 (execLdgCtlWrite data s) := by
  unfold execLdgCtlWrite
  try dsimp only
  repeat' first
    | with_reducible first | intro _ | assumption | apply Made.ite | apply Ends.ite | apply Ends.done | apply alarmUpdate_made (mask_sub hM rfl) | apply setf_made (mask_sub hM rfl) | split
    | exact blk_at hM rfl rfl


theorem execAuditChainRelook_made {M : Nat} (hM : M ||| 9706842752282904324213858 = M) {s0 : State} (i : Fin 8) (counted : Nat) (s : State) (h : Made M s0 s) :
    Ends M s0 (execAuditChainRelook i counted s) := by
  unfold execAuditChainRelook
  try dsimp only
  with_reducible repeat' first
    | intro _ | assumption | apply Made.ite | apply Ends.ite | apply Ends.done | apply ledgerFault_made (mask_sub hM rfl) | split | apply Made.set_ledger (mask_sub hM rfl)


theorem execFence_made {M : Nat} (hM : M ||| 8589934720 = M) {s0 : State} (tag : Nat) (us : Nat) (s : State) (h : Made M s0 s) :
    Ends M s0 (execFence tag us s) := by
  unfold execFence
  try dsimp only
  with_reducible repeat' first
    | intro _ | assumption | apply Made.ite | apply Ends.ite | apply Ends.done | apply giveRet_made (mask_sub hM rfl) | split


theorem execDoorbellCqCi_made {M : Nat} (hM : M ||| 73196680485304134533154 = M) {s0 : State} (m : Master) (bar2 : Bool) (c : Fin 1024) (i : Nat) (s : State) (h : Made M s0 s) :
    Ends M s0 (execDoorbellCqCi m bar2 c i s) := by
  unfold execDoorbellCqCi
  try dsimp only
  repeat' first
    | with_reducible first | intro _ | assumption | apply Made.ite | apply Ends.ite | apply Ends.done | apply satAdd_made (mask_sub hM rfl) | apply badDoorbell_made (mask_sub hM rfl) | apply nakWake_made (mask_sub hM rfl) | apply setf_made (mask_sub hM rfl) | split
    | with_reducible exact blk_at hM (F.CTX_CQ_IDX_CQ_CI_blk _) rfl | with_reducible exact blk_at hM (F.CTX_EVT_DB_BAD_blk _) rfl | with_reducible exact blk_at hM (F.CTX_EVT_DB_DENIED_blk _) rfl | exact blk_at hM rfl rfl


theorem execDoorbellSqPi_made {M : Nat} (hM : M ||| 73196680485304134533154 = M) {s0 : State} (m : Master) (bar2 : Bool) (c : Fin 1024) (i : Nat) (s : State) (h : Made M s0 s) :
    Ends M s0 (execDoorbellSqPi m bar2 c i s) := by
  unfold execDoorbellSqPi
  try dsimp only
  repeat' first
    | with_reducible first | intro _ | assumption | apply Made.ite | apply Ends.ite | apply Ends.done | apply satAdd_made (mask_sub hM rfl) | apply badDoorbell_made (mask_sub hM rfl) | apply nakWake_made (mask_sub hM rfl) | apply setf_made (mask_sub hM rfl) | split
    | with_reducible exact blk_at hM (F.CTX_EVT_DB_BAD_blk _) rfl | with_reducible exact blk_at hM (F.CTX_EVT_DB_DENIED_blk _) rfl | with_reducible exact blk_at hM (F.CTX_SQ_IDX_SQ_PI_blk _) rfl | exact blk_at hM rfl rfl


theorem execLdgBufLend_made {M : Nat} (hM : M ||| 9444732965739290427394 = M) {s0 : State} (first : Nat) (last : Nat) (s : State) (h : Made M s0 s) :
    Ends M s0 (execLdgBufLend first last s) := by
  unfold execLdgBufLend
  try dsimp only
  repeat' first
    | with_reducible first | intro _ | assumption | apply Made.ite | apply Ends.ite | apply Ends.done | apply raise_made (mask_sub hM rfl) | apply setf_made (mask_sub hM rfl) | split
    | exact blk_at hM rfl rfl


theorem execAuditCompareDone_made {M : Nat} (hM : M ||| 9706842752282904324738146 = M) {s0 : State} (s : State) (h : Made M s0 s) :
    Ends M s0 (execAuditCompareDone s) := by
  unfold execAuditCompareDone
  try dsimp only
  repeat' first
    | with_reducible first | intro _ | assumption | apply Made.ite | apply Ends.ite | apply Ends.done | apply satAdd_made (mask_sub hM rfl) | apply wrapAdd_made (mask_sub hM rfl) | apply setf_made (mask_sub hM rfl) | apply ledgerFault_made (mask_sub hM rfl) | apply release_made (mask_sub hM rfl) | apply Made.foldl | split | apply Made.set_ledger (mask_sub hM rfl)
    | exact blk_at hM rfl rfl


theorem execLdgRelease_made {M : Nat} (hM : M ||| 9706842752282904324738146 = M) {s0 : State} (key : Nat) (s : State) (h : Made M s0 s) :
    Ends M s0 (execLdgRelease key s) := by
  unfold execLdgRelease
  try dsimp only
  with_reducible repeat' first
    | intro _ | assumption | apply Made.ite | apply Ends.ite | apply Ends.done | apply release_made (mask_sub hM rfl) | split | apply Made.set_ledger (mask_sub hM rfl)


theorem sendHeldDev_made {M : Nat} (hM : M ||| 30695382138927571798050 = M) {s0 : State} (s : State) (h : Made M s0 s) :
    Made M s0 (sendHeldDev s) := by
  unfold sendHeldDev
  try dsimp only
  with_reducible repeat' first
    | intro _ | assumption | apply Made.ite | apply sendDev_made (mask_sub hM rfl) | apply Made.foldl | split


theorem execReturnAccepted_made {M : Nat} (hM : M ||| 9706898092515125452907750 = M) {s0 : State} (tag : Nat) (d : Fin 24) (opcode : Nat) (s : State) (h : Made M s0 s) :
    Ends M s0 (execReturnAccepted tag d opcode s) := by
  unfold execReturnAccepted
  try dsimp only
  with_reducible repeat' first
    | intro _ | assumption | apply Made.ite | apply Ends.ite | apply Ends.done | apply lateReply_made (mask_sub hM rfl) | apply complete_made (mask_sub hM rfl) | split


theorem execFenceTimeout_made {M : Nat} (hM : M ||| 9706824305538830614660198 = M) {s0 : State} (c : Fin 1024) (s : State) (h : Made M s0 s) :
    Ends M s0 (execFenceTimeout c s) := by
  unfold execFenceTimeout
  try dsimp only
  with_reducible repeat' first
    | intro _ | assumption | apply Made.ite | apply Ends.ite | apply Ends.done | apply refuse_made (mask_sub hM rfl) | apply setCtx_made (mask_sub hM rfl) | apply drainCheck_made (mask_sub hM rfl) | apply latchWaits_made (mask_sub hM rfl) | split


theorem execFetch_made {M : Nat} (hM : M ||| 28334198897492749191266 = M) {s0 : State} (c : Fin 1024) (n : Nat) (s : State) (h : Made M s0 s) :
    Ends M s0 (execFetch c n s) := by
  unfold execFetch
  try dsimp only
  with_reducible repeat' first
    | intro _ | assumption | apply Made.ite | apply Ends.ite | apply Ends.done | apply setCtx_made (mask_sub hM rfl) | apply hostGet_made (mask_sub hM rfl) | split


theorem flushRecs_made {M : Nat} (hM : M ||| 9706824305538830614659174 = M) {s0 : State} (s : State) (c : Nat) (x2 : List Rec) (h : Made M s0 s) :
    Made M s0 (flushRecs s c x2) := by
  induction x2 generalizing s c with
  | nil =>
    unfold flushRecs
    try dsimp only
    with_reducible repeat' first
      | intro _ | assumption | apply putRec_made (mask_sub hM rfl) | split
  | cons _ _ ih =>
    unfold flushRecs
    try dsimp only
    with_reducible repeat' first
      | intro _ | assumption | apply ih | apply putRec_made (mask_sub hM rfl) | split


theorem execMsixUnmask_made {M : Nat} (hM : M ||| 2361183241434822606882 = M) {s0 : State} (v : Fin 1056) (s : State) (h : Made M s0 s) :
    Ends M s0 (execMsixUnmask v s) := by
  unfold execMsixUnmask
  try dsimp only
  repeat' first
    | with_reducible first | intro _ | assumption | apply Made.ite | apply Ends.ite | apply Ends.done | apply wr_made (mask_sub hM rfl) | apply sendVec_made (mask_sub hM rfl) | split
    | with_reducible exact blk_at hM (R.HIF_MSIX_blk _ _) rfl | with_reducible exact blk_at hM (R.HIF_PBA_blk _) rfl


theorem execModTimeExpiry_made {M : Nat} (hM : M ||| 30695382138927571796066 = M) {s0 : State} (c : Fin 1024) (s : State) (h : Made M s0 s) :
    Ends M s0 (execModTimeExpiry c s) := by
  unfold execModTimeExpiry
  try dsimp only
  with_reducible repeat' first
    | intro _ | assumption | apply Made.ite | apply Ends.ite | apply Ends.done | apply sendCtxInt_made (mask_sub hM rfl) | split


theorem flushCtx_made {M : Nat} (hM : M ||| 9706824305538830614660198 = M) {s0 : State} (s : State) (c : Nat) (h : Made M s0 s) :
    Made M s0 (flushCtx s c) := by
  unfold flushCtx
  try dsimp only
  with_reducible repeat' first
    | intro _ | assumption | apply drainCheck_made (mask_sub hM rfl) | apply flushRecs_made (mask_sub hM rfl) | apply setCtx_made (mask_sub hM rfl)


theorem rmtDispatch_made {M : Nat} (hM : M ||| 30695382138927571797410 = M) {s0 : State} (s : State) (m : Msg) (h : Made M s0 s) :
    Made M s0 (rmtDispatch s m) := by
  unfold rmtDispatch
  try dsimp only
  repeat' first
    | with_reducible first | intro _ | assumption | apply Made.ite | apply remoteDone_made (mask_sub hM rfl) | apply satAdd_made (mask_sub hM rfl) | apply lend_made (mask_sub hM rfl) | split | apply Made.set_ledger (mask_sub hM rfl) | apply Made.set_ops_nextTag (mask_sub hM rfl)
    | exact blk_at hM rfl rfl


theorem remoteTurn_made {M : Nat} (hM : M ||| 30695382139477327611298 = M) {s0 : State} (s : State) (h : Made M s0 s) :
    Made M s0 (remoteTurn s) := by
  unfold remoteTurn
  try dsimp only
  with_reducible repeat' first
    | intro _ | assumption | apply Made.ite | apply rmtDispatch_made (mask_sub hM rfl) | split | apply Made.set_enu (mask_sub hM rfl)


theorem execDispatch_made {M : Nat} (hM : M ||| 9706824305539380370474982 = M) {s0 : State} (s : State) (h : Made M s0 s) :
    Ends M s0 (execDispatch s) := by
  unfold execDispatch
  try dsimp only
  with_reducible repeat' first
    | intro _ | assumption | apply Made.ite | apply Ends.ite | apply Ends.done | apply countWaits_made (mask_sub hM rfl) | apply remoteTurn_made (mask_sub hM rfl) | apply dispatchCtx_made (mask_sub hM rfl) | apply advanceRound_made (mask_sub hM rfl) | apply countClassWaits_made (mask_sub hM rfl) | split


theorem applyReturn_made {M : Nat} (hM : M ||| 9706824305538830614662246 = M) {s0 : State} (s : State) (h : Made M s0 s) :
    Made M s0 (applyReturn s) := by
  unfold applyReturn
  try dsimp only
  with_reducible repeat' first
    | intro _ | assumption | apply Made.ite | apply sendHeldDev_made (mask_sub hM rfl) | apply devEvent_made (mask_sub hM rfl) | apply flushCtx_made (mask_sub hM rfl) | apply Made.foldl


theorem execNop_made {M : Nat} (hM : M ||| 8589934720 = M) {s0 : State} (tag : Nat) (s : State) (h : Made M s0 s) :
    Ends M s0 (execNop tag s) := by
  unfold execNop
  try dsimp only
  with_reducible repeat' first
    | intro _ | assumption | apply Made.ite | apply Ends.ite | apply Ends.done | apply giveRet_made (mask_sub hM rfl) | split


theorem dropRead_made {M : Nat} (hM : M ||| 2048 = M) {s0 : State} (s : State) (id : Nat) (h : Made M s0 s) :
    Made M s0 (dropRead s id) := by
  unfold dropRead
  try dsimp only
  with_reducible repeat' first
    | intro _ | assumption | apply Made.set_hif (mask_sub hM rfl)


theorem applyLoss_made {M : Nat} (hM : M ||| 14167099448608935644226 = M) {s0 : State} (s : State) (h : Made M s0 s) :
    Made M s0 (applyLoss s) := by
  unfold applyLoss
  try dsimp only
  with_reducible repeat' first
    | intro _ | assumption | apply Made.ite | apply dropFetches_made (mask_sub hM rfl) | apply discardCtx_made (mask_sub hM rfl) | apply Made.foldl | split


end Sys2Proof.Machine
end

