-- ==== Sys2Proof/Laws/MadeMover.lean ====
section
/-! SUPPORT. Mover.lean, operation by operation: the fields it leaves as they are, and that it keeps the stores canonical. -/
set_option linter.all false
namespace Sys2Proof.Machine
set_option Elab.async false

theorem moverPut_made {M : Nat} (hM : M ||| 28334199741917679321126 = M) {s0 : State} (s : State) (c : Nat) (dspace : Bool) (a : Nat) (bs : List Byte) (h : Made M s0 s) :
    Made M s0 (moverPut s c dspace a bs).1 := by
  unfold moverPut
  try dsimp only
  with_reducible repeat' first
    | intro _ | refine Made.of_pair (by assumption) ?_ | assumption | apply Made.ite | apply writeBytes_made (mask_sub hM rfl) | apply hostPut_made (mask_sub hM rfl) | apply Made.ite_fst | split


theorem noteOpt_made {M : Nat} (hM : M ||| 9703282530676678380750882 = M) {s0 : State} (s : State) (x1 : Option Err) (h : Made M s0 s) :
    Made M s0 (noteOpt s x1) := by
  unfold noteOpt
  try dsimp only
  with_reducible repeat' first
    | intro _ | assumption | apply noteErr_made (mask_sub hM rfl) | split


theorem takeFill_made {M : Nat} (hM : M ||| 9703282531521111900817574 = M) {s0 : State} (tag : Nat) (s : State) (h : Made M s0 s) :
    Ends M s0 (takeFill tag s) := by
  unfold takeFill
  try dsimp only
  with_reducible repeat' first
    | intro _ | refine Made.of_pair (by assumption) ?_ | assumption | apply Made.ite | apply Ends.ite | apply Ends.done | apply moverPut_made (mask_sub hM rfl) | apply giveRet_made (mask_sub hM rfl) | apply noteOpt_made (mask_sub hM rfl) | apply Made.ite_fst | split


theorem takeCopy_made {M : Nat} (hM : M ||| 164446377738004004968859830 = M) {s0 : State} (tag : Nat) (s : State) (h : Made M s0 s) :
    Ends M s0 (takeCopy tag s) := by
  unfold takeCopy
  try dsimp only
  with_reducible repeat' first
    | intro _ | refine Made.of_pair (by assumption) ?_ | assumption | apply Made.ite | apply Ends.ite | apply Ends.done | apply noteRead_made (mask_sub hM rfl) | apply drawn_made (mask_sub hM rfl) | apply moverPut_made (mask_sub hM rfl) | apply giveRet_made (mask_sub hM rfl) | apply noteOpt_made (mask_sub hM rfl) | apply hostGet_made (mask_sub hM rfl) | apply setOp_made (mask_sub hM rfl) | apply Made.ite_fst | split


theorem copyData_made {M : Nat} (hM : M ||| 9703282531521111900817574 = M) {s0 : State} (s : State) (o : Op) (bs : List Byte) (h : Made M s0 s) :
    Made M s0 (copyData s o bs) := by
  unfold copyData
  try dsimp only
  with_reducible repeat' first
    | intro _ | refine Made.of_pair (by assumption) ?_ | assumption | apply Made.ite | apply moverPut_made (mask_sub hM rfl) | apply giveRet_made (mask_sub hM rfl) | apply noteOpt_made (mask_sub hM rfl) | apply setOp_made (mask_sub hM rfl) | apply Made.ite_fst | split


end Sys2Proof.Machine
end

