-- ==== Sys2Proof/Laws/MadeFence.lean ====
section
/-! SUPPORT. Fence.lean, operation by operation: the fields it leaves as they are, and that it keeps the stores canonical. -/
set_option linter.all false
namespace Sys2Proof.Machine
set_option Elab.async false

theorem closeFence_made {M : Nat} (hM : M ||| 1254378597012249550850 = M) {s0 : State} (s : State) (d : Nat) (hq : Nat) (drain : Nat) (h : Made M s0 s) :
    Made M s0 (closeFence s d hq drain) := by
  unfold closeFence
  try dsimp only
  repeat' first
    | with_reducible first | intro _ | assumption | apply Made.ite | apply setDom_made (mask_sub hM rfl) | apply setDomBit_made (mask_sub hM rfl) | apply setf_made (mask_sub hM rfl) | apply logEvent_made (mask_sub hM rfl) | split
    | exact blk_at hM rfl rfl


theorem holdFence_made {M : Nat} (hM : M ||| 1254378597012249550850 = M) {s0 : State} (s : State) (d : Nat) (src : Nat) (h : Made M s0 s) :
    Made M s0 (holdFence s d src) := by
  unfold holdFence
  try dsimp only
  with_reducible repeat' first
    | intro _ | assumption | apply Made.ite | apply closeFence_made (mask_sub hM rfl) | apply setDom_made (mask_sub hM rfl) | split


theorem askHold_made {M : Nat} (hM : M ||| 1254378597012249550850 = M) {s0 : State} (s : State) (d : Nat) (src : Nat) (h : Made M s0 s) :
    Made M s0 (askHold s d src) := by
  unfold askHold
  try dsimp only
  with_reducible repeat' first
    | intro _ | assumption | apply Made.ite | apply setDom_made (mask_sub hM rfl) | apply holdFence_made (mask_sub hM rfl) | split


theorem reopen_made {M : Nat} (hM : M ||| 1254378597012249550850 = M) {s0 : State} (s : State) (d : Nat) (h : Made M s0 s) :
    Made M s0 (reopen s d) := by
  unfold reopen
  try dsimp only
  repeat' first
    | with_reducible first | intro _ | assumption | apply Made.ite | apply setDomBit_made (mask_sub hM rfl) | apply setf_made (mask_sub hM rfl) | apply logEvent_made (mask_sub hM rfl) | apply setDom_made (mask_sub hM rfl) | split
    | exact blk_at hM rfl rfl


theorem tryReopen_made {M : Nat} (hM : M ||| 1254378597012249550850 = M) {s0 : State} (s : State) (d : Nat) (h : Made M s0 s) :
    Made M s0 (tryReopen s d) := by
  unfold tryReopen
  try dsimp only
  with_reducible repeat' first
    | intro _ | assumption | apply Made.ite | apply reopen_made (mask_sub hM rfl) | split


theorem releaseHolder_made {M : Nat} (hM : M ||| 1254378597012249550850 = M) {s0 : State} (s : State) (d : Nat) (hq : Nat) (h : Made M s0 s) :
    Made M s0 (releaseHolder s d hq) := by
  unfold releaseHolder
  try dsimp only
  with_reducible repeat' first
    | intro _ | assumption | apply tryReopen_made (mask_sub hM rfl) | apply setDom_made (mask_sub hM rfl)


theorem requestReset_made {M : Nat} (hM : M ||| 1254378597012249550850 = M) {s0 : State} (s : State) (d : Nat) (src : Nat) (drain : Nat) (again : Bool) (h : Made M s0 s) :
    Made M s0 (requestReset s d src drain again) := by
  unfold requestReset
  try dsimp only
  with_reducible repeat' first
    | intro _ | assumption | apply Made.ite | apply closeFence_made (mask_sub hM rfl) | apply setDom_made (mask_sub hM rfl) | split


theorem askReset_made {M : Nat} (hM : M ||| 1254378597012249550850 = M) {s0 : State} (s : State) (d : Nat) (src : Nat) (h : Made M s0 s) :
    Made M s0 (askReset s d src) := by
  unfold askReset
  try dsimp only
  repeat' first
    | with_reducible first | intro _ | assumption | apply Made.ite | apply setDomBit_made (mask_sub hM rfl) | apply setDom_made (mask_sub hM rfl) | apply requestReset_made (mask_sub hM rfl) | split
    | exact blk_at hM rfl rfl


theorem askPending_made {M : Nat} (hM : M ||| 1254378597012249550850 = M) {s0 : State} (s : State) (d : Nat) (h : Made M s0 s) :
    Made M s0 (askPending s d) := by
  unfold askPending
  try dsimp only
  with_reducible repeat' first
    | intro _ | assumption | apply Made.ite | apply setDom_made (mask_sub hM rfl) | apply holdFence_made (mask_sub hM rfl) | apply requestReset_made (mask_sub hM rfl) | split


theorem askAllPending_made {M : Nat} (hM : M ||| 1254378597012249550850 = M) {s0 : State} (s : State) (h : Made M s0 s) :
    Made M s0 (askAllPending s) := by
  unfold askAllPending
  try dsimp only
  with_reducible repeat' first
    | intro _ | assumption | apply askPending_made (mask_sub hM rfl) | apply Made.foldl


theorem releaseDom_made {M : Nat} (hM : M ||| 73786976294838214658 = M) {s0 : State} (s : State) (d : Nat) (h : Made M s0 s) :
    Made M s0 (releaseDom s d) := by
  unfold releaseDom
  try dsimp only
  repeat' first
    | with_reducible first | intro _ | assumption | apply Made.ite | apply setDomBit_made (mask_sub hM rfl) | apply setDom_made (mask_sub hM rfl) | split
    | exact blk_at hM rfl rfl


theorem showBank_made {M : Nat} (hM : M ||| 1180591620717411303426 = M) {s0 : State} (s : State) (n : Nat) (h : Made M s0 s) :
    Made M s0 (showBank s n) := by
  unfold showBank
  try dsimp only
  repeat' first
    | with_reducible first | intro _ | assumption | apply setf_made (mask_sub hM rfl)
    | with_reducible exact blk_at hM (F.BNK_STAT_STATE_blk _) rfl | exact blk_at hM rfl rfl


theorem setBankSt_made {M : Nat} (hM : M ||| 1180591620717411319810 = M) {s0 : State} (s : State) (n : Nat) (st : Nat) (h : Made M s0 s) :
    Made M s0 (setBankSt s n st) := by
  unfold setBankSt
  try dsimp only
  with_reducible repeat' first
    | intro _ | assumption | apply showBank_made (mask_sub hM rfl) | apply setBank_made (mask_sub hM rfl)


theorem domainReady_made {M : Nat} (hM : M ||| 1254378597012249550850 = M) {s0 : State} (s : State) (d : Nat) (h : Made M s0 s) :
    Made M s0 (domainReady s d) := by
  unfold domainReady
  try dsimp only
  repeat' first
    | with_reducible first | intro _ | assumption | apply Made.ite | apply setDomBit_made (mask_sub hM rfl) | apply tryReopen_made (mask_sub hM rfl) | apply setDom_made (mask_sub hM rfl) | split
    | exact blk_at hM rfl rfl


end Sys2Proof.Machine
end

