-- ==== Sys2Proof/Laws/MadeBanks.lean ====
section
/-! SUPPORT. Banks.lean, operation by operation: the fields it leaves as they are, and that it keeps the stores canonical. -/
set_option linter.all false
namespace Sys2Proof.Machine
set_option Elab.async false

theorem writeBeat_made {M : Nat} (hM : M ||| 844424930131972 = M) {s0 : State} (s : State) (a : Nat) (x2 : List Byte) (x3 : List Bool) (h : Made M s0 s) :
    Made M s0 (writeBeat s a x2 x3) := by
  induction x2 generalizing s a x3 with
  | nil =>
    unfold writeBeat
    try dsimp only
    with_reducible repeat' first
      | intro _ | assumption | apply Made.ite | apply storeByte_made (mask_sub hM rfl) | split
  | cons _ _ ih =>
    unfold writeBeat
    try dsimp only
    with_reducible repeat' first
      | intro _ | assumption | apply ih | apply Made.ite | apply storeByte_made (mask_sub hM rfl) | split


theorem noteBusy_made {M : Nat} (hM : M ||| 128 = M) {s0 : State} (s : State) (m : Nat) (h : Made M s0 s) :
    Made M s0 (noteBusy s m) := by
  unfold noteBusy
  try dsimp only
  with_reducible repeat' first
    | intro _ | assumption | apply Made.ite | split | apply Made.set_ops (mask_sub hM rfl)


theorem serve_made {M : Nat} (hM : M ||| 844424930132148 = M) {s0 : State} (s : State) (x1 : BankAcc) (busy : Bool) (h : Made M s0 s) :
    Made M s0 (serve s x1 busy) := by
  unfold serve
  try dsimp only
  with_reducible repeat' first
    | intro _ | assumption | apply Made.ite | apply writeBeat_made (mask_sub hM rfl) | apply emit_made (mask_sub hM rfl) | apply drawn_made (mask_sub hM rfl) | apply noteBusy_made (mask_sub hM rfl) | split


theorem startMarch_made {M : Nat} (hM : M ||| 1180591620717411319810 = M) {s0 : State} (s : State) (n : Nat) (mode : Nat) (op : Option Nat) (h : Made M s0 s) :
    Made M s0 (startMarch s n mode op) := by
  unfold startMarch
  try dsimp only
  repeat' first
    | with_reducible first | intro _ | assumption | apply setBank_made (mask_sub hM rfl) | apply setf_made (mask_sub hM rfl)
    | with_reducible exact blk_at hM (F.BNK_STAT_MARCH_blk _) rfl | with_reducible exact blk_at hM (F.BNK_STAT_ROW_blk _) rfl


theorem execBnkFuseProg_made {M : Nat} (hM : M ||| 1180591620717411319810 = M) {s0 : State} (n : Fin 8) (e : Fin 8) (slice : Fin 8) (bitPos : Fin 128) (key : Nat) (s : State) (h : Made M s0 s) :
    Ends M s0 (execBnkFuseProg n e slice bitPos key s) := by
  unfold execBnkFuseProg
  try dsimp only
  repeat' first
    | with_reducible first | intro _ | assumption | apply Made.ite | apply Ends.ite | apply Ends.done | apply raise_made (mask_sub hM rfl) | apply setBank_made (mask_sub hM rfl) | split
    | with_reducible exact blk_at hM (F.BNK_EVT_FUSE_DENIED_blk _) rfl


theorem countColl_made {M : Nat} (hM : M ||| 1180591620717411303426 = M) {s0 : State} (s : State) (n : Nat) (h : Made M s0 s) :
    Made M s0 (countColl s n) := by
  unfold countColl
  try dsimp only
  repeat' first
    | with_reducible first | intro _ | assumption | apply satAdd_made (mask_sub hM rfl)
    | with_reducible exact blk_at hM (F.BNK_COLL_COLL_blk _) rfl


theorem refuseAcc_made {M : Nat} (hM : M ||| 164445787441349212743141410 = M) {s0 : State} (s : State) (x1 : BankAcc) (e : Err) (h : Made M s0 s) :
    Made M s0 (refuseAcc s x1 e) := by
  unfold refuseAcc
  try dsimp only
  repeat' first
    | with_reducible first | intro _ | assumption | apply Made.ite | apply noteErr_made (mask_sub hM rfl) | apply satAdd_made (mask_sub hM rfl) | apply emit_made (mask_sub hM rfl) | split
    | with_reducible exact blk_at hM (F.FAB_SOCK_ERRS_blk _) rfl


theorem serveSame_made {M : Nat} (hM : M ||| 1180592465142341435574 = M) {s0 : State} (s : State) (n : Nat) (x2 : BankAcc) (y : BankAcc) (h : Made M s0 s) :
    Made M s0 (serveSame s n x2 y) := by
  unfold serveSame
  try dsimp only
  repeat' first
    | with_reducible first | intro _ | assumption | apply Made.ite | apply serve_made (mask_sub hM rfl) | apply satAdd_made (mask_sub hM rfl) | apply countColl_made (mask_sub hM rfl) | split
    | with_reducible exact blk_at hM (F.BNK_COLL_LOCKWAIT_blk _) rfl


theorem bankTurn_made {M : Nat} (hM : M ||| 1180592465142341451958 = M) {s0 : State} (s : State) (n : Nat) (a : Option BankAcc) (b : Option BankAcc) (aFirst : Bool) (h : Made M s0 s) :
    Made M s0 (bankTurn s n a b aFirst) := by
  unfold bankTurn
  try dsimp only
  repeat' first
    | with_reducible first | intro _ | assumption | apply Made.ite | apply serve_made (mask_sub hM rfl) | apply setBank_made (mask_sub hM rfl) | apply maxTo_made (mask_sub hM rfl) | apply satAdd_made (mask_sub hM rfl) | apply serveSame_made (mask_sub hM rfl) | split
    | with_reducible exact blk_at hM (F.BNK_MAXWAIT_TURNS_blk _) rfl | with_reducible exact blk_at hM (F.BNK_STARVE_STARVE_blk _) rfl


theorem execBankAccess_made {M : Nat} (hM : M ||| 164445787442193637673289910 = M) {s0 : State} (n : Fin 8) (a : Option BankAcc) (b : Option BankAcc) (aFirst : Bool) (s : State) (h : Made M s0 s) :
    Ends M s0 (execBankAccess n a b aFirst s) := by
  unfold execBankAccess
  try dsimp only
  with_reducible repeat' first
    | intro _ | assumption | apply Ends.done | apply refuseAcc_made (mask_sub hM rfl) | apply setBank_made (mask_sub hM rfl) | apply bankTurn_made (mask_sub hM rfl) | split


theorem execAliasWrite_made {M : Nat} (hM : M ||| 9703282531521103310882854 = M) {s0 : State} (clear : Bool) (addr : Fin 8388608) (data : List Byte) (be : List Bool) (waits : Nat) (s : State) (h : Made M s0 s) :
    Ends M s0 (execAliasWrite clear addr data be waits s) := by
  unfold execAliasWrite
  try dsimp only
  repeat' first
    | with_reducible first | intro _ | assumption | apply Made.ite | apply Ends.ite | apply Ends.done | apply noteErr_made (mask_sub hM rfl) | apply writeBeat_made (mask_sub hM rfl) | apply satAdd_made (mask_sub hM rfl) | split
    | with_reducible exact blk_at hM (F.BNK_COLL_LOCKWAIT_blk _) rfl


theorem marchDone_made {M : Nat} (hM : M ||| 9703374764397055518501038 = M) {s0 : State} (n : Fin 8) (faults : Nat) (element : Nat) (addr : Nat) (bits : List W32) (shadow : Bool) (s : State) (h : Made M s0 s) :
    Made M s0 (marchDone n faults element addr bits shadow s) := by
  unfold marchDone
  try dsimp only
  repeat' first
    | with_reducible first | intro _ | assumption | apply Made.ite | apply setBank_made (mask_sub hM rfl) | apply setf_made (mask_sub hM rfl) | apply zeroBank_made (mask_sub hM rfl) | apply wr_made (mask_sub hM rfl) | apply raiseAlarm_made (mask_sub hM rfl) | apply giveRet_made (mask_sub hM rfl) | apply releaseHolder_made (mask_sub hM rfl) | apply Made.foldl | split
    | with_reducible exact blk_at hM (F.BNK_EVT_FAULT_blk _) rfl | with_reducible exact blk_at hM (F.BNK_MRES_DONE_blk _) rfl | with_reducible exact blk_at hM (F.BNK_MRES_ELEMENT_blk _) rfl | with_reducible exact blk_at hM (F.BNK_MRES_FAULTS_blk _) rfl | with_reducible exact blk_at hM (F.BNK_MRES_MODE_blk _) rfl | with_reducible exact blk_at hM (F.BNK_MRES_SHADOW_FAIL_blk _) rfl | with_reducible exact blk_at hM (F.BNK_STAT_MARCH_blk _) rfl | with_reducible exact blk_at hM (F.BNK_STAT_ROW_blk _) rfl | with_reducible exact blk_at hM (R.BNK_MADDR_blk _) rfl | with_reducible exact blk_at hM (R.BNK_MBIT_blk _ _) rfl | exact blk_at hM rfl rfl


theorem stepDone_made {M : Nat} (hM : M ||| 1180591620717411319822 = M) {s0 : State} (s : State) (n : Nat) (h : Made M s0 s) :
    Made M s0 (stepDone s n) := by
  unfold stepDone
  try dsimp only
  with_reducible repeat' first
    | intro _ | assumption | apply Made.ite | apply setBankSt_made (mask_sub hM rfl) | apply setBank_made (mask_sub hM rfl) | apply loseBank_made (mask_sub hM rfl) | split


theorem bankStepDone_made {M : Nat} (hM : M ||| 1254378597020839501966 = M) {s0 : State} (s : State) (n : Nat) (us : Nat) (h : Made M s0 s) :
    Made M s0 (bankStepDone s n us) := by
  unfold bankStepDone
  try dsimp only
  with_reducible repeat' first
    | intro _ | assumption | apply Made.ite | apply stepDone_made (mask_sub hM rfl) | apply giveRet_made (mask_sub hM rfl) | apply releaseHolder_made (mask_sub hM rfl) | split


theorem execFuseBlowDone_made {M : Nat} (hM : M ||| 1180591620717411319810 = M) {s0 : State} (n : Fin 8) (s : State) (h : Made M s0 s) :
    Ends M s0 (execFuseBlowDone n s) := by
  unfold execFuseBlowDone
  try dsimp only
  repeat' first
    | with_reducible first | intro _ | assumption | apply Ends.done | apply setBank_made (mask_sub hM rfl) | apply setf_made (mask_sub hM rfl) | apply raise_made (mask_sub hM rfl) | split
    | with_reducible exact blk_at hM (F.BNK_EVT_FUSE_DONE_blk _) rfl | with_reducible exact blk_at hM (F.BNK_FUSE_BIT_blk _ _) rfl | with_reducible exact blk_at hM (F.BNK_FUSE_SLICE_blk _ _) rfl | with_reducible exact blk_at hM (F.BNK_FUSE_VALID_blk _ _) rfl


theorem beginStep_made {M : Nat} (hM : M ||| 1180591620717411319810 = M) {s0 : State} (s : State) (n : Nat) (target : Nat) (op : Option Nat) (h : Made M s0 s) :
    Made M s0 (beginStep s n target op) := by
  unfold beginStep
  try dsimp only
  with_reducible repeat' first
    | intro _ | assumption | apply setBankSt_made (mask_sub hM rfl) | apply setBank_made (mask_sub hM rfl)


theorem execBnkPower_made {M : Nat} (hM : M ||| 1254378597020839501954 = M) {s0 : State} (tag : Nat) (s : State) (h : Made M s0 s) :
    Ends M s0 (execBnkPower tag s) := by
  unfold execBnkPower
  try dsimp only
  with_reducible repeat' first
    | intro _ | assumption | apply Made.ite | apply Ends.ite | apply Ends.done | apply giveRet_made (mask_sub hM rfl) | apply closeFence_made (mask_sub hM rfl) | apply setOp_made (mask_sub hM rfl) | apply setBank_made (mask_sub hM rfl) | apply beginStep_made (mask_sub hM rfl) | split


theorem execBnkMarch_made {M : Nat} (hM : M ||| 1254378597020839501954 = M) {s0 : State} (tag : Nat) (s : State) (h : Made M s0 s) :
    Ends M s0 (execBnkMarch tag s) := by
  unfold execBnkMarch
  try dsimp only
  repeat' first
    | with_reducible first | intro _ | assumption | apply Made.ite | apply Ends.ite | apply Ends.done | apply giveRet_made (mask_sub hM rfl) | apply startMarch_made (mask_sub hM rfl) | apply setOp_made (mask_sub hM rfl) | apply closeFence_made (mask_sub hM rfl) | apply setf_made (mask_sub hM rfl) | split
    | exact blk_at hM rfl rfl


end Sys2Proof.Machine
end

