-- ==== Sys2Proof/Laws/MadeTimebase.lean ====
section
/-! SUPPORT. Timebase.lean, operation by operation: the fields it leaves as they are, and that it keeps the stores canonical. -/
set_option linter.all false
namespace Sys2Proof.Machine
set_option Elab.async false

theorem setTbu_made {M : Nat} (hM : M ||| 65536 = M) {s0 : State} (s : State) (t : Tbu) (h : Made M s0 s) :
    Made M s0 (setTbu s t) := by
  unfold setTbu
  try dsimp only
  with_reducible repeat' first
    | intro _ | assumption | apply Made.set_tbu (mask_sub hM rfl)


theorem showFlags_made {M : Nat} (hM : M ||| 1208925819614629174706178 = M) {s0 : State} (s : State) (h : Made M s0 s) :
    Made M s0 (showFlags s) := by
  unfold showFlags
  try dsimp only
  repeat' first
    | with_reducible first | intro _ | assumption | apply setf_made (mask_sub hM rfl)
    | exact blk_at hM rfl rfl


theorem enterState_made {M : Nat} (hM : M ||| 10911027758670590144219170 = M) {s0 : State} (s : State) (st : Nat) (h : Made M s0 s) :
    Made M s0 (enterState s st) := by
  unfold enterState
  try dsimp only
  repeat' first
    | with_reducible first | intro _ | assumption | apply Made.ite | apply devEvent_made (mask_sub hM rfl) | apply raise_made (mask_sub hM rfl) | apply setf_made (mask_sub hM rfl) | apply setTbu_made (mask_sub hM rfl) | apply wr_made (mask_sub hM rfl) | apply satAdd_made (mask_sub hM rfl) | apply showFlags_made (mask_sub hM rfl) | split
    | exact blk_at hM rfl rfl


theorem refUpdate_made {M : Nat} (hM : M ||| 10911027758670590144219170 = M) {s0 : State} (s : State) (h : Made M s0 s) :
    Made M s0 (refUpdate s) := by
  unfold refUpdate
  try dsimp only
  repeat' first
    | with_reducible first | intro _ | assumption | apply Made.ite | apply setf_made (mask_sub hM rfl) | apply setTbu_made (mask_sub hM rfl) | apply enterState_made (mask_sub hM rfl) | split
    | exact blk_at hM rfl rfl


theorem execBeaconLoss_made {M : Nat} (hM : M ||| 10911027758670590144219170 = M) {s0 : State} (s : State) (h : Made M s0 s) :
    Ends M s0 (execBeaconLoss s) := by
  unfold execBeaconLoss
  try dsimp only
  repeat' first
    | with_reducible first | intro _ | assumption | apply Made.ite | apply Ends.ite | apply Ends.done | apply refUpdate_made (mask_sub hM rfl) | apply setf_made (mask_sub hM rfl) | apply raise_made (mask_sub hM rfl) | apply setTbu_made (mask_sub hM rfl) | split
    | exact blk_at hM rfl rfl


theorem execDlyReq_made {M : Nat} (hM : M ||| 28334198897492749189154 = M) {s0 : State} (port : Fin 2) (m : Msg) (residence : Nat) (s : State) (h : Made M s0 s) :
    Ends M s0 (execDlyReq port m residence s) := by
  unfold execDlyReq
  try dsimp only
  with_reducible repeat' first
    | intro _ | assumption | apply Ends.done | apply takeMsg_made (mask_sub hM rfl) | apply sendMsg_made (mask_sub hM rfl)


theorem execDlyReqDue_made {M : Nat} (hM : M ||| 28334198897492749254690 = M) {s0 : State} (s : State) (h : Made M s0 s) :
    Ends M s0 (execDlyReqDue s) := by
  unfold execDlyReqDue
  try dsimp only
  with_reducible repeat' first
    | intro _ | assumption | apply Made.ite | apply Ends.ite | apply Ends.done | apply sendMsg_made (mask_sub hM rfl) | apply setTbu_made (mask_sub hM rfl) | split


theorem steer_made {M : Nat} (hM : M ||| 1208925819614629174706194 = M) {s0 : State} (s : State) (h : Made M s0 s) :
    Made M s0 (steer s) := by
  unfold steer
  try dsimp only
  repeat' first
    | with_reducible first | intro _ | assumption | apply wr_made (mask_sub hM rfl) | apply drawn_made (mask_sub hM rfl)
    | exact blk_at hM rfl rfl


theorem theta_made {M : Nat} (hM : M ||| 10911027758670590144219186 = M) {s0 : State} (s : State) (th : Int) (h : Made M s0 s) :
    Made M s0 (theta s th) := by
  unfold theta
  try dsimp only
  repeat' first
    | with_reducible first | intro _ | assumption | apply Made.ite | apply wr_made (mask_sub hM rfl) | apply setTbu_made (mask_sub hM rfl) | apply enterState_made (mask_sub hM rfl) | apply steer_made (mask_sub hM rfl) | split
    | exact blk_at hM rfl rfl


theorem execPpsInEdge_made {M : Nat} (hM : M ||| 10911027758670590144219186 = M) {s0 : State} (falling : Bool) (sub : Nat) (s : State) (h : Made M s0 s) :
    Ends M s0 (execPpsInEdge falling sub s) := by
  unfold execPpsInEdge
  try dsimp only
  repeat' first
    | with_reducible first | intro _ | assumption | apply Made.ite | apply Ends.ite | apply Ends.done | apply raise_made (mask_sub hM rfl) | apply satAdd_made (mask_sub hM rfl) | apply setTbu_made (mask_sub hM rfl) | apply wr_made (mask_sub hM rfl) | apply refUpdate_made (mask_sub hM rfl) | apply setf_made (mask_sub hM rfl) | apply theta_made (mask_sub hM rfl) | split
    | exact blk_at hM rfl rfl


theorem execHoldLimitExpiry_made {M : Nat} (hM : M ||| 1208925819614629174771714 = M) {s0 : State} (s : State) (h : Made M s0 s) :
    Ends M s0 (execHoldLimitExpiry s) := by
  unfold execHoldLimitExpiry
  try dsimp only
  with_reducible repeat' first
    | intro _ | assumption | apply Made.ite | apply Ends.ite | apply Ends.done | apply showFlags_made (mask_sub hM rfl) | apply setTbu_made (mask_sub hM rfl) | split


theorem ppsStart_made {M : Nat} (hM : M ||| 1208925819614629174771746 = M) {s0 : State} (s : State) (h : Made M s0 s) :
    Made M s0 (ppsStart s) := by
  unfold ppsStart
  try dsimp only
  repeat' first
    | with_reducible first | intro _ | assumption | apply Made.ite | apply raise_made (mask_sub hM rfl) | apply satAdd_made (mask_sub hM rfl) | apply emit_made (mask_sub hM rfl) | apply setTbu_made (mask_sub hM rfl) | split
    | exact blk_at hM rfl rfl


theorem tbuStop_made {M : Nat} (hM : M ||| 65536 = M) {s0 : State} (s : State) (h : Made M s0 s) :
    Made M s0 (tbuStop s) := by
  unfold tbuStop
  try dsimp only
  with_reducible repeat' first
    | intro _ | assumption | apply setTbu_made (mask_sub hM rfl)


theorem execPpsInLoss_made {M : Nat} (hM : M ||| 10911027758670590144219170 = M) {s0 : State} (s : State) (h : Made M s0 s) :
    Ends M s0 (execPpsInLoss s) := by
  unfold execPpsInLoss
  try dsimp only
  repeat' first
    | with_reducible first | intro _ | assumption | apply Made.ite | apply Ends.ite | apply Ends.done | apply refUpdate_made (mask_sub hM rfl) | apply setf_made (mask_sub hM rfl) | apply raise_made (mask_sub hM rfl) | apply setTbu_made (mask_sub hM rfl) | split
    | exact blk_at hM rfl rfl


theorem execTimeBeacon_made {M : Nat} (hM : M ||| 10911027758670590144219186 = M) {s0 : State} (m : Msg) (good : Bool) (sub : Nat) (residence : Nat) (s : State) (h : Made M s0 s) :
    Ends M s0 (execTimeBeacon m good sub residence s) := by
  unfold execTimeBeacon
  try dsimp only
  repeat' first
    | with_reducible first | intro _ | assumption | apply Made.ite | apply Ends.ite | apply Ends.done | apply takeFlood_made (mask_sub hM rfl) | apply queueMsg_made (mask_sub hM rfl) | apply setTbu_made (mask_sub hM rfl) | apply showFlags_made (mask_sub hM rfl) | apply refUpdate_made (mask_sub hM rfl) | apply setf_made (mask_sub hM rfl) | apply theta_made (mask_sub hM rfl) | split
    | exact blk_at hM rfl rfl


theorem addFrac_made {M : Nat} (hM : M ||| 65536 = M) {s0 : State} (s : State) (d : Int) (h : Made M s0 s) :
    Made M s0 (addFrac s d) := by
  unfold addFrac
  try dsimp only
  with_reducible repeat' first
    | intro _ | assumption | apply setTbu_made (mask_sub hM rfl)


theorem execPpsOutEnd_made {M : Nat} (hM : M ||| 65568 = M) {s0 : State} (s : State) (h : Made M s0 s) :
    Ends M s0 (execPpsOutEnd s) := by
  unfold execPpsOutEnd
  try dsimp only
  with_reducible repeat' first
    | intro _ | assumption | apply Made.ite | apply Ends.ite | apply Ends.done | apply emit_made (mask_sub hM rfl) | apply setTbu_made (mask_sub hM rfl) | split


theorem noteStep_made {M : Nat} (hM : M ||| 10911027758670590144153634 = M) {s0 : State} (s : State) (d : Int) (h : Made M s0 s) :
    Made M s0 (noteStep s d) := by
  unfold noteStep
  try dsimp only
  repeat' first
    | with_reducible first | intro _ | assumption | apply devEvent_made (mask_sub hM rfl) | apply wr_made (mask_sub hM rfl) | apply satAdd_made (mask_sub hM rfl) | apply raise_made (mask_sub hM rfl)
    | exact blk_at hM rfl rfl


theorem execTcxoLost_made {M : Nat} (hM : M ||| 165653532669343124506609698 = M) {s0 : State} (s : State) (h : Made M s0 s) :
    Ends M s0 (execTcxoLost s) := by
  unfold execTcxoLost
  try dsimp only
  repeat' first
    | with_reducible first | intro _ | assumption | apply Made.ite | apply Ends.ite | apply Ends.done | apply setTbu_made (mask_sub hM rfl) | apply setf_made (mask_sub hM rfl) | apply raise_made (mask_sub hM rfl) | apply showFlags_made (mask_sub hM rfl) | apply enterState_made (mask_sub hM rfl) | apply Made.foldl | split
    | with_reducible exact blk_at hM (F.FAB_PACE_NOW_blk _) rfl | with_reducible exact blk_at hM (F.FAB_PACE_VALID_blk _) rfl | exact blk_at hM rfl rfl


theorem tbuTick_made {M : Nat} (hM : M ||| 65552 = M) {s0 : State} (s : State) (h : Made M s0 s) :
    Made M s0 (tbuTick s) := by
  unfold tbuTick
  try dsimp only
  with_reducible repeat' first
    | intro _ | assumption | apply Made.ite | apply addFrac_made (mask_sub hM rfl) | apply drawn_made (mask_sub hM rfl) | apply setTbu_made (mask_sub hM rfl) | split


theorem execTbuStampRead_made {M : Nat} (hM : M ||| 8589934720 = M) {s0 : State} (tag : Nat) (s : State) (h : Made M s0 s) :
    Ends M s0 (execTbuStampRead tag s) := by
  unfold execTbuStampRead
  try dsimp only
  with_reducible repeat' first
    | intro _ | assumption | apply Ends.done | apply giveRet_made (mask_sub hM rfl) | split


theorem loadNs_made {M : Nat} (hM : M ||| 65536 = M) {s0 : State} (s : State) (n : Int) (h : Made M s0 s) :
    Made M s0 (loadNs s n) := by
  unfold loadNs
  try dsimp only
  with_reducible repeat' first
    | intro _ | assumption | apply setTbu_made (mask_sub hM rfl)


theorem tbuStart_made {M : Nat} (hM : M ||| 1208925819614629174771714 = M) {s0 : State} (s : State) (h : Made M s0 s) :
    Made M s0 (tbuStart s) := by
  unfold tbuStart
  try dsimp only
  repeat' first
    | with_reducible first | intro _ | assumption | apply Made.ite | apply setf_made (mask_sub hM rfl) | apply setTbu_made (mask_sub hM rfl) | split
    | exact blk_at hM rfl rfl


theorem execTcxoReturn_made {M : Nat} (hM : M ||| 165653532669343124506609698 = M) {s0 : State} (s : State) (h : Made M s0 s) :
    Ends M s0 (execTcxoReturn s) := by
  unfold execTcxoReturn
  try dsimp only
  repeat' first
    | with_reducible first | intro _ | assumption | apply Made.ite | apply Ends.ite | apply Ends.done | apply setTbu_made (mask_sub hM rfl) | apply setf_made (mask_sub hM rfl) | apply refUpdate_made (mask_sub hM rfl) | apply tbuStart_made (mask_sub hM rfl) | split
    | exact blk_at hM rfl rfl


theorem execWholeSecond_made {M : Nat} (hM : M ||| 10911027758670590144219170 = M) {s0 : State} (s : State) (h : Made M s0 s) :
    Ends M s0 (execWholeSecond s) := by
  unfold execWholeSecond
  try dsimp only
  repeat' first
    | with_reducible first | intro _ | assumption | apply Made.ite | apply Ends.ite | apply Ends.done | apply setTbu_made (mask_sub hM rfl) | apply satAdd_made (mask_sub hM rfl) | apply noteStep_made (mask_sub hM rfl) | apply loadNs_made (mask_sub hM rfl) | apply ppsStart_made (mask_sub hM rfl) | split
    | exact blk_at hM rfl rfl


theorem execDlyResp_made {M : Nat} (hM : M ||| 1227815285546382633533442 = M) {s0 : State} (m : Msg) (sub : Nat) (s : State) (h : Made M s0 s) :
    Ends M s0 (execDlyResp m sub s) := by
  unfold execDlyResp
  try dsimp only
  repeat' first
    | with_reducible first | intro _ | assumption | apply Made.ite | apply Ends.ite | apply Ends.done | apply takeMsg_made (mask_sub hM rfl) | apply setf_made (mask_sub hM rfl) | apply setTbu_made (mask_sub hM rfl) | apply Made.foldl | split
    | exact blk_at hM rfl rfl


theorem execTbuCtlWrite_made {M : Nat} (hM : M ||| 10911027758670590144219170 = M) {s0 : State} (data : W32) (s : State) (h : Made M s0 s) :
    Ends M s0 (execTbuCtlWrite data s) := by
  unfold execTbuCtlWrite
  try dsimp only
  repeat' first
    | with_reducible first | intro _ | assumption | apply Made.ite | apply Ends.ite | apply Ends.done | apply wr_made (mask_sub hM rfl) | apply enterState_made (mask_sub hM rfl) | apply setf_made (mask_sub hM rfl) | apply refUpdate_made (mask_sub hM rfl) | split
    | exact blk_at hM rfl rfl


theorem execTbuStampSlew_made {M : Nat} (hM : M ||| 8590000256 = M) {s0 : State} (tag : Nat) (s : State) (h : Made M s0 s) :
    Ends M s0 (execTbuStampSlew tag s) := by
  unfold execTbuStampSlew
  try dsimp only
  with_reducible repeat' first
    | intro _ | assumption | apply Made.ite | apply Ends.ite | apply Ends.done | apply giveRet_made (mask_sub hM rfl) | apply setTbu_made (mask_sub hM rfl) | split


theorem execTimeBeaconSend_made {M : Nat} (hM : M ||| 28334198897492749254690 = M) {s0 : State} (s : State) (h : Made M s0 s) :
    Ends M s0 (execTimeBeaconSend s) := by
  unfold execTimeBeaconSend
  try dsimp only
  with_reducible repeat' first
    | intro _ | assumption | apply Made.ite | apply Ends.ite | apply Ends.done | apply setTbu_made (mask_sub hM rfl) | apply sendMsg_made (mask_sub hM rfl) | split


theorem execTbuStampSet_made {M : Nat} (hM : M ||| 10911027758670598734153890 = M) {s0 : State} (tag : Nat) (s : State) (h : Made M s0 s) :
    Ends M s0 (execTbuStampSet tag s) := by
  unfold execTbuStampSet
  try dsimp only
  with_reducible repeat' first
    | intro _ | assumption | apply Made.ite | apply Ends.ite | apply Ends.done | apply giveRet_made (mask_sub hM rfl) | apply setTbu_made (mask_sub hM rfl) | apply noteStep_made (mask_sub hM rfl) | split


end Sys2Proof.Machine
end

