-- ==== Sys2Proof/Laws/MadeKiteSvc.lean ====
section
/-! SUPPORT. KiteSvc.lean, operation by operation: the fields it leaves as they are, and that it keeps the stores canonical. -/
set_option linter.all false
namespace Sys2Proof.Machine
set_option Elab.async false

theorem setKite_made {M : Nat} (hM : M ||| 4294967296 = M) {s0 : State} (s : State) (k : Kite) (h : Made M s0 s) :
    Made M s0 (setKite s k) := by
  unfold setKite
  try dsimp only
  with_reducible repeat' first
    | intro _ | assumption | apply Made.set_kite (mask_sub hM rfl)


theorem execMbxK2hSend_made {M : Nat} (hM : M ||| 9702101939055960969447458 = M) {s0 : State} (s : State) (h : Made M s0 s) :
    Ends M s0 (execMbxK2hSend s) := by
  unfold execMbxK2hSend
  try dsimp only
  repeat' first
    | with_reducible first | intro _ | assumption | apply Made.ite | apply Ends.ite | apply Ends.done | apply satAdd_made (mask_sub hM rfl) | apply devEvent_made (mask_sub hM rfl) | apply setf_made (mask_sub hM rfl) | split
    | exact blk_at hM rfl rfl


theorem kiteTick_made {M : Nat} (hM : M ||| 4294967296 = M) {s0 : State} (s : State) (h : Made M s0 s) :
    Made M s0 (kiteTick s) := by
  unfold kiteTick
  try dsimp only
  with_reducible repeat' first
    | intro _ | assumption | apply Made.ite | apply setKite_made (mask_sub hM rfl) | split


theorem kitePush_made {M : Nat} (hM : M ||| 4722366482869645213702 = M) {s0 : State} (s : State) (c : Nat) (ws : List W32) (h : Made M s0 s) :
    Made M s0 (kitePush s c ws) := by
  unfold kitePush
  try dsimp only
  repeat' first
    | with_reducible first | intro _ | assumption | apply Made.ite | apply setf_made (mask_sub hM rfl) | apply putBytes_made (mask_sub hM rfl) | split
    | with_reducible exact blk_at hM (F.CTX_SQ_IDX_SQ_PI_blk _) rfl


theorem execWearSummaryDue_made {M : Nat} (hM : M ||| 4722366482869645213702 = M) {s0 : State} (buf : Fin 2097152) (hours : Nat) (top : Nat) (topCount : Nat) (startNo : Nat) (s : State) (h : Made M s0 s) :
    Ends M s0 (execWearSummaryDue buf hours top topCount startNo s) := by
  unfold execWearSummaryDue
  try dsimp only
  with_reducible repeat' first
    | intro _ | assumption | apply Made.ite | apply Ends.ite | apply Ends.done | apply putBytes_made (mask_sub hM rfl) | apply kitePush_made (mask_sub hM rfl) | split


theorem h2kTake_made {M : Nat} (hM : M ||| 9671406556917033397649410 = M) {s0 : State} (s : State) (h : Made M s0 s) :
    Made M s0 (h2kTake s) := by
  unfold h2kTake
  try dsimp only
  repeat' first
    | with_reducible first | intro _ | assumption | apply setf_made (mask_sub hM rfl)
    | exact blk_at hM rfl rfl


theorem execMbxH2kDone_made {M : Nat} (hM : M ||| 9671406556917033397649410 = M) {s0 : State} (s : State) (h : Made M s0 s) :
    Ends M s0 (execMbxH2kDone s) := by
  unfold execMbxH2kDone
  try dsimp only
  with_reducible repeat' first
    | intro _ | assumption | apply Made.ite | apply Ends.ite | apply Ends.done | apply h2kTake_made (mask_sub hM rfl) | split


theorem startCheck_made {M : Nat} (hM : M ||| 9671406556917037692616706 = M) {s0 : State} (s : State) (e : Nat) (rom : Bool) (h : Made M s0 s) :
    Made M s0 (startCheck s e rom) := by
  unfold startCheck
  try dsimp only
  repeat' first
    | with_reducible first | intro _ | assumption | apply setf_made (mask_sub hM rfl) | apply setKite_made (mask_sub hM rfl)
    | exact blk_at hM rfl rfl


theorem execCheck_made {M : Nat} (hM : M ||| 9671406556917037692616706 = M) {s0 : State} (s : State) (h : Made M s0 s) :
    Ends M s0 (execCheck s) := by
  unfold execCheck
  try dsimp only
  with_reducible repeat' first
    | intro _ | assumption | apply Made.ite | apply Ends.ite | apply Ends.done | apply h2kTake_made (mask_sub hM rfl) | apply setKite_made (mask_sub hM rfl) | apply startCheck_made (mask_sub hM rfl) | split


theorem romJump_made {M : Nat} (hM : M ||| 9671406556917037692616706 = M) {s0 : State} (s : State) (e : Nat) (h : Made M s0 s) :
    Made M s0 (romJump s e) := by
  unfold romJump
  try dsimp only
  repeat' first
    | with_reducible first | intro _ | assumption | apply Made.ite | apply setf_made (mask_sub hM rfl) | apply setKite_made (mask_sub hM rfl) | split
    | exact blk_at hM rfl rfl


theorem k2hFill_made {M : Nat} (hM : M ||| 9702101939055960969447458 = M) {s0 : State} (s : State) (ws : List W32) (h : Made M s0 s) :
    Made M s0 (k2hFill s ws) := by
  unfold k2hFill
  try dsimp only
  repeat' first
    | with_reducible first | intro _ | assumption | apply wr_made (mask_sub hM rfl) | apply devEvent_made (mask_sub hM rfl) | apply setf_made (mask_sub hM rfl) | apply Made.foldl
    | with_reducible exact blk_at hM (R.KIT_MBX_K2H_W_blk _) rfl | exact blk_at hM rfl rfl


theorem kiteReply_made {M : Nat} (hM : M ||| 9702101939055965264414754 = M) {s0 : State} (s : State) (ws : List W32) (h : Made M s0 s) :
    Made M s0 (kiteReply s ws) := by
  unfold kiteReply
  try dsimp only
  with_reducible repeat' first
    | intro _ | assumption | apply Made.ite | apply setKite_made (mask_sub hM rfl) | apply k2hFill_made (mask_sub hM rfl) | split


theorem execMbxH2kSend_made {M : Nat} (hM : M ||| 9702101939055965264414754 = M) {s0 : State} (s : State) (h : Made M s0 s) :
    Ends M s0 (execMbxH2kSend s) := by
  unfold execMbxH2kSend
  try dsimp only
  repeat' first
    | with_reducible first | intro _ | assumption | apply Made.ite | apply Ends.ite | apply Ends.done | apply satAdd_made (mask_sub hM rfl) | apply kitIrq_made (mask_sub hM rfl) | apply setf_made (mask_sub hM rfl) | apply kiteReply_made (mask_sub hM rfl) | apply h2kTake_made (mask_sub hM rfl) | split
    | exact blk_at hM rfl rfl


theorem answerCheck_made {M : Nat} (hM : M ||| 9702101939055965264414754 = M) {s0 : State} (s : State) (h : Made M s0 s) :
    Made M s0 (answerCheck s) := by
  unfold answerCheck
  try dsimp only
  with_reducible repeat' first
    | intro _ | assumption | apply kiteReply_made (mask_sub hM rfl) | apply setKite_made (mask_sub hM rfl) | split


theorem kiteMonitor_made {M : Nat} (hM : M ||| 9671406556917033397649410 = M) {s0 : State} (s : State) (reason : Nat) (h : Made M s0 s) :
    Made M s0 (kiteMonitor s reason) := by
  unfold kiteMonitor
  try dsimp only
  repeat' first
    | with_reducible first | intro _ | assumption | apply setf_made (mask_sub hM rfl)
    | exact blk_at hM rfl rfl


theorem romNext_made {M : Nat} (hM : M ||| 9671406556917037692616706 = M) {s0 : State} (s : State) (reason : Nat) (h : Made M s0 s) :
    Made M s0 (romNext s reason) := by
  unfold romNext
  try dsimp only
  with_reducible repeat' first
    | intro _ | assumption | apply kiteMonitor_made (mask_sub hM rfl) | apply startCheck_made (mask_sub hM rfl) | apply setKite_made (mask_sub hM rfl) | split


theorem execFwCheckDone_made {M : Nat} (hM : M ||| 9702101939055965264414754 = M) {s0 : State} (s : State) (h : Made M s0 s) :
    Ends M s0 (execFwCheckDone s) := by
  unfold execFwCheckDone
  try dsimp only
  repeat' first
    | with_reducible first | intro _ | assumption | apply Made.ite | apply Ends.ite | apply Ends.done | apply wr_made (mask_sub hM rfl) | apply setf_made (mask_sub hM rfl) | apply answerCheck_made (mask_sub hM rfl) | apply setKite_made (mask_sub hM rfl) | apply romJump_made (mask_sub hM rfl) | apply romNext_made (mask_sub hM rfl) | apply Made.foldl | split
    | with_reducible exact blk_at hM (R.KIT_FWH_blk _) rfl | exact blk_at hM rfl rfl


theorem execWdtEnable_made {M : Nat} (hM : M ||| 9671406556917037692616706 = M) {s0 : State} (s : State) (h : Made M s0 s) :
    Ends M s0 (execWdtEnable s) := by
  unfold execWdtEnable
  try dsimp only
  repeat' first
    | with_reducible first | intro _ | assumption | apply Made.ite | apply Ends.ite | apply Ends.done | apply setKite_made (mask_sub hM rfl) | apply setf_made (mask_sub hM rfl) | split
    | exact blk_at hM rfl rfl


theorem execKitMsip_made {M : Nat} (hM : M ||| 9671406556917033397649410 = M) {s0 : State} (on : Bool) (s : State) (h : Made M s0 s) :
    Ends M s0 (execKitMsip on s) := by
  unfold execKitMsip
  try dsimp only
  repeat' first
    | with_reducible first | intro _ | assumption | apply Made.ite | apply Ends.ite | apply Ends.done | apply setf_made (mask_sub hM rfl) | split
    | exact blk_at hM rfl rfl


theorem execNightlyDue_made {M : Nat} (hM : M ||| 4722366482869645213702 = M) {s0 : State} (service : List Nat) (s : State) (h : Made M s0 s) :
    Ends M s0 (execNightlyDue service s) := by
  unfold execNightlyDue
  try dsimp only
  with_reducible repeat' first
    | intro _ | assumption | apply Made.ite | apply Ends.ite | apply Ends.done | apply kitePush_made (mask_sub hM rfl) | apply Made.foldl | split


theorem execWdtService_made {M : Nat} (hM : M ||| 4294967296 = M) {s0 : State} (m : Master) (key : Nat) (s : State) (h : Made M s0 s) :
    Ends M s0 (execWdtService m key s) := by
  unfold execWdtService
  try dsimp only
  with_reducible repeat' first
    | intro _ | assumption | apply Made.ite | apply Ends.ite | apply Ends.done | apply setKite_made (mask_sub hM rfl) | split


theorem execMbxK2hDone_made {M : Nat} (hM : M ||| 9702101939055965264414754 = M) {s0 : State} (s : State) (h : Made M s0 s) :
    Ends M s0 (execMbxK2hDone s) := by
  unfold execMbxK2hDone
  try dsimp only
  repeat' first
    | with_reducible first | intro _ | assumption | apply Made.ite | apply Ends.ite | apply Ends.done | apply kitIrq_made (mask_sub hM rfl) | apply setf_made (mask_sub hM rfl) | apply k2hFill_made (mask_sub hM rfl) | apply setKite_made (mask_sub hM rfl) | split
    | exact blk_at hM rfl rfl


theorem execFwCheckStart_made {M : Nat} (hM : M ||| 9671406556917037692616706 = M) {s0 : State} (region : Fin 4) (s : State) (h : Made M s0 s) :
    Ends M s0 (execFwCheckStart region s) := by
  unfold execFwCheckStart
  try dsimp only
  with_reducible repeat' first
    | intro _ | assumption | apply Made.ite | apply Ends.ite | apply Ends.done | apply startCheck_made (mask_sub hM rfl) | split


theorem kiteBoot_made {M : Nat} (hM : M ||| 9671406556917037692616706 = M) {s0 : State} (s : State) (h : Made M s0 s) :
    Made M s0 (kiteBoot s) := by
  unfold kiteBoot
  try dsimp only
  with_reducible repeat' first
    | intro _ | assumption | apply Made.ite | apply setKite_made (mask_sub hM rfl) | apply kiteMonitor_made (mask_sub hM rfl) | apply romNext_made (mask_sub hM rfl) | split


theorem execPing_made {M : Nat} (hM : M ||| 9702101939055965264414754 = M) {s0 : State} (s : State) (h : Made M s0 s) :
    Ends M s0 (execPing s) := by
  unfold execPing
  try dsimp only
  with_reducible repeat' first
    | intro _ | assumption | apply Made.ite | apply Ends.ite | apply Ends.done | apply kiteReply_made (mask_sub hM rfl) | apply h2kTake_made (mask_sub hM rfl) | split


theorem execInfo_made {M : Nat} (hM : M ||| 9702101939055965264414754 = M) {s0 : State} (s : State) (h : Made M s0 s) :
    Ends M s0 (execInfo s) := by
  unfold execInfo
  try dsimp only
  with_reducible repeat' first
    | intro _ | assumption | apply Made.ite | apply Ends.ite | apply Ends.done | apply kiteReply_made (mask_sub hM rfl) | apply h2kTake_made (mask_sub hM rfl) | split


theorem execPolicyApply_made {M : Nat} (hM : M ||| 9702101939055965264414754 = M) {s0 : State} (s : State) (h : Made M s0 s) :
    Ends M s0 (execPolicyApply s) := by
  unfold execPolicyApply
  try dsimp only
  with_reducible repeat' first
    | intro _ | assumption | apply Made.ite | apply Ends.ite | apply Ends.done | apply kiteReply_made (mask_sub hM rfl) | apply h2kTake_made (mask_sub hM rfl) | apply setKite_made (mask_sub hM rfl) | split


end Sys2Proof.Machine
end

