-- ==== Sys2Proof/Laws/MadeScr.lean ====
section
/-! SUPPORT. Scr.lean, operation by operation: the fields it leaves as they are, and that it keeps the stores canonical. -/
set_option linter.all false
namespace Sys2Proof.Machine
set_option Elab.async false

theorem lineFailure_made {M : Nat} (hM : M ||| 14537823664258551377823778 = M) {s0 : State} (s : State) (r : Nat) (h : Made M s0 s) :
    Made M s0 (lineFailure s r) := by
  unfold lineFailure
  try dsimp only
  repeat' first
    | with_reducible first | intro _ | assumption | apply alarmUpdate_made (mask_sub hM rfl) | apply raise9_made (mask_sub hM rfl) | apply satAdd_made (mask_sub hM rfl)
    | with_reducible exact blk_at hM (F.SCR_RNG_CNT_FAILS_blk _) rfl | exact blk_at hM rfl rfl


theorem lineFailures_made {M : Nat} (hM : M ||| 14537823664258551377823778 = M) {s0 : State} (s : State) (r : Nat) (x2 : Nat) (h : Made M s0 s) :
    Made M s0 (lineFailures s r x2) := by
  induction x2 generalizing s r with
  | zero =>
    unfold lineFailures
    try dsimp only
    with_reducible repeat' first
      | intro _ | assumption | apply lineFailure_made (mask_sub hM rfl) | split
  | succ _ ih =>
    unfold lineFailures
    try dsimp only
    with_reducible repeat' first
      | intro _ | assumption | apply ih | apply lineFailure_made (mask_sub hM rfl) | split


theorem setKslot_made {M : Nat} (hM : M ||| 4835703278458516698824706 = M) {s0 : State} (s : State) (k : Nat) (st : Nat) (range : Nat) (h : Made M s0 s) :
    Made M s0 (setKslot s k st range) := by
  unfold setKslot
  try dsimp only
  repeat' first
    | with_reducible first | intro _ | assumption | apply setf_made (mask_sub hM rfl)
    | with_reducible exact blk_at hM (F.SCR_KSLOT_RANGE_blk _) rfl | with_reducible exact blk_at hM (F.SCR_KSLOT_STATE_blk _) rfl


theorem emptyKslot_made {M : Nat} (hM : M ||| 4835703278458517235695618 = M) {s0 : State} (s : State) (k : Nat) (h : Made M s0 s) :
    Made M s0 (emptyKslot s k) := by
  unfold emptyKslot
  try dsimp only
  repeat' first
    | with_reducible first | intro _ | assumption | apply setf_made (mask_sub hM rfl) | apply setKslot_made (mask_sub hM rfl) | apply Made.set_keys (mask_sub hM rfl)
    | with_reducible exact blk_at hM (F.SCR_KSLOT_KCHK_blk _) rfl


theorem setEpoch_made {M : Nat} (hM : M ||| 4835703278458516698824706 = M) {s0 : State} (s : State) (r : Nat) (e : Nat) (h : Made M s0 s) :
    Made M s0 (setEpoch s r e) := by
  unfold setEpoch
  try dsimp only
  repeat' first
    | with_reducible first | intro _ | assumption | apply wr_made (mask_sub hM rfl)
    | with_reducible exact blk_at hM (R.SCR_RNG_EPH_blk _) rfl | with_reducible exact blk_at hM (R.SCR_RNG_EPL_blk _) rfl


end Sys2Proof.Machine
end

