-- ==== Sys2Proof/Laws/MadeDepot.lean ====
section
/-! SUPPORT. Depot.lean, operation by operation: the fields it leaves as they are, and that it keeps the stores canonical. -/
set_option linter.all false
namespace Sys2Proof.Machine
set_option Elab.async false

theorem setDep_made {M : Nat} (hM : M ||| 67108864 = M) {s0 : State} (s : State) (d : Dep) (h : Made M s0 s) :
    Made M s0 (setDep s d) := by
  unfold setDep
  try dsimp only
  with_reducible repeat' first
    | intro _ | assumption | apply Made.set_dep (mask_sub hM rfl)


theorem endJob_made {M : Nat} (hM : M ||| 4835998426363704708694146 = M) {s0 : State} (s : State) (fg : Bool) (j : Job) (r : Ret) (result : Nat) (h : Made M s0 s) :
    Made M s0 (endJob s fg j r result) := by
  unfold endJob
  try dsimp only
  repeat' first
    | with_reducible first | intro _ | assumption | apply Made.ite | apply setDep_made (mask_sub hM rfl) | apply setf_made (mask_sub hM rfl) | apply giveRet_made (mask_sub hM rfl) | split
    | exact blk_at hM rfl rfl


theorem putJob_made {M : Nat} (hM : M ||| 295147905179419934722 = M) {s0 : State} (s : State) (fg : Bool) (j : Job) (h : Made M s0 s) :
    Made M s0 (putJob s fg j) := by
  unfold putJob
  try dsimp only
  repeat' first
    | with_reducible first | intro _ | assumption | apply Made.ite | apply setf_made (mask_sub hM rfl) | apply setDep_made (mask_sub hM rfl) | split
    | exact blk_at hM rfl rfl


theorem setDir_made {M : Nat} (hM : M ||| 67108864 = M) {s0 : State} (s : State) (d : Dir) (h : Made M s0 s) :
    Made M s0 (setDir s d) := by
  unfold setDir
  try dsimp only
  with_reducible repeat' first
    | intro _ | assumption | apply Made.set_dep (mask_sub hM rfl)


theorem markBad_made {M : Nat} (hM : M ||| 9702415533705214098933794 = M) {s0 : State} (s : State) (k : Nat) (worn : Bool) (h : Made M s0 s) :
    Made M s0 (markBad s k worn) := by
  unfold markBad
  try dsimp only
  repeat' first
    | with_reducible first | intro _ | assumption | apply Made.ite | apply setDir_made (mask_sub hM rfl) | apply raise9_made (mask_sub hM rfl) | apply alarmUpdate_made (mask_sub hM rfl) | apply setf_made (mask_sub hM rfl) | split
    | exact blk_at hM rfl rfl


theorem flashCmd_made {M : Nat} (hM : M ||| 32 = M) {s0 : State} (s : State) (op : Nat) (addr : Nat) (data : List Byte) (h : Made M s0 s) :
    Made M s0 (flashCmd s op addr data) := by
  unfold flashCmd
  try dsimp only
  with_reducible repeat' first
    | intro _ | assumption | apply emit_made (mask_sub hM rfl)


theorem beginErase_made {M : Nat} (hM : M ||| 295147905179419934754 = M) {s0 : State} (s : State) (fg : Bool) (j : Job) (k : Nat) (data : List Byte) (h : Made M s0 s) :
    Made M s0 (beginErase s fg j k data) := by
  unfold beginErase
  try dsimp only
  with_reducible repeat' first
    | intro _ | assumption | apply Made.ite | apply setDir_made (mask_sub hM rfl) | apply putJob_made (mask_sub hM rfl) | apply flashCmd_made (mask_sub hM rfl) | split


theorem runJob_made {M : Nat} (hM : M ||| 14538118812163740998305954 = M) {s0 : State} (s : State) (fg : Bool) (j : Job) (x3 : Nat) (h : Made M s0 s) :
    Made M s0 (runJob s fg j x3) := by
  induction x3 generalizing s fg j with
  | zero =>
    unfold runJob
    try dsimp only
    repeat' first
      | with_reducible first | intro _ | assumption | apply Made.ite | apply putJob_made (mask_sub hM rfl) | apply endJob_made (mask_sub hM rfl) | apply markBad_made (mask_sub hM rfl) | apply beginErase_made (mask_sub hM rfl) | apply lineFailures_made (mask_sub hM rfl) | apply setf_made (mask_sub hM rfl) | apply setDir_made (mask_sub hM rfl) | apply setEpoch_made (mask_sub hM rfl) | apply raise_made (mask_sub hM rfl) | apply satAdd_made (mask_sub hM rfl) | apply setKslot_made (mask_sub hM rfl) | apply emptyKslot_made (mask_sub hM rfl) | apply Made.foldl | split | apply Made.set_prevEpoch (mask_sub hM rfl)
      | with_reducible exact blk_at hM (F.SCR_RNG_CNT_ROLLS_blk _) rfl | with_reducible exact blk_at hM (F.SCR_RNG_CTL_KSLOT_blk _) rfl | with_reducible exact blk_at hM (F.SCR_RNG_CTL_OLD_KSLOT_blk _) rfl | with_reducible exact blk_at hM (F.SCR_RNG_CTL_STATE_blk _) rfl | with_reducible exact blk_at hM (F.SCR_RNG_PROG_PROG_blk _) rfl | exact blk_at hM rfl rfl
  | succ _ ih =>
    unfold runJob
    try dsimp only
    repeat' first
      | with_reducible first | intro _ | assumption | apply ih | apply Made.ite | apply putJob_made (mask_sub hM rfl) | apply endJob_made (mask_sub hM rfl) | apply markBad_made (mask_sub hM rfl) | apply beginErase_made (mask_sub hM rfl) | apply lineFailures_made (mask_sub hM rfl) | apply setf_made (mask_sub hM rfl) | apply setDir_made (mask_sub hM rfl) | apply setEpoch_made (mask_sub hM rfl) | apply raise_made (mask_sub hM rfl) | apply satAdd_made (mask_sub hM rfl) | apply setKslot_made (mask_sub hM rfl) | apply emptyKslot_made (mask_sub hM rfl) | apply Made.foldl | split | apply Made.set_prevEpoch (mask_sub hM rfl)
      | with_reducible exact blk_at hM (F.SCR_RNG_CNT_ROLLS_blk _) rfl | with_reducible exact blk_at hM (F.SCR_RNG_CTL_KSLOT_blk _) rfl | with_reducible exact blk_at hM (F.SCR_RNG_CTL_OLD_KSLOT_blk _) rfl | with_reducible exact blk_at hM (F.SCR_RNG_CTL_STATE_blk _) rfl | with_reducible exact blk_at hM (F.SCR_RNG_PROG_PROG_blk _) rfl | exact blk_at hM rfl rfl


theorem serveJobs_made {M : Nat} (hM : M ||| 14538118812163740998305954 = M) {s0 : State} (s : State) (x1 : Nat) (h : Made M s0 s) :
    Made M s0 (serveJobs s x1) := by
  induction x1 generalizing s with
  | zero =>
    unfold serveJobs
    try dsimp only
    repeat' first
      | with_reducible first | intro _ | assumption | apply Made.ite | apply setf_made (mask_sub hM rfl) | apply runJob_made (mask_sub hM rfl) | split
      | exact blk_at hM rfl rfl
  | succ _ ih =>
    unfold serveJobs
    try dsimp only
    repeat' first
      | with_reducible first | intro _ | assumption | apply ih | apply Made.ite | apply setf_made (mask_sub hM rfl) | apply runJob_made (mask_sub hM rfl) | split
      | exact blk_at hM rfl rfl


theorem endBootJob_made {M : Nat} (hM : M ||| 14538118812163741002500258 = M) {s0 : State} (s : State) (j : Job) (bad : Option Nat) (h : Made M s0 s) :
    Made M s0 (endBootJob s j bad) := by
  unfold endBootJob
  try dsimp only
  with_reducible repeat' first
    | intro _ | assumption | apply endJob_made (mask_sub hM rfl) | apply serveJobs_made (mask_sub hM rfl) | apply Made.set_boot (mask_sub hM rfl)


theorem flashLose_made {M : Nat} (hM : M ||| 402653200 = M) {s0 : State} (s : State) (k : Nat) (h : Made M s0 s) :
    Made M s0 (flashLose s k) := by
  unfold flashLose
  try dsimp only
  with_reducible repeat' first
    | intro _ | assumption | apply drawn_made (mask_sub hM rfl) | apply flashWipe_made (mask_sub hM rfl)


theorem actDone_made {M : Nat} (hM : M ||| 14538118812163740998305954 = M) {s0 : State} (s : State) (fg : Bool) (j : Job) (h : Made M s0 s) :
    Made M s0 (actDone s fg j) := by
  unfold actDone
  try dsimp only
  with_reducible repeat' first
    | intro _ | assumption | apply runJob_made (mask_sub hM rfl) | apply serveJobs_made (mask_sub hM rfl)


theorem addJob_made {M : Nat} (hM : M ||| 14538118812163740998305954 = M) {s0 : State} (s : State) (j : Job) (h : Made M s0 s) :
    Made M s0 (addJob s j) := by
  unfold addJob
  try dsimp only
  repeat' first
    | with_reducible first | intro _ | assumption | apply Made.ite | apply setDep_made (mask_sub hM rfl) | apply satAdd_made (mask_sub hM rfl) | apply serveJobs_made (mask_sub hM rfl) | split
    | exact blk_at hM rfl rfl


theorem sectorFailed_made {M : Nat} (hM : M ||| 14538118812163740998305954 = M) {s0 : State} (s : State) (fg : Bool) (j : Job) (h : Made M s0 s) :
    Made M s0 (sectorFailed s fg j) := by
  unfold sectorFailed
  try dsimp only
  repeat' first
    | with_reducible first | intro _ | assumption | apply Made.ite | apply endJob_made (mask_sub hM rfl) | apply setf_made (mask_sub hM rfl) | apply serveJobs_made (mask_sub hM rfl) | apply alarmUpdate_made (mask_sub hM rfl) | apply raise9_made (mask_sub hM rfl) | apply markBad_made (mask_sub hM rfl) | apply runJob_made (mask_sub hM rfl) | apply actDone_made (mask_sub hM rfl) | apply setDep_made (mask_sub hM rfl) | split
    | exact blk_at hM rfl rfl


theorem showDir_made {M : Nat} (hM : M ||| 295147905179352825858 = M) {s0 : State} (s : State) (h : Made M s0 s) :
    Made M s0 (showDir s) := by
  unfold showDir
  try dsimp only
  repeat' first
    | with_reducible first | intro _ | assumption | apply setf_made (mask_sub hM rfl) | apply wr_made (mask_sub hM rfl) | apply Made.foldl
    | with_reducible exact blk_at hM (R.DEP_SLOT_W0_blk _) rfl | with_reducible exact blk_at hM (R.DEP_SLOT_W1_blk _) rfl | exact blk_at hM rfl rfl


theorem dirDone_made {M : Nat} (hM : M ||| 295147905179352825858 = M) {s0 : State} (s : State) (k : Nat) (h : Made M s0 s) :
    Made M s0 (dirDone s k) := by
  unfold dirDone
  try dsimp only
  repeat' first
    | with_reducible first | intro _ | assumption | apply showDir_made (mask_sub hM rfl) | apply setf_made (mask_sub hM rfl)
    | exact blk_at hM rfl rfl


theorem bootJob_made {M : Nat} (hM : M ||| 14538118812163741002500258 = M) {s0 : State} (s : State) (src : Nat) (h : Made M s0 s) :
    Made M s0 (bootJob s src) := by
  unfold bootJob
  try dsimp only
  with_reducible repeat' first
    | intro _ | assumption | apply addJob_made (mask_sub hM rfl) | split | apply Made.set_boot (mask_sub hM rfl)


theorem eraseDone_made {M : Nat} (hM : M ||| 14538118812163741400959138 = M) {s0 : State} (s : State) (ok : Bool) (h : Made M s0 s) :
    Made M s0 (eraseDone s ok) := by
  unfold eraseDone
  try dsimp only
  with_reducible repeat' first
    | intro _ | assumption | apply Made.ite | apply sectorFailed_made (mask_sub hM rfl) | apply flashErase_made (mask_sub hM rfl) | apply actDone_made (mask_sub hM rfl) | apply putJob_made (mask_sub hM rfl) | apply flashCmd_made (mask_sub hM rfl) | split


theorem markWeak_made {M : Nat} (hM : M ||| 295147905179419934722 = M) {s0 : State} (s : State) (slot : Nat) (u : Nat) (h : Made M s0 s) :
    Made M s0 (markWeak s slot u) := by
  unfold markWeak
  try dsimp only
  repeat' first
    | with_reducible first | intro _ | assumption | apply Made.ite | apply setDep_made (mask_sub hM rfl) | apply raise_made (mask_sub hM rfl) | split
    | exact blk_at hM rfl rfl


theorem flashPut_made {M : Nat} (hM : M ||| 134217728 = M) {s0 : State} (s : State) (a : Nat) (x2 : List Byte) (h : Made M s0 s) :
    Made M s0 (flashPut s a x2) := by
  induction x2 generalizing s a with
  | nil =>
    unfold flashPut
    try dsimp only
    with_reducible repeat' first
      | intro _ | assumption | apply flashPutByte_made (mask_sub hM rfl) | split
  | cons _ _ ih =>
    unfold flashPut
    try dsimp only
    with_reducible repeat' first
      | intro _ | assumption | apply ih | apply flashPutByte_made (mask_sub hM rfl) | split


theorem programDone_made {M : Nat} (hM : M ||| 14538118812163741132523682 = M) {s0 : State} (s : State) (ok : Bool) (h : Made M s0 s) :
    Made M s0 (programDone s ok) := by
  unfold programDone
  try dsimp only
  repeat' first
    | with_reducible first | intro _ | assumption | apply Made.ite | apply sectorFailed_made (mask_sub hM rfl) | apply flashPut_made (mask_sub hM rfl) | apply putJob_made (mask_sub hM rfl) | apply flashCmd_made (mask_sub hM rfl) | apply dirDone_made (mask_sub hM rfl) | apply raise_made (mask_sub hM rfl) | apply actDone_made (mask_sub hM rfl) | split
    | exact blk_at hM rfl rfl


end Sys2Proof.Machine
end

