-- ==== Sys2Proof/Laws/MadeBist.lean ====
section
/-! SUPPORT. Bist.lean, operation by operation: the fields it leaves as they are, and that it keeps the stores canonical. -/
set_option linter.all false
namespace Sys2Proof.Machine
set_option Elab.async false

theorem showBst_made {M : Nat} (hM : M ||| 38685626227668133590597634 = M) {s0 : State} (s : State) (h : Made M s0 s) :
    Made M s0 (showBst s) := by
  unfold showBst
  try dsimp only
  repeat' first
    | with_reducible first | intro _ | assumption | apply setf_made (mask_sub hM rfl)
    | exact blk_at hM rfl rfl


theorem execBstRun_made {M : Nat} (hM : M ||| 38685626227668142180532354 = M) {s0 : State} (tag : Nat) (s : State) (h : Made M s0 s) :
    Ends M s0 (execBstRun tag s) := by
  unfold execBstRun
  try dsimp only
  with_reducible repeat' first
    | intro _ | assumption | apply Made.ite | apply Ends.ite | apply Ends.done | apply giveRet_made (mask_sub hM rfl) | apply showBst_made (mask_sub hM rfl) | apply setOp_made (mask_sub hM rfl) | split


theorem lcyCut_made {M : Nat} (hM : M ||| 19342813113904435539476498 = M) {s0 : State} (s : State) (h : Made M s0 s) :
    Made M s0 (lcyCut s) := by
  unfold lcyCut
  try dsimp only
  repeat' first
    | with_reducible first | intro _ | assumption | apply Made.ite | apply setf_made (mask_sub hM rfl) | apply drawn_made (mask_sub hM rfl) | split | apply Made.set_lcy (mask_sub hM rfl)
    | exact blk_at hM rfl rfl


theorem bstAborted_made {M : Nat} (hM : M ||| 38685626227668133590597634 = M) {s0 : State} (s : State) (d : Nat) (h : Made M s0 s) :
    Made M s0 (bstAborted s d) := by
  unfold bstAborted
  try dsimp only
  repeat' first
    | with_reducible first | intro _ | assumption | apply Made.ite | apply setf_made (mask_sub hM rfl) | split
    | exact blk_at hM rfl rfl


theorem lcyAdvance_made {M : Nat} (hM : M ||| 19342813113904435539476482 = M) {s0 : State} (s : State) (target : Nat) (key : Nat) (h : Made M s0 s) :
    Made M s0 (lcyAdvance s target key) := by
  unfold lcyAdvance
  try dsimp only
  repeat' first
    | with_reducible first | intro _ | assumption | apply Made.ite | apply setf_made (mask_sub hM rfl) | apply raise_made (mask_sub hM rfl) | split | apply Made.set_lcy (mask_sub hM rfl)
    | exact blk_at hM rfl rfl


theorem execLcyAdvance_made {M : Nat} (hM : M ||| 19342813113904435539476482 = M) {s0 : State} (target : Fin 8) (key : Fin 65536) (s : State) (h : Made M s0 s) :
    Ends M s0 (execLcyAdvance target key s) := by
  unfold execLcyAdvance
  try dsimp only
  with_reducible repeat' first
    | intro _ | assumption | apply Ends.done | apply lcyAdvance_made (mask_sub hM rfl)


theorem bstFinish_made {M : Nat} (hM : M ||| 38685626227703326552621186 = M) {s0 : State} (s : State) (h : Made M s0 s) :
    Made M s0 (bstFinish s) := by
  unfold bstFinish
  try dsimp only
  repeat' first
    | with_reducible first | intro _ | assumption | apply Made.ite | apply wr_made (mask_sub hM rfl) | apply satAdd_made (mask_sub hM rfl) | apply raise_made (mask_sub hM rfl) | apply giveRet_made (mask_sub hM rfl) | apply showBst_made (mask_sub hM rfl) | apply setf_made (mask_sub hM rfl) | split | apply Made.set_bst (mask_sub hM rfl)
    | exact blk_at hM rfl rfl


theorem execBistStart_made {M : Nat} (hM : M ||| 38686880606300330212237314 = M) {s0 : State} (s : State) (h : Made M s0 s) :
    Ends M s0 (execBistStart s) := by
  unfold execBistStart
  try dsimp only
  repeat' first
    | with_reducible first | intro _ | assumption | apply Made.ite | apply Ends.ite | apply Ends.done | apply setf_made (mask_sub hM rfl) | apply closeFence_made (mask_sub hM rfl) | split | apply Made.set_bst (mask_sub hM rfl)
    | exact blk_at hM rfl rfl


theorem execLcyAdvanceDone_made {M : Nat} (hM : M ||| 19342813113904435539476482 = M) {s0 : State} (ok : Bool) (s : State) (h : Made M s0 s) :
    Ends M s0 (execLcyAdvanceDone ok s) := by
  unfold execLcyAdvanceDone
  try dsimp only
  repeat' first
    | with_reducible first | intro _ | assumption | apply Made.ite | apply Ends.ite | apply Ends.done | apply setf_made (mask_sub hM rfl) | apply raise_made (mask_sub hM rfl) | split | apply Made.set_lcy (mask_sub hM rfl)
    | exact blk_at hM rfl rfl


theorem execBistPatternsDone_made {M : Nat} (hM : M ||| 38685626227703317962694658 = M) {s0 : State} (sig : W64) (s : State) (h : Made M s0 s) :
    Ends M s0 (execBistPatternsDone sig s) := by
  unfold execBistPatternsDone
  try dsimp only
  repeat' first
    | with_reducible first | intro _ | assumption | apply Made.ite | apply Ends.ite | apply Ends.done | apply wr_made (mask_sub hM rfl) | apply setf_made (mask_sub hM rfl) | apply setDom_made (mask_sub hM rfl) | split | apply Made.set_bst (mask_sub hM rfl)
    | with_reducible exact blk_at hM (R.BST_GOLD_blk _) rfl | with_reducible exact blk_at hM (R.BST_SIG_blk _) rfl | exact blk_at hM rfl rfl


theorem bstAbort_made {M : Nat} (hM : M ||| 38685626227703317962694658 = M) {s0 : State} (s : State) (h : Made M s0 s) :
    Made M s0 (bstAbort s) := by
  unfold bstAbort
  try dsimp only
  repeat' first
    | with_reducible first | intro _ | assumption | apply Made.ite | apply setDom_made (mask_sub hM rfl) | apply setf_made (mask_sub hM rfl) | split | apply Made.set_bst (mask_sub hM rfl)
    | exact blk_at hM rfl rfl


theorem execBistWaitTimeout_made {M : Nat} (hM : M ||| 38685626227668142180532354 = M) {s0 : State} (s : State) (h : Made M s0 s) :
    Ends M s0 (execBistWaitTimeout s) := by
  unfold execBistWaitTimeout
  try dsimp only
  repeat' first
    | with_reducible first | intro _ | assumption | apply Made.ite | apply Ends.ite | apply Ends.done | apply showBst_made (mask_sub hM rfl) | apply setf_made (mask_sub hM rfl) | apply giveRet_made (mask_sub hM rfl) | apply raise_made (mask_sub hM rfl) | split
    | exact blk_at hM rfl rfl


end Sys2Proof.Machine
end

