-- ==== Sys2Proof/Laws/MadeStart.lean ====
section
/-! SUPPORT. Start.lean, operation by operation: the fields it leaves as they are, and that it keeps the stores canonical. -/
set_option linter.all false
namespace Sys2Proof.Machine
set_option Elab.async false

theorem driveGrant_made {M : Nat} (hM : M ||| 36893488147419103266 = M) {s0 : State} (s : State) (v : Nat) (h : Made M s0 s) :
    Made M s0 (driveGrant s v) := by
  unfold driveGrant
  try dsimp only
  repeat' first
    | with_reducible first | intro _ | assumption | apply emit_made (mask_sub hM rfl) | apply setf_made (mask_sub hM rfl)
    | exact blk_at hM rfl rfl


theorem execGrantPoint_made {M : Nat} (hM : M ||| 36893488147419103266 = M) {s0 : State} (s : State) (h : Made M s0 s) :
    Ends M s0 (execGrantPoint s) := by
  unfold execGrantPoint
  try dsimp only
  with_reducible repeat' first
    | intro _ | assumption | apply Made.ite | apply Ends.ite | apply Ends.done | apply driveGrant_made (mask_sub hM rfl) | split


theorem setFab_made {M : Nat} (hM : M ||| 2097152 = M) {s0 : State} (s : State) (f : Fab) (h : Made M s0 s) :
    Made M s0 (setFab s f) := by
  unfold setFab
  try dsimp only
  with_reducible repeat' first
    | intro _ | assumption | apply Made.set_fab (mask_sub hM rfl)


theorem clearFabric_made {M : Nat} (hM : M ||| 154742652484625124040900610 = M) {s0 : State} (s : State) (h : Made M s0 s) :
    Made M s0 (clearFabric s) := by
  unfold clearFabric
  try dsimp only
  repeat' first
    | with_reducible first | intro _ | assumption | apply setf_made (mask_sub hM rfl) | apply setFab_made (mask_sub hM rfl)
    | exact blk_at hM rfl rfl


theorem setBoot_made {M : Nat} (hM : M ||| 4194304 = M) {s0 : State} (s : State) (b : Boot) (h : Made M s0 s) :
    Made M s0 (setBoot s b) := by
  unfold setBoot
  try dsimp only
  with_reducible repeat' first
    | intro _ | assumption | apply Made.set_boot (mask_sub hM rfl)


theorem noNvMaps_made {M : Nat} (hM : M ||| 590295810358705651714 = M) {s0 : State} (s : State) (h : Made M s0 s) :
    Made M s0 (noNvMaps s) := by
  unfold noNvMaps
  try dsimp only
  repeat' first
    | with_reducible first | intro _ | assumption | apply wr_made (mask_sub hM rfl) | apply setf_made (mask_sub hM rfl) | apply Made.foldl
    | with_reducible exact blk_at hM (R.NVA_WP_SET_blk _) rfl | with_reducible exact blk_at hM (R.NVA_XO_blk _) rfl | exact blk_at hM rfl rfl


theorem setPwr_made {M : Nat} (hM : M ||| 4096 = M) {s0 : State} (s : State) (p : Pwr) (h : Made M s0 s) :
    Made M s0 (setPwr s p) := by
  unfold setPwr
  try dsimp only
  with_reducible repeat' first
    | intro _ | assumption | apply Made.set_pwr (mask_sub hM rfl)


theorem stageEnds_made {M : Nat} (hM : M ||| 4096 = M) {s0 : State} (s : State) (n : Nat) (h : Made M s0 s) :
    Made M s0 (stageEnds s n) := by
  unfold stageEnds
  try dsimp only
  with_reducible repeat' first
    | intro _ | assumption | apply Made.ite | apply setPwr_made (mask_sub hM rfl) | split


theorem beginIdle_made {M : Nat} (hM : M ||| 1291272085159668658178 = M) {s0 : State} (s : State) (h : Made M s0 s) :
    Made M s0 (beginIdle s) := by
  unfold beginIdle
  try dsimp only
  repeat' first
    | with_reducible first | intro _ | assumption | apply Made.ite | apply setPwr_made (mask_sub hM rfl) | apply setf_made (mask_sub hM rfl) | apply closeFence_made (mask_sub hM rfl) | split
    | exact blk_at hM rfl rfl


theorem finishStart_made {M : Nat} (hM : M ||| 1291272085159668658178 = M) {s0 : State} (s : State) (h : Made M s0 s) :
    Made M s0 (finishStart s) := by
  unfold finishStart
  try dsimp only
  repeat' first
    | with_reducible first | intro _ | assumption | apply Made.ite | apply setPwr_made (mask_sub hM rfl) | apply stageEnds_made (mask_sub hM rfl) | apply setf_made (mask_sub hM rfl) | apply beginIdle_made (mask_sub hM rfl) | split
    | exact blk_at hM rfl rfl


theorem showWave_made {M : Nat} (hM : M ||| 36893488147419103234 = M) {s0 : State} (s : State) (q : List Nat) (h : Made M s0 s) :
    Made M s0 (showWave s q) := by
  unfold showWave
  try dsimp only
  repeat' first
    | with_reducible first | intro _ | assumption | apply setf_made (mask_sub hM rfl)
    | exact blk_at hM rfl rfl


theorem releaseHook_made {M : Nat} (hM : M ||| 10880332376531666867388418 = M) {s0 : State} (s : State) (d : Nat) (h : Made M s0 s) :
    Made M s0 (releaseHook s d) := by
  unfold releaseHook
  try dsimp only
  with_reducible repeat' first
    | intro _ | assumption | apply Made.ite | apply tbuStart_made (mask_sub hM rfl) | apply kiteBoot_made (mask_sub hM rfl) | split


theorem release1_made {M : Nat} (hM : M ||| 10880406163507961705603074 = M) {s0 : State} (s : State) (d : Nat) (h : Made M s0 s) :
    Made M s0 (release1 s d) := by
  unfold release1
  try dsimp only
  with_reducible repeat' first
    | intro _ | assumption | apply Made.ite | apply releaseHook_made (mask_sub hM rfl) | apply releaseDom_made (mask_sub hM rfl) | split


theorem trimBegin_made {M : Nat} (hM : M ||| 154742504910672534364487682 = M) {s0 : State} (s : State) (h : Made M s0 s) :
    Made M s0 (trimBegin s) := by
  unfold trimBegin
  try dsimp only
  repeat' first
    | with_reducible first | intro _ | assumption | apply setFab_made (mask_sub hM rfl) | apply satAdd_made (mask_sub hM rfl)
    | exact blk_at hM rfl rfl


theorem hoFinish_made {M : Nat} (hM : M ||| 48389167012797036883916962 = M) {s0 : State} (s : State) (hq : Ho) (status : Nat) (h : Made M s0 s) :
    Made M s0 (hoFinish s hq status) := by
  unfold hoFinish
  try dsimp only
  repeat' first
    | with_reducible first | intro _ | assumption | apply Made.ite | apply releaseHolder_made (mask_sub hM rfl) | apply satAdd_made (mask_sub hM rfl) | apply setf_made (mask_sub hM rfl) | apply giveRet_made (mask_sub hM rfl) | apply bstFinish_made (mask_sub hM rfl) | apply askAllPending_made (mask_sub hM rfl) | apply devEvent_made (mask_sub hM rfl) | apply beginIdle_made (mask_sub hM rfl) | apply Made.foldl | split | apply Made.set_ho (mask_sub hM rfl)
    | exact blk_at hM rfl rfl


theorem hoAfterSeq_made {M : Nat} (hM : M ||| 48389167012797036883916962 = M) {s0 : State} (s : State) (h : Made M s0 s) :
    Made M s0 (hoAfterSeq s) := by
  unfold hoAfterSeq
  try dsimp only
  repeat' first
    | with_reducible first | intro _ | assumption | apply Made.ite | apply setf_made (mask_sub hM rfl) | apply askPending_made (mask_sub hM rfl) | apply hoFinish_made (mask_sub hM rfl) | split | apply Made.set_ho (mask_sub hM rfl)
    | exact blk_at hM rfl rfl


theorem seqDone_made {M : Nat} (hM : M ||| 203131671923469571248404642 = M) {s0 : State} (s : State) (h : Made M s0 s) :
    Made M s0 (seqDone s) := by
  unfold seqDone
  try dsimp only
  repeat' first
    | with_reducible first | intro _ | assumption | apply setf_made (mask_sub hM rfl) | apply setFab_made (mask_sub hM rfl) | apply finishStart_made (mask_sub hM rfl) | apply trimBegin_made (mask_sub hM rfl) | apply domainReady_made (mask_sub hM rfl) | apply hoAfterSeq_made (mask_sub hM rfl) | apply bstFinish_made (mask_sub hM rfl) | split
    | exact blk_at hM rfl rfl


theorem seqGo_made {M : Nat} (hM : M ||| 203131671923469571248404642 = M) {s0 : State} (s : State) (x1 : Nat) (h : Made M s0 s) :
    Made M s0 (seqGo s x1) := by
  induction x1 generalizing s with
  | zero =>
    unfold seqGo
    try dsimp only
    repeat' first
      | with_reducible first | intro _ | assumption | apply Made.ite | apply seqDone_made (mask_sub hM rfl) | apply setf_made (mask_sub hM rfl) | apply setFab_made (mask_sub hM rfl) | split
      | exact blk_at hM rfl rfl
  | succ _ ih =>
    unfold seqGo
    try dsimp only
    repeat' first
      | with_reducible first | intro _ | assumption | apply ih | apply Made.ite | apply seqDone_made (mask_sub hM rfl) | apply setf_made (mask_sub hM rfl) | apply setFab_made (mask_sub hM rfl) | split
      | exact blk_at hM rfl rfl


theorem seqBegin_made {M : Nat} (hM : M ||| 203131671923469571248404642 = M) {s0 : State} (s : State) (who : Nat) (h : Made M s0 s) :
    Made M s0 (seqBegin s who) := by
  unfold seqBegin
  try dsimp only
  repeat' first
    | with_reducible first | intro _ | assumption | apply setf_made (mask_sub hM rfl) | apply seqGo_made (mask_sub hM rfl) | apply setFab_made (mask_sub hM rfl)
    | exact blk_at hM rfl rfl


theorem startS4_made {M : Nat} (hM : M ||| 204340597743084204718143650 = M) {s0 : State} (s : State) (h : Made M s0 s) :
    Made M s0 (startS4 s) := by
  unfold startS4
  try dsimp only
  repeat' first
    | with_reducible first | intro _ | assumption | apply Made.ite | apply setf_made (mask_sub hM rfl) | apply setPwr_made (mask_sub hM rfl) | apply finishStart_made (mask_sub hM rfl) | apply showWave_made (mask_sub hM rfl) | apply release1_made (mask_sub hM rfl) | apply seqBegin_made (mask_sub hM rfl) | split
    | exact blk_at hM rfl rfl


theorem endS3_made {M : Nat} (hM : M ||| 204340597743084204718143650 = M) {s0 : State} (s : State) (h : Made M s0 s) :
    Made M s0 (endS3 s) := by
  unfold endS3
  try dsimp only
  with_reducible repeat' first
    | intro _ | assumption | apply Made.ite | apply stageEnds_made (mask_sub hM rfl) | apply finishStart_made (mask_sub hM rfl) | apply startS4_made (mask_sub hM rfl) | split


theorem startS3_made {M : Nat} (hM : M ||| 204340597743084204718143650 = M) {s0 : State} (s : State) (h : Made M s0 s) :
    Made M s0 (startS3 s) := by
  unfold startS3
  try dsimp only
  repeat' first
    | with_reducible first | intro _ | assumption | apply Made.ite | apply setf_made (mask_sub hM rfl) | apply setPwr_made (mask_sub hM rfl) | apply endS3_made (mask_sub hM rfl) | split
    | exact blk_at hM rfl rfl


theorem marchOrS3_made {M : Nat} (hM : M ||| 204340597743084204718160034 = M) {s0 : State} (s : State) (h : Made M s0 s) :
    Made M s0 (marchOrS3 s) := by
  unfold marchOrS3
  try dsimp only
  with_reducible repeat' first
    | intro _ | assumption | apply Made.ite | apply startS3_made (mask_sub hM rfl) | apply startMarch_made (mask_sub hM rfl) | split


theorem endS2_made {M : Nat} (hM : M ||| 204340597743084204718160034 = M) {s0 : State} (s : State) (h : Made M s0 s) :
    Made M s0 (endS2 s) := by
  unfold endS2
  try dsimp only
  with_reducible repeat' first
    | intro _ | assumption | apply marchOrS3_made (mask_sub hM rfl) | apply stageEnds_made (mask_sub hM rfl)


theorem startS2_made {M : Nat} (hM : M ||| 204340597743084204718160034 = M) {s0 : State} (s : State) (h : Made M s0 s) :
    Made M s0 (startS2 s) := by
  unfold startS2
  try dsimp only
  repeat' first
    | with_reducible first | intro _ | assumption | apply Made.ite | apply setf_made (mask_sub hM rfl) | apply setPwr_made (mask_sub hM rfl) | apply domainReady_made (mask_sub hM rfl) | apply releaseDom_made (mask_sub hM rfl) | apply endS2_made (mask_sub hM rfl) | apply Made.foldl | split
    | exact blk_at hM rfl rfl


theorem endS1_made {M : Nat} (hM : M ||| 204340597743084204718160034 = M) {s0 : State} (s : State) (h : Made M s0 s) :
    Made M s0 (endS1 s) := by
  unfold endS1
  try dsimp only
  with_reducible repeat' first
    | intro _ | assumption | apply startS2_made (mask_sub hM rfl) | apply stageEnds_made (mask_sub hM rfl)


theorem enterRecovery_made {M : Nat} (hM : M ||| 204341188038894563428006050 = M) {s0 : State} (s : State) (h : Made M s0 s) :
    Made M s0 (enterRecovery s) := by
  unfold enterRecovery
  try dsimp only
  repeat' first
    | with_reducible first | intro _ | assumption | apply Made.ite | apply clearFabric_made (mask_sub hM rfl) | apply setBoot_made (mask_sub hM rfl) | apply setf_made (mask_sub hM rfl) | apply noNvMaps_made (mask_sub hM rfl) | apply setPwr_made (mask_sub hM rfl) | apply endS1_made (mask_sub hM rfl) | split
    | exact blk_at hM rfl rfl


theorem recordFail_made {M : Nat} (hM : M ||| 147573952589676412930 = M) {s0 : State} (s : State) (src : Nat) (reason : Nat) (h : Made M s0 s) :
    Made M s0 (recordFail s src reason) := by
  unfold recordFail
  try dsimp only
  repeat' first
    | with_reducible first | intro _ | assumption | apply Made.ite | apply wr_made (mask_sub hM rfl) | apply setf_made (mask_sub hM rfl) | apply satAdd_made (mask_sub hM rfl) | split
    | with_reducible exact blk_at hM (F.CFG_PLANE_BOOT_FAILS_blk _) rfl | exact blk_at hM rfl rfl


theorem sendImageReq_made {M : Nat} (hM : M ||| 28334198897494896672802 = M) {s0 : State} (s : State) (h : Made M s0 s) :
    Made M s0 (sendImageReq s) := by
  unfold sendImageReq
  try dsimp only
  with_reducible repeat' first
    | intro _ | assumption | apply Made.ite | apply sendMsg_made (mask_sub hM rfl) | split | apply Made.set_load (mask_sub hM rfl)


theorem chainTry_made {M : Nat} (hM : M ||| 28334198897494896672802 = M) {s0 : State} (s : State) (h : Made M s0 s) :
    Made M s0 (chainTry s) := by
  unfold chainTry
  try dsimp only
  with_reducible repeat' first
    | intro _ | assumption | apply sendImageReq_made (mask_sub hM rfl) | apply Made.set_load (mask_sub hM rfl)


theorem tryBoot_made {M : Nat} (hM : M ||| 209177204912002337014413474 = M) {s0 : State} (s : State) (x1 : List Nat) (h : Made M s0 s) :
    Made M s0 (tryBoot s x1) := by
  induction x1 generalizing s with
  | nil =>
    unfold tryBoot
    try dsimp only
    repeat' first
      | with_reducible first | intro _ | assumption | apply Made.ite | apply enterRecovery_made (mask_sub hM rfl) | apply setf_made (mask_sub hM rfl) | apply setBoot_made (mask_sub hM rfl) | apply recordFail_made (mask_sub hM rfl) | apply chainTry_made (mask_sub hM rfl) | apply bootJob_made (mask_sub hM rfl) | split | apply Made.set_load (mask_sub hM rfl)
      | exact blk_at hM rfl rfl
  | cons _ _ ih =>
    unfold tryBoot
    try dsimp only
    repeat' first
      | with_reducible first | intro _ | assumption | apply ih | apply Made.ite | apply enterRecovery_made (mask_sub hM rfl) | apply setf_made (mask_sub hM rfl) | apply setBoot_made (mask_sub hM rfl) | apply recordFail_made (mask_sub hM rfl) | apply chainTry_made (mask_sub hM rfl) | apply bootJob_made (mask_sub hM rfl) | split | apply Made.set_load (mask_sub hM rfl)
      | exact blk_at hM rfl rfl


theorem bootFail_made {M : Nat} (hM : M ||| 209177204912002337014413474 = M) {s0 : State} (s : State) (reason : Nat) (h : Made M s0 s) :
    Made M s0 (bootFail s reason) := by
  unfold bootFail
  try dsimp only
  with_reducible repeat' first
    | intro _ | assumption | apply tryBoot_made (mask_sub hM rfl) | apply clearFabric_made (mask_sub hM rfl) | apply recordFail_made (mask_sub hM rfl) | apply setBoot_made (mask_sub hM rfl) | split | apply Made.set_load (mask_sub hM rfl)


theorem initialTrim_made {M : Nat} (hM : M ||| 2097168 = M) {s0 : State} (s : State) (r : Nat) (h : Made M s0 s) :
    Made M s0 (initialTrim s r) := by
  unfold initialTrim
  try dsimp only
  with_reducible repeat' first
    | intro _ | assumption | apply drawn_made (mask_sub hM rfl) | apply setFab_made (mask_sub hM rfl)


theorem regionOn_made {M : Nat} (hM : M ||| 154742504910672534364487698 = M) {s0 : State} (s : State) (r : Nat) (h : Made M s0 s) :
    Made M s0 (regionOn s r) := by
  unfold regionOn
  try dsimp only
  repeat' first
    | with_reducible first | intro _ | assumption | apply initialTrim_made (mask_sub hM rfl) | apply setf_made (mask_sub hM rfl)
    | exact blk_at hM rfl rfl


theorem enterS1_made {M : Nat} (hM : M ||| 36893488147419107330 = M) {s0 : State} (s : State) (h : Made M s0 s) :
    Made M s0 (enterS1 s) := by
  unfold enterS1
  try dsimp only
  repeat' first
    | with_reducible first | intro _ | assumption | apply Made.ite | apply setf_made (mask_sub hM rfl) | apply setPwr_made (mask_sub hM rfl) | split
    | exact blk_at hM rfl rfl


theorem execS0Complete_made {M : Nat} (hM : M ||| 258254417031933759490 = M) {s0 : State} (headEn : Bool) (cfgsrc : Fin 4) (testEn : Bool) (s : State) (h : Made M s0 s) :
    Ends M s0 (execS0Complete headEn cfgsrc testEn s) := by
  unfold execS0Complete
  try dsimp only
  repeat' first
    | with_reducible first | intro _ | assumption | apply Made.ite | apply Ends.ite | apply Ends.done | apply setPwr_made (mask_sub hM rfl) | apply setf_made (mask_sub hM rfl) | apply logEvent_made (mask_sub hM rfl) | apply enterS1_made (mask_sub hM rfl) | split
    | exact blk_at hM rfl rfl


theorem chainTryEnd_made {M : Nat} (hM : M ||| 209177204912002337014413474 = M) {s0 : State} (s : State) (reason : Nat) (last : Bool) (h : Made M s0 s) :
    Made M s0 (chainTryEnd s reason last) := by
  unfold chainTryEnd
  try dsimp only
  with_reducible repeat' first
    | intro _ | assumption | apply Made.ite | apply chainTry_made (mask_sub hM rfl) | apply clearFabric_made (mask_sub hM rfl) | apply bootFail_made (mask_sub hM rfl) | split


theorem execBootSourceFail_made {M : Nat} (hM : M ||| 209177204912002337014413474 = M) {s0 : State} (s : State) (h : Made M s0 s) :
    Ends M s0 (execBootSourceFail s) := by
  unfold execBootSourceFail
  try dsimp only
  with_reducible repeat' first
    | intro _ | assumption | apply Made.ite | apply Ends.ite | apply Ends.done | apply chainTryEnd_made (mask_sub hM rfl) | apply bootFail_made (mask_sub hM rfl) | split


theorem driveByp_made {M : Nat} (hM : M ||| 4128 = M) {s0 : State} (s : State) (h : Made M s0 s) :
    Made M s0 (driveByp s) := by
  unfold driveByp
  try dsimp only
  with_reducible repeat' first
    | intro _ | assumption | apply Made.ite | apply emit_made (mask_sub hM rfl) | apply setPwr_made (mask_sub hM rfl) | split


theorem execGrantTimeout_made {M : Nat} (hM : M ||| 36893488147419107330 = M) {s0 : State} (s : State) (h : Made M s0 s) :
    Ends M s0 (execGrantTimeout s) := by
  unfold execGrantTimeout
  try dsimp only
  repeat' first
    | with_reducible first | intro _ | assumption | apply Made.ite | apply Ends.ite | apply Ends.done | apply raise_made (mask_sub hM rfl) | apply enterS1_made (mask_sub hM rfl) | split
    | exact blk_at hM rfl rfl


theorem lockSet_made {M : Nat} (hM : M ||| 154742504910672534364487682 = M) {s0 : State} (s : State) (m : Nat) (h : Made M s0 s) :
    Made M s0 (lockSet s m) := by
  unfold lockSet
  try dsimp only
  repeat' first
    | with_reducible first | intro _ | assumption | apply setFab_made (mask_sub hM rfl) | apply setf_made (mask_sub hM rfl)
    | exact blk_at hM rfl rfl


theorem loadNvMaps_made {M : Nat} (hM : M ||| 590295810358705651714 = M) {s0 : State} (s : State) (img : List Byte) (h : Made M s0 s) :
    Made M s0 (loadNvMaps s img) := by
  unfold loadNvMaps
  try dsimp only
  repeat' first
    | with_reducible first | intro _ | assumption | apply wr_made (mask_sub hM rfl) | apply setf_made (mask_sub hM rfl) | apply Made.foldl
    | with_reducible exact blk_at hM (R.NVA_WP_SET_blk _) rfl | with_reducible exact blk_at hM (R.NVA_XO_blk _) rfl | exact blk_at hM rfl rfl


theorem setValid_made {M : Nat} (hM : M ||| 147573952589676412930 = M) {s0 : State} (s : State) (p : Nat) (v : Bool) (h : Made M s0 s) :
    Made M s0 (setValid s p v) := by
  unfold setValid
  try dsimp only
  repeat' first
    | with_reducible first | intro _ | assumption | apply Made.ite | apply setf_made (mask_sub hM rfl) | split
    | with_reducible exact blk_at hM (F.CFG_PLANE_FRAME_CNT_blk _) rfl | with_reducible exact blk_at hM (F.CFG_PLANE_VALID_blk _) rfl | exact blk_at hM rfl rfl


theorem showSource_made {M : Nat} (hM : M ||| 147573952589676412930 = M) {s0 : State} (s : State) (img : List Byte) (src : Nat) (h : Made M s0 s) :
    Made M s0 (showSource s img src) := by
  unfold showSource
  try dsimp only
  repeat' first
    | with_reducible first | intro _ | assumption | apply Made.ite | apply setf_made (mask_sub hM rfl) | split
    | exact blk_at hM rfl rfl


theorem loadHeader_made {M : Nat} (hM : M ||| 154742541804160681783590914 = M) {s0 : State} (s : State) (img : List Byte) (glob : Nat) (h : Made M s0 s) :
    Made M s0 (loadHeader s img glob) := by
  unfold loadHeader
  try dsimp only
  repeat' first
    | with_reducible first | intro _ | assumption | apply Made.ite | apply setf_made (mask_sub hM rfl) | apply wr_made (mask_sub hM rfl) | apply setFab_made (mask_sub hM rfl) | apply Made.foldl | split
    | with_reducible exact blk_at hM (F.FAB_SOCK_CALL_EN_blk _) rfl | with_reducible exact blk_at hM (F.FAB_SOCK_EN_blk _) rfl | exact blk_at hM rfl rfl


theorem configure_made {M : Nat} (hM : M ||| 154743279673923632317337602 = M) {s0 : State} (s : State) (img : List Byte) (src : Nat) (glob : Nat) (h : Made M s0 s) :
    Made M s0 (configure s img src glob) := by
  unfold configure
  try dsimp only
  repeat' first
    | with_reducible first | intro _ | assumption | apply Made.ite | apply loadNvMaps_made (mask_sub hM rfl) | apply showSource_made (mask_sub hM rfl) | apply loadHeader_made (mask_sub hM rfl) | apply setf_made (mask_sub hM rfl) | apply setPwr_made (mask_sub hM rfl) | split | apply Made.set_boot_load (mask_sub hM rfl)
    | exact blk_at hM rfl rfl


theorem execPwrgrantInHigh_made {M : Nat} (hM : M ||| 36893488147419107330 = M) {s0 : State} (s : State) (h : Made M s0 s) :
    Ends M s0 (execPwrgrantInHigh s) := by
  unfold execPwrgrantInHigh
  try dsimp only
  repeat' first
    | with_reducible first | intro _ | assumption | apply Made.ite | apply Ends.ite | apply Ends.done | apply setf_made (mask_sub hM rfl) | apply enterS1_made (mask_sub hM rfl) | split
    | exact blk_at hM rfl rfl


theorem regionOff_made {M : Nat} (hM : M ||| 154742504910672534364487682 = M) {s0 : State} (s : State) (r : Nat) (h : Made M s0 s) :
    Made M s0 (regionOff s r) := by
  unfold regionOff
  try dsimp only
  repeat' first
    | with_reducible first | intro _ | assumption | apply setf_made (mask_sub hM rfl) | apply setFab_made (mask_sub hM rfl)
    | with_reducible exact blk_at hM (F.FAB_PACE_NOW_blk _) rfl | with_reducible exact blk_at hM (F.FAB_PACE_VALID_blk _) rfl | exact blk_at hM rfl rfl


theorem execBootReadoutDone_made {M : Nat} (hM : M ||| 204341188038894565575489698 = M) {s0 : State} (glob : Nat) (s : State) (h : Made M s0 s) :
    Ends M s0 (execBootReadoutDone glob s) := by
  unfold execBootReadoutDone
  try dsimp only
  with_reducible repeat' first
    | intro _ | assumption | apply Made.ite | apply Ends.ite | apply Ends.done | apply endS1_made (mask_sub hM rfl) | apply configure_made (mask_sub hM rfl) | split


theorem seqNext_made {M : Nat} (hM : M ||| 203131671923469571248404642 = M) {s0 : State} (s : State) (h : Made M s0 s) :
    Made M s0 (seqNext s) := by
  unfold seqNext
  try dsimp only
  repeat' first
    | with_reducible first | intro _ | assumption | apply Made.ite | apply seqDone_made (mask_sub hM rfl) | apply seqGo_made (mask_sub hM rfl) | apply setf_made (mask_sub hM rfl) | split
    | exact blk_at hM rfl rfl


theorem seqStepDone_made {M : Nat} (hM : M ||| 203131671923469571248404642 = M) {s0 : State} (s : State) (h : Made M s0 s) :
    Made M s0 (seqStepDone s) := by
  unfold seqStepDone
  try dsimp only
  repeat' first
    | with_reducible first | intro _ | assumption | apply Made.ite | apply setf_made (mask_sub hM rfl) | apply seqNext_made (mask_sub hM rfl) | apply setFab_made (mask_sub hM rfl) | split
    | exact blk_at hM rfl rfl


theorem waveOn_made {M : Nat} (hM : M ||| 154742504910672534364487698 = M) {s0 : State} (s : State) (w : Nat) (h : Made M s0 s) :
    Made M s0 (waveOn s w) := by
  unfold waveOn
  try dsimp only
  with_reducible repeat' first
    | intro _ | assumption | apply regionOn_made (mask_sub hM rfl) | apply Made.foldl


theorem beginReadout_made {M : Nat} (hM : M ||| 209177204912002337014413474 = M) {s0 : State} (s : State) (h : Made M s0 s) :
    Made M s0 (beginReadout s) := by
  unfold beginReadout
  try dsimp only
  repeat' first
    | with_reducible first | intro _ | assumption | apply setf_made (mask_sub hM rfl) | apply wr_made (mask_sub hM rfl) | apply setPwr_made (mask_sub hM rfl) | apply tryBoot_made (mask_sub hM rfl) | apply clearFabric_made (mask_sub hM rfl)
    | exact blk_at hM rfl rfl


theorem execMgmtGroupPowered_made {M : Nat} (hM : M ||| 209177204912002337014413474 = M) {s0 : State} (s : State) (h : Made M s0 s) :
    Ends M s0 (execMgmtGroupPowered s) := by
  unfold execMgmtGroupPowered
  try dsimp only
  repeat' first
    | with_reducible first | intro _ | assumption | apply Made.ite | apply Ends.ite | apply Ends.done | apply domainReady_made (mask_sub hM rfl) | apply releaseDom_made (mask_sub hM rfl) | apply setf_made (mask_sub hM rfl) | apply setPwr_made (mask_sub hM rfl) | apply beginReadout_made (mask_sub hM rfl) | split
    | exact blk_at hM rfl rfl


theorem execS2BankPowered_made {M : Nat} (hM : M ||| 204340597743084204718160046 = M) {s0 : State} (s : State) (h : Made M s0 s) :
    Ends M s0 (execS2BankPowered s) := by
  unfold execS2BankPowered
  try dsimp only
  with_reducible repeat' first
    | intro _ | assumption | apply Made.ite | apply Ends.ite | apply Ends.done | apply stepDone_made (mask_sub hM rfl) | apply setBank_made (mask_sub hM rfl) | apply setPwr_made (mask_sub hM rfl) | apply endS2_made (mask_sub hM rfl) | split


theorem beginRun_made {M : Nat} (hM : M ||| 203131671923469571248404642 = M) {s0 : State} (s : State) (h : Made M s0 s) :
    Made M s0 (beginRun s) := by
  unfold beginRun
  try dsimp only
  repeat' first
    | with_reducible first | intro _ | assumption | apply Made.ite | apply setPwr_made (mask_sub hM rfl) | apply setf_made (mask_sub hM rfl) | apply seqBegin_made (mask_sub hM rfl) | split
    | exact blk_at hM rfl rfl


theorem idleNext_made {M : Nat} (hM : M ||| 203131671923469571248404642 = M) {s0 : State} (s : State) (h : Made M s0 s) :
    Made M s0 (idleNext s) := by
  unfold idleNext
  try dsimp only
  with_reducible repeat' first
    | intro _ | assumption | apply Made.ite | apply beginRun_made (mask_sub hM rfl) | split


theorem execMarchDone_made {M : Nat} (hM : M ||| 204340616189828278427711662 = M) {s0 : State} (n : Fin 8) (faults : Nat) (element : Nat) (addr : Nat) (bits : List W32) (shadow : Bool) (s : State) (h : Made M s0 s) :
    Ends M s0 (execMarchDone n faults element addr bits shadow s) := by
  unfold execMarchDone
  try dsimp only
  with_reducible repeat' first
    | intro _ | assumption | apply Made.ite | apply Ends.ite | apply Ends.done | apply marchDone_made (mask_sub hM rfl) | apply marchOrS3_made (mask_sub hM rfl) | apply setPwr_made (mask_sub hM rfl) | split


theorem g5Pins_made {M : Nat} (hM : M ||| 32 = M) {s0 : State} (s : State) (h : Made M s0 s) :
    Made M s0 (g5Pins s) := by
  unfold g5Pins
  try dsimp only
  with_reducible repeat' first
    | intro _ | assumption | apply emit_made (mask_sub hM rfl) | apply Made.foldl


theorem powerGroup_made {M : Nat} (hM : M ||| 165653661796551644768450594 = M) {s0 : State} (s : State) (g : Nat) (h : Made M s0 s) :
    Made M s0 (powerGroup s g) := by
  unfold powerGroup
  try dsimp only
  repeat' first
    | with_reducible first | intro _ | assumption | apply Made.ite | apply setPwr_made (mask_sub hM rfl) | apply setf_made (mask_sub hM rfl) | apply driveByp_made (mask_sub hM rfl) | apply g5Pins_made (mask_sub hM rfl) | apply release1_made (mask_sub hM rfl) | apply alarmUpdate_made (mask_sub hM rfl) | apply Made.foldl | split
    | exact blk_at hM rfl rfl


theorem execS3GroupPowered_made {M : Nat} (hM : M ||| 209177204912002337014413474 = M) {s0 : State} (s : State) (h : Made M s0 s) :
    Ends M s0 (execS3GroupPowered s) := by
  unfold execS3GroupPowered
  try dsimp only
  with_reducible repeat' first
    | intro _ | assumption | apply Made.ite | apply Ends.ite | apply Ends.done | apply powerGroup_made (mask_sub hM rfl) | apply beginReadout_made (mask_sub hM rfl) | apply endS1_made (mask_sub hM rfl) | apply endS3_made (mask_sub hM rfl) | split


end Sys2Proof.Machine
end

