-- ==== Sys2Proof/Laws/MadeCfg.lean ====
section
/-! SUPPORT. Cfg.lean, operation by operation: the fields it leaves as they are, and that it keeps the stores canonical. -/
set_option linter.all false
namespace Sys2Proof.Machine
set_option Elab.async false

theorem setHo_made {M : Nat} (hM : M ||| 16777216 = M) {s0 : State} (s : State) (hq : Ho) (h : Made M s0 s) :
    Made M s0 (setHo s hq) := by
  unfold setHo
  try dsimp only
  with_reducible repeat' first
    | intro _ | assumption | apply Made.set_ho (mask_sub hM rfl)


theorem hoRegionsOff_made {M : Nat} (hM : M ||| 16777216 = M) {s0 : State} (s : State) (hq : Ho) (h : Made M s0 s) :
    Made M s0 (hoRegionsOff s hq) := by
  unfold hoRegionsOff
  try dsimp only
  with_reducible repeat' first
    | intro _ | assumption | apply Made.ite | apply setHo_made (mask_sub hM rfl) | split


theorem hoRetain_made {M : Nat} (hM : M ||| 1180591620717428097026 = M) {s0 : State} (s : State) (hq : Ho) (h : Made M s0 s) :
    Made M s0 (hoRetain s hq) := by
  unfold hoRetain
  try dsimp only
  with_reducible repeat' first
    | intro _ | assumption | apply beginStep_made (mask_sub hM rfl) | apply setHo_made (mask_sub hM rfl) | apply hoRegionsOff_made (mask_sub hM rfl) | split


theorem hoAborted_made {M : Nat} (hM : M ||| 1180591761454916452386 = M) {s0 : State} (s : State) (h : Made M s0 s) :
    Made M s0 (hoAborted s) := by
  unfold hoAborted
  try dsimp only
  with_reducible repeat' first
    | intro _ | assumption | apply Made.ite | apply hoRetain_made (mask_sub hM rfl) | apply userIo_made (mask_sub hM rfl) | split


theorem execStartupLockTimeout_made {M : Nat} (hM : M ||| 203131690370354382446327970 = M) {s0 : State} (missing : Nat) (s : State) (h : Made M s0 s) :
    Ends M s0 (execStartupLockTimeout missing s) := by
  unfold execStartupLockTimeout
  try dsimp only
  repeat' first
    | with_reducible first | intro _ | assumption | apply Made.ite | apply Ends.ite | apply Ends.done | apply lockSet_made (mask_sub hM rfl) | apply alarmUpdate_made (mask_sub hM rfl) | apply raise_made (mask_sub hM rfl) | apply wr_made (mask_sub hM rfl) | apply hoAborted_made (mask_sub hM rfl) | apply seqStepDone_made (mask_sub hM rfl) | apply devEvent_made (mask_sub hM rfl) | split
    | exact blk_at hM rfl rfl


theorem stageEnd_made {M : Nat} (hM : M ||| 14538266386116330683107490 = M) {s0 : State} (s : State) (g : Stage) (status : Nat) (reason : Nat) (h : Made M s0 s) :
    Made M s0 (stageEnd s g status reason) := by
  unfold stageEnd
  try dsimp only
  repeat' first
    | with_reducible first | intro _ | assumption | apply setf_made (mask_sub hM rfl) | apply setDep_made (mask_sub hM rfl) | apply serveJobs_made (mask_sub hM rfl) | apply giveRet_made (mask_sub hM rfl) | split | apply Made.set_stage (mask_sub hM rfl)
    | exact blk_at hM rfl rfl


theorem execCfgStageFrame_made {M : Nat} (hM : M ||| 14538266386116330683369634 = M) {s0 : State} (got : ReadEnd) (s : State) (h : Made M s0 s) :
    Ends M s0 (execCfgStageFrame got s) := by
  unfold execCfgStageFrame
  try dsimp only
  with_reducible repeat' first
    | intro _ | assumption | apply Made.ite | apply Ends.ite | apply Ends.done | apply stageEnd_made (mask_sub hM rfl) | apply planeBytes_made (mask_sub hM rfl) | split | apply Made.set_stage (mask_sub hM rfl)


theorem execStartupDelayExpiry_made {M : Nat} (hM : M ||| 203131671923610308736776354 = M) {s0 : State} (s : State) (h : Made M s0 s) :
    Ends M s0 (execStartupDelayExpiry s) := by
  unfold execStartupDelayExpiry
  try dsimp only
  with_reducible repeat' first
    | intro _ | assumption | apply Made.ite | apply Ends.ite | apply Ends.done | apply hoAborted_made (mask_sub hM rfl) | apply seqNext_made (mask_sub hM rfl) | split


theorem keepIslands_made {M : Nat} (hM : M ||| 154742504910672534364487682 = M) {s0 : State} (s : State) (old : List Byte) (new : List Byte) (h : Made M s0 s) :
    Made M s0 (keepIslands s old new) := by
  unfold keepIslands
  try dsimp only
  repeat' first
    | with_reducible first | intro _ | assumption | apply Made.ite | apply setFab_made (mask_sub hM rfl) | apply setf_made (mask_sub hM rfl) | apply Made.foldl | split
    | exact blk_at hM rfl rfl


theorem hoSeq_made {M : Nat} (hM : M ||| 203131671923469571248404642 = M) {s0 : State} (s : State) (hq : Ho) (h : Made M s0 s) :
    Made M s0 (hoSeq s hq) := by
  unfold hoSeq
  try dsimp only
  with_reducible repeat' first
    | intro _ | assumption | apply Made.ite | apply askPending_made (mask_sub hM rfl) | apply setHo_made (mask_sub hM rfl) | apply hoAfterSeq_made (mask_sub hM rfl) | apply seqBegin_made (mask_sub hM rfl) | apply Made.foldl | split


theorem hoBanksOn_made {M : Nat} (hM : M ||| 203131671923469571248421026 = M) {s0 : State} (s : State) (hq : Ho) (h : Made M s0 s) :
    Made M s0 (hoBanksOn s hq) := by
  unfold hoBanksOn
  try dsimp only
  with_reducible repeat' first
    | intro _ | assumption | apply beginStep_made (mask_sub hM rfl) | apply setHo_made (mask_sub hM rfl) | apply hoSeq_made (mask_sub hM rfl) | split


theorem hoWaves_made {M : Nat} (hM : M ||| 203131671923469571248421026 = M) {s0 : State} (s : State) (hq : Ho) (h : Made M s0 s) :
    Made M s0 (hoWaves s hq) := by
  unfold hoWaves
  try dsimp only
  with_reducible repeat' first
    | intro _ | assumption | apply Made.ite | apply setPwr_made (mask_sub hM rfl) | apply hoBanksOn_made (mask_sub hM rfl) | apply setHo_made (mask_sub hM rfl) | apply Made.foldl | split


theorem execHandoverReadoutDone_made {M : Nat} (hM : M ||| 204340616189828278427711650 = M) {s0 : State} (glob : Nat) (s : State) (h : Made M s0 s) :
    Ends M s0 (execHandoverReadoutDone glob s) := by
  unfold execHandoverReadoutDone
  try dsimp only
  repeat' first
    | with_reducible first | intro _ | assumption | apply Made.ite | apply Ends.ite | apply Ends.done | apply keepIslands_made (mask_sub hM rfl) | apply showSource_made (mask_sub hM rfl) | apply loadHeader_made (mask_sub hM rfl) | apply release1_made (mask_sub hM rfl) | apply idleNext_made (mask_sub hM rfl) | apply hoWaves_made (mask_sub hM rfl) | apply hoBanksOn_made (mask_sub hM rfl) | apply clearFabric_made (mask_sub hM rfl) | apply setValid_made (mask_sub hM rfl) | apply hoFinish_made (mask_sub hM rfl) | apply alarmUpdate_made (mask_sub hM rfl) | apply satAdd_made (mask_sub hM rfl) | apply raise_made (mask_sub hM rfl) | apply setHo_made (mask_sub hM rfl) | split
    | exact blk_at hM rfl rfl


theorem moveBoot_made {M : Nat} (hM : M ||| 147573952589676412930 = M) {s0 : State} (s : State) (p : Nat) (h : Made M s0 s) :
    Made M s0 (moveBoot s p) := by
  unfold moveBoot
  try dsimp only
  repeat' first
    | with_reducible first | intro _ | assumption | apply Made.ite | apply setf_made (mask_sub hM rfl) | split
    | exact blk_at hM rfl rfl


theorem execCfgStage_made {M : Nat} (hM : M ||| 14538266386116330716924066 = M) {s0 : State} (tag : Nat) (hdr : ReadEnd) (s : State) (h : Made M s0 s) :
    Ends M s0 (execCfgStage tag hdr s) := by
  unfold execCfgStage
  try dsimp only
  repeat' first
    | with_reducible first | intro _ | assumption | apply Made.ite | apply Ends.ite | apply Ends.done | apply giveRet_made (mask_sub hM rfl) | apply setValid_made (mask_sub hM rfl) | apply moveBoot_made (mask_sub hM rfl) | apply setOp_made (mask_sub hM rfl) | apply setf_made (mask_sub hM rfl) | apply satAdd_made (mask_sub hM rfl) | apply planeClear_made (mask_sub hM rfl) | apply addJob_made (mask_sub hM rfl) | split | apply Made.set_stage (mask_sub hM rfl)
    | with_reducible exact blk_at hM (F.CFG_PLANE_BOOT_FAILS_blk _) rfl | with_reducible exact blk_at hM (F.CFG_WEAR_WEAR_blk _) rfl | exact blk_at hM rfl rfl


theorem execCfgStageReadbackDone_made {M : Nat} (hM : M ||| 14538266386116330683107490 = M) {s0 : State} (ok : Bool) (s : State) (h : Made M s0 s) :
    Ends M s0 (execCfgStageReadbackDone ok s) := by
  unfold execCfgStageReadbackDone
  try dsimp only
  with_reducible repeat' first
    | intro _ | assumption | apply Made.ite | apply Ends.ite | apply Ends.done | apply stageEnd_made (mask_sub hM rfl) | apply setValid_made (mask_sub hM rfl) | split


theorem execStartupStepDone_made {M : Nat} (hM : M ||| 203131671923610308736776354 = M) {s0 : State} (s : State) (h : Made M s0 s) :
    Ends M s0 (execStartupStepDone s) := by
  unfold execStartupStepDone
  try dsimp only
  with_reducible repeat' first
    | intro _ | assumption | apply Made.ite | apply Ends.ite | apply Ends.done | apply hoAborted_made (mask_sub hM rfl) | apply seqStepDone_made (mask_sub hM rfl) | apply userIo_made (mask_sub hM rfl) | split


theorem hoS2_made {M : Nat} (hM : M ||| 1180591620717428101122 = M) {s0 : State} (s : State) (hq : Ho) (h : Made M s0 s) :
    Made M s0 (hoS2 s hq) := by
  unfold hoS2
  try dsimp only
  with_reducible repeat' first
    | intro _ | assumption | apply beginStep_made (mask_sub hM rfl) | apply setHo_made (mask_sub hM rfl) | apply setPwr_made (mask_sub hM rfl) | split


theorem execCfgHandover_made {M : Nat} (hM : M ||| 1401952690348021051554 = M) {s0 : State} (tag : Nat) (s : State) (h : Made M s0 s) :
    Ends M s0 (execCfgHandover tag s) := by
  unfold execCfgHandover
  try dsimp only
  repeat' first
    | with_reducible first | intro _ | assumption | apply Made.ite | apply Ends.ite | apply Ends.done | apply giveRet_made (mask_sub hM rfl) | apply setf_made (mask_sub hM rfl) | apply setOp_made (mask_sub hM rfl) | apply hoS2_made (mask_sub hM rfl) | apply closeFence_made (mask_sub hM rfl) | apply hoAborted_made (mask_sub hM rfl) | apply setHo_made (mask_sub hM rfl) | apply Made.foldl | split
    | exact blk_at hM rfl rfl


theorem execCfgBootSel_made {M : Nat} (hM : M ||| 147573952589676412930 = M) {s0 : State} (key : Nat) (plane : Fin 2) (s : State) (h : Made M s0 s) :
    Ends M s0 (execCfgBootSel key plane s) := by
  unfold execCfgBootSel
  try dsimp only
  repeat' first
    | with_reducible first | intro _ | assumption | apply Made.ite | apply Ends.ite | apply Ends.done | apply setf_made (mask_sub hM rfl) | apply raise_made (mask_sub hM rfl) | split
    | exact blk_at hM rfl rfl


theorem execCfgStageEraseDone_made {M : Nat} (hM : M ||| 42205184 = M) {s0 : State} (s : State) (h : Made M s0 s) :
    Ends M s0 (execCfgStageEraseDone s) := by
  unfold execCfgStageEraseDone
  try dsimp only
  with_reducible repeat' first
    | intro _ | assumption | apply Made.ite | apply Ends.ite | apply Ends.done | apply planeClear_made (mask_sub hM rfl) | apply planeBytes_made (mask_sub hM rfl) | split | apply Made.set_stage (mask_sub hM rfl)


theorem execS4WaveDone_made {M : Nat} (hM : M ||| 203131671923469571248421042 = M) {s0 : State} (s : State) (h : Made M s0 s) :
    Ends M s0 (execS4WaveDone s) := by
  unfold execS4WaveDone
  try dsimp only
  repeat' first
    | with_reducible first | intro _ | assumption | apply Made.ite | apply Ends.ite | apply Ends.done | apply setPwr_made (mask_sub hM rfl) | apply waveOn_made (mask_sub hM rfl) | apply hoBanksOn_made (mask_sub hM rfl) | apply showWave_made (mask_sub hM rfl) | apply seqBegin_made (mask_sub hM rfl) | apply setf_made (mask_sub hM rfl) | split
    | exact blk_at hM rfl rfl


theorem execStartupLockDone_made {M : Nat} (hM : M ||| 203131671923610308736776354 = M) {s0 : State} (s : State) (h : Made M s0 s) :
    Ends M s0 (execStartupLockDone s) := by
  unfold execStartupLockDone
  try dsimp only
  with_reducible repeat' first
    | intro _ | assumption | apply Made.ite | apply Ends.ite | apply Ends.done | apply hoAborted_made (mask_sub hM rfl) | apply seqStepDone_made (mask_sub hM rfl) | apply lockSet_made (mask_sub hM rfl) | split


theorem execRegionsPoweredDown_made {M : Nat} (hM : M ||| 154742504910672534381264898 = M) {s0 : State} (s : State) (h : Made M s0 s) :
    Ends M s0 (execRegionsPoweredDown s) := by
  unfold execRegionsPoweredDown
  try dsimp only
  with_reducible repeat' first
    | intro _ | assumption | apply Made.ite | apply Ends.ite | apply Ends.done | apply setHo_made (mask_sub hM rfl) | apply regionOff_made (mask_sub hM rfl) | apply Made.foldl | split


theorem execBankPowerStepDone_made {M : Nat} (hM : M ||| 203131671923469571248421038 = M) {s0 : State} (n : Fin 8) (us : Nat) (s : State) (h : Made M s0 s) :
    Ends M s0 (execBankPowerStepDone n us s) := by
  unfold execBankPowerStepDone
  try dsimp only
  with_reducible repeat' first
    | intro _ | assumption | apply Made.ite | apply Ends.ite | apply Ends.done | apply bankStepDone_made (mask_sub hM rfl) | apply hoRetain_made (mask_sub hM rfl) | apply idleNext_made (mask_sub hM rfl) | apply hoBanksOn_made (mask_sub hM rfl) | apply hoS2_made (mask_sub hM rfl) | split


end Sys2Proof.Machine
end

