-- ==== Sys2Proof/Laws/MadeDepotCmd.lean ====
section
/-! SUPPORT. DepotCmd.lean, operation by operation: the fields it leaves as they are, and that it keeps the stores canonical. -/
set_option linter.all false
namespace Sys2Proof.Machine
set_option Elab.async false

theorem depRefuse_made {M : Nat} (hM : M ||| 8589934720 = M) {s0 : State} (s : State) (o : Op) (status : Nat) (h : Made M s0 s) :
    Ends M s0 (depRefuse s o status) := by
  unfold depRefuse
  try dsimp only
  with_reducible repeat' first
    | intro _ | assumption | apply Ends.done | apply giveRet_made (mask_sub hM rfl)


theorem depTake_made {M : Nat} (hM : M ||| 14538118812163740998305954 = M) {s0 : State} (s : State) (o : Op) (todo : List Act) (slot : Nat) (h : Made M s0 s) :
    Ends M s0 (depTake s o todo slot) := by
  unfold depTake
  try dsimp only
  with_reducible repeat' first
    | intro _ | assumption | apply Ends.done | apply addJob_made (mask_sub hM rfl) | apply setOp_made (mask_sub hM rfl)


theorem execDepWriteData_made {M : Nat} (hM : M ||| 14538118812163740998305954 = M) {s0 : State} (tag : Nat) (got : ReadEnd) (s : State) (h : Made M s0 s) :
    Ends M s0 (execDepWriteData tag got s) := by
  unfold execDepWriteData
  try dsimp only
  with_reducible repeat' first
    | intro _ | assumption | apply Made.ite | apply Ends.ite | apply Ends.done | apply depRefuse_made (mask_sub hM rfl) | apply depTake_made (mask_sub hM rfl) | split


theorem scrubNext_made {M : Nat} (hM : M ||| 295147905179419934722 = M) {s0 : State} (s : State) (lastUnit : Bool) (h : Made M s0 s) :
    Made M s0 (scrubNext s lastUnit) := by
  unfold scrubNext
  try dsimp only
  repeat' first
    | with_reducible first | intro _ | assumption | apply Made.ite | apply setDep_made (mask_sub hM rfl) | apply satAdd_made (mask_sub hM rfl) | split
    | exact blk_at hM rfl rfl


theorem scrubSkip_made {M : Nat} (hM : M ||| 295147905179419934722 = M) {s0 : State} (s : State) (x1 : Nat) (h : Made M s0 s) :
    Made M s0 (scrubSkip s x1) := by
  induction x1 generalizing s with
  | zero =>
    unfold scrubSkip
    try dsimp only
    with_reducible repeat' first
      | intro _ | assumption | apply Made.ite | apply scrubNext_made (mask_sub hM rfl) | split
  | succ _ ih =>
    unfold scrubSkip
    try dsimp only
    with_reducible repeat' first
      | intro _ | assumption | apply ih | apply Made.ite | apply scrubNext_made (mask_sub hM rfl) | split


theorem slotLost_made {M : Nat} (hM : M ||| 9702415533705214098933794 = M) {s0 : State} (s : State) (slot : Nat) (h : Made M s0 s) :
    Made M s0 (slotLost s slot) := by
  unfold slotLost
  try dsimp only
  repeat' first
    | with_reducible first | intro _ | assumption | apply Made.ite | apply alarmUpdate_made (mask_sub hM rfl) | apply raise9_made (mask_sub hM rfl) | apply setDep_made (mask_sub hM rfl) | split
    | exact blk_at hM rfl rfl


theorem scrubRead_made {M : Nat} (hM : M ||| 14538118812163730797758498 = M) {s0 : State} (s : State) (j : Job) (raw : List Byte) (h : Made M s0 s) :
    Made M s0 (scrubRead s j raw) := by
  unfold scrubRead
  try dsimp only
  repeat' first
    | with_reducible first | intro _ | assumption | apply Made.ite | apply scrubNext_made (mask_sub hM rfl) | apply setf_made (mask_sub hM rfl) | apply setDep_made (mask_sub hM rfl) | apply satAdd_made (mask_sub hM rfl) | apply markWeak_made (mask_sub hM rfl) | apply putJob_made (mask_sub hM rfl) | apply lineFailure_made (mask_sub hM rfl) | apply slotLost_made (mask_sub hM rfl) | split
    | exact blk_at hM rfl rfl


theorem execLoadRoundStart_made {M : Nat} (hM : M ||| 14538118812163743145789602 = M) {s0 : State} (s : State) (h : Made M s0 s) :
    Ends M s0 (execLoadRoundStart s) := by
  unfold execLoadRoundStart
  try dsimp only
  repeat' first
    | with_reducible first | intro _ | assumption | apply Made.ite | apply Ends.ite | apply Ends.done | apply addJob_made (mask_sub hM rfl) | apply satAdd_made (mask_sub hM rfl) | apply sendMsg_made (mask_sub hM rfl) | split | apply Made.set_load (mask_sub hM rfl)
    | exact blk_at hM rfl rfl


theorem scrResult_made {M : Nat} (hM : M ||| 4835703278458516698824706 = M) {s0 : State} (s : State) (r : Nat) (h : Made M s0 s) :
    Made M s0 (scrResult s r) := by
  unfold scrResult
  try dsimp only
  repeat' first
    | with_reducible first | intro _ | assumption | apply setf_made (mask_sub hM rfl)
    | exact blk_at hM rfl rfl


theorem execLoadKey_made {M : Nat} (hM : M ||| 4835703278458517235695618 = M) {s0 : State} (key : Nat) (slot : Fin 16) (s : State) (h : Made M s0 s) :
    Ends M s0 (execLoadKey key slot s) := by
  unfold execLoadKey
  try dsimp only
  repeat' first
    | with_reducible first | intro _ | assumption | apply Made.ite | apply Ends.ite | apply Ends.done | apply scrResult_made (mask_sub hM rfl) | apply setKslot_made (mask_sub hM rfl) | apply setf_made (mask_sub hM rfl) | apply wr_made (mask_sub hM rfl) | apply Made.foldl | split | apply Made.set_keys (mask_sub hM rfl)
    | with_reducible exact blk_at hM (F.SCR_KSLOT_KCHK_blk _) rfl | with_reducible exact blk_at hM (R.SCR_KEYW_blk _) rfl


theorem abortDown_made {M : Nat} (hM : M ||| 28334198897494896672802 = M) {s0 : State} (s : State) (r : Nat) (reason : Nat) (h : Made M s0 s) :
    Made M s0 (abortDown s r reason) := by
  unfold abortDown
  try dsimp only
  with_reducible repeat' first
    | intro _ | assumption | apply sendMsg_made (mask_sub hM rfl) | apply Made.set_load (mask_sub hM rfl)


theorem endRoundJob_made {M : Nat} (hM : M ||| 14538118812163740998305954 = M) {s0 : State} (s : State) (h : Made M s0 s) :
    Made M s0 (endRoundJob s) := by
  unfold endRoundJob
  try dsimp only
  with_reducible repeat' first
    | intro _ | assumption | apply setDep_made (mask_sub hM rfl) | apply serveJobs_made (mask_sub hM rfl)


theorem execResend_made {M : Nat} (hM : M ||| 14538118812163743145789602 = M) {s0 : State} (m : Msg) (s : State) (h : Made M s0 s) :
    Ends M s0 (execResend m s) := by
  unfold execResend
  try dsimp only
  repeat' first
    | with_reducible first | intro _ | assumption | apply Made.ite | apply Ends.ite | apply Ends.done | apply takeMsg_made (mask_sub hM rfl) | apply raise_made (mask_sub hM rfl) | apply satAdd_made (mask_sub hM rfl) | apply raise9_made (mask_sub hM rfl) | apply abortDown_made (mask_sub hM rfl) | apply endRoundJob_made (mask_sub hM rfl) | apply sendMsg_made (mask_sub hM rfl) | apply Made.foldl | split | apply Made.set_load (mask_sub hM rfl)
    | exact blk_at hM rfl rfl


theorem floodAck_made {M : Nat} (hM : M ||| 28334198897492749189154 = M) {s0 : State} (s : State) (h : Made M s0 s) :
    Made M s0 (floodAck s) := by
  unfold floodAck
  try dsimp only
  with_reducible repeat' first
    | intro _ | assumption | apply Made.ite | apply sendMsg_made (mask_sub hM rfl) | split


theorem execReqAckRepeat_made {M : Nat} (hM : M ||| 28334198897492749189154 = M) {s0 : State} (s : State) (h : Made M s0 s) :
    Ends M s0 (execReqAckRepeat s) := by
  unfold execReqAckRepeat
  try dsimp only
  with_reducible repeat' first
    | intro _ | assumption | apply Made.ite | apply Ends.ite | apply Ends.done | apply floodAck_made (mask_sub hM rfl) | split


theorem pump_made {M : Nat} (hM : M ||| 28334198897494896672802 = M) {s0 : State} (s : State) (x1 : Nat) (h : Made M s0 s) :
    Made M s0 (pump s x1) := by
  induction x1 generalizing s with
  | zero =>
    unfold pump
    try dsimp only
    with_reducible repeat' first
      | intro _ | assumption | apply Made.ite | apply sendMsg_made (mask_sub hM rfl) | split | apply Made.set_load (mask_sub hM rfl)
  | succ _ ih =>
    unfold pump
    try dsimp only
    with_reducible repeat' first
      | intro _ | assumption | apply ih | apply Made.ite | apply sendMsg_made (mask_sub hM rfl) | split | apply Made.set_load (mask_sub hM rfl)


theorem forwardBytes_made {M : Nat} (hM : M ||| 28334198897494896672802 = M) {s0 : State} (s : State) (bs : List Byte) (h : Made M s0 s) :
    Made M s0 (forwardBytes s bs) := by
  unfold forwardBytes
  try dsimp only
  with_reducible repeat' first
    | intro _ | assumption | apply pump_made (mask_sub hM rfl) | apply Made.set_load (mask_sub hM rfl)


theorem filterStream_made {M : Nat} (hM : M ||| 28629346802674249498658 = M) {s0 : State} (s : State) (x1 : Nat) (h : Made M s0 s) :
    Made M s0 (filterStream s x1) := by
  induction x1 generalizing s with
  | zero =>
    unfold filterStream
    try dsimp only
    repeat' first
      | with_reducible first | intro _ | assumption | apply Made.ite | apply satAdd_made (mask_sub hM rfl) | apply forwardBytes_made (mask_sub hM rfl) | split | apply Made.set_load (mask_sub hM rfl)
      | exact blk_at hM rfl rfl
  | succ _ ih =>
    unfold filterStream
    try dsimp only
    repeat' first
      | with_reducible first | intro _ | assumption | apply ih | apply Made.ite | apply satAdd_made (mask_sub hM rfl) | apply forwardBytes_made (mask_sub hM rfl) | split | apply Made.set_load (mask_sub hM rfl)
      | exact blk_at hM rfl rfl


theorem execChainTryTimeout_made {M : Nat} (hM : M ||| 209177204912002337014413474 = M) {s0 : State} (lock : Bool) (s : State) (h : Made M s0 s) :
    Ends M s0 (execChainTryTimeout lock s) := by
  unfold execChainTryTimeout
  try dsimp only
  with_reducible repeat' first
    | intro _ | assumption | apply Made.ite | apply Ends.ite | apply Ends.done | apply chainTryEnd_made (mask_sub hM rfl) | split


theorem scrJob_made {M : Nat} (hM : M ||| 14538118812163740998305954 = M) {s0 : State} (s : State) (func : Nat) (slot : Nat) (todo : List Act) (h : Made M s0 s) :
    Made M s0 (scrJob s func slot todo) := by
  unfold scrJob
  try dsimp only
  repeat' first
    | with_reducible first | intro _ | assumption | apply setf_made (mask_sub hM rfl) | apply addJob_made (mask_sub hM rfl)
    | exact blk_at hM rfl rfl


theorem roundAborted_made {M : Nat} (hM : M ||| 209177204912002337014413474 = M) {s0 : State} (s : State) (r : Nat) (reason : Nat) (h : Made M s0 s) :
    Made M s0 (roundAborted s r reason) := by
  unfold roundAborted
  try dsimp only
  repeat' first
    | with_reducible first | intro _ | assumption | apply Made.ite | apply raise9_made (mask_sub hM rfl) | apply abortDown_made (mask_sub hM rfl) | apply chainTryEnd_made (mask_sub hM rfl) | split | apply Made.set_load (mask_sub hM rfl)
    | exact blk_at hM rfl rfl


theorem execRoundAbort_made {M : Nat} (hM : M ||| 209177204912002337014413474 = M) {s0 : State} (m : Msg) (s : State) (h : Made M s0 s) :
    Ends M s0 (execRoundAbort m s) := by
  unfold execRoundAbort
  try dsimp only
  with_reducible repeat' first
    | intro _ | assumption | apply Made.ite | apply Ends.ite | apply Ends.done | apply takeMsg_made (mask_sub hM rfl) | apply roundAborted_made (mask_sub hM rfl) | split


theorem depDeliver_made {M : Nat} (hM : M ||| 9703282531521103310882854 = M) {s0 : State} (s : State) (o : Op) (bs : List Byte) (h : Made M s0 s) :
    Made M s0 (depDeliver s o bs).1 := by
  unfold depDeliver
  try dsimp only
  with_reducible repeat' first
    | intro _ | refine Made.of_pair (by assumption) ?_ | assumption | apply Made.ite | apply writeBytes_made (mask_sub hM rfl) | apply noteErr_made (mask_sub hM rfl) | apply hostPut_made (mask_sub hM rfl) | apply Made.ite_fst | split


theorem execDepotScrubDue_made {M : Nat} (hM : M ||| 14538118812163740998305954 = M) {s0 : State} (s : State) (h : Made M s0 s) :
    Ends M s0 (execDepotScrubDue s) := by
  unfold execDepotScrubDue
  try dsimp only
  with_reducible repeat' first
    | intro _ | assumption | apply Made.ite | apply Ends.ite | apply Ends.done | apply setDep_made (mask_sub hM rfl) | apply runJob_made (mask_sub hM rfl) | apply scrubSkip_made (mask_sub hM rfl) | apply putJob_made (mask_sub hM rfl) | split


theorem execImageReqRetry_made {M : Nat} (hM : M ||| 209177204912002337014413474 = M) {s0 : State} (s : State) (h : Made M s0 s) :
    Ends M s0 (execImageReqRetry s) := by
  unfold execImageReqRetry
  try dsimp only
  with_reducible repeat' first
    | intro _ | assumption | apply Made.ite | apply Ends.ite | apply Ends.done | apply sendImageReq_made (mask_sub hM rfl) | apply chainTryEnd_made (mask_sub hM rfl) | split


theorem execImageReq_made {M : Nat} (hM : M ||| 66113130760452058382370 = M) {s0 : State} (m : Msg) (s : State) (h : Made M s0 s) :
    Ends M s0 (execImageReq m s) := by
  unfold execImageReq
  try dsimp only
  with_reducible repeat' first
    | intro _ | assumption | apply Made.ite | apply Ends.ite | apply Ends.done | apply passOn_made (mask_sub hM rfl) | apply takeMsg_made (mask_sub hM rfl) | apply floodAck_made (mask_sub hM rfl) | apply sendMsg_made (mask_sub hM rfl) | split | apply Made.set_load (mask_sub hM rfl)


theorem execRekey_made {M : Nat} (hM : M ||| 14538118812163740998305954 = M) {s0 : State} (key : Nat) (range : Fin 8) (slot : Fin 16) (s : State) (h : Made M s0 s) :
    Ends M s0 (execRekey key range slot s) := by
  unfold execRekey
  try dsimp only
  with_reducible repeat' first
    | intro _ | assumption | apply Made.ite | apply Ends.ite | apply Ends.done | apply scrResult_made (mask_sub hM rfl) | apply scrJob_made (mask_sub hM rfl) | split


theorem chunkAck_made {M : Nat} (hM : M ||| 28334198897494896672802 = M) {s0 : State} (s : State) (r : Nat) (seq : Nat) (h : Made M s0 s) :
    Made M s0 (chunkAck s r seq) := by
  unfold chunkAck
  try dsimp only
  with_reducible repeat' first
    | intro _ | assumption | apply sendMsg_made (mask_sub hM rfl) | apply Made.set_load (mask_sub hM rfl)


theorem execDepWriteSlot_made {M : Nat} (hM : M ||| 14538118812163740998305954 = M) {s0 : State} (tag : Nat) (s : State) (h : Made M s0 s) :
    Ends M s0 (execDepWriteSlot tag s) := by
  unfold execDepWriteSlot
  try dsimp only
  with_reducible repeat' first
    | intro _ | assumption | apply Made.ite | apply Ends.ite | apply Ends.done | apply depRefuse_made (mask_sub hM rfl) | apply depTake_made (mask_sub hM rfl) | split


theorem execChunk_made {M : Nat} (hM : M ||| 28629346802674249498658 = M) {s0 : State} (m : Msg) (s : State) (h : Made M s0 s) :
    Ends M s0 (execChunk m s) := by
  unfold execChunk
  try dsimp only
  repeat' first
    | with_reducible first | intro _ | assumption | apply Made.ite | apply Ends.ite | apply Ends.done | apply takeMsg_made (mask_sub hM rfl) | apply chunkAck_made (mask_sub hM rfl) | apply filterStream_made (mask_sub hM rfl) | apply raise_made (mask_sub hM rfl) | apply satAdd_made (mask_sub hM rfl) | apply sendMsg_made (mask_sub hM rfl) | split | apply Made.set_load (mask_sub hM rfl)
    | exact blk_at hM rfl rfl


theorem execBind_made {M : Nat} (hM : M ||| 14538118812163740998305954 = M) {s0 : State} (key : Nat) (range : Fin 8) (slot : Fin 16) (s : State) (h : Made M s0 s) :
    Ends M s0 (execBind key range slot s) := by
  unfold execBind
  try dsimp only
  repeat' first
    | with_reducible first | intro _ | assumption | apply Made.ite | apply Ends.ite | apply Ends.done | apply scrResult_made (mask_sub hM rfl) | apply setf_made (mask_sub hM rfl) | apply scrJob_made (mask_sub hM rfl) | split
    | with_reducible exact blk_at hM (F.SCR_RNG_CTL_DSLOT_blk _) rfl | with_reducible exact blk_at hM (F.SCR_RNG_CTL_KSLOT_blk _) rfl | with_reducible exact blk_at hM (F.SCR_RNG_TAG_TAG_FIRST_blk _) rfl | with_reducible exact blk_at hM (F.SCR_RNG_TAG_TAG_SPAN_blk _) rfl


theorem bootRead_made {M : Nat} (hM : M ||| 14538118812163741002500258 = M) {s0 : State} (s : State) (j : Job) (raw : List Byte) (h : Made M s0 s) :
    Made M s0 (bootRead s j raw) := by
  unfold bootRead
  try dsimp only
  repeat' first
    | with_reducible first | intro _ | assumption | apply Made.ite | apply markWeak_made (mask_sub hM rfl) | apply endBootJob_made (mask_sub hM rfl) | apply putJob_made (mask_sub hM rfl) | apply satAdd_made (mask_sub hM rfl) | split
    | exact blk_at hM rfl rfl


theorem roundRead_made {M : Nat} (hM : M ||| 14538118812163743145789602 = M) {s0 : State} (s : State) (j : Job) (raw : List Byte) (h : Made M s0 s) :
    Made M s0 (roundRead s j raw) := by
  unfold roundRead
  try dsimp only
  repeat' first
    | with_reducible first | intro _ | assumption | apply Made.ite | apply markWeak_made (mask_sub hM rfl) | apply putJob_made (mask_sub hM rfl) | apply forwardBytes_made (mask_sub hM rfl) | apply endRoundJob_made (mask_sub hM rfl) | apply satAdd_made (mask_sub hM rfl) | apply abortDown_made (mask_sub hM rfl) | split | apply Made.set_load (mask_sub hM rfl)
    | exact blk_at hM rfl rfl


theorem endRead_made {M : Nat} (hM : M ||| 14538118812163740998305954 = M) {s0 : State} (s : State) (j : Job) (r : Ret) (h : Made M s0 s) :
    Made M s0 (endRead s j r) := by
  unfold endRead
  try dsimp only
  with_reducible repeat' first
    | intro _ | assumption | apply endJob_made (mask_sub hM rfl) | apply serveJobs_made (mask_sub hM rfl)


theorem readLineStep_made {M : Nat} (hM : M ||| 14539299404628883339741350 = M) {s0 : State} (s : State) (j : Job) (o : Op) (raw : List Byte) (h : Made M s0 s) :
    Made M s0 (readLineStep s j o raw) := by
  unfold readLineStep
  try dsimp only
  repeat' first
    | with_reducible first | intro _ | refine Made.of_pair (by assumption) ?_ | assumption | apply Made.ite | apply depDeliver_made (mask_sub hM rfl) | apply endRead_made (mask_sub hM rfl) | apply putJob_made (mask_sub hM rfl) | apply satAdd_made (mask_sub hM rfl) | apply markWeak_made (mask_sub hM rfl) | apply lineFailure_made (mask_sub hM rfl) | apply Made.ite_fst | split
    | exact blk_at hM rfl rfl


theorem takeFlashReadDone_made {M : Nat} (hM : M ||| 14539299404628885491419302 = M) {s0 : State} (got : Option (List Byte)) (s : State) (h : Made M s0 s) :
    Ends M s0 (takeFlashReadDone got s) := by
  unfold takeFlashReadDone
  try dsimp only
  with_reducible repeat' first
    | intro _ | refine Made.of_pair (by assumption) ?_ | assumption | apply Made.ite | apply Ends.ite | apply Ends.done | apply endBootJob_made (mask_sub hM rfl) | apply bootRead_made (mask_sub hM rfl) | apply roundRead_made (mask_sub hM rfl) | apply endRoundJob_made (mask_sub hM rfl) | apply endRead_made (mask_sub hM rfl) | apply readLineStep_made (mask_sub hM rfl) | apply depDeliver_made (mask_sub hM rfl) | apply scrubRead_made (mask_sub hM rfl) | apply Made.ite_fst | split


theorem execFlashProgramDone_made {M : Nat} (hM : M ||| 14538118812163741132523682 = M) {s0 : State} (ok : Bool) (s : State) (h : Made M s0 s) :
    Ends M s0 (execFlashProgramDone ok s) := by
  unfold execFlashProgramDone
  try dsimp only
  with_reducible repeat' first
    | intro _ | assumption | apply Ends.done | apply programDone_made (mask_sub hM rfl)


theorem execReqAck_made {M : Nat} (hM : M ||| 28334198897494896672802 = M) {s0 : State} (m : Msg) (s : State) (h : Made M s0 s) :
    Ends M s0 (execReqAck m s) := by
  unfold execReqAck
  try dsimp only
  with_reducible repeat' first
    | intro _ | assumption | apply Made.ite | apply Ends.ite | apply Ends.done | apply takeFlood_made (mask_sub hM rfl) | split | apply Made.set_load (mask_sub hM rfl)


theorem execClearKey_made {M : Nat} (hM : M ||| 4835703278458517235695618 = M) {s0 : State} (key : Nat) (slot : Fin 16) (s : State) (h : Made M s0 s) :
    Ends M s0 (execClearKey key slot s) := by
  unfold execClearKey
  try dsimp only
  with_reducible repeat' first
    | intro _ | assumption | apply Made.ite | apply Ends.ite | apply Ends.done | apply scrResult_made (mask_sub hM rfl) | apply emptyKslot_made (mask_sub hM rfl) | split


theorem resumeRange_made {M : Nat} (hM : M ||| 14538118812163740998305954 = M) {s0 : State} (s : State) (r : Nat) (h : Made M s0 s) :
    Made M s0 (resumeRange s r) := by
  unfold resumeRange
  try dsimp only
  repeat' first
    | with_reducible first | intro _ | assumption | apply addJob_made (mask_sub hM rfl) | apply raise_made (mask_sub hM rfl) | split
    | exact blk_at hM rfl rfl


theorem execDepotDiscovery_made {M : Nat} (hM : M ||| 14538118812163741002500258 = M) {s0 : State} (x0 : Sfdp) (s : State) (h : Made M s0 s) :
    Ends M s0 (execDepotDiscovery x0 s) := by
  unfold execDepotDiscovery
  try dsimp only
  repeat' first
    | with_reducible first | intro _ | assumption | apply Made.ite | apply Ends.ite | apply Ends.done | apply setDep_made (mask_sub hM rfl) | apply setf_made (mask_sub hM rfl) | apply showDir_made (mask_sub hM rfl) | apply setDir_made (mask_sub hM rfl) | apply resumeRange_made (mask_sub hM rfl) | apply bootJob_made (mask_sub hM rfl) | apply setBoot_made (mask_sub hM rfl) | apply Made.foldl | split
    | exact blk_at hM rfl rfl


theorem depTakeRead_made {M : Nat} (hM : M ||| 14538118812163740998305954 = M) {s0 : State} (s : State) (o : Op) (off : Nat) (h : Made M s0 s) :
    Ends M s0 (depTakeRead s o off) := by
  unfold depTakeRead
  try dsimp only
  with_reducible repeat' first
    | intro _ | assumption | apply Ends.done | apply addJob_made (mask_sub hM rfl) | apply setOp_made (mask_sub hM rfl)


theorem execDepReadSlot_made {M : Nat} (hM : M ||| 14538118812163740998305954 = M) {s0 : State} (tag : Nat) (s : State) (h : Made M s0 s) :
    Ends M s0 (execDepReadSlot tag s) := by
  unfold execDepReadSlot
  try dsimp only
  with_reducible repeat' first
    | intro _ | assumption | apply Made.ite | apply Ends.ite | apply Ends.done | apply depRefuse_made (mask_sub hM rfl) | apply depTakeRead_made (mask_sub hM rfl) | split


theorem execRoundEnd_made {M : Nat} (hM : M ||| 209177204912002337014413474 = M) {s0 : State} (m : Msg) (s : State) (h : Made M s0 s) :
    Ends M s0 (execRoundEnd m s) := by
  unfold execRoundEnd
  try dsimp only
  with_reducible repeat' first
    | intro _ | assumption | apply Made.ite | apply Ends.ite | apply Ends.done | apply takeMsg_made (mask_sub hM rfl) | apply chunkAck_made (mask_sub hM rfl) | apply pump_made (mask_sub hM rfl) | apply chainTryEnd_made (mask_sub hM rfl) | split | apply Made.set_load (mask_sub hM rfl)


theorem execRoundBegin_made {M : Nat} (hM : M ||| 28629346802674249498658 = M) {s0 : State} (m : Msg) (s : State) (h : Made M s0 s) :
    Ends M s0 (execRoundBegin m s) := by
  unfold execRoundBegin
  try dsimp only
  repeat' first
    | with_reducible first | intro _ | assumption | apply Made.ite | apply Ends.ite | apply Ends.done | apply takeMsg_made (mask_sub hM rfl) | apply sendMsg_made (mask_sub hM rfl) | apply satAdd_made (mask_sub hM rfl) | split | apply Made.set_load (mask_sub hM rfl)
    | exact blk_at hM rfl rfl


theorem execChunkAck_made {M : Nat} (hM : M ||| 28334198897494896672802 = M) {s0 : State} (m : Msg) (s : State) (h : Made M s0 s) :
    Ends M s0 (execChunkAck m s) := by
  unfold execChunkAck
  try dsimp only
  with_reducible repeat' first
    | intro _ | assumption | apply Made.ite | apply Ends.ite | apply Ends.done | apply takeMsg_made (mask_sub hM rfl) | apply pump_made (mask_sub hM rfl) | split | apply Made.set_load (mask_sub hM rfl)


theorem execErase_made {M : Nat} (hM : M ||| 14538118812163758178175138 = M) {s0 : State} (key : Nat) (range : Fin 8) (unbind : Bool) (s : State) (h : Made M s0 s) :
    Ends M s0 (execErase key range unbind s) := by
  unfold execErase
  try dsimp only
  with_reducible repeat' first
    | intro _ | assumption | apply Made.ite | apply Ends.ite | apply Ends.done | apply scrResult_made (mask_sub hM rfl) | apply scrJob_made (mask_sub hM rfl) | split | apply Made.set_scrUnbind (mask_sub hM rfl)


theorem execDepWriteImage_made {M : Nat} (hM : M ||| 14538118812163740998305954 = M) {s0 : State} (tag : Nat) (got : ReadEnd) (s : State) (h : Made M s0 s) :
    Ends M s0 (execDepWriteImage tag got s) := by
  unfold execDepWriteImage
  try dsimp only
  with_reducible repeat' first
    | intro _ | assumption | apply Made.ite | apply Ends.ite | apply Ends.done | apply depRefuse_made (mask_sub hM rfl) | apply depTake_made (mask_sub hM rfl) | split


theorem execDepReadDirectory_made {M : Nat} (hM : M ||| 14538118812163740998305954 = M) {s0 : State} (tag : Nat) (s : State) (h : Made M s0 s) :
    Ends M s0 (execDepReadDirectory tag s) := by
  unfold execDepReadDirectory
  try dsimp only
  with_reducible repeat' first
    | intro _ | assumption | apply Made.ite | apply Ends.ite | apply Ends.done | apply depTakeRead_made (mask_sub hM rfl) | apply depRefuse_made (mask_sub hM rfl) | split


theorem execFlashEraseDone_made {M : Nat} (hM : M ||| 14538118812163741400959138 = M) {s0 : State} (ok : Bool) (s : State) (h : Made M s0 s) :
    Ends M s0 (execFlashEraseDone ok s) := by
  unfold execFlashEraseDone
  try dsimp only
  with_reducible repeat' first
    | intro _ | assumption | apply Ends.done | apply eraseDone_made (mask_sub hM rfl)


theorem execDepWriteFormat_made {M : Nat} (hM : M ||| 14538118812163740998305954 = M) {s0 : State} (tag : Nat) (s : State) (h : Made M s0 s) :
    Ends M s0 (execDepWriteFormat tag s) := by
  unfold execDepWriteFormat
  try dsimp only
  with_reducible repeat' first
    | intro _ | assumption | apply Made.ite | apply Ends.ite | apply Ends.done | apply depRefuse_made (mask_sub hM rfl) | apply setDir_made (mask_sub hM rfl) | apply depTake_made (mask_sub hM rfl) | split


theorem execDepReadRaw_made {M : Nat} (hM : M ||| 14538118812163740998305954 = M) {s0 : State} (tag : Nat) (s : State) (h : Made M s0 s) :
    Ends M s0 (execDepReadRaw tag s) := by
  unfold execDepReadRaw
  try dsimp only
  with_reducible repeat' first
    | intro _ | assumption | apply Made.ite | apply Ends.ite | apply Ends.done | apply depRefuse_made (mask_sub hM rfl) | apply depTakeRead_made (mask_sub hM rfl) | split


end Sys2Proof.Machine
end

