-- ==== Sys2Proof/Laws/MadeNva.lean ====
section
/-! SUPPORT. Nva.lean, operation by operation: the fields it leaves as they are, and that it keeps the stores canonical. -/
set_option linter.all false
namespace Sys2Proof.Machine
set_option Elab.async false

theorem nvTrig_made {M : Nat} (hM : M ||| 590295810358705651714 = M) {s0 : State} (m : Master) (a : Nat) (data : W32) (code : Nat) (s : State) (act : State → State) (k_act : ∀ t , Made M s0 t → Made M s0 (act t )) (b_a : M.testBit (64 + blockOf a) = true) (h : Made M s0 s) :
    Made M s0 (nvTrig m a data code s act) := by
  unfold nvTrig
  try dsimp only
  repeat' first
    | with_reducible first | intro _ | assumption | apply k_act | apply Made.ite | apply satAdd_made (mask_sub hM rfl) | apply wr_made (mask_sub hM rfl) | apply setf_made (mask_sub hM rfl) | split
    | assumption | exact blk_at hM rfl rfl


theorem nvDeny_made {M : Nat} (hM : M ||| 590295810358705651714 = M) {s0 : State} (s : State) (err : Nat) (h : Made M s0 s) :
    Made M s0 (nvDeny s err) := by
  unfold nvDeny
  try dsimp only
  repeat' first
    | with_reducible first | intro _ | assumption | apply setf_made (mask_sub hM rfl)
    | exact blk_at hM rfl rfl


theorem regEnd_made {M : Nat} (hM : M ||| 590295810358705651714 = M) {s0 : State} (s : State) (err : Nat) (h : Made M s0 s) :
    Made M s0 (regEnd s err) := by
  unfold regEnd
  try dsimp only
  repeat' first
    | with_reducible first | intro _ | assumption | apply setf_made (mask_sub hM rfl)
    | exact blk_at hM rfl rfl


theorem showNva_made {M : Nat} (hM : M ||| 590295810358705651714 = M) {s0 : State} (s : State) (h : Made M s0 s) :
    Made M s0 (showNva s) := by
  unfold showNva
  try dsimp only
  repeat' first
    | with_reducible first | intro _ | assumption | apply setf_made (mask_sub hM rfl) | split
    | exact blk_at hM rfl rfl


theorem setNva_made {M : Nat} (hM : M ||| 34359738368 = M) {s0 : State} (s : State) (x1 : Nva) (h : Made M s0 s) :
    Made M s0 (setNva s x1) := by
  unfold setNva
  try dsimp only
  with_reducible repeat' first
    | intro _ | assumption | apply Made.set_nva (mask_sub hM rfl)


theorem nvEngine_made {M : Nat} (hM : M ||| 590295810393065390082 = M) {s0 : State} (s : State) (x1 : Nva) (h : Made M s0 s) :
    Made M s0 (nvEngine s x1) := by
  unfold nvEngine
  try dsimp only
  with_reducible repeat' first
    | intro _ | assumption | apply showNva_made (mask_sub hM rfl) | apply setNva_made (mask_sub hM rfl)


theorem execResume_made {M : Nat} (hM : M ||| 590295810393065390082 = M) {s0 : State} (m : Master) (addr : W32) (s : State) (h : Made M s0 s) :
    Ends M s0 (execResume m addr s) := by
  unfold execResume
  try dsimp only
  repeat' first
    | with_reducible first | intro _ | assumption | apply Made.ite | apply Ends.ite | apply Ends.done | apply nvTrig_made (mask_sub hM rfl) | apply nvDeny_made (mask_sub hM rfl) | apply regEnd_made (mask_sub hM rfl) | apply nvEngine_made (mask_sub hM rfl) | split
    | exact blk_at hM rfl rfl


theorem nvClear_made {M : Nat} (hM : M ||| 137439084560 = M) {s0 : State} (s : State) (k : Nat) (undef : Bool) (h : Made M s0 s) :
    Made M s0 (nvClear s k undef) := by
  unfold nvClear
  try dsimp only
  with_reducible repeat' first
    | intro _ | assumption | apply Made.ite | apply drawn_made (mask_sub hM rfl) | apply nvWipe_made (mask_sub hM rfl) | split


theorem nvRun_made {M : Nat} (hM : M ||| 590295810393065390082 = M) {s0 : State} (s : State) (x1 : NvOp) (h : Made M s0 s) :
    Made M s0 (nvRun s x1) := by
  unfold nvRun
  try dsimp only
  with_reducible repeat' first
    | intro _ | assumption | apply nvEngine_made (mask_sub hM rfl) | split


theorem beginNvErase_made {M : Nat} (hM : M ||| 9702692234866491473922098 = M) {s0 : State} (s : State) (x1 : NvOp) (h : Made M s0 s) :
    Made M s0 (beginNvErase s x1) := by
  unfold beginNvErase
  try dsimp only
  repeat' first
    | with_reducible first | intro _ | assumption | apply Made.ite | apply raise9_made (mask_sub hM rfl) | apply satAdd_made (mask_sub hM rfl) | apply wr_made (mask_sub hM rfl) | apply nvClear_made (mask_sub hM rfl) | apply nvRun_made (mask_sub hM rfl) | apply setNva_made (mask_sub hM rfl) | apply Made.foldl | split
    | with_reducible exact blk_at hM (F.NVA_ECNT_COUNT_blk _) rfl | exact blk_at hM rfl rfl


theorem execEraseBlock_made {M : Nat} (hM : M ||| 9702692234866491473922098 = M) {s0 : State} (m : Master) (addr : W32) (s : State) (h : Made M s0 s) :
    Ends M s0 (execEraseBlock m addr s) := by
  unfold execEraseBlock
  try dsimp only
  repeat' first
    | with_reducible first | intro _ | assumption | apply Ends.done | apply nvTrig_made (mask_sub hM rfl) | apply nvDeny_made (mask_sub hM rfl) | apply beginNvErase_made (mask_sub hM rfl) | split
    | exact blk_at hM rfl rfl


theorem queueWeak_made {M : Nat} (hM : M ||| 34359738368 = M) {s0 : State} (s : State) (l : Nat) (h : Made M s0 s) :
    Made M s0 (queueWeak s l) := by
  unfold queueWeak
  try dsimp only
  with_reducible repeat' first
    | intro _ | assumption | apply Made.ite | apply setNva_made (mask_sub hM rfl) | split


theorem marginRead_made {M : Nat} (hM : M ||| 590295810393065390082 = M) {s0 : State} (s : State) (weak : Bool) (h : Made M s0 s) :
    Made M s0 (marginRead s weak) := by
  unfold marginRead
  try dsimp only
  repeat' first
    | with_reducible first | intro _ | assumption | apply Made.ite | apply queueWeak_made (mask_sub hM rfl) | apply satAdd_made (mask_sub hM rfl) | apply setNva_made (mask_sub hM rfl) | split
    | exact blk_at hM rfl rfl


theorem execNvScrubMarginRead_made {M : Nat} (hM : M ||| 590295810393065390082 = M) {s0 : State} (weak : Bool) (s : State) (h : Made M s0 s) :
    Ends M s0 (execNvScrubMarginRead weak s) := by
  unfold execNvScrubMarginRead
  try dsimp only
  with_reducible repeat' first
    | intro _ | assumption | apply Made.ite | apply Ends.ite | apply Ends.done | apply marginRead_made (mask_sub hM rfl) | split


theorem execNvaSuspendEffect_made {M : Nat} (hM : M ||| 590295810393065390082 = M) {s0 : State} (cut : Bool) (s : State) (h : Made M s0 s) :
    Ends M s0 (execNvaSuspendEffect cut s) := by
  unfold execNvaSuspendEffect
  try dsimp only
  repeat' first
    | with_reducible first | intro _ | assumption | apply Made.ite | apply Ends.ite | apply Ends.done | apply satAdd_made (mask_sub hM rfl) | apply nvEngine_made (mask_sub hM rfl) | apply regEnd_made (mask_sub hM rfl) | split
    | exact blk_at hM rfl rfl


theorem askSuspend_made {M : Nat} (hM : M ||| 34359738368 = M) {s0 : State} (s : State) (l : Nat) (h : Made M s0 s) :
    Made M s0 (askSuspend s l) := by
  unfold askSuspend
  try dsimp only
  with_reducible repeat' first
    | intro _ | assumption | apply Made.ite | apply setNva_made (mask_sub hM rfl) | split


theorem nvEcc_made {M : Nat} (hM : M ||| 9703872826487071446140962 = M) {s0 : State} (s : State) (l : Nat) (err : Nat) (h : Made M s0 s) :
    Made M s0 (nvEcc s l err) := by
  unfold nvEcc
  try dsimp only
  repeat' first
    | with_reducible first | intro _ | assumption | apply Made.ite | apply queueWeak_made (mask_sub hM rfl) | apply satAdd_made (mask_sub hM rfl) | apply noteErr_made (mask_sub hM rfl) | apply raise9_made (mask_sub hM rfl) | split
    | exact blk_at hM rfl rfl


theorem nvYield_made {M : Nat} (hM : M ||| 590295810393065390082 = M) {s0 : State} (s : State) (h : Made M s0 s) :
    Made M s0 (nvYield s) := by
  unfold nvYield
  try dsimp only
  repeat' first
    | with_reducible first | intro _ | assumption | apply Made.ite | apply satAdd_made (mask_sub hM rfl) | apply setNva_made (mask_sub hM rfl) | split
    | exact blk_at hM rfl rfl


theorem execNvLineRead_made {M : Nat} (hM : M ||| 164446377737159605808531490 = M) {s0 : State} (m : Nat) (line : Fin 524288) (err : Nat) (fetch : Bool) (yields : Bool) (s : State) (h : Made M s0 s) :
    Ends M s0 (execNvLineRead m line err fetch yields s) := by
  unfold execNvLineRead
  try dsimp only
  repeat' first
    | with_reducible first | intro _ | assumption | apply Made.ite | apply Ends.ite | apply Ends.done | apply satAdd_made (mask_sub hM rfl) | apply emit_made (mask_sub hM rfl) | apply askSuspend_made (mask_sub hM rfl) | apply nvYield_made (mask_sub hM rfl) | apply nvEcc_made (mask_sub hM rfl) | apply noteNvRead_made (mask_sub hM rfl) | split
    | with_reducible exact blk_at hM (F.FAB_SOCK_ERRS_blk _) rfl


theorem nvEnd_made {M : Nat} (hM : M ||| 590295810393065390082 = M) {s0 : State} (s : State) (h : Made M s0 s) :
    Made M s0 (nvEnd s) := by
  unfold nvEnd
  try dsimp only
  with_reducible repeat' first
    | intro _ | assumption | apply nvEngine_made (mask_sub hM rfl) | split


theorem execNvaPageLatchLoaded_made {M : Nat} (hM : M ||| 9703872826487071446140962 = M) {s0 : State} (s : State) (h : Made M s0 s) :
    Ends M s0 (execNvaPageLatchLoaded s) := by
  unfold execNvaPageLatchLoaded
  try dsimp only
  with_reducible repeat' first
    | intro _ | assumption | apply Made.ite | apply Ends.ite | apply Ends.done | apply regEnd_made (mask_sub hM rfl) | apply nvEnd_made (mask_sub hM rfl) | apply noteErr_made (mask_sub hM rfl) | apply setNva_made (mask_sub hM rfl) | split


theorem execProgramPage_made {M : Nat} (hM : M ||| 590295810393065390082 = M) {s0 : State} (m : Master) (addr : W32) (s : State) (h : Made M s0 s) :
    Ends M s0 (execProgramPage m addr s) := by
  unfold execProgramPage
  try dsimp only
  repeat' first
    | with_reducible first | intro _ | assumption | apply Made.ite | apply Ends.ite | apply Ends.done | apply nvTrig_made (mask_sub hM rfl) | apply nvDeny_made (mask_sub hM rfl) | apply nvRun_made (mask_sub hM rfl) | split
    | exact blk_at hM rfl rfl


theorem nvBreak_made {M : Nat} (hM : M ||| 590295810358705651714 = M) {s0 : State} (s : State) (h : Made M s0 s) :
    Made M s0 (nvBreak s) := by
  unfold nvBreak
  try dsimp only
  repeat' first
    | with_reducible first | intro _ | assumption | apply setf_made (mask_sub hM rfl)
    | exact blk_at hM rfl rfl


theorem execNvaKey_made {M : Nat} (hM : M ||| 590295810358705651714 = M) {s0 : State} (m : Master) (data : W32) (s : State) (h : Made M s0 s) :
    Ends M s0 (execNvaKey m data s) := by
  unfold execNvaKey
  try dsimp only
  repeat' first
    | with_reducible first | intro _ | assumption | apply Made.ite | apply Ends.ite | apply Ends.done | apply satAdd_made (mask_sub hM rfl) | apply setf_made (mask_sub hM rfl) | apply nvBreak_made (mask_sub hM rfl) | split
    | exact blk_at hM rfl rfl


theorem holdAge_made {M : Nat} (hM : M ||| 590295810393065390082 = M) {s0 : State} (s : State) (h : Made M s0 s) :
    Made M s0 (holdAge s) := by
  unfold holdAge
  try dsimp only
  repeat' first
    | with_reducible first | intro _ | assumption | apply setNva_made (mask_sub hM rfl) | apply setf_made (mask_sub hM rfl) | split
    | exact blk_at hM rfl rfl


theorem markIncomplete_made {M : Nat} (hM : M ||| 9702692234866388394575906 = M) {s0 : State} (s : State) (x1 : NvOp) (h : Made M s0 s) :
    Made M s0 (markIncomplete s x1) := by
  unfold markIncomplete
  try dsimp only
  repeat' first
    | with_reducible first | intro _ | assumption | apply raise9_made (mask_sub hM rfl) | apply Made.foldl | apply Made.set_nvIncomplete (mask_sub hM rfl)
    | exact blk_at hM rfl rfl


theorem nvAbandon_made {M : Nat} (hM : M ||| 9702692234866422754314274 = M) {s0 : State} (s : State) (h : Made M s0 s) :
    Made M s0 (nvAbandon s) := by
  unfold nvAbandon
  try dsimp only
  with_reducible repeat' first
    | intro _ | assumption | apply Made.ite | apply holdAge_made (mask_sub hM rfl) | apply markIncomplete_made (mask_sub hM rfl) | apply nvEngine_made (mask_sub hM rfl) | split


theorem execNvaCmd_made {M : Nat} (hM : M ||| 590295810393065390082 = M) {s0 : State} (m : Master) (data : W32) (s : State) (h : Made M s0 s) :
    Ends M s0 (execNvaCmd m data s) := by
  unfold execNvaCmd
  try dsimp only
  repeat' first
    | with_reducible first | intro _ | assumption | apply Made.ite | apply Ends.ite | apply Ends.done | apply satAdd_made (mask_sub hM rfl) | apply nvBreak_made (mask_sub hM rfl) | apply setNva_made (mask_sub hM rfl) | apply setf_made (mask_sub hM rfl) | split
    | exact blk_at hM rfl rfl


theorem execSuspend_made {M : Nat} (hM : M ||| 590295810393065390082 = M) {s0 : State} (m : Master) (addr : W32) (s : State) (h : Made M s0 s) :
    Ends M s0 (execSuspend m addr s) := by
  unfold execSuspend
  try dsimp only
  repeat' first
    | with_reducible first | intro _ | assumption | apply Made.ite | apply Ends.ite | apply Ends.done | apply nvTrig_made (mask_sub hM rfl) | apply nvDeny_made (mask_sub hM rfl) | apply regEnd_made (mask_sub hM rfl) | apply nvEngine_made (mask_sub hM rfl) | apply setNva_made (mask_sub hM rfl) | split
    | exact blk_at hM rfl rfl


theorem refreshLine_made {M : Nat} (hM : M ||| 590295810393065390082 = M) {s0 : State} (s : State) (h : Made M s0 s) :
    Made M s0 (refreshLine s) := by
  unfold refreshLine
  try dsimp only
  repeat' first
    | with_reducible first | intro _ | assumption | apply satAdd_made (mask_sub hM rfl) | apply setNva_made (mask_sub hM rfl) | split
    | exact blk_at hM rfl rfl


theorem execNvScrubRefresh_made {M : Nat} (hM : M ||| 590295810393065390082 = M) {s0 : State} (s : State) (h : Made M s0 s) :
    Ends M s0 (execNvScrubRefresh s) := by
  unfold execNvScrubRefresh
  try dsimp only
  with_reducible repeat' first
    | intro _ | assumption | apply Made.ite | apply Ends.ite | apply Ends.done | apply refreshLine_made (mask_sub hM rfl) | split


theorem nvRet_made {M : Nat} (hM : M ||| 8589934720 = M) {s0 : State} (s : State) (o : Op) (n : Nat) (err : Nat) (h : Made M s0 s) :
    Made M s0 (nvRet s o n err) := by
  unfold nvRet
  try dsimp only
  with_reducible repeat' first
    | intro _ | assumption | apply giveRet_made (mask_sub hM rfl)


theorem nvNext_made {M : Nat} (hM : M ||| 9702692234866500063856818 = M) {s0 : State} (s : State) (o : Op) (h : Made M s0 s) :
    Made M s0 (nvNext s o) := by
  unfold nvNext
  try dsimp only
  with_reducible repeat' first
    | intro _ | assumption | apply Made.ite | apply nvRet_made (mask_sub hM rfl) | apply nvRun_made (mask_sub hM rfl) | apply beginNvErase_made (mask_sub hM rfl) | apply setOp_made (mask_sub hM rfl) | split


theorem execReadCounter_made {M : Nat} (hM : M ||| 590295810358705651714 = M) {s0 : State} (m : Master) (addr : W32) (s : State) (h : Made M s0 s) :
    Ends M s0 (execReadCounter m addr s) := by
  unfold execReadCounter
  try dsimp only
  repeat' first
    | with_reducible first | intro _ | assumption | apply Made.ite | apply Ends.ite | apply Ends.done | apply nvTrig_made (mask_sub hM rfl) | apply nvDeny_made (mask_sub hM rfl) | apply wr_made (mask_sub hM rfl) | apply regEnd_made (mask_sub hM rfl) | split
    | with_reducible exact blk_at hM (R.NVA_DATA_blk _) rfl | exact blk_at hM rfl rfl


theorem execNvaWpLock_made {M : Nat} (hM : M ||| 590295810358705651714 = M) {s0 : State} (s : State) (h : Made M s0 s) :
    Ends M s0 (execNvaWpLock s) := by
  unfold execNvaWpLock
  try dsimp only
  repeat' first
    | with_reducible first | intro _ | assumption | apply Made.ite | apply Ends.ite | apply Ends.done | apply setf_made (mask_sub hM rfl) | split
    | exact blk_at hM rfl rfl


theorem programLines_made {M : Nat} (hM : M ||| 131072 = M) {s0 : State} (s : State) (a : Nat) (bs : List Byte) (x3 : Nat) (h : Made M s0 s) :
    Made M s0 (programLines s a bs x3).1 := by
  induction x3 generalizing s a bs with
  | zero =>
    unfold programLines
    try dsimp only
    with_reducible repeat' first
      | intro _ | assumption | apply Made.ite | apply nvPutBytes_made (mask_sub hM rfl) | apply Made.ite_fst | split
  | succ _ ih =>
    unfold programLines
    try dsimp only
    with_reducible repeat' first
      | intro _ | assumption | apply ih | apply Made.ite | apply nvPutBytes_made (mask_sub hM rfl) | apply Made.ite_fst | split


theorem nvUnitDone_made {M : Nat} (hM : M ||| 9702692234866500063856818 = M) {s0 : State} (s : State) (tag : Nat) (n : Nat) (err : Nat) (h : Made M s0 s) :
    Made M s0 (nvUnitDone s tag n err) := by
  unfold nvUnitDone
  try dsimp only
  with_reducible repeat' first
    | intro _ | assumption | apply Made.ite | apply nvNext_made (mask_sub hM rfl) | apply setOp_made (mask_sub hM rfl) | apply nvRet_made (mask_sub hM rfl) | split


theorem execNvaProgramDone_made {M : Nat} (hM : M ||| 9702692234866500063856818 = M) {s0 : State} (badLine : Option (Fin 16)) (s : State) (h : Made M s0 s) :
    Ends M s0 (execNvaProgramDone badLine s) := by
  unfold execNvaProgramDone
  try dsimp only
  with_reducible repeat' first
    | intro _ | refine Made.of_pair (by assumption) ?_ | assumption | apply Made.ite | apply Ends.ite | apply Ends.done | apply programLines_made (mask_sub hM rfl) | apply nvPutBytes_made (mask_sub hM rfl) | apply drawn_made (mask_sub hM rfl) | apply nvEnd_made (mask_sub hM rfl) | apply nvUnitDone_made (mask_sub hM rfl) | apply regEnd_made (mask_sub hM rfl) | apply Made.ite_fst | split


theorem execNvScrubStarve_made {M : Nat} (hM : M ||| 590295810393065390082 = M) {s0 : State} (refresh : Bool) (weak : Bool) (s : State) (h : Made M s0 s) :
    Ends M s0 (execNvScrubStarve refresh weak s) := by
  unfold execNvScrubStarve
  try dsimp only
  with_reducible repeat' first
    | intro _ | assumption | apply Made.ite | apply Ends.ite | apply Ends.done | apply refreshLine_made (mask_sub hM rfl) | apply marginRead_made (mask_sub hM rfl) | split


theorem takeNvaRead_made {M : Nat} (hM : M ||| 9703872827331504966207654 = M) {s0 : State} (tag : Nat) (corr : List Nat) (bad : Option Nat) (s : State) (h : Made M s0 s) :
    Ends M s0 (takeNvaRead tag corr bad s) := by
  unfold takeNvaRead
  try dsimp only
  with_reducible repeat' first
    | intro _ | refine Made.of_pair (by assumption) ?_ | assumption | apply Made.ite | apply Ends.ite | apply Ends.done | apply giveRet_made (mask_sub hM rfl) | apply askSuspend_made (mask_sub hM rfl) | apply nvEcc_made (mask_sub hM rfl) | apply noteNvRead_made (mask_sub hM rfl) | apply moverPut_made (mask_sub hM rfl) | apply noteErr_made (mask_sub hM rfl) | apply Made.ite_fst | apply Made.foldl | split


theorem execNvaProg_made {M : Nat} (hM : M ||| 9703872826487217475160242 = M) {s0 : State} (tag : Nat) (hq : ReadEnd) (s : State) (h : Made M s0 s) :
    Ends M s0 (execNvaProg tag hq s) := by
  unfold execNvaProg
  try dsimp only
  with_reducible repeat' first
    | intro _ | assumption | apply Made.ite | apply Ends.ite | apply Ends.done | apply giveRet_made (mask_sub hM rfl) | apply nvRet_made (mask_sub hM rfl) | apply noteErr_made (mask_sub hM rfl) | apply nvNext_made (mask_sub hM rfl) | apply setOp_made (mask_sub hM rfl) | split


theorem execProgramLine_made {M : Nat} (hM : M ||| 590295810393065390082 = M) {s0 : State} (m : Master) (data : W32) (s : State) (h : Made M s0 s) :
    Ends M s0 (execProgramLine m data s) := by
  unfold execProgramLine
  try dsimp only
  repeat' first
    | with_reducible first | intro _ | assumption | apply Made.ite | apply Ends.ite | apply Ends.done | apply nvTrig_made (mask_sub hM rfl) | apply nvDeny_made (mask_sub hM rfl) | apply regEnd_made (mask_sub hM rfl) | apply nvRun_made (mask_sub hM rfl) | split
    | with_reducible exact blk_at hM (R.NVA_DATA_blk _) rfl


theorem execNvaWpSet_made {M : Nat} (hM : M ||| 590295810358705651714 = M) {s0 : State} (idx : Fin 64) (data : W32) (s : State) (h : Made M s0 s) :
    Ends M s0 (execNvaWpSet idx data s) := by
  unfold execNvaWpSet
  try dsimp only
  repeat' first
    | with_reducible first | intro _ | assumption | apply Made.ite | apply Ends.ite | apply Ends.done | apply wr_made (mask_sub hM rfl) | split
    | with_reducible exact blk_at hM (R.NVA_WP_SET_blk _) rfl


theorem execNvaErasePulse_made {M : Nat} (hM : M ||| 590295810393065390082 = M) {s0 : State} (s : State) (h : Made M s0 s) :
    Ends M s0 (execNvaErasePulse s) := by
  unfold execNvaErasePulse
  try dsimp only
  repeat' first
    | with_reducible first | intro _ | assumption | apply Made.ite | apply Ends.ite | apply Ends.done | apply setNva_made (mask_sub hM rfl) | apply setf_made (mask_sub hM rfl) | split
    | exact blk_at hM rfl rfl


theorem execEraseSector_made {M : Nat} (hM : M ||| 9702692234866491473922098 = M) {s0 : State} (m : Master) (addr : W32) (s : State) (h : Made M s0 s) :
    Ends M s0 (execEraseSector m addr s) := by
  unfold execEraseSector
  try dsimp only
  repeat' first
    | with_reducible first | intro _ | assumption | apply Ends.done | apply nvTrig_made (mask_sub hM rfl) | apply nvDeny_made (mask_sub hM rfl) | apply beginNvErase_made (mask_sub hM rfl) | split
    | exact blk_at hM rfl rfl


theorem execNvaWpClr_made {M : Nat} (hM : M ||| 590295810358705651714 = M) {s0 : State} (idx : Fin 64) (data : W32) (s : State) (h : Made M s0 s) :
    Ends M s0 (execNvaWpClr idx data s) := by
  unfold execNvaWpClr
  try dsimp only
  repeat' first
    | with_reducible first | intro _ | assumption | apply Made.ite | apply Ends.ite | apply Ends.done | apply raise_made (mask_sub hM rfl) | apply wr_made (mask_sub hM rfl) | split
    | with_reducible exact blk_at hM (R.NVA_WP_SET_blk _) rfl | exact blk_at hM rfl rfl


theorem execNvaSeqLapse_made {M : Nat} (hM : M ||| 590295810358705651714 = M) {s0 : State} (s : State) (h : Made M s0 s) :
    Ends M s0 (execNvaSeqLapse s) := by
  unfold execNvaSeqLapse
  try dsimp only
  with_reducible repeat' first
    | intro _ | assumption | apply Made.ite | apply Ends.ite | apply Ends.done | apply nvBreak_made (mask_sub hM rfl) | split


theorem execNvaEraseDone_made {M : Nat} (hM : M ||| 9702692234866568783333554 = M) {s0 : State} (ok : Bool) (s : State) (h : Made M s0 s) :
    Ends M s0 (execNvaEraseDone ok s) := by
  unfold execNvaEraseDone
  try dsimp only
  with_reducible repeat' first
    | intro _ | assumption | apply Made.ite | apply Ends.ite | apply Ends.done | apply holdAge_made (mask_sub hM rfl) | apply nvEnd_made (mask_sub hM rfl) | apply nvClear_made (mask_sub hM rfl) | apply markIncomplete_made (mask_sub hM rfl) | apply nvUnitDone_made (mask_sub hM rfl) | apply regEnd_made (mask_sub hM rfl) | apply Made.foldl | split | apply Made.set_nvIncomplete (mask_sub hM rfl)


theorem execNvaAutoResume_made {M : Nat} (hM : M ||| 590295810393065390082 = M) {s0 : State} (s : State) (h : Made M s0 s) :
    Ends M s0 (execNvaAutoResume s) := by
  unfold execNvaAutoResume
  try dsimp only
  with_reducible repeat' first
    | intro _ | assumption | apply Made.ite | apply Ends.ite | apply Ends.done | apply nvEngine_made (mask_sub hM rfl) | split


theorem execNvaErase_made {M : Nat} (hM : M ||| 9702692234866500063856818 = M) {s0 : State} (tag : Nat) (s : State) (h : Made M s0 s) :
    Ends M s0 (execNvaErase tag s) := by
  unfold execNvaErase
  try dsimp only
  with_reducible repeat' first
    | intro _ | assumption | apply Made.ite | apply Ends.ite | apply Ends.done | apply nvRet_made (mask_sub hM rfl) | apply giveRet_made (mask_sub hM rfl) | apply nvNext_made (mask_sub hM rfl) | apply setOp_made (mask_sub hM rfl) | split


end Sys2Proof.Machine
end

