-- ==== Sys2Proof/Laws/MadeFab.lean ====
section
/-! SUPPORT. Fab.lean, operation by operation: the fields it leaves as they are, and that it keeps the stores canonical. -/
set_option linter.all false
namespace Sys2Proof.Machine
set_option Elab.async false

theorem execTrimDeferFall_made {M : Nat} (hM : M ||| 154742504910672534364487682 = M) {s0 : State} (s : State) (h : Made M s0 s) :
    Ends M s0 (execTrimDeferFall s) := by
  unfold execTrimDeferFall
  try dsimp only
  with_reducible repeat' first
    | intro _ | assumption | apply Made.ite | apply Ends.ite | apply Ends.done | apply setFab_made (mask_sub hM rfl) | apply trimBegin_made (mask_sub hM rfl) | split


theorem setGate_made {M : Nat} (hM : M ||| 2097152 = M) {s0 : State} (s : State) (n : Nat) (g : Nat) (l : List Nat) (h : Made M s0 s) :
    Made M s0 (setGate s n g l) := by
  unfold setGate
  try dsimp only
  with_reducible repeat' first
    | intro _ | assumption | apply setFab_made (mask_sub hM rfl)


theorem execGateHandshakePop_made {M : Nat} (hM : M ||| 2097184 = M) {s0 : State} (n : Fin 11) (g : Fin 4) (s : State) (h : Made M s0 s) :
    Ends M s0 (execGateHandshakePop n g s) := by
  unfold execGateHandshakePop
  try dsimp only
  with_reducible repeat' first
    | intro _ | assumption | apply Made.ite | apply Ends.ite | apply Ends.done | apply emit_made (mask_sub hM rfl) | apply setGate_made (mask_sub hM rfl) | split


theorem execGateClockWrite_made {M : Nat} (hM : M ||| 154742504910672534364487682 = M) {s0 : State} (n : Fin 11) (g : Fin 4) (v : BitVec 128) (full : Bool) (s : State) (h : Made M s0 s) :
    Ends M s0 (execGateClockWrite n g v full s) := by
  unfold execGateClockWrite
  try dsimp only
  repeat' first
    | with_reducible first | intro _ | assumption | apply Made.ite | apply Ends.ite | apply Ends.done | apply setf_made (mask_sub hM rfl) | apply satAdd_made (mask_sub hM rfl) | apply setGate_made (mask_sub hM rfl) | split
    | exact blk_at hM rfl rfl


theorem moveTap_made {M : Nat} (hM : M ||| 2097152 = M) {s0 : State} (s : State) (r : Nat) (d : Fin 3) (h : Made M s0 s) :
    Made M s0 (moveTap s r d) := by
  unfold moveTap
  try dsimp only
  with_reducible repeat' first
    | intro _ | assumption | apply setFab_made (mask_sub hM rfl)


theorem execTrimStep_made {M : Nat} (hM : M ||| 2097152 = M) {s0 : State} (r : Fin 16) (d : Fin 3) (s : State) (h : Made M s0 s) :
    Ends M s0 (execTrimStep r d s) := by
  unfold execTrimStep
  try dsimp only
  with_reducible repeat' first
    | intro _ | assumption | apply Made.ite | apply Ends.ite | apply Ends.done | apply moveTap_made (mask_sub hM rfl) | apply setFab_made (mask_sub hM rfl) | split


theorem winErr_made {M : Nat} (hM : M ||| 154742504910672534362390530 = M) {s0 : State} (s : State) (k : Nat) (h : Made M s0 s) :
    Made M s0 (winErr s k) := by
  unfold winErr
  try dsimp only
  repeat' first
    | with_reducible first | intro _ | assumption | apply satAdd_made (mask_sub hM rfl)
    | with_reducible exact blk_at hM (F.FAB_SOCK_ERRS_blk _) rfl


theorem execFabWindowTimeout_made {M : Nat} (hM : M ||| 154742504910672534364487714 = M) {s0 : State} (k : Fin 32) (s : State) (h : Made M s0 s) :
    Ends M s0 (execFabWindowTimeout k s) := by
  unfold execFabWindowTimeout
  try dsimp only
  with_reducible repeat' first
    | intro _ | assumption | apply Made.ite | apply Ends.ite | apply Ends.done | apply winErr_made (mask_sub hM rfl) | apply setFab_made (mask_sub hM rfl) | apply emit_made (mask_sub hM rfl) | split


theorem execFabCallAnswer_made {M : Nat} (hM : M ||| 8589934720 = M) {s0 : State} (tag : Nat) (status : Nat) (r0 : W32) (r1 : W32) (s : State) (h : Made M s0 s) :
    Ends M s0 (execFabCallAnswer tag status r0 r1 s) := by
  unfold execFabCallAnswer
  try dsimp only
  with_reducible repeat' first
    | intro _ | assumption | apply Made.ite | apply Ends.ite | apply Ends.done | apply giveRet_made (mask_sub hM rfl) | split


theorem execFabCall_made {M : Nat} (hM : M ||| 8589934752 = M) {s0 : State} (tag : Nat) (s : State) (h : Made M s0 s) :
    Ends M s0 (execFabCall tag s) := by
  unfold execFabCall
  try dsimp only
  with_reducible repeat' first
    | intro _ | assumption | apply Made.ite | apply Ends.ite | apply Ends.done | apply giveRet_made (mask_sub hM rfl) | apply emit_made (mask_sub hM rfl) | apply setOp_made (mask_sub hM rfl) | split


theorem execStaticInputChange_made {M : Nat} (hM : M ||| 2097152 = M) {s0 : State} (b : Fin 8) (pin : Nat) (level : Bool) (s : State) (h : Made M s0 s) :
    Ends M s0 (execStaticInputChange b pin level s) := by
  unfold execStaticInputChange
  try dsimp only
  with_reducible repeat' first
    | intro _ | assumption | apply Made.ite | apply Ends.ite | apply Ends.done | apply setFab_made (mask_sub hM rfl) | split


theorem execTrimWindowDue_made {M : Nat} (hM : M ||| 154742504910672534364487682 = M) {s0 : State} (defer : Bool) (s : State) (h : Made M s0 s) :
    Ends M s0 (execTrimWindowDue defer s) := by
  unfold execTrimWindowDue
  try dsimp only
  with_reducible repeat' first
    | intro _ | assumption | apply Made.ite | apply Ends.ite | apply Ends.done | apply setFab_made (mask_sub hM rfl) | apply trimBegin_made (mask_sub hM rfl) | split


theorem alertStep_made {M : Nat} (hM : M ||| 2097152 = M) {s0 : State} (s : State) (r : Nat) (d : Fin 3) (below1 : Bool) (h : Made M s0 s) :
    Made M s0 (alertStep s r d below1) := by
  unfold alertStep
  try dsimp only
  with_reducible repeat' first
    | intro _ | assumption | apply Made.ite | apply moveTap_made (mask_sub hM rfl) | apply setFab_made (mask_sub hM rfl) | split


theorem execAlertTrimStep_made {M : Nat} (hM : M ||| 2097152 = M) {s0 : State} (r : Fin 16) (d : Fin 3) (below1 : Bool) (s : State) (h : Made M s0 s) :
    Ends M s0 (execAlertTrimStep r d below1 s) := by
  unfold execAlertTrimStep
  try dsimp only
  with_reducible repeat' first
    | intro _ | assumption | apply Made.ite | apply Ends.ite | apply Ends.done | apply alertStep_made (mask_sub hM rfl) | split


theorem execHandshakeSideWrite_made {M : Nat} (hM : M ||| 2097152 = M) {s0 : State} (n : Fin 11) (g : Fin 4) (v : BitVec 128) (s : State) (h : Made M s0 s) :
    Ends M s0 (execHandshakeSideWrite n g v s) := by
  unfold execHandshakeSideWrite
  try dsimp only
  with_reducible repeat' first
    | intro _ | assumption | apply Made.ite | apply Ends.ite | apply Ends.done | apply setGate_made (mask_sub hM rfl) | split


theorem execTrimMaxdeferExpiry_made {M : Nat} (hM : M ||| 154742504910672534364487682 = M) {s0 : State} (s : State) (h : Made M s0 s) :
    Ends M s0 (execTrimMaxdeferExpiry s) := by
  unfold execTrimMaxdeferExpiry
  try dsimp only
  repeat' first
    | with_reducible first | intro _ | assumption | apply Made.ite | apply Ends.ite | apply Ends.done | apply trimBegin_made (mask_sub hM rfl) | apply satAdd_made (mask_sub hM rfl) | split
    | exact blk_at hM rfl rfl


theorem execFabGateOvfClear_made {M : Nat} (hM : M ||| 154742504910672534362390530 = M) {s0 : State} (s : State) (h : Made M s0 s) :
    Ends M s0 (execFabGateOvfClear s) := by
  unfold execFabGateOvfClear
  try dsimp only
  repeat' first
    | with_reducible first | intro _ | assumption | apply Ends.done | apply setf_made (mask_sub hM rfl)
    | exact blk_at hM rfl rfl


theorem execIslandRelock_made {M : Nat} (hM : M ||| 154742504910672534364487682 = M) {s0 : State} (n : Fin 25) (s : State) (h : Made M s0 s) :
    Ends M s0 (execIslandRelock n s) := by
  unfold execIslandRelock
  try dsimp only
  repeat' first
    | with_reducible first | intro _ | assumption | apply Made.ite | apply Ends.ite | apply Ends.done | apply setf_made (mask_sub hM rfl) | apply setFab_made (mask_sub hM rfl) | split
    | exact blk_at hM rfl rfl


theorem paceUpdate_made {M : Nat} (hM : M ||| 154742504910672534362390530 = M) {s0 : State} (s : State) (r : Nat) (c : Nat) (h : Made M s0 s) :
    Made M s0 (paceUpdate s r c) := by
  unfold paceUpdate
  try dsimp only
  repeat' first
    | with_reducible first | intro _ | assumption | apply Made.ite | apply setf_made (mask_sub hM rfl) | split
    | with_reducible exact blk_at hM (F.FAB_PACE_MIN_blk _) rfl | with_reducible exact blk_at hM (F.FAB_PACE_NOW_blk _) rfl | with_reducible exact blk_at hM (F.FAB_PACE_VALID_blk _) rfl


theorem execPaceGateEnd_made {M : Nat} (hM : M ||| 154742504910672534362390530 = M) {s0 : State} (counts : List Nat) (s : State) (h : Made M s0 s) :
    Ends M s0 (execPaceGateEnd counts s) := by
  unfold execPaceGateEnd
  try dsimp only
  with_reducible repeat' first
    | intro _ | assumption | apply Ends.done | apply paceUpdate_made (mask_sub hM rfl) | apply Made.foldl


theorem execClockSideRead_made {M : Nat} (hM : M ||| 2097184 = M) {s0 : State} (n : Fin 11) (g : Fin 4) (s : State) (h : Made M s0 s) :
    Ends M s0 (execClockSideRead n g s) := by
  unfold execClockSideRead
  try dsimp only
  with_reducible repeat' first
    | intro _ | assumption | apply Made.ite | apply Ends.ite | apply Ends.done | apply emit_made (mask_sub hM rfl) | apply setGate_made (mask_sub hM rfl) | split


theorem execDriftAlert_made {M : Nat} (hM : M ||| 154742504910672534364487682 = M) {s0 : State} (r : Fin 16) (d : Fin 3) (below1 : Bool) (s : State) (h : Made M s0 s) :
    Ends M s0 (execDriftAlert r d below1 s) := by
  unfold execDriftAlert
  try dsimp only
  repeat' first
    | with_reducible first | intro _ | assumption | apply Made.ite | apply Ends.ite | apply Ends.done | apply setf_made (mask_sub hM rfl) | apply alertStep_made (mask_sub hM rfl) | apply satAdd_made (mask_sub hM rfl) | split
    | exact blk_at hM rfl rfl


theorem sockError_made {M : Nat} (hM : M ||| 154742504910672534362390562 = M) {s0 : State} (s : State) (k : Nat) (h : Made M s0 s) :
    Made M s0 (sockError s k) := by
  unfold sockError
  try dsimp only
  repeat' first
    | with_reducible first | intro _ | assumption | apply satAdd_made (mask_sub hM rfl) | apply emit_made (mask_sub hM rfl)
    | with_reducible exact blk_at hM (F.FAB_SOCK_ERRS_blk _) rfl


theorem writeBeats_made {M : Nat} (hM : M ||| 844424930131972 = M) {s0 : State} (s : State) (a : Nat) (x2 : List (List Byte × List Bool)) (h : Made M s0 s) :
    Made M s0 (writeBeats s a x2) := by
  induction x2 generalizing s a with
  | nil =>
    unfold writeBeats
    try dsimp only
    with_reducible repeat' first
      | intro _ | assumption | apply writeBeat_made (mask_sub hM rfl) | split
  | cons _ _ ih =>
    unfold writeBeats
    try dsimp only
    with_reducible repeat' first
      | intro _ | assumption | apply ih | apply writeBeat_made (mask_sub hM rfl) | split


theorem execSocketBurst_made {M : Nat} (hM : M ||| 164446377738004030738663478 = M) {s0 : State} (k : Fin 32) (addr : Nat) (len : Fin 16) (write : Bool) (beats : List (List Byte × List Bool)) (s : State) (h : Made M s0 s) :
    Ends M s0 (execSocketBurst k addr len write beats s) := by
  unfold execSocketBurst
  try dsimp only
  with_reducible repeat' first
    | intro _ | assumption | apply Made.ite | apply Ends.ite | apply Ends.done | apply sockError_made (mask_sub hM rfl) | apply noteErr_made (mask_sub hM rfl) | apply emit_made (mask_sub hM rfl) | apply writeBeats_made (mask_sub hM rfl) | apply askSuspend_made (mask_sub hM rfl) | apply noteRead_made (mask_sub hM rfl) | apply Made.foldl | split


theorem winAccess_made {M : Nat} (hM : M ||| 154742504910672534364487714 = M) {s0 : State} (s : State) (k : Nat) (off : Nat) (w : Option W32) (ans : Option W32) (h : Made M s0 s) :
    Made M s0 (winAccess s k off w ans) := by
  unfold winAccess
  try dsimp only
  repeat' first
    | with_reducible first | intro _ | assumption | apply Made.ite | apply satAdd_made (mask_sub hM rfl) | apply emit_made (mask_sub hM rfl) | apply setFab_made (mask_sub hM rfl) | split
    | exact blk_at hM rfl rfl


theorem execFabPaceClr_made {M : Nat} (hM : M ||| 154742504910672534362390530 = M) {s0 : State} (mask : BitVec 16) (s : State) (h : Made M s0 s) :
    Ends M s0 (execFabPaceClr mask s) := by
  unfold execFabPaceClr
  try dsimp only
  repeat' first
    | with_reducible first | intro _ | assumption | apply Made.ite | apply Ends.ite | apply Ends.done | apply setf_made (mask_sub hM rfl) | apply Made.foldl | split
    | with_reducible exact blk_at hM (F.FAB_PACE_MIN_blk _) rfl


theorem execIslandLossOfLock_made {M : Nat} (hM : M ||| 154742504910672534364487682 = M) {s0 : State} (n : Fin 25) (s : State) (h : Made M s0 s) :
    Ends M s0 (execIslandLossOfLock n s) := by
  unfold execIslandLossOfLock
  try dsimp only
  repeat' first
    | with_reducible first | intro _ | assumption | apply Made.ite | apply Ends.ite | apply Ends.done | apply setf_made (mask_sub hM rfl) | apply setFab_made (mask_sub hM rfl) | apply Made.foldl | split
    | with_reducible exact blk_at hM (F.FAB_PACE_NOW_blk _) rfl | with_reducible exact blk_at hM (F.FAB_PACE_VALID_blk _) rfl | exact blk_at hM rfl rfl


theorem execFabWindowAccess_made {M : Nat} (hM : M ||| 154742504910672534364487714 = M) {s0 : State} (k : Fin 32) (off : Fin 65536) (w : Option W32) (ans : Option W32) (s : State) (h : Made M s0 s) :
    Ends M s0 (execFabWindowAccess k off w ans s) := by
  unfold execFabWindowAccess
  try dsimp only
  with_reducible repeat' first
    | intro _ | assumption | apply Ends.done | apply winAccess_made (mask_sub hM rfl)


end Sys2Proof.Machine
end

