-- ==== Sys2Proof/Laws/MadeChain.lean ====
section
/-! SUPPORT. Chain.lean, operation by operation: the fields it leaves as they are, and that it keeps the stores canonical. -/
set_option linter.all false
namespace Sys2Proof.Machine
set_option Elab.async false

theorem execAck_made {M : Nat} (hM : M ||| 28334198897492749189154 = M) {s0 : State} (p : Fin 2) (seq : Fin 4096) (s : State) (h : Made M s0 s) :
    Ends M s0 (execAck p seq s) := by
  unfold execAck
  try dsimp only
  with_reducible repeat' first
    | intro _ | assumption | apply Made.ite | apply Ends.ite | apply Ends.done | apply flushPort_made (mask_sub hM rfl) | apply setPort_made (mask_sub hM rfl) | split


theorem sendTrain_made {M : Nat} (hM : M ||| 32 = M) {s0 : State} (s : State) (p : Nat) (h : Made M s0 s) :
    Made M s0 (sendTrain s p) := by
  unfold sendTrain
  try dsimp only
  with_reducible repeat' first
    | intro _ | assumption | apply ctl_made (mask_sub hM rfl)


theorem trainTo_made {M : Nat} (hM : M ||| 18889465931478580854818 = M) {s0 : State} (s : State) (p : Nat) (st : Nat) (h : Made M s0 s) :
    Made M s0 (trainTo s p st) := by
  unfold trainTo
  try dsimp only
  repeat' first
    | with_reducible first | intro _ | assumption | apply sendTrain_made (mask_sub hM rfl) | apply setf_made (mask_sub hM rfl)
    | with_reducible exact blk_at hM (F.CHN_PSTAT_STATE_blk _) rfl


theorem sendKey_made {M : Nat} (hM : M ||| 32 = M) {s0 : State} (s : State) (p : Nat) (k : Nat) (h : Made M s0 s) :
    Made M s0 (sendKey s p k) := by
  unfold sendKey
  try dsimp only
  with_reducible repeat' first
    | intro _ | assumption | apply ctl_made (mask_sub hM rfl) | apply Made.foldl


theorem enterKey_made {M : Nat} (hM : M ||| 18889465931753458761778 = M) {s0 : State} (s : State) (p : Nat) (h : Made M s0 s) :
    Made M s0 (enterKey s p) := by
  unfold enterKey
  try dsimp only
  with_reducible repeat' first
    | intro _ | assumption | apply Made.ite | apply trainTo_made (mask_sub hM rfl) | apply drawn_made (mask_sub hM rfl) | apply sendKey_made (mask_sub hM rfl) | apply setPort_made (mask_sub hM rfl) | split


theorem paramStep_made {M : Nat} (hM : M ||| 18889465931753458761778 = M) {s0 : State} (s : State) (p : Nat) (h : Made M s0 s) :
    Made M s0 (paramStep s p) := by
  unfold paramStep
  try dsimp only
  with_reducible repeat' first
    | intro _ | assumption | apply Made.ite | apply sendTrain_made (mask_sub hM rfl) | apply setPort_made (mask_sub hM rfl) | apply enterKey_made (mask_sub hM rfl) | split


theorem setReach_made {M : Nat} (hM : M ||| 37778931862957161709570 = M) {s0 : State} (s : State) (u : Nat) (v : Bool) (h : Made M s0 s) :
    Made M s0 (setReach s u v) := by
  unfold setReach
  try dsimp only
  repeat' first
    | with_reducible first | intro _ | assumption | apply Made.ite | apply wr_made (mask_sub hM rfl) | apply setf_made (mask_sub hM rfl) | split
    | with_reducible exact blk_at hM (F.ENU_TAB_FLG_REACH_blk _) rfl | with_reducible exact blk_at hM (R.ENU_REACH_blk _) rfl


theorem countUnits_made {M : Nat} (hM : M ||| 37778931862957161709570 = M) {s0 : State} (s : State) (h : Made M s0 s) :
    Made M s0 (countUnits s) := by
  unfold countUnits
  try dsimp only
  repeat' first
    | with_reducible first | intro _ | assumption | apply setf_made (mask_sub hM rfl)
    | exact blk_at hM rfl rfl


theorem endWindows_made {M : Nat} (hM : M ||| 2361183241434822608930 = M) {s0 : State} (s : State) (h : Made M s0 s) :
    Made M s0 (endWindows s) := by
  unfold endWindows
  try dsimp only
  repeat' first
    | with_reducible first | intro _ | assumption | apply emit_made (mask_sub hM rfl) | apply satAdd_made (mask_sub hM rfl) | apply Made.foldl | apply Made.set_hif (mask_sub hM rfl)
    | exact blk_at hM rfl rfl


theorem endUnreachable_made {M : Nat} (hM : M ||| 9706824305538830614662374 = M) {s0 : State} (s : State) (h : Made M s0 s) :
    Made M s0 (endUnreachable s) := by
  unfold endUnreachable
  try dsimp only
  with_reducible repeat' first
    | intro _ | assumption | apply endWindows_made (mask_sub hM rfl) | apply completeAll_made (mask_sub hM rfl)


theorem floodTopo_made {M : Nat} (hM : M ||| 9744603237402337532185830 = M) {s0 : State} (s : State) (h : Made M s0 s) :
    Made M s0 (floodTopo s) := by
  unfold floodTopo
  try dsimp only
  repeat' first
    | with_reducible first | intro _ | assumption | apply countUnits_made (mask_sub hM rfl) | apply wrapAdd_made (mask_sub hM rfl) | apply sleepAbort_made (mask_sub hM rfl) | apply setf_made (mask_sub hM rfl) | apply sendMsg_made (mask_sub hM rfl) | apply endUnreachable_made (mask_sub hM rfl) | apply Made.set_enu (mask_sub hM rfl)
    | exact blk_at hM rfl rfl


theorem topoBreak_made {M : Nat} (hM : M ||| 9744603237402337532185830 = M) {s0 : State} (s : State) (reporter : Nat) (h : Made M s0 s) :
    Made M s0 (topoBreak s reporter) := by
  unfold topoBreak
  try dsimp only
  repeat' first
    | with_reducible first | intro _ | assumption | apply Made.ite | apply setReach_made (mask_sub hM rfl) | apply devEvent_made (mask_sub hM rfl) | apply raise_made (mask_sub hM rfl) | apply floodTopo_made (mask_sub hM rfl) | apply Made.foldl | split
    | exact blk_at hM rfl rfl


theorem execQuiet_made {M : Nat} (hM : M ||| 274877906944 = M) {s0 : State} (p : Fin 2) (s : State) (h : Made M s0 s) :
    Ends M s0 (execQuiet p s) := by
  unfold execQuiet
  try dsimp only
  with_reducible repeat' first
    | intro _ | assumption | apply Made.ite | apply Ends.ite | apply Ends.done | apply setPort_made (mask_sub hM rfl) | split


theorem dropLink_made {M : Nat} (hM : M ||| 66113130760449910898690 = M) {s0 : State} (s : State) (p : Nat) (h : Made M s0 s) :
    Made M s0 (dropLink s p) := by
  unfold dropLink
  try dsimp only
  repeat' first
    | with_reducible first | intro _ | assumption | apply satAdd_made (mask_sub hM rfl) | apply freeCells_made (mask_sub hM rfl) | apply wr_made (mask_sub hM rfl) | apply setf_made (mask_sub hM rfl) | apply raise_made (mask_sub hM rfl) | apply Made.foldl | split
    | with_reducible exact blk_at hM (F.CHN_CNT2_LINK_DOWNS_blk _) rfl | with_reducible exact blk_at hM (F.CHN_EVT_DOWN_blk _) rfl | with_reducible exact blk_at hM (F.CHN_KEYGEN_KEYCHK_blk _) rfl | with_reducible exact blk_at hM (F.CHN_LOST_LOST_MSGS_blk _) rfl | with_reducible exact blk_at hM (R.LDG_CHN_blk _) rfl | exact blk_at hM rfl rfl


theorem execLaneBlockLock_made {M : Nat} (hM : M ||| 18889465931478580854818 = M) {s0 : State} (p : Fin 2) (lane : Fin 2) (slips : Nat) (s : State) (h : Made M s0 s) :
    Ends M s0 (execLaneBlockLock p lane slips s) := by
  unfold execLaneBlockLock
  try dsimp only
  repeat' first
    | with_reducible first | intro _ | assumption | apply Made.ite | apply Ends.ite | apply Ends.done | apply satAdd_made (mask_sub hM rfl) | apply setf_made (mask_sub hM rfl) | apply trainTo_made (mask_sub hM rfl) | split
    | with_reducible exact blk_at hM (F.CHN_CNT0_HDR_ERR_blk _) rfl | with_reducible exact blk_at hM (F.CHN_PSTAT_BLK_blk _) rfl


theorem execControlBlockDiscard_made {M : Nat} (hM : M ||| 18889465931478580854786 = M) {s0 : State} (p : Fin 2) (s : State) (h : Made M s0 s) :
    Ends M s0 (execControlBlockDiscard p s) := by
  unfold execControlBlockDiscard
  try dsimp only
  repeat' first
    | with_reducible first | intro _ | assumption | apply Made.ite | apply Ends.ite | apply Ends.done | apply satAdd_made (mask_sub hM rfl) | split
    | with_reducible exact blk_at hM (F.CHN_CNT0_CTL_CRC_blk _) rfl


theorem portRestart_made {M : Nat} (hM : M ||| 18889465931753458761730 = M) {s0 : State} (s : State) (p : Nat) (st : Nat) (h : Made M s0 s) :
    Made M s0 (portRestart s p st) := by
  unfold portRestart
  try dsimp only
  repeat' first
    | with_reducible first | intro _ | assumption | apply wr_made (mask_sub hM rfl) | apply showReplay_made (mask_sub hM rfl) | apply setPort_made (mask_sub hM rfl)
    | with_reducible exact blk_at hM (R.CHN_PSTAT_blk _) rfl


theorem portStart_made {M : Nat} (hM : M ||| 18889465931753458761762 = M) {s0 : State} (s : State) (p : Nat) (h : Made M s0 s) :
    Made M s0 (portStart s p) := by
  unfold portStart
  try dsimp only
  with_reducible repeat' first
    | intro _ | assumption | apply Made.ite | apply sendTrain_made (mask_sub hM rfl) | apply portRestart_made (mask_sub hM rfl) | split


theorem execStrayDataBlock_made {M : Nat} (hM : M ||| 18889465931478580854786 = M) {s0 : State} (p : Fin 2) (s : State) (h : Made M s0 s) :
    Ends M s0 (execStrayDataBlock p s) := by
  unfold execStrayDataBlock
  try dsimp only
  repeat' first
    | with_reducible first | intro _ | assumption | apply Made.ite | apply Ends.ite | apply Ends.done | apply satAdd_made (mask_sub hM rfl) | split
    | with_reducible exact blk_at hM (F.CHN_CNT3_STRAY_blk _) rfl


theorem endTunReads_made {M : Nat} (hM : M ||| 8589936768 = M) {s0 : State} (s : State) (h : Made M s0 s) :
    Made M s0 (endTunReads s) := by
  unfold endTunReads
  try dsimp only
  with_reducible repeat' first
    | intro _ | assumption | apply giveRet_made (mask_sub hM rfl) | apply Made.foldl | split | apply Made.set_hif (mask_sub hM rfl)


theorem memberHostLoss_made {M : Nat} (hM : M ||| 14167099448617525578946 = M) {s0 : State} (s : State) (h : Made M s0 s) :
    Made M s0 (memberHostLoss s) := by
  unfold memberHostLoss
  try dsimp only
  with_reducible repeat' first
    | intro _ | assumption | apply applyLoss_made (mask_sub hM rfl) | apply endTunReads_made (mask_sub hM rfl)


theorem onRoundLost_made {M : Nat} (hM : M ||| 209177204912002337014413474 = M) {s0 : State} (s : State) (p : Nat) (h : Made M s0 s) :
    Made M s0 (onRoundLost s p) := by
  unfold onRoundLost
  try dsimp only
  with_reducible repeat' first
    | intro _ | assumption | apply Made.ite | apply roundAborted_made (mask_sub hM rfl) | split | apply Made.set_load (mask_sub hM rfl)


theorem unassign_made {M : Nat} (hM : M ||| 9744603237402346122120422 = M) {s0 : State} (s : State) (h : Made M s0 s) :
    Made M s0 (unassign s) := by
  unfold unassign
  try dsimp only
  repeat' first
    | with_reducible first | intro _ | assumption | apply setf_made (mask_sub hM rfl) | apply completeAll_made (mask_sub hM rfl) | apply memberHostLoss_made (mask_sub hM rfl) | apply Made.set_enu (mask_sub hM rfl)
    | exact blk_at hM rfl rfl


theorem onBreak_made {M : Nat} (hM : M ||| 9744603237402346122120422 = M) {s0 : State} (s : State) (p : Nat) (h : Made M s0 s) :
    Made M s0 (onBreak s p) := by
  unfold onBreak
  try dsimp only
  with_reducible repeat' first
    | intro _ | assumption | apply Made.ite | apply unassign_made (mask_sub hM rfl) | apply topoBreak_made (mask_sub hM rfl) | apply sendMsg_made (mask_sub hM rfl) | split


theorem portDown_made {M : Nat} (hM : M ||| 209219706210348713577151718 = M) {s0 : State} (s : State) (p : Nat) (st : Nat) (h : Made M s0 s) :
    Made M s0 (portDown s p st) := by
  unfold portDown
  try dsimp only
  with_reducible repeat' first
    | intro _ | assumption | apply Made.ite | apply portRestart_made (mask_sub hM rfl) | apply dropLink_made (mask_sub hM rfl) | apply onRoundLost_made (mask_sub hM rfl) | apply onBreak_made (mask_sub hM rfl) | split


theorem toBlock_made {M : Nat} (hM : M ||| 209219706210348713577151718 = M) {s0 : State} (s : State) (p : Nat) (fail : Nat) (h : Made M s0 s) :
    Made M s0 (toBlock s p fail) := by
  unfold toBlock
  try dsimp only
  repeat' first
    | with_reducible first | intro _ | assumption | apply sendTrain_made (mask_sub hM rfl) | apply portDown_made (mask_sub hM rfl) | apply setf_made (mask_sub hM rfl)
    | with_reducible exact blk_at hM (F.CHN_PSTAT_FAIL_blk _) rfl


theorem replayFrom_made {M : Nat} (hM : M ||| 209219706210348713577151718 = M) {s0 : State} (s : State) (p : Nat) (seq : Nat) (h : Made M s0 s) :
    Made M s0 (replayFrom s p seq) := by
  unfold replayFrom
  try dsimp only
  repeat' first
    | with_reducible first | intro _ | assumption | apply Made.ite | apply toBlock_made (mask_sub hM rfl) | apply raise_made (mask_sub hM rfl) | apply flushPort_made (mask_sub hM rfl) | apply satAdd_made (mask_sub hM rfl) | apply setPort_made (mask_sub hM rfl) | split
    | with_reducible exact blk_at hM (F.CHN_CNT1_REPLAYS_blk _) rfl | with_reducible exact blk_at hM (F.CHN_EVT_REPLAY_LIMIT_blk _) rfl


theorem execReplayTimer_made {M : Nat} (hM : M ||| 209219706210348713577151718 = M) {s0 : State} (p : Fin 2) (s : State) (h : Made M s0 s) :
    Ends M s0 (execReplayTimer p s) := by
  unfold execReplayTimer
  try dsimp only
  with_reducible repeat' first
    | intro _ | assumption | apply Made.ite | apply Ends.ite | apply Ends.done | apply replayFrom_made (mask_sub hM rfl) | split


theorem sendNak_made {M : Nat} (hM : M ||| 32 = M) {s0 : State} (s : State) (p : Nat) (h : Made M s0 s) :
    Made M s0 (sendNak s p) := by
  unfold sendNak
  try dsimp only
  with_reducible repeat' first
    | intro _ | assumption | apply ctl_made (mask_sub hM rfl)


theorem portEnterUp_made {M : Nat} (hM : M ||| 28334198897494896672802 = M) {s0 : State} (s : State) (p : Nat) (k : Nat) (h : Made M s0 s) :
    Made M s0 (portEnterUp s p k) := by
  unfold portEnterUp
  try dsimp only
  repeat' first
    | with_reducible first | intro _ | assumption | apply Made.ite | apply setPort_made (mask_sub hM rfl) | apply setf_made (mask_sub hM rfl) | apply satAdd_made (mask_sub hM rfl) | apply raise_made (mask_sub hM rfl) | apply sendImageReq_made (mask_sub hM rfl) | apply Made.foldl | split
    | with_reducible exact blk_at hM (F.CHN_EVT_UP_blk _) rfl | with_reducible exact blk_at hM (F.CHN_KEYGEN_KEYCHK_blk _) rfl | with_reducible exact blk_at hM (F.CHN_KEYGEN_TRAININGS_blk _) rfl | with_reducible exact blk_at hM (F.CHN_PSTAT_STATE_blk _) rfl | with_reducible exact blk_at hM (F.LDG_CHN_AVAIL_blk _) rfl | with_reducible exact blk_at hM (F.LDG_CHN_CAP_blk _) rfl


theorem sendCaps_made {M : Nat} (hM : M ||| 32 = M) {s0 : State} (s : State) (p : Nat) (h : Made M s0 s) :
    Made M s0 (sendCaps s p) := by
  unfold sendCaps
  try dsimp only
  with_reducible repeat' first
    | intro _ | assumption | apply ctl_made (mask_sub hM rfl) | apply Made.foldl


theorem execCreditReturnDue_made {M : Nat} (hM : M ||| 274877906976 = M) {s0 : State} (p : Fin 2) (vl : Fin 4) (s : State) (h : Made M s0 s) :
    Ends M s0 (execCreditReturnDue p vl s) := by
  unfold execCreditReturnDue
  try dsimp only
  with_reducible repeat' first
    | intro _ | assumption | apply Made.ite | apply Ends.ite | apply Ends.done | apply ctl_made (mask_sub hM rfl) | apply setPort_made (mask_sub hM rfl) | split


theorem execTrainTimeout_made {M : Nat} (hM : M ||| 209219706210348713577151718 = M) {s0 : State} (p : Fin 2) (s : State) (h : Made M s0 s) :
    Ends M s0 (execTrainTimeout p s) := by
  unfold execTrainTimeout
  try dsimp only
  with_reducible repeat' first
    | intro _ | assumption | apply Made.ite | apply Ends.ite | apply Ends.done | apply toBlock_made (mask_sub hM rfl) | split


theorem execLinkUp_made {M : Nat} (hM : M ||| 28334198897494896672802 = M) {s0 : State} (p : Fin 2) (s : State) (h : Made M s0 s) :
    Ends M s0 (execLinkUp p s) := by
  unfold execLinkUp
  try dsimp only
  with_reducible repeat' first
    | intro _ | assumption | apply Made.ite | apply Ends.ite | apply Ends.done | apply portEnterUp_made (mask_sub hM rfl) | apply ctl_made (mask_sub hM rfl) | split


theorem setPortEn_made {M : Nat} (hM : M ||| 209219706210348713577151718 = M) {s0 : State} (s : State) (p : Nat) (en : Bool) (h : Made M s0 s) :
    Made M s0 (setPortEn s p en) := by
  unfold setPortEn
  try dsimp only
  repeat' first
    | with_reducible first | intro _ | assumption | apply Made.ite | apply setf_made (mask_sub hM rfl) | apply portStart_made (mask_sub hM rfl) | apply portDown_made (mask_sub hM rfl) | split
    | with_reducible exact blk_at hM (F.CHN_PCTL_EN_blk _) rfl


theorem sendAck_made {M : Nat} (hM : M ||| 274877906976 = M) {s0 : State} (s : State) (p : Nat) (h : Made M s0 s) :
    Made M s0 (sendAck s p) := by
  unfold sendAck
  try dsimp only
  with_reducible repeat' first
    | intro _ | assumption | apply ctl_made (mask_sub hM rfl) | apply setPort_made (mask_sub hM rfl)


theorem execAckDue_made {M : Nat} (hM : M ||| 274877906976 = M) {s0 : State} (p : Fin 2) (s : State) (h : Made M s0 s) :
    Ends M s0 (execAckDue p s) := by
  unfold execAckDue
  try dsimp only
  with_reducible repeat' first
    | intro _ | assumption | apply Made.ite | apply Ends.ite | apply Ends.done | apply sendAck_made (mask_sub hM rfl) | split


theorem execCsync_made {M : Nat} (hM : M ||| 274877906944 = M) {s0 : State} (p : Fin 2) (vl : Fin 4) (value : Fin 4096) (s : State) (h : Made M s0 s) :
    Ends M s0 (execCsync p vl value s) := by
  unfold execCsync
  try dsimp only
  with_reducible repeat' first
    | intro _ | assumption | apply Made.ite | apply Ends.ite | apply Ends.done | apply setPort_made (mask_sub hM rfl) | split


theorem stompCopy_made {M : Nat} (hM : M ||| 28334198897492749189154 = M) {s0 : State} (s : State) (p : Nat) (fwd : Option Msg) (h : Made M s0 s) :
    Made M s0 (stompCopy s p fwd) := by
  unfold stompCopy
  try dsimp only
  with_reducible repeat' first
    | intro _ | assumption | apply Made.ite | apply queueMsg_made (mask_sub hM rfl) | split


theorem execLaneFrameLockLost_made {M : Nat} (hM : M ||| 209219706210348713577151718 = M) {s0 : State} (p : Fin 2) (lane : Fin 2) (fwd : Option Msg) (s : State) (h : Made M s0 s) :
    Ends M s0 (execLaneFrameLockLost p lane fwd s) := by
  unfold execLaneFrameLockLost
  try dsimp only
  with_reducible repeat' first
    | intro _ | assumption | apply Made.ite | apply Ends.ite | apply Ends.done | apply toBlock_made (mask_sub hM rfl) | apply stompCopy_made (mask_sub hM rfl) | split


theorem execCredit_made {M : Nat} (hM : M ||| 28334198897492749189154 = M) {s0 : State} (p : Fin 2) (vl : Fin 4) (value : Fin 4096) (s : State) (h : Made M s0 s) :
    Ends M s0 (execCredit p vl value s) := by
  unfold execCredit
  try dsimp only
  repeat' first
    | with_reducible first | intro _ | assumption | apply Made.ite | apply Ends.ite | apply Ends.done | apply setPort_made (mask_sub hM rfl) | apply flushPort_made (mask_sub hM rfl) | apply setf_made (mask_sub hM rfl) | split
    | with_reducible exact blk_at hM (F.LDG_CHN_AVAIL_blk _) rfl


theorem execCsyncDue_made {M : Nat} (hM : M ||| 32 = M) {s0 : State} (p : Fin 2) (s : State) (h : Made M s0 s) :
    Ends M s0 (execCsyncDue p s) := by
  unfold execCsyncDue
  try dsimp only
  with_reducible repeat' first
    | intro _ | assumption | apply Made.ite | apply Ends.ite | apply Ends.done | apply sendCsync_made (mask_sub hM rfl) | split


theorem setPrbs_made {M : Nat} (hM : M ||| 209219706210348713577151718 = M) {s0 : State} (s : State) (p : Nat) (tx : Bool) (chk : Bool) (h : Made M s0 s) :
    Made M s0 (setPrbs s p tx chk) := by
  unfold setPrbs
  try dsimp only
  repeat' first
    | with_reducible first | intro _ | assumption | apply Made.ite | apply wr_made (mask_sub hM rfl) | apply setf_made (mask_sub hM rfl) | apply portDown_made (mask_sub hM rfl) | apply portStart_made (mask_sub hM rfl) | apply portRestart_made (mask_sub hM rfl) | split
    | with_reducible exact blk_at hM (F.CHN_PRBS_CHK_EN_blk _) rfl | with_reducible exact blk_at hM (F.CHN_PRBS_TX_EN_blk _) rfl | with_reducible exact blk_at hM (R.CHN_PRBS_ERR_blk _) rfl


theorem execChnPrbs_made {M : Nat} (hM : M ||| 209219706210348713577151718 = M) {s0 : State} (p : Fin 2) (tx : Bool) (chk : Bool) (err0 : Nat) (err1 : Nat) (s : State) (h : Made M s0 s) :
    Ends M s0 (execChnPrbs p tx chk err0 err1 s) := by
  unfold execChnPrbs
  try dsimp only
  repeat' first
    | with_reducible first | intro _ | assumption | apply Made.ite | apply Ends.ite | apply Ends.done | apply satAdd_made (mask_sub hM rfl) | apply setPrbs_made (mask_sub hM rfl) | split
    | with_reducible exact blk_at hM (F.CHN_PRBS_ERR_LANE0_blk _) rfl | with_reducible exact blk_at hM (F.CHN_PRBS_ERR_LANE1_blk _) rfl


theorem execNak_made {M : Nat} (hM : M ||| 209219706210348713577151718 = M) {s0 : State} (p : Fin 2) (seq : Fin 4096) (s : State) (h : Made M s0 s) :
    Ends M s0 (execNak p seq s) := by
  unfold execNak
  try dsimp only
  with_reducible repeat' first
    | intro _ | assumption | apply Made.ite | apply Ends.ite | apply Ends.done | apply replayFrom_made (mask_sub hM rfl) | split


theorem spendCells_made {M : Nat} (hM : M ||| 274877906944 = M) {s0 : State} (s : State) (p : Nat) (v : Nat) (n : Nat) (h : Made M s0 s) :
    Made M s0 (spendCells s p v n) := by
  unfold spendCells
  try dsimp only
  with_reducible repeat' first
    | intro _ | assumption | apply setPort_made (mask_sub hM rfl)


theorem execLaneBlockLockLost_made {M : Nat} (hM : M ||| 209219706210348713577151718 = M) {s0 : State} (p : Fin 2) (lane : Fin 2) (bad : Nat) (fwd : Option Msg) (s : State) (h : Made M s0 s) :
    Ends M s0 (execLaneBlockLockLost p lane bad fwd s) := by
  unfold execLaneBlockLockLost
  try dsimp only
  repeat' first
    | with_reducible first | intro _ | assumption | apply Made.ite | apply Ends.ite | apply Ends.done | apply satAdd_made (mask_sub hM rfl) | apply setf_made (mask_sub hM rfl) | apply toBlock_made (mask_sub hM rfl) | apply stompCopy_made (mask_sub hM rfl) | split
    | with_reducible exact blk_at hM (F.CHN_CNT0_HDR_ERR_blk _) rfl | with_reducible exact blk_at hM (F.CHN_PSTAT_BLK_blk _) rfl


theorem execKeyAck_made {M : Nat} (hM : M ||| 28334198897494896672802 = M) {s0 : State} (p : Fin 2) (value : Fin 4096) (s : State) (h : Made M s0 s) :
    Ends M s0 (execKeyAck p value s) := by
  unfold execKeyAck
  try dsimp only
  with_reducible repeat' first
    | intro _ | assumption | apply Made.ite | apply Ends.ite | apply Ends.done | apply portEnterUp_made (mask_sub hM rfl) | apply ctl_made (mask_sub hM rfl) | apply sendKey_made (mask_sub hM rfl) | split


theorem execTrain_made {M : Nat} (hM : M ||| 209219706210348713577151734 = M) {s0 : State} (p : Fin 2) (rx : Fin 2) (lane : Fin 2) (role : Fin 2) (rxState : Fin 8) (paramOk : Bool) (version : Fin 32) (s : State) (h : Made M s0 s) :
    Ends M s0 (execTrain p rx lane role rxState paramOk version s) := by
  unfold execTrain
  try dsimp only
  repeat' first
    | with_reducible first | intro _ | assumption | apply Made.ite | apply Ends.ite | apply Ends.done | apply setf_made (mask_sub hM rfl) | apply toBlock_made (mask_sub hM rfl) | apply raise_made (mask_sub hM rfl) | apply paramStep_made (mask_sub hM rfl) | apply setPort_made (mask_sub hM rfl) | split
    | with_reducible exact blk_at hM (F.CHN_EVT_ROLE_ERR_blk _) rfl | with_reducible exact blk_at hM (F.CHN_PSTAT_CROSSED_blk _) rfl


theorem execKeyBlock_made {M : Nat} (hM : M ||| 274877906976 = M) {s0 : State} (p : Fin 2) (n : Fin 11) (value : Fin 4096) (s : State) (h : Made M s0 s) :
    Ends M s0 (execKeyBlock p n value s) := by
  unfold execKeyBlock
  try dsimp only
  with_reducible repeat' first
    | intro _ | assumption | apply Made.ite | apply Ends.ite | apply Ends.done | apply setPort_made (mask_sub hM rfl) | apply ctl_made (mask_sub hM rfl) | split


theorem execChnRetrain_made {M : Nat} (hM : M ||| 209219706210348713577151718 = M) {s0 : State} (p : Fin 2) (s : State) (h : Made M s0 s) :
    Ends M s0 (execChnRetrain p s) := by
  unfold execChnRetrain
  try dsimp only
  with_reducible repeat' first
    | intro _ | assumption | apply Made.ite | apply Ends.ite | apply Ends.done | apply sendTrain_made (mask_sub hM rfl) | apply portDown_made (mask_sub hM rfl) | split


theorem execCap_made {M : Nat} (hM : M ||| 209219706210348713577151734 = M) {s0 : State} (p : Fin 2) (vl : Fin 4) (cells : Fin 4096) (s : State) (h : Made M s0 s) :
    Ends M s0 (execCap p vl cells s) := by
  unfold execCap
  try dsimp only
  with_reducible repeat' first
    | intro _ | assumption | apply Made.ite | apply Ends.ite | apply Ends.done | apply toBlock_made (mask_sub hM rfl) | apply paramStep_made (mask_sub hM rfl) | apply setPort_made (mask_sub hM rfl) | split


theorem execMessageDamaged_made {M : Nat} (hM : M ||| 28334198897492749189154 = M) {s0 : State} (p : Fin 2) (why : Damage) (vl : Fin 4) (cells : Nat) (fwd : Option Msg) (s : State) (h : Made M s0 s) :
    Ends M s0 (execMessageDamaged p why vl cells fwd s) := by
  unfold execMessageDamaged
  try dsimp only
  repeat' first
    | with_reducible first | intro _ | assumption | apply Made.ite | apply Ends.ite | apply Ends.done | apply setPort_made (mask_sub hM rfl) | apply sendNak_made (mask_sub hM rfl) | apply satAdd_made (mask_sub hM rfl) | apply spendCells_made (mask_sub hM rfl) | apply stompCopy_made (mask_sub hM rfl) | apply sendAck_made (mask_sub hM rfl) | split
    | with_reducible exact blk_at hM (F.CHN_CNT1_MSG_CRC_blk _) rfl | with_reducible exact blk_at hM (F.CHN_CNT2_STOMPED_blk _) rfl | with_reducible exact blk_at hM (F.CHN_CNT3_SEQ_DISCARD_blk _) rfl


theorem execLaneFrameLock_made {M : Nat} (hM : M ||| 18889465931478580854818 = M) {s0 : State} (p : Fin 2) (lane : Fin 2) (inverted : Bool) (skew : Nat) (s : State) (h : Made M s0 s) :
    Ends M s0 (execLaneFrameLock p lane inverted skew s) := by
  unfold execLaneFrameLock
  try dsimp only
  repeat' first
    | with_reducible first | intro _ | assumption | apply Made.ite | apply Ends.ite | apply Ends.done | apply setf_made (mask_sub hM rfl) | apply sendCaps_made (mask_sub hM rfl) | apply trainTo_made (mask_sub hM rfl) | split
    | with_reducible exact blk_at hM (F.CHN_PSTAT_FRM_blk _) rfl | with_reducible exact blk_at hM (F.CHN_PSTAT_INV_blk _) rfl | with_reducible exact blk_at hM (F.CHN_PSTAT_SKEW_blk _) rfl


theorem execChnPortEn_made {M : Nat} (hM : M ||| 209219706210348713577151718 = M) {s0 : State} (p : Fin 2) (en : Bool) (s : State) (h : Made M s0 s) :
    Ends M s0 (execChnPortEn p en s) := by
  unfold execChnPortEn
  try dsimp only
  with_reducible repeat' first
    | intro _ | assumption | apply Made.ite | apply Ends.ite | apply Ends.done | apply setPortEn_made (mask_sub hM rfl) | split


end Sys2Proof.Machine
end

