-- ==== Sys2Proof/Laws/MadeTopo.lean ====
section
/-! SUPPORT. Topo.lean, operation by operation: the fields it leaves as they are, and that it keeps the stores canonical. -/
set_option linter.all false
namespace Sys2Proof.Machine
set_option Elab.async false

theorem onDst_made {M : Nat} (hM : M ||| 66113130760449910898722 = M) {s0 : State} (s : State) (p : Nat) (m : Msg) (f : State → State) (k_f : ∀ t , Made M s0 t → Made M s0 (f t )) (h : Made M s0 s) :
    Ends M s0 (onDst s p m f) := by
  unfold onDst
  try dsimp only
  with_reducible repeat' first
    | intro _ | assumption | apply k_f | apply Made.ite | apply Ends.ite | apply Ends.done | apply takeMsg_made (mask_sub hM rfl) | apply passOn_made (mask_sub hM rfl) | split


theorem tunCpl_made {M : Nat} (hM : M ||| 28334198897492749189154 = M) {s0 : State} (s : State) (unit : Nat) (tag : Nat) (status : Nat) (last : Nat) (off : Nat) (d : List Byte) (h : Made M s0 s) :
    Made M s0 (tunCpl s unit tag status last off d) := by
  unfold tunCpl
  try dsimp only
  with_reducible repeat' first
    | intro _ | assumption | apply sendMsg_made (mask_sub hM rfl)


theorem execTunRdReq_made {M : Nat} (hM : M ||| 66113130760999666714658 = M) {s0 : State} (p : Fin 2) (m : Msg) (s : State) (h : Made M s0 s) :
    Ends M s0 (execTunRdReq p m s) := by
  unfold execTunRdReq
  try dsimp only
  with_reducible repeat' first
    | intro _ | assumption | apply Made.ite | apply Ends.ite | apply Ends.done | apply onDst_made (mask_sub hM rfl) | apply nakWake_made (mask_sub hM rfl) | apply emit_made (mask_sub hM rfl) | apply tunCpl_made (mask_sub hM rfl) | split | apply Made.set_hif (mask_sub hM rfl)


theorem setEnu_made {M : Nat} (hM : M ||| 549755813888 = M) {s0 : State} (s : State) (x1 : Enu) (h : Made M s0 s) :
    Made M s0 (setEnu s x1) := by
  unfold setEnu
  try dsimp only
  with_reducible repeat' first
    | intro _ | assumption | apply Made.set_enu (mask_sub hM rfl)


theorem takeCommit_made {M : Nat} (hM : M ||| 37778931863506917527586 = M) {s0 : State} (s : State) (h : Made M s0 s) :
    Made M s0 (takeCommit s) := by
  unfold takeCommit
  try dsimp only
  repeat' first
    | with_reducible first | intro _ | assumption | apply Made.ite | apply setEnu_made (mask_sub hM rfl) | apply setf_made (mask_sub hM rfl) | apply ctl_made (mask_sub hM rfl) | apply Made.foldl | split | apply Made.set_pwr (mask_sub hM rfl)
    | exact blk_at hM rfl rfl


theorem tryCommit_made {M : Nat} (hM : M ||| 66113130760999666716706 = M) {s0 : State} (s : State) (h : Made M s0 s) :
    Made M s0 (tryCommit s) := by
  unfold tryCommit
  try dsimp only
  with_reducible repeat' first
    | intro _ | assumption | apply Made.ite | apply takeCommit_made (mask_sub hM rfl) | apply sendMsg_made (mask_sub hM rfl) | split


theorem giveVote_made {M : Nat} (hM : M ||| 66113130760999666716706 = M) {s0 : State} (s : State) (why : Option Nat) (h : Made M s0 s) :
    Made M s0 (giveVote s why) := by
  unfold giveVote
  try dsimp only
  repeat' first
    | with_reducible first | intro _ | assumption | apply Made.ite | apply setEnu_made (mask_sub hM rfl) | apply tryCommit_made (mask_sub hM rfl) | apply sleepAbort_made (mask_sub hM rfl) | apply setf_made (mask_sub hM rfl) | apply sendMsg_made (mask_sub hM rfl) | split
    | exact blk_at hM rfl rfl


theorem execSleepReadyVote_made {M : Nat} (hM : M ||| 66113130760999666716706 = M) {s0 : State} (s : State) (h : Made M s0 s) :
    Ends M s0 (execSleepReadyVote s) := by
  unfold execSleepReadyVote
  try dsimp only
  with_reducible repeat' first
    | intro _ | assumption | apply Made.ite | apply Ends.ite | apply Ends.done | apply giveVote_made (mask_sub hM rfl) | split


theorem walkEnd_made {M : Nat} (hM : M ||| 9744603237402337532185830 = M) {s0 : State} (s : State) (h : Made M s0 s) :
    Made M s0 (walkEnd s) := by
  unfold walkEnd
  try dsimp only
  repeat' first
    | with_reducible first | intro _ | assumption | apply raise_made (mask_sub hM rfl) | apply floodTopo_made (mask_sub hM rfl) | apply setf_made (mask_sub hM rfl)
    | exact blk_at hM rfl rfl


theorem execTokenEnd_made {M : Nat} (hM : M ||| 9744603237402337532185830 = M) {s0 : State} (p : Fin 2) (m : Msg) (s : State) (h : Made M s0 s) :
    Ends M s0 (execTokenEnd p m s) := by
  unfold execTokenEnd
  try dsimp only
  with_reducible repeat' first
    | intro _ | assumption | apply Made.ite | apply Ends.ite | apply Ends.done | apply onDst_made (mask_sub hM rfl) | apply walkEnd_made (mask_sub hM rfl) | split


theorem execMessageForward_made {M : Nat} (hM : M ||| 66113130760449910898722 = M) {s0 : State} (p : Fin 2) (m : Msg) (s : State) (h : Made M s0 s) :
    Ends M s0 (execMessageForward p m s) := by
  unfold execMessageForward
  try dsimp only
  repeat' first
    | with_reducible first | intro _ | assumption | apply Made.ite | apply Ends.ite | apply Ends.done | apply freeCells_made (mask_sub hM rfl) | apply satAdd_made (mask_sub hM rfl) | apply acceptMsg_made (mask_sub hM rfl) | apply passOn_made (mask_sub hM rfl) | split
    | exact blk_at hM rfl rfl


theorem execRmtOp_made {M : Nat} (hM : M ||| 68474314002434489320866 = M) {s0 : State} (p : Fin 2) (m : Msg) (s : State) (h : Made M s0 s) :
    Ends M s0 (execRmtOp p m s) := by
  unfold execRmtOp
  try dsimp only
  with_reducible repeat' first
    | intro _ | assumption | apply Ends.done | apply onDst_made (mask_sub hM rfl) | apply remoteTurn_made (mask_sub hM rfl) | apply setEnu_made (mask_sub hM rfl) | apply nakWake_made (mask_sub hM rfl)


theorem onFlood_made {M : Nat} (hM : M ||| 28334198897492749189154 = M) {s0 : State} (s : State) (m : Msg) (f : State → State) (k_f : ∀ t , Made M s0 t → Made M s0 (f t )) (h : Made M s0 s) :
    Ends M s0 (onFlood s m f) := by
  unfold onFlood
  try dsimp only
  with_reducible repeat' first
    | intro _ | assumption | apply k_f | apply Made.ite | apply Ends.ite | apply Ends.done | apply takeFlood_made (mask_sub hM rfl) | split


theorem execSleepPropose_made {M : Nat} (hM : M ||| 28334198898042505003042 = M) {s0 : State} (m : Msg) (s : State) (h : Made M s0 s) :
    Ends M s0 (execSleepPropose m s) := by
  unfold execSleepPropose
  try dsimp only
  with_reducible repeat' first
    | intro _ | assumption | apply Made.ite | apply Ends.ite | apply Ends.done | apply onFlood_made (mask_sub hM rfl) | apply setEnu_made (mask_sub hM rfl) | split


theorem execEnuRstCmd_made {M : Nat} (hM : M ||| 28334198897492749189154 = M) {s0 : State} (dst : Fin 64) (all : Bool) (key : Nat) (s : State) (h : Made M s0 s) :
    Ends M s0 (execEnuRstCmd dst all key s) := by
  unfold execEnuRstCmd
  try dsimp only
  with_reducible repeat' first
    | intro _ | assumption | apply Made.ite | apply Ends.ite | apply Ends.done | apply sendMsg_made (mask_sub hM rfl) | split


theorem enuTab_made {M : Nat} (hM : M ||| 37778931862957161709570 = M) {s0 : State} (s : State) (u : Nat) (lo : W32) (hi : W32) (bound : Bool) (h : Made M s0 s) :
    Made M s0 (enuTab s u lo hi bound) := by
  unfold enuTab
  try dsimp only
  repeat' first
    | with_reducible first | intro _ | assumption | apply Made.ite | apply raise_made (mask_sub hM rfl) | apply setf_made (mask_sub hM rfl) | apply wr_made (mask_sub hM rfl) | split
    | with_reducible exact blk_at hM (F.ENU_TAB_FLG_BOUND_blk _) rfl | with_reducible exact blk_at hM (R.ENU_TAB_DHI_blk _) rfl | with_reducible exact blk_at hM (R.ENU_TAB_DLO_blk _) rfl | exact blk_at hM rfl rfl


theorem sendBeacon_made {M : Nat} (hM : M ||| 28334198897492749189154 = M) {s0 : State} (s : State) (h : Made M s0 s) :
    Made M s0 (sendBeacon s) := by
  unfold sendBeacon
  try dsimp only
  with_reducible repeat' first
    | intro _ | assumption | apply sendMsg_made (mask_sub hM rfl)


theorem execBeaconBackoffExpiry_made {M : Nat} (hM : M ||| 28334198898042505003042 = M) {s0 : State} (s : State) (h : Made M s0 s) :
    Ends M s0 (execBeaconBackoffExpiry s) := by
  unfold execBeaconBackoffExpiry
  try dsimp only
  with_reducible repeat' first
    | intro _ | assumption | apply Made.ite | apply Ends.ite | apply Ends.done | apply sendBeacon_made (mask_sub hM rfl) | apply setEnu_made (mask_sub hM rfl) | split


theorem execTunInt_made {M : Nat} (hM : M ||| 68474314002434489319458 = M) {s0 : State} (p : Fin 2) (m : Msg) (s : State) (h : Made M s0 s) :
    Ends M s0 (execTunInt p m s) := by
  unfold execTunInt
  try dsimp only
  with_reducible repeat' first
    | intro _ | assumption | apply Made.ite | apply Ends.ite | apply Ends.done | apply onDst_made (mask_sub hM rfl) | apply sendVec_made (mask_sub hM rfl) | apply nakWake_made (mask_sub hM rfl) | split


theorem execTopoBreak_made {M : Nat} (hM : M ||| 9744603237402337532185830 = M) {s0 : State} (p : Fin 2) (m : Msg) (s : State) (h : Made M s0 s) :
    Ends M s0 (execTopoBreak p m s) := by
  unfold execTopoBreak
  try dsimp only
  with_reducible repeat' first
    | intro _ | assumption | apply Made.ite | apply Ends.ite | apply Ends.done | apply onDst_made (mask_sub hM rfl) | apply topoBreak_made (mask_sub hM rfl) | split


theorem sendToken_made {M : Nat} (hM : M ||| 28334198897492749189154 = M) {s0 : State} (s : State) (hop : Nat) (walk : Nat) (h : Made M s0 s) :
    Made M s0 (sendToken s hop walk) := by
  unfold sendToken
  try dsimp only
  with_reducible repeat' first
    | intro _ | assumption | apply sendMsg_made (mask_sub hM rfl)


theorem startWalk_made {M : Nat} (hM : M ||| 9744603237402337532185830 = M) {s0 : State} (s : State) (a : Nat) (part : Bool) (h : Made M s0 s) :
    Made M s0 (startWalk s a part) := by
  unfold startWalk
  try dsimp only
  repeat' first
    | with_reducible first | intro _ | assumption | apply Made.ite | apply setf_made (mask_sub hM rfl) | apply setEnu_made (mask_sub hM rfl) | apply sleepAbort_made (mask_sub hM rfl) | apply sendToken_made (mask_sub hM rfl) | apply walkEnd_made (mask_sub hM rfl) | apply sendMsg_made (mask_sub hM rfl) | split
    | exact blk_at hM rfl rfl


theorem execNakWake_made {M : Nat} (hM : M ||| 66113130760999666712610 = M) {s0 : State} (p : Fin 2) (m : Msg) (s : State) (h : Made M s0 s) :
    Ends M s0 (execNakWake p m s) := by
  unfold execNakWake
  try dsimp only
  repeat' first
    | with_reducible first | intro _ | assumption | apply Made.ite | apply Ends.ite | apply Ends.done | apply onDst_made (mask_sub hM rfl) | apply sleepAbort_made (mask_sub hM rfl) | apply satAdd_made (mask_sub hM rfl) | split
    | exact blk_at hM rfl rfl


theorem execSleepAbort_made {M : Nat} (hM : M ||| 66113130760999666712610 = M) {s0 : State} (m : Msg) (s : State) (h : Made M s0 s) :
    Ends M s0 (execSleepAbort m s) := by
  unfold execSleepAbort
  try dsimp only
  repeat' first
    | with_reducible first | intro _ | assumption | apply Made.ite | apply Ends.ite | apply Ends.done | apply onFlood_made (mask_sub hM rfl) | apply setEnu_made (mask_sub hM rfl) | apply setf_made (mask_sub hM rfl) | apply raise_made (mask_sub hM rfl) | split
    | exact blk_at hM rfl rfl


theorem execElectionWin_made {M : Nat} (hM : M ||| 9744621684146411241737446 = M) {s0 : State} (s : State) (h : Made M s0 s) :
    Ends M s0 (execElectionWin s) := by
  unfold execElectionWin
  try dsimp only
  repeat' first
    | with_reducible first | intro _ | assumption | apply Made.ite | apply Ends.ite | apply Ends.done | apply setf_made (mask_sub hM rfl) | apply setEnu_made (mask_sub hM rfl) | apply wr_made (mask_sub hM rfl) | apply setReach_made (mask_sub hM rfl) | apply alarmUpdate_made (mask_sub hM rfl) | apply startWalk_made (mask_sub hM rfl) | split
    | with_reducible exact blk_at hM (R.ENU_TAB_DHI_blk _) rfl | with_reducible exact blk_at hM (R.ENU_TAB_DLO_blk _) rfl | with_reducible exact blk_at hM (R.ENU_TAB_FLG_blk _) rfl | exact blk_at hM rfl rfl


theorem execWinCpl_made {M : Nat} (hM : M ||| 66113130760449910900770 = M) {s0 : State} (p : Fin 2) (m : Msg) (s : State) (h : Made M s0 s) :
    Ends M s0 (execWinCpl p m s) := by
  unfold execWinCpl
  try dsimp only
  with_reducible repeat' first
    | intro _ | assumption | apply Made.ite | apply Ends.ite | apply Ends.done | apply onDst_made (mask_sub hM rfl) | apply emit_made (mask_sub hM rfl) | split | apply Made.set_hif (mask_sub hM rfl)


theorem noteReach_made {M : Nat} (hM : M ||| 9706824305538830614662246 = M) {s0 : State} (before : Bool) (s : State) (h : Made M s0 s) :
    Made M s0 (noteReach before s) := by
  unfold noteReach
  try dsimp only
  with_reducible repeat' first
    | intro _ | assumption | apply Made.ite | apply applyReturn_made (mask_sub hM rfl) | split


theorem execTopoUpdate_made {M : Nat} (hM : M ||| 9744603237402346122120422 = M) {s0 : State} (m : Msg) (s : State) (h : Made M s0 s) :
    Ends M s0 (execTopoUpdate m s) := by
  unfold execTopoUpdate
  try dsimp only
  repeat' first
    | with_reducible first | intro _ | assumption | apply Made.ite | apply Ends.ite | apply Ends.done | apply onFlood_made (mask_sub hM rfl) | apply wr_made (mask_sub hM rfl) | apply wrapAdd_made (mask_sub hM rfl) | apply setEnu_made (mask_sub hM rfl) | apply setf_made (mask_sub hM rfl) | apply memberHostLoss_made (mask_sub hM rfl) | apply noteReach_made (mask_sub hM rfl) | apply endUnreachable_made (mask_sub hM rfl) | split
    | with_reducible exact blk_at hM (R.ENU_REACH_blk _) rfl | exact blk_at hM rfl rfl


theorem execCancel_made {M : Nat} (hM : M ||| 66113130760999666712610 = M) {s0 : State} (s : State) (h : Made M s0 s) :
    Ends M s0 (execCancel s) := by
  unfold execCancel
  try dsimp only
  with_reducible repeat' first
    | intro _ | assumption | apply Made.ite | apply Ends.ite | apply Ends.done | apply sleepAbort_made (mask_sub hM rfl) | split


theorem execPartialWalk_made {M : Nat} (hM : M ||| 9744603237402337532185830 = M) {s0 : State} (a : Fin 64) (s : State) (h : Made M s0 s) :
    Ends M s0 (execPartialWalk a s) := by
  unfold execPartialWalk
  try dsimp only
  with_reducible repeat' first
    | intro _ | assumption | apply Made.ite | apply Ends.ite | apply Ends.done | apply startWalk_made (mask_sub hM rfl) | split


theorem execVoteMissingTimeout_made {M : Nat} (hM : M ||| 66113130760999666712610 = M) {s0 : State} (s : State) (h : Made M s0 s) :
    Ends M s0 (execVoteMissingTimeout s) := by
  unfold execVoteMissingTimeout
  try dsimp only
  with_reducible repeat' first
    | intro _ | assumption | apply Made.ite | apply Ends.ite | apply Ends.done | apply sleepAbort_made (mask_sub hM rfl) | split


theorem sendTokenEnd_made {M : Nat} (hM : M ||| 28334198897492749189154 = M) {s0 : State} (s : State) (hop : Nat) (walk : Nat) (h : Made M s0 s) :
    Made M s0 (sendTokenEnd s hop walk) := by
  unfold sendTokenEnd
  try dsimp only
  with_reducible repeat' first
    | intro _ | assumption | apply sendMsg_made (mask_sub hM rfl)


theorem takeAddr_made {M : Nat} (hM : M ||| 9744603237402337532185702 = M) {s0 : State} (s : State) (u : Nat) (noAddr : Bool) (h : Made M s0 s) :
    Made M s0 (takeAddr s u noAddr) := by
  unfold takeAddr
  try dsimp only
  repeat' first
    | with_reducible first | intro _ | assumption | apply Made.ite | apply setf_made (mask_sub hM rfl) | apply setEnu_made (mask_sub hM rfl) | apply noteReach_made (mask_sub hM rfl) | apply sendToken_made (mask_sub hM rfl) | apply sendTokenEnd_made (mask_sub hM rfl) | split
    | exact blk_at hM rfl rfl


theorem execWalk_made {M : Nat} (hM : M ||| 9744603237402337532185830 = M) {s0 : State} (s : State) (h : Made M s0 s) :
    Ends M s0 (execWalk s) := by
  unfold execWalk
  try dsimp only
  with_reducible repeat' first
    | intro _ | assumption | apply Made.ite | apply Ends.ite | apply Ends.done | apply startWalk_made (mask_sub hM rfl) | split


theorem noteAssign_made {M : Nat} (hM : M ||| 549755813888 = M) {s0 : State} (s : State) (walk : Nat) (u : Nat) (own : Bool) (h : Made M s0 s) :
    Made M s0 (noteAssign s walk u own) := by
  unfold noteAssign
  try dsimp only
  with_reducible repeat' first
    | intro _ | assumption | apply Made.ite | apply setEnu_made (mask_sub hM rfl) | split


theorem execSleepVote_made {M : Nat} (hM : M ||| 66113130760999666716706 = M) {s0 : State} (p : Fin 2) (m : Msg) (s : State) (h : Made M s0 s) :
    Ends M s0 (execSleepVote p m s) := by
  unfold execSleepVote
  try dsimp only
  with_reducible repeat' first
    | intro _ | assumption | apply Made.ite | apply Ends.ite | apply Ends.done | apply onDst_made (mask_sub hM rfl) | apply tryCommit_made (mask_sub hM rfl) | apply setEnu_made (mask_sub hM rfl) | apply sleepAbort_made (mask_sub hM rfl) | split


theorem execRmtDone_made {M : Nat} (hM : M ||| 9744603237401787776369894 = M) {s0 : State} (p : Fin 2) (m : Msg) (s : State) (h : Made M s0 s) :
    Ends M s0 (execRmtDone p m s) := by
  unfold execRmtDone
  try dsimp only
  repeat' first
    | with_reducible first | intro _ | assumption | apply Made.ite | apply Ends.ite | apply Ends.done | apply onDst_made (mask_sub hM rfl) | apply creditToken_made (mask_sub hM rfl) | apply unlend_made (mask_sub hM rfl) | apply wrapAdd_made (mask_sub hM rfl) | apply writeRec_made (mask_sub hM rfl) | apply drainCheck_made (mask_sub hM rfl) | split | apply Made.set_ops (mask_sub hM rfl)
    | with_reducible exact blk_at hM (F.CTX_DONE_COUNT_blk _) rfl


theorem nextTun_made {M : Nat} (hM : M ||| 28334198897492749189154 = M) {s0 : State} (s : State) (tag : Nat) (h : Made M s0 s) :
    Made M s0 (nextTun s tag) := by
  unfold nextTun
  try dsimp only
  with_reducible repeat' first
    | intro _ | assumption | apply tunRead_made (mask_sub hM rfl) | split


theorem execTunRdCpl_made {M : Nat} (hM : M ||| 9745783829866938707741926 = M) {s0 : State} (p : Fin 2) (m : Msg) (s : State) (h : Made M s0 s) :
    Ends M s0 (execTunRdCpl p m s) := by
  unfold execTunRdCpl
  try dsimp only
  with_reducible repeat' first
    | intro _ | assumption | apply Made.ite | apply Ends.ite | apply Ends.done | apply onDst_made (mask_sub hM rfl) | apply memberHostLoss_made (mask_sub hM rfl) | apply dropRead_made (mask_sub hM rfl) | apply fetchEnds_made (mask_sub hM rfl) | apply giveRet_made (mask_sub hM rfl) | apply nextTun_made (mask_sub hM rfl) | apply copyData_made (mask_sub hM rfl) | split | apply Made.set_hif (mask_sub hM rfl)


theorem execSleepCommit_made {M : Nat} (hM : M ||| 66113130760999666716706 = M) {s0 : State} (m : Msg) (s : State) (h : Made M s0 s) :
    Ends M s0 (execSleepCommit m s) := by
  unfold execSleepCommit
  try dsimp only
  with_reducible repeat' first
    | intro _ | assumption | apply Made.ite | apply Ends.ite | apply Ends.done | apply onFlood_made (mask_sub hM rfl) | apply takeCommit_made (mask_sub hM rfl) | split


theorem execEnuTabWrite_made {M : Nat} (hM : M ||| 37778931862957161711618 = M) {s0 : State} (m : Master) (u : Fin 64) (word : Fin 3) (data : W32) (s : State) (h : Made M s0 s) :
    Ends M s0 (execEnuTabWrite m u word data s) := by
  unfold execEnuTabWrite
  try dsimp only
  with_reducible repeat' first
    | intro _ | assumption | apply Made.ite | apply Ends.ite | apply Ends.done | apply holdLow_made (mask_sub hM rfl) | apply enuTab_made (mask_sub hM rfl) | apply dropLow_made (mask_sub hM rfl) | split


theorem execVoteWaitExpiry_made {M : Nat} (hM : M ||| 66113130760999666716706 = M) {s0 : State} (s : State) (h : Made M s0 s) :
    Ends M s0 (execVoteWaitExpiry s) := by
  unfold execVoteWaitExpiry
  try dsimp only
  with_reducible repeat' first
    | intro _ | assumption | apply Made.ite | apply Ends.ite | apply Ends.done | apply giveVote_made (mask_sub hM rfl) | split


theorem execToken_made {M : Nat} (hM : M ||| 66113130760999666712610 = M) {s0 : State} (m : Msg) (s : State) (h : Made M s0 s) :
    Ends M s0 (execToken m s) := by
  unfold execToken
  try dsimp only
  repeat' first
    | with_reducible first | intro _ | assumption | apply Made.ite | apply Ends.ite | apply Ends.done | apply takeMsg_made (mask_sub hM rfl) | apply setEnu_made (mask_sub hM rfl) | apply setf_made (mask_sub hM rfl) | apply sendMsg_made (mask_sub hM rfl) | split
    | exact blk_at hM rfl rfl


theorem execWalkStart_made {M : Nat} (hM : M ||| 66113130760449910898722 = M) {s0 : State} (p : Fin 2) (m : Msg) (s : State) (h : Made M s0 s) :
    Ends M s0 (execWalkStart p m s) := by
  unfold execWalkStart
  try dsimp only
  with_reducible repeat' first
    | intro _ | assumption | apply Made.ite | apply Ends.ite | apply Ends.done | apply onDst_made (mask_sub hM rfl) | apply sendToken_made (mask_sub hM rfl) | apply sendTokenEnd_made (mask_sub hM rfl) | split


theorem execBeacon_made {M : Nat} (hM : M ||| 66113130760999666712610 = M) {s0 : State} (p : Fin 2) (m : Msg) (s : State) (h : Made M s0 s) :
    Ends M s0 (execBeacon p m s) := by
  unfold execBeacon
  try dsimp only
  repeat' first
    | with_reducible first | intro _ | assumption | apply Made.ite | apply Ends.ite | apply Ends.done | apply takeFlood_made (mask_sub hM rfl) | apply raise_made (mask_sub hM rfl) | apply setf_made (mask_sub hM rfl) | apply setEnu_made (mask_sub hM rfl) | apply sendBeacon_made (mask_sub hM rfl) | split
    | exact blk_at hM rfl rfl


theorem execAddrAssign_made {M : Nat} (hM : M ||| 9744603237402337532185702 = M) {s0 : State} (m : Msg) (s : State) (h : Made M s0 s) :
    Ends M s0 (execAddrAssign m s) := by
  unfold execAddrAssign
  try dsimp only
  with_reducible repeat' first
    | intro _ | assumption | apply Made.ite | apply Ends.ite | apply Ends.done | apply onFlood_made (mask_sub hM rfl) | apply noteAssign_made (mask_sub hM rfl) | apply takeAddr_made (mask_sub hM rfl) | split


theorem execEnuBypass_made {M : Nat} (hM : M ||| 37778931862957161713698 = M) {s0 : State} (on : Bool) (s : State) (h : Made M s0 s) :
    Ends M s0 (execEnuBypass on s) := by
  unfold execEnuBypass
  try dsimp only
  repeat' first
    | with_reducible first | intro _ | assumption | apply Made.ite | apply Ends.ite | apply Ends.done | apply driveByp_made (mask_sub hM rfl) | apply setf_made (mask_sub hM rfl) | split
    | exact blk_at hM rfl rfl


theorem execDevEvt_made {M : Nat} (hM : M ||| 9739880870918918131157026 = M) {s0 : State} (p : Fin 2) (m : Msg) (s : State) (h : Made M s0 s) :
    Ends M s0 (execDevEvt p m s) := by
  unfold execDevEvt
  try dsimp only
  repeat' first
    | with_reducible first | intro _ | assumption | apply Made.ite | apply Ends.ite | apply Ends.done | apply onDst_made (mask_sub hM rfl) | apply wr_made (mask_sub hM rfl) | apply devEvent_made (mask_sub hM rfl) | apply Made.foldl | split
    | with_reducible exact blk_at hM (R.HIF_DEV_UNIT_blk _) rfl


theorem execBecomeCandidate_made {M : Nat} (hM : M ||| 66113130760449910898722 = M) {s0 : State} (s : State) (h : Made M s0 s) :
    Ends M s0 (execBecomeCandidate s) := by
  unfold execBecomeCandidate
  try dsimp only
  repeat' first
    | with_reducible first | intro _ | assumption | apply Made.ite | apply Ends.ite | apply Ends.done | apply sendBeacon_made (mask_sub hM rfl) | apply setf_made (mask_sub hM rfl) | split
    | exact blk_at hM rfl rfl


theorem execJoin_made {M : Nat} (hM : M ||| 9739880870919467886970914 = M) {s0 : State} (p : Fin 2) (m : Msg) (s : State) (h : Made M s0 s) :
    Ends M s0 (execJoin p m s) := by
  unfold execJoin
  try dsimp only
  repeat' first
    | with_reducible first | intro _ | assumption | apply Made.ite | apply Ends.ite | apply Ends.done | apply onDst_made (mask_sub hM rfl) | apply sleepAbort_made (mask_sub hM rfl) | apply sendMsg_made (mask_sub hM rfl) | apply wr_made (mask_sub hM rfl) | apply setf_made (mask_sub hM rfl) | apply devEvent_made (mask_sub hM rfl) | apply countUnits_made (mask_sub hM rfl) | apply setReach_made (mask_sub hM rfl) | apply raise_made (mask_sub hM rfl) | split
    | with_reducible exact blk_at hM (F.ENU_TAB_FLG_BOUND_blk _) rfl | with_reducible exact blk_at hM (F.ENU_TAB_FLG_HOP_blk _) rfl | with_reducible exact blk_at hM (F.ENU_TAB_FLG_REV_blk _) rfl | with_reducible exact blk_at hM (R.ENU_TAB_DHI_blk _) rfl | with_reducible exact blk_at hM (R.ENU_TAB_DLO_blk _) rfl | exact blk_at hM rfl rfl


theorem execPropose_made {M : Nat} (hM : M ||| 66113130760999666712610 = M) {s0 : State} (s : State) (h : Made M s0 s) :
    Ends M s0 (execPropose s) := by
  unfold execPropose
  try dsimp only
  repeat' first
    | with_reducible first | intro _ | assumption | apply Made.ite | apply Ends.ite | apply Ends.done | apply setf_made (mask_sub hM rfl) | apply setEnu_made (mask_sub hM rfl) | apply sendMsg_made (mask_sub hM rfl) | split
    | exact blk_at hM rfl rfl


theorem execWalkTimeout_made {M : Nat} (hM : M ||| 9744603237402337532185830 = M) {s0 : State} (s : State) (h : Made M s0 s) :
    Ends M s0 (execWalkTimeout s) := by
  unfold execWalkTimeout
  try dsimp only
  repeat' first
    | with_reducible first | intro _ | assumption | apply Made.ite | apply Ends.ite | apply Ends.done | apply walkEnd_made (mask_sub hM rfl) | apply raise_made (mask_sub hM rfl) | split
    | exact blk_at hM rfl rfl


theorem execTunWr_made {M : Nat} (hM : M ||| 68474314002434489319458 = M) {s0 : State} (p : Fin 2) (m : Msg) (s : State) (h : Made M s0 s) :
    Ends M s0 (execTunWr p m s) := by
  unfold execTunWr
  try dsimp only
  repeat' first
    | with_reducible first | intro _ | assumption | apply Made.ite | apply Ends.ite | apply Ends.done | apply onDst_made (mask_sub hM rfl) | apply nakWake_made (mask_sub hM rfl) | apply emit_made (mask_sub hM rfl) | apply satAdd_made (mask_sub hM rfl) | split
    | exact blk_at hM rfl rfl


end Sys2Proof.Machine
end

