-- ==== Sys2Proof/Laws/MadeHostLink.lean ====
section
/-! SUPPORT. HostLink.lean, operation by operation: the fields it leaves as they are, and that it keeps the stores canonical. -/
set_option linter.all false
namespace Sys2Proof.Machine
set_option Elab.async false

theorem announce_made {M : Nat} (hM : M ||| 9744603237402337532185830 = M) {s0 : State} (s : State) (h : Made M s0 s) :
    Made M s0 (announce s) := by
  unfold announce
  try dsimp only
  with_reducible repeat' first
    | intro _ | assumption | apply Made.ite | apply floodTopo_made (mask_sub hM rfl) | split


theorem endTunnels_made {M : Nat} (hM : M ||| 28334198897492749191202 = M) {s0 : State} (s : State) (h : Made M s0 s) :
    Made M s0 (endTunnels s) := by
  unfold endTunnels
  try dsimp only
  with_reducible repeat' first
    | intro _ | assumption | apply dropRead_made (mask_sub hM rfl) | apply tunCpl_made (mask_sub hM rfl) | apply Made.foldl | split


theorem linkChanged_made {M : Nat} (hM : M ||| 9744603237402337532185830 = M) {s0 : State} (up : Bool) (reach : Bool) (s : State) (h : Made M s0 s) :
    Made M s0 (linkChanged up reach s) := by
  unfold linkChanged
  try dsimp only
  with_reducible repeat' first
    | intro _ | assumption | apply Made.ite | apply applyLoss_made (mask_sub hM rfl) | apply announce_made (mask_sub hM rfl) | apply endTunnels_made (mask_sub hM rfl) | apply noteReach_made (mask_sub hM rfl) | split


theorem msixUpdate_made {M : Nat} (hM : M ||| 30695382138927571798114 = M) {s0 : State} (s : State) (h : Made M s0 s) :
    Made M s0 (msixUpdate s) := by
  unfold msixUpdate
  try dsimp only
  repeat' first
    | with_reducible first | intro _ | assumption | apply Made.ite | apply setf_made (mask_sub hM rfl) | apply sendHeldDev_made (mask_sub hM rfl) | apply sendCtxInt_made (mask_sub hM rfl) | apply Made.foldl | split
    | exact blk_at hM rfl rfl


theorem setBme_made {M : Nat} (hM : M ||| 9744603237402337532185830 = M) {s0 : State} (s : State) (on : Bool) (h : Made M s0 s) :
    Made M s0 (setBme s on) := by
  unfold setBme
  try dsimp only
  repeat' first
    | with_reducible first | intro _ | assumption | apply Made.ite | apply raise_made (mask_sub hM rfl) | apply linkChanged_made (mask_sub hM rfl) | apply setf_made (mask_sub hM rfl) | split
    | exact blk_at hM rfl rfl


theorem setD3hot_made {M : Nat} (hM : M ||| 9744603237402337532185830 = M) {s0 : State} (s : State) (on : Bool) (h : Made M s0 s) :
    Made M s0 (setD3hot s on) := by
  unfold setD3hot
  try dsimp only
  repeat' first
    | with_reducible first | intro _ | assumption | apply Made.ite | apply raise_made (mask_sub hM rfl) | apply linkChanged_made (mask_sub hM rfl) | apply setf_made (mask_sub hM rfl) | split
    | exact blk_at hM rfl rfl


theorem setHif_made {M : Nat} (hM : M ||| 2048 = M) {s0 : State} (s : State) (hq : Hif) (h : Made M s0 s) :
    Made M s0 (setHif s hq) := by
  unfold setHif
  try dsimp only
  with_reducible repeat' first
    | intro _ | assumption | apply Made.set_hif (mask_sub hM rfl)


theorem execHostConfigWrite_made {M : Nat} (hM : M ||| 9744603237402337532185830 = M) {s0 : State} (w : CfgWrite) (s : State) (h : Made M s0 s) :
    Ends M s0 (execHostConfigWrite w s) := by
  unfold execHostConfigWrite
  try dsimp only
  with_reducible repeat' first
    | intro _ | assumption | apply Made.ite | apply Ends.ite | apply Ends.done | apply setBme_made (mask_sub hM rfl) | apply setD3hot_made (mask_sub hM rfl) | apply msixUpdate_made (mask_sub hM rfl) | apply setHif_made (mask_sub hM rfl) | split


theorem hifReset_made {M : Nat} (hM : M ||| 2048 = M) {s0 : State} (s : State) (h : Made M s0 s) :
    Made M s0 (hifReset s) := by
  unfold hifReset
  try dsimp only
  with_reducible repeat' first
    | intro _ | assumption | apply setHif_made (mask_sub hM rfl)


theorem execPerstRise_made {M : Nat} (hM : M ||| 2361183241434822606850 = M) {s0 : State} (s : State) (h : Made M s0 s) :
    Ends M s0 (execPerstRise s) := by
  unfold execPerstRise
  try dsimp only
  repeat' first
    | with_reducible first | intro _ | assumption | apply Ends.done | apply setf_made (mask_sub hM rfl)
    | exact blk_at hM rfl rfl


theorem execWindowReadTimeout_made {M : Nat} (hM : M ||| 2361183241434822608930 = M) {s0 : State} (wtag : Fin 256) (s : State) (h : Made M s0 s) :
    Ends M s0 (execWindowReadTimeout wtag s) := by
  unfold execWindowReadTimeout
  try dsimp only
  repeat' first
    | with_reducible first | intro _ | assumption | apply Ends.done | apply setHif_made (mask_sub hM rfl) | apply emit_made (mask_sub hM rfl) | apply satAdd_made (mask_sub hM rfl) | split
    | exact blk_at hM rfl rfl


theorem readFails_made {M : Nat} (hM : M ||| 9745783829022513777609958 = M) {s0 : State} (s : State) (r : HRead) (fe : FetchEnd) (tun : Nat) (h : Made M s0 s) :
    Made M s0 (readFails s r fe tun) := by
  unfold readFails
  try dsimp only
  repeat' first
    | with_reducible first | intro _ | assumption | apply Made.ite | apply dropRead_made (mask_sub hM rfl) | apply giveRet_made (mask_sub hM rfl) | apply fetchEnds_made (mask_sub hM rfl) | apply tunCpl_made (mask_sub hM rfl) | apply satAdd_made (mask_sub hM rfl) | split
    | exact blk_at hM rfl rfl


theorem execHostCompletionTimeout_made {M : Nat} (hM : M ||| 9745783829022513777609958 = M) {s0 : State} (id : Nat) (s : State) (h : Made M s0 s) :
    Ends M s0 (execHostCompletionTimeout id s) := by
  unfold execHostCompletionTimeout
  try dsimp only
  with_reducible repeat' first
    | intro _ | assumption | apply Ends.done | apply readFails_made (mask_sub hM rfl) | split


theorem readData_made {M : Nat} (hM : M ||| 9745783829866938707741926 = M) {s0 : State} (s : State) (r : HRead) (bs : List Byte) (h : Made M s0 s) :
    Made M s0 (readData s r bs) := by
  unfold readData
  try dsimp only
  repeat' first
    | with_reducible first | intro _ | assumption | apply Made.ite | apply dropRead_made (mask_sub hM rfl) | apply setHif_made (mask_sub hM rfl) | apply copyData_made (mask_sub hM rfl) | apply fetchEnds_made (mask_sub hM rfl) | apply tunCpl_made (mask_sub hM rfl) | apply satAdd_made (mask_sub hM rfl) | split
    | exact blk_at hM rfl rfl


theorem takeHostReadCompletion_made {M : Nat} (hM : M ||| 9745783829866938707741926 = M) {s0 : State} (id : Nat) (e : ReadEnd) (s : State) (h : Made M s0 s) :
    Ends M s0 (takeHostReadCompletion id e s) := by
  unfold takeHostReadCompletion
  try dsimp only
  with_reducible repeat' first
    | intro _ | assumption | apply Made.ite | apply Ends.ite | apply Ends.done | apply readData_made (mask_sub hM rfl) | apply readFails_made (mask_sub hM rfl) | split


theorem linkDrop_made {M : Nat} (hM : M ||| 9744603237402337532185830 = M) {s0 : State} (s : State) (h : Made M s0 s) :
    Made M s0 (linkDrop s) := by
  unfold linkDrop
  try dsimp only
  repeat' first
    | with_reducible first | intro _ | assumption | apply Made.ite | apply raise_made (mask_sub hM rfl) | apply satAdd_made (mask_sub hM rfl) | apply setf_made (mask_sub hM rfl) | apply linkChanged_made (mask_sub hM rfl) | apply setHif_made (mask_sub hM rfl) | split
    | exact blk_at hM rfl rfl


theorem execHostLinkLoss_made {M : Nat} (hM : M ||| 9744603237402337532185830 = M) {s0 : State} (why : LinkLoss) (s : State) (h : Made M s0 s) :
    Ends M s0 (execHostLinkLoss why s) := by
  unfold execHostLinkLoss
  try dsimp only
  with_reducible repeat' first
    | intro _ | assumption | apply Made.ite | apply Ends.ite | apply Ends.done | apply linkDrop_made (mask_sub hM rfl) | apply setBme_made (mask_sub hM rfl) | apply setD3hot_made (mask_sub hM rfl) | split


theorem execPerstFall_made {M : Nat} (hM : M ||| 9745857615999349781736678 = M) {s0 : State} (s : State) (h : Made M s0 s) :
    Ends M s0 (execPerstFall s) := by
  unfold execPerstFall
  try dsimp only
  repeat' first
    | with_reducible first | intro _ | assumption | apply Made.ite | apply Ends.ite | apply Ends.done | apply setf_made (mask_sub hM rfl) | apply requestReset_made (mask_sub hM rfl) | apply raise_made (mask_sub hM rfl) | apply linkDrop_made (mask_sub hM rfl) | split
    | exact blk_at hM rfl rfl


theorem execHostLinkUp_made {M : Nat} (hM : M ||| 9744603237402337532185830 = M) {s0 : State} (speed : Fin 4) (width : Fin 8) (s : State) (h : Made M s0 s) :
    Ends M s0 (execHostLinkUp speed width s) := by
  unfold execHostLinkUp
  try dsimp only
  repeat' first
    | with_reducible first | intro _ | assumption | apply Made.ite | apply Ends.ite | apply Ends.done | apply satAdd_made (mask_sub hM rfl) | apply setf_made (mask_sub hM rfl) | apply linkChanged_made (mask_sub hM rfl) | split
    | exact blk_at hM rfl rfl


end Sys2Proof.Machine
end

