-- ==== Sys2Proof/Laws/MadeSfq.lean ====
section
/-! SUPPORT. Sfq.lean, operation by operation: the fields it leaves as they are, and that it keeps the stores canonical. -/
set_option linter.all false
namespace Sys2Proof.Machine
set_option Elab.async false

theorem xoffPins_made {M : Nat} (hM : M ||| 1099511627808 = M) {s0 : State} (s : State) (h : Made M s0 s) :
    Made M s0 (xoffPins s) := by
  unfold xoffPins
  try dsimp only
  with_reducible repeat' first
    | intro _ | assumption | apply Made.ite | apply emit_made (mask_sub hM rfl) | apply Made.foldl | split | apply Made.set_har (mask_sub hM rfl)


theorem xoffAsserts_made {M : Nat} (hM : M ||| 9853217666507789616285794 = M) {s0 : State} (s : State) (n : Nat) (h : Made M s0 s) :
    Made M s0 (xoffAsserts s n) := by
  unfold xoffAsserts
  try dsimp only
  repeat' first
    | with_reducible first | intro _ | assumption | apply Made.ite | apply devEvent_made (mask_sub hM rfl) | apply wr_made (mask_sub hM rfl) | apply recordInt_made (mask_sub hM rfl) | split
    | with_reducible exact blk_at hM (R.SFQ_XOFF_EVT_blk _) rfl


theorem showFifo_made {M : Nat} (hM : M ||| 151115727451828646838274 = M) {s0 : State} (s : State) (n : Nat) (h : Made M s0 s) :
    Made M s0 (showFifo s n) := by
  unfold showFifo
  try dsimp only
  repeat' first
    | with_reducible first | intro _ | assumption | apply Made.ite | apply wr_made (mask_sub hM rfl) | apply maxTo_made (mask_sub hM rfl) | split
    | with_reducible exact blk_at hM (F.SFQ_MAX_MAXDEPTH_blk _) rfl | with_reducible exact blk_at hM (R.SFQ_STAT_blk _) rfl | with_reducible exact blk_at hM (R.SFQ_XOFF_blk _) rfl


theorem judge_made {M : Nat} (hM : M ||| 9853217666508889128437858 = M) {s0 : State} (s : State) (n : Nat) (h : Made M s0 s) :
    Made M s0 (judge s n) := by
  unfold judge
  try dsimp only
  with_reducible repeat' first
    | intro _ | assumption | apply Made.ite | apply xoffPins_made (mask_sub hM rfl) | apply xoffAsserts_made (mask_sub hM rfl) | apply showFifo_made (mask_sub hM rfl) | apply setFifo_made (mask_sub hM rfl) | split


theorem flushFifo_made {M : Nat} (hM : M ||| 9853217666508889128437858 = M) {s0 : State} (s : State) (n : Nat) (h : Made M s0 s) :
    Made M s0 (flushFifo s n) := by
  unfold flushFifo
  try dsimp only
  repeat' first
    | with_reducible first | intro _ | assumption | apply judge_made (mask_sub hM rfl) | apply satAdd_made (mask_sub hM rfl) | apply setFifo_made (mask_sub hM rfl)
    | with_reducible exact blk_at hM (F.SFQ_CNT2_DISCARDED_blk _) rfl


theorem dropPush_made {M : Nat} (hM : M ||| 151115727451828647362562 = M) {s0 : State} (s : State) (n : Nat) (prod : Nat) (tag : Nat) (fen : Bool) (h : Made M s0 s) :
    Made M s0 (dropPush s n prod tag fen) := by
  unfold dropPush
  try dsimp only
  repeat' first
    | with_reducible first | intro _ | assumption | apply Made.ite | apply satAdd_made (mask_sub hM rfl) | apply setFifo_made (mask_sub hM rfl) | split
    | with_reducible exact blk_at hM (F.SFQ_CNT_DROPPED_blk _) rfl


theorem landPush_made {M : Nat} (hM : M ||| 151115727451828647362562 = M) {s0 : State} (s : State) (n : Nat) (it : Item) (h : Made M s0 s) :
    Made M s0 (landPush s n it) := by
  unfold landPush
  try dsimp only
  repeat' first
    | with_reducible first | intro _ | assumption | apply Made.ite | apply satAdd_made (mask_sub hM rfl) | apply setFifo_made (mask_sub hM rfl) | split
    | with_reducible exact blk_at hM (F.SFQ_CNT2_DISCARDED_blk _) rfl


theorem pushOne_made {M : Nat} (hM : M ||| 151115727451828647362562 = M) {s0 : State} (s : State) (n : Nat) (prod : Nat) (it : Item) (h : Made M s0 s) :
    Made M s0 (pushOne s n prod it) := by
  unfold pushOne
  try dsimp only
  repeat' first
    | with_reducible first | intro _ | assumption | apply Made.ite | apply satAdd_made (mask_sub hM rfl) | apply dropPush_made (mask_sub hM rfl) | apply landPush_made (mask_sub hM rfl) | split
    | with_reducible exact blk_at hM (F.SFQ_CNT2_MISROUTE_blk _) rfl


theorem push_made {M : Nat} (hM : M ||| 9853217666508889128437858 = M) {s0 : State} (s : State) (n : Nat) (prod : Nat) (it : Item) (h : Made M s0 s) :
    Made M s0 (push s n prod it) := by
  unfold push
  try dsimp only
  with_reducible repeat' first
    | intro _ | assumption | apply judge_made (mask_sub hM rfl) | apply pushOne_made (mask_sub hM rfl)


theorem pushAll_made {M : Nat} (hM : M ||| 9853217666508889128437858 = M) {s0 : State} (s : State) (n : Nat) (prod : Nat) (l : List Item) (h : Made M s0 s) :
    Made M s0 (pushAll s n prod l) := by
  unfold pushAll
  try dsimp only
  with_reducible repeat' first
    | intro _ | assumption | apply push_made (mask_sub hM rfl) | apply Made.foldl


theorem takeHead_made {M : Nat} (hM : M ||| 524288 = M) {s0 : State} (s : State) (n : Nat) (h : Made M s0 s) :
    Made M s0 (takeHead s n) := by
  unfold takeHead
  try dsimp only
  with_reducible repeat' first
    | intro _ | assumption | apply setFifo_made (mask_sub hM rfl)


theorem endRemoval_made {M : Nat} (hM : M ||| 524288 = M) {s0 : State} (s : State) (n : Nat) (more : Bool) (h : Made M s0 s) :
    Made M s0 (endRemoval s n more) := by
  unfold endRemoval
  try dsimp only
  with_reducible repeat' first
    | intro _ | assumption | apply setFifo_made (mask_sub hM rfl)


theorem removalNext_made {M : Nat} (hM : M ||| 524288 = M) {s0 : State} (s : State) (n : Nat) (h : Made M s0 s) :
    Made M s0 (removalNext s n) := by
  unfold removalNext
  try dsimp only
  with_reducible repeat' first
    | intro _ | assumption | apply Made.ite | apply endRemoval_made (mask_sub hM rfl) | apply setFifo_made (mask_sub hM rfl) | split


theorem placeGap_made {M : Nat} (hM : M ||| 151115727451828647362562 = M) {s0 : State} (s : State) (n : Nat) (h : Made M s0 s) :
    Made M s0 (placeGap s n) := by
  unfold placeGap
  try dsimp only
  repeat' first
    | with_reducible first | intro _ | assumption | apply Made.ite | apply satAdd_made (mask_sub hM rfl) | apply setFifo_made (mask_sub hM rfl) | split
    | with_reducible exact blk_at hM (F.SFQ_CNT_GAPS_blk _) rfl


theorem discardPkt_made {M : Nat} (hM : M ||| 151115727451828647362562 = M) {s0 : State} (s : State) (n : Nat) (h : Made M s0 s) :
    Made M s0 (discardPkt s n) := by
  unfold discardPkt
  try dsimp only
  with_reducible repeat' first
    | intro _ | assumption | apply Made.ite | apply showFifo_made (mask_sub hM rfl) | apply removalNext_made (mask_sub hM rfl) | split


theorem popTurn_made {M : Nat} (hM : M ||| 9853217666508889128437858 = M) {s0 : State} (s : State) (n : Nat) (p : Option (Nat × Item)) (h : Made M s0 s) :
    Made M s0 (popTurn s n p).1 := by
  unfold popTurn
  try dsimp only
  with_reducible repeat' first
    | intro _ | assumption | apply Made.ite | apply pushOne_made (mask_sub hM rfl) | apply judge_made (mask_sub hM rfl) | apply placeGap_made (mask_sub hM rfl) | apply takeHead_made (mask_sub hM rfl) | apply setFifo_made (mask_sub hM rfl) | apply Made.ite_fst | split


theorem removalTurn_made {M : Nat} (hM : M ||| 9853217666508889128437858 = M) {s0 : State} (s : State) (n : Nat) (p : Option (Nat × Item)) (h : Made M s0 s) :
    Made M s0 (removalTurn s n p) := by
  unfold removalTurn
  try dsimp only
  repeat' first
    | with_reducible first | intro _ | assumption | apply Made.ite | apply pushOne_made (mask_sub hM rfl) | apply satAdd_made (mask_sub hM rfl) | apply placeGap_made (mask_sub hM rfl) | apply takeHead_made (mask_sub hM rfl) | apply endRemoval_made (mask_sub hM rfl) | apply removalNext_made (mask_sub hM rfl) | apply judge_made (mask_sub hM rfl) | split
    | with_reducible exact blk_at hM (F.SFQ_CNT2_DISCARDED_blk _) rfl


end Sys2Proof.Machine
end

