-- ==== Sys2Proof/Laws/MadeHarrier.lean ====
section
/-! SUPPORT. Harrier.lean, operation by operation: the fields it leaves as they are, and that it keeps the stores canonical. -/
set_option linter.all false
namespace Sys2Proof.Machine
set_option Elab.async false

theorem setHar_made {M : Nat} (hM : M ||| 1099511627776 = M) {s0 : State} (s : State) (x1 : Har) (h : Made M s0 s) :
    Made M s0 (setHar s x1) := by
  unfold setHar
  try dsimp only
  with_reducible repeat' first
    | intro _ | assumption | apply Made.set_har (mask_sub hM rfl)


theorem setScan_made {M : Nat} (hM : M ||| 1099511627776 = M) {s0 : State} (s : State) (c : Scan) (h : Made M s0 s) :
    Made M s0 (setScan s c) := by
  unfold setScan
  try dsimp only
  with_reducible repeat' first
    | intro _ | assumption | apply setHar_made (mask_sub hM rfl)


theorem setHlink_made {M : Nat} (hM : M ||| 1099511627776 = M) {s0 : State} (s : State) (l : Nat) (x2 : HLink) (h : Made M s0 s) :
    Made M s0 (setHlink s l x2) := by
  unfold setHlink
  try dsimp only
  with_reducible repeat' first
    | intro _ | assumption | apply setHar_made (mask_sub hM rfl)


theorem sendPkt_made {M : Nat} (hM : M ||| 1099511627808 = M) {s0 : State} (s : State) (l : Nat) (kind : Nat) (pos : Nat) (data : Nat) (c : HCmd) (need : Nat) (h : Made M s0 s) :
    Made M s0 (sendPkt s l kind pos data c need) := by
  unfold sendPkt
  try dsimp only
  with_reducible repeat' first
    | intro _ | assumption | apply Made.ite | apply setHlink_made (mask_sub hM rfl) | apply emit_made (mask_sub hM rfl) | split


theorem sendStep_made {M : Nat} (hM : M ||| 1099511627808 = M) {s0 : State} (s : State) (o : Op) (mode : Nat) (drive : Option Nat) (sink : Option Nat) (latch : Bool) (h : Made M s0 s) :
    Made M s0 (sendStep s o mode drive sink latch) := by
  unfold sendStep
  try dsimp only
  with_reducible repeat' first
    | intro _ | assumption | apply sendPkt_made (mask_sub hM rfl) | apply Made.foldl


theorem sendPoint_made {M : Nat} (hM : M ||| 75557863727013835046946 = M) {s0 : State} (s : State) (o : Op) (c : Scan) (k : Nat) (latch : Bool) (h : Made M s0 s) :
    Made M s0 (sendPoint s o c k latch) := by
  unfold sendPoint
  try dsimp only
  repeat' first
    | with_reducible first | intro _ | assumption | apply Made.ite | apply setf_made (mask_sub hM rfl) | apply sendStep_made (mask_sub hM rfl) | split
    | exact blk_at hM rfl rfl


theorem nextStep_made {M : Nat} (hM : M ||| 75557863727013835046946 = M) {s0 : State} (s : State) (o : Op) (c : Scan) (h : Made M s0 s) :
    Made M s0 (nextStep s o c) := by
  unfold nextStep
  try dsimp only
  with_reducible repeat' first
    | intro _ | assumption | apply Made.ite | apply setScan_made (mask_sub hM rfl) | apply sendPoint_made (mask_sub hM rfl) | split


theorem stepDue_made {M : Nat} (hM : M ||| 75557863727013835046946 = M) {s0 : State} (s : State) (o : Op) (c : Scan) (h : Made M s0 s) :
    Made M s0 (stepDue s o c) := by
  unfold stepDue
  try dsimp only
  repeat' first
    | with_reducible first | intro _ | assumption | apply Made.ite | apply xoffPins_made (mask_sub hM rfl) | apply setf_made (mask_sub hM rfl) | apply setScan_made (mask_sub hM rfl) | apply nextStep_made (mask_sub hM rfl) | split
    | exact blk_at hM rfl rfl


theorem execHarSettleExpiry_made {M : Nat} (hM : M ||| 75557863727013835046946 = M) {s0 : State} (s : State) (h : Made M s0 s) :
    Ends M s0 (execHarSettleExpiry s) := by
  unfold execHarSettleExpiry
  try dsimp only
  with_reducible repeat' first
    | intro _ | assumption | apply Made.ite | apply Ends.ite | apply Ends.done | apply stepDue_made (mask_sub hM rfl) | split


theorem endHold_made {M : Nat} (hM : M ||| 75557863727013835046946 = M) {s0 : State} (s : State) (c : Scan) (h : Made M s0 s) :
    Made M s0 (endHold s c).1 := by
  unfold endHold
  try dsimp only
  repeat' first
    | with_reducible first | intro _ | assumption | apply xoffPins_made (mask_sub hM rfl) | apply setf_made (mask_sub hM rfl) | apply setScan_made (mask_sub hM rfl) | split
    | exact blk_at hM rfl rfl


theorem hRestart_made {M : Nat} (hM : M ||| 75557863727013835046946 = M) {s0 : State} (s : State) (l : Nat) (st : Nat) (lost : Bool) (h : Made M s0 s) :
    Made M s0 (hRestart s l st lost) := by
  unfold hRestart
  try dsimp only
  repeat' first
    | with_reducible first | intro _ | refine Made.of_pair (by assumption) ?_ | assumption | apply Made.ite | apply setf_made (mask_sub hM rfl) | apply setHlink_made (mask_sub hM rfl) | apply endHold_made (mask_sub hM rfl) | apply setHar_made (mask_sub hM rfl) | apply setScan_made (mask_sub hM rfl) | apply Made.ite_fst | split
    | with_reducible exact blk_at hM (F.HAR_LSTAT_STATE_blk _) rfl | exact blk_at hM rfl rfl


theorem putMismatch_made {M : Nat} (hM : M ||| 9703282531521103310882854 = M) {s0 : State} (s : State) (o : Op) (c : Scan) (kind : Nat) (drive : Nat) (sense : Nat) (bstat : Nat) (ns : W32) (sec : W32) (h : Made M s0 s) :
    Made M s0 (putMismatch s o c kind drive sense bstat ns sec).1 := by
  unfold putMismatch
  try dsimp only
  with_reducible repeat' first
    | intro _ | refine Made.of_pair (by assumption) ?_ | assumption | apply Made.ite | apply writeBytes_made (mask_sub hM rfl) | apply noteOpt_made (mask_sub hM rfl) | apply Made.ite_fst | split


theorem scanOff_made {M : Nat} (hM : M ||| 1099511627808 = M) {s0 : State} (s : State) (o : Op) (h : Made M s0 s) :
    Made M s0 (scanOff s o) := by
  unfold scanOff
  try dsimp only
  with_reducible repeat' first
    | intro _ | assumption | apply Made.ite | apply sendPkt_made (mask_sub hM rfl) | apply Made.foldl | split


theorem clearScan_made {M : Nat} (hM : M ||| 75557863727013835046946 = M) {s0 : State} (s : State) (h : Made M s0 s) :
    Made M s0 (clearScan s) := by
  unfold clearScan
  try dsimp only
  repeat' first
    | with_reducible first | intro _ | assumption | apply setHar_made (mask_sub hM rfl) | apply xoffPins_made (mask_sub hM rfl) | apply wr_made (mask_sub hM rfl)
    | exact blk_at hM rfl rfl


theorem scanEnd_made {M : Nat} (hM : M ||| 75557863727022424981666 = M) {s0 : State} (s : State) (o : Op) (c : Scan) (status : Nat) (h : Made M s0 s) :
    Made M s0 (scanEnd s o c status) := by
  unfold scanEnd
  try dsimp only
  with_reducible repeat' first
    | intro _ | refine Made.of_pair (by assumption) ?_ | assumption | apply endHold_made (mask_sub hM rfl) | apply scanOff_made (mask_sub hM rfl) | apply giveRet_made (mask_sub hM rfl) | apply clearScan_made (mask_sub hM rfl)


theorem execHarLinkWaitExpiry_made {M : Nat} (hM : M ||| 75557863727022424981666 = M) {s0 : State} (s : State) (h : Made M s0 s) :
    Ends M s0 (execHarLinkWaitExpiry s) := by
  unfold execHarLinkWaitExpiry
  try dsimp only
  repeat' first
    | with_reducible first | intro _ | assumption | apply Made.ite | apply Ends.ite | apply Ends.done | apply scanEnd_made (mask_sub hM rfl) | apply raise_made (mask_sub hM rfl) | split
    | exact blk_at hM rfl rfl


theorem sendCfg_made {M : Nat} (hM : M ||| 1099511627808 = M) {s0 : State} (s : State) (l : Nat) (r : Nat) (h : Made M s0 s) :
    Made M s0 (sendCfg s l r) := by
  unfold sendCfg
  try dsimp only
  with_reducible repeat' first
    | intro _ | assumption | apply sendPkt_made (mask_sub hM rfl)


theorem cfgFrom_made {M : Nat} (hM : M ||| 1099511627808 = M) {s0 : State} (s : State) (l : Nat) (r : Nat) (h : Made M s0 s) :
    Made M s0 (cfgFrom s l r) := by
  unfold cfgFrom
  try dsimp only
  with_reducible repeat' first
    | intro _ | assumption | apply Made.ite | apply sendCfg_made (mask_sub hM rfl) | apply setHar_made (mask_sub hM rfl) | apply Made.foldl | split


theorem scanGo_made {M : Nat} (hM : M ||| 75557863727013835046946 = M) {s0 : State} (s : State) (o : Op) (c : Scan) (h : Made M s0 s) :
    Made M s0 (scanGo s o c) := by
  unfold scanGo
  try dsimp only
  repeat' first
    | with_reducible first | intro _ | assumption | apply Made.ite | apply setf_made (mask_sub hM rfl) | apply setScan_made (mask_sub hM rfl) | apply stepDue_made (mask_sub hM rfl) | apply cfgFrom_made (mask_sub hM rfl) | apply Made.foldl | split
    | exact blk_at hM rfl rfl


theorem execHarNetmapLoad_made {M : Nat} (hM : M ||| 9703282531521111900817574 = M) {s0 : State} (tag : Nat) (hq : ReadEnd) (s : State) (h : Made M s0 s) :
    Ends M s0 (execHarNetmapLoad tag hq s) := by
  unfold execHarNetmapLoad
  try dsimp only
  with_reducible repeat' first
    | intro _ | refine Made.of_pair (by assumption) ?_ | assumption | apply Made.ite | apply Ends.ite | apply Ends.done | apply giveRet_made (mask_sub hM rfl) | apply noteErr_made (mask_sub hM rfl) | apply writeBytes_made (mask_sub hM rfl) | apply Made.ite_fst | split


theorem Cmp.add_made {M : Nat} (hM : M ||| 9703282531521103310882854 = M) {s0 : State} (x0 : Cmp) (o : Op) (kind : Nat) (drive : Nat) (sense : Nat) (bstat : Nat) (ns : W32) (sec : W32) (h : Made M s0 x0.st) :
    Made M s0 (Cmp.add x0 o kind drive sense bstat ns sec).st := by
  unfold Cmp.add
  try dsimp only
  with_reducible repeat' first
    | intro _ | refine Made.of_pair (by assumption) ?_ | assumption | apply Made.ite | apply putMismatch_made (mask_sub hM rfl) | apply Made.ite_fst | split


theorem cmpValue_made {M : Nat} (hM : M ||| 9703282531521103310882854 = M) {s0 : State} (s : State) (o : Op) (d : Nat) (r : HRep) (x4 : Cmp) (h : Made M s0 x4.st) :
    Made M s0 (cmpValue s o d r x4).st := by
  unfold cmpValue
  try dsimp only
  with_reducible repeat' first
    | intro _ | assumption | apply Made.ite | apply Cmp.add_made (mask_sub hM rfl) | split


theorem cmpPoint_made {M : Nat} (hM : M ||| 9703282531521103310882854 = M) {s0 : State} (s : State) (o : Op) (d : Nat) (r : HRep) (x4 : Cmp) (p : Nat) (h : Made M s0 x4.st) :
    Made M s0 (cmpPoint s o d r x4 p).st := by
  unfold cmpPoint
  try dsimp only
  with_reducible repeat' first
    | intro _ | assumption | apply Made.ite | apply Cmp.add_made (mask_sub hM rfl) | split


theorem cmpBoard_made {M : Nat} (hM : M ||| 9778840395247017634301990 = M) {s0 : State} (s : State) (o : Op) (d : Nat) (x3 : Cmp) (key : Nat) (h : Made M s0 x3.st) :
    Made M s0 (cmpBoard s o d x3 key).st := by
  unfold cmpBoard
  try dsimp only
  repeat' first
    | with_reducible first | intro _ | assumption | apply Made.ite | apply Cmp.add_made (mask_sub hM rfl) | apply raise_made (mask_sub hM rfl) | apply cmpPoint_made (mask_sub hM rfl) | apply cmpValue_made (mask_sub hM rfl) | apply Made.foldl | apply Made.foldlC | split
    | exact blk_at hM rfl rfl


theorem badReply_made {M : Nat} (hM : M ||| 75557863725914323419138 = M) {s0 : State} (s : State) (l : Nat) (h : Made M s0 s) :
    Made M s0 (badReply s l) := by
  unfold badReply
  try dsimp only
  repeat' first
    | with_reducible first | intro _ | assumption | apply satAdd_made (mask_sub hM rfl)
    | with_reducible exact blk_at hM (F.HAR_LCNT_CRC_ERR_blk _) rfl


theorem scanBegin_made {M : Nat} (hM : M ||| 9778840394403700805732514 = M) {s0 : State} (s : State) (o : Op) (c : Scan) (h : Made M s0 s) :
    Made M s0 (scanBegin s o c) := by
  unfold scanBegin
  try dsimp only
  repeat' first
    | with_reducible first | intro _ | assumption | apply Made.ite | apply setf_made (mask_sub hM rfl) | apply setScan_made (mask_sub hM rfl) | apply scanEnd_made (mask_sub hM rfl) | apply noteErr_made (mask_sub hM rfl) | apply giveRet_made (mask_sub hM rfl) | apply clearScan_made (mask_sub hM rfl) | apply scanGo_made (mask_sub hM rfl) | split
    | exact blk_at hM rfl rfl


theorem scanResume_made {M : Nat} (hM : M ||| 9778840394403700805732514 = M) {s0 : State} (s : State) (h : Made M s0 s) :
    Made M s0 (scanResume s) := by
  unfold scanResume
  try dsimp only
  with_reducible repeat' first
    | intro _ | assumption | apply Made.ite | apply scanBegin_made (mask_sub hM rfl) | apply scanGo_made (mask_sub hM rfl) | split


theorem hDone_made {M : Nat} (hM : M ||| 9778840394403700805732514 = M) {s0 : State} (s : State) (l : Nat) (h : Made M s0 s) :
    Made M s0 (hDone s l) := by
  unfold hDone
  try dsimp only
  repeat' first
    | with_reducible first | intro _ | assumption | apply Made.ite | apply setHar_made (mask_sub hM rfl) | apply setf_made (mask_sub hM rfl) | apply scanResume_made (mask_sub hM rfl) | split
    | with_reducible exact blk_at hM (F.HAR_LSTAT_STATE_blk _) rfl | exact blk_at hM rfl rfl


theorem execCfga_made {M : Nat} (hM : M ||| 9778840394403700805732514 = M) {s0 : State} (l : Fin 4) (pos : Fin 4) (good : Bool) (s : State) (h : Made M s0 s) :
    Ends M s0 (execCfga l pos good s) := by
  unfold execCfga
  try dsimp only
  with_reducible repeat' first
    | intro _ | assumption | apply Made.ite | apply Ends.ite | apply Ends.done | apply badReply_made (mask_sub hM rfl) | apply setHlink_made (mask_sub hM rfl) | apply sendCfg_made (mask_sub hM rfl) | apply hDone_made (mask_sub hM rfl) | split


theorem compareStep_made {M : Nat} (hM : M ||| 9929956122699954383227110 = M) {s0 : State} (s : State) (o : Op) (c : Scan) (j : Nat) (h : Made M s0 s) :
    Made M s0 (compareStep s o c j) := by
  unfold compareStep
  try dsimp only
  repeat' first
    | with_reducible first | intro _ | assumption | apply Made.ite | apply cmpBoard_made (mask_sub hM rfl) | apply scanEnd_made (mask_sub hM rfl) | apply setScan_made (mask_sub hM rfl) | apply pushAll_made (mask_sub hM rfl) | apply satAdd_made (mask_sub hM rfl) | apply giveRet_made (mask_sub hM rfl) | apply clearScan_made (mask_sub hM rfl) | apply Made.foldl | apply Made.foldlC | split
    | exact blk_at hM rfl rfl


theorem stepReplied_made {M : Nat} (hM : M ||| 9929956122699954383227110 = M) {s0 : State} (s : State) (o : Op) (c : Scan) (h : Made M s0 s) :
    Made M s0 (stepReplied s o c) := by
  unfold stepReplied
  try dsimp only
  repeat' first
    | with_reducible first | intro _ | assumption | apply Made.ite | apply giveRet_made (mask_sub hM rfl) | apply clearScan_made (mask_sub hM rfl) | apply satAdd_made (mask_sub hM rfl) | apply compareStep_made (mask_sub hM rfl) | apply raise_made (mask_sub hM rfl) | apply setScan_made (mask_sub hM rfl) | split
    | exact blk_at hM rfl rfl


theorem harLinkStart_made {M : Nat} (hM : M ||| 75557863725914323419138 = M) {s0 : State} (s : State) (l : Nat) (h : Made M s0 s) :
    Made M s0 (harLinkStart s l) := by
  unfold harLinkStart
  try dsimp only
  repeat' first
    | with_reducible first | intro _ | assumption | apply Made.ite | apply setf_made (mask_sub hM rfl) | split
    | with_reducible exact blk_at hM (F.HAR_LSTAT_STATE_blk _) rfl


theorem writeLctl_made {M : Nat} (hM : M ||| 75557863727013835046946 = M) {s0 : State} (s : State) (l : Nat) (data : W32) (h : Made M s0 s) :
    Made M s0 (writeLctl s l data) := by
  unfold writeLctl
  try dsimp only
  repeat' first
    | with_reducible first | intro _ | assumption | apply Made.ite | apply setf_made (mask_sub hM rfl) | apply hRestart_made (mask_sub hM rfl) | apply harLinkStart_made (mask_sub hM rfl) | split
    | with_reducible exact blk_at hM (F.HAR_LCTL_EN_blk _) rfl | with_reducible exact blk_at hM (F.HAR_LCTL_EXPECT_blk _) rfl


theorem execHarLinkEn_made {M : Nat} (hM : M ||| 75557863727013835046946 = M) {s0 : State} (l : Fin 4) (en : Bool) (s : State) (h : Made M s0 s) :
    Ends M s0 (execHarLinkEn l en s) := by
  unfold execHarLinkEn
  try dsimp only
  with_reducible repeat' first
    | intro _ | assumption | apply Made.ite | apply Ends.ite | apply Ends.done | apply writeLctl_made (mask_sub hM rfl) | split


theorem execHarWordLock_made {M : Nat} (hM : M ||| 75557863725914323419170 = M) {s0 : State} (l : Fin 4) (phase : Fin 16) (s : State) (h : Made M s0 s) :
    Ends M s0 (execHarWordLock l phase s) := by
  unfold execHarWordLock
  try dsimp only
  repeat' first
    | with_reducible first | intro _ | assumption | apply Made.ite | apply Ends.ite | apply Ends.done | apply emit_made (mask_sub hM rfl) | apply setf_made (mask_sub hM rfl) | split
    | with_reducible exact blk_at hM (F.HAR_LSTAT_PHASE_blk _) rfl | with_reducible exact blk_at hM (F.HAR_LSTAT_STATE_blk _) rfl


theorem execHarScan_made {M : Nat} (hM : M ||| 9778840394403700805732514 = M) {s0 : State} (tag : Nat) (reread : Bool) (s : State) (h : Made M s0 s) :
    Ends M s0 (execHarScan tag reread s) := by
  unfold execHarScan
  try dsimp only
  repeat' first
    | with_reducible first | intro _ | assumption | apply Made.ite | apply Ends.ite | apply Ends.done | apply giveRet_made (mask_sub hM rfl) | apply setHar_made (mask_sub hM rfl) | apply setf_made (mask_sub hM rfl) | apply wr_made (mask_sub hM rfl) | apply scanBegin_made (mask_sub hM rfl) | split
    | exact blk_at hM rfl rfl


theorem execIdr_made {M : Nat} (hM : M ||| 75557863727013835046946 = M) {s0 : State} (l : Fin 4) (pos : Fin 4) (w0 : W32) (w1 : W32) (good : Bool) (s : State) (h : Made M s0 s) :
    Ends M s0 (execIdr l pos w0 w1 good s) := by
  unfold execIdr
  try dsimp only
  repeat' first
    | with_reducible first | intro _ | assumption | apply Made.ite | apply Ends.ite | apply Ends.done | apply badReply_made (mask_sub hM rfl) | apply wr_made (mask_sub hM rfl) | apply setHlink_made (mask_sub hM rfl) | apply sendPkt_made (mask_sub hM rfl) | apply sendCfg_made (mask_sub hM rfl) | split
    | with_reducible exact blk_at hM (R.HAR_BRD_W0_blk _ _) rfl | with_reducible exact blk_at hM (R.HAR_BRD_W1_blk _ _) rfl


theorem hFail_made {M : Nat} (hM : M ||| 75557863727013835046946 = M) {s0 : State} (s : State) (l : Nat) (code : Nat) (lost : Bool) (h : Made M s0 s) :
    Made M s0 (hFail s l code lost) := by
  unfold hFail
  try dsimp only
  repeat' first
    | with_reducible first | intro _ | assumption | apply hRestart_made (mask_sub hM rfl) | apply setf_made (mask_sub hM rfl)
    | with_reducible exact blk_at hM (F.HAR_LSTAT_FAIL_blk _) rfl


theorem execHarWordLockLost_made {M : Nat} (hM : M ||| 75557863727013835046946 = M) {s0 : State} (l : Fin 4) (s : State) (h : Made M s0 s) :
    Ends M s0 (execHarWordLockLost l s) := by
  unfold execHarWordLockLost
  try dsimp only
  with_reducible repeat' first
    | intro _ | assumption | apply Made.ite | apply Ends.ite | apply Ends.done | apply hFail_made (mask_sub hM rfl) | split


theorem afterReply_made {M : Nat} (hM : M ||| 9929956122699954383227110 = M) {s0 : State} (s : State) (h : Made M s0 s) :
    Made M s0 (afterReply s) := by
  unfold afterReply
  try dsimp only
  with_reducible repeat' first
    | intro _ | assumption | apply Made.ite | apply stepReplied_made (mask_sub hM rfl) | split


theorem execRsp_made {M : Nat} (hM : M ||| 9929956122699954383227110 = M) {s0 : State} (l : Fin 4) (pos : Fin 4) (words : List W32) (good : Bool) (s : State) (h : Made M s0 s) :
    Ends M s0 (execRsp l pos words good s) := by
  unfold execRsp
  try dsimp only
  with_reducible repeat' first
    | intro _ | assumption | apply Made.ite | apply Ends.ite | apply Ends.done | apply badReply_made (mask_sub hM rfl) | apply setHlink_made (mask_sub hM rfl) | apply afterReply_made (mask_sub hM rfl) | apply setScan_made (mask_sub hM rfl) | split


theorem execHarRetrain_made {M : Nat} (hM : M ||| 75557863727013835046946 = M) {s0 : State} (l : Fin 4) (s : State) (h : Made M s0 s) :
    Ends M s0 (execHarRetrain l s) := by
  unfold execHarRetrain
  try dsimp only
  with_reducible repeat' first
    | intro _ | assumption | apply Made.ite | apply Ends.ite | apply Ends.done | apply writeLctl_made (mask_sub hM rfl) | split


theorem execHarReplyTimeout_made {M : Nat} (hM : M ||| 9929956122699954383227110 = M) {s0 : State} (l : Fin 4) (s : State) (h : Made M s0 s) :
    Ends M s0 (execHarReplyTimeout l s) := by
  unfold execHarReplyTimeout
  try dsimp only
  repeat' first
    | with_reducible first | intro _ | assumption | apply Made.ite | apply Ends.ite | apply Ends.done | apply satAdd_made (mask_sub hM rfl) | apply afterReply_made (mask_sub hM rfl) | apply setHlink_made (mask_sub hM rfl) | apply hFail_made (mask_sub hM rfl) | apply sendPkt_made (mask_sub hM rfl) | apply sendCfg_made (mask_sub hM rfl) | split
    | with_reducible exact blk_at hM (F.HAR_LCNT_TIMEOUTS_blk _) rfl


theorem harRelease_made {M : Nat} (hM : M ||| 75557863727013835046946 = M) {s0 : State} (s : State) (h : Made M s0 s) :
    Made M s0 (harRelease s) := by
  unfold harRelease
  try dsimp only
  with_reducible repeat' first
    | intro _ | refine Made.of_pair (by assumption) ?_ | assumption | apply Made.ite | apply endHold_made (mask_sub hM rfl) | apply nextStep_made (mask_sub hM rfl) | apply Made.ite_fst | split


theorem execHarTrainTimeout_made {M : Nat} (hM : M ||| 75557863725914323419138 = M) {s0 : State} (l : Fin 4) (s : State) (h : Made M s0 s) :
    Ends M s0 (execHarTrainTimeout l s) := by
  unfold execHarTrainTimeout
  try dsimp only
  repeat' first
    | with_reducible first | intro _ | assumption | apply Made.ite | apply Ends.ite | apply Ends.done | apply setf_made (mask_sub hM rfl) | split
    | with_reducible exact blk_at hM (F.HAR_LSTAT_FAIL_blk _) rfl


theorem execHarEnumReturn_made {M : Nat} (hM : M ||| 9778840394403700805732514 = M) {s0 : State} (l : Fin 4) (count : Fin 256) (ringNs : Nat) (s : State) (h : Made M s0 s) :
    Ends M s0 (execHarEnumReturn l count ringNs s) := by
  unfold execHarEnumReturn
  try dsimp only
  repeat' first
    | with_reducible first | intro _ | assumption | apply Made.ite | apply Ends.ite | apply Ends.done | apply hFail_made (mask_sub hM rfl) | apply setf_made (mask_sub hM rfl) | apply wr_made (mask_sub hM rfl) | apply hDone_made (mask_sub hM rfl) | apply cfgFrom_made (mask_sub hM rfl) | apply sendPkt_made (mask_sub hM rfl) | apply Made.foldl | split
    | with_reducible exact blk_at hM (F.HAR_LSTAT_BOARDS_blk _) rfl | with_reducible exact blk_at hM (F.HAR_LSTAT_RING_NS_blk _) rfl | with_reducible exact blk_at hM (F.HAR_LSTAT_STATE_blk _) rfl | with_reducible exact blk_at hM (R.HAR_BRD_W0_blk _ _) rfl | with_reducible exact blk_at hM (R.HAR_BRD_W1_blk _ _) rfl | exact blk_at hM rfl rfl


end Sys2Proof.Machine
end

