-- ==== Sys2Proof/Laws/MadeVbuOps.lean ====
section
/-! SUPPORT. VbuOps.lean, operation by operation: the fields it leaves as they are, and that it keeps the stores canonical. -/
set_option linter.all false
namespace Sys2Proof.Machine
set_option Elab.async false

theorem setCan_made {M : Nat} (hM : M ||| 2199023255552 = M) {s0 : State} (s : State) (n : Nat) (x2 : Can) (h : Made M s0 s) :
    Made M s0 (setCan s n x2) := by
  unfold setCan
  try dsimp only
  with_reducible repeat' first
    | intro _ | assumption | apply Made.set_vbu (mask_sub hM rfl)


theorem canCount_made {M : Nat} (hM : M ||| 2199023255552 = M) {s0 : State} (s : State) (n : Nat) (tec : Nat) (rxc : Nat) (h : Made M s0 s) :
    Made M s0 (canCount s n tec rxc) := by
  unfold canCount
  try dsimp only
  with_reducible repeat' first
    | intro _ | assumption | apply Made.ite | apply setCan_made (mask_sub hM rfl) | split


theorem pathPush_made {M : Nat} (hM : M ||| 10155449121414745445369954 = M) {s0 : State} (s : State) (c : Nat) (f : Nat) (l : List Item) (h : Made M s0 s) :
    Made M s0 (pathPush s c f l) := by
  unfold pathPush
  try dsimp only
  repeat' first
    | with_reducible first | intro _ | assumption | apply Made.ite | apply satAdd_made (mask_sub hM rfl) | apply raise_made (mask_sub hM rfl) | apply pushAll_made (mask_sub hM rfl) | split | apply Made.set_vbu (mask_sub hM rfl)
    | with_reducible exact blk_at hM (F.CAN_CNT3_RX_OVF_blk _) rfl | with_reducible exact blk_at hM (F.CAN_EVT_RX_OVF_blk _) rfl


theorem rxPut_made {M : Nat} (hM : M ||| 28334199741917679321126 = M) {s0 : State} (s : State) (o : Op) (bs : List Byte) (h : Made M s0 s) :
    Made M s0 (rxPut s o bs).1 := by
  unfold rxPut
  try dsimp only
  with_reducible repeat' first
    | intro _ | refine Made.of_pair (by assumption) ?_ | assumption | apply moverPut_made (mask_sub hM rfl)


theorem showArmed_made {M : Nat} (hM : M ||| 302231454903657293676546 = M) {s0 : State} (s : State) (c : Nat) (f : Nat) (on : Bool) (h : Made M s0 s) :
    Made M s0 (showArmed s c f on) := by
  unfold showArmed
  try dsimp only
  repeat' first
    | with_reducible first | intro _ | assumption | apply Made.ite | apply setf_made (mask_sub hM rfl) | apply wr_made (mask_sub hM rfl) | apply Made.foldl | split
    | with_reducible exact blk_at hM (fltId_blk _ _) rfl | with_reducible exact blk_at hM (fltMask_blk _ _) rfl | with_reducible exact blk_at hM (fltFifo_blk _ _) rfl | with_reducible exact blk_at hM (F.SENT_FLT_ARMED_blk _) rfl | with_reducible exact blk_at hM (R.CAN_FLT_FIFO_blk _ _) rfl | with_reducible exact blk_at hM (R.LIN_FLT_FIFO_blk _ _) rfl


theorem rxEnd_made {M : Nat} (hM : M ||| 302231454903665883611266 = M) {s0 : State} (s : State) (o : Op) (fin : Nat) (status : Nat) (h : Made M s0 s) :
    Made M s0 (rxEnd s o fin status) := by
  unfold rxEnd
  try dsimp only
  with_reducible repeat' first
    | intro _ | assumption | apply Made.ite | apply giveRet_made (mask_sub hM rfl) | apply showArmed_made (mask_sub hM rfl) | split


theorem rxItem_made {M : Nat} (hM : M ||| 10005513986424769194494118 = M) {s0 : State} (s : State) (o : Op) (it : Item) (h : Made M s0 s) :
    Made M s0 (rxItem s o it) := by
  unfold rxItem
  try dsimp only
  with_reducible repeat' first
    | intro _ | refine Made.of_pair (by assumption) ?_ | assumption | apply Made.ite | apply rxPut_made (mask_sub hM rfl) | apply noteOpt_made (mask_sub hM rfl) | apply rxEnd_made (mask_sub hM rfl) | apply setOp_made (mask_sub hM rfl) | apply Made.ite_fst | split


theorem rxPop_made {M : Nat} (hM : M ||| 10156629713877697353484518 = M) {s0 : State} (s : State) (n : Nat) (o : Op) (p : Option (Nat × Item)) (h : Made M s0 s) :
    Made M s0 (rxPop s n o p) := by
  unfold rxPop
  try dsimp only
  with_reducible repeat' first
    | intro _ | refine Made.of_pair (by assumption) ?_ | assumption | apply push_made (mask_sub hM rfl) | apply popTurn_made (mask_sub hM rfl) | apply rxItem_made (mask_sub hM rfl) | apply rxEnd_made (mask_sub hM rfl) | split


theorem txEnd_made {M : Nat} (hM : M ||| 8589934720 = M) {s0 : State} (s : State) (tag : Nat) (status : Nat) (att : Nat) (buf : Nat) (fin : Nat) (r1 : W32) (h : Made M s0 s) :
    Made M s0 (txEnd s tag status att buf fin r1) := by
  unfold txEnd
  try dsimp only
  with_reducible repeat' first
    | intro _ | assumption | apply giveRet_made (mask_sub hM rfl) | split


theorem releaseSlots_made {M : Nat} (hM : M ||| 302231454903657293676546 = M) {s0 : State} (s : State) (c : Nat) (h : Made M s0 s) :
    Made M s0 (releaseSlots s c) := by
  unfold releaseSlots
  try dsimp only
  repeat' first
    | with_reducible first | intro _ | assumption | apply Made.ite | apply wr_made (mask_sub hM rfl) | apply Made.foldl | split
    | with_reducible exact blk_at hM (fltId_blk _ _) rfl | with_reducible exact blk_at hM (fltMask_blk _ _) rfl | with_reducible exact blk_at hM (fltFifo_blk _ _) rfl | with_reducible exact blk_at hM (R.CAN_FLT_FIFO_blk _ _) rfl | with_reducible exact blk_at hM (R.CAN_FLT_ID_blk _ _) rfl | with_reducible exact blk_at hM (R.LIN_FLT_FIFO_blk _ _) rfl | with_reducible exact blk_at hM (R.LIN_FLT_ID_blk _ _) rfl | with_reducible exact blk_at hM (R.SENT_FLT_blk _) rfl


theorem endArms_made {M : Nat} (hM : M ||| 302231454903665883611266 = M) {s0 : State} (s : State) (c : Nat) (h : Made M s0 s) :
    Made M s0 (endArms s c) := by
  unfold endArms
  try dsimp only
  with_reducible repeat' first
    | intro _ | assumption | apply rxEnd_made (mask_sub hM rfl) | apply Made.foldl


theorem ctlEnd_made {M : Nat} (hM : M ||| 8589934720 = M) {s0 : State} (s : State) (tag : Nat) (status : Nat) (r0 : W32) (r1 : W32) (h : Made M s0 s) :
    Made M s0 (ctlEnd s tag status r0 r1) := by
  unfold ctlEnd
  try dsimp only
  with_reducible repeat' first
    | intro _ | assumption | apply giveRet_made (mask_sub hM rfl) | split


theorem showCan_made {M : Nat} (hM : M ||| 302231454903657293676546 = M) {s0 : State} (s : State) (n : Nat) (h : Made M s0 s) :
    Made M s0 (showCan s n) := by
  unfold showCan
  try dsimp only
  repeat' first
    | with_reducible first | intro _ | assumption | apply setf_made (mask_sub hM rfl) | apply wr_made (mask_sub hM rfl)
    | with_reducible exact blk_at hM (F.CAN_ERRC_REC_blk _) rfl | with_reducible exact blk_at hM (F.CAN_ERRC_TEC_blk _) rfl | with_reducible exact blk_at hM (F.CAN_STAT_TX_PEND_blk _) rfl | with_reducible exact blk_at hM (F.CAN_STAT_WAITQ_blk _) rfl | with_reducible exact blk_at hM (R.CAN_TXB_HELD_blk _) rfl | with_reducible exact blk_at hM (R.CAN_TXB_PEND_blk _) rfl


theorem canStopNow_made {M : Nat} (hM : M ||| 302231454905864906866818 = M) {s0 : State} (s : State) (n : Nat) (h : Made M s0 s) :
    Made M s0 (canStopNow s n) := by
  unfold canStopNow
  try dsimp only
  repeat' first
    | with_reducible first | intro _ | assumption | apply setCan_made (mask_sub hM rfl) | apply txEnd_made (mask_sub hM rfl) | apply releaseSlots_made (mask_sub hM rfl) | apply endArms_made (mask_sub hM rfl) | apply ctlEnd_made (mask_sub hM rfl) | apply showCan_made (mask_sub hM rfl) | apply setf_made (mask_sub hM rfl) | apply Made.foldl | split
    | with_reducible exact blk_at hM (F.CAN_STAT_STATE_blk _) rfl


theorem freeBuf_made {M : Nat} (hM : M ||| 2207613190272 = M) {s0 : State} (s : State) (n : Nat) (i : Nat) (status : Nat) (fin : Nat) (h : Made M s0 s) :
    Made M s0 (freeBuf s n i status fin) := by
  unfold freeBuf
  try dsimp only
  with_reducible repeat' first
    | intro _ | assumption | apply txEnd_made (mask_sub hM rfl) | apply setCan_made (mask_sub hM rfl) | split


theorem canRecover_made {M : Nat} (hM : M ||| 302231454903657293676546 = M) {s0 : State} (s : State) (n : Nat) (h : Made M s0 s) :
    Made M s0 (canRecover s n) := by
  unfold canRecover
  try dsimp only
  repeat' first
    | with_reducible first | intro _ | assumption | apply setf_made (mask_sub hM rfl)
    | with_reducible exact blk_at hM (F.CAN_STAT_RECOV_blk _) rfl | with_reducible exact blk_at hM (F.CAN_STAT_STATE_blk _) rfl


theorem canGoesOff_made {M : Nat} (hM : M ||| 302231454905856316932098 = M) {s0 : State} (s : State) (n : Nat) (h : Made M s0 s) :
    Made M s0 (canGoesOff s n) := by
  unfold canGoesOff
  try dsimp only
  repeat' first
    | with_reducible first | intro _ | assumption | apply Made.ite | apply setCan_made (mask_sub hM rfl) | apply satAdd_made (mask_sub hM rfl) | apply raise_made (mask_sub hM rfl) | apply setf_made (mask_sub hM rfl) | apply canRecover_made (mask_sub hM rfl) | split
    | with_reducible exact blk_at hM (F.CAN_CNT3_BUSOFFS_blk _) rfl | with_reducible exact blk_at hM (F.CAN_EVT_BUSOFF_blk _) rfl | with_reducible exact blk_at hM (F.CAN_STAT_STATE_blk _) rfl


theorem setLin_made {M : Nat} (hM : M ||| 2199023255552 = M) {s0 : State} (s : State) (m : Nat) (x2 : Lin) (h : Made M s0 s) :
    Made M s0 (setLin s m x2) := by
  unfold setLin
  try dsimp only
  with_reducible repeat' first
    | intro _ | assumption | apply Made.set_vbu (mask_sub hM rfl)


theorem vbuAbort_made {M : Nat} (hM : M ||| 302231454905856316932098 = M) {s0 : State} (s : State) (h : Made M s0 s) :
    Made M s0 (vbuAbort s) := by
  unfold vbuAbort
  try dsimp only
  repeat' first
    | with_reducible first | intro _ | assumption | apply Made.ite | apply showCan_made (mask_sub hM rfl) | apply setCan_made (mask_sub hM rfl) | apply setLin_made (mask_sub hM rfl) | apply wr_made (mask_sub hM rfl) | apply setf_made (mask_sub hM rfl) | apply Made.foldl | split
    | with_reducible exact blk_at hM (F.SENT_FLT_ARMED_blk _) rfl | with_reducible exact blk_at hM (R.CAN_FLT_FIFO_blk _ _) rfl | with_reducible exact blk_at hM (R.LIN_FLT_FIFO_blk _ _) rfl


theorem vbuReset_made {M : Nat} (hM : M ||| 2199023255552 = M) {s0 : State} (s : State) (h : Made M s0 s) :
    Made M s0 (vbuReset s) := by
  unfold vbuReset
  try dsimp only
  with_reducible repeat' first
    | intro _ | assumption | apply Made.set_vbu (mask_sub hM rfl)


theorem canRefill_made {M : Nat} (hM : M ||| 2199023255552 = M) {s0 : State} (s : State) (n : Nat) (x2 : Nat) (h : Made M s0 s) :
    Made M s0 (canRefill s n x2) := by
  induction x2 generalizing s n with
  | zero =>
    unfold canRefill
    try dsimp only
    with_reducible repeat' first
      | intro _ | assumption | apply Made.ite | apply setCan_made (mask_sub hM rfl) | split
  | succ _ ih =>
    unfold canRefill
    try dsimp only
    with_reducible repeat' first
      | intro _ | assumption | apply ih | apply Made.ite | apply setCan_made (mask_sub hM rfl) | split


theorem canLog_made {M : Nat} (hM : M ||| 302231454905856316932098 = M) {s0 : State} (s : State) (n : Nat) (kind : Nat) (dataPhase : Bool) (tx : Bool) (h : Made M s0 s) :
    Made M s0 (canLog s n kind dataPhase tx) := by
  unfold canLog
  try dsimp only
  repeat' first
    | with_reducible first | intro _ | assumption | apply setCan_made (mask_sub hM rfl) | apply satAdd_made (mask_sub hM rfl) | apply raise_made (mask_sub hM rfl)
    | with_reducible exact blk_at hM (F.CAN_CNT2_ERRORS_blk _) rfl | with_reducible exact blk_at hM (F.CAN_EVT_ELOG_blk _) rfl


theorem setSent_made {M : Nat} (hM : M ||| 2199023255552 = M) {s0 : State} (s : State) (k : Nat) (x2 : Sent) (h : Made M s0 s) :
    Made M s0 (setSent s k x2) := by
  unfold setSent
  try dsimp only
  with_reducible repeat' first
    | intro _ | assumption | apply Made.set_vbu (mask_sub hM rfl)


theorem canJudge_made {M : Nat} (hM : M ||| 302231454905856316932098 = M) {s0 : State} (s : State) (n : Nat) (h : Made M s0 s) :
    Made M s0 (canJudge s n) := by
  unfold canJudge
  try dsimp only
  repeat' first
    | with_reducible first | intro _ | assumption | apply Made.ite | apply canGoesOff_made (mask_sub hM rfl) | apply raise_made (mask_sub hM rfl) | apply setf_made (mask_sub hM rfl) | split
    | with_reducible exact blk_at hM (F.CAN_EVT_PASSIVE_blk _) rfl | with_reducible exact blk_at hM (F.CAN_STAT_STATE_blk _) rfl


theorem vbuDrain_made {M : Nat} (hM : M ||| 9853217666511088151693410 = M) {s0 : State} (s : State) (h : Made M s0 s) :
    Made M s0 (vbuDrain s) := by
  unfold vbuDrain
  try dsimp only
  with_reducible repeat' first
    | intro _ | assumption | apply pushAll_made (mask_sub hM rfl) | apply Made.foldl | apply Made.set_vbu (mask_sub hM rfl)


theorem canTake_made {M : Nat} (hM : M ||| 10155449121414745445369954 = M) {s0 : State} (s : State) (n : Nat) (id : Nat) (ide : Bool) (rtr : Bool) (dlc : Nat) (fdf : Bool) (brs : Bool) (esi : Bool) (txe : Bool) (data : List Byte) (t : W32 × W32) (h : Made M s0 s) :
    Made M s0 (canTake s n id ide rtr dlc fdf brs esi txe data t) := by
  unfold canTake
  try dsimp only
  repeat' first
    | with_reducible first | intro _ | assumption | apply satAdd_made (mask_sub hM rfl) | apply pathPush_made (mask_sub hM rfl) | split
    | with_reducible exact blk_at hM (F.CAN_CNT2_UNMATCHED_blk _) rfl


theorem canBusFree_made {M : Nat} (hM : M ||| 302231454905864906866818 = M) {s0 : State} (s : State) (n : Nat) (h : Made M s0 s) :
    Made M s0 (canBusFree s n) := by
  unfold canBusFree
  try dsimp only
  with_reducible repeat' first
    | intro _ | assumption | apply Made.ite | apply setCan_made (mask_sub hM rfl) | apply canStopNow_made (mask_sub hM rfl) | split


end Sys2Proof.Machine
end

