-- ==== Sys2Proof/Laws/MadeVbu.lean ====
section
/-! SUPPORT. Vbu.lean, operation by operation: the fields it leaves as they are, and that it keeps the stores canonical. -/
set_option linter.all false
namespace Sys2Proof.Machine
set_option Elab.async false

theorem linStart_made {M : Nat} (hM : M ||| 302231454905856316932130 = M) {s0 : State} (s : State) (m : Nat) (h : Made M s0 s) :
    Made M s0 (linStart s m) := by
  unfold linStart
  try dsimp only
  repeat' first
    | with_reducible first | intro _ | assumption | apply Made.ite | apply setLin_made (mask_sub hM rfl) | apply setf_made (mask_sub hM rfl) | apply emit_made (mask_sub hM rfl) | split
    | with_reducible exact blk_at hM (F.LIN_STAT_STATE_blk _) rfl


theorem execCanFrameReceived_made {M : Nat} (hM : M ||| 10155449121414754035304690 = M) {s0 : State} (n : Fin 16) (id : Fin 536870912) (ide : Bool) (rtr : Bool) (fdf : Bool) (brs : Bool) (esi : Bool) (dlc : Fin 16) (data : List Byte) (ago : Nat) (s : State) (h : Made M s0 s) :
    Ends M s0 (execCanFrameReceived n id ide rtr fdf brs esi dlc data ago s) := by
  unfold execCanFrameReceived
  try dsimp only
  repeat' first
    | with_reducible first | intro _ | assumption | apply Made.ite | apply Ends.ite | apply Ends.done | apply satAdd_made (mask_sub hM rfl) | apply setCan_made (mask_sub hM rfl) | apply canJudge_made (mask_sub hM rfl) | apply canCount_made (mask_sub hM rfl) | apply drawn_made (mask_sub hM rfl) | apply canTake_made (mask_sub hM rfl) | apply showCan_made (mask_sub hM rfl) | apply canBusFree_made (mask_sub hM rfl) | split
    | with_reducible exact blk_at hM (F.CAN_CNT_RX_OK_blk _) rfl


theorem linTake_made {M : Nat} (hM : M ||| 10155449121414745445369954 = M) {s0 : State} (s : State) (m : Nat) (hq : LinHdr) (rtr : Bool) (enh : Bool) (data : List Byte) (errs : Nat) (h : Made M s0 s) :
    Made M s0 (linTake s m hq rtr enh data errs) := by
  unfold linTake
  try dsimp only
  with_reducible repeat' first
    | intro _ | assumption | apply pathPush_made (mask_sub hM rfl) | split


theorem setSlot_made {M : Nat} (hM : M ||| 302231454903657293676546 = M) {s0 : State} (s : State) (c : Nat) (k : Nat) (f : Nat) (ws : List W32) (h : Made M s0 s) :
    Made M s0 (setSlot s c k f ws) := by
  unfold setSlot
  try dsimp only
  repeat' first
    | with_reducible first | intro _ | assumption | apply Made.ite | apply wr_made (mask_sub hM rfl) | split
    | with_reducible exact blk_at hM (fltId_blk _ _) rfl | with_reducible exact blk_at hM (fltMask_blk _ _) rfl | with_reducible exact blk_at hM (fltFifo_blk _ _) rfl | with_reducible exact blk_at hM (R.CAN_FLT_FIFO_blk _ _) rfl | with_reducible exact blk_at hM (R.CAN_FLT_ID_blk _ _) rfl | with_reducible exact blk_at hM (R.CAN_FLT_MASK_blk _ _) rfl | with_reducible exact blk_at hM (R.LIN_FLT_FIFO_blk _ _) rfl | with_reducible exact blk_at hM (R.LIN_FLT_ID_blk _ _) rfl | with_reducible exact blk_at hM (R.LIN_FLT_MASK_blk _ _) rfl | with_reducible exact blk_at hM (R.SENT_FLT_blk _) rfl


theorem execCanRecoveryDone_made {M : Nat} (hM : M ||| 302231454905864906866818 = M) {s0 : State} (n : Fin 16) (s : State) (h : Made M s0 s) :
    Ends M s0 (execCanRecoveryDone n s) := by
  unfold execCanRecoveryDone
  try dsimp only
  repeat' first
    | with_reducible first | intro _ | assumption | apply Made.ite | apply Ends.ite | apply Ends.done | apply setCan_made (mask_sub hM rfl) | apply raise_made (mask_sub hM rfl) | apply setf_made (mask_sub hM rfl) | apply giveRet_made (mask_sub hM rfl) | apply showCan_made (mask_sub hM rfl) | apply Made.foldl | split
    | with_reducible exact blk_at hM (F.CAN_EVT_RECOVERED_blk _) rfl | with_reducible exact blk_at hM (F.CAN_STAT_RECOV_blk _) rfl | with_reducible exact blk_at hM (F.CAN_STAT_STATE_blk _) rfl


theorem execLinBusIdle_made {M : Nat} (hM : M ||| 302231454903657293676546 = M) {s0 : State} (m : Fin 16) (s : State) (h : Made M s0 s) :
    Ends M s0 (execLinBusIdle m s) := by
  unfold execLinBusIdle
  try dsimp only
  repeat' first
    | with_reducible first | intro _ | assumption | apply Made.ite | apply Ends.ite | apply Ends.done | apply raise_made (mask_sub hM rfl) | apply setf_made (mask_sub hM rfl) | split
    | with_reducible exact blk_at hM (F.LIN_EVT_BUS_SLEEP_blk _) rfl | with_reducible exact blk_at hM (F.LIN_STAT_STATE_blk _) rfl


theorem execVbuTx_made {M : Nat} (hM : M ||| 10005513985582543287617698 = M) {s0 : State} (tag : Nat) (hq : ReadEnd) (s : State) (h : Made M s0 s) :
    Ends M s0 (execVbuTx tag hq s) := by
  unfold execVbuTx
  try dsimp only
  repeat' first
    | with_reducible first | intro _ | assumption | apply Made.ite | apply Ends.ite | apply Ends.done | apply giveRet_made (mask_sub hM rfl) | apply noteErr_made (mask_sub hM rfl) | apply setOp_made (mask_sub hM rfl) | apply showCan_made (mask_sub hM rfl) | apply canRefill_made (mask_sub hM rfl) | apply setCan_made (mask_sub hM rfl) | apply setLin_made (mask_sub hM rfl) | apply setf_made (mask_sub hM rfl) | apply linStart_made (mask_sub hM rfl) | split
    | with_reducible exact blk_at hM (F.LIN_RTAB_LOADED_blk _ _) rfl


theorem sentPacket_made {M : Nat} (hM : M ||| 10155449121414745445369954 = M) {s0 : State} (s : State) (k : Nat) (lo : Nat) (hi : Nat) (t : W32 × W32) (err : Bool) (h : Made M s0 s) :
    Made M s0 (sentPacket s k lo hi t err) := by
  unfold sentPacket
  try dsimp only
  with_reducible repeat' first
    | intro _ | assumption | apply pathPush_made (mask_sub hM rfl)


theorem sentAssemble_made {M : Nat} (hM : M ||| 10155449121414745445369954 = M) {s0 : State} (s : State) (k : Nat) (bad : Bool) (b : SentBit) (h : Made M s0 s) :
    Made M s0 (sentAssemble s k bad b) := by
  unfold sentAssemble
  try dsimp only
  repeat' first
    | with_reducible first | intro _ | assumption | apply Made.ite | apply setSent_made (mask_sub hM rfl) | apply satAdd_made (mask_sub hM rfl) | apply raise_made (mask_sub hM rfl) | apply sentPacket_made (mask_sub hM rfl) | split
    | with_reducible exact blk_at hM (F.SENT_CNT_ERRORS_blk _) rfl | with_reducible exact blk_at hM (F.SENT_EVT_CRC_blk _) rfl


theorem execSentFrame_made {M : Nat} (hM : M ||| 10155449121414745445369970 = M) {s0 : State} (k : Fin 8) (cal : Nat) (status : Nat) (nibbles : List Nat) (crc : Nat) (ago : Nat) (s : State) (h : Made M s0 s) :
    Ends M s0 (execSentFrame k cal status nibbles crc ago s) := by
  unfold execSentFrame
  try dsimp only
  repeat' first
    | with_reducible first | intro _ | assumption | apply Made.ite | apply Ends.ite | apply Ends.done | apply setf_made (mask_sub hM rfl) | apply drawn_made (mask_sub hM rfl) | apply setSent_made (mask_sub hM rfl) | apply wr_made (mask_sub hM rfl) | apply satAdd_made (mask_sub hM rfl) | apply sentPacket_made (mask_sub hM rfl) | apply sentAssemble_made (mask_sub hM rfl) | apply Made.foldl | split
    | with_reducible exact blk_at hM (F.SENT_CNT_ERRORS_blk _) rfl | with_reducible exact blk_at hM (F.SENT_CNT_FRAMES_blk _) rfl | with_reducible exact blk_at hM (F.SENT_STAT_SYNCED_blk _) rfl | with_reducible exact blk_at hM (F.SENT_STAT_TICK_MEAS_blk _) rfl | with_reducible exact blk_at hM (R.SENT_EVT_blk _) rfl


theorem canRecoverReq_made {M : Nat} (hM : M ||| 302231454903657293676546 = M) {s0 : State} (s : State) (n : Nat) (h : Made M s0 s) :
    Made M s0 (canRecoverReq s n) := by
  unfold canRecoverReq
  try dsimp only
  with_reducible repeat' first
    | intro _ | assumption | apply Made.ite | apply canRecover_made (mask_sub hM rfl) | split


theorem linEnable_made {M : Nat} (hM : M ||| 302231454905864906866818 = M) {s0 : State} (s : State) (m : Nat) (on : Bool) (h : Made M s0 s) :
    Made M s0 (linEnable s m on) := by
  unfold linEnable
  try dsimp only
  repeat' first
    | with_reducible first | intro _ | assumption | apply Made.ite | apply setf_made (mask_sub hM rfl) | apply setLin_made (mask_sub hM rfl) | apply txEnd_made (mask_sub hM rfl) | apply releaseSlots_made (mask_sub hM rfl) | apply endArms_made (mask_sub hM rfl) | apply Made.foldl | split
    | with_reducible exact blk_at hM (F.LIN_CTL_EN_blk _) rfl | with_reducible exact blk_at hM (F.LIN_STAT_STATE_blk _) rfl


theorem sentEnable_made {M : Nat} (hM : M ||| 302231454905864906866818 = M) {s0 : State} (s : State) (k : Nat) (on : Bool) (h : Made M s0 s) :
    Made M s0 (sentEnable s k on) := by
  unfold sentEnable
  try dsimp only
  repeat' first
    | with_reducible first | intro _ | assumption | apply Made.ite | apply setf_made (mask_sub hM rfl) | apply releaseSlots_made (mask_sub hM rfl) | apply endArms_made (mask_sub hM rfl) | apply setSent_made (mask_sub hM rfl) | split
    | with_reducible exact blk_at hM (F.SENT_CTL_EN_blk _) rfl | with_reducible exact blk_at hM (F.SENT_STAT_SYNCED_blk _) rfl


theorem execCanRxError_made {M : Nat} (hM : M ||| 302231454905864906866818 = M) {s0 : State} (n : Fin 16) (kind : Fin 6) (dataPhase : Bool) (dominant : Bool) (s : State) (h : Made M s0 s) :
    Ends M s0 (execCanRxError n kind dataPhase dominant s) := by
  unfold execCanRxError
  try dsimp only
  with_reducible repeat' first
    | intro _ | assumption | apply Made.ite | apply Ends.ite | apply Ends.done | apply canCount_made (mask_sub hM rfl) | apply setCan_made (mask_sub hM rfl) | apply showCan_made (mask_sub hM rfl) | apply canBusFree_made (mask_sub hM rfl) | apply canJudge_made (mask_sub hM rfl) | apply canLog_made (mask_sub hM rfl) | split


theorem canGuarded_made {M : Nat} (hM : M ||| 302231454903657293676546 = M) {s0 : State} (s : State) (n : Nat) (a : Nat) (v : W32) (b_a : M.testBit (64 + blockOf a) = true) (h : Made M s0 s) :
    Made M s0 (canGuarded s n a v) := by
  unfold canGuarded
  try dsimp only
  repeat' first
    | with_reducible first | intro _ | assumption | apply Made.ite | apply plainWrite_made (mask_sub hM rfl) | apply raise_made (mask_sub hM rfl) | split
    | assumption | with_reducible exact blk_at hM (F.CAN_EVT_CFG_DENIED_blk _) rfl


theorem execVbuCtrlRecover_made {M : Nat} (hM : M ||| 302231454905864906866818 = M) {s0 : State} (tag : Nat) (s : State) (h : Made M s0 s) :
    Ends M s0 (execVbuCtrlRecover tag s) := by
  unfold execVbuCtrlRecover
  try dsimp only
  with_reducible repeat' first
    | intro _ | assumption | apply Made.ite | apply Ends.ite | apply Ends.done | apply setOp_made (mask_sub hM rfl) | apply canRecover_made (mask_sub hM rfl) | apply setCan_made (mask_sub hM rfl) | apply giveRet_made (mask_sub hM rfl) | split


theorem linOver_made {M : Nat} (hM : M ||| 302231454905856316932130 = M) {s0 : State} (s : State) (m : Nat) (sleep : Bool) (h : Made M s0 s) :
    Made M s0 (linOver s m sleep) := by
  unfold linOver
  try dsimp only
  repeat' first
    | with_reducible first | intro _ | assumption | apply Made.ite | apply setLin_made (mask_sub hM rfl) | apply linStart_made (mask_sub hM rfl) | apply raise_made (mask_sub hM rfl) | apply setf_made (mask_sub hM rfl) | split
    | with_reducible exact blk_at hM (F.LIN_EVT_BUS_SLEEP_blk _) rfl | with_reducible exact blk_at hM (F.LIN_STAT_STATE_blk _) rfl


theorem execCanTxError_made {M : Nat} (hM : M ||| 302231454905864906866818 = M) {s0 : State} (n : Fin 16) (kind : Fin 6) (dataPhase : Bool) (s : State) (h : Made M s0 s) :
    Ends M s0 (execCanTxError n kind dataPhase s) := by
  unfold execCanTxError
  try dsimp only
  with_reducible repeat' first
    | intro _ | assumption | apply Made.ite | apply Ends.ite | apply Ends.done | apply setCan_made (mask_sub hM rfl) | apply canLog_made (mask_sub hM rfl) | apply canCount_made (mask_sub hM rfl) | apply freeBuf_made (mask_sub hM rfl) | apply showCan_made (mask_sub hM rfl) | apply canBusFree_made (mask_sub hM rfl) | apply canRefill_made (mask_sub hM rfl) | apply canJudge_made (mask_sub hM rfl) | split


theorem linFail_made {M : Nat} (hM : M ||| 2207613190272 = M) {s0 : State} (s : State) (m : Nat) (cs : Bool) (p : LinTx → Bool) (h : Made M s0 s) :
    Made M s0 (linFail s m cs p) := by
  unfold linFail
  try dsimp only
  with_reducible repeat' first
    | intro _ | assumption | apply Made.ite | apply setLin_made (mask_sub hM rfl) | apply txEnd_made (mask_sub hM rfl) | apply Made.foldl | split


theorem linSent_made {M : Nat} (hM : M ||| 2207613190272 = M) {s0 : State} (s : State) (m : Nat) (data : List Byte) (p : LinTx → Bool) (h : Made M s0 s) :
    Made M s0 (linSent s m data p) := by
  unfold linSent
  try dsimp only
  with_reducible repeat' first
    | intro _ | assumption | apply Made.ite | apply setLin_made (mask_sub hM rfl) | apply giveRet_made (mask_sub hM rfl) | apply txEnd_made (mask_sub hM rfl) | apply Made.foldl | split


theorem execLinResponse_made {M : Nat} (hM : M ||| 10155449121414754035304674 = M) {s0 : State} (m : Fin 16) (data : List Byte) (cs : Byte) (framing : Bool) (mismatch : Bool) (s : State) (h : Made M s0 s) :
    Ends M s0 (execLinResponse m data cs framing mismatch s) := by
  unfold execLinResponse
  try dsimp only
  repeat' first
    | with_reducible first | intro _ | assumption | apply Made.ite | apply Ends.ite | apply Ends.done | apply satAdd_made (mask_sub hM rfl) | apply linTake_made (mask_sub hM rfl) | apply linFail_made (mask_sub hM rfl) | apply linSent_made (mask_sub hM rfl) | apply linOver_made (mask_sub hM rfl) | split
    | with_reducible exact blk_at hM (F.LIN_CNT_ERRORS_blk _) rfl | with_reducible exact blk_at hM (F.LIN_CNT_FRAMES_blk _) rfl


theorem canErrc_made {M : Nat} (hM : M ||| 302231454905856316932098 = M) {s0 : State} (s : State) (n : Nat) (v : W32) (h : Made M s0 s) :
    Made M s0 (canErrc s n v) := by
  unfold canErrc
  try dsimp only
  with_reducible repeat' first
    | intro _ | assumption | apply Made.ite | apply showCan_made (mask_sub hM rfl) | apply setCan_made (mask_sub hM rfl) | split


theorem linWake_made {M : Nat} (hM : M ||| 302231454903657293676578 = M) {s0 : State} (s : State) (m : Nat) (h : Made M s0 s) :
    Made M s0 (linWake s m) := by
  unfold linWake
  try dsimp only
  repeat' first
    | with_reducible first | intro _ | assumption | apply Made.ite | apply emit_made (mask_sub hM rfl) | apply setf_made (mask_sub hM rfl) | split
    | with_reducible exact blk_at hM (F.LIN_STAT_STATE_blk _) rfl


theorem linCtl_made {M : Nat} (hM : M ||| 302231454905864906866850 = M) {s0 : State} (s : State) (m : Nat) (v : W32) (h : Made M s0 s) :
    Made M s0 (linCtl s m v) := by
  unfold linCtl
  try dsimp only
  repeat' first
    | with_reducible first | intro _ | assumption | apply Made.ite | apply plainWrite_made (mask_sub hM rfl) | apply setf_made (mask_sub hM rfl) | apply raise_made (mask_sub hM rfl) | apply linEnable_made (mask_sub hM rfl) | apply linWake_made (mask_sub hM rfl) | split
    | with_reducible exact blk_at hM (F.LIN_CTL_EN_blk _) rfl | with_reducible exact blk_at hM (F.LIN_EVT_CFG_DENIED_blk _) rfl | with_reducible exact blk_at hM (R.LIN_CTL_blk _) rfl


theorem vbuWrite_made {M : Nat} (hM : M ||| 79228162495817595727447589026 = M) {s0 : State} (s : State) (a : Nat) (v : W32) (h : Made M s0 s) :
    Made M s0 (vbuWrite s a v) := by
  unfold vbuWrite
  try dsimp only
  repeat' first
    | with_reducible first | intro _ | assumption | apply Made.ite | apply canGuarded_made (mask_sub hM rfl) | apply canRecoverReq_made (mask_sub hM rfl) | apply canErrc_made (mask_sub hM rfl) | apply plainWrite_made (mask_sub hM rfl) | apply linCtl_made (mask_sub hM rfl) | apply raise_made (mask_sub hM rfl) | apply sentEnable_made (mask_sub hM rfl) | apply setf_made (mask_sub hM rfl) | split
    | exact all_bit hM _


theorem execVbuCtrlWriteRegs_made {M : Nat} (hM : M ||| 79228162495817595727447589026 = M) {s0 : State} (tag : Nat) (s : State) (h : Made M s0 s) :
    Ends M s0 (execVbuCtrlWriteRegs tag s) := by
  unfold execVbuCtrlWriteRegs
  try dsimp only
  repeat' first
    | with_reducible first | intro _ | assumption | apply Made.ite | apply Ends.ite | apply Ends.done | apply giveRet_made (mask_sub hM rfl) | apply vbuWrite_made (mask_sub hM rfl) | apply setOp_made (mask_sub hM rfl) | apply Made.foldl | split
    | exact all_bit hM _


theorem execLinWakeRx_made {M : Nat} (hM : M ||| 302231454903657293676546 = M) {s0 : State} (m : Fin 16) (s : State) (h : Made M s0 s) :
    Ends M s0 (execLinWakeRx m s) := by
  unfold execLinWakeRx
  try dsimp only
  repeat' first
    | with_reducible first | intro _ | assumption | apply Made.ite | apply Ends.ite | apply Ends.done | apply raise_made (mask_sub hM rfl) | apply setf_made (mask_sub hM rfl) | split
    | with_reducible exact blk_at hM (F.LIN_EVT_WAKE_RX_blk _) rfl | with_reducible exact blk_at hM (F.LIN_STAT_STATE_blk _) rfl


theorem execLinBreak_made {M : Nat} (hM : M ||| 302231454905856316932130 = M) {s0 : State} (m : Fin 16) (id : Fin 64) (div : Nat) (ago : Nat) (s : State) (h : Made M s0 s) :
    Ends M s0 (execLinBreak m id div ago s) := by
  unfold execLinBreak
  try dsimp only
  repeat' first
    | with_reducible first | intro _ | assumption | apply Made.ite | apply Ends.ite | apply Ends.done | apply setf_made (mask_sub hM rfl) | apply setLin_made (mask_sub hM rfl) | apply emit_made (mask_sub hM rfl) | apply raise_made (mask_sub hM rfl) | split
    | with_reducible exact blk_at hM (F.LIN_EVT_RESP_ERR_blk _) rfl | with_reducible exact blk_at hM (F.LIN_STAT_RATE_MEAS_blk _) rfl | with_reducible exact blk_at hM (F.LIN_STAT_STATE_blk _) rfl


theorem execVbuCtrlStop_made {M : Nat} (hM : M ||| 302231454905864906866818 = M) {s0 : State} (tag : Nat) (receiving : Bool) (s : State) (h : Made M s0 s) :
    Ends M s0 (execVbuCtrlStop tag receiving s) := by
  unfold execVbuCtrlStop
  try dsimp only
  with_reducible repeat' first
    | intro _ | assumption | apply Made.ite | apply Ends.ite | apply Ends.done | apply giveRet_made (mask_sub hM rfl) | apply setCan_made (mask_sub hM rfl) | apply setOp_made (mask_sub hM rfl) | apply canStopNow_made (mask_sub hM rfl) | apply linEnable_made (mask_sub hM rfl) | apply sentEnable_made (mask_sub hM rfl) | split


theorem execCanArbitrationLost_made {M : Nat} (hM : M ||| 302231454905864906866818 = M) {s0 : State} (n : Fin 16) (s : State) (h : Made M s0 s) :
    Ends M s0 (execCanArbitrationLost n s) := by
  unfold execCanArbitrationLost
  try dsimp only
  with_reducible repeat' first
    | intro _ | assumption | apply Made.ite | apply Ends.ite | apply Ends.done | apply showCan_made (mask_sub hM rfl) | apply canRefill_made (mask_sub hM rfl) | apply freeBuf_made (mask_sub hM rfl) | apply setCan_made (mask_sub hM rfl) | split


theorem execVbuCtrlStatus_made {M : Nat} (hM : M ||| 8589934720 = M) {s0 : State} (tag : Nat) (s : State) (h : Made M s0 s) :
    Ends M s0 (execVbuCtrlStatus tag s) := by
  unfold execVbuCtrlStatus
  try dsimp only
  with_reducible repeat' first
    | intro _ | assumption | apply Ends.done | apply giveRet_made (mask_sub hM rfl) | split


theorem execCanSuspendTransmissionEnd_made {M : Nat} (hM : M ||| 2199023255552 = M) {s0 : State} (n : Fin 16) (s : State) (h : Made M s0 s) :
    Ends M s0 (execCanSuspendTransmissionEnd n s) := by
  unfold execCanSuspendTransmissionEnd
  try dsimp only
  with_reducible repeat' first
    | intro _ | assumption | apply Ends.done | apply setCan_made (mask_sub hM rfl)


theorem execCanRecover_made {M : Nat} (hM : M ||| 302231454903657293676546 = M) {s0 : State} (n : Fin 16) (s : State) (h : Made M s0 s) :
    Ends M s0 (execCanRecover n s) := by
  unfold execCanRecover
  try dsimp only
  with_reducible repeat' first
    | intro _ | assumption | apply Made.ite | apply Ends.ite | apply Ends.done | apply canRecoverReq_made (mask_sub hM rfl) | split


theorem execVbuCtrlStart_made {M : Nat} (hM : M ||| 302231454905864906866818 = M) {s0 : State} (tag : Nat) (s : State) (h : Made M s0 s) :
    Ends M s0 (execVbuCtrlStart tag s) := by
  unfold execVbuCtrlStart
  try dsimp only
  repeat' first
    | with_reducible first | intro _ | assumption | apply Made.ite | apply Ends.ite | apply Ends.done | apply giveRet_made (mask_sub hM rfl) | apply setf_made (mask_sub hM rfl) | apply linEnable_made (mask_sub hM rfl) | apply sentEnable_made (mask_sub hM rfl) | split
    | with_reducible exact blk_at hM (F.CAN_STAT_STATE_blk _) rfl


theorem execCanErrcWrite_made {M : Nat} (hM : M ||| 302231454905856316932098 = M) {s0 : State} (n : Fin 16) (data : W32) (s : State) (h : Made M s0 s) :
    Ends M s0 (execCanErrcWrite n data s) := by
  unfold execCanErrcWrite
  try dsimp only
  with_reducible repeat' first
    | intro _ | assumption | apply Made.ite | apply Ends.ite | apply Ends.done | apply canErrc_made (mask_sub hM rfl) | split


theorem execLinResponseTimeout_made {M : Nat} (hM : M ||| 10155449121414754035304674 = M) {s0 : State} (m : Fin 16) (s : State) (h : Made M s0 s) :
    Ends M s0 (execLinResponseTimeout m s) := by
  unfold execLinResponseTimeout
  try dsimp only
  repeat' first
    | with_reducible first | intro _ | assumption | apply Made.ite | apply Ends.ite | apply Ends.done | apply satAdd_made (mask_sub hM rfl) | apply linTake_made (mask_sub hM rfl) | apply linFail_made (mask_sub hM rfl) | apply linOver_made (mask_sub hM rfl) | split
    | with_reducible exact blk_at hM (F.LIN_CNT_ERRORS_blk _) rfl | with_reducible exact blk_at hM (F.LIN_CNT_FRAMES_blk _) rfl


theorem execVbuCtrlAbortTx_made {M : Nat} (hM : M ||| 302231454905864906866818 = M) {s0 : State} (tag : Nat) (s : State) (h : Made M s0 s) :
    Ends M s0 (execVbuCtrlAbortTx tag s) := by
  unfold execVbuCtrlAbortTx
  try dsimp only
  with_reducible repeat' first
    | intro _ | assumption | apply Made.ite | apply Ends.ite | apply Ends.done | apply setCan_made (mask_sub hM rfl) | apply freeBuf_made (mask_sub hM rfl) | apply showCan_made (mask_sub hM rfl) | apply canRefill_made (mask_sub hM rfl) | apply giveRet_made (mask_sub hM rfl) | apply Made.foldl | split


theorem execCanIntegrated_made {M : Nat} (hM : M ||| 302231454905856316932098 = M) {s0 : State} (n : Fin 16) (s : State) (h : Made M s0 s) :
    Ends M s0 (execCanIntegrated n s) := by
  unfold execCanIntegrated
  try dsimp only
  repeat' first
    | with_reducible first | intro _ | assumption | apply Made.ite | apply Ends.ite | apply Ends.done | apply canJudge_made (mask_sub hM rfl) | apply setf_made (mask_sub hM rfl) | split
    | with_reducible exact blk_at hM (F.CAN_STAT_STATE_blk _) rfl


theorem execVbuRxTimeout_made {M : Nat} (hM : M ||| 302231454903665883611266 = M) {s0 : State} (tag : Nat) (s : State) (h : Made M s0 s) :
    Ends M s0 (execVbuRxTimeout tag s) := by
  unfold execVbuRxTimeout
  try dsimp only
  with_reducible repeat' first
    | intro _ | assumption | apply Made.ite | apply Ends.ite | apply Ends.done | apply rxEnd_made (mask_sub hM rfl) | split


theorem execLinWake_made {M : Nat} (hM : M ||| 302231454903657293676578 = M) {s0 : State} (m : Fin 16) (s : State) (h : Made M s0 s) :
    Ends M s0 (execLinWake m s) := by
  unfold execLinWake
  try dsimp only
  with_reducible repeat' first
    | intro _ | assumption | apply Ends.done | apply linWake_made (mask_sub hM rfl)


theorem execCanStartOfFrame_made {M : Nat} (hM : M ||| 302231454905856316932130 = M) {s0 : State} (n : Fin 16) (s : State) (h : Made M s0 s) :
    Ends M s0 (execCanStartOfFrame n s) := by
  unfold execCanStartOfFrame
  try dsimp only
  with_reducible repeat' first
    | intro _ | assumption | apply Made.ite | apply Ends.ite | apply Ends.done | apply setCan_made (mask_sub hM rfl) | apply showCan_made (mask_sub hM rfl) | apply emit_made (mask_sub hM rfl) | split


theorem execVbuRxArm_made {M : Nat} (hM : M ||| 302231454903665883611266 = M) {s0 : State} (tag : Nat) (s : State) (h : Made M s0 s) :
    Ends M s0 (execVbuRxArm tag s) := by
  unfold execVbuRxArm
  try dsimp only
  with_reducible repeat' first
    | intro _ | assumption | apply Made.ite | apply Ends.ite | apply Ends.done | apply giveRet_made (mask_sub hM rfl) | apply setSlot_made (mask_sub hM rfl) | apply setOp_made (mask_sub hM rfl) | split


theorem execCanFrameSent_made {M : Nat} (hM : M ||| 10155449121414754035304674 = M) {s0 : State} (n : Fin 16) (delay : Nat) (s : State) (h : Made M s0 s) :
    Ends M s0 (execCanFrameSent n delay s) := by
  unfold execCanFrameSent
  try dsimp only
  repeat' first
    | with_reducible first | intro _ | assumption | apply Made.ite | apply Ends.ite | apply Ends.done | apply setf_made (mask_sub hM rfl) | apply satAdd_made (mask_sub hM rfl) | apply canJudge_made (mask_sub hM rfl) | apply canCount_made (mask_sub hM rfl) | apply freeBuf_made (mask_sub hM rfl) | apply setCan_made (mask_sub hM rfl) | apply canTake_made (mask_sub hM rfl) | apply showCan_made (mask_sub hM rfl) | apply canBusFree_made (mask_sub hM rfl) | apply canRefill_made (mask_sub hM rfl) | split
    | with_reducible exact blk_at hM (F.CAN_CNT_TX_OK_blk _) rfl | with_reducible exact blk_at hM (F.CAN_TDC_MEAS_blk _) rfl


end Sys2Proof.Machine
end

