-- ==== Sys2Proof/Laws/MadeOsp.lean ====
section
/-! SUPPORT. Osp.lean, operation by operation: the fields it leaves as they are, and that it keeps the stores canonical. -/
set_option linter.all false
namespace Sys2Proof.Machine
set_option Elab.async false

theorem setOsp_made {M : Nat} (hM : M ||| 4398046511104 = M) {s0 : State} (s : State) (x1 : Osp) (h : Made M s0 s) :
    Made M s0 (setOsp s x1) := by
  unfold setOsp
  try dsimp only
  with_reducible repeat' first
    | intro _ | assumption | apply Made.set_osp (mask_sub hM rfl)


theorem setRxen_made {M : Nat} (hM : M ||| 4398046511136 = M) {s0 : State} (s : State) (on : Bool) (h : Made M s0 s) :
    Made M s0 (setRxen s on) := by
  unfold setRxen
  try dsimp only
  with_reducible repeat' first
    | intro _ | assumption | apply Made.ite | apply emit_made (mask_sub hM rfl) | apply setOsp_made (mask_sub hM rfl) | split


theorem setGain_made {M : Nat} (hM : M ||| 604462909811712633864226 = M) {s0 : State} (s : State) (g : Nat) (h : Made M s0 s) :
    Made M s0 (setGain s g) := by
  unfold setGain
  try dsimp only
  repeat' first
    | with_reducible first | intro _ | assumption | apply Made.ite | apply setf_made (mask_sub hM rfl) | apply emit_made (mask_sub hM rfl) | apply setOsp_made (mask_sub hM rfl) | split
    | exact blk_at hM rfl rfl


theorem rxGoSearch_made {M : Nat} (hM : M ||| 604462909811712633864242 = M) {s0 : State} (s : State) (p : Nat) (h : Made M s0 s) :
    Made M s0 (rxGoSearch s p) := by
  unfold rxGoSearch
  try dsimp only
  repeat' first
    | with_reducible first | intro _ | assumption | apply Made.ite | apply drawn_made (mask_sub hM rfl) | apply setf_made (mask_sub hM rfl) | apply setOsp_made (mask_sub hM rfl) | apply setRxen_made (mask_sub hM rfl) | apply setGain_made (mask_sub hM rfl) | split
    | exact blk_at hM rfl rfl


theorem rxGoOff_made {M : Nat} (hM : M ||| 604462909811712633864226 = M) {s0 : State} (s : State) (h : Made M s0 s) :
    Made M s0 (rxGoOff s) := by
  unfold rxGoOff
  try dsimp only
  repeat' first
    | with_reducible first | intro _ | assumption | apply setf_made (mask_sub hM rfl) | apply setGain_made (mask_sub hM rfl) | apply setRxen_made (mask_sub hM rfl)
    | exact blk_at hM rfl rfl


theorem rxReturn_made {M : Nat} (hM : M ||| 604462909811712633864242 = M) {s0 : State} (s : State) (h : Made M s0 s) :
    Made M s0 (rxReturn s) := by
  unfold rxReturn
  try dsimp only
  with_reducible repeat' first
    | intro _ | assumption | apply rxGoSearch_made (mask_sub hM rfl) | apply rxGoOff_made (mask_sub hM rfl) | split


theorem falsePre_made {M : Nat} (hM : M ||| 604462909807314587353090 = M) {s0 : State} (s : State) (h : Made M s0 s) :
    Made M s0 (falsePre s) := by
  unfold falsePre
  try dsimp only
  repeat' first
    | with_reducible first | intro _ | assumption | apply satAdd_made (mask_sub hM rfl)
    | exact blk_at hM rfl rfl


theorem ospDecode_made {M : Nat} (hM : M ||| 604462909811712633864194 = M) {s0 : State} (s : State) (g : List Bool) (h : Made M s0 s) :
    Made M s0 (ospDecode s g) := by
  unfold ospDecode
  try dsimp only
  repeat' first
    | with_reducible first | intro _ | assumption | apply Made.ite | apply setOsp_made (mask_sub hM rfl) | apply satAdd_made (mask_sub hM rfl) | split
    | exact blk_at hM rfl rfl


theorem execOspFsMeasure_made {M : Nat} (hM : M ||| 604462909807314587353090 = M) {s0 : State} (fs : Nat) (s : State) (h : Made M s0 s) :
    Ends M s0 (execOspFsMeasure fs s) := by
  unfold execOspFsMeasure
  try dsimp only
  repeat' first
    | with_reducible first | intro _ | assumption | apply Made.ite | apply Ends.ite | apply Ends.done | apply setf_made (mask_sub hM rfl) | apply raise_made (mask_sub hM rfl) | split
    | exact blk_at hM rfl rfl


theorem ospPush_made {M : Nat} (hM : M ||| 9853217666508889128437858 = M) {s0 : State} (s : State) (it : Item) (h : Made M s0 s) :
    Made M s0 (ospPush s it) := by
  unfold ospPush
  try dsimp only
  with_reducible repeat' first
    | intro _ | assumption | apply push_made (mask_sub hM rfl)


theorem ospTrailer_made {M : Nat} (hM : M ||| 10457680576316203715790946 = M) {s0 : State} (s : State) (lenBad : Bool) (aborted : Bool) (h : Made M s0 s) :
    Made M s0 (ospTrailer s lenBad aborted) := by
  unfold ospTrailer
  try dsimp only
  repeat' first
    | with_reducible first | intro _ | assumption | apply Made.ite | apply raise_made (mask_sub hM rfl) | apply satAdd_made (mask_sub hM rfl) | apply ospPush_made (mask_sub hM rfl) | split
    | exact blk_at hM rfl rfl


theorem ospCut_made {M : Nat} (hM : M ||| 10457680576316203715790946 = M) {s0 : State} (s : State) (h : Made M s0 s) :
    Made M s0 (ospCut s) := by
  unfold ospCut
  try dsimp only
  with_reducible repeat' first
    | intro _ | assumption | apply Made.ite | apply ospTrailer_made (mask_sub hM rfl) | split


theorem showOsp_made {M : Nat} (hM : M ||| 604462909807314587353090 = M) {s0 : State} (s : State) (h : Made M s0 s) :
    Made M s0 (showOsp s) := by
  unfold showOsp
  try dsimp only
  repeat' first
    | with_reducible first | intro _ | assumption | apply setf_made (mask_sub hM rfl)
    | exact blk_at hM rfl rfl


theorem rxEval_made {M : Nat} (hM : M ||| 604462909811712633864242 = M) {s0 : State} (s : State) (h : Made M s0 s) :
    Made M s0 (rxEval s) := by
  unfold rxEval
  try dsimp only
  with_reducible repeat' first
    | intro _ | assumption | apply Made.ite | apply showOsp_made (mask_sub hM rfl) | apply rxGoSearch_made (mask_sub hM rfl) | apply rxGoOff_made (mask_sub hM rfl) | apply falsePre_made (mask_sub hM rfl) | split


theorem ospRxEn_made {M : Nat} (hM : M ||| 10457680576320601762302066 = M) {s0 : State} (s : State) (on : Bool) (h : Made M s0 s) :
    Made M s0 (ospRxEn s on) := by
  unfold ospRxEn
  try dsimp only
  repeat' first
    | with_reducible first | intro _ | assumption | apply Made.ite | apply setf_made (mask_sub hM rfl) | apply rxGoOff_made (mask_sub hM rfl) | apply ospCut_made (mask_sub hM rfl) | apply rxEval_made (mask_sub hM rfl) | split
    | exact blk_at hM rfl rfl


theorem execOspRxEnWrite_made {M : Nat} (hM : M ||| 10457680576320601762302066 = M) {s0 : State} (on : Bool) (s : State) (h : Made M s0 s) :
    Ends M s0 (execOspRxEnWrite on s) := by
  unfold execOspRxEnWrite
  try dsimp only
  with_reducible repeat' first
    | intro _ | assumption | apply Made.ite | apply Ends.ite | apply Ends.done | apply ospRxEn_made (mask_sub hM rfl) | split


theorem execOspGapExpiry_made {M : Nat} (hM : M ||| 4398046511104 = M) {s0 : State} (s : State) (h : Made M s0 s) :
    Ends M s0 (execOspGapExpiry s) := by
  unfold execOspGapExpiry
  try dsimp only
  with_reducible repeat' first
    | intro _ | assumption | apply Made.ite | apply Ends.ite | apply Ends.done | apply setOsp_made (mask_sub hM rfl) | split


theorem execOspTxStart_made {M : Nat} (hM : M ||| 10457680576320601762302050 = M) {s0 : State} (s : State) (h : Made M s0 s) :
    Ends M s0 (execOspTxStart s) := by
  unfold execOspTxStart
  try dsimp only
  repeat' first
    | with_reducible first | intro _ | assumption | apply Made.ite | apply Ends.ite | apply Ends.done | apply setOsp_made (mask_sub hM rfl) | apply falsePre_made (mask_sub hM rfl) | apply ospCut_made (mask_sub hM rfl) | apply setRxen_made (mask_sub hM rfl) | apply setf_made (mask_sub hM rfl) | apply emit_made (mask_sub hM rfl) | split
    | exact blk_at hM rfl rfl


theorem txenFalls_made {M : Nat} (hM : M ||| 604462909807314587353122 = M) {s0 : State} (s : State) (h : Made M s0 s) :
    Made M s0 (txenFalls s) := by
  unfold txenFalls
  try dsimp only
  repeat' first
    | with_reducible first | intro _ | assumption | apply Made.ite | apply emit_made (mask_sub hM rfl) | apply setf_made (mask_sub hM rfl) | split
    | exact blk_at hM rfl rfl


theorem execOspRx_made {M : Nat} (hM : M ||| 604462909811721223798962 = M) {s0 : State} (tag : Nat) (s : State) (h : Made M s0 s) :
    Ends M s0 (execOspRx tag s) := by
  unfold execOspRx
  try dsimp only
  with_reducible repeat' first
    | intro _ | assumption | apply Made.ite | apply Ends.ite | apply Ends.done | apply giveRet_made (mask_sub hM rfl) | apply rxEval_made (mask_sub hM rfl) | apply setOp_made (mask_sub hM rfl) | split


theorem execOspPreambleDetect_made {M : Nat} (hM : M ||| 604462909811712633864194 = M) {s0 : State} (corr : Fin 65) (s : State) (h : Made M s0 s) :
    Ends M s0 (execOspPreambleDetect corr s) := by
  unfold execOspPreambleDetect
  try dsimp only
  repeat' first
    | with_reducible first | intro _ | assumption | apply Made.ite | apply Ends.ite | apply Ends.done | apply setf_made (mask_sub hM rfl) | apply setOsp_made (mask_sub hM rfl) | split
    | exact blk_at hM rfl rfl


theorem execOspSyncMatch_made {M : Nat} (hM : M ||| 10457680576320601762302050 = M) {s0 : State} (bits : W32) (offset : Int) (milliDb : Int) (ago : Nat) (s : State) (h : Made M s0 s) :
    Ends M s0 (execOspSyncMatch bits offset milliDb ago s) := by
  unfold execOspSyncMatch
  try dsimp only
  repeat' first
    | with_reducible first | intro _ | assumption | apply Made.ite | apply Ends.ite | apply Ends.done | apply setOsp_made (mask_sub hM rfl) | apply setf_made (mask_sub hM rfl) | apply ospPush_made (mask_sub hM rfl) | split
    | exact blk_at hM rfl rfl


theorem execOspTrExpiry_made {M : Nat} (hM : M ||| 604462909811712633864242 = M) {s0 : State} (s : State) (h : Made M s0 s) :
    Ends M s0 (execOspTrExpiry s) := by
  unfold execOspTrExpiry
  try dsimp only
  with_reducible repeat' first
    | intro _ | assumption | apply Made.ite | apply Ends.ite | apply Ends.done | apply rxReturn_made (mask_sub hM rfl) | split


theorem ospData_made {M : Nat} (hM : M ||| 9853217666513287174948962 = M) {s0 : State} (s : State) (h : Made M s0 s) :
    Made M s0 (ospData s) := by
  unfold ospData
  try dsimp only
  with_reducible repeat' first
    | intro _ | assumption | apply ospPush_made (mask_sub hM rfl) | apply setOsp_made (mask_sub hM rfl)


theorem execOspRxTimeout_made {M : Nat} (hM : M ||| 906694364715378517475506 = M) {s0 : State} (s : State) (h : Made M s0 s) :
    Ends M s0 (execOspRxTimeout s) := by
  unfold execOspRxTimeout
  try dsimp only
  with_reducible repeat' first
    | intro _ | assumption | apply Made.ite | apply Ends.ite | apply Ends.done | apply rxEval_made (mask_sub hM rfl) | apply rxEnd_made (mask_sub hM rfl) | split


theorem execOspSclkReturn_made {M : Nat} (hM : M ||| 604462909811712633864242 = M) {s0 : State} (s : State) (h : Made M s0 s) :
    Ends M s0 (execOspSclkReturn s) := by
  unfold execOspSclkReturn
  try dsimp only
  repeat' first
    | with_reducible first | intro _ | assumption | apply Made.ite | apply Ends.ite | apply Ends.done | apply rxEval_made (mask_sub hM rfl) | apply setf_made (mask_sub hM rfl) | split
    | exact blk_at hM rfl rfl


theorem execOspSyncWaitExpiry_made {M : Nat} (hM : M ||| 604462909811712633864242 = M) {s0 : State} (s : State) (h : Made M s0 s) :
    Ends M s0 (execOspSyncWaitExpiry s) := by
  unfold execOspSyncWaitExpiry
  try dsimp only
  with_reducible repeat' first
    | intro _ | assumption | apply Made.ite | apply Ends.ite | apply Ends.done | apply rxReturn_made (mask_sub hM rfl) | apply falsePre_made (mask_sub hM rfl) | split


theorem ospReset_made {M : Nat} (hM : M ||| 604462909811712633864226 = M) {s0 : State} (s : State) (h : Made M s0 s) :
    Made M s0 (ospReset s) := by
  unfold ospReset
  try dsimp only
  with_reducible repeat' first
    | intro _ | assumption | apply setGain_made (mask_sub hM rfl) | apply setRxen_made (mask_sub hM rfl) | apply txenFalls_made (mask_sub hM rfl) | apply Made.set_osp (mask_sub hM rfl)


theorem ospBytes_made {M : Nat} (hM : M ||| 4398046511104 = M) {s0 : State} (s : State) (x1 : Nat) (h : Made M s0 s) :
    Made M s0 (ospBytes s x1).1 := by
  induction x1 generalizing s with
  | zero =>
    unfold ospBytes
    try dsimp only
    with_reducible repeat' first
      | intro _ | assumption | apply Made.ite | apply setOsp_made (mask_sub hM rfl) | apply Made.ite_fst | split
  | succ _ ih =>
    unfold ospBytes
    try dsimp only
    with_reducible repeat' first
      | intro _ | assumption | apply ih | apply Made.ite | apply setOsp_made (mask_sub hM rfl) | apply Made.ite_fst | split


theorem ospAbort_made {M : Nat} (hM : M ||| 10457680576320601762302050 = M) {s0 : State} (s : State) (h : Made M s0 s) :
    Made M s0 (ospAbort s) := by
  unfold ospAbort
  try dsimp only
  with_reducible repeat' first
    | intro _ | assumption | apply Made.ite | apply txenFalls_made (mask_sub hM rfl) | apply ospCut_made (mask_sub hM rfl) | apply falsePre_made (mask_sub hM rfl) | apply setOsp_made (mask_sub hM rfl) | apply showOsp_made (mask_sub hM rfl) | apply rxGoOff_made (mask_sub hM rfl) | split


theorem execOspGainStep_made {M : Nat} (hM : M ||| 604462909811712633864226 = M) {s0 : State} (attack : Bool) (s : State) (h : Made M s0 s) :
    Ends M s0 (execOspGainStep attack s) := by
  unfold execOspGainStep
  try dsimp only
  with_reducible repeat' first
    | intro _ | assumption | apply Made.ite | apply Ends.ite | apply Ends.done | apply setGain_made (mask_sub hM rfl) | split


theorem ospDatas_made {M : Nat} (hM : M ||| 9853217666513287174948962 = M) {s0 : State} (s : State) (x1 : Nat) (h : Made M s0 s) :
    Made M s0 (ospDatas s x1) := by
  induction x1 generalizing s with
  | zero =>
    unfold ospDatas
    try dsimp only
    with_reducible repeat' first
      | intro _ | assumption | apply Made.ite | apply ospData_made (mask_sub hM rfl) | split
  | succ _ ih =>
    unfold ospDatas
    try dsimp only
    with_reducible repeat' first
      | intro _ | assumption | apply ih | apply Made.ite | apply ospData_made (mask_sub hM rfl) | split


theorem ospFeed_made {M : Nat} (hM : M ||| 10457680576320601762302066 = M) {s0 : State} (s : State) (gs : List (List Bool)) (h : Made M s0 s) :
    Made M s0 (ospFeed s gs) := by
  unfold ospFeed
  try dsimp only
  with_reducible repeat' first
    | intro _ | refine Made.of_pair (by assumption) ?_ | assumption | apply Made.ite | apply ospDecode_made (mask_sub hM rfl) | apply ospBytes_made (mask_sub hM rfl) | apply rxReturn_made (mask_sub hM rfl) | apply ospTrailer_made (mask_sub hM rfl) | apply ospDatas_made (mask_sub hM rfl) | apply Made.ite_fst | apply Made.foldl | split


theorem execOspDataItem_made {M : Nat} (hM : M ||| 10457680576320601762302066 = M) {s0 : State} (groups : List (List Bool)) (s : State) (h : Made M s0 s) :
    Ends M s0 (execOspDataItem groups s) := by
  unfold execOspDataItem
  try dsimp only
  with_reducible repeat' first
    | intro _ | assumption | apply Made.ite | apply Ends.ite | apply Ends.done | apply ospFeed_made (mask_sub hM rfl) | split


theorem execOspTx_made {M : Nat} (hM : M ||| 10307745440488399604549794 = M) {s0 : State} (tag : Nat) (hq : ReadEnd) (s : State) (h : Made M s0 s) :
    Ends M s0 (execOspTx tag hq s) := by
  unfold execOspTx
  try dsimp only
  with_reducible repeat' first
    | intro _ | assumption | apply Made.ite | apply Ends.ite | apply Ends.done | apply giveRet_made (mask_sub hM rfl) | apply noteErr_made (mask_sub hM rfl) | apply showOsp_made (mask_sub hM rfl) | apply setOsp_made (mask_sub hM rfl) | apply setOp_made (mask_sub hM rfl) | split


theorem ospTxEnd_made {M : Nat} (hM : M ||| 604462909811721223798914 = M) {s0 : State} (s : State) (status : Nat) (h : Made M s0 s) :
    Made M s0 (ospTxEnd s status) := by
  unfold ospTxEnd
  try dsimp only
  with_reducible repeat' first
    | intro _ | assumption | apply setOsp_made (mask_sub hM rfl) | apply giveRet_made (mask_sub hM rfl) | apply showOsp_made (mask_sub hM rfl) | split


theorem execOspRepetitionEnd_made {M : Nat} (hM : M ||| 604462909811721223798946 = M) {s0 : State} (s : State) (h : Made M s0 s) :
    Ends M s0 (execOspRepetitionEnd s) := by
  unfold execOspRepetitionEnd
  try dsimp only
  repeat' first
    | with_reducible first | intro _ | assumption | apply Made.ite | apply Ends.ite | apply Ends.done | apply satAdd_made (mask_sub hM rfl) | apply txenFalls_made (mask_sub hM rfl) | apply setOsp_made (mask_sub hM rfl) | apply ospTxEnd_made (mask_sub hM rfl) | split
    | exact blk_at hM rfl rfl


theorem execOspSclkLost_made {M : Nat} (hM : M ||| 10759912031224267645913314 = M) {s0 : State} (s : State) (h : Made M s0 s) :
    Ends M s0 (execOspSclkLost s) := by
  unfold execOspSclkLost
  try dsimp only
  repeat' first
    | with_reducible first | intro _ | assumption | apply Made.ite | apply Ends.ite | apply Ends.done | apply raise_made (mask_sub hM rfl) | apply setf_made (mask_sub hM rfl) | apply rxGoOff_made (mask_sub hM rfl) | apply falsePre_made (mask_sub hM rfl) | apply ospCut_made (mask_sub hM rfl) | apply ospTxEnd_made (mask_sub hM rfl) | apply txenFalls_made (mask_sub hM rfl) | apply rxEnd_made (mask_sub hM rfl) | apply showOsp_made (mask_sub hM rfl) | split
    | exact blk_at hM rfl rfl


theorem execFrmErr_made {M : Nat} (hM : M ||| 604462909807314587353090 = M) {s0 : State} (s : State) (h : Made M s0 s) :
    Ends M s0 (execFrmErr s) := by
  unfold execFrmErr
  try dsimp only
  repeat' first
    | with_reducible first | intro _ | assumption | apply Made.ite | apply Ends.ite | apply Ends.done | apply raise_made (mask_sub hM rfl) | split
    | exact blk_at hM rfl rfl


theorem execOspPacketEnd_made {M : Nat} (hM : M ||| 10457680576320601762302066 = M) {s0 : State} (groups : List (List Bool)) (s : State) (h : Made M s0 s) :
    Ends M s0 (execOspPacketEnd groups s) := by
  unfold execOspPacketEnd
  try dsimp only
  with_reducible repeat' first
    | intro _ | assumption | apply Made.ite | apply Ends.ite | apply Ends.done | apply ospFeed_made (mask_sub hM rfl) | apply ospData_made (mask_sub hM rfl) | apply rxReturn_made (mask_sub hM rfl) | apply ospTrailer_made (mask_sub hM rfl) | split


end Sys2Proof.Machine
end

