-- ==== Sys2Proof/Laws/MadeSfqCmd.lean ====
section
/-! SUPPORT. SfqCmd.lean, operation by operation: the fields it leaves as they are, and that it keeps the stores canonical. -/
set_option linter.all false
namespace Sys2Proof.Machine
set_option Elab.async false

theorem sfqWm_made {M : Nat} (hM : M ||| 9853217666508889128437858 = M) {s0 : State} (s : State) (n : Nat) (v : W32) (h : Made M s0 s) :
    Made M s0 (sfqWm s n v) := by
  unfold sfqWm
  try dsimp only
  repeat' first
    | with_reducible first | intro _ | assumption | apply judge_made (mask_sub hM rfl) | apply wr_made (mask_sub hM rfl)
    | with_reducible exact blk_at hM (R.SFQ_WM_blk _) rfl


theorem execSfqWmWrite_made {M : Nat} (hM : M ||| 9928775530234803451856994 = M) {s0 : State} (n : Fin 64) (data : W32) (s : State) (h : Made M s0 s) :
    Ends M s0 (execSfqWmWrite n data s) := by
  unfold execSfqWmWrite
  try dsimp only
  with_reducible repeat' first
    | intro _ | assumption | apply Made.ite | apply Ends.ite | apply Ends.done | apply harRelease_made (mask_sub hM rfl) | apply sfqWm_made (mask_sub hM rfl) | split


theorem sfqCfg_made {M : Nat} (hM : M ||| 9853217666508889128437858 = M) {s0 : State} (s : State) (n : Nat) (v : W32) (h : Made M s0 s) :
    Made M s0 (sfqCfg s n v) := by
  unfold sfqCfg
  try dsimp only
  repeat' first
    | with_reducible first | intro _ | assumption | apply Made.ite | apply wr_made (mask_sub hM rfl) | apply raise_made (mask_sub hM rfl) | apply discardPkt_made (mask_sub hM rfl) | apply flushFifo_made (mask_sub hM rfl) | split
    | with_reducible exact blk_at hM (R.SFQ_CFG_blk _) rfl | exact blk_at hM rfl rfl


theorem execSfqCfgWrite_made {M : Nat} (hM : M ||| 9928775530234803451856994 = M) {s0 : State} (n : Fin 64) (data : W32) (s : State) (h : Made M s0 s) :
    Ends M s0 (execSfqCfgWrite n data s) := by
  unfold execSfqCfgWrite
  try dsimp only
  with_reducible repeat' first
    | intro _ | assumption | apply Made.ite | apply Ends.ite | apply Ends.done | apply harRelease_made (mask_sub hM rfl) | apply sfqCfg_made (mask_sub hM rfl) | split


theorem popW0_made {M : Nat} (hM : M ||| 9853217666508889128437858 = M) {s0 : State} (s : State) (n : Nat) (q : Option (Nat × Item)) (h : Made M s0 s) :
    Made M s0 (popW0 s n q).1 := by
  unfold popW0
  try dsimp only
  repeat' first
    | with_reducible first | intro _ | refine Made.of_pair (by assumption) ?_ | assumption | apply Made.ite | apply push_made (mask_sub hM rfl) | apply setf_made (mask_sub hM rfl) | apply popTurn_made (mask_sub hM rfl) | apply wr_made (mask_sub hM rfl) | apply Made.ite_fst | apply Made.foldl | split
    | with_reducible exact blk_at hM (F.SFQ_POP_TAG_VALID_blk _) rfl | with_reducible exact blk_at hM (R.SFQ_POP_TAG_blk _) rfl | with_reducible exact blk_at hM (R.SFQ_POP_W_blk _ _) rfl


theorem execSfqPopW0_made {M : Nat} (hM : M ||| 9928775530234803451856994 = M) {s0 : State} (n : Fin 64) (p : Option PushIn) (s : State) (h : Made M s0 s) :
    Ends M s0 (execSfqPopW0 n p s) := by
  unfold execSfqPopW0
  try dsimp only
  with_reducible repeat' first
    | intro _ | refine Made.of_pair (by assumption) ?_ | assumption | apply Ends.done | apply popW0_made (mask_sub hM rfl) | apply harRelease_made (mask_sub hM rfl) | apply emit_made (mask_sub hM rfl)


theorem execDiscardRemoval_made {M : Nat} (hM : M ||| 9928775530234803451856994 = M) {s0 : State} (n : Fin 64) (p : Option PushIn) (s : State) (h : Made M s0 s) :
    Ends M s0 (execDiscardRemoval n p s) := by
  unfold execDiscardRemoval
  try dsimp only
  with_reducible repeat' first
    | intro _ | assumption | apply Ends.done | apply harRelease_made (mask_sub hM rfl) | apply removalTurn_made (mask_sub hM rfl)


theorem takeFifoPop_made {M : Nat} (hM : M ||| 10836650487415324310767862 = M) {s0 : State} (n : Fin 64) (fabric : Bool) (p : Option PushIn) (s : State) (h : Made M s0 s) :
    Ends M s0 (takeFifoPop n fabric p s) := by
  unfold takeFifoPop
  try dsimp only
  with_reducible repeat' first
    | intro _ | refine Made.of_pair (by assumption) ?_ | assumption | apply Made.ite | apply Ends.ite | apply Ends.done | apply push_made (mask_sub hM rfl) | apply popTurn_made (mask_sub hM rfl) | apply harRelease_made (mask_sub hM rfl) | apply emit_made (mask_sub hM rfl) | apply rxEval_made (mask_sub hM rfl) | apply rxPop_made (mask_sub hM rfl) | apply Made.ite_fst | split


theorem sfqPin_made {M : Nat} (hM : M ||| 151115727452928158466082 = M) {s0 : State} (s : State) (v : W32) (h : Made M s0 s) :
    Made M s0 (sfqPin s v) := by
  unfold sfqPin
  try dsimp only
  repeat' first
    | with_reducible first | intro _ | assumption | apply xoffPins_made (mask_sub hM rfl) | apply wr_made (mask_sub hM rfl)
    | exact blk_at hM rfl rfl


theorem execSfqPinWrite_made {M : Nat} (hM : M ||| 151115727452928158466082 = M) {s0 : State} (data : W32) (s : State) (h : Made M s0 s) :
    Ends M s0 (execSfqPinWrite data s) := by
  unfold execSfqPinWrite
  try dsimp only
  with_reducible repeat' first
    | intro _ | assumption | apply Made.ite | apply Ends.ite | apply Ends.done | apply sfqPin_made (mask_sub hM rfl) | split


theorem execFlush_made {M : Nat} (hM : M ||| 9928775530234803451856994 = M) {s0 : State} (n : Fin 64) (s : State) (h : Made M s0 s) :
    Ends M s0 (execFlush n s) := by
  unfold execFlush
  try dsimp only
  with_reducible repeat' first
    | intro _ | assumption | apply Made.ite | apply Ends.ite | apply Ends.done | apply harRelease_made (mask_sub hM rfl) | apply flushFifo_made (mask_sub hM rfl) | split


theorem sfqXctx_made {M : Nat} (hM : M ||| 151115727451828646838274 = M) {s0 : State} (s : State) (n : Nat) (v : W32) (h : Made M s0 s) :
    Made M s0 (sfqXctx s n v) := by
  unfold sfqXctx
  try dsimp only
  repeat' first
    | with_reducible first | intro _ | assumption | apply Made.ite | apply raise_made (mask_sub hM rfl) | apply wr_made (mask_sub hM rfl) | split
    | with_reducible exact blk_at hM (R.SFQ_XCTX_blk _) rfl | exact blk_at hM rfl rfl


theorem execSfqXctxWrite_made {M : Nat} (hM : M ||| 151115727451828646838274 = M) {s0 : State} (n : Fin 64) (data : W32) (s : State) (h : Made M s0 s) :
    Ends M s0 (execSfqXctxWrite n data s) := by
  unfold execSfqXctxWrite
  try dsimp only
  with_reducible repeat' first
    | intro _ | assumption | apply Made.ite | apply Ends.ite | apply Ends.done | apply sfqXctx_made (mask_sub hM rfl) | split


theorem execDiscardPkt_made {M : Nat} (hM : M ||| 151115727451828647362562 = M) {s0 : State} (n : Fin 64) (fabric : Bool) (s : State) (h : Made M s0 s) :
    Ends M s0 (execDiscardPkt n fabric s) := by
  unfold execDiscardPkt
  try dsimp only
  with_reducible repeat' first
    | intro _ | assumption | apply Made.ite | apply Ends.ite | apply Ends.done | apply discardPkt_made (mask_sub hM rfl) | split


theorem execFifoPush_made {M : Nat} (hM : M ||| 9853217666508889128437858 = M) {s0 : State} (n : Fin 64) (p : PushIn) (s : State) (h : Made M s0 s) :
    Ends M s0 (execFifoPush n p s) := by
  unfold execFifoPush
  try dsimp only
  with_reducible repeat' first
    | intro _ | assumption | apply Ends.done | apply push_made (mask_sub hM rfl) | split


end Sys2Proof.Machine
end

