-- ==== Sys2Proof/Laws/MadeTag.lean ====
section
/-! SUPPORT. Tag.lean, operation by operation: the fields it leaves as they are, and that it keeps the stores canonical. -/
set_option linter.all false
namespace Sys2Proof.Machine
set_option Elab.async false

theorem tagError_made {M : Nat} (hM : M ||| 32 = M) {s0 : State} (s : State) (code : Nat) (h : Made M s0 s) :
    Made M s0 (tagError s code) := by
  unfold tagError
  try dsimp only
  with_reducible repeat' first
    | intro _ | assumption | apply emit_made (mask_sub hM rfl)


theorem setTag_made {M : Nat} (hM : M ||| 8796093022208 = M) {s0 : State} (s : State) (x1 : Tag) (h : Made M s0 s) :
    Made M s0 (setTag s x1) := by
  unfold setTag
  try dsimp only
  with_reducible repeat' first
    | intro _ | assumption | apply Made.set_tag (mask_sub hM rfl)


theorem fieldLockCmd_made {M : Nat} (hM : M ||| 8796093022240 = M) {s0 : State} (s : State) (r : TagReq) (b : Nat) (h : Made M s0 s) :
    Made M s0 (fieldLockCmd s r b) := by
  unfold fieldLockCmd
  try dsimp only
  with_reducible repeat' first
    | intro _ | assumption | apply Made.ite | apply tagError_made (mask_sub hM rfl) | apply setTag_made (mask_sub hM rfl) | split


theorem execLockBlock_made {M : Nat} (hM : M ||| 8796093022240 = M) {s0 : State} (r : TagReq) (b : Fin 256) (s : State) (h : Made M s0 s) :
    Ends M s0 (execLockBlock r b s) := by
  unfold execLockBlock
  try dsimp only
  with_reducible repeat' first
    | intro _ | assumption | apply Ends.done | apply fieldLockCmd_made (mask_sub hM rfl)


theorem execInventory_made {M : Nat} (hM : M ||| 32 = M) {s0 : State} (afi : Option Byte) (len : Fin 65) (mask : W64) (sixteen : Bool) (s : State) (h : Made M s0 s) :
    Ends M s0 (execInventory afi len mask sixteen s) := by
  unfold execInventory
  try dsimp only
  with_reducible repeat' first
    | intro _ | assumption | apply Made.ite | apply Ends.ite | apply Ends.done | apply emit_made (mask_sub hM rfl) | split


theorem fieldLock_made {M : Nat} (hM : M ||| 2417851639229258349412354 = M) {s0 : State} (s : State) (b : Nat) (h : Made M s0 s) :
    Made M s0 (fieldLock s b) := by
  unfold fieldLock
  try dsimp only
  repeat' first
    | with_reducible first | intro _ | assumption | apply Made.ite | apply satAdd_made (mask_sub hM rfl) | apply wr_made (mask_sub hM rfl) | apply raise_made (mask_sub hM rfl) | split
    | with_reducible exact blk_at hM (R.TAG_LOCK_blk _) rfl | exact blk_at hM rfl rfl


theorem tagWaited_made {M : Nat} (hM : M ||| 2417851639238054442434562 = M) {s0 : State} (s : State) (h : Made M s0 s) :
    Made M s0 (tagWaited s) := by
  unfold tagWaited
  try dsimp only
  repeat' first
    | with_reducible first | intro _ | assumption | apply maxTo_made (mask_sub hM rfl) | apply setTag_made (mask_sub hM rfl) | split
    | exact blk_at hM rfl rfl


theorem tagEnd_made {M : Nat} (hM : M ||| 2417851639238063032369282 = M) {s0 : State} (s : State) (o : Op) (status : Nat) (h : Made M s0 s) :
    Made M s0 (tagEnd s o status) := by
  unfold tagEnd
  try dsimp only
  with_reducible repeat' first
    | intro _ | assumption | apply tagWaited_made (mask_sub hM rfl) | apply giveRet_made (mask_sub hM rfl) | apply setTag_made (mask_sub hM rfl)


theorem tagRead_made {M : Nat} (hM : M ||| 12121134170759166343252134 = M) {s0 : State} (s : State) (o : Op) (h : Made M s0 s) :
    Made M s0 (tagRead s o) := by
  unfold tagRead
  try dsimp only
  with_reducible repeat' first
    | intro _ | refine Made.of_pair (by assumption) ?_ | assumption | apply moverPut_made (mask_sub hM rfl) | apply noteOpt_made (mask_sub hM rfl) | apply tagEnd_made (mask_sub hM rfl) | split


theorem tagPutBytes_made {M : Nat} (hM : M ||| 17592186044416 = M) {s0 : State} (s : State) (o : Nat) (x2 : List Byte) (h : Made M s0 s) :
    Made M s0 (tagPutBytes s o x2) := by
  induction x2 generalizing s o with
  | nil =>
    unfold tagPutBytes
    try dsimp only
    with_reducible repeat' first
      | intro _ | assumption | apply tagPut_made (mask_sub hM rfl) | split
  | cons _ _ ih =>
    unfold tagPutBytes
    try dsimp only
    with_reducible repeat' first
      | intro _ | assumption | apply ih | apply tagPut_made (mask_sub hM rfl) | split


theorem tagPage_made {M : Nat} (hM : M ||| 2417851639238063032369282 = M) {s0 : State} (s : State) (o : Op) (h : Made M s0 s) :
    Made M s0 (tagPage s o) := by
  unfold tagPage
  try dsimp only
  with_reducible repeat' first
    | intro _ | assumption | apply Made.ite | apply tagEnd_made (mask_sub hM rfl) | apply setOp_made (mask_sub hM rfl) | apply setTag_made (mask_sub hM rfl) | split


theorem tagCommit_made {M : Nat} (hM : M ||| 2417851639255655218413698 = M) {s0 : State} (s : State) (o : Op) (hq : Shadow) (h : Made M s0 s) :
    Made M s0 (tagCommit s o hq) := by
  unfold tagCommit
  try dsimp only
  repeat' first
    | with_reducible first | intro _ | assumption | apply Made.ite | apply tagWaited_made (mask_sub hM rfl) | apply tagEnd_made (mask_sub hM rfl) | apply raise_made (mask_sub hM rfl) | apply tagPutBytes_made (mask_sub hM rfl) | apply setTag_made (mask_sub hM rfl) | apply tagPage_made (mask_sub hM rfl) | split
    | exact blk_at hM rfl rfl


theorem lkNext_made {M : Nat} (hM : M ||| 8796093022208 = M) {s0 : State} (s : State) (k : TagLk) (w : Nat) (h : Made M s0 s) :
    Made M s0 (lkNext s k w) := by
  unfold lkNext
  try dsimp only
  with_reducible repeat' first
    | intro _ | assumption | apply Made.ite | apply setTag_made (mask_sub hM rfl) | split


theorem lkCommit_made {M : Nat} (hM : M ||| 2417851639238054442434562 = M) {s0 : State} (s : State) (k : TagLk) (h : Made M s0 s) :
    Made M s0 (lkCommit s k) := by
  unfold lkCommit
  try dsimp only
  repeat' first
    | with_reducible first | intro _ | assumption | apply Made.ite | apply maxTo_made (mask_sub hM rfl) | apply setTag_made (mask_sub hM rfl) | apply raise_made (mask_sub hM rfl) | apply lkNext_made (mask_sub hM rfl) | apply wr_made (mask_sub hM rfl) | split
    | with_reducible exact blk_at hM (R.TAG_LOCK_blk _) rfl | exact blk_at hM rfl rfl


theorem tagHostGo_made {M : Nat} (hM : M ||| 12121134170776758529296550 = M) {s0 : State} (s : State) (h : Made M s0 s) :
    Made M s0 (tagHostGo s) := by
  unfold tagHostGo
  try dsimp only
  with_reducible repeat' first
    | intro _ | assumption | apply Made.ite | apply tagRead_made (mask_sub hM rfl) | apply tagCommit_made (mask_sub hM rfl) | apply lkCommit_made (mask_sub hM rfl) | split


theorem execTagFieldLost_made {M : Nat} (hM : M ||| 12121134170776758529296566 = M) {s0 : State} (s : State) (h : Made M s0 s) :
    Ends M s0 (execTagFieldLost s) := by
  unfold execTagFieldLost
  try dsimp only
  with_reducible repeat' first
    | intro _ | assumption | apply Made.ite | apply Ends.ite | apply Ends.done | apply setTag_made (mask_sub hM rfl) | apply drawn_made (mask_sub hM rfl) | apply fieldLock_made (mask_sub hM rfl) | apply tagHostGo_made (mask_sub hM rfl) | split


theorem execTagWrite_made {M : Nat} (hM : M ||| 12121134169914741413120162 = M) {s0 : State} (tag : Nat) (hq : ReadEnd) (s : State) (h : Made M s0 s) :
    Ends M s0 (execTagWrite tag hq s) := by
  unfold execTagWrite
  try dsimp only
  with_reducible repeat' first
    | intro _ | assumption | apply Made.ite | apply Ends.ite | apply Ends.done | apply giveRet_made (mask_sub hM rfl) | apply tagEnd_made (mask_sub hM rfl) | apply noteErr_made (mask_sub hM rfl) | apply tagPage_made (mask_sub hM rfl) | apply setOp_made (mask_sub hM rfl) | split


theorem fieldRead_made {M : Nat} (hM : M ||| 8796093022240 = M) {s0 : State} (s : State) (r : TagReq) (first : Nat) (n : Nat) (top : Nat) (h : Made M s0 s) :
    Made M s0 (fieldRead s r first n top) := by
  unfold fieldRead
  try dsimp only
  with_reducible repeat' first
    | intro _ | assumption | apply Made.ite | apply tagError_made (mask_sub hM rfl) | apply setTag_made (mask_sub hM rfl) | split


theorem execReadMultipleBlocks_made {M : Nat} (hM : M ||| 8796093022240 = M) {s0 : State} (r : TagReq) (first : Fin 256) (count : Fin 256) (s : State) (h : Made M s0 s) :
    Ends M s0 (execReadMultipleBlocks r first count s) := by
  unfold execReadMultipleBlocks
  try dsimp only
  with_reducible repeat' first
    | intro _ | assumption | apply Ends.done | apply fieldRead_made (mask_sub hM rfl)


theorem execTagUnsupportedCommand_made {M : Nat} (hM : M ||| 32 = M) {s0 : State} (r : TagReq) (s : State) (h : Made M s0 s) :
    Ends M s0 (execTagUnsupportedCommand r s) := by
  unfold execTagUnsupportedCommand
  try dsimp only
  with_reducible repeat' first
    | intro _ | assumption | apply Made.ite | apply Ends.ite | apply Ends.done | apply tagError_made (mask_sub hM rfl) | split


theorem takeTagRead_made {M : Nat} (hM : M ||| 12121134170759166343252134 = M) {s0 : State} (tag : Nat) (s : State) (h : Made M s0 s) :
    Ends M s0 (takeTagRead tag s) := by
  unfold takeTagRead
  try dsimp only
  with_reducible repeat' first
    | intro _ | assumption | apply Made.ite | apply Ends.ite | apply Ends.done | apply giveRet_made (mask_sub hM rfl) | apply tagRead_made (mask_sub hM rfl) | apply tagEnd_made (mask_sub hM rfl) | apply setTag_made (mask_sub hM rfl) | apply setOp_made (mask_sub hM rfl) | split


theorem execTagPageCommit_made {M : Nat} (hM : M ||| 2417851639255655218413698 = M) {s0 : State} (s : State) (h : Made M s0 s) :
    Ends M s0 (execTagPageCommit s) := by
  unfold execTagPageCommit
  try dsimp only
  with_reducible repeat' first
    | intro _ | assumption | apply Made.ite | apply Ends.ite | apply Ends.done | apply tagCommit_made (mask_sub hM rfl) | apply tagEnd_made (mask_sub hM rfl) | apply setTag_made (mask_sub hM rfl) | split


theorem execTagLockGroupProgrammed_made {M : Nat} (hM : M ||| 8796093022208 = M) {s0 : State} (s : State) (h : Made M s0 s) :
    Ends M s0 (execTagLockGroupProgrammed s) := by
  unfold execTagLockGroupProgrammed
  try dsimp only
  with_reducible repeat' first
    | intro _ | assumption | apply Ends.done | apply setTag_made (mask_sub hM rfl) | split


theorem execTagLockGroupCommit_made {M : Nat} (hM : M ||| 2417851639238054442434562 = M) {s0 : State} (s : State) (h : Made M s0 s) :
    Ends M s0 (execTagLockGroupCommit s) := by
  unfold execTagLockGroupCommit
  try dsimp only
  with_reducible repeat' first
    | intro _ | assumption | apply Made.ite | apply Ends.ite | apply Ends.done | apply lkCommit_made (mask_sub hM rfl) | apply setTag_made (mask_sub hM rfl) | split


theorem execTagSnapshotDone_made {M : Nat} (hM : M ||| 12121134170776758529296550 = M) {s0 : State} (s : State) (h : Made M s0 s) :
    Ends M s0 (execTagSnapshotDone s) := by
  unfold execTagSnapshotDone
  try dsimp only
  with_reducible repeat' first
    | intro _ | assumption | apply Ends.done | apply tagHostGo_made (mask_sub hM rfl) | apply emit_made (mask_sub hM rfl) | apply setTag_made (mask_sub hM rfl) | split


theorem execTagFieldOn_made {M : Nat} (hM : M ||| 2417851639238054442434562 = M) {s0 : State} (s : State) (h : Made M s0 s) :
    Ends M s0 (execTagFieldOn s) := by
  unfold execTagFieldOn
  try dsimp only
  repeat' first
    | with_reducible first | intro _ | assumption | apply Made.ite | apply Ends.ite | apply Ends.done | apply setTag_made (mask_sub hM rfl) | apply satAdd_made (mask_sub hM rfl) | split
    | exact blk_at hM rfl rfl


theorem tagLockCmd_made {M : Nat} (hM : M ||| 2417851639238054442434562 = M) {s0 : State} (s : State) (v : W32) (h : Made M s0 s) :
    Made M s0 (tagLockCmd s v) := by
  unfold tagLockCmd
  try dsimp only
  repeat' first
    | with_reducible first | intro _ | assumption | apply Made.ite | apply raise_made (mask_sub hM rfl) | apply lkNext_made (mask_sub hM rfl) | split
    | exact blk_at hM rfl rfl


theorem execExtendedLockBlock_made {M : Nat} (hM : M ||| 8796093022240 = M) {s0 : State} (r : TagReq) (b : Fin 65536) (s : State) (h : Made M s0 s) :
    Ends M s0 (execExtendedLockBlock r b s) := by
  unfold execExtendedLockBlock
  try dsimp only
  with_reducible repeat' first
    | intro _ | assumption | apply Ends.done | apply fieldLockCmd_made (mask_sub hM rfl)


theorem tagAbort_made {M : Nat} (hM : M ||| 8796093022208 = M) {s0 : State} (s : State) (h : Made M s0 s) :
    Made M s0 (tagAbort s) := by
  unfold tagAbort
  try dsimp only
  with_reducible repeat' first
    | intro _ | assumption | apply setTag_made (mask_sub hM rfl)


theorem execExtendedReadMultipleBlocks_made {M : Nat} (hM : M ||| 8796093022240 = M) {s0 : State} (r : TagReq) (first : Fin 65536) (count : Fin 65536) (s : State) (h : Made M s0 s) :
    Ends M s0 (execExtendedReadMultipleBlocks r first count s) := by
  unfold execExtendedReadMultipleBlocks
  try dsimp only
  with_reducible repeat' first
    | intro _ | assumption | apply Ends.done | apply fieldRead_made (mask_sub hM rfl)


theorem execTagLockProgrammed_made {M : Nat} (hM : M ||| 12121134170776758529296550 = M) {s0 : State} (ok : Bool) (s : State) (h : Made M s0 s) :
    Ends M s0 (execTagLockProgrammed ok s) := by
  unfold execTagLockProgrammed
  try dsimp only
  with_reducible repeat' first
    | intro _ | assumption | apply Made.ite | apply Ends.ite | apply Ends.done | apply setTag_made (mask_sub hM rfl) | apply tagHostGo_made (mask_sub hM rfl) | apply emit_made (mask_sub hM rfl) | apply fieldLock_made (mask_sub hM rfl) | apply tagError_made (mask_sub hM rfl) | split


theorem tagReset_made {M : Nat} (hM : M ||| 8796093022208 = M) {s0 : State} (s : State) (h : Made M s0 s) :
    Made M s0 (tagReset s) := by
  unfold tagReset
  try dsimp only
  with_reducible repeat' first
    | intro _ | assumption | apply setTag_made (mask_sub hM rfl) | apply tagAbort_made (mask_sub hM rfl)


theorem execStayQuiet_made {M : Nat} (hM : M ||| 8796093022208 = M) {s0 : State} (r : TagReq) (s : State) (h : Made M s0 s) :
    Ends M s0 (execStayQuiet r s) := by
  unfold execStayQuiet
  try dsimp only
  with_reducible repeat' first
    | intro _ | assumption | apply Made.ite | apply Ends.ite | apply Ends.done | apply setTag_made (mask_sub hM rfl) | split


theorem execTagLockCmd_made {M : Nat} (hM : M ||| 2417851639238054442434562 = M) {s0 : State} (data : W32) (s : State) (h : Made M s0 s) :
    Ends M s0 (execTagLockCmd data s) := by
  unfold execTagLockCmd
  try dsimp only
  with_reducible repeat' first
    | intro _ | assumption | apply Made.ite | apply Ends.ite | apply Ends.done | apply tagLockCmd_made (mask_sub hM rfl) | split


theorem execTagShadowProgrammed_made {M : Nat} (hM : M ||| 2417851639238063032369282 = M) {s0 : State} (ok : Bool) (s : State) (h : Made M s0 s) :
    Ends M s0 (execTagShadowProgrammed ok s) := by
  unfold execTagShadowProgrammed
  try dsimp only
  with_reducible repeat' first
    | intro _ | assumption | apply Made.ite | apply Ends.ite | apply Ends.done | apply setTag_made (mask_sub hM rfl) | apply tagEnd_made (mask_sub hM rfl) | split


theorem execTagSessionEnd_made {M : Nat} (hM : M ||| 12119953578294015411882018 = M) {s0 : State} (s : State) (h : Made M s0 s) :
    Ends M s0 (execTagSessionEnd s) := by
  unfold execTagSessionEnd
  try dsimp only
  repeat' first
    | with_reducible first | intro _ | assumption | apply Made.ite | apply Ends.ite | apply Ends.done | apply setTag_made (mask_sub hM rfl) | apply devEvent_made (mask_sub hM rfl) | apply raise_made (mask_sub hM rfl) | split
    | exact blk_at hM rfl rfl


end Sys2Proof.Machine
end

