-- ==== Sys2Proof/Laws/MadeTapCmd.lean ====
section
/-! SUPPORT. TapCmd.lean, operation by operation: the fields it leaves as they are, and that it keeps the stores canonical. -/
set_option linter.all false
namespace Sys2Proof.Machine
set_option Elab.async false

theorem tapLoad_made {M : Nat} (hM : M ||| 140737488355360 = M) {s0 : State} (s : State) (ir : Nat) (dr : W32) (h : Made M s0 s) :
    Made M s0 (tapLoad s ir dr) := by
  unfold tapLoad
  try dsimp only
  with_reducible repeat' first
    | intro _ | assumption | apply Made.ite | apply emit_made (mask_sub hM rfl) | apply Made.foldl | split | apply Made.set_tap (mask_sub hM rfl)


theorem execBypass_made {M : Nat} (hM : M ||| 140737488355360 = M) {s0 : State} (s : State) (h : Made M s0 s) :
    Ends M s0 (execBypass s) := by
  unfold execBypass
  try dsimp only
  with_reducible repeat' first
    | intro _ | assumption | apply Made.ite | apply Ends.ite | apply Ends.done | apply tapLoad_made (mask_sub hM rfl) | split


theorem execSamplePreload_made {M : Nat} (hM : M ||| 140737488355360 = M) {s0 : State} (cells : List Bool) (s : State) (h : Made M s0 s) :
    Ends M s0 (execSamplePreload cells s) := by
  unfold execSamplePreload
  try dsimp only
  with_reducible repeat' first
    | intro _ | assumption | apply Made.ite | apply Ends.ite | apply Ends.done | apply tapLoad_made (mask_sub hM rfl) | split | apply Made.set_tap (mask_sub hM rfl)


theorem execTapReset_made {M : Nat} (hM : M ||| 140737488355360 = M) {s0 : State} (s : State) (h : Made M s0 s) :
    Ends M s0 (execTapReset s) := by
  unfold execTapReset
  try dsimp only
  with_reducible repeat' first
    | intro _ | assumption | apply Made.ite | apply Ends.ite | apply Ends.done | apply tapLoad_made (mask_sub hM rfl) | split


theorem execClamp_made {M : Nat} (hM : M ||| 140737488355360 = M) {s0 : State} (s : State) (h : Made M s0 s) :
    Ends M s0 (execClamp s) := by
  unfold execClamp
  try dsimp only
  with_reducible repeat' first
    | intro _ | assumption | apply Made.ite | apply Ends.ite | apply Ends.done | apply tapLoad_made (mask_sub hM rfl) | split


theorem execHighz_made {M : Nat} (hM : M ||| 140737488355360 = M) {s0 : State} (s : State) (h : Made M s0 s) :
    Ends M s0 (execHighz s) := by
  unfold execHighz
  try dsimp only
  with_reducible repeat' first
    | intro _ | assumption | apply Made.ite | apply Ends.ite | apply Ends.done | apply tapLoad_made (mask_sub hM rfl) | split


theorem execIdcode_made {M : Nat} (hM : M ||| 140737488355360 = M) {s0 : State} (s : State) (h : Made M s0 s) :
    Ends M s0 (execIdcode s) := by
  unfold execIdcode
  try dsimp only
  with_reducible repeat' first
    | intro _ | assumption | apply Made.ite | apply Ends.ite | apply Ends.done | apply tapLoad_made (mask_sub hM rfl) | split


theorem execExtest_made {M : Nat} (hM : M ||| 140737488355360 = M) {s0 : State} (cells : List Bool) (s : State) (h : Made M s0 s) :
    Ends M s0 (execExtest cells s) := by
  unfold execExtest
  try dsimp only
  with_reducible repeat' first
    | intro _ | assumption | apply Made.ite | apply Ends.ite | apply Ends.done | apply tapLoad_made (mask_sub hM rfl) | split | apply Made.set_tap (mask_sub hM rfl)


end Sys2Proof.Machine
end

