-- ==== Sys2Proof/Laws/MadeReset.lean ====
section
/-! SUPPORT. Reset.lean, operation by operation: the fields it leaves as they are, and that it keeps the stores canonical. -/
set_option linter.all false
namespace Sys2Proof.Machine
set_option Elab.async false

theorem resetHif_made {M : Nat} (hM : M ||| 79228162495817594344468122854 = M) {s0 : State} (s : State) (h : Made M s0 s) :
    Made M s0 (resetHif s) := by
  unfold resetHif
  try dsimp only
  repeat' first
    | with_reducible first | intro _ | assumption | apply setf_made (mask_sub hM rfl) | apply hifReset_made (mask_sub hM rfl) | apply resetRegs_made (mask_sub hM rfl) | apply linkDrop_made (mask_sub hM rfl)
    | exact blk_at hM rfl rfl


theorem releaseFab_made {M : Nat} (hM : M ||| 203131671923469571248404658 = M) {s0 : State} (s : State) (bist : Bool) (h : Made M s0 s) :
    Made M s0 (releaseFab s bist) := by
  unfold releaseFab
  try dsimp only
  with_reducible repeat' first
    | intro _ | assumption | apply Made.ite | apply initialTrim_made (mask_sub hM rfl) | apply setFab_made (mask_sub hM rfl) | apply regionOff_made (mask_sub hM rfl) | apply clearFabric_made (mask_sub hM rfl) | apply seqBegin_made (mask_sub hM rfl) | apply Made.foldl | split


theorem releaseReset_made {M : Nat} (hM : M ||| 204340597743084204718143666 = M) {s0 : State} (s : State) (d : Nat) (h : Made M s0 s) :
    Made M s0 (releaseReset s d) := by
  unfold releaseReset
  try dsimp only
  with_reducible repeat' first
    | intro _ | assumption | apply Made.ite | apply releaseHook_made (mask_sub hM rfl) | apply releaseDom_made (mask_sub hM rfl) | apply releaseFab_made (mask_sub hM rfl) | split


theorem execResetRelease_made {M : Nat} (hM : M ||| 204340597743084204718143666 = M) {s0 : State} (d : Fin 24) (s : State) (h : Made M s0 s) :
    Ends M s0 (execResetRelease d s) := by
  unfold execResetRelease
  try dsimp only
  with_reducible repeat' first
    | intro _ | assumption | apply Made.ite | apply Ends.ite | apply Ends.done | apply releaseReset_made (mask_sub hM rfl) | split


theorem flushStaged_made {M : Nat} (hM : M ||| 9706824305538830614660198 = M) {s0 : State} (s : State) (c : Nat) (x2 : List Staged) (h : Made M s0 s) :
    Made M s0 (flushStaged s c x2) := by
  induction x2 generalizing s c with
  | nil =>
    unfold flushStaged
    try dsimp only
    with_reducible repeat' first
      | intro _ | assumption | apply refuse_made (mask_sub hM rfl) | apply outcome_made (mask_sub hM rfl) | split
  | cons _ _ ih =>
    unfold flushStaged
    try dsimp only
    with_reducible repeat' first
      | intro _ | assumption | apply ih | apply refuse_made (mask_sub hM rfl) | apply outcome_made (mask_sub hM rfl) | split


theorem bankAct_made {M : Nat} (hM : M ||| 1180591620717411319810 = M) {s0 : State} (s : State) (d : Nat) (h : Made M s0 s) :
    Made M s0 (bankAct s d) := by
  unfold bankAct
  try dsimp only
  with_reducible repeat' first
    | intro _ | assumption | apply Made.ite | apply beginStep_made (mask_sub hM rfl) | split


theorem execRstDomReq_made {M : Nat} (hM : M ||| 1254378597012249550850 = M) {s0 : State} (m : Master) (mask : BitVec 24) (s : State) (h : Made M s0 s) :
    Ends M s0 (execRstDomReq m mask s) := by
  unfold execRstDomReq
  try dsimp only
  with_reducible repeat' first
    | intro _ | assumption | apply Made.ite | apply Ends.ite | apply Ends.done | apply askReset_made (mask_sub hM rfl) | apply Made.foldl | split


theorem inService_made {M : Nat} (hM : M ||| 49220045259513496578050290 = M) {s0 : State} (s : State) (d : Nat) (h : Made M s0 s) :
    Made M s0 (inService s d) := by
  unfold inService
  try dsimp only
  with_reducible repeat' first
    | intro _ | assumption | apply Made.ite | apply portStart_made (mask_sub hM rfl) | apply xoffPins_made (mask_sub hM rfl) | apply vbuDrain_made (mask_sub hM rfl) | apply placeGap_made (mask_sub hM rfl) | apply harLinkStart_made (mask_sub hM rfl) | apply rxEval_made (mask_sub hM rfl) | apply hoAborted_made (mask_sub hM rfl) | apply bstFinish_made (mask_sub hM rfl) | apply Made.foldl | split


theorem execDomainReady_made {M : Nat} (hM : M ||| 49220119046489791416297714 = M) {s0 : State} (d : Fin 24) (s : State) (h : Made M s0 s) :
    Ends M s0 (execDomainReady d s) := by
  unfold execDomainReady
  try dsimp only
  with_reducible repeat' first
    | intro _ | assumption | apply Made.ite | apply Ends.ite | apply Ends.done | apply inService_made (mask_sub hM rfl) | apply domainReady_made (mask_sub hM rfl) | split


theorem noteCause_made {M : Nat} (hM : M ||| 73786976294838206466 = M) {s0 : State} (s : State) (src : Nat) (h : Made M s0 s) :
    Made M s0 (noteCause s src) := by
  unfold noteCause
  try dsimp only
  repeat' first
    | with_reducible first | intro _ | assumption | apply satAdd_made (mask_sub hM rfl) | apply setf_made (mask_sub hM rfl)
    | exact blk_at hM rfl rfl


theorem abortOps_made {M : Nat} (hM : M ||| 9706824305538830614660326 = M) {s0 : State} (s : State) (x1 : List Op) (h : Made M s0 s) :
    Made M s0 (abortOps s x1) := by
  induction x1 generalizing s with
  | nil =>
    unfold abortOps
    try dsimp only
    with_reducible repeat' first
      | intro _ | assumption | apply complete_made (mask_sub hM rfl) | split
  | cons _ _ ih =>
    unfold abortOps
    try dsimp only
    with_reducible repeat' first
      | intro _ | assumption | apply ih | apply complete_made (mask_sub hM rfl) | split


theorem marchAbort_made {M : Nat} (hM : M ||| 1254378597012249567262 = M) {s0 : State} (s : State) (n : Nat) (h : Made M s0 s) :
    Made M s0 (marchAbort s n) := by
  unfold marchAbort
  try dsimp only
  repeat' first
    | with_reducible first | intro _ | assumption | apply Made.ite | apply loseBank_made (mask_sub hM rfl) | apply drawn_made (mask_sub hM rfl) | apply loseBytes_made (mask_sub hM rfl) | apply setf_made (mask_sub hM rfl) | apply setBank_made (mask_sub hM rfl) | apply releaseHolder_made (mask_sub hM rfl) | split
    | with_reducible exact blk_at hM (F.BNK_MRES_DONE_blk _) rfl | with_reducible exact blk_at hM (F.BNK_STAT_MARCH_blk _) rfl | with_reducible exact blk_at hM (F.BNK_STAT_ROW_blk _) rfl | exact blk_at hM rfl rfl


theorem warmFlush_made {M : Nat} (hM : M ||| 9708226258088982313231614 = M) {s0 : State} (s : State) (h : Made M s0 s) :
    Made M s0 (warmFlush s) := by
  unfold warmFlush
  try dsimp only
  repeat' first
    | with_reducible first | intro _ | assumption | apply Made.ite | apply complete_made (mask_sub hM rfl) | apply abortOps_made (mask_sub hM rfl) | apply remoteDone_made (mask_sub hM rfl) | apply setEnu_made (mask_sub hM rfl) | apply marchAbort_made (mask_sub hM rfl) | apply flushStaged_made (mask_sub hM rfl) | apply setCtx_made (mask_sub hM rfl) | apply satAdd_made (mask_sub hM rfl) | apply Made.foldl | split | apply Made.set_ho (mask_sub hM rfl)
    | exact blk_at hM rfl rfl


theorem warmCheck_made {M : Nat} (hM : M ||| 9708226258088982313231614 = M) {s0 : State} (s : State) (h : Made M s0 s) :
    Made M s0 (warmCheck s) := by
  unfold warmCheck
  try dsimp only
  with_reducible repeat' first
    | intro _ | assumption | apply Made.ite | apply warmFlush_made (mask_sub hM rfl) | split


theorem warmReset_made {M : Nat} (hM : M ||| 9708226258088982313235710 = M) {s0 : State} (s : State) (src : Nat) (h : Made M s0 s) :
    Made M s0 (warmReset s src) := by
  unfold warmReset
  try dsimp only
  with_reducible repeat' first
    | intro _ | assumption | apply Made.ite | apply noteCause_made (mask_sub hM rfl) | apply logEvent_made (mask_sub hM rfl) | apply setPwr_made (mask_sub hM rfl) | apply requestReset_made (mask_sub hM rfl) | apply warmCheck_made (mask_sub hM rfl) | apply Made.foldl | split


theorem execRstUnit_made {M : Nat} (hM : M ||| 9708226258088982313235710 = M) {s0 : State} (m : Master) (key : Nat) (s : State) (h : Made M s0 s) :
    Ends M s0 (execRstUnit m key s) := by
  unfold execRstUnit
  try dsimp only
  with_reducible repeat' first
    | intro _ | assumption | apply Made.ite | apply Ends.ite | apply Ends.done | apply warmReset_made (mask_sub hM rfl) | split


theorem resetCtl_made {M : Nat} (hM : M ||| 79228162495817594069590216386 = M) {s0 : State} (s : State) (h : Made M s0 s) :
    Made M s0 (resetCtl s) := by
  unfold resetCtl
  try dsimp only
  repeat' first
    | with_reducible first | intro _ | assumption | apply resetRegs_made (mask_sub hM rfl) | apply wr_made (mask_sub hM rfl) | apply Made.foldl | apply Made.set_ctxs_ops_rounds_ledger_hif_enu (mask_sub hM rfl)
    | with_reducible exact blk_at hM (R.LDG_CHN_blk _) rfl


theorem resetPort_made {M : Nat} (hM : M ||| 79228162495817629545573514470 = M) {s0 : State} (s : State) (p : Nat) (h : Made M s0 s) :
    Made M s0 (resetPort s p) := by
  unfold resetPort
  try dsimp only
  with_reducible repeat' first
    | intro _ | assumption | apply setPort_made (mask_sub hM rfl) | apply resetRegs_made (mask_sub hM rfl) | apply portDown_made (mask_sub hM rfl)


theorem resetSfq_made {M : Nat} (hM : M ||| 79228162495817594619346550818 = M) {s0 : State} (s : State) (h : Made M s0 s) :
    Made M s0 (resetSfq s) := by
  unfold resetSfq
  try dsimp only
  with_reducible repeat' first
    | intro _ | assumption | apply Made.ite | apply xoffPins_made (mask_sub hM rfl) | apply resetRegs_made (mask_sub hM rfl) | split | apply Made.set_fifos (mask_sub hM rfl)


theorem resetHar_made {M : Nat} (hM : M ||| 79228162495817594619346026498 = M) {s0 : State} (s : State) (h : Made M s0 s) :
    Made M s0 (resetHar s) := by
  unfold resetHar
  try dsimp only
  with_reducible repeat' first
    | intro _ | assumption | apply resetRegs_made (mask_sub hM rfl) | apply Made.set_har (mask_sub hM rfl)


theorem resetFab_made {M : Nat} (hM : M ||| 79228162495817734257324851234 = M) {s0 : State} (s : State) (h : Made M s0 s) :
    Made M s0 (resetFab s) := by
  unfold resetFab
  try dsimp only
  repeat' first
    | with_reducible first | intro _ | assumption | apply Made.ite | apply resetRegs_made (mask_sub hM rfl) | apply wr_made (mask_sub hM rfl) | apply setf_made (mask_sub hM rfl) | apply userIo_made (mask_sub hM rfl) | apply setFab_made (mask_sub hM rfl) | apply Made.foldl | split
    | with_reducible exact blk_at hM (F.FAB_PACE_NOW_blk _) rfl | with_reducible exact blk_at hM (F.FAB_PACE_VALID_blk _) rfl | exact blk_at hM rfl rfl


theorem resetBank_made {M : Nat} (hM : M ||| 79228162495817593519834456094 = M) {s0 : State} (s : State) (n : Nat) (h : Made M s0 s) :
    Made M s0 (resetBank s n) := by
  unfold resetBank
  try dsimp only
  with_reducible repeat' first
    | intro _ | assumption | apply resetRegs_made (mask_sub hM rfl) | apply marchAbort_made (mask_sub hM rfl) | apply showBank_made (mask_sub hM rfl) | apply setBank_made (mask_sub hM rfl)


theorem resetKite_made {M : Nat} (hM : M ||| 79228162495817593524129366018 = M) {s0 : State} (s : State) (h : Made M s0 s) :
    Made M s0 (resetKite s) := by
  unfold resetKite
  try dsimp only
  with_reducible repeat' first
    | intro _ | assumption | apply resetRegs_made (mask_sub hM rfl) | apply Made.set_kite (mask_sub hM rfl)


theorem resetCfg_made {M : Nat} (hM : M ||| 79228162495817628996228741298 = M) {s0 : State} (s : State) (h : Made M s0 s) :
    Made M s0 (resetCfg s) := by
  unfold resetCfg
  try dsimp only
  repeat' first
    | with_reducible first | intro _ | assumption | apply Made.ite | apply flashLose_made (mask_sub hM rfl) | apply roundAborted_made (mask_sub hM rfl) | apply resetRegs_made (mask_sub hM rfl) | apply wr_made (mask_sub hM rfl) | apply setf_made (mask_sub hM rfl) | apply setValid_made (mask_sub hM rfl) | apply Made.foldl | split | apply Made.set_stage_dep_load (mask_sub hM rfl)
    | exact blk_at hM rfl rfl


theorem resetMon_made {M : Nat} (hM : M ||| 79228162495817628712796430338 = M) {s0 : State} (s : State) (h : Made M s0 s) :
    Made M s0 (resetMon s) := by
  unfold resetMon
  try dsimp only
  with_reducible repeat' first
    | intro _ | assumption | apply resetRegs_made (mask_sub hM rfl) | apply bstAbort_made (mask_sub hM rfl) | apply Made.set_tlm (mask_sub hM rfl)


theorem resetBlocks_made {M : Nat} (hM : M ||| 79228162495817786879227068158 = M) {s0 : State} (s : State) (d : Nat) (h : Made M s0 s) :
    Made M s0 (resetBlocks s d) := by
  unfold resetBlocks
  try dsimp only
  with_reducible repeat' first
    | intro _ | assumption | apply Made.ite | apply resetRegs_made (mask_sub hM rfl) | apply resetHif_made (mask_sub hM rfl) | apply resetCtl_made (mask_sub hM rfl) | apply resetPort_made (mask_sub hM rfl) | apply resetSfq_made (mask_sub hM rfl) | apply resetHar_made (mask_sub hM rfl) | apply vbuReset_made (mask_sub hM rfl) | apply ospReset_made (mask_sub hM rfl) | apply nvAbandon_made (mask_sub hM rfl) | apply tbuStop_made (mask_sub hM rfl) | apply resetFab_made (mask_sub hM rfl) | apply resetBank_made (mask_sub hM rfl) | apply resetKite_made (mask_sub hM rfl) | apply resetCfg_made (mask_sub hM rfl) | apply tagReset_made (mask_sub hM rfl) | apply resetMon_made (mask_sub hM rfl) | split | apply Made.set_nva (mask_sub hM rfl)


theorem harAbort_made {M : Nat} (hM : M ||| 75557863727013835046946 = M) {s0 : State} (s : State) (h : Made M s0 s) :
    Made M s0 (harAbort s) := by
  unfold harAbort
  try dsimp only
  with_reducible repeat' first
    | intro _ | refine Made.of_pair (by assumption) ?_ | assumption | apply endHold_made (mask_sub hM rfl) | apply scanOff_made (mask_sub hM rfl) | apply clearScan_made (mask_sub hM rfl) | split


theorem cfgAbort_made {M : Nat} (hM : M ||| 147573952590154563602 = M) {s0 : State} (s : State) (h : Made M s0 s) :
    Made M s0 (cfgAbort s) := by
  unfold cfgAbort
  try dsimp only
  repeat' first
    | with_reducible first | intro _ | assumption | apply Made.ite | apply flashLose_made (mask_sub hM rfl) | apply setf_made (mask_sub hM rfl) | apply setDep_made (mask_sub hM rfl) | split | apply Made.set_stage (mask_sub hM rfl)
    | exact blk_at hM rfl rfl


theorem winAbort_made {M : Nat} (hM : M ||| 154742504910672534364487714 = M) {s0 : State} (s : State) (h : Made M s0 s) :
    Made M s0 (winAbort s) := by
  unfold winAbort
  try dsimp only
  repeat' first
    | with_reducible first | intro _ | assumption | apply Made.ite | apply satAdd_made (mask_sub hM rfl) | apply emit_made (mask_sub hM rfl) | apply setFab_made (mask_sub hM rfl) | apply Made.foldl | split
    | exact blk_at hM rfl rfl


theorem blockAbort_made {M : Nat} (hM : M ||| 204264338903100072762288242 = M) {s0 : State} (s : State) (d : Nat) (h : Made M s0 s) :
    Made M s0 (blockAbort s d) := by
  unfold blockAbort
  try dsimp only
  with_reducible repeat' first
    | intro _ | assumption | apply Made.ite | apply harAbort_made (mask_sub hM rfl) | apply vbuAbort_made (mask_sub hM rfl) | apply ospAbort_made (mask_sub hM rfl) | apply nvAbandon_made (mask_sub hM rfl) | apply cfgAbort_made (mask_sub hM rfl) | apply tagAbort_made (mask_sub hM rfl) | apply bstAbort_made (mask_sub hM rfl) | apply winAbort_made (mask_sub hM rfl) | split


theorem postAborts_made {M : Nat} (hM : M ||| 204270315648179954657062142 = M) {s0 : State} (s : State) (d : Nat) (accs : List Nat) (h : Made M s0 s) :
    Made M s0 (postAborts s d accs) := by
  unfold postAborts
  try dsimp only
  repeat' first
    | with_reducible first | intro _ | assumption | apply Made.ite | apply abortOps_made (mask_sub hM rfl) | apply blockAbort_made (mask_sub hM rfl) | apply marchAbort_made (mask_sub hM rfl) | apply satAdd_made (mask_sub hM rfl) | apply logEvent_made (mask_sub hM rfl) | apply setDom_made (mask_sub hM rfl) | split
    | with_reducible exact blk_at hM (F.RST_DOM_STAT_ABORTS_blk _) rfl


theorem logMidbursts_made {M : Nat} (hM : M ||| 73786976294838239234 = M) {s0 : State} (s : State) (d : Nat) (src : Nat) (x3 : List Midburst) (h : Made M s0 s) :
    Made M s0 (logMidbursts s d src x3) := by
  induction x3 generalizing s d src with
  | nil =>
    unfold logMidbursts
    try dsimp only
    repeat' first
      | with_reducible first | intro _ | assumption | apply satAdd_made (mask_sub hM rfl) | apply logEvent_made (mask_sub hM rfl) | split
      | exact blk_at hM rfl rfl
  | cons _ _ ih =>
    unfold logMidbursts
    try dsimp only
    repeat' first
      | with_reducible first | intro _ | assumption | apply ih | apply satAdd_made (mask_sub hM rfl) | apply logEvent_made (mask_sub hM rfl) | split
      | exact blk_at hM rfl rfl


theorem assertReset_made {M : Nat} (hM : M ||| 79228162495817786879227068158 = M) {s0 : State} (s : State) (d : Nat) (mids : List Midburst) (h : Made M s0 s) :
    Made M s0 (assertReset s d mids) := by
  unfold assertReset
  try dsimp only
  repeat' first
    | with_reducible first | intro _ | assumption | apply logMidbursts_made (mask_sub hM rfl) | apply logEvent_made (mask_sub hM rfl) | apply satAdd_made (mask_sub hM rfl) | apply setDomBit_made (mask_sub hM rfl) | apply setDom_made (mask_sub hM rfl) | apply resetBlocks_made (mask_sub hM rfl) | apply Made.set_tlm (mask_sub hM rfl)
    | with_reducible exact blk_at hM (F.RST_DOM_STAT_RESETS_blk _) rfl | exact blk_at hM rfl rfl


theorem takeReset_made {M : Nat} (hM : M ||| 9708226258088982313235710 = M) {s0 : State} (s : State) (m : Msg) (h : Made M s0 s) :
    Made M s0 (takeReset s m) := by
  unfold takeReset
  try dsimp only
  with_reducible repeat' first
    | intro _ | assumption | apply Made.ite | apply warmReset_made (mask_sub hM rfl) | apply logEvent_made (mask_sub hM rfl) | split


theorem resetBase_made {M : Nat} (hM : M ||| 79228162495817593519834400770 = M) {s0 : State} (s : State) (h : Made M s0 s) :
    Made M s0 (resetBase s) := by
  unfold resetBase
  try dsimp only
  repeat' first
    | with_reducible first | intro _ | assumption | apply resetRegs_made (mask_sub hM rfl) | apply setf_made (mask_sub hM rfl) | apply showBank_made (mask_sub hM rfl) | apply Made.foldl | apply Made.set_hif (mask_sub hM rfl)
    | exact blk_at hM rfl rfl


theorem warmRestart_made {M : Nat} (hM : M ||| 79228162495817593519865870338 = M) {s0 : State} (s : State) (h : Made M s0 s) :
    Made M s0 (warmRestart s) := by
  unfold warmRestart
  try dsimp only
  with_reducible repeat' first
    | intro _ | assumption | apply regionOff_made (mask_sub hM rfl) | apply resetBase_made (mask_sub hM rfl) | apply setDom_made (mask_sub hM rfl) | apply setPwr_made (mask_sub hM rfl) | apply enterS1_made (mask_sub hM rfl) | apply Made.foldl | apply Made.set_boot_stage_ho (mask_sub hM rfl)


theorem execResetAssert_made {M : Nat} (hM : M ||| 79228162495817786879227068158 = M) {s0 : State} (d : Fin 24) (mids : List Midburst) (s : State) (h : Made M s0 s) :
    Ends M s0 (execResetAssert d mids s) := by
  unfold execResetAssert
  try dsimp only
  with_reducible repeat' first
    | intro _ | assumption | apply Made.ite | apply Ends.ite | apply Ends.done | apply assertReset_made (mask_sub hM rfl) | apply warmRestart_made (mask_sub hM rfl) | split


theorem execDrainEnd_made {M : Nat} (hM : M ||| 8192 = M) {s0 : State} (d : Fin 24) (s : State) (h : Made M s0 s) :
    Ends M s0 (execDrainEnd d s) := by
  unfold execDrainEnd
  try dsimp only
  with_reducible repeat' first
    | intro _ | assumption | apply Made.ite | apply Ends.ite | apply Ends.done | apply setDom_made (mask_sub hM rfl) | split


theorem execReadyTimeout_made {M : Nat} (hM : M ||| 9702194172776329517238306 = M) {s0 : State} (d : Fin 24) (s : State) (h : Made M s0 s) :
    Ends M s0 (execReadyTimeout d s) := by
  unfold execReadyTimeout
  try dsimp only
  repeat' first
    | with_reducible first | intro _ | assumption | apply Made.ite | apply Ends.ite | apply Ends.done | apply setDomBit_made (mask_sub hM rfl) | apply alarmUpdate_made (mask_sub hM rfl) | apply logEvent_made (mask_sub hM rfl) | split
    | exact blk_at hM rfl rfl


theorem execRstDomHold_made {M : Nat} (hM : M ||| 49220119046489791416297714 = M) {s0 : State} (m : Master) (mask : BitVec 24) (s : State) (h : Made M s0 s) :
    Ends M s0 (execRstDomHold m mask s) := by
  unfold execRstDomHold
  try dsimp only
  repeat' first
    | with_reducible first | intro _ | assumption | apply Made.ite | apply Ends.ite | apply Ends.done | apply wr_made (mask_sub hM rfl) | apply askHold_made (mask_sub hM rfl) | apply inService_made (mask_sub hM rfl) | apply tryReopen_made (mask_sub hM rfl) | apply setDom_made (mask_sub hM rfl) | apply Made.foldl | split
    | exact blk_at hM rfl rfl


theorem execWatchdogExpiry_made {M : Nat} (hM : M ||| 9708226258088982313235710 = M) {s0 : State} (s : State) (h : Made M s0 s) :
    Ends M s0 (execWatchdogExpiry s) := by
  unfold execWatchdogExpiry
  try dsimp only
  with_reducible repeat' first
    | intro _ | assumption | apply Made.ite | apply Ends.ite | apply Ends.done | apply logEvent_made (mask_sub hM rfl) | apply setPwr_made (mask_sub hM rfl) | apply warmReset_made (mask_sub hM rfl) | apply requestReset_made (mask_sub hM rfl) | split


theorem execResetCmd_made {M : Nat} (hM : M ||| 9746005189951939474945278 = M) {s0 : State} (p : Fin 2) (m : Msg) (s : State) (h : Made M s0 s) :
    Ends M s0 (execResetCmd p m s) := by
  unfold execResetCmd
  try dsimp only
  with_reducible repeat' first
    | intro _ | assumption | apply Made.ite | apply Ends.ite | apply Ends.done | apply onFlood_made (mask_sub hM rfl) | apply takeReset_made (mask_sub hM rfl) | apply onDst_made (mask_sub hM rfl) | split


theorem execAbortsPosted_made {M : Nat} (hM : M ||| 204270315648321250507943166 = M) {s0 : State} (d : Fin 24) (accs : List Nat) (s : State) (h : Made M s0 s) :
    Ends M s0 (execAbortsPosted d accs s) := by
  unfold execAbortsPosted
  try dsimp only
  with_reducible repeat' first
    | intro _ | assumption | apply Made.ite | apply Ends.ite | apply Ends.done | apply postAborts_made (mask_sub hM rfl) | apply hoAborted_made (mask_sub hM rfl) | apply bstAborted_made (mask_sub hM rfl) | apply bankAct_made (mask_sub hM rfl) | apply tryReopen_made (mask_sub hM rfl) | apply inService_made (mask_sub hM rfl) | apply warmCheck_made (mask_sub hM rfl) | split


end Sys2Proof.Machine
end

