-- ==== Sys2Proof/Laws/MadePower.lean ====
section
/-! SUPPORT. Power.lean, operation by operation: the fields it leaves as they are, and that it keeps the stores canonical. -/
set_option linter.all false
namespace Sys2Proof.Machine
set_option Elab.async false

theorem bankOff_made {M : Nat} (hM : M ||| 16396 = M) {s0 : State} (s : State) (n : Nat) (h : Made M s0 s) :
    Made M s0 (bankOff s n) := by
  unfold bankOff
  try dsimp only
  with_reducible repeat' first
    | intro _ | assumption | apply loseBank_made (mask_sub hM rfl) | apply setBank_made (mask_sub hM rfl)


theorem flashCut_made {M : Nat} (hM : M ||| 402653200 = M) {s0 : State} (s : State) (h : Made M s0 s) :
    Made M s0 (flashCut s) := by
  unfold flashCut
  try dsimp only
  with_reducible repeat' first
    | intro _ | assumption | apply Made.ite | apply flashLose_made (mask_sub hM rfl) | split


theorem nvCut_made {M : Nat} (hM : M ||| 68719607824 = M) {s0 : State} (s : State) (h : Made M s0 s) :
    Made M s0 (nvCut s) := by
  unfold nvCut
  try dsimp only
  with_reducible repeat' first
    | intro _ | refine Made.of_pair (by assumption) ?_ | assumption | apply Made.ite | apply programLines_made (mask_sub hM rfl) | apply drawn_made (mask_sub hM rfl) | apply nvPutBytes_made (mask_sub hM rfl) | apply Made.ite_fst | apply Made.foldl | split | apply Made.set_nvIncomplete (mask_sub hM rfl)


theorem cutStores_made {M : Nat} (hM : M ||| 19342813113904504661737490 = M) {s0 : State} (s : State) (h : Made M s0 s) :
    Made M s0 (cutStores s) := by
  unfold cutStores
  try dsimp only
  with_reducible repeat' first
    | intro _ | assumption | apply flashCut_made (mask_sub hM rfl) | apply nvCut_made (mask_sub hM rfl) | apply lcyCut_made (mask_sub hM rfl)


theorem dropAll_made {M : Nat} (hM : M ||| 52551171518144 = M) {s0 : State} (s : State) (h : Made M s0 s) :
    Made M s0 (dropAll s) :=
  ⟨h.pending,
   h.regs,
   h.mem,
   h.memFill,
   h.free,
   h.out,
   mask_off hM 6 rfl,
   mask_off hM 7 rfl,
   h.nextTag,
   mask_off hM 9 rfl,
   mask_off hM 10 rfl,
   mask_off hM 11 rfl,
   h.pwr,
   mask_off hM 13 rfl,
   h.banks,
   h.log,
   mask_off hM 16 rfl,
   h.nv,
   h.planeMem,
   mask_off hM 19 rfl,
   h.clk,
   mask_off hM 21 rfl,
   mask_off hM 22 rfl,
   mask_off hM 23 rfl,
   mask_off hM 24 rfl,
   h.planeFill,
   mask_off hM 26 rfl,
   h.flash,
   h.flashFill,
   h.keys,
   h.prevEpoch,
   mask_off hM 31 rfl,
   mask_off hM 32 rfl,
   mask_off hM 33 rfl,
   h.scrUnbind,
   mask_off hM 35 rfl,
   h.nvIncomplete,
   h.nvFill,
   mask_off hM 38 rfl,
   mask_off hM 39 rfl,
   mask_off hM 40 rfl,
   mask_off hM 41 rfl,
   mask_off hM 42 rfl,
   mask_off hM 43 rfl,
   h.tagMem,
   mask_off hM 45 rfl,
   h.lcy,
   h.tap,
   h.regDue,
   h.regPart,
   h.blk,
   h.wf⟩


theorem unitReset_made {M : Nat} (hM : M ||| 79228162495817716508872355538 = M) {s0 : State} (s : State) (p : RegClass → Bool) (h : Made M s0 s) :
    Made M s0 (unitReset s p) := by
  unfold unitReset
  try dsimp only
  repeat' first
    | with_reducible first | intro _ | assumption | apply cutStores_made (mask_sub hM rfl) | apply resetRegs_made (mask_sub hM rfl) | apply dropAll_made (mask_sub hM rfl) | apply setf_made (mask_sub hM rfl) | apply showBank_made (mask_sub hM rfl) | apply Made.foldl
    | exact blk_at hM rfl rfl


theorem porAll_made {M : Nat} (hM : M ||| 79228162495817857246360760030 = M) {s0 : State} (s : State) (h : Made M s0 s) :
    Made M s0 (porAll s) := by
  unfold porAll
  try dsimp only
  with_reducible repeat' first
    | intro _ | assumption | apply bankOff_made (mask_sub hM rfl) | apply unitReset_made (mask_sub hM rfl) | apply Made.foldl | apply Made.set_log_tap (mask_sub hM rfl)


theorem holdPwr_made {M : Nat} (hM : M ||| 4096 = M) {s0 : State} (s : State) (due : Option Nat) (byp : Option Nat) (h : Made M s0 s) :
    Made M s0 (holdPwr s due byp) := by
  unfold holdPwr
  try dsimp only
  with_reducible repeat' first
    | intro _ | assumption | apply setPwr_made (mask_sub hM rfl)


theorem ioOff_made {M : Nat} (hM : M ||| 140737488355360 = M) {s0 : State} (s : State) (h : Made M s0 s) :
    Made M s0 (ioOff s) := by
  unfold ioOff
  try dsimp only
  with_reducible repeat' first
    | intro _ | assumption | apply userIo_made (mask_sub hM rfl)


theorem execBrownOutVccowl_made {M : Nat} (hM : M ||| 79228162495817857246360764158 = M) {s0 : State} (s : State) (h : Made M s0 s) :
    Ends M s0 (execBrownOutVccowl s) := by
  unfold execBrownOutVccowl
  try dsimp only
  with_reducible repeat' first
    | intro _ | assumption | apply Made.ite | apply Ends.ite | apply Ends.done | apply porAll_made (mask_sub hM rfl) | apply holdPwr_made (mask_sub hM rfl) | apply ioOff_made (mask_sub hM rfl) | apply setPwr_made (mask_sub hM rfl) | split


theorem leaveSleep_made {M : Nat} (hM : M ||| 184467440737095520290 = M) {s0 : State} (s : State) (h : Made M s0 s) :
    Made M s0 (leaveSleep s) := by
  unfold leaveSleep
  try dsimp only
  repeat' first
    | with_reducible first | intro _ | assumption | apply Made.ite | apply setPwr_made (mask_sub hM rfl) | apply emit_made (mask_sub hM rfl) | apply setf_made (mask_sub hM rfl) | apply enterS1_made (mask_sub hM rfl) | split
    | exact blk_at hM rfl rfl


theorem railFalls_made {M : Nat} (hM : M ||| 4096 = M) {s0 : State} (s : State) (b : Nat) (h : Made M s0 s) :
    Made M s0 (railFalls s b) := by
  unfold railFalls
  try dsimp only
  with_reducible repeat' first
    | intro _ | assumption | apply Made.ite | apply setPwr_made (mask_sub hM rfl) | split


theorem railOffAsleep_made {M : Nat} (hM : M ||| 1217485108864830427150 = M) {s0 : State} (s : State) (b : Nat) (h : Made M s0 s) :
    Made M s0 (railOffAsleep s b) := by
  unfold railOffAsleep
  try dsimp only
  repeat' first
    | with_reducible first | intro _ | assumption | apply Made.ite | apply railFalls_made (mask_sub hM rfl) | apply raise_made (mask_sub hM rfl) | apply showBank_made (mask_sub hM rfl) | apply bankOff_made (mask_sub hM rfl) | apply Made.foldl | split
    | exact blk_at hM rfl rfl


theorem bankCut_made {M : Nat} (hM : M ||| 1254378597012249567262 = M) {s0 : State} (s : State) (n : Nat) (h : Made M s0 s) :
    Made M s0 (bankCut s n) := by
  unfold bankCut
  try dsimp only
  with_reducible repeat' first
    | intro _ | assumption | apply Made.ite | apply marchAbort_made (mask_sub hM rfl) | apply stepDone_made (mask_sub hM rfl) | apply setBank_made (mask_sub hM rfl) | split


theorem bypLow_made {M : Nat} (hM : M ||| 32 = M) {s0 : State} (s : State) (h : Made M s0 s) :
    Made M s0 (bypLow s) := by
  unfold bypLow
  try dsimp only
  with_reducible repeat' first
    | intro _ | assumption | apply emit_made (mask_sub hM rfl)


theorem execRstNFall_made {M : Nat} (hM : M ||| 79228162495817857246360764158 = M) {s0 : State} (torn : List (Fin 524288)) (s : State) (h : Made M s0 s) :
    Ends M s0 (execRstNFall torn s) := by
  unfold execRstNFall
  try dsimp only
  with_reducible repeat' first
    | intro _ | assumption | apply Made.ite | apply Ends.ite | apply Ends.done | apply setPwr_made (mask_sub hM rfl) | apply bankCut_made (mask_sub hM rfl) | apply drawn_made (mask_sub hM rfl) | apply loseBytes_made (mask_sub hM rfl) | apply noteCause_made (mask_sub hM rfl) | apply unitReset_made (mask_sub hM rfl) | apply holdPwr_made (mask_sub hM rfl) | apply bypLow_made (mask_sub hM rfl) | apply driveGrant_made (mask_sub hM rfl) | apply ioOff_made (mask_sub hM rfl) | apply Made.foldl | split


theorem wakeFires_made {M : Nat} (hM : M ||| 66297598201736762232866 = M) {s0 : State} (s : State) (k : Nat) (h : Made M s0 s) :
    Made M s0 (wakeFires s k) := by
  unfold wakeFires
  try dsimp only
  repeat' first
    | with_reducible first | intro _ | assumption | apply Made.ite | apply wr_made (mask_sub hM rfl) | apply leaveSleep_made (mask_sub hM rfl) | apply setPwr_made (mask_sub hM rfl) | apply raise_made (mask_sub hM rfl) | apply nakWake_made (mask_sub hM rfl) | split
    | exact blk_at hM rfl rfl


theorem execWakeTimerExpiry_made {M : Nat} (hM : M ||| 66297598201736762232866 = M) {s0 : State} (s : State) (h : Made M s0 s) :
    Ends M s0 (execWakeTimerExpiry s) := by
  unfold execWakeTimerExpiry
  try dsimp only
  with_reducible repeat' first
    | intro _ | assumption | apply Made.ite | apply Ends.ite | apply Ends.done | apply wakeFires_made (mask_sub hM rfl) | split


theorem execIdleExitDone_made {M : Nat} (hM : M ||| 203962660850650473199892722 = M) {s0 : State} (s : State) (h : Made M s0 s) :
    Ends M s0 (execIdleExitDone s) := by
  unfold execIdleExitDone
  try dsimp only
  repeat' first
    | with_reducible first | intro _ | assumption | apply Made.ite | apply Ends.ite | apply Ends.done | apply setf_made (mask_sub hM rfl) | apply setPwr_made (mask_sub hM rfl) | apply inService_made (mask_sub hM rfl) | apply releaseHolder_made (mask_sub hM rfl) | apply trimBegin_made (mask_sub hM rfl) | apply beginIdle_made (mask_sub hM rfl) | split
    | exact blk_at hM rfl rfl


theorem execSleepEntry_made {M : Nat} (hM : M ||| 1291272085159668658210 = M) {s0 : State} (s : State) (h : Made M s0 s) :
    Ends M s0 (execSleepEntry s) := by
  unfold execSleepEntry
  try dsimp only
  with_reducible repeat' first
    | intro _ | assumption | apply Made.ite | apply Ends.ite | apply Ends.done | apply closeFence_made (mask_sub hM rfl) | apply driveGrant_made (mask_sub hM rfl) | apply setPwr_made (mask_sub hM rfl) | apply Made.foldl | split


theorem execPwrCtlIdle_made {M : Nat} (hM : M ||| 1291272085159668658178 = M) {s0 : State} (s : State) (h : Made M s0 s) :
    Ends M s0 (execPwrCtlIdle s) := by
  unfold execPwrCtlIdle
  try dsimp only
  repeat' first
    | with_reducible first | intro _ | assumption | apply Made.ite | apply Ends.ite | apply Ends.done | apply setf_made (mask_sub hM rfl) | apply setPwr_made (mask_sub hM rfl) | apply beginIdle_made (mask_sub hM rfl) | split
    | exact blk_at hM rfl rfl


theorem serDrops_made {M : Nat} (hM : M ||| 209219706210348713577151718 = M) {s0 : State} (s : State) (h : Made M s0 s) :
    Made M s0 (serDrops s) := by
  unfold serDrops
  try dsimp only
  with_reducible repeat' first
    | intro _ | assumption | apply Made.ite | apply requestReset_made (mask_sub hM rfl) | apply linkDrop_made (mask_sub hM rfl) | apply portDown_made (mask_sub hM rfl) | apply Made.foldl | split


theorem execWakeToneDone_made {M : Nat} (hM : M ||| 4128 = M) {s0 : State} (s : State) (h : Made M s0 s) :
    Ends M s0 (execWakeToneDone s) := by
  unfold execWakeToneDone
  try dsimp only
  with_reducible repeat' first
    | intro _ | assumption | apply Made.ite | apply Ends.ite | apply Ends.done | apply emit_made (mask_sub hM rfl) | apply setPwr_made (mask_sub hM rfl) | split


theorem execSleepEntryDone_made {M : Nat} (hM : M ||| 79228162495817857246360764158 = M) {s0 : State} (s : State) (h : Made M s0 s) :
    Ends M s0 (execSleepEntryDone s) := by
  unfold execSleepEntryDone
  try dsimp only
  with_reducible repeat' first
    | intro _ | assumption | apply Made.ite | apply Ends.ite | apply Ends.done | apply bankCut_made (mask_sub hM rfl) | apply setBank_made (mask_sub hM rfl) | apply bankOff_made (mask_sub hM rfl) | apply ioOff_made (mask_sub hM rfl) | apply unitReset_made (mask_sub hM rfl) | apply setPwr_made (mask_sub hM rfl) | apply leaveSleep_made (mask_sub hM rfl) | apply Made.foldl | split


theorem powerGood_made {M : Nat} (hM : M ||| 4096 = M) {s0 : State} (s : State) (h : Made M s0 s) :
    Made M s0 (powerGood s) := by
  unfold powerGood
  try dsimp only
  with_reducible repeat' first
    | intro _ | assumption | apply Made.ite | apply setPwr_made (mask_sub hM rfl) | split


theorem execPowerGoodEvent_made {M : Nat} (hM : M ||| 4096 = M) {s0 : State} (s : State) (h : Made M s0 s) :
    Ends M s0 (execPowerGoodEvent s) := by
  unfold execPowerGoodEvent
  try dsimp only
  with_reducible repeat' first
    | intro _ | assumption | apply Ends.done | apply powerGood_made (mask_sub hM rfl)


theorem execIdleEntryDone_made {M : Nat} (hM : M ||| 203131671923610308736759970 = M) {s0 : State} (s : State) (h : Made M s0 s) :
    Ends M s0 (execIdleEntryDone s) := by
  unfold execIdleEntryDone
  try dsimp only
  repeat' first
    | with_reducible first | intro _ | assumption | apply Made.ite | apply Ends.ite | apply Ends.done | apply regionOff_made (mask_sub hM rfl) | apply setf_made (mask_sub hM rfl) | apply setFab_made (mask_sub hM rfl) | apply setPwr_made (mask_sub hM rfl) | apply idleNext_made (mask_sub hM rfl) | apply ioOff_made (mask_sub hM rfl) | apply Made.foldl | split
    | exact blk_at hM rfl rfl


theorem execRstNRise_made {M : Nat} (hM : M ||| 4096 = M) {s0 : State} (s : State) (h : Made M s0 s) :
    Ends M s0 (execRstNRise s) := by
  unfold execRstNRise
  try dsimp only
  with_reducible repeat' first
    | intro _ | assumption | apply Ends.done | apply powerGood_made (mask_sub hM rfl) | apply setPwr_made (mask_sub hM rfl)


theorem execCanWuf_made {M : Nat} (hM : M ||| 368529053105394055909410 = M) {s0 : State} (n : Fin 16) (id : Fin 536870912) (ide : Bool) (dlc : Fin 16) (data : List Byte) (s : State) (h : Made M s0 s) :
    Ends M s0 (execCanWuf n id ide dlc data s) := by
  unfold execCanWuf
  try dsimp only
  repeat' first
    | with_reducible first | intro _ | assumption | apply Made.ite | apply Ends.ite | apply Ends.done | apply setf_made (mask_sub hM rfl) | apply wakeFires_made (mask_sub hM rfl) | apply raise_made (mask_sub hM rfl) | split
    | with_reducible exact blk_at hM (F.CAN_SWK_SRC_FEC_CNT_blk _) rfl | with_reducible exact blk_at hM (F.CAN_SWK_SRC_WUF_blk _) rfl


theorem execLinWakePulse_made {M : Nat} (hM : M ||| 66297598201736762232866 = M) {s0 : State} (m : Fin 16) (s : State) (h : Made M s0 s) :
    Ends M s0 (execLinWakePulse m s) := by
  unfold execLinWakePulse
  try dsimp only
  with_reducible repeat' first
    | intro _ | assumption | apply Made.ite | apply Ends.ite | apply Ends.done | apply wakeFires_made (mask_sub hM rfl) | split


theorem execBrownOutSer_made {M : Nat} (hM : M ||| 209219706210348713577151718 = M) {s0 : State} (sera : Bool) (s : State) (h : Made M s0 s) :
    Ends M s0 (execBrownOutSer sera s) := by
  unfold execBrownOutSer
  try dsimp only
  repeat' first
    | with_reducible first | intro _ | assumption | apply Made.ite | apply Ends.ite | apply Ends.done | apply setPwr_made (mask_sub hM rfl) | apply railFalls_made (mask_sub hM rfl) | apply alarmUpdate_made (mask_sub hM rfl) | apply raise_made (mask_sub hM rfl) | apply serDrops_made (mask_sub hM rfl) | split
    | exact blk_at hM rfl rfl


theorem execChainWakeDetect_made {M : Nat} (hM : M ||| 66297598201736762232866 = M) {s0 : State} (s : State) (h : Made M s0 s) :
    Ends M s0 (execChainWakeDetect s) := by
  unfold execChainWakeDetect
  try dsimp only
  with_reducible repeat' first
    | intro _ | assumption | apply Ends.done | apply wakeFires_made (mask_sub hM rfl)


theorem execBrownOutVcc_made {M : Nat} (hM : M ||| 79228162495817857246360764158 = M) {s0 : State} (aux : Bool) (s : State) (h : Made M s0 s) :
    Ends M s0 (execBrownOutVcc aux s) := by
  unfold execBrownOutVcc
  try dsimp only
  repeat' first
    | with_reducible first | intro _ | assumption | apply Made.ite | apply Ends.ite | apply Ends.done | apply setPwr_made (mask_sub hM rfl) | apply railOffAsleep_made (mask_sub hM rfl) | apply raise_made (mask_sub hM rfl) | apply railFalls_made (mask_sub hM rfl) | apply bankOff_made (mask_sub hM rfl) | apply noteCause_made (mask_sub hM rfl) | apply unitReset_made (mask_sub hM rfl) | apply holdPwr_made (mask_sub hM rfl) | apply driveGrant_made (mask_sub hM rfl) | apply ioOff_made (mask_sub hM rfl) | apply Made.foldl | split | apply Made.set_log (mask_sub hM rfl)
    | exact blk_at hM rfl rfl


theorem execBrownOutIo_made {M : Nat} (hM : M ||| 9702157279288182098106402 = M) {s0 : State} (n : Fin 8) (s : State) (h : Made M s0 s) :
    Ends M s0 (execBrownOutIo n s) := by
  unfold execBrownOutIo
  try dsimp only
  repeat' first
    | with_reducible first | intro _ | assumption | apply Made.ite | apply Ends.ite | apply Ends.done | apply setPwr_made (mask_sub hM rfl) | apply railFalls_made (mask_sub hM rfl) | apply alarmUpdate_made (mask_sub hM rfl) | apply raise_made (mask_sub hM rfl) | split
    | exact blk_at hM rfl rfl


theorem execFecWake_made {M : Nat} (hM : M ||| 368529053105394055909410 = M) {s0 : State} (n : Fin 16) (bad : Bool) (s : State) (h : Made M s0 s) :
    Ends M s0 (execFecWake n bad s) := by
  unfold execFecWake
  try dsimp only
  repeat' first
    | with_reducible first | intro _ | assumption | apply Made.ite | apply Ends.ite | apply Ends.done | apply setf_made (mask_sub hM rfl) | apply wakeFires_made (mask_sub hM rfl) | apply raise_made (mask_sub hM rfl) | split
    | with_reducible exact blk_at hM (F.CAN_SWK_SRC_FEC_blk _) rfl | with_reducible exact blk_at hM (F.CAN_SWK_SRC_FEC_CNT_blk _) rfl


theorem execWakePerst_made {M : Nat} (hM : M ||| 68658781443171584839714 = M) {s0 : State} (s : State) (h : Made M s0 s) :
    Ends M s0 (execWakePerst s) := by
  unfold execWakePerst
  try dsimp only
  repeat' first
    | with_reducible first | intro _ | assumption | apply Ends.done | apply wakeFires_made (mask_sub hM rfl) | apply setf_made (mask_sub hM rfl)
    | exact blk_at hM rfl rfl


theorem execPowerOnReset_made {M : Nat} (hM : M ||| 79228162495817857246360764158 = M) {s0 : State} (s : State) (h : Made M s0 s) :
    Ends M s0 (execPowerOnReset s) := by
  unfold execPowerOnReset
  try dsimp only
  with_reducible repeat' first
    | intro _ | assumption | apply Ends.done | apply porAll_made (mask_sub hM rfl) | apply setPwr_made (mask_sub hM rfl) | apply holdPwr_made (mask_sub hM rfl) | apply bypLow_made (mask_sub hM rfl) | apply driveGrant_made (mask_sub hM rfl) | apply ioOff_made (mask_sub hM rfl)


theorem execRailReturn_made {M : Nat} (hM : M ||| 4128 = M) {s0 : State} (r : Rail) (s : State) (h : Made M s0 s) :
    Ends M s0 (execRailReturn r s) := by
  unfold execRailReturn
  try dsimp only
  with_reducible repeat' first
    | intro _ | assumption | apply Made.ite | apply Ends.ite | apply Ends.done | apply setPwr_made (mask_sub hM rfl) | apply sendTrain_made (mask_sub hM rfl) | apply powerGood_made (mask_sub hM rfl) | apply Made.foldl | split


theorem execWakeInPin_made {M : Nat} (hM : M ||| 66297598201736762232866 = M) {s0 : State} (s : State) (h : Made M s0 s) :
    Ends M s0 (execWakeInPin s) := by
  unfold execWakeInPin
  try dsimp only
  with_reducible repeat' first
    | intro _ | assumption | apply Ends.done | apply wakeFires_made (mask_sub hM rfl)


theorem execPwrCtlRun_made {M : Nat} (hM : M ||| 203131671923469571248404642 = M) {s0 : State} (s : State) (h : Made M s0 s) :
    Ends M s0 (execPwrCtlRun s) := by
  unfold execPwrCtlRun
  try dsimp only
  repeat' first
    | with_reducible first | intro _ | assumption | apply Made.ite | apply Ends.ite | apply Ends.done | apply setf_made (mask_sub hM rfl) | apply setPwr_made (mask_sub hM rfl) | apply beginRun_made (mask_sub hM rfl) | split
    | exact blk_at hM rfl rfl


end Sys2Proof.Machine
end

