-- ==== Sys2Proof/Laws/MadeMonitor.lean ====
section
/-! SUPPORT. Monitor.lean, operation by operation: the fields it leaves as they are, and that it keeps the stores canonical. -/
set_option linter.all false
namespace Sys2Proof.Machine
set_option Elab.async false

theorem scanChannel_made {M : Nat} (hM : M ||| 77371252455336267181195266 = M) {s0 : State} (s : State) (c : Nat) (v : Nat) (h : Made M s0 s) :
    Made M s0 (scanChannel s c v) := by
  unfold scanChannel
  try dsimp only
  repeat' first
    | with_reducible first | intro _ | assumption | apply Made.ite | apply setf_made (mask_sub hM rfl) | split
    | with_reducible exact blk_at hM (F.TLM_CH_MAX_MAX_blk _) rfl | with_reducible exact blk_at hM (F.TLM_CH_NOW_MIN_blk _) rfl | with_reducible exact blk_at hM (F.TLM_CH_NOW_NOW_blk _) rfl


theorem setTlm_made {M : Nat} (hM : M ||| 8589934592 = M) {s0 : State} (s : State) (t : Tlm) (h : Made M s0 s) :
    Made M s0 (setTlm s t) := by
  unfold setTlm
  try dsimp only
  with_reducible repeat' first
    | intro _ | assumption | apply Made.set_tlm (mask_sub hM rfl)


theorem paceMin_made {M : Nat} (hM : M ||| 77371252455336267181195266 = M) {s0 : State} (s : State) (h : Made M s0 s) :
    Made M s0 (paceMin s) := by
  unfold paceMin
  try dsimp only
  repeat' first
    | with_reducible first | intro _ | assumption | apply Made.ite | apply wr_made (mask_sub hM rfl) | apply Made.foldl | split
    | exact blk_at hM rfl rfl


theorem execTlmScan_made {M : Nat} (hM : M ||| 87074664113221470118787106 = M) {s0 : State} (samples : List Nat) (busy : List Nat) (s : State) (h : Made M s0 s) :
    Ends M s0 (execTlmScan samples busy s) := by
  unfold execTlmScan
  try dsimp only
  repeat' first
    | with_reducible first | intro _ | assumption | apply Made.ite | apply Ends.ite | apply Ends.done | apply scanChannel_made (mask_sub hM rfl) | apply setTlm_made (mask_sub hM rfl) | apply setf_made (mask_sub hM rfl) | apply kitIrq_made (mask_sub hM rfl) | apply paceMin_made (mask_sub hM rfl) | apply wr_made (mask_sub hM rfl) | apply raise_made (mask_sub hM rfl) | apply alarmUpdate_made (mask_sub hM rfl) | apply nextOf_made (mask_sub hM rfl) | apply execPwrCtlIdle_made (mask_sub hM rfl) | apply Made.foldl | split
    | with_reducible exact blk_at hM (R.TLM_ACT_BUSY_blk _) rfl | with_reducible exact blk_at hM (R.TLM_ACT_OPS_blk _) rfl | exact blk_at hM rfl rfl


theorem logNext_made {M : Nat} (hM : M ||| 77371252455336275771129858 = M) {s0 : State} (s : State) (h : Made M s0 s) :
    Made M s0 (logNext s) := by
  unfold logNext
  try dsimp only
  repeat' first
    | with_reducible first | intro _ | assumption | apply setTlm_made (mask_sub hM rfl) | apply setf_made (mask_sub hM rfl)
    | exact blk_at hM rfl rfl


theorem alarmForce_made {M : Nat} (hM : M ||| 9702120385800034678999074 = M) {s0 : State} (s : State) (on : Bool) (h : Made M s0 s) :
    Made M s0 (alarmForce s on) := by
  unfold alarmForce
  try dsimp only
  repeat' first
    | with_reducible first | intro _ | assumption | apply alarmUpdate_made (mask_sub hM rfl) | apply setf_made (mask_sub hM rfl)
    | exact blk_at hM rfl rfl


theorem execTlmLogBeat_made {M : Nat} (hM : M ||| 77371252455336275771129862 = M) {s0 : State} (s : State) (h : Made M s0 s) :
    Ends M s0 (execTlmLogBeat s) := by
  unfold execTlmLogBeat
  try dsimp only
  with_reducible repeat' first
    | intro _ | assumption | apply Made.ite | apply Ends.ite | apply Ends.done | apply putBytes_made (mask_sub hM rfl) | apply logNext_made (mask_sub hM rfl) | apply setTlm_made (mask_sub hM rfl) | split


theorem execTlmLogDue_made {M : Nat} (hM : M ||| 77371252455336275771129858 = M) {s0 : State} (s : State) (h : Made M s0 s) :
    Ends M s0 (execTlmLogDue s) := by
  unfold execTlmLogDue
  try dsimp only
  repeat' first
    | with_reducible first | intro _ | assumption | apply Made.ite | apply Ends.ite | apply Ends.done | apply satAdd_made (mask_sub hM rfl) | apply logNext_made (mask_sub hM rfl) | apply setTlm_made (mask_sub hM rfl) | split
    | exact blk_at hM rfl rfl


theorem execAlarmTest_made {M : Nat} (hM : M ||| 9702120385800034678999074 = M) {s0 : State} (on : Bool) (s : State) (h : Made M s0 s) :
    Ends M s0 (execAlarmTest on s) := by
  unfold execAlarmTest
  try dsimp only
  with_reducible repeat' first
    | intro _ | assumption | apply Ends.done | apply alarmForce_made (mask_sub hM rfl)


end Sys2Proof.Machine
end

