-- ==== Sys2Proof/Laws/MadeRegWrite.lean ====
section
/-! SUPPORT. RegWrite.lean, operation by operation: the fields it leaves as they are, and that it keeps the stores canonical. -/
set_option linter.all false
namespace Sys2Proof.Machine
set_option Elab.async false

theorem mbxWord_made {M : Nat} (hM : M ||| 79228162495817593519834398722 = M) {s0 : State} (s : State) (a : Nat) (v : W32) (mine : Bool) (full : Fld) (drops : Fld) (h : Made M s0 s) :
    Made M s0 (mbxWord s a v mine full drops) := by
  unfold mbxWord
  try dsimp only
  repeat' first
    | with_reducible first | intro _ | assumption | apply Made.ite | apply satAdd_made (mask_sub hM rfl) | apply wr_made (mask_sub hM rfl) | split
    | exact all_bit hM _


theorem kitStore_made {M : Nat} (hM : M ||| 79228162495817593799007275042 = M) {s0 : State} (s : State) (m : Master) (a : Nat) (v : W32) (h : Made M s0 s) :
    Made M s0 (kitStore s m a v) := by
  unfold kitStore
  try dsimp only
  repeat' first
    | with_reducible first | intro _ | assumption | apply Made.ite | apply Ends.ite | apply Ends.done | apply mbxWord_made (mask_sub hM rfl) | apply setf_made (mask_sub hM rfl) | apply nextOf_made (mask_sub hM rfl) | apply execWdtEnable_made (mask_sub hM rfl) | apply execWdtService_made (mask_sub hM rfl) | apply plainWrite_made (mask_sub hM rfl) | apply execFwCheckStart_made (mask_sub hM rfl) | apply execKitMsip_made (mask_sub hM rfl) | apply holdLow_made (mask_sub hM rfl) | apply wr_made (mask_sub hM rfl) | apply dropLow_made (mask_sub hM rfl) | apply execMbxH2kSend_made (mask_sub hM rfl) | apply execMbxH2kDone_made (mask_sub hM rfl) | apply execMbxK2hSend_made (mask_sub hM rfl) | apply execMbxK2hDone_made (mask_sub hM rfl) | split
    | exact all_bit hM _


theorem sfqStore_made {M : Nat} (hM : M ||| 79228162495817594894224459874 = M) {s0 : State} (s : State) (a : Nat) (v : W32) (h : Made M s0 s) :
    Made M s0 (sfqStore s a v) := by
  unfold sfqStore
  try dsimp only
  repeat' first
    | with_reducible first | intro _ | assumption | apply Made.ite | apply harRelease_made (mask_sub hM rfl) | apply sfqCfg_made (mask_sub hM rfl) | apply sfqWm_made (mask_sub hM rfl) | apply sfqXctx_made (mask_sub hM rfl) | apply sfqPin_made (mask_sub hM rfl) | apply wr_made (mask_sub hM rfl) | apply plainWrite_made (mask_sub hM rfl) | apply Made.foldl | split
    | exact all_bit hM _


theorem enuStore_made {M : Nat} (hM : M ||| 79228162495817594344468126950 = M) {s0 : State} (s : State) (m : Master) (a : Nat) (v : W32) (h : Made M s0 s) :
    Made M s0 (enuStore s m a v) := by
  unfold enuStore
  try dsimp only
  repeat' first
    | with_reducible first | intro _ | assumption | apply Made.ite | apply Ends.ite | apply Ends.done | apply nextOf_made (mask_sub hM rfl) | apply execEnuTabWrite_made (mask_sub hM rfl) | apply plainWrite_made (mask_sub hM rfl) | apply execEnuBypass_made (mask_sub hM rfl) | apply execWalk_made (mask_sub hM rfl) | apply execEnuRstCmd_made (mask_sub hM rfl) | apply execPropose_made (mask_sub hM rfl) | apply execCancel_made (mask_sub hM rfl) | apply wr_made (mask_sub hM rfl) | split
    | exact all_bit hM _


theorem denied_made {M : Nat} (hM : M ||| 37778931862957161709570 = M) {s0 : State} (s : State) (h : Made M s0 s) :
    Made M s0 (denied s) := by
  unfold denied
  try dsimp only
  repeat' first
    | with_reducible first | intro _ | assumption | apply satAdd_made (mask_sub hM rfl)
    | exact blk_at hM rfl rfl


theorem rstStore_made {M : Nat} (hM : M ||| 79228162495817777971517259006 = M) {s0 : State} (s : State) (m : Master) (a : Nat) (v : W32) (h : Made M s0 s) :
    Made M s0 (rstStore s m a v) := by
  unfold rstStore
  try dsimp only
  repeat' first
    | with_reducible first | intro _ | assumption | apply Made.ite | apply Ends.ite | apply Ends.done | apply nextOf_made (mask_sub hM rfl) | apply execRstUnit_made (mask_sub hM rfl) | apply execRstDomReq_made (mask_sub hM rfl) | apply execRstDomHold_made (mask_sub hM rfl) | apply wr_made (mask_sub hM rfl) | apply plainWrite_made (mask_sub hM rfl) | apply Made.foldl | split
    | exact all_bit hM _


theorem nvaStore_made {M : Nat} (hM : M ||| 79228162495817593966511130674 = M) {s0 : State} (s : State) (m : Master) (a : Nat) (v : W32) (h : Made M s0 s) :
    Made M s0 (nvaStore s m a v) := by
  unfold nvaStore
  try dsimp only
  repeat' first
    | with_reducible first | intro _ | assumption | apply Made.ite | apply Ends.ite | apply Ends.done | apply satAdd_made (mask_sub hM rfl) | apply wr_made (mask_sub hM rfl) | apply nextOf_made (mask_sub hM rfl) | apply execNvaWpSet_made (mask_sub hM rfl) | apply execNvaWpClr_made (mask_sub hM rfl) | apply execNvaKey_made (mask_sub hM rfl) | apply execNvaCmd_made (mask_sub hM rfl) | apply execEraseSector_made (mask_sub hM rfl) | apply execEraseBlock_made (mask_sub hM rfl) | apply execSuspend_made (mask_sub hM rfl) | apply execResume_made (mask_sub hM rfl) | apply execReadCounter_made (mask_sub hM rfl) | apply execProgramPage_made (mask_sub hM rfl) | apply nvTrig_made (mask_sub hM rfl) | apply nvDeny_made (mask_sub hM rfl) | apply execProgramLine_made (mask_sub hM rfl) | apply execNvaWpLock_made (mask_sub hM rfl) | apply plainWrite_made (mask_sub hM rfl) | split
    | exact all_bit hM _


theorem bnkStore_made {M : Nat} (hM : M ||| 79228162495817593519834415106 = M) {s0 : State} (s : State) (a : Nat) (v : W32) (h : Made M s0 s) :
    Made M s0 (bnkStore s a v) := by
  unfold bnkStore
  try dsimp only
  repeat' first
    | with_reducible first | intro _ | assumption | apply Made.ite | apply Ends.ite | apply Ends.done | apply wr_made (mask_sub hM rfl) | apply setBank_made (mask_sub hM rfl) | apply nextOf_made (mask_sub hM rfl) | apply execBnkFuseProg_made (mask_sub hM rfl) | apply plainWrite_made (mask_sub hM rfl) | apply Made.foldl | split
    | exact all_bit hM _


theorem hifStore_made {M : Nat} (hM : M ||| 79228162495817594344468119586 = M) {s0 : State} (s : State) (m : Master) (a : Nat) (v : W32) (h : Made M s0 s) :
    Made M s0 (hifStore s m a v) := by
  unfold hifStore
  try dsimp only
  repeat' first
    | with_reducible first | intro _ | assumption | apply Made.ite | apply Ends.ite | apply Ends.done | apply wr_made (mask_sub hM rfl) | apply nextOf_made (mask_sub hM rfl) | apply execMsixUnmask_made (mask_sub hM rfl) | apply execDoorbellSqPi_made (mask_sub hM rfl) | apply execDoorbellCqCi_made (mask_sub hM rfl) | apply setf_made (mask_sub hM rfl) | apply plainWrite_made (mask_sub hM rfl) | apply Made.foldl | split
    | exact all_bit hM _


theorem ctxWord_made {M : Nat} (hM : M ||| 4722366482869645213698 = M) {s0 : State} (s : State) (c : Nat) (a : Nat) (v : W32) (live : W32) (all : W32) (b_a : M.testBit (64 + blockOf a) = true) (h : Made M s0 s) :
    Made M s0 (ctxWord s c a v live all) := by
  unfold ctxWord
  try dsimp only
  repeat' first
    | with_reducible first | intro _ | assumption | apply Made.ite | apply wr_made (mask_sub hM rfl) | apply raise_made (mask_sub hM rfl) | split
    | assumption | with_reducible exact blk_at hM (F.CTX_EVT_CFG_LOCKED_blk _) rfl


theorem ctxCtl_made {M : Nat} (hM : M ||| 9706824305538830614662242 = M) {s0 : State} (s : State) (m : Master) (c : Nat) (v : W32) (h : Made M s0 s) :
    Made M s0 (ctxCtl s m c v) := by
  unfold ctxCtl
  try dsimp only
  repeat' first
    | with_reducible first | intro _ | assumption | apply Made.ite | apply Ends.ite | apply Ends.done | apply raise_made (mask_sub hM rfl) | apply ctxWord_made (mask_sub hM rfl) | apply nextOf_made (mask_sub hM rfl) | apply execContextEnable_made (mask_sub hM rfl) | apply execContextDisable_made (mask_sub hM rfl) | split
    | with_reducible exact blk_at hM (F.CTX_EVT_CFG_LOCKED_blk _) rfl | with_reducible exact blk_at hM (R.CTX_CTL_blk _) rfl


theorem ctxPair_made {M : Nat} (hM : M ||| 79228162495817593519834400770 = M) {s0 : State} (s : State) (m : Master) (c : Nat) (hi : Nat) (v : W32) (h : Made M s0 s) :
    Made M s0 (ctxPair s m c hi v) := by
  unfold ctxPair
  try dsimp only
  repeat' first
    | with_reducible first | intro _ | assumption | apply Made.ite | apply dropLow_made (mask_sub hM rfl) | apply wr_made (mask_sub hM rfl) | apply raise_made (mask_sub hM rfl) | split
    | exact all_bit hM _


theorem ctxStore_made {M : Nat} (hM : M ||| 79228162495817593794712308834 = M) {s0 : State} (s : State) (m : Master) (c : Nat) (o : Nat) (v : W32) (h : Made M s0 s) :
    Made M s0 (ctxStore s m c o v) := by
  unfold ctxStore
  try dsimp only
  repeat' first
    | with_reducible first | intro _ | assumption | apply Made.ite | apply raise_made (mask_sub hM rfl) | apply ctxCtl_made (mask_sub hM rfl) | apply holdLow_made (mask_sub hM rfl) | apply ctxPair_made (mask_sub hM rfl) | apply ctxWord_made (mask_sub hM rfl) | apply plainWrite_made (mask_sub hM rfl) | split
    | exact all_bit hM _


theorem chnStore_made {M : Nat} (hM : M ||| 79228162495817629545573514470 = M) {s0 : State} (s : State) (a : Nat) (v : W32) (h : Made M s0 s) :
    Made M s0 (chnStore s a v) := by
  unfold chnStore
  try dsimp only
  repeat' first
    | with_reducible first | intro _ | assumption | apply Made.ite | apply Ends.ite | apply Ends.done | apply nextOf_made (mask_sub hM rfl) | apply execChnPortEn_made (mask_sub hM rfl) | apply execChnRetrain_made (mask_sub hM rfl) | apply execChnPrbs_made (mask_sub hM rfl) | apply wr_made (mask_sub hM rfl) | apply plainWrite_made (mask_sub hM rfl) | apply Made.foldl | split
    | exact all_bit hM _


theorem harStore_made {M : Nat} (hM : M ||| 79228162495817594619346026530 = M) {s0 : State} (s : State) (a : Nat) (v : W32) (h : Made M s0 s) :
    Made M s0 (harStore s a v) := by
  unfold harStore
  try dsimp only
  repeat' first
    | with_reducible first | intro _ | assumption | apply Made.ite | apply writeLctl_made (mask_sub hM rfl) | apply plainWrite_made (mask_sub hM rfl) | apply harRelease_made (mask_sub hM rfl) | split | apply Made.set_har (mask_sub hM rfl)
    | exact all_bit hM _


theorem scrStore_made {M : Nat} (hM : M ||| 79228162495817593822159833250 = M) {s0 : State} (s : State) (v : W32) (h : Made M s0 s) :
    Made M s0 (scrStore s v) := by
  unfold scrStore
  try dsimp only
  repeat' first
    | with_reducible first | intro _ | assumption | apply Ends.done | apply nextOf_made (mask_sub hM rfl) | apply execLoadKey_made (mask_sub hM rfl) | apply execClearKey_made (mask_sub hM rfl) | apply execBind_made (mask_sub hM rfl) | apply execRekey_made (mask_sub hM rfl) | apply execErase_made (mask_sub hM rfl) | split
    | exact all_bit hM _


theorem blockStore_made {M : Nat} (hM : M ||| 79228162495817857333459680510 = M) {s0 : State} (s : State) (m : Master) (a : Nat) (v : W32) (h : Made M s0 s) :
    Made M s0 (blockStore s m a v) := by
  unfold blockStore
  try dsimp only
  repeat' first
    | with_reducible first | intro _ | assumption | apply Made.ite | apply Ends.ite | apply Ends.done | apply alarmForce_made (mask_sub hM rfl) | apply plainWrite_made (mask_sub hM rfl) | apply nextOf_made (mask_sub hM rfl) | apply execPwrCtlIdle_made (mask_sub hM rfl) | apply execPwrCtlRun_made (mask_sub hM rfl) | apply rstStore_made (mask_sub hM rfl) | apply execCfgBootSel_made (mask_sub hM rfl) | apply nvaStore_made (mask_sub hM rfl) | apply bnkStore_made (mask_sub hM rfl) | apply hifStore_made (mask_sub hM rfl) | apply ctxStore_made (mask_sub hM rfl) | apply execLdgCtlWrite_made (mask_sub hM rfl) | apply execLdgBufLend_made (mask_sub hM rfl) | apply execLdgRelease_made (mask_sub hM rfl) | apply chnStore_made (mask_sub hM rfl) | apply enuStore_made (mask_sub hM rfl) | apply harStore_made (mask_sub hM rfl) | apply sfqStore_made (mask_sub hM rfl) | apply vbuWrite_made (mask_sub hM rfl) | apply ospRxEn_made (mask_sub hM rfl) | apply wr_made (mask_sub hM rfl) | apply execTbuCtlWrite_made (mask_sub hM rfl) | apply tagLockCmd_made (mask_sub hM rfl) | apply scrStore_made (mask_sub hM rfl) | apply kitStore_made (mask_sub hM rfl) | apply lcyAdvance_made (mask_sub hM rfl) | apply setTlm_made (mask_sub hM rfl) | apply execFabPaceClr_made (mask_sub hM rfl) | apply execFabGateOvfClear_made (mask_sub hM rfl) | split
    | exact all_bit hM _


theorem regStore_made {M : Nat} (hM : M ||| 79228162495817857333459680510 = M) {s0 : State} (s : State) (m : Master) (a : Nat) (v : W32) (h : Made M s0 s) :
    Made M s0 (regStore s m a v) := by
  unfold regStore
  try dsimp only
  repeat' first
    | with_reducible first | intro _ | assumption | apply Made.ite | apply alarmUpdate_made (mask_sub hM rfl) | apply blockStore_made (mask_sub hM rfl) | split
    | exact all_bit hM _


theorem execRegWrite_made {M : Nat} (hM : M ||| 79228162495817857333459680510 = M) {s0 : State} (m : Master) (a : Fin 524288) (v : W32) (be : BitVec 4) (s : State) (h : Made M s0 s) :
    Ends M s0 (execRegWrite m a v be s) := by
  unfold execRegWrite
  try dsimp only
  repeat' first
    | with_reducible first | intro _ | assumption | apply Made.ite | apply Ends.ite | apply Ends.done | apply denied_made (mask_sub hM rfl) | apply regStore_made (mask_sub hM rfl) | split
    | exact all_bit hM _


theorem execWideLowWrite_made {M : Nat} (hM : M ||| 79228162495817857333459680510 = M) {s0 : State} (m : Master) (a : Fin 524288) (v : W32) (s : State) (h : Made M s0 s) :
    Ends M s0 (execWideLowWrite m a v s) := by
  unfold execWideLowWrite
  try dsimp only
  repeat' first
    | with_reducible first | intro _ | assumption | apply Made.ite | apply Ends.ite | apply Ends.done | apply denied_made (mask_sub hM rfl) | apply regStore_made (mask_sub hM rfl) | split
    | exact all_bit hM _


theorem regRead_made {M : Nat} (hM : M ||| 9928775530234803451856994 = M) {s0 : State} (s : State) (m : Master) (a : Nat) (h : Made M s0 s) :
    Made M s0 (regRead s m a).1 := by
  unfold regRead
  try dsimp only
  with_reducible repeat' first
    | intro _ | refine Made.of_pair (by assumption) ?_ | assumption | apply popW0_made (mask_sub hM rfl) | apply harRelease_made (mask_sub hM rfl) | apply setWide_made (mask_sub hM rfl) | apply Made.foldl | split


theorem execWideHighWrite_made {M : Nat} (hM : M ||| 79228162495817857333459680510 = M) {s0 : State} (m : Master) (a : Fin 524288) (v : W32) (s : State) (h : Made M s0 s) :
    Ends M s0 (execWideHighWrite m a v s) := by
  unfold execWideHighWrite
  try dsimp only
  repeat' first
    | with_reducible first | intro _ | assumption | apply Made.ite | apply Ends.ite | apply Ends.done | apply denied_made (mask_sub hM rfl) | apply regStore_made (mask_sub hM rfl) | split
    | exact all_bit hM _


theorem execWideLowRead_made {M : Nat} (hM : M ||| 9928775530234803451856994 = M) {s0 : State} (m : Master) (a : Fin 524288) (s : State) (h : Made M s0 s) :
    Ends M s0 (execWideLowRead m a s) := by
  unfold execWideLowRead
  try dsimp only
  with_reducible repeat' first
    | intro _ | refine Made.of_pair (by assumption) ?_ | assumption | apply Ends.done | apply regRead_made (mask_sub hM rfl) | apply emit_made (mask_sub hM rfl)


end Sys2Proof.Machine
end

