-- ==== Sys2Proof/Laws/MadeMoverReg.lean ====
section
/-! SUPPORT. MoverReg.lean, operation by operation: the fields it leaves as they are, and that it keeps the stores canonical. -/
set_option linter.all false
namespace Sys2Proof.Machine
set_option Elab.async false

theorem spaceStore_made {M : Nat} (hM : M ||| 79228162495817857333459680510 = M) {s0 : State} (s : State) (m : Master) (a : Nat) (v : W32) (h : Made M s0 s) :
    Made M s0 (spaceStore s m a v) := by
  unfold spaceStore
  try dsimp only
  repeat' first
    | with_reducible first | intro _ | assumption | apply Made.ite | apply regStore_made (mask_sub hM rfl) | apply winAccess_made (mask_sub hM rfl) | split
    | exact all_bit hM _


theorem moverStores_made {M : Nat} (hM : M ||| 79228162495818701758389812478 = M) {s0 : State} (s : State) (h : Made M s0 s) :
    Made M s0 (moverStores s) := by
  unfold moverStores
  try dsimp only
  repeat' first
    | with_reducible first | intro _ | assumption | apply spaceStore_made (mask_sub hM rfl) | apply Made.foldl | apply Made.set_regDue_regPart (mask_sub hM rfl)
    | exact all_bit hM _


theorem execHostReadCompletion_made {M : Nat} (hM : M ||| 79228162495818701758389812478 = M) {s0 : State} (id : Nat) (e : ReadEnd) (s : State) (h : Made M s0 s) :
    Ends M s0 (execHostReadCompletion id e s) := by
  unfold execHostReadCompletion
  try dsimp only
  with_reducible repeat' first
    | intro _ | assumption | apply Ends.done | apply moverStores_made (mask_sub hM rfl) | apply nextOf_made (mask_sub hM rfl) | apply takeHostReadCompletion_made (mask_sub hM rfl)


theorem execTagRead_made {M : Nat} (hM : M ||| 79228162495818701758389812478 = M) {s0 : State} (tag : Nat) (s : State) (h : Made M s0 s) :
    Ends M s0 (execTagRead tag s) := by
  unfold execTagRead
  try dsimp only
  with_reducible repeat' first
    | intro _ | assumption | apply Ends.done | apply moverStores_made (mask_sub hM rfl) | apply nextOf_made (mask_sub hM rfl) | apply takeTagRead_made (mask_sub hM rfl)


theorem execFifoPop_made {M : Nat} (hM : M ||| 79228162495818701758389812478 = M) {s0 : State} (n : Fin 64) (fabric : Bool) (p : Option PushIn) (s : State) (h : Made M s0 s) :
    Ends M s0 (execFifoPop n fabric p s) := by
  unfold execFifoPop
  try dsimp only
  with_reducible repeat' first
    | intro _ | assumption | apply Ends.done | apply moverStores_made (mask_sub hM rfl) | apply nextOf_made (mask_sub hM rfl) | apply takeFifoPop_made (mask_sub hM rfl)


theorem execFlashReadDone_made {M : Nat} (hM : M ||| 79228162495818701758389812478 = M) {s0 : State} (got : Option (List Byte)) (s : State) (h : Made M s0 s) :
    Ends M s0 (execFlashReadDone got s) := by
  unfold execFlashReadDone
  try dsimp only
  with_reducible repeat' first
    | intro _ | assumption | apply Ends.done | apply moverStores_made (mask_sub hM rfl) | apply nextOf_made (mask_sub hM rfl) | apply takeFlashReadDone_made (mask_sub hM rfl)


theorem execCopy_made {M : Nat} (hM : M ||| 79228162495818701758389812478 = M) {s0 : State} (tag : Nat) (s : State) (h : Made M s0 s) :
    Ends M s0 (execCopy tag s) := by
  unfold execCopy
  try dsimp only
  with_reducible repeat' first
    | intro _ | assumption | apply Ends.done | apply moverStores_made (mask_sub hM rfl) | apply nextOf_made (mask_sub hM rfl) | apply takeCopy_made (mask_sub hM rfl)


theorem execFill_made {M : Nat} (hM : M ||| 79228162495818701758389812478 = M) {s0 : State} (tag : Nat) (s : State) (h : Made M s0 s) :
    Ends M s0 (execFill tag s) := by
  unfold execFill
  try dsimp only
  with_reducible repeat' first
    | intro _ | assumption | apply Ends.done | apply moverStores_made (mask_sub hM rfl) | apply nextOf_made (mask_sub hM rfl) | apply takeFill_made (mask_sub hM rfl)


theorem execNvaRead_made {M : Nat} (hM : M ||| 79228162495818701758389812478 = M) {s0 : State} (tag : Nat) (corr : List Nat) (bad : Option Nat) (s : State) (h : Made M s0 s) :
    Ends M s0 (execNvaRead tag corr bad s) := by
  unfold execNvaRead
  try dsimp only
  with_reducible repeat' first
    | intro _ | assumption | apply Ends.done | apply moverStores_made (mask_sub hM rfl) | apply nextOf_made (mask_sub hM rfl) | apply takeNvaRead_made (mask_sub hM rfl)


end Sys2Proof.Machine
end

