-- ==== Sys2Proof/Laws/MadeHostBar.lean ====
section
/-! SUPPORT. HostBar.lean, operation by operation: the fields it leaves as they are, and that it keeps the stores canonical. -/
set_option linter.all false
namespace Sys2Proof.Machine
set_option Elab.async false

theorem winRead_made {M : Nat} (hM : M ||| 154742504910672534362390562 = M) {s0 : State} (s : State) (a : Nat) (ans : List W32) (h : Made M s0 s) :
    Made M s0 (winRead s a ans).1 := by
  unfold winRead
  try dsimp only
  repeat' first
    | with_reducible first | intro _ | assumption | apply Made.ite | apply satAdd_made (mask_sub hM rfl) | apply emit_made (mask_sub hM rfl) | apply winErr_made (mask_sub hM rfl) | apply Made.ite_fst | split
    | exact blk_at hM rfl rfl


theorem spaceRead_made {M : Nat} (hM : M ||| 164671280440907337814247522 = M) {s0 : State} (s : State) (m : Master) (a : Nat) (ans : List W32) (h : Made M s0 s) :
    Made M s0 (spaceRead s m a ans).1 := by
  unfold spaceRead
  try dsimp only
  with_reducible repeat' first
    | intro _ | refine Made.of_pair (by assumption) ?_ | assumption | apply Made.ite | apply regRead_made (mask_sub hM rfl) | apply winRead_made (mask_sub hM rfl) | apply Made.ite_fst | split


theorem spaceBytes_made {M : Nat} (hM : M ||| 164671280440907337814247522 = M) {s0 : State} (m : Master) (x1 : Nat) (x2 : State) (x3 : Nat) (x4 : Nat) (x5 : List W32) (h : Made M s0 x2) :
    Made M s0 (spaceBytes m x1 x2 x3 x4 x5).1 := by
  induction x1 generalizing m x2 x3 x4 x5 with
  | zero =>
    unfold spaceBytes
    try dsimp only
    with_reducible repeat' first
      | intro _ | refine Made.of_pair (by assumption) ?_ | assumption | apply Made.ite | apply spaceRead_made (mask_sub hM rfl) | apply Made.ite_fst | split
  | succ _ ih =>
    unfold spaceBytes
    try dsimp only
    with_reducible repeat' first
      | intro _ | refine Made.of_pair (by assumption) ?_ | assumption | apply ih | apply Made.ite | apply spaceRead_made (mask_sub hM rfl) | apply Made.ite_fst | split


theorem hostAccessRead_made {M : Nat} (hM : M ||| 164673051328338448290941042 = M) {s0 : State} (s : State) (a : Nat) (n : Nat) (ans : List W32) (answer : State → Option (List Byte) → State) (k_answer : ∀ t y1, Made M s0 t → Made M s0 (answer t y1)) (h : Made M s0 s) :
    Made M s0 (hostAccessRead s a n ans answer) := by
  unfold hostAccessRead
  try dsimp only
  with_reducible repeat' first
    | intro _ | refine Made.of_pair (by assumption) ?_ | assumption | apply k_answer | apply Made.ite | apply askSuspend_made (mask_sub hM rfl) | apply spaceBytes_made (mask_sub hM rfl) | apply noteErr_made (mask_sub hM rfl) | apply noteRead_made (mask_sub hM rfl) | apply Made.ite_fst | split


theorem spacePut_made {M : Nat} (hM : M ||| 79228162495818701758389812478 = M) {s0 : State} (m : Master) (x1 : Nat) (x2 : State) (x3 : Nat) (x4 : List Byte) (h : Made M s0 x2) :
    Made M s0 (spacePut m x1 x2 x3 x4).1 := by
  induction x1 generalizing m x2 x3 x4 with
  | zero =>
    unfold spacePut
    try dsimp only
    repeat' first
      | with_reducible first | intro _ | refine Made.of_pair (by assumption) ?_ | assumption | apply Made.ite | apply spaceStore_made (mask_sub hM rfl) | apply writeBytes_made (mask_sub hM rfl) | apply Made.ite_fst | split
      | exact all_bit hM _
  | succ _ ih =>
    unfold spacePut
    try dsimp only
    repeat' first
      | with_reducible first | intro _ | refine Made.of_pair (by assumption) ?_ | assumption | apply ih | apply Made.ite | apply spaceStore_made (mask_sub hM rfl) | apply writeBytes_made (mask_sub hM rfl) | apply Made.ite_fst | split
      | exact all_bit hM _


theorem hostAccessWrite_made {M : Nat} (hM : M ||| 79228162495818701758389812478 = M) {s0 : State} (s : State) (a : Nat) (bs : List Byte) (h : Made M s0 s) :
    Made M s0 (hostAccessWrite s a bs) := by
  unfold hostAccessWrite
  try dsimp only
  with_reducible repeat' first
    | intro _ | refine Made.of_pair (by assumption) ?_ | assumption | apply spacePut_made (mask_sub hM rfl) | apply noteErr_made (mask_sub hM rfl) | split


theorem execWinWr_made {M : Nat} (hM : M ||| 79228162495818701758389812478 = M) {s0 : State} (p : Fin 2) (m : Msg) (s : State) (h : Made M s0 s) :
    Ends M s0 (execWinWr p m s) := by
  unfold execWinWr
  try dsimp only
  with_reducible repeat' first
    | intro _ | assumption | apply Ends.done | apply onDst_made (mask_sub hM rfl) | apply hostAccessWrite_made (mask_sub hM rfl) | apply nakWake_made (mask_sub hM rfl)


theorem hostAnswer_made {M : Nat} (hM : M ||| 32 = M) {s0 : State} (s : State) (d : Option (List Byte)) (h : Made M s0 s) :
    Made M s0 (hostAnswer s d) := by
  unfold hostAnswer
  try dsimp only
  with_reducible repeat' first
    | intro _ | assumption | apply emit_made (mask_sub hM rfl) | split


theorem execHostBar4Write_made {M : Nat} (hM : M ||| 79228162495818701758389812478 = M) {s0 : State} (x0 : Fin 16777216) (data : List Byte) (s : State) (h : Made M s0 s) :
    Ends M s0 (execHostBar4Write x0 data s) := by
  unfold execHostBar4Write
  try dsimp only
  repeat' first
    | with_reducible first | intro _ | assumption | apply Made.ite | apply Ends.ite | apply Ends.done | apply denied_made (mask_sub hM rfl) | apply hostAccessWrite_made (mask_sub hM rfl) | apply satAdd_made (mask_sub hM rfl) | apply sendMsg_made (mask_sub hM rfl) | split
    | exact blk_at hM rfl rfl


theorem execHostBar4Read_made {M : Nat} (hM : M ||| 164710830260201405452650610 = M) {s0 : State} (x0 : Fin 16777216) (n : Fin 4097) (ans : List W32) (s : State) (h : Made M s0 s) :
    Ends M s0 (execHostBar4Read x0 n ans s) := by
  unfold execHostBar4Read
  try dsimp only
  repeat' first
    | with_reducible first | intro _ | assumption | apply Made.ite | apply Ends.ite | apply Ends.done | apply emit_made (mask_sub hM rfl) | apply hostAnswer_made (mask_sub hM rfl) | apply denied_made (mask_sub hM rfl) | apply hostAccessRead_made (mask_sub hM rfl) | apply satAdd_made (mask_sub hM rfl) | apply sendMsg_made (mask_sub hM rfl) | split | apply Made.set_hif (mask_sub hM rfl)
    | exact blk_at hM rfl rfl


theorem winCpl_made {M : Nat} (hM : M ||| 28334198897492749189154 = M) {s0 : State} (wtag : Nat) (s : State) (d : Option (List Byte)) (h : Made M s0 s) :
    Made M s0 (winCpl wtag s d) := by
  unfold winCpl
  try dsimp only
  with_reducible repeat' first
    | intro _ | assumption | apply sendMsg_made (mask_sub hM rfl)


theorem execWinRd_made {M : Nat} (hM : M ||| 164710830260201955208464498 = M) {s0 : State} (p : Fin 2) (m : Msg) (ans : List W32) (s : State) (h : Made M s0 s) :
    Ends M s0 (execWinRd p m ans s) := by
  unfold execWinRd
  try dsimp only
  with_reducible repeat' first
    | intro _ | assumption | apply Made.ite | apply Ends.ite | apply Ends.done | apply askSuspend_made (mask_sub hM rfl) | apply onDst_made (mask_sub hM rfl) | apply hostAccessRead_made (mask_sub hM rfl) | apply nakWake_made (mask_sub hM rfl) | apply winCpl_made (mask_sub hM rfl) | split


end Sys2Proof.Machine
end

