-- ==== Sys2Proof/Laws/MadeKiteIsa.lean ====
section
/-! SUPPORT. KiteIsa.lean, operation by operation: the fields it leaves as they are, and that it keeps the stores canonical. -/
set_option linter.all false
namespace Sys2Proof.Machine
set_option Elab.async false

theorem kstore_made {M : Nat} (hM : M ||| 79228162495818701758389812478 = M) {s0 : State} (s : State) (a : Nat) (n : Nat) (v : W32) (h : Made M s0 s) :
    Made M s0 (kstore s a n v).1 := by
  unfold kstore
  try dsimp only
  repeat' first
    | with_reducible first | intro _ | refine Made.of_pair (by assumption) ?_ | assumption | apply Made.ite | apply spaceStore_made (mask_sub hM rfl) | apply noteErr_made (mask_sub hM rfl) | apply writeBytes_made (mask_sub hM rfl) | apply Made.ite_fst | split
    | exact all_bit hM _


theorem kretire_made {M : Nat} (hM : M ||| 4294967296 = M) {s0 : State} (s : State) (pc : W32) (h : Made M s0 s) :
    Made M s0 (kretire s pc) := by
  unfold kretire
  try dsimp only
  with_reducible repeat' first
    | intro _ | assumption | apply setKite_made (mask_sub hM rfl)


theorem kset_made {M : Nat} (hM : M ||| 4294967296 = M) {s0 : State} (s : State) (r : Nat) (v : W32) (h : Made M s0 s) :
    Made M s0 (kset s r v) := by
  unfold kset
  try dsimp only
  with_reducible repeat' first
    | intro _ | assumption | apply Made.ite | apply setKite_made (mask_sub hM rfl) | split


theorem kresult_made {M : Nat} (hM : M ||| 4294967296 = M) {s0 : State} (s : State) (rd : Nat) (v : W32) (pc : W32) (h : Made M s0 s) :
    Made M s0 (kresult s rd v pc) := by
  unfold kresult
  try dsimp only
  with_reducible repeat' first
    | intro _ | assumption | apply kretire_made (mask_sub hM rfl) | apply kset_made (mask_sub hM rfl)


theorem ktrap_made {M : Nat} (hM : M ||| 4294967296 = M) {s0 : State} (s : State) (intr : Bool) (cause : Nat) (tval : W32) (h : Made M s0 s) :
    Made M s0 (ktrap s intr cause tval) := by
  unfold ktrap
  try dsimp only
  with_reducible repeat' first
    | intro _ | assumption | apply Made.ite | apply setKite_made (mask_sub hM rfl) | split


theorem kloadReg_made {M : Nat} (hM : M ||| 164671280440907337814247522 = M) {s0 : State} (s : State) (o : Nat) (b : Nat) (n : Nat) (ans : List W32) (h : Made M s0 s) :
    Made M s0 (kloadReg s o b n ans).1 := by
  unfold kloadReg
  try dsimp only
  with_reducible repeat' first
    | intro _ | refine Made.of_pair (by assumption) ?_ | assumption | apply spaceRead_made (mask_sub hM rfl)


theorem kload_made {M : Nat} (hM : M ||| 164673051328338448290941026 = M) {s0 : State} (s : State) (a : Nat) (n : Nat) (err : Nat) (ans : List W32) (h : Made M s0 s) :
    Made M s0 (kload s a n err ans).1 := by
  unfold kload
  try dsimp only
  with_reducible repeat' first
    | intro _ | refine Made.of_pair (by assumption) ?_ | assumption | apply Made.ite | apply kloadReg_made (mask_sub hM rfl) | apply askSuspend_made (mask_sub hM rfl) | apply nvEcc_made (mask_sub hM rfl) | apply noteNvRead_made (mask_sub hM rfl) | apply noteErr_made (mask_sub hM rfl) | apply Made.ite_fst | split


theorem ktrapFree_made {M : Nat} (hM : M ||| 4294967312 = M) {s0 : State} (s : State) (cause : Nat) (h : Made M s0 s) :
    Made M s0 (ktrapFree s cause) := by
  unfold ktrapFree
  try dsimp only
  with_reducible repeat' first
    | intro _ | assumption | apply ktrap_made (mask_sub hM rfl) | apply drawn_made (mask_sub hM rfl)


theorem csrWrite_made {M : Nat} (hM : M ||| 4294967296 = M) {s0 : State} (s : State) (n : Nat) (v : W32) (h : Made M s0 s) :
    Made M s0 (csrWrite s n v) := by
  unfold csrWrite
  try dsimp only
  with_reducible repeat' first
    | intro _ | assumption | apply setKite_made (mask_sub hM rfl) | split


theorem krun_made {M : Nat} (hM : M ||| 79228162495818701758389812478 = M) {s0 : State} (s : State) (q : KInstr) (len : Nat) (err : Nat) (ans : List W32) (h : Made M s0 s) :
    Made M s0 (krun s q len err ans) := by
  unfold krun
  try dsimp only
  with_reducible repeat' first
    | intro _ | refine Made.of_pair (by assumption) ?_ | assumption | apply Made.ite | apply kresult_made (mask_sub hM rfl) | apply kretire_made (mask_sub hM rfl) | apply ktrap_made (mask_sub hM rfl) | apply kload_made (mask_sub hM rfl) | apply kstore_made (mask_sub hM rfl) | apply setKite_made (mask_sub hM rfl) | apply ktrapFree_made (mask_sub hM rfl) | apply csrWrite_made (mask_sub hM rfl) | apply Made.ite_fst | split


theorem cacheFill_made {M : Nat} (hM : M ||| 4294967312 = M) {s0 : State} (s : State) (l : Nat) (bs : List Byte) (h : Made M s0 s) :
    Made M s0 (cacheFill s l bs) := by
  unfold cacheFill
  try dsimp only
  with_reducible repeat' first
    | intro _ | assumption | apply Made.ite | apply setKite_made (mask_sub hM rfl) | apply drawn_made (mask_sub hM rfl) | split


theorem fetchHalf_made {M : Nat} (hM : M ||| 9703872826487075741108274 = M) {s0 : State} (s : State) (a : Nat) (err : Nat) (h : Made M s0 s) :
    Made M s0 (fetchHalf s a err).1 := by
  unfold fetchHalf
  try dsimp only
  with_reducible repeat' first
    | intro _ | assumption | apply Made.ite | apply noteErr_made (mask_sub hM rfl) | apply askSuspend_made (mask_sub hM rfl) | apply nvEcc_made (mask_sub hM rfl) | apply cacheFill_made (mask_sub hM rfl) | apply Made.ite_fst | split


theorem kstep_made {M : Nat} (hM : M ||| 79228162495818701758389812478 = M) {s0 : State} (s : State) (ferr : Nat) (lerr : Nat) (ans : List W32) (h : Made M s0 s) :
    Made M s0 (kstep s ferr lerr ans) := by
  unfold kstep
  try dsimp only
  with_reducible repeat' first
    | intro _ | refine Made.of_pair (by assumption) ?_ | assumption | apply Made.ite | apply fetchHalf_made (mask_sub hM rfl) | apply ktrap_made (mask_sub hM rfl) | apply krun_made (mask_sub hM rfl) | apply ktrapFree_made (mask_sub hM rfl) | apply Made.ite_fst | split


theorem execKiteInstruction.go_made {M : Nat} (hM : M ||| 79228162495818701758389812478 = M) {s0 : State} (ferr : Fin 3) (lerr : Fin 3) (ans : List W32) (s : State) (h : Made M s0 s) :
    Made M s0 (execKiteInstruction.go ferr lerr ans s) := by
  unfold execKiteInstruction.go
  try dsimp only
  with_reducible repeat' first
    | intro _ | assumption | apply Made.ite | apply kstep_made (mask_sub hM rfl) | split


theorem execKiteInstruction_made {M : Nat} (hM : M ||| 79228162495818701758389812478 = M) {s0 : State} (turns : Nat) (ferr : Fin 3) (lerr : Fin 3) (ans : List W32) (s : State) (h : Made M s0 s) :
    Ends M s0 (execKiteInstruction turns ferr lerr ans s) := by
  unfold execKiteInstruction
  try dsimp only
  with_reducible repeat' first
    | intro _ | assumption | apply Made.ite | apply Ends.ite | apply Ends.done | apply setKite_made (mask_sub hM rfl) | apply ktrap_made (mask_sub hM rfl) | apply execKiteInstruction.go_made (mask_sub hM rfl) | split | apply Made.set_kite (mask_sub hM rfl)


theorem execMtimerInterrupt_made {M : Nat} (hM : M ||| 4294967296 = M) {s0 : State} (s : State) (h : Made M s0 s) :
    Ends M s0 (execMtimerInterrupt s) := by
  unfold execMtimerInterrupt
  try dsimp only
  with_reducible repeat' first
    | intro _ | assumption | apply Made.ite | apply Ends.ite | apply Ends.done | apply ktrap_made (mask_sub hM rfl) | split


end Sys2Proof.Machine
end

