-- ==== Sys2Proof/Laws/MadeStep.lean ====
section
/-! SUPPORT. Step.lean, operation by operation: the fields it leaves as they are, and that it keeps the stores canonical. -/
set_option linter.all false
namespace Sys2Proof.Machine
set_option Elab.async false

theorem idle_made {M : Nat} (hM : M ||| 4296081424 = M) {s0 : State} (s : State) (h : Made M s0 s) :
    Made M s0 (idle s) := by
  unfold idle
  try dsimp only
  with_reducible repeat' first
    | intro _ | assumption | apply kiteTick_made (mask_sub hM rfl) | apply tbuTick_made (mask_sub hM rfl) | apply Made.set_clk (mask_sub hM rfl)


end Sys2Proof.Machine
end

