-- ==== Sys2Proof/Laws/Mem.lean ====
section
/-! SUPPORT. The stores of bytes: what one reads after bytes have been stored. -/
namespace Sys2Proof.Machine
set_option Elab.async false

/-- The banks read back what was stored, and nothing else changes. -/
theorem memByte_memPut (s : State) (a : Nat) (b : Byte) (x : Nat) : memByte (memPut s a b) x = if x = a then b else memByte s x := by
  by_cases c : memFillOf s (a / 0x100000) % 2 = 0 ∧ b = 0#8
  · have e : memPut s a b = { s with mem := sdel a s.mem } := by unfold memPut; rw [if_pos c]
    rw [e]
    by_cases hx : x = a
    · subst hx; rw [if_pos rfl, c.2]; unfold memByte; simp only [sget_sdel_same]; exact if_pos c.1
    · rw [if_neg hx]; unfold memByte; simp only [sget_sdel_ne hx]; try rfl
  · have e : memPut s a b = { s with mem := sput a b s.mem } := by unfold memPut; rw [if_neg c]
    rw [e]
    by_cases hx : x = a
    · subst hx; rw [if_pos rfl]; unfold memByte; simp only [sget_sput_same]
    · rw [if_neg hx]; unfold memByte; simp only [sget_sput_ne hx]; try rfl

/-- The NV array reads back what was stored, and nothing else changes. -/
theorem nvByte_nvPut (s : State) (a : Nat) (b : Byte) (x : Nat) : nvByte (nvPut s a b) x = if x = a then b else nvByte s x := by
  by_cases c : (sget (a / 4096) s.nvFill).isNone ∧ b = 0xFF#8
  · have e : nvPut s a b = { s with nv := sdel a s.nv } := by unfold nvPut; rw [if_pos c]
    rw [e]
    by_cases hx : x = a
    · subst hx; rw [if_pos rfl, c.2]; unfold nvByte; simp only [sget_sdel_same]; simp only [Option.isNone_iff_eq_none.mp c.1]
    · rw [if_neg hx]; unfold nvByte; simp only [sget_sdel_ne hx]; try rfl
  · have e : nvPut s a b = { s with nv := sput a b s.nv } := by unfold nvPut; rw [if_neg c]
    rw [e]
    by_cases hx : x = a
    · subst hx; rw [if_pos rfl]; unfold nvByte; simp only [sget_sput_same]
    · rw [if_neg hx]; unfold nvByte; simp only [sget_sput_ne hx]; try rfl

/-- A plane reads back what was stored, and nothing else changes. -/
theorem planeByte_planePut (s : State) (a : Nat) (b : Byte) (x : Nat) : planeByte (planePut s a b) x = if x = a then b else planeByte s x := by
  by_cases c : planeFillOf s (a / 0x800000) % 2 = 0 ∧ b = 0xFF#8
  · have e : planePut s a b = { s with planeMem := sdel a s.planeMem } := by unfold planePut; rw [if_pos c]
    rw [e]
    by_cases hx : x = a
    · subst hx; rw [if_pos rfl, c.2]; unfold planeByte; simp only [sget_sdel_same]; exact if_pos c.1
    · rw [if_neg hx]; unfold planeByte; simp only [sget_sdel_ne hx]; try rfl
  · have e : planePut s a b = { s with planeMem := sput a b s.planeMem } := by unfold planePut; rw [if_neg c]
    rw [e]
    by_cases hx : x = a
    · subst hx; rw [if_pos rfl]; unfold planeByte; simp only [sget_sput_same]
    · rw [if_neg hx]; unfold planeByte; simp only [sget_sput_ne hx]; try rfl

/-- The flash reads back what was stored, and nothing else changes. -/
theorem flashByte_flashPutByte (s : State) (a : Nat) (b : Byte) (x : Nat) : flashByte (flashPutByte s a b) x = if x = a then b else flashByte s x := by
  by_cases c : (sget (a / 0x10000) s.flashFill).isNone ∧ b = 0xFF#8
  · have e : flashPutByte s a b = { s with flash := sdel a s.flash } := by unfold flashPutByte; rw [if_pos c]
    rw [e]
    by_cases hx : x = a
    · subst hx; rw [if_pos rfl, c.2]; unfold flashByte; simp only [sget_sdel_same]; simp only [Option.isNone_iff_eq_none.mp c.1]
    · rw [if_neg hx]; unfold flashByte; simp only [sget_sdel_ne hx]; try rfl
  · have e : flashPutByte s a b = { s with flash := sput a b s.flash } := by unfold flashPutByte; rw [if_neg c]
    rw [e]
    by_cases hx : x = a
    · subst hx; rw [if_pos rfl]; unfold flashByte; simp only [sget_sput_same]
    · rw [if_neg hx]; unfold flashByte; simp only [sget_sput_ne hx]; try rfl

/-- Bytes stored from `a` up read back in order; every other byte stays. -/
theorem memByte_putBytes (l : List Byte) (s : State) (a x : Nat) :
    memByte (putBytes s a l) x = if a ≤ x ∧ x < a + l.length then l.getD (x - a) 0#8 else memByte s x := by
  induction l generalizing s a with
  | nil => simp only [putBytes, List.length_nil]; rw [if_neg (by omega)]
  | cons b t ih =>
    rw [putBytes, ih, memByte_memPut]
    by_cases h : x = a
    · subst h; simp
    · by_cases h1 : a + 1 ≤ x ∧ x < a + 1 + t.length
      · have e : x - a = (x - (a + 1)) + 1 := by omega
        have h2 : a ≤ x ∧ x < a + (b :: t).length := by simp; omega
        rw [if_pos h1, if_pos h2, e, List.getD_cons_succ]
      · have h2 : ¬(a ≤ x ∧ x < a + (b :: t).length) := by simp; omega
        rw [if_neg h1, if_neg h2, if_neg h]

/-- Bytes stored from `a` up read back in order; every other byte stays. -/
theorem nvByte_nvPutBytes (l : List Byte) (s : State) (a x : Nat) :
    nvByte (nvPutBytes s a l) x = if a ≤ x ∧ x < a + l.length then l.getD (x - a) 0#8 else nvByte s x := by
  induction l generalizing s a with
  | nil => simp only [nvPutBytes, List.length_nil]; rw [if_neg (by omega)]
  | cons b t ih =>
    rw [nvPutBytes, ih, nvByte_nvPut]
    by_cases h : x = a
    · subst h; simp
    · by_cases h1 : a + 1 ≤ x ∧ x < a + 1 + t.length
      · have e : x - a = (x - (a + 1)) + 1 := by omega
        have h2 : a ≤ x ∧ x < a + (b :: t).length := by simp; omega
        rw [if_pos h1, if_pos h2, e, List.getD_cons_succ]
      · have h2 : ¬(a ≤ x ∧ x < a + (b :: t).length) := by simp; omega
        rw [if_neg h1, if_neg h2, if_neg h]

/-- Bytes stored from `a` up read back in order; every other byte stays. -/
theorem planeByte_planeBytes (l : List Byte) (s : State) (a x : Nat) :
    planeByte (planeBytes s a l) x = if a ≤ x ∧ x < a + l.length then l.getD (x - a) 0#8 else planeByte s x := by
  induction l generalizing s a with
  | nil => simp only [planeBytes, List.length_nil]; rw [if_neg (by omega)]
  | cons b t ih =>
    rw [planeBytes, ih, planeByte_planePut]
    by_cases h : x = a
    · subst h; simp
    · by_cases h1 : a + 1 ≤ x ∧ x < a + 1 + t.length
      · have e : x - a = (x - (a + 1)) + 1 := by omega
        have h2 : a ≤ x ∧ x < a + (b :: t).length := by simp; omega
        rw [if_pos h1, if_pos h2, e, List.getD_cons_succ]
      · have h2 : ¬(a ≤ x ∧ x < a + (b :: t).length) := by simp; omega
        rw [if_neg h1, if_neg h2, if_neg h]

/-- Bytes stored from `a` up read back in order; every other byte stays. -/
theorem flashByte_flashPut (l : List Byte) (s : State) (a x : Nat) :
    flashByte (flashPut s a l) x = if a ≤ x ∧ x < a + l.length then l.getD (x - a) 0#8 else flashByte s x := by
  induction l generalizing s a with
  | nil => simp only [flashPut, List.length_nil]; rw [if_neg (by omega)]
  | cons b t ih =>
    rw [flashPut, ih, flashByte_flashPutByte]
    by_cases h : x = a
    · subst h; simp
    · by_cases h1 : a + 1 ≤ x ∧ x < a + 1 + t.length
      · have e : x - a = (x - (a + 1)) + 1 := by omega
        have h2 : a ≤ x ∧ x < a + (b :: t).length := by simp; omega
        rw [if_pos h1, if_pos h2, e, List.getD_cons_succ]
      · have h2 : ¬(a ≤ x ∧ x < a + (b :: t).length) := by simp; omega
        rw [if_neg h1, if_neg h2, if_neg h]

end Sys2Proof.Machine
end

