-- ==== Sys2Proof/Laws/PerInstr.lean ====
section
/-! SUPPORT. Per command, as syntax: the table of what it can change is a set of parts and a set of blocks that exist. -/
namespace Sys2Proof.Laws.Touches
set_option Elab.async false
open Sys2Proof Sys2Proof.Machine

/-- No part and no block is named twice, and every block number has five bits. -/
def fine (p : List Part × List Nat) : Bool := decide p.1.Nodup && decide p.2.Nodup && p.2.all (fun b => decide (b < 32))

/-- The table of command `i` is well formed. -/
def Statement (i : Instr) : Prop := fine (touches i) = true

theorem regWrite (a0 a1 a2 a3) : Statement (.regWrite a0 a1 a2 a3) := rfl
theorem wideLowRead (a0 a1) : Statement (.wideLowRead a0 a1) := rfl
theorem wideLowWrite (a0 a1 a2) : Statement (.wideLowWrite a0 a1 a2) := rfl
theorem wideHighWrite (a0 a1 a2) : Statement (.wideHighWrite a0 a1 a2) := rfl
theorem hostBar4Read (a0 a1 a2) : Statement (.hostBar4Read a0 a1 a2) := rfl
theorem hostBar4Write (a0 a1) : Statement (.hostBar4Write a0 a1) := rfl
theorem hostConfigWrite (a0) : Statement (.hostConfigWrite a0) := rfl
theorem hostReadCompletion (a0 a1) : Statement (.hostReadCompletion a0 a1) := rfl
theorem hostCompletionTimeout (a0) : Statement (.hostCompletionTimeout a0) := rfl
theorem windowReadTimeout (a0) : Statement (.windowReadTimeout a0) := rfl
theorem hostLinkUp (a0 a1) : Statement (.hostLinkUp a0 a1) := rfl
theorem hostLinkLoss (a0) : Statement (.hostLinkLoss a0) := rfl
theorem perstFall : Statement .perstFall := rfl
theorem perstRise : Statement .perstRise := rfl
theorem msixUnmask (a0) : Statement (.msixUnmask a0) := rfl
theorem modTimeExpiry (a0) : Statement (.modTimeExpiry a0) := rfl
theorem dispatch : Statement .dispatch := rfl
theorem returnAccepted (a0 a1 a2) : Statement (.returnAccepted a0 a1 a2) := rfl
theorem fenceTimeout (a0) : Statement (.fenceTimeout a0) := rfl
theorem fetch (a0 a1) : Statement (.fetch a0 a1) := rfl
theorem fetchComplete (a0 a1) : Statement (.fetchComplete a0 a1) := rfl
theorem doorbellSqPi (a0 a1 a2 a3) : Statement (.doorbellSqPi a0 a1 a2 a3) := rfl
theorem doorbellCqCi (a0 a1 a2 a3) : Statement (.doorbellCqCi a0 a1 a2 a3) := rfl
theorem contextEnable (a0 a1) : Statement (.contextEnable a0 a1) := rfl
theorem contextDisable (a0 a1) : Statement (.contextDisable a0 a1) := rfl
theorem ledgerAudit (a0) : Statement (.ledgerAudit a0) := rfl
theorem auditCompareDone : Statement .auditCompareDone := rfl
theorem auditChainRelook (a0 a1) : Statement (.auditChainRelook a0 a1) := rfl
theorem ldgRelease (a0) : Statement (.ldgRelease a0) := rfl
theorem ldgBufLend (a0 a1) : Statement (.ldgBufLend a0 a1) := rfl
theorem ldgCtlWrite (a0) : Statement (.ldgCtlWrite a0) := rfl
theorem nop (a0) : Statement (.nop a0) := rfl
theorem fence (a0 a1) : Statement (.fence a0 a1) := rfl
theorem copy (a0) : Statement (.copy a0) := rfl
theorem fill (a0) : Statement (.fill a0) := rfl
theorem vbuTx (a0 a1) : Statement (.vbuTx a0 a1) := rfl
theorem vbuRxArm (a0) : Statement (.vbuRxArm a0) := rfl
theorem vbuCtrlStart (a0) : Statement (.vbuCtrlStart a0) := rfl
theorem vbuCtrlStop (a0 a1) : Statement (.vbuCtrlStop a0 a1) := rfl
theorem vbuCtrlRecover (a0) : Statement (.vbuCtrlRecover a0) := rfl
theorem vbuCtrlAbortTx (a0) : Statement (.vbuCtrlAbortTx a0) := rfl
theorem vbuCtrlStatus (a0) : Statement (.vbuCtrlStatus a0) := rfl
theorem vbuCtrlWriteRegs (a0) : Statement (.vbuCtrlWriteRegs a0) := rfl
theorem harScan (a0 a1) : Statement (.harScan a0 a1) := rfl
theorem harNetmapLoad (a0 a1) : Statement (.harNetmapLoad a0 a1) := rfl
theorem ospTx (a0 a1) : Statement (.ospTx a0 a1) := rfl
theorem ospRx (a0) : Statement (.ospRx a0) := rfl
theorem fabCall (a0) : Statement (.fabCall a0) := rfl
theorem nvaProg (a0 a1) : Statement (.nvaProg a0 a1) := rfl
theorem nvaErase (a0) : Statement (.nvaErase a0) := rfl
theorem nvaRead (a0 a1 a2) : Statement (.nvaRead a0 a1 a2) := rfl
theorem tbuStampRead (a0) : Statement (.tbuStampRead a0) := rfl
theorem tbuStampSet (a0) : Statement (.tbuStampSet a0) := rfl
theorem tbuStampSlew (a0) : Statement (.tbuStampSlew a0) := rfl
theorem cfgStage (a0 a1) : Statement (.cfgStage a0 a1) := rfl
theorem cfgHandover (a0) : Statement (.cfgHandover a0) := rfl
theorem depWriteImage (a0 a1) : Statement (.depWriteImage a0 a1) := rfl
theorem depWriteData (a0 a1) : Statement (.depWriteData a0 a1) := rfl
theorem depWriteSlot (a0) : Statement (.depWriteSlot a0) := rfl
theorem depWriteFormat (a0) : Statement (.depWriteFormat a0) := rfl
theorem depReadSlot (a0) : Statement (.depReadSlot a0) := rfl
theorem depReadRaw (a0) : Statement (.depReadRaw a0) := rfl
theorem depReadDirectory (a0) : Statement (.depReadDirectory a0) := rfl
theorem tagRead (a0) : Statement (.tagRead a0) := rfl
theorem tagWrite (a0 a1) : Statement (.tagWrite a0 a1) := rfl
theorem bnkMarch (a0) : Statement (.bnkMarch a0) := rfl
theorem bnkPower (a0) : Statement (.bnkPower a0) := rfl
theorem bstRun (a0) : Statement (.bstRun a0) := rfl
theorem trimWindowDue (a0) : Statement (.trimWindowDue a0) := rfl
theorem trimDeferFall : Statement .trimDeferFall := rfl
theorem trimMaxdeferExpiry : Statement .trimMaxdeferExpiry := rfl
theorem trimStep (a0 a1) : Statement (.trimStep a0 a1) := rfl
theorem driftAlert (a0 a1 a2) : Statement (.driftAlert a0 a1 a2) := rfl
theorem alertTrimStep (a0 a1 a2) : Statement (.alertTrimStep a0 a1 a2) := rfl
theorem paceGateEnd (a0) : Statement (.paceGateEnd a0) := rfl
theorem fabPaceClr (a0) : Statement (.fabPaceClr a0) := rfl
theorem fabGateOvfClear : Statement .fabGateOvfClear := rfl
theorem islandLossOfLock (a0) : Statement (.islandLossOfLock a0) := rfl
theorem islandRelock (a0) : Statement (.islandRelock a0) := rfl
theorem gateClockWrite (a0 a1 a2 a3) : Statement (.gateClockWrite a0 a1 a2 a3) := rfl
theorem gateHandshakePop (a0 a1) : Statement (.gateHandshakePop a0 a1) := rfl
theorem staticInputChange (a0 a1 a2) : Statement (.staticInputChange a0 a1 a2) := rfl
theorem socketBurst (a0 a1 a2 a3 a4) : Statement (.socketBurst a0 a1 a2 a3 a4) := rfl
theorem fabWindowAccess (a0 a1 a2 a3) : Statement (.fabWindowAccess a0 a1 a2 a3) := rfl
theorem fabWindowTimeout (a0) : Statement (.fabWindowTimeout a0) := rfl
theorem fabCallAnswer (a0 a1 a2 a3) : Statement (.fabCallAnswer a0 a1 a2 a3) := rfl
theorem powerOnReset : Statement .powerOnReset := rfl
theorem powerGoodEvent : Statement .powerGoodEvent := rfl
theorem s0Complete (a0 a1 a2) : Statement (.s0Complete a0 a1 a2) := rfl
theorem pwrgrantInHigh : Statement .pwrgrantInHigh := rfl
theorem grantTimeout : Statement .grantTimeout := rfl
theorem mgmtGroupPowered : Statement .mgmtGroupPowered := rfl
theorem s2BankPowered : Statement .s2BankPowered := rfl
theorem s3GroupPowered : Statement .s3GroupPowered := rfl
theorem s4WaveDone : Statement .s4WaveDone := rfl
theorem grantPoint : Statement .grantPoint := rfl
theorem brownOutVcc (a0) : Statement (.brownOutVcc a0) := rfl
theorem brownOutVccowl : Statement .brownOutVccowl := rfl
theorem brownOutSer (a0) : Statement (.brownOutSer a0) := rfl
theorem brownOutIo (a0) : Statement (.brownOutIo a0) := rfl
theorem railReturn (a0) : Statement (.railReturn a0) := rfl
theorem rstNFall (a0) : Statement (.rstNFall a0) := rfl
theorem rstNRise : Statement .rstNRise := rfl
theorem pwrCtlIdle : Statement .pwrCtlIdle := rfl
theorem pwrCtlRun : Statement .pwrCtlRun := rfl
theorem idleEntryDone : Statement .idleEntryDone := rfl
theorem idleExitDone : Statement .idleExitDone := rfl
theorem sleepEntry : Statement .sleepEntry := rfl
theorem sleepEntryDone : Statement .sleepEntryDone := rfl
theorem wakeInPin : Statement .wakeInPin := rfl
theorem wakeTimerExpiry : Statement .wakeTimerExpiry := rfl
theorem wakePerst : Statement .wakePerst := rfl
theorem rstDomReq (a0 a1) : Statement (.rstDomReq a0 a1) := rfl
theorem rstDomHold (a0 a1) : Statement (.rstDomHold a0 a1) := rfl
theorem drainEnd (a0) : Statement (.drainEnd a0) := rfl
theorem abortsPosted (a0 a1) : Statement (.abortsPosted a0 a1) := rfl
theorem resetAssert (a0 a1) : Statement (.resetAssert a0 a1) := rfl
theorem resetRelease (a0) : Statement (.resetRelease a0) := rfl
theorem domainReady (a0) : Statement (.domainReady a0) := rfl
theorem readyTimeout (a0) : Statement (.readyTimeout a0) := rfl
theorem rstUnit (a0 a1) : Statement (.rstUnit a0 a1) := rfl
theorem watchdogExpiry : Statement .watchdogExpiry := rfl
theorem bootSourceFail : Statement .bootSourceFail := rfl
theorem bootReadoutDone (a0) : Statement (.bootReadoutDone a0) := rfl
theorem startupStepDone : Statement .startupStepDone := rfl
theorem startupDelayExpiry : Statement .startupDelayExpiry := rfl
theorem startupLockDone : Statement .startupLockDone := rfl
theorem startupLockTimeout (a0) : Statement (.startupLockTimeout a0) := rfl
theorem cfgStageEraseDone : Statement .cfgStageEraseDone := rfl
theorem cfgStageFrame (a0) : Statement (.cfgStageFrame a0) := rfl
theorem cfgStageReadbackDone (a0) : Statement (.cfgStageReadbackDone a0) := rfl
theorem handoverReadoutDone (a0) : Statement (.handoverReadoutDone a0) := rfl
theorem cfgBootSel (a0 a1) : Statement (.cfgBootSel a0 a1) := rfl
theorem depotDiscovery (a0) : Statement (.depotDiscovery a0) := rfl
theorem flashReadDone (a0) : Statement (.flashReadDone a0) := rfl
theorem flashEraseDone (a0) : Statement (.flashEraseDone a0) := rfl
theorem flashProgramDone (a0) : Statement (.flashProgramDone a0) := rfl
theorem depotScrubDue : Statement .depotScrubDue := rfl
theorem imageReq (a0) : Statement (.imageReq a0) := rfl
theorem imageReqRetry : Statement .imageReqRetry := rfl
theorem reqAck (a0) : Statement (.reqAck a0) := rfl
theorem reqAckRepeat : Statement .reqAckRepeat := rfl
theorem loadRoundStart : Statement .loadRoundStart := rfl
theorem roundBegin (a0) : Statement (.roundBegin a0) := rfl
theorem chunk (a0) : Statement (.chunk a0) := rfl
theorem chunkAck (a0) : Statement (.chunkAck a0) := rfl
theorem resend (a0) : Statement (.resend a0) := rfl
theorem roundEnd (a0) : Statement (.roundEnd a0) := rfl
theorem roundAbort (a0) : Statement (.roundAbort a0) := rfl
theorem chainTryTimeout (a0) : Statement (.chainTryTimeout a0) := rfl
theorem nvaKey (a0 a1) : Statement (.nvaKey a0 a1) := rfl
theorem nvaCmd (a0 a1) : Statement (.nvaCmd a0 a1) := rfl
theorem nvaSeqLapse : Statement .nvaSeqLapse := rfl
theorem programLine (a0 a1) : Statement (.programLine a0 a1) := rfl
theorem programPage (a0 a1) : Statement (.programPage a0 a1) := rfl
theorem eraseSector (a0 a1) : Statement (.eraseSector a0 a1) := rfl
theorem eraseBlock (a0 a1) : Statement (.eraseBlock a0 a1) := rfl
theorem suspend (a0 a1) : Statement (.suspend a0 a1) := rfl
theorem resume (a0 a1) : Statement (.resume a0 a1) := rfl
theorem readCounter (a0 a1) : Statement (.readCounter a0 a1) := rfl
theorem nvaPageLatchLoaded : Statement .nvaPageLatchLoaded := rfl
theorem nvaProgramDone (a0) : Statement (.nvaProgramDone a0) := rfl
theorem nvaErasePulse : Statement .nvaErasePulse := rfl
theorem nvaEraseDone (a0) : Statement (.nvaEraseDone a0) := rfl
theorem nvaSuspendEffect (a0) : Statement (.nvaSuspendEffect a0) := rfl
theorem nvaAutoResume : Statement .nvaAutoResume := rfl
theorem nvLineRead (a0 a1 a2 a3 a4) : Statement (.nvLineRead a0 a1 a2 a3 a4) := rfl
theorem nvScrubMarginRead (a0) : Statement (.nvScrubMarginRead a0) := rfl
theorem nvScrubRefresh : Statement .nvScrubRefresh := rfl
theorem nvScrubStarve (a0 a1) : Statement (.nvScrubStarve a0 a1) := rfl
theorem nvaWpSet (a0 a1) : Statement (.nvaWpSet a0 a1) := rfl
theorem nvaWpClr (a0 a1) : Statement (.nvaWpClr a0 a1) := rfl
theorem nvaWpLock : Statement .nvaWpLock := rfl
theorem bankAccess (a0 a1 a2 a3) : Statement (.bankAccess a0 a1 a2 a3) := rfl
theorem aliasWrite (a0 a1 a2 a3 a4) : Statement (.aliasWrite a0 a1 a2 a3 a4) := rfl
theorem bankPowerStepDone (a0 a1) : Statement (.bankPowerStepDone a0 a1) := rfl
theorem marchDone (a0 a1 a2 a3 a4 a5) : Statement (.marchDone a0 a1 a2 a3 a4 a5) := rfl
theorem bnkFuseProg (a0 a1 a2 a3 a4) : Statement (.bnkFuseProg a0 a1 a2 a3 a4) := rfl
theorem fuseBlowDone (a0) : Statement (.fuseBlowDone a0) := rfl
theorem laneBlockLock (a0 a1 a2) : Statement (.laneBlockLock a0 a1 a2) := rfl
theorem laneBlockLockLost (a0 a1 a2 a3) : Statement (.laneBlockLockLost a0 a1 a2 a3) := rfl
theorem laneFrameLock (a0 a1 a2 a3) : Statement (.laneFrameLock a0 a1 a2 a3) := rfl
theorem laneFrameLockLost (a0 a1 a2) : Statement (.laneFrameLockLost a0 a1 a2) := rfl
theorem train (a0 a1 a2 a3 a4 a5 a6) : Statement (.train a0 a1 a2 a3 a4 a5 a6) := rfl
theorem cap (a0 a1 a2) : Statement (.cap a0 a1 a2) := rfl
theorem keyBlock (a0 a1 a2) : Statement (.keyBlock a0 a1 a2) := rfl
theorem keyAck (a0 a1) : Statement (.keyAck a0 a1) := rfl
theorem linkUp (a0) : Statement (.linkUp a0) := rfl
theorem trainTimeout (a0) : Statement (.trainTimeout a0) := rfl
theorem chnPortEn (a0 a1) : Statement (.chnPortEn a0 a1) := rfl
theorem chnRetrain (a0) : Statement (.chnRetrain a0) := rfl
theorem chnPrbs (a0 a1 a2 a3 a4) : Statement (.chnPrbs a0 a1 a2 a3 a4) := rfl
theorem credit (a0 a1 a2) : Statement (.credit a0 a1 a2) := rfl
theorem csync (a0 a1 a2) : Statement (.csync a0 a1 a2) := rfl
theorem ack (a0 a1) : Statement (.ack a0 a1) := rfl
theorem nak (a0 a1) : Statement (.nak a0 a1) := rfl
theorem creditReturnDue (a0 a1) : Statement (.creditReturnDue a0 a1) := rfl
theorem csyncDue (a0) : Statement (.csyncDue a0) := rfl
theorem ackDue (a0) : Statement (.ackDue a0) := rfl
theorem replayTimer (a0) : Statement (.replayTimer a0) := rfl
theorem messageDamaged (a0 a1 a2 a3 a4) : Statement (.messageDamaged a0 a1 a2 a3 a4) := rfl
theorem messageForward (a0 a1) : Statement (.messageForward a0 a1) := rfl
theorem quiet (a0) : Statement (.quiet a0) := rfl
theorem becomeCandidate : Statement .becomeCandidate := rfl
theorem beacon (a0 a1) : Statement (.beacon a0 a1) := rfl
theorem beaconBackoffExpiry : Statement .beaconBackoffExpiry := rfl
theorem electionWin : Statement .electionWin := rfl
theorem walk : Statement .walk := rfl
theorem partialWalk (a0) : Statement (.partialWalk a0) := rfl
theorem walkStart (a0 a1) : Statement (.walkStart a0 a1) := rfl
theorem token (a0) : Statement (.token a0) := rfl
theorem join (a0 a1) : Statement (.join a0 a1) := rfl
theorem addrAssign (a0) : Statement (.addrAssign a0) := rfl
theorem tokenEnd (a0 a1) : Statement (.tokenEnd a0 a1) := rfl
theorem walkTimeout : Statement .walkTimeout := rfl
theorem topoBreak (a0 a1) : Statement (.topoBreak a0 a1) := rfl
theorem topoUpdate (a0) : Statement (.topoUpdate a0) := rfl
theorem resetCmd (a0 a1) : Statement (.resetCmd a0 a1) := rfl
theorem devEvt (a0 a1) : Statement (.devEvt a0 a1) := rfl
theorem tunRdReq (a0 a1) : Statement (.tunRdReq a0 a1) := rfl
theorem tunWr (a0 a1) : Statement (.tunWr a0 a1) := rfl
theorem tunInt (a0 a1) : Statement (.tunInt a0 a1) := rfl
theorem tunRdCpl (a0 a1) : Statement (.tunRdCpl a0 a1) := rfl
theorem rmtOp (a0 a1) : Statement (.rmtOp a0 a1) := rfl
theorem rmtDone (a0 a1) : Statement (.rmtDone a0 a1) := rfl
theorem winRd (a0 a1 a2) : Statement (.winRd a0 a1 a2) := rfl
theorem winWr (a0 a1) : Statement (.winWr a0 a1) := rfl
theorem winCpl (a0 a1) : Statement (.winCpl a0 a1) := rfl
theorem enuRstCmd (a0 a1 a2) : Statement (.enuRstCmd a0 a1 a2) := rfl
theorem enuTabWrite (a0 a1 a2 a3) : Statement (.enuTabWrite a0 a1 a2 a3) := rfl
theorem enuBypass (a0) : Statement (.enuBypass a0) := rfl
theorem propose : Statement .propose := rfl
theorem cancel : Statement .cancel := rfl
theorem sleepPropose (a0) : Statement (.sleepPropose a0) := rfl
theorem sleepReadyVote : Statement .sleepReadyVote := rfl
theorem voteWaitExpiry : Statement .voteWaitExpiry := rfl
theorem sleepVote (a0 a1) : Statement (.sleepVote a0 a1) := rfl
theorem voteMissingTimeout : Statement .voteMissingTimeout := rfl
theorem nakWake (a0 a1) : Statement (.nakWake a0 a1) := rfl
theorem sleepCommit (a0) : Statement (.sleepCommit a0) := rfl
theorem sleepAbort (a0) : Statement (.sleepAbort a0) := rfl
theorem chainWakeDetect : Statement .chainWakeDetect := rfl
theorem wakeToneDone : Statement .wakeToneDone := rfl
theorem harTrainTimeout (a0) : Statement (.harTrainTimeout a0) := rfl
theorem harWordLock (a0 a1) : Statement (.harWordLock a0 a1) := rfl
theorem harWordLockLost (a0) : Statement (.harWordLockLost a0) := rfl
theorem harEnumReturn (a0 a1 a2) : Statement (.harEnumReturn a0 a1 a2) := rfl
theorem idr (a0 a1 a2 a3 a4) : Statement (.idr a0 a1 a2 a3 a4) := rfl
theorem cfga (a0 a1 a2) : Statement (.cfga a0 a1 a2) := rfl
theorem rsp (a0 a1 a2 a3) : Statement (.rsp a0 a1 a2 a3) := rfl
theorem harReplyTimeout (a0) : Statement (.harReplyTimeout a0) := rfl
theorem harSettleExpiry : Statement .harSettleExpiry := rfl
theorem harLinkWaitExpiry : Statement .harLinkWaitExpiry := rfl
theorem harLinkEn (a0 a1) : Statement (.harLinkEn a0 a1) := rfl
theorem harRetrain (a0) : Statement (.harRetrain a0) := rfl
theorem fifoPush (a0 a1) : Statement (.fifoPush a0 a1) := rfl
theorem fifoPop (a0 a1 a2) : Statement (.fifoPop a0 a1 a2) := rfl
theorem sfqPopW0 (a0 a1) : Statement (.sfqPopW0 a0 a1) := rfl
theorem discardPkt (a0 a1) : Statement (.discardPkt a0 a1) := rfl
theorem discardRemoval (a0 a1) : Statement (.discardRemoval a0 a1) := rfl
theorem flush (a0) : Statement (.flush a0) := rfl
theorem sfqCfgWrite (a0 a1) : Statement (.sfqCfgWrite a0 a1) := rfl
theorem sfqWmWrite (a0 a1) : Statement (.sfqWmWrite a0 a1) := rfl
theorem sfqPinWrite (a0) : Statement (.sfqPinWrite a0) := rfl
theorem sfqXctxWrite (a0 a1) : Statement (.sfqXctxWrite a0 a1) := rfl
theorem canIntegrated (a0) : Statement (.canIntegrated a0) := rfl
theorem canStartOfFrame (a0) : Statement (.canStartOfFrame a0) := rfl
theorem canArbitrationLost (a0) : Statement (.canArbitrationLost a0) := rfl
theorem canFrameSent (a0 a1) : Statement (.canFrameSent a0 a1) := rfl
theorem canTxError (a0 a1 a2) : Statement (.canTxError a0 a1 a2) := rfl
theorem canSuspendTransmissionEnd (a0) : Statement (.canSuspendTransmissionEnd a0) := rfl
theorem canFrameReceived (a0 a1 a2 a3 a4 a5 a6 a7 a8 a9) : Statement (.canFrameReceived a0 a1 a2 a3 a4 a5 a6 a7 a8 a9) := rfl
theorem canRxError (a0 a1 a2 a3) : Statement (.canRxError a0 a1 a2 a3) := rfl
theorem canRecover (a0) : Statement (.canRecover a0) := rfl
theorem canRecoveryDone (a0) : Statement (.canRecoveryDone a0) := rfl
theorem canErrcWrite (a0 a1) : Statement (.canErrcWrite a0 a1) := rfl
theorem vbuRxTimeout (a0) : Statement (.vbuRxTimeout a0) := rfl
theorem canWuf (a0 a1 a2 a3 a4) : Statement (.canWuf a0 a1 a2 a3 a4) := rfl
theorem fecWake (a0 a1) : Statement (.fecWake a0 a1) := rfl
theorem linBreak (a0 a1 a2 a3) : Statement (.linBreak a0 a1 a2 a3) := rfl
theorem linResponse (a0 a1 a2 a3 a4) : Statement (.linResponse a0 a1 a2 a3 a4) := rfl
theorem linResponseTimeout (a0) : Statement (.linResponseTimeout a0) := rfl
theorem linBusIdle (a0) : Statement (.linBusIdle a0) := rfl
theorem linWake (a0) : Statement (.linWake a0) := rfl
theorem linWakeRx (a0) : Statement (.linWakeRx a0) := rfl
theorem linWakePulse (a0) : Statement (.linWakePulse a0) := rfl
theorem sentFrame (a0 a1 a2 a3 a4 a5) : Statement (.sentFrame a0 a1 a2 a3 a4 a5) := rfl
theorem ospGainStep (a0) : Statement (.ospGainStep a0) := rfl
theorem ospPreambleDetect (a0) : Statement (.ospPreambleDetect a0) := rfl
theorem ospSyncMatch (a0 a1 a2 a3) : Statement (.ospSyncMatch a0 a1 a2 a3) := rfl
theorem ospSyncWaitExpiry : Statement .ospSyncWaitExpiry := rfl
theorem ospDataItem (a0) : Statement (.ospDataItem a0) := rfl
theorem ospPacketEnd (a0) : Statement (.ospPacketEnd a0) := rfl
theorem ospTxStart : Statement .ospTxStart := rfl
theorem ospRepetitionEnd : Statement .ospRepetitionEnd := rfl
theorem ospGapExpiry : Statement .ospGapExpiry := rfl
theorem ospTrExpiry : Statement .ospTrExpiry := rfl
theorem ospSclkLost : Statement .ospSclkLost := rfl
theorem ospSclkReturn : Statement .ospSclkReturn := rfl
theorem ospFsMeasure (a0) : Statement (.ospFsMeasure a0) := rfl
theorem ospRxTimeout : Statement .ospRxTimeout := rfl
theorem ospRxEnWrite (a0) : Statement (.ospRxEnWrite a0) := rfl
theorem ppsInEdge (a0 a1) : Statement (.ppsInEdge a0 a1) := rfl
theorem ppsInLoss : Statement .ppsInLoss := rfl
theorem timeBeacon (a0 a1 a2 a3) : Statement (.timeBeacon a0 a1 a2 a3) := rfl
theorem beaconLoss : Statement .beaconLoss := rfl
theorem wholeSecond : Statement .wholeSecond := rfl
theorem ppsOutEnd : Statement .ppsOutEnd := rfl
theorem timeBeaconSend : Statement .timeBeaconSend := rfl
theorem dlyReqDue : Statement .dlyReqDue := rfl
theorem dlyReq (a0 a1 a2) : Statement (.dlyReq a0 a1 a2) := rfl
theorem dlyResp (a0 a1) : Statement (.dlyResp a0 a1) := rfl
theorem holdLimitExpiry : Statement .holdLimitExpiry := rfl
theorem tcxoLost : Statement .tcxoLost := rfl
theorem tcxoReturn : Statement .tcxoReturn := rfl
theorem tbuCtlWrite (a0) : Statement (.tbuCtlWrite a0) := rfl
theorem tagFieldOn : Statement .tagFieldOn := rfl
theorem tagFieldLost : Statement .tagFieldLost := rfl
theorem tagSessionEnd : Statement .tagSessionEnd := rfl
theorem inventory (a0 a1 a2 a3) : Statement (.inventory a0 a1 a2 a3) := rfl
theorem stayQuiet (a0) : Statement (.stayQuiet a0) := rfl
theorem readMultipleBlocks (a0 a1 a2) : Statement (.readMultipleBlocks a0 a1 a2) := rfl
theorem extendedReadMultipleBlocks (a0 a1 a2) : Statement (.extendedReadMultipleBlocks a0 a1 a2) := rfl
theorem lockBlock (a0 a1) : Statement (.lockBlock a0 a1) := rfl
theorem extendedLockBlock (a0 a1) : Statement (.extendedLockBlock a0 a1) := rfl
theorem tagUnsupportedCommand (a0) : Statement (.tagUnsupportedCommand a0) := rfl
theorem tagSnapshotDone : Statement .tagSnapshotDone := rfl
theorem tagLockProgrammed (a0) : Statement (.tagLockProgrammed a0) := rfl
theorem tagShadowProgrammed (a0) : Statement (.tagShadowProgrammed a0) := rfl
theorem tagPageCommit : Statement .tagPageCommit := rfl
theorem tagLockCmd (a0) : Statement (.tagLockCmd a0) := rfl
theorem tagLockGroupProgrammed : Statement .tagLockGroupProgrammed := rfl
theorem tagLockGroupCommit : Statement .tagLockGroupCommit := rfl
theorem loadKey (a0 a1) : Statement (.loadKey a0 a1) := rfl
theorem clearKey (a0 a1) : Statement (.clearKey a0 a1) := rfl
theorem bind (a0 a1 a2) : Statement (.bind a0 a1 a2) := rfl
theorem rekey (a0 a1 a2) : Statement (.rekey a0 a1 a2) := rfl
theorem erase (a0 a1 a2) : Statement (.erase a0 a1 a2) := rfl
theorem kiteInstruction (a0 a1 a2 a3) : Statement (.kiteInstruction a0 a1 a2 a3) := rfl
theorem mtimerInterrupt : Statement .mtimerInterrupt := rfl
theorem kitMsip (a0) : Statement (.kitMsip a0) := rfl
theorem fwCheckStart (a0) : Statement (.fwCheckStart a0) := rfl
theorem fwCheckDone : Statement .fwCheckDone := rfl
theorem wdtEnable : Statement .wdtEnable := rfl
theorem wdtService (a0 a1) : Statement (.wdtService a0 a1) := rfl
theorem mbxH2kSend : Statement .mbxH2kSend := rfl
theorem mbxH2kDone : Statement .mbxH2kDone := rfl
theorem mbxK2hSend : Statement .mbxK2hSend := rfl
theorem mbxK2hDone : Statement .mbxK2hDone := rfl
theorem ping : Statement .ping := rfl
theorem info : Statement .info := rfl
theorem check : Statement .check := rfl
theorem policyApply : Statement .policyApply := rfl
theorem nightlyDue (a0) : Statement (.nightlyDue a0) := rfl
theorem wearSummaryDue (a0 a1 a2 a3 a4) : Statement (.wearSummaryDue a0 a1 a2 a3 a4) := rfl
theorem tlmScan (a0 a1) : Statement (.tlmScan a0 a1) := rfl
theorem tlmLogDue : Statement .tlmLogDue := rfl
theorem tlmLogBeat : Statement .tlmLogBeat := rfl
theorem alarmTest (a0) : Statement (.alarmTest a0) := rfl
theorem lcyAdvance (a0 a1) : Statement (.lcyAdvance a0 a1) := rfl
theorem lcyAdvanceDone (a0) : Statement (.lcyAdvanceDone a0) := rfl
theorem bistStart : Statement .bistStart := rfl
theorem bistPatternsDone (a0) : Statement (.bistPatternsDone a0) := rfl
theorem bistWaitTimeout : Statement .bistWaitTimeout := rfl
theorem tapReset : Statement .tapReset := rfl
theorem extest (a0) : Statement (.extest a0) := rfl
theorem idcode : Statement .idcode := rfl
theorem samplePreload (a0) : Statement (.samplePreload a0) := rfl
theorem highz : Statement .highz := rfl
theorem clamp : Statement .clamp := rfl
theorem bypass : Statement .bypass := rfl
theorem regionsPoweredDown : Statement .regionsPoweredDown := rfl
theorem handshakeSideWrite (a0 a1 a2) : Statement (.handshakeSideWrite a0 a1 a2) := rfl
theorem clockSideRead (a0 a1) : Statement (.clockSideRead a0 a1) := rfl
theorem controlBlockDiscard (a0) : Statement (.controlBlockDiscard a0) := rfl
theorem strayDataBlock (a0) : Statement (.strayDataBlock a0) := rfl
theorem frmErr : Statement .frmErr := rfl

end Sys2Proof.Laws.Touches
end

