-- ==== Sys2Proof/Laws/State.lean ====
section
/-! SUPPORT. One lemma per field per update: what each elementary update of the state leaves as it is and what it sets, and what
registers read after it. -/
namespace Sys2Proof.Machine
set_option Elab.async false

/-! ### wr -/
@[simp] theorem wr_pending (s : State) (a : Nat) (v : W32) : (wr s a v).pending = s.pending := rfl
@[simp] theorem wr_mem (s : State) (a : Nat) (v : W32) : (wr s a v).mem = s.mem := rfl
@[simp] theorem wr_memFill (s : State) (a : Nat) (v : W32) : (wr s a v).memFill = s.memFill := rfl
@[simp] theorem wr_free (s : State) (a : Nat) (v : W32) : (wr s a v).free = s.free := rfl
@[simp] theorem wr_out (s : State) (a : Nat) (v : W32) : (wr s a v).out = s.out := rfl
@[simp] theorem wr_ctxs (s : State) (a : Nat) (v : W32) : (wr s a v).ctxs = s.ctxs := rfl
@[simp] theorem wr_ops (s : State) (a : Nat) (v : W32) : (wr s a v).ops = s.ops := rfl
@[simp] theorem wr_nextTag (s : State) (a : Nat) (v : W32) : (wr s a v).nextTag = s.nextTag := rfl
@[simp] theorem wr_rounds (s : State) (a : Nat) (v : W32) : (wr s a v).rounds = s.rounds := rfl
@[simp] theorem wr_ledger (s : State) (a : Nat) (v : W32) : (wr s a v).ledger = s.ledger := rfl
@[simp] theorem wr_hif (s : State) (a : Nat) (v : W32) : (wr s a v).hif = s.hif := rfl
@[simp] theorem wr_pwr (s : State) (a : Nat) (v : W32) : (wr s a v).pwr = s.pwr := rfl
@[simp] theorem wr_doms (s : State) (a : Nat) (v : W32) : (wr s a v).doms = s.doms := rfl
@[simp] theorem wr_banks (s : State) (a : Nat) (v : W32) : (wr s a v).banks = s.banks := rfl
@[simp] theorem wr_log (s : State) (a : Nat) (v : W32) : (wr s a v).log = s.log := rfl
@[simp] theorem wr_tbu (s : State) (a : Nat) (v : W32) : (wr s a v).tbu = s.tbu := rfl
@[simp] theorem wr_nv (s : State) (a : Nat) (v : W32) : (wr s a v).nv = s.nv := rfl
@[simp] theorem wr_planeMem (s : State) (a : Nat) (v : W32) : (wr s a v).planeMem = s.planeMem := rfl
@[simp] theorem wr_fifos (s : State) (a : Nat) (v : W32) : (wr s a v).fifos = s.fifos := rfl
@[simp] theorem wr_clk (s : State) (a : Nat) (v : W32) : (wr s a v).clk = s.clk := rfl
@[simp] theorem wr_fab (s : State) (a : Nat) (v : W32) : (wr s a v).fab = s.fab := rfl
@[simp] theorem wr_boot (s : State) (a : Nat) (v : W32) : (wr s a v).boot = s.boot := rfl
@[simp] theorem wr_stage (s : State) (a : Nat) (v : W32) : (wr s a v).stage = s.stage := rfl
@[simp] theorem wr_ho (s : State) (a : Nat) (v : W32) : (wr s a v).ho = s.ho := rfl
@[simp] theorem wr_planeFill (s : State) (a : Nat) (v : W32) : (wr s a v).planeFill = s.planeFill := rfl
@[simp] theorem wr_dep (s : State) (a : Nat) (v : W32) : (wr s a v).dep = s.dep := rfl
@[simp] theorem wr_flash (s : State) (a : Nat) (v : W32) : (wr s a v).flash = s.flash := rfl
@[simp] theorem wr_flashFill (s : State) (a : Nat) (v : W32) : (wr s a v).flashFill = s.flashFill := rfl
@[simp] theorem wr_keys (s : State) (a : Nat) (v : W32) : (wr s a v).keys = s.keys := rfl
@[simp] theorem wr_prevEpoch (s : State) (a : Nat) (v : W32) : (wr s a v).prevEpoch = s.prevEpoch := rfl
@[simp] theorem wr_load (s : State) (a : Nat) (v : W32) : (wr s a v).load = s.load := rfl
@[simp] theorem wr_kite (s : State) (a : Nat) (v : W32) : (wr s a v).kite = s.kite := rfl
@[simp] theorem wr_tlm (s : State) (a : Nat) (v : W32) : (wr s a v).tlm = s.tlm := rfl
@[simp] theorem wr_scrUnbind (s : State) (a : Nat) (v : W32) : (wr s a v).scrUnbind = s.scrUnbind := rfl
@[simp] theorem wr_nva (s : State) (a : Nat) (v : W32) : (wr s a v).nva = s.nva := rfl
@[simp] theorem wr_nvIncomplete (s : State) (a : Nat) (v : W32) : (wr s a v).nvIncomplete = s.nvIncomplete := rfl
@[simp] theorem wr_nvFill (s : State) (a : Nat) (v : W32) : (wr s a v).nvFill = s.nvFill := rfl
@[simp] theorem wr_ports (s : State) (a : Nat) (v : W32) : (wr s a v).ports = s.ports := rfl
@[simp] theorem wr_enu (s : State) (a : Nat) (v : W32) : (wr s a v).enu = s.enu := rfl
@[simp] theorem wr_har (s : State) (a : Nat) (v : W32) : (wr s a v).har = s.har := rfl
@[simp] theorem wr_vbu (s : State) (a : Nat) (v : W32) : (wr s a v).vbu = s.vbu := rfl
@[simp] theorem wr_osp (s : State) (a : Nat) (v : W32) : (wr s a v).osp = s.osp := rfl
@[simp] theorem wr_tag (s : State) (a : Nat) (v : W32) : (wr s a v).tag = s.tag := rfl
@[simp] theorem wr_tagMem (s : State) (a : Nat) (v : W32) : (wr s a v).tagMem = s.tagMem := rfl
@[simp] theorem wr_bst (s : State) (a : Nat) (v : W32) : (wr s a v).bst = s.bst := rfl
@[simp] theorem wr_lcy (s : State) (a : Nat) (v : W32) : (wr s a v).lcy = s.lcy := rfl
@[simp] theorem wr_tap (s : State) (a : Nat) (v : W32) : (wr s a v).tap = s.tap := rfl
@[simp] theorem wr_regDue (s : State) (a : Nat) (v : W32) : (wr s a v).regDue = s.regDue := rfl
@[simp] theorem wr_regPart (s : State) (a : Nat) (v : W32) : (wr s a v).regPart = s.regPart := rfl

/-! ### setf -/
@[simp] theorem setf_pending (s : State) (f : Fld) (v : Nat) : (setf s f v).pending = s.pending := rfl
@[simp] theorem setf_mem (s : State) (f : Fld) (v : Nat) : (setf s f v).mem = s.mem := rfl
@[simp] theorem setf_memFill (s : State) (f : Fld) (v : Nat) : (setf s f v).memFill = s.memFill := rfl
@[simp] theorem setf_free (s : State) (f : Fld) (v : Nat) : (setf s f v).free = s.free := rfl
@[simp] theorem setf_out (s : State) (f : Fld) (v : Nat) : (setf s f v).out = s.out := rfl
@[simp] theorem setf_ctxs (s : State) (f : Fld) (v : Nat) : (setf s f v).ctxs = s.ctxs := rfl
@[simp] theorem setf_ops (s : State) (f : Fld) (v : Nat) : (setf s f v).ops = s.ops := rfl
@[simp] theorem setf_nextTag (s : State) (f : Fld) (v : Nat) : (setf s f v).nextTag = s.nextTag := rfl
@[simp] theorem setf_rounds (s : State) (f : Fld) (v : Nat) : (setf s f v).rounds = s.rounds := rfl
@[simp] theorem setf_ledger (s : State) (f : Fld) (v : Nat) : (setf s f v).ledger = s.ledger := rfl
@[simp] theorem setf_hif (s : State) (f : Fld) (v : Nat) : (setf s f v).hif = s.hif := rfl
@[simp] theorem setf_pwr (s : State) (f : Fld) (v : Nat) : (setf s f v).pwr = s.pwr := rfl
@[simp] theorem setf_doms (s : State) (f : Fld) (v : Nat) : (setf s f v).doms = s.doms := rfl
@[simp] theorem setf_banks (s : State) (f : Fld) (v : Nat) : (setf s f v).banks = s.banks := rfl
@[simp] theorem setf_log (s : State) (f : Fld) (v : Nat) : (setf s f v).log = s.log := rfl
@[simp] theorem setf_tbu (s : State) (f : Fld) (v : Nat) : (setf s f v).tbu = s.tbu := rfl
@[simp] theorem setf_nv (s : State) (f : Fld) (v : Nat) : (setf s f v).nv = s.nv := rfl
@[simp] theorem setf_planeMem (s : State) (f : Fld) (v : Nat) : (setf s f v).planeMem = s.planeMem := rfl
@[simp] theorem setf_fifos (s : State) (f : Fld) (v : Nat) : (setf s f v).fifos = s.fifos := rfl
@[simp] theorem setf_clk (s : State) (f : Fld) (v : Nat) : (setf s f v).clk = s.clk := rfl
@[simp] theorem setf_fab (s : State) (f : Fld) (v : Nat) : (setf s f v).fab = s.fab := rfl
@[simp] theorem setf_boot (s : State) (f : Fld) (v : Nat) : (setf s f v).boot = s.boot := rfl
@[simp] theorem setf_stage (s : State) (f : Fld) (v : Nat) : (setf s f v).stage = s.stage := rfl
@[simp] theorem setf_ho (s : State) (f : Fld) (v : Nat) : (setf s f v).ho = s.ho := rfl
@[simp] theorem setf_planeFill (s : State) (f : Fld) (v : Nat) : (setf s f v).planeFill = s.planeFill := rfl
@[simp] theorem setf_dep (s : State) (f : Fld) (v : Nat) : (setf s f v).dep = s.dep := rfl
@[simp] theorem setf_flash (s : State) (f : Fld) (v : Nat) : (setf s f v).flash = s.flash := rfl
@[simp] theorem setf_flashFill (s : State) (f : Fld) (v : Nat) : (setf s f v).flashFill = s.flashFill := rfl
@[simp] theorem setf_keys (s : State) (f : Fld) (v : Nat) : (setf s f v).keys = s.keys := rfl
@[simp] theorem setf_prevEpoch (s : State) (f : Fld) (v : Nat) : (setf s f v).prevEpoch = s.prevEpoch := rfl
@[simp] theorem setf_load (s : State) (f : Fld) (v : Nat) : (setf s f v).load = s.load := rfl
@[simp] theorem setf_kite (s : State) (f : Fld) (v : Nat) : (setf s f v).kite = s.kite := rfl
@[simp] theorem setf_tlm (s : State) (f : Fld) (v : Nat) : (setf s f v).tlm = s.tlm := rfl
@[simp] theorem setf_scrUnbind (s : State) (f : Fld) (v : Nat) : (setf s f v).scrUnbind = s.scrUnbind := rfl
@[simp] theorem setf_nva (s : State) (f : Fld) (v : Nat) : (setf s f v).nva = s.nva := rfl
@[simp] theorem setf_nvIncomplete (s : State) (f : Fld) (v : Nat) : (setf s f v).nvIncomplete = s.nvIncomplete := rfl
@[simp] theorem setf_nvFill (s : State) (f : Fld) (v : Nat) : (setf s f v).nvFill = s.nvFill := rfl
@[simp] theorem setf_ports (s : State) (f : Fld) (v : Nat) : (setf s f v).ports = s.ports := rfl
@[simp] theorem setf_enu (s : State) (f : Fld) (v : Nat) : (setf s f v).enu = s.enu := rfl
@[simp] theorem setf_har (s : State) (f : Fld) (v : Nat) : (setf s f v).har = s.har := rfl
@[simp] theorem setf_vbu (s : State) (f : Fld) (v : Nat) : (setf s f v).vbu = s.vbu := rfl
@[simp] theorem setf_osp (s : State) (f : Fld) (v : Nat) : (setf s f v).osp = s.osp := rfl
@[simp] theorem setf_tag (s : State) (f : Fld) (v : Nat) : (setf s f v).tag = s.tag := rfl
@[simp] theorem setf_tagMem (s : State) (f : Fld) (v : Nat) : (setf s f v).tagMem = s.tagMem := rfl
@[simp] theorem setf_bst (s : State) (f : Fld) (v : Nat) : (setf s f v).bst = s.bst := rfl
@[simp] theorem setf_lcy (s : State) (f : Fld) (v : Nat) : (setf s f v).lcy = s.lcy := rfl
@[simp] theorem setf_tap (s : State) (f : Fld) (v : Nat) : (setf s f v).tap = s.tap := rfl
@[simp] theorem setf_regDue (s : State) (f : Fld) (v : Nat) : (setf s f v).regDue = s.regDue := rfl
@[simp] theorem setf_regPart (s : State) (f : Fld) (v : Nat) : (setf s f v).regPart = s.regPart := rfl

/-! ### raise -/
@[simp] theorem raise_pending (s : State) (f : Fld) : (raise s f).pending = s.pending := rfl
@[simp] theorem raise_mem (s : State) (f : Fld) : (raise s f).mem = s.mem := rfl
@[simp] theorem raise_memFill (s : State) (f : Fld) : (raise s f).memFill = s.memFill := rfl
@[simp] theorem raise_free (s : State) (f : Fld) : (raise s f).free = s.free := rfl
@[simp] theorem raise_out (s : State) (f : Fld) : (raise s f).out = s.out := rfl
@[simp] theorem raise_ctxs (s : State) (f : Fld) : (raise s f).ctxs = s.ctxs := rfl
@[simp] theorem raise_ops (s : State) (f : Fld) : (raise s f).ops = s.ops := rfl
@[simp] theorem raise_nextTag (s : State) (f : Fld) : (raise s f).nextTag = s.nextTag := rfl
@[simp] theorem raise_rounds (s : State) (f : Fld) : (raise s f).rounds = s.rounds := rfl
@[simp] theorem raise_ledger (s : State) (f : Fld) : (raise s f).ledger = s.ledger := rfl
@[simp] theorem raise_hif (s : State) (f : Fld) : (raise s f).hif = s.hif := rfl
@[simp] theorem raise_pwr (s : State) (f : Fld) : (raise s f).pwr = s.pwr := rfl
@[simp] theorem raise_doms (s : State) (f : Fld) : (raise s f).doms = s.doms := rfl
@[simp] theorem raise_banks (s : State) (f : Fld) : (raise s f).banks = s.banks := rfl
@[simp] theorem raise_log (s : State) (f : Fld) : (raise s f).log = s.log := rfl
@[simp] theorem raise_tbu (s : State) (f : Fld) : (raise s f).tbu = s.tbu := rfl
@[simp] theorem raise_nv (s : State) (f : Fld) : (raise s f).nv = s.nv := rfl
@[simp] theorem raise_planeMem (s : State) (f : Fld) : (raise s f).planeMem = s.planeMem := rfl
@[simp] theorem raise_fifos (s : State) (f : Fld) : (raise s f).fifos = s.fifos := rfl
@[simp] theorem raise_clk (s : State) (f : Fld) : (raise s f).clk = s.clk := rfl
@[simp] theorem raise_fab (s : State) (f : Fld) : (raise s f).fab = s.fab := rfl
@[simp] theorem raise_boot (s : State) (f : Fld) : (raise s f).boot = s.boot := rfl
@[simp] theorem raise_stage (s : State) (f : Fld) : (raise s f).stage = s.stage := rfl
@[simp] theorem raise_ho (s : State) (f : Fld) : (raise s f).ho = s.ho := rfl
@[simp] theorem raise_planeFill (s : State) (f : Fld) : (raise s f).planeFill = s.planeFill := rfl
@[simp] theorem raise_dep (s : State) (f : Fld) : (raise s f).dep = s.dep := rfl
@[simp] theorem raise_flash (s : State) (f : Fld) : (raise s f).flash = s.flash := rfl
@[simp] theorem raise_flashFill (s : State) (f : Fld) : (raise s f).flashFill = s.flashFill := rfl
@[simp] theorem raise_keys (s : State) (f : Fld) : (raise s f).keys = s.keys := rfl
@[simp] theorem raise_prevEpoch (s : State) (f : Fld) : (raise s f).prevEpoch = s.prevEpoch := rfl
@[simp] theorem raise_load (s : State) (f : Fld) : (raise s f).load = s.load := rfl
@[simp] theorem raise_kite (s : State) (f : Fld) : (raise s f).kite = s.kite := rfl
@[simp] theorem raise_tlm (s : State) (f : Fld) : (raise s f).tlm = s.tlm := rfl
@[simp] theorem raise_scrUnbind (s : State) (f : Fld) : (raise s f).scrUnbind = s.scrUnbind := rfl
@[simp] theorem raise_nva (s : State) (f : Fld) : (raise s f).nva = s.nva := rfl
@[simp] theorem raise_nvIncomplete (s : State) (f : Fld) : (raise s f).nvIncomplete = s.nvIncomplete := rfl
@[simp] theorem raise_nvFill (s : State) (f : Fld) : (raise s f).nvFill = s.nvFill := rfl
@[simp] theorem raise_ports (s : State) (f : Fld) : (raise s f).ports = s.ports := rfl
@[simp] theorem raise_enu (s : State) (f : Fld) : (raise s f).enu = s.enu := rfl
@[simp] theorem raise_har (s : State) (f : Fld) : (raise s f).har = s.har := rfl
@[simp] theorem raise_vbu (s : State) (f : Fld) : (raise s f).vbu = s.vbu := rfl
@[simp] theorem raise_osp (s : State) (f : Fld) : (raise s f).osp = s.osp := rfl
@[simp] theorem raise_tag (s : State) (f : Fld) : (raise s f).tag = s.tag := rfl
@[simp] theorem raise_tagMem (s : State) (f : Fld) : (raise s f).tagMem = s.tagMem := rfl
@[simp] theorem raise_bst (s : State) (f : Fld) : (raise s f).bst = s.bst := rfl
@[simp] theorem raise_lcy (s : State) (f : Fld) : (raise s f).lcy = s.lcy := rfl
@[simp] theorem raise_tap (s : State) (f : Fld) : (raise s f).tap = s.tap := rfl
@[simp] theorem raise_regDue (s : State) (f : Fld) : (raise s f).regDue = s.regDue := rfl
@[simp] theorem raise_regPart (s : State) (f : Fld) : (raise s f).regPart = s.regPart := rfl

/-! ### satAdd -/
@[simp] theorem satAdd_pending (s : State) (f : Fld) (n : Nat) : (satAdd s f n).pending = s.pending := rfl
@[simp] theorem satAdd_mem (s : State) (f : Fld) (n : Nat) : (satAdd s f n).mem = s.mem := rfl
@[simp] theorem satAdd_memFill (s : State) (f : Fld) (n : Nat) : (satAdd s f n).memFill = s.memFill := rfl
@[simp] theorem satAdd_free (s : State) (f : Fld) (n : Nat) : (satAdd s f n).free = s.free := rfl
@[simp] theorem satAdd_out (s : State) (f : Fld) (n : Nat) : (satAdd s f n).out = s.out := rfl
@[simp] theorem satAdd_ctxs (s : State) (f : Fld) (n : Nat) : (satAdd s f n).ctxs = s.ctxs := rfl
@[simp] theorem satAdd_ops (s : State) (f : Fld) (n : Nat) : (satAdd s f n).ops = s.ops := rfl
@[simp] theorem satAdd_nextTag (s : State) (f : Fld) (n : Nat) : (satAdd s f n).nextTag = s.nextTag := rfl
@[simp] theorem satAdd_rounds (s : State) (f : Fld) (n : Nat) : (satAdd s f n).rounds = s.rounds := rfl
@[simp] theorem satAdd_ledger (s : State) (f : Fld) (n : Nat) : (satAdd s f n).ledger = s.ledger := rfl
@[simp] theorem satAdd_hif (s : State) (f : Fld) (n : Nat) : (satAdd s f n).hif = s.hif := rfl
@[simp] theorem satAdd_pwr (s : State) (f : Fld) (n : Nat) : (satAdd s f n).pwr = s.pwr := rfl
@[simp] theorem satAdd_doms (s : State) (f : Fld) (n : Nat) : (satAdd s f n).doms = s.doms := rfl
@[simp] theorem satAdd_banks (s : State) (f : Fld) (n : Nat) : (satAdd s f n).banks = s.banks := rfl
@[simp] theorem satAdd_log (s : State) (f : Fld) (n : Nat) : (satAdd s f n).log = s.log := rfl
@[simp] theorem satAdd_tbu (s : State) (f : Fld) (n : Nat) : (satAdd s f n).tbu = s.tbu := rfl
@[simp] theorem satAdd_nv (s : State) (f : Fld) (n : Nat) : (satAdd s f n).nv = s.nv := rfl
@[simp] theorem satAdd_planeMem (s : State) (f : Fld) (n : Nat) : (satAdd s f n).planeMem = s.planeMem := rfl
@[simp] theorem satAdd_fifos (s : State) (f : Fld) (n : Nat) : (satAdd s f n).fifos = s.fifos := rfl
@[simp] theorem satAdd_clk (s : State) (f : Fld) (n : Nat) : (satAdd s f n).clk = s.clk := rfl
@[simp] theorem satAdd_fab (s : State) (f : Fld) (n : Nat) : (satAdd s f n).fab = s.fab := rfl
@[simp] theorem satAdd_boot (s : State) (f : Fld) (n : Nat) : (satAdd s f n).boot = s.boot := rfl
@[simp] theorem satAdd_stage (s : State) (f : Fld) (n : Nat) : (satAdd s f n).stage = s.stage := rfl
@[simp] theorem satAdd_ho (s : State) (f : Fld) (n : Nat) : (satAdd s f n).ho = s.ho := rfl
@[simp] theorem satAdd_planeFill (s : State) (f : Fld) (n : Nat) : (satAdd s f n).planeFill = s.planeFill := rfl
@[simp] theorem satAdd_dep (s : State) (f : Fld) (n : Nat) : (satAdd s f n).dep = s.dep := rfl
@[simp] theorem satAdd_flash (s : State) (f : Fld) (n : Nat) : (satAdd s f n).flash = s.flash := rfl
@[simp] theorem satAdd_flashFill (s : State) (f : Fld) (n : Nat) : (satAdd s f n).flashFill = s.flashFill := rfl
@[simp] theorem satAdd_keys (s : State) (f : Fld) (n : Nat) : (satAdd s f n).keys = s.keys := rfl
@[simp] theorem satAdd_prevEpoch (s : State) (f : Fld) (n : Nat) : (satAdd s f n).prevEpoch = s.prevEpoch := rfl
@[simp] theorem satAdd_load (s : State) (f : Fld) (n : Nat) : (satAdd s f n).load = s.load := rfl
@[simp] theorem satAdd_kite (s : State) (f : Fld) (n : Nat) : (satAdd s f n).kite = s.kite := rfl
@[simp] theorem satAdd_tlm (s : State) (f : Fld) (n : Nat) : (satAdd s f n).tlm = s.tlm := rfl
@[simp] theorem satAdd_scrUnbind (s : State) (f : Fld) (n : Nat) : (satAdd s f n).scrUnbind = s.scrUnbind := rfl
@[simp] theorem satAdd_nva (s : State) (f : Fld) (n : Nat) : (satAdd s f n).nva = s.nva := rfl
@[simp] theorem satAdd_nvIncomplete (s : State) (f : Fld) (n : Nat) : (satAdd s f n).nvIncomplete = s.nvIncomplete := rfl
@[simp] theorem satAdd_nvFill (s : State) (f : Fld) (n : Nat) : (satAdd s f n).nvFill = s.nvFill := rfl
@[simp] theorem satAdd_ports (s : State) (f : Fld) (n : Nat) : (satAdd s f n).ports = s.ports := rfl
@[simp] theorem satAdd_enu (s : State) (f : Fld) (n : Nat) : (satAdd s f n).enu = s.enu := rfl
@[simp] theorem satAdd_har (s : State) (f : Fld) (n : Nat) : (satAdd s f n).har = s.har := rfl
@[simp] theorem satAdd_vbu (s : State) (f : Fld) (n : Nat) : (satAdd s f n).vbu = s.vbu := rfl
@[simp] theorem satAdd_osp (s : State) (f : Fld) (n : Nat) : (satAdd s f n).osp = s.osp := rfl
@[simp] theorem satAdd_tag (s : State) (f : Fld) (n : Nat) : (satAdd s f n).tag = s.tag := rfl
@[simp] theorem satAdd_tagMem (s : State) (f : Fld) (n : Nat) : (satAdd s f n).tagMem = s.tagMem := rfl
@[simp] theorem satAdd_bst (s : State) (f : Fld) (n : Nat) : (satAdd s f n).bst = s.bst := rfl
@[simp] theorem satAdd_lcy (s : State) (f : Fld) (n : Nat) : (satAdd s f n).lcy = s.lcy := rfl
@[simp] theorem satAdd_tap (s : State) (f : Fld) (n : Nat) : (satAdd s f n).tap = s.tap := rfl
@[simp] theorem satAdd_regDue (s : State) (f : Fld) (n : Nat) : (satAdd s f n).regDue = s.regDue := rfl
@[simp] theorem satAdd_regPart (s : State) (f : Fld) (n : Nat) : (satAdd s f n).regPart = s.regPart := rfl

/-! ### wrapAdd -/
@[simp] theorem wrapAdd_pending (s : State) (f : Fld) (n : Nat) : (wrapAdd s f n).pending = s.pending := rfl
@[simp] theorem wrapAdd_mem (s : State) (f : Fld) (n : Nat) : (wrapAdd s f n).mem = s.mem := rfl
@[simp] theorem wrapAdd_memFill (s : State) (f : Fld) (n : Nat) : (wrapAdd s f n).memFill = s.memFill := rfl
@[simp] theorem wrapAdd_free (s : State) (f : Fld) (n : Nat) : (wrapAdd s f n).free = s.free := rfl
@[simp] theorem wrapAdd_out (s : State) (f : Fld) (n : Nat) : (wrapAdd s f n).out = s.out := rfl
@[simp] theorem wrapAdd_ctxs (s : State) (f : Fld) (n : Nat) : (wrapAdd s f n).ctxs = s.ctxs := rfl
@[simp] theorem wrapAdd_ops (s : State) (f : Fld) (n : Nat) : (wrapAdd s f n).ops = s.ops := rfl
@[simp] theorem wrapAdd_nextTag (s : State) (f : Fld) (n : Nat) : (wrapAdd s f n).nextTag = s.nextTag := rfl
@[simp] theorem wrapAdd_rounds (s : State) (f : Fld) (n : Nat) : (wrapAdd s f n).rounds = s.rounds := rfl
@[simp] theorem wrapAdd_ledger (s : State) (f : Fld) (n : Nat) : (wrapAdd s f n).ledger = s.ledger := rfl
@[simp] theorem wrapAdd_hif (s : State) (f : Fld) (n : Nat) : (wrapAdd s f n).hif = s.hif := rfl
@[simp] theorem wrapAdd_pwr (s : State) (f : Fld) (n : Nat) : (wrapAdd s f n).pwr = s.pwr := rfl
@[simp] theorem wrapAdd_doms (s : State) (f : Fld) (n : Nat) : (wrapAdd s f n).doms = s.doms := rfl
@[simp] theorem wrapAdd_banks (s : State) (f : Fld) (n : Nat) : (wrapAdd s f n).banks = s.banks := rfl
@[simp] theorem wrapAdd_log (s : State) (f : Fld) (n : Nat) : (wrapAdd s f n).log = s.log := rfl
@[simp] theorem wrapAdd_tbu (s : State) (f : Fld) (n : Nat) : (wrapAdd s f n).tbu = s.tbu := rfl
@[simp] theorem wrapAdd_nv (s : State) (f : Fld) (n : Nat) : (wrapAdd s f n).nv = s.nv := rfl
@[simp] theorem wrapAdd_planeMem (s : State) (f : Fld) (n : Nat) : (wrapAdd s f n).planeMem = s.planeMem := rfl
@[simp] theorem wrapAdd_fifos (s : State) (f : Fld) (n : Nat) : (wrapAdd s f n).fifos = s.fifos := rfl
@[simp] theorem wrapAdd_clk (s : State) (f : Fld) (n : Nat) : (wrapAdd s f n).clk = s.clk := rfl
@[simp] theorem wrapAdd_fab (s : State) (f : Fld) (n : Nat) : (wrapAdd s f n).fab = s.fab := rfl
@[simp] theorem wrapAdd_boot (s : State) (f : Fld) (n : Nat) : (wrapAdd s f n).boot = s.boot := rfl
@[simp] theorem wrapAdd_stage (s : State) (f : Fld) (n : Nat) : (wrapAdd s f n).stage = s.stage := rfl
@[simp] theorem wrapAdd_ho (s : State) (f : Fld) (n : Nat) : (wrapAdd s f n).ho = s.ho := rfl
@[simp] theorem wrapAdd_planeFill (s : State) (f : Fld) (n : Nat) : (wrapAdd s f n).planeFill = s.planeFill := rfl
@[simp] theorem wrapAdd_dep (s : State) (f : Fld) (n : Nat) : (wrapAdd s f n).dep = s.dep := rfl
@[simp] theorem wrapAdd_flash (s : State) (f : Fld) (n : Nat) : (wrapAdd s f n).flash = s.flash := rfl
@[simp] theorem wrapAdd_flashFill (s : State) (f : Fld) (n : Nat) : (wrapAdd s f n).flashFill = s.flashFill := rfl
@[simp] theorem wrapAdd_keys (s : State) (f : Fld) (n : Nat) : (wrapAdd s f n).keys = s.keys := rfl
@[simp] theorem wrapAdd_prevEpoch (s : State) (f : Fld) (n : Nat) : (wrapAdd s f n).prevEpoch = s.prevEpoch := rfl
@[simp] theorem wrapAdd_load (s : State) (f : Fld) (n : Nat) : (wrapAdd s f n).load = s.load := rfl
@[simp] theorem wrapAdd_kite (s : State) (f : Fld) (n : Nat) : (wrapAdd s f n).kite = s.kite := rfl
@[simp] theorem wrapAdd_tlm (s : State) (f : Fld) (n : Nat) : (wrapAdd s f n).tlm = s.tlm := rfl
@[simp] theorem wrapAdd_scrUnbind (s : State) (f : Fld) (n : Nat) : (wrapAdd s f n).scrUnbind = s.scrUnbind := rfl
@[simp] theorem wrapAdd_nva (s : State) (f : Fld) (n : Nat) : (wrapAdd s f n).nva = s.nva := rfl
@[simp] theorem wrapAdd_nvIncomplete (s : State) (f : Fld) (n : Nat) : (wrapAdd s f n).nvIncomplete = s.nvIncomplete := rfl
@[simp] theorem wrapAdd_nvFill (s : State) (f : Fld) (n : Nat) : (wrapAdd s f n).nvFill = s.nvFill := rfl
@[simp] theorem wrapAdd_ports (s : State) (f : Fld) (n : Nat) : (wrapAdd s f n).ports = s.ports := rfl
@[simp] theorem wrapAdd_enu (s : State) (f : Fld) (n : Nat) : (wrapAdd s f n).enu = s.enu := rfl
@[simp] theorem wrapAdd_har (s : State) (f : Fld) (n : Nat) : (wrapAdd s f n).har = s.har := rfl
@[simp] theorem wrapAdd_vbu (s : State) (f : Fld) (n : Nat) : (wrapAdd s f n).vbu = s.vbu := rfl
@[simp] theorem wrapAdd_osp (s : State) (f : Fld) (n : Nat) : (wrapAdd s f n).osp = s.osp := rfl
@[simp] theorem wrapAdd_tag (s : State) (f : Fld) (n : Nat) : (wrapAdd s f n).tag = s.tag := rfl
@[simp] theorem wrapAdd_tagMem (s : State) (f : Fld) (n : Nat) : (wrapAdd s f n).tagMem = s.tagMem := rfl
@[simp] theorem wrapAdd_bst (s : State) (f : Fld) (n : Nat) : (wrapAdd s f n).bst = s.bst := rfl
@[simp] theorem wrapAdd_lcy (s : State) (f : Fld) (n : Nat) : (wrapAdd s f n).lcy = s.lcy := rfl
@[simp] theorem wrapAdd_tap (s : State) (f : Fld) (n : Nat) : (wrapAdd s f n).tap = s.tap := rfl
@[simp] theorem wrapAdd_regDue (s : State) (f : Fld) (n : Nat) : (wrapAdd s f n).regDue = s.regDue := rfl
@[simp] theorem wrapAdd_regPart (s : State) (f : Fld) (n : Nat) : (wrapAdd s f n).regPart = s.regPart := rfl

/-! ### maxTo -/
@[simp] theorem maxTo_pending (s : State) (f : Fld) (n : Nat) : (maxTo s f n).pending = s.pending := rfl
@[simp] theorem maxTo_mem (s : State) (f : Fld) (n : Nat) : (maxTo s f n).mem = s.mem := rfl
@[simp] theorem maxTo_memFill (s : State) (f : Fld) (n : Nat) : (maxTo s f n).memFill = s.memFill := rfl
@[simp] theorem maxTo_free (s : State) (f : Fld) (n : Nat) : (maxTo s f n).free = s.free := rfl
@[simp] theorem maxTo_out (s : State) (f : Fld) (n : Nat) : (maxTo s f n).out = s.out := rfl
@[simp] theorem maxTo_ctxs (s : State) (f : Fld) (n : Nat) : (maxTo s f n).ctxs = s.ctxs := rfl
@[simp] theorem maxTo_ops (s : State) (f : Fld) (n : Nat) : (maxTo s f n).ops = s.ops := rfl
@[simp] theorem maxTo_nextTag (s : State) (f : Fld) (n : Nat) : (maxTo s f n).nextTag = s.nextTag := rfl
@[simp] theorem maxTo_rounds (s : State) (f : Fld) (n : Nat) : (maxTo s f n).rounds = s.rounds := rfl
@[simp] theorem maxTo_ledger (s : State) (f : Fld) (n : Nat) : (maxTo s f n).ledger = s.ledger := rfl
@[simp] theorem maxTo_hif (s : State) (f : Fld) (n : Nat) : (maxTo s f n).hif = s.hif := rfl
@[simp] theorem maxTo_pwr (s : State) (f : Fld) (n : Nat) : (maxTo s f n).pwr = s.pwr := rfl
@[simp] theorem maxTo_doms (s : State) (f : Fld) (n : Nat) : (maxTo s f n).doms = s.doms := rfl
@[simp] theorem maxTo_banks (s : State) (f : Fld) (n : Nat) : (maxTo s f n).banks = s.banks := rfl
@[simp] theorem maxTo_log (s : State) (f : Fld) (n : Nat) : (maxTo s f n).log = s.log := rfl
@[simp] theorem maxTo_tbu (s : State) (f : Fld) (n : Nat) : (maxTo s f n).tbu = s.tbu := rfl
@[simp] theorem maxTo_nv (s : State) (f : Fld) (n : Nat) : (maxTo s f n).nv = s.nv := rfl
@[simp] theorem maxTo_planeMem (s : State) (f : Fld) (n : Nat) : (maxTo s f n).planeMem = s.planeMem := rfl
@[simp] theorem maxTo_fifos (s : State) (f : Fld) (n : Nat) : (maxTo s f n).fifos = s.fifos := rfl
@[simp] theorem maxTo_clk (s : State) (f : Fld) (n : Nat) : (maxTo s f n).clk = s.clk := rfl
@[simp] theorem maxTo_fab (s : State) (f : Fld) (n : Nat) : (maxTo s f n).fab = s.fab := rfl
@[simp] theorem maxTo_boot (s : State) (f : Fld) (n : Nat) : (maxTo s f n).boot = s.boot := rfl
@[simp] theorem maxTo_stage (s : State) (f : Fld) (n : Nat) : (maxTo s f n).stage = s.stage := rfl
@[simp] theorem maxTo_ho (s : State) (f : Fld) (n : Nat) : (maxTo s f n).ho = s.ho := rfl
@[simp] theorem maxTo_planeFill (s : State) (f : Fld) (n : Nat) : (maxTo s f n).planeFill = s.planeFill := rfl
@[simp] theorem maxTo_dep (s : State) (f : Fld) (n : Nat) : (maxTo s f n).dep = s.dep := rfl
@[simp] theorem maxTo_flash (s : State) (f : Fld) (n : Nat) : (maxTo s f n).flash = s.flash := rfl
@[simp] theorem maxTo_flashFill (s : State) (f : Fld) (n : Nat) : (maxTo s f n).flashFill = s.flashFill := rfl
@[simp] theorem maxTo_keys (s : State) (f : Fld) (n : Nat) : (maxTo s f n).keys = s.keys := rfl
@[simp] theorem maxTo_prevEpoch (s : State) (f : Fld) (n : Nat) : (maxTo s f n).prevEpoch = s.prevEpoch := rfl
@[simp] theorem maxTo_load (s : State) (f : Fld) (n : Nat) : (maxTo s f n).load = s.load := rfl
@[simp] theorem maxTo_kite (s : State) (f : Fld) (n : Nat) : (maxTo s f n).kite = s.kite := rfl
@[simp] theorem maxTo_tlm (s : State) (f : Fld) (n : Nat) : (maxTo s f n).tlm = s.tlm := rfl
@[simp] theorem maxTo_scrUnbind (s : State) (f : Fld) (n : Nat) : (maxTo s f n).scrUnbind = s.scrUnbind := rfl
@[simp] theorem maxTo_nva (s : State) (f : Fld) (n : Nat) : (maxTo s f n).nva = s.nva := rfl
@[simp] theorem maxTo_nvIncomplete (s : State) (f : Fld) (n : Nat) : (maxTo s f n).nvIncomplete = s.nvIncomplete := rfl
@[simp] theorem maxTo_nvFill (s : State) (f : Fld) (n : Nat) : (maxTo s f n).nvFill = s.nvFill := rfl
@[simp] theorem maxTo_ports (s : State) (f : Fld) (n : Nat) : (maxTo s f n).ports = s.ports := rfl
@[simp] theorem maxTo_enu (s : State) (f : Fld) (n : Nat) : (maxTo s f n).enu = s.enu := rfl
@[simp] theorem maxTo_har (s : State) (f : Fld) (n : Nat) : (maxTo s f n).har = s.har := rfl
@[simp] theorem maxTo_vbu (s : State) (f : Fld) (n : Nat) : (maxTo s f n).vbu = s.vbu := rfl
@[simp] theorem maxTo_osp (s : State) (f : Fld) (n : Nat) : (maxTo s f n).osp = s.osp := rfl
@[simp] theorem maxTo_tag (s : State) (f : Fld) (n : Nat) : (maxTo s f n).tag = s.tag := rfl
@[simp] theorem maxTo_tagMem (s : State) (f : Fld) (n : Nat) : (maxTo s f n).tagMem = s.tagMem := rfl
@[simp] theorem maxTo_bst (s : State) (f : Fld) (n : Nat) : (maxTo s f n).bst = s.bst := rfl
@[simp] theorem maxTo_lcy (s : State) (f : Fld) (n : Nat) : (maxTo s f n).lcy = s.lcy := rfl
@[simp] theorem maxTo_tap (s : State) (f : Fld) (n : Nat) : (maxTo s f n).tap = s.tap := rfl
@[simp] theorem maxTo_regDue (s : State) (f : Fld) (n : Nat) : (maxTo s f n).regDue = s.regDue := rfl
@[simp] theorem maxTo_regPart (s : State) (f : Fld) (n : Nat) : (maxTo s f n).regPart = s.regPart := rfl

/-! ### resetRegs -/
@[simp] theorem resetRegs_pending (s : State) (p : RegClass → Bool) : (resetRegs s p).pending = s.pending := rfl
@[simp] theorem resetRegs_mem (s : State) (p : RegClass → Bool) : (resetRegs s p).mem = s.mem := rfl
@[simp] theorem resetRegs_memFill (s : State) (p : RegClass → Bool) : (resetRegs s p).memFill = s.memFill := rfl
@[simp] theorem resetRegs_free (s : State) (p : RegClass → Bool) : (resetRegs s p).free = s.free := rfl
@[simp] theorem resetRegs_out (s : State) (p : RegClass → Bool) : (resetRegs s p).out = s.out := rfl
@[simp] theorem resetRegs_ctxs (s : State) (p : RegClass → Bool) : (resetRegs s p).ctxs = s.ctxs := rfl
@[simp] theorem resetRegs_ops (s : State) (p : RegClass → Bool) : (resetRegs s p).ops = s.ops := rfl
@[simp] theorem resetRegs_nextTag (s : State) (p : RegClass → Bool) : (resetRegs s p).nextTag = s.nextTag := rfl
@[simp] theorem resetRegs_rounds (s : State) (p : RegClass → Bool) : (resetRegs s p).rounds = s.rounds := rfl
@[simp] theorem resetRegs_ledger (s : State) (p : RegClass → Bool) : (resetRegs s p).ledger = s.ledger := rfl
@[simp] theorem resetRegs_hif (s : State) (p : RegClass → Bool) : (resetRegs s p).hif = s.hif := rfl
@[simp] theorem resetRegs_pwr (s : State) (p : RegClass → Bool) : (resetRegs s p).pwr = s.pwr := rfl
@[simp] theorem resetRegs_doms (s : State) (p : RegClass → Bool) : (resetRegs s p).doms = s.doms := rfl
@[simp] theorem resetRegs_banks (s : State) (p : RegClass → Bool) : (resetRegs s p).banks = s.banks := rfl
@[simp] theorem resetRegs_log (s : State) (p : RegClass → Bool) : (resetRegs s p).log = s.log := rfl
@[simp] theorem resetRegs_tbu (s : State) (p : RegClass → Bool) : (resetRegs s p).tbu = s.tbu := rfl
@[simp] theorem resetRegs_nv (s : State) (p : RegClass → Bool) : (resetRegs s p).nv = s.nv := rfl
@[simp] theorem resetRegs_planeMem (s : State) (p : RegClass → Bool) : (resetRegs s p).planeMem = s.planeMem := rfl
@[simp] theorem resetRegs_fifos (s : State) (p : RegClass → Bool) : (resetRegs s p).fifos = s.fifos := rfl
@[simp] theorem resetRegs_clk (s : State) (p : RegClass → Bool) : (resetRegs s p).clk = s.clk := rfl
@[simp] theorem resetRegs_fab (s : State) (p : RegClass → Bool) : (resetRegs s p).fab = s.fab := rfl
@[simp] theorem resetRegs_boot (s : State) (p : RegClass → Bool) : (resetRegs s p).boot = s.boot := rfl
@[simp] theorem resetRegs_stage (s : State) (p : RegClass → Bool) : (resetRegs s p).stage = s.stage := rfl
@[simp] theorem resetRegs_ho (s : State) (p : RegClass → Bool) : (resetRegs s p).ho = s.ho := rfl
@[simp] theorem resetRegs_planeFill (s : State) (p : RegClass → Bool) : (resetRegs s p).planeFill = s.planeFill := rfl
@[simp] theorem resetRegs_dep (s : State) (p : RegClass → Bool) : (resetRegs s p).dep = s.dep := rfl
@[simp] theorem resetRegs_flash (s : State) (p : RegClass → Bool) : (resetRegs s p).flash = s.flash := rfl
@[simp] theorem resetRegs_flashFill (s : State) (p : RegClass → Bool) : (resetRegs s p).flashFill = s.flashFill := rfl
@[simp] theorem resetRegs_keys (s : State) (p : RegClass → Bool) : (resetRegs s p).keys = s.keys := rfl
@[simp] theorem resetRegs_prevEpoch (s : State) (p : RegClass → Bool) : (resetRegs s p).prevEpoch = s.prevEpoch := rfl
@[simp] theorem resetRegs_load (s : State) (p : RegClass → Bool) : (resetRegs s p).load = s.load := rfl
@[simp] theorem resetRegs_kite (s : State) (p : RegClass → Bool) : (resetRegs s p).kite = s.kite := rfl
@[simp] theorem resetRegs_tlm (s : State) (p : RegClass → Bool) : (resetRegs s p).tlm = s.tlm := rfl
@[simp] theorem resetRegs_scrUnbind (s : State) (p : RegClass → Bool) : (resetRegs s p).scrUnbind = s.scrUnbind := rfl
@[simp] theorem resetRegs_nva (s : State) (p : RegClass → Bool) : (resetRegs s p).nva = s.nva := rfl
@[simp] theorem resetRegs_nvIncomplete (s : State) (p : RegClass → Bool) : (resetRegs s p).nvIncomplete = s.nvIncomplete := rfl
@[simp] theorem resetRegs_nvFill (s : State) (p : RegClass → Bool) : (resetRegs s p).nvFill = s.nvFill := rfl
@[simp] theorem resetRegs_ports (s : State) (p : RegClass → Bool) : (resetRegs s p).ports = s.ports := rfl
@[simp] theorem resetRegs_enu (s : State) (p : RegClass → Bool) : (resetRegs s p).enu = s.enu := rfl
@[simp] theorem resetRegs_har (s : State) (p : RegClass → Bool) : (resetRegs s p).har = s.har := rfl
@[simp] theorem resetRegs_vbu (s : State) (p : RegClass → Bool) : (resetRegs s p).vbu = s.vbu := rfl
@[simp] theorem resetRegs_osp (s : State) (p : RegClass → Bool) : (resetRegs s p).osp = s.osp := rfl
@[simp] theorem resetRegs_tag (s : State) (p : RegClass → Bool) : (resetRegs s p).tag = s.tag := rfl
@[simp] theorem resetRegs_tagMem (s : State) (p : RegClass → Bool) : (resetRegs s p).tagMem = s.tagMem := rfl
@[simp] theorem resetRegs_bst (s : State) (p : RegClass → Bool) : (resetRegs s p).bst = s.bst := rfl
@[simp] theorem resetRegs_lcy (s : State) (p : RegClass → Bool) : (resetRegs s p).lcy = s.lcy := rfl
@[simp] theorem resetRegs_tap (s : State) (p : RegClass → Bool) : (resetRegs s p).tap = s.tap := rfl
@[simp] theorem resetRegs_regDue (s : State) (p : RegClass → Bool) : (resetRegs s p).regDue = s.regDue := rfl
@[simp] theorem resetRegs_regPart (s : State) (p : RegClass → Bool) : (resetRegs s p).regPart = s.regPart := rfl

/-! ### emit -/
@[simp] theorem emit_pending (s : State) (o : Out) : (emit s o).pending = s.pending := rfl
@[simp] theorem emit_regs (s : State) (o : Out) : (emit s o).regs = s.regs := rfl
@[simp] theorem emit_mem (s : State) (o : Out) : (emit s o).mem = s.mem := rfl
@[simp] theorem emit_memFill (s : State) (o : Out) : (emit s o).memFill = s.memFill := rfl
@[simp] theorem emit_free (s : State) (o : Out) : (emit s o).free = s.free := rfl
@[simp] theorem emit_ctxs (s : State) (o : Out) : (emit s o).ctxs = s.ctxs := rfl
@[simp] theorem emit_ops (s : State) (o : Out) : (emit s o).ops = s.ops := rfl
@[simp] theorem emit_nextTag (s : State) (o : Out) : (emit s o).nextTag = s.nextTag := rfl
@[simp] theorem emit_rounds (s : State) (o : Out) : (emit s o).rounds = s.rounds := rfl
@[simp] theorem emit_ledger (s : State) (o : Out) : (emit s o).ledger = s.ledger := rfl
@[simp] theorem emit_hif (s : State) (o : Out) : (emit s o).hif = s.hif := rfl
@[simp] theorem emit_pwr (s : State) (o : Out) : (emit s o).pwr = s.pwr := rfl
@[simp] theorem emit_doms (s : State) (o : Out) : (emit s o).doms = s.doms := rfl
@[simp] theorem emit_banks (s : State) (o : Out) : (emit s o).banks = s.banks := rfl
@[simp] theorem emit_log (s : State) (o : Out) : (emit s o).log = s.log := rfl
@[simp] theorem emit_tbu (s : State) (o : Out) : (emit s o).tbu = s.tbu := rfl
@[simp] theorem emit_nv (s : State) (o : Out) : (emit s o).nv = s.nv := rfl
@[simp] theorem emit_planeMem (s : State) (o : Out) : (emit s o).planeMem = s.planeMem := rfl
@[simp] theorem emit_fifos (s : State) (o : Out) : (emit s o).fifos = s.fifos := rfl
@[simp] theorem emit_clk (s : State) (o : Out) : (emit s o).clk = s.clk := rfl
@[simp] theorem emit_fab (s : State) (o : Out) : (emit s o).fab = s.fab := rfl
@[simp] theorem emit_boot (s : State) (o : Out) : (emit s o).boot = s.boot := rfl
@[simp] theorem emit_stage (s : State) (o : Out) : (emit s o).stage = s.stage := rfl
@[simp] theorem emit_ho (s : State) (o : Out) : (emit s o).ho = s.ho := rfl
@[simp] theorem emit_planeFill (s : State) (o : Out) : (emit s o).planeFill = s.planeFill := rfl
@[simp] theorem emit_dep (s : State) (o : Out) : (emit s o).dep = s.dep := rfl
@[simp] theorem emit_flash (s : State) (o : Out) : (emit s o).flash = s.flash := rfl
@[simp] theorem emit_flashFill (s : State) (o : Out) : (emit s o).flashFill = s.flashFill := rfl
@[simp] theorem emit_keys (s : State) (o : Out) : (emit s o).keys = s.keys := rfl
@[simp] theorem emit_prevEpoch (s : State) (o : Out) : (emit s o).prevEpoch = s.prevEpoch := rfl
@[simp] theorem emit_load (s : State) (o : Out) : (emit s o).load = s.load := rfl
@[simp] theorem emit_kite (s : State) (o : Out) : (emit s o).kite = s.kite := rfl
@[simp] theorem emit_tlm (s : State) (o : Out) : (emit s o).tlm = s.tlm := rfl
@[simp] theorem emit_scrUnbind (s : State) (o : Out) : (emit s o).scrUnbind = s.scrUnbind := rfl
@[simp] theorem emit_nva (s : State) (o : Out) : (emit s o).nva = s.nva := rfl
@[simp] theorem emit_nvIncomplete (s : State) (o : Out) : (emit s o).nvIncomplete = s.nvIncomplete := rfl
@[simp] theorem emit_nvFill (s : State) (o : Out) : (emit s o).nvFill = s.nvFill := rfl
@[simp] theorem emit_ports (s : State) (o : Out) : (emit s o).ports = s.ports := rfl
@[simp] theorem emit_enu (s : State) (o : Out) : (emit s o).enu = s.enu := rfl
@[simp] theorem emit_har (s : State) (o : Out) : (emit s o).har = s.har := rfl
@[simp] theorem emit_vbu (s : State) (o : Out) : (emit s o).vbu = s.vbu := rfl
@[simp] theorem emit_osp (s : State) (o : Out) : (emit s o).osp = s.osp := rfl
@[simp] theorem emit_tag (s : State) (o : Out) : (emit s o).tag = s.tag := rfl
@[simp] theorem emit_tagMem (s : State) (o : Out) : (emit s o).tagMem = s.tagMem := rfl
@[simp] theorem emit_bst (s : State) (o : Out) : (emit s o).bst = s.bst := rfl
@[simp] theorem emit_lcy (s : State) (o : Out) : (emit s o).lcy = s.lcy := rfl
@[simp] theorem emit_tap (s : State) (o : Out) : (emit s o).tap = s.tap := rfl
@[simp] theorem emit_regDue (s : State) (o : Out) : (emit s o).regDue = s.regDue := rfl
@[simp] theorem emit_regPart (s : State) (o : Out) : (emit s o).regPart = s.regPart := rfl
@[simp] theorem emit_rd (s : State) (o : Out) (r : Nat) : rd (emit s o) r = rd s r := rfl
@[simp] theorem emit_getf (s : State) (o : Out) (g : Fld) : getf (emit s o) g = getf s g := rfl
@[simp] theorem emit_isSet (s : State) (o : Out) (g : Fld) : isSet (emit s o) g = isSet s g := rfl

/-! ### drawn -/
@[simp] theorem drawn_pending (s : State) : (drawn s).pending = s.pending := rfl
@[simp] theorem drawn_regs (s : State) : (drawn s).regs = s.regs := rfl
@[simp] theorem drawn_mem (s : State) : (drawn s).mem = s.mem := rfl
@[simp] theorem drawn_memFill (s : State) : (drawn s).memFill = s.memFill := rfl
@[simp] theorem drawn_out (s : State) : (drawn s).out = s.out := rfl
@[simp] theorem drawn_ctxs (s : State) : (drawn s).ctxs = s.ctxs := rfl
@[simp] theorem drawn_ops (s : State) : (drawn s).ops = s.ops := rfl
@[simp] theorem drawn_nextTag (s : State) : (drawn s).nextTag = s.nextTag := rfl
@[simp] theorem drawn_rounds (s : State) : (drawn s).rounds = s.rounds := rfl
@[simp] theorem drawn_ledger (s : State) : (drawn s).ledger = s.ledger := rfl
@[simp] theorem drawn_hif (s : State) : (drawn s).hif = s.hif := rfl
@[simp] theorem drawn_pwr (s : State) : (drawn s).pwr = s.pwr := rfl
@[simp] theorem drawn_doms (s : State) : (drawn s).doms = s.doms := rfl
@[simp] theorem drawn_banks (s : State) : (drawn s).banks = s.banks := rfl
@[simp] theorem drawn_log (s : State) : (drawn s).log = s.log := rfl
@[simp] theorem drawn_tbu (s : State) : (drawn s).tbu = s.tbu := rfl
@[simp] theorem drawn_nv (s : State) : (drawn s).nv = s.nv := rfl
@[simp] theorem drawn_planeMem (s : State) : (drawn s).planeMem = s.planeMem := rfl
@[simp] theorem drawn_fifos (s : State) : (drawn s).fifos = s.fifos := rfl
@[simp] theorem drawn_clk (s : State) : (drawn s).clk = s.clk := rfl
@[simp] theorem drawn_fab (s : State) : (drawn s).fab = s.fab := rfl
@[simp] theorem drawn_boot (s : State) : (drawn s).boot = s.boot := rfl
@[simp] theorem drawn_stage (s : State) : (drawn s).stage = s.stage := rfl
@[simp] theorem drawn_ho (s : State) : (drawn s).ho = s.ho := rfl
@[simp] theorem drawn_planeFill (s : State) : (drawn s).planeFill = s.planeFill := rfl
@[simp] theorem drawn_dep (s : State) : (drawn s).dep = s.dep := rfl
@[simp] theorem drawn_flash (s : State) : (drawn s).flash = s.flash := rfl
@[simp] theorem drawn_flashFill (s : State) : (drawn s).flashFill = s.flashFill := rfl
@[simp] theorem drawn_keys (s : State) : (drawn s).keys = s.keys := rfl
@[simp] theorem drawn_prevEpoch (s : State) : (drawn s).prevEpoch = s.prevEpoch := rfl
@[simp] theorem drawn_load (s : State) : (drawn s).load = s.load := rfl
@[simp] theorem drawn_kite (s : State) : (drawn s).kite = s.kite := rfl
@[simp] theorem drawn_tlm (s : State) : (drawn s).tlm = s.tlm := rfl
@[simp] theorem drawn_scrUnbind (s : State) : (drawn s).scrUnbind = s.scrUnbind := rfl
@[simp] theorem drawn_nva (s : State) : (drawn s).nva = s.nva := rfl
@[simp] theorem drawn_nvIncomplete (s : State) : (drawn s).nvIncomplete = s.nvIncomplete := rfl
@[simp] theorem drawn_nvFill (s : State) : (drawn s).nvFill = s.nvFill := rfl
@[simp] theorem drawn_ports (s : State) : (drawn s).ports = s.ports := rfl
@[simp] theorem drawn_enu (s : State) : (drawn s).enu = s.enu := rfl
@[simp] theorem drawn_har (s : State) : (drawn s).har = s.har := rfl
@[simp] theorem drawn_vbu (s : State) : (drawn s).vbu = s.vbu := rfl
@[simp] theorem drawn_osp (s : State) : (drawn s).osp = s.osp := rfl
@[simp] theorem drawn_tag (s : State) : (drawn s).tag = s.tag := rfl
@[simp] theorem drawn_tagMem (s : State) : (drawn s).tagMem = s.tagMem := rfl
@[simp] theorem drawn_bst (s : State) : (drawn s).bst = s.bst := rfl
@[simp] theorem drawn_lcy (s : State) : (drawn s).lcy = s.lcy := rfl
@[simp] theorem drawn_tap (s : State) : (drawn s).tap = s.tap := rfl
@[simp] theorem drawn_regDue (s : State) : (drawn s).regDue = s.regDue := rfl
@[simp] theorem drawn_regPart (s : State) : (drawn s).regPart = s.regPart := rfl
@[simp] theorem drawn_rd (s : State) (r : Nat) : rd (drawn s) r = rd s r := rfl
@[simp] theorem drawn_getf (s : State) (g : Fld) : getf (drawn s) g = getf s g := rfl
@[simp] theorem drawn_isSet (s : State) (g : Fld) : isSet (drawn s) g = isSet s g := rfl

/-! ### setCtx -/
@[simp] theorem setCtx_pending (s : State) (c : Nat) (x : Ctx) : (setCtx s c x).pending = s.pending := rfl
@[simp] theorem setCtx_regs (s : State) (c : Nat) (x : Ctx) : (setCtx s c x).regs = s.regs := rfl
@[simp] theorem setCtx_mem (s : State) (c : Nat) (x : Ctx) : (setCtx s c x).mem = s.mem := rfl
@[simp] theorem setCtx_memFill (s : State) (c : Nat) (x : Ctx) : (setCtx s c x).memFill = s.memFill := rfl
@[simp] theorem setCtx_free (s : State) (c : Nat) (x : Ctx) : (setCtx s c x).free = s.free := rfl
@[simp] theorem setCtx_out (s : State) (c : Nat) (x : Ctx) : (setCtx s c x).out = s.out := rfl
@[simp] theorem setCtx_ops (s : State) (c : Nat) (x : Ctx) : (setCtx s c x).ops = s.ops := rfl
@[simp] theorem setCtx_nextTag (s : State) (c : Nat) (x : Ctx) : (setCtx s c x).nextTag = s.nextTag := rfl
@[simp] theorem setCtx_rounds (s : State) (c : Nat) (x : Ctx) : (setCtx s c x).rounds = s.rounds := rfl
@[simp] theorem setCtx_ledger (s : State) (c : Nat) (x : Ctx) : (setCtx s c x).ledger = s.ledger := rfl
@[simp] theorem setCtx_hif (s : State) (c : Nat) (x : Ctx) : (setCtx s c x).hif = s.hif := rfl
@[simp] theorem setCtx_pwr (s : State) (c : Nat) (x : Ctx) : (setCtx s c x).pwr = s.pwr := rfl
@[simp] theorem setCtx_doms (s : State) (c : Nat) (x : Ctx) : (setCtx s c x).doms = s.doms := rfl
@[simp] theorem setCtx_banks (s : State) (c : Nat) (x : Ctx) : (setCtx s c x).banks = s.banks := rfl
@[simp] theorem setCtx_log (s : State) (c : Nat) (x : Ctx) : (setCtx s c x).log = s.log := rfl
@[simp] theorem setCtx_tbu (s : State) (c : Nat) (x : Ctx) : (setCtx s c x).tbu = s.tbu := rfl
@[simp] theorem setCtx_nv (s : State) (c : Nat) (x : Ctx) : (setCtx s c x).nv = s.nv := rfl
@[simp] theorem setCtx_planeMem (s : State) (c : Nat) (x : Ctx) : (setCtx s c x).planeMem = s.planeMem := rfl
@[simp] theorem setCtx_fifos (s : State) (c : Nat) (x : Ctx) : (setCtx s c x).fifos = s.fifos := rfl
@[simp] theorem setCtx_clk (s : State) (c : Nat) (x : Ctx) : (setCtx s c x).clk = s.clk := rfl
@[simp] theorem setCtx_fab (s : State) (c : Nat) (x : Ctx) : (setCtx s c x).fab = s.fab := rfl
@[simp] theorem setCtx_boot (s : State) (c : Nat) (x : Ctx) : (setCtx s c x).boot = s.boot := rfl
@[simp] theorem setCtx_stage (s : State) (c : Nat) (x : Ctx) : (setCtx s c x).stage = s.stage := rfl
@[simp] theorem setCtx_ho (s : State) (c : Nat) (x : Ctx) : (setCtx s c x).ho = s.ho := rfl
@[simp] theorem setCtx_planeFill (s : State) (c : Nat) (x : Ctx) : (setCtx s c x).planeFill = s.planeFill := rfl
@[simp] theorem setCtx_dep (s : State) (c : Nat) (x : Ctx) : (setCtx s c x).dep = s.dep := rfl
@[simp] theorem setCtx_flash (s : State) (c : Nat) (x : Ctx) : (setCtx s c x).flash = s.flash := rfl
@[simp] theorem setCtx_flashFill (s : State) (c : Nat) (x : Ctx) : (setCtx s c x).flashFill = s.flashFill := rfl
@[simp] theorem setCtx_keys (s : State) (c : Nat) (x : Ctx) : (setCtx s c x).keys = s.keys := rfl
@[simp] theorem setCtx_prevEpoch (s : State) (c : Nat) (x : Ctx) : (setCtx s c x).prevEpoch = s.prevEpoch := rfl
@[simp] theorem setCtx_load (s : State) (c : Nat) (x : Ctx) : (setCtx s c x).load = s.load := rfl
@[simp] theorem setCtx_kite (s : State) (c : Nat) (x : Ctx) : (setCtx s c x).kite = s.kite := rfl
@[simp] theorem setCtx_tlm (s : State) (c : Nat) (x : Ctx) : (setCtx s c x).tlm = s.tlm := rfl
@[simp] theorem setCtx_scrUnbind (s : State) (c : Nat) (x : Ctx) : (setCtx s c x).scrUnbind = s.scrUnbind := rfl
@[simp] theorem setCtx_nva (s : State) (c : Nat) (x : Ctx) : (setCtx s c x).nva = s.nva := rfl
@[simp] theorem setCtx_nvIncomplete (s : State) (c : Nat) (x : Ctx) : (setCtx s c x).nvIncomplete = s.nvIncomplete := rfl
@[simp] theorem setCtx_nvFill (s : State) (c : Nat) (x : Ctx) : (setCtx s c x).nvFill = s.nvFill := rfl
@[simp] theorem setCtx_ports (s : State) (c : Nat) (x : Ctx) : (setCtx s c x).ports = s.ports := rfl
@[simp] theorem setCtx_enu (s : State) (c : Nat) (x : Ctx) : (setCtx s c x).enu = s.enu := rfl
@[simp] theorem setCtx_har (s : State) (c : Nat) (x : Ctx) : (setCtx s c x).har = s.har := rfl
@[simp] theorem setCtx_vbu (s : State) (c : Nat) (x : Ctx) : (setCtx s c x).vbu = s.vbu := rfl
@[simp] theorem setCtx_osp (s : State) (c : Nat) (x : Ctx) : (setCtx s c x).osp = s.osp := rfl
@[simp] theorem setCtx_tag (s : State) (c : Nat) (x : Ctx) : (setCtx s c x).tag = s.tag := rfl
@[simp] theorem setCtx_tagMem (s : State) (c : Nat) (x : Ctx) : (setCtx s c x).tagMem = s.tagMem := rfl
@[simp] theorem setCtx_bst (s : State) (c : Nat) (x : Ctx) : (setCtx s c x).bst = s.bst := rfl
@[simp] theorem setCtx_lcy (s : State) (c : Nat) (x : Ctx) : (setCtx s c x).lcy = s.lcy := rfl
@[simp] theorem setCtx_tap (s : State) (c : Nat) (x : Ctx) : (setCtx s c x).tap = s.tap := rfl
@[simp] theorem setCtx_regDue (s : State) (c : Nat) (x : Ctx) : (setCtx s c x).regDue = s.regDue := rfl
@[simp] theorem setCtx_regPart (s : State) (c : Nat) (x : Ctx) : (setCtx s c x).regPart = s.regPart := rfl
@[simp] theorem setCtx_rd (s : State) (c : Nat) (x : Ctx) (r : Nat) : rd (setCtx s c x) r = rd s r := rfl
@[simp] theorem setCtx_getf (s : State) (c : Nat) (x : Ctx) (g : Fld) : getf (setCtx s c x) g = getf s g := rfl
@[simp] theorem setCtx_isSet (s : State) (c : Nat) (x : Ctx) (g : Fld) : isSet (setCtx s c x) g = isSet s g := rfl

/-! ### setOp -/
@[simp] theorem setOp_pending (s : State) (o : Op) : (setOp s o).pending = s.pending := rfl
@[simp] theorem setOp_regs (s : State) (o : Op) : (setOp s o).regs = s.regs := rfl
@[simp] theorem setOp_mem (s : State) (o : Op) : (setOp s o).mem = s.mem := rfl
@[simp] theorem setOp_memFill (s : State) (o : Op) : (setOp s o).memFill = s.memFill := rfl
@[simp] theorem setOp_free (s : State) (o : Op) : (setOp s o).free = s.free := rfl
@[simp] theorem setOp_out (s : State) (o : Op) : (setOp s o).out = s.out := rfl
@[simp] theorem setOp_ctxs (s : State) (o : Op) : (setOp s o).ctxs = s.ctxs := rfl
@[simp] theorem setOp_nextTag (s : State) (o : Op) : (setOp s o).nextTag = s.nextTag := rfl
@[simp] theorem setOp_rounds (s : State) (o : Op) : (setOp s o).rounds = s.rounds := rfl
@[simp] theorem setOp_ledger (s : State) (o : Op) : (setOp s o).ledger = s.ledger := rfl
@[simp] theorem setOp_hif (s : State) (o : Op) : (setOp s o).hif = s.hif := rfl
@[simp] theorem setOp_pwr (s : State) (o : Op) : (setOp s o).pwr = s.pwr := rfl
@[simp] theorem setOp_doms (s : State) (o : Op) : (setOp s o).doms = s.doms := rfl
@[simp] theorem setOp_banks (s : State) (o : Op) : (setOp s o).banks = s.banks := rfl
@[simp] theorem setOp_log (s : State) (o : Op) : (setOp s o).log = s.log := rfl
@[simp] theorem setOp_tbu (s : State) (o : Op) : (setOp s o).tbu = s.tbu := rfl
@[simp] theorem setOp_nv (s : State) (o : Op) : (setOp s o).nv = s.nv := rfl
@[simp] theorem setOp_planeMem (s : State) (o : Op) : (setOp s o).planeMem = s.planeMem := rfl
@[simp] theorem setOp_fifos (s : State) (o : Op) : (setOp s o).fifos = s.fifos := rfl
@[simp] theorem setOp_clk (s : State) (o : Op) : (setOp s o).clk = s.clk := rfl
@[simp] theorem setOp_fab (s : State) (o : Op) : (setOp s o).fab = s.fab := rfl
@[simp] theorem setOp_boot (s : State) (o : Op) : (setOp s o).boot = s.boot := rfl
@[simp] theorem setOp_stage (s : State) (o : Op) : (setOp s o).stage = s.stage := rfl
@[simp] theorem setOp_ho (s : State) (o : Op) : (setOp s o).ho = s.ho := rfl
@[simp] theorem setOp_planeFill (s : State) (o : Op) : (setOp s o).planeFill = s.planeFill := rfl
@[simp] theorem setOp_dep (s : State) (o : Op) : (setOp s o).dep = s.dep := rfl
@[simp] theorem setOp_flash (s : State) (o : Op) : (setOp s o).flash = s.flash := rfl
@[simp] theorem setOp_flashFill (s : State) (o : Op) : (setOp s o).flashFill = s.flashFill := rfl
@[simp] theorem setOp_keys (s : State) (o : Op) : (setOp s o).keys = s.keys := rfl
@[simp] theorem setOp_prevEpoch (s : State) (o : Op) : (setOp s o).prevEpoch = s.prevEpoch := rfl
@[simp] theorem setOp_load (s : State) (o : Op) : (setOp s o).load = s.load := rfl
@[simp] theorem setOp_kite (s : State) (o : Op) : (setOp s o).kite = s.kite := rfl
@[simp] theorem setOp_tlm (s : State) (o : Op) : (setOp s o).tlm = s.tlm := rfl
@[simp] theorem setOp_scrUnbind (s : State) (o : Op) : (setOp s o).scrUnbind = s.scrUnbind := rfl
@[simp] theorem setOp_nva (s : State) (o : Op) : (setOp s o).nva = s.nva := rfl
@[simp] theorem setOp_nvIncomplete (s : State) (o : Op) : (setOp s o).nvIncomplete = s.nvIncomplete := rfl
@[simp] theorem setOp_nvFill (s : State) (o : Op) : (setOp s o).nvFill = s.nvFill := rfl
@[simp] theorem setOp_ports (s : State) (o : Op) : (setOp s o).ports = s.ports := rfl
@[simp] theorem setOp_enu (s : State) (o : Op) : (setOp s o).enu = s.enu := rfl
@[simp] theorem setOp_har (s : State) (o : Op) : (setOp s o).har = s.har := rfl
@[simp] theorem setOp_vbu (s : State) (o : Op) : (setOp s o).vbu = s.vbu := rfl
@[simp] theorem setOp_osp (s : State) (o : Op) : (setOp s o).osp = s.osp := rfl
@[simp] theorem setOp_tag (s : State) (o : Op) : (setOp s o).tag = s.tag := rfl
@[simp] theorem setOp_tagMem (s : State) (o : Op) : (setOp s o).tagMem = s.tagMem := rfl
@[simp] theorem setOp_bst (s : State) (o : Op) : (setOp s o).bst = s.bst := rfl
@[simp] theorem setOp_lcy (s : State) (o : Op) : (setOp s o).lcy = s.lcy := rfl
@[simp] theorem setOp_tap (s : State) (o : Op) : (setOp s o).tap = s.tap := rfl
@[simp] theorem setOp_regDue (s : State) (o : Op) : (setOp s o).regDue = s.regDue := rfl
@[simp] theorem setOp_regPart (s : State) (o : Op) : (setOp s o).regPart = s.regPart := rfl
@[simp] theorem setOp_rd (s : State) (o : Op) (r : Nat) : rd (setOp s o) r = rd s r := rfl
@[simp] theorem setOp_getf (s : State) (o : Op) (g : Fld) : getf (setOp s o) g = getf s g := rfl
@[simp] theorem setOp_isSet (s : State) (o : Op) (g : Fld) : isSet (setOp s o) g = isSet s g := rfl

/-! ### setRound -/
@[simp] theorem setRound_pending (s : State) (k : Nat) (x : Round) : (setRound s k x).pending = s.pending := rfl
@[simp] theorem setRound_regs (s : State) (k : Nat) (x : Round) : (setRound s k x).regs = s.regs := rfl
@[simp] theorem setRound_mem (s : State) (k : Nat) (x : Round) : (setRound s k x).mem = s.mem := rfl
@[simp] theorem setRound_memFill (s : State) (k : Nat) (x : Round) : (setRound s k x).memFill = s.memFill := rfl
@[simp] theorem setRound_free (s : State) (k : Nat) (x : Round) : (setRound s k x).free = s.free := rfl
@[simp] theorem setRound_out (s : State) (k : Nat) (x : Round) : (setRound s k x).out = s.out := rfl
@[simp] theorem setRound_ctxs (s : State) (k : Nat) (x : Round) : (setRound s k x).ctxs = s.ctxs := rfl
@[simp] theorem setRound_ops (s : State) (k : Nat) (x : Round) : (setRound s k x).ops = s.ops := rfl
@[simp] theorem setRound_nextTag (s : State) (k : Nat) (x : Round) : (setRound s k x).nextTag = s.nextTag := rfl
@[simp] theorem setRound_ledger (s : State) (k : Nat) (x : Round) : (setRound s k x).ledger = s.ledger := rfl
@[simp] theorem setRound_hif (s : State) (k : Nat) (x : Round) : (setRound s k x).hif = s.hif := rfl
@[simp] theorem setRound_pwr (s : State) (k : Nat) (x : Round) : (setRound s k x).pwr = s.pwr := rfl
@[simp] theorem setRound_doms (s : State) (k : Nat) (x : Round) : (setRound s k x).doms = s.doms := rfl
@[simp] theorem setRound_banks (s : State) (k : Nat) (x : Round) : (setRound s k x).banks = s.banks := rfl
@[simp] theorem setRound_log (s : State) (k : Nat) (x : Round) : (setRound s k x).log = s.log := rfl
@[simp] theorem setRound_tbu (s : State) (k : Nat) (x : Round) : (setRound s k x).tbu = s.tbu := rfl
@[simp] theorem setRound_nv (s : State) (k : Nat) (x : Round) : (setRound s k x).nv = s.nv := rfl
@[simp] theorem setRound_planeMem (s : State) (k : Nat) (x : Round) : (setRound s k x).planeMem = s.planeMem := rfl
@[simp] theorem setRound_fifos (s : State) (k : Nat) (x : Round) : (setRound s k x).fifos = s.fifos := rfl
@[simp] theorem setRound_clk (s : State) (k : Nat) (x : Round) : (setRound s k x).clk = s.clk := rfl
@[simp] theorem setRound_fab (s : State) (k : Nat) (x : Round) : (setRound s k x).fab = s.fab := rfl
@[simp] theorem setRound_boot (s : State) (k : Nat) (x : Round) : (setRound s k x).boot = s.boot := rfl
@[simp] theorem setRound_stage (s : State) (k : Nat) (x : Round) : (setRound s k x).stage = s.stage := rfl
@[simp] theorem setRound_ho (s : State) (k : Nat) (x : Round) : (setRound s k x).ho = s.ho := rfl
@[simp] theorem setRound_planeFill (s : State) (k : Nat) (x : Round) : (setRound s k x).planeFill = s.planeFill := rfl
@[simp] theorem setRound_dep (s : State) (k : Nat) (x : Round) : (setRound s k x).dep = s.dep := rfl
@[simp] theorem setRound_flash (s : State) (k : Nat) (x : Round) : (setRound s k x).flash = s.flash := rfl
@[simp] theorem setRound_flashFill (s : State) (k : Nat) (x : Round) : (setRound s k x).flashFill = s.flashFill := rfl
@[simp] theorem setRound_keys (s : State) (k : Nat) (x : Round) : (setRound s k x).keys = s.keys := rfl
@[simp] theorem setRound_prevEpoch (s : State) (k : Nat) (x : Round) : (setRound s k x).prevEpoch = s.prevEpoch := rfl
@[simp] theorem setRound_load (s : State) (k : Nat) (x : Round) : (setRound s k x).load = s.load := rfl
@[simp] theorem setRound_kite (s : State) (k : Nat) (x : Round) : (setRound s k x).kite = s.kite := rfl
@[simp] theorem setRound_tlm (s : State) (k : Nat) (x : Round) : (setRound s k x).tlm = s.tlm := rfl
@[simp] theorem setRound_scrUnbind (s : State) (k : Nat) (x : Round) : (setRound s k x).scrUnbind = s.scrUnbind := rfl
@[simp] theorem setRound_nva (s : State) (k : Nat) (x : Round) : (setRound s k x).nva = s.nva := rfl
@[simp] theorem setRound_nvIncomplete (s : State) (k : Nat) (x : Round) : (setRound s k x).nvIncomplete = s.nvIncomplete := rfl
@[simp] theorem setRound_nvFill (s : State) (k : Nat) (x : Round) : (setRound s k x).nvFill = s.nvFill := rfl
@[simp] theorem setRound_ports (s : State) (k : Nat) (x : Round) : (setRound s k x).ports = s.ports := rfl
@[simp] theorem setRound_enu (s : State) (k : Nat) (x : Round) : (setRound s k x).enu = s.enu := rfl
@[simp] theorem setRound_har (s : State) (k : Nat) (x : Round) : (setRound s k x).har = s.har := rfl
@[simp] theorem setRound_vbu (s : State) (k : Nat) (x : Round) : (setRound s k x).vbu = s.vbu := rfl
@[simp] theorem setRound_osp (s : State) (k : Nat) (x : Round) : (setRound s k x).osp = s.osp := rfl
@[simp] theorem setRound_tag (s : State) (k : Nat) (x : Round) : (setRound s k x).tag = s.tag := rfl
@[simp] theorem setRound_tagMem (s : State) (k : Nat) (x : Round) : (setRound s k x).tagMem = s.tagMem := rfl
@[simp] theorem setRound_bst (s : State) (k : Nat) (x : Round) : (setRound s k x).bst = s.bst := rfl
@[simp] theorem setRound_lcy (s : State) (k : Nat) (x : Round) : (setRound s k x).lcy = s.lcy := rfl
@[simp] theorem setRound_tap (s : State) (k : Nat) (x : Round) : (setRound s k x).tap = s.tap := rfl
@[simp] theorem setRound_regDue (s : State) (k : Nat) (x : Round) : (setRound s k x).regDue = s.regDue := rfl
@[simp] theorem setRound_regPart (s : State) (k : Nat) (x : Round) : (setRound s k x).regPart = s.regPart := rfl
@[simp] theorem setRound_rd (s : State) (k : Nat) (x : Round) (r : Nat) : rd (setRound s k x) r = rd s r := rfl
@[simp] theorem setRound_getf (s : State) (k : Nat) (x : Round) (g : Fld) : getf (setRound s k x) g = getf s g := rfl
@[simp] theorem setRound_isSet (s : State) (k : Nat) (x : Round) (g : Fld) : isSet (setRound s k x) g = isSet s g := rfl

/-! ### setFifo -/
@[simp] theorem setFifo_pending (s : State) (n : Nat) (x : Fifo) : (setFifo s n x).pending = s.pending := rfl
@[simp] theorem setFifo_regs (s : State) (n : Nat) (x : Fifo) : (setFifo s n x).regs = s.regs := rfl
@[simp] theorem setFifo_mem (s : State) (n : Nat) (x : Fifo) : (setFifo s n x).mem = s.mem := rfl
@[simp] theorem setFifo_memFill (s : State) (n : Nat) (x : Fifo) : (setFifo s n x).memFill = s.memFill := rfl
@[simp] theorem setFifo_free (s : State) (n : Nat) (x : Fifo) : (setFifo s n x).free = s.free := rfl
@[simp] theorem setFifo_out (s : State) (n : Nat) (x : Fifo) : (setFifo s n x).out = s.out := rfl
@[simp] theorem setFifo_ctxs (s : State) (n : Nat) (x : Fifo) : (setFifo s n x).ctxs = s.ctxs := rfl
@[simp] theorem setFifo_ops (s : State) (n : Nat) (x : Fifo) : (setFifo s n x).ops = s.ops := rfl
@[simp] theorem setFifo_nextTag (s : State) (n : Nat) (x : Fifo) : (setFifo s n x).nextTag = s.nextTag := rfl
@[simp] theorem setFifo_rounds (s : State) (n : Nat) (x : Fifo) : (setFifo s n x).rounds = s.rounds := rfl
@[simp] theorem setFifo_ledger (s : State) (n : Nat) (x : Fifo) : (setFifo s n x).ledger = s.ledger := rfl
@[simp] theorem setFifo_hif (s : State) (n : Nat) (x : Fifo) : (setFifo s n x).hif = s.hif := rfl
@[simp] theorem setFifo_pwr (s : State) (n : Nat) (x : Fifo) : (setFifo s n x).pwr = s.pwr := rfl
@[simp] theorem setFifo_doms (s : State) (n : Nat) (x : Fifo) : (setFifo s n x).doms = s.doms := rfl
@[simp] theorem setFifo_banks (s : State) (n : Nat) (x : Fifo) : (setFifo s n x).banks = s.banks := rfl
@[simp] theorem setFifo_log (s : State) (n : Nat) (x : Fifo) : (setFifo s n x).log = s.log := rfl
@[simp] theorem setFifo_tbu (s : State) (n : Nat) (x : Fifo) : (setFifo s n x).tbu = s.tbu := rfl
@[simp] theorem setFifo_nv (s : State) (n : Nat) (x : Fifo) : (setFifo s n x).nv = s.nv := rfl
@[simp] theorem setFifo_planeMem (s : State) (n : Nat) (x : Fifo) : (setFifo s n x).planeMem = s.planeMem := rfl
@[simp] theorem setFifo_clk (s : State) (n : Nat) (x : Fifo) : (setFifo s n x).clk = s.clk := rfl
@[simp] theorem setFifo_fab (s : State) (n : Nat) (x : Fifo) : (setFifo s n x).fab = s.fab := rfl
@[simp] theorem setFifo_boot (s : State) (n : Nat) (x : Fifo) : (setFifo s n x).boot = s.boot := rfl
@[simp] theorem setFifo_stage (s : State) (n : Nat) (x : Fifo) : (setFifo s n x).stage = s.stage := rfl
@[simp] theorem setFifo_ho (s : State) (n : Nat) (x : Fifo) : (setFifo s n x).ho = s.ho := rfl
@[simp] theorem setFifo_planeFill (s : State) (n : Nat) (x : Fifo) : (setFifo s n x).planeFill = s.planeFill := rfl
@[simp] theorem setFifo_dep (s : State) (n : Nat) (x : Fifo) : (setFifo s n x).dep = s.dep := rfl
@[simp] theorem setFifo_flash (s : State) (n : Nat) (x : Fifo) : (setFifo s n x).flash = s.flash := rfl
@[simp] theorem setFifo_flashFill (s : State) (n : Nat) (x : Fifo) : (setFifo s n x).flashFill = s.flashFill := rfl
@[simp] theorem setFifo_keys (s : State) (n : Nat) (x : Fifo) : (setFifo s n x).keys = s.keys := rfl
@[simp] theorem setFifo_prevEpoch (s : State) (n : Nat) (x : Fifo) : (setFifo s n x).prevEpoch = s.prevEpoch := rfl
@[simp] theorem setFifo_load (s : State) (n : Nat) (x : Fifo) : (setFifo s n x).load = s.load := rfl
@[simp] theorem setFifo_kite (s : State) (n : Nat) (x : Fifo) : (setFifo s n x).kite = s.kite := rfl
@[simp] theorem setFifo_tlm (s : State) (n : Nat) (x : Fifo) : (setFifo s n x).tlm = s.tlm := rfl
@[simp] theorem setFifo_scrUnbind (s : State) (n : Nat) (x : Fifo) : (setFifo s n x).scrUnbind = s.scrUnbind := rfl
@[simp] theorem setFifo_nva (s : State) (n : Nat) (x : Fifo) : (setFifo s n x).nva = s.nva := rfl
@[simp] theorem setFifo_nvIncomplete (s : State) (n : Nat) (x : Fifo) : (setFifo s n x).nvIncomplete = s.nvIncomplete := rfl
@[simp] theorem setFifo_nvFill (s : State) (n : Nat) (x : Fifo) : (setFifo s n x).nvFill = s.nvFill := rfl
@[simp] theorem setFifo_ports (s : State) (n : Nat) (x : Fifo) : (setFifo s n x).ports = s.ports := rfl
@[simp] theorem setFifo_enu (s : State) (n : Nat) (x : Fifo) : (setFifo s n x).enu = s.enu := rfl
@[simp] theorem setFifo_har (s : State) (n : Nat) (x : Fifo) : (setFifo s n x).har = s.har := rfl
@[simp] theorem setFifo_vbu (s : State) (n : Nat) (x : Fifo) : (setFifo s n x).vbu = s.vbu := rfl
@[simp] theorem setFifo_osp (s : State) (n : Nat) (x : Fifo) : (setFifo s n x).osp = s.osp := rfl
@[simp] theorem setFifo_tag (s : State) (n : Nat) (x : Fifo) : (setFifo s n x).tag = s.tag := rfl
@[simp] theorem setFifo_tagMem (s : State) (n : Nat) (x : Fifo) : (setFifo s n x).tagMem = s.tagMem := rfl
@[simp] theorem setFifo_bst (s : State) (n : Nat) (x : Fifo) : (setFifo s n x).bst = s.bst := rfl
@[simp] theorem setFifo_lcy (s : State) (n : Nat) (x : Fifo) : (setFifo s n x).lcy = s.lcy := rfl
@[simp] theorem setFifo_tap (s : State) (n : Nat) (x : Fifo) : (setFifo s n x).tap = s.tap := rfl
@[simp] theorem setFifo_regDue (s : State) (n : Nat) (x : Fifo) : (setFifo s n x).regDue = s.regDue := rfl
@[simp] theorem setFifo_regPart (s : State) (n : Nat) (x : Fifo) : (setFifo s n x).regPart = s.regPart := rfl
@[simp] theorem setFifo_rd (s : State) (n : Nat) (x : Fifo) (r : Nat) : rd (setFifo s n x) r = rd s r := rfl
@[simp] theorem setFifo_getf (s : State) (n : Nat) (x : Fifo) (g : Fld) : getf (setFifo s n x) g = getf s g := rfl
@[simp] theorem setFifo_isSet (s : State) (n : Nat) (x : Fifo) (g : Fld) : isSet (setFifo s n x) g = isSet s g := rfl

/-! ### setDom -/
@[simp] theorem setDom_pending (s : State) (d : Nat) (x : Dom) : (setDom s d x).pending = s.pending := rfl
@[simp] theorem setDom_regs (s : State) (d : Nat) (x : Dom) : (setDom s d x).regs = s.regs := rfl
@[simp] theorem setDom_mem (s : State) (d : Nat) (x : Dom) : (setDom s d x).mem = s.mem := rfl
@[simp] theorem setDom_memFill (s : State) (d : Nat) (x : Dom) : (setDom s d x).memFill = s.memFill := rfl
@[simp] theorem setDom_free (s : State) (d : Nat) (x : Dom) : (setDom s d x).free = s.free := rfl
@[simp] theorem setDom_out (s : State) (d : Nat) (x : Dom) : (setDom s d x).out = s.out := rfl
@[simp] theorem setDom_ctxs (s : State) (d : Nat) (x : Dom) : (setDom s d x).ctxs = s.ctxs := rfl
@[simp] theorem setDom_ops (s : State) (d : Nat) (x : Dom) : (setDom s d x).ops = s.ops := rfl
@[simp] theorem setDom_nextTag (s : State) (d : Nat) (x : Dom) : (setDom s d x).nextTag = s.nextTag := rfl
@[simp] theorem setDom_rounds (s : State) (d : Nat) (x : Dom) : (setDom s d x).rounds = s.rounds := rfl
@[simp] theorem setDom_ledger (s : State) (d : Nat) (x : Dom) : (setDom s d x).ledger = s.ledger := rfl
@[simp] theorem setDom_hif (s : State) (d : Nat) (x : Dom) : (setDom s d x).hif = s.hif := rfl
@[simp] theorem setDom_pwr (s : State) (d : Nat) (x : Dom) : (setDom s d x).pwr = s.pwr := rfl
@[simp] theorem setDom_banks (s : State) (d : Nat) (x : Dom) : (setDom s d x).banks = s.banks := rfl
@[simp] theorem setDom_log (s : State) (d : Nat) (x : Dom) : (setDom s d x).log = s.log := rfl
@[simp] theorem setDom_tbu (s : State) (d : Nat) (x : Dom) : (setDom s d x).tbu = s.tbu := rfl
@[simp] theorem setDom_nv (s : State) (d : Nat) (x : Dom) : (setDom s d x).nv = s.nv := rfl
@[simp] theorem setDom_planeMem (s : State) (d : Nat) (x : Dom) : (setDom s d x).planeMem = s.planeMem := rfl
@[simp] theorem setDom_fifos (s : State) (d : Nat) (x : Dom) : (setDom s d x).fifos = s.fifos := rfl
@[simp] theorem setDom_clk (s : State) (d : Nat) (x : Dom) : (setDom s d x).clk = s.clk := rfl
@[simp] theorem setDom_fab (s : State) (d : Nat) (x : Dom) : (setDom s d x).fab = s.fab := rfl
@[simp] theorem setDom_boot (s : State) (d : Nat) (x : Dom) : (setDom s d x).boot = s.boot := rfl
@[simp] theorem setDom_stage (s : State) (d : Nat) (x : Dom) : (setDom s d x).stage = s.stage := rfl
@[simp] theorem setDom_ho (s : State) (d : Nat) (x : Dom) : (setDom s d x).ho = s.ho := rfl
@[simp] theorem setDom_planeFill (s : State) (d : Nat) (x : Dom) : (setDom s d x).planeFill = s.planeFill := rfl
@[simp] theorem setDom_dep (s : State) (d : Nat) (x : Dom) : (setDom s d x).dep = s.dep := rfl
@[simp] theorem setDom_flash (s : State) (d : Nat) (x : Dom) : (setDom s d x).flash = s.flash := rfl
@[simp] theorem setDom_flashFill (s : State) (d : Nat) (x : Dom) : (setDom s d x).flashFill = s.flashFill := rfl
@[simp] theorem setDom_keys (s : State) (d : Nat) (x : Dom) : (setDom s d x).keys = s.keys := rfl
@[simp] theorem setDom_prevEpoch (s : State) (d : Nat) (x : Dom) : (setDom s d x).prevEpoch = s.prevEpoch := rfl
@[simp] theorem setDom_load (s : State) (d : Nat) (x : Dom) : (setDom s d x).load = s.load := rfl
@[simp] theorem setDom_kite (s : State) (d : Nat) (x : Dom) : (setDom s d x).kite = s.kite := rfl
@[simp] theorem setDom_tlm (s : State) (d : Nat) (x : Dom) : (setDom s d x).tlm = s.tlm := rfl
@[simp] theorem setDom_scrUnbind (s : State) (d : Nat) (x : Dom) : (setDom s d x).scrUnbind = s.scrUnbind := rfl
@[simp] theorem setDom_nva (s : State) (d : Nat) (x : Dom) : (setDom s d x).nva = s.nva := rfl
@[simp] theorem setDom_nvIncomplete (s : State) (d : Nat) (x : Dom) : (setDom s d x).nvIncomplete = s.nvIncomplete := rfl
@[simp] theorem setDom_nvFill (s : State) (d : Nat) (x : Dom) : (setDom s d x).nvFill = s.nvFill := rfl
@[simp] theorem setDom_ports (s : State) (d : Nat) (x : Dom) : (setDom s d x).ports = s.ports := rfl
@[simp] theorem setDom_enu (s : State) (d : Nat) (x : Dom) : (setDom s d x).enu = s.enu := rfl
@[simp] theorem setDom_har (s : State) (d : Nat) (x : Dom) : (setDom s d x).har = s.har := rfl
@[simp] theorem setDom_vbu (s : State) (d : Nat) (x : Dom) : (setDom s d x).vbu = s.vbu := rfl
@[simp] theorem setDom_osp (s : State) (d : Nat) (x : Dom) : (setDom s d x).osp = s.osp := rfl
@[simp] theorem setDom_tag (s : State) (d : Nat) (x : Dom) : (setDom s d x).tag = s.tag := rfl
@[simp] theorem setDom_tagMem (s : State) (d : Nat) (x : Dom) : (setDom s d x).tagMem = s.tagMem := rfl
@[simp] theorem setDom_bst (s : State) (d : Nat) (x : Dom) : (setDom s d x).bst = s.bst := rfl
@[simp] theorem setDom_lcy (s : State) (d : Nat) (x : Dom) : (setDom s d x).lcy = s.lcy := rfl
@[simp] theorem setDom_tap (s : State) (d : Nat) (x : Dom) : (setDom s d x).tap = s.tap := rfl
@[simp] theorem setDom_regDue (s : State) (d : Nat) (x : Dom) : (setDom s d x).regDue = s.regDue := rfl
@[simp] theorem setDom_regPart (s : State) (d : Nat) (x : Dom) : (setDom s d x).regPart = s.regPart := rfl
@[simp] theorem setDom_rd (s : State) (d : Nat) (x : Dom) (r : Nat) : rd (setDom s d x) r = rd s r := rfl
@[simp] theorem setDom_getf (s : State) (d : Nat) (x : Dom) (g : Fld) : getf (setDom s d x) g = getf s g := rfl
@[simp] theorem setDom_isSet (s : State) (d : Nat) (x : Dom) (g : Fld) : isSet (setDom s d x) g = isSet s g := rfl

/-! ### setBank -/
@[simp] theorem setBank_pending (s : State) (n : Nat) (x : Bank) : (setBank s n x).pending = s.pending := rfl
@[simp] theorem setBank_regs (s : State) (n : Nat) (x : Bank) : (setBank s n x).regs = s.regs := rfl
@[simp] theorem setBank_mem (s : State) (n : Nat) (x : Bank) : (setBank s n x).mem = s.mem := rfl
@[simp] theorem setBank_memFill (s : State) (n : Nat) (x : Bank) : (setBank s n x).memFill = s.memFill := rfl
@[simp] theorem setBank_free (s : State) (n : Nat) (x : Bank) : (setBank s n x).free = s.free := rfl
@[simp] theorem setBank_out (s : State) (n : Nat) (x : Bank) : (setBank s n x).out = s.out := rfl
@[simp] theorem setBank_ctxs (s : State) (n : Nat) (x : Bank) : (setBank s n x).ctxs = s.ctxs := rfl
@[simp] theorem setBank_ops (s : State) (n : Nat) (x : Bank) : (setBank s n x).ops = s.ops := rfl
@[simp] theorem setBank_nextTag (s : State) (n : Nat) (x : Bank) : (setBank s n x).nextTag = s.nextTag := rfl
@[simp] theorem setBank_rounds (s : State) (n : Nat) (x : Bank) : (setBank s n x).rounds = s.rounds := rfl
@[simp] theorem setBank_ledger (s : State) (n : Nat) (x : Bank) : (setBank s n x).ledger = s.ledger := rfl
@[simp] theorem setBank_hif (s : State) (n : Nat) (x : Bank) : (setBank s n x).hif = s.hif := rfl
@[simp] theorem setBank_pwr (s : State) (n : Nat) (x : Bank) : (setBank s n x).pwr = s.pwr := rfl
@[simp] theorem setBank_doms (s : State) (n : Nat) (x : Bank) : (setBank s n x).doms = s.doms := rfl
@[simp] theorem setBank_log (s : State) (n : Nat) (x : Bank) : (setBank s n x).log = s.log := rfl
@[simp] theorem setBank_tbu (s : State) (n : Nat) (x : Bank) : (setBank s n x).tbu = s.tbu := rfl
@[simp] theorem setBank_nv (s : State) (n : Nat) (x : Bank) : (setBank s n x).nv = s.nv := rfl
@[simp] theorem setBank_planeMem (s : State) (n : Nat) (x : Bank) : (setBank s n x).planeMem = s.planeMem := rfl
@[simp] theorem setBank_fifos (s : State) (n : Nat) (x : Bank) : (setBank s n x).fifos = s.fifos := rfl
@[simp] theorem setBank_clk (s : State) (n : Nat) (x : Bank) : (setBank s n x).clk = s.clk := rfl
@[simp] theorem setBank_fab (s : State) (n : Nat) (x : Bank) : (setBank s n x).fab = s.fab := rfl
@[simp] theorem setBank_boot (s : State) (n : Nat) (x : Bank) : (setBank s n x).boot = s.boot := rfl
@[simp] theorem setBank_stage (s : State) (n : Nat) (x : Bank) : (setBank s n x).stage = s.stage := rfl
@[simp] theorem setBank_ho (s : State) (n : Nat) (x : Bank) : (setBank s n x).ho = s.ho := rfl
@[simp] theorem setBank_planeFill (s : State) (n : Nat) (x : Bank) : (setBank s n x).planeFill = s.planeFill := rfl
@[simp] theorem setBank_dep (s : State) (n : Nat) (x : Bank) : (setBank s n x).dep = s.dep := rfl
@[simp] theorem setBank_flash (s : State) (n : Nat) (x : Bank) : (setBank s n x).flash = s.flash := rfl
@[simp] theorem setBank_flashFill (s : State) (n : Nat) (x : Bank) : (setBank s n x).flashFill = s.flashFill := rfl
@[simp] theorem setBank_keys (s : State) (n : Nat) (x : Bank) : (setBank s n x).keys = s.keys := rfl
@[simp] theorem setBank_prevEpoch (s : State) (n : Nat) (x : Bank) : (setBank s n x).prevEpoch = s.prevEpoch := rfl
@[simp] theorem setBank_load (s : State) (n : Nat) (x : Bank) : (setBank s n x).load = s.load := rfl
@[simp] theorem setBank_kite (s : State) (n : Nat) (x : Bank) : (setBank s n x).kite = s.kite := rfl
@[simp] theorem setBank_tlm (s : State) (n : Nat) (x : Bank) : (setBank s n x).tlm = s.tlm := rfl
@[simp] theorem setBank_scrUnbind (s : State) (n : Nat) (x : Bank) : (setBank s n x).scrUnbind = s.scrUnbind := rfl
@[simp] theorem setBank_nva (s : State) (n : Nat) (x : Bank) : (setBank s n x).nva = s.nva := rfl
@[simp] theorem setBank_nvIncomplete (s : State) (n : Nat) (x : Bank) : (setBank s n x).nvIncomplete = s.nvIncomplete := rfl
@[simp] theorem setBank_nvFill (s : State) (n : Nat) (x : Bank) : (setBank s n x).nvFill = s.nvFill := rfl
@[simp] theorem setBank_ports (s : State) (n : Nat) (x : Bank) : (setBank s n x).ports = s.ports := rfl
@[simp] theorem setBank_enu (s : State) (n : Nat) (x : Bank) : (setBank s n x).enu = s.enu := rfl
@[simp] theorem setBank_har (s : State) (n : Nat) (x : Bank) : (setBank s n x).har = s.har := rfl
@[simp] theorem setBank_vbu (s : State) (n : Nat) (x : Bank) : (setBank s n x).vbu = s.vbu := rfl
@[simp] theorem setBank_osp (s : State) (n : Nat) (x : Bank) : (setBank s n x).osp = s.osp := rfl
@[simp] theorem setBank_tag (s : State) (n : Nat) (x : Bank) : (setBank s n x).tag = s.tag := rfl
@[simp] theorem setBank_tagMem (s : State) (n : Nat) (x : Bank) : (setBank s n x).tagMem = s.tagMem := rfl
@[simp] theorem setBank_bst (s : State) (n : Nat) (x : Bank) : (setBank s n x).bst = s.bst := rfl
@[simp] theorem setBank_lcy (s : State) (n : Nat) (x : Bank) : (setBank s n x).lcy = s.lcy := rfl
@[simp] theorem setBank_tap (s : State) (n : Nat) (x : Bank) : (setBank s n x).tap = s.tap := rfl
@[simp] theorem setBank_regDue (s : State) (n : Nat) (x : Bank) : (setBank s n x).regDue = s.regDue := rfl
@[simp] theorem setBank_regPart (s : State) (n : Nat) (x : Bank) : (setBank s n x).regPart = s.regPart := rfl
@[simp] theorem setBank_rd (s : State) (n : Nat) (x : Bank) (r : Nat) : rd (setBank s n x) r = rd s r := rfl
@[simp] theorem setBank_getf (s : State) (n : Nat) (x : Bank) (g : Fld) : getf (setBank s n x) g = getf s g := rfl
@[simp] theorem setBank_isSet (s : State) (n : Nat) (x : Bank) (g : Fld) : isSet (setBank s n x) g = isSet s g := rfl

/-! ### setPort -/
@[simp] theorem setPort_pending (s : State) (p : Nat) (x : Port) : (setPort s p x).pending = s.pending := rfl
@[simp] theorem setPort_regs (s : State) (p : Nat) (x : Port) : (setPort s p x).regs = s.regs := rfl
@[simp] theorem setPort_mem (s : State) (p : Nat) (x : Port) : (setPort s p x).mem = s.mem := rfl
@[simp] theorem setPort_memFill (s : State) (p : Nat) (x : Port) : (setPort s p x).memFill = s.memFill := rfl
@[simp] theorem setPort_free (s : State) (p : Nat) (x : Port) : (setPort s p x).free = s.free := rfl
@[simp] theorem setPort_out (s : State) (p : Nat) (x : Port) : (setPort s p x).out = s.out := rfl
@[simp] theorem setPort_ctxs (s : State) (p : Nat) (x : Port) : (setPort s p x).ctxs = s.ctxs := rfl
@[simp] theorem setPort_ops (s : State) (p : Nat) (x : Port) : (setPort s p x).ops = s.ops := rfl
@[simp] theorem setPort_nextTag (s : State) (p : Nat) (x : Port) : (setPort s p x).nextTag = s.nextTag := rfl
@[simp] theorem setPort_rounds (s : State) (p : Nat) (x : Port) : (setPort s p x).rounds = s.rounds := rfl
@[simp] theorem setPort_ledger (s : State) (p : Nat) (x : Port) : (setPort s p x).ledger = s.ledger := rfl
@[simp] theorem setPort_hif (s : State) (p : Nat) (x : Port) : (setPort s p x).hif = s.hif := rfl
@[simp] theorem setPort_pwr (s : State) (p : Nat) (x : Port) : (setPort s p x).pwr = s.pwr := rfl
@[simp] theorem setPort_doms (s : State) (p : Nat) (x : Port) : (setPort s p x).doms = s.doms := rfl
@[simp] theorem setPort_banks (s : State) (p : Nat) (x : Port) : (setPort s p x).banks = s.banks := rfl
@[simp] theorem setPort_log (s : State) (p : Nat) (x : Port) : (setPort s p x).log = s.log := rfl
@[simp] theorem setPort_tbu (s : State) (p : Nat) (x : Port) : (setPort s p x).tbu = s.tbu := rfl
@[simp] theorem setPort_nv (s : State) (p : Nat) (x : Port) : (setPort s p x).nv = s.nv := rfl
@[simp] theorem setPort_planeMem (s : State) (p : Nat) (x : Port) : (setPort s p x).planeMem = s.planeMem := rfl
@[simp] theorem setPort_fifos (s : State) (p : Nat) (x : Port) : (setPort s p x).fifos = s.fifos := rfl
@[simp] theorem setPort_clk (s : State) (p : Nat) (x : Port) : (setPort s p x).clk = s.clk := rfl
@[simp] theorem setPort_fab (s : State) (p : Nat) (x : Port) : (setPort s p x).fab = s.fab := rfl
@[simp] theorem setPort_boot (s : State) (p : Nat) (x : Port) : (setPort s p x).boot = s.boot := rfl
@[simp] theorem setPort_stage (s : State) (p : Nat) (x : Port) : (setPort s p x).stage = s.stage := rfl
@[simp] theorem setPort_ho (s : State) (p : Nat) (x : Port) : (setPort s p x).ho = s.ho := rfl
@[simp] theorem setPort_planeFill (s : State) (p : Nat) (x : Port) : (setPort s p x).planeFill = s.planeFill := rfl
@[simp] theorem setPort_dep (s : State) (p : Nat) (x : Port) : (setPort s p x).dep = s.dep := rfl
@[simp] theorem setPort_flash (s : State) (p : Nat) (x : Port) : (setPort s p x).flash = s.flash := rfl
@[simp] theorem setPort_flashFill (s : State) (p : Nat) (x : Port) : (setPort s p x).flashFill = s.flashFill := rfl
@[simp] theorem setPort_keys (s : State) (p : Nat) (x : Port) : (setPort s p x).keys = s.keys := rfl
@[simp] theorem setPort_prevEpoch (s : State) (p : Nat) (x : Port) : (setPort s p x).prevEpoch = s.prevEpoch := rfl
@[simp] theorem setPort_load (s : State) (p : Nat) (x : Port) : (setPort s p x).load = s.load := rfl
@[simp] theorem setPort_kite (s : State) (p : Nat) (x : Port) : (setPort s p x).kite = s.kite := rfl
@[simp] theorem setPort_tlm (s : State) (p : Nat) (x : Port) : (setPort s p x).tlm = s.tlm := rfl
@[simp] theorem setPort_scrUnbind (s : State) (p : Nat) (x : Port) : (setPort s p x).scrUnbind = s.scrUnbind := rfl
@[simp] theorem setPort_nva (s : State) (p : Nat) (x : Port) : (setPort s p x).nva = s.nva := rfl
@[simp] theorem setPort_nvIncomplete (s : State) (p : Nat) (x : Port) : (setPort s p x).nvIncomplete = s.nvIncomplete := rfl
@[simp] theorem setPort_nvFill (s : State) (p : Nat) (x : Port) : (setPort s p x).nvFill = s.nvFill := rfl
@[simp] theorem setPort_enu (s : State) (p : Nat) (x : Port) : (setPort s p x).enu = s.enu := rfl
@[simp] theorem setPort_har (s : State) (p : Nat) (x : Port) : (setPort s p x).har = s.har := rfl
@[simp] theorem setPort_vbu (s : State) (p : Nat) (x : Port) : (setPort s p x).vbu = s.vbu := rfl
@[simp] theorem setPort_osp (s : State) (p : Nat) (x : Port) : (setPort s p x).osp = s.osp := rfl
@[simp] theorem setPort_tag (s : State) (p : Nat) (x : Port) : (setPort s p x).tag = s.tag := rfl
@[simp] theorem setPort_tagMem (s : State) (p : Nat) (x : Port) : (setPort s p x).tagMem = s.tagMem := rfl
@[simp] theorem setPort_bst (s : State) (p : Nat) (x : Port) : (setPort s p x).bst = s.bst := rfl
@[simp] theorem setPort_lcy (s : State) (p : Nat) (x : Port) : (setPort s p x).lcy = s.lcy := rfl
@[simp] theorem setPort_tap (s : State) (p : Nat) (x : Port) : (setPort s p x).tap = s.tap := rfl
@[simp] theorem setPort_regDue (s : State) (p : Nat) (x : Port) : (setPort s p x).regDue = s.regDue := rfl
@[simp] theorem setPort_regPart (s : State) (p : Nat) (x : Port) : (setPort s p x).regPart = s.regPart := rfl
@[simp] theorem setPort_rd (s : State) (p : Nat) (x : Port) (r : Nat) : rd (setPort s p x) r = rd s r := rfl
@[simp] theorem setPort_getf (s : State) (p : Nat) (x : Port) (g : Fld) : getf (setPort s p x) g = getf s g := rfl
@[simp] theorem setPort_isSet (s : State) (p : Nat) (x : Port) (g : Fld) : isSet (setPort s p x) g = isSet s g := rfl

/-! ### setTbu -/
@[simp] theorem setTbu_pending (s : State) (x : Tbu) : (setTbu s x).pending = s.pending := rfl
@[simp] theorem setTbu_regs (s : State) (x : Tbu) : (setTbu s x).regs = s.regs := rfl
@[simp] theorem setTbu_mem (s : State) (x : Tbu) : (setTbu s x).mem = s.mem := rfl
@[simp] theorem setTbu_memFill (s : State) (x : Tbu) : (setTbu s x).memFill = s.memFill := rfl
@[simp] theorem setTbu_free (s : State) (x : Tbu) : (setTbu s x).free = s.free := rfl
@[simp] theorem setTbu_out (s : State) (x : Tbu) : (setTbu s x).out = s.out := rfl
@[simp] theorem setTbu_ctxs (s : State) (x : Tbu) : (setTbu s x).ctxs = s.ctxs := rfl
@[simp] theorem setTbu_ops (s : State) (x : Tbu) : (setTbu s x).ops = s.ops := rfl
@[simp] theorem setTbu_nextTag (s : State) (x : Tbu) : (setTbu s x).nextTag = s.nextTag := rfl
@[simp] theorem setTbu_rounds (s : State) (x : Tbu) : (setTbu s x).rounds = s.rounds := rfl
@[simp] theorem setTbu_ledger (s : State) (x : Tbu) : (setTbu s x).ledger = s.ledger := rfl
@[simp] theorem setTbu_hif (s : State) (x : Tbu) : (setTbu s x).hif = s.hif := rfl
@[simp] theorem setTbu_pwr (s : State) (x : Tbu) : (setTbu s x).pwr = s.pwr := rfl
@[simp] theorem setTbu_doms (s : State) (x : Tbu) : (setTbu s x).doms = s.doms := rfl
@[simp] theorem setTbu_banks (s : State) (x : Tbu) : (setTbu s x).banks = s.banks := rfl
@[simp] theorem setTbu_log (s : State) (x : Tbu) : (setTbu s x).log = s.log := rfl
@[simp] theorem setTbu_nv (s : State) (x : Tbu) : (setTbu s x).nv = s.nv := rfl
@[simp] theorem setTbu_planeMem (s : State) (x : Tbu) : (setTbu s x).planeMem = s.planeMem := rfl
@[simp] theorem setTbu_fifos (s : State) (x : Tbu) : (setTbu s x).fifos = s.fifos := rfl
@[simp] theorem setTbu_clk (s : State) (x : Tbu) : (setTbu s x).clk = s.clk := rfl
@[simp] theorem setTbu_fab (s : State) (x : Tbu) : (setTbu s x).fab = s.fab := rfl
@[simp] theorem setTbu_boot (s : State) (x : Tbu) : (setTbu s x).boot = s.boot := rfl
@[simp] theorem setTbu_stage (s : State) (x : Tbu) : (setTbu s x).stage = s.stage := rfl
@[simp] theorem setTbu_ho (s : State) (x : Tbu) : (setTbu s x).ho = s.ho := rfl
@[simp] theorem setTbu_planeFill (s : State) (x : Tbu) : (setTbu s x).planeFill = s.planeFill := rfl
@[simp] theorem setTbu_dep (s : State) (x : Tbu) : (setTbu s x).dep = s.dep := rfl
@[simp] theorem setTbu_flash (s : State) (x : Tbu) : (setTbu s x).flash = s.flash := rfl
@[simp] theorem setTbu_flashFill (s : State) (x : Tbu) : (setTbu s x).flashFill = s.flashFill := rfl
@[simp] theorem setTbu_keys (s : State) (x : Tbu) : (setTbu s x).keys = s.keys := rfl
@[simp] theorem setTbu_prevEpoch (s : State) (x : Tbu) : (setTbu s x).prevEpoch = s.prevEpoch := rfl
@[simp] theorem setTbu_load (s : State) (x : Tbu) : (setTbu s x).load = s.load := rfl
@[simp] theorem setTbu_kite (s : State) (x : Tbu) : (setTbu s x).kite = s.kite := rfl
@[simp] theorem setTbu_tlm (s : State) (x : Tbu) : (setTbu s x).tlm = s.tlm := rfl
@[simp] theorem setTbu_scrUnbind (s : State) (x : Tbu) : (setTbu s x).scrUnbind = s.scrUnbind := rfl
@[simp] theorem setTbu_nva (s : State) (x : Tbu) : (setTbu s x).nva = s.nva := rfl
@[simp] theorem setTbu_nvIncomplete (s : State) (x : Tbu) : (setTbu s x).nvIncomplete = s.nvIncomplete := rfl
@[simp] theorem setTbu_nvFill (s : State) (x : Tbu) : (setTbu s x).nvFill = s.nvFill := rfl
@[simp] theorem setTbu_ports (s : State) (x : Tbu) : (setTbu s x).ports = s.ports := rfl
@[simp] theorem setTbu_enu (s : State) (x : Tbu) : (setTbu s x).enu = s.enu := rfl
@[simp] theorem setTbu_har (s : State) (x : Tbu) : (setTbu s x).har = s.har := rfl
@[simp] theorem setTbu_vbu (s : State) (x : Tbu) : (setTbu s x).vbu = s.vbu := rfl
@[simp] theorem setTbu_osp (s : State) (x : Tbu) : (setTbu s x).osp = s.osp := rfl
@[simp] theorem setTbu_tag (s : State) (x : Tbu) : (setTbu s x).tag = s.tag := rfl
@[simp] theorem setTbu_tagMem (s : State) (x : Tbu) : (setTbu s x).tagMem = s.tagMem := rfl
@[simp] theorem setTbu_bst (s : State) (x : Tbu) : (setTbu s x).bst = s.bst := rfl
@[simp] theorem setTbu_lcy (s : State) (x : Tbu) : (setTbu s x).lcy = s.lcy := rfl
@[simp] theorem setTbu_tap (s : State) (x : Tbu) : (setTbu s x).tap = s.tap := rfl
@[simp] theorem setTbu_regDue (s : State) (x : Tbu) : (setTbu s x).regDue = s.regDue := rfl
@[simp] theorem setTbu_regPart (s : State) (x : Tbu) : (setTbu s x).regPart = s.regPart := rfl
@[simp] theorem setTbu_tbu (s : State) (x : Tbu) : (setTbu s x).tbu = x := rfl
@[simp] theorem setTbu_rd (s : State) (x : Tbu) (r : Nat) : rd (setTbu s x) r = rd s r := rfl
@[simp] theorem setTbu_getf (s : State) (x : Tbu) (g : Fld) : getf (setTbu s x) g = getf s g := rfl
@[simp] theorem setTbu_isSet (s : State) (x : Tbu) (g : Fld) : isSet (setTbu s x) g = isSet s g := rfl

/-! ### setKite -/
@[simp] theorem setKite_pending (s : State) (x : Kite) : (setKite s x).pending = s.pending := rfl
@[simp] theorem setKite_regs (s : State) (x : Kite) : (setKite s x).regs = s.regs := rfl
@[simp] theorem setKite_mem (s : State) (x : Kite) : (setKite s x).mem = s.mem := rfl
@[simp] theorem setKite_memFill (s : State) (x : Kite) : (setKite s x).memFill = s.memFill := rfl
@[simp] theorem setKite_free (s : State) (x : Kite) : (setKite s x).free = s.free := rfl
@[simp] theorem setKite_out (s : State) (x : Kite) : (setKite s x).out = s.out := rfl
@[simp] theorem setKite_ctxs (s : State) (x : Kite) : (setKite s x).ctxs = s.ctxs := rfl
@[simp] theorem setKite_ops (s : State) (x : Kite) : (setKite s x).ops = s.ops := rfl
@[simp] theorem setKite_nextTag (s : State) (x : Kite) : (setKite s x).nextTag = s.nextTag := rfl
@[simp] theorem setKite_rounds (s : State) (x : Kite) : (setKite s x).rounds = s.rounds := rfl
@[simp] theorem setKite_ledger (s : State) (x : Kite) : (setKite s x).ledger = s.ledger := rfl
@[simp] theorem setKite_hif (s : State) (x : Kite) : (setKite s x).hif = s.hif := rfl
@[simp] theorem setKite_pwr (s : State) (x : Kite) : (setKite s x).pwr = s.pwr := rfl
@[simp] theorem setKite_doms (s : State) (x : Kite) : (setKite s x).doms = s.doms := rfl
@[simp] theorem setKite_banks (s : State) (x : Kite) : (setKite s x).banks = s.banks := rfl
@[simp] theorem setKite_log (s : State) (x : Kite) : (setKite s x).log = s.log := rfl
@[simp] theorem setKite_tbu (s : State) (x : Kite) : (setKite s x).tbu = s.tbu := rfl
@[simp] theorem setKite_nv (s : State) (x : Kite) : (setKite s x).nv = s.nv := rfl
@[simp] theorem setKite_planeMem (s : State) (x : Kite) : (setKite s x).planeMem = s.planeMem := rfl
@[simp] theorem setKite_fifos (s : State) (x : Kite) : (setKite s x).fifos = s.fifos := rfl
@[simp] theorem setKite_clk (s : State) (x : Kite) : (setKite s x).clk = s.clk := rfl
@[simp] theorem setKite_fab (s : State) (x : Kite) : (setKite s x).fab = s.fab := rfl
@[simp] theorem setKite_boot (s : State) (x : Kite) : (setKite s x).boot = s.boot := rfl
@[simp] theorem setKite_stage (s : State) (x : Kite) : (setKite s x).stage = s.stage := rfl
@[simp] theorem setKite_ho (s : State) (x : Kite) : (setKite s x).ho = s.ho := rfl
@[simp] theorem setKite_planeFill (s : State) (x : Kite) : (setKite s x).planeFill = s.planeFill := rfl
@[simp] theorem setKite_dep (s : State) (x : Kite) : (setKite s x).dep = s.dep := rfl
@[simp] theorem setKite_flash (s : State) (x : Kite) : (setKite s x).flash = s.flash := rfl
@[simp] theorem setKite_flashFill (s : State) (x : Kite) : (setKite s x).flashFill = s.flashFill := rfl
@[simp] theorem setKite_keys (s : State) (x : Kite) : (setKite s x).keys = s.keys := rfl
@[simp] theorem setKite_prevEpoch (s : State) (x : Kite) : (setKite s x).prevEpoch = s.prevEpoch := rfl
@[simp] theorem setKite_load (s : State) (x : Kite) : (setKite s x).load = s.load := rfl
@[simp] theorem setKite_tlm (s : State) (x : Kite) : (setKite s x).tlm = s.tlm := rfl
@[simp] theorem setKite_scrUnbind (s : State) (x : Kite) : (setKite s x).scrUnbind = s.scrUnbind := rfl
@[simp] theorem setKite_nva (s : State) (x : Kite) : (setKite s x).nva = s.nva := rfl
@[simp] theorem setKite_nvIncomplete (s : State) (x : Kite) : (setKite s x).nvIncomplete = s.nvIncomplete := rfl
@[simp] theorem setKite_nvFill (s : State) (x : Kite) : (setKite s x).nvFill = s.nvFill := rfl
@[simp] theorem setKite_ports (s : State) (x : Kite) : (setKite s x).ports = s.ports := rfl
@[simp] theorem setKite_enu (s : State) (x : Kite) : (setKite s x).enu = s.enu := rfl
@[simp] theorem setKite_har (s : State) (x : Kite) : (setKite s x).har = s.har := rfl
@[simp] theorem setKite_vbu (s : State) (x : Kite) : (setKite s x).vbu = s.vbu := rfl
@[simp] theorem setKite_osp (s : State) (x : Kite) : (setKite s x).osp = s.osp := rfl
@[simp] theorem setKite_tag (s : State) (x : Kite) : (setKite s x).tag = s.tag := rfl
@[simp] theorem setKite_tagMem (s : State) (x : Kite) : (setKite s x).tagMem = s.tagMem := rfl
@[simp] theorem setKite_bst (s : State) (x : Kite) : (setKite s x).bst = s.bst := rfl
@[simp] theorem setKite_lcy (s : State) (x : Kite) : (setKite s x).lcy = s.lcy := rfl
@[simp] theorem setKite_tap (s : State) (x : Kite) : (setKite s x).tap = s.tap := rfl
@[simp] theorem setKite_regDue (s : State) (x : Kite) : (setKite s x).regDue = s.regDue := rfl
@[simp] theorem setKite_regPart (s : State) (x : Kite) : (setKite s x).regPart = s.regPart := rfl
@[simp] theorem setKite_kite (s : State) (x : Kite) : (setKite s x).kite = x := rfl
@[simp] theorem setKite_rd (s : State) (x : Kite) (r : Nat) : rd (setKite s x) r = rd s r := rfl
@[simp] theorem setKite_getf (s : State) (x : Kite) (g : Fld) : getf (setKite s x) g = getf s g := rfl
@[simp] theorem setKite_isSet (s : State) (x : Kite) (g : Fld) : isSet (setKite s x) g = isSet s g := rfl

/-! ### setDep -/
@[simp] theorem setDep_pending (s : State) (x : Dep) : (setDep s x).pending = s.pending := rfl
@[simp] theorem setDep_regs (s : State) (x : Dep) : (setDep s x).regs = s.regs := rfl
@[simp] theorem setDep_mem (s : State) (x : Dep) : (setDep s x).mem = s.mem := rfl
@[simp] theorem setDep_memFill (s : State) (x : Dep) : (setDep s x).memFill = s.memFill := rfl
@[simp] theorem setDep_free (s : State) (x : Dep) : (setDep s x).free = s.free := rfl
@[simp] theorem setDep_out (s : State) (x : Dep) : (setDep s x).out = s.out := rfl
@[simp] theorem setDep_ctxs (s : State) (x : Dep) : (setDep s x).ctxs = s.ctxs := rfl
@[simp] theorem setDep_ops (s : State) (x : Dep) : (setDep s x).ops = s.ops := rfl
@[simp] theorem setDep_nextTag (s : State) (x : Dep) : (setDep s x).nextTag = s.nextTag := rfl
@[simp] theorem setDep_rounds (s : State) (x : Dep) : (setDep s x).rounds = s.rounds := rfl
@[simp] theorem setDep_ledger (s : State) (x : Dep) : (setDep s x).ledger = s.ledger := rfl
@[simp] theorem setDep_hif (s : State) (x : Dep) : (setDep s x).hif = s.hif := rfl
@[simp] theorem setDep_pwr (s : State) (x : Dep) : (setDep s x).pwr = s.pwr := rfl
@[simp] theorem setDep_doms (s : State) (x : Dep) : (setDep s x).doms = s.doms := rfl
@[simp] theorem setDep_banks (s : State) (x : Dep) : (setDep s x).banks = s.banks := rfl
@[simp] theorem setDep_log (s : State) (x : Dep) : (setDep s x).log = s.log := rfl
@[simp] theorem setDep_tbu (s : State) (x : Dep) : (setDep s x).tbu = s.tbu := rfl
@[simp] theorem setDep_nv (s : State) (x : Dep) : (setDep s x).nv = s.nv := rfl
@[simp] theorem setDep_planeMem (s : State) (x : Dep) : (setDep s x).planeMem = s.planeMem := rfl
@[simp] theorem setDep_fifos (s : State) (x : Dep) : (setDep s x).fifos = s.fifos := rfl
@[simp] theorem setDep_clk (s : State) (x : Dep) : (setDep s x).clk = s.clk := rfl
@[simp] theorem setDep_fab (s : State) (x : Dep) : (setDep s x).fab = s.fab := rfl
@[simp] theorem setDep_boot (s : State) (x : Dep) : (setDep s x).boot = s.boot := rfl
@[simp] theorem setDep_stage (s : State) (x : Dep) : (setDep s x).stage = s.stage := rfl
@[simp] theorem setDep_ho (s : State) (x : Dep) : (setDep s x).ho = s.ho := rfl
@[simp] theorem setDep_planeFill (s : State) (x : Dep) : (setDep s x).planeFill = s.planeFill := rfl
@[simp] theorem setDep_flash (s : State) (x : Dep) : (setDep s x).flash = s.flash := rfl
@[simp] theorem setDep_flashFill (s : State) (x : Dep) : (setDep s x).flashFill = s.flashFill := rfl
@[simp] theorem setDep_keys (s : State) (x : Dep) : (setDep s x).keys = s.keys := rfl
@[simp] theorem setDep_prevEpoch (s : State) (x : Dep) : (setDep s x).prevEpoch = s.prevEpoch := rfl
@[simp] theorem setDep_load (s : State) (x : Dep) : (setDep s x).load = s.load := rfl
@[simp] theorem setDep_kite (s : State) (x : Dep) : (setDep s x).kite = s.kite := rfl
@[simp] theorem setDep_tlm (s : State) (x : Dep) : (setDep s x).tlm = s.tlm := rfl
@[simp] theorem setDep_scrUnbind (s : State) (x : Dep) : (setDep s x).scrUnbind = s.scrUnbind := rfl
@[simp] theorem setDep_nva (s : State) (x : Dep) : (setDep s x).nva = s.nva := rfl
@[simp] theorem setDep_nvIncomplete (s : State) (x : Dep) : (setDep s x).nvIncomplete = s.nvIncomplete := rfl
@[simp] theorem setDep_nvFill (s : State) (x : Dep) : (setDep s x).nvFill = s.nvFill := rfl
@[simp] theorem setDep_ports (s : State) (x : Dep) : (setDep s x).ports = s.ports := rfl
@[simp] theorem setDep_enu (s : State) (x : Dep) : (setDep s x).enu = s.enu := rfl
@[simp] theorem setDep_har (s : State) (x : Dep) : (setDep s x).har = s.har := rfl
@[simp] theorem setDep_vbu (s : State) (x : Dep) : (setDep s x).vbu = s.vbu := rfl
@[simp] theorem setDep_osp (s : State) (x : Dep) : (setDep s x).osp = s.osp := rfl
@[simp] theorem setDep_tag (s : State) (x : Dep) : (setDep s x).tag = s.tag := rfl
@[simp] theorem setDep_tagMem (s : State) (x : Dep) : (setDep s x).tagMem = s.tagMem := rfl
@[simp] theorem setDep_bst (s : State) (x : Dep) : (setDep s x).bst = s.bst := rfl
@[simp] theorem setDep_lcy (s : State) (x : Dep) : (setDep s x).lcy = s.lcy := rfl
@[simp] theorem setDep_tap (s : State) (x : Dep) : (setDep s x).tap = s.tap := rfl
@[simp] theorem setDep_regDue (s : State) (x : Dep) : (setDep s x).regDue = s.regDue := rfl
@[simp] theorem setDep_regPart (s : State) (x : Dep) : (setDep s x).regPart = s.regPart := rfl
@[simp] theorem setDep_dep (s : State) (x : Dep) : (setDep s x).dep = x := rfl
@[simp] theorem setDep_rd (s : State) (x : Dep) (r : Nat) : rd (setDep s x) r = rd s r := rfl
@[simp] theorem setDep_getf (s : State) (x : Dep) (g : Fld) : getf (setDep s x) g = getf s g := rfl
@[simp] theorem setDep_isSet (s : State) (x : Dep) (g : Fld) : isSet (setDep s x) g = isSet s g := rfl

/-! ### setFab -/
@[simp] theorem setFab_pending (s : State) (x : Fab) : (setFab s x).pending = s.pending := rfl
@[simp] theorem setFab_regs (s : State) (x : Fab) : (setFab s x).regs = s.regs := rfl
@[simp] theorem setFab_mem (s : State) (x : Fab) : (setFab s x).mem = s.mem := rfl
@[simp] theorem setFab_memFill (s : State) (x : Fab) : (setFab s x).memFill = s.memFill := rfl
@[simp] theorem setFab_free (s : State) (x : Fab) : (setFab s x).free = s.free := rfl
@[simp] theorem setFab_out (s : State) (x : Fab) : (setFab s x).out = s.out := rfl
@[simp] theorem setFab_ctxs (s : State) (x : Fab) : (setFab s x).ctxs = s.ctxs := rfl
@[simp] theorem setFab_ops (s : State) (x : Fab) : (setFab s x).ops = s.ops := rfl
@[simp] theorem setFab_nextTag (s : State) (x : Fab) : (setFab s x).nextTag = s.nextTag := rfl
@[simp] theorem setFab_rounds (s : State) (x : Fab) : (setFab s x).rounds = s.rounds := rfl
@[simp] theorem setFab_ledger (s : State) (x : Fab) : (setFab s x).ledger = s.ledger := rfl
@[simp] theorem setFab_hif (s : State) (x : Fab) : (setFab s x).hif = s.hif := rfl
@[simp] theorem setFab_pwr (s : State) (x : Fab) : (setFab s x).pwr = s.pwr := rfl
@[simp] theorem setFab_doms (s : State) (x : Fab) : (setFab s x).doms = s.doms := rfl
@[simp] theorem setFab_banks (s : State) (x : Fab) : (setFab s x).banks = s.banks := rfl
@[simp] theorem setFab_log (s : State) (x : Fab) : (setFab s x).log = s.log := rfl
@[simp] theorem setFab_tbu (s : State) (x : Fab) : (setFab s x).tbu = s.tbu := rfl
@[simp] theorem setFab_nv (s : State) (x : Fab) : (setFab s x).nv = s.nv := rfl
@[simp] theorem setFab_planeMem (s : State) (x : Fab) : (setFab s x).planeMem = s.planeMem := rfl
@[simp] theorem setFab_fifos (s : State) (x : Fab) : (setFab s x).fifos = s.fifos := rfl
@[simp] theorem setFab_clk (s : State) (x : Fab) : (setFab s x).clk = s.clk := rfl
@[simp] theorem setFab_boot (s : State) (x : Fab) : (setFab s x).boot = s.boot := rfl
@[simp] theorem setFab_stage (s : State) (x : Fab) : (setFab s x).stage = s.stage := rfl
@[simp] theorem setFab_ho (s : State) (x : Fab) : (setFab s x).ho = s.ho := rfl
@[simp] theorem setFab_planeFill (s : State) (x : Fab) : (setFab s x).planeFill = s.planeFill := rfl
@[simp] theorem setFab_dep (s : State) (x : Fab) : (setFab s x).dep = s.dep := rfl
@[simp] theorem setFab_flash (s : State) (x : Fab) : (setFab s x).flash = s.flash := rfl
@[simp] theorem setFab_flashFill (s : State) (x : Fab) : (setFab s x).flashFill = s.flashFill := rfl
@[simp] theorem setFab_keys (s : State) (x : Fab) : (setFab s x).keys = s.keys := rfl
@[simp] theorem setFab_prevEpoch (s : State) (x : Fab) : (setFab s x).prevEpoch = s.prevEpoch := rfl
@[simp] theorem setFab_load (s : State) (x : Fab) : (setFab s x).load = s.load := rfl
@[simp] theorem setFab_kite (s : State) (x : Fab) : (setFab s x).kite = s.kite := rfl
@[simp] theorem setFab_tlm (s : State) (x : Fab) : (setFab s x).tlm = s.tlm := rfl
@[simp] theorem setFab_scrUnbind (s : State) (x : Fab) : (setFab s x).scrUnbind = s.scrUnbind := rfl
@[simp] theorem setFab_nva (s : State) (x : Fab) : (setFab s x).nva = s.nva := rfl
@[simp] theorem setFab_nvIncomplete (s : State) (x : Fab) : (setFab s x).nvIncomplete = s.nvIncomplete := rfl
@[simp] theorem setFab_nvFill (s : State) (x : Fab) : (setFab s x).nvFill = s.nvFill := rfl
@[simp] theorem setFab_ports (s : State) (x : Fab) : (setFab s x).ports = s.ports := rfl
@[simp] theorem setFab_enu (s : State) (x : Fab) : (setFab s x).enu = s.enu := rfl
@[simp] theorem setFab_har (s : State) (x : Fab) : (setFab s x).har = s.har := rfl
@[simp] theorem setFab_vbu (s : State) (x : Fab) : (setFab s x).vbu = s.vbu := rfl
@[simp] theorem setFab_osp (s : State) (x : Fab) : (setFab s x).osp = s.osp := rfl
@[simp] theorem setFab_tag (s : State) (x : Fab) : (setFab s x).tag = s.tag := rfl
@[simp] theorem setFab_tagMem (s : State) (x : Fab) : (setFab s x).tagMem = s.tagMem := rfl
@[simp] theorem setFab_bst (s : State) (x : Fab) : (setFab s x).bst = s.bst := rfl
@[simp] theorem setFab_lcy (s : State) (x : Fab) : (setFab s x).lcy = s.lcy := rfl
@[simp] theorem setFab_tap (s : State) (x : Fab) : (setFab s x).tap = s.tap := rfl
@[simp] theorem setFab_regDue (s : State) (x : Fab) : (setFab s x).regDue = s.regDue := rfl
@[simp] theorem setFab_regPart (s : State) (x : Fab) : (setFab s x).regPart = s.regPart := rfl
@[simp] theorem setFab_fab (s : State) (x : Fab) : (setFab s x).fab = x := rfl
@[simp] theorem setFab_rd (s : State) (x : Fab) (r : Nat) : rd (setFab s x) r = rd s r := rfl
@[simp] theorem setFab_getf (s : State) (x : Fab) (g : Fld) : getf (setFab s x) g = getf s g := rfl
@[simp] theorem setFab_isSet (s : State) (x : Fab) (g : Fld) : isSet (setFab s x) g = isSet s g := rfl

/-! ### setBoot -/
@[simp] theorem setBoot_pending (s : State) (x : Boot) : (setBoot s x).pending = s.pending := rfl
@[simp] theorem setBoot_regs (s : State) (x : Boot) : (setBoot s x).regs = s.regs := rfl
@[simp] theorem setBoot_mem (s : State) (x : Boot) : (setBoot s x).mem = s.mem := rfl
@[simp] theorem setBoot_memFill (s : State) (x : Boot) : (setBoot s x).memFill = s.memFill := rfl
@[simp] theorem setBoot_free (s : State) (x : Boot) : (setBoot s x).free = s.free := rfl
@[simp] theorem setBoot_out (s : State) (x : Boot) : (setBoot s x).out = s.out := rfl
@[simp] theorem setBoot_ctxs (s : State) (x : Boot) : (setBoot s x).ctxs = s.ctxs := rfl
@[simp] theorem setBoot_ops (s : State) (x : Boot) : (setBoot s x).ops = s.ops := rfl
@[simp] theorem setBoot_nextTag (s : State) (x : Boot) : (setBoot s x).nextTag = s.nextTag := rfl
@[simp] theorem setBoot_rounds (s : State) (x : Boot) : (setBoot s x).rounds = s.rounds := rfl
@[simp] theorem setBoot_ledger (s : State) (x : Boot) : (setBoot s x).ledger = s.ledger := rfl
@[simp] theorem setBoot_hif (s : State) (x : Boot) : (setBoot s x).hif = s.hif := rfl
@[simp] theorem setBoot_pwr (s : State) (x : Boot) : (setBoot s x).pwr = s.pwr := rfl
@[simp] theorem setBoot_doms (s : State) (x : Boot) : (setBoot s x).doms = s.doms := rfl
@[simp] theorem setBoot_banks (s : State) (x : Boot) : (setBoot s x).banks = s.banks := rfl
@[simp] theorem setBoot_log (s : State) (x : Boot) : (setBoot s x).log = s.log := rfl
@[simp] theorem setBoot_tbu (s : State) (x : Boot) : (setBoot s x).tbu = s.tbu := rfl
@[simp] theorem setBoot_nv (s : State) (x : Boot) : (setBoot s x).nv = s.nv := rfl
@[simp] theorem setBoot_planeMem (s : State) (x : Boot) : (setBoot s x).planeMem = s.planeMem := rfl
@[simp] theorem setBoot_fifos (s : State) (x : Boot) : (setBoot s x).fifos = s.fifos := rfl
@[simp] theorem setBoot_clk (s : State) (x : Boot) : (setBoot s x).clk = s.clk := rfl
@[simp] theorem setBoot_fab (s : State) (x : Boot) : (setBoot s x).fab = s.fab := rfl
@[simp] theorem setBoot_stage (s : State) (x : Boot) : (setBoot s x).stage = s.stage := rfl
@[simp] theorem setBoot_ho (s : State) (x : Boot) : (setBoot s x).ho = s.ho := rfl
@[simp] theorem setBoot_planeFill (s : State) (x : Boot) : (setBoot s x).planeFill = s.planeFill := rfl
@[simp] theorem setBoot_dep (s : State) (x : Boot) : (setBoot s x).dep = s.dep := rfl
@[simp] theorem setBoot_flash (s : State) (x : Boot) : (setBoot s x).flash = s.flash := rfl
@[simp] theorem setBoot_flashFill (s : State) (x : Boot) : (setBoot s x).flashFill = s.flashFill := rfl
@[simp] theorem setBoot_keys (s : State) (x : Boot) : (setBoot s x).keys = s.keys := rfl
@[simp] theorem setBoot_prevEpoch (s : State) (x : Boot) : (setBoot s x).prevEpoch = s.prevEpoch := rfl
@[simp] theorem setBoot_load (s : State) (x : Boot) : (setBoot s x).load = s.load := rfl
@[simp] theorem setBoot_kite (s : State) (x : Boot) : (setBoot s x).kite = s.kite := rfl
@[simp] theorem setBoot_tlm (s : State) (x : Boot) : (setBoot s x).tlm = s.tlm := rfl
@[simp] theorem setBoot_scrUnbind (s : State) (x : Boot) : (setBoot s x).scrUnbind = s.scrUnbind := rfl
@[simp] theorem setBoot_nva (s : State) (x : Boot) : (setBoot s x).nva = s.nva := rfl
@[simp] theorem setBoot_nvIncomplete (s : State) (x : Boot) : (setBoot s x).nvIncomplete = s.nvIncomplete := rfl
@[simp] theorem setBoot_nvFill (s : State) (x : Boot) : (setBoot s x).nvFill = s.nvFill := rfl
@[simp] theorem setBoot_ports (s : State) (x : Boot) : (setBoot s x).ports = s.ports := rfl
@[simp] theorem setBoot_enu (s : State) (x : Boot) : (setBoot s x).enu = s.enu := rfl
@[simp] theorem setBoot_har (s : State) (x : Boot) : (setBoot s x).har = s.har := rfl
@[simp] theorem setBoot_vbu (s : State) (x : Boot) : (setBoot s x).vbu = s.vbu := rfl
@[simp] theorem setBoot_osp (s : State) (x : Boot) : (setBoot s x).osp = s.osp := rfl
@[simp] theorem setBoot_tag (s : State) (x : Boot) : (setBoot s x).tag = s.tag := rfl
@[simp] theorem setBoot_tagMem (s : State) (x : Boot) : (setBoot s x).tagMem = s.tagMem := rfl
@[simp] theorem setBoot_bst (s : State) (x : Boot) : (setBoot s x).bst = s.bst := rfl
@[simp] theorem setBoot_lcy (s : State) (x : Boot) : (setBoot s x).lcy = s.lcy := rfl
@[simp] theorem setBoot_tap (s : State) (x : Boot) : (setBoot s x).tap = s.tap := rfl
@[simp] theorem setBoot_regDue (s : State) (x : Boot) : (setBoot s x).regDue = s.regDue := rfl
@[simp] theorem setBoot_regPart (s : State) (x : Boot) : (setBoot s x).regPart = s.regPart := rfl
@[simp] theorem setBoot_boot (s : State) (x : Boot) : (setBoot s x).boot = x := rfl
@[simp] theorem setBoot_rd (s : State) (x : Boot) (r : Nat) : rd (setBoot s x) r = rd s r := rfl
@[simp] theorem setBoot_getf (s : State) (x : Boot) (g : Fld) : getf (setBoot s x) g = getf s g := rfl
@[simp] theorem setBoot_isSet (s : State) (x : Boot) (g : Fld) : isSet (setBoot s x) g = isSet s g := rfl

/-! ### setPwr -/
@[simp] theorem setPwr_pending (s : State) (x : Pwr) : (setPwr s x).pending = s.pending := rfl
@[simp] theorem setPwr_regs (s : State) (x : Pwr) : (setPwr s x).regs = s.regs := rfl
@[simp] theorem setPwr_mem (s : State) (x : Pwr) : (setPwr s x).mem = s.mem := rfl
@[simp] theorem setPwr_memFill (s : State) (x : Pwr) : (setPwr s x).memFill = s.memFill := rfl
@[simp] theorem setPwr_free (s : State) (x : Pwr) : (setPwr s x).free = s.free := rfl
@[simp] theorem setPwr_out (s : State) (x : Pwr) : (setPwr s x).out = s.out := rfl
@[simp] theorem setPwr_ctxs (s : State) (x : Pwr) : (setPwr s x).ctxs = s.ctxs := rfl
@[simp] theorem setPwr_ops (s : State) (x : Pwr) : (setPwr s x).ops = s.ops := rfl
@[simp] theorem setPwr_nextTag (s : State) (x : Pwr) : (setPwr s x).nextTag = s.nextTag := rfl
@[simp] theorem setPwr_rounds (s : State) (x : Pwr) : (setPwr s x).rounds = s.rounds := rfl
@[simp] theorem setPwr_ledger (s : State) (x : Pwr) : (setPwr s x).ledger = s.ledger := rfl
@[simp] theorem setPwr_hif (s : State) (x : Pwr) : (setPwr s x).hif = s.hif := rfl
@[simp] theorem setPwr_doms (s : State) (x : Pwr) : (setPwr s x).doms = s.doms := rfl
@[simp] theorem setPwr_banks (s : State) (x : Pwr) : (setPwr s x).banks = s.banks := rfl
@[simp] theorem setPwr_log (s : State) (x : Pwr) : (setPwr s x).log = s.log := rfl
@[simp] theorem setPwr_tbu (s : State) (x : Pwr) : (setPwr s x).tbu = s.tbu := rfl
@[simp] theorem setPwr_nv (s : State) (x : Pwr) : (setPwr s x).nv = s.nv := rfl
@[simp] theorem setPwr_planeMem (s : State) (x : Pwr) : (setPwr s x).planeMem = s.planeMem := rfl
@[simp] theorem setPwr_fifos (s : State) (x : Pwr) : (setPwr s x).fifos = s.fifos := rfl
@[simp] theorem setPwr_clk (s : State) (x : Pwr) : (setPwr s x).clk = s.clk := rfl
@[simp] theorem setPwr_fab (s : State) (x : Pwr) : (setPwr s x).fab = s.fab := rfl
@[simp] theorem setPwr_boot (s : State) (x : Pwr) : (setPwr s x).boot = s.boot := rfl
@[simp] theorem setPwr_stage (s : State) (x : Pwr) : (setPwr s x).stage = s.stage := rfl
@[simp] theorem setPwr_ho (s : State) (x : Pwr) : (setPwr s x).ho = s.ho := rfl
@[simp] theorem setPwr_planeFill (s : State) (x : Pwr) : (setPwr s x).planeFill = s.planeFill := rfl
@[simp] theorem setPwr_dep (s : State) (x : Pwr) : (setPwr s x).dep = s.dep := rfl
@[simp] theorem setPwr_flash (s : State) (x : Pwr) : (setPwr s x).flash = s.flash := rfl
@[simp] theorem setPwr_flashFill (s : State) (x : Pwr) : (setPwr s x).flashFill = s.flashFill := rfl
@[simp] theorem setPwr_keys (s : State) (x : Pwr) : (setPwr s x).keys = s.keys := rfl
@[simp] theorem setPwr_prevEpoch (s : State) (x : Pwr) : (setPwr s x).prevEpoch = s.prevEpoch := rfl
@[simp] theorem setPwr_load (s : State) (x : Pwr) : (setPwr s x).load = s.load := rfl
@[simp] theorem setPwr_kite (s : State) (x : Pwr) : (setPwr s x).kite = s.kite := rfl
@[simp] theorem setPwr_tlm (s : State) (x : Pwr) : (setPwr s x).tlm = s.tlm := rfl
@[simp] theorem setPwr_scrUnbind (s : State) (x : Pwr) : (setPwr s x).scrUnbind = s.scrUnbind := rfl
@[simp] theorem setPwr_nva (s : State) (x : Pwr) : (setPwr s x).nva = s.nva := rfl
@[simp] theorem setPwr_nvIncomplete (s : State) (x : Pwr) : (setPwr s x).nvIncomplete = s.nvIncomplete := rfl
@[simp] theorem setPwr_nvFill (s : State) (x : Pwr) : (setPwr s x).nvFill = s.nvFill := rfl
@[simp] theorem setPwr_ports (s : State) (x : Pwr) : (setPwr s x).ports = s.ports := rfl
@[simp] theorem setPwr_enu (s : State) (x : Pwr) : (setPwr s x).enu = s.enu := rfl
@[simp] theorem setPwr_har (s : State) (x : Pwr) : (setPwr s x).har = s.har := rfl
@[simp] theorem setPwr_vbu (s : State) (x : Pwr) : (setPwr s x).vbu = s.vbu := rfl
@[simp] theorem setPwr_osp (s : State) (x : Pwr) : (setPwr s x).osp = s.osp := rfl
@[simp] theorem setPwr_tag (s : State) (x : Pwr) : (setPwr s x).tag = s.tag := rfl
@[simp] theorem setPwr_tagMem (s : State) (x : Pwr) : (setPwr s x).tagMem = s.tagMem := rfl
@[simp] theorem setPwr_bst (s : State) (x : Pwr) : (setPwr s x).bst = s.bst := rfl
@[simp] theorem setPwr_lcy (s : State) (x : Pwr) : (setPwr s x).lcy = s.lcy := rfl
@[simp] theorem setPwr_tap (s : State) (x : Pwr) : (setPwr s x).tap = s.tap := rfl
@[simp] theorem setPwr_regDue (s : State) (x : Pwr) : (setPwr s x).regDue = s.regDue := rfl
@[simp] theorem setPwr_regPart (s : State) (x : Pwr) : (setPwr s x).regPart = s.regPart := rfl
@[simp] theorem setPwr_pwr (s : State) (x : Pwr) : (setPwr s x).pwr = x := rfl
@[simp] theorem setPwr_rd (s : State) (x : Pwr) (r : Nat) : rd (setPwr s x) r = rd s r := rfl
@[simp] theorem setPwr_getf (s : State) (x : Pwr) (g : Fld) : getf (setPwr s x) g = getf s g := rfl
@[simp] theorem setPwr_isSet (s : State) (x : Pwr) (g : Fld) : isSet (setPwr s x) g = isSet s g := rfl

/-! ### setNva -/
@[simp] theorem setNva_pending (s : State) (x : Nva) : (setNva s x).pending = s.pending := rfl
@[simp] theorem setNva_regs (s : State) (x : Nva) : (setNva s x).regs = s.regs := rfl
@[simp] theorem setNva_mem (s : State) (x : Nva) : (setNva s x).mem = s.mem := rfl
@[simp] theorem setNva_memFill (s : State) (x : Nva) : (setNva s x).memFill = s.memFill := rfl
@[simp] theorem setNva_free (s : State) (x : Nva) : (setNva s x).free = s.free := rfl
@[simp] theorem setNva_out (s : State) (x : Nva) : (setNva s x).out = s.out := rfl
@[simp] theorem setNva_ctxs (s : State) (x : Nva) : (setNva s x).ctxs = s.ctxs := rfl
@[simp] theorem setNva_ops (s : State) (x : Nva) : (setNva s x).ops = s.ops := rfl
@[simp] theorem setNva_nextTag (s : State) (x : Nva) : (setNva s x).nextTag = s.nextTag := rfl
@[simp] theorem setNva_rounds (s : State) (x : Nva) : (setNva s x).rounds = s.rounds := rfl
@[simp] theorem setNva_ledger (s : State) (x : Nva) : (setNva s x).ledger = s.ledger := rfl
@[simp] theorem setNva_hif (s : State) (x : Nva) : (setNva s x).hif = s.hif := rfl
@[simp] theorem setNva_pwr (s : State) (x : Nva) : (setNva s x).pwr = s.pwr := rfl
@[simp] theorem setNva_doms (s : State) (x : Nva) : (setNva s x).doms = s.doms := rfl
@[simp] theorem setNva_banks (s : State) (x : Nva) : (setNva s x).banks = s.banks := rfl
@[simp] theorem setNva_log (s : State) (x : Nva) : (setNva s x).log = s.log := rfl
@[simp] theorem setNva_tbu (s : State) (x : Nva) : (setNva s x).tbu = s.tbu := rfl
@[simp] theorem setNva_nv (s : State) (x : Nva) : (setNva s x).nv = s.nv := rfl
@[simp] theorem setNva_planeMem (s : State) (x : Nva) : (setNva s x).planeMem = s.planeMem := rfl
@[simp] theorem setNva_fifos (s : State) (x : Nva) : (setNva s x).fifos = s.fifos := rfl
@[simp] theorem setNva_clk (s : State) (x : Nva) : (setNva s x).clk = s.clk := rfl
@[simp] theorem setNva_fab (s : State) (x : Nva) : (setNva s x).fab = s.fab := rfl
@[simp] theorem setNva_boot (s : State) (x : Nva) : (setNva s x).boot = s.boot := rfl
@[simp] theorem setNva_stage (s : State) (x : Nva) : (setNva s x).stage = s.stage := rfl
@[simp] theorem setNva_ho (s : State) (x : Nva) : (setNva s x).ho = s.ho := rfl
@[simp] theorem setNva_planeFill (s : State) (x : Nva) : (setNva s x).planeFill = s.planeFill := rfl
@[simp] theorem setNva_dep (s : State) (x : Nva) : (setNva s x).dep = s.dep := rfl
@[simp] theorem setNva_flash (s : State) (x : Nva) : (setNva s x).flash = s.flash := rfl
@[simp] theorem setNva_flashFill (s : State) (x : Nva) : (setNva s x).flashFill = s.flashFill := rfl
@[simp] theorem setNva_keys (s : State) (x : Nva) : (setNva s x).keys = s.keys := rfl
@[simp] theorem setNva_prevEpoch (s : State) (x : Nva) : (setNva s x).prevEpoch = s.prevEpoch := rfl
@[simp] theorem setNva_load (s : State) (x : Nva) : (setNva s x).load = s.load := rfl
@[simp] theorem setNva_kite (s : State) (x : Nva) : (setNva s x).kite = s.kite := rfl
@[simp] theorem setNva_tlm (s : State) (x : Nva) : (setNva s x).tlm = s.tlm := rfl
@[simp] theorem setNva_scrUnbind (s : State) (x : Nva) : (setNva s x).scrUnbind = s.scrUnbind := rfl
@[simp] theorem setNva_nvIncomplete (s : State) (x : Nva) : (setNva s x).nvIncomplete = s.nvIncomplete := rfl
@[simp] theorem setNva_nvFill (s : State) (x : Nva) : (setNva s x).nvFill = s.nvFill := rfl
@[simp] theorem setNva_ports (s : State) (x : Nva) : (setNva s x).ports = s.ports := rfl
@[simp] theorem setNva_enu (s : State) (x : Nva) : (setNva s x).enu = s.enu := rfl
@[simp] theorem setNva_har (s : State) (x : Nva) : (setNva s x).har = s.har := rfl
@[simp] theorem setNva_vbu (s : State) (x : Nva) : (setNva s x).vbu = s.vbu := rfl
@[simp] theorem setNva_osp (s : State) (x : Nva) : (setNva s x).osp = s.osp := rfl
@[simp] theorem setNva_tag (s : State) (x : Nva) : (setNva s x).tag = s.tag := rfl
@[simp] theorem setNva_tagMem (s : State) (x : Nva) : (setNva s x).tagMem = s.tagMem := rfl
@[simp] theorem setNva_bst (s : State) (x : Nva) : (setNva s x).bst = s.bst := rfl
@[simp] theorem setNva_lcy (s : State) (x : Nva) : (setNva s x).lcy = s.lcy := rfl
@[simp] theorem setNva_tap (s : State) (x : Nva) : (setNva s x).tap = s.tap := rfl
@[simp] theorem setNva_regDue (s : State) (x : Nva) : (setNva s x).regDue = s.regDue := rfl
@[simp] theorem setNva_regPart (s : State) (x : Nva) : (setNva s x).regPart = s.regPart := rfl
@[simp] theorem setNva_nva (s : State) (x : Nva) : (setNva s x).nva = x := rfl
@[simp] theorem setNva_rd (s : State) (x : Nva) (r : Nat) : rd (setNva s x) r = rd s r := rfl
@[simp] theorem setNva_getf (s : State) (x : Nva) (g : Fld) : getf (setNva s x) g = getf s g := rfl
@[simp] theorem setNva_isSet (s : State) (x : Nva) (g : Fld) : isSet (setNva s x) g = isSet s g := rfl

/-! ### setEnu -/
@[simp] theorem setEnu_pending (s : State) (x : Enu) : (setEnu s x).pending = s.pending := rfl
@[simp] theorem setEnu_regs (s : State) (x : Enu) : (setEnu s x).regs = s.regs := rfl
@[simp] theorem setEnu_mem (s : State) (x : Enu) : (setEnu s x).mem = s.mem := rfl
@[simp] theorem setEnu_memFill (s : State) (x : Enu) : (setEnu s x).memFill = s.memFill := rfl
@[simp] theorem setEnu_free (s : State) (x : Enu) : (setEnu s x).free = s.free := rfl
@[simp] theorem setEnu_out (s : State) (x : Enu) : (setEnu s x).out = s.out := rfl
@[simp] theorem setEnu_ctxs (s : State) (x : Enu) : (setEnu s x).ctxs = s.ctxs := rfl
@[simp] theorem setEnu_ops (s : State) (x : Enu) : (setEnu s x).ops = s.ops := rfl
@[simp] theorem setEnu_nextTag (s : State) (x : Enu) : (setEnu s x).nextTag = s.nextTag := rfl
@[simp] theorem setEnu_rounds (s : State) (x : Enu) : (setEnu s x).rounds = s.rounds := rfl
@[simp] theorem setEnu_ledger (s : State) (x : Enu) : (setEnu s x).ledger = s.ledger := rfl
@[simp] theorem setEnu_hif (s : State) (x : Enu) : (setEnu s x).hif = s.hif := rfl
@[simp] theorem setEnu_pwr (s : State) (x : Enu) : (setEnu s x).pwr = s.pwr := rfl
@[simp] theorem setEnu_doms (s : State) (x : Enu) : (setEnu s x).doms = s.doms := rfl
@[simp] theorem setEnu_banks (s : State) (x : Enu) : (setEnu s x).banks = s.banks := rfl
@[simp] theorem setEnu_log (s : State) (x : Enu) : (setEnu s x).log = s.log := rfl
@[simp] theorem setEnu_tbu (s : State) (x : Enu) : (setEnu s x).tbu = s.tbu := rfl
@[simp] theorem setEnu_nv (s : State) (x : Enu) : (setEnu s x).nv = s.nv := rfl
@[simp] theorem setEnu_planeMem (s : State) (x : Enu) : (setEnu s x).planeMem = s.planeMem := rfl
@[simp] theorem setEnu_fifos (s : State) (x : Enu) : (setEnu s x).fifos = s.fifos := rfl
@[simp] theorem setEnu_clk (s : State) (x : Enu) : (setEnu s x).clk = s.clk := rfl
@[simp] theorem setEnu_fab (s : State) (x : Enu) : (setEnu s x).fab = s.fab := rfl
@[simp] theorem setEnu_boot (s : State) (x : Enu) : (setEnu s x).boot = s.boot := rfl
@[simp] theorem setEnu_stage (s : State) (x : Enu) : (setEnu s x).stage = s.stage := rfl
@[simp] theorem setEnu_ho (s : State) (x : Enu) : (setEnu s x).ho = s.ho := rfl
@[simp] theorem setEnu_planeFill (s : State) (x : Enu) : (setEnu s x).planeFill = s.planeFill := rfl
@[simp] theorem setEnu_dep (s : State) (x : Enu) : (setEnu s x).dep = s.dep := rfl
@[simp] theorem setEnu_flash (s : State) (x : Enu) : (setEnu s x).flash = s.flash := rfl
@[simp] theorem setEnu_flashFill (s : State) (x : Enu) : (setEnu s x).flashFill = s.flashFill := rfl
@[simp] theorem setEnu_keys (s : State) (x : Enu) : (setEnu s x).keys = s.keys := rfl
@[simp] theorem setEnu_prevEpoch (s : State) (x : Enu) : (setEnu s x).prevEpoch = s.prevEpoch := rfl
@[simp] theorem setEnu_load (s : State) (x : Enu) : (setEnu s x).load = s.load := rfl
@[simp] theorem setEnu_kite (s : State) (x : Enu) : (setEnu s x).kite = s.kite := rfl
@[simp] theorem setEnu_tlm (s : State) (x : Enu) : (setEnu s x).tlm = s.tlm := rfl
@[simp] theorem setEnu_scrUnbind (s : State) (x : Enu) : (setEnu s x).scrUnbind = s.scrUnbind := rfl
@[simp] theorem setEnu_nva (s : State) (x : Enu) : (setEnu s x).nva = s.nva := rfl
@[simp] theorem setEnu_nvIncomplete (s : State) (x : Enu) : (setEnu s x).nvIncomplete = s.nvIncomplete := rfl
@[simp] theorem setEnu_nvFill (s : State) (x : Enu) : (setEnu s x).nvFill = s.nvFill := rfl
@[simp] theorem setEnu_ports (s : State) (x : Enu) : (setEnu s x).ports = s.ports := rfl
@[simp] theorem setEnu_har (s : State) (x : Enu) : (setEnu s x).har = s.har := rfl
@[simp] theorem setEnu_vbu (s : State) (x : Enu) : (setEnu s x).vbu = s.vbu := rfl
@[simp] theorem setEnu_osp (s : State) (x : Enu) : (setEnu s x).osp = s.osp := rfl
@[simp] theorem setEnu_tag (s : State) (x : Enu) : (setEnu s x).tag = s.tag := rfl
@[simp] theorem setEnu_tagMem (s : State) (x : Enu) : (setEnu s x).tagMem = s.tagMem := rfl
@[simp] theorem setEnu_bst (s : State) (x : Enu) : (setEnu s x).bst = s.bst := rfl
@[simp] theorem setEnu_lcy (s : State) (x : Enu) : (setEnu s x).lcy = s.lcy := rfl
@[simp] theorem setEnu_tap (s : State) (x : Enu) : (setEnu s x).tap = s.tap := rfl
@[simp] theorem setEnu_regDue (s : State) (x : Enu) : (setEnu s x).regDue = s.regDue := rfl
@[simp] theorem setEnu_regPart (s : State) (x : Enu) : (setEnu s x).regPart = s.regPart := rfl
@[simp] theorem setEnu_enu (s : State) (x : Enu) : (setEnu s x).enu = x := rfl
@[simp] theorem setEnu_rd (s : State) (x : Enu) (r : Nat) : rd (setEnu s x) r = rd s r := rfl
@[simp] theorem setEnu_getf (s : State) (x : Enu) (g : Fld) : getf (setEnu s x) g = getf s g := rfl
@[simp] theorem setEnu_isSet (s : State) (x : Enu) (g : Fld) : isSet (setEnu s x) g = isSet s g := rfl

/-! ### setHif -/
@[simp] theorem setHif_pending (s : State) (x : Hif) : (setHif s x).pending = s.pending := rfl
@[simp] theorem setHif_regs (s : State) (x : Hif) : (setHif s x).regs = s.regs := rfl
@[simp] theorem setHif_mem (s : State) (x : Hif) : (setHif s x).mem = s.mem := rfl
@[simp] theorem setHif_memFill (s : State) (x : Hif) : (setHif s x).memFill = s.memFill := rfl
@[simp] theorem setHif_free (s : State) (x : Hif) : (setHif s x).free = s.free := rfl
@[simp] theorem setHif_out (s : State) (x : Hif) : (setHif s x).out = s.out := rfl
@[simp] theorem setHif_ctxs (s : State) (x : Hif) : (setHif s x).ctxs = s.ctxs := rfl
@[simp] theorem setHif_ops (s : State) (x : Hif) : (setHif s x).ops = s.ops := rfl
@[simp] theorem setHif_nextTag (s : State) (x : Hif) : (setHif s x).nextTag = s.nextTag := rfl
@[simp] theorem setHif_rounds (s : State) (x : Hif) : (setHif s x).rounds = s.rounds := rfl
@[simp] theorem setHif_ledger (s : State) (x : Hif) : (setHif s x).ledger = s.ledger := rfl
@[simp] theorem setHif_pwr (s : State) (x : Hif) : (setHif s x).pwr = s.pwr := rfl
@[simp] theorem setHif_doms (s : State) (x : Hif) : (setHif s x).doms = s.doms := rfl
@[simp] theorem setHif_banks (s : State) (x : Hif) : (setHif s x).banks = s.banks := rfl
@[simp] theorem setHif_log (s : State) (x : Hif) : (setHif s x).log = s.log := rfl
@[simp] theorem setHif_tbu (s : State) (x : Hif) : (setHif s x).tbu = s.tbu := rfl
@[simp] theorem setHif_nv (s : State) (x : Hif) : (setHif s x).nv = s.nv := rfl
@[simp] theorem setHif_planeMem (s : State) (x : Hif) : (setHif s x).planeMem = s.planeMem := rfl
@[simp] theorem setHif_fifos (s : State) (x : Hif) : (setHif s x).fifos = s.fifos := rfl
@[simp] theorem setHif_clk (s : State) (x : Hif) : (setHif s x).clk = s.clk := rfl
@[simp] theorem setHif_fab (s : State) (x : Hif) : (setHif s x).fab = s.fab := rfl
@[simp] theorem setHif_boot (s : State) (x : Hif) : (setHif s x).boot = s.boot := rfl
@[simp] theorem setHif_stage (s : State) (x : Hif) : (setHif s x).stage = s.stage := rfl
@[simp] theorem setHif_ho (s : State) (x : Hif) : (setHif s x).ho = s.ho := rfl
@[simp] theorem setHif_planeFill (s : State) (x : Hif) : (setHif s x).planeFill = s.planeFill := rfl
@[simp] theorem setHif_dep (s : State) (x : Hif) : (setHif s x).dep = s.dep := rfl
@[simp] theorem setHif_flash (s : State) (x : Hif) : (setHif s x).flash = s.flash := rfl
@[simp] theorem setHif_flashFill (s : State) (x : Hif) : (setHif s x).flashFill = s.flashFill := rfl
@[simp] theorem setHif_keys (s : State) (x : Hif) : (setHif s x).keys = s.keys := rfl
@[simp] theorem setHif_prevEpoch (s : State) (x : Hif) : (setHif s x).prevEpoch = s.prevEpoch := rfl
@[simp] theorem setHif_load (s : State) (x : Hif) : (setHif s x).load = s.load := rfl
@[simp] theorem setHif_kite (s : State) (x : Hif) : (setHif s x).kite = s.kite := rfl
@[simp] theorem setHif_tlm (s : State) (x : Hif) : (setHif s x).tlm = s.tlm := rfl
@[simp] theorem setHif_scrUnbind (s : State) (x : Hif) : (setHif s x).scrUnbind = s.scrUnbind := rfl
@[simp] theorem setHif_nva (s : State) (x : Hif) : (setHif s x).nva = s.nva := rfl
@[simp] theorem setHif_nvIncomplete (s : State) (x : Hif) : (setHif s x).nvIncomplete = s.nvIncomplete := rfl
@[simp] theorem setHif_nvFill (s : State) (x : Hif) : (setHif s x).nvFill = s.nvFill := rfl
@[simp] theorem setHif_ports (s : State) (x : Hif) : (setHif s x).ports = s.ports := rfl
@[simp] theorem setHif_enu (s : State) (x : Hif) : (setHif s x).enu = s.enu := rfl
@[simp] theorem setHif_har (s : State) (x : Hif) : (setHif s x).har = s.har := rfl
@[simp] theorem setHif_vbu (s : State) (x : Hif) : (setHif s x).vbu = s.vbu := rfl
@[simp] theorem setHif_osp (s : State) (x : Hif) : (setHif s x).osp = s.osp := rfl
@[simp] theorem setHif_tag (s : State) (x : Hif) : (setHif s x).tag = s.tag := rfl
@[simp] theorem setHif_tagMem (s : State) (x : Hif) : (setHif s x).tagMem = s.tagMem := rfl
@[simp] theorem setHif_bst (s : State) (x : Hif) : (setHif s x).bst = s.bst := rfl
@[simp] theorem setHif_lcy (s : State) (x : Hif) : (setHif s x).lcy = s.lcy := rfl
@[simp] theorem setHif_tap (s : State) (x : Hif) : (setHif s x).tap = s.tap := rfl
@[simp] theorem setHif_regDue (s : State) (x : Hif) : (setHif s x).regDue = s.regDue := rfl
@[simp] theorem setHif_regPart (s : State) (x : Hif) : (setHif s x).regPart = s.regPart := rfl
@[simp] theorem setHif_hif (s : State) (x : Hif) : (setHif s x).hif = x := rfl
@[simp] theorem setHif_rd (s : State) (x : Hif) (r : Nat) : rd (setHif s x) r = rd s r := rfl
@[simp] theorem setHif_getf (s : State) (x : Hif) (g : Fld) : getf (setHif s x) g = getf s g := rfl
@[simp] theorem setHif_isSet (s : State) (x : Hif) (g : Fld) : isSet (setHif s x) g = isSet s g := rfl

/-! ### setHar -/
@[simp] theorem setHar_pending (s : State) (x : Har) : (setHar s x).pending = s.pending := rfl
@[simp] theorem setHar_regs (s : State) (x : Har) : (setHar s x).regs = s.regs := rfl
@[simp] theorem setHar_mem (s : State) (x : Har) : (setHar s x).mem = s.mem := rfl
@[simp] theorem setHar_memFill (s : State) (x : Har) : (setHar s x).memFill = s.memFill := rfl
@[simp] theorem setHar_free (s : State) (x : Har) : (setHar s x).free = s.free := rfl
@[simp] theorem setHar_out (s : State) (x : Har) : (setHar s x).out = s.out := rfl
@[simp] theorem setHar_ctxs (s : State) (x : Har) : (setHar s x).ctxs = s.ctxs := rfl
@[simp] theorem setHar_ops (s : State) (x : Har) : (setHar s x).ops = s.ops := rfl
@[simp] theorem setHar_nextTag (s : State) (x : Har) : (setHar s x).nextTag = s.nextTag := rfl
@[simp] theorem setHar_rounds (s : State) (x : Har) : (setHar s x).rounds = s.rounds := rfl
@[simp] theorem setHar_ledger (s : State) (x : Har) : (setHar s x).ledger = s.ledger := rfl
@[simp] theorem setHar_hif (s : State) (x : Har) : (setHar s x).hif = s.hif := rfl
@[simp] theorem setHar_pwr (s : State) (x : Har) : (setHar s x).pwr = s.pwr := rfl
@[simp] theorem setHar_doms (s : State) (x : Har) : (setHar s x).doms = s.doms := rfl
@[simp] theorem setHar_banks (s : State) (x : Har) : (setHar s x).banks = s.banks := rfl
@[simp] theorem setHar_log (s : State) (x : Har) : (setHar s x).log = s.log := rfl
@[simp] theorem setHar_tbu (s : State) (x : Har) : (setHar s x).tbu = s.tbu := rfl
@[simp] theorem setHar_nv (s : State) (x : Har) : (setHar s x).nv = s.nv := rfl
@[simp] theorem setHar_planeMem (s : State) (x : Har) : (setHar s x).planeMem = s.planeMem := rfl
@[simp] theorem setHar_fifos (s : State) (x : Har) : (setHar s x).fifos = s.fifos := rfl
@[simp] theorem setHar_clk (s : State) (x : Har) : (setHar s x).clk = s.clk := rfl
@[simp] theorem setHar_fab (s : State) (x : Har) : (setHar s x).fab = s.fab := rfl
@[simp] theorem setHar_boot (s : State) (x : Har) : (setHar s x).boot = s.boot := rfl
@[simp] theorem setHar_stage (s : State) (x : Har) : (setHar s x).stage = s.stage := rfl
@[simp] theorem setHar_ho (s : State) (x : Har) : (setHar s x).ho = s.ho := rfl
@[simp] theorem setHar_planeFill (s : State) (x : Har) : (setHar s x).planeFill = s.planeFill := rfl
@[simp] theorem setHar_dep (s : State) (x : Har) : (setHar s x).dep = s.dep := rfl
@[simp] theorem setHar_flash (s : State) (x : Har) : (setHar s x).flash = s.flash := rfl
@[simp] theorem setHar_flashFill (s : State) (x : Har) : (setHar s x).flashFill = s.flashFill := rfl
@[simp] theorem setHar_keys (s : State) (x : Har) : (setHar s x).keys = s.keys := rfl
@[simp] theorem setHar_prevEpoch (s : State) (x : Har) : (setHar s x).prevEpoch = s.prevEpoch := rfl
@[simp] theorem setHar_load (s : State) (x : Har) : (setHar s x).load = s.load := rfl
@[simp] theorem setHar_kite (s : State) (x : Har) : (setHar s x).kite = s.kite := rfl
@[simp] theorem setHar_tlm (s : State) (x : Har) : (setHar s x).tlm = s.tlm := rfl
@[simp] theorem setHar_scrUnbind (s : State) (x : Har) : (setHar s x).scrUnbind = s.scrUnbind := rfl
@[simp] theorem setHar_nva (s : State) (x : Har) : (setHar s x).nva = s.nva := rfl
@[simp] theorem setHar_nvIncomplete (s : State) (x : Har) : (setHar s x).nvIncomplete = s.nvIncomplete := rfl
@[simp] theorem setHar_nvFill (s : State) (x : Har) : (setHar s x).nvFill = s.nvFill := rfl
@[simp] theorem setHar_ports (s : State) (x : Har) : (setHar s x).ports = s.ports := rfl
@[simp] theorem setHar_enu (s : State) (x : Har) : (setHar s x).enu = s.enu := rfl
@[simp] theorem setHar_vbu (s : State) (x : Har) : (setHar s x).vbu = s.vbu := rfl
@[simp] theorem setHar_osp (s : State) (x : Har) : (setHar s x).osp = s.osp := rfl
@[simp] theorem setHar_tag (s : State) (x : Har) : (setHar s x).tag = s.tag := rfl
@[simp] theorem setHar_tagMem (s : State) (x : Har) : (setHar s x).tagMem = s.tagMem := rfl
@[simp] theorem setHar_bst (s : State) (x : Har) : (setHar s x).bst = s.bst := rfl
@[simp] theorem setHar_lcy (s : State) (x : Har) : (setHar s x).lcy = s.lcy := rfl
@[simp] theorem setHar_tap (s : State) (x : Har) : (setHar s x).tap = s.tap := rfl
@[simp] theorem setHar_regDue (s : State) (x : Har) : (setHar s x).regDue = s.regDue := rfl
@[simp] theorem setHar_regPart (s : State) (x : Har) : (setHar s x).regPart = s.regPart := rfl
@[simp] theorem setHar_har (s : State) (x : Har) : (setHar s x).har = x := rfl
@[simp] theorem setHar_rd (s : State) (x : Har) (r : Nat) : rd (setHar s x) r = rd s r := rfl
@[simp] theorem setHar_getf (s : State) (x : Har) (g : Fld) : getf (setHar s x) g = getf s g := rfl
@[simp] theorem setHar_isSet (s : State) (x : Har) (g : Fld) : isSet (setHar s x) g = isSet s g := rfl

/-! ### setCan -/
@[simp] theorem setCan_pending (s : State) (n : Nat) (x : Can) : (setCan s n x).pending = s.pending := rfl
@[simp] theorem setCan_regs (s : State) (n : Nat) (x : Can) : (setCan s n x).regs = s.regs := rfl
@[simp] theorem setCan_mem (s : State) (n : Nat) (x : Can) : (setCan s n x).mem = s.mem := rfl
@[simp] theorem setCan_memFill (s : State) (n : Nat) (x : Can) : (setCan s n x).memFill = s.memFill := rfl
@[simp] theorem setCan_free (s : State) (n : Nat) (x : Can) : (setCan s n x).free = s.free := rfl
@[simp] theorem setCan_out (s : State) (n : Nat) (x : Can) : (setCan s n x).out = s.out := rfl
@[simp] theorem setCan_ctxs (s : State) (n : Nat) (x : Can) : (setCan s n x).ctxs = s.ctxs := rfl
@[simp] theorem setCan_ops (s : State) (n : Nat) (x : Can) : (setCan s n x).ops = s.ops := rfl
@[simp] theorem setCan_nextTag (s : State) (n : Nat) (x : Can) : (setCan s n x).nextTag = s.nextTag := rfl
@[simp] theorem setCan_rounds (s : State) (n : Nat) (x : Can) : (setCan s n x).rounds = s.rounds := rfl
@[simp] theorem setCan_ledger (s : State) (n : Nat) (x : Can) : (setCan s n x).ledger = s.ledger := rfl
@[simp] theorem setCan_hif (s : State) (n : Nat) (x : Can) : (setCan s n x).hif = s.hif := rfl
@[simp] theorem setCan_pwr (s : State) (n : Nat) (x : Can) : (setCan s n x).pwr = s.pwr := rfl
@[simp] theorem setCan_doms (s : State) (n : Nat) (x : Can) : (setCan s n x).doms = s.doms := rfl
@[simp] theorem setCan_banks (s : State) (n : Nat) (x : Can) : (setCan s n x).banks = s.banks := rfl
@[simp] theorem setCan_log (s : State) (n : Nat) (x : Can) : (setCan s n x).log = s.log := rfl
@[simp] theorem setCan_tbu (s : State) (n : Nat) (x : Can) : (setCan s n x).tbu = s.tbu := rfl
@[simp] theorem setCan_nv (s : State) (n : Nat) (x : Can) : (setCan s n x).nv = s.nv := rfl
@[simp] theorem setCan_planeMem (s : State) (n : Nat) (x : Can) : (setCan s n x).planeMem = s.planeMem := rfl
@[simp] theorem setCan_fifos (s : State) (n : Nat) (x : Can) : (setCan s n x).fifos = s.fifos := rfl
@[simp] theorem setCan_clk (s : State) (n : Nat) (x : Can) : (setCan s n x).clk = s.clk := rfl
@[simp] theorem setCan_fab (s : State) (n : Nat) (x : Can) : (setCan s n x).fab = s.fab := rfl
@[simp] theorem setCan_boot (s : State) (n : Nat) (x : Can) : (setCan s n x).boot = s.boot := rfl
@[simp] theorem setCan_stage (s : State) (n : Nat) (x : Can) : (setCan s n x).stage = s.stage := rfl
@[simp] theorem setCan_ho (s : State) (n : Nat) (x : Can) : (setCan s n x).ho = s.ho := rfl
@[simp] theorem setCan_planeFill (s : State) (n : Nat) (x : Can) : (setCan s n x).planeFill = s.planeFill := rfl
@[simp] theorem setCan_dep (s : State) (n : Nat) (x : Can) : (setCan s n x).dep = s.dep := rfl
@[simp] theorem setCan_flash (s : State) (n : Nat) (x : Can) : (setCan s n x).flash = s.flash := rfl
@[simp] theorem setCan_flashFill (s : State) (n : Nat) (x : Can) : (setCan s n x).flashFill = s.flashFill := rfl
@[simp] theorem setCan_keys (s : State) (n : Nat) (x : Can) : (setCan s n x).keys = s.keys := rfl
@[simp] theorem setCan_prevEpoch (s : State) (n : Nat) (x : Can) : (setCan s n x).prevEpoch = s.prevEpoch := rfl
@[simp] theorem setCan_load (s : State) (n : Nat) (x : Can) : (setCan s n x).load = s.load := rfl
@[simp] theorem setCan_kite (s : State) (n : Nat) (x : Can) : (setCan s n x).kite = s.kite := rfl
@[simp] theorem setCan_tlm (s : State) (n : Nat) (x : Can) : (setCan s n x).tlm = s.tlm := rfl
@[simp] theorem setCan_scrUnbind (s : State) (n : Nat) (x : Can) : (setCan s n x).scrUnbind = s.scrUnbind := rfl
@[simp] theorem setCan_nva (s : State) (n : Nat) (x : Can) : (setCan s n x).nva = s.nva := rfl
@[simp] theorem setCan_nvIncomplete (s : State) (n : Nat) (x : Can) : (setCan s n x).nvIncomplete = s.nvIncomplete := rfl
@[simp] theorem setCan_nvFill (s : State) (n : Nat) (x : Can) : (setCan s n x).nvFill = s.nvFill := rfl
@[simp] theorem setCan_ports (s : State) (n : Nat) (x : Can) : (setCan s n x).ports = s.ports := rfl
@[simp] theorem setCan_enu (s : State) (n : Nat) (x : Can) : (setCan s n x).enu = s.enu := rfl
@[simp] theorem setCan_har (s : State) (n : Nat) (x : Can) : (setCan s n x).har = s.har := rfl
@[simp] theorem setCan_osp (s : State) (n : Nat) (x : Can) : (setCan s n x).osp = s.osp := rfl
@[simp] theorem setCan_tag (s : State) (n : Nat) (x : Can) : (setCan s n x).tag = s.tag := rfl
@[simp] theorem setCan_tagMem (s : State) (n : Nat) (x : Can) : (setCan s n x).tagMem = s.tagMem := rfl
@[simp] theorem setCan_bst (s : State) (n : Nat) (x : Can) : (setCan s n x).bst = s.bst := rfl
@[simp] theorem setCan_lcy (s : State) (n : Nat) (x : Can) : (setCan s n x).lcy = s.lcy := rfl
@[simp] theorem setCan_tap (s : State) (n : Nat) (x : Can) : (setCan s n x).tap = s.tap := rfl
@[simp] theorem setCan_regDue (s : State) (n : Nat) (x : Can) : (setCan s n x).regDue = s.regDue := rfl
@[simp] theorem setCan_regPart (s : State) (n : Nat) (x : Can) : (setCan s n x).regPart = s.regPart := rfl
@[simp] theorem setCan_rd (s : State) (n : Nat) (x : Can) (r : Nat) : rd (setCan s n x) r = rd s r := rfl
@[simp] theorem setCan_getf (s : State) (n : Nat) (x : Can) (g : Fld) : getf (setCan s n x) g = getf s g := rfl
@[simp] theorem setCan_isSet (s : State) (n : Nat) (x : Can) (g : Fld) : isSet (setCan s n x) g = isSet s g := rfl

/-! ### setLin -/
@[simp] theorem setLin_pending (s : State) (n : Nat) (x : Lin) : (setLin s n x).pending = s.pending := rfl
@[simp] theorem setLin_regs (s : State) (n : Nat) (x : Lin) : (setLin s n x).regs = s.regs := rfl
@[simp] theorem setLin_mem (s : State) (n : Nat) (x : Lin) : (setLin s n x).mem = s.mem := rfl
@[simp] theorem setLin_memFill (s : State) (n : Nat) (x : Lin) : (setLin s n x).memFill = s.memFill := rfl
@[simp] theorem setLin_free (s : State) (n : Nat) (x : Lin) : (setLin s n x).free = s.free := rfl
@[simp] theorem setLin_out (s : State) (n : Nat) (x : Lin) : (setLin s n x).out = s.out := rfl
@[simp] theorem setLin_ctxs (s : State) (n : Nat) (x : Lin) : (setLin s n x).ctxs = s.ctxs := rfl
@[simp] theorem setLin_ops (s : State) (n : Nat) (x : Lin) : (setLin s n x).ops = s.ops := rfl
@[simp] theorem setLin_nextTag (s : State) (n : Nat) (x : Lin) : (setLin s n x).nextTag = s.nextTag := rfl
@[simp] theorem setLin_rounds (s : State) (n : Nat) (x : Lin) : (setLin s n x).rounds = s.rounds := rfl
@[simp] theorem setLin_ledger (s : State) (n : Nat) (x : Lin) : (setLin s n x).ledger = s.ledger := rfl
@[simp] theorem setLin_hif (s : State) (n : Nat) (x : Lin) : (setLin s n x).hif = s.hif := rfl
@[simp] theorem setLin_pwr (s : State) (n : Nat) (x : Lin) : (setLin s n x).pwr = s.pwr := rfl
@[simp] theorem setLin_doms (s : State) (n : Nat) (x : Lin) : (setLin s n x).doms = s.doms := rfl
@[simp] theorem setLin_banks (s : State) (n : Nat) (x : Lin) : (setLin s n x).banks = s.banks := rfl
@[simp] theorem setLin_log (s : State) (n : Nat) (x : Lin) : (setLin s n x).log = s.log := rfl
@[simp] theorem setLin_tbu (s : State) (n : Nat) (x : Lin) : (setLin s n x).tbu = s.tbu := rfl
@[simp] theorem setLin_nv (s : State) (n : Nat) (x : Lin) : (setLin s n x).nv = s.nv := rfl
@[simp] theorem setLin_planeMem (s : State) (n : Nat) (x : Lin) : (setLin s n x).planeMem = s.planeMem := rfl
@[simp] theorem setLin_fifos (s : State) (n : Nat) (x : Lin) : (setLin s n x).fifos = s.fifos := rfl
@[simp] theorem setLin_clk (s : State) (n : Nat) (x : Lin) : (setLin s n x).clk = s.clk := rfl
@[simp] theorem setLin_fab (s : State) (n : Nat) (x : Lin) : (setLin s n x).fab = s.fab := rfl
@[simp] theorem setLin_boot (s : State) (n : Nat) (x : Lin) : (setLin s n x).boot = s.boot := rfl
@[simp] theorem setLin_stage (s : State) (n : Nat) (x : Lin) : (setLin s n x).stage = s.stage := rfl
@[simp] theorem setLin_ho (s : State) (n : Nat) (x : Lin) : (setLin s n x).ho = s.ho := rfl
@[simp] theorem setLin_planeFill (s : State) (n : Nat) (x : Lin) : (setLin s n x).planeFill = s.planeFill := rfl
@[simp] theorem setLin_dep (s : State) (n : Nat) (x : Lin) : (setLin s n x).dep = s.dep := rfl
@[simp] theorem setLin_flash (s : State) (n : Nat) (x : Lin) : (setLin s n x).flash = s.flash := rfl
@[simp] theorem setLin_flashFill (s : State) (n : Nat) (x : Lin) : (setLin s n x).flashFill = s.flashFill := rfl
@[simp] theorem setLin_keys (s : State) (n : Nat) (x : Lin) : (setLin s n x).keys = s.keys := rfl
@[simp] theorem setLin_prevEpoch (s : State) (n : Nat) (x : Lin) : (setLin s n x).prevEpoch = s.prevEpoch := rfl
@[simp] theorem setLin_load (s : State) (n : Nat) (x : Lin) : (setLin s n x).load = s.load := rfl
@[simp] theorem setLin_kite (s : State) (n : Nat) (x : Lin) : (setLin s n x).kite = s.kite := rfl
@[simp] theorem setLin_tlm (s : State) (n : Nat) (x : Lin) : (setLin s n x).tlm = s.tlm := rfl
@[simp] theorem setLin_scrUnbind (s : State) (n : Nat) (x : Lin) : (setLin s n x).scrUnbind = s.scrUnbind := rfl
@[simp] theorem setLin_nva (s : State) (n : Nat) (x : Lin) : (setLin s n x).nva = s.nva := rfl
@[simp] theorem setLin_nvIncomplete (s : State) (n : Nat) (x : Lin) : (setLin s n x).nvIncomplete = s.nvIncomplete := rfl
@[simp] theorem setLin_nvFill (s : State) (n : Nat) (x : Lin) : (setLin s n x).nvFill = s.nvFill := rfl
@[simp] theorem setLin_ports (s : State) (n : Nat) (x : Lin) : (setLin s n x).ports = s.ports := rfl
@[simp] theorem setLin_enu (s : State) (n : Nat) (x : Lin) : (setLin s n x).enu = s.enu := rfl
@[simp] theorem setLin_har (s : State) (n : Nat) (x : Lin) : (setLin s n x).har = s.har := rfl
@[simp] theorem setLin_osp (s : State) (n : Nat) (x : Lin) : (setLin s n x).osp = s.osp := rfl
@[simp] theorem setLin_tag (s : State) (n : Nat) (x : Lin) : (setLin s n x).tag = s.tag := rfl
@[simp] theorem setLin_tagMem (s : State) (n : Nat) (x : Lin) : (setLin s n x).tagMem = s.tagMem := rfl
@[simp] theorem setLin_bst (s : State) (n : Nat) (x : Lin) : (setLin s n x).bst = s.bst := rfl
@[simp] theorem setLin_lcy (s : State) (n : Nat) (x : Lin) : (setLin s n x).lcy = s.lcy := rfl
@[simp] theorem setLin_tap (s : State) (n : Nat) (x : Lin) : (setLin s n x).tap = s.tap := rfl
@[simp] theorem setLin_regDue (s : State) (n : Nat) (x : Lin) : (setLin s n x).regDue = s.regDue := rfl
@[simp] theorem setLin_regPart (s : State) (n : Nat) (x : Lin) : (setLin s n x).regPart = s.regPart := rfl
@[simp] theorem setLin_rd (s : State) (n : Nat) (x : Lin) (r : Nat) : rd (setLin s n x) r = rd s r := rfl
@[simp] theorem setLin_getf (s : State) (n : Nat) (x : Lin) (g : Fld) : getf (setLin s n x) g = getf s g := rfl
@[simp] theorem setLin_isSet (s : State) (n : Nat) (x : Lin) (g : Fld) : isSet (setLin s n x) g = isSet s g := rfl

/-! ### setSent -/
@[simp] theorem setSent_pending (s : State) (n : Nat) (x : Sent) : (setSent s n x).pending = s.pending := rfl
@[simp] theorem setSent_regs (s : State) (n : Nat) (x : Sent) : (setSent s n x).regs = s.regs := rfl
@[simp] theorem setSent_mem (s : State) (n : Nat) (x : Sent) : (setSent s n x).mem = s.mem := rfl
@[simp] theorem setSent_memFill (s : State) (n : Nat) (x : Sent) : (setSent s n x).memFill = s.memFill := rfl
@[simp] theorem setSent_free (s : State) (n : Nat) (x : Sent) : (setSent s n x).free = s.free := rfl
@[simp] theorem setSent_out (s : State) (n : Nat) (x : Sent) : (setSent s n x).out = s.out := rfl
@[simp] theorem setSent_ctxs (s : State) (n : Nat) (x : Sent) : (setSent s n x).ctxs = s.ctxs := rfl
@[simp] theorem setSent_ops (s : State) (n : Nat) (x : Sent) : (setSent s n x).ops = s.ops := rfl
@[simp] theorem setSent_nextTag (s : State) (n : Nat) (x : Sent) : (setSent s n x).nextTag = s.nextTag := rfl
@[simp] theorem setSent_rounds (s : State) (n : Nat) (x : Sent) : (setSent s n x).rounds = s.rounds := rfl
@[simp] theorem setSent_ledger (s : State) (n : Nat) (x : Sent) : (setSent s n x).ledger = s.ledger := rfl
@[simp] theorem setSent_hif (s : State) (n : Nat) (x : Sent) : (setSent s n x).hif = s.hif := rfl
@[simp] theorem setSent_pwr (s : State) (n : Nat) (x : Sent) : (setSent s n x).pwr = s.pwr := rfl
@[simp] theorem setSent_doms (s : State) (n : Nat) (x : Sent) : (setSent s n x).doms = s.doms := rfl
@[simp] theorem setSent_banks (s : State) (n : Nat) (x : Sent) : (setSent s n x).banks = s.banks := rfl
@[simp] theorem setSent_log (s : State) (n : Nat) (x : Sent) : (setSent s n x).log = s.log := rfl
@[simp] theorem setSent_tbu (s : State) (n : Nat) (x : Sent) : (setSent s n x).tbu = s.tbu := rfl
@[simp] theorem setSent_nv (s : State) (n : Nat) (x : Sent) : (setSent s n x).nv = s.nv := rfl
@[simp] theorem setSent_planeMem (s : State) (n : Nat) (x : Sent) : (setSent s n x).planeMem = s.planeMem := rfl
@[simp] theorem setSent_fifos (s : State) (n : Nat) (x : Sent) : (setSent s n x).fifos = s.fifos := rfl
@[simp] theorem setSent_clk (s : State) (n : Nat) (x : Sent) : (setSent s n x).clk = s.clk := rfl
@[simp] theorem setSent_fab (s : State) (n : Nat) (x : Sent) : (setSent s n x).fab = s.fab := rfl
@[simp] theorem setSent_boot (s : State) (n : Nat) (x : Sent) : (setSent s n x).boot = s.boot := rfl
@[simp] theorem setSent_stage (s : State) (n : Nat) (x : Sent) : (setSent s n x).stage = s.stage := rfl
@[simp] theorem setSent_ho (s : State) (n : Nat) (x : Sent) : (setSent s n x).ho = s.ho := rfl
@[simp] theorem setSent_planeFill (s : State) (n : Nat) (x : Sent) : (setSent s n x).planeFill = s.planeFill := rfl
@[simp] theorem setSent_dep (s : State) (n : Nat) (x : Sent) : (setSent s n x).dep = s.dep := rfl
@[simp] theorem setSent_flash (s : State) (n : Nat) (x : Sent) : (setSent s n x).flash = s.flash := rfl
@[simp] theorem setSent_flashFill (s : State) (n : Nat) (x : Sent) : (setSent s n x).flashFill = s.flashFill := rfl
@[simp] theorem setSent_keys (s : State) (n : Nat) (x : Sent) : (setSent s n x).keys = s.keys := rfl
@[simp] theorem setSent_prevEpoch (s : State) (n : Nat) (x : Sent) : (setSent s n x).prevEpoch = s.prevEpoch := rfl
@[simp] theorem setSent_load (s : State) (n : Nat) (x : Sent) : (setSent s n x).load = s.load := rfl
@[simp] theorem setSent_kite (s : State) (n : Nat) (x : Sent) : (setSent s n x).kite = s.kite := rfl
@[simp] theorem setSent_tlm (s : State) (n : Nat) (x : Sent) : (setSent s n x).tlm = s.tlm := rfl
@[simp] theorem setSent_scrUnbind (s : State) (n : Nat) (x : Sent) : (setSent s n x).scrUnbind = s.scrUnbind := rfl
@[simp] theorem setSent_nva (s : State) (n : Nat) (x : Sent) : (setSent s n x).nva = s.nva := rfl
@[simp] theorem setSent_nvIncomplete (s : State) (n : Nat) (x : Sent) : (setSent s n x).nvIncomplete = s.nvIncomplete := rfl
@[simp] theorem setSent_nvFill (s : State) (n : Nat) (x : Sent) : (setSent s n x).nvFill = s.nvFill := rfl
@[simp] theorem setSent_ports (s : State) (n : Nat) (x : Sent) : (setSent s n x).ports = s.ports := rfl
@[simp] theorem setSent_enu (s : State) (n : Nat) (x : Sent) : (setSent s n x).enu = s.enu := rfl
@[simp] theorem setSent_har (s : State) (n : Nat) (x : Sent) : (setSent s n x).har = s.har := rfl
@[simp] theorem setSent_osp (s : State) (n : Nat) (x : Sent) : (setSent s n x).osp = s.osp := rfl
@[simp] theorem setSent_tag (s : State) (n : Nat) (x : Sent) : (setSent s n x).tag = s.tag := rfl
@[simp] theorem setSent_tagMem (s : State) (n : Nat) (x : Sent) : (setSent s n x).tagMem = s.tagMem := rfl
@[simp] theorem setSent_bst (s : State) (n : Nat) (x : Sent) : (setSent s n x).bst = s.bst := rfl
@[simp] theorem setSent_lcy (s : State) (n : Nat) (x : Sent) : (setSent s n x).lcy = s.lcy := rfl
@[simp] theorem setSent_tap (s : State) (n : Nat) (x : Sent) : (setSent s n x).tap = s.tap := rfl
@[simp] theorem setSent_regDue (s : State) (n : Nat) (x : Sent) : (setSent s n x).regDue = s.regDue := rfl
@[simp] theorem setSent_regPart (s : State) (n : Nat) (x : Sent) : (setSent s n x).regPart = s.regPart := rfl
@[simp] theorem setSent_rd (s : State) (n : Nat) (x : Sent) (r : Nat) : rd (setSent s n x) r = rd s r := rfl
@[simp] theorem setSent_getf (s : State) (n : Nat) (x : Sent) (g : Fld) : getf (setSent s n x) g = getf s g := rfl
@[simp] theorem setSent_isSet (s : State) (n : Nat) (x : Sent) (g : Fld) : isSet (setSent s n x) g = isSet s g := rfl

/-! ### setOsp -/
@[simp] theorem setOsp_pending (s : State) (x : Osp) : (setOsp s x).pending = s.pending := rfl
@[simp] theorem setOsp_regs (s : State) (x : Osp) : (setOsp s x).regs = s.regs := rfl
@[simp] theorem setOsp_mem (s : State) (x : Osp) : (setOsp s x).mem = s.mem := rfl
@[simp] theorem setOsp_memFill (s : State) (x : Osp) : (setOsp s x).memFill = s.memFill := rfl
@[simp] theorem setOsp_free (s : State) (x : Osp) : (setOsp s x).free = s.free := rfl
@[simp] theorem setOsp_out (s : State) (x : Osp) : (setOsp s x).out = s.out := rfl
@[simp] theorem setOsp_ctxs (s : State) (x : Osp) : (setOsp s x).ctxs = s.ctxs := rfl
@[simp] theorem setOsp_ops (s : State) (x : Osp) : (setOsp s x).ops = s.ops := rfl
@[simp] theorem setOsp_nextTag (s : State) (x : Osp) : (setOsp s x).nextTag = s.nextTag := rfl
@[simp] theorem setOsp_rounds (s : State) (x : Osp) : (setOsp s x).rounds = s.rounds := rfl
@[simp] theorem setOsp_ledger (s : State) (x : Osp) : (setOsp s x).ledger = s.ledger := rfl
@[simp] theorem setOsp_hif (s : State) (x : Osp) : (setOsp s x).hif = s.hif := rfl
@[simp] theorem setOsp_pwr (s : State) (x : Osp) : (setOsp s x).pwr = s.pwr := rfl
@[simp] theorem setOsp_doms (s : State) (x : Osp) : (setOsp s x).doms = s.doms := rfl
@[simp] theorem setOsp_banks (s : State) (x : Osp) : (setOsp s x).banks = s.banks := rfl
@[simp] theorem setOsp_log (s : State) (x : Osp) : (setOsp s x).log = s.log := rfl
@[simp] theorem setOsp_tbu (s : State) (x : Osp) : (setOsp s x).tbu = s.tbu := rfl
@[simp] theorem setOsp_nv (s : State) (x : Osp) : (setOsp s x).nv = s.nv := rfl
@[simp] theorem setOsp_planeMem (s : State) (x : Osp) : (setOsp s x).planeMem = s.planeMem := rfl
@[simp] theorem setOsp_fifos (s : State) (x : Osp) : (setOsp s x).fifos = s.fifos := rfl
@[simp] theorem setOsp_clk (s : State) (x : Osp) : (setOsp s x).clk = s.clk := rfl
@[simp] theorem setOsp_fab (s : State) (x : Osp) : (setOsp s x).fab = s.fab := rfl
@[simp] theorem setOsp_boot (s : State) (x : Osp) : (setOsp s x).boot = s.boot := rfl
@[simp] theorem setOsp_stage (s : State) (x : Osp) : (setOsp s x).stage = s.stage := rfl
@[simp] theorem setOsp_ho (s : State) (x : Osp) : (setOsp s x).ho = s.ho := rfl
@[simp] theorem setOsp_planeFill (s : State) (x : Osp) : (setOsp s x).planeFill = s.planeFill := rfl
@[simp] theorem setOsp_dep (s : State) (x : Osp) : (setOsp s x).dep = s.dep := rfl
@[simp] theorem setOsp_flash (s : State) (x : Osp) : (setOsp s x).flash = s.flash := rfl
@[simp] theorem setOsp_flashFill (s : State) (x : Osp) : (setOsp s x).flashFill = s.flashFill := rfl
@[simp] theorem setOsp_keys (s : State) (x : Osp) : (setOsp s x).keys = s.keys := rfl
@[simp] theorem setOsp_prevEpoch (s : State) (x : Osp) : (setOsp s x).prevEpoch = s.prevEpoch := rfl
@[simp] theorem setOsp_load (s : State) (x : Osp) : (setOsp s x).load = s.load := rfl
@[simp] theorem setOsp_kite (s : State) (x : Osp) : (setOsp s x).kite = s.kite := rfl
@[simp] theorem setOsp_tlm (s : State) (x : Osp) : (setOsp s x).tlm = s.tlm := rfl
@[simp] theorem setOsp_scrUnbind (s : State) (x : Osp) : (setOsp s x).scrUnbind = s.scrUnbind := rfl
@[simp] theorem setOsp_nva (s : State) (x : Osp) : (setOsp s x).nva = s.nva := rfl
@[simp] theorem setOsp_nvIncomplete (s : State) (x : Osp) : (setOsp s x).nvIncomplete = s.nvIncomplete := rfl
@[simp] theorem setOsp_nvFill (s : State) (x : Osp) : (setOsp s x).nvFill = s.nvFill := rfl
@[simp] theorem setOsp_ports (s : State) (x : Osp) : (setOsp s x).ports = s.ports := rfl
@[simp] theorem setOsp_enu (s : State) (x : Osp) : (setOsp s x).enu = s.enu := rfl
@[simp] theorem setOsp_har (s : State) (x : Osp) : (setOsp s x).har = s.har := rfl
@[simp] theorem setOsp_vbu (s : State) (x : Osp) : (setOsp s x).vbu = s.vbu := rfl
@[simp] theorem setOsp_tag (s : State) (x : Osp) : (setOsp s x).tag = s.tag := rfl
@[simp] theorem setOsp_tagMem (s : State) (x : Osp) : (setOsp s x).tagMem = s.tagMem := rfl
@[simp] theorem setOsp_bst (s : State) (x : Osp) : (setOsp s x).bst = s.bst := rfl
@[simp] theorem setOsp_lcy (s : State) (x : Osp) : (setOsp s x).lcy = s.lcy := rfl
@[simp] theorem setOsp_tap (s : State) (x : Osp) : (setOsp s x).tap = s.tap := rfl
@[simp] theorem setOsp_regDue (s : State) (x : Osp) : (setOsp s x).regDue = s.regDue := rfl
@[simp] theorem setOsp_regPart (s : State) (x : Osp) : (setOsp s x).regPart = s.regPart := rfl
@[simp] theorem setOsp_osp (s : State) (x : Osp) : (setOsp s x).osp = x := rfl
@[simp] theorem setOsp_rd (s : State) (x : Osp) (r : Nat) : rd (setOsp s x) r = rd s r := rfl
@[simp] theorem setOsp_getf (s : State) (x : Osp) (g : Fld) : getf (setOsp s x) g = getf s g := rfl
@[simp] theorem setOsp_isSet (s : State) (x : Osp) (g : Fld) : isSet (setOsp s x) g = isSet s g := rfl

/-! ### setTag -/
@[simp] theorem setTag_pending (s : State) (x : Tag) : (setTag s x).pending = s.pending := rfl
@[simp] theorem setTag_regs (s : State) (x : Tag) : (setTag s x).regs = s.regs := rfl
@[simp] theorem setTag_mem (s : State) (x : Tag) : (setTag s x).mem = s.mem := rfl
@[simp] theorem setTag_memFill (s : State) (x : Tag) : (setTag s x).memFill = s.memFill := rfl
@[simp] theorem setTag_free (s : State) (x : Tag) : (setTag s x).free = s.free := rfl
@[simp] theorem setTag_out (s : State) (x : Tag) : (setTag s x).out = s.out := rfl
@[simp] theorem setTag_ctxs (s : State) (x : Tag) : (setTag s x).ctxs = s.ctxs := rfl
@[simp] theorem setTag_ops (s : State) (x : Tag) : (setTag s x).ops = s.ops := rfl
@[simp] theorem setTag_nextTag (s : State) (x : Tag) : (setTag s x).nextTag = s.nextTag := rfl
@[simp] theorem setTag_rounds (s : State) (x : Tag) : (setTag s x).rounds = s.rounds := rfl
@[simp] theorem setTag_ledger (s : State) (x : Tag) : (setTag s x).ledger = s.ledger := rfl
@[simp] theorem setTag_hif (s : State) (x : Tag) : (setTag s x).hif = s.hif := rfl
@[simp] theorem setTag_pwr (s : State) (x : Tag) : (setTag s x).pwr = s.pwr := rfl
@[simp] theorem setTag_doms (s : State) (x : Tag) : (setTag s x).doms = s.doms := rfl
@[simp] theorem setTag_banks (s : State) (x : Tag) : (setTag s x).banks = s.banks := rfl
@[simp] theorem setTag_log (s : State) (x : Tag) : (setTag s x).log = s.log := rfl
@[simp] theorem setTag_tbu (s : State) (x : Tag) : (setTag s x).tbu = s.tbu := rfl
@[simp] theorem setTag_nv (s : State) (x : Tag) : (setTag s x).nv = s.nv := rfl
@[simp] theorem setTag_planeMem (s : State) (x : Tag) : (setTag s x).planeMem = s.planeMem := rfl
@[simp] theorem setTag_fifos (s : State) (x : Tag) : (setTag s x).fifos = s.fifos := rfl
@[simp] theorem setTag_clk (s : State) (x : Tag) : (setTag s x).clk = s.clk := rfl
@[simp] theorem setTag_fab (s : State) (x : Tag) : (setTag s x).fab = s.fab := rfl
@[simp] theorem setTag_boot (s : State) (x : Tag) : (setTag s x).boot = s.boot := rfl
@[simp] theorem setTag_stage (s : State) (x : Tag) : (setTag s x).stage = s.stage := rfl
@[simp] theorem setTag_ho (s : State) (x : Tag) : (setTag s x).ho = s.ho := rfl
@[simp] theorem setTag_planeFill (s : State) (x : Tag) : (setTag s x).planeFill = s.planeFill := rfl
@[simp] theorem setTag_dep (s : State) (x : Tag) : (setTag s x).dep = s.dep := rfl
@[simp] theorem setTag_flash (s : State) (x : Tag) : (setTag s x).flash = s.flash := rfl
@[simp] theorem setTag_flashFill (s : State) (x : Tag) : (setTag s x).flashFill = s.flashFill := rfl
@[simp] theorem setTag_keys (s : State) (x : Tag) : (setTag s x).keys = s.keys := rfl
@[simp] theorem setTag_prevEpoch (s : State) (x : Tag) : (setTag s x).prevEpoch = s.prevEpoch := rfl
@[simp] theorem setTag_load (s : State) (x : Tag) : (setTag s x).load = s.load := rfl
@[simp] theorem setTag_kite (s : State) (x : Tag) : (setTag s x).kite = s.kite := rfl
@[simp] theorem setTag_tlm (s : State) (x : Tag) : (setTag s x).tlm = s.tlm := rfl
@[simp] theorem setTag_scrUnbind (s : State) (x : Tag) : (setTag s x).scrUnbind = s.scrUnbind := rfl
@[simp] theorem setTag_nva (s : State) (x : Tag) : (setTag s x).nva = s.nva := rfl
@[simp] theorem setTag_nvIncomplete (s : State) (x : Tag) : (setTag s x).nvIncomplete = s.nvIncomplete := rfl
@[simp] theorem setTag_nvFill (s : State) (x : Tag) : (setTag s x).nvFill = s.nvFill := rfl
@[simp] theorem setTag_ports (s : State) (x : Tag) : (setTag s x).ports = s.ports := rfl
@[simp] theorem setTag_enu (s : State) (x : Tag) : (setTag s x).enu = s.enu := rfl
@[simp] theorem setTag_har (s : State) (x : Tag) : (setTag s x).har = s.har := rfl
@[simp] theorem setTag_vbu (s : State) (x : Tag) : (setTag s x).vbu = s.vbu := rfl
@[simp] theorem setTag_osp (s : State) (x : Tag) : (setTag s x).osp = s.osp := rfl
@[simp] theorem setTag_tagMem (s : State) (x : Tag) : (setTag s x).tagMem = s.tagMem := rfl
@[simp] theorem setTag_bst (s : State) (x : Tag) : (setTag s x).bst = s.bst := rfl
@[simp] theorem setTag_lcy (s : State) (x : Tag) : (setTag s x).lcy = s.lcy := rfl
@[simp] theorem setTag_tap (s : State) (x : Tag) : (setTag s x).tap = s.tap := rfl
@[simp] theorem setTag_regDue (s : State) (x : Tag) : (setTag s x).regDue = s.regDue := rfl
@[simp] theorem setTag_regPart (s : State) (x : Tag) : (setTag s x).regPart = s.regPart := rfl
@[simp] theorem setTag_tag (s : State) (x : Tag) : (setTag s x).tag = x := rfl
@[simp] theorem setTag_rd (s : State) (x : Tag) (r : Nat) : rd (setTag s x) r = rd s r := rfl
@[simp] theorem setTag_getf (s : State) (x : Tag) (g : Fld) : getf (setTag s x) g = getf s g := rfl
@[simp] theorem setTag_isSet (s : State) (x : Tag) (g : Fld) : isSet (setTag s x) g = isSet s g := rfl

/-! ### setTlm -/
@[simp] theorem setTlm_pending (s : State) (x : Tlm) : (setTlm s x).pending = s.pending := rfl
@[simp] theorem setTlm_regs (s : State) (x : Tlm) : (setTlm s x).regs = s.regs := rfl
@[simp] theorem setTlm_mem (s : State) (x : Tlm) : (setTlm s x).mem = s.mem := rfl
@[simp] theorem setTlm_memFill (s : State) (x : Tlm) : (setTlm s x).memFill = s.memFill := rfl
@[simp] theorem setTlm_free (s : State) (x : Tlm) : (setTlm s x).free = s.free := rfl
@[simp] theorem setTlm_out (s : State) (x : Tlm) : (setTlm s x).out = s.out := rfl
@[simp] theorem setTlm_ctxs (s : State) (x : Tlm) : (setTlm s x).ctxs = s.ctxs := rfl
@[simp] theorem setTlm_ops (s : State) (x : Tlm) : (setTlm s x).ops = s.ops := rfl
@[simp] theorem setTlm_nextTag (s : State) (x : Tlm) : (setTlm s x).nextTag = s.nextTag := rfl
@[simp] theorem setTlm_rounds (s : State) (x : Tlm) : (setTlm s x).rounds = s.rounds := rfl
@[simp] theorem setTlm_ledger (s : State) (x : Tlm) : (setTlm s x).ledger = s.ledger := rfl
@[simp] theorem setTlm_hif (s : State) (x : Tlm) : (setTlm s x).hif = s.hif := rfl
@[simp] theorem setTlm_pwr (s : State) (x : Tlm) : (setTlm s x).pwr = s.pwr := rfl
@[simp] theorem setTlm_doms (s : State) (x : Tlm) : (setTlm s x).doms = s.doms := rfl
@[simp] theorem setTlm_banks (s : State) (x : Tlm) : (setTlm s x).banks = s.banks := rfl
@[simp] theorem setTlm_log (s : State) (x : Tlm) : (setTlm s x).log = s.log := rfl
@[simp] theorem setTlm_tbu (s : State) (x : Tlm) : (setTlm s x).tbu = s.tbu := rfl
@[simp] theorem setTlm_nv (s : State) (x : Tlm) : (setTlm s x).nv = s.nv := rfl
@[simp] theorem setTlm_planeMem (s : State) (x : Tlm) : (setTlm s x).planeMem = s.planeMem := rfl
@[simp] theorem setTlm_fifos (s : State) (x : Tlm) : (setTlm s x).fifos = s.fifos := rfl
@[simp] theorem setTlm_clk (s : State) (x : Tlm) : (setTlm s x).clk = s.clk := rfl
@[simp] theorem setTlm_fab (s : State) (x : Tlm) : (setTlm s x).fab = s.fab := rfl
@[simp] theorem setTlm_boot (s : State) (x : Tlm) : (setTlm s x).boot = s.boot := rfl
@[simp] theorem setTlm_stage (s : State) (x : Tlm) : (setTlm s x).stage = s.stage := rfl
@[simp] theorem setTlm_ho (s : State) (x : Tlm) : (setTlm s x).ho = s.ho := rfl
@[simp] theorem setTlm_planeFill (s : State) (x : Tlm) : (setTlm s x).planeFill = s.planeFill := rfl
@[simp] theorem setTlm_dep (s : State) (x : Tlm) : (setTlm s x).dep = s.dep := rfl
@[simp] theorem setTlm_flash (s : State) (x : Tlm) : (setTlm s x).flash = s.flash := rfl
@[simp] theorem setTlm_flashFill (s : State) (x : Tlm) : (setTlm s x).flashFill = s.flashFill := rfl
@[simp] theorem setTlm_keys (s : State) (x : Tlm) : (setTlm s x).keys = s.keys := rfl
@[simp] theorem setTlm_prevEpoch (s : State) (x : Tlm) : (setTlm s x).prevEpoch = s.prevEpoch := rfl
@[simp] theorem setTlm_load (s : State) (x : Tlm) : (setTlm s x).load = s.load := rfl
@[simp] theorem setTlm_kite (s : State) (x : Tlm) : (setTlm s x).kite = s.kite := rfl
@[simp] theorem setTlm_scrUnbind (s : State) (x : Tlm) : (setTlm s x).scrUnbind = s.scrUnbind := rfl
@[simp] theorem setTlm_nva (s : State) (x : Tlm) : (setTlm s x).nva = s.nva := rfl
@[simp] theorem setTlm_nvIncomplete (s : State) (x : Tlm) : (setTlm s x).nvIncomplete = s.nvIncomplete := rfl
@[simp] theorem setTlm_nvFill (s : State) (x : Tlm) : (setTlm s x).nvFill = s.nvFill := rfl
@[simp] theorem setTlm_ports (s : State) (x : Tlm) : (setTlm s x).ports = s.ports := rfl
@[simp] theorem setTlm_enu (s : State) (x : Tlm) : (setTlm s x).enu = s.enu := rfl
@[simp] theorem setTlm_har (s : State) (x : Tlm) : (setTlm s x).har = s.har := rfl
@[simp] theorem setTlm_vbu (s : State) (x : Tlm) : (setTlm s x).vbu = s.vbu := rfl
@[simp] theorem setTlm_osp (s : State) (x : Tlm) : (setTlm s x).osp = s.osp := rfl
@[simp] theorem setTlm_tag (s : State) (x : Tlm) : (setTlm s x).tag = s.tag := rfl
@[simp] theorem setTlm_tagMem (s : State) (x : Tlm) : (setTlm s x).tagMem = s.tagMem := rfl
@[simp] theorem setTlm_bst (s : State) (x : Tlm) : (setTlm s x).bst = s.bst := rfl
@[simp] theorem setTlm_lcy (s : State) (x : Tlm) : (setTlm s x).lcy = s.lcy := rfl
@[simp] theorem setTlm_tap (s : State) (x : Tlm) : (setTlm s x).tap = s.tap := rfl
@[simp] theorem setTlm_regDue (s : State) (x : Tlm) : (setTlm s x).regDue = s.regDue := rfl
@[simp] theorem setTlm_regPart (s : State) (x : Tlm) : (setTlm s x).regPart = s.regPart := rfl
@[simp] theorem setTlm_tlm (s : State) (x : Tlm) : (setTlm s x).tlm = x := rfl
@[simp] theorem setTlm_rd (s : State) (x : Tlm) (r : Nat) : rd (setTlm s x) r = rd s r := rfl
@[simp] theorem setTlm_getf (s : State) (x : Tlm) (g : Fld) : getf (setTlm s x) g = getf s g := rfl
@[simp] theorem setTlm_isSet (s : State) (x : Tlm) (g : Fld) : isSet (setTlm s x) g = isSet s g := rfl

theorem emit_out (s : State) (o : Out) (h : (tapOwns s && covered o) = false) : (emit s o).out = s.out ++ [o] := by
  simp [emit, h]
@[simp] theorem drawn_free (s : State) : (drawn s).free = s.free + 1 := rfl

/-! ### Records kept by number -/

@[simp] theorem ctx_setCtx (s : State) (k : Nat) (x : Ctx) : ctx (setCtx s k x) k = x := sget_sset_same _ _ _ _
theorem ctx_setCtx_ne {j k : Nat} (h : j ≠ k) (s : State) (x : Ctx) : ctx (setCtx s k x) j = ctx s j := by
  show (sget j (sset _ k x s.ctxs)).getD _ = _
  rw [sget_sset_ne h]; rfl
@[simp] theorem round_setRound (s : State) (k : Nat) (x : Round) : round (setRound s k x) k = x := sget_sset_same _ _ _ _
theorem round_setRound_ne {j k : Nat} (h : j ≠ k) (s : State) (x : Round) : round (setRound s k x) j = round s j := by
  show (sget j (sset _ k x s.rounds)).getD _ = _
  rw [sget_sset_ne h]; rfl
@[simp] theorem fifo_setFifo (s : State) (k : Nat) (x : Fifo) : fifo (setFifo s k x) k = x := sget_sset_same _ _ _ _
theorem fifo_setFifo_ne {j k : Nat} (h : j ≠ k) (s : State) (x : Fifo) : fifo (setFifo s k x) j = fifo s j := by
  show (sget j (sset _ k x s.fifos)).getD _ = _
  rw [sget_sset_ne h]; rfl
@[simp] theorem dom_setDom (s : State) (k : Nat) (x : Dom) : dom (setDom s k x) k = x := sget_sset_same _ _ _ _
theorem dom_setDom_ne {j k : Nat} (h : j ≠ k) (s : State) (x : Dom) : dom (setDom s k x) j = dom s j := by
  show (sget j (sset _ k x s.doms)).getD _ = _
  rw [sget_sset_ne h]; rfl
@[simp] theorem bank_setBank (s : State) (k : Nat) (x : Bank) : bank (setBank s k x) k = x := sget_sset_same _ _ _ _
theorem bank_setBank_ne {j k : Nat} (h : j ≠ k) (s : State) (x : Bank) : bank (setBank s k x) j = bank s j := by
  show (sget j (sset _ k x s.banks)).getD _ = _
  rw [sget_sset_ne h]; rfl
@[simp] theorem port_setPort (s : State) (k : Nat) (x : Port) : port (setPort s k x) k = x := sget_sset_same _ _ _ _
theorem port_setPort_ne {j k : Nat} (h : j ≠ k) (s : State) (x : Port) : port (setPort s k x) j = port s j := by
  show (sget j (sset _ k x s.ports)).getD _ = _
  rw [sget_sset_ne h]; rfl

end Sys2Proof.Machine
end

