-- ==== Sys2Proof/WellFormed.lean ====
section
/-! DEFINITION. Commands whose operands have the form the spec gives them; what a type of an operand already rules out (a bank
number, a lane, a key of 16 bits) is not repeated. The meanings are total: they do not rest on it. -/
namespace Sys2Proof

/-- Data of a read of host memory: at most `n` bytes. -/
def ReadEnd.wf (e : ReadEnd) (n : Nat) : Bool :=
  match e with
  | .ok data => decide (data.length ≤ n)
  | .failed => true

/-- A descriptor is one slot of 16 words (R267). -/
def FetchEnd.wf (e : FetchEnd) : Bool :=
  match e with
  | .slots ds => decide (ds.length ≤ 16) && ds.all (fun d => decide (d.length = 16))
  | .failed => true
  | .timeout => true
  | .tunnel => true
  | .linkLost => true

/-- A message of the chain fits the header of Table 12-7: six-bit addresses (or FLOOD, HOP), at most 4,096 bytes of data that
begin behind four words. -/
def Msg.fits (m : Msg) : Bool :=
  decide (m.ty < 256 ∧ m.src < 64 ∧ m.dst ≤ toNext ∧ m.data.length ≤ 4096 ∧ (m.data = [] ∨ m.w.length = 4))

/-- A message of type `ty` with the words of its payload (Tables 7-7, 13-3 and 18-4). -/
def Msg.is (m : Msg) (ty words : Nat) : Bool := m.fits && decide (m.ty = ty ∧ m.w.length = words)

/-- A copy that was being passed on. -/
def wfFwd (m : Option Msg) : Bool :=
  match m with
  | some x => x.fits
  | none => true

/-- A burst that a shim completed has at most 16 beats (R121). -/
def Midburst.wf (b : Midburst) : Bool := decide (b.master < 16 ∧ b.taken + b.rest ≤ 16)

/-- One access at a port of bank `n` (R31, R232): a word of 16 bytes that lies in the bank. -/
def wfAcc (n : Fin 8) (a : Option BankAcc) : Bool :=
  match a with
  | none => true
  | some x => decide (x.master < 16 ∧ x.addr % 16 = 0 ∧ x.addr / 0x100000 = n.val ∧ x.be.length = 16) &&
    (match x.wdata with | some d => decide (d.length = 16) | none => true)

/-- One push: 128 data bits and a 4-bit tag (R398). -/
def PushIn.wf (p : PushIn) : Bool := decide (p.data.length = 16 ∧ p.tag < 16)

/-- A push in the same turn, if any. -/
def wfPush (p : Option PushIn) : Bool :=
  match p with
  | some x => x.wf
  | none => true

/-- What discovery can read of a flash (R172, R173). -/
def Sfdp.wf (x : Sfdp) : Bool := decide (x.mfr < 256 ∧ x.khz.length ≤ 8)

/-- A group of the coded body holds bits (R461). -/
def wfGroup (g : List Bool) : Bool := !g.isEmpty

/-- The operands of a command have the form the spec gives them. -/
def Instr.wf (i : Instr) : Bool :=
  match i with
  | .regWrite _ _ _ _ => true
  | .wideLowRead _ _ => true
  | .wideLowWrite _ _ _ => true
  | .wideHighWrite _ _ _ => true
  | .hostBar4Read x n _ => decide (x.val % 4 = 0 ∧ 0 < n.val ∧ n.val % 4 = 0)
  | .hostBar4Write _ data => decide (0 < data.length ∧ data.length ≤ 512)
  | .hostConfigWrite _ => true
  | .hostReadCompletion _ e => e.wf (2 ^ 25)
  | .hostCompletionTimeout _ => true
  | .windowReadTimeout _ => true
  | .hostLinkUp speed _ => decide (speed.val ≠ 0)
  | .hostLinkLoss _ => true
  | .perstFall => true
  | .perstRise => true
  | .msixUnmask _ => true
  | .modTimeExpiry _ => true
  | .dispatch => true
  | .returnAccepted _ _ opcode => decide (opcode < 256)
  | .fenceTimeout _ => true
  | .fetch _ n => decide (0 < n ∧ n ≤ 16)
  | .fetchComplete _ e => e.wf
  | .doorbellSqPi _ _ _ idx => decide (idx < 65536)
  | .doorbellCqCi _ _ _ idx => decide (idx < 65536)
  | .contextEnable _ _ => true
  | .contextDisable _ _ => true
  | .ledgerAudit chain => chain.all (fun n => decide (n < 2 ^ 16))
  | .auditCompareDone => true
  | .auditChainRelook _ counted => decide (counted < 2 ^ 16)
  | .ldgRelease key => decide (key < 2 ^ 32)
  | .ldgBufLend first last => decide (first < 2 ^ 10 ∧ last < 2 ^ 10)
  | .ldgCtlWrite _ => true
  | .nop _ => true
  | .fence _ us => decide (us < 2 ^ 32)
  | .copy _ => true
  | .fill _ => true
  | .vbuTx _ h => h.wf 64
  | .vbuRxArm _ => true
  | .vbuCtrlStart _ => true
  | .vbuCtrlStop _ _ => true
  | .vbuCtrlRecover _ => true
  | .vbuCtrlAbortTx _ => true
  | .vbuCtrlStatus _ => true
  | .vbuCtrlWriteRegs _ => true
  | .harScan _ _ => true
  | .harNetmapLoad _ h => h.wf 8192
  | .ospTx _ h => h.wf 2047
  | .ospRx _ => true
  | .fabCall _ => true
  | .nvaProg _ h => h.wf 65536
  | .nvaErase _ => true
  | .nvaRead _ corr bad => corr.all (fun l => decide (l < 524288)) && (match bad with | some l => decide (l < 524288) | none => true)
  | .tbuStampRead _ => true
  | .tbuStampSet _ => true
  | .tbuStampSlew _ => true
  | .cfgStage _ hdr => hdr.wf 64
  | .cfgHandover _ => true
  | .depWriteImage _ got => got.wf (2 ^ 25)
  | .depWriteData _ got => got.wf (2 ^ 25)
  | .depWriteSlot _ => true
  | .depWriteFormat _ => true
  | .depReadSlot _ => true
  | .depReadRaw _ => true
  | .depReadDirectory _ => true
  | .tagRead _ => true
  | .tagWrite _ h => h.wf 8192
  | .bnkMarch _ => true
  | .bnkPower _ => true
  | .bstRun _ => true
  | .trimWindowDue _ => true
  | .trimDeferFall => true
  | .trimMaxdeferExpiry => true
  | .trimStep _ _ => true
  | .driftAlert _ _ _ => true
  | .alertTrimStep _ _ _ => true
  | .paceGateEnd counts => decide (counts.length = 16)
  | .fabPaceClr _ => true
  | .fabGateOvfClear => true
  | .islandLossOfLock _ => true
  | .islandRelock _ => true
  | .gateClockWrite _ _ _ _ => true
  | .gateHandshakePop _ _ => true
  | .staticInputChange _ pin _ => decide (pin < 56)
  | .socketBurst _ addr len write beats => decide (addr < 0x20000000 ∧ (if write then beats.length = len.val + 1 else beats = [])) &&
    beats.all (fun b => decide (b.1.length = 16 ∧ b.2.length = 16))
  | .fabWindowAccess _ off w ans => decide (off.val % 4 = 0 ∧ w.isSome ≠ ans.isSome)
  | .fabWindowTimeout _ => true
  | .fabCallAnswer _ status _ _ => decide (status < 256)
  | .powerOnReset => true
  | .powerGoodEvent => true
  | .s0Complete _ _ _ => true
  | .pwrgrantInHigh => true
  | .grantTimeout => true
  | .mgmtGroupPowered => true
  | .s2BankPowered => true
  | .s3GroupPowered => true
  | .s4WaveDone => true
  | .grantPoint => true
  | .brownOutVcc _ => true
  | .brownOutVccowl => true
  | .brownOutSer _ => true
  | .brownOutIo _ => true
  | .railReturn _ => true
  | .rstNFall _ => true
  | .rstNRise => true
  | .pwrCtlIdle => true
  | .pwrCtlRun => true
  | .idleEntryDone => true
  | .idleExitDone => true
  | .sleepEntry => true
  | .sleepEntryDone => true
  | .wakeInPin => true
  | .wakeTimerExpiry => true
  | .wakePerst => true
  | .rstDomReq _ _ => true
  | .rstDomHold _ _ => true
  | .drainEnd _ => true
  | .abortsPosted _ accs => accs.all (fun a => decide (a < 2 ^ 16))
  | .resetAssert _ mids => mids.all Midburst.wf
  | .resetRelease _ => true
  | .domainReady _ => true
  | .readyTimeout _ => true
  | .rstUnit _ key => decide (key < 2 ^ 32)
  | .watchdogExpiry => true
  | .bootSourceFail => true
  | .bootReadoutDone glob => decide (glob < 2 ^ 24)
  | .startupStepDone => true
  | .startupDelayExpiry => true
  | .startupLockDone => true
  | .startupLockTimeout missing => decide (missing < 2 ^ 25)
  | .cfgStageEraseDone => true
  | .cfgStageFrame got => got.wf (2 ^ 25)
  | .cfgStageReadbackDone _ => true
  | .handoverReadoutDone glob => decide (glob < 2 ^ 24)
  | .cfgBootSel key _ => decide (key < 2 ^ 32)
  | .depotDiscovery x => x.wf
  | .flashReadDone got => (match got with | some l => decide (l.length ≤ 65536) | none => true)
  | .flashEraseDone _ => true
  | .flashProgramDone _ => true
  | .depotScrubDue => true
  | .imageReq m => m.is 0x40 4
  | .imageReqRetry => true
  | .reqAck m => m.is 0x41 4
  | .reqAckRepeat => true
  | .loadRoundStart => true
  | .roundBegin m => m.is 0x42 4
  | .chunk m => m.is 0x43 4 && decide (0 < m.data.length ∧ m.data.length ≤ 4096)
  | .chunkAck m => m.is 0x46 4
  | .resend m => m.is 0x47 4
  | .roundEnd m => m.is 0x44 4
  | .roundAbort m => m.is 0x45 4
  | .chainTryTimeout _ => true
  | .nvaKey _ _ => true
  | .nvaCmd _ _ => true
  | .nvaSeqLapse => true
  | .programLine _ _ => true
  | .programPage _ _ => true
  | .eraseSector _ _ => true
  | .eraseBlock _ _ => true
  | .suspend _ _ => true
  | .resume _ _ => true
  | .readCounter _ _ => true
  | .nvaPageLatchLoaded => true
  | .nvaProgramDone _ => true
  | .nvaErasePulse => true
  | .nvaEraseDone _ => true
  | .nvaSuspendEffect _ => true
  | .nvaAutoResume => true
  | .nvLineRead m _ _ _ _ => decide (m < 64)
  | .nvScrubMarginRead _ => true
  | .nvScrubRefresh => true
  | .nvScrubStarve _ _ => true
  | .nvaWpSet _ _ => true
  | .nvaWpClr _ _ => true
  | .nvaWpLock => true
  | .bankAccess n a b _ => wfAcc n a && wfAcc n b
  | .aliasWrite _ addr data be _ => decide (addr.val % 16 = 0 ∧ data.length = 16 ∧ be.length = 16)
  | .bankPowerStepDone _ _ => true
  | .marchDone _ _ _ addr bits _ => decide (bits.length = 4 ∧ addr < 0x800000)
  | .bnkFuseProg _ _ _ _ key => decide (key < 2 ^ 32)
  | .fuseBlowDone _ => true
  | .laneBlockLock _ _ slips => decide (slips < 128)
  | .laneBlockLockLost _ _ _ fwd => wfFwd fwd
  | .laneFrameLock _ _ _ _ => true
  | .laneFrameLockLost _ _ fwd => wfFwd fwd
  | .train _ _ _ _ _ _ _ => true
  | .cap _ _ _ => true
  | .keyBlock _ _ _ => true
  | .keyAck _ _ => true
  | .linkUp _ => true
  | .trainTimeout _ => true
  | .chnPortEn _ _ => true
  | .chnRetrain _ => true
  | .chnPrbs _ _ _ err0 err1 => decide (err0 < 2 ^ 32 ∧ err1 < 2 ^ 32)
  | .credit _ _ _ => true
  | .csync _ _ _ => true
  | .ack _ _ => true
  | .nak _ _ => true
  | .creditReturnDue _ _ => true
  | .csyncDue _ => true
  | .ackDue _ => true
  | .replayTimer _ => true
  | .messageDamaged _ _ _ _ fwd => wfFwd fwd
  | .messageForward _ m => m.fits
  | .quiet _ => true
  | .becomeCandidate => true
  | .beacon _ m => m.is 0x01 3
  | .beaconBackoffExpiry => true
  | .electionWin => true
  | .walk => true
  | .partialWalk _ => true
  | .walkStart _ m => m.is 0x02 1
  | .token m => m.is 0x03 1
  | .join _ m => m.is 0x04 4
  | .addrAssign m => m.is 0x05 3
  | .tokenEnd _ m => m.is 0x06 1
  | .walkTimeout => true
  | .topoBreak _ m => m.is 0x07 1
  | .topoUpdate m => m.is 0x08 3
  | .resetCmd _ m => m.is 0x09 2
  | .devEvt _ m => m.is 0x0A 2
  | .tunRdReq _ m => m.is 0x10 4
  | .tunWr _ m => m.is 0x11 4
  | .tunInt _ m => m.is 0x12 1
  | .tunRdCpl _ m => m.is 0x13 4
  | .rmtOp _ m => m.is 0x18 4 && decide (m.data.length = 64)
  | .rmtDone _ m => m.is 0x19 4 && decide (m.data.length = 32)
  | .winRd _ m _ => m.is 0x1A 3
  | .winWr _ m => m.is 0x1B 4 && decide (0 < m.data.length ∧ m.data.length ≤ 512)
  | .winCpl _ m => m.is 0x1C 4
  | .enuRstCmd _ _ key => decide (key < 2 ^ 32)
  | .enuTabWrite _ _ _ _ => true
  | .enuBypass _ => true
  | .propose => true
  | .cancel => true
  | .sleepPropose m => m.is 0x20 2
  | .sleepReadyVote => true
  | .voteWaitExpiry => true
  | .sleepVote _ m => m.is 0x21 1
  | .voteMissingTimeout => true
  | .nakWake _ m => m.is 0x24 2
  | .sleepCommit m => m.is 0x22 1
  | .sleepAbort m => m.is 0x23 2
  | .chainWakeDetect => true
  | .wakeToneDone => true
  | .harTrainTimeout _ => true
  | .harWordLock _ _ => true
  | .harWordLockLost _ => true
  | .harEnumReturn _ _ _ => true
  | .idr _ _ _ _ _ => true
  | .cfga _ _ _ => true
  | .rsp _ _ words _ => decide (words.length ≤ 16)
  | .harReplyTimeout _ => true
  | .harSettleExpiry => true
  | .harLinkWaitExpiry => true
  | .harLinkEn _ _ => true
  | .harRetrain _ => true
  | .fifoPush _ p => p.wf
  | .fifoPop _ _ p => wfPush p
  | .sfqPopW0 _ p => wfPush p
  | .discardPkt _ _ => true
  | .discardRemoval _ p => wfPush p
  | .flush _ => true
  | .sfqCfgWrite _ _ => true
  | .sfqWmWrite _ _ => true
  | .sfqPinWrite _ => true
  | .sfqXctxWrite _ _ => true
  | .canIntegrated _ => true
  | .canStartOfFrame _ => true
  | .canArbitrationLost _ => true
  | .canFrameSent _ _ => true
  | .canTxError _ _ _ => true
  | .canSuspendTransmissionEnd _ => true
  | .canFrameReceived _ _ _ _ _ _ _ _ data _ => decide (data.length ≤ 64)
  | .canRxError _ _ _ _ => true
  | .canRecover _ => true
  | .canRecoveryDone _ => true
  | .canErrcWrite _ _ => true
  | .vbuRxTimeout _ => true
  | .canWuf _ _ _ _ data => decide (data.length ≤ 64)
  | .fecWake _ _ => true
  | .linBreak _ _ _ _ => true
  | .linResponse _ data _ _ _ => decide (data.length ≤ 8)
  | .linResponseTimeout _ => true
  | .linBusIdle _ => true
  | .linWake _ => true
  | .linWakeRx _ => true
  | .linWakePulse _ => true
  | .sentFrame _ _ _ nibbles _ _ => decide (0 < nibbles.length ∧ nibbles.length ≤ 6)
  | .ospGainStep _ => true
  | .ospPreambleDetect _ => true
  | .ospSyncMatch _ _ _ _ => true
  | .ospSyncWaitExpiry => true
  | .ospDataItem groups => groups.all wfGroup
  | .ospPacketEnd groups => groups.all wfGroup
  | .ospTxStart => true
  | .ospRepetitionEnd => true
  | .ospGapExpiry => true
  | .ospTrExpiry => true
  | .ospSclkLost => true
  | .ospSclkReturn => true
  | .ospFsMeasure _ => true
  | .ospRxTimeout => true
  | .ospRxEnWrite _ => true
  | .ppsInEdge _ _ => true
  | .ppsInLoss => true
  | .timeBeacon m _ _ _ => m.is 0x50 5
  | .beaconLoss => true
  | .wholeSecond => true
  | .ppsOutEnd => true
  | .timeBeaconSend => true
  | .dlyReqDue => true
  | .dlyReq _ m _ => m.is 0x51 1
  | .dlyResp m _ => m.is 0x52 2
  | .holdLimitExpiry => true
  | .tcxoLost => true
  | .tcxoReturn => true
  | .tbuCtlWrite _ => true
  | .tagFieldOn => true
  | .tagFieldLost => true
  | .tagSessionEnd => true
  | .inventory _ _ _ _ => true
  | .stayQuiet _ => true
  | .readMultipleBlocks _ _ _ => true
  | .extendedReadMultipleBlocks _ _ _ => true
  | .lockBlock _ _ => true
  | .extendedLockBlock _ _ => true
  | .tagUnsupportedCommand _ => true
  | .tagSnapshotDone => true
  | .tagLockProgrammed _ => true
  | .tagShadowProgrammed _ => true
  | .tagPageCommit => true
  | .tagLockCmd _ => true
  | .tagLockGroupProgrammed => true
  | .tagLockGroupCommit => true
  | .loadKey key _ => decide (key < 2 ^ 32)
  | .clearKey key _ => decide (key < 2 ^ 32)
  | .bind key _ _ => decide (key < 2 ^ 32)
  | .rekey key _ _ => decide (key < 2 ^ 32)
  | .erase key _ _ => decide (key < 2 ^ 32)
  | .kiteInstruction _ _ _ _ => true
  | .mtimerInterrupt => true
  | .kitMsip _ => true
  | .fwCheckStart _ => true
  | .fwCheckDone => true
  | .wdtEnable => true
  | .wdtService _ key => decide (key < 2 ^ 32)
  | .mbxH2kSend => true
  | .mbxH2kDone => true
  | .mbxK2hSend => true
  | .mbxK2hDone => true
  | .ping => true
  | .info => true
  | .check => true
  | .policyApply => true
  | .nightlyDue service => service.all (fun d => decide (d < 24))
  | .wearSummaryDue _ _ _ _ _ => true
  | .tlmScan samples busy => decide (samples.length = 21 ∧ busy.length = 12)
  | .tlmLogDue => true
  | .tlmLogBeat => true
  | .alarmTest _ => true
  | .lcyAdvance _ _ => true
  | .lcyAdvanceDone _ => true
  | .bistStart => true
  | .bistPatternsDone _ => true
  | .bistWaitTimeout => true
  | .tapReset => true
  | .extest _ => true
  | .idcode => true
  | .samplePreload _ => true
  | .highz => true
  | .clamp => true
  | .bypass => true
  | .regionsPoweredDown => true
  | .handshakeSideWrite _ _ _ => true
  | .clockSideRead _ _ => true
  | .controlBlockDiscard _ => true
  | .strayDataBlock _ => true
  | .frmErr => true

end Sys2Proof
end

