-- ==== Sys2Proof/Tests/Slice0.lean ====
section
/-! SUPPORT. Tests: for each statement a witness of its premises, and what commands give on small states, by the spec's tables. -/
namespace Sys2Proof.Tests
set_option Elab.async false
open Machine

/-- A running unit: every domain powered, none fenced or in reset, every bank ON. -/
def live : State :=
  { wr (wr State.reset R.RST_DOM_INRST 0#32) R.RST_DOM_FENCED 0#32 with
    doms := (List.range 24).map (fun d => (d, { powered := true })), banks := (List.range 8).map (fun n => (n, { st := 1 })) }

/-- Values put into fields. -/
def withF (s : State) (l : List (Fld × Nat)) : State := l.foldl (fun t p => setf t p.1 p.2) s

/-! ### Ill-formed commands: one for each check -/

/-- A chain message that fits, to vary. -/
def aMsg (ty words data : Nat) : Msg := ⟨ty, 1, 2, List.replicate words 0#32, List.replicate data 0#8⟩

/-- A bank access that is well formed for bank 0, to vary. -/
def anAcc : BankAcc := ⟨3, 0x10, none, List.replicate 16 true⟩

theorem test_wf_refuses_host : [Instr.hostBar4Read 2 4 [], .hostBar4Read 0 0 [], .hostBar4Read 0 3 [], .hostBar4Write 0 [],
    .hostBar4Write 0 (List.replicate 513 0#8), .hostLinkUp 0 4, .returnAccepted 0 0 256, .fetch 0 0, .fetch 0 17,
    .fetchComplete 0 (.slots [List.replicate 15 0#32]), .fetchComplete 0 (.slots (List.replicate 17 (List.replicate 16 0#32))), .doorbellSqPi .host true 0 65536,
    .doorbellCqCi .host true 0 65536, .ledgerAudit [65536], .auditChainRelook 0 65536, .ldgRelease (2 ^ 32), .ldgBufLend 1024 0, .ldgBufLend 0 1024,
    .fence 0 (2 ^ 32)].all (fun i => !i.wf) = true := by decide +kernel

theorem test_wf_refuses_reads : (ReadEnd.ok [0#8, 0#8, 0#8]).wf 2 = false ∧ [Instr.vbuTx 0 (.ok (List.replicate 65 0#8)), .cfgStage 0 (.ok (List.replicate 65 0#8)),
    .ospTx 0 (.ok (List.replicate 2048 0#8))].all (fun i => !i.wf) = true := by decide +kernel

theorem test_wf_refuses_fabric : [Instr.paceGateEnd (List.replicate 15 0), .staticInputChange 0 56 true, .socketBurst 0 0x20000000 0 false [],
    .socketBurst 0 0 1 true [(List.replicate 16 0#8, List.replicate 16 true)], .socketBurst 0 0 0 false [([], [])],
    .socketBurst 0 0 0 true [(List.replicate 15 0#8, List.replicate 16 true)], .socketBurst 0 0 0 true [(List.replicate 16 0#8, [])],
    .fabWindowAccess 0 2 none (some 0#32), .fabWindowAccess 0 0 none none, .fabCallAnswer 0 256 0#32 0#32, .abortsPosted 0 [65536],
    .resetAssert 0 [⟨16, 0, 0, true⟩], .resetAssert 0 [⟨0, 16, 1, true⟩], .rstUnit .host (2 ^ 32), .bootReadoutDone (2 ^ 24), .startupLockTimeout (2 ^ 25),
    .handoverReadoutDone (2 ^ 24), .cfgBootSel (2 ^ 32) 0, .depotDiscovery ⟨true, 1, 0, [], true, 256, true⟩,
    .depotDiscovery ⟨true, 1, 0, List.replicate 9 0, true, 0, true⟩].all (fun i => !i.wf) = true := by decide +kernel

theorem test_wf_refuses_banks : [Instr.nvLineRead 64 0 0 false false, .bankAccess 0 (some { anAcc with master := 16 }) none true,
    .bankAccess 0 (some { anAcc with addr := 8 }) none true, .bankAccess 0 none (some { anAcc with addr := 0x100000 }) true,
    .bankAccess 0 none (some { anAcc with be := [] }) true, .bankAccess 0 none (some { anAcc with wdata := some [] }) true,
    .aliasWrite true 8 (List.replicate 16 0#8) (List.replicate 16 true) 0, .aliasWrite true 0 [] (List.replicate 16 true) 0,
    .aliasWrite true 0 (List.replicate 16 0#8) [] 0, .marchDone 0 0 0 0 [] true, .marchDone 0 0 0 0x800000 (List.replicate 4 0#32) true,
    .bnkFuseProg 0 0 0 0 (2 ^ 32)].all (fun i => !i.wf) = true := by decide +kernel

theorem test_wf_refuses_messages : [aMsg 256 0 0, { aMsg 1 0 0 with src := 64 }, { aMsg 1 0 0 with dst := 66 }, aMsg 1 0 4097, aMsg 1 3 1].all (fun m => !m.fits) = true
    ∧ (aMsg 0x11 4 4096).fits = true ∧ wfFwd (some (aMsg 256 0 0)) = false
    ∧ [Instr.imageReq (aMsg 0x40 3 0), .reqAck (aMsg 0x40 4 0), .roundBegin (aMsg 0x40 4 0), .chunk (aMsg 0x43 4 0), .chunkAck (aMsg 0x46 3 0),
      .resend (aMsg 0x47 3 0), .roundEnd (aMsg 0x44 3 0), .roundAbort (aMsg 0x45 3 0), .laneBlockLock 0 0 128, .laneBlockLockLost 0 0 0 (some (aMsg 256 0 0)),
      .laneFrameLockLost 0 0 (some (aMsg 256 0 0)), .chnPrbs 0 true true (2 ^ 32) 0, .chnPrbs 0 true true 0 (2 ^ 32),
      .messageDamaged 0 .stomp 0 0 (some (aMsg 256 0 0)), .messageForward 0 (aMsg 256 0 0), .beacon 0 (aMsg 1 2 0), .walkStart 0 (aMsg 2 0 0), .token (aMsg 3 0 0),
      .join 0 (aMsg 4 3 0), .addrAssign (aMsg 5 2 0), .tokenEnd 0 (aMsg 6 0 0), .topoBreak 0 (aMsg 7 0 0), .topoUpdate (aMsg 8 2 0), .resetCmd 0 (aMsg 9 1 0),
      .devEvt 0 (aMsg 10 1 0)].all (fun i => !i.wf) = true := by decide +kernel

theorem test_wf_refuses_tunnel : [Instr.tunRdReq 0 (aMsg 0x10 3 0), .tunWr 0 (aMsg 0x11 3 0), .tunInt 0 (aMsg 0x12 0 0), .tunRdCpl 0 (aMsg 0x13 3 0),
    .rmtOp 0 (aMsg 0x18 4 63), .rmtDone 0 (aMsg 0x19 4 31), .winRd 0 (aMsg 0x1A 2 0) [], .winWr 0 (aMsg 0x1B 4 0), .winWr 0 (aMsg 0x1B 4 513),
    .winCpl 0 (aMsg 0x1C 3 0), .enuRstCmd 0 true (2 ^ 32), .sleepPropose (aMsg 0x20 1 0), .sleepVote 0 (aMsg 0x21 0 0), .nakWake 0 (aMsg 0x24 1 0),
    .sleepCommit (aMsg 0x22 0 0), .sleepAbort (aMsg 0x23 1 0), .timeBeacon (aMsg 0x50 4 0) true 0 0, .dlyReq 0 (aMsg 0x51 0 0) 0,
    .dlyResp (aMsg 0x52 1 0) 0].all (fun i => !i.wf) = true := by decide +kernel

theorem test_wf_refuses_streams : [Instr.rsp 0 0 (List.replicate 17 0#32) true, .fifoPush 0 ⟨0, [], 0⟩, .fifoPush 0 ⟨0, List.replicate 16 0#8, 16⟩,
    .fifoPop 0 true (some ⟨0, [], 0⟩), .sfqPopW0 0 (some ⟨0, [], 0⟩), .discardRemoval 0 (some ⟨0, [], 0⟩),
    .canFrameReceived 0 0 false false true false false 15 (List.replicate 65 0#8) 0, .canWuf 0 0 false 0 (List.replicate 65 0#8),
    .linResponse 0 (List.replicate 9 0#8) 0#8 false false, .sentFrame 0 0 0 [] 0 0, .sentFrame 0 0 0 (List.replicate 7 0) 0 0, .ospDataItem [[]],
    .ospPacketEnd [[]], .loadKey (2 ^ 32) 0, .clearKey (2 ^ 32) 0, .bind (2 ^ 32) 0 0, .rekey (2 ^ 32) 0 0, .erase (2 ^ 32) 0 true,
    .wdtService .kite (2 ^ 32), .nightlyDue [24], .tlmScan [] (List.replicate 12 0), .tlmScan (List.replicate 21 0) []].all (fun i => !i.wf) = true := by
  decide +kernel

/-! ### Witnesses of the statements' premises -/

/-- The premises of `RegisterWriteByType`, at BST_CTL. -/
theorem witness_RegisterWriteByType : localDeny live .host = false ∧ plainReg R.TLM_ALARM_EN = true ∧ regAway live R.TLM_ALARM_EN = false := by decide

/-- The premises of `RegisterWritesTurnedAway`: a part word, a block away, and a member. -/
theorem witness_RegisterWritesTurnedAway : localDeny live .host = false ∧ regAway State.reset R.TLM_CTL = true ∧ localDeny State.reset .kite = false
    ∧ isMember (withF live [(F.ENU_STAT_ROLE, 3)]) = true := by decide

/-- The premises of `WidePairs`: the write-back address of context 1023 and KIT_MTIMECMP, by Kite on a member. -/
theorem witness_WidePairs : popOffset R.TBU_NOW_NS = none ∧ ctxDenied live .kite 1023 = false ∧ localDeny live .kite = false
    ∧ regAway live (R.CTX_SQ_LO 1023 + 16) = false ∧ regAway live (R.CTX_SQ_LO 1023 + 20) = false
    ∧ getf live (F.CTX_STAT_STATE 1023) = stDisabled ∧ (R.CTX_SQ_LO 1023 + 16) % 4 = 0 ∧ R.CTX_SQ_LO 1023 + 16 < 0x200000
    ∧ regAway live (R.KIT_MTIMECMP 0) = false ∧ regAway live (R.KIT_MTIMECMP 1) = false := by decide

/-- An ACTIVE context 1023 of the host with rings of 16 slots. -/
def ctxOn : State := withF live [(F.CTX_STAT_STATE 1023, 1), (F.CTX_CTL_SQ_LOG2 1023, 4), (F.CTX_CTL_CQ_LOG2 1023, 4)]

/-- The premises of `Doorbells`, with the last slot of the ring, an index past it, the wrong master and a member's link. -/
theorem witness_Doorbells : bar2Dropped ctxOn .host true = false ∧ away ctxOn 1 = false ∧ doorbellDenied ctxOn .host true 1023 = false
    ∧ getf ctxOn (F.CTX_STAT_STATE 1023) ≠ stDisabled ∧ 15 < sqSize ctxOn 1023 ∧ sqSize ctxOn 1023 ≤ 16 ∧ cqCiOk ctxOn 1023 0 = true
    ∧ cqCiOk ctxOn 1023 1 = false ∧ doorbellDenied ctxOn .kite false 1023 = true ∧ getf live (F.CTX_STAT_STATE 0) = stDisabled
    ∧ bar2Dropped (withF live [(F.ENU_STAT_ROLE, 3)]) .host true = true ∧ ctxOn.enu.voted = false := by decide

/-- Context 5 DISABLED with sizes, limit and addresses that pass the checks. -/
def ctxSet : State := withF live [(F.CTX_CTL_SQ_LOG2 5, 4), (F.CTX_CTL_CQ_LOG2 5, 16), (F.CTX_LIM_LIMIT 5, 256)]

/-- The premises of `ContextEnableDisable`: it can be enabled with the largest ring and limit; with a limit of 0 it cannot; an ERROR
context with nothing left and an ACTIVE one with a descriptor staged; a FROZEN one; the host at a Kite context. -/
theorem witness_ContextEnableDisable : ctxDenied ctxSet .host 5 = false ∧ getf ctxSet (F.CTX_STAT_STATE 5) = stDisabled
    ∧ enableCheck ctxSet 5 = none ∧ enableCheck (withF ctxSet [(F.CTX_LIM_LIMIT 5, 257)]) 5 = some 0xA
    ∧ getf (withF live [(F.CTX_STAT_STATE 5, 3)]) (F.CTX_STAT_STATE 5) = stError ∧ (ctx live 5).staged = [] ∧ (ctx live 5).fetch = none
    ∧ (ctx live 5).heldRecs = [] ∧ inflight live 5 = 0 ∧ (ctx { ctxOn with ctxs := [(1023, { staged := [⟨0, [], none⟩] })] } 1023).staged ≠ []
    ∧ getf (withF live [(F.CTX_STAT_STATE 5, 4)]) (F.CTX_STAT_STATE 5) = stFrozen
    ∧ ctxDenied (withF live [(F.CTX_CTL_OWNER 5, 1)]) .host 5 = true := by decide

/-- Context 1023 ACTIVE with 15 slots to fetch, of the host with its link up and of Kite. -/
def ctxFull : State := withF ctxOn [(F.CTX_SQ_IDX_SQ_PI 1023, 15), (F.HIF_STAT_LINK_UP, 1), (F.HIF_STAT_BME, 1)]

/-- The premises of `FetchStagesDescriptors`: the fetch takes 8 slots; a read of 8 slots that wraps outstanding. -/
theorem witness_FetchStagesDescriptors : getf ctxFull (F.CTX_STAT_STATE 1023) = stActive ∧ (ctx ctxFull 1023).fetch = none
    ∧ fetchCount ctxFull 1023 9 = 8 ∧ inReset ctxFull 1 = false ∧ kiteOwned ctxFull 1023 = false ∧ hostReach ctxFull = true
    ∧ isMember ctxFull = false ∧ kiteOwned (withF ctxFull [(F.CTX_CTL_OWNER 1023, 1)]) 1023 = true
    ∧ (ctx { ctxFull with ctxs := [(1023, { fetch := some (12, 8) })] } 1023).fetch = some (12, 8) := by decide

/-- A NOP staged at the head of context 1023's staging, with tokens; one with an opcode that does not exist. -/
def ctxReady (w : W32) : State :=
  { withF ctxFull [(F.CTX_LIM_LIMIT 1023, 1)] with ctxs := [(1023, { staged := [⟨0, [w], some 0⟩] })] }

/-- The premises of `DispatchIssuesOrRefuses`. -/
theorem witness_DispatchIssuesOrRefuses : inReset (ctxReady 0#32) 1 = false ∧ classServed (ctxReady 0#32) = some 3
    ∧ pick (ctxReady 0#32) 3 = some 1023 ∧ (ctx (ctxReady 0#32) 1023).staged = [⟨0, [0#32], some 0⟩]
    ∧ gateCheck (ctxReady 0#32) 0 0 127 [0#32] = none ∧ forwards (ctxReady 0#32) [0#32] = false
    ∧ gateCheck (ctxReady 0xFF#32) 0 0 127 [0xFF#32] = some (0x10, 0x01) ∧ pick (ctxReady 0xFF#32) 3 = some 1023
    ∧ writesNow (ctxReady 0xFF#32) 1023 = true ∧ dSilent [0xFF#32] = false ∧ classServed live = none := by decide

/-- The premises of `ReturnsAndNullTarget`: NOP and FENCE in flight of context 1023, one that has returned, and a held FENCE. -/
def flying : State := { ctxFull with
  ops := [{ tag := 1, ctx := 1023, sq := 0, words := [0#32] }, { tag := 2, ctx := 1023, sq := 1, words := [1#32] },
    { tag := 3, ctx := 1023, sq := 2, words := [2#32], ret := some ⟨0, 5#32, 0#32⟩, note := true }],
  ctxs := [(1023, { staged := [⟨3, [1#32, 0#32, 0#32, 5#32], some 3⟩] })] }

theorem witness_ReturnsAndNullTarget : (opOf flying 1).map opcodeOf = some 0 ∧ (opOf flying 2).map opcodeOf = some 1
    ∧ opOf flying 4 = none ∧ (opOf flying 3).map (fun o => (o.ret, o.origin, o.ctx)) = some (some ⟨0, 5#32, 0#32⟩, none, 1023)
    ∧ writesNow flying 1023 = true ∧ dSilent [2#32] = false
    ∧ fenceHeld flying 1023 [1#32, 0#32, 0#32, 5#32] = true ∧ 0 < dFenceTo [1#32, 0#32, 0#32, 5#32] := by decide

/-- The premises of `LedgerCommands`: an audit, during a handover and not; comparisons with nothing and with one mismatch; a chain book;
releases; a bank credit lent. -/
theorem witness_LedgerCommands : getf live F.LDG_CTL_AUDIT_EN = 1 ∧ handoverRuns live = false
    ∧ handoverRuns (withF live [(F.CFG_STAT_OP, 2)]) = true ∧ live.ledger.releasePend = false ∧ getf live F.LDG_FAULT0_FAULTS = 0
    ∧ ({ live with ledger := { live.ledger with audit := some [⟨1, 0, 16, 0, none⟩] } } : State).ledger.audit = some [⟨1, 0, 16, 0, none⟩]
    ∧ [7].contains (7 : Fin 8).val = true ∧ regAway live R.LDG_RELEASE = false ∧ isSet live F.LDG_STAT_COMPARING = false
    ∧ isSet (withF live [(F.LDG_STAT_COMPARING, 1)]) F.LDG_STAT_COMPARING = true ∧ regAway live R.LDG_BUF_LEND = false
    ∧ live.ledger.lentBank = 0 ∧ regAway live R.LDG_CTL = false := by decide

/-- The link is in L0 with Bus Master Enable, MSI-X on, a pending message of the last vector, and an interrupt of context 0 pending. -/
def linkOn : State :=
  { withF live [(F.HIF_STAT_LINK_UP, 1), (F.HIF_STAT_BME, 1), (F.HIF_STAT_PERST, 1), (F.HIF_STAT_MSIX_EN, 1), (F.CTX_INT_MOD_TIME 0, 1),
      (⟨R.HIF_PBA 32, 0, 32⟩, 2 ^ 31), (⟨R.HIF_MSIX 0 3, 0, 32⟩, 0)] with ctxs := [(0, { intPend := 1 })] }

/-- The premises of `HostLinkAndReset`. -/
theorem witness_HostLinkAndReset : inReset linkOn 0 = false ∧ isSet linkOn F.HIF_STAT_PERST = true ∧ isSet linkOn F.HIF_STAT_LINK_UP = true
    ∧ isSet linkOn F.HIF_STAT_BME = true ∧ isSet linkOn F.HIF_STAT_D3HOT = false ∧ (dom State.reset 0).powered = false
    ∧ (dom linkOn 0).powered = true ∧ away linkOn 0 = false ∧ regAway linkOn (R.HIF_MSIX 1055 3) = false
    ∧ bit (rd linkOn (R.HIF_PBA (1055 / 32))).toNat (1055 % 32) = true ∧ hostUp linkOn = true ∧ isSet linkOn F.HIF_STAT_MSIX_EN = true
    ∧ 0 < (ctx linkOn 0).intPend ∧ 0 < getf linkOn (F.CTX_INT_MOD_TIME 0) ∧ kiteOwned linkOn 0 = false ∧ isMember linkOn = false
    ∧ extractBits (rd linkOn (R.HIF_MSIX (getf linkOn (F.CTX_INT_VEC 0)) 3)) 0 1 = 0 := by decide

/-- A COPY of two bytes from BANK0 to BANK1, a FILL of BANK7's last byte, and a COPY from host memory with its read outstanding. -/
def moving : State := { linkOn with
  ops := [{ tag := 1, ctx := 0, sq := 0, words := [2#32, 0#32, 2#32, 0#32, 8#32, 0#32, 0x100000#32, 0#32, 3#32] },
    { tag := 2, ctx := 0, sq := 1, words := [3#32, 0#32, 1#32, 0#32, 0#32, 0#32, 0x7FFFFF#32, 0#32, 2#32] },
    { tag := 3, ctx := 0, sq := 2, words := [2#32, 0#32, 2#32, 0#32, 8#32, 0#32, 0x100000#32, 0#32, 2#32], started := true }],
  hif := { linkOn.hif with reads := [⟨7, 8, 2, 0, .op 3, []⟩], nextRead := 8 } }

/-- The premises of `MoversCopyAndFill`. -/
theorem witness_MoversCopyAndFill : (opOf moving 1).map (fun o => (opcodeOf o, o.started, df o.words 8 0 2, dEngsel o.words, copyUndefined o, dLength o.words))
      = some (2, false, 3, 0, false, 2)
    ∧ (readBytes moving 2 8).2 = none ∧ accessErr moving 0x100000 true = none ∧ accessErr moving 0x100001 true = none
    ∧ (opOf moving 2).map (fun o => (opcodeOf o, df o.words 8 1 1, d64 o.words 6)) = some (3, 1, 0x7FFFFF) ∧ accessErr moving 0x7FFFFF true = none
    ∧ (opOf moving 3).map (fun o => (df o.words 8 0 1, o.prog)) = some (0, 0) ∧ (ownRead moving 7).map (·.use) = some (.op 3)
    ∧ hostReach moving = true ∧ isMember moving = false ∧ isSet moving F.HIF_STAT_LINK_UP = true ∧ moving.regDue = [] := by decide

/-- Apertures 0 (this unit, BANK0) and 3 (unit 5), the head with unit 5 in reach, Memory Space Enable on, and a window read outstanding. -/
def windows : State :=
  let s := withF linkOn [(F.HIF_WIN_UNIT_UNIT 3, 5), (F.ENU_STAT_ROLE, 2), (⟨R.ENU_REACH 0, 0, 32⟩, 0x20)]
  { s with hif := { s.hif with memSpace := true, winReads := [⟨255, 5, 4⟩] } }

/-- The premises of `HostApertures`. -/
theorem witness_HostApertures : barUp windows = true ∧ windows.hif.memSpace = true ∧ isMember windows = false ∧ aperture windows 0 = (0, 0)
    ∧ accessErr windows 0 true = none ∧ accessErr windows 0 false = none ∧ (aperture windows 0xFFFFFF).2 = 5 ∧ unitReach windows 5 = true
    ∧ unitReach (withF windows [(⟨R.ENU_REACH 0, 0, 32⟩, 0)]) 5 = false ∧ barUp linkOn = true ∧ linkOn.hif.memSpace = false
    ∧ isMember (withF windows [(F.ENU_STAT_ROLE, 3)]) = true ∧ windows.hif.winReads.find? (fun w => w.wtag == (255 : Fin 256).val) = some ⟨255, 5, 4⟩
    ∧ portUp (withF windows [(F.ENU_STAT_ROLE, 3), (F.ENU_STAT_ADDR, 5), (F.CHN_PSTAT_STATE 0, 5)]) 0 = true
    ∧ takesDst (withF windows [(F.ENU_STAT_ROLE, 3), (F.ENU_STAT_ADDR, 5), (F.CHN_PSTAT_STATE 0, 5)]) 5 = true := by decide

/-- The premises of `BanksServeAndRepair`: BANK7 ON, its last word, an OFF bank, and a fuse entry in BRINGUP. -/
theorem witness_BanksServeAndRepair : bankErr live 7 = none ∧ (bank live 7).waiting = none ∧ 0x7FFFF0 % 16 = 0 ∧ 0x7FFFF0 / 0x100000 = (7 : Fin 8).val
    ∧ (bank State.reset 7).st ≠ 1 ∧ regAway live (R.BNK_FUSE_PROG 7) = false ∧ factoryState (withF live [(F.LCY_STATE_STATE, 1)]) = true
    ∧ isSet (withF live [(F.LCY_STATE_STATE, 1)]) (F.BNK_FUSE_VALID 7 7) = false ∧ factoryState (withF live [(F.LCY_STATE_STATE, 3)]) = false
    ∧ (bank { live with banks := [(7, { st := 1, blowing := some (7, 7, 127) })] } 7).blowing = some (7, 7, 127) := by decide

/-- BNK_POWER to OFF and a preserving BNK_MARCH of BANK7, and a destructive march of BANK8. -/
def bankWork : State := { live with
  ops := [{ tag := 1, ctx := 0, sq := 0, words := [0x91#32, 0#32, 0#32, 0#32, 7#32] }, { tag := 2, ctx := 0, sq := 0, words := [0x90#32, 0#32, 0#32, 0#32, 0x17#32] },
    { tag := 3, ctx := 0, sq := 0, words := [0x90#32, 0#32, 0#32, 0#32, 8#32] }] }

/-- The premises of `BankOperations`. -/
theorem witness_BankOperations : (opOf bankWork 1).map (fun o => (opcodeOf o, opFld o 4 0 4, opFld o 4 8 2, o.started)) = some (0x91, 7, 0, false)
    ∧ (opOf bankWork 2).map (fun o => (opcodeOf o, opFld o 4 0 4, opFld o 4 4 1)) = some (0x90, 7, 1)
    ∧ (opOf bankWork 3).map (fun o => (opcodeOf o, opFld o 4 0 4)) = some (0x90, 8)
    ∧ (bank bankWork 7).st = 1 ∧ (bank bankWork 7).march = 0 ∧ (bank bankWork 7).forOp = none ∧ fenced bankWork 19 = false ∧ away bankWork 19 = false
    ∧ (bank State.reset 7).st = 0 ∧ leavingOff State.reset = false := by decide

/-- A BST_RUN of the default count on D4 that is queued, one not begun, and one with a bad count, in BRINGUP. -/
def bistOps (phase : Nat) : State := { withF live [(F.LCY_STATE_STATE, 1), (F.BST_STAT_PHASE, phase), (F.BST_CTL_WAIT_MS, 1)] with
  ops := [{ tag := 1, ctx := 0, sq := 0, words := [0xA0#32, 0#32, 0#32, 0#32, 4#32], started := true },
    { tag := 2, ctx := 0, sq := 0, words := [0xA0#32, 0#32, 0#32, 0#32, 4#32] },
    { tag := 3, ctx := 0, sq := 0, words := [0xA0#32, 0#32, 0#32, 0#32, 4#32, 255#32] }],
  bst := { tag := 1, dom := 4 } }

/-- The premises of `LifecycleAndBist`. -/
theorem witness_LifecycleAndBist : getf (bistOps 0) F.LCY_STATE_STATE = 1 ∧ (bistOps 0).lcy = none ∧ isSet (bistOps 0) F.LCY_STATE_PARTIAL = false
    ∧ (opOf (bistOps 0) 2).map (fun o => (opcodeOf o, o.started, o.fwd, opFld o 4 0 5)) = some (0xA0, false, false, 4) ∧ bstDefault 4 ≠ 0
    ∧ bstReach (bistOps 0) 4 = true ∧ bstReach (withF live [(F.LCY_STATE_STATE, 5)]) 4 = false ∧ bstPhase (bistOps 0) = 0 ∧ inReset (bistOps 0) 23 = false
    ∧ (bstRuns (bistOps 0)).map (·.tag) = [1] ∧ away (bistOps 0) 4 = false ∧ away (withF (bistOps 0) [(⟨R.RST_DOM_FENCED, 4, 1⟩, 1)]) 4 = true
    ∧ bstPhase (bistOps 3) = 3 ∧ (opOf (bistOps 3) (bistOps 3).bst.tag).isSome = true ∧ getf (bistOps 1) F.BST_CTL_WAIT_MS ≠ 0
    ∧ (dom (bistOps 1) (bistOps 1).bst.dom).holders.contains 8 = false := by decide

/-- `live` with both chain ports UP, in role `r` at address `a`, its host link up. -/
def onChain (r a : Nat) : State :=
  withF live [(F.ENU_STAT_ROLE, r), (F.ENU_STAT_ADDR, a), (F.CHN_PSTAT_STATE 0, 5), (F.CHN_PSTAT_STATE 1, 5), (F.HIF_STAT_LINK_UP, 1), (F.HIF_STAT_BME, 1)]

/-- The premises of `ElectionAndWalks`. -/
theorem witness_ElectionAndWalks :
    let c := onChain 0 0
    let k := onChain 1 0
    let h := withF (onChain 2 0) [(F.ENU_CTL_AUTO_WALK, 1), (F.ENU_STAT_WALKING, 1)]
    let m := onChain 3 5
    role { c with pwr := { c.pwr with headEn := true } } = 0 ∧ isSet c F.HIF_STAT_LINK_UP = true ∧ c.enu.lost = false ∧ c.enu.tunneled = false
    ∧ inReset c 1 = false ∧ portUp k 0 = true ∧ role k = 1 ∧ m0 ⟨1, 0, toAll, [0x100#32], []⟩ 8 1 = 1 ∧ m0 ⟨1, 0, toAll, [0#32], []⟩ 8 1 ≠ 1
    ∧ mAddr ⟨1, 0, toAll, [0#32, 0#32, 0#32], []⟩ 1 ≤ ownPrio k ∧ role { k with enu := { k.enu with backoff := true } } = 1 ∧ k.enu.backoff = false
    ∧ isHead h = true ∧ regAway h R.ENU_CTL = false ∧ isSet h F.ENU_CTL_AUTO_WALK = true ∧ reachOf (setReach h 63 true) 63 = true
    ∧ takesDst m 5 = true ∧ takesDst h 0 = true ∧ portUp h 1 = true ∧ assignAddr h 0#32 0#32 = some 1 ∧ isHead m = false
    ∧ m0 ⟨5, 0, toAll, [0x500#32], []⟩ 14 1 ≠ 1 ∧ isSet h F.ENU_STAT_WALKING = true
    ∧ assignAddr (withF h ((List.range 64).map (fun u => (F.ENU_TAB_FLG_BOUND u, 1)))) 7#32 0#32 = none := by decide +kernel

/-- A member with a COPY from host memory and a descriptor read outstanding, and a forwarded operation. -/
def tunnelled : State := { withF (onChain 3 5) [(F.ENU_STAT_HOST_LINK, 1)] with
  enu := { tunneled := true }
  ops := [{ tag := 1, ctx := 0, sq := 2, words := [2#32, 0#32, 2#32, 0#32, 8#32, 0#32, 0x100000#32, 0#32, 2#32], started := true },
    { tag := 2, ctx := 0, sq := 3, words := [0x00001002#32], fwd := true }]
  hif := { reads := [⟨7, 8, 2, 0, .op 1, []⟩, ⟨8, 0, 64, 0, .fetch 0, []⟩], nextRead := 9, winReads := [⟨3, 1, 4⟩] } }

/-- An RMT_OP with a NOP, the window all of the banks. -/
def rmtNop : Msg := ⟨0x18, 1, 0, [0x00030000#32, 0x7F000000#32], leBytes 64 0⟩

/-- The premises of `TunnelServesMembers`. -/
theorem witness_TunnelServesMembers :
    let h := withF (onChain 2 0) [(F.HIF_STAT_MSIX_EN, 1), (⟨R.HIF_MSIX 0 3, 0, 1⟩, 0)]
    let d (w : W32) : Msg := ⟨0x13, 0, 5, [w, 0#32, 0#32, 0#32], [1#8, 2#8]⟩
    portUp h 1 = true ∧ listedType 0xFF = false ∧ listedType 0x0A = true ∧ takesDst h 5 = false ∧ takesDst h 0 = true ∧ isHead h = true
    ∧ hostUp h = true ∧ hostUp (withF h [(F.HIF_STAT_BME, 0)]) = false ∧ isSet h F.HIF_STAT_MSIX_EN = true
    ∧ extractBits (rd h (R.HIF_MSIX (m0 rmtNop 16 10 - 3) 3)) 0 1 = 0
    ∧ takesDst tunnelled 5 = true ∧ (tunRead? tunnelled 7).map (·.use) = some (.op 1) ∧ (tunRead? tunnelled 8).map (·.use) = some (.fetch 0)
    ∧ m0 (d 0x700#32) 8 8 = 7 ∧ m0 (d 0x700#32) 16 4 = 0 ∧ m0 (d 0x10700#32) 16 4 = 1 ∧ m0 (d 0x30700#32) 16 4 = 3 ∧ m0 (d 0x700#32) 20 1 ≠ 1
    ∧ (opOf tunnelled 1).map (fun o => (df o.words 8 1 1, d64 o.words 6, o.prog)) = some (1, 0x100000, 0) ∧ accessErr tunnelled 0x100000 true = none
    ∧ h.enu.rmtWait = [] ∧ rmtReady h rmtNop = true ∧ rmtReady { h with ledger := { tokFree := 0 } } rmtNop = false
    ∧ credits (rmtWords rmtNop) ≤ lendable h ∧ windowFields (rmtWords rmtNop) = [] ∧ (opRow (dOpcode (rmtWords rmtNop))).bind (·.dom) = none
    ∧ inWindow 0 0 (0x10000, 1) = false ∧ h.enu.tunneled = false
    ∧ (tunnelled.ops.find? (fun o => o.fwd && decide (o.tag % 4096 = 2))).map (·.ctx) = some 0 ∧ dSilent [0x00001002#32] = false
    ∧ writesNow h 0 = true ∧ (tunnelled.hif.winReads.find? (fun w => decide (w.wtag = 3) && decide (w.unit = 1))) = some ⟨3, 1, 4⟩ := by decide +kernel

/-- The head in round 7 with its own vote outstanding and unit 1 reachable, idle as R360 asks. -/
def voting : State := { setReach (setReach (withF (onChain 2 0) [(F.ENU_SLEEP_STAT_PHASE, 1), (F.PWR_STAT_STATE, 1)]) 0 true) 1 true with
  enu := { round := 7, voting := true } }

/-- The premises of `SleepVote`. -/
theorem witness_SleepVote :
    let k := { withF (onChain 3 5) [(F.PWR_STAT_STATE, 1)] with enu := { round := 7, voting := true, voted := true } }
    isHead voting = true ∧ regAway voting R.ENU_SLEEP_CTL = false ∧ getf voting F.ENU_SLEEP_STAT_PHASE = 1
    ∧ getf (onChain 2 0) F.ENU_SLEEP_STAT_PHASE = 0 ∧ portUp k 0 = true ∧ isMember k = true ∧ m0 ⟨0x22, 0, toAll, [0x70000#32], []⟩ 16 16 = k.enu.round
    ∧ k.enu.committed = false ∧ isHead k = false ∧ sleepBusy k = none ∧ sleepBusy voting = none ∧ sleepBusy (withF voting [(F.PWR_STAT_STATE, 0)]) = some 5
    ∧ reachMask voting &&& setBit voting.enu.votes 0 ≠ reachMask voting ∧ reachMask voting &&& setBit 1 1 = reachMask voting
    ∧ takesDst voting 0 = true ∧ m0 ⟨0x21, 1, 0, [0x70100#32], []⟩ 8 1 = 1 ∧ m0 ⟨0x21, 1, 0, [0x70000#32], []⟩ 8 1 ≠ 1
    ∧ getf (withF voting [(F.ENU_SLEEP_STAT_PHASE, 3)]) F.ENU_SLEEP_STAT_PHASE = 3 := by decide +kernel

/-- The premises of `EnuCommands`: entry 3 free, reachable, and one that another entry's die meets. -/
theorem witness_EnuCommands : regAway live R.ENU_RST_CMD = false ∧ regAway live (R.ENU_TAB_FLG 3) = false ∧ regAway live R.ENU_CTL = false
    ∧ (isSet live F.ENU_STAT_WALKING || reachOf live 3) = false ∧ isSet live (F.ENU_TAB_FLG_BOUND 3) = false ∧ reachOf (setReach live 3 true) 3 = true
    ∧ boundElsewhere (withF live [(F.ENU_TAB_FLG_BOUND 4, 1)]) 3 0#32 0#32 = true ∧ boundElsewhere live 3 0#32 0#32 = false
    ∧ (3 : Fin 64).val ≠ ownAddr live ∧ portUp (onChain 2 0) 1 = true ∧ takesDst (onChain 2 0) 0 = true ∧ isHead (onChain 2 0) = true
    ∧ portUp (onChain 3 5) 0 = true ∧ isHead (onChain 3 5) = false := by decide +kernel

/-- `live` with port `p` in state `st` and `x`. -/
def trainAt (p st : Nat) (x : Port) : State := { withF live [(F.CHN_PSTAT_STATE p, st), (F.CHN_PCTL_EN p, 1)] with ports := if x = {} then [] else [(p, x)] }

/-- The premises of `ChainTraining`. -/
theorem witness_ChainTraining :
    let b := withF (trainAt 0 1 {}) [(F.CHN_PSTAT_BLK 0, 1)]
    let caps := [(0, 18), (1, 262), (2, 262), (3, 262)]
    let parts := (List.range 11).map (fun n => (n, n))
    coding b 0 = true ∧ pst b 0 = 1 ∧ setBit 1 (1 : Fin 2).val = 3 ∧ bit 1 (0 : Fin 2).val = true ∧ coding (trainAt 1 5 {}) 1 = true
    ∧ bit (getf (withF (trainAt 1 5 {}) [(F.CHN_PSTAT_FRM 1, 3)]) (F.CHN_PSTAT_FRM 1)) (1 : Fin 2).val = true ∧ pst (trainAt 0 2 {}) 0 = 2
    ∧ pst (trainAt 1 3 { caps := caps }) 1 = 3 ∧ (∀ q < 4, (sget q (port (trainAt 1 3 { caps := caps }) 1).caps).isSome = true)
    ∧ pst (trainAt 0 4 { keyParts := parts }) 0 = 4 ∧ (linkKey (port (trainAt 0 4 { keyParts := parts }) 0)).isSome = true
    ∧ (port (trainAt 1 4 { key := some 7 }) 1).key = some 7 ∧ keyCheck 7 < 4096 ∧ live.load.round = none ∧ live.load.waiting = false
    ∧ away live 2 = false ∧ away live 3 = false ∧ pst live 0 = 0 ∧ pst (trainAt 0 6 {}) 0 = 6 ∧ isSet (trainAt 0 6 {}) (F.CHN_PCTL_EN 0) = true
    ∧ isSet live (F.CHN_PRBS_TX_EN 0) = false ∧ isSet live (F.CHN_PRBS_CHK_EN 0) = false
    ∧ isSet (withF live [(F.CHN_PRBS_CHK_EN 0, 1)]) (F.CHN_PRBS_CHK_EN 0) = true := by decide +kernel

/-- The premises of `ChainLinkLayer`: an idle port, one with a message that waits for credits, and one with two messages to acknowledge. -/
theorem witness_ChainLinkLayer :
    let a := onChain 2 0
    let m : Msg := ⟨0x20, 0, toAll, [0#32, 0#32], []⟩
    let w : State := { withF a [(F.LDG_CHN_CAP 3, 64), (F.LDG_CHN_CAP 0, 64)] with ports := [(0, { waits := [⟨none, false, m⟩] })] }
    let r : State := { withF a [(F.LDG_CHN_AVAIL 4, 64)] with
      ports := [(1, { replay := [⟨8, 0, false, m⟩, ⟨9, 4, false, m⟩], unacked := 1, nakAt := some 0 })] }
    coding a 0 = true ∧ portUp a 0 = true ∧ portUp a 1 = true ∧ (port a 0).again = [] ∧ (port a 0).waits = [] ∧ (port w 0).waits = [⟨none, false, m⟩]
    ∧ msgVl m.ty = (0 : Fin 4).val ∧ msgCells m ≤ min (getf w (F.LDG_CHN_CAP 0)) (getf w (F.LDG_CHN_AVAIL 0) + (2 + 4096 - 0) % 4096)
    ∧ 0 < (port r 1).unacked ∧ ((port r 1).replay.dropWhile (fun q => q.seq != 8)).length = 2
    ∧ ((port r 1).replay.dropWhile (fun q => q.seq != 9)).map (·.times) = [4] ∧ credited r 1 m = true ∧ r.load.round = none
    ∧ r.clk < 0 + 2000 ∧ (port a 0).nakAt = none ∧ (port r 1).replay.all (fun q => q.seq != 7) = true := by decide +kernel

/-- A running unit whose FIFO 5 has these fields and contents. -/
def fifoWith (prod cons : Nat) (x : Fifo) : State := { withF live [(F.SFQ_CFG_EN 5, 1), (F.SFQ_CFG_PROD 5, prod), (F.SFQ_CFG_CONS 5, cons),
    (F.FAB_STAT_STATE, 2), (F.FAB_STAT_RGN_ON, 2)] with fifos := [(5, x)] }

/-- The premises of `FifoTurns`: a push into an empty FIFO, into a discarding one, a misrouted one, and a pop by the fabric. -/
theorem witness_FifoTurns : (let s := fifoWith 0x38 2 { discarding := true, items := [⟨[], 3⟩], booked := 1 }
      isSet s (F.SFQ_CFG_EN 5) = true ∧ getf s (F.SFQ_CFG_PROD 5) = 0x38 ∧ away s 5 = false ∧ (fifo s 5).discarding = true
      ∧ (fifo s 5).items = [⟨[], 3⟩] ∧ s.har.scan = none ∧ (fifo s 5).removing = false ∧ getf s (F.SFQ_CFG_CONS 5) = 2 ∧ fabPort s 5 = true)
    ∧ ¬ (isSet live (F.SFQ_CFG_EN 5) = true) ∧ getf live (F.SFQ_CFG_CONS 5) ≠ 2
    ∧ (let o : Op := { tag := 1, ctx := 0, sq := 0, words := [0x03000011#32, 0#32, 64#32, 0#32, 0#32, 0#32, 0x100000#32, 0#32, 0x105#32, 1#32], started := true }
      let s := { fifoWith 0x13 1 { items := [⟨List.replicate 16 0#8, 3⟩], booked := 1 } with ops := [o] };
      armOf s 5 = some o ∧ opcodeOf o = 0x11 ∧ rxSpace o = true ∧ rxAddr o = 0x100000 ∧ rxVerdict o (fifo s 5).items = 0
      ∧ (List.range 16).all (fun i => (accessErr s (0x100000 + i) true).isNone) = true) := by decide +kernel

/-- The premises of `FifoWindowAndRegisters`: an item for the window, a current packet, a removal under way, an empty FIFO, and D5 away. -/
theorem witness_FifoWindowAndRegisters : (let s := fifoWith 0x38 3 { items := [⟨leBytes 16 7, 1⟩], booked := 1, inPkt := true }
      away s 5 = false ∧ s.har.scan = none ∧ getf s (F.SFQ_CFG_CONS 5) = 3 ∧ (fifo s 5).removing = false ∧ (fifo s 5).items ≠ []
      ∧ (fifo s 5).gap = none ∧ (fifo s 5).inPkt = true)
    ∧ (fifo (fifoWith 0x38 3 { items := [⟨[], 0⟩], inPkt := true, removing := true }) 5).removing = true
    ∧ (fifo live 5).items = [] ∧ getf live (F.SFQ_CFG_CONS 5) ≠ 3 ∧ away State.reset 5 = true := by decide

/-- A running unit whose link 2 is in state `st`, with `n` boards, as `x`. -/
def scanLink (st n : Nat) (x : HLink) : State := { withF live [(F.HAR_LCTL_EN 2, 1), (F.HAR_LSTAT_STATE 2, st), (F.HAR_LSTAT_BOARDS 2, n)] with
  har := { lk := [(2, x)] } }

/-- The premises of `HarrierLinks`: links in TRAIN, ENUM, IDENT and UP, with each command outstanding. -/
theorem witness_HarrierLinks : getf (scanLink 1 0 {}) (F.HAR_LSTAT_STATE 2) = 1 ∧ getf (scanLink 2 0 {}) (F.HAR_LSTAT_STATE 2) = 2
    ∧ 2 ≤ getf (scanLink 4 2 {}) (F.HAR_LSTAT_STATE 2) ∧ (scanLink 2 0 {}).har.scan = none
    ∧ (hlink (scanLink 3 2 { cmd := some (.idq 1), need := 2 }) 2).cmd = some (.idq 1)
    ∧ (hlink (scanLink 3 2 { cmd := some (.cfg 3), need := 2 }) 2).cmd = some (.cfg 3)
    ∧ clearBit (hlink (scanLink 3 2 { cmd := some (.cfg 3), need := 2 }) 2).need (1 : Fin 4) = 0
    ∧ (hlink (scanLink 3 2 { cmd := some (.cfg 3), need := 2, miss := 2 }) 2).miss = 2
    ∧ regAway (scanLink 4 2 {}) (R.HAR_LCTL 2) = false ∧ regAway State.reset (R.HAR_LCTL 2) = true := by decide

/-- A scan of points 0 to 1 on link 2 at 0x200000, with records at 0x210000. -/
def scanOp : Op := { tag := 1, ctx := 0, sq := 0, words := [0x20#32, 0#32, 0#32, 0#32, 0x08010800#32, 0x40#32, 0x200000#32, 0x210000#32, 16#32, 0#32] }

/-- A running unit with the scan in its queue, link 2 in state `st` as `x`, and the map's first entries naming net 1. -/
def scanAt (st : Nat) (x : HLink) (c : Option Scan) : State := { scanLink st 1 x with
  ops := [scanOp], har := { lk := [(2, x)], scan := c, links := 4 }, mem := [⟨0x200000, 1#8⟩, ⟨0x200001, 0#8⟩, ⟨0x200002, 1#8⟩, ⟨0x200003, 0#8⟩] }

/-- The premises of `HarrierScans`: a scan that begins, steps, gets a reply, misses one, and waits for its link; a map that is loaded. -/
theorem witness_HarrierScans :
    harTurn (scanAt 4 {} none) 1 0x20 = some scanOp ∧ scFirst scanOp = 0x800 ∧ scLast scanOp = 0x801 ∧ scLinks scanOp = 4 ∧ scMax scanOp = 16
    ∧ linksUp (scanAt 4 {} none) scanOp = true ∧ linksUp (scanAt 1 {} none) scanOp = false
    ∧ readBytes (scanAt 4 {} none) 4 0x200000 = ([1#8, 0#8, 1#8, 0#8], none)
    ∧ scanBad (scanAt 4 {} none) scanOp { tag := 1, map := [1, 1] } [0x800, 0x801] = false
    ∧ ([0x800, 0x801]).filter (isDriven scanOp { tag := 1, map := [1, 1] }) = [0x800, 0x801] ∧ mustHold (scanAt 4 {} none) scanOp = false
    ∧ (let c : Scan := { tag := 1, ph := 2, map := [1, 1], pts := [0x800, 0x801], j := some 1 }
      opOf (scanAt 4 {} (some c)) 1 = some scanOp ∧ repliesIn (scanAt 4 {} (some c)) scanOp = true
      ∧ (hlink (scanAt 4 { cmd := some .step, need := 1 } (some c)) 2).need.testBit 0 = true
      ∧ boardKeys (scanAt 4 {} (some c)) scanOp = [8] ∧ c.tries < getf (withF (scanAt 4 {} (some c)) [(F.HAR_CTL_RETRY, 1)]) F.HAR_CTL_RETRY)
    ∧ (let m : Op := { tag := 1, ctx := 0, sq := 0, words := [0x21#32, 0#32, 2#32, 0#32, 0x200000#32, 0#32, 0x300000#32, 1#32, 0#32] }
      harTurn { live with ops := [m] } 1 0x21 = some m ∧ dLength m.words = 2 ∧ opFld m 7 0 1 = 1
      ∧ accessErr { live with ops := [m] } 0x300001 true = none) := by decide

/-- The premises of `HarrierContinuityCount`: one board on link 2 and its reply to the last STEP. -/
theorem witness_HarrierContinuityCount :
    let c : Scan := { tag := 1, ph := 2, map := [1, 1], pts := [0x800, 0x801], j := some 2 }
    let s := scanAt 4 { cmd := some .step, need := 1 } (some c)
    opOf s 1 = some scanOp ∧ scTest scanOp = 0 ∧ scSense scanOp = false ∧ c.pts.getLast? = some 0x801
    ∧ (hlink s 2).cmd = some .step ∧ (hlink s 2).need.testBit 0 = true ∧ clearBit (hlink s 2).need (0 : Fin 4) = 0 ∧ boardKeys s scanOp = [8]
    ∧ (List.range 4).all (fun k => decide (boards s k ≤ 4)) = true ∧ scMax scanOp = 16
    ∧ (List.range 512).all (fun i => (accessErr s (0x210000 + i) true).isNone) = true := by decide +kernel

/-- A running unit with Osprey's clock, profile 3 usable (50 kbit/s FSK, 4 payload bytes), FIFO 9 its output, in receiver state `st`. -/
def radio (st : Nat) (x : Osp) (ops : List Op) : State := { withF live [(F.OSP_STAT_SCLK_OK, 1), (F.OSP_STAT_RXSTATE, st), (F.OSP_FS_FS, 6500000),
    (F.OSP_PRF_W1_BITRATE 3, 50000), (F.OSP_PRF_W2_DEV 3, 25000), (F.OSP_PRF_W5_SYNC_LEN 3, 32), (F.OSP_PRF_W5_PKT_LEN 3, 4), (F.OSP_CTL_FIFO, 9),
    (F.OSP_PRF_W3_PRE_LEN 3, 16), (F.OSP_PRF_W3_PRE_THR 3, 48), (F.SFQ_CFG_EN 9, 1), (F.SFQ_CFG_PROD 9, 0x38), (F.SFQ_CFG_CONS 9, 1)] with
  osp := x, ops := ops }

/-- An OSP_TX of four bytes under profile 3, twice; and an OSP_RX under profile 3. -/
def txOp : Op := { tag := 1, ctx := 0, sq := 0, words := [0x30#32, 0#32, 4#32, 0#32, 0#32, 0#32, 0x300#32, 2#32] }
def rxOp : Op := { tag := 2, ctx := 0, sq := 0, words := [0x31#32, 0#32, 64#32, 0#32, 0#32, 0#32, 0x301#32, 0#32, 5#32] }

/-- The premises of `OspreyTransmits`. -/
theorem witness_OspreyTransmits : opOf (radio 1 {} [txOp]) 1 = some txOp ∧ opcodeOf txOp = 0x30 ∧ opFld txOp 6 8 8 = 3 ∧ opFld txOp 6 0 1 = 0
    ∧ usable (radio 1 {} [txOp]) (profWords (radio 1 {} [txOp]) 3) = true ∧ pVar (profWords (radio 1 {} [txOp]) 3) = false
    ∧ pPktLen (profWords (radio 1 {} [txOp]) 3) = 4 ∧ dLength txOp.words = 4
    ∧ rxState (radio 3 { txq := [(1, [])] } [txOp]) = rxPayload ∧ isSet (radio 3 {} []) F.OSP_CTL_TX_PREEMPT = false
    ∧ isSet (radio 3 {} []) F.OSP_STAT_SCLK_OK = true ∧ away (radio 3 {} []) 8 = false ∧ rxState (radio 1 {} []) ≠ rxPayload
    ∧ (radio 4 { txq := [(1, [])], tph := 1, reps := 1 } [txOp]).osp.tph = 1 ∧ max 1 (opFld txOp 7 0 16) = 2
    ∧ (radio 4 { tph := 2 } []).osp.tph = 2 ∧ rxState (radio 4 {} [{ rxOp with started := true }]) = rxSuspended
    ∧ rxWants (radio 4 {} [{ rxOp with started := true }]) = some 3 ∧ tapOwns (radio 1 {} []) = false := by decide +kernel

/-- The premises of `OspreyReceives`: an OSP_RX that is armed, and the receiver in SEARCH, PREAMBLE and PAYLOAD. -/
theorem witness_OspreyReceives :
    opOf (radio 0 {} [rxOp]) 2 = some rxOp ∧ opcodeOf rxOp = 0x31 ∧ getf (radio 0 {} [rxOp]) F.OSP_CTL_FIFO = 9 ∧ opFld rxOp 6 8 8 = 3
    ∧ usable (radio 0 {} [rxOp]) (profWords (radio 0 {} [rxOp]) 3) = true ∧ getf (radio 0 {} [rxOp]) (F.SFQ_CFG_CONS 9) = 1
    ∧ ospArmed (radio 0 {} [rxOp]) = none ∧ away (radio 0 {} []) 8 = false ∧ rxState (radio 1 {} []) = rxSearch
    ∧ (let w := profWords (radio 1 {} []) 3
      pf w 6 8 1 = 1 ∧ pf w 3 8 6 = 48 ∧ pFec w = 0 ∧ pSyncLen w = 32 ∧ bitDiff 32 0#32 (w.getD 4 0#32) = 0)
    ∧ rxState (radio 2 {} []) = rxPreamble ∧ rxState (radio 3 { len := some 20 } []) = rxPayload ∧ away (radio 3 {} []) 5 = false
    ∧ ospArmed (radio 1 {} [{ rxOp with started := true }]) = some { rxOp with started := true } ∧ opWord rxOp 8 ≠ 0#32
    ∧ rxProfile (radio 0 {} [{ rxOp with started := true }]) = some 3 ∧ inReset live 8 = false ∧ isSet live F.OSP_STAT_SCLK_OK = false
    ∧ ospArmed live = none ∧ away State.reset 8 = true := by decide +kernel

/-- A running unit whose CAN controller 3 is in state `st` as `x`, with these operations. -/
def canAt (st : Nat) (x : Can) (ops : List Op) : State := { withF live [(F.CAN_STAT_STATE 3, st), (F.SFQ_CFG_EN 9, 1), (F.SFQ_CFG_PROD 9, 0x13),
    (F.SFQ_CFG_CONS 9, 1)] with vbu := { can := [(3, x)] }, ops := ops }

/-- A CAN frame of two bytes with ID 0x123 on channel 3; an arm of FIFO 9; a control with function `f`. -/
def canTx : Op := { tag := 1, ctx := 0, sq := 0, words := [0x03000010#32, 0#32, 2#32, 0#32, 0x123#32, 0x102#32, 0#32, 0#32] }
def canArm : Op := { tag := 1, ctx := 0, sq := 0, words := [0x03000011#32, 0#32, 64#32, 0#32, 0x123#32, 0x7FF#32, 0#32, 0#32, 0x109#32, 0#32, 5#32] }
def canCtl (f a b v : BitVec 32) : Op := { tag := 1, ctx := 0, sq := 0, words := [0x03000012#32, 0#32, 0#32, 0#32, f, a, b, v] }

/-- The premises of `VbuOperations` on CAN channel 3. -/
theorem witness_VbuOperations : opOf (canAt 2 {} [canTx]) 1 = some canTx ∧ vbuKind canTx.words = 0 ∧ vbuChan canTx.words = 3
    ∧ txRefused (canAt 2 {} [canTx]) canTx.words = false ∧ txRefused (canAt 0 {} [canTx]) canTx.words = true
    ∧ (txData (canAt 2 {} [canTx]) canTx.words (.ok [1#8, 2#8])).2.isNone = true
    ∧ (List.range 32).find? (fun i => (sget i (can (canAt 2 {} [canTx]) 3).bufs).isNone) = some 0
    ∧ (List.range 32).all (fun i => (sget i (can (canAt 2 { bufs := (List.range 32).map (fun i => (i, ⟨i, 1, [], i, 0, 0#32, false⟩)) } [canTx]) 3).bufs).isSome)
    ∧ opcodeOf canArm = 0x11 ∧ vbuProd canArm.words = 0x13 ∧ opFld canArm 8 0 6 = 9 ∧ (armOf (canAt 2 {} [canArm]) 9).isNone = true
    ∧ armSlot (canAt 2 {} [canArm]) 0x13 9 = some 0 ∧ opWord canArm 10 ≠ 0#32
    ∧ opcodeOf (canCtl 1#32 0#32 0#32 0#32) = 0x12 ∧ opFld (canCtl 1#32 0#32 0#32 0#32) 4 0 8 = 1 ∧ canState (canAt 0 {} []) 3 = 0
    ∧ activeBuf (can (canAt 2 {} []) 3) = none ∧ canState (canAt 4 {} []) 3 = canBusOff
    ∧ opFld (canCtl 6#32 8#32 1#32 0#32) 6 0 4 = 1 ∧ opFld (canCtl 6#32 8#32 1#32 0#32) 5 0 12 = 8
    ∧ timingOk (withF (canAt 0 {} []) [(F.CAN_NBT_BRP_M1 3, 0), (F.CAN_NBT_TSEG1_M1 3, 119), (F.CAN_NBT_TSEG2_M1 3, 39), (F.CAN_NBT_SJW_M1 3, 39),
        (F.CAN_DBT_TSEG1_M1 3, 14), (F.CAN_DBT_TSEG2_M1 3, 3), (F.CAN_DBT_SJW_M1 3, 3)]) 3 = true := by decide +kernel

/-- The LIN premises of `VbuOperations`: a commander on channel 2 that publishes two bytes under ID 0x12. -/
theorem witness_VbuOperations_lin :
    let o : Op := { tag := 1, ctx := 0, sq := 0, words := [0x42000010#32, 0#32, 2#32, 0#32, 0x12#32, 2#32, 0#32, 0#32] }
    let s : State := { withF live [(F.LIN_CTL_EN 2, 1)] with ops := [o] }
    vbuKind o.words = 1 ∧ vbuChan o.words = 2 ∧ txRefused s o.words = false ∧ linResponder s 2 = false ∧ (lin s 2).q = [] ∧ (lin s 2).hdr = none
    ∧ away s 7 = false ∧ tapOwns s = false ∧ linResponder (withF s [(F.LIN_CTL_ROLE 2, 1), (F.LIN_RTAB_MODE 2 0x12, 1)]) 2 = true
    ∧ txRefused (withF s [(F.LIN_CTL_ROLE 2, 1), (F.LIN_RTAB_MODE 2 0x12, 1)]) o.words = false := by decide +kernel

/-- The premises of `CanEvents`: buffers PENDING and ACTIVE, each controller state, a slot for ID 0x123 and its FIFO. -/
theorem witness_CanEvents :
    let pend : TxBuf := ⟨1, 1, [1#8, 2#8], 0, 0, 0#32, false⟩
    let act : TxBuf := ⟨1, 2, [1#8, 2#8], 0, 1, 5#32, false⟩
    canState (canAt 1 {} []) 3 = 1 ∧ inReset (canAt 1 {} []) 7 = false ∧ canMaySend (canAt 2 { bufs := [(4, pend)] } [canTx]) 3 = true
    ∧ activeBuf (can (canAt 2 { bufs := [(4, act)] } [canTx]) 3) = some (4, act) ∧ txRetry (wordsOf (canAt 2 {} [canTx]) 1) = 0
    ∧ isSet (canAt 2 {} []) (F.CAN_TEST_FREEZE 3) = false ∧ (can (canAt 3 { tec := 248 } []) 3).tec + 8 = 256
    ∧ canReceives (canAt 2 {} []) 3 = true ∧ slotFor (canAt 2 {} []) 0x13 0x123 false = none
    ∧ (let s := wr (wr (wr (canAt 2 {} []) (R.CAN_FLT_ID 3 7) 0x80000123#32) (R.CAN_FLT_MASK 3 7) 0x3FFFFFFF#32) (R.CAN_FLT_FIFO 3 7) 0x109#32
      slotFor s 0x13 0x123 false = some 7 ∧ extractBits (rd s (R.CAN_FLT_FIFO 3 7)) 0 6 = 9 ∧ isSet s (F.SFQ_CFG_EN 9) = true
      ∧ getf s (F.SFQ_CFG_PROD 9) = 0x13 ∧ away s 5 = false)
    ∧ canState (canAt 4 {} []) 3 = canBusOff ∧ away (canAt 4 {} []) 7 = false ∧ canState (canAt 5 {} []) 3 = canRecovering
    ∧ opOf (canAt 5 { recs := [1] } [canTx]) 1 = some canTx ∧ away State.reset 7 = true := by decide +kernel

/-- The premises of `LinAndSentEvents`: a responder with data, a commander's subscribe, and a SENT frame of three nibbles at a 3 µs tick. -/
theorem witness_LinAndSentEvents :
    (let s : State := { withF live [(F.LIN_CTL_EN 2, 1), (F.LIN_CTL_ROLE 2, 1), (F.LIN_DIV_DIV 2, 1000), (F.LIN_RTAB_MODE 2 0x12, 1)] with
        vbu := { lin := [(2, { data := [(0x12, [7#8])] })] } };
      linEn s 2 = true ∧ linResponder s 2 = true ∧ inReset s 7 = false ∧ 100 * (1140 - getf s (F.LIN_DIV_DIV 2)) ≤ 14 * 1000
      ∧ getf s (F.LIN_RTAB_MODE 2 0x12) = 1 ∧ sget 0x12 (lin s 2).data = some [7#8] ∧ away s 7 = false ∧ tapOwns s = false)
    ∧ (let o : Op := { tag := 1, ctx := 0, sq := 0, words := [0x42000010#32, 0#32, 2#32, 0#32, 0x40000012#32, 2#32, 0#32, 0#32] };
      let s : State := { withF live [(F.LIN_CTL_EN 2, 1)] with ops := [o], vbu := { lin := [(2, { q := [{ op := 1, data := [] }], hdr := some ⟨0x12, false, 0#32, 0#32⟩ })] } };
      opOf s 1 = some o ∧ txRtr o.words = true ∧ (lin s 2).hdr.isSome = true ∧ linResponder s 2 = false ∧ max 1 (txRetry o.words) ≤ 0 + 1)
    ∧ (let s := withF live [(F.SENT_CTL_EN 7, 1), (F.SENT_TICK_TICK_NS 7, 3000), (F.SENT_FLT_FAST 7, 1), (F.SENT_FLT_FIFO 7, 9), (F.SFQ_CFG_EN 9, 1),
        (F.SFQ_CFG_PROD 9, 0x37)];
      isSet s (F.SENT_CTL_EN 7) = true ∧ ¬ (2 * (25 * 13440 - 112 * 3000) > 56 * 3000)
      ∧ ([2880, 3120, 3360, 3600, 2880].map (sentNibble 13440)) = [0, 1, 2, 3, 0]
      ∧ (sent s 7).cal = none ∧ getf s (F.SENT_CTL_SERIAL 7) = 0 ∧ getf s (F.SENT_FLT_FIFO 7) = 9 ∧ getf s (F.SFQ_CFG_PROD 9) = 0x37 ∧ away s 5 = false) := by
  decide +kernel

/-- Domain 22 fenced at a stage of its reset under source 5, in `live`. -/
def fencedAt (f : Fence) (h : List Nat) : State :=
  { setDomBit (setDomBit live R.RST_DOM_FENCED 22 true) R.RST_DOM_INRST 22 (f == .released || f == .reset) with
    doms := sput 22 { fence := f, holders := h, resetBy := some 5, powered := true } live.doms }

/-- The premises of `DomainFencesAndResets`. -/
theorem witness_DomainFencesAndResets : (dom live 22).powered = true ∧ hoKeeps live 22 = false ∧ fenced live 22 = false ∧ rd live R.RST_DOM_HOLD = 0#32
    ∧ (let k := { withF (fencedAt .ready []) [(F.RST_DOM_HOLD_HOLD, 2 ^ 22)] with enu := {} }
      rd k R.RST_DOM_HOLD = w32 (2 ^ 22) ∧ fenced k 22 = true ∧ (dom k 22).holders = [] ∧ (dom k 22).fence = .ready ∧ k.ho = none ∧ k.bst.ret = none)
    ∧ (dom (fencedAt .drain [5]) 22).fence = .drain ∧ (dom (fencedAt .drained [5]) 22).fence = .drained ∧ (dom (fencedAt .drained [5]) 22).resetBy ≠ none
    ∧ (fencedAt .drained [5]).pwr.warm = 0 ∧ (dom (fencedAt .aborted [5]) 22).fence = .aborted ∧ bstPhase (fencedAt .aborted [5]) ≠ 3
    ∧ (dom (fencedAt .reset [5]) 22).fence = .reset ∧ inReset (fencedAt .released [5]) 22 = true ∧ softHold (fencedAt .released [5]) 22 = false
    ∧ isResetSource 5 = true ∧ fenced (fencedAt .released [7]) 22 = true ∧ (bank live 7).march = 0 := by decide +kernel

/-- `live` in RUN, its watchdog on with an expiry at time 0, and RESET_CMD allowed. -/
def running : State := { withF (onChain 3 5) [(F.KIT_WDT_CTL_EN, 1), (F.RST_CTL_WDT_ESC, 1), (F.RST_CTL_CHN_RST_EN, 1)] with
  pwr := { stage := .run, wdtLast := some 0 }, kite := { run := true } }

/-- The premises of `UnitResets`. -/
theorem witness_UnitResets : running.pwr.warm = 0 ∧ running.pwr.stage = .run ∧ inReset running 20 = false ∧ isSet running F.KIT_WDT_CTL_EN = true
    ∧ running.kite.run = true ∧ (dom running 20).resetBy = none ∧ isSet running F.RST_CTL_WDT_ESC = true ∧ running.clk - 0 < 1000000000
    ∧ extractBits (mw ⟨9, 0, 5, [0#32, 0xC0DE#32], []⟩ 1) 0 16 = 0xC0DE ∧ takesDst running 5 = true ∧ portUp running 0 = true
    ∧ isSet running F.RST_CTL_CHN_RST_EN = true ∧ isSet (withF running [(F.RST_CTL_CHN_RST_EN, 0)]) F.RST_CTL_CHN_RST_EN = false
    ∧ running.pwr.rstN = false ∧ bit running.pwr.railsOff 2 = false ∧ State.reset.pwr.stage = .hold ∧ railsGood State.reset = true
    ∧ bit running.pwr.railsOff 1 = false ∧ bit running.pwr.railsOff 4 = false ∧ bit running.pwr.railsOff 15 = false
    ∧ (bank { live with banks := [(7, { st := 2 })] } 7).st = 2 ∧ (dom running 0).powered = true ∧ (bank running 0).march = 0 ∧ (bank running 0).st ≠ 3 := by
  decide +kernel

/-- `live` at a stage of Table 3-9 with an image loaded, every wake source enabled, and BANK7 kept through SLEEP. -/
def staged (g : PStage) (img : List Byte) : State :=
  { withF live [(⟨R.PWR_WAKE_EN, 0, 6⟩, 63), (F.PWR_WAKE_TIMER_MS, 1), (F.PWR_SLEEP_BANKS_RET, 128), (F.LIN_SWK_EN 15, 1), (F.CAN_SWK_CTL_EN 15, 1),
      (F.CAN_SWK_CTL_FEC_WAKE 15, 1), (F.CAN_SWK_CTL_FEC_MAX 15, 0), (F.CAN_SWK_CTL_SWK_DLC 15, 0), (F.CFG_SEQ_STAT_DONE, 1)] with
    pwr := { stage := g, tone := true }, fab := { image := img } }

/-- The premises of `IdleAndSleep`. -/
theorem witness_IdleAndSleep : (staged .run [0#8]).ho = none ∧ (staged .run [0#8]).fab.image ≠ [] ∧ (staged .idle []).fab.image = []
    ∧ fenceDone { staged .idleEntry [0#8] with doms := [(11, { fence := .aborted, powered := true })] } 11 = true ∧ (staged .idleEntry [0#8]).pwr.targetPend = none
    ∧ (let k := { staged .idleExit [0#8] with doms := [(11, { fence := .aborted, holders := [7], powered := true })] }
      k.pwr.wq = [] ∧ k.fab.seqPh = 0 ∧ isSet k F.CFG_SEQ_STAT_DONE = true ∧ k.ho = none ∧ k.bst.ret = none ∧ softHold k 11 = false
      ∧ (dom k 11).resetBy = none)
    ∧ allFenced { staged .sleepEntry [0#8] with doms := [] } = true ∧ (staged .sleepEntry [0#8]).pwr.wakeLate = false
    ∧ bit (getf (staged .sleepEntry [0#8]) F.PWR_SLEEP_BANKS_RET) 7 = true ∧ (bank (staged .sleepEntry [0#8]) 7).st = 1
    ∧ (bank (staged .sleepEntry [0#8]) 7).march = 0 ∧ railsGood (staged .sleep []) = true
    ∧ (∀ k < 6, bit (rd (staged .sleep []) R.PWR_WAKE_EN).toNat k = true) ∧ getf (staged .sleep []) F.PWR_WAKE_TIMER_MS ≠ 0
    ∧ isSet (staged .sleep []) (F.LIN_SWK_EN 15) = true ∧ bit (staged .sleep []).pwr.railsOff 11 = false ∧ swkOn (staged .sleep []) 15 = true
    ∧ isWuf (staged .sleep []) 15 0 false 0 [] = true ∧ isWuf (staged .sleep []) 15 0 false 1 [] = false
    ∧ getf (staged .sleep []) (F.CAN_SWK_CTL_FEC_MAX 15) ≤ getf (staged .sleep []) (F.CAN_SWK_SRC_FEC_CNT 15)
    ∧ isSet (staged .sleep []) (F.CAN_SWK_CTL_FEC_WAKE 15) = true ∧ isSet (withF live []) (F.CAN_SWK_CTL_FEC_WAKE 15) = false
    ∧ bit (rd (withF live [(⟨R.PWR_WAKE_EN, 0, 6⟩, 0)]) R.PWR_WAKE_EN).toNat 2 = false ∧ (staged .sleep []).pwr.tone = true := by decide +kernel

/-- The premises of `StagedStart`. -/
theorem witness_StagedStart : (staged .s0 []).pwr.test = false ∧ (staged .grantWait []).pwr.stage = .grantWait
    ∧ isSet (withF live [(F.PWR_GRANT_CTL_TIMEOUT, 1)]) F.PWR_GRANT_CTL_TIMEOUT = true ∧ (staged .s1 []).pwr.gq = [] ∧ (staged .s1 []).pwr.cfgsrc = 0
    ∧ planeValid (withF (staged .s1 []) [(F.CFG_STAT_VALID, 3)]) (getf (staged .s1 []) F.CFG_STAT_BOOT) = true
    ∧ (let k := { live with boot := { path := [0, 1], run := true } }
      bootReady k = true ∧ bootReason k ≠ 0 ∧ getf k F.CFG_BOOT_LOG_FAILS < 4)
    ∧ recovery (withF live [(F.PWR_STAT_RECOVERY, 1)]) = true ∧ (staged .s3 []).pwr.targetPend = none ∧ (staged .s4 []).ho = none
    ∧ isSet live F.PWR_STAT_GRANT_OUT = false
    ∧ (bank { live with banks := [(7, { march := 1, marchOp := some 2 })] } 7).march ≠ 0 ∧ (bank { live with banks := [(7, { march := 1 })] } 7).march ≠ 2
    ∧ (opOf bankWork 2).isSome = true := by decide +kernel

/-- A CFG_STAGE from BANK5 to plane B that comes next, both planes VALID, running on plane A, with a stage or a handover under way. -/
def cfgWork (code : W32) (g : Option Stage) (h : Option Ho) : State := { withF live [(F.CFG_STAT_VALID, 3), (F.CFG_STAT_SRC_PLANE, 1)] with
  ops := [{ tag := 1, ctx := 0, sq := 0, words := [code, 0#32, 0x1240#32, 0#32, if code = 0x70#32 then 0x500000#32 else 0xFF01#32, 0#32, 0x11#32] }],
  stage := g, ho := h, fab := { image := [0#8] } }

/-- The premises of `StagingAndHandover`. -/
theorem witness_StagingAndHandover : ((cfgTurn (cfgWork 0x70#32 none none) 1 0x70).map (fun o => (stPlane o, stKind o, stageRangeOk o))) = some (1, 1, true)
    ∧ activePlane (cfgWork 0x70#32 none none) 1 = false ∧ activePlane (cfgWork 0x70#32 none none) 0 = true ∧ getf (cfgWork 0x70#32 none none) (F.CFG_WEAR_WEAR 1) < 1000000
    ∧ ((cfgTurn (cfgWork 0x71#32 none none) 1 0x71).map (fun o => opFld o 4 0 1)) = some 1 ∧ planeValid (cfgWork 0x71#32 none none) 1 = true
    ∧ planeValid live 1 = false ∧ fenced (cfgWork 0x71#32 none none) 11 = false ∧ (bank live 7).st = 1 ∧ bit (extractBits 0xFF01#32 8 8) 7 = true
    ∧ (let g : Stage := { tag := 1, plane := 1, ph := 2, buf := [0#8], frames := 1 }
      let k := cfgWork 0x70#32 (some g) none
      (opOf k g.tag).map (fun o => (stageServed k o, (stageBytes k o 1 4096 .failed).isSome)) = some (true, true) ∧ g.frames ≠ imgFrameCnt g.buf)
    ∧ isSet (cfgWork 0x71#32 none none) F.CFG_STAT_SRC_PLANE = true
    ∧ (let k : State := { live with fab := { image := List.replicate 32 0#8 ++ [1#8, 0#8, 0#8, 0#8, 2#8], seqPh := 1 } }
      atStep k 1 = true ∧ atStep (withF k [(F.CFG_SEQ_STAT_INDEX, 1)]) 2 = true ∧ stStep (imgStart k.fab.image 1) = 2)
    ∧ (bank { live with banks := [(7, { st := 3, target := 2, before := 1, forOp := some 1 })] } 7).st = 3
    ∧ regAway live R.CFG_BOOT_SEL = false := by decide +kernel

/-- A formatted depot of 512 sectors: slot 0 PRIMARY of 2 sectors, slot 3 DATA of 1. -/
def depotOn : State := { withF live [(F.DEP_STAT_PRESENT, 1), (F.DEP_STAT_FORMATTED, 1), (F.DEP_FLASH_SECTORS, 512)] with
  dep := { discovered := true, dir := { gen := 4, sectors := 512, slots := [(0x00021002#32, 0#32), (0#32, 0#32), (0#32, 0#32), (0x00014008#32, 0#32)] } } }

/-- A depot operation of 4 bytes at BANK1, in state `s`. -/
def depotOp (s : State) (code mode slot arg : Nat) : State := { s with
  ops := [{ tag := 9, ctx := 0, sq := 0,
            words := [w32 code, 0#32, 4#32, 0#32, 0x100000#32, 0#32, w32 (mode + 16 + slot * 256), w32 arg] }] }

/-- The premises of `DepotOperations`. -/
theorem witness_DepotOperations :
    let at_ (s : State) (code mode slot arg : Nat) : Bool := (depOp (depotOp s code mode slot arg) 9 code mode).isSome
    at_ depotOn 0x78 0 0 0 = true ∧ at_ depotOn 0x78 1 3 8 = true ∧ at_ depotOn 0x78 2 1 0 = true ∧ at_ depotOn 0x78 3 0 0 = true
    ∧ at_ depotOn 0x79 0 3 0 = true ∧ at_ depotOn 0x79 1 0 0 = true ∧ at_ depotOn 0x79 2 0 0 = true
    ∧ depotUsable depotOn = true ∧ depotUsable live = false ∧ isSet live F.DEP_STAT_PRESENT = false
    ∧ slKind (slotW0 depotOn 0) = 1 ∧ slKind (slotW0 depotOn 1) = 0 ∧ slKind (slotW0 depotOn 3) = 4 ∧ slKind 0x00022002#32 = 2
    ∧ depotFree (withF depotOn [(F.LCY_STATE_STATE, 3)]) = false ∧ depotFree (withF depotOn [(F.LCY_STATE_STATE, 4)]) = true
    ∧ (match depData live { tag := 9, ctx := 0, sq := 0, words := [0x78#32, 0#32, 4#32, 0#32, 0x100000#32, 0#32, 0#32] } (.ok (leBytes 4 7)) with
      | .ok d => d == leBytes 4 7
      | .error _ => false) = true
    ∧ headerErr true [] = true ∧ slotCap depotOn 3 = 0x10000 ∧ (spanGood depotOn 3)[8 / 0x10000]? = some 8 ∧ (sget 8 depotOn.dep.dir.ecnt).getD 0 < depotOn.dep.dir.eraseLimit
    ∧ depotOn.dep.jobs = [] ∧ depotOn.dep.bg = none ∧ tapOwns depotOn = false ∧ (List.range 8).all (fun r => rngState depotOn r == 0) = true
    ∧ slotsOk 512 (depotOn.dep.dir.slots.set 1 (0x00014009#32, 0#32)) = true := by decide +kernel

/-- `depotOn` at its first request: `j`. -/
def depotAt (j : Job) : State := { depotOn with dep := { depotOn.dep with jobs := [j] } }

/-- The premises of `DepotFlashWork`. -/
theorem witness_DepotFlashWork :
    let w : Job := { kind := 5, op := some 9, st := 3, sector := 8, data := List.replicate 512 0#8, todo := [.dir] }
    let e : Job := { w with st := 1, todo := [.write 3 0 [], .dir] }
    let o : Op := { tag := 9, ctx := 0, sq := 0, words := [0x79#32, 0#32, 4#32, 0#32, 0x100000#32, 0#32, 0x111#32] }
    let r : State := { depotAt { kind := 4, op := some 9, slot := 3, len := 4 } with ops := [o] }
    let b : Job := { kind := 1, units := 1, buf := List.replicate 512 1#8, tries := 3 }
    let img : State := { depotOn with dep := { depotOn.dep with bg := some { kind := 6 }, dir := { depotOn.dep.dir with slots := [(0x00021002#32, 0x1240#32)] } } }
    (curJob (depotAt w)).map (·.2.st) = some 3 ∧ tapOwns (depotAt w) = false ∧ pages w.data.length = 2 ∧ (curJob (depotAt e)).map (·.2.st) = some 1
    ∧ e.data ≠ [] ∧ opOf r 9 = some o ∧ r.regDue = [] ∧ r.regPart = none ∧ dpMode o = 1 ∧ dpSpace o = true ∧ dpSpace { o with words := [] } = false
    ∧ isMember r = false ∧ dpAddr o + 4 ≤ 0x800000 ∧ accessErr r (dpAddr o + 3) true = none ∧ slKind (slotW0 r 3) ≠ 5
    ∧ unitCrcOk b.buf 1 [1#8] = false ∧ unitCrcOk b.buf 1 [] = true ∧ slotLen img 0 ≠ 0 ∧ (b.buf ++ []).length < imgLen (b.buf ++ [])
    ∧ img.dep.jobs = [] ∧ slKind (slotW0 img 0) ≠ 5 ∧ (slotUnit img 0 (slotLen img 0) 0 0 (slotLen img 0 / 4672 + 1)).map (·.1) = some 0 := by
  decide +kernel

/-- The premises of `DepotDiscoveryAndScrub`: a flash of 1,024 sectors with and without a directory; a scrub of slot 0. -/
theorem witness_DepotDiscoveryAndScrub :
    let r : State := { live with pwr := { live.pwr with stage := .run } }
    let img : State := { withF depotOn [(F.DEP_CTL_SCRUB_EN, 1), (F.DEP_CTL_REFRESH_EN, 1), (F.DEP_STAT_SUSPEND, 1)] with
      dep := { depotOn.dep with weak := [(0, 0)], dir := { depotOn.dep.dir with slots := [(0x00021002#32, 0x1240#32)] } } }
    discoveryDue r = true ∧ r.boot.run = false ∧ (List.range 8).all (fun k => decide (rngState r k ≤ 1)) = true
    ∧ (dirChoose (some (dirDefault 512 1)) (some (dirDefault 512 2))).map (·.1) = some 1 ∧ dirParse 1024 [] = none
    ∧ away img 21 = false ∧ depotUsable img = true ∧ isSet img F.DEP_CTL_SCRUB_EN = true ∧ img.dep.jobs = [] ∧ img.dep.bg = none
    ∧ scrubbable img 0 = true ∧ isSet img F.DEP_CTL_REFRESH_EN = true ∧ isSet img F.DEP_STAT_SUSPEND = true ∧ tapOwns img = false
    ∧ img.dep.weak.find? (fun p => !img.dep.lost.contains p.1) = some (0, 0) ∧ weakSectors img 0 0 = [2] := by decide +kernel

/-- The premises of `ChainLoading`: a waiting unit, the head with a CHAIN slot, and a unit that carries round 5. -/
theorem witness_ChainLoading :
    let w : State := { onChain 3 5 with boot := { run := true, path := [4] }, load := { waiting := true, reqs := 1, tries := 1 } }
    let dep : Dep := { depotOn.dep with dir := { depotOn.dep.dir with slots := [(0x00023002#32, 0x1240#32)] } }
    let h : State := { withF (onChain 2 0) [(F.DEP_STAT_PRESENT, 1), (F.DEP_STAT_FORMATTED, 1)] with dep := dep, load := { pending := 1 } }
    let c : State := { onChain 3 5 with load := { round := some 5, rxSeq := 7, unacked := 3, sent := [(6, 1, [0#8]), (7, 4, [1#8])] } }
    let m (q : Nat) (d : List Byte) : Msg := ⟨0x43, 0, toNext, [0x50000#32, w32 q, w32 d.length, crc32c d], d⟩
    servesImages w = false ∧ servesImages h = true ∧ chainSlot h = some 0 ∧ chainSlot (onChain 2 0) = none ∧ h.load.round = none ∧ away h 21 = false
    ∧ h.dep.jobs = [] ∧ h.dep.bg = none ∧ chainBoot w = true ∧ portUp w 0 = true ∧ portUp c 1 = true ∧ msgRound (m 7 []) = 5 ∧ away c 21 = false
    ∧ crc32c [3#8] = mw (m 7 [3#8]) 3 ∧ 1 = extractBits (mw (m 7 [3#8]) 2) 0 13 ∧ crc32c [3#8] ≠ mw (m 7 [4#8]) 3 ∧ c.load.rxBad = false
    ∧ (c.load.sent.all (fun x => decide (x.1 < 8) || decide (x.2.1 < 4))) = true ∧ c.load.sent.any (fun x => decide (7 ≤ x.1 ∧ 4 ≤ x.2.1)) = true
    ∧ chainBoot c = false ∧ c.load.outBuf = [] ∧ c.load.dead = false ∧ c.load.ended = false := by decide +kernel

/-- A depot with a KIND 5 slot for range 1 of 1 sector in slot 2, and SCR_ARG for it with the tag span at sector 20. -/
def scrOn : State := { withF depotOn [(F.SCR_ARG_DSLOT, 2), (F.SCR_ARG_TAG_FIRST, 20), (F.SCR_ARG_TAG_SPAN, 1), (F.SCR_KSLOT_STATE 3, 1)] with
  dep := { depotOn.dep with dir := { depotOn.dep.dir with slots := [(0#32, 0#32), (0#32, 0#32), (0x10015002#32, 0#32)] } } }

/-- The premises of `ScramblerCommands`. -/
theorem witness_ScramblerCommands :
    let b := withF scrOn [(F.SCR_RNG_CTL_STATE 1, 1), (F.SCR_RNG_CTL_DSLOT 1, 2), (F.SCR_RNG_CTL_KSLOT 1, 0)]
    away scrOn 21 = false ∧ away State.reset 21 = true ∧ isSet scrOn F.SCR_STAT_BUSY = false ∧ isSet (withF scrOn [(F.SCR_STAT_BUSY, 1)]) F.SCR_STAT_BUSY = true
    ∧ getf scrOn (F.SCR_KSLOT_STATE 3) = 1 ∧ getf scrOn (F.SCR_KSLOT_STATE 15) = 0 ∧ rngState scrOn 1 = 0 ∧ rngState b 1 = 1
    ∧ depotUsable scrOn = true ∧ depotUsable live = false ∧ slKind (slotW0 scrOn 2) = 5 ∧ slRange (slotW0 scrOn 2) = 1 ∧ tagSpanOk scrOn 20 1 = true
    ∧ tagSpanOk scrOn 1 1 = false ∧ scrOn.dep.dir.bad = [] ∧ (sget 20 scrOn.dep.dir.ecnt).getD 0 < scrOn.dep.dir.eraseLimit
    ∧ (spanGood scrOn 2).length ≤ 8 * 1 ∧ scrOn.dep.jobs = [] ∧ scrOn.dep.bg = none ∧ tapOwns scrOn = false
    ∧ spanGood b (rngSlot b 1) = [2] ∧ getf b (F.SCR_RNG_CTL_KSLOT 1) ≠ 3 := by decide +kernel

/-- `live` with the key sequence at `q`, opened by the host, and `cmd` armed. -/
def nvAt (q cmd : Nat) : State := { withF live [(F.NVA_STAT_SEQ, q)] with nva := { cmd := cmd } }

/-- An erase of block 1 on the engine. -/
def nvErase (q cmd susp : Nat) : State := { nvAt q cmd with nva := { cmd := cmd, run := some { code := 4, addr := 0x10000 }, susp := susp } }

/-- The premises of `NvaSequenceAndTriggers`. -/
theorem witness_NvaSequenceAndTriggers :
    away live 9 = false ∧ nvForeign (nvAt 1 0) .kite = true ∧ nvForeign (nvAt 1 0) .host = false ∧ getf (nvAt 3 1) F.NVA_STAT_SEQ = 3
    ∧ getf (nvAt 2 1) F.NVA_STAT_SEQ = 2 ∧ getf (nvAt 0 1) F.NVA_STAT_SEQ = 0
    ∧ nvCheck (nvAt 3 1) 1 (rd (nvAt 3 1) R.NVA_ADDR).toNat = none ∧ lineErased (nvAt 3 1) 0 = true
    ∧ lineErased { nvAt 3 1 with nv := [(0, 0#8)] } 0 = false ∧ nvCheck (nvAt 3 1) 1 8 = some 3 ∧ nvCheck (nvAt 3 4) 4 0x800000 = some 4
    ∧ nvCheck (nvAt 3 2) 2 0x7FFF00 = none ∧ pageSrcOk 0x7FFF00 = true ∧ pageSrcOk 0x800000 = false ∧ nvCheck (nvAt 3 3) 3 0x7FF000 = none
    ∧ nvCheck (nvAt 3 4) 4 0x7F0000 = none ∧ 0 / 4096 ∉ nvSectors { code := 4, addr := 0x7F0000 } ∧ (nvErase 3 5 0).nva.run ≠ none
    ∧ (nvErase 3 6 2).nva.susp = 2 ∧ (nvErase 3 6 2).nva.below = none ∧ isSet live F.NVA_WP_LOCK_LOCK = false
    ∧ isSet (withF live [(F.NVA_WP_LOCK_LOCK, 1)]) F.NVA_WP_LOCK_LOCK = true := by decide +kernel

/-- An array operation of `n` bytes or units at `off` on CTX0, tag 4; its other address is 0. -/
def nvOpAt (s : State) (code n off w7 : Nat) : State :=
  { s with ops := [{ tag := 4, ctx := 0, sq := 0, words := [w32 code, 0#32, w32 n, 0#32, 0#32, 0#32, w32 off, w32 w7] }] }

/-- The premises of `NvaEngineWork`. -/
theorem witness_NvaEngineWork :
    let p (c : Nat) (l : Bool) (n : Nat) : State := { live with nva := { run := some { code := c, addr := 0x7FFF00, data := List.replicate n 1#8, latch := l } } }
    let e (req susp : Nat) : State := { live with nva := { run := some { code := 4, addr := 0x10000 }, req := req, susp := susp } }
    let q := withF live [(F.NVA_SCRUB_CTL_SCRUB_EN, 1)]
    let o (s : State) : Op := s.ops.headD { tag := 0, ctx := 0, sq := 0, words := [] }
    let x := { nvOpAt live 0x52 32 0 0 with regs := (withF live [(F.HIF_STAT_LINK_UP, 1), (F.HIF_STAT_BME, 1), (⟨R.NVA_XO 0, 31, 1⟩, 1)]).regs }
    (p 2 true 0).nva.below = none ∧ accessErr (p 2 true 0) 255 false = none ∧ accessErr (p 2 true 0) 0x800000 false = some .hole
    ∧ nvByte (p 2 false 256) 0x7FFFFF = 0xFF#8 ∧ 16 * (15 : Fin 16).val < 256 ∧ guardOk (e 2 0) { code := 4, addr := 0x10000 } = true
    ∧ nvWaits live 524287 = false ∧ nvWaits (e 0 0) 4096 = true ∧ nvScrubOn q = true ∧ scrubLineOk q q.nva.line = true
    ∧ (nvTurn (nvOpAt live 0x50 16 0 0) 4 0x50).isSome = true ∧ nvOff (o (nvOpAt live 0x50 16 0x7FFFF0 0)) = 0x7FFFF0
    ∧ (nvTurn (nvOpAt live 0x50 16 8 0) 4 0x50).isSome = true ∧ nvCheck live 1 0x7FFFF0 = none ∧ lineErased live 0x7FFFF0 = true
    ∧ nvCheck (withF live [(F.NVA_WP_SET_W 0, 1)]) 1 0 = some 5 ∧ (nvTurn (nvOpAt live 0x51 1 0 2) 4 0x51).isSome = true ∧ nvCheck live 4 0 = none
    ∧ nvDspace (o (nvOpAt live 0x52 32 0 1)) = true ∧ xoLines (nvOpAt live 0x52 32 0 1) 0 32 = [] ∧ accessErr live 31 true = none
    ∧ (nvLines 0 32).find? (nvWaits x) = none ∧ xoLines x 0 32 = [0, 1] ∧ nvDspace (o x) = false ∧ hostReach x = true ∧ isMember x = false
    ∧ x.regDue = [] ∧ x.regPart = none ∧ away x 9 = false := by decide +kernel

/-- Kite runs with the instruction `w` at address 0 and x5 = 0x00100002. -/
def kiteOn (w : W32) : State :=
  { putBytes live 0 (leBytes 4 w.toNat) with kite := { run := true, pc := 0#32, x := [(5, 0x100002#32)] } }

/-- The words of `KiteRunsInstructions` as the RISC-V ISA encodes them, at address 0, and the premises that go with them: MUL x1,x5,x6;
ADDI x1,x5,7; LUI; AUIPC; JAL x1,8; JALR x1,4(x5); BNE x5,x0,8; LW x1,2(x5) and LW x1,0(x5); SW x5,2(x5); ECALL; MRET. -/
theorem witness_KiteRunsInstructions : kiteFree (kiteOn 0#32) = true ∧ accessErr (kiteOn 0#32) 0 false = none ∧ accessErr (kiteOn 0#32) 2 false = none
    ∧ (kiteWord (kiteOn 0x026280B3#32)).toNat % 4 = 3 ∧ kdecode (kiteWord (kiteOn 0x026280B3#32)) = some (.alu .mul 1 5 6)
    ∧ kdecode 0x00728093#32 = some (.aluImm .add 1 5 7#32) ∧ kdecode 0xFFFFF0B7#32 = some (.lui 1 0xFFFFF000#32)
    ∧ kdecode 0x00001097#32 = some (.auipc 1 0x1000#32) := by decide

/-- The rest of the words, and the addresses of `KiteRunsInstructions`. -/
theorem witness_KiteRunsInstructions_rest : kdecode 0x004280E7#32 = some (.jalr 1 5 4#32)
    ∧ kdecode 0x0022A083#32 = some (.load 2 1 5 2#32) ∧ kdecode 0x0002A083#32 = some (.load 2 1 5 0#32)
    ∧ kdecode 0x0052A123#32 = some (.store 2 5 5 2#32) ∧ kdecode 0x00000073#32 = some .ecall ∧ kdecode 0x30200073#32 = some .mret
    ∧ (kx (kiteOn 0#32) 5 + 2#32).toNat % 4 = 0 ∧ (kx (kiteOn 0#32) 5).toNat % 4 ≠ 0 ∧ accessErr (kiteOn 0#32) 0x100004 true = none := by decide

theorem witness_KiteRunsInstructions_jumps : kdecode 0x008000EF#32 = some (.jal 1 8#32) ∧ kdecode 0x00029463#32 = some (.branch 1 5 0 8#32) :=
  by decide +kernel

/-- The timer is due, alone and enabled: `KiteRunsInstructions` on interrupts. -/
theorem witness_KiteInterrupt : let s := { kiteOn 0#32 with kite := { (kiteOn 0#32).kite with mie := true, ie := 0x80#32, time := 25 * 2 ^ 64 - 1 } }
    kiteRuns s = true ∧ timerDue s = true ∧ kpending s = some 7 ∧ kiteRuns State.reset = false := by decide

/-- Kite's monitor runs and H2K holds command `n`. -/
def mailOn (n : Nat) : State := withF live [(F.KIT_STAT_MODE, 2), (F.KIT_MBX_H2K_CTL_FULL, 1), (⟨R.KIT_MBX_H2K_W 0, 0, 32⟩, n)]

/-- The premises of `KiteMailbox`. -/
theorem witness_KiteMailbox : regAway live R.KIT_MBX_H2K_CTL = false ∧ regAway live R.KIT_MBX_K2H_CTL = false
    ∧ isSet live F.KIT_MBX_H2K_CTL_FULL = false ∧ isSet live F.KIT_MBX_K2H_CTL_FULL = false ∧ getf live F.KIT_STAT_MODE ≠ 2
    ∧ isSet (mailOn 1) F.KIT_MBX_H2K_CTL_FULL = true ∧ isSet (withF live [(F.KIT_MBX_K2H_CTL_FULL, 1)]) F.KIT_MBX_K2H_CTL_FULL = true
    ∧ serves (mailOn 0x101) 1 = true ∧ serves (mailOn 2) 2 = true ∧ serves (mailOn 3) 3 = true ∧ serves (mailOn 4) 4 = true
    ∧ (mailOn 3).kite.chkTag = none ∧ (mailOn 3).kite.chk = none := by decide

/-- Kite's firmware runs with the TAG and NIGHTLY duties and context 0 of its own, BANK3 alone ON; the ring of context 0 is full or empty. -/
def dutyOn (ci : Nat) : State :=
  { withF live [(F.KIT_STAT_MODE, 1), (F.KIT_CTXS_COUNT, 1), (F.CTX_CTL_OWNER 0, 1), (F.CTX_STAT_STATE 0, 1), (F.CTX_CTL_SQ_LOG2 0, 4),
      (F.CTX_SQ_IDX_SQ_CI 0, ci)] with kite := { policy := 0x22#32, chk := some 3 }, banks := [(3, { st := 1 })] }

/-- The premises of `KiteServices`. -/
theorem witness_KiteServices : regAway live R.KIT_FW_CHK = false ∧ live.kite.chk = none ∧ (dutyOn 0).kite.chk = some 3
    ∧ (dutyOn 0).kite.chkTag = none ∧ (dutyOn 0).kite.romChk = false ∧ fwVerdict (dutyOn 0) 3 = 1 ∧ regAway live R.KIT_WDT_CTL = false
    ∧ isSet live F.KIT_WDT_CTL_EN = false ∧ isSet (withF live [(F.KIT_WDT_CTL_EN, 1)]) F.KIT_WDT_CTL_EN = true
    ∧ regAway live R.KIT_WDT_SVC = false ∧ regAway live R.KIT_MSIP = false ∧ duty live 5 = false ∧ duty live 1 = false
    ∧ duty (dutyOn 0) 5 = true ∧ duty (dutyOn 0) 1 = true ∧ kiteCtx (dutyOn 0) = some 0
    ∧ (List.range 8).filter (fun n => (bank (dutyOn 0) n).st == 1) = [3]
    ∧ (getf (dutyOn 0) (F.CTX_SQ_IDX_SQ_PI 0) + 1) % sqSize (dutyOn 0) 0 ≠ getf (dutyOn 0) (F.CTX_SQ_IDX_SQ_CI 0)
    ∧ (getf (dutyOn 1) (F.CTX_SQ_IDX_SQ_PI 0) + 1) % sqSize (dutyOn 1) 0 = getf (dutyOn 1) (F.CTX_SQ_IDX_SQ_CI 0) := by decide

/-- `live` with a personality in service, region 15 powered and trim window state `w`. -/
def fabAt (w : Nat) : State := { withF live [(F.FAB_STAT_STATE, 2), (F.FAB_STAT_RGN_ON, 0x8000), (F.FAB_ISL_LOCK_LOCK, 0x1000800)] with
  fab := { image := [0#8], trim := w, trimCtl := 0x1000#32, clocks := 0x1000000 } }

/-- The premises of `FabricTrimAndPace`. -/
theorem witness_FabricTrimAndPace :
    isSet (fabAt 1) F.FAB_TRIM_CTL_TRIM_EN = true ∧ isSet (withF (fabAt 1) [(F.FAB_TRIM_CTL_TRIM_EN, 0)]) F.FAB_TRIM_CTL_TRIM_EN = false
    ∧ trimSuspended (fabAt 1) = false ∧ trimSuspended live = true ∧ (true && isSet (withF (fabAt 1) [(F.FAB_TRIM_CTL_DEFER_EN, 1)]) F.FAB_TRIM_CTL_DEFER_EN) = true
    ∧ (fabAt 1).fab.trim = 1 ∧ (fabAt 2).fab.trim = 2 ∧ regionIsOn (fabAt 2) 15 = true ∧ (fabAt 2).fab.steps = []
    ∧ 0 < max 1 (extractBits (fabAt 2).fab.trimCtl 12 4) ∧ bit (fabAt 2).fab.alerts 15 = false ∧ bit 0x8000 15 = true
    ∧ bit (getf (fabAt 1) F.FAB_ISL_LOCK_LOCK) 24 = true ∧ bit (getf (fabAt 1) F.FAB_ISL_LOCK_LOCK) 11 = true ∧ bit (getf live F.FAB_ISL_LOCK_LOCK) 24 = false
    ∧ islPowered live 4 = true ∧ islPowered live 24 = false := by decide +kernel

/-- `fabAt` with user island 24's gates 0 and 4 used, one item in each, and socket 31 enabled. -/
def gatesAt (g : List (Nat × List Nat)) : State := { withF (fabAt 0) [(F.FAB_SOCK_EN 31, 1), (F.FAB_SOCK_CALL_EN 31, 1)] with
  fab := { (fabAt 0).fab with image := List.replicate 0x1E8 0#8 ++ [0x19#8, 0xD0#8, 0#8, 0#8, 0x11#8, 0#8, 0#8, 0#8], gates := g } }

/-- The premises of `FabricPorts`. -/
theorem witness_FabricPorts :
    let g := gatesAt [(192, [7]), (196, [8])]
    let full := gatesAt [(192, List.replicate 8 0), (196, List.replicate 8 0)]
    let o (st : Bool) : Op := { tag := 3, ctx := 0, sq := 0, words := [0x1F000040#32, 0#32, 0#32, 0#32, 9#32], started := st }
    gateUsed g 24 0 = true ∧ gateUsed g 24 4 = true ∧ bit g.fab.clocks 24 = true ∧ bit live.fab.clocks 24 = false ∧ gateDepth g 24 0 = 8
    ∧ gateItems g 24 0 = [7] ∧ gateItems g 24 4 = [8] ∧ gateDepth full 24 0 ≤ (gateItems full 24 0).length
    ∧ gateDepth full 24 4 ≤ (gateItems full 24 4).length ∧ gateItems live 24 0 = [] ∧ tapOwns g = false ∧ bit g.pwr.railsOff 15 = false
    ∧ g.fab.image ≠ [] ∧ isSet g (F.FAB_SOCK_EN 31) = true ∧ regionIsOn g 15 = true ∧ fabLive g = true
    ∧ sockReach 0x4FFFF0 true = false ∧ 0x7FFF00 % 256 + 16 * ((15 : Fin 16).val + 1) ≤ 256 ∧ bankErr g (0x7FFF00 / 0x100000) = none
    ∧ winServed g 31 = true ∧ winServed live 31 = false
    ∧ dEngsel (o false).words = 31 ∧ opcodeOf (o false) = 0x40 ∧ opOf { g with ops := [o true] } 3 = some (o true)
    ∧ (isSet live (F.FAB_SOCK_CALL_EN 31) && regionIsOn live 15 && fabLive live) = false
    ∧ ({ g with fab := { g.fab with wins := [(31, 0xFFFC, none)] } } : State).fab.wins.find? (fun p => p.1 == 31) = some (31, 0xFFFC, none) := by
  decide +kernel

/-- `live` with the timebase running and a TBU_STAMP of `action`. -/
def timeAt (action : Nat) (t : Tbu) : State := { withF live [(F.TBU_CTL_PPS_IN_EN, 1), (F.TBU_CTL_PPS_OUT_EN, 1)] with
  tbu := { t with run := true }, ops := [{ tag := 2, ctx := 0, sq := 0, words := [0x60#32, 0#32, 0#32, 0#32, w32 action, 5#32] }] }

/-- The premises of `TimebaseReferences`. -/
theorem witness_TimebaseReferences :
    let a := timeAt 0 {}
    (stampOp a 2 0).isSome = true ∧ (stampOp (timeAt 1 {}) 2 1).isSome = true ∧ (stampOp (timeAt 2 {}) 2 2).isSome = true
    ∧ (stampOp (timeAt 3 {}) 2 3).isSome = true ∧ getf a F.TBU_STAT_REF_USED = 0
    ∧ getf (withF a [(F.TBU_STAT_REF_USED, 2)]) F.TBU_STAT_REF_USED = 2 ∧ tbuState (withF a [(F.TBU_STAT_STATE, 2)]) = 2
    ∧ inReset a 10 = false ∧ isSet a F.TBU_CTL_PPS_IN_EN = true ∧ isSet a F.TBU_CTL_PPS_IN_EDGE = false ∧ a.tbu.lastEdge = none
    ∧ (totalNs a - (-1001000000) - 1000000000).natAbs ≤ 1000000 ∧ 1000000 < (totalNs a - 0 - 1000000000).natAbs ∧ isMember a = false
    ∧ a.tbu.step = none ∧ (timeAt 0 { step := some (-5) }).tbu.step = some (-5) ∧ isSet a F.TBU_CTL_PPS_OUT_EN = true
    ∧ isSet a F.TBU_CTL_PPS_GATE = false ∧ tapOwns a = false ∧ a.tbu.pulse = false ∧ a.tbu.lastPulse = none
    ∧ isSet (withF a [(F.TBU_LOCK_HOLD_LIMIT, 1)]) F.TBU_LOCK_HOLD_LIMIT = true ∧ tbuState (withF a [(F.TBU_STAT_STATE, 3)]) = 3
    ∧ bit ({ live with pwr := { live.pwr with groups := 4 } } : State).pwr.groups 2 = true ∧ away a 10 = false
    ∧ extractBits (3#32) 0 2 = 3 := by decide +kernel

/-- The premises of `ChainTime`: a head and a member with their timebases running. -/
theorem witness_ChainTime :
    let h : State := { withF (onChain 2 0) [(F.TBU_CTL_BCN_EN, 1)] with tbu := { run := true } }
    let k : State := { onChain 3 5 with tbu := { run := true, bcns := 1, dlyId := 3, t1 := some 40 } }
    isHead h = true ∧ isSet h F.TBU_CTL_BCN_EN = true ∧ isMember h = false ∧ isMember k = true ∧ portUp k 0 = true ∧ portUp k 1 = true
    ∧ 0 < k.tbu.bcns ∧ h.tbu.bcns = 0 ∧ m0 ⟨0x52, 4, toNext, [0x300#32, 8#32], []⟩ 8 8 = k.tbu.dlyId ∧ h.tbu.t1 = none := by decide +kernel

/-- A running unit with a tag operation in its queue, and the tag as `x`. -/
def tagAt (o : Op) (x : Tag) : State := { live with ops := [o], tag := x }

/-- The premises of `TagHostSide`: a read, a write of blocks 140 to 143, its shadow due for commit, and a lock command with its group. -/
theorem witness_TagHostSide :
    let rdo : Op := { tag := 1, ctx := 0, sq := 0, words := [0x80#32, 0#32, 16#32, 0#32, 0x100000#32, 0#32, 1#32, 140#32] }
    let wro : Op := { tag := 1, ctx := 0, sq := 0, words := [0x81#32, 0#32, 16#32, 0#32, 0x100000#32, 0#32, 0#32, 140#32] }
    opOf (tagAt rdo {}) 1 = some rdo ∧ opcodeOf rdo = 0x80 ∧ tagRange rdo = false ∧ tagOp (tagAt rdo {}) = none ∧ opFld rdo 6 0 1 = 1
    ∧ (List.range 16).all (fun i => (accessErr (tagAt rdo {}) (0x100000 + i) true).isNone) = true ∧ opcodeOf wro = 0x81
    ∧ opFld wro 6 0 1 = 0 ∧ dLength wro.words = 16 ∧ tagLockedIn (tagAt wro {}) wro = 0
    ∧ tagLockedIn (wr (tagAt wro {}) (R.TAG_LOCK 4) 0x1000#32) wro = 0x1000 ∧ overrideOn (wr (tagAt wro {}) (R.TAG_LOCK 4) 0x1000#32) = false
    ∧ tagOp (tagAt { wro with started := true } { shadow := some { page := 8, data := List.replicate 64 0#8, locked := 0, due := true } })
      = some { wro with started := true }
    ∧ away live 22 = false ∧ getf live F.TAG_LOCK_FIRST_FIRST ≤ extractBits 0x10CB0005#32 0 11
    ∧ extractBits 0x10CB0005#32 16 16 = 0x10CB
    ∧ (tagAt wro { lk := some { word := 0, first := 0, last := 5, unlock := false, live := 0#32, due := true } }).tag.lk.isSome = true := by decide

/-- The premises of `TagFieldSide`: no field, a READY tag, an addressed request, and a lock phase. -/
theorem witness_TagFieldSide : live.tag.field = 0 ∧ (tagAt { tag := 1, ctx := 0, sq := 0, words := [] } { field := 1, sess := true }).tag.field = 1
    ∧ (({ live with tag := { sess := true } } : State)).tag.sess = true ∧ inReset live 22 = false ∧ tagLocked live 2047 = false
    ∧ tagLocked (wr live (R.TAG_LOCK 63) 0x80000000#32) 2047 = true
    ∧ ({ live with tag := { field := 1, phase := some (.lock 2047) } } : State).tag.phase = some (.lock 2047) := by decide

/-- The INVENTORY premise of `TagFieldSide`: an empty mask matches every UID. -/
theorem witness_TagFieldSide_mask : tagUid.toNat % 2 ^ (0 : Fin 65).val = (0#64).toNat % 2 ^ (0 : Fin 65).val := by
  simp [Nat.mod_one]

/-- The premises of `TelemetryScan`: with D23 powered and EN at 1 a scan runs; after reset it does not. -/
theorem witness_TelemetryScan : away (withF live [(F.TLM_CTL_EN, 1)]) 23 = false ∧ isSet (withF live [(F.TLM_CTL_EN, 1)]) F.TLM_CTL_EN = true ∧ away State.reset 23 = true := by decide

/-- The premises of `TelemetryLogAndTestAlarm`: a record that is due, its third and fourth beat into bank 0, and both values of the alarm. -/
theorem witness_TelemetryLogAndTestAlarm :
    away (withF live [(F.TLM_CTL_LOG_EN, 1)]) 23 = false ∧ isSet (withF live [(F.TLM_CTL_LOG_EN, 1)]) F.TLM_CTL_LOG_EN = true
    ∧ accessErr live 0x30 true = none ∧ rd State.reset R.DEV_ALARM = 0#32
    ∧ rd (alarmForce State.reset true) R.DEV_ALARM ≠ 0#32 := by decide

/-- The premises of `TapInstructions`: after reset the rails are good; without VCCAUX the TAP does nothing. -/
theorem witness_TapInstructions : tapUp State.reset = true ∧ tapUp { State.reset with pwr := { State.reset.pwr with railsOff := 2 } } = false := by decide

/-- The premise of `StepRunsFrontCommand`: a queue that is empty. -/
theorem witness_StepRunsFrontCommand : State.reset.pending = [] := rfl

/-- Reset words of the last indexed registers, by their tables. -/
theorem test_ResetState_last : rd State.reset (R.SFQ_WM 63) = 0x01000300#32 ∧ rd State.reset (R.CTX_CTL 1023) = 0x1C#32
    ∧ rd State.reset (R.LIN_DIV 15) = 4166#32 ∧ rd State.reset (R.SENT_TICK 7) = 3000#32 ∧ rd State.reset (R.HAR_LCTL 3) = 0xF#32
    ∧ rd State.reset R.LDG_TOK = 4096#32 ∧ rd State.reset R.DEP_CTL = 0x1807#32 ∧ rd State.reset R.HAR_CTL = 0x21#32
    ∧ rd State.reset R.OSP_AGC1 = 0x00064004#32 ∧ rd State.reset R.TBU_LOCK = 0x003C00C8#32 ∧ rd State.reset R.LDG_CTL = 0x000A0003#32
    ∧ rd State.reset (R.CTX_LIM 1023) = 1#32 ∧ rd State.reset (R.LIN_TIME 3) = 0x000403E8#32 ∧ rd State.reset R.TAG_CTL = 0x6400#32
    ∧ rd State.reset R.OSP_AGC0 = 0x02000700#32 ∧ rd State.reset R.OSP_FS = 1000000#32 ∧ rd State.reset R.BST_CTL = 100#32
    ∧ rd State.reset (R.HAR_BCFG 3) = 1000#32 ∧ rd State.reset R.SCR_CTL = 1#32 ∧ rd State.reset R.DEV_ID = 0x0F481021#32 := by decide

/-- The premises of `StepAnswersAndKeepsStores`: reset has the canonical form, and a step from it answers. -/
theorem witness_StepAnswersAndKeepsStores : Memory.wf State.reset = true ∧ step State.reset = .next (idle State.reset) := ⟨by decide, rfl⟩

/-- The premise of `Frame` at a command that names one part and one block. -/
theorem witness_Frame : (∃ t, exec .tagFieldOn live = .next t) ∧ .mem ∉ (touches .tagFieldOn).1 ∧ blockOf R.SCR_CTL ∉ (touches .tagFieldOn).2 :=
  ⟨⟨_, rfl⟩, by decide, by decide⟩

/-- The premises of `ScramblerRoundTrip`: a line of 64 bytes with the largest version. -/
theorem witness_ScramblerRoundTrip : (List.replicate 64 (0xA5#8)).length = 64 ∧ 2 ^ 16 - 1 < 2 ^ 16 := by decide

/-! ### What commands give, by the spec -/

/-- Table 15-9: the marker that follows 341 dropped items of Harrier reads 0x0106_0155 in bits [31:0]. -/
theorem test_gap_marker : (gapItem { count := 341, sop := true, eop := true, prod := 1 }).data.take 4 = [0x55#8, 0x01#8, 0x06#8, 0x01#8]
    ∧ (gapItem { count := 341, prod := 1 }).tag = 4 := by decide +kernel

/-- 15_stream_fifos.md: a push with no pop into FIFO 8 with 1,024 items is dropped; its marker reads COUNT 1 and SOP_LOST; DROPPED counts. -/
theorem test_fifoPush_full : (let s := { withF live [(F.SFQ_CFG_EN 8, 1), (F.SFQ_CFG_PROD 8, 1)] with
        fifos := [(8, { items := List.replicate 1024 ⟨[], 0⟩, booked := 1024 })] };
      let t := nextOf s (exec (.fifoPush 8 ⟨1, [], 1⟩) s);
      ((fifo t 8).gap.map (fun g => (g.count, g.sop, g.eop, g.prod)), getf t (F.SFQ_CNT_DROPPED 8), (fifo t 8).items.length))
    = (some (1, true, false, 1), 1, 1024) := by decide +kernel

/-- 16_vehicle_bus_units.md: the driver's bit timing is valid, and the response's header item carries 0x0018_3C01. -/
theorem test_can_example : timingOk (wr (wr live (R.CAN_NBT 1) 0x1F1F7E00#32) (R.CAN_DBT 1) 0x07071E00#32) 1 = true
    ∧ hdrLo 0x7AA false false 1 12 true true false false 24 0 0 = 0x00183C01000007AA := by decide +kernel

/-- 16_vehicle_bus_units.md: the request's VBU_TX fills buffer 0 of CAN1 with the eight bytes of words 0x18 and 0x1C. -/
theorem test_vbuTx_example : (let o : Op := { tag := 1, ctx := 40, sq := 0, words := [0x01000410#32, 0#32, 8#32, 0#32, 0x7A2#32, 0x00030138#32, 0x90F12203#32, 0x55555555#32] };
      let s := { withF live [(F.CAN_STAT_STATE 1, 2)] with ops := [o] };
      (sget 0 (can (nextOf s (exec (.vbuTx 1 .failed) s)) 1).bufs).map (fun b => (b.st, b.data)))
    = some (1, [0x03#8, 0x22#8, 0xF1#8, 0x90#8, 0x55#8, 0x55#8, 0x55#8, 0x55#8]) := by decide +kernel

/-- 17_osprey_ism_baseband.md: profile 2 is usable at 1 MS/s, and the first packet's trailer and RSSI read as the example has them. -/
theorem test_osprey_example : usable live [0x324#32, 0x2580#32, 0x4E20#32, 0x203010#32, 0xD391#32, 0xC0110#32, 0x280300#32, 0#32] = true
    ∧ (let s := { withF live [(F.OSP_RSSI_CAL_FS_DBM, 0xFFEC), (F.OSP_RSSI_CAL_GAIN_STEP, 10)] with osp := { gain := 40 } }; rssiOf s (-30000)) = -160
    ∧ (let s := { withF live [(F.OSP_CTL_FIFO, 36), (F.SFQ_CFG_EN 36, 1), (F.SFQ_CFG_PROD 36, 0x38)] with
          osp := { gain := 40, rssi := -160, afc := 12300, put := 12, cwTotal := 12, cwCorr := 1 } };
        ((fifo (ospTrailer s false false) 36).items.map (fun i => i.data.take 12)))
      = [[0x0C#8, 0x0C#8, 0x01#8, 0x00#8, 0x06#8, 0xA0#8, 0x60#8, 0xFF#8, 0x0C#8, 0x30#8, 0x00#8, 0x00#8]] := by decide +kernel

/-- R461: a Hamming codeword with one wrong bit is corrected, and BCH(31,21) corrects two. -/
theorem test_fec : (hamDec ((hamEnc [true, false, true, true, false, false, true, false]).set 6 true)).1 = [true, false, true, true, false, false, true, false]
    ∧ bchDec 2 (((bchEnc 2 (List.replicate 20 false ++ [true])).set 0 true).set 30 true) = (List.replicate 20 false ++ [true], 1)
    ∧ (bchDec 2 (bchEnc 2 (List.replicate 21 true))).2 = 0 := by decide +kernel

/-- 20_scrambler_and_integrity.md: the tweak words of word 1 of line 1,088 under VER 42, range 1, EPOCH 1. -/
theorem test_tweak_example : lineTweak 1 1 1088 42 1 = ⟨0x00011010#32, 0x0011002A#32, 1#32, 0#32⟩ := by decide

/-- 14_harrier_scan_engine.md: record 0 of the scan, OPEN with drive 517 and sense 518 of net 211. -/
theorem test_scan_record : (let o : Op := { tag := 1, ctx := 12, sq := 17, words := [0x420#32, 0x3A01#32, 0#32, 0#32, 0x051F0000#32, 0x30#32, 0x200000#32, 0x300000#32, 0x800#32] };
      let c : Scan := { tag := 1, map := List.replicate 517 1 ++ [211, 211] };
      let t := (putMismatch { live with ops := [o] } o c 1 517 518 0 0#32 0#32).1;
      (List.range 28).map (fun i => memByte t (0x300000 + i)))
    = [0x01#8, 0#8, 0#8, 0#8, 0x05#8, 0x02#8, 0x06#8, 0x02#8, 0xD3#8, 0#8, 0xD3#8, 0#8, 0#8, 0#8, 0#8, 0#8, 0#8, 0#8, 0#8, 0#8, 0#8, 0#8, 0#8, 0#8,
      0x01#8, 0x3A#8, 0#8, 0#8] := by decide +kernel

/-- Table 11-11: RESULT1 of the scan is 0x0000_0520 for 1,312 points, and the words of Table 11-10 name points, links and places. -/
theorem test_scan_result : (scanRet { tag := 1, mism := 2, driven := 1312 } 0).r1 = 0x520#32
    ∧ (let o : Op := { tag := 1, ctx := 12, sq := 17, words := [0x420#32, 0x3A01#32, 0#32, 0#32, 0x051F0000#32, 0x30#32, 0x200000#32, 0x300000#32, 0x800#32] };
      (scFirst o, scLast o, scLinks o, scTest o, scMap o, scRec o, scMax o)) = (0, 1311, 3, 0, 0x200000, 0x300000, 2048) := by decide

/-- 18_timebase.md: a step of -2,300,000 ns reads 0xFFDC_E7A0. -/
theorem test_last_step : w32 (unsigned 32 (-2300000)) = 0xFFDCE7A0#32 := by decide

/-- 19_sundene_tag.md: a TAG_WRITE of 16 bytes at block 140 from BANK1 makes shadow page 8, and its commit returns OK with 16. -/
theorem test_tagWrite_example :
    let o : Op := { tag := 1, ctx := 0, sq := 0, words := [0x81#32, 0#32, 16#32, 0#32, 0x100000#32, 0#32, 1#32, 140#32] }
    let s := { tagAt o {} with mem := (List.range 16).map (fun i => ⟨0x100000 + i, 0x11#8⟩) }
    let t := nextOf s (exec (.tagWrite 1 .failed) s)
    let u := nextOf t (exec (.tagShadowProgrammed true) t)
    let v := nextOf u (exec .tagPageCommit u)
    (t.tag.shadow.map (·.page), retOf v 1, tagByte v 559, tagByte v 560, tagByte v 575, tagByte v 576)
      = (some 8, some ⟨0, 16#32, 0#32⟩, 0#8, 0x11#8, 0x11#8, 0#8) := by decide +kernel

/-- R510 and Table 19-2: a block past 2,047 is refused with 0x10, a locked one with 0x11. -/
theorem test_field_errors :
    let s : State := { wr live (R.TAG_LOCK 63) 0x80000000#32 with tag := { field := 1 } }
    let r : TagReq := ⟨none, false, false, false⟩
    ((nextOf s (exec (.extendedLockBlock r 2048) s)).out, (nextOf s (exec (.extendedLockBlock r 2047) s)).out)
      = ([Out.tagResponse 1 [0x10#8]], [Out.tagResponse 1 [0x11#8]]) := by decide +kernel

end Sys2Proof.Tests
end

/-! ### What a command can change, and every step

`exec_made` gathers the laws of the commands' meanings: a command answers a next state, changes what `touches` names for it, and
keeps the stores canonical. -/
namespace Sys2Proof.Machine

/-- The mask of the given bits. -/
def maskOf (l : List Nat) : Nat := l.foldr (fun n m => m ||| 2 ^ n) 0

/-- The mask of `Made` for a row of `touches`. Parts stand in the order of the fields of State, after the queue and the registers;
the register file is bit 1, its blocks are the bits from 64 up. -/
def touchMask (t : List Part × List Nat) : Nat := maskOf (1 :: t.1.map (fun p => p.ctorIdx + 2) ++ t.2.map (64 + ·))

/-- Every command answers a next state that differs from the state before in what `touches` names for it. -/
theorem exec_made (i : Instr) (s : State) : Ends (touchMask (touches i)) s (exec i s) := by
  cases i with (conv in touches _ => whnf)
  | regWrite m a v be => exact execRegWrite_made rfl m a v be s (.refl ..)
  | wideLowRead m a => exact execWideLowRead_made rfl m a s (.refl ..)
  | wideLowWrite m a v => exact execWideLowWrite_made rfl m a v s (.refl ..)
  | wideHighWrite m a v => exact execWideHighWrite_made rfl m a v s (.refl ..)
  | hostBar4Read x n ans => exact execHostBar4Read_made rfl x n ans s (.refl ..)
  | hostBar4Write x data => exact execHostBar4Write_made rfl x data s (.refl ..)
  | hostConfigWrite w => exact execHostConfigWrite_made rfl w s (.refl ..)
  | hostReadCompletion id e => exact execHostReadCompletion_made rfl id e s (.refl ..)
  | hostCompletionTimeout id => exact execHostCompletionTimeout_made rfl id s (.refl ..)
  | windowReadTimeout wtag => exact execWindowReadTimeout_made rfl wtag s (.refl ..)
  | hostLinkUp speed width => exact execHostLinkUp_made rfl speed width s (.refl ..)
  | hostLinkLoss why => exact execHostLinkLoss_made rfl why s (.refl ..)
  | perstFall => exact execPerstFall_made rfl s (.refl ..)
  | perstRise => exact execPerstRise_made rfl s (.refl ..)
  | msixUnmask v => exact execMsixUnmask_made rfl v s (.refl ..)
  | modTimeExpiry c => exact execModTimeExpiry_made rfl c s (.refl ..)
  | dispatch => exact execDispatch_made rfl s (.refl ..)
  | returnAccepted tag d opcode => exact execReturnAccepted_made rfl tag d opcode s (.refl ..)
  | fenceTimeout c => exact execFenceTimeout_made rfl c s (.refl ..)
  | fetch c n => exact execFetch_made rfl c n s (.refl ..)
  | fetchComplete c e => exact execFetchComplete_made rfl c e s (.refl ..)
  | doorbellSqPi m bar2 c idx => exact execDoorbellSqPi_made rfl m bar2 c idx s (.refl ..)
  | doorbellCqCi m bar2 c idx => exact execDoorbellCqCi_made rfl m bar2 c idx s (.refl ..)
  | contextEnable m c => exact execContextEnable_made rfl m c s (.refl ..)
  | contextDisable m c => exact execContextDisable_made rfl m c s (.refl ..)
  | ledgerAudit chain => exact execLedgerAudit_made rfl chain s (.refl ..)
  | auditCompareDone => exact execAuditCompareDone_made rfl s (.refl ..)
  | auditChainRelook idx counted => exact execAuditChainRelook_made rfl idx counted s (.refl ..)
  | ldgRelease key => exact execLdgRelease_made rfl key s (.refl ..)
  | ldgBufLend first last => exact execLdgBufLend_made rfl first last s (.refl ..)
  | ldgCtlWrite data => exact execLdgCtlWrite_made rfl data s (.refl ..)
  | nop tag => exact execNop_made rfl tag s (.refl ..)
  | fence tag us => exact execFence_made rfl tag us s (.refl ..)
  | copy tag => exact execCopy_made rfl tag s (.refl ..)
  | fill tag => exact execFill_made rfl tag s (.refl ..)
  | vbuTx tag h => exact execVbuTx_made rfl tag h s (.refl ..)
  | vbuRxArm tag => exact execVbuRxArm_made rfl tag s (.refl ..)
  | vbuCtrlStart tag => exact execVbuCtrlStart_made rfl tag s (.refl ..)
  | vbuCtrlStop tag receiving => exact execVbuCtrlStop_made rfl tag receiving s (.refl ..)
  | vbuCtrlRecover tag => exact execVbuCtrlRecover_made rfl tag s (.refl ..)
  | vbuCtrlAbortTx tag => exact execVbuCtrlAbortTx_made rfl tag s (.refl ..)
  | vbuCtrlStatus tag => exact execVbuCtrlStatus_made rfl tag s (.refl ..)
  | vbuCtrlWriteRegs tag => exact execVbuCtrlWriteRegs_made rfl tag s (.refl ..)
  | harScan tag reread => exact execHarScan_made rfl tag reread s (.refl ..)
  | harNetmapLoad tag h => exact execHarNetmapLoad_made rfl tag h s (.refl ..)
  | ospTx tag h => exact execOspTx_made rfl tag h s (.refl ..)
  | ospRx tag => exact execOspRx_made rfl tag s (.refl ..)
  | fabCall tag => exact execFabCall_made rfl tag s (.refl ..)
  | nvaProg tag h => exact execNvaProg_made rfl tag h s (.refl ..)
  | nvaErase tag => exact execNvaErase_made rfl tag s (.refl ..)
  | nvaRead tag corr bad => exact execNvaRead_made rfl tag corr bad s (.refl ..)
  | tbuStampRead tag => exact execTbuStampRead_made rfl tag s (.refl ..)
  | tbuStampSet tag => exact execTbuStampSet_made rfl tag s (.refl ..)
  | tbuStampSlew tag => exact execTbuStampSlew_made rfl tag s (.refl ..)
  | cfgStage tag hdr => exact execCfgStage_made rfl tag hdr s (.refl ..)
  | cfgHandover tag => exact execCfgHandover_made rfl tag s (.refl ..)
  | depWriteImage tag got => exact execDepWriteImage_made rfl tag got s (.refl ..)
  | depWriteData tag got => exact execDepWriteData_made rfl tag got s (.refl ..)
  | depWriteSlot tag => exact execDepWriteSlot_made rfl tag s (.refl ..)
  | depWriteFormat tag => exact execDepWriteFormat_made rfl tag s (.refl ..)
  | depReadSlot tag => exact execDepReadSlot_made rfl tag s (.refl ..)
  | depReadRaw tag => exact execDepReadRaw_made rfl tag s (.refl ..)
  | depReadDirectory tag => exact execDepReadDirectory_made rfl tag s (.refl ..)
  | tagRead tag => exact execTagRead_made rfl tag s (.refl ..)
  | tagWrite tag h => exact execTagWrite_made rfl tag h s (.refl ..)
  | bnkMarch tag => exact execBnkMarch_made rfl tag s (.refl ..)
  | bnkPower tag => exact execBnkPower_made rfl tag s (.refl ..)
  | bstRun tag => exact execBstRun_made rfl tag s (.refl ..)
  | trimWindowDue defer => exact execTrimWindowDue_made rfl defer s (.refl ..)
  | trimDeferFall => exact execTrimDeferFall_made rfl s (.refl ..)
  | trimMaxdeferExpiry => exact execTrimMaxdeferExpiry_made rfl s (.refl ..)
  | trimStep r d => exact execTrimStep_made rfl r d s (.refl ..)
  | driftAlert r d below1 => exact execDriftAlert_made rfl r d below1 s (.refl ..)
  | alertTrimStep r d below1 => exact execAlertTrimStep_made rfl r d below1 s (.refl ..)
  | paceGateEnd counts => exact execPaceGateEnd_made rfl counts s (.refl ..)
  | fabPaceClr mask => exact execFabPaceClr_made rfl mask s (.refl ..)
  | fabGateOvfClear => exact execFabGateOvfClear_made rfl s (.refl ..)
  | islandLossOfLock n => exact execIslandLossOfLock_made rfl n s (.refl ..)
  | islandRelock n => exact execIslandRelock_made rfl n s (.refl ..)
  | gateClockWrite n g v full => exact execGateClockWrite_made rfl n g v full s (.refl ..)
  | gateHandshakePop n g => exact execGateHandshakePop_made rfl n g s (.refl ..)
  | staticInputChange b pin level => exact execStaticInputChange_made rfl b pin level s (.refl ..)
  | socketBurst k addr len write beats => exact execSocketBurst_made rfl k addr len write beats s (.refl ..)
  | fabWindowAccess k off w ans => exact execFabWindowAccess_made rfl k off w ans s (.refl ..)
  | fabWindowTimeout k => exact execFabWindowTimeout_made rfl k s (.refl ..)
  | fabCallAnswer tag status r0 r1 => exact execFabCallAnswer_made rfl tag status r0 r1 s (.refl ..)
  | powerOnReset => exact execPowerOnReset_made rfl s (.refl ..)
  | powerGoodEvent => exact execPowerGoodEvent_made rfl s (.refl ..)
  | s0Complete headEn cfgsrc testEn => exact execS0Complete_made rfl headEn cfgsrc testEn s (.refl ..)
  | pwrgrantInHigh => exact execPwrgrantInHigh_made rfl s (.refl ..)
  | grantTimeout => exact execGrantTimeout_made rfl s (.refl ..)
  | mgmtGroupPowered => exact execMgmtGroupPowered_made rfl s (.refl ..)
  | s2BankPowered => exact execS2BankPowered_made rfl s (.refl ..)
  | s3GroupPowered => exact execS3GroupPowered_made rfl s (.refl ..)
  | s4WaveDone => exact execS4WaveDone_made rfl s (.refl ..)
  | grantPoint => exact execGrantPoint_made rfl s (.refl ..)
  | brownOutVcc aux => exact execBrownOutVcc_made rfl aux s (.refl ..)
  | brownOutVccowl => exact execBrownOutVccowl_made rfl s (.refl ..)
  | brownOutSer sera => exact execBrownOutSer_made rfl sera s (.refl ..)
  | brownOutIo n => exact execBrownOutIo_made rfl n s (.refl ..)
  | railReturn r => exact execRailReturn_made rfl r s (.refl ..)
  | rstNFall torn => exact execRstNFall_made rfl torn s (.refl ..)
  | rstNRise => exact execRstNRise_made rfl s (.refl ..)
  | pwrCtlIdle => exact execPwrCtlIdle_made rfl s (.refl ..)
  | pwrCtlRun => exact execPwrCtlRun_made rfl s (.refl ..)
  | idleEntryDone => exact execIdleEntryDone_made rfl s (.refl ..)
  | idleExitDone => exact execIdleExitDone_made rfl s (.refl ..)
  | sleepEntry => exact execSleepEntry_made rfl s (.refl ..)
  | sleepEntryDone => exact execSleepEntryDone_made rfl s (.refl ..)
  | wakeInPin => exact execWakeInPin_made rfl s (.refl ..)
  | wakeTimerExpiry => exact execWakeTimerExpiry_made rfl s (.refl ..)
  | wakePerst => exact execWakePerst_made rfl s (.refl ..)
  | rstDomReq m mask => exact execRstDomReq_made rfl m mask s (.refl ..)
  | rstDomHold m mask => exact execRstDomHold_made rfl m mask s (.refl ..)
  | drainEnd d => exact execDrainEnd_made rfl d s (.refl ..)
  | abortsPosted d accs => exact execAbortsPosted_made rfl d accs s (.refl ..)
  | resetAssert d mids => exact execResetAssert_made rfl d mids s (.refl ..)
  | resetRelease d => exact execResetRelease_made rfl d s (.refl ..)
  | domainReady d => exact execDomainReady_made rfl d s (.refl ..)
  | readyTimeout d => exact execReadyTimeout_made rfl d s (.refl ..)
  | rstUnit m key => exact execRstUnit_made rfl m key s (.refl ..)
  | watchdogExpiry => exact execWatchdogExpiry_made rfl s (.refl ..)
  | bootSourceFail => exact execBootSourceFail_made rfl s (.refl ..)
  | bootReadoutDone glob => exact execBootReadoutDone_made rfl glob s (.refl ..)
  | startupStepDone => exact execStartupStepDone_made rfl s (.refl ..)
  | startupDelayExpiry => exact execStartupDelayExpiry_made rfl s (.refl ..)
  | startupLockDone => exact execStartupLockDone_made rfl s (.refl ..)
  | startupLockTimeout missing => exact execStartupLockTimeout_made rfl missing s (.refl ..)
  | cfgStageEraseDone => exact execCfgStageEraseDone_made rfl s (.refl ..)
  | cfgStageFrame got => exact execCfgStageFrame_made rfl got s (.refl ..)
  | cfgStageReadbackDone ok => exact execCfgStageReadbackDone_made rfl ok s (.refl ..)
  | handoverReadoutDone glob => exact execHandoverReadoutDone_made rfl glob s (.refl ..)
  | cfgBootSel key plane => exact execCfgBootSel_made rfl key plane s (.refl ..)
  | depotDiscovery x => exact execDepotDiscovery_made rfl x s (.refl ..)
  | flashReadDone got => exact execFlashReadDone_made rfl got s (.refl ..)
  | flashEraseDone ok => exact execFlashEraseDone_made rfl ok s (.refl ..)
  | flashProgramDone ok => exact execFlashProgramDone_made rfl ok s (.refl ..)
  | depotScrubDue => exact execDepotScrubDue_made rfl s (.refl ..)
  | imageReq m => exact execImageReq_made rfl m s (.refl ..)
  | imageReqRetry => exact execImageReqRetry_made rfl s (.refl ..)
  | reqAck m => exact execReqAck_made rfl m s (.refl ..)
  | reqAckRepeat => exact execReqAckRepeat_made rfl s (.refl ..)
  | loadRoundStart => exact execLoadRoundStart_made rfl s (.refl ..)
  | roundBegin m => exact execRoundBegin_made rfl m s (.refl ..)
  | chunk m => exact execChunk_made rfl m s (.refl ..)
  | chunkAck m => exact execChunkAck_made rfl m s (.refl ..)
  | resend m => exact execResend_made rfl m s (.refl ..)
  | roundEnd m => exact execRoundEnd_made rfl m s (.refl ..)
  | roundAbort m => exact execRoundAbort_made rfl m s (.refl ..)
  | chainTryTimeout lock => exact execChainTryTimeout_made rfl lock s (.refl ..)
  | nvaKey m data => exact execNvaKey_made rfl m data s (.refl ..)
  | nvaCmd m data => exact execNvaCmd_made rfl m data s (.refl ..)
  | nvaSeqLapse => exact execNvaSeqLapse_made rfl s (.refl ..)
  | programLine m data => exact execProgramLine_made rfl m data s (.refl ..)
  | programPage m addr => exact execProgramPage_made rfl m addr s (.refl ..)
  | eraseSector m addr => exact execEraseSector_made rfl m addr s (.refl ..)
  | eraseBlock m addr => exact execEraseBlock_made rfl m addr s (.refl ..)
  | suspend m addr => exact execSuspend_made rfl m addr s (.refl ..)
  | resume m addr => exact execResume_made rfl m addr s (.refl ..)
  | readCounter m addr => exact execReadCounter_made rfl m addr s (.refl ..)
  | nvaPageLatchLoaded => exact execNvaPageLatchLoaded_made rfl s (.refl ..)
  | nvaProgramDone badLine => exact execNvaProgramDone_made rfl badLine s (.refl ..)
  | nvaErasePulse => exact execNvaErasePulse_made rfl s (.refl ..)
  | nvaEraseDone ok => exact execNvaEraseDone_made rfl ok s (.refl ..)
  | nvaSuspendEffect cut => exact execNvaSuspendEffect_made rfl cut s (.refl ..)
  | nvaAutoResume => exact execNvaAutoResume_made rfl s (.refl ..)
  | nvLineRead m line err fetch yields => exact execNvLineRead_made rfl m line err fetch yields s (.refl ..)
  | nvScrubMarginRead weak => exact execNvScrubMarginRead_made rfl weak s (.refl ..)
  | nvScrubRefresh => exact execNvScrubRefresh_made rfl s (.refl ..)
  | nvScrubStarve refresh weak => exact execNvScrubStarve_made rfl refresh weak s (.refl ..)
  | nvaWpSet idx data => exact execNvaWpSet_made rfl idx data s (.refl ..)
  | nvaWpClr idx data => exact execNvaWpClr_made rfl idx data s (.refl ..)
  | nvaWpLock => exact execNvaWpLock_made rfl s (.refl ..)
  | bankAccess n a b aFirst => exact execBankAccess_made rfl n a b aFirst s (.refl ..)
  | aliasWrite clear addr data be waits => exact execAliasWrite_made rfl clear addr data be waits s (.refl ..)
  | bankPowerStepDone n us => exact execBankPowerStepDone_made rfl n us s (.refl ..)
  | marchDone n faults element addr bits shadow => exact execMarchDone_made rfl n faults element addr bits shadow s (.refl ..)
  | bnkFuseProg n e slice bitPos key => exact execBnkFuseProg_made rfl n e slice bitPos key s (.refl ..)
  | fuseBlowDone n => exact execFuseBlowDone_made rfl n s (.refl ..)
  | laneBlockLock p lane slips => exact execLaneBlockLock_made rfl p lane slips s (.refl ..)
  | laneBlockLockLost p lane bad fwd => exact execLaneBlockLockLost_made rfl p lane bad fwd s (.refl ..)
  | laneFrameLock p lane inverted skew => exact execLaneFrameLock_made rfl p lane inverted skew s (.refl ..)
  | laneFrameLockLost p lane fwd => exact execLaneFrameLockLost_made rfl p lane fwd s (.refl ..)
  | train p rx lane role rxState paramOk version => exact execTrain_made rfl p rx lane role rxState paramOk version s (.refl ..)
  | cap p vl cells => exact execCap_made rfl p vl cells s (.refl ..)
  | keyBlock p n value => exact execKeyBlock_made rfl p n value s (.refl ..)
  | keyAck p value => exact execKeyAck_made rfl p value s (.refl ..)
  | linkUp p => exact execLinkUp_made rfl p s (.refl ..)
  | trainTimeout p => exact execTrainTimeout_made rfl p s (.refl ..)
  | chnPortEn p en => exact execChnPortEn_made rfl p en s (.refl ..)
  | chnRetrain p => exact execChnRetrain_made rfl p s (.refl ..)
  | chnPrbs p tx chk err0 err1 => exact execChnPrbs_made rfl p tx chk err0 err1 s (.refl ..)
  | credit p vl value => exact execCredit_made rfl p vl value s (.refl ..)
  | csync p vl value => exact execCsync_made rfl p vl value s (.refl ..)
  | ack p seq => exact execAck_made rfl p seq s (.refl ..)
  | nak p seq => exact execNak_made rfl p seq s (.refl ..)
  | creditReturnDue p vl => exact execCreditReturnDue_made rfl p vl s (.refl ..)
  | csyncDue p => exact execCsyncDue_made rfl p s (.refl ..)
  | ackDue p => exact execAckDue_made rfl p s (.refl ..)
  | replayTimer p => exact execReplayTimer_made rfl p s (.refl ..)
  | messageDamaged p why vl cells fwd => exact execMessageDamaged_made rfl p why vl cells fwd s (.refl ..)
  | messageForward p m => exact execMessageForward_made rfl p m s (.refl ..)
  | quiet p => exact execQuiet_made rfl p s (.refl ..)
  | becomeCandidate => exact execBecomeCandidate_made rfl s (.refl ..)
  | beacon p m => exact execBeacon_made rfl p m s (.refl ..)
  | beaconBackoffExpiry => exact execBeaconBackoffExpiry_made rfl s (.refl ..)
  | electionWin => exact execElectionWin_made rfl s (.refl ..)
  | walk => exact execWalk_made rfl s (.refl ..)
  | partialWalk a => exact execPartialWalk_made rfl a s (.refl ..)
  | walkStart p m => exact execWalkStart_made rfl p m s (.refl ..)
  | token m => exact execToken_made rfl m s (.refl ..)
  | join p m => exact execJoin_made rfl p m s (.refl ..)
  | addrAssign m => exact execAddrAssign_made rfl m s (.refl ..)
  | tokenEnd p m => exact execTokenEnd_made rfl p m s (.refl ..)
  | walkTimeout => exact execWalkTimeout_made rfl s (.refl ..)
  | topoBreak p m => exact execTopoBreak_made rfl p m s (.refl ..)
  | topoUpdate m => exact execTopoUpdate_made rfl m s (.refl ..)
  | resetCmd p m => exact execResetCmd_made rfl p m s (.refl ..)
  | devEvt p m => exact execDevEvt_made rfl p m s (.refl ..)
  | tunRdReq p m => exact execTunRdReq_made rfl p m s (.refl ..)
  | tunWr p m => exact execTunWr_made rfl p m s (.refl ..)
  | tunInt p m => exact execTunInt_made rfl p m s (.refl ..)
  | tunRdCpl p m => exact execTunRdCpl_made rfl p m s (.refl ..)
  | rmtOp p m => exact execRmtOp_made rfl p m s (.refl ..)
  | rmtDone p m => exact execRmtDone_made rfl p m s (.refl ..)
  | winRd p m ans => exact execWinRd_made rfl p m ans s (.refl ..)
  | winWr p m => exact execWinWr_made rfl p m s (.refl ..)
  | winCpl p m => exact execWinCpl_made rfl p m s (.refl ..)
  | enuRstCmd dst all key => exact execEnuRstCmd_made rfl dst all key s (.refl ..)
  | enuTabWrite m u word data => exact execEnuTabWrite_made rfl m u word data s (.refl ..)
  | enuBypass on => exact execEnuBypass_made rfl on s (.refl ..)
  | propose => exact execPropose_made rfl s (.refl ..)
  | cancel => exact execCancel_made rfl s (.refl ..)
  | sleepPropose m => exact execSleepPropose_made rfl m s (.refl ..)
  | sleepReadyVote => exact execSleepReadyVote_made rfl s (.refl ..)
  | voteWaitExpiry => exact execVoteWaitExpiry_made rfl s (.refl ..)
  | sleepVote p m => exact execSleepVote_made rfl p m s (.refl ..)
  | voteMissingTimeout => exact execVoteMissingTimeout_made rfl s (.refl ..)
  | nakWake p m => exact execNakWake_made rfl p m s (.refl ..)
  | sleepCommit m => exact execSleepCommit_made rfl m s (.refl ..)
  | sleepAbort m => exact execSleepAbort_made rfl m s (.refl ..)
  | chainWakeDetect => exact execChainWakeDetect_made rfl s (.refl ..)
  | wakeToneDone => exact execWakeToneDone_made rfl s (.refl ..)
  | harTrainTimeout l => exact execHarTrainTimeout_made rfl l s (.refl ..)
  | harWordLock l phase => exact execHarWordLock_made rfl l phase s (.refl ..)
  | harWordLockLost l => exact execHarWordLockLost_made rfl l s (.refl ..)
  | harEnumReturn l count ringNs => exact execHarEnumReturn_made rfl l count ringNs s (.refl ..)
  | idr l pos w0 w1 good => exact execIdr_made rfl l pos w0 w1 good s (.refl ..)
  | cfga l pos good => exact execCfga_made rfl l pos good s (.refl ..)
  | rsp l pos words good => exact execRsp_made rfl l pos words good s (.refl ..)
  | harReplyTimeout l => exact execHarReplyTimeout_made rfl l s (.refl ..)
  | harSettleExpiry => exact execHarSettleExpiry_made rfl s (.refl ..)
  | harLinkWaitExpiry => exact execHarLinkWaitExpiry_made rfl s (.refl ..)
  | harLinkEn l en => exact execHarLinkEn_made rfl l en s (.refl ..)
  | harRetrain l => exact execHarRetrain_made rfl l s (.refl ..)
  | fifoPush n p => exact execFifoPush_made rfl n p s (.refl ..)
  | fifoPop n fabric p => exact execFifoPop_made rfl n fabric p s (.refl ..)
  | sfqPopW0 n p => exact execSfqPopW0_made rfl n p s (.refl ..)
  | discardPkt n fabric => exact execDiscardPkt_made rfl n fabric s (.refl ..)
  | discardRemoval n p => exact execDiscardRemoval_made rfl n p s (.refl ..)
  | flush n => exact execFlush_made rfl n s (.refl ..)
  | sfqCfgWrite n data => exact execSfqCfgWrite_made rfl n data s (.refl ..)
  | sfqWmWrite n data => exact execSfqWmWrite_made rfl n data s (.refl ..)
  | sfqPinWrite data => exact execSfqPinWrite_made rfl data s (.refl ..)
  | sfqXctxWrite n data => exact execSfqXctxWrite_made rfl n data s (.refl ..)
  | canIntegrated n => exact execCanIntegrated_made rfl n s (.refl ..)
  | canStartOfFrame n => exact execCanStartOfFrame_made rfl n s (.refl ..)
  | canArbitrationLost n => exact execCanArbitrationLost_made rfl n s (.refl ..)
  | canFrameSent n delay => exact execCanFrameSent_made rfl n delay s (.refl ..)
  | canTxError n kind dataPhase => exact execCanTxError_made rfl n kind dataPhase s (.refl ..)
  | canSuspendTransmissionEnd n => exact execCanSuspendTransmissionEnd_made rfl n s (.refl ..)
  | canFrameReceived n id ide rtr fdf brs esi dlc data ago => exact execCanFrameReceived_made rfl n id ide rtr fdf brs esi dlc data ago s (.refl ..)
  | canRxError n kind dataPhase dominant => exact execCanRxError_made rfl n kind dataPhase dominant s (.refl ..)
  | canRecover n => exact execCanRecover_made rfl n s (.refl ..)
  | canRecoveryDone n => exact execCanRecoveryDone_made rfl n s (.refl ..)
  | canErrcWrite n data => exact execCanErrcWrite_made rfl n data s (.refl ..)
  | vbuRxTimeout tag => exact execVbuRxTimeout_made rfl tag s (.refl ..)
  | canWuf n id ide dlc data => exact execCanWuf_made rfl n id ide dlc data s (.refl ..)
  | fecWake n bad => exact execFecWake_made rfl n bad s (.refl ..)
  | linBreak m id div ago => exact execLinBreak_made rfl m id div ago s (.refl ..)
  | linResponse m data cs framing mismatch => exact execLinResponse_made rfl m data cs framing mismatch s (.refl ..)
  | linResponseTimeout m => exact execLinResponseTimeout_made rfl m s (.refl ..)
  | linBusIdle m => exact execLinBusIdle_made rfl m s (.refl ..)
  | linWake m => exact execLinWake_made rfl m s (.refl ..)
  | linWakeRx m => exact execLinWakeRx_made rfl m s (.refl ..)
  | linWakePulse m => exact execLinWakePulse_made rfl m s (.refl ..)
  | sentFrame k cal status nibbles crc ago => exact execSentFrame_made rfl k cal status nibbles crc ago s (.refl ..)
  | ospGainStep attack => exact execOspGainStep_made rfl attack s (.refl ..)
  | ospPreambleDetect corr => exact execOspPreambleDetect_made rfl corr s (.refl ..)
  | ospSyncMatch bits offset milliDb ago => exact execOspSyncMatch_made rfl bits offset milliDb ago s (.refl ..)
  | ospSyncWaitExpiry => exact execOspSyncWaitExpiry_made rfl s (.refl ..)
  | ospDataItem groups => exact execOspDataItem_made rfl groups s (.refl ..)
  | ospPacketEnd groups => exact execOspPacketEnd_made rfl groups s (.refl ..)
  | ospTxStart => exact execOspTxStart_made rfl s (.refl ..)
  | ospRepetitionEnd => exact execOspRepetitionEnd_made rfl s (.refl ..)
  | ospGapExpiry => exact execOspGapExpiry_made rfl s (.refl ..)
  | ospTrExpiry => exact execOspTrExpiry_made rfl s (.refl ..)
  | ospSclkLost => exact execOspSclkLost_made rfl s (.refl ..)
  | ospSclkReturn => exact execOspSclkReturn_made rfl s (.refl ..)
  | ospFsMeasure fs => exact execOspFsMeasure_made rfl fs s (.refl ..)
  | ospRxTimeout => exact execOspRxTimeout_made rfl s (.refl ..)
  | ospRxEnWrite on => exact execOspRxEnWrite_made rfl on s (.refl ..)
  | ppsInEdge falling sub => exact execPpsInEdge_made rfl falling sub s (.refl ..)
  | ppsInLoss => exact execPpsInLoss_made rfl s (.refl ..)
  | timeBeacon m good sub residence => exact execTimeBeacon_made rfl m good sub residence s (.refl ..)
  | beaconLoss => exact execBeaconLoss_made rfl s (.refl ..)
  | wholeSecond => exact execWholeSecond_made rfl s (.refl ..)
  | ppsOutEnd => exact execPpsOutEnd_made rfl s (.refl ..)
  | timeBeaconSend => exact execTimeBeaconSend_made rfl s (.refl ..)
  | dlyReqDue => exact execDlyReqDue_made rfl s (.refl ..)
  | dlyReq port m residence => exact execDlyReq_made rfl port m residence s (.refl ..)
  | dlyResp m sub => exact execDlyResp_made rfl m sub s (.refl ..)
  | holdLimitExpiry => exact execHoldLimitExpiry_made rfl s (.refl ..)
  | tcxoLost => exact execTcxoLost_made rfl s (.refl ..)
  | tcxoReturn => exact execTcxoReturn_made rfl s (.refl ..)
  | tbuCtlWrite data => exact execTbuCtlWrite_made rfl data s (.refl ..)
  | tagFieldOn => exact execTagFieldOn_made rfl s (.refl ..)
  | tagFieldLost => exact execTagFieldLost_made rfl s (.refl ..)
  | tagSessionEnd => exact execTagSessionEnd_made rfl s (.refl ..)
  | inventory afi len mask sixteen => exact execInventory_made rfl afi len mask sixteen s (.refl ..)
  | stayQuiet r => exact execStayQuiet_made rfl r s (.refl ..)
  | readMultipleBlocks r first count => exact execReadMultipleBlocks_made rfl r first count s (.refl ..)
  | extendedReadMultipleBlocks r first count => exact execExtendedReadMultipleBlocks_made rfl r first count s (.refl ..)
  | lockBlock r b => exact execLockBlock_made rfl r b s (.refl ..)
  | extendedLockBlock r b => exact execExtendedLockBlock_made rfl r b s (.refl ..)
  | tagUnsupportedCommand r => exact execTagUnsupportedCommand_made rfl r s (.refl ..)
  | tagSnapshotDone => exact execTagSnapshotDone_made rfl s (.refl ..)
  | tagLockProgrammed ok => exact execTagLockProgrammed_made rfl ok s (.refl ..)
  | tagShadowProgrammed ok => exact execTagShadowProgrammed_made rfl ok s (.refl ..)
  | tagPageCommit => exact execTagPageCommit_made rfl s (.refl ..)
  | tagLockCmd data => exact execTagLockCmd_made rfl data s (.refl ..)
  | tagLockGroupProgrammed => exact execTagLockGroupProgrammed_made rfl s (.refl ..)
  | tagLockGroupCommit => exact execTagLockGroupCommit_made rfl s (.refl ..)
  | loadKey key slot => exact execLoadKey_made rfl key slot s (.refl ..)
  | clearKey key slot => exact execClearKey_made rfl key slot s (.refl ..)
  | bind key range slot => exact execBind_made rfl key range slot s (.refl ..)
  | rekey key range slot => exact execRekey_made rfl key range slot s (.refl ..)
  | erase key range unbind => exact execErase_made rfl key range unbind s (.refl ..)
  | kiteInstruction turns ferr lerr ans => exact execKiteInstruction_made rfl turns ferr lerr ans s (.refl ..)
  | mtimerInterrupt => exact execMtimerInterrupt_made rfl s (.refl ..)
  | kitMsip on => exact execKitMsip_made rfl on s (.refl ..)
  | fwCheckStart region => exact execFwCheckStart_made rfl region s (.refl ..)
  | fwCheckDone => exact execFwCheckDone_made rfl s (.refl ..)
  | wdtEnable => exact execWdtEnable_made rfl s (.refl ..)
  | wdtService m key => exact execWdtService_made rfl m key s (.refl ..)
  | mbxH2kSend => exact execMbxH2kSend_made rfl s (.refl ..)
  | mbxH2kDone => exact execMbxH2kDone_made rfl s (.refl ..)
  | mbxK2hSend => exact execMbxK2hSend_made rfl s (.refl ..)
  | mbxK2hDone => exact execMbxK2hDone_made rfl s (.refl ..)
  | ping => exact execPing_made rfl s (.refl ..)
  | info => exact execInfo_made rfl s (.refl ..)
  | check => exact execCheck_made rfl s (.refl ..)
  | policyApply => exact execPolicyApply_made rfl s (.refl ..)
  | nightlyDue service => exact execNightlyDue_made rfl service s (.refl ..)
  | wearSummaryDue buf hours top topCount startNo => exact execWearSummaryDue_made rfl buf hours top topCount startNo s (.refl ..)
  | tlmScan samples busy => exact execTlmScan_made rfl samples busy s (.refl ..)
  | tlmLogDue => exact execTlmLogDue_made rfl s (.refl ..)
  | tlmLogBeat => exact execTlmLogBeat_made rfl s (.refl ..)
  | alarmTest on => exact execAlarmTest_made rfl on s (.refl ..)
  | lcyAdvance target key => exact execLcyAdvance_made rfl target key s (.refl ..)
  | lcyAdvanceDone ok => exact execLcyAdvanceDone_made rfl ok s (.refl ..)
  | bistStart => exact execBistStart_made rfl s (.refl ..)
  | bistPatternsDone sig => exact execBistPatternsDone_made rfl sig s (.refl ..)
  | bistWaitTimeout => exact execBistWaitTimeout_made rfl s (.refl ..)
  | tapReset => exact execTapReset_made rfl s (.refl ..)
  | extest cells => exact execExtest_made rfl cells s (.refl ..)
  | idcode => exact execIdcode_made rfl s (.refl ..)
  | samplePreload cells => exact execSamplePreload_made rfl cells s (.refl ..)
  | highz => exact execHighz_made rfl s (.refl ..)
  | clamp => exact execClamp_made rfl s (.refl ..)
  | bypass => exact execBypass_made rfl s (.refl ..)
  | regionsPoweredDown => exact execRegionsPoweredDown_made rfl s (.refl ..)
  | handshakeSideWrite n g v => exact execHandshakeSideWrite_made rfl n g v s (.refl ..)
  | clockSideRead n g => exact execClockSideRead_made rfl n g s (.refl ..)
  | controlBlockDiscard p => exact execControlBlockDiscard_made rfl p s (.refl ..)
  | strayDataBlock p => exact execStrayDataBlock_made rfl p s (.refl ..)
  | frmErr => exact execFrmErr_made rfl s (.refl ..)

/-- Every step answers a next state and keeps canonical stores canonical: a command by its law, an idle turn by that of the clocks. -/
theorem step_ends (s : State) : ∃ t, step s = .next t ∧ (Memory.wf s = true → Memory.wf t = true) := by
  unfold step
  split
  · exact ⟨idle s, rfl, (idle_made (Nat.or_self _) s (.refl ..)).wf⟩
  · next c q _ =>
    obtain ⟨t, hexec, hmade⟩ := exec_made c { s with pending := q }
    exact ⟨t, hexec, hmade.wf⟩

/-- Settles O58: every command's meaning answers a next state and keeps the stores canonical (`exec_made`), and so does an idle turn. -/
theorem stepAnswersAndKeepsStores : Obligations.StepAnswersAndKeepsStores := by
  intro s
  obtain ⟨t, hstep, hwf⟩ := step_ends s
  refine ⟨⟨t, hstep⟩, fun u hs hu => ?_⟩
  obtain rfl : t = u := Host.Outcome.next.inj (hstep.symm.trans hu)
  exact hwf hs

end Sys2Proof.Machine

/-! ### The state after power-on reset (R585, Table 23-3) -/
namespace Sys2Proof.Machine

/-- After power-on reset a register reads its reset word. -/
theorem rd_reset (a : Nat) : rd State.reset a = resetWord a := rfl

/-- The reset word at offset `o + x` of block `b`: of a register with index, whose entries begin at `o`. -/
theorem resetWord_at (b o x : Nat) (h : o + x < 0x10000) : resetWord (b * 0x10000 + o + x) = resetWordIn b (o + x) := by
  unfold resetWord; congr 1 <;> omega

theorem resetWord_CTX_CTL (i : Nat) : resetWord (R.CTX_CTL i) = 0x1C#32 :=
  (resetWord_at 0x08 0 (64 * (i % 1024)) (by omega)).trans (if_pos (by omega))

theorem resetWord_CTX_LIM (i : Nat) : resetWord (R.CTX_LIM i) = 1#32 :=
  (resetWord_at 0x08 0x28 (64 * (i % 1024)) (by omega)).trans <| (if_neg (by omega)).trans (if_pos (by omega))

theorem resetWord_HAR_LCTL (i : Nat) : resetWord (R.HAR_LCTL i) = 0xF#32 :=
  (resetWord_at 0x0C 0x10 (4 * (i % 4)) (by omega)).trans <| (if_neg (by omega)).trans (if_pos (by omega))

theorem resetWord_SFQ_WM (i : Nat) : resetWord (R.SFQ_WM i) = 0x01000300#32 :=
  (resetWord_at 0x0D 4 (32 * (i % 64)) (by omega)).trans (if_pos (by omega))

theorem resetWord_LIN_DIV (i : Nat) : resetWord (R.LIN_DIV i) = 4166#32 :=
  (resetWord_at 0x0E 0x8004 (512 * (i % 16)) (by omega)).trans <| (if_neg (by omega)).trans <| (if_pos (by omega)).trans <|
    (if_neg (by omega)).trans (if_pos (by omega))

theorem resetWord_LIN_TIME (i : Nat) : resetWord (R.LIN_TIME i) = 0x000403E8#32 :=
  (resetWord_at 0x0E 0x800C (512 * (i % 16)) (by omega)).trans <| (if_neg (by omega)).trans <| (if_pos (by omega)).trans <|
    (if_neg (by omega)).trans <| (if_neg (by omega)).trans (if_pos (by omega))

theorem resetWord_SENT_TICK (i : Nat) : resetWord (R.SENT_TICK i) = 3000#32 :=
  (resetWord_at 0x0E 0xC004 (256 * (i % 8)) (by omega)).trans <| (if_neg (by omega)).trans <| (if_neg (by omega)).trans <|
    (if_pos (by omega)).trans <| (if_neg (by omega)).trans (if_pos (by omega))

/-- Settles O57: every store is empty after reset, so a register reads its reset word, which the lemmas above find in Table 23-3. -/
theorem resetState : Obligations.ResetState := by
  refine ⟨rfl, rfl, rfl, rfl, rfl, rfl, fun _ => rfl, rfl, by decide, fun i => ?_⟩
  simp only [rd_reset]
  exact ⟨resetWord_HAR_LCTL i, resetWord_SFQ_WM i, resetWord_LIN_DIV i, resetWord_LIN_TIME i, resetWord_SENT_TICK i,
    resetWord_CTX_CTL i, resetWord_CTX_LIM i⟩

end Sys2Proof.Machine

/-! ### Register writes by field type, and writes that are turned away (R9, R11, R43, R345) -/
namespace Sys2Proof.Machine

/-- `alarmUpdate` changes registers of `alarmBlocks` only. -/
theorem alarmUpdate_rd {r : Nat} (h : blockOf r ∉ alarmBlocks) (s : State) : rd (alarmUpdate s) r = rd s r := by
  have hbit : ∀ b < 32, b ∉ alarmBlocks → Nat.testBit 9702120385800034678999074 (64 + b) = false := by decide
  exact (alarmUpdate_made (Nat.or_self _) s (.refl ..)).blk r (hbit _ (Nat.mod_lt _ (by decide)) h)

/-- A write by field type, bit by bit (R11, Table 0-4). -/
theorem plainWrite_bit (s : State) (a : Nat) (v : W32) (i : Fin 32) :
    (rd (plainWrite s a v) a).getLsbD i =
      (((if (wmask a).rw.testBit i then v.getLsbD i else (rd s a).getLsbD i) && !(v.getLsbD i && (wmask a).w1c.testBit i))
        || (v.getLsbD i && (wmask a).w1s.testBit i)) := by
  have hi : i.val < 32 := i.isLt
  unfold plainWrite
  rw [rd_wr_same]
  simp only [w32, BitVec.getLsbD_or, BitVec.getLsbD_and, BitVec.getLsbD_not, BitVec.getLsbD_ofNat, hi, decide_true, Bool.true_and]
  cases (wmask a).rw.testBit i <;> simp

/-- A plain register has no effect but its field types. -/
theorem blockStore_plain {a : Nat} (h : plainReg a = true) (s : State) (m : Master) (v : W32) :
    blockStore s m a v = plainWrite s a v := by
  unfold plainReg at h
  unfold blockStore
  split at h <;> simp_all

/-- A plain register lies in register space proper, and no alarm shows in its block. -/
theorem plainReg_block {a : Nat} (h : plainReg a = true) : a < 0x180000 ∧ blockOf a ∉ alarmBlocks := by
  unfold plainReg at h
  unfold blockOf alarmBlocks
  split at h <;> simp_all <;> omega

/-- A block that is away ignores writes (R43). -/
theorem regStore_away {s : State} {a : Nat} (h : regAway s a = true) (m : Master) (v : W32) : regStore s m a v = s :=
  if_pos (.inr h)

/-- A block in service takes a write, and the alarm follows (R562). -/
theorem regStore_served {s : State} {a : Nat} (ha : a < 0x180000) (h : regAway s a = false) (m : Master) (v : W32) :
    regStore s m a v = alarmUpdate (blockStore s m a v) :=
  if_neg (by simp [h]; omega)

/-- Settles O1: the write is a `plainWrite`, and the alarm that follows it reaches neither the register nor another block than its own. -/
theorem registerWriteByType : Obligations.RegisterWriteByType := by
  intro s m a v hdeny hplain haway
  obtain ⟨hlt, hblk⟩ := plainReg_block hplain
  have hexec : exec (.regWrite m a v 0xF#4) s = .next (alarmUpdate (plainWrite s (4 * a.val) v)) := by
    show execRegWrite m a v 0xF#4 s = _
    simp [execRegWrite, hdeny, regStore_served hlt haway, blockStore_plain hplain]
  refine ⟨_, hexec, fun i => ?_, fun r hr hrb => ?_⟩
  · rw [alarmUpdate_rd hblk]
    exact plainWrite_bit s (4 * a.val) v i
  · rw [alarmUpdate_rd hrb]
    exact rd_wr_ne hr s _

/-- Settles O2: each of the three checks stands before the write; a request that a member denies is one count. -/
theorem registerWritesTurnedAway : Obligations.RegisterWritesTurnedAway := by
  intro s m a v be
  refine ⟨fun hdeny hbe => ?_, fun hdeny haway => ?_, fun hmem i hi => ?_⟩
  · show execRegWrite m a v be s = _
    simp [execRegWrite, hdeny, hbe]
  · have hstore := regStore_away haway m v
    refine ⟨?_, ?_, ?_⟩
    · show execRegWrite m a v be s = _
      simp [execRegWrite, hdeny, hstore]
    · show execWideLowWrite m a v s = _
      simp [execWideLowWrite, hdeny, hstore]
    · show execWideHighWrite m a v s = _
      simp [execWideHighWrite, hdeny, hstore]
  · have hexec : exec i s = .next (denied s) := by
      have hdeny : localDeny s .host = true := by simp [localDeny, hmem]
      simp only [List.mem_cons, List.not_mem_nil, or_false] at hi
      rcases hi with rfl | rfl | rfl <;> exact if_pos hdeny
    refine ⟨_, hexec, ?_, fun r hr => rd_setf_ne hr s _, rfl⟩
    rw [denied, satAdd, getf_setf_same _ _ _ (by decide)]
    exact Nat.mod_eq_of_lt (Nat.lt_succ_of_le (Nat.min_le_left _ _))

end Sys2Proof.Machine

/-! ### Quantities that span two registers (R14) -/
namespace Sys2Proof.Machine

/-! #### The latches and held words of a master -/

@[simp] theorem wideOf_setWide (s : State) (m : Master) (x : Wide) : wideOf (setWide s m x) m = x := by cases m <;> rfl

@[simp] theorem wideOf_setWide_other (s : State) (m : Master) (x : Wide) :
    wideOf (setWide s m x) (otherMaster m) = wideOf s (otherMaster m) := by cases m <;> rfl

@[simp] theorem setWide_rd (s : State) (m : Master) (x : Wide) (r : Nat) : rd (setWide s m x) r = rd s r := by cases m <;> rfl

theorem wideOf_congr {s t : State} (h : t.hif = s.hif) (m : Master) : wideOf t m = wideOf s m := by
  unfold wideOf; rw [h]

/-- A device event that is sent leaves every latch and held word. -/
theorem sendDev_wideOf (s : State) (k : Nat) (m : Master) : wideOf (sendDev s k) m = wideOf s m := by
  unfold sendDev
  split_ifs
  · exact (wideOf_congr ((sendMsg_made (Nat.or_self _) _ _ _ (.refl ..)).hif rfl) m).trans (by cases m <;> rfl)
  · exact (wideOf_congr ((sendVec_made (Nat.or_self _) _ _ (.refl ..)).hif rfl) m).trans (by cases m <;> rfl)
  · rfl

/-- A device event is noted (R274): its bit is pending, Kite sees it, and it counts as not sent. -/
def devNoted (s : State) (k : Nat) : State :=
  let t := kitIrq (wr s R.HIF_DEV_PEND (rd s R.HIF_DEV_PEND ||| w32 (2 ^ k))) 3
  { t with hif := { t.hif with devSent := clearBit t.hif.devSent k } }

/-- A device event does nothing where its bit is pending; else it is noted, and sent where it is enabled. -/
theorem devEvent_eq (s : State) (k : Nat) :
    devEvent s k = if evtPending s k then s
      else if bit (rd (devNoted s k) R.HIF_DEV_EN).toNat k then sendDev (devNoted s k) k else devNoted s k := rfl

theorem devNoted_rd {r : Nat} (hpend : r ≠ R.HIF_DEV_PEND) (hkit : r ≠ R.KIT_IRQ_PEND) (s : State) (k : Nat) :
    rd (devNoted s k) r = rd s r := (rd_wr_ne hkit _ _).trans (rd_wr_ne hpend _ _)

theorem devNoted_wideOf (s : State) (k : Nat) (m : Master) : wideOf (devNoted s k) m = wideOf s m := by cases m <;> rfl

theorem devEvent_wideOf (s : State) (k : Nat) (m : Master) : wideOf (devEvent s k) m = wideOf s m := by
  rw [devEvent_eq]
  split_ifs
  · rfl
  · rw [sendDev_wideOf, devNoted_wideOf]
  · exact devNoted_wideOf s k m

@[simp] theorem alarmUpdate_wideOf (s : State) (m : Master) : wideOf (alarmUpdate s) m = wideOf s m := by
  unfold alarmUpdate
  dsimp only
  split_ifs
  · exact (devEvent_wideOf ..).trans (by cases m <;> rfl)
  · cases m <;> rfl

@[simp] theorem alarmUpdate_heldLow (s : State) (m : Master) (hi : Nat) : heldLow (alarmUpdate s) m hi = heldLow s m hi := by
  simp [heldLow]

@[simp] theorem holdLow_heldLow (s : State) (m : Master) (hi : Nat) (v : W32) : heldLow (holdLow s m hi v) m hi = some v := by
  simp [heldLow, holdLow, sget_sput_same]

@[simp] theorem holdLow_wideOf_other (s : State) (m : Master) (hi : Nat) (v : W32) :
    wideOf (holdLow s m hi v) (otherMaster m) = wideOf s (otherMaster m) := wideOf_setWide_other ..

@[simp] theorem holdLow_rd (s : State) (m : Master) (hi : Nat) (v : W32) (r : Nat) : rd (holdLow s m hi v) r = rd s r := setWide_rd ..

@[simp] theorem dropLow_heldLow (s : State) (m : Master) (hi : Nat) : heldLow (dropLow s m hi) m hi = none := by
  simp [heldLow, dropLow, sget_sdel_same]

@[simp] theorem dropLow_wideOf_other (s : State) (m : Master) (hi : Nat) :
    wideOf (dropLow s m hi) (otherMaster m) = wideOf s (otherMaster m) := wideOf_setWide_other ..

@[simp] theorem dropLow_rd (s : State) (m : Master) (hi : Nat) (r : Nat) : rd (dropLow s m hi) r = rd s r := setWide_rd ..

@[simp] theorem wr_wideOf (s : State) (a : Nat) (v : W32) (m : Master) : wideOf (wr s a v) m = wideOf s m := rfl

@[simp] theorem wr_heldLow (s : State) (a : Nat) (v : W32) (m : Master) (hi : Nat) : heldLow (wr s a v) m hi = heldLow s m hi := rfl

/-! #### Reads -/

/-- What a key reads after the words of `ks` have been listed. -/
theorem sget_foldl_sput {α : Type} (f : Nat → α) (ks : List Nat) (l : List (Nat × α)) (k : Nat) :
    sget k (ks.foldl (fun l h => sput h (f h) l) l) = if k ∈ ks then some (f k) else sget k l := by
  induction ks generalizing l with
  | nil => simp
  | cons j ks ih =>
    rw [List.foldl_cons, ih]
    by_cases hk : k = j
    · subst hk; simp [sget_sput_same]
    · simp [hk, sget_sput_ne hk]

/-- A read that finds a latched word returns it and forgets it. -/
theorem regRead_latched {s : State} {m : Master} {a : Nat} {w : W32} (hpop : popOffset a = none)
    (h : sget a (wideOf s m).rd = some w) :
    regRead s m a = (setWide s m { wideOf s m with rd := sdel a (wideOf s m).rd }, w) := by
  simp [regRead, hpop, h]

/-- Any other read returns the present word and latches the high words that belong to it. -/
theorem regRead_present {s : State} {m : Master} {a : Nat} (hpop : popOffset a = none) (h : sget a (wideOf s m).rd = none) :
    regRead s m a = (setWide s m { wideOf s m with
      rd := (highWords a).foldl (fun l h => sput h (readWord s h) l) (wideOf s m).rd }, readWord s a) := by
  simp [regRead, hpop, h]

/-- The data of a register read go out, whatever the boundary cells do. -/
theorem emit_regData_out (s : State) (a : Nat) (w : W32) : (emit s (.regData a w)).out = s.out ++ [.regData a w] :=
  emit_out s _ (by simp [covered])

/-- The state after a register read with its data changes its output and the latches of its own master alone. -/
theorem emit_setWide_frame (s : State) (m : Master) (x : Wide) (o : Out) :
    let t := emit (setWide s m x) o
    t = { s with out := t.out, hif := t.hif } ∧ wideOf t (otherMaster m) = wideOf s (otherMaster m) ∧ wideOf t m = x := by
  cases m <;> exact ⟨rfl, rfl, rfl⟩

@[simp] theorem setWide_out (s : State) (m : Master) (x : Wide) : (setWide s m x).out = s.out := by cases m <;> rfl

/-! #### Writes -/

/-- Both words of a pair are written, with the low word that the master holds or else the present one. -/
def pairStore (s : State) (m : Master) (hi : Nat) (v : W32) : State :=
  wr (wr (dropLow s m hi) (hi - 4) ((heldLow s m hi).getD (rd s (hi - 4)))) hi v

theorem pairStore_rd_other (s : State) (m : Master) (v : W32) {hi r : Nat} (hr : r ≠ hi) (hl : r ≠ hi - 4) :
    rd (pairStore s m hi v) r = rd s r := by
  unfold pairStore; rw [rd_wr_ne hr, rd_wr_ne hl, dropLow_rd]

/-- What a pair reads after `pairStore` and the alarm that follows it, where the alarm reaches neither of its words. -/
theorem pairStore_alarmUpdate (s : State) (m : Master) (v : W32) {lo hi : Nat} (hpair : hi = lo + 4)
    (hlo : ∀ u, rd (alarmUpdate u) lo = rd u lo) (hhi : ∀ u, rd (alarmUpdate u) hi = rd u hi) :
    let t := alarmUpdate (pairStore s m hi v)
    rd t lo = (heldLow s m hi).getD (rd s lo) ∧ rd t hi = v ∧ heldLow t m hi = none
      ∧ wideOf t (otherMaster m) = wideOf s (otherMaster m) := by
  have hsub : hi - 4 = lo := by omega
  have hne : lo ≠ hi := by omega
  simp [hlo, hhi, pairStore, hsub, rd_wr_ne hne]

/-- WIDE_LOW_WRITE in a block in service. -/
theorem exec_wideLowWrite {s : State} {m : Master} {a : Fin 0x80000} (v : W32) (ha : 4 * a.val < 0x180000)
    (hdeny : localDeny s m = false) (haway : regAway s (4 * a.val) = false) :
    exec (.wideLowWrite m a v) s = .next (alarmUpdate (blockStore s m (4 * a.val) v)) := by
  show execWideLowWrite m a v s = _
  simp [execWideLowWrite, hdeny, regStore_served ha haway]

/-- WIDE_HIGH_WRITE in a block in service. -/
theorem exec_wideHighWrite {s : State} {m : Master} {a : Fin 0x80000} (v : W32) (ha : 4 * a.val < 0x180000)
    (hdeny : localDeny s m = false) (haway : regAway s (4 * a.val) = false) :
    exec (.wideHighWrite m a v) s = .next (alarmUpdate (blockStore s m (4 * a.val) v)) := by
  show execWideHighWrite m a v s = _
  simp [execWideHighWrite, hdeny, regStore_served ha haway]

/-! #### The address pairs of a context (Table 10-5) -/

theorem blockStore_ctx (s : State) (m : Master) (c o : Nat) (v : W32) (hc : c < 1024) (ho : o < 64) :
    blockStore s m (R.CTX_CTL c + o) v = ctxStore s m c o v := by
  have h1 : (R.CTX_CTL c + o) / 0x10000 = 0x08 := by simp only [R.CTX_CTL]; omega
  have h2 : (R.CTX_CTL c + o) % 0x10000 / 64 = c := by simp only [R.CTX_CTL]; omega
  have h3 : (R.CTX_CTL c + o) % 64 = o := by simp only [R.CTX_CTL]; omega
  unfold blockStore
  simp only [h1, h2, h3]

/-- The low word of an address of a context is held. -/
theorem ctxStore_low {s : State} {m : Master} {c : Nat} (hden : ctxDenied s m c = false) (k : Fin 3) (v : W32) :
    ctxStore s m c (8 + 8 * k.val) v = holdLow s m (R.CTX_CTL c + (8 + 8 * k.val) + 4) v := by
  unfold ctxStore
  rw [hden]
  fin_cases k <;> rfl

/-- The high word of an address of a DISABLED context writes the pair. -/
theorem ctxStore_high {s : State} {m : Master} {c : Nat} (hden : ctxDenied s m c = false)
    (hst : getf s (F.CTX_STAT_STATE c) = stDisabled) (k : Fin 3) (v : W32) :
    ctxStore s m c (12 + 8 * k.val) v = pairStore s m (R.CTX_CTL c + (12 + 8 * k.val)) v := by
  have hpair (hi : Nat) : ctxPair s m c hi v = pairStore s m hi v := by
    have hst' : getf (dropLow s m hi) (F.CTX_STAT_STATE c) = stDisabled := by
      unfold getf at hst ⊢; rw [dropLow_rd]; exact hst
    exact if_pos hst'
  rw [← hpair]
  unfold ctxStore
  rw [hden]
  fin_cases k <;> rfl

/-! #### KIT_MTIMECMP (Table 21-9) -/

/-- Of Kite's registers a device event reaches KIT_IRQ_PEND alone. -/
theorem devEvent_rd_kit {a : Nat} (hb : blockOf a = 19) (ha : a ≠ R.KIT_IRQ_PEND) (s : State) (k : Nat) :
    rd (devEvent s k) a = rd s a := by
  have hnoted : rd (devNoted s k) a = rd s a := devNoted_rd (by rintro rfl; exact absurd hb (by decide)) ha s k
  rw [devEvent_eq]
  split_ifs
  · rfl
  · exact ((sendDev_made (Nat.or_self _) _ k (.refl ..)).blk a (by rw [hb]; rfl)).trans hnoted
  · exact hnoted

theorem alarmUpdate_rd_kit {a : Nat} (hb : blockOf a = 19) (ha : a ≠ R.KIT_IRQ_PEND) (s : State) :
    rd (alarmUpdate s) a = rd s a := by
  have halarm : a ≠ R.DEV_ALARM := by rintro rfl; exact absurd hb (by decide)
  have hcnt : a ≠ F.DEV_ALARM_CNT_COUNT.reg := by rintro rfl; exact absurd hb (by decide)
  unfold alarmUpdate
  dsimp only
  split_ifs
  · rw [devEvent_rd_kit hb ha, kitIrq, rd_wr_ne ha, satAdd, rd_setf_ne hcnt, rd_wr_ne halarm]
  · exact rd_wr_ne halarm s _

theorem blockStore_mtimecmp_low (s : State) (m : Master) (v : W32) :
    blockStore s m (R.KIT_MTIMECMP 0) v = holdLow s m (R.KIT_MTIMECMP 0 + 4) v := rfl

theorem blockStore_mtimecmp_high (s : State) (m : Master) (v : W32) :
    blockStore s m (R.KIT_MTIMECMP 0 + 4) v = pairStore s m (R.KIT_MTIMECMP 0 + 4) v := rfl

/-! #### The obligation -/

/-- A wide read of a register that is no FIFO's pop. -/
theorem wideLowRead_does (s : State) (m : Master) (a : Fin 0x80000) (hpop : popOffset (4 * a.val) = none) :
    Does (.wideLowRead m a) s (fun t =>
      t = { s with out := t.out, hif := t.hif } ∧ wideOf t (otherMaster m) = wideOf s (otherMaster m) ∧ (wideOf t m).wr = (wideOf s m).wr
      ∧ match sget (4 * a.val) (wideOf s m).rd with
        | some w => t.out = s.out ++ [.regData (4 * a.val) w] ∧ sget (4 * a.val) (wideOf t m).rd = none
        | none => t.out = s.out ++ [.regData (4 * a.val) (readWord s (4 * a.val))]
            ∧ ∀ h ∈ highWords (4 * a.val), sget h (wideOf t m).rd = some (readWord s h)) := by
  have hexec : exec (.wideLowRead m a) s =
      .next (emit (regRead s m (4 * a.val)).1 (.regData (4 * a.val) (regRead s m (4 * a.val)).2)) := rfl
  refine ⟨_, hexec, ?_⟩
  cases hlatch : sget (4 * a.val) (wideOf s m).rd with
  | some w =>
    rw [regRead_latched hpop hlatch]
    obtain ⟨hframe, hother, hmine⟩ := emit_setWide_frame s m { wideOf s m with rd := sdel (4 * a.val) (wideOf s m).rd }
      (.regData (4 * a.val) w)
    refine ⟨hframe, hother, by rw [hmine], ?_, by rw [hmine]; exact sget_sdel_same ..⟩
    rw [emit_regData_out, setWide_out]
  | none =>
    rw [regRead_present hpop hlatch]
    obtain ⟨hframe, hother, hmine⟩ := emit_setWide_frame s m { wideOf s m with
      rd := (highWords (4 * a.val)).foldl (fun l h => sput h (readWord s h) l) (wideOf s m).rd }
      (.regData (4 * a.val) (readWord s (4 * a.val)))
    refine ⟨hframe, hother, by rw [hmine], ?_, fun h hh => ?_⟩
    · rw [emit_regData_out, setWide_out]
    · rw [hmine, sget_foldl_sput, if_pos hh]

/-- Writes of the two words of a context's address. -/
theorem ctxAddress_does (s : State) (m : Master) (v : W32) (c : Fin 1024) (k : Fin 3) (lo hi : Fin 0x80000)
    (hlo : 4 * lo.val = R.CTX_SQ_LO c + 8 * k.val) (hhi : hi.val = lo.val + 1) (hdeny : localDeny s m = false)
    (hden : ctxDenied s m c = false) (hawayLo : regAway s (4 * lo.val) = false) (hawayHi : regAway s (4 * hi.val) = false) :
    Does (.wideLowWrite m lo v) s (fun t => (∀ r, blockOf r ∉ alarmBlocks → rd t r = rd s r)
      ∧ heldLow t m (4 * hi.val) = some v ∧ wideOf t (otherMaster m) = wideOf s (otherMaster m))
    ∧ (getf s (F.CTX_STAT_STATE c) = stDisabled → Does (.wideHighWrite m hi v) s (fun t =>
        rd t (4 * lo.val) = (heldLow s m (4 * hi.val)).getD (rd s (4 * lo.val)) ∧ rd t (4 * hi.val) = v
        ∧ heldLow t m (4 * hi.val) = none ∧ wideOf t (otherMaster m) = wideOf s (otherMaster m)
        ∧ ∀ r, r ≠ 4 * lo.val → r ≠ 4 * hi.val → blockOf r ∉ alarmBlocks → rd t r = rd s r)) := by
  have hc := c.isLt
  have hk := k.isLt
  have hloAddr : 4 * lo.val = R.CTX_CTL c + (8 + 8 * k.val) := by rw [hlo]; simp only [R.CTX_SQ_LO, R.CTX_CTL]; omega
  have hhiAddr : 4 * hi.val = R.CTX_CTL c + (12 + 8 * k.val) := by omega
  have hpair : 4 * hi.val = 4 * lo.val + 4 := by omega
  have hbound : R.CTX_CTL c + 64 ≤ 0x90000 := by simp only [R.CTX_CTL]; omega
  have hbase : 0x80000 ≤ R.CTX_CTL c := by simp only [R.CTX_CTL]; omega
  have hblock {a : Nat} (h1 : 0x80000 ≤ a) (h2 : a < 0x90000) : blockOf a ∉ alarmBlocks := by
    rw [show blockOf a = 8 by unfold blockOf; omega]; decide
  refine ⟨⟨_, exec_wideLowWrite v (by omega) hdeny hawayLo, ?_⟩, fun hst => ⟨_, exec_wideHighWrite v (by omega) hdeny hawayHi, ?_⟩⟩
  · rw [hloAddr, blockStore_ctx s m c _ v hc (by omega), ctxStore_low hden, ← hloAddr, ← hpair]
    exact ⟨fun r hr => by rw [alarmUpdate_rd hr, holdLow_rd], by simp, by simp⟩
  · rw [hhiAddr, blockStore_ctx s m c _ v hc (by omega), ctxStore_high hden hst, ← hhiAddr]
    obtain ⟨hlow, hhigh, hheld, hother⟩ := pairStore_alarmUpdate s m v hpair
      (alarmUpdate_rd (hblock (by omega) (by omega))) (alarmUpdate_rd (hblock (by omega) (by omega)))
    exact ⟨hlow, hhigh, hheld, hother, fun r hrlo hrhi hr => by
      rw [alarmUpdate_rd hr, pairStore_rd_other s m v hrhi (by omega)]⟩

/-- Writes of the two words of KIT_MTIMECMP. -/
theorem mtimecmp_does (s : State) (m : Master) (v : W32) (lo hi : Fin 0x80000)
    (hlo : 4 * lo.val = R.KIT_MTIMECMP 0) (hhi : hi.val = lo.val + 1) (hdeny : localDeny s m = false)
    (hawayLo : regAway s (4 * lo.val) = false) (hawayHi : regAway s (4 * hi.val) = false) :
    Does (.wideLowWrite m lo v) s (fun t => rd t (4 * lo.val) = rd s (4 * lo.val) ∧ rd t (4 * hi.val) = rd s (4 * hi.val)
      ∧ heldLow t m (4 * hi.val) = some v ∧ wideOf t (otherMaster m) = wideOf s (otherMaster m))
    ∧ Does (.wideHighWrite m hi v) s (fun t =>
        rd t (4 * lo.val) = (heldLow s m (4 * hi.val)).getD (rd s (4 * lo.val)) ∧ rd t (4 * hi.val) = v
        ∧ heldLow t m (4 * hi.val) = none ∧ wideOf t (otherMaster m) = wideOf s (otherMaster m)) := by
  have hloLit : 4 * lo.val = 0x130058 := hlo
  have hpair : 4 * hi.val = R.KIT_MTIMECMP 0 + 4 := by omega
  have hkitLo := alarmUpdate_rd_kit (a := R.KIT_MTIMECMP 0) rfl (by decide)
  have hkitHi := alarmUpdate_rd_kit (a := R.KIT_MTIMECMP 0 + 4) rfl (by decide)
  refine ⟨⟨_, exec_wideLowWrite v (by omega) hdeny hawayLo, ?_⟩, ⟨_, exec_wideHighWrite v (by omega) hdeny hawayHi, ?_⟩⟩
  · rw [hlo, hpair, blockStore_mtimecmp_low]
    exact ⟨by rw [hkitLo, holdLow_rd], by rw [hkitHi, holdLow_rd], by simp, by simp⟩
  · rw [hlo, hpair, blockStore_mtimecmp_high]
    exact pairStore_alarmUpdate s m v rfl hkitLo hkitHi

/-- Settles O3: reads by `wideLowRead_does`; writes are held or a `pairStore`, and the alarm after them reaches no word of the pair. -/
theorem widePairs : Obligations.WidePairs := fun s m v =>
  ⟨wideLowRead_does s m, ctxAddress_does s m v, mtimecmp_does s m v⟩

end Sys2Proof.Machine

/-! ### Messages that a port carries (R331, R335)

A message that waits on a port or has gone out of it stays there, as a waiting message or in the replay buffer, whatever the unit
sends after it. Each lemma `<operation>_keepsMsgs` follows the messages that a port carried in an earlier state `s0` through the operation. -/
namespace Sys2Proof.Machine

/-- Every message that a port carries in `s` it carries in `t`. -/
structure KeepsMsgs (s t : State) : Prop where
  carries_of : ∀ p m, carries s p m → carries t p m

theorem KeepsMsgs.refl (s : State) : KeepsMsgs s s := ⟨fun _ _ h => h⟩

/-- The ports stay as they are. -/
theorem KeepsMsgs.of_ports {s0 s t : State} (h : KeepsMsgs s0 s) (e : t.ports = s.ports) : KeepsMsgs s0 t := by
  refine ⟨fun p m hc => ?_⟩
  have hcs := h.carries_of p m hc
  unfold carries port at *
  rwa [e]

/-- An operation leaves the ports as they are. -/
theorem KeepsMsgs.of_made {M : Nat} {s0 s t : State} (h : KeepsMsgs s0 s) (k : Made M s t) (hM : M.testBit 38 = false) : KeepsMsgs s0 t :=
  h.of_ports (k.ports hM)

theorem KeepsMsgs.ite {s0 s t : State} {c : Prop} [Decidable c] (h : KeepsMsgs s0 s) (k : KeepsMsgs s0 t) :
    KeepsMsgs s0 (if c then s else t) := by split <;> assumption

theorem KeepsMsgs.foldl {α : Type} {f : State → α → State} {s0 : State} (hf : ∀ t x, KeepsMsgs s0 t → KeepsMsgs s0 (f t x)) (l : List α)
    {s : State} (h : KeepsMsgs s0 s) : KeepsMsgs s0 (l.foldl f s) := by
  induction l generalizing s with
  | nil => exact h
  | cons x l ih => exact ih (hf s x h)

/-- Port record `x` carries the message. -/
def portHas (x : Port) (m : Msg) : Prop := (∃ w ∈ x.waits, w.m = m) ∨ ∃ r ∈ x.replay, r.m = m

theorem carries_iff (s : State) (p : Nat) (m : Msg) : carries s p m ↔ portHas (port s p) m := Iff.rfl

section
variable {s0 s : State}

/-- A port's record is replaced by one that carries at least as much. -/
theorem setPort_keepsMsgs {p : Nat} {x : Port} (hx : ∀ m, portHas (port s p) m → portHas x m) (h : KeepsMsgs s0 s) :
    KeepsMsgs s0 (setPort s p x) := by
  refine ⟨fun q m hc => ?_⟩
  have hcs := h.carries_of q m hc
  rw [carries_iff] at hcs ⊢
  by_cases hq : q = p
  · subst hq; rw [port_setPort]; exact hx m hcs
  · rw [port_setPort_ne hq]; exact hcs

theorem freeCells_keepsMsgs {p v n : Nat} (h : KeepsMsgs s0 s) : KeepsMsgs s0 (freeCells s p v n) :=
  setPort_keepsMsgs (fun _ hm => hm) h

theorem setf_keepsMsgs {f : Fld} {v : Nat} (h : KeepsMsgs s0 s) : KeepsMsgs s0 (setf s f v) := h.of_ports rfl

theorem wrapAdd_keepsMsgs {f : Fld} {n : Nat} (h : KeepsMsgs s0 s) : KeepsMsgs s0 (wrapAdd s f n) := h.of_ports rfl

theorem emit_keepsMsgs {o : Out} (h : KeepsMsgs s0 s) : KeepsMsgs s0 (emit s o) := h.of_ports (emit_ports ..)

theorem acceptMsg_keepsMsgs {p : Nat} {m : Msg} (h : KeepsMsgs s0 s) : KeepsMsgs s0 (acceptMsg s p m) := by
  unfold acceptMsg
  exact wrapAdd_keepsMsgs (setPort_keepsMsgs (fun _ hm => hm) h)

theorem sendCells_keepsMsgs {p : Nat} {r : Rep} (h : KeepsMsgs s0 s) : KeepsMsgs s0 (sendCells s p r) := by
  unfold sendCells
  exact emit_keepsMsgs (setPort_keepsMsgs (fun _ hm => hm) (setf_keepsMsgs h))

/-- The waiting message `w` leaves the queue for the replay buffer. -/
theorem portHas_of_sent {x y : Port} {w : Wait} {r : Rep} (hw : y.waits = x.waits.erase w) (hr : y.replay = x.replay ++ [r])
    (hm : r.m = w.m) {m : Msg} (h : portHas x m) : portHas y m := by
  rcases h with ⟨w', hw', rfl⟩ | ⟨r', hr', rfl⟩
  · by_cases he : w' = w
    · exact .inr ⟨r, by simp [hr], by rw [hm, he]⟩
    · exact .inl ⟨w', by rw [hw]; exact (List.mem_erase_of_ne he).2 hw', rfl⟩
  · exact .inr ⟨r', by simp [hr, hr'], rfl⟩

theorem sendNew_keepsMsgs {p : Nat} {w : Wait} (h : KeepsMsgs s0 s) : KeepsMsgs s0 (sendNew s p w) := by
  unfold sendNew
  dsimp only
  split
  · exact freeCells_keepsMsgs (wrapAdd_keepsMsgs (sendCells_keepsMsgs (setPort_keepsMsgs (fun _ => portHas_of_sent rfl rfl rfl) h)))
  · exact wrapAdd_keepsMsgs (sendCells_keepsMsgs (setPort_keepsMsgs (fun _ => portHas_of_sent rfl rfl rfl) h))

theorem sendCsync_keepsMsgs {p : Nat} (h : KeepsMsgs s0 s) : KeepsMsgs s0 (sendCsync s p) :=
  h.of_made (sendCsync_made (Nat.or_self _) s p (.refl ..)) rfl

theorem pumpPort_keepsMsgs {p : Nat} (fuel : Nat) (h : KeepsMsgs s0 s) : KeepsMsgs s0 (pumpPort s p fuel) := by
  induction fuel generalizing s with
  | zero => exact h
  | succ fuel ih =>
    have hagain (t : List Nat) : KeepsMsgs s0 (setPort s p { port s p with again := t }) := setPort_keepsMsgs (fun _ hm => hm) h
    unfold pumpPort
    dsimp only
    split
    · exact h
    · split
      · split
        · exact ih (hagain _)
        · split
          · exact ih (.ite (sendCsync_keepsMsgs (sendCells_keepsMsgs (hagain _))) (sendCells_keepsMsgs (hagain _)))
          · exact h
      · split
        · exact h
        · exact .ite (ih (sendNew_keepsMsgs h)) h

theorem flushPort_keepsMsgs {p : Nat} (h : KeepsMsgs s0 s) : KeepsMsgs s0 (flushPort s p) :=
  (pumpPort_keepsMsgs _ h).of_made (showReplay_made (Nat.or_self _) _ p (.refl ..)) rfl

theorem queueMsg_keepsMsgs {p : Nat} {src : Option Nat} {stomp : Bool} {m : Msg} (h : KeepsMsgs s0 s) :
    KeepsMsgs s0 (queueMsg s p src stomp m) := by
  refine .ite (flushPort_keepsMsgs (setPort_keepsMsgs (fun m' hm => ?_) h)) h
  rcases hm with ⟨w, hw, rfl⟩ | hr
  · exact .inl ⟨w, by simp [hw], rfl⟩
  · exact .inr hr

theorem sendMsg_keepsMsgs {p : Nat} {m : Msg} (h : KeepsMsgs s0 s) : KeepsMsgs s0 (sendMsg s p m) := queueMsg_keepsMsgs h

/-- A message queued on a port that is UP is carried by it. -/
theorem queueMsg_carries {p : Nat} (hup : portUp s p = true) (src : Option Nat) (stomp : Bool) (m : Msg) :
    carries (queueMsg s p src stomp m) p m := by
  unfold queueMsg
  rw [if_pos hup]
  refine (flushPort_keepsMsgs (.refl _)).carries_of p m ?_
  rw [carries_iff, port_setPort]
  exact .inl ⟨⟨src, stomp, m⟩, by simp, rfl⟩

/-- A message made here is carried by its port where that is UP. -/
theorem sendMsg_sends (s : State) (p : Nat) (m : Msg) : sends s (sendMsg s p m) p m := fun hup => queueMsg_carries hup ..

/-! #### Device events, records and returns -/

theorem sendVec_keepsMsgs {v : Nat} (h : KeepsMsgs s0 s) : KeepsMsgs s0 (sendVec s v) :=
  h.of_made (sendVec_made (Nat.or_self _) s v (.refl ..)) rfl

theorem sendDev_keepsMsgs {k : Nat} (h : KeepsMsgs s0 s) : KeepsMsgs s0 (sendDev s k) := by
  unfold sendDev
  exact .ite (sendMsg_keepsMsgs (h.of_ports rfl))
    (.ite (sendVec_keepsMsgs (h.of_ports rfl)) h)

theorem devEvent_keepsMsgs {k : Nat} (h : KeepsMsgs s0 s) : KeepsMsgs s0 (devEvent s k) := by
  have hnoted : KeepsMsgs s0 (devNoted s k) := h.of_ports rfl
  rw [devEvent_eq]
  exact .ite h (.ite (sendDev_keepsMsgs hnoted) hnoted)

theorem sendCtxInt_keepsMsgs {c : Nat} (h : KeepsMsgs s0 s) : KeepsMsgs s0 (sendCtxInt s c) := by
  unfold sendCtxInt
  exact .ite (sendMsg_keepsMsgs (h.of_ports rfl))
    (.ite (sendVec_keepsMsgs (h.of_ports rfl)) h)

theorem recordInt_keepsMsgs {c : Nat} (h : KeepsMsgs s0 s) : KeepsMsgs s0 (recordInt s c) := by
  unfold recordInt
  exact .ite (h.of_ports rfl) (.ite (sendCtxInt_keepsMsgs (h.of_ports rfl)) (h.of_ports rfl))

theorem ringPut_keepsMsgs {c addr : Nat} {bs : List Byte} (h : KeepsMsgs s0 s) : KeepsMsgs s0 (ringPut s c addr bs) := by
  unfold ringPut hostPut
  exact .ite (h.of_made (putBytes_made (Nat.or_self _) s addr bs (.refl ..)) rfl)
    (.ite (sendMsg_keepsMsgs h) (emit_keepsMsgs h))

theorem writeBack_keepsMsgs {c : Nat} (h : KeepsMsgs s0 s) : KeepsMsgs s0 (writeBack s c) := by
  unfold writeBack
  exact .ite (ringPut_keepsMsgs h) h

theorem putRec_keepsMsgs {c : Nat} {r : Rec} (h : KeepsMsgs s0 s) : KeepsMsgs s0 (putRec s c r) := by
  unfold putRec
  dsimp only
  refine .ite (recordInt_keepsMsgs (writeBack_keepsMsgs ?_)) (writeBack_keepsMsgs ?_) <;>
    exact (ringPut_keepsMsgs h).of_ports rfl

theorem writeRec_keepsMsgs {c : Nat} {r : Rec} (h : KeepsMsgs s0 s) : KeepsMsgs s0 (writeRec s c r) := by
  unfold writeRec
  exact .ite (h.of_ports rfl) (.ite (h.of_ports rfl) (putRec_keepsMsgs h))

theorem drainCheck_keepsMsgs {c : Nat} (h : KeepsMsgs s0 s) : KeepsMsgs s0 (drainCheck s c) :=
  h.of_made (drainCheck_made (Nat.or_self _) s c (.refl ..)) rfl

theorem outcome_keepsMsgs {c sq : Nat} {ws : List W32} {status detail : Nat} {r0 r1 : W32} (h : KeepsMsgs s0 s) :
    KeepsMsgs s0 (outcome s c sq ws status detail r0 r1) := by
  unfold outcome
  exact drainCheck_keepsMsgs (.ite (h.of_ports rfl) (writeRec_keepsMsgs (h.of_ports rfl)))

theorem complete_keepsMsgs {o : Op} {r : Ret} (h : KeepsMsgs s0 s) : KeepsMsgs s0 (complete s o r) := by
  have hunlent : KeepsMsgs s0 (unlend { s with ops := s.ops.filter (fun p => p.tag != o.tag) } o) := h.of_ports rfl
  unfold complete
  dsimp only
  split
  · exact sendMsg_keepsMsgs (hunlent.of_made (freeToken_made (Nat.or_self _) _ (.refl ..)) rfl)
  · exact outcome_keepsMsgs (hunlent.of_made (creditToken_made (Nat.or_self _) _ _ _ (.refl ..)) rfl)

theorem completeAll_keepsMsgs {r : Ret} (l : List Op) (h : KeepsMsgs s0 s) : KeepsMsgs s0 (completeAll s r l) := by
  induction l generalizing s with
  | nil => exact h
  | cons o l ih => exact ih (complete_keepsMsgs h)

theorem endUnreachable_keepsMsgs (h : KeepsMsgs s0 s) : KeepsMsgs s0 (endUnreachable s) :=
  (completeAll_keepsMsgs _ h).of_made (endWindows_made (Nat.or_self _) _ (.refl ..)) rfl

/-! #### Host memory goes out of reach and comes back -/

theorem flushRecs_keepsMsgs {c : Nat} (l : List Rec) (h : KeepsMsgs s0 s) : KeepsMsgs s0 (flushRecs s c l) := by
  induction l generalizing s with
  | nil => exact h
  | cons r l ih => exact ih (putRec_keepsMsgs h)

theorem flushCtx_keepsMsgs {c : Nat} (h : KeepsMsgs s0 s) : KeepsMsgs s0 (flushCtx s c) := by
  unfold flushCtx
  exact drainCheck_keepsMsgs (flushRecs_keepsMsgs _ (h.of_ports rfl))

theorem sendHeldDev_keepsMsgs (h : KeepsMsgs s0 s) : KeepsMsgs s0 (sendHeldDev s) :=
  .foldl (fun _ _ ht => .ite (sendDev_keepsMsgs ht) ht) _ h

theorem applyReturn_keepsMsgs (h : KeepsMsgs s0 s) : KeepsMsgs s0 (applyReturn s) := by
  have hflushed := KeepsMsgs.foldl (f := flushCtx) (fun _ _ => flushCtx_keepsMsgs) (s.ctxs.map (·.1)) h
  exact sendHeldDev_keepsMsgs (.ite hflushed (devEvent_keepsMsgs hflushed))

theorem noteReach_keepsMsgs {before : Bool} (h : KeepsMsgs s0 s) : KeepsMsgs s0 (noteReach before s) :=
  .ite (applyReturn_keepsMsgs h) h

theorem memberHostLoss_keepsMsgs (h : KeepsMsgs s0 s) : KeepsMsgs s0 (memberHostLoss s) :=
  h.of_made (memberHostLoss_made (Nat.or_self _) s (.refl ..)) rfl

end

end Sys2Proof.Machine

/-! ### Address table, remote reset, bypass and topology (R349 to R359) -/
namespace Sys2Proof.Machine

/-! #### Words, flags and fields -/

theorem bit_toNat (w : W32) (i : Nat) : bit w.toNat i = w.getLsbD i := BitVec.testBit_toNat w

theorem w32_two_pow_bit {i : Nat} (j : Nat) (hi : i < 32) : (w32 (2 ^ j)).getLsbD i = decide (j = i) := by
  rw [w32, BitVec.getLsbD_ofNat, Nat.testBit_two_pow]; simp [hi]

/-- A field that is given the value it has changes no word. -/
theorem insertBits_extractBits (w : W32) (lo n : Nat) : insertBits w lo n (extractBits w lo n) = w := by
  apply BitVec.eq_of_getLsbD_eq
  intro i hi
  simp only [insertBits, extractBits, BitVec.getLsbD_or, BitVec.getLsbD_and, BitVec.getLsbD_not, BitVec.getLsbD_ofNat, hi,
    decide_true, Bool.true_and, Nat.testBit_mul_two_pow, Nat.testBit_two_pow_sub_one, Nat.testBit_mod_two_pow, Nat.testBit_div_two_pow,
    BitVec.testBit_toNat]
  by_cases h1 : lo ≤ i
  · by_cases h2 : i - lo < n <;> simp [h1, h2]
  · simp [h1]

theorem rd_setf_getf (s : State) (f : Fld) (r : Nat) : rd (setf s f (getf s f)) r = rd s r := by
  by_cases h : r = f.reg
  · subst h; unfold setf getf; rw [rd_wr_same, insertBits_extractBits]
  · exact rd_setf_ne h s _

/-- A flag reads as it was last written. -/
theorem isSet_setf_b2n (s : State) (f : Fld) (b : Bool) (hw : f.width = 1) (hlo : f.lo < 32) : isSet (setf s f (b2n b)) f = b := by
  unfold isSet
  rw [getf_setf_same _ _ _ (by omega), hw]
  cases b <;> rfl

theorem isSet_raise (s : State) (f : Fld) (hw : f.width = 1) (hlo : f.lo < 32) : isSet (raise s f) f = true :=
  isSet_setf_b2n s f true hw hlo

/-- A flag is its value. -/
theorem b2n_isSet (s : State) (f : Fld) (hw : f.width = 1) : b2n (isSet s f) = getf s f := by
  have h : getf s f < 2 := by unfold getf extractBits; rw [hw]; exact Nat.mod_lt _ (by decide)
  unfold isSet b2n
  split_ifs with h0 <;> simp at h0 <;> omega

theorem getf_congr {s t : State} {f : Fld} (h : rd t f.reg = rd s f.reg) : getf t f = getf s f := by unfold getf; rw [h]

theorem isSet_congr {s t : State} {f : Fld} (h : rd t f.reg = rd s f.reg) : isSet t f = isSet s f := by
  unfold isSet; rw [getf_congr h]

theorem rd_raise_ne {f : Fld} {r : Nat} (h : r ≠ f.reg) (s : State) : rd (raise s f) r = rd s r := rd_setf_ne h s 1

theorem reachOf_congr {s t : State} {u : Nat} (h : rd t (R.ENU_REACH (u / 32)) = rd s (R.ENU_REACH (u / 32))) :
    reachOf t u = reachOf s u := by unfold reachOf; rw [h]

/-! #### ENU_RST_CMD -/

theorem enuRstCmd_does (s : State) (dst : Fin 64) (all : Bool) (haway : regAway s R.ENU_RST_CMD = false) :
    (∀ key, key ≠ 0xC0DE → exec (.enuRstCmd dst all key) s = .next s)
    ∧ (all = true → Does (.enuRstCmd dst all 0xC0DE) s (fun t => sends s t 1 ⟨0x09, ownAddr s, toAll, [0#32, 0xC0DE#32], []⟩))
    ∧ (all = false → dst.val ≠ ownAddr s → Does (.enuRstCmd dst all 0xC0DE) s (fun t =>
        sends s t (portTo s dst) ⟨0x09, ownAddr s, dst, [0#32, 0xC0DE#32], []⟩)) := by
  have hgo : ¬ ((0xC0DE : Nat) ≠ 0xC0DE ∨ regAway s R.ENU_RST_CMD = true) := by simp [haway]
  refine ⟨fun key hkey => ?_, fun hall => ⟨_, ?_, sendMsg_sends s 1 _⟩, fun hall hdst => ⟨_, ?_, sendMsg_sends s _ _⟩⟩
  · exact if_pos (.inl hkey)
  · exact (if_neg hgo).trans (if_pos hall)
  · exact (if_neg hgo).trans ((if_neg (by simp [hall])).trans (if_neg hdst))

/-! #### The address table -/

theorem tabDlo_ne_evt (u : Nat) : R.ENU_TAB_DLO u ≠ F.ENU_EVT_TAB_DENIED.reg := by
  simp only [R.ENU_TAB_DLO, F.ENU_EVT_TAB_DENIED, R.ENU_EVT]; omega

theorem tabDhi_ne_evt (u : Nat) : R.ENU_TAB_DHI u ≠ F.ENU_EVT_TAB_DENIED.reg := by
  simp only [R.ENU_TAB_DHI, F.ENU_EVT_TAB_DENIED, R.ENU_EVT]; omega

theorem tabFlg_ne_evt (u : Nat) : R.ENU_TAB_FLG u ≠ F.ENU_EVT_TAB_DENIED.reg := by
  simp only [R.ENU_TAB_FLG, F.ENU_EVT_TAB_DENIED, R.ENU_EVT]; omega

theorem tabDlo_ne_dhi (u : Nat) : R.ENU_TAB_DLO u ≠ R.ENU_TAB_DHI u := by simp only [R.ENU_TAB_DLO, R.ENU_TAB_DHI]; omega

theorem tabFlg_ne_dlo (u : Nat) : R.ENU_TAB_FLG u ≠ R.ENU_TAB_DLO u := by simp only [R.ENU_TAB_FLG, R.ENU_TAB_DLO]; omega

theorem tabFlg_ne_dhi (u : Nat) : R.ENU_TAB_FLG u ≠ R.ENU_TAB_DHI u := by simp only [R.ENU_TAB_FLG, R.ENU_TAB_DHI]; omega

/-- A change of entry `u` is refused: a walk runs, the unit is reachable, or another entry holds the die (R350). -/
def tabDenied (s : State) (u : Nat) (lo hi : W32) (bound : Bool) : Bool :=
  (isSet s F.ENU_STAT_WALKING || reachOf s u) || bound && boundElsewhere s u lo hi

theorem enuTab_denied {s : State} {u : Nat} {lo hi : W32} {bound : Bool} (h : tabDenied s u lo hi bound = true) :
    enuTab s u lo hi bound = raise s F.ENU_EVT_TAB_DENIED :=
  if_pos (by simpa [tabDenied, or_assoc] using h)

theorem enuTab_taken {s : State} {u : Nat} {lo hi : W32} {bound : Bool} (h : tabDenied s u lo hi bound = false) :
    enuTab s u lo hi bound
      = setf (wr (wr s (R.ENU_TAB_DLO u) lo) (R.ENU_TAB_DHI u) hi) (F.ENU_TAB_FLG_BOUND u) (b2n bound) := by
  refine if_neg fun hd => ?_
  have : tabDenied s u lo hi bound = true := by simpa [tabDenied, or_assoc] using hd
  simp [this] at h

/-- A refused entry stays, with TAB_DENIED. -/
theorem enuTab_denied_kept {s : State} {u : Nat} {lo hi : W32} {bound : Bool} (h : tabDenied s u lo hi bound = true) :
    let t := enuTab s u lo hi bound
    rd t (R.ENU_TAB_DLO u) = rd s (R.ENU_TAB_DLO u) ∧ rd t (R.ENU_TAB_DHI u) = rd s (R.ENU_TAB_DHI u)
      ∧ rd t (R.ENU_TAB_FLG u) = rd s (R.ENU_TAB_FLG u) ∧ isSet t F.ENU_EVT_TAB_DENIED = true := by
  rw [enuTab_denied h]
  exact ⟨rd_raise_ne (tabDlo_ne_evt u) s, rd_raise_ne (tabDhi_ne_evt u) s, rd_raise_ne (tabFlg_ne_evt u) s,
    isSet_raise s _ rfl (by decide)⟩

/-- A pair that is taken leaves every other register, the flags included, where BOUND keeps its value. -/
theorem enuTab_pair_taken {s : State} {u : Nat} {lo hi : W32} {bound : Bool} (h : tabDenied s u lo hi bound = false)
    (hb : bound = isSet s (F.ENU_TAB_FLG_BOUND u)) :
    let t := enuTab s u lo hi bound
    rd t (R.ENU_TAB_DLO u) = lo ∧ rd t (R.ENU_TAB_DHI u) = hi
      ∧ ∀ r, r ≠ R.ENU_TAB_DLO u → r ≠ R.ENU_TAB_DHI u → rd t r = rd s r := by
  have hwritten (r : Nat) : rd (enuTab s u lo hi bound) r = rd (wr (wr s (R.ENU_TAB_DLO u) lo) (R.ENU_TAB_DHI u) hi) r := by
    have hsame : getf (wr (wr s (R.ENU_TAB_DLO u) lo) (R.ENU_TAB_DHI u) hi) (F.ENU_TAB_FLG_BOUND u) = getf s (F.ENU_TAB_FLG_BOUND u) :=
      getf_congr ((rd_wr_ne (tabFlg_ne_dhi u) _ _).trans (rd_wr_ne (tabFlg_ne_dlo u) _ _))
    rw [enuTab_taken h, hb, b2n_isSet _ _ rfl, ← hsame, rd_setf_getf]
  refine ⟨?_, ?_, fun r hlo hhi => ?_⟩
  · rw [hwritten, rd_wr_ne (tabDlo_ne_dhi u), rd_wr_same]
  · rw [hwritten, rd_wr_same]
  · rw [hwritten, rd_wr_ne hhi, rd_wr_ne hlo]

/-- BOUND that is taken, with the pair as it stands, leaves every register but the entry's flags. -/
theorem enuTab_bound_taken {s : State} {u : Nat} {bound : Bool}
    (h : tabDenied s u (rd s (R.ENU_TAB_DLO u)) (rd s (R.ENU_TAB_DHI u)) bound = false) :
    let t := enuTab s u (rd s (R.ENU_TAB_DLO u)) (rd s (R.ENU_TAB_DHI u)) bound
    isSet t (F.ENU_TAB_FLG_BOUND u) = bound ∧ ∀ r, r ≠ R.ENU_TAB_FLG u → rd t r = rd s r := by
  rw [enuTab_taken h]
  refine ⟨isSet_setf_b2n _ _ _ rfl (by simp [F.ENU_TAB_FLG_BOUND]), fun r hr => ?_⟩
  rw [rd_setf_ne hr, rd_wr, rd_wr]
  split_ifs with hhi hlo
  · rw [hhi]
  · rw [hlo]
  · rfl

theorem dropLow_tabDenied (s : State) (m : Master) (hi' u : Nat) (lo hi : W32) (b : Bool) :
    tabDenied (dropLow s m hi') u lo hi b = tabDenied s u lo hi b := by cases m <;> rfl

theorem enuTab_heldLow (s : State) (m : Master) (k u : Nat) (lo hi : W32) (b : Bool) :
    heldLow (enuTab s u lo hi b) m k = heldLow s m k := by
  unfold enuTab; split_ifs <;> rfl

/-- Word 0 of an entry is held. -/
theorem exec_enuTabWrite_low {s : State} {u : Fin 64} (haway : regAway s (R.ENU_TAB_FLG u) = false) (m : Master) (v : W32) :
    exec (.enuTabWrite m u 0 v) s = .next (holdLow s m (R.ENU_TAB_DHI u) v) :=
  (if_neg (by simp [haway])).trans (if_pos rfl)

/-- Word 1 writes the pair, with BOUND as it is. -/
theorem exec_enuTabWrite_high {s : State} {u : Fin 64} (haway : regAway s (R.ENU_TAB_FLG u) = false) (m : Master) (v : W32) :
    exec (.enuTabWrite m u 1 v) s = .next (enuTab (dropLow s m (R.ENU_TAB_DHI u)) u
      ((heldLow s m (R.ENU_TAB_DHI u)).getD (rd s (R.ENU_TAB_DLO u))) v (isSet s (F.ENU_TAB_FLG_BOUND u))) :=
  (if_neg (by simp [haway])).trans ((if_neg (by decide)).trans (if_pos rfl))

theorem extractBits_bit (v : W32) (i : Nat) : decide (extractBits v i 1 = 1) = v.getLsbD i := by
  rw [← bit_toNat, bit, Nat.testBit_eq_decide_div_mod_eq]; rfl

/-- Word 2 writes BOUND, with the pair as it is. -/
theorem exec_enuTabWrite_bound {s : State} {u : Fin 64} (haway : regAway s (R.ENU_TAB_FLG u) = false) (m : Master) (v : W32) :
    exec (.enuTabWrite m u 2 v) s = .next (enuTab s u (rd s (R.ENU_TAB_DLO u)) (rd s (R.ENU_TAB_DHI u)) (v.getLsbD 0)) := by
  rw [← extractBits_bit]
  exact (if_neg (by simp [haway])).trans ((if_neg (by decide)).trans (if_neg (by decide)))

theorem enuTabWrite_does (s : State) (m : Master) (u : Fin 64) (v : W32) (haway : regAway s (R.ENU_TAB_FLG u) = false) :
    let lo := (heldLow s m (R.ENU_TAB_DHI u)).getD (rd s (R.ENU_TAB_DLO u))
    let busy := isSet s F.ENU_STAT_WALKING || reachOf s u
    let kept (t : State) : Prop := rd t (R.ENU_TAB_DLO u) = rd s (R.ENU_TAB_DLO u) ∧ rd t (R.ENU_TAB_DHI u) = rd s (R.ENU_TAB_DHI u)
      ∧ rd t (R.ENU_TAB_FLG u) = rd s (R.ENU_TAB_FLG u) ∧ isSet t F.ENU_EVT_TAB_DENIED = true
    Does (.enuTabWrite m u 0 v) s (fun t => t.regs = s.regs ∧ heldLow t m (R.ENU_TAB_DHI u) = some v ∧ wideOf t (otherMaster m) = wideOf s (otherMaster m))
    ∧ ((busy || isSet s (F.ENU_TAB_FLG_BOUND u) && boundElsewhere s u lo v) = true → Does (.enuTabWrite m u 1 v) s kept)
    ∧ ((busy || isSet s (F.ENU_TAB_FLG_BOUND u) && boundElsewhere s u lo v) = false → Does (.enuTabWrite m u 1 v) s (fun t =>
        rd t (R.ENU_TAB_DLO u) = lo ∧ rd t (R.ENU_TAB_DHI u) = v ∧ heldLow t m (R.ENU_TAB_DHI u) = none
        ∧ ∀ r, r ≠ R.ENU_TAB_DLO u → r ≠ R.ENU_TAB_DHI u → rd t r = rd s r))
    ∧ ((busy || v.getLsbD 0 && boundElsewhere s u (rd s (R.ENU_TAB_DLO u)) (rd s (R.ENU_TAB_DHI u))) = true → Does (.enuTabWrite m u 2 v) s kept)
    ∧ ((busy || v.getLsbD 0 && boundElsewhere s u (rd s (R.ENU_TAB_DLO u)) (rd s (R.ENU_TAB_DHI u))) = false → Does (.enuTabWrite m u 2 v) s (fun t =>
        isSet t (F.ENU_TAB_FLG_BOUND u) = v.getLsbD 0 ∧ ∀ r, r ≠ R.ENU_TAB_FLG u → rd t r = rd s r)) := by
  have hdrop (r : Nat) := dropLow_rd s m (R.ENU_TAB_DHI u) r
  refine ⟨⟨_, exec_enuTabWrite_low haway m v, by cases m <;> rfl, by simp, by simp⟩,
    fun h => ⟨_, exec_enuTabWrite_high haway m v, ?_⟩, fun h => ⟨_, exec_enuTabWrite_high haway m v, ?_⟩,
    fun h => ⟨_, exec_enuTabWrite_bound haway m v, enuTab_denied_kept h⟩,
    fun h => ⟨_, exec_enuTabWrite_bound haway m v, enuTab_bound_taken h⟩⟩
  · have hkept := enuTab_denied_kept ((dropLow_tabDenied s m (R.ENU_TAB_DHI u) u _ v _).trans h)
    simpa only [hdrop] using hkept
  · obtain ⟨hlo, hhi, hframe⟩ := enuTab_pair_taken ((dropLow_tabDenied s m (R.ENU_TAB_DHI u) u _ v _).trans h)
      (isSet_congr (hdrop _)).symm
    exact ⟨hlo, hhi, by rw [enuTab_heldLow, dropLow_heldLow], fun r h1 h2 => (hframe r h1 h2).trans (hdrop r)⟩

/-! #### BYPASS -/

theorem driveByp_rd (s : State) (r : Nat) : rd (driveByp s) r = rd s r := by
  unfold driveByp; dsimp only; split_ifs <;> rfl

/-- BYP_N is driven to the level that BYPASS and G4 give, and only to a level that it does not have (R351). -/
theorem driveByp_drives (s : State) :
    let v := b2n (bit s.pwr.groups 4 && !isSet s F.ENU_CTL_BYPASS)
    (driveByp s).pwr = { s.pwr with byp := some v }
      ∧ (driveByp s).out = if s.pwr.byp = some v then s.out else s.out ++ [.pin .bypN v] := by
  intro v
  by_cases h : s.pwr.byp = some v
  · rw [if_pos h, show driveByp s = s from if_pos h]
    exact ⟨by rw [← h], rfl⟩
  · rw [if_neg h, show driveByp s = emit (setPwr s { s.pwr with byp := some v }) (.pin .bypN v) from if_neg h]
    exact ⟨by simp, emit_out _ _ (by simp [covered])⟩

theorem enuBypass_does (s : State) (on : Bool) (haway : regAway s R.ENU_CTL = false) : Does (.enuBypass on) s (fun t =>
    let v := b2n (bit s.pwr.groups 4 && !on)
    isSet t F.ENU_CTL_BYPASS = on ∧ t.pwr = { s.pwr with byp := some v }
    ∧ t.out = (if s.pwr.byp = some v then s.out else s.out ++ [.pin .bypN v]) ∧ ∀ r, r ≠ R.ENU_CTL → rd t r = rd s r) := by
  have hset : isSet (setf s F.ENU_CTL_BYPASS (b2n on)) F.ENU_CTL_BYPASS = on := isSet_setf_b2n s _ on rfl (by decide)
  obtain ⟨hpwr, hout⟩ := driveByp_drives (setf s F.ENU_CTL_BYPASS (b2n on))
  rw [hset] at hpwr hout
  exact ⟨_, if_neg (by simp [haway]), (isSet_congr (driveByp_rd _ _)).trans hset, hpwr, hout,
    fun r hr => (driveByp_rd _ r).trans (rd_setf_ne hr s _)⟩

end Sys2Proof.Machine

/-! #### Reachability (Table 13-9) -/
namespace Sys2Proof.Machine

theorem reachOf_eq (s : State) (u : Nat) : reachOf s u = (rd s (R.ENU_REACH (u / 32))).getLsbD (u % 32) := bit_toNat _ _

theorem reach_ne_flg (i u : Nat) : R.ENU_REACH i ≠ R.ENU_TAB_FLG u := by simp only [R.ENU_REACH, R.ENU_TAB_FLG]; omega

/-- `setReach` changes a REACH word and the flags of the unit's entry alone. -/
theorem setReach_rd {u r : Nat} (hreach : ∀ i, r ≠ R.ENU_REACH i) (hflg : ∀ u, r ≠ R.ENU_TAB_FLG u) (s : State) (v : Bool) :
    rd (setReach s u v) r = rd s r :=
  (rd_setf_ne (hflg u) _ _).trans (rd_wr_ne (hreach _) _ _)

/-- Taking a unit out of REACH leaves every other unit's bit. -/
theorem reachOf_setReach_false (s : State) {u w : Nat} (hu : u < 64) (hw : w < 64) :
    reachOf (setReach s u false) w = (reachOf s w && !decide (w = u)) := by
  have hreg : rd (setReach s u false) (R.ENU_REACH (w / 32)) =
      if R.ENU_REACH (w / 32) = R.ENU_REACH (u / 32) then rd s (R.ENU_REACH (u / 32)) &&& ~~~(w32 (2 ^ (u % 32)))
      else rd s (R.ENU_REACH (w / 32)) :=
    (rd_setf_ne (reach_ne_flg _ _) _ _).trans (rd_wr ..)
  have hmod : w % 32 < 32 := Nat.mod_lt _ (by decide)
  rw [reachOf_eq, reachOf_eq, hreg]
  by_cases hword : w / 32 = u / 32
  · have hbit : decide (u % 32 = w % 32) = decide (w = u) := decide_eq_decide.2 (by omega)
    rw [if_pos (by rw [hword]), hword, BitVec.getLsbD_and, BitVec.getLsbD_not, w32_two_pow_bit _ hmod, hbit]
    simp [hmod]
  · rw [if_neg (by simp only [R.ENU_REACH]; omega), decide_eq_false (show w ≠ u by rintro rfl; exact hword rfl)]
    simp

/-- `setReach` leaves every unit's hop. -/
theorem hop_setReach (s : State) (u w : Nat) (v : Bool) :
    getf (setReach s u v) (F.ENU_TAB_FLG_HOP w) = getf s (F.ENU_TAB_FLG_HOP w) :=
  (getf_setf_bits _ (F.ENU_TAB_FLG_REACH u) (F.ENU_TAB_FLG_HOP w) _ (.inl (by simp [F.ENU_TAB_FLG_REACH, F.ENU_TAB_FLG_HOP]))).trans
    (getf_congr (rd_wr_ne (reach_ne_flg _ w).symm _ _))

/-- Unit `u` lies beyond hop `h` of the chain. -/
def beyondHop (h : Nat) (s : State) (u : Nat) : Bool := decide (0 < u) && decide (h < getf s (F.ENU_TAB_FLG_HOP u))

/-- At a break beyond hop `h` the head takes unit `u` out of REACH where it lies there (R352). -/
def breakUnit (h : Nat) (t : State) (u : Nat) : State :=
  if 0 < u ∧ reachOf t u ∧ h < getf t (F.ENU_TAB_FLG_HOP u) then setReach t u false else t

theorem beyondHop_breakUnit (h : Nat) (t : State) (u w : Nat) : beyondHop h (breakUnit h t u) w = beyondHop h t w := by
  unfold breakUnit; split_ifs
  · unfold beyondHop; rw [hop_setReach]
  · rfl

theorem reachOf_breakUnit (h : Nat) (t : State) {u w : Nat} (hu : u < 64) (hw : w < 64) :
    reachOf (breakUnit h t u) w = (reachOf t w && !(decide (w = u) && beyondHop h t w)) := by
  unfold breakUnit
  by_cases hwu : w = u
  · subst hwu
    split_ifs with hc
    · rw [reachOf_setReach_false t hu hw]
      simp [beyondHop, hc.1, hc.2.2]
    · cases hr : reachOf t w
      · rfl
      · have hnot : beyondHop h t w = false := by
          by_contra hb
          simp only [beyondHop, Bool.not_eq_false, Bool.and_eq_true, decide_eq_true_eq] at hb
          exact hc ⟨hb.1, hr, hb.2⟩
        simp [hnot]
  · split_ifs
    · rw [reachOf_setReach_false t hu hw]
      simp [hwu]
    · simp [hwu]

/-- A break takes the units of `l` that lie beyond hop `h` out of REACH. -/
theorem reachOf_breakUnits (h : Nat) (l : List Nat) (hl : ∀ u ∈ l, u < 64) (t : State) {w : Nat} (hw : w < 64) :
    reachOf (l.foldl (breakUnit h) t) w = (reachOf t w && !(decide (w ∈ l) && beyondHop h t w)) := by
  induction l generalizing t with
  | nil => simp
  | cons u l ih =>
    have hbool : ∀ r e b i : Bool, ((r && !(e && b)) && !(i && b)) = (r && !((e || i) && b)) := by decide
    rw [List.foldl_cons, ih (fun v hv => hl v (List.mem_cons_of_mem _ hv)), beyondHop_breakUnit,
      reachOf_breakUnit h t (hl u List.mem_cons_self) hw, hbool]
    simp only [List.mem_cons, Bool.decide_or]

theorem breakUnits_rd {r : Nat} (hreach : ∀ i, r ≠ R.ENU_REACH i) (hflg : ∀ u, r ≠ R.ENU_TAB_FLG u) (h : Nat) (l : List Nat) (t : State) :
    rd (l.foldl (breakUnit h) t) r = rd t r := by
  induction l generalizing t with
  | nil => rfl
  | cons u l ih =>
    rw [List.foldl_cons, ih]
    unfold breakUnit; split_ifs
    · exact setReach_rd hreach hflg t false
    · rfl

/-! #### What leaves the ENU block -/

/-- Sending a message leaves the ENU block. -/
theorem sendMsg_rd_enu {r : Nat} (hb : blockOf r = 11) (s : State) (p : Nat) (m : Msg) : rd (sendMsg s p m) r = rd s r :=
  (sendMsg_made (Nat.or_self _) s p m (.refl ..)).blk r (by rw [hb]; rfl)

/-- Ending work for units out of reach leaves the ENU block. -/
theorem endUnreachable_rd_enu {r : Nat} (hb : blockOf r = 11) (s : State) : rd (endUnreachable s) r = rd s r :=
  (endUnreachable_made (Nat.or_self _) s (.refl ..)).blk r (by rw [hb]; rfl)

/-- Device events leave the ENU block. -/
theorem devEvent_rd_enu {r : Nat} (hb : blockOf r = 11) (s : State) (k : Nat) : rd (devEvent s k) r = rd s r :=
  (devEvent_made (Nat.or_self _) s k (.refl ..)).blk r (by rw [hb]; rfl)

/-- Taking a message leaves the ENU block. -/
theorem takeMsg_rd_enu {r : Nat} (hb : blockOf r = 11) (s : State) (p : Nat) (m : Msg) : rd (takeMsg s p m) r = rd s r :=
  (takeMsg_made (Nat.or_self _) s p m (.refl ..)).blk r (by rw [hb]; rfl)

/-! #### The flood of TOPO_UPDATE -/

/-- Ending the sleep round reaches ENU_SLEEP_STAT and ENU_EVT of the ENU block alone. -/
theorem sleepAbort_rd {r : Nat} (hb : blockOf r = 11) (hstat : r ≠ R.ENU_SLEEP_STAT) (hevt : r ≠ R.ENU_EVT) (s : State) (c u : Nat) :
    rd (sleepAbort s c u) r = rd s r := by
  unfold sleepAbort
  split_ifs
  · rfl
  · dsimp only
    rw [raise, rd_setf_ne hevt, rd_setf_ne hstat, rd_setf_ne hstat, rd_setf_ne hstat, rd_setf_ne hstat]
    exact sendMsg_rd_enu hb s _ _

theorem rd_set_enu (s : State) (x : Enu) (r : Nat) : rd { s with enu := x } r = rd s r := rfl

/-- UNITS is shown in ENU_STAT. -/
theorem countUnits_rd {r : Nat} (hstat : r ≠ R.ENU_STAT) (s : State) : rd (countUnits s) r = rd s r := rd_setf_ne hstat s _

/-- The flood itself reaches ENU_STAT of the ENU block; the end of the sleep round and the step of GEN come before it. -/
theorem floodTopo_rd_stepped {r : Nat} (hb : blockOf r = 11) (hstat : r ≠ R.ENU_STAT) (s : State) :
    rd (floodTopo s) r = rd (wrapAdd (sleepAbort s 3 0) F.ENU_GEN_GEN 1) r := by
  rw [floodTopo, endUnreachable_rd_enu hb, sendMsg_rd_enu hb, rd_setf_ne hstat, rd_set_enu, countUnits_rd hstat]

/-- The flood steps GEN. -/
theorem floodTopo_gen (s : State) : getf (floodTopo s) F.ENU_GEN_GEN = (getf s F.ENU_GEN_GEN + 1) % 65536 := by
  have hkept : getf (sleepAbort s 3 0) F.ENU_GEN_GEN = getf s F.ENU_GEN_GEN :=
    getf_congr (sleepAbort_rd rfl (by decide) (by decide) s 3 0)
  rw [getf_congr (floodTopo_rd_stepped rfl (by decide) s), wrapAdd, getf_setf_same _ _ _ (by decide), hkept]
  rfl

/-- The flood leaves REACH. -/
theorem floodTopo_reach (s : State) (u : Nat) : reachOf (floodTopo s) u = reachOf s u := by
  have hne (i a : Nat) (ha : a ∉ [0xB0014, 0xB0018]) : R.ENU_REACH i ≠ a := by
    rintro rfl
    have : i % 2 = 0 ∨ i % 2 = 1 := by omega
    rcases this with h | h <;> simp [R.ENU_REACH, h] at ha
  refine reachOf_congr ?_
  rw [floodTopo_rd_stepped (R.ENU_REACH_blk _) (hne _ _ (by decide)), wrapAdd, rd_setf_ne (hne _ _ (by decide)),
    sleepAbort_rd (R.ENU_REACH_blk _) (hne _ _ (by decide)) (hne _ _ (by decide))]

/-! #### TOPO_BREAK -/

/-- A device event has its bit pending afterwards (R274). -/
theorem evtPending_devEvent (s : State) {k : Nat} (hk : k < 32) : evtPending (devEvent s k) k = true := by
  have hnoted : evtPending (devNoted s k) k = true := by
    have hrd : rd (devNoted s k) R.HIF_DEV_PEND = rd s R.HIF_DEV_PEND ||| w32 (2 ^ k) :=
      (rd_wr_ne (by decide) _ _).trans (rd_wr_same ..)
    rw [evtPending, hrd, bit_toNat, BitVec.getLsbD_or, w32_two_pow_bit k hk]
    simp
  have hsent : rd (sendDev (devNoted s k) k) R.HIF_DEV_PEND = rd (devNoted s k) R.HIF_DEV_PEND := by
    unfold sendDev
    split_ifs
    · exact (sendMsg_made (Nat.or_self _) _ _ _ (.refl ..)).blk _ rfl
    · unfold sendVec
      split_ifs
      · exact rd_wr_ne (by simp only [R.HIF_PBA, R.HIF_DEV_PEND]; omega) _ _
      · exact emit_rd ..
    · rfl
  rw [devEvent_eq]
  split_ifs with hpend
  · exact hpend
  · rw [evtPending, hsent]; exact hnoted
  · exact hnoted

/-- The hop of the unit that reports a break; the head's own is 0. -/
def reporterHop (s : State) (u : Nat) : Nat := if u = 0 then 0 else getf s (F.ENU_TAB_FLG_HOP u)

/-- What the head does at a break, named (R352). -/
theorem topoBreak_eq (s : State) (u : Nat) :
    topoBreak s u
      = devEvent (raise (floodTopo ((List.range 64).foldl (breakUnit (reporterHop s u)) s)) F.ENU_EVT_BREAK) 4 := rfl

theorem topoBreak_reach (s : State) (u : Nat) {w : Nat} (hw : w < 64) :
    reachOf (topoBreak s u) w = (reachOf s w && !beyondHop (reporterHop s u) s w) := by
  have hevt : R.ENU_REACH (w / 32) ≠ F.ENU_EVT_BREAK.reg := by simp only [R.ENU_REACH, F.ENU_EVT_BREAK, R.ENU_EVT]; omega
  rw [topoBreak_eq, reachOf_congr (devEvent_rd_enu (R.ENU_REACH_blk _) _ _), reachOf_congr (rd_raise_ne hevt _), floodTopo_reach,
    reachOf_breakUnits _ _ (fun v hv => List.mem_range.1 hv) s hw, decide_eq_true (List.mem_range.2 hw), Bool.true_and]

theorem topoBreak_gen (s : State) (u : Nat) : getf (topoBreak s u) F.ENU_GEN_GEN = (getf s F.ENU_GEN_GEN + 1) % 65536 := by
  have hunits := breakUnits_rd (r := R.ENU_GEN) (by simp only [R.ENU_GEN, R.ENU_REACH]; omega)
    (by simp only [R.ENU_GEN, R.ENU_TAB_FLG]; omega) (reporterHop s u) (List.range 64) s
  rw [topoBreak_eq, getf_congr (devEvent_rd_enu rfl _ _), getf_congr (rd_raise_ne (by decide) _), floodTopo_gen, getf_congr hunits]

theorem topoBreak_events (s : State) (u : Nat) :
    isSet (topoBreak s u) F.ENU_EVT_BREAK = true ∧ evtPending (topoBreak s u) 4 = true := by
  rw [topoBreak_eq]
  exact ⟨(isSet_congr (devEvent_rd_enu rfl _ _)).trans (isSet_raise _ _ rfl (by decide)), evtPending_devEvent _ (by decide)⟩

theorem topoBreak_does (s : State) (p : Fin 2) (m : Msg) (harr : arrives s p m) (hhead : isHead s = true) :
    Does (.topoBreak p m) s (fun t =>
      let h := if m0 m 8 6 = 0 then 0 else getf s (F.ENU_TAB_FLG_HOP (m0 m 8 6))
      (∀ u < 64, reachOf t u = (reachOf s u && !(decide (0 < u) && decide (h < getf s (F.ENU_TAB_FLG_HOP u)))))
      ∧ isSet t F.ENU_EVT_BREAK = true ∧ evtPending t 4 = true ∧ getf t F.ENU_GEN_GEN = (getf s F.ENU_GEN_GEN + 1) % 65536) := by
  obtain ⟨hup, htakes⟩ := harr
  have hhop (u : Nat) : getf (takeMsg s p m) (F.ENU_TAB_FLG_HOP u) = getf s (F.ENU_TAB_FLG_HOP u) :=
    getf_congr (takeMsg_rd_enu (R.ENU_TAB_FLG_blk u) s p m)
  have hexec : exec (.topoBreak p m) s = .next (topoBreak (takeMsg s p m) (m0 m 8 6)) := by
    have hrole : isHead (takeMsg s p m) = true := by
      unfold isHead at hhead ⊢; rw [getf_congr (takeMsg_rd_enu rfl s p m)]; exact hhead
    show onDst s p.val m _ = _
    simp [onDst, hup, htakes, hrole]
  refine ⟨_, hexec, fun u hu => ?_, (topoBreak_events _ _).1, (topoBreak_events _ _).2, ?_⟩
  · rw [topoBreak_reach _ _ hu, reachOf_congr (takeMsg_rd_enu (R.ENU_REACH_blk _) s p m)]
    simp only [beyondHop, reporterHop, hhop]
  · rw [topoBreak_gen, getf_congr (takeMsg_rd_enu rfl s p m)]

end Sys2Proof.Machine

/-! #### TOPO_UPDATE -/
namespace Sys2Proof.Machine

theorem acceptMsg_portUp (s : State) (p q : Nat) (m : Msg) : portUp (acceptMsg s p m) q = portUp s q := by
  have hne : (F.CHN_PSTAT_STATE q).reg ≠ (F.CHN_VL_RX_MSGS p (msgVl m.ty)).reg := by
    simp only [F.CHN_PSTAT_STATE, F.CHN_VL_RX_MSGS, R.CHN_PSTAT, R.CHN_VL]; omega
  unfold portUp acceptMsg
  dsimp only
  rw [wrapAdd, getf_setf_reg _ _ _ _ hne, setPort_getf]

/-- A flood that arrives on the UP port goes on out of the DOWN port (R346). -/
theorem takeFlood_carries {s : State} (hup : portUp s 1 = true) (m : Msg) : carries (takeFlood s 0 m m) 1 m := by
  have hup' : portUp (acceptMsg s 0 m) 1 = true := (acceptMsg_portUp s 0 1 m).trans hup
  rw [takeFlood, if_pos hup']
  exact queueMsg_carries hup' ..

theorem takeFlood_rd_enu {r : Nat} (hb : blockOf r = 11) (s : State) (p : Nat) (m out : Msg) : rd (takeFlood s p m out) r = rd s r :=
  (takeFlood_made (Nat.or_self _) s p m out (.refl ..)).blk r (by rw [hb]; rfl)

/-- What a unit takes from TOPO_UPDATE: GEN steps, and reachability, the host link and the policy are as the head says (R352, R355). -/
def topoTaken (s : State) (m : Msg) : State :=
  let t := wr (wr (wrapAdd s F.ENU_GEN_GEN 1) (R.ENU_REACH 0) (mw m 1)) (R.ENU_REACH 1) (mw m 2)
  setEnu (setf t F.ENU_STAT_HOST_LINK (m0 m 16 1)) { t.enu with policy := m0 m 17 1 }

/-- A member's host memory goes out of reach or comes back (R353, R355). -/
def reachChanged (before : Bool) (s : State) : State :=
  if isMember s then (if before && !hostReach s then memberHostLoss s else noteReach before s) else s

theorem exec_topoUpdate {s : State} {m : Msg} (hup : portUp s 0 = true) (hhead : isHead s = false) :
    exec (.topoUpdate m) s = .next (endUnreachable (reachChanged (hostReach (takeFlood s 0 m m)) (topoTaken (takeFlood s 0 m m) m))) := by
  have hrole : isHead (takeFlood s 0 m m) = false := by
    unfold isHead at hhead ⊢; rw [getf_congr (takeFlood_rd_enu rfl s 0 m m)]; exact hhead
  exact (if_pos hup).trans (congrArg _ (if_neg (by simp [hrole])))

/-- A change of reach leaves the ENU block and the topology's own state. -/
theorem reachChanged_enu (before : Bool) (s : State) :
    (reachChanged before s).enu = s.enu ∧ ∀ r, blockOf r = 11 → rd (reachChanged before s) r = rd s r := by
  unfold reachChanged
  split_ifs
  · have h := memberHostLoss_made (Nat.or_self _) s (.refl ..)
    exact ⟨h.enu rfl, fun r hb => h.blk r (by rw [hb]; rfl)⟩
  · have h := noteReach_made (Nat.or_self _) before s (.refl ..)
    exact ⟨h.enu rfl, fun r hb => h.blk r (by rw [hb]; rfl)⟩
  · exact ⟨rfl, fun _ _ => rfl⟩

theorem reachChanged_keepsMsgs {s0 s : State} {before : Bool} (h : KeepsMsgs s0 s) : KeepsMsgs s0 (reachChanged before s) :=
  .ite (.ite (memberHostLoss_keepsMsgs h) (noteReach_keepsMsgs h)) h

theorem topoTaken_rd_stat (s : State) (m : Msg) {r : Nat} (hstat : r ≠ R.ENU_STAT) :
    rd (topoTaken s m) r = rd (wr (wr (wrapAdd s F.ENU_GEN_GEN 1) (R.ENU_REACH 0) (mw m 1)) (R.ENU_REACH 1) (mw m 2)) r :=
  (setEnu_rd ..).trans (rd_setf_ne hstat _ _)

theorem topoTaken_gen (s : State) (m : Msg) : getf (topoTaken s m) F.ENU_GEN_GEN = (getf s F.ENU_GEN_GEN + 1) % 65536 := by
  have hgen : rd (topoTaken s m) R.ENU_GEN = rd (wrapAdd s F.ENU_GEN_GEN 1) R.ENU_GEN := by
    rw [topoTaken_rd_stat s m (by decide), rd_wr_ne (by decide), rd_wr_ne (by decide)]
  rw [getf_congr hgen, wrapAdd, getf_setf_same _ _ _ (by decide)]
  rfl

theorem topoTaken_reach (s : State) (m : Msg) :
    rd (topoTaken s m) (R.ENU_REACH 0) = mw m 1 ∧ rd (topoTaken s m) (R.ENU_REACH 1) = mw m 2 := by
  constructor
  · rw [topoTaken_rd_stat s m (by decide), rd_wr_ne (by decide), rd_wr_same]
  · rw [topoTaken_rd_stat s m (by decide), rd_wr_same]

theorem topoTaken_hostLink (s : State) (m : Msg) : getf (topoTaken s m) F.ENU_STAT_HOST_LINK = m0 m 16 1 := by
  unfold topoTaken
  dsimp only
  rw [setEnu_getf, getf_setf_same _ _ _ (by decide)]
  exact Nat.mod_mod _ _

theorem topoUpdate_does (s : State) (m : Msg) (hup : portUp s 0 = true) (hhead : isHead s = false) :
    Does (.topoUpdate m) s (fun t => getf t F.ENU_GEN_GEN = (getf s F.ENU_GEN_GEN + 1) % 65536
      ∧ rd t (R.ENU_REACH 0) = mw m 1 ∧ rd t (R.ENU_REACH 1) = mw m 2 ∧ getf t F.ENU_STAT_HOST_LINK = m0 m 16 1 ∧ t.enu.policy = m0 m 17 1
      ∧ sends s t 1 m) := by
  refine ⟨_, exec_topoUpdate hup hhead, ?_⟩
  generalize hostReach (takeFlood s 0 m m) = before
  obtain ⟨henu, hrd⟩ := reachChanged_enu before (topoTaken (takeFlood s 0 m m) m)
  have henu' := ((endUnreachable_made (Nat.or_self _) (reachChanged before (topoTaken (takeFlood s 0 m m) m)) (.refl ..)).enu rfl).trans henu
  have htaken {r : Nat} (hb : blockOf r = 11) := (endUnreachable_rd_enu hb (reachChanged before (topoTaken (takeFlood s 0 m m) m))).trans (hrd r hb)
  obtain ⟨hreach0, hreach1⟩ := topoTaken_reach (takeFlood s 0 m m) m
  refine ⟨?_, (htaken rfl).trans hreach0, (htaken rfl).trans hreach1, ?_, ?_, fun hdown => ?_⟩
  · rw [getf_congr (htaken rfl), topoTaken_gen, getf_congr (takeFlood_rd_enu rfl s 0 m m)]
  · rw [getf_congr (htaken rfl), topoTaken_hostLink]
  · rw [henu']; rfl
  · have htook : KeepsMsgs (takeFlood s 0 m m) (topoTaken (takeFlood s 0 m m) m) := (KeepsMsgs.refl _).of_ports rfl
    exact (endUnreachable_keepsMsgs (reachChanged_keepsMsgs htook)).carries_of 1 m (takeFlood_carries hdown m)

/-- Settles O19, command by command. -/
theorem enuCommands : Obligations.EnuCommands := fun s =>
  ⟨enuRstCmd_does s, enuTabWrite_does s, enuBypass_does s, topoBreak_does s, topoUpdate_does s⟩

end Sys2Proof.Machine

/-! ### What every command leaves as it was -/
namespace Sys2Proof.Machine

theorem maskOf_testBit (l : List Nat) (n : Nat) : (maskOf l).testBit n = decide (n ∈ l) := by
  induction l with
  | nil => exact Nat.zero_testBit n
  | cons k l ih =>
    show (maskOf l ||| 2 ^ k).testBit n = _
    rw [Nat.testBit_or, ih, Nat.testBit_two_pow, ← Bool.decide_or]
    exact decide_eq_decide.2 (by simp [or_comm, eq_comm])

theorem part_ctorIdx_lt (p : Part) : p.ctorIdx < 48 := by cases p <;> decide

theorem part_ctorIdx_injective : Function.Injective Part.ctorIdx :=
  Function.LeftInverse.injective Part.ofNat_ctorIdx

/-- The queue is bit 0, which no row of `touches` sets. -/
theorem touchMask_pending (t : List Part × List Nat) : (touchMask t).testBit 0 = false := by
  rw [touchMask, maskOf_testBit, decide_eq_false_iff_not]
  simp

/-- The bit of a part that a row does not name. -/
theorem touchMask_part {t : List Part × List Nat} {p : Part} (h : p ∉ t.1) : (touchMask t).testBit (p.ctorIdx + 2) = false := by
  have hp := part_ctorIdx_lt p
  have hnamed : p.ctorIdx ∉ t.1.map Part.ctorIdx := fun hm => h ((List.mem_map_of_injective part_ctorIdx_injective).1 hm)
  rw [touchMask, maskOf_testBit, decide_eq_false_iff_not]
  simp only [List.mem_append, List.mem_cons, List.mem_map, not_or, not_exists, not_and] at hnamed ⊢
  exact ⟨⟨by omega, fun q hq e => hnamed q hq (by omega)⟩, fun b _ e => by omega⟩

/-- The bit of a block that a row does not name. -/
theorem touchMask_block {t : List Part × List Nat} {b : Nat} (h : b ∉ t.2) : (touchMask t).testBit (64 + b) = false := by
  rw [touchMask, maskOf_testBit, decide_eq_false_iff_not]
  simp only [List.mem_append, List.mem_cons, List.mem_map, not_or, not_exists, not_and]
  refine ⟨⟨by omega, fun q _ e => ?_⟩, fun c hc e => h ?_⟩
  · have := part_ctorIdx_lt q; omega
  · rwa [← Nat.add_left_cancel e]

/-- A part outside the mask is the same: parts stand in the mask in the order of their constructors. -/
theorem Made.same {M : Nat} {s t : State} (h : Made M s t) : ∀ p : Part, M.testBit (p.ctorIdx + 2) = false → p.same s t
  | .mem => h.mem | .memFill => h.memFill | .free => h.free | .out => h.out | .ctxs => h.ctxs | .ops => h.ops
  | .nextTag => h.nextTag | .rounds => h.rounds | .ledger => h.ledger | .hif => h.hif | .pwr => h.pwr | .doms => h.doms
  | .banks => h.banks | .log => h.log | .tbu => h.tbu | .nv => h.nv | .planeMem => h.planeMem | .fifos => h.fifos
  | .clk => h.clk | .fab => h.fab | .boot => h.boot | .stage => h.stage | .ho => h.ho | .planeFill => h.planeFill
  | .dep => h.dep | .flash => h.flash | .flashFill => h.flashFill | .keys => h.keys | .prevEpoch => h.prevEpoch
  | .load => h.load | .kite => h.kite | .tlm => h.tlm | .scrUnbind => h.scrUnbind | .nva => h.nva
  | .nvIncomplete => h.nvIncomplete | .nvFill => h.nvFill | .ports => h.ports | .enu => h.enu | .har => h.har
  | .vbu => h.vbu | .osp => h.osp | .tag => h.tag | .tagMem => h.tagMem | .bst => h.bst | .lcy => h.lcy | .tap => h.tap
  | .regDue => h.regDue | .regPart => h.regPart

/-- Settles O59: the law of every command (`exec_made`), read bit by bit of the mask of its row of `touches`. -/
theorem frame : Obligations.Frame := by
  intro i s t ht
  obtain ⟨u, hu, hmade⟩ := exec_made i s
  obtain rfl : u = t := Host.Outcome.next.inj (hu.symm.trans ht)
  exact ⟨hmade.pending (touchMask_pending _), fun p hp => hmade.same p (touchMask_part hp),
    fun a ha => hmade.blk a (touchMask_block ha)⟩

/-- An idle turn: the clock advances by one TCXO cycle, and the ticks after it leave it (log entry 1). -/
theorem idle_clk (s : State) : (idle s).clk = s.clk + 40 :=
  ((kiteTick_made (Nat.or_self _) _ (.refl ..)).clk rfl).trans ((tbuTick_made (Nat.or_self _) _ (.refl ..)).clk rfl)

/-- Settles O56: `step` by its two cases; what an idle turn leaves is the law `idle_made`. -/
theorem stepRunsFrontCommand : Obligations.StepRunsFrontCommand := by
  intro s c
  refine ⟨rfl, fun hempty => ?_, fun _ _ => ⟨rfl, rfl⟩⟩
  have hstep : step s = .next (idle s) := by unfold step; rw [hempty]
  have hidle := idle_made (Nat.or_self _) s (.refl ..)
  exact ⟨idle s, hstep, idle_clk s, (hidle.pending rfl).trans hempty, hidle.mem rfl, hidle.ops rfl, hidle.out rfl, hidle.ctxs rfl⟩

end Sys2Proof.Machine

/-! ### Returns (R23, R270)

A shared token that comes back fills a booked reserve, which `freeToken` finds by its entry in the list of contexts and stores under that
entry's number. `State` is plain data: its list may name a context twice, and the second entry then takes the place of the first. -/
namespace Sys2Proof.Machine

/-- The operation that returns: context 0 holds its token, from the shared pool. -/
def pooledOp : Op := { tag := 0, ctx := 0, sq := 0, words := [], pool := true, ret := some ⟨0, 0#32, 0#32⟩ }

/-- Context 0 is listed twice: it holds two tokens, and a second entry books a reserve that is not filled. -/
def ctxListedTwice : State :=
  { ctxs := [(0, { held := 2, poolHeld := 1 }), (0, { booked := 1 })], ops := [pooledOp] }

/-- The return answers a state in which context 0 holds no token, though it held two before. -/
theorem ctxListedTwice_return :
    ∃ t, exec (.returnAccepted 0 0 0) ctxListedTwice = .next t ∧ (ctx t 0).held = 0 :=
  ⟨complete ctxListedTwice pooledOp ⟨0, 0#32, 0#32⟩, rfl, by decide +kernel⟩

/-- Refutes O8: the statement asks nothing of the list of contexts. In `ctxListedTwice`, whose list is not rising, the token that comes
back fills the reserve of the second entry, so context 0 does not hold one token less than before but what that entry says. -/
theorem not_returnsAndNullTarget : ¬ Obligations.ReturnsAndNullTarget := by
  intro h
  obtain ⟨t, ht, hheld⟩ := ctxListedTwice_return
  obtain ⟨_, _, hreturn, _⟩ := h ctxListedTwice 0
  obtain ⟨u, hu, _, _, _, _, hone, _⟩ := hreturn 0 0 pooledOp ⟨0, 0#32, 0#32⟩ rfl rfl rfl (by decide)
  obtain rfl : u = t := Host.Outcome.next.inj (hu.symm.trans ht)
  have hbefore : (ctx ctxListedTwice pooledOp.ctx).held = 2 := rfl
  rw [hbefore] at hone
  exact absurd (hheld.symm.trans hone) (by decide)

end Sys2Proof.Machine

/-! ### Operations in flight -/
namespace Sys2Proof.Machine

/-- An operation that is replaced by its tag is found in its new form. -/
theorem opOf_setOp {s : State} {o x : Op} (h : opOf s x.tag = some o) : opOf (setOp s x) x.tag = some x := by
  have hsame : (fun q : Op => q.tag == x.tag) ∘ (fun q => if q.tag == x.tag then x else q) = fun q => q.tag == x.tag := by
    funext q
    by_cases hq : q.tag = x.tag <;> simp [hq]
  have htag : (o.tag == x.tag) = true := List.find?_some (p := fun q : Op => q.tag == x.tag) h
  unfold opOf at h
  show List.find? _ (s.ops.map _) = _
  rw [List.find?_map, hsame, h, Option.map_some, if_pos htag]

theorem countOp_ops (s : State) (code : Nat) : (countOp s code).ops = s.ops := by
  unfold countOp; split <;> rfl

/-- The operation carries what its target has returned. -/
theorem opOf_giveRet {s : State} {o x : Op} (r : Ret) (h : opOf s x.tag = some o) :
    opOf (giveRet s x r) x.tag = some { x with ret := some r } :=
  opOf_setOp (x := { x with ret := some r }) (by unfold opOf at h ⊢; rw [countOp_ops]; exact h)

/-- A return changes the operation and its engine's count. -/
theorem giveRet_frame (s : State) (o : Op) (r : Ret) :
    giveRet s o r = { s with ops := (giveRet s o r).ops, tlm := { s.tlm with ops := (giveRet s o r).tlm.ops } } := by
  unfold giveRet countOp; split <;> rfl

end Sys2Proof.Machine

/-! ### Bytes of the banks -/
namespace Sys2Proof.Machine

/-- The plain window of the banks names the bank byte itself (Table 1-9). -/
theorem bankAddr_plain {a : Nat} (h : a < 0x800000) : bankAddr a = some a := if_pos h

theorem accessErr_plain {a : Nat} (h : a < 0x800000) (s : State) (w : Bool) : accessErr s a w = bankErr s (a / 0x100000) := by
  unfold accessErr; rw [bankAddr_plain h]

theorem storeByte_plain {a : Nat} (h : a < 0x800000) (s : State) (b : Byte) : storeByte s a b = memPut s a b := by
  unfold storeByte; rw [bankAddr_plain h]; exact if_pos h

theorem byteAt_plain {a : Nat} (h : a < 0x800000) (s : State) : byteAt s a = memByte s a := by
  unfold byteAt; rw [bankAddr_plain h]

/-- A bank byte that is stored changes nothing about who answers where. -/
theorem accessErr_memPut (s : State) (a : Nat) (b : Byte) (x : Nat) (w : Bool) : accessErr (memPut s a b) x w = accessErr s x w := rfl

theorem bankWritable_tail {s : State} {a n : Nat} (h : bankWritable s a (n + 1)) (b : Byte) : bankWritable (memPut s a b) (a + 1) n := by
  obtain ⟨hend, hserved⟩ := h
  refine ⟨by omega, fun i hi => ?_⟩
  rw [accessErr_memPut, Nat.add_right_comm, Nat.add_assoc]
  exact hserved (i + 1) (by omega)

/-- Bytes that the banks take are all stored, and in order. -/
theorem writeBytes_bank {s : State} {a : Nat} {bs : List Byte} (h : bankWritable s a bs.length) :
    writeBytes s a bs = (putBytes s a bs, bs.length, none) := by
  induction bs generalizing s a with
  | nil => rfl
  | cons b bs ih =>
    have hlt : a < 0x800000 := by have := h.1; rw [List.length_cons] at this; omega
    have hserved : accessErr s a true = none := h.2 0 (by simp)
    unfold writeBytes
    rw [hserved, storeByte_plain hlt, ih (bankWritable_tail h b)]
    rfl

/-- What is read without a refusal is of the length asked for. -/
theorem length_of_readBytes {s : State} {n a : Nat} {bs : List Byte} (h : readBytes s n a = (bs, none)) : bs.length = n := by
  induction n generalizing a bs with
  | zero => obtain ⟨rfl, -⟩ := Prod.mk.inj h; rfl
  | succ n ih =>
    unfold readBytes at h
    split at h
    · cases h
    · obtain ⟨rfl, hnone⟩ := Prod.mk.inj h
      rw [List.length_cons, ih (Prod.ext rfl hnone)]

theorem memByte_congr {s t : State} (hmem : t.mem = s.mem) (hfill : t.memFill = s.memFill) (a : Nat) : memByte t a = memByte s a := by
  unfold memByte memFillOf; rw [hmem, hfill]

/-- The banks hold bytes that were put there, whatever else has happened beside the banks. -/
theorem bankHas_putBytes {s t : State} {a : Nat} {bs : List Byte} (hmem : t.mem = (putBytes s a bs).mem)
    (hfill : t.memFill = (putBytes s a bs).memFill) : BankHas s t a bs := fun x => by
  rw [memByte_congr hmem hfill, memByte_putBytes]

theorem putBytes_frame (s : State) (a : Nat) (bs : List Byte) : putBytes s a bs = { s with mem := (putBytes s a bs).mem } := by
  induction bs generalizing s a with
  | nil => rfl
  | cons b bs ih => exact (ih (memPut s a b) (a + 1)).trans rfl

/-- A read below the NV window leaves no note (R204, R41). -/
theorem noteRead_bank {a : Nat} (h : a < 0x10000000) (s : State) (m n : Nat) : noteRead s m a n = s := by
  unfold noteRead
  rw [if_neg (by omega), if_neg (by omega)]

end Sys2Proof.Machine

/-! ### COPY, FILL and the data of host reads (R25, R251, R283) -/
namespace Sys2Proof.Machine

/-- With no register write due, nothing follows a mover's work. -/
theorem moverStores_of_none {s : State} (h : noRegDue s) : moverStores s = s := by
  obtain ⟨hdue, hpart⟩ := h
  unfold moverStores
  rw [hdue]
  show { s with regDue := [], regPart := none } = s
  rw [← hdue, ← hpart]

theorem noRegDue_of_made {M : Nat} {s t : State} (h : noRegDue s) (k : Made M s t) (hdue : M.testBit 48 = false)
    (hpart : M.testBit 49 = false) : noRegDue t := ⟨(k.regDue hdue).trans h.1, (k.regPart hpart).trans h.2⟩

/-- A mover's destination in the banks takes all of its bytes. -/
theorem moverPut_bank {s : State} {a : Nat} {bs : List Byte} (c : Nat) (h : bankWritable s a bs.length) :
    moverPut s c true a bs = (putBytes s a bs, bs.length, none) := writeBytes_bank h

/-- Bytes put into the banks and a return: what a mover's whole work comes to. -/
theorem moverDone_does {s : State} {o x : Op} {i : Instr} {a n : Nat} {bs : List Byte} (hop : opOf s x.tag = some o) (hdue : noRegDue s)
    (hexec : exec i s = .next (moverStores (giveRet (putBytes s a bs) x ⟨0, w32 n, 0#32⟩))) : Does i s (fun t =>
      BankHas s t a bs ∧ opOf t x.tag = some { x with ret := some ⟨0, w32 n, 0#32⟩ }
      ∧ t = { s with mem := t.mem, ops := t.ops, tlm := { s.tlm with ops := t.tlm.ops } }) := by
  have hput := putBytes_frame s a bs
  have hframe := giveRet_frame (putBytes s a bs) x ⟨0, w32 n, 0#32⟩
  have hnone : noRegDue (giveRet (putBytes s a bs) x ⟨0, w32 n, 0#32⟩) := by rw [hframe, hput]; exact hdue
  rw [moverStores_of_none hnone] at hexec
  refine ⟨_, hexec, bankHas_putBytes (by rw [hframe]) (by rw [hframe]), opOf_giveRet _ (by rw [hput]; exact hop), ?_⟩
  rw [hframe]
  dsimp only
  rw [hput]

/-- SPACE of a COPY names the banks for both sides (Table 11-3). -/
theorem copy_space {ws : List W32} (h : df ws 8 0 2 = 3) : df ws 8 0 1 = 1 ∧ df ws 8 1 1 = 1 := by
  simp only [df, extractBits] at *; omega

theorem takeCopy_bank {s : State} {o : Op} {bs : List Byte} (hop : opOf s o.tag = some o) (hcode : opcodeOf o = 0x02)
    (hstart : o.started = false) (hfwd : o.fwd = false) (hspace : df o.words 8 0 2 = 3) (heng : dEngsel o.words < 8)
    (hdef : copyUndefined o = false) (hsrc : d64 o.words 4 + dLength o.words ≤ 0x800000)
    (hread : readBytes s (dLength o.words) (d64 o.words 4) = (bs, none)) (hdst : bankWritable s (d64 o.words 6) bs.length) :
    takeCopy o.tag s = .next (giveRet (putBytes s (d64 o.words 6) bs) { o with started := true } ⟨0, w32 bs.length, 0#32⟩) := by
  obtain ⟨hfrom, hto⟩ := copy_space hspace
  have hlen := length_of_readBytes hread
  have hxo : ¬ (0x10000000 ≤ d64 o.words 4 ∧ d64 o.words 4 < 0x10800000) := by omega
  unfold takeCopy
  simp only [hop, hcode, hstart, hfwd, hfrom, hto, heng, hdef, hread, hxo, noteRead_bank (show d64 o.words 4 < 0x10000000 by omega),
    moverPut_bank _ hdst, decide_true, decide_false, ne_eq, not_true_eq_false, Bool.false_eq_true, or_self, if_true, if_false,
    Bool.false_and, Bool.and_false]
  rfl

/-- COPY between ranges of the banks. -/
theorem copy_bank_does {s : State} {o : Op} {bs : List Byte} (hop : opOf s o.tag = some o) (hdue : noRegDue s) (hcode : opcodeOf o = 0x02)
    (hstart : o.started = false) (hfwd : o.fwd = false) (hspace : df o.words 8 0 2 = 3) (heng : dEngsel o.words < 8)
    (hdef : copyUndefined o = false) (hsrc : d64 o.words 4 + dLength o.words ≤ 0x800000)
    (hread : readBytes s (dLength o.words) (d64 o.words 4) = (bs, none)) (hdst : bankWritable s (d64 o.words 6) (dLength o.words)) :
    Does (.copy o.tag) s (fun t => BankHas s t (d64 o.words 6) bs ∧ bs.length = dLength o.words
      ∧ opOf t o.tag = some { o with started := true, ret := some ⟨0, w32 (dLength o.words), 0#32⟩ }
      ∧ t = { s with mem := t.mem, ops := t.ops, tlm := { s.tlm with ops := t.tlm.ops } }) := by
  have hlen := length_of_readBytes hread
  rw [← hlen] at hdst
  have htake := takeCopy_bank hop hcode hstart hfwd hspace heng hdef hsrc hread hdst
  have hexec : exec (.copy o.tag) s = .next (moverStores (nextOf s (takeCopy o.tag s))) := rfl
  rw [htake, hlen] at hexec
  obtain ⟨t, ht, hbank, hret, hframe⟩ := moverDone_does (x := { o with started := true }) hop hdue hexec
  exact ⟨t, ht, hbank, hlen, hret, hframe⟩

/-- A read of host memory is noted under the next number. -/
def readNoted (s : State) (use : ReadUse) (addr len : Nat) : State :=
  { s with hif := { s.hif with reads := s.hif.reads ++ [⟨s.hif.nextRead, addr, len, 0, use, []⟩], nextRead := s.hif.nextRead + 1 } }

/-- On the unit's own link a read of host memory goes out at once (R251). -/
theorem hostGet_own {s : State} (h : isMember s = false) (use : ReadUse) (c addr len : Nat) :
    hostGet s use c addr len = emit (readNoted s use addr len) (.hostRead s.hif.nextRead addr len) :=
  if_neg (by rw [Bool.not_eq_true]; exact h)

/-- COPY from host memory. -/
theorem copy_host_does {s : State} {o : Op} (hop : opOf s o.tag = some o) (hdue : noRegDue s) (hcode : opcodeOf o = 0x02)
    (hstart : o.started = false) (hfwd : o.fwd = false) (hspace : df o.words 8 0 1 = 0) (hreach : hostReach s = true)
    (hmember : isMember s = false) :
    Does (.copy o.tag) s (fun t => opOf t o.tag = some { o with started := true }
      ∧ t.out = s.out ++ [.hostRead s.hif.nextRead (d64 o.words 4) (dLength o.words)]
      ∧ t = { s with ops := t.ops, out := t.out, hif := { s.hif with reads := t.hif.reads, nextRead := s.hif.nextRead + 1 } }) := by
  let begun := setOp s { o with started := true }
  have htake : takeCopy o.tag s = .next (hostGet begun (.op o.tag) o.ctx (d64 o.words 4) (dLength o.words)) := by
    unfold takeCopy
    simp [hop, hcode, hstart, hfwd, hspace, hreach, begun]
  have hexec : exec (.copy o.tag) s = .next (moverStores (nextOf s (takeCopy o.tag s))) := rfl
  rw [htake, hostGet_own (s := begun) hmember] at hexec
  refine ⟨_, hexec.trans (congrArg _ (moverStores_of_none hdue)), opOf_setOp (x := { o with started := true }) hop, ?_, rfl⟩
  exact emit_out _ _ (by simp [covered])

theorem length_patternBytes (ws : List W32) (n : Nat) : (patternBytes ws n).length = n := by simp [patternBytes]

/-- FILL of a range of the banks. -/
theorem fill_does {s : State} {o : Op} (hop : opOf s o.tag = some o) (hdue : noRegDue s) (hcode : opcodeOf o = 0x03)
    (hstart : o.started = false) (hfwd : o.fwd = false) (hspace : df o.words 8 1 1 = 1)
    (hdst : bankWritable s (d64 o.words 6) (dLength o.words)) :
    Does (.fill o.tag) s (fun t => BankHas s t (d64 o.words 6) (patternBytes o.words (dLength o.words))
      ∧ opOf t o.tag = some { o with started := true, ret := some ⟨0, w32 (dLength o.words), 0#32⟩ }
      ∧ t = { s with mem := t.mem, ops := t.ops, tlm := { s.tlm with ops := t.tlm.ops } }) := by
  have hlen := length_patternBytes o.words (dLength o.words)
  have hput := moverPut_bank (bs := patternBytes o.words (dLength o.words)) o.ctx (by rwa [hlen])
  have htake : takeFill o.tag s = .next (giveRet (putBytes s (d64 o.words 6) (patternBytes o.words (dLength o.words)))
      { o with started := true } ⟨0, w32 (dLength o.words), 0#32⟩) := by
    unfold takeFill
    simp [hop, hcode, hstart, hfwd, hspace, hput, hlen, noteOpt, moverRet]
  have hexec : exec (.fill o.tag) s = .next (moverStores (nextOf s (takeFill o.tag s))) := rfl
  rw [htake] at hexec
  exact moverDone_does (x := { o with started := true }) hop hdue hexec

/-! #### Completions of a host read -/

/-- Data of an operation's read are the operation's, and the read is noted as gone on or ended. -/
theorem readData_op {s : State} {o : Op} {r : HRead} {d : List Byte} (hop : opOf s o.tag = some o) (huse : r.use = .op o.tag)
    (hfit : d.length ≤ r.len - r.got) : ∃ h : Hif, readData s r d = copyData (setHif s h) o d := by
  have hkept (h : Hif) : opOf (setHif s h) o.tag = some o := hop
  have hended : opOf (dropRead s r.id) o.tag = some o := hop
  unfold readData
  simp only [List.take_of_length_le hfit, huse, decide_eq_true_eq]
  by_cases hlast : r.len ≤ r.got + d.length
  · simp only [if_pos hlast, hended]; exact ⟨(dropRead s r.id).hif, rfl⟩
  · simp only [if_neg hlast, hkept]; exact ⟨_, rfl⟩

/-- Data that the banks take are put behind those already written, and the last of them end the operation. -/
theorem copyData_bank {s : State} {o : Op} {d : List Byte} (hspace : df o.words 8 1 1 = 1)
    (hdst : bankWritable s (d64 o.words 6 + o.prog) d.length) :
    copyData s o d =
      if dLength o.words ≤ o.prog + d.length then
        giveRet (putBytes s (d64 o.words 6 + o.prog) d) { o with prog := o.prog + d.length } ⟨0, w32 (o.prog + d.length), 0#32⟩
      else setOp (putBytes s (d64 o.words 6 + o.prog) d) { o with prog := o.prog + d.length } := by
  unfold copyData
  simp only [hspace, decide_true, moverPut_bank _ hdst, ne_eq, not_true_eq_false, false_or]
  rfl

theorem copyData_does {s : State} {o : Op} {d : List Byte} (hop : opOf s o.tag = some o) (hspace : df o.words 8 1 1 = 1)
    (hdst : bankWritable s (d64 o.words 6 + o.prog) d.length) :
    let t := copyData s o d
    let p := o.prog + d.length
    BankHas s t (d64 o.words 6 + o.prog) d ∧ t.regs = s.regs ∧ t.regDue = s.regDue ∧ t.regPart = s.regPart
      ∧ opOf t o.tag = some { o with prog := p, ret := if dLength o.words ≤ p then some ⟨0, w32 p, 0#32⟩ else o.ret } := by
  have hput := putBytes_frame s (d64 o.words 6 + o.prog) d
  have hop' : opOf (putBytes s (d64 o.words 6 + o.prog) d) o.tag = some o := by rw [hput]; exact hop
  dsimp only
  rw [copyData_bank hspace hdst]
  by_cases hlast : dLength o.words ≤ o.prog + d.length
  · have hframe := giveRet_frame (putBytes s (d64 o.words 6 + o.prog) d) { o with prog := o.prog + d.length }
      ⟨0, w32 (o.prog + d.length), 0#32⟩
    rw [if_pos hlast, if_pos hlast]
    refine ⟨bankHas_putBytes ?_ ?_, ?_, ?_, ?_, opOf_giveRet (x := { o with prog := o.prog + d.length }) _ hop'⟩ <;> rw [hframe, hput]
  · rw [if_neg hlast, if_neg hlast]
    refine ⟨bankHas_putBytes rfl rfl, ?_, ?_, ?_, opOf_setOp (x := { o with prog := o.prog + d.length }) hop'⟩ <;> rw [hput] <;> rfl

/-- Data of the read of an operation that writes the banks arrive. -/
theorem hostReadCompletion_data_does {s : State} {o : Op} {r : HRead} {d : List Byte} (hop : opOf s o.tag = some o) (hdue : noRegDue s)
    (hread : ownRead s r.id = some r) (huse : r.use = .op o.tag) (hlink : isSet s F.HIF_STAT_LINK_UP = true)
    (hfit : d.length ≤ r.len - r.got) (hspace : df o.words 8 1 1 = 1) (hdst : bankWritable s (d64 o.words 6 + o.prog) d.length) :
    Does (.hostReadCompletion r.id (.ok d)) s (fun t => BankHas s t (d64 o.words 6 + o.prog) d ∧ t.regs = s.regs
      ∧ (let p := o.prog + d.length
        opOf t o.tag = some { o with prog := p, ret := if dLength o.words ≤ p then some ⟨0, w32 p, 0#32⟩ else o.ret })) := by
  obtain ⟨h, hdata⟩ := readData_op hop huse hfit
  obtain ⟨hbank, hregs, hregDue, hregPart, hret⟩ := copyData_does (s := setHif s h) hop hspace hdst
  have htake : takeHostReadCompletion r.id (.ok d) s = .next (copyData (setHif s h) o d) := by
    unfold takeHostReadCompletion
    simp [hread, hlink, hdata]
  have hexec : exec (.hostReadCompletion r.id (.ok d)) s = .next (moverStores (nextOf s (takeHostReadCompletion r.id (.ok d) s))) := rfl
  rw [htake] at hexec
  exact ⟨_, hexec.trans (congrArg _ (moverStores_of_none ⟨hregDue.trans hdue.1, hregPart.trans hdue.2⟩)), hbank, hregs, hret⟩

/-- A read that fails ends its operation with BUS_ERROR and the bytes written so far, and touches nothing else. -/
theorem readFails_op {s : State} {o : Op} {r : HRead} (hop : opOf s o.tag = some o) (huse : r.use = .op o.tag) (fe : FetchEnd) (tun : Nat) :
    let t := readFails s r fe tun
    t.mem = s.mem ∧ t.regs = s.regs ∧ t.regDue = s.regDue ∧ t.regPart = s.regPart
      ∧ opOf t o.tag = some { o with ret := some ⟨0x20, w32 o.prog, w32 o.prog⟩ } := by
  have hop' : opOf (dropRead s r.id) o.tag = some o := hop
  have hframe := giveRet_frame (dropRead s r.id) o ⟨0x20, w32 o.prog, w32 o.prog⟩
  unfold readFails
  simp only [huse, hop']
  refine ⟨?_, ?_, ?_, ?_, opOf_giveRet _ hop'⟩ <;> rw [hframe] <;> rfl

theorem hostReadCompletion_failed_does {s : State} {o : Op} {r : HRead} (hop : opOf s o.tag = some o) (hdue : noRegDue s)
    (hread : ownRead s r.id = some r) (huse : r.use = .op o.tag) (hlink : isSet s F.HIF_STAT_LINK_UP = true) :
    Does (.hostReadCompletion r.id .failed) s (fun t => t.mem = s.mem ∧ t.regs = s.regs
      ∧ opOf t o.tag = some { o with ret := some ⟨0x20, w32 o.prog, w32 o.prog⟩ }) := by
  obtain ⟨hmem, hregs, hregDue, hregPart, hret⟩ := readFails_op hop huse .failed 1
  have htake : takeHostReadCompletion r.id .failed s = .next (readFails s r .failed 1) := by
    unfold takeHostReadCompletion
    simp [hread, hlink]
  have hexec : exec (.hostReadCompletion r.id .failed) s = .next (moverStores (nextOf s (takeHostReadCompletion r.id .failed s))) := rfl
  rw [htake] at hexec
  exact ⟨_, hexec.trans (congrArg _ (moverStores_of_none ⟨hregDue.trans hdue.1, hregPart.trans hdue.2⟩)), hmem, hregs, hret⟩

theorem hostCompletionTimeout_does {s : State} {o : Op} {r : HRead} (hop : opOf s o.tag = some o)
    (hread : ownRead s r.id = some r) (huse : r.use = .op o.tag) :
    Does (.hostCompletionTimeout r.id) s (fun t => t.mem = s.mem ∧ t.regs = s.regs
      ∧ opOf t o.tag = some { o with ret := some ⟨0x20, w32 o.prog, w32 o.prog⟩ }) := by
  obtain ⟨hmem, hregs, -, -, hret⟩ := readFails_op hop huse .timeout 2
  have hexec : exec (.hostCompletionTimeout r.id) s = .next (readFails s r .timeout 2) := by
    show execHostCompletionTimeout r.id s = _
    unfold execHostCompletionTimeout
    rw [hread]
  exact ⟨_, hexec, hmem, hregs, hret⟩

/-- Settles O11, command by command. -/
theorem moversCopyAndFill : Obligations.MoversCopyAndFill := fun _ _ hop hdue =>
  ⟨fun hcode hstart hfwd =>
    ⟨fun _ hspace heng hdef hsrc hread hdst => copy_bank_does hop hdue hcode hstart hfwd hspace heng hdef hsrc hread hdst,
      copy_host_does hop hdue hcode hstart hfwd⟩,
    fill_does hop hdue,
    fun _ hread huse hlink =>
      ⟨fun _ hfit hspace hdst => hostReadCompletion_data_does hop hdue hread huse hlink hfit hspace hdst,
        hostReadCompletion_failed_does hop hdue hread huse hlink, hostCompletionTimeout_does hop hread huse⟩⟩

end Sys2Proof.Machine

/-! ### Gates between the islands and the fabric (R65 to R71) -/
namespace Sys2Proof.Machine

/-- A counter that saturates takes what is added, up to its largest value. -/
theorem getf_satAdd (s : State) (f : Fld) (n : Nat) (h : f.lo + f.width ≤ 32) :
    getf (satAdd s f n) f = min (2 ^ f.width - 1) (getf s f + n) := by
  have hlt : min (2 ^ f.width - 1) (getf s f + n) < 2 ^ f.width :=
    lt_of_le_of_lt (Nat.min_le_left _ _) (Nat.sub_lt Nat.one_le_two_pow Nat.one_pos)
  rw [satAdd, getf_setf_same _ _ _ h, Nat.mod_eq_of_lt hlt]

/-- Gate `q` of island `k` holds `l`, every other gate what it held, and no register has changed. -/
def GateIs (s t : State) (k q : Nat) (l : List Nat) : Prop :=
  (∀ j h, h < 8 → gateItems t j h = if j = k ∧ h = q then l else gateItems s j h) ∧ t.regs = s.regs

theorem gateItems_setGate (s : State) {k q j h : Nat} (hq : q < 8) (hh : h < 8) (l : List Nat) :
    gateItems (setGate s k q l) j h = if j = k ∧ h = q then l else gateItems s j h := by
  by_cases hsame : j = k ∧ h = q
  · obtain ⟨rfl, rfl⟩ := hsame
    rw [if_pos ⟨rfl, rfl⟩]
    exact sget_sset_same ..
  · rw [if_neg hsame]
    show (sget (8 * j + h) (sset [] (8 * k + q) l s.fab.gates)).getD [] = _
    rw [sget_sset_ne (by omega)]
    rfl

theorem setGate_gateIs (s : State) (k : Nat) {q : Nat} (hq : q < 8) (l : List Nat) : GateIs s (setGate s k q l) k q l :=
  ⟨fun _ _ hh => gateItems_setGate s hq hh l, rfl⟩

section
variable {s : State} (n : Fin 11) (g : Fin 4) (v : BitVec 128)

theorem gateClockWrite_room_does (hused : gateUsed s (14 + n.val) g = true) (hclk : bit s.fab.clocks (14 + n.val) = true)
    (hroom : (gateItems s (14 + n.val) g).length < gateDepth s (14 + n.val) g) :
    Does (.gateClockWrite n g v false) s (fun t => GateIs s t (14 + n.val) g (gateItems s (14 + n.val) g ++ [v.toNat])) :=
  ⟨_, (if_neg (by simp [hused, hclk])).trans (if_neg (by simpa using hroom)), setGate_gateIs s _ (by omega) _⟩

theorem gateClockWrite_full_does (hused : gateUsed s (14 + n.val) g = true) (hclk : bit s.fab.clocks (14 + n.val) = true) (full : Bool)
    (hfull : full = true ∨ gateDepth s (14 + n.val) g ≤ (gateItems s (14 + n.val) g).length) :
    Does (.gateClockWrite n g v full) s (fun t => t.fab = s.fab
      ∧ getf t F.FAB_GATE_OVF_COUNT = min 65535 (getf s F.FAB_GATE_OVF_COUNT + 1) ∧ getf t F.FAB_GATE_OVF_ISLAND = 14 + n.val) := by
  refine ⟨_, (if_neg (by simp [hused, hclk])).trans (if_pos (by simpa using hfull)), rfl, ?_, ?_⟩
  · rw [getf_setf_bits _ _ _ _ (.inr (by decide))]
    exact getf_satAdd s _ 1 (by decide)
  · rw [getf_setf_same _ _ _ (by decide)]
    exact Nat.mod_eq_of_lt (show 14 + n.val < 32 by omega)

theorem gateHandshakePop_does {x : Nat} {r : List Nat} (hused : gateUsed s (14 + n.val) g = true)
    (hitems : gateItems s (14 + n.val) g = x :: r) : Does (.gateHandshakePop n g) s (fun t =>
      GateIs s t (14 + n.val) g r ∧ t.out = s.out ++ [.gate (14 + n.val) g x]) := by
  have hexec : exec (.gateHandshakePop n g) s = .next (emit (setGate s (14 + n.val) g r) (.gate (14 + n.val) g x)) := by
    show execGateHandshakePop n g s = _
    unfold execGateHandshakePop
    rw [hitems]
    exact if_pos hused
  exact ⟨_, hexec, setGate_gateIs s _ (by omega) r, emit_out _ _ (by simp [covered])⟩

theorem gateHandshakePop_empty (hitems : gateItems s (14 + n.val) g = []) : exec (.gateHandshakePop n g) s = .next s := by
  show execGateHandshakePop n g s = _
  unfold execGateHandshakePop
  rw [hitems]

theorem handshakeSideWrite_room_does (hused : gateUsed s (14 + n.val) (4 + g.val) = true)
    (hroom : (gateItems s (14 + n.val) (4 + g.val)).length < gateDepth s (14 + n.val) (4 + g.val)) :
    Does (.handshakeSideWrite n g v) s (fun t =>
      GateIs s t (14 + n.val) (4 + g.val) (gateItems s (14 + n.val) (4 + g.val) ++ [v.toNat])) :=
  ⟨_, if_pos (by simp [hused, hroom]), setGate_gateIs s _ (by omega) _⟩

theorem handshakeSideWrite_full (hfull : gateDepth s (14 + n.val) (4 + g.val) ≤ (gateItems s (14 + n.val) (4 + g.val)).length) :
    exec (.handshakeSideWrite n g v) s = .next s :=
  if_neg (by simp [hfull])

theorem clockSideRead_does {x : Nat} {r : List Nat} (hused : gateUsed s (14 + n.val) (4 + g.val) = true)
    (hclk : bit s.fab.clocks (14 + n.val) = true) (htap : tapOwns s = false) (hitems : gateItems s (14 + n.val) (4 + g.val) = x :: r) :
    Does (.clockSideRead n g) s (fun t =>
      GateIs s t (14 + n.val) (4 + g.val) r ∧ t.out = s.out ++ [.gate (14 + n.val) (4 + g.val) x]) := by
  have hexec : exec (.clockSideRead n g) s = .next (emit (setGate s (14 + n.val) (4 + g.val) r) (.gate (14 + n.val) (4 + g.val) x)) := by
    show execClockSideRead n g s = _
    unfold execClockSideRead
    dsimp only
    rw [hitems]
    exact if_pos (by simp [hused, hclk])
  have hpins : tapOwns (setGate s (14 + n.val) (4 + g.val) r) = false := htap
  exact ⟨_, hexec, setGate_gateIs s _ (by omega) r, emit_out _ _ (by simp [hpins])⟩

theorem clockSideRead_waits (h : gateItems s (14 + n.val) (4 + g.val) = [] ∨ bit s.fab.clocks (14 + n.val) = false) :
    exec (.clockSideRead n g) s = .next s := by
  show execClockSideRead n g s = _
  unfold execClockSideRead
  dsimp only
  split
  · rfl
  · next hitems =>
    have hclk := h.resolve_left (by rw [hitems]; exact List.cons_ne_nil _ _)
    exact if_neg (by simp [hclk])

end

/-! #### Static pins (R72, R85) -/

theorem staticInputChange_does {s : State} (b : Fin 8) (pin : Nat) (v : Bool) (hrail : bit s.pwr.railsOff (8 + b.val) = false)
    (himage : s.fab.image ≠ []) : Does (.staticInputChange b pin v) s (fun t =>
      (sget (8 * pin + b.val) t.fab.statics).getD 0 = b2n v ∧ t.regs = s.regs ∧ t.out = s.out) :=
  ⟨_, if_neg (by simp [hrail, himage]), sget_sset_same .., rfl, rfl⟩

theorem staticInputChange_browned {s : State} (b : Fin 8) (pin : Nat) (v : Bool) (hrail : bit s.pwr.railsOff (8 + b.val) = true) :
    exec (.staticInputChange b pin v) s = .next s :=
  if_pos (by simp [hrail])

end Sys2Proof.Machine

/-! ### Socket masters (R73 to R76) -/
namespace Sys2Proof.Machine

/-- Of the host interface's registers a device event reaches HIF_DEV_PEND and the PBA alone. -/
theorem devEvent_rd_hif {r : Nat} (hb : blockOf r = 7) (hpend : r ≠ R.HIF_DEV_PEND) (hpba : ∀ i, r ≠ R.HIF_PBA i) (s : State) (k : Nat) :
    rd (devEvent s k) r = rd s r := by
  have hkit : r ≠ R.KIT_IRQ_PEND := by rintro rfl; exact absurd hb (by decide)
  have hvec (u : State) (v : Nat) : rd (sendVec u v) r = rd u r := by
    unfold sendVec
    split_ifs
    · exact rd_wr_ne (hpba _) _ _
    · rfl
  have hsent (u : State) : rd (sendDev u k) r = rd u r := by
    unfold sendDev
    split_ifs
    · exact (sendMsg_made (Nat.or_self _) _ _ _ (.refl ..)).blk r (by rw [hb]; rfl)
    · exact hvec _ _
    · rfl
  rw [devEvent_eq]
  split_ifs
  · rfl
  · rw [hsent, devNoted_rd hpend hkit]
  · exact devNoted_rd hpend hkit s k

/-- The socket gets an error response, which is counted, and no memory changes. -/
def SockRefused (s t : State) (k : Nat) : Prop :=
  .socket k 1 [] ∈ t.out ∧ t.mem = s.mem ∧ getf t (F.FAB_SOCK_ERRS k) = min 65535 (getf s (F.FAB_SOCK_ERRS k) + 1)

theorem sockError_refused {s u : State} {k : Nat} (hmem : u.mem = s.mem) (hcount : rd u (R.FAB_SOCK k) = rd s (R.FAB_SOCK k)) :
    SockRefused s (sockError u k) k := by
  have hout : (emit u (.socket k 1 [])).out = u.out ++ [.socket k 1 []] := emit_out _ _ (by simp [covered])
  refine ⟨?_, hmem, ?_⟩
  · show _ ∈ (emit u (.socket k 1 [])).out
    rw [hout]; simp
  · rw [sockError, getf_satAdd _ _ _ (by simp [F.FAB_SOCK_ERRS]), emit_getf, getf_congr hcount]
    rfl

/-! #### The beats of a burst -/

theorem putBytes_append (s : State) (a : Nat) (xs ys : List Byte) :
    putBytes s a (xs ++ ys) = putBytes (putBytes s a xs) (a + xs.length) ys := by
  induction xs generalizing s a with
  | nil => rfl
  | cons b xs ih => exact (ih (memPut s a b) (a + 1)).trans (by rw [List.length_cons, Nat.add_assoc, Nat.add_comm 1]; rfl)

/-- A beat with every byte enabled puts its bytes into the bank. -/
theorem writeBeat_bank {s : State} {a : Nat} {d : List Byte} (h : a + d.length ≤ 0x800000) : writeBeat s a d [] = putBytes s a d := by
  induction d generalizing s a with
  | nil => rfl
  | cons b d ih =>
    rw [List.length_cons] at h
    have hput : writeBeat s a (b :: d) [] = writeBeat (storeByte s a b) (a + 1) d [] := rfl
    rw [hput, storeByte_plain (by omega), ih (by omega)]
    rfl

/-- Whole beats of 16 bytes put the bytes of them all into the bank, one beat after the other. -/
theorem writeBeats_bank {s : State} {a : Nat} {ds : List (List Byte)} (hlen : ∀ d ∈ ds, d.length = 16)
    (h : a + 16 * ds.length ≤ 0x800000) : writeBeats s a (ds.map (fun d => (d, []))) = putBytes s a ds.flatten := by
  induction ds generalizing s a with
  | nil => rfl
  | cons d ds ih =>
    obtain ⟨hd, hds⟩ := List.forall_mem_cons.1 hlen
    rw [List.length_cons] at h
    have hbeat : writeBeats s a ((d :: ds).map (fun d => (d, []))) =
        writeBeats (writeBeat s a (d.take 16) []) (a + 16) (ds.map (fun d => (d, []))) := rfl
    rw [hbeat, List.take_of_length_le (by omega), writeBeat_bank (by omega), ih hds (by omega), List.flatten_cons, putBytes_append, hd]

/-- Bytes of the banks that are all served read as the banks hold them. -/
theorem readBytes_bank {s : State} {n a : Nat} (hend : a + n ≤ 0x800000) (hserved : ∀ i < n, accessErr s (a + i) false = none) :
    readBytes s n a = ((List.range n).map (fun i => memByte s (a + i)), none) := by
  induction n generalizing a with
  | zero => rfl
  | succ n ih =>
    have hfirst : accessErr s a false = none := hserved 0 (by omega)
    have hrest := ih (a := a + 1) (by omega) (fun i hi => by
      rw [Nat.add_right_comm, Nat.add_assoc]; exact hserved (i + 1) (by omega))
    unfold readBytes
    rw [hfirst, hrest, byteAt_plain (by omega), List.range_succ_eq_map, List.map_cons, List.map_map]
    simp only [Function.comp_def, Nat.succ_eq_add_one, Nat.add_zero, Nat.add_assoc, Nat.add_comm 1]

/-- Outputs that reach no pin go out one after the other. -/
theorem foldl_emit {α : Type} {f : α → Out} (hf : ∀ x, covered (f x) = false) (l : List α) (s : State) :
    l.foldl (fun t x => emit t (f x)) s = { s with out := s.out ++ l.map f } := by
  induction l generalizing s with
  | nil => rw [List.map_nil, List.append_nil]; rfl
  | cons x l ih =>
    have hout := emit_out s (f x) (by simp [hf x])
    rw [List.foldl_cons, ih, hout, List.map_cons, List.append_assoc, List.singleton_append]
    rfl

section
variable {s : State} {k : Fin 32} (hen : isSet s (F.FAB_SOCK_EN k) = true) (hreg : regionIsOn s (k.val / 2) = true) (hlive : fabLive s = true)
include hen hreg hlive

theorem socketBurst_misaligned_does {a : Nat} {len : Fin 16} (h : a % 16 ≠ 0 ∨ 256 < a % 256 + 16 * (len.val + 1)) (w : Bool)
    (beats : List (List Byte × List Bool)) : Does (.socketBurst k a len w beats) s (fun t => SockRefused s t k) :=
  ⟨_, (if_neg (by simp [hen, hreg, hlive])).trans (if_pos h), sockError_refused rfl rfl⟩

theorem socketBurst_unreached_does {a : Nat} {len : Fin 16} (halign : a % 16 = 0) (hpage : a % 256 + 16 * (len.val + 1) ≤ 256) {w : Bool}
    (hreach : sockReach a w = false) (beats : List (List Byte × List Bool)) : Does (.socketBurst k a len w beats) s (fun t =>
      SockRefused s t k ∧ getf t F.HIF_HOLE_CNT_COUNT = min (2 ^ 32 - 1) (getf s F.HIF_HOLE_CNT_COUNT + 1)) := by
  have hkept := noteErr_made (Nat.or_self _) s .hole (.refl ..)
  refine ⟨_, (if_neg (by simp [hen, hreg, hlive])).trans ((if_neg (by omega)).trans (if_pos (by simp [hreach]))),
    sockError_refused (hkept.mem rfl) (hkept.blk _ (by rw [R.FAB_SOCK_blk]; rfl)), ?_⟩
  have hsock : F.HIF_HOLE_CNT_COUNT.reg ≠ (F.FAB_SOCK_ERRS k).reg := by
    simp only [F.HIF_HOLE_CNT_COUNT, R.HIF_HOLE_CNT, F.FAB_SOCK_ERRS, R.FAB_SOCK]; omega
  have hpba (i : Nat) : R.HIF_HOLE_CNT ≠ R.HIF_PBA i := by simp only [R.HIF_HOLE_CNT, R.HIF_PBA]; omega
  rw [sockError, satAdd, getf_setf_reg _ _ _ _ hsock, emit_getf]
  exact (getf_congr (devEvent_rd_hif rfl (by decide) hpba _ 7)).trans (getf_satAdd s _ 1 (by decide))

/-- A burst that lies in a bank of the sockets, in service, goes on to its beats. -/
theorem socketBurst_served {a : Nat} {len : Fin 16} (halign : a % 16 = 0) (hpage : a % 256 + 16 * (len.val + 1) ≤ 256) (hlo : 0x500000 ≤ a)
    (hhi : a < 0x800000) (hbank : bankErr s (a / 0x100000) = none) (w : Bool) (beats : List (List Byte × List Bool)) :
    exec (.socketBurst k a len w beats) s = .next (if w then emit (writeBeats s a (beats.take (len.val + 1))) (.socket k 2 [])
      else (List.range (len.val + 1)).foldl (fun t j => emit t (.socket k 0 (readBytes s 16 (a + 16 * j)).1)) s) := by
  have hserved : accessErr s a w = none := (accessErr_plain hhi s w).trans hbank
  have hreach : sockReach a w = true := by simp [sockReach, bankAddr_plain hhi, hlo]
  have hpage' : ¬ (a % 16 ≠ 0 ∨ 256 < a % 256 + 16 * (len.val + 1)) := by omega
  show execSocketBurst k a len w beats s = _
  unfold execSocketBurst
  simp only [hen, hreg, hlive, hpage', hreach, hserved, bankAddr_plain hhi, noteRead_bank (show a < 0x10000000 by omega)]
  cases w <;> rfl

theorem socketBurst_write_does {a : Nat} {len : Fin 16} (halign : a % 16 = 0) (hpage : a % 256 + 16 * (len.val + 1) ≤ 256)
    (hlo : 0x500000 ≤ a) (hhi : a < 0x800000) (hbank : bankErr s (a / 0x100000) = none) {ds : List (List Byte)}
    (hbeats : ds.length = len.val + 1) (hlen : ∀ d ∈ ds, d.length = 16) :
    Does (.socketBurst k a len true (ds.map (fun d => (d, [])))) s (fun t =>
      BankHas s t a ds.flatten ∧ t.out = s.out ++ [.socket k 2 []]) := by
  have hput := writeBeats_bank (s := s) (a := a) hlen (by omega)
  have htake : (ds.map (fun d => (d, ([] : List Bool)))).take (len.val + 1) = ds.map (fun d => (d, [])) :=
    List.take_of_length_le (by simp [hbeats])
  have hexec := socketBurst_served hen hreg hlive halign hpage hlo hhi hbank true (ds.map (fun d => (d, [])))
  rw [if_pos rfl, htake, hput] at hexec
  refine ⟨_, hexec, bankHas_putBytes rfl rfl, ?_⟩
  rw [emit_out _ _ (by simp [covered]), putBytes_frame]

theorem socketBurst_read_does {a : Nat} {len : Fin 16} (halign : a % 16 = 0) (hpage : a % 256 + 16 * (len.val + 1) ≤ 256)
    (hlo : 0x500000 ≤ a) (hhi : a < 0x800000) (hbank : bankErr s (a / 0x100000) = none) (beats : List (List Byte × List Bool)) :
    Does (.socketBurst k a len false beats) s (fun t => t = { s with out := t.out } ∧ t.out = s.out
      ++ (List.range (len.val + 1)).map (fun j => .socket k 0 ((List.range 16).map (fun i => memByte s (a + 16 * j + i))))) := by
  have hbeat : ∀ j ∈ List.range (len.val + 1), Out.socket k 0 (readBytes s 16 (a + 16 * j)).1
      = .socket k 0 ((List.range 16).map (fun i => memByte s (a + 16 * j + i))) := fun j hj => by
    have hj' := List.mem_range.1 hj
    have hserved : ∀ i < 16, accessErr s (a + 16 * j + i) false = none := fun i hi => by
      rw [accessErr_plain (by omega), show (a + 16 * j + i) / 0x100000 = a / 0x100000 by omega]
      exact hbank
    rw [readBytes_bank (by omega) hserved]
  have hexec := socketBurst_served hen hreg hlive halign hpage hlo hhi hbank false beats
  rw [if_neg (by decide), foldl_emit (fun _ => rfl), List.map_congr_left hbeat] at hexec
  exact ⟨_, hexec, rfl, rfl⟩

end

end Sys2Proof.Machine

/-! ### The register window and calls (R41, R77, R78) -/
namespace Sys2Proof.Machine

section
variable {s : State} (k : Fin 32) (off : Fin 0x10000) (w : Option W32)

theorem fabWindowAccess_away_does (ans : Option W32) (h : winServed s k = false) : Does (.fabWindowAccess k off w ans) s (fun t =>
    getf t F.FAB_WIN_CNT_COUNT = min (2 ^ 32 - 1) (getf s F.FAB_WIN_CNT_COUNT + 1)
    ∧ t.out = (if w.isNone then s.out ++ [.regData (0x200000 + 0x10000 * k.val + off.val / 4 * 4) 0#32] else s.out) ∧ t.fab = s.fab) := by
  let counted := satAdd s F.FAB_WIN_CNT_COUNT 1
  have hcount : getf counted F.FAB_WIN_CNT_COUNT = min (2 ^ 32 - 1) (getf s F.FAB_WIN_CNT_COUNT + 1) := getf_satAdd s _ 1 (by decide)
  have haccess : winAccess s k off w ans =
      if w.isNone then emit counted (.regData (0x200000 + 0x10000 * k.val + off.val / 4 * 4) 0#32) else counted := if_pos (by simp [h])
  refine ⟨winAccess s k off w ans, rfl, ?_⟩
  rw [haccess]
  split
  · exact ⟨hcount, emit_regData_out _ _ _, rfl⟩
  · exact ⟨hcount, rfl, rfl⟩

/-- An access that is served goes out to the slave port of the socket. -/
theorem emit_socketWin_out (s : State) (k off : Nat) (w : Option W32) :
    (emit s (.socketWin k off w)).out = s.out ++ [.socketWin k off w] := emit_out _ _ (by simp [covered])

theorem fabWindowAccess_waits_does (h : winServed s k = true) : Does (.fabWindowAccess k off w none) s (fun t =>
    t.out = s.out ++ [.socketWin k (off.val / 4 * 4) w]
    ∧ t.fab = { s.fab with wins := s.fab.wins ++ [(k.val, off.val / 4 * 4, w)] }) := by
  let sent := emit s (.socketWin k (off.val / 4 * 4) w)
  have haccess : winAccess s k off w none = setFab sent { s.fab with wins := s.fab.wins ++ [(k.val, off.val / 4 * 4, w)] } :=
    if_neg (by simp [h])
  refine ⟨winAccess s k off w none, rfl, ?_⟩
  rw [haccess]
  exact ⟨emit_socketWin_out _ _ _ _, rfl⟩

theorem fabWindowAccess_answered_does (v : W32) (h : winServed s k = true) : Does (.fabWindowAccess k off w (some v)) s (fun t =>
    t.fab = s.fab ∧ t.out = s.out ++ .socketWin k (off.val / 4 * 4) w ::
      (if w.isNone then [.regData (0x200000 + 0x10000 * k.val + off.val / 4 * 4) v] else [])) := by
  let sent := emit s (.socketWin k (off.val / 4 * 4) w)
  have hsent : sent.out = s.out ++ [.socketWin k (off.val / 4 * 4) w] := emit_socketWin_out _ _ _ _
  have haccess : winAccess s k off w (some v) =
      if w.isNone then emit sent (.regData (0x200000 + 0x10000 * k.val + off.val / 4 * 4) v) else sent := if_neg (by simp [h])
  refine ⟨winAccess s k off w (some v), rfl, ?_⟩
  rw [haccess]
  split
  · exact ⟨rfl, by rw [emit_regData_out, hsent, List.append_assoc]; rfl⟩
  · exact ⟨rfl, hsent⟩

theorem fabWindowTimeout_does {p : Nat × Nat × Option W32} (h : s.fab.wins.find? (fun p => p.1 == k.val) = some p) :
    Does (.fabWindowTimeout k) s (fun t => t.fab = { s.fab with wins := s.fab.wins.erase p }
      ∧ getf t (F.FAB_SOCK_ERRS k) = min 65535 (getf s (F.FAB_SOCK_ERRS k) + 1)
      ∧ t.out = (if p.2.2.isNone then s.out ++ [.regData (0x200000 + 0x10000 * k.val + p.2.1) 0xFFFFFFFF#32] else s.out)) := by
  let ended := winErr (setFab s { s.fab with wins := s.fab.wins.erase p }) k
  have hcount : getf ended (F.FAB_SOCK_ERRS k) = min 65535 (getf s (F.FAB_SOCK_ERRS k) + 1) :=
    getf_satAdd _ _ 1 (by simp [F.FAB_SOCK_ERRS])
  have hexec : exec (.fabWindowTimeout k) s = .next (if p.2.2.isNone
      then emit ended (.regData (0x200000 + 0x10000 * k.val + p.2.1) 0xFFFFFFFF#32) else ended) := by
    show execFabWindowTimeout k s = _
    unfold execFabWindowTimeout
    rw [h]
  refine ⟨_, hexec, ?_⟩
  split
  · exact ⟨rfl, hcount, emit_regData_out _ _ _⟩
  · exact ⟨rfl, hcount, rfl⟩

end

/-- A command that makes its operation return, and does nothing else. -/
theorem giveRet_endsOp {s : State} {o : Op} {i : Instr} {r : Ret} (hop : opOf s o.tag = some o) (hexec : exec i s = .next (giveRet s o r)) :
    EndsOp i s o r :=
  ⟨_, hexec, opOf_giveRet r hop, by unfold giveRet countOp; split <;> rfl⟩

/-- A call that begins: its opcode is FAB_CALL and nothing has been done about it. -/
theorem exec_fabCall {s : State} {o : Op} (hop : opOf s o.tag = some o) (hcode : opcodeOf o = 0x40) (hret : o.ret = none)
    (hstart : o.started = false) (hfwd : o.fwd = false) :
    exec (.fabCall o.tag) s = .next (
      if isSet s (F.FAB_SOCK_CALL_EN (dEngsel o.words)) && regionIsOn s (dEngsel o.words / 2) && fabLive s
      then emit (setOp s { o with started := true }) (.socketCall (dEngsel o.words) (o.words.drop 4))
      else giveRet s o ⟨0x1B, 0#32, 0#32⟩) := by
  show execFabCall o.tag s = _
  unfold execFabCall
  simp only [hop, hcode, hret, hstart, hfwd, ← Bool.not_and]
  generalize (_ && _ && fabLive s) = there
  cases there <;> rfl

theorem fabCall_delivered_does {s : State} {o : Op} (hop : opOf s o.tag = some o) (hcode : opcodeOf o = 0x40) (hret : o.ret = none)
    (hstart : o.started = false) (hfwd : o.fwd = false)
    (hthere : (isSet s (F.FAB_SOCK_CALL_EN (dEngsel o.words)) && regionIsOn s (dEngsel o.words / 2) && fabLive s) = true) :
    Does (.fabCall o.tag) s (fun t => t.out = s.out ++ [.socketCall (dEngsel o.words) (o.words.drop 4)]
      ∧ opOf t o.tag = some { o with started := true } ∧ t.regs = s.regs) :=
  ⟨_, (exec_fabCall hop hcode hret hstart hfwd).trans (congrArg Host.Outcome.next (if_pos hthere)), emit_out _ _ (by simp [covered]),
    opOf_setOp (x := { o with started := true }) hop, rfl⟩

theorem fabCall_refused_ends {s : State} {o : Op} (hop : opOf s o.tag = some o) (hcode : opcodeOf o = 0x40) (hret : o.ret = none)
    (hstart : o.started = false) (hfwd : o.fwd = false)
    (haway : (isSet s (F.FAB_SOCK_CALL_EN (dEngsel o.words)) && regionIsOn s (dEngsel o.words / 2) && fabLive s) = false) :
    EndsOp (.fabCall o.tag) s o ⟨0x1B, 0#32, 0#32⟩ :=
  giveRet_endsOp hop ((exec_fabCall hop hcode hret hstart hfwd).trans (congrArg Host.Outcome.next (if_neg (by simp [haway]))))

theorem fabCallAnswer_ends {s : State} {o : Op} (hop : opOf s o.tag = some o) (hcode : opcodeOf o = 0x40) (hret : o.ret = none) (st : Nat)
    (r0 r1 : W32) (hstart : o.started = true) (hlive : fabLive s = true) :
    EndsOp (.fabCallAnswer o.tag st r0 r1) s o ⟨if st = 0 ∨ st = 1 ∨ st = 0x20 then st else 0x7F, r0, r1⟩ := by
  refine giveRet_endsOp hop ?_
  show execFabCallAnswer o.tag st r0 r1 s = _
  unfold execFabCallAnswer
  simp only [hop, hcode, hret, hstart, hlive]
  rfl

/-- Settles O48, port by port. -/
theorem fabricPorts : Obligations.FabricPorts := fun _ =>
  ⟨fun n g v =>
    ⟨fun hused hclk => ⟨gateClockWrite_room_does n g v hused hclk, gateClockWrite_full_does n g v hused hclk⟩,
      fun _ _ hused hitems => gateHandshakePop_does n g hused hitems,
      gateHandshakePop_empty n g,
      fun hused => ⟨handshakeSideWrite_room_does n g v hused, handshakeSideWrite_full n g v,
        fun _ _ hclk htap hitems => clockSideRead_does n g hused hclk htap hitems⟩,
      clockSideRead_waits n g⟩,
    fun b pin v => ⟨staticInputChange_does b pin v, staticInputChange_browned b pin v⟩,
    fun k a len w ds hen hreg hlive =>
      ⟨fun h => socketBurst_misaligned_does hen hreg hlive h w _,
        fun halign hpage => ⟨fun hreach => socketBurst_unreached_does hen hreg hlive halign hpage hreach _,
          fun hlo hhi hbank => ⟨
            fun hw hbeats hlen => by subst hw; exact socketBurst_write_does hen hreg hlive halign hpage hlo hhi hbank hbeats hlen,
            fun hw => by subst hw; exact socketBurst_read_does hen hreg hlive halign hpage hlo hhi hbank _⟩⟩⟩,
    fun k off w ans =>
      ⟨fabWindowAccess_away_does k off w ans,
        fun hserved => ⟨fun hans => by subst hans; exact fabWindowAccess_waits_does k off w hserved,
          fun v hans => by subst hans; exact fabWindowAccess_answered_does k off w v hserved⟩,
        fun _ hp => fabWindowTimeout_does k hp⟩,
    fun _ hop hcode hret =>
      ⟨fun hstart hfwd haway => fabCall_refused_ends hop hcode hret hstart hfwd haway,
        fun hstart hfwd hthere => fabCall_delivered_does hop hcode hret hstart hfwd hthere,
        fun st r0 r1 hstart hlive => fabCallAnswer_ends hop hcode hret st r0 r1 hstart hlive⟩⟩

end Sys2Proof.Machine

/-! ### Trim windows, pace and the islands' lock (R50 to R59, R71) -/
namespace Sys2Proof.Machine

/-! #### Masks -/

theorem bit_setBit (m i j : Nat) : bit (setBit m i) j = (bit m j || j == i) := by
  unfold bit setBit
  rw [Nat.testBit_or, Nat.testBit_two_pow, Bool.beq_eq_decide_eq, decide_eq_decide.2 eq_comm]

/-- Taking away a bit that stands borrows from no other. -/
theorem testBit_sub_two_pow {m i : Nat} (h : m.testBit i = true) (j : Nat) :
    (m - 2 ^ i).testBit j = (m.testBit j && j != i) := by
  have hle : 2 ^ i ≤ m := Nat.ge_two_pow_of_testBit h
  induction i generalizing m j with
  | zero =>
    have hodd : m % 2 = 1 := Nat.mod_two_eq_one_iff_testBit_zero.2 h
    cases j with
    | zero => simp [Nat.testBit_zero]; omega
    | succ j => simp [Nat.testBit_add_one, show (m - 1) / 2 = m / 2 by omega]
  | succ i ih =>
    rw [Nat.testBit_add_one] at h
    rw [Nat.pow_succ] at hle ⊢
    cases j with
    | zero => simp [Nat.testBit_zero, show (m - 2 ^ i * 2) % 2 = m % 2 by omega]
    | succ j =>
      rw [Nat.testBit_add_one, Nat.testBit_add_one, show (m - 2 ^ i * 2) / 2 = m / 2 - 2 ^ i by omega, ih h j (by omega)]
      simp

theorem bit_clearBit (m i j : Nat) : bit (clearBit m i) j = (bit m j && j != i) := by
  unfold bit clearBit
  split
  · next h => exact testBit_sub_two_pow h j
  · next h =>
    by_cases hj : j = i
    · subst hj; simp [h]
    · simp [hj]

theorem bit_setBit_same (m i : Nat) : bit (setBit m i) i = true := by rw [bit_setBit, BEq.rfl, Bool.or_true]

theorem bit_clearBit_same (m i : Nat) : bit (clearBit m i) i = false := by rw [bit_clearBit, bne_self_eq_false, Bool.and_false]

/-- A bit within a field reads as it was last written. -/
theorem bit_getf_setf (s : State) (f : Fld) (v : Nat) (h : f.lo + f.width ≤ 32) {k : Nat} (hk : k < f.width) :
    bit (getf (setf s f v) f) k = bit v k := by
  rw [getf_setf_same _ _ _ h, bit, Nat.testBit_mod_two_pow, decide_eq_true hk, Bool.true_and]
  rfl

/-- A counter whose bits a saturating count does not meet stays. -/
theorem getf_satAdd_bits (s : State) (f g : Fld) (n : Nat) (h : f.lo + f.width ≤ g.lo ∨ g.lo + g.width ≤ f.lo) :
    getf (satAdd s f n) g = getf s g := getf_setf_bits s f g _ h

/-! #### Windows (R52 to R57) -/

/-- A window begins over the fabric's record `f`: it counts, and no region has made a step in it. -/
def WindowBegins (s : State) (f : Fab) (t : State) : Prop :=
  t.fab = { f with trim := 2, steps := [] } ∧ getf t F.FAB_TRIM_STAT_WINDOWS = min 65535 (getf s F.FAB_TRIM_STAT_WINDOWS + 1)

theorem trimBegin_begins (s : State) (f : Fab) : WindowBegins s f (trimBegin (setFab s f)) :=
  ⟨rfl, getf_satAdd (setFab s f) F.FAB_TRIM_STAT_WINDOWS 1 (by decide)⟩

section
variable {s : State}

/-- The record of the fabric once a window has fallen due: FAB_TRIM_CTL is taken, and the level of trim_defer (Table 2-12, log 62). -/
def windowTaken (s : State) (d : Bool) : Fab := { s.fab with trimCtl := rd s R.FAB_TRIM_CTL, defer := d }

/-- A window that falls due, by the four cases of R54, R56 and R57. -/
theorem exec_trimWindowDue (s : State) (d : Bool) : exec (.trimWindowDue d) s = .next (
    if !isSet s F.FAB_TRIM_CTL_TRIM_EN || trimSuspended s then setFab s (windowTaken s d)
    else if d && isSet s F.FAB_TRIM_CTL_DEFER_EN then setFab s { windowTaken s d with trim := 1 }
    else trimBegin (setFab s (windowTaken s d))) := by
  show (if !isSet s F.FAB_TRIM_CTL_TRIM_EN || trimSuspended s then done (setFab s (windowTaken s d))
    else if d && isSet s F.FAB_TRIM_CTL_DEFER_EN then done (setFab s { windowTaken s d with trim := 1 })
    else done (trimBegin (setFab s (windowTaken s d)))) = _
  split_ifs <;> rfl

theorem trimWindowDue_off (d : Bool) (h : isSet s F.FAB_TRIM_CTL_TRIM_EN = false ∨ trimSuspended s = true) :
    exec (.trimWindowDue d) s = .next (setFab s (windowTaken s d)) := by
  rw [exec_trimWindowDue, if_pos (by simpa using h)]

theorem trimWindowDue_deferred {d : Bool} (hen : isSet s F.FAB_TRIM_CTL_TRIM_EN = true) (hsus : trimSuspended s = false)
    (hdefer : (d && isSet s F.FAB_TRIM_CTL_DEFER_EN) = true) :
    exec (.trimWindowDue d) s = .next (setFab s { windowTaken s d with trim := 1 }) := by
  rw [exec_trimWindowDue, if_neg (by simp [hen, hsus]), if_pos hdefer]

theorem trimWindowDue_begins {d : Bool} (hen : isSet s F.FAB_TRIM_CTL_TRIM_EN = true) (hsus : trimSuspended s = false)
    (hdefer : (d && isSet s F.FAB_TRIM_CTL_DEFER_EN) = false) : Does (.trimWindowDue d) s (WindowBegins s (windowTaken s d)) := by
  have hexec := exec_trimWindowDue s d
  rw [if_neg (by simp [hen, hsus]), if_neg (by simp [hdefer])] at hexec
  exact ⟨_, hexec, trimBegin_begins s _⟩

/-- A window waits for trim_defer, and trim is not suspended. -/
def windowWaits (s : State) : Bool := decide (s.fab.trim = 1) && !trimSuspended s

theorem windowWaits_iff (s : State) : windowWaits s = true ↔ s.fab.trim = 1 ∧ trimSuspended s = false := by simp [windowWaits]

theorem trimDeferFall_begins (h : windowWaits s = true) :
    Does .trimDeferFall s (WindowBegins s { s.fab with defer := false }) :=
  ⟨_, if_pos ((windowWaits_iff s).1 h), trimBegin_begins s _⟩

theorem trimDeferFall_idle (h : windowWaits s = false) :
    exec .trimDeferFall s = .next (setFab s { s.fab with defer := false }) :=
  if_neg ((windowWaits_iff s).not.1 (by simp [h]))

theorem trimMaxdeferExpiry_begins (h : windowWaits s = true) : Does .trimMaxdeferExpiry s (fun t =>
    WindowBegins s s.fab t ∧ getf t F.FAB_TRIM_STAT_FORCED = min 255 (getf s F.FAB_TRIM_STAT_FORCED + 1)) := by
  let forced := satAdd s F.FAB_TRIM_STAT_FORCED 1
  obtain ⟨hfab, hcount⟩ := trimBegin_begins forced s.fab
  have hwindows : getf forced F.FAB_TRIM_STAT_WINDOWS = getf s F.FAB_TRIM_STAT_WINDOWS := getf_satAdd_bits _ _ _ _ (.inr (by decide))
  refine ⟨trimBegin forced, if_pos ((windowWaits_iff s).1 h), ⟨hfab, hwindows ▸ hcount⟩, ?_⟩
  exact (getf_satAdd_bits forced _ _ _ (.inl (by decide))).trans (getf_satAdd s F.FAB_TRIM_STAT_FORCED 1 (by decide))

theorem trimMaxdeferExpiry_idle (h : windowWaits s = false) : exec .trimMaxdeferExpiry s = .next s :=
  if_neg ((windowWaits_iff s).not.1 (by simp [h]))

end

/-! #### Tap steps and drift alerts (R52, R53, R55) -/

/-- The tap setting of region `r` has moved by −1, 0 or +1 (`d` = 0, 1, 2), every other region's has stayed. -/
def TapMoved (s t : State) (r : Nat) (d : Fin 3) : Prop :=
  ∀ q : Nat, (sget q t.fab.taps).getD 0#64 = (sget q s.fab.taps).getD 0#64 + if q = r then BitVec.ofNat 64 d.val - 1#64 else 0#64

theorem moveTap_moved {s u : State} (r : Nat) (d : Fin 3) (h : u.fab.taps = s.fab.taps) : TapMoved s (moveTap u r d) r d := by
  intro q
  show (sget q (sput r ((sget r u.fab.taps).getD 0#64 + BitVec.ofNat 64 d.val - 1#64) u.fab.taps)).getD 0#64 = _
  by_cases hq : q = r
  · subst hq
    rw [sget_sput_same, if_pos rfl, h, Option.getD_some, BitVec.sub_eq_add_neg, BitVec.add_assoc, ← BitVec.sub_eq_add_neg]
  · rw [sget_sput_ne hq, if_neg hq, h, BitVec.add_zero]

/-- An alert step moves the region's tap, and the sequence of alert steps lasts until the drift is below 1 %. -/
theorem alertStep_moved {s u : State} (r : Nat) (d : Fin 3) (below1 : Bool) (h : u.fab.taps = s.fab.taps) :
    TapMoved s (alertStep u r d below1) r d ∧ bit (alertStep u r d below1).fab.alerts r = !below1 := by
  refine ⟨moveTap_moved r d h, ?_⟩
  cases below1
  · exact bit_setBit_same _ _
  · exact bit_clearBit_same _ _

theorem alertStep_getf (u : State) (r : Nat) (d : Fin 3) (below1 : Bool) (g : Fld) : getf (alertStep u r d below1) g = getf u g := rfl

section
variable {s : State} (r : Fin 16) (d : Fin 3) (below1 : Bool)

theorem trimStep_does (htrim : s.fab.trim = 2) (hsus : trimSuspended s = false) (hon : regionIsOn s r.val = true)
    (horder : ∀ q ∈ s.fab.steps, q.1 ≤ r.val)
    (hroom : (sget r.val s.fab.steps).getD 0 < max 1 (extractBits s.fab.trimCtl 12 4)) : Does (.trimStep r d) s (fun t =>
      TapMoved s t r d ∧ sget r.val t.fab.steps = some ((sget r.val s.fab.steps).getD 0 + 1) ∧ t.regs = s.regs) :=
  ⟨_, if_pos ⟨htrim, hsus, hon, by simpa using horder, hroom⟩, moveTap_moved r d rfl, sget_sput_same _ _ _, rfl⟩

theorem driftAlert_does (hsus : trimSuspended s = false) (hon : regionIsOn s r.val = true) (hnew : bit s.fab.alerts r = false) :
    Does (.driftAlert r d below1) s (fun t => TapMoved s t r d ∧ bit t.fab.alerts r = !below1
      ∧ bit (getf t F.FAB_TRIM_ALERT_ALERT) r = true
      ∧ getf t F.FAB_TRIM_STAT_ALERT_TRIMS = min 255 (getf s F.FAB_TRIM_STAT_ALERT_TRIMS + 1)) := by
  let marked := setf s F.FAB_TRIM_ALERT_ALERT (setBit (getf s F.FAB_TRIM_ALERT_ALERT) r.val)
  let counted := satAdd marked F.FAB_TRIM_STAT_ALERT_TRIMS 1
  obtain ⟨hmoved, hseq⟩ := alertStep_moved (s := s) (u := counted) r d below1 rfl
  have halert : bit (getf marked F.FAB_TRIM_ALERT_ALERT) r = true := by
    rw [bit_getf_setf _ _ _ (by decide) r.isLt]
    exact bit_setBit_same _ _
  have hstay : getf counted F.FAB_TRIM_ALERT_ALERT = getf marked F.FAB_TRIM_ALERT_ALERT := getf_setf_reg _ _ _ _ (by decide)
  have hexec : exec (.driftAlert r d below1) s = .next (alertStep counted r d below1) := if_neg (by simp [hsus, hon, hnew])
  have hcount : getf counted F.FAB_TRIM_STAT_ALERT_TRIMS = min 255 (getf s F.FAB_TRIM_STAT_ALERT_TRIMS + 1) := by
    rw [getf_satAdd _ _ _ (by decide), getf_setf_reg _ _ _ _ (by decide)]
    rfl
  refine ⟨_, hexec, hmoved, hseq, ?_, ?_⟩
  · rw [alertStep_getf, hstay]
    exact halert
  · rw [alertStep_getf]
    exact hcount

theorem alertTrimStep_does (hsus : trimSuspended s = false) (hon : regionIsOn s r.val = true) (hseq : bit s.fab.alerts r = true) :
    Does (.alertTrimStep r d below1) s (fun t => TapMoved s t r d ∧ bit t.fab.alerts r = !below1 ∧ t.regs = s.regs) := by
  obtain ⟨hmoved, halerts⟩ := alertStep_moved (s := s) r d below1 rfl
  exact ⟨_, if_neg (by simp [hsus, hon, hseq]), hmoved, halerts, rfl⟩

/-- While trim is suspended no step is made and no alert is taken (R57). -/
theorem steps_suspended (hsus : trimSuspended s = true) :
    ∀ i ∈ [Instr.trimStep r d, .driftAlert r d below1, .alertTrimStep r d below1], exec i s = .next s := by
  have htrim : exec (.trimStep r d) s = .next s := if_neg (by simp [hsus])
  have hdrift : exec (.driftAlert r d below1) s = .next s := if_pos (by simp [hsus])
  have halert : exec (.alertTrimStep r d below1) s = .next s := if_pos (by simp [hsus])
  simp [htrim, hdrift, halert]

end

/-! #### Pace registers, region by region (R58, R59) -/

/-- The registers of two regions are two registers. -/
theorem FAB_PACE_ne {q r : Nat} (hq : q < 16) (hr : r < 16) (h : q ≠ r) : R.FAB_PACE q ≠ R.FAB_PACE r := by
  simp only [R.FAB_PACE]; omega

theorem FAB_PACE_ne_low {a : Nat} (h : a < 0x170040 ∨ 0x170080 ≤ a) (r : Nat) : a ≠ R.FAB_PACE r := by
  simp only [R.FAB_PACE]; omega

/-- `t` differs from `s` in no clock and in no register but the regions' pace registers. -/
def PaceAlone (s t : State) : Prop := t.tbu = s.tbu ∧ ∀ a, (∀ r, a ≠ R.FAB_PACE r) → rd t a = rd s a

/-- `f` treats a region by its own pace register and by what lies outside the pace registers, and changes that register alone. -/
structure ByRegion (f : State → Nat → State) : Prop where
  tbu : ∀ t r, (f t r).tbu = t.tbu
  others : ∀ t r a, a ≠ R.FAB_PACE r → rd (f t r) a = rd t a
  own : ∀ s t r, PaceAlone s t → rd t (R.FAB_PACE r) = rd s (R.FAB_PACE r) → rd (f t r) (R.FAB_PACE r) = rd (f s r) (R.FAB_PACE r)

/-- Regions taken one after the other: each region below `n` reads as if it alone had been treated. -/
theorem ByRegion.foldl_range {f : State → Nat → State} (hf : ByRegion f) (s : State) {n : Nat} (hn : n ≤ 16) :
    PaceAlone s ((List.range n).foldl f s) ∧ ∀ r < 16, rd ((List.range n).foldl f s) (R.FAB_PACE r)
      = if r < n then rd (f s r) (R.FAB_PACE r) else rd s (R.FAB_PACE r) := by
  induction n with
  | zero => exact ⟨⟨rfl, fun _ _ => rfl⟩, fun _ _ => rfl⟩
  | succ n ih =>
    obtain ⟨⟨htbu, hout⟩, hpace⟩ := ih (by omega)
    rw [List.range_succ, List.foldl_append, List.foldl_cons, List.foldl_nil]
    refine ⟨⟨(hf.tbu _ n).trans htbu, fun a ha => (hf.others _ n a (ha n)).trans (hout a ha)⟩, fun r hr => ?_⟩
    by_cases hlast : r = n
    · subst hlast
      have hfresh := hpace r hr
      rw [if_neg (lt_irrefl r)] at hfresh
      rw [if_pos (Nat.lt_succ_self r)]
      exact hf.own s _ r ⟨htbu, hout⟩ hfresh
    · rw [hf.others _ n _ (FAB_PACE_ne hr (by omega) hlast), hpace r hr]
      exact if_congr (by omega) rfl rfl

theorem ByRegion.getf_foldl {f : State → Nat → State} (hf : ByRegion f) (s : State) {r : Nat} (hr : r < 16) {g : Fld}
    (hg : g.reg = R.FAB_PACE r) : getf ((List.range 16).foldl f s) g = getf (f s r) g :=
  getf_congr (by rw [hg, (hf.foldl_range s le_rfl).2 r hr, if_pos hr])

theorem ByRegion.getf_foldl_other {f : State → Nat → State} (hf : ByRegion f) (s : State) {g : Fld}
    (hg : ∀ r, g.reg ≠ R.FAB_PACE r) : getf ((List.range 16).foldl f s) g = getf s g :=
  getf_congr ((hf.foldl_range s le_rfl).1.2 _ hg)

/-- A field of one register written over two states that agree on the register. -/
theorem rd_setf_congr {s t : State} {f : Fld} (v : Nat) (h : rd t f.reg = rd s f.reg) : rd (setf t f v) f.reg = rd (setf s f v) f.reg := by
  unfold setf; rw [rd_wr_same, rd_wr_same, h]

/-! The fields of a pace register (Table 2-16) -/

theorem FAB_PACE_NOW_below_MIN (r : Nat) : (F.FAB_PACE_NOW r).lo + (F.FAB_PACE_NOW r).width ≤ (F.FAB_PACE_MIN r).lo :=
  show 0 + 12 ≤ 16 by decide

theorem FAB_PACE_NOW_below_VALID (r : Nat) : (F.FAB_PACE_NOW r).lo + (F.FAB_PACE_NOW r).width ≤ (F.FAB_PACE_VALID r).lo :=
  show 0 + 12 ≤ 31 by decide

theorem FAB_PACE_MIN_below_VALID (r : Nat) : (F.FAB_PACE_MIN r).lo + (F.FAB_PACE_MIN r).width ≤ (F.FAB_PACE_VALID r).lo :=
  show 16 + 12 ≤ 31 by decide

theorem getf_setf_NOW (s : State) (r : Nat) {v : Nat} (hv : v < 4096) : getf (setf s (F.FAB_PACE_NOW r) v) (F.FAB_PACE_NOW r) = v :=
  (getf_setf_same s _ v (show 0 + 12 ≤ 32 by decide)).trans (Nat.mod_eq_of_lt hv)

theorem getf_setf_MIN (s : State) (r : Nat) {v : Nat} (hv : v < 4096) : getf (setf s (F.FAB_PACE_MIN r) v) (F.FAB_PACE_MIN r) = v :=
  (getf_setf_same s _ v (show 16 + 12 ≤ 32 by decide)).trans (Nat.mod_eq_of_lt hv)

theorem isSet_setf_VALID (s : State) (r : Nat) (b : Bool) : isSet (setf s (F.FAB_PACE_VALID r) (b2n b)) (F.FAB_PACE_VALID r) = b :=
  isSet_setf_b2n s _ b rfl (show 31 < 32 by decide)

/-- Region `r` has no pace: NOW reads 0 and VALID is clear (R47, R59). -/
def paceLost (t : State) (r : Nat) : State := setf (setf t (F.FAB_PACE_NOW r) 0) (F.FAB_PACE_VALID r) 0

theorem paceLost_byRegion : ByRegion paceLost where
  tbu _ _ := rfl
  others _ _ _ ha := (rd_setf_ne ha _ _).trans (rd_setf_ne ha _ _)
  own _ _ r _ h := rd_setf_congr (f := F.FAB_PACE_VALID r) 0 (rd_setf_congr (f := F.FAB_PACE_NOW r) 0 h)

theorem paceLost_fields (s : State) (r : Nat) : getf (paceLost s r) (F.FAB_PACE_NOW r) = 0 ∧ isSet (paceLost s r) (F.FAB_PACE_VALID r) = false
    ∧ getf (paceLost s r) (F.FAB_PACE_MIN r) = getf s (F.FAB_PACE_MIN r) := by
  let cleared := setf s (F.FAB_PACE_NOW r) 0
  have hnow : getf (paceLost s r) (F.FAB_PACE_NOW r) = getf cleared (F.FAB_PACE_NOW r) :=
    getf_setf_bits cleared _ _ _ (.inr (FAB_PACE_NOW_below_VALID r))
  have hmin : getf (paceLost s r) (F.FAB_PACE_MIN r) = getf cleared (F.FAB_PACE_MIN r) :=
    getf_setf_bits cleared _ _ _ (.inr (FAB_PACE_MIN_below_VALID r))
  exact ⟨hnow.trans (getf_setf_NOW s r (by decide)), isSet_setf_VALID cleared r false,
    hmin.trans (getf_setf_bits s _ _ _ (.inl (FAB_PACE_NOW_below_MIN r)))⟩

/-- A gate that counted `c` turns leaves NOW at `v` = `c` / 100, with VALID, and MIN at the least so far. -/
def paceTaken (t : State) (r v : Nat) : State :=
  let valid := setf (setf t (F.FAB_PACE_NOW r) v) (F.FAB_PACE_VALID r) 1
  setf valid (F.FAB_PACE_MIN r) (min (getf valid (F.FAB_PACE_MIN r)) v)

theorem paceUpdate_eq (t : State) (r c : Nat) :
    paceUpdate t r c = if ti11 t && regionIsOn t r then paceTaken t r (min 0xFFF (c / 100)) else paceLost t r := rfl

theorem paceTaken_others {t : State} {r v a : Nat} (ha : a ≠ R.FAB_PACE r) : rd (paceTaken t r v) a = rd t a :=
  (rd_setf_ne ha _ _).trans ((rd_setf_ne ha _ _).trans (rd_setf_ne ha _ _))

theorem paceTaken_own {s t : State} {r v : Nat} (h : rd t (R.FAB_PACE r) = rd s (R.FAB_PACE r)) :
    rd (paceTaken t r v) (R.FAB_PACE r) = rd (paceTaken s r v) (R.FAB_PACE r) := by
  have hvalid : rd (setf (setf t (F.FAB_PACE_NOW r) v) (F.FAB_PACE_VALID r) 1) (R.FAB_PACE r)
      = rd (setf (setf s (F.FAB_PACE_NOW r) v) (F.FAB_PACE_VALID r) 1) (R.FAB_PACE r) :=
    rd_setf_congr (f := F.FAB_PACE_VALID r) 1 (rd_setf_congr (f := F.FAB_PACE_NOW r) v h)
  unfold paceTaken
  dsimp only
  rw [getf_congr (f := F.FAB_PACE_MIN r) hvalid]
  exact rd_setf_congr (f := F.FAB_PACE_MIN r) _ hvalid

theorem paceTaken_fields (s : State) (r : Nat) {v : Nat} (hv : v ≤ 0xFFF) : getf (paceTaken s r v) (F.FAB_PACE_NOW r) = v
    ∧ isSet (paceTaken s r v) (F.FAB_PACE_VALID r) = true
    ∧ getf (paceTaken s r v) (F.FAB_PACE_MIN r) = min (getf s (F.FAB_PACE_MIN r)) v := by
  let counted := setf s (F.FAB_PACE_NOW r) v
  let valid := setf counted (F.FAB_PACE_VALID r) 1
  have hnow : getf valid (F.FAB_PACE_NOW r) = v :=
    (getf_setf_bits counted _ _ _ (.inr (FAB_PACE_NOW_below_VALID r))).trans (getf_setf_NOW s r (by omega))
  have hmin : getf valid (F.FAB_PACE_MIN r) = getf s (F.FAB_PACE_MIN r) :=
    (getf_setf_bits counted _ _ _ (.inr (FAB_PACE_MIN_below_VALID r))).trans
      (getf_setf_bits s _ _ _ (.inl (FAB_PACE_NOW_below_MIN r)))
  have htaken : paceTaken s r v = setf valid (F.FAB_PACE_MIN r) (min (getf s (F.FAB_PACE_MIN r)) v) := by rw [← hmin]; rfl
  rw [htaken]
  refine ⟨(getf_setf_bits valid _ _ _ (.inr (FAB_PACE_NOW_below_MIN r))).trans hnow, ?_, getf_setf_MIN valid r (by omega)⟩
  unfold isSet
  rw [getf_setf_bits valid _ _ _ (.inl (FAB_PACE_MIN_below_VALID r))]
  exact isSet_setf_VALID counted r true

/-- TI11 and the regions' power stand outside the pace registers. -/
theorem PaceAlone.measures {s t : State} (h : PaceAlone s t) (r : Nat) : (ti11 t && regionIsOn t r) = (ti11 s && regionIsOn s r) := by
  obtain ⟨htbu, hout⟩ := h
  have hlock : getf t F.FAB_ISL_LOCK_LOCK = getf s F.FAB_ISL_LOCK_LOCK := getf_congr (hout _ (FAB_PACE_ne_low (by decide)))
  have hon : getf t F.FAB_STAT_RGN_ON = getf s F.FAB_STAT_RGN_ON := getf_congr (hout _ (FAB_PACE_ne_low (by decide)))
  unfold ti11 regionIsOn
  rw [htbu, hlock, hon]

theorem paceUpdate_byRegion (counts : List Nat) : ByRegion (fun t r => paceUpdate t r (counts.getD r 0)) where
  tbu t r := by rw [paceUpdate_eq]; split <;> rfl
  others t r a ha := by
    rw [paceUpdate_eq]
    split
    · exact paceTaken_others ha
    · exact paceLost_byRegion.others t r a ha
  own s t r hout h := by
    rw [paceUpdate_eq, paceUpdate_eq, hout.measures r]
    split
    · exact paceTaken_own h
    · exact paceLost_byRegion.own s t r hout h

theorem paceGateEnd_does (s : State) (c : List Nat) : Does (.paceGateEnd c) s (fun t => ∀ r < 16, let v := min 0xFFF (c.getD r 0 / 100)
    if (ti11 s && regionIsOn s r) = true then getf t (F.FAB_PACE_NOW r) = v ∧ isSet t (F.FAB_PACE_VALID r) = true
      ∧ getf t (F.FAB_PACE_MIN r) = min (getf s (F.FAB_PACE_MIN r)) v
    else getf t (F.FAB_PACE_NOW r) = 0 ∧ isSet t (F.FAB_PACE_VALID r) = false ∧ getf t (F.FAB_PACE_MIN r) = getf s (F.FAB_PACE_MIN r)) := by
  refine ⟨_, rfl, fun r hr => ?_⟩
  have hword {g : Fld} (hg : g.reg = R.FAB_PACE r) := (paceUpdate_byRegion c).getf_foldl s hr hg
  dsimp only
  unfold isSet
  rw [hword (g := F.FAB_PACE_NOW r) rfl, hword (g := F.FAB_PACE_VALID r) rfl, hword (g := F.FAB_PACE_MIN r) rfl, paceUpdate_eq]
  split
  · exact paceTaken_fields s r (Nat.min_le_left _ _)
  · exact paceLost_fields s r

/-- MIN of a region of the mask starts again at 0xFFF (R58, Table 2-16). -/
def minRestarted (m : BitVec 16) (t : State) (r : Nat) : State := if bit m.toNat r then setf t (F.FAB_PACE_MIN r) 0xFFF else t

theorem minRestarted_byRegion (m : BitVec 16) : ByRegion (minRestarted m) where
  tbu t r := by unfold minRestarted; split <;> rfl
  others t r a ha := by
    unfold minRestarted
    split
    · exact rd_setf_ne ha t _
    · rfl
  own s t r _ h := by
    unfold minRestarted
    split
    · exact rd_setf_congr (f := F.FAB_PACE_MIN r) _ h
    · exact h

theorem minRestarted_fields (m : BitVec 16) (s : State) (r : Nat) :
    getf (minRestarted m s r) (F.FAB_PACE_NOW r) = getf s (F.FAB_PACE_NOW r)
    ∧ getf (minRestarted m s r) (F.FAB_PACE_MIN r) = if m.getLsbD r then 0xFFF else getf s (F.FAB_PACE_MIN r) := by
  have hbit : bit m.toNat r = m.getLsbD r := BitVec.testBit_toNat m
  unfold minRestarted
  rw [hbit]
  split
  · exact ⟨getf_setf_bits _ _ _ _ (.inr (FAB_PACE_NOW_below_MIN r)), getf_setf_MIN s r (by decide)⟩
  · exact ⟨rfl, rfl⟩

theorem fabPaceClr_does (s : State) (m : BitVec 16) : Does (.fabPaceClr m) s (fun t => ∀ r < 16,
    getf t (F.FAB_PACE_NOW r) = getf s (F.FAB_PACE_NOW r)
    ∧ getf t (F.FAB_PACE_MIN r) = if m.getLsbD r then 0xFFF else getf s (F.FAB_PACE_MIN r)) := by
  refine ⟨(List.range 16).foldl (minRestarted m) s, rfl, fun r hr => ?_⟩
  obtain ⟨hnow, hmin⟩ := minRestarted_fields m s r
  exact ⟨((minRestarted_byRegion m).getf_foldl s hr rfl).trans hnow, ((minRestarted_byRegion m).getf_foldl s hr rfl).trans hmin⟩

/-! #### Gate overflows and the islands' lock (R67, R71) -/

theorem fabGateOvfClear_does (s : State) : Does .fabGateOvfClear s (fun t => getf t F.FAB_GATE_OVF_COUNT = 0
    ∧ getf t F.FAB_GATE_OVF_ISLAND = 0 ∧ ∀ a, a ≠ R.FAB_GATE_OVF → rd t a = rd s a) := by
  refine ⟨_, rfl, ?_, getf_setf_same _ _ _ (by decide), fun a ha => (rd_setf_ne ha _ _).trans (rd_setf_ne ha _ _)⟩
  rw [getf_setf_bits _ _ _ _ (.inr (by decide))]
  exact getf_setf_same _ _ _ (by decide)

section
variable {s : State} (n : Fin 25)

theorem islandLossOfLock_unlocked (h : bit (getf s F.FAB_ISL_LOCK_LOCK) n = false) : exec (.islandLossOfLock n) s = .next s :=
  if_pos (by simp [h])

/-- The registers when island `n` loses lock: its event is set, its lock bit is clear. -/
def lockLost (s : State) (n : Nat) : State :=
  setf (setf s F.FAB_ISL_LOL_LOL (setBit (getf s F.FAB_ISL_LOL_LOL) n)) F.FAB_ISL_LOCK_LOCK (clearBit (getf s F.FAB_ISL_LOCK_LOCK) n)

theorem lockLost_lol : bit (getf (lockLost s n) F.FAB_ISL_LOL_LOL) n = true := by
  unfold lockLost
  rw [getf_setf_reg _ _ _ _ (by decide), bit_getf_setf _ _ _ (by decide) n.isLt]
  exact bit_setBit_same _ _

theorem lockLost_lock {k : Nat} (hk : k < 25) :
    bit (getf (lockLost s n) F.FAB_ISL_LOCK_LOCK) k = (bit (getf s F.FAB_ISL_LOCK_LOCK) k && k != n.val) := by
  unfold lockLost
  rw [bit_getf_setf _ _ _ (by decide) hk, bit_clearBit]

/-- Without TI11 every region's pace is lost (R59). -/
def paceAfterLoss (n : Nat) (u : State) : State := if n = 11 then (List.range 16).foldl paceLost u else u

theorem getf_paceAfterLoss (u : State) {g : Fld} (hg : ∀ r, g.reg ≠ R.FAB_PACE r) (n : Nat) : getf (paceAfterLoss n u) g = getf u g := by
  unfold paceAfterLoss
  split
  · exact paceLost_byRegion.getf_foldl_other u hg
  · rfl

theorem paceAfterLoss_lost (u : State) {n : Nat} (hn : n = 11) {r : Nat} (hr : r < 16) :
    getf (paceAfterLoss n u) (F.FAB_PACE_NOW r) = 0 ∧ isSet (paceAfterLoss n u) (F.FAB_PACE_VALID r) = false := by
  obtain ⟨hnow, hvalid, -⟩ := paceLost_fields u r
  unfold isSet paceAfterLoss at *
  rw [if_pos hn, paceLost_byRegion.getf_foldl u hr (g := F.FAB_PACE_NOW r) rfl, paceLost_byRegion.getf_foldl u hr (g := F.FAB_PACE_VALID r) rfl]
  exact ⟨hnow, hvalid⟩

theorem islandLossOfLock_does (h : bit (getf s F.FAB_ISL_LOCK_LOCK) n = true) : Does (.islandLossOfLock n) s (fun t =>
    bit (getf t F.FAB_ISL_LOL_LOL) n = true
    ∧ (∀ k < 25, bit (getf t F.FAB_ISL_LOCK_LOCK) k = (bit (getf s F.FAB_ISL_LOCK_LOCK) k && k != n.val)) ∧ bit t.fab.clocks n = false
    ∧ (n.val = 11 → ∀ r < 16, getf t (F.FAB_PACE_NOW r) = 0 ∧ isSet t (F.FAB_PACE_VALID r) = false)) := by
  let u := paceAfterLoss n.val (lockLost s n.val)
  have hlol : getf u F.FAB_ISL_LOL_LOL = getf (lockLost s n.val) F.FAB_ISL_LOL_LOL :=
    getf_paceAfterLoss _ (FAB_PACE_ne_low (by decide)) _
  have hlock : getf u F.FAB_ISL_LOCK_LOCK = getf (lockLost s n.val) F.FAB_ISL_LOCK_LOCK :=
    getf_paceAfterLoss _ (FAB_PACE_ne_low (by decide)) _
  have hexec : exec (.islandLossOfLock n) s = .next (setFab u { u.fab with clocks := clearBit u.fab.clocks n.val }) := if_neg (by simp [h])
  refine ⟨_, hexec, ?_, fun k hk => ?_, bit_clearBit_same _ _, fun hn r hr => paceAfterLoss_lost _ hn hr⟩
  · rw [setFab_getf, hlol]
    exact lockLost_lol n
  · rw [setFab_getf, hlock]
    exact lockLost_lock n hk

theorem islandRelock_unpowered (h : islPowered s n = false) : exec (.islandRelock n) s = .next s := if_pos (by simp [h])

theorem islandRelock_does (h : islPowered s n = true) : Does (.islandRelock n) s (fun t =>
    (∀ k < 25, bit (getf t F.FAB_ISL_LOCK_LOCK) k = (bit (getf s F.FAB_ISL_LOCK_LOCK) k || k == n.val))
    ∧ (14 ≤ n.val → bit t.fab.clocks n = true) ∧ t.out = s.out) := by
  let u := setf s F.FAB_ISL_LOCK_LOCK (setBit (getf s F.FAB_ISL_LOCK_LOCK) n.val)
  have hlock {k : Nat} (hk : k < 25) : bit (getf u F.FAB_ISL_LOCK_LOCK) k = (bit (getf s F.FAB_ISL_LOCK_LOCK) k || k == n.val) := by
    rw [bit_getf_setf _ _ _ (by decide) hk, bit_setBit]
  have hexec : exec (.islandRelock n) s
      = .next (if 14 ≤ n.val then setFab u { u.fab with clocks := setBit u.fab.clocks n.val } else u) := if_neg (by simp [h])
  refine ⟨_, hexec, ?_⟩
  split
  · exact ⟨fun _ hk => hlock hk, fun _ => bit_setBit_same _ _, rfl⟩
  · next hhard => exact ⟨fun _ hk => hlock hk, fun huser => absurd huser hhard, rfl⟩

end

/-- Settles O47: windows, tap steps and alerts, pace, and the islands' lock. -/
theorem fabricTrimAndPace : Obligations.FabricTrimAndPace := fun s =>
  ⟨fun d => ⟨trimWindowDue_off d, fun hen hsus => ⟨trimWindowDue_deferred hen hsus, trimWindowDue_begins hen hsus⟩⟩,
    fun hwaits => ⟨trimDeferFall_begins hwaits, trimMaxdeferExpiry_begins hwaits⟩,
    fun hidle => ⟨trimDeferFall_idle hidle, trimMaxdeferExpiry_idle hidle⟩,
    fun r d b =>
      ⟨trimStep_does r d,
        fun hsus hon => ⟨driftAlert_does r d b hsus hon, alertTrimStep_does r d b hsus hon⟩,
        steps_suspended r d b⟩,
    paceGateEnd_does s,
    fabPaceClr_does s,
    fabGateOvfClear_does s,
    fun n => ⟨islandLossOfLock_unlocked n, islandLossOfLock_does n, islandRelock_does n, islandRelock_unpowered n⟩⟩

end Sys2Proof.Machine

/-! ### Fields, flags and domain masks through a chain of updates -/
namespace Sys2Proof.Machine

/-! #### Fields -/

/-- Two fields in different registers, or in different bits of one, do not disturb each other. -/
theorem getf_setf_apart {s : State} {f g : Fld} {v : Nat}
    (h : g.reg ≠ f.reg ∨ f.lo + f.width ≤ g.lo ∨ g.lo + g.width ≤ f.lo) : getf (setf s f v) g = getf s g := by
  rcases h with h | h
  · exact getf_setf_reg s f g v h
  · exact getf_setf_bits s f g v h

theorem isSet_setf_apart {s : State} {f g : Fld} {v : Nat}
    (h : g.reg ≠ f.reg ∨ f.lo + f.width ≤ g.lo ∨ g.lo + g.width ≤ f.lo) : isSet (setf s f v) g = isSet s g := by
  unfold isSet; rw [getf_setf_apart h]

theorem getf_wr_ne {s : State} {a : Nat} {v : W32} {g : Fld} (h : g.reg ≠ a) : getf (wr s a v) g = getf s g :=
  getf_congr (rd_wr_ne h s v)

/-- A field reads what was stored, where that fits. -/
theorem getf_setf_fits (s : State) {f : Fld} {v : Nat} (h : f.lo + f.width ≤ 32) (hv : v < 2 ^ f.width) : getf (setf s f v) f = v :=
  (getf_setf_same s f v h).trans (Nat.mod_eq_of_lt hv)

theorem isSet_setf_one (s : State) {f : Fld} (hw : f.width = 1) (hlo : f.lo < 32) : isSet (setf s f 1) f = true :=
  isSet_setf_b2n s f true hw hlo

theorem isSet_setf_zero (s : State) {f : Fld} (hw : f.width = 1) (hlo : f.lo < 32) : isSet (setf s f 0) f = false :=
  isSet_setf_b2n s f false hw hlo

/-- A field is smaller than the power of two of its width. -/
theorem getf_lt (s : State) (f : Fld) : getf s f < 2 ^ f.width := Nat.mod_lt _ (Nat.two_pow_pos _)

/-! #### Bits of a mask register (RST_DOM_FENCED, RST_DOM_INRST) -/

theorem w32_two_pow_getLsbD {d : Nat} (hd : d < 32) (e : Nat) : (w32 (2 ^ d)).getLsbD e = decide (d = e) := by
  by_cases he : e < 32
  · exact w32_two_pow_bit d he
  · rw [BitVec.getLsbD_of_ge _ _ (by omega), eq_comm, decide_eq_false_iff_not]
    omega

/-- A bit of a mask register reads as it was last set or cleared; every other bit of every register stays. -/
theorem bit_setDomBit (s : State) (a : Nat) {d : Nat} (hd : d < 32) (v : Bool) (b e : Nat) :
    bit (rd (setDomBit s a d v) b).toNat e = if b = a ∧ e = d then v else bit (rd s b).toNat e := by
  unfold setDomBit
  rw [bit_toNat, bit_toNat, rd_wr]
  by_cases hb : b = a
  · subst hb
    by_cases hlt : e < 32
    · cases v <;> simp only [if_true, Bool.false_eq_true, if_false, BitVec.getLsbD_and, BitVec.getLsbD_or, BitVec.getLsbD_not,
        w32_two_pow_getLsbD hd, hlt, decide_true, Bool.true_and, true_and] <;> by_cases he : e = d <;> simp [he, eq_comm (a := d)]
    · have hne : e ≠ d := by omega
      rw [BitVec.getLsbD_of_ge _ _ (by omega), BitVec.getLsbD_of_ge _ _ (by omega), if_neg (by simp [hne])]
  · rw [if_neg hb, if_neg (by simp [hb])]

end Sys2Proof.Machine

/-! ### The quiesce fence as a step of one domain (R107, R113, R119)

Closing, joining, releasing and reopening the fence of domain `d` are each a `FenceStep d`. -/
namespace Sys2Proof.Machine

/-- The registers that work on a fence writes. -/
def fenceRegs : List Nat := [R.RST_DOM_FENCED, R.RST_DOM_REQ, R.RST_DOM_INRST, R.BNK_PSTATE, R.RST_LOG_HEAD]

/-- Work on the fence of domain `d`: every other domain stays as it is, and so does every register but those of the fences. -/
structure FenceStep (d : Nat) (s t : State) : Prop where
  rd_eq : ∀ r, r ∉ fenceRegs → rd t r = rd s r
  dom_eq : ∀ e, e ≠ d → dom t e = dom s e
  fenced_eq : ∀ e, e ≠ d → fenced t e = fenced s e
  inrst_eq : ∀ e, e ≠ d → bit (rd t R.RST_DOM_INRST).toNat e = bit (rd s R.RST_DOM_INRST).toNat e
  powered : (dom s d).powered = true → (dom t d).powered = true

theorem fenced_congr {s t : State} (h : rd t R.RST_DOM_FENCED = rd s R.RST_DOM_FENCED) (d : Nat) : fenced t d = fenced s d := by
  unfold fenced; rw [h]

theorem dom_congr {s t : State} (h : t.doms = s.doms) (d : Nat) : dom t d = dom s d := by unfold dom; rw [h]

theorem fenced_setDomBit (s : State) (a : Nat) {d : Nat} (hd : d < 32) (v : Bool) (e : Nat) :
    fenced (setDomBit s a d v) e = if R.RST_DOM_FENCED = a ∧ e = d then v else fenced s e := bit_setDomBit s a hd v _ e

theorem rd_setDomBit_ne {r a : Nat} (h : r ≠ a) (s : State) (d : Nat) (v : Bool) : rd (setDomBit s a d v) r = rd s r := rd_wr_ne h s _

theorem rd_logEvent {r : Nat} (h : r ≠ R.RST_LOG_HEAD) (s : State) (d k src a b : Nat) : rd (logEvent s d k src a b) r = rd s r :=
  (rd_setf_ne h _ _).trans ((rd_setf_ne h _ _).trans rfl)

theorem dom_logEvent (s : State) (d k src a b e : Nat) : dom (logEvent s d k src a b) e = dom s e := rfl

theorem fenced_logEvent (s : State) (d k src a b e : Nat) : fenced (logEvent s d k src a b) e = fenced s e :=
  fenced_congr (rd_logEvent (by decide) ..) e

namespace FenceStep
variable {d : Nat} {s t u : State}

theorem refl (d : Nat) (s : State) : FenceStep d s s := ⟨fun _ _ => rfl, fun _ _ => rfl, fun _ _ => rfl, fun _ _ => rfl, id⟩

theorem trans (h : FenceStep d s t) (k : FenceStep d t u) : FenceStep d s u :=
  ⟨fun r hr => (k.rd_eq r hr).trans (h.rd_eq r hr), fun e he => (k.dom_eq e he).trans (h.dom_eq e he),
    fun e he => (k.fenced_eq e he).trans (h.fenced_eq e he), fun e he => (k.inrst_eq e he).trans (h.inrst_eq e he),
    fun hp => k.powered (h.powered hp)⟩

theorem getf_eq (h : FenceStep d s t) {f : Fld} (hf : f.reg ∉ fenceRegs) : getf t f = getf s f := getf_congr (h.rd_eq _ hf)

theorem isSet_eq (h : FenceStep d s t) {f : Fld} (hf : f.reg ∉ fenceRegs) : isSet t f = isSet s f := isSet_congr (h.rd_eq _ hf)

/-- A domain's record is replaced by one that is powered where it was. -/
theorem setDom (s : State) {x : Dom} (hx : (dom s d).powered = true → x.powered = true) : FenceStep d s (setDom s d x) :=
  ⟨fun _ _ => rfl, fun _ he => dom_setDom_ne he s x, fun _ _ => rfl, fun _ _ => rfl, fun hp => by rw [dom_setDom]; exact hx hp⟩

/-- The domain's bit in a mask register of the fences. -/
theorem setDomBit (s : State) {a : Nat} (ha : a ∈ fenceRegs) (hd : d < 32) (v : Bool) : FenceStep d s (setDomBit s a d v) := by
  refine ⟨fun r hr => rd_setDomBit_ne (by rintro rfl; exact hr ha) s d v, fun _ _ => rfl, fun e he => ?_, fun e he => ?_, id⟩
  · rw [fenced_setDomBit s a hd, if_neg (by simp [he])]
  · rw [bit_setDomBit s a hd, if_neg (by simp [he])]

theorem setf_pstate (s : State) (v : Nat) : FenceStep d s (setf s F.BNK_PSTATE_FENCED v) :=
  ⟨fun _ hr => rd_setf_ne (by rintro rfl; exact hr (by decide)) s v, fun _ _ => rfl,
    fun e _ => fenced_congr (rd_setf_ne (by decide) s v) e, fun _ _ => by rw [rd_setf_ne (by decide)], id⟩

theorem logEvent (s : State) (k src a b x : Nat) : FenceStep d s (logEvent s x k src a b) :=
  ⟨fun _ hr => rd_logEvent (by rintro rfl; exact hr (by decide)) .., fun _ _ => rfl, fun e _ => fenced_logEvent .., fun _ _ => by
    rw [rd_logEvent (by decide)], id⟩

theorem ite {c : Prop} [Decidable c] (h : FenceStep d s t) (k : FenceStep d s u) : FenceStep d s (if c then t else u) := by
  split <;> assumption

end FenceStep

/-! #### Closing -/

/-- The domain's record as its fence closes. -/
def domClosed (s : State) (d h drain : Nat) : Dom :=
  { dom s d with fence := .drain, holders := [h], drainUs := drain, closedAt := nowNs s, lateLogged := false, src := h }

/-- The registers as the fence of `d` closes. -/
def fenceClosed (s : State) (d h drain : Nat) : State :=
  let s := setDomBit (setDom s d (domClosed s d h drain)) R.RST_DOM_FENCED d true
  let s := if 12 ≤ d ∧ d < 20 then setf s F.BNK_PSTATE_FENCED (setBit (getf s F.BNK_PSTATE_FENCED) (d - 12)) else s
  logEvent s d 0 h (holderMask [h]) drain

theorem closeFence_open {s : State} {d : Nat} (h : fenced s d = false) (k drain : Nat) : closeFence s d k drain = fenceClosed s d k drain :=
  if_neg (by simp [h])

theorem closeFence_joined {s : State} {d : Nat} (h : fenced s d = true) (k drain : Nat) : closeFence s d k drain
    = if (dom s d).holders.contains k then s else setDom s d { dom s d with holders := (dom s d).holders ++ [k] } := if_pos h

section
variable (s : State) {d : Nat} (hd : d < 32) (h drain : Nat)

theorem dom_fenceClosed : dom (fenceClosed s d h drain) d = domClosed s d h drain := by
  have hdoms : (fenceClosed s d h drain).doms = (setDom s d (domClosed s d h drain)).doms := by
    unfold fenceClosed
    dsimp only
    split <;> rfl
  rw [dom_congr hdoms, dom_setDom]

include hd

theorem fenceClosed_step : FenceStep d s (fenceClosed s d h drain) :=
  ((FenceStep.setDom s (x := domClosed s d h drain) id).trans (.setDomBit _ (by decide) hd true)).trans
    ((FenceStep.ite (.setf_pstate _ _) (.refl _ _)).trans (.logEvent _ _ _ _ _ _))

theorem fenceClosed_fenced : fenced (fenceClosed s d h drain) d = true := by
  unfold fenceClosed
  dsimp only
  rw [fenced_logEvent]
  have hbit (u : State) : fenced (setDomBit u R.RST_DOM_FENCED d true) d = true := by
    rw [fenced_setDomBit _ _ hd, if_pos ⟨rfl, rfl⟩]
  split
  · rw [fenced_congr (rd_setf_ne (by decide) _ _)]; exact hbit _
  · exact hbit _

theorem closeFence_step : FenceStep d s (closeFence s d h drain) := by
  cases hf : fenced s d
  · rw [closeFence_open hf]; exact fenceClosed_step s hd h drain
  · rw [closeFence_joined hf]; exact .ite (.refl _ _) (.setDom s id)

theorem closeFence_fenced : fenced (closeFence s d h drain) d = true := by
  cases hf : fenced s d
  · rw [closeFence_open hf]; exact fenceClosed_fenced s hd h drain
  · rw [closeFence_joined hf]; split <;> exact hf

end

theorem closeFence_holds (s : State) (d h drain : Nat) : h ∈ (dom (closeFence s d h drain) d).holders := by
  cases hf : fenced s d
  · rw [closeFence_open hf, dom_fenceClosed]; exact List.mem_singleton_self h
  · rw [closeFence_joined hf]
    split
    · next hin => simpa using hin
    · rw [dom_setDom]; simp

/-! #### A reset within the fence -/

/-- The step of a fence after a reset is asked for within it (R119). -/
def fenceAsked (x : Dom) (again : Bool) : Fence := if x.fence == .ready || (again && x.fence == .released) then .aborted else x.fence

theorem fenceAsked_ne_ready (x : Dom) (again : Bool) : fenceAsked x again ≠ .ready := by
  unfold fenceAsked
  split
  · decide
  · next h => intro he; simp [he] at h

section
variable (s : State) {d : Nat} (src drain : Nat) (again : Bool)

theorem requestReset_eq : requestReset s d src drain again =
    let t := closeFence s d src drain
    setDom t d { dom t d with fence := fenceAsked (dom t d) again, resetBy := some src } := rfl

theorem dom_requestReset : dom (requestReset s d src drain again) d =
    let x := dom (closeFence s d src drain) d
    { x with fence := fenceAsked x again, resetBy := some src } := dom_setDom ..

theorem requestReset_drainUs (h : fenced s d = false) : (dom (requestReset s d src drain again) d).drainUs = drain := by
  rw [dom_requestReset, closeFence_open h, dom_fenceClosed]; rfl

theorem requestReset_step (hd : d < 32) : FenceStep d s (requestReset s d src drain again) :=
  (closeFence_step s hd src drain).trans (.setDom _ id)

theorem requestReset_fenced (hd : d < 32) : fenced (requestReset s d src drain again) d = true := closeFence_fenced s hd src drain

theorem requestReset_resetFenced (hd : d < 32) : resetFenced (requestReset s d src drain again) d src :=
  ⟨requestReset_fenced s src drain again hd, by rw [dom_requestReset]⟩

end

/-! #### Reopening -/

section
variable (s : State) {d : Nat}

/-- The domain's record once its fence has reopened. -/
def domReopened (x : Dom) : Dom := { powered := x.powered, pend := x.pend, pendHold := x.pendHold }

theorem dom_reopen : dom (reopen s d) d = domReopened (dom s d) := dom_setDom ..

theorem reopen_step (hd : d < 32) : FenceStep d s (reopen s d) :=
  ((FenceStep.setDomBit s (by decide) hd false).trans (.setDomBit _ (by decide) hd false)).trans
    ((FenceStep.ite (.setf_pstate _ _) (.refl _ _)).trans ((FenceStep.logEvent _ _ _ _ _ _).trans (.setDom _ fun hp => by
      revert hp
      rw [dom_logEvent]
      split <;> exact id)))

theorem reopen_fenced (hd : d < 32) : fenced (reopen s d) d = false := by
  have hbit : fenced (setDomBit (setDomBit s R.RST_DOM_FENCED d false) R.RST_DOM_REQ d false) d = false := by
    rw [fenced_setDomBit _ _ hd, if_neg (by simp), fenced_setDomBit _ _ hd, if_pos ⟨rfl, rfl⟩]
  unfold reopen
  dsimp only
  refine (fenced_congr (setDom_rd ..) d).trans ((fenced_logEvent ..).trans ?_)
  split
  · exact (fenced_congr (rd_setf_ne (by decide) _ _) d).trans hbit
  · exact hbit

theorem tryReopen_step (hd : d < 32) : FenceStep d s (tryReopen s d) := .ite (reopen_step s hd) (.refl _ _)

/-- A fence within which a reset is due stays closed. -/
theorem tryReopen_held (hreset : (dom s d).resetBy ≠ none) (hready : (dom s d).fence ≠ .ready) : tryReopen s d = s := by
  refine if_neg fun h => ?_
  simp [hreset, hready] at h

theorem releaseHolder_step (hd : d < 32) (h : Nat) : FenceStep d s (releaseHolder s d h) :=
  (FenceStep.setDom s (x := { dom s d with holders := (dom s d).holders.filter (fun k => k != h) }) id).trans (tryReopen_step _ hd)

/-! #### Release and readiness -/

theorem releaseDom_step (hd : d < 32) : FenceStep d s (releaseDom s d) :=
  (FenceStep.setDom s fun _ => rfl).trans (.setDomBit _ (by decide) hd true)

theorem releaseDom_powered : (dom (releaseDom s d) d).powered = true := by
  show (dom (setDom s d _) d).powered = true
  rw [dom_setDom]

theorem domainReady_step (hd : d < 32) : FenceStep d s (domainReady s d) := by
  unfold domainReady
  refine (FenceStep.setDomBit s (by decide) hd false).trans (.ite ?_ (.setDom _ fun _ => rfl))
  exact (FenceStep.setDom _ fun _ => rfl).trans (tryReopen_step _ hd)

end

end Sys2Proof.Machine

/-! ### IDLE and SLEEP (R99 to R104, R362, R364, R439, R444) -/
namespace Sys2Proof.Machine

/-- Work on a fence leaves the power staging as it is. -/
theorem closeFence_pwr (s : State) (d h drain : Nat) : (closeFence s d h drain).pwr = s.pwr :=
  (closeFence_made (Nat.or_self _) s d h drain (.refl ..)).pwr rfl

section
variable {s : State}

/-! #### IDLE entry -/

/-- With an image loaded the entry to IDLE begins with the fabric's fence. -/
theorem beginIdle_loaded (h : s.fab.image ≠ []) :
    let t := beginIdle s
    t.pwr.stage = .idleEntry ∧ isSet t F.PWR_STAT_BUSY = true ∧ fenced t 11 = true ∧ 7 ∈ (dom t 11).holders
      ∧ getf t F.PWR_CTL_TARGET = getf s F.PWR_CTL_TARGET := by
  let u := setf (setPwr s { s.pwr with targetPend := none, stage := .idleEntry }) F.PWR_STAT_BUSY 1
  have hfenced : beginIdle s = closeFence u 11 7 (rstDrain s) := if_neg h
  have hstep := closeFence_step u (d := 11) (by decide) 7 (rstDrain s)
  dsimp only
  rw [hfenced, closeFence_pwr, hstep.isSet_eq (by decide), hstep.getf_eq (by decide)]
  exact ⟨rfl, isSet_setf_one _ rfl (by decide), closeFence_fenced u (by decide) 7 _, closeFence_holds u 11 7 _, getf_setf_apart (by decide)⟩

/-- Without an image IDLE is reached at once. -/
theorem beginIdle_empty (h : s.fab.image = []) :
    let t := beginIdle s
    t.pwr.stage = .idle ∧ getf t F.PWR_STAT_STATE = 2 ∧ getf t F.PWR_CTL_TARGET = getf s F.PWR_CTL_TARGET := by
  have hidle : beginIdle s = setf (setPwr s { s.pwr with targetPend := none, stage := .idle }) F.PWR_STAT_STATE 2 := if_pos h
  dsimp only
  rw [hidle]
  exact ⟨rfl, getf_setf_fits _ (by decide) (by decide), getf_setf_apart (by decide)⟩

theorem exec_pwrCtlIdle (h : s.pwr.stage = .run) : exec .pwrCtlIdle s = .next (
    if s.ho.isSome then setPwr (setf s F.PWR_CTL_TARGET 1) { s.pwr with targetPend := some 1 } else beginIdle (setf s F.PWR_CTL_TARGET 1)) := by
  show execPwrCtlIdle s = _
  unfold execPwrCtlIdle
  simp only [setf_pwr, h]
  rfl

theorem getf_target (s : State) (b : Bool) : getf (setf s F.PWR_CTL_TARGET (b2n b)) F.PWR_CTL_TARGET = b2n b :=
  getf_setf_fits s (by decide) (by cases b <;> decide)

theorem pwrCtlIdle_loaded_does (h : s.pwr.stage = .run) (hho : s.ho = none) (himg : s.fab.image ≠ []) :
    Does .pwrCtlIdle s (fun t => t.pwr.stage = .idleEntry ∧ isSet t F.PWR_STAT_BUSY = true
      ∧ fenced t 11 = true ∧ 7 ∈ (dom t 11).holders ∧ getf t F.PWR_CTL_TARGET = 1) := by
  obtain ⟨hstage, hbusy, hfenced, hholds, htarget⟩ := beginIdle_loaded (s := setf s F.PWR_CTL_TARGET 1) himg
  exact ⟨_, (exec_pwrCtlIdle h).trans (by rw [hho]; rfl), hstage, hbusy, hfenced, hholds, htarget.trans (getf_target s true)⟩

theorem pwrCtlIdle_empty_does (h : s.pwr.stage = .run) (hho : s.ho = none) (himg : s.fab.image = []) :
    Does .pwrCtlIdle s (fun t => t.pwr.stage = .idle ∧ getf t F.PWR_STAT_STATE = 2 ∧ getf t F.PWR_CTL_TARGET = 1) := by
  obtain ⟨hstage, hstate, htarget⟩ := beginIdle_empty (s := setf s F.PWR_CTL_TARGET 1) himg
  exact ⟨_, (exec_pwrCtlIdle h).trans (by rw [hho]; rfl), hstage, hstate, htarget.trans (getf_target s true)⟩

theorem pwrCtlIdle_handover_does (h : s.pwr.stage = .run) (hho : s.ho ≠ none) :
    Does .pwrCtlIdle s (fun t => t.pwr = { s.pwr with targetPend := some 1 } ∧ t.doms = s.doms) :=
  ⟨setPwr (setf s F.PWR_CTL_TARGET 1) { s.pwr with targetPend := some 1 },
    (exec_pwrCtlIdle h).trans (by rw [if_pos (Option.isSome_iff_ne_none.2 hho)]), rfl, rfl⟩

/-! #### IDLE exit -/

/-- The start-up sequence of an IDLE exit writes its own status and the fabric's state, and leaves the power staging and every other
register as they are. -/
theorem seqGo_idleExit (fuel : Nat) (h : s.fab.seqFor = 1) :
    (seqGo s fuel).pwr = s.pwr ∧ ∀ r, r ≠ R.CFG_SEQ_STAT → r ≠ R.FAB_STAT → rd (seqGo s fuel) r = rd s r := by
  have hdone (u : State) (hu : u.fab.seqFor = 1) :
      (seqDone u).pwr = u.pwr ∧ ∀ r, r ≠ R.CFG_SEQ_STAT → r ≠ R.FAB_STAT → rd (seqDone u) r = rd u r := by
    have hend : seqDone u = setf (setf (setFab u { u.fab with seqPh := 0 }) F.CFG_SEQ_STAT_DONE 1) F.FAB_STAT_STATE 2 := by
      unfold seqDone
      dsimp only [setf_fab, setFab_fab]
      rw [hu]
      rfl
    rw [hend]
    exact ⟨rfl, fun r hseq hfab => (rd_setf_ne hfab _ _).trans ((rd_setf_ne hseq _ _).trans rfl)⟩
  induction fuel generalizing s with
  | zero => exact hdone s h
  | succ fuel ih =>
    have hindex (v : Nat) (r : Nat) (hr : r ≠ R.CFG_SEQ_STAT) : rd (setf s F.CFG_SEQ_STAT_INDEX v) r = rd s r := rd_setf_ne hr s v
    unfold seqGo
    dsimp only
    split_ifs
    · obtain ⟨hpwr, hrd⟩ := hdone (setf s F.CFG_SEQ_STAT_INDEX (getf s F.CFG_SEQ_STAT_INDEX - 1)) h
      exact ⟨hpwr, fun r hseq hfab => (hrd r hseq hfab).trans (hindex _ r hseq)⟩
    · exact hdone s h
    · obtain ⟨hpwr, hrd⟩ := ih (s := setf s F.CFG_SEQ_STAT_INDEX (getf s F.CFG_SEQ_STAT_INDEX + 1)) h
      exact ⟨hpwr, fun r hseq hfab => (hrd r hseq hfab).trans (hindex _ r hseq)⟩
    · exact ⟨rfl, fun _ _ _ => rfl⟩
    · exact ⟨rfl, fun _ _ _ => rfl⟩

theorem seqBegin_idleExit (s : State) :
    (seqBegin s 1).pwr = s.pwr ∧ ∀ r, r ≠ R.CFG_SEQ_STAT → r ≠ R.FAB_STAT → rd (seqBegin s 1) r = rd s r := by
  let u := setf (setf (setf s F.CFG_SEQ_STAT_INDEX 0) F.CFG_SEQ_STAT_DONE 0) F.CFG_SEQ_STAT_STEPS 0
  obtain ⟨hpwr, hrd⟩ := seqGo_idleExit (s := setf (setFab u { u.fab with seqFor := 1 }) F.FAB_STAT_STATE 1) 8 rfl
  refine ⟨hpwr, fun r hseq hfab => (hrd r hseq hfab).trans ?_⟩
  rw [rd_setf_ne hfab, setFab_rd, rd_setf_ne hseq, rd_setf_ne hseq, rd_setf_ne hseq]

/-- With an image loaded the exit from IDLE begins with the waves of its regions. -/
theorem beginRun_loaded (h : s.fab.image ≠ []) :
    let t := beginRun s
    t.pwr.stage = .idleExit ∧ isSet t F.PWR_STAT_BUSY = true ∧ t.pwr.wq = wavesFor (usedRegions s.fab.image)
      ∧ getf t F.PWR_CTL_TARGET = getf s F.PWR_CTL_TARGET := by
  let u := setf (setPwr s { s.pwr with targetPend := none, stage := .idleExit, wq := wavesFor (usedRegions s.fab.image) }) F.PWR_STAT_BUSY 1
  have hbegun : beginRun s = if wavesFor (usedRegions s.fab.image) = [] then seqBegin u 1 else u := if_neg h
  have hbusy : isSet u F.PWR_STAT_BUSY = true := isSet_setf_one _ rfl (by decide)
  have htarget : getf u F.PWR_CTL_TARGET = getf s F.PWR_CTL_TARGET := getf_setf_apart (by decide)
  obtain ⟨hpwr, hrd⟩ := seqBegin_idleExit u
  dsimp only
  rw [hbegun]
  split
  · rw [hpwr, isSet_congr (hrd _ (by decide) (by decide)), getf_congr (hrd _ (by decide) (by decide))]
    exact ⟨rfl, hbusy, rfl, htarget⟩
  · exact ⟨rfl, hbusy, rfl, htarget⟩

/-- Without an image RUN is reached at once. -/
theorem beginRun_empty (h : s.fab.image = []) :
    let t := beginRun s
    t.pwr.stage = .run ∧ getf t F.PWR_STAT_STATE = 1 ∧ getf t F.PWR_CTL_TARGET = getf s F.PWR_CTL_TARGET := by
  have hrun : beginRun s = setf (setPwr s { s.pwr with targetPend := none, stage := .run }) F.PWR_STAT_STATE 1 := if_pos h
  dsimp only
  rw [hrun]
  exact ⟨rfl, getf_setf_fits _ (by decide) (by decide), getf_setf_apart (by decide)⟩

theorem exec_pwrCtlRun (h : s.pwr.stage = .idle) (hho : s.ho = none) : exec .pwrCtlRun s = .next (beginRun (setf s F.PWR_CTL_TARGET 0)) := by
  show execPwrCtlRun s = _
  unfold execPwrCtlRun
  simp only [setf_pwr, setf_ho, h, hho]
  rfl

theorem pwrCtlRun_loaded_does (h : s.pwr.stage = .idle) (hho : s.ho = none) (himg : s.fab.image ≠ []) :
    Does .pwrCtlRun s (fun t => t.pwr.stage = .idleExit ∧ isSet t F.PWR_STAT_BUSY = true
      ∧ t.pwr.wq = wavesFor (usedRegions s.fab.image) ∧ getf t F.PWR_CTL_TARGET = 0) := by
  obtain ⟨hstage, hbusy, hwaves, htarget⟩ := beginRun_loaded (s := setf s F.PWR_CTL_TARGET 0) himg
  exact ⟨_, exec_pwrCtlRun h hho, hstage, hbusy, hwaves, htarget.trans (getf_target s false)⟩

theorem pwrCtlRun_empty_does (h : s.pwr.stage = .idle) (hho : s.ho = none) (himg : s.fab.image = []) :
    Does .pwrCtlRun s (fun t => t.pwr.stage = .run ∧ getf t F.PWR_STAT_STATE = 1 ∧ getf t F.PWR_CTL_TARGET = 0) := by
  obtain ⟨hstage, hstate, htarget⟩ := beginRun_empty (s := setf s F.PWR_CTL_TARGET 0) himg
  exact ⟨_, exec_pwrCtlRun h hho, hstage, hstate, htarget.trans (getf_target s false)⟩

/-! #### The end of the entry, and of the exit -/

/-- Powering down region `r` clears its bit of RGN_ON, and its pace, and leaves every other register as it is. -/
theorem rd_regionOff (s : State) (r q : Nat) (hpace : q ≠ R.FAB_PACE r) :
    rd (regionOff s r) q = rd (setf s F.FAB_STAT_RGN_ON (clearBit (getf s F.FAB_STAT_RGN_ON) r)) q := by
  unfold regionOff
  dsimp only
  rw [setFab_rd, rd_setf_ne hpace, rd_setf_ne hpace]

theorem regionOff_on (s : State) (r k : Nat) (hk : k < 16) :
    bit (getf (regionOff s r) F.FAB_STAT_RGN_ON) k = (bit (getf s F.FAB_STAT_RGN_ON) k && k != r) := by
  rw [getf_congr (rd_regionOff s r _ (FAB_PACE_ne_low (by decide) r)), bit_getf_setf _ _ _ (by decide) hk, bit_clearBit]

theorem foldl_regionOff_pwr (l : List Nat) (s : State) : (l.foldl regionOff s).pwr = s.pwr := by
  induction l generalizing s with
  | nil => rfl
  | cons r l ih => exact (ih _).trans rfl

theorem foldl_regionOff_image (l : List Nat) (s : State) : (l.foldl regionOff s).fab.image = s.fab.image := by
  induction l generalizing s with
  | nil => rfl
  | cons r l ih => exact (ih _).trans rfl

/-- Regions powered down one after the other: their bits of RGN_ON are clear, the others as they were. -/
theorem foldl_regionOff_on (l : List Nat) (s : State) (k : Nat) (hk : k < 16) :
    bit (getf (l.foldl regionOff s) F.FAB_STAT_RGN_ON) k = (bit (getf s F.FAB_STAT_RGN_ON) k && !l.contains k) := by
  induction l generalizing s with
  | nil => simp
  | cons r l ih =>
    rw [List.foldl_cons, ih, regionOff_on s r k hk, List.contains_cons, Bool.not_or, Bool.and_assoc]
    rfl

/-- With the regions that were on powered down, no region is on. -/
theorem allRegionsOff (s : State) : getf ((regions (getf s F.FAB_STAT_RGN_ON)).foldl regionOff s) F.FAB_STAT_RGN_ON = 0 := by
  apply Nat.eq_of_testBit_eq
  intro k
  rw [Nat.zero_testBit]
  by_cases hk : k < 16
  · refine (foldl_regionOff_on _ s k hk).trans ?_
    cases hb : bit (getf s F.FAB_STAT_RGN_ON) k
    · rfl
    · have hin : k ∈ regions (getf s F.FAB_STAT_RGN_ON) := List.mem_filter.2 ⟨List.mem_range.2 hk, hb⟩
      simp [hin]
  · exact Nat.testBit_lt_two_pow (lt_of_lt_of_le (getf_lt _ F.FAB_STAT_RGN_ON) (Nat.pow_le_pow_right (by decide) (show 16 ≤ k by omega)))

section
variable (s : State)

/-- The unit once the fabric's aborts are posted (R102). -/
def idleRegs (s : State) : State :=
  let off := (regions (getf s F.FAB_STAT_RGN_ON)).foldl regionOff s
  let fab := setf (setFab off { off.fab with gates := [], trim := 0, steps := [] }) F.FAB_STAT_STATE 4
  setf (setf (setPwr fab { fab.pwr with stage := .idle }) F.PWR_STAT_STATE 2) F.PWR_STAT_BUSY 0

theorem idleRegs_pwr : (idleRegs s).pwr = { s.pwr with stage := .idle } := by
  unfold idleRegs
  dsimp only [setf_pwr, setPwr_pwr, setFab_pwr]
  rw [foldl_regionOff_pwr]

theorem idleRegs_fab : (idleRegs s).fab.gates = [] ∧ (idleRegs s).fab.image = s.fab.image := by
  unfold idleRegs
  dsimp only [setf_fab, setPwr_fab, setFab_fab]
  exact ⟨rfl, foldl_regionOff_image _ s⟩

theorem idleRegs_state : getf (idleRegs s) F.PWR_STAT_STATE = 2 := by
  unfold idleRegs
  dsimp only
  rw [getf_setf_apart (by decide), getf_setf_fits _ (by decide) (by decide)]

theorem idleRegs_busy : isSet (idleRegs s) F.PWR_STAT_BUSY = false := isSet_setf_zero _ rfl (by decide)

theorem idleRegs_fabStat : getf (idleRegs s) F.FAB_STAT_RGN_ON = 0 ∧ getf (idleRegs s) F.FAB_STAT_STATE = 4 := by
  unfold idleRegs
  dsimp only
  rw [getf_setf_apart (by decide), getf_setf_apart (by decide), getf_setf_apart (by decide), getf_setf_apart (by decide)]
  refine ⟨?_, ?_⟩
  · rw [getf_congr (setPwr_rd ..), getf_setf_apart (by decide), getf_congr (setFab_rd ..), allRegionsOff]
  · rw [getf_congr (setPwr_rd ..), getf_setf_fits _ (by decide) (by decide)]

end

theorem exec_idleEntryDone (h : s.pwr.stage = .idleEntry) (hfence : fenceDone s 11 = true) (hpend : s.pwr.targetPend = none) :
    exec .idleEntryDone s = .next (ioOff (idleRegs s)) := by
  have hnext : idleNext (ioOff (idleRegs s)) = ioOff (idleRegs s) := by
    have hnone : (ioOff (idleRegs s)).pwr.targetPend = none := by
      rw [(ioOff_made (Nat.or_self _) (idleRegs s) (.refl ..)).pwr rfl, idleRegs_pwr]; exact hpend
    unfold idleNext
    rw [hnone]
    simp
  rw [← hnext]
  exact if_neg (by simp [h, hfence])

theorem idleEntryDone_does (h : s.pwr.stage = .idleEntry) (hfence : fenceDone s 11 = true) (hpend : s.pwr.targetPend = none) :
    Does .idleEntryDone s (fun t => t.pwr.stage = .idle
      ∧ getf t F.PWR_STAT_STATE = 2 ∧ isSet t F.PWR_STAT_BUSY = false ∧ getf t F.FAB_STAT_RGN_ON = 0 ∧ getf t F.FAB_STAT_STATE = 4
      ∧ t.fab.gates = [] ∧ t.fab.image = s.fab.image) := by
  obtain ⟨hon, hoff⟩ := idleRegs_fabStat s
  obtain ⟨hgates, himg⟩ := idleRegs_fab s
  exact ⟨_, exec_idleEntryDone h hfence hpend, congrArg Pwr.stage (idleRegs_pwr s), idleRegs_state s, idleRegs_busy s, hon, hoff, hgates, himg⟩

end

end Sys2Proof.Machine

/-! ### The fence reopens, and the unit falls asleep (R100, R102, R362) -/
namespace Sys2Proof.Machine

/-! #### The end of IDLE exit -/

/-- With no handover and no self-test that waits, a domain other than a link's, the FIFOs', the harness's or the radio's only comes back
into service. -/
theorem inService_fabric {s : State} (h : noWaiter s) : inService s 11 = s := by
  obtain ⟨hho, hret⟩ := h
  have hbst : bstFinish s = s := by unfold bstFinish; rw [hret]
  have hident : inService s 11 = hoAborted (bstFinish s) := rfl
  rw [hident, hbst]
  unfold hoAborted
  rw [hho]

/-- Where it was the only holder and the act left the domain in service, the fence reopens as its holder lets go. -/
theorem releaseHolder_reopens {s : State} {d k : Nat} (hd : d < 32) (hholders : (dom s d).holders = [k]) (hhold : softHold s d = false)
    (hfence : (dom s d).fence = .aborted) (hreset : (dom s d).resetBy = none) : fenced (releaseHolder s d k) d = false := by
  have hdom : dom (setDom s d { dom s d with holders := (dom s d).holders.filter (fun e => e != k) }) d
      = { dom s d with holders := [] } := by rw [dom_setDom, hholders]; simp
  cases hf : fenced s d
  · refine (congrArg (fenced · d) (if_neg ?_)).trans hf
    intro hcond
    have hopen : fenced (setDom s d { dom s d with holders := (dom s d).holders.filter (fun e => e != k) }) d = true := by
      simp only [Bool.and_eq_true] at hcond; exact hcond.1.1.1
    exact absurd (hopen.symm.trans hf) (by decide)
  · refine (congrArg (fenced · d) (if_pos ?_)).trans (reopen_fenced _ hd)
    rw [hdom]
    have hopen : fenced (setDom s d { dom s d with holders := (dom s d).holders.filter (fun e => e != k) }) d = true := hf
    have hfree : softHold (setDom s d { dom s d with holders := (dom s d).holders.filter (fun e => e != k) }) d = false := hhold
    rw [hopen, hfree]
    simp [hfence, hreset]

section
variable {s : State}

/-- The registers and the staging once the start-up steps of an IDLE exit are complete. -/
def runRegs (s : State) : State := trimBegin (setf (setf (setPwr s { s.pwr with stage := .run }) F.PWR_STAT_STATE 1) F.PWR_STAT_BUSY 0)

theorem rd_runRegs {r : Nat} (hstat : r ≠ R.PWR_STAT) (htrim : r ≠ R.FAB_TRIM_STAT) : rd (runRegs s) r = rd s r := by
  unfold runRegs trimBegin satAdd
  rw [setFab_rd, rd_setf_ne htrim, rd_setf_ne hstat, rd_setf_ne hstat, setPwr_rd]

theorem getf_runRegs_state : getf (runRegs s) F.PWR_STAT_STATE = 1 := by
  unfold runRegs trimBegin satAdd
  rw [getf_congr (setFab_rd ..), getf_setf_apart (by decide), getf_setf_apart (by decide), getf_setf_fits _ (by decide) (by decide)]

theorem runRegs_not_busy : isSet (runRegs s) F.PWR_STAT_BUSY = false := by
  unfold runRegs trimBegin satAdd
  rw [isSet_congr (setFab_rd ..), isSet_setf_apart (by decide), isSet_setf_zero _ rfl (by decide)]

theorem exec_idleExitDone (h : s.pwr.stage = .idleExit) (hwaves : s.pwr.wq = []) (hseq : s.fab.seqPh = 0)
    (hdone : isSet s F.CFG_SEQ_STAT_DONE = true) (hpend : s.pwr.targetPend = none) (hnone : noWaiter s) :
    exec .idleExitDone s = .next (releaseHolder (runRegs s) 11 7) := by
  have hmade := releaseHolder_made (Nat.or_self _) (runRegs s) 11 7 (.refl ..)
  have hpwr : (releaseHolder (runRegs s) 11 7).pwr = { s.pwr with stage := .run } := (hmade.pwr rfl).trans rfl
  have hin : inService (releaseHolder (runRegs s) 11 7) 11 = releaseHolder (runRegs s) 11 7 :=
    inService_fabric ⟨(hmade.ho rfl).trans hnone.1, (congrArg Bst.ret (hmade.bst rfl)).trans hnone.2⟩
  have hexec : exec .idleExitDone s = .next (if (inService (releaseHolder (runRegs s) 11 7) 11).pwr.targetPend = some 1
      then beginIdle (inService (releaseHolder (runRegs s) 11 7) 11) else inService (releaseHolder (runRegs s) 11 7) 11) :=
    if_neg (by simp [h, hwaves, hseq, hdone])
  rw [hexec, hin, hpwr, if_neg (by simp [hpend])]

theorem idleExitDone_does (h : s.pwr.stage = .idleExit) (hwaves : s.pwr.wq = []) (hseq : s.fab.seqPh = 0)
    (hdone : isSet s F.CFG_SEQ_STAT_DONE = true) (hpend : s.pwr.targetPend = none) (hnone : noWaiter s)
    (hholders : (dom s 11).holders = [7]) (hhold : softHold s 11 = false) (hfence : (dom s 11).fence = .aborted)
    (hreset : (dom s 11).resetBy = none) : Does .idleExitDone s (fun t =>
        t.pwr.stage = .run ∧ getf t F.PWR_STAT_STATE = 1 ∧ isSet t F.PWR_STAT_BUSY = false ∧ fenced t 11 = false) := by
  have hstep := releaseHolder_step (runRegs s) (d := 11) (by decide) 7
  have hsoft : softHold (runRegs s) 11 = false := by
    unfold softHold
    rw [rd_runRegs (by decide) (by decide)]
    exact hhold
  refine ⟨_, exec_idleExitDone h hwaves hseq hdone hpend hnone, ?_, ?_, ?_, ?_⟩
  · exact congrArg Pwr.stage ((releaseHolder_made (Nat.or_self _) (runRegs s) 11 7 (.refl ..)).pwr rfl)
  · rw [hstep.getf_eq (by decide), getf_runRegs_state]
  · rw [hstep.isSet_eq (by decide), runRegs_not_busy]
  · exact releaseHolder_reopens (by decide) hholders hsoft hfence hreset

/-! #### SLEEP entry -/

/-- A fence closed over each powered domain of a list: each is fenced, and no domain's power changes. -/
def fencePowered (s : State) (l : List Nat) : State := l.foldl (fun t d => if (dom t d).powered then closeFence t d 7 (rstDrain t) else t) s

theorem closeFence_powered (s : State) {d : Nat} (hd : d < 32) (k drain e : Nat) :
    (dom (closeFence s d k drain) e).powered = (dom s e).powered := by
  by_cases he : e = d
  · subst he
    cases hf : fenced s e
    · rw [closeFence_open hf, dom_fenceClosed]; rfl
    · rw [closeFence_joined hf]
      split
      · rfl
      · rw [dom_setDom]
  · rw [(closeFence_step s hd k drain).dom_eq e he]

theorem closeFence_fenced_mono (s : State) {d : Nat} (hd : d < 32) (k drain e : Nat) (h : fenced s e = true) :
    fenced (closeFence s d k drain) e = true := by
  by_cases he : e = d
  · rw [he]; exact closeFence_fenced s hd k drain
  · rw [(closeFence_step s hd k drain).fenced_eq e he]; exact h

theorem fencePowered_fenced (l : List Nat) (hl : ∀ d ∈ l, d < 32) (s : State) (e : Nat)
    (h : fenced s e = true ∨ e ∈ l ∧ (dom s e).powered = true) : fenced (fencePowered s l) e = true := by
  induction l generalizing s with
  | nil => exact h.resolve_right (by simp)
  | cons d l ih =>
    have hd : d < 32 := hl d List.mem_cons_self
    refine ih (fun k hk => hl k (List.mem_cons_of_mem d hk)) _ ?_
    dsimp only
    split_ifs with hp
    · rcases h with h | ⟨hin, hpow⟩
      · exact .inl (closeFence_fenced_mono s hd _ _ e h)
      · rcases List.mem_cons.1 hin with rfl | hin
        · exact .inl (closeFence_fenced s hd _ _)
        · exact .inr ⟨hin, (closeFence_powered s hd _ _ e).trans hpow⟩
    · rcases h with h | ⟨hin, hpow⟩
      · exact .inl h
      · rcases List.mem_cons.1 hin with rfl | hin
        · exact absurd hpow hp
        · exact .inr ⟨hin, hpow⟩

/-- PWRGRANT_OUT as driven; the boundary cells do not own the pin. -/
theorem driveGrant_out (s : State) (v : Nat) : (driveGrant s v).out = s.out ++ [.pin .pwrgrantOut v] := emit_out _ _ (Bool.and_false _)

theorem driveGrant_pwr (s : State) (v : Nat) : (driveGrant s v).pwr = s.pwr := (driveGrant_made (Nat.or_self _) s v (.refl ..)).pwr rfl

/-- SLEEP entry has begun: the grant is withdrawn. -/
def sleepBegun (s : State) : State := driveGrant (setPwr s { s.pwr with stage := .sleepEntry }) 0

theorem sleepBegun_stage (s : State) : (sleepBegun s).pwr.stage = .sleepEntry := congrArg Pwr.stage (driveGrant_pwr _ 0)

theorem sleepBegun_grant (s : State) : isSet (sleepBegun s) F.PWR_STAT_GRANT_OUT = false :=
  (emit_isSet ..).trans (isSet_setf_zero _ rfl (by decide))

theorem sleepBegun_out (s : State) : .pin .pwrgrantOut 0 ∈ (sleepBegun s).out := by
  have hout : (sleepBegun s).out = s.out ++ [.pin .pwrgrantOut 0] := driveGrant_out _ 0
  rw [hout]
  exact List.mem_append_right _ (List.mem_singleton_self _)

theorem sleepBegun_fenced (s : State) (d : Nat) : fenced (sleepBegun s) d = fenced s d :=
  fenced_congr ((emit_rd ..).trans ((rd_setf_ne (by decide) _ _).trans (setPwr_rd ..))) d

theorem exec_sleepEntry (h : s.pwr.stage = .committed) : exec .sleepEntry s = .next (sleepBegun (fencePowered s (List.range 24))) := by
  show execSleepEntry s = _
  unfold execSleepEntry
  rw [if_neg (not_not_intro h)]
  unfold sleepBegun fencePowered
  rfl

theorem sleepEntry_does (h : s.pwr.stage = .committed) :
    Does .sleepEntry s (fun t => t.pwr.stage = .sleepEntry ∧ (∀ d < 24, (dom s d).powered = true → fenced t d = true)
      ∧ isSet t F.PWR_STAT_GRANT_OUT = false ∧ .pin .pwrgrantOut 0 ∈ t.out) := by
  refine ⟨_, exec_sleepEntry h, sleepBegun_stage _, fun d hd hpow => ?_, sleepBegun_grant _, sleepBegun_out _⟩
  rw [sleepBegun_fenced]
  exact fencePowered_fenced _ (fun e he => by have := List.mem_range.1 he; omega) s d (.inr ⟨List.mem_range.2 hd, hpow⟩)

end

end Sys2Proof.Machine

/-! ### The wake sources (R103, R104, R364, R439, R444) -/
namespace Sys2Proof.Machine

/-! #### Leaving SLEEP -/

theorem rd_enterS1 (s : State) {r : Nat} (hwait : r ≠ R.PWR_GRANT_WAIT) (hstat : r ≠ R.PWR_STAT) : rd (enterS1 s) r = rd s r := by
  unfold enterS1
  dsimp only
  rw [rd_setf_ne hstat, rd_setf_ne hstat, rd_setf_ne hstat, rd_setf_ne hstat, setPwr_rd, rd_setf_ne hwait]

theorem enterS1_stage (s : State) : (enterS1 s).pwr.stage = .s1 := by
  unfold enterS1
  dsimp only [setf_pwr, setPwr_pwr]

theorem enterS1_tone (s : State) : (enterS1 s).pwr.tone = s.pwr.tone := by
  unfold enterS1
  dsimp only [setf_pwr, setPwr_pwr]

theorem enterS1_out (s : State) : (enterS1 s).out = s.out := by
  unfold enterS1
  dsimp only [setf_out, setPwr_out]

/-- The wake tone has begun, and with the required rails good the unit waits for its grant. -/
def waking (s : State) : State :=
  let t := emit (setPwr s { s.pwr with begun := s.clk, waitFrom := s.clk, wakeLate := false, tone := true }) (.wakeTone 1)
  setf (setf (setPwr t { t.pwr with stage := .grantWait }) F.PWR_STAT_SELF_GRANT (b2n t.pwr.headEn)) F.CFG_STAT_CFGSRC t.pwr.cfgsrc

theorem leaveSleep_eq {s : State} (h : railsGood s = true) : leaveSleep s = if s.pwr.headEn then enterS1 (waking s) else waking s := if_pos h

theorem waking_pwr (s : State) :
    (waking s).pwr = { s.pwr with begun := s.clk, waitFrom := s.clk, wakeLate := false, tone := true, stage := .grantWait } := by
  unfold waking
  dsimp only [setf_pwr, setPwr_pwr, emit_pwr]

theorem waking_out (s : State) : (waking s).out = s.out ++ [.wakeTone 1] := emit_out _ _ (Bool.and_false _)

theorem rd_waking (s : State) {r : Nat} (hstat : r ≠ R.PWR_STAT) (hcfg : r ≠ R.CFG_STAT) : rd (waking s) r = rd s r :=
  (rd_setf_ne hcfg _ _).trans ((rd_setf_ne hstat _ _).trans rfl)

/-- The registers that leaving SLEEP writes. -/
def wakeRegs : List Nat := [R.PWR_GRANT_WAIT, R.PWR_STAT, R.CFG_STAT]

theorem rd_leaveSleep {s : State} (h : railsGood s = true) {r : Nat} (hr : r ∉ wakeRegs) : rd (leaveSleep s) r = rd s r := by
  have hne : ∀ q ∈ wakeRegs, r ≠ q := fun q hq he => hr (he ▸ hq)
  have hwaking : rd (waking s) r = rd s r := rd_waking s (hne _ (by decide)) (hne _ (by decide))
  rw [leaveSleep_eq h]
  split
  · exact (rd_enterS1 _ (hne _ (by decide)) (hne _ (by decide))).trans hwaking
  · exact hwaking

theorem leaveSleep_starts {s : State} (h : railsGood s = true) : let t := leaveSleep s
    t.pwr.stage = (if s.pwr.headEn then .s1 else .grantWait) ∧ .wakeTone 1 ∈ t.out ∧ t.pwr.tone = true := by
  have hout : .wakeTone 1 ∈ (waking s).out := by rw [waking_out]; exact List.mem_append_right _ (List.mem_singleton_self _)
  dsimp only
  rw [leaveSleep_eq h]
  split
  · rw [enterS1_stage, enterS1_out, enterS1_tone, waking_pwr]
    exact ⟨rfl, hout, rfl⟩
  · rw [waking_pwr]
    exact ⟨rfl, hout, rfl⟩

/-! #### A source that fires in SLEEP -/

/-- The source is latched in PWR_WAKE_SRC. -/
def wakeLatched (s : State) (k : Nat) : State := wr s R.PWR_WAKE_SRC (rd s R.PWR_WAKE_SRC ||| w32 (2 ^ k))

theorem wakeLatched_bit (s : State) {k : Nat} (hk : k < 32) : bit (rd (wakeLatched s k) R.PWR_WAKE_SRC).toNat k = true := by
  rw [bit_toNat, wakeLatched, rd_wr, if_pos rfl, BitVec.getLsbD_or, w32_two_pow_getLsbD hk]
  simp

theorem wakeFires_disabled {s : State} {k : Nat} (h : bit (rd s R.PWR_WAKE_EN).toNat k = false) : wakeFires s k = s := if_pos (by rw [h]; rfl)

theorem wakeFires_sleep {s : State} {k : Nat} (hen : bit (rd s R.PWR_WAKE_EN).toNat k = true) (hstage : s.pwr.stage = .sleep) :
    wakeFires s k = leaveSleep (wakeLatched s k) := by
  unfold wakeFires
  rw [hen, hstage]
  rfl

section
variable {s : State}

/-- An enabled source wakes the unit; beyond the source latch and the start's own registers no register changes. -/
theorem wakeFires_awake {k : Nat} (hk : k < 32) (hstage : s.pwr.stage = .sleep) (hrails : railsGood s = true)
    (hen : bit (rd s R.PWR_WAKE_EN).toNat k = true) :
    awake s (wakeFires s k) k ∧ ∀ r, r ∉ wakeRegs → r ≠ R.PWR_WAKE_SRC → rd (wakeFires s k) r = rd s r := by
  have hgood : railsGood (wakeLatched s k) = true := hrails
  obtain ⟨hstart, hout, htone⟩ := leaveSleep_starts hgood
  rw [wakeFires_sleep hen hstage]
  refine ⟨⟨hstart, ?_, hout, htone⟩, fun r hr hsrc => (rd_leaveSleep hgood hr).trans (rd_wr_ne hsrc _ _)⟩
  rw [rd_leaveSleep hgood (by decide)]
  exact wakeLatched_bit s hk

theorem wakePin_does (hstage : s.pwr.stage = .sleep) (hrails : railsGood s = true) :
    ∀ q ∈ [(Instr.wakeInPin, 0), (Instr.chainWakeDetect, 2), (Instr.wakePerst, 3)],
      bit (rd s R.PWR_WAKE_EN).toNat q.2 = true → Does q.1 s (fun t => awake s t q.2) := by
  intro q hq hen
  simp only [List.mem_cons, List.not_mem_nil, or_false] at hq
  rcases hq with rfl | rfl | rfl
  · exact ⟨wakeFires s 0, rfl, (wakeFires_awake (by decide) hstage hrails hen).1⟩
  · exact ⟨wakeFires s 2, rfl, (wakeFires_awake (by decide) hstage hrails hen).1⟩
  · have hen' : bit (rd (setf s F.HIF_STAT_PERST 1) R.PWR_WAKE_EN).toNat 3 = true := by rw [rd_setf_ne (by decide)]; exact hen
    exact ⟨wakeFires (setf s F.HIF_STAT_PERST 1) 3, rfl, (wakeFires_awake (s := setf s F.HIF_STAT_PERST 1) (by decide) hstage hrails hen').1⟩

theorem wakeTimerExpiry_does (hstage : s.pwr.stage = .sleep) (hrails : railsGood s = true) (hen : bit (rd s R.PWR_WAKE_EN).toNat 1 = true)
    (hms : getf s F.PWR_WAKE_TIMER_MS ≠ 0) : Does .wakeTimerExpiry s (fun t => awake s t 1) :=
  ⟨wakeFires s 1, if_neg (by simp [hms, hstage]), (wakeFires_awake (by decide) hstage hrails hen).1⟩

theorem linWakePulse_does (m : Fin 16) (hstage : s.pwr.stage = .sleep) (hrails : railsGood s = true)
    (hen : bit (rd s R.PWR_WAKE_EN).toNat 5 = true) (hswk : isSet s (F.LIN_SWK_EN m) = true) (hbank : bit s.pwr.railsOff 11 = false) :
    Does (.linWakePulse m) s (fun t => awake s t 5) :=
  ⟨wakeFires s 5, if_pos ⟨by simp [armed, hstage], hswk, hbank⟩, (wakeFires_awake (by decide) hstage hrails hen).1⟩

theorem wakeInPin_disabled (h : bit (rd s R.PWR_WAKE_EN).toNat 0 = false) : exec .wakeInPin s = .next s :=
  congrArg Host.Outcome.next (wakeFires_disabled h)

theorem chainWakeDetect_disabled (h : bit (rd s R.PWR_WAKE_EN).toNat 2 = false) : exec .chainWakeDetect s = .next s :=
  congrArg Host.Outcome.next (wakeFires_disabled h)

theorem wakeToneDone_does (h : s.pwr.tone = true) :
    Does .wakeToneDone s (fun t => t.pwr = { s.pwr with tone := false } ∧ t.out = s.out ++ [.wakeTone 0]) :=
  ⟨emit (setPwr s { s.pwr with tone := false }) (.wakeTone 0), if_pos h, rfl, emit_out _ _ (Bool.and_false _)⟩

end

/-! #### The CAN wake detectors (R439) -/

section
variable {s : State} (n : Fin 16)

/-- The frame errors of controller `n` as counted. -/
def fecCounted (s : State) (n v : Nat) : State := setf s (F.CAN_SWK_SRC_FEC_CNT n) v

theorem getf_fecCounted (v : Nat) (hv : v < 256) : getf (fecCounted s n v) (F.CAN_SWK_SRC_FEC_CNT n) = v :=
  getf_setf_fits s (show 8 + 8 ≤ 32 by decide) hv

theorem getf_fecCnt_lt (s : State) (n : Nat) : getf s (F.CAN_SWK_SRC_FEC_CNT n) < 256 := getf_lt s (F.CAN_SWK_SRC_FEC_CNT n)

/-- The other registers of the detector do not show the count. -/
theorem rd_fecCounted (v : Nat) {r : Nat} (h : r ≠ R.CAN_SWK_SRC n) : rd (fecCounted s n v) r = rd s r := rd_setf_ne h s v

theorem fecCounted_ctl (v : Nat) : rd (fecCounted s n v) (R.CAN_SWK_CTL n) = rd s (R.CAN_SWK_CTL n) :=
  rd_fecCounted n v (by simp only [R.CAN_SWK_CTL, R.CAN_SWK_SRC]; omega)

theorem isWuf_fecCounted (v id : Nat) (ide : Bool) (dlc : Nat) (data : List Byte) :
    isWuf (fecCounted s n v) n id ide dlc data = isWuf s n id ide dlc data := by
  unfold isWuf
  rw [rd_fecCounted n v (by simp only [R.CAN_SWK_DATA_LO, R.CAN_SWK_SRC]; omega),
    rd_fecCounted n v (by simp only [R.CAN_SWK_DATA_HI, R.CAN_SWK_SRC]; omega),
    rd_fecCounted n v (by simp only [R.CAN_SWK_ID, R.CAN_SWK_SRC]; omega),
    rd_fecCounted n v (by simp only [R.CAN_SWK_MASK, R.CAN_SWK_SRC]; omega),
    getf_congr (f := F.CAN_SWK_CTL_SWK_DLC n) (fecCounted_ctl n v), isSet_congr (f := F.CAN_SWK_CTL_DATA_EN n) (fecCounted_ctl n v)]

/-- A count leaves everything but the register of the count as it is. -/
theorem fecCounted_frame (v : Nat) : fecCounted s n v = { s with regs := (fecCounted s n v).regs } := rfl

/-- A detector's flag, once raised, is still seen after the unit has left SLEEP for source 4. -/
theorem canWake_awake {t : State} {f : Fld} (hf : f.reg = R.CAN_SWK_SRC n) (hw : f.width = 1) (hlo : f.lo < 32) (hstage : t.pwr.stage = .sleep)
    (hrails : railsGood t = true) (hen : bit (rd t R.PWR_WAKE_EN).toNat 4 = true) :
    awake t (wakeFires (raise t f) 4) 4 ∧ isSet (wakeFires (raise t f) 4) f = true := by
  have hen' : bit (rd (raise t f) R.PWR_WAKE_EN).toNat 4 = true := by
    rw [rd_raise_ne (by rw [hf]; simp only [R.CAN_SWK_SRC, R.PWR_WAKE_EN]; omega)]; exact hen
  obtain ⟨hawake, hrest⟩ := wakeFires_awake (s := raise t f) (k := 4) (by decide) hstage hrails hen'
  refine ⟨hawake, ?_⟩
  rw [isSet_congr (hrest f.reg (by rw [hf]; simp only [wakeRegs, List.mem_cons, List.not_mem_nil, or_false, R.CAN_SWK_SRC, R.PWR_GRANT_WAIT, R.PWR_STAT, R.CFG_STAT]; omega)
    (by rw [hf]; simp only [R.CAN_SWK_SRC, R.PWR_WAKE_SRC]; omega))]
  exact isSet_setf_one t hw hlo

theorem exec_canWuf (hon : swkOn s n = true) (id : Fin 536870912) (ide : Bool) (dlc : Fin 16) (data : List Byte) :
    exec (.canWuf n id ide dlc data) s = .next (
      let t := fecCounted s n (getf s (F.CAN_SWK_SRC_FEC_CNT n) - 1)
      if isWuf s n id ide dlc data then wakeFires (raise t (F.CAN_SWK_SRC_WUF n)) 4 else t) := by
  rw [← isWuf_fecCounted n (getf s (F.CAN_SWK_SRC_FEC_CNT n) - 1)]
  show execCanWuf n id ide dlc data s = _
  unfold execCanWuf
  rw [if_neg (by rw [hon]; decide)]
  dsimp only
  unfold fecCounted
  split <;> rfl

theorem exec_fecWake (hon : swkOn s n = true) (bad : Bool) :
    exec (.fecWake n bad) s = .next (
      let c := getf s (F.CAN_SWK_SRC_FEC_CNT n)
      if bad then
        let t := fecCounted s n (min 255 (c + 1))
        if getf s (F.CAN_SWK_CTL_FEC_MAX n) < c + 1 ∧ isSet s (F.CAN_SWK_CTL_FEC_WAKE n) = true then wakeFires (raise t (F.CAN_SWK_SRC_FEC n)) 4 else t
      else fecCounted s n (c - 1)) := by
  dsimp only
  rw [← getf_congr (f := F.CAN_SWK_CTL_FEC_MAX n) (fecCounted_ctl n (min 255 (getf s (F.CAN_SWK_SRC_FEC_CNT n) + 1))),
    ← isSet_congr (f := F.CAN_SWK_CTL_FEC_WAKE n) (fecCounted_ctl n (min 255 (getf s (F.CAN_SWK_SRC_FEC_CNT n) + 1)))]
  show execFecWake n bad s = _
  unfold execFecWake
  rw [if_neg (by rw [hon]; decide)]
  dsimp only
  unfold fecCounted
  cases bad
  · rfl
  · simp only [if_true]
    split <;> rfl

theorem canWuf_wakes (hstage : s.pwr.stage = .sleep) (hrails : railsGood s = true) (hon : swkOn s n = true)
    (hen : bit (rd s R.PWR_WAKE_EN).toNat 4 = true) (id : Fin 536870912) (ide : Bool) (dlc : Fin 16) (data : List Byte)
    (hwuf : isWuf s n id ide dlc data = true) :
    Does (.canWuf n id ide dlc data) s (fun t => awake s t 4 ∧ isSet t (F.CAN_SWK_SRC_WUF n) = true) := by
  have hen' (v : Nat) : bit (rd (fecCounted s n v) R.PWR_WAKE_EN).toNat 4 = true := by
    rw [rd_fecCounted n v (by simp only [R.CAN_SWK_SRC, R.PWR_WAKE_EN]; omega)]; exact hen
  exact ⟨_, (exec_canWuf n hon id ide dlc data).trans (congrArg _ (if_pos hwuf)),
    canWake_awake n (f := F.CAN_SWK_SRC_WUF n) rfl rfl (show 0 < 32 by decide) hstage hrails (hen' _)⟩

theorem canWuf_counts (hon : swkOn s n = true) (id : Fin 536870912) (ide : Bool) (dlc : Fin 16) (data : List Byte)
    (hwuf : isWuf s n id ide dlc data = false) : Does (.canWuf n id ide dlc data) s (fun t =>
      getf t (F.CAN_SWK_SRC_FEC_CNT n) = getf s (F.CAN_SWK_SRC_FEC_CNT n) - 1 ∧ t = { s with regs := t.regs }) := by
  have hexec := exec_canWuf n hon id ide dlc data
  rw [hwuf] at hexec
  exact ⟨_, hexec, getf_fecCounted n _ (lt_of_le_of_lt (Nat.sub_le _ _) (getf_fecCnt_lt s n)), fecCounted_frame n _⟩

theorem fecWake_wakes (hstage : s.pwr.stage = .sleep) (hrails : railsGood s = true) (hon : swkOn s n = true)
    (hen : bit (rd s R.PWR_WAKE_EN).toNat 4 = true) (hmax : getf s (F.CAN_SWK_CTL_FEC_MAX n) ≤ getf s (F.CAN_SWK_SRC_FEC_CNT n))
    (hwake : isSet s (F.CAN_SWK_CTL_FEC_WAKE n) = true) :
    Does (.fecWake n true) s (fun t => awake s t 4 ∧ isSet t (F.CAN_SWK_SRC_FEC n) = true) := by
  have hen' (v : Nat) : bit (rd (fecCounted s n v) R.PWR_WAKE_EN).toNat 4 = true := by
    rw [rd_fecCounted n v (by simp only [R.CAN_SWK_SRC, R.PWR_WAKE_EN]; omega)]; exact hen
  have hexec := exec_fecWake n hon true
  dsimp only at hexec
  rw [if_pos rfl, if_pos ⟨Nat.lt_succ_of_le hmax, hwake⟩] at hexec
  exact ⟨_, hexec,
    canWake_awake n (f := F.CAN_SWK_SRC_FEC n) rfl rfl (show 1 < 32 by decide) hstage hrails (hen' _)⟩

theorem fecWake_good (hon : swkOn s n = true) : Does (.fecWake n false) s (fun t =>
    getf t (F.CAN_SWK_SRC_FEC_CNT n) = getf s (F.CAN_SWK_SRC_FEC_CNT n) - 1 ∧ t = { s with regs := t.regs }) := by
  have hexec := exec_fecWake n hon false
  dsimp only at hexec
  rw [if_neg (by decide)] at hexec
  exact ⟨_, hexec, getf_fecCounted n _ (lt_of_le_of_lt (Nat.sub_le _ _) (getf_fecCnt_lt s n)), fecCounted_frame n _⟩

theorem fecWake_counts (hon : swkOn s n = true) (hwake : isSet s (F.CAN_SWK_CTL_FEC_WAKE n) = false) : Does (.fecWake n true) s (fun t =>
    getf t (F.CAN_SWK_SRC_FEC_CNT n) = min 255 (getf s (F.CAN_SWK_SRC_FEC_CNT n) + 1) ∧ t = { s with regs := t.regs }) := by
  have hcount : min 255 (getf s (F.CAN_SWK_SRC_FEC_CNT n) + 1) < 256 := Nat.lt_succ_of_le (Nat.min_le_left _ _)
  have hexec := exec_fecWake n hon true
  dsimp only at hexec
  rw [if_pos rfl, if_neg (by simp [hwake])] at hexec
  exact ⟨_, hexec, getf_fecCounted n _ hcount, fecCounted_frame n _⟩

end

end Sys2Proof.Machine

/-! ### A reset that acts at once: banks, registers and what is dropped (R109, R586, R631, Table 9-8) -/
namespace Sys2Proof.Machine

/-! #### One bank beside the others -/

/-- Bank `n` and what it holds are the same. -/
structure BankSame (n : Nat) (s t : State) : Prop where
  bank_eq : bank t n = bank s n
  mem_eq : ∀ a, a / 0x100000 = n → memByte t a = memByte s a

namespace BankSame
variable {n k : Nat} {s t u : State}

theorem refl (n : Nat) (s : State) : BankSame n s s := ⟨rfl, fun _ _ => rfl⟩

theorem trans (h : BankSame n s t) (g : BankSame n t u) : BankSame n s u :=
  ⟨g.bank_eq.trans h.bank_eq, fun a ha => (g.mem_eq a ha).trans (h.mem_eq a ha)⟩

theorem of_frame (hbanks : t.banks = s.banks) (hmem : t.mem = s.mem) (hfill : t.memFill = s.memFill) : BankSame n s t :=
  ⟨by unfold bank; rw [hbanks], fun a _ => memByte_congr hmem hfill a⟩

theorem setBank (h : n ≠ k) (s : State) (x : Bank) : BankSame n s (setBank s k x) := ⟨bank_setBank_ne h s x, fun _ _ => rfl⟩

theorem loseBank (h : n ≠ k) (s : State) : BankSame n s (loseBank s k) := by
  refine ⟨rfl, fun a ha => ?_⟩
  have hfill : memFillOf (Machine.loseBank s k) (a / 0x100000) = memFillOf s (a / 0x100000) :=
    congrArg (Option.getD · 1) (sget_sput_ne (ha ▸ h) _ _)
  have hmem : sget a (Machine.loseBank s k).mem = sget a s.mem := by
    refine (sget_filter (fun c => !(c / 0x100000 == k)) a s.mem).trans (if_pos ?_)
    rw [ha]
    simp [h]
  unfold memByte
  rw [hfill, hmem]

theorem memPut {a : Nat} (h : a / 0x100000 ≠ n) (s : State) (b : Byte) : BankSame n s (memPut s a b) :=
  ⟨rfl, fun x hx => by rw [memByte_memPut, if_neg (by rintro rfl; exact h hx)]⟩

theorem loseBytes (len : Nat) {a : Nat} (h : ∀ i < len, (a + i) / 0x100000 ≠ n) (s : State) : BankSame n s (loseBytes s a len) := by
  induction len generalizing a s with
  | zero => exact .refl n s
  | succ len ih =>
    refine (memPut (h 0 (Nat.succ_pos _)) s _).trans (ih (fun i hi => ?_) _)
    rw [Nat.add_assoc, Nat.add_comm 1]
    exact h (i + 1) (Nat.succ_lt_succ hi)

/-- What is done to each of a list of other banks leaves bank `n` alone. -/
theorem foldl {f : State → Nat → State} (hf : ∀ t k, n ≠ k → BankSame n t (f t k)) (l : List Nat) (hn : n ∉ l) (s : State) :
    BankSame n s (l.foldl f s) := by
  induction l generalizing s with
  | nil => exact .refl n s
  | cons k l ih => exact (hf s k (List.ne_of_not_mem_cons hn)).trans (ih (List.not_mem_of_not_mem_cons hn) _)

/-- What is done to each of a list of banks in turn is done once to bank `n` of the list. -/
theorem foldl_mem {f : State → Nat → State} (hf : ∀ t k, n ≠ k → BankSame n t (f t k)) (l : List Nat) (hl : l.Nodup) (hn : n ∈ l) (s : State) :
    ∃ u, BankSame n s u ∧ BankSame n (f u n) (l.foldl f s) := by
  induction l generalizing s with
  | nil => exact absurd hn List.not_mem_nil
  | cons k l ih =>
    obtain ⟨hk, hl⟩ := List.nodup_cons.1 hl
    rcases List.mem_cons.1 hn with rfl | hn
    · exact ⟨s, .refl n s, foldl hf l hk _⟩
    · obtain ⟨u, hsame, hrest⟩ := ih hl hn (f s k)
      exact ⟨u, (hf s k fun he => hk (he ▸ hn)).trans hsame, hrest⟩

end BankSame

section
variable {n k : Nat} (s : State)

/-- What a march leaves in a bank where it is cut off (R246). -/
def marchLost (s : State) (k : Nat) : State :=
  if (bank s k).march = 1 then loseBank s k else drawn (loseBytes (drawn s) (k * 0x100000 + (freeVal s).toNat % 4096 * 256) 256)

/-- The bank's registers once its march is over. -/
def marchGone (s : State) (k : Nat) : State :=
  let s := setf (setf (setBank s k { bank s k with march := 0, marchOp := none }) (F.BNK_STAT_MARCH k) 0) (F.BNK_STAT_ROW k) 0
  setf (setf s (F.BNK_MRES_DONE k) 0) F.BNK_PSTATE_MARCHING (clearBit (getf s F.BNK_PSTATE_MARCHING) k)

theorem marchAbort_eq (h : (bank s k).march ≠ 0) : marchAbort s k = if (bank s k).marchOp.isSome && (bank s k).march = 1
    then releaseHolder (marchGone (marchLost s k) k) (12 + k) 0xA else marchGone (marchLost s k) k := if_neg h

theorem marchLost_same (h : n ≠ k) : BankSame n s (marchLost s k) := by
  have hdrawn (u : State) : BankSame n u (drawn u) := .of_frame rfl rfl rfl
  unfold marchLost
  split
  · exact .loseBank h s
  · exact ((hdrawn s).trans (.loseBytes 256 (fun i hi => by omega) _)).trans (hdrawn _)

theorem marchGone_same (h : n ≠ k) : BankSame n s (marchGone s k) :=
  (BankSame.setBank h s { bank s k with march := 0, marchOp := none }).trans (.of_frame rfl rfl rfl)

theorem releaseHolder_bankSame (d e : Nat) : BankSame n s (releaseHolder s d e) := by
  have hmade := releaseHolder_made (Nat.or_self _) s d e (.refl ..)
  exact .of_frame (hmade.banks rfl) (hmade.mem rfl) (hmade.memFill rfl)

theorem marchAbort_same (h : n ≠ k) : BankSame n s (marchAbort s k) := by
  by_cases hmarch : (bank s k).march = 0
  · rw [show marchAbort s k = s from if_pos hmarch]
    exact .refl n s
  · have hgone : BankSame n s (marchGone (marchLost s k) k) := (marchLost_same s h).trans (marchGone_same _ h)
    rw [marchAbort_eq s hmarch]
    split
    · exact hgone.trans (releaseHolder_bankSame _ _ _)
    · exact hgone

theorem stepDone_same (h : n ≠ k) : BankSame n s (stepDone s k) := by
  have hset (u : State) (st : Nat) : BankSame n u (setBankSt u k st) :=
    (BankSame.setBank h u _).trans (.of_frame ((showBank_made (Nat.or_self _) _ k (.refl ..)).banks rfl)
      ((showBank_made (Nat.or_self _) _ k (.refl ..)).mem rfl) ((showBank_made (Nat.or_self _) _ k (.refl ..)).memFill rfl))
  unfold stepDone
  dsimp only
  have hlost (u : State) (c : Prop) [Decidable c] : BankSame n u (if c then loseBank u k else u) := by
    split
    · exact .loseBank h u
    · exact .refl n u
  have hput (u : State) (c : Prop) [Decidable c] (x : Bank) : BankSame n u (if c then setBank u k x else u) := by
    split
    · exact .setBank h u x
    · exact .refl n u
  exact (((BankSame.setBank h s _).trans (hset _ _)).trans (hlost _ _)).trans (hput _ _ _)

theorem bankCut_same (h : n ≠ k) : BankSame n s (bankCut s k) := by
  unfold bankCut
  dsimp only
  refine (marchAbort_same s h).trans (BankSame.trans ?_ (.setBank h _ _))
  split
  · exact stepDone_same _ h
  · exact .refl n _

theorem bankOff_same (h : n ≠ k) : BankSame n s (bankOff s k) := (BankSame.setBank h s _).trans (.loseBank h _)

/-- A bank that neither marches nor changes power keeps its state and its contents. -/
theorem bankCut_quiet (hmarch : (bank s n).march = 0) (hst : (bank s n).st ≠ 3) :
    bankCut s n = setBank s n { st := (bank s n).st, sensed := (bank s n).sensed } := by
  have habort : marchAbort s n = s := if_pos hmarch
  unfold bankCut
  rw [habort]
  dsimp only
  rw [if_neg hst]

theorem bankOff_st : (bank (bankOff s n) n).st = 0 := by
  show (bank (setBank s n {}) n).st = 0
  rw [bank_setBank]

end

/-- Banks that neither march nor change power come through a cut with their state and contents. -/
theorem bankCuts_quiet (s : State) (n : Nat) (hmarch : (bank s n).march = 0) (hst : (bank s n).st ≠ 3) :
    let t := (List.range 8).foldl bankCut s
    (bank t n).st = (bank s n).st ∧ ∀ a, a / 0x100000 = n → memByte t a = memByte s a := by
  dsimp only
  by_cases hn : n ∈ List.range 8
  · obtain ⟨u, hbefore, hafter⟩ := BankSame.foldl_mem (f := bankCut) (fun t k h => bankCut_same t h) _ List.nodup_range hn s
    rw [bankCut_quiet u (by rw [hbefore.bank_eq]; exact hmarch) (by rw [hbefore.bank_eq]; exact hst)] at hafter
    refine ⟨?_, fun a ha => (hafter.mem_eq a ha).trans (hbefore.mem_eq a ha)⟩
    rw [hafter.bank_eq, bank_setBank, hbefore.bank_eq]
  · have hsame := BankSame.foldl (f := bankCut) (fun t k h => bankCut_same t h) _ hn s
    exact ⟨by rw [hsame.bank_eq], hsame.mem_eq⟩

/-- Every bank that loses its power is OFF. -/
theorem banksOff_st (s : State) {n : Nat} (hn : n < 8) : (bank ((List.range 8).foldl bankOff s) n).st = 0 := by
  obtain ⟨u, -, hafter⟩ := BankSame.foldl_mem (f := bankOff) (fun t k h => bankOff_same t h) _ List.nodup_range (List.mem_range.2 hn) s
  rw [hafter.bank_eq, bankOff_st]

/-! #### What is dropped, and what returns to its reset word -/

section
variable (s : State) (p : RegClass → Bool)

theorem rd_showBank {r : Nat} (n : Nat) (hstat : r ≠ R.BNK_STAT n) (hpstate : r ≠ R.BNK_PSTATE) : rd (showBank s n) r = rd s r := by
  unfold showBank
  dsimp only
  rw [rd_setf_ne hpstate, rd_setf_ne hstat]

theorem rd_showBanks {r : Nat} (l : List Nat) (hstat : ∀ n, r ≠ R.BNK_STAT n) (hpstate : r ≠ R.BNK_PSTATE) :
    rd (l.foldl showBank s) r = rd s r := by
  induction l generalizing s with
  | nil => rfl
  | cons n l ih => exact (ih _).trans (rd_showBank s n (hstat n) hpstate)

/-- What a reset drops, before the registers show pins, marks and banks again. -/
def unitDropped : State :=
  let u := cutStores s
  let t := resetRegs (dropAll u) p
  let t := setf (setf t F.HIF_STAT_PERST (getf u F.HIF_STAT_PERST)) F.PWR_STAT_GRANT_IN (getf u F.PWR_STAT_GRANT_IN)
  setf (setf t F.CFG_STAT_BOOT (getf u F.CFG_STAT_BOOT)) F.CFG_STAT_VALID (getf u F.CFG_STAT_VALID)

theorem unitReset_eq : unitReset s p = (List.range 8).foldl showBank (unitDropped s p) := rfl

theorem showBanks_made (l : List Nat) : Made 1180591620717411303426 s (l.foldl showBank s) :=
  .foldl (fun t n h => showBank_made (Nat.or_self _) t n h) l (.refl ..)

theorem unitReset_keeps : (unitReset s p).banks = s.banks ∧ (unitReset s p).mem = s.mem ∧ (unitReset s p).memFill = s.memFill
    ∧ (unitReset s p).pwr = s.pwr := by
  have hmade := unitReset_made (Nat.or_self _) s p (.refl ..)
  exact ⟨hmade.banks rfl, hmade.mem rfl, hmade.memFill rfl, hmade.pwr rfl⟩

theorem unitReset_drops : (unitReset s p).ops = [] ∧ (unitReset s p).ctxs = [] ∧ (unitReset s p).ports = [] := by
  have hmade := showBanks_made (unitDropped s p) (List.range 8)
  rw [unitReset_eq]
  exact ⟨(hmade.ops rfl).trans rfl, (hmade.ctxs rfl).trans rfl, (hmade.ports rfl).trans rfl⟩

theorem unitReset_bankSame (n : Nat) : BankSame n s (unitReset s p) := by
  obtain ⟨hbanks, hmem, hfill, -⟩ := unitReset_keeps s p
  exact .of_frame hbanks hmem hfill

/-- The registers that show pins, the planes' marks and the banks' power through a reset. -/
def shownRegs : List Nat := [R.HIF_STAT, R.PWR_STAT, R.CFG_STAT, R.BNK_PSTATE]

theorem rd_unitReset {r : Nat} (hclass : p (regClass r) = true) (hshown : r ∉ shownRegs) (hstat : ∀ n, r ≠ R.BNK_STAT n) :
    rd (unitReset s p) r = resetWord r := by
  have hne : ∀ q ∈ shownRegs, r ≠ q := fun q hq he => hshown (he ▸ hq)
  rw [unitReset_eq, rd_showBanks _ _ hstat (hne _ (by decide))]
  unfold unitDropped
  dsimp only
  rw [rd_setf_ne (hne _ (by decide)), rd_setf_ne (hne _ (by decide)), rd_setf_ne (hne _ (by decide)), rd_setf_ne (hne _ (by decide)),
    rd_resetRegs, if_pos hclass]

end

end Sys2Proof.Machine

/-! ### The end of the entry to SLEEP (R102, Table 3-10), and O34 -/
namespace Sys2Proof.Machine

section
variable (s : State)

/-- Bank `n` as SLEEP begins: in RETAIN where `ret` names it, else OFF. -/
def bankToSleep (ret : Nat) (s : State) (n : Nat) : State :=
  if bit ret n && (bank s n).st ≠ 0 then setBank s n { bank s n with st := 2 } else bankOff s n

theorem bankToSleep_same {ret n k : Nat} (h : n ≠ k) : BankSame n s (bankToSleep ret s k) := by
  unfold bankToSleep
  split
  · exact .setBank h s _
  · exact bankOff_same s h

/-- A bank named to be retained that is not OFF goes to RETAIN with its contents, any other goes OFF. -/
theorem bankToSleep_does (ret n : Nat) : let t := bankToSleep ret s n
    if bit ret n ∧ (bank s n).st ≠ 0 then (bank t n).st = 2 ∧ ∀ a, memByte t a = memByte s a else (bank t n).st = 0 := by
  unfold bankToSleep
  by_cases hkept : bit ret n = true ∧ (bank s n).st ≠ 0
  · rw [if_pos hkept, if_pos (by simpa using hkept), bank_setBank]
    exact ⟨rfl, fun _ => rfl⟩
  · rw [if_neg hkept, if_neg (by simpa using hkept)]
    exact bankOff_st s

/-- The banks as SLEEP begins. -/
def banksAsleep (s : State) : State := (List.range 8).foldl (bankToSleep (getf s F.PWR_SLEEP_BANKS_RET)) ((List.range 8).foldl bankCut s)

theorem banksAsleep_does {n : Nat} (hn : n < 8) (hst : (bank s n).st ≠ 3) (hmarch : (bank s n).march = 0) : let t := banksAsleep s
    if bit (getf s F.PWR_SLEEP_BANKS_RET) n ∧ (bank s n).st ≠ 0 then (bank t n).st = 2 ∧ ∀ a, a / 0x100000 = n → memByte t a = memByte s a
      else (bank t n).st = 0 := by
  obtain ⟨hcutst, hcutmem⟩ := bankCuts_quiet s n hmarch hst
  obtain ⟨u, hbefore, hafter⟩ := BankSame.foldl_mem (f := bankToSleep (getf s F.PWR_SLEEP_BANKS_RET)) (fun t k h => bankToSleep_same t h) _
    List.nodup_range (List.mem_range.2 hn) ((List.range 8).foldl bankCut s)
  have hust : (bank u n).st = (bank s n).st := (congrArg Bank.st hbefore.bank_eq).trans hcutst
  have hdoes := bankToSleep_does u (getf s F.PWR_SLEEP_BANKS_RET) n
  dsimp only at hdoes ⊢
  unfold banksAsleep
  rw [hust] at hdoes
  rw [hafter.bank_eq]
  split
  · next hkept =>
    rw [if_pos hkept] at hdoes
    obtain ⟨hret, hmem⟩ := hdoes
    exact ⟨hret, fun a ha => (hafter.mem_eq a ha).trans ((hmem a).trans ((hbefore.mem_eq a ha).trans (hcutmem a ha)))⟩
  · next hkept =>
    rw [if_neg hkept] at hdoes
    exact hdoes

/-- The bank work at the end of the entry leaves the power staging as it is. -/
theorem banksAsleep_pwr : (banksAsleep s).pwr = s.pwr := by
  have hcut : Made 1254378597012249567262 s ((List.range 8).foldl bankCut s) :=
    .foldl (fun t n h => bankCut_made (Nat.or_self _) t n h) _ (.refl ..)
  have hsleep (ret : Nat) (t : State) (n : Nat) : (bankToSleep ret t n).pwr = t.pwr := by unfold bankToSleep; split <;> rfl
  have hfold (ret : Nat) (l : List Nat) (t : State) : (l.foldl (bankToSleep ret) t).pwr = t.pwr := by
    induction l generalizing t with
    | nil => rfl
    | cons n l ih => exact (ih _).trans (hsleep ret t n)
  exact (hfold _ _ _).trans (hcut.pwr rfl)

/-- The staging as SLEEP begins. -/
def sleepPwr (p : Pwr) : Pwr :=
  { stage := .sleep, headEn := p.headEn, cfgsrc := p.cfgsrc, railsOff := p.railsOff, byp := p.byp, wakeLate := p.wakeLate }

/-- The unit in SLEEP, its banks as `s` has them. -/
def asleep (s : State) : State := setPwr (ioOff (unitReset s classRstN)) (sleepPwr s.pwr)

theorem asleep_drops : (asleep s).ops = [] ∧ (asleep s).ctxs = [] := by
  obtain ⟨hops, hctxs, -⟩ := unitReset_drops s classRstN
  have hmade := ioOff_made (Nat.or_self _) (unitReset s classRstN) (.refl ..)
  unfold asleep
  rw [setPwr_ops, setPwr_ctxs]
  exact ⟨(hmade.ops rfl).trans hops, (hmade.ctxs rfl).trans hctxs⟩

theorem asleep_bankSame (n : Nat) : BankSame n s (asleep s) := by
  have hmade := ioOff_made (Nat.or_self _) (unitReset s classRstN) (.refl ..)
  have hsame := (unitReset_bankSame s classRstN n).trans (.of_frame (hmade.banks rfl) (hmade.mem rfl) (hmade.memFill rfl))
  exact hsame.trans (.of_frame (setPwr_banks ..) (setPwr_mem ..) (setPwr_memFill ..))

variable {s}

theorem exec_sleepEntryDone (h : s.pwr.stage = .sleepEntry) (hfenced : allFenced s = true) (hlate : s.pwr.wakeLate = false) :
    exec .sleepEntryDone s = .next (asleep (banksAsleep s)) := by
  have hawake : (asleep (banksAsleep s)).pwr.wakeLate = false := by
    unfold asleep
    rw [banksAsleep_pwr]
    exact hlate
  have hexec : exec .sleepEntryDone s
      = .next (if (asleep (banksAsleep s)).pwr.wakeLate then leaveSleep (asleep (banksAsleep s)) else asleep (banksAsleep s)) := by
    show execSleepEntryDone s = _
    unfold execSleepEntryDone asleep banksAsleep
    rw [if_neg (by simp [h, hfenced])]
    rfl
  rw [hexec, hawake]
  rfl

theorem sleepEntryDone_does (h : s.pwr.stage = .sleepEntry) (hfenced : allFenced s = true) (hlate : s.pwr.wakeLate = false) :
    Does .sleepEntryDone s (fun t => t.pwr.stage = .sleep ∧ t.ops = []
      ∧ t.ctxs = [] ∧ ∀ n < 8, (bank s n).st ≠ 3 → (bank s n).march = 0 →
        (if bit (getf s F.PWR_SLEEP_BANKS_RET) n ∧ (bank s n).st ≠ 0 then (bank t n).st = 2 ∧ ∀ a, a / 0x100000 = n → memByte t a = memByte s a
          else (bank t n).st = 0)) := by
  obtain ⟨hops, hctxs⟩ := asleep_drops (banksAsleep s)
  refine ⟨_, exec_sleepEntryDone h hfenced hlate, rfl, hops, hctxs, fun n hn hst hmarch => ?_⟩
  have hsame := asleep_bankSame (banksAsleep s) n
  have hdoes := banksAsleep_does s hn hst hmarch
  dsimp only at hdoes
  rw [hsame.bank_eq]
  split
  · next hkept =>
    rw [if_pos hkept] at hdoes
    exact ⟨hdoes.1, fun a ha => (hsame.mem_eq a ha).trans (hdoes.2 a ha)⟩
  · next hkept =>
    rw [if_neg hkept] at hdoes
    exact hdoes

end

/-- Settles O34: each command's own lemma; the wakes share `wakeFires_awake`, the banks `BankSame`. -/
theorem idleAndSleep : Obligations.IdleAndSleep := by
  unfold Obligations.IdleAndSleep
  intro s
  exact ⟨fun h => ⟨pwrCtlIdle_loaded_does h, pwrCtlIdle_empty_does h, pwrCtlIdle_handover_does h⟩,
    fun h hho => ⟨pwrCtlRun_loaded_does h hho, pwrCtlRun_empty_does h hho⟩,
    idleEntryDone_does, idleExitDone_does, sleepEntry_does, sleepEntryDone_does,
    fun h hrails => ⟨wakePin_does h hrails, wakeTimerExpiry_does h hrails, fun m => linWakePulse_does m h hrails,
      fun n hon hen => ⟨canWuf_wakes n h hrails hon hen, fecWake_wakes n h hrails hon hen⟩⟩,
    fun n hon => ⟨canWuf_counts n hon, fecWake_good n hon, fecWake_counts n hon⟩,
    wakeInPin_disabled, chainWakeDetect_disabled, wakeToneDone_does⟩

end Sys2Proof.Machine

/-! ### What the stages S1 to S4 leave alone

The stages that follow the readout change neither what the boot path has recorded, nor the fabric's image, nor the links. -/
namespace Sys2Proof.Machine

/-- The registers that the stages S1 to S4 leave as they are: the boot log, the configuration's state and the links' states. -/
def startKept : List Nat := [R.CFG_BOOT_LOG, R.CFG_STAT, R.HIF_STAT, R.CHN_PSTAT 0, R.CHN_PSTAT 1]

/-- A step of the start between `s` and `t`. -/
structure StartStep (s t : State) : Prop where
  rd_eq : ∀ r ∈ startKept, rd t r = rd s r
  image_eq : t.fab.image = s.fab.image
  rails_eq : t.pwr.railsOff = s.pwr.railsOff
  dom_eq : dom t 0 = dom s 0
  fenced_eq : fenced t 0 = fenced s 0

/-- The parts of the state that a `StartStep` speaks of, as a mask of `Made`: pwr, doms, fab, and the blocks RST, CFG, HIF and CHN. -/
def startMask : Nat := 2 ^ 12 + 2 ^ 13 + 2 ^ 21 + 2 ^ 66 + 2 ^ 67 + 2 ^ 71 + 2 ^ 74

theorem testBit_of_land_zero {m k i : Nat} (h : m &&& k = 0) (hi : k.testBit i = true) : m.testBit i = false := by
  have hbit : (m &&& k).testBit i = false := by rw [h, Nat.zero_testBit]
  rw [Nat.testBit_and, hi, Bool.and_true] at hbit
  exact hbit

namespace StartStep
variable {s0 s t : State}

theorem refl (s : State) : StartStep s s := ⟨fun _ _ => rfl, rfl, rfl, rfl, rfl⟩

theorem trans (h : StartStep s0 s) (k : StartStep s t) : StartStep s0 t :=
  ⟨fun r hr => (k.rd_eq r hr).trans (h.rd_eq r hr), k.image_eq.trans h.image_eq, k.rails_eq.trans h.rails_eq, k.dom_eq.trans h.dom_eq,
    k.fenced_eq.trans h.fenced_eq⟩

theorem ite {c : Prop} [Decidable c] (h : StartStep s0 s) (k : StartStep s0 t) : StartStep s0 (if c then s else t) := by split <;> assumption

/-- What is done on a condition. -/
theorem on {c : Prop} [Decidable c] {g : State → State} (hg : ∀ {u}, StartStep s0 u → StartStep s0 (g u)) (h : StartStep s0 s) :
    StartStep s0 (if c then g s else s) := .ite (hg h) h

theorem setf {f : Fld} {v : Nat} (hf : f.reg ∉ R.RST_DOM_FENCED :: startKept) (h : StartStep s0 s) : StartStep s0 (setf s f v) :=
  h.trans ⟨fun _ hr => rd_setf_ne (by rintro rfl; exact hf (List.mem_cons_of_mem _ hr)) s v, rfl, rfl, rfl,
    fenced_congr (rd_setf_ne (fun he => hf (he ▸ List.mem_cons_self)) s v) 0⟩

theorem setPwr {p : Pwr} (hp : p.railsOff = s.pwr.railsOff) (h : StartStep s0 s) : StartStep s0 (setPwr s p) :=
  h.trans ⟨fun _ _ => rfl, rfl, hp, rfl, rfl⟩

theorem setFab {x : Fab} (hx : x.image = s.fab.image) (h : StartStep s0 s) : StartStep s0 (setFab s x) :=
  h.trans ⟨fun _ _ => rfl, hx, rfl, rfl, rfl⟩

/-- Work on the fence of a domain other than the host link's. -/
theorem fence {d : Nat} (k : FenceStep d s t) (hd : d ≠ 0) (hfab : t.fab = s.fab) (hpwr : t.pwr = s.pwr) (h : StartStep s0 s) :
    StartStep s0 t :=
  h.trans ⟨fun r hr => k.rd_eq r (by revert r; decide), by rw [hfab], by rw [hpwr], k.dom_eq 0 hd.symm, k.fenced_eq 0 hd.symm⟩

/-- An operation whose footprint has nothing of the mask. -/
theorem made {M : Nat} (k : Made M s t) (hM : M &&& startMask = 0) (h : StartStep s0 s) : StartStep s0 t := by
  have hblk : ∀ r ∈ startKept, startMask.testBit (64 + blockOf r) = true := by decide
  exact h.trans ⟨fun r hr => k.blk r (testBit_of_land_zero hM (hblk r hr)), by rw [k.fab (testBit_of_land_zero hM (by decide))],
    by rw [k.pwr (testBit_of_land_zero hM (by decide))], dom_congr (k.doms (testBit_of_land_zero hM (by decide))) 0,
    fenced_congr (k.blk _ (testBit_of_land_zero hM (by decide))) 0⟩

end StartStep

/-! #### Each stage -/

section
variable {s0 s : State} (h : StartStep s0 s)
include h

theorem stageEnds_start (n : Nat) : StartStep s0 (stageEnds s n) := by
  unfold stageEnds
  exact .ite (.setPwr (by rfl) h) h

theorem domainReady_start {d : Nat} (hd : d < 32) (h0 : d ≠ 0) : StartStep s0 (domainReady s d) := by
  have hmade := domainReady_made (Nat.or_self _) s d (.refl ..)
  exact .fence (domainReady_step s hd) h0 (hmade.fab rfl) (hmade.pwr rfl) h

theorem releaseDom_start {d : Nat} (hd : d < 32) (h0 : d ≠ 0) : StartStep s0 (releaseDom s d) :=
  .fence (releaseDom_step s hd) h0 rfl rfl h

theorem release1_start {d : Nat} (hd : d < 32) (h0 : d ≠ 0) : StartStep s0 (release1 s d) :=
  .ite h (.made (releaseHook_made (Nat.or_self _) _ d (.refl ..)) rfl (releaseDom_start h hd h0))

theorem closeFence_start {d : Nat} (hd : d < 32) (h0 : d ≠ 0) (k drain : Nat) : StartStep s0 (closeFence s d k drain) :=
  .fence (closeFence_step s hd k drain) h0 ((closeFence_made (Nat.or_self _) s d k drain (.refl ..)).fab rfl) (closeFence_pwr s d k drain) h

theorem beginIdle_start : StartStep s0 (beginIdle s) := by
  unfold beginIdle
  dsimp only
  refine .ite (.setf (by decide) (.setPwr (by rfl) (.setPwr (by rfl) h))) (closeFence_start ?_ (by decide) (by decide) 7 _)
  exact .setf (by decide) (.setPwr (by rfl) (.setPwr (by rfl) h))

theorem finishStart_start : StartStep s0 (finishStart s) := by
  unfold finishStart
  dsimp only
  exact .on beginIdle_start (.setf (by decide) (.setf (by decide) (.setf (by decide) (stageEnds_start (.setPwr (by rfl) h) 4))))

theorem trimBegin_start : StartStep s0 (trimBegin s) := .setFab (by rfl) (.setf (by decide) h)

/-- The start-up sequence of a staged start ends in RUN. -/
theorem seqDone_start (hfor : s.fab.seqFor = 0) : StartStep s0 (seqDone s) := by
  have hdone : seqDone s = finishStart (trimBegin (domainReady
      (setf (setf (setFab s { s.fab with seqPh := 0 }) F.CFG_SEQ_STAT_DONE 1) F.FAB_STAT_STATE 2) 11)) := by
    unfold seqDone
    dsimp only [setf_fab, setFab_fab]
    rw [hfor]
    rfl
  rw [hdone]
  exact finishStart_start (trimBegin_start (domainReady_start (.setf (by decide) (.setf (by decide) (.setFab (by rfl) h))) (by decide) (by decide)))

omit h in
theorem seqGo_start (fuel : Nat) (h : StartStep s0 s) (hfor : s.fab.seqFor = 0) : StartStep s0 (seqGo s fuel) := by
  induction fuel generalizing s with
  | zero => exact seqDone_start h hfor
  | succ fuel ih =>
    have hindex (v : Nat) : StartStep s0 (setf s F.CFG_SEQ_STAT_INDEX v) := .setf (by decide) h
    unfold seqGo
    dsimp only
    split_ifs
    · exact seqDone_start (hindex _) hfor
    · exact seqDone_start h hfor
    · exact ih (hindex _) hfor
    · exact .setFab (by rfl) h
    · exact .setFab (by rfl) h

theorem seqBegin_start : StartStep s0 (seqBegin s 0) := by
  refine seqGo_start 8 (.setf (by decide) (.setFab (by rfl) ?_)) rfl
  exact .setf (by decide) (.setf (by decide) (.setf (by decide) h))

theorem startS4_start : StartStep s0 (startS4 s) := by
  unfold startS4
  dsimp only
  have hbegin : StartStep s0 (setf (setPwr s { s.pwr with stage := .s4 }) F.PWR_STAT_STAGE 4) := .setf (by decide) (.setPwr (by rfl) h)
  have hfabric (u : State) (hu : StartStep s0 u) : StartStep s0 (release1 u 11) := release1_start hu (by decide) (by decide)
  refine .ite (finishStart_start (.setf (by decide) hbegin)) (.ite (seqBegin_start (.setf (by decide) (.setPwr (by rfl) (hfabric _ ?_)))) (hfabric _ ?_))
  · exact .setf (by decide) (.setPwr (by rfl) hbegin)
  · exact .setf (by decide) (.setPwr (by rfl) hbegin)

theorem endS3_start : StartStep s0 (endS3 s) := by
  unfold endS3
  exact .ite (finishStart_start (stageEnds_start h 3)) (startS4_start (stageEnds_start h 3))

theorem startS3_start : StartStep s0 (startS3 s) := by
  unfold startS3
  dsimp only
  exact .on endS3_start (.setPwr (by rfl) (.setf (by decide) (.setPwr (by rfl) h)))

theorem marchOrS3_start : StartStep s0 (marchOrS3 s) := by
  unfold marchOrS3
  split
  · exact startS3_start h
  · exact .made (startMarch_made (Nat.or_self _) s _ _ _ (.refl ..)) rfl h

theorem endS2_start : StartStep s0 (endS2 s) := marchOrS3_start (stageEnds_start h 2)

omit h in
/-- The domains of a list of banks come into service. -/
theorem banksReady_start (l : List Nat) (hl : ∀ n ∈ l, n < 8) (h : StartStep s0 s) :
    StartStep s0 (l.foldl (fun t n => domainReady (releaseDom t (12 + n)) (12 + n)) s) := by
  induction l generalizing s with
  | nil => exact h
  | cons n l ih =>
    have hn : n < 8 := hl n List.mem_cons_self
    exact ih (fun k hk => hl k (List.mem_cons_of_mem n hk))
      (domainReady_start (releaseDom_start h (d := 12 + n) (by omega) (by omega)) (by omega) (by omega))

theorem startS2_start : StartStep s0 (startS2 s) := by
  unfold startS2
  dsimp only
  exact .on endS2_start (.setPwr (by rfl) (banksReady_start _ (fun n hn => List.mem_range.1 hn) (.setf (by decide) (.setPwr (by rfl) h))))

theorem endS1_start : StartStep s0 (endS1 s) := startS2_start (stageEnds_start h 1)

end

end Sys2Proof.Machine

/-! ### S0, the grant and the management group (R87, R89, R90, R93 to R96) -/
namespace Sys2Proof.Machine

section
variable {s : State}

/-! #### S1 begins -/

theorem enterS1_pwr (s : State) : (enterS1 s).pwr.headEn = s.pwr.headEn ∧ (enterS1 s).pwr.cfgsrc = s.pwr.cfgsrc := by
  unfold enterS1
  dsimp only [setf_pwr, setPwr_pwr]
  exact ⟨rfl, rfl⟩

theorem enterS1_shows (s : State) : getf (enterS1 s) F.PWR_STAT_STAGE = 1 := by
  unfold enterS1
  dsimp only
  rw [getf_setf_apart (by decide), getf_setf_apart (by decide), getf_setf_apart (by decide), getf_setf_fits _ (by decide) (by decide)]

/-- The grant as read and as given by the unit itself is shown beside the stage. -/
theorem enterS1_isSet (s : State) {g : Fld} (hg : g ∈ [F.PWR_STAT_GRANT_IN, F.PWR_STAT_SELF_GRANT]) : isSet (enterS1 s) g = isSet s g := by
  have hapart : ∀ f ∈ [F.PWR_STAT_RECOVERY, F.PWR_STAT_WAVE, F.PWR_STAT_GROUP, F.PWR_STAT_STAGE, F.PWR_GRANT_WAIT_US],
      g.reg ≠ f.reg ∨ f.lo + f.width ≤ g.lo ∨ g.lo + g.width ≤ f.lo := by
    revert g; decide
  unfold enterS1
  dsimp only
  rw [isSet_setf_apart (hapart _ (by decide)), isSet_setf_apart (hapart _ (by decide)), isSet_setf_apart (hapart _ (by decide)),
    isSet_setf_apart (hapart _ (by decide)), isSet_congr (setPwr_rd ..), isSet_setf_apart (hapart _ (by decide))]

/-! #### S0 and the grant -/

theorem s0Complete_test (head : Bool) (src : Fin 4) (h : s.pwr.stage = .s0) (ht : s.pwr.test = false) :
    Does (.s0Complete head src true) s (fun t => t = { s with pwr := { s.pwr with test := true } }) :=
  ⟨_, if_neg (by simp [h, ht]), rfl⟩

/-- The samples of HEAD_EN and CFGSRC at the end of S0. -/
def s0Sampled (s : State) (head : Bool) (src : Nat) : State :=
  setf (setf (setPwr s { s.pwr with headEn := head, cfgsrc := src, stage := .grantWait, waitFrom := s.clk }) F.PWR_STAT_SELF_GRANT (b2n head))
    F.CFG_STAT_CFGSRC src

/-- A restart's UNIT_RESET entry is logged as S0 ends. -/
def s0Logged (s : State) : State :=
  match s.pwr.logDue with
  | some src => logEvent (setPwr s { s.pwr with logDue := none }) 31 6 src 0 0
  | none => s

theorem s0Logged_pwr (s : State) : (s0Logged s).pwr = { s.pwr with logDue := none } := by
  unfold s0Logged
  split
  · rfl
  · next h => rw [← h]

theorem rd_s0Logged (s : State) {r : Nat} (h : r ≠ R.RST_LOG_HEAD) : rd (s0Logged s) r = rd s r := by
  unfold s0Logged
  split
  · exact (rd_logEvent h ..).trans (setPwr_rd ..)
  · rfl

theorem exec_s0Complete (head : Bool) (src : Fin 4) (h : s.pwr.stage = .s0) (ht : s.pwr.test = false) :
    exec (.s0Complete head src false) s = .next (let t := s0Logged (s0Sampled s head src); if head then enterS1 t else t) :=
  (if_neg (by simp [h, ht])).trans (if_neg (by decide))

theorem s0Complete_does (head : Bool) (src : Fin 4) (h : s.pwr.stage = .s0) (ht : s.pwr.test = false) :
    Does (.s0Complete head src false) s (fun t => t.pwr.headEn = head ∧ t.pwr.cfgsrc = src.val ∧ getf t F.CFG_STAT_CFGSRC = src.val
      ∧ isSet t F.PWR_STAT_SELF_GRANT = head ∧ t.pwr.stage = if head then .s1 else .grantWait) := by
  let u := s0Logged (s0Sampled s head src)
  have hpwr : u.pwr = { (s0Sampled s head src).pwr with logDue := none } := s0Logged_pwr _
  have hsrc : getf u F.CFG_STAT_CFGSRC = src.val :=
    (getf_congr (rd_s0Logged _ (by decide))).trans (getf_setf_fits _ (by decide) src.isLt)
  have hgrant : isSet u F.PWR_STAT_SELF_GRANT = head :=
    (isSet_congr (rd_s0Logged _ (by decide))).trans ((isSet_setf_apart (by decide)).trans (isSet_setf_b2n _ _ head rfl (by decide)))
  cases head
  · refine ⟨u, exec_s0Complete false src h ht, ?_, ?_, hsrc, hgrant, ?_⟩
    · rw [hpwr]; rfl
    · rw [hpwr]; rfl
    · rw [hpwr]; rfl
  · obtain ⟨hhead, hcfg⟩ := enterS1_pwr u
    refine ⟨enterS1 u, exec_s0Complete true src h ht, ?_, ?_, ?_, ?_, enterS1_stage u⟩
    · rw [hhead, hpwr]; rfl
    · rw [hcfg, hpwr]; rfl
    · exact (getf_congr (rd_enterS1 u (by decide) (by decide))).trans hsrc
    · exact (enterS1_isSet u (by decide)).trans hgrant

theorem pwrgrantInHigh_does (h : s.pwr.stage = .grantWait) :
    Does .pwrgrantInHigh s (fun t => isSet t F.PWR_STAT_GRANT_IN = true ∧ t.pwr.stage = .s1 ∧ getf t F.PWR_STAT_STAGE = 1) := by
  have hexec : exec .pwrgrantInHigh s = .next (enterS1 (setf s F.PWR_STAT_GRANT_IN 1)) := by
    show execPwrgrantInHigh s = _
    unfold execPwrgrantInHigh
    dsimp only
    rw [if_pos ((congrArg Pwr.stage (setf_pwr ..)).trans h)]
  refine ⟨_, hexec, ?_, enterS1_stage _, enterS1_shows _⟩
  rw [enterS1_isSet _ (by decide), isSet_setf_one _ rfl (by decide)]

theorem grantTimeout_does (h : s.pwr.stage = .grantWait) (hto : isSet s F.PWR_GRANT_CTL_TIMEOUT = true) :
    Does .grantTimeout s (fun t => isSet t F.PWR_EVT_GRANT_TO = true ∧ t.pwr.stage = .s1) :=
  ⟨raise (enterS1 s) F.PWR_EVT_GRANT_TO, if_pos ⟨h, hto⟩, isSet_setf_one _ rfl (by decide),
    (congrArg Pwr.stage (raise_pwr ..)).trans (enterS1_stage s)⟩

/-! #### The management group -/

theorem rd_reopen_inrst (s : State) (d : Nat) : rd (reopen s d) R.RST_DOM_INRST = rd s R.RST_DOM_INRST := by
  unfold reopen
  dsimp only
  rw [setDom_rd, rd_logEvent (by decide)]
  split
  · rw [rd_setf_ne (by decide), rd_setDomBit_ne (by decide), rd_setDomBit_ne (by decide)]
  · rw [rd_setDomBit_ne (by decide), rd_setDomBit_ne (by decide)]

theorem domainReady_inService (s : State) {d : Nat} (hd : d < 32) : inReset (domainReady s d) d = false := by
  have hbit (u : State) : bit (rd (setDomBit u R.RST_DOM_INRST d false) R.RST_DOM_INRST).toNat d = false := by
    rw [bit_setDomBit _ _ hd, if_pos ⟨rfl, rfl⟩]
  have htry (u : State) (hready : inReset u d = false) : inReset (tryReopen u d) d = false := by
    unfold tryReopen
    dsimp only
    split
    · unfold inReset at hready ⊢
      rw [rd_reopen_inrst, dom_reopen]
      exact hready
    · exact hready
  unfold domainReady
  dsimp only
  split
  · refine htry _ ?_
    unfold inReset
    rw [setDom_rd, hbit, dom_setDom]
    rfl
  · unfold inReset
    rw [setDom_rd, hbit, dom_setDom]
    rfl

/-- D21 is in service (R90). -/
def mgmtReady (s : State) : State :=
  let t := domainReady (releaseDom s 21) 21
  setf t F.FAB_ISL_LOCK_LOCK (setBit (getf t F.FAB_ISL_LOCK_LOCK) 4)

theorem mgmtReady_start (s : State) : StartStep s (mgmtReady s) :=
  .setf (by decide) (domainReady_start (releaseDom_start (.refl s) (by decide) (by decide)) (by decide) (by decide))

theorem mgmtReady_pwr (s : State) : (mgmtReady s).pwr = s.pwr := (domainReady_made (Nat.or_self _) (releaseDom s 21) 21 (.refl ..)).pwr rfl

theorem mgmtReady_inService (s : State) : inReset (mgmtReady s) 21 = false := by
  have hready := domainReady_inService (releaseDom s 21) (d := 21) (by decide)
  unfold inReset at hready ⊢
  rw [mgmtReady, rd_setf_ne (by decide)]
  exact hready

theorem exec_mgmtGroupPowered (h : s.pwr.stage = .s1) (hq : s.pwr.gq = []) : exec .mgmtGroupPowered s = .next (
    if s.pwr.cfgsrc = 1 ∨ s.pwr.cfgsrc = 3 then setPwr (mgmtReady s) { s.pwr with gq := [1, 3, 4] } else beginReadout (mgmtReady s)) := by
  rw [← mgmtReady_pwr s]
  show execMgmtGroupPowered s = _
  unfold execMgmtGroupPowered mgmtReady
  rw [if_neg (by simp [h, hq])]
  dsimp only
  split <;> rfl

theorem mgmtGroupPowered_groups (h : s.pwr.stage = .s1) (hq : s.pwr.gq = []) (hsrc : s.pwr.cfgsrc = 1 ∨ s.pwr.cfgsrc = 3) :
    Does .mgmtGroupPowered s (fun t => inReset t 21 = false ∧ t.pwr.gq = [1, 3, 4] ∧ t.pwr.stage = .s1) :=
  ⟨setPwr (mgmtReady s) { s.pwr with gq := [1, 3, 4] }, (exec_mgmtGroupPowered h hq).trans (congrArg _ (if_pos hsrc)),
    mgmtReady_inService s, rfl, h⟩

/-- The readout begins: nothing of the boot path is recorded yet. -/
def readoutShown (s : State) : State := setf (wr (setPwr s { s.pwr with stage := .readout }) R.CFG_BOOT_LOG 0#32) F.CFG_STAT_OP 3

/-- The readout has begun, and the fabric is clear. -/
def readoutBegun (s : State) : State := clearFabric (readoutShown s)

theorem clearFabric_image (s : State) : (clearFabric s).fab.image = [] := rfl

theorem rd_clearFabric (s : State) {r : Nat} (hstat : r ≠ R.FAB_STAT) (hcfg : r ≠ R.CFG_STAT) (hpace : r ≠ R.FAB_PACE_FACTOR) :
    rd (clearFabric s) r = rd s r := by
  unfold clearFabric
  dsimp only
  rw [rd_setf_ne hpace, rd_setf_ne hcfg, rd_setf_ne hstat, setFab_rd]

/-- Of the configuration's state, only SRC_PLANE is cleared with the fabric. -/
theorem getf_clearFabric (s : State) {g : Fld} (hg : g.reg = R.CFG_STAT) (hbits : g.lo + g.width ≤ 1 ∨ 2 ≤ g.lo) :
    getf (clearFabric s) g = getf s g := by
  unfold clearFabric
  dsimp only
  rw [getf_setf_apart (.inl (by rw [hg]; decide)), getf_setf_apart (.inr (by change 1 + 1 ≤ g.lo ∨ g.lo + g.width ≤ 1; omega)),
    getf_setf_apart (.inl (by rw [hg]; decide)), getf_congr (setFab_rd ..)]

/-- A plane with its VALID mark that heads the path is read. -/
theorem tryBoot_plane (s : State) {p : Nat} (l : List Nat) (hp : p < 2) (hvalid : planeValid s p = true) :
    tryBoot s (p :: l) = setf (setBoot s { path := p :: l, run := true }) F.CFG_STAT_OP_PLANE p := by
  unfold tryBoot
  rw [if_pos hp, if_pos hvalid]

theorem readoutBegun_field (s : State) {g : Fld} (hg : g.reg = R.CFG_STAT) (hbits : 2 ≤ g.lo)
    (hop : 10 ≤ g.lo ∨ g.lo + g.width ≤ 8) : getf (readoutBegun s) g = getf s g := by
  unfold readoutBegun readoutShown
  rw [getf_clearFabric _ hg (.inr hbits), getf_setf_apart (.inr (by change 8 + 2 ≤ g.lo ∨ g.lo + g.width ≤ 8; omega)),
    getf_wr_ne (by rw [hg]; decide), getf_congr (setPwr_rd ..)]

theorem readoutBegun_op (s : State) : getf (readoutBegun s) F.CFG_STAT_OP = 3 := by
  unfold readoutBegun readoutShown
  rw [getf_clearFabric _ rfl (by decide), getf_setf_fits _ (by decide) (by decide)]

theorem beginReadout_eq (s : State) : beginReadout s
    = tryBoot (readoutBegun s) (bootPath (readoutShown s)) := rfl

theorem bootPath_flash {s : State} (h : s.pwr.cfgsrc = 0) :
    bootPath s = [getf s F.CFG_STAT_BOOT, 1 - getf s F.CFG_STAT_BOOT, 2, 3] := by
  unfold bootPath
  dsimp only
  rw [h]
  rfl

theorem readoutBegun_keeps (s : State) : (readoutBegun s).doms = s.doms ∧ (readoutBegun s).pwr.stage = .readout
    ∧ (readoutBegun s).fab.image = [] := by
  unfold readoutBegun readoutShown clearFabric
  dsimp only [setf_doms, setFab_doms, wr_doms, setPwr_doms, setf_pwr, setFab_pwr, wr_pwr, setPwr_pwr, setf_fab, setFab_fab]
  exact ⟨rfl, rfl, rfl⟩

theorem rd_readoutBegun_inrst (s : State) : rd (readoutBegun s) R.RST_DOM_INRST = rd s R.RST_DOM_INRST := by
  unfold readoutBegun readoutShown
  rw [rd_clearFabric _ (by decide) (by decide) (by decide), rd_setf_ne (by decide), rd_wr_ne (by decide), setPwr_rd]

theorem inReset_congr {s t : State} (hrd : rd t R.RST_DOM_INRST = rd s R.RST_DOM_INRST) (hdoms : t.doms = s.doms) (d : Nat) :
    inReset t d = inReset s d := by
  unfold inReset
  rw [hrd, dom_congr hdoms]

/-- From the flash planes, the readout begins with the plane of the BOOT mark where that is VALID (R148). -/
theorem beginReadout_plane (hsrc : s.pwr.cfgsrc = 0) (hvalid : planeValid s (getf s F.CFG_STAT_BOOT) = true) :
    let p := getf s F.CFG_STAT_BOOT
    beginReadout s = setf (setBoot (readoutBegun s) { path := [p, 1 - p, 2, 3], run := true }) F.CFG_STAT_OP_PLANE p := by
  have hpath : (readoutShown s).pwr.cfgsrc = 0 := hsrc
  have hboot : getf (readoutShown s) F.CFG_STAT_BOOT = getf s F.CFG_STAT_BOOT := by
    unfold readoutShown
    rw [getf_setf_apart (by decide), getf_wr_ne (by decide), getf_congr (setPwr_rd ..)]
  have hstill : planeValid (readoutBegun s) (getf s F.CFG_STAT_BOOT) = true := by
    unfold planeValid at hvalid ⊢
    rw [readoutBegun_field s rfl (by decide) (by decide)]
    exact hvalid
  dsimp only
  rw [beginReadout_eq, bootPath_flash hpath, hboot]
  exact tryBoot_plane _ _ (getf_lt s F.CFG_STAT_BOOT) hstill

theorem mgmtGroupPowered_reads (h : s.pwr.stage = .s1) (hq : s.pwr.gq = []) (hsrc : s.pwr.cfgsrc = 0)
    (hvalid : planeValid s (getf s F.CFG_STAT_BOOT) = true) : Does .mgmtGroupPowered s (fun t => inReset t 21 = false
      ∧ t.pwr.stage = .readout ∧ getf t F.CFG_STAT_OP = 3 ∧ getf t F.CFG_STAT_OP_PLANE = getf s F.CFG_STAT_BOOT ∧ t.fab.image = []) := by
  have hstat : rd (mgmtReady s) R.CFG_STAT = rd s R.CFG_STAT := (mgmtReady_start s).rd_eq _ (by decide)
  have hboot : getf (mgmtReady s) F.CFG_STAT_BOOT = getf s F.CFG_STAT_BOOT := getf_congr hstat
  have hvalid' : planeValid (mgmtReady s) (getf (mgmtReady s) F.CFG_STAT_BOOT) = true := by
    rw [hboot]
    unfold planeValid at hvalid ⊢
    rw [getf_congr (f := F.CFG_STAT_VALID) hstat]
    exact hvalid
  have hread := beginReadout_plane (s := mgmtReady s) ((congrArg Pwr.cfgsrc (mgmtReady_pwr s)).trans hsrc) hvalid'
  dsimp only at hread
  rw [hboot] at hread
  have hexec := exec_mgmtGroupPowered h hq
  rw [if_neg (by simp [hsrc]), hread] at hexec
  obtain ⟨hdoms, hstage, himg⟩ := readoutBegun_keeps (mgmtReady s)
  refine ⟨_, hexec, ?_, ?_, ?_, getf_setf_fits _ (by decide) (getf_lt s F.CFG_STAT_BOOT), ?_⟩
  · refine (inReset_congr ?_ ?_ 21).trans (mgmtReady_inService s)
    · rw [rd_setf_ne (by decide), setBoot_rd, rd_readoutBegun_inrst]
    · rw [setf_doms, setBoot_doms, hdoms]
  · rw [setf_pwr, setBoot_pwr, hstage]
  · rw [getf_setf_apart (by decide), getf_congr (setBoot_rd ..), readoutBegun_op]
  · rw [setf_fab, setBoot_fab, himg]

end

end Sys2Proof.Machine

/-! ### The boot path (R146 to R151) -/
namespace Sys2Proof.Machine

/-! #### What a failed attempt leaves in CFG_BOOT_LOG -/

/-- The six bits of CFG_BOOT_LOG that the failed attempt `n` fills. -/
def bootSlot (n : Nat) : Fld := ⟨R.CFG_BOOT_LOG, 8 + 6 * n, 6⟩

/-- Between `s` and `t` attempts were only added to CFG_BOOT_LOG: its count has not gone down, what it holds of the counted attempts stays. -/
def BootGrows (s t : State) : Prop := getf s F.CFG_BOOT_LOG_FAILS ≤ 4 →
  getf s F.CFG_BOOT_LOG_FAILS ≤ getf t F.CFG_BOOT_LOG_FAILS ∧ getf t F.CFG_BOOT_LOG_FAILS ≤ 4
    ∧ ∀ n < getf s F.CFG_BOOT_LOG_FAILS, getf t (bootSlot n) = getf s (bootSlot n)

namespace BootGrows
variable {s0 s t : State}

theorem refl (s : State) : BootGrows s s := fun h => ⟨le_rfl, h, fun _ _ => rfl⟩

theorem trans (h : BootGrows s0 s) (k : BootGrows s t) : BootGrows s0 t := fun h0 => by
  obtain ⟨hcount, hle, hslots⟩ := h h0
  obtain ⟨hcount', hle', hslots'⟩ := k hle
  exact ⟨hcount.trans hcount', hle', fun n hn => (hslots' n (lt_of_lt_of_le hn hcount)).trans (hslots n hn)⟩

/-- Nothing but FINAL has changed. -/
theorem of_fields (h : ∀ g : Fld, g.reg = R.CFG_BOOT_LOG → 4 ≤ g.lo → getf t g = getf s g) : BootGrows s t := fun h0 => by
  have hfails : getf t F.CFG_BOOT_LOG_FAILS = getf s F.CFG_BOOT_LOG_FAILS := h _ rfl (by decide)
  exact ⟨hfails.ge, hfails ▸ h0, fun n _ => h _ rfl (show 4 ≤ 8 + 6 * n by omega)⟩

theorem of_rd (h : rd t R.CFG_BOOT_LOG = rd s R.CFG_BOOT_LOG) : BootGrows s t := .of_fields fun _ hg _ => getf_congr (by rw [hg]; exact h)

end BootGrows

section
variable (s : State) (src reason : Nat)

/-- The attempt entered in CFG_BOOT_LOG. -/
def bootLogged : State :=
  let n := getf s F.CFG_BOOT_LOG_FAILS
  setf (if n < 4 then setf s (bootSlot n) (src + 8 * reason) else s) F.CFG_BOOT_LOG_FAILS (min 4 (n + 1))

theorem recordFail_eq : recordFail s src reason = if src < 2 ∧ reason ≠ 5
    then satAdd (bootLogged s src reason) (F.CFG_PLANE_BOOT_FAILS src) 1 else bootLogged s src reason := rfl

theorem rd_recordFail_log : rd (recordFail s src reason) R.CFG_BOOT_LOG = rd (bootLogged s src reason) R.CFG_BOOT_LOG := by
  rw [recordFail_eq]
  split
  · exact rd_setf_ne (show R.CFG_BOOT_LOG ≠ R.CFG_PLANE src by simp only [R.CFG_BOOT_LOG, R.CFG_PLANE]; omega) _ _
  · rfl

theorem recordFail_fails : getf (recordFail s src reason) F.CFG_BOOT_LOG_FAILS = min 4 (getf s F.CFG_BOOT_LOG_FAILS + 1) := by
  rw [getf_congr (f := F.CFG_BOOT_LOG_FAILS) (rd_recordFail_log s src reason)]
  exact getf_setf_fits _ (by decide) (lt_of_le_of_lt (Nat.min_le_left _ _) (by decide))

/-- The slots are beside the count, and beside each other. -/
theorem recordFail_slot_ne {k : Nat} (hk : k ≠ getf s F.CFG_BOOT_LOG_FAILS) :
    getf (recordFail s src reason) (bootSlot k) = getf s (bootSlot k) := by
  rw [getf_congr (f := bootSlot k) (rd_recordFail_log s src reason)]
  refine (getf_setf_apart (.inr (show 4 + 3 ≤ 8 + 6 * k ∨ 8 + 6 * k + 6 ≤ 4 by omega))).trans ?_
  split
  · exact getf_setf_apart (.inr (show 8 + 6 * getf s F.CFG_BOOT_LOG_FAILS + 6 ≤ 8 + 6 * k ∨ 8 + 6 * k + 6 ≤ 8 + 6 * getf s F.CFG_BOOT_LOG_FAILS by omega))
  · rfl

theorem recordFail_slot (h : getf s F.CFG_BOOT_LOG_FAILS < 4) :
    getf (recordFail s src reason) (bootSlot (getf s F.CFG_BOOT_LOG_FAILS)) = (src + 8 * reason) % 64 := by
  rw [getf_congr (f := bootSlot _) (rd_recordFail_log s src reason)]
  refine (getf_setf_apart (.inr (show 4 + 3 ≤ 8 + 6 * getf s F.CFG_BOOT_LOG_FAILS ∨ 8 + 6 * getf s F.CFG_BOOT_LOG_FAILS + 6 ≤ 4 by omega))).trans ?_
  rw [if_pos h]
  exact getf_setf_same s (bootSlot _) _ (show 8 + 6 * getf s F.CFG_BOOT_LOG_FAILS + 6 ≤ 32 by omega)

theorem recordFail_grows : BootGrows s (recordFail s src reason) := fun h => by
  rw [recordFail_fails]
  exact ⟨by omega, Nat.min_le_left _ _, fun n hn => recordFail_slot_ne s src reason hn.ne⟩

end

/-! #### The sources in order -/

section
variable (s : State)

/-- Recovery shows in its registers. -/
def recoveryShown (s : State) : State := setf (setf (clearFabric (setBoot s {})) F.PWR_STAT_RECOVERY 1) F.CFG_BOOT_LOG_FINAL 5

/-- No header is loaded in recovery. -/
def recoveryMapped (s : State) : State := noNvMaps (setf (setf (recoveryShown s) F.PWR_BANK_DEF_ON 3) F.CFG_STAT_OP 0)

/-- The groups that recovery still powers. -/
def recoveryQueued (s : State) : State := setPwr s { s.pwr with gq := [1, 3, 4].filter (fun g => !bit s.pwr.gdone g), mq := [] }

theorem enterRecovery_eq : enterRecovery s = if [1, 3, 4].filter (fun g => !bit (recoveryMapped s).pwr.gdone g) = []
    then endS1 (recoveryQueued (recoveryMapped s)) else recoveryQueued (recoveryMapped s) := by
  unfold enterRecovery recoveryQueued recoveryMapped recoveryShown
  rfl

theorem recoveryShown_grows : BootGrows s (recoveryShown s) := .of_fields fun g hg hlo => by
  unfold recoveryShown
  rw [getf_setf_apart (.inr (.inl (show 0 + 3 ≤ g.lo by omega))), getf_setf_apart (.inl (by rw [hg]; decide))]
  exact getf_congr (by rw [hg, rd_clearFabric _ (by decide) (by decide) (by decide), setBoot_rd])

theorem recoveryMapped_log : rd (recoveryMapped s) R.CFG_BOOT_LOG = rd (recoveryShown s) R.CFG_BOOT_LOG := by
  unfold recoveryMapped
  rw [(noNvMaps_made (Nat.or_self _) _ (.refl ..)).blk R.CFG_BOOT_LOG rfl, rd_setf_ne (by decide), rd_setf_ne (by decide)]

theorem enterRecovery_grows : BootGrows s (enterRecovery s) := by
  have hstart (u : State) : rd (endS1 (recoveryQueued u)) R.CFG_BOOT_LOG = rd u R.CFG_BOOT_LOG :=
    ((endS1_start (.refl _)).rd_eq _ (by decide)).trans (setPwr_rd ..)
  have hmapped : BootGrows s (recoveryMapped s) := (recoveryShown_grows s).trans (.of_rd (recoveryMapped_log s))
  rw [enterRecovery_eq]
  split
  · exact hmapped.trans (.of_rd (hstart _))
  · exact hmapped.trans (.of_rd (setPwr_rd ..))

theorem chainTry_log : rd (chainTry s) R.CFG_BOOT_LOG = rd s R.CFG_BOOT_LOG := (chainTry_made (Nat.or_self _) s (.refl ..)).blk R.CFG_BOOT_LOG rfl

theorem bootJob_log (src : Nat) : rd (bootJob s src) R.CFG_BOOT_LOG = rd s R.CFG_BOOT_LOG :=
  (bootJob_made (Nat.or_self _) s src (.refl ..)).blk R.CFG_BOOT_LOG rfl

/-- Trying the sources of a path only adds failed attempts. -/
theorem tryBoot_grows (l : List Nat) : BootGrows s (tryBoot s l) := by
  induction l generalizing s with
  | nil => exact enterRecovery_grows s
  | cons src l ih =>
    unfold tryBoot
    dsimp only
    split_ifs
    · exact .of_rd ((rd_setf_ne (by decide) _ _).trans (setBoot_rd ..))
    · exact (recordFail_grows s src 5).trans (ih _)
    · exact (recordFail_grows s 4 6).trans (ih _)
    · exact .of_rd ((chainTry_log _).trans (setBoot_rd ..))
    · exact .of_rd (setBoot_rd ..)
    · exact .of_rd ((bootJob_log _ src).trans (setBoot_rd ..))
    · exact .of_rd ((setBoot_rd ..).trans (setBoot_rd ..))

end

section
variable {s : State}

theorem bootFail_eq {src : Nat} {l : List Nat} (hpath : s.boot.path = src :: l) (reason : Nat) : bootFail s reason
    = tryBoot (clearFabric (recordFail (setBoot { s with load := { s.load with waiting := false } } {}) src reason)) l := by
  unfold bootFail
  rw [hpath]

/-- The source that fails is entered with its reason, and stays entered whatever the rest of the path does. -/
theorem bootFail_logs {src : Nat} {l : List Nat} (hpath : s.boot.path = src :: l) (reason : Nat) :
    let n := getf s F.CFG_BOOT_LOG_FAILS
    min 4 (n + 1) ≤ getf (bootFail s reason) F.CFG_BOOT_LOG_FAILS
      ∧ (n < 4 → extractBits (rd (bootFail s reason) R.CFG_BOOT_LOG) (8 + 6 * n) 6 = (src + 8 * reason) % 64) := by
  let u := setBoot { s with load := { s.load with waiting := false } } {}
  have hclear : rd (clearFabric (recordFail u src reason)) R.CFG_BOOT_LOG = rd (recordFail u src reason) R.CFG_BOOT_LOG :=
    rd_clearFabric _ (by decide) (by decide) (by decide)
  have hfails : getf (clearFabric (recordFail u src reason)) F.CFG_BOOT_LOG_FAILS = min 4 (getf s F.CFG_BOOT_LOG_FAILS + 1) :=
    (getf_congr hclear).trans (recordFail_fails u src reason)
  obtain ⟨hcount, -, hslots⟩ := tryBoot_grows (clearFabric (recordFail u src reason)) l (by rw [hfails]; exact Nat.min_le_left _ _)
  dsimp only
  rw [bootFail_eq hpath]
  rw [hfails] at hcount hslots
  refine ⟨hcount, fun hn => ?_⟩
  exact (hslots _ (by omega)).trans ((getf_congr (f := bootSlot _) hclear).trans (recordFail_slot u src reason hn))

theorem bootSourceFail_does {src : Nat} {l : List Nat} (hready : bootReady s = true) (hpath : s.boot.path = src :: l) (hreason : bootReason s ≠ 0)
    (hsrc : src ≠ 4) : Does .bootSourceFail s (fun t => let n := getf s F.CFG_BOOT_LOG_FAILS
      min 4 (n + 1) ≤ getf t F.CFG_BOOT_LOG_FAILS ∧ (n < 4 → extractBits (rd t R.CFG_BOOT_LOG) (8 + 6 * n) 6 = (src + 8 * bootReason s) % 64)) := by
  have hchain : chainBoot s = false := by
    unfold chainBoot
    rw [hpath]
    simp [hsrc]
  have hexec : exec .bootSourceFail s = .next (bootFail s (bootReason s)) := by
    show execBootSourceFail s = _
    unfold execBootSourceFail
    rw [if_pos (by simp [hready, hreason]), hchain]
    rfl
  exact ⟨_, hexec, bootFail_logs hpath _⟩

/-! #### A source that passes -/

theorem loadHeader_image (s : State) (img : List Byte) (glob : Nat) : (loadHeader s img glob).fab.image = if paceOk img then img else [] := rfl

/-- The fabric as configured, before what the boot path shows of it. -/
def configLoaded (s : State) (img : List Byte) (src glob : Nat) : State := loadNvMaps (showSource (loadHeader s img glob) img src) img

theorem configLoaded_image (s : State) (img : List Byte) (src glob : Nat) :
    (configLoaded s img src glob).fab.image = if paceOk img then img else [] := by
  unfold configLoaded showSource
  rw [(loadNvMaps_made (Nat.or_self _) _ img (.refl ..)).fab rfl, setf_fab, setf_fab, loadHeader_image]

/-- What a configuration shows. -/
def configShown (s : State) (img : List Byte) (src glob : Nat) : State :=
  setf (setf (configLoaded s img src glob) F.CFG_BOOT_LOG_FINAL src) F.CFG_STAT_OP 0

/-- The boot path is closed, with the start-up marches that are still to run. -/
def bootClosed (s : State) (mq : List Nat) : State :=
  setPwr { s with boot := {}, load := { s.load with waiting := false } } { s.pwr with mq := mq }

theorem rd_bootClosed (s : State) (mq : List Nat) (r : Nat) : rd (bootClosed s mq) r = rd s r := rfl

theorem bootClosed_fab (s : State) (mq : List Nat) : (bootClosed s mq).fab = s.fab := rfl

theorem configure_eq (s : State) (img : List Byte) (src glob : Nat) : configure s img src glob
    = bootClosed (configShown s img src glob) (if paceOk img then (List.range 8).filter (fun n => bit (imgMarch img) n) else []) := by
  unfold configure bootClosed configShown configLoaded
  rfl

theorem configure_shows (s : State) (img : List Byte) (src glob : Nat) : let t := configure s img src glob
    getf t F.CFG_BOOT_LOG_FINAL = src % 8 ∧ getf t F.CFG_STAT_OP = 0 ∧ t.fab.image = if paceOk img then img else [] := by
  dsimp only
  rw [configure_eq, getf_congr (rd_bootClosed ..), getf_congr (rd_bootClosed ..), bootClosed_fab]
  unfold configShown
  rw [getf_setf_apart (by decide), getf_setf_same _ _ _ (by decide), getf_setf_fits _ (by decide) (by decide), setf_fab, setf_fab,
    configLoaded_image]
  exact ⟨rfl, rfl, rfl⟩

theorem bootReadoutDone_does {src : Nat} {l : List Nat} (hready : bootReady s = true) (hpath : s.boot.path = src :: l) (glob : Nat)
    (hreason : bootReason s = 0) : Does (.bootReadoutDone glob) s (fun t => getf t F.CFG_BOOT_LOG_FINAL = src % 8 ∧ getf t F.CFG_STAT_OP = 0
      ∧ t.fab.image = if paceOk (bootImage s) then bootImage s else []) := by
  obtain ⟨hfinal, hop, himg⟩ := configure_shows s (bootImage s) src glob
  have hstart := endS1_start (.refl (configure s (bootImage s) src glob))
  have hexec : exec (.bootReadoutDone glob) s = .next (endS1 (configure s (bootImage s) src glob)) := by
    show execBootReadoutDone glob s = _
    unfold execBootReadoutDone
    rw [if_pos (by simp [hready, hreason]), hpath]
  exact ⟨_, hexec, (getf_congr (hstart.rd_eq _ (by decide))).trans hfinal, (getf_congr (hstart.rd_eq _ (by decide))).trans hop,
    hstart.image_eq.trans himg⟩

end

end Sys2Proof.Machine

/-! ### Banks, groups and waves of the start, and its grant point (R87, R89, R95, R105) -/
namespace Sys2Proof.Machine

section
variable {s : State}

/-! #### S2 -/

theorem showBank_bank (s : State) (n k : Nat) : bank (showBank s n) k = bank s k := by
  have hbanks : (showBank s n).banks = s.banks := (showBank_made (Nat.or_self _) s n (.refl ..)).banks rfl
  unfold bank
  rw [hbanks]

theorem loseBank_bank (s : State) (n k : Nat) : bank (loseBank s n) k = bank s k := rfl

/-- A bank's power step ends in its target state. -/
theorem stepDone_st (s : State) (n : Nat) : (bank (stepDone s n) n).st = (bank s n).target := by
  have hset (u : State) (st : Nat) : (bank (setBankSt u n st) n).st = st := by
    unfold setBankSt
    rw [showBank_bank, bank_setBank]
  have hlost (u : State) (c : Prop) [Decidable c] : bank (if c then loseBank u n else u) n = bank u n := by split <;> rfl
  unfold stepDone
  dsimp only
  split
  · rw [bank_setBank]
    dsimp only
    rw [hlost, hset]
  · rw [hlost, hset]

/-- The bank that S2 powers is ON. -/
def bankPowered (s : State) (n : Nat) : State := stepDone (setBank s n { bank s n with target := 1, before := (bank s n).st, forOp := none }) n

theorem bankPowered_st (s : State) (n : Nat) : (bank (bankPowered s n) n).st = 1 := by
  unfold bankPowered
  rw [stepDone_st, bank_setBank]

theorem bankPowered_pwr (s : State) (n : Nat) : (bankPowered s n).pwr = s.pwr :=
  ((stepDone_made (Nat.or_self _) _ n (.refl ..)).pwr rfl).trans rfl

theorem s2BankPowered_does {n : Nat} {l : List Nat} (h : s.pwr.stage = .s2) (hq : s.pwr.bq = n :: l) (hl : l ≠ []) :
    Does .s2BankPowered s (fun t => (bank t n).st = 1 ∧ t.pwr.bq = l ∧ t.pwr.stage = .s2) := by
  have hexec : exec .s2BankPowered s = .next (setPwr (bankPowered s n) { s.pwr with bq := l }) := by
    rw [← bankPowered_pwr s n]
    show execS2BankPowered s = _
    unfold execS2BankPowered
    rw [hq]
    dsimp only
    rw [if_neg (not_not_intro h), if_neg hl]
    rfl
  exact ⟨_, hexec, bankPowered_st s n, rfl, h⟩

/-! #### S3 -/

theorem releaseHook_doms (s : State) (d : Nat) : (releaseHook s d).doms = s.doms := (releaseHook_made (Nat.or_self _) s d (.refl ..)).doms rfl

theorem release1_powered (s : State) (d : Nat) : (dom (release1 s d) d).powered = true := by
  unfold release1
  split
  · next h => exact (Bool.and_eq_true_iff.1 h).1
  · rw [dom_congr (releaseHook_doms _ _)]
    exact releaseDom_powered s

theorem release1_keeps {s : State} (d : Nat) {e : Nat} (h : (dom s e).powered = true) : (dom (release1 s d) e).powered = true := by
  by_cases he : e = d
  · rw [he]; exact release1_powered s d
  · unfold release1
    split
    · exact h
    · rw [dom_congr (releaseHook_doms _ _)]
      show (dom (setDom s d _) e).powered = true
      rw [dom_setDom_ne he]
      exact h

/-- The domains of a list that are taken out of power-down are powered. -/
theorem foldl_release1_powered (l : List Nat) (s : State) {d : Nat} (h : d ∈ l ∨ (dom s d).powered = true) :
    (dom (l.foldl release1 s) d).powered = true := by
  induction l generalizing s with
  | nil => exact h.resolve_left List.not_mem_nil
  | cons e l ih =>
    refine ih _ ?_
    rcases h with h | h
    · rcases List.mem_cons.1 h with rfl | h
      · exact .inr (release1_powered s d)
      · exact .inl h
    · exact .inr (release1_keeps e h)

theorem foldl_release1_made (l : List Nat) (s : State) : Made 10880406163507961705603074 s (l.foldl release1 s) :=
  .foldl (fun t d h => release1_made (Nat.or_self _) t d h) l (.refl ..)

/-- The staging as group `g` is powered. -/
def groupTaken (p : Pwr) (g : Nat) : Pwr :=
  { p with groups := setBit p.groups g, gdone := setBit p.gdone g, gq := p.gq.filter (fun k => k != g) }

/-- The group shows. -/
def groupShown (s : State) (g : Nat) : State :=
  let s := setPwr s (groupTaken s.pwr g)
  let s := setf s F.PWR_STAT_GROUP (((List.range 7).filter (fun k => bit s.pwr.gdone k)).length)
  setf s F.FAB_ISL_LOCK_LOCK (getf s F.FAB_ISL_LOCK_LOCK ||| groupIslands g)

/-- The pins that the group drives from now on. -/
def groupPins (s : State) (g : Nat) : State := if g = 4 then driveByp s else if g = 5 then g5Pins s else s

theorem powerGroup_eq (s : State) (g : Nat) : powerGroup s g =
    let t := (groupDoms g).foldl release1 (groupPins (groupShown s g) g)
    if g = 2 then alarmUpdate t else t := rfl

theorem groupPins_pwr (s : State) (g : Nat) : ∃ b, (groupPins s g).pwr = { s.pwr with byp := b } := by
  unfold groupPins
  split
  · unfold driveByp
    dsimp only
    split
    · exact ⟨s.pwr.byp, rfl⟩
    · exact ⟨_, rfl⟩
  · split
    · exact ⟨s.pwr.byp, (g5Pins_made (Nat.or_self _) s (.refl ..)).pwr rfl⟩
    · exact ⟨s.pwr.byp, rfl⟩

theorem rd_groupPins (s : State) (g r : Nat) : rd (groupPins s g) r = rd s r := by
  unfold groupPins
  split
  · exact driveByp_rd s r
  · split
    · have hregs : (g5Pins s).regs = s.regs := (g5Pins_made (Nat.or_self _) s (.refl ..)).regs rfl
      unfold rd
      rw [hregs]
    · rfl

theorem powerGroup_powered (s : State) (g : Nat) {d : Nat} (hd : d ∈ groupDoms g) : (dom (powerGroup s g) d).powered = true := by
  have hdoms : (powerGroup s g).doms = ((groupDoms g).foldl release1 (groupPins (groupShown s g) g)).doms := by
    rw [powerGroup_eq]
    dsimp only
    split
    · exact (alarmUpdate_made (Nat.or_self _) _ (.refl ..)).doms rfl
    · rfl
  rw [dom_congr hdoms]
  exact foldl_release1_powered _ _ (.inl hd)

theorem powerGroup_pwr (s : State) (g : Nat) : ∃ b, (powerGroup s g).pwr = { groupTaken s.pwr g with byp := b } := by
  obtain ⟨b, hb⟩ := groupPins_pwr (groupShown s g) g
  have hfold : ((groupDoms g).foldl release1 (groupPins (groupShown s g) g)).pwr = (groupPins (groupShown s g) g).pwr :=
    (foldl_release1_made _ _).pwr rfl
  refine ⟨b, ?_⟩
  rw [powerGroup_eq]
  dsimp only
  split
  · rw [(alarmUpdate_made (Nat.or_self _) _ (.refl ..)).pwr rfl, hfold, hb]; rfl
  · rw [hfold, hb]; rfl

/-- Of the staging's status only the count of groups changes. -/
theorem powerGroup_recovery (s : State) (g : Nat) : recovery (powerGroup s g) = recovery s := by
  have hgroup : isSet (groupShown s g) F.PWR_STAT_RECOVERY = isSet s F.PWR_STAT_RECOVERY := by
    unfold groupShown
    dsimp only
    rw [isSet_setf_apart (by decide), isSet_setf_apart (by decide), isSet_congr (setPwr_rd ..)]
  have hfold : rd ((groupDoms g).foldl release1 (groupPins (groupShown s g) g)) R.PWR_STAT = rd (groupShown s g) R.PWR_STAT :=
    ((foldl_release1_made _ _).blk R.PWR_STAT rfl).trans (rd_groupPins ..)
  have hrd : rd (powerGroup s g) R.PWR_STAT = rd (groupShown s g) R.PWR_STAT := by
    rw [powerGroup_eq]
    dsimp only
    split
    · exact (alarmUpdate_rd (by decide) _).trans hfold
    · exact hfold
  exact (isSet_congr hrd).trans hgroup

theorem s3GroupPowered_does {g : Nat} {l : List Nat} (hq : s.pwr.gq = g :: l) (hl : l ≠ []) :
    Does .s3GroupPowered s (fun t => (∀ d ∈ groupDoms g, (dom t d).powered = true) ∧ t.pwr.gq = (g :: l).filter (fun k => k != g)
      ∧ t.pwr.stage = s.pwr.stage ∧ bit t.pwr.groups g = true) := by
  have hexec : exec .s3GroupPowered s = .next (powerGroup s g) := by
    show execS3GroupPowered s = _
    unfold execS3GroupPowered
    rw [hq]
    dsimp only
    rw [if_pos hl]
  obtain ⟨b, hpwr⟩ := powerGroup_pwr s g
  refine ⟨_, hexec, fun d hd => powerGroup_powered s g hd, ?_, ?_, ?_⟩
  · rw [hpwr, ← hq]; rfl
  · rw [hpwr]; rfl
  · rw [hpwr]; exact bit_setBit_same _ _

/-- RUN is reached (R90). -/
def runReached (s : State) : State :=
  let s := setf (setf (stageEnds (setPwr s { s.pwr with stage := .run, warm := 0 }) 4) F.PWR_STAT_STATE 1) F.PWR_STAT_STAGE 6
  setf s F.PWR_START_TIME_US (min 0xFFFFFF (usSince s s.pwr.begun - getf s F.PWR_GRANT_WAIT_US))

theorem stageEnds_pwr (s : State) (n : Nat) : ∃ b, (stageEnds s n).pwr = { s.pwr with pointReached := b } := by
  unfold stageEnds
  split
  · exact ⟨true, rfl⟩
  · exact ⟨s.pwr.pointReached, rfl⟩

theorem stageEnds_doms (s : State) (n : Nat) : (stageEnds s n).doms = s.doms := by
  unfold stageEnds
  split <;> rfl

theorem rd_stageEnds (s : State) (n r : Nat) : rd (stageEnds s n) r = rd s r := by
  unfold stageEnds
  split
  · exact setPwr_rd ..
  · rfl

theorem runReached_pwr (s : State) : ∃ b, (runReached s).pwr = { s.pwr with stage := .run, warm := 0, pointReached := b } := by
  obtain ⟨b, hb⟩ := stageEnds_pwr (setPwr s { s.pwr with stage := .run, warm := 0 }) 4
  refine ⟨b, ?_⟩
  unfold runReached
  dsimp only [setf_pwr]
  rw [hb, setPwr_pwr]

theorem runReached_doms (s : State) : (runReached s).doms = s.doms := by
  unfold runReached
  dsimp only [setf_doms]
  rw [stageEnds_doms, setPwr_doms]

theorem runReached_shows (s : State) : getf (runReached s) F.PWR_STAT_STATE = 1 ∧ getf (runReached s) F.PWR_STAT_STAGE = 6 := by
  unfold runReached
  dsimp only
  rw [getf_setf_apart (by decide), getf_setf_apart (by decide), getf_setf_fits _ (by decide) (by decide), getf_setf_apart (by decide),
    getf_setf_fits _ (by decide) (by decide)]
  exact ⟨rfl, rfl⟩

theorem finishStart_eq (h : s.pwr.targetPend = none) : finishStart s = runReached s := by
  obtain ⟨b, hpwr⟩ := runReached_pwr s
  have hpend : (runReached s).pwr.targetPend = none := by rw [hpwr]; exact h
  have heq : finishStart s = if (runReached s).pwr.targetPend = some 1 then beginIdle (runReached s) else runReached s := rfl
  rw [heq, hpend]
  exact if_neg (by decide)

theorem recoveryEnd_does {g : Nat} (hq : s.pwr.gq = [g]) (h : s.pwr.stage = .s3) (hrec : recovery s = true) (hpend : s.pwr.targetPend = none) :
    Does .s3GroupPowered s (fun t => t.pwr.stage = .run
      ∧ getf t F.PWR_STAT_STATE = 1 ∧ getf t F.PWR_STAT_STAGE = 6 ∧ ∀ d ∈ groupDoms g, (dom t d).powered = true) := by
  obtain ⟨b, hpwr⟩ := powerGroup_pwr s g
  obtain ⟨b', hends⟩ := stageEnds_pwr (powerGroup s g) 3
  have hpend' : (stageEnds (powerGroup s g) 3).pwr.targetPend = none := by rw [hends, hpwr]; exact hpend
  have hrec' : recovery (stageEnds (powerGroup s g) 3) = true :=
    (isSet_congr (rd_stageEnds ..)).trans ((powerGroup_recovery s g).trans hrec)
  have hend : endS3 (powerGroup s g) = runReached (stageEnds (powerGroup s g) 3) := (if_pos hrec').trans (finishStart_eq hpend')
  have hexec : exec .s3GroupPowered s = .next (endS3 (powerGroup s g)) := by
    have hstage : (powerGroup s g).pwr.stage = .s3 := by rw [hpwr]; exact h
    show execS3GroupPowered s = _
    unfold execS3GroupPowered
    rw [hq]
    dsimp only
    rw [hstage, if_neg (by simp)]
  obtain ⟨hstate, hshown⟩ := runReached_shows (stageEnds (powerGroup s g) 3)
  obtain ⟨b'', hrun⟩ := runReached_pwr (stageEnds (powerGroup s g) 3)
  rw [hend] at hexec
  refine ⟨_, hexec, ?_, hstate, hshown, fun d hd => ?_⟩
  · rw [hrun]
  · rw [dom_congr (runReached_doms _), dom_congr (stageEnds_doms ..)]
    exact powerGroup_powered s g hd

/-! #### S4 -/

theorem regionOn_on (s : State) (r k : Nat) (hk : k < 16) : regionIsOn (regionOn s r) k = (regionIsOn s k || k == r) := by
  have htrim : rd (regionOn s r) R.FAB_STAT = rd (setf s F.FAB_STAT_RGN_ON (setBit (getf s F.FAB_STAT_RGN_ON) r)) R.FAB_STAT := rfl
  unfold regionIsOn
  rw [getf_congr (f := F.FAB_STAT_RGN_ON) htrim, bit_getf_setf _ _ _ (by decide) hk, bit_setBit]

/-- Regions powered one after the other leave the others as they are. -/
theorem foldl_regionOn_on (l : List Nat) (s : State) (k : Nat) (hk : k < 16) :
    regionIsOn (l.foldl regionOn s) k = (regionIsOn s k || l.contains k) := by
  induction l generalizing s with
  | nil => simp
  | cons r l ih => rw [List.foldl_cons, ih, regionOn_on s r k hk, List.contains_cons, Bool.or_assoc]

/-- A wave powers those of its regions that the image uses. -/
theorem waveOn_on (s : State) {w : Nat} (hw : w < 8) : ∀ r ∈ [2 * w, 2 * w + 1],
    regionIsOn (waveOn s w) r = (regionIsOn s r || bit (usedRegions s.fab.image) r) := by
  intro r hr
  have hlt : r < 16 := by simp only [List.mem_cons, List.not_mem_nil, or_false] at hr; omega
  unfold waveOn
  dsimp only
  rw [foldl_regionOn_on _ s r hlt]
  cases hon : regionIsOn s r
  · have hoff : bit (getf s F.FAB_STAT_RGN_ON) r = false := hon
    cases hused : bit (usedRegions s.fab.image) r
    · simp [hused]
    · simp only [Bool.false_or, List.contains_eq_mem, decide_eq_true_eq, List.mem_filter]
      exact ⟨hr, by simp [hused, hoff]⟩
  · simp

theorem waveOn_keeps (s : State) (w : Nat) : (waveOn s w).pwr = s.pwr ∧ (waveOn s w).ho = s.ho := by
  have hmade := waveOn_made (Nat.or_self _) s w (.refl ..)
  exact ⟨hmade.pwr rfl, hmade.ho rfl⟩

theorem s4WaveDone_does {w : Nat} {l : List Nat} (hw : w < 8) (hq : s.pwr.wq = w :: l) (hl : l ≠ []) (hho : s.ho = none) :
    Does .s4WaveDone s (fun t => t.pwr.wq = l ∧ t.pwr.stage = s.pwr.stage
      ∧ ∀ r ∈ [2 * w, 2 * w + 1], regionIsOn t r = (regionIsOn s r || bit (usedRegions s.fab.image) r)) := by
  obtain ⟨hpwr, hno⟩ := waveOn_keeps s w
  have hexec : exec .s4WaveDone s = .next (showWave (setPwr (waveOn s w) { s.pwr with wq := l }) l) := by
    show execS4WaveDone s = _
    unfold execS4WaveDone
    rw [hq]
    dsimp only
    rw [setPwr_ho, hno, hho]
    dsimp only
    rw [if_pos hl]
  refine ⟨_, hexec, rfl, rfl, fun r hr => ?_⟩
  have hshown : regionIsOn (showWave (setPwr (waveOn s w) { s.pwr with wq := l }) l) r = regionIsOn (waveOn s w) r := by
    unfold regionIsOn showWave
    rw [getf_setf_apart (by decide), getf_congr (setPwr_rd ..)]
  rw [hshown]
  exact waveOn_on s hw r hr

/-! #### The grant point -/

theorem grantPoint_does (hpoint : s.pwr.pointReached = true) (hout : isSet s F.PWR_STAT_GRANT_OUT = false) (hhold : s.pwr.stage ≠ .hold)
    (hsleep : s.pwr.stage ≠ .sleep) : Does .grantPoint s (fun t =>
      isSet t F.PWR_STAT_GRANT_OUT = true ∧ t.out = s.out ++ [.pin .pwrgrantOut 1] ∧ t.pwr = s.pwr) :=
  ⟨driveGrant s 1, if_pos ⟨hpoint, hout, hhold, hsleep⟩, (emit_isSet ..).trans (isSet_setf_one _ rfl (by decide)), driveGrant_out s 1,
    driveGrant_pwr s 1⟩

end

end Sys2Proof.Machine

/-! ### The end of a march (R241 to R246), and O35 -/
namespace Sys2Proof.Machine

/-! #### A bank of zeros -/

theorem bank_congr {s t : State} (h : t.banks = s.banks) (n : Nat) : bank t n = bank s n := by unfold bank; rw [h]

theorem opOf_congr {s t : State} (h : t.ops = s.ops) (tag : Nat) : opOf t tag = opOf s tag := by unfold opOf; rw [h]

theorem memByte_zeroBank (s : State) (n x : Nat) : memByte (zeroBank s n) x = if x / 0x100000 = n then 0#8 else memByte s x := by
  have hget : sget x (zeroBank s n).mem = if x / 0x100000 = n then none else sget x s.mem := by
    refine (sget_filter (fun c => !(c / 0x100000 == n)) x s.mem).trans ?_
    by_cases hx : x / 0x100000 = n <;> simp [hx]
  have hfill : memFillOf (zeroBank s n) (x / 0x100000) = if x / 0x100000 = n then memFillOf s n / 2 * 2 else memFillOf s (x / 0x100000) := by
    unfold memFillOf zeroBank
    split
    · next hx => rw [hx, sget_sput_same]; rfl
    · next hx => rw [sget_sput_ne hx]
  unfold memByte
  rw [hget, hfill]
  by_cases hx : x / 0x100000 = n
  · rw [if_pos hx, if_pos hx, if_pos hx]
    exact if_pos (Nat.mul_mod_left _ _)
  · rw [if_neg hx, if_neg hx, if_neg hx]

/-! #### What a march leaves in the registers -/

section
variable (s : State) (n : Fin 8)

/-- The bank's march is over. -/
def marchOver : State :=
  let t := setf (setf (setBank s n { bank s n with march := 0, marchOp := none }) (F.BNK_STAT_MARCH n) 0) (F.BNK_STAT_ROW n) 0
  setf t F.BNK_PSTATE_MARCHING (clearBit (getf t F.BNK_PSTATE_MARCHING) n)

/-- What the bank holds after the march. -/
def marchHeld (pres : Bool) : State := if pres then s else zeroBank s n

/-- The results as registered (Table 9-9). -/
def marchShown (pres : Bool) (faults el addr : Nat) (bits : List W32) : State :=
  let s := setf (setf s (F.BNK_MRES_FAULTS n) (min 65535 faults)) (F.BNK_MRES_ELEMENT n) (if faults = 0 then 0 else el)
  let s := setf (setf (setf s (F.BNK_MRES_MODE n) (b2n pres)) (F.BNK_MRES_DONE n) 1) (F.BNK_MRES_SHADOW_FAIL n) 0
  let s := wr s (R.BNK_MADDR n) (if faults = 0 then 0#32 else w32 addr)
  (List.range 4).foldl (fun t j => wr t (R.BNK_MBIT n j) (if faults = 0 then 0#32 else bits.getD j 0#32)) s

/-- Faults raise the bank's event. -/
def marchAlarmed (faults : Nat) : State := if faults ≠ 0 then raiseAlarm s (F.BNK_EVT_FAULT n) else s

/-- The operation that asked for the march has its return. -/
def marchReturned (op : Option Op) (faults addr : Nat) : State :=
  match op with
  | some o => giveRet s o (if faults = 0 then ⟨0, 0#32, 0#32⟩ else ⟨1, w32 (min 65535 faults), w32 addr⟩)
  | none => s

/-- The bank's fence opens after a destructive march for an operation. -/
def marchFreed (b : Bank) : State := if b.marchOp ≠ none ∧ decide (b.march = 2) = false then releaseHolder s (12 + n) 0xA else s

/-- A march's results up to its return. -/
def marchNoted (faults el addr : Nat) (bits : List W32) : State :=
  let pres := decide ((bank s n).march = 2)
  marchAlarmed (marchShown (marchHeld (marchOver s n) n pres) n pres faults el addr bits) n faults

theorem marchDone_eq (h : (bank s n).march ≠ 0) (faults el addr : Nat) (bits : List W32) : marchDone n faults el addr bits false s =
    let t := marchNoted s n faults el addr bits
    marchFreed (marchReturned t ((bank s n).marchOp.bind (opOf t)) faults addr) n (bank s n) := by
  unfold marchDone
  dsimp only
  rw [if_neg h]
  unfold marchNoted marchAlarmed
  simp only [Bool.false_and, Bool.false_eq_true, or_false, if_false]
  rfl

end

/-! #### The tail of a march: its alarm, its return and the fence -/

section
variable (s : State) (n : Fin 8)

theorem marchHeld_rd (pres : Bool) (r : Nat) : rd (marchHeld s n pres) r = rd s r := by unfold marchHeld; split <;> rfl

theorem marchHeld_banks (pres : Bool) : (marchHeld s n pres).banks = s.banks := by unfold marchHeld; split <;> rfl

theorem marchHeld_ops (pres : Bool) : (marchHeld s n pres).ops = s.ops := by unfold marchHeld; split <;> rfl

theorem marchHeld_memByte (pres : Bool) (x : Nat) :
    memByte (marchHeld s n pres) x = if pres = false ∧ x / 0x100000 = n.val then 0#8 else memByte s x := by
  unfold marchHeld
  cases pres
  · simp only [Bool.false_eq_true, if_false, true_and]
    exact memByte_zeroBank s n x
  · simp

theorem marchOver_march : (bank (marchOver s n) n).march = 0 := by
  have hbank : bank (marchOver s n) n = bank (setBank s n { bank s n with march := 0, marchOp := none }) n := rfl
  rw [hbank, bank_setBank]

theorem marchOver_mem (x : Nat) : memByte (marchOver s n) x = memByte s x := rfl

theorem marchOver_ops : (marchOver s n).ops = s.ops := rfl

section
variable (pres : Bool) (faults el addr : Nat) (bits : List W32)

/-- The results of a march in BNK_MRES and BNK_MADDR. -/
def marchCounted : State :=
  let s := setf (setf s (F.BNK_MRES_FAULTS n) (min 65535 faults)) (F.BNK_MRES_ELEMENT n) (if faults = 0 then 0 else el)
  let s := setf (setf (setf s (F.BNK_MRES_MODE n) (b2n pres)) (F.BNK_MRES_DONE n) 1) (F.BNK_MRES_SHADOW_FAIL n) 0
  wr s (R.BNK_MADDR n) (if faults = 0 then 0#32 else w32 addr)

theorem rd_marchShown {r : Nat} (h : ∀ j, r ≠ R.BNK_MBIT n j) :
    rd (marchShown s n pres faults el addr bits) r = rd (marchCounted s n pres faults el addr) r := by
  have hfold (l : List Nat) (t : State) :
      rd (l.foldl (fun t j => wr t (R.BNK_MBIT n j) (if faults = 0 then 0#32 else bits.getD j 0#32)) t) r = rd t r := by
    induction l generalizing t with
    | nil => rfl
    | cons j l ih => exact (ih _).trans (rd_wr_ne (h j) _ _)
  exact hfold _ _

theorem marchCounted_keeps : let t := marchCounted s n pres faults el addr
    t.banks = s.banks ∧ t.mem = s.mem ∧ t.memFill = s.memFill ∧ t.ops = s.ops := by
  unfold marchCounted
  dsimp only [wr_banks, setf_banks, wr_mem, setf_mem, wr_memFill, setf_memFill, wr_ops, setf_ops]
  exact ⟨rfl, rfl, rfl, rfl⟩

theorem marchShown_keeps : let t := marchShown s n pres faults el addr bits
    t.banks = s.banks ∧ t.mem = s.mem ∧ t.memFill = s.memFill ∧ t.ops = s.ops := by
  have hfold (l : List Nat) (t : State) :
      let u := l.foldl (fun t j => wr t (R.BNK_MBIT n j) (if faults = 0 then 0#32 else bits.getD j 0#32)) t
      u.banks = t.banks ∧ u.mem = t.mem ∧ u.memFill = t.memFill ∧ u.ops = t.ops := by
    induction l generalizing t with
    | nil => exact ⟨rfl, rfl, rfl, rfl⟩
    | cons j l ih => exact ih _
  obtain ⟨hbanks, hmem, hfill, hops⟩ := hfold (List.range 4) (marchCounted s n pres faults el addr)
  obtain ⟨hbanks', hmem', hfill', hops'⟩ := marchCounted_keeps s n pres faults el addr
  exact ⟨hbanks.trans hbanks', hmem.trans hmem', hfill.trans hfill', hops.trans hops'⟩

theorem marchShown_faults : getf (marchShown s n pres faults el addr bits) (F.BNK_MRES_FAULTS n) = min 65535 faults := by
  rw [getf_congr (f := F.BNK_MRES_FAULTS n) (rd_marchShown s n pres faults el addr bits (fun j => by
    show R.BNK_MRES n ≠ _
    simp only [R.BNK_MRES, R.BNK_MBIT]; omega))]
  unfold marchCounted
  dsimp only
  rw [getf_wr_ne (show R.BNK_MRES n ≠ R.BNK_MADDR n by simp only [R.BNK_MRES, R.BNK_MADDR]; omega),
    getf_setf_apart (.inr (.inr (show 0 + 16 ≤ 22 by decide))), getf_setf_apart (.inr (.inr (show 0 + 16 ≤ 21 by decide))),
    getf_setf_apart (.inr (.inr (show 0 + 16 ≤ 20 by decide))), getf_setf_apart (.inr (.inr (show 0 + 16 ≤ 16 by decide)))]
  exact getf_setf_fits _ (show 0 + 16 ≤ 32 by decide) (lt_of_le_of_lt (Nat.min_le_left _ _) (show 65535 < 2 ^ 16 by decide))

theorem marchShown_element : getf (marchShown s n pres faults el addr bits) (F.BNK_MRES_ELEMENT n) = if faults = 0 then 0 else el % 16 := by
  rw [getf_congr (f := F.BNK_MRES_ELEMENT n) (rd_marchShown s n pres faults el addr bits (fun j => by
    show R.BNK_MRES n ≠ _
    simp only [R.BNK_MRES, R.BNK_MBIT]; omega))]
  unfold marchCounted
  dsimp only
  rw [getf_wr_ne (show R.BNK_MRES n ≠ R.BNK_MADDR n by simp only [R.BNK_MRES, R.BNK_MADDR]; omega),
    getf_setf_apart (.inr (.inr (show 16 + 4 ≤ 22 by decide))), getf_setf_apart (.inr (.inr (show 16 + 4 ≤ 21 by decide))),
    getf_setf_apart (.inr (.inr (show 16 + 4 ≤ 20 by decide))), getf_setf_same _ _ _ (show 16 + 4 ≤ 32 by decide)]
  split <;> rfl

theorem marchShown_done : isSet (marchShown s n pres faults el addr bits) (F.BNK_MRES_DONE n) = true := by
  rw [isSet_congr (f := F.BNK_MRES_DONE n) (rd_marchShown s n pres faults el addr bits (fun j => by
    show R.BNK_MRES n ≠ _
    simp only [R.BNK_MRES, R.BNK_MBIT]; omega))]
  unfold marchCounted
  dsimp only
  rw [isSet_congr (rd_wr_ne (show R.BNK_MRES n ≠ R.BNK_MADDR n by simp only [R.BNK_MRES, R.BNK_MADDR]; omega) _ _),
    isSet_setf_apart (.inr (.inr (show 21 + 1 ≤ 22 by decide))), isSet_setf_one _ rfl (show 21 < 32 by decide)]

theorem marchShown_addr : rd (marchShown s n pres faults el addr bits) (R.BNK_MADDR n) = if faults = 0 then 0#32 else w32 addr := by
  rw [rd_marchShown s n pres faults el addr bits (fun j => by simp only [R.BNK_MADDR, R.BNK_MBIT]; omega)]
  exact rd_wr_same ..

end

theorem marchAlarmed_keeps (faults : Nat) : let t := marchAlarmed s n faults
    t.banks = s.banks ∧ t.mem = s.mem ∧ t.memFill = s.memFill ∧ t.ops = s.ops := by
  have hmade (u : State) := alarmUpdate_made (Nat.or_self _) u (.refl ..)
  unfold marchAlarmed raiseAlarm
  split
  · exact ⟨(hmade _).banks rfl, (hmade _).mem rfl, (hmade _).memFill rfl, (hmade _).ops rfl⟩
  · exact ⟨rfl, rfl, rfl, rfl⟩

/-- The bank's registers show in no alarm block. -/
theorem rd_marchAlarmed (faults : Nat) {r : Nat} (hblock : blockOf r ∉ alarmBlocks) (hevt : r ≠ R.BNK_EVT n) :
    rd (marchAlarmed s n faults) r = rd s r := by
  unfold marchAlarmed raiseAlarm
  split
  · exact (alarmUpdate_rd hblock _).trans (rd_setf_ne hevt _ _)
  · rfl

theorem bankReg_block {r : Nat} (h : r / 0x10000 = 6) : blockOf r ∉ alarmBlocks := by
  have hblock : blockOf r = 6 := by unfold blockOf; omega
  rw [hblock]; decide

theorem marchAlarmed_evt {faults : Nat} (h : faults ≠ 0) : isSet (marchAlarmed s n faults) (F.BNK_EVT_FAULT n) = true := by
  have hblock : blockOf (R.BNK_EVT n) ∉ alarmBlocks := bankReg_block (by simp only [R.BNK_EVT]; omega)
  have halarmed : marchAlarmed s n faults = alarmUpdate (raise s (F.BNK_EVT_FAULT n)) := if_pos h
  rw [halarmed, isSet_congr (f := F.BNK_EVT_FAULT n) (alarmUpdate_rd hblock _)]
  exact isSet_raise _ _ rfl (show 0 < 32 by decide)

/-- Return and fence change neither a bank nor a register outside the fences'. -/
theorem marchTail_keeps (op : Option Op) (faults addr : Nat) (b : Bank) : let t := marchFreed (marchReturned s op faults addr) n b
    t.banks = s.banks ∧ t.mem = s.mem ∧ t.memFill = s.memFill ∧ t.ops = (marchReturned s op faults addr).ops
      ∧ ∀ r, r ∉ fenceRegs → rd t r = rd s r := by
  have hret : let u := marchReturned s op faults addr
      u.banks = s.banks ∧ u.mem = s.mem ∧ u.memFill = s.memFill ∧ u.regs = s.regs := by
    unfold marchReturned
    split
    · rw [giveRet_frame]; exact ⟨rfl, rfl, rfl, rfl⟩
    · exact ⟨rfl, rfl, rfl, rfl⟩
  obtain ⟨hbanks, hmem, hfill, hregs⟩ := hret
  have hrd (r : Nat) : rd (marchReturned s op faults addr) r = rd s r := by unfold rd; rw [hregs]
  unfold marchFreed
  split
  · have hmade := releaseHolder_made (Nat.or_self _) (marchReturned s op faults addr) (12 + n) 0xA (.refl ..)
    exact ⟨(hmade.banks rfl).trans hbanks, (hmade.mem rfl).trans hmem, (hmade.memFill rfl).trans hfill, hmade.ops rfl,
      fun r hr => ((releaseHolder_step _ (d := 12 + n) (by omega) 0xA).rd_eq r hr).trans (hrd r)⟩
  · exact ⟨hbanks, hmem, hfill, rfl, fun r _ => hrd r⟩

/-- The asked-for return, where the operation is there. -/
theorem marchReturned_ret {tag : Nat} {o : Op} (ho : opOf s tag = some o) (faults addr : Nat) :
    retOf (marchReturned s (some o) faults addr) tag = some (if faults = 0 then ⟨0, 0#32, 0#32⟩ else ⟨1, w32 (min 65535 faults), w32 addr⟩) := by
  have htag : o.tag = tag := by simpa using List.find?_some (p := fun q : Op => q.tag == tag) ho
  subst htag
  unfold retOf marchReturned
  dsimp only
  rw [opOf_giveRet _ ho]
  rfl

end

/-! #### The end of a march -/

section
variable (s : State) (n : Fin 8) (faults el addr : Nat) (bits : List W32)

theorem marchNoted_keeps : let t := marchNoted s n faults el addr bits
    t.banks = (marchOver s n).banks ∧ t.ops = s.ops
      ∧ ∀ x, memByte t x = if (bank s n).march ≠ 2 ∧ x / 0x100000 = n.val then 0#8 else memByte s x := by
  obtain ⟨hbanks, hmem, hfill, hops⟩ := marchAlarmed_keeps (marchShown (marchHeld (marchOver s n) n (decide ((bank s n).march = 2))) n
    (decide ((bank s n).march = 2)) faults el addr bits) n faults
  obtain ⟨hbanks', hmem', hfill', hops'⟩ := marchShown_keeps (marchHeld (marchOver s n) n (decide ((bank s n).march = 2))) n
    (decide ((bank s n).march = 2)) faults el addr bits
  unfold marchNoted
  dsimp only
  refine ⟨?_, ?_, fun x => ?_⟩
  · rw [hbanks, hbanks', marchHeld_banks]
  · rw [hops, hops', marchHeld_ops, marchOver_ops]
  · rw [memByte_congr hmem hfill, memByte_congr hmem' hfill', marchHeld_memByte, marchOver_mem]
    simp only [decide_eq_false_iff_not]

theorem marchNoted_bank : (bank (marchNoted s n faults el addr bits) n).march = 0 := by
  obtain ⟨hbanks, -, -⟩ := marchNoted_keeps s n faults el addr bits
  rw [bank_congr hbanks, marchOver_march]

theorem rd_marchNoted {r : Nat} (hblock : r / 0x10000 = 6) (hevt : r ≠ R.BNK_EVT n) : rd (marchNoted s n faults el addr bits) r
    = rd (marchShown (marchHeld (marchOver s n) n (decide ((bank s n).march = 2))) n (decide ((bank s n).march = 2)) faults el addr bits) r :=
  rd_marchAlarmed _ n faults (bankReg_block hblock) hevt

end

section
variable {s : State} (n : Fin 8) (faults el a : Nat) (bits : List W32)

theorem exec_marchDone (h : s.pwr.stage ≠ .s2) : exec (.marchDone n faults el a bits false) s = .next (marchDone n faults el a bits false s) := by
  show execMarchDone n faults el a bits false s = _
  unfold execMarchDone
  dsimp only
  rw [if_neg (by simp [h])]

theorem marchDone_does (hmarch : (bank s n).march ≠ 0) (hstage : s.pwr.stage ≠ .s2) (ha : a < 2 ^ 32) :
    Does (.marchDone n faults el a bits false) s (fun t => (bank t n).march = 0 ∧ getf t (F.BNK_MRES_FAULTS n) = min 65535 faults
        ∧ getf t (F.BNK_MRES_ELEMENT n) = (if faults = 0 then 0 else el % 16) ∧ isSet t (F.BNK_MRES_DONE n) = true
        ∧ (rd t (R.BNK_MADDR n)).toNat = (if faults = 0 then 0 else a) ∧ (faults ≠ 0 → isSet t (F.BNK_EVT_FAULT n) = true)
        ∧ (∀ x, memByte t x = if (bank s n).march ≠ 2 ∧ x / 0x100000 = n.val then 0#8 else memByte s x)
        ∧ ∀ o tag, (bank s n).marchOp = some tag → opOf s tag = some o → retOf t tag = some (if faults = 0 then ⟨0, 0#32, 0#32⟩
            else ⟨1, w32 (min 65535 faults), w32 a⟩)) := by
  have hexec := exec_marchDone n faults el a bits hstage
  rw [marchDone_eq s n hmarch] at hexec
  obtain ⟨hbanks, hmem, hfill, hops, hrd⟩ := marchTail_keeps (marchNoted s n faults el a bits) n
    ((bank s n).marchOp.bind (opOf (marchNoted s n faults el a bits))) faults a (bank s n)
  obtain ⟨-, hops', hmem'⟩ := marchNoted_keeps s n faults el a bits
  have hmres : rd _ (R.BNK_MRES n) = _ := (hrd (R.BNK_MRES n) (by
      simp only [fenceRegs, List.mem_cons, List.not_mem_nil, or_false, R.BNK_MRES, R.RST_DOM_FENCED, R.RST_DOM_REQ, R.RST_DOM_INRST, R.BNK_PSTATE,
        R.RST_LOG_HEAD]
      omega)).trans (rd_marchNoted s n faults el a bits (by simp only [R.BNK_MRES]; omega) (by simp only [R.BNK_MRES, R.BNK_EVT]; omega))
  have hmaddr : rd _ (R.BNK_MADDR n) = _ := (hrd (R.BNK_MADDR n) (by
      simp only [fenceRegs, List.mem_cons, List.not_mem_nil, or_false, R.BNK_MADDR, R.RST_DOM_FENCED, R.RST_DOM_REQ, R.RST_DOM_INRST, R.BNK_PSTATE,
        R.RST_LOG_HEAD]
      omega)).trans (rd_marchNoted s n faults el a bits (by simp only [R.BNK_MADDR]; omega) (by simp only [R.BNK_MADDR, R.BNK_EVT]; omega))
  have hevt := hrd (R.BNK_EVT n) (by
      simp only [fenceRegs, List.mem_cons, List.not_mem_nil, or_false, R.BNK_EVT, R.RST_DOM_FENCED, R.RST_DOM_REQ, R.RST_DOM_INRST, R.BNK_PSTATE,
        R.RST_LOG_HEAD]
      omega)
  refine ⟨_, hexec, ?_, ?_, ?_, ?_, ?_, fun hf => ?_, fun x => ?_, fun o tag hop ho => ?_⟩
  · exact (congrArg Bank.march (bank_congr hbanks n)).trans (marchNoted_bank s n faults el a bits)
  · exact (getf_congr (f := F.BNK_MRES_FAULTS n) hmres).trans (marchShown_faults ..)
  · exact (getf_congr (f := F.BNK_MRES_ELEMENT n) hmres).trans (marchShown_element ..)
  · exact (isSet_congr (f := F.BNK_MRES_DONE n) hmres).trans (marchShown_done ..)
  · rw [hmaddr, marchShown_addr]
    split
    · rfl
    · exact (BitVec.toNat_ofNat a 32).trans (Nat.mod_eq_of_lt ha)
  · exact (isSet_congr (f := F.BNK_EVT_FAULT n) hevt).trans (marchAlarmed_evt _ n hf)
  · exact (memByte_congr hmem hfill x).trans (hmem' x)
  · have ho' : opOf (marchNoted s n faults el a bits) tag = some o := (opOf_congr hops' tag).trans ho
    have hfound : (bank s n).marchOp.bind (opOf (marchNoted s n faults el a bits)) = some o := by rw [hop]; exact ho'
    refine (congrArg (Option.bind · (·.ret)) (opOf_congr hops tag)).trans ?_
    rw [hfound]
    exact marchReturned_ret _ ho' faults a

end

/-- Settles O35: each command's own lemma; what the stages behind the readout leave alone is `StartStep`. -/
theorem stagedStart : Obligations.StagedStart := by
  unfold Obligations.StagedStart
  intro s
  refine ⟨fun head test src h ht => ⟨fun htest => ?_, fun htest => ?_⟩, fun h => ⟨pwrgrantInHigh_does h, grantTimeout_does h⟩,
    fun h hq => ⟨mgmtGroupPowered_groups h hq, mgmtGroupPowered_reads h hq⟩,
    fun src l hready hpath => ⟨bootSourceFail_does hready hpath, bootReadoutDone_does hready hpath⟩,
    fun n l => s2BankPowered_does, fun g l hq => ⟨s3GroupPowered_does hq, fun hl => recoveryEnd_does (by rw [hq, hl])⟩,
    fun w l => s4WaveDone_does, grantPoint_does, fun n faults el a bits => marchDone_does n faults el a bits⟩
  · subst htest; exact s0Complete_test head src h ht
  · subst htest; exact s0Complete_does head src h ht

end Sys2Proof.Machine

/-! ### Warm unit resets (R110, R111, R115, R359, R552) -/
namespace Sys2Proof.Machine

/-! #### A domain that is held for its reset -/

/-- Domain `d` is fenced for a reset under source code `src`, which it waits for or is in. -/
structure ResetHeld (s : State) (d src : Nat) : Prop where
  fenced_eq : fenced s d = true
  reset_eq : (dom s d).resetBy = some src
  not_ready : (dom s d).fence ≠ .ready

namespace ResetHeld
variable {s t : State} {d src : Nat}

theorem resetFenced (h : ResetHeld s d src) : resetFenced s d src := ⟨h.fenced_eq, h.reset_eq⟩

theorem congr (h : ResetHeld s d src) (hdom : dom t d = dom s d) (hfenced : fenced t d = fenced s d) : ResetHeld t d src :=
  ⟨hfenced.trans h.fenced_eq, by rw [hdom]; exact h.reset_eq, by rw [hdom]; exact h.not_ready⟩

/-- Asking for the reset holds the domain for it. -/
theorem requestReset (s : State) {d : Nat} (hd : d < 32) (src drain : Nat) (again : Bool) :
    ResetHeld (requestReset s d src drain again) d src := by
  refine ⟨requestReset_fenced s src drain again hd, ?_, ?_⟩
  · rw [dom_requestReset]
  · rw [dom_requestReset]; exact fenceAsked_ne_ready _ _

/-- Letting go of any domain leaves it held. -/
theorem releaseHolder {e : Nat} (he : e < 32) (k : Nat) (h : ResetHeld s d src) : ResetHeld (releaseHolder s e k) d src := by
  by_cases hde : d = e
  · subst hde
    have hsame : dom (setDom s d { dom s d with holders := (dom s d).holders.filter (fun j => j != k) }) d
        = { dom s d with holders := (dom s d).holders.filter (fun j => j != k) } := dom_setDom ..
    have hkeep : Machine.releaseHolder s d k = setDom s d { dom s d with holders := (dom s d).holders.filter (fun j => j != k) } :=
      tryReopen_held _ (by rw [hsame]; simp [h.reset_eq]) (by rw [hsame]; exact h.not_ready)
    rw [hkeep]
    exact ⟨h.fenced_eq, by rw [hsame]; exact h.reset_eq, by rw [hsame]; exact h.not_ready⟩
  · exact h.congr ((releaseHolder_step s he k).dom_eq d hde) ((releaseHolder_step s he k).fenced_eq d hde)

end ResetHeld

/-! #### What the flush of a warm reset leaves as it is -/

/-- Between `s` and `t` domains held for a reset stay so, and the cause of the last reset stays as noted. -/
structure WarmStep (s t : State) : Prop where
  held : ∀ d src, ResetHeld s d src → ResetHeld t d src
  cause : rd t R.RST_CAUSE = rd s R.RST_CAUSE

namespace WarmStep
variable {s0 s t : State}

theorem refl (s : State) : WarmStep s s := ⟨fun _ _ => id, rfl⟩

theorem trans (h : WarmStep s0 s) (k : WarmStep s t) : WarmStep s0 t :=
  ⟨fun d src hd => k.held d src (h.held d src hd), k.cause.trans h.cause⟩

/-- An operation that has neither a domain nor the registers of the resets in its footprint. -/
theorem made {M : Nat} (k : Made M s t) (hdoms : M.testBit 13 = false) (hrst : M.testBit 66 = false) : WarmStep s t :=
  ⟨fun d _ h => h.congr (dom_congr (k.doms hdoms) d) (fenced_congr (k.blk _ hrst) d), k.blk _ hrst⟩

theorem foldl {α : Type} {f : State → α → State} (hf : ∀ t x, WarmStep t (f t x)) (l : List α) (s : State) : WarmStep s (l.foldl f s) := by
  induction l generalizing s with
  | nil => exact .refl s
  | cons x l ih => exact (hf s x).trans (ih _)

end WarmStep

section
variable (s : State)

theorem releaseHolder_warm {e : Nat} (he : e < 32) (k : Nat) : WarmStep s (releaseHolder s e k) :=
  ⟨fun _ _ h => h.releaseHolder he k, (releaseHolder_step s he k).rd_eq _ (by decide)⟩

theorem marchGone_warm (n : Nat) : WarmStep s (marchGone s n) := by
  have hbank : 6 ≠ blockOf R.RST_CAUSE ∧ 6 ≠ blockOf R.RST_DOM_FENCED := by decide
  have hset (u : State) {f : Fld} (hf : blockOf f.reg = 6) (v : Nat) : WarmStep u (setf u f v) := by
    have hne {r : Nat} (hr : 6 ≠ blockOf r) : rd (setf u f v) r = rd u r := rd_setf_ne (by rintro rfl; exact hr hf.symm) u v
    exact ⟨fun d _ h => h.congr rfl (fenced_congr (hne hbank.2) d), hne hbank.1⟩
  have hown : WarmStep s (setBank s n { bank s n with march := 0, marchOp := none }) := ⟨fun _ _ h => h.congr rfl rfl, rfl⟩
  exact (((hown.trans (hset _ (F.BNK_STAT_MARCH_blk n) 0)).trans (hset _ (F.BNK_STAT_ROW_blk n) 0)).trans
    (hset _ (F.BNK_MRES_DONE_blk n) 0)).trans (hset _ (by decide) _)

theorem marchLost_warm (n : Nat) : WarmStep s (marchLost s n) := by
  unfold marchLost
  split
  · exact ⟨fun _ _ h => h.congr rfl rfl, rfl⟩
  · have hdrawn (u : State) : WarmStep u (drawn u) := ⟨fun _ _ h => h.congr rfl rfl, rfl⟩
    exact ((hdrawn s).trans (.made (loseBytes_made (Nat.or_self _) (drawn s) _ _ (.refl ..)) rfl rfl)).trans (hdrawn _)

theorem marchAbort_warm {n : Nat} (hn : n < 8) : WarmStep s (marchAbort s n) := by
  by_cases hmarch : (bank s n).march = 0
  · rw [show marchAbort s n = s from if_pos hmarch]
    exact .refl s
  · have hgone : WarmStep s (marchGone (marchLost s n) n) := (marchLost_warm s n).trans (marchGone_warm _ n)
    rw [marchAbort_eq s hmarch]
    split
    · exact hgone.trans (releaseHolder_warm _ (by omega) _)
    · exact hgone

/-- The staged descriptors of every context end. -/
def warmStaged (s : State) : State :=
  (s.ctxs.map (·.1)).foldl (fun t c =>
    let l := (ctx t c).staged
    flushStaged (setCtx t c { ctx t c with staged := [] }) c l)
    { (if s.ho.isSome then satAdd s F.CFG_HO_CNT_ABORTED 1 else s) with ho := none }

/-- The operations of the unit, and those that wait for others, end. -/
def warmEnded (s : State) : State :=
  let kept := s.ops.filter (fun o => o.ret.isSome)
  let s := kept.foldl (fun t o => complete t o (o.ret.getD ⟨0x1A, 0#32, 0#32⟩)) s
  let s := abortOps s s.ops
  s.enu.rmtWait.foldl (fun t m =>
    remoteDone t m.src (extractBits (m.w.getD 0 0#32) 16 12) { tag := 0, ctx := extractBits (m.w.getD 1 0#32) 0 10, sq := 0, words := rmtWords m }
      0x1A 0 0#32 0#32) (setEnu s { s.enu with rmtWait := [] })

theorem warmFlush_eq : warmFlush s = warmStaged ((List.range 8).foldl marchAbort (warmEnded s)) := rfl

theorem warmEnded_warm : WarmStep s (warmEnded s) := by
  have hkept (l : List Op) (u : State) : WarmStep u (l.foldl (fun t o => complete t o (o.ret.getD ⟨0x1A, 0#32, 0#32⟩)) u) :=
    .foldl (fun t o => .made (complete_made (Nat.or_self _) t o _ (.refl ..)) rfl rfl) l u
  have habort (u : State) (l : List Op) : WarmStep u (abortOps u l) := .made (abortOps_made (Nat.or_self _) u l (.refl ..)) rfl rfl
  have hwait (u : State) (x : Enu) : WarmStep u (setEnu u x) := ⟨fun _ _ h => h.congr rfl rfl, rfl⟩
  exact ((hkept _ s).trans (habort _ _)).trans ((hwait _ _).trans
    (.foldl (fun t m => .made (remoteDone_made (Nat.or_self _) t _ _ _ _ _ _ _ (.refl ..)) rfl rfl) _ _))

theorem warmStaged_warm : WarmStep s (warmStaged s) := by
  have hho (u : State) : WarmStep u { u with ho := none } := ⟨fun _ _ h => h.congr rfl rfl, rfl⟩
  have hcount : WarmStep s (if s.ho.isSome then satAdd s F.CFG_HO_CNT_ABORTED 1 else s) := by
    split
    · exact ⟨fun d _ h => h.congr rfl (fenced_congr (rd_setf_ne (by decide) _ _) d), rd_setf_ne (by decide) _ _⟩
    · exact .refl s
  have hctx (u : State) (c : Nat) (x : Ctx) : WarmStep u (setCtx u c x) := ⟨fun _ _ h => h.congr rfl rfl, rfl⟩
  exact (hcount.trans (hho _)).trans (.foldl (fun t c => (hctx t c _).trans (.made (flushStaged_made (Nat.or_self _) _ c _ (.refl ..)) rfl rfl)) _ _)

theorem warmFlush_warm : WarmStep s (warmFlush s) := by
  have hmarch (l : List Nat) (hl : ∀ n ∈ l, n < 8) (u : State) : WarmStep u (l.foldl marchAbort u) := by
    induction l generalizing u with
    | nil => exact .refl u
    | cons n l ih => exact (marchAbort_warm u (hl n List.mem_cons_self)).trans (ih (fun k hk => hl k (List.mem_cons_of_mem n hk)) _)
  rw [warmFlush_eq]
  exact ((warmEnded_warm s).trans (hmarch _ (fun n hn => List.mem_range.1 hn) _)).trans (warmStaged_warm _)

theorem warmCheck_warm : WarmStep s (warmCheck s) := by
  unfold warmCheck
  split
  · exact warmFlush_warm s
  · exact .refl s

theorem warmCheck_pwr : (warmCheck s).pwr = s.pwr := by
  unfold warmCheck
  split
  · exact (warmFlush_made (Nat.or_self _) s (.refl ..)).pwr rfl
  · rfl

end

/-! #### The request -/

/-- Each powered domain of a list is asked for its reset. -/
def resetAll (s : State) (src : Nat) (l : List Nat) : State :=
  l.foldl (fun t d => if (dom t d).powered then requestReset t d src (rstDrain t) true else t) s

section
variable (src : Nat)

theorem requestReset_pwr (s : State) (d drain : Nat) (again : Bool) : (requestReset s d src drain again).pwr = s.pwr :=
  (requestReset_made (Nat.or_self _) s d src drain again (.refl ..)).pwr rfl

theorem resetAll_pwr (l : List Nat) (s : State) : (resetAll s src l).pwr = s.pwr := by
  induction l generalizing s with
  | nil => rfl
  | cons d l ih =>
    refine (ih _).trans ?_
    dsimp only
    split
    · exact requestReset_pwr src ..
    · rfl

theorem resetAll_cause (l : List Nat) (hl : ∀ d ∈ l, d < 32) (s : State) : rd (resetAll s src l) R.RST_CAUSE = rd s R.RST_CAUSE := by
  induction l generalizing s with
  | nil => rfl
  | cons d l ih =>
    refine (ih (fun e he => hl e (List.mem_cons_of_mem d he)) _).trans ?_
    dsimp only
    split
    · exact (requestReset_step s src _ true (hl d List.mem_cons_self)).rd_eq _ (by decide)
    · rfl

/-- Each powered domain of the list is held for the reset. -/
theorem resetAll_held (l : List Nat) (hl : ∀ d ∈ l, d < 32) (s : State) (e : Nat)
    (h : ResetHeld s e src ∨ e ∈ l ∧ (dom s e).powered = true) : ResetHeld (resetAll s src l) e src := by
  induction l generalizing s with
  | nil => exact h.resolve_right (by simp)
  | cons d l ih =>
    have hd : d < 32 := hl d List.mem_cons_self
    refine ih (fun k hk => hl k (List.mem_cons_of_mem d hk)) _ ?_
    dsimp only
    split_ifs with hp
    · by_cases hed : e = d
      · exact .inl (hed ▸ ResetHeld.requestReset s hd src _ true)
      · have hstep := requestReset_step s src (rstDrain s) true hd
        rcases h with h | ⟨hin, hpow⟩
        · exact .inl (h.congr (hstep.dom_eq e hed) (hstep.fenced_eq e hed))
        · exact .inr ⟨(List.mem_cons.1 hin).resolve_left hed, by rw [hstep.dom_eq e hed]; exact hpow⟩
    · rcases h with h | ⟨hin, hpow⟩
      · exact .inl h
      · rcases List.mem_cons.1 hin with rfl | hin
        · exact absurd hpow hp
        · exact .inr ⟨hin, hpow⟩

end

section
variable {s : State} {src : Nat}

/-- The request is logged and noted as the cause. -/
def warmNoted (s : State) (src : Nat) : State :=
  let t := noteCause (logEvent s 31 6 src 0 0) src
  setPwr t { t.pwr with warm := 1, warmSrc := src }

theorem warmNoted_pwr (s : State) (src : Nat) : (warmNoted s src).pwr.warm = 1 ∧ (warmNoted s src).pwr.warmSrc = src := by
  unfold warmNoted
  rw [setPwr_pwr]
  exact ⟨rfl, rfl⟩

theorem warmNoted_keeps (s : State) (src : Nat) : (warmNoted s src).doms = s.doms ∧ (warmNoted s src).pwr.wdtLast = s.pwr.wdtLast := by
  unfold warmNoted noteCause logEvent satAdd
  dsimp only [setPwr_doms, setf_doms, setPwr_pwr, setf_pwr]
  exact ⟨rfl, rfl⟩

theorem warmNoted_last (s : State) {src : Nat} (hsrc : src < 16) : getf (warmNoted s src) F.RST_CAUSE_LAST = src := by
  unfold warmNoted noteCause satAdd
  rw [getf_congr (setPwr_rd ..), getf_setf_apart (by decide), getf_setf_fits _ (by decide) hsrc]

theorem warmReset_eq (hwarm : s.pwr.warm = 0) (hstage : s.pwr.stage = .run) :
    warmReset s src = warmCheck (resetAll (warmNoted s src) src warmReach) := if_neg (by simp [hwarm, hstage])

theorem warmReset_pwr (hwarm : s.pwr.warm = 0) (hstage : s.pwr.stage = .run) : (warmReset s src).pwr = (warmNoted s src).pwr := by
  rw [warmReset_eq hwarm hstage, warmCheck_pwr, resetAll_pwr]

theorem warmReset_begins (hwarm : s.pwr.warm = 0) (hstage : s.pwr.stage = .run) (hsrc : src < 16) : warmBegun s (warmReset s src) src := by
  have hreach : ∀ d ∈ warmReach, d < 32 := by decide
  have hwarmed := warmCheck_warm (resetAll (warmNoted s src) src warmReach)
  obtain ⟨hone, hsource⟩ := warmNoted_pwr s src
  obtain ⟨hdoms, -⟩ := warmNoted_keeps s src
  refine ⟨(congrArg Pwr.warm (warmReset_pwr hwarm hstage)).trans hone, (congrArg Pwr.warmSrc (warmReset_pwr hwarm hstage)).trans hsource, ?_,
    fun d hd hpow => ?_⟩
  · rw [warmReset_eq hwarm hstage, getf_congr (f := F.RST_CAUSE_LAST) hwarmed.cause,
      getf_congr (f := F.RST_CAUSE_LAST) (resetAll_cause src _ hreach _), warmNoted_last s hsrc]
  · rw [warmReset_eq hwarm hstage]
    exact (hwarmed.held d src (resetAll_held src _ hreach _ d (.inr ⟨hd, by rw [dom_congr hdoms]; exact hpow⟩))).resetFenced

theorem rstUnit_wrong (m : Master) (key : Nat) (h : key ≠ 0xC0DE) : exec (.rstUnit m key) s = .next s := congrArg Host.Outcome.next (if_neg h)

theorem rstUnit_does (m : Master) (hwarm : s.pwr.warm = 0) (hstage : s.pwr.stage = .run) :
    Does (.rstUnit m 0xC0DE) s (fun t => warmBegun s t (srcOf m)) :=
  ⟨warmReset s (srcOf m), congrArg Host.Outcome.next (if_pos rfl), warmReset_begins hwarm hstage (by cases m <;> decide)⟩

end

end Sys2Proof.Machine

/-! ### The watchdog and RESET_CMD (R111, R115, R359, R552) -/
namespace Sys2Proof.Machine

section
variable {s : State}

/-! #### The watchdog -/

/-- The second expiry within a second escalates, where RST_CTL allows it. -/
def wdtAgain (s : State) : Bool :=
  isSet s F.RST_CTL_WDT_ESC && (match s.pwr.wdtLast with | some t => decide (s.clk - t < 1000000000) | none => false)

/-- The expiry is logged and its moment kept. -/
def wdtNoted (s : State) : State := logEvent (setPwr s { s.pwr with wdtLast := some s.clk }) 20 7 4 (b2n (wdtAgain s)) 0

theorem wdtNoted_pwr (s : State) : (wdtNoted s).pwr = { s.pwr with wdtLast := some s.clk } := rfl

theorem wdtNoted_doms (s : State) : (wdtNoted s).doms = s.doms := rfl

theorem wdtNoted_fenced (s : State) (d : Nat) : fenced (wdtNoted s) d = fenced s d := fenced_logEvent ..

theorem exec_watchdogExpiry (hin : inReset s 20 = false) (hen : isSet s F.KIT_WDT_CTL_EN = true) (hrun : s.kite.run = true)
    (hreset : (dom s 20).resetBy = none) :
    exec .watchdogExpiry s = .next (if wdtAgain s then warmReset (wdtNoted s) 4 else requestReset (wdtNoted s) 20 4 0 true) :=
  if_neg (by simp [hin, hen, hrun, hreset])

theorem watchdogExpiry_first (hin : inReset s 20 = false) (hen : isSet s F.KIT_WDT_CTL_EN = true) (hrun : s.kite.run = true)
    (hreset : (dom s 20).resetBy = none) (hfirst : wdtAgain s = false) :
    Does .watchdogExpiry s (fun t => resetFenced t 20 4 ∧ t.pwr.wdtLast = some s.clk ∧ t.pwr.warm = s.pwr.warm
      ∧ (fenced s 20 = false → (dom t 20).drainUs = 0)) := by
  have hexec := exec_watchdogExpiry hin hen hrun hreset
  rw [hfirst, if_neg (by decide)] at hexec
  have hpwr : (requestReset (wdtNoted s) 20 4 0 true).pwr = { s.pwr with wdtLast := some s.clk } :=
    (requestReset_pwr ..).trans (wdtNoted_pwr s)
  exact ⟨_, hexec, requestReset_resetFenced _ 4 0 true (by decide), congrArg Pwr.wdtLast hpwr, (congrArg Pwr.warm hpwr).trans rfl,
    fun hopen => requestReset_drainUs _ 4 0 true ((wdtNoted_fenced s 20).trans hopen)⟩

/-- A warm unit reset that begins from a state with the same domains begins from this one. -/
theorem warmBegun_congr {t u : State} {src : Nat} (hdoms : u.doms = s.doms) (h : warmBegun u t src) : warmBegun s t src := by
  obtain ⟨hwarm, hsrc, hlast, hheld⟩ := h
  exact ⟨hwarm, hsrc, hlast, fun d hd hpow => hheld d hd (by rw [dom_congr hdoms]; exact hpow)⟩

theorem watchdogExpiry_again (hin : inReset s 20 = false) (hen : isSet s F.KIT_WDT_CTL_EN = true) (hrun : s.kite.run = true)
    (hreset : (dom s 20).resetBy = none) (hagain : wdtAgain s = true) (hwarm : s.pwr.warm = 0) (hstage : s.pwr.stage = .run) :
    Does .watchdogExpiry s (fun t => warmBegun s t 4 ∧ t.pwr.wdtLast = some s.clk) := by
  have hexec := exec_watchdogExpiry hin hen hrun hreset
  rw [hagain, if_pos rfl] at hexec
  have hwarm' : (wdtNoted s).pwr.warm = 0 := hwarm
  have hstage' : (wdtNoted s).pwr.stage = .run := hstage
  refine ⟨_, hexec, warmBegun_congr (wdtNoted_doms s) (warmReset_begins hwarm' hstage' (by decide)), ?_⟩
  rw [warmReset_pwr hwarm' hstage', (warmNoted_keeps (wdtNoted s) 4).2, wdtNoted_pwr]

/-! #### RESET_CMD -/

/-- Taking a message leaves the power staging, the domains and the registers of the resets as they are. -/
structure Taken (s t : State) : Prop where
  pwr_eq : t.pwr = s.pwr
  doms_eq : t.doms = s.doms
  rst_eq : ∀ r, blockOf r = 2 → rd t r = rd s r

theorem Taken.of_made {M : Nat} {t : State} (h : Made M s t) (hpwr : M.testBit 12 = false) (hdoms : M.testBit 13 = false)
    (hrst : M.testBit 66 = false) : Taken s t :=
  ⟨h.pwr hpwr, h.doms hdoms, fun r hr => h.blk r (by rw [hr]; exact hrst)⟩

/-- A RESET_CMD for this unit is taken up. -/
theorem exec_resetCmd (p : Fin 2) (m : Msg) (h : m.dst = toAll ∧ portUp s 0 = true ∨ m.dst ≠ toAll ∧ arrives s p m) :
    ∃ t, Taken s t ∧ exec (.resetCmd p m) s = .next (takeReset t m) := by
  rcases h with ⟨hdst, hup⟩ | ⟨hdst, hup, htakes⟩
  · exact ⟨takeFlood s 0 m m, .of_made (takeFlood_made (Nat.or_self _) s 0 m m (.refl ..)) rfl rfl rfl,
      (if_pos hdst).trans (if_pos hup)⟩
  · refine ⟨takeMsg s p m, .of_made (takeMsg_made (Nat.or_self _) s p m (.refl ..)) rfl rfl rfl, (if_neg hdst).trans ?_⟩
    exact (if_neg (by simp [hup])).trans (if_pos htakes)

theorem resetCmd_permitted (p : Fin 2) (m : Msg) (hkey : extractBits (mw m 1) 0 16 = 0xC0DE)
    (h : m.dst = toAll ∧ portUp s 0 = true ∨ m.dst ≠ toAll ∧ arrives s p m) (hen : isSet s F.RST_CTL_CHN_RST_EN = true)
    (hwarm : s.pwr.warm = 0) (hstage : s.pwr.stage = .run) : Does (.resetCmd p m) s (fun t => warmBegun s t 3) := by
  obtain ⟨u, ⟨hpwr, hdoms, hrst⟩, hexec⟩ := exec_resetCmd p m h
  have hwarm' : u.pwr.warm = 0 := by rw [hpwr]; exact hwarm
  have hstage' : u.pwr.stage = .run := by rw [hpwr]; exact hstage
  have hen' : isSet u F.RST_CTL_CHN_RST_EN = true := (isSet_congr (hrst _ (by decide))).trans hen
  have hstart : starting u = false := by unfold starting; rw [hstage']
  have htake : takeReset u m = warmReset u 3 := by
    unfold takeReset
    rw [if_neg (not_not_intro hkey), hen', hstart, hwarm']
    exact if_pos (by decide)
  rw [htake] at hexec
  exact ⟨_, hexec, warmBegun_congr hdoms (warmReset_begins hwarm' hstage' (by decide))⟩

theorem logEvent_count (s : State) (d k src a b : Nat) :
    getf (logEvent s d k src a b) F.RST_LOG_HEAD_COUNT = min 65535 (getf s F.RST_LOG_HEAD_COUNT + 1) := by
  unfold logEvent
  dsimp only
  have hindex (u : State) (v : Nat) : getf (setf u F.RST_LOG_HEAD_INDEX v) F.RST_LOG_HEAD_COUNT = getf u F.RST_LOG_HEAD_COUNT :=
    getf_setf_apart (by decide)
  unfold satAdd
  rw [hindex, getf_setf_fits _ (by decide) (lt_of_le_of_lt (Nat.min_le_left _ _) (by decide))]
  rfl

theorem resetCmd_refused (p : Fin 2) (m : Msg) (hkey : extractBits (mw m 1) 0 16 = 0xC0DE)
    (h : m.dst = toAll ∧ portUp s 0 = true ∨ m.dst ≠ toAll ∧ arrives s p m) (hen : isSet s F.RST_CTL_CHN_RST_EN = false) :
    Does (.resetCmd p m) s (fun t => t.pwr = s.pwr ∧ t.doms = s.doms
      ∧ getf t F.RST_LOG_HEAD_COUNT = min 65535 (getf s F.RST_LOG_HEAD_COUNT + 1)) := by
  obtain ⟨u, ⟨hpwr, hdoms, hrst⟩, hexec⟩ := exec_resetCmd p m h
  have hen' : isSet u F.RST_CTL_CHN_RST_EN = false := (isSet_congr (hrst _ (by decide))).trans hen
  have htake : takeReset u m = logEvent u 31 9 3 m.src 0 := by
    unfold takeReset
    rw [if_neg (not_not_intro hkey), hen']
    exact if_neg (by simp)
  have hcount : getf u F.RST_LOG_HEAD_COUNT = getf s F.RST_LOG_HEAD_COUNT := getf_congr (hrst _ (by decide))
  rw [htake] at hexec
  exact ⟨_, hexec, hpwr, hdoms, by rw [logEvent_count, hcount]⟩

end

end Sys2Proof.Machine

/-! ### RST_N, power-on reset and the rails (R81, R84, R85, R104, R109, R586, R631) -/
namespace Sys2Proof.Machine

/-! #### What every reset of the whole unit drives -/

section
variable (s : State)

/-- User I/O goes high-impedance and the grant is withdrawn. -/
def pinsLow : State := driveGrant (ioOff s) 0

theorem pinsLow_made : Made 36893628884907458594 s (pinsLow s) :=
  driveGrant_made (by decide) _ 0 (ioOff_made (by decide) s (.refl ..))

theorem rd_pinsLow {r : Nat} (h : r ≠ R.PWR_STAT) : rd (pinsLow s) r = rd s r :=
  (emit_rd ..).trans ((rd_setf_ne h _ _).trans (emit_rd ..))

theorem pinsLow_out : .pin .pwrgrantOut 0 ∈ (pinsLow s).out := by
  have hout : (pinsLow s).out = (ioOff s).out ++ [.pin .pwrgrantOut 0] := driveGrant_out ..
  rw [hout]
  exact List.mem_append_right _ (List.mem_singleton_self _)

theorem pinsLow_tap : (pinsLow s).tap = { s.tap with io := false } := by
  have hgrant : (driveGrant (ioOff s) 0).tap = (ioOff s).tap := (driveGrant_made (Nat.or_self _) (ioOff s) 0 (.refl ..)).tap rfl
  exact hgrant.trans (emit_tap ..)

theorem bypLow_out : (bypLow s).out = s.out ++ [.pin .bypN 0] := emit_out _ _ (Bool.and_false _)

theorem noteCause_last {src : Nat} (hsrc : src < 16) : getf (noteCause s src) F.RST_CAUSE_LAST = src := by
  unfold noteCause satAdd
  rw [getf_setf_apart (by decide), getf_setf_fits _ (by decide) hsrc]

theorem rd_noteCause {r : Nat} (h : r ≠ R.RST_CAUSE) (src : Nat) : rd (noteCause s src) r = rd s r :=
  (rd_setf_ne h _ _).trans (rd_setf_ne h _ _)

/-- A register of no class that is reset, which shows neither pins nor banks nor an attempt of the life cycle, stays. -/
theorem rd_unitReset_kept (p : RegClass → Bool) {r : Nat} (hclass : p (regClass r) = false) (hshown : r ∉ shownRegs)
    (hstat : ∀ n, r ≠ R.BNK_STAT n) (hblock : blockOf r ≠ 20) : rd (unitReset s p) r = rd s r := by
  have hne : ∀ q ∈ shownRegs, r ≠ q := fun q hq he => hshown (he ▸ hq)
  have hcut : rd (cutStores s) r = rd s r := by
    have hbit : ∀ b < 32, b ≠ 20 → Nat.testBit 19342813113904504661737490 (64 + b) = false := by decide
    exact (cutStores_made (Nat.or_self _) s (.refl ..)).blk r (hbit _ (Nat.mod_lt _ (by decide)) hblock)
  rw [unitReset_eq, rd_showBanks _ _ hstat (hne _ (by decide))]
  unfold unitDropped
  dsimp only
  rw [rd_setf_ne (hne _ (by decide)), rd_setf_ne (hne _ (by decide)), rd_setf_ne (hne _ (by decide)), rd_setf_ne (hne _ (by decide)),
    rd_resetRegs, hclass]
  exact hcut

end

/-! #### RST_N -/

section
variable {s : State}

/-- The unit as RST_N finds it reset. -/
def rstNReset (s : State) : State := noteCause (unitReset ((List.range 8).foldl bankCut s) classRstN) 1

/-- The unit held in reset by RST_N. -/
def rstNLow (s : State) : State := holdPwr (bypLow (pinsLow (setPwr s { s.pwr with rstN := true }))) (some 1) (some 0)

theorem exec_rstNFall (hn : s.pwr.rstN = false) (howl : bit s.pwr.railsOff 2 = false) :
    exec (.rstNFall []) s = .next (rstNLow (rstNReset s)) := by
  show execRstNFall [] s = _
  unfold execRstNFall
  rw [hn, howl, if_neg (by decide), if_neg (by decide)]
  dsimp only [List.foldl_nil]
  unfold rstNLow pinsLow rstNReset
  rfl

theorem rstNLow_pwr (s : State) : (rstNLow s).pwr.stage = .hold ∧ (rstNLow s).pwr.rstN = true := by
  have hpwr : (bypLow (pinsLow (setPwr s { s.pwr with rstN := true }))).pwr = { s.pwr with rstN := true } := by
    unfold bypLow
    rw [emit_pwr, (pinsLow_made _).pwr rfl, setPwr_pwr]
  unfold rstNLow holdPwr
  rw [hpwr, setPwr_pwr]
  exact ⟨rfl, rfl⟩

theorem rstNLow_keeps (s : State) : (rstNLow s).ops = s.ops ∧ (rstNLow s).ctxs = s.ctxs ∧ (rstNLow s).ports = s.ports
    ∧ (rstNLow s).mem = s.mem ∧ (rstNLow s).memFill = s.memFill := by
  have hmade := pinsLow_made (setPwr s { s.pwr with rstN := true })
  unfold rstNLow holdPwr bypLow
  rw [setPwr_ops, setPwr_ctxs, setPwr_ports, setPwr_mem, setPwr_memFill, emit_ops, emit_ctxs, emit_ports, emit_mem, emit_memFill, hmade.ops rfl,
    hmade.ctxs rfl, hmade.ports rfl, hmade.mem rfl, hmade.memFill rfl]
  exact ⟨rfl, rfl, rfl, rfl, rfl⟩

theorem rd_rstNLow (s : State) {r : Nat} (h : r ≠ R.PWR_STAT) : rd (rstNLow s) r = rd s r := by
  unfold rstNLow holdPwr bypLow
  rw [setPwr_rd, emit_rd, rd_pinsLow _ h, setPwr_rd]

theorem rstNLow_out (s : State) : .pin .pwrgrantOut 0 ∈ (rstNLow s).out := by
  unfold rstNLow holdPwr
  rw [setPwr_out, bypLow_out]
  exact List.mem_append_left _ (pinsLow_out _)

theorem rstNReset_drops (s : State) : (rstNReset s).ops = [] ∧ (rstNReset s).ctxs = [] ∧ (rstNReset s).ports = [] := by
  unfold rstNReset noteCause satAdd
  rw [setf_ops, setf_ops, setf_ctxs, setf_ctxs, setf_ports, setf_ports]
  exact unitReset_drops _ _

theorem rd_rstNReset (s : State) {r : Nat} (hclass : classRstN (regClass r) = true) (hshown : r ∉ shownRegs) (hstat : ∀ n, r ≠ R.BNK_STAT n) :
    rd (rstNReset s) r = resetWord r :=
  (rd_noteCause _ (by rintro rfl; exact absurd hclass (by decide)) 1).trans (rd_unitReset _ _ hclass hshown hstat)

theorem rstNReset_memByte (s : State) (a : Nat) (hmarch : (bank s (a / 0x100000)).march = 0) (hst : (bank s (a / 0x100000)).st ≠ 3) :
    memByte (rstNReset s) a = memByte s a := by
  obtain ⟨-, hcut⟩ := bankCuts_quiet s _ hmarch hst
  unfold rstNReset noteCause satAdd
  rw [memByte_congr (setf_mem ..) (setf_memFill ..), memByte_congr (setf_mem ..) (setf_memFill ..),
    (unitReset_bankSame _ classRstN _).mem_eq a rfl]
  exact hcut a rfl

theorem rstNFall_does (hn : s.pwr.rstN = false) (howl : bit s.pwr.railsOff 2 = false) : Does (.rstNFall []) s (fun t =>
      t.pwr.stage = .hold ∧ t.pwr.rstN = true
      ∧ t.ops = [] ∧ t.ctxs = [] ∧ t.ports = [] ∧ getf t F.RST_CAUSE_LAST = 1 ∧ .pin .pwrgrantOut 0 ∈ t.out
      ∧ (∀ r, classRstN (regClass r) = true → r ∉ [R.HIF_STAT, R.PWR_STAT, R.CFG_STAT, R.BNK_PSTATE] → (∀ n, r ≠ R.BNK_STAT n) →
          rd t r = resetWord r)
      ∧ ∀ a, (bank s (a / 0x100000)).march = 0 → (bank s (a / 0x100000)).st ≠ 3 → memByte t a = memByte s a) := by
  obtain ⟨hstage, hheld⟩ := rstNLow_pwr (rstNReset s)
  obtain ⟨hops, hctxs, hports, hmem, hfill⟩ := rstNLow_keeps (rstNReset s)
  obtain ⟨hops', hctxs', hports'⟩ := rstNReset_drops s
  refine ⟨_, exec_rstNFall hn howl, hstage, hheld, hops.trans hops', hctxs.trans hctxs', hports.trans hports', ?_, rstNLow_out _,
    fun r hclass hshown hstat => ?_, fun a hmarch hst => ?_⟩
  · exact (getf_congr (f := F.RST_CAUSE_LAST) (rd_rstNLow _ (by decide))).trans (noteCause_last _ (by decide))
  · exact (rd_rstNLow _ fun he => hshown (by rw [he]; decide)).trans (rd_rstNReset s hclass hshown hstat)
  · exact (memByte_congr hmem hfill a).trans (rstNReset_memByte s a hmarch hst)

/-! #### Power good -/

theorem powerGood_starts (h : s.pwr.stage = .hold) (hn : s.pwr.rstN = false) (hrails : railsGood s = true) :
    powerGood s = setPwr s { s.pwr with stage := .s0, begun := s.clk } := if_pos ⟨h, hn, hrails⟩

theorem powerGood_waits (h : ¬(s.pwr.stage = .hold ∧ s.pwr.rstN = false ∧ railsGood s = true)) : powerGood s = s := if_neg h

theorem powerGood_frame (s : State) : powerGood s = { s with pwr := (powerGood s).pwr } := by unfold powerGood; split <;> rfl

theorem rstNRise_does (h : s.pwr.stage = .hold) : Does .rstNRise s (fun t => t = { s with pwr := t.pwr } ∧ t.pwr.rstN = false
      ∧ t.pwr.stage = if railsGood s then .s0 else .hold) := by
  let u := setPwr s { s.pwr with rstN := false }
  refine ⟨powerGood u, rfl, powerGood_frame u, ?_⟩
  by_cases hrails : railsGood s = true
  · rw [powerGood_starts (s := u) h rfl hrails, if_pos hrails]
    exact ⟨rfl, rfl⟩
  · rw [powerGood_waits (s := u) (fun hall => hrails hall.2.2), if_neg hrails]
    exact ⟨rfl, h⟩

theorem powerGoodEvent_does (h : s.pwr.stage = .hold) (hn : s.pwr.rstN = false) (hrails : railsGood s = true) :
    Does .powerGoodEvent s (fun t => t.pwr.stage = .s0 ∧ t = { s with pwr := t.pwr }) := by
  refine ⟨powerGood s, rfl, ?_, powerGood_frame s⟩
  rw [powerGood_starts h hn hrails]
  rfl

end

/-! #### Power-on reset, and the loss of VCCOWL -/

section
variable {s : State}

theorem banksOff_made (s : State) : Made 16396 s ((List.range 8).foldl bankOff s) :=
  .foldl (fun t n h => bankOff_made (Nat.or_self _) t n h) _ (.refl ..)

/-- The event log and the state of the test port are lost too. -/
def logLost (s : State) : State := { s with log := [], tap := {} }

theorem porAll_eq (s : State) : porAll s = logLost (unitReset ((List.range 8).foldl bankOff s) classPor) := by
  unfold porAll logLost
  rfl

theorem logLost_keeps (s : State) : (logLost s).ops = s.ops ∧ (logLost s).ctxs = s.ctxs ∧ (logLost s).pwr = s.pwr ∧ (logLost s).banks = s.banks :=
  ⟨rfl, rfl, rfl, rfl⟩

theorem logLost_lost (s : State) : (logLost s).log = [] ∧ (logLost s).tap = {} := ⟨rfl, rfl⟩

theorem rd_logLost (s : State) (r : Nat) : rd (logLost s) r = rd s r := rfl

theorem porAll_keeps (s : State) : (porAll s).ops = [] ∧ (porAll s).ctxs = [] ∧ (porAll s).log = [] ∧ (porAll s).tap = {}
    ∧ ∀ n < 8, (bank (porAll s) n).st = 0 := by
  obtain ⟨hops, hctxs, -⟩ := unitReset_drops ((List.range 8).foldl bankOff s) classPor
  obtain ⟨hbanks, -, -, -⟩ := unitReset_keeps ((List.range 8).foldl bankOff s) classPor
  obtain ⟨hops', hctxs', -, hbanks'⟩ := logLost_keeps (unitReset ((List.range 8).foldl bankOff s) classPor)
  obtain ⟨hlog, htap⟩ := logLost_lost (unitReset ((List.range 8).foldl bankOff s) classPor)
  rw [porAll_eq]
  exact ⟨hops'.trans hops, hctxs'.trans hctxs, hlog, htap, fun n hn => by rw [bank_congr hbanks', bank_congr hbanks]; exact banksOff_st s hn⟩

theorem rd_porAll (s : State) {r : Nat} (hclass : classPor (regClass r) = true) (hshown : r ∉ shownRegs) (hstat : ∀ n, r ≠ R.BNK_STAT n) :
    rd (porAll s) r = resetWord r := by
  rw [porAll_eq, rd_logLost]
  exact rd_unitReset _ classPor hclass hshown hstat

/-- The unit held in S0 by the power-on reset. -/
def porHeld (s : State) : State :=
  holdPwr (bypLow (pinsLow (setPwr s { s.pwr with railsOff := clearBit s.pwr.railsOff 2 }))) none (some 0)

theorem exec_powerOnReset (s : State) : exec .powerOnReset s = .next (porHeld (porAll s)) := by
  show execPowerOnReset s = _
  unfold execPowerOnReset porHeld pinsLow
  rfl

theorem porHeld_pwr (s : State) : (porHeld s).pwr.stage = .hold ∧ bit (porHeld s).pwr.railsOff 2 = false := by
  have hpwr : (bypLow (pinsLow (setPwr s { s.pwr with railsOff := clearBit s.pwr.railsOff 2 }))).pwr
      = { s.pwr with railsOff := clearBit s.pwr.railsOff 2 } := by
    unfold bypLow
    rw [emit_pwr, (pinsLow_made _).pwr rfl, setPwr_pwr]
  unfold porHeld holdPwr
  rw [hpwr, setPwr_pwr]
  exact ⟨rfl, bit_clearBit_same _ _⟩

theorem porHeld_keeps (s : State) : (porHeld s).ops = s.ops ∧ (porHeld s).ctxs = s.ctxs ∧ (porHeld s).log = s.log
    ∧ (porHeld s).banks = s.banks ∧ (porHeld s).tap = { s.tap with io := false } := by
  have hmade := pinsLow_made (setPwr s { s.pwr with railsOff := clearBit s.pwr.railsOff 2 })
  unfold porHeld holdPwr bypLow
  rw [setPwr_ops, setPwr_ctxs, setPwr_log, setPwr_banks, setPwr_tap, emit_ops, emit_ctxs, emit_log, emit_banks, emit_tap, hmade.ops rfl,
    hmade.ctxs rfl, hmade.log rfl, hmade.banks rfl, pinsLow_tap]
  exact ⟨rfl, rfl, rfl, rfl, rfl⟩

theorem rd_porHeld (s : State) {r : Nat} (h : r ≠ R.PWR_STAT) : rd (porHeld s) r = rd s r := by
  unfold porHeld holdPwr bypLow
  rw [setPwr_rd, emit_rd, rd_pinsLow _ h, setPwr_rd]

theorem porHeld_out (s : State) : .pin .pwrgrantOut 0 ∈ (porHeld s).out ∧ .pin .bypN 0 ∈ (porHeld s).out := by
  unfold porHeld holdPwr
  rw [setPwr_out, bypLow_out]
  exact ⟨List.mem_append_left _ (pinsLow_out _), List.mem_append_right _ (List.mem_singleton_self _)⟩

theorem powerOnReset_does (s : State) : Does .powerOnReset s (fun t => t.pwr.stage = .hold ∧ bit t.pwr.railsOff 2 = false ∧ t.ops = [] ∧ t.ctxs = []
      ∧ t.log = [] ∧ t.tap = {} ∧ (∀ n < 8, (bank t n).st = 0) ∧ .pin .pwrgrantOut 0 ∈ t.out ∧ .pin .bypN 0 ∈ t.out
      ∧ ∀ r, classPor (regClass r) = true → r ∉ [R.HIF_STAT, R.PWR_STAT, R.CFG_STAT, R.BNK_PSTATE] → (∀ n, r ≠ R.BNK_STAT n) → rd t r = resetWord r) := by
  obtain ⟨hstage, hrail⟩ := porHeld_pwr (porAll s)
  obtain ⟨hops, hctxs, hlog, hbanks, htap⟩ := porHeld_keeps (porAll s)
  obtain ⟨hops', hctxs', hlog', htap', hoff⟩ := porAll_keeps s
  obtain ⟨hgrant, hbyp⟩ := porHeld_out (porAll s)
  refine ⟨_, exec_powerOnReset s, hstage, hrail, hops.trans hops', hctxs.trans hctxs', hlog.trans hlog', ?_, fun n hn => ?_, hgrant, hbyp,
    fun r hclass hshown hstat => ?_⟩
  · rw [htap, htap']
  · rw [bank_congr hbanks]; exact hoff n hn
  · exact (rd_porHeld _ fun he => hshown (by rw [he]; decide)).trans (rd_porAll s hclass hshown hstat)

/-- The unit without VCCOWL. -/
def owlLost (s : State) : State := holdPwr (ioOff (setPwr s { s.pwr with railsOff := setBit s.pwr.railsOff 2 })) none none

theorem exec_brownOutVccowl (h : bit s.pwr.railsOff 2 = false) : exec .brownOutVccowl s = .next (owlLost (porAll s)) := by
  show execBrownOutVccowl s = _
  unfold execBrownOutVccowl owlLost
  rw [h, if_neg (by decide)]

theorem owlLost_keeps (s : State) : (owlLost s).pwr.stage = .hold ∧ bit (owlLost s).pwr.railsOff 2 = true ∧ (owlLost s).ops = s.ops
    ∧ (owlLost s).log = s.log ∧ (owlLost s).banks = s.banks := by
  have hmade := ioOff_made (Nat.or_self _) (setPwr s { s.pwr with railsOff := setBit s.pwr.railsOff 2 }) (.refl ..)
  unfold owlLost holdPwr
  rw [setPwr_pwr, setPwr_ops, setPwr_log, setPwr_banks, hmade.pwr rfl, hmade.ops rfl, hmade.log rfl, hmade.banks rfl, setPwr_pwr]
  exact ⟨rfl, bit_setBit_same _ _, rfl, rfl, rfl⟩

theorem brownOutVccowl_does (h : bit s.pwr.railsOff 2 = false) : Does .brownOutVccowl s (fun t => t.pwr.stage = .hold ∧ bit t.pwr.railsOff 2 = true
      ∧ t.ops = [] ∧ t.log = [] ∧ ∀ n < 8, (bank t n).st = 0) := by
  obtain ⟨hstage, hrail, hops, hlog, hbanks⟩ := owlLost_keeps (porAll s)
  obtain ⟨hops', -, hlog', -, hoff⟩ := porAll_keeps s
  exact ⟨_, exec_brownOutVccowl h, hstage, hrail, hops.trans hops', hlog.trans hlog', fun n hn => by rw [bank_congr hbanks]; exact hoff n hn⟩

end

end Sys2Proof.Machine

/-! ### Brown-outs and the return of a rail (R85, R104) -/
namespace Sys2Proof.Machine

section
variable {s : State}

/-! #### A rail falls -/

theorem railFalls_rails (s : State) (b : Nat) : (railFalls s b).pwr.railsOff = setBit s.pwr.railsOff b := by
  unfold railFalls
  dsimp only
  split <;> rfl

theorem railFalls_frame (s : State) (b : Nat) : railFalls s b = { s with pwr := (railFalls s b).pwr } := by
  unfold railFalls
  dsimp only
  split <;> rfl

theorem rd_railFalls (s : State) (b r : Nat) : rd (railFalls s b) r = rd s r := by rw [railFalls_frame]; rfl

theorem railFalls_doms (s : State) (b : Nat) : (railFalls s b).doms = s.doms := by rw [railFalls_frame]

theorem railFalls_banks (s : State) (b : Nat) : (railFalls s b).banks = s.banks := by rw [railFalls_frame]

/-- Only a start in S0 is stopped by it. -/
theorem railFalls_asleep (h : s.pwr.stage = .sleep) (b : Nat) : (railFalls s b).pwr.stage = .sleep := by
  have heq : railFalls s b = setPwr s { s.pwr with railsOff := setBit s.pwr.railsOff b } := if_neg (fun hc => by
    have hs0 : s.pwr.stage = .s0 := hc.1
    rw [h] at hs0
    exact absurd hs0 (by decide))
  rw [heq, setPwr_pwr]
  exact h

/-! #### VCC and VCCAUX -/

/-- The event of the rail. -/
def boEvent (aux : Bool) : Fld := if aux then F.PWR_EVT_BO_AUX else F.PWR_EVT_BO_VCC

/-- The rail has fallen, and with it every bank's power. -/
def boBanks (s : State) (aux : Bool) : State := (List.range 8).foldl bankOff (raise (railFalls s (b2n aux)) (boEvent aux))

/-- The event log is lost. -/
def logEmptied (s : State) : State := { s with log := [] }

theorem logEmptied_keeps (s : State) : (logEmptied s).ops = s.ops ∧ (logEmptied s).log = [] ∧ (logEmptied s).pwr = s.pwr
    ∧ (logEmptied s).banks = s.banks := ⟨rfl, rfl, rfl, rfl⟩

theorem rd_logEmptied (s : State) (r : Nat) : rd (logEmptied s) r = rd s r := rfl

/-- The registers and records after the brown-out. -/
def boReset (s : State) : State := noteCause (logEmptied (unitReset s classBo)) 0xB

/-- The unit held in S0 by the brown-out. -/
def boHeld (s : State) : State := holdPwr (pinsLow s) (some 0xB) none

theorem exec_brownOutVcc (aux : Bool) (howl : bit s.pwr.railsOff 2 = false) (hrail : bit s.pwr.railsOff (b2n aux) = false)
    (hstage : s.pwr.stage ≠ .sleep) : exec (.brownOutVcc aux) s = .next (boHeld (boReset (boBanks s aux))) := by
  show execBrownOutVcc aux s = _
  unfold execBrownOutVcc
  rw [howl, hrail, if_neg (by decide), if_neg hstage]
  unfold boHeld pinsLow boReset logEmptied boBanks boEvent
  rfl

theorem boBanks_keeps (s : State) (aux : Bool) : (boBanks s aux).pwr = (railFalls s (b2n aux)).pwr
    ∧ (boBanks s aux).regs = (raise (railFalls s (b2n aux)) (boEvent aux)).regs := by
  have hmade := banksOff_made (raise (railFalls s (b2n aux)) (boEvent aux))
  exact ⟨(hmade.pwr rfl).trans (raise_pwr ..), hmade.regs rfl⟩

theorem boBanks_event (s : State) (aux : Bool) : isSet (boBanks s aux) (boEvent aux) = true := by
  have hraised : isSet (raise (railFalls s (b2n aux)) (boEvent aux)) (boEvent aux) = true := by cases aux <;> exact isSet_raise _ _ rfl (by decide)
  refine (isSet_congr ?_).trans hraised
  unfold rd
  rw [(boBanks_keeps s aux).2]

theorem boReset_keeps (s : State) : (boReset s).ops = [] ∧ (boReset s).log = [] ∧ (boReset s).pwr = s.pwr ∧ (boReset s).banks = s.banks := by
  obtain ⟨hops, -, -⟩ := unitReset_drops s classBo
  obtain ⟨hbanks, -, -, hpwr⟩ := unitReset_keeps s classBo
  obtain ⟨hops', hlog', hpwr', hbanks'⟩ := logEmptied_keeps (unitReset s classBo)
  unfold boReset noteCause satAdd
  rw [setf_ops, setf_ops, setf_log, setf_log, setf_pwr, setf_pwr, setf_banks, setf_banks]
  exact ⟨hops'.trans hops, hlog', hpwr'.trans hpwr, hbanks'.trans hbanks⟩

/-- The power events survive every reset but the power-on reset. -/
theorem boReset_evt (s : State) : rd (boReset s) R.PWR_EVT = rd s R.PWR_EVT := by
  have hstat : ∀ n, R.PWR_EVT ≠ R.BNK_STAT n := fun n => by simp only [R.PWR_EVT, R.BNK_STAT]; omega
  unfold boReset
  rw [rd_noteCause _ (by decide), rd_logEmptied]
  exact rd_unitReset_kept s classBo (by decide) (by decide) hstat (by decide)

theorem boHeld_keeps (s : State) : (boHeld s).pwr.stage = .hold ∧ (boHeld s).pwr.railsOff = s.pwr.railsOff ∧ (boHeld s).ops = s.ops
    ∧ (boHeld s).log = s.log ∧ (boHeld s).banks = s.banks := by
  have hmade := pinsLow_made s
  unfold boHeld holdPwr
  rw [setPwr_pwr, setPwr_ops, setPwr_log, setPwr_banks, hmade.pwr rfl, hmade.ops rfl, hmade.log rfl, hmade.banks rfl]
  exact ⟨rfl, rfl, rfl, rfl, rfl⟩

theorem rd_boHeld (s : State) {r : Nat} (h : r ≠ R.PWR_STAT) : rd (boHeld s) r = rd s r := by
  unfold boHeld holdPwr
  rw [setPwr_rd, rd_pinsLow _ h]

theorem brownOutVcc_does (aux : Bool) (howl : bit s.pwr.railsOff 2 = false) (hrail : bit s.pwr.railsOff (b2n aux) = false)
    (hstage : s.pwr.stage ≠ .sleep) : Does (.brownOutVcc aux) s (fun t => t.pwr.stage = .hold ∧ bit t.pwr.railsOff (b2n aux) = true ∧ t.ops = []
      ∧ (∀ n < 8, (bank t n).st = 0) ∧ getf t F.RST_CAUSE_LAST = 0xB ∧ t.log = []
      ∧ isSet t (if aux then F.PWR_EVT_BO_AUX else F.PWR_EVT_BO_VCC) = true) := by
  obtain ⟨hhold, hrails, hops, hlog, hbanks⟩ := boHeld_keeps (boReset (boBanks s aux))
  obtain ⟨hops', hlog', hpwr', hbanks'⟩ := boReset_keeps (boBanks s aux)
  have hreg : (boEvent aux).reg = R.PWR_EVT := by cases aux <;> rfl
  refine ⟨_, exec_brownOutVcc aux howl hrail hstage, hhold, ?_, hops.trans hops', fun n hn => ?_, ?_, hlog.trans hlog', ?_⟩
  · rw [hrails, hpwr', (boBanks_keeps s aux).1, railFalls_rails]
    exact bit_setBit_same _ _
  · rw [bank_congr hbanks, bank_congr hbanks']
    exact banksOff_st _ hn
  · exact (getf_congr (f := F.RST_CAUSE_LAST) (rd_boHeld _ (by decide))).trans (noteCause_last _ (by decide))
  · refine (isSet_congr (f := boEvent aux) ?_).trans (boBanks_event s aux)
    rw [hreg]
    exact (rd_boHeld _ (by decide)).trans (boReset_evt _)

/-- In SLEEP the banks in RETAIN lose their contents. -/
def railOffBanks (s : State) (b : Nat) : State :=
  (List.range 8).foldl showBank (((List.range 8).filter (fun n => (bank s n).st == 2)).foldl bankOff (railFalls s b))

theorem railOffAsleep_eq {b : Nat} (hkept : (List.range 8).filter (fun n => (bank s n).st == 2) ≠ []) (hb : b < 2) :
    railOffAsleep s b = raise (railOffBanks s b) F.PWR_EVT_RAIL_OFF_SLEEP := if_neg (by
  rintro (h | h)
  · exact hkept h
  · omega)

theorem railOffBanks_st (s : State) (b : Nat) {n : Nat} (hn : n < 8) (hst : (bank s n).st = 2) : (bank (railOffBanks s b) n).st = 0 := by
  have hin : n ∈ (List.range 8).filter (fun n => (bank s n).st == 2) := List.mem_filter.2 ⟨List.mem_range.2 hn, by simp [hst]⟩
  have hnodup : ((List.range 8).filter (fun n => (bank s n).st == 2)).Nodup := List.nodup_range.filter _
  obtain ⟨u, -, hafter⟩ := BankSame.foldl_mem (f := bankOff) (fun t k h => bankOff_same t h) _ hnodup hin (railFalls s b)
  unfold railOffBanks
  rw [bank_congr ((showBanks_made _ _).banks rfl), hafter.bank_eq, bankOff_st]

theorem railOffBanks_pwr (s : State) (b : Nat) : (railOffBanks s b).pwr = (railFalls s b).pwr := by
  have hoff (l : List Nat) (u : State) : Made 16396 u (l.foldl bankOff u) := .foldl (fun t n h => bankOff_made (Nat.or_self _) t n h) _ (.refl ..)
  exact ((showBanks_made _ _).pwr rfl).trans ((hoff _ _).pwr rfl)

theorem brownOutVcc_asleep (aux : Bool) (howl : bit s.pwr.railsOff 2 = false) (hrail : bit s.pwr.railsOff (b2n aux) = false)
    (hstage : s.pwr.stage = .sleep) : ∀ n < 8, (bank s n).st = 2 → Does (.brownOutVcc aux) s (fun t => t.pwr.stage = .sleep ∧ (bank t n).st = 0
      ∧ isSet t F.PWR_EVT_RAIL_OFF_SLEEP = true) := by
  intro n hn hst
  have hkept : (List.range 8).filter (fun n => (bank s n).st == 2) ≠ [] :=
    List.ne_nil_of_mem (List.mem_filter.2 ⟨List.mem_range.2 hn, by simp [hst]⟩)
  have hexec : exec (.brownOutVcc aux) s = .next (raise (railOffBanks s (b2n aux)) F.PWR_EVT_RAIL_OFF_SLEEP) := by
    rw [← railOffAsleep_eq hkept (by cases aux <;> decide)]
    show execBrownOutVcc aux s = _
    unfold execBrownOutVcc
    rw [howl, hrail, if_neg (by decide), if_pos hstage]
  refine ⟨_, hexec, ?_, ?_, isSet_raise _ _ rfl (by decide)⟩
  · rw [raise_pwr, railOffBanks_pwr, railFalls_asleep hstage]
  · rw [bank_congr (raise_banks ..), railOffBanks_st s _ hn hst]

/-! #### VCCIO -/

theorem brownOutIo_does (n : Fin 8) (hrail : bit s.pwr.railsOff (8 + n.val) = false) (howl : bit s.pwr.railsOff 2 = false)
    (hstage : s.pwr.stage ≠ .sleep) : Does (.brownOutIo n) s (fun t =>
      isSet t F.PWR_EVT_BO_IO = true ∧ bit t.pwr.railsOff (8 + n.val) = true ∧ t.doms = s.doms) := by
  have hexec : exec (.brownOutIo n) s = .next (alarmUpdate (raise (railFalls s (8 + n.val)) F.PWR_EVT_BO_IO)) := by
    show execBrownOutIo n s = _
    unfold execBrownOutIo
    dsimp only
    rw [hrail, howl, if_neg (by decide), if_neg hstage]
  have hmade := alarmUpdate_made (Nat.or_self _) (raise (railFalls s (8 + n.val)) F.PWR_EVT_BO_IO) (.refl ..)
  refine ⟨_, hexec, ?_, ?_, ?_⟩
  · rw [isSet_congr (f := F.PWR_EVT_BO_IO) (alarmUpdate_rd (by decide) _)]
    exact isSet_raise _ _ rfl (by decide)
  · rw [hmade.pwr rfl, raise_pwr, railFalls_rails]
    exact bit_setBit_same _ _
  · rw [hmade.doms rfl, raise_doms, railFalls_doms]

/-! #### The return of a rail -/

/-- Ports that wait in BLOCK train again once both rails of the transceivers are good. -/
def railTrained (s : State) (r : Rail) : State :=
  if decide (r = .vccser ∨ r = .vccsera) && !bit s.pwr.railsOff 3 && !bit s.pwr.railsOff 4 then
    [0, 1].foldl (fun t p => if getf t (F.CHN_PSTAT_STATE p) = 1 then sendTrain t p else t) s
  else s

theorem railTrained_pwr (s : State) (r : Rail) : (railTrained s r).pwr = s.pwr := by
  have htrain (u : State) (p : Nat) : (if getf u (F.CHN_PSTAT_STATE p) = 1 then sendTrain u p else u).pwr = u.pwr := by
    split
    · exact (sendTrain_made (Nat.or_self _) u p (.refl ..)).pwr rfl
    · rfl
  unfold railTrained
  split
  · exact (htrain _ 1).trans (htrain _ 0)
  · rfl

theorem railReturn_does (r : Rail) : Does (.railReturn r) s (fun t => t.pwr.railsOff = clearBit s.pwr.railsOff (railBit r)
      ∧ (s.pwr.stage ≠ .hold → t.pwr.stage = s.pwr.stage)
      ∧ (s.pwr.stage = .hold → s.pwr.rstN = false → railsGood t = true → t.pwr.stage = .s0)) := by
  let u := setPwr s { s.pwr with railsOff := clearBit s.pwr.railsOff (railBit r) }
  let v := railTrained u r
  have hpwr : v.pwr = { s.pwr with railsOff := clearBit s.pwr.railsOff (railBit r) } := (railTrained_pwr u r).trans rfl
  have hgood : railsGood (powerGood v) = railsGood v := by
    unfold powerGood
    split <;> rfl
  have hrails : (powerGood v).pwr.railsOff = v.pwr.railsOff := by
    unfold powerGood
    split <;> rfl
  refine ⟨powerGood v, rfl, hrails.trans (congrArg Pwr.railsOff hpwr), fun hstage => ?_, fun hstage hn hall => ?_⟩
  · have hstage' : v.pwr.stage ≠ .hold := by rw [hpwr]; exact hstage
    rw [powerGood_waits (s := v) (fun hc => hstage' hc.1), hpwr]
  · rw [powerGood_starts (s := v) (by rw [hpwr]; exact hstage) (by rw [hpwr]; exact hn) (hgood.symm.trans hall)]
    rfl

end

end Sys2Proof.Machine

/-! ### What the chain's traffic leaves alone

Messages, device events, records and the boot path write registers of the host interface and of the chain ports, but they change neither
the state of a link nor the rails, D0 or its fence. -/
namespace Sys2Proof.Machine

/-- The registers that show the links' states, and the fences. -/
def linkRegs : List Nat := [R.HIF_STAT, R.CHN_PSTAT 0, R.CHN_PSTAT 1, R.RST_DOM_FENCED]

/-- Between `s` and `t` no link changes its state; the rails, D0 and its fence stay as they are. -/
structure LinkStep (s t : State) : Prop where
  host_eq : rd t R.HIF_STAT = rd s R.HIF_STAT
  port_eq : ∀ p, rd t (R.CHN_PSTAT p) = rd s (R.CHN_PSTAT p)
  rails_eq : t.pwr.railsOff = s.pwr.railsOff
  dom_eq : dom t 0 = dom s 0
  fenced_eq : fenced t 0 = fenced s 0

/-- The parts of the state that a `LinkStep` speaks of, as a mask of `Made`: pwr, doms, and the blocks RST, HIF and CHN. -/
def linkMask : Nat := 2 ^ 12 + 2 ^ 13 + 2 ^ 66 + 2 ^ 71 + 2 ^ 74

/-- Every port's state word is among the registers kept: the address counts the port modulo 2. -/
theorem pstat_mem_linkRegs (p : Nat) : R.CHN_PSTAT p ∈ linkRegs := by
  simp only [linkRegs, R.CHN_PSTAT, List.mem_cons, List.not_mem_nil]
  omega

namespace LinkStep
variable {s0 s t : State}

theorem refl (s : State) : LinkStep s s := ⟨rfl, fun _ => rfl, rfl, rfl, rfl⟩

theorem trans (h : LinkStep s0 s) (k : LinkStep s t) : LinkStep s0 t :=
  ⟨k.host_eq.trans h.host_eq, fun p => (k.port_eq p).trans (h.port_eq p), k.rails_eq.trans h.rails_eq, k.dom_eq.trans h.dom_eq,
    k.fenced_eq.trans h.fenced_eq⟩

theorem ite {c : Prop} [Decidable c] (h : LinkStep s0 s) (k : LinkStep s0 t) : LinkStep s0 (if c then s else t) := by split <;> assumption

/-- What is done on a condition. -/
theorem on {c : Prop} [Decidable c] {g : State → State} (hg : ∀ {u}, LinkStep s0 u → LinkStep s0 (g u)) (h : LinkStep s0 s) :
    LinkStep s0 (if c then g s else s) := .ite (hg h) h

theorem foldl {α : Type} {f : State → α → State} (hf : ∀ {t} x, LinkStep s0 t → LinkStep s0 (f t x)) (l : List α) (h : LinkStep s0 s) :
    LinkStep s0 (l.foldl f s) := by
  induction l generalizing s with
  | nil => exact h
  | cons x l ih => exact ih (hf x h)

/-- Registers, power and domains stay as they are. -/
theorem same (hregs : t.regs = s.regs) (hpwr : t.pwr = s.pwr) (hdoms : t.doms = s.doms) (h : LinkStep s0 s) : LinkStep s0 t := by
  have hrd (r : Nat) : rd t r = rd s r := by unfold rd; rw [hregs]
  exact h.trans ⟨hrd _, fun _ => hrd _, by rw [hpwr], dom_congr hdoms 0, fenced_congr (hrd _) 0⟩

theorem wr {r : Nat} {w : W32} (hr : r ∉ linkRegs) (h : LinkStep s0 s) : LinkStep s0 (wr s r w) := by
  have hrd (a : Nat) (ha : a ∈ linkRegs) : rd (Machine.wr s r w) a = rd s a := rd_wr_ne (by rintro rfl; exact hr ha) s w
  exact h.trans ⟨hrd _ (by decide), fun p => hrd _ (pstat_mem_linkRegs p), rfl, rfl, fenced_congr (hrd _ (by decide)) 0⟩

theorem setf {f : Fld} {v : Nat} (hf : f.reg ∉ linkRegs) (h : LinkStep s0 s) : LinkStep s0 (setf s f v) := .wr hf h

/-- An operation whose footprint has nothing of the mask. -/
theorem made {M : Nat} (k : Made M s t) (hM : M &&& linkMask = 0) (h : LinkStep s0 s) : LinkStep s0 t :=
  h.trans ⟨k.blk _ (testBit_of_land_zero hM (by decide)),
    fun p => k.blk _ (by rw [R.CHN_PSTAT_blk]; exact testBit_of_land_zero hM (by decide)),
    by rw [k.pwr (testBit_of_land_zero hM (by decide))], dom_congr (k.doms (testBit_of_land_zero hM (by decide))) 0,
    fenced_congr (k.blk _ (testBit_of_land_zero hM (by decide))) 0⟩

/-- A step of the staged start. -/
theorem start (k : StartStep s t) (h : LinkStep s0 s) : LinkStep s0 t := by
  refine h.trans ⟨k.rd_eq _ (by decide), fun p => k.rd_eq _ ?_, k.rails_eq, k.dom_eq, k.fenced_eq⟩
  simp only [startKept, R.CHN_PSTAT, List.mem_cons, List.not_mem_nil]
  omega

end LinkStep

/-- A block that holds none of the registers. -/
theorem not_mem_linkRegs_of_blk {r k : Nat} (hr : blockOf r = k) (hk : k ∉ linkRegs.map blockOf) : r ∉ linkRegs :=
  fun hmem => hk (hr ▸ List.mem_map_of_mem hmem)

section
variable {s0 s : State}

/-! #### Messages -/

theorem showReplay_link {p : Nat} (h : LinkStep s0 s) : LinkStep s0 (showReplay s p) := by
  have hreg : R.CHN_REPLAY p ∉ linkRegs := by simp only [linkRegs, R.HIF_STAT, R.RST_DOM_FENCED, R.CHN_REPLAY, R.CHN_PSTAT, List.mem_cons, List.not_mem_nil, or_false]; omega
  exact .setf hreg (.setf hreg h)

theorem setPort_link {p : Nat} {x : Port} (h : LinkStep s0 s) : LinkStep s0 (setPort s p x) := .same (by rfl) (by rfl) (by rfl) h

theorem sendCells_link {p : Nat} {r : Rep} (h : LinkStep s0 s) : LinkStep s0 (sendCells s p r) :=
  .made (sendCells_made (Nat.or_self _) s p r (.refl ..)) rfl h

theorem sendCsync_link {p : Nat} (h : LinkStep s0 s) : LinkStep s0 (sendCsync s p) :=
  .made (sendCsync_made (Nat.or_self _) s p (.refl ..)) rfl h

theorem sendNew_link {p : Nat} {w : Wait} (h : LinkStep s0 s) : LinkStep s0 (sendNew s p w) := by
  have hreg : R.CHN_VL p (msgVl w.m.ty) ∉ linkRegs := by
    simp only [linkRegs, R.HIF_STAT, R.RST_DOM_FENCED, R.CHN_VL, R.CHN_PSTAT, List.mem_cons, List.not_mem_nil, or_false]; omega
  unfold sendNew wrapAdd
  dsimp only
  split
  · exact setPort_link (.setf hreg (sendCells_link (setPort_link h)))
  · exact .setf hreg (sendCells_link (setPort_link h))

theorem pumpPort_link {p : Nat} (fuel : Nat) (h : LinkStep s0 s) : LinkStep s0 (pumpPort s p fuel) := by
  induction fuel generalizing s with
  | zero => exact h
  | succ fuel ih =>
    unfold pumpPort
    dsimp only
    split
    · exact h
    · split
      · split
        · exact ih (setPort_link h)
        · split
          · exact ih (.ite (sendCsync_link (sendCells_link (setPort_link h))) (sendCells_link (setPort_link h)))
          · exact h
      · split
        · exact h
        · exact .ite (ih (sendNew_link h)) h

theorem flushPort_link {p : Nat} (h : LinkStep s0 s) : LinkStep s0 (flushPort s p) := showReplay_link (pumpPort_link _ h)

theorem queueMsg_link {p : Nat} {src : Option Nat} {stomp : Bool} {m : Msg} (h : LinkStep s0 s) : LinkStep s0 (queueMsg s p src stomp m) :=
  .ite (flushPort_link (setPort_link h)) h

theorem sendMsg_link {p : Nat} {m : Msg} (h : LinkStep s0 s) : LinkStep s0 (sendMsg s p m) := queueMsg_link h

/-! #### Device events, records and returns -/

theorem sendVec_link {v : Nat} (h : LinkStep s0 s) : LinkStep s0 (sendVec s v) := by
  have hreg : R.HIF_PBA (v / 32) ∉ linkRegs := by simp only [linkRegs, R.HIF_STAT, R.RST_DOM_FENCED, R.CHN_PSTAT, R.HIF_PBA, List.mem_cons, List.not_mem_nil, or_false]; omega
  unfold sendVec
  exact .ite (.wr hreg h) (.made (emit_made (Nat.or_self _) s _ (.refl ..)) rfl h)

theorem sendDev_link {k : Nat} (h : LinkStep s0 s) : LinkStep s0 (sendDev s k) := by
  unfold sendDev
  exact .ite (sendMsg_link (.same (by rfl) (by rfl) (by rfl) h)) (.ite (sendVec_link (.same (by rfl) (by rfl) (by rfl) h)) h)

theorem devNoted_link {k : Nat} (h : LinkStep s0 s) : LinkStep s0 (devNoted s k) := by
  have hpend : LinkStep s0 (wr s R.HIF_DEV_PEND (rd s R.HIF_DEV_PEND ||| w32 (2 ^ k))) := .wr (by decide) h
  have hirq := LinkStep.made (kitIrq_made (Nat.or_self _) _ 3 (.refl ..)) rfl hpend
  exact .same (by rfl) (by rfl) (by rfl) hirq

theorem devEvent_link {k : Nat} (h : LinkStep s0 s) : LinkStep s0 (devEvent s k) := by
  rw [devEvent_eq]
  exact .ite h (.ite (sendDev_link (devNoted_link h)) (devNoted_link h))

theorem raise9_link {f : Fld} (hf : f.reg ∉ linkRegs) (h : LinkStep s0 s) : LinkStep s0 (raise9 s f) := by
  unfold raise9
  exact .ite h (devEvent_link (.setf hf h))

theorem alarmUpdate_link (h : LinkStep s0 s) : LinkStep s0 (alarmUpdate s) := by
  have hshown : LinkStep s0 (wr s R.DEV_ALARM (w32 (alarmSources s))) := .wr (by decide) h
  unfold alarmUpdate
  refine .ite (devEvent_link (.made (kitIrq_made (Nat.or_self _) _ 4 (.refl ..)) rfl ?_)) hshown
  exact .setf (by decide) hshown

theorem hostPut_link {c addr : Nat} {bs : List Byte} (h : LinkStep s0 s) : LinkStep s0 (hostPut s c addr bs) := by
  unfold hostPut
  exact .ite (sendMsg_link h) (.made (emit_made (Nat.or_self _) s _ (.refl ..)) rfl h)

theorem ringPut_link {c addr : Nat} {bs : List Byte} (h : LinkStep s0 s) : LinkStep s0 (ringPut s c addr bs) :=
  .ite (.made (putBytes_made (Nat.or_self _) s addr bs (.refl ..)) rfl h) (hostPut_link h)

theorem writeBack_link {c : Nat} (h : LinkStep s0 s) : LinkStep s0 (writeBack s c) := .on ringPut_link h

theorem sendCtxInt_link {c : Nat} (h : LinkStep s0 s) : LinkStep s0 (sendCtxInt s c) := by
  unfold sendCtxInt
  exact .ite (sendMsg_link (.same (by rfl) (by rfl) (by rfl) h)) (.ite (sendVec_link (.same (by rfl) (by rfl) (by rfl) h)) h)

theorem recordInt_link {c : Nat} (h : LinkStep s0 s) : LinkStep s0 (recordInt s c) := by
  unfold recordInt
  exact .ite (.made (kitIrq_made (Nat.or_self _) s 0 (.refl ..)) rfl h)
    (.ite (sendCtxInt_link (.same (by rfl) (by rfl) (by rfl) h)) (.same (by rfl) (by rfl) (by rfl) h))

theorem putRec_link {c : Nat} {r : Rec} (h : LinkStep s0 s) : LinkStep s0 (putRec s c r) := by
  unfold putRec
  dsimp only
  refine .on recordInt_link (writeBack_link (.same (by rfl) (by rfl) (by rfl) (.setf ?_ (ringPut_link h))))
  exact not_mem_linkRegs_of_blk (F.CTX_CQ_IDX_CQ_PI_blk c) (by decide)

theorem writeRec_link {c : Nat} {r : Rec} (h : LinkStep s0 s) : LinkStep s0 (writeRec s c r) := by
  unfold writeRec raise satAdd
  refine .ite (.setf ?_ (.setf (by decide) h)) (.ite (.same (by rfl) (by rfl) (by rfl) h) (putRec_link h))
  exact not_mem_linkRegs_of_blk (F.CTX_EVT_DISCARDED_blk c) (by decide)

theorem drainCheck_link {c : Nat} (h : LinkStep s0 s) : LinkStep s0 (drainCheck s c) :=
  .made (drainCheck_made (Nat.or_self _) s c (.refl ..)) rfl h

theorem outcome_link {c sq : Nat} {ws : List W32} {status detail : Nat} {r0 r1 : W32} (h : LinkStep s0 s) :
    LinkStep s0 (outcome s c sq ws status detail r0 r1) := by
  have hcounted : LinkStep s0 (wrapAdd s (F.CTX_DONE_COUNT c) 1) := .setf (not_mem_linkRegs_of_blk (F.CTX_DONE_COUNT_blk c) (by decide)) h
  unfold outcome
  exact drainCheck_link (.ite hcounted (writeRec_link hcounted))

theorem complete_link {o : Op} {r : Ret} (h : LinkStep s0 s) : LinkStep s0 (complete s o r) := by
  have hunlent : LinkStep s0 (unlend { s with ops := s.ops.filter (fun p => p.tag != o.tag) } o) := .same (by rfl) (by rfl) (by rfl) h
  unfold complete
  dsimp only
  split
  · exact sendMsg_link (.made (freeToken_made (Nat.or_self _) _ (.refl ..)) rfl hunlent)
  · exact outcome_link (.made (creditToken_made (Nat.or_self _) _ _ _ (.refl ..)) rfl hunlent)

theorem completeAll_link {r : Ret} (l : List Op) (h : LinkStep s0 s) : LinkStep s0 (completeAll s r l) := by
  induction l generalizing s with
  | nil => exact h
  | cons o l ih => exact ih (complete_link h)

theorem flushRecs_link {c : Nat} (l : List Rec) (h : LinkStep s0 s) : LinkStep s0 (flushRecs s c l) := by
  induction l generalizing s with
  | nil => exact h
  | cons r l ih => exact ih (putRec_link h)

theorem flushCtx_link {c : Nat} (h : LinkStep s0 s) : LinkStep s0 (flushCtx s c) :=
  drainCheck_link (flushRecs_link _ (.same (by rfl) (by rfl) (by rfl) h))

theorem sendHeldDev_link (h : LinkStep s0 s) : LinkStep s0 (sendHeldDev s) := .foldl (fun _ => .on sendDev_link) _ h

theorem applyReturn_link (h : LinkStep s0 s) : LinkStep s0 (applyReturn s) := by
  have hflushed := LinkStep.foldl (f := flushCtx) (fun _ => flushCtx_link) (s.ctxs.map (·.1)) h
  exact sendHeldDev_link (.ite hflushed (devEvent_link hflushed))

theorem noteReach_link {before : Bool} (h : LinkStep s0 s) : LinkStep s0 (noteReach before s) := .on applyReturn_link h

end

end Sys2Proof.Machine

/-! ### What a change of host reachability, a lost round and the boot path leave alone -/
namespace Sys2Proof.Machine

section
variable {s0 s : State}

/-! #### The chain's topology -/

theorem sleepAbort_link {cause unit : Nat} (h : LinkStep s0 s) : LinkStep s0 (sleepAbort s cause unit) := by
  have hsent (m : Msg) : LinkStep s0 (sendMsg s 1 m) := sendMsg_link h
  unfold sleepAbort raise
  refine .ite h (.setf (by decide) (.setf (by decide) (.setf (by decide) (.setf (by decide) (.setf (by decide) ?_)))))
  exact .same (by rfl) (by rfl) (by rfl) (hsent _)

theorem endUnreachable_link (h : LinkStep s0 s) : LinkStep s0 (endUnreachable s) := by
  have hstep (u : State) (k : LinkStep s0 u) : LinkStep s0 (emit (satAdd u F.HIF_WIN_CNT_UNREACH 1) (.hostCpl .completerAbort [])) :=
    .made (emit_made (Nat.or_self _) _ _ (.refl ..)) rfl (.setf (by decide) k)
  unfold endUnreachable endWindows
  exact .foldl (fun _ => hstep _) _ (.same (by rfl) (by rfl) (by rfl) (completeAll_link _ h))

/-- The head counts a change of topology and sends it to every member. -/
theorem floodTopo_link (h : LinkStep s0 s) : LinkStep s0 (floodTopo s) := by
  have haborted : LinkStep s0 (wrapAdd (sleepAbort s 3 0) F.ENU_GEN_GEN 1) := .setf (by decide) (sleepAbort_link h)
  have hcounted := LinkStep.made (countUnits_made (Nat.or_self _) _ (.refl ..)) rfl haborted
  unfold floodTopo
  exact endUnreachable_link (sendMsg_link (.setf (by decide) (.same (by rfl) (by rfl) (by rfl) hcounted)))

theorem announce_link (h : LinkStep s0 s) : LinkStep s0 (announce s) := .on floodTopo_link h

theorem dropRead_link {id : Nat} (h : LinkStep s0 s) : LinkStep s0 (dropRead s id) := .made (dropRead_made (Nat.or_self _) s id (.refl ..)) rfl h

theorem endTunnels_link (h : LinkStep s0 s) : LinkStep s0 (endTunnels s) := by
  unfold endTunnels
  refine .foldl (fun r k => ?_) _ (.foldl (fun _ => dropRead_link) _ h)
  split
  · exact sendMsg_link k
  · exact k

theorem linkChanged_link {up reach : Bool} (h : LinkStep s0 s) : LinkStep s0 (linkChanged up reach s) := by
  unfold linkChanged
  refine .ite (announce_link (endTunnels_link (.ite h ?_))) (announce_link (noteReach_link h))
  exact .made (applyLoss_made (Nat.or_self _) s (.refl ..)) rfl h

theorem topoBreak_link {reporter : Nat} (h : LinkStep s0 s) : LinkStep s0 (topoBreak s reporter) := by
  have hreach (u : State) (n : Nat) (k : LinkStep s0 u) : LinkStep s0 (setReach u n false) :=
    .made (setReach_made (Nat.or_self _) u n false (.refl ..)) rfl k
  unfold topoBreak raise
  exact devEvent_link (.setf (by decide) (floodTopo_link (.foldl (fun n => .on (hreach _ n)) _ h)))

theorem unassign_link (h : LinkStep s0 s) : LinkStep s0 (unassign s) := by
  have hrole : LinkStep s0 (setf (setf s F.ENU_STAT_ROLE 0) F.ENU_STAT_ADDR 0) := .setf (by decide) (.setf (by decide) h)
  unfold unassign
  refine .made (memberHostLoss_made (Nat.or_self _) _ (.refl ..)) rfl (completeAll_link _ (.setf (by decide) ?_))
  exact .same (by rfl) (by rfl) (by rfl) hrole

theorem onBreak_link {p : Nat} (h : LinkStep s0 s) : LinkStep s0 (onBreak s p) := by
  unfold onBreak
  exact .ite (.on unassign_link h) (.ite (topoBreak_link h) (.ite (sendMsg_link h) h))

/-! #### The depot's jobs -/

theorem setDir_link {d : Dir} (h : LinkStep s0 s) : LinkStep s0 (setDir s d) := .same (by rfl) (by rfl) (by rfl) h

theorem markBad_link {k : Nat} {worn : Bool} (h : LinkStep s0 s) : LinkStep s0 (markBad s k worn) := by
  unfold markBad
  exact alarmUpdate_link (.setf (by decide) (raise9_link (by decide) (.on (raise9_link (by decide)) (setDir_link h))))

theorem lineFailure_link {r : Nat} (h : LinkStep s0 s) : LinkStep s0 (lineFailure s r) :=
  alarmUpdate_link (raise9_link (by decide) (.setf (not_mem_linkRegs_of_blk (F.SCR_RNG_CNT_FAILS_blk r) (by decide)) h))

theorem lineFailures_link {r : Nat} (n : Nat) (h : LinkStep s0 s) : LinkStep s0 (lineFailures s r n) := by
  induction n generalizing s with
  | zero => exact h
  | succ n ih => exact ih (lineFailure_link h)

theorem endJob_link {fg : Bool} {j : Job} {r : Ret} {result : Nat} (h : LinkStep s0 s) : LinkStep s0 (endJob s fg j r result) :=
  .made (endJob_made (Nat.or_self _) s fg j r result (.refl ..)) rfl h

theorem putJob_link {fg : Bool} {j : Job} (h : LinkStep s0 s) : LinkStep s0 (putJob s fg j) :=
  .made (putJob_made (Nat.or_self _) s fg j (.refl ..)) rfl h

theorem beginErase_link {fg : Bool} {j : Job} {k : Nat} {data : List Byte} (h : LinkStep s0 s) : LinkStep s0 (beginErase s fg j k data) :=
  .made (beginErase_made (Nat.or_self _) s fg j k data (.refl ..)) rfl h

theorem setEpoch_link {r e : Nat} (h : LinkStep s0 s) : LinkStep s0 (setEpoch s r e) :=
  .made (setEpoch_made (Nat.or_self _) s r e (.refl ..)) rfl h

theorem setKslot_link {k st range : Nat} (h : LinkStep s0 s) : LinkStep s0 (setKslot s k st range) :=
  .made (setKslot_made (Nat.or_self _) s k st range (.refl ..)) rfl h

theorem emptyKslot_link {k : Nat} (h : LinkStep s0 s) : LinkStep s0 (emptyKslot s k) :=
  .made (emptyKslot_made (Nat.or_self _) s k (.refl ..)) rfl h

/-- The key slots that hold an old key of range `r` are emptied. -/
theorem oldKslots_link {r : Nat} (h : LinkStep s0 s) : LinkStep s0 ((List.range 16).foldl (fun u k =>
    if getf u (F.SCR_KSLOT_STATE k) = 3 ∧ getf u (F.SCR_KSLOT_RANGE k) = r then emptyKslot u k else u) s) :=
  .foldl (fun _ => .on emptyKslot_link) _ h

/-- A field of the scratch ranges. -/
theorem setf_scr_link {f : Fld} {v : Nat} (hf : blockOf f.reg = 18) (h : LinkStep s0 s) : LinkStep s0 (setf s f v) :=
  .setf (not_mem_linkRegs_of_blk hf (by decide)) h

/-- A job runs as far as its next flash step, one action at a time. -/
theorem runJob_link {fg : Bool} {j : Job} (fuel : Nat) (h : LinkStep s0 s) : LinkStep s0 (runJob s fg j fuel) := by
  induction fuel generalizing s j with
  | zero => exact putJob_link h
  | succ fuel ih =>
    have hstate (r v : Nat) {u : State} (k : LinkStep s0 u) : LinkStep s0 (setf u (F.SCR_RNG_CTL_STATE r) v) :=
      setf_scr_link (F.SCR_RNG_CTL_STATE_blk r) k
    have hprog (r v : Nat) {u : State} (k : LinkStep s0 u) : LinkStep s0 (setf u (F.SCR_RNG_PROG_PROG r) v) :=
      setf_scr_link (F.SCR_RNG_PROG_PROG_blk r) k
    unfold runJob
    dsimp only
    split
    case h_1 => exact endJob_link h
    case h_2 =>
      split
      · exact endJob_link h
      · exact .ite (ih (markBad_link h)) (beginErase_link h)
    case h_3 =>
      split
      · exact ih h
      · exact .ite (ih (markBad_link h)) (beginErase_link h)
    case h_4 => exact ih h
    case h_5 => exact .ite (ih h) (ih (lineFailures_link _ h))
    case h_6 => exact ih (lineFailures_link _ h)
    case h_7 => exact ih (hprog _ _ h)
    case h_8 => exact ih (setDir_link h)
    case h_9 => exact beginErase_link h
    case h_10 => exact putJob_link (beginErase_link (setDir_link h))
    case h_11 => exact .ite (ih h) (endJob_link h)
    case h_12 => exact beginErase_link h
    case h_13 => exact ih (hstate _ _ h)
    case h_14 => exact ih (hprog _ _ (hstate _ _ (setEpoch_link (.same (by rfl) (by rfl) (by rfl) h))))
    case h_15 r _ _ =>
      have hrolls := not_mem_linkRegs_of_blk (F.SCR_RNG_CNT_ROLLS_blk r) (by decide)
      exact ih (.setf (by decide) (.setf hrolls (hstate _ _ h)))
    case h_16 => exact ih (.setf (by decide) (hstate _ _ h))
    case h_17 => exact ih (setKslot_link h)
    case h_18 r _ _ _ =>
      refine ih (hstate _ _ (hprog _ _ (setf_scr_link (F.SCR_RNG_CTL_KSLOT_blk r) (setf_scr_link (F.SCR_RNG_CTL_OLD_KSLOT_blk r) ?_))))
      exact setKslot_link (setKslot_link (.same (by rfl) (by rfl) (by rfl) h))
    case h_19 =>
      exact ih (.ite (hstate _ _ (emptyKslot_link (oldKslots_link (setEpoch_link h)))) (hstate _ _ (oldKslots_link (setEpoch_link h))))

theorem serveJobs_link (fuel : Nat) (h : LinkStep s0 s) : LinkStep s0 (serveJobs s fuel) := by
  induction fuel generalizing s with
  | zero => exact h
  | succ fuel ih =>
    unfold serveJobs
    split
    · exact .setf (by decide) h
    · exact .ite (ih (runJob_link _ h)) (.setf (by decide) h)

theorem addJob_link {j : Job} (h : LinkStep s0 s) : LinkStep s0 (addJob s j) := by
  have hdep (u : State) (d : Dep) (k : LinkStep s0 u) : LinkStep s0 (setDep u d) := .same (by rfl) (by rfl) (by rfl) k
  unfold addJob
  dsimp only
  refine serveJobs_link _ (hdep _ _ ?_)
  split
  · exact h
  · exact .ite h (hdep _ _ (.setf (by decide) h))

/-! #### The boot path -/

theorem setBoot_link {b : Boot} (h : LinkStep s0 s) : LinkStep s0 (setBoot s b) := .same (by rfl) (by rfl) (by rfl) h

theorem recordFail_link {src reason : Nat} (h : LinkStep s0 s) : LinkStep s0 (recordFail s src reason) :=
  .made (recordFail_made (Nat.or_self _) s src reason (.refl ..)) rfl h

theorem clearFabric_link (h : LinkStep s0 s) : LinkStep s0 (clearFabric s) := .made (clearFabric_made (Nat.or_self _) s (.refl ..)) rfl h

theorem bootJob_link {src : Nat} (h : LinkStep s0 s) : LinkStep s0 (bootJob s src) := by
  unfold bootJob
  split
  · exact .same (by rfl) (by rfl) (by rfl) h
  · exact addJob_link (.same (by rfl) (by rfl) (by rfl) h)

theorem chainTry_link (h : LinkStep s0 s) : LinkStep s0 (chainTry s) := by
  unfold chainTry sendImageReq
  exact .ite (sendMsg_link (.same (by rfl) (by rfl) (by rfl) h)) (.same (by rfl) (by rfl) (by rfl) h)

theorem enterRecovery_link (h : LinkStep s0 s) : LinkStep s0 (enterRecovery s) := by
  have hshown : LinkStep s0 (recoveryShown s) := .setf (by decide) (.setf (by decide) (clearFabric_link (setBoot_link h)))
  have hmapped : LinkStep s0 (recoveryMapped s) :=
    .made (noNvMaps_made (Nat.or_self _) _ (.refl ..)) rfl (.setf (by decide) (.setf (by decide) hshown))
  have hqueued : LinkStep s0 (recoveryQueued (recoveryMapped s)) := .start (.setPwr (by rfl) (.refl _)) hmapped
  rw [enterRecovery_eq]
  exact .ite (.start (endS1_start (.refl _)) hqueued) hqueued

theorem tryBoot_link (l : List Nat) (h : LinkStep s0 s) : LinkStep s0 (tryBoot s l) := by
  induction l generalizing s with
  | nil => exact enterRecovery_link h
  | cons src l ih =>
    unfold tryBoot
    dsimp only
    split_ifs
    · exact .setf (by decide) (setBoot_link h)
    · exact ih (recordFail_link h)
    · exact ih (recordFail_link h)
    · exact chainTry_link (setBoot_link (.same (by rfl) (by rfl) (by rfl) h))
    · exact setBoot_link h
    · exact bootJob_link (setBoot_link h)
    · exact setBoot_link (setBoot_link h)

theorem bootFail_link {reason : Nat} (h : LinkStep s0 s) : LinkStep s0 (bootFail s reason) := by
  unfold bootFail
  split
  · exact h
  · exact tryBoot_link _ (clearFabric_link (recordFail_link (setBoot_link (.same (by rfl) (by rfl) (by rfl) h))))

theorem chainTryEnd_link {reason : Nat} {last : Bool} (h : LinkStep s0 s) : LinkStep s0 (chainTryEnd s reason last) :=
  .ite (chainTry_link (clearFabric_link h)) (bootFail_link h)

/-! #### A round is lost with its link -/

theorem roundAborted_link {r reason : Nat} (h : LinkStep s0 s) : LinkStep s0 (roundAborted s r reason) := by
  have hdown : LinkStep s0 (abortDown s r reason) := .same (by rfl) (by rfl) (by rfl) (sendMsg_link h)
  unfold roundAborted
  refine .on chainTryEnd_link (.same (by rfl) (by rfl) (by rfl) (raise9_link (by decide) hdown))

theorem onRoundLost_link {p : Nat} (h : LinkStep s0 s) : LinkStep s0 (onRoundLost s p) := by
  unfold onRoundLost
  split
  · exact .ite (roundAborted_link h) (.same (by rfl) (by rfl) (by rfl) h)
  · exact h

/-- What a port that goes down loses is counted. -/
theorem dropLink_link {p : Nat} (h : LinkStep s0 s) : LinkStep s0 (dropLink s p) := by
  have hport : ∀ r ∈ [R.CHN_LOST p, R.CHN_CNT2 p, R.CHN_KEYGEN p, R.CHN_EVT p], r ∉ linkRegs := by
    simp only [linkRegs, R.HIF_STAT, R.RST_DOM_FENCED, R.CHN_PSTAT, R.CHN_LOST, R.CHN_CNT2, R.CHN_KEYGEN, R.CHN_EVT,
      List.mem_cons, List.not_mem_nil, or_false]
    omega
  have hcells (u : State) (w : Wait) (k : LinkStep s0 u) : LinkStep s0 (match w.src with
      | some q => freeCells (satAdd u F.ENU_CNT_NOROUTE 1) q (msgVl w.m.ty) (msgCells w.m)
      | none => u) := by
    split
    · exact setPort_link (.setf (by decide) k)
    · exact k
  unfold dropLink raise
  refine .setf (hport _ (by simp [F.CHN_EVT_DOWN])) (.setf (hport _ (by simp [F.CHN_KEYGEN_KEYCHK])) (.setf (hport _ (by simp [F.CHN_CNT2_LINK_DOWNS])) ?_))
  refine .foldl (fun v => .wr (not_mem_linkRegs_of_blk (R.LDG_CHN_blk _) (by decide))) _ (.foldl (fun w => hcells _ w) _ ?_)
  exact .setf (hport _ (by simp [F.CHN_LOST_LOST_MSGS])) h

end

end Sys2Proof.Machine

/-! ### The SERDES rails (R85): every link drops -/
namespace Sys2Proof.Machine

section
variable {s : State}

/-! #### A port goes down -/

/-- Down to its state word, what a port's fall does leaves the links alone. -/
theorem portDown_spec (s : State) (p st : Nat) : ∃ u, LinkStep s u
    ∧ LinkStep (wr u (R.CHN_PSTAT p) (w32 (st + getf u (F.CHN_PSTAT_FAIL p) * 2 ^ 16))) (portDown s p st) := by
  have hrestart (u : State) : LinkStep (wr u (R.CHN_PSTAT p) (w32 (st + getf u (F.CHN_PSTAT_FAIL p) * 2 ^ 16))) (portRestart u p st) :=
    showReplay_link (setPort_link (.refl _))
  have hlost := onRoundLost_link (p := p) (hrestart (dropLink s p))
  unfold portDown
  split
  · exact ⟨_, dropLink_link (.refl _), .ite hlost (onBreak_link hlost)⟩
  · exact ⟨_, .refl s, hrestart s⟩

/-- A state word's low bits are the port's state. -/
theorem extractBits_pstat {st : Nat} (h : st < 8) (x : Nat) : extractBits (w32 (st + x * 2 ^ 16)) 0 3 = st := by
  unfold extractBits w32
  rw [BitVec.toNat_ofNat]
  omega

theorem portDown_state (s : State) (p : Nat) {st : Nat} (h : st < 8) : getf (portDown s p st) (F.CHN_PSTAT_STATE p) = st := by
  obtain ⟨u, -, hrest⟩ := portDown_spec s p st
  rw [getf_congr (f := F.CHN_PSTAT_STATE p) (hrest.port_eq p)]
  show extractBits (rd (wr u (R.CHN_PSTAT p) _) (R.CHN_PSTAT p)) 0 3 = st
  rw [rd_wr_same, extractBits_pstat h]

/-- The fall of port `p` leaves the host link, the rails, D0 with its fence and the other port alone. -/
structure PortFalls (p : Nat) (s t : State) : Prop where
  host_eq : rd t R.HIF_STAT = rd s R.HIF_STAT
  rails_eq : t.pwr.railsOff = s.pwr.railsOff
  dom_eq : dom t 0 = dom s 0
  fenced_eq : fenced t 0 = fenced s 0
  port_eq : ∀ q, q % 2 ≠ p % 2 → rd t (R.CHN_PSTAT q) = rd s (R.CHN_PSTAT q)

theorem PortFalls.trans {p : Nat} {s t u : State} (h : PortFalls p s t) (k : PortFalls p t u) : PortFalls p s u :=
  ⟨k.host_eq.trans h.host_eq, k.rails_eq.trans h.rails_eq, k.dom_eq.trans h.dom_eq, k.fenced_eq.trans h.fenced_eq,
    fun q hq => (k.port_eq q hq).trans (h.port_eq q hq)⟩

theorem LinkStep.falls {s t : State} (h : LinkStep s t) (p : Nat) : PortFalls p s t :=
  ⟨h.host_eq, h.rails_eq, h.dom_eq, h.fenced_eq, fun q _ => h.port_eq q⟩

/-- The port's own state word. -/
theorem wr_pstat_falls (s : State) (p : Nat) (w : W32) : PortFalls p s (wr s (R.CHN_PSTAT p) w) := by
  have hhost : R.HIF_STAT ≠ R.CHN_PSTAT p := by simp only [R.HIF_STAT, R.CHN_PSTAT]; omega
  have hfence : R.RST_DOM_FENCED ≠ R.CHN_PSTAT p := by simp only [R.RST_DOM_FENCED, R.CHN_PSTAT]; omega
  refine ⟨rd_wr_ne hhost s w, rfl, rfl, fenced_congr (rd_wr_ne hfence s w) 0, fun q hq => rd_wr_ne ?_ s w⟩
  simp only [R.CHN_PSTAT]
  omega

theorem portDown_falls (s : State) (p st : Nat) : PortFalls p s (portDown s p st) := by
  obtain ⟨u, hdrop, hrest⟩ := portDown_spec s p st
  exact ((hdrop.falls p).trans (wr_pstat_falls u p _)).trans (hrest.falls p)

/-- A port that is not OFF goes to DETECT. -/
def portFall (s : State) (p : Nat) : State := if getf s (F.CHN_PSTAT_STATE p) = 0 then s else portDown s p 1

theorem portFall_falls (s : State) (p : Nat) : PortFalls p s (portFall s p) := by
  unfold portFall
  split
  · exact ⟨rfl, rfl, rfl, rfl, fun _ _ => rfl⟩
  · exact portDown_falls s p 1

theorem portFall_down (s : State) (p : Nat) : portUp (portFall s p) p = false := by
  refine decide_eq_false ?_
  unfold portFall
  split
  · next h => rw [h]; decide
  · rw [portDown_state s p (by decide)]; decide

/-! #### The host link goes down -/

theorem linkDrop_down (s : State) : isSet (linkDrop s) F.HIF_STAT_LINK_UP = false := by
  unfold linkDrop
  split
  · next h => simpa using h
  · rw [isSet_congr (f := F.HIF_STAT_LINK_UP) (linkChanged_link (.refl _)).host_eq, setHif_isSet, isSet_setf_apart (.inr (.inr (by decide))),
      isSet_setf_apart (.inr (.inr (by decide)))]
    exact isSet_setf_zero _ rfl (by decide)

theorem linkDrop_pwr (s : State) : (linkDrop s).pwr = s.pwr := (linkDrop_made (Nat.or_self _) s (.refl ..)).pwr rfl

/-- The host link's part: it goes down, and D0 is to be reset. -/
def hostFall (s : State) : State := if (dom s 0).powered then requestReset (linkDrop s) 0 2 0 false else s

theorem hostFall_rails (s : State) : (hostFall s).pwr.railsOff = s.pwr.railsOff := by
  unfold hostFall
  split
  · rw [requestReset_pwr, linkDrop_pwr]
  · rfl

theorem hostFall_does (h : (dom s 0).powered = true) : isSet (hostFall s) F.HIF_STAT_LINK_UP = false ∧ resetFenced (hostFall s) 0 2 := by
  unfold hostFall
  rw [if_pos h]
  refine ⟨?_, requestReset_resetFenced _ 2 0 false (by decide)⟩
  rw [isSet_congr (f := F.HIF_STAT_LINK_UP) ((requestReset_step _ 2 0 false (by decide)).rd_eq _ (by decide))]
  exact linkDrop_down s

/-! #### The brown-out -/

theorem exec_brownOutSer (sera : Bool) (hrail : bit s.pwr.railsOff (3 + b2n sera) = false) (howl : bit s.pwr.railsOff 2 = false)
    (hstage : s.pwr.stage ≠ .sleep) : exec (.brownOutSer sera) s
      = .next (alarmUpdate (raise (portFall (portFall (hostFall (railFalls s (3 + b2n sera))) 0) 1) F.PWR_EVT_BO_SER)) := by
  show execBrownOutSer sera s = _
  unfold execBrownOutSer
  dsimp only
  rw [hrail, howl, if_neg (by decide), if_neg hstage]
  rfl

theorem brownOutSer_does (sera : Bool) (hrail : bit s.pwr.railsOff (3 + b2n sera) = false) (howl : bit s.pwr.railsOff 2 = false)
    (hstage : s.pwr.stage ≠ .sleep) : Does (.brownOutSer sera) s (fun t => isSet t F.PWR_EVT_BO_SER = true
      ∧ bit t.pwr.railsOff (3 + b2n sera) = true ∧ portUp t 0 = false ∧ portUp t 1 = false
      ∧ ((dom s 0).powered = true → isSet t F.HIF_STAT_LINK_UP = false ∧ resetFenced t 0 2)) := by
  let host := hostFall (railFalls s (3 + b2n sera))
  have hport0 : PortFalls 0 host (portFall host 0) := portFall_falls host 0
  have hport1 : PortFalls 1 (portFall host 0) (portFall (portFall host 0) 1) := portFall_falls _ 1
  have halarm (u : State) : LinkStep u (alarmUpdate (raise u F.PWR_EVT_BO_SER)) := alarmUpdate_link (.setf (by decide) (.refl _))
  have hlast := halarm (portFall (portFall host 0) 1)
  have hstat (p : Nat) (u : State) : portUp (alarmUpdate (raise u F.PWR_EVT_BO_SER)) p = portUp u p := by
    unfold portUp
    rw [getf_congr (f := F.CHN_PSTAT_STATE p) ((halarm u).port_eq p)]
  refine ⟨_, exec_brownOutSer sera hrail howl hstage, ?_, ?_, ?_, ?_, fun hpow => ?_⟩
  · rw [isSet_congr (f := F.PWR_EVT_BO_SER) (alarmUpdate_rd (by decide) _)]
    exact isSet_raise _ _ rfl (by decide)
  · rw [hlast.rails_eq, hport1.rails_eq, hport0.rails_eq, hostFall_rails, railFalls_rails]
    exact bit_setBit_same _ _
  · rw [hstat]
    unfold portUp
    rw [getf_congr (f := F.CHN_PSTAT_STATE 0) (hport1.port_eq 0 (by decide))]
    exact portFall_down host 0
  · rw [hstat]
    exact portFall_down _ 1
  · have hpow' : (dom (railFalls s (3 + b2n sera)) 0).powered = true := by rw [dom_congr (railFalls_doms ..)]; exact hpow
    obtain ⟨hdown, hfenced, hreset⟩ := hostFall_does hpow'
    refine ⟨?_, ?_, ?_⟩
    · rw [isSet_congr (f := F.HIF_STAT_LINK_UP) (hlast.host_eq.trans (hport1.host_eq.trans hport0.host_eq))]
      exact hdown
    · rw [hlast.fenced_eq, hport1.fenced_eq, hport0.fenced_eq]
      exact hfenced
    · rw [hlast.dom_eq, hport1.dom_eq, hport0.dom_eq]
      exact hreset

end

/-- Settles O33: each command's own lemma; the resets of a unit share `warmReset_begins` and `unitReset`'s lemmas. -/
theorem unitResets : Obligations.UnitResets := by
  unfold Obligations.UnitResets
  intro s
  exact ⟨fun m => ⟨rstUnit_wrong m, rstUnit_does m⟩,
    fun hin hen hrun hreset => ⟨watchdogExpiry_first hin hen hrun hreset, watchdogExpiry_again hin hen hrun hreset⟩,
    fun p m hkey h => ⟨resetCmd_permitted p m hkey h, resetCmd_refused p m hkey h⟩,
    rstNFall_does, rstNRise_does, powerOnReset_does s, powerGoodEvent_does,
    fun aux howl hrail => ⟨brownOutVcc_does aux howl hrail, brownOutVcc_asleep aux howl hrail⟩,
    brownOutVccowl_does, brownOutSer_does, brownOutIo_does, railReturn_does⟩

end Sys2Proof.Machine

/-! ### A domain that is in reset stays in reset (R108, R120)

What a reset does to the blocks of domain `d` drops links and ends rounds, and through the boot path may go on with the staged start:
none of it releases `d`, changes its counts, or begins a warm unit reset. -/
namespace Sys2Proof.Machine

/-- Between `s` and `t` domain `d`, where it is in reset, stays so, with its counts; no warm unit reset begins. -/
structure StaysReset (d : Nat) (s t : State) : Prop where
  fence_eq : (dom s d).fence = .reset → (dom t d).fence = .reset
  inrst_eq : bit (rd t R.RST_DOM_INRST).toNat d = bit (rd s R.RST_DOM_INRST).toNat d
  stat_eq : rd t (R.RST_DOM_STAT d) = rd s (R.RST_DOM_STAT d)
  warm_eq : s.pwr.warm = 0 → t.pwr.warm = 0

/-- The parts of the state that a `StaysReset` speaks of, as a mask of `Made`: pwr, doms and the block RST. -/
def resetMask : Nat := 2 ^ 12 + 2 ^ 13 + 2 ^ 66

theorem domStat_not_fenceReg (d : Nat) : R.RST_DOM_STAT d ∉ fenceRegs := by
  simp only [fenceRegs, R.RST_DOM_FENCED, R.RST_DOM_REQ, R.RST_DOM_INRST, R.BNK_PSTATE, R.RST_LOG_HEAD, R.RST_DOM_STAT, List.mem_cons,
    List.not_mem_nil, or_false]
  omega

/-- No register of the resets goes with a domain (Table 23-3). -/
theorem regClass_rst {r : Nat} (h : blockOf r = 2) (d : Nat) : regClass r ≠ .dom d := by
  unfold blockOf at h
  unfold regClass
  dsimp only
  split
  case h_3 => split_ifs <;> exact nofun
  case h_25 => exact nofun
  all_goals omega

/-- A reset within the fence is not ended by a holder that lets go. -/
theorem tryReopen_inReset {s : State} {d : Nat} (h : (dom s d).fence = .reset) : tryReopen s d = s := if_neg (by simp [h])

theorem rd_tryReopen_inrst (s : State) (d : Nat) : rd (tryReopen s d) R.RST_DOM_INRST = rd s R.RST_DOM_INRST := by
  unfold tryReopen
  dsimp only
  split
  · exact rd_reopen_inrst s d
  · rfl

namespace StaysReset
variable {d : Nat} {s0 s t : State}

theorem refl (d : Nat) (s : State) : StaysReset d s s := ⟨id, rfl, rfl, id⟩

theorem trans (h : StaysReset d s0 s) (k : StaysReset d s t) : StaysReset d s0 t :=
  ⟨fun hf => k.fence_eq (h.fence_eq hf), k.inrst_eq.trans h.inrst_eq, k.stat_eq.trans h.stat_eq, fun hw => k.warm_eq (h.warm_eq hw)⟩

theorem ite {c : Prop} [Decidable c] (h : StaysReset d s0 s) (k : StaysReset d s0 t) : StaysReset d s0 (if c then s else t) := by
  split <;> assumption

theorem cases {c : Prop} [Decidable c] (h : c → StaysReset d s0 s) (k : ¬c → StaysReset d s0 t) : StaysReset d s0 (if c then s else t) := by
  split
  · exact h ‹_›
  · exact k ‹_›

/-- What is done on a condition. -/
theorem on {c : Prop} [Decidable c] {g : State → State} (hg : ∀ {u}, StaysReset d s0 u → StaysReset d s0 (g u)) (h : StaysReset d s0 s) :
    StaysReset d s0 (if c then g s else s) := .ite (hg h) h

theorem foldl {α : Type} {f : State → α → State} (hf : ∀ {t} x, StaysReset d s0 t → StaysReset d s0 (f t x)) (l : List α)
    (h : StaysReset d s0 s) : StaysReset d s0 (l.foldl f s) := by
  induction l generalizing s with
  | nil => exact h
  | cons x l ih => exact ih (hf x h)

/-- The registers of the resets, the domains and the warm reset stay as they are. -/
theorem same (h : StaysReset d s0 s) (hrd : ∀ r, blockOf r = 2 → rd t r = rd s r) (hdoms : t.doms = s.doms)
    (hwarm : s.pwr.warm = 0 → t.pwr.warm = 0) : StaysReset d s0 t :=
  h.trans ⟨fun hf => by rw [dom_congr hdoms]; exact hf, by rw [hrd _ (by decide)], hrd _ (R.RST_DOM_STAT_blk d), hwarm⟩

/-- Parts of the state that hold neither registers nor domains nor the power staging. -/
theorem parts (hregs : t.regs = s.regs) (hpwr : t.pwr = s.pwr) (hdoms : t.doms = s.doms) (h : StaysReset d s0 s) : StaysReset d s0 t :=
  h.same (fun _ _ => by unfold rd; rw [hregs]) hdoms (by rw [hpwr]; exact id)

/-- An operation whose footprint has nothing of the mask. -/
theorem made {M : Nat} (k : Made M s t) (hM : M &&& resetMask = 0) (h : StaysReset d s0 s) : StaysReset d s0 t :=
  h.same (fun r hr => k.blk r (by rw [hr]; exact testBit_of_land_zero hM (by decide))) (k.doms (testBit_of_land_zero hM (by decide)))
    (by rw [k.pwr (testBit_of_land_zero hM (by decide))]; exact id)

theorem wr {r : Nat} {w : W32} (hr : blockOf r ≠ 2) (h : StaysReset d s0 s) : StaysReset d s0 (wr s r w) :=
  h.same (t := Machine.wr s r w) (fun _ ha => rd_wr_ne (by rintro rfl; exact hr ha) s w) rfl id

theorem setf {f : Fld} {v : Nat} (hf : blockOf f.reg ≠ 2) (h : StaysReset d s0 s) : StaysReset d s0 (setf s f v) := .wr hf h

theorem setPwr {p : Pwr} (hp : s.pwr.warm = 0 → p.warm = 0) (h : StaysReset d s0 s) : StaysReset d s0 (setPwr s p) :=
  h.same (t := Machine.setPwr s p) (fun _ _ => rfl) rfl hp

theorem setFab {x : Fab} (h : StaysReset d s0 s) : StaysReset d s0 (setFab s x) := .parts (by rfl) (by rfl) (by rfl) h

/-- The registers of a domain go to their reset words: those of the resets are not among them. -/
theorem resetRegs (e : Nat) (h : StaysReset d s0 s) : StaysReset d s0 (resetRegs s (fun c => c == .dom e)) := by
  refine h.same (t := Machine.resetRegs s _) (fun r hr => ?_) rfl id
  rw [rd_resetRegs, if_neg (by simpa using regClass_rst hr e)]

/-- Work on the fence of another domain. -/
theorem fence {e : Nat} (k : FenceStep e s t) (hd : d ≠ e) (hpwr : t.pwr = s.pwr) (h : StaysReset d s0 s) : StaysReset d s0 t :=
  h.trans ⟨fun hf => by rw [k.dom_eq d hd]; exact hf, k.inrst_eq d hd, k.rd_eq _ (domStat_not_fenceReg d), by rw [hpwr]; exact id⟩

/-- The domain's record is replaced by one with the same step of its fence. -/
theorem setDom {e : Nat} {x : Dom} (hx : x.fence = (dom s e).fence) (h : StaysReset d s0 s) : StaysReset d s0 (setDom s e x) := by
  refine h.trans ⟨fun hf => ?_, rfl, rfl, id⟩
  by_cases hd : d = e
  · subst hd; rw [dom_setDom, hx]; exact hf
  · rw [dom_setDom_ne hd]; exact hf

/-- A holder of any domain lets go. -/
theorem releaseHolder {e : Nat} (he : e < 32) (k : Nat) (h : StaysReset d s0 s) : StaysReset d s0 (releaseHolder s e k) := by
  have hstep := releaseHolder_step s he k
  have hinrst : rd (Machine.releaseHolder s e k) R.RST_DOM_INRST = rd s R.RST_DOM_INRST := rd_tryReopen_inrst _ e
  have hpwr := (releaseHolder_made (Nat.or_self _) s e k (.refl ..)).pwr rfl
  refine h.trans ⟨fun hf => ?_, by rw [hinrst], hstep.rd_eq _ (domStat_not_fenceReg d), by rw [hpwr]; exact id⟩
  by_cases hd : d = e
  · subst hd
    let x : Dom := { dom s d with holders := (dom s d).holders.filter (fun j => j != k) }
    have hx : (dom (Machine.setDom s d x) d).fence = .reset := by rw [dom_setDom]; exact hf
    rw [show Machine.releaseHolder s d k = Machine.setDom s d x from tryReopen_inReset hx]
    exact hx
  · rw [hstep.dom_eq d hd]; exact hf

end StaysReset

end Sys2Proof.Machine

/-! ### The staged start leaves the domains that it does not power alone (R87, R147 to R151)

A round that ends can send the boot path on to recovery: of the domains, the stages after it work on D11 and the banks' (D12 to D19). -/
namespace Sys2Proof.Machine

section
variable {d : Nat} {s0 s : State} (hd : d < 11 ∨ 19 < d)

/-! #### The stages S1 to S4 -/

theorem stageEnds_stays (n : Nat) (h : StaysReset d s0 s) : StaysReset d s0 (stageEnds s n) := .ite (.setPwr (by exact id) h) h

include hd

theorem domainReady_stays {e : Nat} (he : 11 ≤ e ∧ e ≤ 19) (h : StaysReset d s0 s) : StaysReset d s0 (domainReady s e) :=
  .fence (domainReady_step s (by omega)) (by omega) ((domainReady_made (Nat.or_self _) s e (.refl ..)).pwr rfl) h

theorem releaseDom_stays {e : Nat} (he : 11 ≤ e ∧ e ≤ 19) (h : StaysReset d s0 s) : StaysReset d s0 (releaseDom s e) :=
  .fence (releaseDom_step s (by omega)) (by omega) rfl h

theorem release1_stays (h : StaysReset d s0 s) : StaysReset d s0 (release1 s 11) :=
  .ite h (.made (releaseHook_made (Nat.or_self _) _ 11 (.refl ..)) rfl (releaseDom_stays hd (by decide) h))

theorem beginIdle_stays (h : StaysReset d s0 s) : StaysReset d s0 (beginIdle s) := by
  have hown : StaysReset d s0 (setPwr s { s.pwr with targetPend := none }) := .setPwr (by exact id) h
  unfold beginIdle
  exact .ite (.setf (by decide) (.setPwr (by exact id) hown))
    (.fence (closeFence_step _ (by decide) 7 _) (by omega) (closeFence_pwr ..) (.setf (by decide) (.setPwr (by exact id) hown)))

/-- The end of the start is the end of a warm reset. -/
theorem finishStart_stays (h : StaysReset d s0 s) : StaysReset d s0 (finishStart s) := by
  have hrun : StaysReset d s0 (setPwr s { s.pwr with stage := .run, warm := 0 }) := .setPwr (fun _ => rfl) h
  unfold finishStart
  exact .on (beginIdle_stays hd) (.setf (by decide) (.setf (by decide) (.setf (by decide) (stageEnds_stays 4 hrun))))

theorem seqDone_stays (h : StaysReset d s0 s) (hfor : s.fab.seqFor = 0) : StaysReset d s0 (seqDone s) := by
  have hdone : seqDone s = finishStart (trimBegin (domainReady
      (setf (setf (setFab s { s.fab with seqPh := 0 }) F.CFG_SEQ_STAT_DONE 1) F.FAB_STAT_STATE 2) 11)) := by
    unfold seqDone
    dsimp only [setf_fab, setFab_fab]
    rw [hfor]
    rfl
  rw [hdone]
  exact finishStart_stays hd (.setFab (.setf (by decide) (domainReady_stays hd (by decide) (.setf (by decide) (.setf (by decide) (.setFab h))))))

theorem seqGo_stays (fuel : Nat) (h : StaysReset d s0 s) (hfor : s.fab.seqFor = 0) : StaysReset d s0 (seqGo s fuel) := by
  induction fuel generalizing s with
  | zero => exact seqDone_stays hd h hfor
  | succ fuel ih =>
    have hindex (v : Nat) : StaysReset d s0 (setf s F.CFG_SEQ_STAT_INDEX v) := .setf (by decide) h
    unfold seqGo
    dsimp only
    split_ifs
    · exact seqDone_stays hd (hindex _) hfor
    · exact seqDone_stays hd h hfor
    · exact ih (hindex _) hfor
    · exact .setFab h
    · exact .setFab h

theorem seqBegin_stays (h : StaysReset d s0 s) : StaysReset d s0 (seqBegin s 0) :=
  seqGo_stays hd 8 (.setf (by decide) (.setFab (.setf (by decide) (.setf (by decide) (.setf (by decide) h))))) rfl

theorem startS4_stays (h : StaysReset d s0 s) : StaysReset d s0 (startS4 s) := by
  have hbegin : StaysReset d s0 (setf (setPwr s { s.pwr with stage := .s4 }) F.PWR_STAT_STAGE 4) :=
    .setf (by decide) (.setPwr (by exact id) h)
  have hfabric (u : State) (hu : StaysReset d s0 u) (q : List Nat) :
      StaysReset d s0 (release1 (showWave (setPwr u { u.pwr with wq := q }) q) 11) :=
    release1_stays hd (.setf (by decide) (.setPwr (by exact id) hu))
  unfold startS4
  exact .ite (finishStart_stays hd (.setf (by decide) hbegin))
    (.ite (seqBegin_stays hd (.setf (by decide) (.setPwr (by exact id) (hfabric _ hbegin _)))) (hfabric _ hbegin _))

theorem endS3_stays (h : StaysReset d s0 s) : StaysReset d s0 (endS3 s) := by
  unfold endS3
  exact .ite (finishStart_stays hd (stageEnds_stays 3 h)) (startS4_stays hd (stageEnds_stays 3 h))

theorem startS3_stays (h : StaysReset d s0 s) : StaysReset d s0 (startS3 s) := by
  unfold startS3
  exact .on (endS3_stays hd) (.setPwr (by exact id) (.setf (by decide) (.setPwr (by exact id) h)))

theorem marchOrS3_stays (h : StaysReset d s0 s) : StaysReset d s0 (marchOrS3 s) := by
  unfold marchOrS3
  split
  · exact startS3_stays hd h
  · exact .made (startMarch_made (Nat.or_self _) s _ _ _ (.refl ..)) rfl h

theorem endS2_stays (h : StaysReset d s0 s) : StaysReset d s0 (endS2 s) := marchOrS3_stays hd (stageEnds_stays 2 h)

/-- The domains of a list of banks come into service. -/
theorem banksReady_stays (l : List Nat) (hl : ∀ n ∈ l, n < 8) (h : StaysReset d s0 s) :
    StaysReset d s0 (l.foldl (fun t n => domainReady (releaseDom t (12 + n)) (12 + n)) s) := by
  induction l generalizing s with
  | nil => exact h
  | cons n l ih =>
    have hn : n < 8 := hl n List.mem_cons_self
    exact ih (fun k hk => hl k (List.mem_cons_of_mem n hk))
      (domainReady_stays hd (by omega) (releaseDom_stays hd (by omega) h))

theorem startS2_stays (h : StaysReset d s0 s) : StaysReset d s0 (startS2 s) := by
  unfold startS2
  exact .on (endS2_stays hd) (.setPwr (by exact id)
    (banksReady_stays hd _ (fun n hn => List.mem_range.1 hn) (.setf (by decide) (.setPwr (by exact id) h))))

theorem endS1_stays (h : StaysReset d s0 s) : StaysReset d s0 (endS1 s) := startS2_stays hd (stageEnds_stays 1 h)

/-! #### The boot path -/

theorem enterRecovery_stays (h : StaysReset d s0 s) : StaysReset d s0 (enterRecovery s) := by
  have hclear : StaysReset d s0 (clearFabric (setBoot s {})) :=
    .made (clearFabric_made (Nat.or_self _) _ (.refl ..)) rfl (.parts (by rfl) (by rfl) (by rfl) h)
  have hmapped : StaysReset d s0 (recoveryMapped s) := .made (noNvMaps_made (Nat.or_self _) _ (.refl ..)) rfl
    (.setf (by decide) (.setf (by decide) (.setf (by decide) (.setf (by decide) hclear))))
  have hqueued : StaysReset d s0 (recoveryQueued (recoveryMapped s)) := .setPwr (by exact id) hmapped
  rw [enterRecovery_eq]
  exact .ite (endS1_stays hd hqueued) hqueued

theorem tryBoot_stays (l : List Nat) (h : StaysReset d s0 s) : StaysReset d s0 (tryBoot s l) := by
  have hboot {u : State} (b : Boot) (k : StaysReset d s0 u) : StaysReset d s0 (setBoot u b) := .parts (by rfl) (by rfl) (by rfl) k
  induction l generalizing s with
  | nil => exact enterRecovery_stays hd h
  | cons src l ih =>
    have hfail (reason : Nat) : StaysReset d s0 (recordFail s src reason) :=
      .made (recordFail_made (Nat.or_self _) s src reason (.refl ..)) rfl h
    unfold tryBoot
    dsimp only
    split_ifs with hplane hvalid hchain
    · exact .setf (by decide) (hboot _ h)
    · exact ih (hfail 5)
    · exact ih (hchain ▸ hfail 6)
    · exact .made (chainTry_made (Nat.or_self _) _ (.refl ..)) rfl (hboot _ (.parts (by rfl) (by rfl) (by rfl) h))
    · exact hboot _ h
    · exact .made (bootJob_made (Nat.or_self _) _ src (.refl ..)) rfl (hboot _ h)
    · exact hboot _ (hboot _ h)

theorem bootFail_stays (reason : Nat) (h : StaysReset d s0 s) : StaysReset d s0 (bootFail s reason) := by
  cases hpath : s.boot.path with
  | nil => unfold bootFail; rw [hpath]; exact h
  | cons src l =>
    rw [bootFail_eq hpath]
    exact tryBoot_stays hd l (.made (clearFabric_made (Nat.or_self _) _ (.refl ..)) rfl
      (.made (recordFail_made (Nat.or_self _) _ src reason (.refl ..)) rfl (.parts (by rfl) (by rfl) (by rfl) h)))

theorem chainTryEnd_stays (reason : Nat) (last : Bool) (h : StaysReset d s0 s) : StaysReset d s0 (chainTryEnd s reason last) :=
  .ite (.made (chainTry_made (Nat.or_self _) _ (.refl ..)) rfl (.made (clearFabric_made (Nat.or_self _) s (.refl ..)) rfl h))
    (bootFail_stays hd reason h)

/-! #### A round ends -/

theorem roundAborted_stays (r reason : Nat) (h : StaysReset d s0 s) : StaysReset d s0 (roundAborted s r reason) := by
  have hdown : StaysReset d s0 (abortDown s r reason) := .made (abortDown_made (Nat.or_self _) s r reason (.refl ..)) rfl h
  have hraised : StaysReset d s0 (raise9 (abortDown s r reason) F.DEP_EVT_ROUND_ABORT) :=
    .ite hdown (.made (devEvent_made (Nat.or_self _) _ 9 (.refl ..)) rfl (.setf (by decide) hdown))
  unfold roundAborted
  exact .on (chainTryEnd_stays hd reason false) (.parts (by rfl) (by rfl) (by rfl) hraised)

theorem onRoundLost_stays (p : Nat) (h : StaysReset d s0 s) : StaysReset d s0 (onRoundLost s p) := by
  unfold onRoundLost
  split
  · exact .ite (roundAborted_stays hd _ 7 h) (.parts (by rfl) (by rfl) (by rfl) h)
  · exact h

/-- A port goes down. -/
theorem portDown_stays (p st : Nat) (h : StaysReset d s0 s) : StaysReset d s0 (portDown s p st) := by
  have hrestart {u : State} (k : StaysReset d s0 u) : StaysReset d s0 (portRestart u p st) :=
    .made (portRestart_made (Nat.or_self _) u p st (.refl ..)) rfl k
  have hlost : StaysReset d s0 (onRoundLost (portRestart (dropLink s p) p st) p) :=
    onRoundLost_stays hd p (hrestart (.made (dropLink_made (Nat.or_self _) s p (.refl ..)) rfl h))
  unfold portDown
  exact .ite (.ite hlost (.made (onBreak_made (Nat.or_self _) _ p (.refl ..)) rfl hlost)) (hrestart h)

end

end Sys2Proof.Machine

/-! ### The reset of one domain (R108, R120, R121, R586) -/
namespace Sys2Proof.Machine

section
variable {d : Nat} {s0 s : State}

/-! #### What a reset drops -/

theorem bstAbort_stays (h : StaysReset d s0 s) : StaysReset d s0 (bstAbort s) := by
  unfold bstAbort
  exact .setf (by decide) (.parts (by rfl) (by rfl) (by rfl) (.ite (.setDom (by rfl) h) h))

theorem marchAbort_stays {n : Nat} (hn : n < 8) (h : StaysReset d s0 s) : StaysReset d s0 (marchAbort s n) := by
  by_cases hmarch : (bank s n).march = 0
  · rw [show marchAbort s n = s from if_pos hmarch]
    exact h
  · have hdrawn {u : State} (k : StaysReset d s0 u) : StaysReset d s0 (drawn u) := .parts (by rfl) (by rfl) (by rfl) k
    have hlost : StaysReset d s0 (marchLost s n) := .ite (.parts (by rfl) (by rfl) (by rfl) h)
      (hdrawn (.made (loseBytes_made (Nat.or_self _) _ _ _ (.refl ..)) rfl (hdrawn h)))
    have hgone : StaysReset d s0 (marchGone (marchLost s n) n) :=
      .setf (by decide) (.setf (by rw [F.BNK_MRES_DONE_blk]; decide) (.setf (by rw [F.BNK_STAT_ROW_blk]; decide)
        (.setf (by rw [F.BNK_STAT_MARCH_blk]; decide) (.parts (by rfl) (by rfl) (by rfl) hlost))))
    rw [marchAbort_eq s hmarch]
    exact .ite (.releaseHolder (by omega) _ hgone) hgone

theorem flashLose_stays {k : Nat} (h : StaysReset d s0 s) : StaysReset d s0 (flashLose s k) :=
  .made (flashLose_made (Nat.or_self _) s k (.refl ..)) rfl h

/-! #### The blocks, domain by domain -/

theorem resetHif_stays (h : StaysReset d s0 s) : StaysReset d s0 (resetHif s) :=
  .setf (by decide) (.made (hifReset_made (Nat.or_self _) _ (.refl ..)) rfl
    (.resetRegs 0 (.made (linkDrop_made (Nat.or_self _) s (.refl ..)) rfl h)))

theorem resetCtl_stays (h : StaysReset d s0 s) : StaysReset d s0 (resetCtl s) :=
  .parts (by rfl) (by rfl) (by rfl) (.foldl (fun p => .wr (by rw [R.LDG_CHN_blk]; decide)) _ (.resetRegs 1 h))

theorem resetPort_stays (hd : d < 11 ∨ 19 < d) (p : Nat) (h : StaysReset d s0 s) : StaysReset d s0 (resetPort s p) :=
  .parts (by rfl) (by rfl) (by rfl) (.resetRegs (2 + p) (portDown_stays hd p 0 h))

theorem resetSfq_stays (h : StaysReset d s0 s) : StaysReset d s0 (resetSfq s) :=
  .made (xoffPins_made (Nat.or_self _) _ (.refl ..)) rfl (.resetRegs 5 (.parts (by rfl) (by rfl) (by rfl) h))

theorem resetHar_stays (h : StaysReset d s0 s) : StaysReset d s0 (resetHar s) := .parts (by rfl) (by rfl) (by rfl) (.resetRegs 6 h)

theorem resetFab_stays (h : StaysReset d s0 s) : StaysReset d s0 (resetFab s) := by
  have hpace (v w : Nat) {u : State} (r : Nat) (k : StaysReset d s0 u) :
      StaysReset d s0 (setf (setf u (F.FAB_PACE_NOW r) v) (F.FAB_PACE_VALID r) w) :=
    .setf (by rw [F.FAB_PACE_VALID_blk]; decide) (.setf (by rw [F.FAB_PACE_NOW_blk]; decide) k)
  unfold resetFab
  refine .made (userIo_made (Nat.or_self _) _ _ (.refl ..)) rfl (.setFab (.ite ?_ (.setf (by decide) ?_))) <;>
    exact .foldl (fun r => hpace _ _ r) _ (.wr (by decide) (.wr (by decide) (.resetRegs 11 h)))

theorem resetBank_stays {n : Nat} (hn : n < 8) (h : StaysReset d s0 s) : StaysReset d s0 (resetBank s n) :=
  .made (showBank_made (Nat.or_self _) _ n (.refl ..)) rfl
    (.parts (by rfl) (by rfl) (by rfl) (.resetRegs (12 + n) (marchAbort_stays hn h)))

theorem resetKite_stays (h : StaysReset d s0 s) : StaysReset d s0 (resetKite s) := .parts (by rfl) (by rfl) (by rfl) (.resetRegs 20 h)

/-- What D21 was doing is cut off: a sector under way is lost, and a round ends. -/
def cfgCut (s : State) : State :=
  let lost := (match s.dep.jobs with | j :: _ => if 1 ≤ j.st then [j.sector] else [] | [] => [])
    ++ (match s.dep.bg with | some j => if 1 ≤ j.st then [j.sector] else [] | none => [])
  let s := lost.foldl flashLose s
  match s.load.round with | some r => roundAborted s r 7 | none => s

/-- The registers of D21 after its reset, with what they showed in `s` of the planes, the boot path and the start-up sequence. -/
def cfgRegs (s t : State) : State :=
  let t := resetRegs t (fun c => c == .dom 21)
  let t := wr (wr (wr t R.CFG_STAT (rd s R.CFG_STAT)) R.CFG_BOOT_LOG (rd s R.CFG_BOOT_LOG)) R.CFG_SEQ_STAT (rd s R.CFG_SEQ_STAT)
  let t := if t.ho.isNone then setf (setf t F.CFG_STAT_OP 0) F.CFG_STAT_OP_PLANE 0 else t
  if isSet s F.SCR_STAT_BUSY then setf t F.SCR_STAT_RESULT 6 else t

theorem resetCfg_eq (s : State) : resetCfg s = (List.range 2).foldl (fun t p => setValid t p (planeValid t p))
    { cfgRegs s (cfgCut s) with dep := {}, stage := none, load := {} } := by
  unfold resetCfg cfgRegs cfgCut
  rfl

theorem cfgCut_stays (hd : d < 11 ∨ 19 < d) (h : StaysReset d s0 s) : StaysReset d s0 (cfgCut s) := by
  have hlost (l : List Nat) : StaysReset d s0 (l.foldl flashLose s) := .foldl (fun _ => flashLose_stays) l h
  unfold cfgCut
  dsimp only
  split
  · exact roundAborted_stays hd _ 7 (hlost _)
  · exact hlost _

theorem cfgRegs_stays (u : State) (h : StaysReset d s0 s) : StaysReset d s0 (cfgRegs u s) := by
  have hkept := (StaysReset.resetRegs 21 h).wr (w := rd u R.CFG_STAT) (r := R.CFG_STAT) (by decide)
  have hregs := (hkept.wr (w := rd u R.CFG_BOOT_LOG) (r := R.CFG_BOOT_LOG) (by decide)).wr (w := rd u R.CFG_SEQ_STAT) (r := R.CFG_SEQ_STAT) (by decide)
  exact .on (.setf (by decide)) (.on (fun k => .setf (by decide) (.setf (by decide) k)) hregs)

theorem resetCfg_stays (hd : d < 11 ∨ 19 < d) (h : StaysReset d s0 s) : StaysReset d s0 (resetCfg s) := by
  rw [resetCfg_eq]
  exact .foldl (fun p k => .made (setValid_made (Nat.or_self _) _ p _ (.refl ..)) rfl k) _
    (.parts (by rfl) (by rfl) (by rfl) (cfgRegs_stays s (cfgCut_stays hd h)))

theorem resetMon_stays (h : StaysReset d s0 s) : StaysReset d s0 (resetMon s) :=
  .parts (by rfl) (by rfl) (by rfl) (.resetRegs 23 (bstAbort_stays h))

/-- Whatever its blocks drop, the domain whose reset is asserted stays in reset. -/
theorem resetBlocks_stays (h : StaysReset d s0 s) : StaysReset d s0 (resetBlocks s d) := by
  have hplain {u : State} (k : StaysReset d s0 u) : StaysReset d s0 (resetRegs u (fun c => c == .dom d)) := .resetRegs d k
  unfold resetBlocks
  dsimp only
  refine .cases (fun _ => resetHif_stays h) fun _ => ?_
  refine .cases (fun _ => resetCtl_stays h) fun _ => ?_
  refine .cases (fun _ => resetPort_stays (by omega) _ h) fun _ => ?_
  refine .cases (fun _ => resetSfq_stays h) fun _ => ?_
  refine .cases (fun _ => resetHar_stays h) fun _ => ?_
  refine .cases (fun _ => .parts (by rfl) (by rfl) (by rfl) (hplain h)) fun _ => ?_
  refine .cases (fun _ => hplain (.made (ospReset_made (Nat.or_self _) s (.refl ..)) rfl h)) fun _ => ?_
  refine .cases (fun _ => .parts (by rfl) (by rfl) (by rfl) (hplain (.made (nvAbandon_made (Nat.or_self _) s (.refl ..)) rfl h))) fun _ => ?_
  refine .cases (fun _ => hplain (.made (tbuStop_made (Nat.or_self _) s (.refl ..)) rfl h)) fun _ => ?_
  refine .cases (fun _ => resetFab_stays h) fun _ => ?_
  refine .cases (fun _ => resetBank_stays (by omega) h) fun _ => ?_
  refine .cases (fun _ => resetKite_stays h) fun _ => ?_
  refine .cases (fun _ => resetCfg_stays (by omega) h) fun _ => ?_
  refine .cases (fun _ => hplain (.made (tagReset_made (Nat.or_self _) s (.refl ..)) rfl h)) fun _ => ?_
  exact .cases (fun _ => resetMon_stays h) fun _ => hplain h

end

end Sys2Proof.Machine

/-! ### The commands of the reset sequencer (R107, R112 to R114, R119, R120, R586, Table 4-8) -/
namespace Sys2Proof.Machine

/-! #### RESET_ASSERT -/

section
variable {s : State} {d : Nat} (mids : List Midburst)

/-- The reset is counted and logged, with the bursts that it met. -/
def resetLogged (s : State) (d : Nat) (mids : List Midburst) : State :=
  let src := (dom s d).resetBy.getD 5
  logMidbursts (logEvent (satAdd s (F.RST_DOM_STAT_RESETS d) 1) d 2 src 0 0) d src mids

/-- The domain is in reset, with its blocks as they were. -/
def resetEntered (s : State) (d : Nat) (mids : List Midburst) : State :=
  let t := resetLogged s d mids
  setDomBit (setDom t d { dom t d with fence := .reset }) R.RST_DOM_INRST d true

/-- The engines' counts of operations go with their domain. -/
def countsGone (s : State) (d : Nat) : State := { s with tlm := { s.tlm with ops := s.tlm.ops.filter (fun p => !(enginesOf d).contains p.1) } }

theorem countsGone_mem (s : State) (d : Nat) : (countsGone s d).mem = s.mem := rfl

theorem bank_countsGone (s : State) (d n : Nat) : bank (countsGone s d) n = bank s n := rfl

theorem assertReset_eq (s : State) (d : Nat) : assertReset s d mids = countsGone (resetBlocks (resetEntered s d mids) d) d := by
  unfold assertReset resetEntered resetLogged countsGone
  rfl

theorem rd_logMidbursts {r : Nat} (hhead : r ≠ R.RST_LOG_HEAD) (hburst : r ≠ R.RST_MIDBURST) (d src : Nat) (s : State) :
    rd (logMidbursts s d src mids) r = rd s r := by
  induction mids generalizing s with
  | nil => rfl
  | cons b l ih => exact (ih _).trans ((rd_setf_ne hburst _ _).trans (rd_logEvent hhead ..))

theorem resetLogged_made (s : State) (d : Nat) : Made (2 ^ 1 + 2 ^ 15 + 2 ^ 66) s (resetLogged s d mids) :=
  logMidbursts_made (by decide) _ _ _ _ (logEvent_made (by decide) _ _ _ _ _ _
    (satAdd_made (by decide) _ _ _ (by rw [F.RST_DOM_STAT_RESETS_blk]; decide) (.refl ..)))

theorem domStat_ne {r d : Nat} (h : r < 0x20100) : R.RST_DOM_STAT d ≠ r := by simp only [R.RST_DOM_STAT]; omega

theorem resetLogged_count (s : State) (d : Nat) :
    getf (resetLogged s d mids) (F.RST_DOM_STAT_RESETS d) = min 255 (getf s (F.RST_DOM_STAT_RESETS d) + 1) := by
  have hkept : rd (resetLogged s d mids) (R.RST_DOM_STAT d) = rd (satAdd s (F.RST_DOM_STAT_RESETS d) 1) (R.RST_DOM_STAT d) :=
    (rd_logMidbursts mids (domStat_ne (by decide)) (domStat_ne (by decide)) _ _ _).trans (rd_logEvent (domStat_ne (by decide)) ..)
  rw [getf_congr (f := F.RST_DOM_STAT_RESETS d) hkept]
  exact getf_satAdd s _ 1 (show 0 + 8 ≤ 32 by decide)

/-- The domain enters its reset. -/
theorem resetEntered_enters (s : State) (hd : d < 32) :
    (dom (resetEntered s d mids) d).fence = .reset ∧ bit (rd (resetEntered s d mids) R.RST_DOM_INRST).toNat d = true
      ∧ getf (resetEntered s d mids) (F.RST_DOM_STAT_RESETS d) = min 255 (getf s (F.RST_DOM_STAT_RESETS d) + 1)
      ∧ (resetEntered s d mids).pwr = s.pwr := by
  have hmade := resetLogged_made mids s d
  refine ⟨?_, ?_, ?_, hmade.pwr rfl⟩
  · unfold resetEntered
    rw [setDomBit, dom_congr (wr_doms ..), dom_setDom]
  · unfold resetEntered
    rw [bit_setDomBit _ _ hd, if_pos ⟨rfl, rfl⟩]
  · unfold resetEntered
    rw [getf_congr (f := F.RST_DOM_STAT_RESETS d) (rd_setDomBit_ne (domStat_ne (by decide)) _ _ _)]
    exact resetLogged_count mids s d

/-- The blocks of these domains end their reset with their registers (R586). -/
theorem resetBlocks_regs (s : State) (hd : d ∈ [4, 8, 9, 10, 20, 22]) :
    ∃ u, (resetBlocks s d).regs = (resetRegs u (fun c => c == .dom d)).regs := by
  unfold resetBlocks
  simp only [List.mem_cons, List.not_mem_nil, or_false] at hd
  rcases hd with rfl | rfl | rfl | rfl | rfl | rfl
  · refine ⟨s, ?_⟩
    iterate 15 rw [if_neg (by decide)]
  · refine ⟨ospReset s, ?_⟩
    iterate 6 rw [if_neg (by decide)]
    rw [if_pos rfl]
  · refine ⟨nvAbandon s, ?_⟩
    iterate 7 rw [if_neg (by decide)]
    rw [if_pos rfl]
  · refine ⟨tbuStop s, ?_⟩
    iterate 8 rw [if_neg (by decide)]
    rw [if_pos rfl]
  · refine ⟨s, ?_⟩
    iterate 11 rw [if_neg (by decide)]
    rw [if_pos rfl, resetKite]
  · refine ⟨tagReset s, ?_⟩
    iterate 13 rw [if_neg (by decide)]
    rw [if_pos rfl]

theorem resetBlocks_words (s : State) (hd : d ∈ [4, 8, 9, 10, 20, 22]) {r : Nat} (hr : regClass r = .dom d) :
    rd (resetBlocks s d) r = resetWord r := by
  obtain ⟨u, hu⟩ := resetBlocks_regs s hd
  have hword : rd (resetRegs u (fun c => c == .dom d)) r = resetWord r := by rw [rd_resetRegs, if_pos (by simp [hr])]
  unfold rd at hword ⊢
  rw [hu]
  exact hword

/-- A bank in which nothing marches keeps its contents and its power through its reset (Table 4-1). -/
theorem resetBank_idle {n : Nat} (h : (bank s n).march = 0) :
    (resetBank s n).mem = s.mem ∧ (bank (resetBank s n) n).st = (bank s n).st := by
  have habort : marchAbort s n = s := if_pos h
  unfold resetBank
  rw [habort]
  have hshow (u : State) := showBank_made (Nat.or_self _) u n (.refl ..)
  refine ⟨(hshow _).mem rfl, ?_⟩
  rw [bank_congr ((hshow _).banks rfl), bank_setBank]
  rfl

theorem resetBlocks_bank (s : State) (hlo : 12 ≤ d) (hhi : d < 20) : resetBlocks s d = resetBank s (d - 12) := by
  unfold resetBlocks
  iterate 10 rw [if_neg (by omega)]
  rw [if_pos ⟨hlo, hhi⟩]

theorem exec_resetAssert {d : Fin 24} (hfence : (dom s d).fence = .aborted) (hreset : (dom s d).resetBy ≠ none) (hwarm : s.pwr.warm = 0)
    (hbst : ¬(bstPhase s = 3 ∧ s.bst.dom = d.val)) : exec (.resetAssert d mids) s = .next (assertReset s d mids) := by
  obtain ⟨-, -, -, hpwr⟩ := resetEntered_enters mids s (d := d.val) (by omega)
  have hstays : (assertReset s d mids).pwr.warm = 0 := by
    rw [assertReset_eq]
    exact (resetBlocks_stays (.refl d.val _)).warm_eq (by rw [hpwr]; exact hwarm)
  refine (if_neg (by simp [hfence, hreset, hwarm, hbst])).trans ?_
  show Host.Outcome.next (if _ then _ else _) = _
  rw [if_neg (by simp [hstays])]

theorem resetAssert_does (d : Fin 24) (hfence : (dom s d).fence = .aborted) (hreset : (dom s d).resetBy ≠ none) (hwarm : s.pwr.warm = 0)
    (hbst : ¬(bstPhase s = 3 ∧ s.bst.dom = d.val)) : Does (.resetAssert d mids) s (fun t => (dom t d).fence = .reset ∧ inReset t d = true
      ∧ getf t (F.RST_DOM_STAT_RESETS d) = min 255 (getf s (F.RST_DOM_STAT_RESETS d) + 1)
      ∧ (d.val ∈ [4, 8, 9, 10, 20, 22] → ∀ r, regClass r = .dom d.val → rd t r = resetWord r)
      ∧ (12 ≤ d.val → d.val < 20 → (bank s (d.val - 12)).march = 0 → t.mem = s.mem ∧ (bank t (d.val - 12)).st = (bank s (d.val - 12)).st)) := by
  obtain ⟨hin, hinrst, hcount, -⟩ := resetEntered_enters mids s (d := d.val) (by omega)
  have hstays := resetBlocks_stays (.refl d.val (resetEntered s d mids))
  refine ⟨_, exec_resetAssert mids hfence hreset hwarm hbst, ?_⟩
  rw [assertReset_eq]
  refine ⟨hstays.fence_eq hin, ?_, ?_, fun hd r hr => resetBlocks_words _ hd hr, fun hlo hhi hmarch => ?_⟩
  · have hbit := hstays.inrst_eq.trans hinrst
    unfold inReset
    exact Bool.or_eq_true_iff.2 (.inl hbit)
  · exact (getf_congr (f := F.RST_DOM_STAT_RESETS d) hstays.stat_eq).trans hcount
  · have hmade := resetLogged_made mids s d
    have hbanks : (resetEntered s d mids).banks = s.banks := hmade.banks rfl
    obtain ⟨hmem, hst⟩ := resetBank_idle (s := resetEntered s d mids) (n := d - 12) (by rw [bank_congr hbanks]; exact hmarch)
    rw [countsGone_mem, bank_countsGone, resetBlocks_bank _ hlo hhi, hmem, hst, bank_congr hbanks]
    exact ⟨hmade.mem rfl, rfl⟩

end

end Sys2Proof.Machine

/-! ### Requests and holds, domain by domain (R112, R113, R119) -/
namespace Sys2Proof.Machine

/-- Between `s` and `t` work was done on the fences of domains other than `d`. -/
structure Apart (d : Nat) (s t : State) : Prop where
  rd_eq : ∀ r, r ∉ fenceRegs → rd t r = rd s r
  dom_eq : dom t d = dom s d
  fenced_eq : fenced t d = fenced s d
  req_eq : bit (rd t R.RST_DOM_REQ).toNat d = bit (rd s R.RST_DOM_REQ).toNat d
  ho_eq : t.ho = s.ho

namespace Apart
variable {d e : Nat} {s t u : State}

theorem refl (d : Nat) (s : State) : Apart d s s := ⟨fun _ _ => rfl, rfl, rfl, rfl, rfl⟩

theorem trans (h : Apart d s t) (k : Apart d t u) : Apart d s u :=
  ⟨fun r hr => (k.rd_eq r hr).trans (h.rd_eq r hr), k.dom_eq.trans h.dom_eq, k.fenced_eq.trans h.fenced_eq, k.req_eq.trans h.req_eq,
    k.ho_eq.trans h.ho_eq⟩

/-- Work on the fence of another domain that leaves the requests as they are. -/
theorem fence (k : FenceStep e s t) (hd : d ≠ e) (hreq : rd t R.RST_DOM_REQ = rd s R.RST_DOM_REQ) (hho : t.ho = s.ho) : Apart d s t :=
  ⟨k.rd_eq, k.dom_eq d hd, k.fenced_eq d hd, by rw [hreq], hho⟩

theorem ite {c : Prop} [Decidable c] (h : Apart d s t) (k : Apart d s u) : Apart d s (if c then t else u) := by split <;> assumption

/-- What is done to each of a list of other domains leaves `d` alone. -/
theorem foldl {f : State → Nat → State} (l : List Nat) (hf : ∀ t e, e ∈ l → d ≠ e → Apart d t (f t e)) (hd : d ∉ l) (s : State) :
    Apart d s (l.foldl f s) := by
  induction l generalizing s with
  | nil => exact .refl d s
  | cons e l ih =>
    exact (hf s e List.mem_cons_self (List.ne_of_not_mem_cons hd)).trans
      (ih (fun t k hk => hf t k (List.mem_cons_of_mem e hk)) (List.not_mem_of_not_mem_cons hd) _)

/-- What is done to each of a list of domains in turn is done once to domain `d` of the list. -/
theorem foldl_mem {f : State → Nat → State} (l : List Nat) (hf : ∀ t e, e ∈ l → d ≠ e → Apart d t (f t e)) (hl : l.Nodup) (hd : d ∈ l)
    (s : State) : ∃ u, Apart d s u ∧ Apart d (f u d) (l.foldl f s) := by
  induction l generalizing s with
  | nil => exact absurd hd List.not_mem_nil
  | cons e l ih =>
    obtain ⟨he, hl⟩ := List.nodup_cons.1 hl
    have hrest : ∀ t k, k ∈ l → d ≠ k → Apart d t (f t k) := fun t k hk => hf t k (List.mem_cons_of_mem e hk)
    rcases List.mem_cons.1 hd with rfl | hd
    · exact ⟨s, .refl d s, foldl l hrest he _⟩
    · obtain ⟨u, hbefore, hafter⟩ := ih hrest hl hd (f s e)
      exact ⟨u, (hf s e List.mem_cons_self fun h => he (h ▸ hd)).trans hbefore, hafter⟩

theorem hoKeeps_eq (h : Apart d s t) : hoKeeps t d = hoKeeps s d := by unfold hoKeeps; rw [h.ho_eq]

theorem rstDrain_eq (h : Apart d s t) : rstDrain t = rstDrain s := by
  unfold rstDrain
  rw [getf_congr (f := F.RST_DRAIN_US) (h.rd_eq _ (by decide))]

end Apart

/-! #### A request -/

section
variable {s : State} {d : Nat}

theorem rd_closeFence_req (s : State) (d h drain : Nat) : rd (closeFence s d h drain) R.RST_DOM_REQ = rd s R.RST_DOM_REQ := by
  cases hf : fenced s d
  · rw [closeFence_open hf]
    unfold fenceClosed
    dsimp only
    rw [rd_logEvent (by decide)]
    split
    · rw [rd_setf_ne (by decide), rd_setDomBit_ne (by decide), setDom_rd]
    · rw [rd_setDomBit_ne (by decide), setDom_rd]
  · rw [closeFence_joined hf]
    split <;> rfl

theorem rd_requestReset_req (s : State) (d src drain : Nat) (again : Bool) :
    rd (requestReset s d src drain again) R.RST_DOM_REQ = rd s R.RST_DOM_REQ := rd_closeFence_req s d src drain

theorem requestReset_ho (s : State) (d src drain : Nat) (again : Bool) : (requestReset s d src drain again).ho = s.ho :=
  (requestReset_made (Nat.or_self _) s d src drain again (.refl ..)).ho rfl

/-- The domain is asked for its reset, and shows it in RST_DOM_REQ. -/
theorem askReset_eq (hpow : (dom s d).powered = true) (hho : hoKeeps s d = false) (src : Nat) : askReset s d src =
    requestReset (setDomBit s R.RST_DOM_REQ d true) d src (rstDrain s) (bit (rd s R.RST_DOM_RDYTO).toNat d) := by
  have hkeeps : hoKeeps (setDomBit s R.RST_DOM_REQ d true) d = false := hho
  have hdrain : rstDrain (setDomBit s R.RST_DOM_REQ d true) = rstDrain s := by
    unfold rstDrain
    rw [getf_congr (f := F.RST_DRAIN_US) (rd_setDomBit_ne (by decide) s d true)]
  unfold askReset
  rw [hpow, if_neg (by decide)]
  dsimp only
  rw [hkeeps, if_neg (by decide), hdrain, rd_setDomBit_ne (by decide)]

theorem askReset_apart {e : Nat} (he : e < 32) (hd : d ≠ e) (s : State) (src : Nat) : Apart d s (askReset s e src) := by
  have hshown : Apart d s (setDomBit s R.RST_DOM_REQ e true) := by
    have hstep := FenceStep.setDomBit s (d := e) (a := R.RST_DOM_REQ) (by decide) he true
    exact ⟨hstep.rd_eq, hstep.dom_eq d hd, hstep.fenced_eq d hd, by rw [bit_setDomBit s _ he, if_neg (by simp [hd])], rfl⟩
  unfold askReset
  exact .ite (.refl d s) (hshown.trans (.ite (.fence (.setDom _ id) hd rfl rfl)
    (.fence (requestReset_step _ src _ _ he) hd (rd_requestReset_req ..) (requestReset_ho ..))))

/-- The fence closes under the source of the request, drains, and is for a reset. -/
theorem askReset_closes (hd : d < 32) (hpow : (dom s d).powered = true) (hho : hoKeeps s d = false) (hopen : fenced s d = false) (src : Nat) :
    let t := askReset s d src
    resetFenced t d src ∧ (dom t d).holders = [src] ∧ (dom t d).fence = .drain ∧ (dom t d).drainUs = rstDrain s
      ∧ bit (rd t R.RST_DOM_REQ).toNat d = true := by
  have hopen' : fenced (setDomBit s R.RST_DOM_REQ d true) d = false := by rw [fenced_setDomBit s _ hd, if_neg (by simp)]; exact hopen
  rw [askReset_eq hpow hho]
  refine ⟨requestReset_resetFenced _ src _ _ hd, ?_, ?_, requestReset_drainUs _ src _ _ hopen', ?_⟩
  · rw [dom_requestReset, closeFence_open hopen', dom_fenceClosed]
    rfl
  · rw [dom_requestReset, closeFence_open hopen', dom_fenceClosed]
    exact if_neg (by simp [domClosed])
  · rw [rd_requestReset_req, bit_setDomBit s _ hd, if_pos ⟨rfl, rfl⟩]

/-- RST_DOM_REQ for one domain: D1 is excluded. -/
def reqStep (m : Master) (mask : BitVec 24) (t : State) (e : Nat) : State := if mask.getLsbD e && e ≠ 1 then askReset t e (srcOf m) else t

theorem rstDomReq_does (m : Master) (mask : BitVec 24) : Does (.rstDomReq m mask) s (fun t => ∀ d : Fin 24,
    (mask.getLsbD d = true → d.val ≠ 1 → (dom s d).powered = true → hoKeeps s d = false → fenced s d = false →
      resetFenced t d (srcOf m) ∧ (dom t d).holders = [srcOf m] ∧ (dom t d).fence = .drain ∧ (dom t d).drainUs = rstDrain s
      ∧ bit (rd t R.RST_DOM_REQ).toNat d = true)
    ∧ (mask.getLsbD d = false ∨ d.val = 1 → dom t d = dom s d ∧ fenced t d = fenced s d)) := by
  refine ⟨(List.range 24).foldl (reqStep m mask) s, rfl, fun d => ?_⟩
  have hstep : ∀ t e, e ∈ List.range 24 → d.val ≠ e → Apart d t (reqStep m mask t e) := fun t e he hd =>
    .ite (askReset_apart (by have := List.mem_range.1 he; omega) hd t _) (.refl _ t)
  obtain ⟨u, hbefore, hafter⟩ := Apart.foldl_mem (List.range 24) hstep List.nodup_range (List.mem_range.2 d.isLt) s
  refine ⟨fun hmask h1 hpow hho hopen => ?_, fun hnot => ?_⟩
  · have hasked : reqStep m mask u d = askReset u d (srcOf m) := if_pos (by simp [hmask, h1])
    rw [hasked] at hafter
    obtain ⟨⟨hfenced, hreset⟩, hholders, hfence, hdrain, hreq⟩ := askReset_closes (s := u) (d := d) (by omega)
      (by rw [hbefore.dom_eq]; exact hpow) (hbefore.hoKeeps_eq.trans hho) (hbefore.fenced_eq.trans hopen) (srcOf m)
    rw [hafter.dom_eq, hafter.req_eq]
    exact ⟨⟨hafter.fenced_eq.trans hfenced, by rw [hafter.dom_eq]; exact hreset⟩, hholders, hfence, hdrain.trans hbefore.rstDrain_eq, hreq⟩
  · have hskipped : reqStep m mask u d = u := if_neg (by rcases hnot with h | h <;> rw [h] <;> simp)
    rw [hskipped] at hafter
    have hall := hbefore.trans hafter
    exact ⟨hall.dom_eq, hall.fenced_eq⟩

/-! #### A hold -/

theorem askHold_apart {e : Nat} (he : e < 32) (hd : d ≠ e) (s : State) (src : Nat) : Apart d s (askHold s e src) := by
  have hclosed : Apart d s (closeFence s e src (rstDrain s)) := .fence (closeFence_step s he src _) hd (rd_closeFence_req ..)
    ((closeFence_made (Nat.or_self _) s e src _ (.refl ..)).ho rfl)
  unfold askHold holdFence
  exact .ite (.refl d s) (.ite (.fence (.setDom s id) hd rfl rfl) (.ite (.refl d s) (hclosed.trans (.fence (.setDom _ id) hd rfl rfl))))

/-- The fence closes without a holder and without a reset. -/
theorem askHold_closes (hd : d < 32) (hpow : (dom s d).powered = true) (hho : hoKeeps s d = false) (hopen : fenced s d = false) (src : Nat) :
    let t := askHold s d src
    fenced t d = true ∧ (dom t d).holders = [] ∧ (dom t d).fence = .drain ∧ (dom t d).resetBy = (dom s d).resetBy := by
  have hask : askHold s d src = setDom (fenceClosed s d src (rstDrain s)) d { dom (fenceClosed s d src (rstDrain s)) d with holders := [] } := by
    unfold askHold holdFence
    rw [hpow, if_neg (by decide), hho, if_neg (by decide), hopen, if_neg (by decide), closeFence_open hopen]
  rw [hask]
  dsimp only
  rw [dom_setDom, dom_fenceClosed]
  exact ⟨fenceClosed_fenced s hd src _, rfl, rfl, rfl⟩

/-- RST_DOM_HOLD for one domain, from the old mask to the new one. -/
def holdStep (m : Master) (old new : Nat) (t : State) (e : Nat) : State :=
  if bit new e && !bit old e then askHold t e (srcOf m)
  else if !bit new e && bit old e then inService (tryReopen (setDom t e { dom t e with pendHold := none }) e) e
  else t

theorem exec_rstDomHold (s : State) (m : Master) (mask : BitVec 24) : exec (.rstDomHold m mask) s = .next
    ((List.range 24).foldl (holdStep m (rd s R.RST_DOM_HOLD).toNat (clearBit mask.toNat 1)) (wr s R.RST_DOM_HOLD (w32 (clearBit mask.toNat 1)))) := rfl

/-- Where the old mask does not hold a domain, the write only adds a hold. -/
theorem holdStep_apart {m : Master} {old new e : Nat} (he : e < 32) (hold : bit old e = false) (hd : d ≠ e) (t : State) :
    Apart d t (holdStep m old new t e) := by
  unfold holdStep
  rw [hold]
  exact .ite (askHold_apart he hd t _) (by rw [if_neg (by simp)]; exact .refl d t)

theorem rstDomHold_holds (m : Master) (mask : BitVec 24) (hold : rd s R.RST_DOM_HOLD = 0#32) : Does (.rstDomHold m mask) s (fun t =>
    rd t R.RST_DOM_HOLD = w32 (clearBit mask.toNat 1)
    ∧ ∀ d : Fin 24, mask.getLsbD d = true → d.val ≠ 1 → (dom s d).powered = true → hoKeeps s d = false → fenced s d = false →
      fenced t d = true ∧ (dom t d).holders = [] ∧ (dom t d).fence = .drain ∧ (dom t d).resetBy = (dom s d).resetBy) := by
  have hnone (e : Nat) : bit (0#32).toNat e = false := Nat.zero_testBit e
  have hstep (d : Nat) : ∀ t e, e ∈ List.range 24 → d ≠ e → Apart d t (holdStep m (0#32).toNat (clearBit mask.toNat 1) t e) :=
    fun t e he hd => holdStep_apart (by have := List.mem_range.1 he; omega) (hnone e) hd t
  refine ⟨_, exec_rstDomHold s m mask, ?_, fun d hmask h1 hpow hho hopen => ?_⟩
  · rw [hold, (Apart.foldl (d := 24) (List.range 24) (hstep 24) (by decide) _).rd_eq _ (by decide), rd_wr_same]
  · rw [hold]
    obtain ⟨u, hbefore, hafter⟩ := Apart.foldl_mem (List.range 24) (hstep d) List.nodup_range (List.mem_range.2 d.isLt)
      (wr s R.RST_DOM_HOLD (w32 (clearBit mask.toNat 1)))
    have hnew : bit (clearBit mask.toNat 1) d = true := by
      have hbit : bit mask.toNat d = true := (BitVec.testBit_toNat mask).trans hmask
      rw [bit_clearBit, hbit]
      simpa using h1
    have hasked : holdStep m (0#32).toNat (clearBit mask.toNat 1) u d = askHold u d (srcOf m) := if_pos (by rw [hnew, hnone]; rfl)
    have hopen' : fenced (wr s R.RST_DOM_HOLD (w32 (clearBit mask.toNat 1))) d = false :=
      (fenced_congr (rd_wr_ne (by decide) _ _) d).trans hopen
    rw [hasked] at hafter
    obtain ⟨hfenced, hholders, hfence, hreset⟩ := askHold_closes (s := u) (d := d) (by omega)
      (by rw [hbefore.dom_eq]; exact hpow) (hbefore.hoKeeps_eq.trans hho) (hbefore.fenced_eq.trans hopen') (srcOf m)
    rw [hafter.dom_eq]
    exact ⟨hafter.fenced_eq.trans hfenced, hholders, hfence, hreset.trans (by rw [hbefore.dom_eq]; rfl)⟩

/-! #### The end of a hold -/

/-- With no holder left the fence of a domain that is ready, or was left in service, reopens. -/
theorem tryReopen_opens (hd : d < 32) (hholders : (dom s d).holders = []) (hhold : softHold s d = false)
    (hfence : (dom s d).fence = .ready ∨ (dom s d).fence = .aborted ∧ (dom s d).resetBy = none) : fenced (tryReopen s d) d = false := by
  cases hf : fenced s d
  · rw [show tryReopen s d = s from if_neg (by simp [hf])]
    exact hf
  · have hopens : tryReopen s d = reopen s d := if_pos (by rcases hfence with h | ⟨h, hr⟩ <;> simp [*])
    rw [hopens]
    exact reopen_fenced s hd

/-- A holder keeps the fence closed. -/
theorem tryReopen_kept (h : (dom s d).holders ≠ []) : tryReopen s d = s := if_neg (by simp [h])

/-- What a domain does once it is in service leaves the domains and the registers of the resets as they are. -/
theorem inService_keeps (s : State) (d : Nat) : (inService s d).doms = s.doms ∧ ∀ r, blockOf r = 2 → rd (inService s d) r = rd s r := by
  have hmade := inService_made (Nat.or_self _) s d (.refl ..)
  exact ⟨hmade.doms rfl, fun r hr => hmade.blk r (by rw [hr]; rfl)⟩

theorem rstDomHold_releases (m : Master) (d : Fin 24) (hhold : rd s R.RST_DOM_HOLD = w32 (2 ^ d.val)) (hholders : (dom s d).holders = [])
    (hfence : (dom s d).fence = .ready ∨ (dom s d).fence = .aborted ∧ (dom s d).resetBy = none) :
    Does (.rstDomHold m 0#24) s (fun t => fenced t d = false ∧ rd t R.RST_DOM_HOLD = 0#32) := by
  have hold (e : Nat) : bit (w32 (2 ^ d.val)).toNat e = decide (d.val = e) := by rw [bit_toNat, w32_two_pow_getLsbD (by omega)]
  have hstep : ∀ t e, e ∈ List.range 24 → d.val ≠ e → Apart d t (holdStep m (w32 (2 ^ d.val)).toNat 0 t e) := fun t e he hd =>
    holdStep_apart (by have := List.mem_range.1 he; omega) (by rw [hold]; exact decide_eq_false hd) hd t
  obtain ⟨u, hbefore, hafter⟩ := Apart.foldl_mem (List.range 24) hstep List.nodup_range (List.mem_range.2 d.isLt) (wr s R.RST_DOM_HOLD 0#32)
  let v := setDom u d { dom u d with pendHold := none }
  have hdone : holdStep m (w32 (2 ^ d.val)).toNat 0 u d = inService (tryReopen v d) d := by
    unfold holdStep
    rw [hold, decide_eq_true rfl, if_neg (by simp), if_pos (by simp [bit])]
  rw [hdone] at hafter
  obtain ⟨-, hrst⟩ := inService_keeps (tryReopen v d) d
  have hclear : rd v R.RST_DOM_HOLD = 0#32 := (hbefore.rd_eq _ (by decide)).trans (rd_wr_same ..)
  have hdom : dom v d = { dom s d with pendHold := none } := by rw [dom_setDom, hbefore.dom_eq]; rfl
  have hexec : exec (.rstDomHold m 0#24) s = .next
      ((List.range 24).foldl (holdStep m (w32 (2 ^ d.val)).toNat 0) (wr s R.RST_DOM_HOLD 0#32)) := by
    rw [exec_rstDomHold, hhold]
    rfl
  refine ⟨_, hexec, hafter.fenced_eq.trans ((fenced_congr (hrst _ (by decide)) _).trans (tryReopen_opens (by omega) ?_ ?_ ?_)), ?_⟩
  · rw [hdom]; exact hholders
  · unfold softHold
    rw [hclear]
    exact Nat.zero_testBit _
  · rw [hdom]; exact hfence
  · rw [hafter.rd_eq _ (by decide), hrst _ (by decide), (tryReopen_step v (by omega)).rd_eq _ (by decide), hclear]

end

end Sys2Proof.Machine

/-! ### The drain window, the aborts, the release and readiness (R107, R108, R113, R114, R120) -/
namespace Sys2Proof.Machine

section
variable {s : State} {d : Nat}

/-! #### DRAIN_END -/

theorem drainEnd_does (d : Fin 24) (hfence : (dom s d).fence = .drain) (hnv : ¬(d.val = 9 ∧ nvProgramming s = true)) :
    Does (.drainEnd d) s (fun t => dom t d = { dom s d with fence := .drained } ∧ t = { s with doms := t.doms }) :=
  ⟨setDom s d { dom s d with fence := .drained }, if_neg (by simp [hfence, hnv]), dom_setDom .., rfl⟩

/-! #### ABORTS_POSTED -/

theorem complete_ops (s : State) (o : Op) (r : Ret) : (complete s o r).ops = s.ops.filter (fun p => p.tag != o.tag) := by
  unfold complete
  dsimp only
  split
  · exact ((remoteDone_made (Nat.or_self _) _ _ _ _ _ _ _ _ (.refl ..)).ops rfl).trans ((freeToken_made (Nat.or_self _) _ (.refl ..)).ops rfl)
  · exact ((outcome_made (Nat.or_self _) _ _ _ _ _ _ _ _ (.refl ..)).ops rfl).trans ((creditToken_made (Nat.or_self _) _ _ _ (.refl ..)).ops rfl)

/-- The operations that are aborted are in flight no longer, and no other comes into flight. -/
theorem abortOps_ops (l : List Op) (s : State) {q : Op} (hq : q ∈ (abortOps s l).ops) : q ∈ s.ops ∧ ∀ o ∈ l, q.tag ≠ o.tag := by
  induction l generalizing s with
  | nil => exact ⟨hq, by simp⟩
  | cons o l ih =>
    obtain ⟨hin, hrest⟩ := ih _ hq
    rw [complete_ops, List.mem_filter] at hin
    obtain ⟨hin, htag⟩ := hin
    exact ⟨hin, List.forall_mem_cons.2 ⟨by simpa using htag, hrest⟩⟩

/-- The operations that end with the aborts of a domain that is no bank's: those inside, and those of the accesses inside. -/
def abortsOf (s : State) (d : Nat) (accs : List Nat) : List Op :=
  inside s d ++ s.ops.filter (fun o => accs.contains o.tag && o.ret == none && !((inside s d).any (fun p => p.tag == o.tag)))

/-- The operations have ended, and the domain's blocks have dropped what they held. -/
def insideEnded (s : State) (d : Nat) (accs : List Nat) : State := blockAbort (abortOps s (abortsOf s d accs)) d

/-- The aborts are counted and logged. -/
def abortsCounted (s : State) (d : Nat) (accs : List Nat) : State :=
  logEvent (satAdd (insideEnded s d accs) (F.RST_DOM_STAT_ABORTS d) ((inside s d).length + accs.length)) d 1 (dom s d).src
    (inside s d).length accs.length

theorem postAborts_eq (hbank : ¬(12 ≤ d ∧ d < 20)) (accs : List Nat) : postAborts s d accs
    = setDom (abortsCounted s d accs) d { dom (abortsCounted s d accs) d with fence := .aborted } := by
  have hown : ownMarch s d = false := by unfold ownMarch; simp [hbank]
  have hlist : abortList s d = inside s d := by unfold abortList; rw [if_neg hbank, List.append_nil]
  unfold postAborts
  rw [hown, hlist]
  simp only [hbank]
  rfl

/-- The domain's blocks neither end its fence nor give up its reset. -/
theorem blockAbort_keeps (s : State) (d e : Nat) : fenced (blockAbort s d) e = fenced s e ∧ (blockAbort s d).ops = s.ops
    ∧ rd (blockAbort s d) (R.RST_DOM_STAT e) = rd s (R.RST_DOM_STAT e) ∧ (blockAbort s d).ho = s.ho ∧ (blockAbort s d).pwr = s.pwr := by
  have hmade := blockAbort_made (Nat.or_self _) s d (.refl ..)
  exact ⟨fenced_congr (hmade.blk _ rfl) e, hmade.ops rfl, hmade.blk _ (by rw [R.RST_DOM_STAT_blk]; rfl), hmade.ho rfl, hmade.pwr rfl⟩

theorem bstAbort_resetBy (s : State) {e : Nat} (h : (dom s e).resetBy ≠ none) : (dom (bstAbort s) e).resetBy ≠ none := by
  unfold bstAbort
  rw [dom_congr (setf_doms ..)]
  show (dom (if _ then _ else _) e).resetBy ≠ none
  split
  · by_cases he : e = s.bst.dom
    · rw [← he, dom_setDom]; exact nofun
    · rw [dom_setDom_ne he]; exact h
  · exact h

theorem blockAbort_resetBy (s : State) (d : Nat) {e : Nat} (h : (dom s e).resetBy ≠ none) : (dom (blockAbort s d) e).resetBy ≠ none := by
  have hsame {t : State} (ht : t.doms = s.doms) : (dom t e).resetBy ≠ none := by rw [dom_congr ht]; exact h
  unfold blockAbort
  split_ifs
  · exact hsame ((harAbort_made (Nat.or_self _) s (.refl ..)).doms rfl)
  · exact hsame ((vbuAbort_made (Nat.or_self _) s (.refl ..)).doms rfl)
  · exact hsame ((ospAbort_made (Nat.or_self _) s (.refl ..)).doms rfl)
  · exact hsame ((nvAbandon_made (Nat.or_self _) s (.refl ..)).doms rfl)
  · exact hsame ((cfgAbort_made (Nat.or_self _) s (.refl ..)).doms rfl)
  · exact hsame ((tagAbort_made (Nat.or_self _) s (.refl ..)).doms rfl)
  · exact bstAbort_resetBy s h
  · exact hsame ((winAbort_made (Nat.or_self _) s (.refl ..)).doms rfl)
  · exact h

/-- What ends inside a domain for its reset. -/
theorem insideEnded_keeps (s : State) (d : Nat) (accs : List Nat) : fenced (insideEnded s d accs) d = fenced s d
    ∧ rd (insideEnded s d accs) (R.RST_DOM_STAT d) = rd s (R.RST_DOM_STAT d) ∧ (insideEnded s d accs).ho = s.ho
    ∧ (insideEnded s d accs).pwr = s.pwr ∧ ((dom s d).resetBy ≠ none → (dom (insideEnded s d accs) d).resetBy ≠ none) := by
  have hmade := abortOps_made (Nat.or_self _) s (abortsOf s d accs) (.refl ..)
  obtain ⟨hfenced, -, hstat, hho, hpwr⟩ := blockAbort_keeps (abortOps s (abortsOf s d accs)) d d
  refine ⟨hfenced.trans (fenced_congr (hmade.blk _ rfl) d), hstat.trans (hmade.blk _ (by rw [R.RST_DOM_STAT_blk]; rfl)),
    hho.trans (hmade.ho rfl), hpwr.trans (hmade.pwr rfl), fun h => blockAbort_resetBy _ d ?_⟩
  rw [dom_congr (hmade.doms rfl)]
  exact h

theorem insideEnded_ops (s : State) (d : Nat) (accs : List Nat) {o q : Op} (ho : o ∈ s.ops) (hdom : o.dom = some d) (hret : o.ret = none)
    (hq : q ∈ (insideEnded s d accs).ops) : q.tag ≠ o.tag := by
  obtain ⟨-, hops, -⟩ := blockAbort_keeps (abortOps s (abortsOf s d accs)) d d
  rw [insideEnded, hops] at hq
  exact (abortOps_ops _ s hq).2 o (List.mem_append_left _ (List.mem_filter.2 ⟨ho, by simp [hdom, hret]⟩))

/-- The aborts of a domain that is no bank's, for a reset. -/
theorem postAborts_does (hbank : ¬(12 ≤ d ∧ d < 20)) (accs : List Nat) (hfenced : fenced s d = true) (hreset : (dom s d).resetBy ≠ none) :
    let t := postAborts s d accs
    (dom t d).fence = .aborted ∧ (dom t d).resetBy ≠ none ∧ fenced t d = true ∧ t.ho = s.ho ∧ t.pwr = s.pwr
      ∧ t.ops = (insideEnded s d accs).ops
      ∧ getf t (F.RST_DOM_STAT_ABORTS d) = min 4095 (getf s (F.RST_DOM_STAT_ABORTS d) + ((inside s d).length + accs.length)) := by
  obtain ⟨hfence, hstat, hho, hpwr, hkept⟩ := insideEnded_keeps s d accs
  have hne : R.RST_DOM_FENCED ≠ R.RST_DOM_STAT d := (domStat_ne (by decide)).symm
  rw [postAborts_eq hbank]
  dsimp only
  rw [dom_setDom]
  refine ⟨rfl, hkept hreset, ?_, hho, hpwr, rfl, ?_⟩
  · rw [fenced_congr (setDom_rd ..), abortsCounted, fenced_logEvent, satAdd, fenced_congr (rd_setf_ne hne _ _), hfence, hfenced]
  · have hlogged (u : State) : rd (logEvent u d 1 (dom s d).src (inside s d).length accs.length) (R.RST_DOM_STAT d) = rd u (R.RST_DOM_STAT d) :=
      rd_logEvent (domStat_ne (by decide)) ..
    rw [getf_congr (f := F.RST_DOM_STAT_ABORTS d) (setDom_rd ..), abortsCounted, getf_congr (f := F.RST_DOM_STAT_ABORTS d) (hlogged _),
      ← getf_congr (f := F.RST_DOM_STAT_ABORTS d) hstat]
    exact getf_satAdd _ _ _ (show 8 + 12 ≤ 32 by decide)

/-- The self-test goes on once the aborts of its target are posted: that changes BST_STAT alone. -/
theorem bstAborted_keeps (s : State) (d : Nat) : (bstAborted s d).doms = s.doms ∧ (bstAborted s d).ops = s.ops ∧ (bstAborted s d).ho = s.ho
    ∧ (bstAborted s d).pwr = s.pwr ∧ ∀ r, blockOf r = 2 → rd (bstAborted s d) r = rd s r := by
  unfold bstAborted
  split
  · exact ⟨rfl, rfl, rfl, rfl, fun r hr => rd_setf_ne (by rintro rfl; exact absurd hr (by decide)) _ _⟩
  · exact ⟨rfl, rfl, rfl, rfl, fun _ _ => rfl⟩

theorem exec_abortsPosted {d : Fin 24} (accs : List Nat) (hdrained : (dom s d).fence = .drained) (hfenced : fenced s d = true)
    (hreset : (dom s d).resetBy ≠ none) (hho : s.ho = none) (hwarm : s.pwr.warm = 0) (hbank : ¬(12 ≤ d.val ∧ d.val < 20)) :
    exec (.abortsPosted d accs) s = .next (bstAborted (postAborts s d accs) d) := by
  obtain ⟨hfence, hreset', hfenced', hho', hpwr', -, -⟩ := postAborts_does (s := s) hbank accs hfenced hreset
  obtain ⟨hdoms, -, hho'', hpwr'', hrst⟩ := bstAborted_keeps (postAborts s d accs) d
  let t := bstAborted (postAborts s d accs) d
  have hact : bankAct (postAborts s d accs) d = postAborts s d accs := if_neg hbank
  have hwait : hoAborted t = t := by unfold hoAborted; rw [hho'', hho', hho]
  have hheld : tryReopen t d = t := tryReopen_held t (by rw [dom_congr hdoms]; exact hreset') (by rw [dom_congr hdoms, hfence]; decide)
  have hclosed : fenced t d = true := (fenced_congr (hrst _ (by decide)) _).trans hfenced'
  have hcheck : warmCheck t = t := if_neg (by rw [hpwr'', hpwr', hwarm]; simp)
  refine (if_neg (by simp [hdrained])).trans ?_
  rw [hact, hwait, hheld, if_pos hclosed, hcheck]

theorem abortsPosted_does (d : Fin 24) (accs : List Nat) (hdrained : (dom s d).fence = .drained) (hfenced : fenced s d = true)
    (hreset : (dom s d).resetBy ≠ none) (hwait : noWaiter s) (hwarm : s.pwr.warm = 0) (hbank : ¬(12 ≤ d.val ∧ d.val < 20)) :
    Does (.abortsPosted d accs) s (fun t => (dom t d).fence = .aborted ∧ fenced t d = true
      ∧ (∀ o ∈ s.ops, o.dom = some d.val → o.ret = none → ∀ q ∈ t.ops, q.tag ≠ o.tag)
      ∧ getf t (F.RST_DOM_STAT_ABORTS d) = min 4095 (getf s (F.RST_DOM_STAT_ABORTS d) + ((inside s d).length + accs.length))) := by
  obtain ⟨hfence, -, hfenced', -, -, hops, hcount⟩ := postAborts_does (s := s) hbank accs hfenced hreset
  obtain ⟨hdoms, hops', -, -, hrst⟩ := bstAborted_keeps (postAborts s d accs) d
  refine ⟨_, exec_abortsPosted accs hdrained hfenced hreset hwait.1 hwarm hbank, ?_, (fenced_congr (hrst _ (by decide)) _).trans hfenced', ?_, ?_⟩
  · rw [dom_congr hdoms]; exact hfence
  · intro o ho hdom hret q hq
    rw [hops', hops] at hq
    exact insideEnded_ops s d accs ho hdom hret hq
  · exact (getf_congr (f := F.RST_DOM_STAT_ABORTS d) (hrst _ (R.RST_DOM_STAT_blk _))).trans hcount

/-! #### RESET_RELEASE -/

theorem resetRelease_does (d : Fin 24) (hfence : (dom s d).fence = .reset) (hwarm : s.pwr.warm = 0) (h11 : d.val ≠ 11)
    (hperst : d.val = 0 → isSet s F.HIF_STAT_PERST = true) : Does (.resetRelease d) s (fun t =>
      (dom t d).fence = (if fenced s d then .released else .open) ∧ (dom t d).powered = true ∧ inReset t d = true) := by
  have hexec : exec (.resetRelease d) s = .next (releaseHook (releaseDom s d) d) := by
    refine (if_neg ?_).trans (congrArg Host.Outcome.next (if_neg h11))
    rintro (h | ⟨h0, h⟩ | ⟨h, -⟩)
    · exact h hfence
    · exact absurd ((hperst h0).symm.trans h) (by decide)
    · exact h hwarm
  have hdom : dom (releaseHook (releaseDom s d) d) d
      = { dom s d with powered := true, fence := if fenced s d then .released else .open } := by
    rw [dom_congr (releaseHook_doms ..)]
    exact dom_setDom ..
  have hbit : bit (rd (releaseHook (releaseDom s d) d) R.RST_DOM_INRST).toNat d = true := by
    rw [(releaseHook_made (Nat.or_self _) _ d (.refl ..)).blk R.RST_DOM_INRST rfl, releaseDom, bit_setDomBit _ _ (by omega), if_pos ⟨rfl, rfl⟩]
  refine ⟨_, hexec, by rw [hdom], by rw [hdom], ?_⟩
  unfold inReset
  rw [hbit, Bool.true_or]

/-! #### DOMAIN_READY -/

/-- The domain is ready under its fence, with the holders that are no reset's. -/
def readyHeld (s : State) (d : Nat) : State :=
  let t := setDomBit s R.RST_DOM_INRST d false
  setDom t d { dom t d with powered := true, fence := .ready, resetBy := none, holders := (dom t d).holders.filter (fun h => !isResetSource h) }

theorem fenced_readied (s : State) {d : Nat} (hd : d < 32) (e : Nat) : fenced (setDomBit s R.RST_DOM_INRST d false) e = fenced s e := by
  rw [fenced_setDomBit s _ hd, if_neg (by simp)]

theorem domainReady_fenced (hd : d < 32) (h : fenced s d = true) : domainReady s d = tryReopen (readyHeld s d) d :=
  if_pos ((fenced_readied s hd d).trans h)

theorem readyHeld_fenced (s : State) (hd : d < 32) : fenced (readyHeld s d) d = fenced s d := fenced_readied s hd d

theorem dom_readyHeld (s : State) (d : Nat) : dom (readyHeld s d) d = { dom s d with
    powered := true, fence := .ready, resetBy := none, holders := (dom s d).holders.filter (fun h => !isResetSource h) } := dom_setDom ..

/-- With no holder but resets the domain is in service again. -/
theorem domainReady_reopens (hd : d < 32) (hholders : ∀ h ∈ (dom s d).holders, isResetSource h = true) (hhold : softHold s d = false) :
    fenced (domainReady s d) d = false := by
  cases hf : fenced s d
  · have hopen : domainReady s d = setDom (setDomBit s R.RST_DOM_INRST d false) d
        { dom (setDomBit s R.RST_DOM_INRST d false) d with powered := true, fence := .open } :=
      if_neg (by rw [fenced_readied s hd, hf]; decide)
    rw [hopen]
    exact (fenced_readied s hd d).trans hf
  · rw [domainReady_fenced hd hf]
    refine tryReopen_opens hd ?_ ?_ (.inl ?_)
    · rw [dom_readyHeld]
      exact List.filter_eq_nil_iff.2 fun h hin => by simp [hholders h hin]
    · unfold softHold at hhold ⊢
      rw [readyHeld, setDom_rd, rd_setDomBit_ne (by decide)]
      exact hhold
    · rw [dom_readyHeld]

/-- A holder that is no reset keeps the domain fenced. -/
theorem domainReady_held (hd : d < 32) (h7 : 7 ∈ (dom s d).holders) (hf : fenced s d = true) :
    fenced (domainReady s d) d = true ∧ (dom (domainReady s d) d).fence = .ready := by
  have hin : 7 ∈ (dom (readyHeld s d) d).holders := by
    rw [dom_readyHeld]
    exact List.mem_filter.2 ⟨h7, by decide⟩
  rw [domainReady_fenced hd hf, tryReopen_kept (List.ne_nil_of_mem hin), dom_readyHeld]
  exact ⟨(readyHeld_fenced s hd).trans hf, rfl⟩

theorem exec_domainReady {d : Fin 24} (hpow : (dom s d).powered = true) (hin : inReset s d = true)
    (hfence : (dom s d).fence = .open ∨ (dom s d).fence = .released) (hperst : d.val = 0 → isSet s F.HIF_STAT_PERST = true)
    (himg : d.val = 11 → s.fab.image = []) : exec (.domainReady d) s = .next (inService (domainReady s d) d) := by
  refine if_neg ?_
  rintro (h | h | h | ⟨h0, h⟩ | ⟨h11, h, -⟩)
  · exact absurd (hpow.symm.trans h) (by decide)
  · exact absurd (hin.symm.trans h) (by decide)
  · exact h hfence
  · exact absurd ((hperst h0).symm.trans h) (by decide)
  · exact h (himg h11)

theorem domainReady_does (d : Fin 24) (hpow : (dom s d).powered = true) (hin : inReset s d = true)
    (hfence : (dom s d).fence = .open ∨ (dom s d).fence = .released) (hperst : d.val = 0 → isSet s F.HIF_STAT_PERST = true)
    (himg : d.val = 11 → s.fab.image = []) :
    ((∀ h ∈ (dom s d).holders, isResetSource h = true) → softHold s d = false → Does (.domainReady d) s (fun t =>
      inReset t d = false ∧ fenced t d = false))
    ∧ (7 ∈ (dom s d).holders → fenced s d = true → Does (.domainReady d) s (fun t =>
      inReset t d = false ∧ fenced t d = true ∧ (dom t d).fence = .ready)) := by
  have hexec := exec_domainReady hpow hin hfence hperst himg
  obtain ⟨hdoms, hrst⟩ := inService_keeps (domainReady s d) d
  have hready : inReset (inService (domainReady s d) d) d = false :=
    (inReset_congr (hrst _ (by decide)) hdoms _).trans (domainReady_inService s (by omega))
  have hsame : fenced (inService (domainReady s d) d) d = fenced (domainReady s d) d := fenced_congr (hrst _ (by decide)) _
  refine ⟨fun hholders hhold => ⟨_, hexec, hready, hsame.trans (domainReady_reopens (by omega) hholders hhold)⟩, fun h7 hf => ?_⟩
  obtain ⟨hkept, hfence'⟩ := domainReady_held (by omega) h7 hf
  exact ⟨_, hexec, hready, hsame.trans hkept, by rw [dom_congr hdoms]; exact hfence'⟩

/-! #### READY_TIMEOUT -/

/-- A domain that is not ready in time shows it and is logged. -/
def timedOut (s : State) (d : Nat) : State :=
  logEvent (setDomBit s R.RST_DOM_RDYTO d true) d 8 ((dom s d).resetBy.getD (dom s d).src) 0 0

theorem readyTimeout_does (d : Fin 24) (hpow : (dom s d).powered = true) (hin : inReset s d = true)
    (hfence : (dom s d).fence = .open ∨ (dom s d).fence = .released) : Does (.readyTimeout d) s (fun t =>
      bit (rd t R.RST_DOM_RDYTO).toNat d = true ∧ t.doms = s.doms ∧ fenced t d = fenced s d ∧ inReset t d = true) := by
  have hexec : exec (.readyTimeout d) s = .next (alarmUpdate (timedOut s d)) := by
    refine if_neg ?_
    rintro (h | h | h)
    · exact absurd (hpow.symm.trans h) (by decide)
    · exact absurd (hin.symm.trans h) (by decide)
    · exact h hfence
  have hrd {r : Nat} (hr : blockOf r = 2) (hhead : r ≠ R.RST_LOG_HEAD) :
      rd (alarmUpdate (timedOut s d)) r = rd (setDomBit s R.RST_DOM_RDYTO d true) r :=
    (alarmUpdate_rd (by rw [hr]; decide) _).trans (rd_logEvent hhead ..)
  have hdoms : (alarmUpdate (timedOut s d)).doms = s.doms := (alarmUpdate_made (Nat.or_self _) _ (.refl ..)).doms rfl
  refine ⟨_, hexec, ?_, hdoms, ?_, ?_⟩
  · rw [hrd (by decide) (by decide), bit_setDomBit _ _ (by omega), if_pos ⟨rfl, rfl⟩]
  · exact fenced_congr ((hrd (by decide) (by decide)).trans (rd_setDomBit_ne (by decide) _ _ _)) _
  · exact (inReset_congr ((hrd (by decide) (by decide)).trans (rd_setDomBit_ne (by decide) _ _ _)) hdoms _).trans hin

end

/-- Settles O32: one lemma for each command of the sequencer. A request or a hold leaves other domains `Apart`; the blocks of a domain
that is reset leave it in reset, `resetBlocks_stays`. -/
theorem domainFencesAndResets : Obligations.DomainFencesAndResets := by
  unfold Obligations.DomainFencesAndResets
  intro s
  exact ⟨rstDomReq_does, rstDomHold_holds, fun m d hhold _ hholders hfence _ => rstDomHold_releases m d hhold hholders hfence,
    drainEnd_does, abortsPosted_does, fun d mids => resetAssert_does mids d, resetRelease_does,
    fun d hpow hin hfence hperst himg _ => domainReady_does d hpow hin hfence hperst himg, readyTimeout_does⟩

end Sys2Proof.Machine

/-! ### The tags of the operations in flight; what the depot manager leaves alone (R183, R187) -/
namespace Sys2Proof.Machine

/-- The tags of the operations in flight, in order. -/
def tagsOf (s : State) : List Nat := s.ops.map (·.tag)

theorem tagsOf_congr {s t : State} (h : t.ops = s.ops) : tagsOf t = tagsOf s := congrArg (List.map Op.tag) h

/-- An operation is replaced by one of its tag. -/
theorem setOp_tags (s : State) (o : Op) : tagsOf (setOp s o) = tagsOf s := by
  unfold tagsOf setOp
  rw [List.map_map]
  refine List.map_congr_left fun p _ => ?_
  by_cases hp : p.tag = o.tag <;> simp [hp]

theorem giveRet_tags (s : State) (o : Op) (r : Ret) : tagsOf (giveRet s o r) = tagsOf s :=
  (setOp_tags _ _).trans (tagsOf_congr (countOp_ops s _))

/-- While its tag is in flight an operation is found. -/
theorem opOf_of_tags {s t : State} (h : tagsOf t = tagsOf s) {tag : Nat} {o : Op} (ho : opOf s tag = some o) :
    ∃ x, x.tag = tag ∧ opOf t tag = some x := by
  have htag : o.tag = tag := by simpa using List.find?_some (p := fun q : Op => q.tag == tag) ho
  have hin : tag ∈ tagsOf t := h ▸ htag ▸ List.mem_map_of_mem (List.mem_of_find?_eq_some ho)
  obtain ⟨y, hy, hytag⟩ := List.mem_map.1 hin
  obtain ⟨x, hx⟩ := Option.isSome_iff_exists.1 (List.find?_isSome (p := fun q : Op => q.tag == tag).2 ⟨y, hy, by simpa using hytag⟩)
  exact ⟨x, by simpa using List.find?_some hx, hx⟩

theorem retOf_giveRet {s : State} {o x : Op} (r : Ret) (h : opOf s o.tag = some x) : retOf (giveRet s o r) o.tag = some r := by
  unfold retOf
  rw [opOf_giveRet r h]
  rfl

section
variable (s : State) (fg : Bool) (j : Job)

theorem endJob_tags (r : Ret) (result : Nat) : tagsOf (endJob s fg j r result) = tagsOf s := by
  unfold endJob
  dsimp only
  split
  · refine (giveRet_tags _ _ _).trans ?_
    split <;> split <;> rfl
  · split <;> split <;> rfl

variable {s}

/-- The key slots that hold an old key of range `r` are emptied. -/
theorem oldKslots_tags (r : Nat) (ks : List Nat) {l : List Nat} (h : tagsOf s = l) : tagsOf (ks.foldl (fun u k =>
    if getf u (F.SCR_KSLOT_STATE k) = 3 ∧ getf u (F.SCR_KSLOT_RANGE k) = r then emptyKslot u k else u) s) = l := by
  induction ks generalizing s with
  | nil => exact h
  | cons k ks ih =>
    refine ih ?_
    dsimp only
    split
    · exact (tagsOf_congr ((emptyKslot_made (Nat.or_self _) s k (.refl ..)).ops rfl)).trans h
    · exact h

/-- A request that is served brings no operation into flight and takes none out of it: each act keeps the tags `l`. -/
theorem runJob_tags (fuel : Nat) {l : List Nat} (h : tagsOf s = l) : tagsOf (runJob s fg j fuel) = l := by
  have hset {u : State} (f : Fld) (v : Nat) (k : tagsOf u = l) : tagsOf (setf u f v) = l := k
  have made {M : Nat} {u t : State} (m : Made M u t) (hM : M.testBit 7 = false) (k : tagsOf u = l) : tagsOf t = l :=
    (tagsOf_congr (m.ops hM)).trans k
  have hbad {u : State} (n : Nat) : tagsOf u = l → tagsOf (markBad u n true) = l := made (markBad_made (Nat.or_self _) _ n true (.refl ..)) rfl
  have herase {u : State} (i : Job) (n : Nat) (d : List Byte) : tagsOf u = l → tagsOf (beginErase u fg i n d) = l :=
    made (beginErase_made (Nat.or_self _) _ fg i n d (.refl ..)) rfl
  have hput {u : State} (i : Job) : tagsOf u = l → tagsOf (putJob u fg i) = l := made (putJob_made (Nat.or_self _) _ fg i (.refl ..)) rfl
  have hlines {u : State} (r n : Nat) : tagsOf u = l → tagsOf (lineFailures u r n) = l :=
    made (lineFailures_made (Nat.or_self _) _ r n (.refl ..)) rfl
  have hslot {u : State} (n st r : Nat) : tagsOf u = l → tagsOf (setKslot u n st r) = l :=
    made (setKslot_made (Nat.or_self _) _ n st r (.refl ..)) rfl
  have hempty {u : State} (n : Nat) : tagsOf u = l → tagsOf (emptyKslot u n) = l :=
    made (emptyKslot_made (Nat.or_self _) _ n (.refl ..)) rfl
  have hepoch {u : State} (r e : Nat) : tagsOf u = l → tagsOf (setEpoch u r e) = l := made (setEpoch_made (Nat.or_self _) _ r e (.refl ..)) rfl
  have hend {u : State} (i : Job) (r : Ret) (v : Nat) (k : tagsOf u = l) : tagsOf (endJob u fg i r v) = l := (endJob_tags ..).trans k
  induction fuel generalizing s j with
  | zero => exact hput j h
  | succ fuel ih =>
    unfold runJob
    dsimp only
    split
    case h_1 => exact hend _ _ _ h
    case h_2 =>
      split
      · exact hend _ _ _ h
      · split
        · exact ih _ (hbad _ h)
        · exact herase _ _ _ h
    case h_3 =>
      split
      · exact ih _ h
      · split
        · exact ih _ (hbad _ h)
        · exact herase _ _ _ h
    case h_4 => exact ih _ h
    case h_5 =>
      split
      · exact ih _ h
      · exact ih _ (hlines _ _ h)
    case h_6 => exact ih _ (hlines _ _ h)
    case h_7 => exact ih _ (hset _ _ h)
    case h_8 => exact ih _ h
    case h_9 => exact herase _ _ _ h
    case h_10 => exact hput _ (herase _ _ _ h)
    case h_11 =>
      split
      · exact ih _ h
      · exact hend _ _ _ h
    case h_12 => exact herase _ _ _ h
    case h_13 => exact ih _ (hset _ _ h)
    case h_14 => exact ih _ (hset _ _ (hset _ _ (hepoch _ _ h)))
    case h_15 => exact ih _ (hset _ _ (hset _ _ (hset _ _ h)))
    case h_16 => exact ih _ (hset _ _ (hset _ _ h))
    case h_17 => exact ih _ (hslot _ _ _ h)
    case h_18 => exact ih _ (hset _ _ (hset _ _ (hset _ _ (hset _ _ (hslot _ _ _ (hslot _ _ _ h))))))
    case h_19 =>
      refine ih _ ?_
      split
      · exact hset _ _ (hempty _ (oldKslots_tags _ _ (hepoch _ _ h)))
      · exact hset _ _ (oldKslots_tags _ _ (hepoch _ _ h))

end

theorem serveJobs_tags (s : State) (fuel : Nat) : tagsOf (serveJobs s fuel) = tagsOf s := by
  induction fuel generalizing s with
  | zero => rfl
  | succ fuel ih =>
    unfold serveJobs
    split
    · rfl
    · split
      · exact (ih _).trans (runJob_tags _ _ _ rfl)
      · rfl

end Sys2Proof.Machine

/-! ### CFG_STAGE (R144, R155 to R158, Table 6-4) -/
namespace Sys2Proof.Machine

section
variable {s : State}

/-! #### The bytes of a plane -/

/-- A plane that is erased to its end reads 0xFF throughout (R144); the other plane stays as it was. -/
theorem planeByte_erased (s : State) (p : Nat) {f : Nat} (hf : f % 2 = 0) (x : Nat) :
    planeByte (planeClear s p f) x = if x / 0x800000 = p then 0xFF#8 else planeByte s x := by
  have hmem : sget x (planeClear s p f).planeMem = if x / 0x800000 = p then none else sget x s.planeMem := by
    refine (sget_filter (fun k => !(k / 0x800000 == p)) x s.planeMem).trans ?_
    by_cases hx : x / 0x800000 = p <;> simp [hx]
  unfold planeByte
  rw [hmem]
  by_cases hx : x / 0x800000 = p
  · have hfill : planeFillOf (planeClear s p f) (x / 0x800000) = f := by
      unfold planeFillOf planeClear
      rw [hx]
      simp only [sget_sput_same, Option.getD_some]
    rw [if_pos hx, if_pos hx, hfill]
    exact if_pos hf
  · have hfill : planeFillOf (planeClear s p f) (x / 0x800000) = planeFillOf s (x / 0x800000) := by
      unfold planeFillOf planeClear
      simp only [sget_sput_ne hx]
    rw [if_neg hx, if_neg hx, hfill]

theorem getD_inside {α : Type} {l : List α} {i : Nat} (h : i < l.length) (a b : α) : l.getD i a = l.getD i b := by
  rw [List.getD_eq_getElem _ _ h, List.getD_eq_getElem _ _ h]

/-! #### The turn of an operation -/

/-- An operation whose turn it is at the configuration service is in flight under its tag. -/
theorem cfgTurn_found {tag code : Nat} {o : Op} (h : cfgTurn s tag code = some o) : o.tag = tag ∧ ∃ x, opOf s tag = some x := by
  unfold cfgTurn at h
  split at h
  · cases h
  · split at h
    · next q hq =>
      split at h
      · next hturn =>
        cases h
        exact ⟨hturn.1, Option.isSome_iff_exists.1 (List.find?_isSome.2 ⟨_, List.mem_of_find?_eq_some hq, by simpa using hturn.1⟩)⟩
      · cases h
    · cases h

theorem stPlane_lt (o : Op) : stPlane o < 2 := Nat.mod_lt _ (by decide)

/-! #### The marks of the planes -/

theorem planeValid_congr {s t : State} (h : rd t R.CFG_STAT = rd s R.CFG_STAT) (q : Nat) : planeValid t q = planeValid s q := by
  unfold planeValid
  rw [getf_congr h]

theorem planeValid_setf {f : Fld} (v : Nat) (hf : f.reg ≠ R.CFG_STAT ∨ f.lo + f.width ≤ 4 ∨ 6 ≤ f.lo) (q : Nat) :
    planeValid (setf s f v) q = planeValid s q := by
  unfold planeValid
  rw [getf_setf_apart]
  rcases hf with h | h | h
  · exact .inl (Ne.symm h)
  · exact .inr (.inl h)
  · exact .inr (.inr h)

theorem planeReg_ne (i : Nat) {r : Nat} (h : r < 0x30020 ∨ 0x30024 < r) : r ≠ R.CFG_PLANE i := by
  simp only [R.CFG_PLANE]
  omega

/-- A mark is set or cleared for its plane alone (R141). -/
theorem planeValid_setValid (s : State) {p q : Nat} (hq : q < 2) (v : Bool) :
    planeValid (setValid s p v) q = if q = p then v else planeValid s q := by
  have hshown : planeValid (setValid s p v) q = bit (if v then setBit (getf s F.CFG_STAT_VALID) p else clearBit (getf s F.CFG_STAT_VALID) p) q := by
    unfold setValid
    dsimp only
    rw [planeValid_setf _ (.inl (planeReg_ne p (by decide)).symm), planeValid_setf _ (.inl (planeReg_ne p (by decide)).symm)]
    exact bit_getf_setf s F.CFG_STAT_VALID _ (by decide) hq
  rw [hshown]
  cases v
  · rw [if_neg (by decide), bit_clearBit]
    by_cases h : q = p <;> simp [h, planeValid]
  · rw [if_pos rfl, bit_setBit]
    by_cases h : q = p <;> simp [h, planeValid]

theorem rd_setValid (s : State) (p : Nat) (v : Bool) {r : Nat} (hstat : r ≠ R.CFG_STAT) (hplane : r ≠ R.CFG_PLANE p) :
    rd (setValid s p v) r = rd s r := by
  unfold setValid
  dsimp only
  rw [rd_setf_ne hplane, rd_setf_ne hplane, rd_setf_ne hstat]

/-! #### The end of a stage -/

/-- The configuration service is free again, and the depot read of the stage's source is gone. -/
def serviceFree (s : State) : State :=
  let s := setf (setf { s with stage := none } F.CFG_STAT_OP 0) F.CFG_STAT_OP_PLANE 0
  setDep s { s.dep with jobs := s.dep.jobs.filter (fun j => j.kind != 3) }

/-- The depot serves what waited behind the stage. -/
def stageFreed (s : State) : State := serveJobs (serviceFree s) ((serviceFree s).dep.jobs.length + 1)

theorem stageEnd_eq (s : State) (g : Stage) (status reason : Nat) : stageEnd s g status reason =
    match opOf (stageFreed s) g.tag with
    | some o => giveRet (stageFreed s) o (stageRet (stageFreed s) g.plane g.frames status reason)
    | none => stageFreed s := rfl

theorem serviceFree_stage (s : State) : (serviceFree s).stage = none := rfl

theorem serviceFree_op (s : State) : getf (serviceFree s) F.CFG_STAT_OP = 0 := by
  unfold serviceFree
  dsimp only
  rw [getf_congr (setDep_rd ..), getf_setf_apart (by decide), getf_setf_fits _ (by decide) (by decide)]

theorem serviceFree_valid (s : State) (q : Nat) : planeValid (serviceFree s) q = planeValid s q := by
  unfold serviceFree
  dsimp only
  rw [planeValid_congr (setDep_rd ..), planeValid_setf _ (.inr (.inr (by decide))), planeValid_setf _ (.inr (.inr (by decide)))]
  rfl

theorem stageFreed_keeps (s : State) : (stageFreed s).stage = none ∧ getf (stageFreed s) F.CFG_STAT_OP = 0
    ∧ tagsOf (stageFreed s) = tagsOf s ∧ ∀ q, planeValid (stageFreed s) q = planeValid s q := by
  have hmade := serveJobs_made (Nat.or_self _) (serviceFree s) ((serviceFree s).dep.jobs.length + 1) (.refl ..)
  have hstat : rd (stageFreed s) R.CFG_STAT = rd (serviceFree s) R.CFG_STAT := hmade.blk _ rfl
  exact ⟨(hmade.stage rfl).trans (serviceFree_stage s), (getf_congr hstat).trans (serviceFree_op s), serveJobs_tags _ _,
    fun q => (planeValid_congr hstat q).trans (serviceFree_valid s q)⟩

/-- A stage that ends: the service is free, and the operation returns the status. -/
theorem stageEnd_does {g : Stage} {o : Op} (ho : opOf s g.tag = some o) (status reason : Nat) : let t := stageEnd s g status reason
    t.stage = none ∧ getf t F.CFG_STAT_OP = 0 ∧ (retOf t g.tag).map (·.status) = some status ∧ ∀ q, planeValid t q = planeValid s q := by
  obtain ⟨hstage, hop, htags, hvalid⟩ := stageFreed_keeps s
  obtain ⟨x, hx, hfound⟩ := opOf_of_tags htags ho
  have hend : stageEnd s g status reason = giveRet (stageFreed s) x (stageRet (stageFreed s) g.plane g.frames status reason) := by
    rw [stageEnd_eq, hfound]
  have hmade := giveRet_made (Nat.or_self _) (stageFreed s) x (stageRet (stageFreed s) g.plane g.frames status reason) (.refl ..)
  dsimp only
  rw [hend]
  refine ⟨(hmade.stage rfl).trans hstage, (getf_congr (hmade.blk _ rfl)).trans hop, ?_, fun q => (planeValid_congr (hmade.blk _ rfl) q).trans (hvalid q)⟩
  rw [← hx, retOf_giveRet _ (hx ▸ hfound)]
  rfl

/-! #### CFG_STAGE: the checks, and the erase -/

theorem cfgStage_range {tag : Nat} {o : Op} (hdr : ReadEnd) (ho : cfgTurn s tag 0x70 = some o)
    (h : activePlane s (stPlane o) = true ∨ stageRangeOk o = false) : Does (.cfgStage tag hdr) s (fun t =>
      retOf t tag = some ⟨0x14, rd s (R.CFG_WEAR (stPlane o)), 0#32⟩ ∧ t.stage = s.stage ∧ t.planeMem = s.planeMem ∧ t.regs = s.regs) := by
  obtain ⟨rfl, x, hx⟩ := cfgTurn_found ho
  have hexec : exec (.cfgStage o.tag hdr) s = .next (giveRet s o (stageRet s (stPlane o) 0 0x14 0)) := by
    show execCfgStage o.tag hdr s = _
    unfold execCfgStage
    rw [ho]
    exact if_pos h
  have hmade := giveRet_made (Nat.or_self _) s o (stageRet s (stPlane o) 0 0x14 0) (.refl ..)
  exact ⟨_, hexec, retOf_giveRet _ hx, hmade.stage rfl, hmade.planeMem rfl, hmade.regs rfl⟩

/-- BOOT moves off the target plane, and no other field changes (R156 step 4). -/
theorem moveBoot_boot (s : State) (p : Nat) : ∃ v, moveBoot s p = setf s F.CFG_STAT_BOOT v ∨ moveBoot s p = s := by
  unfold moveBoot
  split_ifs
  exacts [⟨0, .inr rfl⟩, ⟨_, .inl rfl⟩, ⟨_, .inl rfl⟩, ⟨0, .inr rfl⟩]

theorem getf_moveBoot (s : State) (p : Nat) {g : Fld} (hg : g.reg ≠ R.CFG_STAT ∨ g.lo + g.width ≤ 2 ∨ 3 ≤ g.lo) :
    getf (moveBoot s p) g = getf s g := by
  obtain ⟨v, h | h⟩ := moveBoot_boot s p
  · rw [h]
    refine getf_setf_apart ?_
    rcases hg with hg | hg | hg
    · exact .inl hg
    · exact .inr (.inr hg)
    · exact .inr (.inl hg)
  · rw [h]

/-- The operation has begun: BOOT is off the target plane, and its mark is clear. -/
def stageMarked (s : State) (o : Op) : State := setValid (moveBoot (setOp s { o with started := true }) (stPlane o)) (stPlane o) false

/-- The plane's wear is counted, and its failures at the start are forgotten. -/
def stageCounted (s : State) (o : Op) : State :=
  setf (satAdd (stageMarked s o) (F.CFG_WEAR_WEAR (stPlane o)) 1) (F.CFG_PLANE_BOOT_FAILS (stPlane o)) 0

/-- The plane's erase begins, and shows. -/
def stageErasing (s : State) (o : Op) : State :=
  let t := planeClear (stageCounted s o) (stPlane o) (planeFillOf (stageCounted s o) (stPlane o) / 2 * 2 + 1)
  setf (setf t F.CFG_STAT_OP 1) F.CFG_STAT_OP_PLANE (stPlane o)

/-- A stage runs. -/
def staging (s : State) (g : Stage) : State := { s with stage := some g }

theorem rd_staging (s : State) (g : Stage) (r : Nat) : rd (staging s g) r = rd s r := rfl

theorem wearReg_ne (i : Nat) {r : Nat} (h : r < 0x30028 ∨ 0x3002C < r) : R.CFG_WEAR i ≠ r := by
  simp only [R.CFG_WEAR]
  omega

theorem rd_planeClear (s : State) (p f r : Nat) : rd (planeClear s p f) r = rd s r := rfl

theorem wearReg_ne_plane (i k : Nat) : R.CFG_WEAR i ≠ R.CFG_PLANE k := wearReg_ne i (by simp only [R.CFG_PLANE]; omega)

theorem stageMarked_wear (s : State) (o : Op) (i : Nat) : getf (stageMarked s o) (F.CFG_WEAR_WEAR i) = getf s (F.CFG_WEAR_WEAR i) := by
  have hstat : R.CFG_WEAR i ≠ R.CFG_STAT := wearReg_ne i (by decide)
  unfold stageMarked
  rw [getf_congr (rd_setValid _ _ _ hstat (wearReg_ne_plane i _)), getf_moveBoot _ _ (.inl hstat)]
  rfl

theorem stageErasing_wear (s : State) (o : Op) (hw : getf s (F.CFG_WEAR_WEAR (stPlane o)) < 1000000) :
    getf (stageErasing s o) (F.CFG_WEAR_WEAR (stPlane o)) = getf s (F.CFG_WEAR_WEAR (stPlane o)) + 1 := by
  have hstat : R.CFG_WEAR (stPlane o) ≠ R.CFG_STAT := wearReg_ne _ (by decide)
  have hplane : (F.CFG_WEAR_WEAR (stPlane o)).reg ≠ (F.CFG_PLANE_BOOT_FAILS (stPlane o)).reg := wearReg_ne_plane _ _
  unfold stageErasing
  dsimp only
  rw [getf_setf_apart (.inl hstat), getf_setf_apart (.inl hstat), getf_congr (rd_planeClear ..), stageCounted,
    getf_setf_apart (.inl hplane), getf_satAdd _ _ _ (show 0 + 32 ≤ 32 by decide), stageMarked_wear]
  exact Nat.min_eq_right (show _ ≤ 2 ^ 32 - 1 by omega)

theorem stageErasing_valid (s : State) (o : Op) {q : Nat} (hq : q < 2) :
    planeValid (stageErasing s o) q = if q = stPlane o then false else planeValid s q := by
  have hmoved : planeValid (moveBoot (setOp s { o with started := true }) (stPlane o)) q = planeValid s q := by
    unfold planeValid
    rw [getf_moveBoot _ _ (.inr (.inr (by decide)))]
    rfl
  have hwear : (F.CFG_WEAR_WEAR (stPlane o)).reg ≠ R.CFG_STAT := wearReg_ne _ (by decide)
  unfold stageErasing
  dsimp only
  rw [planeValid_setf _ (.inr (.inr (by decide))), planeValid_setf _ (.inr (.inr (by decide))), planeValid_congr (rd_planeClear ..), stageCounted,
    planeValid_setf _ (.inl (planeReg_ne _ (by decide)).symm), satAdd, planeValid_setf _ (.inl hwear), stageMarked, planeValid_setValid _ hq, hmoved]

theorem exec_cfgStage {tag : Nat} {o : Op} {hdr : ReadEnd} {h : List Byte} (ho : cfgTurn s tag 0x70 = some o)
    (hactive : activePlane s (stPlane o) = false) (hrange : stageRangeOk o = true) (hw : getf s (F.CFG_WEAR_WEAR (stPlane o)) < 1000000)
    (hkind : stKind o < 2) (hbytes : stageBytes s o 0 512 hdr = some h) (hheader : headerErr true h = false) (hlen : imgLen h = dLength o.words)
    (hident : identityOk h = true) : exec (.cfgStage tag hdr) s
      = .next (staging (stageErasing s o) { tag := tag, plane := stPlane o, ph := 1, buf := h, note := false }) := by
  have hfresh : ¬1000000 ≤ getf s (F.CFG_WEAR_WEAR (stPlane o)) := by omega
  show execCfgStage tag hdr s = _
  unfold execCfgStage
  rw [ho]
  dsimp only
  rw [if_neg (by simp [hactive, hrange]), if_neg (by simp [hfresh]), hbytes]
  dsimp only
  rw [if_neg (by simp [hheader, hlen]), if_neg (by simp [hident]), if_neg (by omega), decide_eq_false hfresh]
  rfl

theorem cfgStage_begins {tag : Nat} {o : Op} (hdr : ReadEnd) (ho : cfgTurn s tag 0x70 = some o)
    (hactive : activePlane s (stPlane o) = false) (hrange : stageRangeOk o = true) (hw : getf s (F.CFG_WEAR_WEAR (stPlane o)) < 1000000)
    (hkind : stKind o < 2) (h : List Byte) (hbytes : stageBytes s o 0 512 hdr = some h) (hheader : headerErr true h = false)
    (hlen : imgLen h = dLength o.words) (hident : identityOk h = true) : Does (.cfgStage tag hdr) s (fun t => planeValid t (stPlane o) = false
      ∧ getf t (F.CFG_WEAR_WEAR (stPlane o)) = getf s (F.CFG_WEAR_WEAR (stPlane o)) + 1 ∧ getf t F.CFG_STAT_OP = 1
      ∧ getf t F.CFG_STAT_OP_PLANE = stPlane o ∧ t.stage.map (fun g => (g.tag, g.plane, g.ph, g.buf)) = some (tag, stPlane o, 1, h)
      ∧ planeValid t (1 - stPlane o) = planeValid s (1 - stPlane o)) := by
  have hp := stPlane_lt o
  have hop : getf (stageErasing s o) F.CFG_STAT_OP = 1 := (getf_setf_apart (by decide)).trans (getf_setf_fits _ (by decide) (by decide))
  have hplane : getf (stageErasing s o) F.CFG_STAT_OP_PLANE = stPlane o := getf_setf_fits _ (by decide) hp
  have hother := stageErasing_valid s o (q := 1 - stPlane o) (by omega)
  rw [if_neg (by omega)] at hother
  refine ⟨_, exec_cfgStage ho hactive hrange hw hkind hbytes hheader hlen hident, ?_⟩
  beta_reduce
  rw [planeValid_congr (rd_staging ..), planeValid_congr (rd_staging ..), getf_congr (rd_staging ..), getf_congr (rd_staging ..),
    getf_congr (rd_staging ..)]
  exact ⟨(stageErasing_valid s o hp).trans (if_pos rfl), stageErasing_wear s o hw, hop, hplane, rfl, hother⟩

/-! #### The planes are written -/

theorem cfgStageEraseDone_does {g : Stage} (hg : s.stage = some g) (hph : g.ph = 1) (hlen : g.buf.length ≤ 0x800000) :
    Does .cfgStageEraseDone s (fun t => t.stage = some { g with ph := 2 } ∧ t.regs = s.regs
      ∧ ∀ x, planeByte t x = if x / 0x800000 = g.plane then g.buf.getD (x % 0x800000) 0xFF#8 else planeByte s x) := by
  let c := planeClear s g.plane (planeFillOf s g.plane / 2 * 2 + 2)
  let u := planeBytes c (g.plane * 0x800000) g.buf
  have hexec : exec .cfgStageEraseDone s = .next (staging u { g with ph := 2 }) := by
    show execCfgStageEraseDone s = _
    unfold execCfgStageEraseDone
    rw [hg]
    exact if_neg (not_not_intro hph)
  refine ⟨_, hexec, rfl, (planeBytes_made (Nat.or_self _) c _ _ (.refl ..)).regs rfl, fun x => ?_⟩
  have hbyte : planeByte (staging u { g with ph := 2 }) x = planeByte u x := rfl
  rw [hbyte, planeByte_planeBytes, planeByte_erased _ _ (by omega)]
  by_cases hx : x / 0x800000 = g.plane
  · have hoff : x - g.plane * 0x800000 = x % 0x800000 := by omega
    rw [if_pos hx, if_pos hx, hoff]
    split
    · next hin => exact getD_inside (by omega) _ _
    · next hout => rw [List.getD_eq_default _ _ (by omega)]
  · rw [if_neg hx, if_neg hx, if_neg (by omega)]

/-- Bytes programmed behind what a plane holds. -/
theorem planeByte_programmed (s : State) (a : Nat) (d : List Byte) (x : Nat) : planeByte (planeBytes s a d) x
    = if a ≤ x ∧ x < a + d.length then d.getD (x - a) 0xFF#8 else planeByte s x := by
  rw [planeByte_planeBytes]
  split
  · exact getD_inside (by omega) _ _
  · rfl

section
variable {g : Stage} {o : Op} (hg : s.stage = some g) (ho : opOf s g.tag = some o)
include hg ho

theorem cfgStageFrame_good (got : ReadEnd) (hph : g.ph = 2) (hserved : stageServed s o = true) (hmore : g.frames ≠ imgFrameCnt g.buf)
    (d : List Byte) (hbytes : stageBytes s o g.buf.length 4096 got = some d)
    (hgood : (framesFrom true (g.buf ++ d) 0 {} (g.frames + 1)).isSome = true) : Does (.cfgStageFrame got) s (fun t =>
      t.stage = some { g with buf := g.buf ++ d, frames := g.frames + 1 } ∧ t.regs = s.regs
      ∧ ∀ x, planeByte t x = if g.plane * 0x800000 + g.buf.length ≤ x ∧ x < g.plane * 0x800000 + g.buf.length + d.length
          then d.getD (x - (g.plane * 0x800000 + g.buf.length)) 0xFF#8 else planeByte s x) := by
  let u := planeBytes s (g.plane * 0x800000 + g.buf.length) d
  have hexec : exec (.cfgStageFrame got) s = .next (staging u { g with buf := g.buf ++ d, frames := g.frames + 1 }) := by
    have hlast : decide (g.frames = imgFrameCnt g.buf) = false := decide_eq_false hmore
    have hisNone : (framesFrom true (g.buf ++ d) 0 {} (g.frames + 1)).isNone = false := by simpa [← Option.isSome_iff_ne_none] using hgood
    show execCfgStageFrame got s = _
    unfold execCfgStageFrame
    rw [hg]
    dsimp only
    rw [ho]
    dsimp only
    rw [if_neg (by simp [hph, hserved]), hlast]
    simp only [Bool.false_eq_true, if_false]
    rw [hbytes]
    dsimp only
    rw [hisNone]
    rfl
  exact ⟨_, hexec, rfl, (planeBytes_made (Nat.or_self _) s _ _ (.refl ..)).regs rfl, planeByte_programmed s _ d⟩

theorem cfgStageFrame_missing (got : ReadEnd) (hph : g.ph = 2) (hserved : stageServed s o = true) (hmore : g.frames ≠ imgFrameCnt g.buf)
    (hbytes : stageBytes s o g.buf.length 4096 got = none) : Does (.cfgStageFrame got) s (fun t => t.stage = none ∧ getf t F.CFG_STAT_OP = 0
      ∧ (retOf t g.tag).map (·.status) = some (hostFail s)) := by
  have hexec : exec (.cfgStageFrame got) s = .next (stageEnd s g (hostFail s) 6) := by
    have hlast : decide (g.frames = imgFrameCnt g.buf) = false := decide_eq_false hmore
    show execCfgStageFrame got s = _
    unfold execCfgStageFrame
    rw [hg]
    dsimp only
    rw [ho]
    dsimp only
    rw [if_neg (by simp [hph, hserved]), hlast]
    simp only [Bool.false_eq_true, if_false]
    rw [hbytes]
  obtain ⟨hstage, hop, hret, -⟩ := stageEnd_does ho (hostFail s) 6
  exact ⟨_, hexec, hstage, hop, hret⟩

omit ho in
theorem exec_cfgStageReadbackDone (ok : Bool) (hph : g.ph = 3) : exec (.cfgStageReadbackDone ok) s
    = .next (if ok then stageEnd (setValid s g.plane true) g (if g.note then 1 else 0) 0 else stageEnd s g 0x40 4) := by
  show execCfgStageReadbackDone ok s = _
  unfold execCfgStageReadbackDone
  rw [hg]
  dsimp only
  rw [if_neg (not_not_intro hph)]
  cases ok <;> rfl

theorem cfgStageReadbackDone_does (hph : g.ph = 3) (hp : g.plane < 2) :
    Does (.cfgStageReadbackDone true) s (fun t => planeValid t g.plane = true ∧ t.stage = none ∧ getf t F.CFG_STAT_OP = 0
      ∧ (retOf t g.tag).map (·.status) = some (if g.note then 1 else 0))
    ∧ Does (.cfgStageReadbackDone false) s (fun t => planeValid t g.plane = planeValid s g.plane ∧ t.stage = none ∧ getf t F.CFG_STAT_OP = 0
      ∧ (retOf t g.tag).map (·.status) = some 0x40) := by
  constructor
  · obtain ⟨hstage, hop, hret, hvalid⟩ := stageEnd_does (s := setValid s g.plane true) ho (if g.note then 1 else 0) 0
    exact ⟨_, exec_cfgStageReadbackDone hg true hph, ((hvalid _).trans (planeValid_setValid s hp true)).trans (if_pos rfl), hstage, hop, hret⟩
  · obtain ⟨hstage, hop, hret, hvalid⟩ := stageEnd_does ho 0x40 4
    exact ⟨_, exec_cfgStageReadbackDone hg false hph, hvalid _, hstage, hop, hret⟩

end

end

end Sys2Proof.Machine

/-! ### What a start-up sequence and the end of a handover leave alone (R152, R153, R161)

What follows a configuration or a start-up step changes neither the fabric's image nor what CFG_STAT shows of its source and of LOCK, nor
the islands' lock (`ConfigKept`); only the beginning of a sequence changes its STEPS (`SeqKept`). -/
namespace Sys2Proof.Machine

/-- The fields that show where the fabric's image comes from, and the lock of the islands. -/
def configFields : List Fld := [F.CFG_STAT_ACTIVE, F.CFG_STAT_SRC_PLANE, F.CFG_STAT_LOCK_TO, F.FAB_ISL_LOCK_LOCK]

/-- Two fields share no bit. -/
abbrev fieldsApart (f g : Fld) : Prop := g.reg ≠ f.reg ∨ f.lo + f.width ≤ g.lo ∨ g.lo + g.width ≤ f.lo

/-- Between `s` and `t` the fabric's configuration and what shows of it stay as they are; device event 8 stays pending. -/
structure ConfigKept (s t : State) : Prop where
  image_eq : t.fab.image = s.fab.image
  getf_eq : ∀ g ∈ configFields, getf t g = getf s g
  miss_eq : rd t R.CFG_LOCK_MISS = rd s R.CFG_LOCK_MISS
  pending : evtPending s 8 = true → evtPending t 8 = true

/-- So do the steps that the start-up sequence has completed. -/
structure SeqKept (s t : State) : Prop extends ConfigKept s t where
  steps_eq : getf t F.CFG_SEQ_STAT_STEPS = getf s F.CFG_SEQ_STAT_STEPS

/-- The parts of the state that a `SeqKept` speaks of, as a mask of `Made`, but for device event 8: fab, and the blocks CFG and FAB. -/
def seqMask : Nat := 2 ^ 21 + 2 ^ 67 + 2 ^ 87

/-- A field that holds nothing of what a `ConfigKept` speaks of. -/
abbrev besideConfig (f : Fld) : Prop := f.reg ≠ R.CFG_LOCK_MISS ∧ f.reg ≠ R.HIF_DEV_PEND ∧ ∀ g ∈ configFields, fieldsApart f g

theorem evtPending_congr {s t : State} (h : rd t R.HIF_DEV_PEND = rd s R.HIF_DEV_PEND) (k : Nat) : evtPending t k = evtPending s k := by
  unfold evtPending
  rw [h]

namespace ConfigKept
variable {s t u : State}

theorem refl (s : State) : ConfigKept s s := ⟨rfl, fun _ _ => rfl, rfl, id⟩

theorem isSet_eq (h : ConfigKept s t) {g : Fld} (hg : g ∈ configFields) : isSet t g = isSet s g := by
  unfold isSet
  rw [h.getf_eq g hg]

theorem trans (h : ConfigKept s t) (k : ConfigKept t u) : ConfigKept s u :=
  ⟨k.image_eq.trans h.image_eq, fun g hg => (k.getf_eq g hg).trans (h.getf_eq g hg), k.miss_eq.trans h.miss_eq, fun hp => k.pending (h.pending hp)⟩

theorem ite {c : Prop} [Decidable c] (h : ConfigKept s t) (k : ConfigKept s u) : ConfigKept s (if c then t else u) := by split <;> assumption

theorem setf (s : State) {f : Fld} (v : Nat) (hf : besideConfig f) : ConfigKept s (setf s f v) := by
  obtain ⟨hmiss, hpend, hfields⟩ := hf
  exact ⟨rfl, fun g hg => getf_setf_apart (hfields g hg), rd_setf_ne hmiss.symm s v, fun hp => (evtPending_congr (rd_setf_ne hpend.symm s v) 8).trans hp⟩

end ConfigKept

namespace SeqKept
variable {s t u : State}

theorem refl (s : State) : SeqKept s s := ⟨.refl s, rfl⟩

theorem trans (h : SeqKept s t) (k : SeqKept t u) : SeqKept s u := ⟨h.toConfigKept.trans k.toConfigKept, k.steps_eq.trans h.steps_eq⟩

theorem ite {c : Prop} [Decidable c] (h : SeqKept s t) (k : SeqKept s u) : SeqKept s (if c then t else u) := by split <;> assumption

/-- What is done on a condition. -/
theorem on {c : Prop} [Decidable c] {f : State → State} (h : SeqKept s (f s)) : SeqKept s (if c then f s else s) := .ite h (.refl s)

theorem foldl {α : Type} {f : State → α → State} (hf : ∀ t x, SeqKept t (f t x)) (l : List α) (s : State) : SeqKept s (l.foldl f s) := by
  induction l generalizing s with
  | nil => exact .refl s
  | cons x l ih => exact (hf s x).trans (ih _)

/-- Registers and image stay as they are. -/
theorem same (hregs : t.regs = s.regs) (himg : t.fab.image = s.fab.image) : SeqKept s t := by
  have hrd (r : Nat) : rd t r = rd s r := by unfold rd; rw [hregs]
  exact ⟨⟨himg, fun _ _ => getf_congr (hrd _), hrd _, fun hp => (evtPending_congr (hrd _) 8).trans hp⟩, getf_congr (hrd _)⟩

theorem setf (s : State) {f : Fld} (v : Nat) (hf : besideConfig f) (hsteps : fieldsApart f F.CFG_SEQ_STAT_STEPS) : SeqKept s (setf s f v) :=
  ⟨.setf s v hf, getf_setf_apart hsteps⟩

/-- An operation whose footprint has nothing of the mask, and under which device event 8 stays pending. -/
theorem made_pending {M : Nat} (k : Made M s t) (hM : M &&& seqMask = 0) (hp : evtPending s 8 = true → evtPending t 8 = true) : SeqKept s t := by
  have hblk : ∀ g ∈ F.CFG_SEQ_STAT_STEPS :: configFields, seqMask.testBit (64 + blockOf g.reg) = true := by decide
  have hrd (r : Nat) (hr : seqMask.testBit (64 + blockOf r) = true) : rd t r = rd s r := k.blk r (testBit_of_land_zero hM hr)
  exact ⟨⟨by rw [k.fab (testBit_of_land_zero hM (by decide))], fun g hg => getf_congr (hrd _ (hblk g (List.mem_cons_of_mem _ hg))),
    hrd _ (by decide), hp⟩, getf_congr (hrd _ (hblk _ List.mem_cons_self))⟩

/-- The same, of an operation that leaves the registers of HIF alone. -/
theorem made {M : Nat} (k : Made M s t) (hM : M &&& seqMask = 0) (hhif : M.testBit 71 = false) : SeqKept s t :=
  made_pending k hM fun hp => (evtPending_congr (k.blk _ hhif) 8).trans hp

end SeqKept

/-! #### A device event -/

theorem rd_sendDev_pend (s : State) (k : Nat) : rd (sendDev s k) R.HIF_DEV_PEND = rd s R.HIF_DEV_PEND := by
  unfold sendDev
  split_ifs
  · exact (sendMsg_made (Nat.or_self _) _ _ _ (.refl ..)).blk _ rfl
  · unfold sendVec
    split_ifs
    · exact rd_wr_ne (by simp only [R.HIF_PBA, R.HIF_DEV_PEND]; omega) _ _
    · exact emit_rd ..
  · rfl

/-- An event that is pending stays so when another one comes. -/
theorem evtPending_kept {s : State} {j : Nat} (k : Nat) (h : evtPending s j = true) : evtPending (devEvent s k) j = true := by
  have hnoted : evtPending (devNoted s k) j = true := by
    have hrd : rd (devNoted s k) R.HIF_DEV_PEND = rd s R.HIF_DEV_PEND ||| w32 (2 ^ k) := (rd_wr_ne (by decide) _ _).trans (rd_wr_same ..)
    unfold evtPending at h ⊢
    rw [bit_toNat] at h
    rw [hrd, bit_toNat, BitVec.getLsbD_or, h, Bool.true_or]
  rw [devEvent_eq]
  split_ifs
  · exact h
  · exact (evtPending_congr (rd_sendDev_pend _ k) j).trans hnoted
  · exact hnoted

section
variable (s : State)

theorem devEvent_kept (k : Nat) : SeqKept s (devEvent s k) := .made_pending (devEvent_made (Nat.or_self _) s k (.refl ..)) rfl (evtPending_kept k)

/-! #### Fences, banks and the self-test -/

theorem releaseHolder_kept (d h : Nat) : SeqKept s (releaseHolder s d h) := .made (releaseHolder_made (Nat.or_self _) s d h (.refl ..)) rfl rfl

theorem askPending_kept (d : Nat) : SeqKept s (askPending s d) := .made (askPending_made (Nat.or_self _) s d (.refl ..)) rfl rfl

theorem domainReady_kept (d : Nat) : SeqKept s (domainReady s d) := .made (domainReady_made (Nat.or_self _) s d (.refl ..)) rfl rfl

theorem release1_kept (d : Nat) : SeqKept s (release1 s d) := .made (release1_made (Nat.or_self _) s d (.refl ..)) rfl rfl

theorem beginStep_kept (n target : Nat) (op : Option Nat) : SeqKept s (beginStep s n target op) :=
  .made (beginStep_made (Nat.or_self _) s n target op (.refl ..)) rfl rfl

theorem giveRet_kept (o : Op) (r : Ret) : SeqKept s (giveRet s o r) := .made (giveRet_made (Nat.or_self _) s o r (.refl ..)) rfl rfl

theorem bstFinish_kept : SeqKept s (bstFinish s) := .made (bstFinish_made (Nat.or_self _) s (.refl ..)) rfl rfl

theorem beginIdle_kept : SeqKept s (beginIdle s) := .made (beginIdle_made (Nat.or_self _) s (.refl ..)) rfl rfl

theorem finishStart_kept : SeqKept s (finishStart s) := .made (finishStart_made (Nat.or_self _) s (.refl ..)) rfl rfl

theorem userIo_kept (on : Bool) : SeqKept s (userIo s on) := .made (userIo_made (Nat.or_self _) s on (.refl ..)) rfl rfl

theorem setPwr_kept (p : Pwr) : SeqKept s (setPwr s p) := .same rfl rfl

theorem setFab_kept {x : Fab} (hx : x.image = s.fab.image) : SeqKept s (setFab s x) := .same rfl hx

theorem trimBegin_kept : SeqKept s (trimBegin s) := (SeqKept.setf s _ (by decide) (by decide)).trans (setFab_kept _ rfl)

/-! #### The end of a handover -/

theorem setHo_kept (h : Ho) : SeqKept s (setHo s h) := .same rfl rfl

/-- The fabric and the named banks are released from the handover's fence. -/
def hoReleased (h : Ho) : State := (hoBanks h).foldl (fun t n => releaseHolder t (12 + n) 8) (releaseHolder s 11 8)

/-- A handover that ends is counted, and shows no more. -/
def hoCounted (h : Ho) (status us : Nat) : State :=
  let s := if status = 0 then satAdd s F.CFG_HO_CNT_DONE 1 else s
  let s := if h.unconf && status == 0 then setf s F.PWR_STAT_RECOVERY 0 else s
  setf (setf (setf s F.CFG_STAT_OP 0) F.CFG_STAT_OP_PLANE 0) F.CFG_HO_LAST_US us

/-- Its operation returns. -/
def hoReturned (h : Ho) (r : Ret) : State :=
  match opOf s h.tag with
  | some o => giveRet s o r
  | none => s

/-- What waited for the handover's end goes on. -/
def hoOver : State := bstFinish (askAllPending (devEvent { s with ho := none } 8))

theorem hoFinish_eq (h : Ho) (status : Nat) : ∃ r, hoFinish s h status =
    let t := hoOver (hoReturned (hoCounted (hoReleased s h) h status (min 0xFFFFFF (usSince s h.started))) h r)
    if t.pwr.targetPend = some 1 ∧ t.pwr.stage = .run then beginIdle t else t := ⟨_, rfl⟩

theorem hoReleased_kept (h : Ho) : SeqKept s (hoReleased s h) :=
  (releaseHolder_kept s 11 8).trans (.foldl (fun t n => releaseHolder_kept t (12 + n) 8) _ _)

theorem hoCounted_kept (h : Ho) (status us : Nat) : SeqKept s (hoCounted s h status us) := by
  have hdone (u : State) : SeqKept u (satAdd u F.CFG_HO_CNT_DONE 1) := .setf u _ (by decide) (by decide)
  have hrecovery (u : State) : SeqKept u (setf u F.PWR_STAT_RECOVERY 0) := .setf u 0 (by decide) (by decide)
  have hop (u : State) : SeqKept u (setf u F.CFG_STAT_OP 0) := .setf u 0 (by decide) (by decide)
  have hplane (u : State) : SeqKept u (setf u F.CFG_STAT_OP_PLANE 0) := .setf u 0 (by decide) (by decide)
  have hlast (u : State) : SeqKept u (setf u F.CFG_HO_LAST_US us) := .setf u us (by decide) (by decide)
  have hcounted : SeqKept s (if status = 0 then satAdd s F.CFG_HO_CNT_DONE 1 else s) := .on (f := fun u => satAdd u F.CFG_HO_CNT_DONE 1) (hdone s)
  have hconf (u : State) : SeqKept u (if h.unconf && status == 0 then setf u F.PWR_STAT_RECOVERY 0 else u) :=
    .on (f := fun u => setf u F.PWR_STAT_RECOVERY 0) (hrecovery u)
  exact hcounted.trans ((hconf _).trans ((hop _).trans ((hplane _).trans (hlast _))))

theorem hoReturned_kept (h : Ho) (r : Ret) : SeqKept s (hoReturned s h r) := by
  unfold hoReturned
  split
  · exact giveRet_kept ..
  · exact .refl s

theorem hoOver_kept : SeqKept s (hoOver s) := by
  have hnone : SeqKept s { s with ho := none } := .same rfl rfl
  exact ((hnone.trans (devEvent_kept _ 8)).trans (.foldl askPending_kept _ _)).trans (bstFinish_kept _)

theorem hoFinish_kept (h : Ho) (status : Nat) : SeqKept s (hoFinish s h status) := by
  obtain ⟨r, heq⟩ := hoFinish_eq s h status
  rw [heq]
  refine .trans ?_ (.on (beginIdle_kept _))
  exact ((hoReleased_kept s h).trans (hoCounted_kept ..)).trans ((hoReturned_kept ..).trans (hoOver_kept _))

theorem hoAfterSeq_kept : SeqKept s (hoAfterSeq s) := by
  unfold hoAfterSeq
  split
  · exact .refl s
  · next h _ =>
    have hboot : SeqKept s (if h.persist && !h.rolled && h.reason == 0 then setf s F.CFG_STAT_BOOT h.plane else s) :=
      .ite (.setf s _ (by decide) (by decide)) (.refl s)
    have hset (u : State) (x : Option Ho) : SeqKept u { u with ho := x } := .same rfl rfl
    exact ((hboot.trans (hset _ _)).trans (askPending_kept _ 11)).trans (hoFinish_kept _ _ _)

/-! #### The start-up sequence -/

theorem seqDone_kept : SeqKept s (seqDone s) := by
  have hshown := (setFab_kept (x := { s.fab with seqPh := 0 }) s rfl).trans ((SeqKept.setf _ (f := F.CFG_SEQ_STAT_DONE) 1 (by decide) (by decide)).trans
    (.setf _ (f := F.FAB_STAT_STATE) 2 (by decide) (by decide)))
  unfold seqDone
  dsimp only
  split
  · exact hshown.trans ((domainReady_kept _ 11).trans ((trimBegin_kept _).trans (finishStart_kept _)))
  · exact hshown
  · exact hshown.trans ((trimBegin_kept _).trans (hoAfterSeq_kept _))
  · exact hshown.trans ((domainReady_kept _ 11).trans ((trimBegin_kept _).trans (bstFinish_kept _)))

theorem seqIndex_kept (v : Nat) : SeqKept s (setf s F.CFG_SEQ_STAT_INDEX v) := .setf s v (by decide) (by decide)

theorem seqGo_kept (fuel : Nat) : SeqKept s (seqGo s fuel) := by
  induction fuel generalizing s with
  | zero => exact seqDone_kept s
  | succ fuel ih =>
    unfold seqGo
    dsimp only
    split_ifs
    · exact (seqIndex_kept s _).trans (seqDone_kept _)
    · exact seqDone_kept s
    · exact (seqIndex_kept s _).trans (ih _)
    · exact setFab_kept s rfl
    · exact setFab_kept s rfl

theorem seqNext_kept : SeqKept s (seqNext s) := by
  unfold seqNext
  exact .ite (seqDone_kept s) ((seqIndex_kept s _).trans (seqGo_kept _ _))

/-- A sequence that begins has completed no step. -/
theorem seqBegin_kept (who : Nat) : ConfigKept s (seqBegin s who) := by
  have hindex (u : State) : ConfigKept u (setf u F.CFG_SEQ_STAT_INDEX 0) := .setf u 0 (by decide)
  have hdone (u : State) : ConfigKept u (setf u F.CFG_SEQ_STAT_DONE 0) := .setf u 0 (by decide)
  have hsteps (u : State) : ConfigKept u (setf u F.CFG_SEQ_STAT_STEPS 0) := .setf u 0 (by decide)
  have hfor (u : State) : ConfigKept u (setFab u { u.fab with seqFor := who }) := (setFab_kept u (x := { u.fab with seqFor := who }) rfl).toConfigKept
  have hstate (u : State) : ConfigKept u (setf u F.FAB_STAT_STATE 1) := .setf u 1 (by decide)
  exact (((((hindex s).trans (hdone _)).trans (hsteps _)).trans (hfor _)).trans (hstate _)).trans (seqGo_kept _ 8).toConfigKept

/-! #### The steps of a handover -/

theorem hoRetain_kept (h : Ho) : SeqKept s (hoRetain s h) := by
  unfold hoRetain
  split
  · exact (setHo_kept s _).trans (beginStep_kept ..)
  · exact setHo_kept s _

theorem hoAborted_kept : SeqKept s (hoAborted s) := by
  unfold hoAborted
  split
  · exact .refl s
  · exact .ite ((userIo_kept s false).trans (hoRetain_kept _ _)) (.refl s)

theorem hoSeq_kept (h : Ho) : ConfigKept s (hoSeq s h) := by
  unfold hoSeq
  dsimp only
  refine .trans ((setHo_kept s { h with step := 10 }).trans (.foldl (fun t n => askPending_kept t (12 + n)) (hoBanks h) _)).toConfigKept ?_
  exact .ite (hoAfterSeq_kept _).toConfigKept (seqBegin_kept _ 2)

theorem hoBanksOn_kept (h : Ho) : ConfigKept s (hoBanksOn s h) := by
  unfold hoBanksOn
  split
  · exact ((setHo_kept s _).trans (beginStep_kept ..)).toConfigKept
  · exact hoSeq_kept s h

theorem hoWaves_kept (h : Ho) : ConfigKept s (hoWaves s h) := by
  unfold hoWaves
  dsimp only
  exact .ite ((setPwr_kept s _).toConfigKept.trans (hoBanksOn_kept _ h)) ((setPwr_kept s _).trans (setHo_kept _ _)).toConfigKept

theorem beginRun_kept : ConfigKept s (beginRun s) := by
  have hpwr (p : Pwr) {f : Fld} (v : Nat) (hf : besideConfig f) : ConfigKept s (setf (setPwr s p) f v) :=
    (setPwr_kept s p).toConfigKept.trans (.setf _ v hf)
  unfold beginRun
  dsimp only
  exact .ite (hpwr _ _ (by decide)) (.ite ((hpwr _ _ (by decide)).trans (seqBegin_kept _ 1)) (hpwr _ _ (by decide)))

theorem idleNext_kept : ConfigKept s (idleNext s) := .ite (beginRun_kept s) (.refl s)

end

end Sys2Proof.Machine

/-! ### CFG_HANDOVER: the refusal and the fences (R160, R161 steps 1 and 2) -/
namespace Sys2Proof.Machine

section
variable {s : State} {tag : Nat} {o : Op}

theorem cfgHandover_refused (ho : cfgTurn s tag 0x71 = some o)
    (h : activePlane s (opFld o 4 0 1) = true ∨ planeValid s (opFld o 4 0 1) = false) : Does (.cfgHandover tag) s (fun t =>
      retOf t tag = some ⟨0x14, 0#32, w32 (getf s F.CFG_STAT_ACTIVE + 5 * 2 ^ 8)⟩ ∧ t.ho = s.ho ∧ t.doms = s.doms ∧ t.regs = s.regs) := by
  obtain ⟨rfl, x, hx⟩ := cfgTurn_found ho
  let r : Ret := ⟨0x14, 0#32, w32 (getf s F.CFG_STAT_ACTIVE + 5 * 2 ^ 8)⟩
  have hexec : exec (.cfgHandover o.tag) s = .next (giveRet s o r) := by
    show execCfgHandover o.tag s = _
    unfold execCfgHandover
    rw [ho]
    exact if_pos h
  have hmade := giveRet_made (Nat.or_self _) s o r (.refl ..)
  exact ⟨_, hexec, retOf_giveRet r hx, hmade.ho rfl, hmade.doms rfl, hmade.regs rfl⟩

/-- The banks that RETAIN names and that are ON. -/
def hoNamed (s : State) (o : Op) : List Nat := (List.range 8).filter (fun n => 2 ≤ n && bit (opFld o 4 8 8) n && (bank s n).st == 1)

/-- The handover that the operation begins. -/
def hoBegun (s : State) (o : Op) : Ho :=
  { tag := o.tag, plane := opFld o 4 0 1, retain := hoNamed s o, persist := decide (opFld o 4 1 1 = 1), step := 2, unconf := false, started := s.clk }

/-- The operation shows. -/
def hoShown (s : State) (o : Op) : State :=
  setf (setf (setOp s { o with started := true }) F.CFG_STAT_OP 2) F.CFG_STAT_OP_PLANE (opFld o 4 0 1)

/-- The fabric and the named banks are fenced. -/
def hoFenced (s : State) (l : List Nat) (drain : Nat) : State := l.foldl (fun t n => closeFence t (12 + n) 8 drain) (closeFence s 11 8 drain)

theorem exec_cfgHandover (ho : cfgTurn s tag 0x71 = some o) (hactive : activePlane s (opFld o 4 0 1) = false)
    (hvalid : planeValid s (opFld o 4 0 1) = true) (himg : s.fab.image ≠ []) : exec (.cfgHandover tag) s
      = .next (hoAborted (setHo (hoFenced (hoShown s o) (hoNamed s o) (hoDrain (hoShown s o) o)) (hoBegun s o))) := by
  obtain ⟨rfl, -⟩ := cfgTurn_found ho
  show execCfgHandover o.tag s = _
  unfold execCfgHandover
  rw [ho]
  dsimp only
  rw [if_neg (by simp [hactive, hvalid]), decide_eq_false himg]
  rfl

/-- Fences that close on banks: the fabric's fence stays as it was, no other opens, and no register but those of the fences changes. -/
theorem bankFences_keep (drain : Nat) (l : List Nat) (hl : ∀ n ∈ l, n < 8) (s : State) :
    let t := l.foldl (fun t n => closeFence t (12 + n) 8 drain) s
    dom t 11 = dom s 11 ∧ (∀ r, r ∉ fenceRegs → rd t r = rd s r) ∧ (∀ e, fenced s e = true ∨ (∃ n ∈ l, e = 12 + n) → fenced t e = true) := by
  induction l generalizing s with
  | nil => exact ⟨rfl, fun _ _ => rfl, fun e h => h.resolve_right (by simp)⟩
  | cons n l ih =>
    have hn : 12 + n < 32 := by have := hl n List.mem_cons_self; omega
    have hstep := closeFence_step s hn 8 drain
    obtain ⟨hdom, hrd, hfenced⟩ := ih (fun k hk => hl k (List.mem_cons_of_mem _ hk)) (closeFence s (12 + n) 8 drain)
    refine ⟨hdom.trans (hstep.dom_eq 11 (by omega)), fun r hr => (hrd r hr).trans (hstep.rd_eq r hr), fun e he => hfenced e ?_⟩
    rcases he with he | ⟨k, hk, rfl⟩
    · exact .inl (closeFence_fenced_mono s hn 8 drain e he)
    · rcases List.mem_cons.1 hk with rfl | hk
      · exact .inl (closeFence_fenced s hn 8 drain)
      · exact .inr ⟨k, hk, rfl⟩

theorem hoNamed_lt {n : Nat} (h : n ∈ hoNamed s o) : n < 8 := List.mem_range.1 (List.mem_filter.1 h).1

theorem mem_hoNamed {n : Nat} (hn : n < 8) (h2 : 2 ≤ n) (hbit : bit (opFld o 4 8 8) n = true) (hon : (bank s n).st = 1) : n ∈ hoNamed s o :=
  List.mem_filter.2 ⟨List.mem_range.2 hn, by simp [h2, hbit, hon]⟩

theorem rd_hoShown (s : State) (o : Op) {r : Nat} (h : r ≠ R.CFG_STAT) : rd (hoShown s o) r = rd s r := by
  unfold hoShown
  rw [rd_setf_ne h, rd_setf_ne h, setOp_rd]

/-- Closed afresh, the fabric's fence is held by the handover alone, with its drain window. -/
theorem hoFenced_does (h11 : fenced s 11 = false) {l : List Nat} (hl : ∀ n ∈ l, n < 8) (drain : Nat) : let t := hoFenced s l drain
    fenced t 11 = true ∧ dom t 11 = domClosed s 11 8 drain ∧ (∀ n ∈ l, fenced t (12 + n) = true) ∧ ∀ r, r ∉ fenceRegs → rd t r = rd s r := by
  have hstep := closeFence_step s (d := 11) (by decide) 8 drain
  obtain ⟨hdom, hrd, hfenced⟩ := bankFences_keep drain l hl (closeFence s 11 8 drain)
  refine ⟨hfenced 11 (.inl (closeFence_fenced s (by decide) 8 drain)), hdom.trans ?_, fun n hn => hfenced _ (.inr ⟨n, hn, rfl⟩),
    fun r hr => (hrd r hr).trans (hstep.rd_eq r hr)⟩
  rw [closeFence_open h11, dom_fenceClosed]

/-- A handover waits while the fabric's fence drains. -/
theorem hoAborted_draining (h : (dom s 11).fence = .drain) : hoAborted s = s := by
  unfold hoAborted
  split
  · rfl
  · have hwait : fenceDone s 11 = false := by unfold fenceDone; rw [h]; rfl
    exact if_neg (by simp [hwait])

theorem cfgHandover_begins (ho : cfgTurn s tag 0x71 = some o) (hactive : activePlane s (opFld o 4 0 1) = false)
    (hvalid : planeValid s (opFld o 4 0 1) = true) (himg : s.fab.image ≠ []) (h11 : fenced s 11 = false) : Does (.cfgHandover tag) s (fun t =>
      getf t F.CFG_STAT_OP = 2 ∧ getf t F.CFG_STAT_OP_PLANE = opFld o 4 0 1 ∧ fenced t 11 = true ∧ (dom t 11).holders = [8]
      ∧ (dom t 11).drainUs = hoDrain s o
      ∧ t.ho.map (fun h => (h.tag, h.plane, h.step, h.persist)) = some (tag, opFld o 4 0 1, 2, decide (opFld o 4 1 1 = 1))
      ∧ ∀ n < 8, 2 ≤ n → bit (opFld o 4 8 8) n = true → (bank s n).st = 1 → fenced t (12 + n) = true) := by
  obtain ⟨rfl, -⟩ := cfgTurn_found ho
  have hplane : opFld o 4 0 1 < 2 := Nat.mod_lt _ (by decide)
  have hopen : fenced (hoShown s o) 11 = false := (fenced_congr (rd_hoShown s o (by decide)) 11).trans h11
  have hdrain : hoDrain (hoShown s o) o = hoDrain s o := by
    have hrst : getf (hoShown s o) F.RST_DRAIN_US = getf s F.RST_DRAIN_US := getf_congr (rd_hoShown s o (by decide))
    unfold hoDrain rstDrain
    rw [hrst]
  obtain ⟨hfenced, hdom, hbanks, hrd⟩ := hoFenced_does hopen (fun n => hoNamed_lt (s := s) (o := o)) (hoDrain (hoShown s o) o)
  let u := setHo (hoFenced (hoShown s o) (hoNamed s o) (hoDrain (hoShown s o) o)) (hoBegun s o)
  have hu : dom u 11 = domClosed (hoShown s o) 11 8 (hoDrain (hoShown s o) o) := hdom
  have hexec : exec (.cfgHandover o.tag) s = .next u :=
    (exec_cfgHandover ho hactive hvalid himg).trans (congrArg _ (hoAborted_draining (s := u) (by rw [hu]; rfl)))
  have hstat (g : Fld) (hg : g.reg = R.CFG_STAT) : getf u g = getf (hoShown s o) g := getf_congr (hrd g.reg (by rw [hg]; decide))
  refine ⟨u, hexec, ?_, ?_, hfenced, by rw [hu]; rfl, by rw [hu]; exact hdrain, rfl, fun n hn h2 hbit hon => hbanks n (mem_hoNamed hn h2 hbit hon)⟩
  · exact (hstat _ rfl).trans ((getf_setf_apart (by decide)).trans (getf_setf_fits _ (by decide) (by decide)))
  · exact (hstat _ rfl).trans (getf_setf_fits _ (by decide) hplane)

end

/-! ### A handover's readout (R161 steps 6 and 7, R164) -/

section
variable {s : State} {h : Ho} (hho : s.ho = some h)
include hho

theorem regionsPoweredDown_does (hstep : h.step = 6) : Does .regionsPoweredDown s (fun t => t.ho = some { h with step := 7 }
    ∧ ∀ r < 16, regionIsOn t r = (regionIsOn s r && bit (usedRegions (planeImage s h.plane)) r)) := by
  let off := (regions (getf s F.FAB_STAT_RGN_ON)).filter (fun r => !bit (usedRegions (planeImage s h.plane)) r)
  have hexec : exec .regionsPoweredDown s = .next (setHo (off.foldl regionOff s) { h with step := 7 }) := by
    show execRegionsPoweredDown s = _
    unfold execRegionsPoweredDown
    rw [hho]
    exact if_neg (not_not_intro hstep)
  refine ⟨_, hexec, rfl, fun r hr => ?_⟩
  have hon : regionIsOn (setHo (off.foldl regionOff s) { h with step := 7 }) r = (regionIsOn s r && !off.contains r) :=
    foldl_regionOff_on off s r hr
  have hoff : off.contains r = (regionIsOn s r && !bit (usedRegions (planeImage s h.plane)) r) := by
    rw [Bool.eq_iff_iff, List.contains_iff_mem]
    simp [off, regions, regionIsOn, hr, and_comm]
  rw [hon, hoff]
  cases regionIsOn s r <;> simp

/-- The new plane's readout was good: the fabric holds its image, and CFG_STAT shows where it comes from. -/
def hoLoaded (s : State) (p glob : Nat) : State :=
  showSource (loadHeader (keepIslands s s.fab.image (planeImage s p)) (planeImage s p) glob) (planeImage s p) p

omit hho in
theorem hoLoaded_does {p : Nat} (hp : p < 2) (glob : Nat) : let t := hoLoaded s p glob
    t.fab.image = (if paceOk (planeImage s p) then planeImage s p else []) ∧ getf t F.CFG_STAT_ACTIVE = p
    ∧ isSet t F.CFG_STAT_SRC_PLANE = paceOk (planeImage s p) := by
  refine ⟨?_, ?_, ?_⟩
  · show (showSource _ _ _).fab.image = _
    unfold showSource
    rw [setf_fab, setf_fab, loadHeader_image]
  · show getf (showSource _ _ _) _ = _
    unfold showSource
    rw [getf_setf_apart (by decide), if_pos hp, getf_setf_fits _ (by decide) hp]
  · show isSet (showSource _ _ _) _ = _
    unfold showSource
    rw [isSet_setf_b2n _ _ _ rfl (by decide), decide_eq_true hp, Bool.true_and]

section
variable (hstep : h.step = 7) (hback : h.back = false)
include hstep hback

theorem exec_readoutDone_good (glob : Nat) (hgood : imageReason false (planeImage s h.plane) = 0) : exec (.handoverReadoutDone glob) s
    = .next (let t := hoLoaded s h.plane glob
        idleNext (hoWaves (if (dom t 11).powered then t else release1 t 11) h)) := by
  show execHandoverReadoutDone glob s = _
  unfold execHandoverReadoutDone
  rw [hho]
  dsimp only
  rw [if_neg (not_not_intro (.inl hstep)), hback]
  exact if_pos hgood

theorem readoutDone_good (glob : Nat) (hp : h.plane < 2) (hgood : imageReason false (planeImage s h.plane) = 0) :
    Does (.handoverReadoutDone glob) s (fun t =>
      t.fab.image = (if paceOk (planeImage s h.plane) then planeImage s h.plane else []) ∧ getf t F.CFG_STAT_ACTIVE = h.plane
      ∧ isSet t F.CFG_STAT_SRC_PLANE = paceOk (planeImage s h.plane)) := by
  obtain ⟨himage, hactive, hsource⟩ := hoLoaded_does (s := s) hp glob
  let u := hoLoaded s h.plane glob
  have hkept : ConfigKept u (idleNext (hoWaves (if (dom u 11).powered then u else release1 u 11) h)) :=
    (SeqKept.ite (.refl u) (release1_kept u 11)).toConfigKept.trans ((hoWaves_kept _ h).trans (idleNext_kept _))
  refine ⟨_, exec_readoutDone_good hho hstep hback glob hgood, hkept.image_eq.trans himage, (hkept.getf_eq _ (by decide)).trans hactive,
    (hkept.isSet_eq (by decide)).trans hsource⟩

/-- A readout that failed: the plane's mark is clear, ROLLBACK shows, and the rollback is counted. -/
def hoRolled (s : State) (p : Nat) : State :=
  alarmUpdate (satAdd (raise (setValid s p false) F.CFG_STAT_ROLLBACK) F.CFG_HO_CNT_ROLLBACKS 1)

omit hho hstep hback in
theorem hoRolled_does {p : Nat} (hp : p < 2) : let t := hoRolled s p
    planeValid t p = false ∧ isSet t F.CFG_STAT_ROLLBACK = true ∧ getf t F.CFG_HO_CNT_ROLLBACKS = min 255 (getf s F.CFG_HO_CNT_ROLLBACKS + 1)
    ∧ isSet t F.CFG_STAT_SRC_PLANE = isSet s F.CFG_STAT_SRC_PLANE := by
  let u := setValid s p false
  have hcfg (r : Nat) (hr : blockOf r = 3) : rd (hoRolled s p) r = rd (satAdd (raise u F.CFG_STAT_ROLLBACK) F.CFG_HO_CNT_ROLLBACKS 1) r :=
    alarmUpdate_rd (by rw [hr]; decide) _
  have hvalid : planeValid (hoRolled s p) p = false := by
    rw [planeValid_congr (hcfg _ (by decide)), satAdd, planeValid_setf _ (.inl (by decide)), raise, planeValid_setf _ (.inr (.inr (by decide)))]
    exact (planeValid_setValid s hp false).trans (if_pos rfl)
  have hrollback : isSet (hoRolled s p) F.CFG_STAT_ROLLBACK = true := by
    rw [isSet_congr (hcfg _ (by decide)), satAdd, isSet_setf_apart (by decide), isSet_raise _ _ rfl (by decide)]
  have hcount : getf u F.CFG_HO_CNT_ROLLBACKS = getf s F.CFG_HO_CNT_ROLLBACKS := getf_congr (rd_setValid s p false (by decide) (planeReg_ne p (by decide)))
  have hrolls : getf (hoRolled s p) F.CFG_HO_CNT_ROLLBACKS = min 255 (getf s F.CFG_HO_CNT_ROLLBACKS + 1) := by
    rw [getf_congr (hcfg _ (by decide)), getf_satAdd _ _ _ (by decide), raise, getf_setf_apart (by decide), hcount]
    rfl
  have hsource : isSet (hoRolled s p) F.CFG_STAT_SRC_PLANE = isSet u F.CFG_STAT_SRC_PLANE := by
    rw [isSet_congr (hcfg _ (by decide)), satAdd, isSet_setf_apart (by decide), raise, isSet_setf_apart (by decide)]
  refine ⟨hvalid, hrollback, hrolls, hsource.trans ?_⟩
  have hplane : R.CFG_STAT ≠ R.CFG_PLANE p := planeReg_ne p (by decide)
  show isSet (setValid s p false) _ = _
  unfold setValid
  rw [isSet_setf_apart (.inl hplane), isSet_setf_apart (.inl hplane), isSet_setf_apart (by decide)]

theorem readoutDone_bad (glob : Nat) (hp : h.plane < 2) (r : Nat) (hbad : imageReason false (planeImage s h.plane) = r) (hr : r ≠ 0)
    (hconf : h.unconf = false) (hsource : isSet s F.CFG_STAT_SRC_PLANE = true) : Does (.handoverReadoutDone glob) s (fun t =>
      t.ho = some { h with reason := r, rolled := true, back := true } ∧ planeValid t h.plane = false ∧ isSet t F.CFG_STAT_ROLLBACK = true
      ∧ getf t F.CFG_HO_CNT_ROLLBACKS = min 255 (getf s F.CFG_HO_CNT_ROLLBACKS + 1)) := by
  obtain ⟨hvalid, hrollback, hrolls, hstill⟩ := hoRolled_does (s := s) hp
  let t := setHo (hoRolled s h.plane) { h with reason := r, rolled := true, back := true }
  have hexec : exec (.handoverReadoutDone glob) s = .next t := by
    show execHandoverReadoutDone glob s = _
    unfold execHandoverReadoutDone
    rw [hho]
    dsimp only
    rw [if_neg (not_not_intro (.inl hstep)), hback]
    simp only [Bool.false_eq_true, if_false]
    rw [hbad, if_neg hr, if_neg (by simp [hconf])]
    refine (if_pos (hstill.trans hsource)).trans ?_
    rw [← hstep]
    rfl
  exact ⟨t, hexec, rfl, hvalid, hrollback, hrolls⟩

end

end

end Sys2Proof.Machine

/-! ### Start-up steps (R152, R153) -/
namespace Sys2Proof.Machine

section
variable {s t : State} {k : Nat}

theorem atStep_iff : atStep s k = true ↔ s.fab.seqPh = 1 ∧ stStep (seqEntry s) = k := by
  rw [atStep, Bool.and_eq_true, decide_eq_true_iff, decide_eq_true_iff]

/-- The entry being run is named by the image and by INDEX. -/
theorem seqEntry_congr (himg : t.fab.image = s.fab.image) (hrd : rd t R.CFG_SEQ_STAT = rd s R.CFG_SEQ_STAT) : seqEntry t = seqEntry s := by
  have hindex : getf t F.CFG_SEQ_STAT_INDEX = getf s F.CFG_SEQ_STAT_INDEX := getf_congr hrd
  unfold seqEntry
  rw [himg, hindex]

/-- A step of the sequence shows. -/
def seqStepShown (s : State) : State := setf s F.CFG_SEQ_STAT_STEPS (setBit (getf s F.CFG_SEQ_STAT_STEPS) (stStep (seqEntry s) - 1))

/-- After a step that shows its delay runs, or the next step begins. -/
theorem seqStepDone_kept (s : State) : SeqKept (seqStepShown s) (seqStepDone s) :=
  .ite (seqNext_kept _) (setFab_kept _ rfl)

theorem seqStepShown_kept (s : State) : ConfigKept s (seqStepShown s) := .setf s _ (by decide)

/-- A step that completes sets its STEPS bit, and leaves the configuration as it is. -/
theorem stepCompleted_does (hk : k ∈ [1, 2, 3, 4]) (hstep : stStep (seqEntry s) = k) : let t := hoAborted (seqStepDone s)
    bit (getf t F.CFG_SEQ_STAT_STEPS) (k - 1) = true ∧ ConfigKept s t := by
  have hkept := (seqStepDone_kept s).trans (hoAborted_kept (seqStepDone s))
  have hbit : k - 1 < F.CFG_SEQ_STAT_STEPS.width := by
    have hall : ∀ k ∈ [1, 2, 3, 4], k - 1 < F.CFG_SEQ_STAT_STEPS.width := by decide
    exact hall k hk
  refine ⟨?_, (seqStepShown_kept s).trans hkept.toConfigKept⟩
  rw [hkept.steps_eq, seqStepShown, hstep, bit_getf_setf _ _ _ (by decide) hbit, bit_setBit_same]

/-! #### LOCK -/

theorem foldl_setBit_lt {n : Nat} (f : Nat → Nat) (c : Nat → Bool) (l : List Nat) (hl : ∀ i ∈ l, f i < n) (m : Nat) (hm : m < 2 ^ n) :
    l.foldl (fun m i => if c i then setBit m (f i) else m) m < 2 ^ n := by
  induction l generalizing m with
  | nil => exact hm
  | cons i l ih =>
    refine ih (fun j hj => hl j (List.mem_cons_of_mem _ hj)) _ ?_
    beta_reduce
    split
    · exact Nat.or_lt_two_pow hm (Nat.pow_lt_pow_right (by decide) (hl i List.mem_cons_self))
    · exact hm

/-- LOCK waits for user islands, which are among the 25 islands. -/
theorem lockIslands_lt (s : State) : lockIslands s < 2 ^ 25 :=
  foldl_setBit_lt (14 + ·) _ _ (fun i hi => by have := List.mem_range.1 hi; omega) 0 (by decide)

theorem lockSet_locks {m : Nat} (hm : m < 2 ^ 25) : getf (lockSet s m) F.FAB_ISL_LOCK_LOCK = getf s F.FAB_ISL_LOCK_LOCK ||| m := by
  have hlt : getf s F.FAB_ISL_LOCK_LOCK ||| m < 2 ^ 25 := Nat.or_lt_two_pow (getf_lt s F.FAB_ISL_LOCK_LOCK) hm
  exact (getf_congr (setFab_rd ..)).trans (getf_setf_fits s (f := F.FAB_ISL_LOCK_LOCK) (by decide) hlt)

theorem lockSet_entry (s : State) (m : Nat) : seqEntry (lockSet s m) = seqEntry s :=
  seqEntry_congr rfl ((setFab_rd ..).trans (rd_setf_ne (by decide) _ _))

theorem startupLockDone_does (h : atStep s 1 = true) : Does .startupLockDone s (fun t => bit (getf t F.CFG_SEQ_STAT_STEPS) 0 = true
    ∧ getf t F.FAB_ISL_LOCK_LOCK = getf s F.FAB_ISL_LOCK_LOCK ||| lockIslands s) := by
  obtain ⟨-, hstep⟩ := atStep_iff.1 h
  obtain ⟨hbit, hkept⟩ := stepCompleted_does (k := 1) (by decide) ((congrArg stStep (lockSet_entry s (lockIslands s))).trans hstep)
  exact ⟨_, if_pos h, hbit, (hkept.getf_eq _ (by decide)).trans (lockSet_locks (lockIslands_lt s))⟩

/-- The islands of `m` did not lock: the others do, and LOCK_TO and CFG_LOCK_MISS show. -/
def lockMissed (s : State) (m : Nat) : State :=
  alarmUpdate (raise (wr (lockSet s (lockIslands s - m)) R.CFG_LOCK_MISS (w32 m)) F.CFG_STAT_LOCK_TO)

theorem lockMissed_does (s : State) (m : Nat) : let t := lockMissed s m
    isSet t F.CFG_STAT_LOCK_TO = true ∧ rd t R.CFG_LOCK_MISS = w32 m ∧ seqEntry t = seqEntry s := by
  have hcfg (r : Nat) (hr : blockOf r = 3) : rd (lockMissed s m) r
      = rd (raise (wr (lockSet s (lockIslands s - m)) R.CFG_LOCK_MISS (w32 m)) F.CFG_STAT_LOCK_TO) r := alarmUpdate_rd (by rw [hr]; decide) _
  refine ⟨(isSet_congr (hcfg _ (by decide))).trans (isSet_raise _ _ rfl (by decide)), ?_, ?_⟩
  · rw [hcfg _ (by decide), rd_raise_ne (by decide), rd_wr_same]
  · refine (seqEntry_congr (s := lockSet s (lockIslands s - m)) ?_ ?_).trans (lockSet_entry s _)
    · exact congrArg Fab.image ((alarmUpdate_made (Nat.or_self _) _ (.refl ..)).fab rfl)
    · rw [hcfg _ (by decide), rd_raise_ne (by decide), rd_wr_ne (by decide)]

theorem startupLockTimeout_does (h : atStep s 1 = true) (missing : Nat) : Does (.startupLockTimeout missing) s (fun t =>
    bit (getf t F.CFG_SEQ_STAT_STEPS) 0 = true ∧ isSet t F.CFG_STAT_LOCK_TO = true ∧ rd t R.CFG_LOCK_MISS = w32 (lockIslands s &&& missing)
    ∧ evtPending t 8 = true) := by
  let m := lockIslands s &&& missing
  let u := lockMissed s m
  obtain ⟨-, hstep⟩ := atStep_iff.1 h
  obtain ⟨hto, hmiss, hentry⟩ := lockMissed_does s m
  have hevent := (devEvent_kept u 8).toConfigKept
  have hsame : seqEntry (devEvent u 8) = seqEntry s :=
    (seqEntry_congr hevent.image_eq ((devEvent_made (Nat.or_self _) u 8 (.refl ..)).blk _ rfl)).trans hentry
  obtain ⟨hbit, hkept⟩ := stepCompleted_does (k := 1) (by decide) ((congrArg stStep hsame).trans hstep)
  have hall := hevent.trans hkept
  refine ⟨_, if_pos h, hbit, (hall.isSet_eq (by decide)).trans hto, hall.miss_eq.trans hmiss,
    hkept.pending (evtPending_devEvent u (by decide))⟩

/-! #### IO, GSR and WE; a delay ends -/

theorem userIo_entry (s : State) (on : Bool) : seqEntry (userIo s on) = seqEntry s := by
  have hmade := userIo_made (Nat.or_self _) s on (.refl ..)
  exact seqEntry_congr (congrArg Fab.image (hmade.fab rfl)) (hmade.blk _ rfl)

theorem startupStepDone_does (hk : k ∈ [2, 3, 4]) (h : atStep s k = true) :
    Does .startupStepDone s (fun t => bit (getf t F.CFG_SEQ_STAT_STEPS) (k - 1) = true) := by
  obtain ⟨hph, hstep⟩ := atStep_iff.1 h
  have hk4 : k ∈ [1, 2, 3, 4] := List.mem_cons_of_mem _ hk
  by_cases hio : k = 2
  · subst hio
    exact ⟨_, if_pos h, (stepCompleted_does hk4 ((congrArg stStep (userIo_entry s true)).trans hstep)).1⟩
  · have hother : atStep s 2 = false := by simp [atStep, hstep, hio]
    have hthis : (atStep s 3 || atStep s 4) = true := by
      have hcases : k = 3 ∨ k = 4 := by simpa [hio] using hk
      rcases hcases with rfl | rfl <;> simp [h]
    have hexec : exec .startupStepDone s = .next (hoAborted (seqStepDone s)) := by
      show execStartupStepDone s = _
      unfold execStartupStepDone
      rw [hother]
      exact if_pos hthis
    exact ⟨_, hexec, (stepCompleted_does hk4 hstep).1⟩

/-- The next entry is a step: it begins. -/
theorem seqGo_step (fuel : Nat) (h1 : 1 ≤ stStep (seqEntry s)) (h4 : stStep (seqEntry s) ≤ 4) :
    seqGo s (fuel + 1) = setFab s { s.fab with seqPh := 1 } := by
  unfold seqGo
  dsimp only
  rw [if_neg (by omega), if_neg (by omega)]

theorem startupDelayExpiry_does (hho : s.ho = none) (hph : s.fab.seqPh = 2) {i : Nat} (hindex : getf s F.CFG_SEQ_STAT_INDEX = i) (hi : i < 7)
    (h1 : 1 ≤ stStep (imgStart s.fab.image (i + 1))) (h4 : stStep (imgStart s.fab.image (i + 1)) ≤ 4) :
    Does .startupDelayExpiry s (fun t => getf t F.CFG_SEQ_STAT_INDEX = i + 1 ∧ t.fab.seqPh = 1) := by
  let u := setf s F.CFG_SEQ_STAT_INDEX (i + 1)
  have hnext : getf u F.CFG_SEQ_STAT_INDEX = i + 1 := getf_setf_fits s (by decide) (show i + 1 < 2 ^ 3 by omega)
  have hentry : seqEntry u = imgStart s.fab.image (i + 1) := congrArg (imgStart s.fab.image) hnext
  have hbegun : seqNext s = setFab u { u.fab with seqPh := 1 } := by
    unfold seqNext
    dsimp only
    rw [hindex, if_neg (by omega)]
    exact seqGo_step 7 (hentry ▸ h1) (hentry ▸ h4)
  have hwait : hoAborted (seqNext s) = setFab u { u.fab with seqPh := 1 } := by
    rw [hbegun]
    unfold hoAborted
    rw [show (setFab u { u.fab with seqPh := 1 }).ho = none from hho]
  have hexec : exec .startupDelayExpiry s = .next (hoAborted (seqNext s)) := if_pos hph
  rw [hwait] at hexec
  exact ⟨_, hexec, (getf_congr (setFab_rd ..)).trans hnext, rfl⟩

end

end Sys2Proof.Machine

/-! ### A bank's power step and CFG_BOOT_SEL (R237, Table 6-17) -/
namespace Sys2Proof.Machine

section
variable {s t : State} {n : Nat}

theorem bankStat_ne_pstate (n : Nat) : R.BNK_STAT n ≠ R.BNK_PSTATE := by
  simp only [R.BNK_STAT, R.BNK_PSTATE]
  omega

theorem bankStat_fenceRegs {n : Nat} (hn : n < 8) : R.BNK_STAT n ∉ fenceRegs := by
  have hall : ∀ n < 8, R.BNK_STAT n ∉ fenceRegs := by decide
  exact hall n hn

/-- A step of bank `n` changes no register but those that show its state. -/
theorem stepDone_rd (s : State) (n r : Nat) :
    rd (stepDone s n) r = rd (setBankSt (setBank s n { bank s n with forOp := none }) n (bank s n).target) r := by
  have hlost (u : State) (c : Prop) [Decidable c] : rd (if c then loseBank u n else u) r = rd u r := by split <;> rfl
  have hsensed (u : State) (x : Bank) (c : Prop) [Decidable c] : rd (if c then setBank u n x else u) r = rd u r := by split <;> rfl
  unfold stepDone
  dsimp only
  rw [hsensed, hlost]

theorem setBankSt_shows (u : State) (n : Nat) {st : Nat} (h : st < 3) : getf (setBankSt u n st) (F.BNK_STAT_STATE n) = st := by
  have hfits : st < 2 ^ 2 := by omega
  unfold setBankSt showBank
  dsimp only
  rw [getf_setf_apart (.inl (bankStat_ne_pstate n)), bank_setBank]
  exact getf_setf_fits _ (f := F.BNK_STAT_STATE n) (show 0 + 2 ≤ 32 by decide) hfits

theorem stepDone_shows (s : State) (n : Nat) (h : (bank s n).target < 3) : getf (stepDone s n) (F.BNK_STAT_STATE n) = (bank s n).target :=
  (getf_congr (stepDone_rd s n _)).trans (setBankSt_shows _ n h)

/-- Between powered states a bank keeps its cells. -/
theorem stepDone_mem (s : State) (n : Nat) (ht : (bank s n).target ≠ 0) (hb : (bank s n).before ≠ 0) : (stepDone s n).mem = s.mem := by
  unfold stepDone
  dsimp only
  rw [if_neg hb, if_neg (by simp [ht, hb])]
  exact (setBankSt_made (Nat.or_self _) (setBank s n { bank s n with forOp := none }) n (bank s n).target (.refl ..)).mem rfl

/-- The step's operation returns, where one asked for it. -/
def bankAnswered (s : State) (n us : Nat) : State :=
  match (bank s n).forOp.bind (opOf (stepDone s n)) with
  | some o => giveRet (stepDone s n) o ⟨0, w32 ((bank s n).before + 4 * (bank s n).target), w32 us⟩
  | none => stepDone s n

theorem bankStepDone_eq (s : State) (n us : Nat) : bankStepDone s n us
    = if (bank s n).forOp ≠ none then releaseHolder (bankAnswered s n us) (12 + n) 7 else bankAnswered s n us := rfl

theorem bankAnswered_keeps (s : State) (n us : Nat) : let t := bankAnswered s n us
    t.banks = (stepDone s n).banks ∧ t.mem = (stepDone s n).mem ∧ t.regs = (stepDone s n).regs := by
  unfold bankAnswered
  split
  · next o _ =>
    have hmade := giveRet_made (Nat.or_self _) (stepDone s n) o ⟨0, w32 ((bank s n).before + 4 * (bank s n).target), w32 us⟩ (.refl ..)
    exact ⟨hmade.banks rfl, hmade.mem rfl, hmade.regs rfl⟩
  · exact ⟨rfl, rfl, rfl⟩

theorem bankStepDone_keeps (s : State) (hn : n < 8) (us : Nat) : let t := bankStepDone s n us
    t.banks = (stepDone s n).banks ∧ t.mem = (stepDone s n).mem ∧ rd t (R.BNK_STAT n) = rd (stepDone s n) (R.BNK_STAT n)
    ∧ t.ops = (bankAnswered s n us).ops := by
  obtain ⟨hbanks, hmem, hregs⟩ := bankAnswered_keeps s n us
  have hrd : rd (bankAnswered s n us) (R.BNK_STAT n) = rd (stepDone s n) (R.BNK_STAT n) := by unfold rd; rw [hregs]
  have hmade := releaseHolder_made (Nat.or_self _) (bankAnswered s n us) (12 + n) 7 (.refl ..)
  have hstep := releaseHolder_step (s := bankAnswered s n us) (d := 12 + n) (by omega) 7
  dsimp only
  rw [bankStepDone_eq]
  split
  · exact ⟨(hmade.banks rfl).trans hbanks, (hmade.mem rfl).trans hmem, (hstep.rd_eq _ (bankStat_fenceRegs hn)).trans hrd, hmade.ops rfl⟩
  · exact ⟨hbanks, hmem, hrd, rfl⟩

theorem bankAnswered_returns {tag : Nat} {o : Op} (us : Nat) (hfor : (bank s n).forOp = some tag) (ho : opOf s tag = some o) :
    retOf (bankAnswered s n us) tag = some ⟨0, w32 ((bank s n).before + 4 * (bank s n).target), w32 us⟩ := by
  have hops : (stepDone s n).ops = s.ops := (stepDone_made (Nat.or_self _) s n (.refl ..)).ops rfl
  have htag : o.tag = tag := by simpa using List.find?_some ho
  have hfound : opOf (stepDone s n) tag = some o := (opOf_congr hops tag).trans ho
  unfold bankAnswered
  rw [hfor, Option.bind_some, hfound]
  subst htag
  exact retOf_giveRet _ hfound

/-- BANK_POWER_STEP_DONE without a handover: the bank is in its target state, and its operation returns. -/
theorem bankPowerStepDone_does (n : Fin 8) (us : Nat) (hst : (bank s n).st = 3) (ht : (bank s n).target < 3) (hho : s.ho = none) :
    Does (.bankPowerStepDone n us) s (fun t => (bank t n).st = (bank s n).target ∧ getf t (F.BNK_STAT_STATE n) = (bank s n).target
      ∧ ((bank s n).target ≠ 0 → (bank s n).before ≠ 0 → t.mem = s.mem)
      ∧ ∀ tag o, (bank s n).forOp = some tag → opOf s tag = some o →
        retOf t tag = some ⟨0, w32 ((bank s n).before + 4 * (bank s n).target), w32 us⟩) := by
  have hexec : exec (.bankPowerStepDone n us) s = .next (bankStepDone s n us) := by
    have hnone : (bankStepDone s n us).ho = none := ((bankStepDone_made (Nat.or_self _) s n us (.refl ..)).ho rfl).trans hho
    show execBankPowerStepDone n us s = _
    unfold execBankPowerStepDone
    rw [if_neg (not_not_intro hst)]
    dsimp only
    rw [hnone]
  obtain ⟨hbanks, hmem, hstat, hops⟩ := bankStepDone_keeps s n.isLt us
  refine ⟨_, hexec, ?_, (getf_congr hstat).trans (stepDone_shows s n ht), fun h0 hb => hmem.trans (stepDone_mem s n h0 hb), fun tag o hfor ho => ?_⟩
  · rw [← stepDone_st s n]
    unfold bank
    rw [hbanks]
  · rw [← bankAnswered_returns us hfor ho]
    unfold retOf
    rw [opOf_congr hops]

/-! #### CFG_BOOT_SEL -/

theorem cfgBootSel_wrongKey {key : Nat} (p : Fin 2) (hkey : key ≠ 0x0B5E) : exec (.cfgBootSel key p) s = .next s := if_pos (.inl hkey)

theorem exec_cfgBootSel (p : Fin 2) (haway : regAway s R.CFG_BOOT_SEL = false) : exec (.cfgBootSel 0x0B5E p) s
    = .next (if planeValid s p then setf s F.CFG_STAT_BOOT p.val else raise s F.CFG_STAT_SEL_ERR) := by
  show execCfgBootSel 0x0B5E p s = _
  unfold execCfgBootSel
  rw [if_neg (by simp [haway])]
  split <;> rfl

theorem cfgBootSel_valid (p : Fin 2) (haway : regAway s R.CFG_BOOT_SEL = false) (hvalid : planeValid s p = true) :
    Does (.cfgBootSel 0x0B5E p) s (fun t => getf t F.CFG_STAT_BOOT = p.val ∧ ∀ r, r ≠ R.CFG_STAT → rd t r = rd s r) := by
  refine ⟨_, (exec_cfgBootSel p haway).trans (congrArg _ (if_pos hvalid)), ?_, fun r hr => rd_setf_ne hr s _⟩
  exact getf_setf_fits s (by decide) p.isLt

theorem cfgBootSel_notValid (p : Fin 2) (haway : regAway s R.CFG_BOOT_SEL = false) (hvalid : planeValid s p = false) :
    Does (.cfgBootSel 0x0B5E p) s (fun t => isSet t F.CFG_STAT_SEL_ERR = true ∧ getf t F.CFG_STAT_BOOT = getf s F.CFG_STAT_BOOT) :=
  ⟨_, (exec_cfgBootSel p haway).trans (congrArg _ (if_neg (by simp [hvalid]))), isSet_raise s _ rfl (by decide), getf_setf_apart (by decide)⟩

end

/-- Settles O36: a stage's checks, its erase, its frames and its end; a handover's refusal, its fences and the two ends of its readout; the steps
of the start-up sequence, which nothing that follows them undoes; a bank's step; CFG_BOOT_SEL. -/
theorem stagingAndHandover : Obligations.StagingAndHandover := by
  unfold Obligations.StagingAndHandover
  intro s
  refine ⟨fun tag o hdr ho => ⟨cfgStage_range hdr ho, fun hactive hrange hw hkind h => cfgStage_begins hdr ho hactive hrange hw hkind h⟩,
    fun g hg => ⟨cfgStageEraseDone_does hg, fun o got ho hph hserved hmore => ⟨cfgStageFrame_good hg ho got hph hserved hmore,
      cfgStageFrame_missing hg ho got hph hserved hmore⟩, fun o ho => cfgStageReadbackDone_does hg ho⟩,
    fun tag o ho => ⟨cfgHandover_refused ho, cfgHandover_begins ho⟩,
    fun h hho => ⟨regionsPoweredDown_does hho, fun glob hstep hback hp => ⟨readoutDone_good hho hstep hback glob hp,
      readoutDone_bad hho hstep hback glob hp⟩⟩,
    fun hho => ⟨fun h => ⟨startupLockDone_does h, startupLockTimeout_does h⟩, fun k => startupStepDone_does,
      fun i hph => startupDelayExpiry_does hho hph⟩,
    bankPowerStepDone_does,
    fun p key haway => ⟨cfgBootSel_wrongKey p, cfgBootSel_valid p haway, cfgBootSel_notValid p haway⟩⟩

end Sys2Proof.Machine

/-! ### The depot serves one request (R179, R183, R187) -/
namespace Sys2Proof.Machine

section
variable {s t v : State} {j : Job} {fg : Bool} {o : Op}

/-! #### A request that comes to an idle depot -/

/-- The request is the only foreground one. -/
def jobAlone (s : State) (j : Job) : State := setDep s { s.dep with jobs := [j] }

theorem serveJobs_waits {l : List Job} (n : Nat) (hjobs : s.dep.jobs = j :: l) (h : ¬(j.kind = 5 ∧ j.st = 0)) :
    serveJobs s (n + 1) = setf s F.DEP_STAT_OP j.kind := by
  unfold serveJobs
  rw [hjobs]
  exact if_neg h

theorem serveJobs_empty (n : Nat) (hjobs : s.dep.jobs = []) : serveJobs s (n + 1) = setf s F.DEP_STAT_OP (s.dep.bg.elim 0 (·.kind)) := by
  unfold serveJobs
  rw [hjobs]

theorem addJob_idle (h : depotIdle s) (j : Job) : addJob s j = serveJobs (jobAlone s j) 2 := by
  obtain ⟨hjobs, hbg⟩ := h
  unfold addJob jobAlone
  simp only [hbg, hjobs]
  rfl

/-- A request that waits for the flash, or for its first act, is shown in DEP_STAT.OP. -/
theorem addJob_idle_waits (h : depotIdle s) (hkind : j.kind ≠ 5) : addJob s j = setf (jobAlone s j) F.DEP_STAT_OP j.kind := by
  rw [addJob_idle h]
  exact serveJobs_waits 1 rfl (fun hw => hkind hw.1)

/-- A write begins to be served. -/
theorem addJob_idle_write (h : depotIdle s) (hkind : j.kind = 5) (hst : j.st = 0) :
    addJob s j = serveJobs (runJob (jobAlone s j) true j (jobFuel j)) 1 := by
  rw [addJob_idle h]
  exact if_pos ⟨hkind, hst⟩

/-! #### The request that the flash works for -/

theorem putJob_frame (s : State) (fg : Bool) (j : Job) :
    putJob s fg j = { setf s F.DEP_STAT_OP j.kind with dep := (putJob s fg j).dep } := by cases fg <;> rfl

theorem putJob_op (s : State) (fg : Bool) (j : Job) (h : j.kind < 8) : getf (putJob s fg j) F.DEP_STAT_OP = j.kind := by
  rw [putJob_frame]
  exact getf_setf_fits s (by decide) h

theorem rd_putJob {r : Nat} (h : r ≠ R.DEP_STAT) (s : State) (fg : Bool) (j : Job) : rd (putJob s fg j) r = rd s r := by
  rw [putJob_frame]
  exact rd_setf_ne h s _

/-- What the flash is asked goes out on its pins. -/
theorem flashCmd_out (h : tapOwns s = false) (op a : Nat) (d : List Byte) : (flashCmd s op a d).out = s.out ++ [.flash op a d] :=
  emit_out _ _ (by rw [h]; rfl)

/-- The erase of sector `k` is counted in the directory (R183). -/
def eraseCounted (s : State) (k : Nat) : State :=
  setDir s { s.dep.dir with ecnt := sput k (min 0xFFFFFFFF ((sget k s.dep.dir.ecnt).getD 0 + 1)) s.dep.dir.ecnt }

/-- The request while sector `k` is erased for `data`. -/
def eraseJob (j : Job) (k : Nat) (data : List Byte) : Job :=
  { j with st := 1, sector := k, data := data, erased := j.erased + (if 2 ≤ k then 1 else 0) }

theorem beginErase_eq (s : State) (fg : Bool) (j : Job) (k : Nat) (data : List Byte) :
    beginErase s fg j k data = putJob (flashCmd (eraseCounted s k) 1 (k * 0x10000) []) fg (eraseJob j k data) := rfl

theorem beginErase_out (h : tapOwns s = false) (j : Job) (k : Nat) (data : List Byte) :
    (beginErase s fg j k data).out = s.out ++ [.flash 1 (k * 0x10000) []] := by
  rw [beginErase_eq, putJob_frame]
  exact flashCmd_out h ..

theorem beginErase_dep (s : State) (fg : Bool) (j : Job) (k : Nat) (data : List Byte) : (beginErase s fg j k data).dep
    = if fg then { (eraseCounted s k).dep with jobs := eraseJob j k data :: s.dep.jobs.drop 1 }
      else { (eraseCounted s k).dep with bg := some (eraseJob j k data) } := by cases fg <;> rfl

/-! #### The first act of a request -/

/-- The directory takes its next GEN, and the sector of the copy to be written is erased (R177). -/
def dirBegun (s : State) (fg : Bool) (j : Job) : State :=
  let u := beginErase (setDir s { s.dep.dir with gen := s.dep.dir.gen + 1 }) fg j (dirTarget s) []
  putJob u fg { j with st := 1, sector := dirTarget s, data := dirBytes u.dep.dir }

theorem runJob_dir {l : List Act} (n : Nat) (htodo : j.todo = .dir :: l) : runJob s fg j (n + 1) = dirBegun s fg j := by
  cases j
  subst htodo
  rfl

/-- A slot's words are set in the directory. -/
def slotSet (s : State) (i : Nat) (w0 w1 : W32) : State := setDir s { s.dep.dir with slots := s.dep.dir.slots.set i (w0, w1) }

theorem runJob_slot {l : List Act} {i : Nat} {w0 w1 : W32} (n : Nat) (htodo : j.todo = .slot i w0 w1 :: l) : runJob s fg j (n + 1)
    = runJob (slotSet s i w0 w1) fg { j with todo := l } n := by
  cases j
  subst htodo
  rfl

theorem runJob_eraseDir {l : List Act} {k : Nat} (n : Nat) (htodo : j.todo = .eraseDir k :: l) : runJob s fg j (n + 1)
    = beginErase s fg { j with erased := j.erased + 1 } k [] := by
  cases j
  subst htodo
  rfl

theorem runJob_refresh {l : List Act} {i k : Nat} (n : Nat) (htodo : j.todo = .refresh i k :: l) : runJob s fg j (n + 1)
    = beginErase s fg j k (flashRead s (k * 0x10000) 0x10000) := by
  cases j
  subst htodo
  rfl

theorem runJob_write {l : List Act} {i pos k : Nat} {d : List Byte} (n : Nat) (htodo : j.todo = .write i pos d :: l)
    (hk : (spanGood s i)[pos]? = some k) (hworn : worn s k = false) : runJob s fg j (n + 1) = beginErase s fg j k d := by
  cases j
  subst htodo
  unfold runJob
  dsimp only
  rw [hk]
  exact if_neg (by rw [hworn]; decide)

/-- A sector of a slot with bytes put in. -/
def sectorMerged (s : State) (slot off : Nat) (d : List Byte) : List Byte :=
  let old := spanRead s slot (off / 0x10000 * 0x10000) 0x10000
  old.take (off % 0x10000) ++ d ++ old.drop (off % 0x10000 + d.length)

theorem runJob_merge {l : List Act} {i off : Nat} {d : List Byte} (n : Nat) (htodo : j.todo = .merge i off d :: l) : runJob s fg j (n + 1)
    = runJob s fg { j with todo := .write i (off / 0x10000) (sectorMerged s i off d) :: l } n := by
  cases j
  subst htodo
  rfl

/-! #### A write has begun -/

/-- The operation with `tag` is being served: it has started, and neither the flash nor the banks have changed. -/
def opTaken (s : State) (tag : Nat) (t : State) : Prop := (opOf t tag).map (·.started) = some true ∧ t.flash = s.flash ∧ t.mem = s.mem

/-- The write with `tag` is the request that is served, and the erase of sector `k` has begun. -/
def writeBegun (s : State) (tag : Nat) (t : State) (k : Nat) : Prop :=
  getf t F.DEP_STAT_OP = 5 ∧ .flash 1 (k * 0x10000) [] ∈ t.out ∧ opTaken s tag t ∧ ∃ j, t.dep.jobs = [j] ∧ j.op = some tag ∧ j.st = 1 ∧ j.sector = k

/-- The manager has taken up the operation. -/
def opBegun (s : State) (o : Op) : State := setOp s { o with started := true }

theorem opTaken_of_ops (hop : opOf s o.tag = some o) (hops : t.ops = (opBegun s o).ops) (hflash : t.flash = s.flash) (hmem : t.mem = s.mem) :
    opTaken s o.tag t := by
  refine ⟨?_, hflash, hmem⟩
  rw [opOf_congr hops]
  have hset : opOf (opBegun s o) o.tag = some { o with started := true } := opOf_setOp (x := { o with started := true }) hop
  rw [hset]
  rfl

/-- State `v` is that of the depot in which the write of `o` came, but for the registers, the outputs and the depot's own state. -/
structure WriteServed (s : State) (o : Op) (v : State) : Prop where
  ops_eq : v.ops = (opBegun s o).ops
  flash_eq : v.flash = s.flash
  mem_eq : v.mem = s.mem
  tap_eq : v.tap = s.tap
  alone : v.dep.jobs.drop 1 = []

theorem WriteServed.tapOwns_eq (h : WriteServed s o v) : tapOwns v = tapOwns s := by unfold tapOwns; rw [h.tap_eq]

theorem writeServed_putJob (h : WriteServed s o v) (j : Job) : WriteServed s o (putJob v true j) := ⟨h.1, h.2, h.3, h.4, h.5⟩

theorem writeServed_beginErase (h : WriteServed s o v) (j : Job) (k : Nat) (d : List Byte) : WriteServed s o (beginErase v true j k d) := by
  have hmade := beginErase_made (Nat.or_self _) v true j k d (.refl ..)
  exact ⟨(hmade.ops rfl).trans h.1, (hmade.flash rfl).trans h.2, (hmade.mem rfl).trans h.3, (hmade.tap rfl).trans h.4, h.5⟩

theorem writeBegun_putJob (hop : opOf s o.tag = some o) (h : WriteServed s o v) {k : Nat} (hout : .flash 1 (k * 0x10000) [] ∈ v.out)
    (hj : j.op = some o.tag) (hkind : j.kind = 5) (hst : j.st = 1) (hk : j.sector = k) :
    writeBegun s o.tag (serveJobs (putJob v true j) 1) k := by
  have hjobs : (putJob v true j).dep.jobs = j :: v.dep.jobs.drop 1 := rfl
  have hserved := writeServed_putJob h j
  rw [serveJobs_waits 0 hjobs (by simp [hst]), hkind]
  exact ⟨getf_setf_fits _ (by decide) (by decide), hout, opTaken_of_ops hop hserved.ops_eq hserved.flash_eq hserved.mem_eq, j,
    hjobs.trans (by rw [h.alone]), hj, hst, hk⟩

theorem writeBegun_erase (hop : opOf s o.tag = some o) (htap : tapOwns s = false) (h : WriteServed s o v) (hj : j.op = some o.tag)
    (hkind : j.kind = 5) (k : Nat) (d : List Byte) : writeBegun s o.tag (serveJobs (beginErase v true j k d) 1) k := by
  have hserved : WriteServed s o (flashCmd (eraseCounted v k) 1 (k * 0x10000) []) := ⟨h.1, h.2, h.3, h.4, h.5⟩
  refine writeBegun_putJob hop hserved ?_ (j := eraseJob j k d) hj hkind rfl rfl
  have hcounted : tapOwns (eraseCounted v k) = false := h.tapOwns_eq.trans htap
  rw [flashCmd_out hcounted]
  simp

theorem writeBegun_dir (hop : opOf s o.tag = some o) (htap : tapOwns s = false) (h : WriteServed s o v) (hj : j.op = some o.tag)
    (hkind : j.kind = 5) : writeBegun s o.tag (serveJobs (dirBegun v true j) 1) (dirTarget v) := by
  have hgen : WriteServed s o (setDir v { v.dep.dir with gen := v.dep.dir.gen + 1 }) := ⟨h.1, h.2, h.3, h.4, h.5⟩
  refine writeBegun_putJob hop (writeServed_beginErase hgen _ _ _) ?_ (j := { j with st := 1, sector := dirTarget v, data := _ }) hj hkind rfl rfl
  rw [beginErase_out (hgen.tapOwns_eq.trans htap)]
  simp

theorem serveJobs_dirBegun (v : State) (j : Job) : serveJobs (dirBegun v true j) 1 = setf (dirBegun v true j) F.DEP_STAT_OP j.kind :=
  serveJobs_waits (j := { j with st := 1, sector := dirTarget v, data := _ }) 0 rfl fun h => absurd h.2 Nat.one_ne_zero

/-- The directory to be written is the one in use, with its next GEN. -/
theorem dirBegun_dir (v : State) (fg : Bool) (j : Job) : (dirBegun v fg j).dep.dir.slots = v.dep.dir.slots
    ∧ (dirBegun v fg j).dep.dir.gen = v.dep.dir.gen + 1 ∧ (dirBegun v fg j).dep.dir.bad = v.dep.dir.bad := by
  cases fg <;> exact ⟨rfl, rfl, rfl⟩

end

end Sys2Proof.Machine

/-! ### DEP_WRITE and DEP_READ (R179, R180, R184 to R187), and O37 -/
namespace Sys2Proof.Machine

section
variable {s t v : State} {j : Job} {o : Op} {tag : Nat}

/-! #### Bytes of a slot's sector -/

theorem length_flashRead (s : State) (a n : Nat) : (flashRead s a n).length = n := by
  induction n generalizing a with
  | zero => rfl
  | succ n ih => exact congrArg Nat.succ (ih (a + 1))

theorem getD_flashRead (s : State) (a : Nat) {n x : Nat} (h : x < n) : (flashRead s a n).getD x 0#8 = flashByte s (a + x) := by
  induction n generalizing a x with
  | zero => omega
  | succ n ih =>
    cases x with
    | zero => rfl
    | succ x =>
      have hrest := ih (a + 1) (x := x) (by omega)
      rw [Nat.add_assoc, Nat.add_comm 1 x] at hrest
      exact hrest

/-- Within one good sector the bytes of a slot lie in a row (R179). -/
theorem spanRead_sector {i k f : Nat} (hf : (spanGood s i)[k]? = some f) {x n : Nat} (h : x + n ≤ 0x10000) :
    spanRead s i (k * 0x10000 + x) n = flashRead s (f * 0x10000 + x) n := by
  induction n generalizing x with
  | zero => rfl
  | succ n ih =>
    have hsector : (k * 0x10000 + x) / 0x10000 = k := by omega
    have hoff : (k * 0x10000 + x) % 0x10000 = x := by omega
    have haddr : spanAddr s i (k * 0x10000 + x) = some (f * 0x10000 + x) := by unfold spanAddr; rw [hsector, hoff, hf]; rfl
    have hrest := ih (x := x + 1) (by omega)
    rw [← Nat.add_assoc, ← Nat.add_assoc] at hrest
    unfold spanRead flashRead
    rw [haddr, ← hrest]

/-- A span's good sectors follow from the directory and the tag spans. -/
theorem spanGood_congr (hdir : t.dep.dir = s.dep.dir) (htags : ∀ r, rd t (R.SCR_RNG_TAG r) = rd s (R.SCR_RNG_TAG r)) (i : Nat) :
    spanGood t i = spanGood s i := by
  have hfirst := getf_congr (f := F.SCR_RNG_TAG_TAG_FIRST (i - 8)) (htags (i - 8))
  have hspan := getf_congr (f := F.SCR_RNG_TAG_TAG_SPAN (i - 8)) (htags (i - 8))
  unfold spanGood spanOf slotW0
  rw [hdir, hfirst, hspan]

theorem rd_congr (hregs : t.regs = s.regs) (r : Nat) : rd t r = rd s r := by unfold rd; rw [hregs]

theorem flashByte_congr (hflash : t.flash = s.flash) (hfill : t.flashFill = s.flashFill) (a : Nat) : flashByte t a = flashByte s a := by
  unfold flashByte
  rw [hflash, hfill]

theorem flashRead_congr (hflash : t.flash = s.flash) (hfill : t.flashFill = s.flashFill) (a n : Nat) : flashRead t a n = flashRead s a n := by
  induction n generalizing a with
  | zero => rfl
  | succ n ih => exact congrArg₂ List.cons (flashByte_congr hflash hfill a) (ih (a + 1))

theorem spanRead_congr (hdir : t.dep.dir = s.dep.dir) (hregs : t.regs = s.regs) (hflash : t.flash = s.flash) (hfill : t.flashFill = s.flashFill)
    (i x n : Nat) : spanRead t i x n = spanRead s i x n := by
  induction n generalizing x with
  | zero => rfl
  | succ n ih =>
    have haddr : spanAddr t i x = spanAddr s i x := by unfold spanAddr; rw [spanGood_congr hdir fun r => rd_congr hregs _]
    unfold spanRead
    rw [haddr, ih]
    cases spanAddr s i x with
    | none => rfl
    | some a => exact congrArg (· :: _) (flashByte_congr hflash hfill a)

/-- The bytes of a write at `off` that lie in its first sector. -/
def firstPiece (off : Nat) (d : List Byte) : List Byte := d.take (min d.length (0x10000 - off % 0x10000))

/-- The bytes that fit in the sector replace what stands there; the sector keeps the rest. -/
theorem sectorMerged_getD {i f off : Nat} (hf : (spanGood s i)[off / 0x10000]? = some f) (d : List Byte) {x : Nat} (hx : x < 0x10000) :
    (sectorMerged s i off (firstPiece off d)).getD x 0#8
      = if off % 0x10000 ≤ x ∧ x < off % 0x10000 + d.length then d.getD (x - off % 0x10000) 0#8 else flashByte s (f * 0x10000 + x) := by
  have hold := spanRead_sector hf (x := 0) (n := 0x10000) (by omega)
  rw [Nat.add_zero, Nat.add_zero] at hold
  have hlen := length_flashRead s (f * 0x10000) 0x10000
  have hbyte := getD_flashRead s (f * 0x10000) hx
  have hoff : off % 0x10000 < 0x10000 := Nat.mod_lt _ (by decide)
  unfold sectorMerged firstPiece
  rw [hold]
  generalize flashRead s (f * 0x10000) 0x10000 = old at hlen hbyte ⊢
  generalize off % 0x10000 = p at hoff ⊢
  rw [← hbyte]
  simp only [List.getD_eq_getElem?_getD, List.getElem?_append, List.length_append, List.length_take, List.getElem?_take, List.getElem?_drop, hlen]
  by_cases hlo : x < p
  · rw [if_pos (by omega), if_pos (by omega), if_pos hlo, if_neg (by omega)]
  · by_cases hhi : x < p + d.length
    · rw [if_pos (by omega), if_neg (by omega), if_pos (by omega), if_pos (by omega), Nat.min_eq_left (by omega)]
    · rw [if_neg (by omega), if_neg (by omega)]
      congr 2
      omega

/-! #### The descriptor -/

theorem depOp_op {code mode : Nat} (h : depOp s tag code mode = some o) : o.tag = tag ∧ opOf s o.tag = some o := by
  unfold depOp at h
  split at h
  case h_1 x hx =>
    obtain ⟨-, hx'⟩ := Option.ite_none_right_eq_some.1 h
    obtain rfl := Option.some.inj hx'
    have htag : x.tag = tag := by simpa using List.find?_some (p := fun q : Op => q.tag == tag) hx
    exact ⟨htag, htag ▸ hx⟩
  case h_2 => cases h

/-- A refusal is the operation's return, and nothing else. -/
theorem depRefuse_ends {code mode st : Nat} {i : Instr} (ho : depOp s tag code mode = some o) (hexec : exec i s = depRefuse s o st) :
    EndsOp i s o ⟨st, 0#32, 0#32⟩ := giveRet_endsOp (depOp_op ho).2 hexec

/-- The request of a write. -/
def writeJob (o : Op) (todo : List Act) (i : Nat) : Job := { kind := 5, op := some o.tag, slot := i, todo := todo }

/-- The depot with the request of a write alone. -/
def writeTaken (s : State) (o : Op) (todo : List Act) (i : Nat) : State := jobAlone (opBegun s o) (writeJob o todo i)

theorem writeTaken_served (s : State) (o : Op) (todo : List Act) (i : Nat) : WriteServed s o (writeTaken s o todo i) := ⟨rfl, rfl, rfl, rfl, rfl⟩

/-- On an idle depot a write is served until its first erase. -/
theorem depTake_idle (h : depotIdle s) (o : Op) (todo : List Act) (i : Nat) : depTake s o todo i
    = .next (serveJobs (runJob (writeTaken s o todo i) true (writeJob o todo i) (todo.length + 4)) 1) :=
  congrArg Host.Outcome.next (addJob_idle_write (s := opBegun s o) h rfl rfl)

/-- On an idle depot a write that changes a slot's entry is served until the erase of the directory's other copy. -/
theorem slotThenDir_does {c : Instr} {l : List Act} {i : Nat} {w : W32} (hop : opOf s o.tag = some o) (hidle : depotIdle s) (htap : tapOwns s = false)
    (hexec : exec c s = depTake s o (.slot i w 0#32 :: .dir :: l) i) : Does c s (fun t => writeBegun s o.tag t (dirTarget s)
      ∧ t.dep.dir.slots = s.dep.dir.slots.set i (w, 0#32) ∧ t.dep.dir.gen = s.dep.dir.gen + 1) := by
  generalize hu : writeTaken s o (.slot i w 0#32 :: .dir :: l) i = u at *
  generalize hv : slotSet u i w 0#32 = v
  have hrun : runJob u true (writeJob o (.slot i w 0#32 :: .dir :: l) i) (l.length + 2 + 4) = dirBegun v true (writeJob o (.dir :: l) i) :=
    ((runJob_slot (l.length + 5) rfl).trans (by rw [hv]; rfl)).trans (runJob_dir (l.length + 4) rfl)
  have hnext : exec c s = .next (serveJobs (dirBegun v true (writeJob o (.dir :: l) i)) 1) := by
    rw [hexec, depTake_idle hidle, hu]
    exact congrArg (fun u => Host.Outcome.next (serveJobs u 1)) hrun
  have hserved : WriteServed s o v := by subst hv hu; exact ⟨rfl, rfl, rfl, rfl, rfl⟩
  have htarget : dirTarget v = dirTarget s := by subst hv hu; rfl
  have hdir : v.dep.dir.slots = s.dep.dir.slots.set i (w, 0#32) ∧ v.dep.dir.gen = s.dep.dir.gen := by subst hv hu; exact ⟨rfl, rfl⟩
  obtain ⟨hslots, hgen, -⟩ := dirBegun_dir v true (writeJob o (.dir :: l) i)
  refine ⟨_, hnext, htarget ▸ writeBegun_dir hop htap hserved rfl rfl, ?_⟩
  rw [serveJobs_dirBegun]
  exact ⟨hslots.trans hdir.1, hgen.trans (congrArg (· + 1) hdir.2)⟩

theorem slotLen_cleared {i : Nat} {w : W32} (hslots : t.dep.dir.slots = s.dep.dir.slots.set i (w, 0#32)) : slotLen t i = 0 := by
  unfold slotLen
  rw [hslots, List.getD_eq_getElem?_getD, List.getElem?_set]
  by_cases hi : i < s.dep.dir.slots.length <;> simp [hi]

/-- A write that has begun an erase waits for it. -/
theorem serveJobs_erase (v : State) (j : Job) (k : Nat) (d : List Byte) :
    serveJobs (beginErase v true j k d) 1 = setf (beginErase v true j k d) F.DEP_STAT_OP j.kind :=
  serveJobs_waits (j := eraseJob j k d) 0 rfl fun h => absurd h.2 Nat.one_ne_zero

theorem sectorMerged_congr (hdir : t.dep.dir = s.dep.dir) (hregs : t.regs = s.regs) (hflash : t.flash = s.flash) (hfill : t.flashFill = s.flashFill)
    (i off : Nat) (d : List Byte) : sectorMerged t i off d = sectorMerged s i off d := by
  unfold sectorMerged
  rw [spanRead_congr hdir hregs hflash hfill]

/-- A merge into a good sector whose erase count leaves room begins with the erase of the sector. -/
theorem runJob_mergeFirst {i off f : Nat} {d : List Byte} {l : List Act} (n : Nat) (htodo : j.todo = .merge i off d :: l)
    (hf : (spanGood v i)[off / 0x10000]? = some f) (hgood : v.dep.dir.eraseLimit = 0 ∨ (sget f v.dep.dir.ecnt).getD 0 < v.dep.dir.eraseLimit) :
    runJob v true j (n + 2) = beginErase v true { j with todo := .write i (off / 0x10000) (sectorMerged v i off d) :: l } f (sectorMerged v i off d) := by
  refine (runJob_merge (n + 1) htodo).trans (runJob_write n rfl hf ?_)
  unfold worn
  rw [Bool.and_eq_false_iff, decide_eq_false_iff_not, decide_eq_false_iff_not]
  omega

/-! #### DEP_WRITE_IMAGE -/

section
variable (ho : depOp s tag 0x78 0 = some o) (got : ReadEnd)
include ho

theorem depWriteImage_range (h : depotUsable s = false ∨ slKind (slotW0 s (dpSlot o)) = 0 ∨ 3 < slKind (slotW0 s (dpSlot o))) :
    EndsOp (.depWriteImage tag got) s o ⟨0x14, 0#32, 0#32⟩ := by
  refine depRefuse_ends ho ?_
  show execDepWriteImage tag got s = _
  unfold execDepWriteImage
  rw [ho]
  exact if_pos (h.imp_right (by omega))

theorem depWriteImage_protected (hu : depotUsable s = true) (hk : slKind (slotW0 s (dpSlot o)) = 2) (hfree : depotFree s = false) :
    EndsOp (.depWriteImage tag got) s o ⟨0x13, 0#32, 0#32⟩ := by
  refine depRefuse_ends ho ?_
  show execDepWriteImage tag got s = _
  unfold execDepWriteImage
  rw [ho]
  dsimp only
  rw [if_neg (by simp [hu, hk]), if_pos ⟨hk, hfree⟩]

section
variable (hu : depotUsable s = true) (h1 : 1 ≤ slKind (slotW0 s (dpSlot o))) (h3 : slKind (slotW0 s (dpSlot o)) ≤ 3)
  (hfree : slKind (slotW0 s (dpSlot o)) ≠ 2 ∨ depotFree s = true)
include hu h1 h3 hfree

theorem depWriteImage_source {e : Nat} (hd : depData s o got = .error e) : EndsOp (.depWriteImage tag got) s o ⟨e, 0#32, 0#32⟩ := by
  refine depRefuse_ends ho ?_
  show execDepWriteImage tag got s = _
  unfold execDepWriteImage
  rw [ho]
  dsimp only
  rw [if_neg (by simp [hu, h1, h3]), if_neg (by rintro ⟨hk, hf⟩; simp [hk, hf] at hfree), hd]

theorem depWriteImage_header {d : List Byte} (hd : depData s o got = .ok d) (hk : slKind (slotW0 s (dpSlot o)) ≠ 3) (hh : headerErr true d = true) :
    EndsOp (.depWriteImage tag got) s o ⟨0x14, 0#32, 0#32⟩ := by
  refine depRefuse_ends ho ?_
  show execDepWriteImage tag got s = _
  unfold execDepWriteImage
  rw [ho]
  dsimp only
  rw [if_neg (by simp [hu, h1, h3]), if_neg (by rintro ⟨hk, hf⟩; simp [hk, hf] at hfree), hd]
  dsimp only
  rw [if_neg hk, hh]
  rfl

/-- What an image write does after its directory shows LENGTH 0: its sectors, the read back, and the directory with its length. -/
def imageActs (s : State) (i : Nat) (d : List Byte) : List Act :=
  (List.range (sectorPieces d (sectorsOf d.length)).length).map (fun p => Act.write i p ((sectorPieces d (sectorsOf d.length)).getD p []))
    ++ [.verify i d.length, .slot i (slotW0 s i) (w32 d.length), .dir]

theorem exec_depWriteImage {d : List Byte} (hd : depData s o got = .ok d) (hk : slKind (slotW0 s (dpSlot o)) ≠ 3) (hh : headerErr true d = false) :
    exec (.depWriteImage tag got) s
      = depTake s o (.slot (dpSlot o) (slotW0 s (dpSlot o)) 0#32 :: .dir :: imageActs s (dpSlot o) d) (dpSlot o) := by
  show execDepWriteImage tag got s = _
  unfold execDepWriteImage
  rw [ho]
  dsimp only
  rw [if_neg (by simp [hu, h1, h3]), if_neg (by rintro ⟨hk, hf⟩; simp [hk, hf] at hfree), hd]
  dsimp only
  rw [if_neg hk, hh]
  rfl

theorem depWriteImage_begins {d : List Byte} (hd : depData s o got = .ok d) (hk : slKind (slotW0 s (dpSlot o)) ≠ 3) (hh : headerErr true d = false)
    (hidle : depotIdle s) (htap : tapOwns s = false) : Does (.depWriteImage tag got) s (fun t => writeBegun s tag t (dirTarget s)
      ∧ slotLen t (dpSlot o) = 0 ∧ t.dep.dir.gen = s.dep.dir.gen + 1) := by
  obtain ⟨t, hexec, hbegun, hslots, hgen⟩ := slotThenDir_does (depOp_op ho).2 hidle htap (exec_depWriteImage ho got hu h1 h3 hfree hd hk hh)
  exact ⟨t, hexec, (depOp_op ho).1 ▸ hbegun, slotLen_cleared hslots, hgen⟩

end

end

/-! #### DEP_WRITE_DATA -/

section
variable (ho : depOp s tag 0x78 1 = some o) (got : ReadEnd)
include ho

theorem depWriteData_range (h : depotUsable s = false ∨ slKind (slotW0 s (dpSlot o)) < 4 ∨ 5 < slKind (slotW0 s (dpSlot o))
    ∨ slotCap s (dpSlot o) < dpArg o + dLength o.words) : EndsOp (.depWriteData tag got) s o ⟨0x14, 0#32, 0#32⟩ := by
  refine depRefuse_ends ho ?_
  show execDepWriteData tag got s = _
  unfold execDepWriteData
  rw [ho]
  exact if_pos (h.imp_right (by omega))

omit ho in
theorem dataActs_merge (i off : Nat) {d : List Byte} (hd : d ≠ []) (n : Nat) : ∃ l, dataActs 4 i off d (n + 1) = .merge i off (firstPiece off d) :: l := by
  rw [dataActs, if_neg hd]
  exact ⟨_, rfl⟩

theorem exec_depWriteData (hu : depotUsable s = true) (hk : slKind (slotW0 s (dpSlot o)) = 4)
    (hcap : dpArg o + dLength o.words ≤ slotCap s (dpSlot o)) {d : List Byte} (hd : depData s o got = .ok d) (hne : d ≠ []) : ∃ l,
    exec (.depWriteData tag got) s = depTake s o (.merge (dpSlot o) (dpArg o) (firstPiece (dpArg o) d) :: l) (dpSlot o) := by
  obtain ⟨l, hacts⟩ := dataActs_merge (dpSlot o) (dpArg o) hne (sectorsOf d.length + 1)
  refine ⟨l ++ [.dir], ?_⟩
  show execDepWriteData tag got s = _
  unfold execDepWriteData
  rw [ho]
  dsimp only
  rw [if_neg (by simp [hu, hk]; omega), if_neg (by simp [hk]), hd, hk]
  dsimp only
  rw [hacts]
  rfl

theorem depWriteData_begins (hu : depotUsable s = true) (hk : slKind (slotW0 s (dpSlot o)) = 4)
    (hcap : dpArg o + dLength o.words ≤ slotCap s (dpSlot o)) {d : List Byte} (hd : depData s o got = .ok d) (hne : d ≠ []) (hidle : depotIdle s)
    (htap : tapOwns s = false) {f : Nat} (hf : (spanGood s (dpSlot o))[dpArg o / 0x10000]? = some f)
    (hgood : s.dep.dir.eraseLimit = 0 ∨ (sget f s.dep.dir.ecnt).getD 0 < s.dep.dir.eraseLimit) :
    Does (.depWriteData tag got) s (fun t => writeBegun s tag t f ∧ ∀ x < 0x10000, ((t.dep.jobs.head?.map (·.data)).getD []).getD x 0#8 =
      (if dpArg o % 0x10000 ≤ x ∧ x < dpArg o % 0x10000 + d.length then d.getD (x - dpArg o % 0x10000) 0#8 else flashByte s (f * 0x10000 + x))) := by
  obtain ⟨htag, hop⟩ := depOp_op ho
  obtain ⟨l, hexec⟩ := exec_depWriteData ho got hu hk hcap hd hne
  generalize hacts : (.merge (dpSlot o) (dpArg o) (firstPiece (dpArg o) d) :: l : List Act) = acts at hexec
  generalize hv : writeTaken s o acts (dpSlot o) = v
  have hserved : WriteServed s o v := hv ▸ writeTaken_served s o acts (dpSlot o)
  obtain ⟨hdir, hregs, hflash, hfill⟩ : v.dep.dir = s.dep.dir ∧ v.regs = s.regs ∧ v.flash = s.flash ∧ v.flashFill = s.flashFill := by
    subst hv
    exact ⟨rfl, rfl, rfl, rfl⟩
  have hmerged := sectorMerged_congr hdir hregs hflash hfill (dpSlot o) (dpArg o) (firstPiece (dpArg o) d)
  have hspan := spanGood_congr hdir (fun r => rd_congr hregs _) (dpSlot o)
  rw [← hspan] at hf
  rw [← hdir] at hgood
  have hrun := runJob_mergeFirst (v := v) (j := writeJob o acts (dpSlot o)) (l.length + 3) hacts.symm hf hgood
  rw [hmerged] at hrun
  have hnext : exec (.depWriteData tag got) s = .next (serveJobs (beginErase v true { writeJob o acts (dpSlot o) with
      todo := .write (dpSlot o) (dpArg o / 0x10000) (sectorMerged s (dpSlot o) (dpArg o) (firstPiece (dpArg o) d)) :: l } f
      (sectorMerged s (dpSlot o) (dpArg o) (firstPiece (dpArg o) d))) 1) := by
    rw [hexec, depTake_idle hidle, hv, ← hrun, ← hacts]
    rfl
  refine ⟨_, hnext, htag ▸ writeBegun_erase hop htap hserved rfl rfl f _, fun x hx => ?_⟩
  rw [serveJobs_erase]
  exact sectorMerged_getD (hspan ▸ hf) d hx

end

/-! #### DEP_WRITE_SLOT -/

section
variable (ho : depOp s tag 0x78 2 = some o)
include ho

theorem depWriteSlot_unusable (hu : depotUsable s = false) : EndsOp (.depWriteSlot tag) s o ⟨0x14, 0#32, 0#32⟩ := by
  refine depRefuse_ends ho ?_
  show execDepWriteSlot tag s = _
  unfold execDepWriteSlot
  rw [ho]
  exact if_pos hu

theorem depWriteSlot_protected (hu : depotUsable s = true) (hk : slKind (slotW0 s (dpSlot o)) = 2) (hfree : depotFree s = false) :
    EndsOp (.depWriteSlot tag) s o ⟨0x13, 0#32, 0#32⟩ := by
  refine depRefuse_ends ho ?_
  show execDepWriteSlot tag s = _
  unfold execDepWriteSlot
  rw [ho]
  dsimp only
  rw [if_neg (by simp [hu]), if_pos ⟨hk, hfree⟩]

theorem depWriteSlot_occupied (hu : depotUsable s = true) (hk : slKind (slotW0 s (dpSlot o)) ≠ 0) (hw : opWord o 7 ≠ 0#32)
    (hfree : slKind (slotW0 s (dpSlot o)) ≠ 2 ∨ depotFree s = true) : EndsOp (.depWriteSlot tag) s o ⟨0x14, 0#32, 0#32⟩ := by
  refine depRefuse_ends ho ?_
  show execDepWriteSlot tag s = _
  unfold execDepWriteSlot
  rw [ho]
  dsimp only
  rw [if_neg (by simp [hu]), if_neg (by rintro ⟨hk2, hf⟩; simp [hk2, hf] at hfree), if_pos (.inr (.inl ⟨hk, hw⟩))]

/-- Without a bound range no range names a slot, and no tag span is met. -/
theorem exec_depWriteSlot (hu : depotUsable s = true) (hk : slKind (slotW0 s (dpSlot o)) = 0)
    (hok : slotsOk s.dep.dir.sectors (s.dep.dir.slots.set (dpSlot o) (opWord o 7, 0#32)) = true) (hfree : ∀ r < 8, rngState s r = 0) :
    exec (.depWriteSlot tag) s = depTake s o [.slot (dpSlot o) (opWord o 7) 0#32, .dir] (dpSlot o) := by
  have hnamed : (List.range 8).any (fun r => decide (rngState s r ≠ 0) && decide (rngSlot s r = dpSlot o)) = false :=
    List.any_eq_false.2 fun r hr => by simp [hfree r (List.mem_range.1 hr)]
  have hmeets (a n : Nat) : meetsTags s a n none = false := List.any_eq_false.2 fun r hr => by simp [hfree r (List.mem_range.1 hr)]
  show execDepWriteSlot tag s = _
  unfold execDepWriteSlot
  rw [ho]
  dsimp only
  rw [if_neg (by simp [hu]), if_neg (by simp [hk]), hnamed, if_neg (by simp [hok, hk, hmeets])]

theorem depWriteSlot_begins (hu : depotUsable s = true) (hk : slKind (slotW0 s (dpSlot o)) = 0)
    (hok : slotsOk s.dep.dir.sectors (s.dep.dir.slots.set (dpSlot o) (opWord o 7, 0#32)) = true) (hfree : ∀ r < 8, rngState s r = 0)
    (hidle : depotIdle s) (htap : tapOwns s = false) : Does (.depWriteSlot tag) s (fun t => writeBegun s tag t (dirTarget s)
      ∧ t.dep.dir.slots = s.dep.dir.slots.set (dpSlot o) (opWord o 7, 0#32)) := by
  obtain ⟨htag, hop⟩ := depOp_op ho
  obtain ⟨t, hexec, hbegun, hslots, -⟩ := slotThenDir_does hop hidle htap (exec_depWriteSlot ho hu hk hok hfree)
  exact ⟨t, hexec, htag ▸ hbegun, hslots⟩

end

/-! #### DEP_WRITE_FORMAT -/

section
variable (ho : depOp s tag 0x78 3 = some o)
include ho

theorem depWriteFormat_absent (hp : isSet s F.DEP_STAT_PRESENT = false) : EndsOp (.depWriteFormat tag) s o ⟨0x14, 0#32, 0#32⟩ := by
  refine depRefuse_ends ho ?_
  show execDepWriteFormat tag s = _
  unfold execDepWriteFormat
  rw [ho]
  exact if_pos hp

theorem depWriteFormat_protected (hu : depotUsable s = true) (hfree : depotFree s = false) :
    EndsOp (.depWriteFormat tag) s o ⟨0x13, 0#32, 0#32⟩ := by
  obtain ⟨hp, hf⟩ := Bool.and_eq_true_iff.1 hu
  refine depRefuse_ends ho ?_
  show execDepWriteFormat tag s = _
  unfold execDepWriteFormat
  rw [ho]
  dsimp only
  rw [if_neg (by simp [hp]), if_pos ⟨hf, hfree⟩]

/-- The default directory replaces the one in use (R180). -/
def formatted (s : State) : State := setDir s (dirDefault (getf s F.DEP_FLASH_SECTORS) s.dep.dir.gen)

theorem depWriteFormat_begins (hp : isSet s F.DEP_STAT_PRESENT = true) (hfree : isSet s F.DEP_STAT_FORMATTED = false ∨ depotFree s = true)
    (hidle : depotIdle s) (htap : tapOwns s = false) : Does (.depWriteFormat tag) s (fun t => writeBegun s tag t 0
      ∧ t.dep.dir.slots = (dirDefault (getf s F.DEP_FLASH_SECTORS) 0).slots ∧ t.dep.dir.bad = []) := by
  obtain ⟨htag, hop⟩ := depOp_op ho
  have hexec : exec (.depWriteFormat tag) s = depTake (formatted s) o [.eraseDir 0, .eraseDir 1, .dir] 0 := by
    show execDepWriteFormat tag s = _
    unfold execDepWriteFormat
    rw [ho]
    dsimp only
    rw [if_neg (by simp [hp]), if_neg (by rintro ⟨hf, hn⟩; simp [hf, hn] at hfree)]
    rfl
  have hrun := (hexec.trans (depTake_idle (s := formatted s) hidle ..)).trans
    (congrArg (fun u => Host.Outcome.next (serveJobs u 1)) (runJob_eraseDir 6 rfl))
  have hserved : WriteServed s o (writeTaken (formatted s) o [.eraseDir 0, .eraseDir 1, .dir] 0) := ⟨rfl, rfl, rfl, rfl, rfl⟩
  refine ⟨_, hrun, htag ▸ writeBegun_erase hop htap hserved rfl rfl 0 _, ?_⟩
  rw [serveJobs_erase]
  exact ⟨rfl, rfl⟩

end

/-! #### DEP_READ -/

/-- The read with `tag` is the request that is served. -/
def readBegun (s : State) (o : Op) (off : Nat) (tag : Nat) (t : State) : Prop := getf t F.DEP_STAT_OP = 4 ∧ opTaken s tag t
  ∧ t.dep.jobs = [{ kind := 4, op := some tag, slot := dpSlot o, off := off, len := dLength o.words }]

theorem depTakeRead_does {i : Instr} {code mode off : Nat} (ho : depOp s tag code mode = some o) (hidle : depotIdle s)
    (hexec : exec i s = depTakeRead s o off) : Does i s (readBegun s o off tag) := by
  obtain ⟨rfl, hop⟩ := depOp_op ho
  have hadd := addJob_idle_waits (s := opBegun s o) hidle
    (j := { kind := 4, op := some o.tag, slot := dpSlot o, off := off, len := dLength o.words }) (show (4 : Nat) ≠ 5 by decide)
  refine ⟨_, hexec.trans (congrArg Host.Outcome.next hadd), ?_, opTaken_of_ops hop rfl rfl rfl, rfl⟩
  exact getf_setf_fits _ (by decide) (show 4 < 2 ^ 3 by decide)

section
variable (ho : depOp s tag 0x79 0 = some o)
include ho

theorem depReadSlot_range (h : depotUsable s = false ∨ slKind (slotW0 s (dpSlot o)) = 0 ∨ slotCap s (dpSlot o) < dpArg o + dLength o.words
    ∨ slKind (slotW0 s (dpSlot o)) = 5 ∧ rangeServes s (dpSlot o) = false) : EndsOp (.depReadSlot tag) s o ⟨0x14, 0#32, 0#32⟩ := by
  refine depRefuse_ends ho ?_
  show execDepReadSlot tag s = _
  unfold execDepReadSlot
  rw [ho]
  exact if_pos h

theorem depReadSlot_begins (hu : depotUsable s = true) (hk : slKind (slotW0 s (dpSlot o)) ≠ 0)
    (hcap : dpArg o + dLength o.words ≤ slotCap s (dpSlot o)) (h5 : slKind (slotW0 s (dpSlot o)) ≠ 5 ∨ rangeServes s (dpSlot o) = true)
    (hidle : depotIdle s) : Does (.depReadSlot tag) s (readBegun s o (dpArg o) tag) := by
  refine depTakeRead_does ho hidle ?_
  show execDepReadSlot tag s = _
  unfold execDepReadSlot
  rw [ho]
  refine if_neg ?_
  rintro (h | h | h | ⟨hk5, hs⟩)
  · simp [hu] at h
  · exact hk h
  · omega
  · simp [hk5, hs] at h5

end

section
variable (ho : depOp s tag 0x79 1 = some o)
include ho

theorem depReadRaw_range (h : depotUsable s = false ∨ getf s F.DEP_FLASH_SECTORS * 0x10000 < dpArg o + dLength o.words) :
    EndsOp (.depReadRaw tag) s o ⟨0x14, 0#32, 0#32⟩ := by
  refine depRefuse_ends ho ?_
  show execDepReadRaw tag s = _
  unfold execDepReadRaw
  rw [ho]
  exact if_pos h

theorem depReadRaw_begins (hu : depotUsable s = true) (hcap : dpArg o + dLength o.words ≤ getf s F.DEP_FLASH_SECTORS * 0x10000)
    (hidle : depotIdle s) : Does (.depReadRaw tag) s (readBegun s o (dpArg o) tag) := by
  refine depTakeRead_does ho hidle ?_
  show execDepReadRaw tag s = _
  unfold execDepReadRaw
  rw [ho]
  exact if_neg (by simp [hu]; omega)

end

section
variable (ho : depOp s tag 0x79 2 = some o)
include ho

theorem depReadDirectory_unusable (hu : depotUsable s = false) : EndsOp (.depReadDirectory tag) s o ⟨0x14, 0#32, 0#32⟩ := by
  refine depRefuse_ends ho ?_
  show execDepReadDirectory tag s = _
  unfold execDepReadDirectory
  rw [ho]
  exact if_neg (by simp [hu])

theorem depReadDirectory_begins (hu : depotUsable s = true) (hidle : depotIdle s) : Does (.depReadDirectory tag) s (readBegun s o 0 tag) := by
  refine depTakeRead_does ho hidle ?_
  show execDepReadDirectory tag s = _
  unfold execDepReadDirectory
  rw [ho]
  exact if_pos hu

end

end

/-- Settles O37: a refusal is the operation's return; a write that is taken up is served until its first erase, a read waits for the flash. -/
theorem depotOperations : Obligations.DepotOperations := by
  unfold Obligations.DepotOperations
  intro s tag o got
  refine ⟨fun ho => ⟨depWriteImage_range ho got, depWriteImage_protected ho got, fun hu h1 h3 hfree => ⟨fun e => depWriteImage_source ho got hu h1 h3 hfree,
      fun d => depWriteImage_header ho got hu h1 h3 hfree, fun d => depWriteImage_begins ho got hu h1 h3 hfree⟩⟩,
    fun ho => ⟨depWriteData_range ho got, fun d f hu hk hcap hd hne hidle htap => depWriteData_begins ho got hu hk hcap hd hne hidle htap⟩,
    fun ho => ⟨depWriteSlot_unusable ho, depWriteSlot_protected ho, depWriteSlot_occupied ho, depWriteSlot_begins ho⟩,
    fun ho => ⟨depWriteFormat_absent ho, depWriteFormat_protected ho, depWriteFormat_begins ho⟩,
    fun ho => ⟨depReadSlot_range ho, depReadSlot_begins ho⟩,
    fun ho => ⟨depReadRaw_range ho, depReadRaw_begins ho⟩,
    fun ho => ⟨depReadDirectory_unusable ho, depReadDirectory_begins ho⟩⟩

end Sys2Proof.Machine

/-! ### The flash's answers to a write: FLASH_ERASE_DONE and FLASH_PROGRAM_DONE (R177, R183, R184) -/
namespace Sys2Proof.Machine

section
variable {s t v : State} {j : Job} {fg : Bool} {o : Op}

/-! #### The request that the flash works for -/

theorem curJob_alone (h : s.dep.jobs = [j]) : curJob s = some (true, j) := by
  unfold curJob
  rw [h]

/-- The request that the flash works for goes on as that request. -/
theorem curJob_putJob (hcur : curJob s = some (fg, j)) (hdep : v.dep = s.dep) (x : Job) : curJob (putJob v fg x) = some (fg, x) := by
  unfold curJob at hcur
  split at hcur
  next y l hjobs =>
    obtain ⟨rfl, rfl⟩ := Prod.mk.inj (Option.some.inj hcur)
    rfl
  next hjobs =>
    obtain ⟨y, -, hy⟩ := Option.map_eq_some_iff.1 hcur
    obtain ⟨rfl, rfl⟩ := Prod.mk.inj hy
    have hnone : (putJob v false x).dep.jobs = [] := (congrArg Dep.jobs hdep).trans hjobs
    unfold curJob
    rw [hnone]
    rfl

theorem flashByte_flashErase (s : State) (k a : Nat) : flashByte (flashErase s k) a = if a / 0x10000 = k then 0xFF#8 else flashByte s a := by
  have hget : sget a (flashErase s k).flash = if !(a / 0x10000 == k) then sget a s.flash else none :=
    sget_filter (fun c => !(c / 0x10000 == k)) a s.flash
  unfold flashByte
  rw [hget]
  by_cases h : a / 0x10000 = k
  · have hfill : sget (a / 0x10000) (flashErase s k).flashFill = none := by rw [h]; exact sget_sdel_same k s.flashFill
    rw [hfill]
    simp [h]
  · have hfill : sget (a / 0x10000) (flashErase s k).flashFill = sget (a / 0x10000) s.flashFill := sget_sdel_ne h s.flashFill
    rw [hfill]
    simp [h]

/-! #### A request ends -/

/-- The request is taken from those being served. -/
def jobGone (s : State) (fg : Bool) : State :=
  if fg then setDep s { s.dep with jobs := s.dep.jobs.drop 1 } else setDep s { s.dep with bg := none }

/-- The request has left: DEP_STAT.OP shows the next one, and a scrambler command its RESULT. -/
def jobLeft (s : State) (fg : Bool) (j : Job) (result : Nat) : State :=
  let t := jobGone s fg
  let u := setf t F.DEP_STAT_OP ((t.dep.jobs.head?.orElse (fun _ => t.dep.bg)).elim 0 (·.kind))
  if j.scr = 0 then u else setf (setf (setf u F.SCR_STAT_BUSY 0) F.SCR_STAT_FUNC 0) F.SCR_STAT_RESULT result

theorem jobLeft_frame (s : State) (fg : Bool) (j : Job) (n : Nat) :
    jobLeft s fg j n = { s with regs := (jobLeft s fg j n).regs, dep := (jobGone s fg).dep } := by
  unfold jobLeft
  dsimp only
  split <;> cases fg <;> rfl

/-- The other fields of DEP_STAT stay when a request leaves. -/
theorem getf_jobLeft_stat {f : Fld} (hreg : f.reg = R.DEP_STAT) (hbits : f.lo + f.width ≤ 8 ∨ 11 ≤ f.lo) (s : State) (fg : Bool) (j : Job) (n : Nat) :
    getf (jobLeft s fg j n) f = getf s f := by
  have hgone : getf (jobGone s fg) f = getf s f := by cases fg <;> rfl
  have hop (t : State) (x : Nat) : getf (setf t F.DEP_STAT_OP x) f = getf t f := getf_setf_bits t F.DEP_STAT_OP f x hbits.symm
  have hscr : f.reg ≠ R.SCR_STAT := by rw [hreg]; decide
  unfold jobLeft
  dsimp only
  split
  · rw [hop, hgone]
  · rw [getf_setf_reg _ _ _ _ hscr, getf_setf_reg _ _ _ _ hscr, getf_setf_reg _ _ _ _ hscr, hop, hgone]

theorem rd_jobLeft {r : Nat} (hstat : r ≠ R.DEP_STAT) (hscr : r ≠ R.SCR_STAT) (s : State) (fg : Bool) (j : Job) (n : Nat) :
    rd (jobLeft s fg j n) r = rd s r := by
  have hgone : rd (jobGone s fg) r = rd s r := by cases fg <;> rfl
  unfold jobLeft
  dsimp only
  split
  · rw [rd_setf_ne hstat, hgone]
  · rw [rd_setf_ne hscr, rd_setf_ne hscr, rd_setf_ne hscr, rd_setf_ne hstat, hgone]

/-- The request's operation is answered. -/
theorem endJob_answers (hj : j.op = some o.tag) (hop : opOf s o.tag = some o) (r : Ret) (n : Nat) :
    endJob s fg j r n = giveRet (jobLeft s fg j n) o r := by
  have hleft : j.op.bind (opOf (jobLeft s fg j n)) = some o := by
    rw [hj, Option.bind_some, jobLeft_frame]
    exact hop
  show (match j.op.bind (opOf (jobLeft s fg j n)) with | some o => giveRet (jobLeft s fg j n) o r | none => jobLeft s fg j n) = _
  rw [hleft]

theorem endJob_unasked (hj : j.op = none) (r : Ret) (n : Nat) : endJob s fg j r n = jobLeft s fg j n := by
  show (match j.op.bind (opOf (jobLeft s fg j n)) with | some o => giveRet (jobLeft s fg j n) o r | none => jobLeft s fg j n) = _
  rw [hj]
  rfl

/-- The one foreground request of the depot has left and its operation is answered with `r`. -/
structure AnsweredAlone (s : State) (o : Op) (r : Ret) (t : State) : Prop where
  ret_eq : retOf t o.tag = some r
  jobs_eq : t.dep.jobs = []
  out_eq : t.out = s.out
  mem_eq : t.mem = s.mem
  fill_eq : t.memFill = s.memFill
  op_eq : s.dep.bg = none → getf t F.DEP_STAT_OP = 0
  stat_eq : ∀ f : Fld, f.reg = R.DEP_STAT → f.lo + f.width ≤ 8 ∨ 11 ≤ f.lo → getf t f = getf s f

theorem endJob_answeredAlone (hjobs : s.dep.jobs = [j]) {x : Job} (hx : x.op = some o.tag) (hop : opOf s o.tag = some o) (r : Ret) (n m : Nat) :
    AnsweredAlone s o r (serveJobs (endJob s true x r n) (m + 1)) := by
  rw [endJob_answers hx hop]
  generalize hleft : jobLeft s true x n = v
  have hframe : v = { s with regs := v.regs, dep := (jobGone s true).dep } := hleft ▸ jobLeft_frame s true x n
  have hstat (f : Fld) (hf : f.reg = R.DEP_STAT) (hb : f.lo + f.width ≤ 8 ∨ 11 ≤ f.lo) : getf v f = getf s f :=
    hleft ▸ getf_jobLeft_stat hf hb s true x n
  have hops : v.ops = s.ops := by rw [hframe]
  have hdep : v.dep = (jobGone s true).dep := by rw [hframe]
  have hjobs' : v.dep.jobs = [] := by rw [hdep]; exact congrArg (List.drop 1) hjobs
  have hbg : v.dep.bg = s.dep.bg := by rw [hdep]; rfl
  have hret := giveRet_frame v o r
  have hretOf := retOf_giveRet r ((opOf_congr hops o.tag).trans hop)
  generalize giveRet v o r = w at hret hretOf
  rw [serveJobs_empty m (by rw [hret]; exact hjobs')]
  refine ⟨hretOf, by rw [hret]; exact hjobs', by rw [hret, hframe]; rfl, by rw [hret, hframe]; rfl, by rw [hret, hframe]; rfl, fun hnone => ?_,
    fun f hf hb => ?_⟩
  · have hw : w.dep.bg = none := by rw [hret]; exact hbg.trans hnone
    rw [hw]
    exact getf_setf_fits _ (by decide) (by decide)
  · refine (getf_setf_bits _ F.DEP_STAT_OP f _ hb.symm).trans (Eq.trans ?_ (hstat f hf hb))
    rw [hret]
    rfl

theorem putJob_flashCmd_out (htap : tapOwns s = false) (op a : Nat) (d : List Byte) (x : Job) :
    .flash op a d ∈ (putJob (flashCmd s op a d) fg x).out := by
  rw [putJob_frame]
  show _ ∈ (flashCmd s op a d).out
  rw [flashCmd_out htap]
  simp

/-! #### A good erase -/

theorem eraseDone_good (hcur : curJob s = some (fg, j)) (hst : j.st = 1) : eraseDone s true =
    if j.data = [] then actDone (flashErase s j.sector) fg j
    else putJob (flashCmd (flashErase s j.sector) 2 (j.sector * 0x10000) (j.data.take 256)) fg { j with st := 2 } := by
  unfold eraseDone
  rw [hcur]
  dsimp only
  rw [if_neg (by simp [hst]), if_neg (by decide)]

/-- What follows a finished act leaves the flash. -/
theorem actDone_flashByte (s : State) (fg : Bool) (j : Job) (a : Nat) : flashByte (actDone s fg j) a = flashByte s a := by
  have hmade := actDone_made (Nat.or_self _) s fg j (.refl ..)
  exact flashByte_congr (hmade.flash rfl) (hmade.flashFill rfl) a

theorem flashEraseDone_good (hcur : curJob s = some (fg, j)) (htap : tapOwns s = false) (hst : j.st = 1) :
    Does (.flashEraseDone true) s (fun t => (∀ a, flashByte t a = if a / 0x10000 = j.sector then 0xFF#8 else flashByte s a)
      ∧ (j.data ≠ [] → .flash 2 (j.sector * 0x10000) (j.data.take 256) ∈ t.out ∧ curJob t = some (fg, { j with st := 2 }))) := by
  refine ⟨_, congrArg Host.Outcome.next (eraseDone_good hcur hst), ?_⟩
  split
  case isTrue hdata =>
    exact ⟨fun a => (actDone_flashByte _ fg j a).trans (flashByte_flashErase s j.sector a), fun hne => absurd hdata hne⟩
  case isFalse hdata =>
    refine ⟨fun a => ?_, fun _ => ⟨putJob_flashCmd_out (s := flashErase s j.sector) htap .., curJob_putJob hcur ?_ _⟩⟩
    · rw [putJob_frame]
      exact flashByte_flashErase s j.sector a
    · rfl

/-! #### A good program -/

/-- Page `p` of what the request writes to its sector. -/
def jobPage (j : Job) (p : Nat) : List Byte := (j.data.drop (256 * p)).take 256

/-- The page that the request has programmed stands in the flash. -/
def pageStored (s : State) (j : Job) : State := flashPut s (j.sector * 0x10000 + 256 * (j.st - 2)) (jobPage j (j.st - 2))

/-- The sector that the request has written is shown: a directory copy is in use, a refreshed sector sets REFRESHED. -/
def sectorShown (s : State) (j : Job) : State :=
  match j.todo with
  | .dir :: _ => dirDone s j.sector
  | .refresh _ _ :: _ => raise s F.DEP_EVT_REFRESHED
  | _ => s

theorem programDone_page (hcur : curJob s = some (fg, j)) (hst : 2 ≤ j.st) (hmore : j.st - 2 + 1 < pages j.data.length) : programDone s true
    = putJob (flashCmd (pageStored s j) 2 (j.sector * 0x10000 + 256 * (j.st - 2 + 1)) (jobPage j (j.st - 2 + 1))) fg { j with st := j.st + 1 } := by
  unfold programDone
  rw [hcur]
  dsimp only
  rw [if_neg (by omega), if_neg (by decide), if_pos hmore]
  rfl

theorem programDone_last (hcur : curJob s = some (fg, j)) (hst : 2 ≤ j.st) (hlast : pages j.data.length ≤ j.st - 2 + 1) :
    programDone s true = actDone (sectorShown (pageStored s j) j) fg j := by
  unfold programDone
  rw [hcur]
  dsimp only
  rw [if_neg (by omega), if_neg (by decide), if_neg (by omega)]
  rfl

/-- The page is stored; the rest of the unit is as before. -/
theorem pageStored_made (s : State) (j : Job) : Made 134217728 s (pageStored s j) := flashPut_made (Nat.or_self _) s _ _ (.refl ..)

theorem pageStored_has (s : State) (j : Job) : FlashHas s (pageStored s j) (j.sector * 0x10000 + 256 * (j.st - 2)) (jobPage j (j.st - 2)) :=
  fun x => flashByte_flashPut _ s _ x

theorem sectorShown_flashByte (s : State) (j : Job) (a : Nat) : flashByte (sectorShown s j) a = flashByte s a := by
  unfold sectorShown
  split
  · have hmade := dirDone_made (Nat.or_self _) s j.sector (.refl ..)
    exact flashByte_congr (hmade.flash rfl) (hmade.flashFill rfl) a
  · rfl
  · rfl

/-! #### The directory in use -/

/-- The directory's slots are shown in registers above the others. -/
theorem rd_showDir {r : Nat} (hr : r < 0x40040) (s : State) :
    rd (showDir s) r = rd (setf (wr s R.DEP_GEN (w32 s.dep.dir.gen)) F.DEP_CNT_BAD s.dep.dir.bad.length) r := by
  unfold showDir
  dsimp only
  refine List.foldlRecOn (motive := fun t => rd t r = _) (List.range 8) _ rfl fun t ht i _ => ?_
  have h0 : r ≠ R.DEP_SLOT_W0 i := by unfold R.DEP_SLOT_W0; omega
  have h1 : r ≠ R.DEP_SLOT_W1 i := by unfold R.DEP_SLOT_W1; omega
  exact ((rd_wr_ne h1 _ _).trans (rd_wr_ne h0 _ _)).trans ht

theorem rd_showDir_stat (s : State) : rd (showDir s) R.DEP_STAT = rd s R.DEP_STAT := by
  rw [rd_showDir (by decide), rd_setf_ne (by decide), rd_wr_ne (by decide)]

/-- The copy that has been written is in use, and the depot is formatted. -/
theorem dirDone_stat (s : State) (k : Nat) : getf (dirDone s k) F.DEP_STAT_COPY = k % 2 ∧ isSet (dirDone s k) F.DEP_STAT_FORMATTED = true := by
  unfold dirDone
  generalize hv : setf s F.DEP_STAT_COPY k = v
  refine ⟨(getf_congr (rd_showDir_stat _)).trans ?_, (isSet_congr (rd_showDir_stat _)).trans (isSet_setf_one v rfl (by decide))⟩
  rw [getf_setf_bits v F.DEP_STAT_FORMATTED F.DEP_STAT_COPY 1 (by decide), ← hv]
  exact getf_setf_same s F.DEP_STAT_COPY k (by decide)

theorem spanGood_dirDone (s : State) (k i : Nat) : spanGood (dirDone s k) i = spanGood s i := by
  have hmade := dirDone_made (Nat.or_self _) s k (.refl ..)
  exact spanGood_congr (congrArg Dep.dir (hmade.dep rfl)) (fun r => hmade.blk _ (by rw [R.SCR_RNG_TAG_blk]; rfl)) i

/-! #### The answer to a program -/

/-- With its last act done a request is over. -/
theorem actDone_answeredAlone {a : Act} (hjobs : s.dep.jobs = [j]) (htodo : j.todo = [a]) (hj : j.op = some o.tag) (hop : opOf s o.tag = some o) :
    AnsweredAlone s o (writeRet s j 0) (actDone s true j) := by
  have hend : actDone s true j = serveJobs (endJob s true { j with st := 0, todo := [] } (writeRet s j 0) 0)
      ((endJob s true { j with st := 0, todo := [] } (writeRet s j 0) 0).dep.jobs.length + 1) := by
    unfold actDone
    rw [htodo]
    rfl
  rw [hend]
  exact endJob_answeredAlone hjobs (x := { j with st := 0, todo := [] }) hj hop _ 0 _

/-- The directory that a write ends with is in use, and its operation is answered (R177, R184). -/
theorem lastDirectoryPage (hjobs : s.dep.jobs = [j]) (hbg : s.dep.bg = none) (htodo : j.todo = [.dir]) (hscr : j.scr = 0)
    (hj : j.op = some o.tag) (hop : opOf s o.tag = some o) {t : State} (ht : t = actDone (sectorShown (pageStored s j) j) true j) :
    retOf t o.tag = some ⟨0, w32 j.erased, w32 (j.newBad % 2 ^ 16 + (spanGood s j.slot).length * 2 ^ 16)⟩
      ∧ getf t F.DEP_STAT_COPY = j.sector % 2 ∧ isSet t F.DEP_STAT_FORMATTED = true ∧ t.dep.jobs = [] ∧ getf t F.DEP_STAT_OP = 0 := by
  have hpage := pageStored_made s j
  generalize pageStored s j = p at hpage ht
  have hspan : spanGood p j.slot = spanGood s j.slot := spanGood_congr (congrArg Dep.dir (hpage.dep rfl)) (fun r => rd_congr (hpage.regs rfl) _) _
  have hshown : sectorShown p j = dirDone p j.sector := by unfold sectorShown; rw [htodo]
  have hdone := dirDone_made (Nat.or_self _) p j.sector (.refl ..)
  obtain ⟨hcopy, hformatted⟩ := dirDone_stat p j.sector
  have hspan' := (spanGood_dirDone p j.sector j.slot).trans hspan
  rw [hshown] at ht
  generalize dirDone p j.sector = v at hdone hcopy hformatted hspan' ht
  have hdep : v.dep = s.dep := (hdone.dep rfl).trans (hpage.dep rfl)
  have hops : opOf v o.tag = some o := (opOf_congr ((hdone.ops rfl).trans (hpage.ops rfl)) o.tag).trans hop
  have hret : writeRet v j 0 = ⟨0, w32 j.erased, w32 (j.newBad % 2 ^ 16 + (spanGood s j.slot).length * 2 ^ 16)⟩ := by
    unfold writeRet
    rw [if_pos hscr, hspan']
  have hover := actDone_answeredAlone ((congrArg Dep.jobs hdep).trans hjobs) htodo hj hops
  rw [← ht, hret] at hover
  refine ⟨hover.ret_eq, (hover.stat_eq _ rfl (by decide)).trans hcopy, ?_, hover.jobs_eq, hover.op_eq ((congrArg Dep.bg hdep).trans hbg)⟩
  unfold isSet at hformatted ⊢
  rw [hover.stat_eq _ rfl (by decide)]
  exact hformatted

theorem flashProgramDone_good (hcur : curJob s = some (fg, j)) (htap : tapOwns s = false) (hst : 2 ≤ j.st) : Does (.flashProgramDone true) s (fun t =>
    FlashHas s t (j.sector * 0x10000 + 256 * (j.st - 2)) (jobPage j (j.st - 2))
    ∧ (j.st - 2 + 1 < pages j.data.length → .flash 2 (j.sector * 0x10000 + 256 * (j.st - 2 + 1)) (jobPage j (j.st - 2 + 1)) ∈ t.out
        ∧ curJob t = some (fg, { j with st := j.st + 1 }))
    ∧ (pages j.data.length ≤ j.st - 2 + 1 → s.dep.jobs = [j] → s.dep.bg = none → j.todo = [.dir] → j.scr = 0 → ∀ o, j.op = some o.tag →
        opOf s o.tag = some o → retOf t o.tag = some ⟨0, w32 j.erased, w32 (j.newBad % 2 ^ 16 + (spanGood s j.slot).length * 2 ^ 16)⟩
        ∧ getf t F.DEP_STAT_COPY = j.sector % 2 ∧ isSet t F.DEP_STAT_FORMATTED = true ∧ t.dep.jobs = [] ∧ getf t F.DEP_STAT_OP = 0)) := by
  by_cases hmore : j.st - 2 + 1 < pages j.data.length
  · refine ⟨_, congrArg Host.Outcome.next (programDone_page hcur hst hmore), fun a => ?_,
      fun _ => ⟨putJob_flashCmd_out ?_ .., curJob_putJob hcur ?_ _⟩, fun h => absurd hmore (by omega)⟩
    · rw [putJob_frame]
      exact pageStored_has s j a
    · unfold tapOwns
      rw [(pageStored_made s j).tap rfl]
      exact htap
    · exact (pageStored_made s j).dep rfl
  · refine ⟨_, congrArg Host.Outcome.next (programDone_last hcur hst (by omega)), fun a => ?_, fun h => absurd h hmore,
      fun _ hjobs hbg htodo hscr o hj hop => ?_⟩
    · rw [actDone_flashByte, sectorShown_flashByte]
      exact pageStored_has s j a
    · obtain ⟨rfl, -⟩ := Prod.mk.inj (Option.some.inj ((curJob_alone hjobs).symm.trans hcur))
      exact lastDirectoryPage hjobs hbg htodo hscr hj hop rfl

/-! #### A failed erase or program -/

theorem raise9_isSet (s : State) {f : Fld} (hw : f.width = 1) (hlo : f.lo < 32) (hb : blockOf f.reg = 4) : isSet (raise9 s f) f = true := by
  unfold raise9
  split
  case isTrue hset => exact hset
  case isFalse =>
    have hmade := devEvent_made (Nat.or_self _) (raise s f) 9 (.refl ..)
    exact (isSet_congr (hmade.blk _ (by rw [hb]; rfl))).trans (isSet_raise s f hw hlo)

theorem raise9_dep (s : State) (f : Fld) : (raise9 s f).dep = s.dep := by
  unfold raise9
  split
  · rfl
  · exact (devEvent_made (Nat.or_self _) (raise s f) 9 (.refl ..)).dep rfl

/-- The sector is among the bad ones, and NEW_BAD is set (R183). -/
theorem markBad_newBad (s : State) (k : Nat) : isSet (markBad s k false) F.DEP_EVT_NEW_BAD = true
    ∧ (markBad s k false).dep.dir.bad = insertNat k s.dep.dir.bad := by
  unfold markBad
  dsimp only
  rw [if_neg (by decide)]
  generalize hv : setDir s { s.dep.dir with bad := insertNat k s.dep.dir.bad } = v
  have hraised := raise9_isSet v (f := F.DEP_EVT_NEW_BAD) rfl (by decide) rfl
  have hdep := raise9_dep v F.DEP_EVT_NEW_BAD
  generalize raise9 v F.DEP_EVT_NEW_BAD = u at hraised hdep
  refine ⟨?_, ?_⟩
  · refine (isSet_congr (alarmUpdate_rd (by decide) _)).trans ?_
    exact (isSet_congr (rd_setf_ne (by decide) _ _)).trans hraised
  · have halarm := (alarmUpdate_made (Nat.or_self _) (setf u F.DEP_CNT_BAD u.dep.dir.bad.length) (.refl ..)).dep rfl
    rw [halarm]
    show u.dep.dir.bad = _
    rw [hdep, ← hv]
    rfl

theorem rd_dirBegun {r : Nat} (h : r ≠ R.DEP_STAT) (s : State) (fg : Bool) (j : Job) : rd (dirBegun s fg j) r = rd s r :=
  (rd_putJob h _ fg _).trans (rd_putJob h _ fg _)

theorem dirBegun_flash (s : State) (fg : Bool) (j : Job) : (dirBegun s fg j).flash = s.flash ∧ (dirBegun s fg j).flashFill = s.flashFill := by
  cases fg <;> exact ⟨rfl, rfl⟩

/-- The sector is marked bad, and the directory is written before the request tries again. -/
theorem sectorFailed_write {sp pos : Nat} {d : List Byte} {l : List Act} (htodo : j.todo = .write sp pos d :: l) (s : State) (fg : Bool) :
    sectorFailed s fg j = dirBegun (markBad s j.sector false) fg { j with st := 0, newBad := j.newBad + 1, todo := .dir :: j.todo } := by
  have hrun := runJob_dir (s := markBad s j.sector false) (fg := fg) (j := { j with st := 0, newBad := j.newBad + 1, todo := .dir :: j.todo })
    (j.todo.length + 4) rfl
  rw [← hrun]
  unfold sectorFailed
  rw [htodo]
  rfl

theorem sectorFailed_bad {sp pos : Nat} {d : List Byte} {l : List Act} (htodo : j.todo = .write sp pos d :: l) {t : State}
    (ht : t = sectorFailed s fg j) : t.dep.dir.bad = insertNat j.sector s.dep.dir.bad ∧ isSet t F.DEP_EVT_NEW_BAD = true ∧ t.flash = s.flash
      ∧ t.flashFill = s.flashFill := by
  rw [sectorFailed_write htodo] at ht
  obtain ⟨hset, hbad⟩ := markBad_newBad s j.sector
  have hmark := markBad_made (Nat.or_self _) s j.sector false (.refl ..)
  generalize markBad s j.sector false = v at hset hbad hmark ht
  generalize ({ j with st := 0, newBad := j.newBad + 1, todo := .dir :: j.todo } : Job) = x at ht
  subst ht
  obtain ⟨-, -, hdir⟩ := dirBegun_dir v fg x
  obtain ⟨hflash, hfill⟩ := dirBegun_flash v fg x
  exact ⟨hdir.trans hbad, (isSet_congr (rd_dirBegun (by decide) v fg x)).trans hset, hflash.trans (hmark.flash rfl), hfill.trans (hmark.flashFill rfl)⟩

theorem eraseDone_bad (hcur : curJob s = some (fg, j)) (hst : j.st = 1) : eraseDone s false = sectorFailed s fg j := by
  unfold eraseDone
  rw [hcur]
  exact (if_neg (by simp [hst])).trans (if_pos rfl)

theorem programDone_bad (hcur : curJob s = some (fg, j)) (hst : 2 ≤ j.st) : programDone s false = sectorFailed s fg j := by
  unfold programDone
  rw [hcur]
  exact (if_neg (by omega)).trans (if_pos rfl)

theorem flashDone_failed {sp pos : Nat} {d : List Byte} {l : List Act} (hcur : curJob s = some (fg, j)) (htodo : j.todo = .write sp pos d :: l)
    {q : Instr} (hq : q ∈ [Instr.flashEraseDone false, .flashProgramDone false]) (herase : q = .flashEraseDone false → j.st = 1)
    (hprog : q = .flashProgramDone false → 2 ≤ j.st) : Does q s (fun t => t.dep.dir.bad = insertNat j.sector s.dep.dir.bad
      ∧ isSet t F.DEP_EVT_NEW_BAD = true ∧ t.flash = s.flash ∧ t.flashFill = s.flashFill) := by
  have hexec : exec q s = .next (sectorFailed s fg j) := by
    simp only [List.mem_cons, List.not_mem_nil, or_false] at hq
    rcases hq with rfl | rfl
    · exact congrArg Host.Outcome.next (eraseDone_bad hcur (herase rfl))
    · exact congrArg Host.Outcome.next (programDone_bad hcur (hprog rfl))
  exact ⟨_, hexec, sectorFailed_bad htodo rfl⟩

end

end Sys2Proof.Machine

/-! ### The flash's reads end: FLASH_READ_DONE (R181, R186, R188), and O38 -/
namespace Sys2Proof.Machine

section
variable {s t v : State} {j : Job} {o : Op} {raw : List Byte}

/-- A read that leaves no register write due is all that its answer does. -/
theorem exec_flashReadDone {got : Option (List Byte)} (htake : takeFlashReadDone got s = .next t) (hdue : noRegDue t) :
    exec (.flashReadDone got) s = .next t := by
  show execFlashReadDone got s = _
  unfold execFlashReadDone
  rw [htake]
  exact congrArg Host.Outcome.next (moverStores_of_none hdue)

/-! #### DEP_READ (R186) -/

section
variable (hjobs : s.dep.jobs = [j]) (hj : j.op = some o.tag) (hop : opOf s o.tag = some o) {bs : List Byte}
include hjobs hj hop

theorem takeFlashReadDone_read (hkind : j.kind = 4)
    (hbytes : (dpMode o = 0 ∧ slKind (slotW0 s j.slot) ≠ 5 ∧ bs = spanRead s j.slot j.off j.len) ∨ (dpMode o = 1 ∧ bs = flashRead s j.off j.len)
      ∨ (1 < dpMode o ∧ bs = (dirBytes s.dep.dir).take j.len)) :
    takeFlashReadDone none s = .next (endRead (depDeliver s o bs).1 j ⟨(depDeliver s o bs).2, 0#32, 0#32⟩) := by
  have hserved : j.op.bind (opOf s) = some o := by rw [hj]; exact hop
  unfold takeFlashReadDone
  rw [curJob_alone hjobs]
  dsimp only
  rw [hkind, hserved]
  have hplain : ¬(dpMode o = 0 ∧ slKind (slotW0 s j.slot) = 5) := fun h => hbytes.elim (fun hb => hb.2.1 h.2) (by omega)
  refine (if_neg hplain).trans ?_
  rcases hbytes with ⟨hmode, -, rfl⟩ | ⟨hmode, rfl⟩ | ⟨hmode, rfl⟩
  · rw [hmode]
    rfl
  · rw [hmode]
    rfl
  · obtain ⟨m, hm⟩ : ∃ m, dpMode o = m + 2 := ⟨dpMode o - 2, by omega⟩
    rw [hm]
    rfl

/-- Its bytes delivered, the read is over: what delivering them did to memory and outputs stands. -/
theorem readEnds {v : State} (hdeliver : depDeliver s o bs = (v, 0)) (hdep : v.dep = s.dep) (hops : v.ops = s.ops) (hdue : noRegDue v)
    (htake : takeFlashReadDone none s = .next (endRead (depDeliver s o bs).1 j ⟨(depDeliver s o bs).2, 0#32, 0#32⟩)) :
    Does (.flashReadDone none) s (AnsweredAlone v o ⟨0, 0#32, 0#32⟩) := by
  rw [hdeliver] at htake
  exact ⟨_, exec_flashReadDone htake (noRegDue_of_made hdue (endRead_made (Nat.or_self _) v j _ (.refl ..)) rfl rfl),
    endJob_answeredAlone ((congrArg Dep.jobs hdep).trans hjobs) hj ((opOf_congr hops o.tag).trans hop) _ 0 _⟩

theorem readToHost (hspace : dpSpace o = false) (hmember : isMember s = false) (hdue : noRegDue s)
    (htake : takeFlashReadDone none s = .next (endRead (depDeliver s o bs).1 j ⟨(depDeliver s o bs).2, 0#32, 0#32⟩)) :
    Does (.flashReadDone none) s (fun t => retOf t o.tag = some ⟨0, 0#32, 0#32⟩ ∧ t.out = s.out ++ [.hostWrite (dpAddr o) bs] ∧ t.mem = s.mem
      ∧ t.dep.jobs = []) := by
  have hdeliver : depDeliver s o bs = (emit s (.hostWrite (dpAddr o) bs), 0) := by
    unfold depDeliver hostPut
    rw [hspace, hmember]
    rfl
  have hout := emit_out s (.hostWrite (dpAddr o) bs) (Bool.and_false _)
  have hmade := emit_made (Nat.or_self _) s (.hostWrite (dpAddr o) bs) (.refl ..)
  obtain ⟨t, hexec, hover⟩ := readEnds hjobs hj hop hdeliver (hmade.dep rfl) (hmade.ops rfl) (noRegDue_of_made hdue hmade rfl rfl) htake
  exact ⟨t, hexec, hover.ret_eq, hover.out_eq.trans hout, hover.mem_eq.trans (hmade.mem rfl), hover.jobs_eq⟩

theorem readToBanks (hspace : dpSpace o = true) (hbank : bankWritable s (dpAddr o) bs.length) (hdue : noRegDue s)
    (htake : takeFlashReadDone none s = .next (endRead (depDeliver s o bs).1 j ⟨(depDeliver s o bs).2, 0#32, 0#32⟩)) :
    Does (.flashReadDone none) s (fun t => retOf t o.tag = some ⟨0, 0#32, 0#32⟩ ∧ BankHas s t (dpAddr o) bs ∧ t.out = s.out ∧ t.dep.jobs = []) := by
  have hdeliver : depDeliver s o bs = (putBytes s (dpAddr o) bs, 0) := by
    unfold depDeliver
    rw [if_pos hspace, writeBytes_bank hbank]
  have hmade := putBytes_made (Nat.or_self _) s (dpAddr o) bs (.refl ..)
  obtain ⟨t, hexec, hover⟩ := readEnds hjobs hj hop hdeliver (hmade.dep rfl) (hmade.ops rfl) (noRegDue_of_made hdue hmade rfl rfl) htake
  exact ⟨t, hexec, hover.ret_eq, bankHas_putBytes hover.mem_eq hover.fill_eq, hover.out_eq.trans (hmade.out rfl), hover.jobs_eq⟩

end

/-! #### A boot load (R181) -/

/-- The flash is asked for the unit again. -/
theorem rereads (s : State) (fg : Bool) (x : Job) :
    getf (putJob (satAdd s F.DEP_CNT_RETRIES 1) fg x) F.DEP_CNT_RETRIES = min 65535 (getf s F.DEP_CNT_RETRIES + 1) := by
  rw [getf_congr (rd_putJob (by decide) _ fg x)]
  exact getf_satAdd s F.DEP_CNT_RETRIES 1 (by decide)

section
variable (hjobs : s.dep.jobs = [j])
include hjobs

theorem exec_bootRead (hkind : j.kind = 1) (hlen : slotLen s j.slot ≠ 0) (hdue : noRegDue s) (raw : List Byte) :
    exec (.flashReadDone (some raw)) s = .next (bootRead s j raw) := by
  refine exec_flashReadDone ?_ (noRegDue_of_made hdue (bootRead_made (Nat.or_self _) s j raw (.refl ..)) rfl rfl)
  unfold takeFlashReadDone
  rw [curJob_alone hjobs]
  dsimp only
  rw [hkind]
  exact if_neg hlen

omit hjobs in
theorem bootRead_next (hcrc : unitCrcOk (if j.units = 0 then raw else j.buf.take 512) j.units raw = true) (hunits : 1 ≤ j.units)
    (hmore : (j.buf ++ raw).length < imgLen (j.buf ++ raw)) (htries : j.tries = 0) :
    bootRead s j raw = putJob s true { j with buf := j.buf ++ raw, units := j.units + 1 } := by
  have hfirst : j.units + 1 ≠ 1 := by omega
  unfold bootRead
  dsimp only
  rw [if_pos hcrc, if_pos htries, if_neg (fun h => hfirst h.1), if_neg (fun h => hfirst h.1), if_neg (by omega), ← htries]

omit hjobs in
theorem bootRead_again (hcrc : unitCrcOk (if j.units = 0 then raw else j.buf.take 512) j.units raw = false) (htries : j.tries < 3) :
    bootRead s j raw = putJob (satAdd s F.DEP_CNT_RETRIES 1) true { j with tries := j.tries + 1 } := by
  unfold bootRead
  dsimp only
  rw [if_neg (by simp [hcrc]), if_pos htries]

omit hjobs in
theorem bootRead_fails (hcrc : unitCrcOk (if j.units = 0 then raw else j.buf.take 512) j.units raw = false) (htries : 3 ≤ j.tries) :
    bootRead s j raw = endBootJob s j (some (if j.units = 0 then 1 else 3)) := by
  unfold bootRead
  dsimp only
  rw [if_neg (by simp [hcrc]), if_neg (by omega)]

theorem endJob_unaskedAlone (hj : j.op = none) (r : Ret) (n m : Nat) : (serveJobs (endJob s true j r n) (m + 1)).dep.jobs = []
    ∧ (serveJobs (endJob s true j r n) (m + 1)).boot = s.boot := by
  rw [endJob_unasked hj]
  have hframe := jobLeft_frame s true j n
  generalize jobLeft s true j n = v at hframe
  have hgone : v.dep.jobs = [] := by rw [hframe]; exact congrArg (List.drop 1) hjobs
  rw [serveJobs_empty m hgone]
  exact ⟨hgone, by rw [hframe]; rfl⟩

theorem endBootJob_over (hj : j.op = none) (bad : Option Nat) : (endBootJob s j bad).dep.jobs = [] ∧ (endBootJob s j bad).boot.bad = bad := by
  obtain ⟨hnone, hboot⟩ := endJob_unaskedAlone (s := { s with boot := { s.boot with bad := bad, buf := j.buf } }) hjobs hj ⟨0, 0#32, 0#32⟩ 0 _
  exact ⟨hnone, congrArg Boot.bad hboot⟩

theorem flashReadDone_boot (hkind : j.kind = 1) (hj : j.op = none) (hlen : slotLen s j.slot ≠ 0) (hdue : noRegDue s) :
    let h := if j.units = 0 then raw else j.buf.take 512
    (unitCrcOk h j.units raw = true → 1 ≤ j.units → (j.buf ++ raw).length < imgLen (j.buf ++ raw) → j.tries = 0 →
      Does (.flashReadDone (some raw)) s (fun t => t.dep.jobs = [{ j with buf := j.buf ++ raw, units := j.units + 1 }] ∧ t.boot = s.boot))
    ∧ (unitCrcOk h j.units raw = false → j.tries < 3 → Does (.flashReadDone (some raw)) s (fun t =>
      t.dep.jobs = [{ j with tries := j.tries + 1 }] ∧ getf t F.DEP_CNT_RETRIES = min 65535 (getf s F.DEP_CNT_RETRIES + 1)))
    ∧ (unitCrcOk h j.units raw = false → 3 ≤ j.tries → Does (.flashReadDone (some raw)) s (fun t =>
      t.dep.jobs = [] ∧ t.boot.bad = some (if j.units = 0 then 1 else 3))) := by
  have hexec := exec_bootRead hjobs hkind hlen hdue raw
  have halone (u : State) (hu : u.dep.jobs = s.dep.jobs) (x : Job) : (putJob u true x).dep.jobs = [x] :=
    congrArg (fun l => x :: List.drop 1 l) (hu.trans hjobs)
  refine ⟨fun hcrc hunits hmore htries => ⟨_, hexec, ?_⟩, fun hcrc htries => ⟨_, hexec, ?_⟩, fun hcrc htries => ⟨_, hexec, ?_⟩⟩
  · rw [bootRead_next hcrc hunits hmore htries]
    exact ⟨halone s rfl _, rfl⟩
  · rw [bootRead_again hcrc htries]
    exact ⟨halone (satAdd s F.DEP_CNT_RETRIES 1) rfl _, rereads ..⟩
  · rw [bootRead_fails hcrc htries]
    exact endBootJob_over hjobs hj _

end

/-! #### The scrub's read (R188) -/

section
variable (hidle : depotIdle { s with dep := { s.dep with bg := none } }) (hbg : s.dep.bg = some j) (hk : slKind (slotW0 s j.slot) ≠ 5)
  {off n u : Nat} {h : List Byte}
  (hunit : slotUnit s j.slot (slotLen s j.slot) j.units 0 (slotLen s j.slot / 4672 + 1) = some (off, n, h, u))
include hk hunit

/-- The scrub's read has ended. -/
def scrubClosed (s : State) : State := setf (setDep s { s.dep with bg := none }) F.DEP_STAT_OP 0

include hidle hbg in
theorem exec_scrubRead (hkind : j.kind = 6) (hdue : noRegDue s) (raw : List Byte) :
    exec (.flashReadDone (some raw)) s = .next (scrubRead s j raw) := by
  have hcur : curJob s = some (false, j) := by
    unfold curJob
    rw [show s.dep.jobs = [] from hidle.1, hbg]
    rfl
  refine exec_flashReadDone ?_ (noRegDue_of_made hdue (scrubRead_made (Nat.or_self _) s j raw (.refl ..)) rfl rfl)
  unfold takeFlashReadDone
  rw [hcur]
  dsimp only
  rw [hkind]
  refine (if_neg (c := false = true) (by decide)).trans ((if_neg hk).trans ?_)
  rw [hunit]
  rfl

theorem scrubRead_good (hcrc : unitCrcOk h u raw = true) (htries : j.tries = 0) :
    scrubRead s j raw = scrubNext (scrubClosed s) (decide (slotLen s j.slot ≤ off + n)) := by
  unfold scrubRead
  rw [if_neg hk, hunit]
  dsimp only
  rw [if_pos hcrc, if_pos htries]
  rfl

theorem scrubRead_again (hcrc : unitCrcOk h u raw = false) (htries : j.tries < 3) :
    scrubRead s j raw = putJob (satAdd s F.DEP_CNT_RETRIES 1) false { j with tries := j.tries + 1 } := by
  unfold scrubRead
  rw [if_neg hk, hunit]
  dsimp only
  rw [if_neg (by simp [hcrc]), if_pos htries]

omit hk hunit in
/-- The scrub goes on by a unit, or after a slot's last by a slot. -/
theorem scrubNext_closed (s : State) (last : Bool) : (scrubNext (scrubClosed s) last).dep.bg = none
    ∧ getf (scrubNext (scrubClosed s) last) F.DEP_STAT_OP = 0
    ∧ (last = false → (scrubNext (scrubClosed s) last).dep.scrubUnit = s.dep.scrubUnit + 1 ∧ (scrubNext (scrubClosed s) last).dep.scrubSlot = s.dep.scrubSlot)
    ∧ (last = true → (scrubNext (scrubClosed s) last).dep.scrubUnit = 0
      ∧ (scrubNext (scrubClosed s) last).dep.scrubSlot = if s.dep.scrubSlot = 7 then 0 else s.dep.scrubSlot + 1) := by
  have hop : getf (scrubClosed s) F.DEP_STAT_OP = 0 := getf_setf_fits _ (by decide) (by decide)
  have hslot : (scrubClosed s).dep.scrubSlot = s.dep.scrubSlot := rfl
  unfold scrubNext
  rw [hslot]
  cases last with
  | false => exact ⟨rfl, hop, fun _ => ⟨rfl, rfl⟩, fun hlast => absurd hlast (by decide)⟩
  | true =>
    rw [if_neg (by decide)]
    split
    case isTrue h7 =>
      exact ⟨rfl, (getf_setf_reg _ F.DEP_SCRUB_PASSES F.DEP_STAT_OP _ (by decide)).trans hop, fun hlast => absurd hlast (by decide), fun _ => ⟨rfl, rfl⟩⟩
    case isFalse h7 => exact ⟨rfl, hop, fun hlast => absurd hlast (by decide), fun _ => ⟨rfl, rfl⟩⟩

include hidle hbg in
theorem flashReadDone_scrub (hkind : j.kind = 6) (hdue : noRegDue s) :
    (unitCrcOk h u raw = true → j.tries = 0 → Does (.flashReadDone (some raw)) s (fun t => t.dep.bg = none ∧ getf t F.DEP_STAT_OP = 0
      ∧ (off + n < slotLen s j.slot → t.dep.scrubUnit = s.dep.scrubUnit + 1 ∧ t.dep.scrubSlot = s.dep.scrubSlot)
      ∧ (slotLen s j.slot ≤ off + n → t.dep.scrubUnit = 0 ∧ t.dep.scrubSlot = if s.dep.scrubSlot = 7 then 0 else s.dep.scrubSlot + 1)))
    ∧ (unitCrcOk h u raw = false → j.tries < 3 → Does (.flashReadDone (some raw)) s (fun t => t.dep.bg = some { j with tries := j.tries + 1 }
      ∧ getf t F.DEP_CNT_RETRIES = min 65535 (getf s F.DEP_CNT_RETRIES + 1))) := by
  have hexec := exec_scrubRead hidle hbg hk hunit hkind hdue raw
  refine ⟨fun hcrc htries => ⟨_, hexec, ?_⟩, fun hcrc htries => ⟨_, hexec, ?_⟩⟩
  · rw [scrubRead_good hk hunit hcrc htries]
    obtain ⟨hnone, hop, hmore, hlast⟩ := scrubNext_closed s (decide (slotLen s j.slot ≤ off + n))
    exact ⟨hnone, hop, fun hlt => hmore (by simpa using hlt), fun hle => hlast (by simpa using hle)⟩
  · rw [scrubRead_again hk hunit hcrc htries]
    exact ⟨rfl, rereads ..⟩

end

end

/-- Settles O38: a sector is erased, then programmed page by page; a failure goes to the directory first; a read delivers and ends. -/
theorem depotFlashWork : Obligations.DepotFlashWork := by
  unfold Obligations.DepotFlashWork
  intro s
  refine ⟨fun fg j hcur htap => ⟨flashEraseDone_good hcur htap, flashProgramDone_good hcur htap,
      fun span pos d l htodo q hq => flashDone_failed hcur htodo hq⟩,
    fun j o bs hjobs hkind hj hop hdue hbytes => ?_,
    fun j raw hjobs hkind hj hlen hdue => flashReadDone_boot hjobs hkind hj hlen hdue,
    fun j off n u h raw hidle hbg hkind hk hunit hdue => flashReadDone_scrub hidle hbg hk hunit hkind hdue⟩
  have htake := takeFlashReadDone_read hjobs hj hop hkind hbytes
  exact ⟨fun hspace hmember => readToHost hjobs hj hop hspace hmember hdue htake,
    fun hspace hbank => readToBanks hjobs hj hop hspace hbank hdue htake⟩

end Sys2Proof.Machine

/-! ### DEPOT_DISCOVERY and DEPOT_SCRUB_DUE (R170 to R176, R188), and O39 -/
namespace Sys2Proof.Machine

section
variable {s t v : State} {x : Sfdp}

/-! #### The flash is found (R170, R172, R173) -/

/-- A flash of supported size answers: the depot is present. -/
def flashFound (s : State) (x : Sfdp) : State :=
  setf (setf (setf (setf (setDep s { s.dep with discovered := true }) F.DEP_STAT_PRESENT 1) F.DEP_FLASH_SECTORS x.sectors) F.DEP_FLASH_MFR x.mfr)
    F.DEP_STAT_SUSPEND (b2n x.suspend)

/-- The directory copy that is used, where one is valid (R176). -/
def dirTaken (s : State) : Option (Nat × Dir) → State
  | some (k, d) => showDir (setf (setf (setDir s d) F.DEP_STAT_COPY k) F.DEP_STAT_FORMATTED 1)
  | none => s

/-- The directory copy of the flash that is to be used (R175, R176). -/
def dirFound (s : State) (sectors : Nat) : Option (Nat × Dir) :=
  dirChoose (dirParse sectors (flashRead s 0 0x2204)) (dirParse sectors (flashRead s 0x10000 0x2204))

/-- The mode and clock of the flash's reads (R171). -/
def modeTaken (s : State) (x : Sfdp) : State :=
  setf (setf s F.DEP_STAT_MODE (flChoose x s.dep.dir).1) F.DEP_STAT_CLK (flChoose x s.dep.dir).2

/-- Discovery's findings, before ranges are resumed. -/
def depotFound (s : State) (x : Sfdp) : State := modeTaken (dirTaken (flashFound s x) (dirFound s x.sectors)) x

theorem depotFound_made (s : State) (x : Sfdp) : Made 295147905179419934722 s (depotFound s x) := by
  have hfound : Made 295147905179419934722 s (flashFound s x) :=
    setf_made (by decide) _ _ _ rfl (setf_made (by decide) _ _ _ rfl (setf_made (by decide) _ _ _ rfl (setf_made (by decide) _ _ _ rfl
      (.set_dep (by decide) (.refl ..) _))))
  have hdir : Made 295147905179419934722 s (dirTaken (flashFound s x) (dirFound s x.sectors)) := by
    unfold dirTaken
    split
    · exact showDir_made (by decide) _ (setf_made (by decide) _ _ _ rfl (setf_made (by decide) _ _ _ rfl (.set_dep (by decide) hfound _)))
    · exact hfound
  exact setf_made (by decide) _ _ _ rfl (setf_made (by decide) _ _ _ rfl hdir)

/-- A range that waits for nothing is not resumed (R538). -/
theorem resumeRange_settled {r : Nat} (h : rngState s r ≤ 1) : resumeRange s r = s := by
  have hstate : rngState s r = 0 ∨ rngState s r = 1 := by omega
  unfold resumeRange
  rcases hstate with h | h <;> rw [h] <;> rfl

theorem resumeRanges_settled (h : ∀ r < 8, rngState s r ≤ 1) : (List.range 8).foldl resumeRange s = s :=
  List.foldlRecOn (motive := fun t => t = s) (List.range 8) resumeRange rfl fun _ ht r hr => by
    subst ht
    exact resumeRange_settled (h r (List.mem_range.1 hr))

/-- After discovery a boot that waits for the depot goes on. -/
def bootServed (s : State) : Host.Outcome State Fault Refusal :=
  match s.boot.run, s.boot.path with
  | true, src :: t =>
    if src = 2 ∨ src = 3 then
      (if depotUsable s then done (bootJob s src) else done (setBoot s { path := src :: t, run := true, bad := some 6 }))
    else done s
  | _, _ => done s

theorem bootServed_idle (h : s.boot.run = false) : bootServed s = .next s := by
  unfold bootServed
  rw [h]

/-- The flash answers, and its size is supported. -/
def flashHere (x : Sfdp) : Bool := x.present && (x.sectors == 512 || x.sectors == 1024 || x.sectors == 2048)

/-- The ranges that wait are resumed where the depot can be used (R538). -/
def rangesServed (s : State) : State := if depotUsable s then (List.range 8).foldl resumeRange s else s

theorem exec_depotDiscovery (hdue : discoveryDue s = true) : exec (.depotDiscovery x) s = bootServed (if flashHere x = false
    then setDep s { s.dep with discovered := true }
    else rangesServed (modeTaken (dirTaken (flashFound s x) (dirFound (flashFound s x) x.sectors)) x)) := by
  show execDepotDiscovery x s = _
  unfold execDepotDiscovery
  rw [if_neg (by simp [hdue])]
  rfl

theorem exec_depotDiscovery_absent (hdue : discoveryDue s = true) (hrun : s.boot.run = false) (hhere : flashHere x = false) :
    exec (.depotDiscovery x) s = .next { s with dep := { s.dep with discovered := true } } := by
  rw [exec_depotDiscovery hdue, if_pos hhere]
  exact bootServed_idle (s := setDep s { s.dep with discovered := true }) hrun

theorem dirFound_congr (hflash : t.flash = s.flash) (hfill : t.flashFill = s.flashFill) (n : Nat) : dirFound t n = dirFound s n := by
  unfold dirFound
  rw [flashRead_congr hflash hfill, flashRead_congr hflash hfill]

theorem exec_depotDiscovery_found (hdue : discoveryDue s = true) (hrun : s.boot.run = false) (hranges : ∀ r < 8, rngState s r ≤ 1)
    (hhere : flashHere x = true) : exec (.depotDiscovery x) s = .next (depotFound s x) := by
  have hmade := depotFound_made s x
  have hboot : (depotFound s x).boot.run = false := (congrArg Boot.run (hmade.boot rfl)).trans hrun
  have hsettled (r : Nat) (hr : r < 8) : rngState (depotFound s x) r ≤ 1 := by
    have hstate : rngState (depotFound s x) r = rngState s r :=
      getf_congr (f := F.SCR_RNG_CTL_STATE r) (hmade.blk _ (by rw [F.SCR_RNG_CTL_STATE_blk]; rfl))
    exact hstate ▸ hranges r hr
  have hserved : rangesServed (depotFound s x) = depotFound s x := by
    unfold rangesServed
    rw [resumeRanges_settled hsettled, ite_self]
  rw [exec_depotDiscovery hdue, if_neg (by rw [hhere]; decide), dirFound_congr (t := flashFound s x) (s := s) rfl rfl]
  exact (congrArg bootServed hserved).trans (bootServed_idle hboot)

/-! #### What discovery shows -/

/-- A mode code and a clock code. -/
def FlCodes (p : Nat × Nat) : Prop := p.1 < 4 ∧ p.2 < 8

/-- The codes that discovery chooses are in their tables (R171). -/
theorem flChoose_codes (x : Sfdp) (d : Dir) : FlCodes (flChoose x d) := by
  refine List.foldlRecOn (motive := FlCodes) (List.range 4) _ ⟨by decide, by decide⟩ fun best hbest m hm => ?_
  split
  case h_1 c hc =>
    have hclk : flClk x d m = some c := by
      split at hc
      · exact hc
      · cases hc
    have hcode : c ∈ [4, 3, 2, 1, 0] := List.mem_of_find?_eq_some hclk
    have hlt : c < 8 := by
      simp only [List.mem_cons, List.not_mem_nil, or_false] at hcode
      omega
    split
    · exact ⟨List.mem_range.1 hm, hlt⟩
    · exact hbest
  case h_2 => exact hbest

theorem modeTaken_shows (s : State) (x : Sfdp) :
    (getf (modeTaken s x) F.DEP_STAT_MODE, getf (modeTaken s x) F.DEP_STAT_CLK) = flChoose x (modeTaken s x).dep.dir := by
  obtain ⟨hmode, hclk⟩ := flChoose_codes x s.dep.dir
  refine Prod.ext ?_ (getf_setf_fits _ (by decide) hclk)
  exact (getf_setf_bits _ F.DEP_STAT_CLK F.DEP_STAT_MODE _ (by decide)).trans (getf_setf_fits _ (by decide) hmode)

/-- The mode and the clock stand alone in their fields. -/
theorem getf_modeTaken {f : Fld} (h : f.lo + f.width ≤ 2 ∨ 7 ≤ f.lo) (s : State) (x : Sfdp) : getf (modeTaken s x) f = getf s f :=
  (getf_setf_bits _ F.DEP_STAT_CLK f _ (show 7 ≤ f.lo ∨ f.lo + f.width ≤ 4 by omega)).trans
    (getf_setf_bits _ F.DEP_STAT_MODE f _ (show 4 ≤ f.lo ∨ f.lo + f.width ≤ 2 by omega))

theorem isSet_modeTaken {f : Fld} (h : f.lo + f.width ≤ 2 ∨ 7 ≤ f.lo) (s : State) (x : Sfdp) : isSet (modeTaken s x) f = isSet s f := by
  unfold isSet
  rw [getf_modeTaken h]

theorem rd_modeTaken {r : Nat} (h : r ≠ R.DEP_STAT) (s : State) (x : Sfdp) : rd (modeTaken s x) r = rd s r :=
  (rd_setf_ne h _ _).trans (rd_setf_ne h _ _)

/-- What else DEP_STAT and DEP_FLASH say is not of the directory. -/
theorem getf_dirTaken {f : Fld} (h : f.reg = R.DEP_STAT ∧ (f.lo + f.width ≤ 1 ∨ 2 ≤ f.lo ∧ f.lo + f.width ≤ 11) ∨ f.reg = R.DEP_FLASH) (s : State)
    (c : Option (Nat × Dir)) : getf (dirTaken s c) f = getf s f := by
  unfold dirTaken
  split
  case h_1 k d =>
    have hlow : f.reg < 0x40040 ∧ f.reg ≠ R.DEP_GEN ∧ f.reg ≠ R.DEP_CNT := by rcases h with ⟨h, -⟩ | h <;> rw [h] <;> decide
    obtain ⟨hlow, hgen, hcnt⟩ := hlow
    have hshow (u : State) : rd (showDir u) f.reg = rd u f.reg := by rw [rd_showDir hlow, rd_setf_ne hcnt, rd_wr_ne hgen]
    have happart : f.reg ≠ R.DEP_STAT ∨ f.lo + f.width ≤ 1 ∨ 2 ≤ f.lo ∧ f.lo + f.width ≤ 11 := by
      rcases h with h | h
      · exact .inr h.2
      · exact .inl (by rw [h]; decide)
    rw [getf_congr (hshow _), getf_setf_apart (f := F.DEP_STAT_FORMATTED) (happart.imp_right (by show _ → 2 ≤ f.lo ∨ f.lo + f.width ≤ 1; omega)),
      getf_setf_apart (f := F.DEP_STAT_COPY) (happart.imp_right (by show _ → 12 ≤ f.lo ∨ f.lo + f.width ≤ 11; omega))]
    rfl
  case h_2 => rfl

theorem isSet_dirTaken {f : Fld} (h : f.reg = R.DEP_STAT ∧ (f.lo + f.width ≤ 1 ∨ 2 ≤ f.lo ∧ f.lo + f.width ≤ 11)) (s : State)
    (c : Option (Nat × Dir)) : isSet (dirTaken s c) f = isSet s f := by
  unfold isSet
  rw [getf_dirTaken (.inl h)]

/-- The depot is present, with the flash's size, maker and suspend. -/
theorem flashFound_shows (s : State) (x : Sfdp) : isSet (flashFound s x) F.DEP_STAT_PRESENT = true
    ∧ getf (flashFound s x) F.DEP_FLASH_SECTORS = x.sectors % 4096 ∧ getf (flashFound s x) F.DEP_FLASH_MFR = x.mfr % 256
    ∧ isSet (flashFound s x) F.DEP_STAT_SUSPEND = x.suspend
    ∧ isSet (flashFound s x) F.DEP_STAT_FORMATTED = isSet s F.DEP_STAT_FORMATTED := by
  unfold flashFound
  generalize hu : setDep s { s.dep with discovered := true } = u
  generalize ha : setf u F.DEP_STAT_PRESENT 1 = a
  generalize hb : setf a F.DEP_FLASH_SECTORS x.sectors = b
  generalize hc : setf b F.DEP_FLASH_MFR x.mfr = c
  have hpresent : isSet a F.DEP_STAT_PRESENT = true := ha ▸ isSet_setf_one u rfl (by decide)
  have hstat (f : Fld) (hf : f.reg = R.DEP_STAT) : getf c f = getf a f := by
    rw [← hc, getf_setf_reg _ _ _ _ (by rw [hf]; decide), ← hb, getf_setf_reg _ _ _ _ (by rw [hf]; decide)]
  refine ⟨?_, ?_, ?_, isSet_setf_b2n c F.DEP_STAT_SUSPEND x.suspend rfl (by decide), ?_⟩
  · rw [isSet_setf_apart (by decide)]
    unfold isSet at hpresent ⊢
    rw [hstat _ rfl]
    exact hpresent
  · rw [getf_setf_reg _ _ _ _ (by decide), ← hc, getf_setf_bits _ _ _ _ (by decide), ← hb]
    exact getf_setf_same a F.DEP_FLASH_SECTORS x.sectors (by decide)
  · rw [getf_setf_reg _ _ _ _ (by decide), ← hc]
    exact getf_setf_same b F.DEP_FLASH_MFR x.mfr (by decide)
  · rw [isSet_setf_apart (by decide)]
    unfold isSet
    rw [hstat _ rfl, ← ha, getf_setf_bits _ _ _ _ (by decide), ← hu]
    rfl

theorem dirChoose_copy {a b : Option Dir} {k : Nat} {d : Dir} (h : dirChoose a b = some (k, d)) : k < 2 := by
  unfold dirChoose at h
  split at h
  case h_1 => split at h <;> obtain ⟨rfl, -⟩ := Prod.mk.inj (Option.some.inj h) <;> decide
  case h_2 => obtain ⟨rfl, -⟩ := Prod.mk.inj (Option.some.inj h); decide
  case h_3 => obtain ⟨rfl, -⟩ := Prod.mk.inj (Option.some.inj h); decide
  case h_4 => cases h

theorem dirDone_gen (s : State) (k : Nat) : rd (dirDone s k) R.DEP_GEN = w32 s.dep.dir.gen := by
  unfold dirDone
  generalize hv : setf (setf s F.DEP_STAT_COPY k) F.DEP_STAT_FORMATTED 1 = v
  have hdep : v.dep = s.dep := by rw [← hv]; rfl
  rw [rd_showDir (by decide), rd_setf_ne (by decide), rd_wr_same, hdep]

/-- The directory in use is the one that is taken, and it is shown. -/
theorem dirTaken_some (s : State) {k : Nat} (hk : k < 2) (d : Dir) : (dirTaken s (some (k, d))).dep = { s.dep with dir := d }
    ∧ getf (dirTaken s (some (k, d))) F.DEP_STAT_COPY = k ∧ isSet (dirTaken s (some (k, d))) F.DEP_STAT_FORMATTED = true
    ∧ rd (dirTaken s (some (k, d))) R.DEP_GEN = w32 d.gen := by
  have htaken : dirTaken s (some (k, d)) = dirDone (setDir s d) k := rfl
  rw [htaken]
  obtain ⟨hcopy, hformatted⟩ := dirDone_stat (setDir s d) k
  have hdep := (dirDone_made (Nat.or_self _) (setDir s d) k (.refl ..)).dep rfl
  exact ⟨hdep, hcopy.trans (Nat.mod_eq_of_lt hk), hformatted, dirDone_gen (setDir s d) k⟩

theorem depotDiscovery_shows (hdue : discoveryDue s = true) (hrun : s.boot.run = false) (hranges : ∀ r < 8, rngState s r ≤ 1)
    (hhere : flashHere x = true) : Does (.depotDiscovery x) s (fun t => t.dep.discovered = true ∧ isSet t F.DEP_STAT_PRESENT = true
      ∧ getf t F.DEP_FLASH_SECTORS = x.sectors ∧ getf t F.DEP_FLASH_MFR = x.mfr % 256 ∧ isSet t F.DEP_STAT_SUSPEND = x.suspend
      ∧ (getf t F.DEP_STAT_MODE, getf t F.DEP_STAT_CLK) = flChoose x t.dep.dir
      ∧ (match dirFound s x.sectors with
        | some (k, d) => t.dep.dir = d ∧ getf t F.DEP_STAT_COPY = k ∧ isSet t F.DEP_STAT_FORMATTED = true ∧ rd t R.DEP_GEN = w32 d.gen
        | none => t.dep.dir = s.dep.dir ∧ isSet t F.DEP_STAT_FORMATTED = isSet s F.DEP_STAT_FORMATTED)) := by
  have hsize : x.sectors % 4096 = x.sectors := by
    simp only [flashHere, Bool.and_eq_true, Bool.or_eq_true, beq_iff_eq] at hhere
    omega
  refine ⟨_, exec_depotDiscovery_found hdue hrun hranges hhere, ?_⟩
  unfold depotFound
  obtain ⟨hpresent, hsectors, hmfr, hsuspend, hformatted⟩ := flashFound_shows s x
  obtain ⟨hdisc, hdir⟩ : (flashFound s x).dep.discovered = true ∧ (flashFound s x).dep.dir = s.dep.dir := ⟨rfl, rfl⟩
  generalize flashFound s x = u at hpresent hsectors hmfr hsuspend hformatted hdisc hdir
  have hdiscovered : (dirTaken u (dirFound s x.sectors)).dep.discovered = true := by
    cases hc : dirFound s x.sectors with
    | none => exact hdisc
    | some c => exact (congrArg Dep.discovered (dirTaken_some u (dirChoose_copy hc) c.2).1).trans hdisc
  refine ⟨hdiscovered, ?_, ?_, ?_, ?_, modeTaken_shows _ x, ?_⟩
  · rw [isSet_modeTaken (by decide), isSet_dirTaken (by decide), hpresent]
  · rw [getf_congr (rd_modeTaken (by decide) _ x), getf_dirTaken (by decide), hsectors, hsize]
  · rw [getf_congr (rd_modeTaken (by decide) _ x), getf_dirTaken (by decide), hmfr]
  · rw [isSet_modeTaken (by decide), isSet_dirTaken (by decide), hsuspend]
  · cases hc : dirFound s x.sectors with
    | none => exact ⟨hdir, (isSet_modeTaken (by decide) u x).trans hformatted⟩
    | some c =>
      obtain ⟨hdir, hcopy, hform, hgen⟩ := dirTaken_some u (dirChoose_copy hc) c.2
      exact ⟨congrArg Dep.dir hdir, (getf_modeTaken (by decide) _ x).trans hcopy,
        (isSet_modeTaken (by decide) _ x).trans hform, (rd_modeTaken (by decide) _ x).trans hgen⟩

/-! #### The scrub (R188) -/

theorem spanAddr_congr (hdir : t.dep.dir = s.dep.dir) (hregs : t.regs = s.regs) (i y : Nat) : spanAddr t i y = spanAddr s i y := by
  unfold spanAddr
  rw [spanGood_congr hdir fun r => rd_congr hregs _]

theorem slotUnit_congr (hdir : t.dep.dir = s.dep.dir) (hregs : t.regs = s.regs) (hflash : t.flash = s.flash) (hfill : t.flashFill = s.flashFill)
    (slot len : Nat) (fuel u base : Nat) : slotUnit t slot len u base fuel = slotUnit s slot len u base fuel := by
  induction fuel generalizing u base with
  | zero => rfl
  | succ n ih =>
    unfold slotUnit
    rw [spanRead_congr hdir hregs hflash hfill]
    simp only [ih]

theorem weakSectors_congr (hdir : t.dep.dir = s.dep.dir) (hregs : t.regs = s.regs) (hflash : t.flash = s.flash) (hfill : t.flashFill = s.flashFill)
    (slot u : Nat) : weakSectors t slot u = weakSectors s slot u := by
  have hw0 : slotW0 t slot = slotW0 s slot := by unfold slotW0; rw [hdir]
  have hlen : slotLen t slot = slotLen s slot := by unfold slotLen; rw [hdir]
  unfold weakSectors
  simp only [hw0, hlen, spanAddr_congr hdir hregs, slotUnit_congr hdir hregs hflash hfill]

section
variable (haway : away s 21 = false) (husable : depotUsable s = true) (hen : isSet s F.DEP_CTL_SCRUB_EN = true) (hidle : depotIdle s)
include haway husable hen hidle

theorem depotScrubDue_free : ¬(away s 21 = true ∨ depotUsable s = false ∨ isSet s F.DEP_CTL_SCRUB_EN = false ∨ s.dep.bg ≠ none ∨ s.dep.jobs ≠ []) := by
  obtain ⟨hjobs, hbg⟩ := hidle
  simp [haway, husable, hen, hjobs, hbg]

theorem depotScrubDue_reads (hweak : s.dep.weak = []) (hscrub : scrubbable s s.dep.scrubSlot = true) : Does .depotScrubDue s (fun t =>
    t.dep = { s.dep with bg := some { kind := 6, slot := s.dep.scrubSlot, units := s.dep.scrubUnit } } ∧ getf t F.DEP_STAT_OP = 6
    ∧ t.flash = s.flash ∧ t.out = s.out) := by
  refine ⟨putJob s false { kind := 6, slot := s.dep.scrubSlot, units := s.dep.scrubUnit }, ?_, rfl, putJob_op _ _ _ (show 6 < 8 by decide), rfl, rfl⟩
  have hskip : scrubSkip s 8 = s := if_pos hscrub
  show execDepotScrubDue s = _
  unfold execDepotScrubDue
  rw [if_neg (depotScrubDue_free haway husable hen hidle), hweak]
  dsimp only
  rw [List.find?_nil, ite_self]
  dsimp only
  rw [hskip]
  exact if_pos hscrub

/-- The weak unit is no longer listed. -/
def weakTaken (s : State) (slot u : Nat) : State := setDep s { s.dep with weak := s.dep.weak.filter (fun p => p != (slot, u)) }

theorem depotScrubDue_refreshes {slot u k : Nat} {l : List Nat} (hrefresh : isSet s F.DEP_CTL_REFRESH_EN = true)
    (hsuspend : isSet s F.DEP_STAT_SUSPEND = true) (htap : tapOwns s = false)
    (hfind : s.dep.weak.find? (fun p => !s.dep.lost.contains p.1) = some (slot, u)) (hsectors : weakSectors s slot u = k :: l) :
    Does .depotScrubDue s (fun t => .flash 1 (k * 0x10000) [] ∈ t.out ∧ (slot, u) ∉ t.dep.weak ∧ getf t F.DEP_STAT_OP = 7
      ∧ ∃ j, t.dep.bg = some j ∧ j.kind = 7 ∧ j.st = 1 ∧ j.sector = k ∧ j.data = flashRead s (k * 0x10000) 0x10000) := by
  have hweak : weakSectors (weakTaken s slot u) slot u = k :: l := (weakSectors_congr (t := weakTaken s slot u) (s := s) rfl rfl rfl rfl slot u).trans hsectors
  have hdata : flashRead (weakTaken s slot u) (k * 0x10000) 0x10000 = flashRead s (k * 0x10000) 0x10000 :=
    flashRead_congr (t := weakTaken s slot u) (s := s) rfl rfl (k * 0x10000) 0x10000
  have hmem : (slot, u) ∉ (weakTaken s slot u).dep.weak := fun h => by simp [weakTaken, setDep] at h
  generalize hj : ({ kind := 7, slot := slot, todo := .refresh slot k :: (l.map (fun k => Act.refresh slot k) ++ [.dir]) } : Job) = j
  have hexec : exec .depotScrubDue s = .next (runJob (weakTaken s slot u) false j (jobFuel j)) := by
    show execDepotScrubDue s = _
    unfold execDepotScrubDue
    rw [if_neg (depotScrubDue_free haway husable hen hidle), hrefresh, hsuspend, hfind]
    show done (runJob (weakTaken s slot u) false { kind := 7, slot := slot, todo := (weakSectors (weakTaken s slot u) slot u).map _ ++ [.dir] } _) = _
    rw [hweak, ← hj]
    rfl
  obtain ⟨htodo, hkind⟩ : j.todo = .refresh slot k :: (l.map (fun k => Act.refresh slot k) ++ [.dir]) ∧ j.kind = 7 := by
    subst hj
    exact ⟨rfl, rfl⟩
  have hrun := runJob_refresh (s := weakTaken s slot u) (fg := false) (j.todo.length + 3) htodo
  rw [hdata] at hrun
  refine ⟨_, hexec.trans (congrArg Host.Outcome.next hrun), ?_, ?_, ?_, eraseJob j k _, ?_, hkind, rfl, rfl, rfl⟩
  · rw [beginErase_out (s := weakTaken s slot u) htap]
    simp
  · rw [beginErase_dep]
    exact hmem
  · rw [beginErase_eq, putJob_op _ _ _ (by show j.kind < 8; omega)]
    exact hkind
  · rw [beginErase_dep]
    rfl

end

end

/-- Settles O39: discovery's findings are shown in DEP_STAT and DEP_FLASH; the scrub reads its unit, or refreshes a weak one first. -/
theorem depotDiscoveryAndScrub : Obligations.DepotDiscoveryAndScrub := by
  unfold Obligations.DepotDiscoveryAndScrub
  intro s
  refine ⟨fun x hdue hrun hranges => ⟨fun hhere => ⟨_, exec_depotDiscovery_absent hdue hrun hhere, rfl⟩,
      fun hhere => depotDiscovery_shows hdue hrun hranges hhere⟩,
    fun haway husable hen hidle => ⟨depotScrubDue_reads haway husable hen hidle, fun slot u k l hrefresh hsuspend htap hfind hsectors =>
      depotScrubDue_refreshes haway husable hen hidle hrefresh hsuspend htap hfind hsectors⟩⟩

end Sys2Proof.Machine

/-! ### What a message of the chain leaves as it is -/
namespace Sys2Proof.Machine

/-- Between `s` and `t` every message stays, the ports are UP as they were, and the unit has its address. -/
structure ChainKept (s t : State) : Prop where
  keeps : KeepsMsgs s t
  up_eq : ∀ p, portUp t p = portUp s p
  addr_eq : ownAddr t = ownAddr s

namespace ChainKept
variable {s0 s t u : State}

theorem refl (s : State) : ChainKept s s := ⟨.refl s, fun _ => rfl, rfl⟩

theorem trans (h : ChainKept s t) (k : ChainKept t u) : ChainKept s u :=
  ⟨⟨fun p m hc => k.keeps.carries_of p m (h.keeps.carries_of p m hc)⟩, fun p => (k.up_eq p).trans (h.up_eq p), k.addr_eq.trans h.addr_eq⟩

/-- An operation that neither sends nor writes the blocks CHN and ENU. -/
theorem of_made {M : Nat} (k : Made M s t) (hports : M.testBit 38 = false) (hchn : M.testBit 74 = false) (henu : M.testBit 75 = false) : ChainKept s t :=
  ⟨(KeepsMsgs.refl s).of_made k hports,
    fun p => by unfold portUp; rw [getf_congr (k.blk _ (by rw [F.CHN_PSTAT_STATE_blk]; exact hchn))], getf_congr (k.blk _ henu)⟩

/-- A field of another block. -/
theorem setf (h : ChainKept s0 s) (f : Fld) (v : Nat) (hf : blockOf f.reg = 4) : ChainKept s0 (setf s f v) := by
  have hne (g : Fld) (k : Nat) (hg : blockOf g.reg = k) (hk : k ≠ 4) : g.reg ≠ f.reg := fun he => hk (by rw [← hg, he, hf])
  refine h.trans ⟨(KeepsMsgs.refl s).of_ports rfl, fun p => ?_, getf_setf_reg _ _ _ _ (hne _ 11 rfl (by decide))⟩
  unfold portUp
  rw [getf_setf_reg _ _ _ _ (hne _ 10 (F.CHN_PSTAT_STATE_blk p) (by decide))]

theorem setLoad (h : ChainKept s0 s) (l : Load) : ChainKept s0 { s with load := l } := h.trans ⟨(KeepsMsgs.refl s).of_ports rfl, fun _ => rfl, rfl⟩

theorem send (h : ChainKept s0 s) (p : Nat) (m : Msg) : ChainKept s0 (sendMsg s p m) :=
  h.trans ⟨sendMsg_keepsMsgs (.refl s), fun q => by unfold portUp; rw [getf_congr ((sendMsg_link (.refl s)).port_eq q)],
    getf_congr (sendMsg_rd_enu rfl s p m)⟩

theorem take (s : State) (p : Nat) (m : Msg) : ChainKept s (takeMsg s p m) :=
  ⟨freeCells_keepsMsgs (acceptMsg_keepsMsgs (.refl s)), fun q => acceptMsg_portUp s p q m, getf_congr (takeMsg_rd_enu rfl s p m)⟩

theorem raise9 (h : ChainKept s0 s) (f : Fld) (hf : blockOf f.reg = 4) : ChainKept s0 (raise9 s f) := by
  have hset : ChainKept s0 (raise s f) := h.setf f 1 hf
  have hevent : ChainKept (raise s f) (devEvent (raise s f) 9) :=
    ⟨devEvent_keepsMsgs (.refl _), fun q => by unfold portUp; rw [getf_congr ((devEvent_link (.refl _)).port_eq q)],
      getf_congr ((devEvent_made (Nat.or_self _) _ 9 (.refl ..)).blk _ rfl)⟩
  unfold Machine.raise9
  split
  · exact h
  · exact hset.trans hevent

end ChainKept

section
variable {s t u : State} {p : Nat} {m : Msg}

/-- A message that goes out on the way is sent. -/
theorem sends_after (h : ChainKept s u) (k : sends u t p m) : sends s t p m := fun hup => k ((h.up_eq p).trans hup)

/-- A message that has gone out stays sent. -/
theorem sends_before (h : sends s u p m) (k : ChainKept u t) : sends s t p m := fun hup => k.keeps.carries_of p m (h hup)

/-- A message sent after what kept the ports. -/
theorem sends_sendMsg (h : ChainKept s u) (p : Nat) (m : Msg) : sends s (sendMsg u p m) p m := sends_after h (sendMsg_sends u p m)

/-! #### Sending and taking change the chain's ports only -/

theorem sendMsg_load (s : State) (p : Nat) (m : Msg) : (sendMsg s p m).load = s.load := (sendMsg_made (Nat.or_self _) s p m (.refl ..)).load rfl

theorem sendMsg_dep (s : State) (p : Nat) (m : Msg) : (sendMsg s p m).dep = s.dep := (sendMsg_made (Nat.or_self _) s p m (.refl ..)).dep rfl

theorem sendMsg_boot (s : State) (p : Nat) (m : Msg) : (sendMsg s p m).boot = s.boot := (sendMsg_made (Nat.or_self _) s p m (.refl ..)).boot rfl

theorem sendMsg_rd_dep {r : Nat} (hb : blockOf r = 4) (s : State) (p : Nat) (m : Msg) : rd (sendMsg s p m) r = rd s r :=
  (sendMsg_made (Nat.or_self _) s p m (.refl ..)).blk r (by rw [hb]; rfl)

theorem takeMsg_load (s : State) (p : Nat) (m : Msg) : (takeMsg s p m).load = s.load := (takeMsg_made (Nat.or_self _) s p m (.refl ..)).load rfl

theorem takeMsg_boot (s : State) (p : Nat) (m : Msg) : (takeMsg s p m).boot = s.boot := (takeMsg_made (Nat.or_self _) s p m (.refl ..)).boot rfl

theorem takeMsg_rd_dep {r : Nat} (hb : blockOf r = 4) (s : State) (p : Nat) (m : Msg) : rd (takeMsg s p m) r = rd s r :=
  (takeMsg_made (Nat.or_self _) s p m (.refl ..)).blk r (by rw [hb]; rfl)

theorem takeMsg_away (s : State) (p : Nat) (m : Msg) (d : Nat) : away (takeMsg s p m) d = away s d := by
  have hmade := takeMsg_made (Nat.or_self _) s p m (.refl ..)
  unfold away
  rw [fenced_congr (hmade.blk _ rfl), inReset_congr (hmade.blk _ rfl) (hmade.doms rfl)]

theorem chainBoot_congr (h : t.boot = s.boot) : chainBoot t = chainBoot s := by unfold chainBoot; rw [h]

theorem raise9_load (s : State) (f : Fld) : (raise9 s f).load = s.load := by
  unfold raise9
  split
  · rfl
  · exact (devEvent_made (Nat.or_self _) (raise s f) 9 (.refl ..)).load rfl

theorem raise9_boot (s : State) (f : Fld) : (raise9 s f).boot = s.boot := by
  unfold raise9
  split
  · rfl
  · exact (devEvent_made (Nat.or_self _) (raise s f) 9 (.refl ..)).boot rfl

/-- Whether the unit serves images is in ENU_STAT and beside the chain's loading. -/
theorem servesImages_congr (hrd : rd t R.ENU_STAT = rd s R.ENU_STAT) (hpwr : t.pwr = s.pwr) (henu : t.enu = s.enu) : servesImages t = servesImages s := by
  have hrole : getf t F.ENU_STAT_ROLE = getf s F.ENU_STAT_ROLE := getf_congr hrd
  unfold servesImages isHead
  rw [hrole, hpwr, henu]

theorem chainSlot_congr (hrd : rd t R.DEP_STAT = rd s R.DEP_STAT) (hdep : t.dep = s.dep) : chainSlot t = chainSlot s := by
  have husable : depotUsable t = depotUsable s := by
    unfold depotUsable
    rw [isSet_congr (f := F.DEP_STAT_PRESENT) hrd, isSet_congr (f := F.DEP_STAT_FORMATTED) hrd]
  have hlen (i : Nat) : slotLen t i = slotLen s i := by unfold slotLen; rw [hdep]
  have hkind : slotOfKind t 3 = slotOfKind s 3 := by unfold slotOfKind slotW0; rw [hdep]
  unfold chainSlot
  simp only [husable, hlen, hkind]

end

end Sys2Proof.Machine

/-! ### Image requests (R190, R191) -/
namespace Sys2Proof.Machine

section
variable {s : State} {m : Msg}

theorem freeCells_getf (s : State) (p v n : Nat) (f : Fld) : getf (freeCells s p v n) f = getf s f := rfl

/-- Another unit passes the request up. -/
theorem imageReq_passes (hserves : servesImages s = false) (m : Msg) : Does (.imageReq m) s (fun t =>
    if portUp s 0 then carries t 0 m else getf t F.ENU_CNT_NOROUTE = min 65535 (getf s F.ENU_CNT_NOROUTE + 1)) := by
  have hexec : exec (.imageReq m) s = .next (passOn s 1 m) := if_pos (by rw [hserves]; rfl)
  have hup := acceptMsg_portUp s 1 0 m
  refine ⟨_, hexec, ?_⟩
  unfold passOn
  dsimp only
  rw [show 1 - 1 = 0 from rfl, hup]
  split
  · exact queueMsg_carries (by rwa [hup]) ..
  · have hcount : getf (acceptMsg s 1 m) F.ENU_CNT_NOROUTE = getf s F.ENU_CNT_NOROUTE :=
      getf_congr ((acceptMsg_made (Nat.or_self _) s 1 m (.refl ..)).blk _ rfl)
    rw [freeCells_getf, getf_satAdd _ _ _ (by decide), hcount]
    rfl

/-- REQ_ACK as the unit sends it. -/
def reqAckOf (s : State) : Msg :=
  ⟨0x41, 0, toAll, [w32 ((s.load.lastRound + 1) % 2 ^ 16 * 2 ^ 16), w32 (if s.load.round.isSome then 1 else 0), 0#32, 0#32], []⟩

theorem imageReq_holds (hserves : servesImages s = true) {i : Nat} (hslot : chainSlot s = some i) (m : Msg) : Does (.imageReq m) s (fun t =>
    t.load = { s.load with pending := s.load.pending + 1 } ∧ sends s t 1 (reqAckOf s)) := by
  have hload := takeMsg_load s 1 m
  have hkept := ChainKept.take s 1 m
  have hmade := takeMsg_made (Nat.or_self _) s 1 m (.refl ..)
  have hslot' : chainSlot (takeMsg s 1 m) = some i := (chainSlot_congr (hmade.blk _ rfl) (hmade.dep rfl)).trans hslot
  have hexec : exec (.imageReq m) s
      = .next (floodAck { takeMsg s 1 m with load := { (takeMsg s 1 m).load with pending := (takeMsg s 1 m).load.pending + 1 } }) := by
    show execImageReq m s = _
    unfold execImageReq
    rw [if_neg (by simp [hserves])]
    dsimp only
    rw [hslot']
  rw [hload] at hexec
  exact ⟨_, hexec, sendMsg_load .., sends_sendMsg (hkept.setLoad _) 1 (reqAckOf s)⟩

/-- A message of the head about round `r` (ROUND_BEGIN, ROUND_ABORT). -/
def roundMsg (ty r : Nat) (w : W32) : Msg := ⟨ty, 0, toNext, [w32 (r * 2 ^ 16), w, 0#32, 0#32], []⟩

/-- A round without an image: ROUND_BEGIN, and ROUND_ABORT with reason 6. -/
def emptyRound (s : State) (r : Nat) : State :=
  let t := sendMsg (sendMsg s 1 (roundMsg 0x42 r 0#32)) 1 (roundMsg 0x45 r 6#32)
  { t with load := { t.load with lastRound := r } }

theorem imageReq_empty (hserves : servesImages s = true) (hslot : chainSlot s = none) (m : Msg) : Does (.imageReq m) s (fun t =>
    t.load = { s.load with lastRound := (s.load.lastRound + 1) % 2 ^ 16 } ∧ sends s t 1 (reqAckOf s)
    ∧ sends s t 1 (roundMsg 0x42 ((s.load.lastRound + 1) % 2 ^ 16) 0#32) ∧ sends s t 1 (roundMsg 0x45 ((s.load.lastRound + 1) % 2 ^ 16) 6#32)) := by
  have hload := takeMsg_load s 1 m
  have hkept := ChainKept.take s 1 m
  have hmade := takeMsg_made (Nat.or_self _) s 1 m (.refl ..)
  have hslot' : chainSlot (takeMsg s 1 m) = none := (chainSlot_congr (hmade.blk _ rfl) (hmade.dep rfl)).trans hslot
  have hack : reqAckOf (takeMsg s 1 m) = reqAckOf s := by unfold reqAckOf; rw [hload]
  have hacked := hkept.send 1 (reqAckOf s)
  have hload' := (sendMsg_load (takeMsg s 1 m) 1 (reqAckOf s)).trans hload
  have hsent := sends_sendMsg hkept 1 (reqAckOf s)
  have hexec : exec (.imageReq m) s = .next (emptyRound (sendMsg (takeMsg s 1 m) 1 (reqAckOf s)) ((s.load.lastRound + 1) % 2 ^ 16)) := by
    rw [← hack, ← hload]
    show execImageReq m s = _
    unfold execImageReq
    rw [if_neg (by simp [hserves])]
    dsimp only
    rw [hslot']
    rfl
  generalize sendMsg (takeMsg s 1 m) 1 (reqAckOf s) = u at hacked hload' hsent hexec
  generalize (s.load.lastRound + 1) % 2 ^ 16 = r at hexec ⊢
  have hbegun := hacked.send 1 (roundMsg 0x42 r 0#32)
  refine ⟨_, hexec, ?_, sends_before (sends_before (sends_before hsent (.send (.refl u) 1 _)) (.send (.refl _) 1 _)) (.setLoad (.refl _) _),
    sends_before (sends_before (sends_sendMsg hacked 1 _) (.send (.refl _) 1 _)) (.setLoad (.refl _) _),
    sends_before (sends_sendMsg hbegun 1 _) (.setLoad (.refl _) _)⟩
  have hround : (sendMsg (sendMsg u 1 (roundMsg 0x42 r 0#32)) 1 (roundMsg 0x45 r 6#32)).load = s.load :=
    (sendMsg_load ..).trans ((sendMsg_load ..).trans hload')
  show ({ (sendMsg (sendMsg u 1 (roundMsg 0x42 r 0#32)) 1 (roundMsg 0x45 r 6#32)).load with lastRound := r } : Load) = _
  rw [hround]

theorem reqAckRepeat_floods (hserves : servesImages s = true) (hpending : 0 < s.load.pending) :
    Does .reqAckRepeat s (fun t => t.load = s.load ∧ sends s t 1 (reqAckOf s)) :=
  ⟨floodAck s, if_pos (by simp [hserves, hpending]), sendMsg_load .., sendMsg_sends s 1 (reqAckOf s)⟩

/-! #### The head's round (R191) -/

/-- DEP_CHN.ROUNDS counts a round. -/
theorem roundCounted (s : State) : getf (satAdd s F.DEP_CHN_ROUNDS 1) F.DEP_CHN_ROUNDS = min 65535 (getf s F.DEP_CHN_ROUNDS + 1) :=
  getf_satAdd s F.DEP_CHN_ROUNDS 1 (by decide)

/-- The round's state, its count, and ROUND_BEGIN. -/
def roundOpened (s : State) (r : Nat) : State :=
  sendMsg (satAdd { s with load := { lastRound := r, round := some r } } F.DEP_CHN_ROUNDS 1) 1 (roundMsg 0x42 r 0#32)

theorem loadRoundStart_does (hserves : servesImages s = true) {i : Nat} (hslot : chainSlot s = some i) (hpending : 0 < s.load.pending)
    (hround : s.load.round = none) (haway : away s 21 = false) (hidle : depotIdle s) : Does .loadRoundStart s (fun t =>
      t.load = { lastRound := (s.load.lastRound + 1) % 2 ^ 16, round := some ((s.load.lastRound + 1) % 2 ^ 16) }
      ∧ t.dep.jobs = [{ kind := 2, slot := i }] ∧ getf t F.DEP_STAT_OP = 2
      ∧ getf t F.DEP_CHN_ROUNDS = min 65535 (getf s F.DEP_CHN_ROUNDS + 1) ∧ sends s t 1 (roundMsg 0x42 ((s.load.lastRound + 1) % 2 ^ 16) 0#32)) := by
  have hadd : addJob s { kind := 2, slot := i } = setf (jobAlone s { kind := 2, slot := i }) F.DEP_STAT_OP 2 := addJob_idle_waits hidle (show (2 : Nat) ≠ 5 by decide)
  have hexec : exec .loadRoundStart s
      = .next (roundOpened (setf (jobAlone s { kind := 2, slot := i }) F.DEP_STAT_OP 2) ((s.load.lastRound + 1) % 2 ^ 16)) := by
    show execLoadRoundStart s = _
    unfold execLoadRoundStart
    rw [hslot]
    dsimp only
    rw [if_neg (by simp [hserves, hround, haway]; omega), hadd]
    rfl
  generalize (s.load.lastRound + 1) % 2 ^ 16 = r at hexec ⊢
  have halone : ChainKept s (jobAlone s { kind := 2, slot := i }) := ⟨(KeepsMsgs.refl s).of_ports rfl, fun _ => rfl, rfl⟩
  generalize hv : jobAlone s { kind := 2, slot := i } = v at hexec halone
  have hshown := halone.setf F.DEP_STAT_OP 2 rfl
  have hrounds : getf (setf v F.DEP_STAT_OP 2) F.DEP_CHN_ROUNDS = getf s F.DEP_CHN_ROUNDS := by
    rw [getf_setf_reg _ _ _ _ (by decide), ← hv]
    rfl
  have hop : getf (setf v F.DEP_STAT_OP 2) F.DEP_STAT_OP = 2 := getf_setf_fits v (by decide) (by decide)
  have hjobs : (setf v F.DEP_STAT_OP 2).dep.jobs = [{ kind := 2, slot := i }] := by subst hv; rfl
  generalize setf v F.DEP_STAT_OP 2 = w at hexec hshown hrounds hop hjobs
  generalize hl : ({ lastRound := r, round := some r } : Load) = l
  have hopened : roundOpened w r = sendMsg (satAdd { w with load := l } F.DEP_CHN_ROUNDS 1) 1 (roundMsg 0x42 r 0#32) := by subst hl; rfl
  rw [hopened] at hexec
  refine ⟨_, hexec, sendMsg_load .., (congrArg Dep.jobs (sendMsg_dep ..)).trans hjobs, ?_, ?_,
    sends_sendMsg ((hshown.setLoad l).setf F.DEP_CHN_ROUNDS _ rfl) 1 _⟩
  · rw [getf_congr (sendMsg_rd_dep rfl _ 1 _), satAdd, getf_setf_reg _ _ _ _ (by decide)]
    exact hop
  · rw [getf_congr (sendMsg_rd_dep rfl _ 1 _), roundCounted]
    exact congrArg (fun n => min 65535 (n + 1)) hrounds

end

/-! #### A waiting unit (R190) -/

section
variable {s : State} {m : Msg}

/-- IMAGE_REQ as this unit sends it. -/
def imageReqOf (s : State) : Msg := ⟨0x40, ownAddr s, 0, [0#32, Config.dieLo, Config.dieHi, 0#32], []⟩

/-- The unit has asked `n` times. -/
def asked (s : State) (n : Nat) (t : State) : Prop := t.load.reqs = n ∧ sends s t 0 (imageReqOf s)

theorem sendImageReq_eq (hwait : s.load.waiting = true) (hup : portUp s 0 = true) (hreqs : s.load.reqs < 3) :
    sendImageReq s = sendMsg { s with load := { s.load with reqs := s.load.reqs + 1 } } 0 (imageReqOf s) :=
  if_pos (by simp [hwait, hup, hreqs])

section
variable (hchain : chainBoot s = true) (hwait : s.load.waiting = true)
include hchain hwait

theorem imageReqRetry_asks (hacked : s.load.acked = false) (hpos : 0 < s.load.reqs) (hreqs : s.load.reqs < 3) (hup : portUp s 0 = true) :
    Does .imageReqRetry s (asked s (s.load.reqs + 1)) := by
  have hexec : exec .imageReqRetry s = .next (sendImageReq s) := by
    show execImageReqRetry s = _
    unfold execImageReqRetry
    rw [if_pos (by simp [hchain, hwait, hacked, hpos]), if_pos hreqs]
  rw [sendImageReq_eq hwait hup hreqs] at hexec
  exact ⟨_, hexec, congrArg Load.reqs (sendMsg_load ..), sends_sendMsg (.setLoad (.refl s) _) 0 _⟩

theorem chainTryTimeout_locked (hup : portUp s 0 = true) : exec (.chainTryTimeout true) s = .next s := by
  show execChainTryTimeout true s = _
  unfold execChainTryTimeout
  rw [if_pos (by simp [hchain, hwait]), if_pos rfl, if_pos hup]

theorem chainTryTimeout_joined (hjoined : s.load.joined = true) : exec (.chainTryTimeout false) s = .next s := by
  show execChainTryTimeout false s = _
  unfold execChainTryTimeout
  rw [if_pos (by simp [hchain, hwait]), if_neg (by decide), if_pos hjoined]

/-- The next try begins with a cleared fabric and a first request. -/
def tryBegun (s : State) : State :=
  { clearFabric s with load := { s.load with waiting := true, reqs := 0, acked := false, joined := false, matched := false, taken := false,
                                             image := [], tries := s.load.tries + 1 } }

theorem chainTryTimeout_tries (hjoined : s.load.joined = false) (htries : s.load.tries < 3) (hup : portUp s 0 = true) :
    Does (.chainTryTimeout false) s (fun t => asked s 1 t ∧ t.load.tries = s.load.tries + 1 ∧ t.load.waiting = true ∧ t.load.acked = false
      ∧ t.load.image = []) := by
  have hexec : exec (.chainTryTimeout false) s = .next (sendImageReq (tryBegun s)) := by
    show execChainTryTimeout false s = _
    unfold execChainTryTimeout chainTryEnd
    rw [if_pos (by simp [hchain, hwait]), if_neg (by decide), if_neg (by simp [hjoined]), if_pos ⟨htries, rfl⟩]
    rfl
  have hkept : ChainKept s (tryBegun s) :=
    (ChainKept.of_made (clearFabric_made (Nat.or_self _) s (.refl ..)) rfl rfl rfl).setLoad _
  have hask : imageReqOf (tryBegun s) = imageReqOf s := by unfold imageReqOf; rw [hkept.addr_eq]
  have hreq : sendImageReq (tryBegun s) = sendMsg { tryBegun s with load := { (tryBegun s).load with reqs := 1 } } 0 (imageReqOf s) := by
    rw [sendImageReq_eq rfl ((hkept.up_eq 0).trans hup) (show 0 < 3 by decide), hask]
    rfl
  rw [hreq] at hexec
  have hload := sendMsg_load { tryBegun s with load := { (tryBegun s).load with reqs := 1 } } 0 (imageReqOf s)
  refine ⟨_, hexec, ⟨?_, sends_sendMsg (hkept.setLoad _) 0 _⟩, ?_, ?_, ?_, ?_⟩ <;> rw [hload] <;> rfl

end

/-- REQ_ACK goes on, and a waiting unit has its answer (R191). -/
theorem reqAck_does (s : State) (m : Msg) : Does (.reqAck m) s (fun t => t.load.acked = (s.load.acked || s.load.waiting) ∧ sends s t 1 m) := by
  have hload := (takeFlood_made (Nat.or_self _) s 0 m m (.refl ..)).load rfl
  have hsent : sends s (takeFlood s 0 m m) 1 m := fun hup => takeFlood_carries hup m
  refine ⟨_, rfl, ?_⟩
  generalize takeFlood s 0 m m = u at hload hsent
  split
  case isTrue hwait =>
    rw [hload] at hwait
    exact ⟨by simp [hwait], sends_before hsent (.setLoad (.refl u) _)⟩
  case isFalse hwait =>
    rw [hload] at hwait
    exact ⟨by simp [hload, hwait], hsent⟩

end

end Sys2Proof.Machine

/-! ### Rounds and chunks (R192 to R195) -/
namespace Sys2Proof.Machine

/-! #### The stream that goes on leaves what was received -/

/-- Between `s` and `t` the messages stay, and what the unit has received of the round: the next SEQ, a pending RESEND, the chunks to
acknowledge. -/
structure StreamStep (s t : State) : Prop where
  kept : ChainKept s t
  rx_eq : t.load.rxSeq = s.load.rxSeq
  bad_eq : t.load.rxBad = s.load.rxBad
  unacked_eq : t.load.unacked = s.load.unacked

namespace StreamStep
variable {s0 s : State}

theorem refl (s : State) : StreamStep s s := ⟨.refl s, rfl, rfl, rfl⟩

theorem send (h : StreamStep s0 s) (p : Nat) (m : Msg) : StreamStep s0 (sendMsg s p m) := by
  have hload := sendMsg_load s p m
  exact ⟨h.kept.send p m, by rw [hload, h.rx_eq], by rw [hload, h.bad_eq], by rw [hload, h.unacked_eq]⟩

theorem setLoad (h : StreamStep s0 s) {l : Load} (hrx : l.rxSeq = s.load.rxSeq) (hbad : l.rxBad = s.load.rxBad)
    (hunacked : l.unacked = s.load.unacked) : StreamStep s0 { s with load := l } :=
  ⟨h.kept.setLoad l, hrx.trans h.rx_eq, hbad.trans h.bad_eq, hunacked.trans h.unacked_eq⟩

/-- A message goes out, and the rest of the stream's state follows it. -/
theorem sendLoad (h : StreamStep s0 s) (p : Nat) (m : Msg) {l : Load} (hrx : l.rxSeq = s.load.rxSeq) (hbad : l.rxBad = s.load.rxBad)
    (hunacked : l.unacked = s.load.unacked) : StreamStep s0 { sendMsg s p m with load := l } := by
  have hload := sendMsg_load s p m
  exact (h.send p m).setLoad (by rw [hload, hrx]) (by rw [hload, hbad]) (by rw [hload, hunacked])

end StreamStep

section
variable {s0 s : State}

theorem pump_stream (fuel : Nat) (h : StreamStep s0 s) : StreamStep s0 (pump s fuel) := by
  induction fuel generalizing s with
  | zero => exact h
  | succ fuel ih =>
    unfold pump
    dsimp only
    split
    · exact h
    · split
      · exact h.setLoad rfl rfl rfl
      · split
        · split
          · exact h.sendLoad _ _ rfl rfl rfl
          · exact h
        · exact ih (h.sendLoad _ _ rfl rfl rfl)

theorem forwardBytes_stream (bs : List Byte) (h : StreamStep s0 s) : StreamStep s0 (forwardBytes s bs) :=
  pump_stream 18 (h.setLoad rfl rfl rfl)

/-- The next `n` bytes of an image are cut from the stream: they are taken where the unit takes the image, and go on where it forwards it. -/
def imageCut (s : State) (n : Nat) (take fwd : Bool) : State :=
  let u := { s with load := { s.load with inBuf := s.load.inBuf.drop n, image := if take then s.load.image ++ s.load.inBuf.take n else s.load.image } }
  if fwd then forwardBytes u (s.load.inBuf.take n) else u

theorem imageCut_stream (n : Nat) (take fwd : Bool) (h : StreamStep s0 s) : StreamStep s0 (imageCut s n take fwd) := by
  unfold imageCut
  dsimp only
  split
  · exact forwardBytes_stream _ (h.setLoad rfl rfl rfl)
  · exact h.setLoad rfl rfl rfl

theorem filterStream_stream (fuel : Nat) (h : StreamStep s0 s) : StreamStep s0 (filterStream s fuel) := by
  induction fuel generalizing s with
  | zero => exact h
  | succ fuel ih =>
    unfold filterStream
    dsimp only
    split
    · split
      · exact h
      · refine ih (StreamStep.setLoad ?_ ?_ ?_ ?_)
        · split
          · exact ⟨h.kept.setf _ _ rfl, h.rx_eq, h.bad_eq, h.unacked_eq⟩
          · exact h
        all_goals split <;> rfl
    case h_2 n take fwd hcur =>
      have hcut := imageCut_stream n take fwd h
      exact iteInduction (motive := StreamStep s0) (fun _ => hcut.setLoad rfl rfl rfl) (fun _ => ih (hcut.setLoad rfl rfl rfl))

end

/-! #### ROUND_BEGIN (R191, R193) -/

section
variable {s : State} {m : Msg}

theorem roundBegin_does (haway : away s 21 = false) (m : Msg) : Does (.roundBegin m) s (fun t => sends s t 1 m
    ∧ getf t F.DEP_CHN_ROUNDS = min 65535 (getf s F.DEP_CHN_ROUNDS + 1)
    ∧ t.load = { waiting := s.load.waiting, reqs := s.load.reqs, tries := s.load.tries, acked := s.load.acked, round := some (msgRound m),
                 joined := s.load.waiting && decide (0 < s.load.reqs) }) := by
  have hload := takeMsg_load s 0 m
  have hrounds : getf (takeMsg s 0 m) F.DEP_CHN_ROUNDS = getf s F.DEP_CHN_ROUNDS := getf_congr (takeMsg_rd_dep rfl s 0 m)
  have hkept := ChainKept.take s 0 m
  generalize hl : ({ waiting := s.load.waiting, reqs := s.load.reqs, tries := s.load.tries, acked := s.load.acked, round := some (msgRound m),
                     joined := s.load.waiting && decide (0 < s.load.reqs) } : Load) = l
  have hexec : exec (.roundBegin m) s = .next (sendMsg (satAdd { takeMsg s 0 m with load := l } F.DEP_CHN_ROUNDS 1) 1 m) := by
    rw [← hl, ← hload]
    show execRoundBegin m s = _
    unfold execRoundBegin
    dsimp only
    rw [takeMsg_away, haway]
    rfl
  refine ⟨_, hexec, sends_sendMsg ((hkept.setLoad l).setf F.DEP_CHN_ROUNDS _ rfl) 1 m, ?_, sendMsg_load ..⟩
  rw [getf_congr (sendMsg_rd_dep rfl _ 1 m), roundCounted]
  exact congrArg (fun n => min 65535 (n + 1)) hrounds

/-! #### CHUNK (R194) -/

/-- A message about round `r` to the next unit (ROUND_END, ROUND_ABORT, CHUNK_ACK, RESEND). -/
def roundSay (s : State) (r ty a b : Nat) : Msg := ⟨ty, ownAddr s, toNext, [w32 (r * 2 ^ 16), w32 a, w32 b, 0#32], []⟩

/-- The chunk is whole and of the length it names. -/
def chunkGood (m : Msg) : Bool := decide (crc32c m.data = mw m 3) && decide (m.data.length = extractBits (mw m 2) 0 13)

theorem chunkAck_eq (s : State) (r q : Nat) : chunkAck s r q = sendMsg { s with load := { s.load with unacked := 0 } } 0 (roundSay s r 0x46 q 0) := rfl

section
variable {r : Nat} (hround : s.load.round = some r) (haway : away s 21 = false) (hr : msgRound m = r)
include hround haway hr

/-- The chunk that was expected is taken. -/
def chunkTaken (s : State) (m : Msg) : State :=
  { takeMsg s 0 m with load := { s.load with rxSeq := (mw m 1).toNat + 1, rxBad := false, unacked := s.load.unacked + 1, inBuf := s.load.inBuf ++ m.data } }

theorem exec_chunk_next (hgood : chunkGood m = true) (hseq : (mw m 1).toNat = s.load.rxSeq) : exec (.chunk m) s
    = .next (filterStream (if 4 ≤ s.load.unacked + 1 then chunkAck (chunkTaken s m) r (mw m 1).toNat else chunkTaken s m) 20) := by
  unfold chunkTaken
  rw [← takeMsg_load s 0 m] at hround hseq ⊢
  show execChunk m s = _
  unfold execChunk
  dsimp only
  rw [hround]
  dsimp only
  rw [if_neg (by rw [takeMsg_away, haway, hr]; simp)]
  exact if_pos (Bool.and_eq_true_iff.2 ⟨hgood, decide_eq_true hseq⟩)

theorem chunk_next (hgood : chunkGood m = true) (hseq : (mw m 1).toNat = s.load.rxSeq) : Does (.chunk m) s (fun t =>
    t.load.rxSeq = (mw m 1).toNat + 1 ∧ t.load.rxBad = false
    ∧ (3 ≤ s.load.unacked → t.load.unacked = 0 ∧ sends s t 0 (roundSay s r 0x46 (mw m 1).toNat 0))
    ∧ (s.load.unacked < 3 → t.load.unacked = s.load.unacked + 1)) := by
  have hkept : ChainKept s (chunkTaken s m) := (ChainKept.take s 0 m).setLoad _
  obtain ⟨hrx, hbad, hunacked⟩ : (chunkTaken s m).load.rxSeq = (mw m 1).toNat + 1 ∧ (chunkTaken s m).load.rxBad = false
    ∧ (chunkTaken s m).load.unacked = s.load.unacked + 1 := ⟨rfl, rfl, rfl⟩
  have hsay : roundSay (chunkTaken s m) r 0x46 (mw m 1).toNat 0 = roundSay s r 0x46 (mw m 1).toNat 0 := by unfold roundSay; rw [hkept.addr_eq]
  have hexec := exec_chunk_next hround haway hr hgood hseq
  rw [chunkAck_eq, hsay] at hexec
  generalize chunkTaken s m = v at hkept hrx hbad hunacked hexec
  by_cases hfour : 4 ≤ s.load.unacked + 1
  · rw [if_pos hfour] at hexec
    have hload := sendMsg_load { v with load := { v.load with unacked := 0 } } 0 (roundSay s r 0x46 (mw m 1).toNat 0)
    have hsent := sends_sendMsg (hkept.setLoad { v.load with unacked := 0 }) 0 (roundSay s r 0x46 (mw m 1).toNat 0)
    generalize sendMsg { v with load := { v.load with unacked := 0 } } 0 (roundSay s r 0x46 (mw m 1).toNat 0) = w at hexec hload hsent
    have hstream := filterStream_stream 20 (StreamStep.refl w)
    refine ⟨_, hexec, ?_, ?_, fun _ => ⟨?_, sends_before hsent hstream.kept⟩, fun hlt => absurd hfour (by omega)⟩
    · rw [hstream.rx_eq, hload]
      exact hrx
    · rw [hstream.bad_eq, hload]
      exact hbad
    · rw [hstream.unacked_eq, hload]
  · rw [if_neg hfour] at hexec
    have hstream := filterStream_stream 20 (StreamStep.refl v)
    exact ⟨_, hexec, hstream.rx_eq.trans hrx, hstream.bad_eq.trans hbad, fun hle => absurd hle (by omega), fun _ => hstream.unacked_eq.trans hunacked⟩

/-- The chunk's RESEND is counted and shown. -/
def resendAsked (s : State) : State := raise (satAdd s F.DEP_CHN_RESENDS 1) F.DEP_EVT_RESEND

omit hround haway hr in
theorem resendAsked_shows (s : State) : isSet (resendAsked s) F.DEP_EVT_RESEND = true
    ∧ getf (resendAsked s) F.DEP_CHN_RESENDS = min 255 (getf s F.DEP_CHN_RESENDS + 1) :=
  ⟨isSet_raise _ _ rfl (by decide), (getf_setf_reg _ F.DEP_EVT_RESEND F.DEP_CHN_RESENDS 1 (by decide)).trans (getf_satAdd s _ 1 (by decide))⟩

omit hround haway hr in
theorem resendAsked_kept {u : State} (h : ChainKept s u) : ChainKept s (resendAsked u) := (h.setf F.DEP_CHN_RESENDS _ rfl).setf F.DEP_EVT_RESEND _ rfl

theorem exec_chunk_gap (hgap : chunkGood m = false ∨ s.load.rxSeq < (mw m 1).toNat) (hbad : s.load.rxBad = false) : exec (.chunk m) s
    = .next (sendMsg (resendAsked { takeMsg s 0 m with load := { s.load with rxBad := true } }) 0
        (roundSay (resendAsked { takeMsg s 0 m with load := { s.load with rxBad := true } }) r 0x47 s.load.rxSeq 0)) := by
  rw [← takeMsg_load s 0 m] at hround hgap hbad ⊢
  show execChunk m s = _
  unfold execChunk
  dsimp only
  rw [hround]
  dsimp only
  rw [if_neg (by rw [takeMsg_away, haway, hr]; simp)]
  have hnext : ¬((chunkGood m && decide ((mw m 1).toNat = (takeMsg s 0 m).load.rxSeq)) = true) := by
    simp only [Bool.and_eq_true, decide_eq_true_eq]
    rintro ⟨hgood, hseq⟩
    rcases hgap with hgap | hgap
    · simp [hgood] at hgap
    · omega
  have hask : ((!chunkGood m || decide ((takeMsg s 0 m).load.rxSeq < (mw m 1).toNat)) && !(takeMsg s 0 m).load.rxBad) = true := by
    rcases hgap with hgap | hgap <;> simp [hgap, hbad]
  exact (if_neg hnext).trans (if_pos hask)

theorem chunk_gap (hgap : chunkGood m = false ∨ s.load.rxSeq < (mw m 1).toNat) (hbad : s.load.rxBad = false) : Does (.chunk m) s (fun t =>
    t.load = { s.load with rxBad := true } ∧ sends s t 0 (roundSay s r 0x47 s.load.rxSeq 0) ∧ isSet t F.DEP_EVT_RESEND = true
    ∧ getf t F.DEP_CHN_RESENDS = min 255 (getf s F.DEP_CHN_RESENDS + 1)) := by
  have hexec := exec_chunk_gap hround haway hr hgap hbad
  have hkept : ChainKept s { takeMsg s 0 m with load := { s.load with rxBad := true } } := (ChainKept.take s 0 m).setLoad _
  have hcount : getf { takeMsg s 0 m with load := { s.load with rxBad := true } } F.DEP_CHN_RESENDS = getf s F.DEP_CHN_RESENDS :=
    getf_congr (takeMsg_rd_dep rfl s 0 m)
  generalize hl : ({ s.load with rxBad := true } : Load) = l at hexec hkept hcount
  generalize hv : ({ takeMsg s 0 m with load := l } : State) = v at hexec hkept hcount
  have hasked := resendAsked_kept hkept
  obtain ⟨hevt, hresends⟩ := resendAsked_shows v
  have hload : (resendAsked v).load = l := by subst hv; rfl
  rw [hcount] at hresends
  generalize resendAsked v = w at hexec hasked hevt hresends hload
  have hsay : roundSay w r 0x47 s.load.rxSeq 0 = roundSay s r 0x47 s.load.rxSeq 0 := by unfold roundSay; rw [hasked.addr_eq]
  rw [hsay] at hexec
  exact ⟨_, hexec, (sendMsg_load ..).trans hload, sends_sendMsg hasked 0 _, (isSet_congr (sendMsg_rd_dep rfl ..)).trans hevt,
    (getf_congr (sendMsg_rd_dep rfl ..)).trans hresends⟩

theorem chunk_old (hgood : chunkGood m = true) (hold : (mw m 1).toNat < s.load.rxSeq) : Does (.chunk m) s (fun t => t.load = s.load) := by
  have hload := takeMsg_load s 0 m
  have hexec : exec (.chunk m) s = .next (takeMsg s 0 m) := by
    rw [← hload] at hround hold
    show execChunk m s = _
    unfold execChunk
    dsimp only
    rw [hround]
    dsimp only
    rw [if_neg (by rw [takeMsg_away, haway, hr]; simp)]
    have hnext : ¬((chunkGood m && decide ((mw m 1).toNat = (takeMsg s 0 m).load.rxSeq)) = true) := by
      simp only [Bool.and_eq_true, decide_eq_true_eq]
      omega
    have hask : ¬(((!chunkGood m || decide ((takeMsg s 0 m).load.rxSeq < (mw m 1).toNat)) && !(takeMsg s 0 m).load.rxBad) = true) := by
      have hle : ¬((takeMsg s 0 m).load.rxSeq < (mw m 1).toNat) := by omega
      simp [hgood, hle]
    exact (if_neg hnext).trans (if_neg hask)
  exact ⟨_, hexec, hload⟩

end

end

end Sys2Proof.Machine

/-! ### The depot's requests after an aborted round (R192) -/
namespace Sys2Proof.Machine

/-- The messages stay, and ROUND_ABORT is shown. -/
structure AbortShown (s0 s : State) : Prop where
  keeps : KeepsMsgs s0 s
  shown : isSet s F.DEP_EVT_ROUND_ABORT = true

namespace AbortShown
variable {s0 s t : State}

/-- Ports and DEP_EVT stay as they are. -/
theorem same (h : AbortShown s0 s) (hports : t.ports = s.ports) (hevt : rd t R.DEP_EVT = rd s R.DEP_EVT) : AbortShown s0 t :=
  ⟨h.keeps.of_ports hports, (isSet_congr hevt).trans h.shown⟩

theorem setf (h : AbortShown s0 s) (f : Fld) (v : Nat) (hf : f.reg ≠ R.DEP_EVT ∨ f.lo + f.width ≤ 6 ∨ 7 ≤ f.lo) : AbortShown s0 (setf s f v) :=
  ⟨h.keeps.of_ports rfl, (isSet_setf_apart (hf.imp Ne.symm (fun hb => hb.imp id id))).trans h.shown⟩

/-- An operation that neither sends nor writes the depot's block. -/
theorem made {M : Nat} (h : AbortShown s0 s) (k : Made M s t) (hports : M.testBit 38 = false) (hdep : M.testBit 68 = false) : AbortShown s0 t :=
  h.same (k.ports hports) (k.blk _ hdep)

end AbortShown

section
variable {s0 s : State}

theorem devEvent_abort (k : Nat) (h : AbortShown s0 s) : AbortShown s0 (devEvent s k) :=
  ⟨devEvent_keepsMsgs h.keeps, (isSet_congr ((devEvent_made (Nat.or_self _) s k (.refl ..)).blk _ rfl)).trans h.shown⟩

theorem raise9_abort {f : Fld} (hf : f.reg ≠ R.DEP_EVT ∨ f.lo + f.width ≤ 6 ∨ 7 ≤ f.lo) (h : AbortShown s0 s) : AbortShown s0 (raise9 s f) := by
  unfold raise9
  split
  · exact h
  · exact devEvent_abort 9 (h.setf f 1 hf)

theorem alarmUpdate_abort (h : AbortShown s0 s) : AbortShown s0 (alarmUpdate s) := by
  have hshown : AbortShown s0 (wr s R.DEV_ALARM (w32 (alarmSources s))) := h.same rfl (rd_wr_ne (by decide) ..)
  have hcounted : AbortShown s0 (satAdd (wr s R.DEV_ALARM (w32 (alarmSources s))) F.DEV_ALARM_CNT_COUNT 1) := hshown.setf _ _ (.inl (by decide))
  unfold alarmUpdate
  dsimp only
  split
  · exact devEvent_abort 0 (hcounted.made (kitIrq_made (Nat.or_self _) _ 4 (.refl ..)) rfl rfl)
  · exact hshown

theorem markBad_abort (k : Nat) (worn : Bool) (h : AbortShown s0 s) : AbortShown s0 (markBad s k worn) := by
  have hdir : AbortShown s0 (setDir s { s.dep.dir with bad := insertNat k s.dep.dir.bad }) := h.same rfl rfl
  have hworn : AbortShown s0 (if worn then raise9 (setDir s { s.dep.dir with bad := insertNat k s.dep.dir.bad }) F.DEP_EVT_WORN
      else setDir s { s.dep.dir with bad := insertNat k s.dep.dir.bad }) := by
    split
    · exact raise9_abort (by decide) hdir
    · exact hdir
  unfold markBad
  exact alarmUpdate_abort ((raise9_abort (by decide) hworn).setf _ _ (.inl (by decide)))

theorem scr_reg_ne {f : Fld} (hf : blockOf f.reg = 18) : f.reg ≠ R.DEP_EVT := by
  intro he
  rw [he] at hf
  exact absurd hf (by decide)

theorem lineFailures_abort (r n : Nat) (h : AbortShown s0 s) : AbortShown s0 (lineFailures s r n) := by
  induction n generalizing s with
  | zero => exact h
  | succ n ih =>
    refine ih (alarmUpdate_abort (raise9_abort (.inl (by decide)) (h.setf _ _ (.inl ?_))))
    exact scr_reg_ne (F.SCR_RNG_CNT_FAILS_blk r)

theorem putJob_abort (fg : Bool) (j : Job) (h : AbortShown s0 s) : AbortShown s0 (putJob s fg j) :=
  h.same (by rw [putJob_frame]; rfl) (rd_putJob (by decide) s fg j)

theorem beginErase_abort (fg : Bool) (j : Job) (k : Nat) (data : List Byte) (h : AbortShown s0 s) : AbortShown s0 (beginErase s fg j k data) := by
  have hasked : AbortShown s0 (flashCmd (eraseCounted s k) 1 (k * 0x10000) []) :=
    AbortShown.made (s := eraseCounted s k) (h.same rfl rfl) (flashCmd_made (Nat.or_self _) _ _ _ _ (.refl ..)) rfl rfl
  rw [beginErase_eq]
  exact putJob_abort fg _ hasked

theorem endJob_abort (fg : Bool) (j : Job) (r : Ret) (n : Nat) (h : AbortShown s0 s) : AbortShown s0 (endJob s fg j r n) := by
  have hleft : AbortShown s0 (jobLeft s fg j n) := h.same (by rw [jobLeft_frame]) (rd_jobLeft (by decide) (by decide) s fg j n)
  show AbortShown s0 (match j.op.bind (opOf (jobLeft s fg j n)) with | some o => giveRet (jobLeft s fg j n) o r | none => jobLeft s fg j n)
  split
  · exact hleft.made (giveRet_made (Nat.or_self _) _ _ r (.refl ..)) rfl rfl
  · exact hleft

theorem setf_scr_abort {f : Fld} {v : Nat} (hf : blockOf f.reg = 18) (h : AbortShown s0 s) : AbortShown s0 (setf s f v) :=
  h.setf f v (.inl (scr_reg_ne hf))

theorem rangeState_abort {r v : Nat} (h : AbortShown s0 s) : AbortShown s0 (setf s (F.SCR_RNG_CTL_STATE r) v) :=
  setf_scr_abort (F.SCR_RNG_CTL_STATE_blk r) h

theorem rangeProg_abort {r v : Nat} (h : AbortShown s0 s) : AbortShown s0 (setf s (F.SCR_RNG_PROG_PROG r) v) :=
  setf_scr_abort (F.SCR_RNG_PROG_PROG_blk r) h

theorem setEpoch_abort {r e : Nat} (h : AbortShown s0 s) : AbortShown s0 (setEpoch s r e) :=
  h.made (setEpoch_made (Nat.or_self _) s r e (.refl ..)) rfl rfl

theorem setKslot_abort {k st range : Nat} (h : AbortShown s0 s) : AbortShown s0 (setKslot s k st range) :=
  h.made (setKslot_made (Nat.or_self _) s k st range (.refl ..)) rfl rfl

theorem emptyKslot_abort {k : Nat} (h : AbortShown s0 s) : AbortShown s0 (emptyKslot s k) :=
  h.made (emptyKslot_made (Nat.or_self _) s k (.refl ..)) rfl rfl

/-- The key slots that hold an old key of range `r` are emptied. -/
theorem oldKslots_abort {r : Nat} (h : AbortShown s0 s) : AbortShown s0 ((List.range 16).foldl (fun u k =>
    if getf u (F.SCR_KSLOT_STATE k) = 3 ∧ getf u (F.SCR_KSLOT_RANGE k) = r then emptyKslot u k else u) s) := by
  refine List.foldlRecOn (motive := AbortShown s0) (List.range 16) _ h fun u hu k _ => ?_
  split
  · exact emptyKslot_abort hu
  · exact hu

/-- A request runs as far as its next flash step, one act at a time. -/
theorem runJob_abort (fg : Bool) (j : Job) (fuel : Nat) (h : AbortShown s0 s) : AbortShown s0 (runJob s fg j fuel) := by
  induction fuel generalizing s j with
  | zero => exact putJob_abort fg j h
  | succ fuel ih =>
    have herase (k : Nat) (data : List Byte) : AbortShown s0 (if worn s k then runJob (markBad s k true) fg
        { j with newBad := j.newBad + 1, todo := .dir :: j.todo } fuel else beginErase s fg j k data) := by
      split
      · exact ih _ (markBad_abort k true h)
      · exact beginErase_abort fg j k data h
    unfold runJob
    dsimp only
    split
    case h_1 => exact endJob_abort fg j _ _ h
    case h_2 =>
      split
      · exact endJob_abort fg j _ _ h
      · exact herase _ _
    case h_3 =>
      split
      · exact ih _ h
      · exact herase _ _
    case h_4 => exact ih _ h
    case h_5 =>
      split
      · exact ih _ h
      · exact ih _ (lineFailures_abort _ _ h)
    case h_6 => exact ih _ (lineFailures_abort _ _ h)
    case h_7 => exact ih _ (rangeProg_abort h)
    case h_8 => exact ih _ (h.same (by rfl) (by rfl))
    case h_9 => exact beginErase_abort fg _ _ _ h
    case h_10 => exact putJob_abort fg _ (beginErase_abort fg j _ _ (h.same (by rfl) (by rfl)))
    case h_11 =>
      split
      · exact ih _ h
      · exact endJob_abort fg j _ _ h
    case h_12 => exact beginErase_abort fg j _ _ h
    case h_13 => exact ih _ (rangeState_abort h)
    case h_14 => exact ih _ (rangeProg_abort (rangeState_abort (setEpoch_abort (h.same (by rfl) (by rfl)))))
    case h_15 r _ _ => exact ih _ (setf_scr_abort rfl (setf_scr_abort (F.SCR_RNG_CNT_ROLLS_blk r) (rangeState_abort h)))
    case h_16 => exact ih _ (setf_scr_abort rfl (rangeState_abort h))
    case h_17 => exact ih _ (setKslot_abort h)
    case h_18 r _ _ _ =>
      have hkeys := setKslot_abort (k := getf s (F.SCR_RNG_CTL_KSLOT r)) (st := 3) (range := r) (AbortShown.same
        (t := { s with prevEpoch := sput r (rngEpoch s r) s.prevEpoch }) h (by rfl) (by rfl))
      exact ih _ (rangeState_abort (rangeProg_abort (setf_scr_abort (F.SCR_RNG_CTL_KSLOT_blk r)
        (setf_scr_abort (F.SCR_RNG_CTL_OLD_KSLOT_blk r) (setKslot_abort hkeys)))))
    case h_19 =>
      refine ih _ ?_
      split
      · exact rangeState_abort (emptyKslot_abort (oldKslots_abort (setEpoch_abort h)))
      · exact rangeState_abort (oldKslots_abort (setEpoch_abort h))

theorem serveJobs_abort (fuel : Nat) (h : AbortShown s0 s) : AbortShown s0 (serveJobs s fuel) := by
  induction fuel generalizing s with
  | zero => exact h
  | succ fuel ih =>
    have hop (v : Nat) : AbortShown s0 (setf s F.DEP_STAT_OP v) := h.setf _ v (.inl (by decide))
    unfold serveJobs
    split
    · exact hop _
    · split
      · exact ih (runJob_abort true _ _ h)
      · exact hop _

theorem endRoundJob_abort (h : AbortShown s0 s) : AbortShown s0 (endRoundJob s) := by
  unfold endRoundJob
  exact serveJobs_abort _ (h.same rfl rfl)

end

end Sys2Proof.Machine

/-! ### CHUNK_ACK, RESEND, ROUND_END and ROUND_ABORT (R192 to R195), and O40 -/
namespace Sys2Proof.Machine

section
variable {s u : State} {m : Msg} {r : Nat}

/-! #### CHUNK_ACK and ROUND_END -/

theorem pump_idle (hround : s.load.round = some r) (hdead : s.load.dead = false) (hup : portUp s 1 = true) (hout : s.load.outBuf = [])
    (hended : s.load.ended = false) (n : Nat) : pump s (n + 1) = s := by
  unfold pump
  dsimp only
  rw [hround]
  dsimp only
  rw [if_neg (by simp [hdead, hup]), if_pos (.inl hout), if_neg (by simp [hended])]

/-- With the stream out, ROUND_END goes on. -/
theorem pump_ends (hround : s.load.round = some r) (hdead : s.load.dead = false) (hup : portUp s 1 = true) (hout : s.load.outBuf = [])
    (hended : s.load.ended = true) (n : Nat) : pump s (n + 1)
      = { sendMsg s 1 (roundSay s r 0x44 s.load.txSeq s.load.txBytes) with load := { s.load with dead := true } } := by
  unfold pump
  dsimp only
  rw [hround]
  dsimp only
  rw [if_neg (by simp [hdead, hup]), if_pos (.inl hout), if_pos (by simp [hended, hout])]
  rfl

theorem chunkAck_does (hround : s.load.round = some (msgRound m)) (hout : s.load.outBuf = []) (hended : s.load.ended = false)
    (hdead : s.load.dead = false) (hup : portUp s 1 = true) : Does (.chunkAck m) s (fun t =>
      t.load = { s.load with sent := s.load.sent.filter (fun c => (mw m 1).toNat < c.1) }) := by
  have hload := takeMsg_load s 1 m
  have hup' := ((ChainKept.take s 1 m).up_eq 1).trans hup
  generalize hl : ({ s.load with sent := s.load.sent.filter (fun c => (mw m 1).toNat < c.1) } : Load) = l
  obtain ⟨hround', hdead', hout', hended'⟩ : l.round = some (msgRound m) ∧ l.dead = false ∧ l.outBuf = [] ∧ l.ended = false := by
    subst hl
    exact ⟨hround, hdead, hout, hended⟩
  have hexec : exec (.chunkAck m) s = .next (pump { takeMsg s 1 m with load := l } 18) := by
    rw [← hl, ← hload]
    exact if_pos (by rw [hload, hround])
  rw [pump_idle (s := { takeMsg s 1 m with load := l }) hround' hdead' hup' hout' hended'] at hexec
  exact ⟨_, hexec, rfl⟩

/-- What the unit holds of the round is acknowledged before it ends. -/
def roundAcked (s : State) (m : Msg) : State :=
  if 0 < s.load.unacked then chunkAck s (msgRound m) (s.load.rxSeq - 1) else s

theorem roundAcked_kept (h : ChainKept s u) (m : Msg) : ChainKept s (roundAcked u m) := by
  unfold roundAcked
  split
  · rw [chunkAck_eq]
    exact (h.setLoad _).send 0 _
  · exact h

theorem roundAcked_boot (s : State) (m : Msg) : (roundAcked s m).boot = s.boot := by
  unfold roundAcked
  split
  · exact sendMsg_boot ..
  · rfl

/-- The acknowledgement leaves the rest of the round. -/
theorem roundAcked_load (s : State) (m : Msg) : ∃ n, (roundAcked s m).load = { s.load with unacked := n } := by
  unfold roundAcked
  split
  · exact ⟨0, sendMsg_load ..⟩
  · exact ⟨_, rfl⟩

theorem roundAcked_sends (h : ChainKept s u) (hpos : 0 < u.load.unacked) : sends s (roundAcked u m) 0 (roundSay s (msgRound m) 0x46 (u.load.rxSeq - 1) 0) := by
  have hsay : roundSay u (msgRound m) 0x46 (u.load.rxSeq - 1) 0 = roundSay s (msgRound m) 0x46 (u.load.rxSeq - 1) 0 := by
    unfold roundSay
    rw [h.addr_eq]
  unfold roundAcked
  rw [if_pos hpos, chunkAck_eq, hsay]
  exact sends_sendMsg (h.setLoad _) 0 _

theorem exec_roundEnd (hchain : chainBoot s = false) (hround : s.load.round = some (msgRound m)) {v : State} (hv : roundAcked (takeMsg s 0 m) m = v)
    (hboot : (pump { v with load := { v.load with ended := true } } 18).boot = s.boot) :
    exec (.roundEnd m) s = .next (pump { v with load := { v.load with ended := true } } 18) := by
  rw [← hv] at hboot ⊢
  show execRoundEnd m s = _
  unfold execRoundEnd
  dsimp only
  rw [if_neg (by rw [takeMsg_load, hround]; simp)]
  refine if_neg ?_
  have hno : chainBoot (pump { roundAcked (takeMsg s 0 m) m with load := { (roundAcked (takeMsg s 0 m) m).load with ended := true } } 18) = false :=
    (chainBoot_congr hboot).trans hchain
  simp only [Bool.and_eq_true]
  rintro ⟨⟨h, -⟩, -⟩
  exact absurd (h.symm.trans hno) (by decide)

theorem roundEnd_does (hchain : chainBoot s = false) (hround : s.load.round = some (msgRound m)) (hout : s.load.outBuf = [])
    (hdead : s.load.dead = false) (hup : portUp s 1 = true) : Does (.roundEnd m) s (fun t => t.load.ended = true ∧ t.load.dead = true
      ∧ sends s t 1 (roundSay s (msgRound m) 0x44 s.load.txSeq s.load.txBytes)
      ∧ (0 < s.load.unacked → sends s t 0 (roundSay s (msgRound m) 0x46 (s.load.rxSeq - 1) 0))) := by
  have htook := ChainKept.take s 0 m
  have hkept := roundAcked_kept htook m
  have hload := takeMsg_load s 0 m
  have hboot := (roundAcked_boot (takeMsg s 0 m) m).trans (takeMsg_boot s 0 m)
  obtain ⟨n, hacked⟩ := roundAcked_load (takeMsg s 0 m) m
  have hsent := fun h => roundAcked_sends (m := m) htook h
  rw [hload] at hacked hsent
  generalize hv : roundAcked (takeMsg s 0 m) m = v at hkept hboot hacked hsent
  have hpump := pump_ends (s := { v with load := { v.load with ended := true } }) (r := msgRound m) (by rw [hacked]; exact hround) (by rw [hacked]; exact hdead)
    ((hkept.up_eq 1).trans hup) (by rw [hacked]; exact hout) rfl 17
  have hsay : roundSay { v with load := { v.load with ended := true } } (msgRound m) 0x44 v.load.txSeq v.load.txBytes
      = roundSay s (msgRound m) 0x44 s.load.txSeq s.load.txBytes := by
    unfold roundSay
    rw [show ownAddr { v with load := { v.load with ended := true } } = ownAddr s from hkept.addr_eq, hacked]
  rw [hsay] at hpump
  have hexec := exec_roundEnd hchain hround hv (by rw [hpump]; exact (sendMsg_boot ..).trans hboot)
  rw [hpump] at hexec
  have hset : ChainKept v { v with load := { v.load with ended := true } } := .setLoad (.refl v) _
  refine ⟨_, hexec, rfl, rfl, sends_before (sends_sendMsg (hkept.setLoad _) 1 _) (.setLoad (.refl _) _), fun hpos => ?_⟩
  exact sends_before (hsent hpos) ((hset.send 1 _).setLoad _)

/-! #### A round that is aborted here -/

/-- The units downstream are told, and ROUND_ABORT is shown. -/
def roundDropped (s : State) (r reason : Nat) : State := raise9 (abortDown s r reason) F.DEP_EVT_ROUND_ABORT

theorem roundDropped_does (h : ChainKept s u) (r n : Nat) : ChainKept s (roundDropped u r n)
    ∧ sends s (roundDropped u r n) 1 (roundSay s r 0x45 n 0) ∧ isSet (roundDropped u r n) F.DEP_EVT_ROUND_ABORT = true
    ∧ (roundDropped u r n).load = { u.load with dead := true, outBuf := [], sent := [] } ∧ (roundDropped u r n).boot = u.boot := by
  have hsay : roundSay u r 0x45 n 0 = roundSay s r 0x45 n 0 := by unfold roundSay; rw [h.addr_eq]
  have hload := sendMsg_load u 1 (roundSay s r 0x45 n 0)
  have hdown : abortDown u r n = { sendMsg u 1 (roundSay s r 0x45 n 0) with load := { u.load with dead := true, outBuf := [], sent := [] } } := by
    rw [← hload, ← hsay]
    rfl
  have hkept : ChainKept s (abortDown u r n) := hdown ▸ (h.send 1 _).setLoad _
  have hsent : sends s (abortDown u r n) 1 (roundSay s r 0x45 n 0) := hdown ▸ sends_before (sends_sendMsg h 1 _) (.setLoad (.refl _) _)
  have hraised : ChainKept (abortDown u r n) (roundDropped u r n) := (ChainKept.refl _).raise9 F.DEP_EVT_ROUND_ABORT rfl
  refine ⟨hkept.trans hraised, sends_before hsent hraised, raise9_isSet _ rfl (by decide) rfl, (raise9_load ..).trans ?_, (raise9_boot ..).trans ?_⟩
  · rw [hdown]
  · rw [hdown]
    exact sendMsg_boot ..

theorem roundAbort_does (hchain : chainBoot s = false) (hround : s.load.round = some (msgRound m)) : Does (.roundAbort m) s (fun t =>
    t.load.round = none ∧ t.load.sent = [] ∧ isSet t F.DEP_EVT_ROUND_ABORT = true
    ∧ sends s t 1 (roundSay s (msgRound m) 0x45 (extractBits (mw m 1) 0 3) 0)) := by
  obtain ⟨-, hsent, hshown, hload, hboot⟩ := roundDropped_does (ChainKept.take s 0 m) (msgRound m) (extractBits (mw m 1) 0 3)
  have hexec : exec (.roundAbort m) s = .next (roundAborted (takeMsg s 0 m) (msgRound m) (extractBits (mw m 1) 0 3)) :=
    if_pos (by rw [takeMsg_load, hround])
  generalize hv : roundDropped (takeMsg s 0 m) (msgRound m) (extractBits (mw m 1) 0 3) = v at hsent hshown hload hboot
  have hno : chainBoot { v with load := { v.load with round := none } } = false := (chainBoot_congr (hboot.trans (takeMsg_boot s 0 m))).trans hchain
  have habort : roundAborted (takeMsg s 0 m) (msgRound m) (extractBits (mw m 1) 0 3) = { v with load := { v.load with round := none } } := by
    rw [← hv] at hno ⊢
    refine if_neg ?_
    simp only [Bool.and_eq_true]
    rintro ⟨⟨h, -⟩, -⟩
    exact absurd (h.symm.trans hno) (by decide)
  rw [habort] at hexec
  exact ⟨_, hexec, rfl, congrArg Load.sent hload, hshown, sends_before hsent (.setLoad (.refl v) _)⟩

/-! #### RESEND (R194) -/

/-- A held chunk as it is sent again. -/
def pieceOf (s : State) (r : Nat) (c : Nat × Nat × List Byte) : Msg :=
  ⟨0x43, ownAddr s, toNext, [w32 (r * 2 ^ 16), w32 c.1, w32 c.2.2.length, crc32c c.2.2], c.2.2⟩

/-- The chunks of a list go out again. -/
def resent (s : State) (r : Nat) (l : List (Nat × Nat × List Byte)) : State := l.foldl (fun t c => sendMsg t 1 (pieceOf t r c)) s

theorem resent_kept (h : ChainKept s u) (r : Nat) (l : List (Nat × Nat × List Byte)) : ChainKept s (resent u r l) :=
  List.foldlRecOn (motive := ChainKept s) l _ h fun _ hv _ _ => hv.send 1 _

theorem resent_load (s : State) (r : Nat) (l : List (Nat × Nat × List Byte)) : (resent s r l).load = s.load :=
  List.foldlRecOn (motive := fun t : State => t.load = s.load) l _ rfl fun _ hv _ _ => (sendMsg_load ..).trans hv

theorem resent_rd_dep {a : Nat} (ha : blockOf a = 4) (s : State) (r : Nat) (l : List (Nat × Nat × List Byte)) : rd (resent s r l) a = rd s a :=
  List.foldlRecOn (motive := fun t => rd t a = rd s a) l _ rfl fun _ hv _ _ => (sendMsg_rd_dep ha ..).trans hv

theorem resent_sends (h : ChainKept s u) (r : Nat) {l : List (Nat × Nat × List Byte)} {c : Nat × Nat × List Byte} (hc : c ∈ l) :
    sends s (resent u r l) 1 (pieceOf s r c) := by
  induction l generalizing u with
  | nil => cases hc
  | cons x l ih =>
    have hnext := h.send 1 (pieceOf u r x)
    rcases List.mem_cons.1 hc with rfl | hc
    · have hpiece : pieceOf u r c = pieceOf s r c := by unfold pieceOf; rw [h.addr_eq]
      exact sends_before (hpiece ▸ sends_sendMsg h 1 (pieceOf u r c)) (resent_kept (.refl _) r l)
    · exact ih hnext hc

/-- The chunk is held and named by the RESEND. -/
def heldAgain (s : State) (m : Msg) : List (Nat × Nat × List Byte) := s.load.sent.filter (fun c => (mw m 1).toNat ≤ c.1)

theorem mem_heldAgain {c : Nat × Nat × List Byte} : c ∈ heldAgain s m ↔ c ∈ s.load.sent ∧ (mw m 1).toNat ≤ c.1 := by
  unfold heldAgain
  rw [List.mem_filter, decide_eq_true_eq]

section
variable (hround : s.load.round = some (msgRound m))
include hround

/-- The chunks that go out again are counted. -/
def sentAgain (s : State) (m : Msg) : State :=
  { resendAsked (takeMsg s 1 m) with
    load := { s.load with sent := s.load.sent.map (fun c => if (mw m 1).toNat ≤ c.1 then (c.1, c.2.1 + 1, c.2.2) else c) } }

omit hround in
theorem resendAsked_load (s : State) : (resendAsked s).load = s.load := (raise_load ..).trans (satAdd_load ..)

theorem exec_resend_again (hany : (heldAgain s m).any (fun c => 4 ≤ c.2.1) = false) : exec (.resend m) s
    = .next (resent (sentAgain s m) (msgRound m) (heldAgain s m)) := by
  have hload := (resendAsked_load (takeMsg s 1 m)).trans (takeMsg_load s 1 m)
  show execResend m s = _
  unfold execResend
  dsimp only
  rw [if_neg (by rw [takeMsg_load, hround]; simp), ← resendAsked, hload]
  exact if_neg fun h => Bool.false_ne_true (hany.symm.trans h)

theorem exec_resend_drops (hany : (heldAgain s m).any (fun c => 4 ≤ c.2.1) = true) : exec (.resend m) s
    = .next (if servesImages (roundDropped (resendAsked (takeMsg s 1 m)) (msgRound m) 3)
        then endRoundJob { roundDropped (resendAsked (takeMsg s 1 m)) (msgRound m) 3 with
          load := { (roundDropped (resendAsked (takeMsg s 1 m)) (msgRound m) 3).load with round := none } }
        else roundDropped (resendAsked (takeMsg s 1 m)) (msgRound m) 3) := by
  have hload := (resendAsked_load (takeMsg s 1 m)).trans (takeMsg_load s 1 m)
  show execResend m s = _
  unfold execResend
  dsimp only
  rw [if_neg (by rw [takeMsg_load, hround]; simp), ← resendAsked, hload]
  exact if_pos hany

theorem resend_again (hfew : ∀ c ∈ s.load.sent, (mw m 1).toNat ≤ c.1 → c.2.1 < 4) : Does (.resend m) s (fun t =>
    (∀ c ∈ s.load.sent, (mw m 1).toNat ≤ c.1 → sends s t 1 (pieceOf s (msgRound m) c))
    ∧ t.load.sent = s.load.sent.map (fun c => if (mw m 1).toNat ≤ c.1 then (c.1, c.2.1 + 1, c.2.2) else c)
    ∧ isSet t F.DEP_EVT_RESEND = true) := by
  have hany : (heldAgain s m).any (fun c => 4 ≤ c.2.1) = false := List.any_eq_false.2 fun c hc => by
    obtain ⟨hmem, hle⟩ := mem_heldAgain.1 hc
    have hlt := hfew c hmem hle
    simp only [decide_eq_true_eq]
    omega
  have hexec := exec_resend_again hround hany
  have hkept : ChainKept s (sentAgain s m) := (resendAsked_kept (ChainKept.take s 1 m)).setLoad _
  have hevt : isSet (sentAgain s m) F.DEP_EVT_RESEND = true :=
    (isSet_congr (rd_congr (t := sentAgain s m) (s := resendAsked (takeMsg s 1 m)) rfl _)).trans (resendAsked_shows (takeMsg s 1 m)).1
  have hload : (sentAgain s m).load.sent = s.load.sent.map (fun c => if (mw m 1).toNat ≤ c.1 then (c.1, c.2.1 + 1, c.2.2) else c) := rfl
  generalize sentAgain s m = v at hexec hkept hevt hload
  refine ⟨_, hexec, fun c hc hle => resent_sends hkept _ (mem_heldAgain.2 ⟨hc, hle⟩), ?_, ?_⟩
  · rw [resent_load, hload]
  · rw [isSet_congr (resent_rd_dep rfl ..), hevt]

end

/-- What the aborted round touches: registers of DEP and of the chain, outputs and the loading. -/
def dropMask : Nat := 2 ^ 1 + 2 ^ 5 + 2 ^ 11 + 2 ^ 31 + 2 ^ 38 + 2 ^ 68 + 2 ^ 71 + 2 ^ 73 + 2 ^ 74 + 2 ^ 83

theorem resendDropped_made (s : State) (m : Msg) (r n : Nat) : Made dropMask s (roundDropped (resendAsked (takeMsg s 1 m)) r n) := by
  have htook : Made dropMask s (takeMsg s 1 m) := takeMsg_made (by decide) s 1 m (.refl ..)
  have hasked : Made dropMask s (resendAsked (takeMsg s 1 m)) := setf_made (by decide) _ _ _ (by decide) (setf_made (by decide) _ _ _ (by decide) htook)
  exact raise9_made (by decide) _ _ (by decide) (abortDown_made (by decide) _ r n hasked)

theorem resend_drops (hround : s.load.round = some (msgRound m)) (hmany : ∃ c ∈ s.load.sent, (mw m 1).toNat ≤ c.1 ∧ 4 ≤ c.2.1) :
    Does (.resend m) s (fun t => sends s t 1 (roundSay s (msgRound m) 0x45 3 0) ∧ t.load.sent = [] ∧ t.load.dead = true
      ∧ isSet t F.DEP_EVT_ROUND_ABORT = true ∧ (servesImages s = true → t.load.round = none)) := by
  obtain ⟨c, hc, hle, hfour⟩ := hmany
  have hany : (heldAgain s m).any (fun c => 4 ≤ c.2.1) = true := List.any_eq_true.2 ⟨c, mem_heldAgain.2 ⟨hc, hle⟩, decide_eq_true hfour⟩
  have hmade := resendDropped_made s m (msgRound m) 3
  have hserves := servesImages_congr (hmade.blk _ (by decide)) (hmade.pwr (by decide)) (hmade.enu (by decide))
  obtain ⟨hkept, hsent, hshown, hload, -⟩ := roundDropped_does (resendAsked_kept (ChainKept.take s 1 m)) (msgRound m) 3
  have hexec := exec_resend_drops hround hany
  rw [hserves] at hexec
  generalize roundDropped (resendAsked (takeMsg s 1 m)) (msgRound m) 3 = v at hexec hkept hsent hshown hload
  by_cases hs : servesImages s = true
  · rw [if_pos hs] at hexec
    have habort : AbortShown v { v with load := { v.load with round := none } } := ⟨(KeepsMsgs.refl v).of_ports rfl, hshown⟩
    have hended := endRoundJob_abort habort
    have hend := (endRoundJob_made (Nat.or_self _) { v with load := { v.load with round := none } } (.refl ..)).load rfl
    refine ⟨_, hexec, fun hup => hended.keeps.carries_of _ _ (hsent hup), ?_, ?_, hended.shown, fun _ => congrArg Load.round hend⟩
    · rw [hend]
      exact congrArg Load.sent hload
    · rw [hend]
      exact congrArg Load.dead hload
  · rw [if_neg hs] at hexec
    exact ⟨_, hexec, hsent, congrArg Load.sent hload, congrArg Load.dead hload, hshown, fun h => absurd h hs⟩

end

/-- Settles O40: what each message of a load does, with the messages that go out in answer. -/
theorem chainLoading : Obligations.ChainLoading := by
  unfold Obligations.ChainLoading
  intro s m
  refine ⟨fun h => imageReq_passes h m, fun hserves => ⟨fun i hslot => imageReq_holds hserves hslot m, fun hslot => imageReq_empty hserves hslot m,
      reqAckRepeat_floods hserves, fun i hslot hpending hround haway hidle => loadRoundStart_does hserves hslot hpending hround haway hidle⟩,
    fun hchain hwait => ⟨imageReqRetry_asks hchain hwait, chainTryTimeout_locked hchain hwait, chainTryTimeout_joined hchain hwait,
      chainTryTimeout_tries hchain hwait⟩,
    reqAck_does s m, fun haway => roundBegin_does haway m,
    fun hround haway => ⟨chunk_next hround haway rfl, chunk_gap hround haway rfl, chunk_old hround haway rfl⟩,
    fun hround => ⟨chunkAck_does hround, resend_again hround, resend_drops hround,
      fun hchain => ⟨roundEnd_does hchain hround, roundAbort_does hchain hround⟩⟩⟩

end Sys2Proof.Machine

/-! ### The NV array's engine in NVA_STAT (R219, Table 8-6, Table 8-11) -/
namespace Sys2Proof.Machine

/-! #### What the engine shows -/

section
variable (s : State) (x : Nva)

theorem rd_showNva {r : Nat} (h : r ≠ R.NVA_STAT) : rd (showNva s) r = rd s r := by
  unfold showNva
  dsimp only
  rw [rd_setf_ne h, rd_setf_ne h, rd_setf_ne h, rd_setf_ne h, rd_setf_ne h]

/-- The engine's state stands in the low seven bits of NVA_STAT. -/
theorem getf_showNva {g : Fld} (h : g.reg ≠ R.NVA_STAT ∨ 7 ≤ g.lo) : getf (showNva s) g = getf s g := by
  have happart (t : State) (f : Fld) (v : Nat) (hf : f.reg = R.NVA_STAT ∧ f.lo + f.width ≤ 7) : getf (setf t f v) g = getf t g := by
    obtain ⟨hreg, hlo⟩ := hf
    refine getf_setf_apart ?_
    rw [hreg]
    omega
  unfold showNva
  dsimp only
  rw [happart _ _ _ (by decide), happart _ _ _ (by decide), happart _ _ _ (by decide), happart _ _ _ (by decide), happart _ _ _ (by decide)]

theorem isSet_showNva_busy : isSet (showNva s) F.NVA_STAT_BUSY = s.nva.run.isSome := by
  unfold showNva
  dsimp only
  rw [isSet_setf_apart (by decide), isSet_setf_apart (by decide), isSet_setf_apart (by decide), isSet_setf_apart (by decide)]
  exact isSet_setf_b2n _ _ _ rfl (by decide)

theorem isSet_showNva_susp : isSet (showNva s) F.NVA_STAT_SUSP = (s.nva.run.isSome && (s.nva.susp != 0)) := by
  unfold showNva
  dsimp only
  rw [isSet_setf_apart (by decide), isSet_setf_apart (by decide), isSet_setf_apart (by decide)]
  exact isSet_setf_b2n _ _ _ rfl (by decide)

theorem isSet_showNva_by : isSet (showNva s) F.NVA_STAT_BY = (s.nva.susp == 2) := by
  unfold showNva
  dsimp only
  rw [isSet_setf_apart (by decide), isSet_setf_apart (by decide)]
  exact isSet_setf_b2n _ _ _ rfl (by decide)

@[simp] theorem nvEngine_nva : (nvEngine s x).nva = x := rfl

theorem rd_nvEngine {r : Nat} (h : r ≠ R.NVA_STAT) : rd (nvEngine s x) r = rd s r := rd_showNva (setNva s x) h

theorem getf_nvEngine {g : Fld} (h : g.reg ≠ R.NVA_STAT ∨ 7 ≤ g.lo) : getf (nvEngine s x) g = getf s g := getf_showNva (setNva s x) h

theorem isSet_nvEngine_busy : isSet (nvEngine s x) F.NVA_STAT_BUSY = x.run.isSome := isSet_showNva_busy (setNva s x)

theorem isSet_nvEngine_susp : isSet (nvEngine s x) F.NVA_STAT_SUSP = (x.run.isSome && (x.susp != 0)) := isSet_showNva_susp (setNva s x)

theorem isSet_nvEngine_by : isSet (nvEngine s x) F.NVA_STAT_BY = (x.susp == 2) := isSet_showNva_by (setNva s x)

end

/-! #### The end of a register command (Table 8-11) -/

section
variable (s : State) (e : Nat)

theorem isSet_regEnd_done : isSet (regEnd s e) F.NVA_STAT_DONE = true := isSet_setf_one _ rfl (by decide)

theorem getf_regEnd_err (h : e < 16) : getf (regEnd s e) F.NVA_STAT_CMD_ERR = e :=
  (getf_setf_apart (by decide)).trans (getf_setf_fits s (by decide) h)

theorem rd_regEnd {r : Nat} (h : r ≠ R.NVA_STAT) : rd (regEnd s e) r = rd s r := (rd_setf_ne h _ _).trans (rd_setf_ne h _ _)

theorem getf_regEnd_low {g : Fld} (h : g.reg = R.NVA_STAT ∧ g.lo + g.width ≤ 11) : getf (regEnd s e) g = getf s g := by
  obtain ⟨-, hlo⟩ := h
  exact (getf_setf_apart (.inr (.inr hlo))).trans (getf_setf_apart (.inr (.inr (show _ ≤ 12 by omega))))

theorem isSet_regEnd_low {g : Fld} (h : g.reg = R.NVA_STAT ∧ g.lo + g.width ≤ 11) : isSet (regEnd s e) g = isSet s g := by
  unfold isSet
  rw [getf_regEnd_low s e h]

end

/-! #### Operations that come and go on the engine (Table 8-7) -/

/-- The engine with a new operation: it runs at once, or nests above the one that is there. -/
def Nva.begin (e : Nva) (x : NvOp) : Nva :=
  if e.run.isSome then { e with run := some x, below := e.run }
  else { e with run := some x, susp := 0, req := 0, resumed := false, guard := 0 }

theorem nvRun_eq (s : State) (x : NvOp) : nvRun s x = nvEngine s (s.nva.begin x) := by
  cases h : s.nva.run with
  | none => simp [nvRun, Nva.begin, h]
  | some y => simp [nvRun, Nva.begin, h]

theorem Nva.begin_run (e : Nva) (x : NvOp) : (e.begin x).run = some x := by
  unfold Nva.begin
  split <;> rfl

theorem Nva.begin_below (e : Nva) (x : NvOp) : (e.begin x).below = if e.run.isSome then e.run else e.below := by
  unfold Nva.begin
  split <;> rfl

theorem Nva.begin_began (e : Nva) (x : NvOp) : (e.begin x).began = e.began := by
  unfold Nva.begin
  split <;> rfl

theorem nvEnd_eq {s : State} (h : s.nva.below = none) : nvEnd s = nvEngine s { s.nva with run := none, susp := 0, req := 0 } := by
  unfold nvEnd
  dsimp only
  rw [h]

end Sys2Proof.Machine

/-! ### The key sequence and the triggers (R206 to R209, R212, R213, R215), and O42 -/
namespace Sys2Proof.Machine

/-! #### The checks at a trigger (R208, Table 8-5) -/

/-- The checks read the engine, the incomplete marks, NVA_CTL, the protect bits and the erase counters. -/
theorem nvCheck_congr {s t : State} (hnva : t.nva = s.nva) (hmarks : t.nvIncomplete = s.nvIncomplete)
    (hctl : rd t R.NVA_CTL = rd s R.NVA_CTL) (hrd : ∀ r, 0x50100 ≤ r → rd t r = rd s r) (code addr : Nat) :
    nvCheck t code addr = nvCheck s code addr := by
  have hwp : wpSet t = wpSet s := by
    funext k
    unfold wpSet
    rw [hrd _ (Nat.le_add_right ..)]
  have hcount : getf t (F.NVA_ECNT_COUNT (addr / 65536)) = getf s (F.NVA_ECNT_COUNT (addr / 65536)) :=
    getf_congr (hrd _ (by show 0x50100 ≤ 0x51000 + _; omega))
  have hstop : isSet t F.NVA_CTL_WEAR_STOP = isSet s F.NVA_CTL_WEAR_STOP := isSet_congr hctl
  unfold nvCheck nvTakes
  rw [hwp, hcount, hstop, hnva, hmarks]

/-- A refusal's code fits CMD_ERR. -/
theorem nvCheck_lt {s : State} {code addr e : Nat} (h : nvCheck s code addr = some e) : e < 16 := by
  unfold nvCheck at h
  dsimp only at h
  repeat' split at h
  all_goals cases h <;> decide

theorem nvByte_congr {s t : State} (hnv : t.nv = s.nv) (hfill : t.nvFill = s.nvFill) (a : Nat) : nvByte t a = nvByte s a := by
  unfold nvByte
  rw [hnv, hfill]

theorem lineErased_congr {s t : State} (h : ∀ a, nvByte t a = nvByte s a) (a : Nat) : lineErased t a = lineErased s a := by
  unfold lineErased
  simp only [h]

/-! #### The trigger's write (R206) -/

/-- The trigger's word is stored, and the armed opcode is used up. -/
def trigFired (s : State) (a : Nat) (v : W32) : State := setf (wr s a v) F.NVA_STAT_SEQ 0

section
variable {s : State} {m : Master} {a code : Nat} {v : W32} {act : State → State}

theorem rd_trigFired {r : Nat} (ha : r ≠ a) (hstat : r ≠ R.NVA_STAT) : rd (trigFired s a v) r = rd s r :=
  (rd_setf_ne hstat _ _).trans (rd_wr_ne ha _ _)

theorem getf_trigFired_seq : getf (trigFired s a v) F.NVA_STAT_SEQ = 0 := getf_setf_fits _ (by decide) (by decide)

theorem nvCheck_trigFired (ha : a < 0x50100) (hctl : R.NVA_CTL ≠ a) (code addr : Nat) : nvCheck (trigFired s a v) code addr = nvCheck s code addr :=
  nvCheck_congr (t := trigFired s a v) (s := s) rfl rfl (rd_trigFired hctl (by decide))
    (fun r hr => rd_trigFired (by omega) (by unfold R.NVA_STAT; omega)) code addr

theorem nvTrig_foreign (haway : regAway s a = false) (hown : nvForeign s m = true) :
    nvTrig m a v code s act = satAdd s F.NVA_EVT_CNT_CONFLICT 1 := by
  unfold nvTrig
  rw [if_neg (by simp [haway]), if_pos hown]

theorem nvTrig_unarmed (haway : regAway s a = false) (hown : nvForeign s m = false) (ha : a ≠ R.NVA_STAT)
    (h : getf s F.NVA_STAT_SEQ ≠ 3 ∨ s.nva.cmd ≠ code) : nvTrig m a v code s act = wr s a v := by
  unfold nvTrig
  dsimp only
  rw [if_neg (by simp [haway]), if_neg (by simp [hown]), getf_wr_ne (Ne.symm ha), wr_nva]
  exact if_neg (by tauto)

theorem nvTrig_armed (haway : regAway s a = false) (hown : nvForeign s m = false) (ha : a ≠ R.NVA_STAT)
    (hseq : getf s F.NVA_STAT_SEQ = 3) (hcmd : s.nva.cmd = code) : nvTrig m a v code s act = act (trigFired s a v) := by
  unfold nvTrig
  dsimp only
  rw [if_neg (by simp [haway]), if_neg (by simp [hown]), getf_wr_ne (Ne.symm ha), wr_nva]
  exact if_pos ⟨hseq, hcmd⟩

end

/-! #### How a trigger ends -/

/-- The sequence is LOCKED with CMD_ERR `e`, and nothing but registers has changed. -/
def SeqClosed (s : State) (e : Nat) (t : State) : Prop :=
  getf t F.NVA_STAT_SEQ = 0 ∧ getf t F.NVA_STAT_CMD_ERR = e ∧ t = { s with regs := t.regs }

/-- Operation `x` is on the engine, BUSY, with no error shown and the sequence LOCKED. -/
def OpStarted (s : State) (x : NvOp) (t : State) : Prop :=
  t.nva.run = some x ∧ isSet t F.NVA_STAT_BUSY = true ∧ getf t F.NVA_STAT_CMD_ERR = 0 ∧ getf t F.NVA_STAT_SEQ = 0
    ∧ t.nva.below = (if s.nva.run.isSome then s.nva.run else s.nva.below)

section
variable {s t : State} {a e : Nat} {v : W32}

theorem seqClosed_nvBreak (s : State) : SeqClosed s 1 (nvBreak s) :=
  ⟨(getf_setf_apart (by decide)).trans (getf_setf_fits _ (by decide) (by decide)), getf_setf_fits _ (by decide) (by decide), rfl⟩

theorem seqClosed_nvDeny (a : Nat) (v : W32) (he : e < 16) : SeqClosed s e (nvDeny (trigFired s a v) e) :=
  ⟨(getf_setf_apart (by decide)).trans getf_trigFired_seq, getf_setf_fits _ (by decide) he, rfl⟩

theorem seqClosed_regEnd (hseq : getf t F.NVA_STAT_SEQ = 0) (ht : t = { s with regs := t.regs }) (he : e < 16) : SeqClosed s e (regEnd t e) := by
  refine ⟨(getf_regEnd_low t e (by decide)).trans hseq, getf_regEnd_err t e he, ?_⟩
  have hframe : regEnd t e = { t with regs := (regEnd t e).regs } := rfl
  rw [hframe, ht]

/-- An operation that is put on the engine as it stands in `s`. -/
theorem opStarted_nvRun (hrun : t.nva.run = s.nva.run) (hbelow : t.nva.below = s.nva.below) (herr : getf t F.NVA_STAT_CMD_ERR = 0)
    (hseq : getf t F.NVA_STAT_SEQ = 0) (x : NvOp) : OpStarted s x (nvRun t x) := by
  have hbusy := isSet_nvEngine_busy t (t.nva.begin x)
  rw [Nva.begin_run] at hbusy
  rw [nvRun_eq]
  refine ⟨Nva.begin_run .., hbusy, ?_, ?_, ?_⟩
  · rw [getf_nvEngine _ _ (by decide), herr]
  · rw [getf_nvEngine _ _ (by decide), hseq]
  · rw [nvEngine_nva, Nva.begin_below, hrun, hbelow]

end

/-! #### The key sequence (R206, R207, Table 8-3) -/

section
variable {s : State} {m : Master}

/-- The other master's write is ignored and counted. -/
theorem conflict_does {i : Instr} (h : exec i s = .next (satAdd s F.NVA_EVT_CNT_CONFLICT 1)) : Does i s (fun t => t = { s with regs := t.regs }
    ∧ getf t F.NVA_EVT_CNT_CONFLICT = min 65535 (getf s F.NVA_EVT_CNT_CONFLICT + 1) ∧ ∀ a, a ≠ R.NVA_EVT_CNT → rd t a = rd s a) :=
  ⟨_, h, rfl, getf_satAdd s _ 1 (by decide), fun _ ha => rd_setf_ne ha _ _⟩

variable (haway : away s 9 = false)
include haway

/-- The block's own registers are served while D9 is there (R43). -/
theorem regAway_nva {a : Nat} (h : regClass a = .dom 9) (hb : a / 0x10000 = 5) : regAway s a = false := by
  unfold regAway
  rw [h, hb]
  exact haway

variable (v : W32)

theorem exec_nvaKey_foreign (hown : nvForeign s m = true) : exec (.nvaKey m v) s = .next (satAdd s F.NVA_EVT_CNT_CONFLICT 1) :=
  (if_neg (Bool.eq_false_iff.1 (regAway_nva haway rfl rfl))).trans (if_pos hown)

theorem exec_nvaCmd_foreign (hown : nvForeign s m = true) : exec (.nvaCmd m v) s = .next (satAdd s F.NVA_EVT_CNT_CONFLICT 1) :=
  (if_neg (Bool.eq_false_iff.1 (regAway_nva haway rfl rfl))).trans (if_pos hown)

variable (hown : nvForeign s m = false)
include hown

/-- A key of the owner meets the sequence's state. -/
theorem exec_nvaKey_owned {t : State} (h : (match getf s F.NVA_STAT_SEQ with
    | 0 => if v = 0xA55A#32 then done (setf (setf s F.NVA_STAT_SEQ 1) F.NVA_STAT_OWNER (b2n (m == .kite))) else done s
    | 1 => if v = 0x5AA5#32 then done (setf s F.NVA_STAT_SEQ 2) else done (nvBreak s)
    | _ => done (nvBreak s)) = done t) : exec (.nvaKey m v) s = .next t := by
  show execNvaKey m v s = _
  unfold execNvaKey
  rw [if_neg (Bool.eq_false_iff.1 (regAway_nva haway rfl rfl)), if_neg (by simp [hown])]
  exact h

theorem nvaKey_begins (hseq : getf s F.NVA_STAT_SEQ = 0) : Does (.nvaKey m 0xA55A#32) s (fun t =>
    getf t F.NVA_STAT_SEQ = 1 ∧ isSet t F.NVA_STAT_OWNER = (m == .kite) ∧ t = { s with regs := t.regs }) :=
  ⟨_, exec_nvaKey_owned haway _ hown (by rw [hseq]; rfl), (getf_setf_apart (by decide)).trans (getf_setf_fits s (by decide) (by decide)),
    isSet_setf_b2n _ _ _ rfl (by decide), rfl⟩

theorem nvaKey_ignored (hseq : getf s F.NVA_STAT_SEQ = 0) (hv : v ≠ 0xA55A#32) : exec (.nvaKey m v) s = .next s :=
  exec_nvaKey_owned haway v hown (by rw [hseq]; exact if_neg hv)

theorem nvaKey_opens (hseq : getf s F.NVA_STAT_SEQ = 1) : Does (.nvaKey m 0x5AA5#32) s (fun t =>
    getf t F.NVA_STAT_SEQ = 2 ∧ t = { s with regs := t.regs }) :=
  ⟨_, exec_nvaKey_owned haway _ hown (by rw [hseq]; rfl), getf_setf_fits s (by decide) (by decide), rfl⟩

theorem nvaKey_breaks (h : (getf s F.NVA_STAT_SEQ = 1 ∧ v ≠ 0x5AA5#32) ∨ 2 ≤ getf s F.NVA_STAT_SEQ) : Does (.nvaKey m v) s (SeqClosed s 1) := by
  refine ⟨_, exec_nvaKey_owned haway v hown ?_, seqClosed_nvBreak s⟩
  rcases h with ⟨hseq, hv⟩ | hseq
  · rw [hseq]
    exact if_neg hv
  · split
    · omega
    · omega
    · rfl

theorem nvaCmd_breaks (hseq : getf s F.NVA_STAT_SEQ = 1) : Does (.nvaCmd m v) s (SeqClosed s 1) := by
  refine ⟨nvBreak s, ?_, seqClosed_nvBreak s⟩
  show execNvaCmd m v s = _
  unfold execNvaCmd
  rw [if_neg (Bool.eq_false_iff.1 (regAway_nva haway rfl rfl)), if_neg (by simp [hown]), hseq]
  rfl

theorem nvaCmd_arms (hseq : getf s F.NVA_STAT_SEQ = 2) : Does (.nvaCmd m v) s (fun t =>
    getf t F.NVA_STAT_SEQ = 3 ∧ t.nva = { s.nva with cmd := v.toNat }) := by
  refine ⟨setNva (setf s F.NVA_STAT_SEQ 3) { s.nva with cmd := v.toNat }, ?_, getf_setf_fits s (by decide) (by decide), rfl⟩
  show execNvaCmd m v s = _
  unfold execNvaCmd
  rw [if_neg (Bool.eq_false_iff.1 (regAway_nva haway rfl rfl)), if_neg (by simp [hown]), hseq]
  rfl

end

theorem nvaSeqLapse_breaks {s : State} (haway : away s 9 = false) (hseq : getf s F.NVA_STAT_SEQ ≠ 0) : Does .nvaSeqLapse s (SeqClosed s 1) :=
  ⟨_, if_neg (by simp [haway, hseq]), seqClosed_nvBreak s⟩

/-! #### An erase begins (R215, R218) -/

/-- No command but those of the block itself reaches its registers: a device event leaves them. -/
theorem devEvent_rd_nva {r : Nat} (hb : blockOf r = 5) (s : State) (k : Nat) : rd (devEvent s k) r = rd s r :=
  (devEvent_made (Nat.or_self _) s k (.refl ..)).blk r (by rw [hb]; rfl)

theorem raise9_rd_nva {r : Nat} (hb : blockOf r = 5) {f : Fld} (hf : r ≠ f.reg) (s : State) : rd (raise9 s f) r = rd s r := by
  unfold raise9
  split
  · rfl
  · exact (devEvent_rd_nva hb _ 9).trans (rd_raise_ne hf s)

/-- What an event that raises device event 9 leaves as it is. -/
theorem raise9_nva_made (s : State) {f : Fld} (hf : blockOf f.reg = 5) : Made 9702692234866319675099170 s (raise9 s f) :=
  raise9_made (by decide) s f (by rw [hf]; decide) (.refl ..)

/-- The sectors' contents go, one after the other. -/
def sectorsCleared (s : State) (ks : List Nat) (undef : Bool) : State := ks.foldl (fun t k => nvClear t k undef) s

theorem sectorsCleared_made (s : State) (ks : List Nat) (undef : Bool) : Made 137439084560 s (sectorsCleared s ks undef) :=
  .foldl (fun _ _ h => nvClear_made (Nat.or_self _) _ _ _ h) ks (.refl ..)

/-- A sector that is cleared leaves every other sector as it was. -/
theorem nvByte_nvClear_other {k a : Nat} (h : a / 4096 ≠ k) (s : State) (undef : Bool) : nvByte (nvClear s k undef) a = nvByte s a := by
  have hnv : sget a (nvClear s k undef).nv = sget a s.nv := by
    cases undef <;> exact (sget_filter (fun c => !(c / 4096 == k)) a s.nv).trans (if_pos (by simpa using h))
  have hfill : sget (a / 4096) (nvClear s k undef).nvFill = sget (a / 4096) s.nvFill := by
    cases undef
    · exact sget_sdel_ne h s.nvFill
    · exact sget_sput_ne h _ s.nvFill
  unfold nvByte
  rw [hnv, hfill]

theorem nvByte_sectorsCleared_other {ks : List Nat} {a : Nat} (h : a / 4096 ∉ ks) (s : State) (undef : Bool) :
    nvByte (sectorsCleared s ks undef) a = nvByte s a := by
  induction ks generalizing s with
  | nil => rfl
  | cons k ks ih =>
    obtain ⟨hk, hks⟩ := List.ne_and_not_mem_of_not_mem_cons h
    exact (ih hks _).trans (nvByte_nvClear_other hk s undef)

/-- The wear past 1,000,000 erases is noted (R218). -/
def wornNoted (s : State) (b : Nat) : State := if 1000000 ≤ getf s (F.NVA_ECNT_COUNT b) then raise9 s F.NVA_EVT_WORN_ERASE else s

/-- An erase is counted in its block and in the total, and its own counts begin at 0 (R214, R215). -/
def nvEraseCounted (s : State) (b : Nat) : State :=
  let u := satAdd (wornNoted s b) (F.NVA_ECNT_COUNT b) 1
  let n := (rd u R.NVA_TOTAL_LO).toNat + 2 ^ 32 * (rd u R.NVA_TOTAL_HI).toNat + 1
  wr (wr (wr u R.NVA_TOTAL_LO (w32 n)) R.NVA_TOTAL_HI (w32 (n / 2 ^ 32))) R.NVA_ERASE_SUSP 0#32

/-- The erase's block is counted and its sectors are undefined. -/
def nvEraseReady (s : State) (x : NvOp) : State := sectorsCleared (nvEraseCounted s (x.addr / 65536)) (nvSectors x) true

theorem beginNvErase_eq (s : State) (x : NvOp) :
    beginNvErase s x = nvRun (setNva (nvEraseReady s x) { (nvEraseReady s x).nva with began := some (nvEraseReady s x).clk }) x := rfl

section
variable (s : State) (b : Nat)

theorem wornNoted_made : Made 9702692234866319675099170 s (wornNoted s b) := .ite (raise9_nva_made s rfl) (.refl ..)

theorem wornNoted_rd {r : Nat} (hb : blockOf r = 5) (hr : r ≠ R.NVA_EVT) : rd (wornNoted s b) r = rd s r := by
  unfold wornNoted
  split
  · exact raise9_rd_nva hb hr s
  · rfl

theorem getf_nvEraseCounted : getf (nvEraseCounted s b) (F.NVA_ECNT_COUNT b) = min (2 ^ 32 - 1) (getf s (F.NVA_ECNT_COUNT b) + 1) := by
  have hge : 0x51000 ≤ (F.NVA_ECNT_COUNT b).reg := Nat.le_add_right ..
  have hne {r : Nat} (hr : r < 0x51000) : (F.NVA_ECNT_COUNT b).reg ≠ r := by omega
  unfold nvEraseCounted
  dsimp only
  rw [getf_wr_ne (hne (by decide)), getf_wr_ne (hne (by decide)), getf_wr_ne (hne (by decide)), getf_satAdd _ _ _ (show 0 + 32 ≤ 32 by decide),
    getf_congr (wornNoted_rd s b (F.NVA_ECNT_COUNT_blk b) (hne (by decide)))]
  rfl

theorem rd_nvEraseCounted_stat : rd (nvEraseCounted s b) R.NVA_STAT = rd s R.NVA_STAT := by
  have hge : 0x51000 ≤ (F.NVA_ECNT_COUNT b).reg := Nat.le_add_right ..
  have hne : R.NVA_STAT ≠ (F.NVA_ECNT_COUNT b).reg := by unfold R.NVA_STAT; omega
  unfold nvEraseCounted
  dsimp only
  rw [rd_wr_ne (by decide), rd_wr_ne (by decide), rd_wr_ne (by decide)]
  exact (rd_setf_ne hne _ _).trans (wornNoted_rd s b rfl (by decide))

end

/-- An erase that begins: it runs, it is counted in its block, and other sectors are as they were. -/
def EraseBegun (s : State) (x : NvOp) (t : State) : Prop :=
  t.nva.began = some s.clk
    ∧ getf t (F.NVA_ECNT_COUNT (x.addr / 65536)) = min (2 ^ 32 - 1) (getf s (F.NVA_ECNT_COUNT (x.addr / 65536)) + 1)
    ∧ ∀ a, a / 4096 ∉ nvSectors x → nvByte t a = nvByte s a

section
variable (s : State) (x : NvOp)

theorem nvEraseReady_regs : (nvEraseReady s x).regs = (nvEraseCounted s (x.addr / 65536)).regs := (sectorsCleared_made _ _ _).regs rfl

theorem nvEraseReady_nva : (nvEraseReady s x).nva = s.nva :=
  ((sectorsCleared_made _ _ _).nva rfl).trans ((wornNoted_made s _).nva rfl)

theorem nvEraseReady_clk : (nvEraseReady s x).clk = s.clk :=
  ((sectorsCleared_made _ _ _).clk rfl).trans ((wornNoted_made s _).clk rfl)

theorem nvEraseReady_rd (r : Nat) : rd (nvEraseReady s x) r = rd (nvEraseCounted s (x.addr / 65536)) r := by
  unfold rd
  rw [nvEraseReady_regs]

theorem beginNvErase_begun : EraseBegun s x (beginNvErase s x) := by
  have hge : 0x51000 ≤ (F.NVA_ECNT_COUNT (x.addr / 65536)).reg := Nat.le_add_right ..
  have hne : (F.NVA_ECNT_COUNT (x.addr / 65536)).reg ≠ R.NVA_STAT := by unfold R.NVA_STAT; omega
  have hworn := wornNoted_made s (x.addr / 65536)
  have hbyte (a : Nat) (ha : a / 4096 ∉ nvSectors x) : nvByte (nvEraseReady s x) a = nvByte s a :=
    (nvByte_sectorsCleared_other ha _ true).trans (nvByte_congr (hworn.nv rfl) (hworn.nvFill rfl) a)
  have hcount := getf_congr (f := F.NVA_ECNT_COUNT (x.addr / 65536)) (nvEraseReady_rd s x _)
  have hclk := nvEraseReady_clk s x
  rw [beginNvErase_eq, nvRun_eq]
  generalize nvEraseReady s x = u at hbyte hcount hclk
  refine ⟨?_, ?_, fun a ha => (nvByte_congr rfl rfl a).trans (hbyte a ha)⟩
  · rw [nvEngine_nva, Nva.begin_began, ← hclk]
    rfl
  · rw [getf_nvEngine _ _ (.inl hne), ← getf_nvEraseCounted, ← hcount]
    rfl

/-- A begun erase of a state whose NVA_STAT shows no error and a LOCKED sequence. -/
theorem beginNvErase_started (herr : getf s F.NVA_STAT_CMD_ERR = 0) (hseq : getf s F.NVA_STAT_SEQ = 0) : OpStarted s x (beginNvErase s x) := by
  have hstat (f : Fld) (hf : f.reg = R.NVA_STAT) : getf (nvEraseReady s x) f = getf s f :=
    getf_congr (by rw [hf, nvEraseReady_rd, rd_nvEraseCounted_stat])
  have hnva := nvEraseReady_nva s x
  rw [beginNvErase_eq]
  generalize nvEraseReady s x = u at hstat hnva
  exact opStarted_nvRun (t := setNva u { u.nva with began := some u.clk }) (show u.nva.run = s.nva.run by rw [hnva])
    (show u.nva.below = s.nva.below by rw [hnva])
    ((hstat _ rfl).trans herr) ((hstat _ rfl).trans hseq) x

end

/-! #### The armed triggers (R208, Table 8-4) -/

section
variable {s : State} {m : Master} {v : W32} {i : Instr} {a code : Nat} {act : State → State}

/-- The other master's trigger is ignored and counted. -/
theorem exec_trigger_foreign (hexec : exec i s = .next (nvTrig m a v code s act)) (haddr : regAway s a = false) (hown : nvForeign s m = true) :
    exec i s = .next (satAdd s F.NVA_EVT_CNT_CONFLICT 1) := hexec.trans (congrArg _ (nvTrig_foreign haddr hown))

variable (hown : nvForeign s m = false)
include hown

/-- Where another opcode is armed, or none, the trigger's register takes the word and no more. -/
theorem trigger_stores (hexec : exec i s = .next (nvTrig m a v code s act)) (haddr : regAway s a = false) (ha : a ≠ R.NVA_STAT)
    (h : getf s F.NVA_STAT_SEQ ≠ 3 ∨ s.nva.cmd ≠ code) : Does i s (fun t => t = wr s a v) :=
  ⟨_, hexec.trans (congrArg _ (nvTrig_unarmed haddr hown ha h)), rfl⟩

/-- An armed trigger leads to what its command makes of the state in which it has fired. -/
theorem trigger_does (hseq : getf s F.NVA_STAT_SEQ = 3) {t : State} {P : State → Prop} (hexec : exec i s = .next (nvTrig m a v code s act))
    (haddr : regAway s a = false) (ha : a ≠ R.NVA_STAT) (hcmd : s.nva.cmd = code) (hact : act (trigFired s a v) = t) (h : P t) : Does i s P :=
  ⟨t, hexec.trans (congrArg _ ((nvTrig_armed haddr hown ha hseq hcmd).trans hact)), h⟩

end

section
variable {s : State} {m : Master} {v : W32} (haway : away s 9 = false)
include haway

/-- The seven triggers, each with its register and its opcode. -/
def nvTriggers (m : Master) (v : W32) : List (Instr × Nat × Nat) :=
  [(.programLine m v, R.NVA_DATA 3, 1), (.programPage m v, R.NVA_ADDR, 2), (.eraseSector m v, R.NVA_ADDR, 3),
    (.eraseBlock m v, R.NVA_ADDR, 4), (.suspend m v, R.NVA_ADDR, 5), (.resume m v, R.NVA_ADDR, 6), (.readCounter m v, R.NVA_ADDR, 7)]

/-- Each of them is a write to its register that D9 takes, with its opcode's own work behind it. -/
theorem nvTriggers_exec {x : Instr × Nat × Nat} (hx : x ∈ nvTriggers m v) :
    ∃ act, exec x.1 s = .next (nvTrig m x.2.1 v x.2.2 s act) ∧ regAway s x.2.1 = false ∧ x.2.1 ≠ R.NVA_STAT := by
  have haddr : regAway s R.NVA_ADDR = false := regAway_nva haway rfl rfl
  have hdata : regAway s (R.NVA_DATA 3) = false := regAway_nva haway rfl rfl
  simp only [nvTriggers, List.mem_cons, List.not_mem_nil, or_false] at hx
  rcases hx with rfl | rfl | rfl | rfl | rfl | rfl | rfl
  · exact ⟨_, rfl, hdata, show R.NVA_DATA 3 ≠ R.NVA_STAT by decide⟩
  all_goals exact ⟨_, rfl, haddr, show R.NVA_ADDR ≠ R.NVA_STAT by decide⟩

theorem commands_foreign (hown : nvForeign s m = true) : ∀ i ∈ [Instr.nvaKey m v, .nvaCmd m v] ++ (nvTriggers m v).map (·.1),
    exec i s = .next (satAdd s F.NVA_EVT_CNT_CONFLICT 1) := by
  intro i hi
  rcases List.mem_append.1 hi with hi | hi
  · simp only [List.mem_cons, List.not_mem_nil, or_false] at hi
    rcases hi with rfl | rfl
    · exact exec_nvaKey_foreign haway v hown
    · exact exec_nvaCmd_foreign haway v hown
  · obtain ⟨x, hx, rfl⟩ := List.mem_map.1 hi
    obtain ⟨act, hexec, haddr, -⟩ := nvTriggers_exec haway hx
    exact exec_trigger_foreign hexec haddr hown

theorem triggers_store (hown : nvForeign s m = false) : ∀ x ∈ nvTriggers m v, getf s F.NVA_STAT_SEQ ≠ 3 ∨ s.nva.cmd ≠ x.2.2 →
    Does x.1 s (fun t => t = wr s x.2.1 v) := by
  intro x hx h
  obtain ⟨act, hexec, haddr, hstat⟩ := nvTriggers_exec haway hx
  exact trigger_stores hown hexec haddr hstat h

end

section
variable {s : State} {m : Master} {v : W32} (haway : away s 9 = false) (hown : nvForeign s m = false) (hseq : getf s F.NVA_STAT_SEQ = 3)
include haway hown hseq

/-! #### PROGRAM_LINE -/

section
variable (hcmd : s.nva.cmd = 1)
include hcmd

theorem programLine_refused {e : Nat} (hcheck : nvCheck s 1 (rd s R.NVA_ADDR).toNat = some e) : Does (.programLine m v) s (SeqClosed s e) := by
  refine trigger_does hown hseq rfl (regAway_nva haway rfl rfl) (by decide) hcmd ?_ (seqClosed_nvDeny (R.NVA_DATA 3) v (nvCheck_lt hcheck))
  dsimp only
  rw [rd_trigFired (by decide) (by decide), nvCheck_trigFired (by decide) (by decide), hcheck]

theorem programLine_notErased (hcheck : nvCheck s 1 (rd s R.NVA_ADDR).toNat = none) (hline : lineErased s (rd s R.NVA_ADDR).toNat = false) :
    Does (.programLine m v) s (fun t => SeqClosed s 7 t ∧ isSet t F.NVA_STAT_DONE = true) := by
  refine trigger_does hown hseq rfl (regAway_nva haway rfl rfl) (by decide) hcmd
    (t := regEnd (trigFired s (R.NVA_DATA 3) v) 7) ?_ ⟨seqClosed_regEnd getf_trigFired_seq rfl (by decide), isSet_regEnd_done _ _⟩
  dsimp only
  rw [rd_trigFired (by decide) (by decide), nvCheck_trigFired (by decide) (by decide), hcheck]
  exact if_pos hline

/-- The program of the line in NVA_DATA, whose last word is `v`. -/
def lineProgram (s : State) (v : W32) : NvOp :=
  { code := 1, addr := (rd s R.NVA_ADDR).toNat, data := wordsBytes [rd s (R.NVA_DATA 0), rd s (R.NVA_DATA 1), rd s (R.NVA_DATA 2), v] }

omit haway hown hseq hcmd in
theorem nvRegData_trigFired : nvRegData (trigFired s (R.NVA_DATA 3) v)
    = wordsBytes [rd s (R.NVA_DATA 0), rd s (R.NVA_DATA 1), rd s (R.NVA_DATA 2), v] := by
  have hlast : rd (trigFired s (R.NVA_DATA 3) v) (R.NVA_DATA 3) = v := (rd_setf_ne (by decide) _ _).trans (rd_wr_same ..)
  show wordsBytes [rd _ (R.NVA_DATA 0), rd _ (R.NVA_DATA 1), rd _ (R.NVA_DATA 2), rd _ (R.NVA_DATA 3)] = _
  rw [rd_trigFired (by decide) (by decide), rd_trigFired (by decide) (by decide), rd_trigFired (by decide) (by decide), hlast]

omit haway hown hseq hcmd in
/-- What a trigger puts on the engine once its checks have passed. -/
theorem opStarted_trigFired (a : Nat) (v : W32) (x : NvOp) : OpStarted s x (nvRun (nvDeny (trigFired s a v) 0) x) :=
  opStarted_nvRun rfl rfl (getf_setf_fits _ (by decide) (by decide)) ((getf_setf_apart (by decide)).trans getf_trigFired_seq) x

theorem programLine_runs (hcheck : nvCheck s 1 (rd s R.NVA_ADDR).toNat = none) (hline : lineErased s (rd s R.NVA_ADDR).toNat = true) :
    Does (.programLine m v) s (OpStarted s (lineProgram s v)) := by
  refine trigger_does hown hseq rfl (regAway_nva haway rfl rfl) (by decide) hcmd ?_ (opStarted_trigFired (R.NVA_DATA 3) v _)
  dsimp only
  rw [rd_trigFired (by decide) (by decide), nvCheck_trigFired (by decide) (by decide), hcheck, nvRegData_trigFired]
  exact if_neg (Bool.not_eq_false _ ▸ hline)

end

/-! #### PROGRAM_PAGE -/

section
variable (hcmd : s.nva.cmd = 2)
include hcmd

theorem programPage_refused {e : Nat} (hcheck : nvCheck s 2 v.toNat = some e) : Does (.programPage m v) s (SeqClosed s e) := by
  refine trigger_does hown hseq rfl (regAway_nva haway rfl rfl) (by decide) hcmd ?_ (seqClosed_nvDeny R.NVA_ADDR v (nvCheck_lt hcheck))
  rw [nvCheck_trigFired (by decide) (by decide), hcheck]

theorem programPage_noSource (hcheck : nvCheck s 2 v.toNat = none) (hsrc : pageSrcOk (rd s R.NVA_PAGE_SRC).toNat = false) :
    Does (.programPage m v) s (SeqClosed s 0xC) := by
  refine trigger_does hown hseq rfl (regAway_nva haway rfl rfl) (by decide) hcmd ?_ (seqClosed_nvDeny R.NVA_ADDR v (by decide))
  rw [nvCheck_trigFired (by decide) (by decide), hcheck, rd_trigFired (by decide) (by decide)]
  exact if_pos hsrc

theorem programPage_runs (hcheck : nvCheck s 2 v.toNat = none) (hsrc : pageSrcOk (rd s R.NVA_PAGE_SRC).toNat = true) :
    Does (.programPage m v) s (OpStarted s { code := 2, addr := v.toNat, latch := true }) := by
  refine trigger_does hown hseq rfl (regAway_nva haway rfl rfl) (by decide) hcmd ?_ (opStarted_trigFired R.NVA_ADDR v _)
  rw [nvCheck_trigFired (by decide) (by decide), hcheck, rd_trigFired (by decide) (by decide)]
  exact if_neg (Bool.not_eq_false _ ▸ hsrc)

end

/-! #### ERASE_SECTOR and ERASE_BLOCK -/

/-- What an erase's trigger makes of the state in which it has fired; the two differ in their opcode alone. -/
def eraseTriggered (code addr : Nat) (s : State) : State :=
  match nvCheck s code addr with
  | some e => nvDeny s e
  | none => beginNvErase (nvDeny s 0) { code := code, addr := addr }

omit haway hown hseq in
theorem eraseBegun_trigFired (x : NvOp) : EraseBegun s x (beginNvErase (nvDeny (trigFired s R.NVA_ADDR v) 0) x) := by
  have hge : 0x51000 ≤ (F.NVA_ECNT_COUNT (x.addr / 65536)).reg := Nat.le_add_right ..
  have hcount : getf (nvDeny (trigFired s R.NVA_ADDR v) 0) (F.NVA_ECNT_COUNT (x.addr / 65536)) = getf s (F.NVA_ECNT_COUNT (x.addr / 65536)) :=
    (getf_setf_reg _ _ _ _ (by show _ ≠ R.NVA_STAT; unfold R.NVA_STAT; omega)).trans
      (getf_congr (rd_trigFired (by unfold R.NVA_ADDR; omega) (by unfold R.NVA_STAT; omega)))
  obtain ⟨hbegan, hecnt, hbyte⟩ := beginNvErase_begun (nvDeny (trigFired s R.NVA_ADDR v) 0) x
  rw [hcount] at hecnt
  exact ⟨hbegan, hecnt, fun a ha => (hbyte a ha).trans (nvByte_congr rfl rfl a)⟩

theorem eraseTrigger_does {i : Instr} {code : Nat} (hexec : exec i s = .next (nvTrig m R.NVA_ADDR v code s (eraseTriggered code v.toNat)))
    (hcmd : s.nva.cmd = code) :
    (∀ e, nvCheck s code v.toNat = some e → Does i s (SeqClosed s e))
    ∧ (nvCheck s code v.toNat = none → Does i s (fun t =>
        OpStarted s { code := code, addr := v.toNat } t ∧ EraseBegun s { code := code, addr := v.toNat } t)) := by
  refine ⟨fun e hcheck => ?_, fun hcheck => ?_⟩
  · refine trigger_does hown hseq hexec (regAway_nva haway rfl rfl) (by decide) hcmd ?_ (seqClosed_nvDeny R.NVA_ADDR v (nvCheck_lt hcheck))
    unfold eraseTriggered
    rw [nvCheck_trigFired (by decide) (by decide), hcheck]
  · have hstarted := beginNvErase_started (nvDeny (trigFired s R.NVA_ADDR v) 0) { code := code, addr := v.toNat }
      (getf_setf_fits _ (by decide) (by decide)) ((getf_setf_apart (by decide)).trans getf_trigFired_seq)
    refine trigger_does hown hseq hexec (regAway_nva haway rfl rfl) (by decide) hcmd ?_ ⟨hstarted, eraseBegun_trigFired _⟩
    unfold eraseTriggered
    rw [nvCheck_trigFired (by decide) (by decide), hcheck]

theorem erases_do : ∀ x ∈ [(Instr.eraseSector m v, 3), (.eraseBlock m v, 4)], s.nva.cmd = x.2 →
    (∀ e, nvCheck s x.2 v.toNat = some e → Does x.1 s (SeqClosed s e))
    ∧ (nvCheck s x.2 v.toNat = none → Does x.1 s (fun t =>
        OpStarted s { code := x.2, addr := v.toNat } t ∧ EraseBegun s { code := x.2, addr := v.toNat } t)) := by
  intro x hx hcmd
  simp only [List.mem_cons, List.not_mem_nil, or_false] at hx
  rcases hx with rfl | rfl
  · exact eraseTrigger_does haway hown hseq rfl hcmd
  · exact eraseTrigger_does haway hown hseq rfl hcmd

/-! #### SUSPEND and RESUME (R219) -/

section
variable (hcmd : s.nva.cmd = 5)
include hcmd

theorem suspend_idle (hrun : s.nva.run = none) : Does (.suspend m v) s (SeqClosed s 0xB) := by
  refine trigger_does hown hseq rfl (regAway_nva haway rfl rfl) (by decide) hcmd ?_ (seqClosed_nvDeny R.NVA_ADDR v (by decide))
  dsimp only
  rw [show (trigFired s R.NVA_ADDR v).nva = s.nva from rfl, hrun]

theorem suspend_asks (hrun : s.nva.run ≠ none) (hsusp : s.nva.susp = 0) : Does (.suspend m v) s (fun t =>
    t.nva = { s.nva with req := 2 } ∧ getf t F.NVA_STAT_CMD_ERR = 0) := by
  obtain ⟨x, hx⟩ := Option.ne_none_iff_exists'.1 hrun
  refine trigger_does hown hseq rfl (regAway_nva haway rfl rfl) (by decide) hcmd
    (t := setNva (nvDeny (trigFired s R.NVA_ADDR v) 0) { s.nva with req := 2 }) ?_
    ⟨rfl, getf_setf_fits (trigFired s R.NVA_ADDR v) (by decide) (by decide)⟩
  dsimp only
  rw [show (trigFired s R.NVA_ADDR v).nva = s.nva from rfl, hx, hsusp]
  rfl

theorem suspend_holds (hrun : s.nva.run ≠ none) (hsusp : s.nva.susp = 1) : Does (.suspend m v) s (fun t =>
    t.nva = { s.nva with susp := 2 } ∧ isSet t F.NVA_STAT_DONE = true ∧ isSet t F.NVA_STAT_BY = true ∧ isSet t F.NVA_STAT_SUSP = true) := by
  obtain ⟨x, hx⟩ := Option.ne_none_iff_exists'.1 hrun
  refine trigger_does hown hseq rfl (regAway_nva haway rfl rfl) (by decide) hcmd
    (t := regEnd (nvEngine (trigFired s R.NVA_ADDR v) { s.nva with susp := 2 }) 0) ?_ ⟨rfl, isSet_regEnd_done _ _, ?_, ?_⟩
  · dsimp only
    rw [show (trigFired s R.NVA_ADDR v).nva = s.nva from rfl, hx, hsusp]
    rfl
  · exact (isSet_regEnd_low _ _ (by decide)).trans (isSet_nvEngine_by ..)
  · refine (isSet_regEnd_low _ _ (by decide)).trans ((isSet_nvEngine_susp ..).trans ?_)
    rw [hx]
    rfl

end

section
variable (hcmd : s.nva.cmd = 6)
include hcmd

theorem resume_notHeld (h : s.nva.run = none ∨ s.nva.susp ≠ 2) : Does (.resume m v) s (SeqClosed s 0xB) := by
  refine trigger_does hown hseq rfl (regAway_nva haway rfl rfl) (by decide) hcmd ?_ (seqClosed_nvDeny R.NVA_ADDR v (by decide))
  exact if_pos (h.imp (fun hrun => Option.isNone_iff_eq_none.2 hrun) id)

theorem resume_nested (hrun : s.nva.run ≠ none) (hsusp : s.nva.susp = 2) (hbelow : s.nva.below ≠ none) : Does (.resume m v) s (SeqClosed s 6) := by
  refine trigger_does hown hseq rfl (regAway_nva haway rfl rfl) (by decide) hcmd ?_ (seqClosed_nvDeny R.NVA_ADDR v (by decide))
  exact (if_neg (fun h => h.elim (fun hn => hrun (Option.isNone_iff_eq_none.1 hn)) (· hsusp))).trans
    (if_pos (Option.isSome_iff_ne_none.2 hbelow))

theorem resume_resumes (hrun : s.nva.run ≠ none) (hsusp : s.nva.susp = 2) (hbelow : s.nva.below = none) : Does (.resume m v) s (fun t =>
    t.nva = { s.nva with susp := 0, resumed := true, guard := 0 } ∧ isSet t F.NVA_STAT_DONE = true ∧ isSet t F.NVA_STAT_SUSP = false) := by
  refine trigger_does hown hseq rfl (regAway_nva haway rfl rfl) (by decide) hcmd
    (t := regEnd (nvEngine (trigFired s R.NVA_ADDR v) { s.nva with susp := 0, resumed := true, guard := 0 }) 0) ?_
    ⟨rfl, isSet_regEnd_done _ _, ?_⟩
  · refine (if_neg (fun h => h.elim (fun hn => hrun (Option.isNone_iff_eq_none.1 hn)) (· hsusp))).trans (if_neg ?_)
    rw [show (trigFired s R.NVA_ADDR v).nva = s.nva from rfl, hbelow]
    decide
  · exact (isSet_regEnd_low _ _ (by decide)).trans ((isSet_nvEngine_susp ..).trans (Bool.and_false _))

end

/-! #### READ_COUNTER -/

section
variable (hcmd : s.nva.cmd = 7)
include hcmd

theorem readCounter_range (hv : 127 < v.toNat) : Does (.readCounter m v) s (SeqClosed s 4) :=
  trigger_does hown hseq rfl (regAway_nva haway rfl rfl) (by decide) hcmd (if_pos hv) (seqClosed_nvDeny R.NVA_ADDR v (by decide))

theorem readCounter_busy (hv : v.toNat ≤ 127) (hrun : s.nva.run ≠ none) : Does (.readCounter m v) s (SeqClosed s 6) :=
  trigger_does hown hseq rfl (regAway_nva haway rfl rfl) (by decide) hcmd
    ((if_neg (by omega)).trans (if_pos (Option.isSome_iff_ne_none.2 hrun))) (seqClosed_nvDeny R.NVA_ADDR v (by decide))

theorem readCounter_shows (hv : v.toNat ≤ 127) (hrun : s.nva.run = none) : Does (.readCounter m v) s (fun t =>
    SeqClosed s 0 t ∧ isSet t F.NVA_STAT_DONE = true ∧ rd t (R.NVA_DATA 0) = rd s (R.NVA_ECNT v.toNat)) := by
  have hcount : rd (trigFired s R.NVA_ADDR v) (R.NVA_ECNT v.toNat) = rd s (R.NVA_ECNT v.toNat) :=
    rd_trigFired (by unfold R.NVA_ECNT R.NVA_ADDR; omega) (by unfold R.NVA_ECNT R.NVA_STAT; omega)
  refine trigger_does hown hseq rfl (regAway_nva haway rfl rfl) (by decide) hcmd
    ((if_neg (by omega)).trans (if_neg ?_)) ⟨seqClosed_regEnd ?_ rfl (by decide), isSet_regEnd_done _ _, ?_⟩
  · rw [show (trigFired s R.NVA_ADDR v).nva = s.nva from rfl, hrun]
    decide
  · rw [getf_wr_ne (by decide), getf_wr_ne (by decide), getf_trigFired_seq]
  · rw [rd_regEnd _ _ (by decide), rd_wr_ne (by decide), rd_wr_same, hcount]

end
end

/-! #### Write protection (R212) -/

section
variable {s : State} (haway : away s 9 = false)
include haway

/-- The registers of protect bits are served while D9 is there. -/
theorem regAway_nvaWp {r : Nat} (hlo : 0x50100 ≤ r) (hhi : r < 0x50300) : regAway s r = false := by
  have hblk : r / 0x10000 = 5 := by omega
  have hclass : regClass r = .loaded := by
    unfold regClass
    dsimp only
    rw [hblk]
    exact if_pos (by omega)
  unfold regAway
  rw [hclass, hblk]
  exact haway

theorem regAway_nvaWpSet (i : Nat) : regAway s (R.NVA_WP_SET i) = false :=
  regAway_nvaWp haway (by unfold R.NVA_WP_SET; omega) (by unfold R.NVA_WP_SET; omega)

theorem regAway_nvaWpClr (i : Nat) : regAway s (R.NVA_WP_CLR i) = false :=
  regAway_nvaWp haway (by unfold R.NVA_WP_CLR; omega) (by unfold R.NVA_WP_CLR; omega)

theorem nvaWpSet_does (i : Fin 64) (v : W32) : Does (.nvaWpSet i v) s (fun t => t = wr s (R.NVA_WP_SET i) (rd s (R.NVA_WP_SET i) ||| v)) :=
  ⟨_, if_neg (Bool.eq_false_iff.1 (regAway_nvaWpSet haway i)), rfl⟩

theorem nvaWpClr_does (i : Fin 64) (v : W32) (hlock : isSet s F.NVA_WP_LOCK_LOCK = false) :
    Does (.nvaWpClr i v) s (fun t => t = wr s (R.NVA_WP_SET i) (rd s (R.NVA_WP_SET i) &&& ~~~v)) :=
  ⟨_, (if_neg (Bool.eq_false_iff.1 (regAway_nvaWpClr haway i))).trans (if_neg (by simp [hlock])), rfl⟩

theorem nvaWpClr_denied (i : Fin 64) {v : W32} (hlock : isSet s F.NVA_WP_LOCK_LOCK = true) (hv : v ≠ 0#32) :
    Does (.nvaWpClr i v) s (fun t => isSet t F.NVA_EVT_WP_CLR_DENIED = true ∧ t = { s with regs := t.regs }
      ∧ ∀ a, a ≠ R.NVA_EVT → rd t a = rd s a) :=
  ⟨_, ((if_neg (Bool.eq_false_iff.1 (regAway_nvaWpClr haway i))).trans (if_pos hlock)).trans (congrArg _ (if_neg hv)),
    isSet_raise s _ rfl (by decide), rfl, fun _ ha => rd_raise_ne ha s⟩

theorem nvaWpLock_does : Does .nvaWpLock s (fun t => isSet t F.NVA_WP_LOCK_LOCK = true ∧ t = { s with regs := t.regs }
    ∧ ∀ a, a ≠ R.NVA_WP_LOCK → rd t a = rd s a) :=
  ⟨_, if_neg (Bool.eq_false_iff.1 (regAway_nva haway rfl rfl)), isSet_setf_one s rfl (by decide), rfl, fun _ ha => rd_setf_ne ha _ _⟩

end

/-- Settles O42: keys and opcodes by the sequence's state, each trigger by its own lemma over the state in which it has fired. -/
theorem nvaSequenceAndTriggers : Obligations.NvaSequenceAndTriggers := by
  unfold Obligations.NvaSequenceAndTriggers
  intro s m v haway
  refine ⟨fun hown i hi => conflict_does (commands_foreign haway hown i hi), fun hown => ⟨?_, nvaKey_ignored haway v hown, ?_,
      nvaKey_breaks haway v hown, nvaCmd_breaks haway v hown, nvaCmd_arms haway v hown, nvaSeqLapse_breaks haway, triggers_store haway hown,
      fun hseq => ⟨?_, ?_, ?_, ?_, ?_, ?_⟩⟩,
    fun i => ⟨nvaWpSet_does haway i v, nvaWpClr_does haway i v, nvaWpClr_denied haway i⟩, nvaWpLock_does haway⟩
  · rintro hseq rfl
    exact nvaKey_begins haway hown hseq
  · rintro hseq rfl
    exact nvaKey_opens haway hown hseq
  · exact fun hcmd => ⟨fun _ => programLine_refused haway hown hseq hcmd, programLine_notErased haway hown hseq hcmd,
      programLine_runs haway hown hseq hcmd⟩
  · exact fun hcmd => ⟨fun _ => programPage_refused haway hown hseq hcmd, programPage_noSource haway hown hseq hcmd,
      programPage_runs haway hown hseq hcmd⟩
  · exact erases_do haway hown hseq
  · exact fun hcmd => ⟨suspend_idle haway hown hseq hcmd, suspend_asks haway hown hseq hcmd, suspend_holds haway hown hseq hcmd⟩
  · exact fun hcmd => ⟨resume_notHeld haway hown hseq hcmd, resume_nested haway hown hseq hcmd, resume_resumes haway hown hseq hcmd⟩
  · exact fun hcmd => ⟨readCounter_range haway hown hseq hcmd, readCounter_busy haway hown hseq hcmd, readCounter_shows haway hown hseq hcmd⟩

end Sys2Proof.Machine

/-! ### Programs and erases end, suspend and resume (R208, R219 to R224) -/
namespace Sys2Proof.Machine

/-! #### An operation leaves the engine -/

/-- No operation is on the engine, and the register command has ended with CMD_ERR `e`. -/
def OpEnded (e : Nat) (t : State) : Prop :=
  t.nva.run = none ∧ isSet t F.NVA_STAT_DONE = true ∧ isSet t F.NVA_STAT_BUSY = false ∧ getf t F.NVA_STAT_CMD_ERR = e

theorem opEnded_nvEnd {s : State} (hbelow : s.nva.below = none) {e : Nat} (he : e < 16) : OpEnded e (regEnd (nvEnd s) e) := by
  rw [nvEnd_eq hbelow]
  exact ⟨rfl, isSet_regEnd_done _ _, (isSet_regEnd_low _ _ (by decide)).trans (isSet_nvEngine_busy ..), getf_regEnd_err _ _ he⟩

theorem nvEnd_run {s : State} (hbelow : s.nva.below = none) : (nvEnd s).nva.run = none := by rw [nvEnd_eq hbelow]; rfl

/-- The engine's end of an operation leaves the array. -/
theorem nvByte_regEnd_nvEnd (s : State) (e a : Nat) : nvByte (regEnd (nvEnd s) e) a = nvByte s a := by
  have hmade := nvEnd_made (Nat.or_self _) s (.refl ..)
  exact (nvByte_congr (t := regEnd (nvEnd s) e) (s := nvEnd s) rfl rfl a).trans (nvByte_congr (hmade.nv rfl) (hmade.nvFill rfl) a)

@[simp] theorem nvByte_drawn (s : State) (a : Nat) : nvByte (drawn s) a = nvByte s a := rfl

section
variable {s : State} {x : NvOp} (hrun : s.nva.run = some x)
include hrun

/-! #### NVA_PAGE_LATCH_LOADED -/

section
variable (hlatch : x.latch = true)
include hlatch

theorem pageLatch_takes (hend : (rd s R.NVA_PAGE_SRC).toNat + 256 ≤ 0x800000)
    (hserved : ∀ i < 256, accessErr s ((rd s R.NVA_PAGE_SRC).toNat + i) false = none) : Does .nvaPageLatchLoaded s (fun t =>
      t = { s with nva := { s.nva with run := some { x with
        data := (List.range 256).map (fun i => memByte s ((rd s R.NVA_PAGE_SRC).toNat + i)), latch := false } } }) := by
  refine ⟨_, ?_, rfl⟩
  show execNvaPageLatchLoaded s = _
  unfold execNvaPageLatchLoaded
  rw [hrun]
  dsimp only
  rw [if_neg (by rw [hlatch]; decide), readBytes_bank hend hserved]
  rfl

omit hrun hlatch in
/-- A read that is refused at its first byte brings none. -/
theorem readBytes_refused {n a : Nat} {e : Err} (h : accessErr s a false = some e) : readBytes s (n + 1) a = ([], some e) := by
  unfold readBytes
  rw [h]

theorem pageLatch_fails (hbelow : s.nva.below = none) {e : Err} (herr : accessErr s (rd s R.NVA_PAGE_SRC).toNat false = some e) :
    Does .nvaPageLatchLoaded s (fun t => OpEnded 0xC t ∧ t.nv = s.nv) := by
  have hmade := noteErr_made (Nat.or_self _) s e (.refl ..)
  have hnote : (noteErr s e).nva.below = none := by rw [hmade.nva rfl, hbelow]
  refine ⟨regEnd (nvEnd (noteErr s e)) 0xC, ?_, opEnded_nvEnd hnote (by decide), ?_⟩
  · show execNvaPageLatchLoaded s = _
    unfold execNvaPageLatchLoaded
    rw [hrun]
    dsimp only
    rw [if_neg (by rw [hlatch]; decide), readBytes_refused (n := 255) herr]
  · rw [nvEnd_eq hnote, ← hmade.nv rfl]
    rfl

end

/-! #### NVA_PROGRAM_DONE -/

omit hrun in
theorem lineErased_iff {a : Nat} : lineErased s a = true ↔ ∀ i < 16, nvByte s (a + i) = 0xFF#8 := by simp [lineErased]

omit hrun in
theorem nvPutBytes_append (a : Nat) (xs ys : List Byte) : nvPutBytes s a (xs ++ ys) = nvPutBytes (nvPutBytes s a xs) (a + xs.length) ys := by
  induction xs generalizing s a with
  | nil => rfl
  | cons b xs ih =>
    rw [List.cons_append, nvPutBytes, nvPutBytes, ih, List.length_cons, Nat.add_assoc, Nat.add_comm 1]

omit hrun in
theorem nvPutBytes_frame (s : State) (a : Nat) (bs : List Byte) : nvPutBytes s a bs = { s with nv := (nvPutBytes s a bs).nv } := by
  induction bs generalizing s a with
  | nil => rfl
  | cons b bs ih => exact (ih (nvPut s a b) (a + 1)).trans rfl

omit hrun in
/-- Whole lines that are all erased are programmed to the last. -/
theorem programLines_erased {n k a : Nat} {bs : List Byte} (hlen : bs.length = 16 * k) (hk : k ≤ n)
    (herased : ∀ i < bs.length, nvByte s (a + i) = 0xFF#8) : programLines s a bs n = (nvPutBytes s a bs, bs.length, true) := by
  induction n generalizing s a bs k with
  | zero =>
    obtain rfl : bs = [] := List.eq_nil_of_length_eq_zero (by omega)
    rfl
  | succ n ih =>
    unfold programLines
    by_cases hnil : bs = []
    · rw [if_pos hnil, hnil]
      rfl
    · have hpos : 0 < bs.length := List.length_pos_iff.2 hnil
      have htake : (bs.take 16).length = 16 := by rw [List.length_take]; omega
      have hline : lineErased s a = true := lineErased_iff.2 fun i hi => herased i (by omega)
      have hrest (i : Nat) (hi : i < (bs.drop 16).length) : nvByte (nvPutBytes s a (bs.take 16)) (a + 16 + i) = 0xFF#8 := by
        rw [List.length_drop] at hi
        rw [nvByte_nvPutBytes, if_neg (by omega), Nat.add_assoc]
        exact herased (16 + i) (by omega)
      have hsplit := nvPutBytes_append (s := s) a (bs.take 16) (bs.drop 16)
      rw [List.take_append_drop, htake] at hsplit
      rw [if_neg hnil, if_neg (by rw [hline]; decide), ih (k := k - 1) (by rw [List.length_drop]; omega) (by omega) hrest, hsplit,
        List.length_drop]
      dsimp only
      rw [show 16 + (bs.length - 16) = bs.length by omega]

/-- The program's first `n` bytes stand in the array, every byte outside the line behind them is as it was, and the engine is free. -/
def Wrote (s : State) (x : NvOp) (n : Nat) (t : State) : Prop :=
  t.nva.run = none ∧ isSet t F.NVA_STAT_DONE = true ∧ isSet t F.NVA_STAT_BUSY = false
    ∧ ∀ a, ¬(x.addr + n ≤ a ∧ a < x.addr + n + 16 ∧ n < x.data.length) →
        nvByte t a = if x.addr ≤ a ∧ a < x.addr + n then x.data.getD (a - x.addr) 0#8 else nvByte s a

section
variable (hsusp : s.nva.susp = 0) (hdesc : x.desc = none) (hcode : x.code ≤ 2) (hlatch : x.latch = false)
  (hlen : x.data.length = (if x.code = 2 then 256 else 16)) (herased : ∀ i < x.data.length, nvByte s (x.addr + i) = 0xFF#8)

omit hrun in
include hlen herased in
/-- The program's lines up to `n` bytes, a whole number of lines, are erased. -/
theorem programLines_upTo {k : Nat} (hk : 16 * k ≤ x.data.length) :
    programLines s x.addr (x.data.take (16 * k)) 17 = (nvPutBytes s x.addr (x.data.take (16 * k)), 16 * k, true) := by
  have htake : (x.data.take (16 * k)).length = 16 * k := by rw [List.length_take]; omega
  have hall : x.data.length ≤ 256 := by rw [hlen]; split <;> decide
  rw [programLines_erased htake (by omega) (fun i hi => herased i (by omega)), htake]

include hsusp hdesc hcode hlatch hlen herased

theorem exec_nvaProgramDone_good : exec (.nvaProgramDone none) s = .next (regEnd (nvEnd (nvPutBytes s x.addr x.data)) 0) := by
  have hlines : ∃ k, x.data.length = 16 * k := by
    rw [hlen]
    split
    · exact ⟨16, rfl⟩
    · exact ⟨1, rfl⟩
  obtain ⟨k, hk⟩ := hlines
  have hput := programLines_upTo hlen herased hk.ge
  rw [← hk, List.take_length] at hput
  show execNvaProgramDone none s = _
  unfold execNvaProgramDone
  simp only [hrun, hdesc]
  rw [if_neg (by simp [hsusp, hlatch]; omega), List.take_length, hput]
  simp

/-- The line that fails its verify holds undefined bytes. -/
def undefLine (s : State) : List Byte := (List.range 16).map (fun i => Config.undefByte 5 s.free i)

theorem exec_nvaProgramDone_bad {k : Fin 16} (hk : 16 * k.val < x.data.length) : exec (.nvaProgramDone (some k)) s
    = .next (regEnd (nvEnd (nvPutBytes (drawn (nvPutBytes s x.addr (x.data.take (16 * k)))) (x.addr + 16 * k) (undefLine s))) 0xA) := by
  have hput := programLines_upTo hlen herased hk.le
  show execNvaProgramDone (some k) s = _
  unfold execNvaProgramDone
  simp only [hrun, hdesc]
  rw [if_neg (by simp [hsusp, hlatch]; omega)]
  simp [Nat.min_eq_right hk.le, hput, hk, undefLine]

variable (hbelow : s.nva.below = none)
include hbelow

theorem nvaProgramDone_good : Does (.nvaProgramDone none) s (fun t => Wrote s x x.data.length t ∧ getf t F.NVA_STAT_CMD_ERR = 0) := by
  have hput : (nvPutBytes s x.addr x.data).nva.below = none := by rw [nvPutBytes_frame, ← hbelow]
  obtain ⟨hfree, hdone, hbusy, herr⟩ := opEnded_nvEnd hput (e := 0) (by decide)
  refine ⟨_, exec_nvaProgramDone_good hrun hsusp hdesc hcode hlatch hlen herased, ⟨hfree, hdone, hbusy, fun a _ => ?_⟩, herr⟩
  rw [nvByte_regEnd_nvEnd, nvByte_nvPutBytes]

theorem nvaProgramDone_bad (k : Fin 16) (hk : 16 * k.val < x.data.length) :
    Does (.nvaProgramDone (some k)) s (fun t => Wrote s x (16 * k) t ∧ getf t F.NVA_STAT_CMD_ERR = 0xA) := by
  have hframe := nvPutBytes_frame s x.addr (x.data.take (16 * k))
  have hput : (nvPutBytes (drawn (nvPutBytes s x.addr (x.data.take (16 * k)))) (x.addr + 16 * k) (undefLine s)).nva.below = none := by
    rw [nvPutBytes_frame, hframe, ← hbelow]
    rfl
  obtain ⟨hfree, hdone, hbusy, herr⟩ := opEnded_nvEnd hput (e := 0xA) (by decide)
  refine ⟨_, exec_nvaProgramDone_bad hrun hsusp hdesc hcode hlatch hlen herased hk, ⟨hfree, hdone, hbusy, fun a ha => ?_⟩, herr⟩
  have hundef : (undefLine s).length = 16 := by simp [undefLine]
  have htake : (x.data.take (16 * k)).length = 16 * k := by rw [List.length_take]; omega
  rw [nvByte_regEnd_nvEnd, nvByte_nvPutBytes, if_neg (by omega), nvByte_drawn, nvByte_nvPutBytes, htake]
  split
  · next hin => rw [List.getD_eq_getElem?_getD, List.getElem?_take_of_lt (by omega), ← List.getD_eq_getElem?_getD]
  · rfl

end

/-! #### Erases: NVA_ERASE_PULSE and NVA_ERASE_DONE -/

section
variable (hsusp : s.nva.susp = 0) (hcode : 3 ≤ x.code)
include hsusp hcode

theorem nvaErasePulse_does : Does .nvaErasePulse s (fun t => getf t F.NVA_ERASE_SUSP_PULSES = min 480 (getf s F.NVA_ERASE_SUSP_PULSES + 1)
    ∧ t.nva = { s.nva with guard := s.nva.guard + 1 } ∧ t.nv = s.nv) := by
  refine ⟨setNva (setf s F.NVA_ERASE_SUSP_PULSES (min 480 (getf s F.NVA_ERASE_SUSP_PULSES + 1))) { s.nva with guard := s.nva.guard + 1 }, ?_,
    getf_setf_fits s (by decide) (lt_of_le_of_lt (Nat.min_le_left ..) (by decide)), rfl, rfl⟩
  show execNvaErasePulse s = _
  unfold execNvaErasePulse
  rw [hrun]
  exact if_neg (by omega)

end

end

/-! #### What an erase that ends leaves -/

theorem mem_nvSectors {x : NvOp} {k : Nat} : k ∈ nvSectors x ↔ (nvSpan x).1 ≤ k ∧ k < (nvSpan x).1 + (nvSpan x).2 := by
  unfold nvSectors
  simp only [List.mem_map, List.mem_range]
  constructor
  · rintro ⟨i, hi, rfl⟩
    omega
  · exact fun h => ⟨k - (nvSpan x).1, by omega, by omega⟩

/-- An erase's sectors are the ones it erases. -/
theorem erases_of_mem {x : NvOp} (hlo : 3 ≤ x.code) (hhi : x.code ≤ 4) {k : Nat} (h : k ∈ nvSectors x) : erases x k = true := by
  obtain ⟨hfirst, hlast⟩ := mem_nvSectors.1 h
  unfold erases
  simp only [Bool.and_eq_true, Bool.or_eq_true, beq_iff_eq, decide_eq_true_eq]
  omega

theorem nvByte_nvClear_same {k a : Nat} (h : a / 4096 = k) (s : State) : nvByte (nvClear s k false) a = 0xFF#8 := by
  have hnv : sget a (nvClear s k false).nv = none := (sget_filter (fun c => !(c / 4096 == k)) a s.nv).trans (if_neg (by simp [h]))
  have hfill : sget (a / 4096) (nvClear s k false).nvFill = none := by rw [h]; exact sget_sdel_same k s.nvFill
  unfold nvByte
  rw [hnv, hfill]

/-- Sectors that are cleared for good read erased. -/
theorem nvByte_sectorsCleared (s : State) (ks : List Nat) (a : Nat) :
    nvByte (sectorsCleared s ks false) a = if a / 4096 ∈ ks then 0xFF#8 else nvByte s a := by
  induction ks generalizing s with
  | nil => rfl
  | cons k ks ih =>
    refine (ih (nvClear s k false)).trans ?_
    by_cases hks : a / 4096 ∈ ks
    · rw [if_pos hks, if_pos (List.mem_cons_of_mem k hks)]
    · rw [if_neg hks]
      by_cases hk : a / 4096 = k
      · rw [if_pos (hk ▸ List.mem_cons_self), nvByte_nvClear_same hk]
      · rw [if_neg (List.not_mem_cons_of_ne_of_not_mem hk hks), nvByte_nvClear_other hk]

theorem mem_insertNat {n k : Nat} {l : List Nat} : k ∈ insertNat n l ↔ k = n ∨ k ∈ l := by
  induction l with
  | nil => simp [insertNat]
  | cons j l ih =>
    unfold insertNat
    split_ifs with hlt heq
    · simp
    · subst heq
      simp
    · simp only [List.mem_cons, ih]
      tauto

theorem mem_foldl_insertNat {k : Nat} (ks l : List Nat) : k ∈ ks.foldl (fun l k => insertNat k l) l ↔ k ∈ ks ∨ k ∈ l := by
  induction ks generalizing l with
  | nil => simp
  | cons j ks ih =>
    rw [List.foldl_cons, ih, mem_insertNat, List.mem_cons]
    tauto

theorem raise9_isSet_nva (s : State) {f : Fld} (hw : f.width = 1) (hlo : f.lo < 32) (hb : blockOf f.reg = 5) : isSet (raise9 s f) f = true := by
  unfold raise9
  split
  case isTrue hset => exact hset
  case isFalse => exact (isSet_congr (devEvent_rd_nva hb _ 9)).trans (isSet_raise s f hw hlo)

theorem holdAge_run (s : State) : (holdAge s).nva.run = s.nva.run := by
  unfold holdAge
  split <;> rfl

section
variable {s : State} {x : NvOp} (hrun : s.nva.run = some x) (hbelow : s.nva.below = none) (hsusp : s.nva.susp = 0)
  (hdesc : x.desc = none) (hcode : 3 ≤ x.code)
include hrun hbelow hsusp hdesc hcode

/-- The engine is free of the erase, whose time is held. -/
def eraseFreed (s : State) : State := holdAge (nvEnd s)

omit hrun hsusp hdesc hcode in
theorem eraseFreed_run : (eraseFreed s).nva.run = none := (holdAge_run _).trans (nvEnd_run hbelow)

omit hrun hbelow hsusp hdesc hcode in
theorem eraseFreed_made (s : State) : Made 590295810393065390082 s (eraseFreed s) :=
  holdAge_made (Nat.or_self _) _ (nvEnd_made (Nat.or_self _) s (.refl ..))

/-- The marks of the erase's sectors go (R224). -/
def eraseUnmarked (s : State) (x : NvOp) : State :=
  { eraseFreed s with nvIncomplete := (eraseFreed s).nvIncomplete.filter (fun k => !erases x k) }

omit hrun hbelow hsusp hdesc hcode in
theorem nvByte_eraseUnmarked (s : State) (x : NvOp) (a : Nat) : nvByte (eraseUnmarked s x) a = nvByte s a :=
  (nvByte_congr (s := eraseFreed s) rfl rfl a).trans (nvByte_congr ((eraseFreed_made s).nv rfl) ((eraseFreed_made s).nvFill rfl) a)

/-- The sectors of an erase that has passed its verify read erased. -/
def eraseVerified (s : State) (x : NvOp) : State := sectorsCleared (eraseUnmarked s x) (nvSectors x) false

omit hbelow in
theorem exec_nvaEraseDone (ok : Bool) :
    exec (.nvaEraseDone ok) s = .next (if ok then regEnd (eraseVerified s x) 0 else regEnd (markIncomplete (eraseFreed s) x) 0xA) := by
  show execNvaEraseDone ok s = _
  unfold execNvaEraseDone
  simp only [hrun, hdesc]
  rw [if_neg (by omega)]
  cases ok <;> rfl

theorem nvaEraseDone_good (hhi : x.code ≤ 4) : Does (.nvaEraseDone true) s (fun t => t.nva.run = none ∧ isSet t F.NVA_STAT_DONE = true
    ∧ getf t F.NVA_STAT_CMD_ERR = 0 ∧ (∀ k ∈ nvSectors x, k ∉ t.nvIncomplete)
    ∧ ∀ a, nvByte t a = if a / 4096 ∈ nvSectors x then 0xFF#8 else nvByte s a) := by
  have hmade : Made 137439084560 (eraseUnmarked s x) (eraseVerified s x) := sectorsCleared_made ..
  refine ⟨_, exec_nvaEraseDone hrun hsusp hdesc hcode true, ?_, isSet_regEnd_done _ _, getf_regEnd_err _ _ (by decide), fun k hk => ?_, fun a => ?_⟩
  · exact (congrArg Nva.run (hmade.nva rfl)).trans (eraseFreed_run hbelow)
  · show k ∉ (eraseVerified s x).nvIncomplete
    rw [hmade.nvIncomplete rfl]
    simp [eraseUnmarked, erases_of_mem hcode hhi hk]
  · refine (nvByte_congr (s := eraseVerified s x) rfl rfl a).trans ((nvByte_sectorsCleared _ _ a).trans ?_)
    rw [nvByte_eraseUnmarked]

theorem nvaEraseDone_bad : Does (.nvaEraseDone false) s (fun t => t.nva.run = none ∧ isSet t F.NVA_STAT_DONE = true
    ∧ getf t F.NVA_STAT_CMD_ERR = 0xA ∧ isSet t F.NVA_EVT_INCOMPLETE = true ∧ (∀ k ∈ nvSectors x, k ∈ t.nvIncomplete) ∧ t.nv = s.nv) := by
  have hmade : Made 9702692234866319675099170 _ (markIncomplete (eraseFreed s) x) := raise9_nva_made _ rfl
  refine ⟨_, exec_nvaEraseDone hrun hsusp hdesc hcode false, ?_, isSet_regEnd_done _ _, getf_regEnd_err _ _ (by decide), ?_, fun k hk => ?_, ?_⟩
  · exact (congrArg Nva.run (hmade.nva rfl)).trans (eraseFreed_run hbelow)
  · exact (isSet_congr (rd_regEnd _ _ (by decide))).trans (raise9_isSet_nva _ rfl (by decide) rfl)
  · show k ∈ (markIncomplete (eraseFreed s) x).nvIncomplete
    rw [hmade.nvIncomplete rfl]
    exact (mem_foldl_insertNat ..).2 (.inl hk)
  · exact (hmade.nv rfl).trans ((eraseFreed_made s).nv rfl)

end

/-! #### Suspends and the automatic resume (R219 to R221) -/

section
variable {s : State} {x : NvOp} (hrun : s.nva.run = some x) (hbelow : s.nva.below = none)
include hrun hbelow

/-- A suspend of an erase is counted, and so is the pulse that it cuts off. -/
def suspendCounted (s : State) (x : NvOp) (cut : Bool) : State :=
  if 3 ≤ x.code then satAdd (satAdd s F.NVA_ERASE_SUSP_SUSPENDS 1) F.NVA_ERASE_SUSP_REPEATS (b2n cut) else s

omit hrun hbelow in
theorem suspendCounted_nva (s : State) (x : NvOp) (cut : Bool) : (suspendCounted s x cut).nva = s.nva := by
  unfold suspendCounted
  split <;> rfl

omit hrun hbelow in
theorem suspendCounted_counts (hcode : 3 ≤ x.code) (cut : Bool) :
    getf (suspendCounted s x cut) F.NVA_ERASE_SUSP_SUSPENDS = min 65535 (getf s F.NVA_ERASE_SUSP_SUSPENDS + 1)
    ∧ getf (suspendCounted s x cut) F.NVA_ERASE_SUSP_REPEATS = min 127 (getf s F.NVA_ERASE_SUSP_REPEATS + b2n cut) := by
  unfold suspendCounted
  rw [if_pos hcode]
  refine ⟨(getf_satAdd_bits _ _ _ _ (by decide)).trans (getf_satAdd _ _ _ (by decide)), (getf_satAdd _ _ _ (by decide)).trans ?_⟩
  rw [getf_satAdd_bits _ _ _ _ (by decide)]
  rfl

/-- The engine with the suspend that was asked in effect. -/
def suspended (s : State) (x : NvOp) (cut : Bool) : State :=
  nvEngine (suspendCounted s x cut) { s.nva with susp := s.nva.req, req := 0 }

theorem exec_nvaSuspendEffect (cut : Bool) (hreq : s.nva.req ≠ 0) (hsusp : s.nva.susp = 0) (hguard : guardOk s x = true) :
    exec (.nvaSuspendEffect cut) s = .next (if s.nva.req = 2 then regEnd (suspended s x cut) 0 else suspended s x cut) := by
  show execNvaSuspendEffect cut s = _
  unfold execNvaSuspendEffect
  rw [hrun]
  dsimp only
  rw [if_neg (by simp [hreq, hsusp, hguard, hbelow]), ← suspendCounted, suspendCounted_nva]
  rfl

theorem nvaSuspendEffect_does (cut : Bool) (hreq : s.nva.req ≠ 0) (hsusp : s.nva.susp = 0) (hguard : guardOk s x = true) :
    Does (.nvaSuspendEffect cut) s (fun t => t.nva = { s.nva with susp := s.nva.req, req := 0 } ∧ isSet t F.NVA_STAT_SUSP = true
      ∧ (s.nva.req = 2 → isSet t F.NVA_STAT_DONE = true)
      ∧ (3 ≤ x.code → getf t F.NVA_ERASE_SUSP_SUSPENDS = min 65535 (getf s F.NVA_ERASE_SUSP_SUSPENDS + 1)
          ∧ getf t F.NVA_ERASE_SUSP_REPEATS = min 127 (getf s F.NVA_ERASE_SUSP_REPEATS + b2n cut))) := by
  have hshown : isSet (suspended s x cut) F.NVA_STAT_SUSP = true := by
    refine (isSet_nvEngine_susp ..).trans ?_
    simp [hrun, hreq]
  have hcounts (hcode : 3 ≤ x.code) := suspendCounted_counts (s := s) hcode cut
  have hkept {g : Fld} (hg : g.reg ≠ R.NVA_STAT) : getf (suspended s x cut) g = getf (suspendCounted s x cut) g := getf_nvEngine _ _ (.inl hg)
  refine ⟨_, exec_nvaSuspendEffect hrun hbelow cut hreq hsusp hguard, ?_⟩
  split
  · refine ⟨rfl, (isSet_regEnd_low _ _ (by decide)).trans hshown, fun _ => isSet_regEnd_done _ _, fun hcode => ?_⟩
    rw [getf_congr (rd_regEnd _ _ (by decide)), getf_congr (rd_regEnd _ _ (by decide)), hkept (by decide), hkept (by decide)]
    exact hcounts hcode
  · next hauto =>
    refine ⟨rfl, hshown, fun hcmd => absurd hcmd hauto, fun hcode => ?_⟩
    rw [hkept (by decide), hkept (by decide)]
    exact hcounts hcode

theorem nvaAutoResume_does (hsusp : s.nva.susp = 1) : Does .nvaAutoResume s (fun t =>
    t.nva = { s.nva with susp := 0, resumed := true, guard := 0 } ∧ isSet t F.NVA_STAT_SUSP = false) :=
  ⟨_, if_pos ⟨by rw [hrun]; rfl, hsusp, hbelow⟩, rfl, (isSet_nvEngine_susp ..).trans (Bool.and_false _)⟩

end

end Sys2Proof.Machine

/-! ### Line reads and the scrub (R203 to R205, R226 to R228) -/
namespace Sys2Proof.Machine

/-! #### NV_LINE_READ -/

/-- A socket's answer reaches no pin. -/
theorem emit_socket_out (s : State) (k e : Nat) (bs : List Byte) : (emit s (.socket k e bs)).out = s.out ++ [.socket k e bs] :=
  emit_out s _ (by simp [covered])

/-- A line with two or more bits in error is counted and raises UNCORR (Table 8-2). -/
theorem nvEcc_uncorrectable (s : State) (l : Nat) :
    nvEcc s l 2 = devEvent (satAdd (raise9 (satAdd s F.NVA_ECC_UNCORR 1) F.NVA_EVT_UNCORR) F.HIF_HOLE_CNT_COUNT 1) 7 := rfl

theorem nvEcc_uncorrectable_rd (s : State) (l : Nat) {r : Nat} (hb : blockOf r = 5) :
    rd (nvEcc s l 2) r = rd (raise9 (satAdd s F.NVA_ECC_UNCORR 1) F.NVA_EVT_UNCORR) r := by
  have hne : r ≠ F.HIF_HOLE_CNT_COUNT.reg := by
    rintro rfl
    exact absurd hb (by decide)
  rw [nvEcc_uncorrectable, devEvent_rd_nva hb]
  exact rd_setf_ne hne _ _

section
variable {s : State} {m : Nat} (haway : away s 9 = false) (hm : 32 ≤ m) (l : Fin 524288)
include haway hm

theorem nvLineRead_good (hwaits : nvWaits s l = false) : Does (.nvLineRead m l 0 false false) s (fun t => t.nv = s.nv ∧ t.nva = s.nva
    ∧ t.out = s.out ++ [.socket (m - 32) 0 ((List.range 16).map (fun i => nvRead s (16 * l.val + i)))]) := by
  have hnoted := noteNvRead_made (Nat.or_self _) s m (16 * l) 16 (.refl ..)
  refine ⟨emit (noteNvRead s m (16 * l) 16) (.socket (m - 32) 0 ((List.range 16).map (fun i => nvRead s (16 * l.val + i)))), ?_,
    hnoted.nv rfl, hnoted.nva rfl, ?_⟩
  · show execNvLineRead m l 0 false false s = _
    unfold execNvLineRead
    simp [haway, hwaits, hm, nvEcc]
  · rw [emit_socket_out, hnoted.out rfl]

theorem nvLineRead_bad (hwaits : nvWaits s l = false) : Does (.nvLineRead m l 2 false false) s (fun t =>
    .socket (m - 32) 1 [] ∈ t.out ∧ t.nv = s.nv ∧ isSet t F.NVA_EVT_UNCORR = true
    ∧ getf t F.NVA_ECC_UNCORR = min 65535 (getf s F.NVA_ECC_UNCORR + 1)) := by
  have hrd {r : Nat} (hb : blockOf r = 5) : rd (satAdd (emit (nvEcc s l 2) (.socket (m - 32) 1 [])) (F.FAB_SOCK_ERRS (m - 32)) 1) r
      = rd (raise9 (satAdd s F.NVA_ECC_UNCORR 1) F.NVA_EVT_UNCORR) r := by
    have hne : r ≠ (F.FAB_SOCK_ERRS (m - 32)).reg := by
      rintro rfl
      rw [F.FAB_SOCK_ERRS_blk] at hb
      exact absurd hb (by decide)
    exact (rd_setf_ne hne _ _).trans (nvEcc_uncorrectable_rd s l hb)
  refine ⟨satAdd (emit (nvEcc s l 2) (.socket (m - 32) 1 [])) (F.FAB_SOCK_ERRS (m - 32)) 1, ?_, ?_,
    (nvEcc_made (Nat.or_self _) s l 2 (.refl ..)).nv rfl, ?_, ?_⟩
  · show execNvLineRead m l 2 false false s = _
    unfold execNvLineRead
    simp [haway, hwaits, hm]
  · rw [satAdd_out, emit_socket_out]
    exact List.mem_append_right _ (List.mem_singleton_self _)
  · exact (isSet_congr (hrd rfl)).trans (raise9_isSet_nva _ rfl (by decide) rfl)
  · exact (getf_congr (hrd rfl)).trans ((getf_congr (raise9_rd_nva rfl (by decide) _)).trans (getf_satAdd s _ 1 (by decide)))

omit hm in
/-- A line in the block of a running erase asks for a suspend (R205). -/
theorem nvLineRead_asks {x : NvOp} (hwaits : nvWaits s l = true) (hrun : s.nva.run = some x) (hcode : 3 ≤ x.code)
    (hbelow : s.nva.below = none) (hreq : s.nva.req = 0) :
    Does (.nvLineRead m l 0 false false) s (fun t => t = { s with nva := { s.nva with req := 1 } }) := by
  have hask : askSuspend s l = { s with nva := { s.nva with req := 1 } } := by
    have hown : decide (x.code ≤ 2) = false := decide_eq_false (by omega)
    unfold askSuspend
    simp [hrun, hown, hbelow, hreq, setNva]
  refine ⟨_, ?_, rfl⟩
  show execNvLineRead m l 0 false false s = _
  unfold execNvLineRead
  simp [haway, hwaits, hask]

end

/-! #### The scrub -/

section
variable (s : State)

/-- The scrub's line is queued where it fails its margin read and may be read. -/
def scrubQueued (weak : Bool) : State := if weak && scrubLineOk s s.nva.line then queueWeak s s.nva.line else s

/-- The line after the scrub's, the first one after the last. -/
def nextLine : Nat := if s.nva.line + 1 = 524288 then 0 else s.nva.line + 1

/-- Queueing a line changes the queue of weak lines alone. -/
theorem queueWeak_frame (l : Nat) : queueWeak s l = setNva s { s.nva with weak := (queueWeak s l).nva.weak } := by
  unfold queueWeak
  split <;> rfl

theorem mem_queueWeak {l : Nat} (h : s.nva.weak.length < 16) : l ∈ (queueWeak s l).nva.weak := by
  unfold queueWeak
  by_cases hin : s.nva.weak.contains l = true
  · rw [if_pos (by rw [hin, Bool.true_or])]
    exact List.contains_iff_mem.1 hin
  · rw [if_neg (by simp at hin; simp [hin]; omega)]
    exact List.mem_append_right _ (List.mem_singleton_self l)

theorem scrubQueued_frame (weak : Bool) : scrubQueued s weak = setNva s { s.nva with weak := (scrubQueued s weak).nva.weak } := by
  unfold scrubQueued
  split
  · exact queueWeak_frame s _
  · rfl

/-- A margin read goes on to the next line. -/
theorem marginRead_shape (weak : Bool) : (marginRead s weak).nva = { (scrubQueued s weak).nva with line := nextLine s }
    ∧ (marginRead s weak).nv = s.nv ∧ (marginRead s weak).mem = s.mem := by
  have hframe := scrubQueued_frame s weak
  have hread : marginRead s weak = if s.nva.line + 1 = 524288
      then satAdd (setNva (scrubQueued s weak) { (scrubQueued s weak).nva with line := 0 }) F.NVA_SCRUB_STAT_PASSES 1
      else setNva (scrubQueued s weak) { (scrubQueued s weak).nva with line := s.nva.line + 1 } := rfl
  have hnv : (scrubQueued s weak).nv = s.nv := by rw [hframe]; rfl
  have hmem : (scrubQueued s weak).mem = s.mem := by rw [hframe]; rfl
  rw [hread, nextLine]
  split <;> exact ⟨rfl, hnv, hmem⟩

end

section
variable {s : State} (hon : nvScrubOn s = true)
include hon

theorem exec_marginRead (weak : Bool) : ∀ i ∈ [Instr.nvScrubMarginRead weak, .nvScrubStarve false weak], exec i s = .next (marginRead s weak) := by
  intro i hi
  simp only [List.mem_cons, List.not_mem_nil, or_false] at hi
  rcases hi with rfl | rfl
  · exact if_pos hon
  · exact if_neg (by simp [hon])

theorem scrubReads_do (weak : Bool) : ∀ i ∈ [Instr.nvScrubMarginRead weak, .nvScrubStarve false weak], Does i s (fun t =>
    t.nva.line = nextLine s ∧ t.nv = s.nv ∧ t.mem = s.mem
    ∧ (weak = true → scrubLineOk s s.nva.line = true → s.nva.weak.length < 16 → s.nva.line ∈ t.nva.weak)
    ∧ (weak = false → t.nva.weak = s.nva.weak)) := by
  intro i hi
  obtain ⟨hnva, hnv, hmem⟩ := marginRead_shape s weak
  refine ⟨_, exec_marginRead hon weak i hi, by rw [hnva], hnv, hmem, ?_, ?_⟩
  · rintro rfl hok hroom
    have hqueued : scrubQueued s true = queueWeak s s.nva.line := if_pos (by rw [hok]; rfl)
    rw [hnva, hqueued]
    exact mem_queueWeak s hroom
  · rintro rfl
    rw [hnva]
    rfl

theorem exec_refreshLine (hrun : s.nva.run = none) :
    ∀ i ∈ [Instr.nvScrubRefresh, .nvScrubStarve true false], exec i s = .next (refreshLine s) := by
  intro i hi
  simp only [List.mem_cons, List.not_mem_nil, or_false] at hi
  rcases hi with rfl | rfl
  · exact if_pos ⟨hon, hrun⟩
  · exact (if_neg (by simp [hon])).trans (if_pos (Or.inl hrun))

theorem scrubRefreshes_do {l : Nat} {r : List Nat} (hweak : s.nva.weak = l :: r) (hrun : s.nva.run = none) :
    ∀ i ∈ [Instr.nvScrubRefresh, .nvScrubStarve true false], Does i s (fun t => t.nva.weak = r ∧ t.nv = s.nv
      ∧ getf t F.NVA_SCRUB_STAT_REFRESHED = min 255 (getf s F.NVA_SCRUB_STAT_REFRESHED + 1)) := by
  intro i hi
  refine ⟨_, exec_refreshLine hon hrun i hi, ?_⟩
  unfold refreshLine
  rw [hweak]
  exact ⟨rfl, rfl, getf_satAdd _ _ 1 (by decide)⟩

end

end Sys2Proof.Machine

/-! ### NVA_PROG, NVA_ERASE and NVA_READ (R222, R225), and O43 -/
namespace Sys2Proof.Machine

/-! #### The turn of an operation (R222) -/

section
variable {s : State} {o : Op} {tag code : Nat}

/-- An operation whose turn it is finds the engine IDLE and is in flight under its tag. -/
theorem nvTurn_found (h : nvTurn s tag code = some o) : s.nva.run = none ∧ o.tag = tag ∧ opcodeOf o = code ∧ ∃ x, opOf s o.tag = some x := by
  unfold nvTurn at h
  split at h
  · cases h
  · next hfree =>
    have hrun : s.nva.run = none := by
      rw [not_or, Option.not_isSome_iff_eq_none] at hfree
      exact hfree.1
    split at h
    · next q hq =>
      split at h
      · next hturn =>
        cases h
        obtain ⟨htag, hcode, -⟩ := hturn
        exact ⟨hrun, htag, hcode, Option.isSome_iff_exists.1 (List.find?_isSome.2 ⟨_, List.mem_of_find?_eq_some hq, by simp⟩)⟩
      · cases h
    · cases h

/-- A command that makes an operation in flight return, and does nothing else. -/
theorem ends_of_giveRet {x : Op} {i : Instr} {r : Ret} (hop : opOf s o.tag = some x) (hexec : exec i s = .next (giveRet s o r)) :
    EndsOp i s o r :=
  ⟨_, hexec, opOf_giveRet r hop, by unfold giveRet countOp; split <;> rfl⟩

/-- A unit that a check refuses ends its operation with the check's code, and the engine is left alone. -/
def UnitRefused (s : State) (tag e : Nat) (t : State) : Prop := retOf t tag = some ⟨nvStatus e, 0#32, w32 e⟩ ∧ t.nva = s.nva

theorem unitRefused_nvRet {x : Op} (hop : opOf s o.tag = some x) (e : Nat) : UnitRefused s o.tag e (nvRet (setOp s o) o 0 e) := by
  refine ⟨retOf_giveRet _ (opOf_setOp hop), ?_⟩
  unfold nvRet
  rw [giveRet_frame]
  rfl

/-- The checks of a unit do not look at the operations in flight. -/
theorem nvCheck_setOp (s : State) (o : Op) (code addr : Nat) : nvCheck (setOp s o) code addr = nvCheck s code addr :=
  nvCheck_congr rfl rfl rfl (fun _ _ => rfl) code addr

end

/-! #### NVA_PROG -/

section
variable {s : State} {o : Op} {tag : Nat} (hturn : nvTurn s tag 0x50 = some o)
include hturn

theorem nvaProg_range (h : ReadEnd) (hrange : 0x800000 < nvOff o + dLength o.words ∨ 65536 < nvOff o % 65536 + dLength o.words) :
    EndsOp (.nvaProg tag h) s o ⟨0x11, 0#32, 0#32⟩ := by
  obtain ⟨-, -, -, x, hop⟩ := nvTurn_found hturn
  refine ends_of_giveRet hop ?_
  show execNvaProg tag h s = _
  unfold execNvaProg
  rw [hturn]
  exact if_pos hrange

section
variable (hend : nvOff o + dLength o.words ≤ 0x800000) (hblock : nvOff o % 65536 + dLength o.words ≤ 65536)
include hend hblock

theorem nvaProg_misaligned (h : ReadEnd) (halign : nvOff o % 16 ≠ 0) : EndsOp (.nvaProg tag h) s o ⟨0x14, 0#32, 3#32⟩ := by
  obtain ⟨-, -, -, x, hop⟩ := nvTurn_found hturn
  refine ends_of_giveRet hop ?_
  show execNvaProg tag h s = _
  unfold execNvaProg
  rw [hturn]
  exact (if_neg (by omega)).trans (if_pos halign)

/-- The operation with its data from host memory. -/
def progFilled (o : Op) (d : List Byte) : Op := { o with started := true, buf := d }

theorem exec_nvaProg (halign : nvOff o % 16 = 0) (hhost : nvDspace o = false) {d : List Byte} (hlen : d.length = dLength o.words) :
    exec (.nvaProg tag (.ok d)) s = .next (nvNext (setOp s (progFilled o d)) (progFilled o d)) := by
  have hsource : sourceBytes s false (d64 o.words 4) (dLength o.words) (.ok d) = (d, none) := by
    unfold sourceBytes
    simp [← hlen]
  show execNvaProg tag (.ok d) s = _
  unfold execNvaProg
  rw [hturn]
  dsimp only
  rw [if_neg (by omega), if_neg (by omega), if_neg (by simp [hhost]), hhost, hsource]
  rfl

end
end

/-- The first unit of a program of `n` bytes at `a`: a whole page, or a line. -/
def firstUnit (a n : Nat) : Nat × Nat := if a % 256 = 0 ∧ 256 ≤ n then (2, 256) else (1, 16)

/-- The program of an operation's first unit. -/
def firstProgram (x : Op) : NvOp :=
  { code := (firstUnit (nvOff x) x.buf.length).1, addr := nvOff x, data := x.buf.take (firstUnit (nvOff x) x.buf.length).2, desc := some x.tag }

section
variable {s : State} {x : Op} (hcode : opcodeOf x = 0x50) (hprog : x.prog = 0) (hpos : 0 < x.buf.length)
include hprog

theorem progUnit_first : progUnit x = firstUnit (nvOff x) x.buf.length := by
  unfold progUnit
  rw [hprog]
  rfl

include hcode hpos

theorem nvNext_program_refused {e : Nat} (hcheck : nvCheck s (firstUnit (nvOff x) x.buf.length).1 (nvOff x) = some e) :
    nvNext s x = nvRet s x 0 e := by
  unfold nvNext
  rw [if_pos hcode, if_neg (by omega)]
  simp only [progUnit_first hprog, hprog, Nat.add_zero, hcheck]

theorem nvNext_program_begins (hcheck : nvCheck s (firstUnit (nvOff x) x.buf.length).1 (nvOff x) = none)
    (hline : lineErased s (nvOff x) = true) : nvNext s x = nvRun s (firstProgram x) := by
  unfold nvNext
  rw [if_pos hcode, if_neg (by omega)]
  simp only [progUnit_first hprog, hprog, Nat.add_zero, hcheck, hline]
  rfl

end

section
variable {s : State} {o : Op} {tag : Nat} (hturn : nvTurn s tag 0x50 = some o) (hprog : o.prog = 0)
  (hend : nvOff o + dLength o.words ≤ 0x800000) (hblock : nvOff o % 65536 + dLength o.words ≤ 65536)
  (halign : nvOff o % 16 = 0) (hpos : 0 < dLength o.words) (hhost : nvDspace o = false) {d : List Byte} (hlen : d.length = dLength o.words)
include hturn hprog hend hblock halign hpos hhost hlen

theorem nvaProg_refused {e : Nat} (hcheck : nvCheck s (firstUnit (nvOff o) (dLength o.words)).1 (nvOff o) = some e) :
    Does (.nvaProg tag (.ok d)) s (UnitRefused s tag e) := by
  obtain ⟨-, rfl, hcode, y, hop⟩ := nvTurn_found hturn
  rw [← hlen, ← nvCheck_setOp s (progFilled o d)] at hcheck
  refine ⟨_, exec_nvaProg hturn hend hblock halign hhost hlen, ?_⟩
  rw [nvNext_program_refused (x := progFilled o d) hcode hprog (hlen ▸ hpos) hcheck]
  exact unitRefused_nvRet (o := progFilled o d) hop e

theorem nvaProg_begins (hcheck : nvCheck s (firstUnit (nvOff o) (dLength o.words)).1 (nvOff o) = none)
    (hline : lineErased s (nvOff o) = true) : Does (.nvaProg tag (.ok d)) s (fun t =>
      t.nva.run = some { code := (firstUnit (nvOff o) (dLength o.words)).1, addr := nvOff o,
                         data := d.take (firstUnit (nvOff o) (dLength o.words)).2, desc := some tag }
      ∧ isSet t F.NVA_STAT_BUSY = true ∧ t.nv = s.nv) := by
  obtain ⟨hrun, rfl, hcode, y, hop⟩ := nvTurn_found hturn
  rw [← hlen] at hcheck ⊢
  refine ⟨nvRun (setOp s (progFilled o d)) (firstProgram (progFilled o d)), ?_, ?_, ?_, (nvRun_made (Nat.or_self _) _ _ (.refl ..)).nv rfl⟩
  · rw [exec_nvaProg hturn hend hblock halign hhost hlen,
      nvNext_program_begins (x := progFilled o d) hcode hprog (hlen ▸ hpos) ((nvCheck_setOp ..).trans hcheck) hline]
  · rw [nvRun_eq]
    exact Nva.begin_run ..
  · rw [nvRun_eq, isSet_nvEngine_busy, Nva.begin_run]
    rfl

end

/-! #### NVA_ERASE -/

section
variable {s : State} {o : Op} {tag : Nat} (hturn : nvTurn s tag 0x51 = some o)
include hturn

/-- The opcode of an erase's units: blocks or sectors (Table 8-9). -/
def eraseCode (o : Op) : Nat := if opFld o 7 1 1 = 1 then 4 else 3

omit hturn in
theorem nvUnit_eraseCode (o : Op) : nvUnit (eraseCode o) = if opFld o 7 1 1 = 1 then 65536 else 4096 := by
  unfold eraseCode
  split <;> rfl

theorem nvaErase_misaligned (halign : nvOff o % nvUnit (eraseCode o) ≠ 0) : EndsOp (.nvaErase tag) s o ⟨0x14, 0#32, 3#32⟩ := by
  obtain ⟨-, -, -, x, hop⟩ := nvTurn_found hturn
  refine ends_of_giveRet hop ?_
  show execNvaErase tag s = _
  unfold execNvaErase
  rw [hturn]
  dsimp only
  rw [← nvUnit_eraseCode]
  exact if_pos halign

section
variable (halign : nvOff o % nvUnit (eraseCode o) = 0)
include halign

theorem nvaErase_range (hrange : 0x800000 < nvOff o + nvUnit (eraseCode o) * dLength o.words) :
    EndsOp (.nvaErase tag) s o ⟨0x11, 0#32, 0#32⟩ := by
  obtain ⟨-, -, -, x, hop⟩ := nvTurn_found hturn
  refine ends_of_giveRet hop ?_
  show execNvaErase tag s = _
  unfold execNvaErase
  rw [hturn]
  dsimp only
  rw [← nvUnit_eraseCode, if_neg (by simp [halign])]
  exact if_pos hrange

theorem exec_nvaErase (hend : nvOff o + nvUnit (eraseCode o) * dLength o.words ≤ 0x800000) :
    exec (.nvaErase tag) s = .next (nvNext (setOp s { o with started := true }) { o with started := true }) := by
  show execNvaErase tag s = _
  unfold execNvaErase
  rw [hturn]
  dsimp only
  rw [← nvUnit_eraseCode, if_neg (by simp [halign]), if_neg (by omega)]

end
end

section
variable {s : State} {x : Op} (hcode : opcodeOf x = 0x51) (hprog : x.prog = 0) (hpos : 0 < dLength x.words)
include hcode hprog hpos

theorem nvNext_erase_refused {e : Nat} (hcheck : nvCheck s (eraseCode x) (nvOff x) = some e) : nvNext s x = nvRet s x 0 e := by
  unfold nvNext
  rw [if_neg (by rw [hcode]; decide)]
  dsimp only
  rw [if_neg (by omega), ← eraseCode]
  simp only [hprog, Nat.zero_mul, Nat.add_zero, hcheck]

/-- A worn block is noted for the operation's status (R218). -/
def wornMarked (s : State) (x : Op) : Op := { x with note := x.note || decide (1000000 ≤ getf s (F.NVA_ECNT_COUNT (nvOff x / 65536))) }

theorem nvNext_erase_begins (hcheck : nvCheck s (eraseCode x) (nvOff x) = none) :
    nvNext s x = beginNvErase (setOp s (wornMarked s x)) { code := eraseCode x, addr := nvOff x, desc := some x.tag } := by
  unfold nvNext
  rw [if_neg (by rw [hcode]; decide)]
  dsimp only
  rw [if_neg (by omega), ← eraseCode, show nvOff x + x.prog * nvUnit (eraseCode x) = nvOff x by rw [hprog, Nat.zero_mul, Nat.add_zero], hcheck]
  rfl

end

section
variable {s : State} {o : Op} {tag : Nat} (hturn : nvTurn s tag 0x51 = some o) (hprog : o.prog = 0)
  (halign : nvOff o % nvUnit (eraseCode o) = 0) (hend : nvOff o + nvUnit (eraseCode o) * dLength o.words ≤ 0x800000) (hpos : 0 < dLength o.words)
include hturn hprog halign hend hpos

theorem nvaErase_refused {e : Nat} (hcheck : nvCheck s (eraseCode o) (nvOff o) = some e) : Does (.nvaErase tag) s (UnitRefused s tag e) := by
  obtain ⟨-, rfl, hcode, y, hop⟩ := nvTurn_found hturn
  refine ⟨_, exec_nvaErase hturn halign hend, ?_⟩
  rw [nvNext_erase_refused (x := { o with started := true }) hcode hprog hpos ((nvCheck_setOp ..).trans hcheck)]
  exact unitRefused_nvRet (o := { o with started := true }) hop e

theorem nvaErase_begins (hcheck : nvCheck s (eraseCode o) (nvOff o) = none) : Does (.nvaErase tag) s (fun t =>
    t.nva.run = some { code := eraseCode o, addr := nvOff o, desc := some tag } ∧ isSet t F.NVA_STAT_BUSY = true
    ∧ getf t (F.NVA_ECNT_COUNT (nvOff o / 65536)) = min (2 ^ 32 - 1) (getf s (F.NVA_ECNT_COUNT (nvOff o / 65536)) + 1)) := by
  obtain ⟨hrun, rfl, hcode, y, hop⟩ := nvTurn_found hturn
  refine ⟨_, exec_nvaErase hturn halign hend, ?_⟩
  rw [nvNext_erase_begins (x := { o with started := true }) hcode hprog hpos ((nvCheck_setOp ..).trans hcheck)]
  refine ⟨?_, ?_, (beginNvErase_begun _ _).2.1⟩
  · rw [beginNvErase_eq, nvRun_eq]
    exact Nva.begin_run ..
  · rw [beginNvErase_eq, nvRun_eq, isSet_nvEngine_busy, Nva.begin_run]
    rfl

end

/-! #### NVA_READ -/

/-- The notes of a read change registers of the array's block alone. -/
theorem noteNvRead_frame (s : State) (m a n : Nat) : noteNvRead s m a n = { s with regs := (noteNvRead s m a n).regs } := by
  unfold noteNvRead
  dsimp only
  split <;> split <;> rfl

theorem noteNvRead_rd (s : State) (m a n : Nat) {r : Nat} (hb : blockOf r < 32) (h : blockOf r ≠ 5) : rd (noteNvRead s m a n) r = rd s r := by
  refine (noteNvRead_made (Nat.or_self _) s m a n (.refl ..)).blk r ?_
  generalize blockOf r = b at hb h
  revert b
  decide

section
variable (s : State) (m a n : Nat)

theorem noteNvRead_away (d : Nat) : away (noteNvRead s m a n) d = away s d := by
  have hdom : dom (noteNvRead s m a n) d = dom s d := by rw [noteNvRead_frame]; rfl
  unfold away fenced inReset
  rw [noteNvRead_rd s m a n (by decide) (by decide), noteNvRead_rd s m a n (by decide) (by decide), hdom]

theorem noteNvRead_bankErr (k : Nat) : bankErr (noteNvRead s m a n) k = bankErr s k := by
  have hbank : bank (noteNvRead s m a n) k = bank s k := by rw [noteNvRead_frame]; rfl
  unfold bankErr
  rw [hbank, noteNvRead_away]

theorem noteNvRead_isMember : isMember (noteNvRead s m a n) = isMember s := by
  unfold isMember
  rw [getf_congr (noteNvRead_rd s m a n (by decide) (by decide))]

theorem noteNvRead_hostReach : hostReach (noteNvRead s m a n) = hostReach s := by
  have henu : (noteNvRead s m a n).enu = s.enu := by rw [noteNvRead_frame]
  have hflag {f : Fld} (hf : blockOf f.reg < 32 ∧ blockOf f.reg ≠ 5) : isSet (noteNvRead s m a n) f = isSet s f :=
    isSet_congr (noteNvRead_rd s m a n hf.1 hf.2)
  unfold hostReach hostUp
  rw [henu, noteNvRead_isMember, hflag (by decide), hflag (by decide), hflag (by decide), hflag (by decide)]

variable {s}

theorem noteNvRead_bankWritable {b k : Nat} (h : bankWritable s b k) : bankWritable (noteNvRead s m a n) b k := by
  obtain ⟨hend, hserved⟩ := h
  refine ⟨hend, fun i hi => ?_⟩
  rw [accessErr_plain (by omega), noteNvRead_bankErr, ← accessErr_plain (by omega)]
  exact hserved i hi

/-- A read that met execute-only lines raises XO (R211). -/
theorem noteNvRead_xo {l : Nat} {r : List Nat} (h : xoLines s a n = l :: r) : isSet (noteNvRead s m a n) F.NVA_EVT_XO = true := by
  have hlast : (xoLines s a n).getLast? = some ((l :: r).getLast (List.cons_ne_nil l r)) := by rw [h]; exact List.getLast?_eq_some_getLast _
  have hset (k : Nat) : isSet (setf (setf (satAdd (raise s F.NVA_EVT_XO) F.NVA_EVT_CNT_XO_COUNT k) F.NVA_XO_LAST_OFFSET
      (16 * (l :: r).getLast (List.cons_ne_nil l r))) F.NVA_XO_LAST_MASTER m) F.NVA_EVT_XO = true := by
    rw [isSet_setf_apart (by decide), isSet_setf_apart (by decide)]
    exact (isSet_setf_apart (by decide)).trans (isSet_raise s _ rfl (by decide))
  unfold noteNvRead
  dsimp only
  rw [hlast]
  dsimp only
  split
  · exact (isSet_setf_apart (by decide)).trans (hset _)
  · exact hset _

end

theorem noRegDue_giveRet {s : State} (o : Op) (r : Ret) (h : noRegDue s) : noRegDue (giveRet s o r) := by
  rw [giveRet_frame]
  exact h

theorem memByte_giveRet (s : State) (o : Op) (r : Ret) (x : Nat) : memByte (giveRet s o r) x = memByte s x := by
  rw [giveRet_frame]
  rfl

/-- An output that no pin group under test carries is added to the outputs. -/
theorem emit_plain (s : State) {x : Out} (h : (tapOwns s && covered x) = false) : emit s x = { s with out := s.out ++ [x] } := by
  simp [emit, h]

/-- NVA_READ that its target takes up ends with the mover's register writes, of which none are due. -/
theorem exec_nvaRead {s t : State} {o : Op} (htake : takeNvaRead o.tag [] none s = .next t) (ht : noRegDue t) : exec (.nvaRead o.tag [] none) s = .next t := by
  have hexec : exec (.nvaRead o.tag [] none) s = .next (moverStores (nextOf s (takeNvaRead o.tag [] none s))) := rfl
  rw [hexec, htake]
  exact congrArg _ (moverStores_of_none ht)

section
variable {s : State} {o : Op} (hop : opOf s o.tag = some o) (hcode : opcodeOf o = 0x52) (hfwd : o.fwd = false) (hret : o.ret = none)
  (haway : away s 9 = false) (hdue : noRegDue s)
include hop hcode hfwd hret haway hdue

theorem nvaRead_range (hrange : 0x800000 < nvOff o + dLength o.words) : EndsOp (.nvaRead o.tag [] none) s o ⟨0x11, 0#32, 0#32⟩ := by
  refine ends_of_giveRet hop (exec_nvaRead ?_ ?_)
  · unfold takeNvaRead
    rw [hop]
    exact (if_neg (by simp [hcode, hfwd, hret, haway])).trans (if_pos hrange)
  · exact noRegDue_giveRet _ _ hdue

/-- The offset of the first execute-only line of a read, for its operation's record. -/
def xoDetail : List Nat → W32
  | [] => 0#32
  | l :: _ => w32 (16 * l)

/-- The bytes that a read of the array delivers. -/
def readDelivered (s : State) (a n : Nat) : List Byte := (List.range n).map (fun i => nvRead s (a + i))

omit hop hcode hfwd hret haway hdue in
theorem length_readDelivered (s : State) (a n : Nat) : (readDelivered s a n).length = n := by simp [readDelivered]

variable (hend : nvOff o + dLength o.words ≤ 0x800000) (hwaits : (nvLines (nvOff o) (dLength o.words)).find? (nvWaits s) = none)
include hend hwaits

omit hdue in
/-- A read whose lines are all served and whose destination takes its bytes. -/
theorem takeNvaRead_served {w : State} {k : Nat} (hput : moverPut (noteNvRead s 0 (nvOff o) (dLength o.words)) o.ctx (nvDspace o) (d64 o.words 4)
      (readDelivered s (nvOff o) (dLength o.words)) = (w, k, none)) : takeNvaRead o.tag [] none s
    = .next (giveRet w o ⟨if xoLines s (nvOff o) (dLength o.words) = [] then 0 else 0x22, w32 k, xoDetail (xoLines s (nvOff o) (dLength o.words))⟩) := by
  unfold readDelivered at hput
  unfold takeNvaRead
  rw [hop]
  dsimp only
  rw [if_neg (by simp [hcode, hfwd, hret, haway]), if_neg (by omega), hwaits]
  simp only [Nat.add_sub_cancel_left, List.filter_nil, List.foldl_nil, lt_irrefl, if_false, hput]
  cases xoLines s (nvOff o) (dLength o.words) <;> rfl

theorem nvaRead_toBanks (hxo : xoLines s (nvOff o) (dLength o.words) = []) (hspace : nvDspace o = true)
    (hdst : bankWritable s (d64 o.words 4) (dLength o.words)) : Does (.nvaRead o.tag [] none) s (fun t =>
      BankHas s t (d64 o.words 4) (readDelivered s (nvOff o) (dLength o.words)) ∧ retOf t o.tag = some ⟨0, w32 (dLength o.words), 0#32⟩) := by
  have hnoted := noteNvRead_frame s 0 (nvOff o) (dLength o.words)
  have hput := moverPut_bank (bs := readDelivered s (nvOff o) (dLength o.words)) o.ctx
    (noteNvRead_bankWritable 0 (nvOff o) (dLength o.words) (by rwa [length_readDelivered]))
  have htake := takeNvaRead_served hop hcode hfwd hret haway hend hwaits (by rw [hspace]; exact hput)
  rw [length_readDelivered, hxo] at htake
  generalize noteNvRead s 0 (nvOff o) (dLength o.words) = u at hnoted hput htake
  have hframe := putBytes_frame u (d64 o.words 4) (readDelivered s (nvOff o) (dLength o.words))
  have hops : (putBytes u (d64 o.words 4) (readDelivered s (nvOff o) (dLength o.words))).ops = s.ops := by rw [hframe, hnoted]
  refine ⟨_, exec_nvaRead htake (noRegDue_giveRet _ _ ?_), fun b => ?_, retOf_giveRet _ ((opOf_congr hops o.tag).trans hop)⟩
  · rw [hframe, hnoted]
    exact hdue
  · rw [memByte_giveRet, memByte_putBytes, memByte_congr (s := s) (by rw [hnoted]) (by rw [hnoted])]

theorem nvaRead_toHost {l : Nat} {r : List Nat} (hxo : xoLines s (nvOff o) (dLength o.words) = l :: r) (hspace : nvDspace o = false)
    (hreach : hostReach s = true) (hmember : isMember s = false) : Does (.nvaRead o.tag [] none) s (fun t =>
      .hostWrite (d64 o.words 4) (readDelivered s (nvOff o) (dLength o.words)) ∈ t.out ∧ isSet t F.NVA_EVT_XO = true
      ∧ retOf t o.tag = some ⟨0x22, w32 (dLength o.words), w32 (16 * l)⟩) := by
  have hset := noteNvRead_xo 0 (nvOff o) (dLength o.words) hxo
  have hput : moverPut (noteNvRead s 0 (nvOff o) (dLength o.words)) o.ctx (nvDspace o) (d64 o.words 4) (readDelivered s (nvOff o) (dLength o.words))
      = (emit (noteNvRead s 0 (nvOff o) (dLength o.words)) (.hostWrite (d64 o.words 4) (readDelivered s (nvOff o) (dLength o.words))),
          dLength o.words, none) := by
    unfold moverPut hostPut
    simp [hspace, noteNvRead_hostReach, hreach, noteNvRead_isMember, hmember, length_readDelivered]
  have htake := takeNvaRead_served hop hcode hfwd hret haway hend hwaits hput
  rw [hxo, if_neg (by simp), emit_plain _ (by simp [covered])] at htake
  have hnoted := noteNvRead_frame s 0 (nvOff o) (dLength o.words)
  generalize noteNvRead s 0 (nvOff o) (dLength o.words) = u at hset hnoted htake
  refine ⟨_, exec_nvaRead htake (noRegDue_giveRet _ _ ?_), ?_, ?_, retOf_giveRet _ ((opOf_congr (congrArg State.ops hnoted) o.tag).trans hop)⟩
  · rw [hnoted]
    exact hdue
  · rw [giveRet_frame]
    exact List.mem_append_right _ (List.mem_singleton_self _)
  · rw [giveRet_frame]
    exact hset

end

/-- Settles O43: each command's own lemma. -/
theorem nvaEngineWork : Obligations.NvaEngineWork := by
  unfold Obligations.NvaEngineWork
  intro s
  refine ⟨fun x hrun hbelow => ⟨fun hlatch => ⟨pageLatch_takes hrun hlatch, fun e herr => ?_⟩, fun hsusp hdesc => ⟨?_, fun hcode => ?_⟩,
      fun cut => nvaSuspendEffect_does hrun hbelow cut, nvaAutoResume_does hrun hbelow⟩,
    fun m l haway hm => ⟨nvLineRead_good haway hm l, nvLineRead_bad haway hm l, fun x => nvLineRead_asks haway l⟩,
    fun hon => ⟨scrubReads_do hon, fun l r => scrubRefreshes_do hon⟩,
    fun tag o h hturn hprog => ⟨nvaProg_range hturn h, fun hend hblock => ⟨nvaProg_misaligned hturn hend hblock h, ?_⟩⟩,
    fun tag o hturn hprog => ⟨nvaErase_misaligned hturn, fun halign => ⟨nvaErase_range hturn halign, fun hend hpos =>
      ⟨fun e => nvaErase_refused hturn hprog halign hend hpos, nvaErase_begins hturn hprog halign hend hpos⟩⟩⟩,
    fun tag o hop hcode hfwd hret haway hdue => ?_⟩
  · obtain ⟨t, hexec, ⟨hfree, hdone, hbusy, herr⟩, hnv⟩ := pageLatch_fails hrun hlatch hbelow herr
    exact ⟨t, hexec, hfree, herr, hdone, hbusy, hnv⟩
  · exact fun hcode hlatch hlen herased => ⟨nvaProgramDone_good hrun hsusp hdesc hcode hlatch hlen herased hbelow,
      nvaProgramDone_bad hrun hsusp hdesc hcode hlatch hlen herased hbelow⟩
  · exact ⟨nvaErasePulse_does hrun hsusp hcode, nvaEraseDone_good hrun hbelow hsusp hdesc hcode, nvaEraseDone_bad hrun hbelow hsusp hdesc hcode⟩
  · rintro halign hpos hhost d rfl hlen
    exact ⟨fun e => nvaProg_refused hturn hprog hend hblock halign hpos hhost hlen,
      nvaProg_begins hturn hprog hend hblock halign hpos hhost hlen⟩
  · obtain rfl : o.tag = tag := by simpa using List.find?_some (p := fun q : Op => q.tag == tag) hop
    exact ⟨nvaRead_range hop hcode hfwd hret haway hdue, fun hend hwaits => ⟨nvaRead_toBanks hop hcode hfwd hret haway hdue hend hwaits,
      fun l r => nvaRead_toHost hop hcode hfwd hret haway hdue hend hwaits⟩⟩

end Sys2Proof.Machine
